-- ==== Sys2Proof/Word.lean ====
section
/-! DEFINITION. The words the manual computes with: 32-bit registers, 64-byte lines, byte masks, and the plainest
arithmetic over them. -/

namespace Sys2Proof

/-- One 32-bit register (Conventions of 00_scope). -/
abbrev Word := BitVec 32

/-- The 64 data bytes of a line; byte b is bits [8b+7:8b]. -/
abbrev LineData := BitVec 512

/-- A byte mask over a line: bit b stands for byte b (Table 7-2). -/
abbrev Mask := BitVec 64

/-- Little-endian bytes of a value, `n` of them. -/
def leBytes : Nat → Nat → List Nat
  | 0, _ => []
  | n + 1, v => (v % 256) :: leBytes n (v / 256)

/-- Saturating 32-bit increment (every 32-bit counter of the register map). -/
def sat32 (n : Nat) : Nat := min n 0xFFFFFFFF

end Sys2Proof
end

