-- ==== Sys2Proof/Syntax.lean ====
section
/-! DEFINITION. The commands of the GN8064: one constructor of `Instr` for each row of spec/opcode_table.json, with
the operands the outside gives it (what a host or the board sends, what a sensor or the medium answers). -/

namespace Sys2Proof

/-- Three samples of one strap, 100 µs apart (R383). -/
structure Samples where
  a : Bool
  b : Bool
  c : Bool
  deriving DecidableEq, Repr

/-- The value found in two of the three samples (R383). -/
def Samples.value (x : Samples) : Bool := (x.a && x.b) || (x.a && x.c) || (x.b && x.c)

/-- What the JESD251 table of the boot flash reports (R277). -/
structure FlashReport where
  octalDdr : Bool
  erase4k : Bool
  page256 : Bool
  deriving DecidableEq, Repr

/-- Which PMICs answered STATUS_WORD, as `PWR_PRESENT` numbers them, and whether all report linear mode (R247). -/
structure PmicReport where
  aPri : BitVec 8
  aSec : BitVec 8
  bPri : BitVec 4
  bSec : BitVec 4
  linear : Bool
  deriving DecidableEq, Repr

/-- What the PMICs of one rail answer to a poll (R248, R251, R253): READ_VOUT of the primary and of the secondary in
mV, READ_IOUT of the pair in 10 mA, STATUS_WORD of each, and how many tries of the transaction failed in a row.
(DESIGN CHOICE, log entry 5). -/
structure RailPoll where
  rail : Nat
  vout : Nat
  vout2 : Nat
  iout : Nat
  status : BitVec 16
  status2 : BitVec 16
  failedTries : Nat
  deriving DecidableEq, Repr

/-- MetaValue of a request or response (R182); `none` is MetaField No-Op. -/
inductive MetaValue where
  | none | i | s | a
  deriving DecidableEq, Repr

/-- Snoop type of a request (R182). -/
inductive SnpType where
  | none | snpData | snpInv | snpCur
  deriving DecidableEq, Repr

/-- An M2S message as it enters a port (Table 3-2); `d` is the LD DPA that the HDM decoder produced (R50), `t` the time
into the stroke, in CCLK, at which the last symbol of its flit is in (R7). -/
structure M2S where
  port : Nat
  link : Nat
  ld : Nat
  d : Nat
  tag : Nat
  mval : MetaValue
  snp : SnpType
  t : Nat
  deriving DecidableEq, Repr

/-- A lane of an ingress queue (R65). -/
inductive Lane where
  | read | write
  deriving DecidableEq, Repr

/-- A host's answer to a BISnp (R183). -/
inductive BiAnswer where
  | i | s
  deriving DecidableEq, Repr

/-- An error pattern laid over one 64 B HBM or SRAM line when it is read: inverted data bits and inverted check bits
(R195 to R199). -/
structure HbmErr where
  data : LineData
  check : BitVec 64
  deriving DecidableEq, Repr

/-- The errors met on one media read: bit errors of the linear field, bit errors of the meta field (R82). -/
structure MediaErr where
  linear : Nat
  metaBits : Nat
  deriving DecidableEq, Repr

/-- Whether the metadata of an integrity-protected line checks, and at which level it fails (R230, R338). -/
inductive IntegCheck where
  | ok | failAt (level : Nat)
  deriving DecidableEq, Repr

/-- The mailbox or MCTP endpoint a command came by (R59, R328). `fm` is the mailbox of the FM-owned LD. -/
inductive PathKind where
  | primary | secondary | fm | mctp
  deriving DecidableEq, Repr

/-- A command's path: its kind, port, LD-ID (for `mctp` the endpoint) and, on MCTP, the message tag (R331). -/
structure CmdPath where
  kind : PathKind
  port : Nat
  ld : Nat
  tag : Nat
  deriving DecidableEq, Repr

/-- One region binding of a session entry, in 256 MiB units (Table 3-3). -/
structure Binding where
  valid : Bool
  db : Bool
  devBase : Nat
  size : Nat
  ldBase : Nat
  deriving DecidableEq, Repr

/-- The parameters that the entry words of SESSION CREATE carry (bytes 0x00 to 0x2F of Table 3-3). -/
structure SessWords where
  port : Nat
  kind : Nat
  id : Nat
  qos : Nat
  range : Nat
  readAllow : Nat
  writeAllow : Nat
  inflightLimit : Nat
  cohDomain : Nat
  tOpt : Nat
  tMod : Nat
  tSev : Nat
  binds : List Binding
  deriving DecidableEq, Repr

/-- The new values of SESSION MODIFY (Table 3-4). -/
structure SessModify where
  readAllow : Nat
  writeAllow : Nat
  inflightLimit : Nat
  qos : Nat
  tOpt : Nat
  tMod : Nat
  tSev : Nat
  deriving DecidableEq, Repr

/-- A bank of the medium: channel, die, bank (R79). -/
structure BankId where
  chan : Nat
  die : Nat
  bank : Nat
  deriving DecidableEq, Repr

/-- The fields of a READ STATUS line (Table 5-7). -/
structure StatusLine where
  dies : Nat
  faultMask : BitVec 4
  temps : BitVec 32
  serial : BitVec 64
  revision : Nat
  causes : BitVec 6
  failDie : Nat
  failBank : Nat
  failRow : Nat
  failOpcode : Nat
  banksLoaded : BitVec 2
  deriving DecidableEq, Repr

/-- What the training of one channel ends with (Table 5-8). -/
structure TrainResult where
  chan : Nat
  answered : Bool
  values : BitVec 32
  dies : Nat
  serial : BitVec 64
  revision : Nat
  deriving DecidableEq, Repr

/-- The errors the patrol meets in one line of the page it visits (R204, R205). -/
structure LineErr where
  line : Nat
  first : MediaErr
  retry : MediaErr
  recon : MediaErr
  deriving DecidableEq, Repr

/-- The checks of an image read back from its slot (Table 15-8), with the header fields they concern. -/
structure ImageReport where
  /-- the first failing check as the extended status of Table 15-1; 0: every check passes -/
  fault : Nat
  compact : Bool
  imageClass : BitVec 16
  dieTypes : List Nat
  version : Nat
  length : Nat
  /-- T_AGE of the image's drift tables, in strokes (R99) -/
  tAge : Nat
  /-- array read time and suspend latency, in ns (R29) -/
  arrayRead : Nat
  suspend : Nat
  deriving DecidableEq, Repr

/-- A key, a signature and a digest are carried as names: a signature is the name of the key it verifies under. -/
abbrev KeyName := Nat

/-- The arguments of a motion (Table 10-5). -/
inductive MotionArgs where
  | officerSet (keys : List KeyName)
  | rangeDefine (range : Nat) (integ erase imported : Bool) (base size : Nat) (blob : Option KeyName)
  | rangeDelete (range : Nat) (erase : Bool)
  | rekey (range : Nat) (integ imported : Bool) (blob : Option KeyName)
  | bind (port kind id range : Nat)
  | unbind (port kind id : Nat)
  | anchor (digest : Nat)
  | factoryUnlock (serial challenge : BitVec 64) (tokenGood : Bool)
  | eraseAuth (what : Nat)
  deriving DecidableEq, Repr

/-- A motion (Table 10-4). `signer` names the key its signature verifies under. -/
structure Motion where
  version : Nat
  officer : Nat
  reservedZero : Bool
  serial : BitVec 64
  nonce : BitVec 64
  args : MotionArgs
  signer : Option KeyName
  deriving DecidableEq, Repr

/-- A second (Table 10-4). The digest is carried as the motion it names. -/
structure Second where
  motion : Motion
  officer : Nat
  reservedZero : Bool
  serial : BitVec 64
  signer : Option KeyName
  deriving DecidableEq, Repr

/-- Direction of an IDE key set (R243). -/
inductive IdeDir where
  | rx | tx
  deriving DecidableEq, Repr

/-- A beacon's payload with the manager's position (Table 14-3). -/
structure Beacon where
  pos : Nat
  shelfTime : BitVec 64
  configEpoch : BitVec 64
  imageClass : BitVec 16
  mgrBoot : Nat
  wallNs : Nat
  wallStroke : BitVec 64
  members : BitVec 32
  actSeq : Nat
  actStroke : Nat
  actDecision : Nat
  deriving DecidableEq, Repr

/-- A status frame's payload with the sender's position (Table 14-4). -/
structure Status where
  pos : Nat
  seqState : Nat
  timeState : Nat
  recovery : Bool
  slotWait : Bool
  detune : BitVec 8
  imageClass : BitVec 16
  configEpoch : BitVec 64
  phaseErr : Int
  ackSeq : Nat
  ackResult : Nat
  pointSeq : Nat
  pointResult : Nat
  act : Nat
  deriving DecidableEq, Repr

/-- One member entry of an interleave record (Table 14-8). -/
structure IlvMember where
  pos : Nat
  port : Nat
  valid : Bool
  ld : Nat
  way : Nat
  deriving DecidableEq, Repr

/-- An interleave record (Table 14-8). -/
structure IlvRecord where
  setId : Nat
  ways : Nat
  gran : Nat
  hpaBase : Nat
  size : Nat
  members : List IlvMember
  deriving DecidableEq, Repr

/-- The header of a shelf-link command frame: position addressed, broadcast flag, SEQ (Table 14-2). -/
structure Frame where
  pos : Nat
  bcast : Bool
  seq : Nat
  deriving DecidableEq, Repr

/-- A reason a received shelf-link frame is discarded, or its unknown type (R306). -/
inductive FrameFault where
  | badCrc | badLen | reservedBit
  | unknownType (f : Frame) (type : Nat)
  deriving DecidableEq, Repr

/-- Why a scrub or scan run ends (Table 9-5). -/
inductive ScrubEnd where
  | complete | capo | reset
  deriving DecidableEq, Repr

/-- Where a BAR2 or BAR0 write goes (R366 to R372). -/
inductive RegSpace where
  | bar2 (offset : Nat)
  | decoder (port ld index : Nat) (commit : Bool) (hpaBase size ways gran : Nat)
  | config (port offset : Nat)
  | bar0 (port offset : Nat)
  deriving DecidableEq, Repr

/-- Settings of Set Alert Configuration (R212): a threshold is off when `none`. -/
structure AlertCfg where
  life : Option Nat
  overTemp : Option Int
  underTemp : Option Int
  corrVol : Option Nat
  corrPers : Option Nat
  deriving DecidableEq, Repr

/-- A run of dynamic-capacity blocks of 256 MiB (R51). -/
structure Extent where
  base : Nat
  len : Nat
  deriving DecidableEq, Repr

/-- The operation of a boot-flash image slot that ends (R345, R347, R269). -/
inductive FlashEnd where
  | transferWrite (readbackOk : Bool) (blockCheck : Nat)
  | activationRead (r : ImageReport)
  | copyProgram (ok : Bool)
  | tableChunk (chan : Nat)
  deriving DecidableEq, Repr

/-- The commands, in the order of spec/opcode_table.json, but for nine without operands that stand last: compiled Lean holds
the number of a constructor with operands only up to 244. -/
inductive Instr where
  /-- AUX_APPLY (R379). -/
  | auxApply (role : Samples) (posA posB posC : BitVec 5) (pfHigh : Bool) (flash : FlashReport)
  /-- AUX_REMOVE (R379). -/
  | auxRemove
  /-- PWRFAIL_N_QUALIFY (R254). -/
  | pwrfailNQualify (samples : List Bool)
  /-- PWRFAIL_N_GLITCH (R254). -/
  | pwrfailNGlitch (samples : List Bool)
  /-- PWRFAIL_N_HIGH_100MS (R250). -/
  | pwrfailNHigh100ms (testEn : Samples)
  /-- POWER_UP_PACKAGE (R251). -/
  | powerUpPackage (testEn : Samples) (pmics : PmicReport)
  /-- RAIL_TURN_ON (R251). -/
  | railTurnOn (precheck : RailPoll)
  /-- RAMP_POLL (R251). -/
  | rampPoll (poll : RailPoll) (bootSel : Samples)
  /-- RAIL_RAMP_LIMIT (R251). -/
  | railRampLimit
  /-- POWER_UP_MEDIA (R251). -/
  | powerUpMedia
  /-- SERVICE_POLL (R253). -/
  | servicePoll (polls : List RailPoll)
  /-- DECAY_POLL (R256). -/
  | decayPoll (polls : List RailPoll)
  /-- DECAY_LIMIT_EXPIRY (R256). -/
  | decayLimitExpiry (flashAnswers : Bool)
  /-- OFF_HOLD_EXPIRY (R259). -/
  | offHoldExpiry (testEn : Samples)
  /-- THERMTRIP (R262). -/
  | thermtrip (tempC : Nat)
  /-- CAPO_FLUSH_COMPLETE (R163). -/
  | capoFlushComplete (flushUs : Nat)
  /-- CAPO_SAVE_COMPLETE (R163). -/
  | capoSaveComplete (pfHigh : Bool) (chronicleRoom : Nat)
  /-- WARM_RESUMPTION (R166). -/
  | warmResumption
  /-- STROKE_BOUNDARY (R23). -/
  | strokeBoundary
  /-- PLAN_LOCK (R29). -/
  | planLock
  /-- SYNC_EPOCH_BOUNDARY (R24). -/
  | syncEpochBoundary
  /-- PROGRAM_RESUME (R28). -/
  | programResume (bank : BankId)
  /-- READ_REACH_SCHEDULER (R30). -/
  | readReachScheduler (rid t : Nat) (class4 : Bool)
  /-- SCHED_CNT_CLR (R42). -/
  | schedCntClr (v : Word)
  /-- SCHED_STROKE_LO_READ (R42). -/
  | schedStrokeLoRead
  /-- MEM_RD (R45). -/
  | memRd (m : M2S)
  /-- MEM_RD_DATA (R45). -/
  | memRdData (m : M2S)
  /-- MEM_INV (R45). -/
  | memInv (m : M2S)
  /-- MEM_INV_NT (R45). -/
  | memInvNt (m : M2S)
  /-- MEM_CLN_EVCT (R45). -/
  | memClnEvct (m : M2S)
  /-- MEM_SPEC_RD (R45). -/
  | memSpecRd (m : M2S) (class4 : Bool)
  /-- MEM_WR (R45). -/
  | memWr (m : M2S) (data : LineData) (poison : Bool)
  /-- MEM_WR_PTL (R45). -/
  | memWrPtl (m : M2S) (data : LineData) (be : Mask) (poison : Bool)
  /-- BI_CONFLICT (R189). -/
  | biConflict (m : M2S)
  /-- BI_RSP (R183). -/
  | biRsp (port link sess line : Nat) (answer : BiAnswer)
  /-- IDE_INTEGRITY_FAILURE (R47). -/
  | ideIntegrityFailure (port link : Nat)
  /-- LINK_DOWN (R48). -/
  | linkDown (port link : Nat)
  /-- PERST_N_ASSERT (R48). -/
  | perstNAssert (port lowNs : Nat)
  /-- PERST_N_DEASSERT (R48). -/
  | perstNDeassert (port : Nat)
  /-- LINK_UP (R49). -/
  | linkUp (port link rate width flit : Nat)
  /-- ALLOWANCE_CHECK (R55). -/
  | allowanceCheck (sess : Nat) (lane : Lane) (parity : BitVec 4) (hbm : HbmErr) (classF : Bool)
  /-- SESSION_CREATE (R60). -/
  | sessionCreate (p : CmdPath) (num : Nat) (w : SessWords)
  /-- SESSION_MODIFY (R61). -/
  | sessionModify (p : CmdPath) (num : Nat) (w : SessModify)
  /-- SESSION_FENCE (R62). -/
  | sessionFence (p : CmdPath) (num : Nat)
  /-- SESSION_GET (R59). -/
  | sessionGet (p : CmdPath) (num : Nat)
  /-- FENCE_DRAIN_END (R62). -/
  | fenceDrainEnd (sess : Nat)
  /-- FENCE_BI_TIMEOUT (R62). -/
  | fenceBiTimeout (sess line : Nat)
  /-- SPILL_REFILL (R66). -/
  | spillRefill (sess : Nat) (lane : Lane) (hbm : HbmErr)
  /-- FIPEN_ALERT (R91). -/
  | fipenAlert (chan : Nat)
  /-- READ_STATUS_RESPONSE (R91). -/
  | readStatusResponse (chan : Nat) (st : StatusLine)
  /-- READ_STATUS_NO_RESPONSE (R107). -/
  | readStatusNoResponse (chan : Nat)
  /-- FIPEN_TRAINING_STEP_LIMIT (R92). -/
  | fipenTrainingStepLimit (chan step : Nat)
  /-- FIPEN_TRAINING_COMPLETE (R92). -/
  | fipenTrainingComplete (results : List TrainResult)
  /-- FAST_RETRAIN_COMPLETE (R93). -/
  | fastRetrainComplete (chan : Nat) (ok : Bool)
  /-- MEDIA_READ_COMPLETE (R82); `t`: CCLK from the start of the stroke to the first symbol of the response (R7). -/
  | mediaReadComplete (job t : Nat) (err : MediaErr) (integ : IntegCheck) (class4 : Bool)
  /-- RECONSTRUCTION_COMPLETE (R97); `t` as for MEDIA_READ_COMPLETE. -/
  | reconstructionComplete (job t : Nat) (err : MediaErr) (integ : IntegCheck)
  /-- PROGRAM_COMPLETE (R89). -/
  | programComplete (bank : BankId)
  /-- EXCHANGE_OLD_LINE_RETURN (R96). -/
  | exchangeOldLineReturn (bank : BankId) (err : MediaErr)
  /-- TOGGLE_COMPLETE (R97). -/
  | toggleComplete (bank : BankId)
  /-- AGE_EPOCH_ADVANCE (R99). -/
  | ageEpochAdvance
  /-- EVACUATION_BLOCK_DONE (R105). -/
  | evacuationBlockDone (sbn : Nat)
  /-- LOAD_TABLE_COMPLETE (R94). -/
  | loadTableComplete (ok : Bool)
  /-- CHAN_CNT_CLR (R108). -/
  | chanCntClr (chan : Nat) (v : Word)
  /-- MOVE_STRIPE_COMMIT (R130). -/
  | moveStripeCommit (tract : Nat)
  /-- LIFT_VERIFY (R117). -/
  | liftVerify (lpn : Nat)
  /-- HEAT_HALVING (R117). -/
  | heatHalving
  /-- SETTLE_BACK_WALK (R118). -/
  | settleBackWalk (bucket : Nat)
  /-- SETTLE_BACK_COMMIT (R119). -/
  | settleBackCommit (lpn : Nat)
  /-- RECLAIM (R127). -/
  | reclaim (course : Nat)
  /-- RECLAIM_COPY_COMMIT (R128). -/
  | reclaimCopyCommit (lpn : Nat)
  /-- PRECONDITION_COMPLETE (R129). -/
  | preconditionComplete (sbn : Nat) (failed : BitVec 8)
  /-- POOL_FILL_TIMEOUT (R125). -/
  | poolFillTimeout (course : Nat) (hot : Bool)
  /-- BLOCK_RECORD_CHECKPOINT (R123). -/
  | blockRecordCheckpoint
  /-- REBUILD_START (R137). -/
  | rebuildStart
  /-- REBUILD_COMPLETE (R141). -/
  | rebuildComplete (strokes : Nat)
  /-- XLAT_MAP_IDX_WRITE (R142). -/
  | xlatMapIdxWrite (v : Word)
  /-- XLAT_SEQ_LO_READ (R142). -/
  | xlatSeqLoRead
  /-- XLAT_CNT_CLR (R142). -/
  | xlatCntClr (v : Word)
  /-- MERGE_COMPLETE (R148). -/
  | mergeComplete (line : Nat)
  /-- FILL_RETURN (R149). -/
  | fillReturn (line : Nat) (err retry recon : MediaErr) (integ : IntegCheck)
  /-- MERGE_CFG_WRITE (R158). -/
  | mergeCfgWrite (v : Word)
  /-- PERSIST_AT (R161). -/
  | persistAt (p : CmdPath) (stroke : Nat)
  /-- PERSISTENCE_POINT_COMPLETE (R159). -/
  | persistencePointComplete (stroke : Nat)
  /-- GPF_PHASE1 (R160). -/
  | gpfPhase1 (port : Nat)
  /-- GPF_PHASE2 (R160). -/
  | gpfPhase2 (port : Nat)
  /-- MERGE_CNT_CLR (R167). -/
  | mergeCntClr (v : Word)
  /-- MERGE_POINT_LO_READ (R167). -/
  | mergePointLoRead
  /-- SLICE_FILL_INSTALL (R169). -/
  | sliceFillInstall (slice line : Nat)
  /-- CACHE_WAY_CFG_WRITE (R172). -/
  | cacheWayCfgWrite (slice : Nat) (v : Word)
  /-- WAY_GROUP_CLEANING_END (R172). -/
  | wayGroupCleaningEnd (slice group : Nat)
  /-- CACHE_RC_CFG_WRITE (R176). -/
  | cacheRcCfgWrite (v : Word)
  /-- READ_CACHE_PROBE_RETURN (R16). -/
  | readCacheProbeReturn (rid : Nat) (hbm : HbmErr)
  /-- SNOOP_TIMEOUT (R185). -/
  | snoopTimeout (sess line : Nat)
  /-- BACK_INVALIDATE_WALK_END (R190). -/
  | backInvalidateWalkEnd
  /-- CACHE_CNT_CLR (R192). -/
  | cacheCntClr (slice : Nat) (v : Word)
  /-- CACHE_RC_CNT_CLR (R192). -/
  | cacheRcCntClr (v : Word)
  /-- DIR_CNT_CLR (R193). -/
  | dirCntClr (v : Word)
  /-- HBM_FILL_COMPLETE (R200). -/
  | hbmFillComplete (us : Nat)
  /-- PATROL_VISIT (R204). -/
  | patrolVisit (errs : List LineErr)
  /-- PATROL_PASS_LATE (R204). -/
  | patrolPassLate
  /-- FREE_BLOCK_REPRECONDITION (R208). -/
  | freeBlockReprecondition (sbn : Nat)
  /-- ERR_PATROL_CFG_WRITE (R207). -/
  | errPatrolCfgWrite (v : Word)
  /-- ERR_CNT_CLR (R214). -/
  | errCntClr (v : Word)
  /-- ERR_LAST_UNCORR_LO_READ (R214). -/
  | errLastUncorrLoRead
  /-- SCRUB_RANGE (R209). -/
  | scrubRange (p : CmdPath) (start length : Nat)
  /-- SCRUB_RANGE_COMPLETE (R209). -/
  | scrubRangeComplete (how : ScrubEnd) (reached : Nat) (errs : List (Nat × LineErr))
  /-- MOTION (R237). -/
  | motion (p : CmdPath) (m : Motion)
  /-- SECOND (R238). -/
  | second (p : CmdPath) (m : Second)
  /-- MOTION_STATUS (R239). -/
  | motionStatus (p : CmdPath) (m : Motion)
  /-- MOTION_LAPSE (R238). -/
  | motionLapse (m : Motion)
  /-- MOTION_APPLY (R241). -/
  | motionApply
  /-- REKEY_PASS_END (R221). -/
  | rekeyPassEnd
  /-- ERASE_AUTH_EXPIRY (R222). -/
  | eraseAuthExpiry
  /-- KEY_SLOT_REUNSEAL (R219). -/
  | keySlotReunseal (range : Nat) (keepGood : Bool)
  /-- INTEGRITY_ROOT_VERIFY_COMPLETE (R232). -/
  | integrityRootVerifyComplete (failed : List Nat)
  /-- IDE_KEY_PROG (R243). -/
  | ideKeyProg (port link : Nat) (dir : IdeDir) (keySet : Nat) (key : KeyName)
  /-- IDE_K_SET_GO (R243). -/
  | ideKSetGo (port link : Nat) (dir : IdeDir) (keySet : Nat)
  /-- IDE_K_SET_STOP (R243). -/
  | ideKSetStop (port link : Nat) (dir : IdeDir) (keySet : Nat)
  /-- SPDM_GET_MEASUREMENTS (R242). -/
  | spdmGetMeasurements (port : Nat) (index : Nat)
  /-- PROT_CNT_CLR (R245). -/
  | protCntClr (v : Word)
  /-- IMAGE_VERIFY_COMPLETE (R267). -/
  | imageVerifyComplete (active staging : ImageReport)
  /-- MEDIA_READY (R264). -/
  | mediaReady
  /-- WAKE_PATROL_END (R273). -/
  | wakePatrolEnd
  /-- STAGING_COPY_COMPLETE (R269). -/
  | stagingCopyComplete (ok : Bool)
  /-- WARM_RESET_FLUSH_DONE (R275). -/
  | warmResetFlushDone
  /-- WARM_RESET_COMPLETE (R275). -/
  | warmResetComplete
  /-- KEEP_SLOT_PROGRAMMED (R282). -/
  | keepSlotProgrammed (readback : Bool)
  /-- KEEP_SECTOR_ERASE_COMPLETE (R282). -/
  | keepSectorEraseComplete (ok : Bool)
  /-- SPREAD_COUNTER_INCREMENT (R290). -/
  | spreadCounterIncrement (which : Nat)
  /-- CHRONICLE_RECORD_PROGRAMMED (R294). -/
  | chronicleRecordProgrammed (readback : Bool)
  /-- CHRONICLE_SECTOR_ERASE_COMPLETE (R292). -/
  | chronicleSectorEraseComplete (ok : Bool)
  /-- CHRONICLE_RUN_CLOSE (R295). -/
  | chronicleRunClose (code source : Nat)
  /-- KEEP_PAGE_IDX_WRITE (R299). -/
  | keepPageIdxWrite (v : Word)
  /-- KEEP_CNT_CLR (R299). -/
  | keepCntClr (v : Word)
  /-- CHRON_CNT_CLR (R299). -/
  | chronCntClr (v : Word)
  /-- PWR_CNT_CLR (R263). -/
  | pwrCntClr (v : Word)
  /-- BEACON (R307). -/
  | beacon (b : Beacon)
  /-- STATUS_FRAME (R308). -/
  | statusFrame (f : Status)
  /-- CONTACT_LOSS (R325). -/
  | contactLoss
  /-- MEMBER_DROPOUT (R308). -/
  | memberDropout (pos : Nat)
  /-- MANAGER_LISTEN_END (R301). -/
  | managerListenEnd
  /-- SHL_SYNC_PULSE (R313). -/
  | shlSyncPulse (errCclk : Int) (withBeacon : Bool) (sincePrevious : Nat)
  /-- TIME_LOCK_LOSS (R313). -/
  | timeLockLoss
  /-- CONFIG (R316). -/
  | config (f : Frame) (epoch : BitVec 64) (count : Nat)
  /-- ILV_RECORD (R316). -/
  | ilvRecord (f : Frame) (epoch : BitVec 64) (index : Nat) (r : IlvRecord)
  /-- SLOT_GRANT (R320). -/
  | slotGrant (f : Frame) (stroke : Nat)
  /-- POWER_OFF (R321). -/
  | powerOff (f : Frame) (stroke : Nat)
  /-- POWER_OFF_STROKE (R321). -/
  | powerOffStroke
  /-- POWER_ON (R321). -/
  | powerOn (f : Frame)
  /-- PERSIST (R322). -/
  | persist (f : Frame) (stroke : Nat)
  /-- ACT_PREPARE (R323). -/
  | actPrepare (f : Frame) (stroke : Nat) (staging : ImageReport)
  /-- RELEASE (R319). -/
  | release (f : Frame)
  /-- COMMAND_RESEND (R311). -/
  | commandResend (seq : Nat)
  /-- SHELF_CNT_CLR (R327). -/
  | shelfCntClr (v : Word)
  /-- IDENTIFY (R333). -/
  | identify (p : CmdPath)
  /-- REQUEST_ABORT_BACKGROUND_OPERATION (R333). -/
  | requestAbortBackgroundOperation (p : CmdPath)
  /-- GET_EVENT_RECORDS (R211). -/
  | getEventRecords (p : CmdPath) (log : Nat)
  /-- CLEAR_EVENT_RECORDS (R211). -/
  | clearEventRecords (p : CmdPath) (log : Nat) (all : Bool) (handles : List Nat)
  /-- GET_EVENT_INTERRUPT_POLICY (R333). -/
  | getEventInterruptPolicy (p : CmdPath)
  /-- SET_EVENT_INTERRUPT_POLICY (R333). -/
  | setEventInterruptPolicy (p : CmdPath) (modes : List Nat)
  /-- GET_FW_INFO (R333). -/
  | getFwInfo (p : CmdPath)
  /-- TRANSFER_FW_FULL (R345). -/
  | transferFwFull (p : CmdPath)
  /-- TRANSFER_FW_INITIATE (R345). -/
  | transferFwInitiate (p : CmdPath) (slot offset : Nat) (units : List Nat) (header : ImageReport)
  /-- TRANSFER_FW_CONTINUE (R345). -/
  | transferFwContinue (p : CmdPath) (slot offset : Nat) (units : List Nat) (header : ImageReport)
  /-- TRANSFER_FW_END (R345). -/
  | transferFwEnd (p : CmdPath) (slot offset : Nat) (units : List Nat) (r : ImageReport)
  /-- TRANSFER_FW_ABORT (R345). -/
  | transferFwAbort (p : CmdPath)
  /-- ACTIVATE_FW_ONLINE (R347). -/
  | activateFwOnline (p : CmdPath) (slot : Nat)
  /-- ACTIVATE_FW_NEXT_COLD_RESET (R346). -/
  | activateFwNextColdReset (p : CmdPath) (slot : Nat) (r : ImageReport)
  /-- ACTIVATE_AT (R347). -/
  | activateAt (p : CmdPath) (stroke : Nat)
  /-- ACTIVATION_TAKE_EFFECT (R13). -/
  | activationTakeEffect
  /-- OLD_BANK_RELEASE (R13). -/
  | oldBankRelease
  /-- GET_TIMESTAMP (R315). -/
  | getTimestamp (p : CmdPath)
  /-- SET_TIMESTAMP (R315). -/
  | setTimestamp (p : CmdPath) (ns : Nat)
  /-- GET_SUPPORTED_LOGS (R333). -/
  | getSupportedLogs (p : CmdPath)
  /-- GET_LOG (R333). -/
  | getLog (p : CmdPath)
  /-- IDENTIFY_MEMORY_DEVICE (R333). -/
  | identifyMemoryDevice (p : CmdPath)
  /-- GET_PARTITION_INFO (R333). -/
  | getPartitionInfo (p : CmdPath)
  /-- UNSUPPORTED_COMMAND (R328). -/
  | unsupportedCommand (p : CmdPath) (opcode : Nat)
  /-- GET_HEALTH_INFO (R212). -/
  | getHealthInfo (p : CmdPath)
  /-- GET_ALERT_CONFIGURATION (R212). -/
  | getAlertConfiguration (p : CmdPath)
  /-- SET_ALERT_CONFIGURATION (R212). -/
  | setAlertConfiguration (p : CmdPath) (cfg : AlertCfg)
  /-- GET_SHUTDOWN_STATE (R333). -/
  | getShutdownState (p : CmdPath)
  /-- SET_SHUTDOWN_STATE (R333). -/
  | setShutdownState (p : CmdPath) (state : Nat)
  /-- GET_POISON_LIST (R202). -/
  | getPoisonList (p : CmdPath) (dpa lines : Nat)
  /-- INJECT_POISON (R203). -/
  | injectPoison (p : CmdPath) (dpa : Nat)
  /-- CLEAR_POISON (R335). -/
  | clearPoison (p : CmdPath) (dpa : Nat) (data : LineData)
  /-- GET_SCAN_MEDIA_CAPABILITIES (R333). -/
  | getScanMediaCapabilities (p : CmdPath) (dpa lines : Nat)
  /-- SCAN_MEDIA (R210). -/
  | scanMedia (p : CmdPath) (dpa lines : Nat)
  /-- GET_SCAN_MEDIA_RESULTS (R210). -/
  | getScanMediaResults (p : CmdPath)
  /-- SANITIZE (R334). -/
  | sanitize (p : CmdPath)
  /-- SECURE_ERASE (R334). -/
  | secureErase (p : CmdPath)
  /-- SANITIZE_COMPLETE (R334). -/
  | sanitizeComplete
  /-- GET_DYNAMIC_CAPACITY_CONFIGURATION (R51). -/
  | getDynamicCapacityConfiguration (p : CmdPath)
  /-- GET_DYNAMIC_CAPACITY_EXTENT_LIST (R51). -/
  | getDynamicCapacityExtentList (p : CmdPath)
  /-- ADD_DYNAMIC_CAPACITY_RESPONSE (R51). -/
  | addDynamicCapacityResponse (p : CmdPath) (accepted : List Extent)
  /-- RELEASE_DYNAMIC_CAPACITY (R51). -/
  | releaseDynamicCapacity (p : CmdPath) (extents : List Extent)
  /-- SET_DC_REGION_CONFIGURATION (R51). -/
  | setDcRegionConfiguration (p : CmdPath) (region base length : Nat) (sanitize : Bool)
  /-- GET_DC_REGION_CONFIGURATION (R51). -/
  | getDcRegionConfiguration (p : CmdPath)
  /-- INITIATE_DYNAMIC_CAPACITY_ADD (R51). -/
  | initiateDynamicCapacityAdd (p : CmdPath) (sess region : Nat) (extents : List Extent)
  /-- INITIATE_DYNAMIC_CAPACITY_RELEASE (R51). -/
  | initiateDynamicCapacityRelease (p : CmdPath) (sess : Nat) (extents : List Extent)
  /-- DEVICE_RESET (R274). -/
  | deviceReset (p : CmdPath)
  /-- TOP_CTRL_WARM_RESET (R274). -/
  | topCtrlWarmReset (v : Word)
  /-- KEK_READ (R336). -/
  | kekRead (p : CmdPath)
  /-- KEEP_READ (R336). -/
  | keepRead (p : CmdPath) (page : Nat)
  /-- CHRONICLE_READ (R297). -/
  | chronicleRead (p : CmdPath) (part index count : Nat)
  /-- RELEASE_RANGE (R136). -/
  | releaseRange (p : CmdPath) (start length : Nat)
  /-- RELEASE_RANGE_COMPLETE (R136). -/
  | releaseRangeComplete
  /-- SHELF_STATUS (R337). -/
  | shelfStatus (p : CmdPath)
  /-- SET_RECORDS (R316). -/
  | setRecords (p : CmdPath) (records : List IlvRecord)
  /-- SHELF_POWER_OFF (R337). -/
  | shelfPowerOff (p : CmdPath) (mask : BitVec 32) (stroke : Nat)
  /-- SHELF_POWER_ON (R337). -/
  | shelfPowerOn (p : CmdPath) (mask : BitVec 32)
  /-- SHELF_PERSIST (R322). -/
  | shelfPersist (p : CmdPath) (stroke : Nat)
  /-- SHELF_ACTIVATE (R323). -/
  | shelfActivate (p : CmdPath) (stroke : Nat) (staging : ImageReport)
  /-- SHELF_RELEASE (R319). -/
  | shelfRelease (p : CmdPath) (pos : Nat)
  /-- TELEMETRY_STATUS (R364). -/
  | telemetryStatus (p : CmdPath)
  /-- TELEMETRY_PERIOD (R364). -/
  | telemetryPeriod (p : CmdPath) (value : Nat)
  /-- TELEMETRY_SNAPSHOT (R364). -/
  | telemetrySnapshot (p : CmdPath)
  /-- TELEMETRY_CLEAR (R364). -/
  | telemetryClear (p : CmdPath)
  /-- TELEMETRY_FREEZE (R364). -/
  | telemetryFreeze (p : CmdPath) (value : Nat)
  /-- TELEMETRY_WINDOW (R364). -/
  | telemetryWindow (p : CmdPath) (value : Nat)
  /-- TELEMETRY_SELECT (R364). -/
  | telemetrySelect (p : CmdPath) (value : Word)
  /-- TELEM_CTRL_CLR (R357). -/
  | telemCtrlClr (v : Word)
  /-- TELEM_CTRL_FREEZE (R357). -/
  | telemCtrlFreeze (v : Word)
  /-- TELEM_SNAP_NOW (R359). -/
  | telemSnapNow (v : Word)
  /-- TELEM_EVT_CFG_WRITE (R353). -/
  | telemEvtCfgWrite (block counter : Nat) (v : Word)
  /-- TELEM_BW_CFG_WRITE (R358). -/
  | telemBwCfgWrite (v : Word)
  /-- TELEM_WINDOW_READ (R362). -/
  | telemWindowRead (offset size : Nat) (hbm : HbmErr)
  /-- TELEM_CNT_LO_READ (R357). -/
  | telemCntLoRead (block counter : Nat)
  /-- TELEM_CYC_LO_READ (R357). -/
  | telemCycLoRead (block : Nat)
  /-- PORT_CFG_WRITE (R49). -/
  | portCfgWrite (port : Nat) (v : Word)
  /-- PORT_CNT_CLR (R63). -/
  | portCntClr (port : Nat) (v : Word)
  /-- SESS_CNT_CLR (R64). -/
  | sessCntClr (v : Word)
  /-- SESS_Q_CNT_CLR (R77). -/
  | sessQCntClr (v : Word)
  /-- TOP_INT_MASK_WRITE (R374). -/
  | topIntMaskWrite (v : Word)
  /-- RWM_WRITE_REJECT (R8). -/
  | rwmWriteReject (offset : Nat) (v : Word)
  /-- BAR2_ACCESS_ERROR (R369). -/
  | bar2AccessError (offset width : Nat) (v : Nat)
  /-- REGISTER_WRITE (R390). -/
  | registerWrite (space : RegSpace) (v : Word)
  /-- BISNP_CREDIT_RETURN (R184). -/
  | bisnpCreditReturn (port link count : Nat)
  /-- MERGE_BUFFER_LOOKUP_RETURN (R30); `t` as for MEDIA_READ_COMPLETE. -/
  | mergeBufferLookupReturn (rid t : Nat) (hbm : HbmErr)
  /-- HBM_TRAINING_COMPLETE (R264). -/
  | hbmTrainingComplete (ok : Bool)
  /-- SHELF_FRAME_DISCARD (R306). -/
  | shelfFrameDiscard (why : FrameFault)
  /-- DEVICE_TEMPERATURE_CROSSING (R212). -/
  | deviceTemperatureCrossing (tempC : Int)
  /-- SPDM_SECURE_SESSION (R243). -/
  | spdmSecureSession (p : CmdPath) (ok : Bool)
  /-- IMAGE_SLOT_FLASH_COMPLETE (R345). -/
  | imageSlotFlashComplete (what : FlashEnd)
  /-- ACTIVATION_DECISION (R323). -/
  | activationDecision
  /-- COORDINATED_ACTIVATION (R323). -/
  | coordinatedActivation
  /-- ACTIVATION_IN_DOUBT (R324). -/
  | activationInDoubt
  /-- SHELF_PERSIST_COMPLETE (R322). -/
  | shelfPersistComplete
  /-- SHELF_EPOCH_LO_READ (R327). -/
  | shelfEpochLoRead
  /-- SNAPSHOT_RECORD_WRITTEN (R361). -/
  | snapshotRecordWritten
  /-- BANDWIDTH_WINDOW_END (R358). -/
  | bandwidthWindowEnd
  /-- TELEM_SNAP_HEAD_LO_READ (R365). -/
  | telemSnapHeadLoRead
  /-- TELEM_BW_WINDOW_LO_READ (R365). -/
  | telemBwWindowLoRead
  deriving DecidableEq, Repr

end Sys2Proof
end

