-- ==== Sys2Proof/Decode.lean ====
section
/-! DEFINITION. Decoding of words. The GN8064 is a block: its commands are events and messages, the rows of
spec/opcode_table.json carry no field and no bit, and no word spells a command. -/

namespace Sys2Proof

/-- The command a word spells by the table's bits: none, whatever the word, since no row of the table gives bits.
(DEDUCED, log entry 137). -/
def decodeTableWord (_nbits _w : Nat) : Option Instr := none

end Sys2Proof
end

