-- ==== Sys2Proof/Config.lean ====
section
/-! DEFINITION. What an implementation fixes and the values the manual leaves open: constants without a body, so that
no proof can see a value of them. -/

namespace Sys2Proof.Config

/-- A number drawn from the on-die entropy source, by the number of the draw (R218). (DESIGN CHOICE, log entry 8). -/
opaque drawn : Nat → BitVec 64

/-- The vendor anchor that `PROT_ANCHOR` holds when no ANCHOR motion has been applied (Table 10-9). -/
opaque vendorAnchor : Nat

/-- The two hashes of DPA bits 42:6 that choose a line's candidate sets of the merge buffer (R143): the number of the
hash, and the line. (DESIGN CHOICE, log entry 7). -/
opaque setHash : Nat → Nat → Nat

/-- The Device Serial Number (Table 17-1). -/
opaque serial : BitVec 64

/-- The device KEK's public key, X then Y (Table 10-1), which KEK READ returns. -/
opaque kek : BitVec 768

/-- Ordering code: false GN8064-SB, true GN8064-EB (`TOP_ID.GRADE`). -/
opaque grade : Bool

/-- RECENT of a fluid entry that a rebuild restores: the manual does not say (by logical page). -/
opaque freeBit : Nat → Bool

end Sys2Proof.Config
end

