-- ==== Sys2Proof/Machine/RegMap.lean ====
section
/-! DEFINITION. The register fields of the BAR2 blocks, as the register tables of the chapters give them (Tables 2-10,
3-8, 3-9, 4-4, 5-13, 5-14, 6-11, 7-8, 8-8, 8-9, 9-9, 10-9, 11-8, 13-9, 14-11, 16-6, 16-7 and 17-5), at the bases and
strides of Table 17-3. A field's home in the state is its own entry of a sparse table, keyed by its bit address. The
session array, `SESS_QSTAT`, the keep page window and `PROT_ANCHOR` have homes of their own. -/

namespace Sys2Proof.Machine

/-- Access types (Table 0-4). -/
inductive Acc where
  | ro | rw | rw1c | wo | rws | rwm
  deriving DecidableEq, Repr

/-- One register field: BAR2 offset of its register, the stride and count of the instances of its block, the stride
and count of its index inside the block, lowest bit, width, access type, reset domain (`aux`: AUX, else Core;
Table 17-3), reset value, and the range of values a write may carry. -/
structure Field where
  off : Nat
  stride : Nat
  count : Nat
  stride2 : Nat
  count2 : Nat
  lo : Nat
  width : Nat
  acc : Acc
  aux : Bool
  reset : Nat
  rmin : Nat
  rmax : Nat
  deriving DecidableEq, Repr

/-- Reset value of instance `i` (Table 9-4 gives the buckets of the courses, 8 to 15, values of their own).
(DESIGN CHOICE, log entry 3). -/
def Field.resetAt (f : Field) (i : Nat) : Nat :=
  if f.off = 0x900100 ∧ 8 ≤ i then (if f.lo = 0 then 4096 else 64) else f.reset

/-- BAR2 offset of the register that holds instance `i`, index `j` of the field (R372). -/
def Field.offset (f : Field) (i j : Nat) : Nat := f.off + i * f.stride + j * f.stride2

/-- Bit address of instance `i`, index `j` of the field: the key of its home. -/
def Field.key (f : Field) (i j : Nat) : Nat := 32 * f.offset i j + f.lo

/-- Does the field have an instance in the register at BAR2 offset `o`; which (R371, R372). -/
def Field.at? (f : Field) (o : Nat) : Option (Nat × Nat) :=
  if o < f.off then none else
  let d := o - f.off
  let i := if f.count ≤ 1 then 0 else d / f.stride
  let r := if f.count ≤ 1 then d else d % f.stride
  let j := if f.count2 ≤ 1 then 0 else r / f.stride2
  let q := if f.count2 ≤ 1 then r else r % f.stride2
  if i < f.count ∧ j < f.count2 ∧ q = 0 then some (i, j) else none

namespace Reg

/-- Admission horizon in strokes; range 2–16 -/
def SCHED_CFG_HORIZON : Field := ⟨0x300000, 0x0, 1, 0x0, 1, 0, 5, .rws, false, 8, 2, 16⟩
/-- 1: late admission into locked strokes (R29) -/
def SCHED_CFG_LATE_ADMIT_EN : Field := ⟨0x300000, 0x0, 1, 0x0, 1, 8, 1, .rws, false, 1, 0, 1⟩
/-- Drone slots per stroke per channel held for classes 1 and 2; range 4–28 -/
def SCHED_DRONE_CFG_RECOVERY_RSV : Field := ⟨0x300004, 0x0, 1, 0x0, 1, 0, 5, .rws, false, 8, 4, 28⟩
/-- 0: normal; 1: capo; 2: recovery mode; other values reserved -/
def SCHED_STATUS_LAYOUT : Field := ⟨0x300008, 0x0, 1, 0x0, 1, 0, 3, .ro, false, 0, 0, 7⟩
/-- 1 while Orange or Red is in force -/
def SCHED_STATUS_POOL_EXCL : Field := ⟨0x300008, 0x0, 1, 0x0, 1, 3, 1, .ro, false, 0, 0, 1⟩
/-- 1 while LAYOUT is 0, POOL_EXCL is 0, Memory Media Status is Ready and no step is pending -/
def SCHED_STATUS_BOUND_ACTIVE : Field := ⟨0x300008, 0x0, 1, 0x0, 1, 4, 1, .ro, false, 0, 0, 1⟩
/-- Set when an out-of-range value was written to a SCHED_ field -/
def SCHED_STATUS_CFG_REJECT : Field := ⟨0x300008, 0x0, 1, 0x0, 1, 5, 1, .rw1c, false, 0, 0, 1⟩
/-- Stroke count, bits 31:0 -/
def SCHED_STROKE_LO_COUNT_LO : Field := ⟨0x300010, 0x0, 1, 0x0, 1, 0, 32, .ro, false, 0, 0, 4294967295⟩
/-- Stroke count, bits 63:32, as latched -/
def SCHED_STROKE_HI_COUNT_HI : Field := ⟨0x300014, 0x0, 1, 0x0, 1, 0, 32, .ro, false, 0, 0, 4294967295⟩
/-- Sum of read allowances of Active and Pending sessions, lines per stroke -/
def SCHED_READ_SUM_SUM : Field := ⟨0x300018, 0x0, 1, 0x0, 1, 0, 16, .ro, false, 0, 0, 65535⟩
/-- Sum of write allowances, lines per stroke -/
def SCHED_WRITE_SUM_SUM : Field := ⟨0x30001C, 0x0, 1, 0x0, 1, 0, 16, .ro, false, 0, 0, 65535⟩
/-- Plan locks at which any channel failed C2 -/
def SCHED_C2_VIOL : Field := ⟨0x300020, 0x0, 1, 0x0, 1, 0, 32, .ro, false, 0, 0, 4294967295⟩
/-- Reads and groups placed later than C2 allows -/
def SCHED_DEFER_CNT : Field := ⟨0x300024, 0x0, 1, 0x0, 1, 0, 32, .ro, false, 0, 0, 4294967295⟩
/-- Reads held for lack of a slot within the horizon, counted once each -/
def SCHED_HELD_CNT : Field := ⟨0x300028, 0x0, 1, 0x0, 1, 0, 32, .ro, false, 0, 0, 4294967295⟩
/-- Class 1 and 2 reads moved to a later stroke -/
def SCHED_RECOV_OVF : Field := ⟨0x30002C, 0x0, 1, 0x0, 1, 0, 32, .ro, false, 0, 0, 4294967295⟩
/-- Largest device-boundary latency of an admitted media read, in CCLK -/
def SCHED_MAX_LAT_CCLK : Field := ⟨0x300030, 0x0, 1, 0x0, 1, 0, 24, .ro, false, 0, 0, 16777215⟩
/-- Reads that exceeded the bound applying to them -/
def SCHED_BOUND_MISS : Field := ⟨0x300034, 0x0, 1, 0x0, 1, 0, 32, .ro, false, 0, 0, 4294967295⟩
/-- 1: clear counters 0x0020–0x0034 -/
def SCHED_CNT_CLR_CLR : Field := ⟨0x300038, 0x0, 1, 0x0, 1, 0, 1, .wo, false, 0, 0, 1⟩
/-- Bit c set when channel c (0–31) failed C2 -/
def SCHED_CHAN_VIOL_LO_CHAN : Field := ⟨0x300040, 0x0, 1, 0x0, 1, 0, 32, .rw1c, false, 0, 0, 4294967295⟩
/-- Bit c set when channel 32 + c failed C2 -/
def SCHED_CHAN_VIOL_HI_CHAN : Field := ⟨0x300044, 0x0, 1, 0x0, 1, 0, 32, .rw1c, false, 0, 0, 4294967295⟩
/-- Stroke count of the last capo entry, bits 31:0 -/
def SCHED_CAPO_STROKE_LO_COUNT_LO : Field := ⟨0x300048, 0x0, 1, 0x0, 1, 0, 32, .ro, false, 0, 0, 4294967295⟩
/-- As above, bits 63:32 -/
def SCHED_CAPO_STROKE_HI_COUNT_HI : Field := ⟨0x30004C, 0x0, 1, 0x0, 1, 0, 32, .ro, false, 0, 0, 4294967295⟩
/-- 0: SLD; 1: MLD; 2: PBR edge; 3 reserved. Applies at next link-up (R49) -/
def PORT_CFG_MODE : Field := ⟨0x100000, 0x10000, 4, 0x0, 1, 0, 2, .rws, false, 1, 0, 2⟩
/-- 1: 2 × x8. Applies at next PERST_N assertion -/
def PORT_CFG_BIFURCATE : Field := ⟨0x100000, 0x10000, 4, 0x0, 1, 2, 1, .rws, false, 0, 0, 1⟩
/-- 1: 8 GT/s; 2: 16; 3: 32; 4: 64 GT/s; other values reserved -/
def PORT_CFG_MAX_RATE : Field := ⟨0x100000, 0x10000, 4, 0x0, 1, 3, 3, .rws, false, 4, 1, 4⟩
/-- 1: 68-byte flit mode permitted at 32 GT/s and below -/
def PORT_CFG_FLIT68_EN : Field := ⟨0x100000, 0x10000, 4, 0x0, 1, 6, 1, .rws, false, 1, 0, 1⟩
/-- 1: latency-optimised 256-byte flit permitted -/
def PORT_CFG_LOFLIT_EN : Field := ⟨0x100000, 0x10000, 4, 0x0, 1, 7, 1, .rws, false, 1, 0, 1⟩
/-- Mode in force since the last link-up, encoded as `PORT_CFG.MODE` (R49) -/
def PORT_MODE_STATUS_MODE : Field := ⟨0x100004, 0x10000, 4, 0x0, 1, 0, 2, .ro, false, 1, 0, 3⟩
/-- 1: 2 × x8 in force since the last PERST_N assertion (R46) -/
def PORT_MODE_STATUS_BIFURCATE : Field := ⟨0x100004, 0x10000, 4, 0x0, 1, 2, 1, .ro, false, 0, 0, 1⟩
/-- 1 while `PORT_CFG.MODE` differs from MODE -/
def PORT_MODE_STATUS_MODE_PENDING : Field := ⟨0x100004, 0x10000, 4, 0x0, 1, 3, 1, .ro, false, 0, 0, 1⟩
/-- Link 0 up -/
def PORT_LINK_STATUS0_UP : Field := ⟨0x100010, 0x10000, 4, 0x0, 1, 0, 1, .ro, false, 0, 0, 1⟩
/-- Encoding as MAX_RATE -/
def PORT_LINK_STATUS0_RATE : Field := ⟨0x100010, 0x10000, 4, 0x0, 1, 1, 3, .ro, false, 0, 0, 7⟩
/-- 0: down; 1: x4; 2: x8; 3: x16 -/
def PORT_LINK_STATUS0_WIDTH : Field := ⟨0x100010, 0x10000, 4, 0x0, 1, 4, 3, .ro, false, 0, 0, 7⟩
/-- 0: 68-byte; 1: 256-byte standard; 2: 256-byte latency-optimised -/
def PORT_LINK_STATUS0_FLIT : Field := ⟨0x100010, 0x10000, 4, 0x0, 1, 7, 2, .ro, false, 0, 0, 3⟩
/-- 0: off; 1: secure; 2: Insecure -/
def PORT_LINK_STATUS0_IDE : Field := ⟨0x100010, 0x10000, 4, 0x0, 1, 9, 2, .ro, false, 0, 0, 3⟩
/-- Link 1; reads zero unless BIFURCATE is in force -/
def PORT_LINK_STATUS1_UP : Field := ⟨0x100014, 0x10000, 4, 0x0, 1, 0, 1, .ro, false, 0, 0, 1⟩
/-- Link 1; reads zero unless BIFURCATE is in force -/
def PORT_LINK_STATUS1_RATE : Field := ⟨0x100014, 0x10000, 4, 0x0, 1, 1, 3, .ro, false, 0, 0, 7⟩
/-- Link 1; reads zero unless BIFURCATE is in force -/
def PORT_LINK_STATUS1_WIDTH : Field := ⟨0x100014, 0x10000, 4, 0x0, 1, 4, 3, .ro, false, 0, 0, 7⟩
/-- Link 1; reads zero unless BIFURCATE is in force -/
def PORT_LINK_STATUS1_FLIT : Field := ⟨0x100014, 0x10000, 4, 0x0, 1, 7, 2, .ro, false, 0, 0, 3⟩
/-- Link 1; reads zero unless BIFURCATE is in force -/
def PORT_LINK_STATUS1_IDE : Field := ⟨0x100014, 0x10000, 4, 0x0, 1, 9, 2, .ro, false, 0, 0, 3⟩
/-- Trackers held on link 0 -/
def PORT_INFLIGHT_LINK0 : Field := ⟨0x100020, 0x10000, 4, 0x0, 1, 0, 13, .ro, false, 0, 0, 8191⟩
/-- Trackers held on link 1 -/
def PORT_INFLIGHT_LINK1 : Field := ⟨0x100020, 0x10000, 4, 0x0, 1, 16, 13, .ro, false, 0, 0, 8191⟩
/-- Highest values since last clear -/
def PORT_INFLIGHT_PEAK_LINK0 : Field := ⟨0x100024, 0x10000, 4, 0x0, 1, 0, 13, .ro, false, 0, 0, 8191⟩
/-- Highest values since last clear -/
def PORT_INFLIGHT_PEAK_LINK1 : Field := ⟨0x100024, 0x10000, 4, 0x0, 1, 16, 13, .ro, false, 0, 0, 8191⟩
/-- IDE MAC failures (R47) -/
def PORT_IDE_FAIL_CNT : Field := ⟨0x100028, 0x10000, 4, 0x0, 1, 0, 32, .ro, false, 0, 0, 4294967295⟩
/-- Link-down events (R48) -/
def PORT_LINKDOWN_CNT : Field := ⟨0x10002C, 0x10000, 4, 0x0, 1, 0, 32, .ro, false, 0, 0, 4294967295⟩
/-- 1: clear 0x0024–0x002C -/
def PORT_CNT_CLR_CLR : Field := ⟨0x100030, 0x10000, 4, 0x0, 1, 0, 1, .wo, false, 0, 0, 1⟩
/-- An IDE stream entered Insecure -/
def PORT_EVENT_IDE_FAIL : Field := ⟨0x100034, 0x10000, 4, 0x0, 1, 0, 1, .rw1c, false, 0, 0, 1⟩
/-- A link went down -/
def PORT_EVENT_LINK_DOWN : Field := ⟨0x100034, 0x10000, 4, 0x0, 1, 1, 1, .rw1c, false, 0, 0, 1⟩
/-- A link trained below MAX_RATE -/
def PORT_EVENT_RATE_FALLBACK : Field := ⟨0x100034, 0x10000, 4, 0x0, 1, 2, 1, .rw1c, false, 0, 0, 1⟩
/-- A link trained narrower than configured -/
def PORT_EVENT_WIDTH_DEGRADED : Field := ⟨0x100034, 0x10000, 4, 0x0, 1, 3, 1, .rw1c, false, 0, 0, 1⟩
/-- A MODE write was refused under R49 -/
def PORT_EVENT_MODE_REJECT : Field := ⟨0x100034, 0x10000, 4, 0x0, 1, 4, 1, .rw1c, false, 0, 0, 1⟩
/-- Strokes before the starvation guard serves a session (R56); range 1–31 -/
def SESS_CFG_STARVE_LIMIT : Field := ⟨0x200000, 0x0, 1, 0x0, 1, 0, 5, .rws, false, 16, 1, 31⟩
/-- Fence back-invalidate timeout in ms; range 1–255 -/
def SESS_CFG_BI_TIMEOUT : Field := ⟨0x200000, 0x0, 1, 0x0, 1, 8, 8, .rws, false, 10, 1, 255⟩
/-- Sessions Active -/
def SESS_COUNT_ACTIVE : Field := ⟨0x200004, 0x0, 1, 0x0, 1, 0, 13, .ro, false, 0, 0, 8191⟩
/-- Sessions Fencing or Pending -/
def SESS_COUNT_FENCING : Field := ⟨0x200004, 0x0, 1, 0x0, 1, 16, 13, .ro, false, 0, 0, 8191⟩
/-- Requests that failed lookup (R52) -/
def SESS_ORPHAN_CNT : Field := ⟨0x200008, 0x0, 1, 0x0, 1, 0, 32, .ro, false, 0, 0, 4294967295⟩
/-- Read-lane requests ended by fences (Table 3-7, step 2) -/
def SESS_ABORT_CNT : Field := ⟨0x20000C, 0x0, 1, 0x0, 1, 0, 32, .ro, false, 0, 0, 4294967295⟩
/-- Fence back-invalidates that timed out -/
def SESS_BI_TIMEOUT_CNT : Field := ⟨0x200010, 0x0, 1, 0x0, 1, 0, 32, .ro, false, 0, 0, 4294967295⟩
/-- Reason of the last refused session command -/
def SESS_CMD_REJECT_LAST_REASON : Field := ⟨0x200014, 0x0, 1, 0x0, 1, 0, 8, .ro, false, 0, 0, 255⟩
/-- Refused session commands; saturates at 0xFF_FFFF -/
def SESS_CMD_REJECT_COUNT : Field := ⟨0x200014, 0x0, 1, 0x0, 1, 8, 24, .ro, false, 0, 0, 16777215⟩
/-- 1: clear 0x0008–0x0014 -/
def SESS_CNT_CLR_CLR : Field := ⟨0x200018, 0x0, 1, 0x0, 1, 0, 1, .wo, false, 0, 0, 1⟩
/-- Chunks per session, range 1–16 (R71) -/
def SESS_SPILL_CFG_SHARE : Field := ⟨0x200040, 0x0, 1, 0x0, 1, 0, 5, .rws, false, 4, 1, 16⟩
/-- Free chunks in the shared pool -/
def SESS_SPILL_STATUS_SHARED_FREE : Field := ⟨0x200044, 0x0, 1, 0x0, 1, 0, 14, .ro, false, 12280, 0, 16383⟩
/-- Sessions now held -/
def SESS_HELD : Field := ⟨0x200048, 0x0, 1, 0x0, 1, 0, 13, .ro, false, 0, 0, 8191⟩
/-- Poisoned descriptors reported (R69) -/
def SESS_Q_PARITY_CNT : Field := ⟨0x20004C, 0x0, 1, 0x0, 1, 0, 32, .ro, false, 0, 0, 4294967295⟩
/-- Poisoned descriptors left unanswered -/
def SESS_Q_LOST_CNT : Field := ⟨0x200050, 0x0, 1, 0x0, 1, 0, 32, .ro, false, 0, 0, 4294967295⟩
/-- Holds begun (R72) -/
def SESS_HOLD_CNT : Field := ⟨0x200054, 0x0, 1, 0x0, 1, 0, 32, .ro, false, 0, 0, 4294967295⟩
/-- 1: clear 0x004C–0x0054 -/
def SESS_Q_CNT_CLR_CLR : Field := ⟨0x200058, 0x0, 1, 0x0, 1, 0, 1, .wo, false, 0, 0, 1⟩
/-- 0: down; 1: training; 2: up; 3: failed -/
def CHAN_STATUS_STATE : Field := ⟨0x400000, 0x1000, 64, 0x0, 1, 0, 2, .ro, false, 0, 0, 3⟩
/-- Die count reported -/
def CHAN_STATUS_DIES : Field := ⟨0x400000, 0x1000, 64, 0x0, 1, 2, 3, .ro, false, 0, 0, 7⟩
/-- Bit d: die d declared failed -/
def CHAN_STATUS_DIE_FAILED : Field := ⟨0x400000, 0x1000, 64, 0x0, 1, 5, 4, .ro, false, 0, 0, 15⟩
/-- Current FPn_ALERT_N state, 1: asserted -/
def CHAN_STATUS_ALERT : Field := ⟨0x400000, 0x1000, 64, 0x0, 1, 9, 1, .ro, false, 0, 0, 1⟩
/-- 1 during a retrain -/
def CHAN_STATUS_RETRAIN : Field := ⟨0x400000, 0x1000, 64, 0x0, 1, 10, 1, .ro, false, 0, 0, 1⟩
/-- Stack table bank in use -/
def CHAN_STATUS_TBANK : Field := ⟨0x400000, 0x1000, 64, 0x0, 1, 11, 1, .ro, false, 0, 0, 1⟩
/-- °C per die, byte d for die d, from the last READ STATUS -/
def CHAN_TEMP_DIE_TEMP : Field := ⟨0x400004, 0x1000, 64, 0x0, 1, 0, 32, .ro, false, 0, 0, 4294967295⟩
/-- Stack serial, bits 31:0 -/
def CHAN_SERIAL_LO_SERIAL : Field := ⟨0x400008, 0x1000, 64, 0x0, 1, 0, 32, .ro, false, 0, 0, 4294967295⟩
/-- Stack serial, bits 63:32 -/
def CHAN_SERIAL_HI_SERIAL : Field := ⟨0x40000C, 0x1000, 64, 0x0, 1, 0, 32, .ro, false, 0, 0, 4294967295⟩
/-- Trained FCK phase [7:0], read gate [15:8], read Vref [23:16], write Vref [31:24] -/
def CHAN_TRAIN_VALUES : Field := ⟨0x400010, 0x1000, 64, 0x0, 1, 0, 32, .ro, false, 0, 0, 4294967295⟩
/-- Lines decoded with at least one corrected bit -/
def CHAN_CORR_CNT : Field := ⟨0x400014, 0x1000, 64, 0x0, 1, 0, 32, .ro, false, 0, 0, 4294967295⟩
/-- Retune retries -/
def CHAN_RETRY_CNT : Field := ⟨0x400018, 0x1000, 64, 0x0, 1, 0, 32, .ro, false, 0, 0, 4294967295⟩
/-- Reconstructions of this channel's lines -/
def CHAN_RECON_CNT : Field := ⟨0x40001C, 0x1000, 64, 0x0, 1, 0, 32, .ro, false, 0, 0, 4294967295⟩
/-- Lines uncorrectable after reconstruction -/
def CHAN_UNCORR_CNT : Field := ⟨0x400020, 0x1000, 64, 0x0, 1, 0, 32, .ro, false, 0, 0, 4294967295⟩
/-- CAP errors and syndrome refusals (R91) -/
def CHAN_LINK_ERR_CNT : Field := ⟨0x400024, 0x1000, 64, 0x0, 1, 0, 32, .ro, false, 0, 0, 4294967295⟩
/-- Program verify failures -/
def CHAN_VERIFY_FAIL_CNT : Field := ⟨0x400028, 0x1000, 64, 0x0, 1, 0, 32, .ro, false, 0, 0, 4294967295⟩
/-- Fast and full retrains -/
def CHAN_RETRAIN_CNT : Field := ⟨0x40002C, 0x1000, 64, 0x0, 1, 0, 32, .ro, false, 0, 0, 4294967295⟩
/-- Last failed operation, as READ STATUS bytes 16–19 -/
def CHAN_LAST_FAIL_OP : Field := ⟨0x400030, 0x1000, 64, 0x0, 1, 0, 32, .ro, false, 0, 0, 4294967295⟩
/-- 1: clear 0x0014–0x002C -/
def CHAN_CNT_CLR_CLR : Field := ⟨0x400034, 0x1000, 64, 0x0, 1, 0, 1, .wo, false, 0, 0, 1⟩
/-- Link errors per sync epoch before a fast retrain; range 1–255 -/
def CHAN_G_CFG_LINK_ERR_LIMIT : Field := ⟨0x440000, 0x0, 1, 0x0, 1, 0, 8, .rws, false, 16, 1, 255⟩
/-- Table 5-11; range 16–4,095 -/
def CHAN_G_CFG_DIE_FAIL_RECON : Field := ⟨0x440000, 0x0, 1, 0x0, 1, 8, 12, .rws, false, 256, 16, 4095⟩
/-- Table 5-11; range 1–255 -/
def CHAN_G_CFG_VERIFY_FAIL_LIMIT : Field := ⟨0x440000, 0x0, 1, 0x0, 1, 20, 8, .rws, false, 64, 1, 255⟩
/-- Evacuation rate, GB/s; range 1–64 -/
def CHAN_G_EVAC_RATE : Field := ⟨0x440004, 0x0, 1, 0x0, 1, 0, 8, .rws, false, 20, 1, 64⟩
/-- Stripe blocks queued for evacuation -/
def CHAN_G_EVAC_STATUS_REMAINING : Field := ⟨0x440008, 0x0, 1, 0x0, 1, 0, 18, .ro, false, 0, 0, 262143⟩
/-- 1 while evacuation runs -/
def CHAN_G_EVAC_STATUS_ACTIVE : Field := ⟨0x440008, 0x0, 1, 0x0, 1, 18, 1, .ro, false, 0, 0, 1⟩
/-- E mod 16 -/
def CHAN_G_AGE_EPOCH : Field := ⟨0x44000C, 0x0, 1, 0x0, 1, 0, 4, .ro, false, 0, 0, 15⟩
/-- 1 while the wake patrol runs (R102) -/
def CHAN_G_AGE_WAKE : Field := ⟨0x44000C, 0x0, 1, 0x0, 1, 4, 1, .ro, false, 0, 0, 1⟩
/-- Rest epochs used under R102, 0–15 -/
def CHAN_G_AGE_REST : Field := ⟨0x44000C, 0x0, 1, 0x0, 1, 5, 4, .ro, false, 0, 0, 15⟩
/-- Bit b: die (32i + b) mod 4 of channel (32i + b) div 4 declared failed -/
def CHAN_G_FAILED_DIES : Field := ⟨0x440010, 0x4, 8, 0x0, 1, 0, 32, .ro, false, 0, 0, 4294967295⟩
/-- Heat count that lifts a page (R117); range 2–15 -/
def XLAT_CFG_LIFT_THRESH : Field := ⟨0x500000, 0x0, 1, 0x0, 1, 0, 4, .rws, false, 8, 2, 15⟩
/-- Sync epochs per halving of heat counts; range 1–255 -/
def XLAT_CFG_HEAT_HALF : Field := ⟨0x500000, 0x0, 1, 0x0, 1, 8, 8, .rws, false, 64, 1, 255⟩
/-- 1: lifting permitted -/
def XLAT_CFG_LIFT_EN : Field := ⟨0x500000, 0x0, 1, 0x0, 1, 16, 1, .rws, false, 1, 0, 1⟩
/-- Sync epochs per settle-back walk pass; range 256–65,535 -/
def XLAT_COOL_CFG_COOL_PASS : Field := ⟨0x500004, 0x0, 1, 0x0, 1, 0, 16, .rws, false, 16384, 256, 65535⟩
/-- Free-pool level below which reclaim runs; range 8,192–65,536 -/
def XLAT_POOL_CFG_TARGET : Field := ⟨0x500008, 0x0, 1, 0x0, 1, 0, 18, .rws, false, 16384, 8192, 65536⟩
/-- Hot and cold blocks together; range 1,024–65,536 -/
def XLAT_FLUID_CFG_FLUID_MAX : Field := ⟨0x50000C, 0x0, 1, 0x0, 1, 0, 18, .rws, false, 65536, 1024, 65536⟩
/-- Strokes before an open stripe is completed with filler; range 64–65,535 -/
def XLAT_FILL_CFG_FILL_TIMEOUT : Field := ⟨0x500010, 0x0, 1, 0x0, 1, 0, 16, .rws, false, 1024, 64, 65535⟩
/-- Wear excess that queues a move, units of 1,024 cycles; range 1–65,535 -/
def XLAT_WEAR_CFG_WEAR_GAP : Field := ⟨0x500014, 0x0, 1, 0x0, 1, 0, 16, .rws, false, 64, 1, 65535⟩
/-- Wear moves at once; range 1–32 -/
def XLAT_WEAR_CFG_MOVE_MAX : Field := ⟨0x500014, 0x0, 1, 0x0, 1, 16, 6, .rws, false, 8, 1, 32⟩
/-- Free-pool blocks, 0–1,048,576 -/
def XLAT_POOL_STATUS_FREE : Field := ⟨0x500020, 0x0, 1, 0x0, 1, 0, 21, .ro, false, 0, 0, 2097151⟩
/-- 0: Normal; 1: Yellow; 2: Orange; 3: Red -/
def XLAT_POOL_STATUS_STATE : Field := ⟨0x500020, 0x0, 1, 0x0, 1, 21, 2, .ro, false, 0, 0, 3⟩
/-- Hot-pool blocks -/
def XLAT_HOT_COUNT_BLOCKS : Field := ⟨0x500024, 0x0, 1, 0x0, 1, 0, 18, .ro, false, 0, 0, 262143⟩
/-- Cold-pool blocks -/
def XLAT_COLD_COUNT_BLOCKS : Field := ⟨0x500028, 0x0, 1, 0x0, 1, 0, 18, .ro, false, 0, 0, 262143⟩
/-- Valid fluid entries -/
def XLAT_LIFTED_PAGES : Field := ⟨0x50002C, 0x0, 1, 0x0, 1, 0, 27, .ro, false, 0, 0, 134217727⟩
/-- Pinned lines, 0–1,048,576 -/
def XLAT_PINNED_LINES : Field := ⟨0x500030, 0x0, 1, 0x0, 1, 0, 21, .ro, false, 0, 0, 2097151⟩
/-- Moves running -/
def XLAT_MOVES_ACTIVE : Field := ⟨0x500034, 0x0, 1, 0x0, 1, 0, 6, .ro, false, 0, 0, 63⟩
/-- Tracts RELOC_QUEUED -/
def XLAT_MOVES_QUEUED : Field := ⟨0x500034, 0x0, 1, 0x0, 1, 8, 20, .ro, false, 0, 0, 1048575⟩
/-- Sequence counter, bits 31:0 -/
def XLAT_SEQ_LO_SEQ_LO : Field := ⟨0x500038, 0x0, 1, 0x0, 1, 0, 32, .ro, false, 0, 0, 4294967295⟩
/-- Bits 63:32, as latched -/
def XLAT_SEQ_HI_SEQ_HI : Field := ⟨0x50003C, 0x0, 1, 0x0, 1, 0, 32, .ro, false, 0, 0, 4294967295⟩
/-- Stripe-block epoch counter -/
def XLAT_SBE_EPOCH : Field := ⟨0x500040, 0x0, 1, 0x0, 1, 0, 32, .ro, false, 0, 0, 4294967295⟩
/-- Duration of the last rebuild, strokes -/
def XLAT_REBUILD_STROKES : Field := ⟨0x500044, 0x0, 1, 0x0, 1, 0, 24, .ro, false, 0, 0, 16777215⟩
/-- 1: tags were reconstructed -/
def XLAT_REBUILD_RECON : Field := ⟨0x500044, 0x0, 1, 0x0, 1, 24, 1, .ro, false, 0, 0, 1⟩
/-- 1: a move was resumed under R140 -/
def XLAT_REBUILD_RESUMED : Field := ⟨0x500044, 0x0, 1, 0x0, 1, 25, 1, .ro, false, 0, 0, 1⟩
/-- Lifts refused for a full bucket -/
def XLAT_LIFT_FULL_CNT : Field := ⟨0x500050, 0x0, 1, 0x0, 1, 0, 32, .ro, false, 0, 0, 4294967295⟩
/-- Blocks returned to the free pool -/
def XLAT_RECLAIM_CNT : Field := ⟨0x500054, 0x0, 1, 0x0, 1, 0, 32, .ro, false, 0, 0, 4294967295⟩
/-- Moves completed -/
def XLAT_RELOC_CNT : Field := ⟨0x500058, 0x0, 1, 0x0, 1, 0, 32, .ro, false, 0, 0, 4294967295⟩
/-- Target failures (R133, R134) -/
def XLAT_COPY_FAIL_CNT : Field := ⟨0x50005C, 0x0, 1, 0x0, 1, 0, 32, .ro, false, 0, 0, 4294967295⟩
/-- Lines pinned (R135) -/
def XLAT_PIN_CNT : Field := ⟨0x500060, 0x0, 1, 0x0, 1, 0, 32, .ro, false, 0, 0, 4294967295⟩
/-- Lines written poisoned (R135) -/
def XLAT_POISON_WR_CNT : Field := ⟨0x500064, 0x0, 1, 0x0, 1, 0, 32, .ro, false, 0, 0, 4294967295⟩
/-- Equal-sequence cases (R139) -/
def XLAT_EQ_SEQ_CNT : Field := ⟨0x500068, 0x0, 1, 0x0, 1, 0, 32, .ro, false, 0, 0, 4294967295⟩
/-- 1: clear 0x0050–0x0068 -/
def XLAT_CNT_CLR_CLR : Field := ⟨0x50006C, 0x0, 1, 0x0, 1, 0, 1, .wo, false, 0, 0, 1⟩
/-- Tract whose entry is shown -/
def XLAT_MAP_IDX_TRACT : Field := ⟨0x500080, 0x0, 1, 0x0, 1, 0, 20, .rw, false, 0, 0, 1048575⟩
/-- 1: XLAT_MAP_LO and XLAT_MAP_HI hold the entry -/
def XLAT_MAP_IDX_READY : Field := ⟨0x500080, 0x0, 1, 0x0, 1, 31, 1, .ro, false, 0, 0, 1⟩
/-- Entry bits 31:0 (Table 6-2) -/
def XLAT_MAP_LO_ENTRY_LO : Field := ⟨0x500084, 0x0, 1, 0x0, 1, 0, 32, .ro, false, 0, 0, 4294967295⟩
/-- Entry bits 63:32 -/
def XLAT_MAP_HI_ENTRY_HI : Field := ⟨0x500088, 0x0, 1, 0x0, 1, 0, 32, .ro, false, 0, 0, 4294967295⟩
/-- Dirty budget in 64 MiB units; range 1–48; checked under R158; restored from the keep -/
def MERGE_CFG_BUDGET : Field := ⟨0x600000, 0x0, 1, 0x0, 1, 0, 6, .rws, false, 16, 1, 48⟩
/-- Declared hold-up, 0.1 ms units; range 100–255; restored from the keep -/
def MERGE_CFG_HOLDUP : Field := ⟨0x600000, 0x0, 1, 0x0, 1, 8, 8, .rws, false, 100, 100, 255⟩
/-- Coalescing age in strokes (R153); range 0–255 -/
def MERGE_CFG_MIN_AGE : Field := ⟨0x600000, 0x0, 1, 0x0, 1, 16, 8, .rws, false, 64, 0, 255⟩
/-- Entries with FILL_PEND per channel (R152); range 16–512 -/
def MERGE_PARTIAL_CFG_MAX : Field := ⟨0x600004, 0x0, 1, 0x0, 1, 0, 10, .rws, false, 256, 16, 512⟩
/-- Dirty level, lines -/
def MERGE_STATUS_DIRTY : Field := ⟨0x600008, 0x0, 1, 0x0, 1, 0, 26, .ro, false, 0, 0, 67108863⟩
/-- 1 while the budget is reached in total or on any channel -/
def MERGE_STATUS_LIMIT : Field := ⟨0x600008, 0x0, 1, 0x0, 1, 26, 1, .ro, false, 0, 0, 1⟩
/-- 1 from step 1 of Table 7-6 to the end of capo -/
def MERGE_STATUS_CAPO : Field := ⟨0x600008, 0x0, 1, 0x0, 1, 27, 1, .ro, false, 0, 0, 1⟩
/-- A MERGE_ write was refused -/
def MERGE_STATUS_CFG_REJECT : Field := ⟨0x600008, 0x0, 1, 0x0, 1, 28, 1, .rw1c, false, 0, 0, 1⟩
/-- Distinct persistence points pending, 0–7; 7 also means 8 or 9, the ninth being the place kept for GPF (R159) -/
def MERGE_STATUS_POINTS : Field := ⟨0x600008, 0x0, 1, 0x0, 1, 29, 3, .ro, false, 0, 0, 7⟩
/-- Channel limit L (R156); 1,062,557 at the largest budget -/
def MERGE_CHAN_LIMIT_L : Field := ⟨0x60000C, 0x0, 1, 0x0, 1, 0, 21, .ro, false, 354185, 0, 2097151⟩
/-- Settling entries -/
def MERGE_SETTLING_LINES : Field := ⟨0x600010, 0x0, 1, 0x0, 1, 0, 26, .ro, false, 0, 0, 67108863⟩
/-- Entries with FILL_PEND, device-wide -/
def MERGE_PARTIAL_LINES : Field := ⟨0x600014, 0x0, 1, 0x0, 1, 0, 16, .ro, false, 0, 0, 65535⟩
/-- Reported GPF phase 2 duration, ms (R160) -/
def MERGE_GPF_DUR_MS : Field := ⟨0x600018, 0x0, 1, 0x0, 1, 0, 8, .ro, false, 9, 0, 255⟩
/-- Dirty Shutdown Count (R165) -/
def MERGE_DSC : Field := ⟨0x60001C, 0x0, 1, 0x0, 1, 0, 32, .ro, false, 0, 0, 4294967295⟩
/-- Duration of steps 1–5 of the last capo, µs -/
def MERGE_LAST_CAPO_FLUSH_US : Field := ⟨0x600020, 0x0, 1, 0x0, 1, 0, 24, .ro, false, 0, 0, 16777215⟩
/-- 0: none since cold start; 1: CLEAN; 2: LOSS; 3: warm resumption -/
def MERGE_LAST_CAPO_RESULT : Field := ⟨0x600020, 0x0, 1, 0x0, 1, 24, 2, .ro, false, 0, 0, 3⟩
/-- Completion stroke of the last persistence point, bits 31:0 -/
def MERGE_POINT_LO_STROKE_LO : Field := ⟨0x600024, 0x0, 1, 0x0, 1, 0, 32, .ro, false, 0, 0, 4294967295⟩
/-- Bits 63:32, as latched -/
def MERGE_POINT_HI_STROKE_HI : Field := ⟨0x600028, 0x0, 1, 0x0, 1, 0, 32, .ro, false, 0, 0, 4294967295⟩
/-- Writes merged -/
def MERGE_MERGE_CNT : Field := ⟨0x600040, 0x0, 1, 0x0, 1, 0, 32, .ro, false, 0, 0, 4294967295⟩
/-- Lines verified on media by drain or flush -/
def MERGE_DRAIN_CNT : Field := ⟨0x600044, 0x0, 1, 0x0, 1, 0, 32, .ro, false, 0, 0, 4294967295⟩
/-- Strokes with the budget reached (R157) -/
def MERGE_STALL_CNT : Field := ⟨0x600048, 0x0, 1, 0x0, 1, 0, 32, .ro, false, 0, 0, 4294967295⟩
/-- Fill reads issued -/
def MERGE_FILL_CNT : Field := ⟨0x60004C, 0x0, 1, 0x0, 1, 0, 32, .ro, false, 0, 0, 4294967295⟩
/-- Fills that set FILL_BAD (R151) -/
def MERGE_FILL_BAD_CNT : Field := ⟨0x600050, 0x0, 1, 0x0, 1, 0, 32, .ro, false, 0, 0, 4294967295⟩
/-- Settling copies failing class F (R155) -/
def MERGE_SETTLE_REFETCH_CNT : Field := ⟨0x600054, 0x0, 1, 0x0, 1, 0, 32, .ro, false, 0, 0, 4294967295⟩
/-- Writes that waited for a record (R143) -/
def MERGE_SET_FULL_CNT : Field := ⟨0x600058, 0x0, 1, 0x0, 1, 0, 32, .ro, false, 0, 0, 4294967295⟩
/-- Lines lost in capo or at a partial point -/
def MERGE_LOST_CNT : Field := ⟨0x60005C, 0x0, 1, 0x0, 1, 0, 32, .ro, false, 0, 0, 4294967295⟩
/-- 1: clear 0x0040–0x005C -/
def MERGE_CNT_CLR_CLR : Field := ⟨0x600060, 0x0, 1, 0x0, 1, 0, 1, .wo, false, 0, 0, 1⟩
/-- Bit g: way group g enabled (R172) -/
def CACHE_WAY_CFG_GROUP_EN : Field := ⟨0x700000, 0x1000, 4, 0x0, 1, 0, 8, .rws, false, 255, 0, 255⟩
/-- Bit g: group g enabled and powered -/
def CACHE_WAY_STATUS_ENABLED : Field := ⟨0x700004, 0x1000, 4, 0x0, 1, 0, 8, .ro, false, 255, 0, 255⟩
/-- Bit g: group g cleaning -/
def CACHE_WAY_STATUS_CLEANING : Field := ⟨0x700004, 0x1000, 4, 0x0, 1, 8, 8, .ro, false, 0, 0, 255⟩
/-- Reads answered by this slice's cache -/
def CACHE_HIT_CNT : Field := ⟨0x700008, 0x1000, 4, 0x0, 1, 0, 32, .ro, false, 0, 0, 4294967295⟩
/-- Reads missing in this slice's cache -/
def CACHE_MISS_CNT : Field := ⟨0x70000C, 0x1000, 4, 0x0, 1, 0, 32, .ro, false, 0, 0, 4294967295⟩
/-- Lines this slice forwarded as F holder -/
def CACHE_FWD_CNT : Field := ⟨0x700010, 0x1000, 4, 0x0, 1, 0, 32, .ro, false, 0, 0, 4294967295⟩
/-- Fills not installed (R169) -/
def CACHE_FILL_DROP_CNT : Field := ⟨0x700014, 0x1000, 4, 0x0, 1, 0, 32, .ro, false, 0, 0, 4294967295⟩
/-- Fills that waited for a write-through (R170) -/
def CACHE_WT_WAIT_CNT : Field := ⟨0x700018, 0x1000, 4, 0x0, 1, 0, 32, .ro, false, 0, 0, 4294967295⟩
/-- 1: clear 0x0008–0x0018 -/
def CACHE_CNT_CLR_CLR : Field := ⟨0x70001C, 0x1000, 4, 0x0, 1, 0, 1, .wo, false, 0, 0, 1⟩
/-- 1: read-cache probes and fills (R176) -/
def CACHE_RC_CFG_EN : Field := ⟨0x708000, 0x0, 1, 0x0, 1, 0, 1, .rws, false, 1, 0, 1⟩
/-- 1: MemSpecRd may fill -/
def CACHE_RC_CFG_SPEC_FILL_EN : Field := ⟨0x708000, 0x0, 1, 0x0, 1, 1, 1, .rws, false, 1, 0, 1⟩
/-- Probes that answered a read -/
def CACHE_RC_HIT_CNT : Field := ⟨0x708004, 0x0, 1, 0x0, 1, 0, 32, .ro, false, 0, 0, 4294967295⟩
/-- Tag matches refused by R15 -/
def CACHE_RC_STALE_CNT : Field := ⟨0x708008, 0x0, 1, 0x0, 1, 0, 32, .ro, false, 0, 0, 4294967295⟩
/-- Lines filled -/
def CACHE_RC_FILL_CNT : Field := ⟨0x70800C, 0x0, 1, 0x0, 1, 0, 32, .ro, false, 0, 0, 4294967295⟩
/-- Fills dropped (R15, R16) -/
def CACHE_RC_FILL_DROP_CNT : Field := ⟨0x708010, 0x0, 1, 0x0, 1, 0, 32, .ro, false, 0, 0, 4294967295⟩
/-- Reads admitted without a probe for lack of class 4 bandwidth -/
def CACHE_RC_PROBE_SKIP_CNT : Field := ⟨0x708014, 0x0, 1, 0x0, 1, 0, 32, .ro, false, 0, 0, 4294967295⟩
/-- 1: clear 0x8004–0x8014 -/
def CACHE_RC_CNT_CLR_CLR : Field := ⟨0x708018, 0x0, 1, 0x0, 1, 0, 1, .wo, false, 0, 0, 1⟩
/-- Snoop timeout in ms (R185); range 1–255 -/
def DIR_CFG_BI_TIMEOUT : Field := ⟨0x780000, 0x0, 1, 0x0, 1, 0, 8, .rws, false, 10, 1, 255⟩
/-- Host directory entries in use, 0–2,097,152 -/
def DIR_HOST_STATUS_ENTRIES : Field := ⟨0x780004, 0x0, 1, 0x0, 1, 0, 22, .ro, false, 0, 0, 4194303⟩
/-- Entries with OVERFLOW set -/
def DIR_HOST_OVF_ENTRIES : Field := ⟨0x780008, 0x0, 1, 0x0, 1, 0, 22, .ro, false, 0, 0, 4194303⟩
/-- Slice directory entries in use, 0–524,288 -/
def DIR_SLICE_STATUS_ENTRIES : Field := ⟨0x78000C, 0x0, 1, 0x0, 1, 0, 20, .ro, false, 0, 0, 1048575⟩
/-- Eviction buffer entries in use, 0–1,024 -/
def DIR_EVBUF_USED : Field := ⟨0x780010, 0x0, 1, 0x0, 1, 0, 11, .ro, false, 0, 0, 2047⟩
/-- 1 while a device-internal back-invalidate or write runs (R190) -/
def DIR_INTERNAL_BUSY : Field := ⟨0x780014, 0x0, 1, 0x0, 1, 0, 1, .ro, false, 0, 0, 1⟩
/-- 0: none; 1: Sanitize; 2: Secure Erase; 3: RELEASE RANGE; 4: poison clear; 5: re-key; 6: Inject Poison; 7 reserved -/
def DIR_INTERNAL_KIND : Field := ⟨0x780014, 0x0, 1, 0x0, 1, 1, 3, .ro, false, 0, 0, 7⟩
/-- BISnp messages sent -/
def DIR_BISNP_CNT : Field := ⟨0x780020, 0x0, 1, 0x0, 1, 0, 32, .ro, false, 0, 0, 4294967295⟩
/-- Broadcasts under OVERFLOW (R184) -/
def DIR_BCAST_CNT : Field := ⟨0x780024, 0x0, 1, 0x0, 1, 0, 32, .ro, false, 0, 0, 4294967295⟩
/-- Write-backs forwarded to a requester (R187) -/
def DIR_FWD_CNT : Field := ⟨0x780028, 0x0, 1, 0x0, 1, 0, 32, .ro, false, 0, 0, 4294967295⟩
/-- Host directory evictions (R186) -/
def DIR_EVICT_CNT : Field := ⟨0x78002C, 0x0, 1, 0x0, 1, 0, 32, .ro, false, 0, 0, 4294967295⟩
/-- Snoops timed out (R185) -/
def DIR_BI_TIMEOUT_CNT : Field := ⟨0x780030, 0x0, 1, 0x0, 1, 0, 32, .ro, false, 0, 0, 4294967295⟩
/-- BIConflict messages received (R189) -/
def DIR_CONFLICT_CNT : Field := ⟨0x780034, 0x0, 1, 0x0, 1, 0, 32, .ro, false, 0, 0, 4294967295⟩
/-- Requests that waited for the eviction buffer, or for a set whose entries were all BUSY (R186) -/
def DIR_RESOLVE_WAIT_CNT : Field := ⟨0x780038, 0x0, 1, 0x0, 1, 0, 32, .ro, false, 0, 0, 4294967295⟩
/-- Slice directory evictions (R173) -/
def DIR_SLICE_EVICT_CNT : Field := ⟨0x78003C, 0x0, 1, 0x0, 1, 0, 32, .ro, false, 0, 0, 4294967295⟩
/-- 1: clear 0x0020–0x003C -/
def DIR_CNT_CLR_CLR : Field := ⟨0x780040, 0x0, 1, 0x0, 1, 0, 1, .wo, false, 0, 0, 1⟩
/-- Pool state Yellow or worse (Table 6-8) -/
def ERR_HEALTH_EVENT_POOL : Field := ⟨0x900000, 0x0, 1, 0x0, 1, 0, 1, .rw1c, false, 0, 0, 1⟩
/-- A die is declared failed (R103) -/
def ERR_HEALTH_EVENT_DIE_FAIL : Field := ⟨0x900000, 0x0, 1, 0x0, 1, 1, 1, .rw1c, false, 0, 0, 1⟩
/-- A leaky bucket overflowed (R201) -/
def ERR_HEALTH_EVENT_BUCKET_OVF : Field := ⟨0x900000, 0x0, 1, 0x0, 1, 2, 1, .rw1c, false, 0, 0, 1⟩
/-- An uncorrectable or detected error was recorded -/
def ERR_HEALTH_EVENT_UNCORR : Field := ⟨0x900000, 0x0, 1, 0x0, 1, 3, 1, .rw1c, false, 0, 0, 1⟩
/-- Dirty-data-lost was logged -/
def ERR_HEALTH_EVENT_DIRTY_LOST : Field := ⟨0x900000, 0x0, 1, 0x0, 1, 4, 1, .rw1c, false, 0, 0, 1⟩
/-- Life used at or above its alert threshold -/
def ERR_HEALTH_EVENT_LIFE : Field := ⟨0x900000, 0x0, 1, 0x0, 1, 5, 1, .rw1c, false, 0, 0, 1⟩
/-- Temperature beyond an alert threshold -/
def ERR_HEALTH_EVENT_TEMP : Field := ⟨0x900000, 0x0, 1, 0x0, 1, 6, 1, .rw1c, false, 0, 0, 1⟩
/-- A patrol pass was late (R204) -/
def ERR_HEALTH_EVENT_PATROL_LATE : Field := ⟨0x900000, 0x0, 1, 0x0, 1, 7, 1, .rw1c, false, 0, 0, 1⟩
/-- Poison list full (R202) -/
def ERR_HEALTH_EVENT_POISON_FULL : Field := ⟨0x900000, 0x0, 1, 0x0, 1, 8, 1, .rw1c, false, 0, 0, 1⟩
/-- Media Status changed -/
def ERR_HEALTH_EVENT_MEDIA_STATUS : Field := ⟨0x900000, 0x0, 1, 0x0, 1, 9, 1, .rw1c, false, 0, 0, 1⟩
/-- Bit i: ERR_HEALTH_EVENT bit i does not assert ALERT_N -/
def ERR_HEALTH_MASK_MASK : Field := ⟨0x900004, 0x0, 1, 0x0, 1, 0, 10, .rws, false, 0, 0, 1023⟩
/-- Health Status bits (Table 9-8) -/
def ERR_HEALTH_STATUS_HEALTH : Field := ⟨0x900008, 0x0, 1, 0x0, 1, 0, 3, .ro, false, 0, 0, 7⟩
/-- Media Status code (Table 9-8) -/
def ERR_HEALTH_STATUS_MEDIA : Field := ⟨0x900008, 0x0, 1, 0x0, 1, 3, 4, .ro, false, 1, 0, 15⟩
/-- Life used, 0–100 -/
def ERR_HEALTH_STATUS_LIFE_USED : Field := ⟨0x900008, 0x0, 1, 0x0, 1, 7, 7, .ro, false, 0, 0, 127⟩
/-- Die temperature, °C -/
def ERR_HEALTH_STATUS_TEMP : Field := ⟨0x900008, 0x0, 1, 0x0, 1, 14, 8, .ro, false, 0, 0, 255⟩
/-- Bus writes ignored because they reached one or more RWM fields, counted once per write whatever its value (R8) -/
def ERR_RWM_REJECT : Field := ⟨0x90000C, 0x0, 1, 0x0, 1, 0, 32, .ro, false, 0, 0, 4294967295⟩
/-- Corrected volatile errors since start -/
def ERR_CORR_VOL_CNT : Field := ⟨0x900010, 0x0, 1, 0x0, 1, 0, 32, .ro, false, 0, 0, 4294967295⟩
/-- Corrected persistent errors; restored from the keep -/
def ERR_CORR_PERS_CNT : Field := ⟨0x900014, 0x0, 1, 0x0, 1, 0, 32, .ro, false, 0, 0, 4294967295⟩
/-- Detected errors in the class M rows of Table 9-3, and uncorrectable media lines -/
def ERR_UNCORR_CNT : Field := ⟨0x900018, 0x0, 1, 0x0, 1, 0, 32, .ro, false, 0, 0, 4294967295⟩
/-- Lines logged Dirty-data-lost -/
def ERR_DIRTY_LOST_CNT : Field := ⟨0x90001C, 0x0, 1, 0x0, 1, 0, 32, .ro, false, 0, 0, 4294967295⟩
/-- DPA bits 31:0 of the last uncorrectable media line -/
def ERR_LAST_UNCORR_LO_DPA_LO : Field := ⟨0x900020, 0x0, 1, 0x0, 1, 0, 32, .ro, false, 0, 0, 4294967295⟩
/-- DPA bits 42:32, as latched -/
def ERR_LAST_UNCORR_HI_DPA_HI : Field := ⟨0x900024, 0x0, 1, 0x0, 1, 0, 11, .ro, false, 0, 0, 2047⟩
/-- 1: the DPA is valid -/
def ERR_LAST_UNCORR_HI_VALID : Field := ⟨0x900024, 0x0, 1, 0x0, 1, 11, 1, .ro, false, 0, 0, 1⟩
/-- Poison list records, 0–1,048,576 -/
def ERR_POISON_LIST_RECORDS : Field := ⟨0x900028, 0x0, 1, 0x0, 1, 0, 21, .ro, false, 0, 0, 2097151⟩
/-- 1: lines were poisoned without a record (R202) -/
def ERR_POISON_LIST_OVERFLOW : Field := ⟨0x900028, 0x0, 1, 0x0, 1, 21, 1, .ro, false, 0, 0, 1⟩
/-- Duration of the last HBM fill, µs (R200) -/
def ERR_HBM_FILL_US : Field := ⟨0x90002C, 0x0, 1, 0x0, 1, 0, 16, .ro, false, 0, 0, 65535⟩
/-- 1: fill complete -/
def ERR_HBM_FILL_DONE : Field := ⟨0x90002C, 0x0, 1, 0x0, 1, 16, 1, .ro, false, 0, 0, 1⟩
/-- Patrol pass, hours; range 1–24 (R204) -/
def ERR_PATROL_CFG_PASS : Field := ⟨0x900030, 0x0, 1, 0x0, 1, 0, 5, .rws, false, 24, 1, 24⟩
/-- Refresh horizon, days; range 1–14, within R207 -/
def ERR_PATROL_CFG_HORIZON : Field := ⟨0x900030, 0x0, 1, 0x0, 1, 5, 5, .rws, false, 14, 1, 14⟩
/-- Corrected bits that refresh a page; range 1–10 -/
def ERR_PATROL_CFG_REFRESH_BITS : Field := ⟨0x900030, 0x0, 1, 0x0, 1, 10, 4, .rws, false, 6, 1, 10⟩
/-- Current pass, percent complete -/
def ERR_PATROL_STATUS_PROGRESS : Field := ⟨0x900034, 0x0, 1, 0x0, 1, 0, 7, .ro, false, 0, 0, 127⟩
/-- Duration of the last complete pass, hours -/
def ERR_PATROL_STATUS_LAST_PASS : Field := ⟨0x900034, 0x0, 1, 0x0, 1, 8, 8, .ro, false, 0, 0, 255⟩
/-- Late passes; saturates at 0xFFFF -/
def ERR_PATROL_STATUS_LATE : Field := ⟨0x900034, 0x0, 1, 0x0, 1, 16, 16, .ro, false, 0, 0, 65535⟩
/-- SCRUB RANGE and Scan Media rate, GB/s; range 1–64 -/
def ERR_SCRUB_CFG_RATE : Field := ⟨0x900038, 0x0, 1, 0x0, 1, 0, 7, .rws, false, 8, 1, 64⟩
/-- Pages refreshed (R206) -/
def ERR_REFRESH_CNT : Field := ⟨0x90003C, 0x0, 1, 0x0, 1, 0, 32, .ro, false, 0, 0, 4294967295⟩
/-- Lines written back after reconstruction (R194) -/
def ERR_REWRITE_CNT : Field := ⟨0x900040, 0x0, 1, 0x0, 1, 0, 32, .ro, false, 0, 0, 4294967295⟩
/-- An ERR_ write was refused -/
def ERR_STATUS_CFG_REJECT : Field := ⟨0x900044, 0x0, 1, 0x0, 1, 0, 1, .rw1c, false, 0, 0, 1⟩
/-- 1 while SCRUB RANGE or Scan Media runs -/
def ERR_STATUS_SCRUB_BUSY : Field := ⟨0x900044, 0x0, 1, 0x0, 1, 1, 1, .ro, false, 0, 0, 1⟩
/-- 1: clear 0x0018, 0x001C, 0x003C and 0x0040 -/
def ERR_CNT_CLR_CLR : Field := ⟨0x900048, 0x0, 1, 0x0, 1, 0, 1, .wo, false, 0, 0, 1⟩
/-- Range 1–65,535 -/
def ERR_BUCKET_CFG_DEPTH : Field := ⟨0x900100, 0x8, 16, 0x0, 1, 0, 16, .rws, false, 256, 1, 65535⟩
/-- Events leaked per sync epoch; range 0–4,095 -/
def ERR_BUCKET_CFG_LEAK : Field := ⟨0x900100, 0x8, 16, 0x0, 1, 16, 12, .rws, false, 2, 0, 4095⟩
/-- Current level -/
def ERR_BUCKET_STATUS_LEVEL : Field := ⟨0x900104, 0x8, 16, 0x0, 1, 0, 16, .ro, false, 0, 0, 65535⟩
/-- Overflows; saturates at 0xFFFF; cleared only by cold reset -/
def ERR_BUCKET_STATUS_OVF_CNT : Field := ⟨0x900104, 0x8, 16, 0x0, 1, 16, 16, .ro, false, 0, 0, 65535⟩
/-- Officer keys in the set, 0–4 -/
def PROT_STATUS_OFFICERS : Field := ⟨0x800000, 0x0, 1, 0x0, 1, 0, 3, .ro, false, 0, 0, 7⟩
/-- Motions Lodged, 0–4 -/
def PROT_STATUS_LODGED : Field := ⟨0x800000, 0x0, 1, 0x0, 1, 3, 3, .ro, false, 0, 0, 7⟩
/-- 1 while a re-key pass runs -/
def PROT_STATUS_REKEY : Field := ⟨0x800000, 0x0, 1, 0x0, 1, 6, 1, .ro, false, 0, 0, 1⟩
/-- Range of the pass -/
def PROT_STATUS_REKEY_RANGE : Field := ⟨0x800000, 0x0, 1, 0x0, 1, 7, 5, .ro, false, 0, 0, 31⟩
/-- 1: unlock granted for the next cold start -/
def PROT_STATUS_UNLOCK : Field := ⟨0x800000, 0x0, 1, 0x0, 1, 12, 1, .ro, false, 0, 0, 1⟩
/-- 1: an ERASE_AUTH is within its 120 s -/
def PROT_STATUS_ERASE_AUTH : Field := ⟨0x800000, 0x0, 1, 0x0, 1, 13, 1, .ro, false, 0, 0, 1⟩
/-- Pass rate, GB/s; range 1–31 -/
def PROT_REKEY_CFG_RATE : Field := ⟨0x800004, 0x0, 1, 0x0, 1, 0, 5, .rws, false, 4, 1, 31⟩
/-- Tracts still to move -/
def PROT_REKEY_STATUS_TRACTS_LEFT : Field := ⟨0x800008, 0x0, 1, 0x0, 1, 0, 20, .ro, false, 0, 0, 1048575⟩
/-- Granules in use, 0–2,048 -/
def PROT_INTEG_STATUS_GRANULES : Field := ⟨0x80000C, 0x0, 1, 0x0, 1, 0, 12, .ro, false, 0, 0, 4095⟩
/-- Dirty metadata lines (R229) -/
def PROT_INTEG_DIRTY_LINES : Field := ⟨0x800010, 0x0, 1, 0x0, 1, 0, 22, .ro, false, 0, 0, 4194303⟩
/-- Motions applied -/
def PROT_MOTION_CNT : Field := ⟨0x800014, 0x0, 1, 0x0, 1, 0, 32, .ro, false, 0, 0, 4294967295⟩
/-- Last reason other than 0x00 and 0x05 -/
def PROT_MOTION_REJECT_LAST_REASON : Field := ⟨0x800018, 0x0, 1, 0x0, 1, 0, 8, .ro, false, 0, 0, 255⟩
/-- Refusals; saturates at 0xFF_FFFF -/
def PROT_MOTION_REJECT_COUNT : Field := ⟨0x800018, 0x0, 1, 0x0, 1, 8, 24, .ro, false, 0, 0, 16777215⟩
/-- Motions lapsed -/
def PROT_LAPSE_CNT : Field := ⟨0x80001C, 0x0, 1, 0x0, 1, 0, 32, .ro, false, 0, 0, 4294967295⟩
/-- Duplicates answered with 0x05 -/
def PROT_DUP_CNT : Field := ⟨0x800020, 0x0, 1, 0x0, 1, 0, 32, .ro, false, 0, 0, 4294967295⟩
/-- Integrity failures, all ranges (R230) -/
def PROT_INTEG_FAIL_CNT : Field := ⟨0x800024, 0x0, 1, 0x0, 1, 0, 32, .ro, false, 0, 0, 4294967295⟩
/-- 1: clear 0x0014–0x0024 -/
def PROT_CNT_CLR_CLR : Field := ⟨0x800028, 0x0, 1, 0x0, 1, 0, 1, .wo, false, 0, 0, 1⟩
/-- Challenge, bits 31:0 (R244) -/
def PROT_UNLOCK_CHAL_LO_CHAL : Field := ⟨0x800030, 0x0, 1, 0x0, 1, 0, 32, .ro, false, 0, 0, 4294967295⟩
/-- Challenge, bits 63:32 -/
def PROT_UNLOCK_CHAL_HI_CHAL : Field := ⟨0x800034, 0x0, 1, 0x0, 1, 0, 32, .ro, false, 0, 0, 4294967295⟩
/-- Base, 256 MiB units -/
def RANGE_BASE_BASE : Field := ⟨0x801000, 0x20, 17, 0x0, 1, 0, 15, .rwm, false, 0, 0, 32767⟩
/-- 1: range defined -/
def RANGE_BASE_VALID : Field := ⟨0x801000, 0x20, 17, 0x0, 1, 15, 1, .rwm, false, 0, 0, 1⟩
/-- Size, 256 MiB units -/
def RANGE_SIZE_SIZE : Field := ⟨0x801004, 0x20, 17, 0x0, 1, 0, 15, .rwm, false, 0, 0, 32767⟩
/-- 1: integrity-protected -/
def RANGE_SIZE_INTEG : Field := ⟨0x801004, 0x20, 17, 0x0, 1, 15, 1, .rwm, false, 0, 0, 1⟩
/-- 0: none; 1: generated; 2: imported -/
def RANGE_KEY_SOURCE : Field := ⟨0x801008, 0x20, 17, 0x0, 1, 0, 2, .ro, false, 0, 0, 3⟩
/-- 1: the old key set is held for a pass -/
def RANGE_KEY_OLD_HELD : Field := ⟨0x801008, 0x20, 17, 0x0, 1, 2, 1, .ro, false, 0, 0, 1⟩
/-- Key generation -/
def RANGE_KEY_GEN : Field := ⟨0x801008, 0x20, 17, 0x0, 1, 16, 16, .ro, false, 0, 0, 65535⟩
/-- 0: off; 1: verified; 2: unverified -/
def RANGE_STATUS_INTEG_STATE : Field := ⟨0x80100C, 0x20, 17, 0x0, 1, 0, 2, .ro, false, 0, 0, 3⟩
/-- 1: pass running for this range -/
def RANGE_STATUS_REKEY : Field := ⟨0x80100C, 0x20, 17, 0x0, 1, 2, 1, .ro, false, 0, 0, 1⟩
/-- E0 of the pass (R221) -/
def RANGE_REKEY_E0_EPOCH : Field := ⟨0x801010, 0x20, 17, 0x0, 1, 0, 32, .ro, false, 0, 0, 4294967295⟩
/-- Q0, bits 31:0 -/
def RANGE_REKEY_Q0_LO_SEQ : Field := ⟨0x801014, 0x20, 17, 0x0, 1, 0, 32, .ro, false, 0, 0, 4294967295⟩
/-- Q0, bits 63:32 -/
def RANGE_REKEY_Q0_HI_SEQ : Field := ⟨0x801018, 0x20, 17, 0x0, 1, 0, 32, .ro, false, 0, 0, 4294967295⟩
/-- Integrity failures and discarded writes of range n -/
def RANGE_INTEG_FAIL_CNT : Field := ⟨0x80101C, 0x20, 17, 0x0, 1, 0, 32, .ro, false, 0, 0, 4294967295⟩
/-- Table 11-4 -/
def PWR_STATUS_STATE : Field := ⟨0xA00000, 0x0, 1, 0x0, 1, 0, 4, .ro, true, 0, 0, 15⟩
/-- Bit 4 + r − 1: rail r good -/
def PWR_STATUS_RAIL_GOOD : Field := ⟨0xA00000, 0x0, 1, 0x0, 1, 4, 12, .ro, true, 0, 0, 4095⟩
/-- 1: a qualified PWRFAIL_N is in effect (R254) -/
def PWR_STATUS_PF_LATCH : Field := ⟨0xA00000, 0x0, 1, 0x0, 1, 16, 1, .ro, true, 0, 0, 1⟩
/-- Current PWRFAIL_N level, unfiltered -/
def PWR_STATUS_PF_PIN : Field := ⟨0xA00000, 0x0, 1, 0x0, 1, 17, 1, .ro, true, 0, 0, 1⟩
/-- Attempts of the current power-up phase, 0–3 -/
def PWR_STATUS_ATTEMPT : Field := ⟨0xA00000, 0x0, 1, 0x0, 1, 18, 2, .ro, true, 0, 0, 3⟩
/-- 1: in PKG_ON waiting for a shelf power slot -/
def PWR_STATUS_SLOT_WAIT : Field := ⟨0xA00000, 0x0, 1, 0x0, 1, 20, 1, .ro, true, 0, 0, 1⟩
/-- Forced-discharge command code (R248) -/
def PWR_CFG_DISCH_CMD : Field := ⟨0xA00004, 0x0, 1, 0x0, 1, 0, 8, .rw, true, 208, 0, 255⟩
/-- Forced-discharge data byte -/
def PWR_CFG_DISCH_DATA : Field := ⟨0xA00004, 0x0, 1, 0x0, 1, 8, 8, .rw, true, 1, 0, 255⟩
/-- 1: 1 MHz; 0: 400 kHz -/
def PWR_CFG_PMBUS_FAST : Field := ⟨0xA00004, 0x0, 1, 0x0, 1, 16, 1, .rw, true, 1, 0, 1⟩
/-- 1: PEC on every transaction -/
def PWR_CFG_PEC_EN : Field := ⟨0xA00004, 0x0, 1, 0x0, 1, 17, 1, .rw, true, 1, 0, 1⟩
/-- Power-up attempts used up (R252) -/
def PWR_FAULT_UP_FAIL : Field := ⟨0xA00008, 0x0, 1, 0x0, 1, 0, 1, .rw1c, true, 0, 0, 1⟩
/-- Rail fault in service (R253) -/
def PWR_FAULT_RAIL_FAULT : Field := ⟨0xA00008, 0x0, 1, 0x0, 1, 1, 1, .rw1c, true, 0, 0, 1⟩
/-- A rail is hung (R257) -/
def PWR_FAULT_HANG : Field := ⟨0xA00008, 0x0, 1, 0x0, 1, 2, 1, .ro, true, 0, 0, 1⟩
/-- Thermal trip (R262) -/
def PWR_FAULT_THERMTRIP : Field := ⟨0xA00008, 0x0, 1, 0x0, 1, 3, 1, .ro, true, 0, 0, 1⟩
/-- TEST_EN sampled high without unlock (R5) -/
def PWR_FAULT_TEST_EN : Field := ⟨0xA00008, 0x0, 1, 0x0, 1, 4, 1, .ro, true, 0, 0, 1⟩
/-- PMIC configuration refused (R247) -/
def PWR_FAULT_PMIC_CONFIG : Field := ⟨0xA00008, 0x0, 1, 0x0, 1, 5, 1, .rw1c, true, 0, 0, 1⟩
/-- Sequencer in LOCKOUT -/
def PWR_FAULT_LOCKOUT : Field := ⟨0xA00008, 0x0, 1, 0x0, 1, 6, 1, .ro, true, 0, 0, 1⟩
/-- PWRFAIL_N was qualified -/
def PWR_EVENT_PF_QUAL : Field := ⟨0xA0000C, 0x0, 1, 0x0, 1, 0, 1, .rw1c, true, 0, 0, 1⟩
/-- A low did not qualify -/
def PWR_EVENT_PF_GLITCH : Field := ⟨0xA0000C, 0x0, 1, 0x0, 1, 1, 1, .rw1c, true, 0, 0, 1⟩
/-- A warm resumption took place -/
def PWR_EVENT_WARM_RESUME : Field := ⟨0xA0000C, 0x0, 1, 0x0, 1, 2, 1, .rw1c, true, 0, 0, 1⟩
/-- A rail collapsed out of order (R258) -/
def PWR_EVENT_COLLAPSE : Field := ⟨0xA0000C, 0x0, 1, 0x0, 1, 3, 1, .rw1c, true, 0, 0, 1⟩
/-- Power-down without capo before DIRTY (R255) -/
def PWR_EVENT_PRE_DIRTY_OFF : Field := ⟨0xA0000C, 0x0, 1, 0x0, 1, 4, 1, .rw1c, true, 0, 0, 1⟩
/-- A shelf power-off was carried out -/
def PWR_EVENT_SHELF_OFF : Field := ⟨0xA0000C, 0x0, 1, 0x0, 1, 5, 1, .rw1c, true, 0, 0, 1⟩
/-- 0: none; 1: PWRFAIL_N; 2: shelf command; 3: rail fault; 4: thermal trip; 5: power-up failure; other values reserved -/
def PWR_LAST_DOWN_CAUSE : Field := ⟨0xA00010, 0x0, 1, 0x0, 1, 0, 3, .ro, true, 0, 0, 7⟩
/-- 1: capo ran before DOWN -/
def PWR_LAST_DOWN_CAPO : Field := ⟨0xA00010, 0x0, 1, 0x0, 1, 3, 1, .ro, true, 0, 0, 1⟩
/-- 0: none; otherwise the hung rail, 1–12 -/
def PWR_LAST_DOWN_HUNG_RAIL : Field := ⟨0xA00010, 0x0, 1, 0x0, 1, 4, 4, .ro, true, 0, 0, 15⟩
/-- Bit 8 + r − 1: rail r collapsed out of order -/
def PWR_LAST_DOWN_COLLAPSED : Field := ⟨0xA00010, 0x0, 1, 0x0, 1, 8, 12, .ro, true, 0, 0, 4095⟩
/-- DOWN duration, ms; saturates at 4,095 -/
def PWR_LAST_DOWN_DURATION : Field := ⟨0xA00010, 0x0, 1, 0x0, 1, 20, 12, .ro, true, 0, 0, 4095⟩
/-- Bit r − 1: segment A primary of rail r answered -/
def PWR_PRESENT_A_PRI : Field := ⟨0xA00014, 0x0, 1, 0x0, 1, 0, 8, .ro, true, 0, 0, 255⟩
/-- Segment A secondaries -/
def PWR_PRESENT_A_SEC : Field := ⟨0xA00014, 0x0, 1, 0x0, 1, 8, 8, .ro, true, 0, 0, 255⟩
/-- Bit r − 9: segment B primary of rail r answered -/
def PWR_PRESENT_B_PRI : Field := ⟨0xA00014, 0x0, 1, 0x0, 1, 16, 4, .ro, true, 0, 0, 15⟩
/-- Segment B secondaries -/
def PWR_PRESENT_B_SEC : Field := ⟨0xA00014, 0x0, 1, 0x0, 1, 20, 4, .ro, true, 0, 0, 15⟩
/-- Qualified PWRFAIL_N lows -/
def PWR_PF_CNT : Field := ⟨0xA00018, 0x0, 1, 0x0, 1, 0, 32, .ro, true, 0, 0, 4294967295⟩
/-- PWRFAIL_N lows that did not qualify -/
def PWR_GLITCH_CNT : Field := ⟨0xA0001C, 0x0, 1, 0x0, 1, 0, 32, .ro, true, 0, 0, 4294967295⟩
/-- Warm resumptions -/
def PWR_WARM_CNT : Field := ⟨0xA00020, 0x0, 1, 0x0, 1, 0, 32, .ro, true, 0, 0, 4294967295⟩
/-- Power-up failures (R252) -/
def PWR_UPFAIL_CNT : Field := ⟨0xA00024, 0x0, 1, 0x0, 1, 0, 32, .ro, true, 0, 0, 4294967295⟩
/-- 1: clear 0x0018–0x0024 -/
def PWR_CNT_CLR_CLR : Field := ⟨0xA00028, 0x0, 1, 0x0, 1, 0, 1, .wo, true, 0, 0, 1⟩
/-- Last READ_VOUT, mV -/
def PWR_RAIL_VOUT : Field := ⟨0xA00040, 0x4, 12, 0x0, 1, 0, 16, .ro, true, 0, 0, 65535⟩
/-- Last READ_IOUT, 10 mA units; sum of the pair where a secondary answers -/
def PWR_RAIL_IOUT : Field := ⟨0xA00040, 0x4, 12, 0x0, 1, 16, 16, .ro, true, 0, 0, 65535⟩
/-- 1 while a keep program or erase runs (R286) -/
def KEEP_STATUS_BUSY : Field := ⟨0xB00000, 0x0, 1, 0x0, 1, 0, 1, .ro, true, 0, 0, 1⟩
/-- 1: the flash meets R277 -/
def KEEP_STATUS_FLASH_OK : Field := ⟨0xB00000, 0x0, 1, 0x0, 1, 1, 1, .ro, true, 0, 0, 1⟩
/-- A keep copy was degraded (R283) -/
def KEEP_STATUS_DEGRADED : Field := ⟨0xB00000, 0x0, 1, 0x0, 1, 2, 1, .rw1c, true, 0, 0, 1⟩
/-- A keep write failed on both copies -/
def KEEP_STATUS_FAIL : Field := ⟨0xB00000, 0x0, 1, 0x0, 1, 3, 1, .rw1c, true, 0, 0, 1⟩
/-- A keep tie was found (R285) -/
def KEEP_STATUS_TIE : Field := ⟨0xB00000, 0x0, 1, 0x0, 1, 4, 1, .rw1c, true, 0, 0, 1⟩
/-- Operating time, 0.01 h (R289) -/
def KEEP_OPTIME_VALUE : Field := ⟨0xB00004, 0x0, 1, 0x0, 1, 0, 32, .ro, true, 0, 0, 4294967295⟩
/-- Power cycles -/
def KEEP_PCYCLE_VALUE : Field := ⟨0xB00008, 0x0, 1, 0x0, 1, 0, 32, .ro, true, 0, 0, 4294967295⟩
/-- Bytes written, 2³⁶ B units -/
def KEEP_BYTES_WR_VALUE : Field := ⟨0xB0000C, 0x0, 1, 0x0, 1, 0, 32, .ro, true, 0, 0, 4294967295⟩
/-- Keep slots programmed -/
def KEEP_WRITE_CNT : Field := ⟨0xB00010, 0x0, 1, 0x0, 1, 0, 32, .ro, true, 0, 0, 4294967295⟩
/-- Keep sectors erased -/
def KEEP_ERASE_CNT : Field := ⟨0xB00014, 0x0, 1, 0x0, 1, 0, 32, .ro, true, 0, 0, 4294967295⟩
/-- Slots that failed read-back -/
def KEEP_RETRY_CNT : Field := ⟨0xB00018, 0x0, 1, 0x0, 1, 0, 32, .ro, true, 0, 0, 4294967295⟩
/-- 1: clear 0x0010–0x0018 -/
def KEEP_CNT_CLR_CLR : Field := ⟨0xB0001C, 0x0, 1, 0x0, 1, 0, 1, .wo, true, 0, 0, 1⟩
/-- Page shown in the window -/
def KEEP_PAGE_IDX_PAGE : Field := ⟨0xB00040, 0x0, 1, 0x0, 1, 0, 7, .rw, true, 0, 0, 127⟩
/-- 1: the window holds the page -/
def KEEP_PAGE_IDX_READY : Field := ⟨0xB00040, 0x0, 1, 0x0, 1, 31, 1, .ro, true, 0, 0, 1⟩
/-- Permanent slots used, 0–1,024 -/
def CHRON_STATUS_PERM_USED : Field := ⟨0xB01000, 0x0, 1, 0x0, 1, 0, 11, .ro, true, 0, 0, 2047⟩
/-- Records in the buffer, 0–64 -/
def CHRON_STATUS_BUF : Field := ⟨0xB01000, 0x0, 1, 0x0, 1, 12, 7, .ro, true, 0, 0, 127⟩
/-- Open runs, 0–16 -/
def CHRON_STATUS_RUNS : Field := ⟨0xB01000, 0x0, 1, 0x0, 1, 19, 5, .ro, true, 0, 0, 31⟩
/-- 1 while a ring sector is erased -/
def CHRON_STATUS_ERASING : Field := ⟨0xB01000, 0x0, 1, 0x0, 1, 24, 1, .ro, true, 0, 0, 1⟩
/-- Ring sector being written, 0–1,015 -/
def CHRON_HEAD_SECTOR : Field := ⟨0xB01004, 0x0, 1, 0x0, 1, 0, 10, .ro, true, 0, 0, 1023⟩
/-- Write point, 1–127 -/
def CHRON_HEAD_SLOT : Field := ⟨0xB01004, 0x0, 1, 0x0, 1, 10, 7, .ro, true, 0, 0, 127⟩
/-- Sequence of the head sector -/
def CHRON_SECTOR_SEQ_SEQ : Field := ⟨0xB01008, 0x0, 1, 0x0, 1, 0, 32, .ro, true, 0, 0, 4294967295⟩
/-- Records written -/
def CHRON_WRITTEN_CNT : Field := ⟨0xB0100C, 0x0, 1, 0x0, 1, 0, 32, .ro, true, 0, 0, 4294967295⟩
/-- Occurrences folded into runs (R295) -/
def CHRON_REPEAT_CNT : Field := ⟨0xB01010, 0x0, 1, 0x0, 1, 0, 32, .ro, true, 0, 0, 4294967295⟩
/-- Records dropped (R296) -/
def CHRON_DROP_CNT : Field := ⟨0xB01014, 0x0, 1, 0x0, 1, 0, 32, .ro, true, 0, 0, 4294967295⟩
/-- Torn slots skipped at read-out (R297) -/
def CHRON_TORN_CNT : Field := ⟨0xB01018, 0x0, 1, 0x0, 1, 0, 32, .ro, true, 0, 0, 4294967295⟩
/-- Ring sectors passed over after a failed erase -/
def CHRON_BAD_SECTOR_SECTORS : Field := ⟨0xB0101C, 0x0, 1, 0x0, 1, 0, 10, .ro, true, 0, 0, 1023⟩
/-- 1: clear 0x100C–0x1018 -/
def CHRON_CNT_CLR_CLR : Field := ⟨0xB01020, 0x0, 1, 0x0, 1, 0, 1, .wo, true, 0, 0, 1⟩
/-- SHELF_ROLE as sampled -/
def SHELF_STATUS_ROLE : Field := ⟨0xC00000, 0x0, 1, 0x0, 1, 0, 1, .ro, true, 0, 0, 1⟩
/-- 1: acting manager -/
def SHELF_STATUS_MANAGER : Field := ⟨0xC00000, 0x0, 1, 0x0, 1, 1, 1, .ro, true, 0, 0, 1⟩
/-- SHELF_POS as sampled -/
def SHELF_STATUS_POS : Field := ⟨0xC00000, 0x0, 1, 0x0, 1, 2, 5, .ro, true, 0, 0, 31⟩
/-- Table 14-7 -/
def SHELF_STATUS_TIME_STATE : Field := ⟨0xC00000, 0x0, 1, 0x0, 1, 7, 2, .ro, true, 0, 0, 3⟩
/-- 1: in contact (R307) -/
def SHELF_STATUS_CONTACT : Field := ⟨0xC00000, 0x0, 1, 0x0, 1, 9, 1, .ro, true, 0, 0, 1⟩
/-- Table 14-9 -/
def SHELF_DETUNE_EPOCH_HIGH : Field := ⟨0xC00004, 0x0, 1, 0x0, 1, 0, 1, .ro, true, 0, 0, 1⟩
/-- Table 14-9 -/
def SHELF_DETUNE_IMAGE_CLASS : Field := ⟨0xC00004, 0x0, 1, 0x0, 1, 1, 1, .ro, true, 0, 0, 1⟩
/-- Table 14-9 -/
def SHELF_DETUNE_TIME : Field := ⟨0xC00004, 0x0, 1, 0x0, 1, 2, 1, .ro, true, 0, 0, 1⟩
/-- Table 14-9 -/
def SHELF_DETUNE_INTERLEAVE : Field := ⟨0xC00004, 0x0, 1, 0x0, 1, 3, 1, .ro, true, 0, 0, 1⟩
/-- R302 -/
def SHELF_DETUNE_POS_CONFLICT : Field := ⟨0xC00004, 0x0, 1, 0x0, 1, 4, 1, .ro, true, 0, 0, 1⟩
/-- Power-slot spacing, ms; range 1–255 (R320) -/
def SHELF_CFG_SPACING : Field := ⟨0xC00008, 0x0, 1, 0x0, 1, 0, 8, .rw, true, 25, 1, 255⟩
/-- Command resends; range 1–15 (R311) -/
def SHELF_CFG_RETRIES : Field := ⟨0xC00008, 0x0, 1, 0x0, 1, 8, 4, .rw, true, 8, 1, 15⟩
/-- SHL_SYNC delay compensation, CCLK; range 0–255 -/
def SHELF_CFG_SYNC_TRIM : Field := ⟨0xC00008, 0x0, 1, 0x0, 1, 12, 8, .rw, true, 0, 0, 255⟩
/-- 1: take part in a shelf (R300) -/
def SHELF_CFG_LINK_EN : Field := ⟨0xC00008, 0x0, 1, 0x0, 1, 20, 1, .rw, true, 1, 0, 1⟩
/-- Last phase error, signed, as PHASE_ERR -/
def SHELF_PHASE_ERR_CCLK : Field := ⟨0xC0000C, 0x0, 1, 0x0, 1, 0, 32, .ro, true, 0, 0, 4294967295⟩
/-- Configuration epoch, bits 31:0 -/
def SHELF_EPOCH_LO_EPOCH_LO : Field := ⟨0xC00010, 0x0, 1, 0x0, 1, 0, 32, .ro, true, 0, 0, 4294967295⟩
/-- Bits 63:32, as latched -/
def SHELF_EPOCH_HI_EPOCH_HI : Field := ⟨0xC00014, 0x0, 1, 0x0, 1, 0, 32, .ro, true, 0, 0, 4294967295⟩
/-- Bit p: position p in contact, as in the last beacon -/
def SHELF_MEMBERS_POS : Field := ⟨0xC00018, 0x0, 1, 0x0, 1, 0, 32, .ro, true, 0, 0, 4294967295⟩
/-- This member's ACT value (Table 14-4) -/
def SHELF_ACT_STATUS_ACT : Field := ⟨0xC0001C, 0x0, 1, 0x0, 1, 0, 3, .ro, true, 0, 0, 7⟩
/-- As ACT_DECISION -/
def SHELF_ACT_STATUS_DECISION : Field := ⟨0xC0001C, 0x0, 1, 0x0, 1, 3, 2, .ro, true, 0, 0, 3⟩
/-- 1: the last activation was late (R324) -/
def SHELF_ACT_STATUS_LATE : Field := ⟨0xC0001C, 0x0, 1, 0x0, 1, 5, 1, .ro, true, 0, 0, 1⟩
/-- First mismatching set (R317) -/
def SHELF_ILV_STATUS_SET_ID : Field := ⟨0xC00020, 0x0, 1, 0x0, 1, 0, 16, .ro, true, 0, 0, 65535⟩
/-- 1: SET_ID holds a mismatch -/
def SHELF_ILV_STATUS_VALID : Field := ⟨0xC00020, 0x0, 1, 0x0, 1, 16, 1, .ro, true, 0, 0, 1⟩
/-- Last shelf point: bit p, complete -/
def SHELF_POINT_DONE_POS : Field := ⟨0xC00030, 0x0, 1, 0x0, 1, 0, 32, .ro, true, 0, 0, 4294967295⟩
/-- Bit p: partial -/
def SHELF_POINT_PARTIAL_POS : Field := ⟨0xC00034, 0x0, 1, 0x0, 1, 0, 32, .ro, true, 0, 0, 4294967295⟩
/-- Bit p: excluded -/
def SHELF_POINT_EXCL_POS : Field := ⟨0xC00038, 0x0, 1, 0x0, 1, 0, 32, .ro, true, 0, 0, 4294967295⟩
/-- Bit p: no answer -/
def SHELF_POINT_NOANS_POS : Field := ⟨0xC0003C, 0x0, 1, 0x0, 1, 0, 32, .ro, true, 0, 0, 4294967295⟩
/-- Valid frames received -/
def SHELF_FRAME_CNT : Field := ⟨0xC00040, 0x0, 1, 0x0, 1, 0, 32, .ro, true, 0, 0, 4294967295⟩
/-- Frames discarded (R306) -/
def SHELF_CRC_ERR_CNT : Field := ⟨0xC00044, 0x0, 1, 0x0, 1, 0, 32, .ro, true, 0, 0, 4294967295⟩
/-- Duplicate commands (R310) -/
def SHELF_DUP_CNT : Field := ⟨0xC00048, 0x0, 1, 0x0, 1, 0, 32, .ro, true, 0, 0, 4294967295⟩
/-- Commands resent (R311) -/
def SHELF_RESEND_CNT : Field := ⟨0xC0004C, 0x0, 1, 0x0, 1, 0, 32, .ro, true, 0, 0, 4294967295⟩
/-- SHL_SYNC pulses ignored (Table 14-7) -/
def SHELF_SYNC_IGNORE_CNT : Field := ⟨0xC00050, 0x0, 1, 0x0, 1, 0, 32, .ro, true, 0, 0, 4294967295⟩
/-- Shelf-time steps (R314) -/
def SHELF_STEP_CNT : Field := ⟨0xC00054, 0x0, 1, 0x0, 1, 0, 32, .ro, true, 0, 0, 4294967295⟩
/-- 1: clear 0x0040–0x0054 -/
def SHELF_CNT_CLR_CLR : Field := ⟨0xC00058, 0x0, 1, 0x0, 1, 0, 1, .wo, true, 0, 0, 1⟩
/-- 1: clear counters (R357) -/
def TELEM_CTRL_CLR : Field := ⟨0xD00000, 0x0, 1, 0x0, 1, 0, 1, .wo, false, 0, 0, 1⟩
/-- 1: programmable and bandwidth counters stopped -/
def TELEM_CTRL_FREEZE : Field := ⟨0xD00000, 0x0, 1, 0x0, 1, 1, 1, .rw, false, 0, 0, 1⟩
/-- A TELEM_ write was refused -/
def TELEM_STATUS_CFG_REJECT : Field := ⟨0xD00004, 0x0, 1, 0x0, 1, 0, 1, .rw1c, false, 0, 0, 1⟩
/-- 1 while counters are stopped -/
def TELEM_STATUS_FROZEN : Field := ⟨0xD00004, 0x0, 1, 0x0, 1, 1, 1, .ro, false, 0, 0, 1⟩
/-- A snapshot was dropped (R359) -/
def TELEM_STATUS_SNAP_DROP : Field := ⟨0xD00004, 0x0, 1, 0x0, 1, 2, 1, .rw1c, false, 0, 0, 1⟩
/-- Sync epochs per snapshot; 0: none -/
def TELEM_SNAP_CFG_PERIOD : Field := ⟨0xD00008, 0x0, 1, 0x0, 1, 0, 16, .rws, false, 16, 0, 65535⟩
/-- 1: snapshot at the next stroke boundary -/
def TELEM_SNAP_NOW_NOW : Field := ⟨0xD0000C, 0x0, 1, 0x0, 1, 0, 1, .wo, false, 0, 0, 1⟩
/-- SEQ of the last complete record, bits 31:0 -/
def TELEM_SNAP_HEAD_LO_SEQ_LO : Field := ⟨0xD00010, 0x0, 1, 0x0, 1, 0, 32, .ro, false, 0, 0, 4294967295⟩
/-- Bits 63:32, as latched -/
def TELEM_SNAP_HEAD_HI_SEQ_HI : Field := ⟨0xD00014, 0x0, 1, 0x0, 1, 0, 32, .ro, false, 0, 0, 4294967295⟩
/-- Snapshots dropped; saturates at 0xFFFF_FFFF -/
def TELEM_SNAP_DROP_CNT : Field := ⟨0xD00018, 0x0, 1, 0x0, 1, 0, 32, .ro, false, 0, 0, 4294967295⟩
/-- Window of 2^K strokes; range 4–20 -/
def TELEM_BW_CFG_K : Field := ⟨0xD00020, 0x0, 1, 0x0, 1, 0, 5, .rws, false, 14, 4, 20⟩
/-- First stroke of the window held, bits 31:0 -/
def TELEM_BW_WINDOW_LO_STROKE_LO : Field := ⟨0xD00024, 0x0, 1, 0x0, 1, 0, 32, .ro, false, 0, 0, 4294967295⟩
/-- Bits 63:32, as latched -/
def TELEM_BW_WINDOW_HI_STROKE_HI : Field := ⟨0xD00028, 0x0, 1, 0x0, 1, 0, 32, .ro, false, 0, 0, 4294967295⟩
/-- DRS data lines of link l in the window held -/
def TELEM_BW_READ_LINES : Field := ⟨0xD00040, 0x8, 8, 0x0, 1, 0, 32, .ro, false, 0, 0, 4294967295⟩
/-- RwD data lines of link l in the window held -/
def TELEM_BW_WRITE_LINES : Field := ⟨0xD00044, 0x8, 8, 0x0, 1, 0, 32, .ro, false, 0, 0, 4294967295⟩
/-- Bit i: counter i wrapped (R356) -/
def TELEM_BLK_OVF_OVF : Field := ⟨0xD01000, 0x100, 15, 0x0, 1, 0, 8, .rw1c, false, 0, 0, 255⟩
/-- Cycle counter, bits 31:0 (R352) -/
def TELEM_CYC_LO_CYC_LO : Field := ⟨0xD01008, 0x100, 15, 0x0, 1, 0, 32, .ro, false, 0, 0, 4294967295⟩
/-- Bits 63:32, as latched -/
def TELEM_CYC_HI_CYC_HI : Field := ⟨0xD0100C, 0x100, 15, 0x0, 1, 0, 32, .ro, false, 0, 0, 4294967295⟩
/-- Code of Table 16-2 -/
def TELEM_EVT_CFG_EVENT : Field := ⟨0xD01020, 0x100, 15, 0x10, 8, 0, 8, .rws, false, 0, 0, 255⟩
/-- 0: edge; 1: level (R354) -/
def TELEM_EVT_CFG_MODE : Field := ⟨0xD01020, 0x100, 15, 0x10, 8, 8, 1, .rws, false, 0, 0, 1⟩
/-- Table 16-1 -/
def TELEM_EVT_CFG_FILTER : Field := ⟨0xD01020, 0x100, 15, 0x10, 8, 9, 3, .rws, false, 0, 0, 7⟩
/-- 1: FILTER applied -/
def TELEM_EVT_CFG_FILTER_EN : Field := ⟨0xD01020, 0x100, 15, 0x10, 8, 12, 1, .rws, false, 0, 0, 1⟩
/-- Counter i, bits 31:0 -/
def TELEM_CNT_LO_COUNT_LO : Field := ⟨0xD01024, 0x100, 15, 0x10, 8, 0, 32, .ro, false, 0, 0, 4294967295⟩
/-- Bits 47:32, as latched -/
def TELEM_CNT_HI_COUNT_HI : Field := ⟨0xD01028, 0x100, 15, 0x10, 8, 0, 16, .ro, false, 0, 0, 65535⟩
/-- Silicon revision (R1) -/
def TOP_ID_SIL_REV : Field := ⟨0x0, 0x0, 1, 0x0, 1, 0, 8, .ro, false, 176, 0, 255⟩
/-- Part number -/
def TOP_ID_PART : Field := ⟨0x0, 0x0, 1, 0x0, 1, 8, 16, .ro, false, 32868, 0, 65535⟩
/-- 0: GN8064-SB; 1: GN8064-EB -/
def TOP_ID_GRADE : Field := ⟨0x0, 0x0, 1, 0x0, 1, 24, 1, .ro, false, 0, 0, 1⟩
/-- As sampled at application of AUX (R300) -/
def TOP_STRAPS_SHELF_ROLE : Field := ⟨0x4, 0x0, 1, 0x0, 1, 0, 1, .ro, false, 0, 0, 1⟩
/-- As sampled at application of AUX -/
def TOP_STRAPS_SHELF_POS : Field := ⟨0x4, 0x0, 1, 0x0, 1, 1, 5, .ro, false, 0, 0, 31⟩
/-- As sampled at step 2 of the last start (R267) -/
def TOP_STRAPS_BOOT_SEL : Field := ⟨0x4, 0x0, 1, 0x0, 1, 6, 1, .ro, false, 0, 0, 1⟩
/-- As sampled at the last cold start (R5) -/
def TOP_STRAPS_TEST_EN : Field := ⟨0x4, 0x0, 1, 0x0, 1, 7, 1, .ro, false, 0, 0, 1⟩
/-- 1: Memory Media Status reports Ready -/
def TOP_STATUS_READY : Field := ⟨0x8, 0x0, 1, 0x0, 1, 0, 1, .ro, false, 0, 0, 1⟩
/-- 1: recovery mode (R349) -/
def TOP_STATUS_RECOVERY : Field := ⟨0x8, 0x0, 1, 0x0, 1, 1, 1, .ro, false, 0, 0, 1⟩
/-- As `MERGE_STATUS.CAPO` -/
def TOP_STATUS_CAPO : Field := ⟨0x8, 0x0, 1, 0x0, 1, 2, 1, .ro, false, 0, 0, 1⟩
/-- 1 while a warm device reset runs -/
def TOP_STATUS_WARM_BUSY : Field := ⟨0x8, 0x0, 1, 0x0, 1, 3, 1, .ro, false, 0, 0, 1⟩
/-- 0: not known; 1: IL1S; 2: IL2S; 3: IL4S -/
def TOP_STATUS_STACK : Field := ⟨0x8, 0x0, 1, 0x0, 1, 4, 2, .ro, false, 0, 0, 3⟩
/-- A BAR2 write was discarded under R369 -/
def TOP_STATUS_ACCESS_ERR : Field := ⟨0x8, 0x0, 1, 0x0, 1, 6, 1, .rw1c, false, 0, 0, 1⟩
/-- 1: warm device reset, accepted as R274 and Table 15-11 lay down -/
def TOP_CTRL_WARM_RESET : Field := ⟨0xC, 0x0, 1, 0x0, 1, 0, 1, .wo, false, 0, 0, 1⟩
/-- Exported capacity, 256 MiB units: 6,144, 12,288 or 24,576; 0 until step 5 of Table 12-1 -/
def TOP_CAPACITY_UNITS : Field := ⟨0x10, 0x0, 1, 0x0, 1, 0, 15, .ro, false, 0, 0, 32767⟩
/-- Device Serial Number, bits 31:0 -/
def TOP_SERIAL_LO_SERIAL : Field := ⟨0x18, 0x0, 1, 0x0, 1, 0, 32, .ro, false, 0, 0, 4294967295⟩
/-- Bits 63:32 -/
def TOP_SERIAL_HI_SERIAL : Field := ⟨0x1C, 0x0, 1, 0x0, 1, 0, 32, .ro, false, 0, 0, 4294967295⟩
/-- `SCHED_STATUS.CFG_REJECT`, or any bit of `SCHED_CHAN_VIOL_LO` or `SCHED_CHAN_VIOL_HI` -/
def TOP_INT_STATUS_SCHED : Field := ⟨0x20, 0x0, 1, 0x0, 1, 0, 1, .ro, false, 0, 0, 1⟩
/-- Bit 1 + p: any bit of port p's `PORT_EVENT` -/
def TOP_INT_STATUS_PORT : Field := ⟨0x20, 0x0, 1, 0x0, 1, 1, 4, .ro, false, 0, 0, 15⟩
/-- Any bit of `ERR_HEALTH_EVENT`, or `ERR_STATUS.CFG_REJECT` -/
def TOP_INT_STATUS_ERR : Field := ⟨0x20, 0x0, 1, 0x0, 1, 5, 1, .ro, false, 0, 0, 1⟩
/-- Any bit of `PWR_FAULT` or `PWR_EVENT` -/
def TOP_INT_STATUS_PWR : Field := ⟨0x20, 0x0, 1, 0x0, 1, 6, 1, .ro, false, 0, 0, 1⟩
/-- `KEEP_STATUS` DEGRADED, FAIL or TIE -/
def TOP_INT_STATUS_KEEP : Field := ⟨0x20, 0x0, 1, 0x0, 1, 7, 1, .ro, false, 0, 0, 1⟩
/-- Any bit of `SHELF_DETUNE` -/
def TOP_INT_STATUS_SHELF : Field := ⟨0x20, 0x0, 1, 0x0, 1, 8, 1, .ro, false, 0, 0, 1⟩
/-- `TELEM_STATUS` CFG_REJECT or SNAP_DROP, or any `TELEM_BLK_OVF` bit -/
def TOP_INT_STATUS_TELEM : Field := ⟨0x20, 0x0, 1, 0x0, 1, 9, 1, .ro, false, 0, 0, 1⟩
/-- `MERGE_STATUS.CFG_REJECT` -/
def TOP_INT_STATUS_MERGE : Field := ⟨0x20, 0x0, 1, 0x0, 1, 10, 1, .ro, false, 0, 0, 1⟩
/-- `TOP_STATUS.ACCESS_ERR` -/
def TOP_INT_STATUS_TOP : Field := ⟨0x20, 0x0, 1, 0x0, 1, 11, 1, .ro, false, 0, 0, 1⟩
/-- Bit i: status bit i sends no message -/
def TOP_INT_MASK_MASK : Field := ⟨0x24, 0x0, 1, 0x0, 1, 0, 12, .rws, false, 4095, 0, 4095⟩
/-- 1: messages on vector 3 enabled -/
def TOP_INT_CFG_EN : Field := ⟨0x28, 0x0, 1, 0x0, 1, 0, 1, .rws, false, 0, 0, 1⟩

/-- The fields of the SCHED_ block. -/
def allSCHED : List Field :=
  [SCHED_CFG_HORIZON, SCHED_CFG_LATE_ADMIT_EN, SCHED_DRONE_CFG_RECOVERY_RSV, SCHED_STATUS_LAYOUT, SCHED_STATUS_POOL_EXCL, SCHED_STATUS_BOUND_ACTIVE, SCHED_STATUS_CFG_REJECT, SCHED_STROKE_LO_COUNT_LO]
  ++ [SCHED_STROKE_HI_COUNT_HI, SCHED_READ_SUM_SUM, SCHED_WRITE_SUM_SUM, SCHED_C2_VIOL, SCHED_DEFER_CNT, SCHED_HELD_CNT, SCHED_RECOV_OVF, SCHED_MAX_LAT_CCLK]
  ++ [SCHED_BOUND_MISS, SCHED_CNT_CLR_CLR, SCHED_CHAN_VIOL_LO_CHAN, SCHED_CHAN_VIOL_HI_CHAN, SCHED_CAPO_STROKE_LO_COUNT_LO, SCHED_CAPO_STROKE_HI_COUNT_HI]
/-- The fields of the PORT_ block. -/
def allPORT : List Field :=
  [PORT_CFG_MODE, PORT_CFG_BIFURCATE, PORT_CFG_MAX_RATE, PORT_CFG_FLIT68_EN, PORT_CFG_LOFLIT_EN, PORT_MODE_STATUS_MODE, PORT_MODE_STATUS_BIFURCATE, PORT_MODE_STATUS_MODE_PENDING]
  ++ [PORT_LINK_STATUS0_UP, PORT_LINK_STATUS0_RATE, PORT_LINK_STATUS0_WIDTH, PORT_LINK_STATUS0_FLIT, PORT_LINK_STATUS0_IDE, PORT_LINK_STATUS1_UP, PORT_LINK_STATUS1_RATE, PORT_LINK_STATUS1_WIDTH]
  ++ [PORT_LINK_STATUS1_FLIT, PORT_LINK_STATUS1_IDE, PORT_INFLIGHT_LINK0, PORT_INFLIGHT_LINK1, PORT_INFLIGHT_PEAK_LINK0, PORT_INFLIGHT_PEAK_LINK1, PORT_IDE_FAIL_CNT, PORT_LINKDOWN_CNT]
  ++ [PORT_CNT_CLR_CLR, PORT_EVENT_IDE_FAIL, PORT_EVENT_LINK_DOWN, PORT_EVENT_RATE_FALLBACK, PORT_EVENT_WIDTH_DEGRADED, PORT_EVENT_MODE_REJECT]
/-- The fields of the SESS_ block. -/
def allSESS : List Field :=
  [SESS_CFG_STARVE_LIMIT, SESS_CFG_BI_TIMEOUT, SESS_COUNT_ACTIVE, SESS_COUNT_FENCING, SESS_ORPHAN_CNT, SESS_ABORT_CNT, SESS_BI_TIMEOUT_CNT, SESS_CMD_REJECT_LAST_REASON]
  ++ [SESS_CMD_REJECT_COUNT, SESS_CNT_CLR_CLR, SESS_SPILL_CFG_SHARE, SESS_SPILL_STATUS_SHARED_FREE, SESS_HELD, SESS_Q_PARITY_CNT, SESS_Q_LOST_CNT, SESS_HOLD_CNT]
  ++ [SESS_Q_CNT_CLR_CLR]
/-- The fields of the CHAN_ block. -/
def allCHAN : List Field :=
  [CHAN_STATUS_STATE, CHAN_STATUS_DIES, CHAN_STATUS_DIE_FAILED, CHAN_STATUS_ALERT, CHAN_STATUS_RETRAIN, CHAN_STATUS_TBANK, CHAN_TEMP_DIE_TEMP, CHAN_SERIAL_LO_SERIAL]
  ++ [CHAN_SERIAL_HI_SERIAL, CHAN_TRAIN_VALUES, CHAN_CORR_CNT, CHAN_RETRY_CNT, CHAN_RECON_CNT, CHAN_UNCORR_CNT, CHAN_LINK_ERR_CNT, CHAN_VERIFY_FAIL_CNT]
  ++ [CHAN_RETRAIN_CNT, CHAN_LAST_FAIL_OP, CHAN_CNT_CLR_CLR, CHAN_G_CFG_LINK_ERR_LIMIT, CHAN_G_CFG_DIE_FAIL_RECON, CHAN_G_CFG_VERIFY_FAIL_LIMIT, CHAN_G_EVAC_RATE, CHAN_G_EVAC_STATUS_REMAINING]
  ++ [CHAN_G_EVAC_STATUS_ACTIVE, CHAN_G_AGE_EPOCH, CHAN_G_AGE_WAKE, CHAN_G_AGE_REST, CHAN_G_FAILED_DIES]
/-- The fields of the XLAT_ block. -/
def allXLAT : List Field :=
  [XLAT_CFG_LIFT_THRESH, XLAT_CFG_HEAT_HALF, XLAT_CFG_LIFT_EN, XLAT_COOL_CFG_COOL_PASS, XLAT_POOL_CFG_TARGET, XLAT_FLUID_CFG_FLUID_MAX, XLAT_FILL_CFG_FILL_TIMEOUT, XLAT_WEAR_CFG_WEAR_GAP]
  ++ [XLAT_WEAR_CFG_MOVE_MAX, XLAT_POOL_STATUS_FREE, XLAT_POOL_STATUS_STATE, XLAT_HOT_COUNT_BLOCKS, XLAT_COLD_COUNT_BLOCKS, XLAT_LIFTED_PAGES, XLAT_PINNED_LINES, XLAT_MOVES_ACTIVE]
  ++ [XLAT_MOVES_QUEUED, XLAT_SEQ_LO_SEQ_LO, XLAT_SEQ_HI_SEQ_HI, XLAT_SBE_EPOCH, XLAT_REBUILD_STROKES, XLAT_REBUILD_RECON, XLAT_REBUILD_RESUMED, XLAT_LIFT_FULL_CNT]
  ++ [XLAT_RECLAIM_CNT, XLAT_RELOC_CNT, XLAT_COPY_FAIL_CNT, XLAT_PIN_CNT, XLAT_POISON_WR_CNT, XLAT_EQ_SEQ_CNT, XLAT_CNT_CLR_CLR, XLAT_MAP_IDX_TRACT]
  ++ [XLAT_MAP_IDX_READY, XLAT_MAP_LO_ENTRY_LO, XLAT_MAP_HI_ENTRY_HI]
/-- The fields of the MERGE_ block. -/
def allMERGE : List Field :=
  [MERGE_CFG_BUDGET, MERGE_CFG_HOLDUP, MERGE_CFG_MIN_AGE, MERGE_PARTIAL_CFG_MAX, MERGE_STATUS_DIRTY, MERGE_STATUS_LIMIT, MERGE_STATUS_CAPO, MERGE_STATUS_CFG_REJECT]
  ++ [MERGE_STATUS_POINTS, MERGE_CHAN_LIMIT_L, MERGE_SETTLING_LINES, MERGE_PARTIAL_LINES, MERGE_GPF_DUR_MS, MERGE_DSC, MERGE_LAST_CAPO_FLUSH_US, MERGE_LAST_CAPO_RESULT]
  ++ [MERGE_POINT_LO_STROKE_LO, MERGE_POINT_HI_STROKE_HI, MERGE_MERGE_CNT, MERGE_DRAIN_CNT, MERGE_STALL_CNT, MERGE_FILL_CNT, MERGE_FILL_BAD_CNT, MERGE_SETTLE_REFETCH_CNT]
  ++ [MERGE_SET_FULL_CNT, MERGE_LOST_CNT, MERGE_CNT_CLR_CLR]
/-- The fields of the CACHE_ block. -/
def allCACHE : List Field :=
  [CACHE_WAY_CFG_GROUP_EN, CACHE_WAY_STATUS_ENABLED, CACHE_WAY_STATUS_CLEANING, CACHE_HIT_CNT, CACHE_MISS_CNT, CACHE_FWD_CNT, CACHE_FILL_DROP_CNT, CACHE_WT_WAIT_CNT]
  ++ [CACHE_CNT_CLR_CLR, CACHE_RC_CFG_EN, CACHE_RC_CFG_SPEC_FILL_EN, CACHE_RC_HIT_CNT, CACHE_RC_STALE_CNT, CACHE_RC_FILL_CNT, CACHE_RC_FILL_DROP_CNT, CACHE_RC_PROBE_SKIP_CNT]
  ++ [CACHE_RC_CNT_CLR_CLR]
/-- The fields of the DIR_ block. -/
def allDIR : List Field :=
  [DIR_CFG_BI_TIMEOUT, DIR_HOST_STATUS_ENTRIES, DIR_HOST_OVF_ENTRIES, DIR_SLICE_STATUS_ENTRIES, DIR_EVBUF_USED, DIR_INTERNAL_BUSY, DIR_INTERNAL_KIND, DIR_BISNP_CNT]
  ++ [DIR_BCAST_CNT, DIR_FWD_CNT, DIR_EVICT_CNT, DIR_BI_TIMEOUT_CNT, DIR_CONFLICT_CNT, DIR_RESOLVE_WAIT_CNT, DIR_SLICE_EVICT_CNT, DIR_CNT_CLR_CLR]
/-- The fields of the ERR_ block. -/
def allERR : List Field :=
  [ERR_HEALTH_EVENT_POOL, ERR_HEALTH_EVENT_DIE_FAIL, ERR_HEALTH_EVENT_BUCKET_OVF, ERR_HEALTH_EVENT_UNCORR, ERR_HEALTH_EVENT_DIRTY_LOST, ERR_HEALTH_EVENT_LIFE, ERR_HEALTH_EVENT_TEMP, ERR_HEALTH_EVENT_PATROL_LATE]
  ++ [ERR_HEALTH_EVENT_POISON_FULL, ERR_HEALTH_EVENT_MEDIA_STATUS, ERR_HEALTH_MASK_MASK, ERR_HEALTH_STATUS_HEALTH, ERR_HEALTH_STATUS_MEDIA, ERR_HEALTH_STATUS_LIFE_USED, ERR_HEALTH_STATUS_TEMP, ERR_RWM_REJECT]
  ++ [ERR_CORR_VOL_CNT, ERR_CORR_PERS_CNT, ERR_UNCORR_CNT, ERR_DIRTY_LOST_CNT, ERR_LAST_UNCORR_LO_DPA_LO, ERR_LAST_UNCORR_HI_DPA_HI, ERR_LAST_UNCORR_HI_VALID, ERR_POISON_LIST_RECORDS]
  ++ [ERR_POISON_LIST_OVERFLOW, ERR_HBM_FILL_US, ERR_HBM_FILL_DONE, ERR_PATROL_CFG_PASS, ERR_PATROL_CFG_HORIZON, ERR_PATROL_CFG_REFRESH_BITS, ERR_PATROL_STATUS_PROGRESS, ERR_PATROL_STATUS_LAST_PASS]
  ++ [ERR_PATROL_STATUS_LATE, ERR_SCRUB_CFG_RATE, ERR_REFRESH_CNT, ERR_REWRITE_CNT, ERR_STATUS_CFG_REJECT, ERR_STATUS_SCRUB_BUSY, ERR_CNT_CLR_CLR, ERR_BUCKET_CFG_DEPTH]
  ++ [ERR_BUCKET_CFG_LEAK, ERR_BUCKET_STATUS_LEVEL, ERR_BUCKET_STATUS_OVF_CNT]
/-- The fields of the PROT_ block. -/
def allPROT : List Field :=
  [PROT_STATUS_OFFICERS, PROT_STATUS_LODGED, PROT_STATUS_REKEY, PROT_STATUS_REKEY_RANGE, PROT_STATUS_UNLOCK, PROT_STATUS_ERASE_AUTH, PROT_REKEY_CFG_RATE, PROT_REKEY_STATUS_TRACTS_LEFT]
  ++ [PROT_INTEG_STATUS_GRANULES, PROT_INTEG_DIRTY_LINES, PROT_MOTION_CNT, PROT_MOTION_REJECT_LAST_REASON, PROT_MOTION_REJECT_COUNT, PROT_LAPSE_CNT, PROT_DUP_CNT, PROT_INTEG_FAIL_CNT]
  ++ [PROT_CNT_CLR_CLR, PROT_UNLOCK_CHAL_LO_CHAL, PROT_UNLOCK_CHAL_HI_CHAL]
/-- The fields of the RANGE_ block. -/
def allRANGE : List Field :=
  [RANGE_BASE_BASE, RANGE_BASE_VALID, RANGE_SIZE_SIZE, RANGE_SIZE_INTEG, RANGE_KEY_SOURCE, RANGE_KEY_OLD_HELD, RANGE_KEY_GEN, RANGE_STATUS_INTEG_STATE]
  ++ [RANGE_STATUS_REKEY, RANGE_REKEY_E0_EPOCH, RANGE_REKEY_Q0_LO_SEQ, RANGE_REKEY_Q0_HI_SEQ, RANGE_INTEG_FAIL_CNT]
/-- The fields of the PWR_ block. -/
def allPWR : List Field :=
  [PWR_STATUS_STATE, PWR_STATUS_RAIL_GOOD, PWR_STATUS_PF_LATCH, PWR_STATUS_PF_PIN, PWR_STATUS_ATTEMPT, PWR_STATUS_SLOT_WAIT, PWR_CFG_DISCH_CMD, PWR_CFG_DISCH_DATA]
  ++ [PWR_CFG_PMBUS_FAST, PWR_CFG_PEC_EN, PWR_FAULT_UP_FAIL, PWR_FAULT_RAIL_FAULT, PWR_FAULT_HANG, PWR_FAULT_THERMTRIP, PWR_FAULT_TEST_EN, PWR_FAULT_PMIC_CONFIG]
  ++ [PWR_FAULT_LOCKOUT, PWR_EVENT_PF_QUAL, PWR_EVENT_PF_GLITCH, PWR_EVENT_WARM_RESUME, PWR_EVENT_COLLAPSE, PWR_EVENT_PRE_DIRTY_OFF, PWR_EVENT_SHELF_OFF, PWR_LAST_DOWN_CAUSE]
  ++ [PWR_LAST_DOWN_CAPO, PWR_LAST_DOWN_HUNG_RAIL, PWR_LAST_DOWN_COLLAPSED, PWR_LAST_DOWN_DURATION, PWR_PRESENT_A_PRI, PWR_PRESENT_A_SEC, PWR_PRESENT_B_PRI, PWR_PRESENT_B_SEC]
  ++ [PWR_PF_CNT, PWR_GLITCH_CNT, PWR_WARM_CNT, PWR_UPFAIL_CNT, PWR_CNT_CLR_CLR, PWR_RAIL_VOUT, PWR_RAIL_IOUT]
/-- The fields of the KEEP_ block. -/
def allKEEP : List Field :=
  [KEEP_STATUS_BUSY, KEEP_STATUS_FLASH_OK, KEEP_STATUS_DEGRADED, KEEP_STATUS_FAIL, KEEP_STATUS_TIE, KEEP_OPTIME_VALUE, KEEP_PCYCLE_VALUE, KEEP_BYTES_WR_VALUE]
  ++ [KEEP_WRITE_CNT, KEEP_ERASE_CNT, KEEP_RETRY_CNT, KEEP_CNT_CLR_CLR, KEEP_PAGE_IDX_PAGE, KEEP_PAGE_IDX_READY]
/-- The fields of the CHRON_ block. -/
def allCHRON : List Field :=
  [CHRON_STATUS_PERM_USED, CHRON_STATUS_BUF, CHRON_STATUS_RUNS, CHRON_STATUS_ERASING, CHRON_HEAD_SECTOR, CHRON_HEAD_SLOT, CHRON_SECTOR_SEQ_SEQ, CHRON_WRITTEN_CNT]
  ++ [CHRON_REPEAT_CNT, CHRON_DROP_CNT, CHRON_TORN_CNT, CHRON_BAD_SECTOR_SECTORS, CHRON_CNT_CLR_CLR]
/-- The fields of the SHELF_ block. -/
def allSHELF : List Field :=
  [SHELF_STATUS_ROLE, SHELF_STATUS_MANAGER, SHELF_STATUS_POS, SHELF_STATUS_TIME_STATE, SHELF_STATUS_CONTACT, SHELF_DETUNE_EPOCH_HIGH, SHELF_DETUNE_IMAGE_CLASS, SHELF_DETUNE_TIME]
  ++ [SHELF_DETUNE_INTERLEAVE, SHELF_DETUNE_POS_CONFLICT, SHELF_CFG_SPACING, SHELF_CFG_RETRIES, SHELF_CFG_SYNC_TRIM, SHELF_CFG_LINK_EN, SHELF_PHASE_ERR_CCLK, SHELF_EPOCH_LO_EPOCH_LO]
  ++ [SHELF_EPOCH_HI_EPOCH_HI, SHELF_MEMBERS_POS, SHELF_ACT_STATUS_ACT, SHELF_ACT_STATUS_DECISION, SHELF_ACT_STATUS_LATE, SHELF_ILV_STATUS_SET_ID, SHELF_ILV_STATUS_VALID, SHELF_POINT_DONE_POS]
  ++ [SHELF_POINT_PARTIAL_POS, SHELF_POINT_EXCL_POS, SHELF_POINT_NOANS_POS, SHELF_FRAME_CNT, SHELF_CRC_ERR_CNT, SHELF_DUP_CNT, SHELF_RESEND_CNT, SHELF_SYNC_IGNORE_CNT]
  ++ [SHELF_STEP_CNT, SHELF_CNT_CLR_CLR]
/-- The fields of the TELEM_ block. -/
def allTELEM : List Field :=
  [TELEM_CTRL_CLR, TELEM_CTRL_FREEZE, TELEM_STATUS_CFG_REJECT, TELEM_STATUS_FROZEN, TELEM_STATUS_SNAP_DROP, TELEM_SNAP_CFG_PERIOD, TELEM_SNAP_NOW_NOW, TELEM_SNAP_HEAD_LO_SEQ_LO]
  ++ [TELEM_SNAP_HEAD_HI_SEQ_HI, TELEM_SNAP_DROP_CNT, TELEM_BW_CFG_K, TELEM_BW_WINDOW_LO_STROKE_LO, TELEM_BW_WINDOW_HI_STROKE_HI, TELEM_BW_READ_LINES, TELEM_BW_WRITE_LINES, TELEM_BLK_OVF_OVF]
  ++ [TELEM_CYC_LO_CYC_LO, TELEM_CYC_HI_CYC_HI, TELEM_EVT_CFG_EVENT, TELEM_EVT_CFG_MODE, TELEM_EVT_CFG_FILTER, TELEM_EVT_CFG_FILTER_EN, TELEM_CNT_LO_COUNT_LO, TELEM_CNT_HI_COUNT_HI]
/-- The fields of the TOP_ block. -/
def allTOP : List Field :=
  [TOP_ID_SIL_REV, TOP_ID_PART, TOP_ID_GRADE, TOP_STRAPS_SHELF_ROLE, TOP_STRAPS_SHELF_POS, TOP_STRAPS_BOOT_SEL, TOP_STRAPS_TEST_EN, TOP_STATUS_READY]
  ++ [TOP_STATUS_RECOVERY, TOP_STATUS_CAPO, TOP_STATUS_WARM_BUSY, TOP_STATUS_STACK, TOP_STATUS_ACCESS_ERR, TOP_CTRL_WARM_RESET, TOP_CAPACITY_UNITS, TOP_SERIAL_LO_SERIAL]
  ++ [TOP_SERIAL_HI_SERIAL, TOP_INT_STATUS_SCHED, TOP_INT_STATUS_PORT, TOP_INT_STATUS_ERR, TOP_INT_STATUS_PWR, TOP_INT_STATUS_KEEP, TOP_INT_STATUS_SHELF, TOP_INT_STATUS_TELEM]
  ++ [TOP_INT_STATUS_MERGE, TOP_INT_STATUS_TOP, TOP_INT_MASK_MASK, TOP_INT_CFG_EN]

/-- Every register field that has its home in the sparse table. -/
def all : List Field :=
  allSCHED ++ allPORT ++ allSESS ++ allCHAN ++ allXLAT ++ allMERGE ++ allCACHE ++ allDIR ++ allERR ++ allPROT ++ allRANGE ++ allPWR ++ allKEEP ++ allCHRON ++ allSHELF ++ allTELEM ++ allTOP

end Reg

end Sys2Proof.Machine
end

