-- ==== Sys2Proof/Machine/Tab.lean ====
section
/-! DEFINITION. Sparse tables: what the manual lays out as a large array (media lines, tract map, register fields,
sessions) is a list of (key, value) pairs in one canonical form, keys strictly rising and no entry equal to what an
unlisted key reads as. -/

namespace Sys2Proof.Machine

/-- A sparse table with keys in Nat. -/
abbrev Tab (α : Type) := List (Nat × α)

/-- The value at a key; an unlisted key reads as `d`. -/
def Tab.get {α : Type} (d : α) (t : Tab α) (k : Nat) : α :=
  match t with
  | [] => d
  | (k', v) :: r => if k' = k then v else Tab.get d r k

/-- The entry at a key, if listed. -/
def Tab.find {α : Type} (t : Tab α) (k : Nat) : Option α :=
  match t with
  | [] => none
  | (k', v) :: r => if k' = k then some v else Tab.find r k

/-- Drop the entry of a key. -/
def Tab.del {α : Type} (t : Tab α) (k : Nat) : Tab α :=
  match t with
  | [] => []
  | (k', v) :: r => if k' = k then Tab.del r k else (k', v) :: Tab.del r k

/-- Put an entry before the first larger key. -/
def Tab.ins {α : Type} (t : Tab α) (k : Nat) (v : α) : Tab α :=
  match t with
  | [] => [(k, v)]
  | (k', v') :: r => if k < k' then (k, v) :: (k', v') :: r else (k', v') :: Tab.ins r k v

/-- List an entry, replacing one of the same key. -/
def Tab.put {α : Type} (t : Tab α) (k : Nat) (v : α) : Tab α := (t.del k).ins k v

/-- Write a value: writing what an unlisted key reads as removes the entry. -/
def Tab.set {α : Type} [DecidableEq α] (d : α) (t : Tab α) (k : Nat) (v : α) : Tab α :=
  if v = d then t.del k else t.put k v

/-- The canonical form of the keys: strictly rising. -/
def Tab.sorted {α : Type} (t : Tab α) : Bool :=
  match t with
  | [] => true
  | (k, _) :: r => r.all (fun e => decide (k < e.1)) && Tab.sorted r

/-- The canonical form: keys strictly rising, no entry equal to what an unlisted key reads as. -/
def Tab.wf {α : Type} [DecidableEq α] (d : α) (t : Tab α) : Bool :=
  t.sorted && t.all (fun e => decide (e.2 ≠ d))

/-- Keep the entries that satisfy a test. -/
def Tab.keep {α : Type} (p : Nat → α → Bool) (t : Tab α) : Tab α := t.filter (fun e => p e.1 e.2)

/-- Change every listed value; the keys stay. -/
def Tab.mapVals {α β : Type} (f : Nat → α → β) (t : Tab α) : Tab β := t.map (fun e => (e.1, f e.1 e.2))

/-- The least key not listed from `k` upwards within `n` tries. -/
def Tab.fresh {α : Type} (t : Tab α) : Nat → Nat → Nat
  | 0, k => k
  | n + 1, k => match t.find k with
    | none => k
    | some _ => Tab.fresh t n (k + 1)

end Sys2Proof.Machine
end

