-- ==== Sys2Proof/Machine/PartsA.lean ====
section
/-! DEFINITION. State of the AUX domain and of protection: power sequencer, start-up, keep, chronicle, CXL event logs,
protection ranges, officers and motions. Fields that a register shows have their home in the register table
(Machine/RegMap.lean) unless the docstring says that the register is a view of the field here. -/

namespace Sys2Proof.Machine

/-- Shutdown marker (R165). -/
inductive Marker where
  | clean | loss | dirty
  deriving DecidableEq, Repr

/-- What a power-down was decided for (`PWR_LAST_DOWN.CAUSE`, Table 11-8). -/
inductive DownCause where
  | none | pwrfail | shelf | railFault | thermal | upFail
  deriving DecidableEq, Repr

/-- Where DOWN ends (Table 11-6). -/
inductive AfterDown where
  | offHold | lockout | pkgRetry | mediaRetry | mediaStop
  deriving DecidableEq, Repr

/-- The power sequencer beside its PWR_ registers (R246 to R262). -/
structure Pwr where
  /-- AUX is applied (R379) -/
  aux : Bool := false
  /-- rails commanded on, bit r − 1 (R256) -/
  onMask : BitVec 12 := 0
  /-- rail being raised or taken down, 1 to 12; 0: none -/
  rail : Nat := 0
  /-- OPERATION 0x80 has been written to `rail` and its ramp is polled (R251) -/
  ramping : Bool := false
  /-- good polls in a row of the ramping rail (R251) -/
  goodPolls : Nat := 0
  /-- rails out of 92 % to 108 % in their last service poll, bit r − 1 (R253) -/
  lastBad : BitVec 12 := 0
  /-- the forced-discharge command has been written to `rail` (R256) -/
  discharged : Bool := false
  /-- PWRFAIL_N filter counter, 0 to 200 (R254) -/
  pfCount : Nat := 0
  /-- PWRFAIL_N has been high for 100 ms with no qualified low (R250) -/
  high100 : Bool := false
  /-- DIRTY set, in the sense of R250 -/
  dirtySet : Bool := false
  /-- cause that governs the running power-down -/
  cause : DownCause := .none
  /-- where the running power-down ends -/
  after : AfterDown := .offHold
  /-- a shelf power-off is in force (R259) -/
  shelfOff : Bool := false
  /-- a shelf power-on received before all-off is kept (Table 11-6) -/
  keptOn : Bool := false
  /-- stroke of a shelf power-off that waits for its stroke (R321) -/
  offStroke : Option Nat := none
  /-- the media phase waits 100 ms before its next attempt (Table 11-5) -/
  mediaWait : Bool := false
  /-- media attempts are used up until AUX goes or a shelf power-off and power-on (Table 11-5) -/
  mediaStopped : Bool := false
  /-- FPn_RESET_N is driven low on every channel (R251, R256) -/
  fpReset : Bool := true
  /-- PMIC presence has been read since AUX was applied (R247) -/
  pmicRead : Bool := false
  /-- rail-hung record that waits for the next application of AUX (R257) -/
  hungRecord : Option Nat := none
  /-- package-phase attempts since HBM training last succeeded (Table 11-5, step 3 of Table 12-1) -/
  pkgRun : Nat := 0
  /-- rails 12 to 9 are being powered down after a media-phase failure (Table 11-5) -/
  mediaDown : Bool := false
  /-- polls of the rail going down, 100 µs each, since DOWN began (`PWR_LAST_DOWN.DURATION`) -/
  downPolls : Nat := 0
  /-- THERMTRIP_N is asserted (R262) -/
  thermtripN : Bool := false
  deriving DecidableEq, Repr

/-- Progress of a start through Table 12-1, and of a warm device reset through Table 12-5. -/
structure Start where
  step2 : Bool := false
  step3 : Bool := false
  /-- HBM is trained and its fill runs (step 3) -/
  hbmTrained : Bool := false
  step5 : Bool := false
  step6 : Bool := false
  /-- the rebuild has begun and not ended -/
  rebuilding : Bool := false
  step7 : Bool := false
  step8 : Bool := false
  step9 : Bool := false
  /-- a rail 12 good start that stopped at step 5 under R2 -/
  stopped : Bool := false
  /-- failed HBM trainings of this start (Table 12-1) -/
  hbmTries : Nat := 0
  /-- BOOT_SEL as sampled at step 2 (R267) -/
  bootSel : Bool := false
  /-- row of Table 12-2 taken; 0: not yet -/
  row : Nat := 0
  /-- marker read at step 2, before step 10 sets DIRTY -/
  readMarker : Marker := .clean
  /-- this is a first start (R285) -/
  first : Bool := false
  /-- step of a warm device reset, 1 to 6; 0: none runs -/
  warm : Nat := 0
  /-- W2 wrote LOSS (R275) -/
  warmLoss : Bool := false
  /-- STAGING is being copied into ACTIVE (R269) -/
  copying : Bool := false
  deriving DecidableEq, Repr

/-- Origin of the keys of a slot (`RANGE_KEY.SOURCE`). -/
inductive KeySource where
  | none | generated | imported
  deriving DecidableEq, Repr

/-- Key slot of one range (R219). A key set is carried as a name; `none` is a destroyed set (R222).
(DEDUCED, log entry 142). -/
structure KeySlot where
  source : KeySource := .none
  gen : Nat := 0
  keySet : Option Nat := none
  /-- the old key set while a pass runs (R221) -/
  old : Option Nat := none
  e0 : Nat := 0
  q0 : Nat := 0
  /-- the old key set is marked destroyed (R334) -/
  destroyed : Bool := false
  deriving DecidableEq, Repr

/-- Definition of one range (R216, R226): the RANGE_BASE and RANGE_SIZE registers are views of it. -/
structure RangeDef where
  valid : Bool := false
  base : Nat := 0
  size : Nat := 0
  integ : Bool := false
  deriving DecidableEq, Repr

/-- A session key: port, kind (0: LD-ID, 1: SPID) and ID (R50). -/
structure SessKey where
  port : Nat
  kind : Nat
  id : Nat
  deriving DecidableEq, Repr

/-- The descriptor of the image slots (Table 15-9). An image is carried by what its verification reports; that stands for
its digest, LENGTH, VERSION, IMAGE_CLASS and FORMAT. (DEDUCED, log entry 135). -/
structure Descr where
  /-- STAGING_STATE: 0 empty, 1 transferring, 2 valid, 3 activated, 4 invalid -/
  state : Nat := 0
  copyDone : Bool := false
  online : Bool := false
  activeValid : Bool := false
  active : Option ImageReport := none
  staging : Option ImageReport := none
  actStroke : Nat := 0
  deriving DecidableEq, Repr

/-- Payload of a keep page (Table 13-4). -/
inductive PageData where
  /-- page 0: operating time at the first start, stack type -/
  | header (optime stack : Nat)
  /-- page 1 -/
  | state (marker : Marker) (dsc seq sbe ageE shelfTime corrPers : Nat)
  /-- page 2: sealed root record; `good` is what unsealing finds -/
  | roots (roots : Tab Nat) (granules : Tab Nat) (pcycle : Nat)
  /-- page 3 -/
  | nonces (nonce : List (BitVec 64)) (lastGroup : Nat)
  /-- pages 4 and 5 -/
  | officers (keys : List KeyName)
  /-- page 6 -/
  | anchor (digest : Nat) (unlock : Bool)
  /-- page 7 -/
  | merge (budget holdup : Nat)
  /-- pages 8 to 10: serial numbers, by channel -/
  | serials (l : List (BitVec 64))
  /-- page 11: failed dies, by 4 × channel + die -/
  | failed (dies : Tab Bool)
  /-- page 12: bases and generations of the spread counters -/
  | spread (base gen : List Nat)
  /-- page 13 -/
  | ranges (r : Tab RangeDef)
  /-- pages 14 to 22: the granule map -/
  | granules (g : Tab Nat)
  /-- pages 23 to 39 -/
  | keySlot (k : KeySlot)
  /-- pages 40 to 108: session-key bindings, with the range -/
  | bindings (l : List (SessKey × Nat))
  /-- PAGE 0x0100: the descriptor record (R344) -/
  | descriptor (d : Descr)
  deriving DecidableEq, Repr

/-- One version of a keep page in a slot of the flash (Table 13-3). `good` is what its CRC says. -/
structure KeepSlot where
  page : Nat
  seq : Nat
  group : Nat
  data : PageData
  good : Bool
  deriving DecidableEq, Repr

/-- A keep write that waits or is being programmed (R282, R283). -/
structure KeepWrite where
  page : Nat
  group : Nat
  data : PageData
  /-- SEQ and copy (0: A, 1: B) once the write has started -/
  seq : Option Nat := none
  copy : Nat := 0
  /-- slots of this write that failed read-back in the present copy -/
  fails : Nat := 0
  /-- the other copy has failed in this write -/
  otherFailed : Bool := false
  deriving DecidableEq, Repr

/-- One flash operation (R279). -/
inductive FlashOp where
  | keepProgram
  | chronicleProgram
  | imageOp
  | eraseKeep (sector : Nat)
  | eraseRing (sector : Nat)
  deriving DecidableEq, Repr

/-- Update step of a spread counter (R291). -/
inductive SpreadStep where
  | idle | base | erase | header
  deriving DecidableEq, Repr

/-- One spread counter (R289): base and generation of page 12, the header of its increment area (`none`: invalid), the
count of its increment area, and the increments that wait in SRAM. -/
structure Spread where
  base : Nat := 0
  gen : Nat := 0
  header : Option Nat := some 0
  count : Nat := 0
  pending : Nat := 0
  step : SpreadStep := .idle
  deriving DecidableEq, Repr

/-- The keep (R277 to R291). -/
structure Keep where
  /-- shadow: the chosen or newest requested version of every page (R286) -/
  shadow : Tab PageData := []
  /-- current SEQ of each page -/
  seq : Tab Nat := []
  /-- flash slots, by keep sector: copy A of page p is sector 2p, copy B sector 2p + 1 (R281) -/
  sectors : Tab (List KeepSlot) := []
  /-- slots of a sector that read neither erased nor a valid version (abandoned programs), by sector -/
  abandoned : Tab Nat := []
  /-- copies declared degraded, by sector (R283) -/
  degraded : Tab Bool := []
  /-- failed erases in a row, by sector (R283) -/
  eraseFails : Tab Nat := []
  /-- writes that wait, oldest first; the head may be in the flash (R286) -/
  queue : List KeepWrite := []
  /-- writes lost on both copies, retried at the next write of their page or at capo step 6 (R283) -/
  lost : List KeepWrite := []
  /-- sectors to be erased (R282, R285, R291) -/
  toErase : List Nat := []
  /-- pages of groups that have not been committed: group number and page (R284) -/
  groupPages : List (Nat × Nat) := []
  groupCounter : Nat := 0
  optime : Spread := {}
  pcycle : Spread := {}
  bytes : Spread := {}
  /-- lines merged that do not yet make 2^36 B (R289) -/
  byteLines : Nat := 0
  /-- strokes with rail 2 good that do not yet make 36 s (R289) -/
  timeStrokes : Nat := 0
  /-- the operation in the flash (R279) -/
  op : Option FlashOp := none
  /-- an erase suspended by a program or by capo (R279) -/
  suspended : Option FlashOp := none
  deriving DecidableEq, Repr

/-- A chronicle record (Table 13-7). `rep`: occurrences folded into it, once its run has closed (R295). -/
structure ChronRec where
  code : Nat
  source : Nat
  severity : Nat
  optime : Nat
  pcycle : Nat
  stroke : Nat
  payload : List Nat
  rep : Option Nat := none
  deriving DecidableEq, Repr

/-- A slot of the chronicle area: a record or a torn slot (R297). -/
inductive ChronSlot where
  | written (r : ChronRec)
  | torn
  deriving DecidableEq, Repr

/-- A ring sector (R292): its header sequence and its slots from slot 1 on. -/
structure RingSector where
  seq : Option Nat := none
  slots : List ChronSlot := []
  deriving DecidableEq, Repr

/-- Where the record of an open run lies. -/
inductive RunPlace where
  /-- still buffered: the record with this serial number -/
  | buffer (n : Nat)
  | perm (slot : Nat)
  | ring (sector slot : Nat)
  | gone
  deriving DecidableEq, Repr

/-- An open run (R295). -/
structure ChronRun where
  code : Nat
  source : Nat
  place : RunPlace
  count : Nat
  /-- stroke of the last occurrence -/
  last : Nat
  deriving DecidableEq, Repr

/-- The chronicle (R292 to R297). The CHRON_STATUS and CHRON_HEAD registers are views of it. -/
structure Chron where
  perm : List ChronSlot := []
  ring : Tab RingSector := []
  /-- ring sector being written, 0 to 1,015 -/
  head : Nat := 0
  sectorSeq : Nat := 0
  /-- records that wait, oldest first, with a serial number -/
  buffer : List (Nat × ChronRec) := []
  nextSerial : Nat := 0
  runs : List ChronRun := []
  /-- records dropped since the last drop record (R296) -/
  dropped : Nat := 0
  /-- ring sectors passed over after a failed erase (R292) -/
  bad : List Nat := []
  deriving DecidableEq, Repr

/-- The CXL event logs (R211). -/
inductive Log where
  | info | warn | fail | fatal
  deriving DecidableEq, Repr

/-- An event record (Table 9-6). -/
inductive EventRec where
  /-- General Media Event: DPA, threshold flag, transaction type (0: other, 1: host read, 2: host write, 3: host scan
  media, 4: internal media scrub) -/
  | media (dpa : Nat) (threshold : Bool) (transaction : Nat)
  /-- Memory Module Event: what changed (0: health status, 1: media status, 2: life used, 3: temperature) -/
  | module (kind : Nat)
  /-- vendor internal error record (Table 9-7) -/
  | internal (unit cls kind region address count stroke key : Nat)
  /-- vendor integrity event record (R230, R338): range, level, DPA, stroke -/
  | integrity (range level dpa stroke : Nat)
  /-- dynamic capacity event, by its type and extents (R51) -/
  | dynamicCap (type : Nat) (sess : Nat) (extents : List Extent)
  deriving DecidableEq, Repr

/-- One event log. -/
structure EventLog where
  records : List (Nat × EventRec) := []
  overflow : Nat := 0
  /-- times of the first and last record dropped, as Get Timestamp gives them -/
  firstOverflow : Nat := 0
  lastOverflow : Nat := 0
  deriving DecidableEq, Repr

/-- The event logs, the last handle given, and what Set Event Interrupt Policy has set (R211): 0 none, 1 MSI-X, 2 the
firmware interrupt, for each log. -/
structure Events where
  info : EventLog := {}
  warn : EventLog := {}
  fail : EventLog := {}
  fatal : EventLog := {}
  lastHandle : Nat := 0
  policy : List Nat := [0, 0, 0, 0]
  /-- session lookup failures recorded this sync epoch, by port (R52) -/
  orphanSeen : List Nat := []
  /-- poisoned descriptors recorded this sync epoch, by session (R69) -/
  paritySeen : List Nat := []
  deriving DecidableEq, Repr

/-- Integrity state of a range (`RANGE_STATUS.INTEG_STATE`). -/
inductive IntegState where
  | off | verified | unverified
  deriving DecidableEq, Repr

/-- State of a motion (Table 10-7) while the device holds it. -/
inductive MotionState where
  | lodged | applying | applied | lapsed | refused
  deriving DecidableEq, Repr

/-- A motion that is Lodged or Applying. (DESIGN CHOICE, log entry 92). -/
structure Lodged where
  motion : Motion
  /-- stroke in which it was lodged (R238) -/
  stroke : Nat
  /-- the command that answers once it is Applied or Refused (R239) -/
  path : Option CmdPath
  seconder : Nat
  /-- Applying: the number of the keep group that carries it; 0: Lodged -/
  group : Nat
  /-- the group has been committed (R284) -/
  kept : Bool
  /-- name of the new key set, and E0 and Q0 of the pass it starts -/
  key : Nat
  e0 : Nat
  q0 : Nat
  deriving DecidableEq, Repr

/-- A re-key pass, running or waiting for the one before it (R221). -/
structure Rekey where
  range : Nat
  /-- its span in 256 MiB units; range 0: every DPA outside ranges 1 to 16 -/
  base : Nat
  size : Nat
  /-- the span returns to range 0 (RANGE_DELETE) -/
  deleting : Bool
  deriving DecidableEq, Repr

/-- Key sets of one IDE direction (R243): programmed keys of the two sets, and the set in use. -/
structure IdeKeys where
  set0 : Option KeyName := none
  set1 : Option KeyName := none
  going : Option Nat := none
  deriving DecidableEq, Repr

/-- One IDE stream (R47, R243), keyed by 2 × port + link. -/
structure IdeStream where
  rx : IdeKeys := {}
  tx : IdeKeys := {}
  deriving DecidableEq, Repr

/-- An operation on an image slot that waits for the flash or runs in it (R345, R347, R269). -/
inductive ImageOp where
  | transfer | verify | copy | table (chan : Nat)
  deriving DecidableEq, Repr

/-- Protection (R215 to R245). -/
structure Prot where
  ranges : Tab RangeDef := []
  slots : Tab KeySlot := []
  integState : Tab IntegState := []
  /-- granule map: granule → range (R226) -/
  granules : Tab Nat := []
  /-- root counters, by granule (R227, R231) -/
  roots : Tab Nat := []
  /-- line counters of integrity-protected lines, by integrity line index (Table 10-2) -/
  lineCounters : Tab Nat := []
  /-- dirty metadata lines of the node cache, by level × 2^32 + index (R228) -/
  dirtyNodes : List Nat := []
  /-- ranges whose slot has a detected error in both SRAM copies and waits for the keep (R219) -/
  slotBad : List Nat := []
  /-- ranges whose slot could not be unsealed (R219) -/
  slotLost : List Nat := []
  officers : List KeyName := []
  nonces : List (BitVec 64) := [0, 0, 0, 0]
  lodged : List Lodged := []
  /-- the last 16 applied motions -/
  applied : List Motion := []
  /-- session keys authorised for ranges (R54) -/
  bindings : List (SessKey × Nat) := []
  anchor : Nat := 0
  /-- ERASE_AUTH in force: the command it names and the stroke at which it was applied (R222) -/
  eraseAuth : Option (Nat × Nat) := none
  /-- factory unlock grant kept for the next cold start (R244) -/
  unlock : Bool := false
  /-- this start was opened to factory test access (R5) -/
  testAccess : Bool := false
  challenge : BitVec 64 := 0
  /-- re-key passes: the first one runs -/
  rekeys : List Rekey := []
  /-- blocks that Sanitize or Secure Erase has queued and that have not been preconditioned, with the Sanitize command
  that waits for them (R334) -/
  eraseLeft : List Nat := []
  erasePath : Option CmdPath := none
  ide : Tab IdeStream := []
  /-- ports with an SPDM secure session (R243) -/
  spdm : List Nat := []
  deriving DecidableEq, Repr

end Sys2Proof.Machine
end

