-- ==== Sys2Proof/Machine/Out.lean ====
section
/-! DEFINITION. What the block sends to the outside: the transcript of responses, snoops, bus transactions, frames and
interrupts. -/

namespace Sys2Proof.Machine

/-- Completion opcodes of S2M NDR (Table 3-2). -/
inductive NdrOp where
  | cmp | cmpS | cmpE | biConflictAck
  deriving DecidableEq, Repr

/-- BISnp opcodes (R184). -/
inductive BiOp where
  | inv | data | cur
  deriving DecidableEq, Repr

/-- Commands of the channel sequencers on a Fipen link (Chapter Media Channels). -/
inductive FipenCmd where
  | read | exchange | program | toggle | refresh | precondition | suspend | resume | readStatus | loadTable | train
  deriving DecidableEq, Repr

/-- Shelf-link command frames a manager sends (Table 14-2), and the two other frame kinds. -/
inductive ShelfMsg where
  | beacon (b : Beacon)
  | status (f : Status)
  | config (epoch : BitVec 64) (count : Nat)
  | ilvRecord (epoch : BitVec 64) (index : Nat) (r : IlvRecord)
  | slotGrant (stroke : Nat)
  | powerOff (stroke : Nat)
  | powerOn
  | persist (stroke : Nat)
  | actPrepare (stroke : Nat)
  | release
  deriving DecidableEq, Repr

/-- Return codes of mailbox commands, by their CXL names. -/
inductive Rc where
  | success | backgroundStarted | invalidInput | unsupported | unsupportedMailbox | busy | invalidHandle
  | invalidPhysicalAddress | invalidSecurityState | transferInProgress | transferOutOfOrder | verificationFailed
  | invalidSlot | activationFailed | injectPoisonLimit | aborted | internalError
  deriving DecidableEq, Repr

/-- One item of the transcript. (DESIGN CHOICE, log entry 9). -/
inductive Out where
  /-- S2M DRS: data, poison, meta value, DevLoad -/
  | drs (port link ld tag : Nat) (data : LineData) (poison : Bool) (m : MetaValue) (devLoad : Nat)
  /-- S2M NDR -/
  | ndr (port link ld tag : Nat) (op : NdrOp) (devLoad : Nat)
  /-- S2M BISnp of a session's line -/
  | biSnp (port link sess line : Nat) (op : BiOp)
  /-- a PMBus write of rail `rail`, primary or secondary: command code and data -/
  | pmbus (rail : Nat) (secondary : Bool) (code data : Nat)
  /-- an MSI-X message of the function of a port -/
  | msix (port vector : Nat)
  /-- the firmware interrupt of an event log -/
  | fwInterrupt (log : Nat)
  /-- the value a register read returns -/
  | readValue (offset value : Nat)
  /-- a telemetry window read: its bytes -/
  | windowData (bytes : List Nat)
  /-- completion of a mailbox or MCTP command: return code, extended status, output -/
  | response (p : CmdPath) (rc : Rc) (ext : Nat) (data : List Nat)
  /-- the 256 B of a keep page that KEEP READ returns, as the page's payload -/
  | keepPage (p : CmdPath) (page : Nat) (data : Option PageData)
  /-- GPF phase acknowledged (R160) -/
  | gpfAck (port phase : Nat)
  /-- an SPDM response -/
  | spdm (port index : Nat) (digest : List Nat)
  /-- a shelf-link frame: position addressed, broadcast flag, SEQ -/
  | shelf (f : Frame) (m : ShelfMsg)
  /-- a command on a Fipen link -/
  | fipen (chan die bank : Nat) (c : FipenCmd)
  /-- a credit of a link returned (R74): request or data -/
  | credit (port link : Nat) (rwd : Bool) (count : Nat)
  deriving DecidableEq, Repr

end Sys2Proof.Machine
end

