-- ==== Sys2Proof/Machine/PartsH.lean ====
section
/-! DEFINITION. State of the host side: sessions, ingress queues, requests in flight, the merge buffer, the caches and
the directories. -/

namespace Sys2Proof.Machine

/-- M2S opcodes that are queued (Table 4-1). -/
inductive MemOp where
  | memRd | memRdData | memInv | memInvNt | memClnEvct | memWr | memWrPtl | biConflict
  deriving DecidableEq, Repr

/-- OPCODE of Table 4-1. -/
def MemOp.code : MemOp → Nat
  | .memRd => 0 | .memRdData => 1 | .memInv => 2 | .memInvNt => 3 | .memClnEvct => 4
  | .memWr => 6 | .memWrPtl => 7 | .biConflict => 8

/-- The lane an opcode enters (R65). -/
def MemOp.lane : MemOp → Lane
  | .memWr | .memWrPtl | .biConflict => .write
  | _ => .read

/-- An ingress descriptor (Table 4-1). `bad`: words W0 to W3 whose parity fails; port and LD or SPID address the
response. -/
structure Desc where
  sess : Nat
  op : MemOp
  port : Nat
  link : Nat
  ld : Nat
  tag : Nat
  arrival : Nat
  line : Nat
  snp : SnpType
  mval : MetaValue
  db : Bool
  poison : Bool
  be : Mask
  cell : Nat
  bad : BitVec 4
  /-- queued before the step 1 of a running fence (Table 3-7) -/
  fenced : Bool
  /-- its poisoning has been reported by the head and counted (R69) -/
  told : Bool := false
  /-- its link has gone down: it passes without charge and its response is discarded (R48) -/
  orphaned : Bool := false
  /-- its wait for a record has been counted (R143) -/
  waited : Bool := false
  /-- when its flit was in (`State.timeAt`) -/
  entered : Nat := 0
  deriving DecidableEq, Repr

/-- A spill chunk held by a lane (R70): its number within the lane, whether it is of the reserved pool, and the
descriptors it holds. -/
structure Chunk where
  num : Nat
  reserved : Bool
  held : Nat
  deriving DecidableEq, Repr

/-- One lane: head, spilled entries, tail, and entries in overdraft chunks, oldest first (R65, R66, R72). -/
structure LaneQ where
  head : List Desc := []
  spill : List Desc := []
  tail : List Desc := []
  excess : List Desc := []
  chunks : List Chunk := []
  /-- where the spilled entries lie, oldest first: chunk and number of entries -/
  segs : List (Nat × Nat) := []
  /-- an entry has been held for allowance, the in-flight limit or a tracker since the lane was last empty (Table 2-7) -/
  waits : Bool := false
  deriving DecidableEq, Repr

/-- Session states (Table 3-3). -/
inductive SessState where
  | free | pending | active | fencing
  deriving DecidableEq, Repr

/-- Cause of a hold (R72). -/
inductive HoldCause where
  | share | pool
  deriving DecidableEq, Repr

/-- A session entry with its queue (R53 to R62, R65 to R76). SESS_ENTRY and SESS_QSTAT are views of it. -/
structure Session where
  state : SessState := .free
  key : SessKey := ⟨0, 0, 0⟩
  qos : Nat := 0
  range : Nat := 0
  readAllow : Nat := 0
  writeAllow : Nat := 0
  limit : Nat := 0
  coh : Nat := 0
  tOpt : Nat := 0
  tMod : Nat := 0
  tSev : Nat := 0
  binds : List Binding := []
  /-- requests in flight (STATUS.INFLIGHT) -/
  inflight : Nat := 0
  devLoad : Nat := 0
  /-- credits withheld (STATUS.CREDIT_HELD), and why -/
  held : Bool := false
  cause : HoldCause := .share
  reads : Nat := 0
  writes : Nat := 0
  allowStall : Nat := 0
  gen : Nat := 0
  /-- read and write counters of the stroke (R55) -/
  rdUsed : Nat := 0
  wrUsed : Nat := 0
  /-- a request waited for allowance in this stroke -/
  stalled : Bool := false
  /-- parameters that wait (Pending) -/
  waiting : Option SessWords := none
  /-- parameters of a MODIFY that apply at the next stroke boundary (R61) -/
  modify : Option SessModify := none
  /-- a fence has been commanded and its step 1 is due at the next stroke boundary -/
  fenceDue : Bool := false
  /-- withdrawn from lookup (Table 3-7, step 1) -/
  withdrawn : Bool := false
  /-- lines whose back-invalidate of the fence is unanswered (step 5) -/
  fenceSnoops : List Nat := []
  /-- occupancy of the read and of the write lane as sampled at the last stroke boundary (R76) -/
  rdOcc : Nat := 0
  wrOcc : Nat := 0
  /-- withheld credits: link and whether RwD (R72) -/
  withheld : List (Nat × Bool) := []
  rd : LaneQ := {}
  wr : LaneQ := {}
  /-- dynamic-capacity extents added, in device DPA units of 256 MiB (R51) -/
  extents : List Extent := []
  /-- extents offered to the host and not yet answered -/
  offered : List Extent := []
  /-- extents whose release is under way: the host reaches them until the next stroke boundary -/
  releasing : List Extent := []
  deriving DecidableEq, Repr

/-- A dynamic-capacity region (R51). -/
structure DcRegion where
  base : Nat
  len : Nat
  sanitize : Bool
  deriving DecidableEq, Repr

/-- A committed HDM decoder (R50): its LD or SPID, index, HPA base and size in bytes, ways and granularity. -/
structure Decoder where
  port : Nat
  ld : Nat
  index : Nat
  base : Nat
  size : Nat
  ways : Nat
  gran : Nat
  deriving DecidableEq, Repr

/-- A landing cell (R66): its session, tag and data; `bad` when HBM has detected an error in it (Table 9-3). -/
structure Cell where
  sess : Nat
  tag : Nat
  data : LineData
  bad : Bool := false
  deriving DecidableEq, Repr

/-- Where a request in flight stands. -/
inductive Stage where
  /-- host-directory resolution: snoops, a BUSY entry, the eviction buffer (R183, R186) -/
  | resolve
  /-- another slice's write is in progress on the line (R178) -/
  | waitMerge
  /-- lookups run: merge buffer, read cache, media -/
  | lookup
  /-- held for a settling copy younger than 10 ms with a class F mismatch (R155) -/
  | settle
  /-- a write whose merge has not completed (R148) -/
  | merging
  /-- answered, its response waits for a place in the order (BIConflictAck, R189) -/
  | ordered
  deriving DecidableEq, Repr

/-- A request that holds a tracker (R46). (DESIGN CHOICE, log entry 10). -/
structure Req where
  sess : Nat
  port : Nat
  link : Nat
  ld : Nat
  tag : Nat
  op : MemOp
  line : Nat
  snp : SnpType
  mval : MetaValue
  db : Bool
  stage : Stage
  /-- response discarded: its link went down or its stream is Insecure (R47, R48) -/
  discard : Bool := false
  /-- merge-buffer lookup has returned, and missed or hit a partial entry -/
  looked : Bool := false
  /-- the lookup hit a partial entry: the media result serves as its fill (R150) -/
  partialHit : Bool := false
  /-- a read-cache probe is out -/
  probing : Bool := false
  /-- a result that waits for the merge-buffer lookup: data and poison; true: of the read cache -/
  result : Option (LineData × Bool × Bool) := none
  /-- its settling copy failed class F: the media read refills the entry (R155) -/
  refetch : Bool := false
  /-- a write to the line has been ordered after this read (R169, R179) -/
  overtaken : Bool := false
  /-- its wait for the eviction buffer or a BUSY set has been counted (R186) -/
  counted : Bool := false
  /-- when its flit was in (`State.timeAt`) -/
  entered : Nat := 0
  /-- when its bound counts from (`State.timeAt`, Table 2-7) -/
  born : Nat := 0
  /-- its media read was placed later than C2 allows (Table 2-7) -/
  late : Bool := false
  /-- a shelf step was applied while it was in flight (Table 2-7) -/
  stepped : Bool := false
  /-- no bound applies to it (Table 2-7) -/
  unbounded : Bool := false
  deriving DecidableEq, Repr

/-- States of a merge-buffer entry (Table 7-2). -/
inductive EntryState where
  | dirty | draining | redirty | settling | pinned
  deriving DecidableEq, Repr

/-- A merge-buffer entry, by line (Table 7-2). `chan` is `none` while the tract is Unmapped (R156). -/
structure Entry where
  state : EntryState
  data : LineData
  mask : Mask
  poison : Bool := false
  fillPend : Bool := false
  fillBad : Bool := false
  chan : Option Nat := none
  /-- unit of 2^8 strokes, modulo 2^14 -/
  time : Nat
  /-- the set its record lies in -/
  set : Nat := 0
  /-- stroke of the last read, for release order (R155) -/
  lastRead : Nat := 0
  /-- class F check of the settling line fails -/
  mismatch : Bool := false
  /-- what the drain in progress carries: data and whether poisoned -/
  draining : Option (LineData × Bool) := none
  deriving DecidableEq, Repr

/-- A persistence point (R159): its stroke, whether GPF holds it, and the commands that wait for it. -/
structure Point where
  stroke : Nat
  gpf : Bool
  /-- takes one of the 8 places -/
  counted : Bool
  waiting : List CmdPath := []
  gpfPorts : List Nat := []
  /-- a shelf point, with the SEQ of its frame (R162) -/
  shelf : Option Nat := none
  deriving DecidableEq, Repr

/-- State of a line in a slice cache (R168). -/
inductive SliceLine where
  | s | e | f
  deriving DecidableEq, Repr

/-- A slice cache line. -/
structure SliceEntry where
  st : SliceLine
  data : LineData
  way : Nat
  deriving DecidableEq, Repr

/-- A fill on its way into a slice cache (R169, R170). -/
structure SliceFill where
  slice : Nat
  line : Nat
  data : LineData
  bad : Bool
  /-- a write to the line has been ordered after the read -/
  overtaken : Bool
  /-- state the slice takes (Table 8-2) -/
  st : SliceLine
  waited : Bool := false
  deriving DecidableEq, Repr

/-- A write order on a line at the slice directory (R177): slices with a write-through not yet merged. -/
structure LineBusy where
  wtPend : List Nat
  deriving DecidableEq, Repr

/-- A host directory entry (Table 8-4); STATE free is an absent entry. -/
structure HostEntry where
  /-- Host-A, else Host-S -/
  owner : Bool
  ptrs : List Nat
  overflow : Bool := false
  busy : Bool := false
  used : Nat := 0
  deriving DecidableEq, Repr

/-- What a set of snoops of one line is for. -/
inductive SnoopWhy where
  /-- resolution of request `rid` of a session asking for a state, whether of an owner's line (Table 8-5) -/
  | read (rid sess : Nat) (want : MetaValue) (owner : Bool)
  /-- a write of this session (R188) -/
  | write (sess : Nat)
  | evict
  | internal
  | fence (sess : Nat)
  /-- a release of dynamic capacity of this session (R51) -/
  | release (sess : Nat)
  deriving DecidableEq, Repr

/-- Snoops outstanding for a line: sessions that have not answered, and those whose BISnp waits for a credit. -/
structure Snoop where
  line : Nat
  op : Nat
  why : SnoopWhy
  waiting : List Nat
  unsent : List Nat
  /-- sessions that answered BIRspS -/
  kept : List Nat := []
  deriving DecidableEq, Repr

/-- Caches and directories (R168 to R191). -/
structure Caches where
  /-- slice caches, by 4 × line + slice -/
  lines : Tab SliceEntry := []
  fills : List SliceFill := []
  /-- slice directory BUSY and WT_PEND, by line -/
  busy : Tab LineBusy := []
  /-- slice and line of victims that left with a write-through not merged (R170) -/
  victims : List (Nat × Nat) := []
  /-- lines evicted from the slice directory whose copies go once their write-throughs have merged (R173) -/
  purges : List Nat := []
  /-- way of a line in its set of the slice directory, and tree pseudo-LRU bits of the set (R173) -/
  dirWay : Tab Nat := []
  dirPlru : Tab Nat := []
  /-- tree pseudo-LRU bits of a set of a slice cache, by 8,192 × slice + set (R168) -/
  plru : Tab Nat := []
  /-- groups enabled, groups cleaning, groups to be enabled, by slice: bit masks -/
  enabled : List Nat := [255, 255, 255, 255]
  cleaning : List Nat := [0, 0, 0, 0]
  /-- read cache, by index (R175): tag, fill epoch, data -/
  rc : Tab (Nat × Nat × LineData) := []
  /-- read-cache enables in force -/
  rcOn : Bool := true
  host : Tab HostEntry := []
  /-- lines in the eviction buffer -/
  evicting : List Nat := []
  snoops : List Snoop := []
  clock : Nat := 0
  /-- S2M BISnp credits, by 2 × port + link -/
  biCredits : List Nat := [0, 0, 0, 0, 0, 0, 0, 0]
  deriving DecidableEq, Repr

/-- A device-internal write (R190). -/
inductive InternalKind where
  | sanitize | secureErase | releaseRange | poisonClear | rekey | injectPoison
  deriving DecidableEq, Repr

/-- A running or waiting device-internal write: kind, line range, data (poison clear), and whether its walks have
ended. -/
structure Internal where
  kind : InternalKind
  first : Nat
  count : Nat
  data : LineData := 0
  path : Option CmdPath := none
  walked : Bool := false
  /-- logical pages that RELEASE RANGE has still to write with zeros (R136) -/
  left : List Nat := []
  /-- keep group of step 3 of R334; 0: not yet asked for -/
  group : Nat := 0
  /-- output of RELEASE RANGE: whole logical pages inside its range, and tracts wholly inside it -/
  pagesIn : Nat := 0
  tractsIn : Nat := 0
  deriving DecidableEq, Repr

/-- A stored MCTP request and its response (R331). -/
structure Stored where
  ep : Nat
  tag : Nat
  cmd : Instr
  stroke : Nat
  resp : Option (Rc × Nat × List Nat) := none
  deriving DecidableEq, Repr

/-- A background operation of a mailbox (R330). -/
inductive Background where
  | scrub | scan | transfer | activate | sanitize | secureErase | releaseRange | persist | shelf
  deriving DecidableEq, Repr

/-- The command unit (R328 to R332). -/
structure Mbox where
  stored : List Stored := []
  /-- background operations that run, by path -/
  bg : List (CmdPath × Background) := []
  /-- wall time set by Set Timestamp: nanoseconds and the stroke at which it was set (R315) -/
  wall : Option (Nat × Nat) := none
  /-- state last set by Set Shutdown State since the current start: 0 clean, 1 dirty (Table 15-2) -/
  shutdown : Nat := 1
  alerts : AlertCfg := ⟨none, none, none, none, none⟩
  deriving DecidableEq, Repr

/-- The merge engine and persistence (R143 to R166). -/
structure Merge where
  entries : Tab Entry := []
  cells : Tab Cell := []
  /-- heat count of a page (R117) -/
  heat : Tab Nat := []
  points : List Point := []
  /-- requested stroke of the last completed point (R161) -/
  lastPoint : Option Nat := none
  /-- completion stroke of the last completed point -/
  pointDone : Nat := 0
  /-- pinned lines that it left uncovered -/
  pointPinned : Nat := 0
  /-- shutdown marker as it stands (R165) -/
  marker : Marker := .clean
  /-- step of a running capo: 0 none, 4 flushing, 6 saving -/
  capo : Nat := 0
  /-- a line was lost in the running capo -/
  lost : Bool := false
  /-- the save step of a running capo or W2 has begun with lines left (a further rail fault ended step 4) -/
  cut : Bool := false
  /-- write credits withheld during capo, by port and link (R163) -/
  capoCredits : List (Nat × Nat) := []
  deriving DecidableEq, Repr

end Sys2Proof.Machine
end

