-- ==== Sys2Proof/Machine/Codes.lean ====
section
/-! DEFINITION. The codes of HBM and SRAM (R195 to R197) and of media lines (R80 to R83): CRC-16, CRC-32C, the class M
decode of Table 9-2, and the decode of a media line. The codes are linear, so what a decode answers depends on the error
pattern alone: the functions here take the inverted bits, and answer the ones a correction leaves. -/

namespace Sys2Proof.Machine

/-- Byte `b` of a line, as a number. -/
def byteAt (d : LineData) (b : Nat) : Nat := (d.toNat / 2 ^ (8 * b)) % 256

/-- The 64 bytes of a line, byte 0 first. -/
def lineBytes (d : LineData) : List Nat := (List.range 64).map (byteAt d)

/-- One bit step of the CRC-16 of R81 and R195: polynomial 0x1021, not reflected. -/
def crc16Bit (c : Nat) : Nat :=
  if c / 0x8000 % 2 = 1 then Nat.xor (c * 2 % 0x10000) 0x1021 else c * 2 % 0x10000

def iter {α : Type} (f : α → α) : Nat → α → α
  | 0, x => x
  | n + 1, x => iter f n (f x)

/-- One byte of the CRC-16. -/
def crc16Byte (c b : Nat) : Nat := iter crc16Bit 8 (Nat.xor c (b * 256))

/-- CRC-16 over bytes, initial value zero, no final XOR (R81). -/
def crc16 (bytes : List Nat) : Nat := bytes.foldl crc16Byte 0

/-- One bit step of the reflected CRC-32C (R197). -/
def crc32cBit (c : Nat) : Nat := if c % 2 = 1 then Nat.xor (c / 2) 0x82F63B78 else c / 2

/-- The linear part of CRC-32C: what inverting the given bytes' bits does to the check (R197). -/
def crc32cDelta (bytes : List Nat) : Nat := bytes.foldl (fun c b => iter crc32cBit 8 (Nat.xor c b)) 0

/-- Row `r` of a line: bytes 4r to 4r + 3 as a little-endian word (R195). -/
def rowOf (d : LineData) (r : Nat) : Nat := (d.toNat / 2 ^ (32 * r)) % 2 ^ 32

/-- Parity of the low `n` bits. -/
def parity : Nat → Nat → Bool
  | 0, _ => false
  | n + 1, x => (x % 2 == 1) != parity n (x / 2)

/-- XOR of the 16 rows: the column parities. -/
def columns (d : LineData) : Nat := (List.range 16).foldl (fun a r => Nat.xor a (rowOf d r)) 0

/-- Bit positions set among the low `n` bits. -/
def bitsSet (n x : Nat) : List Nat := (List.range n).filter (fun i => x / 2 ^ i % 2 == 1)

/-- Failing row parities of an error pattern (R196). -/
def failRows (e : HbmErr) : List Nat :=
  (List.range 16).filter (fun r => parity 32 (rowOf e.data r) != (e.check.toNat / 2 ^ r % 2 == 1))

/-- Failing column parities. -/
def failCols (e : HbmErr) : List Nat := bitsSet 32 (Nat.xor (columns e.data) (e.check.toNat / 2 ^ 16 % 2 ^ 32))

/-- Stored against recomputed CRC, as a difference. -/
def crcDiff (data : LineData) (check : BitVec 64) : Nat := Nat.xor (crc16 (lineBytes data)) (check.toNat / 2 ^ 48)

/-- Outcome of a class M decode: the data bits that stay inverted after correction, or detected and not mended. -/
inductive MDecode where
  | clean (left : LineData)
  | mended (left : LineData)
  | detected
  deriving DecidableEq, Repr

/-- The data bit at a row and column. -/
def bitMask (r c : Nat) : LineData := BitVec.ofNat 512 (2 ^ (32 * r + c))

/-- Table 9-2, rows in order. -/
def classM (e : HbmErr) : MDecode :=
  match failRows e, failCols e with
  | [], [] =>
    if crcDiff e.data e.check = 0 then .clean e.data
    else if (bitsSet 16 (crcDiff e.data e.check)).length = 1 then .mended e.data else .detected
  | [r], [c] =>
    if crcDiff (e.data ^^^ bitMask r c) e.check = 0 then .mended (e.data ^^^ bitMask r c) else .detected
  | [_], [] => if crcDiff e.data e.check = 0 then .mended e.data else .detected
  | [], [_] => if crcDiff e.data e.check = 0 then .mended e.data else .detected
  | _, _ => .detected

/-- A class F line mismatches (R197). -/
def classFBad (e : HbmErr) : Bool :=
  Nat.xor (crc32cDelta (lineBytes e.data ++ (List.range 4).map (fun b => e.check.toNat / 2 ^ (32 + 8 * b) % 256)))
    (e.check.toNat % 2 ^ 32) != 0

/-! ### Media lines (R80 to R83) -/

/-- The linear field of a media line: DATA, and the stored CRC less the CRC of DATA. A genuine line has `syn` 0; the
poison pattern is all-zero DATA with `syn` 0xFFFF, since its CRC is 0xFFFF (R83). The code is linear, so XOR acts on both
(R81). -/
structure Lin where
  data : LineData := 0
  syn : BitVec 16 := 0
  deriving DecidableEq, Repr

/-- The poison pattern (R83). -/
def Lin.poison : Lin := ⟨0, 0xFFFF⟩

/-- XOR of two linear fields (R81). -/
def Lin.xor (a b : Lin) : Lin := ⟨a.data ^^^ b.data, a.syn ^^^ b.syn⟩

/-- The all-zero linear field: a zero delta (R96). -/
def Lin.zero : Lin := {}

/-- A stored line: its linear field and the fields of META (Table 5-2). -/
structure MLine where
  lin : Lin := {}
  age : Nat := 0
  poison : Bool := false
  lifted : Bool := false
  sys : Bool := false
  deriving DecidableEq, Repr

/-- What a decode answers (R82). -/
inductive Decoded where
  /-- good, with the corrected bits -/
  | good (data : LineData) (bits : Nat)
  | poison
  | failed
  deriving DecidableEq, Repr

/-- The decode of R82: BCH, CRC, meta, POISON flag, in that order. -/
def decodeLine (l : MLine) (e : MediaErr) : Decoded :=
  if 10 < e.linear then .failed
  else if l.lin = Lin.poison then .poison
  else if l.lin.syn ≠ 0 then .failed
  else if 1 < e.metaBits then .failed
  else if l.poison then .failed
  else .good l.lin.data (e.linear + e.metaBits)

/-- The decode of a rebuilt line: the flags come from the request (R83). -/
def decodeRebuilt (l : Lin) (e : MediaErr) : Decoded :=
  if 10 < e.linear then .failed
  else if l = Lin.poison then .poison
  else if l.syn ≠ 0 then .failed
  else .good l.data e.linear

/-- Corrected linear field of a line that decodes (good or poison), for a delta (R96). -/
def correctedLin (l : MLine) (e : MediaErr) : Option Lin :=
  match decodeLine l e with
  | .good _ _ => some l.lin
  | .poison => some l.lin
  | .failed => none

/-- Line to store: data, or the poison pattern (R83). -/
def storedLine (data : LineData) (bad : Bool) (age : Nat) (lifted : Bool) : MLine :=
  if bad then { lin := Lin.poison, age := age, poison := true, lifted := lifted }
  else { lin := ⟨data, 0⟩, age := age, lifted := lifted }

end Sys2Proof.Machine
end

