-- ==== Sys2Proof/Machine/PartsM.lean ====
section
/-! DEFINITION. State of the media side: the contents of the medium, the channels and their operations, the scheduler's
jobs, translation and placement, and the patrol, scrub and poison list. -/

namespace Sys2Proof.Machine

/-- CLASS of a tag line (Table 5-3). -/
inductive TagClass where
  | settled | hot | cold | system
  deriving DecidableEq, Repr

/-- A tag line's fields (Table 5-3). (DESIGN CHOICE, log entry 6). -/
structure Tag where
  lpn : Nat
  seq : Nat
  time : Nat
  cls : TagClass
  epoch : Nat
  deriving DecidableEq, Repr

/-- LPN of filler pages and of none (R84). -/
def noLpn : Nat := 0xFFFFFFFF

/-- A programmed media page, by media page number (R111). A page not listed is blank: the erased pattern (R99). Lines
not listed hold zeros, programmed with the page. -/
structure MPage where
  /-- `none`: a parity page (R85) -/
  tag : Option Tag
  /-- AGE of lines not listed and of the tag line -/
  age : Nat
  lifted : Bool := false
  lines : Tab MLine := []
  deriving DecidableEq, Repr

/-- Kinds of program-type operation on one bank. -/
inductive ProgKind where
  /-- in-place drain of a merge-buffer line (R96) -/
  | drain
  /-- write-back of a line recovered by reconstruction (R194), or poison written in place (R135) -/
  | rewrite
  /-- a bank reserved for the toggle of the next stroke (R153) -/
  | reserved
  | toggle
  /-- parity rebuild of a stripe line (R96) -/
  | rebuild
  /-- refresh of a page, and the exchange of its tag line (R206) -/
  | refresh
  | tagTime
  deriving DecidableEq, Repr

/-- A program-type operation, keyed by its bank: 64 × channel + 16 × die + bank (R89). -/
structure BankOp where
  kind : ProgKind
  mp : Nat
  ln : Nat
  /-- logical line of a drain or rewrite -/
  line : Nat := 0
  /-- line an exchange writes -/
  new : MLine := {}
  /-- delta of an exchange, and of its toggle, once the old line has been decoded -/
  delta : Option Lin := none
  /-- the old line of an exchange has been returned -/
  returned : Bool := false
  /-- page and line of the stripe's parity, for an exchange -/
  parity : Nat := 0
  /-- stroke it was placed in -/
  stroke : Nat
  suspended : Bool := false
  /-- table bank it started under (R13) -/
  tb : Nat := 0
  /-- the toggle has failed verify once (Table 5-10) -/
  retried : Bool := false
  deriving DecidableEq, Repr

/-- An open delta (R97): parity page, line, and the delta. -/
structure OpenDelta where
  mp : Nat
  ln : Nat
  delta : Lin
  /-- its toggle has failed twice (Table 5-10) -/
  stuck : Bool := false
  deriving DecidableEq, Repr

/-- A channel beside its CHAN_ registers. -/
structure Chan where
  /-- restarts of the running training (R92) -/
  restarts : Nat := 0
  /-- successive READ STATUS without a response (R107) -/
  noReply : Nat := 0
  /-- READ STATUS is owed in the next stroke (R91) -/
  wantStatus : Bool := false
  /-- link errors of this sync epoch (R93) -/
  linkErrs : Nat := 0
  /-- reconstructions after a failed retry, per die, in this sync epoch (Table 5-11) -/
  recons : List Nat := [0, 0, 0, 0]
  /-- verify failures per die in this sync epoch -/
  verifyFails : List Nat := [0, 0, 0, 0]
  /-- a full training runs in operation (R93) -/
  full : Bool := false
  /-- dies declared failed whose declaration takes effect at the next stroke boundary (R103) -/
  doomed : List Nat := []
  /-- the stack's table banks that are valid (Table 5-7) -/
  banks : BitVec 2 := 0
  /-- base die revision that READ STATUS has reported (Table 5-7, byte 14) -/
  rev : Nat := 0
  deriving DecidableEq, Repr

/-- What a media read is for. -/
inductive JobWhy where
  | host (rid : Nat)
  | fill
  deriving DecidableEq, Repr

/-- Where a media read stands (R30 to R33). -/
inductive JobPhase where
  /-- waits for a slot: held, or offered again at each lock -/
  | wait
  | placed
  | retryWait
  | retry
  | groupWait
  | group
  | reconWait
  | recon
  deriving DecidableEq, Repr

/-- A media read. -/
structure Job where
  why : JobWhy
  line : Nat
  mp : Nat
  ln : Nat
  phase : JobPhase
  /-- stroke and slot of its placement -/
  stroke : Nat := 0
  slot : Nat := 0
  /-- stroke whose lock was the first to follow its arrival (C2) -/
  due : Nat := 0
  /-- a write to the line has merged since the read was issued (R15) -/
  stale : Bool := false
  /-- stroke in which it reached the scheduler (R34) -/
  reach : Nat := 0
  deriving DecidableEq, Repr

/-- The scheduler (R26 to R42). -/
structure Sched where
  /-- last stroke whose plan is locked -/
  locked : Nat := 0
  /-- last read placed on a channel: stroke × 256 + slot -/
  last : Tab Nat := []
  jobs : Tab Job := []
  nextJob : Nat := 0
  /-- channels with a read placed late since the last lock (R34) -/
  late : List Nat := []
  /-- the capo layout was asked for and applies at the boundary after the next lock (R39): 0 no, 1 asked, 2 locked -/
  capoAsk : Nat := 0
  /-- layout to return to at the next boundary (R166) -/
  back : Option Nat := none
  /-- class 1 and 2 reads moved by drone overflow: they have no bound (Table 2-7) -/
  moved : List Nat := []
  /-- read demand of the last 4 strokes by channel: stroke, host reads, reads of groups as well (C1, R34) -/
  demand : Tab (List (Nat × Nat × Nat)) := []
  /-- CCLK into the stroke at which the response of the result at hand leaves (R7; the model's own) -/
  now : Nat := 0
  /-- CCLK that steps of the stroke count have passed over (R25; the model's own) -/
  skew : Nat := 0
  /-- no bound counts from before this time (Table 2-7: capo, Ready) -/
  since : Nat := 0
  deriving DecidableEq, Repr

/-- STATE of a tract map entry (Table 6-2). -/
inductive TractState where
  | unmapped | settled | inTransit
  deriving DecidableEq, Repr

/-- A tract map entry (Table 6-2). (DEDUCED, log entry 58). -/
structure Tract where
  state : TractState := .unmapped
  sb : Nat := 0
  src : Nat := 0
  ptr : Nat := 0
  hasLifted : Bool := false
  zeroSrc : Bool := false
  reloc : Bool := false
  lw : Nat := 0
  deriving DecidableEq, Repr

/-- POOL of a block record (Table 6-7). -/
inductive Pool where
  | free | home | hot | cold | system | awaiting | retired
  deriving DecidableEq, Repr

/-- A block record (Table 6-7); an SBN not listed is a free, preconditioned block. (DESIGN CHOICE, log entry 40). -/
structure Block where
  epoch : Nat := 0
  tract : Option Nat := none
  pool : Pool := .free
  failedRb : BitVec 8 := 0
  valid : Nat := 0
  lifted : Nat := 0
  fill : Nat := 0
  precond : Nat := 0
  wear : Nat := 0
  time : Nat := 0
  degraded : List Nat := []
  sealed : Bool := false
  deriving DecidableEq, Repr

/-- Purpose of a move (R130, R221). -/
inductive MoveWhy where
  | init | wear | evacuate | rekey
  deriving DecidableEq, Repr

/-- A running move. -/
structure Move where
  tract : Nat
  why : MoveWhy
  /-- the stripe at PTR has been loaded: its seven pages as they are to be appended -/
  load : Option (List MPage) := none
  /-- logical lines of that stripe that travel with the move -/
  carried : List Nat := []
  /-- data slots of that stripe whose page failed verify; 7: the parity page (R134) -/
  failed : List Nat := []
  /-- all its pages have verified: PTR advances at the next stroke boundary -/
  committed : Bool := false
  /-- a page of an earlier stripe has failed: the tract moves again (R134) -/
  again : Bool := false
  deriving DecidableEq, Repr

/-- What a page append into a pool is for. -/
inductive CopyWhy where
  | lift | drain | reclaim
  deriving DecidableEq, Repr

/-- A page copy into a pool (R117, R120, R128): its destination once appended, and its source at the read. -/
structure Copy where
  why : CopyWhy
  lpn : Nat
  page : MPage
  src : Option Nat
  dst : Nat
  /-- logical lines carried by the copy -/
  carried : List Nat
  deriving DecidableEq, Repr

/-- A settle-back (R119). -/
structure Settle where
  lpn : Nat
  page : MPage
  carried : List Nat
  deriving DecidableEq, Repr

/-- An open pool block (R125): its SBN, pages gathered of the open stripe, and the stroke the first was gathered. -/
structure OpenBlock where
  sbn : Nat
  gathered : Nat := 0
  since : Nat := 0
  deriving DecidableEq, Repr

/-- One copy of the block-record checkpoint (R123): WEAR, PRECOND_CNT, FAILED_RB and retirement by SBN. -/
structure Checkpoint where
  number : Nat
  records : Tab Block
  deriving DecidableEq, Repr

/-- Translation and placement (R110 to R141). -/
structure Xlat where
  tracts : Tab Tract := []
  /-- fluid table: logical page → media page and RECENT (Table 6-4) -/
  fluid : Tab (Nat × Bool) := []
  blocks : Tab Block := []
  /-- valid bitmap of pool pages, by media page -/
  valid : Tab Bool := []
  /-- open blocks: hot pool of course k at k, cold pool at 8 + k -/
  opens : Tab OpenBlock := []
  /-- next course of the round-robin: hot, cold -/
  nextHot : Nat := 0
  nextCold : Nat := 0
  /-- blocks queued for precondition, oldest first; the first of each course runs -/
  precondQ : List Nat := []
  seq : Nat := 0
  sbe : Nat := 0
  moves : List Move := []
  /-- tracts RELOC_QUEUED, in the order of starting -/
  moveQ : List Nat := []
  copies : List Copy := []
  settles : List Settle := []
  /-- pages handed to the append gatherer or to a settle-back -/
  gather : List Nat := []
  /-- best pool state whose level plus 512 has held at every boundary of the running sync epoch (R126) -/
  better : Nat := 3
  /-- the running epoch has been seen whole from its boundary -/
  whole : Bool := false
  /-- home slots recorded failed, by media page (R135) -/
  failedSlots : Tab Bool := []
  /-- parity lines marked failed, by 128 × media page + line (Table 5-10) -/
  badParity : List Nat := []
  /-- blocks to evacuate, in order (R105) -/
  evac : List Nat := []
  checkpoints : List Checkpoint := []
  /-- free blocks being preconditioned again (R208) -/
  again : List Nat := []
  /-- sync epochs since heat counts were halved -/
  heatEpochs : Nat := 0
  deriving DecidableEq, Repr

/-- Source of a poison list record (R202). -/
inductive PoisonSrc where
  | internal | external | injected
  deriving DecidableEq, Repr

/-- A poison list record: first line, count, source. -/
structure PoisonRec where
  first : Nat
  count : Nat
  src : PoisonSrc
  deriving DecidableEq, Repr

/-- A running SCRUB RANGE or Scan Media with what it has counted (Table 9-5). -/
structure Scrub where
  path : CmdPath
  scan : Bool
  pieces : List (Nat × Nat)
  start : Nat
  stop : Nat
  /-- the range was cut at the exported capacity -/
  cut : Bool := false
  aborted : Bool := false
  deriving DecidableEq, Repr

/-- A write-back that waits (R194, R135): logical line, place, and the line to write. -/
structure Rewrite where
  line : Nat
  mp : Nat
  ln : Nat
  new : MLine
  deriving DecidableEq, Repr

/-- The error machinery (R194 to R214). -/
structure Err where
  poison : List PoisonRec := []
  /-- time of the first poisoned line that found the list full, as Get Timestamp gives it -/
  poisonLost : Nat := 0
  /-- patrol: the next page of the pass, and the stroke the pass began -/
  patrolPos : Nat := 0
  patrolStart : Nat := 0
  /-- pages visited in this pass -/
  visited : Nat := 0
  /-- pages marked for refresh that have not been refreshed -/
  refresh : List Nat := []
  /-- write-backs that wait for their bank (R194) -/
  rewrites : List Rewrite := []
  scrub : Option Scrub := none
  /-- lines the last Scan Media found uncorrectable -/
  scanResults : List Nat := []
  /-- pages the wake patrol has still to refresh (R273) -/
  wake : List Nat := []
  /-- strokes of powered operation since E last advanced (R99) -/
  ageStrokes : Nat := 0
  /-- age epoch counter E (R99), and the value saved before this start -/
  e : Nat := 0
  eSaved : Nat := 0
  lastHealth : Nat := 0
  lastMedia : Nat := 1
  /-- die temperature in °C (R212) -/
  temp : Int := 25
  lastUncorrHi : Nat := 0
  deriving DecidableEq, Repr

/-- What the image in force gives (Table 1-2): T_AGE in strokes, array read time and suspend latency in ns, class. -/
structure Img where
  tAge : Nat := 2 ^ 37
  arrayRead : Nat := 110
  suspend : Nat := 40
  cls : BitVec 16 := 0
  version : Nat := 0
  compact : Bool := false
  dieTypes : List Nat := []
  deriving DecidableEq, Repr

end Sys2Proof.Machine
end

