-- ==== Sys2Proof/Machine/PartsT.lean ====
section
/-! DEFINITION. State of the shelf unit, of the image slots and activation, and of the telemetry counters. -/

namespace Sys2Proof.Machine

/-! ### Shelf (R300 to R327) -/

/-- What a shelf command of the manager belongs to. -/
inductive ShelfWhy where
  /-- update of a worker whose configuration epoch is lower (R316) -/
  | update
  | grant
  /-- operation of SHELF CONTROL with this number -/
  | op (n : Nat)
  deriving DecidableEq, Repr

/-- A command the manager has created (R310, R311). -/
structure ShelfCmd where
  seq : Nat
  msg : ShelfMsg
  bcast : Bool
  /-- positions that have not acknowledged it -/
  left : List Nat
  why : ShelfWhy
  /-- epoch number in which it was last sent; `none`: it waits -/
  sent : Option Nat := none
  resends : Nat := 0
  deriving DecidableEq, Repr

/-- A use of SHELF CONTROL that waits for its commands (R337). -/
inductive ShelfUse where
  | setRecords | powerOff | powerOn | persist | activate | release
  deriving DecidableEq, Repr

/-- A running use of SHELF CONTROL. -/
structure ShelfOp where
  num : Nat
  path : CmdPath
  use : ShelfUse
  /-- positions that acknowledged with Done -/
  ok : List Nat := []
  noans : List Nat := []
  /-- last result, for RELEASE -/
  result : Nat := 0
  deriving DecidableEq, Repr

/-- The shelf point that the manager collects (R322). -/
structure ShelfPoint where
  seq : Nat
  stroke : Nat
  /-- positions in MEMBERS at S; `none` before S -/
  members : Option (List Nat) := none
  /-- positions that PERSIST was sent to -/
  asked : List Nat := []
  /-- positions that left contact before their final result, or never acknowledged -/
  gone : List Nat := []
  deriving DecidableEq, Repr

/-- This member's part in a coordinated activation (R323). -/
structure ShelfAct where
  seq : Nat
  stroke : Nat
  /-- a commit has been learnt after S -/
  late : Bool := false
  deriving DecidableEq, Repr

/-- The shelf unit beside its SHELF_ registers. -/
structure Shelf where
  /-- strapped as manager and still listening (R301) -/
  listening : Bool := false
  /-- strapped as manager, has heard a higher position, and claims the role when locked (R301) -/
  claiming : Bool := false
  /-- the claim has been made: it drives the link from the next sync epoch boundary on -/
  claimed : Bool := false
  /-- yields at the next sync epoch boundary to this position -/
  yieldTo : Option Nat := none
  /-- a same-position conflict of managers: standalone at the next sync epoch boundary (R303) -/
  conflictDue : Bool := false
  /-- a valid beacon has come in this sync epoch; epochs without one -/
  beaconNow : Bool := false
  beaconless : Nat := 0
  /-- the manager followed: position, MGR_BOOT, and what its last beacon carried -/
  mgr : Option Beacon := none
  /-- the manager's list of SEQs and results, newest last (R310) -/
  dups : List (Nat × Nat) := []
  /-- configuration epoch and records (R316); SHELF_EPOCH is a view -/
  epoch : Nat := 0
  records : List IlvRecord := []
  /-- the media record of the system area -/
  keptEpoch : Nat := 0
  keptRecords : List IlvRecord := []
  /-- records held until their CONFIG: epoch, index, record -/
  held : List (Nat × Nat × IlvRecord) := []
  /-- mapping of wall time that a manager's beacon gave: nanoseconds and stroke (R315) -/
  wall : Option (Nat × Nat) := none
  /-- last SEQ the manager drew or used -/
  seqOut : Nat := 0
  cmds : List ShelfCmd := []
  ops : List ShelfOp := []
  nextOp : Nat := 0
  /-- positions in contact, and epochs without a status frame; the manager's own view -/
  members : Tab Nat := []
  /-- last status payload of each position -/
  status : Tab Status := []
  /-- members that wait for a media power slot (R320), in order: epoch in which SLOT_WAIT was first seen, position -/
  slotQ : List (Nat × Nat) := []
  lastGrant : Option Nat := none
  /-- stroke of the last slot granted to each position -/
  grants : Tab Nat := []
  /-- SEQ and result of the last command acknowledged (Table 14-4, ACK) -/
  ack : Nat × Nat := (0, 0)
  /-- SEQ and result of the last PERSIST (POINT) -/
  pointReport : Nat × Nat := (0, 0)
  point : Option ShelfPoint := none
  act : Option ShelfAct := none
  /-- what the manager's beacon carries of the last ACT_PREPARE: SEQ, stroke; its decision is
  `SHELF_ACT_STATUS.DECISION` -/
  actSent : Nat × Nat := (0, 0)
  /-- participants of the activation the manager runs -/
  actMembers : List Nat := []
  /-- strokes to step at the next sync epoch (R25, R312, R314) -/
  stepDue : Nat := 0
  /-- the step follows the manager: SLEW comes after it (Table 14-7) -/
  follow : Bool := false
  /-- sync epochs since the manager last stepped its time for a worker -/
  sinceStep : Nat := 16
  /-- accepted SHL_SYNC pulses: one has come in this epoch; epochs without one; pulses of ACQUIRE's test in a row -/
  pulseNow : Bool := false
  pulseless : Nat := 0
  pulses : Nat := 0
  /-- stroke at which a granted media phase begins -/
  granted : Option Nat := none
  /-- correction per epoch measured while LOCKED, in CCLK (R313) -/
  slew : Int := 0
  /-- shelf time has been kept, or taken from a manager, since page 1 was last saved (R102) -/
  timeKnown : Bool := false
  deriving DecidableEq, Repr

/-! ### Image slots (R340 to R348) -/

/-- The open image transfer (R345). -/
structure Transfer where
  path : CmdPath
  /-- header, once block 0 has passed its checks -/
  header : Option ImageReport := none
  /-- units programmed, by unit number -/
  units : Tab Nat := []
  /-- blocks that have passed their check -/
  verified : List Nat := []
  deriving DecidableEq, Repr

/-- A Transfer FW command whose flash work runs: the blocks it completes that have not been checked, the extended status
of the first of them that failed, and the header it brings. -/
structure XferCmd where
  path : CmdPath
  blocks : List Nat
  ext : Nat := 0
  header : ImageReport
  /-- it is the End command -/
  last : Bool
  deriving DecidableEq, Repr

/-- How an activation was asked for. -/
inductive ActKind where
  | online | scheduled | coordinated
  deriving DecidableEq, Repr

/-- Where an activation stands (R347). -/
inductive ActStage where
  /-- STAGING is being read back and verified -/
  | verify
  /-- the descriptor is being written and the tables are loaded -/
  | loading
  /-- every stack holds the table bank -/
  | loaded
  deriving DecidableEq, Repr

/-- The pending activation. -/
structure Activation where
  kind : ActKind
  path : Option CmdPath
  /-- stroke of effect; `none`: the first boundary after loading -/
  stroke : Option Nat
  stage : ActStage := .verify
  image : Img := {}
  report : Option ImageReport := none
  deriving DecidableEq, Repr

/-- The command unit's image side. -/
structure Fw where
  transfer : Option Transfer := none
  cmd : Option XferCmd := none
  act : Option Activation := none
  /-- an online activation was abandoned by the running capo (Table 15-11) -/
  abandoned : Bool := false
  /-- a table bank of the last activation still serves operations begun under it (R13) -/
  oldBank : Bool := false
  /-- blocks whose precondition began under the old table bank -/
  oldPrecond : List Nat := []
  deriving DecidableEq, Repr

/-! ### Telemetry (R351 to R363) -/

/-- Configuration of a programmable counter (R353). -/
structure EvtCfg where
  event : Nat
  level : Bool
  filter : Nat
  filterEn : Bool
  deriving DecidableEq, Repr

/-- A block section of a snapshot record (Table 16-4). -/
structure SnapBlock where
  cycles : Nat
  ovf : Nat
  cfg : List Nat
  counts : List Nat
  deriving DecidableEq, Repr

/-- A snapshot record (Table 16-3). -/
structure Snap where
  seq : Nat
  stroke : Nat
  invalid : Bool := false
  frozen : Bool
  drop : Bool
  k : Nat
  shelf : Nat
  window : Nat
  bw : List (Nat × Nat)
  blocks : List SnapBlock
  deriving DecidableEq, Repr

/-- The telemetry counters beside their TELEM_ registers. -/
structure Telem where
  /-- configurations in force, by 8 × block + counter; none: a word of zero -/
  cfg : Tab EvtCfg := []
  /-- a written TELEM_EVT_CFG waits for the stroke boundary -/
  cfgDue : Bool := false
  /-- programmable counters, by 8 × block + counter -/
  counts : Tab Nat := []
  /-- cycle counters, by block -/
  cycles : Tab Nat := []
  /-- bandwidth counts of the window in progress, by link: DRS lines and RwD lines -/
  bwRead : Tab Nat := []
  bwWrite : Tab Nat := []
  /-- K in force and first stroke of the window in progress; `none`: no window runs yet -/
  bwK : Nat := 14
  bwStart : Option Nat := none
  /-- first stroke of the window held, and its K; `none`: no window has ended -/
  bwHeld : Nat := 0
  bwHeldK : Option Nat := none
  /-- a snapshot has been asked for at the next stroke boundary -/
  snapAsked : Bool := false
  /-- TELEMETRY SNAPSHOT commands that wait for it -/
  snapWait : List CmdPath := []
  /-- last SEQ taken, and SEQ of the last complete record -/
  seq : Nat := 0
  head : Nat := 0
  /-- snapshots that wait to be written, oldest first -/
  shadow : List Snap := []
  /-- a snapshot has been dropped since the previous record -/
  dropped : Bool := false
  /-- the ring, by slot -/
  ring : Tab Snap := []
  deriving DecidableEq, Repr

end Sys2Proof.Machine
end

