-- ==== Sys2Proof/Machine/State.lean ====
section
/-! DEFINITION. The state of the GN8064 as plain data, the reasons a step can stop, and the state at reset: AUX not yet
applied, nothing held. -/

namespace Sys2Proof.Machine

/-- Why a step faults. No meaning of this model faults: nothing in the manual stops the device for good.
(DEDUCED, log entry 138). -/
inductive Fault where
  /-- never raised; safe -/
  | none
  deriving DecidableEq, Repr

/-- Why a command is refused by the model. -/
inductive Refusal where
  /-- raised by a command that has no meaning yet; safe -/
  | notModelled (mnemonic : String)
  deriving DecidableEq, Repr

/-- What a CNT_CLR write still has to clear at the next stroke boundary. -/
inductive Clear where
  | sched | port (p : Nat) | sess | sessQ | chan (c : Nat) | xlat | merge | slice (s : Nat) | rc | dir | err
  | prot | pwr | keep | chron | shelf | telem
  deriving DecidableEq, Repr

/-- The machine. -/
structure State where
  /-- commands that wait, first in, first out -/
  pending : List Instr := []
  /-- register fields, by bit address (Machine/RegMap.lean) -/
  regs : Tab Nat := []
  /-- stroke count (R23) -/
  stroke : Nat := 0
  /-- clears written and not yet made -/
  clears : List Clear := []
  /-- counter that numbers the free values (the model's own) -/
  free : Nat := 0
  /-- transcript of what the device has sent, newest last (the model's own) -/
  out : List Out := []
  /-- ports whose function has MSI-X enabled (Table 17-1) -/
  msixEn : List Nat := []
  /-- ports whose PERST_N is low -/
  perst : List Nat := []
  /-- a TOP_ message owed at the next stroke boundary (R374) -/
  intOwed : Bool := false
  /-- the stroke in progress begins a sync epoch whose sweeps have not run (R24) -/
  epochDue : Bool := false
  pwr : Pwr := {}
  start : Start := {}
  keep : Keep := {}
  chron : Chron := {}
  events : Events := {}
  prot : Prot := {}
  /-- session table (R53), by session number -/
  sessions : Tab Session := []
  /-- requests in flight, by the number the model gives them -/
  reqs : Tab Req := []
  nextRid : Nat := 0
  /-- `SESS_SPILL_CFG.SHARE` in force since the last stroke boundary (R71) -/
  share : Nat := 4
  /-- dynamic-capacity regions (R51) -/
  dc : Tab DcRegion := []
  /-- committed HDM decoders (R50, R317) -/
  decoders : List Decoder := []
  merge : Merge := {}
  mbox : Mbox := {}
  cache : Caches := {}
  /-- device-internal writes: the first one runs (R190) -/
  internals : List Internal := []
  /-- image-slot operations that wait for the flash, the first one running when `keep.op` says so (R279) -/
  imageOps : List ImageOp := []
  /-- contents of the medium, by media page number (R79, R111) -/
  pages : Tab MPage := []
  /-- program-type operations, by bank (R89) -/
  ops : Tab BankOp := []
  deltas : List OpenDelta := []
  chans : Tab Chan := []
  sched : Sched := {}
  xlat : Xlat := {}
  err : Err := {}
  img : Img := {}
  shelf : Shelf := {}
  fw : Fw := {}
  telem : Telem := {}
  /-- configuration space and BAR0 words that the standards let a host write, by 4,096 × port + offset and by
  65,536 × port + offset (Tables 17-1 and 17-2) -/
  cfgSpace : Tab Nat := []
  bar0 : Tab Nat := []
  /-- ports whose function is in D3hot (Table 17-1) -/
  d3 : List Nat := []
  deriving DecidableEq, Repr

/-- The machine right after reset: AUX has not been applied, every register reads its reset value.
(DESIGN CHOICE, log entry 2). -/
def State.reset : State := {}

end Sys2Proof.Machine
end

