-- ==== Sys2Proof/Machine/Ops.lean ====
section
/-! DEFINITION. The operations that every family shares: register fields and counters, the transcript, the TOP_
interrupt, the keep, the chronicle, the event logs, health events and the leaky buckets. -/

namespace Sys2Proof.Machine

/-! ### Registers -/

/-- The value of a register field (Table 0-4). -/
def State.rd (s : State) (f : Field) (i : Nat := 0) (j : Nat := 0) : Nat :=
  Tab.get (f.resetAt i) s.regs (f.key i j)

/-- Set a register field, to its width. -/
def State.wr (s : State) (f : Field) (v : Nat) (i : Nat := 0) (j : Nat := 0) : State :=
  { s with regs := Tab.set (f.resetAt i) s.regs (f.key i j) (v % 2 ^ f.width) }

/-- Add to a counter, which saturates at its width. -/
def State.bump (s : State) (f : Field) (n : Nat := 1) (i : Nat := 0) (j : Nat := 0) : State :=
  s.wr f (min (s.rd f i j + n) (2 ^ f.width - 1)) i j

/-- Put a field back to its reset value. -/
def State.clr (s : State) (f : Field) (i : Nat := 0) (j : Nat := 0) : State :=
  s.wr f (f.resetAt i) i j

/-- A one-bit field as a truth value. -/
def State.bit (s : State) (f : Field) (i : Nat := 0) (j : Nat := 0) : Bool := s.rd f i j != 0

/-- Set a one-bit field. -/
def State.setBit (s : State) (f : Field) (b : Bool) (i : Nat := 0) (j : Nat := 0) : State :=
  s.wr f (if b then 1 else 0) i j

/-- Append to the transcript. -/
def State.emit (s : State) (o : Out) : State := { s with out := s.out ++ [o] }

/-- Ask for counters to be cleared at the next stroke boundary. -/
def State.askClear (s : State) (c : Clear) : State := { s with clears := s.clears ++ [c] }

/-- Take the next number of a free value. -/
def State.tick (s : State) : State := { s with free := s.free + 1 }

/-! ### Rails and states -/

/-- Is rail `r` good (`PWR_STATUS.RAIL_GOOD`). -/
def State.railGood (s : State) (r : Nat) : Bool := (s.rd Reg.PWR_STATUS_RAIL_GOOD / 2 ^ (r - 1)) % 2 == 1

/-- Codes of Table 11-4. -/
inductive SeqState where
  | standby | pkgUp | pkgOn | mediaUp | on | capo | capoHold | down | offHold | hung | lockout
  deriving DecidableEq, Repr

/-- Code of a sequencer state. -/
def SeqState.code : SeqState → Nat
  | .standby => 0 | .pkgUp => 1 | .pkgOn => 2 | .mediaUp => 3 | .on => 4 | .capo => 5
  | .capoHold => 6 | .down => 7 | .offHold => 8 | .hung => 9 | .lockout => 10

/-- The sequencer is in a state. -/
def State.isSeq (s : State) (q : SeqState) : Bool := s.rd Reg.PWR_STATUS_STATE == q.code

/-- Enter a sequencer state. -/
def State.setSeq (s : State) (q : SeqState) : State := s.wr Reg.PWR_STATUS_STATE q.code

/-- Memory Media Status reports Ready. -/
def State.ready (s : State) : Bool := s.bit Reg.TOP_STATUS_READY

/-! ### The TOP_ interrupt (R374) -/

/-- Any of these fields is not zero. -/
def State.anyOf (s : State) (l : List Field) (i : Nat := 0) : Bool := l.any (fun f => s.bit f i)

/-- The bits of a register whose fields are all flags. -/
def healthFields : List Field :=
  [Reg.ERR_HEALTH_EVENT_POOL, Reg.ERR_HEALTH_EVENT_DIE_FAIL, Reg.ERR_HEALTH_EVENT_BUCKET_OVF,
   Reg.ERR_HEALTH_EVENT_UNCORR, Reg.ERR_HEALTH_EVENT_DIRTY_LOST, Reg.ERR_HEALTH_EVENT_LIFE,
   Reg.ERR_HEALTH_EVENT_TEMP, Reg.ERR_HEALTH_EVENT_PATROL_LATE, Reg.ERR_HEALTH_EVENT_POISON_FULL,
   Reg.ERR_HEALTH_EVENT_MEDIA_STATUS]

def portEventFields : List Field :=
  [Reg.PORT_EVENT_IDE_FAIL, Reg.PORT_EVENT_LINK_DOWN, Reg.PORT_EVENT_RATE_FALLBACK,
   Reg.PORT_EVENT_WIDTH_DEGRADED, Reg.PORT_EVENT_MODE_REJECT]

def pwrFaultFields : List Field :=
  [Reg.PWR_FAULT_UP_FAIL, Reg.PWR_FAULT_RAIL_FAULT, Reg.PWR_FAULT_HANG, Reg.PWR_FAULT_THERMTRIP,
   Reg.PWR_FAULT_TEST_EN, Reg.PWR_FAULT_PMIC_CONFIG, Reg.PWR_FAULT_LOCKOUT]

def pwrEventFields : List Field :=
  [Reg.PWR_EVENT_PF_QUAL, Reg.PWR_EVENT_PF_GLITCH, Reg.PWR_EVENT_WARM_RESUME, Reg.PWR_EVENT_COLLAPSE,
   Reg.PWR_EVENT_PRE_DIRTY_OFF, Reg.PWR_EVENT_SHELF_OFF]

def shelfDetuneFields : List Field :=
  [Reg.SHELF_DETUNE_EPOCH_HIGH, Reg.SHELF_DETUNE_IMAGE_CLASS, Reg.SHELF_DETUNE_TIME,
   Reg.SHELF_DETUNE_INTERLEAVE, Reg.SHELF_DETUNE_POS_CONFLICT]

/-- The status bits of `TOP_INT_STATUS`, bit 0 first (Table 17-5). -/
def State.topInt (s : State) : List Bool :=
  [ s.anyOf [Reg.SCHED_STATUS_CFG_REJECT, Reg.SCHED_CHAN_VIOL_LO_CHAN, Reg.SCHED_CHAN_VIOL_HI_CHAN],
    s.anyOf portEventFields 0, s.anyOf portEventFields 1, s.anyOf portEventFields 2, s.anyOf portEventFields 3,
    s.anyOf (Reg.ERR_STATUS_CFG_REJECT :: healthFields),
    s.anyOf (pwrFaultFields ++ pwrEventFields),
    s.anyOf [Reg.KEEP_STATUS_DEGRADED, Reg.KEEP_STATUS_FAIL, Reg.KEEP_STATUS_TIE],
    s.anyOf shelfDetuneFields,
    s.anyOf [Reg.TELEM_STATUS_CFG_REJECT, Reg.TELEM_STATUS_SNAP_DROP]
      || (List.range 15).any (fun b => s.bit Reg.TELEM_BLK_OVF_OVF b),
    s.bit Reg.MERGE_STATUS_CFG_REJECT,
    s.bit Reg.TOP_STATUS_ACCESS_ERR ]

/-- `TOP_INT_STATUS` as a word. -/
def bitsOf : List Bool → Nat
  | [] => 0
  | b :: r => (if b then 1 else 0) + 2 * bitsOf r

/-- The ports whose function presents BAR2 (R368). -/
def State.bar2Ports (s : State) : List Nat :=
  [0, 1, 2, 3].filter (fun p => s.rd Reg.PORT_MODE_STATUS_MODE p ≤ 2)

/-- Messages of vector `v` to every function of R368 with MSI-X enabled. -/
def State.msixAll (s : State) (v : Nat) : List Out :=
  (s.bar2Ports.filter (fun p => s.msixEn.contains p)).map (fun p => Out.msix p v)

/-- Does an unmasked bit of `TOP_INT_STATUS` change from 0 to 1 between two states (R374). -/
def topRises (s t : State) : Bool :=
  ((s.topInt.zip t.topInt).zipIdx).any
    (fun e => !e.1.1 && e.1.2 && (t.rd Reg.TOP_INT_MASK_MASK / 2 ^ e.2) % 2 == 0)

/-- The TOP_ messages a command that leads from `s` to `t` sends. -/
def topMessages (s t : State) : List Out :=
  if t.bit Reg.TOP_INT_CFG_EN && topRises s t then t.msixAll 3 else []

/-! ### Telemetry counters (R353 to R358) -/

/-- A configured counter takes an event of a sub-unit. -/
def EvtCfg.takes (c : EvtCfg) (code f : Nat) : Bool := c.event == code && (!c.filterEn || c.filter == f)

/-- Add to a programmable counter, which wraps and then sets its OVF bit (R356); the 15 blocks have 120 of them. -/
def State.teleAdd (s : State) (k n : Nat) : State :=
  let v := s.telem.counts.get 0 k + n
  let t := { s with telem := { s.telem with counts := s.telem.counts.set 0 k (v % 2 ^ 48) } }
  if v < 2 ^ 48 || 120 ≤ k then t
  else t.wr Reg.TELEM_BLK_OVF_OVF (Nat.lor (t.rd Reg.TELEM_BLK_OVF_OVF (k / 8)) (2 ^ (k % 8))) (k / 8)

/-- `n` occurrences of an event in block `b`, sub-unit `f` (R354). What one command brings falls into one CCLK. -/
def State.tele (s : State) (b code f : Nat) (n : Nat := 1) : State :=
  if n = 0 || s.bit Reg.TELEM_STATUS_FROZEN then s
  else s.telem.cfg.foldl (fun s e =>
    if e.1 / 8 = b && e.2.takes code f then s.teleAdd e.1 (if e.2.level then 1 else n) else s) s

/-- What a command has sent. -/
def newOut (s t : State) : List Out := t.out.drop s.out.length

/-- Links with an S2M DRS, and with an S2M NDR, as 2 × port + link. -/
def drsLink : Out → Option Nat
  | .drs p l _ _ _ _ _ _ => some (2 * p + l)
  | _ => none

def ndrLink : Out → Option Nat
  | .ndr p l _ _ _ _ => some (2 * p + l)
  | _ => none

/-- Channels that a media command of a kind went to. -/
def fipenChan (k : FipenCmd) : Out → Option Nat
  | .fipen c _ _ k' => if k' = k then some c else none
  | _ => none

/-- Growth of a counter register. -/
def grew (s t : State) (f : Field) (i : Nat := 0) : Nat := t.rd f i - s.rd f i

/-- Occurrence events that the transcript and the counters show (Table 16-2): block, code, sub-unit, number. -/
def shownEvents (s t : State) : List (Nat × Nat × Nat × Nat) :=
  let o := newOut s t
  (o.filterMap drsLink).map (fun k => (k / 2, 0x07, k % 2, 1))
  ++ (o.filterMap ndrLink).map (fun k => (k / 2, 0x08, k % 2, 1))
  ++ (List.range 4).flatMap (fun b => [(b, 0x04, 0, grew s t Reg.CACHE_HIT_CNT b), (b, 0x05, 0, grew s t Reg.CACHE_MISS_CNT b),
      (b, 0x06, 0, grew s t Reg.CACHE_FWD_CNT b)])
  ++ (o.filterMap (fipenChan .exchange)).map (fun c => (4 + c / 8, 0x04, c % 8, 1))
  ++ (o.filterMap (fipenChan .suspend)).map (fun c => (4 + c / 8, 0x0B, c % 8, 1))
  ++ (o.filterMap (fipenChan .precondition)).map (fun c => (13, 0x05, c / 8, 1))
  ++ (List.range 64).flatMap (fun c => [(4 + c / 8, 0x08, c % 8, grew s t Reg.CHAN_CORR_CNT c),
      (4 + c / 8, 0x09, c % 8, grew s t Reg.CHAN_RETRY_CNT c), (4 + c / 8, 0x0A, c % 8, grew s t Reg.CHAN_RECON_CNT c)])
  ++ [(14, 0x01, 0, grew s t Reg.MERGE_MERGE_CNT), (14, 0x02, 0, grew s t Reg.MERGE_DRAIN_CNT),
      (14, 0x03, 0, grew s t Reg.MERGE_FILL_CNT)]

/-- State events that hold (Table 16-2): block, code, sub-unit. -/
def State.stateEvents (s : State) : List (Nat × Nat × Nat) :=
  ((List.range 4).filter (fun b => s.sessions.any (fun e => e.2.held && e.2.key.port == b))).map (fun b => (b, 0x09, 0))
  ++ ((List.range 8).filter (fun k =>
      let cap := if s.bit Reg.PORT_MODE_STATUS_BIFURCATE (k / 2) then 2048 else 4096
      decide (3 * cap ≤ 4 * (if k % 2 = 0 then s.rd Reg.PORT_INFLIGHT_LINK0 (k / 2) else s.rd Reg.PORT_INFLIGHT_LINK1 (k / 2))))).map
        (fun k => (k / 2, 0x0A, k % 2))
  ++ ((List.range 64).filter (fun c => s.bit Reg.CHAN_STATUS_RETRAIN c)).map (fun c => (4 + c / 8, 0x0C, c % 8))
  ++ ((List.range 64).filter (fun c => s.bit Reg.CHAN_STATUS_ALERT c)).map (fun c => (4 + c / 8, 0x0D, c % 8))
  ++ (if 2 ≤ s.rd Reg.XLAT_POOL_STATUS_STATE then [(13, 0x09, 0)] else [])
  ++ (if s.bit Reg.CHAN_G_EVAC_STATUS_ACTIVE then [(13, 0x0A, 0)] else [])
  ++ (if s.bit Reg.MERGE_STATUS_LIMIT then [(14, 0x06, 0)] else [])
  ++ (if s.merge.points ≠ [] then [(14, 0x07, 0)] else [])
  ++ (if s.sessions.any (fun e => e.2.wr.head.any (·.waited)) then [(14, 0x08, 0)] else [])

/-- Edge counters take the state events that begin. -/
def State.teleBegin (s : State) (e : Nat × Nat × Nat) : State :=
  s.telem.cfg.foldl (fun s c =>
    if c.1 / 8 = e.1 && c.2.takes e.2.1 e.2.2 && !c.2.level then s.teleAdd c.1 1 else s) s

/-- Programmable counters take what a command brought. -/
def teleCount (s t : State) : State :=
  if t.telem.cfg = [] || t.bit Reg.TELEM_STATUS_FROZEN then t
  else
    let u := (shownEvents s t).foldl (fun u e => u.tele e.1 e.2.1 e.2.2.1 e.2.2.2) t
    (t.stateEvents.filter (fun e => !s.stateEvents.contains e)).foldl State.teleBegin u

/-- Bandwidth counts take the DRS lines that a command sent (R358). -/
def bwCount (s t : State) : State :=
  if t.bit Reg.TELEM_STATUS_FROZEN then t
  else { t with telem := { t.telem with
    bwRead := ((newOut s t).filterMap drsLink).foldl (fun l k => l.set 0 k (l.get 0 k + 1)) t.telem.bwRead } }

/-- End of a command: the TOP_ interrupt and the telemetry counters look at what it changed. -/
def settle (s t : State) : State :=
  let u := teleCount s (bwCount s t)
  { u with out := u.out ++ topMessages s u }

/-- A command that led from `s` to `t` answers its next state; no command touches the queue of waiting commands.
(DESIGN CHOICE, log entry 4). -/
def done (s t : State) : Host.Outcome State Fault Refusal := .next { settle s t with pending := s.pending }

/-! ### The chronicle (R292 to R297) -/

/-- 1 s in strokes (R295). -/
def secondStrokes : Nat := 1562500

/-- Value of a spread counter: base plus count, or the base alone while the area's header is not the base's (R289,
Table 13-6). -/
def Spread.value (c : Spread) : Nat := if c.header = some c.gen then c.base + c.count else c.base

/-- Stroke field of a record (Table 13-7). -/
def State.chronStroke (s : State) : Nat := if s.railGood 2 then s.stroke % 2 ^ 48 else 0xFFFFFFFFFFFF

/-- Set the REPEAT of a record held in a list of slots. -/
def setRep (l : List ChronSlot) (i n : Nat) : List ChronSlot :=
  l.zipIdx.map (fun e => match e.1 with
    | .written r => if e.2 = i then .written { r with rep := some n } else e.1
    | .torn => e.1)

/-- Close a run: REPEAT is programmed once, if anything was folded (R295). -/
def State.closeRun (s : State) (r : ChronRun) : State :=
  let s := { s with chron := { s.chron with
    runs := s.chron.runs.filter (fun x => !(x.code == r.code && x.source == r.source)) } }
  if r.count = 0 then s else
  match r.place with
  | .buffer n => { s with chron := { s.chron with
      buffer := s.chron.buffer.map (fun e => if e.1 = n then (e.1, { e.2 with rep := some r.count }) else e) } }
  | .perm i => { s with chron := { s.chron with perm := setRep s.chron.perm i r.count } }
  | .ring k i => { s with chron := { s.chron with
      ring := s.chron.ring.put k
        { (s.chron.ring.get {} k) with slots := setRep (s.chron.ring.get {} k).slots i r.count } } }
  | .gone => s

/-- The run whose last occurrence is the oldest. -/
def oldestRun : List ChronRun → Option ChronRun
  | [] => none
  | r :: l => match oldestRun l with
    | none => some r
    | some q => if q.last < r.last then some q else some r

/-- Buffer a record, or drop it (R296), and open its run (R295). -/
def State.chronNew (s : State) (r : ChronRec) : State :=
  if 64 ≤ s.chron.buffer.length then
    ({ s with chron := { s.chron with dropped := s.chron.dropped + 1 } }).bump Reg.CHRON_DROP_CNT
  else
    let n := s.chron.nextSerial
    let s := if 16 ≤ s.chron.runs.length then
        match oldestRun s.chron.runs with
        | some q => s.closeRun q
        | none => s
      else s
    { s with chron := { s.chron with
        buffer := s.chron.buffer ++ [(n, r)], nextSerial := n + 1,
        runs := s.chron.runs ++ [⟨r.code, r.source, .buffer n, 0, s.stroke⟩] } }

/-- The run of a code and source. -/
def State.findRun (s : State) (code source : Nat) : Option ChronRun :=
  s.chron.runs.find? (fun r => r.code == code && r.source == source)

/-- A record of now. -/
def State.mkRec (s : State) (code source sev : Nat) (payload : List Nat) : ChronRec :=
  ⟨code, source, sev, s.keep.optime.value, s.keep.pcycle.value, s.chronStroke, payload, none⟩

/-- Create a chronicle record, or fold it into its open run (R294, R295). -/
def State.chronOne (s : State) (code source sev : Nat) (payload : List Nat) : State :=
  match s.findRun code source with
  | none => s.chronNew (s.mkRec code source sev payload)
  | some r =>
    if s.stroke ≤ r.last + secondStrokes then
      let r' := { r with count := r.count + 1, last := s.stroke }
      let s := s.bump Reg.CHRON_REPEAT_CNT
      let s := { s with chron := { s.chron with
        runs := s.chron.runs.map (fun x => if x.code == code && x.source == source then r' else x) } }
      if 4095 ≤ r'.count then s.closeRun r' else s
    else (s.closeRun r).chronNew (s.mkRec code source sev payload)

/-- As `chronOne`, with the record of drops after the first record written since (R296). -/
def State.chronicle (s : State) (code source sev : Nat) (payload : List Nat) : State :=
  let d := s.chron.dropped
  let t := s.chronOne code source sev payload
  if 0 < d && t.chron.dropped == d && t.chron.nextSerial != s.chron.nextSerial && t.chron.buffer.length < 64 then
    ({ t with chron := { t.chron with dropped := 0 } }).chronOne 0x0004 0x4E 1 (leBytes 4 d)
  else t

/-! ### Wall time (R315) -/

/-- A member in contact with its manager. -/
def State.inContact (s : State) : Bool := s.bit Reg.SHELF_STATUS_CONTACT

/-- The mapping of wall time that governs: the beacon's in contact; otherwise the device's own, or the last one held.
(DEDUCED, log entry 113). -/
def State.wall (s : State) : Option (Nat × Nat) :=
  if s.inContact then s.shelf.wall
  else match s.mbox.wall with
    | some w => some w
    | none => s.shelf.wall

/-- Wall time now, in ns. -/
def State.timestamp (s : State) : Nat :=
  match s.wall with
  | some (ns, at_) => ns + (s.stroke - at_) * 640
  | none => 0

/-! ### Event logs and health (R211, R213) -/

/-- Index of a log: 0 informational, 1 warning, 2 failure, 3 fatal. -/
def Log.idx : Log → Nat
  | .info => 0 | .warn => 1 | .fail => 2 | .fatal => 3

/-- Capacity of a log (R211). -/
def Log.cap : Log → Nat
  | .fatal => 16
  | _ => 256

def Events.log (e : Events) : Log → EventLog
  | .info => e.info | .warn => e.warn | .fail => e.fail | .fatal => e.fatal

def Events.setLog (e : Events) (l : Log) (x : EventLog) : Events :=
  match l with
  | .info => { e with info := x }
  | .warn => { e with warn := x }
  | .fail => { e with fail := x }
  | .fatal => { e with fatal := x }

/-- The DPA a record carries (Table 13-8). -/
def EventRec.dpa : EventRec → Nat
  | .media d _ _ => d
  | .internal _ _ kind _ address _ _ _ => if kind = 3 then address else 0
  | .integrity _ _ d _ => d
  | _ => 0

/-- Handles run from 1 to 0xFFFF; CXL never assigns 0. (DEDUCED, log entry 136). -/
def nextHandle (h : Nat) : Nat := if h ≥ 0xFFFF then 1 else h + 1

/-- The interrupt of a log, as Set Event Interrupt Policy has set it (R211). -/
def State.logInterrupt (s : State) (l : Log) : State :=
  match s.events.policy.getD l.idx 0 with
  | 1 => { s with out := s.out ++ s.msixAll 1 }
  | 2 => s.emit (.fwInterrupt l.idx)
  | _ => s

/-- Write an event record into its log, or drop it when the log is full, and copy it to the chronicle (R211, R298). -/
def State.event (s : State) (l : Log) (r : EventRec) (source : Nat) : State :=
  let x := s.events.log l
  if x.records.length < l.cap then
    let h := nextHandle s.events.lastHandle
    let s := { s with events := { s.events.setLog l { x with records := x.records ++ [(h, r)] } with lastHandle := h } }
    let s := s.logInterrupt l
    s.chronicle (0x10 + l.idx) source l.idx (leBytes 2 h ++ leBytes 6 r.dpa)
  else
    let x' := { x with overflow := min (x.overflow + 1) 0xFFFF
                       firstOverflow := if x.overflow = 0 then s.timestamp else x.firstOverflow
                       lastOverflow := s.timestamp }
    ({ s with events := s.events.setLog l x' }).chronicle (0x10 + l.idx) source l.idx
      (leBytes 2 0 ++ leBytes 6 r.dpa)

/-- Set a bit of `ERR_HEALTH_EVENT` (R213). -/
def State.health (s : State) (f : Field) : State := s.setBit f true

/-- ALERT_N is asserted (R213). -/
def State.alertN (s : State) : Bool :=
  healthFields.zipIdx.any (fun e => s.bit e.1 && (s.rd Reg.ERR_HEALTH_MASK_MASK / 2 ^ e.2) % 2 == 0)

/-- FAULT_N is asserted (R261). -/
def State.faultN (s : State) : Bool := s.anyOf pwrFaultFields

/-- Where the record of a bucket overflow goes: the last event counted, as its location (Table 9-10) or its DPA. -/
structure BucketEvent where
  unit : Nat
  cls : Nat
  region : Nat
  address : Nat
  dpa : Nat
  source : Nat
  deriving DecidableEq, Repr

/-- Count one event in a leaky bucket (R201). -/
def State.bucket (s : State) (b : Nat) (e : BucketEvent) : State :=
  let lvl := s.rd Reg.ERR_BUCKET_STATUS_LEVEL b
  if lvl + 1 ≤ s.rd Reg.ERR_BUCKET_CFG_DEPTH b then s.wr Reg.ERR_BUCKET_STATUS_LEVEL (lvl + 1) b
  else
    let s := (s.wr Reg.ERR_BUCKET_STATUS_LEVEL 0 b).bump Reg.ERR_BUCKET_STATUS_OVF_CNT 1 b
    let s := s.health Reg.ERR_HEALTH_EVENT_BUCKET_OVF
    if 8 ≤ b then s.event .warn (.media e.dpa true 0) e.source
    else s.event .warn (.internal e.unit e.cls 1 e.region e.address (s.rd Reg.ERR_BUCKET_STATUS_OVF_CNT b) s.stroke 0)
      e.source

/-! ### The keep (R280 to R286) and the flash (R279) -/

/-- Sector of a copy of a page (R281). -/
def keepSector (page copy : Nat) : Nat := 2 * page + copy

/-- Erased slots of a keep sector (R282). -/
def Keep.erased (k : Keep) (sector : Nat) : Nat :=
  16 - ((k.sectors.get [] sector).length + k.abandoned.get 0 sector)

/-- An erase of this sector runs or is suspended. -/
def Keep.erasing (k : Keep) (sector : Nat) : Bool :=
  k.op == some (.eraseKeep sector) || k.suspended == some (.eraseKeep sector)

/-- SEQ and copy that a write of `page` takes, `none` while it waits for an erase (R282, R283). -/
def Keep.place (k : Keep) (page : Nat) : Option (Nat × Nat) :=
  let s := k.seq.get 0 page
  let c := (s + 1) % 2
  let o := s % 2
  let useOther := k.degraded.get false (keepSector page c) || k.erasing (keepSector page c)
  let (q, d) := if useOther && !k.degraded.get false (keepSector page o) then (s + 2, o) else (s + 1, c)
  if k.erasing (keepSector page d) then none
  else if k.erased (keepSector page d) = 0 then none else some (q, d)

/-- Request a write of a keep page (R286): the shadow changes at once; a write of the page that has not started is
replaced, and a lost one is superseded (R283). -/
def State.keepWrite (s : State) (page : Nat) (data : PageData) (group : Nat := 0) : State :=
  let w : KeepWrite := { page := page, group := group, data := data }
  let q := s.keep.queue
  let q' := if q.any (fun x => x.page == page && x.seq.isNone)
    then q.map (fun x => if x.page == page && x.seq.isNone then w else x)
    else q ++ [w]
  { s with keep := { s.keep with
      shadow := s.keep.shadow.put page data, queue := q',
      lost := s.keep.lost.filter (fun x => x.page != page) } }

/-- Ask for an erase: a keep sector by its number, a ring sector by 1,024 plus its number. -/
def Keep.askErase (k : Keep) (n : Nat) : Keep :=
  if k.toErase.contains n then k else { k with toErase := k.toErase ++ [n] }

/-- Flash operation of an entry of `toErase`: keep sectors below 1,024, ring sectors from there. -/
def eraseOp (n : Nat) : FlashOp := if n < 1024 then .eraseKeep n else .eraseRing (n - 1024)

/-- May a write start beside the others of its group: page 3 commits, so it comes last (R284). -/
def Keep.groupTurn (k : Keep) (w : KeepWrite) : Bool :=
  w.page != 3 || w.group == 0 || !k.queue.any (fun x => x.group == w.group && x.page != 3)

/-- Start the first waiting write that can start; it moves to the head. -/
def startFirst (k : Keep) : List KeepWrite → Option (List KeepWrite)
  | [] => none
  | w :: r =>
    match (if k.groupTurn w then k.place w.page else none) with
    | some (q, c) => some ({ w with seq := some q, copy := c } :: r)
    | none => (startFirst k r).map (fun l => match l with
        | [] => [w]
        | x :: l' => x :: w :: l')

/-- The chronicle has an erased slot at its write point (R292). -/
def Chron.room (c : Chron) : Bool :=
  c.perm.length < 1024
    || ((c.ring.get {} c.head).seq.isSome && (c.ring.get {} c.head).slots.length < 127)

/-- The program that comes next: keep, chronicle or image slot, in the order of R279. -/
def State.nextProgram (s : State) : Option (FlashOp × Keep) :=
  match startFirst s.keep s.keep.queue with
  | some q => some (.keepProgram, { s.keep with queue := q })
  | none =>
    if s.chron.buffer ≠ [] && s.chron.room then some (.chronicleProgram, s.keep)
    else if s.imageOps ≠ [] then some (.imageOp, s.keep) else none

/-- Erases are held from capo entry to the end of step 6 of Table 7-6 (R279). -/
def State.eraseHeld (s : State) : Bool := s.isSeq .capo || s.start.warm == 2

/-- An erase that may not run: its page belongs to an uncommitted group (R282). -/
def Keep.eraseBarred (k : Keep) (n : Nat) : Bool := n < 224 && k.groupPages.any (fun e => e.2 == n / 2)

/-- Start the first erase that may run. -/
def Keep.startErase (k : Keep) : Keep :=
  match k.toErase.find? (fun n => !k.eraseBarred n) with
  | some n => { k with op := some (eraseOp n), toErase := k.toErase.filter (· != n) }
  | none => k

/-- Is the operation an erase. -/
def FlashOp.isErase : FlashOp → Bool
  | .eraseKeep _ => true
  | .eraseRing _ => true
  | _ => false

/-- Give the flash its next operation (R279): a pending program suspends a running erase. -/
def State.flash (s : State) : State :=
  match s.keep.op with
  | some o =>
    if o.isErase then
      match s.nextProgram with
      | some (p, k) => { s with keep := { k with op := some p, suspended := some o } }
      | none => if s.eraseHeld then { s with keep := { s.keep with op := none, suspended := some o } } else s
    else s
  | none =>
    match s.nextProgram with
    | some (p, k) => { s with keep := { k with op := some p } }
    | none =>
      if s.eraseHeld then s else
      match s.keep.suspended with
      | some o => { s with keep := { s.keep with op := some o, suspended := none } }
      | none => { s with keep := s.keep.startErase }

/-- Write a group of pages; page 3 commits it (R284). -/
def State.keepGroup (s : State) (pages : List (Nat × PageData)) (nonces : List (BitVec 64)) : State :=
  let g := s.keep.groupCounter + 1
  let s := { s with keep := { s.keep with
    groupCounter := g, groupPages := s.keep.groupPages ++ pages.map (fun (e : Nat × PageData) => (g, e.1)) } }
  let s := pages.foldl (fun s e => s.keepWrite e.1 e.2 g) s
  s.keepWrite 3 (.nonces nonces g) g

end Sys2Proof.Machine
end

