-- ==== Sys2Proof/Machine/KeepFamily.lean ====
section
/-! DEFINITION. The keep and the chronicle (chapter Keep and Chronicle): KEEP_SLOT_PROGRAMMED,
KEEP_SECTOR_ERASE_COMPLETE, SPREAD_COUNTER_INCREMENT, CHRONICLE_RECORD_PROGRAMMED, CHRONICLE_SECTOR_ERASE_COMPLETE,
CHRONICLE_RUN_CLOSE, KEEP_PAGE_IDX_WRITE, KEEP_CNT_CLR and CHRON_CNT_CLR. -/

namespace Sys2Proof.Machine

/-- Record of a keep copy degraded (0) or a write lost (1) (Table 13-8). -/
def State.keepRecord (s : State) (page what : Nat) : State :=
  s.chronicle 0x0002 0x4E 2 (leBytes 2 page ++ [what])

/-- Erase the other copy ahead when fewer than 8 of its slots are erased (R282). -/
def State.eraseAhead (s : State) (page copy : Nat) : State :=
  let o := keepSector page (1 - copy)
  if s.keep.erased o < 8 then { s with keep := s.keep.askErase o } else s

/-- The page's newest version is in this copy. -/
def Keep.copyOf (k : Keep) (page : Nat) : Nat := (k.seq.get 0 page) % 2

/-- Commit a group (R284): its pages leave the uncommitted ones, their erases ahead may run, and motions that wait for
it have had their keep write. -/
def State.commitGroup (s : State) (g : Nat) : State :=
  let pages := (s.keep.groupPages.filter (fun e => e.1 == g)).map (·.2)
  let s := { s with
    keep := { s.keep with groupPages := s.keep.groupPages.filter (fun e => e.1 != g) }
    prot := { s.prot with lodged := s.prot.lodged.map (fun l => if l.group == g then { l with kept := true } else l) } }
  pages.foldl (fun s p => s.eraseAhead p (s.keep.copyOf p)) s

/-- Spread counter by number (Table 13-5). -/
def Keep.spread (k : Keep) (i : Nat) : Spread :=
  match i with
  | 0 => k.optime
  | 1 => k.pcycle
  | _ => k.bytes

def Keep.setSpread (k : Keep) (i : Nat) (c : Spread) : Keep :=
  match i with
  | 0 => { k with optime := c }
  | 1 => { k with pcycle := c }
  | _ => { k with bytes := c }

/-- Page 12 as the counters stand (Table 13-4). -/
def Keep.spreadPage (k : Keep) : PageData :=
  .spread [k.optime.base, k.pcycle.base, k.bytes.base] [k.optime.gen, k.pcycle.gen, k.bytes.gen]

/-- Full area (R289). -/
def spreadBits : Nat := 30720

/-- First step of a counter's update (R291): base and generation rise, page 12 is written. -/
def State.spreadRoll (s : State) (i : Nat) : State :=
  let c := s.keep.spread i
  let c' := { c with base := c.base + spreadBits, gen := c.gen + 1, step := .base }
  let s := { s with keep := s.keep.setSpread i c' }
  s.keepWrite 12 s.keep.spreadPage

/-- Second step: page 12 has been written, the sector is erased. -/
def State.spreadErase (s : State) (i : Nat) : State :=
  let c := s.keep.spread i
  if c.step = .base then
    { s with keep := (s.keep.setSpread i { c with step := .erase, header := none }).askErase (224 + i) }
  else s

/-- Third step: the sector is erased, the header is programmed. -/
def State.spreadHeader (s : State) (i : Nat) : State :=
  let c := s.keep.spread i
  if c.step = .erase then
    { s with keep := s.keep.setSpread i { c with step := .idle, header := some c.gen, count := 0 } }
  else s

/-- A keep write has ended good (R282, R284). -/
def State.keepDone (s : State) (w : KeepWrite) (q : Nat) : State :=
  let sec := keepSector w.page w.copy
  let slot : KeepSlot := ⟨w.page, q, w.group, w.data, true⟩
  let s := { s with keep := { s.keep with
    sectors := s.keep.sectors.put sec (s.keep.sectors.get [] sec ++ [slot])
    seq := s.keep.seq.put w.page q } }
  let s := if w.group = 0 || w.page = 3 then s.eraseAhead w.page w.copy else s
  let s := match w.data with
    | .nonces _ g => if w.page = 3 && g != 0 && w.group == g then s.commitGroup g else s
    | _ => s
  if w.page = 12 then ((s.spreadErase 0).spreadErase 1).spreadErase 2 else s

/-- A keep slot has failed read-back (R283). -/
def State.keepFailed (s : State) (w : KeepWrite) (rest : List KeepWrite) : State :=
  let sec := keepSector w.page w.copy
  let s := s.bump Reg.KEEP_RETRY_CNT
  let s := { s with keep := { s.keep with abandoned := s.keep.abandoned.put sec (s.keep.abandoned.get 0 sec + 1) } }
  if w.fails + 1 < 3 then
    { s with keep := { s.keep with queue := { w with fails := w.fails + 1, seq := none } :: rest } }
  else if w.otherFailed then
    let s := { s with keep := { s.keep with queue := rest, lost := s.keep.lost ++ [{ w with seq := none, fails := 0 }] } }
    (s.setBit Reg.KEEP_STATUS_FAIL true).keepRecord w.page 1
  else
    let s := { s with keep := { s.keep with
      degraded := s.keep.degraded.put sec true
      queue := { w with seq := none, fails := 0, otherFailed := true } :: rest } }
    (s.setBit Reg.KEEP_STATUS_DEGRADED true).keepRecord w.page 0

/-- KEEP_SLOT_PROGRAMMED (R282): the program in the flash ends and its slot reads back, equal or not.
(DEDUCED, log entry 100). -/
def State.keepProgrammed (s : State) (readback : Bool) : State :=
  match s.keep.op, s.keep.queue with
  | some .keepProgram, w :: rest =>
    match w.seq with
    | none => s
    | some q =>
      let s := s.bump Reg.KEEP_WRITE_CNT
      let s := { s with keep := { s.keep with op := none } }
      let s := if readback then ({ s with keep := { s.keep with queue := rest } }).keepDone w q
        else s.keepFailed w rest
      s.flash
  | _, _ => s

def execKeepSlotProgrammed (readback : Bool) (s : State) : Host.Outcome State Fault Refusal :=
  done s (s.keepProgrammed readback)

/-- Erase of a keep sector has ended (R282, R283); sectors 224 to 226 belong to the spread counters (R291). -/
def State.keepErased (s : State) (n : Nat) (ok : Bool) : State :=
  let s := { s with keep := { s.keep with op := none } }
  let s :=
    if ok then
      let s := s.bump Reg.KEEP_ERASE_CNT
      let s := { s with keep := { s.keep with
        sectors := s.keep.sectors.del n, abandoned := s.keep.abandoned.del n, eraseFails := s.keep.eraseFails.del n } }
      if 224 ≤ n then s.spreadHeader (n - 224) else s
    else
      let f := s.keep.eraseFails.get 0 n + 1
      let s := { s with keep := { s.keep with eraseFails := s.keep.eraseFails.put n f } }
      if f < 3 || 224 ≤ n then { s with keep := s.keep.askErase n }
      else
        let s := { s with keep := { s.keep with degraded := s.keep.degraded.put n true } }
        (s.setBit Reg.KEEP_STATUS_DEGRADED true).keepRecord (n / 2) 0
  s.flash

/-- KEEP_SECTOR_ERASE_COMPLETE (R282). -/
def execKeepSectorEraseComplete (ok : Bool) (s : State) : Host.Outcome State Fault Refusal :=
  match s.keep.op with
  | some (.eraseKeep n) => done s (s.keepErased n ok)
  | _ => done s s

/-- Program the next increment bit of a counter for a unit that has accrued (R290), and update a full area (R291). -/
def State.spreadIncrement (s : State) (i : Nat) : State :=
  let c := s.keep.spread i
  if c.pending = 0 || c.step ≠ .idle then s
  else
    let c := { c with pending := c.pending - 1, count := c.count + 1 }
    let s := { s with keep := s.keep.setSpread i c }
    if spreadBits ≤ c.count then (s.spreadRoll i).flash else s

/-- SPREAD_COUNTER_INCREMENT (R290). -/
def execSpreadCounterIncrement (which : Nat) (s : State) : Host.Outcome State Fault Refusal :=
  done s (s.spreadIncrement which)

/-- The ring sector after `k` that has not been passed over. -/
def Chron.after (c : Chron) : Nat → Nat → Nat
  | 0, k => k
  | n + 1, k => let k' := (k + 1) % 1016; if c.bad.contains k' then c.after n k' else k'

/-- Open the next ring sector when the head is full, or the first one when the permanent part is (R292). -/
def State.openSector (s : State) : State :=
  let c := s.chron
  let hd := c.ring.get {} c.head
  if c.perm.length < 1024 then s
  else if hd.seq.isSome && hd.slots.length < 127 then s
  else
    let k := if hd.seq.isNone then c.head else c.after 1016 c.head
    if s.keep.op == some (.eraseRing k) || s.keep.suspended == some (.eraseRing k) || s.keep.toErase.contains (1024 + k)
    then s
    else
      let q := c.sectorSeq + 1
      { s with
        chron := { c with head := k, sectorSeq := q, ring := c.ring.put k { seq := some q, slots := [] } }
        keep := s.keep.askErase (1024 + c.after 1016 k) }

/-- Where a run's record now lies. -/
def Chron.moveRun (c : Chron) (n : Nat) (p : RunPlace) : Chron :=
  { c with runs := c.runs.map (fun r => if r.place = .buffer n then { r with place := p } else r) }

/-- Put a slot at the write point; answers where it lies. -/
def Chron.push (c : Chron) (x : ChronSlot) : Chron × RunPlace :=
  if c.perm.length < 1024 then ({ c with perm := c.perm ++ [x] }, .perm c.perm.length)
  else
    let hd := c.ring.get {} c.head
    ({ c with ring := c.ring.put c.head { hd with slots := hd.slots ++ [x] } }, .ring c.head hd.slots.length)

/-- CHRONICLE_RECORD_PROGRAMMED (R294): body and VALID of the oldest buffered record have been programmed, or its body
has failed read-back, which leaves a torn slot and the record waiting for the next. -/
def State.chronProgrammed (s : State) (readback : Bool) : State :=
  match s.keep.op, s.chron.buffer with
  | some .chronicleProgram, (n, r) :: rest =>
    let s := { s with keep := { s.keep with op := none } }
    let s :=
      if readback then
        let (c, p) := s.chron.push (.written r)
        ({ s with chron := ({ c with buffer := rest }).moveRun n p }).bump Reg.CHRON_WRITTEN_CNT
      else { s with chron := (s.chron.push .torn).1 }
    s.openSector.flash
  | _, _ => s

def execChronicleRecordProgrammed (readback : Bool) (s : State) : Host.Outcome State Fault Refusal :=
  done s (s.chronProgrammed readback)

/-- Erase of a ring sector has ended: erased, or passed over until the next turn, the one after it taking its place
(R292). -/
def State.ringErased (s : State) (k : Nat) (ok : Bool) : State :=
  let s := { s with keep := { s.keep with op := none } }
  let s :=
    if ok then { s with chron := { s.chron with ring := s.chron.ring.del k, bad := s.chron.bad.filter (· != k) } }
    else
      let c := { s.chron with bad := if s.chron.bad.contains k then s.chron.bad else s.chron.bad ++ [k] }
      { s with chron := c, keep := s.keep.askErase (1024 + c.after 1016 k) }
  s.openSector.flash

/-- CHRONICLE_SECTOR_ERASE_COMPLETE (R292). -/
def execChronicleSectorEraseComplete (ok : Bool) (s : State) : Host.Outcome State Fault Refusal :=
  match s.keep.op with
  | some (.eraseRing k) => done s (s.ringErased k ok)
  | _ => done s s

/-- CHRONICLE_RUN_CLOSE (R295): 1 s has passed without an occurrence. -/
def execChronicleRunClose (code source : Nat) (s : State) : Host.Outcome State Fault Refusal :=
  match s.findRun code source with
  | some r => done s (s.closeRun r)
  | none => done s s

/-- KEEP_PAGE_IDX_WRITE (R299): a page number above 111 leaves the index unchanged. -/
def execKeepPageIdxWrite (v : Word) (s : State) : Host.Outcome State Fault Refusal :=
  let p := v.toNat % 128
  if 111 < p then done s s
  else done s ((s.wr Reg.KEEP_PAGE_IDX_PAGE p).setBit Reg.KEEP_PAGE_IDX_READY true)

/-- The CLR bit of a write to a CNT_CLR register. -/
def clrBit (v : Word) : Bool := v.getLsbD 0

/-- KEEP_CNT_CLR (R299). -/
def execKeepCntClr (v : Word) (s : State) : Host.Outcome State Fault Refusal :=
  done s (if clrBit v then s.askClear .keep else s)

/-- CHRON_CNT_CLR (R299). -/
def execChronCntClr (v : Word) (s : State) : Host.Outcome State Fault Refusal :=
  done s (if clrBit v then s.askClear .chron else s)

end Sys2Proof.Machine
end

