-- ==== Sys2Proof/Machine/Lookup.lean ====
section
/-! DEFINITION. Session lookup, ingress queues, spill chunks, holds and trackers (chapters Host Ports and Sessions and
Ingress Queues and Flow Control), shared by the families of both. -/

namespace Sys2Proof.Machine

/-- Number of sessions (R49). -/
def sessionCount : Nat := 4096

def State.sess (s : State) (n : Nat) : Session := s.sessions.get {} n

def State.setSess (s : State) (n : Nat) (e : Session) : State := { s with sessions := s.sessions.set {} n e }

/-- Mode of a port in force (R43): 0 SLD, 1 MLD, 2 PBR edge. -/
def State.portMode (s : State) (p : Nat) : Nat := s.rd Reg.PORT_MODE_STATUS_MODE p

/-- Kind of key a port's mode in force asks for (R49): 0 LD-ID, 1 SPID. -/
def State.portKind (s : State) (p : Nat) : Nat := if s.portMode p = 2 then 1 else 0

/-- A link is up. -/
def State.linkUp (s : State) (p l : Nat) : Bool :=
  if l = 0 then s.bit Reg.PORT_LINK_STATUS0_UP p else s.bit Reg.PORT_LINK_STATUS1_UP p

/-- A link's IDE stream is Insecure (R47). -/
def State.insecure (s : State) (p l : Nat) : Bool :=
  (if l = 0 then s.rd Reg.PORT_LINK_STATUS0_IDE p else s.rd Reg.PORT_LINK_STATUS1_IDE p) == 2

/-- Trackers held on a link (`PORT_INFLIGHT`). -/
def State.trackers (s : State) (p l : Nat) : Nat :=
  if l = 0 then s.rd Reg.PORT_INFLIGHT_LINK0 p else s.rd Reg.PORT_INFLIGHT_LINK1 p

/-- Trackers of a link (R46). -/
def State.trackerCap (s : State) (p : Nat) : Nat := if s.bit Reg.PORT_MODE_STATUS_BIFURCATE p then 2048 else 4096

/-- Set the tracker count of a link, and its peak. -/
def State.setTrackers (s : State) (p l n : Nat) : State :=
  if l = 0 then
    (s.wr Reg.PORT_INFLIGHT_LINK0 n p).wr Reg.PORT_INFLIGHT_PEAK_LINK0 (max n (s.rd Reg.PORT_INFLIGHT_PEAK_LINK0 p)) p
  else
    (s.wr Reg.PORT_INFLIGHT_LINK1 n p).wr Reg.PORT_INFLIGHT_PEAK_LINK1 (max n (s.rd Reg.PORT_INFLIGHT_PEAK_LINK1 p)) p

/-! ### Lookup (R50) -/

/-- 256 MiB, the unit of bindings. -/
def unit256M : Nat := 0x10000000

/-- The line a device DPA or LD DPA in bytes lies in. -/
def lineOf (dpa : Nat) : Nat := dpa / 64

/-- Key of the waiting parameters. -/
def wordsKey (w : SessWords) : SessKey := ⟨w.port, w.kind, w.id⟩

/-- Does an entry answer lookup for a key, and with which bindings (R49, R52, R62): an Active entry, a Fencing one until
its step 1, and a Pending one for its new key. -/
def Session.answers (e : Session) (k : SessKey) : Option (List Binding) :=
  match e.state with
  | .free => none
  | .active => if e.key = k then some e.binds else none
  | .fencing => if e.key = k && !e.withdrawn then some e.binds else none
  | .pending =>
    match e.waiting with
    | some w =>
      if wordsKey w = k && e.withdrawn then some w.binds
      else if e.key = k && !e.withdrawn then some e.binds
      else if wordsKey w = k then some w.binds else none
    | none => none

/-- Step 1 of lookup: the entry that answers for a key. -/
def findKey : Tab Session → SessKey → Option (Nat × List Binding)
  | [], _ => none
  | (n, e) :: r, k => match e.answers k with
    | some b => some (n, b)
    | none => findKey r k

/-- The binding an LD DPA lies in. -/
def findBinding (l : List Binding) (d : Nat) : Option Binding :=
  l.find? (fun b => b.valid && decide (b.ldBase * unit256M ≤ d) && decide (d < (b.ldBase + b.size) * unit256M))

/-- The DC region a 256 MiB unit lies in (R51). -/
def State.dcOf (s : State) (u : Nat) : Option (Nat × DcRegion) :=
  s.dc.find? (fun e => decide (e.2.base ≤ u) && decide (u < e.2.base + e.2.len))

/-- Is a 256 MiB unit in a list of extents. -/
def inExtents (l : List Extent) (u : Nat) : Bool := l.any (fun e => decide (e.base ≤ u) && decide (u < e.base + e.len))

/-- What lookup answers: session, line, HDM-DB. -/
structure Found where
  sess : Nat
  line : Nat
  db : Bool
  deriving DecidableEq, Repr

/-- Session lookup (R50): key, then address; a DC block counts only while an extent holds it (R51). -/
def State.lookup (s : State) (m : M2S) : Option Found :=
  match findKey s.sessions ⟨m.port, s.portKind m.port, m.ld⟩ with
  | none => none
  | some (n, binds) =>
    match findBinding binds m.d with
    | none => none
    | some b =>
      let dpa := b.devBase * unit256M + (m.d - b.ldBase * unit256M)
      let u := dpa / unit256M
      let ok := match s.dcOf u with
        | none => true
        | some _ => inExtents (s.sess n).extents u || inExtents (s.sess n).releasing u
      if ok then some ⟨n, lineOf dpa, b.db⟩ else none

/-! ### Responses -/

/-- NDR that grants a state. -/
def ndrOf : MetaValue → NdrOp
  | .s => .cmpS
  | .a => .cmpE
  | _ => .cmp

/-- Send a response unless the link is down, Insecure, or the request's response is discarded. -/
def State.respond (s : State) (p l : Nat) (discard : Bool) (o : Out) : State :=
  if discard || !s.linkUp p l || s.insecure p l then s else s.emit o

/-- DevLoad that responses of a session carry in this stroke (R58). -/
def State.devLoad (s : State) (n : Nat) : Nat := (s.sess n).devLoad

/-- The KEY field of a KIND 4 record (Table 9-7). -/
def keyField (port kind id link : Nat) : Nat := port + 4 * kind + 8 * id + 0x8000 * link

/-- A failed lookup is counted, and recorded once per port per sync epoch (R52). -/
def State.orphan (s : State) (m : M2S) : State :=
  let s := s.bump Reg.SESS_ORPHAN_CNT
  if s.events.orphanSeen.contains m.port then s
  else
    let s := { s with events := { s.events with orphanSeen := s.events.orphanSeen ++ [m.port] } }
    s.event .warn (.internal m.port 0 4 0 m.d 1 s.stroke (keyField m.port (s.portKind m.port) m.ld m.link)) (0x40 + m.port)

/-- The answer of a request that fails lookup, by its opcode (R52). -/
def orphanAnswer (op : MemOp) (port link ld tag dl : Nat) : Out :=
  match op with
  | .memRd | .memRdData => .drs port link ld tag 0 true .i dl
  | .memInv | .memInvNt | .memClnEvct => .ndr port link ld tag .cmp dl
  | .memWr | .memWrPtl => .ndr port link ld tag .cmp dl
  | .biConflict => .ndr port link ld tag .biConflictAck dl

/-! ### Queues (R65, R66) -/

/-- Occupancy of a lane (R76). -/
def LaneQ.occ (q : LaneQ) : Nat := q.head.length + q.spill.length + q.tail.length + q.excess.length

/-- Occupancy of a session. -/
def Session.occ (e : Session) : Nat := e.rd.occ + e.wr.occ

/-- Chunks a session holds. -/
def Session.chunks (e : Session) : Nat := e.rd.chunks.length + e.wr.chunks.length

/-- The session's reserved chunk is in use (R70). -/
def Session.reservedUsed (e : Session) : Bool := (e.rd.chunks ++ e.wr.chunks).any (·.reserved)

/-- A lane of a session. -/
def Session.lane (e : Session) : Lane → LaneQ
  | .read => e.rd
  | .write => e.wr

def Session.setLane (e : Session) (l : Lane) (q : LaneQ) : Session :=
  match l with
  | .read => { e with rd := q }
  | .write => { e with wr := q }

/-- Tail entries move to the head while the spill area holds none of the lane (R66). (DEDUCED, log entry 24). -/
def LaneQ.settle (q : LaneQ) : LaneQ :=
  if q.spill = [] then { q with head := (q.head ++ q.tail).take 2, tail := (q.head ++ q.tail).drop 2 } else q

/-- Room for a pair in a chunk of 1,024 descriptors (R70). -/
def Chunk.room (c : Chunk) : Bool := decide (c.held + 2 ≤ 1024)

/-- The chunk of a lane that takes the next pair: the one written last if it has room, else the oldest that has. -/
def LaneQ.chunkRoom (q : LaneQ) : Option Nat :=
  let last := (q.segs.getLast?.map (·.1)).getD 0
  match q.chunks.find? (fun c => c.num == last && c.room) with
  | some c => some c.num
  | none => (q.chunks.find? Chunk.room).map (·.num)

/-- A pair lies in a chunk behind the other spilled entries. -/
def addPair : List (Nat × Nat) → Nat → List (Nat × Nat)
  | [], n => [(n, 2)]
  | [(m, k)], n => if m = n then [(m, k + 2)] else [(m, k), (n, 2)]
  | x :: r, n => x :: addPair r n

/-- Write the tail pair to the spill area, into a chunk, and let `d` be the tail. -/
def LaneQ.spillTail (q : LaneQ) (n : Nat) (d : Desc) : LaneQ :=
  { q with spill := q.spill ++ q.tail, tail := [d], segs := addPair q.segs n,
           chunks := q.chunks.map (fun c => if c.num == n then { c with held := c.held + 2 } else c) }

/-- The lane takes a chunk for its tail pair. -/
def LaneQ.newChunk (q : LaneQ) (reserved : Bool) (d : Desc) : LaneQ :=
  let n := (q.chunks.map (·.num)).foldl max 0 + 1
  ({ q with chunks := q.chunks ++ [⟨n, reserved, 0⟩] } : LaneQ).spillTail n d

/-- What the entry of a full tail meets: room, a new chunk of a pool, or a hold (R70 to R72). -/
inductive ChunkAnswer where
  | room (n : Nat)
  | reserved | shared | hold (c : HoldCause)
  deriving DecidableEq, Repr

def State.chunkFor (s : State) (e : Session) (q : LaneQ) : ChunkAnswer :=
  match q.chunkRoom with
  | some n => .room n
  | none =>
    if s.share ≤ e.chunks then .hold .share
    else if !e.reservedUsed then .reserved
    else if 0 < s.rd Reg.SESS_SPILL_STATUS_SHARED_FREE then .shared
    else .hold .pool

/-- The entry goes to the overdraft chunk of its link and its credit is withheld (R72). -/
def Session.overdraft (e : Session) (l : Lane) (d : Desc) : Session :=
  let q := e.lane l
  { e.setLane l { q with excess := q.excess ++ [d] } with withheld := e.withheld ++ [(d.link, l == .write)] }

/-- Begin a hold (R72). -/
def State.hold (s : State) (n : Nat) (e : Session) (c : HoldCause) : State :=
  ((s.setSess n { e with held := true, cause := c }).bump Reg.SESS_HOLD_CNT).bump Reg.SESS_HELD

/-- Return one credit; in capo a write credit is withheld (R163). -/
def State.returnCredit (s : State) (p l : Nat) (rwd : Bool) : State :=
  if rwd && s.bit Reg.MERGE_STATUS_CAPO then
    { s with merge := { s.merge with capoCredits := s.merge.capoCredits ++ [(p, l)] } }
  else s.emit (.credit p l rwd 1)

/-- An empty lane holds nothing back. -/
def LaneQ.fresh (q : LaneQ) : LaneQ :=
  if q.head = [] && q.spill = [] && q.tail = [] && q.excess = [] then { q with waits := false } else q

/-- Queue an entry (R66, R72, R74). -/
def State.enqueue (s : State) (n : Nat) (d : Desc) : State :=
  let l := d.op.lane
  let e := (s.sess n).setLane l ((s.sess n).lane l).fresh
  let q := e.lane l
  let rwd := l == .write
  if e.held then s.setSess n (e.overdraft l d)
  else if q.tail.length < 2 then
    (s.setSess n (e.setLane l ({ q with tail := q.tail ++ [d] } : LaneQ).settle)).returnCredit d.port d.link rwd
  else
    match s.chunkFor e q with
    | .room k => (s.setSess n (e.setLane l (q.spillTail k d))).returnCredit d.port d.link rwd
    | .reserved => (s.setSess n (e.setLane l (q.newChunk true d))).returnCredit d.port d.link rwd
    | .shared =>
      ((s.setSess n (e.setLane l (q.newChunk false d))).wr
        Reg.SESS_SPILL_STATUS_SHARED_FREE (s.rd Reg.SESS_SPILL_STATUS_SHARED_FREE - 1)).returnCredit d.port d.link rwd
    | .hold c => s.hold n (e.overdraft l d) c

/-- Take descriptors out of a chunk. -/
def chunkLess (l : List Chunk) (n k : Nat) : List Chunk :=
  l.map (fun c => if c.num == n then { c with held := c.held - k } else c)

/-- Take the oldest `k` spilled entries out of their chunks. -/
def takeSegs : List (Nat × Nat) → List Chunk → Nat → List (Nat × Nat) × List Chunk
  | [], l, _ => ([], l)
  | (n, c) :: r, l, k => if k < c then ((n, c - k) :: r, chunkLess l n k) else takeSegs r (chunkLess l n c) (k - c)

/-- Shared chunks of a list. -/
def sharedOf (l : List Chunk) : Nat := (l.filter (fun c => !c.reserved)).length

/-- The oldest `k` spilled entries leave their chunks; a chunk that holds none returns to its pool (R70). Answers with the
number of shared chunks returned. -/
def LaneQ.unspill (q : LaneQ) (k : Nat) : LaneQ × Nat :=
  let (segs, l) := takeSegs q.segs q.chunks k
  let l := l.filter (fun c => c.held != 0)
  ({ q with segs := segs, chunks := l }, sharedOf q.chunks - sharedOf l)

/-- Give shared chunks back to their pool. -/
def State.freeShared (s : State) (k : Nat) : State :=
  if k = 0 then s else s.wr Reg.SESS_SPILL_STATUS_SHARED_FREE (s.rd Reg.SESS_SPILL_STATUS_SHARED_FREE + k)

/-- All entries of a lane, oldest first. -/
def LaneQ.all (q : LaneQ) : List Desc := q.head ++ q.spill ++ q.tail ++ q.excess

/-- A lane left with some of its entries, oldest first, and the shared chunks that returns. -/
def LaneQ.retain (q : LaneQ) (keep : Desc → Bool) : LaneQ × Nat :=
  let (q, freed) := q.unspill (q.spill.length - (q.spill.filter keep).length)
  (({ q with head := q.head.filter keep, spill := q.spill.filter keep, tail := q.tail.filter keep,
             excess := q.excess.filter keep } : LaneQ).settle, freed)

/-- Keep only some entries of a lane of a session. -/
def State.retainLane (s : State) (n : Nat) (l : Lane) (keep : Desc → Bool) : State :=
  let e := s.sess n
  let q := e.lane l
  (s.setSess n (e.setLane l (q.retain keep).1)).freeShared (q.retain keep).2

/-- End a hold and return every credit it withheld (R73, R75). -/
def State.endHold (s : State) (n : Nat) : State :=
  let e := s.sess n
  if e.held then
    let s := e.withheld.foldl (fun s c => s.returnCredit e.key.port c.1 c.2) s
    (s.setSess n { e with held := false, withheld := [] }).wr Reg.SESS_HELD (s.rd Reg.SESS_HELD - 1)
  else s

/-! ### Time of a request (R7, Table 2-7) -/

/-- Time `t` CCLK into the stroke, as elapsed CCLK: steps of the stroke count are taken out. (DESIGN CHOICE, log entry 19). -/
def State.timeAt (s : State) (t : Nat) : Nat := 1024 * s.stroke + t - s.sched.skew

/-- When the bound of a read that passes now counts from: its arrival, or the start of the stroke if it was held for its
session's allowance or limit or for a tracker (Table 2-7), but never before the time the layout has returned from capo. -/
def State.boundFrom (s : State) (n : Nat) (d : Desc) : Nat :=
  max (if (s.sess n).rd.waits then s.timeAt 0 else d.entered) s.sched.since

/-- Entries of a lane have to wait (Table 2-7). -/
def State.noteWait (s : State) (n : Nat) (l : Lane) : State :=
  let e := s.sess n
  if (e.lane l).waits then s else s.setSess n (e.setLane l { e.lane l with waits := true })

/-! ### Trackers (R46, R57) -/

/-- Take a tracker for a request of a session. -/
def State.takeTracker (s : State) (r : Req) : State × Nat :=
  let rid := s.nextRid
  let e := s.sess r.sess
  let s := (s.setSess r.sess { e with inflight := e.inflight + 1 }).setTrackers r.port r.link (s.trackers r.port r.link + 1)
  ({ s with reqs := s.reqs.put rid r, nextRid := rid + 1 }, rid)

/-- The last flit of the final response leaves: the tracker is free (R46). -/
def State.release (s : State) (rid : Nat) : State :=
  match s.reqs.find rid with
  | none => s
  | some r =>
    let e := s.sess r.sess
    let s := (s.setSess r.sess { e with inflight := e.inflight - 1 }).setTrackers r.port r.link (s.trackers r.port r.link - 1)
    { s with reqs := s.reqs.del rid }

/-- May a request of this session and link take a tracker now. -/
def State.mayTrack (s : State) (n p l : Nat) : Bool :=
  decide ((s.sess n).inflight < (s.sess n).limit) && decide (s.trackers p l < s.trackerCap p)

end Sys2Proof.Machine
end

