-- ==== Sys2Proof/Machine/Command.lean ====
section
/-! DEFINITION. The command unit: path classes, Busy before Ready, retransmissions over MCTP, responses
(R328 to R332). -/

namespace Sys2Proof.Machine

/-- Path classes (R328). -/
inductive PathClass where
  | any | mgmt | admin
  deriving DecidableEq, Repr

/-- The paths of R59. -/
def State.onR59 (s : State) (p : CmdPath) : Bool :=
  match p.kind with
  | .fm => true
  | .mctp => true
  | .secondary => s.portMode p.port == 2
  | .primary => false

/-- The primary mailbox of a port in SLD mode. -/
def State.sldPrimary (s : State) (p : CmdPath) : Bool := p.kind == .primary && s.portMode p.port == 0

/-- Is a command of this class accepted on this path (R328). -/
def State.accepts (s : State) (c : PathClass) (p : CmdPath) : Bool :=
  match c with
  | .any => true
  | .mgmt => s.onR59 p
  | .admin => s.onR59 p || s.sldPrimary p

/-- Store a response for retransmissions (R331). -/
def storeResp (l : List Stored) (p : CmdPath) (x : Rc × Nat × List Nat) : List Stored :=
  l.map (fun e => if e.ep = p.ld && e.tag = p.tag && e.resp = none then { e with resp := some x } else e)

/-- Complete a command. -/
def State.reply (s : State) (p : CmdPath) (rc : Rc) (ext : Nat := 0) (data : List Nat := []) : State :=
  let s := s.emit (.response p rc ext data)
  if p.kind = .mctp then { s with mbox := { s.mbox with stored := storeResp s.mbox.stored p (rc, ext, data) } } else s

/-- The last 16 stored requests of an endpoint (R331). -/
def last16 (l : List Stored) (ep : Nat) : List Stored :=
  let mine := (l.filter (fun e => e.ep == ep)).length
  if mine ≤ 16 then l
  else match l.find? (fun e => e.ep == ep) with
    | some x => l.erase x
    | none => l

/-- Is it a retransmission: identical to a stored request of the endpoint within the last 1 s. -/
def State.resent (s : State) (p : CmdPath) (i : Instr) : Option Stored :=
  if p.kind = .mctp then
    s.mbox.stored.find? (fun e => decide (e.ep = p.ld) && decide (e.tag = p.tag) && decide (e.cmd = i)
      && decide (s.stroke ≤ e.stroke + secondStrokes))
  else none

/-- Mailboxes accept commands from the end of step 3 (R271) while the package rails are up. -/
def State.mailboxOpen (s : State) : Bool := s.start.step3

/-- Run a command: retransmission, path class, Busy before Ready, then the command itself.
(DEDUCED, log entry 141). -/
def State.command (s : State) (p : CmdPath) (i : Instr) (c : PathClass) (needReady : Bool) (f : State → State) : State :=
  if !s.mailboxOpen then s
  else match s.resent p i with
    | some e => match e.resp with
      | some (rc, ext, data) => s.emit (.response p rc ext data)
      | none => s
    | none =>
      let s := if p.kind = .mctp then
          { s with mbox := { s.mbox with stored := last16 (s.mbox.stored ++ [⟨p.ld, p.tag, i, s.stroke, none⟩]) p.ld } }
        else s
      if !s.accepts c p then s.reply p .unsupportedMailbox
      else if needReady && !s.ready then s.reply p .busy 0x000D
      else f s

/-- A mailbox already runs a background operation (R330). -/
def State.bgBusy (s : State) (p : CmdPath) : Bool := p.kind != .mctp && s.mbox.bg.any (fun e => e.1 == p)

/-- Start a background operation. -/
def State.bgStart (s : State) (p : CmdPath) (b : Background) : State :=
  { s with mbox := { s.mbox with bg := s.mbox.bg ++ [(p, b)] } }

/-- End of the background operations of a kind: each path is told, with a doorbell-independent background completion
message on vector 0 (Table 17-2). -/
def State.bgEnd (s : State) (b : Background) (rc : Rc) (ext : Nat) (data : List Nat) : State :=
  let l := s.mbox.bg.filter (fun e => e.2 == b)
  let s := { s with mbox := { s.mbox with bg := s.mbox.bg.filter (fun e => e.2 != b) } }
  l.foldl (fun s e =>
    let s := s.reply e.1 rc ext data
    if e.1.kind = .mctp then s
    else if s.msixEn.contains e.1.port then s.emit (.msix e.1.port 0) else s) s

/-- The part of a line range that a binding maps: first device line and count. -/
def bindingPart (b : Binding) (first lines : Nat) : List (Nat × Nat) :=
  let lo := max first (lineOf (b.ldBase * unit256M))
  let hi := min (first + lines) (lineOf ((b.ldBase + b.size) * unit256M))
  if b.valid && decide (lo < hi) then [(lineOf (b.devBase * unit256M) + (lo - lineOf (b.ldBase * unit256M)), hi - lo)]
  else []

/-- Put a binding into the order of LD DPA. -/
def bindInsert (b : Binding) : List Binding → List Binding
  | [] => [b]
  | c :: r => if b.ldBase ≤ c.ldBase then b :: c :: r else c :: bindInsert b r

/-- Bindings in the order of LD DPA. -/
def inLdOrder (l : List Binding) : List Binding := l.foldr bindInsert []

/-- Exported capacity in lines (R3). -/
def State.capLines (s : State) : Nat := lineOf (s.rd Reg.TOP_CAPACITY_UNITS * unit256M)

/-- The device lines a command's DPA range names, as pieces: first line and count; `none`: Invalid Physical Address
(R329). -/
def State.cmdRange (s : State) (p : CmdPath) (dpa lines : Nat) : Option (List (Nat × Nat)) :=
  if s.onR59 p then (if lineOf dpa + lines ≤ s.capLines then some [(lineOf dpa, lines)] else none)
  else
    match findKey s.sessions ⟨p.port, s.portKind p.port, p.ld⟩ with
    | none => none
    | some (_, binds) =>
      let parts := (inLdOrder binds).flatMap (fun b => bindingPart b (lineOf dpa) lines)
      if (parts.map (·.2)).sum = lines then some parts else none

end Sys2Proof.Machine
end

