-- ==== Sys2Proof/Machine/Place.lean ====
section
/-! DEFINITION. Where a line lies (R79, R95, R110, R111, R114), what the medium holds there, and the bookkeeping of
translation: tract map, fluid table, block records, pools. -/

namespace Sys2Proof.Machine

/-! ### Addresses -/

/-- Logical page of a line (R110). -/
def lpnOf (line : Nat) : Nat := line / 64

/-- Tract of a logical page (R110). -/
def tractOfLpn (lpn : Nat) : Nat := lpn / 1792

/-- Tract of a line. -/
def tractOf (line : Nat) : Nat := tractOfLpn (lpnOf line)

/-- Stripe of a logical page in its tract's stripe block (R110). -/
def stripeOf (lpn : Nat) : Nat := lpn % 1792 / 7

/-- Data slot of a logical page (R110). -/
def slotOf (lpn : Nat) : Nat := lpn % 1792 % 7

/-- Course of a stripe block (R111). -/
def sbnCourse (sbn : Nat) : Nat := sbn / 131072

/-- Die of a stripe block. -/
def sbnDie (sbn : Nat) : Nat := sbn / 32768 % 4

/-- Bank of a stripe block. -/
def sbnBank (sbn : Nat) : Nat := sbn / 2048 % 16

/-- Media page number (R111). -/
def mpOf (sbn stripe pos : Nat) : Nat := sbn * 2048 + stripe * 8 + pos

/-- Channel position of a stripe's parity page (R95): (bank + row) mod 8, where row mod 8 is stripe mod 8. -/
def parityPos (sbn stripe : Nat) : Nat := (sbnBank sbn + stripe) % 8

/-- Channel position of data slot `k` (R95). -/
def dataPos (sbn stripe k : Nat) : Nat := (parityPos sbn stripe + 1 + k) % 8

/-- Stripe block of a media page. -/
def mpSbn (mp : Nat) : Nat := mp / 2048

/-- Stripe of a media page. -/
def mpStripe (mp : Nat) : Nat := mp % 2048 / 8

/-- Channel of a media page (R95). -/
def mpChan (mp : Nat) : Nat := 8 * sbnCourse (mpSbn mp) + mp % 8

/-- Key of the die of a media page: 4 × channel + die. -/
def mpDie (mp : Nat) : Nat := 4 * mpChan mp + sbnDie (mpSbn mp)

/-- Key of a bank: 64 × channel + 16 × die + bank. -/
def bankKey (b : BankId) : Nat := 64 * b.chan + 16 * b.die + b.bank

/-- Key of the bank of a media page. -/
def mpBank (mp : Nat) : Nat := 64 * mpChan mp + 16 * sbnDie (mpSbn mp) + sbnBank (mpSbn mp)

/-- Parity page of the stripe of a media page. -/
def mpParity (mp : Nat) : Nat := mpOf (mpSbn mp) (mpStripe mp) (parityPos (mpSbn mp) (mpStripe mp))

/-- The seven other pages of the stripe of a media page. -/
def mpOthers (mp : Nat) : List Nat :=
  ((List.range 8).map (mpOf (mpSbn mp) (mpStripe mp))).filter (· != mp)

/-- Home page of a logical page in a stripe block. -/
def homeMp (sb lpn : Nat) : Nat := mpOf sb (stripeOf lpn) (dataPos sb (stripeOf lpn) (slotOf lpn))

/-- Logical page of tract `t` that stripe `st` and data slot `k` hold. -/
def lpnAt (t st k : Nat) : Nat := t * 1792 + st * 7 + k

/-! ### Tables -/

def State.tract (s : State) (t : Nat) : Tract := s.xlat.tracts.get {} t

def State.setTract (s : State) (t : Nat) (x : Tract) : State :=
  { s with xlat := { s.xlat with tracts := s.xlat.tracts.set {} t x } }

def State.block (s : State) (b : Nat) : Block := s.xlat.blocks.get {} b

def State.setBlock (s : State) (b : Nat) (x : Block) : State :=
  { s with xlat := { s.xlat with blocks := s.xlat.blocks.set {} b x } }

def State.chan (s : State) (c : Nat) : Chan := s.chans.get {} c

def State.setChan (s : State) (c : Nat) (x : Chan) : State := { s with chans := s.chans.set {} c x }

/-- Die count of the stacks (R2). -/
def State.dies (s : State) : Nat := s.rd Reg.CHAN_STATUS_DIES 0

/-- Shelf time in units of 2^20 strokes (Table 6-6). -/
def State.tagTime (s : State) : Nat := s.stroke / 2 ^ 20

/-- LW_EPOCH unit (R113). -/
def State.lwNow (s : State) : Nat := s.stroke / 2 ^ 14 % 1024

/-- An epoch is later than a last-write epoch (R113). -/
def laterEpoch (f lw : Nat) : Bool :=
  let d := (f + 1024 - lw) % 1024
  decide (1 ≤ d) && decide (d ≤ 511)

/-- Stripe-block epoch `a` is newer than `b` (R122). -/
def newerEpoch (a b : Nat) : Bool :=
  let d := (a + 2 ^ 32 - b % 2 ^ 32) % 2 ^ 32
  decide (1 ≤ d) && decide (d < 2 ^ 31)

/-- Pool state (Table 6-8): 0 Normal, 1 Yellow, 2 Orange, 3 Red. -/
def State.pool (s : State) : Nat := s.rd Reg.XLAT_POOL_STATUS_STATE

/-- Record the last write of a tract (R113). -/
def State.touchTract (s : State) (t : Nat) : State := s.setTract t { s.tract t with lw := s.lwNow }

/-! ### Free pool (R124) -/

/-- Does an SBN name a block of this device (R111). -/
def State.sbnExists (s : State) (b : Nat) : Bool := decide (b < 1048576) && decide (sbnDie b < s.dies)

/-- A block lies on a die declared failed: on any of the eight channels of its course.
(DESIGN CHOICE, log entry 43). -/
def State.sbnFailed (s : State) (b : Nat) : Bool :=
  (List.range 8).any (fun q =>
    s.rd Reg.CHAN_STATUS_DIE_FAILED (8 * sbnCourse b + q) / 2 ^ sbnDie b % 2 == 1)

/-- Stripe blocks of the device (Table 5-1). -/
def State.sbnTotal (s : State) : Nat := 262144 * s.dies

/-- Is a block in the free pool: a free block of a failed die counts as retired (R104). -/
def State.isFree (s : State) (b : Nat) : Bool := s.sbnExists b && (s.block b).pool == .free && !s.sbnFailed b

/-- Stripe blocks of the fixed system area, and of the integrity metadata of each granule (R124, R231).
(DESIGN CHOICE, log entry 44). -/
def systemBlocks : Nat := 1024

def granuleBlocks : Nat := 10

/-- Courses and dies that have lost a die, as 4 × course + die: 32,768 stripe blocks each (R104). -/
def State.lostGroups (s : State) : List Nat :=
  (List.range 32).filter (fun g => decide (g % 4 < s.dies) && s.sbnFailed (131072 * (g / 4) + 32768 * (g % 4)))

/-- Free-pool count: the blocks of the device less the system area, the blocks of lost dies, and those listed in another
pool. -/
def State.freeCount (s : State) : Nat :=
  s.sbnTotal - systemBlocks - granuleBlocks * s.prot.granules.length - 32768 * s.lostGroups.length
    - (s.xlat.blocks.filter (fun e => s.sbnExists e.1 && e.2.pool != .free && e.2.pool != .system
        && !s.sbnFailed e.1)).length

/-- The first unlisted SBN of the device at or above `b`, within `n` tries. -/
def State.firstUnlisted (s : State) : Nat → Nat → Option Nat
  | 0, _ => none
  | n + 1, b =>
    if 1048576 ≤ b then none
    else if (s.xlat.blocks.find b).isNone && s.sbnExists b && !s.sbnFailed b then some b
    else s.firstUnlisted n (b + 1)

/-- Of the listed free blocks, the one with the lowest PRECOND_CNT; ties to the lower SBN. -/
def leastPrecond : List (Nat × Block) → Option (Nat × Block)
  | [] => none
  | e :: r => match leastPrecond r with
    | none => some e
    | some f => if f.2.precond < e.2.precond then some f else some e

/-- Of the listed free blocks, the one with the highest PRECOND_CNT; ties to the lower SBN. -/
def mostPrecond : List (Nat × Block) → Option (Nat × Block)
  | [] => none
  | e :: r => match mostPrecond r with
    | none => some e
    | some f => if e.2.precond < f.2.precond then some f else some e

/-- Steps that a search for an unlisted block may take: past every listed SBN and every die field that names no
block. -/
def searchLen : Nat := 1048576

/-- Free block for a tract home or the hot pool: the lowest PRECOND_CNT (R124). An unlisted block has PRECOND_CNT 0. -/
def State.dispenseLow (s : State) : Option Nat :=
  let listed := s.xlat.blocks.filter (fun e => s.isFree e.1)
  match leastPrecond listed with
  | some e => if e.2.precond = 0 then some e.1 else
      match s.firstUnlisted searchLen 0 with
      | some b => some b
      | none => some e.1
  | none => s.firstUnlisted searchLen 0

/-- Free block for the cold pool: the highest PRECOND_CNT (R124). -/
def State.dispenseHigh (s : State) : Option Nat :=
  match mostPrecond (s.xlat.blocks.filter (fun e => s.isFree e.1)) with
  | some e => some e.1
  | none => s.firstUnlisted searchLen 0

/-- Take the free-pool count into `XLAT_POOL_STATUS.FREE` and the counts of the pools into their registers. -/
def State.poolCounts (s : State) : State :=
  let n (p : Pool) := (s.xlat.blocks.filter (fun e => e.2.pool == p)).length
  ((((s.wr Reg.XLAT_POOL_STATUS_FREE s.freeCount).wr Reg.XLAT_HOT_COUNT_BLOCKS (n .hot)).wr
    Reg.XLAT_COLD_COUNT_BLOCKS (n .cold)).wr Reg.XLAT_LIFTED_PAGES s.xlat.fluid.length).wr
    Reg.XLAT_MOVES_ACTIVE s.xlat.moves.length |>.wr Reg.XLAT_MOVES_QUEUED
      (s.xlat.tracts.filter (fun e => e.2.reloc)).length

/-- Queue a block for precondition, or retire it if it has a failed reset block or a failed die (R129, R130). -/
def State.retireOrQueue (s : State) (b : Nat) : State :=
  let k := s.block b
  if k.failedRb ≠ 0 || s.sbnFailed b then
    (s.setBlock b { k with pool := .retired, tract := none, lifted := 0 })
  else
    let s := s.setBlock b { k with pool := .awaiting, tract := none, lifted := 0, valid := 0 }
    if s.xlat.precondQ.contains b then s
    else { s with xlat := { s.xlat with precondQ := s.xlat.precondQ ++ [b] } }

/-! ### Location (R114, Table 6-3) -/

/-- Fluid entry that decides for a logical page (R114): only in a tract with HAS_LIFTED. -/
def State.fluidOf (s : State) (lpn : Nat) : Option Nat :=
  if (s.tract (tractOfLpn lpn)).hasLifted then (s.xlat.fluid.find lpn).map (·.1) else none

/-- The media page a read of a logical page goes to; `none`: nothing, all-zero data. (DEDUCED, log entry 42). -/
def State.readMp (s : State) (lpn : Nat) : Option Nat :=
  match s.fluidOf lpn with
  | some mp => some mp
  | none =>
    let t := s.tract (tractOfLpn lpn)
    match t.state with
    | .unmapped => none
    | .settled => some (homeMp t.sb lpn)
    | .inTransit =>
      if stripeOf lpn < t.ptr then some (homeMp t.sb lpn)
      else if t.zeroSrc then none else some (homeMp t.src lpn)

/-- Is the home slot of a logical page recorded failed (R135). -/
def State.slotFailed (s : State) (lpn : Nat) : Bool :=
  s.xlat.failedSlots.get false (homeMp (s.tract (tractOfLpn lpn)).sb lpn)

/-- Drain path of a page (Table 6-5). -/
inductive DrainPath where
  | inPlace (mp : Nat)
  | append
  | settleBack
  | hold
  /-- starts tract initialisation -/
  | init
  deriving DecidableEq, Repr

/-- The die of a media page has been declared failed (R103). -/
def State.dieFailed (s : State) (mp : Nat) : Bool :=
  s.rd Reg.CHAN_STATUS_DIE_FAILED (mpChan mp) / 2 ^ sbnDie (mpSbn mp) % 2 == 1

/-- Table 6-5. The fluid table decides first (R114): a page with an entry takes the rows of a lifted page whatever its
tract is doing, but it is settled back only under the conditions of R118. A drain to a line of a failed die is not
programmed; it waits for the relocation of its page (R104). -/
def State.drainPath (s : State) (lpn : Nat) : DrainPath :=
  let t := s.tract (tractOfLpn lpn)
  match t.state with
  | .unmapped => if s.pool = 3 then .hold else .init
  | .inTransit =>
    match s.fluidOf lpn with
    | some _ => if s.pool ≤ 1 then .append else .hold
    | none =>
      if stripeOf lpn < t.ptr && !s.dieFailed (homeMp t.sb lpn) then .inPlace (homeMp t.sb lpn) else .hold
  | .settled =>
    match s.fluidOf lpn with
    | some _ => if s.pool ≤ 1 then .append else if t.reloc || s.slotFailed lpn then .hold else .settleBack
    | none =>
      if s.dieFailed (homeMp t.sb lpn) then .hold
      else if s.slotFailed lpn then (if s.pool ≤ 2 then .append else .hold)
      else .inPlace (homeMp t.sb lpn)

/-- Channel of a line's current drain target; `none` while its tract is Unmapped (R156). (DEDUCED, log entry 39). -/
def State.targetChan (s : State) (line : Nat) : Option Nat :=
  let lpn := lpnOf line
  let t := s.tract (tractOfLpn lpn)
  match t.state with
  | .unmapped => none
  | _ => match s.readMp lpn with
    | some mp => some (mpChan mp)
    | none => some (mpChan (homeMp t.sb lpn))

/-- Rewrite CHANNEL of the entries of a tract after a translation change (R156). -/
def State.retarget (s : State) (t : Nat) : State :=
  { s with merge := { s.merge with entries := s.merge.entries.mapVals (fun l e =>
      if tractOf l = t then { e with chan := s.targetChan l } else e) } }

/-! ### Contents of the medium -/

/-- Line of a page; lines not listed hold zeros programmed with the page. -/
def MPage.line (p : MPage) (ln : Nat) : MLine :=
  p.lines.get { age := p.age, lifted := p.lifted } ln

def MPage.setLine (p : MPage) (ln : Nat) (l : MLine) : MPage :=
  { p with lines := p.lines.set { age := p.age, lifted := p.lifted } ln l }

/-- The line stored at a media place; `none`: blank. -/
def State.mline (s : State) (mp ln : Nat) : Option MLine := (s.pages.find mp).map (fun p => p.line ln)

/-- Program one line of a programmed page. -/
def State.setMline (s : State) (mp ln : Nat) (l : MLine) : State :=
  match s.pages.find mp with
  | some p => { s with pages := s.pages.put mp (p.setLine ln l) }
  | none => s

/-- Age nibble that programs write (R99). -/
def State.ageNow (s : State) : Nat := s.err.e % 16

/-- XOR of stored lines at one line index over some pages; a blank page counts as zeros. -/
def State.xorLines (s : State) (mps : List Nat) (ln : Nat) : Lin :=
  mps.foldl (fun a mp => a.xor ((s.mline mp ln).getD {}).lin) {}

/-- The rebuilt linear field of a place (R97): the seven other lines, with every open delta of the stripe line. -/
def State.rebuilt (s : State) (mp ln : Nat) : Lin :=
  (s.deltas.filter (fun d => d.mp == mpParity mp && d.ln == ln)).foldl (fun a d => a.xor d.delta)
    (s.xorLines (mpOthers mp) ln)

/-- A stripe line that cannot be rebuilt: a degraded stripe, no parity page, a failed parity line, or another failed die in the stripe
(R134, Table 5-10, R106). -/
def State.notRebuilt (s : State) (mp ln : Nat) : Bool :=
  let k := s.block (mpSbn mp)
  k.degraded.contains (mpStripe mp)
    || (s.pages.find (mpParity mp)).isNone
    || s.xlat.badParity.contains (128 * mpParity mp + ln)
    || (mpOthers mp).any s.dieFailed

/-- The seven data pages of a stripe with their parity page: each line the XOR of the same line of the seven (R95). -/
def parityPage (pages : List MPage) (age : Nat) : MPage :=
  { tag := none, age := age,
    lines := (List.range 64).foldl (fun t ln =>
      let x := pages.foldl (fun a p => a.xor (p.line ln).lin) Lin.zero
      t.set { age := age } ln { lin := x, age := age }) [] }

/-- Note a program of `n` lines in a block record (Table 6-7). -/
def State.wear (s : State) (b n : Nat) : State :=
  s.setBlock b { s.block b with wear := (s.block b).wear + n, time := s.tagTime }

/-- Append lines sent to some pages (Table 16-2, channel group, code 0x05). -/
def State.teleAppend (s : State) (mps : List Nat) : State :=
  mps.foldl (fun s mp => s.tele (4 + mpChan mp / 8) 0x05 (mpChan mp % 8) 65) s

/-- Program a stripe: seven data pages in slot order and their parity page (R130). A data page that failed verify is
recorded failed elsewhere and keeps its tag; a failed parity page is not there (R134). -/
def State.programStripe (s : State) (sbn stripe : Nat) (pages : List MPage) (failed : List Nat) : State :=
  let par := mpOf sbn stripe (parityPos sbn stripe)
  let ps := pages.zipIdx.foldl (fun t e => t.put (mpOf sbn stripe (dataPos sbn stripe e.2)) e.1) s.pages
  let ps := if failed.contains 7 then ps else ps.put par (parityPage pages s.ageNow)
  (({ s with pages := ps }).wear sbn 520).teleAppend ((List.range 8).map (fun k => mpOf sbn stripe k))

/-- Drop the programmed pages of a block: precondition leaves the erased pattern (R99). -/
def State.eraseBlock (s : State) (sbn : Nat) : State :=
  { s with pages := s.pages.keep (fun mp _ => mpSbn mp != sbn)
           xlat := { s.xlat with failedSlots := s.xlat.failedSlots.keep (fun mp _ => mpSbn mp != sbn)
                                 badParity := s.xlat.badParity.filter (fun x => mpSbn (x / 128) != sbn) }
           err := { s.err with rewrites := s.err.rewrites.filter (fun r => mpSbn r.mp != sbn)
                               refresh := s.err.refresh.filter (fun mp => mpSbn mp != sbn)
                               wake := s.err.wake.filter (fun mp => mpSbn mp != sbn) } }

/-- A new page version: the page's lines with a tag (Table 6-6). -/
def State.newPage (s : State) (lpn : Nat) (cls : TagClass) (epoch seq : Nat) (lines : Nat → MLine) : MPage :=
  let lifted := cls == .hot
  (List.range 64).foldl (fun p ln =>
      p.setLine ln { (lines ln) with age := s.ageNow, lifted := lifted })
    { tag := some ⟨lpn, seq, s.tagTime, cls, epoch⟩, age := s.ageNow, lifted := lifted }

end Sys2Proof.Machine
end

