-- ==== Sys2Proof/Machine/Errors.lean ====
section
/-! DEFINITION. What the device does with errors: the poison list (R202), Dirty-data-lost, uncorrectable media lines
(R194), detected errors of HBM and SRAM (R199), and the bucket of each unit (Table 9-4, Table 9-10). -/

namespace Sys2Proof.Machine

/-! ### The poison list (R202) -/

/-- Records the list holds. -/
def poisonCap : Nat := 1048576

/-- The line is listed. -/
def listed (l : List PoisonRec) (line : Nat) : Bool :=
  l.any (fun r => decide (r.first ≤ line) && decide (line < r.first + r.count))

/-- Put a one-line record in DPA order, joining a neighbour of the same source with room. -/
def poisonPut (l : List PoisonRec) (line : Nat) (src : PoisonSrc) : List PoisonRec :=
  match l with
  | [] => [⟨line, 1, src⟩]
  | r :: q =>
    if line < r.first then
      (if line + 1 = r.first && r.src == src && decide (r.count < 65535) then ⟨line, r.count + 1, src⟩ :: q
       else ⟨line, 1, src⟩ :: r :: q)
    else if line = r.first + r.count && r.src == src && decide (r.count < 65535) then
      match q with
      | n :: q' =>
        if n.first = line + 1 && n.src == src && decide (r.count + 1 + n.count ≤ 65535)
        then ⟨r.first, r.count + 1 + n.count, src⟩ :: q'
        else ⟨r.first, r.count + 1, src⟩ :: q
      | [] => [⟨r.first, r.count + 1, src⟩]
    else r :: poisonPut q line src

/-- Set OVERFLOW and POISON_FULL (R202). -/
def State.poisonFull (s : State) : State :=
  let s := if s.bit Reg.ERR_POISON_LIST_OVERFLOW then s else { s with err := { s.err with poisonLost := s.timestamp } }
  (s.setBit Reg.ERR_POISON_LIST_OVERFLOW true).health Reg.ERR_HEALTH_EVENT_POISON_FULL

/-- Take a new list into force. -/
def State.setPoison (s : State) (l : List PoisonRec) : State :=
  ({ s with err := { s.err with poison := l } }).wr Reg.ERR_POISON_LIST_RECORDS l.length

/-- A poisoned line enters the list; a line already listed stays as it is listed (R151, R202). -/
def State.poisonAdd (s : State) (line : Nat) (src : PoisonSrc) : State :=
  if listed s.err.poison line then s
  else
    let l := poisonPut s.err.poison line src
    if poisonCap < l.length then s.poisonFull else s.setPoison l

/-- Cut a line out of the list; answers the list and whether a record was split. -/
def poisonCut : List PoisonRec → Nat → List PoisonRec
  | [], _ => []
  | r :: q, line =>
    if line < r.first then r :: q
    else if line = r.first then (if r.count = 1 then q else ⟨line + 1, r.count - 1, r.src⟩ :: q)
    else if line + 1 = r.first + r.count then ⟨r.first, r.count - 1, r.src⟩ :: q
    else if line < r.first + r.count then
      ⟨r.first, line - r.first, r.src⟩ :: ⟨line + 1, r.first + r.count - (line + 1), r.src⟩ :: q
    else r :: poisonCut q line

/-- As `poisonCut` for a full list: the upper part of a split record leaves the list (R202). -/
def poisonCutFull : List PoisonRec → Nat → List PoisonRec
  | [], _ => []
  | r :: q, line =>
    if r.first < line && decide (line + 1 < r.first + r.count) then ⟨r.first, line - r.first, r.src⟩ :: q
    else r :: poisonCutFull q line

/-- A line leaves the list: a full-line write or a Clear Poison has merged for it (R202). -/
def State.poisonDrop (s : State) (line : Nat) : State :=
  if !listed s.err.poison line then s
  else
    let l := poisonCut s.err.poison line
    if poisonCap < l.length then (s.setPoison (poisonCutFull s.err.poison line)).poisonFull else s.setPoison l

/-! ### Records -/

/-- Dirty-data-lost of a line (Table 9-6, KIND 3). -/
def State.dirtyLost (s : State) (line : Nat) : State :=
  let s := (s.bump Reg.ERR_DIRTY_LOST_CNT).health Reg.ERR_HEALTH_EVENT_DIRTY_LOST
  s.event .fail (.internal 4 0 3 0 (line * 64) 1 s.stroke 0) 0x4A

/-- The channel of a line, as a record's SOURCE (R298). -/
def State.lineChan (s : State) (line : Nat) : Nat :=
  match s.readMp (lpnOf line) with
  | some mp => mpChan mp
  | none => 0x49

/-- An uncorrectable media line: counters, last DPA, and one General Media Event (R194, Table 9-6). -/
def State.uncorrRecord (s : State) (line chan transaction : Nat) : State :=
  let dpa := line * 64
  let s := (s.bump Reg.ERR_UNCORR_CNT).bump Reg.CHAN_UNCORR_CNT 1 chan
  let s := (s.wr Reg.ERR_LAST_UNCORR_LO_DPA_LO dpa).setBit Reg.ERR_LAST_UNCORR_HI_VALID true
  let s := { s with err := { s.err with lastUncorrHi := dpa / 2 ^ 32 } }
  (s.health Reg.ERR_HEALTH_EVENT_UNCORR).event .fail (.media dpa false transaction) chan

/-- Row of Table 9-3 with its UNIT, class and SOURCE (Table 9-10), and its bucket (Table 9-4). -/
structure Region where
  row : Nat
  unit : Nat
  classF : Bool
  source : Nat
  bucket : Nat
  deriving DecidableEq, Repr

/-- A mend of a class M line or a class F mismatch (R199, R201): a corrected volatile error. -/
def State.correctedVol (s : State) (r : Region) (address : Nat) : State :=
  ((s.tele 12 (if r.classF then 0x05 else 0x04) 0).bump Reg.ERR_CORR_VOL_CNT).bucket r.bucket ⟨r.unit, if r.classF then 1 else 0, r.row, address, 0, r.source⟩

/-- A detected error of a class M row (R199): counted, and recorded as KIND 2. -/
def State.detected (s : State) (r : Region) (address : Nat) : State :=
  let s := (s.bump Reg.ERR_UNCORR_CNT).health Reg.ERR_HEALTH_EVENT_UNCORR
  s.event .fail (.internal r.unit 0 2 r.row address 1 s.stroke 0) r.source

def regionEntry : Region := ⟨1, 4, false, 0x4A, 4⟩
def regionSettling : Region := ⟨2, 4, true, 0x4A, 5⟩
def regionCell : Region := ⟨3, 4, false, 0x4A, 4⟩
def regionReadCache : Region := ⟨5, 4, true, 0x51, 5⟩
def regionSpill (port : Nat) : Region := ⟨9, 4, false, 0x40 + port, 4⟩
def regionStaging : Region := ⟨12, 4, true, 0x51, 5⟩
def regionSlice (slice : Nat) : Region := ⟨13, slice, true, 0x40 + slice, slice⟩
def regionSession (port : Nat) : Region := ⟨16, 5, false, 0x40 + port, 6⟩
def regionKeySlot : Region := ⟨22, 5, false, 0x4C, 6⟩

/-- A media line recovered by retune retry or reconstruction: the course's bucket and the persistent count (R201,
Table 9-8). -/
def State.recovered (s : State) (line chan : Nat) : State :=
  (s.bump Reg.ERR_CORR_PERS_CNT).bucket (8 + chan / 8) ⟨0, 0, 0, 0, line * 64, chan⟩

/-! ### What becomes of the stored line (R194) -/

/-- Mark a page for refresh. -/
def State.markRefresh (s : State) (mp : Nat) : State :=
  if s.err.refresh.contains mp then s else { s with err := { s.err with refresh := s.err.refresh ++ [mp] } }

/-- Place one write-back of a line; a line has only one at a time (R194). -/
def State.askRewrite (s : State) (r : Rewrite) : State :=
  if s.err.rewrites.any (fun x => x.mp == r.mp && x.ln == r.ln)
      || s.ops.any (fun e => e.2.kind == .rewrite && e.2.mp == r.mp && e.2.ln == r.ln) then s
  else { s with err := { s.err with rewrites := s.err.rewrites ++ [r] } }

/-- Recovered by reconstruction: written back in place (R194). -/
def State.rewriteGood (s : State) (line mp ln : Nat) (data : LineData) : State :=
  let lifted := match s.pages.find mp with
    | some p => p.lifted
    | none => false
  if s.dieFailed mp then s
  else (s.askRewrite ⟨line, mp, ln, storedLine data false s.ageNow lifted⟩).bump Reg.ERR_REWRITE_CNT

/-- Step 3 of R135 applied to an uncorrectable line: the poison pattern goes to its place, and the delta to parity, so
that a reconstruction yields the pattern; the line enters the list with source Internal (R194). -/
def State.rewritePoison (s : State) (line mp ln : Nat) : State :=
  if s.dieFailed mp then s else
  let lifted := match s.pages.find mp with
    | some p => p.lifted
    | none => false
  (s.askRewrite ⟨line, mp, ln, storedLine 0 true s.ageNow lifted⟩).poisonAdd line .internal

end Sys2Proof.Machine
end

