-- ==== Sys2Proof/Machine/MergeOps.lean ====
section
/-! DEFINITION. The merge engine (R143 to R158): entries, candidate sets, the dirty level and its limits, merging a
write, and persistence points' coverage. -/

namespace Sys2Proof.Machine

def State.entry (s : State) (line : Nat) : Option Entry := s.merge.entries.find line

def State.putEntry (s : State) (line : Nat) (e : Entry) : State :=
  { s with merge := { s.merge with entries := s.merge.entries.put line e } }

/-- Reads of some lines that have not taken their place in the line's order forget a media result obtained before a write
(R178, R179): what would have answered them goes. `all`: their media reads are forgotten too, not only those that a write
has passed. (DEDUCED, log entry 143). -/
def State.forgetReads (s : State) (lines : Nat → Bool) (all : Bool) : State :=
  let late (rid : Nat) : Bool := s.reqs.any (fun e => e.1 == rid && lines e.2.line && !e.2.looked)
  { s with
    reqs := s.reqs.mapVals (fun _ r => if lines r.line && !r.looked then { r with result := none } else r)
    sched := { s.sched with jobs := s.sched.jobs.keep (fun _ j => match j.why with
      | .host rid => !((all || j.stale) && late rid)
      | .fill => true) } }

/-- An entry goes. -/
def State.dropEntry (s : State) (line : Nat) : State :=
  let s := s.forgetReads (fun l => l == line) false
  { s with merge := { s.merge with entries := s.merge.entries.del line } }

/-- Unit of TIME (Table 7-2): 2^8 strokes, modulo 2^14. -/
def State.timeNow (s : State) : Nat := s.stroke / 256 % 16384

/-- Age of a TIME in units. (DEDUCED, log entry 38). -/
def State.unitsOld (s : State) (t : Nat) : Nat := (s.timeNow + 16384 - t % 16384) % 16384

/-- Full MASK. -/
def fullMask : Mask := BitVec.allOnes 64

def Entry.full (e : Entry) : Bool := e.mask == fullMask

/-- Dirty, Draining or Redirty. -/
def Entry.isDirty (e : Entry) : Bool := e.state == .dirty || e.state == .draining || e.state == .redirty

/-- An entry in the Dirty, Draining, Redirty or Pinned state. -/
def Entry.pends (e : Entry) : Bool := e.isDirty || e.state == .pinned

/-- The data bits that byte enables select. -/
def maskBits (m : Mask) : LineData :=
  (List.range 64).foldl (fun a b => if m.getLsbD b then a ||| BitVec.ofNat 512 (255 * 2 ^ (8 * b)) else a) 0

/-- Bytes of `new` under the mask, the others of `old`. -/
def mergeBytes (old new : LineData) (m : Mask) : LineData := (old &&& ~~~(maskBits m)) ||| (new &&& maskBits m)

/-! ### Counts and limits (R154, R156, R157) -/

/-- Dirty budget in lines. -/
def State.budgetLines (s : State) : Nat := s.rd Reg.MERGE_CFG_BUDGET * 1048576

/-- Channel limit of a budget in 64 MiB units (R156). -/
def chanLimit (budget : Nat) : Nat := budget * 1048576 * 76 / 3600

def State.chanL (s : State) : Nat := chanLimit (s.rd Reg.MERGE_CFG_BUDGET)

/-- The dirty level: a line counts from its first dirtying until it leaves for Settling or Free (R146, R154).
(DEDUCED, log entry 36). -/
def State.dirtyLevel (s : State) : Nat := (s.merge.entries.filter (fun e => e.2.pends)).length

/-- Dirty lines of a channel. -/
def State.chanDirty (s : State) (c : Nat) : Nat :=
  (s.merge.entries.filter (fun e => e.2.pends && e.2.chan == some c)).length

/-- The budget is reached for a target (R157). -/
def State.budgetReached (s : State) (c : Option Nat) : Bool :=
  decide (s.budgetLines ≤ s.dirtyLevel)
    || (match c with
      | some k => decide (s.chanL ≤ s.chanDirty k)
      | none => false)

/-- The budget is reached in total or on some channel (`MERGE_STATUS.LIMIT`). -/
def State.limitHit (s : State) : Bool :=
  s.budgetReached none || (List.range 64).any (fun c => s.budgetReached (some c))

/-- Entries with FILL_PEND of a channel. -/
def State.chanPartial (s : State) (c : Option Nat) : Nat :=
  (s.merge.entries.filter (fun e => e.2.fillPend && e.2.chan == c)).length

/-- Registers that show the merge buffer (Table 7-8), and pinned lines (Table 6-11). -/
def State.mergeCounts (s : State) : State :=
  let n (p : Entry → Bool) := (s.merge.entries.filter (fun e => p e.2)).length
  ((((s.wr Reg.MERGE_STATUS_DIRTY s.dirtyLevel).wr Reg.MERGE_SETTLING_LINES (n (·.state == .settling))).wr
    Reg.MERGE_PARTIAL_LINES (n (·.fillPend))).wr Reg.XLAT_PINNED_LINES (n (·.state == .pinned))).setBit
    Reg.MERGE_STATUS_LIMIT s.limitHit

/-! ### Sets (R143) -/

/-- Entries of a set. -/
def State.setCount (s : State) (h : Nat) : Nat := (s.merge.entries.filter (fun e => e.2.set == h)).length

/-- A settling copy is releasable (R155). -/
def State.releasable (s : State) (e : Entry) : Bool := e.state == .settling && decide (62 ≤ s.unitsOld e.time)

/-- Releasable copy of a set that was least recently read. -/
def oldestRead : List (Nat × Entry) → Option (Nat × Entry)
  | [] => none
  | e :: r => match oldestRead r with
    | none => some e
    | some f => if f.2.lastRead < e.2.lastRead then some f else some e

/-- What a new entry finds: a set with a free record, a copy to release, or neither. -/
inductive RecordFor where
  | free (set : Nat)
  | release (line set : Nat)
  | none
  deriving DecidableEq, Repr

/-- A record for a new entry: a Free one in the emptier candidate set, else a releasable Settling one. -/
def State.recordFor (s : State) (line : Nat) : RecordFor :=
  let a := Config.setHash 0 line
  let b := Config.setHash 1 line
  let h := if s.setCount b < s.setCount a then b else a
  if s.merge.entries.length < 16 then .free h
  else if s.setCount h < 16 then .free h
  else match oldestRead (s.merge.entries.filter (fun e => (e.2.set == a || e.2.set == b) && s.releasable e.2)) with
    | some e => .release e.1 e.2.set
    | none => .none

/-! ### A merge (R145 to R147, R149) -/

/-- A write as it reaches the merge engine. `cellBad`: its landing cell had a detected error (Table 9-3). `fPast`: the
class F check of the settling copy it meets fails (R155). -/
structure WriteIn where
  line : Nat
  data : LineData
  be : Mask
  poison : Bool
  cellBad : Bool := false
  fBad : Bool := false
  deriving DecidableEq, Repr

/-- The write replaces the whole line. -/
def WriteIn.whole (w : WriteIn) : Bool := w.be == fullMask

/-- The entry that a write merging into Free makes; bytes that no media line holds are zeros (Table 1-4). -/
def State.newEntry (s : State) (w : WriteIn) (set : Nat) : Entry :=
  let bad := w.poison || w.cellBad
  let noMedia := (s.readMp (lpnOf w.line)).isNone
  { state := .dirty, data := mergeBytes 0 w.data w.be,
    mask := if noMedia then fullMask else w.be,
    poison := bad, fillPend := !w.whole && !noMedia,
    chan := s.targetChan w.line, time := s.timeNow, set := set, lastRead := s.stroke }

/-- The entry after a write merges into it (Table 7-3, R147, R151). -/
def State.mergedEntry (s : State) (e : Entry) (w : WriteIn) : Entry :=
  let bad := w.poison || w.cellBad
  let mask := if e.state = .settling then fullMask else e.mask ||| w.be
  let e' := { e with
    data := mergeBytes e.data w.data w.be, mask := mask,
    poison := if w.whole then bad else (e.poison || bad),
    fillBad := e.fillBad && mask != fullMask,
    mismatch := false }
  match e.state with
  | .dirty => { e' with state := .dirty }
  | .draining => { e' with state := .redirty, time := s.timeNow }
  | .redirty => { e' with state := .redirty }
  | .settling => { e' with state := .dirty, time := s.timeNow, chan := s.targetChan w.line }
  | .pinned => { e' with state := .pinned }

/-- Media reads of a line that were issued before this write must not fill a cache (R15). -/
def State.staleJobs (s : State) (line : Nat) : State :=
  { s with sched := { s.sched with jobs := s.sched.jobs.mapVals (fun _ j =>
      if j.line = line then { j with stale := true } else j) } }

/-- Remove the fill job of a line (R149, cancellation). -/
def State.dropFill (s : State) (line : Nat) : State :=
  { s with sched := { s.sched with jobs := s.sched.jobs.keep (fun _ j => !(j.line == line && j.why == .fill)) } }

/-- The bytes-written counter's lines (R289): 2^30 lines make one unit of 2^36 B. -/
def State.countBytes (s : State) : State :=
  if s.keep.byteLines + 1 < 2 ^ 30 then { s with keep := { s.keep with byteLines := s.keep.byteLines + 1 } }
  else { s with keep := { s.keep with
      byteLines := 0, bytes := { s.keep.bytes with pending := s.keep.bytes.pending + 1 } } }

/-- Put the merged entry in place with all that a merge brings (R113, R146, R147, R202). -/
def State.putMerged (s : State) (w : WriteIn) (e : Entry) : State :=
  let s := s.putEntry w.line e
  let s := if w.cellBad then s.poisonAdd w.line .internal
    else if w.whole && !w.poison then s.poisonDrop w.line else s
  (((s.touchTract (tractOf w.line)).staleJobs w.line).countBytes).bump Reg.MERGE_MERGE_CNT |>.mergeCounts

/-- Merge a write (R146). A settling copy whose class F check fails gives way: a whole-line write replaces it, and
a partial write, once the copy is releasable, forms a new entry (R155). -/
def State.mergeWrite (s : State) (w : WriteIn) (set : Nat) : State :=
  match s.entry w.line with
  | some e =>
    if e.state = .settling && w.fBad && !w.whole then
      ((s.bump Reg.MERGE_SETTLE_REFETCH_CNT).dropEntry w.line).putMerged w (s.newEntry w e.set)
    else
      let s := if e.state = .settling && w.fBad then s.bump Reg.MERGE_SETTLE_REFETCH_CNT else s
      s.putMerged w (s.mergedEntry e w)
  | none => s.putMerged w (s.newEntry w set)

/-- What a write meets at the merge engine before it passes (R143, R152, R155, R157). -/
inductive MergeRoom where
  | go (set : Nat) (drop : Option Nat)
  | setFull
  | wait
  deriving DecidableEq, Repr

def State.mergeRoom (s : State) (w : WriteIn) (charged : Bool) : MergeRoom :=
  let target := s.targetChan w.line
  let fills := !w.whole && (s.readMp (lpnOf w.line)).isSome
  let partFull := fills && decide (s.rd Reg.MERGE_PARTIAL_CFG_MAX ≤ s.chanPartial target)
  match s.entry w.line with
  | some e =>
    if e.pends then .go e.set none
    else if charged && s.budgetReached target then .wait
    else if w.fBad && !w.whole then (if s.releasable e && !partFull then .go e.set none else .wait)
    else .go e.set none
  | none =>
    if charged && s.budgetReached target then .wait
    else if partFull then .wait
    else match s.recordFor w.line with
      | .free h => .go h none
      | .release l h => .go h (some l)
      | .none => .setFull

/-! ### Drains -/

/-- A program of the line's drain verifies (Table 7-3, R145, R154). -/
def State.drainVerified (s : State) (line : Nat) : State :=
  match s.entry line with
  | none => s
  | some e =>
    let s := (s.bump Reg.MERGE_DRAIN_CNT)
    match e.state with
    | .draining =>
      let (d, bad) := e.draining.getD (e.data, e.poison)
      (s.putEntry line { e with state := .settling, time := s.timeNow, data := d, poison := bad, fillBad := false,
                                draining := none }).mergeCounts
    | .redirty => (s.putEntry line { e with state := .dirty, draining := none }).mergeCounts
    | _ => s

/-- It fails verify, or is abandoned: the entry is dirty again (R19, R154). -/
def State.drainFailed (s : State) (line : Nat) : State :=
  match s.entry line with
  | none => s
  | some e =>
    if e.state = .draining || e.state = .redirty then
      (s.putEntry line { e with state := .dirty, draining := none }).mergeCounts
    else s

/-- What a drain of an entry carries: its data, or the poison pattern (R147, R151). -/
def Entry.carries (e : Entry) : LineData × Bool :=
  let bad := e.poison || e.fillBad
  (if bad then 0 else e.data, bad)

/-- A line drained as the poison pattern enters the list (R147, R151); the sources Internal and Injected entered it when
they arose. -/
def State.drainPoison (s : State) (line : Nat) (e : Entry) : State :=
  if e.poison || e.fillBad then s.poisonAdd line (if e.poison then .external else .internal) else s

/-! ### Persistence points (R159) -/

/-- A point covers an entry. -/
def State.covers (s : State) (p : Point) (e : Entry) : Bool :=
  decide (p.stroke ≤ s.stroke) && e.pends && decide (s.stroke / 256 - p.stroke / 256 ≤ s.unitsOld e.time)

/-- Some pending point covers the entry. -/
def State.covered (s : State) (e : Entry) : Bool := s.merge.points.any (fun p => s.covers p e)

/-- Some point is pending and has begun (R159: it takes the background share). -/
def State.pointActive (s : State) : Bool := s.merge.points.any (fun p => decide (p.stroke ≤ s.stroke))

/-- Entries that keep a point from completing. -/
def State.pointLeft (s : State) (p : Point) : Nat :=
  (s.merge.entries.filter (fun e => s.covers p e.2 && e.2.state != .pinned)).length

/-- Pinned entries a completed point leaves uncovered. -/
def State.pointPinned (s : State) (p : Point) : Nat :=
  (s.merge.entries.filter (fun e => s.covers p e.2 && e.2.state == .pinned)).length

/-- `MERGE_STATUS.POINTS`: distinct points pending, at most 7 shown. -/
def State.pointCount (s : State) : State := s.wr Reg.MERGE_STATUS_POINTS (min 7 s.merge.points.length)

end Sys2Proof.Machine
end

