-- ==== Sys2Proof/Machine/MergeFamily.lean ====
section
/-! DEFINITION. Persistence points and the MERGE_ registers (R156 to R162, R167): MERGE_CFG_WRITE, PERSIST_AT,
PERSISTENCE_POINT_COMPLETE, GPF_PHASE1, GPF_PHASE2, MERGE_CNT_CLR and MERGE_POINT_LO_READ. -/

namespace Sys2Proof.Machine

/-! ### Dirty budget (R156, R158) -/

/-- B ≤ (T_H − 3 ms) × 360 GB/s, budget in 64 MiB and hold-up in 0.1 ms (R158). -/
def budgetFits (budget holdup : Nat) : Bool := decide (budget * 67108864 + 30 * 36000000 ≤ holdup * 36000000)

/-- Device GPF Phase 2 Duration in whole ms (R160). -/
def gpfDuration (budget : Nat) : Nat := (((chanLimit budget + 29) / 30) * 640 + 1000000 + 999999) / 1000000

/-- Put a budget and hold-up into force, with what follows from them (R156, R160). -/
def State.setBudget (s : State) (budget holdup : Nat) : State :=
  let s := (s.wr Reg.MERGE_CFG_BUDGET budget).wr Reg.MERGE_CFG_HOLDUP holdup
  ((s.wr Reg.MERGE_CHAN_LIMIT_L (chanLimit budget)).wr Reg.MERGE_GPF_DUR_MS (gpfDuration budget)).mergeCounts

/-- MERGE_CFG_WRITE (R158, R390): judged whole; an accepted pair is saved in the keep. -/
def execMergeCfgWrite (v : Word) (s : State) : Host.Outcome State Fault Refusal :=
  done s (
    let b := v.toNat % 64
    let h := v.toNat / 256 % 256
    let m := v.toNat / 65536 % 256
    let same := b == s.rd Reg.MERGE_CFG_BUDGET && h == s.rd Reg.MERGE_CFG_HOLDUP
    if same || (decide (1 ≤ b) && decide (b ≤ 48) && decide (100 ≤ h) && budgetFits b h) then
      (((s.setBudget b h).wr Reg.MERGE_CFG_MIN_AGE m).keepWrite 7 (.merge b h)).flash
    else s.setBit Reg.MERGE_STATUS_CFG_REJECT true)

/-! ### Persistence points (R159 to R162) -/

/-- Is a point with this stroke pending. -/
def State.pointAt (s : State) (S : Nat) : Bool := s.merge.points.any (fun p => p.stroke == S)

/-- The 8 places of PERSIST AT and shelf points are taken (R159). -/
def State.pointsFull (s : State) : Bool := decide (8 ≤ (s.merge.points.filter (·.counted)).length)

/-- Start a point at a stroke, or change the one that is pending there. -/
def State.joinPoint (s : State) (S : Nat) (counted : Bool) (f : Point → Point) : State :=
  let l := if s.pointAt S then s.merge.points.map (fun p => if p.stroke == S then f p else p)
    else s.merge.points ++ [f ⟨S, false, counted, [], [], none⟩]
  ({ s with merge := { s.merge with points := l } }).pointCount

/-- End the background operation of one path. -/
def State.bgDone (s : State) (p : CmdPath) (b : Background) (rc : Rc) (ext : Nat) (data : List Nat) : State :=
  let s := { s with mbox := { s.mbox with bg := s.mbox.bg.filter (fun e => !(decide (e.1 = p) && e.2 == b)) } }
  let s := s.reply p rc ext data
  if p.kind = .mctp then s
  else if s.msixEn.contains p.port then s.emit (.msix p.port 0) else s

/-- Output of PERSIST AT: completion stroke and pinned lines uncovered (Table 15-3). -/
def pointOutput (stroke pinned : Nat) : List Nat := leBytes 8 stroke ++ leBytes 4 pinned

/-- Lines of the Pinned entries that a point covers. -/
def State.pinnedOf (s : State) (p : Point) : List Nat :=
  (s.merge.entries.filter (fun e => s.covers p e.2 && e.2.state == .pinned)).map (·.1)

/-- A point completes: its stroke is kept, its commands and GPF are answered, and the shelf is told (R159 to R162).
`pinned` are the lines left uncovered; with a capo's flush they have been logged as lost already.
(DEDUCED, log entry 67). -/
def State.endPoint (s : State) (p : Point) (pinned : List Nat) (capo : Bool := false) : State :=
  let s := { s with merge := { s.merge with
    points := s.merge.points.filter (fun q => q.stroke != p.stroke), lastPoint := some p.stroke, pointDone := s.stroke,
    pointPinned := pinned.length } }
  let s := (s.wr Reg.MERGE_POINT_LO_STROKE_LO s.stroke).pointCount
  let s := if capo then s else s.bump Reg.MERGE_LOST_CNT pinned.length
  let s := p.waiting.foldl (fun s c => s.bgDone c .persist .success 0 (pointOutput s.merge.pointDone pinned.length)) s
  let s := if p.gpfPorts = [] || capo then s else pinned.foldl (fun s l => s.dirtyLost l) s
  let s := p.gpfPorts.foldl (fun s q => if s.linkUp q 0 || s.linkUp q 1 then s.emit (.gpfAck q 2) else s) s
  match p.shelf with
  | some q => { s with shelf := { s.shelf with pointReport := (q, if (if capo then s.merge.lost else pinned != []) then 1 else 0) } }
  | none => s

/-- PERSIST AT, in the order of tests of R161. -/
def State.persistAt (s : State) (p : CmdPath) (S : Nat) : State :=
  if s.bgBusy p then s.reply p .busy
  else if s.stroke + 2 ^ 24 < S then s.reply p .invalidInput
  else
    let past := match s.merge.lastPoint with
      | some q => decide (S ≤ q)
      | none => false
    if past then s.reply p .success 0 (pointOutput s.merge.pointDone s.merge.pointPinned)
    else
      let S := if S ≤ s.stroke then s.stroke + 1 else S
      if !s.pointAt S && s.pointsFull then s.reply p .busy
      else ((s.joinPoint S true (fun q => { q with waiting := q.waiting ++ [p] })).bgStart p .persist).reply p
        .backgroundStarted

/-- PERSIST_AT (R161). (DEDUCED, log entry 68). -/
def execPersistAt (p : CmdPath) (stroke : Nat) (s : State) : Host.Outcome State Fault Refusal :=
  done s (s.command p (.persistAt p stroke) .any false (fun s => s.persistAt p stroke))

/-- PERSISTENCE_POINT_COMPLETE (R159): at a stroke boundary at which only Pinned entries remain. -/
def execPersistencePointComplete (stroke : Nat) (s : State) : Host.Outcome State Fault Refusal :=
  done s (
    match s.merge.points.find? (fun p => p.stroke == stroke) with
    | none => s
    | some p => if p.stroke ≤ s.stroke && s.pointLeft p == 0 then s.endPoint p (s.pinnedOf p) else s)

/-- GPF_PHASE1 (R160): acknowledged at once. -/
def execGpfPhase1 (port : Nat) (s : State) : Host.Outcome State Fault Refusal := done s (s.emit (.gpfAck port 1))

/-- GPF_PHASE2 (R160): a point at the next stroke boundary in the place kept for it, or joined there. -/
def execGpfPhase2 (port : Nat) (s : State) : Host.Outcome State Fault Refusal :=
  done s (s.joinPoint (s.stroke + 1) false (fun q => { q with gpf := true, gpfPorts := q.gpfPorts ++ [port] }))

/-- MERGE_CNT_CLR (R167). -/
def execMergeCntClr (v : Word) (s : State) : Host.Outcome State Fault Refusal :=
  done s (if v.toNat % 2 = 1 then s.askClear .merge else s)

/-- MERGE_POINT_LO_READ (R167). -/
def execMergePointLoRead (s : State) : Host.Outcome State Fault Refusal :=
  done s ((s.wr Reg.MERGE_POINT_HI_STROKE_HI (s.merge.pointDone / 2 ^ 32)).emit
    (.readValue Reg.MERGE_POINT_LO_STROKE_LO.off (s.merge.pointDone % 2 ^ 32)))

end Sys2Proof.Machine
end

