-- ==== Sys2Proof/Machine/ReadPath.lean ====
section
/-! DEFINITION. Slice caches, the slice directory, the host directory, snoops, and the answering of reads (R14, R168 to
R191), shared by the families of the host side. -/

namespace Sys2Proof.Machine

/-! ### Ranges and device-internal writes as a request meets them -/

/-- Protection range of a line (R216). -/
def State.rangeOf (s : State) (line : Nat) : Nat :=
  match s.prot.ranges.find? (fun e => e.2.valid && decide (e.2.base ≤ line * 64 / unit256M)
      && decide (line * 64 / unit256M < e.2.base + e.2.size)) with
  | some e => e.1
  | none => 0

/-- The range of a line is unverified, or its key slot is lost (R219, R232). -/
def State.unverified (s : State) (line : Nat) : Bool :=
  let n := s.rangeOf line
  s.prot.integState.get .off n == .unverified || s.prot.slotLost.contains n

/-- Integrity protection covers a line. -/
def State.integLine (s : State) (line : Nat) : Bool :=
  let n := s.rangeOf line
  n != 0 && (s.prot.ranges.get {} n).integ

/-- Kind of the device-internal write that runs over a line (R190). -/
def State.internalOn (s : State) (line : Nat) : Option InternalKind :=
  match s.internals with
  | i :: _ =>
    if i.first ≤ line && decide (line < i.first + i.count)
        && (i.kind != .rekey || (match s.prot.rekeys with
          | r :: _ => r.range != 0 || s.rangeOf line == 0
          | [] => true)) then some i.kind
    else none
  | [] => none

/-- Sanitize or Secure Erase runs (Tables 1-4 and 1-5). -/
def State.erasing (s : State) (line : Nat) : Bool :=
  match s.internalOn line with
  | some .sanitize => true
  | some .secureErase => true
  | _ => false

/-- An integrity failure (R230): counted, and recorded with range, level and DPA. -/
def State.integFail (s : State) (line level : Nat) : State :=
  let n := s.rangeOf line
  let s := (s.bump Reg.RANGE_INTEG_FAIL_CNT 1 n).bump Reg.PROT_INTEG_FAIL_CNT
  s.event .fail (.integrity n level (line * 64) s.stroke) 0x4C

/-! ### Slice caches (R168 to R174) -/

def sliceKey (line slice : Nat) : Nat := 4 * line + slice

def State.sliceLine (s : State) (line slice : Nat) : Option SliceEntry := s.cache.lines.find (sliceKey line slice)

/-- A way's group is enabled and not cleaning (R172). -/
def State.wayOn (s : State) (slice way : Nat) : Bool :=
  s.cache.enabled.getD slice 0 / 2 ^ (way / 2) % 2 == 1 && s.cache.cleaning.getD slice 0 / 2 ^ (way / 2) % 2 == 0

/-- Lines that the slice directory tracks (R173). -/
def State.dirLines (s : State) : List Nat :=
  ((s.cache.lines.map (fun e => e.1 / 4)).eraseDups).filter (fun l => !s.cache.purges.contains l)

/-- Lines in slice caches count in `DIR_SLICE_STATUS` once each. -/
def State.sliceCount (s : State) : State := s.wr Reg.DIR_SLICE_STATUS_ENTRIES s.dirLines.length

def State.dropSlice (s : State) (line slice : Nat) : State :=
  ({ s with cache := { s.cache with lines := s.cache.lines.del (sliceKey line slice) } }).sliceCount

def State.putSlice (s : State) (line slice : Nat) (e : SliceEntry) : State :=
  ({ s with cache := { s.cache with lines := s.cache.lines.put (sliceKey line slice) e } }).sliceCount

/-- Drop every slice copy of a line but one slice's. -/
def State.dropOthers (s : State) (line slice : Nat) : State :=
  let l := s.cache.lines.keep (fun k _ => !(k / 4 == line && k % 4 != slice))
  ({ s with cache := { s.cache with lines := l } }).sliceCount

/-- Drop every slice copy of a line. -/
def State.dropAll (s : State) (line : Nat) : State :=
  let l := s.cache.lines.keep (fun k _ => k / 4 != line)
  ({ s with cache := { s.cache with lines := l } }).sliceCount

/-- Set of a line in a slice cache, and the key of its replacement bits. -/
def sliceSet (line : Nat) : Nat := line % 8192

def plruKey (slice line : Nat) : Nat := 8192 * slice + sliceSet line

/-- Turn the tree bits away from a way: node n has children 2n and 2n + 1 (R168). (DESIGN CHOICE, log entry 32). -/
def plruTouch (bits way : Nat) : Nat :=
  ([3, 2, 1, 0].foldl (fun (p : Nat × Nat) b =>
    let d := way / 2 ^ b % 2
    let cleared := p.1 - (p.1 / 2 ^ p.2 % 2) * 2 ^ p.2
    (cleared + (1 - d) * 2 ^ p.2, 2 * p.2 + d)) (bits, 1)).1

/-- Victim way: the tree bits' path, passing over halves without an enabled way. -/
def plruVictim (bits : Nat) (on : Nat → Bool) : Nat :=
  ([3, 2, 1, 0].foldl (fun (p : Nat × Nat) b =>
    let d := bits / 2 ^ p.2 % 2
    let any (x : Nat) := (List.range (2 ^ b)).any (fun i => on ((2 * p.1 + x) * 2 ^ b + i))
    let d := if any d then d else 1 - d
    (2 * p.1 + d, 2 * p.2 + d)) (0, 1)).1

/-- Note a use of a way. -/
def State.touchWay (s : State) (slice line way : Nat) : State :=
  { s with cache := { s.cache with
      plru := s.cache.plru.set 0 (plruKey slice line) (plruTouch (s.cache.plru.get 0 (plruKey slice line)) way) } }

/-- Set of a line in the slice directory (R173). -/
def dirSet (line : Nat) : Nat := line % 65536

/-- Note a use of a line's entry in the slice directory. (DESIGN CHOICE, log entry 33). -/
def State.touchDir (s : State) (line : Nat) : State :=
  match s.cache.dirWay.find line with
  | none => s
  | some w => { s with cache := { s.cache with
      dirPlru := s.cache.dirPlru.set 0 (dirSet line) (plruTouch (s.cache.dirPlru.get 0 (dirSet line)) w) } }

/-- The slice that forwards a line: an F or E holder other than `slice` (Table 8-2). -/
def State.forwarder (s : State) (line slice : Nat) : Option (Nat × SliceEntry) :=
  ([0, 1, 2, 3].filter (· != slice)).findSome? (fun k => match s.sliceLine line k with
    | some e => if e.st = .s then none else some (k, e)
    | none => none)

/-! ### Responses to reads -/

/-- State a request asks for (R182). -/
def asks (op : MemOp) (m : MetaValue) (snp : SnpType) : MetaValue :=
  match op with
  | .memRd => if m = .a || snp = .snpInv then .a else if m = .s || snp = .snpData then .s else .i
  | .memInv | .memInvNt => if m = .a then .a else .i
  | _ => .i

/-- State a response grants: No-Op in HDM-H (R180); I while a device-internal write runs over the line (R190). -/
def State.grants (s : State) (r : Req) : MetaValue :=
  if !r.db then .none else if (s.internalOn r.line).isSome then .i else asks r.op r.mval r.snp

/-- Bound in CCLK that applies to a read (R36 to R38). -/
def State.boundOf (s : State) (r : Req) : Nat :=
  (if s.integLine r.line then 10240 else 5120) + (if r.late then 3072 else 0) + (if r.stepped then 1024 else 0)

/-- The response of the result at hand leaves `t` CCLK into the stroke. -/
def State.leaveAt (s : State) (t : Nat) : State := { s with sched := { s.sched with now := t } }

/-- The layout and the pool let a bound apply (Table 2-7). -/
def State.boundsHold (s : State) : Bool :=
  s.rd Reg.SCHED_STATUS_LAYOUT == 0 && !s.bit Reg.SCHED_STATUS_POOL_EXCL && s.ready

/-- Latency of an answered media read: `SCHED_MAX_LAT` and `SCHED_BOUND_MISS` (R38). (DESIGN CHOICE, log entry 19). -/
def State.noteLatency (s : State) (r : Req) : State :=
  let out := s.timeAt s.sched.now
  let s := s.wr Reg.SCHED_MAX_LAT_CCLK (max (s.rd Reg.SCHED_MAX_LAT_CCLK) (min (out - r.entered) 0xFFFFFF))
  if !r.unbounded && s.boundsHold && decide (s.boundOf r < out - r.born) then s.bump Reg.SCHED_BOUND_MISS else s

/-- Requests of a session for a line that a BIConflictAck waits for (R189). -/
def State.beforeAck (s : State) (sess line rid : Nat) : Bool :=
  s.reqs.any (fun e => e.1 != rid && e.2.sess == sess && e.2.line == line && e.2.stage != .resolve && e.2.stage != .ordered)

/-- Answer the BIConflicts of a session and line that nothing holds back any more (R189). -/
def State.flushConflicts (s : State) (sess line : Nat) : State :=
  (s.reqs.filter (fun e => e.2.sess == sess && e.2.line == line && e.2.stage == .ordered)).foldl (fun s e =>
    if s.beforeAck sess line e.1 then s
    else
      (s.respond e.2.port e.2.link e.2.discard
        (.ndr e.2.port e.2.link e.2.ld e.2.tag .biConflictAck (s.devLoad sess))).release e.1) s

/-- Forget the media read of a request (R30: its slot stays empty). -/
def State.dropJob (s : State) (rid : Nat) : State :=
  { s with sched := { s.sched with jobs := s.sched.jobs.keep (fun _ j => j.why != .host rid) } }

/-- End a request: its final response has left, the tracker is free, and what waited for it goes on. -/
def State.finish (s : State) (rid : Nat) : State :=
  match s.reqs.find rid with
  | none => s
  | some r => ((s.dropJob rid).release rid).flushConflicts r.sess r.line

/-- Count a read or write served (Table 3-3, READS and WRITES). -/
def State.countRead (s : State) (n : Nat) : State :=
  s.setSess n { s.sess n with reads := (s.sess n).reads + 1 }

def State.countWrite (s : State) (n : Nat) : State :=
  s.setSess n { s.sess n with writes := (s.sess n).writes + 1 }

/-- Send the S2M DRS of a read. (DEDUCED, log entry 27). -/
def State.sendData (s : State) (r : Req) (data : LineData) (poison : Bool) : State :=
  (s.respond r.port r.link r.discard
    (.drs r.port r.link r.ld r.tag (if poison then 0 else data) poison (s.grants r) (s.devLoad r.sess))).countRead r.sess

/-- Send the S2M NDR of a request without data. -/
def State.sendNdr (s : State) (r : Req) : State :=
  s.respond r.port r.link r.discard
    (.ndr r.port r.link r.ld r.tag (if r.db then ndrOf (s.grants r) else .cmp) (s.devLoad r.sess))

/-- A read returns with data that its slice did not hold: answered, and a fill goes to its slice (R169). -/
def State.answer (s : State) (rid : Nat) (data : LineData) (poison fill : Bool) : State :=
  match s.reqs.find rid with
  | none => s
  | some r =>
    let s := s.sendData r data poison
    let s := if fill then { s with cache := { s.cache with fills := s.cache.fills ++
        [{ slice := r.port, line := r.line, data := data, bad := poison, overtaken := r.overtaken, st := .e }] } } else s
    s.finish rid

/-- What the merge entry answers (Table 7-3, R147, R151). -/
def Entry.answers (e : Entry) : LineData × Bool := (e.data, e.poison || e.fillBad)

/-- Note a read of an entry, for the release order of R155. -/
def State.touchEntry (s : State) (line : Nat) : State :=
  match s.entry line with
  | some e => s.putEntry line { e with lastRead := s.stroke }
  | none => s

def State.setReq (s : State) (rid : Nat) (r : Req) : State := { s with reqs := s.reqs.put rid r }

/-! ### Snoops (R183 to R187) -/

/-- Link on which a session's BISnps go: link 0 unless only link 1 of the port is up.
(DESIGN CHOICE, log entry 26). -/
def State.snoopLink (s : State) (sess : Nat) : Nat :=
  let p := (s.sess sess).key.port
  if !s.linkUp p 0 && s.linkUp p 1 then 1 else 0

/-- BISnp opcode: 0 Inv, 1 Data, 2 Cur. -/
def biOp (n : Nat) : BiOp := if n = 0 then .inv else if n = 1 then .data else .cur

/-- Send the BISnps of a snoop for which credits are held; the others wait (R184). No new snoop is sent in capo
(Table 8-7). -/
def State.sendSnoops (s : State) (x : Snoop) : State × Snoop :=
  x.unsent.foldl (fun (p : State × Snoop) n =>
    let (s, x) := p
    let port := (s.sess n).key.port
    let link := s.snoopLink n
    let i := 2 * port + link
    if s.cache.biCredits.getD i 0 = 0 || s.isSeq .capo then (s, x)
    else
      let s := ({ s with cache := { s.cache with biCredits := s.cache.biCredits.set i (s.cache.biCredits.getD i 0 - 1) } }).bump
        Reg.DIR_BISNP_CNT
      (s.emit (.biSnp port link n x.line (biOp x.op)), { x with unsent := x.unsent.filter (· != n) })) (s, x)

/-- Sessions that a broadcast goes to (R184). -/
def State.broadcastTo (s : State) (line coh : Nat) : List Nat :=
  (s.sessions.filter (fun e => (e.2.state == .active || e.2.state == .fencing || e.2.state == .pending)
    && e.2.coh == coh && e.2.binds.any (fun b => b.valid && b.db
      && decide (b.devBase * unit256M ≤ line * 64) && decide (line * 64 < (b.devBase + b.size) * unit256M)))).map (·.1)

/-- Sessions a snoop of an entry goes to: its pointers, or the sessions of the domain; never `but`. -/
def State.snoopTargets (s : State) (line : Nat) (h : HostEntry) (but : Option Nat) : List Nat :=
  let l := if h.overflow then s.broadcastTo line (s.sess (h.ptrs.headD 0)).coh else h.ptrs
  match but with
  | some y => l.filter (· != y)
  | none => l

/-- Registers of the directories. -/
def State.dirCounts (s : State) : State :=
  ((s.wr Reg.DIR_HOST_STATUS_ENTRIES s.cache.host.length).wr Reg.DIR_HOST_OVF_ENTRIES
    (s.cache.host.filter (fun e => e.2.overflow)).length).wr Reg.DIR_EVBUF_USED s.cache.evicting.length

def State.setHost (s : State) (line : Nat) (h : HostEntry) : State :=
  ({ s with cache := { s.cache with
      host := s.cache.host.put line { h with used := s.cache.clock + 1 }, clock := s.cache.clock + 1 } }).dirCounts

def State.dropHost (s : State) (line : Nat) : State :=
  ({ s with cache := { s.cache with host := s.cache.host.del line } }).dirCounts

/-- An entry without pointers and without OVERFLOW is Host-I. -/
def State.putHost (s : State) (line : Nat) (h : HostEntry) : State :=
  if h.ptrs = [] && !h.overflow then s.dropHost line else s.setHost line h

/-- Start the snoops of a line. -/
def State.startSnoop (s : State) (line op : Nat) (why : SnoopWhy) (targets : List Nat) (bcast : Bool) : State :=
  let s := if bcast then s.bump Reg.DIR_BCAST_CNT else s
  let (s, x) := s.sendSnoops { line := line, op := op, why := why, waiting := targets, unsent := targets }
  let s := match s.cache.host.find line with
    | some h => s.setHost line { h with busy := true }
    | none => s
  { s with cache := { s.cache with snoops := s.cache.snoops ++ [x] } }

/-- A snoop of the line is outstanding. -/
def State.snooping (s : State) (line : Nat) : Bool := s.cache.snoops.any (fun x => x.line == line)

/-! ### Host directory (R181 to R186) -/

/-- Entries of a line's set. -/
def State.hostSet (s : State) (line : Nat) : List (Nat × HostEntry) :=
  s.cache.host.filter (fun e => e.1 % 131072 == line % 131072)

/-- The better victim of two: Host-S with fewest pointers, else least recently used (R186). -/
def betterVictim (a b : Nat × HostEntry) : Bool :=
  if !a.2.owner && !b.2.owner then
    decide (a.2.ptrs.length < b.2.ptrs.length) || (a.2.ptrs.length == b.2.ptrs.length && decide (a.2.used ≤ b.2.used))
  else if !a.2.owner then true else if !b.2.owner then false else decide (a.2.used ≤ b.2.used)

def hostVictim : List (Nat × HostEntry) → Option (Nat × HostEntry)
  | [] => none
  | e :: r => match hostVictim r with
    | none => some e
    | some f => if betterVictim e f then some e else some f

/-- Make room for an entry of a line: `none` while the request has to wait (R186). -/
def State.hostRoom (s : State) (line : Nat) : Option State :=
  if (s.hostSet line).length < 16 then some s
  else match hostVictim ((s.hostSet line).filter (fun e => !e.2.busy)) with
    | none => none
    | some v =>
      if 1024 ≤ s.cache.evicting.length then none
      else
        let targets := s.snoopTargets v.1 v.2 none
        let s := (s.dropHost v.1).bump Reg.DIR_EVICT_CNT
        let s := ({ s with cache := { s.cache with evicting := s.cache.evicting ++ [v.1] } }).dirCounts
        some (s.startSnoop v.1 0 .evict targets v.2.overflow)

/-- What resolution of a request answers (Table 8-5). -/
inductive Resolved where
  | go
  | wait
  /-- waits for the eviction buffer or a BUSY set (R186) -/
  | full
  deriving DecidableEq, Repr

/-- Host-directory resolution of a read-lane request of an HDM-DB region (Table 8-5). -/
def State.resolve (s : State) (rid : Nat) (r : Req) : State × Resolved :=
  let want := asks r.op r.mval r.snp
  if (s.internalOn r.line).isSome then
    if s.snooping r.line then (s, .wait) else (s, .go)
  else if s.snooping r.line || s.cache.evicting.contains r.line then (s, .wait)
  else if r.op == .memClnEvct then (s, .go)
  else match s.cache.host.find r.line with
    | none =>
      if want = .i then (s, .go)
      else match s.hostRoom r.line with
        | none => (s, .full)
        | some s => (s.setHost r.line { owner := want == .a, ptrs := [r.sess] }, .go)
    | some h =>
      if h.owner then
        if h.ptrs = [r.sess] then (s.setHost r.line h, .go)
        else (s.startSnoop r.line (if want = .i then 2 else if want = .s then 1 else 0) (.read rid r.sess want true) h.ptrs false, .wait)
      else if want = .i then (s, .go)
      else if want = .s then
        if h.ptrs.contains r.sess then (s.setHost r.line h, .go)
        else if h.ptrs.length < 3 && !h.overflow then (s.setHost r.line { h with ptrs := h.ptrs ++ [r.sess] }, .go)
        else (s.setHost r.line { h with overflow := true }, .go)
      else
        let targets := s.snoopTargets r.line h (some r.sess)
        if targets = [] then (s.setHost r.line { owner := true, ptrs := [r.sess] }, .go)
        else (s.startSnoop r.line 0 (.read rid r.sess want false) targets h.overflow, .wait)

/-- Next state of the entry when a read's snoops are answered (Table 8-5). -/
def State.readResolved (s : State) (x : Snoop) (sess : Nat) (want : MetaValue) : State :=
  match s.cache.host.find x.line with
  | none => s
  | some h =>
    match want with
    | .s =>
      let xs := x.kept.filter (fun n => h.ptrs.contains n)
      s.setHost x.line { owner := false, ptrs := (xs ++ [sess]).take 3, busy := false }
    | .a => s.setHost x.line { owner := true, ptrs := [sess], busy := false }
    | _ => s.setHost x.line { h with busy := false }

/-! ### Reads (R14) -/

/-- A line has a write in progress at the slice directory (R178). -/
def State.lineBusy (s : State) (line : Nat) : Bool := (s.cache.busy.find line).isSome

/-- The read goes on to the merge buffer and the sources behind it. -/
def State.toLookup (s : State) (rid : Nat) (r : Req) : State := s.setReq rid { r with stage := .lookup }

/-- Sources 2 and 3 of Table 1-3, and the points of Table 1-4 before them. `fBad`: the class F check of the own slice's
line fails (R171). -/
def State.sources (s : State) (rid : Nat) (r : Req) (fBad : Bool) : State :=
  if s.erasing r.line then s.answer rid 0 false false
  else if s.unverified r.line then (s.integFail r.line 0).answer rid 0 true false
  else
    let hit := match s.sliceLine r.line r.port with
      | some e => if s.wayOn r.port e.way then some e else none
      | none => none
    match hit, fBad with
    | some e, false =>
      let s := (s.touchWay r.port r.line e.way).bump Reg.CACHE_HIT_CNT 1 r.port
      s.answer rid e.data false false
    | _, _ =>
      let s := if hit.isSome then
          (s.dropSlice r.line r.port).correctedVol (regionSlice r.port) (r.line * 64) else s
      let s := s.bump Reg.CACHE_MISS_CNT 1 r.port
      if s.lineBusy r.line then s.setReq rid { r with stage := .waitMerge }
      else match s.forwarder r.line r.port with
        | some (k, e) =>
          if s.wayOn k e.way then
            let s := ((s.putSlice r.line k { e with st := .f }).touchDir r.line).bump Reg.CACHE_FWD_CNT 1 k
            s.answer rid e.data false true
          else (s.dropSlice r.line k).toLookup rid r
        | none => s.toLookup rid r

/-- MemClnEvct of a session that the entry names: its pointer goes (Table 8-5). -/
def State.dropPointer (s : State) (line sess : Nat) : State :=
  match s.cache.host.find line with
  | none => s
  | some h => if h.ptrs.contains sess then s.putHost line { h with ptrs := h.ptrs.filter (· != sess) } else s

/-- A request whose resolution has ended goes on: data, or an NDR for MemInv and MemInvNT (R182). -/
def State.proceed (s : State) (rid : Nat) (r : Req) (fBad : Bool) : State :=
  match r.op with
  | .memInv | .memInvNt => (s.sendNdr r).finish rid
  | .memClnEvct => ((s.dropPointer r.line r.sess).sendNdr r).finish rid
  | _ => s.sources rid r fBad

/-- Resolve a read-lane request, and go on or wait. -/
def State.tryResolve (s : State) (rid : Nat) (r : Req) (fBad : Bool) : State :=
  let (s, a) := s.resolve rid r
  match a with
  | .go => s.proceed rid r fBad
  | .wait => s.setReq rid { r with stage := .resolve }
  | .full =>
    let s := if r.counted then s else s.bump Reg.DIR_RESOLVE_WAIT_CNT
    s.setReq rid { r with stage := .resolve, counted := true }

/-- Requests that wait for resolution go on where they can, in the order of arrival (R183, R186): the bound of such a
read counts from this stroke. -/
def State.wakeAll (s : State) : State :=
  (s.reqs.filter (fun e => e.2.stage == .resolve)).foldl (fun s e =>
    match s.reqs.find e.1 with
    | some r => if r.stage = .resolve then s.tryResolve e.1 { r with born := s.timeAt 0 } false else s
    | none => s) s

/-- A full-line write-back answers the request that its owner was snooped for, from its landing cell (R187, Table 8-6). -/
def State.forwardBack (s : State) (sess line : Nat) (data : LineData) (bad : Bool) : State :=
  match s.cache.snoops.find? (fun x => x.line == line && x.waiting.contains sess) with
  | none => s
  | some x => match x.why with
    | .read rid _ _ true =>
      match s.reqs.find rid with
      | some r => if r.op == .memInv || r.op == .memInvNt then s else (s.bump Reg.DIR_FWD_CNT).answer rid data bad false
      | none => s
    | _ => s

/-- The snoops of a line are all answered: next state, and the requests that waited (R183). -/
def State.snoopDone (s : State) (x : Snoop) : State :=
  let s := { s with cache := { s.cache with snoops := s.cache.snoops.filter (fun y => y.line != x.line) } }
  let s := match x.why with
    | .read rid sess want _ =>
      let s := s.readResolved x sess want
      match s.reqs.find rid with
      | some r => s.proceed rid { r with born := s.timeAt 0 } false
      | none => s
    | .write y =>
      match s.cache.host.find x.line with
      | some h => s.putHost x.line { h with ptrs := h.ptrs.filter (· == y), overflow := false, busy := false,
                                             owner := h.owner && h.ptrs.contains y }
      | none => s
    | .evict =>
      ({ s with cache := { s.cache with evicting := s.cache.evicting.filter (· != x.line) } }).dirCounts
    | .internal => s.dropHost x.line
    | .fence n =>
      let s := match s.cache.host.find x.line with
        | some h => s.putHost x.line { h with ptrs := h.ptrs.filter (· != n), busy := false,
                                               owner := h.owner && !h.ptrs.contains n }
        | none => s
      s.setSess n { s.sess n with fenceSnoops := (s.sess n).fenceSnoops.filter (· != x.line) }
    | .release n =>
      match s.cache.host.find x.line with
      | some h => s.putHost x.line { h with ptrs := h.ptrs.filter (· != n), busy := false,
                                             owner := h.owner && !h.ptrs.contains n }
      | none => s
  s.wakeAll

/-- A session has answered a snoop of a line, or counts as having answered (R183, R185). -/
def State.snoopAnswer (s : State) (sess line : Nat) (kept : Bool) : State :=
  match s.cache.snoops.find? (fun x => x.line == line && x.waiting.contains sess) with
  | none => s
  | some x =>
    let x' := { x with waiting := x.waiting.filter (· != sess), unsent := x.unsent.filter (· != sess),
                       kept := if kept then x.kept ++ [sess] else x.kept }
    let s := { s with cache := { s.cache with
      snoops := s.cache.snoops.map (fun y => if y.line == line && y.waiting.contains sess then x' else y) } }
    if x'.waiting = [] then s.snoopDone x' else s

/-- Answer a request from a full merge entry (source 4). -/
def State.fromEntry (s : State) (rid line : Nat) (e : Entry) : State :=
  (s.touchEntry line).answer rid e.answers.1 e.answers.2 true

/-- A read whose merge-buffer lookup has missed or hit a partial entry takes its result: of the medium, merged under
MASK if the entry is partial (R150), or of the read cache. A range whose key slot waits for the keep holds media
results (R219). -/
def State.takeResult (s : State) (rid : Nat) : State :=
  match s.reqs.find rid with
  | none => s
  | some r =>
    match r.result with
    | none => s
    | some (d, bad, rc) =>
      if !r.looked || r.stage != .lookup then s
      else if !rc && s.prot.slotBad.contains (s.rangeOf r.line) then s
      else
        let s := if rc then s.bump Reg.CACHE_RC_HIT_CNT
          else if (s.readMp (lpnOf r.line)).isNone then s else s.noteLatency r
        s.answer rid d bad true

end Sys2Proof.Machine
end

