-- ==== Sys2Proof/Machine/SessionFamily.lean ====
section
/-! DEFINITION. Session commands (chapter Host Ports and Sessions, R53 to R62): SESSION_CREATE, SESSION_MODIFY,
SESSION_FENCE and SESSION_GET, and dynamic capacity (R51). -/

namespace Sys2Proof.Machine

/-- The parameters an entry holds, as entry words. -/
def Session.words (e : Session) : SessWords :=
  ⟨e.key.port, e.key.kind, e.key.id, e.qos, e.range, e.readAllow, e.writeAllow, e.limit, e.coh, e.tOpt, e.tMod, e.tSev,
   e.binds⟩

/-- Put entry words into force. -/
def Session.load (e : Session) (w : SessWords) : Session :=
  { e with key := wordsKey w, qos := w.qos, range := w.range, readAllow := w.readAllow, writeAllow := w.writeAllow,
           limit := w.inflightLimit, coh := w.cohDomain, tOpt := w.tOpt, tMod := w.tMod, tSev := w.tSev, binds := w.binds }

/-- The parameters that the sums of R35 and the checks of R54 count: those in force or waiting, with an accepted
MODIFY counted at once (R61). -/
def Session.counted (e : Session) : Option SessWords :=
  match e.state with
  | .active => some (match e.modify with
      | some m => { e.words with readAllow := m.readAllow, writeAllow := m.writeAllow }
      | none => e.words)
  | .pending => e.waiting
  | _ => none

/-- Sums of read and write allowances over Active and Pending sessions, but for one session (R35). -/
def sumAllow (l : Tab Session) (except : Nat) : Nat × Nat :=
  l.foldl (fun a e =>
    if e.1 = except then a
    else match e.2.counted with
      | some w => (a.1 + w.readAllow, a.2 + w.writeAllow)
      | none => a) (0, 0)

/-- Limits of R35. -/
def maxReadSum : Nat := 7168
def maxWriteSum : Nat := 4000

/-- Recompute `SCHED_READ_SUM`, `SCHED_WRITE_SUM` and `SESS_COUNT`. -/
def State.recount (s : State) : State :=
  let (r, w) := sumAllow s.sessions sessionCount
  let act := (s.sessions.filter (fun e => e.2.state == .active)).length
  let fen := (s.sessions.filter (fun e => e.2.state == .fencing || e.2.state == .pending)).length
  (((s.wr Reg.SCHED_READ_SUM_SUM r).wr Reg.SCHED_WRITE_SUM_SUM w).wr Reg.SESS_COUNT_ACTIVE act).wr
    Reg.SESS_COUNT_FENCING fen

/-- Thresholds of R58. -/
def thresholdsOk (o m v : Nat) : Bool := decide (1 ≤ o) && decide (o < m) && decide (m < v) && decide (v < 1024)

/-- Allowance and class ranges of Table 3-3. -/
def allowOk (r w lim q : Nat) : Bool :=
  decide (1 ≤ r) && decide (r ≤ 7168) && decide (1 ≤ w) && decide (w ≤ 4000) && decide (1 ≤ lim) && decide (lim ≤ 4096)
    && decide (q ≤ 3)

/-- Kind and ID fit the port's mode in force, and no change of mode is pending (R49, reason 0x02). -/
def State.keyOk (s : State) (w : SessWords) : Bool :=
  decide (w.port < 4) && decide (w.kind = s.portKind w.port)
    && decide (s.rd Reg.PORT_CFG_MODE w.port = s.portMode w.port)
    && (match s.portMode w.port with
      | 0 => decide (w.id = 0)
      | 1 => decide (w.id < 16)
      | _ => decide (w.id < 4096))

/-- Field ranges of SESSION CREATE (reason 0x02). -/
def State.fieldsOk (s : State) (num : Nat) (w : SessWords) : Bool :=
  decide (num < sessionCount) && s.keyOk w && allowOk w.readAllow w.writeAllow w.inflightLimit w.qos
    && thresholdsOk w.tOpt w.tMod w.tSev && decide (w.range ≤ 16) && decide (w.cohDomain < 256)
    && decide (w.binds.length ≤ 4) && w.binds.all (fun b => !b.valid || decide (1 ≤ b.size))

/-- Two spans overlap. -/
def overlaps (a la b lb : Nat) : Bool := decide (a < b + lb) && decide (b < a + la)

/-- No two of the valid bindings overlap in LD DPA. -/
def ownOverlap : List Binding → Bool
  | [] => false
  | b :: r => r.any (fun c => b.valid && c.valid && overlaps b.ldBase b.size c.ldBase c.size) || ownOverlap r

def validBinds (w : SessWords) : List Binding := w.binds.filter (·.valid)

/-- A range definition by number. -/
def State.rangeDef (s : State) (n : Nat) : RangeDef := s.prot.ranges.get {} n

/-- A span lies inside a range; for range 0, outside ranges 1 to 16 (R54). -/
def State.inRange (s : State) (n base size : Nat) : Bool :=
  if n = 0 then
    s.prot.ranges.all (fun e => e.1 == 0 || !e.2.valid || !overlaps base size e.2.base e.2.size)
  else
    let d := s.rangeDef n
    d.valid && decide (d.base ≤ base) && decide (base + size ≤ d.base + d.size)

/-- Words that a session not Free holds against others: those in force, and those waiting. -/
def Session.claims (e : Session) : List SessWords :=
  if e.state = .free then [] else
  match e.state, e.waiting with
  | .pending, some w => [e.words, w]
  | _, _ => [e.words]

/-- HDM-DB conflict of two sessions' bindings (reason 0x06). -/
def cohConflict (a b : SessWords) : Bool :=
  (validBinds a).any (fun x => (validBinds b).any (fun y =>
    overlaps x.devBase x.size y.devBase y.size && (x.db || y.db) && !(x.db && y.db && a.cohDomain == b.cohDomain)))

/-- The words have an HDM-DB binding. -/
def hasDb (w : SessWords) : Bool := (validBinds w).any (·.db)

/-- Entries of other session numbers. -/
def State.others (s : State) (num : Nat) : List Session := (s.sessions.filter (fun e => e.1 != num)).map (·.2)

/-- A key is held by another session number (R49): both keys of a Pending entry count. -/
def State.keyHeld (s : State) (num : Nat) (k : SessKey) : Bool :=
  (s.others num).any (fun e => e.claims.any (fun w => decide (wordsKey w = k)))

/-- The checks of SESSION CREATE, as the reason of the first row of Table 3-5 that refuses it; 0: none does.
(DEDUCED, log entry 23). -/
def State.createReason (s : State) (p : CmdPath) (num : Nat) (w : SessWords) : Nat :=
  let e := s.sess num
  let sld := !s.onR59 p && (w.port != p.port || (e.state != .free && e.key.port != p.port))
  let same := match e.state with
    | .active => decide (e.words = w)
    | .pending => decide (e.waiting = some w)
    | _ => false
  if sld then 0x02
  else if same then 0
  else if !s.fieldsOk num w then 0x02
  else if e.state = .active || e.state = .pending then 0x0A
  else if s.keyHeld num (wordsKey w) then 0x09
  else
    let (r, q) := sumAllow s.sessions num
    if maxReadSum < r + w.readAllow || maxWriteSum < q + w.writeAllow then 0x01
    else if validBinds w = [] || ownOverlap w.binds then 0x03
    else if (validBinds w).any (fun b => decide (s.rd Reg.TOP_CAPACITY_UNITS < b.devBase + b.size)) then 0x04
    else if (validBinds w).any (fun b => !s.inRange w.range b.devBase b.size) then 0x05
    else if (s.others num).any (fun o => o.claims.any (fun c => cohConflict w c)) then 0x06
    else if hasDb w && decide (64 ≤ ((s.others num).filter (fun o => o.claims.any (fun c =>
        hasDb c && c.cohDomain == w.cohDomain))).length) then 0x07
    else if w.range ≠ 0 && !s.prot.bindings.contains (wordsKey w, w.range) then 0x08
    else 0

/-- STATE code of Table 3-3. -/
def SessState.code : SessState → Nat
  | .free => 0 | .pending => 1 | .active => 2 | .fencing => 3

/-- Output of the session commands (Table 3-4). -/
def State.sessReply (s : State) (p : CmdPath) (num reason : Nat) : State :=
  let e := s.sess num
  s.reply p .success 0 ([reason, e.state.code] ++ leBytes 2 e.gen)

/-- A refused session command (R59): counted, with its reason. -/
def State.sessRefuse (s : State) (p : CmdPath) (num reason : Nat) : State :=
  let e := s.sess num
  let s := (s.wr Reg.SESS_CMD_REJECT_LAST_REASON reason).bump Reg.SESS_CMD_REJECT_COUNT
  s.reply p .invalidInput 0 ([reason, e.state.code] ++ leBytes 2 e.gen)

/-- SESSION CREATE (R54, R60): Free becomes Active, Fencing becomes Pending. -/
def State.sessCreate (s : State) (p : CmdPath) (num : Nat) (w : SessWords) : State :=
  match s.createReason p num w with
  | 0 =>
    let e := s.sess num
    let s := match e.state with
      | .free => (s.setSess num
          { (e.load w) with state := .active, gen := (e.gen + 1) % 65536, allowStall := 0, reads := 0, writes := 0 }).recount
      | .fencing => (s.setSess num { e with state := .pending, waiting := some w, gen := (e.gen + 1) % 65536 }).recount
      | _ => s
    s.sessReply p num 0
  | r => s.sessRefuse p num r

/-- SESSION_CREATE (R60), on the paths of R59 and the primary mailbox of an SLD port. -/
def execSessionCreate (p : CmdPath) (num : Nat) (w : SessWords) (s : State) : Host.Outcome State Fault Refusal :=
  done s (s.command p (.sessionCreate p num w) .admin false (fun s => s.sessCreate p num w))

/-- The checks of SESSION MODIFY (R60, R61). -/
def State.modifyReason (s : State) (p : CmdPath) (num : Nat) (m : SessModify) : Nat :=
  let e := s.sess num
  if sessionCount ≤ num then 0x02
  else if !s.onR59 p && e.state != .free && e.key.port != p.port then 0x02
  else if e.state = .free || e.state = .fencing then 0x0B
  else if !(allowOk m.readAllow m.writeAllow m.inflightLimit m.qos && thresholdsOk m.tOpt m.tMod m.tSev) then 0x02
  else
    let (r, q) := sumAllow s.sessions num
    if maxReadSum < r + m.readAllow || maxWriteSum < q + m.writeAllow then 0x01 else 0

/-- Words changed by a MODIFY. -/
def modifyWords (w : SessWords) (m : SessModify) : SessWords :=
  { w with readAllow := m.readAllow, writeAllow := m.writeAllow, inflightLimit := m.inflightLimit, qos := m.qos,
           tOpt := m.tOpt, tMod := m.tMod, tSev := m.tSev }

/-- SESSION MODIFY (R61): applied at the next stroke boundary, to the waiting parameters at once. -/
def State.sessModify (s : State) (p : CmdPath) (num : Nat) (m : SessModify) : State :=
  match s.modifyReason p num m with
  | 0 =>
    let e := s.sess num
    let e' := match e.state with
      | .pending => { e with waiting := e.waiting.map (fun w => modifyWords w m) }
      | _ => { e with modify := some m }
    ((s.setSess num e').recount).sessReply p num 0
  | r => s.sessRefuse p num r

/-- SESSION_MODIFY (R61). -/
def execSessionModify (p : CmdPath) (num : Nat) (w : SessModify) (s : State) : Host.Outcome State Fault Refusal :=
  done s (s.command p (.sessionModify p num w) .admin false (fun s => s.sessModify p num w))

/-- SESSION FENCE (R60, R62): its step 1 comes at the next stroke boundary. -/
def State.sessFence (s : State) (p : CmdPath) (num : Nat) : State :=
  let e := s.sess num
  if sessionCount ≤ num || (!s.onR59 p && e.state != .free && e.key.port != p.port) then s.sessRefuse p num 0x02
  else
    let s := match e.state with
      | .active => (s.setSess num { e with state := .fencing, fenceDue := true, modify := none }).recount
      | .pending => (s.setSess num { e with state := .fencing, waiting := none }).recount
      | _ => s
    s.sessReply p num 0

/-- SESSION_FENCE (R62). -/
def execSessionFence (p : CmdPath) (num : Nat) (s : State) : Host.Outcome State Fault Refusal :=
  done s (s.command p (.sessionFence p num) .admin false (fun s => s.sessFence p num))

/-- Words of a session entry (Table 3-3), low word first. -/
def bindWords (b : Binding) : List Nat :=
  [ b.devBase + (if b.valid then 0x8000 else 0) + b.size * 0x10000 + (if b.db then 0x80000000 else 0), b.ldBase ]

def emptyBinding : Binding := ⟨false, false, 0, 0, 0⟩

/-- The 64 B entry as it reads (Table 3-3). A Pending entry shows the parameters in force until its drain ends. -/
def Session.view (e : Session) : List Nat :=
  [ e.state.code + 8 * e.key.port + 32 * e.key.kind + 64 * e.key.id + 2 ^ 18 * e.qos + 2 ^ 20 * e.range,
    e.readAllow + 2 ^ 16 * e.writeAllow,
    e.limit + 2 ^ 16 * e.coh,
    e.tOpt + 2 ^ 10 * e.tMod + 2 ^ 20 * e.tSev ]
  ++ bindWords (e.binds.getD 0 emptyBinding) ++ bindWords (e.binds.getD 1 emptyBinding)
  ++ bindWords (e.binds.getD 2 emptyBinding) ++ bindWords (e.binds.getD 3 emptyBinding)
  ++ [ e.inflight + 2 ^ 16 * e.devLoad + (if e.held then 2 ^ 18 else 0),
       e.reads % 2 ^ 32, e.writes % 2 ^ 32, e.allowStall + 2 ^ 16 * e.gen ]

/-- SESSION GET (Table 3-4). -/
def State.sessGet (s : State) (p : CmdPath) (num : Nat) : State :=
  let e := s.sess num
  if sessionCount ≤ num || (!s.onR59 p && e.state != .free && e.key.port != p.port) then s.sessRefuse p num 0x02
  else s.reply p .success 0 ([0, 0, 0, 0] ++ e.view.flatMap (leBytes 4))

/-- SESSION_GET (R59). -/
def execSessionGet (p : CmdPath) (num : Nat) (s : State) : Host.Outcome State Fault Refusal :=
  done s (s.command p (.sessionGet p num) .admin false (fun s => s.sessGet p num))

end Sys2Proof.Machine
end

