-- ==== Sys2Proof/Machine/PortFamily.lean ====
section
/-! DEFINITION. Messages and events of the host ports (chapters Host Ports and Sessions, Caches and Coherence): MEM_RD,
MEM_RD_DATA, MEM_INV, MEM_INV_NT, MEM_CLN_EVCT, MEM_SPEC_RD, MEM_WR, MEM_WR_PTL, BI_CONFLICT, BI_RSP, SNOOP_TIMEOUT,
BISNP_CREDIT_RETURN, IDE_INTEGRITY_FAILURE, LINK_DOWN, LINK_UP, PERST_N_ASSERT, PERST_N_DEASSERT, PORT_CFG_WRITE,
PORT_CNT_CLR, FENCE_DRAIN_END and FENCE_BI_TIMEOUT. -/

namespace Sys2Proof.Machine

/-- A port and link of the device that can receive: the link is up, its stream is not Insecure and its function is
not in D3hot (R47, R48, Table 17-1). -/
def State.hears (s : State) (p l : Nat) : Bool :=
  decide (p < 4) && decide (l < 2) && s.linkUp p l && !s.insecure p l && !s.d3.contains p

/-- Descriptor of a message that lookup has placed (Table 4-1). -/
def mkDesc (s : State) (m : M2S) (op : MemOp) (f : Found) (be : Mask) (cell : Nat) (poison : Bool) : Desc :=
  { sess := f.sess, op := op, port := m.port, link := m.link, ld := m.ld, tag := m.tag, arrival := s.stroke % 2 ^ 30,
    line := f.line, snp := m.snp, mval := m.mval, db := f.db, poison := poison, be := be, cell := cell, bad := 0,
    fenced := false, entered := s.timeAt m.t }

/-- A message that fails lookup is answered at once, and its credit returned (R52, R74). -/
def State.failLookup (s : State) (m : M2S) (op : MemOp) : State :=
  let s := s.orphan m
  let s := s.respond m.port m.link false (orphanAnswer op m.port m.link m.ld m.tag 0)
  s.returnCredit m.port m.link (op.lane == .write)

/-- The bandwidth count of RwD lines (R358). -/
def State.countRwd (s : State) (k : Nat) : State :=
  if s.bit Reg.TELEM_STATUS_FROZEN then s
  else { s with telem := { s.telem with bwWrite := s.telem.bwWrite.set 0 k (s.telem.bwWrite.get 0 k + 1) } }

/-- Receive a message without data: lookup, then the queue (R45, R50, R65). -/
def State.receive (s : State) (m : M2S) (op : MemOp) : State :=
  if !s.hears m.port m.link then s
  else
    let s := s.tele m.port 0x01 m.link
    match s.lookup m with
    | none => s.failLookup m op
    | some f => s.enqueue f.sess (mkDesc s m op f 0 0 false)

/-! ### Writes in the order of their line (R146, R177) -/

/-- Read of a landing cell (Table 9-3): its data, and whether an error was detected in it. -/
def State.readCell (s : State) (cell : Nat) (hbm : HbmErr) : State × LineData × Bool :=
  match s.merge.cells.find cell with
  | none => (s, 0, false)
  | some c =>
    match classM hbm with
    | .clean left => (s, c.data ^^^ left, c.bad)
    | .mended left => (s.correctedVol regionCell cell, c.data ^^^ left, c.bad)
    | .detected => (s.detected regionCell cell, c.data, true)

def State.freeCell (s : State) (cell : Nat) : State :=
  { s with merge := { s.merge with cells := s.merge.cells.del cell } }

/-- Fills and reads of a line that were placed before a write now ordered must not install (R169, R179). -/
def State.overtake (s : State) (line : Nat) : State :=
  { s with
    reqs := s.reqs.mapVals (fun _ r => if r.line == line && r.stage == .lookup && r.looked then { r with overtaken := true } else r)
    cache := { s.cache with fills := s.cache.fills.map (fun x => if x.line == line then { x with overtaken := true } else x) } }

/-- The write takes its place at the slice directory (R174, R177): other copies are invalidated, the own copy is updated,
BUSY and WT_PEND are set. Answers the write as it goes through: the whole line when the slice holds it (R146). A poisoned
write leaves no copy in the slice. -/
def State.orderWrite (s : State) (slice : Nat) (w : WriteIn) : State × WriteIn :=
  let s := ((s.dropOthers w.line slice).touchDir w.line).overtake w.line
  let b := s.cache.busy.find w.line |>.map (·.wtPend) |>.getD []
  let s := { s with cache := { s.cache with busy := s.cache.busy.put w.line ⟨b ++ [slice]⟩ } }
  match s.sliceLine w.line slice with
  | none => (s, w)
  | some e =>
    if w.poison || w.cellBad then (s.dropSlice w.line slice, w)
    else if s.wayOn slice e.way then
      let d := mergeBytes e.data w.data w.be
      ((s.putSlice w.line slice { e with data := d, st := .e }).touchWay slice w.line e.way,
       { w with data := d, be := fullMask })
    else (s.dropSlice w.line slice, w)

/-- The request of a write whose merge is in progress. -/
def writeReq (d : Desc) : Req :=
  { sess := d.sess, port := d.port, link := d.link, ld := d.ld, tag := d.tag, op := d.op, line := d.line, snp := d.snp,
    mval := d.mval, db := d.db, stage := .merging, discard := d.orphaned }

/-- A queued write passes: it takes a tracker, its place in the line's order, and its bytes enter the entry; Cmp comes
with the end of the merge (R148). -/
def State.passWrite (s : State) (d : Desc) (w : WriteIn) (set : Nat) (drop : Option Nat) : State :=
  let s := match drop with
    | some l => s.dropEntry l
    | none => s
  let (s, w) := s.orderWrite d.port w
  let s := (s.freeCell d.cell).mergeWrite w set
  (s.takeTracker (writeReq d)).1

/-! ### Owner write-backs (R187) -/

/-- A BISnp of the line to this session is outstanding. -/
def State.owesSnoop (s : State) (sess line : Nat) : Bool :=
  s.cache.snoops.any (fun x => x.line == line && x.waiting.contains sess && !x.unsent.contains sess)

/-- Merge one write of a snooped owner without charge. The set is the one a new entry finds; a set that is full takes it
all the same, since the answer to a snoop cannot wait. (DEDUCED, log entry 25). -/
def State.takeWriteBack (s : State) (d : Desc) : State :=
  let (s, data, bad) := s.readCell d.cell ⟨0, 0⟩
  let w : WriteIn := { line := d.line, data := data, be := d.be, poison := d.poison, cellBad := bad }
  match s.recordFor d.line with
  | .free h => s.passWrite d w h none
  | .release l h => s.passWrite d w h (some l)
  | .none => s.passWrite d w (Config.setHash 0 d.line) none

/-- A write from a snooped owner (R187): its earlier queued writes to the line merge first, then it; a full-line one
answers the requester. -/
def State.writeBack (s : State) (d : Desc) (data : LineData) : State :=
  let mine := (s.sess d.sess).wr.all.filter (fun x => x.line == d.line && x.op != .biConflict && x.bad == 0)
  let s := mine.foldl (fun s x => s.takeWriteBack x) s
  let s := s.retainLane d.sess .write (fun x => !(x.line == d.line && x.op != .biConflict && x.bad == 0))
  let s := s.takeWriteBack d
  let s := if d.be = fullMask then s.forwardBack d.sess d.line data d.poison else s
  s.returnCredit d.port d.link true

/-- Receive a write: lookup, landing cell, then the queue, or the owner's write-back (R45, R66, R187). -/
def State.receiveWrite (s : State) (m : M2S) (op : MemOp) (data : LineData) (be : Mask) (poison : Bool) : State :=
  if !s.hears m.port m.link then s
  else
    let s := (s.tele m.port 0x01 m.link).countRwd (2 * m.port + m.link)
    match s.lookup m with
    | none => s.failLookup m op
    | some f =>
      let cell := s.merge.cells.fresh (s.merge.cells.length + 1) 0
      let s := { s with merge := { s.merge with cells := s.merge.cells.put cell { sess := f.sess, tag := m.tag, data := data } } }
      let d := mkDesc s m op f be cell poison
      if s.owesSnoop f.sess f.line && !s.isSeq .capo then s.writeBack d data
      else s.enqueue f.sess d

/-- MEM_RD (R45). -/
def execMemRd (m : M2S) (s : State) : Host.Outcome State Fault Refusal := done s (s.receive m .memRd)

/-- MEM_RD_DATA (R45). -/
def execMemRdData (m : M2S) (s : State) : Host.Outcome State Fault Refusal := done s (s.receive m .memRdData)

/-- MEM_INV (R45). -/
def execMemInv (m : M2S) (s : State) : Host.Outcome State Fault Refusal := done s (s.receive m .memInv)

/-- MEM_INV_NT (R45). -/
def execMemInvNt (m : M2S) (s : State) : Host.Outcome State Fault Refusal := done s (s.receive m .memInvNt)

/-- MEM_CLN_EVCT (R45). -/
def execMemClnEvct (m : M2S) (s : State) : Host.Outcome State Fault Refusal := done s (s.receive m .memClnEvct)

/-- MEM_WR (R45): every byte is enabled. -/
def execMemWr (m : M2S) (data : LineData) (poison : Bool) (s : State) : Host.Outcome State Fault Refusal :=
  done s (s.receiveWrite m .memWr data fullMask poison)

/-- MEM_WR_PTL (R45). -/
def execMemWrPtl (m : M2S) (data : LineData) (be : Mask) (poison : Bool) (s : State) :
    Host.Outcome State Fault Refusal :=
  done s (s.receiveWrite m .memWrPtl data be poison)

/-- BI_CONFLICT (R189): counted, and queued in the write lane. -/
def execBiConflict (m : M2S) (s : State) : Host.Outcome State Fault Refusal :=
  done s ((if s.hears m.port m.link then s.bump Reg.DIR_CONFLICT_CNT else s).receive m .biConflict)

/-! ### MemSpecRd (R45, R176) -/

/-- Read-cache index of a line: DPA bits [31:6]; tag: DPA bits [42:32] (R175). -/
def rcIndex (line : Nat) : Nat := line % 2 ^ 26

def rcTag (line : Nat) : Nat := line / 2 ^ 26

/-- Fill the read cache with a line whose media read was issued in this epoch (R15, R16, R175). -/
def State.rcFill (s : State) (line epoch : Nat) (data : LineData) : State :=
  ({ s with cache := { s.cache with rc := s.cache.rc.put (rcIndex line) (rcTag line, epoch, data) } }).bump
    Reg.CACHE_RC_FILL_CNT

/-- The data a clean media read of a line returns now, without errors; `none`: nothing to fill with. -/
def State.mediaNow (s : State) (line : Nat) : Option LineData :=
  match s.readMp (lpnOf line) with
  | none => none
  | some mp =>
    if s.dieFailed mp then none
    else match s.mline mp (line % 64) with
      | none => none
      | some l => match decodeLine l ⟨0, 0⟩ with
        | .good d _ => some d
        | _ => none

/-- Warm the read cache for a MemSpecRd: only while SPEC_FILL_EN is 1, class 4 has bandwidth, and the medium holds the
newest version of the line. -/
def State.specFill (s : State) (line : Nat) (class4 : Bool) : State :=
  if !class4 || !s.cache.rcOn || !s.bit Reg.CACHE_RC_CFG_SPEC_FILL_EN || !s.ready || s.rd Reg.SCHED_STATUS_LAYOUT = 1
      || (s.entry line).isSome || s.lineBusy line || s.unverified line || (s.internalOn line).isSome then s
  else match s.mediaNow line with
    | some d => s.rcFill line s.lwNow d
    | none => s

/-- MEM_SPEC_RD (R45): no response, no tracker; it may warm the read cache (R176). (DESIGN CHOICE, log entry 22). -/
def execMemSpecRd (m : M2S) (class4 : Bool) (s : State) : Host.Outcome State Fault Refusal :=
  done s (if !s.hears m.port m.link then s
    else
      let s := s.returnCredit m.port m.link false
      match s.lookup m with
      | none => s
      | some f => s.specFill f.line class4)

/-! ### Device-internal writes (R190) -/

/-- Entries of the host directory in the range of the running device-internal write. -/
def State.internalHosts (s : State) : List (Nat × HostEntry) := s.cache.host.filter (fun e => (s.internalOn e.1).isSome)

/-- The back-invalidate of a device-internal write: every host entry of its range that is not being snooped receives
BISnpInv, and slice copies without a write-through in flight go. (DEDUCED, log entry 65). -/
def State.sweepInternal (s : State) : State :=
  if s.internals = [] then s
  else
    let s := s.internalHosts.foldl (fun s e =>
      if s.snooping e.1 then s
      else match s.snoopTargets e.1 e.2 none with
        | [] => s.dropHost e.1
        | l => s.startSnoop e.1 0 .internal l e.2.overflow) s
    let lines := s.cache.lines.keep (fun k _ => (s.internalOn (k / 4)).isNone || s.lineBusy (k / 4))
    ({ s with cache := { s.cache with lines := lines } }).sliceCount

/-- Queue a device-internal write; its back-invalidate begins when none runs. -/
def State.queueInternal (s : State) (i : Internal) : State :=
  let first := s.internals == []
  let s := { s with internals := s.internals ++ [i] }
  if first then s.sweepInternal else s

/-- The running device-internal write ends, and the next one begins. -/
def State.endInternal (s : State) : State := ({ s with internals := s.internals.tail }).sweepInternal

/-- A span of 256 MiB units is released as by RELEASE RANGE. -/
def State.queueRelease (s : State) (base size : Nat) : State :=
  let lines := unit256M / 64
  s.queueInternal { kind := .releaseRange, first := base * lines, count := size * lines }

/-! ### Answers to snoops -/

/-- BI_RSP (R183): a session answers a BISnp of a line. An answer on a link that does not hear, or to no outstanding
snoop, has no effect. -/
def execBiRsp (port link sess line : Nat) (answer : BiAnswer) (s : State) : Host.Outcome State Fault Refusal :=
  done s (if s.hears port link && s.owesSnoop sess line then s.snoopAnswer sess line (answer == .s) else s)

/-- The timeout of a snoop: record with the session and the DPA (Table 13-8). -/
def State.snoopRecord (s : State) (code sess line : Nat) : State :=
  s.chronicle code 0x4B 1 (leBytes 2 sess ++ leBytes 6 (line * 64))

/-- The purpose of a snoop is a fence (Table 3-7). -/
def SnoopWhy.isFence : SnoopWhy → Bool
  | .fence _ => true
  | _ => false

/-- A snoop of this line, of a fence or not, waits for the session. -/
def State.waitsFor (s : State) (sess line : Nat) (fence : Bool) : Bool :=
  s.cache.snoops.any (fun x => x.line == line && x.waiting.contains sess && x.why.isFence == fence)

/-- SNOOP_TIMEOUT (R185): counts as BIRspI without data. -/
def execSnoopTimeout (sess line : Nat) (s : State) : Host.Outcome State Fault Refusal :=
  done s (if s.waitsFor sess line false then
      ((s.bump Reg.DIR_BI_TIMEOUT_CNT).snoopRecord 0x0300 sess line).snoopAnswer sess line false
    else s)

/-- FENCE_BI_TIMEOUT (R62): as answered without data, counted and recorded. -/
def execFenceBiTimeout (sess line : Nat) (s : State) : Host.Outcome State Fault Refusal :=
  done s (if s.waitsFor sess line true then
      ((s.bump Reg.SESS_BI_TIMEOUT_CNT).snoopRecord 0x0301 sess line).snoopAnswer sess line false
    else s)

/-- Send what credits now allow of every outstanding snoop. -/
def State.pushSnoops (s : State) : State :=
  let go := s.cache.snoops.foldl (fun (p : State × List Snoop) x =>
    let (s, x) := p.1.sendSnoops x
    (s, p.2 ++ [x])) (s, [])
  { go.1 with cache := { go.1.cache with snoops := go.2 } }

/-- BISNP_CREDIT_RETURN (R184): credits of a link come back, and waiting snoops go out. -/
def execBisnpCreditReturn (port link count : Nat) (s : State) : Host.Outcome State Fault Refusal :=
  done s (if s.hears port link then
      let i := 2 * port + link
      ({ s with cache := { s.cache with biCredits := s.cache.biCredits.set i (s.cache.biCredits.getD i 0 + count) } }).pushSnoops
    else s)

/-! ### Links (R46 to R49, R74, R75) -/

/-- Set a link status register's fields. -/
def State.setLink (s : State) (p l up rate width flit ide : Nat) : State :=
  if l = 0 then
    ((((s.wr Reg.PORT_LINK_STATUS0_UP up p).wr Reg.PORT_LINK_STATUS0_RATE rate p).wr Reg.PORT_LINK_STATUS0_WIDTH width p).wr
      Reg.PORT_LINK_STATUS0_FLIT flit p).wr Reg.PORT_LINK_STATUS0_IDE ide p
  else
    ((((s.wr Reg.PORT_LINK_STATUS1_UP up p).wr Reg.PORT_LINK_STATUS1_RATE rate p).wr Reg.PORT_LINK_STATUS1_WIDTH width p).wr
      Reg.PORT_LINK_STATUS1_FLIT flit p).wr Reg.PORT_LINK_STATUS1_IDE ide p

def State.setIde (s : State) (p l ide : Nat) : State :=
  if l = 0 then s.wr Reg.PORT_LINK_STATUS0_IDE ide p else s.wr Reg.PORT_LINK_STATUS1_IDE ide p

/-- Discard the responses of the requests in flight of a link (R47, R48). -/
def State.discardLink (s : State) (p l : Nat) : State :=
  { s with reqs := s.reqs.mapVals (fun _ r => if r.port == p && r.link == l then { r with discard := true } else r) }

/-- IDE keys of a link are lost (R243). -/
def State.loseKeys (s : State) (p l : Nat) : State :=
  { s with prot := { s.prot with ide := s.prot.ide.del (2 * p + l) } }

/-- IDE_INTEGRITY_FAILURE (R47). -/
def execIdeIntegrityFailure (port link : Nat) (s : State) : Host.Outcome State Fault Refusal :=
  done s (if s.hears port link then
      let s := ((s.setIde port link 2).bump Reg.PORT_IDE_FAIL_CNT 1 port).setBit Reg.PORT_EVENT_IDE_FAIL true port
      let s := (s.discardLink port link).loseKeys port link
      s.event .warn (.internal port 0 6 0 0 1 s.stroke (keyField port 0 0 link)) (0x40 + port)
    else s)

/-- Queued requests of a link that has gone down: reads are discarded, writes pass without charge and without response,
and what a hold withheld of the link's credits is forgotten (R48, R75). -/
def State.downSession (s : State) (n p l : Nat) : State :=
  let s := s.retainLane n .read (fun d => !(d.port == p && d.link == l))
  let s := s.retainLane n .write (fun d => !(d.port == p && d.link == l && d.op == .biConflict))
  let mark (d : Desc) : Desc := if d.port == p && d.link == l then { d with orphaned := true } else d
  let e := s.sess n
  let q := e.wr
  let e := { e with
    wr := { q with head := q.head.map mark, spill := q.spill.map mark, tail := q.tail.map mark, excess := q.excess.map mark }
    withheld := e.withheld.filter (fun c => c.1 != l) }
  s.setSess n e

/-- The port's configuration space, BAR0 component registers and HDM decoders return to their reset values (R48). -/
def State.resetConfig (s : State) (p : Nat) : State :=
  { s with decoders := s.decoders.filter (fun d => d.port != p)
           msixEn := s.msixEn.filter (· != p)
           d3 := s.d3.filter (· != p)
           cfgSpace := s.cfgSpace.keep (fun k _ => k / 4096 != p)
           bar0 := s.bar0.keep (fun k _ => k / 65536 != p) }

/-- A link goes down (R48). -/
def State.linkGone (s : State) (p l : Nat) : State :=
  let s := (s.setLink p l 0 0 0 0 0).discardLink p l
  let s := (s.bump Reg.PORT_LINKDOWN_CNT 1 p).setBit Reg.PORT_EVENT_LINK_DOWN true p
  let s := s.loseKeys p l
  let s := (s.sessions.filter (fun e => e.2.key.port == p || (e.2.waiting.map (·.port)) == some p)).foldl
    (fun s e => s.downSession e.1 p l) s
  { (s.resetConfig p) with cache := { s.cache with biCredits := s.cache.biCredits.set (2 * p + l) 0 } }

/-- LINK_DOWN (R48). -/
def execLinkDown (port link : Nat) (s : State) : Host.Outcome State Fault Refusal :=
  done s (if port < 4 && link < 2 && s.linkUp port link then s.linkGone port link else s)

/-- The width of a link as configured: code 3 is x16, 2 is x8 (Table 3-8). -/
def State.fullWidth (s : State) (p : Nat) : Nat := if s.bit Reg.PORT_MODE_STATUS_BIFURCATE p then 2 else 3

/-- The mode in force follows `PORT_CFG.MODE` at a link-up (R49). -/
def State.applyMode (s : State) (p : Nat) : State :=
  (s.wr Reg.PORT_MODE_STATUS_MODE (s.rd Reg.PORT_CFG_MODE p) p).wr Reg.PORT_MODE_STATUS_MODE_PENDING 0 p

/-- LINK_UP (R49): at one of the four rates, with its credits advertised anew (R74). -/
def execLinkUp (port link rate width flit : Nat) (s : State) : Host.Outcome State Fault Refusal :=
  done s (
    if port < 4 && link < 2 && !s.linkUp port link && !s.perst.contains port && decide (1 ≤ rate) && decide (rate ≤ 4)
        && decide (1 ≤ width) && decide (width ≤ s.fullWidth port) && decide (flit ≤ 2)
        && (link == 0 || s.bit Reg.PORT_MODE_STATUS_BIFURCATE port)
        && (s.isSeq .pkgOn || s.isSeq .mediaUp || s.isSeq .on) then
      let s := (s.setLink port link 1 rate width flit 0).applyMode port
      let s := if rate < s.rd Reg.PORT_CFG_MAX_RATE port then s.setBit Reg.PORT_EVENT_RATE_FALLBACK true port else s
      let s := if width < s.fullWidth port then s.setBit Reg.PORT_EVENT_WIDTH_DEGRADED true port else s
      let n := if s.bit Reg.PORT_MODE_STATUS_BIFURCATE port then 256 else 512
      (s.emit (.credit port link false n)).emit (.credit port link true n)
    else s)

/-- PERST_N_ASSERT (R48, R384): a low of 1 µs or more takes both links down, and the width configuration written takes
effect (R46). -/
def execPerstNAssert (port lowNs : Nat) (s : State) : Host.Outcome State Fault Refusal :=
  done s (
    if port < 4 && decide (1000 ≤ lowNs) && !s.perst.contains port then
      let s := if s.linkUp port 0 then s.linkGone port 0 else s
      let s := if s.linkUp port 1 then s.linkGone port 1 else s
      let s := (s.loseKeys port 0).loseKeys port 1
      let s := s.resetConfig port
      let s := { s with perst := s.perst ++ [port], prot := { s.prot with spdm := s.prot.spdm.filter (· != port) } }
      s.wr Reg.PORT_MODE_STATUS_BIFURCATE (s.rd Reg.PORT_CFG_BIFURCATE port) port
    else s)

/-- PERST_N_DEASSERT (R48): the host may train the port's links. -/
def execPerstNDeassert (port : Nat) (s : State) : Host.Outcome State Fault Refusal :=
  done s { s with perst := s.perst.filter (· != port) }

/-- PORT_CFG_WRITE (R49, R63, R390): an out-of-range value, or a change of MODE while a session of the port is not Free,
changes nothing. -/
def execPortCfgWrite (port : Nat) (v : Word) (s : State) : Host.Outcome State Fault Refusal :=
  let mode := v.toNat % 4
  let rate := v.toNat / 8 % 8
  let used := s.sessions.any (fun e => e.2.claims.any (fun w => w.port == port))
  done s (
    if 4 ≤ port || mode = 3 || rate = 0 || 4 < rate then s
    else if mode ≠ s.rd Reg.PORT_CFG_MODE port && used then s.setBit Reg.PORT_EVENT_MODE_REJECT true port
    else
      let s := ((s.wr Reg.PORT_CFG_MODE mode port).wr Reg.PORT_CFG_BIFURCATE (v.toNat / 4 % 2) port).wr
        Reg.PORT_CFG_MAX_RATE rate port
      let s := (s.wr Reg.PORT_CFG_FLIT68_EN (v.toNat / 64 % 2) port).wr Reg.PORT_CFG_LOFLIT_EN (v.toNat / 128 % 2) port
      s.setBit Reg.PORT_MODE_STATUS_MODE_PENDING (mode != s.portMode port) port)

/-- PORT_CNT_CLR (R63). -/
def execPortCntClr (port : Nat) (v : Word) (s : State) : Host.Outcome State Fault Refusal :=
  done s (if v.toNat % 2 = 1 && decide (port < 4) then s.askClear (.port port) else s)

/-! ### End of a fence (R62) -/

/-- The drain of a session has ended (Table 3-7). -/
def State.drained (s : State) (n : Nat) : Bool :=
  let e := s.sess n
  e.withdrawn && e.inflight == 0 && e.fenceSnoops == [] && !(e.rd.all ++ e.wr.all).any (·.fenced)

/-- A session's entry becomes free. -/
def State.freeSession (s : State) (n : Nat) : State :=
  s.setSess n { gen := (s.sess n).gen }

/-- Blocks of extents held by no session whose region asks for sanitize-on-release: released as by RELEASE RANGE (R51). -/
def State.sanitizeBlocks (s : State) (l : List Extent) : State :=
  (l.flatMap (fun (e : Extent) => (List.range e.len).map (fun i => e.base + i))).foldl (fun s u =>
    let held := s.sessions.any (fun e => inExtents e.2.extents u || inExtents e.2.releasing u)
    match s.dcOf u with
    | some (_, r) => if r.sanitize && !held then s.queueRelease u 1 else s
    | none => s) s

/-- FENCE_DRAIN_END (R62): Fencing becomes Free, Pending becomes Active with its waiting parameters. -/
def execFenceDrainEnd (sess : Nat) (s : State) : Host.Outcome State Fault Refusal :=
  done s (
    if !s.drained sess then s
    else
      let e := s.sess sess
      let gone := e.extents ++ e.releasing
      match e.state, e.waiting with
      | .fencing, _ => ((s.freeSession sess).recount).sanitizeBlocks gone
      | .pending, some w =>
        ((s.setSess sess { (e.load w) with
            state := .active, waiting := none, withdrawn := false, fenceDue := false, reads := 0, writes := 0,
            allowStall := 0, extents := [], offered := [], releasing := [] }).recount).sanitizeBlocks gone
      | _, _ => s)

end Sys2Proof.Machine
end

