-- ==== Sys2Proof/Machine/Media.lean ====
section
/-! DEFINITION. Reads of the medium (R82, R97, R100, R194): decode, retry, reconstruction, what each does to counters and
to the stored line, and what a result does for the read or fill that asked for it. -/

namespace Sys2Proof.Machine

/-- What a media read ends with. -/
inductive MediaResult where
  | good (data : LineData)
  | poison
  /-- uncorrectable after reconstruction -/
  | lost
  deriving DecidableEq, Repr

/-- First decode of a place; a blank place never decodes. -/
def State.decodeAt (s : State) (mp ln : Nat) (e : MediaErr) : Decoded :=
  match s.mline mp ln with
  | some l => decodeLine l e
  | none => .failed

/-- Reconstruction of a place (R97); a stripe line that cannot be rebuilt fails. -/
def State.rebuildAt (s : State) (mp ln : Nat) (e : MediaErr) : Decoded :=
  if s.notRebuilt mp ln then .failed else decodeRebuilt (s.rebuilt mp ln) e

/-- Note corrected bits of a channel (R82). -/
def State.noteCorr (s : State) (chan bits : Nat) : State :=
  if bits = 0 then s else s.bump Reg.CHAN_CORR_CNT 1 chan

/-- Add one to the count of a die in a list of four. -/
def bumpDie (l : List Nat) (d : Nat) : List Nat := l.set d (l.getD d 0 + 1)

/-- Dies recorded as failed in the keep (page 11). -/
def State.failedKept (s : State) : Tab Bool :=
  match s.keep.shadow.find 11 with
  | some (.failed t) => t
  | _ => []

/-- A die is declared failed by a row of Table 5-11: recorded in the keep, the chronicle and the Failure log; it takes
effect at the next stroke boundary (R103). -/
def State.declareDie (s : State) (c d row : Nat) : State :=
  let x := s.chan c
  if x.doomed.contains d || s.rd Reg.CHAN_STATUS_DIE_FAILED c / 2 ^ d % 2 == 1 then s
  else
    let s := s.setChan c { x with doomed := x.doomed ++ [d] }
    let s := s.keepWrite 11 (.failed (s.failedKept.put (4 * c + d) true))
    let s := (s.chronicle 0x0102 c 2 [c, d, row]).health Reg.ERR_HEALTH_EVENT_DIE_FAIL
    s.event .fail (.module 0) c

/-- A reconstruction after a failed retry counts for its die (Table 5-11). -/
def State.noteRecon (s : State) (mp : Nat) : State :=
  let c := mpChan mp
  let d := sbnDie (mpSbn mp)
  let x := s.chan c
  let s := (s.setChan c { x with recons := bumpDie x.recons d }).bump Reg.CHAN_RECON_CNT 1 c
  if s.rd Reg.CHAN_G_CFG_DIE_FAIL_RECON < (s.chan c).recons.getD d 0 then s.declareDie c d 2 else s

/-- A line recovered by retry: its page is marked for refresh (R194). -/
def State.byRetry (s : State) (line mp bits : Nat) : State :=
  ((s.noteCorr (mpChan mp) bits).recovered line (mpChan mp)).markRefresh mp

/-- A line recovered by reconstruction: written back (R194). -/
def State.byRecon (s : State) (line mp ln bits : Nat) (data : LineData) : State :=
  ((s.noteCorr (mpChan mp) bits).recovered line (mpChan mp)).rewriteGood line mp ln data

/-- A line uncorrectable after reconstruction: written poisoned, listed and recorded (R194). -/
def State.byLoss (s : State) (line mp ln transaction : Nat) : State :=
  (s.uncorrRecord line (mpChan mp) transaction).rewritePoison line mp ln

/-- The reconstruction step, for a line whose first read and retry failed or whose die is failed. `keepOnly`: nothing is
written to the medium (Scan Media, R210). -/
def State.reconRead (s : State) (line mp ln : Nat) (e : MediaErr) (transaction : Nat) (keepOnly group : Bool) :
    State × MediaResult :=
  let s := if group then s else s.noteRecon mp
  match s.rebuildAt mp ln e with
  | .good d bits =>
    (if keepOnly || group then s else s.byRecon line mp ln bits d, .good d)
  | .poison => (s, .poison)
  | .failed =>
    (if keepOnly then (s.uncorrRecord line (mpChan mp) transaction).poisonAdd line .internal
     else s.byLoss line mp ln transaction, .lost)

/-- A whole media read of a line with its retry and reconstruction, as fills, patrol, scrub and copies make it. Answers
the bits corrected at the first decode, too. -/
def State.readMedia (s : State) (line mp ln : Nat) (e : LineErr) (transaction : Nat) (keepOnly : Bool) :
    State × MediaResult × Nat :=
  if s.dieFailed mp then
    let (s, r) := s.reconRead line mp ln e.recon transaction keepOnly true
    (s, r, 0)
  else match s.decodeAt mp ln e.first with
    | .good d bits => (s.noteCorr (mpChan mp) bits, .good d, bits)
    | .poison => (s, .poison, 0)
    | .failed =>
      let s := s.bump Reg.CHAN_RETRY_CNT 1 (mpChan mp)
      match s.decodeAt mp ln e.retry with
      | .good d bits => (if keepOnly then s.noteCorr (mpChan mp) bits else s.byRetry line mp bits, .good d, 0)
      | .poison => (s, .poison, 0)
      | .failed =>
        let (s, r) := s.reconRead line mp ln e.recon transaction keepOnly false
        (s, r, 0)

/-- The integrity check of a line that came back good (R230). -/
def State.checkInteg (s : State) (line : Nat) (r : MediaResult) (c : IntegCheck) : State × MediaResult :=
  match r, c with
  | .good _, .failAt level => if s.integLine line then (s.integFail line level, .poison) else (s, r)
  | _, _ => (s, r)

/-- Bytes and poison of a result. -/
def MediaResult.out : MediaResult → LineData × Bool
  | .good d => (d, false)
  | .poison => (0, true)
  | .lost => (0, true)

/-- A fill's bytes, or a media result that serves as the fill, enter a partial entry (R149, R150, R151). -/
def State.fillEntry (s : State) (line : Nat) (d : LineData) (bad : Bool) : State :=
  match s.entry line with
  | none => s
  | some e =>
    let s := s.dropFill line
    if e.full then (s.putEntry line { e with fillPend := false }).mergeCounts
    else if bad then
      ((s.putEntry line { e with fillPend := false, fillBad := true }).bump Reg.MERGE_FILL_BAD_CNT).mergeCounts
    else (s.putEntry line { e with data := mergeBytes d e.data e.mask, mask := fullMask, fillPend := false }).mergeCounts

/-- The read cache is filled with a line from the medium unless a write has merged since its read was issued, or class 4
has no bandwidth (R15, R16, R176). `epoch`: when its media read was issued. -/
def State.tryRcFill (s : State) (line epoch : Nat) (d : LineData) (stale class4 : Bool) : State :=
  if !s.cache.rcOn then s
  else if stale || !class4 then s.bump Reg.CACHE_RC_FILL_DROP_CNT
  else s.rcFill line epoch d

/-- The refetch of a settling copy returns (R155): the entry is refilled, or released when the read fails. -/
def State.refill (s : State) (line : Nat) (d : LineData) (bad : Bool) : State :=
  match s.entry line with
  | none => s
  | some e =>
    if e.state = .settling then
      (if bad then s.dropEntry line else s.putEntry line { e with data := d, mismatch := false }).mergeCounts
    else s

/-- A media result for a host read (R149 to R151, R179). A result that meets a partial entry serves as its fill. -/
def State.deliverHost (s : State) (rid : Nat) (d : LineData) (bad : Bool) : State :=
  match s.reqs.find rid with
  | none => s
  | some r =>
    let s := if r.refetch then s.refill r.line d bad else s
    let (s, d, bad) :=
      if r.partialHit then
        let s := s.fillEntry r.line d bad
        match s.entry r.line with
        | some e => (s, e.answers.1, e.answers.2)
        | none => (s, d, bad)
      else (s, d, bad)
    match r.result with
    | some _ => s
    | none => (s.setReq rid { r with result := some (d, bad, false) }).takeResult rid

end Sys2Proof.Machine
end

