-- ==== Sys2Proof/Machine/Integ.lean ====
section
/-! DEFINITION. The integrity machinery of ranges 1 to 16 as the drains of their lines drive it (R226 to R229): line
indexes, line counters, dirty metadata lines and their write-back. -/

namespace Sys2Proof.Machine

/-- Lines of a granule (R226). -/
def granuleLines : Nat := 4194304

/-- Granules of a range, lowest first. -/
def State.rangeGranules (s : State) (n : Nat) : List Nat := (s.prot.granules.filter (fun e => e.2 == n)).map (·.1)

/-- Integrity line index of a line (R226); none when no protection covers it. -/
def State.integIndex (s : State) (line : Nat) : Option Nat :=
  let n := s.rangeOf line
  if !s.integLine line then none
  else
    let off := line - (s.prot.ranges.get {} n).base * granuleLines
    (s.rangeGranules n)[off / granuleLines]?.map (fun g => g * granuleLines + off % granuleLines)

/-- Key of a metadata line: MAC lines are level 0. -/
def nodeKey (level index : Nat) : Nat := level * 2 ^ 32 + index

/-- Granule of a MAC line or level 1 node (R227). -/
def nodeGranule (key : Nat) : Nat := key % 2 ^ 32 * 8 / granuleLines

/-- Largest number of dirty metadata lines: 1 for every 16 lines of the dirty budget (R229). -/
def State.nodeLimit (s : State) : Nat := s.rd Reg.MERGE_CFG_BUDGET * 1048576 / 16

/-- Show the dirty metadata lines. -/
def State.nodeCounts (s : State) : State := s.wr Reg.PROT_INTEG_DIRTY_LINES s.prot.dirtyNodes.length

/-- Mark a metadata line dirty. -/
def addNode (l : List Nat) (k : Nat) : List Nat := if l.contains k then l else l ++ [k]

/-- A drain of a line raises its counter in its level 1 node and writes its MAC: both are dirty in the cache (R228). -/
def State.countDrain (s : State) (line : Nat) : State :=
  match s.integIndex line with
  | none => s
  | some x =>
    let nodes := addNode (addNode s.prot.dirtyNodes (nodeKey 0 (x / 8))) (nodeKey 1 (x / 8))
    let counters := s.prot.lineCounters.set 0 x (s.prot.lineCounters.get 0 x + 1)
    ({ s with prot := { s.prot with dirtyNodes := nodes, lineCounters := counters } }).nodeCounts

/-- Write back some dirty metadata lines: the counters above them rise up to the root of their granule (R228).
(DESIGN CHOICE, log entry 50). -/
def State.writeBackNodes (s : State) (l : List Nat) : State :=
  let roots := l.foldl (fun t k => t.set 0 (nodeGranule k) (t.get 0 (nodeGranule k) + 1)) s.prot.roots
  ({ s with prot := { s.prot with roots := roots, dirtyNodes := s.prot.dirtyNodes.filter (fun k => !l.contains k) } }).nodeCounts

/-- Write back every dirty metadata line (R123, capo step 4). -/
def State.flushNodes (s : State) : State := s.writeBackNodes s.prot.dirtyNodes

/-- At the limit the oldest dirty metadata lines are written back (R229). -/
def State.trimNodes (s : State) : State :=
  if s.prot.dirtyNodes.length < s.nodeLimit then s
  else s.writeBackNodes (s.prot.dirtyNodes.take (s.prot.dirtyNodes.length + 1 - s.nodeLimit))

/-- A drain of the line would take the dirty metadata beyond its limit (R229). -/
def State.integWaits (s : State) (line : Nat) : Bool :=
  s.integLine line && decide (s.nodeLimit ≤ s.prot.dirtyNodes.length)

end Sys2Proof.Machine
end

