-- ==== Sys2Proof/Machine/Placing.lean ====
section
/-! DEFINITION. Whole-page and in-place programs (R96, R115 to R135): busy banks, exchanges with their parity, page appends
into the pools, lifts, settle-backs, and moves. -/

namespace Sys2Proof.Machine

/-- Capo runs or holds: no reclaim, settle-back, lift, move or precondition starts (R132). -/
def State.capoHeld (s : State) : Bool := s.isSeq .capo || s.isSeq .capoHold || s.start.warm == 2

/-! ### Banks (R89) -/

/-- The first block of each course in a queue. -/
def firstPerCourse (l : List Nat) : List Nat :=
  l.filter (fun b => l.find? (fun x => sbnCourse x == sbnCourse b) == some b)

/-- Blocks on which a precondition runs (R129, R208). -/
def State.preconditioning (s : State) : List Nat := firstPerCourse s.xlat.precondQ ++ firstPerCourse s.xlat.again

/-- Destination block of a move. -/
def State.moveDest (s : State) (m : Move) : Nat := (s.tract m.tract).sb

/-- Blocks whose eight banks a precondition or a move's append occupies. -/
def State.busyBlocks (s : State) : List Nat :=
  s.preconditioning ++ (s.xlat.moves.filter (fun m => m.load.isSome && !m.committed)).map s.moveDest

/-- The bank of a block on a channel of its course. -/
def blockBank (sbn chan : Nat) : Nat := 64 * chan + 16 * sbnDie sbn + sbnBank sbn

/-- A bank carries a program-type operation, or is reserved for a toggle. -/
def State.bankBusy (s : State) (b : Nat) : Bool :=
  (s.ops.find b).isSome
    || s.busyBlocks.any (fun k => sbnCourse k == b / 512 && blockBank k (b / 64) == b)
    || s.xlat.copies.any (fun c => mpBank c.dst == b)

/-- Busy banks of the die of a bank. -/
def State.busyOnDie (s : State) (b : Nat) : Nat :=
  ((List.range 16).filter (fun k => s.bankBusy (16 * (b / 16) + k))).length

/-- A bank can start an operation: it is not busy, and its die has fewer than four busy banks. -/
def State.bankFree (s : State) (b : Nat) : Bool := !s.bankBusy b && decide (s.busyOnDie b < 4)

/-- A channel takes programs: up, with no retrain running (R93). -/
def State.chanUp (s : State) (c : Nat) : Bool := s.rd Reg.CHAN_STATUS_STATE c == 2 && !s.bit Reg.CHAN_STATUS_RETRAIN c

/-- Delta slots of a stroke that are reserved on a channel. -/
def State.deltasOn (s : State) (c stroke : Nat) : Nat :=
  (s.ops.filter (fun e => e.1 / 64 == c && e.2.kind == .reserved && e.2.stroke == stroke)).length

/-- Delta slots of a channel in one stroke: 30, in recovery mode 15 (Tables 2-1 and 2-9). -/
def State.deltaSlots (s : State) : Nat := if s.rd Reg.SCHED_STATUS_LAYOUT = 2 then 15 else 30

/-- An exchange of a line can be placed in stroke `n`: its bank, the stripe's parity bank and a delta slot are free (R153).
Parity on a failed die is not toggled (R104). -/
def State.exchangeFits (s : State) (mp n : Nat) : Bool :=
  let par := mpParity mp
  s.chanUp (mpChan mp) && !s.dieFailed mp && s.bankFree (mpBank mp)
    && (s.dieFailed par
      || (s.chanUp (mpChan par) && s.bankFree (mpBank par) && mpBank par != mpBank mp
        && decide (s.deltasOn (mpChan par) (n + 1) < s.deltaSlots)))

/-- Place an exchange in stroke `n`, and reserve its parity bank for the toggle of the next one (R96, R153). -/
def State.placeExchange (s : State) (kind : ProgKind) (mp ln line n : Nat) (new : MLine) : State :=
  let par := mpParity mp
  let tb := s.rd Reg.CHAN_STATUS_TBANK (mpChan mp)
  let o : BankOp := { kind := kind, mp := mp, ln := ln, line := line, new := new, parity := par, stroke := n, tb := tb }
  let s := { s with ops := s.ops.put (mpBank mp) o }
  let s := s.emit (.fipen (mpChan mp) (sbnDie (mpSbn mp)) (sbnBank (mpSbn mp)) .exchange)
  if s.dieFailed par then s
  else
    let r : BankOp := { o with kind := .reserved, mp := par, stroke := n + 1 }
    { s with ops := s.ops.put (mpBank par) r }

/-- Place an operation without a delta. -/
def State.placePlain (s : State) (kind : ProgKind) (c : FipenCmd) (mp ln n : Nat) : State :=
  let o : BankOp := { kind := kind, mp := mp, ln := ln, stroke := n, tb := s.rd Reg.CHAN_STATUS_TBANK (mpChan mp) }
  let s := { s with ops := s.ops.put (mpBank mp) o }
  s.emit (.fipen (mpChan mp) (sbnDie (mpSbn mp)) (sbnBank (mpSbn mp)) c)

/-! ### Dirty lines that travel with a page -/

/-- Entries of a page that a drain may carry: dirty, whole, and no fill outstanding. -/
def State.carriable (s : State) (lpn : Nat) : List (Nat × Entry) :=
  s.merge.entries.filter (fun e => lpnOf e.1 == lpn && e.2.state == .dirty && !e.2.fillPend)

/-- Entries of a page that are dirty or draining. -/
def State.pageDirty (s : State) (lpn : Nat) : Bool :=
  s.merge.entries.any (fun e => lpnOf e.1 == lpn && e.2.pends)

/-- An entry begins its drain. -/
def State.startDrain (s : State) (line : Nat) (e : Entry) : State :=
  (((s.tele 13 0x01 0).putEntry line { e with state := .draining, draining := some e.carries }).drainPoison line e).countDrain line

/-- Lines of a page begin their drain together. -/
def State.startDrains (s : State) (l : List (Nat × Entry)) : State := l.foldl (fun s e => s.startDrain e.1 e.2) s

/-- The stored form of an entry's line. -/
def State.entryLine (s : State) (e : Entry) (lifted : Bool) : MLine :=
  storedLine e.carries.1 e.carries.2 s.ageNow lifted

/-- The version of a line that a copy reads: as decoded, rebuilt when its die is failed, or poison when it cannot be read
(R106, R128, R130). -/
def State.copyLine (s : State) (mp ln : Nat) (lifted : Bool) : MLine :=
  let bad := storedLine 0 true s.ageNow lifted
  if s.dieFailed mp then
    (if s.notRebuilt mp ln then bad
     else match decodeRebuilt (s.rebuilt mp ln) ⟨0, 0⟩ with
      | .good d _ => storedLine d false s.ageNow lifted
      | _ => bad)
  else match s.mline mp ln with
    | none => storedLine 0 false s.ageNow lifted
    | some l => match decodeLine l ⟨0, 0⟩ with
      | .good d _ => storedLine d false s.ageNow lifted
      | _ => bad

/-- Lines of a page: the dirty ones of the merge buffer, the others from the medium, or zeros. -/
def State.pageLines (s : State) (lpn : Nat) (src : Option Nat) (dirty : List (Nat × Entry)) (lifted : Bool) (ln : Nat) :
    MLine :=
  match dirty.find? (fun e => e.1 == 64 * lpn + ln) with
  | some e => s.entryLine e.2 lifted
  | none => match src with
    | some mp => s.copyLine mp ln lifted
    | none => storedLine 0 false s.ageNow lifted

/-- Lines of a page on a failed die that could not be rebuilt enter the poison list (R106). -/
def State.noteUnbuilt (s : State) (lpn mp : Nat) (dirty : List (Nat × Entry)) : State :=
  if !s.dieFailed mp then s
  else (List.range 64).foldl (fun s ln =>
    if s.notRebuilt mp ln && !dirty.any (fun e => e.1 == 64 * lpn + ln) then s.poisonAdd (64 * lpn + ln) .internal else s) s

/-! ### Pools (R124, R125) -/

/-- Key of an open block: hot pool of course k at k, cold at 8 + k. -/
def openKey (hot : Bool) (course : Nat) : Nat := if hot then course else 8 + course

/-- Hot and cold blocks. -/
def State.poolBlocks (s : State) : Nat :=
  (s.xlat.blocks.filter (fun e => e.2.pool == .hot || e.2.pool == .cold)).length

/-- The first unlisted SBN of a course, within `n` tries. -/
def State.firstOfCourse (s : State) (course : Nat) : Nat → Nat → Option Nat
  | 0, _ => none
  | n + 1, b =>
    if sbnCourse b ≠ course then none
    else if (s.xlat.blocks.find b).isNone && s.sbnExists b && !s.sbnFailed b then some b
    else s.firstOfCourse course n (b + 1)

/-- A free block of a course for a pool: lowest PRECOND_CNT for the hot pool, highest for the cold one (R124). -/
def State.dispenseIn (s : State) (course : Nat) (hot : Bool) : Option Nat :=
  let listed := s.xlat.blocks.filter (fun e => sbnCourse e.1 == course && s.isFree e.1)
  let fresh := s.firstOfCourse course 131072 (131072 * course)
  if hot then
    match leastPrecond listed with
    | some e => if e.2.precond = 0 then some e.1 else match fresh with
        | some b => some b
        | none => some e.1
    | none => fresh
  else
    match mostPrecond listed with
    | some e => some e.1
    | none => fresh

/-- A retirable substitute: a hot or cold block with no valid pages (R135). -/
def State.substitute (s : State) (course : Nat) : Option Nat :=
  (s.xlat.blocks.find? (fun e => sbnCourse e.1 == course && (e.2.pool == .hot || e.2.pool == .cold) && e.2.valid == 0
    && e.2.sealed && e.2.failedRb == 0 && !s.sbnFailed e.1)).map (·.1)

/-- Open a block of a course for a pool; none when there is no room (R124, R125). -/
def State.openIn (s : State) (course : Nat) (hot : Bool) : Option (State × OpenBlock) :=
  match s.xlat.opens.find (openKey hot course) with
  | some o => some (s, o)
  | none =>
    if s.rd Reg.XLAT_FLUID_CFG_FLUID_MAX ≤ s.poolBlocks then none
    else match s.dispenseIn course hot with
      | none => none
      | some b =>
        let k := s.block b
        let s := s.setBlock b { k with epoch := s.xlat.sbe, tract := none, pool := if hot then .hot else .cold,
                                       valid := 0, lifted := 0, fill := 0, degraded := [], sealed := false }
        let o : OpenBlock := { sbn := b, since := s.stroke }
        some ({ s with xlat := { s.xlat with opens := s.xlat.opens.put (openKey hot course) o } }, o)

/-- Seal a block: it leaves the open blocks (R125). -/
def State.seal (s : State) (sbn : Nat) : State :=
  let opens := s.xlat.opens.keep (fun _ o => o.sbn != sbn)
  let s := { s with xlat := { s.xlat with opens := opens } }
  s.setBlock sbn { s.block sbn with sealed := true }

/-- Take the next page of an open block: the media page. The block is sealed with its last page. -/
def State.takePage (s : State) (hot : Bool) (course : Nat) (o : OpenBlock) : State × Nat :=
  let k := s.block o.sbn
  let dst := mpOf o.sbn (k.fill / 7) (dataPos o.sbn (k.fill / 7) (k.fill % 7))
  let s := s.setBlock o.sbn { k with fill := k.fill + 1 }
  let o' := { o with gathered := (k.fill + 1) % 7, since := if k.fill % 7 = 0 then s.stroke else o.since }
  if 1792 ≤ k.fill + 1 then (s.seal o.sbn, dst)
  else ({ s with xlat := { s.xlat with opens := s.xlat.opens.put (openKey hot course) o' } }, dst)

/-- The courses in turn, from one on. -/
def coursesFrom (c : Nat) : List Nat := (List.range 8).map (fun i => (c + i) % 8)

/-- The next page of a pool, round-robin over the courses (R125): the state and the media page. -/
def State.nextPoolPage (s : State) (hot : Bool) : Option (State × Nat) :=
  let from_ := if hot then s.xlat.nextHot else s.xlat.nextCold
  (coursesFrom from_).findSome? (fun c => match s.openIn c hot with
    | none => none
    | some (t, o) =>
      let (t, dst) := t.takePage hot c o
      let x := if hot then { t.xlat with nextHot := (c + 1) % 8 } else { t.xlat with nextCold := (c + 1) % 8 }
      some ({ t with xlat := x }, dst))

/-- Write the parity page of a pool stripe once its seven data pages are there (R125). -/
def State.closeStripe (s : State) (sbn stripe : Nat) : State :=
  let ps := (List.range 7).filterMap (fun k => s.pages.find (mpOf sbn stripe (dataPos sbn stripe k)))
  if ps.length < 7 then s
  else
    let par := mpOf sbn stripe (parityPos sbn stripe)
    (({ s with pages := s.pages.put par (parityPage ps s.ageNow) }).wear sbn 65).teleAppend [par]

/-- Program one pool page (R117, R120, R128). -/
def State.programPage (s : State) (mp : Nat) (p : MPage) : State :=
  ((({ s with pages := s.pages.put mp p }).wear (mpSbn mp) 65).teleAppend [mp]).closeStripe (mpSbn mp) (mpStripe mp)

/-- Allocate a SEQ (R121). -/
def State.takeSeq (s : State) : State × Nat := ({ s with xlat := { s.xlat with seq := s.xlat.seq + 1 } }, s.xlat.seq)

/-- A pool filler page (R122). -/
def State.fillerPage (s : State) (hot : Bool) (epoch seq : Nat) : MPage :=
  s.newPage noLpn (if hot then .hot else .cold) epoch seq (fun _ => storedLine 0 false s.ageNow hot)

/-- Complete an open stripe with filler pages (R125). -/
def State.fillStripe (s : State) (hot : Bool) (course : Nat) (o : OpenBlock) : State :=
  let k := s.block o.sbn
  (List.range ((7 - k.fill % 7) % 7)).foldl (fun s _ =>
    match s.xlat.opens.find (openKey hot course) with
    | none => s
    | some o' =>
      if o'.sbn ≠ o.sbn then s else
      let (s, q) := s.takeSeq
      let (s, dst) := s.takePage hot course o'
      s.programPage dst (s.fillerPage hot k.epoch q)) s

/-- Course of the next page of the pool and its destination, with SEQ and tag: begins a page append (R117, R120, R128). -/
def State.beginCopy (s : State) (why : CopyWhy) (lpn : Nat) (src : Option Nat) : Option State :=
  let hot := why != .reclaim
  match s.nextPoolPage hot with
  | none => none
  | some (s, dst) =>
    let dirty := if hot then s.carriable lpn else []
    let (s, q) := s.takeSeq
    let s := match src with
      | some mp => s.noteUnbuilt lpn mp dirty
      | none => s
    let page := s.newPage lpn (if hot then .hot else .cold) (s.block (mpSbn dst)).epoch q
      (s.pageLines lpn src dirty hot)
    let s := s.startDrains dirty
    let c : Copy := { why := why, lpn := lpn, page := page, src := src, dst := dst, carried := dirty.map (·.1) }
    let s := if why = .lift then s.tele 13 0x02 0 else s
    some (({ s with xlat := { s.xlat with copies := s.xlat.copies ++ [c] } }).mergeCounts.poolCounts)

/-- The page is being appended or settled back already. -/
def State.pageBusy (s : State) (lpn : Nat) : Bool :=
  s.xlat.copies.any (fun c => c.lpn == lpn) || s.xlat.settles.any (fun c => c.lpn == lpn)

/-! ### The fluid table (R115) -/

/-- Bucket of a logical page. -/
def bucketOf (lpn : Nat) : Nat := lpn * 0x9E3779B1 % 2 ^ 32 / 512

/-- A page's bucket has a free entry, the entries of appends under way counted. -/
def State.bucketRoom (s : State) (lpn : Nat) : Bool :=
  let held := (s.xlat.fluid.filter (fun e => bucketOf e.1 == bucketOf lpn)).length
  let coming := (s.xlat.copies.filter (fun c => bucketOf c.lpn == bucketOf lpn && (s.xlat.fluid.find c.lpn).isNone)).length
  decide (held + coming < 8)

/-- A page can be appended: it has a fluid entry, or its bucket has room for one. -/
def State.bucketFor (s : State) (lpn : Nat) : Bool := (s.xlat.fluid.find lpn).isSome || s.bucketRoom lpn

/-- Clear the valid bit of a pool page; a hot or cold block left without valid pages is queued for precondition or retired
once it is sealed (R127, R133). -/
def State.invalidate (s : State) (mp : Nat) : State :=
  if !s.xlat.valid.get false mp then s
  else
    let s := { s with xlat := { s.xlat with valid := s.xlat.valid.set false mp false } }
    s.setBlock (mpSbn mp) { s.block (mpSbn mp) with valid := (s.block (mpSbn mp)).valid - 1 }

/-- Set the valid bit of a pool page. -/
def State.validate (s : State) (mp : Nat) : State :=
  let s := { s with xlat := { s.xlat with valid := s.xlat.valid.set false mp true } }
  s.setBlock (mpSbn mp) { s.block (mpSbn mp) with valid := (s.block (mpSbn mp)).valid + 1 }

/-- The fluid entry of a page names a new place, RECENT set: HAS_LIFTED and LIFTED follow (R117, R128). -/
def State.setFluid (s : State) (lpn mp : Nat) (recent : Bool) : State :=
  let t := tractOfLpn lpn
  let x := s.tract t
  let s := match s.xlat.fluid.find lpn with
    | some (old, _) => s.invalidate old
    | none => s.setBlock x.sb { s.block x.sb with lifted := (s.block x.sb).lifted + 1 }
  let s := { s with xlat := { s.xlat with fluid := s.xlat.fluid.put lpn (mp, recent) } }
  (((s.setTract t { s.tract t with hasLifted := true }).validate mp).retarget t).poolCounts

/-- The fluid entry of a page is removed (R119, R136). -/
def State.dropFluid (s : State) (lpn : Nat) : State :=
  match s.xlat.fluid.find lpn with
  | none => s
  | some (mp, _) =>
    let t := tractOfLpn lpn
    let x := s.tract t
    let s := s.invalidate mp
    let s := { s with xlat := { s.xlat with fluid := s.xlat.fluid.del lpn } }
    let n := (s.block x.sb).lifted - 1
    let s := s.setBlock x.sb { s.block x.sb with lifted := n }
    ((s.setTract t { s.tract t with hasLifted := s.xlat.fluid.any (fun e => tractOfLpn e.1 == t) }).retarget t).poolCounts

/-! ### Settle-back (R118, R119) -/

/-- The settle-back conditions of R118 but for RECENT. -/
def State.maySettle (s : State) (lpn : Nat) : Bool :=
  let t := s.tract (tractOfLpn lpn)
  t.state == .settled && !t.reloc && !s.slotFailed lpn && !s.dieFailed (homeMp t.sb lpn) && !s.pageBusy lpn

/-- Begin a settle-back of a lifted page, with its dirty lines merged (R119). -/
def State.beginSettle (s : State) (lpn : Nat) : State :=
  match s.fluidOf lpn with
  | none => s
  | some mp =>
    if !s.maySettle lpn then s
    else
      let dirty := s.carriable lpn
      let (s, q) := (s.noteUnbuilt lpn mp dirty).takeSeq
      let epoch := (s.block (s.tract (tractOfLpn lpn)).sb).epoch
      let page := s.newPage lpn .settled epoch q (s.pageLines lpn (some mp) dirty false)
      let s := s.startDrains dirty
      let x : Settle := ⟨lpn, page, dirty.map (·.1)⟩
      ({ s with xlat := { s.xlat with settles := s.xlat.settles ++ [x] } }).mergeCounts

/-! ### Moves (R130, R131) -/

/-- Start a move of a tract into a free block; none when there is no free block (R122, R130). -/
def State.startMove (s : State) (t : Nat) (why : MoveWhy) : Option State :=
  match s.dispenseLow with
  | none => none
  | some b =>
    let x := s.tract t
    let e := (s.xlat.sbe + 1) % 2 ^ 32
    let m : Move := { tract := t, why := why }
    let s := { s with xlat := { s.xlat with sbe := e, moves := s.xlat.moves ++ [m],
                                            moveQ := s.xlat.moveQ.filter (· != t) } }
    let s := s.setBlock b { s.block b with epoch := e, tract := some t, pool := .home, valid := 0,
                                           lifted := (s.block x.sb).lifted, fill := 0, degraded := [], sealed := false }
    let zero := x.state == .unmapped
    let s := s.setTract t { x with state := .inTransit, sb := b, src := if zero then 0 else x.sb, ptr := 0,
                                   zeroSrc := zero, reloc := false,
                                   lw := if zero then s.lwNow else x.lw }
    some ((s.retarget t).poolCounts)

/-- A page lies beyond the exported capacity (R110). -/
def State.beyond (s : State) (lpn : Nat) : Bool := decide (s.rd Reg.TOP_CAPACITY_UNITS * 65536 ≤ lpn)

/-- A data page of a move stripe: home content of the source with dirty lines merged, or zeros (R122, R130). -/
def State.movePage (s : State) (t : Tract) (lpn seq : Nat) (dirty : List (Nat × Entry)) : MPage :=
  let epoch := (s.block t.sb).epoch
  if t.zeroSrc then s.newPage (if s.beyond lpn then noLpn else lpn) .settled epoch seq (s.pageLines lpn none dirty false)
  else
    let src := homeMp t.src lpn
    let p := s.newPage lpn .settled epoch seq (s.pageLines lpn (some src) dirty false)
    match s.pages.find src with
    | some q => match q.tag with
      | some g => { p with tag := some { g with cls := .settled, epoch := epoch } }
      | none => p
    | none => p

/-- Dirty lines that a move takes up with a page: none when the page has a fluid entry. -/
def State.moveDirty (s : State) (lpn : Nat) : List (Nat × Entry) :=
  if (s.fluidOf lpn).isSome then [] else s.carriable lpn

/-- Load one stripe of a move (R130). -/
def State.loadStripe (s : State) (m : Move) : State × Move :=
  let t := s.tract m.tract
  let lpns := (List.range 7).map (fun k => lpnAt m.tract t.ptr k)
  let (s, pages, carried) := lpns.foldl (fun (a : State × List MPage × List Nat) lpn =>
    let (s, ps, cs) := a
    let dirty := s.moveDirty lpn
    let (s, q) := if t.zeroSrc then s.takeSeq else (s, 0)
    let s := if t.zeroSrc then s else s.noteUnbuilt lpn (homeMp t.src lpn) dirty
    let p := s.movePage t lpn q dirty
    (s.startDrains dirty, ps ++ [p], cs ++ dirty.map (·.1))) (s, [], [])
  (s, { m with load := some pages, carried := carried })

/-- Load the stripe at PTR of every move that has none loaded (R130), but in capo (R132). -/
def State.loadMoves (s : State) : State :=
  let (s, ms) := s.xlat.moves.foldl (fun (a : State × List Move) m =>
    if m.load.isNone then
      let (s, m) := a.1.loadStripe m
      (s, a.2 ++ [m])
    else (a.1, a.2 ++ [m])) (s, [])
  ({ s with xlat := { s.xlat with moves := ms } }).mergeCounts

/-- Moves that run and count against `XLAT_WEAR_CFG.MOVE_MAX` (R131, R221). -/
def State.wearMoves (s : State) : Nat := (s.xlat.moves.filter (fun m => m.why == .wear || m.why == .rekey)).length

/-- The tract of a queued evacuation block. -/
def State.evacTract (s : State) (b : Nat) : Option Nat :=
  match (s.block b).tract with
  | some t => if (s.tract t).state == .settled && (s.tract t).sb == b then some t else none
  | none => none

/-- Start the evacuation move of the first home block in the queue, when none runs (R105).
(DEDUCED, log entry 45). -/
def State.startEvac (s : State) : State :=
  if s.xlat.moves.any (fun m => m.why == .evacuate) then s
  else match s.xlat.evac.findSome? s.evacTract with
    | none => s
    | some t => (s.startMove t .evacuate).getD s

/-- Start queued moves in their order, up to MOVE_MAX, in Normal and Yellow (R131). -/
def State.startWear (s : State) : State :=
  s.xlat.moveQ.foldl (fun s t =>
    if s.pool ≤ 1 && decide (s.wearMoves < s.rd Reg.XLAT_WEAR_CFG_MOVE_MAX) && (s.tract t).state == .settled then
      (s.startMove t .wear).getD s
    else s) s

/-! ### Re-key passes (R221) -/

/-- A line lies in the span of a pass. -/
def State.inSpan (s : State) (r : Rekey) (line : Nat) : Bool :=
  if r.range = 0 then s.rangeOf line == 0
  else decide (r.base ≤ line * 64 / unit256M) && decide (line * 64 / unit256M < r.base + r.size)

/-- Lines of a tract. -/
def tractLines : Nat := 114688

/-- A tract has a line in the span of a pass: a tract is smaller than a 256 MiB unit, so its first or last line has. -/
def State.tractInSpan (s : State) (r : Rekey) (t : Nat) : Bool :=
  s.inSpan r (t * tractLines) || s.inSpan r (t * tractLines + (tractLines - 1))

/-- E0 and Q0 of a pass. -/
def State.rekeySlot (s : State) (r : Rekey) : KeySlot := s.prot.slots.get {} r.range

/-- Tracts that a pass has still to move: mapped, with their home in a block no newer than E0, in tract order. -/
def State.rekeyLeft (s : State) (r : Rekey) : List Nat :=
  let e0 := (s.rekeySlot r).e0
  (s.xlat.tracts.filter (fun e => e.2.state != .unmapped && s.tractInSpan r e.1
    && (e.2.state == .inTransit || !newerEpoch (s.block e.2.sb).epoch e0))).map (·.1)

/-- Pool pages of the span that an append before Q0 wrote: logical page and media page. -/
def State.rekeyPool (s : State) (r : Rekey) : List (Nat × Nat) :=
  let q0 := (s.rekeySlot r).q0
  (s.xlat.fluid.filter (fun e => s.inSpan r (64 * e.1) && (match s.pages.find e.2.1 with
    | some p => (match p.tag with
      | some g => decide (g.seq < q0)
      | none => false)
    | none => false))).map (fun e => (e.1, e.2.1))

/-- Move on with the running pass: its next tract, and at its end the pool versions left (R221). It waits for its
back-invalidate (R190), and in Orange and Red. -/
def State.startRekey (s : State) : State :=
  match s.prot.rekeys, s.internals with
  | r :: _, i :: _ =>
    if i.kind != .rekey || !i.walked || decide (2 ≤ s.pool) || s.xlat.moves.any (fun m => m.why == .rekey)
        || decide (s.rd Reg.XLAT_WEAR_CFG_MOVE_MAX ≤ s.wearMoves) then s
    else match s.rekeyLeft r with
      | [] => (s.rekeyPool r).foldl (fun s e =>
          if s.pageBusy e.1 || s.pageDirty e.1 then s
          else if s.maySettle e.1 then s.beginSettle e.1 else (s.beginCopy .reclaim e.1 (some e.2)).getD s) s
      | l => match l.find? (fun t => (s.tract t).state == .settled) with
        | some t => (s.startMove t .rekey).getD s
        | none => s
  | _, _ => s

/-- Mark a tract RELOC_QUEUED (R131, R134, R135). -/
def State.queueMove (s : State) (t : Nat) : State :=
  let x := s.tract t
  if x.reloc || x.state == .unmapped then s
  else
    let s := s.setTract t { x with reloc := true }
    ({ s with xlat := { s.xlat with moveQ := s.xlat.moveQ ++ [t] } }).poolCounts

end Sys2Proof.Machine
end

