-- ==== Sys2Proof/Machine/SchedFamily.lean ====
section
/-! DEFINITION. The scheduler (chapter Strokes, Frets and the Latency Bound) and the results of media reads: PLAN_LOCK,
READ_REACH_SCHEDULER, PROGRAM_RESUME, SCHED_CNT_CLR, SCHED_STROKE_LO_READ, MEDIA_READ_COMPLETE, RECONSTRUCTION_COMPLETE. -/

namespace Sys2Proof.Machine

/-! ### Layouts (Tables 2-1, 2-8, 2-9) -/

/-- `SCHED_STATUS.LAYOUT`: 0 normal, 1 capo, 2 recovery mode. -/
def State.layout (s : State) : Nat := s.rd Reg.SCHED_STATUS_LAYOUT

/-- Drone slots of a layout, lowest first; in capo the recovery slots. -/
def droneSlots (layout : Nat) : List Nat :=
  match layout with
  | 0 => (List.range 28).map (· + 172)
  | 1 => [228, 229]
  | _ => (List.range 30).map (· + 30) ++ (List.range 43).map (· + 172)

/-- The effective reserve (R31, R41). -/
def State.reserve (s : State) : Nat :=
  if s.bit Reg.SCHED_STATUS_POOL_EXCL then 4 else s.rd Reg.SCHED_DRONE_CFG_RECOVERY_RSV

/-- Reserved positions: the last RSV ones; in capo both. -/
def State.reservedSlots (s : State) : List Nat :=
  let l := droneSlots s.layout
  if s.layout = 1 then l else l.drop (l.length - s.reserve)

/-- Positions below the reserved ones. -/
def State.openSlots (s : State) : List Nat :=
  let l := droneSlots s.layout
  if s.layout = 1 then [] else l.take (l.length - s.reserve)

/-- Refresh `BOUND_ACTIVE` (Table 2-10). -/
def State.boundUpdate (s : State) : State :=
  s.setBit Reg.SCHED_STATUS_BOUND_ACTIVE
    (s.layout == 0 && !s.bit Reg.SCHED_STATUS_POOL_EXCL && s.ready && s.shelf.stepDue == 0)

/-! ### Read slots (R30) -/

/-- First free read slot of a stroke on a channel at or above slot `lo`: reads of a channel are placed in order, and a
released slot stays empty. -/
def State.readSlot (s : State) (c stroke lo : Nat) : Option Nat :=
  match s.sched.last.find c with
  | none => if lo ≤ 171 then some (max 60 lo) else none
  | some k =>
    if stroke < k / 256 then none
    else
      let p := if k / 256 = stroke then max lo (k % 256 + 1) else max 60 lo
      if p ≤ 171 then some p else none

/-- Note a placement on a channel. -/
def State.notePlaced (s : State) (c stroke slot : Nat) : State :=
  { s with sched := { s.sched with last := s.sched.last.put c (256 * stroke + slot) } }

def State.putJob (s : State) (n : Nat) (j : Job) : State :=
  { s with sched := { s.sched with jobs := s.sched.jobs.put n j } }

def State.dropJobNo (s : State) (n : Nat) : State :=
  { s with sched := { s.sched with jobs := s.sched.jobs.del n, moved := s.sched.moved.filter (· != n) } }

/-- First stroke from `k` on, within `n` strokes, with a free read slot. -/
def State.findStroke (s : State) (c : Nat) : Nat → Nat → Option (Nat × Nat)
  | 0, _ => none
  | n + 1, k => match s.readSlot c k 60 with
    | some p => some (k, p)
    | none => s.findStroke c n (k + 1)

/-- Strokes a read may be placed in now: after the last locked one, within the horizon (R30). -/
def State.placeAhead (s : State) (c from_ : Nat) : Option (Nat × Nat) :=
  s.findStroke c (s.stroke + s.rd Reg.SCHED_CFG_HORIZON + 1 - from_) from_

/-- Start offset of a slot and of the CCLK, in 1/72 ns. -/
def slotUnits (p : Nat) : Nat := 200 * p

def cclkUnits (t : Nat) : Nat := 45 * t

/-- Lead time of late admission in 1/72 ns (R29). -/
def State.leadUnits (s : State) : Nat :=
  if s.layout = 2 then 72 * 190 + cclkUnits 16 else 72 * (s.img.suspend + s.img.arrayRead) + cclkUnits 16

/-- Lowest read slot that starts at or after a time, in 1/72 ns from the start of the stroke. -/
def slotFrom (u : Nat) : Nat := (u + 199) / 200

/-- Reads of a channel wait for a slot. -/
def State.anyWaiting (s : State) (c : Nat) : Bool :=
  s.sched.jobs.any (fun e => e.2.phase == .wait && mpChan e.2.mp == c)

/-- Late admission (R29): the slot of the current stroke, or of the next one once it is locked. -/
def State.lateSlot (s : State) (c t : Nat) : Option (Nat × Nat) :=
  if !s.bit Reg.SCHED_CFG_LATE_ADMIT_EN || s.anyWaiting c || s.layout == 1 then none
  else
    let u := cclkUnits t + s.leadUnits
    match s.readSlot c s.stroke (slotFrom u) with
    | some p => some (s.stroke, p)
    | none =>
      if s.stroke < s.sched.locked then
        (s.readSlot c s.sched.locked (slotFrom (u - cclkUnits 1024))).map (fun p => (s.sched.locked, p))
      else none

/-- The bank a late read goes to is suspended again (R28). -/
def State.suspendBank (s : State) (b : Nat) : State :=
  match s.ops.find b with
  | none => s
  | some o => if o.kind = .reserved || o.suspended then s else { s with ops := s.ops.put b { o with suspended := true } }

/-- Reads of a media page are served by reconstruction groups: its die is failed, or its channel retrains (R33, R93). -/
def State.byGroup (s : State) (mp : Nat) : Bool := s.dieFailed mp || s.bit Reg.CHAN_STATUS_RETRAIN (mpChan mp)

/-- An event of a channel (Table 16-2). -/
def State.teleChan (s : State) (c code : Nat) (n : Nat := 1) : State := s.tele (4 + c / 8) code (c % 8) n

/-- The seven channels of a reconstruction of a page. -/
def groupChans (mp : Nat) : List Nat := (mpOthers mp).map mpChan

/-- Channels on which a read needs a slot (R33, R34). -/
def Job.chans (j : Job) : List Nat :=
  match j.phase with
  | .groupWait | .group | .reconWait | .recon => groupChans j.mp
  | _ => [mpChan j.mp]

/-- Change the request that a media read is for. -/
def State.forHost (s : State) (j : Job) (f : Req → Req) : State :=
  match j.why with
  | .host rid => match s.reqs.find rid with
    | some r => s.setReq rid (f r)
    | none => s
  | .fill => s

/-- No bound applies to the read of a job any more (Table 2-7). -/
def State.unbind (s : State) (j : Job) : State := s.forHost j (fun r => { r with unbounded := true })

/-- The read of a job is placed later than C2 allows (R34, Table 2-7). -/
def State.placedLate (s : State) (j : Job) : State :=
  (s.forHost j (fun r => { r with late := true })).bump Reg.SCHED_DEFER_CNT

/-- Demand of a channel in the 4 strokes that end with this one: host reads and all reads (C1). -/
def State.demandOf (s : State) (c : Nat) : List (Nat × Nat × Nat) :=
  (s.sched.demand.get [] c).filter (fun x => decide (s.stroke < x.1 + 4))

/-- A read that needs a slot on some channels has reached the scheduler (R34). -/
def State.countDemand (s : State) (chans : List Nat) (host : Nat) : State :=
  chans.foldl (fun s c =>
    let l := s.demandOf c
    let l := if l.any (fun x => x.1 == s.stroke) then
        l.map (fun x => if x.1 == s.stroke then (x.1, x.2.1 + host, x.2.2 + 1) else x)
      else l ++ [(s.stroke, host, 1)]
    { s with sched := { s.sched with demand := s.sched.demand.put c l } }) s

/-- C1 fails on a channel in the 4 strokes that end with this one (R34). -/
def State.c1Fails (s : State) (c : Nat) : Bool :=
  let l := s.demandOf c
  decide (448 < (l.map (fun x => x.2.1)).sum)
    || decide (4 * (140 - s.rd Reg.SCHED_DRONE_CFG_RECOVERY_RSV) < (l.map (fun x => x.2.2)).sum)

/-- The reads of channels on which C1 fails have no bound (Table 2-7). -/
def State.testC1 (s : State) (chans : List Nat) : State :=
  let bad := chans.filter s.c1Fails
  if bad = [] then s
  else (s.sched.jobs.filter (fun e => decide (s.stroke < e.2.reach + 4) && e.2.chans.any (fun c => bad.contains c))).foldl
    (fun s e => s.unbind e.2) s

/-- A media read of a request is placed, or waits (R30). -/
def State.place (s : State) (n : Nat) (j : Job) (t : Nat) : State :=
  let mp := j.mp
  let c := mpChan mp
  if j.phase = .groupWait then s.putJob n j
  else match s.lateSlot c t with
    | some (k, p) =>
      let s := (s.putJob n { j with phase := .placed, stroke := k, slot := p }).notePlaced c k p
      let s := (s.teleChan c 0x06).teleChan c 0x01
      if k = s.stroke then s.suspendBank (mpBank mp) else s
    | none =>
      match (if s.anyWaiting c || s.layout == 1 then none else s.placeAhead c (s.sched.locked + 1)) with
      | some (k, p) =>
        let s := (s.putJob n { j with phase := .placed, stroke := k, slot := p }).notePlaced c k p
        if s.sched.locked + 1 < k then
          let late := if s.sched.late.contains c then s.sched.late else s.sched.late ++ [c]
          (({ s with sched := { s.sched with late := late } }).placedLate j).teleChan c 0x07
        else s
      | none => (s.putJob n j).bump Reg.SCHED_HELD_CNT

/-- Admission of a media read of a request (R30, R34). -/
def State.admitRead (s : State) (rid : Nat) (r : Req) (mp t : Nat) : State :=
  let n := s.sched.nextJob
  let group := s.byGroup mp
  let j : Job := { why := .host rid, line := r.line, mp := mp, ln := r.line % 64,
                   phase := if group then .groupWait else .wait, due := s.sched.locked + 1, reach := s.stroke }
  let s := { s with sched := { s.sched with nextJob := n + 1 } }
  let s := if s.boundsHold then s else s.setReq rid { r with unbounded := true }
  let s := (s.countDemand j.chans (if group then 0 else 1)).place n j t
  s.testC1 j.chans

/-- A read-cache probe goes out beside the media read when class 4 has bandwidth (R16, R176). -/
def State.probe (s : State) (rid : Nat) (class4 : Bool) : State :=
  match s.reqs.find rid with
  | none => s
  | some r =>
    if !s.cache.rcOn || r.refetch then s
    else if class4 then s.setReq rid { r with probing := true }
    else s.bump Reg.CACHE_RC_PROBE_SKIP_CNT

/-- A request whose media access may be admitted: a read of data at its lookups, or waiting meanwhile for resolution or for
a merge (R30, R178, Table 8-6). (DEDUCED, log entry 143). -/
def Req.admits (r : Req) : Bool :=
  (r.op == .memRd || r.op == .memRdData) && (r.stage == .lookup || r.stage == .resolve || r.stage == .waitMerge)

/-- READ_REACH_SCHEDULER (R30): `t` is the time into the current stroke in CCLK. A read to nothing returns zeros and is not
admitted (Table 6-3). (DESIGN CHOICE, log entry 12). -/
def execReadReachScheduler (rid t : Nat) (class4 : Bool) (s : State) : Host.Outcome State Fault Refusal :=
  done s (
    match s.reqs.find rid with
    | none => s
    | some r =>
      if !r.admits || r.result.isSome || s.sched.jobs.any (fun e => e.2.why == .host rid) then s
      else match s.readMp (lpnOf r.line) with
        | none => s.deliverHost rid 0 false
        | some mp => ((s.tele 13 0x01 0).admitRead rid r mp t).probe rid class4)

/-! ### The lock: reads (R30 to R34) -/

/-- Slots taken so far in the stroke being locked: channel and slot. -/
abbrev Used := List (Nat × Nat)

/-- Lowest slot of a list free on every channel, else the lowest of each; `none`: some channel has none (R32). -/
def commonSlots (used : Used) (order chans : List Nat) : Option Used :=
  match order.find? (fun p => chans.all (fun c => !used.contains (c, p))) with
  | some p => some (chans.map (fun c => (c, p)))
  | none =>
    let each := chans.filterMap (fun c => (order.find? (fun p => !used.contains (c, p))).map (fun p => (c, p)))
    if each.length = chans.length then some each else none

/-- Class 3 slots of a group: drone slots, or free read slots where no drone slot is free (R33). The last component is the
read slots taken. -/
def State.groupSlots (s : State) (used : Used) (chans : List Nat) (stroke : Nat) : Option (Used × Used) :=
  match commonSlots used s.openSlots chans with
  | some l => some (l, [])
  | none =>
    let pick := chans.filterMap (fun c =>
      match s.openSlots.find? (fun p => !used.contains (c, p)) with
      | some p => some (c, p, false)
      | none => (s.readSlot c stroke 60).map (fun p => (c, p, true)))
    if pick.length = chans.length then
      some ((pick.filter (fun x => !x.2.2)).map (fun x => (x.1, x.2.1)), (pick.filter (fun x => x.2.2)).map (fun x => (x.1, x.2.1)))
    else none

/-- A class 1 or 2 read moves to the next stroke (R31). (DESIGN CHOICE, log entry 20). -/
def State.overflow (s : State) (n k : Nat) (j : Job) : State :=
  let moved := if s.sched.moved.contains n then s.sched.moved else s.sched.moved ++ [n]
  (({ s with sched := { s.sched with moved := moved } }).bump Reg.SCHED_RECOV_OVF k).unbind j

/-- A job is no longer among the moved ones. -/
def State.unmove (s : State) (n : Nat) : State :=
  { s with sched := { s.sched with moved := s.sched.moved.filter (· != n) } }

/-- Jobs in a phase, those moved by overflow first (R31). -/
def State.inPhase (s : State) (p : JobPhase) : List (Nat × Job) :=
  let l := s.sched.jobs.filter (fun e => e.2.phase == p)
  l.filter (fun e => s.sched.moved.contains e.1) ++ l.filter (fun e => !s.sched.moved.contains e.1)

/-- Class 1: reconstruction reads (R31, R32). -/
def lockRecon (stroke : Nat) (a : State × Used) (e : Nat × Job) : State × Used :=
  let (s, used) := a
  match commonSlots used (s.reservedSlots ++ s.openSlots) (groupChans e.2.mp) with
  | some l => ((s.putJob e.1 { e.2 with phase := .recon, stroke := stroke }).unmove e.1, used ++ l)
  | none => (s.overflow e.1 7 e.2, used)

/-- Class 2: retune retries. -/
def lockRetry (stroke : Nat) (a : State × Used) (e : Nat × Job) : State × Used :=
  let (s, used) := a
  let c := mpChan e.2.mp
  match (s.reservedSlots ++ s.openSlots).find? (fun p => !used.contains (c, p)) with
  | some p => ((s.putJob e.1 { e.2 with phase := .retry, stroke := stroke, slot := p }).unmove e.1, used ++ [(c, p)])
  | none => (s.overflow e.1 1 e.2, used)

/-- A channel has failed C2 at this lock. -/
def addChan (l : List Nat) (c : Nat) : List Nat := if l.contains c then l else l ++ [c]

/-- What a lock carries: state, drone slots used, channels that fail C2. -/
structure LockAcc where
  s : State
  used : Used
  late : List Nat

/-- Class 3: reconstruction groups for host reads of failed dies (R33). -/
def lockGroup (stroke : Nat) (a : LockAcc) (e : Nat × Job) : LockAcc :=
  match a.s.groupSlots a.used (groupChans e.2.mp) stroke with
  | some (l, rs) =>
    let s := a.s.putJob e.1 { e.2 with phase := .group, stroke := stroke }
    let s := rs.foldl (fun s x => s.notePlaced x.1 stroke x.2) s
    let late := decide (e.2.due < stroke)
    let s := if late then s.placedLate e.2 else s
    { s := s, used := a.used ++ l, late := if late then (groupChans e.2.mp).foldl addChan a.late else a.late }
  | none => if e.2.due ≤ stroke then { a with late := (groupChans e.2.mp).foldl addChan a.late } else a

/-- Held reads are offered again, ahead of later reads for their channel (R30). -/
def lockHeld (stroke : Nat) (a : LockAcc) (e : Nat × Job) : LockAcc :=
  let c := mpChan e.2.mp
  let before := a.s.sched.jobs.any (fun x => x.2.phase == .wait && mpChan x.2.mp == c && decide (x.1 < e.1))
  match (if before then none else a.s.placeAhead c stroke) with
  | some (k, p) =>
    let s := (a.s.putJob e.1 { e.2 with phase := .placed, stroke := k, slot := p }).notePlaced c k p
    let s := if e.2.due < k then (s.placedLate e.2).teleChan c 0x07 else s
    { a with s := s, late := if e.2.due < k then addChan a.late c else a.late }
  | none => if e.2.due ≤ stroke then { a with late := addChan a.late c } else a

/-- Fill reads: read slots left free, then drone slots left free (R149); in capo the recovery slots left free. -/
def lockFill (stroke : Nat) (a : State × Used) (e : Nat × Entry) : State × Used :=
  let (s, used) := a
  if !e.2.fillPend || s.sched.jobs.any (fun x => x.2.line == e.1 && x.2.why == .fill) then a
  else match s.readMp (lpnOf e.1) with
    | none => (s.fillEntry e.1 0 false, used)
    | some mp =>
      let n := s.sched.nextJob
      let j : Job := { why := .fill, line := e.1, mp := mp, ln := e.1 % 64, phase := .placed, stroke := stroke }
      let go (s : State) : State :=
        (({ s with sched := { s.sched with nextJob := n + 1 } }).putJob n j).bump Reg.MERGE_FILL_CNT
      let order := s.reservedSlots ++ s.openSlots
      if s.byGroup mp then
        match commonSlots used order (groupChans mp) with
        | some l => (go s, used ++ l)
        | none => a
      else
        let c := mpChan mp
        match (if s.layout = 1 then none else s.readSlot c stroke 60) with
        | some p => ((go s).notePlaced c stroke p, used)
        | none => match order.find? (fun p => !used.contains (c, p)) with
          | some p => (go s, used ++ [(c, p)])
          | none => a

/-- Set the violation bits of the channels that fail C2, and count the lock (R34). -/
def State.violate (s : State) (l : List Nat) : State :=
  if l = [] then s
  else
    let lo := (l.filter (· < 32)).foldl (fun w c => Nat.lor w (2 ^ c)) (s.rd Reg.SCHED_CHAN_VIOL_LO_CHAN)
    let hi := (l.filter (32 ≤ ·)).foldl (fun w c => Nat.lor w (2 ^ (c - 32))) (s.rd Reg.SCHED_CHAN_VIOL_HI_CHAN)
    ((s.wr Reg.SCHED_CHAN_VIOL_LO_CHAN lo).wr Reg.SCHED_CHAN_VIOL_HI_CHAN hi).bump Reg.SCHED_C2_VIOL

/-- READ STATUS of the channels that owe one takes a drone slot ahead of class 1 (R91). -/
def State.lockStatus (s : State) : State × Used :=
  let l := (s.chans.filter (fun e => e.2.wantStatus)).map (·.1)
  let s := l.foldl (fun s c => s.emit (.fipen c 0 0 .readStatus)) s
  (s, l.filterMap (fun c => ((droneSlots s.layout).head?).map (fun p => (c, p))))

/-- Reads placed in the read slots of a stroke on a channel. -/
def State.placedIn (s : State) (stroke c : Nat) : List Job :=
  (s.sched.jobs.map (·.2)).filter (fun j => j.phase == .placed && j.stroke == stroke && mpChan j.mp == c)

/-- What a lock shows to the counters: read slots used and empty, drone slots used (Table 16-2). -/
def State.lockTele (s : State) (stroke : Nat) (used : Used) : State :=
  if s.telem.cfg = [] then s
  else (List.range 64).foldl (fun s c =>
    let l := s.placedIn stroke c
    let s := s.teleChan c 0x01 ((l.filter (fun j => j.why != .fill)).length)
    let s := if s.layout = 1 then s else s.teleChan c 0x02 (112 - l.length)
    s.teleChan c 0x03 ((used.filter (fun u => u.1 == c)).length)) s

/-- The read side of a plan lock. (DEDUCED, log entry 17). -/
def State.lockReads (s : State) (stroke : Nat) : State :=
  let (s, used) := s.lockStatus
  let capo := s.layout == 1 || s.sched.capoAsk == 2
  let (s, used) := (s.inPhase .reconWait).foldl (lockRecon stroke) (s, used)
  let (s, used) := (s.inPhase .retryWait).foldl (lockRetry stroke) (s, used)
  let a : LockAcc := ⟨s, used, s.sched.late⟩
  let a := if capo then a else (s.inPhase .wait).foldl (lockHeld stroke) a
  let a := if capo then a else (a.s.inPhase .groupWait).foldl (lockGroup stroke) a
  let (s, used) := a.s.merge.entries.foldl (lockFill stroke) (a.s, a.used)
  let s := (s.violate a.late).lockTele stroke used
  { s with sched := { s.sched with late := [] } }

/-! ### The lock: programs (R27, R153) -/

/-- Programs of one stroke placed so far, by channel, and pages whose drain has begun in it. -/
structure DrainAcc where
  s : State
  host : Tab Nat
  bg : Tab Nat
  stopped : List Nat
  pages : List Nat

/-- Background programs that wait for the share of their channel: refreshes (the wake patrol first) and write-backs. -/
def lockRewrite (stroke limit : Nat) (a : DrainAcc) (r : Rewrite) : DrainAcc :=
  let c := mpChan r.mp
  if limit ≤ a.bg.get 0 c + a.host.get 0 c || !a.s.exchangeFits r.mp stroke then a
  else
    let s := a.s.placeExchange .rewrite r.mp r.ln r.line stroke r.new
    { a with s := s, bg := a.bg.set 0 c (a.bg.get 0 c + 1) }

def lockRefresh (stroke limit : Nat) (a : DrainAcc) (mp : Nat) : DrainAcc :=
  let c := mpChan mp
  if limit ≤ a.bg.get 0 c + a.host.get 0 c || !a.s.chanUp c || !a.s.bankFree (mpBank mp) || (a.s.pages.find mp).isNone
      || a.s.dieFailed mp then a
  else { a with s := a.s.placePlain .refresh .refresh mp 0 stroke, bg := a.bg.set 0 c (a.bg.get 0 c + 1) }

/-- Place background programs up to a limit of programs on each channel. (DESIGN CHOICE, log entry 18). -/
def lockBackground (stroke limit : Nat) (a : DrainAcc) : DrainAcc :=
  if limit = 0 then a
  else
    let a := a.s.err.wake.foldl (lockRefresh stroke limit) a
    let a := a.s.err.rewrites.foldl (lockRewrite stroke limit) a
    let rs := a.s.err.rewrites.filter (fun r =>
      !a.s.ops.any (fun e => e.2.kind == .rewrite && e.2.mp == r.mp && e.2.ln == r.ln && e.2.new == r.new))
    let a := { a with s := { a.s with err := { a.s.err with rewrites := rs } } }
    a.s.err.refresh.foldl (lockRefresh stroke limit) a

/-- Age of an entry in strokes, from the start of its TIME unit. -/
def State.entryAge (s : State) (e : Entry) : Nat := 256 * s.unitsOld e.time + s.stroke % 256

/-- The device is urgent for an entry (R153). -/
def State.urgent (s : State) (e : Entry) : Bool :=
  (match e.chan with
    | some c => decide (s.chanL < 2 * s.chanDirty c)
    | none => false)
  || decide (s.budgetLines < 2 * s.dirtyLevel) || s.covered e || e.state == .pinned

/-- Older first; equal TIME by line (R153). -/
def State.drainBefore (s : State) (a b : Nat × Entry) : Bool :=
  decide (s.unitsOld b.2.time < s.unitsOld a.2.time) || (s.unitsOld a.2.time == s.unitsOld b.2.time && decide (a.1 < b.1))

/-- Put in the order of drains. -/
def State.drainPut (s : State) (e : Nat × Entry) : List (Nat × Entry) → List (Nat × Entry)
  | [] => [e]
  | x :: l => if s.drainBefore e x then e :: x :: l else x :: s.drainPut e l

def State.drainOrder (s : State) (l : List (Nat × Entry)) : List (Nat × Entry) := l.foldl (fun a e => s.drainPut e a) []

/-- A page's drain begins a lift (R117). -/
def State.lifts (s : State) (lpn : Nat) : Bool :=
  let t := s.tract (tractOfLpn lpn)
  s.bit Reg.XLAT_CFG_LIFT_EN && decide (s.rd Reg.XLAT_CFG_LIFT_THRESH ≤ s.merge.heat.get 0 lpn) && decide (s.pool ≤ 1)
    && t.state == .settled && !t.reloc

/-- Take a page append, if a pool page is there. -/
def DrainAcc.copy (a : DrainAcc) (why : CopyWhy) (lpn : Nat) : DrainAcc :=
  if a.s.pageBusy lpn || !a.s.bucketFor lpn then a
  else match a.s.beginCopy why lpn (a.s.readMp lpn) with
    | some s => { a with s := s, pages := addChan a.pages lpn }
    | none => a

/-- Place the exchange of an entry if it fits (R153). -/
def DrainAcc.inPlace (a : DrainAcc) (stroke line c mp : Nat) (e : Entry) : DrainAcc :=
  if !a.s.exchangeFits mp stroke then a
  else
    let lifted := match a.s.pages.find mp with
      | some p => p.lifted
      | none => false
    let s := a.s.placeExchange .drain mp (line % 64) line stroke (a.s.entryLine e lifted)
    { a with s := s.startDrain line e, host := a.host.set 0 c (a.host.get 0 c + 1), pages := addChan a.pages (lpnOf line) }

/-- A pinned entry of a page is retried when a place has appeared (R135). -/
def DrainAcc.retryPinned (a : DrainAcc) (line : Nat) (e : Entry) : DrainAcc :=
  let lpn := lpnOf line
  if (a.s.nextPoolPage true).isNone || a.s.pageBusy lpn then a
  else ({ a with s := a.s.putEntry line { e with state := .dirty } }).copy .drain lpn

/-- One entry in the order of R153. `limit`: host in-place writes of the stroke on a channel. -/
def lockDrain (stroke : Nat) (limit : Tab Nat → Nat → Nat) (a : DrainAcc) (x : Nat × Entry) : DrainAcc :=
  match a.s.entry x.1 with
  | none => a
  | some e =>
    let lpn := lpnOf x.1
    if e.state = .pinned then a.retryPinned x.1 e
    else if e.state ≠ .dirty || e.fillPend || a.s.integWaits x.1 then a
    else
      let young := decide (a.s.entryAge e < a.s.rd Reg.MERGE_CFG_MIN_AGE) && !a.s.urgent e
      match e.chan with
      | none =>
        if young || a.s.drainPath lpn ≠ .init then a
        else { a with s := (a.s.startMove (tractOfLpn lpn) .init).getD a.s }
      | some c =>
        if a.stopped.contains c || limit a.bg c ≤ a.host.get 0 c then a
        else if young then { a with stopped := a.stopped ++ [c] }
        else match a.s.drainPath lpn with
          | .hold => a
          | .init => a
          | .append => a.copy .drain lpn
          | .settleBack => { a with s := a.s.beginSettle lpn }
          | .inPlace mp =>
            if a.s.lifts lpn && !a.s.pageBusy lpn then
              (if a.s.bucketRoom lpn then a.copy .lift lpn
               else ({ a with s := a.s.bump Reg.XLAT_LIFT_FULL_CNT }).inPlace stroke x.1 c mp e)
            else if a.s.pageBusy lpn then a
            else a.inPlace stroke x.1 c mp e

/-- Heat of the pages whose drain has begun in the stroke; pages without resident lines lose theirs (R117). -/
def State.heatUp (s : State) (pages : List Nat) : State :=
  let h := pages.foldl (fun t p => t.set 0 p (min 15 (t.get 0 p + 1))) s.merge.heat
  { s with merge := { s.merge with heat := h.keep (fun p _ => s.merge.entries.any (fun e => lpnOf e.1 == p)) } }

/-- The program side of a plan lock. -/
def State.lockPrograms (s : State) (stroke : Nat) : State :=
  if s.layout = 1 || s.sched.capoAsk = 2 || s.capoHeld then s
  else
    let total := if s.layout = 2 then 15 else 30
    let a : DrainAcc := ⟨s.trimNodes, [], [], [], []⟩
    let a := if s.layout = 2 || s.pointActive then a else lockBackground stroke 5 a
    let order := s.drainOrder s.merge.entries
    let a := order.foldl (lockDrain stroke (fun bg c => total - bg.get 0 c)) a
    let a := if s.layout = 2 || 2 ≤ s.pool then lockBackground stroke total a else a
    (((a.s.heatUp a.pages).startEvac.startWear.startRekey).loadMoves).mergeCounts

/-! ### PLAN_LOCK -/

/-- SUSPEND to every running program-type operation, 64 CCLK before the boundary (R28); not in the capo layout (R39). -/
def State.suspendAll (s : State) : State :=
  if s.layout = 1 then s
  else
    let run := s.ops.filter (fun e => e.2.kind != .reserved && !e.2.suspended)
    let s := run.foldl (fun s e => s.emit (.fipen (e.1 / 64) (e.1 / 16 % 4) (e.1 % 16) .suspend)) s
    { s with ops := s.ops.mapVals (fun _ o => if o.kind == .reserved then o else { o with suspended := true }) }

/-- POOL_EXCL ends at the lock that follows the end of Orange (R41). -/
def State.exclEnd (s : State) : State :=
  if s.pool ≤ 1 then s.setBit Reg.SCHED_STATUS_POOL_EXCL false else s

/-- PLAN_LOCK (R29): the plan of the next stroke is locked. -/
def execPlanLock (s : State) : Host.Outcome State Fault Refusal :=
  done s (
    if s.stroke < s.sched.locked then s
    else
      let n := s.stroke + 1
      let s := if s.sched.capoAsk = 1 then { s with sched := { s.sched with capoAsk := 2 } } else s
      let s := s.exclEnd.suspendAll
      let s := (s.lockReads n).lockPrograms n
      ({ s with sched := { s.sched with locked := n } }).boundUpdate)

/-- PROGRAM_RESUME (R28): a suspended operation goes on. -/
def execProgramResume (bank : BankId) (s : State) : Host.Outcome State Fault Refusal :=
  done s (
    match s.ops.find (bankKey bank) with
    | none => s
    | some o =>
      if o.suspended then
        ({ s with ops := s.ops.put (bankKey bank) { o with suspended := false } }).emit
          (.fipen bank.chan bank.die bank.bank .resume)
      else s)

/-- SCHED_CNT_CLR (R42). -/
def execSchedCntClr (v : Word) (s : State) : Host.Outcome State Fault Refusal :=
  done s (if v.toNat % 2 = 1 then s.askClear .sched else s)

/-- SCHED_STROKE_LO_READ (R42): the low half is returned, and the high half latched. -/
def execSchedStrokeLoRead (s : State) : Host.Outcome State Fault Refusal :=
  done s ((s.wr Reg.SCHED_STROKE_HI_COUNT_HI (s.stroke / 2 ^ 32)).emit
    (.readValue Reg.SCHED_STROKE_LO_COUNT_LO.off (s.stroke % 2 ^ 32)))

/-! ### Results of media reads -/

/-- The result of a host read: integrity, read-cache fill, and the answer (R16, R149 to R151, R230). -/
def State.hostResult (s : State) (n : Nat) (j : Job) (rid : Nat) (r : MediaResult) (integ : IntegCheck) (class4 : Bool) :
    State :=
  let (s, r) := s.checkInteg j.line r integ
  let s := match r with
    | .good d => s.tryRcFill j.line (j.stroke / 2 ^ 14 % 1024) d j.stale class4
    | _ => s
  (s.dropJobNo n).deliverHost rid r.out.1 r.out.2

/-- First decode or retune retry of a host read (R82, R100). -/
def State.hostDecode (s : State) (n : Nat) (j : Job) (rid : Nat) (e : MediaErr) (integ : IntegCheck) (class4 : Bool) :
    State :=
  match s.decodeAt j.mp j.ln e with
  | .good d bits =>
    let s := if j.phase = .retry then s.byRetry j.line j.mp bits else s.noteCorr (mpChan j.mp) bits
    s.hostResult n j rid (.good d) integ class4
  | .poison => s.hostResult n j rid .poison integ class4
  | .failed =>
    if j.phase = .retry then s.putJob n { j with phase := .reconWait }
    else (s.putJob n { j with phase := .retryWait }).bump Reg.CHAN_RETRY_CNT 1 (mpChan j.mp)

/-- MEDIA_READ_COMPLETE (R82): the line of a first read or of a retry arrives. -/
def execMediaReadComplete (job t : Nat) (err : MediaErr) (integ : IntegCheck) (class4 : Bool) (s : State) :
    Host.Outcome State Fault Refusal :=
  done s (
    match s.sched.jobs.find job with
    | none => s
    | some j =>
      match j.why with
      | .fill => s
      | .host rid =>
        if (j.phase = .placed || j.phase = .retry) && decide (j.stroke ≤ s.stroke) then
          (s.leaveAt t).hostDecode job j rid err integ class4
        else s)

/-- RECONSTRUCTION_COMPLETE (R97): the line is rebuilt, written back or lost (R194). -/
def execReconstructionComplete (job t : Nat) (err : MediaErr) (integ : IntegCheck) (s : State) :
    Host.Outcome State Fault Refusal :=
  done s (
    match s.sched.jobs.find job with
    | none => s
    | some j =>
      match j.why with
      | .fill => s
      | .host rid =>
        if (j.phase = .recon || j.phase = .group) && decide (j.stroke ≤ s.stroke) then
          let (s, r) := (s.leaveAt t).reconRead j.line j.mp j.ln err 1 false (j.phase == .group)
          s.hostResult job j rid r integ true
        else s)

end Sys2Proof.Machine
end

