-- ==== Sys2Proof/Machine/ChanFamily.lean ====
section
/-! DEFINITION. The media channels (chapter Media Channels, Fipen Link and Courses): FIPEN_ALERT, READ_STATUS_RESPONSE,
READ_STATUS_NO_RESPONSE, FIPEN_TRAINING_STEP_LIMIT, FIPEN_TRAINING_COMPLETE, FAST_RETRAIN_COMPLETE, PROGRAM_COMPLETE,
EXCHANGE_OLD_LINE_RETURN, TOGGLE_COMPLETE, AGE_EPOCH_ADVANCE, EVACUATION_BLOCK_DONE and CHAN_CNT_CLR. -/

namespace Sys2Proof.Machine

/-! ### Keep page 1 (Table 13-4) -/

/-- The state page as it stands now. -/
def State.page1 (s : State) : PageData :=
  .state s.merge.marker (s.rd Reg.MERGE_DSC) s.xlat.seq s.xlat.sbe s.err.e s.stroke (s.rd Reg.ERR_CORR_PERS_CNT)

def State.savePage1 (s : State) : State := s.keepWrite 1 s.page1

/-! ### Reads that leave a channel (R33, R93) -/

/-- A read not yet issued becomes a reconstruction group when its die or channel cannot be read. -/
def toGroup (now : Nat) (gone : Nat → Bool) (j : Job) : Job :=
  if !gone j.mp || j.why = JobWhy.fill then j
  else match j.phase with
    | .wait => { j with phase := .groupWait }
    | .placed => if now ≤ j.stroke then { j with phase := .groupWait } else j
    | .retryWait => { j with phase := .groupWait }
    | .retry => if now ≤ j.stroke then { j with phase := .groupWait } else j
    | _ => j

def State.regroup (s : State) (now : Nat) (gone : Nat → Bool) : State :=
  let jobs := s.sched.jobs.mapVals (fun _ j => toGroup now gone j)
  { s with sched := { s.sched with jobs := jobs } }

/-! ### Abandoned operations (R19, R93, R154) -/

/-- Forget the reservation or toggle that belongs to an exchange. (DEDUCED, log entry 46). -/
def State.dropToggle (s : State) (o : BankOp) : State :=
  match s.ops.find (mpBank o.parity) with
  | some p =>
    if p.mp == o.parity && p.ln == o.ln && (p.kind == .reserved || p.kind == .toggle) then
      { s with ops := s.ops.del (mpBank o.parity) }
    else s
  | none => s

/-- An operation is abandoned by a full training or by the loss of its die: an exchange leaves its entry dirty, a toggle
becomes a parity rebuild, a write-back is placed again, and a refresh stays marked (R93). -/
def State.abandon (s : State) (b : Nat) (o : BankOp) : State :=
  match o.kind with
  | .drain => (({ s with ops := s.ops.del b }).dropToggle o).drainFailed o.line
  | .rewrite => (({ s with ops := s.ops.del b }).dropToggle o).askRewrite ⟨o.line, o.mp, o.ln, o.new⟩
  | .toggle => { s with ops := s.ops.put b { o with kind := .rebuild, suspended := false } }
  | .reserved => if o.delta.isSome then { s with ops := s.ops.put b { o with kind := .rebuild } } else s
  | .rebuild => s
  | .refresh => { s with ops := s.ops.del b }
  | .tagTime => { s with ops := s.ops.del b }

/-- A page append is given up: its lines are dirty again, its source stays. -/
def State.dropCopy (s : State) (c : Copy) : State :=
  let s := { s with xlat := { s.xlat with copies := s.xlat.copies.filter (fun x => x.lpn != c.lpn) } }
  c.carried.foldl (fun s l => s.drainFailed l) s

/-- A move forgets the stripe it has loaded: its lines are dirty again. -/
def State.unloadMove (s : State) (m : Move) : State :=
  let ms := s.xlat.moves.map (fun x => if x.tract == m.tract then { x with load := none, carried := [], failed := [] } else x)
  m.carried.foldl (fun s l => s.drainFailed l) { s with xlat := { s.xlat with moves := ms } }

/-- Everything that runs on some banks and pages is abandoned. -/
def State.abandonAll (s : State) (bank : Nat → Bool) (page : Nat → Bool) (blk : Nat → Bool) : State :=
  let s := (s.ops.filter (fun e => bank e.1)).foldl (fun s e => s.abandon e.1 e.2) s
  let s := (s.xlat.copies.filter (fun c => page c.dst)).foldl (fun s c => (s.dropCopy c).seal (mpSbn c.dst)) s
  (s.xlat.moves.filter (fun m => m.load.isSome && !m.committed && blk (s.moveDest m))).foldl (fun s m => s.unloadMove m) s

/-! ### Retraining (R93) and channel loss (R107) -/

/-- Suspend what runs on a channel. -/
def State.suspendChan (s : State) (c : Nat) : State :=
  { s with ops := s.ops.mapVals (fun b o => if b / 64 == c && o.kind != .reserved then { o with suspended := true } else o) }

/-- Start a fast retrain. -/
def State.fastRetrain (s : State) (c : Nat) : State :=
  if s.bit Reg.CHAN_STATUS_RETRAIN c || s.rd Reg.CHAN_STATUS_STATE c ≠ 2 then s
  else
    let s := (s.setBit Reg.CHAN_STATUS_RETRAIN true c).bump Reg.CHAN_RETRAIN_CNT 1 c
    let s := (s.setChan c { s.chan c with linkErrs := 0, full := false, restarts := 0 }).suspendChan c
    (s.emit (.fipen c 0 0 .train)).regroup (s.stroke + 1) (fun mp => mpChan mp == c)

/-- The record of a retrain (Table 13-8). -/
def State.retrainRecord (s : State) (c : Nat) (full failed : Bool) : State :=
  s.chronicle 0x0101 c 1 [c, if full then 1 else 0, if failed then 1 else 0]

/-- A full training follows a failed fast retrain; it abandons every operation of the stack. -/
def State.fullRetrain (s : State) (c : Nat) : State :=
  let s := (s.retrainRecord c false true).wr Reg.CHAN_STATUS_STATE 1 c
  let s := (s.bump Reg.CHAN_RETRAIN_CNT 1 c).setChan c { s.chan c with full := true, restarts := 0 }
  s.abandonAll (fun b => b / 64 == c) (fun mp => mpChan mp == c) (fun b => sbnCourse b == c / 8)

/-- A link error is counted; more than the limit in one sync epoch starts a fast retrain. -/
def State.linkError (s : State) (c n : Nat) : State :=
  if n = 0 then s
  else
    let s := (s.bump Reg.CHAN_LINK_ERR_CNT n c).setChan c { s.chan c with linkErrs := (s.chan c).linkErrs + n }
    if s.rd Reg.CHAN_G_CFG_LINK_ERR_LIMIT < (s.chan c).linkErrs then s.fastRetrain c else s

/-- A channel fails as a whole: every die of it is declared failed (R107). -/
def State.failChannel (s : State) (c : Nat) : State :=
  let s := ((s.wr Reg.CHAN_STATUS_STATE 3 c).setBit Reg.CHAN_STATUS_RETRAIN false c).setChan c
    { s.chan c with full := false, wantStatus := false }
  (List.range s.dies).foldl (fun s d => s.declareDie c d 4) s

/-- FIPEN_ALERT (R91). -/
def execFipenAlert (chan : Nat) (s : State) : Host.Outcome State Fault Refusal :=
  done s (
    if s.rd Reg.CHAN_STATUS_STATE chan = 2 then
      (s.setBit Reg.CHAN_STATUS_ALERT true chan).setChan chan { s.chan chan with wantStatus := true }
    else s)

/-! ### Program failures (R98, R133 to R135) -/

/-- Mark the reset block of a media page failed. -/
def State.failRb (s : State) (sbn pos : Nat) : State :=
  let k := s.block sbn
  s.setBlock sbn { k with failedRb := k.failedRb ||| BitVec.ofNat 8 (2 ^ (pos % 8)) }

/-- Queue the tract of a block for a move. -/
def State.queueBlock (s : State) (sbn : Nat) : State :=
  match (s.block sbn).tract with
  | some t => s.queueMove t
  | none => s

/-- Record a home slot failed (R135). -/
def State.failSlot (s : State) (mp : Nat) : State :=
  ({ s with xlat := { s.xlat with failedSlots := s.xlat.failedSlots.set false mp true } }).failRb (mpSbn mp) (mp % 8)

/-- Largest number of pinned lines: 64 MiB (R135). -/
def pinBudget : Nat := 1048576

def State.pinnedLines (s : State) : Nat := (s.merge.entries.filter (fun e => e.2.state == .pinned)).length

/-- Poison is written in place of a line that can be neither placed nor pinned (R135, steps 3 and 4). -/
def State.writePoisoned (s : State) (line mp : Nat) : State :=
  let s := ((s.dropEntry line).rewritePoison line mp (line % 64)).dirtyLost line
  (s.bump Reg.XLAT_POISON_WR_CNT).mergeCounts

/-- In Red, with no page of an open hot block: a substitute is queued for precondition, else the line is pinned, or
written poisoned (R135). -/
def State.pinOrPoison (s : State) (line mp : Nat) : State :=
  if s.pool ≠ 3 || (s.nextPoolPage true).isSome then s
  else match s.entry line with
    | none => s
    | some e =>
      match (List.range 8).findSome? s.substitute with
      | some b => (s.retireOrQueue b).poolCounts
      | none =>
      if s.pinnedLines < pinBudget then
        ((s.putEntry line { e with state := .pinned }).bump Reg.XLAT_PIN_CNT).mergeCounts
      else s.writePoisoned line mp

/-- An exchange fails verify (Table 5-10, R135): no delta is sent. The poison pattern counts as written whether or not it
verified. -/
def State.exchangeFailed (s : State) (b : Nat) (o : BankOp) : State :=
  if o.kind = .rewrite && o.new.poison then (s.failRb (mpSbn o.mp) (o.mp % 8)).queueBlock (mpSbn o.mp)
  else
    let s := ({ s with ops := s.ops.del b }).dropToggle o
    let s := (s.failSlot o.mp).queueBlock (mpSbn o.mp)
    if o.kind = .drain then (s.drainFailed o.line).pinOrPoison o.line o.mp else s

/-- A toggle fails: issued once more; the second time its delta stays open and the parity line is marked failed. -/
def State.toggleFailed (s : State) (b : Nat) (o : BankOp) : State :=
  if !o.retried then { s with ops := s.ops.put b { o with retried := true } }
  else
    let ds := match o.delta with
      | some d =>
        if s.deltas.any (fun x => x.mp == o.mp && x.ln == o.ln) then
          s.deltas.map (fun x => if x.mp == o.mp && x.ln == o.ln then { x with stuck := true } else x)
        else s.deltas ++ [{ mp := o.mp, ln := o.ln, delta := d, stuck := true }]
      | none => s.deltas
    let s := { s with ops := s.ops.del b, deltas := ds
                      xlat := { s.xlat with badParity := addChan s.xlat.badParity (128 * o.mp + o.ln) } }
    s.queueBlock (mpSbn o.mp)

/-- An append of a pool page fails (R133): the block is sealed and the page is appended elsewhere. -/
def State.copyFailed (s : State) (c : Copy) : State :=
  let s := ((s.failRb (mpSbn c.dst) (c.dst % 8)).seal (mpSbn c.dst)).bump Reg.XLAT_COPY_FAIL_CNT
  match s.nextPoolPage (c.why != .reclaim) with
  | none => s.dropCopy c
  | some (s, dst) =>
    let tag := c.page.tag.map (fun g => { g with epoch := (s.block (mpSbn dst)).epoch })
    let c' := { c with dst := dst, page := { c.page with tag := tag } }
    let cs := s.xlat.copies.map (fun x => if x.lpn == c.lpn then c' else x)
    { s with xlat := { s.xlat with copies := cs } }

/-- Slot of a channel position in a stripe: 0 to 6, or 7 for parity. -/
def slotAt (sbn stripe pos : Nat) : Nat :=
  ((List.range 7).find? (fun k => dataPos sbn stripe k == pos)).getD 7

/-- A page of a move's stripe fails (R134). -/
def State.moveFailed (s : State) (m : Move) (pos : Nat) : State :=
  let t := s.tract m.tract
  let k := slotAt t.sb t.ptr pos
  let ms := s.xlat.moves.map (fun x => if x.tract == m.tract then
    { x with failed := addChan x.failed k, again := true } else x)
  ({ s with xlat := { s.xlat with moves := ms } }).failRb t.sb pos |>.bump Reg.XLAT_COPY_FAIL_CNT

/-- A failed append: of a pool page, or of a move's stripe. -/
def State.appendFailed (s : State) (mp : Nat) : State :=
  match s.xlat.copies.find? (fun c => c.dst == mp) with
  | some c => s.copyFailed c
  | none =>
    match s.xlat.moves.find? (fun m => m.load.isSome && !m.committed && s.moveDest m == mpSbn mp
        && (s.tract m.tract).ptr == mpStripe mp) with
    | some m => s.moveFailed m (mp % 8)
    | none => s

/-- A refresh fails: the page is rewritten line by line by exchange, each with a zero delta (Table 5-10). -/
def State.refreshFailed (s : State) (b : Nat) (o : BankOp) : State :=
  let s := { s with ops := s.ops.del b
                    err := { s.err with refresh := s.err.refresh.filter (· != o.mp), wake := s.err.wake.filter (· != o.mp) } }
  (List.range 64).foldl (fun s ln => match s.mline o.mp ln with
    | some l => s.askRewrite ⟨0, o.mp, ln, { l with age := s.ageNow }⟩
    | none => s) s

/-- A program fails verify (R98), as READ STATUS bytes 16 to 19 name it. -/
def State.programFailed (s : State) (chan die bank row opcode : Nat) : State :=
  let b := 64 * chan + 16 * die + bank
  let sbn := 131072 * (chan / 8) + 32768 * die + 2048 * bank + row / 256
  match opcode with
  | 6 => s.appendFailed (mpOf sbn (row % 256) (chan % 8))
  | 8 => s.failRb sbn (chan % 8)
  | _ => match s.ops.find b with
    | none => s
    | some o => match o.kind with
      | .drain => s.exchangeFailed b o
      | .rewrite => s.exchangeFailed b o
      | .tagTime => s.exchangeFailed b o
      | .toggle => s.toggleFailed b o
      | .rebuild => s.toggleFailed b o
      | .refresh => s.refreshFailed b o
      | .reserved => s

/-- Word of `CHAN_LAST_FAIL`: READ STATUS bytes 16 to 19 (Table 5-7). -/
def lastFailWord (st : StatusLine) : Nat :=
  st.failDie % 4 + 4 * (st.failBank % 16) + 64 * (st.failRow % 2 ^ 19) + 2 ^ 25 * (st.failOpcode % 32)

/-- A verify failure is counted for its channel and die (Table 5-11), and handled. -/
def State.verifyFailure (s : State) (c : Nat) (st : StatusLine) : State :=
  let d := st.failDie % 4
  let s := (s.bump Reg.CHAN_VERIFY_FAIL_CNT 1 c).wr Reg.CHAN_LAST_FAIL_OP (lastFailWord st) c
  let x := s.chan c
  let s := s.setChan c { x with verifyFails := bumpDie x.verifyFails d }
  let s := if s.rd Reg.CHAN_G_CFG_VERIFY_FAIL_LIMIT < (s.chan c).verifyFails.getD d 0 then s.declareDie c d 3 else s
  s.programFailed c d (st.failBank % 16) (st.failRow % 2 ^ 19) (st.failOpcode % 32)

/-- READ_STATUS_RESPONSE (R91, Table 5-7). -/
def execReadStatusResponse (chan : Nat) (st : StatusLine) (s : State) : Host.Outcome State Fault Refusal :=
  done s (
    if !(s.chan chan).wantStatus then s
    else
      let s := s.setChan chan { s.chan chan with wantStatus := false, noReply := 0, banks := st.banksLoaded }
      let s := (s.setBit Reg.CHAN_STATUS_ALERT false chan).wr Reg.CHAN_TEMP_DIE_TEMP st.temps.toNat chan
      let s := (List.range s.dies).foldl (fun s d => if st.faultMask.getLsbD d then s.declareDie chan d 1 else s) s
      let s := if st.causes.getLsbD 2 then s.verifyFailure chan st
        else if st.causes.getLsbD 5 then
          (s.wr Reg.CHAN_LAST_FAIL_OP (lastFailWord st) chan).programFailed chan (st.failDie % 4) (st.failBank % 16)
            (st.failRow % 2 ^ 19) (st.failOpcode % 32)
        else s
      s.linkError chan ((if st.causes.getLsbD 0 then 1 else 0) + (if st.causes.getLsbD 1 then 1 else 0)))

/-- READ_STATUS_NO_RESPONSE (R107): the third in a row fails the channel. -/
def execReadStatusNoResponse (chan : Nat) (s : State) : Host.Outcome State Fault Refusal :=
  done s (
    let x := s.chan chan
    if !x.wantStatus then s
    else
      let s := s.setChan chan { x with noReply := x.noReply + 1 }
      if 3 ≤ x.noReply + 1 then s.failChannel chan else s)

/-- CHAN_CNT_CLR (R108). -/
def execChanCntClr (chan : Nat) (v : Word) (s : State) : Host.Outcome State Fault Refusal :=
  done s (if v.toNat % 2 = 1 && decide (chan < 64) then s.askClear (.chan chan) else s)

/-! ### Training (R92) -/

/-- A training runs at start-up: rail 12 is good and step 5 has not ended. -/
def State.startTraining (s : State) : Bool := s.isSeq .on && !s.start.step5 && !s.start.stopped

/-- FIPEN_TRAINING_STEP_LIMIT (R92, R93): the channel restarts from step 1; the third failure is final.
(DEDUCED, log entry 47). -/
def execFipenTrainingStepLimit (chan _step : Nat) (s : State) : Host.Outcome State Fault Refusal :=
  done s (
    let x := s.chan chan
    if s.startTraining then
      (if 3 ≤ x.restarts then s
       else (s.setChan chan { x with restarts := x.restarts + 1 }).wr Reg.CHAN_STATUS_STATE
         (if 3 ≤ x.restarts + 1 then 0 else 1) chan)
    else if s.bit Reg.CHAN_STATUS_RETRAIN chan then
      (if !x.full then s.fullRetrain chan
       else if 3 ≤ x.restarts + 1 then (s.retrainRecord chan true true).failChannel chan
       else s.setChan chan { x with restarts := x.restarts + 1 })
    else s)

/-- FAST_RETRAIN_COMPLETE (R93). -/
def execFastRetrainComplete (chan : Nat) (ok : Bool) (s : State) : Host.Outcome State Fault Refusal :=
  done s (
    if !s.bit Reg.CHAN_STATUS_RETRAIN chan || (s.chan chan).full then s
    else if ok then
      let s := (s.setBit Reg.CHAN_STATUS_RETRAIN false chan).retrainRecord chan false false
      { s with ops := s.ops.mapVals (fun b o => if b / 64 == chan then { o with suspended := false } else o) }
    else s.fullRetrain chan)

/-- A result of the training of one channel is recorded. -/
def State.trained (s : State) (r : TrainResult) : State :=
  let c := r.chan
  if !r.answered || 3 ≤ (s.chan c).restarts then (s.wr Reg.CHAN_STATUS_STATE 0 c).wr Reg.CHAN_STATUS_DIES 0 c
  else
    let s := ((s.wr Reg.CHAN_STATUS_STATE 2 c).wr Reg.CHAN_STATUS_DIES r.dies c).wr Reg.CHAN_TRAIN_VALUES r.values.toNat c
    let s := (s.wr Reg.CHAN_SERIAL_LO_SERIAL r.serial.toNat c).wr Reg.CHAN_SERIAL_HI_SERIAL (r.serial.toNat / 2 ^ 32) c
    s.setChan c { s.chan c with restarts := 0, banks := 1, rev := r.revision }

/-- The result of a channel; a channel without one has not answered. -/
def resultOf (l : List TrainResult) (c : Nat) : TrainResult :=
  (l.find? (fun r => r.chan == c)).getD ⟨c, false, 0, 0, 0, 0⟩

/-- Does a channel answer, and with which die count (0: none). -/
def State.answeredDies (s : State) (c : Nat) : Nat :=
  if s.rd Reg.CHAN_STATUS_STATE c = 2 then s.rd Reg.CHAN_STATUS_DIES c else 0

/-- Channels that report a die count. -/
def State.reporting (s : State) (n : Nat) : Nat := ((List.range 64).filter (fun c => s.answeredDies c == n)).length

/-- The reference count: most channels, and among equals the count of the lowest channel; 0: none answers (R2). -/
def State.refDies (s : State) : Nat :=
  (List.range 64).foldl (fun best c =>
    let n := s.answeredDies c
    if n ≠ 0 && (best == 0 || decide (s.reporting best < s.reporting n)) then n else best) 0

/-- Serial number recorded for a channel (pages 8 to 10, 30 channels each). -/
def State.keptSerial (s : State) (c : Nat) : Option (BitVec 64) :=
  match s.keep.shadow.find (8 + c / 30) with
  | some (.serials l) => l[c % 30]?
  | _ => none

/-- Serial number a channel has reported. -/
def State.serialOf (s : State) (c : Nat) : BitVec 64 :=
  BitVec.ofNat 64 (s.rd Reg.CHAN_SERIAL_LO_SERIAL c + 2 ^ 32 * s.rd Reg.CHAN_SERIAL_HI_SERIAL c)

/-- A stack other than the one recorded for its channel (R107). (DEDUCED, log entry 134). -/
def State.strange (s : State) (c : Nat) : Bool :=
  match s.keptSerial c with
  | some x => x != s.serialOf c
  | none => false

/-- The first disagreeing channel with why: 0 no answer, 1 die count, 2 serial number (R2, R107). -/
def State.disagreement (s : State) : Option (Nat × Nat) :=
  let ref := s.refDies
  (List.range 64).findSome? (fun c =>
    if s.answeredDies c = 0 then some (c, 0)
    else if s.answeredDies c ≠ ref then some (c, 1)
    else if s.strange c then some (c, 2) else none)

/-- Record the serial numbers at a first start (Table 13-4). (DESIGN CHOICE, log entry 49). -/
def State.saveSerials (s : State) : State :=
  if (s.keptSerial 0).isSome then s
  else [0, 1, 2].foldl (fun s k =>
    s.keepWrite (8 + k) (.serials (((List.range 30).map (fun i => 30 * k + i)).filter (· < 64) |>.map s.serialOf))) s

/-- Page 0, written at the first start: operating time and stack type (Table 13-4). -/
def State.writeHeader (s : State) : State :=
  if s.start.first && (s.keep.shadow.find 0).isNone then s.keepWrite 0 (.header s.keep.optime.value (s.rd Reg.TOP_STATUS_STACK))
  else s

/-- Stack type by die count: 1 IL1S, 2 IL2S, 3 IL4S. -/
def stackType (dies : Nat) : Nat := if dies = 1 then 1 else if dies = 2 then 2 else 3

/-- The ROM base set (R40): conservative timing, drift tables with the shipping T_AGE; IMAGE_CLASS family 0x81, revision 0x00 (R349). -/
def baseSet : Img := { arrayRead := 150, suspend := 40, cls := 0x8100 }

/-- Recovery mode: the base set is loaded; its layout comes at the next stroke boundary (R40, R267, R268). -/
def State.enterRecovery (s : State) : State :=
  let s := { s with img := baseSet }
  s.setBit Reg.TOP_STATUS_RECOVERY true

/-- The first base die revision reported that an image carries no tables for (R268); an unused entry is 0.
(DESIGN CHOICE, log entry 62). -/
def State.dieRefused (s : State) (types : List Nat) : Option Nat :=
  (List.range 64).findSome? (fun c =>
    let r := (s.chan c).rev
    if r != 0 && types.contains r then none else some r)

/-- An image does not fit the stacks (R268): compact with IL4S, or without tables for a die type reported. -/
def State.imageRefused (s : State) (compact : Bool) (types : List Nat) : Bool :=
  (compact && s.dies == 4) || (s.dieRefused types).isSome

/-- The image check at step 5 (R268): a refused image is replaced by the base set. -/
def State.imageCheck (s : State) : State :=
  if s.bit Reg.TOP_STATUS_RECOVERY then s
  else if s.imageRefused s.img.compact s.img.dieTypes then
    let die := (s.dieRefused s.img.dieTypes).getD (s.chan 0).rev
    ((s.enterRecovery).chronicle 0x0701 0x50 2 [die % 256]).chronicle 0x0905 0x50 2 [6]
  else s

/-- Dies recorded as failed in the keep are failed from the start (R103). -/
def State.restoreFailed (s : State) : State :=
  s.failedKept.foldl (fun s e =>
    if e.2 then
      (s.wr Reg.CHAN_STATUS_DIE_FAILED (Nat.lor (s.rd Reg.CHAN_STATUS_DIE_FAILED (e.1 / 4)) (2 ^ (e.1 % 4))) (e.1 / 4)).wr
        Reg.CHAN_G_FAILED_DIES (Nat.lor (s.rd Reg.CHAN_G_FAILED_DIES 0 (e.1 / 32)) (2 ^ (e.1 % 32))) 0 (e.1 / 32)
    else s) s

/-- End of step 5 (Table 12-1). (DEDUCED, log entry 86). -/
def State.trainingEnd (s : State) : State :=
  match s.disagreement with
  | some (c, why) =>
    let s := { s with start := { s.start with stopped := true } }
    s.chronicle 0x0100 c 3 [c, why, s.refDies]
  | none =>
    let n := s.refDies
    let s := (s.wr Reg.TOP_CAPACITY_UNITS (6144 * n)).wr Reg.TOP_STATUS_STACK (stackType n)
    let s := (((s.writeHeader).saveSerials.flash).imageCheck).restoreFailed
    let s := if s.bit Reg.TOP_STATUS_RECOVERY then { s with sched := { s.sched with back := some 2 } } else s
    { s with start := { s.start with step5 := !s.prot.testAccess, stopped := s.prot.testAccess } }

/-- A full training in operation ends (R93, R107). -/
def State.retrained (s : State) (r : TrainResult) : State :=
  let c := r.chan
  if !(s.chan c).full then s
  else if r.answered then
    let s := (((s.wr Reg.CHAN_STATUS_STATE 2 c).setBit Reg.CHAN_STATUS_RETRAIN false c).wr Reg.CHAN_TRAIN_VALUES r.values.toNat
      c).setChan c { s.chan c with full := false, restarts := 0, linkErrs := 0 }
    s.retrainRecord c true false
  else (s.retrainRecord c true true).failChannel c

/-- FIPEN_TRAINING_COMPLETE (R92): at start-up of all 64 channels, once step 2 has ended; in operation of the channels that
train in full. -/
def execFipenTrainingComplete (results : List TrainResult) (s : State) : Host.Outcome State Fault Refusal :=
  done s (
    if s.startTraining then
      (if s.start.step2 then ((List.range 64).foldl (fun s c => s.trained (resultOf results c)) s).trainingEnd else s)
    else results.foldl (fun s r => s.retrained r) s)

/-! ### Ends of programs -/

/-- Is a toggle, or its reservation, of this exchange still ahead. -/
def State.toggleAhead (s : State) (o : BankOp) : Bool :=
  match s.ops.find (mpBank o.parity) with
  | some p => p.mp == o.parity && p.ln == o.ln && (p.kind == .reserved || p.kind == .toggle)
  | none => false

/-- An exchange has verified: the line is on the medium, its delta is open until the toggle completes (R97). -/
def State.exchanged (s : State) (b : Nat) (o : BankOp) : State :=
  let s := (({ s with ops := s.ops.del b }).setMline o.mp o.ln o.new).wear (mpSbn o.mp) 1
  let s := { s with err := { s.err with rewrites := s.err.rewrites.filter (fun r => !(r.mp == o.mp && r.ln == o.ln)) } }
  let s := match o.delta with
    | some d =>
      if s.toggleAhead o then
        let x : OpenDelta := { mp := o.parity, ln := o.ln, delta := d }
        { s with deltas := s.deltas ++ [x] }
      else s
    | none => s
  if o.kind = .drain then s.drainVerified o.line else s

/-- A page has been refreshed: every line carries the age of now; its tag's TIME follows by exchange (R206). -/
def State.refreshed (s : State) (b : Nat) (o : BankOp) : State :=
  let s := match s.pages.find o.mp with
    | some p =>
      let p' : MPage := { p with age := s.ageNow, lines := p.lines.mapVals (fun _ (l : MLine) => { l with age := s.ageNow }) }
      { s with pages := s.pages.put o.mp p' }
    | none => s
  let s := { s with err := { s.err with refresh := s.err.refresh.filter (· != o.mp), wake := s.err.wake.filter (· != o.mp) } }
  let s := ((s.tele 13 0x08 (mpChan o.mp / 8)).bump Reg.ERR_REFRESH_CNT).wear (mpSbn o.mp) 65
  let o' : BankOp := { o with kind := .tagTime, ln := 64, stroke := s.stroke, suspended := false }
  { s with ops := s.ops.put b o' }

/-- TIME of a page's tag (Table 6-6). -/
def State.tagged (s : State) (b : Nat) (o : BankOp) : State :=
  let s := { s with ops := s.ops.del b }
  match s.pages.find o.mp with
  | some p =>
    let tag := p.tag.map (fun g => { g with time := s.tagTime })
    { s with pages := s.pages.put o.mp { p with tag := tag } }
  | none => s

/-- PROGRAM_COMPLETE (R89): the program time has run and the operation verifies. -/
def execProgramComplete (bank : BankId) (s : State) : Host.Outcome State Fault Refusal :=
  done s (
    let b := bankKey bank
    match s.ops.find b with
    | none => s
    | some o =>
      if o.suspended || decide (s.stroke < o.stroke) then s
      else match o.kind with
        | .drain => if o.returned then s.exchanged b o else s
        | .rewrite => if o.returned then s.exchanged b o else s
        | .refresh => s.refreshed b o
        | .tagTime => s.tagged b o
        | _ => s)

/-- The reservation of an exchange takes its delta: a zero delta frees it, an uncorrectable old line makes it a parity
rebuild (R96). -/
def State.setDelta (s : State) (o : BankOp) (d : Option Lin) : State :=
  let b := mpBank o.parity
  match s.ops.find b with
  | none => s
  | some p =>
    if !(p.kind == .reserved && p.mp == o.parity && p.ln == o.ln) then s
    else match d with
      | some x => if x = Lin.zero then { s with ops := s.ops.del b }
                  else { s with ops := s.ops.put b { p with delta := some x } }
      | none => { s with ops := s.ops.put b { p with kind := .rebuild } }

/-- EXCHANGE_OLD_LINE_RETURN (R96): the old line is decoded and the delta formed. -/
def execExchangeOldLineReturn (bank : BankId) (err : MediaErr) (s : State) : Host.Outcome State Fault Refusal :=
  done s (
    let b := bankKey bank
    match s.ops.find b with
    | none => s
    | some o =>
      if !(o.kind == .drain || o.kind == .rewrite) || o.returned || decide (s.stroke < o.stroke) then s
      else
        let old := (s.mline o.mp o.ln).bind (fun l => correctedLin l err)
        let d := old.map (fun l => l.xor o.new.lin)
        let s := if old.isSome then s.noteCorr bank.chan (err.linear + err.metaBits) else s
        ({ s with ops := s.ops.put b { o with delta := d, returned := true } }).setDelta o d)

/-- XOR of the current data lines of a stripe line, running exchanges taken as made (R96). -/
def State.dataXor (s : State) (par ln : Nat) : Lin :=
  (mpOthers par).foldl (fun a mp =>
    match s.ops.find (mpBank mp) with
    | some o =>
      if (o.kind == .drain || o.kind == .rewrite) && o.mp == mp && o.ln == ln && o.delta.isNone then a.xor o.new.lin
      else a.xor ((s.mline mp ln).getD {}).lin
    | none => a.xor ((s.mline mp ln).getD {}).lin) Lin.zero

/-- Program the parity line (R96): AGE of now, POISON and LIFTED clear. -/
def State.setParity (s : State) (mp ln : Nat) (l : Lin) : State :=
  (s.setMline mp ln { lin := l, age := s.ageNow }).wear (mpSbn mp) 1

/-- Take one delta out of the open-delta table. -/
def dropDelta (l : List OpenDelta) (mp ln : Nat) (d : Lin) : List OpenDelta :=
  match l with
  | [] => []
  | x :: r => if x.mp = mp ∧ x.ln = ln ∧ x.delta = d ∧ !x.stuck then r else x :: dropDelta r mp ln d

/-- TOGGLE_COMPLETE (R97): the delta is in parity; a rebuilt parity line is the XOR of its data lines. -/
def execToggleComplete (bank : BankId) (s : State) : Host.Outcome State Fault Refusal :=
  done s (
    let b := bankKey bank
    match s.ops.find b with
    | none => s
    | some o =>
      if o.suspended || decide (s.stroke < o.stroke) then s
      else
        let t := { s with ops := s.ops.del b }
        match o.kind, o.delta with
        | .toggle, some d =>
          let t := t.setParity o.mp o.ln (((s.mline o.mp o.ln).getD {}).lin.xor d)
          { t with deltas := dropDelta t.deltas o.mp o.ln d }
        | .rebuild, _ =>
          let t := t.setParity o.mp o.ln (s.dataXor o.mp o.ln)
          { t with deltas := t.deltas.filter (fun x => !(x.mp == o.mp && x.ln == o.ln && !x.stuck)) }
        | _, _ => s)

/-! ### Age and evacuation -/

/-- AGE_EPOCH_ADVANCE (R99, R102): after T_AGE strokes of powered operation, but not while the wake patrol runs. -/
def execAgeEpochAdvance (s : State) : Host.Outcome State Fault Refusal :=
  done s (
    if s.err.ageStrokes < s.img.tAge || s.bit Reg.CHAN_G_AGE_WAKE then s
    else
      let s := { s with err := { s.err with e := s.err.e + 1, ageStrokes := s.err.ageStrokes - s.img.tAge } }
      ((s.wr Reg.CHAN_G_AGE_EPOCH s.err.e).savePage1).flash)

/-- Evacuation registers, and the record of its end (R105, Table 13-8). -/
def State.evacCounts (s : State) : State :=
  (s.wr Reg.CHAN_G_EVAC_STATUS_REMAINING s.xlat.evac.length).setBit Reg.CHAN_G_EVAC_STATUS_ACTIVE (s.xlat.evac != [])

/-- The data of a queued block has moved. -/
def State.evacuated (s : State) (b : Nat) : Bool :=
  let k := s.block b
  k.pool == .retired || k.pool == .awaiting || k.pool == .free
    || ((k.pool == .hot || k.pool == .cold) && k.valid == 0)

/-- EVACUATION_BLOCK_DONE (R105): the block is retired. -/
def execEvacuationBlockDone (sbn : Nat) (s : State) : Host.Outcome State Fault Refusal :=
  done s (
    if !s.xlat.evac.contains sbn || !s.evacuated sbn then s
    else
      let k := s.block sbn
      let s := s.setBlock sbn { k with pool := .retired, tract := none }
      let s := { s with xlat := { s.xlat with evac := s.xlat.evac.filter (· != sbn)
                                              opens := s.xlat.opens.keep (fun _ o => o.sbn != sbn) } }
      let s := (s.evacCounts).poolCounts
      if s.xlat.evac = [] then s.chronicle 0x0103 0x49 0 (1 :: leBytes 4 0) else s)

end Sys2Proof.Machine
end

