-- ==== Sys2Proof/Machine/XlatFamily.lean ====
section
/-! DEFINITION. Translation and placement in operation (chapter Translation, Placement and Reclaim): MOVE_STRIPE_COMMIT,
LIFT_VERIFY, HEAT_HALVING, SETTLE_BACK_WALK, SETTLE_BACK_COMMIT, RECLAIM, RECLAIM_COPY_COMMIT, PRECONDITION_COMPLETE,
POOL_FILL_TIMEOUT, BLOCK_RECORD_CHECKPOINT, FREE_BLOCK_REPRECONDITION, XLAT_MAP_IDX_WRITE, XLAT_SEQ_LO_READ and
XLAT_CNT_CLR. -/

namespace Sys2Proof.Machine

/-! ### Moves (R130, R134) -/

/-- Put a changed move back. -/
def State.putMove (s : State) (m : Move) : State :=
  { s with xlat := { s.xlat with moves := s.xlat.moves.map (fun x => if x.tract == m.tract then m else x) } }

/-- Enter a stripe in the DEGRADED list; a ninth one marks every stripe of the block (R134). -/
def State.degrade (s : State) (sbn stripe : Nat) : State :=
  let k := s.block sbn
  if k.degraded.contains stripe then s
  else if k.degraded.length < 8 then s.setBlock sbn { k with degraded := k.degraded ++ [stripe] }
  else s.setBlock sbn { k with degraded := List.range 256 }

/-- Logical page of a data slot of the stripe at PTR. -/
def State.moveLpn (s : State) (m : Move) (k : Nat) : Nat := lpnAt m.tract (s.tract m.tract).ptr k

/-- A failed data page of a move stripe is appended as a lifted page; none when the hot pool has no page (R134). A filler
page, and a page that already has a fluid entry, needs no append. (DEDUCED, log entry 53). -/
def State.liftFailed (s : State) (m : Move) (pages : List MPage) (k : Nat) : Option State :=
  let lpn := s.moveLpn m k
  let t := s.tract m.tract
  let home := mpOf t.sb t.ptr (dataPos t.sb t.ptr k)
  let s := { s with xlat := { s.xlat with failedSlots := s.xlat.failedSlots.set false home true } }
  if s.beyond lpn || (s.xlat.fluid.find lpn).isSome then some s
  else if !s.bucketRoom lpn then none
  else match pages[k]?, s.nextPoolPage true with
    | some p, some (s, dst) =>
      let (s, q) := s.takeSeq
      let page := s.newPage lpn .hot (s.block (mpSbn dst)).epoch q p.line
      some ((s.programPage dst page).setFluid lpn dst true)
    | _, _ => none

/-- Append every failed data page of a stripe. -/
def State.liftAllFailed (s : State) (m : Move) (pages : List MPage) : List Nat → Option State
  | [] => some s
  | k :: r => match s.liftFailed m pages k with
    | some t => t.liftAllFailed m pages r
    | none => none

/-- The stripe at PTR is on the medium: its merged lines become settling copies (R130). -/
def State.commitStripe (s : State) (m : Move) (pages : List MPage) : State :=
  let t := s.tract m.tract
  let s := s.programStripe t.sb t.ptr pages m.failed
  let s := if m.failed = [] then s else s.degrade t.sb t.ptr
  let s := (s.tele 13 0x06 (sbnCourse t.sb)).putMove { m with committed := true, carried := [] }
  m.carried.foldl (fun s l => s.drainVerified l) s

/-- MOVE_STRIPE_COMMIT (R130, R134): all eight pages verify; PTR advances at the next stroke boundary. -/
def execMoveStripeCommit (tract : Nat) (s : State) : Host.Outcome State Fault Refusal :=
  done s (
    match s.xlat.moves.find? (fun m => m.tract == tract) with
    | none => s
    | some m =>
      match m.load with
      | none => s
      | some pages =>
        if m.committed then s
        else match s.liftAllFailed m pages (m.failed.filter (· < 7)) with
          | none => s
          | some t => t.commitStripe m pages)

/-- The last stripe has committed: the tract is Settled, and its source is queued for precondition or retired (R130). -/
def State.endMove (s : State) (m : Move) : State :=
  let t := s.tract m.tract
  let s := s.setTract m.tract { t with state := .settled, src := 0, ptr := 0, zeroSrc := false }
  let s := if t.zeroSrc then s else s.retireOrQueue t.src
  let s := { s with xlat := { s.xlat with moves := s.xlat.moves.filter (fun x => x.tract != m.tract) } }
  let s := (s.bump Reg.XLAT_RELOC_CNT).retarget m.tract
  (if m.again then s.queueMove m.tract else s).poolCounts

/-- PTR of a move whose stripe has committed advances (R114, R130). -/
def State.advanceMove (s : State) (m : Move) : State :=
  if !m.committed then s
  else
    let t := s.tract m.tract
    if 255 ≤ t.ptr then s.endMove m
    else
      let s := s.setTract m.tract { t with ptr := t.ptr + 1 }
      (s.putMove { m with load := none, carried := [], failed := [], committed := false }).retarget m.tract

/-! ### Page appends (R117, R120, R128) -/

/-- The stripe of a destination has its seven data pages gathered, so that it is appended (R125).
(DEDUCED, log entry 54). -/
def State.stripeGathered (s : State) (mp : Nat) : Bool := decide (7 * (mpStripe mp + 1) ≤ (s.block (mpSbn mp)).fill)

/-- A page append ends. -/
def State.endCopy (s : State) (c : Copy) : State :=
  { s with xlat := { s.xlat with copies := s.xlat.copies.filter (fun x => x.lpn != c.lpn) } }

/-- LIFT_VERIFY (R117): the appended page verifies, and the fluid entry is written. -/
def execLiftVerify (lpn : Nat) (s : State) : Host.Outcome State Fault Refusal :=
  done s (
    match s.xlat.copies.find? (fun c => c.lpn == lpn && c.why != .reclaim) with
    | none => s
    | some c =>
      if !s.stripeGathered c.dst then s
      else
        let s := (s.endCopy c).programPage c.dst c.page
        let s := s.setFluid lpn c.dst true
        c.carried.foldl (fun s l => s.drainVerified l) s)

/-- RECLAIM_COPY_COMMIT (R128): commits only if the fluid entry still names the source. (DEDUCED, log entry 51). -/
def execReclaimCopyCommit (lpn : Nat) (s : State) : Host.Outcome State Fault Refusal :=
  done s (
    match s.xlat.copies.find? (fun c => c.lpn == lpn && c.why == .reclaim) with
    | none => s
    | some c =>
      if !s.stripeGathered c.dst then s
      else
        let s := ((s.tele 13 0x04 (mpChan c.dst / 8)).endCopy c).programPage c.dst c.page
        match s.xlat.fluid.find lpn with
        | some (mp, recent) => if c.src = some mp then s.setFluid lpn c.dst recent else s
        | none => s)

/-- HEAT_HALVING (R117): every HEAT_HALF sync epochs. -/
def execHeatHalving (s : State) : Host.Outcome State Fault Refusal :=
  done s (
    if s.xlat.heatEpochs < s.rd Reg.XLAT_CFG_HEAT_HALF then s
    else
      let h := (s.merge.heat.mapVals (fun _ n => n / 2)).keep (fun _ n => n != 0)
      { s with merge := { s.merge with heat := h }, xlat := { s.xlat with heatEpochs := 0 } })

/-! ### Settle-back (R118, R119) -/

/-- The walk meets one valid entry. -/
def State.walkEntry (s : State) (lpn : Nat) : State :=
  match s.xlat.fluid.find lpn with
  | none => s
  | some (mp, true) => { s with xlat := { s.xlat with fluid := s.xlat.fluid.put lpn (mp, false) } }
  | some (_, false) => if s.capoHeld || s.pageDirty lpn then s else s.beginSettle lpn

/-- SETTLE_BACK_WALK (R118): the walk visits one bucket. -/
def execSettleBackWalk (bucket : Nat) (s : State) : Host.Outcome State Fault Refusal :=
  done s (((s.xlat.fluid.filter (fun e => bucketOf e.1 == bucket)).map (·.1)).foldl (fun s lpn => s.walkEntry lpn) s)

/-- The parity page after every line of a data page of its stripe has been exchanged and toggled (R96). -/
def toggled (par old new : MPage) (age : Nat) : MPage :=
  (List.range 64).foldl (fun p ln =>
    let d := (old.line ln).lin.xor (new.line ln).lin
    if d = Lin.zero then p else p.setLine ln { lin := (p.line ln).lin.xor d, age := age }) par

/-- The 65 lines of a home page are written by exchange, each with its toggle to parity (R119). -/
def State.rewriteHome (s : State) (home : Nat) (new : MPage) : State :=
  let old : MPage := (s.pages.find home).getD { tag := none, age := s.ageNow }
  let s := { s with pages := s.pages.put home new }
  let s := match s.pages.find (mpParity home) with
    | some par =>
      if s.dieFailed (mpParity home) then s
      else { s with pages := s.pages.put (mpParity home) (toggled par old new s.ageNow) }
    | none => s
  s.wear (mpSbn home) 130

/-- SETTLE_BACK_COMMIT (R119): the tag line verifies. A tract that has left the Settled state meanwhile keeps its fluid
entry, and the page's lines are dirty again. (DEDUCED, log entry 52). -/
def execSettleBackCommit (lpn : Nat) (s : State) : Host.Outcome State Fault Refusal :=
  done s (
    match s.xlat.settles.find? (fun x => x.lpn == lpn) with
    | none => s
    | some x =>
      let t := s.tract (tractOfLpn lpn)
      let s := { s with xlat := { s.xlat with settles := s.xlat.settles.filter (fun y => y.lpn != lpn) } }
      if t.state != .settled then x.carried.foldl (fun s l => s.drainFailed l) s
      else
        let s := ((s.tele 13 0x03 0).rewriteHome (homeMp t.sb lpn) x.page).dropFluid lpn
        x.carried.foldl (fun s l => s.drainVerified l) s)

/-! ### Reclaim (R127) -/

/-- Reclaim is due (Table 6-8). -/
def State.reclaimDue (s : State) : Bool := s.pool != 0 || decide (s.freeCount < s.rd Reg.XLAT_POOL_CFG_TARGET)

/-- Fewest valid pages, then the older SB_EPOCH, then the lower SBN. -/
def betterReclaim (a b : Nat × Block) : Bool :=
  decide (a.2.valid < b.2.valid)
    || (a.2.valid == b.2.valid && (newerEpoch b.2.epoch a.2.epoch || (a.2.epoch == b.2.epoch && decide (a.1 < b.1))))

def reclaimFirst : List (Nat × Block) → Option (Nat × Block)
  | [] => none
  | e :: r => match reclaimFirst r with
    | none => some e
    | some f => if betterReclaim f e then some f else some e

/-- Sealed hot and cold blocks of a course. -/
def State.candidates (s : State) (course : Nat) : List (Nat × Block) :=
  s.xlat.blocks.filter (fun e => sbnCourse e.1 == course && (e.2.pool == .hot || e.2.pool == .cold) && e.2.sealed)

/-- Valid pages of a block in page order: media page and logical page. -/
def State.validPages (s : State) (sbn : Nat) : List Nat :=
  (s.xlat.valid.filter (fun e => mpSbn e.1 == sbn)).map (·.1)

/-- The logical page a pool page holds. -/
def State.lpnAtMp (s : State) (mp : Nat) : Option Nat :=
  (s.xlat.fluid.find? (fun e => e.2.1 == mp)).map (·.1)

/-- Reclaim meets one valid page. -/
def State.reclaimPage (s : State) (mp : Nat) : State :=
  match s.lpnAtMp mp with
  | none => s
  | some lpn =>
    if s.pageDirty lpn || s.pageBusy lpn then s
    else if (s.xlat.fluid.find lpn).map (·.2) == some false && s.maySettle lpn then s.beginSettle lpn
    else (s.beginCopy .reclaim lpn (some mp)).getD s

/-- The block of a course that reclaim takes: one of a failed die first (R105), else by R127 while reclaim is due. -/
def State.reclaimBlock (s : State) (course : Nat) : Option (Nat × Block) :=
  let l := s.candidates course
  match l.find? (fun e => s.xlat.evac.contains e.1) with
  | some e => some e
  | none => if s.reclaimDue then reclaimFirst l else none

/-- RECLAIM (R127): a block without valid pages is queued for precondition or retired; the valid pages of another are
copied or settled back. -/
def execReclaim (course : Nat) (s : State) : Host.Outcome State Fault Refusal :=
  done s (
    if s.capoHeld || !s.start.step6 then s
    else match s.reclaimBlock course with
      | none => s
      | some (b, k) =>
        if k.valid = 0 then (s.retireOrQueue b).poolCounts
        else (s.validPages b).foldl (fun s mp => s.reclaimPage mp) s)

/-! ### Preconditions (R129, R208) -/

/-- A block leaves the queues of preconditions. -/
def State.unqueue (s : State) (sbn : Nat) : State :=
  { s with xlat := { s.xlat with precondQ := s.xlat.precondQ.filter (· != sbn), again := s.xlat.again.filter (· != sbn) } }

/-- Every reset block has verified: the block is blank and free. -/
def State.preconditioned (s : State) (sbn : Nat) : State :=
  let back := s.xlat.precondQ.contains sbn
  let k := s.block sbn
  let s := (s.unqueue sbn).eraseBlock sbn
  let s := s.setBlock sbn { k with pool := .free, tract := none, valid := 0, lifted := 0, fill := 0, degraded := [],
                                   sealed := false, precond := k.precond + 1, time := s.tagTime }
  if back then s.bump Reg.XLAT_RECLAIM_CNT else s

/-- Some reset block has failed: FAILED_RB, and the block is retired. -/
def State.precondFailed (s : State) (sbn : Nat) (failed : BitVec 8) : State :=
  let k := s.block sbn
  let s := (s.unqueue sbn).eraseBlock sbn
  s.setBlock sbn { k with pool := .retired, tract := none, valid := 0, lifted := 0, failedRb := k.failedRb ||| failed }

/-- PRECONDITION_COMPLETE (R129): `failed` names the reset blocks that failed verify. -/
def execPreconditionComplete (sbn : Nat) (failed : BitVec 8) (s : State) : Host.Outcome State Fault Refusal :=
  done s (
    if !s.preconditioning.contains sbn then s
    else (if failed = 0 then s.preconditioned sbn else s.precondFailed sbn failed).poolCounts)

/-- Strokes of a day. -/
def dayStrokes : Nat := 86400 * 1562500

/-- H of R205 in strokes. -/
def State.horizon (s : State) : Nat := s.rd Reg.ERR_PATROL_CFG_HORIZON * dayStrokes

/-- FREE_BLOCK_REPRECONDITION (R208): a free block whose TIME is older than H is preconditioned again. -/
def execFreeBlockReprecondition (sbn : Nat) (s : State) : Host.Outcome State Fault Refusal :=
  done s (
    let old := decide (s.horizon < s.stroke - (s.block sbn).time * 2 ^ 20)
    if s.capoHeld || !s.isFree sbn || !old || s.xlat.again.contains sbn then s
    else { s with xlat := { s.xlat with again := s.xlat.again ++ [sbn] } })

/-! ### Pools and records -/

/-- POOL_FILL_TIMEOUT (R125): the open stripe is completed with filler pages. -/
def execPoolFillTimeout (course : Nat) (hot : Bool) (s : State) : Host.Outcome State Fault Refusal :=
  done s (
    match s.xlat.opens.find (openKey hot course) with
    | none => s
    | some o =>
      if o.gathered = 0 || decide (s.stroke < o.since + s.rd Reg.XLAT_FILL_CFG_FILL_TIMEOUT) then s
      else s.fillStripe hot course o)

/-- Number of the checkpoint that is due: one every 2^24 strokes (R123). -/
def State.checkpointNo (s : State) : Nat := s.stroke / 2 ^ 24 + 1

/-- BLOCK_RECORD_CHECKPOINT (R123): the records go to the older of two copies, and dirty integrity metadata is written
back (R228). -/
def execBlockRecordCheckpoint (s : State) : Host.Outcome State Fault Refusal :=
  done s (
    if !s.start.step6 || s.xlat.checkpoints.any (fun c => c.number == s.checkpointNo) then s
    else
      let c : Checkpoint := ⟨s.checkpointNo, s.xlat.blocks⟩
      let l := s.xlat.checkpoints
      ({ s with xlat := { s.xlat with checkpoints := l.drop (l.length - 1) ++ [c] } }).flushNodes)

/-! ### XLAT_ registers (R142) -/

/-- STATE of Table 6-2. -/
def TractState.code : TractState → Nat
  | .unmapped => 0 | .settled => 1 | .inTransit => 2

/-- A tract map entry as a word (Table 6-2). -/
def Tract.word (t : Tract) : Nat :=
  t.sb + 2 ^ 20 * t.src + 2 ^ 40 * t.ptr + 2 ^ 48 * t.state.code + (if t.hasLifted then 2 ^ 50 else 0)
    + (if t.zeroSrc then 2 ^ 51 else 0) + (if t.reloc then 2 ^ 52 else 0) + 2 ^ 53 * t.lw

/-- XLAT_MAP_IDX_WRITE (R142). -/
def execXlatMapIdxWrite (v : Word) (s : State) : Host.Outcome State Fault Refusal :=
  done s (
    let t := v.toNat % 2 ^ 20
    let w := (s.tract t).word
    (((s.wr Reg.XLAT_MAP_IDX_TRACT t).wr Reg.XLAT_MAP_LO_ENTRY_LO (w % 2 ^ 32)).wr Reg.XLAT_MAP_HI_ENTRY_HI
      (w / 2 ^ 32)).setBit Reg.XLAT_MAP_IDX_READY true)

/-- XLAT_SEQ_LO_READ (R142): the low half is returned, and the high half latched. -/
def execXlatSeqLoRead (s : State) : Host.Outcome State Fault Refusal :=
  done s ((s.wr Reg.XLAT_SEQ_HI_SEQ_HI (s.xlat.seq / 2 ^ 32)).emit
    (.readValue Reg.XLAT_SEQ_LO_SEQ_LO.off (s.xlat.seq % 2 ^ 32)))

/-- XLAT_CNT_CLR (R142). -/
def execXlatCntClr (v : Word) (s : State) : Host.Outcome State Fault Refusal :=
  done s (if v.toNat % 2 = 1 then s.askClear .xlat else s)

end Sys2Proof.Machine
end

