-- ==== Sys2Proof/Machine/Capo.lean ====
section
/-! DEFINITION. The capo flush (R163 to R165): its entry, the flush of every dirty line to the target of Table 7-7, and
what step 6 saves. It is shared by the power sequencer and by step W2 of a warm device reset. -/

namespace Sys2Proof.Machine

/-! ### The image descriptor (R344) and a pending activation -/

/-- The descriptor as the keep shadow holds it. -/
def State.descr (s : State) : Descr :=
  match s.keep.shadow.find 256 with
  | some (.descriptor d) => d
  | _ => {}

/-- Write the descriptor record. -/
def State.setDescr (s : State) (d : Descr) : State := (s.keepWrite 256 (.descriptor d)).flash

/-- Image-slot operations of some kinds are given up; one that is in the flash ends. -/
def State.dropImageOps (s : State) (p : ImageOp → Bool) : State :=
  let run := s.keep.op == some .imageOp && s.imageOps.head?.any p
  let keep : Keep := if run then { s.keep with op := none } else s.keep
  ({ s with imageOps := s.imageOps.filter (fun o => !p o), keep := keep }).flash

/-- Operations of an activation. -/
def ImageOp.activates : ImageOp → Bool
  | .verify => true
  | .table _ => true
  | _ => false

/-- Release the spare table banks of sequencers and stacks. -/
def State.releaseSpare (s : State) : State :=
  (List.range 64).foldl (fun s c =>
    s.setChan c { s.chan c with banks := BitVec.ofNat 2 (2 ^ s.rd Reg.CHAN_STATUS_TBANK c) }) s

/-- Set this member's ACT value. -/
def State.setAct (s : State) (v : Nat) : State := s.wr Reg.SHELF_ACT_STATUS_ACT v

/-- Capo meets a pending activation: it is abandoned (Table 15-11); a coordinated one that was ready reports ACT 3
(R324). -/
def State.capoActivation (s : State) : State :=
  match s.fw.act with
  | none => s
  | some a =>
    let s := { s with fw := { s.fw with act := none, abandoned := a.kind != ActKind.coordinated && a.stage != ActStage.verify } }
    let s := (s.dropImageOps ImageOp.activates).releaseSpare.chronicle 0x0903 0x50 1 [1]
    let s := match a.path with
      | some p => s.bgDone p .activate .aborted 0 []
      | none => s
    if a.kind = .coordinated then ({ s with shelf := { s.shelf with act := none } }).setAct 3 else s

/-! ### Entry (R163, step 1) -/

/-- The flush begins: credits are withheld, the capo layout is asked for, activations are abandoned. -/
def State.beginFlush (s : State) : State :=
  let s := (s.setBit Reg.MERGE_STATUS_CAPO true).setBit Reg.TOP_STATUS_CAPO true
  let s := { s with
    merge := { s.merge with capo := 4, lost := false, cut := false }
    sched := { s.sched with capoAsk := 1 } }
  s.capoActivation.flash

/-! ### Stores on the medium at the end of a flush -/

/-- Parity takes the change of one stored line (R96); parity on a failed die is not toggled (R104). -/
def State.toggleNow (s : State) (mp ln : Nat) (d : Lin) : State :=
  let par := mpParity mp
  if d = Lin.zero || s.dieFailed par then s
  else match s.mline par ln with
    | some l => s.setParity par ln (l.lin.xor d)
    | none => s

/-- Exchange in place and toggle to parity, both complete. -/
def State.storeNow (s : State) (mp ln : Nat) (new : MLine) : State :=
  let old := ((s.mline mp ln).getD {}).lin
  ((s.setMline mp ln new).wear (mpSbn mp) 1).toggleNow mp ln (old.xor new.lin)

/-- A running exchange completes; while its delta is not formed, parity takes the change with it. -/
def State.finishExchange (s : State) (o : BankOp) : State :=
  let s := if !o.returned && s.toggleAhead o then s.storeNow o.mp o.ln o.new
    else (s.setMline o.mp o.ln o.new).wear (mpSbn o.mp) 1
  let s := { s with err := { s.err with rewrites := s.err.rewrites.filter (fun r => !(r.mp == o.mp && r.ln == o.ln)) } }
  if o.kind = .drain then s.drainVerified o.line else s

/-- A toggle that has its delta completes. -/
def State.finishToggle (s : State) (o : BankOp) : State :=
  match o.delta, s.mline o.mp o.ln with
  | some d, some l => s.setParity o.mp o.ln (l.lin.xor d)
  | _, _ => s

/-- Step 5: last toggles and program completions. Refreshes stay marked. -/
def State.finishOps (s : State) : State :=
  let l := s.ops.map (·.2)
  let s := (l.filter (fun o => o.kind == .drain || o.kind == .rewrite)).foldl State.finishExchange s
  let s := (l.filter (fun o => o.kind == .reserved || o.kind == .toggle)).foldl State.finishToggle s
  let s := (l.filter (fun o => o.kind == .rebuild)).foldl (fun s o => s.setParity o.mp o.ln (s.dataXor o.mp o.ln)) s
  { s with ops := [], deltas := s.deltas.filter (·.stuck) }

/-- Move stripes that have been loaded complete (R132). -/
def State.finishMoves (s : State) : State :=
  s.xlat.moves.foldl (fun s m =>
    match m.load with
    | none => s
    | some pages =>
      let s := if m.committed then s
        else ((s.liftAllFailed m pages (m.failed.filter (· < 7))).getD s).commitStripe m pages
      match s.xlat.moves.find? (fun x => x.tract == m.tract) with
      | some m' => s.advanceMove m'
      | none => s) s

/-- Page appends under way complete; a reclaim copy only if the fluid entry still names its source (R128). -/
def State.finishCopies (s : State) : State :=
  s.xlat.copies.foldl (fun s c =>
    let s := (s.endCopy c).programPage c.dst c.page
    if c.why = .reclaim then
      match s.xlat.fluid.find c.lpn with
      | some (mp, recent) => if c.src = some mp then s.setFluid c.lpn c.dst recent else s
      | none => s
    else c.carried.foldl (fun s l => s.drainVerified l) (s.setFluid c.lpn c.dst true)) s

/-- Settle-backs under way stop; their lines are dirty again. -/
def State.dropSettles (s : State) : State :=
  let s := s.xlat.settles.foldl (fun s x => x.carried.foldl (fun s l => s.drainFailed l) s) s
  { s with xlat := { s.xlat with settles := [], gather := [] } }

/-- Open pool stripes complete with filler pages (R132). -/
def State.finishOpens (s : State) : State :=
  s.xlat.opens.foldl (fun s e => if 0 < e.2.gathered then s.fillStripe (e.1 < 8) (e.1 % 8) e.2 else s) s

/-! ### Flush targets (Table 7-7) -/

/-- Where a flushed line goes. -/
inductive FlushTo where
  | inPlace (mp : Nat)
  /-- whole-page append into the hot pool, with the source of its clean lines (none: zeros) -/
  | append (src : Option Nat)
  /-- ZERO_SRC = 1 and PTR = 0: stripe 0 of the move comes first -/
  | first
  | lost
  deriving DecidableEq, Repr

/-- A place, or an append when its die has failed. -/
def State.placeOrAppend (s : State) (mp : Nat) : FlushTo := if s.dieFailed mp then .append (some mp) else .inPlace mp

/-- Table 7-7. -/
def State.flushTo (s : State) (lpn : Nat) (e : Entry) : FlushTo :=
  let t := s.tract (tractOfLpn lpn)
  if e.state = .pinned || t.state = .unmapped then .lost
  else match s.fluidOf lpn with
    | some mp => s.placeOrAppend mp
    | none =>
      if t.state = .settled then
        (if s.slotFailed lpn then .append (some (homeMp t.sb lpn)) else s.placeOrAppend (homeMp t.sb lpn))
      else if stripeOf lpn < t.ptr then s.placeOrAppend (homeMp t.sb lpn)
      else if !t.zeroSrc then s.placeOrAppend (homeMp t.src lpn)
      else if t.ptr = 0 then .first
      else .append none

/-- An open hot block with room for the page: of its own course, or of the next course that has one. -/
def State.openHot (s : State) (course lpn : Nat) : Option (Nat × OpenBlock) :=
  if !s.bucketFor lpn then none
  else (coursesFrom course).findSome? (fun c => (s.xlat.opens.find (openKey true c)).map (fun o => (c, o)))

/-- A line is lost (Table 7-7): poison is written where a home line exists, and Dirty-data-lost is logged.
(DESIGN CHOICE, log entry 41). -/
def State.loseLine (s : State) (line : Nat) : State :=
  let lpn := lpnOf line
  let t := s.tract (tractOfLpn lpn)
  let s := match (if t.state = .unmapped then none else s.readMp lpn) with
    | some mp => if s.dieFailed mp then s
      else ((s.storeNow mp (line % 64) (storedLine 0 true s.ageNow ((s.pages.find mp).any (fun (p : MPage) => p.lifted)))).poisonAdd line
        .internal).bump Reg.XLAT_POISON_WR_CNT
    | none => s
  let s := ((s.dropEntry line).dirtyLost line).bump Reg.MERGE_LOST_CNT
  { s with merge := { s.merge with lost := true } }

/-- Dirty entries of a page that a flush carries. -/
def State.flushable (s : State) (lpn : Nat) : List (Nat × Entry) :=
  s.merge.entries.filter (fun x => lpnOf x.1 == lpn && x.2.isDirty)

/-- Append a page with its dirty lines into an open hot block. -/
def State.flushAppend (s : State) (lpn : Nat) (src : Option Nat) (line : Nat) : State :=
  match s.openHot (sbnCourse (s.tract (tractOfLpn lpn)).sb) lpn with
  | none => s.loseLine line
  | some (c, o) =>
    let l := s.flushable lpn
    let (s, dst) := s.takePage true c o
    let (s, q) := s.takeSeq
    let s := match src with
      | some mp => s.noteUnbuilt lpn mp l
      | none => s
    let page := s.newPage lpn .hot (s.block (mpSbn dst)).epoch q (s.pageLines lpn src l true)
    let s := ((s.startDrains l).programPage dst page).setFluid lpn dst true
    l.foldl (fun s e => s.drainVerified e.1) s

/-- Stripe 0 of a tract initialisation completes ahead of an append (Table 7-7). -/
def State.flushFirst (s : State) (t : Nat) : State :=
  match s.xlat.moves.find? (fun m => m.tract == t) with
  | none => s
  | some m =>
    let (s, m') := s.loadStripe m
    let s := s.commitStripe m' (m'.load.getD [])
    match s.xlat.moves.find? (fun x => x.tract == t) with
    | some x => s.advanceMove x
    | none => s

/-- Flush one line if it is dirty still. -/
def State.flushLine (s : State) (line : Nat) : State :=
  match s.entry line with
  | none => s
  | some e =>
    if !e.pends then s
    else
      let lpn := lpnOf line
      let s := if s.flushTo lpn e = .first then s.flushFirst (tractOfLpn lpn) else s
      match s.entry line with
      | none => s
      | some e =>
        if !e.pends then s
        else match s.flushTo lpn e with
          | .inPlace mp =>
            let new := s.entryLine e ((s.pages.find mp).any (fun (p : MPage) => p.lifted))
            ((s.startDrain line e).storeNow mp (line % 64) new).drainVerified line
          | .append src => s.flushAppend lpn src line
          | .first => s.flushAppend lpn none line
          | .lost => s.loseLine line

/-- Step 4: every dirty line, oldest first; after a further rail fault the lines left are lost (R253). -/
def State.flushLines (s : State) : State :=
  let l := (s.drainOrder (s.merge.entries.filter (fun e => e.2.pends))).map (·.1)
  if s.merge.cut then l.foldl State.loseLine s else l.foldl State.flushLine s

/-- Points pending complete with the flush (R159), with the pinned lines each left uncovered. -/
def State.flushPoints (s : State) (l : List (Point × List Nat)) : State :=
  l.foldl (fun s e => s.endPoint e.1 e.2 true) s

/-- The flush may end: the capo layout applies, merges in progress have completed and no fill is outstanding. -/
def State.flushReady (s : State) : Bool :=
  s.merge.capo == 4 && s.layout == 1 && !s.reqs.any (fun r => r.2.stage == .merging)
    && (s.merge.cut || !s.merge.entries.any (fun e => e.2.fillPend))

/-- Steps 4 and 5: moves, copies and programs complete, every dirty line is flushed, open stripes complete, counter-tree
nodes are written back, and pending points complete. -/
def State.flushAll (s : State) : State :=
  let points := s.merge.points.map (fun p => (p, s.pinnedOf p))
  let s := s.finishMoves.finishCopies.dropSettles.finishOps
  let s := s.flushLines.finishOpens.flushNodes
  (s.flushPoints points).mergeCounts.poolCounts

/-! ### Saves (step 6, R165, R296) -/

/-- Page 2 as it is sealed now. -/
def State.page2 (s : State) : PageData := .roots s.prot.roots s.prot.granules s.keep.pcycle.value

/-- Highest committed group (page 3). -/
def State.lastGroup (s : State) : Nat :=
  match s.keep.shadow.find 3 with
  | some (.nonces _ g) => g
  | _ => 0

/-- Request the keep pages of step 6: page 1 last, and lost writes once more (R283). A write of page 3 that waits carries
the nonces already. -/
def State.saveKeep (s : State) : State :=
  let s := s.keep.lost.foldl (fun s w => s.keepWrite w.page w.data w.group) s
  let s := s.keepWrite 2 s.page2
  let s := if s.keep.queue.any (fun w => w.page == 3) then s else s.keepWrite 3 (.nonces s.prot.nonces s.lastGroup)
  (s.keepWrite 1 s.page1).flash

/-- The marker of step 6: CLEAN when no line was lost (R165). -/
def State.markFlush (s : State) : State :=
  { s with merge := { s.merge with marker := if s.merge.lost then .loss else .clean } }

/-- Code of a capo's end: 1 CLEAN, 2 LOSS. -/
def State.flushResult (s : State) : Nat := if s.merge.lost then 2 else 1

/-- Record 0x0400 (Table 13-8). -/
def State.capoRecord (s : State) (result us : Nat) (warm : Bool) : State :=
  s.chronicle 0x0400 0x4A (if result = 2 then 2 else 0) ([result] ++ leBytes 4 us ++ [if warm then 1 else 0])

/-- Program the spread increments that wait (R290). -/
def State.saveSpread (s : State) : State :=
  (List.range 3).foldl (fun s i => iter (fun s => s.spreadIncrement i) (s.keep.spread i).pending s) s

/-- Write the oldest chronicle record without waiting for its program. -/
def State.writeRecord (s : State) : State :=
  match s.chron.buffer with
  | [] => s
  | (n, r) :: rest =>
    let (c, p) := s.chron.push (.written r)
    (({ s with chron := ({ c with buffer := rest }).moveRun n p }).bump Reg.CHRON_WRITTEN_CNT).openSector

/-- As many buffered records as the rest of step 6 allows; those left over are dropped and counted (R296). -/
def State.saveChronicle (s : State) (room : Nat) : State :=
  let s := iter (fun s => if s.chron.room then s.writeRecord else s) (min room s.chron.buffer.length) s
  let left := s.chron.buffer.length
  let runs := s.chron.runs.map (fun r => match r.place with
    | .buffer _ => { r with place := .gone }
    | _ => r)
  let op := if s.keep.op = some .chronicleProgram then none else s.keep.op
  ({ s with chron := { s.chron with buffer := [], runs := runs, dropped := s.chron.dropped + left }
            keep := { s.keep with op := op } }).bump Reg.CHRON_DROP_CNT left

end Sys2Proof.Machine
end

