-- ==== Sys2Proof/Machine/Resets.lean ====
section
/-! DEFINITION. What a cold reset and a warm device reset keep and lose (R275, R276, R373, Tables 12-6 and 17-4). -/

namespace Sys2Proof.Machine

/-! ### Register fields across resets (Table 17-4) -/

/-- The field whose home is a key. -/
def fieldOfKey (k : Nat) : Option Field := Reg.all.find? (fun f => (f.at? (k / 32)).isSome && f.lo == k % 32)

/-- Keys of the AUX-powered blocks: PWR_, KEEP_, CHRON_ and SHELF_ (Table 17-3). -/
def auxKey (k : Nat) : Bool := decide (32 * 0xA00000 ≤ k) && decide (k < 32 * 0xD00000)

/-- Keys of `TOP_STRAPS`: the values last sampled stay shown (R383). -/
def strapKey (k : Nat) : Bool := decide (32 * 4 ≤ k) && decide (k < 32 * 8)

/-- Fields that a warm device reset keeps beside the RWS and RWM fields: restored from the keep (R158, R212, R165), of the
trained links and the image (R275), and the modes in force. (DEDUCED, log entry 84). -/
def warmFields : List Field :=
  [Reg.MERGE_CFG_BUDGET, Reg.MERGE_CFG_HOLDUP, Reg.MERGE_CFG_MIN_AGE, Reg.MERGE_CHAN_LIMIT_L, Reg.MERGE_GPF_DUR_MS, Reg.MERGE_DSC,
   Reg.MERGE_LAST_CAPO_FLUSH_US, Reg.MERGE_LAST_CAPO_RESULT]
  ++ [Reg.ERR_CORR_PERS_CNT, Reg.TOP_CAPACITY_UNITS, Reg.TOP_STATUS_STACK, Reg.TOP_STATUS_RECOVERY, Reg.PORT_MODE_STATUS_MODE,
   Reg.PORT_MODE_STATUS_BIFURCATE, Reg.PORT_MODE_STATUS_MODE_PENDING]
  ++ [Reg.CHAN_STATUS_STATE, Reg.CHAN_STATUS_DIES, Reg.CHAN_STATUS_DIE_FAILED, Reg.CHAN_STATUS_ALERT, Reg.CHAN_STATUS_RETRAIN,
   Reg.CHAN_STATUS_TBANK, Reg.CHAN_SERIAL_LO_SERIAL, Reg.CHAN_SERIAL_HI_SERIAL]
  ++ [Reg.CHAN_TRAIN_VALUES, Reg.CHAN_G_FAILED_DIES, Reg.CHAN_G_AGE_EPOCH, Reg.CHAN_G_AGE_WAKE, Reg.CHAN_G_AGE_REST]

/-- A key whose value a warm device reset keeps. -/
def warmKey (k : Nat) : Bool :=
  auxKey k || strapKey k || (match fieldOfKey k with
    | some f => f.acc == .rws || f.acc == .rwm || warmFields.contains f
    | none => false)

/-- Clears of AUX blocks that wait stay. -/
def Clear.inAux : Clear → Bool
  | .pwr | .keep | .chron | .shelf => true
  | _ => false

/-! ### Cold reset -/

/-- The core domain loses its supply: what stays is the AUX-powered domain, the boot flash, the contents of the medium
with the system area on it, and what belongs to the model itself. A part of a spread unit not yet accrued is lost
(R289). (DESIGN CHOICE, log entry 85). -/
def State.coldCore (s : State) : State :=
  let e : Err := {}
  { pending := s.pending
    stroke := s.stroke
    epochDue := s.epochDue
    free := s.free
    out := s.out
    perst := s.perst
    regs := s.regs.keep (fun k _ => auxKey k || strapKey k)
    clears := s.clears.filter Clear.inAux
    pwr := s.pwr
    keep := { s.keep with byteLines := 0, timeStrokes := 0, op := if s.keep.op = some .imageOp then none else s.keep.op }
    chron := s.chron
    shelf := s.shelf
    mbox := { wall := s.mbox.wall }
    dc := s.dc
    pages := s.pages
    prot := { lineCounters := s.prot.lineCounters, applied := s.prot.applied }
    xlat := { checkpoints := s.xlat.checkpoints }
    err := { e with poison := s.err.poison, poisonLost := s.err.poisonLost } }

/-! ### Warm device reset (step W3) -/

/-- Parameters of an accepted MODIFY (R61). -/
def Session.modified (e : Session) : Session :=
  match e.modify with
  | none => e
  | some m => { e with readAllow := m.readAllow, writeAllow := m.writeAllow, limit := m.inflightLimit, qos := m.qos,
                       tOpt := m.tOpt, tMod := m.tMod, tSev := m.tSev, modify := none }

/-- A session entry across a warm device reset (Table 12-6): Fencing becomes Free, Pending becomes Active; STATUS and
counters are zeroed, GEN is kept, and queues are lost. -/
def Session.warm (e : Session) : Session :=
  let z (e : Session) : Session :=
    { e with state := .active, waiting := none, modify := none, fenceDue := false, withdrawn := false, fenceSnoops := [],
             inflight := 0, devLoad := 0, held := false, cause := .share, withheld := [], reads := 0, writes := 0,
             allowStall := 0, rdUsed := 0, wrUsed := 0, stalled := false, rd := {}, wr := {}, offered := [], releasing := [] }
  match e.state, e.waiting with
  | .active, _ => z e.modified
  | .pending, some w => z (e.load w)
  | _, _ => { gen := e.gen }

/-- The session table across a warm device reset. -/
def warmSessions (l : Tab Session) : Tab Session :=
  l.foldl (fun t e => t.set {} e.1 e.2.warm) []

/-- Every block but those that step W3 names returns to its reset state. -/
def State.warmCore (s : State) : State :=
  let e : Err := {}
  let t : Telem := {}
  let en := (List.range 4).map (fun i => s.rd Reg.CACHE_WAY_CFG_GROUP_EN i)
  let keep : Keep := if s.keep.op = some .imageOp then { s.keep with op := none } else s.keep
  let u : State :=
    { pending := s.pending
      stroke := s.stroke
      epochDue := s.epochDue
      free := s.free
      out := s.out
      perst := s.perst
      regs := s.regs.keep (fun k _ => warmKey k)
      clears := s.clears.filter Clear.inAux
      pwr := s.pwr
      start := s.start
      keep := keep
      chron := s.chron
      shelf := s.shelf
      mbox := { wall := s.mbox.wall }
      events := { s.events with orphanSeen := [], paritySeen := [] }
      sessions := warmSessions s.sessions
      dc := s.dc
      share := s.rd Reg.SESS_SPILL_CFG_SHARE
      cache := { enabled := en, rcOn := s.bit Reg.CACHE_RC_CFG_EN }
      merge := { marker := s.merge.marker, lost := s.merge.lost }
      pages := s.pages
      chans := s.chans
      img := s.img
      prot := { lineCounters := s.prot.lineCounters, nonces := s.prot.nonces, applied := s.prot.applied }
      xlat := { checkpoints := s.xlat.checkpoints, seq := s.xlat.seq, sbe := s.xlat.sbe }
      err := { e with poison := s.err.poison, poisonLost := s.err.poisonLost, patrolPos := s.err.patrolPos,
                      patrolStart := s.err.patrolStart, visited := s.err.visited, ageStrokes := s.err.ageStrokes,
                      e := s.err.e, eSaved := s.err.eSaved, temp := s.err.temp }
      telem := { t with cfg := s.telem.cfg, cfgDue := s.telem.cfgDue, bwK := s.rd Reg.TELEM_BW_CFG_K } }
  let u := (List.range 4).foldl (fun u i => u.wr Reg.CACHE_WAY_STATUS_ENABLED (en.getD i 255) i) u
  (u.wr Reg.SCHED_STATUS_LAYOUT (if u.bit Reg.TOP_STATUS_RECOVERY then 2 else 0)).recount

/-- Every run closes (R295). -/
def State.closeRuns (s : State) : State := s.chron.runs.foldl (fun s r => s.closeRun r) s

end Sys2Proof.Machine
end

