-- ==== Sys2Proof/Machine/KeepLoad.lean ====
section
/-! DEFINITION. The keep at start-up (R285, Table 13-6): choice of the version of each page, resolution of the spread
counters, and what each page restores (Table 13-4). -/

namespace Sys2Proof.Machine

/-! ### Choice of versions (R285) -/

/-- Slots of a page that are candidates, with their copy. -/
def Keep.candidates (k : Keep) (page lim : Nat) : List (Nat × KeepSlot) :=
  [0, 1].flatMap (fun c => ((k.sectors.get [] (keepSector page c)).filter (fun x =>
    x.good && x.page == page && (x.group == 0 || decide (x.group ≤ lim) || page == 3))).map (fun x => (c, x)))

/-- Candidate `a` is chosen over `b`: higher SEQ, or equal SEQ in the copy that matches its parity. -/
def chosenOver (a b : Nat × KeepSlot) : Bool :=
  decide (b.2.seq < a.2.seq) || (a.2.seq == b.2.seq && a.1 == a.2.seq % 2)

/-- The chosen candidate. -/
def chosen : List (Nat × KeepSlot) → Option (Nat × KeepSlot)
  | [] => none
  | x :: r => match chosen r with
    | none => some x
    | some y => if chosenOver y x then some y else some x

/-- Two slots are identical. -/
def sameSlot (a b : KeepSlot) : Bool := decide (a.data = b.data) && a.group == b.group

/-- A copy that holds something and no candidate. -/
def Keep.unreadable (k : Keep) (page copy : Nat) (l : List (Nat × KeepSlot)) : Bool :=
  !l.any (fun x => x.1 == copy)
    && ((k.sectors.get [] (keepSector page copy)) != [] || k.abandoned.get 0 (keepSector page copy) != 0)

/-- Read one page into the shadow. -/
def State.loadPage (s : State) (lim page : Nat) : State :=
  let l := s.keep.candidates page lim
  match chosen l with
  | none => { s with keep := { s.keep with shadow := s.keep.shadow.del page, seq := s.keep.seq.del page } }
  | some (c, x) =>
    let k := { s.keep with shadow := s.keep.shadow.put page x.data, seq := s.keep.seq.put page x.seq }
    let k := if k.unreadable page (1 - c) l then k.askErase (keepSector page (1 - c)) else k
    let s := { s with keep := k }
    if l.any (fun y => y.1 != c && y.2.seq == x.seq && !sameSlot x y.2) then
      (s.setBit Reg.KEEP_STATUS_TIE true).chronicle 0x0001 0x4E 1 (leBytes 2 page)
    else s

/-- LAST_GROUP of the page 3 that is chosen. -/
def Keep.lastGroup (k : Keep) : Nat :=
  match chosen (k.candidates 3 0) with
  | some (_, x) => (match x.data with
    | .nonces _ g => g
    | _ => 0)
  | none => 0

/-- Pages in use, and the descriptor record. -/
def keepPages : List Nat := List.range 109 ++ [256]

/-- Every page is read; writes that the keep unit still holds lie over what was read (R286). -/
def State.loadKeep (s : State) : State :=
  let lim := s.keep.lastGroup
  let s := keepPages.foldl (fun s p => s.loadPage lim p) s
  { s with keep := { s.keep with
      shadow := (s.keep.lost ++ s.keep.queue).foldl (fun t w => t.put w.page w.data) s.keep.shadow } }

/-! ### Spread counters (Table 13-6) -/

/-- Base and generation of a counter in page 12. -/
def State.spreadKept (s : State) (i : Nat) : Nat × Nat :=
  match s.keep.shadow.find 12 with
  | some (.spread b g) => (b.getD i 0, g.getD i 0)
  | _ => (0, 0)

/-- Resolve one counter; one whose update runs goes on with it. -/
def State.resolveSpread (s : State) (i : Nat) : State :=
  let c := s.keep.spread i
  if c.step ≠ .idle then s
  else
    let (b, g) := s.spreadKept i
    let put (s : State) (c : Spread) : State := { s with keep := s.keep.setSpread i c }
    let c := { c with base := b, gen := g }
    match c.header with
    | some h =>
      if h = g then
        (if spreadBits ≤ c.count then (put s c).spreadRoll i else put s c)
      else if g < h then
        let s := put s { c with gen := h }
        (s.keepWrite 12 s.keep.spreadPage).chronicle 0x0003 0x4E 1 [i]
      else (put s { c with step := .base }).spreadErase i
    | none => (put s { c with step := .base }).spreadErase i

/-! ### What pages restore -/

/-- Page 13: the range definitions. -/
def State.keptRanges (s : State) : Tab RangeDef :=
  match s.keep.shadow.find 13 with
  | some (.ranges t) => t
  | _ => []

/-- Granules of one page of the granule map: 240 of 1 B each (Table 13-3). (DESIGN CHOICE, log entry 87). -/
def granulesPerPage : Nat := 240

/-- Pages 14 to 22: the granule map. -/
def State.keptGranules (s : State) : Tab Nat :=
  (List.range 9).flatMap (fun k => match s.keep.shadow.find (14 + k) with
    | some (.granules t) => t
    | _ => [])

/-- Pages 40 to 108: the bindings. -/
def State.keptBindings (s : State) : List (SessKey × Nat) :=
  (List.range 69).flatMap (fun k => match s.keep.shadow.find (40 + k) with
    | some (.bindings l) => l
    | _ => [])

/-- Page 2: the roots as they were sealed. -/
def State.keptRoots (s : State) : Tab Nat :=
  match s.keep.shadow.find 2 with
  | some (.roots r _ _) => r
  | _ => []

/-- Page 3: the highest accepted nonces. -/
def State.keptNonces (s : State) : List (BitVec 64) :=
  match s.keep.shadow.find 3 with
  | some (.nonces l _) => l
  | _ => [0, 0, 0, 0]

/-- Pages 4 and 5: the officer set, two keys each. -/
def State.keptOfficers (s : State) : List KeyName :=
  [4, 5].flatMap (fun p => match s.keep.shadow.find p with
    | some (.officers l) => l
    | _ => [])

/-- Page 6: the image signing anchor and the factory unlock grant. -/
def State.keptAnchor (s : State) : Nat × Bool :=
  match s.keep.shadow.find 6 with
  | some (.anchor d u) => (d, u)
  | _ => (Config.vendorAnchor, false)

/-- Pages 23 to 39: a key slot. -/
def State.keptSlot (s : State) (n : Nat) : Option KeySlot :=
  match s.keep.shadow.find (23 + n) with
  | some (.keySlot k) => some k
  | _ => none

/-- Integrity of the defined ranges before step 7 has verified them. -/
def integBefore (r : Tab RangeDef) : Tab IntegState :=
  (r.filter (fun e => e.2.valid && e.2.integ)).map (fun e => (e.1, IntegState.unverified))

/-- Protection as the keep holds it (Table 10-9): at a cold start, and again at a warm device reset. -/
def State.restoreProt (s : State) : State :=
  { s with prot := { s.prot with
      ranges := s.keptRanges, granules := s.keptGranules, bindings := s.keptBindings, roots := s.keptRoots,
      nonces := s.keptNonces, officers := s.keptOfficers, anchor := s.keptAnchor.1, unlock := s.keptAnchor.2,
      integState := integBefore s.keptRanges } }

/-- Budget and hold-up of page 7 (R158). -/
def State.restoreBudget (s : State) : State :=
  match s.keep.shadow.find 7 with
  | some (.merge b h) => s.setBudget b h
  | _ => s

/-- The Dirty Shutdown Count is raised, in SRAM (R165, R288). -/
def State.raiseDsc (s : State) (m : Marker) : State :=
  match m with
  | .clean => s
  | .loss => (s.bump Reg.MERGE_DSC).chronicle 0x0401 0x4A 1 [1]
  | .dirty => (s.bump Reg.MERGE_DSC).chronicle 0x0401 0x4A 1 [2]

/-- Pages 0 and 1: the marker with the count, the counters and E (R102, R121, R122, R165, R285). -/
def State.restoreState (s : State) : State :=
  let set (s : State) (m : Marker) (e : Nat) (first : Bool) : State :=
    { s with merge := { s.merge with marker := m }, start := { s.start with readMarker := m, first := first },
             err := { s.err with e := e + 1, eSaved := e } }
  let s := match s.keep.shadow.find 1 with
    | some (.state m dsc q b e _ cp) =>
      let s := { s with xlat := { s.xlat with seq := q, sbe := b } }
      (((set s m e false).wr Reg.MERGE_DSC dsc).wr Reg.ERR_CORR_PERS_CNT cp).raiseDsc m
    | _ =>
      if (s.keep.shadow.find 0).isSome then (set s .dirty 0 false).raiseDsc .dirty
      else set s .clean 0 true
  (s.wr Reg.CHAN_G_AGE_EPOCH (s.err.e % 16)).setBit Reg.CHAN_G_AGE_WAKE true

/-- Shelf time saved in page 1. (DEDUCED, log entry 88). -/
def State.savedTime (s : State) : Option Nat :=
  match s.keep.shadow.find 1 with
  | some (.state _ _ _ _ _ t _) => some t
  | _ => none

/-- REST: whole age epochs spent unpowered, 15 when no time is available (R102). -/
def State.restOf (s : State) : Nat :=
  match s.savedTime with
  | some t => if s.shelf.timeKnown && s.img.tAge != 0 then min 15 ((s.stroke - t) / s.img.tAge) else 15
  | none => 15

/-- Step 2: the keep is read and what it holds is restored. -/
def State.readKeep (s : State) : State :=
  let s := s.loadKeep
  let s := ((s.resolveSpread 0).resolveSpread 1).resolveSpread 2
  let s := { s with keep := { s.keep with pcycle := { s.keep.pcycle with pending := s.keep.pcycle.pending + 1 } } }
  let s := ((s.restoreState).restoreProt).restoreBudget
  let s := { s with prot := { s.prot with challenge := Config.drawn s.free } }
  (s.tick).flash

end Sys2Proof.Machine
end

