-- ==== Sys2Proof/Machine/ProtFamily.lean ====
section
/-! DEFINITION. Protection (chapter Protection Ranges, Keys and Motions): motions and their effects, re-key passes, key
slots, IDE keys and SPDM: MOTION, SECOND, MOTION_STATUS, MOTION_LAPSE, MOTION_APPLY, REKEY_PASS_END, ERASE_AUTH_EXPIRY,
KEY_SLOT_REUNSEAL, IDE_KEY_PROG, IDE_K_SET_GO, IDE_K_SET_STOP, SPDM_GET_MEASUREMENTS, SPDM_SECURE_SESSION and
PROT_CNT_CLR. -/

namespace Sys2Proof.Machine

/-! ### Kinds and arguments (Tables 10-5 and 10-6) -/

/-- KIND of Table 10-5. -/
def kindOf : MotionArgs → Nat
  | .officerSet _ => 1
  | .rangeDefine .. => 2
  | .rangeDelete .. => 3
  | .rekey .. => 4
  | .bind .. => 5
  | .unbind .. => 6
  | .anchor _ => 7
  | .factoryUnlock .. => 8
  | .eraseAuth _ => 9

/-- The range that a motion names. -/
def argRange : MotionArgs → Option Nat
  | .rangeDefine n .. => some n
  | .rangeDelete n _ => some n
  | .rekey n .. => some n
  | _ => none

/-- The session key that a motion names. -/
def argKey : MotionArgs → Option SessKey
  | .bind p k i _ => some ⟨p, k, i⟩
  | .unbind p k i => some ⟨p, k, i⟩
  | _ => none

/-- Two motions conflict (reason 0x06): same range, same session key, or the same kind among OFFICER_SET, ANCHOR,
FACTORY_UNLOCK and ERASE_AUTH. -/
def motionsConflict (a b : MotionArgs) : Bool :=
  ((argRange a).isSome && argRange a == argRange b)
    || ((argKey a).isSome && decide (argKey a = argKey b))
    || (kindOf a == kindOf b && [1, 7, 8, 9].contains (kindOf a))

/-- Ranges 1 to 16. -/
def isRange (n : Nat) : Bool := decide (1 ≤ n) && decide (n ≤ 16)

/-- Two spans of 256 MiB units overlap. -/
def spansMeet (b c : Nat) (b' c' : Nat) : Bool := decide (b < b' + c') && decide (b' < b + c)

/-- Sessions that are not Free, with their parameters in force or waiting. -/
def State.claimed (s : State) : List SessWords :=
  s.sessions.flatMap (fun e => (if e.2.state == .free then [] else [e.2.words]) ++ e.2.waiting.toList)

/-- New granules that integrity protection of `size` units takes (R226). -/
def State.granulesFit (s : State) (size : Nat) : Bool :=
  decide (s.prot.granules.length + size ≤ 2048) && decide (8192 + 10 * size ≤ s.freeCount)

/-- A blob is there when a key set is imported; one that is there unwraps (R220). -/
def blobOk (imported : Bool) (blob : Option KeyName) : Bool := imported == blob.isSome

/-- A session key that exists: port, LD-ID or SPID (R50). -/
def keyExists (port kind id : Nat) : Bool :=
  decide (port < 4) && ((kind == 0 && decide (id ≤ 15)) || (kind == 1 && decide (id ≤ 4095)))

/-- The arguments of a motion are valid (reason 0x0A, with R216, R220, R226 and R54). -/
def State.argsOk (s : State) (a : MotionArgs) : Bool :=
  match a with
  | .officerSet keys => decide (2 ≤ keys.length) && decide (keys.length ≤ 4)
  | .rangeDefine n integ _ imported base size blob =>
    isRange n && !(s.prot.ranges.get {} n).valid && decide (1 ≤ size)
      && decide (base + size ≤ s.rd Reg.TOP_CAPACITY_UNITS)
      && !s.prot.ranges.any (fun e => e.2.valid && spansMeet e.2.base e.2.size base size)
      && !s.claimed.any (fun w => w.binds.any (fun b => b.valid && spansMeet b.devBase b.size base size))
      && (!integ || s.granulesFit size) && blobOk imported blob
  | .rangeDelete n _ =>
    isRange n && (s.prot.ranges.get {} n).valid && !s.claimed.any (fun w => w.range == n)
  | .rekey n integ imported blob =>
    let r := s.prot.ranges.get {} n
    decide (n ≤ 16) && (n == 0 || r.valid) && (n != 0 || !integ) && (!integ || r.integ || s.granulesFit r.size)
      && blobOk imported blob
  | .bind p k i n => keyExists p k i && isRange n
  | .unbind p k i =>
    keyExists p k i && !s.claimed.any (fun w => decide (wordsKey w = ⟨p, k, i⟩))
  | .anchor _ => true
  | .factoryUnlock serial challenge good => good && serial == Config.serial && challenge == s.prot.challenge
  | .eraseAuth what => what == 1 || what == 2

/-- The motion is an unsigned OFFICER_SET (R234). (DEDUCED, log entry 90). -/
def unsignedSet (m : Motion) : Bool := kindOf m.args == 1 && m.officer == 255 && m.signer.isNone

/-- A re-key pass or a device-internal write runs (reason 0x0B). -/
def State.protBusy (s : State) : Bool := s.prot.rekeys != [] || s.internals != []

/-- The motions other than one. -/
def dropMotion (m : Motion) (l : List Lodged) : List Lodged := l.filter (fun x => !decide (x.motion = m))

/-- The lodged motion that a motion names. -/
def State.findLodged (s : State) (m : Motion) : Option Lodged := s.prot.lodged.find? (fun l => decide (l.motion = m))

/-- Motions that are Lodged: their keep write has not been requested. -/
def State.onlyLodged (s : State) : List Lodged := s.prot.lodged.filter (fun l => l.group == 0)

/-- State code of a motion (chapter Mailbox): 0 unknown, 1 Lodged, 2 Applying, 3 Applied. -/
def State.motionState (s : State) (m : Motion) : Nat :=
  match s.findLodged m with
  | some l => if l.group = 0 then 1 else 2
  | none => if s.prot.applied.any (fun x => decide (x = m)) then 3 else 0

/-- Strokes of 120 s (R238). -/
def lodgeStrokes : Nat := 187500000

/-- First failing check of a MOTION, in the order of Table 10-6 (R237); 0: none. (DEDUCED, log entry 89). -/
def State.motionReason (s : State) (m : Motion) : Nat :=
  let signed := !unsignedSet m
  if m.version != 1 || !m.reservedZero || m.serial != Config.serial then 0x01
  else if signed && (s.prot.officers[m.officer]?).isNone then 0x02
  else if signed && s.prot.officers[m.officer]? != m.signer then 0x03
  else if s.motionState m != 0 then 0x05
  else if signed && decide (m.nonce ≤ s.prot.nonces.getD m.officer 0) then 0x04
  else if s.onlyLodged.any (fun l => motionsConflict l.motion.args m.args) then 0x06
  else if 4 ≤ s.onlyLodged.length then 0x07
  else if !s.argsOk m.args then 0x0A
  else if s.protBusy then 0x0B
  else if (s.prot.officers == []) != unsignedSet m then 0x0C
  else 0

/-- The conflict and argument checks of a motion, made again when its second arrives; 0: it passes them (R237). -/
def State.againReason (s : State) (m : Motion) : Nat :=
  let others := s.onlyLodged.filter (fun x => !decide (x.motion = m))
  if others.any (fun x => motionsConflict x.motion.args m.args) then 0x06
  else if !s.argsOk m.args then 0x0A else 0

/-- First failing check of a SECOND; 0: none, or a check of its motion, which then becomes Refused (R237). -/
def State.secondReason (s : State) (m : Second) : Nat :=
  let at_ := s.findLodged m.motion
  let late := match at_ with
    | some l => decide (l.stroke + lodgeStrokes < s.stroke)
    | none => true
  if !m.reservedZero || m.serial != Config.serial then 0x01
  else if (s.prot.officers[m.officer]?).isNone then 0x02
  else if s.prot.officers[m.officer]? != m.signer then 0x03
  else if 2 ≤ s.motionState m.motion then 0x05
  else if at_.isSome && m.officer == m.motion.officer then 0x08
  else if late then 0x09
  else if s.againReason m.motion = 0 && s.protBusy then 0x0B
  else 0

/-! ### Effects (Table 10-5) -/

/-- The lowest free granules, `n` of them (R226). -/
def freeGranules (g : Tab Nat) (n : Nat) : List Nat :=
  ((List.range 2048).filter (fun i => (g.find i).isNone)).take n

/-- Give granules to a range. -/
def giveGranules (g : Tab Nat) (n size : Nat) : Tab Nat := (freeGranules g size).foldl (fun t i => t.put i n) g

/-- Release the granules of a range. -/
def dropGranules (g : Tab Nat) (n : Nat) : Tab Nat := g.keep (fun _ v => v != n)

/-- Counters and roots of some granules return to zero, and their cached metadata goes (R227). -/
def Prot.zeroTrees (p : Prot) (gone : Nat → Bool) : Prot :=
  { p with roots := p.roots.keep (fun g _ => !gone g)
           lineCounters := p.lineCounters.keep (fun x _ => !gone (x / granuleLines))
           dirtyNodes := p.dirtyNodes.filter (fun k => !gone (nodeGranule k)) }

/-- A slot that takes a new key set, with the one that a pass moves away from. -/
def newSlot (k : KeySlot) (imported : Bool) (key : Nat) (old : Option Nat) (e0 q0 : Nat) : KeySlot :=
  { source := if imported then .imported else .generated, gen := (k.gen + 1) % 65536, keySet := some key, old := old,
    e0 := e0, q0 := q0 }

/-- Set a slot and its state of loss. (DESIGN CHOICE, log entry 95). -/
def Prot.putSlot (p : Prot) (n : Nat) (k : KeySlot) : Prot :=
  { p with slots := p.slots.set {} n k, slotLost := p.slotLost.filter (· != n), slotBad := p.slotBad.filter (· != n) }

/-- Nonces after OFFICER_SET: an index whose key is replaced starts at zero (R240). -/
def setNonces (old new : List KeyName) (l : List (BitVec 64)) : List (BitVec 64) :=
  (List.range 4).map (fun i => if old[i]? = new[i]? then l.getD i 0 else 0)

/-- A destroyed slot: SOURCE none (R222). -/
def emptySlot (k : KeySlot) : KeySlot := { gen := k.gen }

/-- Protection once a motion has taken effect. (DEDUCED, log entry 94). (DEDUCED, log entry 96). -/
def Prot.effect (p : Prot) (l : Lodged) : Prot :=
  let old n := (p.slots.get {} n).keySet
  match l.motion.args with
  | .officerSet keys => { p with officers := keys, nonces := setNonces p.officers keys p.nonces }
  | .rangeDefine n integ erase imported base size _ =>
    let p := p.putSlot n (newSlot (p.slots.get {} n) imported l.key (if erase then none else old 0) l.e0 l.q0)
    let new := freeGranules p.granules size
    let p := if integ then { (p.zeroTrees (fun g => new.contains g)) with granules := giveGranules p.granules n size } else p
    { p with ranges := p.ranges.set {} n ⟨true, base, size, integ⟩
             integState := p.integState.set .off n (if integ then .verified else .off) }
  | .rangeDelete n erase =>
    let d := p.ranges.get {} n
    let k := p.slots.get {} n
    let p := if erase then p.putSlot n (emptySlot k)
      else p.putSlot n { (emptySlot k) with old := k.keySet, e0 := l.e0, q0 := l.q0 }
    { p with ranges := p.ranges.set {} n (if erase then {} else { d with valid := false, integ := false })
             granules := dropGranules p.granules n, integState := p.integState.set .off n .off }
  | .rekey n integ imported _ =>
    let d := p.ranges.get {} n
    let was := p.integState.get .off n
    let p := p.putSlot n (newSlot (p.slots.get {} n) imported l.key (old n) l.e0 l.q0)
    let g := if integ && !d.integ then giveGranules p.granules n d.size
      else if !integ then dropGranules p.granules n else p.granules
    let p := { (p.zeroTrees (fun i => g.find i == some n || p.granules.find i == some n)) with granules := g }
    if n = 0 then p
    else { p with ranges := p.ranges.set {} n { d with integ := integ }
                  integState := p.integState.set .off n
                    (if !integ then .off else if was == .unverified then .unverified else .verified) }
  | .bind pt k i n =>
    { p with bindings := p.bindings.filter (fun e => !decide (e.1 = ⟨pt, k, i⟩)) ++ [(⟨pt, k, i⟩, n)] }
  | .unbind pt k i => { p with bindings := p.bindings.filter (fun e => !decide (e.1 = ⟨pt, k, i⟩)) }
  | .anchor d => { p with anchor := d }
  | .factoryUnlock .. => { p with slots := p.slots.mapVals (fun _ k => emptySlot k), unlock := true }
  | .eraseAuth _ => p

/-! ### The keep group of a motion (R241, R284) -/

/-- Protection as the keep shadow holds it, with every group that is being written. -/
def State.shadowProt (s : State) : Prot :=
  { s.restoreProt.prot with
    slots := (List.range 17).foldl (fun t n => match s.keptSlot n with
      | some k => t.set {} n k
      | none => t) [] }

/-- The pages that hold protection (Table 13-4), as a protection state fills them. -/
def Prot.pages (p : Prot) (pcycle : Nat) : List (Nat × PageData) :=
  [(2, .roots p.roots p.granules pcycle), (4, .officers (p.officers.take 2)), (5, .officers (p.officers.drop 2)),
    (6, .anchor p.anchor p.unlock), (13, .ranges p.ranges)]
  ++ (List.range 9).map (fun k => (14 + k, .granules (p.granules.keep (fun g _ => g / granulesPerPage == k))))
  ++ (List.range 17).map (fun n => (23 + n, .keySlot (p.slots.get {} n)))
  ++ (List.range 69).map (fun k => (40 + k, .bindings ((p.bindings.drop (60 * k)).take 60)))

/-- Two pages hold the same. -/
def samePage (a b : PageData) : Bool := a == b

/-- Pages that a motion changes. -/
def changedPages (a b : Prot) (pcycle : Nat) : List (Nat × PageData) :=
  ((a.pages pcycle).zip (b.pages pcycle)).filterMap (fun e => if samePage e.1.2 e.2.2 then none else some e.2)

/-- A motion begins to apply: its effect and the nonces are written as a group (R241). -/
def State.beginApply (s : State) (l : Lodged) (seconder : Nat) (path : Option CmdPath) : State :=
  let key := match l.motion.args with
    | .rangeDefine _ _ _ _ _ _ (some b) => 2 * b + 1
    | .rekey _ _ _ (some b) => 2 * b + 1
    | _ => 2 * s.free
  let l := { l with seconder := seconder, path := path, key := key, e0 := s.xlat.sbe, q0 := s.xlat.seq }
  let a := { s.shadowProt with roots := s.prot.roots }
  let b := a.effect l
  let nonces := match l.motion.args with
    | .officerSet keys => setNonces s.prot.officers keys s.prot.nonces
    | _ => s.prot.nonces
  let s := (s.tick).keepGroup (changedPages a b s.keep.pcycle.value) nonces
  let l := { l with group := s.keep.groupCounter }
  let rest := dropMotion l.motion s.prot.lodged
  ({ s with prot := { s.prot with lodged := rest ++ [l] } }).flash

/-! ### The commands -/

/-- Answer a MOTION or SECOND, and count what Table 10-9 counts of it. (DEDUCED, log entry 91). -/
def State.motionReply (s : State) (p : CmdPath) (reason : Nat) (m : Motion) (state : Nat) : State :=
  let s := if reason = 0 then s
    else if reason = 5 then s.bump Reg.PROT_DUP_CNT
    else (s.wr Reg.PROT_MOTION_REJECT_LAST_REASON reason).bump Reg.PROT_MOTION_REJECT_COUNT
  s.reply p .success 0 [reason, if state = 0 then s.motionState m else state]

/-- MOTION (R237): an accepted one is Lodged, and its nonce is its officer's highest; the first OFFICER_SET needs no
second (R234). -/
def State.motion (s : State) (p : CmdPath) (m : Motion) : State :=
  let r := s.motionReason m
  if r ≠ 0 then s.motionReply p r m 0
  else
    let l : Lodged := ⟨m, s.stroke, none, 255, 0, false, 0, 0, 0⟩
    let n := if unsignedSet m then s.prot.nonces else s.prot.nonces.set m.officer m.nonce
    let s := { s with prot := { s.prot with lodged := s.prot.lodged ++ [l], nonces := n } }
    if unsignedSet m then (s.beginApply l 255 none).motionReply p 0 m 0 else s.motionReply p 0 m 0

def execMotion (p : CmdPath) (m : Motion) (s : State) : Host.Outcome State Fault Refusal :=
  done s (s.command p (.motion p m) .mgmt false (fun s => s.motion p m))

/-- Draw a new challenge (R244). (DEDUCED, log entry 93). -/
def State.newChallenge (s : State) : State :=
  ({ s with prot := { s.prot with challenge := Config.drawn s.free } }).tick

/-- A motion leaves the device without effect. -/
def State.dropMotion (s : State) (m : Motion) : State :=
  let s := { s with prot := { s.prot with lodged := s.prot.lodged.filter (fun l => !decide (l.motion = m)) } }
  if kindOf m.args = 8 then s.newChallenge else s

/-- SECOND (R237, R238): the argument and conflict checks of its motion are made again; a motion that fails them is
Refused, another one begins to apply. -/
def State.second (s : State) (p : CmdPath) (m : Second) : State :=
  let r := s.secondReason m
  if r ≠ 0 then s.motionReply p r m.motion 0
  else match s.findLodged m.motion with
    | none => s
    | some l =>
      let again := s.againReason l.motion
      if again ≠ 0 then (s.dropMotion l.motion).motionReply p again l.motion 5
      else s.beginApply l m.officer (some p)

def execSecond (p : CmdPath) (m : Second) (s : State) : Host.Outcome State Fault Refusal :=
  done s (s.command p (.second p m) .mgmt false (fun s => s.second p m))

/-- MOTION_STATUS (R239): Lodged, Applied or unknown. -/
def execMotionStatus (p : CmdPath) (m : Motion) (s : State) : Host.Outcome State Fault Refusal :=
  done s (s.command p (.motionStatus p m) .mgmt false (fun s =>
    s.reply p .success 0 [0, if s.motionState m = 2 then 0 else s.motionState m]))

/-- MOTION_LAPSE (R238): 120 s have passed. -/
def execMotionLapse (m : Motion) (s : State) : Host.Outcome State Fault Refusal :=
  done s (
    match s.findLodged m with
    | some l =>
      if l.group = 0 && decide (l.stroke + lodgeStrokes < s.stroke) then (s.dropMotion m).bump Reg.PROT_LAPSE_CNT else s
    | none => s)

/-- A re-key pass is queued with its device-internal write (R190, R221). -/
def State.queuePass (s : State) (r : Rekey) : State :=
  let lines := unit256M / 64
  let i : Internal := if r.range = 0 then { kind := .rekey, first := 0, count := s.capLines }
    else { kind := .rekey, first := r.base * lines, count := r.size * lines }
  ({ s with prot := { s.prot with rekeys := s.prot.rekeys ++ [r] } }).queueInternal i

/-- What a motion's effect starts (Table 10-5). -/
def State.startedBy (s : State) (before : Tab RangeDef) (a : MotionArgs) : State :=
  match a with
  | .officerSet _ =>
    let gone := s.onlyLodged
    let s := { s with prot := { s.prot with lodged := s.prot.lodged.filter (fun l => l.group != 0) } }
    let s := if gone.any (fun l => kindOf l.motion.args == 8) then s.newChallenge else s
    s.bump Reg.PROT_LAPSE_CNT gone.length
  | .rangeDefine n _ erase _ base size _ =>
    if erase then s.queueRelease base size else s.queuePass ⟨n, base, size, false⟩
  | .rangeDelete n erase =>
    let d := before.get {} n
    if erase then s.queueRelease d.base d.size else s.queuePass ⟨n, d.base, d.size, true⟩
  | .rekey n _ _ _ =>
    let d := before.get {} n
    s.queuePass ⟨n, d.base, d.size, false⟩
  | .factoryUnlock .. => s.newChallenge
  | .eraseAuth w => { s with prot := { s.prot with eraseAuth := some (w, s.stroke) } }
  | _ => s

/-- One motion takes effect (R241). -/
def State.applyMotion (s : State) (l : Lodged) : State :=
  let before := s.prot.ranges
  let p := s.prot.effect l
  let kept := p.applied.drop (p.applied.length - 15)
  let rest := p.lodged.filter (fun x => !decide (x.motion = l.motion))
  let s := { s with prot := { p with lodged := rest, applied := kept ++ [l.motion] } }
  let s := (s.startedBy before l.motion.args).bump Reg.PROT_MOTION_CNT
  let s := s.chronicle 0x0500 0x4C 0 (leBytes 2 (kindOf l.motion.args) ++ [l.motion.officer % 256, l.seconder % 256])
  match l.path with
  | some c => s.reply c .success 0 [0, 3]
  | none => s

/-- MOTION_APPLY (R241): at the first stroke boundary after its keep write. -/
def execMotionApply (s : State) : Host.Outcome State Fault Refusal :=
  done s ((s.prot.lodged.filter (·.kept)).foldl (fun s l => s.applyMotion l) s)

/-- No line of the span is held under the old key set (R221). -/
def State.passDone (s : State) (r : Rekey) : Bool :=
  s.rekeyLeft r == [] && s.rekeyPool r == []
    && (match s.internals with
      | i :: _ => i.kind == .rekey && i.walked
      | [] => false)

/-- REKEY_PASS_END (R221): the old key set is destroyed and the end is written to the keep. -/
def execRekeyPassEnd (s : State) : Host.Outcome State Fault Refusal :=
  done s (
    match s.prot.rekeys with
    | [] => s
    | r :: rest =>
      if !s.passDone r then s
      else
        let k := s.prot.slots.get {} r.range
        let k' := if r.deleting then emptySlot k else { k with old := none, e0 := 0, q0 := 0 }
        let d := s.prot.ranges.get {} r.range
        let s := ({ s with prot := { s.prot with
          rekeys := rest, slots := s.prot.slots.set {} r.range k'
          ranges := if r.deleting then s.prot.ranges.del r.range else s.prot.ranges
          integState := if d.integ then s.prot.integState.set .off r.range .verified else s.prot.integState } }).endInternal
        let s := s.keepWrite (23 + r.range) (.keySlot k')
        (if r.deleting then s.keepWrite 13 (.ranges s.prot.ranges) else s).flash)

/-- ERASE_AUTH_EXPIRY (R222): 120 s after it was applied. -/
def execEraseAuthExpiry (s : State) : Host.Outcome State Fault Refusal :=
  done s (
    match s.prot.eraseAuth with
    | some (_, st) =>
      if st + lodgeStrokes < s.stroke then { s with prot := { s.prot with eraseAuth := none } } else s
    | none => s)

/-- KEY_SLOT_REUNSEAL (R219): a slot with a detected error in both copies comes from the keep again, or is lost. -/
def execKeySlotReunseal (range : Nat) (keepGood : Bool) (s : State) : Host.Outcome State Fault Refusal :=
  done s (
    if !s.prot.slotBad.contains range then s
    else
      let lost := if keepGood then s.prot.slotLost else s.prot.slotLost ++ [range]
      ({ s with prot := { s.prot with slotBad := s.prot.slotBad.filter (· != range), slotLost := lost } }).wakeAll)

/-! ### IDE and SPDM (R242, R243) -/

def State.ideStream (s : State) (p l : Nat) : IdeStream := s.prot.ide.get {} (2 * p + l)

def State.setStream (s : State) (p l : Nat) (x : IdeStream) : State :=
  { s with prot := { s.prot with ide := s.prot.ide.set {} (2 * p + l) x } }

/-- Keys of one direction. -/
def IdeStream.keys (x : IdeStream) : IdeDir → IdeKeys
  | .rx => x.rx
  | .tx => x.tx

def IdeStream.setKeys (x : IdeStream) (d : IdeDir) (k : IdeKeys) : IdeStream :=
  match d with
  | .rx => { x with rx := k }
  | .tx => { x with tx := k }

/-- A key set has been programmed. -/
def IdeKeys.has (k : IdeKeys) (n : Nat) : Bool := if n = 0 then k.set0.isSome else k.set1.isSome

/-- IDE state of a link (`PORT_LINK_STATUS.IDE`). -/
def State.ideState (s : State) (p l : Nat) : Nat :=
  if l = 0 then s.rd Reg.PORT_LINK_STATUS0_IDE p else s.rd Reg.PORT_LINK_STATUS1_IDE p

/-- IDE key management is open on a link: it is up, in an SPDM secure session of its port. -/
def State.ideOpen (s : State) (p l : Nat) : Bool :=
  decide (p < 4) && decide (l < 2) && s.linkUp p l && s.prot.spdm.contains p

/-- IDE_KEY_PROG (R243). -/
def execIdeKeyProg (port link : Nat) (dir : IdeDir) (keySet : Nat) (key : KeyName) (s : State) :
    Host.Outcome State Fault Refusal :=
  done s (
    if !s.ideOpen port link || decide (1 < keySet) then s
    else
      let x := s.ideStream port link
      let k := x.keys dir
      let k := if keySet = 0 then { k with set0 := some key } else { k with set1 := some key }
      s.setStream port link (x.setKeys dir k))

/-- IDE_K_SET_GO (R243): a stream is secure once K_SET_GO has been given for both directions. -/
def execIdeKSetGo (port link : Nat) (dir : IdeDir) (keySet : Nat) (s : State) : Host.Outcome State Fault Refusal :=
  done s (
    let x := s.ideStream port link
    let k := x.keys dir
    if !s.ideOpen port link || decide (1 < keySet) || !k.has keySet then s
    else
      let x := x.setKeys dir { k with going := some keySet }
      let s := s.setStream port link x
      if x.rx.going.isSome && x.tx.going.isSome then s.setIde port link 1 else s)

/-- IDE_K_SET_STOP (R243). -/
def execIdeKSetStop (port link : Nat) (dir : IdeDir) (keySet : Nat) (s : State) : Host.Outcome State Fault Refusal :=
  done s (
    let x := s.ideStream port link
    let k := x.keys dir
    if !s.ideOpen port link || k.going != some keySet then s
    else
      let s := s.setStream port link (x.setKeys dir { k with going := none })
      if s.ideState port link = 1 then s.setIde port link 0 else s)

/-- An image as a measurement names it. -/
def reportDigest (r : Option ImageReport) : List Nat :=
  match r with
  | some r => [r.version, r.imageClass.toNat, r.length, if r.compact then 1 else 0]
  | none => []

/-- The content that a measurement covers (Table 10-8), standing for its digest. -/
def State.measured (s : State) (index : Nat) : List Nat :=
  match index with
  | 1 => [baseSet.arrayRead, baseSet.suspend, baseSet.tAge]
  | 2 => reportDigest s.descr.active
  | 3 => [s.prot.anchor]
  | 4 => s.prot.officers
  | 5 => s.prot.ranges.flatMap (fun e => [e.1, if e.2.valid then 1 else 0, e.2.base, e.2.size, if e.2.integ then 1 else 0])
      ++ s.prot.bindings.flatMap (fun e => [e.1.port, e.1.kind, e.1.id, e.2])
  | _ => s.keptRoots.flatMap (fun e => [e.1, e.2]) ++ [s.keep.pcycle.value]

/-- A port's CXL.io answers: the package rails are up and PERST_N is high (R271). -/
def State.ioUp (s : State) (port : Nat) : Bool :=
  decide (port < 4) && (s.isSeq .pkgOn || s.isSeq .mediaUp || s.isSeq .on) && !s.perst.contains port

/-- SPDM_GET_MEASUREMENTS (R242). -/
def execSpdmGetMeasurements (port : Nat) (index : Nat) (s : State) : Host.Outcome State Fault Refusal :=
  done s (if s.ioUp port && decide (1 ≤ index) && decide (index ≤ 6) then s.emit (.spdm port index (s.measured index)) else s)

/-- SPDM_SECURE_SESSION (R243): a session on the port's DOE has been set up, or has ended. -/
def execSpdmSecureSession (p : CmdPath) (ok : Bool) (s : State) : Host.Outcome State Fault Refusal :=
  done s (
    if !s.ioUp p.port then s
    else if !ok then { s with prot := { s.prot with spdm := s.prot.spdm.filter (· != p.port) } }
    else if s.prot.spdm.contains p.port then s
    else { s with prot := { s.prot with spdm := s.prot.spdm ++ [p.port] } })

/-- PROT_CNT_CLR (R245). -/
def execProtCntClr (v : Word) (s : State) : Host.Outcome State Fault Refusal :=
  done s (if v.toNat % 2 = 1 then s.askClear .prot else s)

end Sys2Proof.Machine
end

