-- ==== Sys2Proof/Machine/CacheFamily.lean ====
section
/-! DEFINITION. Way groups, read cache and device-internal writes (chapter Caches and Coherence, with R136, R203, R334 and
R335): CACHE_WAY_CFG_WRITE, WAY_GROUP_CLEANING_END, CACHE_RC_CFG_WRITE, BACK_INVALIDATE_WALK_END, CACHE_CNT_CLR,
CACHE_RC_CNT_CLR, DIR_CNT_CLR, RELEASE_RANGE, RELEASE_RANGE_COMPLETE, INJECT_POISON, CLEAR_POISON, SANITIZE, SECURE_ERASE
and SANITIZE_COMPLETE. -/

namespace Sys2Proof.Machine

/-! ### Way groups (R172) -/

/-- CACHE_WAY_CFG_WRITE (R172): GROUP_EN takes its effect at the next stroke boundary. -/
def execCacheWayCfgWrite (slice : Nat) (v : Word) (s : State) : Host.Outcome State Fault Refusal :=
  done s (if 4 ≤ slice then s else s.wr Reg.CACHE_WAY_CFG_GROUP_EN (v.toNat % 256) slice)

/-- `CACHE_WAY_STATUS` of a slice. -/
def State.showWays (s : State) (i : Nat) : State :=
  (s.wr Reg.CACHE_WAY_STATUS_ENABLED (s.cache.enabled.getD i 0) i).wr Reg.CACHE_WAY_STATUS_CLEANING (s.cache.cleaning.getD i 0) i

/-- Set the masks of a slice. (DEDUCED, log entry 63). -/
def State.setWays (s : State) (i en cl : Nat) : State :=
  ({ s with cache := { s.cache with enabled := s.cache.enabled.set i en, cleaning := s.cache.cleaning.set i cl } }).showWays i

/-- One slice at a stroke boundary: enabled groups whose bit is clear start cleaning; groups that are off and not cleaning
are enabled, empty. -/
def State.waysBoundary (s : State) (i : Nat) : State :=
  let cfg := s.rd Reg.CACHE_WAY_CFG_GROUP_EN i
  let en := s.cache.enabled.getD i 0
  let cl := s.cache.cleaning.getD i 0
  let bit (m g : Nat) : Bool := m / 2 ^ g % 2 == 1
  let pick (p : Nat → Bool) : Nat := ((List.range 8).filter p).foldl (fun a g => a + 2 ^ g) 0
  s.setWays i (pick (fun g => bit cfg g && (bit en g || !bit cl g))) (pick (fun g => bit cl g || (bit en g && !bit cfg g)))

/-- A way belongs to a group. -/
def groupOf (way : Nat) : Nat := way / 2

/-- Some line of the group has a write-through that has not merged. -/
def State.groupBusy (s : State) (slice group : Nat) : Bool :=
  s.cache.lines.any (fun e => e.1 % 4 == slice && groupOf e.2.way == group
    && (match s.cache.busy.find (e.1 / 4) with
      | some b => b.wtPend.contains slice
      | none => false))

/-- WAY_GROUP_CLEANING_END (R172): every line of the group is invalidated and the group powers down. -/
def execWayGroupCleaningEnd (slice group : Nat) (s : State) : Host.Outcome State Fault Refusal :=
  done s (
    let cl := s.cache.cleaning.getD slice 0
    if 4 ≤ slice || cl / 2 ^ group % 2 = 0 || s.groupBusy slice group then s
    else
      let lines := s.cache.lines.keep (fun k e => !(k % 4 == slice && groupOf e.way == group))
      (({ s with cache := { s.cache with lines := lines } }).setWays slice (s.cache.enabled.getD slice 0)
        (cl - 2 ^ group)).sliceCount)

/-- CACHE_RC_CFG_WRITE (R176): EN takes its effect at the next stroke boundary. -/
def execCacheRcCfgWrite (v : Word) (s : State) : Host.Outcome State Fault Refusal :=
  done s ((s.setBit Reg.CACHE_RC_CFG_EN (v.getLsbD 0)).setBit Reg.CACHE_RC_CFG_SPEC_FILL_EN (v.getLsbD 1))

/-- CACHE_CNT_CLR (R192). -/
def execCacheCntClr (slice : Nat) (v : Word) (s : State) : Host.Outcome State Fault Refusal :=
  done s (if clrBit v && decide (slice < 4) then s.askClear (.slice slice) else s)

/-- CACHE_RC_CNT_CLR (R192). -/
def execCacheRcCntClr (v : Word) (s : State) : Host.Outcome State Fault Refusal :=
  done s (if clrBit v then s.askClear .rc else s)

/-- DIR_CNT_CLR (R193). -/
def execDirCntClr (v : Word) (s : State) : Host.Outcome State Fault Refusal :=
  done s (if clrBit v then s.askClear .dir else s)

/-! ### What a device-internal write does once its walks have ended (R190) -/

/-- Merge a device-internal write; a set without room takes it all the same. (DEDUCED, log entry 64). -/
def State.internalMerge (s : State) (w : WriteIn) : State :=
  let s := s.overtake w.line
  match s.entry w.line with
  | some e => s.mergeWrite w e.set
  | none => match s.recordFor w.line with
    | .free h => s.mergeWrite w h
    | .release l h => (s.dropEntry l).mergeWrite w h
    | .none => s.mergeWrite w (Config.setHash 0 w.line)

/-- A whole line of data, or the poison pattern. -/
def wholeWrite (line : Nat) (data : LineData) (poison : Bool) : WriteIn :=
  { line := line, data := data, be := fullMask, poison := poison }

/-- Answer the command of a device-internal write, if a command asked for it. -/
def State.internalReply (s : State) (p : Option CmdPath) : State :=
  match p with
  | some c => s.reply c .success
  | none => s

/-- Number of tracts wholly inside a line range; the last tract of the device ends with the exported capacity (Table 6-1).
(DEDUCED, log entry 66). -/
def State.tractsInside (s : State) (first count : Nat) : Nat :=
  let lo := (first + tractLines - 1) / tractLines
  let hi := if s.capLines ≤ first + count then (s.capLines + tractLines - 1) / tractLines else (first + count) / tractLines
  hi - lo

/-- Whole logical pages inside a line range: first, and number. -/
def pagesInside (first count : Nat) : Nat × Nat :=
  let lo := (first + 63) / 64
  let hi := (first + count) / 64
  (lo, hi - lo)

/-- A tract lies wholly inside a line range. -/
def State.tractWithin (s : State) (first count t : Nat) : Bool :=
  decide (first ≤ t * tractLines) && (decide ((t + 1) * tractLines ≤ first + count) || decide (s.capLines ≤ first + count))

/-- Whole pages of a range that lie in tracts not wholly inside it (R136). -/
def State.edgePages (s : State) (first count : Nat) : List Nat :=
  let (lo, n) := pagesInside first count
  let a := (List.range (min n 1792)).map (fun i => lo + i)
  let b := (List.range (min n 1792)).map (fun i => lo + n - 1 - i)
  (a ++ (b.filter (fun x => !a.contains x))).filter (fun lpn => !s.tractWithin first count (tractOfLpn lpn))

/-! ### Sanitize and Secure Erase (R334) -/

/-- Step 2: entries, cells, caches and fluid table are emptied; pending points complete, with no pinned lines uncovered. -/
def State.eraseStep2 (s : State) : State :=
  let tracts := s.xlat.tracts.foldl (fun (t : Tab Tract) e => t.set {} e.1 { e.2 with hasLifted := false }) []
  let blocks := s.xlat.blocks.foldl (fun (t : Tab Block) e => t.set {} e.1 { e.2 with valid := 0, lifted := 0 }) []
  let s := s.forgetReads (fun _ => true) true
  let s := { s with
    merge := { s.merge with entries := [], cells := [] }
    cache := { s.cache with lines := [], fills := [], plru := [], rc := [], victims := [], purges := [], dirWay := [], dirPlru := [] }
    sched := { s.sched with jobs := s.sched.jobs.keep (fun _ j => j.why != JobWhy.fill) }
    xlat := { s.xlat with tracts := tracts, blocks := blocks, fluid := [], valid := [], copies := [], settles := [], gather := [] } }
  let s := s.merge.points.foldl (fun s p => s.endPoint p []) s
  (s.mergeCounts.sliceCount).poolCounts

/-- A key slot destroyed and generated anew, its old set marked destroyed. -/
def State.eraseSlot (s : State) (n : Nat) : State :=
  let k : KeySlot := s.prot.slots.get {} n
  let k' := { newSlot k false (2 * s.free) none s.xlat.sbe s.xlat.seq with destroyed := true }
  let p := s.prot.putSlot n k'
  ({ s with prot := { s.prot with slots := p.slots, slotLost := p.slotLost, slotBad := p.slotBad } }).tick

/-- Slot pages as they stand. -/
def State.slotPages (s : State) : List (Nat × PageData) :=
  (List.range 17).map (fun n => (23 + n, PageData.keySlot (s.prot.slots.get {} n)))

/-- Step 3: key slots, counter trees and roots, in one keep group. -/
def State.eraseStep3 (s : State) : State :=
  let s := (List.range 17).foldl (fun s n => s.eraseSlot n) s
  let p := s.prot.zeroTrees (fun _ => true)
  let st := p.integState.mapVals (fun _ (x : IntegState) => if x = .unverified then IntegState.verified else x)
  let s := ({ s with prot := { s.prot with
    roots := p.roots, lineCounters := p.lineCounters, dirtyNodes := p.dirtyNodes, integState := st } }).nodeCounts
  (s.keepGroup ((2, s.page2) :: s.slotPages) s.prot.nonces).flash

/-- The running write takes a change. -/
def State.setInternal (s : State) (f : Internal → Internal) : State :=
  match s.internals with
  | [] => s
  | i :: r => { s with internals := f i :: r }

/-- The keep group of step 3 has been committed. -/
def State.groupDone (s : State) (g : Nat) : Bool := !s.keep.groupPages.any (fun e => e.1 == g)

/-- Step 4: every tract becomes Unmapped, home, hot and cold blocks are queued for precondition, and the poison list is
emptied. (DEDUCED, log entry 61). -/
def State.eraseStep4 (s : State) : State :=
  let tracts := s.xlat.tracts.foldl (fun (t : Tab Tract) e => t.set {} e.1 { lw := s.lwNow }) []
  let bs := (s.xlat.blocks.filter (fun e => e.2.pool == .home || e.2.pool == .hot || e.2.pool == .cold)).map (·.1)
  let s := { s with
    ops := [], deltas := []
    xlat := { s.xlat with tracts := tracts, fluid := [], valid := [], opens := [], moves := [], moveQ := [], copies := [], settles := [],
                          gather := [] }
    err := { s.err with rewrites := [], refresh := [], wake := [] } }
  let s := bs.foldl (fun s b => s.retireOrQueue b) s
  let left := bs.filter (fun b => s.xlat.precondQ.contains b)
  (({ s with prot := { s.prot with eraseLeft := left } }).setPoison []).poolCounts

/-- Record of the end (Table 15-12). -/
def State.eraseRecord (s : State) (what : Nat) : State := s.chronicle 0x0907 0x50 0 [what]

/-- Step 4 at a stroke boundary, once the keep group is committed; Secure Erase completes there. -/
def State.eraseBoundary (s : State) (i : Internal) : State :=
  if i.group = 0 || !s.groupDone i.group then s
  else
    let s := s.eraseStep4.endInternal
    match i.kind, i.path with
    | .secureErase, some p => (s.eraseRecord 2).bgDone p .secureErase .success 0 []
    | .sanitize, p => { s with prot := { s.prot with erasePath := p } }
    | _, _ => s

/-! ### The walks end -/

/-- No host or slice copy of the range is left, and no snoop of it is outstanding. -/
def State.walked (s : State) : Bool :=
  s.internalHosts == [] && !s.cache.snoops.any (fun x => (s.internalOn x.line).isSome)
    && !s.cache.evicting.any (fun l => (s.internalOn l).isSome) && !s.cache.busy.any (fun e => (s.internalOn e.1).isSome)

/-- The write takes its place after the write-backs. -/
def State.placeInternal (s : State) (i : Internal) : State :=
  match i.kind with
  | .injectPoison => (((s.internalMerge (wholeWrite i.first 0 true)).poisonAdd i.first .injected).endInternal).internalReply i.path
  | .poisonClear => ((s.internalMerge (wholeWrite i.first i.data false)).endInternal).internalReply i.path
  | .releaseRange => s.setInternal (fun i => { i with walked := true, left := s.edgePages i.first i.count })
  | .rekey => s.setInternal (fun i => { i with walked := true })
  | .sanitize | .secureErase =>
    let s := s.eraseStep2.eraseStep3
    s.setInternal (fun i => { i with walked := true, group := s.keep.groupCounter })

/-- BACK_INVALIDATE_WALK_END (R190). -/
def execBackInvalidateWalkEnd (s : State) : Host.Outcome State Fault Refusal :=
  done s (
    match s.internals with
    | [] => s
    | i :: _ =>
      if i.walked then s
      else
        let s := s.sweepInternal
        if s.walked then s.placeInternal i else s)

/-! ### RELEASE RANGE (R136) -/

/-- Entries and fluid entries of a tract go. -/
def State.emptyTract (s : State) (t : Nat) : State :=
  let s := s.forgetReads (fun l => tractOf l == t) true
  let s := { s with merge := { s.merge with entries := s.merge.entries.keep (fun l _ => tractOf l != t) } }
  let s := { s with xlat := { s.xlat with
    copies := s.xlat.copies.filter (fun c => tractOfLpn c.lpn != t), settles := s.xlat.settles.filter (fun c => tractOfLpn c.lpn != t)
    moves := s.xlat.moves.filter (fun m => m.tract != t), moveQ := s.xlat.moveQ.filter (· != t) } }
  let jobs := s.sched.jobs.keep (fun _ j => !(j.why == JobWhy.fill && tractOf j.line == t))
  let s := { s with sched := { s.sched with jobs := jobs } }
  (((s.xlat.fluid.filter (fun e => tractOfLpn e.1 == t)).map (·.1)).foldl (fun s lpn => s.dropFluid lpn) s).mergeCounts

/-- One tract is released: Unmapped, with its last-write epoch of now; its blocks are queued for precondition.
(DESIGN CHOICE, log entry 60). -/
def State.releaseTract (s : State) (t : Nat) : State :=
  let s := s.emptyTract t
  let x := s.tract t
  let s := s.setTract t { lw := s.lwNow }
  let s := s.retireOrQueue x.sb
  let s := if x.state = .inTransit && !x.zeroSrc then s.retireOrQueue x.src else s
  s.poolCounts

/-- One page is written with zeros. -/
def State.zeroPage (s : State) (lpn : Nat) : State :=
  (List.range 64).foldl (fun s ln => s.internalMerge (wholeWrite (64 * lpn + ln) 0 false)) s

/-- Mapped tracts wholly inside the range. -/
def State.mappedInside (s : State) (i : Internal) : List Nat :=
  (s.xlat.tracts.filter (fun e => e.2.state != TractState.unmapped && s.tractWithin i.first i.count e.1)).map (·.1)

/-- Lines of Unmapped tracts wholly inside the range that have entries. -/
def State.dirtyInside (s : State) (i : Internal) : Bool :=
  s.merge.entries.any (fun e => s.tractWithin i.first i.count (tractOf e.1))

/-- Entries of Unmapped tracts wholly inside the range are discarded. -/
def State.discardInside (s : State) (i : Internal) : State :=
  let gone (l : Nat) : Bool :=
    s.tractWithin i.first i.count (tractOf l) && (s.tract (tractOf l)).state == TractState.unmapped
  let s := s.forgetReads gone true
  ({ s with merge := { s.merge with entries := s.merge.entries.keep (fun l _ => !gone l) } }).mergeCounts

/-- A stroke boundary of a RELEASE RANGE whose walks have ended: one tract, or one page, is released.
(DEDUCED, log entry 66). -/
def State.releaseBoundary (s : State) (i : Internal) : State :=
  match s.mappedInside i with
  | t :: _ => s.releaseTract t
  | [] => match i.left with
    | lpn :: r => (s.zeroPage lpn).setInternal (fun i => { i with left := r })
    | [] => s.discardInside i

/-- The running device-internal write at a stroke boundary. -/
def State.internalBoundary (s : State) : State :=
  match s.internals with
  | [] => s
  | i :: _ =>
    if !i.walked || s.capoHeld then s
    else match i.kind with
      | .releaseRange => s.releaseBoundary i
      | .sanitize => s.eraseBoundary i
      | .secureErase => s.eraseBoundary i
      | _ => s

/-- RELEASE_RANGE_COMPLETE (R136): every page has been released, and the counts are returned. -/
def execReleaseRangeComplete (s : State) : Host.Outcome State Fault Refusal :=
  done s (
    match s.internals with
    | [] => s
    | i :: _ =>
      if !(i.kind == .releaseRange) || !i.walked || i.left != [] || s.mappedInside i != [] || s.dirtyInside i then s
      else
        let s := s.endInternal
        match i.path with
        | some p => s.bgDone p .releaseRange .success 0 (leBytes 8 i.pagesIn ++ leBytes 8 i.tractsIn)
        | none => s)

/-- A range of 4 KiB units (R336). -/
def wholePages (start length : Nat) : Bool := start % 4096 == 0 && length % 4096 == 0

/-- Put a piece into device order. -/
def pieceInsert (x : Nat × Nat) : List (Nat × Nat) → List (Nat × Nat)
  | [] => [x]
  | y :: r => if x.1 ≤ y.1 then x :: y :: r else y :: pieceInsert x r

/-- Put a piece in front of those behind it, joining the one it touches. -/
def pieceJoin (x : Nat × Nat) : List (Nat × Nat) → List (Nat × Nat)
  | [] => [x]
  | y :: r => if x.1 + x.2 = y.1 then (x.1, x.2 + y.2) :: r else x :: y :: r

/-- Pieces of a range in device order, with pieces that touch made one: a tract may lie across two of them. -/
def joinPieces (l : List (Nat × Nat)) : List (Nat × Nat) := (l.foldr pieceInsert []).foldr pieceJoin []

/-- The device-internal writes of a RELEASE RANGE, one for each piece of its range; the last one answers. -/
def releaseJobs (p : CmdPath) (pages tracts : Nat) : List (Nat × Nat) → List Internal
  | [] => []
  | [(f, n)] => [{ kind := .releaseRange, first := f, count := n, path := some p, pagesIn := pages, tractsIn := tracts }]
  | (f, n) :: r => { kind := .releaseRange, first := f, count := n } :: releaseJobs p pages tracts r

/-- RELEASE_RANGE (R136, Table 15-3): a background operation. -/
def execReleaseRange (p : CmdPath) (start length : Nat) (s : State) : Host.Outcome State Fault Refusal :=
  done s (s.command p (.releaseRange p start length) .any true (fun s =>
    if !wholePages start length then s.reply p .invalidInput
    else match s.cmdRange p start (length / 64) with
      | none => s.reply p .invalidPhysicalAddress
      | some l =>
        if s.bgBusy p || s.internals != [] then s.reply p .busy
        else if length = 0 then s.reply p .success 0 (leBytes 16 0)
        else
          let pages := (l.map (fun e => (pagesInside e.1 e.2).2)).sum
          let tracts := (l.map (fun e => s.tractsInside e.1 e.2)).sum
          ((releaseJobs p pages tracts l).foldl (fun s i => s.queueInternal i) (s.bgStart p .releaseRange)).reply p
            .backgroundStarted))

/-! ### Poison commands (R203, R335) -/

/-- The device line that a command's 64 B-aligned DPA names. -/
def State.cmdLine (s : State) (p : CmdPath) (dpa : Nat) : Option Nat :=
  match s.cmdRange p dpa 1 with
  | some ((l, _) :: _) => some l
  | _ => none

/-- Start a device-internal write of one line. -/
def State.lineCommand (s : State) (p : CmdPath) (dpa : Nat) (kind : InternalKind) (data : LineData) : State :=
  if dpa % 64 ≠ 0 then s.reply p .invalidInput
  else match s.cmdLine p dpa with
    | none => s.reply p .invalidPhysicalAddress
    | some l =>
      if s.internals != [] then s.reply p .busy
      else s.queueInternal { kind := kind, first := l, count := 1, data := data, path := some p }

/-- INJECT_POISON (R203). -/
def execInjectPoison (p : CmdPath) (dpa : Nat) (s : State) : Host.Outcome State Fault Refusal :=
  done s (s.command p (.injectPoison p dpa) .any true (fun s => s.lineCommand p dpa .injectPoison 0))

/-- CLEAR_POISON (R335). -/
def execClearPoison (p : CmdPath) (dpa : Nat) (data : LineData) (s : State) : Host.Outcome State Fault Refusal :=
  done s (s.command p (.clearPoison p dpa data) .any true (fun s => s.lineCommand p dpa .poisonClear data))

/-! ### The erase commands (R222, R334) -/

/-- The erase is authorised: no officer set is in force, or an ERASE_AUTH naming it was applied within 120 s. -/
def State.eraseAllowed (s : State) (what : Nat) : Bool :=
  s.prot.officers == [] || (match s.prot.eraseAuth with
    | some (w, st) => w == what && decide (s.stroke ≤ st + lodgeStrokes)
    | none => false)

/-- An erase of either kind runs. -/
def State.eraseRuns (s : State) : Bool := s.internals != [] || s.prot.erasePath.isSome

/-- Sanitize or Secure Erase starts (R334): each ERASE_AUTH authorises one command. -/
def State.startErase (s : State) (p : CmdPath) (kind : InternalKind) (bg : Background) (what : Nat) : State :=
  if s.bgBusy p || s.eraseRuns then s.reply p .busy
  else if !s.eraseAllowed what then s.reply p .invalidSecurityState
  else
    let s := { s with prot := { s.prot with eraseAuth := if s.prot.officers = [] then s.prot.eraseAuth else none } }
    ((s.bgStart p bg).queueInternal { kind := kind, first := 0, count := s.capLines, path := some p }).reply p .backgroundStarted

/-- SANITIZE (R334). -/
def execSanitize (p : CmdPath) (s : State) : Host.Outcome State Fault Refusal :=
  done s (s.command p (.sanitize p) .admin true (fun s => s.startErase p .sanitize .sanitize 1))

/-- SECURE_ERASE (R334). -/
def execSecureErase (p : CmdPath) (s : State) : Host.Outcome State Fault Refusal :=
  done s (s.command p (.secureErase p) .admin true (fun s => s.startErase p .secureErase .secureErase 2))

/-- The destroyed-key mark is cleared in the keep. -/
def State.unmark (s : State) : State :=
  (s.prot.slots.filter (fun e => e.2.destroyed)).foldl (fun s e =>
    let k' := { e.2 with destroyed := false, e0 := 0, q0 := 0 }
    ({ s with prot := { s.prot with slots := s.prot.slots.set {} e.1 k' } }).keepWrite (23 + e.1) (.keySlot k')) s

/-- SANITIZE_COMPLETE (R334): the last block queued in step 4 has been preconditioned, and the mark is cleared. -/
def execSanitizeComplete (s : State) : Host.Outcome State Fault Refusal :=
  done s (
    if !s.prot.slots.any (fun e => e.2.destroyed) || !s.start.step6 || s.internals.any (fun i => i.group != 0)
        || s.prot.eraseLeft.any (fun b => s.xlat.precondQ.contains b) then s
    else
      let path := s.prot.erasePath
      let s := (({ s with prot := { s.prot with eraseLeft := [], erasePath := none } }).unmark).flash
      match path with
      | some p => (s.eraseRecord 1).bgDone p .sanitize .success 0 []
      | none => s)

end Sys2Proof.Machine
end

