-- ==== Sys2Proof/Machine/PowerOps.lean ====
section
/-! DEFINITION. The power sequencer's shared operations (chapter Power Sequencing and Supervision): rails and PMBus
writes, power-down, power-up failures, capo entry, rail faults, and what the application and removal of AUX do. -/

namespace Sys2Proof.Machine

/-! ### Rails (Table 11-1) and polls -/

/-- Nominal voltage of a rail in mV. -/
def nominal (r : Nat) : Nat := [2500, 750, 800, 1200, 900, 1200, 850, 500, 1800, 900, 500, 3300].getD (r - 1) 0

/-- Good: at least 95 % of nominal. -/
def voltGood (r v : Nat) : Bool := decide (95 * nominal r ≤ 100 * v)

/-- Off: below 10 % of nominal. -/
def voltOff (r v : Nat) : Bool := decide (10 * v < nominal r)

/-- Outside 92 % to 108 % of nominal (R253). -/
def voltBad (r v : Nat) : Bool := decide (100 * v < 92 * nominal r) || decide (108 * nominal r < 100 * v)

/-- Below 90 % of nominal (R258). -/
def voltLow (r v : Nat) : Bool := decide (100 * v < 90 * nominal r)

/-- Bit of a rail in a word of twelve. -/
def railBit (r : Nat) : BitVec 12 := BitVec.ofNat 12 (2 ^ (r - 1))

/-- A secondary PMIC of a rail answered (R247). -/
def State.secondary (s : State) (r : Nat) : Bool :=
  if r ≤ 8 then s.rd Reg.PWR_PRESENT_A_SEC / 2 ^ (r - 1) % 2 == 1 else s.rd Reg.PWR_PRESENT_B_SEC / 2 ^ (r - 9) % 2 == 1

/-- The voltage that judges a rail: the primary's, or the lower of the pair (R247). -/
def State.railVolt (s : State) (q : RailPoll) : Nat := if s.secondary q.rail then min q.vout q.vout2 else q.vout

/-- STATUS_WORD bits of output, current and temperature faults. (PRESUMED, log entry 74). -/
def faultBits : BitVec 16 := 0xC034

/-- The pair reports a fault. -/
def State.pollFault (s : State) (q : RailPoll) : Bool :=
  q.status &&& faultBits != 0 || (s.secondary q.rail && q.status2 &&& faultBits != 0)

/-- A third failure of a transaction: the PMIC is lost (R248). -/
def pollLost (q : RailPoll) : Bool := decide (3 ≤ q.failedTries)

/-- Show a poll in `PWR_RAIL`. -/
def State.showPoll (s : State) (q : RailPoll) : State :=
  if pollLost q then s else (s.wr Reg.PWR_RAIL_VOUT (s.railVolt q) (q.rail - 1)).wr Reg.PWR_RAIL_IOUT q.iout (q.rail - 1)

/-- A PMBus write to the primary, then to the secondary of a rail (R247). -/
def State.toPmics (s : State) (r code data : Nat) : State :=
  let s := s.emit (.pmbus r false code data)
  if s.secondary r then s.emit (.pmbus r true code data) else s

def State.isOn (s : State) (r : Nat) : Bool := s.pwr.onMask.getLsbD (r - 1)

/-- Show a rail good or not. -/
def State.setGood (s : State) (r : Nat) (b : Bool) : State :=
  let m := s.rd Reg.PWR_STATUS_RAIL_GOOD
  let bit := 2 ^ (r - 1)
  s.wr Reg.PWR_STATUS_RAIL_GOOD (if b then Nat.lor m bit else if m / bit % 2 = 1 then m - bit else m)

/-- The highest rail commanded on; 0: none. -/
def State.topRail (s : State) : Nat := ((List.range 12).foldl (fun a i => if s.isOn (i + 1) then i + 1 else a) 0)

/-! ### Power slots (R270, R320) -/

/-- A worker in contact, or the acting manager, waits for a slot; others take it at once. -/
def State.inShelf (s : State) : Bool :=
  s.bit Reg.SHELF_CFG_LINK_EN && (s.bit Reg.SHELF_STATUS_MANAGER || s.bit Reg.SHELF_STATUS_CONTACT)

def State.askSlot (s : State) : State :=
  ({ s with shelf := { s.shelf with granted := none } }).setBit Reg.PWR_STATUS_SLOT_WAIT s.inShelf

/-- Enter LOCKOUT (R250, R261). -/
def State.lockout (s : State) : State := (s.setSeq .lockout).setBit Reg.PWR_FAULT_LOCKOUT true

/-! ### Power-down (R256) -/

/-- What the end of a power-down of media rails leads to (Table 11-5). -/
def State.mediaAllOff (s : State) : State :=
  let s := (s.setSeq .pkgOn).wr Reg.PWR_STATUS_SLOT_WAIT 0
  if s.pwr.after = .mediaStop then
    ({ s with pwr := { s.pwr with mediaDown := false, rail := 0, mediaStopped := true } }).setBit Reg.PWR_FAULT_UP_FAIL true
  else { s with pwr := { s.pwr with mediaDown := false, rail := 0, mediaWait := true } }

/-- All rails are off: OFF_HOLD. -/
def State.allOff (s : State) : State :=
  let s := (s.setSeq .offHold).wr Reg.PWR_LAST_DOWN_DURATION (min 4095 (s.pwr.downPolls / 10))
  { s with pwr := { s.pwr with rail := 0 } }

/-- A rail is off: at rail 2 the core domain has lost its supply. -/
def State.railOff (s : State) (r : Nat) : State :=
  let s := { s with pwr := { s.pwr with onMask := s.pwr.onMask &&& ~~~ railBit r, discharged := false } }
  let s := s.setGood r false
  if r = 2 then s.coldCore else s

/-- Command the next rail off, from the highest one down; a collapsed rail that is already off is passed at once (R258). -/
def State.nextDown (s : State) : Nat → State
  | 0 => s
  | n + 1 =>
    let r := s.topRail
    if s.pwr.mediaDown && r ≤ 8 then s.mediaAllOff
    else if r = 0 then s.allOff
    else
      let collapsed := s.rd Reg.PWR_LAST_DOWN_COLLAPSED / 2 ^ (r - 1) % 2 == 1
      if collapsed && voltOff r (s.rd Reg.PWR_RAIL_VOUT (r - 1)) then (s.railOff r).nextDown n
      else
        let s := (s.toPmics r 0x01 0x00).setGood r false
        { s with pwr := { s.pwr with rail := r, discharged := false } }

/-- Codes of `PWR_LAST_DOWN.CAUSE`. -/
def DownCause.code : DownCause → Nat
  | .none => 0 | .pwrfail => 1 | .shelf => 2 | .railFault => 3 | .thermal => 4 | .upFail => 5

/-- An open image transfer is closed by a reset (R345). -/
def State.closeTransfer (s : State) : State :=
  match s.fw.transfer with
  | none => s
  | some t =>
    let v := (t.header.map (·.version)).getD 0
    let s := ({ s with fw := { s.fw with transfer := none, cmd := none } }).dropImageOps (· == ImageOp.transfer)
    s.chronicle 0x0900 0x50 0 (4 :: leBytes 3 v)

/-- DOWN is entered (R255, R256): media resets go low, Memory Media Status is no longer Ready. -/
def State.powerDown (s : State) (cause : DownCause) (after : AfterDown) (capo : Bool) : State :=
  let media := decide (8 < s.topRail)
  let run := if cause = .upFail then s.pwr.pkgRun else if s.isSeq .pkgUp then s.pwr.pkgRun - 1 else 0
  let s := (s.closeTransfer.setSeq .down).setBit Reg.TOP_STATUS_READY false
  let s := (s.setBit Reg.PWR_STATUS_SLOT_WAIT false).wr Reg.PWR_LAST_DOWN_CAUSE cause.code
  let s := ((s.setBit Reg.PWR_LAST_DOWN_CAPO capo).wr Reg.PWR_LAST_DOWN_HUNG_RAIL 0).wr Reg.PWR_LAST_DOWN_COLLAPSED 0
  let s := s.wr Reg.PWR_LAST_DOWN_DURATION 0
  let s := if cause = .shelf then s.setBit Reg.PWR_EVENT_SHELF_OFF true else s
  let p := { s.pwr with ramping := false, goodPolls := 0, cause := cause, after := after, downPolls := 0, dirtySet := false,
                        fpReset := s.pwr.fpReset || media, mediaDown := false, mediaWait := false, pkgRun := run }
  let shelf := { s.shelf with granted := none }
  ({ s with pwr := p, start := {}, shelf := shelf }).nextDown 13

/-! ### Power-up failures (Table 11-5) -/

/-- Attempt under way. (DESIGN CHOICE, log entry 78). -/
def State.attempt (s : State) : Nat := s.rd Reg.PWR_STATUS_ATTEMPT

/-- A failure is counted and recorded (R252); cause 0: timeout, 1: fault, 2: not off at precheck. -/
def State.noteUpFail (s : State) (rail attempt cause : Nat) : State :=
  (s.bump Reg.PWR_UPFAIL_CNT).chronicle 0x0600 0x4D 2 [rail, attempt, cause]

/-- A failure of the package phase, of its rails or of HBM training. -/
def State.packageFail (s : State) (rail cause : Nat) : State :=
  let n := s.pwr.pkgRun
  let s := s.noteUpFail rail n cause
  if n < 3 then s.powerDown .upFail .pkgRetry false
  else (s.setBit Reg.PWR_FAULT_UP_FAIL true).powerDown .upFail .lockout false

/-- A failure of the media phase: rails 12 to 9 are powered down; package rails stay good. -/
def State.mediaFail (s : State) (rail cause : Nat) : State :=
  let n := s.attempt
  let s := s.noteUpFail rail n cause
  let after : AfterDown := if n < 3 then .mediaRetry else .mediaStop
  let p := { s.pwr with ramping := false, goodPolls := 0, mediaDown := true, after := after, fpReset := true, downPolls := 0 }
  let s := s.wr Reg.PWR_LAST_DOWN_COLLAPSED 0
  ({ s with pwr := p }).nextDown 13

/-- A power-up failure, by phase. -/
def State.upFail (s : State) (rail cause : Nat) : State :=
  if s.isSeq .pkgUp then s.packageFail rail cause else s.mediaFail rail cause

/-! ### PKG_UP -/

/-- A factory test unlock has been granted (R244), as the keep holds it. -/
def State.unlocked (s : State) : Bool := s.keptAnchor.2

/-- TEST_EN is sampled high without an unlock (R5): LOCKOUT, with no rail raised. (DEDUCED, log entry 81). -/
def State.testLockout (s : State) : State :=
  (((s.setBit Reg.PWR_FAULT_TEST_EN true).setBit Reg.TOP_STRAPS_TEST_EN true).chronicle 0x0606 0x4D 3 []).lockout

/-- Enter PKG_UP from STANDBY or OFF_HOLD, as TEST_EN is sampled. -/
def State.enterPkgUp (s : State) (testEn : Samples) : State :=
  if testEn.value && !s.unlocked then s.testLockout.flash
  else
    let s := (s.setBit Reg.TOP_STRAPS_TEST_EN testEn.value).setSeq .pkgUp
    let p := { s.pwr with rail := 1, ramping := false, goodPolls := 0, onMask := 0, lastBad := 0, pkgRun := s.pwr.pkgRun + 1,
                          mediaStopped := false, mediaWait := false, mediaDown := false, cause := .none, dirtySet := false,
                          shelfOff := false, keptOn := false }
    ({ s with pwr := p }).wr Reg.PWR_STATUS_ATTEMPT p.pkgRun

/-! ### PWRFAIL_N filter (R254) -/

/-- One sample: `true` is high. Answers the counter and whether it has just reached 200.
(DESIGN CHOICE, log entry 76). -/
def pfSample (a : Nat × Bool) (high : Bool) : Nat × Bool :=
  if high then (a.1 - 1, a.2)
  else (min 200 (a.1 + 1), a.2 || a.1 == 199)

/-- Run samples through the filter. -/
def pfRun (c : Nat) (l : List Bool) : Nat × Bool := l.foldl pfSample (c, false)

/-- Low pulses that begin within these samples; `low`: the last sample before them was low. -/
def lowPulses (low : Bool) : List Bool → Nat
  | [] => 0
  | high :: l => (if !high && !low then 1 else 0) + lowPulses (!high) l

/-- Low pulses that begin within these samples and have not qualified, the filter standing at `c`. At 200 the filter has
qualified, and the low in which it did goes on. -/
def newLows (c : Nat) (l : List Bool) : Nat := lowPulses (c == 200) l

/-- Keep the filter's counter and show the pin. -/
def State.pfTake (s : State) (l : List Bool) : State :=
  let s := { s with pwr := { s.pwr with pfCount := (pfRun s.pwr.pfCount l).1 } }
  match l.getLast? with
  | some b => s.setBit Reg.PWR_STATUS_PF_PIN b
  | none => s

/-! ### Capo entry and what leads to it -/

/-- Capo begins at time 0 (R163). A flush of step W2 goes on as a capo (R275). -/
def State.enterCapo (s : State) (cause : DownCause) (after : AfterDown) : State :=
  let w2 := s.start.warm == 2
  let p := { s.pwr with cause := cause, after := after }
  let s := ({ s with pwr := p, start := { s.start with warm := 0 } }).setSeq .capo
  let s := s.setBit Reg.TOP_STATUS_WARM_BUSY false
  if w2 then s.flash else s.beginFlush

/-- ON is left: to capo once DIRTY is set, to DOWN before (Table 11-4). -/
def State.leaveOn (s : State) (cause : DownCause) (after : AfterDown) : State :=
  if s.pwr.dirtySet then s.enterCapo cause after
  else
    let s := if cause = .pwrfail then s.setBit Reg.PWR_EVENT_PRE_DIRTY_OFF true else s
    s.powerDown cause after false

/-- A qualified PWRFAIL_N acts by state (R255). -/
def State.pfActs (s : State) : State :=
  if s.isSeq .on then s.leaveOn .pwrfail .offHold
  else if s.isSeq .pkgUp || s.isSeq .pkgOn || s.isSeq .mediaUp then
    (s.setBit Reg.PWR_EVENT_PRE_DIRTY_OFF true).powerDown .pwrfail .offHold false
  else if s.isSeq .capo then
    (if s.pwr.cause = .shelf then
      { s with pwr := { s.pwr with cause := .pwrfail, after := .offHold, shelfOff := false, keptOn := false } } else s)
  else if s.isSeq .capoHold then s.powerDown .pwrfail .offHold true
  else s

/-- A rail fault (R253). -/
def State.railFault (s : State) (r : Nat) (status : BitVec 16) : State :=
  let s := (s.setBit Reg.PWR_FAULT_RAIL_FAULT true).chronicle 0x0601 0x4D 3 (r :: leBytes 2 status.toNat)
  if s.isSeq .on then
    (if r ≤ 8 then s.powerDown .railFault .lockout false else s.leaveOn .railFault .lockout)
  else if s.isSeq .capo then
    (if r ≤ 8 then s.powerDown .railFault .lockout true
     else
       let cut := s.merge.cut || s.merge.capo == 4
       { s with pwr := { s.pwr with cause := .railFault, after := .lockout }, merge := { s.merge with cut := cut } })
  else if s.isSeq .pkgOn then s.powerDown .railFault .lockout false
  else s

/-- The thermal trip (R262). -/
def State.thermalTrip (s : State) (tempC : Nat) : State :=
  let s := (s.setBit Reg.PWR_FAULT_THERMTRIP true).chronicle 0x0605 0x4D 3 [tempC % 256]
  let s := { s with pwr := { s.pwr with thermtripN := true } }
  if s.isSeq .on then s.leaveOn .thermal .lockout
  else if s.isSeq .capo then { s with pwr := { s.pwr with cause := .thermal, after := .lockout } }
  else if s.isSeq .pkgUp || s.isSeq .pkgOn || s.isSeq .mediaUp then s.powerDown .thermal .lockout false
  else if s.isSeq .capoHold then s.powerDown .thermal .lockout true
  else if s.isSeq .down || s.isSeq .offHold then { s with pwr := { s.pwr with after := .lockout } }
  else if s.isSeq .standby then s.lockout
  else s

/-! ### HUNG (R257) -/

/-- A rail has not gone off within both limits. -/
def State.railHung (s : State) (r : Nat) (flashAnswers : Bool) : State :=
  let s := ((s.setSeq .hung).setBit Reg.PWR_FAULT_HANG true).wr Reg.PWR_LAST_DOWN_HUNG_RAIL r
  if flashAnswers then (s.chronicle 0x0602 0x4D 3 [r]).flash
  else { s with pwr := { s.pwr with hungRecord := some r } }

/-! ### Restart (Table 11-6) -/

/-- Power-up is allowed: 100 ms high, and no shelf power-off in force. A power-on that is kept ends it. -/
def State.mayRestart (s : State) : Bool := s.pwr.high100 && (!s.pwr.shelfOff || s.pwr.keptOn)

/-- The test of STANDBY that 100 ms high ends in (Table 11-4). (DEDUCED, log entry 80). -/
def State.standbyTest (s : State) (testEn : Samples) : State :=
  if s.isSeq .standby && s.mayRestart && testEn.value && !s.unlocked then s.testLockout.flash else s

/-! ### AUX (R379, R249) -/

/-- A keep program cut by the loss of AUX leaves a slot that is no longer erased; an erase cut short leaves a sector that
holds nothing readable. (DEDUCED, log entry 99). -/
def Keep.cutBy (k : Keep) : Option FlashOp → Keep
  | some .keepProgram => match k.queue with
    | w :: _ =>
      let sec := keepSector w.page w.copy
      if w.seq.isSome then { k with abandoned := k.abandoned.put sec (k.abandoned.get 0 sec + 1) } else k
    | [] => k
  | some (.eraseKeep n) => { k with sectors := k.sectors.del n, abandoned := k.abandoned.put n 16 }
  | _ => k

/-- The ring sector whose erase is cut has no valid header. -/
def Chron.cutBy (c : Chron) : Option FlashOp → Chron
  | some (.eraseRing k) => { c with ring := c.ring.put k { seq := none, slots := [.torn] } }
  | some .chronicleProgram => if c.buffer = [] then c else
    if c.perm.length < 1024 then { c with perm := c.perm ++ [.torn] }
    else
      let hd := c.ring.get {} c.head
      { c with ring := c.ring.put c.head { hd with slots := hd.slots ++ [.torn] } }
  | _ => c

/-- What the boot flash holds of the keep; what the keep unit held in SRAM is lost. -/
def Keep.flashOnly (k : Keep) : Keep :=
  let k := (k.cutBy k.op).cutBy k.suspended
  let spread (c : Spread) : Spread := { c with pending := 0, step := .idle, header := if c.step = .erase then none else c.header }
  { sectors := k.sectors, abandoned := k.abandoned, optime := spread k.optime, pcycle := spread k.pcycle, bytes := spread k.bytes }

/-- What the boot flash holds of the chronicle. -/
def Chron.flashOnly (c : Chron) (op susp : Option FlashOp) : Chron :=
  let c := (c.cutBy op).cutBy susp
  { perm := c.perm, ring := c.ring, head := c.head, sectorSeq := c.sectorSeq }

/-- AUX is removed: every domain loses its supply. What stays is the boot flash, the medium with its system area, and a
record that waits for the next application of AUX (R257). -/
def State.removeAux (s : State) : State :=
  let s := s.coldCore
  let shelf : Shelf := { keptEpoch := s.shelf.keptEpoch, keptRecords := s.shelf.keptRecords }
  let pwr : Pwr := { hungRecord := s.pwr.hungRecord }
  { s with regs := [], clears := [], mbox := {}, pwr := pwr, shelf := shelf, keep := s.keep.flashOnly,
           chron := s.chron.flashOnly s.keep.op s.keep.suspended }

/-- Next multiple of 1,024. -/
def roundUp1024 (n : Nat) : Nat := (n + 1023) / 1024 * 1024

/-- Two of three samples of the position strap, bit by bit (R383). -/
def posValue (a b c : BitVec 5) : BitVec 5 := (a &&& b) ||| (a &&& c) ||| (b &&& c)

/-- A flash that is used (R277). -/
def flashUsed (f : FlashReport) : Bool := f.octalDdr && f.erase4k && f.page256

/-- AUX is applied: straps, shelf time, the flash, and a rail-hung record that has waited.
(DEDUCED, log entry 133). -/
def State.applyAux (s : State) (role : Samples) (pos : BitVec 5) (pfHigh : Bool) (f : FlashReport) : State :=
  let s := { s with pwr := { s.pwr with aux := true } }
  let s := (s.setBit Reg.TOP_STRAPS_SHELF_ROLE role.value).wr Reg.TOP_STRAPS_SHELF_POS pos.toNat
  let s := (s.setBit Reg.SHELF_STATUS_ROLE role.value).wr Reg.SHELF_STATUS_POS pos.toNat
  let s := (s.setBit Reg.PWR_STATUS_PF_PIN pfHigh).setBit Reg.KEEP_STATUS_FLASH_OK (flashUsed f)
  let s := if (flashUsed f) then s.loadKeep else s
  let seq := (Config.drawn s.free).toNat % 65535 + 1
  let s := s.tick
  let sh := { s.shelf with epoch := s.shelf.keptEpoch, records := s.shelf.keptRecords, listening := role.value, seqOut := seq }
  let s := { s with shelf := sh, stroke := roundUp1024 (s.savedTime.getD 0) }
  match s.pwr.hungRecord with
  | some r => if (flashUsed f) then ({ s with pwr := { s.pwr with hungRecord := none } }).chronicle 0x0602 0x4D 3 [r] else s
  | none => s

end Sys2Proof.Machine
end

