-- ==== Sys2Proof/Machine/PowerFamily.lean ====
section
/-! DEFINITION. Power (chapter Power Sequencing and Supervision): AUX_APPLY, AUX_REMOVE, PWRFAIL_N_QUALIFY,
PWRFAIL_N_GLITCH, PWRFAIL_N_HIGH_100MS, POWER_UP_PACKAGE, RAIL_TURN_ON, RAMP_POLL, RAIL_RAMP_LIMIT, POWER_UP_MEDIA,
SERVICE_POLL, DECAY_POLL, DECAY_LIMIT_EXPIRY, OFF_HOLD_EXPIRY, THERMTRIP, CAPO_FLUSH_COMPLETE, CAPO_SAVE_COMPLETE,
WARM_RESUMPTION and PWR_CNT_CLR. -/

namespace Sys2Proof.Machine

/-! ### AUX -/

/-- AUX_APPLY (R379): the AUX domain leaves reset 2 ms after VDD_AON reaches 95 %. -/
def execAuxApply (role : Samples) (posA posB posC : BitVec 5) (pfHigh : Bool) (flash : FlashReport) (s : State) :
    Host.Outcome State Fault Refusal :=
  done s (if s.pwr.aux then s else (s.applyAux role (posValue posA posB posC) pfHigh flash).flash)

/-- AUX_REMOVE (R379): VDD_AON falls below 90 %; it ends HUNG, LOCKOUT and latched faults.
(DEDUCED, log entry 83). -/
def execAuxRemove (s : State) : Host.Outcome State Fault Refusal := done s (if s.pwr.aux then s.removeAux else s)

/-! ### PWRFAIL_N -/

/-- PWRFAIL_N_QUALIFY (R254): the filter counter reaches 200 within these samples. -/
def execPwrfailNQualify (samples : List Bool) (s : State) : Host.Outcome State Fault Refusal :=
  done s (
    if !s.pwr.aux || !(pfRun s.pwr.pfCount samples).2 then s
    else
      let s := ((s.pfTake samples).bump Reg.PWR_PF_CNT).setBit Reg.PWR_EVENT_PF_QUAL true
      let s := { s with pwr := { s.pwr with high100 := false } }
      (s.setBit Reg.PWR_STATUS_PF_LATCH true).pfActs)

/-- PWRFAIL_N_GLITCH (R254): the filter has fallen back to 0, so the lows since it left 0 have not qualified: each counts. -/
def execPwrfailNGlitch (samples : List Bool) (s : State) : Host.Outcome State Fault Refusal :=
  done s (
    let f := pfRun s.pwr.pfCount samples
    let n := newLows s.pwr.pfCount samples
    if !s.pwr.aux || f.2 || f.1 != 0 || n == 0 then s
    else ((s.pfTake samples).bump Reg.PWR_GLITCH_CNT n).setBit Reg.PWR_EVENT_PF_GLITCH true)

/-- PWRFAIL_N_HIGH_100MS (R250): ends the effect of a qualification. -/
def execPwrfailNHigh100ms (testEn : Samples) (s : State) : Host.Outcome State Fault Refusal :=
  done s (
    if !s.pwr.aux || !s.bit Reg.PWR_STATUS_PF_PIN then s
    else
      let s := { s with pwr := { s.pwr with high100 := true, pfCount := 0 } }
      (s.setBit Reg.PWR_STATUS_PF_LATCH false).standbyTest testEn)

/-! ### Power-up (R251) -/

/-- Presence as read (R247). -/
def State.showPresence (s : State) (q : PmicReport) : State :=
  ((((s.wr Reg.PWR_PRESENT_A_PRI q.aPri.toNat).wr Reg.PWR_PRESENT_A_SEC q.aSec.toNat).wr Reg.PWR_PRESENT_B_PRI
    q.bPri.toNat).wr Reg.PWR_PRESENT_B_SEC q.bSec.toNat)

/-- Number of ones of a word. -/
def ones (w n : Nat) : Nat := ((List.range n).filter (fun i => w / 2 ^ i % 2 == 1)).length

/-- The configuration is accepted: every primary answers, at most 16 PMICs in all, all linear (R247). -/
def pmicsOk (q : PmicReport) : Bool :=
  q.aPri == 0xFF && q.bPri == 0xF && q.linear
    && decide (ones q.aPri.toNat 8 + ones q.aSec.toNat 8 + ones q.bPri.toNat 4 + ones q.bSec.toNat 4 ≤ 16)

/-- PAGE is written once per PMIC after presence (Table 11-3). -/
def State.writePages (s : State) : State := (List.range 12).foldl (fun s i => s.toPmics (i + 1) 0x00 0x00) s

/-- A refused configuration, or a flash that is not used (R247, R277): not retried. (DEDUCED, log entry 79). -/
def State.pmicRefused (s : State) : State :=
  ((s.noteUpFail 0 (s.pwr.pkgRun + 1) 1).setBit Reg.PWR_FAULT_PMIC_CONFIG true).lockout.flash

/-- POWER_UP_PACKAGE (R251): STANDBY is left; presence is read before the first power-up. -/
def execPowerUpPackage (testEn : Samples) (pmics : PmicReport) (s : State) : Host.Outcome State Fault Refusal :=
  done s (
    if !s.pwr.aux || !s.isSeq .standby || !s.mayRestart then s
    else if testEn.value && !s.unlocked then s.testLockout.flash
    else
      let t := if s.pwr.pmicRead then s else s.showPresence pmics
      if !s.bit Reg.KEEP_STATUS_FLASH_OK || (!s.pwr.pmicRead && !pmicsOk pmics) then t.pmicRefused
      else
        let t := if s.pwr.pmicRead then t else ({ t with pwr := { t.pwr with pmicRead := true } }).writePages
        t.enterPkgUp testEn)

/-- A phase raises this rail now. -/
def State.raising (s : State) (r : Nat) : Bool :=
  s.pwr.rail == r && !s.pwr.mediaDown
    && ((s.isSeq .pkgUp && decide (1 ≤ r) && decide (r ≤ 8)) || (s.isSeq .mediaUp && decide (9 ≤ r) && decide (r ≤ 12)))

/-- RAIL_TURN_ON (R251): precheck, then CLEAR_FAULTS, VOUT_COMMAND and OPERATION. -/
def execRailTurnOn (precheck : RailPoll) (s : State) : Host.Outcome State Fault Refusal :=
  done s (
    let r := precheck.rail
    if !s.raising r || s.pwr.ramping then s
    else if pollLost precheck then s.upFail r 1
    else
      let s := s.showPoll precheck
      if !voltOff r (s.railVolt precheck) then s.upFail r 2
      else
        let s := ((s.toPmics r 0x03 0).toPmics r 0x21 (nominal r)).toPmics r 0x01 0x80
        { s with pwr := { s.pwr with ramping := true, goodPolls := 0, onMask := s.pwr.onMask ||| railBit r } })

/-- Rail 8 is good: PKG_ON, where steps 2 and 3 of a start begin (Table 12-1). -/
def State.packageOn (s : State) (bootSel : Samples) : State :=
  let s := ((s.setSeq .pkgOn).wr Reg.PWR_STATUS_ATTEMPT 0).setBit Reg.TOP_STRAPS_BOOT_SEL bootSel.value
  let s := { s with pwr := { s.pwr with rail := 0 }, start := { bootSel := bootSel.value } }
  let s := s.askSlot.readKeep
  if s.bit Reg.TOP_STRAPS_TEST_EN && s.prot.unlock then
    (({ s with prot := { s.prot with unlock := false, testAccess := true } }).keepWrite 6 (.anchor s.prot.anchor false)).flash
  else if s.prot.unlock then
    (({ s with prot := { s.prot with unlock := false } }).keepWrite 6 (.anchor s.prot.anchor false)).flash
  else s

/-- Rail 12 is good: ON, and training starts on all 64 channels (R92). -/
def State.mediaOn (s : State) : State :=
  let s := (s.setSeq .on).wr Reg.PWR_STATUS_ATTEMPT 0
  let s := { s with pwr := { s.pwr with rail := 0, fpReset := false } }
  (List.range 64).foldl (fun s c => (s.wr Reg.CHAN_STATUS_STATE 1 c).emit (.fipen c 0 0 .train)) s

/-- A rail is good. -/
def State.railIsGood (s : State) (r : Nat) (bootSel : Samples) : State :=
  let s := s.setGood r true
  let s := { s with pwr := { s.pwr with ramping := false, goodPolls := 0, rail := r + 1 } }
  if r = 8 then s.packageOn bootSel else if r = 12 then s.mediaOn else s

/-- RAMP_POLL (R251): two good polls in a row make the rail good. -/
def execRampPoll (poll : RailPoll) (bootSel : Samples) (s : State) : Host.Outcome State Fault Refusal :=
  done s (
    let r := poll.rail
    if !s.raising r || !s.pwr.ramping then s
    else if pollLost poll then s.upFail r 1
    else
      let s := s.showPoll poll
      if s.pollFault poll then s.upFail r 1
      else if !voltGood r (s.railVolt poll) then { s with pwr := { s.pwr with goodPolls := 0 } }
      else if s.pwr.goodPolls = 0 then { s with pwr := { s.pwr with goodPolls := 1 } }
      else s.railIsGood r bootSel)

/-- RAIL_RAMP_LIMIT (R251): 10 ms have passed. -/
def execRailRampLimit (s : State) : Host.Outcome State Fault Refusal :=
  done s (if s.pwr.ramping && s.raising s.pwr.rail then s.upFail s.pwr.rail 0 else s)

/-- The slot is there: at once for a member that waits for none, else at the granted stroke (R270, R320). -/
def State.slotHere (s : State) : Bool :=
  !s.bit Reg.PWR_STATUS_SLOT_WAIT || (match s.shelf.granted with
    | some k => decide (k ≤ s.stroke)
    | none => false)

/-- POWER_UP_MEDIA (R251). -/
def execPowerUpMedia (s : State) : Host.Outcome State Fault Refusal :=
  done s (
    if !s.isSeq .pkgOn || s.pwr.mediaWait || s.pwr.mediaStopped || !s.slotHere then s
    else
      let s := ((s.setSeq .mediaUp).setBit Reg.PWR_STATUS_SLOT_WAIT false).bump Reg.PWR_STATUS_ATTEMPT
      { s with pwr := { s.pwr with rail := 9, ramping := false, goodPolls := 0, fpReset := true }
               shelf := { s.shelf with granted := none } })

/-! ### Supervision (R253) -/

/-- One poll of a rail in service. -/
def State.servicePollOne (s : State) (q : RailPoll) : State :=
  let r := q.rail
  if !s.isOn r || !(s.isSeq .pkgOn || s.isSeq .on || s.isSeq .capo) then s
  else if pollLost q then s.railFault r q.status
  else
    let s := s.showPoll q
    let bad := voltBad r (s.railVolt q)
    let was := s.pwr.lastBad.getLsbD (r - 1)
    let m := if bad then s.pwr.lastBad ||| railBit r else s.pwr.lastBad &&& ~~~ railBit r
    let s := { s with pwr := { s.pwr with lastBad := m } }
    if s.pollFault q || (bad && was) then s.railFault r q.status else s

/-- SERVICE_POLL (R253). (DEDUCED, log entry 82). -/
def execServicePoll (polls : List RailPoll) (s : State) : Host.Outcome State Fault Refusal :=
  done s ((polls.foldl (fun s q => s.servicePollOne q) s).flash)

/-! ### Power-down (R256 to R258) -/

/-- A rail reads low before it has been commanded off (R258). -/
def State.collapse (s : State) (r : Nat) : State :=
  let m := s.rd Reg.PWR_LAST_DOWN_COLLAPSED
  if m / 2 ^ (r - 1) % 2 = 1 then s
  else
    let m' := m + 2 ^ (r - 1)
    let s := ((s.wr Reg.PWR_LAST_DOWN_COLLAPSED m').setBit Reg.PWR_EVENT_COLLAPSE true).setGood r false
    s.chronicle 0x0603 0x4D 1 (leBytes 2 m')

/-- A poll of another rail during a power-down. -/
def State.watchCollapse (s : State) (q : RailPoll) : State :=
  if s.isSeq .down && s.isOn q.rail && q.rail != s.pwr.rail && !pollLost q && voltLow q.rail (s.railVolt q) then s.collapse q.rail
  else s

/-- A power-down runs: of all rails, or of the media rails. -/
def State.goingDown (s : State) : Bool := s.pwr.rail != 0 && (s.isSeq .down || s.pwr.mediaDown)

/-- DECAY_POLL (R256): polls of the rail commanded off and of the rails still on. (DEDUCED, log entry 77). -/
def execDecayPoll (polls : List RailPoll) (s : State) : Host.Outcome State Fault Refusal :=
  done s (
    if !s.goingDown then s
    else
      let s := polls.foldl (fun s q => (s.showPoll q).watchCollapse q) s
      let s := { s with pwr := { s.pwr with downPolls := s.pwr.downPolls + 1 } }
      match polls.find? (fun q => q.rail == s.pwr.rail) with
      | some q =>
        if !pollLost q && voltOff q.rail (s.railVolt q) then ((s.railOff q.rail).nextDown 13).flash else s.flash
      | none => s.flash)

/-- DECAY_LIMIT_EXPIRY (R256, R257): forced discharge, or a hung rail. -/
def execDecayLimitExpiry (flashAnswers : Bool) (s : State) : Host.Outcome State Fault Refusal :=
  done s (
    if !s.goingDown then s
    else if s.pwr.discharged then s.railHung s.pwr.rail flashAnswers
    else
      let s := s.toPmics s.pwr.rail (s.rd Reg.PWR_CFG_DISCH_CMD) (s.rd Reg.PWR_CFG_DISCH_DATA)
      { s with pwr := { s.pwr with discharged := true } })

/-- OFF_HOLD_EXPIRY (R259, Table 11-6): 100 ms of OFF_HOLD, or of waiting after a media-phase failure.
(DESIGN CHOICE, log entry 75). -/
def execOffHoldExpiry (testEn : Samples) (s : State) : Host.Outcome State Fault Refusal :=
  done s (
    if s.isSeq .pkgOn && s.pwr.mediaWait then ({ s with pwr := { s.pwr with mediaWait := false } }).askSlot
    else if !s.isSeq .offHold then s
    else match s.pwr.after with
      | .lockout => s.lockout
      | .pkgRetry => s.enterPkgUp testEn
      | _ => if s.mayRestart then s.enterPkgUp testEn else s.setSeq .standby)

/-- THERMTRIP (R262): the junction reaches 125 °C; latched until AUX is removed. -/
def execThermtrip (tempC : Nat) (s : State) : Host.Outcome State Fault Refusal :=
  done s (if !s.pwr.aux || s.pwr.thermtripN || decide (tempC < 125) then s else (s.thermalTrip tempC).flash)

/-! ### Capo (R163 to R166) -/

/-- CAPO_FLUSH_COMPLETE (R163): steps 4 and 5 end, and the saves of step 6 are asked for. -/
def execCapoFlushComplete (flushUs : Nat) (s : State) : Host.Outcome State Fault Refusal :=
  done s (
    if !s.isSeq .capo || !s.flushReady then s
    else
      let s := s.flushAll.markFlush
      let s := (s.wr Reg.MERGE_LAST_CAPO_FLUSH_US (min flushUs 0xFFFFFF)).wr Reg.MERGE_LAST_CAPO_RESULT s.flushResult
      let s := (s.capoRecord s.flushResult flushUs false).saveSpread
      ({ s with merge := { s.merge with capo := 6 } }).saveKeep)

/-- The keep writes of step 6 have ended. -/
def State.saved (s : State) : Bool := s.keep.queue == []

/-- CAPO_SAVE_COMPLETE (R163, R259): CAPO_HOLD for a capo caused by PWRFAIL_N whose pin is high, else DOWN. -/
def execCapoSaveComplete (pfHigh : Bool) (chronicleRoom : Nat) (s : State) : Host.Outcome State Fault Refusal :=
  done s (
    if !s.isSeq .capo || s.merge.capo != 6 || !s.saved then s
    else
      let s := (s.closeRuns.saveChronicle chronicleRoom).setBit Reg.PWR_STATUS_PF_PIN pfHigh
      let s := { s with merge := { s.merge with capo := 0 }, pwr := { s.pwr with dirtySet := false } }
      if s.pwr.cause = .pwrfail && pfHigh then (s.setSeq .capoHold).flash
      else s.powerDown s.pwr.cause s.pwr.after true)

/-- Reads that waited reach the scheduler at the first plan lock after the resumption (R39). -/
def heldAgain (locked : Nat) (j : Job) : Job := if j.phase = .wait then { j with due := locked + 1 } else j

/-- Credits withheld during capo return (R163). -/
def State.capoCreditsBack (s : State) : State :=
  let l := s.merge.capoCredits
  let s := { s with merge := { s.merge with capoCredits := [] } }
  l.foldl (fun s (e : Nat × Nat) => if s.linkUp e.1 e.2 then s.emit (.credit e.1 e.2 true 1) else s) s

/-- The marker is DIRTY again; one that read LOSS raises the Dirty Shutdown Count (R166). -/
def State.dirtyAgain (s : State) : State :=
  let s := if s.merge.marker = .loss then s.raiseDsc .loss else s
  let s := { s with merge := { s.merge with marker := .dirty }, pwr := { s.pwr with dirtySet := true } }
  s.savePage1

/-- An online activation that the capo abandoned goes back to a valid STAGING (Table 15-11). -/
def State.activationBack (s : State) : State :=
  if s.fw.abandoned then
    ({ s with fw := { s.fw with abandoned := false } }).setDescr { s.descr with state := 2, online := false }
  else s

/-- WARM_RESUMPTION (R166): at the first stroke boundary at which PWRFAIL_N has been 100 ms high. -/
def execWarmResumption (s : State) : Host.Outcome State Fault Refusal :=
  done s (
    if !s.isSeq .capoHold || !s.pwr.high100 then s
    else
      let s := s.dirtyAgain.activationBack.setSeq .on
      let s := ((s.setBit Reg.PWR_EVENT_WARM_RESUME true).bump Reg.PWR_WARM_CNT).chronicle 0x0604 0x4D 0 []
      let s := (s.setBit Reg.MERGE_STATUS_CAPO false).setBit Reg.TOP_STATUS_CAPO false
      let s := s.wr Reg.MERGE_LAST_CAPO_RESULT 3
      let back := if s.bit Reg.TOP_STATUS_RECOVERY then 2 else 0
      let jobs := s.sched.jobs.mapVals (fun _ j => heldAgain s.sched.locked j)
      let s := { s with sched := { s.sched with capoAsk := 0, back := some back, jobs := jobs } }
      s.capoCreditsBack.flash)

/-- PWR_CNT_CLR (R263). -/
def execPwrCntClr (v : Word) (s : State) : Host.Outcome State Fault Refusal :=
  done s (if clrBit v then s.askClear .pwr else s)

end Sys2Proof.Machine
end

