-- ==== Sys2Proof/Machine/Rebuild.lean ====
section
/-! DEFINITION. The rebuild at start-up (R137 to R141): what the data-page tags on the medium say of homes, pool pages,
block records and moves. -/

namespace Sys2Proof.Machine

/-! ### Pass 1: what the tags say -/

/-- The newer of the two checkpoint copies (R123). -/
def newestCheckpoint (l : List Checkpoint) : Tab Block :=
  match l with
  | [] => []
  | [c] => c.records
  | c :: d :: _ => if c.number < d.number then d.records else c.records

/-- What the checkpoint restores of a block: WEAR, PRECOND_CNT, FAILED_RB and the retired state (R123). -/
def restoredBlock (k : Block) : Block :=
  { wear := k.wear, precond := k.precond, failedRb := k.failedRb, pool := if k.pool = .retired then .retired else .free }

/-- Numbers without those equal to the one before. -/
def dedupSorted : List Nat → List Nat
  | [] => []
  | [x] => [x]
  | x :: y :: r => if x = y then dedupSorted (y :: r) else x :: dedupSorted (y :: r)

/-- Blocks that hold a programmed page and are not recorded retired, by SBN. -/
def State.taggedBlocks (s : State) : List Nat :=
  (dedupSorted (s.pages.map (fun (e : Nat × MPage) => mpSbn e.1))).filter (fun b => (s.block b).pool != .retired)

/-- Pages of a block. -/
def State.pagesOf (s : State) (b : Nat) : Tab MPage := s.pages.keep (fun mp _ => mpSbn mp == b)

/-- Data-page tags of some pages. -/
def tagsOf (l : Tab MPage) : List Tag := l.filterMap (fun (e : Nat × MPage) => e.2.tag)

/-- Highest number of a list. -/
def maxOf (l : List Nat) : Nat := l.foldl max 0

/-- A candidate is treated as absent under a destroyed-key mark (R334). -/
def State.absentTag (s : State) (g : Tag) : Bool :=
  match s.keptSlot (s.rangeOf (64 * g.lpn)) with
  | some k => k.destroyed && (if g.cls == .settled then !newerEpoch g.epoch k.e0 else decide (g.seq < k.q0))
  | none => false

/-- The tag names a page, of a class, and is not treated as absent. -/
def State.names (s : State) (g : Tag) (settled : Bool) : Bool :=
  g.lpn != noLpn && (if settled then g.cls == .settled else g.cls == .hot || g.cls == .cold) && !s.absentTag g

/-! ### Pass 2: homes (R138, Table 6-9) -/

/-- Class of a candidate (R138). -/
inductive CandKind where
  | complete
  | prefix_ (k : Nat)
  | broken
  deriving DecidableEq, Repr

/-- A settled candidate block of a tract. -/
structure Cand where
  sbn : Nat
  epoch : Nat
  kind : CandKind
  deriving DecidableEq, Repr

/-- Every data tag of a stripe is present and names the tract, or is a filler page. -/
def stripeComplete (l : Tab MPage) (t b st : Nat) : Bool :=
  (List.range 7).all (fun k => match l.find (mpOf b st (dataPos b st k)) with
    | some p => (match p.tag with
      | some g => g.cls == .settled && (g.lpn == noLpn || tractOfLpn g.lpn == t)
      | none => false)
    | none => false)

/-- Every data page of a stripe is blank. -/
def stripeBlank (l : Tab MPage) (b st : Nat) : Bool :=
  (List.range 7).all (fun k => (l.find (mpOf b st (dataPos b st k))).isNone)

/-- Complete stripes from `st` on, within `n` stripes. -/
def leadComplete (l : Tab MPage) (t b : Nat) : Nat → Nat → Nat
  | 0, _ => 0
  | n + 1, st => if stripeComplete l t b st then 1 + leadComplete l t b n (st + 1) else 0

/-- Class of a block as a candidate of a tract. -/
def candKind (l : Tab MPage) (t b : Nat) : CandKind :=
  let k := leadComplete l t b 256 0
  if k = 256 then .complete
  else if ((List.range 256).filter (fun st => decide (k < st))).all (stripeBlank l b) then .prefix_ k
  else .broken

/-- A candidate with its tract. -/
structure TractCand where
  tract : Nat
  cand : Cand
  deriving DecidableEq, Repr

/-- Tracts that the settled tags of a block name. -/
def State.tractsIn (s : State) (l : Tab MPage) : List Nat :=
  (((tagsOf l).filter (fun g => s.names g true)).map (fun g => tractOfLpn g.lpn)).eraseDups

/-- Candidates that one block makes. -/
def State.candsOf (s : State) (b : Nat) : List TractCand :=
  let l := s.pagesOf b
  (s.tractsIn l).map (fun t => ⟨t, ⟨b, (s.block b).epoch, candKind l t b⟩⟩)

/-- The newest of some candidates (R122). -/
def newestCand : List Cand → Option Cand
  | [] => none
  | c :: r => match newestCand r with
    | none => some c
    | some d => if newerEpoch d.epoch c.epoch then some d else some c

/-- A candidate is a prefix. -/
def Cand.isPrefix (c : Cand) : Bool :=
  match c.kind with
  | .prefix_ _ => true
  | _ => false

/-- PTR that a candidate gives. -/
def Cand.ptr (c : Cand) : Nat :=
  match c.kind with
  | .prefix_ k => k
  | _ => 0

/-- What Table 6-9 decides: home, and source of a move. -/
structure Home where
  home : Cand
  src : Option Cand
  transit : Bool
  deriving DecidableEq, Repr

/-- Table 6-9. -/
def chooseHome (l : List Cand) : Option Home :=
  let pre := newestCand (l.filter Cand.isPrefix)
  match newestCand (l.filter (fun c => c.kind == .complete)) with
  | some c => match newestCand ((l.filter Cand.isPrefix).filter (fun p => newerEpoch p.epoch c.epoch)) with
    | some p => some ⟨p, some c, true⟩
    | none => some ⟨c, none, false⟩
  | none => match pre with
    | some p => some ⟨p, none, true⟩
    | none => none

/-- A block becomes the home, or the source, of a tract. -/
def State.claim (s : State) (t : Nat) (c : Cand) : State :=
  s.setBlock c.sbn { s.block c.sbn with pool := .home, tract := some t }

/-- Candidates that are not chosen: a record is written for one newer than the home (Table 6-9). -/
def State.passOver (s : State) (t : Nat) (h : Home) (l : List Cand) : State :=
  (l.filter (fun c => c != h.home && some c != h.src)).foldl (fun s c =>
    if newerEpoch c.epoch h.home.epoch then s.chronicle 0x0201 0x49 1 (leBytes 4 t ++ leBytes 4 c.sbn) else s) s

/-- The home of one tract is chosen. -/
def State.homeTract (s : State) (l : List TractCand) (t : Nat) : State :=
  let mine := (l.filter (fun x => x.tract == t)).map (·.cand)
  match chooseHome mine with
  | none => s
  | some h =>
    let s := s.claim t h.home
    let s := match h.src with
      | some c => s.claim t c
      | none => s
    let x : Tract := { state := if h.transit then .inTransit else .settled, sb := h.home.sbn,
                       src := (h.src.map (·.sbn)).getD 0, ptr := h.home.ptr, zeroSrc := h.transit && h.src.isNone, lw := s.lwNow }
    (s.setTract t x).passOver t h mine

/-! ### Pass 3: pool candidates (R137, R139) -/

/-- A pool candidate of a logical page. -/
structure PoolCand where
  mp : Nat
  seq : Nat
  epoch : Nat
  deriving DecidableEq, Repr

/-- Equal SEQ: recorded and counted (R139). -/
def State.equalSeq (s : State) (lpn : Nat) : State := (s.bump Reg.XLAT_EQ_SEQ_CNT).chronicle 0x0202 0x49 2 (leBytes 4 lpn)

/-- The workspace takes one pool tag. -/
def State.takeCand (a : State × Tab PoolCand) (lpn : Nat) (c : PoolCand) : State × Tab PoolCand :=
  match a.2.find lpn with
  | none => (a.1, a.2.put lpn c)
  | some d =>
    if d.seq < c.seq then (a.1, a.2.put lpn c)
    else if c.seq < d.seq then a
    else (a.1.equalSeq lpn, if newerEpoch c.epoch d.epoch then a.2.put lpn c else a.2)

/-- The workspace, over every pool tag in page order: of two in blocks of one epoch the lower MP stays. -/
def State.workspace (s : State) : State × Tab PoolCand :=
  s.pages.foldl (fun a e => match e.2.tag with
    | some g => if s.names g false && (s.block (mpSbn e.1)).pool != .retired then State.takeCand a g.lpn ⟨e.1, g.seq, g.epoch⟩ else a
    | none => a) (s, [])

/-- SEQ of the home tag of a page. -/
def State.homeSeq (s : State) (lpn : Nat) : Option Nat :=
  match s.readMp lpn with
  | some mp => ((s.pages.find mp).bind (·.tag)).map (·.seq)
  | none => none

/-- One candidate against the home tag. -/
def State.placeCand (s : State) (lpn : Nat) (c : PoolCand) (home : Option Nat) : State :=
  if (s.tract (tractOfLpn lpn)).state = .unmapped then s
  else match home with
    | none => s.setFluid lpn c.mp (Config.freeBit lpn)
    | some h =>
      if h < c.seq then s.setFluid lpn c.mp (Config.freeBit lpn)
      else if h = c.seq then s.equalSeq lpn else s

/-- Every candidate; home tags are read before any fluid entry stands. -/
def State.placeCands (s : State) (w : Tab PoolCand) : State :=
  let l := w.map (fun (e : Nat × PoolCand) => (e, s.homeSeq e.1))
  l.foldl (fun s x => s.placeCand x.1.1 x.1.2 x.2) s

/-! ### Pass 4: block records and pools -/

/-- What the tags of a block give its record; pool blocks are sealed, whatever they hold. (DEDUCED, log entry 55). -/
def State.blockFromTags (s : State) (b : Nat) : State :=
  let l := s.pagesOf b
  let g := tagsOf l
  let pool := g.any (fun x => x.cls == .hot || x.cls == .cold)
  let k := s.block b
  s.setBlock b { k with
    epoch := (g.head?.map (·.epoch)).getD 0
    time := maxOf (g.map (·.time))
    fill := if pool then g.length else 0
    sealed := pool
    pool := if g.any (fun x => x.cls == .system) then .system
      else if pool then (if g.any (fun x => x.cls == .hot) then .hot else .cold) else k.pool }

/-- A non-blank block that nothing claims is queued for precondition, or retired. -/
def State.unclaimed (s : State) (b : Nat) : State :=
  let k := s.block b
  if k.pool == .home || k.pool == .system || ((k.pool == .hot || k.pool == .cold) && k.valid != 0) then s
  else s.retireOrQueue b

/-- Counters of SEQ and SB_EPOCH: 1 more than the larger of the saved value and the highest found (R121, R122). -/
def State.countersFrom (s : State) (g : List Tag) : State :=
  let e := g.foldl (fun a x => if newerEpoch x.epoch a then x.epoch else a) s.xlat.sbe
  { s with xlat := { s.xlat with seq := max s.xlat.seq (maxOf (g.map (·.seq))) + 1, sbe := (e + 1) % 2 ^ 32 } }

/-- A tag TIME ahead of the count steps the count forward at the next sync epoch (R309). -/
def State.timeFrom (s : State) (g : List Tag) : State :=
  let t := maxOf (g.map (·.time))
  if s.stroke < t * 2 ^ 20 then
    { s with shelf := { s.shelf with stepDue := max s.shelf.stepDue ((t + 1) * 2 ^ 20 - s.stroke) } }
  else s

/-! ### Moves, evacuations, key slots -/

/-- Passes that the key slots show (R221): an old key set is held. -/
def State.keptPasses (s : State) : List Rekey :=
  (List.range 17).filterMap (fun n => match s.keptSlot n with
    | some k => if k.old.isSome then
        let d := s.prot.ranges.get {} n
        some ⟨n, d.base, d.size, n != 0 && !d.valid⟩ else none
    | none => none)

/-- Purpose of a move found In transit. -/
def State.foundWhy (s : State) (t : Nat) (x : Tract) : MoveWhy :=
  if x.zeroSrc then .init
  else if s.sbnFailed x.src then .evacuate
  else if s.keptPasses.any (fun r => s.tractInSpan r t) then .rekey
  else .wear

/-- Moves found In transit run again from PTR (R140). -/
def State.foundMoves (s : State) : State :=
  let l := (s.xlat.tracts.filter (fun e => e.2.state == .inTransit)).map (fun (e : Nat × Tract) =>
    ({ tract := e.1, why := s.foundWhy e.1 e.2 } : Move))
  let s := { s with xlat := { s.xlat with moves := l } }
  s.setBit Reg.XLAT_REBUILD_RESUMED (l != [])

/-- A stripe that holds a programmed page at PTR is completed without append (R140). -/
def State.resumeMove (s : State) (m : Move) : State :=
  let x := s.tract m.tract
  if !(List.range 8).any (fun k => (s.pages.find (mpOf x.sb x.ptr k)).isSome) then s
  else
    let (s, m') := s.loadStripe m
    let s := s.commitStripe m' (m'.load.getD [])
    match s.xlat.moves.find? (fun y => y.tract == m.tract) with
    | some y => s.advanceMove y
    | none => s

def State.resumeMoves (s : State) : State := s.xlat.moves.foldl (fun s m => s.resumeMove m) s

/-- Put a block in the order of bank and reset block, behind those equal to it. (DESIGN CHOICE, log entry 57). -/
def putEvac (l : List Nat) (b : Nat) : List Nat :=
  match l with
  | [] => [b]
  | x :: r => if b % 32768 < x % 32768 then b :: x :: r else x :: putEvac r b

/-- Blocks of failed dies that hold data, in order of bank and reset block (R105). -/
def State.evacFrom (s : State) : State :=
  let l := (s.xlat.blocks.filter (fun e =>
    (e.2.pool == .home || e.2.pool == .hot || e.2.pool == .cold) && s.sbnFailed e.1)).map (·.1)
  ({ s with xlat := { s.xlat with evac := l.foldl putEvac [] } }).evacCounts

/-- A range that is in use has no key set. -/
def State.keyMissing (s : State) (n : Nat) : Bool :=
  let d : RangeDef := s.prot.ranges.get {} n
  let k : KeySlot := s.prot.slots.get {} n
  (n == 0 || d.valid) && k.keySet.isNone

/-- Step 8 (R219): the key slots are unsealed; range 0's is generated at the first start. A range whose slot is not there
or holds no key set reads poison until it is re-keyed. (DEDUCED, log entry 97). -/
def State.unsealSlots (s : State) : State :=
  let t : Tab KeySlot := (List.range 17).foldl (fun t n => match s.keptSlot n with
    | some k => t.set {} n k
    | none => t) []
  let s := if (s.keptSlot 0).isSome then { s with prot := { s.prot with slots := t } }
    else
      let k := newSlot {} false (2 * s.free) none 0 0
      let s := s.tick
      let s := { s with prot := { s.prot with slots := t.set {} 0 k } }
      s.keepWrite 23 (.keySlot k)
  { s with prot := { s.prot with slotLost := (List.range 17).filter s.keyMissing, slotBad := [] } }

/-! ### The rebuild -/

/-- Passes 1 to 4 (R137), the counters, and the moves found. -/
def State.rebuild (s : State) : State :=
  let blocks : Tab Block :=
    (newestCheckpoint s.xlat.checkpoints).foldl (fun (t : Tab Block) e => t.set {} e.1 (restoredBlock e.2)) []
  let s := { s with xlat := { s.xlat with
    tracts := [], fluid := [], blocks := blocks, valid := [], opens := [], precondQ := [], moves := [], moveQ := [], copies := [],
    settles := [], gather := [], failedSlots := [], badParity := [], evac := [], again := [] } }
  let l := s.taggedBlocks
  let g := tagsOf (s.pages.keep (fun mp _ => (s.block (mpSbn mp)).pool != .retired))
  let s := s.setBit Reg.XLAT_REBUILD_RECON (s.pages.any (fun e => e.2.tag.isSome && s.dieFailed e.1))
  let s := l.foldl State.blockFromTags s
  let s := (s.countersFrom g).timeFrom g
  let cands : List TractCand := l.flatMap s.candsOf
  let s := ((cands.map (·.tract)).eraseDups).foldl (fun s t => s.homeTract cands t) s
  let (s, w) := s.workspace
  let s := s.placeCands w
  let s := l.foldl State.unclaimed s
  (((s.foundMoves).resumeMoves).evacFrom).poolCounts

end Sys2Proof.Machine
end

