-- ==== Sys2Proof/Machine/StartFamily.lean ====
section
/-! DEFINITION. Start-up and warm device reset (chapter Start-up and Resets): HBM_TRAINING_COMPLETE, HBM_FILL_COMPLETE,
IMAGE_VERIFY_COMPLETE, REBUILD_START, REBUILD_COMPLETE, INTEGRITY_ROOT_VERIFY_COMPLETE, MEDIA_READY, WAKE_PATROL_END,
STAGING_COPY_COMPLETE, DEVICE_RESET, TOP_CTRL_WARM_RESET, WARM_RESET_FLUSH_DONE and WARM_RESET_COMPLETE. -/

namespace Sys2Proof.Machine

/-- The package rails are good and the device is not on its way down. -/
def State.packageUp (s : State) : Bool := s.isSeq .pkgOn || s.isSeq .mediaUp || s.isSeq .on

/-! ### Step 3: HBM (R200) -/

/-- Step 3, or step W4 of a warm device reset once the saves of W2 have ended, waits for the end of HBM training. -/
def State.awaitsHbm (s : State) : Bool :=
  s.packageUp && !s.start.hbmTrained && !s.start.step3 && (s.start.warm == 0 || (s.start.warm == 4 && s.saved))

/-- HBM_TRAINING_COMPLETE (R264): on success the mix key is drawn and the fill starts; training is retried twice. -/
def execHbmTrainingComplete (ok : Bool) (s : State) : Host.Outcome State Fault Refusal :=
  done s (
    if !s.awaitsHbm then s
    else if ok then
      ({ s with start := { s.start with hbmTrained := true, hbmTries := 0 }, pwr := { s.pwr with pkgRun := 0 } }).tick
    else
      let n := s.start.hbmTries + 1
      if n < 3 then { s with start := { s.start with hbmTries := n } } else s.packageFail 0 0)

/-- HBM_FILL_COMPLETE (R200). -/
def execHbmFillComplete (us : Nat) (s : State) : Host.Outcome State Fault Refusal :=
  done s (
    if !s.packageUp || !s.start.hbmTrained || s.start.step3 then s
    else
      let warm := if s.start.warm = 4 then 5 else s.start.warm
      let s := (s.wr Reg.ERR_HBM_FILL_US (min us 0xFFFF)).setBit Reg.ERR_HBM_FILL_DONE true
      { s with start := { s.start with step3 := true, warm := warm } })

/-! ### Step 2: the image (Table 12-2) -/

/-- The image in force that a verified slot gives. -/
def imgOf (r : ImageReport) : Img :=
  { tAge := r.tAge, arrayRead := r.arrayRead, suspend := r.suspend, cls := r.imageClass, version := r.version, compact := r.compact,
    dieTypes := r.dieTypes }

/-- STAGING is marked activated and its copy not complete (Table 15-9). -/
def Descr.runsStaging (d : Descr) : Bool := d.state == 3 && !d.copyDone

/-- Row of Table 12-2. A failed STAGING leads to row 3 when ACTIVE verifies, and to row 5 when it does not.
(DEDUCED, log entry 101). -/
def imageRow (bootSel : Bool) (d : Descr) (active staging : ImageReport) : Nat :=
  if bootSel then 1
  else if d.runsStaging && staging.fault == 0 then 2
  else if active.fault == 0 then (if d.runsStaging then 3 else 4)
  else 5

/-- The image of a row is taken. -/
def State.takeImage (s : State) (row : Nat) (active staging : ImageReport) : State :=
  match row with
  | 2 => { s with img := imgOf staging }
  | 3 => { s with img := imgOf active }
  | 4 => { s with img := imgOf active }
  | _ => s.enterRecovery.chronicle 0x0905 0x50 2 [row]

/-- IMAGE_VERIFY_COMPLETE (R267): step 2 ends. -/
def execImageVerifyComplete (active staging : ImageReport) (s : State) : Host.Outcome State Fault Refusal :=
  done s (
    if !s.packageUp || s.start.step2 then s
    else
      let row := imageRow s.start.bootSel s.descr active staging
      let s := if row ≠ 1 && s.descr.runsStaging && staging.fault != 0 then s.setDescr { s.descr with state := 4 } else s
      let s := s.takeImage row active staging
      let s := if row = 4 then s else s.chronicle 0x0700 0x50 0 [row]
      let s := s.wr Reg.CHAN_G_AGE_REST s.restOf
      ({ s with start := { s.start with step2 := true, row := row } }).flash)

/-! ### Steps 6 to 8 -/

/-- Step 6 may begin: HBM is filled and the links are trained. -/
def State.mayRebuild (s : State) : Bool :=
  s.isSeq .on && s.start.step3 && s.start.step5 && !s.start.step6 && !s.start.rebuilding
    && (s.start.warm == 0 || s.start.warm == 5)

/-- REBUILD_START (R137). -/
def execRebuildStart (s : State) : Host.Outcome State Fault Refusal :=
  done s (if s.mayRebuild then { s with start := { s.start with rebuilding := true } } else s)

/-- A destroyed-key mark found at start stays until what the rebuild treated as absent has been preconditioned (R334). -/
def State.markedBlocks (s : State) : State :=
  if s.prot.slots.any (fun e => e.2.destroyed) then { s with prot := { s.prot with eraseLeft := s.xlat.precondQ } } else s

/-- REBUILD_COMPLETE (R141): step 6 ends, and step 8 unseals the key slots. (DEDUCED, log entry 56). -/
def execRebuildComplete (strokes : Nat) (s : State) : Host.Outcome State Fault Refusal :=
  done s (
    if !s.isSeq .on || !s.start.rebuilding then s
    else
      let s := s.rebuild.unsealSlots.markedBlocks
      let s := (s.wr Reg.XLAT_REBUILD_STROKES (min strokes 0xFFFFFF)).flash
      { s with start := { s.start with rebuilding := false, step6 := true, step8 := true } })

/-! ### Step 9: the wake patrol (R273) -/

/-- Put a number into a rising list. -/
def putNat (l : List Nat) (n : Nat) : List Nat :=
  match l with
  | [] => [n]
  | x :: r => if n < x then n :: x :: r else x :: putNat r n

/-- Blocks that the patrol visits: neither in the free pool nor retired (R204). -/
def State.patrolled (s : State) (b : Nat) : Bool :=
  let p := (s.block b).pool
  p != Pool.free && p != Pool.retired && p != Pool.awaiting

/-- Pages of the wake patrol: blocks by TIME and SBN, pages in row order. -/
def State.wakeList (s : State) : List Nat :=
  let bs := (dedupSorted (s.pages.map (fun (e : Nat × MPage) => mpSbn e.1))).filter s.patrolled
  let order := bs.foldl (fun l b => putNat l ((s.block b).time * 2 ^ 20 + b)) []
  order.flatMap (fun k => (s.pagesOf (k % 2 ^ 20)).map (·.1))

/-- A range found unverified is recorded (R232). -/
def State.rangeUnverified (s : State) (n : Nat) : State := s.chronicle 0x0501 0x4C 2 [n]

/-- Step 7: every protected range is verified or unverified. -/
def State.verifyRoots (s : State) (failed : List Nat) : State :=
  let l := (s.prot.ranges.filter (fun e => e.2.valid && e.2.integ)).map (·.1)
  let st := l.foldl (fun (t : Tab IntegState) n => t.set .off n (if failed.contains n then .unverified else .verified))
    s.prot.integState
  (l.filter (fun n => failed.contains n)).foldl (fun s n => s.rangeUnverified n) { s with prot := { s.prot with integState := st } }

/-- INTEGRITY_ROOT_VERIFY_COMPLETE (R232): step 7 ends, step 9 starts the wake patrol and lets passes go on, and step 10
asks for the DIRTY marker. On a warm device reset no wake patrol runs, and a LOSS of W2 raises the count (R275). -/
def execIntegrityRootVerifyComplete (failed : List Nat) (s : State) : Host.Outcome State Fault Refusal :=
  done s (
    if !s.isSeq .on || !s.start.step6 || s.start.step7 then s
    else
      let warm := s.start.warm != 0
      let s := s.verifyRoots failed
      let s := if warm then s else { s with err := { s.err with wake := s.wakeList } }
      let s := s.keptPasses.foldl (fun s r => s.queuePass r) s
      let s := if s.start.warmLoss then s.raiseDsc .loss else s
      let s := { s with merge := { s.merge with marker := .dirty }, start := { s.start with step7 := true, step9 := true } }
      s.savePage1.flash)

/-! ### Step 10: Ready -/

/-- The DIRTY marker has reached the keep. -/
def State.markerKept (s : State) : Bool := s.start.step9 && !s.keep.queue.any (fun w => w.page == 1)

/-- What reporting Ready brings. -/
def State.becomeReady (s : State) : State :=
  let s := s.setBit Reg.TOP_STATUS_READY true
  let s := { s with pwr := { s.pwr with dirtySet := true }, shelf := { s.shelf with timeKnown := true }
                    share := s.rd Reg.SESS_SPILL_CFG_SHARE, sched := { s.sched with since := s.timeAt 0 } }
  s.boundUpdate

/-- The copy of STAGING into ACTIVE begins (R269). -/
def State.startCopy (s : State) : State :=
  if s.start.row = 2 then
    ({ s with start := { s.start with copying := true }, imageOps := s.imageOps ++ [ImageOp.copy] }).flash
  else s

/-- MEDIA_READY (R264): step 10 ends. -/
def execMediaReady (s : State) : Host.Outcome State Fault Refusal :=
  done s (
    if !s.isSeq .on || s.ready || s.start.warm != 0 || !s.markerKept then s
    else
      let s := { s with err := { s.err with patrolStart := s.stroke, patrolPos := 0, visited := 0 } }
      s.becomeReady.startCopy)

/-- WAKE_PATROL_END (R273): WAKE clears, and E resumes advancing. -/
def execWakePatrolEnd (s : State) : Host.Outcome State Fault Refusal :=
  done s (if s.start.step9 && s.bit Reg.CHAN_G_AGE_WAKE && s.err.wake == [] then s.setBit Reg.CHAN_G_AGE_WAKE false else s)

/-- STAGING_COPY_COMPLETE (R269): ACTIVE verifies, and the descriptor marks the copy complete; a copy that does not verify
is made again. -/
def execStagingCopyComplete (ok : Bool) (s : State) : Host.Outcome State Fault Refusal :=
  done s (
    if !s.start.copying || s.imageOps.contains ImageOp.copy then s
    else if ok then
      let d := s.descr
      let s := { s with start := { s.start with copying := false } }
      let s := s.setDescr { d with active := d.staging, copyDone := true, online := false, activeValid := true }
      (s.chronicle 0x0904 0x50 0 (leBytes 4 ((d.staging.map (·.version)).getD 0))).flash
    else ({ s with imageOps := s.imageOps ++ [ImageOp.copy] }).flash)

/-! ### Warm device reset (R274, R275) -/

/-- W1 and the start of W2: every link goes down, and the flush begins in the capo layout. -/
def State.startWarm (s : State) : State :=
  let s := s.closeTransfer
  let s := (List.range 4).foldl (fun s p =>
    let s := if s.linkUp p 0 then s.linkGone p 0 else s
    if s.linkUp p 1 then s.linkGone p 1 else s) s
  let s := (s.setBit Reg.TOP_STATUS_READY false).setBit Reg.TOP_STATUS_WARM_BUSY true
  ({ s with start := { s.start with warm := 2 } }).beginFlush

/-- A warm device reset may begin: Ready, none running, no activation pending (R274, Table 15-11).
(DEDUCED, log entry 98). -/
def State.mayWarm (s : State) : Bool := s.ready && s.isSeq .on && s.start.warm == 0 && s.fw.act.isNone

/-- DEVICE_RESET (R274, Table 15-3): Success is sent before step W1; Busy where it has no effect. -/
def execDeviceReset (p : CmdPath) (s : State) : Host.Outcome State Fault Refusal :=
  done s (s.command p (.deviceReset p) .admin true (fun s =>
    if !s.mayWarm then s.reply p .busy 0x000C
    else (((s.reply p .success).chronicle 0x0906 0x50 0 []).startWarm).flash))

/-- TOP_CTRL_WARM_RESET (R274). -/
def execTopCtrlWarmReset (v : Word) (s : State) : Host.Outcome State Fault Refusal :=
  done s (if clrBit v && s.mayWarm then s.startWarm else s)

/-- Motions whose keep write has ended take effect before the blocks are reset (R241). -/
def State.applyKept (s : State) : State := (s.prot.lodged.filter (·.kept)).foldl (fun s l => s.applyMotion l) s

/-- The start record of a warm device reset at step W4. -/
def Start.warmed (x : Start) (loss : Bool) : Start :=
  { step2 := true, step5 := true, warm := 4, warmLoss := loss, bootSel := x.bootSel, row := 0 }

/-- Step W2 ends with its saves, and step W3 resets the blocks (R275). (DEDUCED, log entry 102). -/
def State.warmFlushed (s : State) : State :=
  let s := (s.flushAll.markFlush).applyKept
  let us := (Config.drawn s.free).toNat % 2 ^ 24
  let s := ((s.tick).capoRecord s.flushResult us true).saveSpread
  let s := (s.closeRuns.saveKeep).saveChronicle s.chron.buffer.length
  let loss := s.merge.lost
  let s := s.warmCore.restoreProt
  let s := (s.setBit Reg.MERGE_STATUS_CAPO false).setBit Reg.TOP_STATUS_CAPO false
  ({ s with start := s.start.warmed loss, pwr := { s.pwr with dirtySet := false } }).flash

/-- WARM_RESET_FLUSH_DONE (R275): the flush of step W2 ends. -/
def execWarmResetFlushDone (s : State) : Host.Outcome State Fault Refusal :=
  done s (
    if !s.isSeq .on || s.start.warm != 2 || !s.flushReady || s.prot.lodged.any (fun l => l.group != 0 && !l.kept) then s
    else s.warmFlushed)

/-- WARM_RESET_COMPLETE (R275): step 10 of W5 ends. -/
def execWarmResetComplete (s : State) : Host.Outcome State Fault Refusal :=
  done s (
    if !s.isSeq .on || s.start.warm != 5 || !s.markerKept then s
    else ({ s with start := { s.start with warm := 0, warmLoss := false } }).becomeReady.setBit Reg.TOP_STATUS_WARM_BUSY false)

end Sys2Proof.Machine
end

