-- ==== Sys2Proof/Machine/ErrFamily.lean ====
section
/-! DEFINITION. Health, patrol and scrubbing (R203 to R214): PATROL_VISIT, PATROL_PASS_LATE, ERR_PATROL_CFG_WRITE,
ERR_CNT_CLR, ERR_LAST_UNCORR_LO_READ, SCRUB_RANGE, SCRUB_RANGE_COMPLETE, SCAN_MEDIA, GET_SCAN_MEDIA_CAPABILITIES,
GET_SCAN_MEDIA_RESULTS and DEVICE_TEMPERATURE_CROSSING. -/

namespace Sys2Proof.Machine

/-! ### Health (R212, Table 9-8) -/

/-- Blocks that are not retired: their number, and the sum of their WEAR. -/
def State.wearOf (s : State) : Nat × Nat :=
  let retired := (s.xlat.blocks.filter (fun e => e.2.pool == Pool.retired)).length
  let sum := ((s.xlat.blocks.filter (fun e => e.2.pool != Pool.retired)).map (fun e => e.2.wear)).sum
  (s.sbnTotal - retired, sum)

/-- Life Used: floor(100 × max(W ÷ 10⁷, D ÷ 25 EB)), at most 100. -/
def State.lifeUsed (s : State) : Nat :=
  let w := s.wearOf
  let a := if w.1 = 0 then 0 else 100 * w.2 / (133120 * 10 ^ 7 * w.1)
  let b := 100 * (s.keep.bytes.value * 2 ^ 36) / (25 * 10 ^ 18)
  min 100 (max a b)

/-- Two failed dies share a course and a die index (R106). -/
def State.twoFailed (s : State) : Bool :=
  (List.range 32).any (fun g =>
    decide (2 ≤ ((List.range 8).filter (fun i =>
      s.rd Reg.CHAN_STATUS_DIE_FAILED (8 * (g / 4) + i) / 2 ^ (g % 4) % 2 == 1)).length))

/-- Health Status: bit 0 Maintenance Needed, 1 Performance Degraded, 2 Hardware Replacement Needed. -/
def State.healthStatus (s : State) : Nat :=
  let life := s.lifeUsed
  let failed := (List.range 64).any (fun c => s.rd Reg.CHAN_STATUS_STATE c == 3)
  bitsOf [decide (1 ≤ s.pool) || decide (90 ≤ life),
    s.bit Reg.TOP_STATUS_RECOVERY || decide (2 ≤ s.pool) || s.bit Reg.CHAN_G_EVAC_STATUS_ACTIVE || failed
      || s.bit Reg.ERR_HEALTH_EVENT_PATROL_LATE,
    decide (3 ≤ s.pool) || decide (life = 100) || s.twoFailed]

/-- Media Status. -/
def State.mediaStatus (s : State) : Nat :=
  let n := s.pinnedLines
  if !s.ready then 1
  else if pinBudget ≤ n then 2
  else if 786432 < n then 6
  else if 0 < n then 4 else 0

/-- Life used crosses its threshold: a Memory Module Event, and the LIFE bit. (DEDUCED, log entry 107). -/
def State.lifeCrosses (s : State) (old new : Nat) : State :=
  match s.mbox.alerts.life with
  | none => s
  | some t =>
    if old < t && t ≤ new then (s.health Reg.ERR_HEALTH_EVENT_LIFE).event .warn (.module 2) 0x50 else s

/-- `ERR_HEALTH_STATUS` follows its conditions, and a change of Health Status or Media Status is recorded (Table 9-6). -/
def State.healthUpdate (s : State) : State :=
  let h := s.healthStatus
  let m := s.mediaStatus
  let life := s.lifeUsed
  let s := s.lifeCrosses (s.rd Reg.ERR_HEALTH_STATUS_LIFE_USED) life
  let s := ((s.wr Reg.ERR_HEALTH_STATUS_HEALTH h).wr Reg.ERR_HEALTH_STATUS_MEDIA m).wr Reg.ERR_HEALTH_STATUS_LIFE_USED life
  let s := if h = s.err.lastHealth then s else ({ s with err := { s.err with lastHealth := h } }).event .info (.module 0) 0x50
  if m = s.err.lastMedia then s
  else (({ s with err := { s.err with lastMedia := m } }).health Reg.ERR_HEALTH_EVENT_MEDIA_STATUS).event .info (.module 1) 0x50

/-- The die temperature is beyond a threshold of Set Alert Configuration. -/
def State.tempBeyond (s : State) (t : Int) : Bool :=
  (match s.mbox.alerts.overTemp with
    | some x => decide (x < t)
    | none => false)
  || (match s.mbox.alerts.underTemp with
    | some x => decide (t < x)
    | none => false)

/-- DEVICE_TEMPERATURE_CROSSING (R212, Table 9-6). -/
def execDeviceTemperatureCrossing (tempC : Int) (s : State) : Host.Outcome State Fault Refusal :=
  done s (
    let was := s.tempBeyond s.err.temp
    let s := { s with err := { s.err with temp := tempC } }
    let s := s.wr Reg.ERR_HEALTH_STATUS_TEMP (tempC % 256).toNat
    if s.tempBeyond tempC && !was then (s.health Reg.ERR_HEALTH_EVENT_TEMP).event .warn (.module 3) 0x50 else s)

/-- Conditions that still hold set their bits again (R213). -/
def State.reassertHealth (s : State) : State :=
  let s := if 1 ≤ s.pool then s.health Reg.ERR_HEALTH_EVENT_POOL else s
  let s := if (List.range 64).any (fun c => s.bit Reg.CHAN_STATUS_DIE_FAILED c) then s.health Reg.ERR_HEALTH_EVENT_DIE_FAIL else s
  let s := match s.mbox.alerts.life with
    | some t => if t ≤ s.lifeUsed then s.health Reg.ERR_HEALTH_EVENT_LIFE else s
    | none => s
  let s := if s.tempBeyond s.err.temp then s.health Reg.ERR_HEALTH_EVENT_TEMP else s
  if s.bit Reg.ERR_POISON_LIST_OVERFLOW then s.health Reg.ERR_HEALTH_EVENT_POISON_FULL else s

/-! ### Patrol (R204 to R207) -/

/-- Age bucket of a line (R100), and of a line older than the start while the wake patrol runs (R102). -/
def State.bucketOf (s : State) (age : Nat) : Nat :=
  let e := s.err.e % 16
  if age = e then 0
  else if s.bit Reg.CHAN_G_AGE_WAKE then min 15 ((s.err.eSaved + 16 - age) % 16 + s.rd Reg.CHAN_G_AGE_REST)
  else (e + 16 - age) % 16

/-- Largest age bucket of a page's lines. -/
def State.oldest (s : State) (p : MPage) : Nat := (p.lines.map (fun (e : Nat × MLine) => s.bucketOf e.2.age)).foldl max (s.bucketOf p.age)

/-- The age condition of R205: (b + 2) × T_AGE exceeds H. -/
def State.tooOld (s : State) (p : MPage) : Bool := decide (s.horizon < (s.oldest p + 2) * s.img.tAge)

/-- Logical line that a place holds the current version of. (DEDUCED, log entry 108). -/
def State.currentLine (s : State) (mp ln : Nat) (p : MPage) : Option Nat :=
  match p.tag with
  | none => none
  | some g => if ln < 64 && g.lpn != noLpn && s.readMp g.lpn == some mp then some (64 * g.lpn + ln) else none

/-- A page is refreshed for a line corrected in REFRESH_BITS or more bits. -/
def State.weakLine (s : State) (mp bits : Nat) : State :=
  if s.rd Reg.ERR_PATROL_CFG_REFRESH_BITS ≤ bits then s.markRefresh mp else s

/-- Does a read meet no more errors than the code mends. -/
def mends (e : MediaErr) : Bool := decide (e.linear ≤ 10) && decide (e.metaBits ≤ 1)

/-- A line that is no current version (a tag line, a parity line, a line of a page no longer valid): recovered as any line
is; one that cannot be recovered is counted. -/
def State.patrolPlain (s : State) (mp : Nat) (e : LineErr) : State :=
  let c := mpChan mp
  if s.dieFailed mp then s
  else if mends e.first then (s.noteCorr c (e.first.linear + e.first.metaBits)).weakLine mp (e.first.linear + e.first.metaBits)
  else
    let s := s.bump Reg.CHAN_RETRY_CNT 1 c
    if mends e.retry then ((s.noteCorr c (e.retry.linear + e.retry.metaBits)).recovered 0 c).markRefresh mp
    else
      let s := s.noteRecon mp
      if !s.notRebuilt mp e.line && decide (e.recon.linear ≤ 10) then
        let old := (s.mline mp e.line).getD {}
        let new : MLine := { old with lin := s.rebuilt mp e.line, age := s.ageNow }
        (((s.noteCorr c e.recon.linear).recovered 0 c).askRewrite ⟨0, mp, e.line, new⟩).bump Reg.ERR_REWRITE_CNT
      else ((s.bump Reg.ERR_UNCORR_CNT).bump Reg.CHAN_UNCORR_CNT 1 c).health Reg.ERR_HEALTH_EVENT_UNCORR

/-- The patrol reads one line that has errors. -/
def State.patrolLine (mp : Nat) (p : MPage) (s : State) (e : LineErr) : State :=
  if 64 < e.line then s
  else match s.currentLine mp e.line p with
    | some line =>
      let (s, _, bits) := s.readMedia line mp e.line e 4 false
      s.weakLine mp bits
    | none => s.patrolPlain mp e

/-- Programmed pages that the patrol visits. -/
def State.patrolPages (s : State) : List Nat := (s.pages.filter (fun (e : Nat × MPage) => s.patrolled (mpSbn e.1))).map (·.1)

/-- Strokes of an hour. -/
def hourStrokes : Nat := 3600 * 1562500

/-- The next pass begins. -/
def State.newPass (s : State) : State :=
  ({ s with err := { s.err with patrolPos := 0, patrolStart := s.stroke, visited := 0 } }).wr Reg.ERR_PATROL_STATUS_PROGRESS 0

/-- A pass is complete. -/
def State.passComplete (s : State) : State :=
  (s.wr Reg.ERR_PATROL_STATUS_LAST_PASS (min 255 ((s.stroke - s.err.patrolStart) / hourStrokes))).newPass

/-- Background work of the drone runs. -/
def State.droneRuns (s : State) : Bool := s.ready && s.isSeq .on && !s.bit Reg.MERGE_STATUS_CAPO

/-- One page is visited. -/
def State.visit (s : State) (mp : Nat) (p : MPage) (errs : List LineErr) : State :=
  let s := s.tele 13 0x07 (mpChan mp / 8)
  let s := errs.foldl (State.patrolLine mp p) s
  let s := if s.tooOld p then s.markRefresh mp else s
  let n := s.err.visited + 1
  let s := { s with err := { s.err with patrolPos := mp + 1, visited := n } }
  s.wr Reg.ERR_PATROL_STATUS_PROGRESS (min 100 (100 * n / max 1 s.patrolPages.length))

/-- PATROL_VISIT (R204, R205): the next page of the pass is read; after the last one the pass is complete. -/
def execPatrolVisit (errs : List LineErr) (s : State) : Host.Outcome State Fault Refusal :=
  done s (
    if !s.droneRuns then s
    else
      let s := match s.patrolPages.find? (fun mp => decide (s.err.patrolPos ≤ mp)) with
        | some mp => (match s.pages.find mp with
          | some p => s.visit mp p errs
          | none => s)
        | none => s
      if s.patrolPages.any (fun mp => decide (s.err.patrolPos ≤ mp)) then s else s.passComplete)

/-- The effective pass in strokes: min(PASS, T_AGE) (R204). -/
def State.effectivePass (s : State) : Nat := min (s.rd Reg.ERR_PATROL_CFG_PASS * hourStrokes) s.img.tAge

/-- PATROL_PASS_LATE (R204): the pass has not ended within the effective pass; the next one begins at once. -/
def execPatrolPassLate (s : State) : Host.Outcome State Fault Refusal :=
  done s (
    if !s.droneRuns || s.stroke ≤ s.err.patrolStart + s.effectivePass then s
    else ((s.health Reg.ERR_HEALTH_EVENT_PATROL_LATE).bump Reg.ERR_PATROL_STATUS_LATE).newPass)

/-- ERR_PATROL_CFG_WRITE (R207, R390): judged whole. -/
def execErrPatrolCfgWrite (v : Word) (s : State) : Host.Outcome State Fault Refusal :=
  done s (
    let pass := v.toNat % 32
    let days := v.toNat / 32 % 32
    let bits := v.toNat / 1024 % 16
    let range := decide (1 ≤ pass) && decide (pass ≤ 24) && decide (1 ≤ days) && decide (days ≤ 14) && decide (1 ≤ bits)
      && decide (bits ≤ 10)
    let fits := days == s.rd Reg.ERR_PATROL_CFG_HORIZON || decide (days * dayStrokes ≤ 14 * s.img.tAge)
    if range && fits then
      ((s.wr Reg.ERR_PATROL_CFG_PASS pass).wr Reg.ERR_PATROL_CFG_HORIZON days).wr Reg.ERR_PATROL_CFG_REFRESH_BITS bits
    else s.setBit Reg.ERR_STATUS_CFG_REJECT true)

/-- ERR_CNT_CLR (R214). -/
def execErrCntClr (v : Word) (s : State) : Host.Outcome State Fault Refusal :=
  done s (if clrBit v then s.askClear .err else s)

/-- ERR_LAST_UNCORR_LO_READ (R214): the low half is returned, and the high half latched. -/
def execErrLastUncorrLoRead (s : State) : Host.Outcome State Fault Refusal :=
  done s ((s.wr Reg.ERR_LAST_UNCORR_HI_DPA_HI s.err.lastUncorrHi).emit
    (.readValue Reg.ERR_LAST_UNCORR_LO_DPA_LO.off (s.rd Reg.ERR_LAST_UNCORR_LO_DPA_LO)))

/-! ### SCRUB RANGE and Scan Media (R209, R210) -/

/-- A run begins. -/
def State.startScrub (s : State) (x : Scrub) (b : Background) : State :=
  let s := ({ s with err := { s.err with scrub := some x } }).setBit Reg.ERR_STATUS_SCRUB_BUSY true
  (s.bgStart x.path b).reply x.path .backgroundStarted

/-- One SCRUB RANGE or Scan Media runs at a time, and a mailbox runs one background operation. -/
def State.scrubBusy (s : State) (p : CmdPath) : Bool := s.err.scrub.isSome || s.bgBusy p

/-- SCRUB_RANGE (R209): a range of device DPA that reaches beyond the exported capacity is cut there.
(DEDUCED, log entry 109). -/
def execScrubRange (p : CmdPath) (start length : Nat) (s : State) : Host.Outcome State Fault Refusal :=
  done s (s.command p (.scrubRange p start length) .any true (fun s =>
    if !wholePages start length then s.reply p .invalidInput
    else
      let lines := lineOf length
      let room := s.capLines - lineOf start
      let cut := s.onR59 p && decide (lineOf start < s.capLines) && decide (room < lines)
      let n := if cut then room else lines
      match s.cmdRange p start n with
      | none => s.reply p .invalidPhysicalAddress
      | some pieces =>
        if s.scrubBusy p then s.reply p .busy
        else s.startScrub { path := p, scan := false, pieces := pieces, start := start, stop := start + 64 * n, cut := cut } .scrub))

/-- SCAN_MEDIA (R210). -/
def execScanMedia (p : CmdPath) (dpa lines : Nat) (s : State) : Host.Outcome State Fault Refusal :=
  done s (s.command p (.scanMedia p dpa lines) .any true (fun s =>
    match s.cmdRange p dpa lines with
    | none => s.reply p .invalidPhysicalAddress
    | some pieces =>
      if s.scrubBusy p then s.reply p .busy
      else s.startScrub { path := p, scan := true, pieces := pieces, start := dpa, stop := dpa + 64 * lines } .scan))

/-- The first `n` lines of a list of pieces. -/
def takeLines : List (Nat × Nat) → Nat → List (Nat × Nat)
  | [], _ => []
  | (a, c) :: r, n => if n = 0 then [] else (a, min c n) :: takeLines r (n - min c n)

/-- Lines of a piece that lie in a tract. -/
def inTract (t : Nat) (x : Nat × Nat) : Nat :=
  min (x.1 + x.2) ((t + 1) * 114688) - max x.1 (t * 114688)

/-- Lines of the pieces that lie in mapped tracts. -/
def State.mappedLines (s : State) (l : List (Nat × Nat)) : Nat :=
  ((s.xlat.tracts.filter (fun e => e.2.state != TractState.unmapped)).map (fun e => (l.map (inTract e.1)).sum)).sum

/-- A logical line lies in the pieces. -/
def inPieces (l : List (Nat × Nat)) (line : Nat) : Bool := l.any (fun x => decide (x.1 ≤ line) && decide (line < x.1 + x.2))

/-- Current pages of the medium with a line in the pieces. -/
def State.scrubPages (s : State) (l : List (Nat × Nat)) : List (Nat × Nat × MPage) :=
  s.pages.filterMap (fun (e : Nat × MPage) => match e.2.tag with
    | some g =>
      if g.lpn != noLpn && s.readMp g.lpn == some e.1 && (List.range 64).any (fun i => inPieces l (64 * g.lpn + i))
      then some (e.1, g.lpn, e.2) else none
    | none => none)

/-- Poison lines of the pieces on the medium. -/
def poisonIn (l : List (Nat × Nat)) (x : Nat × Nat × MPage) : Nat :=
  (x.2.2.lines.filter (fun (e : Nat × MLine) => decide (e.1 < 64) && e.2.lin == Lin.poison && inPieces l (64 * x.2.1 + e.1))).length

/-- What a run has counted. -/
structure ScrubAcc where
  s : State
  corrected : Nat := 0
  rebuilt : Nat := 0
  lost : Nat := 0
  /-- lines found uncorrectable -/
  bad : List Nat := []

/-- One line of a run that has errors: `lpn` and the line in its page. -/
def scrubLine (l : List (Nat × Nat)) (scan : Bool) (a : ScrubAcc) (x : Nat × LineErr) : ScrubAcc :=
  let e := x.2
  let line := 64 * x.1 + e.line
  match a.s.readMp x.1 with
  | none => a
  | some mp =>
    if 64 ≤ e.line || !inPieces l line || (a.s.pages.find mp).isNone then a
    else
      let first := mends e.first
      let dead := a.s.dieFailed mp
      let (s, r, bits) := a.s.readMedia line mp e.line e (if scan then 3 else 4) scan
      let s := if scan then s else s.weakLine mp bits
      let a := { a with s := s, corrected := a.corrected + (if 0 < bits then 1 else 0) }
      match r with
      | .good _ => if !first && !mends e.retry && !dead then { a with rebuilt := a.rebuilt + 1 } else a
      | .poison => a
      | .lost => { a with lost := a.lost + 1, bad := a.bad ++ [line] }

/-- The summary of Table 9-5. -/
def scrubSummary (x : Scrub) (reached read : Nat) (a : ScrubAcc) (pages poison unmapped status : Nat) : List Nat :=
  leBytes 8 x.start ++ leBytes 8 reached ++ leBytes 8 read ++ leBytes 8 a.corrected ++ leBytes 8 pages ++ leBytes 8 a.rebuilt
    ++ leBytes 8 a.lost ++ leBytes 8 poison ++ leBytes 8 unmapped ++ [status] ++ List.replicate 7 0

/-- A run has ended at the line reached. -/
def State.scrubDone (s : State) (x : Scrub) (how : ScrubEnd) (reached : Nat) (errs : List (Nat × LineErr)) : State :=
  let reached := max x.start (min reached x.stop)
  let l := takeLines x.pieces ((reached - x.start) / 64)
  let total := (l.map (·.2)).sum
  let read := s.mappedLines l
  let pages := s.scrubPages l
  let poison := (pages.map (poisonIn l)).sum
  let before := s.err.refresh.length
  let a := errs.foldl (scrubLine l x.scan) { s := s }
  let s := if x.scan then a.s else pages.foldl (fun s e => if s.tooOld e.2.2 then s.markRefresh e.1 else s) a.s
  let status := if how = .capo then 2 else if x.aborted then 1 else if x.cut then 3 else 0
  let s := ({ s with err := { s.err with scrub := none } }).setBit Reg.ERR_STATUS_SCRUB_BUSY false
  let rc : Rc := if status = 1 || status = 2 then .aborted else .success
  if x.scan then
    let s := { s with err := { s.err with scanResults := a.bad } }
    let whole := status == 0 && total == s.capLines
    let s := if whole then s.setBit Reg.ERR_POISON_LIST_OVERFLOW false else s
    s.bgDone x.path .scan rc 0 []
  else s.bgDone x.path .scrub rc 0 (scrubSummary x reached read a (s.err.refresh.length - before) poison (total - read) status)

/-- SCRUB_RANGE_COMPLETE (R209, R210): a run has read its range, or has been ended at the line reached. -/
def execScrubRangeComplete (how : ScrubEnd) (reached : Nat) (errs : List (Nat × LineErr)) (s : State) :
    Host.Outcome State Fault Refusal :=
  done s (
    match s.err.scrub with
    | none => s
    | some x =>
      if how = .reset then
        let s := ({ s with err := { s.err with scrub := none } }).setBit Reg.ERR_STATUS_SCRUB_BUSY false
        { s with mbox := { s.mbox with bg := s.mbox.bg.filter (fun e => e.2 != .scrub && e.2 != .scan) } }
      else if how = .complete && !x.aborted && reached < x.stop then s
      else s.scrubDone x how reached errs)

/-- GET_SCAN_MEDIA_CAPABILITIES (Table 15-2): length ÷ RATE in ms, rounded up. -/
def execGetScanMediaCapabilities (p : CmdPath) (dpa lines : Nat) (s : State) : Host.Outcome State Fault Refusal :=
  done s (s.command p (.getScanMediaCapabilities p dpa lines) .any true (fun s =>
    match s.cmdRange p dpa lines with
    | none => s.reply p .invalidPhysicalAddress
    | some _ =>
      let rate := s.rd Reg.ERR_SCRUB_CFG_RATE * 1000000
      s.reply p .success 0 (leBytes 4 ((64 * lines + rate - 1) / rate))))

end Sys2Proof.Machine
end

