-- ==== Sys2Proof/Machine/ImageFamily.lean ====
section
/-! DEFINITION. Image transfer and activation (R12, R13, R94, R345 to R350): TRANSFER_FW_*, ACTIVATE_*,
ACTIVATION_TAKE_EFFECT, OLD_BANK_RELEASE, LOAD_TABLE_COMPLETE and IMAGE_SLOT_FLASH_COMPLETE. -/

namespace Sys2Proof.Machine

/-! ### Transfer FW (R345, Table 15-10) -/

/-- Units of 128 B in a 64 KiB block, and the most a command carries. -/
def blockUnits : Nat := 512
def maxUnits : Nat := 63

/-- Units of the largest image: 384 blocks (R340). -/
def imageUnits : Nat := 384 * blockUnits

/-- Same mailbox or endpoint, whatever the message tag. -/
def samePath (p q : CmdPath) : Bool := p.kind == q.kind && p.port == q.port && p.ld == q.ld

/-- Units of a block that are programmed. -/
def Transfer.have (t : Transfer) (b : Nat) : Nat := (t.units.filter (fun e => e.1 / blockUnits == b)).length

/-- Every unit of a block is programmed, and the block has not passed its check. -/
def Transfer.filled (t : Transfer) (b : Nat) : Bool := t.have b == blockUnits && !t.verified.contains b

/-- Discard a block. -/
def Transfer.discard (t : Transfer) (b : Nat) : Transfer := { t with units := t.units.keep (fun u _ => u / blockUnits != b) }

/-- A programmed unit that differs from what is sent. -/
def Transfer.differs (t : Transfer) (e : Nat × Nat) : Bool :=
  match t.units.find e.1 with
  | some v => v != e.2
  | none => false

/-- Units of a command, numbered. -/
def numbered (offset : Nat) (l : List Nat) : List (Nat × Nat) := l.zipIdx.map (fun e => (offset + e.2, e.1))

/-- Blocks that a command touches: two at most. -/
def touched (offset n : Nat) : List Nat :=
  let a := offset / blockUnits
  let b := (offset + n - 1) / blockUnits
  if a = b then [a] else [a, b]

/-- Why the data of a command is refused. -/
def Transfer.refusal (t : Transfer) (offset : Nat) (l : List Nat) (h : ImageReport) : Option (Rc × Nat) :=
  let beyond := match t.header with
    | some x => decide (x.length < 128 * (offset + l.length))
    | none => decide (imageUnits < (offset + l.length : Nat))
  if l = [] || maxUnits < l.length || beyond then some (.invalidInput, 0)
  else if !h.compact && !t.verified.contains 0 && blockUnits < offset + l.length then some (.transferOutOfOrder, 0)
  else if (numbered offset l).any (fun e => t.differs e && t.verified.contains (e.1 / blockUnits)) then some (.invalidInput, 0x0010)
  else none

/-- Program the units of a command: a block with differing data is erased first. -/
def Transfer.program (t : Transfer) (offset : Nat) (l : List Nat) : Transfer :=
  let us := numbered offset l
  let t := (us.filter t.differs).foldl (fun (t : Transfer) (e : Nat × Nat) => t.discard (e.1 / blockUnits)) t
  us.foldl (fun (t : Transfer) (e : Nat × Nat) => { t with units := t.units.put e.1 e.2 }) t

/-- The data of a command brings nothing new. -/
def Transfer.holds (t : Transfer) (offset : Nat) (l : List Nat) : Bool :=
  (numbered offset l).all (fun e => t.units.find e.1 == some e.2)

/-- Take the data of a command of the open transfer: its flash work begins, or it succeeds at once with no flash
operation (R345). -/
def State.takeUnits (s : State) (p : CmdPath) (t : Transfer) (offset : Nat) (l : List Nat) (h : ImageReport) (last : Bool) : State :=
  match t.refusal offset l h with
  | some (rc, ext) => s.reply p rc ext
  | none =>
    if t.holds offset l && !last then s.reply p .success
    else
      let t := t.program offset l
      let c : XferCmd := { path := p, blocks := (touched offset l.length).filter t.filled, header := h, last := last }
      let s := { s with fw := { s.fw with transfer := some t, cmd := some c }, imageOps := s.imageOps ++ [ImageOp.transfer] }
      ((s.bgStart p .transfer).reply p .backgroundStarted).flash

/-- STAGING is in use: it is activated or is being copied, or an activation is pending (Table 15-1). -/
def State.stagingInUse (s : State) : Bool := s.start.copying || s.descr.state == 3 || s.fw.act.isSome

/-- Record 0x0900. -/
def State.transferRecord (s : State) (what version : Nat) : State := s.chronicle 0x0900 0x50 0 (what :: leBytes 3 version)

/-- Version in the header of an open transfer. -/
def Transfer.version (t : Transfer) : Nat := (t.header.map (·.version)).getD 0

/-- TRANSFER_FW_FULL (R345): no image fits one payload. -/
def execTransferFwFull (p : CmdPath) (s : State) : Host.Outcome State Fault Refusal :=
  done s (s.command p (.transferFwFull p) .admin false (fun s => s.reply p .invalidInput))

/-- A new transfer opens: the descriptor is set to 1, and earlier STAGING content is abandoned. -/
def State.openTransfer (s : State) (p : CmdPath) (offset : Nat) (l : List Nat) (h : ImageReport) : State :=
  let t : Transfer := { path := p }
  match t.refusal offset l h with
  | some (rc, ext) => s.reply p rc ext
  | none =>
    let s := s.setDescr { s.descr with state := 1, staging := none }
    let s := s.transferRecord 1 (if offset = 0 then h.version else 0)
    s.takeUnits p t offset l h false

/-- TRANSFER_FW_INITIATE (R345). (DEDUCED, log entry 103). -/
def execTransferFwInitiate (p : CmdPath) (slot offset : Nat) (units : List Nat) (header : ImageReport) (s : State) :
    Host.Outcome State Fault Refusal :=
  done s (s.command p (.transferFwInitiate p slot offset units header) .admin false (fun s =>
    if slot ≠ 2 then s.reply p .invalidSlot
    else if s.stagingInUse then s.reply p .busy 0x000C
    else if s.bgBusy p then s.reply p .busy
    else match s.fw.transfer with
      | some t =>
        if samePath t.path p && t.holds offset units && units != [] then s.reply p .success else s.reply p .transferInProgress
      | none => s.openTransfer p offset units header))

/-- A command of the open transfer of its mailbox. -/
def State.ownTransfer (s : State) (p : CmdPath) (slot : Nat) (f : State → Transfer → State) : State :=
  if slot ≠ 2 then s.reply p .invalidSlot
  else match s.fw.transfer with
    | none => s.reply p .transferOutOfOrder
    | some t =>
      if !samePath t.path p then s.reply p .transferOutOfOrder
      else if s.bgBusy p || s.fw.cmd.isSome then s.reply p .busy
      else f s t

/-- TRANSFER_FW_CONTINUE (R345). -/
def execTransferFwContinue (p : CmdPath) (slot offset : Nat) (units : List Nat) (header : ImageReport) (s : State) :
    Host.Outcome State Fault Refusal :=
  done s (s.command p (.transferFwContinue p slot offset units header) .admin false (fun s =>
    s.ownTransfer p slot (fun s t => s.takeUnits p t offset units header false)))

/-- TRANSFER_FW_END (R345): the data is taken, then the End checks of Table 15-8 are made. -/
def execTransferFwEnd (p : CmdPath) (slot offset : Nat) (units : List Nat) (r : ImageReport) (s : State) :
    Host.Outcome State Fault Refusal :=
  done s (s.command p (.transferFwEnd p slot offset units r) .admin false (fun s =>
    s.ownTransfer p slot (fun s t => s.takeUnits p t offset units r true)))

/-- The open transfer is aborted: the descriptor is set to 0. -/
def State.abortTransfer (s : State) (p : CmdPath) (t : Transfer) : State :=
  let s := match s.fw.cmd with
    | some c => s.bgDone c.path .transfer .aborted 0 []
    | none => s
  let s := ({ s with fw := { s.fw with transfer := none, cmd := none } }).dropImageOps (· == ImageOp.transfer)
  ((s.setDescr { s.descr with state := 0, staging := none }).transferRecord 3 t.version).reply p .success

/-- An activation at the next cold reset can be withdrawn (Table 15-10). -/
def Descr.withdrawable (d : Descr) : Bool := d.state == 3 && !d.copyDone && !d.online

/-- TRANSFER_FW_ABORT (R345). -/
def execTransferFwAbort (p : CmdPath) (s : State) : Host.Outcome State Fault Refusal :=
  done s (s.command p (.transferFwAbort p) .admin false (fun s =>
    if s.start.copying then s.reply p .busy 0x000C
    else match s.fw.transfer with
      | some t => s.abortTransfer p t
      | none =>
        if s.descr.withdrawable then
          let v := (s.descr.staging.map (·.version)).getD 0
          ((s.setDescr { s.descr with state := 2 }).transferRecord 3 v).reply p .success
        else s.reply p .transferOutOfOrder))

/-! ### Verification (R343, Table 15-8) -/

/-- Fault of an image against the stacks, as its extended status; 0: none, or the die count is not yet reported. -/
def State.stackFault (s : State) (r : ImageReport) : Nat :=
  if !s.start.step5 then 0
  else if r.compact && s.dies == 4 then 0x0009
  else if (s.dieRefused r.dieTypes).isSome then 0x000A else 0

/-- First failing check of an image. -/
def State.imageFault (s : State) (r : ImageReport) : Nat := if r.fault = 0 then s.stackFault r else r.fault

/-- Check of a block that is complete; block 0 is checked against the stack type too. -/
def State.blockFault (s : State) (b check : Nat) (h : ImageReport) : Nat :=
  if check ≠ 0 then check else if b = 0 && s.start.step5 && h.compact && s.dies == 4 then 0x0009 else 0

/-- Blocks 0 to BLOCKS − 1 have all passed their checks. -/
def Transfer.whole (t : Transfer) : Bool :=
  match t.header with
  | none => false
  | some h => (List.range (h.length / 65536)).all (fun b => t.verified.contains b)

/-- STAGING is refused: the descriptor is set to 4, and record 0x0901 is written; 0: at End, 1: at activation. -/
def State.refuseStaging (s : State) (fault at_ : Nat) : State :=
  (s.setDescr { s.descr with state := 4 }).chronicle 0x0901 0x50 2 (leBytes 2 fault ++ [at_])

/-- The End checks (Table 15-8). -/
def State.endChecks (s : State) (c : XferCmd) (t : Transfer) : State :=
  if !t.whole then s.bgDone c.path .transfer .invalidInput 0x000B []
  else
    let f := s.imageFault c.header
    let s := { s with fw := { s.fw with transfer := none } }
    if f ≠ 0 then (s.refuseStaging f 0).bgDone c.path .transfer .verificationFailed f []
    else
      let s := s.setDescr { s.descr with state := 2, staging := some c.header }
      (s.transferRecord 2 t.version).bgDone c.path .transfer .success 0 []

/-- A block of the running command has been checked. -/
def State.blockChecked (s : State) (c : XferCmd) (t : Transfer) (b check : Nat) (rest : List Nat) : XferCmd × Transfer :=
  let f := s.blockFault b check c.header
  if f ≠ 0 then ({ c with blocks := rest, ext := if c.ext = 0 then f else c.ext }, t.discard b)
  else ({ c with blocks := rest },
    { t with verified := t.verified ++ [b], header := if b = 0 then some c.header else t.header })

/-- The flash work of a Transfer FW command has ended, or goes on with its next block. -/
def State.transferWritten (s : State) (ok : Bool) (check : Nat) (c : XferCmd) (t : Transfer) : State :=
  let again (s : State) : State := ({ s with imageOps := s.imageOps ++ [ImageOp.transfer] }).flash
  if !ok then again s
  else
    let ct := match c.blocks with
      | [] => (c, t)
      | b :: rest => s.blockChecked c t b check rest
    if ct.1.blocks ≠ [] then again { s with fw := { s.fw with transfer := some ct.2, cmd := some ct.1 } }
    else
      let s := { s with fw := { s.fw with transfer := some ct.2, cmd := none } }
      let s := if ct.1.ext ≠ 0 then s.bgDone ct.1.path .transfer .verificationFailed ct.1.ext []
        else if ct.1.last then s.endChecks ct.1 ct.2
        else s.bgDone ct.1.path .transfer .success 0 []
      s.flash

/-! ### Activation (R346, R347) -/

/-- A coordinated activation is prepared (R323). -/
def State.coordinated (s : State) : Bool := s.shelf.act.isSome

/-- Refusals of Activate FW and ACTIVATE AT, in order; Success with 0x0001 is a repeat (R346, Table 15-6).
An online or scheduled one is refused in capo too (R347). (DEDUCED, log entry 104). -/
def State.activateCheck (s : State) (p : CmdPath) (now : Bool) (f : State → State) : State :=
  if s.coordinated then s.reply p .busy 0x000E
  else if now && s.bit Reg.MERGE_STATUS_CAPO then s.reply p .busy 0x000C
  else if s.descr.state == 3 || s.fw.act.isSome then s.reply p .success 0x0001
  else if s.descr.state != 2 then s.reply p .invalidSlot
  else f s

/-- Step 2 begins: STAGING is read back. -/
def State.startActivation (s : State) (p : CmdPath) (kind : ActKind) (stroke : Option Nat) : State :=
  if s.bgBusy p then s.reply p .busy
  else
    let a : Activation := { kind := kind, path := some p, stroke := stroke }
    let s := { s with fw := { s.fw with act := some a }, imageOps := s.imageOps ++ [ImageOp.verify] }
    ((s.bgStart p .activate).reply p .backgroundStarted).flash

/-- ACTIVATE_FW_ONLINE (R347). -/
def execActivateFwOnline (p : CmdPath) (slot : Nat) (s : State) : Host.Outcome State Fault Refusal :=
  done s (s.command p (.activateFwOnline p slot) .admin true (fun s =>
    if slot ≠ 2 then s.reply p .invalidSlot else s.activateCheck p true (fun s => s.startActivation p .online none)))

/-- ACTIVATE_AT (R347): S lies between 1,024 and 2^24 strokes ahead. -/
def execActivateAt (p : CmdPath) (stroke : Nat) (s : State) : Host.Outcome State Fault Refusal :=
  done s (s.command p (.activateAt p stroke) .admin true (fun s =>
    s.activateCheck p true (fun s =>
      if stroke < s.stroke + 1024 || s.stroke + 2 ^ 24 < stroke then s.reply p .invalidInput
      else s.startActivation p .scheduled (some stroke))))

/-- Record 0x0902; 0: next cold reset, 1: online, 2: scheduled, 3: coordinated. -/
def State.activationRecord (s : State) (how : Nat) : State :=
  s.chronicle 0x0902 0x50 0 (how :: leBytes 6 (s.stroke % 2 ^ 48))

/-- ACTIVATE_FW_NEXT_COLD_RESET (R346): STAGING is verified in full, then the descriptor is written. -/
def execActivateFwNextColdReset (p : CmdPath) (slot : Nat) (r : ImageReport) (s : State) : Host.Outcome State Fault Refusal :=
  done s (s.command p (.activateFwNextColdReset p slot r) .admin false (fun s =>
    if slot ≠ 2 then s.reply p .invalidSlot
    else s.activateCheck p false (fun s =>
      let f := s.imageFault r
      if f ≠ 0 then (s.refuseStaging f 1).reply p .verificationFailed f
      else
        let s := s.setDescr { s.descr with state := 3, copyDone := false, online := false, staging := some r }
        (s.activationRecord 0).reply p .success)))

/-- The pending activation ends without effect. -/
def State.dropActivation (s : State) : State :=
  ({ s with fw := { s.fw with act := none } }).dropImageOps ImageOp.activates

/-- The tables are loaded into the spare banks of the sequencers and stacks (R94); the spare banks hold nothing. -/
def State.loadTables (s : State) (a : Activation) (r : ImageReport) : State :=
  let a : Activation := { a with stage := .loading, image := imgOf r, report := some r }
  let s := if s.fw.oldBank then s else s.releaseSpare
  let ops : List ImageOp := (List.range 64).map (fun c => ImageOp.table c)
  ({ s with fw := { s.fw with act := some a }, imageOps := s.imageOps ++ ops }).flash

/-- The activation fails: FW Rolled Back. -/
def State.rolledBack (s : State) (a : Activation) (ext : Nat) : State :=
  match a.path with
  | some p => s.bgDone p .activate .activationFailed ext []
  | none => s

/-- Steps 2 to 4 of R347: STAGING has been read back. A fault against the stacks alone leaves STAGING valid (step 3). -/
def State.stagingRead (s : State) (a : Activation) (r : ImageReport) : State :=
  if r.fault ≠ 0 && r.fault ≠ 0x0009 && r.fault ≠ 0x000A then
    (s.dropActivation.refuseStaging r.fault 1).rolledBack a r.fault
  else
    let f := s.imageFault r
    if f ≠ 0 then
      (s.dropActivation.chronicle 0x0901 0x50 2 (leBytes 2 f ++ [1])).rolledBack a f
    else (s.setDescr { s.descr with state := 3, copyDone := false, online := true, staging := some r }).loadTables a r

/-! ### LOAD TABLE (R94) -/

/-- Channels whose stack can report: those not failed. -/
def State.workingChans (s : State) : List Nat := (List.range 64).filter (fun c => s.rd Reg.CHAN_STATUS_STATE c != 3)

/-- Every stack reports its spare bank valid. -/
def State.spareValid (s : State) : Bool := s.workingChans.all (fun c => (s.chan c).banks == 3)

/-- A coordinated activation cannot go on: this member reports ACT 3 (R323). -/
def State.actRefused (s : State) : State := ({ s with shelf := { s.shelf with act := none } }).setAct 3

/-- A stack refuses the load, or its channel retrains (R347): the spare banks are released. -/
def State.loadFailed (s : State) (a : Activation) : State :=
  let s := s.dropActivation.releaseSpare.chronicle 0x0903 0x50 1 [2]
  if a.kind = .coordinated then s.actRefused
  else (s.setDescr { s.descr with state := 2, online := false }).rolledBack a 0

/-- LOAD_TABLE_COMPLETE (R94): all stacks report the spare bank valid, or the load has failed. -/
def execLoadTableComplete (ok : Bool) (s : State) : Host.Outcome State Fault Refusal :=
  done s (
    match s.fw.act with
    | none => s
    | some a =>
      if a.stage ≠ .loading then s
      else if !ok then s.loadFailed a
      else if s.imageOps.any ImageOp.activates || !s.spareValid then s
      else
        let s := { s with fw := { s.fw with act := some { a with stage := .loaded } } }
        if a.kind = .coordinated then s.setAct 1 else s)

/-! ### Effect (R13) -/

/-- Largest horizon, in whole days, that an image's T_AGE allows (R207). -/
def State.maxHorizon (s : State) : Nat := max 1 (14 * s.img.tAge / dayStrokes)

/-- HORIZON is lowered when the activated image's T_AGE is below H ÷ 14 (R207). (DEDUCED, log entry 105). -/
def State.lowerHorizon (s : State) : State :=
  if s.maxHorizon < s.rd Reg.ERR_PATROL_CFG_HORIZON then
    let n := s.maxHorizon
    (s.wr Reg.ERR_PATROL_CFG_HORIZON n).chronicle 0x0402 0x50 1 [n]
  else s

/-- The sequencers and stacks use the other table bank from now on. -/
def State.switchBanks (s : State) : State :=
  (List.range 64).foldl (fun s c => s.wr Reg.CHAN_STATUS_TBANK (1 - s.rd Reg.CHAN_STATUS_TBANK c) c) s

/-- An operation that began under another table bank than its channel's still runs (R13). -/
def State.underOld (s : State) : Bool :=
  s.ops.any (fun e => e.2.tb != s.rd Reg.CHAN_STATUS_TBANK (e.1 / 64))
    || s.fw.oldPrecond.any (fun b => s.preconditioning.contains b)

/-- Recovery mode ends, and the normal layout returns (R40, R349). -/
def State.leaveRecovery (s : State) : State :=
  if s.bit Reg.TOP_STATUS_RECOVERY then
    let s := s.setBit Reg.TOP_STATUS_RECOVERY false
    let s := { s with sched := { s.sched with back := s.sched.back.map (fun _ => 0) } }
    if s.rd Reg.SCHED_STATUS_LAYOUT = 2 then s.wr Reg.SCHED_STATUS_LAYOUT 0 else s
  else s

/-- Code of record 0x0902. -/
def ActKind.code : ActKind → Nat
  | .online => 1 | .scheduled => 2 | .coordinated => 3

/-- An activation takes effect at this stroke boundary (R13): every later command uses the new bank. One later than its
stroke is recorded as delayed. -/
def State.takeEffect (s : State) (a : Activation) : State :=
  let late := match a.stroke with
    | some n => decide (n < s.stroke)
    | none => false
  let s := if late then s.chronicle 0x0702 0x50 1 (leBytes 6 (s.stroke % 2 ^ 48)) else s
  let run := s.preconditioning
  let s := { s.switchBanks with img := a.image }
  let s := { s with fw := { s.fw with act := none, oldPrecond := run } }
  let s := { s with fw := { s.fw with oldBank := s.underOld } }
  let s := if s.fw.oldBank then s else s.releaseSpare
  let s := s.leaveRecovery.lowerHorizon
  let st := match a.report with
    | some r => some r
    | none => s.descr.staging
  let s := s.setDescr { s.descr with state := 3, copyDone := false, online := true, staging := st, actStroke := s.stroke }
  let s := s.activationRecord a.kind.code
  match a.path with
  | some p => s.bgDone p .activate .success 0 (leBytes 8 s.stroke)
  | none => s

/-- ACTIVATION_TAKE_EFFECT (R13, R347): at the stroke of effect, once the tables are loaded and the bank of an earlier
activation is released. -/
def execActivationTakeEffect (s : State) : Host.Outcome State Fault Refusal :=
  done s (
    match s.fw.act with
    | none => s
    | some a =>
      let due := match a.stroke with
        | some n => decide (n ≤ s.stroke)
        | none => true
      if a.kind = .coordinated || a.stage ≠ .loaded || s.fw.oldBank || !due then s else s.takeEffect a)

/-- OLD_BANK_RELEASE (R13): the last operation under the old bank has ended. -/
def execOldBankRelease (s : State) : Host.Outcome State Fault Refusal :=
  done s (
    if !s.fw.oldBank || s.underOld then s
    else ({ s with fw := { s.fw with oldBank := false, oldPrecond := [] } }).releaseSpare)

/-! ### The flash operation on an image slot ends -/

/-- Is this image-slot operation in the flash. -/
def State.inFlash (s : State) (o : ImageOp) : Bool := s.keep.op == some .imageOp && s.imageOps.head? == some o

/-- The image-slot operation in the flash has ended. -/
def State.imageOpDone (s : State) : State :=
  { s with imageOps := s.imageOps.tail, keep := { s.keep with op := none } }

/-- IMAGE_SLOT_FLASH_COMPLETE (R345, R347, R269): a Transfer FW command's writes, the verification read of an activation, a
program of the copy into ACTIVE, or the load of a channel's tables ends. -/
def execImageSlotFlashComplete (what : FlashEnd) (s : State) : Host.Outcome State Fault Refusal :=
  done s (
    match what with
    | .transferWrite ok check =>
      if !s.inFlash .transfer then s
      else match s.fw.cmd, s.fw.transfer with
        | some c, some t => s.imageOpDone.transferWritten ok check c t
        | _, _ => s.imageOpDone.flash
    | .activationRead r =>
      if !s.inFlash .verify then s
      else match s.fw.act with
        | some a => (s.imageOpDone.stagingRead a r).flash
        | none => s.imageOpDone.flash
    | .copyProgram ok =>
      if !s.inFlash .copy then s
      else if ok then s.imageOpDone.flash
      else ({ s.imageOpDone with imageOps := s.imageOpDone.imageOps ++ [ImageOp.copy] }).flash
    | .tableChunk c =>
      if !s.inFlash (.table c) || s.fw.oldBank then s
      else (s.imageOpDone.emit (.fipen c 0 0 .loadTable)).flash)

end Sys2Proof.Machine
end

