-- ==== Sys2Proof/Machine/MboxFamily.lean ====
section
/-! DEFINITION. The standard commands and the reads of keep and chronicle (R211, R212, R297, R315, R333, R336). -/

namespace Sys2Proof.Machine

/-! ### Identity and background operations -/

/-- IDENTIFY (0001h, Tables 15-2 and 17-1): vendor and device ID, no subsystem ID, serial number, payload size, memory device. -/
def execIdentify (p : CmdPath) (s : State) : Host.Outcome State Fault Refusal :=
  done s (s.command p (.identify p) .any false (fun s =>
    s.reply p .success 0 (leBytes 2 0x1F3A ++ leBytes 2 0x8064 ++ leBytes 4 0 ++ leBytes 8 Config.serial.toNat ++ [13, 3])))

/-- REQUEST_ABORT_BACKGROUND_OPERATION (0005h): SCRUB RANGE and Scan Media of the mailbox are aborted; every other operation
ignores it. -/
def execRequestAbortBackgroundOperation (p : CmdPath) (s : State) : Host.Outcome State Fault Refusal :=
  done s (s.command p (.requestAbortBackgroundOperation p) .any false (fun s =>
    let s := match s.err.scrub with
      | some x => if samePath x.path p then { s with err := { s.err with scrub := some { x with aborted := true } } } else s
      | none => s
    s.reply p .success))

/-! ### Event logs (R211, R338) -/

/-- UUIDs of the records: those of CXL, and those of Table 15-5. (PRESUMED, log entry 111). -/
def EventRec.uuid : EventRec → Nat
  | .media _ _ _ => 0xfbcd0a77c260417f85a9088b1621eba6
  | .module _ => 0xfe927475dd594339a58679bab113b774
  | .internal _ _ _ _ _ _ _ _ => 0x5e1d7a203b9c4f61a8d207c4e9b15f36
  | .integrity _ _ _ _ => 0x9a47c0e361d54b2893fe2c8b0d7714a1
  | .dynamicCap _ _ _ => 0xca95afa7f18340188c2f95268e101a2a

/-- Big-endian bytes of a UUID, as it is written. -/
def uuidBytes (n : Nat) : List Nat := (leBytes 16 n).reverse

/-- What is particular to the record: the 80 B of Table 9-7 and of R338 for the vendor records. -/
def EventRec.body : EventRec → List Nat
  | .media dpa thr tr => leBytes 8 dpa ++ [if thr then 1 else 0, tr]
  | .module k => [k]
  | .internal u c k r a n st key =>
    [u, c, k, r] ++ leBytes 8 a ++ leBytes 4 n ++ leBytes 8 st ++ leBytes 4 key ++ List.replicate 52 0
  | .integrity r l d st => [r, l] ++ leBytes 8 d ++ leBytes 8 st ++ List.replicate 62 0
  | .dynamicCap ty n l => ty :: leBytes 2 n ++ l.flatMap (fun (e : Extent) => leBytes 8 e.base ++ leBytes 8 e.len)

/-- A record as read out: UUID, handle and its particular part. (DEDUCED, log entry 110). -/
def recordBytes (x : Nat × EventRec) : List Nat := uuidBytes x.2.uuid ++ leBytes 2 x.1 ++ x.2.body

/-- The log of a number. -/
def logOf (n : Nat) : Option Log :=
  match n with
  | 0 => some .info
  | 1 => some .warn
  | 2 => some .fail
  | 3 => some .fatal
  | _ => none

/-- Records that one payload of 8 KiB carries. -/
def recordsPerRead : Nat := 63

/-- GET_EVENT_RECORDS (0100h): flags (0: overflow, 1: more records), overflow count and timestamps, and the oldest records. -/
def execGetEventRecords (p : CmdPath) (log : Nat) (s : State) : Host.Outcome State Fault Refusal :=
  done s (s.command p (.getEventRecords p log) .any false (fun s =>
    match logOf log with
    | none => s.reply p .invalidInput
    | some l =>
      let x := s.events.log l
      let some_ := x.records.take recordsPerRead
      let flags := bitsOf [x.overflow != 0, decide (recordsPerRead < x.records.length)]
      s.reply p .success 0 ([flags, 0] ++ leBytes 2 x.overflow ++ leBytes 8 x.firstOverflow ++ leBytes 8 x.lastOverflow
        ++ leBytes 2 some_.length ++ some_.flatMap recordBytes)))

/-- CLEAR_EVENT_RECORDS (0101h): a handle no longer in the log returns Invalid Handle, and nothing is cleared. -/
def execClearEventRecords (p : CmdPath) (log : Nat) (all : Bool) (handles : List Nat) (s : State) : Host.Outcome State Fault Refusal :=
  done s (s.command p (.clearEventRecords p log all handles) .admin false (fun s =>
    match logOf log with
    | none => s.reply p .invalidInput
    | some l =>
      let x := s.events.log l
      if all then ({ s with events := s.events.setLog l {} }).reply p .success
      else if handles.any (fun h => !x.records.any (fun r => r.1 == h)) then s.reply p .invalidHandle
      else
        let y : EventLog := { records := x.records.filter (fun r => !handles.contains r.1) }
        ({ s with events := s.events.setLog l y }).reply p .success))

/-- GET_EVENT_INTERRUPT_POLICY (0102h). -/
def execGetEventInterruptPolicy (p : CmdPath) (s : State) : Host.Outcome State Fault Refusal :=
  done s (s.command p (.getEventInterruptPolicy p) .any false (fun s => s.reply p .success 0 s.events.policy))

/-- SET_EVENT_INTERRUPT_POLICY (0103h): MSI-X or firmware interrupt, or none, for each log. -/
def execSetEventInterruptPolicy (p : CmdPath) (modes : List Nat) (s : State) : Host.Outcome State Fault Refusal :=
  done s (s.command p (.setEventInterruptPolicy p modes) .admin false (fun s =>
    if modes.length = 4 && modes.all (fun m => decide (m ≤ 2)) then
      ({ s with events := { s.events with policy := modes } }).reply p .success
    else s.reply p .invalidInput))

/-! ### Firmware information -/

/-- A revision string of 16 B: `BASESET`, padded with spaces (R349). -/
def baseString : List Nat := [66, 65, 83, 69, 83, 69, 84] ++ List.replicate 9 32

/-- Revision string of an image: its VERSION stands for its VERSION_STRING. (DESIGN CHOICE, log entry 112). -/
def revisionOf (r : Option ImageReport) : List Nat :=
  match r with
  | some x => leBytes 16 x.version
  | none => List.replicate 16 0

/-- STAGING holds a valid image. -/
def Descr.stagingValid (d : Descr) : Bool := d.state == 2 || d.state == 3

/-- Slot that runs: 2 while STAGING runs after an activation or a row 2 start. -/
def State.activeSlot (s : State) : Nat :=
  if !s.bit Reg.TOP_STATUS_RECOVERY && s.descr.state == 3 && !s.descr.copyDone && (s.descr.online || s.start.row == 2)
      && s.fw.act.isNone then 2 else 1

/-- Slot to be activated at the next cold reset. -/
def State.stagedSlot (s : State) : Nat := if s.descr.state == 3 && !s.descr.online && !s.descr.copyDone then 2 else 0

/-- GET_FW_INFO (0200h): 2 slots, online activation capable. -/
def execGetFwInfo (p : CmdPath) (s : State) : Host.Outcome State Fault Refusal :=
  done s (s.command p (.getFwInfo p) .any false (fun s =>
    let one := if s.bit Reg.TOP_STATUS_RECOVERY then baseString else revisionOf s.descr.active
    let two := if s.descr.stagingValid then revisionOf s.descr.staging else List.replicate 16 0
    s.reply p .success 0 ([2, s.activeSlot + 8 * s.stagedSlot, 1] ++ one ++ two)))

/-! ### Timestamps (R315) -/

/-- GET_TIMESTAMP (0300h). -/
def execGetTimestamp (p : CmdPath) (s : State) : Host.Outcome State Fault Refusal :=
  done s (s.command p (.getTimestamp p) .any false (fun s => s.reply p .success 0 (leBytes 8 s.timestamp)))

/-- SET_TIMESTAMP (0301h): recorded at the current stroke. -/
def execSetTimestamp (p : CmdPath) (ns : Nat) (s : State) : Host.Outcome State Fault Refusal :=
  done s (s.command p (.setTimestamp p ns) .admin false (fun s =>
    ({ s with mbox := { s.mbox with wall := some (ns % 2 ^ 64, s.stroke) } }).reply p .success))

/-! ### Logs -/

/-- UUID of the Command Effects Log of CXL. -/
def effectsLog : Nat := 0x0da9c0b5bf414b788f7996b1623b3f17

/-- Opcodes that the device supports (Tables 15-2 and 15-3). -/
def opcodes : List Nat :=
  [0x0001, 0x0005, 0x0100, 0x0101, 0x0102, 0x0103, 0x0200, 0x0201, 0x0202, 0x0300, 0x0301, 0x0400, 0x0401, 0x4000, 0x4100]
  ++ [0x4200, 0x4201, 0x4202, 0x4203, 0x4204, 0x4300, 0x4301, 0x4302, 0x4303, 0x4304, 0x4305, 0x4400, 0x4401]
  ++ [0x4800, 0x4801, 0x4802, 0x4803, 0xC000, 0xC001, 0xC002, 0xC003, 0xC004, 0xC005, 0xC006, 0xC007]
  ++ [0xC010, 0xC011, 0xC012, 0xC013, 0xC020, 0xC021, 0xC022, 0xC030, 0xC040]

/-- Opcodes that run as background operations. -/
def bgOpcodes : List Nat := [0x0201, 0x0202, 0x4304, 0x4400, 0x4401, 0xC004, 0xC005, 0xC006, 0xC007, 0xC030]

/-- An entry of the Command Effects Log: opcode, and the background bit of its effects. -/
def effectsEntry (o : Nat) : List Nat := leBytes 2 o ++ leBytes 2 (if bgOpcodes.contains o then 64 else 0)

/-- GET_SUPPORTED_LOGS (0400h): the Command Effects Log only. -/
def execGetSupportedLogs (p : CmdPath) (s : State) : Host.Outcome State Fault Refusal :=
  done s (s.command p (.getSupportedLogs p) .any false (fun s =>
    s.reply p .success 0 (leBytes 2 1 ++ uuidBytes effectsLog ++ leBytes 4 (4 * opcodes.length))))

/-- GET_LOG (0401h). -/
def execGetLog (p : CmdPath) (s : State) : Host.Outcome State Fault Refusal :=
  done s (s.command p (.getLog p) .any false (fun s => s.reply p .success 0 (opcodes.flatMap effectsEntry)))

/-! ### Memory device -/

/-- IDENTIFY_MEMORY_DEVICE (4000h): revision, capacities in 256 MiB units, log sizes, LSA size, poison list and inject limits. -/
def execIdentifyMemoryDevice (p : CmdPath) (s : State) : Host.Outcome State Fault Refusal :=
  done s (s.command p (.identifyMemoryDevice p) .any false (fun s =>
    let cap := leBytes 8 (s.rd Reg.TOP_CAPACITY_UNITS)
    let rev := if s.bit Reg.TOP_STATUS_RECOVERY then baseString else leBytes 16 s.img.version
    s.reply p .success 0 (rev ++ cap ++ leBytes 8 0 ++ cap ++ leBytes 8 0 ++ leBytes 2 256 ++ leBytes 2 256 ++ leBytes 2 256
      ++ leBytes 2 16 ++ leBytes 4 0 ++ leBytes 3 1048576 ++ leBytes 2 0)))

/-- GET_PARTITION_INFO (4100h): persistent only. -/
def execGetPartitionInfo (p : CmdPath) (s : State) : Host.Outcome State Fault Refusal :=
  done s (s.command p (.getPartitionInfo p) .any false (fun s =>
    let cap := leBytes 8 (s.rd Reg.TOP_CAPACITY_UNITS)
    s.reply p .success 0 (leBytes 8 0 ++ cap ++ leBytes 8 0 ++ cap)))

/-- UNSUPPORTED_COMMAND (R328): 4101h, 4102h, 4103h and every opcode not listed. -/
def execUnsupportedCommand (p : CmdPath) (opcode : Nat) (s : State) : Host.Outcome State Fault Refusal :=
  done s (s.command p (.unsupportedCommand p opcode) .any false (fun s => s.reply p .unsupported))

/-- Two's complement in two bytes. -/
def tempBytes (t : Int) : List Nat := leBytes 2 (t % 65536).toNat

/-- GET_HEALTH_INFO (4200h, Table 9-8). -/
def execGetHealthInfo (p : CmdPath) (s : State) : Host.Outcome State Fault Refusal :=
  done s (s.command p (.getHealthInfo p) .any false (fun s =>
    s.reply p .success 0 ([s.healthStatus, s.mediaStatus, 0, s.lifeUsed] ++ tempBytes s.err.temp
      ++ leBytes 4 (s.rd Reg.MERGE_DSC) ++ leBytes 4 (s.rd Reg.ERR_CORR_VOL_CNT) ++ leBytes 4 (s.rd Reg.ERR_CORR_PERS_CNT))))

/-- A threshold: enabled, and its value. -/
def thresholdBytes (v : Option Nat) : List Nat :=
  match v with
  | some n => 1 :: leBytes 2 n
  | none => [0, 0, 0]

/-- GET_ALERT_CONFIGURATION (4201h). -/
def execGetAlertConfiguration (p : CmdPath) (s : State) : Host.Outcome State Fault Refusal :=
  done s (s.command p (.getAlertConfiguration p) .any false (fun s =>
    let a := s.mbox.alerts
    let t (v : Option Int) : List Nat := thresholdBytes (v.map (fun x => (x % 65536).toNat))
    s.reply p .success 0 (thresholdBytes a.life ++ t a.overTemp ++ t a.underTemp ++ thresholdBytes a.corrVol
      ++ thresholdBytes a.corrPers)))

/-- SET_ALERT_CONFIGURATION (4202h, R212): life used is a percentage, temperatures and counts are 16 bits. -/
def alertsOk (a : AlertCfg) : Bool :=
  let nat (v : Option Nat) (m : Nat) : Bool := match v with
    | some n => decide (n ≤ m)
    | none => true
  let int (v : Option Int) : Bool := match v with
    | some n => decide (-32768 ≤ n) && decide (n ≤ 32767)
    | none => true
  nat a.life 100 && int a.overTemp && int a.underTemp && nat a.corrVol 65535 && nat a.corrPers 65535

/-- SET_ALERT_CONFIGURATION (4202h). -/
def execSetAlertConfiguration (p : CmdPath) (cfg : AlertCfg) (s : State) : Host.Outcome State Fault Refusal :=
  done s (s.command p (.setAlertConfiguration p cfg) .admin false (fun s =>
    if alertsOk cfg then ({ s with mbox := { s.mbox with alerts := cfg } }).reply p .success else s.reply p .invalidInput))

/-- GET_SHUTDOWN_STATE (4203h): dirty until a Set since the current start. -/
def execGetShutdownState (p : CmdPath) (s : State) : Host.Outcome State Fault Refusal :=
  done s (s.command p (.getShutdownState p) .any false (fun s => s.reply p .success 0 [s.mbox.shutdown]))

/-- SET_SHUTDOWN_STATE (4204h): never changes the shutdown marker of R165. -/
def execSetShutdownState (p : CmdPath) (state : Nat) (s : State) : Host.Outcome State Fault Refusal :=
  done s (s.command p (.setShutdownState p state) .admin false (fun s =>
    if state ≤ 1 then ({ s with mbox := { s.mbox with shutdown := state } }).reply p .success else s.reply p .invalidInput))

/-! ### Poison list and scan results (R202, R210) -/

/-- The part of a line range that a binding maps: first LD line, first device line and count. -/
def bindingView (b : Binding) (first lines : Nat) : List (Nat × Nat × Nat) :=
  let base := lineOf (b.ldBase * unit256M)
  (bindingPart b first lines).map (fun x => (x.1 - lineOf (b.devBase * unit256M) + base, x.1, x.2))

/-- A command's range as it is addressed and as the device holds it. -/
def State.cmdView (s : State) (p : CmdPath) (dpa lines : Nat) : Option (List (Nat × Nat × Nat)) :=
  match s.cmdRange p dpa lines with
  | none => none
  | some _ =>
    if s.onR59 p then some [(lineOf dpa, lineOf dpa, lines)]
    else match findKey s.sessions ⟨p.port, s.portKind p.port, p.ld⟩ with
      | none => none
      | some (_, binds) => some ((inLdOrder binds).flatMap (fun b => bindingView b (lineOf dpa) lines))

/-- Error source of a record as CXL codes it. -/
def PoisonSrc.code : PoisonSrc → Nat
  | .external => 1 | .internal => 2 | .injected => 3

/-- The part of a poison record inside one piece, as addressed: first line, count and source. -/
def poisonPart (r : PoisonRec) (v : Nat × Nat × Nat) : List (Nat × Nat × Nat) :=
  let lo := max r.first v.2.1
  let hi := min (r.first + r.count) (v.2.1 + v.2.2)
  if lo < hi then [(v.1 + (lo - v.2.1), hi - lo, r.src.code)] else []

/-- A media error record: address with its source, length in lines. -/
def mediaError (x : Nat × Nat × Nat) : List Nat := leBytes 8 (64 * x.1 + x.2.2) ++ leBytes 4 x.2.1 ++ leBytes 4 0

/-- GET_POISON_LIST (4300h, R202): flags (bit 1: overflow), time of the first lost record, count, records. -/
def execGetPoisonList (p : CmdPath) (dpa lines : Nat) (s : State) : Host.Outcome State Fault Refusal :=
  done s (s.command p (.getPoisonList p dpa lines) .any true (fun s =>
    match s.cmdView p dpa lines with
    | none => s.reply p .invalidPhysicalAddress
    | some vs =>
      let l := vs.flatMap (fun v => s.err.poison.flatMap (fun r => poisonPart r v))
      let full := s.bit Reg.ERR_POISON_LIST_OVERFLOW
      s.reply p .success 0 ([if full then 2 else 0, 0] ++ leBytes 8 (if full then s.err.poisonLost else 0)
        ++ leBytes 2 l.length ++ l.flatMap mediaError)))

/-- GET_SCAN_MEDIA_RESULTS (4305h, R210): the lines that the last Scan Media found uncorrectable, as the path addresses
them. -/
def execGetScanMediaResults (p : CmdPath) (s : State) : Host.Outcome State Fault Refusal :=
  done s (s.command p (.getScanMediaResults p) .any true (fun s =>
    let all : List (Nat × Nat × Nat) := if s.onR59 p then [(0, 0, s.capLines)]
      else match findKey s.sessions ⟨p.port, s.portKind p.port, p.ld⟩ with
        | none => []
        | some (_, binds) => (inLdOrder binds).flatMap (fun b => bindingView b (lineOf (b.ldBase * unit256M)) (lineOf (b.size * unit256M)))
    let l := all.flatMap (fun v => s.err.scanResults.flatMap (fun line => poisonPart ⟨line, 1, .internal⟩ v))
    s.reply p .success 0 (leBytes 2 l.length ++ l.flatMap mediaError)))

/-! ### Vendor reads (Table 15-3) -/

/-- KEK_READ (C001h): the device KEK's public key. -/
def execKekRead (p : CmdPath) (s : State) : Host.Outcome State Fault Refusal :=
  done s (s.command p (.kekRead p) .any false (fun s => s.reply p .success 0 (leBytes 96 Config.kek.toNat)))

/-- KEEP_READ (C002h): the shadow of a page, 0 to 111. (DESIGN CHOICE, log entry 114). -/
def execKeepRead (p : CmdPath) (page : Nat) (s : State) : Host.Outcome State Fault Refusal :=
  done s (s.command p (.keepRead p page) .admin false (fun s =>
    if 111 < page then s.reply p .invalidInput
    else (s.emit (.keepPage p page (s.keep.shadow.find page))).reply p .success))

/-- REPEAT of a record as programmed (Table 13-7); erased while its run is open or when nothing was folded. -/
def repeatField (n : Option Nat) : Nat :=
  match n with
  | none => 0xFFFF
  | some c =>
    let c := c % 4096
    c + 4096 * Nat.xor (Nat.xor (Nat.xor (c % 16) (c / 16 % 16)) (c / 256)) 0xA

/-- The 32 B of a record (Table 13-7). -/
def chronBytes (r : ChronRec) : List Nat :=
  let head := leBytes 2 r.code ++ [r.source, r.severity]
  let tail := leBytes 4 r.optime ++ leBytes 4 r.pcycle ++ leBytes 6 r.stroke ++ (r.payload ++ List.replicate 8 0).take 8
  head ++ leBytes 2 (repeatField r.rep) ++ tail ++ leBytes 2 (crc16 (head ++ tail)) ++ [0xFF, 0x5A]

/-- Put a ring sector into the order of its sequence. -/
def sectorInsert : List RingSector → RingSector → List RingSector
  | [], x => [x]
  | y :: r, x => if x.seq.getD 0 < y.seq.getD 0 then x :: y :: r else y :: sectorInsert r x

/-- Slots of a part, in the order of R297: 0 permanent, else the newest 16,384 circulating slots. -/
def Chron.part (c : Chron) (part : Nat) : List ChronSlot :=
  if part = 0 then c.perm
  else
    let ring := ((c.ring.map (fun (e : Nat × RingSector) => e.2)).filter (fun x => x.seq.isSome)).foldl sectorInsert []
    let l := ring.flatMap (fun x => x.slots)
    l.drop (l.length - 16384)

/-- Records of a list of slots. -/
def written (l : List ChronSlot) : List ChronRec :=
  l.filterMap (fun x => match x with
    | .written r => some r
    | .torn => none)

/-- Pass over the first `n` records. -/
def skipRecords : List ChronSlot → Nat → List ChronSlot
  | l, 0 => l
  | [], _ => []
  | .written _ :: r, n + 1 => skipRecords r n
  | .torn :: r, n + 1 => skipRecords r (n + 1)

/-- The next `n` records, and the torn slots passed over before the last of them. -/
def readRecords : List ChronSlot → Nat → List ChronRec × Nat
  | _, 0 => ([], 0)
  | [], _ => ([], 0)
  | .written x :: r, n + 1 => let a := readRecords r n
    (x :: a.1, a.2)
  | .torn :: r, n + 1 => let a := readRecords r (n + 1)
    (a.1, a.2 + 1)

/-- CHRONICLE_READ (C003h, R297): count 1 to 255 of the permanent or circulating part. -/
def execChronicleRead (p : CmdPath) (part index count : Nat) (s : State) : Host.Outcome State Fault Refusal :=
  done s (s.command p (.chronicleRead p part index count) .admin false (fun s =>
    if 1 < part || count = 0 || 255 < count then s.reply p .invalidInput
    else
      let l := s.chron.part part
      let a := readRecords (skipRecords l index) count
      let s := s.bump Reg.CHRON_TORN_CNT a.2
      s.reply p .success 0 (leBytes 4 a.1.length ++ leBytes 4 a.2 ++ leBytes 4 (written l).length ++ leBytes 4 0
        ++ a.1.flatMap chronBytes)))

end Sys2Proof.Machine
end

