-- ==== Sys2Proof/Machine/DcFamily.lean ====
section
/-! DEFINITION. Dynamic capacity (R51, Table 15-2): the host's commands 4800h to 4803h on LD DPA, and the FM API commands on
device DPA, both in blocks of 256 MiB. -/

namespace Sys2Proof.Machine

/-- The session of a command's LD, with its bindings. -/
def State.cmdSession (s : State) (p : CmdPath) : Option (Nat × List Binding) :=
  if s.onR59 p then none else findKey s.sessions ⟨p.port, s.portKind p.port, p.ld⟩

/-- Device blocks of a run of LD blocks, as the bindings map it; `none`: some block lies outside them. -/
def devBlocks (binds : List Binding) (e : Extent) : Option (List Nat) :=
  let part (u : Nat) : List Nat := binds.flatMap (fun b =>
    if b.valid && decide (b.ldBase ≤ u) && decide (u < b.ldBase + b.size) then [b.devBase + (u - b.ldBase)] else [])
  let l := (List.range e.len).flatMap (fun i => (part (e.base + i)).take 1)
  if l.length = e.len then some l else none

/-- Join blocks into extents. -/
def joinBlocks : List Nat → List Extent
  | [] => []
  | u :: r => match joinBlocks r with
    | e :: q => if e.base = u + 1 then ⟨u, e.len + 1⟩ :: q else ⟨u, 1⟩ :: e :: q
    | [] => [⟨u, 1⟩]

/-- Blocks of a list of extents. -/
def blocksOf (l : List Extent) : List Nat := l.flatMap (fun (e : Extent) => (List.range e.len).map (fun i => e.base + i))

/-- Device extents that a host's extents name. -/
def devExtents (binds : List Binding) (l : List Extent) : Option (List Extent) :=
  match l with
  | [] => some []
  | e :: r => match devBlocks binds e, devExtents binds r with
    | some a, some b => some (joinBlocks a ++ b)
    | _, _ => none

/-- LD blocks of a device extent, as the first binding that covers it maps it back. -/
def ldExtent (binds : List Binding) (e : Extent) : List Extent :=
  match binds.find? (fun b => b.valid && decide (b.devBase ≤ e.base) && decide (e.base + e.len ≤ b.devBase + b.size)) with
  | some b => [⟨b.ldBase + (e.base - b.devBase), e.len⟩]
  | none => []

/-- Take blocks out of a list of extents. -/
def dropBlocks (l : List Extent) (gone : List Nat) : List Extent := joinBlocks ((blocksOf l).filter (fun u => !gone.contains u))

def extentBytes (e : Extent) : List Nat := leBytes 8 (e.base * unit256M) ++ leBytes 8 (e.len * unit256M)

/-- A region as read out: number, base, length, block size, sanitize-on-release. -/
def regionBytes (x : Nat × DcRegion) : List Nat :=
  x.1 :: leBytes 8 (x.2.base * unit256M) ++ leBytes 8 (x.2.len * unit256M) ++ leBytes 8 unit256M ++ [if x.2.sanitize then 1 else 0]

/-- GET_DYNAMIC_CAPACITY_CONFIGURATION (4800h). -/
def execGetDynamicCapacityConfiguration (p : CmdPath) (s : State) : Host.Outcome State Fault Refusal :=
  done s (s.command p (.getDynamicCapacityConfiguration p) .any true (fun s =>
    s.reply p .success 0 (s.dc.length :: s.dc.flatMap regionBytes)))

/-- GET_DYNAMIC_CAPACITY_EXTENT_LIST (4801h): the extents added for the LD's session, in LD DPA. -/
def execGetDynamicCapacityExtentList (p : CmdPath) (s : State) : Host.Outcome State Fault Refusal :=
  done s (s.command p (.getDynamicCapacityExtentList p) .any true (fun s =>
    match s.cmdSession p with
    | none => s.reply p .success 0 (leBytes 4 0)
    | some (n, binds) =>
      let l := (s.sess n).extents.flatMap (ldExtent binds)
      s.reply p .success 0 (leBytes 4 l.length ++ l.flatMap extentBytes)))

/-- ADD_DYNAMIC_CAPACITY_RESPONSE (4802h): the offered extents that the host accepts are added; the rest are withdrawn. -/
def execAddDynamicCapacityResponse (p : CmdPath) (accepted : List Extent) (s : State) : Host.Outcome State Fault Refusal :=
  done s (s.command p (.addDynamicCapacityResponse p accepted) .any true (fun s =>
    match s.cmdSession p with
    | none => s.reply p .invalidPhysicalAddress
    | some (n, binds) =>
      match devExtents binds accepted with
      | none => s.reply p .invalidPhysicalAddress
      | some l =>
        let e := s.sess n
        if (blocksOf l).all (fun u => inExtents e.offered u) then
          (s.setSess n { e with extents := e.extents ++ l, offered := [] }).reply p .success
        else s.reply p .invalidPhysicalAddress))

/-- Lines of a block. -/
def blockLines : Nat := unit256M / 64

/-- Back-invalidate, for one session, every directory line inside some blocks. -/
def State.releaseSnoops (s : State) (n : Nat) (us : List Nat) : State :=
  let l := s.cache.host.filter (fun e => us.contains (e.1 / blockLines) && (e.2.ptrs.contains n || e.2.overflow))
  l.foldl (fun s e => if s.snooping e.1 then s else s.startSnoop e.1 0 (.release n) [n] false) s

/-- A release begins: the blocks are back-invalidated for the session, which reaches them until the stroke boundary after the
release completes (R51). -/
def State.startRelease (s : State) (n : Nat) (us : List Nat) : State :=
  let e := s.sess n
  let s := s.setSess n { e with extents := dropBlocks e.extents us, releasing := e.releasing ++ joinBlocks us }
  s.releaseSnoops n us

/-- RELEASE_DYNAMIC_CAPACITY (4803h): by the host. -/
def execReleaseDynamicCapacity (p : CmdPath) (extents : List Extent) (s : State) : Host.Outcome State Fault Refusal :=
  done s (s.command p (.releaseDynamicCapacity p extents) .any true (fun s =>
    match s.cmdSession p with
    | none => s.reply p .invalidPhysicalAddress
    | some (n, binds) =>
      match devExtents binds extents with
      | none => s.reply p .invalidPhysicalAddress
      | some l =>
        let us := blocksOf l
        if us.all (fun u => inExtents (s.sess n).extents u) then (s.startRelease n us).reply p .success
        else s.reply p .invalidPhysicalAddress))

/-- A block is in an extent of some session: added, offered or being released. -/
def State.blockHeld (s : State) (u : Nat) : Bool :=
  s.sessions.any (fun e => inExtents e.2.extents u || inExtents e.2.offered u || inExtents e.2.releasing u)

/-- Regions 0 to 7: inside the exported capacity, not overlapping another. -/
def State.regionFits (s : State) (region base length : Nat) : Bool :=
  decide (region < 8) && decide (base + length ≤ s.rd Reg.TOP_CAPACITY_UNITS)
    && !s.dc.any (fun e => e.1 != region && overlaps base length e.2.base e.2.len)

/-- The region holds an extent. -/
def State.regionUsed (s : State) (r : DcRegion) : Bool :=
  s.sessions.any (fun e => (e.2.extents ++ e.2.offered ++ e.2.releasing).any (fun x => overlaps x.base x.len r.base r.len))

/-- SET_DC_REGION_CONFIGURATION (R51): a change while the region holds an extent returns Invalid Input. -/
def execSetDcRegionConfiguration (p : CmdPath) (region base length : Nat) (sanitize : Bool) (s : State) :
    Host.Outcome State Fault Refusal :=
  done s (s.command p (.setDcRegionConfiguration p region base length sanitize) .mgmt true (fun s =>
    let new : DcRegion := ⟨base, length, sanitize⟩
    if s.dc.find region == some new then s.reply p .success
    else if !s.regionFits region base length || (s.dc.find region).any s.regionUsed then s.reply p .invalidInput
    else
      let dc := if length = 0 then s.dc.del region else s.dc.put region new
      ({ s with dc := dc }).reply p .success))

/-- GET_DC_REGION_CONFIGURATION (R51). -/
def execGetDcRegionConfiguration (p : CmdPath) (s : State) : Host.Outcome State Fault Refusal :=
  done s (s.command p (.getDcRegionConfiguration p) .mgmt true (fun s =>
    s.reply p .success 0 (s.dc.length :: s.dc.flatMap regionBytes)))

/-- A valid binding of a session covers a block. -/
def bindingOf (e : Session) (u : Nat) : Option Binding :=
  e.binds.find? (fun b => b.valid && decide (b.devBase ≤ u) && decide (u < b.devBase + b.size))

/-- Two sessions may share a block: both reach it through HDM-DB bindings of one coherence domain. -/
def mayShare (a b : Session) (u : Nat) : Bool :=
  a.coh == b.coh && (match bindingOf a u, bindingOf b u with
    | some x, some y => x.db && y.db
    | _, _ => false)

/-- A block is being released with its pages (R136), so that it cannot be added yet. -/
def State.pagesLeaving (s : State) (u : Nat) : Bool :=
  s.internals.any (fun i => i.kind == .releaseRange && i.path.isNone && overlaps (u * blockLines) blockLines i.first i.count)

/-- A block can be added to a session (R51). -/
def State.mayAdd (s : State) (n u : Nat) : Bool :=
  let e := s.sess n
  (bindingOf e u).isSome && !inExtents (e.extents ++ e.offered ++ e.releasing) u && !s.pagesLeaving u
    && s.sessions.all (fun x => x.1 == n || !inExtents (x.2.extents ++ x.2.offered ++ x.2.releasing) u || mayShare e x.2 u)

/-- Extents of a session at most (Table 15-2). -/
def maxExtents : Nat := 256

/-- The extents of an add: whole blocks within the region, at most 256 in all, each able to be added. -/
def State.addOk (s : State) (n : Nat) (r : DcRegion) (l : List Extent) : Bool :=
  let e := s.sess n
  e.state == .active && l != [] && decide (e.extents.length + e.offered.length + l.length ≤ maxExtents)
    && l.all (fun x => x.len != 0 && decide (r.base ≤ x.base) && decide (x.base + x.len ≤ r.base + r.len))
    && (blocksOf l).all (s.mayAdd n) && decide ((blocksOf l).eraseDups.length = (blocksOf l).length)

/-- INITIATE_DYNAMIC_CAPACITY_ADD (R51): the extents are offered to the host. (DESIGN CHOICE, log entry 30). -/
def execInitiateDynamicCapacityAdd (p : CmdPath) (sess region : Nat) (extents : List Extent) (s : State) :
    Host.Outcome State Fault Refusal :=
  done s (s.command p (.initiateDynamicCapacityAdd p sess region extents) .mgmt true (fun s =>
    match s.dc.find region with
    | none => s.reply p .invalidInput
    | some r =>
      if !s.addOk sess r extents then s.reply p .invalidInput
      else
        let e := s.sess sess
        let s := s.setSess sess { e with offered := e.offered ++ extents }
        (s.event .info (.dynamicCap 0 sess extents) 0x50).reply p .success))

/-- INITIATE_DYNAMIC_CAPACITY_RELEASE (R51): the blocks are released, and the host is told. -/
def execInitiateDynamicCapacityRelease (p : CmdPath) (sess : Nat) (extents : List Extent) (s : State) :
    Host.Outcome State Fault Refusal :=
  done s (s.command p (.initiateDynamicCapacityRelease p sess extents) .mgmt true (fun s =>
    let us := blocksOf extents
    if us = [] || !us.all (fun u => inExtents (s.sess sess).extents u) then s.reply p .invalidInput
    else ((s.startRelease sess us).event .info (.dynamicCap 1 sess extents) 0x50).reply p .success))

end Sys2Proof.Machine
end

