-- ==== Sys2Proof/Machine/QueueFamily.lean ====
section
/-! DEFINITION. Events between the ingress queues and the sources of a read: ALLOWANCE_CHECK, SPILL_REFILL,
MERGE_BUFFER_LOOKUP_RETURN, READ_CACHE_PROBE_RETURN, SLICE_FILL_INSTALL, MERGE_COMPLETE, FILL_RETURN, SESS_CNT_CLR and
SESS_Q_CNT_CLR (chapters Host Ports and Sessions, Ingress Queues and Flow Control, Write Merging, Caches). -/

namespace Sys2Proof.Machine

/-! ### The allowance check (R55, R57, R69) -/

/-- Requests pass the allowance check: Ready, and not in capo (R20, R272, Table 7-6). -/
def State.serving (s : State) : Bool := s.ready && !s.bit Reg.MERGE_STATUS_CAPO

/-- Lines a request is charged (Table 3-2). -/
def MemOp.charge : MemOp → Nat
  | .memClnEvct | .biConflict => 0
  | _ => 1

/-- An entry was queued under the session's key in force. -/
def Session.ofKey (e : Session) (d : Desc) : Bool := d.port == e.key.port && d.ld == e.key.id

/-- Does the session's state let this entry pass (Table 3-7, R52): a Pending session's new requests wait.
(DEDUCED, log entry 28). -/
def Session.lets (e : Session) (d : Desc) : Bool :=
  match e.state with
  | .active => true
  | .fencing => true
  | .pending => d.fenced || (!e.withdrawn && e.ofKey d)
  | .free => false

/-- The entry passes without charge: of a withdrawn session, or of a link that went down (Table 3-7, R48). -/
def Session.uncharged (e : Session) (d : Desc) : Bool := e.withdrawn || d.orphaned

/-- Take the head entry off its lane (R66). -/
def State.popHead (s : State) (n : Nat) (l : Lane) : State :=
  let e := s.sess n
  let q := e.lane l
  s.setSess n (e.setLane l ({ q with head := q.head.drop 1 } : LaneQ).settle)

/-- Put the head entry back as changed. -/
def State.setHead (s : State) (n : Nat) (l : Lane) (d : Desc) : State :=
  let e := s.sess n
  let q := e.lane l
  s.setSess n (e.setLane l { q with head := d :: q.head.drop 1 })

/-- Charge a request (R55). -/
def State.charge (s : State) (n : Nat) (l : Lane) (c : Nat) : State :=
  let e := s.sess n
  match l with
  | .read => s.setSess n { e with rdUsed := e.rdUsed + c }
  | .write => s.setSess n { e with wrUsed := e.wrUsed + c }

/-- Allowance is left for a charge. -/
def Session.allows (e : Session) (l : Lane) : Bool :=
  match l with
  | .read => decide (e.rdUsed < e.readAllow)
  | .write => decide (e.wrUsed < e.writeAllow)

/-- A request waits for allowance: ALLOW_STALL counts the stroke (R55). -/
def State.stall (s : State) (n : Nat) : State :=
  let e := s.sess n
  if e.stalled then s else s.setSess n { e with stalled := true, allowStall := min (e.allowStall + 1) 0xFFFF }

/-- The request of a descriptor. -/
def reqOf (d : Desc) : Req := { writeReq d with stage := .lookup, entered := d.entered, born := d.entered }

/-- Record of a poisoned descriptor, once per session per sync epoch (R69, KIND 5). -/
def State.parityRecord (s : State) (n : Nat) (d : Desc) : State :=
  if s.events.paritySeen.contains n then s
  else
    let s := { s with events := { s.events with paritySeen := s.events.paritySeen ++ [n] } }
    let op := if d.bad.getLsbD 0 then 0xF else d.op.code
    let k := (s.sess n).key
    s.event .warn (.internal k.port 0 5 0 0 1 s.stroke (keyField k.port k.kind k.id d.link + 2 ^ 16 * n + 2 ^ 28 * op))
      (0x40 + k.port)

/-- The answer of a poisoned descriptor (Table 4-2). -/
def poisonAnswer (d : Desc) (dl : Nat) : Out :=
  match d.op with
  | .memRd | .memRdData => .drs d.port d.link d.ld d.tag 0 true .i dl
  | .biConflict => .ndr d.port d.link d.ld d.tag .biConflictAck dl
  | _ => .ndr d.port d.link d.ld d.tag .cmp dl

/-- A poisoned descriptor at the head (Table 4-2). -/
def State.poisoned (s : State) (n : Nat) (l : Lane) (d : Desc) : State :=
  let s := if d.told then s else (s.bump Reg.SESS_Q_PARITY_CNT).parityRecord n d
  if d.bad.getLsbD 0 && d.bad.getLsbD 3 then (s.popHead n l).bump Reg.SESS_Q_LOST_CNT
  else if !s.mayTrack n d.port d.link then (s.setHead n l { d with told := true }).noteWait n l
  else
    let s := if l == .write && !d.bad.getLsbD 2 then s.freeCell d.cell else s
    let (s, rid) := (s.popHead n l).takeTracker { reqOf d with discard := d.orphaned }
    (s.respond d.port d.link d.orphaned (poisonAnswer d (s.devLoad n))).finish rid

/-- A read-lane entry passes (R55). -/
def State.passRead (s : State) (n : Nat) (d : Desc) (classF : Bool) : State :=
  let r : Req := { reqOf d with born := s.boundFrom n d }
  let (s, rid) := (((s.tele d.port 0x02 d.link).popHead n .read).charge n .read d.op.charge).takeTracker r
  match s.reqs.find rid with
  | some r => if d.db then s.tryResolve rid r classF else s.proceed rid r classF
  | none => s

/-- A write that is answered with Cmp and discarded (Table 1-5). -/
def State.discardWrite (s : State) (n : Nat) (d : Desc) (c : Nat) : State :=
  let (s, rid) := (((s.tele d.port 0x03 d.link).popHead n .write).charge n .write c).takeTracker (reqOf d)
  ((s.freeCell d.cell).respond d.port d.link d.orphaned
    (.ndr d.port d.link d.ld d.tag .cmp (s.devLoad n))).finish rid

/-- A BIConflict passes: answered once nothing placed before the snoop is outstanding (R189). -/
def State.passConflict (s : State) (n : Nat) (d : Desc) : State :=
  let (s, rid) := (s.popHead n .write).takeTracker { reqOf d with stage := .ordered }
  (s.setReq rid { reqOf d with stage := .ordered }).flushConflicts n d.line

/-- Entry of the host directory after a write of Y merges: by the write's MetaValue (Table 8-5); I while a
device-internal write runs over the line (R190). -/
def State.writeMeta (s : State) (n line : Nat) (m : MetaValue) : State :=
  let m := if (s.internalOn line).isSome then .i else m
  match m with
  | .s => s.setHost line { owner := false, ptrs := [n] }
  | .a => s.setHost line { owner := true, ptrs := [n] }
  | _ => s.dropHost line

/-- What the host directory lets a write do (R188): go, wait for snoops, or make them. (DEDUCED, log entry 34). -/
def State.writeHolders (s : State) (n : Nat) (d : Desc) : Option (List Nat × Bool) :=
  match s.cache.host.find d.line with
  | none => none
  | some h =>
    let l := s.snoopTargets d.line h (some n)
    if l = [] then none else some (l, h.overflow)

/-- A write-lane entry that names a write and is good. `hbm`: errors met in its landing cell; `classF`: the class F check
of the settling copy it meets fails. (DEDUCED, log entry 37). -/
def State.tryWrite (s : State) (n : Nat) (d : Desc) (hbm : HbmErr) (classF : Bool) (c : Nat) : State :=
  if s.erasing d.line then s.discardWrite n d c
  else if s.unverified d.line then
    (s.bump Reg.RANGE_INTEG_FAIL_CNT 1 (s.rangeOf d.line)).discardWrite n d c
  else if d.db && (s.snooping d.line || s.cache.evicting.contains d.line) then s
  else match (if d.db && (s.internalOn d.line).isNone then s.writeHolders n d else none) with
    | some (l, bc) => s.startSnoop d.line 0 (.write n) l bc
    | none =>
      let (t, data, bad) := s.readCell d.cell hbm
      let w : WriteIn := { line := d.line, data := data, be := d.be, poison := d.poison, cellBad := bad, fBad := classF }
      match s.mergeRoom w true with
      | .wait => s
      | .setFull => if d.waited then s else (s.setHead n .write { d with waited := true }).bump Reg.MERGE_SET_FULL_CNT
      | .go set drop =>
        let fresh := d.db && (d.mval == .s || d.mval == .a) && (t.cache.host.find d.line).isNone
          && (t.internalOn d.line).isNone
        match (if fresh then t.hostRoom d.line else some t) with
        | none => s
        | some t =>
          let t := ((t.tele d.port 0x03 d.link).popHead n .write).charge n .write c
          let t := t.passWrite d w set drop
          if d.db then t.writeMeta n d.line d.mval else t

/-- ALLOWANCE_CHECK (R55): the oldest entry of a lane is offered. `parity`: words of it whose parity fails now (R68).
(DEDUCED, log entry 11). -/
def execAllowanceCheck (sess : Nat) (lane : Lane) (parity : BitVec 4) (hbm : HbmErr) (classF : Bool) (s : State) :
    Host.Outcome State Fault Refusal :=
  done s (
    let e := s.sess sess
    match (e.lane lane).head with
    | [] => s
    | d :: _ =>
      if !s.serving || !e.lets d then s
      else if d.bad ||| parity ≠ 0 then s.poisoned sess lane { d with bad := d.bad ||| parity }
      else if !s.mayTrack sess d.port d.link then s.noteWait sess lane
      else
        let free := e.uncharged d || d.op.charge == 0
        if !free && !e.allows lane then (s.stall sess).noteWait sess lane
        else match d.op with
          | .biConflict => s.passConflict sess d
          | .memWr | .memWrPtl => s.tryWrite sess d hbm classF (if e.uncharged d then 0 else 1)
          | _ => s.passRead sess d classF)

/-! ### Spill refill (R66, R68) -/

/-- Descriptors of a spill line, with the line's HBM error: mended, or all words counted as failing. -/
def State.spillLine (s : State) (sess : Nat) (l : List Desc) (hbm : HbmErr) : State × List Desc :=
  let p := (s.sess sess).key.port
  match classM hbm with
  | .clean _ => (s, l)
  | .mended _ => (s.correctedVol (regionSpill p) 0, l)
  | .detected => (s.detected (regionSpill p) 0, l.map (fun d => { d with bad := 0xF }))

/-- SPILL_REFILL (R66): one line, two descriptors, moves from the spill area, else from the overdraft, to an empty head. -/
def execSpillRefill (sess : Nat) (lane : Lane) (hbm : HbmErr) (s : State) : Host.Outcome State Fault Refusal :=
  done s (
    let q := (s.sess sess).lane lane
    if q.head ≠ [] then s
    else if q.spill ≠ [] then
      let (s, l) := s.spillLine sess (q.spill.take 2) hbm
      let (q, freed) := q.unspill l.length
      let q := ({ q with head := l, spill := q.spill.drop 2 } : LaneQ).settle
      (s.setSess sess ((s.sess sess).setLane lane q)).freeShared freed
    else if q.tail = [] && q.excess ≠ [] then
      let (s, l) := s.spillLine sess (q.excess.take 2) hbm
      s.setSess sess ((s.sess sess).setLane lane { q with head := l, excess := q.excess.drop 2 })
    else s)

/-! ### Lookups of a read -/

/-- Index of an entry within the merge buffer for a record (Table 9-10): its set's first record.
(DEDUCED, log entry 35). -/
def Entry.index (e : Entry) : Nat := 16 * e.set

/-- A class M check of an entry line at a read (R199): mended, or the entry is poisoned and Dirty-data-lost is logged. -/
def State.entryCheck (s : State) (line : Nat) (e : Entry) (hbm : HbmErr) : State × Entry :=
  match classM hbm with
  | .clean left => (s, { e with data := e.data ^^^ left })
  | .mended left => (s.correctedVol regionEntry e.index, { e with data := e.data ^^^ left })
  | .detected =>
    let e := { e with poison := true }
    ((((s.putEntry line e).detected regionEntry e.index).dirtyLost line).poisonAdd line .internal, e)

/-- A settling copy answers, or its class F check fails (R155). -/
def State.settleRead (s : State) (rid : Nat) (r : Req) (e : Entry) (bad : Bool) : State :=
  if !bad && !e.mismatch then s.fromEntry rid r.line e
  else
    let s := if bad then (s.correctedVol regionSettling e.index).bump Reg.MERGE_SETTLE_REFETCH_CNT else s
    if s.releasable e then
      ((s.dropEntry r.line).mergeCounts.setReq rid { r with looked := true }).takeResult rid
    else
      (s.putEntry r.line { e with mismatch := true }).setReq rid
        { r with stage := .settle, refetch := true, unbounded := true, result := none }

/-- MERGE_BUFFER_LOOKUP_RETURN (R30, R179). -/
def execMergeBufferLookupReturn (rid t : Nat) (hbm : HbmErr) (s : State) : Host.Outcome State Fault Refusal :=
  done s (
    match s.reqs.find rid with
    | none => s
    | some r =>
      if r.stage != .lookup || r.looked then s
      else match s.entry r.line with
        | none => ((s.leaveAt t).setReq rid { r with looked := true }).takeResult rid
        | some e =>
          let s := s.leaveAt t
          if e.state = .settling then (s.tele 14 0x05 0).settleRead rid r e (classFBad hbm)
          else
            let (s, e) := (s.tele 14 0x04 0).entryCheck r.line e hbm
            if e.full || e.poison || e.fillBad then s.fromEntry rid r.line e
            else
              let s := s.setReq rid { r with looked := true, partialHit := true }
              match r.result with
              | some (d, bad, false) => (s.setReq rid { r with looked := true, partialHit := true, result := none }).deliverHost rid d bad
              | _ => s.setReq rid { r with looked := true, partialHit := true, result := none })

/-- A probe hits: the read's slot is released if its command is not yet issued (R16). -/
def State.probeHit (s : State) (rid : Nat) (r : Req) (d : LineData) : State :=
  match r.result with
  | some _ => s
  | none =>
    if r.partialHit || r.refetch then s
    else
      let jobs := s.sched.jobs.keep (fun _ (j : Job) =>
        !(j.why == JobWhy.host rid && (j.phase == JobPhase.wait || (j.phase == JobPhase.placed && decide (s.stroke < j.stroke)))))
      let s := { s with sched := { s.sched with jobs := jobs } }
      (s.setReq rid { r with result := some (d, false, true) }).takeResult rid

/-- READ_CACHE_PROBE_RETURN (R15, R16, R175). -/
def execReadCacheProbeReturn (rid : Nat) (hbm : HbmErr) (s : State) : Host.Outcome State Fault Refusal :=
  done s (
    match s.reqs.find rid with
    | none => s
    | some r =>
      if !r.probing then s
      else
        let r := { r with probing := false }
        let s := s.setReq rid r
        match s.cache.rc.find (rcIndex r.line) with
        | none => s
        | some (tag, epoch, d) =>
          if classFBad hbm then s.correctedVol regionReadCache (rcIndex r.line)
          else if tag ≠ rcTag r.line then s
          else if !laterEpoch epoch (s.tract (tractOf r.line)).lw then s.bump Reg.CACHE_RC_STALE_CNT
          else s.probeHit rid r d)

/-! ### Slice fills (R169, R170, R173) -/

/-- A write-through of a line from a slice has not merged. -/
def State.wtInFlight (s : State) (slice line : Nat) : Bool :=
  match s.cache.busy.find line with
  | some b => b.wtPend.contains slice
  | none => false

/-- A victim has left the line's set of the slice, and its write-through has not merged (R170). -/
def State.setHeld (s : State) (slice line : Nat) : Bool :=
  s.cache.victims.any (fun v => v.1 == slice && sliceSet v.2 == sliceSet line)

/-- The line that leaves when a fill takes a way. -/
def State.victimAt (s : State) (slice line way : Nat) : Option Nat :=
  (s.cache.lines.find? (fun e => e.1 % 4 == slice && sliceSet (e.1 / 4) == sliceSet line && e.2.way == way
    && e.1 / 4 != line)).map (fun e => e.1 / 4)

/-- Way for a line in its set: its own, else an enabled empty one, else the victim of the tree; `none`: no way is on. -/
def State.wayFor (s : State) (slice line : Nat) : Option Nat :=
  let on (w : Nat) := s.wayOn slice w
  let used := (s.cache.lines.filter (fun e => e.1 % 4 == slice && sliceSet (e.1 / 4) == sliceSet line)).map (·.2.way)
  match s.sliceLine line slice with
  | some e => if on e.way then some e.way else none
  | none =>
    match (List.range 16).find? (fun w => on w && !used.contains w) with
    | some w => some w
    | none => if (List.range 16).any on then some (plruVictim (s.cache.plru.get 0 (plruKey slice line)) on) else none

/-- Slices that hold a line. -/
def State.present (s : State) (line : Nat) : Nat := (s.cache.lines.filter (fun e => e.1 / 4 == line)).length

/-- Make room for a line in its set of the slice directory, and give it a way: a free one, else that of the entry with
the fewest present slices, ties by the tree. Copies of a line with a write in progress go once it has merged (R173).
(DESIGN CHOICE, log entry 33). -/
def State.dirRoom (s : State) (line : Nat) : State :=
  if s.dirLines.contains line then s.touchDir line
  else
    let set := s.dirLines.filter (fun l => dirSet l == dirSet line)
    let way (l : Nat) : Nat := s.cache.dirWay.get 0 l
    let fewest := (set.map s.present).foldl min 4
    let old := plruVictim (s.cache.dirPlru.get 0 (dirSet line)) (fun w => set.any (fun l => way l == w && s.present l == fewest))
    let (s, w) := match (List.range 8).find? (fun w => !set.any (fun l => way l == w)) with
      | some w => (s, w)
      | none =>
        let s := match set.find? (fun l => way l == old) with
          | none => s
          | some v =>
            let s := s.bump Reg.DIR_SLICE_EVICT_CNT
            if s.lineBusy v then { s with cache := { s.cache with purges := s.cache.purges ++ [v] } } else s.dropAll v
        (s, old)
    let kept := s.cache.dirWay.keep (fun l _ => s.dirLines.contains l)
    ({ s with cache := { s.cache with dirWay := kept.put line w } }).touchDir line

/-- State the slice takes (Table 8-2): S beside an F or E holder, F beside S holders, else E. -/
def State.fillState (s : State) (slice line : Nat) : SliceLine :=
  if (s.forwarder line slice).isSome then .s
  else if ([0, 1, 2, 3].filter (· != slice)).any (fun k => (s.sliceLine line k).isSome) then .f else .e

/-- Install a fill. -/
def State.install (s : State) (x : SliceFill) (way : Nat) : State :=
  let s := s.dirRoom x.line
  let st := s.fillState x.slice x.line
  let s := match s.forwarder x.line x.slice with
    | some (k, e) => s.putSlice x.line k { e with st := .f }
    | none => s
  let victims := s.cache.lines.keep (fun k e =>
    !(k % 4 == x.slice && sliceSet (k / 4) == sliceSet x.line && e.way == way))
  let s := { s with cache := { s.cache with lines := victims } }
  (s.putSlice x.line x.slice ⟨st, x.data, way⟩).touchWay x.slice x.line way

/-- A fill waits for a victim's write-through; the wait is counted once (R170). -/
def State.holdFill (s : State) (x : SliceFill) : State :=
  if x.waited then s
  else
    let s := s.bump Reg.CACHE_WT_WAIT_CNT 1 x.slice
    { s with cache := { s.cache with fills := (s.cache.fills.erase x) ++ [{ x with waited := true }] } }

/-- A victim leaves its slice at once; its write-through goes on (R170). -/
def State.leaveSet (s : State) (slice line : Nat) : State :=
  let s := s.dropSlice line slice
  { s with cache := { s.cache with victims := s.cache.victims ++ [(slice, line)] } }

/-- SLICE_FILL_INSTALL (R169, R170): installed, dropped, or waiting for the write-through of a victim. -/
def execSliceFillInstall (slice line : Nat) (s : State) : Host.Outcome State Fault Refusal :=
  done s (
    match s.cache.fills.find? (fun x => x.slice == slice && x.line == line) with
    | none => s
    | some x =>
      let taken (s : State) : State := { s with cache := { s.cache with fills := s.cache.fills.erase x } }
      if x.bad || x.overtaken then (taken s).bump Reg.CACHE_FILL_DROP_CNT 1 slice
      else if s.setHeld slice line then s.holdFill x
      else match s.wayFor slice line with
        | none => (taken s).bump Reg.CACHE_FILL_DROP_CNT 1 slice
        | some w =>
          match s.victimAt slice line w with
          | some v => if s.wtInFlight slice v then (s.leaveSet slice v).holdFill x else (taken s).install x w
          | none => (taken s).install x w)

/-! ### End of a merge (R148, R178) -/

/-- A write-through of a line from a slice has merged: a set that waited for it is free, and copies of an evicted directory
entry go (R170, R173). -/
def State.mergedSlices (s : State) (line slice : Nat) (left : List Nat) : State :=
  let s := if left.contains slice then s
    else { s with cache := { s.cache with victims := s.cache.victims.filter (fun v => v != (slice, line)) } }
  if left != [] || !s.cache.purges.contains line then s
  else ({ s with cache := { s.cache with purges := s.cache.purges.filter (· != line) } }).dropAll line

/-- BUSY clears when the last merge of the line is complete: reads that waited take the entry's data (R178). -/
def State.mergeEnd (s : State) (line slice : Nat) : State :=
  match s.cache.busy.find line with
  | none => s
  | some b =>
    let l := b.wtPend.erase slice
    let s := s.mergedSlices line slice l
    if l ≠ [] then { s with cache := { s.cache with busy := s.cache.busy.put line ⟨l⟩ } }
    else
      let s := { s with cache := { s.cache with busy := s.cache.busy.del line } }
      (s.reqs.filter (fun e => e.2.line == line && e.2.stage == .waitMerge)).foldl (fun s w =>
        match s.entry line with
        | some e => if e.full || e.poison || e.fillBad then s.fromEntry w.1 line e else s.toLookup w.1 w.2
        | none => s.toLookup w.1 w.2) s

/-- MERGE_COMPLETE (R148): the oldest merge of the line is complete; Cmp is sent. -/
def execMergeComplete (line : Nat) (s : State) : Host.Outcome State Fault Refusal :=
  done s (
    match s.reqs.find? (fun e => e.2.line == line && e.2.stage == .merging) with
    | none => s
    | some (rid, r) =>
      let s := (s.countWrite r.sess).respond r.port r.link r.discard
        (.ndr r.port r.link r.ld r.tag .cmp (s.devLoad r.sess))
      (s.mergeEnd line r.port).finish rid)

/-! ### Fills (R149, R151) -/

/-- FILL_RETURN (R149): the fill's bytes are merged under the mask, or the fill is discarded, or it is bad. -/
def execFillReturn (line : Nat) (err retry recon : MediaErr) (integ : IntegCheck) (s : State) :
    Host.Outcome State Fault Refusal :=
  done s (
    match s.sched.jobs.find? (fun e => e.2.line == line && e.2.why == .fill && e.2.phase == .placed
        && decide (e.2.stroke ≤ s.stroke)) with
    | none => s
    | some (_, j) =>
      match s.entry line with
      | none => s.dropFill line
      | some e =>
        if e.full then s.fillEntry line 0 false
        else
          let (s, r, _) := s.readMedia line j.mp j.ln ⟨j.ln, err, retry, recon⟩ 2 false
          let (s, r) := s.checkInteg line r integ
          s.fillEntry line r.out.1 r.out.2)

/-- SESS_CNT_CLR (R64). -/
def execSessCntClr (v : Word) (s : State) : Host.Outcome State Fault Refusal :=
  done s (if v.toNat % 2 = 1 then s.askClear .sess else s)

/-- SESS_Q_CNT_CLR (R77). -/
def execSessQCntClr (v : Word) (s : State) : Host.Outcome State Fault Refusal :=
  done s (if v.toNat % 2 = 1 then s.askClear .sessQ else s)

end Sys2Proof.Machine
end

