-- ==== Sys2Proof/Machine/ShelfOps.lean ====
section
/-! DEFINITION. The shelf unit's shared operations (R300 to R326): roles, contact, detune causes, time, interleave checks,
and the worker side of a coordinated activation. -/

namespace Sys2Proof.Machine

/-! ### Who this member is -/

def State.manager (s : State) : Bool := s.bit Reg.SHELF_STATUS_MANAGER
def State.shelfPos (s : State) : Nat := s.rd Reg.SHELF_STATUS_POS
def State.timeState (s : State) : Nat := s.rd Reg.SHELF_STATUS_TIME_STATE
def State.decision (s : State) : Nat := s.rd Reg.SHELF_ACT_STATUS_DECISION
def State.actValue (s : State) : Nat := s.rd Reg.SHELF_ACT_STATUS_ACT

/-- Number of the current sync epoch: shelf time div 1,024 (R301). -/
def State.epochNo (s : State) : Nat := s.stroke / 1024

/-- The device takes part in a shelf: AUX, LINK_EN, and no position conflict (R300, R302). -/
def State.onLink (s : State) : Bool := s.pwr.aux && s.bit Reg.SHELF_CFG_LINK_EN && !s.bit Reg.SHELF_DETUNE_POS_CONFLICT

/-- Strokes of 1,024 sync epochs (R323, R324). -/
def longWait : Nat := 1048576

/-- Chunk k of the serial number, 10 bits (R303). -/
def serialChunk (k : Nat) : Nat := Config.serial.toNat / 2 ^ (10 * k) % 1024

/-- The silent epoch that the serial number chooses (R303). -/
def State.serialSilent (s : State) : Bool := s.epochNo % 1024 == serialChunk (s.epochNo / 1024 % 7)

/-- A silent epoch of an acting manager (R301, R303). -/
def State.silentEpoch (s : State) : Bool := s.epochNo % 32 == s.shelfPos || s.serialSilent

/-- The epoch in which a worker leaves its status slot silent and listens in it (R302). -/
def State.slotListening (s : State) : Bool := s.epochNo % 1024 == serialChunk 0

def State.setShelf (s : State) (f : Shelf → Shelf) : State := { s with shelf := f s.shelf }

/-! ### Records and detune causes (R318, R326) -/

/-- A chronicle record of the shelf unit. -/
def State.shelfRec (s : State) (code sev : Nat) (payload : List Nat) : State := s.chronicle code 0x4F sev payload

/-- `SHELF_DETUNE` as a word. -/
def State.detune (s : State) : Nat := bitsOf (shelfDetuneFields.map (fun f => s.bit f))

/-- Enter or leave a detune cause: each change writes record 0x0802 (R318). -/
def State.setCause (s : State) (f : Field) (on : Bool) : State :=
  if s.bit f == on then s
  else
    let s := s.setBit f on
    s.shelfRec 0x0802 1 [s.detune, f.lo, if on then 1 else 0]

/-- The time lock is in this state from now on; TIME holds in contact outside LOCKED (Table 14-9).
(DEDUCED, log entry 125). -/
def State.setTime (s : State) (v : Nat) : State :=
  let s := s.wr Reg.SHELF_STATUS_TIME_STATE v
  s.setCause Reg.SHELF_DETUNE_TIME (s.inContact && v != 3)

/-- Fall back to FREE. -/
def State.freeTime (s : State) : State := (s.setShelf (fun x => { x with pulses := 0, pulseless := 0 })).setTime 0

/-! ### Loss of contact, conflicts, roles -/

/-- Contact is lost: the member is standalone and takes a slot it waits for at once (R325). -/
def State.loseContact (s : State) : State :=
  if !s.inContact then s
  else
    let m := (s.shelf.mgr.map (·.pos)).getD 0
    let s := (s.setBit Reg.SHELF_STATUS_CONTACT false).setBit Reg.PWR_STATUS_SLOT_WAIT false
    let s := s.setShelf (fun x => { x with beaconless := 0, beaconNow := false })
    s.freeTime.shelfRec 0x0801 1 [0, m]

/-- End a use of SHELF CONTROL: the foreground one is answered, a background one completes. -/
def State.endOp (s : State) (o : ShelfOp) (rc : Rc) (data : List Nat) : State :=
  let s := s.setShelf (fun x => { x with ops := x.ops.filter (fun y => y.num != o.num) })
  if o.use = .release then s.reply o.path rc 0 data else s.bgDone o.path .shelf rc 0 data

/-- What only an acting manager holds ends with its role. -/
def State.dropManager (s : State) : State :=
  let s := s.setBit Reg.SHELF_STATUS_MANAGER false
  let s := s.shelf.ops.foldl (fun s o => s.endOp o .aborted []) s
  let s := s.setShelf (fun x => { x with
    cmds := [], members := [], status := [], slotQ := [], lastGrant := none, grants := [], point := none, actSent := (0, 0),
    actMembers := [], yieldTo := none, conflictDue := false, claimed := false, claiming := false, listening := false })
  let s := (s.wr Reg.SHELF_POINT_DONE_POS 0).wr Reg.SHELF_POINT_PARTIAL_POS 0
  (((s.wr Reg.SHELF_POINT_EXCL_POS 0).wr Reg.SHELF_POINT_NOANS_POS 0).wr Reg.SHELF_MEMBERS_POS 0).setBit
    Reg.PWR_STATUS_SLOT_WAIT false

/-- A position conflict: standalone until AUX is removed (R302, R303). -/
def State.conflict (s : State) : State :=
  let s := s.loseContact
  let s := if s.manager then s.dropManager else s
  let s := s.setShelf (fun x => { x with claiming := false, claimed := false, listening := false })
  (s.setCause Reg.SHELF_DETUNE_POS_CONFLICT true).shelfRec 0x0808 2 [s.shelfPos]

/-- The role is taken: the device drives the link (R301), and has no manager to disagree with. -/
def State.becomeManager (s : State) : State :=
  let s := (s.setBit Reg.SHELF_STATUS_CONTACT false).freeTime
  let s := s.setShelf (fun x => { x with
    listening := false, claiming := false, claimed := false, mgr := none, dups := [], held := [], cmds := [], members := [],
    status := [], slotQ := [], lastGrant := none, grants := [], actSent := (0, 0), actMembers := [], point := none })
  let s := (s.setCause Reg.SHELF_DETUNE_EPOCH_HIGH false).setCause Reg.SHELF_DETUNE_IMAGE_CLASS false
  s.setBit Reg.SHELF_STATUS_MANAGER true

/-- A manager that has heard a lower position becomes a worker (R301). -/
def State.yield (s : State) (pos : Nat) : State := s.dropManager.shelfRec 0x0800 1 [pos]

/-- `SHELF_CFG.LINK_EN` has changed (R300). -/
def State.linkChanged (s : State) : State :=
  if s.bit Reg.SHELF_CFG_LINK_EN then
    s.setShelf (fun x => { x with listening := s.bit Reg.SHELF_STATUS_ROLE && !s.bit Reg.SHELF_DETUNE_POS_CONFLICT })
  else
    let s := s.loseContact
    let s := if s.manager then s.dropManager else s
    s.setShelf (fun x => { x with listening := false, claiming := false, claimed := false })

/-! ### Interleave records (R317) -/

/-- Ways that an interleave record may name (Table 14-8). -/
def ilvWays : List Nat := [1, 2, 3, 4, 6, 8, 12, 16]

/-- The record lies within Table 14-8. -/
def ilvOk (r : IlvRecord) : Bool := ilvWays.contains r.ways && decide (r.gran ≤ 6) && decide (r.members.length ≤ 16)

/-- A committed decoder disagrees with the entry of a record that names it. -/
def Decoder.disagrees (d : Decoder) (r : IlvRecord) (m : IlvMember) : Bool :=
  d.port == m.port && d.ld == m.ld && d.base == r.hpaBase * unit256M
    && !(d.ways == r.ways && d.gran == 256 * 2 ^ r.gran && d.size == r.size * unit256M)

/-- Mismatches of a record: set, port and LD-ID. -/
def State.mismatches (s : State) (r : IlvRecord) : List (Nat × Nat × Nat) :=
  (r.members.filter (fun m => m.valid && m.pos == s.shelfPos && s.decoders.any (fun d => d.disagrees r m))).map
    (fun m => (r.setId, m.port, m.ld))

/-- The check of every record that names this member (R317). (DEDUCED, log entry 131). -/
def State.interleaveCheck (s : State) : State :=
  let l := s.shelf.records.flatMap s.mismatches
  let s := s.setCause Reg.SHELF_DETUNE_INTERLEAVE (l != [])
  let s := (s.wr Reg.SHELF_ILV_STATUS_SET_ID (((l.map (·.1)).head?).getD 0)).setBit Reg.SHELF_ILV_STATUS_VALID (l != [])
  l.foldl (fun s e => s.shelfRec 0x0805 1 (leBytes 2 e.1 ++ [e.2.1, e.2.2])) s

/-- The media record of the system area takes the epoch and records once the medium is in service (R316). -/
def State.keepShelf (s : State) : State :=
  if s.ready then s.setShelf (fun x => { x with keptEpoch := x.epoch, keptRecords := x.records }) else s

/-- Adopt an epoch with its records (R316, R319). -/
def State.adopt (s : State) (epoch : Nat) (l : List IlvRecord) : State :=
  let s := (s.setShelf (fun x => { x with epoch := epoch, records := l, held := [] })).keepShelf
  (s.shelfRec 0x0804 0 (leBytes 8 epoch)).interleaveCheck

/-! ### A member's part in a coordinated activation (R323, R324) -/

/-- Record 0x0806 of this member. -/
def State.actOutcome (s : State) (stroke : Nat) (late : Bool) : State :=
  s.shelfRec 0x0806 (if s.actValue = 2 then 0 else 2) ([s.actValue, if late then 1 else 0] ++ leBytes 6 (stroke % 2 ^ 48))

/-- A pending coordinated activation. -/
def State.coordAct (s : State) : Option Activation :=
  match s.fw.act with
  | some a => if a.kind = .coordinated then some a else none
  | none => none

/-- The spare banks of a coordinated activation are released; STAGING stays as it is. -/
def State.releaseAct (s : State) : State :=
  let s := if s.coordAct.isSome then s.dropActivation.releaseSpare else s
  s.setShelf (fun x => { x with act := none })

/-- The outcome of an abort, or of a decision this member has no part in. -/
def State.notActivated (s : State) (stroke : Nat) : State :=
  let s := if s.actValue = 3 then s else s.setAct 0
  s.releaseAct.actOutcome stroke false

/-- A decision reaches this member (R323, R324). (DEDUCED, log entry 129). -/
def State.learn (s : State) (seq stroke decision : Nat) : State :=
  let mine := match s.shelf.act with
    | some a => a.seq == seq
    | none => true
  if !mine || s.decision == decision then s
  else
    let first := s.decision == 0
    let s := s.wr Reg.SHELF_ACT_STATUS_DECISION decision
    if !first || decision = 0 then s
    else match s.shelf.act with
      | none => s.notActivated stroke
      | some a =>
        if decision = 1 then s.setShelf (fun x => { x with act := some { a with late := decide (a.stroke < s.stroke) } })
        else s.notActivated stroke

end Sys2Proof.Machine
end

