-- ==== Sys2Proof/Machine/ShelfWorker.lean ====
section
/-! DEFINITION. A member's side of the shelf (R307 to R325): commands of the manager, beacons, time lock, power strokes and
the effect of a coordinated activation. -/

namespace Sys2Proof.Machine

/-! ### What a command does (Table 14-5): the member and its result (Table 14-6) -/

/-- Detuned for EPOCH_HIGH. -/
def State.epochHigh (s : State) : Bool := s.bit Reg.SHELF_DETUNE_EPOCH_HIGH

/-- Records held for an epoch, in the order of their index; `none` while one is missing (R316). -/
def State.heldRecords (s : State) (epoch count : Nat) : Option (List IlvRecord) :=
  let at_ (i : Nat) : Option IlvRecord := (s.shelf.held.find? (fun e => e.1 == epoch && e.2.1 == i)).map (·.2.2)
  let l := (List.range count).filterMap at_
  if l.length = count then some l else none

/-- CONFIG (R316). -/
def State.takeConfig (epoch count : Nat) (s : State) : State × Nat :=
  if s.epochHigh then (s, 2)
  else if 64 < count then (s, 3)
  else if epoch ≤ s.shelf.epoch then (s, 0)
  else match s.heldRecords epoch count with
    | some l => (s.adopt epoch l, 0)
    | none => (s, 5)

/-- ILV_RECORD (R316): held until its CONFIG. -/
def State.takeRecord (epoch index : Nat) (r : IlvRecord) (s : State) : State × Nat :=
  if s.epochHigh then (s, 2)
  else if 64 ≤ index || !ilvOk r then (s, 3)
  else
    (s.setShelf (fun x => { x with
      held := x.held.filter (fun e => !(e.1 == epoch && e.2.1 == index)) ++ [(epoch, index, r)] }), 0)

/-- SLOT_GRANT (R320). -/
def State.takeGrant (stroke : Nat) (s : State) : State × Nat :=
  if s.bit Reg.PWR_STATUS_SLOT_WAIT then (s.setShelf (fun x => { x with granted := some stroke }), 0) else (s, 4)

/-- POWER_OFF (R321): taken in PKG_ON and ON; one whose stroke has passed takes the next boundary. -/
def State.takePowerOff (stroke : Nat) (s : State) : State × Nat :=
  if s.isSeq .pkgOn || s.isSeq .on then
    ({ s with pwr := { s.pwr with offStroke := some (max stroke (s.stroke + 1)) } }, 0)
  else (s, 4)

/-- POWER_ON (R259, R321): kept until power-up begins. -/
def State.takePowerOn (s : State) : State × Nat :=
  if s.pwr.shelfOff then ({ s with pwr := { s.pwr with keptOn := true } }, 0) else (s, 4)

/-- PERSIST (R162, R322). (DEDUCED, log entry 128). -/
def State.takePersist (seq stroke : Nat) (s : State) : State × Nat :=
  let report (s : State) (v : Nat) : State := s.setShelf (fun x => { x with pointReport := (seq, v) })
  if s.epochHigh || s.bit Reg.SHELF_DETUNE_IMAGE_CLASS then (report s 2, 2)
  else
    let past := match s.merge.lastPoint with
      | some q => decide (stroke ≤ q)
      | none => false
    if past then (report s (if s.merge.pointPinned = 0 then 0 else 1), 0)
    else
      let S := if stroke ≤ s.stroke then s.stroke + 1 else stroke
      if !s.pointAt S && s.pointsFull then (s, 4)
      else (report (s.joinPoint S true (fun q => { q with shelf := some seq })) 3, 0)

/-- STAGING can take part in the activation (R323). -/
def State.canPrepare (s : State) (r : ImageReport) : Bool :=
  s.ready && !s.bit Reg.MERGE_STATUS_CAPO && s.descr.state == 2 && s.fw.act.isNone && s.imageFault r == 0

/-- ACT_PREPARE (R323): tables are loaded into the spare banks, or the participant cannot take part. -/
def State.takePrepare (seq stroke : Nat) (r : ImageReport) (s : State) : State × Nat :=
  if s.detune % 8 ≠ 0 then (s, 2)
  else
    let s := (s.wr Reg.SHELF_ACT_STATUS_DECISION 0).setBit Reg.SHELF_ACT_STATUS_LATE false
    if s.canPrepare r then
      let a : Activation := { kind := .coordinated, path := none, stroke := none }
      let s := (s.setShelf (fun x => { x with act := some { seq := seq, stroke := stroke } })).setAct 0
      (s.loadTables a r, 0)
    else (s.setAct 3, 0)

/-- RELEASE (R319): the member discards its own epoch and records. -/
def State.takeRelease (s : State) : State × Nat :=
  if s.epochHigh then ((s.setCause Reg.SHELF_DETUNE_EPOCH_HIGH false).adopt 0 [], 0) else (s, 0)

/-! ### Taking a command frame (R309, R310) -/

/-- Show the result of a command in ACK. -/
def State.ackNow (s : State) (seq res : Nat) : State := s.setShelf (fun x => { x with ack := (seq, res) })

/-- Keep the last 64 results, and acknowledge. -/
def State.remember (s : State) (seq res : Nat) : State :=
  (s.setShelf (fun x => { x with dups := (x.dups ++ [(seq, res)]).drop (x.dups.length + 1 - 64) })).ackNow seq res

/-- A command frame addressed or broadcast to this worker: a duplicate is answered again, a new command is run.
(DEDUCED, log entry 127). -/
def State.takeFrame (s : State) (f : Frame) (addressedOnly : Bool) (run : State → State × Nat) : State :=
  if !s.onLink || s.manager || !s.inContact || !(f.bcast || f.pos == s.shelfPos) then s
  else
    let s := s.bump Reg.SHELF_FRAME_CNT
    match s.shelf.dups.find? (fun e => e.1 == f.seq) with
    | some e => (s.bump Reg.SHELF_DUP_CNT).ackNow f.seq e.2
    | none =>
      if addressedOnly && f.bcast then s.remember f.seq 3
      else
        let r := run s
        r.1.remember f.seq r.2

/-- CONFIG (R316). -/
def execConfig (f : Frame) (epoch : BitVec 64) (count : Nat) (s : State) : Host.Outcome State Fault Refusal :=
  done s (s.takeFrame f false (State.takeConfig epoch.toNat count))

/-- ILV_RECORD (R316). -/
def execIlvRecord (f : Frame) (epoch : BitVec 64) (index : Nat) (r : IlvRecord) (s : State) : Host.Outcome State Fault Refusal :=
  done s (s.takeFrame f false (State.takeRecord epoch.toNat index r))

/-- SLOT_GRANT (R320). -/
def execSlotGrant (f : Frame) (stroke : Nat) (s : State) : Host.Outcome State Fault Refusal :=
  done s (s.takeFrame f true (State.takeGrant stroke))

/-- POWER_OFF (R321). -/
def execPowerOff (f : Frame) (stroke : Nat) (s : State) : Host.Outcome State Fault Refusal :=
  done s (s.takeFrame f false (State.takePowerOff stroke))

/-- POWER_OFF_STROKE (R321): time 0 of the commanded capo; in PKG_ON the package rails go down. -/
def execPowerOffStroke (s : State) : Host.Outcome State Fault Refusal :=
  done s (
    match s.pwr.offStroke with
    | none => s
    | some n =>
      if s.stroke < n then s
      else
        let go := s.isSeq .on || s.isSeq .pkgOn
        let s := { s with pwr := { s.pwr with offStroke := none, shelfOff := s.pwr.shelfOff || go, keptOn := s.pwr.keptOn && !go } }
        if s.isSeq .on then s.leaveOn .shelf .offHold
        else if s.isSeq .pkgOn then s.powerDown .shelf .offHold false else s)

/-- POWER_ON (R259, R321). -/
def execPowerOn (f : Frame) (s : State) : Host.Outcome State Fault Refusal :=
  done s (s.takeFrame f false State.takePowerOn)

/-- PERSIST (R162, R322). -/
def execPersist (f : Frame) (stroke : Nat) (s : State) : Host.Outcome State Fault Refusal :=
  done s (s.takeFrame f false (State.takePersist f.seq stroke))

/-- ACT_PREPARE (R323). -/
def execActPrepare (f : Frame) (stroke : Nat) (staging : ImageReport) (s : State) : Host.Outcome State Fault Refusal :=
  done s (s.takeFrame f false (State.takePrepare f.seq stroke staging))

/-- RELEASE (R319). (DEDUCED, log entry 126). -/
def execRelease (f : Frame) (s : State) : Host.Outcome State Fault Refusal := done s (s.takeFrame f true State.takeRelease)

/-- SHELF_FRAME_DISCARD (R306): counted, or answered 0x03 when only the TYPE is unknown. -/
def execShelfFrameDiscard (why : FrameFault) (s : State) : Host.Outcome State Fault Refusal :=
  done s (
    if !s.onLink then s
    else match why with
      | .unknownType f _ => s.takeFrame f false (fun s => (s, 3))
      | .badCrc => s.bump Reg.SHELF_CRC_ERR_CNT
      | .badLen => s.bump Reg.SHELF_CRC_ERR_CNT
      | .reservedBit => s.bump Reg.SHELF_CRC_ERR_CNT)

/-! ### Beacons (R301 to R303, R307, R315) -/

/-- Family of an image class. -/
def family (c : BitVec 16) : Nat := c.toNat / 256

/-- A worker follows the manager whose beacon it hears. -/
def State.followBeacon (s : State) (b : Beacon) : State :=
  let regained := !s.inContact && s.shelf.mgr.isSome
  let changed := match s.shelf.mgr with
    | some m => m.pos != b.pos || m.mgrBoot != b.mgrBoot
    | none => true
  let s := s.setShelf (fun x => { x with
    mgr := some b, dups := if changed then [] else x.dups, beaconNow := true, beaconless := 0,
    wall := some (b.wallNs, b.wallStroke.toNat) })
  let s := (s.setBit Reg.SHELF_STATUS_CONTACT true).wr Reg.SHELF_MEMBERS_POS b.members.toNat
  let s := if regained then s.shelfRec 0x0801 1 [1, b.pos] else s
  let s := s.setTime s.timeState
  let s := if b.configEpoch.toNat < s.shelf.epoch then s.setCause Reg.SHELF_DETUNE_EPOCH_HIGH true else s
  let differ := s.img.cls != 0 && b.imageClass != 0 && family s.img.cls != family b.imageClass
  (s.setCause Reg.SHELF_DETUNE_IMAGE_CLASS differ).learn b.actSeq b.actStroke b.actDecision

/-- A beacon reaches an acting manager: it listens in its silent epochs alone (R301, R303). -/
def State.managerHears (s : State) (b : Beacon) : State :=
  if !s.silentEpoch then s
  else
    let s := s.bump Reg.SHELF_FRAME_CNT
    if b.pos < s.shelfPos then s.setShelf (fun x => { x with yieldTo := some b.pos })
    else if b.pos == s.shelfPos && s.serialSilent then s.setShelf (fun x => { x with conflictDue := true })
    else s

/-- BEACON (R307). -/
def execBeacon (b : Beacon) (s : State) : Host.Outcome State Fault Refusal :=
  done s (
    if !s.onLink then s
    else if s.manager then s.managerHears b
    else
      let s := s.bump Reg.SHELF_FRAME_CNT
      if b.pos == s.shelfPos then s.conflict
      else
        let claims := s.bit Reg.SHELF_STATUS_ROLE && decide (s.shelfPos < b.pos)
        (s.setShelf (fun x => { x with listening := false, claiming := claims })).followBeacon b)

/-- CONTACT_LOSS (R307, R325): the boundary of the fourth epoch without a beacon. -/
def execContactLoss (s : State) : Host.Outcome State Fault Refusal :=
  done s (if s.onLink && decide (4 ≤ s.shelf.beaconless) then s.loseContact else s)

/-- MANAGER_LISTEN_END (R301): no beacon in 64 sync epochs. -/
def execManagerListenEnd (s : State) : Host.Outcome State Fault Refusal :=
  done s (if s.onLink && s.shelf.listening then s.becomeManager else s)

/-! ### Time lock (R313, R314, Table 14-7) -/

/-- ±64 strokes, ±8 CCLK, and the test of two pulses, in CCLK. -/
def lockReach : Int := 65536
def lockFine : Int := 8
def epochCclk : Nat := 1048576
def pulsesApart (n : Nat) : Bool := decide (epochCclk ≤ n + 256) && decide (n ≤ epochCclk + 256)

/-- `SHELF_PHASE_ERR`, saturated. -/
def State.showPhase (s : State) (e : Int) : State :=
  let v := max (-2147483647) (min 2147483647 e)
  s.wr Reg.SHELF_PHASE_ERR_CCLK (BitVec.ofInt 32 v).toNat

/-- The last phase error, as reported. (DEDUCED, log entry 124). -/
def State.phaseErr (s : State) : Int := (BitVec.ofNat 32 (s.rd Reg.SHELF_PHASE_ERR_CCLK)).toInt

/-- A pulse is accepted. -/
def State.acceptPulse (s : State) : State := s.setShelf (fun x => { x with pulseNow := true, pulseless := 0 })

/-- A pulse in ACQUIRE: within reach, SLEW; manager ahead, a step; worker ahead, it stays. -/
def State.acquire (s : State) (e : Int) : State :=
  if -lockReach ≤ e ∧ e ≤ lockReach then s.acceptPulse.setTime 2
  else if e < 0 then
    s.setShelf (fun x => { x with stepDue := max x.stepDue (((-e).toNat + 1023) / 1024), follow := true })
  else s

/-- SHL_SYNC_PULSE (R313). -/
def execShlSyncPulse (errCclk : Int) (withBeacon : Bool) (sincePrevious : Nat) (s : State) : Host.Outcome State Fault Refusal :=
  done s (
    if !s.onLink || s.manager || !s.inContact then s
    else
      let e := errCclk - Int.ofNat (s.rd Reg.SHELF_CFG_SYNC_TRIM)
      match s.timeState with
      | 0 =>
        if !withBeacon then s.setShelf (fun x => { x with pulses := 0 })
        else if s.shelf.pulses = 1 && pulsesApart sincePrevious then
          (s.setShelf (fun x => { x with pulses := 0 })).setTime 1
        else s.setShelf (fun x => { x with pulses := 1 })
      | 1 => (s.showPhase e).acquire e
      | 2 =>
        let s := s.showPhase e
        if -lockFine ≤ e ∧ e ≤ lockFine then
          (s.acceptPulse.setShelf (fun x => { x with timeKnown := true, slew := e })).setTime 3
        else if -lockReach ≤ e ∧ e ≤ lockReach then s.acceptPulse else s
      | _ =>
        let s := s.showPhase e
        if -lockFine ≤ e ∧ e ≤ lockFine then s.acceptPulse.setShelf (fun x => { x with slew := e })
        else s.bump Reg.SHELF_SYNC_IGNORE_CNT)

/-- TIME_LOCK_LOSS (R313): four epochs without an accepted pulse. -/
def execTimeLockLoss (s : State) : Host.Outcome State Fault Refusal :=
  done s (if decide (2 ≤ s.timeState) && decide (4 ≤ s.shelf.pulseless) then s.freeTime else s)

/-! ### Effect of a coordinated activation (R323, R324) -/

/-- The commit takes effect: at S, or at a sync epoch boundary when it was learnt late. -/
def State.actDue (s : State) (x : ShelfAct) : Bool :=
  s.decision == 1 && decide (x.stroke ≤ s.stroke) && (!x.late || s.stroke % 1024 == 0)

/-- This member activates. (DEDUCED, log entry 106). -/
def State.coordinate (s : State) (x : ShelfAct) (a : Activation) : State :=
  let late := x.late
  let s := (s.takeEffect a).setAct 2
  let s := (s.setShelf (fun y => { y with act := none })).setBit Reg.SHELF_ACT_STATUS_LATE late
  s.actOutcome x.stroke late

/-- ACTIVATION_IN_DOUBT (R324): 1,024 sync epochs after S without a decision. -/
def execActivationInDoubt (s : State) : Host.Outcome State Fault Refusal :=
  done s (
    match s.shelf.act with
    | none => s
    | some a =>
      if s.actValue ≠ 1 || s.decision ≠ 0 || s.stroke < a.stroke + longWait then s
      else (s.setAct 4).releaseAct.actOutcome a.stroke false)

/-! ### Its status frame (R308) -/

/-- The status payload of this member (Table 14-4). -/
def State.statusNow (s : State) : Status :=
  { pos := s.shelfPos, seqState := s.rd Reg.PWR_STATUS_STATE, timeState := s.timeState,
    recovery := s.bit Reg.TOP_STATUS_RECOVERY, slotWait := s.bit Reg.PWR_STATUS_SLOT_WAIT,
    detune := BitVec.ofNat 8 (s.detune % 16), imageClass := s.img.cls, configEpoch := BitVec.ofNat 64 s.shelf.epoch,
    phaseErr := s.phaseErr, ackSeq := s.shelf.ack.1, ackResult := s.shelf.ack.2, pointSeq := s.shelf.pointReport.1,
    pointResult := s.shelf.pointReport.2, act := s.actValue }

/-- The status frame of a worker in contact, but in the epoch in which it listens (R302, R308). -/
def State.sendStatus (s : State) : State :=
  if s.onLink && !s.manager && s.inContact && !s.slotListening then
    s.emit (.shelf ⟨s.shelfPos, false, 0⟩ (.status s.statusNow))
  else s

/-! ### SHELF_ registers (R327) -/

/-- SHELF_CNT_CLR (R327). -/
def execShelfCntClr (v : Word) (s : State) : Host.Outcome State Fault Refusal :=
  done s (if v.toNat % 2 = 1 then s.askClear .shelf else s)

/-- SHELF_EPOCH_LO_READ (R327). -/
def execShelfEpochLoRead (s : State) : Host.Outcome State Fault Refusal :=
  done s ((s.wr Reg.SHELF_EPOCH_HI_EPOCH_HI (s.shelf.epoch / 2 ^ 32)).emit
    (.readValue Reg.SHELF_EPOCH_LO_EPOCH_LO.off (s.shelf.epoch % 2 ^ 32)))

end Sys2Proof.Machine
end

