-- ==== Sys2Proof/Machine/ShelfFamily.lean ====
section
/-! DEFINITION. The acting manager (R301, R310, R311, R314, R316, R320, R322, R323), SHELF CONTROL (R337), and what the shelf
unit does at a sync epoch boundary. -/

namespace Sys2Proof.Machine

/-! ### Position masks -/

/-- A mask as its positions. -/
def positions (mask : Nat) : List Nat := (List.range 32).filter (fun p => mask / 2 ^ p % 2 == 1)

/-- Positions as a mask. -/
def maskOf (l : List Nat) : Nat := bitsOf ((List.range 32).map (fun p => l.contains p))

/-- Set a bit of a mask register. -/
def State.mark (s : State) (f : Field) (p : Nat) : State := s.wr f (Nat.lor (s.rd f) (2 ^ p))

/-- Positions in contact, beside the manager's own. -/
def State.contacts (s : State) : List Nat := s.shelf.members.map (·.1)

/-- Positions in contact, the manager included (Table 14-3). -/
def State.memberList (s : State) : List Nat := (List.range 32).filter (fun p => p == s.shelfPos || s.contacts.contains p)

/-! ### Commands and uses of SHELF CONTROL (R310, R311) -/

/-- The next SEQ: 1 more, skipping 0. -/
def nextSeq (n : Nat) : Nat := if 65535 ≤ n then 1 else n + 1

/-- A new command for some positions; its SEQ is `seqOut` afterwards. -/
def State.newCmd (s : State) (msg : ShelfMsg) (bcast : Bool) (left : List Nat) (why : ShelfWhy) : State :=
  let seq := nextSeq s.shelf.seqOut
  let c : ShelfCmd := { seq := seq, msg := msg, bcast := bcast, left := left, why := why }
  s.setShelf (fun x => { x with seqOut := seq, cmds := if left = [] then x.cmds else x.cmds ++ [c] })

/-- The use of SHELF CONTROL with a number. -/
def State.shelfOp (s : State) (n : Nat) : Option ShelfOp := s.shelf.ops.find? (fun o => o.num == n)

/-- Change a use of SHELF CONTROL. -/
def State.withOp (s : State) (n : Nat) (f : ShelfOp → ShelfOp) : State :=
  s.setShelf (fun x => { x with ops := x.ops.map (fun o => if o.num = n then f o else o) })

/-- Begin a use of SHELF CONTROL; its number is the `nextOp` before. -/
def State.newOp (s : State) (p : CmdPath) (use : ShelfUse) : State :=
  let o : ShelfOp := { num := s.shelf.nextOp, path := p, use := use }
  let s := s.setShelf (fun x => { x with ops := x.ops ++ [o], nextOp := x.nextOp + 1 })
  if use = .release then s else (s.bgStart p .shelf).reply p .backgroundStarted

/-- Output of POWER OFF and POWER ON: positions that acknowledged with Done, and those that did not answer. -/
def ShelfOp.masks (o : ShelfOp) : List Nat := leBytes 4 (maskOf o.ok) ++ leBytes 4 (maskOf o.noans)

/-- A use of SHELF CONTROL ends when none of its commands is left. -/
def State.opCheck (s : State) (n : Nat) : State :=
  match s.shelfOp n with
  | none => s
  | some o =>
    if s.shelf.cmds.any (fun c => c.why == .op n) then s
    else match o.use with
      | .setRecords => s.endOp o .success (leBytes 8 s.shelf.epoch ++ leBytes 4 (maskOf o.noans))
      | .powerOff => s.endOp o .success o.masks
      | .powerOn => s.endOp o .success o.masks
      | .release => if o.noans ≠ [] then s.endOp o .busy [] else s.endOp o .success [o.result]
      | .persist => s
      | .activate => s

/-- Check every use whose commands may have ended. -/
def State.opsCheck (s : State) : State := (s.shelf.ops.map (·.num)).foldl State.opCheck s

/-- A position that does not answer a command any more. -/
def State.giveUp (s : State) (c : ShelfCmd) (l : List Nat) : State :=
  let s := match c.why with
    | .op n => s.withOp n (fun o => { o with noans := o.noans ++ l })
    | _ => s
  match s.shelf.point with
  | some q => if q.seq = c.seq then s.setShelf (fun x => { x with point := some { q with gone := q.gone ++ l } }) else s
  | none => s

/-- A command without some positions; without any it is done. -/
def State.dropTargets (s : State) (seq : Nat) (l : List Nat) : State :=
  s.setShelf (fun x => { x with
    cmds := (x.cmds.map (fun c => if c.seq = seq then { c with left := c.left.filter (fun p => !l.contains p) } else c)).filter
      (fun c => c.left != []) })

/-- COMMAND_RESEND (R311): not in an ACK by the end of the following epoch. -/
def execCommandResend (seq : Nat) (s : State) : Host.Outcome State Fault Refusal :=
  done s (
    if !s.onLink || !s.manager then s
    else match s.shelf.cmds.find? (fun c => c.seq == seq) with
      | none => s
      | some c =>
        match c.sent with
        | none => s
        | some n =>
          if s.epochNo < n + 2 then s
          else if c.resends < s.rd Reg.SHELF_CFG_RETRIES then
            let s := c.left.foldl (fun s p => s.emit (.shelf ⟨p, false, c.seq⟩ c.msg)) s
            let c' := { c with resends := c.resends + 1, sent := some s.epochNo }
            (s.setShelf (fun x => { x with cmds := x.cmds.map (fun d => if d.seq = seq then c' else d) })).bump
              Reg.SHELF_RESEND_CNT c.left.length
          else ((s.giveUp c c.left).dropTargets seq c.left).opsCheck)

/-! ### Shelf persistence points (R322) -/

/-- A result of a position is noted in the masks. -/
def State.pointNote (s : State) (pos seq result : Nat) : State :=
  match s.shelf.point with
  | none => s
  | some q =>
    if q.seq ≠ seq || q.gone.contains pos then s
    else match result with
      | 0 => s.mark Reg.SHELF_POINT_DONE_POS pos
      | 1 => s.mark Reg.SHELF_POINT_PARTIAL_POS pos
      | 2 => s.mark Reg.SHELF_POINT_EXCL_POS pos
      | _ => s

/-- The manager's own result. -/
def State.pointOwn (s : State) : State := s.pointNote s.shelfPos s.shelf.pointReport.1 s.shelf.pointReport.2

/-- A position has a final result. -/
def State.pointFinal (s : State) (p : Nat) : Bool :=
  let m := Nat.lor (s.rd Reg.SHELF_POINT_DONE_POS) (Nat.lor (s.rd Reg.SHELF_POINT_PARTIAL_POS) (s.rd Reg.SHELF_POINT_EXCL_POS))
  m / 2 ^ p % 2 == 1

/-- A position counts as not answering: out of contact, unacknowledged, or never asked. -/
def State.pointLost (s : State) (q : ShelfPoint) (p : Nat) : Bool :=
  !s.pointFinal p && (q.gone.contains p || !q.asked.contains p)

/-- Members are those in contact at S. -/
def State.shelfPointTick (s : State) : State :=
  match s.shelf.point with
  | none => s
  | some q =>
    if q.members.isNone && decide (q.stroke ≤ s.stroke) then
      s.setShelf (fun x => { x with point := some { q with members := some s.memberList } })
    else s

/-- The four masks of R322. -/
def State.pointMasks (s : State) : List Nat :=
  leBytes 4 (s.rd Reg.SHELF_POINT_DONE_POS) ++ leBytes 4 (s.rd Reg.SHELF_POINT_PARTIAL_POS)
    ++ leBytes 4 (s.rd Reg.SHELF_POINT_EXCL_POS) ++ leBytes 4 (s.rd Reg.SHELF_POINT_NOANS_POS)

/-- The uses of one kind end. -/
def State.endUses (s : State) (u : ShelfUse) (rc : Rc) (data : List Nat) : State :=
  (s.shelf.ops.filter (fun o => o.use == u)).foldl (fun s o => s.endOp o rc data) s

/-- The point completes: NOANS, record 0x0807, and the answer. -/
def State.endShelfPoint (s : State) (lost : List Nat) : State :=
  let s := s.wr Reg.SHELF_POINT_NOANS_POS (maskOf lost)
  let s := s.setShelf (fun x => { x with point := none })
  let clean := s.rd Reg.SHELF_POINT_PARTIAL_POS == 0 && s.rd Reg.SHELF_POINT_EXCL_POS == 0 && lost == []
  let s := s.shelfRec 0x0807 (if clean then 0 else 1) (leBytes 4 (s.rd Reg.SHELF_POINT_DONE_POS) ++ leBytes 4 (maskOf lost))
  s.endUses .persist .success s.pointMasks

/-- SHELF_PERSIST_COMPLETE (R322). -/
def execShelfPersistComplete (s : State) : Host.Outcome State Fault Refusal :=
  done s (
    if !s.manager then s
    else
      let s := s.shelfPointTick.pointOwn
      match s.shelf.point with
      | none => s
      | some q =>
        match q.members with
        | none => s
        | some l =>
          if l.all (fun p => s.pointFinal p || s.pointLost q p) then s.endShelfPoint (l.filter (s.pointLost q)) else s)

/-! ### Coordinated activation (R323) -/

/-- ACT value of a position, as last reported. -/
def State.actOf (s : State) (p : Nat) : Nat :=
  if p = s.shelfPos then s.actValue else ((s.shelf.status.find p).map (·.act)).getD 0

/-- Output of ACTIVATE. -/
def State.actOutput (s : State) : List Nat :=
  leBytes 8 s.shelf.actSent.2 ++ [s.decision] ++ List.replicate 7 0 ++ (List.range 32).map s.actOf

/-- ACTIVATE ends at an abort, or when every participant has activated. -/
def State.actCheck (s : State) : State :=
  if s.shelf.actSent.1 ≠ 0 && (s.decision == 2 || (s.decision == 1 && s.shelf.actMembers.all (fun p => s.actOf p == 2))) then
    s.endUses .activate .success s.actOutput
  else s

/-- ACTIVATION_DECISION (R323): 16 sync epochs before S. -/
def execActivationDecision (s : State) : Host.Outcome State Fault Refusal :=
  done s (
    let seq := s.shelf.actSent.1
    let S := s.shelf.actSent.2
    if !s.onLink || !s.manager || seq = 0 || s.decision ≠ 0 || s.stroke + 16384 < S then s
    else
      let d := if s.shelf.actMembers.all (fun p => s.actOf p == 1) then 1 else 2
      (s.learn seq S d).actCheck)

/-- COORDINATED_ACTIVATION (R323, R324): at S, or late after learning a commit. -/
def execCoordinatedActivation (s : State) : Host.Outcome State Fault Refusal :=
  done s (
    match s.shelf.act, s.coordAct with
    | some x, some a => if s.actDue x && a.stage == .loaded && !s.fw.oldBank then (s.coordinate x a).actCheck else s
    | _, _ => s)

/-- The decision is no longer carried 1,024 sync epochs after S. (DEDUCED, log entry 121). -/
def State.actExpire (s : State) : State :=
  if s.shelf.actSent.1 ≠ 0 && decide (s.shelf.actSent.2 + longWait ≤ s.stroke) then
    let s := s.endUses .activate .success s.actOutput
    (s.setShelf (fun x => { x with actSent := (0, 0), actMembers := [] })).wr Reg.SHELF_ACT_STATUS_DECISION 0
  else s

/-! ### Status frames at the manager (R308, R311, R314, R316, R320, R322) -/

/-- Insert a waiting member in the order of epochs and positions. -/
def insertSlot (l : List (Nat × Nat)) (e : Nat × Nat) : List (Nat × Nat) :=
  match l with
  | [] => [e]
  | x :: r => if e.1 < x.1 || (e.1 == x.1 && e.2 < x.2) then e :: x :: r else x :: insertSlot r e

/-- A member waits for a slot, first seen in an epoch, unless a slot granted to it is still to come. -/
def State.slotSeen (s : State) (pos epoch : Nat) : State :=
  let coming := s.shelf.cmds.any (fun c => c.why == .grant && c.left.contains pos)
    || (match s.shelf.grants.find pos with
        | some g => decide (s.stroke ≤ g)
        | none => false)
  if coming || s.shelf.slotQ.any (fun e => e.2 == pos) then s
  else s.setShelf (fun x => { x with slotQ := insertSlot x.slotQ (epoch, pos) })

/-- The SEQ of a command appears in a worker's ACK. -/
def State.acked (s : State) (pos seq result : Nat) : State :=
  match s.shelf.cmds.find? (fun c => c.seq == seq && c.sent.isSome && c.left.contains pos) with
  | none => s
  | some c =>
    let s := match c.why with
      | .op n => s.withOp n (fun o => { o with ok := if result = 0 then o.ok ++ [pos] else o.ok, result := result })
      | _ => s
    (s.dropTargets seq [pos]).opsCheck

/-- A command of an update. -/
def ShelfCmd.updates (c : ShelfCmd) (pos : Nat) : Bool :=
  c.left.contains pos && (match c.msg with
    | .config _ _ => true
    | .ilvRecord _ _ _ => true
    | _ => false)

/-- Send a worker the epoch: every record, then CONFIG, all addressed (R316). (DEDUCED, log entry 132). -/
def State.sendConfig (s : State) (pos : Nat) (why : ShelfWhy) : State :=
  let e := BitVec.ofNat 64 s.shelf.epoch
  let s := s.shelf.records.zipIdx.foldl (fun s r => s.newCmd (.ilvRecord e r.2 r.1) false [pos] why) s
  s.newCmd (.config e s.shelf.records.length) false [pos] why

/-- A worker ahead by more than 64 strokes: the manager steps, at most once in 16 sync epochs (R314). -/
def State.managerStep (s : State) (f : Status) : State :=
  if f.timeState = 1 && decide (lockReach < f.phaseErr) && decide (16 ≤ s.shelf.sinceStep) then
    let n := roundUp1024 ((f.phaseErr.toNat + 1023) / 1024)
    s.setShelf (fun x => { x with stepDue := max x.stepDue n, sinceStep := 0 })
  else s

/-- A status frame reaches the acting manager. -/
def State.takeStatus (s : State) (f : Status) : State :=
  let s := s.bump Reg.SHELF_FRAME_CNT
  let s := s.setShelf (fun x => { x with members := x.members.put f.pos 0, status := x.status.put f.pos f })
  let s := if f.slotWait then s.slotSeen f.pos s.epochNo
    else s.setShelf (fun x => { x with slotQ := x.slotQ.filter (fun e => e.2 != f.pos) })
  let s := (s.acked f.pos f.ackSeq f.ackResult).pointNote f.pos f.pointSeq f.pointResult
  let low := decide (f.configEpoch.toNat < s.shelf.epoch)
  let s := if low && !s.shelf.cmds.any (fun c => c.updates f.pos) then s.sendConfig f.pos .update else s
  (s.managerStep f).actCheck

/-- STATUS_FRAME (R302, R308). -/
def execStatusFrame (f : Status) (s : State) : Host.Outcome State Fault Refusal :=
  done s (
    if !s.onLink then s
    else if s.manager then (if f.pos = s.shelfPos || s.silentEpoch then s else s.takeStatus f)
    else if s.inContact && s.slotListening && f.pos == s.shelfPos then (s.bump Reg.SHELF_FRAME_CNT).conflict
    else s)

/-- MEMBER_DROPOUT (R308): a position leaves MEMBERS. -/
def execMemberDropout (pos : Nat) (s : State) : Host.Outcome State Fault Refusal :=
  done s (
    match s.shelf.members.find pos with
    | none => s
    | some n =>
      if !s.manager || n < 4 then s
      else
        let s := s.setShelf (fun x => { x with
          members := x.members.del pos, slotQ := x.slotQ.filter (fun e => e.2 != pos) })
        let l := s.shelf.cmds.filter (fun c => c.left.contains pos)
        let s := l.foldl (fun s c => (s.giveUp c [pos]).dropTargets c.seq [pos]) s
        let s := match s.shelf.point with
          | some q => if s.pointFinal pos then s else s.setShelf (fun x => { x with point := some { q with gone := q.gone ++ [pos] } })
          | none => s
        s.opsCheck.actCheck)

/-! ### SHELF CONTROL (R337, Table 15-4) -/

/-- A subfunction that needs the acting manager. (DEDUCED, log entry 119). (DEDUCED, log entry 123). -/
def State.shelfControl (s : State) (p : CmdPath) (i : Instr) (f : State → State) : State :=
  s.command p i .admin false (fun s =>
    if !s.manager then s.reply p .invalidInput 0x000F else if s.bgBusy p then s.reply p .busy else f s)

/-- Bytes of a status payload (Table 14-4). -/
def statusBytes (f : Status) : List Nat :=
  let first := f.seqState % 16 + 16 * (f.timeState % 4) + (if f.recovery then 64 else 0) + (if f.slotWait then 128 else 0)
  [first, f.detune.toNat] ++ leBytes 2 f.imageClass.toNat ++ leBytes 8 f.configEpoch.toNat
    ++ leBytes 4 (BitVec.ofInt 32 f.phaseErr).toNat ++ leBytes 2 f.ackSeq ++ [f.ackResult] ++ leBytes 2 f.pointSeq
    ++ [f.pointResult, f.act, 0]

/-- Positions that report a detune cause, this device among them. -/
def State.detuned (s : State) : List Nat :=
  (List.range 32).filter (fun p =>
    if p = s.shelfPos then s.detune != 0
    else match s.shelf.status.find p with
      | some f => f.detune != 0
      | none => false)

/-- MEMBERS as STATUS returns it. -/
def State.membersMask (s : State) : Nat := if s.manager then maskOf s.memberList else s.rd Reg.SHELF_MEMBERS_POS

/-- SHELF_STATUS. -/
def execShelfStatus (p : CmdPath) (s : State) : Host.Outcome State Fault Refusal :=
  done s (s.command p (.shelfStatus p) .admin false (fun s =>
    let one (k : Nat) : List Nat := match s.shelf.status.find k with
      | some f => statusBytes f
      | none => List.replicate 24 0
    s.reply p .success 0 (leBytes 4 s.membersMask ++ leBytes 8 s.shelf.epoch ++ leBytes 4 (maskOf s.detuned)
      ++ (List.range 32).flatMap one)))

/-- SET_RECORDS (R316): the epoch rises by 1, and every worker in contact is updated. -/
def execSetRecords (p : CmdPath) (records : List IlvRecord) (s : State) : Host.Outcome State Fault Refusal :=
  done s (s.shelfControl p (.setRecords p records) (fun s =>
    if 64 < records.length || !records.all ilvOk then s.reply p .invalidInput
    else
      let n := s.shelf.nextOp
      let s := (s.newOp p .setRecords).adopt (s.shelf.epoch + 1) records
      let s := s.setShelf (fun x => { x with cmds := x.cmds.filter (fun c => c.why != .update) })
      (s.contacts.foldl (fun s q => s.sendConfig q (.op n)) s).opCheck n))

/-- Send a power command to the positions of a mask; the manager's own takes it at once. -/
def State.powerUse (s : State) (p : CmdPath) (use : ShelfUse) (msg : ShelfMsg) (mask : BitVec 32) (own : State → State × Nat) :
    State :=
  let n := s.shelf.nextOp
  let s := s.newOp p use
  let all := mask == BitVec.allOnes 32
  let l := positions mask.toNat
  let s := if l.contains s.shelfPos then
      let r := own s
      if r.2 = 0 then r.1.withOp n (fun o => { o with ok := o.ok ++ [s.shelfPos] }) else r.1
    else s
  let s := if all then s.newCmd msg true s.contacts (.op n)
    else (l.filter (fun q => q != s.shelfPos)).foldl (fun s q => s.newCmd msg false [q] (.op n)) s
  s.opCheck n

/-- SHELF_POWER_OFF. -/
def execShelfPowerOff (p : CmdPath) (mask : BitVec 32) (stroke : Nat) (s : State) : Host.Outcome State Fault Refusal :=
  done s (s.shelfControl p (.shelfPowerOff p mask stroke) (fun s =>
    s.powerUse p .powerOff (.powerOff stroke) mask (State.takePowerOff stroke)))

/-- SHELF_POWER_ON. -/
def execShelfPowerOn (p : CmdPath) (mask : BitVec 32) (s : State) : Host.Outcome State Fault Refusal :=
  done s (s.shelfControl p (.shelfPowerOn p mask) (fun s => s.powerUse p .powerOn .powerOn mask State.takePowerOn))

/-- Strokes of sync epochs. -/
def epochStrokes (n : Nat) : Nat := 1024 * n

/-- SHELF_PERSIST (R322): an S less than 4 sync epochs ahead is moved to the start of the fourth epoch ahead. -/
def execShelfPersist (p : CmdPath) (stroke : Nat) (s : State) : Host.Outcome State Fault Refusal :=
  done s (s.shelfControl p (.shelfPersist p stroke) (fun s =>
    if s.shelf.point.isSome then s.reply p .busy
    else
      let S := if stroke < s.stroke + epochStrokes 4 then epochStrokes (s.epochNo + 4) else stroke
      let n := s.shelf.nextOp
      let s := (s.newOp p .persist).newCmd (.persist S) true s.contacts (.op n)
      let seq := s.shelf.seqOut
      let s := ((s.wr Reg.SHELF_POINT_DONE_POS 0).wr Reg.SHELF_POINT_PARTIAL_POS 0).wr Reg.SHELF_POINT_EXCL_POS 0
      let s := s.wr Reg.SHELF_POINT_NOANS_POS 0
      let q : ShelfPoint := { seq := seq, stroke := S, asked := s.memberList }
      (s.setShelf (fun x => { x with point := some q })).takePersist seq S |>.1))

/-- SHELF_ACTIVATE (R323): S lies between 64 sync epochs and 2^24 strokes ahead. -/
def execShelfActivate (p : CmdPath) (stroke : Nat) (staging : ImageReport) (s : State) : Host.Outcome State Fault Refusal :=
  done s (s.shelfControl p (.shelfActivate p stroke staging) (fun s =>
    if s.shelf.actSent.1 ≠ 0 then s.reply p .busy 0x000E
    else if stroke < s.stroke + epochStrokes 64 || s.stroke + 2 ^ 24 < stroke then s.reply p .invalidInput
    else
      let n := s.shelf.nextOp
      let takes (q : Nat) : Bool := if q = s.shelfPos then s.detune % 8 == 0 else
        match s.shelf.status.find q with
        | some f => f.detune.toNat % 8 == 0
        | none => false
      let parts := s.memberList.filter takes
      let s := (s.newOp p .activate).newCmd (.actPrepare stroke) true s.contacts (.op n)
      let seq := s.shelf.seqOut
      let s := s.setShelf (fun x => { x with actSent := (seq, stroke), actMembers := parts })
      (s.takePrepare seq stroke staging).1))

/-- SHELF_RELEASE (R319): on the device itself, or on the manager for a worker's position. -/
def execShelfRelease (p : CmdPath) (pos : Nat) (s : State) : Host.Outcome State Fault Refusal :=
  done s (s.command p (.shelfRelease p pos) .admin false (fun s =>
    if pos = 255 || pos = s.shelfPos then
      let r := s.takeRelease
      r.1.reply p .success 0 [r.2]
    else if 32 ≤ pos || !s.manager then s.reply p .invalidInput
    else
      let n := s.shelf.nextOp
      (s.newOp p .release).newCmd .release false [pos] (.op n)))

/-! ### The shelf unit at a sync epoch boundary (R301, R307, R308, R312, R320) -/

/-- The manager's beacon (Table 14-3). -/
def State.beaconNow (s : State) : Beacon :=
  let w := s.wall.getD (0, 0)
  { pos := s.shelfPos, shelfTime := BitVec.ofNat 64 s.stroke, configEpoch := BitVec.ofNat 64 s.shelf.epoch,
    imageClass := s.img.cls, mgrBoot := s.keep.pcycle.value, wallNs := w.1, wallStroke := BitVec.ofNat 64 w.2,
    members := BitVec.ofNat 32 (maskOf s.memberList), actSeq := s.shelf.actSent.1, actStroke := s.shelf.actSent.2,
    actDecision := s.decision }

/-- The manager sends its beacon; MEMBERS is as in it. -/
def State.sendBeacon (s : State) : State :=
  (s.wr Reg.SHELF_MEMBERS_POS (maskOf s.memberList)).emit (.shelf ⟨s.shelfPos, false, 0⟩ (.beacon s.beaconNow))

/-- Commands that can go out in this epoch, 7 beside the beacon: none to a position that has one unacknowledged or has been
sent one in this epoch. -/
def chooseCmds (l : List ShelfCmd) : Nat → List Nat → List ShelfCmd
  | n, blocked =>
    match l with
    | [] => []
    | c :: r =>
      let free := c.sent.isNone && decide (0 < n) && !c.left.any blocked.contains
      if free then c :: chooseCmds r (n - 1) (blocked ++ c.left) else chooseCmds r n (blocked ++ c.left)

/-- The commands of an epoch are sent (R305, R311). -/
def State.sendCommands (s : State) : State :=
  (chooseCmds s.shelf.cmds 7 []).foldl (fun s c =>
    let s := if c.bcast then s.emit (.shelf ⟨0, true, c.seq⟩ c.msg)
      else c.left.foldl (fun s p => s.emit (.shelf ⟨p, false, c.seq⟩ c.msg)) s
    s.setShelf (fun x => { x with cmds := x.cmds.map (fun d => if d.seq = c.seq then { d with sent := some s.epochNo } else d) })) s

/-- `SHELF_CFG.SPACING` in strokes, rounded up. -/
def State.slotSpacing (s : State) : Nat := (s.rd Reg.SHELF_CFG_SPACING * 3125 + 1) / 2

/-- Grant the slot of the first waiting member (R320). (DESIGN CHOICE, log entry 120). -/
def State.grantSlot (s : State) : State :=
  match s.shelf.slotQ with
  | [] => s
  | e :: r =>
    let first := epochStrokes (s.epochNo + 2)
    let S := match s.shelf.lastGrant with
      | some g => max first (g + s.slotSpacing)
      | none => first
    let s := s.setShelf (fun x => { x with slotQ := r, lastGrant := some S, grants := x.grants.put e.2 S })
    if e.2 = s.shelfPos then (s.takeGrant S).1 else s.newCmd (.slotGrant S) false [e.2] .grant

/-- What an acting manager does in an epoch. (DESIGN CHOICE, log entry 122). -/
def State.managerEpoch (s : State) : State :=
  let s := s.setShelf (fun x => { x with members := x.members.mapVals (fun _ n => n + 1) })
  let s := if s.bit Reg.PWR_STATUS_SLOT_WAIT && s.shelf.granted.isNone then s.slotSeen s.shelfPos (s.epochNo - 1) else s
  let s := s.pointOwn.actExpire
  if s.silentEpoch then s else s.sendBeacon.grantSlot.sendCommands

/-- A claim is made in the incumbent's silent epoch (R301). (DEDUCED, log entry 130). -/
def State.claimNow (s : State) : State :=
  match s.shelf.mgr with
  | none => s
  | some b =>
    if s.shelf.claiming && s.inContact && s.timeState == 3 && decide (b.configEpoch.toNat ≤ s.shelf.epoch)
        && s.epochNo % 32 == b.pos then
      s.sendBeacon.setShelf (fun x => { x with claimed := true })
    else s

/-- What a worker does in an epoch. -/
def State.workerEpoch (s : State) : State :=
  let s := s.setShelf (fun x => { x with
    beaconless := if x.beaconNow || !s.inContact then 0 else x.beaconless + 1, beaconNow := false,
    pulseless := if x.pulseNow || s.timeState < 2 then 0 else x.pulseless + 1, pulseNow := false })
  s.sendStatus.claimNow

/-- Changes of role that wait for a sync epoch boundary. -/
def State.roleChange (s : State) : State :=
  if s.shelf.claimed then s.becomeManager
  else if s.manager && s.shelf.conflictDue then s.conflict
  else match s.shelf.yieldTo with
    | some p => if s.manager then s.yield p else s.setShelf (fun x => { x with yieldTo := none })
    | none => s

/-- The stroke count steps by `n`: the plans of the stroke in progress and of later ones keep their place (R25).
(DEDUCED, log entry 16). -/
def State.renumber (s : State) (n : Nat) : State :=
  let old := s.stroke
  let later (k : Nat) : Nat := if old ≤ k then k + n else k
  let job (j : Job) : Job := { j with stroke := later j.stroke, due := later j.due, reach := j.reach + n }
  let op (o : BankOp) : BankOp := { o with stroke := later o.stroke }
  let req (r : Req) : Req := { r with stepped := true }
  let sched : Sched := { s.sched with
    locked := later s.sched.locked, jobs := s.sched.jobs.mapVals (fun _ j => job j)
    last := s.sched.last.mapVals (fun _ k => 256 * later (k / 256) + k % 256)
    demand := s.sched.demand.mapVals (fun _ l => l.map (fun x => (x.1 + n, x.2)))
    skew := s.sched.skew + 1024 * n }
  { s with stroke := old + n, sched := sched, ops := s.ops.mapVals (fun _ o => op o), reqs := s.reqs.mapVals (fun _ r => req r) }

/-- The step of shelf time (R25, R312, R314). -/
def State.shelfStep (s : State) : State :=
  let n := s.shelf.stepDue
  if n = 0 then s
  else
    let acquired := s.shelf.follow && s.timeState == 1
    let s := s.setShelf (fun x => { x with stepDue := 0, follow := false, timeKnown := x.timeKnown || x.follow })
    let s := s.renumber n
    let s := (s.bump Reg.SHELF_STEP_CNT).shelfRec 0x0803 1 (leBytes 6 n)
    if acquired then s.acceptPulse.setTime 2 else s

/-- The shelf unit at a sync epoch boundary. -/
def State.shelfEpoch (s : State) : State :=
  if !s.pwr.aux then s
  else
    let s := s.setShelf (fun x => { x with sinceStep := min 16 (x.sinceStep + 1) })
    let s := s.shelfStep
    let s := if s.shelf.keptEpoch = s.shelf.epoch && s.shelf.keptRecords == s.shelf.records then s else s.keepShelf
    if !s.onLink then s
    else
      let s := s.roleChange
      if s.manager then s.managerEpoch else if s.onLink then s.workerEpoch else s

end Sys2Proof.Machine
end

