-- ==== Sys2Proof/Machine/RegFamily.lean ====
section
/-! DEFINITION. Register accesses (R8 to R10, R366 to R374, R390): TOP_INT_MASK_WRITE, RWM_WRITE_REJECT,
BAR2_ACCESS_ERROR and REGISTER_WRITE. -/

namespace Sys2Proof.Machine

/-- Value that a written word carries in a field. -/
def Field.inWord (f : Field) (v : Nat) : Nat := v / 2 ^ f.lo % 2 ^ f.width

/-- Fields of the register at a BAR2 offset, with their instance and index. -/
def fieldsAt (o : Nat) : List (Field × Nat × Nat) := Reg.all.filterMap (fun f => (f.at? o).map (fun k => (f, k)))

/-- TOP_INT_MASK_WRITE (R374): unmasking a set bit owes a message at the next stroke boundary. -/
def execTopIntMaskWrite (v : Word) (s : State) : Host.Outcome State Fault Refusal :=
  done s (
    let old := s.rd Reg.TOP_INT_MASK_MASK
    let t := s.wr Reg.TOP_INT_MASK_MASK v.toNat
    let new := t.rd Reg.TOP_INT_MASK_MASK
    let owed := s.topInt.zipIdx.any (fun e => e.1 && old / 2 ^ e.2 % 2 == 1 && new / 2 ^ e.2 % 2 == 0)
    { t with intOwed := s.intOwed || owed })

/-! ### RWM fields (R8) -/

/-- `PROT_ANCHOR`, RWM (Table 10-9): 384 bits. -/
def isAnchor (o : Nat) : Bool := decide (0x800040 ≤ o) && decide (o < 0x800070)

/-- A write at this offset reaches an RWM field. (DEDUCED, log entry 117). -/
def reachesRwm (o : Nat) : Bool := isAnchor o || (fieldsAt o).any (fun e => e.1.acc == .rwm)

/-- RWM_WRITE_REJECT (R8): ignored, and counted once. -/
def execRwmWriteReject (offset : Nat) (_v : Word) (s : State) : Host.Outcome State Fault Refusal :=
  done s (if reachesRwm offset then s.bump Reg.ERR_RWM_REJECT else s)

/-! ### Accesses that are not aligned 32-bit writes (R369, R371) -/

/-- Offsets of register blocks below the unassigned and factory-reserved ranges (Table 17-3). -/
def inBlocks (o : Nat) : Bool := decide (o < 0xE00000)

/-- BAR2_ACCESS_ERROR (R369): width in bytes. -/
def execBar2AccessError (offset width : Nat) (_v : Nat) (s : State) : Host.Outcome State Fault Refusal :=
  done s (if inBlocks offset && !(width == 4 && offset % 4 == 0) then s.setBit Reg.TOP_STATUS_ACCESS_ERR true else s)

/-! ### REGISTER_WRITE (R390) -/

/-- A field that a write can change. -/
def Acc.writable : Acc → Bool
  | .rw => true
  | .rws => true
  | _ => false

/-- Registers whose write is a command of its own. (DEDUCED, log entry 115). -/
def ownCommand (o : Nat) : Bool :=
  (fieldsAt o).any (fun e => e.1.acc == .wo || e.1.acc == .rwm
    || [Reg.XLAT_MAP_IDX_TRACT, Reg.MERGE_CFG_BUDGET, Reg.CACHE_WAY_CFG_GROUP_EN, Reg.CACHE_RC_CFG_EN, Reg.ERR_PATROL_CFG_PASS,
        Reg.KEEP_PAGE_IDX_PAGE, Reg.TELEM_EVT_CFG_EVENT, Reg.TELEM_BW_CFG_K, Reg.PORT_CFG_MODE, Reg.TOP_INT_MASK_MASK].contains e.1)

/-- A field refuses the value it would take: out of range, and not what it holds. -/
def State.fieldRefuses (s : State) (v : Nat) (e : Field × Nat × Nat) : Bool :=
  let n := e.1.inWord v
  e.1.acc.writable && n != s.rd e.1 e.2.1 e.2.2 && !(decide (e.1.rmin ≤ n) && decide (n ≤ e.1.rmax))

/-- A write of one field. -/
def State.writeField (s : State) (v : Nat) (e : Field × Nat × Nat) : State :=
  let n := e.1.inWord v
  let old := s.rd e.1 e.2.1 e.2.2
  if e.1.acc.writable then s.wr e.1 n e.2.1 e.2.2
  else if e.1.acc = .rw1c then s.wr e.1 (old - Nat.land old n) e.2.1 e.2.2 else s

/-- How a block flags a refused write. -/
def State.cfgReject (s : State) (o : Nat) : State :=
  match o / 0x100000 with
  | 3 => s.setBit Reg.SCHED_STATUS_CFG_REJECT true
  | 6 => s.setBit Reg.MERGE_STATUS_CFG_REJECT true
  | 9 => s.setBit Reg.ERR_STATUS_CFG_REJECT true
  | 13 => s.setBit Reg.TELEM_STATUS_CFG_REJECT true
  | _ => s

/-- A BAR2 write, judged whole. -/
def State.writeBar2 (s : State) (o v : Nat) : State :=
  let l := fieldsAt o
  if o % 4 ≠ 0 || ownCommand o then s
  else if l.any (s.fieldRefuses v) then s.cfgReject o
  else
    let t := l.foldl (fun s e => s.writeField v e) s
    if t.bit Reg.SHELF_CFG_LINK_EN == s.bit Reg.SHELF_CFG_LINK_EN then t else t.linkChanged

/-- HDM decoders are committed or taken back; a commit is checked against the interleave records (R317).
(DESIGN CHOICE, log entry 31). -/
def State.writeDecoder (s : State) (d : Decoder) (commit : Bool) : State :=
  if 4 ≤ d.index then s
  else
    let rest := s.decoders.filter (fun x => !(x.port == d.port && x.ld == d.ld && x.index == d.index))
    if commit then ({ s with decoders := rest ++ [d] }).interleaveCheck else { s with decoders := rest }

/-- Configuration space that Table 17-1 names and a standard lets a host write. -/
def cfgNamed (o : Nat) : Bool :=
  [(0x10, 0x20), (0x40, 0x48), (0x50, 0x5C), (0x70, 0xAC), (0x100, 0x148), (0x158, 0x240), (0x2A0, 0x2E0)].any
    (fun (e : Nat × Nat) => decide (e.1 ≤ o) && decide (o < e.2))

/-- A configuration write: D3hot and the MSI-X enable act at once (Table 17-1). (PRESUMED, log entry 116). -/
def State.writeConfig (s : State) (port o v : Nat) : State :=
  if !cfgNamed o || 4 ≤ port || o % 4 ≠ 0 then s
  else
    let s := { s with cfgSpace := s.cfgSpace.set 0 (4096 * port + o) v }
    let without (l : List Nat) : List Nat := l.filter (fun p => p != port)
    if o = 0x44 then { s with d3 := if v % 4 = 3 then without s.d3 ++ [port] else without s.d3 }
    else if o = 0x50 then { s with msixEn := if v / 2 ^ 31 = 1 then without s.msixEn ++ [port] else without s.msixEn }
    else s

/-- BAR0 that Table 17-2 does not mark reserved and a host can write. -/
def bar0Named (o : Nat) : Bool :=
  (decide (0x1000 ≤ o) && decide (o < 0x2000)) || (decide (0x8000 ≤ o) && decide (o < 0xC040))

/-- REGISTER_WRITE (R367, R371, R390). -/
def execRegisterWrite (space : RegSpace) (v : Word) (s : State) : Host.Outcome State Fault Refusal :=
  done s (
    match space with
    | .bar2 o => s.writeBar2 o v.toNat
    | .decoder port ld index commit base size ways gran => s.writeDecoder ⟨port, ld, index, base, size, ways, gran⟩ commit
    | .config port o => s.writeConfig port o v.toNat
    | .bar0 port o =>
      if bar0Named o && port < 4 && o % 4 == 0 then { s with bar0 := s.bar0.set 0 (65536 * port + o) v.toNat } else s)

end Sys2Proof.Machine
end

