-- ==== Sys2Proof/Machine/TelemFamily.lean ====
section
/-! DEFINITION. Telemetry counters (chapter 16): TELEM_CTRL_CLR, TELEM_CTRL_FREEZE, TELEM_SNAP_NOW, TELEM_EVT_CFG_WRITE,
TELEM_BW_CFG_WRITE, TELEM_WINDOW_READ, TELEM_CNT_LO_READ, TELEM_CYC_LO_READ, TELEM_SNAP_HEAD_LO_READ,
TELEM_BW_WINDOW_LO_READ, SNAPSHOT_RECORD_WRITTEN, BANDWIDTH_WINDOW_END, and the subfunctions of TELEMETRY CONTROL. -/

namespace Sys2Proof.Machine

/-! ### Configuration (R351, R353) -/

/-- Codes that Table 16-2 lists for a block. (DESIGN CHOICE, log entry 70). -/
def eventCodes (b : Nat) : Nat :=
  if b < 4 then 0x0A else if b < 12 then 0x0D else if b = 12 then 0x06 else if b = 13 then 0x0A else 0x08

/-- Events that accept FILTER (Table 16-2). -/
def eventFilter (b code : Nat) : Bool :=
  if b < 4 then [1, 2, 3, 7, 8, 0x0A].contains code
  else if b < 12 then decide (1 ≤ code)
  else if b = 12 then decide (1 ≤ code) && decide (code ≤ 3)
  else if b = 13 then decide (4 ≤ code) && decide (code ≤ 8)
  else false

/-- FILTER values that Table 16-1 does not reserve. -/
def filterValue (b f : Nat) : Bool := if b < 4 then decide (f < 2) else if b = 12 then decide (f < 4) else true

/-- Kind O or S of an event (Table 16-2). -/
def stateEvent (b code : Nat) : Bool :=
  if b < 4 then decide (9 ≤ code) else if b < 12 then decide (0x0C ≤ code)
  else if b = 12 then code == 3 || code == 6 else if b = 13 then decide (9 ≤ code) else decide (6 ≤ code)

/-- A write of TELEM_EVT_CFG is accepted (R353). (DEDUCED, log entry 71). -/
def evtOk (b : Nat) (c : EvtCfg) : Bool :=
  decide (c.event ≤ eventCodes b) && filterValue b c.filter && (!c.filterEn || eventFilter b c.event)

/-- Fields of a TELEM_EVT_CFG word (Table 16-7). -/
def evtOf (v : Nat) : EvtCfg := ⟨v % 256, v / 256 % 2 == 1, v / 512 % 8, v / 4096 % 2 == 1⟩

/-- A configuration as its word. -/
def EvtCfg.word (c : EvtCfg) : Nat :=
  c.event + (if c.level then 256 else 0) + 512 * c.filter + (if c.filterEn then 4096 else 0)

/-- The configuration that the registers show. -/
def State.evtReg (s : State) (b i : Nat) : EvtCfg :=
  ⟨s.rd Reg.TELEM_EVT_CFG_EVENT b i, s.bit Reg.TELEM_EVT_CFG_MODE b i, s.rd Reg.TELEM_EVT_CFG_FILTER b i,
   s.bit Reg.TELEM_EVT_CFG_FILTER_EN b i⟩

/-- An accepted write: the register shows it, and it comes into force at the next stroke boundary. -/
def State.setEvt (s : State) (b i : Nat) (c : EvtCfg) : State :=
  let s := (s.wr Reg.TELEM_EVT_CFG_EVENT c.event b i).setBit Reg.TELEM_EVT_CFG_MODE c.level b i
  let s := (s.wr Reg.TELEM_EVT_CFG_FILTER c.filter b i).setBit Reg.TELEM_EVT_CFG_FILTER_EN c.filterEn b i
  { s with telem := { s.telem with cfgDue := true } }

/-- A TELEM_ write that is refused (R365). -/
def State.telemReject (s : State) : State := s.setBit Reg.TELEM_STATUS_CFG_REJECT true

/-- Write a configuration; the second component says whether it was accepted. A register written with what it holds is
never refused (R390). -/
def State.writeEvt (s : State) (b i : Nat) (c : EvtCfg) : State × Bool :=
  if evtOk b c || decide (s.evtReg b i = c) then (s.setEvt b i c, true) else (s.telemReject, false)

/-- Configurations come into force: words of zero are not listed. -/
def State.loadEvt (s : State) : State :=
  if !s.telem.cfgDue then s
  else
    let l := (List.range 120).filterMap (fun k =>
      let c := s.evtReg (k / 8) (k % 8)
      if c.word = 0 then none else some (k, c))
    { s with telem := { s.telem with cfg := l, cfgDue := false } }

/-! ### Snapshots (R359 to R361) -/

/-- The sampled values of a block. -/
def State.snapBlock (s : State) (b : Nat) : SnapBlock :=
  { cycles := s.telem.cycles.get 0 b
    ovf := s.rd Reg.TELEM_BLK_OVF_OVF b
    cfg := (List.range 8).map (fun i => match s.telem.cfg.find (8 * b + i) with
      | some c => c.word
      | none => 0)
    counts := (List.range 8).map (fun i => s.telem.counts.get 0 (8 * b + i)) }

/-- Lines of a window that ends, by link: read and write count (R358). -/
def State.windowLines (s : State) (l : Nat) : Nat × Nat :=
  (min (s.telem.bwRead.get 0 l) 0xFFFFFFFF, min (s.telem.bwWrite.get 0 l) 0xFFFFFFFF)

/-- The bandwidth window that a snapshot holds: first stroke, K and counts; one that ends at this boundary has just ended
(R359). -/
def State.windowShown (s : State) : Nat × Nat × List (Nat × Nat) :=
  let held := (s.telem.bwHeld, s.telem.bwHeldK.getD s.telem.bwK,
    (List.range 8).map (fun l => (s.rd Reg.TELEM_BW_READ_LINES l, s.rd Reg.TELEM_BW_WRITE_LINES l)))
  match s.telem.bwStart with
  | some b => if b + 2 ^ s.telem.bwK ≤ s.stroke then (b, s.telem.bwK, (List.range 8).map s.windowLines) else held
  | none => held

/-- A snapshot of now under the next SEQ. -/
def State.sample (s : State) : Snap :=
  { seq := s.telem.seq + 1
    stroke := s.stroke
    frozen := s.bit Reg.TELEM_STATUS_FROZEN
    drop := false
    k := s.windowShown.2.1
    shelf := s.rd Reg.SHELF_STATUS_POS + (if s.bit Reg.SHELF_STATUS_MANAGER then 32 else 0)
    window := s.windowShown.1
    bw := s.windowShown.2.2
    blocks := (List.range 15).map s.snapBlock }

/-- Snapshots are taken after the HBM fill and not from capo step 1 until a warm resumption (R359). -/
def State.mayTakeSnap (s : State) : Bool := s.bit Reg.ERR_HBM_FILL_DONE && !s.bit Reg.MERGE_STATUS_CAPO

/-- Take a snapshot, or drop it when both buffers await writing (R359). (DEDUCED, log entry 72). -/
def State.takeSnap (s : State) : State :=
  if !s.mayTakeSnap then s
  else if s.telem.shadow.length < 2 then
    { s with telem := { s.telem with shadow := s.telem.shadow ++ [s.sample], seq := s.telem.seq + 1 } }
  else
    ({ s with telem := { s.telem with seq := s.telem.seq + 1, dropped := true } } |>.bump Reg.TELEM_SNAP_DROP_CNT).setBit
      Reg.TELEM_STATUS_SNAP_DROP true

/-- TELEM_STATUS as a word (Table 16-6). -/
def State.telemStatus (s : State) : Nat :=
  s.rd Reg.TELEM_STATUS_CFG_REJECT + 2 * s.rd Reg.TELEM_STATUS_FROZEN + 4 * s.rd Reg.TELEM_STATUS_SNAP_DROP

/-- Output of TELEMETRY CONTROL: head and status (R364). -/
def State.telemOut (s : State) : List Nat := leBytes 8 s.telem.head ++ leBytes 4 s.telemStatus

/-- The TELEMETRY SNAPSHOT commands that wait are answered: the SEQ assigned, and whether it was dropped (Table 16-5). -/
def State.snapReplies (s : State) (before : Telem) : State :=
  let seq := if before.seq < s.telem.seq then s.telem.seq else 0
  let lost := before.seq < s.telem.seq && s.telem.shadow.length == before.shadow.length
  let s' := before.snapWait.foldl (fun s p =>
    s.reply p .success 0 (s.telemOut ++ leBytes 8 seq ++ [if lost then 1 else 0])) s
  { s' with telem := { s'.telem with snapWait := [] } }

/-- Programmable counters, OVF bits and bandwidth counts are cleared (R357). -/
def State.telemClear (s : State) : State :=
  let s := (List.range 15).foldl (fun s b => s.wr Reg.TELEM_BLK_OVF_OVF 0 b) s
  { s with telem := { s.telem with counts := [], bwRead := [], bwWrite := [] } }

/-- The telemetry side of a stroke boundary, in the order of R359: a snapshot takes the values from before the changes of
configuration, the clear and the freeze that fall on the same boundary. -/
def State.telemBoundary (s : State) : State :=
  let period := s.rd Reg.TELEM_SNAP_CFG_PERIOD
  let due := s.stroke % 1024 == 0 && period != 0 && s.stroke / 1024 % period == 0
  let before := s.telem
  let s := if due || s.telem.snapAsked then s.takeSnap else s
  let s := ({ s with telem := { s.telem with snapAsked := false } }).snapReplies before
  let s := s.loadEvt
  let s := if s.clears.contains .telem then s.telemClear else s
  let s := { s with clears := s.clears.filter (fun c => c != Clear.telem) }
  s.setBit Reg.TELEM_STATUS_FROZEN (s.bit Reg.TELEM_CTRL_FREEZE)

/-- A block's clock runs (R352). -/
def State.blockClock (s : State) (b : Nat) : Bool :=
  if b < 4 then s.linkUp b 0 || s.linkUp b 1 || s.rd Reg.CACHE_WAY_STATUS_ENABLED b != 0
  else if b < 12 then (List.range 8).any (fun k =>
    s.rd Reg.CHAN_STATUS_DIE_FAILED (8 * (b - 4) + k) != 2 ^ s.dies - 1 || s.dies == 0)
  else true

/-- A stroke of 1,024 CCLK has passed: cycle counters, and level counters of the state events that hold (R352, R354).
(DEDUCED, log entry 69). -/
def State.telemStroke (s : State) : State :=
  let cyc := (List.range 15).foldl (fun t b => if s.blockClock b then t.set 0 b ((t.get 0 b + 1024) % 2 ^ 64) else t) s.telem.cycles
  let s := { s with telem := { s.telem with cycles := cyc } }
  if s.telem.cfg = [] || s.bit Reg.TELEM_STATUS_FROZEN then s
  else s.stateEvents.foldl (fun s e => s.telem.cfg.foldl (fun s c =>
    if c.1 / 8 = e.1 && c.2.takes e.2.1 e.2.2 && c.2.level then s.teleAdd c.1 1024 else s) s) s

/-- A bandwidth window begins at a stroke count that is a multiple of 2^K, when none runs (R358). -/
def State.telemWindow (s : State) : State :=
  if s.telem.bwStart.isNone && s.stroke % 2 ^ s.telem.bwK == 0 then
    { s with telem := { s.telem with bwStart := some s.stroke, bwRead := [], bwWrite := [] } }
  else s

/-- BANDWIDTH_WINDOW_END (R358): the counts of the window move to the registers, and the next window begins. -/
def execBandwidthWindowEnd (s : State) : Host.Outcome State Fault Refusal :=
  done s (
    match s.telem.bwStart with
    | none => s
    | some b =>
      if s.stroke < b + 2 ^ s.telem.bwK then s
      else
        let s := (List.range 8).foldl (fun s l =>
          (s.wr Reg.TELEM_BW_READ_LINES (s.windowLines l).1 l).wr Reg.TELEM_BW_WRITE_LINES (s.windowLines l).2 l) s
        let s := s.wr Reg.TELEM_BW_WINDOW_LO_STROKE_LO b
        { s with telem := { s.telem with bwHeld := b, bwHeldK := some s.telem.bwK, bwStart := some s.stroke, bwRead := [], bwWrite := [] } })

/-- SNAPSHOT_RECORD_WRITTEN (R361): the oldest sampled record goes into the ring. -/
def execSnapshotRecordWritten (s : State) : Host.Outcome State Fault Refusal :=
  done s (
    match s.telem.shadow with
    | [] => s
    | r :: l =>
      let r' := { r with drop := s.telem.dropped }
      let s := { s with telem := { s.telem with
        shadow := l, dropped := false, head := r.seq, ring := s.telem.ring.put ((r.seq - 1) % 16384) r' } }
      s.wr Reg.TELEM_SNAP_HEAD_LO_SEQ_LO r.seq)

/-! ### Register writes and reads -/

/-- A write of TELEM_CTRL (Table 16-6). -/
def State.writeTelemCtrl (s : State) (v : Word) : State :=
  let s := s.wr Reg.TELEM_CTRL_FREEZE (v.toNat / 2)
  if v.toNat % 2 = 1 then s.askClear .telem else s

/-- TELEM_CTRL_CLR (R357). -/
def execTelemCtrlClr (v : Word) (s : State) : Host.Outcome State Fault Refusal := done s (s.writeTelemCtrl v)

/-- TELEM_CTRL_FREEZE (R357). -/
def execTelemCtrlFreeze (v : Word) (s : State) : Host.Outcome State Fault Refusal := done s (s.writeTelemCtrl v)

/-- TELEM_SNAP_NOW (R359). -/
def execTelemSnapNow (v : Word) (s : State) : Host.Outcome State Fault Refusal :=
  done s (if v.toNat % 2 = 1 then { s with telem := { s.telem with snapAsked := true } } else s)

/-- TELEM_EVT_CFG_WRITE (R353). -/
def execTelemEvtCfgWrite (block counter : Nat) (v : Word) (s : State) : Host.Outcome State Fault Refusal :=
  done s (if block < 15 && counter < 8 then (s.writeEvt block counter (evtOf v.toNat)).1 else s)

/-- A change of K: the window in progress is discarded (R358). -/
def State.setK (s : State) (k : Nat) : State :=
  if k = s.rd Reg.TELEM_BW_CFG_K then s
  else
    let s := s.wr Reg.TELEM_BW_CFG_K k
    { s with telem := { s.telem with bwK := k, bwStart := none, bwRead := [], bwWrite := [] } }

/-- TELEM_BW_CFG_WRITE (R358, R365). -/
def execTelemBwCfgWrite (v : Word) (s : State) : Host.Outcome State Fault Refusal :=
  done s (
    let k := v.toNat % 32
    if 4 ≤ k && k ≤ 20 then s.setK k else s.telemReject)

/-- TELEM_CNT_LO_READ (R357): the high half is latched. -/
def execTelemCntLoRead (block counter : Nat) (s : State) : Host.Outcome State Fault Refusal :=
  done s (
    let v := s.telem.counts.get 0 (8 * block + counter)
    (s.wr Reg.TELEM_CNT_HI_COUNT_HI (v / 2 ^ 32) block counter).emit
      (.readValue (Reg.TELEM_CNT_LO_COUNT_LO.offset block counter) (v % 2 ^ 32)))

/-- TELEM_CYC_LO_READ (R357). -/
def execTelemCycLoRead (block : Nat) (s : State) : Host.Outcome State Fault Refusal :=
  done s (
    let v := s.telem.cycles.get 0 block
    (s.wr Reg.TELEM_CYC_HI_CYC_HI (v / 2 ^ 32) block).emit
      (.readValue (Reg.TELEM_CYC_LO_CYC_LO.offset block 0) (v % 2 ^ 32)))

/-- TELEM_SNAP_HEAD_LO_READ (R365). -/
def execTelemSnapHeadLoRead (s : State) : Host.Outcome State Fault Refusal :=
  done s ((s.wr Reg.TELEM_SNAP_HEAD_HI_SEQ_HI (s.telem.head / 2 ^ 32)).emit
    (.readValue Reg.TELEM_SNAP_HEAD_LO_SEQ_LO.off (s.telem.head % 2 ^ 32)))

/-- TELEM_BW_WINDOW_LO_READ (R365). -/
def execTelemBwWindowLoRead (s : State) : Host.Outcome State Fault Refusal :=
  done s ((s.wr Reg.TELEM_BW_WINDOW_HI_STROKE_HI (s.telem.bwHeld / 2 ^ 32)).emit
    (.readValue Reg.TELEM_BW_WINDOW_LO_STROKE_LO.off (s.telem.bwHeld % 2 ^ 32)))

/-! ### The telemetry window (R360 to R362) -/

/-- Bytes of a block section (Table 16-4). -/
def SnapBlock.bytes (x : SnapBlock) (b : Nat) : List Nat :=
  leBytes 8 x.cycles ++ [x.ovf, b] ++ leBytes 6 0 ++ x.cfg.flatMap (leBytes 4)
    ++ x.counts.flatMap (leBytes 8) ++ leBytes 16 0

/-- Bytes of a record (Table 16-3). An invalid record has SEQ and SEQ_END zero (R362). -/
def Snap.bytes (r : Snap) : List Nat :=
  let seq := if r.invalid then 0 else r.seq
  leBytes 8 seq ++ leBytes 8 r.stroke ++ leBytes 4 4096
    ++ [1, (if r.invalid then 1 else 0) + (if r.frozen then 2 else 0) + (if r.drop then 4 else 0), r.k, r.shelf]
    ++ leBytes 8 r.window ++ leBytes 8 Config.serial.toNat ++ leBytes 24 0
    ++ r.bw.flatMap (fun e => leBytes 4 e.1 ++ leBytes 4 e.2)
    ++ (r.blocks.zipIdx).flatMap (fun e => e.1.bytes e.2)
    ++ leBytes 2040 0 ++ leBytes 8 seq

/-- Bytes of a part of the window. -/
def State.windowBytes (s : State) (offset size : Nat) : List Nat :=
  match s.telem.ring.find (offset / 4096) with
  | some r => (r.bytes.drop (offset % 4096)).take size
  | none => List.replicate size 0

/-- TELEM_WINDOW_READ (R361, R362): 4 to 64 B aligned to their size; a class F mismatch reads as zero and invalidates the
record. (DEDUCED, log entry 73). -/
def execTelemWindowRead (offset size : Nat) (hbm : HbmErr) (s : State) : Host.Outcome State Fault Refusal :=
  done s (
    if !([4, 8, 16, 32, 64].contains size && offset % size == 0 && decide (offset < 0x4000000)) then s
    else if classFBad hbm then
      let k := offset / 4096
      let s := s.correctedVol regionStaging k
      let s := match s.telem.ring.find k with
        | some r => { s with telem := { s.telem with ring := s.telem.ring.put k { r with invalid := true } } }
        | none => s
      s.emit (.windowData (List.replicate size 0))
    else s.emit (.windowData (s.windowBytes offset size)))

/-! ### TELEMETRY CONTROL (R364) -/

/-- Complete a subfunction. -/
def State.telemReply (s : State) (p : CmdPath) (ok : Bool) : State :=
  if ok then s.reply p .success 0 s.telemOut else s.reply p .invalidInput

/-- TELEMETRY_STATUS. -/
def execTelemetryStatus (p : CmdPath) (s : State) : Host.Outcome State Fault Refusal :=
  done s (s.command p (.telemetryStatus p) .admin false (fun s => s.telemReply p true))

/-- TELEMETRY_PERIOD. -/
def execTelemetryPeriod (p : CmdPath) (value : Nat) (s : State) : Host.Outcome State Fault Refusal :=
  done s (s.command p (.telemetryPeriod p value) .admin false (fun s =>
    if value < 65536 then (s.wr Reg.TELEM_SNAP_CFG_PERIOD value).telemReply p true else s.telemReply p false))

/-- TELEMETRY_SNAPSHOT: answered at the stroke boundary that takes the snapshot. -/
def execTelemetrySnapshot (p : CmdPath) (s : State) : Host.Outcome State Fault Refusal :=
  done s (s.command p (.telemetrySnapshot p) .admin false (fun s =>
    { s with telem := { s.telem with snapAsked := true, snapWait := s.telem.snapWait ++ [p] } }))

/-- TELEMETRY_CLEAR. -/
def execTelemetryClear (p : CmdPath) (s : State) : Host.Outcome State Fault Refusal :=
  done s (s.command p (.telemetryClear p) .admin false (fun s => (s.askClear .telem).telemReply p true))

/-- TELEMETRY_FREEZE. -/
def execTelemetryFreeze (p : CmdPath) (value : Nat) (s : State) : Host.Outcome State Fault Refusal :=
  done s (s.command p (.telemetryFreeze p value) .admin false (fun s =>
    if value < 2 then (s.wr Reg.TELEM_CTRL_FREEZE value).telemReply p true else s.telemReply p false))

/-- TELEMETRY_WINDOW. -/
def execTelemetryWindow (p : CmdPath) (value : Nat) (s : State) : Host.Outcome State Fault Refusal :=
  done s (s.command p (.telemetryWindow p value) .admin false (fun s =>
    if 4 ≤ value && value ≤ 20 then (s.setK value).telemReply p true else s.telemReply p false))

/-- TELEMETRY_SELECT: a refusal under R353 returns Invalid Input and sets CFG_REJECT; a block out of range changes
nothing. -/
def execTelemetrySelect (p : CmdPath) (value : Word) (s : State) : Host.Outcome State Fault Refusal :=
  done s (s.command p (.telemetrySelect p value) .admin false (fun s =>
    let v := value.toNat
    let b := v / 65536 % 16
    if b = 15 then s.telemReply p false
    else
      let (t, ok) := s.writeEvt b (v / 8192 % 8) (evtOf (v % 8192))
      t.telemReply p ok))

end Sys2Proof.Machine
end

