-- ==== Sys2Proof/Machine/StrokeFamily.lean ====
section
/-! DEFINITION. STROKE_BOUNDARY (R23) and SYNC_EPOCH_BOUNDARY (R24), with every effect that the manual ties to a stroke
boundary or to a sync epoch boundary. -/

namespace Sys2Proof.Machine

/-! ### Counters cleared at the boundary (Tables 2-10 to 17-5) -/

/-- First and last counter register that a CNT_CLR write clears; none for TELEM_, which clears with its snapshot. -/
def Clear.span : Clear → Option (Nat × Nat)
  | .sched => some (0x300020, 0x300034)
  | .port p => some (0x100024 + 0x10000 * p, 0x10002C + 0x10000 * p)
  | .sess => some (0x200008, 0x200014)
  | .sessQ => some (0x20004C, 0x200054)
  | .chan c => some (0x400014 + 0x1000 * c, 0x40002C + 0x1000 * c)
  | .xlat => some (0x500050, 0x500068)
  | .merge => some (0x600040, 0x60005C)
  | .slice k => some (0x700008 + 0x1000 * k, 0x700018 + 0x1000 * k)
  | .rc => some (0x708004, 0x708014)
  | .dir => some (0x780020, 0x78003C)
  | .err => some (0x900018, 0x900018)
  | .prot => some (0x800014, 0x800024)
  | .pwr => some (0xA00018, 0xA00024)
  | .keep => some (0xB00010, 0xB00018)
  | .chron => some (0xB0100C, 0xB01018)
  | .shelf => some (0xC00040, 0xC00054)
  | .telem => none

/-- Registers of some offsets return to their reset values. -/
def State.clearSpan (s : State) (lo hi : Nat) : State :=
  { s with regs := s.regs.keep (fun k _ => !(decide (32 * lo ≤ k) && decide (k < 32 * (hi + 4)))) }

/-- One clear. ERR_CNT_CLR names four registers that are not neighbours (Table 9-9). -/
def State.clearOne (s : State) (c : Clear) : State :=
  let s := match c.span with
    | some (lo, hi) => s.clearSpan lo hi
    | none => s
  if c = .err then ((s.clearSpan 0x90001C 0x90001C).clearSpan 0x90003C 0x90003C).clearSpan 0x900040 0x900040 else s

/-- Every clear that waits, but that of the telemetry counters. -/
def State.clearDue (s : State) : State :=
  let s := (s.clears.filter (fun c => c != Clear.telem)).foldl State.clearOne s
  { s with clears := s.clears.filter (fun c => c == Clear.telem) }

/-! ### Counts of time -/

/-- A stroke with rail 2 good has passed: operating time in units of 36 s (R289), and the age epoch's time (R99).
(DESIGN CHOICE, log entry 15). -/
def State.countTime (s : State) : State :=
  let n := s.keep.timeStrokes + 1
  let keep : Keep := if n < 56250000 then { s.keep with timeStrokes := n }
    else { s.keep with timeStrokes := 0, optime := { s.keep.optime with pending := s.keep.optime.pending + 1 } }
  let s := { s with keep := keep }
  if s.ready then { s with err := { s.err with ageStrokes := s.err.ageStrokes + 1 } } else s

/-! ### Layout changes (R39, R166) -/

/-- A read placed in the stroke that begins or later is withdrawn and held (R39). -/
def withdrawn (now : Nat) (j : Job) : Job :=
  if j.stroke < now then j
  else match j.phase with
    | .placed => { j with phase := .wait }
    | .retry => { j with phase := .retryWait }
    | .group => { j with phase := .groupWait }
    | .recon => { j with phase := .reconWait }
    | _ => j

/-- The capo layout takes effect. -/
def State.capoLayout (s : State) : State :=
  let s := s.wr Reg.SCHED_STATUS_LAYOUT 1
  let s := (s.wr Reg.SCHED_CAPO_STROKE_LO_COUNT_LO s.stroke).wr Reg.SCHED_CAPO_STROKE_HI_COUNT_HI (s.stroke / 2 ^ 32)
  let jobs := s.sched.jobs.mapVals (fun _ j => withdrawn s.stroke j)
  { s with sched := { s.sched with capoAsk := 0, jobs := jobs } }

/-- The layout in force before capo returns: held reads count from this stroke (R39). (DEDUCED, log entry 140). -/
def State.layoutBack (s : State) (l : Nat) : State :=
  let s := s.wr Reg.SCHED_STATUS_LAYOUT l
  let held (j : Job) : Bool := j.phase == .wait || j.phase == .groupWait
  let job (j : Job) : Job := if held j then { j with due := s.stroke + 1 } else j
  let waits (rid : Nat) : Bool := s.sched.jobs.any (fun e => held e.2 && e.2.why == .host rid)
  let req (k : Nat) (r : Req) : Req := if waits k then { r with born := s.timeAt 0, unbounded := r.unbounded || l == 2 } else r
  { s with sched := { s.sched with back := none, jobs := s.sched.jobs.mapVals (fun _ j => job j), since := s.timeAt 0 }
           reqs := s.reqs.mapVals (fun k r => req k r) }

/-- Layout at the boundary. -/
def State.layoutBoundary (s : State) : State :=
  let s := s.leaveAt 0
  let s := if s.sched.capoAsk = 2 then s.capoLayout else s
  match s.sched.back with
  | some l => s.layoutBack l
  | none => s

/-! ### Dies declared failed (R103 to R105) -/

/-- A block has a reset block on a die. -/
def onDie (c d sbn : Nat) : Bool := sbnCourse sbn == c / 8 && sbnDie sbn == d

/-- The blocks of a die that hold data join the evacuation queue, in order of bank and reset block. -/
def State.queueEvac (s : State) (c d : Nat) : State :=
  let l := (s.xlat.blocks.filter (fun e =>
    (e.2.pool == .home || e.2.pool == .hot || e.2.pool == .cold) && onDie c d e.1 && !s.xlat.evac.contains e.1)).map (·.1)
  let first := s.xlat.evac == [] && l != []
  let s := ({ s with xlat := { s.xlat with evac := s.xlat.evac ++ l.foldl putEvac [] } }).evacCounts
  if first then s.chronicle 0x0103 0x49 0 (0 :: leBytes 4 s.xlat.evac.length) else s

/-- The declaration of one die takes effect. -/
def State.dieGoes (s : State) (c d : Nat) : State :=
  let s := s.wr Reg.CHAN_STATUS_DIE_FAILED (Nat.lor (s.rd Reg.CHAN_STATUS_DIE_FAILED c) (2 ^ d)) c
  let k := 4 * c + d
  let s := s.wr Reg.CHAN_G_FAILED_DIES (Nat.lor (s.rd Reg.CHAN_G_FAILED_DIES 0 (k / 32)) (2 ^ (k % 32))) 0 (k / 32)
  let mine (b : Nat) : Bool := b / 64 == c && b / 16 % 4 == d
  let s := s.regroup s.stroke (fun mp => mpChan mp == c && sbnDie (mpSbn mp) == d)
  let s := s.abandonAll mine (fun mp => onDie c d (mpSbn mp)) (fun _ => false)
  let s := { s with ops := s.ops.keep (fun b _ => !mine b)
                    deltas := s.deltas.filter (fun x => !(mpChan x.mp == c && sbnDie (mpSbn x.mp) == d)) }
  let opened := (s.xlat.opens.filter (fun e => onDie c d e.2.sbn)).map (fun e => e.2.sbn)
  let s := opened.foldl (fun s b => s.seal b) s
  (s.queueEvac c d).poolCounts

/-- Every declaration that waits takes effect. -/
def State.diesGo (s : State) : State :=
  (s.chans.filter (fun e => e.2.doomed != [])).foldl (fun s e =>
    let s := s.setChan e.1 { s.chan e.1 with doomed := [] }
    e.2.doomed.foldl (fun s d => s.dieGoes e.1 d) s) s

/-! ### Programs (R28, R96, R130) -/

/-- Banks that a read placed in a stroke reads. -/
def jobBanks (j : Job) : List Nat :=
  match j.phase with
  | .placed => [mpBank j.mp]
  | .retry => [mpBank j.mp]
  | .group => (mpOthers j.mp).map mpBank
  | .recon => (mpOthers j.mp).map mpBank
  | _ => []

/-- Bank address of a key. -/
def State.emitBank (s : State) (b : Nat) (c : FipenCmd) : State := s.emit (.fipen (b / 64) (b / 16 % 4) (b % 16) c)

/-- Reserved banks whose stroke has come start their toggle. -/
def State.startToggles (s : State) : State :=
  (s.ops.filter (fun e => e.2.kind == .reserved && e.2.delta.isSome && decide (e.2.stroke ≤ s.stroke))).foldl (fun s e =>
    ({ s with ops := s.ops.put e.1 { e.2 with kind := .toggle } }).emitBank e.1 .toggle) s

/-- A suspended operation resumes at the boundary in a bank without reads in the new stroke; a retraining channel keeps its
own suspended. (DESIGN CHOICE, log entry 21). -/
def State.resumeOps (s : State) : State :=
  let reads := (s.sched.jobs.filter (fun e => e.2.stroke == s.stroke)).flatMap (fun e => jobBanks e.2)
  (s.ops.filter (fun e => e.2.suspended && !reads.contains e.1 && !s.bit Reg.CHAN_STATUS_RETRAIN (e.1 / 64))).foldl (fun s e =>
    ({ s with ops := s.ops.put e.1 { e.2 with suspended := false } }).emitBank e.1 .resume) s

/-- Stripes that have committed: PTR advances (R130). -/
def State.advanceMoves (s : State) : State := s.xlat.moves.foldl (fun s m => s.advanceMove m) s

/-! ### Pool state (R126, Table 6-8) -/

/-- State whose condition a free-pool count meets. -/
def poolOf (n : Nat) : Nat := if n = 0 then 3 else if n < 2048 then 2 else if n < 8192 then 1 else 0

/-- Best state whose entry level plus 512 a count reaches; 3: none. -/
def betterPool (n : Nat) : Nat := if 8704 ≤ n then 0 else if 2560 ≤ n then 1 else if 513 ≤ n then 2 else 3

/-- A change of pool state, with its record. -/
def State.setPool (s : State) (p : Nat) : State :=
  if s.pool = p then s
  else
    let worse := decide (s.pool < p)
    let s := s.wr Reg.XLAT_POOL_STATUS_STATE p
    let s := s.chronicle 0x0200 0x49 (if p = 0 then 0 else if p = 1 then 1 else 2) (p :: leBytes 4 s.freeCount)
    let s := if worse then s.health Reg.ERR_HEALTH_EVENT_POOL else s
    if 2 ≤ p then s.setBit Reg.SCHED_STATUS_POOL_EXCL true else s

/-- The pool state at a boundary: worse at once, better after a whole sync epoch. -/
def State.poolBoundary (s : State) : State :=
  if !s.start.step6 then s
  else
    let n := s.freeCount
    let best := max s.xlat.better (betterPool n)
    let close := s.stroke % 1024 == 0
    let dest := if s.pool < poolOf n then poolOf n
      else if close && s.xlat.whole && decide (best < s.pool) then best else s.pool
    let x : Xlat := if close then { s.xlat with better := betterPool n, whole := true } else { s.xlat with better := best }
    ({ s with xlat := x }).poolCounts.setPool dest

/-! ### Sessions (R51, R55, R58, R61, R62, R73) -/

/-- Allowances begin anew; an accepted MODIFY takes effect. -/
def State.newAllowances (s : State) (n : Nat) : State :=
  s.setSess n { (s.sess n).modified with rdUsed := 0, wrUsed := 0, stalled := false }

/-- Lines on which the host directory names a session, directly or under OVERFLOW. -/
def State.fenceLines (s : State) (n : Nat) : List Nat :=
  (s.cache.host.filter (fun e => e.2.ptrs.contains n
    || (e.2.overflow && (s.broadcastTo e.1 (s.sess (e.2.ptrs.headD 0)).coh).contains n))).map (·.1)

/-- Steps 1 to 3 of a fence: withdrawn, read-lane requests of the old key answered, its writes pass without charge. -/
def State.withdraw (s : State) (n : Nat) : State :=
  let e := s.sess n
  let gone := e.rd.all.filter e.ofKey
  let s := gone.foldl (fun s d =>
    (s.bump Reg.SESS_ABORT_CNT).respond d.port d.link d.orphaned (orphanAnswer d.op d.port d.link d.ld d.tag (s.devLoad n))) s
  let s := s.retainLane n .read (fun d => !e.ofKey d)
  let s := s.endHold n
  let e := s.sess n
  let mark (d : Desc) : Desc := if e.ofKey d then { d with fenced := true } else d
  let q := e.wr
  let wr : LaneQ := { q with head := q.head.map mark, spill := q.spill.map mark, tail := q.tail.map mark, excess := q.excess.map mark }
  s.setSess n { e with withdrawn := true, fenceDue := false, wr := wr, fenceSnoops := s.fenceLines n }

/-- Step 5 of a fence: lines that still name the session are back-invalidated; a line that is being snooped waits. -/
def State.fenceSnoop (s : State) (n line : Nat) : State :=
  if s.snooping line then s
  else if (s.fenceLines n).contains line then s.startSnoop line 0 (.fence n) [n] false
  else
    let e := s.sess n
    s.setSess n { e with fenceSnoops := e.fenceSnoops.filter (fun l => l != line) }

/-- A fence at a boundary. -/
def State.fenceBoundary (s : State) (n : Nat) : State :=
  let s := if (s.sess n).fenceDue then s.withdraw n else s
  if (s.sess n).withdrawn then (s.sess n).fenceSnoops.foldl (fun s l => s.fenceSnoop n l) s else s

/-- Descriptors of a session in the spill area. -/
def Session.spilled (e : Session) : Nat := e.rd.spill.length + e.wr.spill.length

/-- A hold ends (R73). -/
def State.holdBoundary (s : State) (n : Nat) : State :=
  let e := s.sess n
  let free := 0 < s.rd Reg.SESS_SPILL_STATUS_SHARED_FREE || e.cause != .pool
  if e.held && e.rd.excess == [] && e.wr.excess == [] && decide (e.spilled ≤ s.share * 512) && free then s.endHold n else s

/-- DevLoad of the stroke that begins (R58). -/
def Session.loadNow (e : Session) : Nat :=
  if e.held || decide (32 * e.tSev ≤ e.occ) then 3 else if 32 * e.tMod ≤ e.occ then 2 else if 32 * e.tOpt ≤ e.occ then 1 else 0

/-- Occupancy is sampled, and DevLoad follows from it (R58, R76). -/
def State.devLoadBoundary (s : State) (n : Nat) : State :=
  let e := s.sess n
  s.setSess n { e with devLoad := e.loadNow, rdOcc := e.rd.occ, wrOcc := e.wr.occ }

/-- A release of dynamic capacity ends once its back-invalidate has: the session stops reaching the blocks (R51).
(DESIGN CHOICE, log entry 29). -/
def State.releaseEnd (s : State) (n : Nat) : State :=
  let e := s.sess n
  if e.releasing = [] then s
  else
    let us := blocksOf e.releasing
    let open_ := s.cache.snoops.any (fun x => x.why == .release n)
    let left := s.cache.host.any (fun h => us.contains (h.1 / blockLines) && h.2.ptrs.contains n)
    if open_ then s
    else if left then s.releaseSnoops n us
    else (s.setSess n { e with releasing := [] }).sanitizeBlocks e.releasing

/-- Every session at a boundary. -/
def State.sessionsBoundary (s : State) : State :=
  let s := { s with share := s.rd Reg.SESS_SPILL_CFG_SHARE }
  let l := (s.sessions.filter (fun e => e.2.state != .free)).map (·.1)
  let s := l.foldl (fun s n => s.newAllowances n) s
  let s := l.foldl (fun s n => s.fenceBoundary n) s
  let s := l.foldl (fun s n => s.holdBoundary n) s
  let s := l.foldl (fun s n => s.releaseEnd n) s
  l.foldl (fun s n => s.devLoadBoundary n) s

/-! ### Reads held by a mismatched settling copy (R155) -/

/-- One such read: the copy has become releasable, or has gone. -/
def State.settleHeld (s : State) (rid : Nat) (r : Req) : State :=
  match s.entry r.line with
  | none => (s.setReq rid { r with stage := .lookup, looked := true }).takeResult rid
  | some e =>
    if s.releasable e then ((s.dropEntry r.line).mergeCounts.setReq rid { r with stage := .lookup, looked := true }).takeResult rid
    else if e.state = .settling then s
    else s.setReq rid { r with stage := .lookup, looked := false }

/-- Every such read. -/
def State.settleBoundary (s : State) : State :=
  (s.reqs.filter (fun e => e.2.stage == .settle)).foldl (fun s e => s.settleHeld e.1 e.2) s

/-! ### STROKE_BOUNDARY -/

/-- A stroke in which the dirty budget was reached counts (R157). -/
def State.stallCount (s : State) : State := if s.limitHit then s.bump Reg.MERGE_STALL_CNT else s

/-- A TOP_ message that an unmasking owes (R374). -/
def State.owedMessage (s : State) : State :=
  if !s.intOwed then s
  else
    let out := if s.bit Reg.TOP_INT_CFG_EN then s.out ++ s.msixAll 3 else s.out
    { s with intOwed := false, out := out }

/-- Caches at a boundary (R172, R176). -/
def State.cachesBoundary (s : State) : State :=
  let s := [0, 1, 2, 3].foldl (fun s i => s.waysBoundary i) s
  { s with cache := { s.cache with rcOn := s.bit Reg.CACHE_RC_CFG_EN } }

/-- The core domain at a boundary. (DESIGN CHOICE, log entry 14). -/
def State.coreBoundary (s : State) : State :=
  let s := (s.countTime.telemWindow).layoutBoundary.diesGo
  let s := s.startToggles.resumeOps.advanceMoves
  let s := s.internalBoundary.cachesBoundary.poolBoundary
  let s := s.sessionsBoundary.settleBoundary.healthUpdate.boundUpdate
  (if s.epochDue then s else s.telemBoundary).owedMessage

/-- STROKE_BOUNDARY (R23): the count advances by 1, and what waits for a stroke boundary takes effect. -/
def execStrokeBoundary (s : State) : Host.Outcome State Fault Refusal :=
  done s (
    if !s.pwr.aux then s
    else
      let on := s.railGood 2
      let s := if on then s.stallCount.telemStroke else s
      let n := s.stroke + 1
      let s := ({ s with stroke := n, epochDue := n % 1024 == 0 }).clearDue.shelfPointTick
      if on then s.coreBoundary else s)

/-! ### SYNC_EPOCH_BOUNDARY -/

/-- READ STATUS is polled on every channel that is up; the counts of an epoch begin anew (R91, R93, Table 5-11).
(DEDUCED, log entry 48). -/
def State.chansEpoch (s : State) : State :=
  (List.range 64).foldl (fun s c =>
    if s.rd Reg.CHAN_STATUS_STATE c = 2 then
      s.setChan c { s.chan c with wantStatus := true, linkErrs := 0, recons := [0, 0, 0, 0], verifyFails := [0, 0, 0, 0] }
    else s) s

/-- The leaky buckets leak (R201). -/
def State.leak (s : State) : State :=
  (List.range 16).foldl (fun s b =>
    s.wr Reg.ERR_BUCKET_STATUS_LEVEL (s.rd Reg.ERR_BUCKET_STATUS_LEVEL b - s.rd Reg.ERR_BUCKET_CFG_LEAK b) b) s

/-- LW_EPOCH values 496 or more units behind become exactly 496 behind (R113). -/
def State.lwSweep (s : State) : State :=
  let lw (v : Nat) : Nat := if 496 ≤ (s.lwNow + 1024 - v % 1024) % 1024 then (s.lwNow + 1024 - 496) % 1024 else v
  let tracts := s.xlat.tracts.foldl (fun (t : Tab Tract) e => t.set {} e.1 { e.2 with lw := lw e.2.lw }) []
  { s with xlat := { s.xlat with tracts := tracts } }

/-- TIME values more than 8,192 units behind become exactly 8,192 behind (R144). -/
def State.timeSweep (s : State) : State :=
  let time (v : Nat) : Nat := if 8192 < s.unitsOld v then (s.timeNow + 16384 - 8192) % 16384 else v
  let entries := s.merge.entries.mapVals (fun _ (e : Entry) => { e with time := time e.time })
  { s with merge := { s.merge with entries := entries } }

/-- Landing cells that queued descriptors name. -/
def State.cellsNamed (s : State) : List Nat :=
  s.sessions.flatMap (fun e => ((e.2.wr.all.filter (fun d => d.op != .biConflict)).map (fun d => d.cell)))

/-- Landing cells that no queued descriptor names are freed (R69). -/
def State.cellSweep (s : State) : State :=
  let named := s.cellsNamed
  { s with merge := { s.merge with cells := s.merge.cells.keep (fun k _ => named.contains k) } }

/-- Lines of a stripe block: WEAR by them is its mean line wear (Table 6-7). -/
def sbLines : Nat := 133120

/-- Sum of the WEAR of the free pool. -/
def State.freeWear (s : State) : Nat := ((s.xlat.blocks.filter (fun e => s.isFree e.1)).map (fun e => e.2.wear)).sum

/-- A home block exceeds the free pool's mean by more than the gap. -/
def State.wornOut (s : State) (k : Block) : Bool :=
  let n := s.freeCount
  n != 0 && decide (s.freeWear + s.rd Reg.XLAT_WEAR_CFG_WEAR_GAP * 1024 * sbLines * n < k.wear * n)

/-- Put a tract behind those whose home is worn no less. -/
def State.putWorn (s : State) (l : List Nat) (t : Nat) : List Nat :=
  let wear (t : Nat) : Nat := (s.block (s.tract t).sb).wear
  l.filter (fun u => decide (wear t ≤ wear u)) ++ t :: l.filter (fun u => decide (wear u < wear t))

/-- Wear relocation (R131): tracts are marked, and start in order of excess. (DEDUCED, log entry 59). -/
def State.wearCheck (s : State) : State :=
  let l := s.xlat.tracts.filter (fun e => e.2.state == .settled && (s.wornOut (s.block e.2.sb) || (s.block e.2.sb).failedRb != 0))
  let s := (l.map (·.1)).foldl (fun s t => s.queueMove t) s
  { s with xlat := { s.xlat with moveQ := s.xlat.moveQ.foldl (fun a t => s.putWorn a t) [] } }

/-- The core domain at a sync epoch boundary. -/
def State.coreEpoch (s : State) : State :=
  let s := s.chansEpoch.leak.lwSweep.timeSweep
  let s := s.cellSweep.wearCheck
  let s := { s with events := { s.events with orphanSeen := [], paritySeen := [] }
                    xlat := { s.xlat with heatEpochs := s.xlat.heatEpochs + 1 } }
  s.reassertHealth.telemBoundary

/-- SYNC_EPOCH_BOUNDARY (R24): the sweeps and checks of a stroke that is a multiple of 1,024.
(DESIGN CHOICE, log entry 13). -/
def execSyncEpochBoundary (s : State) : Host.Outcome State Fault Refusal :=
  done s (
    if !s.epochDue then s
    else
      let s := { s with epochDue := false }
      let s := if s.railGood 2 then s.coreEpoch else s
      s.shelfEpoch)

end Sys2Proof.Machine
end

