-- ==== Sys2Proof/Machine/Dispatch.lean ====
section
/-! DEFINITION. The meaning of each command: one arm per constructor of `Instr`, in the order of `Instr`. -/

namespace Sys2Proof.Machine

/-- The effect of a command on everything but the queue. -/
def exec (i : Instr) (s : State) : Host.Outcome State Fault Refusal :=
  match i with
  | .auxApply role posA posB posC pfHigh flash => Sys2Proof.Machine.execAuxApply role posA posB posC pfHigh flash s
  | .auxRemove => Sys2Proof.Machine.execAuxRemove s
  | .pwrfailNQualify samples => Sys2Proof.Machine.execPwrfailNQualify samples s
  | .pwrfailNGlitch samples => Sys2Proof.Machine.execPwrfailNGlitch samples s
  | .pwrfailNHigh100ms testEn => Sys2Proof.Machine.execPwrfailNHigh100ms testEn s
  | .powerUpPackage testEn pmics => Sys2Proof.Machine.execPowerUpPackage testEn pmics s
  | .railTurnOn precheck => Sys2Proof.Machine.execRailTurnOn precheck s
  | .rampPoll poll bootSel => Sys2Proof.Machine.execRampPoll poll bootSel s
  | .railRampLimit => Sys2Proof.Machine.execRailRampLimit s
  | .powerUpMedia => Sys2Proof.Machine.execPowerUpMedia s
  | .servicePoll polls => Sys2Proof.Machine.execServicePoll polls s
  | .decayPoll polls => Sys2Proof.Machine.execDecayPoll polls s
  | .decayLimitExpiry flashAnswers => Sys2Proof.Machine.execDecayLimitExpiry flashAnswers s
  | .offHoldExpiry testEn => Sys2Proof.Machine.execOffHoldExpiry testEn s
  | .thermtrip tempC => Sys2Proof.Machine.execThermtrip tempC s
  | .capoFlushComplete flushUs => Sys2Proof.Machine.execCapoFlushComplete flushUs s
  | .capoSaveComplete pfHigh chronicleRoom => Sys2Proof.Machine.execCapoSaveComplete pfHigh chronicleRoom s
  | .warmResumption => Sys2Proof.Machine.execWarmResumption s
  | .strokeBoundary => Sys2Proof.Machine.execStrokeBoundary s
  | .planLock => Sys2Proof.Machine.execPlanLock s
  | .syncEpochBoundary => Sys2Proof.Machine.execSyncEpochBoundary s
  | .programResume bank => Sys2Proof.Machine.execProgramResume bank s
  | .readReachScheduler rid t class4 => Sys2Proof.Machine.execReadReachScheduler rid t class4 s
  | .schedCntClr v => Sys2Proof.Machine.execSchedCntClr v s
  | .schedStrokeLoRead => Sys2Proof.Machine.execSchedStrokeLoRead s
  | .memRd m => Sys2Proof.Machine.execMemRd m s
  | .memRdData m => Sys2Proof.Machine.execMemRdData m s
  | .memInv m => Sys2Proof.Machine.execMemInv m s
  | .memInvNt m => Sys2Proof.Machine.execMemInvNt m s
  | .memClnEvct m => Sys2Proof.Machine.execMemClnEvct m s
  | .memSpecRd m class4 => Sys2Proof.Machine.execMemSpecRd m class4 s
  | .memWr m data poison => Sys2Proof.Machine.execMemWr m data poison s
  | .memWrPtl m data be poison => Sys2Proof.Machine.execMemWrPtl m data be poison s
  | .biConflict m => Sys2Proof.Machine.execBiConflict m s
  | .biRsp port link sess line answer => Sys2Proof.Machine.execBiRsp port link sess line answer s
  | .ideIntegrityFailure port link => Sys2Proof.Machine.execIdeIntegrityFailure port link s
  | .linkDown port link => Sys2Proof.Machine.execLinkDown port link s
  | .perstNAssert port lowNs => Sys2Proof.Machine.execPerstNAssert port lowNs s
  | .perstNDeassert port => Sys2Proof.Machine.execPerstNDeassert port s
  | .linkUp port link rate width flit => Sys2Proof.Machine.execLinkUp port link rate width flit s
  | .allowanceCheck sess lane parity hbm classF => Sys2Proof.Machine.execAllowanceCheck sess lane parity hbm classF s
  | .sessionCreate p num w => Sys2Proof.Machine.execSessionCreate p num w s
  | .sessionModify p num w => Sys2Proof.Machine.execSessionModify p num w s
  | .sessionFence p num => Sys2Proof.Machine.execSessionFence p num s
  | .sessionGet p num => Sys2Proof.Machine.execSessionGet p num s
  | .fenceDrainEnd sess => Sys2Proof.Machine.execFenceDrainEnd sess s
  | .fenceBiTimeout sess line => Sys2Proof.Machine.execFenceBiTimeout sess line s
  | .spillRefill sess lane hbm => Sys2Proof.Machine.execSpillRefill sess lane hbm s
  | .fipenAlert chan => Sys2Proof.Machine.execFipenAlert chan s
  | .readStatusResponse chan st => Sys2Proof.Machine.execReadStatusResponse chan st s
  | .readStatusNoResponse chan => Sys2Proof.Machine.execReadStatusNoResponse chan s
  | .fipenTrainingStepLimit chan step => Sys2Proof.Machine.execFipenTrainingStepLimit chan step s
  | .fipenTrainingComplete results => Sys2Proof.Machine.execFipenTrainingComplete results s
  | .fastRetrainComplete chan ok => Sys2Proof.Machine.execFastRetrainComplete chan ok s
  | .mediaReadComplete job t err integ class4 => Sys2Proof.Machine.execMediaReadComplete job t err integ class4 s
  | .reconstructionComplete job t err integ => Sys2Proof.Machine.execReconstructionComplete job t err integ s
  | .programComplete bank => Sys2Proof.Machine.execProgramComplete bank s
  | .exchangeOldLineReturn bank err => Sys2Proof.Machine.execExchangeOldLineReturn bank err s
  | .toggleComplete bank => Sys2Proof.Machine.execToggleComplete bank s
  | .ageEpochAdvance => Sys2Proof.Machine.execAgeEpochAdvance s
  | .evacuationBlockDone sbn => Sys2Proof.Machine.execEvacuationBlockDone sbn s
  | .loadTableComplete ok => Sys2Proof.Machine.execLoadTableComplete ok s
  | .chanCntClr chan v => Sys2Proof.Machine.execChanCntClr chan v s
  | .moveStripeCommit tract => Sys2Proof.Machine.execMoveStripeCommit tract s
  | .liftVerify lpn => Sys2Proof.Machine.execLiftVerify lpn s
  | .heatHalving => Sys2Proof.Machine.execHeatHalving s
  | .settleBackWalk bucket => Sys2Proof.Machine.execSettleBackWalk bucket s
  | .settleBackCommit lpn => Sys2Proof.Machine.execSettleBackCommit lpn s
  | .reclaim course => Sys2Proof.Machine.execReclaim course s
  | .reclaimCopyCommit lpn => Sys2Proof.Machine.execReclaimCopyCommit lpn s
  | .preconditionComplete sbn failed => Sys2Proof.Machine.execPreconditionComplete sbn failed s
  | .poolFillTimeout course hot => Sys2Proof.Machine.execPoolFillTimeout course hot s
  | .blockRecordCheckpoint => Sys2Proof.Machine.execBlockRecordCheckpoint s
  | .rebuildStart => Sys2Proof.Machine.execRebuildStart s
  | .rebuildComplete strokes => Sys2Proof.Machine.execRebuildComplete strokes s
  | .xlatMapIdxWrite v => Sys2Proof.Machine.execXlatMapIdxWrite v s
  | .xlatSeqLoRead => Sys2Proof.Machine.execXlatSeqLoRead s
  | .xlatCntClr v => Sys2Proof.Machine.execXlatCntClr v s
  | .mergeComplete line => Sys2Proof.Machine.execMergeComplete line s
  | .fillReturn line err retry recon integ => Sys2Proof.Machine.execFillReturn line err retry recon integ s
  | .mergeCfgWrite v => Sys2Proof.Machine.execMergeCfgWrite v s
  | .persistAt p stroke => Sys2Proof.Machine.execPersistAt p stroke s
  | .persistencePointComplete stroke => Sys2Proof.Machine.execPersistencePointComplete stroke s
  | .gpfPhase1 port => Sys2Proof.Machine.execGpfPhase1 port s
  | .gpfPhase2 port => Sys2Proof.Machine.execGpfPhase2 port s
  | .mergeCntClr v => Sys2Proof.Machine.execMergeCntClr v s
  | .mergePointLoRead => Sys2Proof.Machine.execMergePointLoRead s
  | .sliceFillInstall slice line => Sys2Proof.Machine.execSliceFillInstall slice line s
  | .cacheWayCfgWrite slice v => Sys2Proof.Machine.execCacheWayCfgWrite slice v s
  | .wayGroupCleaningEnd slice group => Sys2Proof.Machine.execWayGroupCleaningEnd slice group s
  | .cacheRcCfgWrite v => Sys2Proof.Machine.execCacheRcCfgWrite v s
  | .readCacheProbeReturn rid hbm => Sys2Proof.Machine.execReadCacheProbeReturn rid hbm s
  | .snoopTimeout sess line => Sys2Proof.Machine.execSnoopTimeout sess line s
  | .backInvalidateWalkEnd => Sys2Proof.Machine.execBackInvalidateWalkEnd s
  | .cacheCntClr slice v => Sys2Proof.Machine.execCacheCntClr slice v s
  | .cacheRcCntClr v => Sys2Proof.Machine.execCacheRcCntClr v s
  | .dirCntClr v => Sys2Proof.Machine.execDirCntClr v s
  | .hbmFillComplete us => Sys2Proof.Machine.execHbmFillComplete us s
  | .patrolVisit errs => Sys2Proof.Machine.execPatrolVisit errs s
  | .patrolPassLate => Sys2Proof.Machine.execPatrolPassLate s
  | .freeBlockReprecondition sbn => Sys2Proof.Machine.execFreeBlockReprecondition sbn s
  | .errPatrolCfgWrite v => Sys2Proof.Machine.execErrPatrolCfgWrite v s
  | .errCntClr v => Sys2Proof.Machine.execErrCntClr v s
  | .errLastUncorrLoRead => Sys2Proof.Machine.execErrLastUncorrLoRead s
  | .scrubRange p start length => Sys2Proof.Machine.execScrubRange p start length s
  | .scrubRangeComplete how reached errs => Sys2Proof.Machine.execScrubRangeComplete how reached errs s
  | .motion p m => Sys2Proof.Machine.execMotion p m s
  | .second p m => Sys2Proof.Machine.execSecond p m s
  | .motionStatus p m => Sys2Proof.Machine.execMotionStatus p m s
  | .motionLapse m => Sys2Proof.Machine.execMotionLapse m s
  | .motionApply => Sys2Proof.Machine.execMotionApply s
  | .rekeyPassEnd => Sys2Proof.Machine.execRekeyPassEnd s
  | .eraseAuthExpiry => Sys2Proof.Machine.execEraseAuthExpiry s
  | .keySlotReunseal range keepGood => Sys2Proof.Machine.execKeySlotReunseal range keepGood s
  | .integrityRootVerifyComplete failed => Sys2Proof.Machine.execIntegrityRootVerifyComplete failed s
  | .ideKeyProg port link dir keySet key => Sys2Proof.Machine.execIdeKeyProg port link dir keySet key s
  | .ideKSetGo port link dir keySet => Sys2Proof.Machine.execIdeKSetGo port link dir keySet s
  | .ideKSetStop port link dir keySet => Sys2Proof.Machine.execIdeKSetStop port link dir keySet s
  | .spdmGetMeasurements port index => Sys2Proof.Machine.execSpdmGetMeasurements port index s
  | .protCntClr v => Sys2Proof.Machine.execProtCntClr v s
  | .imageVerifyComplete active staging => Sys2Proof.Machine.execImageVerifyComplete active staging s
  | .mediaReady => Sys2Proof.Machine.execMediaReady s
  | .wakePatrolEnd => Sys2Proof.Machine.execWakePatrolEnd s
  | .stagingCopyComplete ok => Sys2Proof.Machine.execStagingCopyComplete ok s
  | .warmResetFlushDone => Sys2Proof.Machine.execWarmResetFlushDone s
  | .warmResetComplete => Sys2Proof.Machine.execWarmResetComplete s
  | .keepSlotProgrammed readback => Sys2Proof.Machine.execKeepSlotProgrammed readback s
  | .keepSectorEraseComplete ok => Sys2Proof.Machine.execKeepSectorEraseComplete ok s
  | .spreadCounterIncrement which => Sys2Proof.Machine.execSpreadCounterIncrement which s
  | .chronicleRecordProgrammed readback => Sys2Proof.Machine.execChronicleRecordProgrammed readback s
  | .chronicleSectorEraseComplete ok => Sys2Proof.Machine.execChronicleSectorEraseComplete ok s
  | .chronicleRunClose code source => Sys2Proof.Machine.execChronicleRunClose code source s
  | .keepPageIdxWrite v => Sys2Proof.Machine.execKeepPageIdxWrite v s
  | .keepCntClr v => Sys2Proof.Machine.execKeepCntClr v s
  | .chronCntClr v => Sys2Proof.Machine.execChronCntClr v s
  | .pwrCntClr v => Sys2Proof.Machine.execPwrCntClr v s
  | .beacon b => Sys2Proof.Machine.execBeacon b s
  | .statusFrame f => Sys2Proof.Machine.execStatusFrame f s
  | .contactLoss => Sys2Proof.Machine.execContactLoss s
  | .memberDropout pos => Sys2Proof.Machine.execMemberDropout pos s
  | .managerListenEnd => Sys2Proof.Machine.execManagerListenEnd s
  | .shlSyncPulse errCclk withBeacon sincePrevious => Sys2Proof.Machine.execShlSyncPulse errCclk withBeacon sincePrevious s
  | .timeLockLoss => Sys2Proof.Machine.execTimeLockLoss s
  | .config f epoch count => Sys2Proof.Machine.execConfig f epoch count s
  | .ilvRecord f epoch index r => Sys2Proof.Machine.execIlvRecord f epoch index r s
  | .slotGrant f stroke => Sys2Proof.Machine.execSlotGrant f stroke s
  | .powerOff f stroke => Sys2Proof.Machine.execPowerOff f stroke s
  | .powerOffStroke => Sys2Proof.Machine.execPowerOffStroke s
  | .powerOn f => Sys2Proof.Machine.execPowerOn f s
  | .persist f stroke => Sys2Proof.Machine.execPersist f stroke s
  | .actPrepare f stroke staging => Sys2Proof.Machine.execActPrepare f stroke staging s
  | .release f => Sys2Proof.Machine.execRelease f s
  | .commandResend seq => Sys2Proof.Machine.execCommandResend seq s
  | .shelfCntClr v => Sys2Proof.Machine.execShelfCntClr v s
  | .identify p => Sys2Proof.Machine.execIdentify p s
  | .requestAbortBackgroundOperation p => Sys2Proof.Machine.execRequestAbortBackgroundOperation p s
  | .getEventRecords p log => Sys2Proof.Machine.execGetEventRecords p log s
  | .clearEventRecords p log all handles => Sys2Proof.Machine.execClearEventRecords p log all handles s
  | .getEventInterruptPolicy p => Sys2Proof.Machine.execGetEventInterruptPolicy p s
  | .setEventInterruptPolicy p modes => Sys2Proof.Machine.execSetEventInterruptPolicy p modes s
  | .getFwInfo p => Sys2Proof.Machine.execGetFwInfo p s
  | .transferFwFull p => Sys2Proof.Machine.execTransferFwFull p s
  | .transferFwInitiate p slot offset units header => Sys2Proof.Machine.execTransferFwInitiate p slot offset units header s
  | .transferFwContinue p slot offset units header => Sys2Proof.Machine.execTransferFwContinue p slot offset units header s
  | .transferFwEnd p slot offset units r => Sys2Proof.Machine.execTransferFwEnd p slot offset units r s
  | .transferFwAbort p => Sys2Proof.Machine.execTransferFwAbort p s
  | .activateFwOnline p slot => Sys2Proof.Machine.execActivateFwOnline p slot s
  | .activateFwNextColdReset p slot r => Sys2Proof.Machine.execActivateFwNextColdReset p slot r s
  | .activateAt p stroke => Sys2Proof.Machine.execActivateAt p stroke s
  | .activationTakeEffect => Sys2Proof.Machine.execActivationTakeEffect s
  | .oldBankRelease => Sys2Proof.Machine.execOldBankRelease s
  | .getTimestamp p => Sys2Proof.Machine.execGetTimestamp p s
  | .setTimestamp p ns => Sys2Proof.Machine.execSetTimestamp p ns s
  | .getSupportedLogs p => Sys2Proof.Machine.execGetSupportedLogs p s
  | .getLog p => Sys2Proof.Machine.execGetLog p s
  | .identifyMemoryDevice p => Sys2Proof.Machine.execIdentifyMemoryDevice p s
  | .getPartitionInfo p => Sys2Proof.Machine.execGetPartitionInfo p s
  | .unsupportedCommand p opcode => Sys2Proof.Machine.execUnsupportedCommand p opcode s
  | .getHealthInfo p => Sys2Proof.Machine.execGetHealthInfo p s
  | .getAlertConfiguration p => Sys2Proof.Machine.execGetAlertConfiguration p s
  | .setAlertConfiguration p cfg => Sys2Proof.Machine.execSetAlertConfiguration p cfg s
  | .getShutdownState p => Sys2Proof.Machine.execGetShutdownState p s
  | .setShutdownState p state => Sys2Proof.Machine.execSetShutdownState p state s
  | .getPoisonList p dpa lines => Sys2Proof.Machine.execGetPoisonList p dpa lines s
  | .injectPoison p dpa => Sys2Proof.Machine.execInjectPoison p dpa s
  | .clearPoison p dpa data => Sys2Proof.Machine.execClearPoison p dpa data s
  | .getScanMediaCapabilities p dpa lines => Sys2Proof.Machine.execGetScanMediaCapabilities p dpa lines s
  | .scanMedia p dpa lines => Sys2Proof.Machine.execScanMedia p dpa lines s
  | .getScanMediaResults p => Sys2Proof.Machine.execGetScanMediaResults p s
  | .sanitize p => Sys2Proof.Machine.execSanitize p s
  | .secureErase p => Sys2Proof.Machine.execSecureErase p s
  | .sanitizeComplete => Sys2Proof.Machine.execSanitizeComplete s
  | .getDynamicCapacityConfiguration p => Sys2Proof.Machine.execGetDynamicCapacityConfiguration p s
  | .getDynamicCapacityExtentList p => Sys2Proof.Machine.execGetDynamicCapacityExtentList p s
  | .addDynamicCapacityResponse p accepted => Sys2Proof.Machine.execAddDynamicCapacityResponse p accepted s
  | .releaseDynamicCapacity p extents => Sys2Proof.Machine.execReleaseDynamicCapacity p extents s
  | .setDcRegionConfiguration p region base length sanitize => Sys2Proof.Machine.execSetDcRegionConfiguration p region base length sanitize s
  | .getDcRegionConfiguration p => Sys2Proof.Machine.execGetDcRegionConfiguration p s
  | .initiateDynamicCapacityAdd p sess region extents => Sys2Proof.Machine.execInitiateDynamicCapacityAdd p sess region extents s
  | .initiateDynamicCapacityRelease p sess extents => Sys2Proof.Machine.execInitiateDynamicCapacityRelease p sess extents s
  | .deviceReset p => Sys2Proof.Machine.execDeviceReset p s
  | .topCtrlWarmReset v => Sys2Proof.Machine.execTopCtrlWarmReset v s
  | .kekRead p => Sys2Proof.Machine.execKekRead p s
  | .keepRead p page => Sys2Proof.Machine.execKeepRead p page s
  | .chronicleRead p part index count => Sys2Proof.Machine.execChronicleRead p part index count s
  | .releaseRange p start length => Sys2Proof.Machine.execReleaseRange p start length s
  | .releaseRangeComplete => Sys2Proof.Machine.execReleaseRangeComplete s
  | .shelfStatus p => Sys2Proof.Machine.execShelfStatus p s
  | .setRecords p records => Sys2Proof.Machine.execSetRecords p records s
  | .shelfPowerOff p mask stroke => Sys2Proof.Machine.execShelfPowerOff p mask stroke s
  | .shelfPowerOn p mask => Sys2Proof.Machine.execShelfPowerOn p mask s
  | .shelfPersist p stroke => Sys2Proof.Machine.execShelfPersist p stroke s
  | .shelfActivate p stroke staging => Sys2Proof.Machine.execShelfActivate p stroke staging s
  | .shelfRelease p pos => Sys2Proof.Machine.execShelfRelease p pos s
  | .telemetryStatus p => Sys2Proof.Machine.execTelemetryStatus p s
  | .telemetryPeriod p value => Sys2Proof.Machine.execTelemetryPeriod p value s
  | .telemetrySnapshot p => Sys2Proof.Machine.execTelemetrySnapshot p s
  | .telemetryClear p => Sys2Proof.Machine.execTelemetryClear p s
  | .telemetryFreeze p value => Sys2Proof.Machine.execTelemetryFreeze p value s
  | .telemetryWindow p value => Sys2Proof.Machine.execTelemetryWindow p value s
  | .telemetrySelect p value => Sys2Proof.Machine.execTelemetrySelect p value s
  | .telemCtrlClr v => Sys2Proof.Machine.execTelemCtrlClr v s
  | .telemCtrlFreeze v => Sys2Proof.Machine.execTelemCtrlFreeze v s
  | .telemSnapNow v => Sys2Proof.Machine.execTelemSnapNow v s
  | .telemEvtCfgWrite block counter v => Sys2Proof.Machine.execTelemEvtCfgWrite block counter v s
  | .telemBwCfgWrite v => Sys2Proof.Machine.execTelemBwCfgWrite v s
  | .telemWindowRead offset size hbm => Sys2Proof.Machine.execTelemWindowRead offset size hbm s
  | .telemCntLoRead block counter => Sys2Proof.Machine.execTelemCntLoRead block counter s
  | .telemCycLoRead block => Sys2Proof.Machine.execTelemCycLoRead block s
  | .portCfgWrite port v => Sys2Proof.Machine.execPortCfgWrite port v s
  | .portCntClr port v => Sys2Proof.Machine.execPortCntClr port v s
  | .sessCntClr v => Sys2Proof.Machine.execSessCntClr v s
  | .sessQCntClr v => Sys2Proof.Machine.execSessQCntClr v s
  | .topIntMaskWrite v => Sys2Proof.Machine.execTopIntMaskWrite v s
  | .rwmWriteReject offset v => Sys2Proof.Machine.execRwmWriteReject offset v s
  | .bar2AccessError offset width v => Sys2Proof.Machine.execBar2AccessError offset width v s
  | .registerWrite space v => Sys2Proof.Machine.execRegisterWrite space v s
  | .bisnpCreditReturn port link count => Sys2Proof.Machine.execBisnpCreditReturn port link count s
  | .mergeBufferLookupReturn rid t hbm => Sys2Proof.Machine.execMergeBufferLookupReturn rid t hbm s
  | .hbmTrainingComplete ok => Sys2Proof.Machine.execHbmTrainingComplete ok s
  | .shelfFrameDiscard why => Sys2Proof.Machine.execShelfFrameDiscard why s
  | .deviceTemperatureCrossing tempC => Sys2Proof.Machine.execDeviceTemperatureCrossing tempC s
  | .spdmSecureSession p ok => Sys2Proof.Machine.execSpdmSecureSession p ok s
  | .imageSlotFlashComplete what => Sys2Proof.Machine.execImageSlotFlashComplete what s
  | .activationDecision => Sys2Proof.Machine.execActivationDecision s
  | .coordinatedActivation => Sys2Proof.Machine.execCoordinatedActivation s
  | .activationInDoubt => Sys2Proof.Machine.execActivationInDoubt s
  | .shelfPersistComplete => Sys2Proof.Machine.execShelfPersistComplete s
  | .shelfEpochLoRead => Sys2Proof.Machine.execShelfEpochLoRead s
  | .snapshotRecordWritten => Sys2Proof.Machine.execSnapshotRecordWritten s
  | .bandwidthWindowEnd => Sys2Proof.Machine.execBandwidthWindowEnd s
  | .telemSnapHeadLoRead => Sys2Proof.Machine.execTelemSnapHeadLoRead s
  | .telemBwWindowLoRead => Sys2Proof.Machine.execTelemBwWindowLoRead s

end Sys2Proof.Machine
end

