-- ==== Sys2Proof/Machine/Views.lean ====
section
/-! DEFINITION. What a 32-bit register read returns (R367, R371): most fields have their home in the register table; the
registers below are views of state that lives elsewhere, and the arrays SESS_ENTRY, SESS_QSTAT and PROT_ANCHOR. A register
whose read latches its other half has a command of its own. -/

namespace Sys2Proof.Machine

/-- A flag as a number. -/
def flag (b : Bool) : Nat := if b then 1 else 0

/-! ### Views of the core domain -/

/-- KIND of `DIR_INTERNAL` (Table 8-9). -/
def InternalKind.code : InternalKind → Nat
  | .sanitize => 1 | .secureErase => 2 | .releaseRange => 3 | .poisonClear => 4 | .rekey => 5 | .injectPoison => 6

/-- `DIR_INTERNAL`. -/
def State.dirInternal (s : State) : Nat :=
  match s.internals with
  | i :: _ => 1 + 2 * i.kind.code
  | [] => 0

/-- An ERASE_AUTH is within its 120 s (R222). -/
def State.eraseAuthOpen (s : State) : Bool :=
  match s.prot.eraseAuth with
  | some (_, st) => decide (s.stroke ≤ st + lodgeStrokes)
  | none => false

/-- `PROT_STATUS` (Table 10-9). -/
def State.protStatus (s : State) : Nat :=
  let lodged := (s.prot.lodged.filter (fun x => x.group == 0)).length
  s.prot.officers.length + 8 * lodged + 64 * flag (s.prot.rekeys != []) + 128 * ((s.prot.rekeys.head?.map (·.range)).getD 0)
    + 4096 * flag s.prot.unlock + 8192 * flag s.eraseAuthOpen

/-- `PROT_REKEY_STATUS.TRACTS_LEFT`. -/
def State.tractsLeft (s : State) : Nat :=
  match s.prot.rekeys with
  | r :: _ => (s.rekeyLeft r).length
  | [] => 0

def KeySource.code : KeySource → Nat
  | .none => 0 | .generated => 1 | .imported => 2

def IntegState.code : IntegState → Nat
  | .off => 0 | .verified => 1 | .unverified => 2

/-- The RANGE_ registers of a range (Table 10-9), by word; word 7 has its home in the register table. -/
def State.rangeWord (s : State) (n w : Nat) : Nat :=
  let d : RangeDef := s.prot.ranges.get {} n
  let k : KeySlot := s.prot.slots.get {} n
  let st : IntegState := s.prot.integState.get .off n
  match w with
  | 0 => d.base + 2 ^ 15 * flag d.valid
  | 1 => d.size + 2 ^ 15 * flag d.integ
  | 2 => k.source.code + 4 * flag k.old.isSome + 2 ^ 16 * (k.gen % 2 ^ 16)
  | 3 => st.code + 4 * flag ((s.prot.rekeys.head?.map (·.range)) == some n)
  | 4 => k.e0 % 2 ^ 32
  | 5 => k.q0 % 2 ^ 32
  | 6 => k.q0 / 2 ^ 32 % 2 ^ 32
  | _ => s.rd Reg.RANGE_INTEG_FAIL_CNT n

/-- `SESS_QSTAT` of a session (Table 4-4): its two words. -/
def Session.qstat (e : Session) (w : Nat) : Nat :=
  if w = 0 then e.rdOcc + 2 ^ 16 * e.wrOcc + 2 ^ 31 * flag e.held
  else e.chunks + 32 * flag (e.cause == .pool) + 64 * (e.rd.excess.length + e.wr.excess.length)

/-! ### Views of the AUX domain -/

/-- The operation in the flash is of the keep. -/
def Keep.busy (k : Keep) : Bool :=
  match k.op with
  | some .keepProgram => true
  | some (.eraseKeep _) => true
  | _ => false

/-- `KEEP_STATUS`. -/
def State.keepStatus (s : State) : Nat :=
  flag s.keep.busy + 2 * s.rd Reg.KEEP_STATUS_FLASH_OK + 4 * s.rd Reg.KEEP_STATUS_DEGRADED + 8 * s.rd Reg.KEEP_STATUS_FAIL
    + 16 * s.rd Reg.KEEP_STATUS_TIE

/-- A ring sector is being erased, or its erase is suspended. -/
def Keep.ringErasing (k : Keep) : Bool :=
  [k.op, k.suspended].any (fun o => match o with
    | some (.eraseRing _) => true
    | _ => false)

/-- `CHRON_STATUS`. -/
def State.chronStatus (s : State) : Nat :=
  s.chron.perm.length + 2 ^ 12 * s.chron.buffer.length + 2 ^ 19 * s.chron.runs.length + 2 ^ 24 * flag s.keep.ringErasing

/-- `CHRON_HEAD`: the ring sector being written, and its write point. -/
def State.chronHead (s : State) : Nat :=
  let sector : RingSector := s.chron.ring.get {} s.chron.head
  s.chron.head + 2 ^ 10 * (sector.slots.length + 1)

/-- The page in the window of `KEEP_PAGE_DATA`, as its payload (R299). -/
def State.keepWindow (s : State) : Option PageData := s.keep.shadow.find (s.rd Reg.KEEP_PAGE_IDX_PAGE)

/-! ### A read -/

/-- `PROT_ANCHOR`: the vendor anchor until the keep has been loaded (Table 10-9). -/
def State.anchorShown (s : State) : Nat := if s.start.step2 then s.prot.anchor else Config.vendorAnchor

/-- Registers that are views; `none`: the register's fields have their home in the register table. -/
def State.viewAt (s : State) (o : Nat) : Option Nat :=
  if 0x280000 ≤ o && o < 0x2C0000 then some ((s.sess ((o - 0x280000) / 64)).view.getD ((o - 0x280000) % 64 / 4) 0)
  else if 0x240000 ≤ o && o < 0x248000 then some ((s.sess ((o - 0x240000) / 8)).qstat ((o - 0x240000) % 8 / 4))
  else if 0x801000 ≤ o && o < 0x801220 then some (s.rangeWord ((o - 0x801000) / 32) ((o - 0x801000) % 32 / 4))
  else if 0x800040 ≤ o && o < 0x800070 then some (s.anchorShown / 2 ^ (8 * (o - 0x800040)) % 2 ^ 32)
  else match o with
    | 0x000000 => some (176 + 2 ^ 8 * 32868 + 2 ^ 24 * flag Config.grade)
    | 0x000018 => some (Config.serial.toNat % 2 ^ 32)
    | 0x00001C => some (Config.serial.toNat / 2 ^ 32)
    | 0x000020 => some (bitsOf s.topInt)
    | 0x300010 => some (s.stroke % 2 ^ 32)
    | 0x500040 => some s.xlat.sbe
    | 0x780014 => some s.dirInternal
    | 0x800000 => some s.protStatus
    | 0x800008 => some s.tractsLeft
    | 0x80000C => some s.prot.granules.length
    | 0x800030 => some (s.prot.challenge.toNat % 2 ^ 32)
    | 0x800034 => some (s.prot.challenge.toNat / 2 ^ 32)
    | 0xB00000 => some s.keepStatus
    | 0xB00004 => some (s.keep.optime.value % 2 ^ 32)
    | 0xB00008 => some (s.keep.pcycle.value % 2 ^ 32)
    | 0xB0000C => some (s.keep.bytes.value % 2 ^ 32)
    | 0xB01000 => some s.chronStatus
    | 0xB01004 => some s.chronHead
    | 0xB01008 => some (s.chron.sectorSeq % 2 ^ 32)
    | 0xB0101C => some s.chron.bad.length
    | _ => none

/-- What a 32-bit read of a BAR2 register returns: reserved bits, write-only fields and offsets that hold no register read
zero (R371, Table 0-4). (DEDUCED, log entry 118). -/
def State.readWord (s : State) (o : Nat) : Nat :=
  match s.viewAt o with
  | some v => v
  | none => (fieldsAt o).foldl (fun a e => if e.1.acc = .wo then a else a + s.rd e.1 e.2.1 e.2.2 * 2 ^ e.1.lo) 0

end Sys2Proof.Machine
end

