-- ==== Sys2Proof/Safety.lean ====
section
/-! DEFINITION. What a safe run is: every step of it answers a next state; and how statements say that a command
completes. -/

namespace Sys2Proof

/-- The step from this state goes on. -/
def stepGoesOn (s : Machine.State) : Prop := ∃ t, Machine.step s = .next t

/-- The command answers a next state, of which `P` holds. -/
def answers (i : Instr) (s : Machine.State) (P : Machine.State → Prop) : Prop := ∃ t, Machine.exec i s = .next t ∧ P t

/-- The mailboxes are open, the command is no retransmission, and its path accepts its class (R271, R328, R331). -/
def heard (s : Machine.State) (p : CmdPath) (i : Instr) (c : Machine.PathClass) : Prop :=
  s.mailboxOpen = true ∧ s.resent p i = none ∧ s.accepts c p = true

/-- A command frame for this worker that is no duplicate (R302, R309, R310). -/
def heardFrame (s : Machine.State) (f : Frame) : Prop :=
  s.onLink = true ∧ s.manager = false ∧ s.inContact = true ∧ (f.bcast = true ∨ f.pos = s.shelfPos)
    ∧ s.shelf.dups.find? (fun e => e.1 == f.seq) = none

/-- A use of SHELF CONTROL that this acting manager takes (R337). -/
def heardManager (s : Machine.State) (p : CmdPath) (i : Instr) : Prop :=
  heard s p i .admin ∧ s.manager = true ∧ s.bgBusy p = false

/-- Everything but the transcript, the stored MCTP responses, the telemetry counters and the registers is as it was. -/
def onlyAnswered (s t : Machine.State) : Prop :=
  t = { s with out := t.out, regs := t.regs, telem := t.telem, mbox := { s.mbox with stored := t.mbox.stored } }

/-- Whenever the command answers a next state `t`, `t` is `f s t`: it differs from `s` only in what `f` takes from `t`. -/
def changes (i : Instr) (f : Machine.State → Machine.State → Machine.State) : Prop :=
  ∀ s t, Machine.exec i s = .next t → t = f s t

/-- Every register but those of these fields is as it was. -/
def onlyRegs (l : List Machine.Field) (s t : Machine.State) : Prop :=
  ∀ k, (∀ f ∈ l, ∀ a b, k ≠ f.key a b) → t.regs.find k = s.regs.find k

/-- Whenever the command answers a next state, only registers of these fields may differ. -/
def changesRegs (i : Instr) (l : List Machine.Field) : Prop :=
  ∀ s t, Machine.exec i s = .next t → onlyRegs l s t

/-- The table of the medium is in canonical form: page numbers strictly rising. -/
def Machine.State.memoryWf (s : Machine.State) : Bool := s.pages.sorted

/-- Commands with which time passes (R23, R24, R312). -/
def movesTime : Instr → Bool
  | .auxApply .. => true
  | .strokeBoundary => true
  | .syncEpochBoundary => true
  | _ => false

/-- MOTION_APPLY, and the power and reset events that clear the core domain or read the keep. -/
def changesAuthority : Instr → Bool
  | .motionApply => true
  | .auxRemove => true
  | .pwrfailNQualify .. => true
  | .railTurnOn .. => true
  | .rampPoll .. => true
  | .railRampLimit => true
  | .servicePoll .. => true
  | .decayPoll .. => true
  | .thermtrip .. => true
  | .capoSaveComplete .. => true
  | .hbmTrainingComplete .. => true
  | .warmResetFlushDone => true
  | .powerOffStroke => true
  | _ => false

/-- Commands that program or erase the medium, commit what it holds, or end a flush. -/
def changesMedium : Instr → Bool
  | .programComplete .. => true
  | .toggleComplete .. => true
  | .moveStripeCommit .. => true
  | .liftVerify .. => true
  | .reclaimCopyCommit .. => true
  | .settleBackCommit .. => true
  | .preconditionComplete .. => true
  | .poolFillTimeout .. => true
  | .capoFlushComplete .. => true
  | .rebuildComplete .. => true
  | .warmResetFlushDone => true
  | _ => false

end Sys2Proof
end

