-- ==== Sys2Proof/WellFormed.lean ====
section
/-! DEFINITION. Well-formed commands: every operand lies in the range that the manual gives the thing it names (ports,
links, channels, dies, banks, sessions, lines, media pages, ranges, registers). The meanings are total; a command that is
not well formed names nothing and has no effect or is answered as the manual says. -/

namespace Sys2Proof

/-- A port and a link (Figure 1-1). -/
def portLink (p l : Nat) : Bool := decide (p < 4) && decide (l < 2)

/-- A line of the largest device: DPA bits [42:6] (R216). -/
def lineOk (n : Nat) : Bool := decide (n < 2 ^ 37)

/-- A logical page: the line numbers by 64 (R110). -/
def lpnOk (n : Nat) : Bool := decide (n < 2 ^ 31)

/-- An M2S message: a tag has 16 bits, an LD-ID or SPID 12 (R50), a stroke at most 2,047 CCLK (R25). -/
def M2S.wf (m : M2S) : Bool :=
  portLink m.port m.link && decide (m.ld < 4096) && decide (m.tag < 65536) && decide (m.t < 2048)

/-- A bank (R79). -/
def BankId.wf (b : BankId) : Bool := decide (b.chan < 64) && decide (b.die < 4) && decide (b.bank < 16)

/-- A command path: port, or MCTP endpoint (R328). -/
def CmdPath.wf (p : CmdPath) : Bool := decide (p.port < 4) && decide (p.tag < 8)

/-- The samples of PWRFAIL_N: one every 10 ns, 200 to decide (R254). -/
def samplesOk (l : List Bool) : Bool := decide (1 ≤ l.length)

/-- A rail (Table 11-1). -/
def railOk (r : Nat) : Bool := decide (1 ≤ r) && decide (r ≤ 12)

/-- A member position of a shelf (R300). -/
def posOk (p : Nat) : Bool := decide (p < 32)

/-- A command frame's header: SEQ is not 0 (Table 14-2). -/
def Frame.wf (f : Frame) : Bool := decide (f.pos < 32) && decide (f.seq < 65536)

/-- A value of a 64-bit stroke count. -/
def strokeOk (n : Nat) : Bool := decide (n < 2 ^ 64)

/-- Well-formedness of a command. (DESIGN CHOICE, log entry 139). -/
def Instr.wf : Instr → Bool
  | .auxApply _ _ _ _ _ _ => true
  | .auxRemove => true
  | .pwrfailNQualify l => samplesOk l
  | .pwrfailNGlitch l => samplesOk l
  | .pwrfailNHigh100ms _ => true
  | .powerUpPackage _ _ => true
  | .railTurnOn q => railOk q.rail
  | .rampPoll q _ => railOk q.rail
  | .railRampLimit => true
  | .powerUpMedia => true
  | .servicePoll l => l.all (fun q => railOk q.rail)
  | .decayPoll l => l.all (fun q => railOk q.rail)
  | .decayLimitExpiry _ => true
  | .offHoldExpiry _ => true
  | .thermtrip _ => true
  | .capoFlushComplete _ => true
  | .capoSaveComplete _ _ => true
  | .warmResumption => true
  | .strokeBoundary => true
  | .planLock => true
  | .syncEpochBoundary => true
  | .programResume b => b.wf
  | .readReachScheduler _ t _ => decide (t < 1024)
  | .schedCntClr _ => true
  | .schedStrokeLoRead => true
  | .memRd m => m.wf
  | .memRdData m => m.wf
  | .memInv m => m.wf
  | .memInvNt m => m.wf
  | .memClnEvct m => m.wf
  | .memSpecRd m _ => m.wf
  | .memWr m _ _ => m.wf
  | .memWrPtl m _ _ _ => m.wf
  | .biConflict m => m.wf
  | .biRsp p l n ln _ => portLink p l && decide (n < 4096) && lineOk ln
  | .ideIntegrityFailure p l => portLink p l
  | .linkDown p l => portLink p l
  | .perstNAssert p _ => decide (p < 4)
  | .perstNDeassert p => decide (p < 4)
  | .linkUp p l _ _ _ => portLink p l
  | .allowanceCheck n _ _ _ _ => decide (n < 4096)
  | .sessionCreate p _ _ => p.wf
  | .sessionModify p _ _ => p.wf
  | .sessionFence p _ => p.wf
  | .sessionGet p _ => p.wf
  | .fenceDrainEnd n => decide (n < 4096)
  | .fenceBiTimeout n ln => decide (n < 4096) && lineOk ln
  | .spillRefill n _ _ => decide (n < 4096)
  | .fipenAlert c => decide (c < 64)
  | .readStatusResponse c _ => decide (c < 64)
  | .readStatusNoResponse c => decide (c < 64)
  | .fipenTrainingStepLimit c st => decide (c < 64) && decide (1 ≤ st) && decide (st ≤ 6)
  | .fipenTrainingComplete l => l.all (fun r => decide (r.chan < 64))
  | .fastRetrainComplete c _ => decide (c < 64)
  | .mediaReadComplete _ _ _ _ _ => true
  | .reconstructionComplete _ _ _ _ => true
  | .programComplete b => b.wf
  | .exchangeOldLineReturn b _ => b.wf
  | .toggleComplete b => b.wf
  | .ageEpochAdvance => true
  | .evacuationBlockDone b => decide (b < 2 ^ 20)
  | .loadTableComplete _ => true
  | .chanCntClr c _ => decide (c < 64)
  | .moveStripeCommit _ => true
  | .liftVerify n => lpnOk n
  | .heatHalving => true
  | .settleBackWalk b => decide (b < 2 ^ 23)
  | .settleBackCommit n => lpnOk n
  | .reclaim c => decide (c < 8)
  | .reclaimCopyCommit n => lpnOk n
  | .preconditionComplete b _ => decide (b < 2 ^ 20)
  | .poolFillTimeout c _ => decide (c < 8)
  | .blockRecordCheckpoint => true
  | .rebuildStart => true
  | .rebuildComplete _ => true
  | .xlatMapIdxWrite _ => true
  | .xlatSeqLoRead => true
  | .xlatCntClr _ => true
  | .mergeComplete n => lineOk n
  | .fillReturn n _ _ _ _ => lineOk n
  | .mergeCfgWrite _ => true
  | .persistAt p n => p.wf && strokeOk n
  | .persistencePointComplete n => strokeOk n
  | .gpfPhase1 p => decide (p < 4)
  | .gpfPhase2 p => decide (p < 4)
  | .mergeCntClr _ => true
  | .mergePointLoRead => true
  | .sliceFillInstall k n => decide (k < 4) && lineOk n
  | .cacheWayCfgWrite k _ => decide (k < 4)
  | .wayGroupCleaningEnd k g => decide (k < 4) && decide (g < 8)
  | .cacheRcCfgWrite _ => true
  | .readCacheProbeReturn _ _ => true
  | .snoopTimeout n ln => decide (n < 4096) && lineOk ln
  | .backInvalidateWalkEnd => true
  | .cacheCntClr k _ => decide (k < 4)
  | .cacheRcCntClr _ => true
  | .dirCntClr _ => true
  | .hbmFillComplete _ => true
  | .patrolVisit l => l.all (fun e => decide (e.line < 64))
  | .patrolPassLate => true
  | .freeBlockReprecondition b => decide (b < 2 ^ 20)
  | .errPatrolCfgWrite _ => true
  | .errCntClr _ => true
  | .errLastUncorrLoRead => true
  | .scrubRange p _ _ => p.wf
  | .scrubRangeComplete _ _ l => l.all (fun e => lineOk e.1)
  | .motion p _ => p.wf
  | .second p _ => p.wf
  | .motionStatus p _ => p.wf
  | .motionLapse _ => true
  | .motionApply => true
  | .rekeyPassEnd => true
  | .eraseAuthExpiry => true
  | .keySlotReunseal n _ => decide (n ≤ 16)
  | .integrityRootVerifyComplete l => l.all (fun n => decide (n ≤ 16))
  | .ideKeyProg p l _ k _ => portLink p l && decide (k < 2)
  | .ideKSetGo p l _ k => portLink p l && decide (k < 2)
  | .ideKSetStop p l _ k => portLink p l && decide (k < 2)
  | .spdmGetMeasurements p _ => decide (p < 4)
  | .protCntClr _ => true
  | .imageVerifyComplete _ _ => true
  | .mediaReady => true
  | .wakePatrolEnd => true
  | .stagingCopyComplete _ => true
  | .warmResetFlushDone => true
  | .warmResetComplete => true
  | .keepSlotProgrammed _ => true
  | .keepSectorEraseComplete _ => true
  | .spreadCounterIncrement w => decide (w < 3)
  | .chronicleRecordProgrammed _ => true
  | .chronicleSectorEraseComplete _ => true
  | .chronicleRunClose _ _ => true
  | .keepPageIdxWrite _ => true
  | .keepCntClr _ => true
  | .chronCntClr _ => true
  | .pwrCntClr _ => true
  | .beacon b => posOk b.pos
  | .statusFrame f => posOk f.pos
  | .contactLoss => true
  | .memberDropout q => posOk q
  | .managerListenEnd => true
  | .shlSyncPulse _ _ _ => true
  | .timeLockLoss => true
  | .config f _ _ => f.wf
  | .ilvRecord f _ _ _ => f.wf
  | .slotGrant f n => f.wf && strokeOk n
  | .powerOff f n => f.wf && strokeOk n
  | .powerOffStroke => true
  | .powerOn f => f.wf
  | .persist f n => f.wf && strokeOk n
  | .actPrepare f n _ => f.wf && strokeOk n
  | .release f => f.wf
  | .commandResend n => decide (n < 65536)
  | .activationDecision => true
  | .coordinatedActivation => true
  | .activationInDoubt => true
  | .shelfPersistComplete => true
  | .shelfCntClr _ => true
  | .shelfEpochLoRead => true
  | .identify p => p.wf
  | .requestAbortBackgroundOperation p => p.wf
  | .getEventRecords p _ => p.wf
  | .clearEventRecords p _ _ _ => p.wf
  | .getEventInterruptPolicy p => p.wf
  | .setEventInterruptPolicy p _ => p.wf
  | .getFwInfo p => p.wf
  | .transferFwFull p => p.wf
  | .transferFwInitiate p _ _ u _ => p.wf && u.all (fun b => decide (b < 256))
  | .transferFwContinue p _ _ u _ => p.wf && u.all (fun b => decide (b < 256))
  | .transferFwEnd p _ _ u _ => p.wf && u.all (fun b => decide (b < 256))
  | .transferFwAbort p => p.wf
  | .activateFwOnline p _ => p.wf
  | .activateFwNextColdReset p _ _ => p.wf
  | .activateAt p n => p.wf && strokeOk n
  | .activationTakeEffect => true
  | .oldBankRelease => true
  | .getTimestamp p => p.wf
  | .setTimestamp p n => p.wf && strokeOk n
  | .getSupportedLogs p => p.wf
  | .getLog p => p.wf
  | .identifyMemoryDevice p => p.wf
  | .getPartitionInfo p => p.wf
  | .unsupportedCommand p o => p.wf && decide (o < 65536)
  | .getHealthInfo p => p.wf
  | .getAlertConfiguration p => p.wf
  | .setAlertConfiguration p _ => p.wf
  | .getShutdownState p => p.wf
  | .setShutdownState p _ => p.wf
  | .getPoisonList p _ _ => p.wf
  | .injectPoison p _ => p.wf
  | .clearPoison p _ _ => p.wf
  | .getScanMediaCapabilities p _ _ => p.wf
  | .scanMedia p _ _ => p.wf
  | .getScanMediaResults p => p.wf
  | .sanitize p => p.wf
  | .secureErase p => p.wf
  | .sanitizeComplete => true
  | .getDynamicCapacityConfiguration p => p.wf
  | .getDynamicCapacityExtentList p => p.wf
  | .addDynamicCapacityResponse p _ => p.wf
  | .releaseDynamicCapacity p _ => p.wf
  | .setDcRegionConfiguration p _ _ _ _ => p.wf
  | .getDcRegionConfiguration p => p.wf
  | .initiateDynamicCapacityAdd p n _ _ => p.wf && decide (n < 4096)
  | .initiateDynamicCapacityRelease p n _ => p.wf && decide (n < 4096)
  | .deviceReset p => p.wf
  | .topCtrlWarmReset _ => true
  | .kekRead p => p.wf
  | .keepRead p _ => p.wf
  | .chronicleRead p _ _ _ => p.wf
  | .releaseRange p _ _ => p.wf
  | .releaseRangeComplete => true
  | .shelfStatus p => p.wf
  | .setRecords p _ => p.wf
  | .shelfPowerOff p _ n => p.wf && strokeOk n
  | .shelfPowerOn p _ => p.wf
  | .shelfPersist p n => p.wf && strokeOk n
  | .shelfActivate p n _ => p.wf && strokeOk n
  | .shelfRelease p q => p.wf && posOk q
  | .telemetryStatus p => p.wf
  | .telemetryPeriod p _ => p.wf
  | .telemetrySnapshot p => p.wf
  | .telemetryClear p => p.wf
  | .telemetryFreeze p _ => p.wf
  | .telemetryWindow p _ => p.wf
  | .telemetrySelect p _ => p.wf
  | .snapshotRecordWritten => true
  | .bandwidthWindowEnd => true
  | .telemCtrlClr _ => true
  | .telemCtrlFreeze _ => true
  | .telemSnapNow _ => true
  | .telemEvtCfgWrite b c _ => decide (b < 15) && decide (c < 16)
  | .telemBwCfgWrite _ => true
  | .telemWindowRead _ _ _ => true
  | .telemCntLoRead b c => decide (b < 15) && decide (c < 16)
  | .telemCycLoRead b => decide (b < 15)
  | .telemSnapHeadLoRead => true
  | .telemBwWindowLoRead => true
  | .portCfgWrite p _ => decide (p < 4)
  | .portCntClr p _ => decide (p < 4)
  | .sessCntClr _ => true
  | .sessQCntClr _ => true
  | .topIntMaskWrite _ => true
  | .rwmWriteReject _ _ => true
  | .bar2AccessError _ w _ => decide (1 ≤ w) && decide (w ≤ 64)
  | .registerWrite _ _ => true
  | .bisnpCreditReturn p l _ => portLink p l
  | .mergeBufferLookupReturn _ _ _ => true
  | .hbmTrainingComplete _ => true
  | .shelfFrameDiscard _ => true
  | .deviceTemperatureCrossing _ => true
  | .spdmSecureSession p _ => p.wf
  | .imageSlotFlashComplete _ => true

end Sys2Proof
end

