-- ==== Sys2Proof/Certificates/Slice0/Obligations.lean ====
section
/-! DEFINITION. The statements about the model, for the provers. A statement of a command says, for every state and every
operand that meet its hypotheses, that the command answers a next state and what that state holds. -/

open Sys2Proof Sys2Proof.Machine

/-- AUX_APPLY brings the AUX domain up with its straps, AUX_REMOVE leaves only the flash and the medium. AUX_APPLY with
AUX off answers a state with AUX on, the shelf straps sampled two of three into TOP_STRAPS, the flash report in
KEEP_STATUS.FLASH_OK and shelf time a multiple of 1,024 strokes. AUX_REMOVE with AUX on answers a state with every
register at its reset value, no session, no request and no wrapped key left, and with the medium, its checkpoints and
the permanent chronicle records as they were. (R379, R383, R102, Table 17-4) -/
def Obligations.AuxSupplyComesAndGoes : Prop :=
  (∀ (s : State) (role : Samples) (a b c : BitVec 5) (pf : Bool) (f : FlashReport), s.pwr.aux = false →
    answers (.auxApply role a b c pf f) s fun t =>
      t.pwr.aux = true ∧ t.stroke % 1024 = 0
        ∧ t.rd Reg.TOP_STRAPS_SHELF_ROLE = (if role.value then 1 else 0)
        ∧ t.rd Reg.TOP_STRAPS_SHELF_POS = (posValue a b c).toNat
        ∧ t.bit Reg.KEEP_STATUS_FLASH_OK = flashUsed f)
  ∧ (∀ s : State, s.pwr.aux = true →
    answers .auxRemove s fun t =>
      t.pwr.aux = false ∧ t.regs = [] ∧ t.sessions = [] ∧ t.reqs = [] ∧ t.prot.slots = []
        ∧ t.pages = s.pages ∧ t.xlat.checkpoints = s.xlat.checkpoints ∧ t.pending = s.pending)

/-- PWRFAIL_N: a qualification latches and powers down PKG_ON, a glitch is only counted, 100 ms high ends the effect.
PWRFAIL_N_QUALIFY whose samples bring the filter to 200 counts in PWR_PF_CNT, sets PF_QUAL and PF_LATCH and ends the
100 ms test; from PKG_ON with a rail on and no transfer open it enters DOWN with cause PWRFAIL. PWRFAIL_N_GLITCH, when
the filter has fallen back to 0, counts every low since that did not qualify and changes nothing else of the
sequencer. PWRFAIL_N_HIGH_100MS with the pin high and TEST_EN low clears the latch and the filter. (R254, R255, R250) -/
def Obligations.PwrfailFilterActs : Prop :=
  (∀ (s : State) (l : List Bool), s.pwr.aux = true → (pfRun s.pwr.pfCount l).2 = true → s.isSeq .standby = true →
    answers (.pwrfailNQualify l) s fun t =>
      t.rd Reg.PWR_PF_CNT = min (s.rd Reg.PWR_PF_CNT + 1) (2 ^ Reg.PWR_PF_CNT.width - 1)
        ∧ t.bit Reg.PWR_EVENT_PF_QUAL = true ∧ t.bit Reg.PWR_STATUS_PF_LATCH = true ∧ t.pwr.high100 = false
        ∧ t.isSeq .standby = true)
  ∧ (∀ (s : State) (l : List Bool), s.pwr.aux = true → (pfRun s.pwr.pfCount l).2 = true → s.isSeq .pkgOn = true →
      s.topRail ≠ 0 → s.fw.transfer = none →
    answers (.pwrfailNQualify l) s fun t =>
      t.isSeq .down = true ∧ t.rd Reg.PWR_LAST_DOWN_CAUSE = 1 ∧ t.bit Reg.PWR_EVENT_PRE_DIRTY_OFF = true
        ∧ t.pwr.rail = s.topRail ∧ t.bit Reg.TOP_STATUS_READY = false)
  ∧ (∀ (s : State) (l : List Bool), s.pwr.aux = true → pfRun s.pwr.pfCount l = (0, false) →
      newLows s.pwr.pfCount l ≠ 0 →
    answers (.pwrfailNGlitch l) s fun t =>
      t.rd Reg.PWR_GLITCH_CNT
          = min (s.rd Reg.PWR_GLITCH_CNT + newLows s.pwr.pfCount l) (2 ^ Reg.PWR_GLITCH_CNT.width - 1)
        ∧ t.bit Reg.PWR_EVENT_PF_GLITCH = true ∧ t.bit Reg.PWR_STATUS_PF_PIN = true
        ∧ t.pwr = { s.pwr with pfCount := 0 } ∧ t.keep = s.keep ∧ t.pages = s.pages)
  ∧ (∀ (s : State) (x : Samples), s.pwr.aux = true → s.bit Reg.PWR_STATUS_PF_PIN = true → x.value = false →
    answers (.pwrfailNHigh100ms x) s fun t =>
      t.pwr = { s.pwr with high100 := true, pfCount := 0 } ∧ t.bit Reg.PWR_STATUS_PF_LATCH = false)

/-- Power-up: STANDBY is left, a rail is prechecked, commanded on, polled good twice, and rail 12 follows the media start.
POWER_UP_PACKAGE from STANDBY with restart allowed, TEST_EN low, presence read and the flash used enters PKG_UP at
rail 1. RAIL_TURN_ON of the rail being raised, read off, writes OPERATION 0x80 and starts its ramp. The second good
RAMP_POLL in a row of a rail other than 8 and 12 shows the rail good and passes to the next. POWER_UP_MEDIA from
PKG_ON with its slot here enters MEDIA_UP at rail 9 with the media resets low. A SERVICE_POLL in range shows the
voltage and changes no state. (R251, R247, R253, R270) -/
def Obligations.RailsComeUp : Prop :=
  (∀ (s : State) (x : Samples) (q : PmicReport), s.pwr.aux = true → s.isSeq .standby = true → s.mayRestart = true →
      x.value = false → s.pwr.pmicRead = true → s.bit Reg.KEEP_STATUS_FLASH_OK = true →
    answers (.powerUpPackage x q) s fun t =>
      t.isSeq .pkgUp = true ∧ t.pwr.rail = 1 ∧ t.pwr.pkgRun = s.pwr.pkgRun + 1 ∧ t.pwr.onMask = 0)
  ∧ (∀ (s : State) (q : RailPoll), s.raising q.rail = true → s.pwr.ramping = false → pollLost q = false →
      voltOff q.rail (s.railVolt q) = true →
    answers (.railTurnOn q) s fun t =>
      t.pwr = { s.pwr with ramping := true, goodPolls := 0, onMask := s.pwr.onMask ||| railBit q.rail }
        ∧ Out.pmbus q.rail false 0x01 0x80 ∈ t.out ∧ Out.pmbus q.rail false 0x21 (nominal q.rail) ∈ t.out)
  ∧ (∀ (s : State) (q : RailPoll) (x : Samples), s.raising q.rail = true → s.pwr.ramping = true → pollLost q = false →
      s.pollFault q = false → voltGood q.rail (s.railVolt q) = true → s.pwr.goodPolls ≠ 0 → q.rail ≠ 8 → q.rail ≠ 12 →
    answers (.rampPoll q x) s fun t =>
      t.railGood q.rail = true ∧ t.pwr = { s.pwr with ramping := false, goodPolls := 0, rail := q.rail + 1 })
  ∧ (∀ s : State, s.isSeq .pkgOn = true → s.pwr.mediaWait = false → s.pwr.mediaStopped = false → s.slotHere = true →
    answers .powerUpMedia s fun t =>
      t.isSeq .mediaUp = true ∧ t.pwr.rail = 9 ∧ t.pwr.fpReset = true ∧ t.bit Reg.PWR_STATUS_SLOT_WAIT = false)
  ∧ (∀ (s : State) (q : RailPoll), 1 ≤ q.rail → q.rail ≤ 12 → s.isOn q.rail = true → s.isSeq .pkgOn = true →
      pollLost q = false → s.pollFault q = false → voltBad q.rail (s.railVolt q) = false →
      s.railVolt q < 2 ^ Reg.PWR_RAIL_VOUT.width →
    answers (.servicePoll [q]) s fun t =>
      t.rd Reg.PWR_RAIL_VOUT (q.rail - 1) = s.railVolt q ∧ t.isSeq .pkgOn = true
        ∧ t.pwr = { s.pwr with lastBad := s.pwr.lastBad &&& ~~~ railBit q.rail } ∧ t.chron = s.chron)

/-- A ramp limit counts a failure, a decay poll takes a rail off, a hung rail latches, OFF_HOLD and the thermal trip end
in LOCKOUT. RAIL_RAMP_LIMIT in the package phase ends the attempt and, by the attempts made, leads to another or to
LOCKOUT. DECAY_POLL of the rail going down at an off voltage leaves it commanded off; one that is not off yet only
counts. DECAY_LIMIT_EXPIRY first writes the forced-discharge command and, when that has been done, enters HUNG with
the rail shown. OFF_HOLD_EXPIRY of a power-down that ends in LOCKOUT enters it. THERMTRIP at 125 degrees or more is
latched and locks STANDBY out. (R251, R252, R256, R257, R259, R262) -/
def Obligations.RailsFailAndGoDown : Prop :=
  (∀ s : State, s.isSeq .pkgUp = true → s.pwr.ramping = true → s.raising s.pwr.rail = true →
    answers .railRampLimit s fun t =>
      t.pwr.after = (if s.pwr.pkgRun < 3 then AfterDown.pkgRetry else AfterDown.lockout) ∧ t.pwr.cause = .upFail
        ∧ t.pwr.ramping = false)
  ∧ (∀ (s : State) (q : RailPoll), s.goingDown = true → q.rail = s.pwr.rail → 1 ≤ q.rail → q.rail ≤ 12 →
      pollLost q = false → voltOff q.rail (s.railVolt q) = true →
    answers (.decayPoll [q]) s fun t => t.isOn q.rail = false)
  ∧ (∀ (s : State) (q : RailPoll), s.goingDown = true → q.rail = s.pwr.rail → 1 ≤ q.rail → q.rail ≤ 12 →
      pollLost q = false → voltOff q.rail (s.railVolt q) = false →
    answers (.decayPoll [q]) s fun t => t.pwr = { s.pwr with downPolls := s.pwr.downPolls + 1 })
  ∧ (∀ (s : State) (b : Bool), s.goingDown = true → s.pwr.discharged = false →
    answers (.decayLimitExpiry b) s fun t =>
      t.pwr = { s.pwr with discharged := true }
        ∧ Out.pmbus s.pwr.rail false (s.rd Reg.PWR_CFG_DISCH_CMD) (s.rd Reg.PWR_CFG_DISCH_DATA) ∈ t.out)
  ∧ (∀ (s : State) (b : Bool), s.goingDown = true → s.pwr.discharged = true → s.pwr.rail ≤ 12 →
    answers (.decayLimitExpiry b) s fun t =>
      t.isSeq .hung = true ∧ t.bit Reg.PWR_FAULT_HANG = true ∧ t.rd Reg.PWR_LAST_DOWN_HUNG_RAIL = s.pwr.rail)
  ∧ (∀ (s : State) (x : Samples), s.isSeq .offHold = true → s.pwr.after = .lockout →
    answers (.offHoldExpiry x) s fun t => t.isSeq .lockout = true ∧ t.bit Reg.PWR_FAULT_LOCKOUT = true)
  ∧ (∀ (s : State) (n : Nat), s.pwr.aux = true → s.pwr.thermtripN = false → 125 ≤ n → s.isSeq .standby = true →
    answers (.thermtrip n) s fun t =>
      t.pwr.thermtripN = true ∧ t.bit Reg.PWR_FAULT_THERMTRIP = true ∧ t.isSeq .lockout = true)

/-- Capo: the flush reports and asks for the saves, the saves end in CAPO_HOLD, and a warm resumption goes back to ON.
CAPO_FLUSH_COMPLETE in CAPO once the flush may end goes to the save step and shows the flush time and its result in
MERGE_LAST_CAPO. CAPO_SAVE_COMPLETE of a capo caused by PWRFAIL_N with the pin high enters CAPO_HOLD. WARM_RESUMPTION
from CAPO_HOLD after 100 ms high enters ON with the marker DIRTY again, result 3 and the capo indications cleared.
(R163, R165, R166, R259) -/
def Obligations.CapoFlushesSavesAndResumes : Prop :=
  (∀ (s : State) (us : Nat), s.isSeq .capo = true → s.flushReady = true →
    answers (.capoFlushComplete us) s fun t =>
      t.merge.capo = 6 ∧ t.rd Reg.MERGE_LAST_CAPO_FLUSH_US = min us 0xFFFFFF
        ∧ t.rd Reg.MERGE_LAST_CAPO_RESULT = (if t.merge.lost then 2 else 1)
        ∧ t.merge.marker = (if t.merge.lost then Marker.loss else Marker.clean))
  ∧ (∀ (s : State) (n : Nat), s.isSeq .capo = true → s.merge.capo = 6 → s.keep.queue = [] → s.pwr.cause = .pwrfail →
    answers (.capoSaveComplete true n) s fun t =>
      t.isSeq .capoHold = true ∧ t.merge.capo = 0 ∧ t.pwr.dirtySet = false ∧ t.chron.buffer = [])
  ∧ (∀ s : State, s.isSeq .capoHold = true → s.pwr.high100 = true →
    answers .warmResumption s fun t =>
      t.isSeq .on = true ∧ t.merge.marker = .dirty ∧ t.pwr.dirtySet = true ∧ t.rd Reg.MERGE_LAST_CAPO_RESULT = 3
        ∧ t.bit Reg.MERGE_STATUS_CAPO = false ∧ t.bit Reg.TOP_STATUS_CAPO = false ∧ t.merge.capoCredits = [])

/-- Start-up: each step of Table 12-1 from HBM training to Ready marks its step done. HBM_TRAINING_COMPLETE with success
starts the fill; HBM_FILL_COMPLETE ends step 3 and shows its time; IMAGE_VERIFY_COMPLETE ends step 2 with the row of
Table 12-2; REBUILD_START and REBUILD_COMPLETE run step 6 and show its strokes; INTEGRITY_ROOT_VERIFY_COMPLETE ends
step 7 and asks for the DIRTY marker; MEDIA_READY ends step 10 once the marker is kept; WAKE_PATROL_END clears WAKE;
STAGING_COPY_COMPLETE ends the copy. (R264, R200, R267, R137, R141, R232, R273, R269) -/
def Obligations.StartStepsComplete : Prop :=
  (∀ s : State, s.awaitsHbm = true →
    answers (.hbmTrainingComplete true) s fun t => t.start.hbmTrained = true ∧ t.pwr.pkgRun = 0 ∧ t.regs = s.regs)
  ∧ (∀ (s : State) (us : Nat), s.packageUp = true → s.start.hbmTrained = true → s.start.step3 = false →
    answers (.hbmFillComplete us) s fun t =>
      t.start.step3 = true ∧ t.rd Reg.ERR_HBM_FILL_US = min us 0xFFFF ∧ t.bit Reg.ERR_HBM_FILL_DONE = true)
  ∧ (∀ (s : State) (a b : ImageReport), s.packageUp = true → s.start.step2 = false →
    answers (.imageVerifyComplete a b) s fun t =>
      t.start.step2 = true ∧ t.start.row = imageRow s.start.bootSel s.descr a b
        ∧ (t.start.row = 2 → t.img = imgOf b) ∧ (t.start.row = 4 → t.img = imgOf a))
  ∧ (∀ s : State, s.mayRebuild = true →
    answers .rebuildStart s fun t => t.start = { s.start with rebuilding := true } ∧ t.regs = s.regs ∧ t.pages = s.pages)
  ∧ (∀ (s : State) (n : Nat), s.isSeq .on = true → s.start.rebuilding = true →
    answers (.rebuildComplete n) s fun t =>
      t.start.rebuilding = false ∧ t.start.step6 = true ∧ t.start.step8 = true
        ∧ t.rd Reg.XLAT_REBUILD_STROKES = min n 0xFFFFFF)
  ∧ (∀ (s : State) (l : List Nat), s.isSeq .on = true → s.start.step6 = true → s.start.step7 = false →
    answers (.integrityRootVerifyComplete l) s fun t =>
      t.start.step7 = true ∧ t.start.step9 = true ∧ t.merge.marker = .dirty
        ∧ (∃ w ∈ t.keep.queue, w.page = 1))
  ∧ (∀ s : State, s.isSeq .on = true → s.ready = false → s.start.warm = 0 → s.markerKept = true →
    answers .mediaReady s fun t => t.ready = true ∧ t.pwr.dirtySet = true ∧ t.err.patrolStart = s.stroke ∧ t.stroke = s.stroke)
  ∧ (∀ s : State, s.start.step9 = true → s.bit Reg.CHAN_G_AGE_WAKE = true → s.err.wake = [] →
    answers .wakePatrolEnd s fun t => t.bit Reg.CHAN_G_AGE_WAKE = false ∧ t.start = s.start ∧ t.err = s.err)
  ∧ (∀ s : State, s.start.copying = true → ImageOp.copy ∉ s.imageOps →
    answers (.stagingCopyComplete true) s fun t =>
      t.start.copying = false ∧ t.descr.copyDone = true ∧ t.descr.activeValid = true ∧ t.descr.active = s.descr.staging)

/-- A warm device reset: accepted on either path it leaves Ready and flushes, W2 ends in W4, and completion makes the
device Ready again. DEVICE_RESET on an accepted path, where a warm device reset may begin, answers Success and enters
step W2 with Ready gone and WARM_BUSY shown; TOP_CTRL_WARM_RESET does the same without a response.
WARM_RESET_FLUSH_DONE ends W2 and the reset of W3 and leaves step W4. WARM_RESET_COMPLETE at step W5 with the marker
kept makes the device Ready and clears WARM_BUSY. (R274, R275, Table 12-5) -/
def Obligations.WarmResetRuns : Prop :=
  (∀ (s : State) (p : CmdPath), s.start.step3 = true → s.resent p (.deviceReset p) = none → s.accepts .admin p = true →
      s.mayWarm = true →
    answers (.deviceReset p) s fun t =>
      Out.response p .success 0 [] ∈ t.out ∧ t.start.warm = 2 ∧ t.merge.capo = 4)
  ∧ (∀ (s : State) (v : Word), v.getLsbD 0 = true → s.mayWarm = true →
    answers (.topCtrlWarmReset v) s fun t => t.start.warm = 2 ∧ t.merge.capo = 4 ∧ t.merge.lost = false)
  ∧ (∀ s : State, s.isSeq .on = true → s.start.warm = 2 → s.flushReady = true →
      (∀ l ∈ s.prot.lodged, l.group ≠ 0 → l.kept = true) →
    answers .warmResetFlushDone s fun t =>
      t.start.warm = 4 ∧ t.start.step2 = true ∧ t.start.step5 = true ∧ t.start.hbmTrained = false ∧ t.reqs = []
        ∧ t.merge.entries = [])
  ∧ (∀ s : State, s.isSeq .on = true → s.start.warm = 5 → s.markerKept = true →
    answers .warmResetComplete s fun t =>
      t.ready = true ∧ t.start.warm = 0 ∧ t.bit Reg.TOP_STATUS_WARM_BUSY = false ∧ t.pwr.dirtySet = true)

/-- The keep and the chronicle: a program, an erase, an increment, a record and a run end as R279 to R299 say.
KEEP_SLOT_PROGRAMMED of a running write that reads back puts the version with its SEQ into its sector and counts it;
KEEP_SECTOR_ERASE_COMPLETE with success empties the sector and counts; SPREAD_COUNTER_INCREMENT programs one waiting
unit; CHRONICLE_RECORD_PROGRAMMED moves the oldest buffered record to the permanent part while it has room;
CHRONICLE_SECTOR_ERASE_COMPLETE empties a ring sector; CHRONICLE_RUN_CLOSE ends the run; KEEP_PAGE_IDX_WRITE selects a
page up to 111 and keeps the index otherwise. (R282, R290, R292, R294, R295, R299) -/
def Obligations.KeepAndChronicleWrite : Prop :=
  (∀ (s : State) (w : KeepWrite) (r : List KeepWrite) (q : Nat), s.keep.op = some .keepProgram → s.keep.queue = w :: r →
      w.seq = some q → w.group = 0 → w.page ≠ 12 →
    answers (.keepSlotProgrammed true) s fun t =>
      t.rd Reg.KEEP_WRITE_CNT = min (s.rd Reg.KEEP_WRITE_CNT + 1) (2 ^ Reg.KEEP_WRITE_CNT.width - 1)
        ∧ ⟨w.page, q, w.group, w.data, true⟩ ∈ t.keep.sectors.get [] (keepSector w.page w.copy)
        ∧ t.keep.seq.get 0 w.page = q)
  ∧ (∀ (s : State) (n : Nat), s.keep.op = some (.eraseKeep n) → n < 224 →
    answers (.keepSectorEraseComplete true) s fun t =>
      t.rd Reg.KEEP_ERASE_CNT = min (s.rd Reg.KEEP_ERASE_CNT + 1) (2 ^ Reg.KEEP_ERASE_CNT.width - 1)
        ∧ t.keep.sectors.get [] n = [] ∧ t.keep.abandoned.get 0 n = 0 ∧ t.chron = s.chron)
  ∧ (∀ s : State, s.keep.optime.pending ≠ 0 → s.keep.optime.step = .idle → s.keep.optime.count + 1 < spreadBits →
    answers (.spreadCounterIncrement 0) s fun t =>
      t.keep = { s.keep with optime := { s.keep.optime with pending := s.keep.optime.pending - 1, count := s.keep.optime.count + 1 } })
  ∧ (∀ (s : State) (n : Nat) (r : ChronRec) (rest : List (Nat × ChronRec)), s.keep.op = some .chronicleProgram →
      s.chron.buffer = (n, r) :: rest → s.chron.perm.length < 1023 →
    answers (.chronicleRecordProgrammed true) s fun t =>
      t.chron.perm = s.chron.perm ++ [.written r] ∧ t.chron.buffer = rest
        ∧ t.rd Reg.CHRON_WRITTEN_CNT = min (s.rd Reg.CHRON_WRITTEN_CNT + 1) (2 ^ Reg.CHRON_WRITTEN_CNT.width - 1))
  ∧ (∀ (s : State) (k : Nat), s.keep.op = some (.eraseRing k) → s.chron.perm.length < 1024 →
    answers (.chronicleSectorEraseComplete true) s fun t =>
      t.chron.ring.find k = none ∧ t.chron.perm = s.chron.perm ∧ k ∉ t.chron.bad)
  ∧ (∀ (s : State) (code src : Nat) (r : ChronRun), s.findRun code src = some r →
    answers (.chronicleRunClose code src) s fun t => t.findRun code src = none ∧ t.regs = s.regs ∧ t.keep = s.keep)
  ∧ (∀ (s : State) (v : Word), v.toNat % 128 ≤ 111 →
    answers (.keepPageIdxWrite v) s fun t =>
      t.rd Reg.KEEP_PAGE_IDX_PAGE = v.toNat % 128 ∧ t.bit Reg.KEEP_PAGE_IDX_READY = true)
  ∧ (∀ (s : State) (v : Word), 111 < v.toNat % 128 →
    answers (.keepPageIdxWrite v) s fun t => t.rd Reg.KEEP_PAGE_IDX_PAGE = s.rd Reg.KEEP_PAGE_IDX_PAGE)

/-- A CNT_CLR write with CLR set asks for its clear and changes no state of the block; with CLR clear it asks for nothing.
Each of the sixteen CNT_CLR registers, written with bit 0 set, adds its clear to those that the next stroke boundary
makes and leaves time, the medium, the keep and the sessions as they are; written with bit 0 clear it asks for none.
(R42, R63, R64, R77, R108, R142, R167, R192, R193, R214, R245, R263) -/
def Obligations.CounterClearsWaitForTheBoundary : Prop :=
  (∀ (s : State) (v : Word), v.getLsbD 0 = true →
    (answers (.schedCntClr v) s fun t => t.clears = s.clears ++ [Clear.sched] ∧ t.stroke = s.stroke ∧ t.pages = s.pages
        ∧ t.keep = s.keep ∧ t.sessions = s.sessions)
    ∧ (answers (.pwrCntClr v) s fun t => t.clears = s.clears ++ [Clear.pwr] ∧ t.stroke = s.stroke ∧ t.pages = s.pages
        ∧ t.keep = s.keep ∧ t.sessions = s.sessions)
    ∧ (answers (.keepCntClr v) s fun t => t.clears = s.clears ++ [Clear.keep] ∧ t.stroke = s.stroke ∧ t.pages = s.pages
        ∧ t.keep = s.keep ∧ t.sessions = s.sessions)
    ∧ (answers (.chronCntClr v) s fun t => t.clears = s.clears ++ [Clear.chron] ∧ t.stroke = s.stroke ∧ t.pages = s.pages
        ∧ t.keep = s.keep ∧ t.sessions = s.sessions)
    ∧ (answers (.xlatCntClr v) s fun t => t.clears = s.clears ++ [Clear.xlat] ∧ t.stroke = s.stroke ∧ t.pages = s.pages
        ∧ t.keep = s.keep ∧ t.sessions = s.sessions)
    ∧ (answers (.mergeCntClr v) s fun t => t.clears = s.clears ++ [Clear.merge] ∧ t.stroke = s.stroke ∧ t.pages = s.pages
        ∧ t.keep = s.keep ∧ t.sessions = s.sessions)
    ∧ (answers (.cacheRcCntClr v) s fun t => t.clears = s.clears ++ [Clear.rc] ∧ t.stroke = s.stroke ∧ t.pages = s.pages
        ∧ t.keep = s.keep ∧ t.sessions = s.sessions)
    ∧ (answers (.dirCntClr v) s fun t => t.clears = s.clears ++ [Clear.dir] ∧ t.stroke = s.stroke ∧ t.pages = s.pages
        ∧ t.keep = s.keep ∧ t.sessions = s.sessions)
    ∧ (answers (.errCntClr v) s fun t => t.clears = s.clears ++ [Clear.err] ∧ t.stroke = s.stroke ∧ t.pages = s.pages
        ∧ t.keep = s.keep ∧ t.sessions = s.sessions)
    ∧ (answers (.sessCntClr v) s fun t => t.clears = s.clears ++ [Clear.sess] ∧ t.stroke = s.stroke ∧ t.pages = s.pages
        ∧ t.keep = s.keep ∧ t.sessions = s.sessions)
    ∧ (answers (.sessQCntClr v) s fun t => t.clears = s.clears ++ [Clear.sessQ] ∧ t.stroke = s.stroke ∧ t.pages = s.pages
        ∧ t.keep = s.keep ∧ t.sessions = s.sessions)
    ∧ (answers (.shelfCntClr v) s fun t => t.clears = s.clears ++ [Clear.shelf] ∧ t.stroke = s.stroke ∧ t.pages = s.pages
        ∧ t.keep = s.keep ∧ t.sessions = s.sessions)
    ∧ (answers (.protCntClr v) s fun t => t.clears = s.clears ++ [Clear.prot] ∧ t.stroke = s.stroke ∧ t.pages = s.pages
        ∧ t.keep = s.keep ∧ t.sessions = s.sessions))
  ∧ (∀ (s : State) (v : Word) (n : Nat), v.getLsbD 0 = true →
    (n < 64 → answers (.chanCntClr n v) s fun t => t.clears = s.clears ++ [.chan n] ∧ t.chans = s.chans)
    ∧ (n < 4 → answers (.portCntClr n v) s fun t => t.clears = s.clears ++ [.port n] ∧ t.sessions = s.sessions)
    ∧ (n < 4 → answers (.cacheCntClr n v) s fun t => t.clears = s.clears ++ [.slice n] ∧ t.cache = s.cache))
  ∧ (∀ (s : State) (v : Word), v.getLsbD 0 = false →
    answers (.schedCntClr v) s (fun t => t.clears = s.clears) ∧ answers (.errCntClr v) s (fun t => t.clears = s.clears)
      ∧ answers (.keepCntClr v) s (fun t => t.clears = s.clears))

/-- A stroke boundary advances the count by one, a sync epoch boundary runs once, and a plan lock locks the next stroke.
STROKE_BOUNDARY with AUX applied answers a state whose stroke count is one more, with a sync epoch boundary due
exactly when the count has become a multiple of 1,024. SYNC_EPOCH_BOUNDARY where one is due answers a state where none
is. PLAN_LOCK whose stroke is not locked yet locks the next stroke and no other; one that is locked is left as it is.
SCHED_STROKE_LO read returns the low half and latches the high half. (R23, R24, R29, R42) -/
def Obligations.TimeMovesByStrokes : Prop :=
  (∀ s : State, s.pwr.aux = true →
    answers .strokeBoundary s fun t => t.stroke = s.stroke + 1 ∧ t.epochDue = ((s.stroke + 1) % 1024 == 0))
  ∧ (∀ s : State, s.epochDue = true → answers .syncEpochBoundary s fun t => t.epochDue = false)
  ∧ (∀ s : State, s.sched.locked ≤ s.stroke →
    answers .planLock s fun t => t.sched.locked = s.stroke + 1 ∧ t.stroke = s.stroke)
  ∧ (∀ s : State, s.stroke < s.sched.locked → answers .planLock s fun t => t.sched = s.sched ∧ t.ops = s.ops)
  ∧ (∀ s : State, answers .schedStrokeLoRead s fun t =>
      t.rd Reg.SCHED_STROKE_HI_COUNT_HI = s.stroke / 2 ^ 32 % 2 ^ Reg.SCHED_STROKE_HI_COUNT_HI.width
        ∧ Out.readValue 0x300000 (s.stroke % 2 ^ 32) ∈ t.out ∧ t.stroke = s.stroke ∧ t.sched = s.sched)

/-- A read that reaches the scheduler becomes a media read of its page, a failed decode is retried, then rebuilt, and good
data is sent. READ_REACH_SCHEDULER of a read of data at its lookups, or waiting for resolution or a merge, whose page
is mapped adds one media read for it, of that page, under the next job number. MEDIA_READ_COMPLETE whose first decode
fails leaves the job waiting for its retune retry, and a failed retry leaves it waiting for a reconstruction; a good
decode of a request whose merge-buffer lookup has missed sends its S2M DRS with the data of the line.
RECONSTRUCTION_COMPLETE that rebuilds a line sends it likewise. PROGRAM_RESUME of a suspended operation resumes it and
nothing else. (R30, R82, R97, R100, R28) -/
def Obligations.ReadsReachTheMedium : Prop :=
  (∀ (s : State) (rid k : Nat) (c4 : Bool) (r : Req) (mp : Nat), s.reqs.find rid = some r → r.admits = true →
      r.result = none → s.sched.jobs.any (fun e => e.2.why == .host rid) = false → s.readMp (lpnOf r.line) = some mp →
    answers (.readReachScheduler rid k c4) s fun t =>
      (∃ j, t.sched.jobs.find s.sched.nextJob = some j ∧ j.why = .host rid ∧ j.mp = mp ∧ j.line = r.line ∧ j.ln = r.line % 64)
        ∧ t.sched.nextJob = s.sched.nextJob + 1)
  ∧ (∀ (s : State) (n u : Nat) (e : MediaErr) (g : IntegCheck) (c4 : Bool) (j : Job) (rid : Nat), s.sched.jobs.find n = some j →
      j.why = .host rid → (j.phase = .placed ∨ j.phase = .retry) → j.stroke ≤ s.stroke → s.decodeAt j.mp j.ln e = .failed →
    answers (.mediaReadComplete n u e g c4) s fun t =>
      t.sched.jobs.find n = some { j with phase := if j.phase = .retry then .reconWait else .retryWait } ∧ t.reqs = s.reqs)
  ∧ (∀ (s : State) (n u : Nat) (e : MediaErr) (c4 : Bool) (j : Job) (rid : Nat) (r : Req) (d : LineData) (k : Nat),
      s.sched.jobs.find n = some j → j.why = .host rid → j.phase = .placed → j.stroke ≤ s.stroke →
      s.decodeAt j.mp j.ln e = .good d k → s.reqs.find rid = some r → r.looked = true → r.stage = .lookup → r.result = none →
      r.refetch = false → r.partialHit = false → r.discard = false → s.linkUp r.port r.link = true →
      s.insecure r.port r.link = false → r.port < 4 → r.link < 2 → mpChan j.mp < 64 → s.prot.slotBad = [] →
    answers (.mediaReadComplete n u e .ok c4) s fun t => ∃ m l, Out.drs r.port r.link r.ld r.tag d false m l ∈ t.out)
  ∧ (∀ (s : State) (n u : Nat) (e : MediaErr) (j : Job) (rid : Nat) (r : Req) (d : LineData) (k : Nat),
      s.sched.jobs.find n = some j → j.why = .host rid → j.phase = .group → j.stroke ≤ s.stroke →
      s.rebuildAt j.mp j.ln e = .good d k → s.reqs.find rid = some r → r.looked = true → r.stage = .lookup → r.result = none →
      r.refetch = false → r.partialHit = false → r.discard = false → s.linkUp r.port r.link = true →
      s.insecure r.port r.link = false → r.port < 4 → r.link < 2 → s.prot.slotBad = [] →
    answers (.reconstructionComplete n u e .ok) s fun t => ∃ m l, Out.drs r.port r.link r.ld r.tag d false m l ∈ t.out)
  ∧ (∀ (s : State) (b : BankId) (o : BankOp), s.ops.find (bankKey b) = some o → o.suspended = true →
    answers (.programResume b) s fun t =>
      t.ops.find (bankKey b) = some { o with suspended := false } ∧ Out.fipen b.chan b.die b.bank .resume ∈ t.out
        ∧ t.pages = s.pages ∧ t.sched = s.sched)

/-- FIPEN alerts, READ STATUS, training and retraining set the channel state that the manual names. FIPEN_ALERT of a
channel in use raises ALERT and asks for READ STATUS. A clean READ STATUS response answers the request, takes the
temperatures and clears ALERT. READ_STATUS_NO_RESPONSE counts, and the third in a row fails the channel. A training
step limit at start-up restarts the channel until its third. Start-up training ends step 5 or stops the start. A full
training that is answered ends the retrain. A fast retrain that succeeds resumes the operations of its channel. (R91,
R92, R93, R107, Table 5-7) -/
def Obligations.ChannelsReportAndTrain : Prop :=
  (∀ (s : State) (c : Nat), c < 64 → s.rd Reg.CHAN_STATUS_STATE c = 2 →
    answers (.fipenAlert c) s fun t =>
      t.bit Reg.CHAN_STATUS_ALERT c = true ∧ (t.chan c).wantStatus = true ∧ t.ops = s.ops ∧ t.sched = s.sched)
  ∧ (∀ (s : State) (c : Nat) (x : StatusLine), c < 64 → (s.chan c).wantStatus = true → x.faultMask = 0 → x.causes = 0 →
    answers (.readStatusResponse c x) s fun t =>
      t.chan c = { s.chan c with wantStatus := false, noReply := 0, banks := x.banksLoaded }
        ∧ t.bit Reg.CHAN_STATUS_ALERT c = false ∧ t.rd Reg.CHAN_TEMP_DIE_TEMP c = x.temps.toNat)
  ∧ (∀ (s : State) (c : Nat), c < 64 → (s.chan c).wantStatus = true → (s.chan c).noReply < 2 →
    answers (.readStatusNoResponse c) s fun t =>
      t.chan c = { s.chan c with noReply := (s.chan c).noReply + 1 } ∧ t.regs = s.regs)
  ∧ (∀ (s : State) (c : Nat), c < 64 → (s.chan c).wantStatus = true → 2 ≤ (s.chan c).noReply →
    answers (.readStatusNoResponse c) s fun t =>
      t.rd Reg.CHAN_STATUS_STATE c = 3 ∧ t.bit Reg.CHAN_STATUS_RETRAIN c = false)
  ∧ (∀ (s : State) (c k : Nat), c < 64 → s.startTraining = true → (s.chan c).restarts < 3 →
    answers (.fipenTrainingStepLimit c k) s fun t =>
      t.chan c = { s.chan c with restarts := (s.chan c).restarts + 1 }
        ∧ t.rd Reg.CHAN_STATUS_STATE c = (if (s.chan c).restarts = 2 then 0 else 1))
  ∧ (∀ (s : State) (l : List TrainResult), s.startTraining = true → s.start.step2 = true →
    answers (.fipenTrainingComplete l) s fun t => t.start.step5 = true ∨ t.start.stopped = true)
  ∧ (∀ (s : State) (r : TrainResult), r.chan < 64 → s.startTraining = false → (s.chan r.chan).full = true → r.answered = true →
    answers (.fipenTrainingComplete [r]) s fun t =>
      t.rd Reg.CHAN_STATUS_STATE r.chan = 2 ∧ t.bit Reg.CHAN_STATUS_RETRAIN r.chan = false ∧ (t.chan r.chan).full = false)
  ∧ (∀ (s : State) (c : Nat), c < 64 → s.bit Reg.CHAN_STATUS_RETRAIN c = true → (s.chan c).full = false →
    answers (.fastRetrainComplete c true) s fun t =>
      t.bit Reg.CHAN_STATUS_RETRAIN c = false
        ∧ t.ops = s.ops.mapVals (fun b o => if b / 64 == c then { o with suspended := false } else o))

/-- Program-type operations: an exchange stores its line, its old line gives the delta, a toggle folds it into parity,
ages and evacuations end. EXCHANGE_OLD_LINE_RETURN of a running exchange whose old line decodes keeps the XOR of old
and new as its delta. PROGRAM_COMPLETE of a drain whose old line has returned stores the new line on the medium and
frees the bank. TOGGLE_COMPLETE of a toggle XORs its delta into the parity line. AGE_EPOCH_ADVANCE after T_AGE strokes
raises E by one and shows it. EVACUATION_BLOCK_DONE of a queued block whose data has moved retires it. (R89, R96, R97,
R99, R105) -/
def Obligations.ProgramsReachTheMedium : Prop :=
  (∀ (s : State) (b : BankId) (e : MediaErr) (o : BankOp) (old : MLine) (l : Lin), s.ops.find (bankKey b) = some o →
      (o.kind = .drain ∨ o.kind = .rewrite) → o.returned = false → o.stroke ≤ s.stroke → s.mline o.mp o.ln = some old →
      correctedLin old e = some l → mpBank o.parity ≠ bankKey b →
    answers (.exchangeOldLineReturn b e) s fun t =>
      t.ops.find (bankKey b) = some { o with delta := some (l.xor o.new.lin), returned := true } ∧ t.pages = s.pages)
  ∧ (∀ (s : State) (b : BankId) (o : BankOp), s.ops.find (bankKey b) = some o → o.kind = .drain → o.returned = true →
      o.suspended = false → o.stroke ≤ s.stroke → (s.pages.find o.mp).isSome = true → o.ln < 64 →
    answers (.programComplete b) s fun t => t.mline o.mp o.ln = some o.new ∧ t.ops.find (bankKey b) = none)
  ∧ (∀ (s : State) (b : BankId) (o : BankOp) (d : Lin) (l : MLine), s.ops.find (bankKey b) = some o → o.kind = .toggle →
      o.delta = some d → o.suspended = false → o.stroke ≤ s.stroke → s.mline o.mp o.ln = some l → o.ln < 64 →
    answers (.toggleComplete b) s fun t =>
      t.mline o.mp o.ln = some { lin := l.lin.xor d, age := s.ageNow } ∧ t.ops.find (bankKey b) = none)
  ∧ (∀ s : State, s.img.tAge ≤ s.err.ageStrokes → s.bit Reg.CHAN_G_AGE_WAKE = false →
    answers .ageEpochAdvance s fun t =>
      t.err.e = s.err.e + 1 ∧ t.err.ageStrokes = s.err.ageStrokes - s.img.tAge
        ∧ t.rd Reg.CHAN_G_AGE_EPOCH = (s.err.e + 1) % 2 ^ Reg.CHAN_G_AGE_EPOCH.width)
  ∧ (∀ (s : State) (b : Nat), b ∈ s.xlat.evac → s.evacuated b = true →
    answers (.evacuationBlockDone b) s fun t =>
      (t.block b).pool = .retired ∧ (t.block b).tract = none ∧ b ∉ t.xlat.evac ∧ t.pages = s.pages)

/-- A message that its session answers for is queued in its lane, reads in the read lane, writes and conflicts in the
write lane. Where the link can receive and lookup finds a session, each of MEM_RD, MEM_RD_DATA, MEM_INV, MEM_INV_NT
and MEM_CLN_EVCT adds its descriptor to the read lane of that session and leaves the write lane; MEM_WR and
MEM_WR_PTL, to a line whose snoop the session does not owe, add theirs to the write lane with the data in a free
landing cell; BI_CONFLICT adds its own to the write lane. A MEM_RD whose lookup fails is answered with poison and a
MEM_WR with Cmp. (R45, R50, R52, R65, R66, R189) -/
def Obligations.MessagesEnterTheirLane : Prop :=
  (∀ (s : State) (m : M2S) (f : Found), s.hears m.port m.link = true → s.lookup m = some f →
    (answers (.memRd m) s fun t => mkDesc s m .memRd f 0 0 false ∈ (t.sess f.sess).rd.all
        ∧ (t.sess f.sess).rd.occ = (s.sess f.sess).rd.occ + 1 ∧ (t.sess f.sess).wr = (s.sess f.sess).wr)
    ∧ (answers (.memRdData m) s fun t => mkDesc s m .memRdData f 0 0 false ∈ (t.sess f.sess).rd.all
        ∧ (t.sess f.sess).rd.occ = (s.sess f.sess).rd.occ + 1 ∧ (t.sess f.sess).wr = (s.sess f.sess).wr)
    ∧ (answers (.memInv m) s fun t => mkDesc s m .memInv f 0 0 false ∈ (t.sess f.sess).rd.all
        ∧ (t.sess f.sess).rd.occ = (s.sess f.sess).rd.occ + 1 ∧ (t.sess f.sess).wr = (s.sess f.sess).wr)
    ∧ (answers (.memInvNt m) s fun t => mkDesc s m .memInvNt f 0 0 false ∈ (t.sess f.sess).rd.all
        ∧ (t.sess f.sess).rd.occ = (s.sess f.sess).rd.occ + 1 ∧ (t.sess f.sess).wr = (s.sess f.sess).wr)
    ∧ (answers (.memClnEvct m) s fun t => mkDesc s m .memClnEvct f 0 0 false ∈ (t.sess f.sess).rd.all
        ∧ (t.sess f.sess).rd.occ = (s.sess f.sess).rd.occ + 1 ∧ (t.sess f.sess).wr = (s.sess f.sess).wr))
  ∧ (∀ (s : State) (m : M2S) (f : Found) (d : LineData) (be : Mask) (p : Bool), s.hears m.port m.link = true →
      s.lookup m = some f → s.owesSnoop f.sess f.line = false →
    (answers (.memWr m d p) s fun t => ∃ c, mkDesc s m .memWr f fullMask c p ∈ (t.sess f.sess).wr.all
        ∧ s.merge.cells.find c = none ∧ t.merge.cells.find c = some { sess := f.sess, tag := m.tag, data := d }
        ∧ (t.sess f.sess).wr.occ = (s.sess f.sess).wr.occ + 1)
    ∧ (answers (.memWrPtl m d be p) s fun t => ∃ c, mkDesc s m .memWrPtl f be c p ∈ (t.sess f.sess).wr.all
        ∧ s.merge.cells.find c = none ∧ t.merge.cells.find c = some { sess := f.sess, tag := m.tag, data := d }
        ∧ (t.sess f.sess).wr.occ = (s.sess f.sess).wr.occ + 1))
  ∧ (∀ (s : State) (m : M2S) (f : Found), s.hears m.port m.link = true → s.lookup m = some f →
    answers (.biConflict m) s fun t => mkDesc s m .biConflict f 0 0 false ∈ (t.sess f.sess).wr.all
        ∧ (t.sess f.sess).rd = (s.sess f.sess).rd
        ∧ t.rd Reg.DIR_CONFLICT_CNT = min (s.rd Reg.DIR_CONFLICT_CNT + 1) (2 ^ Reg.DIR_CONFLICT_CNT.width - 1))
  ∧ (∀ (s : State) (m : M2S) (d : LineData) (p : Bool), s.hears m.port m.link = true → s.lookup m = none →
    (answers (.memRd m) s fun t => Out.drs m.port m.link m.ld m.tag 0 true .i 0 ∈ t.out ∧ t.reqs = s.reqs)
    ∧ (answers (.memWr m d p) s fun t => Out.ndr m.port m.link m.ld m.tag .cmp 0 ∈ t.out ∧ t.reqs = s.reqs))

/-- MEM_SPEC_RD may warm the read cache and takes no tracker; answers, timeouts and credits settle snoops. MEM_SPEC_RD of
a line whose newest version the medium holds, with speculation on and class 4 free, puts the line with its epoch into
the read cache and takes no tracker. BI_RSP of a session that is not the last one asked takes it off the snoop.
SNOOP_TIMEOUT and FENCE_BI_TIMEOUT do the same and count. BISNP_CREDIT_RETURN with no snoop waiting adds its credits
to the link. (R45, R176, R183, R184, R185, R62) -/
def Obligations.SpeculationAndSnoops : Prop :=
  (∀ (s : State) (m : M2S) (f : Found) (d : LineData), s.hears m.port m.link = true → s.lookup m = some f → s.cache.rcOn = true →
      s.bit Reg.CACHE_RC_CFG_SPEC_FILL_EN = true → s.ready = true → s.rd Reg.SCHED_STATUS_LAYOUT ≠ 1 → s.entry f.line = none →
      s.lineBusy f.line = false → s.unverified f.line = false → s.internalOn f.line = none → s.mediaNow f.line = some d →
    answers (.memSpecRd m true) s fun t =>
      t.cache.rc.find (rcIndex f.line) = some (rcTag f.line, s.lwNow, d) ∧ t.reqs = s.reqs ∧ t.sessions = s.sessions
        ∧ Out.credit m.port m.link false 1 ∈ t.out)
  ∧ (∀ (s : State) (p l n line : Nat) (a : BiAnswer) (x : Snoop), s.hears p l = true → s.owesSnoop n line = true →
      s.cache.snoops.find? (fun x => x.line == line && x.waiting.contains n) = some x → x.waiting.filter (· != n) ≠ [] →
    answers (.biRsp p l n line a) s fun t =>
      (∀ y ∈ t.cache.snoops, y.line = line → n ∉ y.waiting) ∧ t.cache.host = s.cache.host ∧ t.reqs = s.reqs)
  ∧ (∀ (s : State) (n line : Nat) (x : Snoop), s.waitsFor n line false = true →
      s.cache.snoops.find? (fun x => x.line == line && x.waiting.contains n) = some x → x.waiting.filter (· != n) ≠ [] →
    answers (.snoopTimeout n line) s fun t =>
      (∀ y ∈ t.cache.snoops, y.line = line → n ∉ y.waiting)
        ∧ t.rd Reg.DIR_BI_TIMEOUT_CNT = min (s.rd Reg.DIR_BI_TIMEOUT_CNT + 1) (2 ^ Reg.DIR_BI_TIMEOUT_CNT.width - 1))
  ∧ (∀ (s : State) (n line : Nat) (x : Snoop), s.waitsFor n line true = true →
      s.cache.snoops.find? (fun x => x.line == line && x.waiting.contains n) = some x → x.waiting.filter (· != n) ≠ [] →
    answers (.fenceBiTimeout n line) s fun t =>
      (∀ y ∈ t.cache.snoops, y.line = line → n ∉ y.waiting)
        ∧ t.rd Reg.SESS_BI_TIMEOUT_CNT = min (s.rd Reg.SESS_BI_TIMEOUT_CNT + 1) (2 ^ Reg.SESS_BI_TIMEOUT_CNT.width - 1))
  ∧ (∀ (s : State) (p l n : Nat), s.hears p l = true → s.cache.snoops = [] → s.cache.biCredits.length = 8 →
    answers (.bisnpCreditReturn p l n) s fun t =>
      t.cache.biCredits.getD (2 * p + l) 0 = s.cache.biCredits.getD (2 * p + l) 0 + n ∧ t.cache.host = s.cache.host)

/-- Links come up with credits, go down with their requests, lose their keys on failure, and a port takes its
configuration. IDE_INTEGRITY_FAILURE makes the stream Insecure, loses its keys and discards the responses of its
requests. LINK_DOWN takes the link down, counts and flags it and resets the port's configuration space. LINK_UP within
R49 brings the link up in the configured mode and advertises 512 or 256 credits of each kind. PERST_N low for 1
microsecond takes both links down and the width configuration takes effect; its end lets the host train. PORT_CFG
takes a valid value, and a change of MODE under a live session is refused and flagged. (R46, R47, R48, R49, R74, R243) -/
def Obligations.LinksAndPorts : Prop :=
  (∀ (s : State) (p l : Nat), s.hears p l = true →
    answers (.ideIntegrityFailure p l) s fun t =>
      t.insecure p l = true ∧ t.bit Reg.PORT_EVENT_IDE_FAIL p = true ∧ t.prot.ide.find (2 * p + l) = none
        ∧ (∀ e ∈ t.reqs, e.2.port = p → e.2.link = l → e.2.discard = true))
  ∧ (∀ (s : State) (p l : Nat), p < 4 → l < 2 → s.linkUp p l = true →
    answers (.linkDown p l) s fun t =>
      t.linkUp p l = false ∧ t.bit Reg.PORT_EVENT_LINK_DOWN p = true ∧ p ∉ t.msixEn
        ∧ t.rd Reg.PORT_LINKDOWN_CNT p = min (s.rd Reg.PORT_LINKDOWN_CNT p + 1) (2 ^ Reg.PORT_LINKDOWN_CNT.width - 1))
  ∧ (∀ (s : State) (p rate w flit : Nat), p < 4 → s.linkUp p 0 = false → p ∉ s.perst → 1 ≤ rate → rate ≤ 4 → 1 ≤ w →
      w ≤ s.fullWidth p → flit ≤ 2 → s.isSeq .on = true →
    answers (.linkUp p 0 rate w flit) s fun t =>
      t.linkUp p 0 = true ∧ t.insecure p 0 = false ∧ t.rd Reg.PORT_LINK_STATUS0_RATE p = rate
        ∧ t.rd Reg.PORT_MODE_STATUS_MODE p = s.rd Reg.PORT_CFG_MODE p % 2 ^ Reg.PORT_MODE_STATUS_MODE.width
        ∧ Out.credit p 0 true (if s.bit Reg.PORT_MODE_STATUS_BIFURCATE p then 256 else 512) ∈ t.out)
  ∧ (∀ (s : State) (p ns : Nat), p < 4 → 1000 ≤ ns → p ∉ s.perst →
    answers (.perstNAssert p ns) s fun t =>
      p ∈ t.perst ∧ t.linkUp p 0 = false ∧ t.linkUp p 1 = false ∧ p ∉ t.prot.spdm
        ∧ t.rd Reg.PORT_MODE_STATUS_BIFURCATE p = s.rd Reg.PORT_CFG_BIFURCATE p % 2 ^ Reg.PORT_MODE_STATUS_BIFURCATE.width)
  ∧ (∀ (s : State) (p : Nat), answers (.perstNDeassert p) s fun t => p ∉ t.perst ∧ t.regs = s.regs ∧ t.sessions = s.sessions)
  ∧ (∀ (s : State) (p : Nat) (v : Word), p < 4 → v.toNat % 4 ≠ 3 → 1 ≤ v.toNat / 8 % 8 → v.toNat / 8 % 8 ≤ 4 →
      s.sessions.any (fun e => e.2.claims.any (fun w => w.port == p)) = false →
    answers (.portCfgWrite p v) s fun t =>
      t.rd Reg.PORT_CFG_MODE p = v.toNat % 4 ∧ t.rd Reg.PORT_CFG_MAX_RATE p = v.toNat / 8 % 8
        ∧ t.rd Reg.PORT_CFG_BIFURCATE p = v.toNat / 4 % 2)
  ∧ (∀ (s : State) (p : Nat) (v : Word), p < 4 → v.toNat % 4 ≠ 3 → 1 ≤ v.toNat / 8 % 8 → v.toNat / 8 % 8 ≤ 4 →
      s.sessions.any (fun e => e.2.claims.any (fun w => w.port == p)) = true → v.toNat % 4 ≠ s.rd Reg.PORT_CFG_MODE p →
    answers (.portCfgWrite p v) s fun t =>
      t.rd Reg.PORT_CFG_MODE p = s.rd Reg.PORT_CFG_MODE p ∧ t.bit Reg.PORT_EVENT_MODE_REJECT p = true)

/-- SESSION CREATE, MODIFY, FENCE and GET do to the entry what R60 to R62 say, a refusal changes no session, and a drain
frees the entry. On an open command path SESSION CREATE that no row of Table 3-5 refuses makes a Free entry Active
with the words given and the next generation and answers reason 0; one that is refused answers Invalid Input with its
reason, shows it and leaves every session. SESSION MODIFY of an Active entry is kept for the next stroke boundary;
SESSION FENCE makes it Fencing with step 1 due; SESSION GET returns the 64 bytes of the entry. FENCE_DRAIN_END of a
drained Fencing entry frees it and keeps only its generation. (R59, R60, R61, R62, Table 3-4, Table 3-5) -/
def Obligations.SessionCommands : Prop :=
  (∀ (s : State) (p : CmdPath) (n : Nat) (w : SessWords), s.start.step3 = true → s.resent p (.sessionCreate p n w) = none →
      s.accepts .admin p = true →
    (s.createReason p n w = 0 → (s.sess n).state = .free →
      answers (.sessionCreate p n w) s fun t =>
        t.sess n = { ((s.sess n).load w) with state := .active, gen := ((s.sess n).gen + 1) % 65536, allowStall := 0,
                                              reads := 0, writes := 0 }
          ∧ Out.response p .success 0 ([0, 2] ++ leBytes 2 (((s.sess n).gen + 1) % 65536)) ∈ t.out)
    ∧ (s.createReason p n w ≠ 0 → s.createReason p n w < 256 →
      answers (.sessionCreate p n w) s fun t =>
        t.sessions = s.sessions ∧ t.rd Reg.SESS_CMD_REJECT_LAST_REASON = s.createReason p n w
          ∧ Out.response p .invalidInput 0 ([s.createReason p n w, (s.sess n).state.code] ++ leBytes 2 (s.sess n).gen) ∈ t.out))
  ∧ (∀ (s : State) (p : CmdPath) (n : Nat) (m : SessModify), s.start.step3 = true → s.resent p (.sessionModify p n m) = none →
      s.accepts .admin p = true → s.modifyReason p n m = 0 → (s.sess n).state = .active →
    answers (.sessionModify p n m) s fun t => t.sess n = { s.sess n with modify := some m })
  ∧ (∀ (s : State) (p : CmdPath) (n : Nat), s.start.step3 = true → s.resent p (.sessionFence p n) = none →
      s.accepts .admin p = true → n < sessionCount → s.onR59 p = true → (s.sess n).state = .active →
    answers (.sessionFence p n) s fun t => t.sess n = { s.sess n with state := .fencing, fenceDue := true, modify := none })
  ∧ (∀ (s : State) (p : CmdPath) (n : Nat), s.start.step3 = true → s.resent p (.sessionGet p n) = none →
      s.accepts .admin p = true → n < sessionCount → s.onR59 p = true →
    answers (.sessionGet p n) s fun t =>
      Out.response p .success 0 ([0, 0, 0, 0] ++ (s.sess n).view.flatMap (leBytes 4)) ∈ t.out ∧ t.sessions = s.sessions
        ∧ t.regs = s.regs)
  ∧ (∀ (s : State) (n : Nat), s.drained n = true → (s.sess n).state = .fencing →
    answers (.fenceDrainEnd n) s fun t => t.sess n = { gen := (s.sess n).gen })

/-- The allowance check passes or stalls the head of a lane, and a refill moves two spilled descriptors in order.
ALLOWANCE_CHECK of a good MEM_RD at the head of an Active session outside HDM-DB, with a tracker and allowance left,
takes one tracker and one line of the read allowance; without allowance it stalls the session once per stroke and
takes nothing. A write with a record free takes a tracker and one line of the write allowance. SPILL_REFILL of an
empty head moves descriptors up and keeps their order. (R55, R57, R66, R148) -/
def Obligations.QueuedRequestsPass : Prop :=
  (∀ (s : State) (n : Nat) (d : Desc) (r : List Desc), (s.sess n).rd.head = d :: r → s.serving = true →
      (s.sess n).state = .active → (s.sess n).withdrawn = false → d.orphaned = false → d.bad = 0 → d.op = .memRd →
      d.db = false → s.mayTrack n d.port d.link = true →
    ((s.sess n).rdUsed < (s.sess n).readAllow →
      answers (.allowanceCheck n .read 0 ⟨0, 0⟩ false) s fun t =>
        t.nextRid = s.nextRid + 1 ∧ (t.sess n).rdUsed = (s.sess n).rdUsed + 1)
    ∧ ((s.sess n).readAllow ≤ (s.sess n).rdUsed → (s.sess n).stalled = false →
      answers (.allowanceCheck n .read 0 ⟨0, 0⟩ false) s fun t =>
        t.sess n = { s.sess n with stalled := true, allowStall := min ((s.sess n).allowStall + 1) 0xFFFF,
                                   rd := { (s.sess n).rd with waits := true } }
          ∧ t.reqs = s.reqs ∧ t.nextRid = s.nextRid))
  ∧ (∀ (s : State) (n : Nat) (d : Desc) (r : List Desc) (c : Cell) (h : Nat) (x : Option Nat), (s.sess n).wr.head = d :: r →
      s.serving = true → (s.sess n).state = .active → (s.sess n).withdrawn = false → d.orphaned = false → d.bad = 0 →
      d.op = .memWr → d.db = false → s.mayTrack n d.port d.link = true → (s.sess n).wrUsed < (s.sess n).writeAllow →
      s.erasing d.line = false → s.unverified d.line = false → s.merge.cells.find d.cell = some c →
      s.mergeRoom { line := d.line, data := c.data, be := d.be, poison := d.poison, cellBad := c.bad, fBad := false } true
        = .go h x → d.sess = n →
    answers (.allowanceCheck n .write 0 ⟨0, 0⟩ false) s fun t =>
      t.nextRid = s.nextRid + 1 ∧ (t.sess n).wrUsed = (s.sess n).wrUsed + 1 ∧ t.lineBusy d.line = true)
  ∧ (∀ (s : State) (n : Nat) (l : Lane), ((s.sess n).lane l).head = [] → ((s.sess n).lane l).spill ≠ [] →
    answers (.spillRefill n l ⟨0, 0⟩) s fun t =>
      ((t.sess n).lane l).all = ((s.sess n).lane l).all ∧ ((t.sess n).lane l).head ≠ [])

/-- Lookups, probes, slice fills, merges and fills: what each return does for the request or the line that waits for it.
MERGE_BUFFER_LOOKUP_RETURN that misses marks the request looked up, and one that hits a full, good entry sends its
data. READ_CACHE_PROBE_RETURN that hits with a fresh epoch gives the request that line. SLICE_FILL_INSTALL puts the
line into its slice where a way is on and no victim of its set has a write-through that has not merged. MERGE_COMPLETE
sends Cmp and frees the tracker. FILL_RETURN merges the fetched bytes under the mask. (R30, R15, R16, R149, R148,
R169, R179) -/
def Obligations.ReadSourcesAnswer : Prop :=
  (∀ (s : State) (rid u : Nat) (r : Req), s.reqs.find rid = some r → r.stage = .lookup → r.looked = false →
      s.entry r.line = none → r.result = none →
    answers (.mergeBufferLookupReturn rid u ⟨0, 0⟩) s fun t => t.reqs.find rid = some { r with looked := true })
  ∧ (∀ (s : State) (rid u : Nat) (r : Req) (e : Entry), s.reqs.find rid = some r → r.stage = .lookup → r.looked = false →
      s.entry r.line = some e → e.state = .dirty → e.full = true → e.poison = false → e.fillBad = false → r.discard = false →
      r.port < 4 → r.link < 2 → s.linkUp r.port r.link = true → s.insecure r.port r.link = false →
    answers (.mergeBufferLookupReturn rid u ⟨0, 0⟩) s fun t => ∃ m l, Out.drs r.port r.link r.ld r.tag e.data false m l ∈ t.out)
  ∧ (∀ (s : State) (rid : Nat) (r : Req) (epoch : Nat) (d : LineData), s.reqs.find rid = some r → r.probing = true →
      r.result = none → r.partialHit = false → r.refetch = false → r.looked = false →
      s.cache.rc.find (rcIndex r.line) = some (rcTag r.line, epoch, d) →
      laterEpoch epoch (s.tract (tractOf r.line)).lw = true →
    answers (.readCacheProbeReturn rid ⟨0, 0⟩) s fun t =>
      t.reqs.find rid = some { r with probing := false, result := some (d, false, true) })
  ∧ (∀ (s : State) (k line w : Nat) (x : SliceFill),
      s.cache.fills.find? (fun x => x.slice == k && x.line == line) = some x → s.setHeld k line = false → x.bad = false →
      x.overtaken = false → s.wayFor k line = some w → (∀ v, s.victimAt k line w = some v → s.wtInFlight k v = false) →
    answers (.sliceFillInstall k line) s fun t => ∃ st, t.sliceLine line k = some ⟨st, x.data, w⟩)
  ∧ (∀ (s : State) (line rid : Nat) (r : Req),
      s.reqs.find? (fun e => e.2.line == line && e.2.stage == .merging) = some (rid, r) → r.discard = false → r.port < 4 →
      r.link < 2 → s.linkUp r.port r.link = true → s.insecure r.port r.link = false →
    answers (.mergeComplete line) s fun t =>
      (∃ l, Out.ndr r.port r.link r.ld r.tag .cmp l ∈ t.out) ∧ t.reqs.find rid = none)
  ∧ (∀ (s : State) (line n : Nat) (a b c : MediaErr) (j : Job) (e : Entry) (d : LineData) (k : Nat),
      s.sched.jobs.find? (fun x => x.2.line == line && x.2.why == .fill && x.2.phase == .placed && decide (x.2.stroke ≤ s.stroke))
        = some (n, j) → s.entry line = some e → e.full = false → s.dieFailed j.mp = false →
      s.decodeAt j.mp j.ln a = .good d k →
    answers (.fillReturn line a b c .ok) s fun t =>
      t.entry line = some { e with data := mergeBytes d e.data e.mask, mask := fullMask, fillPend := false })

/-- A budget write that passes R158 takes effect, PERSIST AT joins a pending point, a point completes when nothing is
left, GPF is acknowledged. MERGE_CFG_WRITE with a budget of 1 to 48, a hold-up of at least 100 and a pair that passes
R158 puts all three fields in force; a changed pair that does not pass leaves them and sets CFG_REJECT. PERSIST AT of
a later stroke within 2^24 joins or makes the point at that stroke and answers Background Command Started.
PERSISTENCE_POINT_COMPLETE of a point with nothing left keeps its stroke as the last point, removes it and answers
every command that waits for it. GPF_PHASE1 is acknowledged and leaves the merge buffer; GPF_PHASE2 puts its port into
the point at the next stroke. MERGE_POINT_LO_READ returns the low half of the last completion stroke and latches the
high half. (R156, R158, R159, R160, R161, R167) -/
def Obligations.PersistencePointsAndBudget : Prop :=
  (∀ (s : State) (v : Word), 1 ≤ v.toNat % 64 → v.toNat % 64 ≤ 48 → 100 ≤ v.toNat / 256 % 256 →
      budgetFits (v.toNat % 64) (v.toNat / 256 % 256) = true →
    answers (.mergeCfgWrite v) s fun t =>
      t.rd Reg.MERGE_CFG_BUDGET = v.toNat % 64 ∧ t.rd Reg.MERGE_CFG_HOLDUP = v.toNat / 256 % 256
        ∧ t.rd Reg.MERGE_CFG_MIN_AGE = v.toNat / 65536 % 256 ∧ t.merge = s.merge)
  ∧ (∀ (s : State) (v : Word), v.toNat % 64 ≠ s.rd Reg.MERGE_CFG_BUDGET →
      budgetFits (v.toNat % 64) (v.toNat / 256 % 256) = false →
    answers (.mergeCfgWrite v) s fun t =>
      t.bit Reg.MERGE_STATUS_CFG_REJECT = true ∧ t.rd Reg.MERGE_CFG_BUDGET = s.rd Reg.MERGE_CFG_BUDGET
        ∧ t.rd Reg.MERGE_CFG_HOLDUP = s.rd Reg.MERGE_CFG_HOLDUP ∧ t.rd Reg.MERGE_CFG_MIN_AGE = s.rd Reg.MERGE_CFG_MIN_AGE
        ∧ t.merge = s.merge ∧ t.keep = s.keep)
  ∧ (∀ (s : State) (p : CmdPath) (S : Nat), heard s p (.persistAt p S) .any → s.bgBusy p = false → s.stroke < S →
      S ≤ s.stroke + 2 ^ 24 → (∀ q, s.merge.lastPoint = some q → q < S) → (s.pointAt S = true ∨ s.pointsFull = false) →
    answers (.persistAt p S) s fun t =>
      t.merge.points.any (fun q => q.stroke == S && q.waiting.contains p) = true
        ∧ Out.response p .backgroundStarted 0 [] ∈ t.out ∧ t.merge.entries = s.merge.entries)
  ∧ (∀ (s : State) (S : Nat) (p : Point), s.merge.points.find? (fun p => p.stroke == S) = some p → S ≤ s.stroke →
      s.pointLeft p = 0 →
    answers (.persistencePointComplete S) s fun t =>
      t.merge.lastPoint = some S ∧ t.merge.pointDone = s.stroke ∧ t.pointAt S = false ∧ t.merge.entries = s.merge.entries
        ∧ ∀ c ∈ p.waiting, Out.response c .success 0 (pointOutput s.stroke (s.pinnedOf p).length) ∈ t.out)
  ∧ (∀ (s : State) (S : Nat) (p : Point), s.merge.points.find? (fun p => p.stroke == S) = some p → s.pointLeft p ≠ 0 →
    answers (.persistencePointComplete S) s fun t => t.merge = s.merge)
  ∧ (∀ (s : State) (port : Nat), answers (.gpfPhase1 port) s fun t => Out.gpfAck port 1 ∈ t.out ∧ t.merge = s.merge)
  ∧ (∀ (s : State) (port : Nat), answers (.gpfPhase2 port) s fun t =>
      t.merge.points.any (fun q => q.stroke == s.stroke + 1 && q.gpf && q.gpfPorts.contains port) = true
        ∧ t.merge.entries = s.merge.entries)
  ∧ (∀ s : State, answers .mergePointLoRead s fun t =>
      t.rd Reg.MERGE_POINT_HI_STROKE_HI = s.merge.pointDone / 2 ^ 32 % 2 ^ 32
        ∧ Out.readValue 0x600024 (s.merge.pointDone % 2 ^ 32) ∈ t.out ∧ t.merge = s.merge)

/-- Cache registers, way-group cleaning, RELEASE RANGE and the poison commands do what R136, R172, R176, R190, R203 and
R335 say. CACHE_WAY_CFG_WRITE and CACHE_RC_CFG_WRITE take their fields and leave the caches until the next stroke
boundary. WAY_GROUP_CLEANING_END of a group being cleaned without a write-through in flight leaves no line of the
group and clears its cleaning bit. RELEASE_RANGE of a mapped range of whole pages, INJECT_POISON and CLEAR_POISON of a
mapped line become the running device-internal write. BACK_INVALIDATE_WALK_END, once no copy of the range is left,
poisons the entry of an injected line and answers, and starts the release of a range. RELEASE_RANGE_COMPLETE ends a
range with nothing left and returns its counts. (R136, R172, R176, R190, R203, R335) -/
def Obligations.CachesAndInternalWrites : Prop :=
  (∀ (s : State) (i : Nat) (v : Word), i < 4 →
    answers (.cacheWayCfgWrite i v) s fun t => t.rd Reg.CACHE_WAY_CFG_GROUP_EN i = v.toNat % 256 ∧ t.cache = s.cache)
  ∧ (∀ (s : State) (v : Word), answers (.cacheRcCfgWrite v) s fun t =>
      t.bit Reg.CACHE_RC_CFG_EN = v.getLsbD 0 ∧ t.bit Reg.CACHE_RC_CFG_SPEC_FILL_EN = v.getLsbD 1 ∧ t.cache = s.cache)
  ∧ (∀ (s : State) (i g : Nat), i < 4 → s.cache.cleaning.getD i 0 / 2 ^ g % 2 = 1 → s.groupBusy i g = false →
    answers (.wayGroupCleaningEnd i g) s fun t =>
      t.cache.lines.any (fun e => e.1 % 4 == i && groupOf e.2.way == g) = false
        ∧ t.cache.cleaning.getD i 0 = s.cache.cleaning.getD i 0 - 2 ^ g ∧ t.cache.enabled = s.cache.enabled)
  ∧ (∀ (s : State) (p : CmdPath) (a n f c : Nat), heard s p (.releaseRange p a n) .any → s.ready = true → n ≠ 0 →
      wholePages a n = true → s.cmdRange p a (n / 64) = some [(f, c)] → s.bgBusy p = false → s.internals = [] →
    answers (.releaseRange p a n) s fun t =>
      (∃ x, t.internals = [x] ∧ x.kind = .releaseRange ∧ x.first = f ∧ x.count = c ∧ x.walked = false ∧ x.path = some p)
        ∧ Out.response p .backgroundStarted 0 [] ∈ t.out)
  ∧ (∀ (s : State) (p : CmdPath) (a l : Nat), heard s p (.injectPoison p a) .any → s.ready = true → a % 64 = 0 →
      s.cmdLine p a = some l → s.internals = [] →
    answers (.injectPoison p a) s fun t =>
      t.internals = [{ kind := .injectPoison, first := l, count := 1, path := some p }])
  ∧ (∀ (s : State) (p : CmdPath) (a l : Nat) (d : LineData), heard s p (.clearPoison p a d) .any → s.ready = true →
      a % 64 = 0 → s.cmdLine p a = some l → s.internals = [] →
    answers (.clearPoison p a d) s fun t =>
      t.internals = [{ kind := .poisonClear, first := l, count := 1, data := d, path := some p }])
  ∧ (∀ (s : State) (i : Internal) (r : List Internal) (p : CmdPath), s.internals = i :: r → i.kind = .injectPoison →
      i.walked = false → i.path = some p → s.sweepInternal.walked = true →
    answers .backInvalidateWalkEnd s fun t =>
      (∃ e, t.entry i.first = some e ∧ e.poison = true) ∧ t.internals = r ∧ Out.response p .success 0 [] ∈ t.out)
  ∧ (∀ (s : State) (i : Internal) (r : List Internal), s.internals = i :: r → i.kind = .releaseRange → i.walked = false →
      s.sweepInternal.walked = true →
    answers .backInvalidateWalkEnd s fun t =>
      t.internals = { i with walked := true, left := s.edgePages i.first i.count } :: r)
  ∧ (∀ (s : State) (i : Internal) (r : List Internal) (p : CmdPath), s.internals = i :: r → i.kind = .releaseRange →
      i.walked = true → i.left = [] → i.path = some p → s.mappedInside i = [] → s.dirtyInside i = false →
    answers .releaseRangeComplete s fun t =>
      t.internals = r ∧ Out.response p .success 0 (leBytes 8 i.pagesIn ++ leBytes 8 i.tractsIn) ∈ t.out)

/-- Sanitize and Secure Erase start over the whole device when authorised, and SANITIZE_COMPLETE clears the destroyed-key
marks. SANITIZE and SECURE_ERASE on a path of class Admin, with the device Ready, no erase running and authority for
that command, answer Background Command Started and become a device-internal write of every line; without authority
they answer Invalid Security State and start nothing. SANITIZE_COMPLETE, once every block queued in step 4 has been
preconditioned, leaves no slot marked destroyed and no erase running. (R222, R334, R190) -/
def Obligations.EraseCommandsRun : Prop :=
  (∀ (s : State) (p : CmdPath), heard s p (.sanitize p) .admin → s.ready = true → s.bgBusy p = false → s.eraseRuns = false →
      s.eraseAllowed 1 = true →
    answers (.sanitize p) s fun t =>
      (∃ x, t.internals = [x] ∧ x.kind = .sanitize ∧ x.first = 0 ∧ x.count = s.capLines ∧ x.path = some p)
        ∧ Out.response p .backgroundStarted 0 [] ∈ t.out)
  ∧ (∀ (s : State) (p : CmdPath), heard s p (.sanitize p) .admin → s.ready = true → s.bgBusy p = false → s.eraseRuns = false →
      s.eraseAllowed 1 = false →
    answers (.sanitize p) s fun t =>
      t.internals = s.internals ∧ t.prot = s.prot ∧ Out.response p .invalidSecurityState 0 [] ∈ t.out)
  ∧ (∀ (s : State) (p : CmdPath), heard s p (.secureErase p) .admin → s.ready = true → s.bgBusy p = false →
      s.eraseRuns = false → s.eraseAllowed 2 = true →
    answers (.secureErase p) s fun t =>
      (∃ x, t.internals = [x] ∧ x.kind = .secureErase ∧ x.first = 0 ∧ x.count = s.capLines ∧ x.path = some p)
        ∧ Out.response p .backgroundStarted 0 [] ∈ t.out)
  ∧ (∀ s : State, s.prot.slots.any (fun e => e.2.destroyed) = true → s.start.step6 = true →
      s.internals.any (fun i => i.group != 0) = false → s.prot.eraseLeft.any (fun b => s.xlat.precondQ.contains b) = false →
    answers .sanitizeComplete s fun t =>
      t.prot.slots.any (fun e => e.2.destroyed) = false ∧ t.prot.erasePath = none ∧ t.pages = s.pages)

/-- Moves commit stripes, lifted pages enter the fluid table, reclaim keeps RECENT, and settle-back removes the entry.
MOVE_STRIPE_COMMIT of a stripe whose pages all verify writes its parity page and marks the move committed. LIFT_VERIFY
of a gathered stripe makes the fluid entry name the appended page, RECENT set. RECLAIM_COPY_COMMIT does so, RECENT
kept, only if the entry still names the source. HEAT_HALVING halves every heat count. SETTLE_BACK_WALK clears RECENT
of an entry that has it and starts nothing. SETTLE_BACK_COMMIT of a Settled tract removes the fluid entry and the
settle-back. (R117, R118, R119, R128, R130) -/
def Obligations.MovesAppendsAndSettleBacks : Prop :=
  (∀ (s : State) (n : Nat) (m : Move) (l : List MPage), s.xlat.moves.find? (fun m => m.tract == n) = some m →
      m.load = some l → m.committed = false → m.failed = [] →
    answers (.moveStripeCommit n) s fun t =>
      t.xlat.moves.find? (fun m => m.tract == n) = some { m with committed := true, carried := [] }
        ∧ t.pages.find (mpOf (s.tract n).sb (s.tract n).ptr (parityPos (s.tract n).sb (s.tract n).ptr))
            = some (parityPage l s.ageNow)
        ∧ t.tract n = s.tract n)
  ∧ (∀ (s : State) (n : Nat) (c : Copy), s.xlat.copies.find? (fun c => c.lpn == n && c.why != .reclaim) = some c →
      s.stripeGathered c.dst = true →
    answers (.liftVerify n) s fun t =>
      t.xlat.fluid.find n = some (c.dst, true) ∧ t.xlat.copies = s.xlat.copies.filter (fun x => x.lpn != n))
  ∧ (∀ (s : State) (n mp : Nat) (recent : Bool) (c : Copy), s.xlat.copies.find? (fun c => c.lpn == n && c.why == .reclaim) = some c →
      s.stripeGathered c.dst = true → s.xlat.fluid.find n = some (mp, recent) →
    answers (.reclaimCopyCommit n) s fun t =>
      (c.src = some mp → t.xlat.fluid.find n = some (c.dst, recent)) ∧ (c.src ≠ some mp → t.xlat.fluid = s.xlat.fluid))
  ∧ (∀ s : State, s.rd Reg.XLAT_CFG_HEAT_HALF ≤ s.xlat.heatEpochs →
    answers .heatHalving s fun t =>
      t.xlat.heatEpochs = 0 ∧ (∀ k n, (k, n) ∈ s.merge.heat → 2 ≤ n → (k, n / 2) ∈ t.merge.heat)
        ∧ (∀ k n, (k, n) ∈ t.merge.heat → n ≠ 0 ∧ ∃ m, (k, m) ∈ s.merge.heat ∧ n = m / 2) ∧ t.merge.entries = s.merge.entries)
  ∧ (∀ (s : State) (b n mp : Nat), s.xlat.fluid.filter (fun e => bucketOf e.1 == b) = [(n, mp, true)] →
    answers (.settleBackWalk b) s fun t =>
      t.xlat.fluid = s.xlat.fluid.put n (mp, false) ∧ t.xlat.settles = s.xlat.settles ∧ t.pages = s.pages)
  ∧ (∀ (s : State) (n : Nat) (x : Settle), s.xlat.settles.find? (fun x => x.lpn == n) = some x →
      (s.tract (tractOfLpn n)).state = .settled →
    answers (.settleBackCommit n) s fun t =>
      t.xlat.fluid.find n = none ∧ t.xlat.settles = s.xlat.settles.filter (fun y => y.lpn != n))

/-- Reclaim of an empty block, preconditions, the fill timeout, checkpoints and the XLAT_ map registers. RECLAIM of a
block without valid pages queues it for precondition or retires it. PRECONDITION_COMPLETE without a failed reset block
frees the block, counts the precondition and takes it off the queues; with one it retires the block and records
FAILED_RB. POOL_FILL_TIMEOUT completes the open stripe to its seventh data page. BLOCK_RECORD_CHECKPOINT keeps the
block records under the number that is due, in two copies at most, with dirty integrity metadata written back.
FREE_BLOCK_REPRECONDITION queues a free block older than the horizon. XLAT_MAP_IDX_WRITE shows the tract map entry of
its tract, and XLAT_SEQ_LO_READ returns the low half of SEQ and latches the high half. (R123, R125, R127, R129, R142,
R208, R228) -/
def Obligations.BlocksAndTheirRecords : Prop :=
  (∀ (s : State) (c b : Nat) (k : Block), s.capoHeld = false → s.start.step6 = true → s.reclaimBlock c = some (b, k) → k.valid = 0 →
    answers (.reclaim c) s fun t =>
      (t.block b).tract = none ∧ ((t.block b).pool = .retired ∨ ((t.block b).pool = .awaiting ∧ b ∈ t.xlat.precondQ)))
  ∧ (∀ (s : State) (b : Nat), s.preconditioning.contains b = true →
    answers (.preconditionComplete b 0) s fun t =>
      (t.block b).pool = .free ∧ (t.block b).precond = (s.block b).precond + 1 ∧ (t.block b).valid = 0
        ∧ b ∉ t.xlat.precondQ ∧ b ∉ t.xlat.again ∧ ∀ e ∈ t.pages, mpSbn e.1 ≠ b)
  ∧ (∀ (s : State) (b : Nat) (f : BitVec 8), s.preconditioning.contains b = true → f ≠ 0 →
    answers (.preconditionComplete b f) s fun t =>
      (t.block b).pool = .retired ∧ (t.block b).failedRb = (s.block b).failedRb ||| f ∧ b ∉ t.xlat.precondQ)
  ∧ (∀ (s : State) (c : Nat) (hot : Bool) (x : OpenBlock), s.xlat.opens.find (openKey hot c) = some x → x.gathered ≠ 0 →
      x.since + s.rd Reg.XLAT_FILL_CFG_FILL_TIMEOUT ≤ s.stroke → (s.block x.sbn).fill < 1792 →
    answers (.poolFillTimeout c hot) s fun t => (t.block x.sbn).fill = ((s.block x.sbn).fill + 6) / 7 * 7)
  ∧ (∀ s : State, s.start.step6 = true → s.xlat.checkpoints.any (fun c => c.number == s.checkpointNo) = false →
    answers .blockRecordCheckpoint s fun t =>
      ⟨s.checkpointNo, s.xlat.blocks⟩ ∈ t.xlat.checkpoints ∧ t.xlat.checkpoints.length ≤ 2 ∧ t.prot.dirtyNodes = []
        ∧ t.xlat.blocks = s.xlat.blocks)
  ∧ (∀ (s : State) (b : Nat), s.capoHeld = false → s.isFree b = true →
      s.horizon < s.stroke - (s.block b).time * 2 ^ 20 →
    answers (.freeBlockReprecondition b) s fun t => b ∈ t.xlat.again ∧ t.xlat.blocks = s.xlat.blocks)
  ∧ (∀ (s : State) (v : Word), answers (.xlatMapIdxWrite v) s fun t =>
      t.rd Reg.XLAT_MAP_IDX_TRACT = v.toNat % 2 ^ 20 ∧ t.bit Reg.XLAT_MAP_IDX_READY = true
        ∧ t.rd Reg.XLAT_MAP_LO_ENTRY_LO = (s.tract (v.toNat % 2 ^ 20)).word % 2 ^ 32
        ∧ t.rd Reg.XLAT_MAP_HI_ENTRY_HI = (s.tract (v.toNat % 2 ^ 20)).word / 2 ^ 32 % 2 ^ 32 ∧ t.xlat = s.xlat)
  ∧ (∀ s : State, answers .xlatSeqLoRead s fun t =>
      t.rd Reg.XLAT_SEQ_HI_SEQ_HI = s.xlat.seq / 2 ^ 32 % 2 ^ 32 ∧ Out.readValue 0x500038 (s.xlat.seq % 2 ^ 32) ∈ t.out
        ∧ t.xlat = s.xlat)

/-- A motion without a fault is lodged, a valid second makes it apply, and its effect is the one Table 10-5 gives it.
MOTION whose checks find nothing is Lodged, takes its nonce and answers reason 0 and state 1; one that fails a check
changes nothing of protection and answers the reason. SECOND whose checks find nothing, its motion still valid, makes
the motion Applying without effect yet. MOTION_STATUS answers the state and changes nothing. MOTION_LAPSE drops a
motion lodged for more than 120 s and no other. MOTION_APPLY of the one motion whose keep write has ended gives it its
effect: the anchor, a binding, a defined range, the officers. ERASE_AUTH_EXPIRY withdraws an ERASE_AUTH after 120 s.
REKEY_PASS_END destroys the old key set. (R221, R222, R234, R237, R238, R239, R241, Table 10-5, Table 10-6) -/
def Obligations.MotionsAreLodgedSecondedAndApplied : Prop :=
  (∀ (s : State) (p : CmdPath) (m : Motion), heard s p (.motion p m) .mgmt → s.motionReason m = 0 → unsignedSet m = false →
    answers (.motion p m) s fun t =>
      t.prot.lodged = s.prot.lodged ++ [⟨m, s.stroke, none, 255, 0, false, 0, 0, 0⟩]
        ∧ t.prot.nonces = s.prot.nonces.set m.officer m.nonce ∧ t.prot.ranges = s.prot.ranges
        ∧ t.prot.officers = s.prot.officers ∧ Out.response p .success 0 [0, 1] ∈ t.out)
  ∧ (∀ (s : State) (p : CmdPath) (m : Motion), heard s p (.motion p m) .mgmt → s.motionReason m ≠ 0 →
    answers (.motion p m) s fun t =>
      t.prot = s.prot ∧ Out.response p .success 0 [s.motionReason m, s.motionState m] ∈ t.out)
  ∧ (∀ (s : State) (p : CmdPath) (m : Second) (l : Lodged), heard s p (.second p m) .mgmt → s.secondReason m = 0 →
      s.findLodged m.motion = some l → s.argsOk m.motion.args = true →
      (s.onlyLodged.filter (fun x => !decide (x.motion = m.motion))).any (fun x => motionsConflict x.motion.args m.motion.args) = false →
    answers (.second p m) s fun t =>
      t.motionState m.motion = 2 ∧ t.prot.ranges = s.prot.ranges ∧ t.prot.officers = s.prot.officers
        ∧ t.prot.slots = s.prot.slots ∧ t.prot.bindings = s.prot.bindings ∧ t.prot.anchor = s.prot.anchor)
  ∧ (∀ (s : State) (p : CmdPath) (m : Second), heard s p (.second p m) .mgmt → s.secondReason m ≠ 0 →
    answers (.second p m) s fun t =>
      t.prot = s.prot ∧ Out.response p .success 0 [s.secondReason m, s.motionState m.motion] ∈ t.out)
  ∧ (∀ (s : State) (p : CmdPath) (m : Motion), heard s p (.motionStatus p m) .mgmt →
    answers (.motionStatus p m) s fun t =>
      Out.response p .success 0 [0, if s.motionState m = 2 then 0 else s.motionState m] ∈ t.out ∧ t.prot = s.prot)
  ∧ (∀ (s : State) (m : Motion) (l : Lodged), s.findLodged m = some l → l.group = 0 →
    (l.stroke + lodgeStrokes < s.stroke → answers (.motionLapse m) s fun t =>
      t.findLodged m = none ∧ t.rd Reg.PROT_LAPSE_CNT = min (s.rd Reg.PROT_LAPSE_CNT + 1) (2 ^ 32 - 1)
        ∧ t.prot.ranges = s.prot.ranges ∧ t.prot.officers = s.prot.officers)
    ∧ (s.stroke ≤ l.stroke + lodgeStrokes → answers (.motionLapse m) s fun t => t.prot = s.prot))
  ∧ (∀ (s : State) (l : Lodged), s.prot.lodged.filter (·.kept) = [l] →
    answers .motionApply s fun t =>
      l.motion ∈ t.prot.applied ∧ t.findLodged l.motion = none
        ∧ (∀ d, l.motion.args = .anchor d → t.prot.anchor = d ∧ t.prot.ranges = s.prot.ranges ∧ t.prot.officers = s.prot.officers)
        ∧ (∀ q k i n, l.motion.args = .bind q k i n → (⟨q, k, i⟩, n) ∈ t.prot.bindings ∧ t.prot.ranges = s.prot.ranges)
        ∧ (∀ n g e im b z y, l.motion.args = .rangeDefine n g e im b z y → t.prot.ranges.get {} n = ⟨true, b, z, g⟩)
        ∧ (∀ ks, l.motion.args = .officerSet ks → t.prot.officers = ks ∧ t.onlyLodged = [] ∧ t.prot.ranges = s.prot.ranges))
  ∧ (∀ (s : State) (w st : Nat), s.prot.eraseAuth = some (w, st) →
    answers .eraseAuthExpiry s fun t =>
      t.prot.eraseAuth = if st + lodgeStrokes < s.stroke then none else some (w, st))
  ∧ (∀ (s : State) (r : Rekey) (rest : List Rekey), s.prot.rekeys = r :: rest → s.passDone r = true →
    answers .rekeyPassEnd s fun t =>
      t.prot.rekeys = rest ∧ (t.prot.slots.get {} r.range).old = none ∧ t.internals = s.internals.tail
        ∧ (r.deleting = true → t.prot.ranges.find r.range = none ∧ (t.prot.slots.get {} r.range).keySet = none)
        ∧ (r.deleting = false → (t.prot.slots.get {} r.range).keySet = (s.prot.slots.get {} r.range).keySet))

/-- A bad key slot comes again from the keep or is lost; IDE keys, K_SET_GO and K_SET_STOP act on an open stream; SPDM
answers. KEY_SLOT_REUNSEAL takes the slot off the bad ones, and makes its range lost if the keep has no good copy.
IDE_KEY_PROG in an SPDM secure session on a link that is up programs that key set of that direction only. IDE_K_SET_GO
of a programmed set starts its direction, and the stream is secure once both directions go. IDE_K_SET_STOP of the set
in use ends its direction, and a secure stream is secure no longer. SPDM_GET_MEASUREMENTS 1 to 6 answers what the
index covers. SPDM_SECURE_SESSION opens and closes the session of its port. (R219, R242, R243) -/
def Obligations.KeySlotsIdeAndSpdm : Prop :=
  (∀ (s : State) (n : Nat) (good : Bool), s.prot.slotBad.contains n = true →
    answers (.keySlotReunseal n good) s fun t =>
      n ∉ t.prot.slotBad ∧ t.prot.slotLost = (if good then s.prot.slotLost else s.prot.slotLost ++ [n])
        ∧ t.prot.slots = s.prot.slots)
  ∧ (∀ (s : State) (p l n : Nat) (d : IdeDir) (k : KeyName), s.ideOpen p l = true → n ≤ 1 →
    answers (.ideKeyProg p l d n k) s fun t =>
      (n = 0 → (t.ideStream p l).keys d = { (s.ideStream p l).keys d with set0 := some k })
        ∧ (n = 1 → (t.ideStream p l).keys d = { (s.ideStream p l).keys d with set1 := some k })
        ∧ (d = .rx → (t.ideStream p l).tx = (s.ideStream p l).tx) ∧ (d = .tx → (t.ideStream p l).rx = (s.ideStream p l).rx)
        ∧ t.ideState p l = s.ideState p l)
  ∧ (∀ (s : State) (p l n : Nat) (d : IdeDir), s.ideOpen p l = true → n ≤ 1 → ((s.ideStream p l).keys d).has n = true →
    answers (.ideKSetGo p l d n) s fun t =>
      ((t.ideStream p l).keys d).going = some n
        ∧ ((t.ideStream p l).rx.going.isSome = true → (t.ideStream p l).tx.going.isSome = true → t.ideState p l = 1))
  ∧ (∀ (s : State) (p l n : Nat) (d : IdeDir), s.ideOpen p l = true → ((s.ideStream p l).keys d).going = some n → n ≤ 1 →
    answers (.ideKSetStop p l d n) s fun t => ((t.ideStream p l).keys d).going = none ∧ t.ideState p l ≠ 1)
  ∧ (∀ (s : State) (p i : Nat), s.ioUp p = true → 1 ≤ i → i ≤ 6 →
    answers (.spdmGetMeasurements p i) s fun t => Out.spdm p i (s.measured i) ∈ t.out ∧ t.prot = s.prot)
  ∧ (∀ (s : State) (p : CmdPath) (ok : Bool), s.ioUp p.port = true →
    answers (.spdmSecureSession p ok) s fun t =>
      (t.prot.spdm.contains p.port = ok) ∧ ∀ q, q ≠ p.port → t.prot.spdm.contains q = s.prot.spdm.contains q)

/-- The patrol advances page by page and begins a new pass, late passes show, and SCRUB RANGE and Scan Media run one at a
time. PATROL_VISIT without errors moves on behind the page it visits while a page follows, and begins a new pass with
its time in LAST_PASS where none is left. PATROL_PASS_LATE beyond the effective pass sets PATROL_LATE, counts and
begins a new pass. ERR_PATROL_CFG_WRITE in range takes all three fields and out of range none, with CFG_REJECT.
ERR_LAST_UNCORR_LO_READ returns the low half and latches the high half. DEVICE_TEMPERATURE_CROSSING takes the
temperature, and sets TEMP where it crosses a threshold. SCRUB_RANGE and SCAN_MEDIA of device DPA start a run unless
one runs; SCRUB_RANGE_COMPLETE at the end of the range ends it with Success, before the end it changes nothing. (R204,
R205, R207, R209, R210, R212, R213, R214) -/
def Obligations.HealthPatrolAndScrub : Prop :=
  (∀ (s : State) (mp mp' : Nat) (p : MPage), s.droneRuns = true → s.patrolPages.find? (fun x => decide (s.err.patrolPos ≤ x)) = some mp →
      s.pages.find mp = some p → s.tooOld p = false → mp' ∈ s.patrolPages → mp < mp' →
    answers (.patrolVisit []) s fun t =>
      t.err.patrolPos = mp + 1 ∧ t.err.visited = s.err.visited + 1 ∧ t.err.patrolStart = s.err.patrolStart ∧ t.pages = s.pages)
  ∧ (∀ (s : State) (l : List LineErr), s.droneRuns = true → s.patrolPages.any (fun x => decide (s.err.patrolPos ≤ x)) = false →
    answers (.patrolVisit l) s fun t =>
      t.err.patrolPos = 0 ∧ t.err.patrolStart = s.stroke ∧ t.err.visited = 0
        ∧ t.rd Reg.ERR_PATROL_STATUS_LAST_PASS = min 255 ((s.stroke - s.err.patrolStart) / hourStrokes))
  ∧ (∀ s : State, s.droneRuns = true → s.err.patrolStart + s.effectivePass < s.stroke →
    answers .patrolPassLate s fun t =>
      t.bit Reg.ERR_HEALTH_EVENT_PATROL_LATE = true ∧ t.err.patrolPos = 0 ∧ t.err.patrolStart = s.stroke
        ∧ t.rd Reg.ERR_PATROL_STATUS_LATE = min (s.rd Reg.ERR_PATROL_STATUS_LATE + 1) 0xFFFF)
  ∧ (∀ s : State, s.stroke ≤ s.err.patrolStart + s.effectivePass → answers .patrolPassLate s fun t => t.err = s.err)
  ∧ (∀ (s : State) (v : Word), 1 ≤ v.toNat % 32 → v.toNat % 32 ≤ 24 → 1 ≤ v.toNat / 32 % 32 → v.toNat / 32 % 32 ≤ 14 →
      1 ≤ v.toNat / 1024 % 16 → v.toNat / 1024 % 16 ≤ 10 → v.toNat / 32 % 32 * dayStrokes ≤ 14 * s.img.tAge →
    answers (.errPatrolCfgWrite v) s fun t =>
      t.rd Reg.ERR_PATROL_CFG_PASS = v.toNat % 32 ∧ t.rd Reg.ERR_PATROL_CFG_HORIZON = v.toNat / 32 % 32
        ∧ t.rd Reg.ERR_PATROL_CFG_REFRESH_BITS = v.toNat / 1024 % 16)
  ∧ (∀ (s : State) (v : Word), v.toNat % 32 = 0 ∨ 24 < v.toNat % 32 →
    answers (.errPatrolCfgWrite v) s fun t =>
      t.bit Reg.ERR_STATUS_CFG_REJECT = true ∧ t.rd Reg.ERR_PATROL_CFG_PASS = s.rd Reg.ERR_PATROL_CFG_PASS
        ∧ t.rd Reg.ERR_PATROL_CFG_HORIZON = s.rd Reg.ERR_PATROL_CFG_HORIZON
        ∧ t.rd Reg.ERR_PATROL_CFG_REFRESH_BITS = s.rd Reg.ERR_PATROL_CFG_REFRESH_BITS)
  ∧ (∀ s : State, answers .errLastUncorrLoRead s fun t =>
      t.rd Reg.ERR_LAST_UNCORR_HI_DPA_HI = s.err.lastUncorrHi % 2 ^ 11
        ∧ Out.readValue 0x900020 (s.rd Reg.ERR_LAST_UNCORR_LO_DPA_LO) ∈ t.out ∧ t.err = s.err)
  ∧ (∀ (s : State) (c : Int), answers (.deviceTemperatureCrossing c) s fun t =>
      t.err.temp = c ∧ t.rd Reg.ERR_HEALTH_STATUS_TEMP = (c % 256).toNat
        ∧ (s.tempBeyond c = true → s.tempBeyond s.err.temp = false → t.bit Reg.ERR_HEALTH_EVENT_TEMP = true)
        ∧ (s.tempBeyond c = false → t.events = s.events))
  ∧ (∀ (s : State) (p : CmdPath) (a n : Nat), heard s p (.scrubRange p a n) .any → s.ready = true → wholePages a n = true →
      s.onR59 p = true → lineOf a + lineOf n ≤ s.capLines → s.scrubBusy p = false →
    answers (.scrubRange p a n) s fun t =>
      (∃ x, t.err.scrub = some x ∧ x.scan = false ∧ x.pieces = [(lineOf a, lineOf n)] ∧ x.path = p)
        ∧ t.bit Reg.ERR_STATUS_SCRUB_BUSY = true ∧ Out.response p .backgroundStarted 0 [] ∈ t.out)
  ∧ (∀ (s : State) (p : CmdPath) (a n : Nat) (l : List (Nat × Nat)), heard s p (.scanMedia p a n) .any → s.ready = true →
      s.cmdRange p a n = some l →
    (s.scrubBusy p = false → answers (.scanMedia p a n) s fun t =>
      (∃ x, t.err.scrub = some x ∧ x.scan = true ∧ x.pieces = l ∧ x.path = p)
        ∧ t.bit Reg.ERR_STATUS_SCRUB_BUSY = true ∧ Out.response p .backgroundStarted 0 [] ∈ t.out)
    ∧ (s.scrubBusy p = true → answers (.scanMedia p a n) s fun t => t.err = s.err ∧ Out.response p .busy 0 [] ∈ t.out))
  ∧ (∀ (s : State) (p : CmdPath) (a n : Nat) (l : List (Nat × Nat)), heard s p (.getScanMediaCapabilities p a n) .any →
      s.ready = true → s.cmdRange p a n = some l →
    answers (.getScanMediaCapabilities p a n) s fun t =>
      Out.response p .success 0
        (leBytes 4 ((64 * n + s.rd Reg.ERR_SCRUB_CFG_RATE * 1000000 - 1) / (s.rd Reg.ERR_SCRUB_CFG_RATE * 1000000))) ∈ t.out
        ∧ t.err = s.err)
  ∧ (∀ (s : State) (n : Nat) (l : List (Nat × LineErr)) (x : Scrub), s.err.scrub = some x → x.aborted = false → n < x.stop →
    answers (.scrubRangeComplete .complete n l) s fun t => t.err = s.err)
  ∧ (∀ (s : State) (n : Nat) (x : Scrub), s.err.scrub = some x → x.aborted = false → x.stop ≤ n →
    answers (.scrubRangeComplete .complete n []) s fun t =>
      t.err.scrub = none ∧ t.bit Reg.ERR_STATUS_SCRUB_BUSY = false ∧ (∃ d, Out.response x.path .success 0 d ∈ t.out)
        ∧ t.pages = s.pages)

/-- Transfer FW: Initiate opens a transfer, Continue and End program their units, Abort empties STAGING, and the flash
answers. TRANSFER_FW_FULL answers Invalid Input and changes no transfer. TRANSFER_FW_INITIATE of slot 2 with data that
is accepted opens a transfer holding it, with STAGING_STATE 1. TRANSFER_FW_CONTINUE and TRANSFER_FW_END of the open
transfer with new data program it. TRANSFER_FW_ABORT ends the open transfer with STAGING_STATE 0.
IMAGE_SLOT_FLASH_COMPLETE of a write that failed programs it again, and of the last write of a command answers
Success; of a LOAD TABLE chunk sends it to its channel. (R345, R94, Table 15-10) -/
def Obligations.TransfersFillStaging : Prop :=
  (∀ (s : State) (p : CmdPath), heard s p (.transferFwFull p) .admin →
    answers (.transferFwFull p) s fun t => Out.response p .invalidInput 0 [] ∈ t.out ∧ t.fw = s.fw ∧ t.keep = s.keep)
  ∧ (∀ (s : State) (p : CmdPath) (n : Nat) (l : List Nat) (h : ImageReport), heard s p (.transferFwInitiate p 2 n l h) .admin →
      s.stagingInUse = false → s.bgBusy p = false → s.fw.transfer = none → ({ path := p } : Transfer).refusal n l h = none →
    answers (.transferFwInitiate p 2 n l h) s fun t =>
      t.fw.transfer = some (({ path := p } : Transfer).program n l) ∧ t.descr.state = 1
        ∧ Out.response p .backgroundStarted 0 [] ∈ t.out)
  ∧ (∀ (s : State) (p : CmdPath) (n : Nat) (l : List Nat) (h : ImageReport) (x : Transfer),
      heard s p (.transferFwContinue p 2 n l h) .admin → s.fw.transfer = some x → samePath x.path p = true →
      s.bgBusy p = false → s.fw.cmd = none → x.refusal n l h = none →
    (x.holds n l = false → answers (.transferFwContinue p 2 n l h) s fun t =>
      t.fw.transfer = some (x.program n l) ∧ (t.fw.cmd.map (·.last)) = some false ∧ Out.response p .backgroundStarted 0 [] ∈ t.out)
    ∧ (x.holds n l = true → answers (.transferFwContinue p 2 n l h) s fun t =>
      t.fw = s.fw ∧ t.keep = s.keep ∧ Out.response p .success 0 [] ∈ t.out))
  ∧ (∀ (s : State) (p : CmdPath) (n : Nat) (l : List Nat) (h : ImageReport) (x : Transfer),
      heard s p (.transferFwEnd p 2 n l h) .admin → s.fw.transfer = some x → samePath x.path p = true →
      s.bgBusy p = false → s.fw.cmd = none → x.refusal n l h = none →
    answers (.transferFwEnd p 2 n l h) s fun t =>
      t.fw.transfer = some (x.program n l) ∧ (t.fw.cmd.map (·.last)) = some true ∧ Out.response p .backgroundStarted 0 [] ∈ t.out)
  ∧ (∀ (s : State) (p : CmdPath) (x : Transfer), heard s p (.transferFwAbort p) .admin → s.start.copying = false →
      s.fw.transfer = some x →
    answers (.transferFwAbort p) s fun t =>
      t.fw.transfer = none ∧ t.fw.cmd = none ∧ t.descr.state = 0 ∧ Out.response p .success 0 [] ∈ t.out)
  ∧ (∀ (s : State) (c : XferCmd) (x : Transfer) (n : Nat), s.inFlash .transfer = true → s.fw.cmd = some c →
      s.fw.transfer = some x →
    answers (.imageSlotFlashComplete (.transferWrite false n)) s fun t =>
      t.fw = s.fw ∧ t.imageOps = s.imageOps.tail ++ [ImageOp.transfer])
  ∧ (∀ (s : State) (c : XferCmd) (x : Transfer), s.inFlash .transfer = true → s.fw.cmd = some c → s.fw.transfer = some x →
      c.blocks = [] → c.ext = 0 → c.last = false →
    answers (.imageSlotFlashComplete (.transferWrite true 0)) s fun t =>
      t.fw.transfer = some x ∧ t.fw.cmd = none ∧ Out.response c.path .success 0 [] ∈ t.out)
  ∧ (∀ (s : State) (c : Nat), s.inFlash (.table c) = true → s.fw.oldBank = false →
    answers (.imageSlotFlashComplete (.tableChunk c)) s fun t =>
      Out.fipen c 0 0 .loadTable ∈ t.out ∧ t.imageOps = s.imageOps.tail ∧ t.fw = s.fw)

/-- Activate FW verifies STAGING, loads the tables, and takes effect at its stroke, when every channel uses the other
table bank. ACTIVATE_FW_ONLINE and ACTIVATE_AT of a valid STAGING start an activation; ACTIVATE_AT outside 1,024 to
2^24 strokes ahead starts none. The verification read of a good image begins the loading with its tables.
ACTIVATE_FW_NEXT_COLD_RESET of a good image leaves STAGING_STATE 3, of a faulty one 4. LOAD_TABLE_COMPLETE marks the
activation loaded, and on a failure drops it with STAGING_STATE 2. ACTIVATION_TAKE_EFFECT of a loaded activation that
is due makes its image the running one and every channel use the other table bank. OLD_BANK_RELEASE waits for the last
operation under the old bank. (R13, R94, R346, R347, Table 15-10) -/
def Obligations.ActivationsTakeEffect : Prop :=
  (∀ (s : State) (p : CmdPath), heard s p (.activateFwOnline p 2) .admin → s.ready = true → s.coordinated = false →
      s.bit Reg.MERGE_STATUS_CAPO = false → s.descr.state = 2 → s.fw.act = none → s.bgBusy p = false →
    answers (.activateFwOnline p 2) s fun t =>
      t.fw.act = some { kind := .online, path := some p, stroke := none } ∧ Out.response p .backgroundStarted 0 [] ∈ t.out)
  ∧ (∀ (s : State) (p : CmdPath) (S : Nat), heard s p (.activateAt p S) .admin → s.ready = true → s.coordinated = false →
      s.bit Reg.MERGE_STATUS_CAPO = false → s.descr.state = 2 → s.fw.act = none →
    (s.bgBusy p = false → s.stroke + 1024 ≤ S → S ≤ s.stroke + 2 ^ 24 → answers (.activateAt p S) s fun t =>
      t.fw.act = some { kind := .scheduled, path := some p, stroke := some S } ∧ Out.response p .backgroundStarted 0 [] ∈ t.out)
    ∧ (S < s.stroke + 1024 ∨ s.stroke + 2 ^ 24 < S → answers (.activateAt p S) s fun t =>
      t.fw = s.fw ∧ Out.response p .invalidInput 0 [] ∈ t.out))
  ∧ (∀ (s : State) (r : ImageReport) (a : Activation), s.inFlash .verify = true → s.fw.act = some a → r.fault = 0 →
      s.imageFault r = 0 →
    answers (.imageSlotFlashComplete (.activationRead r)) s fun t =>
      t.fw.act = some { a with stage := .loading, image := imgOf r, report := some r } ∧ t.descr.state = 3)
  ∧ (∀ (s : State) (p : CmdPath) (r : ImageReport), heard s p (.activateFwNextColdReset p 2 r) .admin → s.coordinated = false →
      s.descr.state = 2 → s.fw.act = none →
    answers (.activateFwNextColdReset p 2 r) s fun t =>
      (s.imageFault r = 0 → t.descr.state = 3 ∧ t.descr.online = false ∧ t.descr.staging = some r
        ∧ Out.response p .success 0 [] ∈ t.out)
      ∧ (s.imageFault r ≠ 0 → t.descr.state = 4 ∧ Out.response p .verificationFailed (s.imageFault r) [] ∈ t.out)
      ∧ t.img = s.img)
  ∧ (∀ (s : State) (a : Activation), s.fw.act = some a → a.stage = .loading → s.imageOps.any ImageOp.activates = false →
      s.spareValid = true →
    answers (.loadTableComplete true) s fun t => t.fw.act = some { a with stage := .loaded } ∧ t.img = s.img)
  ∧ (∀ (s : State) (a : Activation), s.fw.act = some a → a.stage = .loading → a.kind ≠ .coordinated →
    answers (.loadTableComplete false) s fun t => t.fw.act = none ∧ t.descr.state = 2 ∧ t.img = s.img)
  ∧ (∀ (s : State) (a : Activation), s.fw.act = some a → a.kind ≠ .coordinated → a.stage = .loaded → s.fw.oldBank = false →
      (∀ n, a.stroke = some n → n ≤ s.stroke) →
    answers .activationTakeEffect s fun t =>
      t.fw.act = none ∧ t.img = a.image ∧ t.descr.state = 3
        ∧ ∀ c, c < 64 → t.rd Reg.CHAN_STATUS_TBANK c = 1 - s.rd Reg.CHAN_STATUS_TBANK c)
  ∧ (∀ s : State, s.fw.oldBank = true →
    (s.underOld = false → answers .oldBankRelease s fun t => t.fw.oldBank = false ∧ t.fw.oldPrecond = [] ∧ t.img = s.img)
    ∧ (s.underOld = true → answers .oldBankRelease s fun t => t.fw = s.fw ∧ t.chans = s.chans))

/-- A worker in contact takes each command frame once, does what Table 14-5 says, and acknowledges it with its result. A
command frame for this worker that is no duplicate is acknowledged with its SEQ. CONFIG of a later epoch whose records
are all held makes that epoch and those records its own; ILV_RECORD within Table 14-8 is held. SLOT_GRANT is taken
while a slot is waited for, and answers 0x03 as a broadcast. POWER_OFF is taken in PKG_ON and ON for its stroke or the
next, POWER_ON while a shelf power-off is in force. PERSIST of a later stroke joins a point that reports to the shelf.
ACT_PREPARE that can be taken begins to load the tables. RELEASE of a member with EPOCH_HIGH discards its epoch and
records. A duplicate is acknowledged with its old result and does nothing. (R306, R309, R310, R316, R319, R320, R321,
R322, R323, Table 14-5) -/
def Obligations.WorkersTakeTheirCommands : Prop :=
  (∀ (s : State) (f : Frame) (e : BitVec 64) (n : Nat) (l : List IlvRecord), heardFrame s f → s.epochHigh = false → n ≤ 64 →
      s.shelf.epoch < e.toNat → s.heldRecords e.toNat n = some l →
    answers (.config f e n) s fun t => t.shelf.epoch = e.toNat ∧ t.shelf.records = l ∧ t.shelf.ack = (f.seq, 0))
  ∧ (∀ (s : State) (f : Frame) (e : BitVec 64) (n : Nat) (r : IlvRecord), heardFrame s f → s.epochHigh = false → n < 64 →
      ilvOk r = true →
    answers (.ilvRecord f e n r) s fun t =>
      (e.toNat, n, r) ∈ t.shelf.held ∧ t.shelf.records = s.shelf.records ∧ t.shelf.epoch = s.shelf.epoch
        ∧ t.shelf.ack = (f.seq, 0))
  ∧ (∀ (s : State) (f : Frame) (S : Nat), heardFrame s f →
    (f.bcast = false → s.bit Reg.PWR_STATUS_SLOT_WAIT = true → answers (.slotGrant f S) s fun t =>
      t.shelf.granted = some S ∧ t.shelf.ack = (f.seq, 0))
    ∧ (f.bcast = true → answers (.slotGrant f S) s fun t => t.shelf.granted = s.shelf.granted ∧ t.shelf.ack = (f.seq, 3)))
  ∧ (∀ (s : State) (f : Frame) (S : Nat), heardFrame s f → s.isSeq .pkgOn = true ∨ s.isSeq .on = true →
    answers (.powerOff f S) s fun t =>
      t.pwr = { s.pwr with offStroke := some (max S (s.stroke + 1)) } ∧ t.shelf.ack = (f.seq, 0))
  ∧ (∀ (s : State) (f : Frame), heardFrame s f → s.pwr.shelfOff = true →
    answers (.powerOn f) s fun t => t.pwr = { s.pwr with keptOn := true } ∧ t.shelf.ack = (f.seq, 0))
  ∧ (∀ (s : State) (n : Nat), s.pwr.offStroke = some n →
    (s.stroke < n → answers .powerOffStroke s fun t => t.pwr = s.pwr)
    ∧ (n ≤ s.stroke → s.isSeq .on = true → s.pwr.dirtySet = true → answers .powerOffStroke s fun t =>
      t.isSeq .capo = true ∧ t.pwr.shelfOff = true ∧ t.pwr.offStroke = none ∧ t.pwr.cause = .shelf))
  ∧ (∀ (s : State) (f : Frame) (S : Nat), heardFrame s f → s.epochHigh = false → s.bit Reg.SHELF_DETUNE_IMAGE_CLASS = false →
      s.stroke < S → (∀ q, s.merge.lastPoint = some q → q < S) → (s.pointAt S = true ∨ s.pointsFull = false) →
    answers (.persist f S) s fun t =>
      t.merge.points.any (fun q => q.stroke == S && q.shelf == some f.seq) = true ∧ t.shelf.pointReport = (f.seq, 3)
        ∧ t.shelf.ack = (f.seq, 0))
  ∧ (∀ (s : State) (f : Frame) (S : Nat) (r : ImageReport), heardFrame s f → s.detune % 8 = 0 → s.canPrepare r = true →
    answers (.actPrepare f S r) s fun t =>
      t.shelf.act = some { seq := f.seq, stroke := S } ∧ t.shelf.ack = (f.seq, 0)
        ∧ (t.fw.act.map (fun a => (a.kind, a.stage, a.report))) = some (.coordinated, .loading, some r))
  ∧ (∀ (s : State) (f : Frame), heardFrame s f → f.bcast = false → s.epochHigh = true →
    answers (.release f) s fun t =>
      t.epochHigh = false ∧ t.shelf.epoch = 0 ∧ t.shelf.records = [] ∧ t.shelf.ack = (f.seq, 0))
  ∧ (∀ (s : State) (f : Frame) (e : Nat × Nat), s.onLink = true → s.manager = false → s.inContact = true → f.bcast = true →
      s.shelf.dups.find? (fun e => e.1 == f.seq) = some e →
    answers (.powerOn f) s fun t => t.pwr = s.pwr ∧ t.shelf.ack = (f.seq, e.2))
  ∧ (∀ (s : State) (f : Frame) (n : Nat), heardFrame s f →
    answers (.shelfFrameDiscard (.unknownType f n)) s fun t => t.shelf.ack = (f.seq, 3))
  ∧ (∀ s : State, s.onLink = true → answers (.shelfFrameDiscard .badCrc) s fun t =>
      t.rd Reg.SHELF_CRC_ERR_CNT = min (s.rd Reg.SHELF_CRC_ERR_CNT + 1) (2 ^ 32 - 1) ∧ t.shelf = s.shelf)

/-- Beacons make contact, four epochs without one lose it, pulses lock time, and the role of acting manager is taken.
BEACON of another position puts a worker in contact with that manager; one of its own position is a conflict.
STATUS_FRAME at the manager outside its silent epochs is kept as the last of its position. CONTACT_LOSS after four
epochs without a beacon ends contact, before that it changes nothing. MEMBER_DROPOUT takes a position with four epochs
without a status frame out of the members. MANAGER_LISTEN_END makes a listening member the acting manager.
SHL_SYNC_PULSE within 8 CCLK locks time in SLEW, and one beyond is counted and ignored in LOCKED. TIME_LOCK_LOSS after
four epochs falls back to FREE. SHELF_EPOCH_LO_READ returns the low half and latches the high half. (R301, R302, R307,
R308, R313, R325, R327, Table 14-7) -/
def Obligations.ContactTimeAndRoles : Prop :=
  (∀ (s : State) (b : Beacon), s.onLink = true → s.manager = false → b.pos ≠ s.shelfPos →
    answers (.beacon b) s fun t =>
      t.inContact = true ∧ t.shelf.mgr = some b ∧ t.shelf.listening = false ∧ t.rd Reg.SHELF_MEMBERS_POS = b.members.toNat)
  ∧ (∀ (s : State) (b : Beacon), s.onLink = true → s.manager = false → b.pos = s.shelfPos →
    answers (.beacon b) s fun t => t.bit Reg.SHELF_DETUNE_POS_CONFLICT = true ∧ t.inContact = false)
  ∧ (∀ (s : State) (b : Beacon), s.manager = true → s.silentEpoch = false → answers (.beacon b) s fun t => t.shelf = s.shelf)
  ∧ (∀ (s : State) (f : Status), s.onLink = true → s.manager = true → f.pos ≠ s.shelfPos → s.silentEpoch = false →
    answers (.statusFrame f) s fun t => t.shelf.status.find f.pos = some f ∧ t.shelf.members.find f.pos = some 0)
  ∧ (∀ s : State, s.onLink = true →
    (4 ≤ s.shelf.beaconless → answers .contactLoss s fun t => t.inContact = false)
    ∧ (s.shelf.beaconless < 4 → answers .contactLoss s fun t => t.shelf = s.shelf))
  ∧ (∀ (s : State) (q n : Nat), s.manager = true → s.shelf.members.find q = some n →
    (4 ≤ n → answers (.memberDropout q) s fun t => t.shelf.members.find q = none)
    ∧ (n < 4 → answers (.memberDropout q) s fun t => t.shelf = s.shelf))
  ∧ (∀ s : State, s.onLink = true → s.shelf.listening = true →
    answers .managerListenEnd s fun t => t.manager = true ∧ t.inContact = false ∧ t.shelf.listening = false)
  ∧ (∀ (s : State) (e : Int) (b : Bool) (n : Nat), s.onLink = true → s.manager = false → s.inContact = true →
      -8 ≤ e - Int.ofNat (s.rd Reg.SHELF_CFG_SYNC_TRIM) → e - Int.ofNat (s.rd Reg.SHELF_CFG_SYNC_TRIM) ≤ 8 → s.timeState = 2 →
    answers (.shlSyncPulse e b n) s fun t =>
      t.timeState = 3 ∧ t.shelf.slew = e - Int.ofNat (s.rd Reg.SHELF_CFG_SYNC_TRIM) ∧ t.stroke = s.stroke)
  ∧ (∀ (s : State) (e : Int) (b : Bool) (n : Nat), s.onLink = true → s.manager = false → s.inContact = true → s.timeState = 3 →
      8 < e - Int.ofNat (s.rd Reg.SHELF_CFG_SYNC_TRIM) →
    answers (.shlSyncPulse e b n) s fun t =>
      t.timeState = 3 ∧ t.rd Reg.SHELF_SYNC_IGNORE_CNT = min (s.rd Reg.SHELF_SYNC_IGNORE_CNT + 1) (2 ^ 32 - 1)
        ∧ t.shelf.slew = s.shelf.slew)
  ∧ (∀ s : State, 2 ≤ s.timeState →
    (4 ≤ s.shelf.pulseless → answers .timeLockLoss s fun t => t.timeState = 0)
    ∧ (s.shelf.pulseless < 4 → answers .timeLockLoss s fun t => t.timeState = s.timeState ∧ t.shelf = s.shelf))
  ∧ (∀ s : State, answers .shelfEpochLoRead s fun t =>
      t.rd Reg.SHELF_EPOCH_HI_EPOCH_HI = s.shelf.epoch / 2 ^ 32 % 2 ^ 32
        ∧ Out.readValue 0xC00010 (s.shelf.epoch % 2 ^ 32) ∈ t.out ∧ t.shelf = s.shelf)

/-- SHELF CONTROL of the acting manager: records, power, persistence points and activations go to the members, and end.
SHELF_STATUS returns MEMBERS, the epoch and the detuned positions and changes nothing. SET_RECORDS raises the epoch by
one with the new records. SHELF_POWER_OFF and SHELF_POWER_ON of a mask send a command to each worker of it.
SHELF_PERSIST begins a point at its stroke, or in the fourth epoch ahead. SHELF_ACTIVATE between 64 sync epochs and
2^24 strokes ahead puts the activation into the beacon, outside it answers Invalid Input. SHELF_RELEASE on the device
itself discards its records, and for a worker sends RELEASE. COMMAND_RESEND sends an unacknowledged command again
while retries are left. (R311, R316, R319, R321, R322, R323, R337, Table 15-4) -/
def Obligations.ManagerRunsTheShelf : Prop :=
  (∀ (s : State) (p : CmdPath), heard s p (.shelfStatus p) .admin →
    answers (.shelfStatus p) s fun t =>
      (∃ d, Out.response p .success 0 (leBytes 4 s.membersMask ++ leBytes 8 s.shelf.epoch ++ leBytes 4 (maskOf s.detuned) ++ d)
        ∈ t.out) ∧ onlyAnswered s t)
  ∧ (∀ (s : State) (p : CmdPath) (l : List IlvRecord), heardManager s p (.setRecords p l) → l.length ≤ 64 → l.all ilvOk = true →
    answers (.setRecords p l) s fun t =>
      t.shelf.epoch = s.shelf.epoch + 1 ∧ t.shelf.records = l ∧ Out.response p .backgroundStarted 0 [] ∈ t.out)
  ∧ (∀ (s : State) (p : CmdPath) (m : BitVec 32) (S q : Nat), heardManager s p (.shelfPowerOff p m S) → m ≠ BitVec.allOnes 32 →
      q ∈ positions m.toNat → q ≠ s.shelfPos →
    answers (.shelfPowerOff p m S) s fun t =>
      (∃ c ∈ t.shelf.cmds, c.msg = .powerOff S ∧ c.left = [q]) ∧ Out.response p .backgroundStarted 0 [] ∈ t.out)
  ∧ (∀ (s : State) (p : CmdPath) (m : BitVec 32) (q : Nat), heardManager s p (.shelfPowerOn p m) → m ≠ BitVec.allOnes 32 →
      q ∈ positions m.toNat → q ≠ s.shelfPos →
    answers (.shelfPowerOn p m) s fun t =>
      (∃ c ∈ t.shelf.cmds, c.msg = .powerOn ∧ c.left = [q]) ∧ Out.response p .backgroundStarted 0 [] ∈ t.out)
  ∧ (∀ (s : State) (p : CmdPath) (S : Nat), heardManager s p (.shelfPersist p S) → s.shelf.point = none →
    answers (.shelfPersist p S) s fun t =>
      t.shelf.point = some { seq := nextSeq s.shelf.seqOut, asked := s.memberList,
                             stroke := if S < s.stroke + 4096 then 1024 * (s.stroke / 1024 + 4) else S }
        ∧ Out.response p .backgroundStarted 0 [] ∈ t.out)
  ∧ (∀ (s : State) (p : CmdPath) (S : Nat) (r : ImageReport), heardManager s p (.shelfActivate p S r) → s.shelf.actSent.1 = 0 →
    (s.stroke + 65536 ≤ S → S ≤ s.stroke + 2 ^ 24 → answers (.shelfActivate p S r) s fun t =>
      t.shelf.actSent = (nextSeq s.shelf.seqOut, S) ∧ Out.response p .backgroundStarted 0 [] ∈ t.out)
    ∧ (S < s.stroke + 65536 → answers (.shelfActivate p S r) s fun t =>
      onlyAnswered s t ∧ Out.response p .invalidInput 0 [] ∈ t.out))
  ∧ (∀ (s : State) (p : CmdPath), heard s p (.shelfRelease p 255) .admin → s.epochHigh = true →
    answers (.shelfRelease p 255) s fun t =>
      t.epochHigh = false ∧ t.shelf.epoch = 0 ∧ t.shelf.records = [] ∧ Out.response p .success 0 [0] ∈ t.out)
  ∧ (∀ (s : State) (p : CmdPath) (q : Nat), heardManager s p (.shelfRelease p q) → q < 32 → q ≠ s.shelfPos →
    answers (.shelfRelease p q) s fun t => ∃ c ∈ t.shelf.cmds, c.msg = .release ∧ c.left = [q])
  ∧ (∀ (s : State) (seq n : Nat) (c : ShelfCmd), s.onLink = true → s.manager = true →
      s.shelf.cmds.find? (fun c => c.seq == seq) = some c → c.sent = some n → n + 2 ≤ s.epochNo →
      c.resends < s.rd Reg.SHELF_CFG_RETRIES →
    answers (.commandResend seq) s fun t =>
      (∀ q ∈ c.left, Out.shelf ⟨q, false, c.seq⟩ c.msg ∈ t.out)
        ∧ t.shelf.cmds.find? (fun c => c.seq == seq) = some { c with resends := c.resends + 1, sent := some s.epochNo })

/-- A shelf point ends when every member is final, the decision is commit only if all are prepared, and a commit takes
effect. SHELF_PERSIST_COMPLETE ends the point once every member at S has a final result. ACTIVATION_DECISION, 16 sync
epochs before S, commits if every participant reports Prepared and aborts otherwise. COORDINATED_ACTIVATION of a
loaded activation that is due makes its image the running one and reports Activated. ACTIVATION_IN_DOUBT, 1,024 sync
epochs after S without a decision, reports in doubt and drops the activation. (R322, R323, R324) -/
def Obligations.PointsAndActivationsEnd : Prop :=
  (∀ (s : State) (q : ShelfPoint) (l : List Nat), s.manager = true → s.shelf.point = some q → q.members = some l →
      l.all (fun p => s.pointOwn.pointFinal p) = true →
    answers .shelfPersistComplete s fun t => t.shelf.point = none ∧ t.rd Reg.SHELF_POINT_NOANS_POS = 0)
  ∧ (∀ s : State, s.onLink = true → s.manager = true → s.shelf.actSent.1 ≠ 0 → s.decision = 0 →
      s.shelf.actSent.2 ≤ s.stroke + 16384 → (∀ a, s.shelf.act = some a → a.seq = s.shelf.actSent.1) →
    answers .activationDecision s fun t =>
      t.decision = if s.shelf.actMembers.all (fun p => s.actOf p == 1) then 1 else 2)
  ∧ (∀ s : State, s.stroke + 16384 < s.shelf.actSent.2 → answers .activationDecision s fun t =>
      t.decision = s.decision ∧ t.shelf = s.shelf)
  ∧ (∀ (s : State) (x : ShelfAct) (a : Activation), s.shelf.act = some x → s.coordAct = some a → s.actDue x = true →
      a.stage = .loaded → s.fw.oldBank = false →
    answers .coordinatedActivation s fun t => t.img = a.image ∧ t.fw.act = none ∧ t.actValue = 2 ∧ t.shelf.act = none)
  ∧ (∀ (s : State) (a : ShelfAct), s.shelf.act = some a → s.actValue = 1 → s.decision = 0 → a.stroke + longWait ≤ s.stroke →
    answers .activationInDoubt s fun t => t.actValue = 4 ∧ t.shelf.act = none ∧ t.img = s.img)

/-- The commands that read answer Success with what they read, and change nothing else. Each command of chapter Mailbox
that only reads (identity, event records, policy, firmware information, time, logs, capacities, health, alerts,
shutdown state, poison list, scan results, the KEK, a keep page, chronicle records), on a path of its class, answers
Success with the data the state holds, and a command the device does not support answers Unsupported; everything but
the transcript, the registers, the telemetry counters and the stored MCTP responses is as it was. (R202, R210, R211,
R212, R297, R315, R328, R333, R336, Table 15-2, Table 15-3) -/
def Obligations.ReadCommandsAnswer : Prop :=
  (∀ (s : State) (p : CmdPath), heard s p (.identify p) .any →
    answers (.identify p) s fun t => onlyAnswered s t ∧ Out.response p .success 0 (leBytes 2 0x1F3A ++ leBytes 2 0x8064 ++ leBytes 4 0 ++ leBytes 8 Config.serial.toNat ++ [13, 3]) ∈ t.out)
  ∧ (∀ (s : State) (p : CmdPath) (n : Nat) (l : Log), heard s p (.getEventRecords p n) .any → logOf n = some l →
    answers (.getEventRecords p n) s fun t => onlyAnswered s t ∧ 
      ∃ d, Out.response p .success 0 ([bitsOf [(s.events.log l).overflow != 0, decide (63 < (s.events.log l).records.length)], 0]
        ++ leBytes 2 (s.events.log l).overflow ++ leBytes 8 (s.events.log l).firstOverflow
        ++ leBytes 8 (s.events.log l).lastOverflow ++ leBytes 2 (min 63 (s.events.log l).records.length) ++ d) ∈ t.out)
  ∧ (∀ (s : State) (p : CmdPath), heard s p (.getEventInterruptPolicy p) .any →
    answers (.getEventInterruptPolicy p) s fun t => onlyAnswered s t ∧ Out.response p .success 0 (s.events.policy) ∈ t.out)
  ∧ (∀ (s : State) (p : CmdPath), heard s p (.getFwInfo p) .any →
    answers (.getFwInfo p) s fun t => onlyAnswered s t ∧ ∃ d, Out.response p .success 0 ([2, s.activeSlot + 8 * s.stagedSlot, 1] ++ d) ∈ t.out)
  ∧ (∀ (s : State) (p : CmdPath), heard s p (.getTimestamp p) .any →
    answers (.getTimestamp p) s fun t => onlyAnswered s t ∧ Out.response p .success 0 (leBytes 8 s.timestamp) ∈ t.out)
  ∧ (∀ (s : State) (p : CmdPath), heard s p (.getSupportedLogs p) .any →
    answers (.getSupportedLogs p) s fun t => onlyAnswered s t ∧ ∃ d, Out.response p .success 0 (leBytes 2 1 ++ d) ∈ t.out)
  ∧ (∀ (s : State) (p : CmdPath), heard s p (.getLog p) .any →
    answers (.getLog p) s fun t => onlyAnswered s t ∧ Out.response p .success 0 (opcodes.flatMap effectsEntry) ∈ t.out)
  ∧ (∀ (s : State) (p : CmdPath), heard s p (.identifyMemoryDevice p) .any →
    answers (.identifyMemoryDevice p) s fun t => onlyAnswered s t ∧ 
      ∃ r d, Out.response p .success 0 (r ++ leBytes 8 (s.rd Reg.TOP_CAPACITY_UNITS) ++ d) ∈ t.out ∧ r.length = 16)
  ∧ (∀ (s : State) (p : CmdPath), heard s p (.getPartitionInfo p) .any →
    answers (.getPartitionInfo p) s fun t => onlyAnswered s t ∧ 
      Out.response p .success 0 (leBytes 8 0 ++ leBytes 8 (s.rd Reg.TOP_CAPACITY_UNITS) ++ leBytes 8 0
        ++ leBytes 8 (s.rd Reg.TOP_CAPACITY_UNITS)) ∈ t.out)
  ∧ (∀ (s : State) (p : CmdPath) (n : Nat), heard s p (.unsupportedCommand p n) .any →
    answers (.unsupportedCommand p n) s fun t => onlyAnswered s t ∧ Out.response p .unsupported 0 [] ∈ t.out)
  ∧ (∀ (s : State) (p : CmdPath), heard s p (.getHealthInfo p) .any →
    answers (.getHealthInfo p) s fun t => onlyAnswered s t ∧ ∃ d, Out.response p .success 0 ([s.healthStatus, s.mediaStatus, 0, s.lifeUsed] ++ tempBytes s.err.temp ++ d) ∈ t.out)
  ∧ (∀ (s : State) (p : CmdPath), heard s p (.getAlertConfiguration p) .any →
    answers (.getAlertConfiguration p) s fun t => onlyAnswered s t ∧ ∃ d, Out.response p .success 0 (thresholdBytes s.mbox.alerts.life ++ d) ∈ t.out)
  ∧ (∀ (s : State) (p : CmdPath), heard s p (.getShutdownState p) .any →
    answers (.getShutdownState p) s fun t => onlyAnswered s t ∧ Out.response p .success 0 ([s.mbox.shutdown]) ∈ t.out)
  ∧ (∀ (s : State) (p : CmdPath) (a n : Nat) (v : List (Nat × Nat × Nat)), heard s p (.getPoisonList p a n) .any → s.ready = true → s.cmdView p a n = some v →
    answers (.getPoisonList p a n) s fun t => onlyAnswered s t ∧ ∃ d, Out.response p .success 0 ([if s.bit Reg.ERR_POISON_LIST_OVERFLOW then 2 else 0, 0] ++ d) ∈ t.out)
  ∧ (∀ (s : State) (p : CmdPath), heard s p (.getScanMediaResults p) .any → s.ready = true →
    answers (.getScanMediaResults p) s fun t => onlyAnswered s t ∧ ∃ d, Out.response p .success 0 d ∈ t.out)
  ∧ (∀ (s : State) (p : CmdPath), heard s p (.kekRead p) .any →
    answers (.kekRead p) s fun t => onlyAnswered s t ∧ Out.response p .success 0 (leBytes 96 Config.kek.toNat) ∈ t.out)
  ∧ (∀ (s : State) (p : CmdPath) (n : Nat), heard s p (.keepRead p n) .admin → n ≤ 111 →
    answers (.keepRead p n) s fun t => onlyAnswered s t ∧ 
      Out.keepPage p n (s.keep.shadow.find n) ∈ t.out ∧ Out.response p .success 0 [] ∈ t.out)
  ∧ (∀ (s : State) (p : CmdPath) (k n c : Nat), heard s p (.chronicleRead p k n c) .admin → k ≤ 1 → 1 ≤ c → c ≤ 255 →
    answers (.chronicleRead p k n c) s fun t => onlyAnswered s t ∧ 
      ∃ d, Out.response p .success 0 (leBytes 4 (readRecords (skipRecords (s.chron.part k) n) c).1.length ++ d) ∈ t.out)

/-- The commands that set take their value: event logs and policy, time, alerts, shutdown state, and an abort marks the
running scrub. CLEAR_EVENT_RECORDS empties a log when all are named, takes out the handles it names, and clears
nothing when one is no longer there. SET_EVENT_INTERRUPT_POLICY of four modes of 0 to 2 keeps them. SET_TIMESTAMP
records the time with the current stroke. SET_ALERT_CONFIGURATION of values in range and SET_SHUTDOWN_STATE of 0 or 1
keep them, the latter without the shutdown marker. REQUEST_ABORT_BACKGROUND_OPERATION marks the scrub or scan of its
mailbox as aborted and leaves one of another mailbox. (R209, R211, R212, R315, R165, Table 15-2) -/
def Obligations.SettingCommandsTakeEffect : Prop :=
  (∀ (s : State) (p : CmdPath) (n : Nat) (l : Log) (hs : List Nat), logOf n = some l →
    (heard s p (.clearEventRecords p n true hs) .admin → answers (.clearEventRecords p n true hs) s fun t =>
      t.events.log l = {} ∧ (∀ k, k ≠ l → t.events.log k = s.events.log k) ∧ Out.response p .success 0 [] ∈ t.out)
    ∧ (heard s p (.clearEventRecords p n false hs) .admin →
        hs.all (fun h => (s.events.log l).records.any (fun r => r.1 == h)) = true →
      answers (.clearEventRecords p n false hs) s fun t =>
        (t.events.log l).records = (s.events.log l).records.filter (fun r => !hs.contains r.1)
          ∧ (∀ k, k ≠ l → t.events.log k = s.events.log k))
    ∧ (heard s p (.clearEventRecords p n false hs) .admin →
        hs.any (fun h => !(s.events.log l).records.any (fun r => r.1 == h)) = true →
      answers (.clearEventRecords p n false hs) s fun t => t.events = s.events ∧ Out.response p .invalidHandle 0 [] ∈ t.out))
  ∧ (∀ (s : State) (p : CmdPath) (l : List Nat), heard s p (.setEventInterruptPolicy p l) .admin → l.length = 4 →
      (∀ m ∈ l, m ≤ 2) →
    answers (.setEventInterruptPolicy p l) s fun t =>
      t.events = { s.events with policy := l } ∧ Out.response p .success 0 [] ∈ t.out)
  ∧ (∀ (s : State) (p : CmdPath) (n : Nat), heard s p (.setTimestamp p n) .admin →
    answers (.setTimestamp p n) s fun t =>
      t.mbox.wall = some (n % 2 ^ 64, s.stroke) ∧ t.stroke = s.stroke ∧ Out.response p .success 0 [] ∈ t.out)
  ∧ (∀ (s : State) (p : CmdPath) (c : AlertCfg), heard s p (.setAlertConfiguration p c) .admin → alertsOk c = true →
    answers (.setAlertConfiguration p c) s fun t => t.mbox.alerts = c ∧ Out.response p .success 0 [] ∈ t.out)
  ∧ (∀ (s : State) (p : CmdPath) (n : Nat), heard s p (.setShutdownState p n) .admin → n ≤ 1 →
    answers (.setShutdownState p n) s fun t =>
      t.mbox.shutdown = n ∧ t.keep = s.keep ∧ Out.response p .success 0 [] ∈ t.out)
  ∧ (∀ (s : State) (p : CmdPath) (x : Scrub), heard s p (.requestAbortBackgroundOperation p) .any → s.err.scrub = some x →
    answers (.requestAbortBackgroundOperation p) s fun t =>
      t.err.scrub = some (if samePath x.path p then { x with aborted := true } else x)
        ∧ Out.response p .success 0 [] ∈ t.out)

/-- Dynamic capacity: regions are configured, extents are offered, added by the host and released, each as R51 says.
SET_DC_REGION_CONFIGURATION that fits, of a region without extents, configures it, and while an extent lies in it
answers Invalid Input. INITIATE_DYNAMIC_CAPACITY_ADD of blocks that can be added offers them.
ADD_DYNAMIC_CAPACITY_RESPONSE adds what the host accepts of the offer and withdraws the rest. RELEASE_DYNAMIC_CAPACITY
and INITIATE_DYNAMIC_CAPACITY_RELEASE of added blocks begin their release. The three commands that read answer
Success. (R51, Table 15-2) -/
def Obligations.DynamicCapacityMoves : Prop :=
  (∀ (s : State) (p : CmdPath), heard s p (.getDynamicCapacityConfiguration p) .any → s.ready = true →
    answers (.getDynamicCapacityConfiguration p) s fun t =>
      onlyAnswered s t ∧ Out.response p .success 0 (s.dc.length :: s.dc.flatMap regionBytes) ∈ t.out)
  ∧ (∀ (s : State) (p : CmdPath), heard s p (.getDcRegionConfiguration p) .mgmt → s.ready = true →
    answers (.getDcRegionConfiguration p) s fun t =>
      onlyAnswered s t ∧ Out.response p .success 0 (s.dc.length :: s.dc.flatMap regionBytes) ∈ t.out)
  ∧ (∀ (s : State) (p : CmdPath) (n : Nat) (b : List Binding), heard s p (.getDynamicCapacityExtentList p) .any → s.ready = true →
      s.cmdSession p = some (n, b) →
    answers (.getDynamicCapacityExtentList p) s fun t =>
      onlyAnswered s t ∧ ∃ d, Out.response p .success 0 (leBytes 4 ((s.sess n).extents.flatMap (ldExtent b)).length ++ d) ∈ t.out)
  ∧ (∀ (s : State) (p : CmdPath) (n : Nat) (b : List Binding) (a l : List Extent), heard s p (.addDynamicCapacityResponse p a) .any →
      s.ready = true → s.cmdSession p = some (n, b) → devExtents b a = some l →
      (blocksOf l).all (fun u => inExtents (s.sess n).offered u) = true →
    answers (.addDynamicCapacityResponse p a) s fun t =>
      t.sess n = { s.sess n with extents := (s.sess n).extents ++ l, offered := [] } ∧ Out.response p .success 0 [] ∈ t.out)
  ∧ (∀ (s : State) (p : CmdPath) (n : Nat) (b : List Binding) (a l : List Extent), heard s p (.releaseDynamicCapacity p a) .any →
      s.ready = true → s.cmdSession p = some (n, b) → devExtents b a = some l →
      (blocksOf l).all (fun u => inExtents (s.sess n).extents u) = true →
    answers (.releaseDynamicCapacity p a) s fun t =>
      (t.sess n).extents = dropBlocks (s.sess n).extents (blocksOf l)
        ∧ (t.sess n).releasing = (s.sess n).releasing ++ joinBlocks (blocksOf l) ∧ Out.response p .success 0 [] ∈ t.out)
  ∧ (∀ (s : State) (p : CmdPath) (r b l : Nat) (z : Bool), heard s p (.setDcRegionConfiguration p r b l z) .mgmt → s.ready = true →
      s.dc.find r ≠ some ⟨b, l, z⟩ →
    (l ≠ 0 → s.regionFits r b l = true → (s.dc.find r).any s.regionUsed = false →
      answers (.setDcRegionConfiguration p r b l z) s fun t => t.dc.find r = some ⟨b, l, z⟩ ∧ Out.response p .success 0 [] ∈ t.out)
    ∧ ((s.dc.find r).any s.regionUsed = true →
      answers (.setDcRegionConfiguration p r b l z) s fun t => t.dc = s.dc ∧ Out.response p .invalidInput 0 [] ∈ t.out))
  ∧ (∀ (s : State) (p : CmdPath) (n r : Nat) (x : DcRegion) (l : List Extent), heard s p (.initiateDynamicCapacityAdd p n r l) .mgmt →
      s.ready = true → s.dc.find r = some x → s.addOk n x l = true →
    answers (.initiateDynamicCapacityAdd p n r l) s fun t =>
      t.sess n = { s.sess n with offered := (s.sess n).offered ++ l } ∧ Out.response p .success 0 [] ∈ t.out)
  ∧ (∀ (s : State) (p : CmdPath) (n : Nat) (l : List Extent), heard s p (.initiateDynamicCapacityRelease p n l) .mgmt →
      s.ready = true → blocksOf l ≠ [] → (blocksOf l).all (fun u => inExtents (s.sess n).extents u) = true →
    answers (.initiateDynamicCapacityRelease p n l) s fun t =>
      (t.sess n).extents = dropBlocks (s.sess n).extents (blocksOf l)
        ∧ (t.sess n).releasing = (s.sess n).releasing ++ joinBlocks (blocksOf l) ∧ Out.response p .success 0 [] ∈ t.out)

/-- The subfunctions of TELEMETRY CONTROL take valid values and answer with head and status, and refuse the others.
TELEMETRY_STATUS answers head and status and changes nothing. TELEMETRY_PERIOD, TELEMETRY_FREEZE and TELEMETRY_WINDOW
take a value in range and answer Success; out of range they answer Invalid Input and leave the register.
TELEMETRY_SNAPSHOT waits for the snapshot of the next stroke boundary. TELEMETRY_CLEAR asks for the clear.
TELEMETRY_SELECT that R353 accepts shows the configuration, to come into force at the next boundary; one it refuses
sets CFG_REJECT and leaves it. (R353, R357, R358, R359, R364, R365) -/
def Obligations.TelemetryControlCommands : Prop :=
  (∀ (s : State) (p : CmdPath), heard s p (.telemetryStatus p) .admin →
    answers (.telemetryStatus p) s fun t => onlyAnswered s t ∧ Out.response p .success 0 s.telemOut ∈ t.out)
  ∧ (∀ (s : State) (p : CmdPath) (n : Nat), heard s p (.telemetryPeriod p n) .admin →
    answers (.telemetryPeriod p n) s fun t =>
      t.rd Reg.TELEM_SNAP_CFG_PERIOD = (if n < 65536 then n else s.rd Reg.TELEM_SNAP_CFG_PERIOD)
        ∧ (n < 65536 → Out.response p .success 0 s.telemOut ∈ t.out)
        ∧ (65536 ≤ n → Out.response p .invalidInput 0 [] ∈ t.out))
  ∧ (∀ (s : State) (p : CmdPath), heard s p (.telemetrySnapshot p) .admin →
    answers (.telemetrySnapshot p) s fun t => t.telem.snapAsked = true ∧ t.telem.snapWait = s.telem.snapWait ++ [p])
  ∧ (∀ (s : State) (p : CmdPath), heard s p (.telemetryClear p) .admin →
    answers (.telemetryClear p) s fun t => t.clears = s.clears ++ [.telem] ∧ Out.response p .success 0 s.telemOut ∈ t.out)
  ∧ (∀ (s : State) (p : CmdPath) (n : Nat), heard s p (.telemetryFreeze p n) .admin →
    answers (.telemetryFreeze p n) s fun t =>
      t.rd Reg.TELEM_CTRL_FREEZE = (if n < 2 then n else s.rd Reg.TELEM_CTRL_FREEZE)
        ∧ (n < 2 → Out.response p .success 0 s.telemOut ∈ t.out) ∧ (2 ≤ n → Out.response p .invalidInput 0 [] ∈ t.out))
  ∧ (∀ (s : State) (p : CmdPath) (n : Nat), heard s p (.telemetryWindow p n) .admin →
    answers (.telemetryWindow p n) s fun t =>
      t.rd Reg.TELEM_BW_CFG_K = (if 4 ≤ n ∧ n ≤ 20 then n else s.rd Reg.TELEM_BW_CFG_K)
        ∧ (4 ≤ n → n ≤ 20 → Out.response p .success 0 s.telemOut ∈ t.out)
        ∧ (n < 4 ∨ 20 < n → Out.response p .invalidInput 0 [] ∈ t.out))
  ∧ (∀ (s : State) (p : CmdPath) (v : Word), heard s p (.telemetrySelect p v) .admin → v.toNat / 65536 % 16 ≠ 15 →
    (evtOk (v.toNat / 65536 % 16) (evtOf (v.toNat % 8192)) = true → answers (.telemetrySelect p v) s fun t =>
      t.evtReg (v.toNat / 65536 % 16) (v.toNat / 8192 % 8) = evtOf (v.toNat % 8192) ∧ t.telem.cfgDue = true
        ∧ Out.response p .success 0 s.telemOut ∈ t.out)
    ∧ (evtOk (v.toNat / 65536 % 16) (evtOf (v.toNat % 8192)) = false →
        s.evtReg (v.toNat / 65536 % 16) (v.toNat / 8192 % 8) ≠ evtOf (v.toNat % 8192) → answers (.telemetrySelect p v) s fun t =>
      t.evtReg (v.toNat / 65536 % 16) (v.toNat / 8192 % 8) = s.evtReg (v.toNat / 65536 % 16) (v.toNat / 8192 % 8)
        ∧ t.bit Reg.TELEM_STATUS_CFG_REJECT = true ∧ Out.response p .invalidInput 0 [] ∈ t.out))

/-- Telemetry registers take their writes, latching reads give both halves, snapshots enter the ring and bandwidth windows
end. TELEM_CTRL_CLR and TELEM_CTRL_FREEZE take FREEZE and ask for the clear; TELEM_SNAP_NOW asks for a snapshot.
TELEM_EVT_CFG_WRITE and TELEM_BW_CFG_WRITE take accepted values; a refused one leaves the register and sets
CFG_REJECT. SNAPSHOT_RECORD_WRITTEN puts the oldest sample into its slot of the ring and makes it the head.
BANDWIDTH_WINDOW_END of a window that has run 2^K strokes moves its counts to the registers, one that has not changes
nothing. TELEM_WINDOW_READ returns the bytes of the ring, and zeros with the record invalidated on a class F mismatch.
The four latching reads return the low half and latch the high half. (R353, R357, R358, R359, R361, R362, R365) -/
def Obligations.TelemetryRegistersAndRing : Prop :=
  (∀ (s : State) (v : Word),
    (answers (.telemCtrlClr v) s fun t =>
      t.rd Reg.TELEM_CTRL_FREEZE = v.toNat / 2 % 2 ∧ t.clears = s.clears ++ (if v.toNat % 2 = 1 then [.telem] else []))
    ∧ (answers (.telemCtrlFreeze v) s fun t =>
      t.rd Reg.TELEM_CTRL_FREEZE = v.toNat / 2 % 2 ∧ t.clears = s.clears ++ (if v.toNat % 2 = 1 then [.telem] else []))
    ∧ (answers (.telemSnapNow v) s fun t => t.telem.snapAsked = (s.telem.snapAsked || v.toNat % 2 == 1)))
  ∧ (∀ (s : State) (b i : Nat) (v : Word), b < 15 → i < 8 →
    answers (.telemEvtCfgWrite b i v) s fun t =>
      (evtOk b (evtOf v.toNat) = true → t.evtReg b i = evtOf v.toNat ∧ t.telem.cfgDue = true)
        ∧ (evtOk b (evtOf v.toNat) = false → s.evtReg b i ≠ evtOf v.toNat →
            t.evtReg b i = s.evtReg b i ∧ t.bit Reg.TELEM_STATUS_CFG_REJECT = true))
  ∧ (∀ (s : State) (v : Word), answers (.telemBwCfgWrite v) s fun t =>
      (4 ≤ v.toNat % 32 → v.toNat % 32 ≤ 20 → t.rd Reg.TELEM_BW_CFG_K = v.toNat % 32)
        ∧ (v.toNat % 32 < 4 ∨ 20 < v.toNat % 32 →
            t.rd Reg.TELEM_BW_CFG_K = s.rd Reg.TELEM_BW_CFG_K ∧ t.bit Reg.TELEM_STATUS_CFG_REJECT = true))
  ∧ (∀ (s : State) (r : Snap) (l : List Snap), s.telem.shadow = r :: l →
    answers .snapshotRecordWritten s fun t =>
      t.telem.shadow = l ∧ t.telem.head = r.seq ∧ t.telem.dropped = false
        ∧ t.telem.ring.find ((r.seq - 1) % 16384) = some { r with drop := s.telem.dropped }
        ∧ t.rd Reg.TELEM_SNAP_HEAD_LO_SEQ_LO = r.seq % 2 ^ 32)
  ∧ (∀ (s : State) (b : Nat), s.telem.bwStart = some b →
    (b + 2 ^ s.telem.bwK ≤ s.stroke → answers .bandwidthWindowEnd s fun t =>
      t.telem.bwHeld = b ∧ t.telem.bwStart = some s.stroke ∧ t.rd Reg.TELEM_BW_WINDOW_LO_STROKE_LO = b % 2 ^ 32
        ∧ ∀ l, l < 8 → t.rd Reg.TELEM_BW_READ_LINES l = min (s.telem.bwRead.get 0 l) 0xFFFFFFFF
            ∧ t.rd Reg.TELEM_BW_WRITE_LINES l = min (s.telem.bwWrite.get 0 l) 0xFFFFFFFF)
    ∧ (s.stroke < b + 2 ^ s.telem.bwK → answers .bandwidthWindowEnd s fun t =>
      t.telem.bwHeld = s.telem.bwHeld ∧ t.telem.bwStart = some b))
  ∧ (∀ (s : State) (a n : Nat) (e : HbmErr), [4, 8, 16, 32, 64].contains n = true → a % n = 0 → a < 0x4000000 →
    (classFBad e = false → answers (.telemWindowRead a n e) s fun t => Out.windowData (s.windowBytes a n) ∈ t.out)
    ∧ (classFBad e = true → answers (.telemWindowRead a n e) s fun t =>
      Out.windowData (List.replicate n 0) ∈ t.out ∧ ∀ r, t.telem.ring.find (a / 4096) = some r → r.invalid = true))
  ∧ (∀ (s : State) (b i : Nat), b < 15 → i < 8 →
    answers (.telemCntLoRead b i) s fun t =>
      t.rd Reg.TELEM_CNT_HI_COUNT_HI b i = s.telem.counts.get 0 (8 * b + i) / 2 ^ 32 % 2 ^ 16
        ∧ Out.readValue (0xD01024 + b * 0x100 + i * 0x10) (s.telem.counts.get 0 (8 * b + i) % 2 ^ 32) ∈ t.out)
  ∧ (∀ (s : State) (b : Nat), b < 15 →
    answers (.telemCycLoRead b) s fun t =>
      t.rd Reg.TELEM_CYC_HI_CYC_HI b = s.telem.cycles.get 0 b / 2 ^ 32 % 2 ^ 32
        ∧ Out.readValue (0xD01008 + b * 0x100) (s.telem.cycles.get 0 b % 2 ^ 32) ∈ t.out)
  ∧ (∀ s : State,
    (answers .telemSnapHeadLoRead s fun t =>
      t.rd Reg.TELEM_SNAP_HEAD_HI_SEQ_HI = s.telem.head / 2 ^ 32 % 2 ^ 32
        ∧ Out.readValue 0xD00010 (s.telem.head % 2 ^ 32) ∈ t.out)
    ∧ (answers .telemBwWindowLoRead s fun t =>
      t.rd Reg.TELEM_BW_WINDOW_HI_STROKE_HI = s.telem.bwHeld / 2 ^ 32 % 2 ^ 32
        ∧ Out.readValue 0xD00024 (s.telem.bwHeld % 2 ^ 32) ∈ t.out))

/-- A register write is taken whole or refused whole, write-1-to-clear bits clear, and bad accesses are flagged and change
nothing else. REGISTER_WRITE of ERR_SCRUB_CFG with a rate of 1 to 64 sets the rate and no other register; of a rate
above 64 it sets CFG_REJECT and keeps the rate. REGISTER_WRITE of PORT_EVENT clears the bits written as 1 and keeps
the others. A configuration write of MSI-X enable, a committed decoder and a BAR0 write are kept. TOP_INT_MASK_WRITE
takes the mask, and owes a message where it unmasks a set bit. RWM_WRITE_REJECT of an RWM field counts once and
changes no protection. BAR2_ACCESS_ERROR sets ACCESS_ERR for an access that is not an aligned 32-bit one. (R8, R10,
R367, R369, R371, R374, R390) -/
def Obligations.RegisterAccessesAreJudgedWhole : Prop :=
  (∀ (s : State) (v : Word), 1 ≤ v.toNat % 128 → v.toNat % 128 ≤ 64 →
    answers (.registerWrite (.bar2 0x900038) v) s fun t =>
      t.rd Reg.ERR_SCRUB_CFG_RATE = v.toNat % 128
        ∧ (∀ (f : Field) (i j : Nat), f.key i j ≠ Reg.ERR_SCRUB_CFG_RATE.key 0 0 →
            (∀ b, b < 15 → f.key i j ≠ Reg.TELEM_BLK_OVF_OVF.key b 0) → t.rd f i j = s.rd f i j)
        ∧ t.err = s.err ∧ t.xlat = s.xlat ∧ t.pages = s.pages ∧ t.merge = s.merge)
  ∧ (∀ (s : State) (v : Word), 64 < v.toNat % 128 → v.toNat % 128 ≠ s.rd Reg.ERR_SCRUB_CFG_RATE →
    answers (.registerWrite (.bar2 0x900038) v) s fun t =>
      t.rd Reg.ERR_SCRUB_CFG_RATE = s.rd Reg.ERR_SCRUB_CFG_RATE ∧ t.bit Reg.ERR_STATUS_CFG_REJECT = true)
  ∧ (∀ (s : State) (v : Word), v.toNat = 2 →
    answers (.registerWrite (.bar2 0x110034) v) s fun t =>
      t.bit Reg.PORT_EVENT_LINK_DOWN 1 = false ∧ t.rd Reg.PORT_EVENT_IDE_FAIL 1 = s.rd Reg.PORT_EVENT_IDE_FAIL 1 % 2
        ∧ t.rd Reg.PORT_EVENT_LINK_DOWN 0 = s.rd Reg.PORT_EVENT_LINK_DOWN 0)
  ∧ (∀ (s : State) (p : Nat) (v : Word), p < 4 →
    answers (.registerWrite (.config p 0x50) v) s fun t =>
      (t.msixEn.contains p = (v.toNat / 2 ^ 31 == 1)) ∧ t.cfgSpace.get 0 (4096 * p + 0x50) = v.toNat)
  ∧ (∀ (s : State) (p l i b z w g : Nat) (v : Word), i < 4 →
    (answers (.registerWrite (.decoder p l i true b z w g) v) s fun t => ⟨p, l, i, b, z, w, g⟩ ∈ t.decoders)
    ∧ (answers (.registerWrite (.decoder p l i false b z w g) v) s fun t =>
      ∀ d ∈ t.decoders, ¬ (d.port = p ∧ d.ld = l ∧ d.index = i)))
  ∧ (∀ (s : State) (p a : Nat) (v : Word), p < 4 → bar0Named a = true → a % 4 = 0 →
    answers (.registerWrite (.bar0 p a) v) s fun t => t.bar0.get 0 (65536 * p + a) = v.toNat)
  ∧ (∀ (s : State) (v : Word), answers (.topIntMaskWrite v) s fun t =>
      t.rd Reg.TOP_INT_MASK_MASK = v.toNat % 4096
        ∧ (s.topInt.getD 0 false = true → s.rd Reg.TOP_INT_MASK_MASK % 2 = 1 → v.toNat % 2 = 0 → t.intOwed = true))
  ∧ (∀ (s : State) (a : Nat) (v : Word), reachesRwm a = true →
    answers (.rwmWriteReject a v) s fun t =>
      t.rd Reg.ERR_RWM_REJECT = min (s.rd Reg.ERR_RWM_REJECT + 1) (2 ^ 32 - 1) ∧ t.prot = s.prot)
  ∧ (∀ (s : State) (a w n : Nat), a < 0xE00000 → w ≠ 4 ∨ a % 4 ≠ 0 →
    answers (.bar2AccessError a w n) s fun t =>
      t.bit Reg.TOP_STATUS_ACCESS_ERR = true ∧ t.prot = s.prot ∧ t.err = s.err ∧ t.sched = s.sched)

/-- A step carries out the command at the front of the queue on the rest, and idles on an empty queue. For every command c
and state s, the step of s with c put in front of its queue is exec c on s with its queue; on an empty queue the step
answers the same state (the idling is the model's choice, log entry 1). (R330) -/
def Obligations.StepTakesTheFrontCommand : Prop :=
  (∀ (c : Instr) (s : State), step { s with pending := c :: s.pending } = exec c s)
  ∧ (∀ s : State, s.pending = [] → step s = .next s)

/-- Right after reset every register field reads its reset value, nothing waits, nothing is stored and the device is
neither powered nor ready. In State.reset every register field reads the reset value of its register table; no command
waits; the medium lists no page, the merge buffer no entry, the session table no session; no AUX (model's choice, log
entry 2), the sequencer is in STANDBY, the device is not ready; the medium's table is in canonical form. (R373, R63,
R64, Table 11-4) -/
def Obligations.ResetState : Prop :=
  (∀ (f : Field) (a b : Nat), State.reset.rd f a b = f.resetAt a)
  ∧ State.reset.pending = [] ∧ State.reset.pages = [] ∧ State.reset.merge.entries = [] ∧ State.reset.sessions = []
  ∧ State.reset.reqs = [] ∧ State.reset.dc = [] ∧ State.reset.decoders = [] ∧ State.reset.pwr.aux = false
  ∧ State.reset.isSeq .standby = true ∧ State.reset.ready = false ∧ State.reset.mailboxOpen = false
  ∧ State.reset.memoryWf = true

/-- Every command answers a next state in every state, and leaves the queue of waiting commands as it is. For every
command and every state exec answers a next state, never a fault and never a refusal, and the waiting commands are the
same afterwards. (R11, R330) -/
def Obligations.EveryCommandAnswers : Prop :=
  ∀ (c : Instr) (s : State), answers c s fun t => t.pending = s.pending

/-- The stroke count changes by no command but AUX_APPLY, STROKE_BOUNDARY and SYNC_EPOCH_BOUNDARY. In every state and for
every step: if the stroke count after it differs from the one before it, the command at the front of the queue was
AUX_APPLY, STROKE_BOUNDARY or SYNC_EPOCH_BOUNDARY. Whatever a host, a manager or an error does, no other command moves
time. (R23, R24, R25, R312) -/
def Obligations.TimeMovesOnlyByItsCommands : Prop :=
  ∀ (s t : State), step s = .next t → t.stroke ≠ s.stroke →
    ∃ c rest, s.pending = c :: rest ∧ movesTime c = true

/-- Officers, bindings and the trust anchor change only when a motion is applied or when the device loses or restores its
state. In every state and for every step: if the officer set, the bindings or the trust anchor after it differ from
those before it, the command at the front of the queue was MOTION_APPLY or one of the power and reset events that
clear the core domain or read the keep. No mailbox command, no host message, no manager command and no register write
changes them. (R234, R241, R264, R282) -/
def Obligations.AuthorityChangesOnlyByMotions : Prop :=
  ∀ (s t : State), step s = .next t →
    (t.prot.officers ≠ s.prot.officers ∨ t.prot.bindings ≠ s.prot.bindings ∨ t.prot.anchor ≠ s.prot.anchor) →
    ∃ c rest, s.pending = c :: rest ∧ changesAuthority c = true

/-- Every step keeps the table of the medium in its canonical form. In every state whose table of media pages lists each
page at most once, page numbers rising, every step that answers a next state leaves a table of the same form, and the
medium changes by no command but those that program, erase, commit or flush. (R79, R96, R125, R163) -/
def Obligations.MediumStaysCanonical : Prop :=
  ∀ (s t : State), step s = .next t →
    (s.memoryWf = true → t.memoryWf = true)
      ∧ (t.pages ≠ s.pages → ∃ c rest, s.pending = c :: rest ∧ changesMedium c = true)

/-- A program, a toggle, an append, a settle-back, a precondition and a move stripe store to their own pages only.
Whenever the command answers a next state: PROGRAM_COMPLETE and TOGGLE_COMPLETE leave every page but the one of the
bank operation, and every line but the one it writes (a refresh writes every line of its page); LIFT_VERIFY and
RECLAIM_COPY_COMMIT leave every page but the destination and the parity page of its stripe; SETTLE_BACK_COMMIT every
page but the home page and its parity page; PRECONDITION_COMPLETE every page of another block, and it blanks those of
its own; MOVE_STRIPE_COMMIT without failed pages every page but the eight of the stripe at PTR, with failed ones all
that their appends leave; POOL_FILL_TIMEOUT every page outside the stripe that it completes. (R96, R97, R105, R117,
R119, R125, R128, R129, R130) -/
def Obligations.MediumStoresReachOnlyTheirPlaces : Prop :=
  (∀ b s t, exec (.programComplete b) s = .next t →
      (s.ops.find (bankKey b) = none → t.pages = s.pages)
        ∧ ∀ o, s.ops.find (bankKey b) = some o →
            (∀ mp, mp ≠ o.mp → t.pages.find mp = s.pages.find mp)
              ∧ (o.kind ≠ .refresh → ∀ mp ln, ¬(mp = o.mp ∧ ln = o.ln) → t.mline mp ln = s.mline mp ln))
  ∧ (∀ b s t, exec (.toggleComplete b) s = .next t →
      (s.ops.find (bankKey b) = none → t.pages = s.pages)
        ∧ ∀ o, s.ops.find (bankKey b) = some o →
            (∀ mp, mp ≠ o.mp → t.pages.find mp = s.pages.find mp)
              ∧ ∀ mp ln, ¬(mp = o.mp ∧ ln = o.ln) → t.mline mp ln = s.mline mp ln)
  ∧ (∀ lpn s t, exec (.liftVerify lpn) s = .next t →
      ∀ mp, (∀ c ∈ s.xlat.copies, c.lpn = lpn → mp ≠ c.dst ∧ mp ≠ mpParity c.dst) → t.pages.find mp = s.pages.find mp)
  ∧ (∀ lpn s t, exec (.reclaimCopyCommit lpn) s = .next t →
      ∀ mp, (∀ c ∈ s.xlat.copies, c.lpn = lpn → mp ≠ c.dst ∧ mp ≠ mpParity c.dst) → t.pages.find mp = s.pages.find mp)
  ∧ (∀ lpn s t, exec (.settleBackCommit lpn) s = .next t →
      let home := homeMp (s.tract (tractOfLpn lpn)).sb lpn
      ∀ mp, mp ≠ home → mp ≠ mpParity home → t.pages.find mp = s.pages.find mp)
  ∧ (∀ sbn failed s t, exec (.preconditionComplete sbn failed) s = .next t →
      ∀ mp, (mpSbn mp ≠ sbn → t.pages.find mp = s.pages.find mp)
        ∧ (mpSbn mp = sbn → s.preconditioning.contains sbn → t.pages.find mp = none))
  ∧ (∀ tract s t, exec (.moveStripeCommit tract) s = .next t →
      ∀ m, s.xlat.moves.find? (fun m => m.tract == tract) = some m →
        (m.failed = [] → ∀ mp, (∀ k < 8, mp ≠ mpOf (s.tract m.tract).sb (s.tract m.tract).ptr k) →
            t.pages.find mp = s.pages.find mp)
          ∧ ∀ pages u, m.load = some pages → m.committed = false →
              s.liftAllFailed m pages (m.failed.filter (· < 7)) = some u →
              ∀ mp, (∀ k < 8, mp ≠ mpOf (u.tract m.tract).sb (u.tract m.tract).ptr k) →
                t.pages.find mp = u.pages.find mp)
  ∧ (∀ course hot s t, exec (.poolFillTimeout course hot) s = .next t →
      (s.xlat.opens.find (openKey hot course) = none → t.pages = s.pages)
        ∧ ∀ o, s.xlat.opens.find (openKey hot course) = some o →
            ∀ mp, mp / 8 ≠ o.sbn * 256 + (s.block o.sbn).fill / 7 → t.pages.find mp = s.pages.find mp)

/-- The list of Applied motions never holds more than 16. In every state that lists at most 16 applied motions, every step
that answers a next state leaves at most 16. (R239) -/
def Obligations.AppliedMotionsStayBounded : Prop :=
  ∀ (s t : State), step s = .next t → s.prot.applied.length ≤ 16 → t.prot.applied.length ≤ 16

/-- The factory-reserved BAR2 space reads as zero and takes writes without error and without effect. Outside a start
opened to factory test access, an offset from 0x00F0_0000 to 0x00FF_FFFF reads as zero, and a write to it, of 32 bits
or of another width, as a plain register write or as one to a field that only a motion changes, leaves the whole state
as it was. (R10) -/
def Obligations.FactoryReservedSpace : Prop :=
  ∀ (s : State) (a : Nat), s.prot.testAccess = false → 0xF00000 ≤ a → a ≤ 0xFFFFFF →
    s.readWord a = 0
      ∧ (∀ v, answers (.registerWrite (.bar2 a) v) s fun t => t = s)
      ∧ (∀ w v, answers (.bar2AccessError a w v) s fun t => t = s)
      ∧ (∀ v, answers (.rwmWriteReject a v) s fun t => t = s)

/-- Unassigned BAR2 ranges and the gaps inside blocks read as zero and take writes without error and without effect. The
same holds for the unassigned ranges 0x00E0_0000 to 0x00EF_FFFF and 0x0500_0000 to 0x0FFF_FFFF, for the factory-
reserved range, and for every word inside the blocks that no register table names: it reads as zero, and a 32-bit
write leaves the whole state as it was. (R371) -/
def Obligations.UnassignedSpace : Prop :=
  (∀ (s : State) (a : Nat), (0xE00000 ≤ a ∧ a ≤ 0xFFFFFF) ∨ (0x5000000 ≤ a ∧ a ≤ 0xFFFFFFF) →
    s.readWord a = 0
      ∧ (∀ v, answers (.registerWrite (.bar2 a) v) s fun t => t = s)
      ∧ (∀ w v, answers (.bar2AccessError a w v) s fun t => t = s))
  ∧ (∀ (s : State) (a : Nat), a < 0xE00000 → a % 4 = 0 → fieldsAt a = [] → s.viewAt a = none →
    s.readWord a = 0
      ∧ (∀ v, answers (.registerWrite (.bar2 a) v) s fun t => t = s)
      ∧ (∀ v, answers (.bar2AccessError a 4 v) s fun t => t = s))

/-- SECOND is answered when its motion is Applied or Refused; MOTION STATUS answers Lodged, Applied or unknown. A SECOND
that fails a check is answered at once. One whose checks find nothing while its motion is still valid sends nothing,
and its motion remembers the path; one whose motion is no longer valid is refused and answered at once. MOTION_APPLY
answers, for every motion it applies, the path that waits for it, with state Applied. MOTION_STATUS of a Lodged motion
answers 1, of one among the applied motions that are remembered 3, and otherwise 0. MOTION_APPLY leaves the last 16 of
the motions remembered before and the one it applies. (R239) -/
def Obligations.SecondAndMotionStatusAnswer : Prop :=
  (∀ (s : State) (p : CmdPath) (m : Second), heard s p (.second p m) .mgmt → s.secondReason m ≠ 0 →
    answers (.second p m) s fun t => Out.response p .success 0 [s.secondReason m, s.motionState m.motion] ∈ t.out)
  ∧ (∀ (s : State) (p : CmdPath) (m : Second) (l : Lodged), heard s p (.second p m) .mgmt → s.secondReason m = 0 →
      s.findLodged m.motion = some l → s.argsOk m.motion.args = true →
      (s.onlyLodged.filter (fun x => !decide (x.motion = m.motion))).any (fun x => motionsConflict x.motion.args m.motion.args) = false →
    answers (.second p m) s fun t =>
      (∀ q rc e d, Out.response q rc e d ∈ t.out → Out.response q rc e d ∈ s.out)
        ∧ (∃ x ∈ t.prot.lodged, x.motion = m.motion ∧ x.path = some p))
  ∧ (∀ (s : State) (p : CmdPath) (m : Second) (l : Lodged), heard s p (.second p m) .mgmt → s.secondReason m = 0 →
      s.findLodged m.motion = some l →
      (s.onlyLodged.filter (fun x => !decide (x.motion = m.motion))).any (fun x => motionsConflict x.motion.args m.motion.args) = true →
    answers (.second p m) s fun t => Out.response p .success 0 [0x06, 5] ∈ t.out)
  ∧ (∀ (s : State) (p : CmdPath) (m : Second) (l : Lodged), heard s p (.second p m) .mgmt → s.secondReason m = 0 →
      s.findLodged m.motion = some l → s.argsOk m.motion.args = false →
      (s.onlyLodged.filter (fun x => !decide (x.motion = m.motion))).any (fun x => motionsConflict x.motion.args m.motion.args) = false →
    answers (.second p m) s fun t => Out.response p .success 0 [0x0A, 5] ∈ t.out)
  ∧ (∀ (s : State) (l : Lodged) (c : CmdPath), l ∈ s.prot.lodged → l.kept = true → l.path = some c →
    answers .motionApply s fun t => Out.response c .success 0 [0, 3] ∈ t.out)
  ∧ (∀ (s : State) (l : Lodged), s.prot.lodged.filter (·.kept) = [l] →
    answers .motionApply s fun t =>
      t.prot.applied = s.prot.applied.drop (s.prot.applied.length - 15) ++ [l.motion])
  ∧ (∀ (s : State) (p : CmdPath) (m : Motion), heard s p (.motionStatus p m) .mgmt →
    answers (.motionStatus p m) s fun t =>
      (∀ l, s.findLodged m = some l → l.group = 0 → Out.response p .success 0 [0, 1] ∈ t.out)
        ∧ (∀ l, s.findLodged m = some l → l.group ≠ 0 → Out.response p .success 0 [0, 0] ∈ t.out)
        ∧ (s.findLodged m = none → m ∈ s.prot.applied → Out.response p .success 0 [0, 3] ∈ t.out)
        ∧ (s.findLodged m = none → m ∉ s.prot.applied → Out.response p .success 0 [0, 0] ∈ t.out))

/-- What the commands leave unchanged: host messages, links, ports, sessions and queues. For each command named in the
statement, with every operand and in every state: whenever it answers a next state, that state equals the one before
but for the parts that its clause lists, and, where its clause lists register fields, every register of another field
reads as before (TELEM_BLK_OVF is listed throughout, since any command can bring the event that wraps a telemetry
counter; regs, telem and out are the registers, the telemetry counters and the transcript). The queue is never among
the parts. (R45, R53, R63, R65, R66, R77) -/
def Obligations.HostTrafficFrames : Prop :=
  (∀ a, changes (.memRd a) (fun s t => { s with
      regs := t.regs, out := t.out, events := t.events, sessions := t.sessions,
      chron := { s.chron with
        perm := t.chron.perm, ring := t.chron.ring, buffer := t.chron.buffer, nextSerial := t.chron.nextSerial,
        runs := t.chron.runs, dropped := t.chron.dropped },
      merge := { s.merge with capoCredits := t.merge.capoCredits },
      telem := { s.telem with counts := t.telem.counts, bwRead := t.telem.bwRead } })
    ∧ changesRegs (.memRd a) [
      Reg.CHRON_DROP_CNT, Reg.CHRON_REPEAT_CNT, Reg.SESS_HELD, Reg.SESS_HOLD_CNT, Reg.SESS_ORPHAN_CNT,
      Reg.SESS_SPILL_STATUS_SHARED_FREE, Reg.TELEM_BLK_OVF_OVF])
  ∧ (∀ a, changes (.memRdData a) (fun s t => { s with
      regs := t.regs, out := t.out, events := t.events, sessions := t.sessions,
      chron := { s.chron with
        perm := t.chron.perm, ring := t.chron.ring, buffer := t.chron.buffer, nextSerial := t.chron.nextSerial,
        runs := t.chron.runs, dropped := t.chron.dropped },
      merge := { s.merge with capoCredits := t.merge.capoCredits },
      telem := { s.telem with counts := t.telem.counts, bwRead := t.telem.bwRead } })
    ∧ changesRegs (.memRdData a) [
      Reg.CHRON_DROP_CNT, Reg.CHRON_REPEAT_CNT, Reg.SESS_HELD, Reg.SESS_HOLD_CNT, Reg.SESS_ORPHAN_CNT,
      Reg.SESS_SPILL_STATUS_SHARED_FREE, Reg.TELEM_BLK_OVF_OVF])
  ∧ (∀ a, changes (.memInv a) (fun s t => { s with
      regs := t.regs, out := t.out, events := t.events, sessions := t.sessions,
      chron := { s.chron with
        perm := t.chron.perm, ring := t.chron.ring, buffer := t.chron.buffer, nextSerial := t.chron.nextSerial,
        runs := t.chron.runs, dropped := t.chron.dropped },
      merge := { s.merge with capoCredits := t.merge.capoCredits },
      telem := { s.telem with counts := t.telem.counts, bwRead := t.telem.bwRead } })
    ∧ changesRegs (.memInv a) [
      Reg.CHRON_DROP_CNT, Reg.CHRON_REPEAT_CNT, Reg.SESS_HELD, Reg.SESS_HOLD_CNT, Reg.SESS_ORPHAN_CNT,
      Reg.SESS_SPILL_STATUS_SHARED_FREE, Reg.TELEM_BLK_OVF_OVF])
  ∧ (∀ a, changes (.memInvNt a) (fun s t => { s with
      regs := t.regs, out := t.out, events := t.events, sessions := t.sessions,
      chron := { s.chron with
        perm := t.chron.perm, ring := t.chron.ring, buffer := t.chron.buffer, nextSerial := t.chron.nextSerial,
        runs := t.chron.runs, dropped := t.chron.dropped },
      merge := { s.merge with capoCredits := t.merge.capoCredits },
      telem := { s.telem with counts := t.telem.counts, bwRead := t.telem.bwRead } })
    ∧ changesRegs (.memInvNt a) [
      Reg.CHRON_DROP_CNT, Reg.CHRON_REPEAT_CNT, Reg.SESS_HELD, Reg.SESS_HOLD_CNT, Reg.SESS_ORPHAN_CNT,
      Reg.SESS_SPILL_STATUS_SHARED_FREE, Reg.TELEM_BLK_OVF_OVF])
  ∧ (∀ a, changes (.memClnEvct a) (fun s t => { s with
      regs := t.regs, out := t.out, events := t.events, sessions := t.sessions,
      chron := { s.chron with
        perm := t.chron.perm, ring := t.chron.ring, buffer := t.chron.buffer, nextSerial := t.chron.nextSerial,
        runs := t.chron.runs, dropped := t.chron.dropped },
      merge := { s.merge with capoCredits := t.merge.capoCredits },
      telem := { s.telem with counts := t.telem.counts, bwRead := t.telem.bwRead } })
    ∧ changesRegs (.memClnEvct a) [
      Reg.CHRON_DROP_CNT, Reg.CHRON_REPEAT_CNT, Reg.SESS_HELD, Reg.SESS_HOLD_CNT, Reg.SESS_ORPHAN_CNT,
      Reg.SESS_SPILL_STATUS_SHARED_FREE, Reg.TELEM_BLK_OVF_OVF])
  ∧ (∀ a b, changes (.memSpecRd a b) (fun s t => { s with
      regs := t.regs, out := t.out,
      merge := { s.merge with capoCredits := t.merge.capoCredits },
      cache := { s.cache with rc := t.cache.rc },
      telem := { s.telem with counts := t.telem.counts, bwRead := t.telem.bwRead } })
    ∧ changesRegs (.memSpecRd a b) [
      Reg.CACHE_RC_FILL_CNT, Reg.TELEM_BLK_OVF_OVF])
  ∧ (∀ a b c, changes (.memWr a b c) (fun s t => { s with
      regs := t.regs, out := t.out, keep := t.keep, chron := t.chron, events := t.events, sessions := t.sessions,
      reqs := t.reqs, nextRid := t.nextRid, merge := t.merge, cache := t.cache, sched := t.sched, xlat := t.xlat,
      err := t.err, telem := t.telem })
    ∧ changesRegs (.memWr a b c) [
      Reg.CHRON_DROP_CNT, Reg.CHRON_REPEAT_CNT, Reg.DIR_FWD_CNT, Reg.DIR_SLICE_STATUS_ENTRIES,
      Reg.ERR_BUCKET_STATUS_LEVEL, Reg.ERR_BUCKET_STATUS_OVF_CNT, Reg.ERR_CORR_VOL_CNT,
      Reg.ERR_HEALTH_EVENT_BUCKET_OVF, Reg.ERR_HEALTH_EVENT_POISON_FULL, Reg.ERR_HEALTH_EVENT_UNCORR,
      Reg.ERR_POISON_LIST_OVERFLOW, Reg.ERR_POISON_LIST_RECORDS, Reg.ERR_UNCORR_CNT, Reg.MERGE_MERGE_CNT,
      Reg.MERGE_PARTIAL_LINES, Reg.MERGE_SETTLE_REFETCH_CNT, Reg.MERGE_SETTLING_LINES, Reg.MERGE_STATUS_DIRTY,
      Reg.MERGE_STATUS_LIMIT, Reg.PORT_INFLIGHT_LINK0, Reg.PORT_INFLIGHT_LINK1, Reg.PORT_INFLIGHT_PEAK_LINK0,
      Reg.PORT_INFLIGHT_PEAK_LINK1, Reg.SESS_HELD, Reg.SESS_HOLD_CNT, Reg.SESS_ORPHAN_CNT,
      Reg.SESS_SPILL_STATUS_SHARED_FREE, Reg.TELEM_BLK_OVF_OVF, Reg.XLAT_PINNED_LINES])
  ∧ (∀ a b c d, changes (.memWrPtl a b c d) (fun s t => { s with
      regs := t.regs, out := t.out, keep := t.keep, chron := t.chron, events := t.events, sessions := t.sessions,
      reqs := t.reqs, nextRid := t.nextRid, merge := t.merge, cache := t.cache, sched := t.sched, xlat := t.xlat,
      err := t.err, telem := t.telem })
    ∧ changesRegs (.memWrPtl a b c d) [
      Reg.CHRON_DROP_CNT, Reg.CHRON_REPEAT_CNT, Reg.DIR_FWD_CNT, Reg.DIR_SLICE_STATUS_ENTRIES,
      Reg.ERR_BUCKET_STATUS_LEVEL, Reg.ERR_BUCKET_STATUS_OVF_CNT, Reg.ERR_CORR_VOL_CNT,
      Reg.ERR_HEALTH_EVENT_BUCKET_OVF, Reg.ERR_HEALTH_EVENT_POISON_FULL, Reg.ERR_HEALTH_EVENT_UNCORR,
      Reg.ERR_POISON_LIST_OVERFLOW, Reg.ERR_POISON_LIST_RECORDS, Reg.ERR_UNCORR_CNT, Reg.MERGE_MERGE_CNT,
      Reg.MERGE_PARTIAL_LINES, Reg.MERGE_SETTLE_REFETCH_CNT, Reg.MERGE_SETTLING_LINES, Reg.MERGE_STATUS_DIRTY,
      Reg.MERGE_STATUS_LIMIT, Reg.PORT_INFLIGHT_LINK0, Reg.PORT_INFLIGHT_LINK1, Reg.PORT_INFLIGHT_PEAK_LINK0,
      Reg.PORT_INFLIGHT_PEAK_LINK1, Reg.SESS_HELD, Reg.SESS_HOLD_CNT, Reg.SESS_ORPHAN_CNT,
      Reg.SESS_SPILL_STATUS_SHARED_FREE, Reg.TELEM_BLK_OVF_OVF, Reg.XLAT_PINNED_LINES])
  ∧ (∀ a, changes (.biConflict a) (fun s t => { s with
      regs := t.regs, out := t.out, events := t.events, sessions := t.sessions,
      chron := { s.chron with
        perm := t.chron.perm, ring := t.chron.ring, buffer := t.chron.buffer, nextSerial := t.chron.nextSerial,
        runs := t.chron.runs, dropped := t.chron.dropped },
      merge := { s.merge with capoCredits := t.merge.capoCredits },
      telem := { s.telem with counts := t.telem.counts, bwRead := t.telem.bwRead } })
    ∧ changesRegs (.biConflict a) [
      Reg.CHRON_DROP_CNT, Reg.CHRON_REPEAT_CNT, Reg.DIR_CONFLICT_CNT, Reg.SESS_HELD, Reg.SESS_HOLD_CNT,
      Reg.SESS_ORPHAN_CNT, Reg.SESS_SPILL_STATUS_SHARED_FREE, Reg.TELEM_BLK_OVF_OVF])
  ∧ (∀ a b c d e, changes (.biRsp a b c d e) (fun s t => { s with
      regs := t.regs, out := t.out, events := t.events, sessions := t.sessions, reqs := t.reqs, cache := t.cache,
      chron := { s.chron with
        perm := t.chron.perm, ring := t.chron.ring, buffer := t.chron.buffer, nextSerial := t.chron.nextSerial,
        runs := t.chron.runs, dropped := t.chron.dropped },
      sched := { s.sched with jobs := t.sched.jobs },
      telem := { s.telem with counts := t.telem.counts, bwRead := t.telem.bwRead } })
    ∧ changesRegs (.biRsp a b c d e) [
      Reg.CACHE_FWD_CNT, Reg.CACHE_HIT_CNT, Reg.CACHE_MISS_CNT, Reg.CHRON_DROP_CNT, Reg.CHRON_REPEAT_CNT,
      Reg.DIR_BCAST_CNT, Reg.DIR_BISNP_CNT, Reg.DIR_EVBUF_USED, Reg.DIR_EVICT_CNT, Reg.DIR_HOST_OVF_ENTRIES,
      Reg.DIR_HOST_STATUS_ENTRIES, Reg.DIR_RESOLVE_WAIT_CNT, Reg.DIR_SLICE_STATUS_ENTRIES,
      Reg.ERR_BUCKET_STATUS_LEVEL, Reg.ERR_BUCKET_STATUS_OVF_CNT, Reg.ERR_CORR_VOL_CNT,
      Reg.ERR_HEALTH_EVENT_BUCKET_OVF, Reg.PORT_INFLIGHT_LINK0, Reg.PORT_INFLIGHT_LINK1,
      Reg.PORT_INFLIGHT_PEAK_LINK0, Reg.PORT_INFLIGHT_PEAK_LINK1, Reg.PROT_INTEG_FAIL_CNT,
      Reg.RANGE_INTEG_FAIL_CNT, Reg.TELEM_BLK_OVF_OVF])
  ∧ (∀ a b, changes (.ideIntegrityFailure a b) (fun s t => { s with
      regs := t.regs, out := t.out, events := t.events, reqs := t.reqs,
      chron := { s.chron with
        perm := t.chron.perm, ring := t.chron.ring, buffer := t.chron.buffer, nextSerial := t.chron.nextSerial,
        runs := t.chron.runs, dropped := t.chron.dropped },
      prot := { s.prot with ide := t.prot.ide },
      telem := { s.telem with counts := t.telem.counts, bwRead := t.telem.bwRead } })
    ∧ changesRegs (.ideIntegrityFailure a b) [
      Reg.CHRON_DROP_CNT, Reg.CHRON_REPEAT_CNT, Reg.PORT_EVENT_IDE_FAIL, Reg.PORT_IDE_FAIL_CNT,
      Reg.PORT_LINK_STATUS0_IDE, Reg.PORT_LINK_STATUS1_IDE, Reg.TELEM_BLK_OVF_OVF])
  ∧ (∀ a b, changes (.linkDown a b) (fun s t => { s with
      regs := t.regs, out := t.out, msixEn := t.msixEn, sessions := t.sessions, reqs := t.reqs,
      decoders := t.decoders, cache := t.cache, cfgSpace := t.cfgSpace, bar0 := t.bar0, d3 := t.d3,
      prot := { s.prot with ide := t.prot.ide },
      telem := { s.telem with counts := t.telem.counts, bwRead := t.telem.bwRead } })
    ∧ changesRegs (.linkDown a b) [
      Reg.PORT_EVENT_LINK_DOWN, Reg.PORT_LINKDOWN_CNT, Reg.PORT_LINK_STATUS0_FLIT, Reg.PORT_LINK_STATUS0_IDE,
      Reg.PORT_LINK_STATUS0_RATE, Reg.PORT_LINK_STATUS0_UP, Reg.PORT_LINK_STATUS0_WIDTH,
      Reg.PORT_LINK_STATUS1_FLIT, Reg.PORT_LINK_STATUS1_IDE, Reg.PORT_LINK_STATUS1_RATE, Reg.PORT_LINK_STATUS1_UP,
      Reg.PORT_LINK_STATUS1_WIDTH, Reg.SESS_SPILL_STATUS_SHARED_FREE, Reg.TELEM_BLK_OVF_OVF])
  ∧ (∀ a b, changes (.perstNAssert a b) (fun s t => { s with
      regs := t.regs, out := t.out, msixEn := t.msixEn, perst := t.perst, prot := t.prot, sessions := t.sessions,
      reqs := t.reqs, decoders := t.decoders, cache := t.cache, telem := t.telem, cfgSpace := t.cfgSpace,
      bar0 := t.bar0, d3 := t.d3 })
    ∧ changesRegs (.perstNAssert a b) [
      Reg.PORT_EVENT_LINK_DOWN, Reg.PORT_LINKDOWN_CNT, Reg.PORT_LINK_STATUS0_FLIT, Reg.PORT_LINK_STATUS0_IDE,
      Reg.PORT_LINK_STATUS0_RATE, Reg.PORT_LINK_STATUS0_UP, Reg.PORT_LINK_STATUS0_WIDTH,
      Reg.PORT_LINK_STATUS1_FLIT, Reg.PORT_LINK_STATUS1_IDE, Reg.PORT_LINK_STATUS1_RATE, Reg.PORT_LINK_STATUS1_UP,
      Reg.PORT_LINK_STATUS1_WIDTH, Reg.PORT_MODE_STATUS_BIFURCATE, Reg.SESS_SPILL_STATUS_SHARED_FREE,
      Reg.TELEM_BLK_OVF_OVF])
  ∧ (∀ a, changes (.perstNDeassert a) (fun s t => { s with
      regs := t.regs, out := t.out, perst := t.perst,
      telem := { s.telem with counts := t.telem.counts, bwRead := t.telem.bwRead } })
    ∧ changesRegs (.perstNDeassert a) [
      Reg.TELEM_BLK_OVF_OVF])
  ∧ (∀ a b c d e, changes (.linkUp a b c d e) (fun s t => { s with
      regs := t.regs, out := t.out,
      telem := { s.telem with counts := t.telem.counts, bwRead := t.telem.bwRead } })
    ∧ changesRegs (.linkUp a b c d e) [
      Reg.PORT_EVENT_RATE_FALLBACK, Reg.PORT_EVENT_WIDTH_DEGRADED, Reg.PORT_LINK_STATUS0_FLIT,
      Reg.PORT_LINK_STATUS0_IDE, Reg.PORT_LINK_STATUS0_RATE, Reg.PORT_LINK_STATUS0_UP, Reg.PORT_LINK_STATUS0_WIDTH,
      Reg.PORT_LINK_STATUS1_FLIT, Reg.PORT_LINK_STATUS1_IDE, Reg.PORT_LINK_STATUS1_RATE, Reg.PORT_LINK_STATUS1_UP,
      Reg.PORT_LINK_STATUS1_WIDTH, Reg.PORT_MODE_STATUS_MODE, Reg.PORT_MODE_STATUS_MODE_PENDING,
      Reg.TELEM_BLK_OVF_OVF])
  ∧ (∀ a b c d e, changes (.allowanceCheck a b c d e) (fun s t => { s with
      regs := t.regs, out := t.out, keep := t.keep, chron := t.chron, events := t.events, sessions := t.sessions,
      reqs := t.reqs, nextRid := t.nextRid, merge := t.merge, cache := t.cache, sched := t.sched, xlat := t.xlat,
      err := t.err, telem := t.telem })
    ∧ changesRegs (.allowanceCheck a b c d e) [
      Reg.CACHE_FWD_CNT, Reg.CACHE_HIT_CNT, Reg.CACHE_MISS_CNT, Reg.CHRON_DROP_CNT, Reg.CHRON_REPEAT_CNT,
      Reg.DIR_BCAST_CNT, Reg.DIR_BISNP_CNT, Reg.DIR_EVBUF_USED, Reg.DIR_EVICT_CNT, Reg.DIR_HOST_OVF_ENTRIES,
      Reg.DIR_HOST_STATUS_ENTRIES, Reg.DIR_RESOLVE_WAIT_CNT, Reg.DIR_SLICE_STATUS_ENTRIES,
      Reg.ERR_BUCKET_STATUS_LEVEL, Reg.ERR_BUCKET_STATUS_OVF_CNT, Reg.ERR_CORR_VOL_CNT,
      Reg.ERR_HEALTH_EVENT_BUCKET_OVF, Reg.ERR_HEALTH_EVENT_POISON_FULL, Reg.ERR_HEALTH_EVENT_UNCORR,
      Reg.ERR_POISON_LIST_OVERFLOW, Reg.ERR_POISON_LIST_RECORDS, Reg.ERR_UNCORR_CNT, Reg.MERGE_MERGE_CNT,
      Reg.MERGE_PARTIAL_LINES, Reg.MERGE_SETTLE_REFETCH_CNT, Reg.MERGE_SETTLING_LINES, Reg.MERGE_SET_FULL_CNT,
      Reg.MERGE_STATUS_DIRTY, Reg.MERGE_STATUS_LIMIT, Reg.PORT_INFLIGHT_LINK0, Reg.PORT_INFLIGHT_LINK1,
      Reg.PORT_INFLIGHT_PEAK_LINK0, Reg.PORT_INFLIGHT_PEAK_LINK1, Reg.PROT_INTEG_FAIL_CNT,
      Reg.RANGE_INTEG_FAIL_CNT, Reg.SESS_Q_LOST_CNT, Reg.SESS_Q_PARITY_CNT, Reg.TELEM_BLK_OVF_OVF,
      Reg.XLAT_PINNED_LINES])
  ∧ (∀ a b c, changes (.sessionCreate a b c) (fun s t => { s with
      regs := t.regs, out := t.out, sessions := t.sessions,
      mbox := { s.mbox with stored := t.mbox.stored },
      telem := { s.telem with counts := t.telem.counts, bwRead := t.telem.bwRead } })
    ∧ changesRegs (.sessionCreate a b c) [
      Reg.SCHED_READ_SUM_SUM, Reg.SCHED_WRITE_SUM_SUM, Reg.SESS_CMD_REJECT_COUNT, Reg.SESS_CMD_REJECT_LAST_REASON,
      Reg.SESS_COUNT_ACTIVE, Reg.SESS_COUNT_FENCING, Reg.TELEM_BLK_OVF_OVF])
  ∧ (∀ a b c, changes (.sessionModify a b c) (fun s t => { s with
      regs := t.regs, out := t.out, sessions := t.sessions,
      mbox := { s.mbox with stored := t.mbox.stored },
      telem := { s.telem with counts := t.telem.counts, bwRead := t.telem.bwRead } })
    ∧ changesRegs (.sessionModify a b c) [
      Reg.SCHED_READ_SUM_SUM, Reg.SCHED_WRITE_SUM_SUM, Reg.SESS_CMD_REJECT_COUNT, Reg.SESS_CMD_REJECT_LAST_REASON,
      Reg.SESS_COUNT_ACTIVE, Reg.SESS_COUNT_FENCING, Reg.TELEM_BLK_OVF_OVF])
  ∧ (∀ a b, changes (.sessionFence a b) (fun s t => { s with
      regs := t.regs, out := t.out, sessions := t.sessions,
      mbox := { s.mbox with stored := t.mbox.stored },
      telem := { s.telem with counts := t.telem.counts, bwRead := t.telem.bwRead } })
    ∧ changesRegs (.sessionFence a b) [
      Reg.SCHED_READ_SUM_SUM, Reg.SCHED_WRITE_SUM_SUM, Reg.SESS_CMD_REJECT_COUNT, Reg.SESS_CMD_REJECT_LAST_REASON,
      Reg.SESS_COUNT_ACTIVE, Reg.SESS_COUNT_FENCING, Reg.TELEM_BLK_OVF_OVF])
  ∧ (∀ a b, changes (.sessionGet a b) (fun s t => { s with
      regs := t.regs, out := t.out,
      mbox := { s.mbox with stored := t.mbox.stored },
      telem := { s.telem with counts := t.telem.counts, bwRead := t.telem.bwRead } })
    ∧ changesRegs (.sessionGet a b) [
      Reg.SESS_CMD_REJECT_COUNT, Reg.SESS_CMD_REJECT_LAST_REASON, Reg.TELEM_BLK_OVF_OVF])
  ∧ (∀ a, changes (.fenceDrainEnd a) (fun s t => { s with
      regs := t.regs, out := t.out, sessions := t.sessions, internals := t.internals,
      cache := { s.cache with
        lines := t.cache.lines, host := t.cache.host, snoops := t.cache.snoops, clock := t.cache.clock,
        biCredits := t.cache.biCredits },
      telem := { s.telem with counts := t.telem.counts, bwRead := t.telem.bwRead } })
    ∧ changesRegs (.fenceDrainEnd a) [
      Reg.DIR_BCAST_CNT, Reg.DIR_BISNP_CNT, Reg.DIR_EVBUF_USED, Reg.DIR_HOST_OVF_ENTRIES,
      Reg.DIR_HOST_STATUS_ENTRIES, Reg.DIR_SLICE_STATUS_ENTRIES, Reg.SCHED_READ_SUM_SUM, Reg.SCHED_WRITE_SUM_SUM,
      Reg.SESS_COUNT_ACTIVE, Reg.SESS_COUNT_FENCING, Reg.TELEM_BLK_OVF_OVF])
  ∧ (∀ a b, changes (.fenceBiTimeout a b) (fun s t => { s with
      regs := t.regs, out := t.out, events := t.events, sessions := t.sessions, reqs := t.reqs, cache := t.cache,
      chron := { s.chron with
        perm := t.chron.perm, ring := t.chron.ring, buffer := t.chron.buffer, nextSerial := t.chron.nextSerial,
        runs := t.chron.runs, dropped := t.chron.dropped },
      sched := { s.sched with jobs := t.sched.jobs },
      telem := { s.telem with counts := t.telem.counts, bwRead := t.telem.bwRead } })
    ∧ changesRegs (.fenceBiTimeout a b) [
      Reg.CACHE_FWD_CNT, Reg.CACHE_HIT_CNT, Reg.CACHE_MISS_CNT, Reg.CHRON_DROP_CNT, Reg.CHRON_REPEAT_CNT,
      Reg.DIR_BCAST_CNT, Reg.DIR_BISNP_CNT, Reg.DIR_EVBUF_USED, Reg.DIR_EVICT_CNT, Reg.DIR_HOST_OVF_ENTRIES,
      Reg.DIR_HOST_STATUS_ENTRIES, Reg.DIR_RESOLVE_WAIT_CNT, Reg.DIR_SLICE_STATUS_ENTRIES,
      Reg.ERR_BUCKET_STATUS_LEVEL, Reg.ERR_BUCKET_STATUS_OVF_CNT, Reg.ERR_CORR_VOL_CNT,
      Reg.ERR_HEALTH_EVENT_BUCKET_OVF, Reg.PORT_INFLIGHT_LINK0, Reg.PORT_INFLIGHT_LINK1,
      Reg.PORT_INFLIGHT_PEAK_LINK0, Reg.PORT_INFLIGHT_PEAK_LINK1, Reg.PROT_INTEG_FAIL_CNT,
      Reg.RANGE_INTEG_FAIL_CNT, Reg.SESS_BI_TIMEOUT_CNT, Reg.TELEM_BLK_OVF_OVF])
  ∧ (∀ a b c, changes (.spillRefill a b c) (fun s t => { s with
      regs := t.regs, out := t.out, events := t.events, sessions := t.sessions,
      chron := { s.chron with
        perm := t.chron.perm, ring := t.chron.ring, buffer := t.chron.buffer, nextSerial := t.chron.nextSerial,
        runs := t.chron.runs, dropped := t.chron.dropped },
      telem := { s.telem with counts := t.telem.counts, bwRead := t.telem.bwRead } })
    ∧ changesRegs (.spillRefill a b c) [
      Reg.CHRON_DROP_CNT, Reg.CHRON_REPEAT_CNT, Reg.ERR_BUCKET_STATUS_LEVEL, Reg.ERR_BUCKET_STATUS_OVF_CNT,
      Reg.ERR_CORR_VOL_CNT, Reg.ERR_HEALTH_EVENT_BUCKET_OVF, Reg.ERR_HEALTH_EVENT_UNCORR, Reg.ERR_UNCORR_CNT,
      Reg.SESS_SPILL_STATUS_SHARED_FREE, Reg.TELEM_BLK_OVF_OVF])
  ∧ (∀ a, changes (.mergeComplete a) (fun s t => { s with
      regs := t.regs, out := t.out, sessions := t.sessions, reqs := t.reqs,
      merge := { s.merge with entries := t.merge.entries },
      cache := { s.cache with
        lines := t.cache.lines, fills := t.cache.fills, busy := t.cache.busy, victims := t.cache.victims,
        purges := t.cache.purges },
      sched := { s.sched with jobs := t.sched.jobs },
      telem := { s.telem with counts := t.telem.counts, bwRead := t.telem.bwRead } })
    ∧ changesRegs (.mergeComplete a) [
      Reg.DIR_SLICE_STATUS_ENTRIES, Reg.PORT_INFLIGHT_LINK0, Reg.PORT_INFLIGHT_LINK1, Reg.PORT_INFLIGHT_PEAK_LINK0,
      Reg.PORT_INFLIGHT_PEAK_LINK1, Reg.TELEM_BLK_OVF_OVF])
  ∧ (∀ a b c d e, changes (.fillReturn a b c d e) (fun s t => { s with
      regs := t.regs, out := t.out, events := t.events, chans := t.chans,
      keep := { s.keep with shadow := t.keep.shadow, queue := t.keep.queue, lost := t.keep.lost },
      chron := { s.chron with
        perm := t.chron.perm, ring := t.chron.ring, buffer := t.chron.buffer, nextSerial := t.chron.nextSerial,
        runs := t.chron.runs, dropped := t.chron.dropped },
      merge := { s.merge with entries := t.merge.entries },
      sched := { s.sched with jobs := t.sched.jobs },
      err := { s.err with
        poison := t.err.poison, poisonLost := t.err.poisonLost, refresh := t.err.refresh,
        rewrites := t.err.rewrites, lastUncorrHi := t.err.lastUncorrHi },
      telem := { s.telem with counts := t.telem.counts, bwRead := t.telem.bwRead } })
    ∧ changesRegs (.fillReturn a b c d e) [
      Reg.CHAN_CORR_CNT, Reg.CHAN_RECON_CNT, Reg.CHAN_RETRY_CNT, Reg.CHAN_UNCORR_CNT, Reg.CHRON_DROP_CNT,
      Reg.CHRON_REPEAT_CNT, Reg.ERR_BUCKET_STATUS_LEVEL, Reg.ERR_BUCKET_STATUS_OVF_CNT, Reg.ERR_CORR_PERS_CNT,
      Reg.ERR_HEALTH_EVENT_BUCKET_OVF, Reg.ERR_HEALTH_EVENT_DIE_FAIL, Reg.ERR_HEALTH_EVENT_POISON_FULL,
      Reg.ERR_HEALTH_EVENT_UNCORR, Reg.ERR_LAST_UNCORR_HI_VALID, Reg.ERR_LAST_UNCORR_LO_DPA_LO,
      Reg.ERR_POISON_LIST_OVERFLOW, Reg.ERR_POISON_LIST_RECORDS, Reg.ERR_REWRITE_CNT, Reg.ERR_UNCORR_CNT,
      Reg.MERGE_FILL_BAD_CNT, Reg.MERGE_PARTIAL_LINES, Reg.MERGE_SETTLING_LINES, Reg.MERGE_STATUS_DIRTY,
      Reg.MERGE_STATUS_LIMIT, Reg.PROT_INTEG_FAIL_CNT, Reg.RANGE_INTEG_FAIL_CNT, Reg.TELEM_BLK_OVF_OVF,
      Reg.XLAT_PINNED_LINES])
  ∧ (∀ a b, changes (.sliceFillInstall a b) (fun s t => { s with
      regs := t.regs, out := t.out,
      cache := { s.cache with
        lines := t.cache.lines, fills := t.cache.fills, victims := t.cache.victims, purges := t.cache.purges,
        dirWay := t.cache.dirWay, dirPlru := t.cache.dirPlru, plru := t.cache.plru },
      telem := { s.telem with counts := t.telem.counts, bwRead := t.telem.bwRead } })
    ∧ changesRegs (.sliceFillInstall a b) [
      Reg.CACHE_FILL_DROP_CNT, Reg.CACHE_WT_WAIT_CNT, Reg.DIR_SLICE_EVICT_CNT, Reg.DIR_SLICE_STATUS_ENTRIES,
      Reg.TELEM_BLK_OVF_OVF])
  ∧ (∀ a b, changes (.readCacheProbeReturn a b) (fun s t => { s with
      regs := t.regs, out := t.out, events := t.events, sessions := t.sessions, reqs := t.reqs,
      chron := { s.chron with
        perm := t.chron.perm, ring := t.chron.ring, buffer := t.chron.buffer, nextSerial := t.chron.nextSerial,
        runs := t.chron.runs, dropped := t.chron.dropped },
      cache := { s.cache with fills := t.cache.fills },
      sched := { s.sched with jobs := t.sched.jobs },
      telem := { s.telem with counts := t.telem.counts, bwRead := t.telem.bwRead } })
    ∧ changesRegs (.readCacheProbeReturn a b) [
      Reg.CACHE_RC_HIT_CNT, Reg.CACHE_RC_STALE_CNT, Reg.CHRON_DROP_CNT, Reg.CHRON_REPEAT_CNT,
      Reg.ERR_BUCKET_STATUS_LEVEL, Reg.ERR_BUCKET_STATUS_OVF_CNT, Reg.ERR_CORR_VOL_CNT,
      Reg.ERR_HEALTH_EVENT_BUCKET_OVF, Reg.PORT_INFLIGHT_LINK0, Reg.PORT_INFLIGHT_LINK1,
      Reg.PORT_INFLIGHT_PEAK_LINK0, Reg.PORT_INFLIGHT_PEAK_LINK1, Reg.SCHED_BOUND_MISS, Reg.SCHED_MAX_LAT_CCLK,
      Reg.TELEM_BLK_OVF_OVF])
  ∧ (∀ a b, changes (.snoopTimeout a b) (fun s t => { s with
      regs := t.regs, out := t.out, events := t.events, sessions := t.sessions, reqs := t.reqs, cache := t.cache,
      chron := { s.chron with
        perm := t.chron.perm, ring := t.chron.ring, buffer := t.chron.buffer, nextSerial := t.chron.nextSerial,
        runs := t.chron.runs, dropped := t.chron.dropped },
      sched := { s.sched with jobs := t.sched.jobs },
      telem := { s.telem with counts := t.telem.counts, bwRead := t.telem.bwRead } })
    ∧ changesRegs (.snoopTimeout a b) [
      Reg.CACHE_FWD_CNT, Reg.CACHE_HIT_CNT, Reg.CACHE_MISS_CNT, Reg.CHRON_DROP_CNT, Reg.CHRON_REPEAT_CNT,
      Reg.DIR_BCAST_CNT, Reg.DIR_BISNP_CNT, Reg.DIR_BI_TIMEOUT_CNT, Reg.DIR_EVBUF_USED, Reg.DIR_EVICT_CNT,
      Reg.DIR_HOST_OVF_ENTRIES, Reg.DIR_HOST_STATUS_ENTRIES, Reg.DIR_RESOLVE_WAIT_CNT,
      Reg.DIR_SLICE_STATUS_ENTRIES, Reg.ERR_BUCKET_STATUS_LEVEL, Reg.ERR_BUCKET_STATUS_OVF_CNT,
      Reg.ERR_CORR_VOL_CNT, Reg.ERR_HEALTH_EVENT_BUCKET_OVF, Reg.PORT_INFLIGHT_LINK0, Reg.PORT_INFLIGHT_LINK1,
      Reg.PORT_INFLIGHT_PEAK_LINK0, Reg.PORT_INFLIGHT_PEAK_LINK1, Reg.PROT_INTEG_FAIL_CNT,
      Reg.RANGE_INTEG_FAIL_CNT, Reg.TELEM_BLK_OVF_OVF])
  ∧ (∀ a b, changes (.portCfgWrite a b) (fun s t => { s with
      regs := t.regs, out := t.out,
      telem := { s.telem with counts := t.telem.counts, bwRead := t.telem.bwRead } })
    ∧ changesRegs (.portCfgWrite a b) [
      Reg.PORT_CFG_BIFURCATE, Reg.PORT_CFG_FLIT68_EN, Reg.PORT_CFG_LOFLIT_EN, Reg.PORT_CFG_MAX_RATE,
      Reg.PORT_CFG_MODE, Reg.PORT_EVENT_MODE_REJECT, Reg.PORT_MODE_STATUS_MODE_PENDING, Reg.TELEM_BLK_OVF_OVF])
  ∧ (∀ a b, changes (.portCntClr a b) (fun s t => { s with
      regs := t.regs, clears := t.clears, out := t.out,
      telem := { s.telem with counts := t.telem.counts, bwRead := t.telem.bwRead } })
    ∧ changesRegs (.portCntClr a b) [
      Reg.TELEM_BLK_OVF_OVF])
  ∧ (∀ a, changes (.sessCntClr a) (fun s t => { s with
      regs := t.regs, clears := t.clears, out := t.out,
      telem := { s.telem with counts := t.telem.counts, bwRead := t.telem.bwRead } })
    ∧ changesRegs (.sessCntClr a) [
      Reg.TELEM_BLK_OVF_OVF])
  ∧ (∀ a, changes (.sessQCntClr a) (fun s t => { s with
      regs := t.regs, clears := t.clears, out := t.out,
      telem := { s.telem with counts := t.telem.counts, bwRead := t.telem.bwRead } })
    ∧ changesRegs (.sessQCntClr a) [
      Reg.TELEM_BLK_OVF_OVF])
  ∧ (∀ a b c, changes (.bisnpCreditReturn a b c) (fun s t => { s with
      regs := t.regs, out := t.out, cache := t.cache,
      telem := { s.telem with counts := t.telem.counts, bwRead := t.telem.bwRead } })
    ∧ changesRegs (.bisnpCreditReturn a b c) [
      Reg.DIR_BISNP_CNT, Reg.TELEM_BLK_OVF_OVF])
  ∧ (∀ a b c, changes (.mergeBufferLookupReturn a b c) (fun s t => { s with
      regs := t.regs, out := t.out, events := t.events, sessions := t.sessions, reqs := t.reqs,
      chron := { s.chron with
        perm := t.chron.perm, ring := t.chron.ring, buffer := t.chron.buffer, nextSerial := t.chron.nextSerial,
        runs := t.chron.runs, dropped := t.chron.dropped },
      merge := { s.merge with entries := t.merge.entries },
      cache := { s.cache with fills := t.cache.fills },
      sched := { s.sched with jobs := t.sched.jobs, now := t.sched.now },
      err := { s.err with poison := t.err.poison, poisonLost := t.err.poisonLost },
      telem := { s.telem with counts := t.telem.counts, bwRead := t.telem.bwRead } })
    ∧ changesRegs (.mergeBufferLookupReturn a b c) [
      Reg.CACHE_RC_HIT_CNT, Reg.CHRON_DROP_CNT, Reg.CHRON_REPEAT_CNT, Reg.ERR_BUCKET_STATUS_LEVEL,
      Reg.ERR_BUCKET_STATUS_OVF_CNT, Reg.ERR_CORR_VOL_CNT, Reg.ERR_DIRTY_LOST_CNT, Reg.ERR_HEALTH_EVENT_BUCKET_OVF,
      Reg.ERR_HEALTH_EVENT_DIRTY_LOST, Reg.ERR_HEALTH_EVENT_POISON_FULL, Reg.ERR_HEALTH_EVENT_UNCORR,
      Reg.ERR_POISON_LIST_OVERFLOW, Reg.ERR_POISON_LIST_RECORDS, Reg.ERR_UNCORR_CNT, Reg.MERGE_FILL_BAD_CNT,
      Reg.MERGE_PARTIAL_LINES, Reg.MERGE_SETTLE_REFETCH_CNT, Reg.MERGE_SETTLING_LINES, Reg.MERGE_STATUS_DIRTY,
      Reg.MERGE_STATUS_LIMIT, Reg.PORT_INFLIGHT_LINK0, Reg.PORT_INFLIGHT_LINK1, Reg.PORT_INFLIGHT_PEAK_LINK0,
      Reg.PORT_INFLIGHT_PEAK_LINK1, Reg.SCHED_BOUND_MISS, Reg.SCHED_MAX_LAT_CCLK, Reg.TELEM_BLK_OVF_OVF,
      Reg.XLAT_PINNED_LINES])

/-- What the commands leave unchanged: caches, directories and device-internal writes. For each command named in the
statement, with every operand and in every state: whenever it answers a next state, that state equals the one before
but for the parts that its clause lists, and, where its clause lists register fields, every register of another field
reads as before (TELEM_BLK_OVF is listed throughout, since any command can bring the event that wraps a telemetry
counter; regs, telem and out are the registers, the telemetry counters and the transcript). The queue is never among
the parts. (R168, R173, R181, R190, R193) -/
def Obligations.CachesAndErasesFrames : Prop :=
  (∀ a b, changes (.cacheWayCfgWrite a b) (fun s t => { s with
      regs := t.regs, out := t.out,
      telem := { s.telem with counts := t.telem.counts, bwRead := t.telem.bwRead } })
    ∧ changesRegs (.cacheWayCfgWrite a b) [
      Reg.CACHE_WAY_CFG_GROUP_EN, Reg.TELEM_BLK_OVF_OVF])
  ∧ (∀ a b, changes (.wayGroupCleaningEnd a b) (fun s t => { s with
      regs := t.regs, out := t.out,
      cache := { s.cache with
        lines := t.cache.lines, enabled := t.cache.enabled, cleaning := t.cache.cleaning },
      telem := { s.telem with counts := t.telem.counts, bwRead := t.telem.bwRead } })
    ∧ changesRegs (.wayGroupCleaningEnd a b) [
      Reg.CACHE_WAY_STATUS_CLEANING, Reg.CACHE_WAY_STATUS_ENABLED, Reg.DIR_SLICE_STATUS_ENTRIES,
      Reg.TELEM_BLK_OVF_OVF])
  ∧ (∀ a, changes (.cacheRcCfgWrite a) (fun s t => { s with
      regs := t.regs, out := t.out,
      telem := { s.telem with counts := t.telem.counts, bwRead := t.telem.bwRead } })
    ∧ changesRegs (.cacheRcCfgWrite a) [
      Reg.CACHE_RC_CFG_EN, Reg.CACHE_RC_CFG_SPEC_FILL_EN, Reg.TELEM_BLK_OVF_OVF])
  ∧ (changes .backInvalidateWalkEnd (fun s t => { s with
      regs := t.regs, free := t.free, out := t.out, keep := t.keep, chron := t.chron, events := t.events,
      prot := t.prot, reqs := t.reqs, merge := t.merge, mbox := t.mbox, cache := t.cache, internals := t.internals,
      sched := t.sched, xlat := t.xlat, err := t.err, shelf := t.shelf, telem := t.telem })
    ∧ changesRegs .backInvalidateWalkEnd [
      Reg.CHRON_DROP_CNT, Reg.CHRON_REPEAT_CNT, Reg.DIR_BCAST_CNT, Reg.DIR_BISNP_CNT, Reg.DIR_EVBUF_USED,
      Reg.DIR_HOST_OVF_ENTRIES, Reg.DIR_HOST_STATUS_ENTRIES, Reg.DIR_SLICE_STATUS_ENTRIES, Reg.ERR_DIRTY_LOST_CNT,
      Reg.ERR_HEALTH_EVENT_DIRTY_LOST, Reg.ERR_HEALTH_EVENT_POISON_FULL, Reg.ERR_POISON_LIST_OVERFLOW,
      Reg.ERR_POISON_LIST_RECORDS, Reg.MERGE_LOST_CNT, Reg.MERGE_MERGE_CNT, Reg.MERGE_PARTIAL_LINES,
      Reg.MERGE_POINT_LO_STROKE_LO, Reg.MERGE_SETTLE_REFETCH_CNT, Reg.MERGE_SETTLING_LINES, Reg.MERGE_STATUS_DIRTY,
      Reg.MERGE_STATUS_LIMIT, Reg.MERGE_STATUS_POINTS, Reg.PROT_INTEG_DIRTY_LINES, Reg.TELEM_BLK_OVF_OVF,
      Reg.XLAT_COLD_COUNT_BLOCKS, Reg.XLAT_HOT_COUNT_BLOCKS, Reg.XLAT_LIFTED_PAGES, Reg.XLAT_MOVES_ACTIVE,
      Reg.XLAT_MOVES_QUEUED, Reg.XLAT_PINNED_LINES, Reg.XLAT_POOL_STATUS_FREE])
  ∧ (∀ a b, changes (.cacheCntClr a b) (fun s t => { s with
      regs := t.regs, clears := t.clears, out := t.out,
      telem := { s.telem with counts := t.telem.counts, bwRead := t.telem.bwRead } })
    ∧ changesRegs (.cacheCntClr a b) [
      Reg.TELEM_BLK_OVF_OVF])
  ∧ (∀ a, changes (.cacheRcCntClr a) (fun s t => { s with
      regs := t.regs, clears := t.clears, out := t.out,
      telem := { s.telem with counts := t.telem.counts, bwRead := t.telem.bwRead } })
    ∧ changesRegs (.cacheRcCntClr a) [
      Reg.TELEM_BLK_OVF_OVF])
  ∧ (∀ a, changes (.dirCntClr a) (fun s t => { s with
      regs := t.regs, clears := t.clears, out := t.out,
      telem := { s.telem with counts := t.telem.counts, bwRead := t.telem.bwRead } })
    ∧ changesRegs (.dirCntClr a) [
      Reg.TELEM_BLK_OVF_OVF])
  ∧ (∀ a b, changes (.injectPoison a b) (fun s t => { s with
      regs := t.regs, out := t.out, internals := t.internals,
      mbox := { s.mbox with stored := t.mbox.stored },
      cache := { s.cache with
        lines := t.cache.lines, host := t.cache.host, snoops := t.cache.snoops, clock := t.cache.clock,
        biCredits := t.cache.biCredits },
      telem := { s.telem with counts := t.telem.counts, bwRead := t.telem.bwRead } })
    ∧ changesRegs (.injectPoison a b) [
      Reg.DIR_BCAST_CNT, Reg.DIR_BISNP_CNT, Reg.DIR_EVBUF_USED, Reg.DIR_HOST_OVF_ENTRIES,
      Reg.DIR_HOST_STATUS_ENTRIES, Reg.DIR_SLICE_STATUS_ENTRIES, Reg.TELEM_BLK_OVF_OVF])
  ∧ (∀ a b c, changes (.clearPoison a b c) (fun s t => { s with
      regs := t.regs, out := t.out, internals := t.internals,
      mbox := { s.mbox with stored := t.mbox.stored },
      cache := { s.cache with
        lines := t.cache.lines, host := t.cache.host, snoops := t.cache.snoops, clock := t.cache.clock,
        biCredits := t.cache.biCredits },
      telem := { s.telem with counts := t.telem.counts, bwRead := t.telem.bwRead } })
    ∧ changesRegs (.clearPoison a b c) [
      Reg.DIR_BCAST_CNT, Reg.DIR_BISNP_CNT, Reg.DIR_EVBUF_USED, Reg.DIR_HOST_OVF_ENTRIES,
      Reg.DIR_HOST_STATUS_ENTRIES, Reg.DIR_SLICE_STATUS_ENTRIES, Reg.TELEM_BLK_OVF_OVF])
  ∧ (∀ a, changes (.sanitize a) (fun s t => { s with
      regs := t.regs, out := t.out, internals := t.internals,
      prot := { s.prot with eraseAuth := t.prot.eraseAuth },
      mbox := { s.mbox with stored := t.mbox.stored, bg := t.mbox.bg },
      cache := { s.cache with
        lines := t.cache.lines, host := t.cache.host, snoops := t.cache.snoops, clock := t.cache.clock,
        biCredits := t.cache.biCredits },
      telem := { s.telem with counts := t.telem.counts, bwRead := t.telem.bwRead } })
    ∧ changesRegs (.sanitize a) [
      Reg.DIR_BCAST_CNT, Reg.DIR_BISNP_CNT, Reg.DIR_EVBUF_USED, Reg.DIR_HOST_OVF_ENTRIES,
      Reg.DIR_HOST_STATUS_ENTRIES, Reg.DIR_SLICE_STATUS_ENTRIES, Reg.TELEM_BLK_OVF_OVF])
  ∧ (∀ a, changes (.secureErase a) (fun s t => { s with
      regs := t.regs, out := t.out, internals := t.internals,
      prot := { s.prot with eraseAuth := t.prot.eraseAuth },
      mbox := { s.mbox with stored := t.mbox.stored, bg := t.mbox.bg },
      cache := { s.cache with
        lines := t.cache.lines, host := t.cache.host, snoops := t.cache.snoops, clock := t.cache.clock,
        biCredits := t.cache.biCredits },
      telem := { s.telem with counts := t.telem.counts, bwRead := t.telem.bwRead } })
    ∧ changesRegs (.secureErase a) [
      Reg.DIR_BCAST_CNT, Reg.DIR_BISNP_CNT, Reg.DIR_EVBUF_USED, Reg.DIR_HOST_OVF_ENTRIES,
      Reg.DIR_HOST_STATUS_ENTRIES, Reg.DIR_SLICE_STATUS_ENTRIES, Reg.TELEM_BLK_OVF_OVF])
  ∧ (changes .sanitizeComplete (fun s t => { s with
      regs := t.regs, out := t.out, keep := t.keep,
      chron := { s.chron with
        perm := t.chron.perm, ring := t.chron.ring, buffer := t.chron.buffer, nextSerial := t.chron.nextSerial,
        runs := t.chron.runs, dropped := t.chron.dropped },
      prot := { s.prot with
        slots := t.prot.slots, eraseLeft := t.prot.eraseLeft, erasePath := t.prot.erasePath },
      mbox := { s.mbox with stored := t.mbox.stored, bg := t.mbox.bg },
      telem := { s.telem with counts := t.telem.counts, bwRead := t.telem.bwRead } })
    ∧ changesRegs .sanitizeComplete [
      Reg.CHRON_DROP_CNT, Reg.CHRON_REPEAT_CNT, Reg.TELEM_BLK_OVF_OVF])
  ∧ (∀ a b c, changes (.releaseRange a b c) (fun s t => { s with
      regs := t.regs, out := t.out, internals := t.internals,
      mbox := { s.mbox with stored := t.mbox.stored, bg := t.mbox.bg },
      cache := { s.cache with
        lines := t.cache.lines, host := t.cache.host, snoops := t.cache.snoops, clock := t.cache.clock,
        biCredits := t.cache.biCredits },
      telem := { s.telem with counts := t.telem.counts, bwRead := t.telem.bwRead } })
    ∧ changesRegs (.releaseRange a b c) [
      Reg.DIR_BCAST_CNT, Reg.DIR_BISNP_CNT, Reg.DIR_EVBUF_USED, Reg.DIR_HOST_OVF_ENTRIES,
      Reg.DIR_HOST_STATUS_ENTRIES, Reg.DIR_SLICE_STATUS_ENTRIES, Reg.TELEM_BLK_OVF_OVF])
  ∧ (changes .releaseRangeComplete (fun s t => { s with
      regs := t.regs, out := t.out, internals := t.internals,
      mbox := { s.mbox with stored := t.mbox.stored, bg := t.mbox.bg },
      cache := { s.cache with
        lines := t.cache.lines, host := t.cache.host, snoops := t.cache.snoops, clock := t.cache.clock,
        biCredits := t.cache.biCredits },
      telem := { s.telem with counts := t.telem.counts, bwRead := t.telem.bwRead } })
    ∧ changesRegs .releaseRangeComplete [
      Reg.DIR_BCAST_CNT, Reg.DIR_BISNP_CNT, Reg.DIR_EVBUF_USED, Reg.DIR_HOST_OVF_ENTRIES,
      Reg.DIR_HOST_STATUS_ENTRIES, Reg.DIR_SLICE_STATUS_ENTRIES, Reg.TELEM_BLK_OVF_OVF])

/-- What the commands leave unchanged: strokes, the scheduler and the media channels. For each command named in the
statement, with every operand and in every state: whenever it answers a next state, that state equals the one before
but for the parts that its clause lists, and, where its clause lists register fields, every register of another field
reads as before (TELEM_BLK_OVF is listed throughout, since any command can bring the event that wraps a telemetry
counter; regs, telem and out are the registers, the telemetry counters and the transcript). The queue is never among
the parts. (R23, R29, R89, R96, R108) -/
def Obligations.SchedulerAndMediaFrames : Prop :=
  (changes .strokeBoundary (fun s t => { s with
      regs := t.regs, stroke := t.stroke, clears := t.clears, out := t.out, intOwed := t.intOwed,
      epochDue := t.epochDue, keep := t.keep, chron := t.chron, events := t.events, prot := t.prot,
      sessions := t.sessions, reqs := t.reqs, share := t.share, merge := t.merge, mbox := t.mbox, cache := t.cache,
      internals := t.internals, ops := t.ops, deltas := t.deltas, chans := t.chans, sched := t.sched,
      xlat := t.xlat, err := t.err, shelf := t.shelf, telem := t.telem }))
  ∧ (changes .planLock (fun s t => { s with
      regs := t.regs, out := t.out, reqs := t.reqs, ops := t.ops, xlat := t.xlat, err := t.err,
      prot := { s.prot with
        roots := t.prot.roots, lineCounters := t.prot.lineCounters, dirtyNodes := t.prot.dirtyNodes },
      merge := { s.merge with entries := t.merge.entries, heat := t.merge.heat },
      sched := { s.sched with
        locked := t.sched.locked, last := t.sched.last, jobs := t.sched.jobs, nextJob := t.sched.nextJob,
        late := t.sched.late, capoAsk := t.sched.capoAsk, moved := t.sched.moved },
      telem := { s.telem with counts := t.telem.counts, bwRead := t.telem.bwRead } })
    ∧ changesRegs .planLock [
      Reg.ERR_HEALTH_EVENT_POISON_FULL, Reg.ERR_POISON_LIST_OVERFLOW, Reg.ERR_POISON_LIST_RECORDS,
      Reg.MERGE_FILL_BAD_CNT, Reg.MERGE_FILL_CNT, Reg.MERGE_PARTIAL_LINES, Reg.MERGE_SETTLING_LINES,
      Reg.MERGE_STATUS_DIRTY, Reg.MERGE_STATUS_LIMIT, Reg.PROT_INTEG_DIRTY_LINES, Reg.SCHED_C2_VIOL,
      Reg.SCHED_CHAN_VIOL_HI_CHAN, Reg.SCHED_CHAN_VIOL_LO_CHAN, Reg.SCHED_DEFER_CNT, Reg.SCHED_RECOV_OVF,
      Reg.SCHED_STATUS_BOUND_ACTIVE, Reg.SCHED_STATUS_POOL_EXCL, Reg.TELEM_BLK_OVF_OVF, Reg.XLAT_COLD_COUNT_BLOCKS,
      Reg.XLAT_HOT_COUNT_BLOCKS, Reg.XLAT_LIFTED_PAGES, Reg.XLAT_LIFT_FULL_CNT, Reg.XLAT_MOVES_ACTIVE,
      Reg.XLAT_MOVES_QUEUED, Reg.XLAT_PINNED_LINES, Reg.XLAT_POOL_STATUS_FREE])
  ∧ (changes .syncEpochBoundary (fun s t => { s with
      regs := t.regs, stroke := t.stroke, clears := t.clears, out := t.out, epochDue := t.epochDue,
      chron := t.chron, events := t.events, reqs := t.reqs, merge := t.merge, mbox := t.mbox, ops := t.ops,
      chans := t.chans, sched := t.sched, xlat := t.xlat, shelf := t.shelf, telem := t.telem })
    ∧ changesRegs .syncEpochBoundary [
      Reg.CHRON_DROP_CNT, Reg.CHRON_REPEAT_CNT, Reg.ERR_BUCKET_STATUS_LEVEL, Reg.ERR_HEALTH_EVENT_DIE_FAIL,
      Reg.ERR_HEALTH_EVENT_LIFE, Reg.ERR_HEALTH_EVENT_POISON_FULL, Reg.ERR_HEALTH_EVENT_POOL,
      Reg.ERR_HEALTH_EVENT_TEMP, Reg.PWR_STATUS_SLOT_WAIT, Reg.SHELF_ACT_STATUS_DECISION,
      Reg.SHELF_DETUNE_EPOCH_HIGH, Reg.SHELF_DETUNE_IMAGE_CLASS, Reg.SHELF_DETUNE_POS_CONFLICT,
      Reg.SHELF_DETUNE_TIME, Reg.SHELF_MEMBERS_POS, Reg.SHELF_POINT_DONE_POS, Reg.SHELF_POINT_EXCL_POS,
      Reg.SHELF_POINT_NOANS_POS, Reg.SHELF_POINT_PARTIAL_POS, Reg.SHELF_STATUS_CONTACT, Reg.SHELF_STATUS_MANAGER,
      Reg.SHELF_STATUS_TIME_STATE, Reg.SHELF_STEP_CNT, Reg.TELEM_BLK_OVF_OVF, Reg.TELEM_SNAP_DROP_CNT,
      Reg.TELEM_STATUS_FROZEN, Reg.TELEM_STATUS_SNAP_DROP, Reg.XLAT_COLD_COUNT_BLOCKS, Reg.XLAT_HOT_COUNT_BLOCKS,
      Reg.XLAT_LIFTED_PAGES, Reg.XLAT_MOVES_ACTIVE, Reg.XLAT_MOVES_QUEUED, Reg.XLAT_POOL_STATUS_FREE])
  ∧ (∀ a, changes (.programResume a) (fun s t => { s with
      regs := t.regs, out := t.out, ops := t.ops,
      telem := { s.telem with counts := t.telem.counts, bwRead := t.telem.bwRead } })
    ∧ changesRegs (.programResume a) [
      Reg.TELEM_BLK_OVF_OVF])
  ∧ (∀ a b c, changes (.readReachScheduler a b c) (fun s t => { s with
      regs := t.regs, out := t.out, sessions := t.sessions, reqs := t.reqs, ops := t.ops,
      merge := { s.merge with entries := t.merge.entries },
      cache := { s.cache with fills := t.cache.fills },
      sched := { s.sched with
        last := t.sched.last, jobs := t.sched.jobs, nextJob := t.sched.nextJob, late := t.sched.late,
        demand := t.sched.demand },
      telem := { s.telem with counts := t.telem.counts, bwRead := t.telem.bwRead } })
    ∧ changesRegs (.readReachScheduler a b c) [
      Reg.CACHE_RC_HIT_CNT, Reg.CACHE_RC_PROBE_SKIP_CNT, Reg.MERGE_FILL_BAD_CNT, Reg.MERGE_PARTIAL_LINES,
      Reg.MERGE_SETTLING_LINES, Reg.MERGE_STATUS_DIRTY, Reg.MERGE_STATUS_LIMIT, Reg.PORT_INFLIGHT_LINK0,
      Reg.PORT_INFLIGHT_LINK1, Reg.PORT_INFLIGHT_PEAK_LINK0, Reg.PORT_INFLIGHT_PEAK_LINK1, Reg.SCHED_BOUND_MISS,
      Reg.SCHED_DEFER_CNT, Reg.SCHED_HELD_CNT, Reg.SCHED_MAX_LAT_CCLK, Reg.TELEM_BLK_OVF_OVF,
      Reg.XLAT_PINNED_LINES])
  ∧ (∀ a, changes (.schedCntClr a) (fun s t => { s with
      regs := t.regs, clears := t.clears, out := t.out,
      telem := { s.telem with counts := t.telem.counts, bwRead := t.telem.bwRead } })
    ∧ changesRegs (.schedCntClr a) [
      Reg.TELEM_BLK_OVF_OVF])
  ∧ (changes .schedStrokeLoRead (fun s t => { s with
      regs := t.regs, out := t.out,
      telem := { s.telem with counts := t.telem.counts, bwRead := t.telem.bwRead } })
    ∧ changesRegs .schedStrokeLoRead [
      Reg.SCHED_STROKE_HI_COUNT_HI, Reg.TELEM_BLK_OVF_OVF])
  ∧ (∀ a, changes (.fipenAlert a) (fun s t => { s with
      regs := t.regs, out := t.out, chans := t.chans,
      telem := { s.telem with counts := t.telem.counts, bwRead := t.telem.bwRead } })
    ∧ changesRegs (.fipenAlert a) [
      Reg.CHAN_STATUS_ALERT, Reg.TELEM_BLK_OVF_OVF])
  ∧ (∀ a b, changes (.readStatusResponse a b) (fun s t => { s with
      regs := t.regs, out := t.out, keep := t.keep, chron := t.chron, events := t.events, reqs := t.reqs,
      merge := t.merge, ops := t.ops, deltas := t.deltas, chans := t.chans, sched := t.sched, xlat := t.xlat,
      err := t.err, telem := t.telem })
    ∧ changesRegs (.readStatusResponse a b) [
      Reg.CHAN_LAST_FAIL_OP, Reg.CHAN_LINK_ERR_CNT, Reg.CHAN_RETRAIN_CNT, Reg.CHAN_STATUS_ALERT,
      Reg.CHAN_STATUS_RETRAIN, Reg.CHAN_TEMP_DIE_TEMP, Reg.CHAN_VERIFY_FAIL_CNT, Reg.CHRON_DROP_CNT,
      Reg.CHRON_REPEAT_CNT, Reg.ERR_DIRTY_LOST_CNT, Reg.ERR_HEALTH_EVENT_DIE_FAIL, Reg.ERR_HEALTH_EVENT_DIRTY_LOST,
      Reg.ERR_HEALTH_EVENT_POISON_FULL, Reg.ERR_POISON_LIST_OVERFLOW, Reg.ERR_POISON_LIST_RECORDS,
      Reg.MERGE_PARTIAL_LINES, Reg.MERGE_SETTLING_LINES, Reg.MERGE_STATUS_DIRTY, Reg.MERGE_STATUS_LIMIT,
      Reg.TELEM_BLK_OVF_OVF, Reg.XLAT_COLD_COUNT_BLOCKS, Reg.XLAT_COPY_FAIL_CNT, Reg.XLAT_HOT_COUNT_BLOCKS,
      Reg.XLAT_LIFTED_PAGES, Reg.XLAT_MOVES_ACTIVE, Reg.XLAT_MOVES_QUEUED, Reg.XLAT_PINNED_LINES, Reg.XLAT_PIN_CNT,
      Reg.XLAT_POISON_WR_CNT, Reg.XLAT_POOL_STATUS_FREE])
  ∧ (∀ a, changes (.readStatusNoResponse a) (fun s t => { s with
      regs := t.regs, out := t.out, events := t.events, chans := t.chans,
      keep := { s.keep with shadow := t.keep.shadow, queue := t.keep.queue, lost := t.keep.lost },
      chron := { s.chron with
        perm := t.chron.perm, ring := t.chron.ring, buffer := t.chron.buffer, nextSerial := t.chron.nextSerial,
        runs := t.chron.runs, dropped := t.chron.dropped },
      telem := { s.telem with counts := t.telem.counts, bwRead := t.telem.bwRead } })
    ∧ changesRegs (.readStatusNoResponse a) [
      Reg.CHAN_STATUS_RETRAIN, Reg.CHAN_STATUS_STATE, Reg.CHRON_DROP_CNT, Reg.CHRON_REPEAT_CNT,
      Reg.ERR_HEALTH_EVENT_DIE_FAIL, Reg.TELEM_BLK_OVF_OVF])
  ∧ (∀ a b, changes (.fipenTrainingStepLimit a b) (fun s t => { s with
      regs := t.regs, out := t.out, events := t.events, ops := t.ops, chans := t.chans,
      keep := { s.keep with shadow := t.keep.shadow, queue := t.keep.queue, lost := t.keep.lost },
      chron := { s.chron with
        perm := t.chron.perm, ring := t.chron.ring, buffer := t.chron.buffer, nextSerial := t.chron.nextSerial,
        runs := t.chron.runs, dropped := t.chron.dropped },
      merge := { s.merge with entries := t.merge.entries },
      xlat := { s.xlat with
        blocks := t.xlat.blocks, opens := t.xlat.opens, moves := t.xlat.moves, copies := t.xlat.copies },
      err := { s.err with rewrites := t.err.rewrites },
      telem := { s.telem with counts := t.telem.counts, bwRead := t.telem.bwRead } })
    ∧ changesRegs (.fipenTrainingStepLimit a b) [
      Reg.CHAN_RETRAIN_CNT, Reg.CHAN_STATUS_RETRAIN, Reg.CHAN_STATUS_STATE, Reg.CHRON_DROP_CNT,
      Reg.CHRON_REPEAT_CNT, Reg.ERR_HEALTH_EVENT_DIE_FAIL, Reg.MERGE_PARTIAL_LINES, Reg.MERGE_SETTLING_LINES,
      Reg.MERGE_STATUS_DIRTY, Reg.MERGE_STATUS_LIMIT, Reg.TELEM_BLK_OVF_OVF, Reg.XLAT_PINNED_LINES])
  ∧ (∀ a, changes (.fipenTrainingComplete a) (fun s t => { s with
      regs := t.regs, out := t.out, keep := t.keep, events := t.events, chans := t.chans, img := t.img,
      start := { s.start with step5 := t.start.step5, stopped := t.start.stopped },
      chron := { s.chron with
        perm := t.chron.perm, ring := t.chron.ring, buffer := t.chron.buffer, nextSerial := t.chron.nextSerial,
        runs := t.chron.runs, dropped := t.chron.dropped },
      sched := { s.sched with back := t.sched.back },
      telem := { s.telem with counts := t.telem.counts, bwRead := t.telem.bwRead } })
    ∧ changesRegs (.fipenTrainingComplete a) [
      Reg.CHAN_G_FAILED_DIES, Reg.CHAN_SERIAL_HI_SERIAL, Reg.CHAN_SERIAL_LO_SERIAL, Reg.CHAN_STATUS_DIES,
      Reg.CHAN_STATUS_DIE_FAILED, Reg.CHAN_STATUS_RETRAIN, Reg.CHAN_STATUS_STATE, Reg.CHAN_TRAIN_VALUES,
      Reg.CHRON_DROP_CNT, Reg.CHRON_REPEAT_CNT, Reg.ERR_HEALTH_EVENT_DIE_FAIL, Reg.TELEM_BLK_OVF_OVF,
      Reg.TOP_CAPACITY_UNITS, Reg.TOP_STATUS_RECOVERY, Reg.TOP_STATUS_STACK])
  ∧ (∀ a b, changes (.fastRetrainComplete a b) (fun s t => { s with
      regs := t.regs, out := t.out, ops := t.ops, chans := t.chans,
      chron := { s.chron with
        perm := t.chron.perm, ring := t.chron.ring, buffer := t.chron.buffer, nextSerial := t.chron.nextSerial,
        runs := t.chron.runs, dropped := t.chron.dropped },
      merge := { s.merge with entries := t.merge.entries },
      xlat := { s.xlat with
        blocks := t.xlat.blocks, opens := t.xlat.opens, moves := t.xlat.moves, copies := t.xlat.copies },
      err := { s.err with rewrites := t.err.rewrites },
      telem := { s.telem with counts := t.telem.counts, bwRead := t.telem.bwRead } })
    ∧ changesRegs (.fastRetrainComplete a b) [
      Reg.CHAN_RETRAIN_CNT, Reg.CHAN_STATUS_RETRAIN, Reg.CHAN_STATUS_STATE, Reg.CHRON_DROP_CNT,
      Reg.CHRON_REPEAT_CNT, Reg.MERGE_PARTIAL_LINES, Reg.MERGE_SETTLING_LINES, Reg.MERGE_STATUS_DIRTY,
      Reg.MERGE_STATUS_LIMIT, Reg.TELEM_BLK_OVF_OVF, Reg.XLAT_PINNED_LINES])
  ∧ (∀ a b c d e, changes (.mediaReadComplete a b c d e) (fun s t => { s with
      regs := t.regs, out := t.out, events := t.events, sessions := t.sessions, reqs := t.reqs,
      chron := { s.chron with
        perm := t.chron.perm, ring := t.chron.ring, buffer := t.chron.buffer, nextSerial := t.chron.nextSerial,
        runs := t.chron.runs, dropped := t.chron.dropped },
      merge := { s.merge with entries := t.merge.entries },
      cache := { s.cache with fills := t.cache.fills, rc := t.cache.rc },
      sched := { s.sched with jobs := t.sched.jobs, moved := t.sched.moved, now := t.sched.now },
      err := { s.err with refresh := t.err.refresh },
      telem := { s.telem with counts := t.telem.counts, bwRead := t.telem.bwRead } })
    ∧ changesRegs (.mediaReadComplete a b c d e) [
      Reg.CACHE_RC_FILL_CNT, Reg.CACHE_RC_FILL_DROP_CNT, Reg.CACHE_RC_HIT_CNT, Reg.CHAN_CORR_CNT,
      Reg.CHAN_RETRY_CNT, Reg.CHRON_DROP_CNT, Reg.CHRON_REPEAT_CNT, Reg.ERR_BUCKET_STATUS_LEVEL,
      Reg.ERR_BUCKET_STATUS_OVF_CNT, Reg.ERR_CORR_PERS_CNT, Reg.ERR_HEALTH_EVENT_BUCKET_OVF,
      Reg.MERGE_FILL_BAD_CNT, Reg.MERGE_PARTIAL_LINES, Reg.MERGE_SETTLING_LINES, Reg.MERGE_STATUS_DIRTY,
      Reg.MERGE_STATUS_LIMIT, Reg.PORT_INFLIGHT_LINK0, Reg.PORT_INFLIGHT_LINK1, Reg.PORT_INFLIGHT_PEAK_LINK0,
      Reg.PORT_INFLIGHT_PEAK_LINK1, Reg.PROT_INTEG_FAIL_CNT, Reg.RANGE_INTEG_FAIL_CNT, Reg.SCHED_BOUND_MISS,
      Reg.SCHED_MAX_LAT_CCLK, Reg.TELEM_BLK_OVF_OVF, Reg.XLAT_PINNED_LINES])
  ∧ (∀ a b c d, changes (.reconstructionComplete a b c d) (fun s t => { s with
      regs := t.regs, out := t.out, keep := t.keep, chron := t.chron, events := t.events, sessions := t.sessions,
      reqs := t.reqs, merge := t.merge, cache := t.cache, chans := t.chans, sched := t.sched, err := t.err,
      telem := t.telem })
    ∧ changesRegs (.reconstructionComplete a b c d) [
      Reg.CACHE_RC_FILL_CNT, Reg.CACHE_RC_FILL_DROP_CNT, Reg.CACHE_RC_HIT_CNT, Reg.CHAN_CORR_CNT,
      Reg.CHAN_RECON_CNT, Reg.CHAN_UNCORR_CNT, Reg.CHRON_DROP_CNT, Reg.CHRON_REPEAT_CNT,
      Reg.ERR_BUCKET_STATUS_LEVEL, Reg.ERR_BUCKET_STATUS_OVF_CNT, Reg.ERR_CORR_PERS_CNT,
      Reg.ERR_HEALTH_EVENT_BUCKET_OVF, Reg.ERR_HEALTH_EVENT_DIE_FAIL, Reg.ERR_HEALTH_EVENT_POISON_FULL,
      Reg.ERR_HEALTH_EVENT_UNCORR, Reg.ERR_LAST_UNCORR_HI_VALID, Reg.ERR_LAST_UNCORR_LO_DPA_LO,
      Reg.ERR_POISON_LIST_OVERFLOW, Reg.ERR_POISON_LIST_RECORDS, Reg.ERR_REWRITE_CNT, Reg.ERR_UNCORR_CNT,
      Reg.MERGE_FILL_BAD_CNT, Reg.MERGE_PARTIAL_LINES, Reg.MERGE_SETTLING_LINES, Reg.MERGE_STATUS_DIRTY,
      Reg.MERGE_STATUS_LIMIT, Reg.PORT_INFLIGHT_LINK0, Reg.PORT_INFLIGHT_LINK1, Reg.PORT_INFLIGHT_PEAK_LINK0,
      Reg.PORT_INFLIGHT_PEAK_LINK1, Reg.PROT_INTEG_FAIL_CNT, Reg.RANGE_INTEG_FAIL_CNT, Reg.SCHED_BOUND_MISS,
      Reg.SCHED_MAX_LAT_CCLK, Reg.TELEM_BLK_OVF_OVF, Reg.XLAT_PINNED_LINES])
  ∧ (∀ a, changes (.programComplete a) (fun s t => { s with
      regs := t.regs, out := t.out, pages := t.pages, ops := t.ops, deltas := t.deltas,
      merge := { s.merge with entries := t.merge.entries },
      xlat := { s.xlat with blocks := t.xlat.blocks },
      err := { s.err with refresh := t.err.refresh, rewrites := t.err.rewrites, wake := t.err.wake },
      telem := { s.telem with counts := t.telem.counts, bwRead := t.telem.bwRead } })
    ∧ changesRegs (.programComplete a) [
      Reg.ERR_REFRESH_CNT, Reg.MERGE_DRAIN_CNT, Reg.MERGE_PARTIAL_LINES, Reg.MERGE_SETTLING_LINES,
      Reg.MERGE_STATUS_DIRTY, Reg.MERGE_STATUS_LIMIT, Reg.TELEM_BLK_OVF_OVF, Reg.XLAT_PINNED_LINES])
  ∧ (∀ a b, changes (.exchangeOldLineReturn a b) (fun s t => { s with
      regs := t.regs, out := t.out, ops := t.ops,
      telem := { s.telem with counts := t.telem.counts, bwRead := t.telem.bwRead } })
    ∧ changesRegs (.exchangeOldLineReturn a b) [
      Reg.CHAN_CORR_CNT, Reg.TELEM_BLK_OVF_OVF])
  ∧ (∀ a, changes (.toggleComplete a) (fun s t => { s with
      regs := t.regs, out := t.out, pages := t.pages, ops := t.ops, deltas := t.deltas,
      xlat := { s.xlat with blocks := t.xlat.blocks },
      telem := { s.telem with counts := t.telem.counts, bwRead := t.telem.bwRead } })
    ∧ changesRegs (.toggleComplete a) [
      Reg.TELEM_BLK_OVF_OVF])
  ∧ (changes .ageEpochAdvance (fun s t => { s with
      regs := t.regs, out := t.out, keep := t.keep,
      err := { s.err with ageStrokes := t.err.ageStrokes, e := t.err.e },
      telem := { s.telem with counts := t.telem.counts, bwRead := t.telem.bwRead } })
    ∧ changesRegs .ageEpochAdvance [
      Reg.CHAN_G_AGE_EPOCH, Reg.TELEM_BLK_OVF_OVF])
  ∧ (∀ a, changes (.evacuationBlockDone a) (fun s t => { s with
      regs := t.regs, out := t.out,
      chron := { s.chron with
        perm := t.chron.perm, ring := t.chron.ring, buffer := t.chron.buffer, nextSerial := t.chron.nextSerial,
        runs := t.chron.runs, dropped := t.chron.dropped },
      xlat := { s.xlat with blocks := t.xlat.blocks, opens := t.xlat.opens, evac := t.xlat.evac },
      telem := { s.telem with counts := t.telem.counts, bwRead := t.telem.bwRead } })
    ∧ changesRegs (.evacuationBlockDone a) [
      Reg.CHAN_G_EVAC_STATUS_ACTIVE, Reg.CHAN_G_EVAC_STATUS_REMAINING, Reg.CHRON_DROP_CNT, Reg.CHRON_REPEAT_CNT,
      Reg.TELEM_BLK_OVF_OVF, Reg.XLAT_COLD_COUNT_BLOCKS, Reg.XLAT_HOT_COUNT_BLOCKS, Reg.XLAT_LIFTED_PAGES,
      Reg.XLAT_MOVES_ACTIVE, Reg.XLAT_MOVES_QUEUED, Reg.XLAT_POOL_STATUS_FREE])
  ∧ (∀ a b, changes (.chanCntClr a b) (fun s t => { s with
      regs := t.regs, clears := t.clears, out := t.out,
      telem := { s.telem with counts := t.telem.counts, bwRead := t.telem.bwRead } })
    ∧ changesRegs (.chanCntClr a b) [
      Reg.TELEM_BLK_OVF_OVF])

/-- What the commands leave unchanged: translation, placement, merging, keep and chronicle. For each command named in the
statement, with every operand and in every state: whenever it answers a next state, that state equals the one before
but for the parts that its clause lists, and, where its clause lists register fields, every register of another field
reads as before (TELEM_BLK_OVF is listed throughout, since any command can bring the event that wraps a telemetry
counter; regs, telem and out are the registers, the telemetry counters and the transcript). The queue is never among
the parts. (R117, R128, R130, R148, R161, R286, R295) -/
def Obligations.PlacementAndMergeFrames : Prop :=
  (∀ a, changes (.moveStripeCommit a) (fun s t => { s with
      regs := t.regs, out := t.out, pages := t.pages, xlat := t.xlat,
      merge := { s.merge with entries := t.merge.entries },
      telem := { s.telem with counts := t.telem.counts, bwRead := t.telem.bwRead } })
    ∧ changesRegs (.moveStripeCommit a) [
      Reg.MERGE_DRAIN_CNT, Reg.MERGE_PARTIAL_LINES, Reg.MERGE_SETTLING_LINES, Reg.MERGE_STATUS_DIRTY,
      Reg.MERGE_STATUS_LIMIT, Reg.TELEM_BLK_OVF_OVF, Reg.XLAT_COLD_COUNT_BLOCKS, Reg.XLAT_HOT_COUNT_BLOCKS,
      Reg.XLAT_LIFTED_PAGES, Reg.XLAT_MOVES_ACTIVE, Reg.XLAT_MOVES_QUEUED, Reg.XLAT_PINNED_LINES,
      Reg.XLAT_POOL_STATUS_FREE])
  ∧ (∀ a, changes (.liftVerify a) (fun s t => { s with
      regs := t.regs, out := t.out, pages := t.pages,
      merge := { s.merge with entries := t.merge.entries },
      xlat := { s.xlat with
        tracts := t.xlat.tracts, fluid := t.xlat.fluid, blocks := t.xlat.blocks, valid := t.xlat.valid,
        copies := t.xlat.copies },
      telem := { s.telem with counts := t.telem.counts, bwRead := t.telem.bwRead } })
    ∧ changesRegs (.liftVerify a) [
      Reg.MERGE_DRAIN_CNT, Reg.MERGE_PARTIAL_LINES, Reg.MERGE_SETTLING_LINES, Reg.MERGE_STATUS_DIRTY,
      Reg.MERGE_STATUS_LIMIT, Reg.TELEM_BLK_OVF_OVF, Reg.XLAT_COLD_COUNT_BLOCKS, Reg.XLAT_HOT_COUNT_BLOCKS,
      Reg.XLAT_LIFTED_PAGES, Reg.XLAT_MOVES_ACTIVE, Reg.XLAT_MOVES_QUEUED, Reg.XLAT_PINNED_LINES,
      Reg.XLAT_POOL_STATUS_FREE])
  ∧ (changes .heatHalving (fun s t => { s with
      regs := t.regs, out := t.out,
      merge := { s.merge with heat := t.merge.heat },
      xlat := { s.xlat with heatEpochs := t.xlat.heatEpochs },
      telem := { s.telem with counts := t.telem.counts, bwRead := t.telem.bwRead } })
    ∧ changesRegs .heatHalving [
      Reg.TELEM_BLK_OVF_OVF])
  ∧ (∀ a, changes (.settleBackWalk a) (fun s t => { s with
      regs := t.regs, out := t.out,
      prot := { s.prot with lineCounters := t.prot.lineCounters, dirtyNodes := t.prot.dirtyNodes },
      merge := { s.merge with entries := t.merge.entries },
      xlat := { s.xlat with fluid := t.xlat.fluid, seq := t.xlat.seq, settles := t.xlat.settles },
      err := { s.err with poison := t.err.poison, poisonLost := t.err.poisonLost },
      telem := { s.telem with counts := t.telem.counts, bwRead := t.telem.bwRead } })
    ∧ changesRegs (.settleBackWalk a) [
      Reg.ERR_HEALTH_EVENT_POISON_FULL, Reg.ERR_POISON_LIST_OVERFLOW, Reg.ERR_POISON_LIST_RECORDS,
      Reg.MERGE_PARTIAL_LINES, Reg.MERGE_SETTLING_LINES, Reg.MERGE_STATUS_DIRTY, Reg.MERGE_STATUS_LIMIT,
      Reg.PROT_INTEG_DIRTY_LINES, Reg.TELEM_BLK_OVF_OVF, Reg.XLAT_PINNED_LINES])
  ∧ (∀ a, changes (.settleBackCommit a) (fun s t => { s with
      regs := t.regs, out := t.out, pages := t.pages,
      merge := { s.merge with entries := t.merge.entries },
      xlat := { s.xlat with
        tracts := t.xlat.tracts, fluid := t.xlat.fluid, blocks := t.xlat.blocks, valid := t.xlat.valid,
        settles := t.xlat.settles },
      telem := { s.telem with counts := t.telem.counts, bwRead := t.telem.bwRead } })
    ∧ changesRegs (.settleBackCommit a) [
      Reg.MERGE_DRAIN_CNT, Reg.MERGE_PARTIAL_LINES, Reg.MERGE_SETTLING_LINES, Reg.MERGE_STATUS_DIRTY,
      Reg.MERGE_STATUS_LIMIT, Reg.TELEM_BLK_OVF_OVF, Reg.XLAT_COLD_COUNT_BLOCKS, Reg.XLAT_HOT_COUNT_BLOCKS,
      Reg.XLAT_LIFTED_PAGES, Reg.XLAT_MOVES_ACTIVE, Reg.XLAT_MOVES_QUEUED, Reg.XLAT_PINNED_LINES,
      Reg.XLAT_POOL_STATUS_FREE])
  ∧ (∀ a, changes (.reclaim a) (fun s t => { s with
      regs := t.regs, out := t.out, xlat := t.xlat,
      prot := { s.prot with lineCounters := t.prot.lineCounters, dirtyNodes := t.prot.dirtyNodes },
      merge := { s.merge with entries := t.merge.entries },
      err := { s.err with poison := t.err.poison, poisonLost := t.err.poisonLost },
      telem := { s.telem with counts := t.telem.counts, bwRead := t.telem.bwRead } })
    ∧ changesRegs (.reclaim a) [
      Reg.ERR_HEALTH_EVENT_POISON_FULL, Reg.ERR_POISON_LIST_OVERFLOW, Reg.ERR_POISON_LIST_RECORDS,
      Reg.MERGE_PARTIAL_LINES, Reg.MERGE_SETTLING_LINES, Reg.MERGE_STATUS_DIRTY, Reg.MERGE_STATUS_LIMIT,
      Reg.PROT_INTEG_DIRTY_LINES, Reg.TELEM_BLK_OVF_OVF, Reg.XLAT_COLD_COUNT_BLOCKS, Reg.XLAT_HOT_COUNT_BLOCKS,
      Reg.XLAT_LIFTED_PAGES, Reg.XLAT_MOVES_ACTIVE, Reg.XLAT_MOVES_QUEUED, Reg.XLAT_PINNED_LINES,
      Reg.XLAT_POOL_STATUS_FREE])
  ∧ (∀ a, changes (.reclaimCopyCommit a) (fun s t => { s with
      regs := t.regs, out := t.out, pages := t.pages,
      merge := { s.merge with entries := t.merge.entries },
      xlat := { s.xlat with
        tracts := t.xlat.tracts, fluid := t.xlat.fluid, blocks := t.xlat.blocks, valid := t.xlat.valid,
        copies := t.xlat.copies },
      telem := { s.telem with counts := t.telem.counts, bwRead := t.telem.bwRead } })
    ∧ changesRegs (.reclaimCopyCommit a) [
      Reg.TELEM_BLK_OVF_OVF, Reg.XLAT_COLD_COUNT_BLOCKS, Reg.XLAT_HOT_COUNT_BLOCKS, Reg.XLAT_LIFTED_PAGES,
      Reg.XLAT_MOVES_ACTIVE, Reg.XLAT_MOVES_QUEUED, Reg.XLAT_POOL_STATUS_FREE])
  ∧ (∀ a b, changes (.preconditionComplete a b) (fun s t => { s with
      regs := t.regs, out := t.out, pages := t.pages,
      xlat := { s.xlat with
        blocks := t.xlat.blocks, precondQ := t.xlat.precondQ, failedSlots := t.xlat.failedSlots,
        badParity := t.xlat.badParity, again := t.xlat.again },
      err := { s.err with refresh := t.err.refresh, rewrites := t.err.rewrites, wake := t.err.wake },
      telem := { s.telem with counts := t.telem.counts, bwRead := t.telem.bwRead } })
    ∧ changesRegs (.preconditionComplete a b) [
      Reg.TELEM_BLK_OVF_OVF, Reg.XLAT_COLD_COUNT_BLOCKS, Reg.XLAT_HOT_COUNT_BLOCKS, Reg.XLAT_LIFTED_PAGES,
      Reg.XLAT_MOVES_ACTIVE, Reg.XLAT_MOVES_QUEUED, Reg.XLAT_POOL_STATUS_FREE, Reg.XLAT_RECLAIM_CNT])
  ∧ (∀ a b, changes (.poolFillTimeout a b) (fun s t => { s with
      regs := t.regs, out := t.out, pages := t.pages,
      xlat := { s.xlat with blocks := t.xlat.blocks, opens := t.xlat.opens, seq := t.xlat.seq },
      telem := { s.telem with counts := t.telem.counts, bwRead := t.telem.bwRead } })
    ∧ changesRegs (.poolFillTimeout a b) [
      Reg.TELEM_BLK_OVF_OVF])
  ∧ (changes .blockRecordCheckpoint (fun s t => { s with
      regs := t.regs, out := t.out,
      prot := { s.prot with roots := t.prot.roots, dirtyNodes := t.prot.dirtyNodes },
      xlat := { s.xlat with checkpoints := t.xlat.checkpoints },
      telem := { s.telem with counts := t.telem.counts, bwRead := t.telem.bwRead } })
    ∧ changesRegs .blockRecordCheckpoint [
      Reg.PROT_INTEG_DIRTY_LINES, Reg.TELEM_BLK_OVF_OVF])
  ∧ (∀ a, changes (.xlatMapIdxWrite a) (fun s t => { s with
      regs := t.regs, out := t.out,
      telem := { s.telem with counts := t.telem.counts, bwRead := t.telem.bwRead } })
    ∧ changesRegs (.xlatMapIdxWrite a) [
      Reg.TELEM_BLK_OVF_OVF, Reg.XLAT_MAP_HI_ENTRY_HI, Reg.XLAT_MAP_IDX_READY, Reg.XLAT_MAP_IDX_TRACT,
      Reg.XLAT_MAP_LO_ENTRY_LO])
  ∧ (changes .xlatSeqLoRead (fun s t => { s with
      regs := t.regs, out := t.out,
      telem := { s.telem with counts := t.telem.counts, bwRead := t.telem.bwRead } })
    ∧ changesRegs .xlatSeqLoRead [
      Reg.TELEM_BLK_OVF_OVF, Reg.XLAT_SEQ_HI_SEQ_HI])
  ∧ (∀ a, changes (.xlatCntClr a) (fun s t => { s with
      regs := t.regs, clears := t.clears, out := t.out,
      telem := { s.telem with counts := t.telem.counts, bwRead := t.telem.bwRead } })
    ∧ changesRegs (.xlatCntClr a) [
      Reg.TELEM_BLK_OVF_OVF])
  ∧ (∀ a, changes (.mergeCfgWrite a) (fun s t => { s with
      regs := t.regs, out := t.out, keep := t.keep,
      telem := { s.telem with counts := t.telem.counts, bwRead := t.telem.bwRead } })
    ∧ changesRegs (.mergeCfgWrite a) [
      Reg.MERGE_CFG_BUDGET, Reg.MERGE_CFG_HOLDUP, Reg.MERGE_CFG_MIN_AGE, Reg.MERGE_CHAN_LIMIT_L,
      Reg.MERGE_GPF_DUR_MS, Reg.MERGE_PARTIAL_LINES, Reg.MERGE_SETTLING_LINES, Reg.MERGE_STATUS_CFG_REJECT,
      Reg.MERGE_STATUS_DIRTY, Reg.MERGE_STATUS_LIMIT, Reg.TELEM_BLK_OVF_OVF, Reg.XLAT_PINNED_LINES])
  ∧ (∀ a b, changes (.persistAt a b) (fun s t => { s with
      regs := t.regs, out := t.out,
      merge := { s.merge with points := t.merge.points },
      mbox := { s.mbox with stored := t.mbox.stored, bg := t.mbox.bg },
      telem := { s.telem with counts := t.telem.counts, bwRead := t.telem.bwRead } })
    ∧ changesRegs (.persistAt a b) [
      Reg.MERGE_STATUS_POINTS, Reg.TELEM_BLK_OVF_OVF])
  ∧ (∀ a, changes (.persistencePointComplete a) (fun s t => { s with
      regs := t.regs, out := t.out, events := t.events,
      chron := { s.chron with
        perm := t.chron.perm, ring := t.chron.ring, buffer := t.chron.buffer, nextSerial := t.chron.nextSerial,
        runs := t.chron.runs, dropped := t.chron.dropped },
      merge := { s.merge with
        points := t.merge.points, lastPoint := t.merge.lastPoint, pointDone := t.merge.pointDone,
        pointPinned := t.merge.pointPinned },
      mbox := { s.mbox with stored := t.mbox.stored, bg := t.mbox.bg },
      shelf := { s.shelf with pointReport := t.shelf.pointReport },
      telem := { s.telem with counts := t.telem.counts, bwRead := t.telem.bwRead } })
    ∧ changesRegs (.persistencePointComplete a) [
      Reg.CHRON_DROP_CNT, Reg.CHRON_REPEAT_CNT, Reg.ERR_DIRTY_LOST_CNT, Reg.ERR_HEALTH_EVENT_DIRTY_LOST,
      Reg.MERGE_LOST_CNT, Reg.MERGE_POINT_LO_STROKE_LO, Reg.MERGE_STATUS_POINTS, Reg.TELEM_BLK_OVF_OVF])
  ∧ (∀ a, changes (.gpfPhase1 a) (fun s t => { s with
      regs := t.regs, out := t.out,
      telem := { s.telem with counts := t.telem.counts, bwRead := t.telem.bwRead } })
    ∧ changesRegs (.gpfPhase1 a) [
      Reg.TELEM_BLK_OVF_OVF])
  ∧ (∀ a, changes (.gpfPhase2 a) (fun s t => { s with
      regs := t.regs, out := t.out,
      merge := { s.merge with points := t.merge.points },
      telem := { s.telem with counts := t.telem.counts, bwRead := t.telem.bwRead } })
    ∧ changesRegs (.gpfPhase2 a) [
      Reg.MERGE_STATUS_POINTS, Reg.TELEM_BLK_OVF_OVF])
  ∧ (∀ a, changes (.mergeCntClr a) (fun s t => { s with
      regs := t.regs, clears := t.clears, out := t.out,
      telem := { s.telem with counts := t.telem.counts, bwRead := t.telem.bwRead } })
    ∧ changesRegs (.mergeCntClr a) [
      Reg.TELEM_BLK_OVF_OVF])
  ∧ (changes .mergePointLoRead (fun s t => { s with
      regs := t.regs, out := t.out,
      telem := { s.telem with counts := t.telem.counts, bwRead := t.telem.bwRead } })
    ∧ changesRegs .mergePointLoRead [
      Reg.MERGE_POINT_HI_STROKE_HI, Reg.TELEM_BLK_OVF_OVF])
  ∧ (∀ a, changes (.freeBlockReprecondition a) (fun s t => { s with
      regs := t.regs, out := t.out,
      xlat := { s.xlat with again := t.xlat.again },
      telem := { s.telem with counts := t.telem.counts, bwRead := t.telem.bwRead } })
    ∧ changesRegs (.freeBlockReprecondition a) [
      Reg.TELEM_BLK_OVF_OVF])
  ∧ (∀ a, changes (.keepSlotProgrammed a) (fun s t => { s with
      regs := t.regs, out := t.out, keep := t.keep,
      chron := { s.chron with
        perm := t.chron.perm, ring := t.chron.ring, buffer := t.chron.buffer, nextSerial := t.chron.nextSerial,
        runs := t.chron.runs, dropped := t.chron.dropped },
      prot := { s.prot with lodged := t.prot.lodged },
      telem := { s.telem with counts := t.telem.counts, bwRead := t.telem.bwRead } })
    ∧ changesRegs (.keepSlotProgrammed a) [
      Reg.CHRON_DROP_CNT, Reg.CHRON_REPEAT_CNT, Reg.KEEP_RETRY_CNT, Reg.KEEP_STATUS_DEGRADED, Reg.KEEP_STATUS_FAIL,
      Reg.KEEP_WRITE_CNT, Reg.TELEM_BLK_OVF_OVF])
  ∧ (∀ a, changes (.keepSectorEraseComplete a) (fun s t => { s with
      regs := t.regs, out := t.out, keep := t.keep,
      chron := { s.chron with
        perm := t.chron.perm, ring := t.chron.ring, buffer := t.chron.buffer, nextSerial := t.chron.nextSerial,
        runs := t.chron.runs, dropped := t.chron.dropped },
      telem := { s.telem with counts := t.telem.counts, bwRead := t.telem.bwRead } })
    ∧ changesRegs (.keepSectorEraseComplete a) [
      Reg.CHRON_DROP_CNT, Reg.CHRON_REPEAT_CNT, Reg.KEEP_ERASE_CNT, Reg.KEEP_STATUS_DEGRADED,
      Reg.TELEM_BLK_OVF_OVF])
  ∧ (∀ a, changes (.spreadCounterIncrement a) (fun s t => { s with
      regs := t.regs, out := t.out, keep := t.keep,
      telem := { s.telem with counts := t.telem.counts, bwRead := t.telem.bwRead } })
    ∧ changesRegs (.spreadCounterIncrement a) [
      Reg.TELEM_BLK_OVF_OVF])
  ∧ (∀ a, changes (.chronicleRecordProgrammed a) (fun s t => { s with
      regs := t.regs, out := t.out, keep := t.keep, chron := t.chron,
      telem := { s.telem with counts := t.telem.counts, bwRead := t.telem.bwRead } })
    ∧ changesRegs (.chronicleRecordProgrammed a) [
      Reg.CHRON_WRITTEN_CNT, Reg.TELEM_BLK_OVF_OVF])
  ∧ (∀ a, changes (.chronicleSectorEraseComplete a) (fun s t => { s with
      regs := t.regs, out := t.out, keep := t.keep, chron := t.chron,
      telem := { s.telem with counts := t.telem.counts, bwRead := t.telem.bwRead } })
    ∧ changesRegs (.chronicleSectorEraseComplete a) [
      Reg.TELEM_BLK_OVF_OVF])
  ∧ (∀ a b, changes (.chronicleRunClose a b) (fun s t => { s with
      regs := t.regs, out := t.out,
      chron := { s.chron with
        perm := t.chron.perm, ring := t.chron.ring, buffer := t.chron.buffer, runs := t.chron.runs },
      telem := { s.telem with counts := t.telem.counts, bwRead := t.telem.bwRead } })
    ∧ changesRegs (.chronicleRunClose a b) [
      Reg.TELEM_BLK_OVF_OVF])
  ∧ (∀ a, changes (.keepPageIdxWrite a) (fun s t => { s with
      regs := t.regs, out := t.out,
      telem := { s.telem with counts := t.telem.counts, bwRead := t.telem.bwRead } })
    ∧ changesRegs (.keepPageIdxWrite a) [
      Reg.KEEP_PAGE_IDX_PAGE, Reg.KEEP_PAGE_IDX_READY, Reg.TELEM_BLK_OVF_OVF])
  ∧ (∀ a, changes (.keepCntClr a) (fun s t => { s with
      regs := t.regs, clears := t.clears, out := t.out,
      telem := { s.telem with counts := t.telem.counts, bwRead := t.telem.bwRead } })
    ∧ changesRegs (.keepCntClr a) [
      Reg.TELEM_BLK_OVF_OVF])
  ∧ (∀ a, changes (.chronCntClr a) (fun s t => { s with
      regs := t.regs, clears := t.clears, out := t.out,
      telem := { s.telem with counts := t.telem.counts, bwRead := t.telem.bwRead } })
    ∧ changesRegs (.chronCntClr a) [
      Reg.TELEM_BLK_OVF_OVF])

/-- What the commands leave unchanged: protection, errors and scrubbing. For each command named in the statement, with
every operand and in every state: whenever it answers a next state, that state equals the one before but for the parts
that its clause lists, and, where its clause lists register fields, every register of another field reads as before
(TELEM_BLK_OVF is listed throughout, since any command can bring the event that wraps a telemetry counter; regs, telem
and out are the registers, the telemetry counters and the transcript). The queue is never among the parts. (R237,
R239, R241, R204, R209, R214) -/
def Obligations.ProtectionAndErrorFrames : Prop :=
  (∀ a, changes (.patrolVisit a) (fun s t => { s with
      regs := t.regs, out := t.out, events := t.events, chans := t.chans, err := t.err,
      keep := { s.keep with shadow := t.keep.shadow, queue := t.keep.queue, lost := t.keep.lost },
      chron := { s.chron with
        perm := t.chron.perm, ring := t.chron.ring, buffer := t.chron.buffer, nextSerial := t.chron.nextSerial,
        runs := t.chron.runs, dropped := t.chron.dropped },
      telem := { s.telem with counts := t.telem.counts, bwRead := t.telem.bwRead } })
    ∧ changesRegs (.patrolVisit a) [
      Reg.CHAN_CORR_CNT, Reg.CHAN_RECON_CNT, Reg.CHAN_RETRY_CNT, Reg.CHAN_UNCORR_CNT, Reg.CHRON_DROP_CNT,
      Reg.CHRON_REPEAT_CNT, Reg.ERR_BUCKET_STATUS_LEVEL, Reg.ERR_BUCKET_STATUS_OVF_CNT, Reg.ERR_CORR_PERS_CNT,
      Reg.ERR_HEALTH_EVENT_BUCKET_OVF, Reg.ERR_HEALTH_EVENT_DIE_FAIL, Reg.ERR_HEALTH_EVENT_POISON_FULL,
      Reg.ERR_HEALTH_EVENT_UNCORR, Reg.ERR_LAST_UNCORR_HI_VALID, Reg.ERR_LAST_UNCORR_LO_DPA_LO,
      Reg.ERR_PATROL_STATUS_LAST_PASS, Reg.ERR_PATROL_STATUS_PROGRESS, Reg.ERR_POISON_LIST_OVERFLOW,
      Reg.ERR_POISON_LIST_RECORDS, Reg.ERR_REWRITE_CNT, Reg.ERR_UNCORR_CNT, Reg.TELEM_BLK_OVF_OVF])
  ∧ (changes .patrolPassLate (fun s t => { s with
      regs := t.regs, out := t.out,
      err := { s.err with
        patrolPos := t.err.patrolPos, patrolStart := t.err.patrolStart, visited := t.err.visited },
      telem := { s.telem with counts := t.telem.counts, bwRead := t.telem.bwRead } })
    ∧ changesRegs .patrolPassLate [
      Reg.ERR_HEALTH_EVENT_PATROL_LATE, Reg.ERR_PATROL_STATUS_LATE, Reg.ERR_PATROL_STATUS_PROGRESS,
      Reg.TELEM_BLK_OVF_OVF])
  ∧ (∀ a, changes (.errPatrolCfgWrite a) (fun s t => { s with
      regs := t.regs, out := t.out,
      telem := { s.telem with counts := t.telem.counts, bwRead := t.telem.bwRead } })
    ∧ changesRegs (.errPatrolCfgWrite a) [
      Reg.ERR_PATROL_CFG_HORIZON, Reg.ERR_PATROL_CFG_PASS, Reg.ERR_PATROL_CFG_REFRESH_BITS,
      Reg.ERR_STATUS_CFG_REJECT, Reg.TELEM_BLK_OVF_OVF])
  ∧ (∀ a, changes (.errCntClr a) (fun s t => { s with
      regs := t.regs, clears := t.clears, out := t.out,
      telem := { s.telem with counts := t.telem.counts, bwRead := t.telem.bwRead } })
    ∧ changesRegs (.errCntClr a) [
      Reg.TELEM_BLK_OVF_OVF])
  ∧ (changes .errLastUncorrLoRead (fun s t => { s with
      regs := t.regs, out := t.out,
      telem := { s.telem with counts := t.telem.counts, bwRead := t.telem.bwRead } })
    ∧ changesRegs .errLastUncorrLoRead [
      Reg.ERR_LAST_UNCORR_HI_DPA_HI, Reg.TELEM_BLK_OVF_OVF])
  ∧ (∀ a b c, changes (.scrubRange a b c) (fun s t => { s with
      regs := t.regs, out := t.out,
      mbox := { s.mbox with stored := t.mbox.stored, bg := t.mbox.bg },
      err := { s.err with scrub := t.err.scrub },
      telem := { s.telem with counts := t.telem.counts, bwRead := t.telem.bwRead } })
    ∧ changesRegs (.scrubRange a b c) [
      Reg.ERR_STATUS_SCRUB_BUSY, Reg.TELEM_BLK_OVF_OVF])
  ∧ (∀ a b c, changes (.scrubRangeComplete a b c) (fun s t => { s with
      regs := t.regs, out := t.out, events := t.events, chans := t.chans,
      keep := { s.keep with shadow := t.keep.shadow, queue := t.keep.queue, lost := t.keep.lost },
      chron := { s.chron with
        perm := t.chron.perm, ring := t.chron.ring, buffer := t.chron.buffer, nextSerial := t.chron.nextSerial,
        runs := t.chron.runs, dropped := t.chron.dropped },
      mbox := { s.mbox with stored := t.mbox.stored, bg := t.mbox.bg },
      err := { s.err with
        poison := t.err.poison, poisonLost := t.err.poisonLost, refresh := t.err.refresh,
        rewrites := t.err.rewrites, scrub := t.err.scrub, scanResults := t.err.scanResults,
        lastUncorrHi := t.err.lastUncorrHi },
      telem := { s.telem with counts := t.telem.counts, bwRead := t.telem.bwRead } })
    ∧ changesRegs (.scrubRangeComplete a b c) [
      Reg.CHAN_CORR_CNT, Reg.CHAN_RECON_CNT, Reg.CHAN_RETRY_CNT, Reg.CHAN_UNCORR_CNT, Reg.CHRON_DROP_CNT,
      Reg.CHRON_REPEAT_CNT, Reg.ERR_BUCKET_STATUS_LEVEL, Reg.ERR_BUCKET_STATUS_OVF_CNT, Reg.ERR_CORR_PERS_CNT,
      Reg.ERR_HEALTH_EVENT_BUCKET_OVF, Reg.ERR_HEALTH_EVENT_DIE_FAIL, Reg.ERR_HEALTH_EVENT_POISON_FULL,
      Reg.ERR_HEALTH_EVENT_UNCORR, Reg.ERR_LAST_UNCORR_HI_VALID, Reg.ERR_LAST_UNCORR_LO_DPA_LO,
      Reg.ERR_POISON_LIST_OVERFLOW, Reg.ERR_POISON_LIST_RECORDS, Reg.ERR_REWRITE_CNT, Reg.ERR_STATUS_SCRUB_BUSY,
      Reg.ERR_UNCORR_CNT, Reg.TELEM_BLK_OVF_OVF])
  ∧ (∀ a b, changes (.motion a b) (fun s t => { s with
      regs := t.regs, free := t.free, out := t.out, keep := t.keep,
      prot := { s.prot with nonces := t.prot.nonces, lodged := t.prot.lodged },
      mbox := { s.mbox with stored := t.mbox.stored },
      telem := { s.telem with counts := t.telem.counts, bwRead := t.telem.bwRead } })
    ∧ changesRegs (.motion a b) [
      Reg.PROT_DUP_CNT, Reg.PROT_MOTION_REJECT_COUNT, Reg.PROT_MOTION_REJECT_LAST_REASON, Reg.TELEM_BLK_OVF_OVF])
  ∧ (∀ a b, changes (.second a b) (fun s t => { s with
      regs := t.regs, free := t.free, out := t.out, keep := t.keep,
      prot := { s.prot with lodged := t.prot.lodged, challenge := t.prot.challenge },
      mbox := { s.mbox with stored := t.mbox.stored },
      telem := { s.telem with counts := t.telem.counts, bwRead := t.telem.bwRead } })
    ∧ changesRegs (.second a b) [
      Reg.PROT_DUP_CNT, Reg.PROT_MOTION_REJECT_COUNT, Reg.PROT_MOTION_REJECT_LAST_REASON, Reg.TELEM_BLK_OVF_OVF])
  ∧ (∀ a b, changes (.motionStatus a b) (fun s t => { s with
      regs := t.regs, out := t.out,
      mbox := { s.mbox with stored := t.mbox.stored },
      telem := { s.telem with counts := t.telem.counts, bwRead := t.telem.bwRead } })
    ∧ changesRegs (.motionStatus a b) [
      Reg.TELEM_BLK_OVF_OVF])
  ∧ (∀ a, changes (.motionLapse a) (fun s t => { s with
      regs := t.regs, free := t.free, out := t.out,
      prot := { s.prot with lodged := t.prot.lodged, challenge := t.prot.challenge },
      telem := { s.telem with counts := t.telem.counts, bwRead := t.telem.bwRead } })
    ∧ changesRegs (.motionLapse a) [
      Reg.PROT_LAPSE_CNT, Reg.TELEM_BLK_OVF_OVF])
  ∧ (changes .motionApply (fun s t => { s with
      regs := t.regs, free := t.free, out := t.out, prot := t.prot, internals := t.internals,
      chron := { s.chron with
        perm := t.chron.perm, ring := t.chron.ring, buffer := t.chron.buffer, nextSerial := t.chron.nextSerial,
        runs := t.chron.runs, dropped := t.chron.dropped },
      mbox := { s.mbox with stored := t.mbox.stored },
      cache := { s.cache with
        lines := t.cache.lines, host := t.cache.host, snoops := t.cache.snoops, clock := t.cache.clock,
        biCredits := t.cache.biCredits },
      telem := { s.telem with counts := t.telem.counts, bwRead := t.telem.bwRead } })
    ∧ changesRegs .motionApply [
      Reg.CHRON_DROP_CNT, Reg.CHRON_REPEAT_CNT, Reg.DIR_BCAST_CNT, Reg.DIR_BISNP_CNT, Reg.DIR_EVBUF_USED,
      Reg.DIR_HOST_OVF_ENTRIES, Reg.DIR_HOST_STATUS_ENTRIES, Reg.DIR_SLICE_STATUS_ENTRIES, Reg.PROT_LAPSE_CNT,
      Reg.PROT_MOTION_CNT, Reg.TELEM_BLK_OVF_OVF])
  ∧ (changes .rekeyPassEnd (fun s t => { s with
      regs := t.regs, out := t.out, keep := t.keep, internals := t.internals,
      prot := { s.prot with
        ranges := t.prot.ranges, slots := t.prot.slots, integState := t.prot.integState, rekeys := t.prot.rekeys },
      cache := { s.cache with
        lines := t.cache.lines, host := t.cache.host, snoops := t.cache.snoops, clock := t.cache.clock,
        biCredits := t.cache.biCredits },
      telem := { s.telem with counts := t.telem.counts, bwRead := t.telem.bwRead } })
    ∧ changesRegs .rekeyPassEnd [
      Reg.DIR_BCAST_CNT, Reg.DIR_BISNP_CNT, Reg.DIR_EVBUF_USED, Reg.DIR_HOST_OVF_ENTRIES,
      Reg.DIR_HOST_STATUS_ENTRIES, Reg.DIR_SLICE_STATUS_ENTRIES, Reg.TELEM_BLK_OVF_OVF])
  ∧ (changes .eraseAuthExpiry (fun s t => { s with
      regs := t.regs, out := t.out,
      prot := { s.prot with eraseAuth := t.prot.eraseAuth },
      telem := { s.telem with counts := t.telem.counts, bwRead := t.telem.bwRead } })
    ∧ changesRegs .eraseAuthExpiry [
      Reg.TELEM_BLK_OVF_OVF])
  ∧ (∀ a b, changes (.keySlotReunseal a b) (fun s t => { s with
      regs := t.regs, out := t.out, events := t.events, sessions := t.sessions, reqs := t.reqs, cache := t.cache,
      chron := { s.chron with
        perm := t.chron.perm, ring := t.chron.ring, buffer := t.chron.buffer, nextSerial := t.chron.nextSerial,
        runs := t.chron.runs, dropped := t.chron.dropped },
      prot := { s.prot with slotBad := t.prot.slotBad, slotLost := t.prot.slotLost },
      sched := { s.sched with jobs := t.sched.jobs },
      telem := { s.telem with counts := t.telem.counts, bwRead := t.telem.bwRead } })
    ∧ changesRegs (.keySlotReunseal a b) [
      Reg.CACHE_FWD_CNT, Reg.CACHE_HIT_CNT, Reg.CACHE_MISS_CNT, Reg.CHRON_DROP_CNT, Reg.CHRON_REPEAT_CNT,
      Reg.DIR_BCAST_CNT, Reg.DIR_BISNP_CNT, Reg.DIR_EVBUF_USED, Reg.DIR_EVICT_CNT, Reg.DIR_HOST_OVF_ENTRIES,
      Reg.DIR_HOST_STATUS_ENTRIES, Reg.DIR_RESOLVE_WAIT_CNT, Reg.DIR_SLICE_STATUS_ENTRIES,
      Reg.ERR_BUCKET_STATUS_LEVEL, Reg.ERR_BUCKET_STATUS_OVF_CNT, Reg.ERR_CORR_VOL_CNT,
      Reg.ERR_HEALTH_EVENT_BUCKET_OVF, Reg.PORT_INFLIGHT_LINK0, Reg.PORT_INFLIGHT_LINK1,
      Reg.PORT_INFLIGHT_PEAK_LINK0, Reg.PORT_INFLIGHT_PEAK_LINK1, Reg.PROT_INTEG_FAIL_CNT,
      Reg.RANGE_INTEG_FAIL_CNT, Reg.TELEM_BLK_OVF_OVF])
  ∧ (∀ a b c d e, changes (.ideKeyProg a b c d e) (fun s t => { s with
      regs := t.regs, out := t.out,
      prot := { s.prot with ide := t.prot.ide },
      telem := { s.telem with counts := t.telem.counts, bwRead := t.telem.bwRead } })
    ∧ changesRegs (.ideKeyProg a b c d e) [
      Reg.TELEM_BLK_OVF_OVF])
  ∧ (∀ a b c d, changes (.ideKSetGo a b c d) (fun s t => { s with
      regs := t.regs, out := t.out,
      prot := { s.prot with ide := t.prot.ide },
      telem := { s.telem with counts := t.telem.counts, bwRead := t.telem.bwRead } })
    ∧ changesRegs (.ideKSetGo a b c d) [
      Reg.PORT_LINK_STATUS0_IDE, Reg.PORT_LINK_STATUS1_IDE, Reg.TELEM_BLK_OVF_OVF])
  ∧ (∀ a b c d, changes (.ideKSetStop a b c d) (fun s t => { s with
      regs := t.regs, out := t.out,
      prot := { s.prot with ide := t.prot.ide },
      telem := { s.telem with counts := t.telem.counts, bwRead := t.telem.bwRead } })
    ∧ changesRegs (.ideKSetStop a b c d) [
      Reg.PORT_LINK_STATUS0_IDE, Reg.PORT_LINK_STATUS1_IDE, Reg.TELEM_BLK_OVF_OVF])
  ∧ (∀ a b, changes (.spdmGetMeasurements a b) (fun s t => { s with
      regs := t.regs, out := t.out,
      telem := { s.telem with counts := t.telem.counts, bwRead := t.telem.bwRead } })
    ∧ changesRegs (.spdmGetMeasurements a b) [
      Reg.TELEM_BLK_OVF_OVF])
  ∧ (∀ a, changes (.protCntClr a) (fun s t => { s with
      regs := t.regs, clears := t.clears, out := t.out,
      telem := { s.telem with counts := t.telem.counts, bwRead := t.telem.bwRead } })
    ∧ changesRegs (.protCntClr a) [
      Reg.TELEM_BLK_OVF_OVF])
  ∧ (∀ a b c, changes (.getScanMediaCapabilities a b c) (fun s t => { s with
      regs := t.regs, out := t.out,
      mbox := { s.mbox with stored := t.mbox.stored },
      telem := { s.telem with counts := t.telem.counts, bwRead := t.telem.bwRead } })
    ∧ changesRegs (.getScanMediaCapabilities a b c) [
      Reg.TELEM_BLK_OVF_OVF])
  ∧ (∀ a b c, changes (.scanMedia a b c) (fun s t => { s with
      regs := t.regs, out := t.out,
      mbox := { s.mbox with stored := t.mbox.stored, bg := t.mbox.bg },
      err := { s.err with scrub := t.err.scrub },
      telem := { s.telem with counts := t.telem.counts, bwRead := t.telem.bwRead } })
    ∧ changesRegs (.scanMedia a b c) [
      Reg.ERR_STATUS_SCRUB_BUSY, Reg.TELEM_BLK_OVF_OVF])
  ∧ (∀ a, changes (.deviceTemperatureCrossing a) (fun s t => { s with
      regs := t.regs, out := t.out, events := t.events,
      chron := { s.chron with
        perm := t.chron.perm, ring := t.chron.ring, buffer := t.chron.buffer, nextSerial := t.chron.nextSerial,
        runs := t.chron.runs, dropped := t.chron.dropped },
      err := { s.err with temp := t.err.temp },
      telem := { s.telem with counts := t.telem.counts, bwRead := t.telem.bwRead } })
    ∧ changesRegs (.deviceTemperatureCrossing a) [
      Reg.CHRON_DROP_CNT, Reg.CHRON_REPEAT_CNT, Reg.ERR_HEALTH_EVENT_TEMP, Reg.ERR_HEALTH_STATUS_TEMP,
      Reg.TELEM_BLK_OVF_OVF])
  ∧ (∀ a b, changes (.spdmSecureSession a b) (fun s t => { s with
      regs := t.regs, out := t.out,
      prot := { s.prot with spdm := t.prot.spdm },
      telem := { s.telem with counts := t.telem.counts, bwRead := t.telem.bwRead } })
    ∧ changesRegs (.spdmSecureSession a b) [
      Reg.TELEM_BLK_OVF_OVF])

/-- What the commands leave unchanged: power sequencing, start, resets and images. For each command named in the
statement, with every operand and in every state: whenever it answers a next state, that state equals the one before
but for the parts that its clause lists, and, where its clause lists register fields, every register of another field
reads as before (TELEM_BLK_OVF is listed throughout, since any command can bring the event that wraps a telemetry
counter; regs, telem and out are the registers, the telemetry counters and the transcript). The queue is never among
the parts. (R251, R256, R264, R345, R347) -/
def Obligations.PowerAndStartFrames : Prop :=
  (∀ a b c d e f, changes (.auxApply a b c d e f) (fun s t => { s with
      regs := t.regs, stroke := t.stroke, free := t.free, out := t.out, keep := t.keep, shelf := t.shelf,
      pwr := { s.pwr with aux := t.pwr.aux, hungRecord := t.pwr.hungRecord },
      chron := { s.chron with
        perm := t.chron.perm, ring := t.chron.ring, buffer := t.chron.buffer, nextSerial := t.chron.nextSerial,
        runs := t.chron.runs, dropped := t.chron.dropped },
      telem := { s.telem with counts := t.telem.counts, bwRead := t.telem.bwRead } })
    ∧ changesRegs (.auxApply a b c d e f) [
      Reg.CHRON_DROP_CNT, Reg.CHRON_REPEAT_CNT, Reg.KEEP_STATUS_FLASH_OK, Reg.KEEP_STATUS_TIE,
      Reg.PWR_STATUS_PF_PIN, Reg.SHELF_STATUS_POS, Reg.SHELF_STATUS_ROLE, Reg.TELEM_BLK_OVF_OVF,
      Reg.TOP_STRAPS_SHELF_POS, Reg.TOP_STRAPS_SHELF_ROLE])
  ∧ (changes .auxRemove (fun s t => { s with
      regs := t.regs, clears := t.clears, out := t.out, msixEn := t.msixEn, intOwed := t.intOwed, pwr := t.pwr,
      start := t.start, keep := t.keep, chron := t.chron, events := t.events, prot := t.prot,
      sessions := t.sessions, reqs := t.reqs, nextRid := t.nextRid, share := t.share, decoders := t.decoders,
      merge := t.merge, mbox := t.mbox, cache := t.cache, internals := t.internals, imageOps := t.imageOps,
      ops := t.ops, deltas := t.deltas, chans := t.chans, sched := t.sched, xlat := t.xlat, err := t.err,
      img := t.img, shelf := t.shelf, fw := t.fw, telem := t.telem, cfgSpace := t.cfgSpace, bar0 := t.bar0,
      d3 := t.d3 }))
  ∧ (∀ a, changes (.pwrfailNQualify a) (fun s t => { s with
      regs := t.regs, clears := t.clears, out := t.out, msixEn := t.msixEn, intOwed := t.intOwed, pwr := t.pwr,
      start := t.start, keep := t.keep, chron := t.chron, events := t.events, prot := t.prot,
      sessions := t.sessions, reqs := t.reqs, nextRid := t.nextRid, share := t.share, decoders := t.decoders,
      merge := t.merge, mbox := t.mbox, cache := t.cache, internals := t.internals, imageOps := t.imageOps,
      ops := t.ops, deltas := t.deltas, chans := t.chans, sched := t.sched, xlat := t.xlat, err := t.err,
      img := t.img, shelf := t.shelf, fw := t.fw, telem := t.telem, cfgSpace := t.cfgSpace, bar0 := t.bar0,
      d3 := t.d3 }))
  ∧ (∀ a, changes (.pwrfailNGlitch a) (fun s t => { s with
      regs := t.regs, out := t.out,
      pwr := { s.pwr with pfCount := t.pwr.pfCount },
      telem := { s.telem with counts := t.telem.counts, bwRead := t.telem.bwRead } })
    ∧ changesRegs (.pwrfailNGlitch a) [
      Reg.PWR_EVENT_PF_GLITCH, Reg.PWR_GLITCH_CNT, Reg.PWR_STATUS_PF_PIN, Reg.TELEM_BLK_OVF_OVF])
  ∧ (∀ a, changes (.pwrfailNHigh100ms a) (fun s t => { s with
      regs := t.regs, out := t.out, keep := t.keep,
      pwr := { s.pwr with pfCount := t.pwr.pfCount, high100 := t.pwr.high100 },
      chron := { s.chron with
        perm := t.chron.perm, ring := t.chron.ring, buffer := t.chron.buffer, nextSerial := t.chron.nextSerial,
        runs := t.chron.runs, dropped := t.chron.dropped },
      telem := { s.telem with counts := t.telem.counts, bwRead := t.telem.bwRead } })
    ∧ changesRegs (.pwrfailNHigh100ms a) [
      Reg.CHRON_DROP_CNT, Reg.CHRON_REPEAT_CNT, Reg.PWR_FAULT_LOCKOUT, Reg.PWR_FAULT_TEST_EN,
      Reg.PWR_STATUS_PF_LATCH, Reg.PWR_STATUS_STATE, Reg.TELEM_BLK_OVF_OVF, Reg.TOP_STRAPS_TEST_EN])
  ∧ (∀ a b, changes (.powerUpPackage a b) (fun s t => { s with
      regs := t.regs, out := t.out, pwr := t.pwr, keep := t.keep,
      chron := { s.chron with
        perm := t.chron.perm, ring := t.chron.ring, buffer := t.chron.buffer, nextSerial := t.chron.nextSerial,
        runs := t.chron.runs, dropped := t.chron.dropped },
      telem := { s.telem with counts := t.telem.counts, bwRead := t.telem.bwRead } })
    ∧ changesRegs (.powerUpPackage a b) [
      Reg.CHRON_DROP_CNT, Reg.CHRON_REPEAT_CNT, Reg.PWR_FAULT_LOCKOUT, Reg.PWR_FAULT_PMIC_CONFIG,
      Reg.PWR_FAULT_TEST_EN, Reg.PWR_PRESENT_A_PRI, Reg.PWR_PRESENT_A_SEC, Reg.PWR_PRESENT_B_PRI,
      Reg.PWR_PRESENT_B_SEC, Reg.PWR_STATUS_ATTEMPT, Reg.PWR_STATUS_STATE, Reg.PWR_UPFAIL_CNT,
      Reg.TELEM_BLK_OVF_OVF, Reg.TOP_STRAPS_TEST_EN])
  ∧ (∀ a, changes (.railTurnOn a) (fun s t => { s with
      regs := t.regs, clears := t.clears, out := t.out, msixEn := t.msixEn, intOwed := t.intOwed, pwr := t.pwr,
      start := t.start, keep := t.keep, chron := t.chron, events := t.events, prot := t.prot,
      sessions := t.sessions, reqs := t.reqs, nextRid := t.nextRid, share := t.share, decoders := t.decoders,
      merge := t.merge, mbox := t.mbox, cache := t.cache, internals := t.internals, imageOps := t.imageOps,
      ops := t.ops, deltas := t.deltas, chans := t.chans, sched := t.sched, xlat := t.xlat, err := t.err,
      img := t.img, shelf := t.shelf, fw := t.fw, telem := t.telem, cfgSpace := t.cfgSpace, bar0 := t.bar0,
      d3 := t.d3 }))
  ∧ (∀ a b, changes (.rampPoll a b) (fun s t => { s with
      regs := t.regs, clears := t.clears, free := t.free, out := t.out, msixEn := t.msixEn, intOwed := t.intOwed,
      pwr := t.pwr, start := t.start, keep := t.keep, chron := t.chron, events := t.events, prot := t.prot,
      sessions := t.sessions, reqs := t.reqs, nextRid := t.nextRid, share := t.share, decoders := t.decoders,
      merge := t.merge, mbox := t.mbox, cache := t.cache, internals := t.internals, imageOps := t.imageOps,
      ops := t.ops, deltas := t.deltas, chans := t.chans, sched := t.sched, xlat := t.xlat, err := t.err,
      img := t.img, shelf := t.shelf, fw := t.fw, telem := t.telem, cfgSpace := t.cfgSpace, bar0 := t.bar0,
      d3 := t.d3 }))
  ∧ (changes .railRampLimit (fun s t => { s with
      regs := t.regs, clears := t.clears, out := t.out, msixEn := t.msixEn, intOwed := t.intOwed, pwr := t.pwr,
      start := t.start, keep := t.keep, chron := t.chron, events := t.events, prot := t.prot,
      sessions := t.sessions, reqs := t.reqs, nextRid := t.nextRid, share := t.share, decoders := t.decoders,
      merge := t.merge, mbox := t.mbox, cache := t.cache, internals := t.internals, imageOps := t.imageOps,
      ops := t.ops, deltas := t.deltas, chans := t.chans, sched := t.sched, xlat := t.xlat, err := t.err,
      img := t.img, shelf := t.shelf, fw := t.fw, telem := t.telem, cfgSpace := t.cfgSpace, bar0 := t.bar0,
      d3 := t.d3 }))
  ∧ (changes .powerUpMedia (fun s t => { s with
      regs := t.regs, out := t.out,
      pwr := { s.pwr with
        rail := t.pwr.rail, ramping := t.pwr.ramping, goodPolls := t.pwr.goodPolls, fpReset := t.pwr.fpReset },
      shelf := { s.shelf with granted := t.shelf.granted },
      telem := { s.telem with counts := t.telem.counts, bwRead := t.telem.bwRead } })
    ∧ changesRegs .powerUpMedia [
      Reg.PWR_STATUS_ATTEMPT, Reg.PWR_STATUS_SLOT_WAIT, Reg.PWR_STATUS_STATE, Reg.TELEM_BLK_OVF_OVF])
  ∧ (∀ a, changes (.servicePoll a) (fun s t => { s with
      regs := t.regs, clears := t.clears, out := t.out, msixEn := t.msixEn, intOwed := t.intOwed, pwr := t.pwr,
      start := t.start, keep := t.keep, chron := t.chron, events := t.events, prot := t.prot,
      sessions := t.sessions, reqs := t.reqs, nextRid := t.nextRid, share := t.share, decoders := t.decoders,
      merge := t.merge, mbox := t.mbox, cache := t.cache, internals := t.internals, imageOps := t.imageOps,
      ops := t.ops, deltas := t.deltas, chans := t.chans, sched := t.sched, xlat := t.xlat, err := t.err,
      img := t.img, shelf := t.shelf, fw := t.fw, telem := t.telem, cfgSpace := t.cfgSpace, bar0 := t.bar0,
      d3 := t.d3 }))
  ∧ (∀ a, changes (.decayPoll a) (fun s t => { s with
      regs := t.regs, clears := t.clears, out := t.out, msixEn := t.msixEn, intOwed := t.intOwed, pwr := t.pwr,
      start := t.start, keep := t.keep, chron := t.chron, events := t.events, prot := t.prot,
      sessions := t.sessions, reqs := t.reqs, nextRid := t.nextRid, share := t.share, decoders := t.decoders,
      merge := t.merge, mbox := t.mbox, cache := t.cache, internals := t.internals, imageOps := t.imageOps,
      ops := t.ops, deltas := t.deltas, chans := t.chans, sched := t.sched, xlat := t.xlat, err := t.err,
      img := t.img, fw := t.fw, telem := t.telem, cfgSpace := t.cfgSpace, bar0 := t.bar0, d3 := t.d3 }))
  ∧ (∀ a, changes (.decayLimitExpiry a) (fun s t => { s with
      regs := t.regs, out := t.out, keep := t.keep,
      pwr := { s.pwr with discharged := t.pwr.discharged, hungRecord := t.pwr.hungRecord },
      chron := { s.chron with
        perm := t.chron.perm, ring := t.chron.ring, buffer := t.chron.buffer, nextSerial := t.chron.nextSerial,
        runs := t.chron.runs, dropped := t.chron.dropped },
      telem := { s.telem with counts := t.telem.counts, bwRead := t.telem.bwRead } })
    ∧ changesRegs (.decayLimitExpiry a) [
      Reg.CHRON_DROP_CNT, Reg.CHRON_REPEAT_CNT, Reg.PWR_FAULT_HANG, Reg.PWR_LAST_DOWN_HUNG_RAIL,
      Reg.PWR_STATUS_STATE, Reg.TELEM_BLK_OVF_OVF])
  ∧ (∀ a, changes (.offHoldExpiry a) (fun s t => { s with
      regs := t.regs, out := t.out, pwr := t.pwr, keep := t.keep,
      chron := { s.chron with
        perm := t.chron.perm, ring := t.chron.ring, buffer := t.chron.buffer, nextSerial := t.chron.nextSerial,
        runs := t.chron.runs, dropped := t.chron.dropped },
      shelf := { s.shelf with granted := t.shelf.granted },
      telem := { s.telem with counts := t.telem.counts, bwRead := t.telem.bwRead } })
    ∧ changesRegs (.offHoldExpiry a) [
      Reg.CHRON_DROP_CNT, Reg.CHRON_REPEAT_CNT, Reg.PWR_FAULT_LOCKOUT, Reg.PWR_FAULT_TEST_EN,
      Reg.PWR_STATUS_ATTEMPT, Reg.PWR_STATUS_SLOT_WAIT, Reg.PWR_STATUS_STATE, Reg.TELEM_BLK_OVF_OVF,
      Reg.TOP_STRAPS_TEST_EN])
  ∧ (∀ a, changes (.thermtrip a) (fun s t => { s with
      regs := t.regs, clears := t.clears, out := t.out, msixEn := t.msixEn, intOwed := t.intOwed, pwr := t.pwr,
      start := t.start, keep := t.keep, chron := t.chron, events := t.events, prot := t.prot,
      sessions := t.sessions, reqs := t.reqs, nextRid := t.nextRid, share := t.share, decoders := t.decoders,
      merge := t.merge, mbox := t.mbox, cache := t.cache, internals := t.internals, imageOps := t.imageOps,
      ops := t.ops, deltas := t.deltas, chans := t.chans, sched := t.sched, xlat := t.xlat, err := t.err,
      img := t.img, shelf := t.shelf, fw := t.fw, telem := t.telem, cfgSpace := t.cfgSpace, bar0 := t.bar0,
      d3 := t.d3 }))
  ∧ (∀ a, changes (.capoFlushComplete a) (fun s t => { s with
      regs := t.regs, out := t.out, keep := t.keep, chron := t.chron, events := t.events, prot := t.prot,
      reqs := t.reqs, merge := t.merge, mbox := t.mbox, pages := t.pages, ops := t.ops, deltas := t.deltas,
      sched := t.sched, xlat := t.xlat, err := t.err, shelf := t.shelf, telem := t.telem })
    ∧ changesRegs (.capoFlushComplete a) [
      Reg.CHRON_DROP_CNT, Reg.CHRON_REPEAT_CNT, Reg.ERR_DIRTY_LOST_CNT, Reg.ERR_HEALTH_EVENT_DIRTY_LOST,
      Reg.ERR_HEALTH_EVENT_POISON_FULL, Reg.ERR_POISON_LIST_OVERFLOW, Reg.ERR_POISON_LIST_RECORDS,
      Reg.MERGE_DRAIN_CNT, Reg.MERGE_LAST_CAPO_FLUSH_US, Reg.MERGE_LAST_CAPO_RESULT, Reg.MERGE_LOST_CNT,
      Reg.MERGE_PARTIAL_LINES, Reg.MERGE_POINT_LO_STROKE_LO, Reg.MERGE_SETTLING_LINES, Reg.MERGE_STATUS_DIRTY,
      Reg.MERGE_STATUS_LIMIT, Reg.MERGE_STATUS_POINTS, Reg.PROT_INTEG_DIRTY_LINES, Reg.TELEM_BLK_OVF_OVF,
      Reg.XLAT_COLD_COUNT_BLOCKS, Reg.XLAT_HOT_COUNT_BLOCKS, Reg.XLAT_LIFTED_PAGES, Reg.XLAT_MOVES_ACTIVE,
      Reg.XLAT_MOVES_QUEUED, Reg.XLAT_PINNED_LINES, Reg.XLAT_POISON_WR_CNT, Reg.XLAT_POOL_STATUS_FREE,
      Reg.XLAT_RELOC_CNT])
  ∧ (∀ a b, changes (.capoSaveComplete a b) (fun s t => { s with
      regs := t.regs, clears := t.clears, out := t.out, msixEn := t.msixEn, intOwed := t.intOwed, pwr := t.pwr,
      start := t.start, keep := t.keep, chron := t.chron, events := t.events, prot := t.prot,
      sessions := t.sessions, reqs := t.reqs, nextRid := t.nextRid, share := t.share, decoders := t.decoders,
      merge := t.merge, mbox := t.mbox, cache := t.cache, internals := t.internals, imageOps := t.imageOps,
      ops := t.ops, deltas := t.deltas, chans := t.chans, sched := t.sched, xlat := t.xlat, err := t.err,
      img := t.img, shelf := t.shelf, fw := t.fw, telem := t.telem, cfgSpace := t.cfgSpace, bar0 := t.bar0,
      d3 := t.d3 }))
  ∧ (changes .warmResumption (fun s t => { s with
      regs := t.regs, out := t.out, keep := t.keep,
      pwr := { s.pwr with dirtySet := t.pwr.dirtySet },
      chron := { s.chron with
        perm := t.chron.perm, ring := t.chron.ring, buffer := t.chron.buffer, nextSerial := t.chron.nextSerial,
        runs := t.chron.runs, dropped := t.chron.dropped },
      merge := { s.merge with marker := t.merge.marker, capoCredits := t.merge.capoCredits },
      sched := { s.sched with jobs := t.sched.jobs, capoAsk := t.sched.capoAsk, back := t.sched.back },
      fw := { s.fw with abandoned := t.fw.abandoned },
      telem := { s.telem with counts := t.telem.counts, bwRead := t.telem.bwRead } })
    ∧ changesRegs .warmResumption [
      Reg.CHRON_DROP_CNT, Reg.CHRON_REPEAT_CNT, Reg.MERGE_DSC, Reg.MERGE_LAST_CAPO_RESULT, Reg.MERGE_STATUS_CAPO,
      Reg.PWR_EVENT_WARM_RESUME, Reg.PWR_STATUS_STATE, Reg.PWR_WARM_CNT, Reg.TELEM_BLK_OVF_OVF,
      Reg.TOP_STATUS_CAPO])
  ∧ (∀ a, changes (.loadTableComplete a) (fun s t => { s with
      regs := t.regs, out := t.out, keep := t.keep, imageOps := t.imageOps, chans := t.chans,
      chron := { s.chron with
        perm := t.chron.perm, ring := t.chron.ring, buffer := t.chron.buffer, nextSerial := t.chron.nextSerial,
        runs := t.chron.runs, dropped := t.chron.dropped },
      mbox := { s.mbox with stored := t.mbox.stored, bg := t.mbox.bg },
      shelf := { s.shelf with act := t.shelf.act },
      fw := { s.fw with act := t.fw.act },
      telem := { s.telem with counts := t.telem.counts, bwRead := t.telem.bwRead } })
    ∧ changesRegs (.loadTableComplete a) [
      Reg.CHRON_DROP_CNT, Reg.CHRON_REPEAT_CNT, Reg.SHELF_ACT_STATUS_ACT, Reg.TELEM_BLK_OVF_OVF])
  ∧ (changes .rebuildStart (fun s t => { s with
      regs := t.regs, out := t.out,
      start := { s.start with rebuilding := t.start.rebuilding },
      telem := { s.telem with counts := t.telem.counts, bwRead := t.telem.bwRead } })
    ∧ changesRegs .rebuildStart [
      Reg.TELEM_BLK_OVF_OVF])
  ∧ (∀ a, changes (.rebuildComplete a) (fun s t => { s with
      regs := t.regs, free := t.free, out := t.out, start := t.start, keep := t.keep, chron := t.chron,
      prot := t.prot, merge := t.merge, pages := t.pages, xlat := t.xlat, err := t.err, shelf := t.shelf,
      telem := t.telem })
    ∧ changesRegs (.rebuildComplete a) [
      Reg.CHAN_G_EVAC_STATUS_ACTIVE, Reg.CHAN_G_EVAC_STATUS_REMAINING, Reg.CHRON_DROP_CNT, Reg.CHRON_REPEAT_CNT,
      Reg.ERR_HEALTH_EVENT_POISON_FULL, Reg.ERR_POISON_LIST_OVERFLOW, Reg.ERR_POISON_LIST_RECORDS,
      Reg.MERGE_DRAIN_CNT, Reg.MERGE_PARTIAL_LINES, Reg.MERGE_SETTLING_LINES, Reg.MERGE_STATUS_DIRTY,
      Reg.MERGE_STATUS_LIMIT, Reg.PROT_INTEG_DIRTY_LINES, Reg.TELEM_BLK_OVF_OVF, Reg.XLAT_COLD_COUNT_BLOCKS,
      Reg.XLAT_EQ_SEQ_CNT, Reg.XLAT_HOT_COUNT_BLOCKS, Reg.XLAT_LIFTED_PAGES, Reg.XLAT_MOVES_ACTIVE,
      Reg.XLAT_MOVES_QUEUED, Reg.XLAT_PINNED_LINES, Reg.XLAT_POOL_STATUS_FREE, Reg.XLAT_REBUILD_RECON,
      Reg.XLAT_REBUILD_RESUMED, Reg.XLAT_REBUILD_STROKES, Reg.XLAT_RELOC_CNT])
  ∧ (∀ a, changes (.hbmFillComplete a) (fun s t => { s with
      regs := t.regs, out := t.out,
      start := { s.start with step3 := t.start.step3, warm := t.start.warm },
      telem := { s.telem with counts := t.telem.counts, bwRead := t.telem.bwRead } })
    ∧ changesRegs (.hbmFillComplete a) [
      Reg.ERR_HBM_FILL_DONE, Reg.ERR_HBM_FILL_US, Reg.TELEM_BLK_OVF_OVF])
  ∧ (∀ a, changes (.integrityRootVerifyComplete a) (fun s t => { s with
      regs := t.regs, out := t.out, keep := t.keep, internals := t.internals,
      start := { s.start with step7 := t.start.step7, step9 := t.start.step9 },
      chron := { s.chron with
        perm := t.chron.perm, ring := t.chron.ring, buffer := t.chron.buffer, nextSerial := t.chron.nextSerial,
        runs := t.chron.runs, dropped := t.chron.dropped },
      prot := { s.prot with integState := t.prot.integState, rekeys := t.prot.rekeys },
      merge := { s.merge with marker := t.merge.marker },
      cache := { s.cache with
        lines := t.cache.lines, host := t.cache.host, snoops := t.cache.snoops, clock := t.cache.clock,
        biCredits := t.cache.biCredits },
      err := { s.err with wake := t.err.wake },
      telem := { s.telem with counts := t.telem.counts, bwRead := t.telem.bwRead } })
    ∧ changesRegs (.integrityRootVerifyComplete a) [
      Reg.CHRON_DROP_CNT, Reg.CHRON_REPEAT_CNT, Reg.DIR_BCAST_CNT, Reg.DIR_BISNP_CNT, Reg.DIR_EVBUF_USED,
      Reg.DIR_HOST_OVF_ENTRIES, Reg.DIR_HOST_STATUS_ENTRIES, Reg.DIR_SLICE_STATUS_ENTRIES, Reg.MERGE_DSC,
      Reg.TELEM_BLK_OVF_OVF])
  ∧ (∀ a b, changes (.imageVerifyComplete a b) (fun s t => { s with
      regs := t.regs, out := t.out, keep := t.keep, img := t.img,
      start := { s.start with step2 := t.start.step2, row := t.start.row },
      chron := { s.chron with
        perm := t.chron.perm, ring := t.chron.ring, buffer := t.chron.buffer, nextSerial := t.chron.nextSerial,
        runs := t.chron.runs, dropped := t.chron.dropped },
      telem := { s.telem with counts := t.telem.counts, bwRead := t.telem.bwRead } })
    ∧ changesRegs (.imageVerifyComplete a b) [
      Reg.CHAN_G_AGE_REST, Reg.CHRON_DROP_CNT, Reg.CHRON_REPEAT_CNT, Reg.TELEM_BLK_OVF_OVF,
      Reg.TOP_STATUS_RECOVERY])
  ∧ (changes .mediaReady (fun s t => { s with
      regs := t.regs, out := t.out, keep := t.keep, share := t.share, imageOps := t.imageOps,
      pwr := { s.pwr with dirtySet := t.pwr.dirtySet },
      start := { s.start with copying := t.start.copying },
      sched := { s.sched with since := t.sched.since },
      err := { s.err with
        patrolPos := t.err.patrolPos, patrolStart := t.err.patrolStart, visited := t.err.visited },
      shelf := { s.shelf with timeKnown := t.shelf.timeKnown },
      telem := { s.telem with counts := t.telem.counts, bwRead := t.telem.bwRead } })
    ∧ changesRegs .mediaReady [
      Reg.SCHED_STATUS_BOUND_ACTIVE, Reg.TELEM_BLK_OVF_OVF, Reg.TOP_STATUS_READY])
  ∧ (changes .wakePatrolEnd (fun s t => { s with
      regs := t.regs, out := t.out,
      telem := { s.telem with counts := t.telem.counts, bwRead := t.telem.bwRead } })
    ∧ changesRegs .wakePatrolEnd [
      Reg.CHAN_G_AGE_WAKE, Reg.TELEM_BLK_OVF_OVF])
  ∧ (∀ a, changes (.stagingCopyComplete a) (fun s t => { s with
      regs := t.regs, out := t.out, keep := t.keep, imageOps := t.imageOps,
      start := { s.start with copying := t.start.copying },
      chron := { s.chron with
        perm := t.chron.perm, ring := t.chron.ring, buffer := t.chron.buffer, nextSerial := t.chron.nextSerial,
        runs := t.chron.runs, dropped := t.chron.dropped },
      telem := { s.telem with counts := t.telem.counts, bwRead := t.telem.bwRead } })
    ∧ changesRegs (.stagingCopyComplete a) [
      Reg.CHRON_DROP_CNT, Reg.CHRON_REPEAT_CNT, Reg.TELEM_BLK_OVF_OVF])
  ∧ (changes .warmResetFlushDone (fun s t => { s with
      regs := t.regs, clears := t.clears, free := t.free, out := t.out, msixEn := t.msixEn, intOwed := t.intOwed,
      pwr := t.pwr, start := t.start, keep := t.keep, chron := t.chron, events := t.events, prot := t.prot,
      sessions := t.sessions, reqs := t.reqs, nextRid := t.nextRid, share := t.share, decoders := t.decoders,
      merge := t.merge, mbox := t.mbox, cache := t.cache, internals := t.internals, imageOps := t.imageOps,
      pages := t.pages, ops := t.ops, deltas := t.deltas, sched := t.sched, xlat := t.xlat, err := t.err,
      shelf := t.shelf, fw := t.fw, telem := t.telem, cfgSpace := t.cfgSpace, bar0 := t.bar0, d3 := t.d3 }))
  ∧ (changes .warmResetComplete (fun s t => { s with
      regs := t.regs, out := t.out, share := t.share,
      pwr := { s.pwr with dirtySet := t.pwr.dirtySet },
      start := { s.start with warm := t.start.warm, warmLoss := t.start.warmLoss },
      sched := { s.sched with since := t.sched.since },
      shelf := { s.shelf with timeKnown := t.shelf.timeKnown },
      telem := { s.telem with counts := t.telem.counts, bwRead := t.telem.bwRead } })
    ∧ changesRegs .warmResetComplete [
      Reg.SCHED_STATUS_BOUND_ACTIVE, Reg.TELEM_BLK_OVF_OVF, Reg.TOP_STATUS_READY, Reg.TOP_STATUS_WARM_BUSY])
  ∧ (∀ a, changes (.pwrCntClr a) (fun s t => { s with
      regs := t.regs, clears := t.clears, out := t.out,
      telem := { s.telem with counts := t.telem.counts, bwRead := t.telem.bwRead } })
    ∧ changesRegs (.pwrCntClr a) [
      Reg.TELEM_BLK_OVF_OVF])
  ∧ (∀ a, changes (.transferFwFull a) (fun s t => { s with
      regs := t.regs, out := t.out,
      mbox := { s.mbox with stored := t.mbox.stored },
      telem := { s.telem with counts := t.telem.counts, bwRead := t.telem.bwRead } })
    ∧ changesRegs (.transferFwFull a) [
      Reg.TELEM_BLK_OVF_OVF])
  ∧ (∀ a b c d e, changes (.transferFwInitiate a b c d e) (fun s t => { s with
      regs := t.regs, out := t.out, keep := t.keep, imageOps := t.imageOps,
      chron := { s.chron with
        perm := t.chron.perm, ring := t.chron.ring, buffer := t.chron.buffer, nextSerial := t.chron.nextSerial,
        runs := t.chron.runs, dropped := t.chron.dropped },
      mbox := { s.mbox with stored := t.mbox.stored, bg := t.mbox.bg },
      fw := { s.fw with transfer := t.fw.transfer, cmd := t.fw.cmd },
      telem := { s.telem with counts := t.telem.counts, bwRead := t.telem.bwRead } })
    ∧ changesRegs (.transferFwInitiate a b c d e) [
      Reg.CHRON_DROP_CNT, Reg.CHRON_REPEAT_CNT, Reg.TELEM_BLK_OVF_OVF])
  ∧ (∀ a b c d e, changes (.transferFwContinue a b c d e) (fun s t => { s with
      regs := t.regs, out := t.out, keep := t.keep, imageOps := t.imageOps,
      mbox := { s.mbox with stored := t.mbox.stored, bg := t.mbox.bg },
      fw := { s.fw with transfer := t.fw.transfer, cmd := t.fw.cmd },
      telem := { s.telem with counts := t.telem.counts, bwRead := t.telem.bwRead } })
    ∧ changesRegs (.transferFwContinue a b c d e) [
      Reg.TELEM_BLK_OVF_OVF])
  ∧ (∀ a b c d e, changes (.transferFwEnd a b c d e) (fun s t => { s with
      regs := t.regs, out := t.out, keep := t.keep, imageOps := t.imageOps,
      mbox := { s.mbox with stored := t.mbox.stored, bg := t.mbox.bg },
      fw := { s.fw with transfer := t.fw.transfer, cmd := t.fw.cmd },
      telem := { s.telem with counts := t.telem.counts, bwRead := t.telem.bwRead } })
    ∧ changesRegs (.transferFwEnd a b c d e) [
      Reg.TELEM_BLK_OVF_OVF])
  ∧ (∀ a, changes (.transferFwAbort a) (fun s t => { s with
      regs := t.regs, out := t.out, keep := t.keep, imageOps := t.imageOps,
      chron := { s.chron with
        perm := t.chron.perm, ring := t.chron.ring, buffer := t.chron.buffer, nextSerial := t.chron.nextSerial,
        runs := t.chron.runs, dropped := t.chron.dropped },
      mbox := { s.mbox with stored := t.mbox.stored, bg := t.mbox.bg },
      fw := { s.fw with transfer := t.fw.transfer, cmd := t.fw.cmd },
      telem := { s.telem with counts := t.telem.counts, bwRead := t.telem.bwRead } })
    ∧ changesRegs (.transferFwAbort a) [
      Reg.CHRON_DROP_CNT, Reg.CHRON_REPEAT_CNT, Reg.TELEM_BLK_OVF_OVF])
  ∧ (∀ a b, changes (.activateFwOnline a b) (fun s t => { s with
      regs := t.regs, out := t.out, keep := t.keep, imageOps := t.imageOps,
      mbox := { s.mbox with stored := t.mbox.stored, bg := t.mbox.bg },
      fw := { s.fw with act := t.fw.act },
      telem := { s.telem with counts := t.telem.counts, bwRead := t.telem.bwRead } })
    ∧ changesRegs (.activateFwOnline a b) [
      Reg.TELEM_BLK_OVF_OVF])
  ∧ (∀ a b c, changes (.activateFwNextColdReset a b c) (fun s t => { s with
      regs := t.regs, out := t.out, keep := t.keep,
      chron := { s.chron with
        perm := t.chron.perm, ring := t.chron.ring, buffer := t.chron.buffer, nextSerial := t.chron.nextSerial,
        runs := t.chron.runs, dropped := t.chron.dropped },
      mbox := { s.mbox with stored := t.mbox.stored },
      telem := { s.telem with counts := t.telem.counts, bwRead := t.telem.bwRead } })
    ∧ changesRegs (.activateFwNextColdReset a b c) [
      Reg.CHRON_DROP_CNT, Reg.CHRON_REPEAT_CNT, Reg.TELEM_BLK_OVF_OVF])
  ∧ (∀ a b, changes (.activateAt a b) (fun s t => { s with
      regs := t.regs, out := t.out, keep := t.keep, imageOps := t.imageOps,
      mbox := { s.mbox with stored := t.mbox.stored, bg := t.mbox.bg },
      fw := { s.fw with act := t.fw.act },
      telem := { s.telem with counts := t.telem.counts, bwRead := t.telem.bwRead } })
    ∧ changesRegs (.activateAt a b) [
      Reg.TELEM_BLK_OVF_OVF])
  ∧ (changes .activationTakeEffect (fun s t => { s with
      regs := t.regs, out := t.out, keep := t.keep, chans := t.chans, img := t.img,
      chron := { s.chron with
        perm := t.chron.perm, ring := t.chron.ring, buffer := t.chron.buffer, nextSerial := t.chron.nextSerial,
        runs := t.chron.runs, dropped := t.chron.dropped },
      mbox := { s.mbox with stored := t.mbox.stored, bg := t.mbox.bg },
      sched := { s.sched with back := t.sched.back },
      fw := { s.fw with act := t.fw.act, oldBank := t.fw.oldBank, oldPrecond := t.fw.oldPrecond },
      telem := { s.telem with counts := t.telem.counts, bwRead := t.telem.bwRead } })
    ∧ changesRegs .activationTakeEffect [
      Reg.CHAN_STATUS_TBANK, Reg.CHRON_DROP_CNT, Reg.CHRON_REPEAT_CNT, Reg.ERR_PATROL_CFG_HORIZON,
      Reg.SCHED_STATUS_LAYOUT, Reg.TELEM_BLK_OVF_OVF, Reg.TOP_STATUS_RECOVERY])
  ∧ (changes .oldBankRelease (fun s t => { s with
      regs := t.regs, out := t.out, chans := t.chans,
      fw := { s.fw with oldBank := t.fw.oldBank, oldPrecond := t.fw.oldPrecond },
      telem := { s.telem with counts := t.telem.counts, bwRead := t.telem.bwRead } })
    ∧ changesRegs .oldBankRelease [
      Reg.TELEM_BLK_OVF_OVF])
  ∧ (∀ a, changes (.deviceReset a) (fun s t => { s with
      regs := t.regs, out := t.out, msixEn := t.msixEn, start := t.start, keep := t.keep, chron := t.chron,
      prot := t.prot, sessions := t.sessions, reqs := t.reqs, decoders := t.decoders, merge := t.merge,
      mbox := t.mbox, cache := t.cache, imageOps := t.imageOps, chans := t.chans, sched := t.sched,
      shelf := t.shelf, fw := t.fw, telem := t.telem, cfgSpace := t.cfgSpace, bar0 := t.bar0, d3 := t.d3 })
    ∧ changesRegs (.deviceReset a) [
      Reg.CHRON_DROP_CNT, Reg.CHRON_REPEAT_CNT, Reg.MERGE_STATUS_CAPO, Reg.PORT_EVENT_LINK_DOWN,
      Reg.PORT_LINKDOWN_CNT, Reg.PORT_LINK_STATUS0_FLIT, Reg.PORT_LINK_STATUS0_IDE, Reg.PORT_LINK_STATUS0_RATE,
      Reg.PORT_LINK_STATUS0_UP, Reg.PORT_LINK_STATUS0_WIDTH, Reg.PORT_LINK_STATUS1_FLIT, Reg.PORT_LINK_STATUS1_IDE,
      Reg.PORT_LINK_STATUS1_RATE, Reg.PORT_LINK_STATUS1_UP, Reg.PORT_LINK_STATUS1_WIDTH,
      Reg.SESS_SPILL_STATUS_SHARED_FREE, Reg.SHELF_ACT_STATUS_ACT, Reg.TELEM_BLK_OVF_OVF, Reg.TOP_STATUS_CAPO,
      Reg.TOP_STATUS_READY, Reg.TOP_STATUS_WARM_BUSY])
  ∧ (∀ a, changes (.topCtrlWarmReset a) (fun s t => { s with
      regs := t.regs, out := t.out, msixEn := t.msixEn, start := t.start, keep := t.keep, chron := t.chron,
      prot := t.prot, sessions := t.sessions, reqs := t.reqs, decoders := t.decoders, merge := t.merge,
      mbox := t.mbox, cache := t.cache, imageOps := t.imageOps, chans := t.chans, sched := t.sched,
      shelf := t.shelf, fw := t.fw, telem := t.telem, cfgSpace := t.cfgSpace, bar0 := t.bar0, d3 := t.d3 })
    ∧ changesRegs (.topCtrlWarmReset a) [
      Reg.CHRON_DROP_CNT, Reg.CHRON_REPEAT_CNT, Reg.MERGE_STATUS_CAPO, Reg.PORT_EVENT_LINK_DOWN,
      Reg.PORT_LINKDOWN_CNT, Reg.PORT_LINK_STATUS0_FLIT, Reg.PORT_LINK_STATUS0_IDE, Reg.PORT_LINK_STATUS0_RATE,
      Reg.PORT_LINK_STATUS0_UP, Reg.PORT_LINK_STATUS0_WIDTH, Reg.PORT_LINK_STATUS1_FLIT, Reg.PORT_LINK_STATUS1_IDE,
      Reg.PORT_LINK_STATUS1_RATE, Reg.PORT_LINK_STATUS1_UP, Reg.PORT_LINK_STATUS1_WIDTH,
      Reg.SESS_SPILL_STATUS_SHARED_FREE, Reg.SHELF_ACT_STATUS_ACT, Reg.TELEM_BLK_OVF_OVF, Reg.TOP_STATUS_CAPO,
      Reg.TOP_STATUS_READY, Reg.TOP_STATUS_WARM_BUSY])
  ∧ (∀ a, changes (.hbmTrainingComplete a) (fun s t => { s with
      regs := t.regs, clears := t.clears, free := t.free, out := t.out, msixEn := t.msixEn, intOwed := t.intOwed,
      pwr := t.pwr, start := t.start, keep := t.keep, chron := t.chron, events := t.events, prot := t.prot,
      sessions := t.sessions, reqs := t.reqs, nextRid := t.nextRid, share := t.share, decoders := t.decoders,
      merge := t.merge, mbox := t.mbox, cache := t.cache, internals := t.internals, imageOps := t.imageOps,
      ops := t.ops, deltas := t.deltas, chans := t.chans, sched := t.sched, xlat := t.xlat, err := t.err,
      img := t.img, shelf := t.shelf, fw := t.fw, telem := t.telem, cfgSpace := t.cfgSpace, bar0 := t.bar0,
      d3 := t.d3 }))
  ∧ (∀ a, changes (.imageSlotFlashComplete a) (fun s t => { s with
      regs := t.regs, out := t.out, keep := t.keep, imageOps := t.imageOps, chans := t.chans,
      chron := { s.chron with
        perm := t.chron.perm, ring := t.chron.ring, buffer := t.chron.buffer, nextSerial := t.chron.nextSerial,
        runs := t.chron.runs, dropped := t.chron.dropped },
      mbox := { s.mbox with stored := t.mbox.stored, bg := t.mbox.bg },
      fw := { s.fw with transfer := t.fw.transfer, cmd := t.fw.cmd, act := t.fw.act },
      telem := { s.telem with counts := t.telem.counts, bwRead := t.telem.bwRead } })
    ∧ changesRegs (.imageSlotFlashComplete a) [
      Reg.CHRON_DROP_CNT, Reg.CHRON_REPEAT_CNT, Reg.TELEM_BLK_OVF_OVF])

/-- What the commands leave unchanged: mailbox commands, dynamic capacity, registers and telemetry. For each command named
in the statement, with every operand and in every state: whenever it answers a next state, that state equals the one
before but for the parts that its clause lists, and, where its clause lists register fields, every register of another
field reads as before (TELEM_BLK_OVF is listed throughout, since any command can bring the event that wraps a
telemetry counter; regs, telem and out are the registers, the telemetry counters and the transcript). The queue is
never among the parts. (R333, R336, R353, R364, R369, R374) -/
def Obligations.MailboxAndTelemetryFrames : Prop :=
  (∀ a, changes (.identify a) (fun s t => { s with
      regs := t.regs, out := t.out,
      mbox := { s.mbox with stored := t.mbox.stored },
      telem := { s.telem with counts := t.telem.counts, bwRead := t.telem.bwRead } })
    ∧ changesRegs (.identify a) [
      Reg.TELEM_BLK_OVF_OVF])
  ∧ (∀ a, changes (.requestAbortBackgroundOperation a) (fun s t => { s with
      regs := t.regs, out := t.out,
      mbox := { s.mbox with stored := t.mbox.stored },
      err := { s.err with scrub := t.err.scrub },
      telem := { s.telem with counts := t.telem.counts, bwRead := t.telem.bwRead } })
    ∧ changesRegs (.requestAbortBackgroundOperation a) [
      Reg.TELEM_BLK_OVF_OVF])
  ∧ (∀ a b, changes (.getEventRecords a b) (fun s t => { s with
      regs := t.regs, out := t.out,
      mbox := { s.mbox with stored := t.mbox.stored },
      telem := { s.telem with counts := t.telem.counts, bwRead := t.telem.bwRead } })
    ∧ changesRegs (.getEventRecords a b) [
      Reg.TELEM_BLK_OVF_OVF])
  ∧ (∀ a b c d, changes (.clearEventRecords a b c d) (fun s t => { s with
      regs := t.regs, out := t.out, events := t.events,
      mbox := { s.mbox with stored := t.mbox.stored },
      telem := { s.telem with counts := t.telem.counts, bwRead := t.telem.bwRead } })
    ∧ changesRegs (.clearEventRecords a b c d) [
      Reg.TELEM_BLK_OVF_OVF])
  ∧ (∀ a, changes (.getEventInterruptPolicy a) (fun s t => { s with
      regs := t.regs, out := t.out,
      mbox := { s.mbox with stored := t.mbox.stored },
      telem := { s.telem with counts := t.telem.counts, bwRead := t.telem.bwRead } })
    ∧ changesRegs (.getEventInterruptPolicy a) [
      Reg.TELEM_BLK_OVF_OVF])
  ∧ (∀ a b, changes (.setEventInterruptPolicy a b) (fun s t => { s with
      regs := t.regs, out := t.out,
      events := { s.events with policy := t.events.policy },
      mbox := { s.mbox with stored := t.mbox.stored },
      telem := { s.telem with counts := t.telem.counts, bwRead := t.telem.bwRead } })
    ∧ changesRegs (.setEventInterruptPolicy a b) [
      Reg.TELEM_BLK_OVF_OVF])
  ∧ (∀ a, changes (.getFwInfo a) (fun s t => { s with
      regs := t.regs, out := t.out,
      mbox := { s.mbox with stored := t.mbox.stored },
      telem := { s.telem with counts := t.telem.counts, bwRead := t.telem.bwRead } })
    ∧ changesRegs (.getFwInfo a) [
      Reg.TELEM_BLK_OVF_OVF])
  ∧ (∀ a, changes (.getTimestamp a) (fun s t => { s with
      regs := t.regs, out := t.out,
      mbox := { s.mbox with stored := t.mbox.stored },
      telem := { s.telem with counts := t.telem.counts, bwRead := t.telem.bwRead } })
    ∧ changesRegs (.getTimestamp a) [
      Reg.TELEM_BLK_OVF_OVF])
  ∧ (∀ a b, changes (.setTimestamp a b) (fun s t => { s with
      regs := t.regs, out := t.out,
      mbox := { s.mbox with stored := t.mbox.stored, wall := t.mbox.wall },
      telem := { s.telem with counts := t.telem.counts, bwRead := t.telem.bwRead } })
    ∧ changesRegs (.setTimestamp a b) [
      Reg.TELEM_BLK_OVF_OVF])
  ∧ (∀ a, changes (.getSupportedLogs a) (fun s t => { s with
      regs := t.regs, out := t.out,
      mbox := { s.mbox with stored := t.mbox.stored },
      telem := { s.telem with counts := t.telem.counts, bwRead := t.telem.bwRead } })
    ∧ changesRegs (.getSupportedLogs a) [
      Reg.TELEM_BLK_OVF_OVF])
  ∧ (∀ a, changes (.getLog a) (fun s t => { s with
      regs := t.regs, out := t.out,
      mbox := { s.mbox with stored := t.mbox.stored },
      telem := { s.telem with counts := t.telem.counts, bwRead := t.telem.bwRead } })
    ∧ changesRegs (.getLog a) [
      Reg.TELEM_BLK_OVF_OVF])
  ∧ (∀ a, changes (.identifyMemoryDevice a) (fun s t => { s with
      regs := t.regs, out := t.out,
      mbox := { s.mbox with stored := t.mbox.stored },
      telem := { s.telem with counts := t.telem.counts, bwRead := t.telem.bwRead } })
    ∧ changesRegs (.identifyMemoryDevice a) [
      Reg.TELEM_BLK_OVF_OVF])
  ∧ (∀ a, changes (.getPartitionInfo a) (fun s t => { s with
      regs := t.regs, out := t.out,
      mbox := { s.mbox with stored := t.mbox.stored },
      telem := { s.telem with counts := t.telem.counts, bwRead := t.telem.bwRead } })
    ∧ changesRegs (.getPartitionInfo a) [
      Reg.TELEM_BLK_OVF_OVF])
  ∧ (∀ a b, changes (.unsupportedCommand a b) (fun s t => { s with
      regs := t.regs, out := t.out,
      mbox := { s.mbox with stored := t.mbox.stored },
      telem := { s.telem with counts := t.telem.counts, bwRead := t.telem.bwRead } })
    ∧ changesRegs (.unsupportedCommand a b) [
      Reg.TELEM_BLK_OVF_OVF])
  ∧ (∀ a, changes (.getHealthInfo a) (fun s t => { s with
      regs := t.regs, out := t.out,
      mbox := { s.mbox with stored := t.mbox.stored },
      telem := { s.telem with counts := t.telem.counts, bwRead := t.telem.bwRead } })
    ∧ changesRegs (.getHealthInfo a) [
      Reg.TELEM_BLK_OVF_OVF])
  ∧ (∀ a, changes (.getAlertConfiguration a) (fun s t => { s with
      regs := t.regs, out := t.out,
      mbox := { s.mbox with stored := t.mbox.stored },
      telem := { s.telem with counts := t.telem.counts, bwRead := t.telem.bwRead } })
    ∧ changesRegs (.getAlertConfiguration a) [
      Reg.TELEM_BLK_OVF_OVF])
  ∧ (∀ a b, changes (.setAlertConfiguration a b) (fun s t => { s with
      regs := t.regs, out := t.out,
      mbox := { s.mbox with stored := t.mbox.stored, alerts := t.mbox.alerts },
      telem := { s.telem with counts := t.telem.counts, bwRead := t.telem.bwRead } })
    ∧ changesRegs (.setAlertConfiguration a b) [
      Reg.TELEM_BLK_OVF_OVF])
  ∧ (∀ a, changes (.getShutdownState a) (fun s t => { s with
      regs := t.regs, out := t.out,
      mbox := { s.mbox with stored := t.mbox.stored },
      telem := { s.telem with counts := t.telem.counts, bwRead := t.telem.bwRead } })
    ∧ changesRegs (.getShutdownState a) [
      Reg.TELEM_BLK_OVF_OVF])
  ∧ (∀ a b, changes (.setShutdownState a b) (fun s t => { s with
      regs := t.regs, out := t.out,
      mbox := { s.mbox with stored := t.mbox.stored, shutdown := t.mbox.shutdown },
      telem := { s.telem with counts := t.telem.counts, bwRead := t.telem.bwRead } })
    ∧ changesRegs (.setShutdownState a b) [
      Reg.TELEM_BLK_OVF_OVF])
  ∧ (∀ a b c, changes (.getPoisonList a b c) (fun s t => { s with
      regs := t.regs, out := t.out,
      mbox := { s.mbox with stored := t.mbox.stored },
      telem := { s.telem with counts := t.telem.counts, bwRead := t.telem.bwRead } })
    ∧ changesRegs (.getPoisonList a b c) [
      Reg.TELEM_BLK_OVF_OVF])
  ∧ (∀ a, changes (.getScanMediaResults a) (fun s t => { s with
      regs := t.regs, out := t.out,
      mbox := { s.mbox with stored := t.mbox.stored },
      telem := { s.telem with counts := t.telem.counts, bwRead := t.telem.bwRead } })
    ∧ changesRegs (.getScanMediaResults a) [
      Reg.TELEM_BLK_OVF_OVF])
  ∧ (∀ a, changes (.getDynamicCapacityConfiguration a) (fun s t => { s with
      regs := t.regs, out := t.out,
      mbox := { s.mbox with stored := t.mbox.stored },
      telem := { s.telem with counts := t.telem.counts, bwRead := t.telem.bwRead } })
    ∧ changesRegs (.getDynamicCapacityConfiguration a) [
      Reg.TELEM_BLK_OVF_OVF])
  ∧ (∀ a, changes (.getDynamicCapacityExtentList a) (fun s t => { s with
      regs := t.regs, out := t.out,
      mbox := { s.mbox with stored := t.mbox.stored },
      telem := { s.telem with counts := t.telem.counts, bwRead := t.telem.bwRead } })
    ∧ changesRegs (.getDynamicCapacityExtentList a) [
      Reg.TELEM_BLK_OVF_OVF])
  ∧ (∀ a b, changes (.addDynamicCapacityResponse a b) (fun s t => { s with
      regs := t.regs, out := t.out, sessions := t.sessions,
      mbox := { s.mbox with stored := t.mbox.stored },
      telem := { s.telem with counts := t.telem.counts, bwRead := t.telem.bwRead } })
    ∧ changesRegs (.addDynamicCapacityResponse a b) [
      Reg.TELEM_BLK_OVF_OVF])
  ∧ (∀ a b, changes (.releaseDynamicCapacity a b) (fun s t => { s with
      regs := t.regs, out := t.out, sessions := t.sessions,
      mbox := { s.mbox with stored := t.mbox.stored },
      cache := { s.cache with
        host := t.cache.host, snoops := t.cache.snoops, clock := t.cache.clock, biCredits := t.cache.biCredits },
      telem := { s.telem with counts := t.telem.counts, bwRead := t.telem.bwRead } })
    ∧ changesRegs (.releaseDynamicCapacity a b) [
      Reg.DIR_BCAST_CNT, Reg.DIR_BISNP_CNT, Reg.DIR_EVBUF_USED, Reg.DIR_HOST_OVF_ENTRIES,
      Reg.DIR_HOST_STATUS_ENTRIES, Reg.TELEM_BLK_OVF_OVF])
  ∧ (∀ a b c d e, changes (.setDcRegionConfiguration a b c d e) (fun s t => { s with
      regs := t.regs, out := t.out, dc := t.dc,
      mbox := { s.mbox with stored := t.mbox.stored },
      telem := { s.telem with counts := t.telem.counts, bwRead := t.telem.bwRead } })
    ∧ changesRegs (.setDcRegionConfiguration a b c d e) [
      Reg.TELEM_BLK_OVF_OVF])
  ∧ (∀ a, changes (.getDcRegionConfiguration a) (fun s t => { s with
      regs := t.regs, out := t.out,
      mbox := { s.mbox with stored := t.mbox.stored },
      telem := { s.telem with counts := t.telem.counts, bwRead := t.telem.bwRead } })
    ∧ changesRegs (.getDcRegionConfiguration a) [
      Reg.TELEM_BLK_OVF_OVF])
  ∧ (∀ a b c d, changes (.initiateDynamicCapacityAdd a b c d) (fun s t => { s with
      regs := t.regs, out := t.out, events := t.events, sessions := t.sessions,
      chron := { s.chron with
        perm := t.chron.perm, ring := t.chron.ring, buffer := t.chron.buffer, nextSerial := t.chron.nextSerial,
        runs := t.chron.runs, dropped := t.chron.dropped },
      mbox := { s.mbox with stored := t.mbox.stored },
      telem := { s.telem with counts := t.telem.counts, bwRead := t.telem.bwRead } })
    ∧ changesRegs (.initiateDynamicCapacityAdd a b c d) [
      Reg.CHRON_DROP_CNT, Reg.CHRON_REPEAT_CNT, Reg.TELEM_BLK_OVF_OVF])
  ∧ (∀ a b c, changes (.initiateDynamicCapacityRelease a b c) (fun s t => { s with
      regs := t.regs, out := t.out, events := t.events, sessions := t.sessions,
      chron := { s.chron with
        perm := t.chron.perm, ring := t.chron.ring, buffer := t.chron.buffer, nextSerial := t.chron.nextSerial,
        runs := t.chron.runs, dropped := t.chron.dropped },
      mbox := { s.mbox with stored := t.mbox.stored },
      cache := { s.cache with
        host := t.cache.host, snoops := t.cache.snoops, clock := t.cache.clock, biCredits := t.cache.biCredits },
      telem := { s.telem with counts := t.telem.counts, bwRead := t.telem.bwRead } })
    ∧ changesRegs (.initiateDynamicCapacityRelease a b c) [
      Reg.CHRON_DROP_CNT, Reg.CHRON_REPEAT_CNT, Reg.DIR_BCAST_CNT, Reg.DIR_BISNP_CNT, Reg.DIR_EVBUF_USED,
      Reg.DIR_HOST_OVF_ENTRIES, Reg.DIR_HOST_STATUS_ENTRIES, Reg.TELEM_BLK_OVF_OVF])
  ∧ (∀ a, changes (.kekRead a) (fun s t => { s with
      regs := t.regs, out := t.out,
      mbox := { s.mbox with stored := t.mbox.stored },
      telem := { s.telem with counts := t.telem.counts, bwRead := t.telem.bwRead } })
    ∧ changesRegs (.kekRead a) [
      Reg.TELEM_BLK_OVF_OVF])
  ∧ (∀ a b, changes (.keepRead a b) (fun s t => { s with
      regs := t.regs, out := t.out,
      mbox := { s.mbox with stored := t.mbox.stored },
      telem := { s.telem with counts := t.telem.counts, bwRead := t.telem.bwRead } })
    ∧ changesRegs (.keepRead a b) [
      Reg.TELEM_BLK_OVF_OVF])
  ∧ (∀ a b c d, changes (.chronicleRead a b c d) (fun s t => { s with
      regs := t.regs, out := t.out,
      mbox := { s.mbox with stored := t.mbox.stored },
      telem := { s.telem with counts := t.telem.counts, bwRead := t.telem.bwRead } })
    ∧ changesRegs (.chronicleRead a b c d) [
      Reg.CHRON_TORN_CNT, Reg.TELEM_BLK_OVF_OVF])
  ∧ (∀ a, changes (.telemetryStatus a) (fun s t => { s with
      regs := t.regs, out := t.out,
      mbox := { s.mbox with stored := t.mbox.stored },
      telem := { s.telem with counts := t.telem.counts, bwRead := t.telem.bwRead } })
    ∧ changesRegs (.telemetryStatus a) [
      Reg.TELEM_BLK_OVF_OVF])
  ∧ (∀ a b, changes (.telemetryPeriod a b) (fun s t => { s with
      regs := t.regs, out := t.out,
      mbox := { s.mbox with stored := t.mbox.stored },
      telem := { s.telem with counts := t.telem.counts, bwRead := t.telem.bwRead } })
    ∧ changesRegs (.telemetryPeriod a b) [
      Reg.TELEM_BLK_OVF_OVF, Reg.TELEM_SNAP_CFG_PERIOD])
  ∧ (∀ a, changes (.telemetrySnapshot a) (fun s t => { s with
      regs := t.regs, out := t.out,
      mbox := { s.mbox with stored := t.mbox.stored },
      telem := { s.telem with
        counts := t.telem.counts, bwRead := t.telem.bwRead, snapAsked := t.telem.snapAsked,
        snapWait := t.telem.snapWait } })
    ∧ changesRegs (.telemetrySnapshot a) [
      Reg.TELEM_BLK_OVF_OVF])
  ∧ (∀ a, changes (.telemetryClear a) (fun s t => { s with
      regs := t.regs, clears := t.clears, out := t.out,
      mbox := { s.mbox with stored := t.mbox.stored },
      telem := { s.telem with counts := t.telem.counts, bwRead := t.telem.bwRead } })
    ∧ changesRegs (.telemetryClear a) [
      Reg.TELEM_BLK_OVF_OVF])
  ∧ (∀ a b, changes (.telemetryFreeze a b) (fun s t => { s with
      regs := t.regs, out := t.out,
      mbox := { s.mbox with stored := t.mbox.stored },
      telem := { s.telem with counts := t.telem.counts, bwRead := t.telem.bwRead } })
    ∧ changesRegs (.telemetryFreeze a b) [
      Reg.TELEM_BLK_OVF_OVF, Reg.TELEM_CTRL_FREEZE])
  ∧ (∀ a b, changes (.telemetryWindow a b) (fun s t => { s with
      regs := t.regs, out := t.out,
      mbox := { s.mbox with stored := t.mbox.stored },
      telem := { s.telem with
        counts := t.telem.counts, bwRead := t.telem.bwRead, bwWrite := t.telem.bwWrite, bwK := t.telem.bwK,
        bwStart := t.telem.bwStart } })
    ∧ changesRegs (.telemetryWindow a b) [
      Reg.TELEM_BLK_OVF_OVF, Reg.TELEM_BW_CFG_K])
  ∧ (∀ a b, changes (.telemetrySelect a b) (fun s t => { s with
      regs := t.regs, out := t.out,
      mbox := { s.mbox with stored := t.mbox.stored },
      telem := { s.telem with cfgDue := t.telem.cfgDue, counts := t.telem.counts, bwRead := t.telem.bwRead } })
    ∧ changesRegs (.telemetrySelect a b) [
      Reg.TELEM_BLK_OVF_OVF, Reg.TELEM_EVT_CFG_EVENT, Reg.TELEM_EVT_CFG_FILTER, Reg.TELEM_EVT_CFG_FILTER_EN,
      Reg.TELEM_EVT_CFG_MODE, Reg.TELEM_STATUS_CFG_REJECT])
  ∧ (∀ a, changes (.telemCtrlClr a) (fun s t => { s with
      regs := t.regs, clears := t.clears, out := t.out,
      telem := { s.telem with counts := t.telem.counts, bwRead := t.telem.bwRead } })
    ∧ changesRegs (.telemCtrlClr a) [
      Reg.TELEM_BLK_OVF_OVF, Reg.TELEM_CTRL_FREEZE])
  ∧ (∀ a, changes (.telemCtrlFreeze a) (fun s t => { s with
      regs := t.regs, clears := t.clears, out := t.out,
      telem := { s.telem with counts := t.telem.counts, bwRead := t.telem.bwRead } })
    ∧ changesRegs (.telemCtrlFreeze a) [
      Reg.TELEM_BLK_OVF_OVF, Reg.TELEM_CTRL_FREEZE])
  ∧ (∀ a, changes (.telemSnapNow a) (fun s t => { s with
      regs := t.regs, out := t.out,
      telem := { s.telem with
        counts := t.telem.counts, bwRead := t.telem.bwRead, snapAsked := t.telem.snapAsked } })
    ∧ changesRegs (.telemSnapNow a) [
      Reg.TELEM_BLK_OVF_OVF])
  ∧ (∀ a b c, changes (.telemEvtCfgWrite a b c) (fun s t => { s with
      regs := t.regs, out := t.out,
      telem := { s.telem with cfgDue := t.telem.cfgDue, counts := t.telem.counts, bwRead := t.telem.bwRead } })
    ∧ changesRegs (.telemEvtCfgWrite a b c) [
      Reg.TELEM_BLK_OVF_OVF, Reg.TELEM_EVT_CFG_EVENT, Reg.TELEM_EVT_CFG_FILTER, Reg.TELEM_EVT_CFG_FILTER_EN,
      Reg.TELEM_EVT_CFG_MODE, Reg.TELEM_STATUS_CFG_REJECT])
  ∧ (∀ a, changes (.telemBwCfgWrite a) (fun s t => { s with
      regs := t.regs, out := t.out,
      telem := { s.telem with
        counts := t.telem.counts, bwRead := t.telem.bwRead, bwWrite := t.telem.bwWrite, bwK := t.telem.bwK,
        bwStart := t.telem.bwStart } })
    ∧ changesRegs (.telemBwCfgWrite a) [
      Reg.TELEM_BLK_OVF_OVF, Reg.TELEM_BW_CFG_K, Reg.TELEM_STATUS_CFG_REJECT])
  ∧ (∀ a b c, changes (.telemWindowRead a b c) (fun s t => { s with
      regs := t.regs, out := t.out, events := t.events,
      chron := { s.chron with
        perm := t.chron.perm, ring := t.chron.ring, buffer := t.chron.buffer, nextSerial := t.chron.nextSerial,
        runs := t.chron.runs, dropped := t.chron.dropped },
      telem := { s.telem with counts := t.telem.counts, bwRead := t.telem.bwRead, ring := t.telem.ring } })
    ∧ changesRegs (.telemWindowRead a b c) [
      Reg.CHRON_DROP_CNT, Reg.CHRON_REPEAT_CNT, Reg.ERR_BUCKET_STATUS_LEVEL, Reg.ERR_BUCKET_STATUS_OVF_CNT,
      Reg.ERR_CORR_VOL_CNT, Reg.ERR_HEALTH_EVENT_BUCKET_OVF, Reg.TELEM_BLK_OVF_OVF])
  ∧ (∀ a b, changes (.telemCntLoRead a b) (fun s t => { s with
      regs := t.regs, out := t.out,
      telem := { s.telem with counts := t.telem.counts, bwRead := t.telem.bwRead } })
    ∧ changesRegs (.telemCntLoRead a b) [
      Reg.TELEM_BLK_OVF_OVF, Reg.TELEM_CNT_HI_COUNT_HI])
  ∧ (∀ a, changes (.telemCycLoRead a) (fun s t => { s with
      regs := t.regs, out := t.out,
      telem := { s.telem with counts := t.telem.counts, bwRead := t.telem.bwRead } })
    ∧ changesRegs (.telemCycLoRead a) [
      Reg.TELEM_BLK_OVF_OVF, Reg.TELEM_CYC_HI_CYC_HI])
  ∧ (∀ a, changes (.topIntMaskWrite a) (fun s t => { s with
      regs := t.regs, out := t.out, intOwed := t.intOwed,
      telem := { s.telem with counts := t.telem.counts, bwRead := t.telem.bwRead } })
    ∧ changesRegs (.topIntMaskWrite a) [
      Reg.TELEM_BLK_OVF_OVF, Reg.TOP_INT_MASK_MASK])
  ∧ (∀ a b, changes (.rwmWriteReject a b) (fun s t => { s with
      regs := t.regs, out := t.out,
      telem := { s.telem with counts := t.telem.counts, bwRead := t.telem.bwRead } })
    ∧ changesRegs (.rwmWriteReject a b) [
      Reg.ERR_RWM_REJECT, Reg.TELEM_BLK_OVF_OVF])
  ∧ (∀ a b c, changes (.bar2AccessError a b c) (fun s t => { s with
      regs := t.regs, out := t.out,
      telem := { s.telem with counts := t.telem.counts, bwRead := t.telem.bwRead } })
    ∧ changesRegs (.bar2AccessError a b c) [
      Reg.TELEM_BLK_OVF_OVF, Reg.TOP_STATUS_ACCESS_ERR])
  ∧ (∀ a b, changes (.registerWrite a b) (fun s t => { s with
      regs := t.regs, out := t.out, msixEn := t.msixEn, decoders := t.decoders, shelf := t.shelf,
      cfgSpace := t.cfgSpace, bar0 := t.bar0, d3 := t.d3,
      chron := { s.chron with
        perm := t.chron.perm, ring := t.chron.ring, buffer := t.chron.buffer, nextSerial := t.chron.nextSerial,
        runs := t.chron.runs, dropped := t.chron.dropped },
      mbox := { s.mbox with stored := t.mbox.stored, bg := t.mbox.bg },
      telem := { s.telem with counts := t.telem.counts, bwRead := t.telem.bwRead } }))
  ∧ (changes .snapshotRecordWritten (fun s t => { s with
      regs := t.regs, out := t.out,
      telem := { s.telem with
        counts := t.telem.counts, bwRead := t.telem.bwRead, head := t.telem.head, shadow := t.telem.shadow,
        dropped := t.telem.dropped, ring := t.telem.ring } })
    ∧ changesRegs .snapshotRecordWritten [
      Reg.TELEM_BLK_OVF_OVF, Reg.TELEM_SNAP_HEAD_LO_SEQ_LO])
  ∧ (changes .bandwidthWindowEnd (fun s t => { s with
      regs := t.regs, out := t.out,
      telem := { s.telem with
        counts := t.telem.counts, bwRead := t.telem.bwRead, bwWrite := t.telem.bwWrite, bwStart := t.telem.bwStart,
        bwHeld := t.telem.bwHeld, bwHeldK := t.telem.bwHeldK } })
    ∧ changesRegs .bandwidthWindowEnd [
      Reg.TELEM_BLK_OVF_OVF, Reg.TELEM_BW_READ_LINES, Reg.TELEM_BW_WINDOW_LO_STROKE_LO, Reg.TELEM_BW_WRITE_LINES])
  ∧ (changes .telemSnapHeadLoRead (fun s t => { s with
      regs := t.regs, out := t.out,
      telem := { s.telem with counts := t.telem.counts, bwRead := t.telem.bwRead } })
    ∧ changesRegs .telemSnapHeadLoRead [
      Reg.TELEM_BLK_OVF_OVF, Reg.TELEM_SNAP_HEAD_HI_SEQ_HI])
  ∧ (changes .telemBwWindowLoRead (fun s t => { s with
      regs := t.regs, out := t.out,
      telem := { s.telem with counts := t.telem.counts, bwRead := t.telem.bwRead } })
    ∧ changesRegs .telemBwWindowLoRead [
      Reg.TELEM_BLK_OVF_OVF, Reg.TELEM_BW_WINDOW_HI_STROKE_HI])

/-- What the commands leave unchanged: the shelf: workers, manager and operator commands. For each command named in the
statement, with every operand and in every state: whenever it answers a next state, that state equals the one before
but for the parts that its clause lists, and, where its clause lists register fields, every register of another field
reads as before (TELEM_BLK_OVF is listed throughout, since any command can bring the event that wraps a telemetry
counter; regs, telem and out are the registers, the telemetry counters and the transcript). The queue is never among
the parts. (R309, R314, R316, R320, R322, R327) -/
def Obligations.ShelfFrames : Prop :=
  (∀ a, changes (.beacon a) (fun s t => { s with
      regs := t.regs, out := t.out, keep := t.keep, imageOps := t.imageOps, chans := t.chans, shelf := t.shelf,
      chron := { s.chron with
        perm := t.chron.perm, ring := t.chron.ring, buffer := t.chron.buffer, nextSerial := t.chron.nextSerial,
        runs := t.chron.runs, dropped := t.chron.dropped },
      mbox := { s.mbox with stored := t.mbox.stored, bg := t.mbox.bg },
      fw := { s.fw with act := t.fw.act },
      telem := { s.telem with counts := t.telem.counts, bwRead := t.telem.bwRead } })
    ∧ changesRegs (.beacon a) [
      Reg.CHRON_DROP_CNT, Reg.CHRON_REPEAT_CNT, Reg.PWR_STATUS_SLOT_WAIT, Reg.SHELF_ACT_STATUS_ACT,
      Reg.SHELF_ACT_STATUS_DECISION, Reg.SHELF_DETUNE_EPOCH_HIGH, Reg.SHELF_DETUNE_IMAGE_CLASS,
      Reg.SHELF_DETUNE_POS_CONFLICT, Reg.SHELF_DETUNE_TIME, Reg.SHELF_FRAME_CNT, Reg.SHELF_MEMBERS_POS,
      Reg.SHELF_POINT_DONE_POS, Reg.SHELF_POINT_EXCL_POS, Reg.SHELF_POINT_NOANS_POS, Reg.SHELF_POINT_PARTIAL_POS,
      Reg.SHELF_STATUS_CONTACT, Reg.SHELF_STATUS_MANAGER, Reg.SHELF_STATUS_TIME_STATE, Reg.TELEM_BLK_OVF_OVF])
  ∧ (∀ a, changes (.statusFrame a) (fun s t => { s with
      regs := t.regs, out := t.out, shelf := t.shelf,
      chron := { s.chron with
        perm := t.chron.perm, ring := t.chron.ring, buffer := t.chron.buffer, nextSerial := t.chron.nextSerial,
        runs := t.chron.runs, dropped := t.chron.dropped },
      mbox := { s.mbox with stored := t.mbox.stored, bg := t.mbox.bg },
      telem := { s.telem with counts := t.telem.counts, bwRead := t.telem.bwRead } })
    ∧ changesRegs (.statusFrame a) [
      Reg.CHRON_DROP_CNT, Reg.CHRON_REPEAT_CNT, Reg.PWR_STATUS_SLOT_WAIT, Reg.SHELF_DETUNE_POS_CONFLICT,
      Reg.SHELF_DETUNE_TIME, Reg.SHELF_FRAME_CNT, Reg.SHELF_MEMBERS_POS, Reg.SHELF_POINT_DONE_POS,
      Reg.SHELF_POINT_EXCL_POS, Reg.SHELF_POINT_NOANS_POS, Reg.SHELF_POINT_PARTIAL_POS, Reg.SHELF_STATUS_CONTACT,
      Reg.SHELF_STATUS_MANAGER, Reg.SHELF_STATUS_TIME_STATE, Reg.TELEM_BLK_OVF_OVF])
  ∧ (changes .contactLoss (fun s t => { s with
      regs := t.regs, out := t.out, shelf := t.shelf,
      chron := { s.chron with
        perm := t.chron.perm, ring := t.chron.ring, buffer := t.chron.buffer, nextSerial := t.chron.nextSerial,
        runs := t.chron.runs, dropped := t.chron.dropped },
      telem := { s.telem with counts := t.telem.counts, bwRead := t.telem.bwRead } })
    ∧ changesRegs .contactLoss [
      Reg.CHRON_DROP_CNT, Reg.CHRON_REPEAT_CNT, Reg.PWR_STATUS_SLOT_WAIT, Reg.SHELF_DETUNE_TIME,
      Reg.SHELF_STATUS_CONTACT, Reg.SHELF_STATUS_TIME_STATE, Reg.TELEM_BLK_OVF_OVF])
  ∧ (∀ a, changes (.memberDropout a) (fun s t => { s with
      regs := t.regs, out := t.out, shelf := t.shelf,
      mbox := { s.mbox with stored := t.mbox.stored, bg := t.mbox.bg },
      telem := { s.telem with counts := t.telem.counts, bwRead := t.telem.bwRead } })
    ∧ changesRegs (.memberDropout a) [
      Reg.TELEM_BLK_OVF_OVF])
  ∧ (changes .managerListenEnd (fun s t => { s with
      regs := t.regs, out := t.out, shelf := t.shelf,
      chron := { s.chron with
        perm := t.chron.perm, ring := t.chron.ring, buffer := t.chron.buffer, nextSerial := t.chron.nextSerial,
        runs := t.chron.runs, dropped := t.chron.dropped },
      telem := { s.telem with counts := t.telem.counts, bwRead := t.telem.bwRead } })
    ∧ changesRegs .managerListenEnd [
      Reg.CHRON_DROP_CNT, Reg.CHRON_REPEAT_CNT, Reg.SHELF_DETUNE_EPOCH_HIGH, Reg.SHELF_DETUNE_IMAGE_CLASS,
      Reg.SHELF_DETUNE_TIME, Reg.SHELF_STATUS_CONTACT, Reg.SHELF_STATUS_MANAGER, Reg.SHELF_STATUS_TIME_STATE,
      Reg.TELEM_BLK_OVF_OVF])
  ∧ (∀ a b c, changes (.shlSyncPulse a b c) (fun s t => { s with
      regs := t.regs, out := t.out, shelf := t.shelf,
      chron := { s.chron with
        perm := t.chron.perm, ring := t.chron.ring, buffer := t.chron.buffer, nextSerial := t.chron.nextSerial,
        runs := t.chron.runs, dropped := t.chron.dropped },
      telem := { s.telem with counts := t.telem.counts, bwRead := t.telem.bwRead } })
    ∧ changesRegs (.shlSyncPulse a b c) [
      Reg.CHRON_DROP_CNT, Reg.CHRON_REPEAT_CNT, Reg.SHELF_DETUNE_TIME, Reg.SHELF_PHASE_ERR_CCLK,
      Reg.SHELF_STATUS_TIME_STATE, Reg.SHELF_SYNC_IGNORE_CNT, Reg.TELEM_BLK_OVF_OVF])
  ∧ (changes .timeLockLoss (fun s t => { s with
      regs := t.regs, out := t.out, shelf := t.shelf,
      chron := { s.chron with
        perm := t.chron.perm, ring := t.chron.ring, buffer := t.chron.buffer, nextSerial := t.chron.nextSerial,
        runs := t.chron.runs, dropped := t.chron.dropped },
      telem := { s.telem with counts := t.telem.counts, bwRead := t.telem.bwRead } })
    ∧ changesRegs .timeLockLoss [
      Reg.CHRON_DROP_CNT, Reg.CHRON_REPEAT_CNT, Reg.SHELF_DETUNE_TIME, Reg.SHELF_STATUS_TIME_STATE,
      Reg.TELEM_BLK_OVF_OVF])
  ∧ (∀ a b c, changes (.config a b c) (fun s t => { s with
      regs := t.regs, out := t.out, shelf := t.shelf,
      chron := { s.chron with
        perm := t.chron.perm, ring := t.chron.ring, buffer := t.chron.buffer, nextSerial := t.chron.nextSerial,
        runs := t.chron.runs, dropped := t.chron.dropped },
      telem := { s.telem with counts := t.telem.counts, bwRead := t.telem.bwRead } })
    ∧ changesRegs (.config a b c) [
      Reg.CHRON_DROP_CNT, Reg.CHRON_REPEAT_CNT, Reg.SHELF_DETUNE_INTERLEAVE, Reg.SHELF_DUP_CNT,
      Reg.SHELF_FRAME_CNT, Reg.SHELF_ILV_STATUS_SET_ID, Reg.SHELF_ILV_STATUS_VALID, Reg.TELEM_BLK_OVF_OVF])
  ∧ (∀ a b c d, changes (.ilvRecord a b c d) (fun s t => { s with
      regs := t.regs, out := t.out, shelf := t.shelf,
      telem := { s.telem with counts := t.telem.counts, bwRead := t.telem.bwRead } })
    ∧ changesRegs (.ilvRecord a b c d) [
      Reg.SHELF_DUP_CNT, Reg.SHELF_FRAME_CNT, Reg.TELEM_BLK_OVF_OVF])
  ∧ (∀ a b, changes (.slotGrant a b) (fun s t => { s with
      regs := t.regs, out := t.out, shelf := t.shelf,
      telem := { s.telem with counts := t.telem.counts, bwRead := t.telem.bwRead } })
    ∧ changesRegs (.slotGrant a b) [
      Reg.SHELF_DUP_CNT, Reg.SHELF_FRAME_CNT, Reg.TELEM_BLK_OVF_OVF])
  ∧ (∀ a b, changes (.powerOff a b) (fun s t => { s with
      regs := t.regs, out := t.out, shelf := t.shelf,
      pwr := { s.pwr with offStroke := t.pwr.offStroke },
      telem := { s.telem with counts := t.telem.counts, bwRead := t.telem.bwRead } })
    ∧ changesRegs (.powerOff a b) [
      Reg.SHELF_DUP_CNT, Reg.SHELF_FRAME_CNT, Reg.TELEM_BLK_OVF_OVF])
  ∧ (changes .powerOffStroke (fun s t => { s with
      regs := t.regs, clears := t.clears, out := t.out, msixEn := t.msixEn, intOwed := t.intOwed, pwr := t.pwr,
      start := t.start, keep := t.keep, chron := t.chron, events := t.events, prot := t.prot,
      sessions := t.sessions, reqs := t.reqs, nextRid := t.nextRid, share := t.share, decoders := t.decoders,
      merge := t.merge, mbox := t.mbox, cache := t.cache, internals := t.internals, imageOps := t.imageOps,
      ops := t.ops, deltas := t.deltas, chans := t.chans, sched := t.sched, xlat := t.xlat, err := t.err,
      img := t.img, shelf := t.shelf, fw := t.fw, telem := t.telem, cfgSpace := t.cfgSpace, bar0 := t.bar0,
      d3 := t.d3 }))
  ∧ (∀ a, changes (.powerOn a) (fun s t => { s with
      regs := t.regs, out := t.out, shelf := t.shelf,
      pwr := { s.pwr with keptOn := t.pwr.keptOn },
      telem := { s.telem with counts := t.telem.counts, bwRead := t.telem.bwRead } })
    ∧ changesRegs (.powerOn a) [
      Reg.SHELF_DUP_CNT, Reg.SHELF_FRAME_CNT, Reg.TELEM_BLK_OVF_OVF])
  ∧ (∀ a b, changes (.persist a b) (fun s t => { s with
      regs := t.regs, out := t.out, shelf := t.shelf,
      merge := { s.merge with points := t.merge.points },
      telem := { s.telem with counts := t.telem.counts, bwRead := t.telem.bwRead } })
    ∧ changesRegs (.persist a b) [
      Reg.MERGE_STATUS_POINTS, Reg.SHELF_DUP_CNT, Reg.SHELF_FRAME_CNT, Reg.TELEM_BLK_OVF_OVF])
  ∧ (∀ a b c, changes (.actPrepare a b c) (fun s t => { s with
      regs := t.regs, out := t.out, keep := t.keep, imageOps := t.imageOps, chans := t.chans, shelf := t.shelf,
      fw := { s.fw with act := t.fw.act },
      telem := { s.telem with counts := t.telem.counts, bwRead := t.telem.bwRead } })
    ∧ changesRegs (.actPrepare a b c) [
      Reg.SHELF_ACT_STATUS_ACT, Reg.SHELF_ACT_STATUS_DECISION, Reg.SHELF_ACT_STATUS_LATE, Reg.SHELF_DUP_CNT,
      Reg.SHELF_FRAME_CNT, Reg.TELEM_BLK_OVF_OVF])
  ∧ (∀ a, changes (.release a) (fun s t => { s with
      regs := t.regs, out := t.out, shelf := t.shelf,
      chron := { s.chron with
        perm := t.chron.perm, ring := t.chron.ring, buffer := t.chron.buffer, nextSerial := t.chron.nextSerial,
        runs := t.chron.runs, dropped := t.chron.dropped },
      telem := { s.telem with counts := t.telem.counts, bwRead := t.telem.bwRead } })
    ∧ changesRegs (.release a) [
      Reg.CHRON_DROP_CNT, Reg.CHRON_REPEAT_CNT, Reg.SHELF_DETUNE_EPOCH_HIGH, Reg.SHELF_DETUNE_INTERLEAVE,
      Reg.SHELF_DUP_CNT, Reg.SHELF_FRAME_CNT, Reg.SHELF_ILV_STATUS_SET_ID, Reg.SHELF_ILV_STATUS_VALID,
      Reg.TELEM_BLK_OVF_OVF])
  ∧ (∀ a, changes (.commandResend a) (fun s t => { s with
      regs := t.regs, out := t.out, shelf := t.shelf,
      mbox := { s.mbox with stored := t.mbox.stored, bg := t.mbox.bg },
      telem := { s.telem with counts := t.telem.counts, bwRead := t.telem.bwRead } })
    ∧ changesRegs (.commandResend a) [
      Reg.SHELF_RESEND_CNT, Reg.TELEM_BLK_OVF_OVF])
  ∧ (∀ a, changes (.shelfCntClr a) (fun s t => { s with
      regs := t.regs, clears := t.clears, out := t.out,
      telem := { s.telem with counts := t.telem.counts, bwRead := t.telem.bwRead } })
    ∧ changesRegs (.shelfCntClr a) [
      Reg.TELEM_BLK_OVF_OVF])
  ∧ (∀ a, changes (.shelfStatus a) (fun s t => { s with
      regs := t.regs, out := t.out,
      mbox := { s.mbox with stored := t.mbox.stored },
      telem := { s.telem with counts := t.telem.counts, bwRead := t.telem.bwRead } })
    ∧ changesRegs (.shelfStatus a) [
      Reg.TELEM_BLK_OVF_OVF])
  ∧ (∀ a b, changes (.setRecords a b) (fun s t => { s with
      regs := t.regs, out := t.out, shelf := t.shelf,
      chron := { s.chron with
        perm := t.chron.perm, ring := t.chron.ring, buffer := t.chron.buffer, nextSerial := t.chron.nextSerial,
        runs := t.chron.runs, dropped := t.chron.dropped },
      mbox := { s.mbox with stored := t.mbox.stored, bg := t.mbox.bg },
      telem := { s.telem with counts := t.telem.counts, bwRead := t.telem.bwRead } })
    ∧ changesRegs (.setRecords a b) [
      Reg.CHRON_DROP_CNT, Reg.CHRON_REPEAT_CNT, Reg.SHELF_DETUNE_INTERLEAVE, Reg.SHELF_ILV_STATUS_SET_ID,
      Reg.SHELF_ILV_STATUS_VALID, Reg.TELEM_BLK_OVF_OVF])
  ∧ (∀ a b c, changes (.shelfPowerOff a b c) (fun s t => { s with
      regs := t.regs, out := t.out, shelf := t.shelf,
      pwr := { s.pwr with offStroke := t.pwr.offStroke },
      mbox := { s.mbox with stored := t.mbox.stored, bg := t.mbox.bg },
      telem := { s.telem with counts := t.telem.counts, bwRead := t.telem.bwRead } })
    ∧ changesRegs (.shelfPowerOff a b c) [
      Reg.TELEM_BLK_OVF_OVF])
  ∧ (∀ a b, changes (.shelfPowerOn a b) (fun s t => { s with
      regs := t.regs, out := t.out, shelf := t.shelf,
      pwr := { s.pwr with keptOn := t.pwr.keptOn },
      mbox := { s.mbox with stored := t.mbox.stored, bg := t.mbox.bg },
      telem := { s.telem with counts := t.telem.counts, bwRead := t.telem.bwRead } })
    ∧ changesRegs (.shelfPowerOn a b) [
      Reg.TELEM_BLK_OVF_OVF])
  ∧ (∀ a b, changes (.shelfPersist a b) (fun s t => { s with
      regs := t.regs, out := t.out, shelf := t.shelf,
      merge := { s.merge with points := t.merge.points },
      mbox := { s.mbox with stored := t.mbox.stored, bg := t.mbox.bg },
      telem := { s.telem with counts := t.telem.counts, bwRead := t.telem.bwRead } })
    ∧ changesRegs (.shelfPersist a b) [
      Reg.MERGE_STATUS_POINTS, Reg.SHELF_POINT_DONE_POS, Reg.SHELF_POINT_EXCL_POS, Reg.SHELF_POINT_NOANS_POS,
      Reg.SHELF_POINT_PARTIAL_POS, Reg.TELEM_BLK_OVF_OVF])
  ∧ (∀ a b c, changes (.shelfActivate a b c) (fun s t => { s with
      regs := t.regs, out := t.out, keep := t.keep, imageOps := t.imageOps, chans := t.chans, shelf := t.shelf,
      mbox := { s.mbox with stored := t.mbox.stored, bg := t.mbox.bg },
      fw := { s.fw with act := t.fw.act },
      telem := { s.telem with counts := t.telem.counts, bwRead := t.telem.bwRead } })
    ∧ changesRegs (.shelfActivate a b c) [
      Reg.SHELF_ACT_STATUS_ACT, Reg.SHELF_ACT_STATUS_DECISION, Reg.SHELF_ACT_STATUS_LATE, Reg.TELEM_BLK_OVF_OVF])
  ∧ (∀ a b, changes (.shelfRelease a b) (fun s t => { s with
      regs := t.regs, out := t.out, shelf := t.shelf,
      chron := { s.chron with
        perm := t.chron.perm, ring := t.chron.ring, buffer := t.chron.buffer, nextSerial := t.chron.nextSerial,
        runs := t.chron.runs, dropped := t.chron.dropped },
      mbox := { s.mbox with stored := t.mbox.stored, bg := t.mbox.bg },
      telem := { s.telem with counts := t.telem.counts, bwRead := t.telem.bwRead } })
    ∧ changesRegs (.shelfRelease a b) [
      Reg.CHRON_DROP_CNT, Reg.CHRON_REPEAT_CNT, Reg.SHELF_DETUNE_EPOCH_HIGH, Reg.SHELF_DETUNE_INTERLEAVE,
      Reg.SHELF_ILV_STATUS_SET_ID, Reg.SHELF_ILV_STATUS_VALID, Reg.TELEM_BLK_OVF_OVF])
  ∧ (∀ a, changes (.shelfFrameDiscard a) (fun s t => { s with
      regs := t.regs, out := t.out, shelf := t.shelf,
      telem := { s.telem with counts := t.telem.counts, bwRead := t.telem.bwRead } })
    ∧ changesRegs (.shelfFrameDiscard a) [
      Reg.SHELF_CRC_ERR_CNT, Reg.SHELF_DUP_CNT, Reg.SHELF_FRAME_CNT, Reg.TELEM_BLK_OVF_OVF])
  ∧ (changes .activationDecision (fun s t => { s with
      regs := t.regs, out := t.out, keep := t.keep, imageOps := t.imageOps, chans := t.chans, shelf := t.shelf,
      chron := { s.chron with
        perm := t.chron.perm, ring := t.chron.ring, buffer := t.chron.buffer, nextSerial := t.chron.nextSerial,
        runs := t.chron.runs, dropped := t.chron.dropped },
      mbox := { s.mbox with stored := t.mbox.stored, bg := t.mbox.bg },
      fw := { s.fw with act := t.fw.act },
      telem := { s.telem with counts := t.telem.counts, bwRead := t.telem.bwRead } })
    ∧ changesRegs .activationDecision [
      Reg.CHRON_DROP_CNT, Reg.CHRON_REPEAT_CNT, Reg.SHELF_ACT_STATUS_ACT, Reg.SHELF_ACT_STATUS_DECISION,
      Reg.TELEM_BLK_OVF_OVF])
  ∧ (changes .coordinatedActivation (fun s t => { s with
      regs := t.regs, out := t.out, keep := t.keep, chans := t.chans, img := t.img, shelf := t.shelf,
      chron := { s.chron with
        perm := t.chron.perm, ring := t.chron.ring, buffer := t.chron.buffer, nextSerial := t.chron.nextSerial,
        runs := t.chron.runs, dropped := t.chron.dropped },
      mbox := { s.mbox with stored := t.mbox.stored, bg := t.mbox.bg },
      sched := { s.sched with back := t.sched.back },
      fw := { s.fw with act := t.fw.act, oldBank := t.fw.oldBank, oldPrecond := t.fw.oldPrecond },
      telem := { s.telem with counts := t.telem.counts, bwRead := t.telem.bwRead } })
    ∧ changesRegs .coordinatedActivation [
      Reg.CHAN_STATUS_TBANK, Reg.CHRON_DROP_CNT, Reg.CHRON_REPEAT_CNT, Reg.ERR_PATROL_CFG_HORIZON,
      Reg.SCHED_STATUS_LAYOUT, Reg.SHELF_ACT_STATUS_ACT, Reg.SHELF_ACT_STATUS_LATE, Reg.TELEM_BLK_OVF_OVF,
      Reg.TOP_STATUS_RECOVERY])
  ∧ (changes .activationInDoubt (fun s t => { s with
      regs := t.regs, out := t.out, keep := t.keep, imageOps := t.imageOps, chans := t.chans, shelf := t.shelf,
      chron := { s.chron with
        perm := t.chron.perm, ring := t.chron.ring, buffer := t.chron.buffer, nextSerial := t.chron.nextSerial,
        runs := t.chron.runs, dropped := t.chron.dropped },
      fw := { s.fw with act := t.fw.act },
      telem := { s.telem with counts := t.telem.counts, bwRead := t.telem.bwRead } })
    ∧ changesRegs .activationInDoubt [
      Reg.CHRON_DROP_CNT, Reg.CHRON_REPEAT_CNT, Reg.SHELF_ACT_STATUS_ACT, Reg.TELEM_BLK_OVF_OVF])
  ∧ (changes .shelfPersistComplete (fun s t => { s with
      regs := t.regs, out := t.out, shelf := t.shelf,
      chron := { s.chron with
        perm := t.chron.perm, ring := t.chron.ring, buffer := t.chron.buffer, nextSerial := t.chron.nextSerial,
        runs := t.chron.runs, dropped := t.chron.dropped },
      mbox := { s.mbox with stored := t.mbox.stored, bg := t.mbox.bg },
      telem := { s.telem with counts := t.telem.counts, bwRead := t.telem.bwRead } })
    ∧ changesRegs .shelfPersistComplete [
      Reg.CHRON_DROP_CNT, Reg.CHRON_REPEAT_CNT, Reg.SHELF_POINT_DONE_POS, Reg.SHELF_POINT_EXCL_POS,
      Reg.SHELF_POINT_NOANS_POS, Reg.SHELF_POINT_PARTIAL_POS, Reg.TELEM_BLK_OVF_OVF])
  ∧ (changes .shelfEpochLoRead (fun s t => { s with
      regs := t.regs, out := t.out,
      telem := { s.telem with counts := t.telem.counts, bwRead := t.telem.bwRead } })
    ∧ changesRegs .shelfEpochLoRead [
      Reg.SHELF_EPOCH_HI_EPOCH_HI, Reg.TELEM_BLK_OVF_OVF])
end

