-- ==== Sys2Proof/Laws/Tab.lean ====
section
/-! SUPPORT. Sparse tables: what a table reads as after a change, and that every change keeps the canonical form. -/

namespace Sys2Proof.Machine

variable {α β : Type}

/-! ### Reading after a change -/

@[simp] theorem Tab.find_nil (k : Nat) : Tab.find ([] : Tab α) k = none := rfl

@[simp] theorem Tab.get_nil (d : α) (k : Nat) : Tab.get d [] k = d := rfl

theorem Tab.get_eq_find (d : α) (t : Tab α) (k : Nat) : t.get d k = (t.find k).getD d := by
  induction t with
  | nil => rfl
  | cons e r ih => simp only [Tab.get, Tab.find]; split <;> simp_all

@[simp] theorem Tab.find_del_self (t : Tab α) (k : Nat) : (t.del k).find k = none := by
  induction t with
  | nil => rfl
  | cons e r ih => simp only [Tab.del]; split <;> simp_all [Tab.find]

theorem Tab.find_del_ne (t : Tab α) (k x : Nat) (h : x ≠ k) : (t.del k).find x = t.find x := by
  induction t with
  | nil => rfl
  | cons e r ih =>
    simp only [Tab.del, Tab.find]
    split
    · rw [if_neg (by omega), ih]
    · simp only [Tab.find, ih]

theorem Tab.find_ins_ne (t : Tab α) (k x : Nat) (v : α) (h : x ≠ k) : (t.ins k v).find x = t.find x := by
  induction t with
  | nil => simp [Tab.ins, Tab.find, Ne.symm h]
  | cons e r ih =>
    simp only [Tab.ins]
    split
    · simp [Tab.find, Ne.symm h]
    · simp only [Tab.find, ih]

theorem Tab.find_ins_self (t : Tab α) (k : Nat) (v : α) (h : t.find k = none) : (t.ins k v).find k = some v := by
  induction t with
  | nil => simp [Tab.ins, Tab.find]
  | cons e r ih =>
    simp only [Tab.find] at h
    split at h
    · simp at h
    · rename_i hk
      simp only [Tab.ins]
      split
      · simp [Tab.find]
      · simp only [Tab.find]; rw [if_neg hk]; exact ih h

@[simp] theorem Tab.find_put_self (t : Tab α) (k : Nat) (v : α) : (t.put k v).find k = some v :=
  Tab.find_ins_self _ _ _ (Tab.find_del_self t k)

theorem Tab.find_put_ne (t : Tab α) (k x : Nat) (v : α) (h : x ≠ k) : (t.put k v).find x = t.find x := by
  unfold Tab.put; rw [Tab.find_ins_ne _ _ _ _ h, Tab.find_del_ne _ _ _ h]

theorem Tab.find_set_ne [DecidableEq α] (d : α) (t : Tab α) (k x : Nat) (v : α) (h : x ≠ k) :
    (t.set d k v).find x = t.find x := by
  unfold Tab.set; split
  · exact Tab.find_del_ne t k x h
  · exact Tab.find_put_ne t k x v h

@[simp] theorem Tab.get_set_self [DecidableEq α] (d : α) (t : Tab α) (k : Nat) (v : α) : (t.set d k v).get d k = v := by
  rw [Tab.get_eq_find]; unfold Tab.set; split
  · rename_i h; simp [h]
  · simp

theorem Tab.get_set_ne [DecidableEq α] (d : α) (t : Tab α) (k x : Nat) (v : α) (h : x ≠ k) :
    (t.set d k v).get d x = t.get d x := by
  rw [Tab.get_eq_find, Tab.get_eq_find, Tab.find_set_ne d t k x v h]

theorem Tab.find_keep (p : Nat → Bool) (t : Tab α) (x : Nat) :
    (t.keep (fun k _ => p k)).find x = if p x then t.find x else none := by
  induction t with
  | nil => simp [Tab.keep]
  | cons e r ih =>
    obtain ⟨k, v⟩ := e
    simp only [Tab.keep, List.filter_cons, Tab.find] at ih ⊢
    by_cases hk : k = x
    · subst hk; by_cases hp : p k = true <;> simp_all [Tab.find]
    · by_cases hp : p k = true <;> simp_all [Tab.find]

theorem Tab.find_mapVals (f : Nat → α → β) (t : Tab α) (x : Nat) : (t.mapVals f).find x = (t.find x).map (f x) := by
  induction t with
  | nil => rfl
  | cons e r ih =>
    obtain ⟨k, v⟩ := e
    simp only [Tab.mapVals, List.map_cons, Tab.find] at ih ⊢
    by_cases hk : k = x
    · subst hk; simp
    · simp [hk, ih]

/-! ### The canonical form -/

/-- Every key of the table is above `k`. -/
def Tab.above (t : Tab α) (k : Nat) : Bool := t.all (fun e => decide (k < e.1))

theorem Tab.above_del (t : Tab α) (k x : Nat) (h : Tab.above t x = true) : Tab.above (t.del k) x = true := by
  induction t with
  | nil => rfl
  | cons e r ih =>
    simp only [Tab.above, List.all_cons, Bool.and_eq_true] at h ih
    simp only [Tab.del]
    split
    · exact ih h.2
    · simp only [Tab.above, List.all_cons, Bool.and_eq_true]; exact ⟨h.1, ih h.2⟩

theorem Tab.above_ins (t : Tab α) (k x : Nat) (v : α) (hx : x < k) (h : Tab.above t x = true) :
    Tab.above (t.ins k v) x = true := by
  induction t with
  | nil => simpa [Tab.above, Tab.ins] using hx
  | cons e r ih =>
    simp only [Tab.above, List.all_cons, Bool.and_eq_true] at h ih
    simp only [Tab.ins]
    split
    · simp only [Tab.above, List.all_cons, Bool.and_eq_true, decide_eq_true_eq]; exact ⟨hx, by simpa using h.1, h.2⟩
    · simp only [Tab.above, List.all_cons, Bool.and_eq_true]; exact ⟨h.1, ih h.2⟩

theorem Tab.above_trans (t : Tab α) (j k : Nat) (h : j < k) (ha : Tab.above t k = true) : Tab.above t j = true := by
  simp only [Tab.above, List.all_eq_true, decide_eq_true_eq] at *
  exact fun e he => lt_trans h (ha e he)

@[simp] theorem Tab.sorted_nil : Tab.sorted ([] : Tab α) = true := rfl

theorem Tab.sorted_cons (k : Nat) (v : α) (r : Tab α) :
    Tab.sorted ((k, v) :: r) = true ↔ Tab.above r k = true ∧ r.sorted = true := by
  simp [Tab.sorted, Tab.above]

theorem Tab.sorted_del (t : Tab α) (k : Nat) (h : t.sorted = true) : (t.del k).sorted = true := by
  induction t with
  | nil => rfl
  | cons e r ih =>
    obtain ⟨a, v⟩ := e
    rw [Tab.sorted_cons] at h
    simp only [Tab.del]
    split
    · exact ih h.2
    · exact (Tab.sorted_cons _ _ _).2 ⟨Tab.above_del _ _ _ h.1, ih h.2⟩

theorem Tab.sorted_ins (t : Tab α) (k : Nat) (v : α) (h : t.sorted = true) (hk : t.find k = none) :
    (t.ins k v).sorted = true := by
  induction t with
  | nil => rfl
  | cons e r ih =>
    obtain ⟨a, w⟩ := e
    have h' := (Tab.sorted_cons a w r).1 h
    simp only [Tab.find] at hk
    split at hk
    · simp at hk
    · rename_i ha
      simp only [Tab.ins]
      split
      · rename_i hlt
        refine (Tab.sorted_cons _ _ _).2 ⟨?_, h⟩
        have := Tab.above_trans r k a hlt h'.1
        simp only [Tab.above, List.all_cons, Bool.and_eq_true, decide_eq_true_eq] at this ⊢
        exact ⟨hlt, this⟩
      · exact (Tab.sorted_cons _ _ _).2 ⟨Tab.above_ins _ _ _ _ (by omega) h'.1, ih h'.2 hk⟩

theorem Tab.sorted_put (t : Tab α) (k : Nat) (v : α) (h : t.sorted = true) : (t.put k v).sorted = true :=
  Tab.sorted_ins _ _ _ (Tab.sorted_del t k h) (Tab.find_del_self t k)

theorem Tab.sorted_set [DecidableEq α] (d : α) (t : Tab α) (k : Nat) (v : α) (h : t.sorted = true) :
    (t.set d k v).sorted = true := by
  unfold Tab.set; split
  · exact Tab.sorted_del t k h
  · exact Tab.sorted_put t k v h

theorem Tab.sorted_keep (p : Nat → α → Bool) (t : Tab α) (h : t.sorted = true) : (t.keep p).sorted = true := by
  induction t with
  | nil => rfl
  | cons e r ih =>
    obtain ⟨a, v⟩ := e
    have h' := (Tab.sorted_cons a v r).1 h
    simp only [Tab.keep, List.filter_cons] at ih ⊢
    split
    · refine (Tab.sorted_cons _ _ _).2 ⟨?_, ih h'.2⟩
      simp only [Tab.above, List.all_eq_true] at h' ⊢
      exact fun e he => h'.1 e (List.mem_of_mem_filter he)
    · exact ih h'.2

theorem Tab.sorted_mapVals (f : Nat → α → β) (t : Tab α) (h : t.sorted = true) : (t.mapVals f).sorted = true := by
  induction t with
  | nil => rfl
  | cons e r ih =>
    obtain ⟨a, v⟩ := e
    have h' := (Tab.sorted_cons a v r).1 h
    refine (Tab.sorted_cons _ _ _).2 ⟨?_, ih h'.2⟩
    simp only [Tab.above, List.all_map] at h' ⊢
    exact h'.1

theorem Tab.all_del (p : Nat × α → Bool) (t : Tab α) (k : Nat) (h : t.all p = true) : List.all (t.del k) p = true := by
  induction t with
  | nil => rfl
  | cons e r ih =>
    simp only [List.all_cons, Bool.and_eq_true] at h
    simp only [Tab.del]
    split
    · exact ih h.2
    · simp only [List.all_cons, Bool.and_eq_true]; exact ⟨h.1, ih h.2⟩

theorem Tab.all_ins (p : Nat × α → Bool) (t : Tab α) (k : Nat) (v : α) (h : t.all p = true) (hv : p (k, v) = true) :
    List.all (t.ins k v) p = true := by
  induction t with
  | nil => simp [Tab.ins, hv]
  | cons e r ih =>
    have h' := h
    simp only [List.all_cons, Bool.and_eq_true] at h
    simp only [Tab.ins]
    split
    · simp only [List.all_cons, Bool.and_eq_true]; exact ⟨hv, h.1, h.2⟩
    · simp only [List.all_cons, Bool.and_eq_true]; exact ⟨h.1, ih h.2⟩

/-- A write keeps the canonical form: keys rising, no entry equal to what an unlisted key reads as. -/
theorem Tab.wf_set [DecidableEq α] (d : α) (t : Tab α) (k : Nat) (v : α) (h : t.wf d = true) : (t.set d k v).wf d = true := by
  simp only [Tab.wf, Bool.and_eq_true] at h ⊢
  refine ⟨Tab.sorted_set d t k v h.1, ?_⟩
  unfold Tab.set; split
  · exact Tab.all_del _ t k h.2
  · rename_i hv
    exact Tab.all_ins _ _ _ _ (Tab.all_del _ t k h.2) (by simpa using hv)

end Sys2Proof.Machine
end

