-- ==== Sys2Proof/Laws/Within.lean ====
section
/-! SUPPORT. `Within m s t`: `t` is `s` but for the parts that the bit mask `m` names, one bit for each field of `State`
and of its parts (their order is that of `State.pick`); and how such facts combine. -/

namespace Sys2Proof.Machine

/-- `s` with the fields that `m` names taken from `t`. -/
def State.pick (m : Nat) (s t : State) : State where
  pending := bif m.testBit 0 then t.pending else s.pending
  regs := bif m.testBit 1 then t.regs else s.regs
  stroke := bif m.testBit 2 then t.stroke else s.stroke
  clears := bif m.testBit 3 then t.clears else s.clears
  free := bif m.testBit 4 then t.free else s.free
  out := bif m.testBit 5 then t.out else s.out
  msixEn := bif m.testBit 6 then t.msixEn else s.msixEn
  perst := bif m.testBit 7 then t.perst else s.perst
  intOwed := bif m.testBit 8 then t.intOwed else s.intOwed
  epochDue := bif m.testBit 9 then t.epochDue else s.epochDue
  pwr := {
      aux := bif m.testBit 10 then t.pwr.aux else s.pwr.aux,
      onMask := bif m.testBit 11 then t.pwr.onMask else s.pwr.onMask,
      rail := bif m.testBit 12 then t.pwr.rail else s.pwr.rail,
      ramping := bif m.testBit 13 then t.pwr.ramping else s.pwr.ramping,
      goodPolls := bif m.testBit 14 then t.pwr.goodPolls else s.pwr.goodPolls,
      lastBad := bif m.testBit 15 then t.pwr.lastBad else s.pwr.lastBad,
      discharged := bif m.testBit 16 then t.pwr.discharged else s.pwr.discharged,
      pfCount := bif m.testBit 17 then t.pwr.pfCount else s.pwr.pfCount,
      high100 := bif m.testBit 18 then t.pwr.high100 else s.pwr.high100,
      dirtySet := bif m.testBit 19 then t.pwr.dirtySet else s.pwr.dirtySet,
      cause := bif m.testBit 20 then t.pwr.cause else s.pwr.cause,
      after := bif m.testBit 21 then t.pwr.after else s.pwr.after,
      shelfOff := bif m.testBit 22 then t.pwr.shelfOff else s.pwr.shelfOff,
      keptOn := bif m.testBit 23 then t.pwr.keptOn else s.pwr.keptOn,
      offStroke := bif m.testBit 24 then t.pwr.offStroke else s.pwr.offStroke,
      mediaWait := bif m.testBit 25 then t.pwr.mediaWait else s.pwr.mediaWait,
      mediaStopped := bif m.testBit 26 then t.pwr.mediaStopped else s.pwr.mediaStopped,
      fpReset := bif m.testBit 27 then t.pwr.fpReset else s.pwr.fpReset,
      pmicRead := bif m.testBit 28 then t.pwr.pmicRead else s.pwr.pmicRead,
      hungRecord := bif m.testBit 29 then t.pwr.hungRecord else s.pwr.hungRecord,
      pkgRun := bif m.testBit 30 then t.pwr.pkgRun else s.pwr.pkgRun,
      mediaDown := bif m.testBit 31 then t.pwr.mediaDown else s.pwr.mediaDown,
      downPolls := bif m.testBit 32 then t.pwr.downPolls else s.pwr.downPolls,
      thermtripN := bif m.testBit 33 then t.pwr.thermtripN else s.pwr.thermtripN }
  start := {
      step2 := bif m.testBit 34 then t.start.step2 else s.start.step2,
      step3 := bif m.testBit 35 then t.start.step3 else s.start.step3,
      hbmTrained := bif m.testBit 36 then t.start.hbmTrained else s.start.hbmTrained,
      step5 := bif m.testBit 37 then t.start.step5 else s.start.step5,
      step6 := bif m.testBit 38 then t.start.step6 else s.start.step6,
      rebuilding := bif m.testBit 39 then t.start.rebuilding else s.start.rebuilding,
      step7 := bif m.testBit 40 then t.start.step7 else s.start.step7,
      step8 := bif m.testBit 41 then t.start.step8 else s.start.step8,
      step9 := bif m.testBit 42 then t.start.step9 else s.start.step9,
      stopped := bif m.testBit 43 then t.start.stopped else s.start.stopped,
      hbmTries := bif m.testBit 44 then t.start.hbmTries else s.start.hbmTries,
      bootSel := bif m.testBit 45 then t.start.bootSel else s.start.bootSel,
      row := bif m.testBit 46 then t.start.row else s.start.row,
      readMarker := bif m.testBit 47 then t.start.readMarker else s.start.readMarker,
      first := bif m.testBit 48 then t.start.first else s.start.first,
      warm := bif m.testBit 49 then t.start.warm else s.start.warm,
      warmLoss := bif m.testBit 50 then t.start.warmLoss else s.start.warmLoss,
      copying := bif m.testBit 51 then t.start.copying else s.start.copying }
  keep := {
      shadow := bif m.testBit 52 then t.keep.shadow else s.keep.shadow,
      seq := bif m.testBit 53 then t.keep.seq else s.keep.seq,
      sectors := bif m.testBit 54 then t.keep.sectors else s.keep.sectors,
      abandoned := bif m.testBit 55 then t.keep.abandoned else s.keep.abandoned,
      degraded := bif m.testBit 56 then t.keep.degraded else s.keep.degraded,
      eraseFails := bif m.testBit 57 then t.keep.eraseFails else s.keep.eraseFails,
      queue := bif m.testBit 58 then t.keep.queue else s.keep.queue,
      lost := bif m.testBit 59 then t.keep.lost else s.keep.lost,
      toErase := bif m.testBit 60 then t.keep.toErase else s.keep.toErase,
      groupPages := bif m.testBit 61 then t.keep.groupPages else s.keep.groupPages,
      groupCounter := bif m.testBit 62 then t.keep.groupCounter else s.keep.groupCounter,
      optime := bif m.testBit 63 then t.keep.optime else s.keep.optime,
      pcycle := bif m.testBit 64 then t.keep.pcycle else s.keep.pcycle,
      bytes := bif m.testBit 65 then t.keep.bytes else s.keep.bytes,
      byteLines := bif m.testBit 66 then t.keep.byteLines else s.keep.byteLines,
      timeStrokes := bif m.testBit 67 then t.keep.timeStrokes else s.keep.timeStrokes,
      op := bif m.testBit 68 then t.keep.op else s.keep.op,
      suspended := bif m.testBit 69 then t.keep.suspended else s.keep.suspended }
  chron := {
      perm := bif m.testBit 70 then t.chron.perm else s.chron.perm,
      ring := bif m.testBit 71 then t.chron.ring else s.chron.ring,
      head := bif m.testBit 72 then t.chron.head else s.chron.head,
      sectorSeq := bif m.testBit 73 then t.chron.sectorSeq else s.chron.sectorSeq,
      buffer := bif m.testBit 74 then t.chron.buffer else s.chron.buffer,
      nextSerial := bif m.testBit 75 then t.chron.nextSerial else s.chron.nextSerial,
      runs := bif m.testBit 76 then t.chron.runs else s.chron.runs,
      dropped := bif m.testBit 77 then t.chron.dropped else s.chron.dropped,
      bad := bif m.testBit 78 then t.chron.bad else s.chron.bad }
  events := {
      info := bif m.testBit 79 then t.events.info else s.events.info,
      warn := bif m.testBit 80 then t.events.warn else s.events.warn,
      fail := bif m.testBit 81 then t.events.fail else s.events.fail,
      fatal := bif m.testBit 82 then t.events.fatal else s.events.fatal,
      lastHandle := bif m.testBit 83 then t.events.lastHandle else s.events.lastHandle,
      policy := bif m.testBit 84 then t.events.policy else s.events.policy,
      orphanSeen := bif m.testBit 85 then t.events.orphanSeen else s.events.orphanSeen,
      paritySeen := bif m.testBit 86 then t.events.paritySeen else s.events.paritySeen }
  prot := {
      ranges := bif m.testBit 87 then t.prot.ranges else s.prot.ranges,
      slots := bif m.testBit 88 then t.prot.slots else s.prot.slots,
      integState := bif m.testBit 89 then t.prot.integState else s.prot.integState,
      granules := bif m.testBit 90 then t.prot.granules else s.prot.granules,
      roots := bif m.testBit 91 then t.prot.roots else s.prot.roots,
      lineCounters := bif m.testBit 92 then t.prot.lineCounters else s.prot.lineCounters,
      dirtyNodes := bif m.testBit 93 then t.prot.dirtyNodes else s.prot.dirtyNodes,
      slotBad := bif m.testBit 94 then t.prot.slotBad else s.prot.slotBad,
      slotLost := bif m.testBit 95 then t.prot.slotLost else s.prot.slotLost,
      officers := bif m.testBit 96 then t.prot.officers else s.prot.officers,
      nonces := bif m.testBit 97 then t.prot.nonces else s.prot.nonces,
      lodged := bif m.testBit 98 then t.prot.lodged else s.prot.lodged,
      applied := bif m.testBit 99 then t.prot.applied else s.prot.applied,
      bindings := bif m.testBit 100 then t.prot.bindings else s.prot.bindings,
      anchor := bif m.testBit 101 then t.prot.anchor else s.prot.anchor,
      eraseAuth := bif m.testBit 102 then t.prot.eraseAuth else s.prot.eraseAuth,
      unlock := bif m.testBit 103 then t.prot.unlock else s.prot.unlock,
      testAccess := bif m.testBit 104 then t.prot.testAccess else s.prot.testAccess,
      challenge := bif m.testBit 105 then t.prot.challenge else s.prot.challenge,
      rekeys := bif m.testBit 106 then t.prot.rekeys else s.prot.rekeys,
      eraseLeft := bif m.testBit 107 then t.prot.eraseLeft else s.prot.eraseLeft,
      erasePath := bif m.testBit 108 then t.prot.erasePath else s.prot.erasePath,
      ide := bif m.testBit 109 then t.prot.ide else s.prot.ide,
      spdm := bif m.testBit 110 then t.prot.spdm else s.prot.spdm }
  sessions := bif m.testBit 111 then t.sessions else s.sessions
  reqs := bif m.testBit 112 then t.reqs else s.reqs
  nextRid := bif m.testBit 113 then t.nextRid else s.nextRid
  share := bif m.testBit 114 then t.share else s.share
  dc := bif m.testBit 115 then t.dc else s.dc
  decoders := bif m.testBit 116 then t.decoders else s.decoders
  merge := {
      entries := bif m.testBit 117 then t.merge.entries else s.merge.entries,
      cells := bif m.testBit 118 then t.merge.cells else s.merge.cells,
      heat := bif m.testBit 119 then t.merge.heat else s.merge.heat,
      points := bif m.testBit 120 then t.merge.points else s.merge.points,
      lastPoint := bif m.testBit 121 then t.merge.lastPoint else s.merge.lastPoint,
      pointDone := bif m.testBit 122 then t.merge.pointDone else s.merge.pointDone,
      pointPinned := bif m.testBit 123 then t.merge.pointPinned else s.merge.pointPinned,
      marker := bif m.testBit 124 then t.merge.marker else s.merge.marker,
      capo := bif m.testBit 125 then t.merge.capo else s.merge.capo,
      lost := bif m.testBit 126 then t.merge.lost else s.merge.lost,
      cut := bif m.testBit 127 then t.merge.cut else s.merge.cut,
      capoCredits := bif m.testBit 128 then t.merge.capoCredits else s.merge.capoCredits }
  mbox := {
      stored := bif m.testBit 129 then t.mbox.stored else s.mbox.stored,
      bg := bif m.testBit 130 then t.mbox.bg else s.mbox.bg,
      wall := bif m.testBit 131 then t.mbox.wall else s.mbox.wall,
      shutdown := bif m.testBit 132 then t.mbox.shutdown else s.mbox.shutdown,
      alerts := bif m.testBit 133 then t.mbox.alerts else s.mbox.alerts }
  cache := {
      lines := bif m.testBit 134 then t.cache.lines else s.cache.lines,
      fills := bif m.testBit 135 then t.cache.fills else s.cache.fills,
      busy := bif m.testBit 136 then t.cache.busy else s.cache.busy,
      victims := bif m.testBit 137 then t.cache.victims else s.cache.victims,
      purges := bif m.testBit 138 then t.cache.purges else s.cache.purges,
      dirWay := bif m.testBit 139 then t.cache.dirWay else s.cache.dirWay,
      dirPlru := bif m.testBit 140 then t.cache.dirPlru else s.cache.dirPlru,
      plru := bif m.testBit 141 then t.cache.plru else s.cache.plru,
      enabled := bif m.testBit 142 then t.cache.enabled else s.cache.enabled,
      cleaning := bif m.testBit 143 then t.cache.cleaning else s.cache.cleaning,
      rc := bif m.testBit 144 then t.cache.rc else s.cache.rc,
      rcOn := bif m.testBit 145 then t.cache.rcOn else s.cache.rcOn,
      host := bif m.testBit 146 then t.cache.host else s.cache.host,
      evicting := bif m.testBit 147 then t.cache.evicting else s.cache.evicting,
      snoops := bif m.testBit 148 then t.cache.snoops else s.cache.snoops,
      clock := bif m.testBit 149 then t.cache.clock else s.cache.clock,
      biCredits := bif m.testBit 150 then t.cache.biCredits else s.cache.biCredits }
  internals := bif m.testBit 151 then t.internals else s.internals
  imageOps := bif m.testBit 152 then t.imageOps else s.imageOps
  pages := bif m.testBit 153 then t.pages else s.pages
  ops := bif m.testBit 154 then t.ops else s.ops
  deltas := bif m.testBit 155 then t.deltas else s.deltas
  chans := bif m.testBit 156 then t.chans else s.chans
  sched := {
      locked := bif m.testBit 157 then t.sched.locked else s.sched.locked,
      last := bif m.testBit 158 then t.sched.last else s.sched.last,
      jobs := bif m.testBit 159 then t.sched.jobs else s.sched.jobs,
      nextJob := bif m.testBit 160 then t.sched.nextJob else s.sched.nextJob,
      late := bif m.testBit 161 then t.sched.late else s.sched.late,
      capoAsk := bif m.testBit 162 then t.sched.capoAsk else s.sched.capoAsk,
      back := bif m.testBit 163 then t.sched.back else s.sched.back,
      moved := bif m.testBit 164 then t.sched.moved else s.sched.moved,
      demand := bif m.testBit 165 then t.sched.demand else s.sched.demand,
      now := bif m.testBit 166 then t.sched.now else s.sched.now,
      skew := bif m.testBit 167 then t.sched.skew else s.sched.skew,
      since := bif m.testBit 168 then t.sched.since else s.sched.since }
  xlat := {
      tracts := bif m.testBit 169 then t.xlat.tracts else s.xlat.tracts,
      fluid := bif m.testBit 170 then t.xlat.fluid else s.xlat.fluid,
      blocks := bif m.testBit 171 then t.xlat.blocks else s.xlat.blocks,
      valid := bif m.testBit 172 then t.xlat.valid else s.xlat.valid,
      opens := bif m.testBit 173 then t.xlat.opens else s.xlat.opens,
      nextHot := bif m.testBit 174 then t.xlat.nextHot else s.xlat.nextHot,
      nextCold := bif m.testBit 175 then t.xlat.nextCold else s.xlat.nextCold,
      precondQ := bif m.testBit 176 then t.xlat.precondQ else s.xlat.precondQ,
      seq := bif m.testBit 177 then t.xlat.seq else s.xlat.seq,
      sbe := bif m.testBit 178 then t.xlat.sbe else s.xlat.sbe,
      moves := bif m.testBit 179 then t.xlat.moves else s.xlat.moves,
      moveQ := bif m.testBit 180 then t.xlat.moveQ else s.xlat.moveQ,
      copies := bif m.testBit 181 then t.xlat.copies else s.xlat.copies,
      settles := bif m.testBit 182 then t.xlat.settles else s.xlat.settles,
      gather := bif m.testBit 183 then t.xlat.gather else s.xlat.gather,
      better := bif m.testBit 184 then t.xlat.better else s.xlat.better,
      whole := bif m.testBit 185 then t.xlat.whole else s.xlat.whole,
      failedSlots := bif m.testBit 186 then t.xlat.failedSlots else s.xlat.failedSlots,
      badParity := bif m.testBit 187 then t.xlat.badParity else s.xlat.badParity,
      evac := bif m.testBit 188 then t.xlat.evac else s.xlat.evac,
      checkpoints := bif m.testBit 189 then t.xlat.checkpoints else s.xlat.checkpoints,
      again := bif m.testBit 190 then t.xlat.again else s.xlat.again,
      heatEpochs := bif m.testBit 191 then t.xlat.heatEpochs else s.xlat.heatEpochs }
  err := {
      poison := bif m.testBit 192 then t.err.poison else s.err.poison,
      poisonLost := bif m.testBit 193 then t.err.poisonLost else s.err.poisonLost,
      patrolPos := bif m.testBit 194 then t.err.patrolPos else s.err.patrolPos,
      patrolStart := bif m.testBit 195 then t.err.patrolStart else s.err.patrolStart,
      visited := bif m.testBit 196 then t.err.visited else s.err.visited,
      refresh := bif m.testBit 197 then t.err.refresh else s.err.refresh,
      rewrites := bif m.testBit 198 then t.err.rewrites else s.err.rewrites,
      scrub := bif m.testBit 199 then t.err.scrub else s.err.scrub,
      scanResults := bif m.testBit 200 then t.err.scanResults else s.err.scanResults,
      wake := bif m.testBit 201 then t.err.wake else s.err.wake,
      ageStrokes := bif m.testBit 202 then t.err.ageStrokes else s.err.ageStrokes,
      e := bif m.testBit 203 then t.err.e else s.err.e,
      eSaved := bif m.testBit 204 then t.err.eSaved else s.err.eSaved,
      lastHealth := bif m.testBit 205 then t.err.lastHealth else s.err.lastHealth,
      lastMedia := bif m.testBit 206 then t.err.lastMedia else s.err.lastMedia,
      temp := bif m.testBit 207 then t.err.temp else s.err.temp,
      lastUncorrHi := bif m.testBit 208 then t.err.lastUncorrHi else s.err.lastUncorrHi }
  img := {
      tAge := bif m.testBit 209 then t.img.tAge else s.img.tAge,
      arrayRead := bif m.testBit 210 then t.img.arrayRead else s.img.arrayRead,
      suspend := bif m.testBit 211 then t.img.suspend else s.img.suspend,
      cls := bif m.testBit 212 then t.img.cls else s.img.cls,
      version := bif m.testBit 213 then t.img.version else s.img.version,
      compact := bif m.testBit 214 then t.img.compact else s.img.compact,
      dieTypes := bif m.testBit 215 then t.img.dieTypes else s.img.dieTypes }
  shelf := {
      listening := bif m.testBit 216 then t.shelf.listening else s.shelf.listening,
      claiming := bif m.testBit 217 then t.shelf.claiming else s.shelf.claiming,
      claimed := bif m.testBit 218 then t.shelf.claimed else s.shelf.claimed,
      yieldTo := bif m.testBit 219 then t.shelf.yieldTo else s.shelf.yieldTo,
      conflictDue := bif m.testBit 220 then t.shelf.conflictDue else s.shelf.conflictDue,
      beaconNow := bif m.testBit 221 then t.shelf.beaconNow else s.shelf.beaconNow,
      beaconless := bif m.testBit 222 then t.shelf.beaconless else s.shelf.beaconless,
      mgr := bif m.testBit 223 then t.shelf.mgr else s.shelf.mgr,
      dups := bif m.testBit 224 then t.shelf.dups else s.shelf.dups,
      epoch := bif m.testBit 225 then t.shelf.epoch else s.shelf.epoch,
      records := bif m.testBit 226 then t.shelf.records else s.shelf.records,
      keptEpoch := bif m.testBit 227 then t.shelf.keptEpoch else s.shelf.keptEpoch,
      keptRecords := bif m.testBit 228 then t.shelf.keptRecords else s.shelf.keptRecords,
      held := bif m.testBit 229 then t.shelf.held else s.shelf.held,
      wall := bif m.testBit 230 then t.shelf.wall else s.shelf.wall,
      seqOut := bif m.testBit 231 then t.shelf.seqOut else s.shelf.seqOut,
      cmds := bif m.testBit 232 then t.shelf.cmds else s.shelf.cmds,
      ops := bif m.testBit 233 then t.shelf.ops else s.shelf.ops,
      nextOp := bif m.testBit 234 then t.shelf.nextOp else s.shelf.nextOp,
      members := bif m.testBit 235 then t.shelf.members else s.shelf.members,
      status := bif m.testBit 236 then t.shelf.status else s.shelf.status,
      slotQ := bif m.testBit 237 then t.shelf.slotQ else s.shelf.slotQ,
      lastGrant := bif m.testBit 238 then t.shelf.lastGrant else s.shelf.lastGrant,
      grants := bif m.testBit 239 then t.shelf.grants else s.shelf.grants,
      ack := bif m.testBit 240 then t.shelf.ack else s.shelf.ack,
      pointReport := bif m.testBit 241 then t.shelf.pointReport else s.shelf.pointReport,
      point := bif m.testBit 242 then t.shelf.point else s.shelf.point,
      act := bif m.testBit 243 then t.shelf.act else s.shelf.act,
      actSent := bif m.testBit 244 then t.shelf.actSent else s.shelf.actSent,
      actMembers := bif m.testBit 245 then t.shelf.actMembers else s.shelf.actMembers,
      stepDue := bif m.testBit 246 then t.shelf.stepDue else s.shelf.stepDue,
      follow := bif m.testBit 247 then t.shelf.follow else s.shelf.follow,
      sinceStep := bif m.testBit 248 then t.shelf.sinceStep else s.shelf.sinceStep,
      pulseNow := bif m.testBit 249 then t.shelf.pulseNow else s.shelf.pulseNow,
      pulseless := bif m.testBit 250 then t.shelf.pulseless else s.shelf.pulseless,
      pulses := bif m.testBit 251 then t.shelf.pulses else s.shelf.pulses,
      granted := bif m.testBit 252 then t.shelf.granted else s.shelf.granted,
      slew := bif m.testBit 253 then t.shelf.slew else s.shelf.slew,
      timeKnown := bif m.testBit 254 then t.shelf.timeKnown else s.shelf.timeKnown }
  fw := {
      transfer := bif m.testBit 255 then t.fw.transfer else s.fw.transfer,
      cmd := bif m.testBit 256 then t.fw.cmd else s.fw.cmd, act := bif m.testBit 257 then t.fw.act else s.fw.act,
      abandoned := bif m.testBit 258 then t.fw.abandoned else s.fw.abandoned,
      oldBank := bif m.testBit 259 then t.fw.oldBank else s.fw.oldBank,
      oldPrecond := bif m.testBit 260 then t.fw.oldPrecond else s.fw.oldPrecond }
  telem := {
      cfg := bif m.testBit 261 then t.telem.cfg else s.telem.cfg,
      cfgDue := bif m.testBit 262 then t.telem.cfgDue else s.telem.cfgDue,
      counts := bif m.testBit 263 then t.telem.counts else s.telem.counts,
      cycles := bif m.testBit 264 then t.telem.cycles else s.telem.cycles,
      bwRead := bif m.testBit 265 then t.telem.bwRead else s.telem.bwRead,
      bwWrite := bif m.testBit 266 then t.telem.bwWrite else s.telem.bwWrite,
      bwK := bif m.testBit 267 then t.telem.bwK else s.telem.bwK,
      bwStart := bif m.testBit 268 then t.telem.bwStart else s.telem.bwStart,
      bwHeld := bif m.testBit 269 then t.telem.bwHeld else s.telem.bwHeld,
      bwHeldK := bif m.testBit 270 then t.telem.bwHeldK else s.telem.bwHeldK,
      snapAsked := bif m.testBit 271 then t.telem.snapAsked else s.telem.snapAsked,
      snapWait := bif m.testBit 272 then t.telem.snapWait else s.telem.snapWait,
      seq := bif m.testBit 273 then t.telem.seq else s.telem.seq,
      head := bif m.testBit 274 then t.telem.head else s.telem.head,
      shadow := bif m.testBit 275 then t.telem.shadow else s.telem.shadow,
      dropped := bif m.testBit 276 then t.telem.dropped else s.telem.dropped,
      ring := bif m.testBit 277 then t.telem.ring else s.telem.ring }
  cfgSpace := bif m.testBit 278 then t.cfgSpace else s.cfgSpace
  bar0 := bif m.testBit 279 then t.bar0 else s.bar0
  d3 := bif m.testBit 280 then t.d3 else s.d3

/-- `t` differs from `s` only in the fields that `m` names. -/
def Within (m : Nat) (s t : State) : Prop := t = State.pick m s t

theorem Within.rfl {m : Nat} {s : State} : Within m s s := by
  cases s; simp only [Within, State.pick, Bool.cond_self]

theorem pick_pick (a b : Nat) (s t u : State) (h : t = State.pick a s t) (g : u = State.pick b t u) :
    u = State.pick (a ||| b) s u := by
  have e : ∀ (β : Type) (x y : Bool) (p q r : β), q = (bif x then q else p) → r = (bif y then r else q) → r = (bif
      (x || y) then r else p) := by
    intro β x y p q r h1 h2; cases x <;> cases y <;> (first | rfl | exact h2.trans h1)
  have h0 := e _ (a.testBit 0) (b.testBit 0) _ _ _ (congrArg (fun z => z.pending) h) (congrArg (fun z => z.pending) g)
  have h1 := e _ (a.testBit 1) (b.testBit 1) _ _ _ (congrArg (fun z => z.regs) h) (congrArg (fun z => z.regs) g)
  have h2 := e _ (a.testBit 2) (b.testBit 2) _ _ _ (congrArg (fun z => z.stroke) h) (congrArg (fun z => z.stroke) g)
  have h3 := e _ (a.testBit 3) (b.testBit 3) _ _ _ (congrArg (fun z => z.clears) h) (congrArg (fun z => z.clears) g)
  have h4 := e _ (a.testBit 4) (b.testBit 4) _ _ _ (congrArg (fun z => z.free) h) (congrArg (fun z => z.free) g)
  have h5 := e _ (a.testBit 5) (b.testBit 5) _ _ _ (congrArg (fun z => z.out) h) (congrArg (fun z => z.out) g)
  have h6 := e _ (a.testBit 6) (b.testBit 6) _ _ _ (congrArg (fun z => z.msixEn) h) (congrArg (fun z => z.msixEn) g)
  have h7 := e _ (a.testBit 7) (b.testBit 7) _ _ _ (congrArg (fun z => z.perst) h) (congrArg (fun z => z.perst) g)
  have h8 := e _ (a.testBit 8) (b.testBit 8) _ _ _ (congrArg (fun z => z.intOwed) h) (congrArg (fun z => z.intOwed) g)
  have h9 := e _ (a.testBit 9) (b.testBit 9) _ _ _ (congrArg (fun z => z.epochDue) h) (congrArg (fun z =>
      z.epochDue) g)
  have h10 := e _ (a.testBit 10) (b.testBit 10) _ _ _ (congrArg (fun z => z.pwr.aux) h) (congrArg (fun z =>
      z.pwr.aux) g)
  have h11 := e _ (a.testBit 11) (b.testBit 11) _ _ _ (congrArg (fun z => z.pwr.onMask) h) (congrArg (fun z =>
      z.pwr.onMask) g)
  have h12 := e _ (a.testBit 12) (b.testBit 12) _ _ _ (congrArg (fun z => z.pwr.rail) h) (congrArg (fun z =>
      z.pwr.rail) g)
  have h13 := e _ (a.testBit 13) (b.testBit 13) _ _ _ (congrArg (fun z => z.pwr.ramping) h) (congrArg (fun z =>
      z.pwr.ramping) g)
  have h14 := e _ (a.testBit 14) (b.testBit 14) _ _ _ (congrArg (fun z => z.pwr.goodPolls) h) (congrArg (fun z =>
      z.pwr.goodPolls) g)
  have h15 := e _ (a.testBit 15) (b.testBit 15) _ _ _ (congrArg (fun z => z.pwr.lastBad) h) (congrArg (fun z =>
      z.pwr.lastBad) g)
  have h16 := e _ (a.testBit 16) (b.testBit 16) _ _ _ (congrArg (fun z => z.pwr.discharged) h) (congrArg (fun z =>
      z.pwr.discharged) g)
  have h17 := e _ (a.testBit 17) (b.testBit 17) _ _ _ (congrArg (fun z => z.pwr.pfCount) h) (congrArg (fun z =>
      z.pwr.pfCount) g)
  have h18 := e _ (a.testBit 18) (b.testBit 18) _ _ _ (congrArg (fun z => z.pwr.high100) h) (congrArg (fun z =>
      z.pwr.high100) g)
  have h19 := e _ (a.testBit 19) (b.testBit 19) _ _ _ (congrArg (fun z => z.pwr.dirtySet) h) (congrArg (fun z =>
      z.pwr.dirtySet) g)
  have h20 := e _ (a.testBit 20) (b.testBit 20) _ _ _ (congrArg (fun z => z.pwr.cause) h) (congrArg (fun z =>
      z.pwr.cause) g)
  have h21 := e _ (a.testBit 21) (b.testBit 21) _ _ _ (congrArg (fun z => z.pwr.after) h) (congrArg (fun z =>
      z.pwr.after) g)
  have h22 := e _ (a.testBit 22) (b.testBit 22) _ _ _ (congrArg (fun z => z.pwr.shelfOff) h) (congrArg (fun z =>
      z.pwr.shelfOff) g)
  have h23 := e _ (a.testBit 23) (b.testBit 23) _ _ _ (congrArg (fun z => z.pwr.keptOn) h) (congrArg (fun z =>
      z.pwr.keptOn) g)
  have h24 := e _ (a.testBit 24) (b.testBit 24) _ _ _ (congrArg (fun z => z.pwr.offStroke) h) (congrArg (fun z =>
      z.pwr.offStroke) g)
  have h25 := e _ (a.testBit 25) (b.testBit 25) _ _ _ (congrArg (fun z => z.pwr.mediaWait) h) (congrArg (fun z =>
      z.pwr.mediaWait) g)
  have h26 := e _ (a.testBit 26) (b.testBit 26) _ _ _ (congrArg (fun z => z.pwr.mediaStopped) h) (congrArg (fun z
      => z.pwr.mediaStopped) g)
  have h27 := e _ (a.testBit 27) (b.testBit 27) _ _ _ (congrArg (fun z => z.pwr.fpReset) h) (congrArg (fun z =>
      z.pwr.fpReset) g)
  have h28 := e _ (a.testBit 28) (b.testBit 28) _ _ _ (congrArg (fun z => z.pwr.pmicRead) h) (congrArg (fun z =>
      z.pwr.pmicRead) g)
  have h29 := e _ (a.testBit 29) (b.testBit 29) _ _ _ (congrArg (fun z => z.pwr.hungRecord) h) (congrArg (fun z =>
      z.pwr.hungRecord) g)
  have h30 := e _ (a.testBit 30) (b.testBit 30) _ _ _ (congrArg (fun z => z.pwr.pkgRun) h) (congrArg (fun z =>
      z.pwr.pkgRun) g)
  have h31 := e _ (a.testBit 31) (b.testBit 31) _ _ _ (congrArg (fun z => z.pwr.mediaDown) h) (congrArg (fun z =>
      z.pwr.mediaDown) g)
  have h32 := e _ (a.testBit 32) (b.testBit 32) _ _ _ (congrArg (fun z => z.pwr.downPolls) h) (congrArg (fun z =>
      z.pwr.downPolls) g)
  have h33 := e _ (a.testBit 33) (b.testBit 33) _ _ _ (congrArg (fun z => z.pwr.thermtripN) h) (congrArg (fun z =>
      z.pwr.thermtripN) g)
  have h34 := e _ (a.testBit 34) (b.testBit 34) _ _ _ (congrArg (fun z => z.start.step2) h) (congrArg (fun z =>
      z.start.step2) g)
  have h35 := e _ (a.testBit 35) (b.testBit 35) _ _ _ (congrArg (fun z => z.start.step3) h) (congrArg (fun z =>
      z.start.step3) g)
  have h36 := e _ (a.testBit 36) (b.testBit 36) _ _ _ (congrArg (fun z => z.start.hbmTrained) h) (congrArg (fun z
      => z.start.hbmTrained) g)
  have h37 := e _ (a.testBit 37) (b.testBit 37) _ _ _ (congrArg (fun z => z.start.step5) h) (congrArg (fun z =>
      z.start.step5) g)
  have h38 := e _ (a.testBit 38) (b.testBit 38) _ _ _ (congrArg (fun z => z.start.step6) h) (congrArg (fun z =>
      z.start.step6) g)
  have h39 := e _ (a.testBit 39) (b.testBit 39) _ _ _ (congrArg (fun z => z.start.rebuilding) h) (congrArg (fun z
      => z.start.rebuilding) g)
  have h40 := e _ (a.testBit 40) (b.testBit 40) _ _ _ (congrArg (fun z => z.start.step7) h) (congrArg (fun z =>
      z.start.step7) g)
  have h41 := e _ (a.testBit 41) (b.testBit 41) _ _ _ (congrArg (fun z => z.start.step8) h) (congrArg (fun z =>
      z.start.step8) g)
  have h42 := e _ (a.testBit 42) (b.testBit 42) _ _ _ (congrArg (fun z => z.start.step9) h) (congrArg (fun z =>
      z.start.step9) g)
  have h43 := e _ (a.testBit 43) (b.testBit 43) _ _ _ (congrArg (fun z => z.start.stopped) h) (congrArg (fun z =>
      z.start.stopped) g)
  have h44 := e _ (a.testBit 44) (b.testBit 44) _ _ _ (congrArg (fun z => z.start.hbmTries) h) (congrArg (fun z =>
      z.start.hbmTries) g)
  have h45 := e _ (a.testBit 45) (b.testBit 45) _ _ _ (congrArg (fun z => z.start.bootSel) h) (congrArg (fun z =>
      z.start.bootSel) g)
  have h46 := e _ (a.testBit 46) (b.testBit 46) _ _ _ (congrArg (fun z => z.start.row) h) (congrArg (fun z =>
      z.start.row) g)
  have h47 := e _ (a.testBit 47) (b.testBit 47) _ _ _ (congrArg (fun z => z.start.readMarker) h) (congrArg (fun z
      => z.start.readMarker) g)
  have h48 := e _ (a.testBit 48) (b.testBit 48) _ _ _ (congrArg (fun z => z.start.first) h) (congrArg (fun z =>
      z.start.first) g)
  have h49 := e _ (a.testBit 49) (b.testBit 49) _ _ _ (congrArg (fun z => z.start.warm) h) (congrArg (fun z =>
      z.start.warm) g)
  have h50 := e _ (a.testBit 50) (b.testBit 50) _ _ _ (congrArg (fun z => z.start.warmLoss) h) (congrArg (fun z =>
      z.start.warmLoss) g)
  have h51 := e _ (a.testBit 51) (b.testBit 51) _ _ _ (congrArg (fun z => z.start.copying) h) (congrArg (fun z =>
      z.start.copying) g)
  have h52 := e _ (a.testBit 52) (b.testBit 52) _ _ _ (congrArg (fun z => z.keep.shadow) h) (congrArg (fun z =>
      z.keep.shadow) g)
  have h53 := e _ (a.testBit 53) (b.testBit 53) _ _ _ (congrArg (fun z => z.keep.seq) h) (congrArg (fun z =>
      z.keep.seq) g)
  have h54 := e _ (a.testBit 54) (b.testBit 54) _ _ _ (congrArg (fun z => z.keep.sectors) h) (congrArg (fun z =>
      z.keep.sectors) g)
  have h55 := e _ (a.testBit 55) (b.testBit 55) _ _ _ (congrArg (fun z => z.keep.abandoned) h) (congrArg (fun z =>
      z.keep.abandoned) g)
  have h56 := e _ (a.testBit 56) (b.testBit 56) _ _ _ (congrArg (fun z => z.keep.degraded) h) (congrArg (fun z =>
      z.keep.degraded) g)
  have h57 := e _ (a.testBit 57) (b.testBit 57) _ _ _ (congrArg (fun z => z.keep.eraseFails) h) (congrArg (fun z
      => z.keep.eraseFails) g)
  have h58 := e _ (a.testBit 58) (b.testBit 58) _ _ _ (congrArg (fun z => z.keep.queue) h) (congrArg (fun z =>
      z.keep.queue) g)
  have h59 := e _ (a.testBit 59) (b.testBit 59) _ _ _ (congrArg (fun z => z.keep.lost) h) (congrArg (fun z =>
      z.keep.lost) g)
  have h60 := e _ (a.testBit 60) (b.testBit 60) _ _ _ (congrArg (fun z => z.keep.toErase) h) (congrArg (fun z =>
      z.keep.toErase) g)
  have h61 := e _ (a.testBit 61) (b.testBit 61) _ _ _ (congrArg (fun z => z.keep.groupPages) h) (congrArg (fun z
      => z.keep.groupPages) g)
  have h62 := e _ (a.testBit 62) (b.testBit 62) _ _ _ (congrArg (fun z => z.keep.groupCounter) h) (congrArg (fun z
      => z.keep.groupCounter) g)
  have h63 := e _ (a.testBit 63) (b.testBit 63) _ _ _ (congrArg (fun z => z.keep.optime) h) (congrArg (fun z =>
      z.keep.optime) g)
  have h64 := e _ (a.testBit 64) (b.testBit 64) _ _ _ (congrArg (fun z => z.keep.pcycle) h) (congrArg (fun z =>
      z.keep.pcycle) g)
  have h65 := e _ (a.testBit 65) (b.testBit 65) _ _ _ (congrArg (fun z => z.keep.bytes) h) (congrArg (fun z =>
      z.keep.bytes) g)
  have h66 := e _ (a.testBit 66) (b.testBit 66) _ _ _ (congrArg (fun z => z.keep.byteLines) h) (congrArg (fun z =>
      z.keep.byteLines) g)
  have h67 := e _ (a.testBit 67) (b.testBit 67) _ _ _ (congrArg (fun z => z.keep.timeStrokes) h) (congrArg (fun z
      => z.keep.timeStrokes) g)
  have h68 := e _ (a.testBit 68) (b.testBit 68) _ _ _ (congrArg (fun z => z.keep.op) h) (congrArg (fun z =>
      z.keep.op) g)
  have h69 := e _ (a.testBit 69) (b.testBit 69) _ _ _ (congrArg (fun z => z.keep.suspended) h) (congrArg (fun z =>
      z.keep.suspended) g)
  have h70 := e _ (a.testBit 70) (b.testBit 70) _ _ _ (congrArg (fun z => z.chron.perm) h) (congrArg (fun z =>
      z.chron.perm) g)
  have h71 := e _ (a.testBit 71) (b.testBit 71) _ _ _ (congrArg (fun z => z.chron.ring) h) (congrArg (fun z =>
      z.chron.ring) g)
  have h72 := e _ (a.testBit 72) (b.testBit 72) _ _ _ (congrArg (fun z => z.chron.head) h) (congrArg (fun z =>
      z.chron.head) g)
  have h73 := e _ (a.testBit 73) (b.testBit 73) _ _ _ (congrArg (fun z => z.chron.sectorSeq) h) (congrArg (fun z
      => z.chron.sectorSeq) g)
  have h74 := e _ (a.testBit 74) (b.testBit 74) _ _ _ (congrArg (fun z => z.chron.buffer) h) (congrArg (fun z =>
      z.chron.buffer) g)
  have h75 := e _ (a.testBit 75) (b.testBit 75) _ _ _ (congrArg (fun z => z.chron.nextSerial) h) (congrArg (fun z
      => z.chron.nextSerial) g)
  have h76 := e _ (a.testBit 76) (b.testBit 76) _ _ _ (congrArg (fun z => z.chron.runs) h) (congrArg (fun z =>
      z.chron.runs) g)
  have h77 := e _ (a.testBit 77) (b.testBit 77) _ _ _ (congrArg (fun z => z.chron.dropped) h) (congrArg (fun z =>
      z.chron.dropped) g)
  have h78 := e _ (a.testBit 78) (b.testBit 78) _ _ _ (congrArg (fun z => z.chron.bad) h) (congrArg (fun z =>
      z.chron.bad) g)
  have h79 := e _ (a.testBit 79) (b.testBit 79) _ _ _ (congrArg (fun z => z.events.info) h) (congrArg (fun z =>
      z.events.info) g)
  have h80 := e _ (a.testBit 80) (b.testBit 80) _ _ _ (congrArg (fun z => z.events.warn) h) (congrArg (fun z =>
      z.events.warn) g)
  have h81 := e _ (a.testBit 81) (b.testBit 81) _ _ _ (congrArg (fun z => z.events.fail) h) (congrArg (fun z =>
      z.events.fail) g)
  have h82 := e _ (a.testBit 82) (b.testBit 82) _ _ _ (congrArg (fun z => z.events.fatal) h) (congrArg (fun z =>
      z.events.fatal) g)
  have h83 := e _ (a.testBit 83) (b.testBit 83) _ _ _ (congrArg (fun z => z.events.lastHandle) h) (congrArg (fun z
      => z.events.lastHandle) g)
  have h84 := e _ (a.testBit 84) (b.testBit 84) _ _ _ (congrArg (fun z => z.events.policy) h) (congrArg (fun z =>
      z.events.policy) g)
  have h85 := e _ (a.testBit 85) (b.testBit 85) _ _ _ (congrArg (fun z => z.events.orphanSeen) h) (congrArg (fun z
      => z.events.orphanSeen) g)
  have h86 := e _ (a.testBit 86) (b.testBit 86) _ _ _ (congrArg (fun z => z.events.paritySeen) h) (congrArg (fun z
      => z.events.paritySeen) g)
  have h87 := e _ (a.testBit 87) (b.testBit 87) _ _ _ (congrArg (fun z => z.prot.ranges) h) (congrArg (fun z =>
      z.prot.ranges) g)
  have h88 := e _ (a.testBit 88) (b.testBit 88) _ _ _ (congrArg (fun z => z.prot.slots) h) (congrArg (fun z =>
      z.prot.slots) g)
  have h89 := e _ (a.testBit 89) (b.testBit 89) _ _ _ (congrArg (fun z => z.prot.integState) h) (congrArg (fun z
      => z.prot.integState) g)
  have h90 := e _ (a.testBit 90) (b.testBit 90) _ _ _ (congrArg (fun z => z.prot.granules) h) (congrArg (fun z =>
      z.prot.granules) g)
  have h91 := e _ (a.testBit 91) (b.testBit 91) _ _ _ (congrArg (fun z => z.prot.roots) h) (congrArg (fun z =>
      z.prot.roots) g)
  have h92 := e _ (a.testBit 92) (b.testBit 92) _ _ _ (congrArg (fun z => z.prot.lineCounters) h) (congrArg (fun z
      => z.prot.lineCounters) g)
  have h93 := e _ (a.testBit 93) (b.testBit 93) _ _ _ (congrArg (fun z => z.prot.dirtyNodes) h) (congrArg (fun z
      => z.prot.dirtyNodes) g)
  have h94 := e _ (a.testBit 94) (b.testBit 94) _ _ _ (congrArg (fun z => z.prot.slotBad) h) (congrArg (fun z =>
      z.prot.slotBad) g)
  have h95 := e _ (a.testBit 95) (b.testBit 95) _ _ _ (congrArg (fun z => z.prot.slotLost) h) (congrArg (fun z =>
      z.prot.slotLost) g)
  have h96 := e _ (a.testBit 96) (b.testBit 96) _ _ _ (congrArg (fun z => z.prot.officers) h) (congrArg (fun z =>
      z.prot.officers) g)
  have h97 := e _ (a.testBit 97) (b.testBit 97) _ _ _ (congrArg (fun z => z.prot.nonces) h) (congrArg (fun z =>
      z.prot.nonces) g)
  have h98 := e _ (a.testBit 98) (b.testBit 98) _ _ _ (congrArg (fun z => z.prot.lodged) h) (congrArg (fun z =>
      z.prot.lodged) g)
  have h99 := e _ (a.testBit 99) (b.testBit 99) _ _ _ (congrArg (fun z => z.prot.applied) h) (congrArg (fun z =>
      z.prot.applied) g)
  have h100 := e _ (a.testBit 100) (b.testBit 100) _ _ _ (congrArg (fun z => z.prot.bindings) h) (congrArg (fun z
      => z.prot.bindings) g)
  have h101 := e _ (a.testBit 101) (b.testBit 101) _ _ _ (congrArg (fun z => z.prot.anchor) h) (congrArg (fun z =>
      z.prot.anchor) g)
  have h102 := e _ (a.testBit 102) (b.testBit 102) _ _ _ (congrArg (fun z => z.prot.eraseAuth) h) (congrArg (fun z
      => z.prot.eraseAuth) g)
  have h103 := e _ (a.testBit 103) (b.testBit 103) _ _ _ (congrArg (fun z => z.prot.unlock) h) (congrArg (fun z =>
      z.prot.unlock) g)
  have h104 := e _ (a.testBit 104) (b.testBit 104) _ _ _ (congrArg (fun z => z.prot.testAccess) h) (congrArg (fun
      z => z.prot.testAccess) g)
  have h105 := e _ (a.testBit 105) (b.testBit 105) _ _ _ (congrArg (fun z => z.prot.challenge) h) (congrArg (fun z
      => z.prot.challenge) g)
  have h106 := e _ (a.testBit 106) (b.testBit 106) _ _ _ (congrArg (fun z => z.prot.rekeys) h) (congrArg (fun z =>
      z.prot.rekeys) g)
  have h107 := e _ (a.testBit 107) (b.testBit 107) _ _ _ (congrArg (fun z => z.prot.eraseLeft) h) (congrArg (fun z
      => z.prot.eraseLeft) g)
  have h108 := e _ (a.testBit 108) (b.testBit 108) _ _ _ (congrArg (fun z => z.prot.erasePath) h) (congrArg (fun z
      => z.prot.erasePath) g)
  have h109 := e _ (a.testBit 109) (b.testBit 109) _ _ _ (congrArg (fun z => z.prot.ide) h) (congrArg (fun z =>
      z.prot.ide) g)
  have h110 := e _ (a.testBit 110) (b.testBit 110) _ _ _ (congrArg (fun z => z.prot.spdm) h) (congrArg (fun z =>
      z.prot.spdm) g)
  have h111 := e _ (a.testBit 111) (b.testBit 111) _ _ _ (congrArg (fun z => z.sessions) h) (congrArg (fun z =>
      z.sessions) g)
  have h112 := e _ (a.testBit 112) (b.testBit 112) _ _ _ (congrArg (fun z => z.reqs) h) (congrArg (fun z => z.reqs) g)
  have h113 := e _ (a.testBit 113) (b.testBit 113) _ _ _ (congrArg (fun z => z.nextRid) h) (congrArg (fun z =>
      z.nextRid) g)
  have h114 := e _ (a.testBit 114) (b.testBit 114) _ _ _ (congrArg (fun z => z.share) h) (congrArg (fun z =>
      z.share) g)
  have h115 := e _ (a.testBit 115) (b.testBit 115) _ _ _ (congrArg (fun z => z.dc) h) (congrArg (fun z => z.dc) g)
  have h116 := e _ (a.testBit 116) (b.testBit 116) _ _ _ (congrArg (fun z => z.decoders) h) (congrArg (fun z =>
      z.decoders) g)
  have h117 := e _ (a.testBit 117) (b.testBit 117) _ _ _ (congrArg (fun z => z.merge.entries) h) (congrArg (fun z
      => z.merge.entries) g)
  have h118 := e _ (a.testBit 118) (b.testBit 118) _ _ _ (congrArg (fun z => z.merge.cells) h) (congrArg (fun z =>
      z.merge.cells) g)
  have h119 := e _ (a.testBit 119) (b.testBit 119) _ _ _ (congrArg (fun z => z.merge.heat) h) (congrArg (fun z =>
      z.merge.heat) g)
  have h120 := e _ (a.testBit 120) (b.testBit 120) _ _ _ (congrArg (fun z => z.merge.points) h) (congrArg (fun z
      => z.merge.points) g)
  have h121 := e _ (a.testBit 121) (b.testBit 121) _ _ _ (congrArg (fun z => z.merge.lastPoint) h) (congrArg (fun
      z => z.merge.lastPoint) g)
  have h122 := e _ (a.testBit 122) (b.testBit 122) _ _ _ (congrArg (fun z => z.merge.pointDone) h) (congrArg (fun
      z => z.merge.pointDone) g)
  have h123 := e _ (a.testBit 123) (b.testBit 123) _ _ _ (congrArg (fun z => z.merge.pointPinned) h) (congrArg
      (fun z => z.merge.pointPinned) g)
  have h124 := e _ (a.testBit 124) (b.testBit 124) _ _ _ (congrArg (fun z => z.merge.marker) h) (congrArg (fun z
      => z.merge.marker) g)
  have h125 := e _ (a.testBit 125) (b.testBit 125) _ _ _ (congrArg (fun z => z.merge.capo) h) (congrArg (fun z =>
      z.merge.capo) g)
  have h126 := e _ (a.testBit 126) (b.testBit 126) _ _ _ (congrArg (fun z => z.merge.lost) h) (congrArg (fun z =>
      z.merge.lost) g)
  have h127 := e _ (a.testBit 127) (b.testBit 127) _ _ _ (congrArg (fun z => z.merge.cut) h) (congrArg (fun z =>
      z.merge.cut) g)
  have h128 := e _ (a.testBit 128) (b.testBit 128) _ _ _ (congrArg (fun z => z.merge.capoCredits) h) (congrArg
      (fun z => z.merge.capoCredits) g)
  have h129 := e _ (a.testBit 129) (b.testBit 129) _ _ _ (congrArg (fun z => z.mbox.stored) h) (congrArg (fun z =>
      z.mbox.stored) g)
  have h130 := e _ (a.testBit 130) (b.testBit 130) _ _ _ (congrArg (fun z => z.mbox.bg) h) (congrArg (fun z =>
      z.mbox.bg) g)
  have h131 := e _ (a.testBit 131) (b.testBit 131) _ _ _ (congrArg (fun z => z.mbox.wall) h) (congrArg (fun z =>
      z.mbox.wall) g)
  have h132 := e _ (a.testBit 132) (b.testBit 132) _ _ _ (congrArg (fun z => z.mbox.shutdown) h) (congrArg (fun z
      => z.mbox.shutdown) g)
  have h133 := e _ (a.testBit 133) (b.testBit 133) _ _ _ (congrArg (fun z => z.mbox.alerts) h) (congrArg (fun z =>
      z.mbox.alerts) g)
  have h134 := e _ (a.testBit 134) (b.testBit 134) _ _ _ (congrArg (fun z => z.cache.lines) h) (congrArg (fun z =>
      z.cache.lines) g)
  have h135 := e _ (a.testBit 135) (b.testBit 135) _ _ _ (congrArg (fun z => z.cache.fills) h) (congrArg (fun z =>
      z.cache.fills) g)
  have h136 := e _ (a.testBit 136) (b.testBit 136) _ _ _ (congrArg (fun z => z.cache.busy) h) (congrArg (fun z =>
      z.cache.busy) g)
  have h137 := e _ (a.testBit 137) (b.testBit 137) _ _ _ (congrArg (fun z => z.cache.victims) h) (congrArg (fun z
      => z.cache.victims) g)
  have h138 := e _ (a.testBit 138) (b.testBit 138) _ _ _ (congrArg (fun z => z.cache.purges) h) (congrArg (fun z
      => z.cache.purges) g)
  have h139 := e _ (a.testBit 139) (b.testBit 139) _ _ _ (congrArg (fun z => z.cache.dirWay) h) (congrArg (fun z
      => z.cache.dirWay) g)
  have h140 := e _ (a.testBit 140) (b.testBit 140) _ _ _ (congrArg (fun z => z.cache.dirPlru) h) (congrArg (fun z
      => z.cache.dirPlru) g)
  have h141 := e _ (a.testBit 141) (b.testBit 141) _ _ _ (congrArg (fun z => z.cache.plru) h) (congrArg (fun z =>
      z.cache.plru) g)
  have h142 := e _ (a.testBit 142) (b.testBit 142) _ _ _ (congrArg (fun z => z.cache.enabled) h) (congrArg (fun z
      => z.cache.enabled) g)
  have h143 := e _ (a.testBit 143) (b.testBit 143) _ _ _ (congrArg (fun z => z.cache.cleaning) h) (congrArg (fun z
      => z.cache.cleaning) g)
  have h144 := e _ (a.testBit 144) (b.testBit 144) _ _ _ (congrArg (fun z => z.cache.rc) h) (congrArg (fun z =>
      z.cache.rc) g)
  have h145 := e _ (a.testBit 145) (b.testBit 145) _ _ _ (congrArg (fun z => z.cache.rcOn) h) (congrArg (fun z =>
      z.cache.rcOn) g)
  have h146 := e _ (a.testBit 146) (b.testBit 146) _ _ _ (congrArg (fun z => z.cache.host) h) (congrArg (fun z =>
      z.cache.host) g)
  have h147 := e _ (a.testBit 147) (b.testBit 147) _ _ _ (congrArg (fun z => z.cache.evicting) h) (congrArg (fun z
      => z.cache.evicting) g)
  have h148 := e _ (a.testBit 148) (b.testBit 148) _ _ _ (congrArg (fun z => z.cache.snoops) h) (congrArg (fun z
      => z.cache.snoops) g)
  have h149 := e _ (a.testBit 149) (b.testBit 149) _ _ _ (congrArg (fun z => z.cache.clock) h) (congrArg (fun z =>
      z.cache.clock) g)
  have h150 := e _ (a.testBit 150) (b.testBit 150) _ _ _ (congrArg (fun z => z.cache.biCredits) h) (congrArg (fun
      z => z.cache.biCredits) g)
  have h151 := e _ (a.testBit 151) (b.testBit 151) _ _ _ (congrArg (fun z => z.internals) h) (congrArg (fun z =>
      z.internals) g)
  have h152 := e _ (a.testBit 152) (b.testBit 152) _ _ _ (congrArg (fun z => z.imageOps) h) (congrArg (fun z =>
      z.imageOps) g)
  have h153 := e _ (a.testBit 153) (b.testBit 153) _ _ _ (congrArg (fun z => z.pages) h) (congrArg (fun z =>
      z.pages) g)
  have h154 := e _ (a.testBit 154) (b.testBit 154) _ _ _ (congrArg (fun z => z.ops) h) (congrArg (fun z => z.ops) g)
  have h155 := e _ (a.testBit 155) (b.testBit 155) _ _ _ (congrArg (fun z => z.deltas) h) (congrArg (fun z =>
      z.deltas) g)
  have h156 := e _ (a.testBit 156) (b.testBit 156) _ _ _ (congrArg (fun z => z.chans) h) (congrArg (fun z =>
      z.chans) g)
  have h157 := e _ (a.testBit 157) (b.testBit 157) _ _ _ (congrArg (fun z => z.sched.locked) h) (congrArg (fun z
      => z.sched.locked) g)
  have h158 := e _ (a.testBit 158) (b.testBit 158) _ _ _ (congrArg (fun z => z.sched.last) h) (congrArg (fun z =>
      z.sched.last) g)
  have h159 := e _ (a.testBit 159) (b.testBit 159) _ _ _ (congrArg (fun z => z.sched.jobs) h) (congrArg (fun z =>
      z.sched.jobs) g)
  have h160 := e _ (a.testBit 160) (b.testBit 160) _ _ _ (congrArg (fun z => z.sched.nextJob) h) (congrArg (fun z
      => z.sched.nextJob) g)
  have h161 := e _ (a.testBit 161) (b.testBit 161) _ _ _ (congrArg (fun z => z.sched.late) h) (congrArg (fun z =>
      z.sched.late) g)
  have h162 := e _ (a.testBit 162) (b.testBit 162) _ _ _ (congrArg (fun z => z.sched.capoAsk) h) (congrArg (fun z
      => z.sched.capoAsk) g)
  have h163 := e _ (a.testBit 163) (b.testBit 163) _ _ _ (congrArg (fun z => z.sched.back) h) (congrArg (fun z =>
      z.sched.back) g)
  have h164 := e _ (a.testBit 164) (b.testBit 164) _ _ _ (congrArg (fun z => z.sched.moved) h) (congrArg (fun z =>
      z.sched.moved) g)
  have h165 := e _ (a.testBit 165) (b.testBit 165) _ _ _ (congrArg (fun z => z.sched.demand) h) (congrArg (fun z
      => z.sched.demand) g)
  have h166 := e _ (a.testBit 166) (b.testBit 166) _ _ _ (congrArg (fun z => z.sched.now) h) (congrArg (fun z =>
      z.sched.now) g)
  have h167 := e _ (a.testBit 167) (b.testBit 167) _ _ _ (congrArg (fun z => z.sched.skew) h) (congrArg (fun z =>
      z.sched.skew) g)
  have h168 := e _ (a.testBit 168) (b.testBit 168) _ _ _ (congrArg (fun z => z.sched.since) h) (congrArg (fun z =>
      z.sched.since) g)
  have h169 := e _ (a.testBit 169) (b.testBit 169) _ _ _ (congrArg (fun z => z.xlat.tracts) h) (congrArg (fun z =>
      z.xlat.tracts) g)
  have h170 := e _ (a.testBit 170) (b.testBit 170) _ _ _ (congrArg (fun z => z.xlat.fluid) h) (congrArg (fun z =>
      z.xlat.fluid) g)
  have h171 := e _ (a.testBit 171) (b.testBit 171) _ _ _ (congrArg (fun z => z.xlat.blocks) h) (congrArg (fun z =>
      z.xlat.blocks) g)
  have h172 := e _ (a.testBit 172) (b.testBit 172) _ _ _ (congrArg (fun z => z.xlat.valid) h) (congrArg (fun z =>
      z.xlat.valid) g)
  have h173 := e _ (a.testBit 173) (b.testBit 173) _ _ _ (congrArg (fun z => z.xlat.opens) h) (congrArg (fun z =>
      z.xlat.opens) g)
  have h174 := e _ (a.testBit 174) (b.testBit 174) _ _ _ (congrArg (fun z => z.xlat.nextHot) h) (congrArg (fun z
      => z.xlat.nextHot) g)
  have h175 := e _ (a.testBit 175) (b.testBit 175) _ _ _ (congrArg (fun z => z.xlat.nextCold) h) (congrArg (fun z
      => z.xlat.nextCold) g)
  have h176 := e _ (a.testBit 176) (b.testBit 176) _ _ _ (congrArg (fun z => z.xlat.precondQ) h) (congrArg (fun z
      => z.xlat.precondQ) g)
  have h177 := e _ (a.testBit 177) (b.testBit 177) _ _ _ (congrArg (fun z => z.xlat.seq) h) (congrArg (fun z =>
      z.xlat.seq) g)
  have h178 := e _ (a.testBit 178) (b.testBit 178) _ _ _ (congrArg (fun z => z.xlat.sbe) h) (congrArg (fun z =>
      z.xlat.sbe) g)
  have h179 := e _ (a.testBit 179) (b.testBit 179) _ _ _ (congrArg (fun z => z.xlat.moves) h) (congrArg (fun z =>
      z.xlat.moves) g)
  have h180 := e _ (a.testBit 180) (b.testBit 180) _ _ _ (congrArg (fun z => z.xlat.moveQ) h) (congrArg (fun z =>
      z.xlat.moveQ) g)
  have h181 := e _ (a.testBit 181) (b.testBit 181) _ _ _ (congrArg (fun z => z.xlat.copies) h) (congrArg (fun z =>
      z.xlat.copies) g)
  have h182 := e _ (a.testBit 182) (b.testBit 182) _ _ _ (congrArg (fun z => z.xlat.settles) h) (congrArg (fun z
      => z.xlat.settles) g)
  have h183 := e _ (a.testBit 183) (b.testBit 183) _ _ _ (congrArg (fun z => z.xlat.gather) h) (congrArg (fun z =>
      z.xlat.gather) g)
  have h184 := e _ (a.testBit 184) (b.testBit 184) _ _ _ (congrArg (fun z => z.xlat.better) h) (congrArg (fun z =>
      z.xlat.better) g)
  have h185 := e _ (a.testBit 185) (b.testBit 185) _ _ _ (congrArg (fun z => z.xlat.whole) h) (congrArg (fun z =>
      z.xlat.whole) g)
  have h186 := e _ (a.testBit 186) (b.testBit 186) _ _ _ (congrArg (fun z => z.xlat.failedSlots) h) (congrArg (fun
      z => z.xlat.failedSlots) g)
  have h187 := e _ (a.testBit 187) (b.testBit 187) _ _ _ (congrArg (fun z => z.xlat.badParity) h) (congrArg (fun z
      => z.xlat.badParity) g)
  have h188 := e _ (a.testBit 188) (b.testBit 188) _ _ _ (congrArg (fun z => z.xlat.evac) h) (congrArg (fun z =>
      z.xlat.evac) g)
  have h189 := e _ (a.testBit 189) (b.testBit 189) _ _ _ (congrArg (fun z => z.xlat.checkpoints) h) (congrArg (fun
      z => z.xlat.checkpoints) g)
  have h190 := e _ (a.testBit 190) (b.testBit 190) _ _ _ (congrArg (fun z => z.xlat.again) h) (congrArg (fun z =>
      z.xlat.again) g)
  have h191 := e _ (a.testBit 191) (b.testBit 191) _ _ _ (congrArg (fun z => z.xlat.heatEpochs) h) (congrArg (fun
      z => z.xlat.heatEpochs) g)
  have h192 := e _ (a.testBit 192) (b.testBit 192) _ _ _ (congrArg (fun z => z.err.poison) h) (congrArg (fun z =>
      z.err.poison) g)
  have h193 := e _ (a.testBit 193) (b.testBit 193) _ _ _ (congrArg (fun z => z.err.poisonLost) h) (congrArg (fun z
      => z.err.poisonLost) g)
  have h194 := e _ (a.testBit 194) (b.testBit 194) _ _ _ (congrArg (fun z => z.err.patrolPos) h) (congrArg (fun z
      => z.err.patrolPos) g)
  have h195 := e _ (a.testBit 195) (b.testBit 195) _ _ _ (congrArg (fun z => z.err.patrolStart) h) (congrArg (fun
      z => z.err.patrolStart) g)
  have h196 := e _ (a.testBit 196) (b.testBit 196) _ _ _ (congrArg (fun z => z.err.visited) h) (congrArg (fun z =>
      z.err.visited) g)
  have h197 := e _ (a.testBit 197) (b.testBit 197) _ _ _ (congrArg (fun z => z.err.refresh) h) (congrArg (fun z =>
      z.err.refresh) g)
  have h198 := e _ (a.testBit 198) (b.testBit 198) _ _ _ (congrArg (fun z => z.err.rewrites) h) (congrArg (fun z
      => z.err.rewrites) g)
  have h199 := e _ (a.testBit 199) (b.testBit 199) _ _ _ (congrArg (fun z => z.err.scrub) h) (congrArg (fun z =>
      z.err.scrub) g)
  have h200 := e _ (a.testBit 200) (b.testBit 200) _ _ _ (congrArg (fun z => z.err.scanResults) h) (congrArg (fun
      z => z.err.scanResults) g)
  have h201 := e _ (a.testBit 201) (b.testBit 201) _ _ _ (congrArg (fun z => z.err.wake) h) (congrArg (fun z =>
      z.err.wake) g)
  have h202 := e _ (a.testBit 202) (b.testBit 202) _ _ _ (congrArg (fun z => z.err.ageStrokes) h) (congrArg (fun z
      => z.err.ageStrokes) g)
  have h203 := e _ (a.testBit 203) (b.testBit 203) _ _ _ (congrArg (fun z => z.err.e) h) (congrArg (fun z =>
      z.err.e) g)
  have h204 := e _ (a.testBit 204) (b.testBit 204) _ _ _ (congrArg (fun z => z.err.eSaved) h) (congrArg (fun z =>
      z.err.eSaved) g)
  have h205 := e _ (a.testBit 205) (b.testBit 205) _ _ _ (congrArg (fun z => z.err.lastHealth) h) (congrArg (fun z
      => z.err.lastHealth) g)
  have h206 := e _ (a.testBit 206) (b.testBit 206) _ _ _ (congrArg (fun z => z.err.lastMedia) h) (congrArg (fun z
      => z.err.lastMedia) g)
  have h207 := e _ (a.testBit 207) (b.testBit 207) _ _ _ (congrArg (fun z => z.err.temp) h) (congrArg (fun z =>
      z.err.temp) g)
  have h208 := e _ (a.testBit 208) (b.testBit 208) _ _ _ (congrArg (fun z => z.err.lastUncorrHi) h) (congrArg (fun
      z => z.err.lastUncorrHi) g)
  have h209 := e _ (a.testBit 209) (b.testBit 209) _ _ _ (congrArg (fun z => z.img.tAge) h) (congrArg (fun z =>
      z.img.tAge) g)
  have h210 := e _ (a.testBit 210) (b.testBit 210) _ _ _ (congrArg (fun z => z.img.arrayRead) h) (congrArg (fun z
      => z.img.arrayRead) g)
  have h211 := e _ (a.testBit 211) (b.testBit 211) _ _ _ (congrArg (fun z => z.img.suspend) h) (congrArg (fun z =>
      z.img.suspend) g)
  have h212 := e _ (a.testBit 212) (b.testBit 212) _ _ _ (congrArg (fun z => z.img.cls) h) (congrArg (fun z =>
      z.img.cls) g)
  have h213 := e _ (a.testBit 213) (b.testBit 213) _ _ _ (congrArg (fun z => z.img.version) h) (congrArg (fun z =>
      z.img.version) g)
  have h214 := e _ (a.testBit 214) (b.testBit 214) _ _ _ (congrArg (fun z => z.img.compact) h) (congrArg (fun z =>
      z.img.compact) g)
  have h215 := e _ (a.testBit 215) (b.testBit 215) _ _ _ (congrArg (fun z => z.img.dieTypes) h) (congrArg (fun z
      => z.img.dieTypes) g)
  have h216 := e _ (a.testBit 216) (b.testBit 216) _ _ _ (congrArg (fun z => z.shelf.listening) h) (congrArg (fun
      z => z.shelf.listening) g)
  have h217 := e _ (a.testBit 217) (b.testBit 217) _ _ _ (congrArg (fun z => z.shelf.claiming) h) (congrArg (fun z
      => z.shelf.claiming) g)
  have h218 := e _ (a.testBit 218) (b.testBit 218) _ _ _ (congrArg (fun z => z.shelf.claimed) h) (congrArg (fun z
      => z.shelf.claimed) g)
  have h219 := e _ (a.testBit 219) (b.testBit 219) _ _ _ (congrArg (fun z => z.shelf.yieldTo) h) (congrArg (fun z
      => z.shelf.yieldTo) g)
  have h220 := e _ (a.testBit 220) (b.testBit 220) _ _ _ (congrArg (fun z => z.shelf.conflictDue) h) (congrArg
      (fun z => z.shelf.conflictDue) g)
  have h221 := e _ (a.testBit 221) (b.testBit 221) _ _ _ (congrArg (fun z => z.shelf.beaconNow) h) (congrArg (fun
      z => z.shelf.beaconNow) g)
  have h222 := e _ (a.testBit 222) (b.testBit 222) _ _ _ (congrArg (fun z => z.shelf.beaconless) h) (congrArg (fun
      z => z.shelf.beaconless) g)
  have h223 := e _ (a.testBit 223) (b.testBit 223) _ _ _ (congrArg (fun z => z.shelf.mgr) h) (congrArg (fun z =>
      z.shelf.mgr) g)
  have h224 := e _ (a.testBit 224) (b.testBit 224) _ _ _ (congrArg (fun z => z.shelf.dups) h) (congrArg (fun z =>
      z.shelf.dups) g)
  have h225 := e _ (a.testBit 225) (b.testBit 225) _ _ _ (congrArg (fun z => z.shelf.epoch) h) (congrArg (fun z =>
      z.shelf.epoch) g)
  have h226 := e _ (a.testBit 226) (b.testBit 226) _ _ _ (congrArg (fun z => z.shelf.records) h) (congrArg (fun z
      => z.shelf.records) g)
  have h227 := e _ (a.testBit 227) (b.testBit 227) _ _ _ (congrArg (fun z => z.shelf.keptEpoch) h) (congrArg (fun
      z => z.shelf.keptEpoch) g)
  have h228 := e _ (a.testBit 228) (b.testBit 228) _ _ _ (congrArg (fun z => z.shelf.keptRecords) h) (congrArg
      (fun z => z.shelf.keptRecords) g)
  have h229 := e _ (a.testBit 229) (b.testBit 229) _ _ _ (congrArg (fun z => z.shelf.held) h) (congrArg (fun z =>
      z.shelf.held) g)
  have h230 := e _ (a.testBit 230) (b.testBit 230) _ _ _ (congrArg (fun z => z.shelf.wall) h) (congrArg (fun z =>
      z.shelf.wall) g)
  have h231 := e _ (a.testBit 231) (b.testBit 231) _ _ _ (congrArg (fun z => z.shelf.seqOut) h) (congrArg (fun z
      => z.shelf.seqOut) g)
  have h232 := e _ (a.testBit 232) (b.testBit 232) _ _ _ (congrArg (fun z => z.shelf.cmds) h) (congrArg (fun z =>
      z.shelf.cmds) g)
  have h233 := e _ (a.testBit 233) (b.testBit 233) _ _ _ (congrArg (fun z => z.shelf.ops) h) (congrArg (fun z =>
      z.shelf.ops) g)
  have h234 := e _ (a.testBit 234) (b.testBit 234) _ _ _ (congrArg (fun z => z.shelf.nextOp) h) (congrArg (fun z
      => z.shelf.nextOp) g)
  have h235 := e _ (a.testBit 235) (b.testBit 235) _ _ _ (congrArg (fun z => z.shelf.members) h) (congrArg (fun z
      => z.shelf.members) g)
  have h236 := e _ (a.testBit 236) (b.testBit 236) _ _ _ (congrArg (fun z => z.shelf.status) h) (congrArg (fun z
      => z.shelf.status) g)
  have h237 := e _ (a.testBit 237) (b.testBit 237) _ _ _ (congrArg (fun z => z.shelf.slotQ) h) (congrArg (fun z =>
      z.shelf.slotQ) g)
  have h238 := e _ (a.testBit 238) (b.testBit 238) _ _ _ (congrArg (fun z => z.shelf.lastGrant) h) (congrArg (fun
      z => z.shelf.lastGrant) g)
  have h239 := e _ (a.testBit 239) (b.testBit 239) _ _ _ (congrArg (fun z => z.shelf.grants) h) (congrArg (fun z
      => z.shelf.grants) g)
  have h240 := e _ (a.testBit 240) (b.testBit 240) _ _ _ (congrArg (fun z => z.shelf.ack) h) (congrArg (fun z =>
      z.shelf.ack) g)
  have h241 := e _ (a.testBit 241) (b.testBit 241) _ _ _ (congrArg (fun z => z.shelf.pointReport) h) (congrArg
      (fun z => z.shelf.pointReport) g)
  have h242 := e _ (a.testBit 242) (b.testBit 242) _ _ _ (congrArg (fun z => z.shelf.point) h) (congrArg (fun z =>
      z.shelf.point) g)
  have h243 := e _ (a.testBit 243) (b.testBit 243) _ _ _ (congrArg (fun z => z.shelf.act) h) (congrArg (fun z =>
      z.shelf.act) g)
  have h244 := e _ (a.testBit 244) (b.testBit 244) _ _ _ (congrArg (fun z => z.shelf.actSent) h) (congrArg (fun z
      => z.shelf.actSent) g)
  have h245 := e _ (a.testBit 245) (b.testBit 245) _ _ _ (congrArg (fun z => z.shelf.actMembers) h) (congrArg (fun
      z => z.shelf.actMembers) g)
  have h246 := e _ (a.testBit 246) (b.testBit 246) _ _ _ (congrArg (fun z => z.shelf.stepDue) h) (congrArg (fun z
      => z.shelf.stepDue) g)
  have h247 := e _ (a.testBit 247) (b.testBit 247) _ _ _ (congrArg (fun z => z.shelf.follow) h) (congrArg (fun z
      => z.shelf.follow) g)
  have h248 := e _ (a.testBit 248) (b.testBit 248) _ _ _ (congrArg (fun z => z.shelf.sinceStep) h) (congrArg (fun
      z => z.shelf.sinceStep) g)
  have h249 := e _ (a.testBit 249) (b.testBit 249) _ _ _ (congrArg (fun z => z.shelf.pulseNow) h) (congrArg (fun z
      => z.shelf.pulseNow) g)
  have h250 := e _ (a.testBit 250) (b.testBit 250) _ _ _ (congrArg (fun z => z.shelf.pulseless) h) (congrArg (fun
      z => z.shelf.pulseless) g)
  have h251 := e _ (a.testBit 251) (b.testBit 251) _ _ _ (congrArg (fun z => z.shelf.pulses) h) (congrArg (fun z
      => z.shelf.pulses) g)
  have h252 := e _ (a.testBit 252) (b.testBit 252) _ _ _ (congrArg (fun z => z.shelf.granted) h) (congrArg (fun z
      => z.shelf.granted) g)
  have h253 := e _ (a.testBit 253) (b.testBit 253) _ _ _ (congrArg (fun z => z.shelf.slew) h) (congrArg (fun z =>
      z.shelf.slew) g)
  have h254 := e _ (a.testBit 254) (b.testBit 254) _ _ _ (congrArg (fun z => z.shelf.timeKnown) h) (congrArg (fun
      z => z.shelf.timeKnown) g)
  have h255 := e _ (a.testBit 255) (b.testBit 255) _ _ _ (congrArg (fun z => z.fw.transfer) h) (congrArg (fun z =>
      z.fw.transfer) g)
  have h256 := e _ (a.testBit 256) (b.testBit 256) _ _ _ (congrArg (fun z => z.fw.cmd) h) (congrArg (fun z =>
      z.fw.cmd) g)
  have h257 := e _ (a.testBit 257) (b.testBit 257) _ _ _ (congrArg (fun z => z.fw.act) h) (congrArg (fun z =>
      z.fw.act) g)
  have h258 := e _ (a.testBit 258) (b.testBit 258) _ _ _ (congrArg (fun z => z.fw.abandoned) h) (congrArg (fun z
      => z.fw.abandoned) g)
  have h259 := e _ (a.testBit 259) (b.testBit 259) _ _ _ (congrArg (fun z => z.fw.oldBank) h) (congrArg (fun z =>
      z.fw.oldBank) g)
  have h260 := e _ (a.testBit 260) (b.testBit 260) _ _ _ (congrArg (fun z => z.fw.oldPrecond) h) (congrArg (fun z
      => z.fw.oldPrecond) g)
  have h261 := e _ (a.testBit 261) (b.testBit 261) _ _ _ (congrArg (fun z => z.telem.cfg) h) (congrArg (fun z =>
      z.telem.cfg) g)
  have h262 := e _ (a.testBit 262) (b.testBit 262) _ _ _ (congrArg (fun z => z.telem.cfgDue) h) (congrArg (fun z
      => z.telem.cfgDue) g)
  have h263 := e _ (a.testBit 263) (b.testBit 263) _ _ _ (congrArg (fun z => z.telem.counts) h) (congrArg (fun z
      => z.telem.counts) g)
  have h264 := e _ (a.testBit 264) (b.testBit 264) _ _ _ (congrArg (fun z => z.telem.cycles) h) (congrArg (fun z
      => z.telem.cycles) g)
  have h265 := e _ (a.testBit 265) (b.testBit 265) _ _ _ (congrArg (fun z => z.telem.bwRead) h) (congrArg (fun z
      => z.telem.bwRead) g)
  have h266 := e _ (a.testBit 266) (b.testBit 266) _ _ _ (congrArg (fun z => z.telem.bwWrite) h) (congrArg (fun z
      => z.telem.bwWrite) g)
  have h267 := e _ (a.testBit 267) (b.testBit 267) _ _ _ (congrArg (fun z => z.telem.bwK) h) (congrArg (fun z =>
      z.telem.bwK) g)
  have h268 := e _ (a.testBit 268) (b.testBit 268) _ _ _ (congrArg (fun z => z.telem.bwStart) h) (congrArg (fun z
      => z.telem.bwStart) g)
  have h269 := e _ (a.testBit 269) (b.testBit 269) _ _ _ (congrArg (fun z => z.telem.bwHeld) h) (congrArg (fun z
      => z.telem.bwHeld) g)
  have h270 := e _ (a.testBit 270) (b.testBit 270) _ _ _ (congrArg (fun z => z.telem.bwHeldK) h) (congrArg (fun z
      => z.telem.bwHeldK) g)
  have h271 := e _ (a.testBit 271) (b.testBit 271) _ _ _ (congrArg (fun z => z.telem.snapAsked) h) (congrArg (fun
      z => z.telem.snapAsked) g)
  have h272 := e _ (a.testBit 272) (b.testBit 272) _ _ _ (congrArg (fun z => z.telem.snapWait) h) (congrArg (fun z
      => z.telem.snapWait) g)
  have h273 := e _ (a.testBit 273) (b.testBit 273) _ _ _ (congrArg (fun z => z.telem.seq) h) (congrArg (fun z =>
      z.telem.seq) g)
  have h274 := e _ (a.testBit 274) (b.testBit 274) _ _ _ (congrArg (fun z => z.telem.head) h) (congrArg (fun z =>
      z.telem.head) g)
  have h275 := e _ (a.testBit 275) (b.testBit 275) _ _ _ (congrArg (fun z => z.telem.shadow) h) (congrArg (fun z
      => z.telem.shadow) g)
  have h276 := e _ (a.testBit 276) (b.testBit 276) _ _ _ (congrArg (fun z => z.telem.dropped) h) (congrArg (fun z
      => z.telem.dropped) g)
  have h277 := e _ (a.testBit 277) (b.testBit 277) _ _ _ (congrArg (fun z => z.telem.ring) h) (congrArg (fun z =>
      z.telem.ring) g)
  have h278 := e _ (a.testBit 278) (b.testBit 278) _ _ _ (congrArg (fun z => z.cfgSpace) h) (congrArg (fun z =>
      z.cfgSpace) g)
  have h279 := e _ (a.testBit 279) (b.testBit 279) _ _ _ (congrArg (fun z => z.bar0) h) (congrArg (fun z => z.bar0) g)
  have h280 := e _ (a.testBit 280) (b.testBit 280) _ _ _ (congrArg (fun z => z.d3) h) (congrArg (fun z => z.d3) g)
  have hpwr : u.pwr = {
      aux := bif a.testBit 10 || b.testBit 10 then u.pwr.aux else s.pwr.aux,
      onMask := bif a.testBit 11 || b.testBit 11 then u.pwr.onMask else s.pwr.onMask,
      rail := bif a.testBit 12 || b.testBit 12 then u.pwr.rail else s.pwr.rail,
      ramping := bif a.testBit 13 || b.testBit 13 then u.pwr.ramping else s.pwr.ramping,
      goodPolls := bif a.testBit 14 || b.testBit 14 then u.pwr.goodPolls else s.pwr.goodPolls,
      lastBad := bif a.testBit 15 || b.testBit 15 then u.pwr.lastBad else s.pwr.lastBad,
      discharged := bif a.testBit 16 || b.testBit 16 then u.pwr.discharged else s.pwr.discharged,
      pfCount := bif a.testBit 17 || b.testBit 17 then u.pwr.pfCount else s.pwr.pfCount,
      high100 := bif a.testBit 18 || b.testBit 18 then u.pwr.high100 else s.pwr.high100,
      dirtySet := bif a.testBit 19 || b.testBit 19 then u.pwr.dirtySet else s.pwr.dirtySet,
      cause := bif a.testBit 20 || b.testBit 20 then u.pwr.cause else s.pwr.cause,
      after := bif a.testBit 21 || b.testBit 21 then u.pwr.after else s.pwr.after,
      shelfOff := bif a.testBit 22 || b.testBit 22 then u.pwr.shelfOff else s.pwr.shelfOff,
      keptOn := bif a.testBit 23 || b.testBit 23 then u.pwr.keptOn else s.pwr.keptOn,
      offStroke := bif a.testBit 24 || b.testBit 24 then u.pwr.offStroke else s.pwr.offStroke,
      mediaWait := bif a.testBit 25 || b.testBit 25 then u.pwr.mediaWait else s.pwr.mediaWait,
      mediaStopped := bif a.testBit 26 || b.testBit 26 then u.pwr.mediaStopped else s.pwr.mediaStopped,
      fpReset := bif a.testBit 27 || b.testBit 27 then u.pwr.fpReset else s.pwr.fpReset,
      pmicRead := bif a.testBit 28 || b.testBit 28 then u.pwr.pmicRead else s.pwr.pmicRead,
      hungRecord := bif a.testBit 29 || b.testBit 29 then u.pwr.hungRecord else s.pwr.hungRecord,
      pkgRun := bif a.testBit 30 || b.testBit 30 then u.pwr.pkgRun else s.pwr.pkgRun,
      mediaDown := bif a.testBit 31 || b.testBit 31 then u.pwr.mediaDown else s.pwr.mediaDown,
      downPolls := bif a.testBit 32 || b.testBit 32 then u.pwr.downPolls else s.pwr.downPolls,
      thermtripN := bif a.testBit 33 || b.testBit 33 then u.pwr.thermtripN else s.pwr.thermtripN } := by
    rw [
        ← h10, ← h11, ← h12, ← h13, ← h14, ← h15, ← h16, ← h17, ← h18, ← h19, ← h20, ← h21, ← h22, ← h23, ← h24,
        ← h25, ← h26, ← h27, ← h28, ← h29, ← h30, ← h31, ← h32, ← h33]
  have hstart : u.start = {
      step2 := bif a.testBit 34 || b.testBit 34 then u.start.step2 else s.start.step2,
      step3 := bif a.testBit 35 || b.testBit 35 then u.start.step3 else s.start.step3,
      hbmTrained := bif a.testBit 36 || b.testBit 36 then u.start.hbmTrained else s.start.hbmTrained,
      step5 := bif a.testBit 37 || b.testBit 37 then u.start.step5 else s.start.step5,
      step6 := bif a.testBit 38 || b.testBit 38 then u.start.step6 else s.start.step6,
      rebuilding := bif a.testBit 39 || b.testBit 39 then u.start.rebuilding else s.start.rebuilding,
      step7 := bif a.testBit 40 || b.testBit 40 then u.start.step7 else s.start.step7,
      step8 := bif a.testBit 41 || b.testBit 41 then u.start.step8 else s.start.step8,
      step9 := bif a.testBit 42 || b.testBit 42 then u.start.step9 else s.start.step9,
      stopped := bif a.testBit 43 || b.testBit 43 then u.start.stopped else s.start.stopped,
      hbmTries := bif a.testBit 44 || b.testBit 44 then u.start.hbmTries else s.start.hbmTries,
      bootSel := bif a.testBit 45 || b.testBit 45 then u.start.bootSel else s.start.bootSel,
      row := bif a.testBit 46 || b.testBit 46 then u.start.row else s.start.row,
      readMarker := bif a.testBit 47 || b.testBit 47 then u.start.readMarker else s.start.readMarker,
      first := bif a.testBit 48 || b.testBit 48 then u.start.first else s.start.first,
      warm := bif a.testBit 49 || b.testBit 49 then u.start.warm else s.start.warm,
      warmLoss := bif a.testBit 50 || b.testBit 50 then u.start.warmLoss else s.start.warmLoss,
      copying := bif a.testBit 51 || b.testBit 51 then u.start.copying else s.start.copying } := by
    rw [
        ← h34, ← h35, ← h36, ← h37, ← h38, ← h39, ← h40, ← h41, ← h42, ← h43, ← h44, ← h45, ← h46, ← h47, ← h48,
        ← h49, ← h50, ← h51]
  have hkeep : u.keep = {
      shadow := bif a.testBit 52 || b.testBit 52 then u.keep.shadow else s.keep.shadow,
      seq := bif a.testBit 53 || b.testBit 53 then u.keep.seq else s.keep.seq,
      sectors := bif a.testBit 54 || b.testBit 54 then u.keep.sectors else s.keep.sectors,
      abandoned := bif a.testBit 55 || b.testBit 55 then u.keep.abandoned else s.keep.abandoned,
      degraded := bif a.testBit 56 || b.testBit 56 then u.keep.degraded else s.keep.degraded,
      eraseFails := bif a.testBit 57 || b.testBit 57 then u.keep.eraseFails else s.keep.eraseFails,
      queue := bif a.testBit 58 || b.testBit 58 then u.keep.queue else s.keep.queue,
      lost := bif a.testBit 59 || b.testBit 59 then u.keep.lost else s.keep.lost,
      toErase := bif a.testBit 60 || b.testBit 60 then u.keep.toErase else s.keep.toErase,
      groupPages := bif a.testBit 61 || b.testBit 61 then u.keep.groupPages else s.keep.groupPages,
      groupCounter := bif a.testBit 62 || b.testBit 62 then u.keep.groupCounter else s.keep.groupCounter,
      optime := bif a.testBit 63 || b.testBit 63 then u.keep.optime else s.keep.optime,
      pcycle := bif a.testBit 64 || b.testBit 64 then u.keep.pcycle else s.keep.pcycle,
      bytes := bif a.testBit 65 || b.testBit 65 then u.keep.bytes else s.keep.bytes,
      byteLines := bif a.testBit 66 || b.testBit 66 then u.keep.byteLines else s.keep.byteLines,
      timeStrokes := bif a.testBit 67 || b.testBit 67 then u.keep.timeStrokes else s.keep.timeStrokes,
      op := bif a.testBit 68 || b.testBit 68 then u.keep.op else s.keep.op,
      suspended := bif a.testBit 69 || b.testBit 69 then u.keep.suspended else s.keep.suspended } := by
    rw [
        ← h52, ← h53, ← h54, ← h55, ← h56, ← h57, ← h58, ← h59, ← h60, ← h61, ← h62, ← h63, ← h64, ← h65, ← h66,
        ← h67, ← h68, ← h69]
  have hchron : u.chron = {
      perm := bif a.testBit 70 || b.testBit 70 then u.chron.perm else s.chron.perm,
      ring := bif a.testBit 71 || b.testBit 71 then u.chron.ring else s.chron.ring,
      head := bif a.testBit 72 || b.testBit 72 then u.chron.head else s.chron.head,
      sectorSeq := bif a.testBit 73 || b.testBit 73 then u.chron.sectorSeq else s.chron.sectorSeq,
      buffer := bif a.testBit 74 || b.testBit 74 then u.chron.buffer else s.chron.buffer,
      nextSerial := bif a.testBit 75 || b.testBit 75 then u.chron.nextSerial else s.chron.nextSerial,
      runs := bif a.testBit 76 || b.testBit 76 then u.chron.runs else s.chron.runs,
      dropped := bif a.testBit 77 || b.testBit 77 then u.chron.dropped else s.chron.dropped,
      bad := bif a.testBit 78 || b.testBit 78 then u.chron.bad else s.chron.bad } := by
    rw [← h70, ← h71, ← h72, ← h73, ← h74, ← h75, ← h76, ← h77, ← h78]
  have hevents : u.events = {
      info := bif a.testBit 79 || b.testBit 79 then u.events.info else s.events.info,
      warn := bif a.testBit 80 || b.testBit 80 then u.events.warn else s.events.warn,
      fail := bif a.testBit 81 || b.testBit 81 then u.events.fail else s.events.fail,
      fatal := bif a.testBit 82 || b.testBit 82 then u.events.fatal else s.events.fatal,
      lastHandle := bif a.testBit 83 || b.testBit 83 then u.events.lastHandle else s.events.lastHandle,
      policy := bif a.testBit 84 || b.testBit 84 then u.events.policy else s.events.policy,
      orphanSeen := bif a.testBit 85 || b.testBit 85 then u.events.orphanSeen else s.events.orphanSeen,
      paritySeen := bif a.testBit 86 || b.testBit 86 then u.events.paritySeen else s.events.paritySeen } := by
    rw [← h79, ← h80, ← h81, ← h82, ← h83, ← h84, ← h85, ← h86]
  have hprot : u.prot = {
      ranges := bif a.testBit 87 || b.testBit 87 then u.prot.ranges else s.prot.ranges,
      slots := bif a.testBit 88 || b.testBit 88 then u.prot.slots else s.prot.slots,
      integState := bif a.testBit 89 || b.testBit 89 then u.prot.integState else s.prot.integState,
      granules := bif a.testBit 90 || b.testBit 90 then u.prot.granules else s.prot.granules,
      roots := bif a.testBit 91 || b.testBit 91 then u.prot.roots else s.prot.roots,
      lineCounters := bif a.testBit 92 || b.testBit 92 then u.prot.lineCounters else s.prot.lineCounters,
      dirtyNodes := bif a.testBit 93 || b.testBit 93 then u.prot.dirtyNodes else s.prot.dirtyNodes,
      slotBad := bif a.testBit 94 || b.testBit 94 then u.prot.slotBad else s.prot.slotBad,
      slotLost := bif a.testBit 95 || b.testBit 95 then u.prot.slotLost else s.prot.slotLost,
      officers := bif a.testBit 96 || b.testBit 96 then u.prot.officers else s.prot.officers,
      nonces := bif a.testBit 97 || b.testBit 97 then u.prot.nonces else s.prot.nonces,
      lodged := bif a.testBit 98 || b.testBit 98 then u.prot.lodged else s.prot.lodged,
      applied := bif a.testBit 99 || b.testBit 99 then u.prot.applied else s.prot.applied,
      bindings := bif a.testBit 100 || b.testBit 100 then u.prot.bindings else s.prot.bindings,
      anchor := bif a.testBit 101 || b.testBit 101 then u.prot.anchor else s.prot.anchor,
      eraseAuth := bif a.testBit 102 || b.testBit 102 then u.prot.eraseAuth else s.prot.eraseAuth,
      unlock := bif a.testBit 103 || b.testBit 103 then u.prot.unlock else s.prot.unlock,
      testAccess := bif a.testBit 104 || b.testBit 104 then u.prot.testAccess else s.prot.testAccess,
      challenge := bif a.testBit 105 || b.testBit 105 then u.prot.challenge else s.prot.challenge,
      rekeys := bif a.testBit 106 || b.testBit 106 then u.prot.rekeys else s.prot.rekeys,
      eraseLeft := bif a.testBit 107 || b.testBit 107 then u.prot.eraseLeft else s.prot.eraseLeft,
      erasePath := bif a.testBit 108 || b.testBit 108 then u.prot.erasePath else s.prot.erasePath,
      ide := bif a.testBit 109 || b.testBit 109 then u.prot.ide else s.prot.ide,
      spdm := bif a.testBit 110 || b.testBit 110 then u.prot.spdm else s.prot.spdm } := by
    rw [
        ← h87, ← h88, ← h89, ← h90, ← h91, ← h92, ← h93, ← h94, ← h95, ← h96, ← h97, ← h98, ← h99, ← h100, ← h101,
        ← h102, ← h103, ← h104, ← h105, ← h106, ← h107, ← h108, ← h109, ← h110]
  have hmerge : u.merge = {
      entries := bif a.testBit 117 || b.testBit 117 then u.merge.entries else s.merge.entries,
      cells := bif a.testBit 118 || b.testBit 118 then u.merge.cells else s.merge.cells,
      heat := bif a.testBit 119 || b.testBit 119 then u.merge.heat else s.merge.heat,
      points := bif a.testBit 120 || b.testBit 120 then u.merge.points else s.merge.points,
      lastPoint := bif a.testBit 121 || b.testBit 121 then u.merge.lastPoint else s.merge.lastPoint,
      pointDone := bif a.testBit 122 || b.testBit 122 then u.merge.pointDone else s.merge.pointDone,
      pointPinned := bif a.testBit 123 || b.testBit 123 then u.merge.pointPinned else s.merge.pointPinned,
      marker := bif a.testBit 124 || b.testBit 124 then u.merge.marker else s.merge.marker,
      capo := bif a.testBit 125 || b.testBit 125 then u.merge.capo else s.merge.capo,
      lost := bif a.testBit 126 || b.testBit 126 then u.merge.lost else s.merge.lost,
      cut := bif a.testBit 127 || b.testBit 127 then u.merge.cut else s.merge.cut,
      capoCredits := bif a.testBit 128 || b.testBit 128 then u.merge.capoCredits else s.merge.capoCredits } := by
    rw [← h117, ← h118, ← h119, ← h120, ← h121, ← h122, ← h123, ← h124, ← h125, ← h126, ← h127, ← h128]
  have hmbox : u.mbox = {
      stored := bif a.testBit 129 || b.testBit 129 then u.mbox.stored else s.mbox.stored,
      bg := bif a.testBit 130 || b.testBit 130 then u.mbox.bg else s.mbox.bg,
      wall := bif a.testBit 131 || b.testBit 131 then u.mbox.wall else s.mbox.wall,
      shutdown := bif a.testBit 132 || b.testBit 132 then u.mbox.shutdown else s.mbox.shutdown,
      alerts := bif a.testBit 133 || b.testBit 133 then u.mbox.alerts else s.mbox.alerts } := by
    rw [← h129, ← h130, ← h131, ← h132, ← h133]
  have hcache : u.cache = {
      lines := bif a.testBit 134 || b.testBit 134 then u.cache.lines else s.cache.lines,
      fills := bif a.testBit 135 || b.testBit 135 then u.cache.fills else s.cache.fills,
      busy := bif a.testBit 136 || b.testBit 136 then u.cache.busy else s.cache.busy,
      victims := bif a.testBit 137 || b.testBit 137 then u.cache.victims else s.cache.victims,
      purges := bif a.testBit 138 || b.testBit 138 then u.cache.purges else s.cache.purges,
      dirWay := bif a.testBit 139 || b.testBit 139 then u.cache.dirWay else s.cache.dirWay,
      dirPlru := bif a.testBit 140 || b.testBit 140 then u.cache.dirPlru else s.cache.dirPlru,
      plru := bif a.testBit 141 || b.testBit 141 then u.cache.plru else s.cache.plru,
      enabled := bif a.testBit 142 || b.testBit 142 then u.cache.enabled else s.cache.enabled,
      cleaning := bif a.testBit 143 || b.testBit 143 then u.cache.cleaning else s.cache.cleaning,
      rc := bif a.testBit 144 || b.testBit 144 then u.cache.rc else s.cache.rc,
      rcOn := bif a.testBit 145 || b.testBit 145 then u.cache.rcOn else s.cache.rcOn,
      host := bif a.testBit 146 || b.testBit 146 then u.cache.host else s.cache.host,
      evicting := bif a.testBit 147 || b.testBit 147 then u.cache.evicting else s.cache.evicting,
      snoops := bif a.testBit 148 || b.testBit 148 then u.cache.snoops else s.cache.snoops,
      clock := bif a.testBit 149 || b.testBit 149 then u.cache.clock else s.cache.clock,
      biCredits := bif a.testBit 150 || b.testBit 150 then u.cache.biCredits else s.cache.biCredits } := by
    rw [
        ← h134, ← h135, ← h136, ← h137, ← h138, ← h139, ← h140, ← h141, ← h142, ← h143, ← h144, ← h145, ← h146,
        ← h147, ← h148, ← h149, ← h150]
  have hsched : u.sched = {
      locked := bif a.testBit 157 || b.testBit 157 then u.sched.locked else s.sched.locked,
      last := bif a.testBit 158 || b.testBit 158 then u.sched.last else s.sched.last,
      jobs := bif a.testBit 159 || b.testBit 159 then u.sched.jobs else s.sched.jobs,
      nextJob := bif a.testBit 160 || b.testBit 160 then u.sched.nextJob else s.sched.nextJob,
      late := bif a.testBit 161 || b.testBit 161 then u.sched.late else s.sched.late,
      capoAsk := bif a.testBit 162 || b.testBit 162 then u.sched.capoAsk else s.sched.capoAsk,
      back := bif a.testBit 163 || b.testBit 163 then u.sched.back else s.sched.back,
      moved := bif a.testBit 164 || b.testBit 164 then u.sched.moved else s.sched.moved,
      demand := bif a.testBit 165 || b.testBit 165 then u.sched.demand else s.sched.demand,
      now := bif a.testBit 166 || b.testBit 166 then u.sched.now else s.sched.now,
      skew := bif a.testBit 167 || b.testBit 167 then u.sched.skew else s.sched.skew,
      since := bif a.testBit 168 || b.testBit 168 then u.sched.since else s.sched.since } := by
    rw [← h157, ← h158, ← h159, ← h160, ← h161, ← h162, ← h163, ← h164, ← h165, ← h166, ← h167, ← h168]
  have hxlat : u.xlat = {
      tracts := bif a.testBit 169 || b.testBit 169 then u.xlat.tracts else s.xlat.tracts,
      fluid := bif a.testBit 170 || b.testBit 170 then u.xlat.fluid else s.xlat.fluid,
      blocks := bif a.testBit 171 || b.testBit 171 then u.xlat.blocks else s.xlat.blocks,
      valid := bif a.testBit 172 || b.testBit 172 then u.xlat.valid else s.xlat.valid,
      opens := bif a.testBit 173 || b.testBit 173 then u.xlat.opens else s.xlat.opens,
      nextHot := bif a.testBit 174 || b.testBit 174 then u.xlat.nextHot else s.xlat.nextHot,
      nextCold := bif a.testBit 175 || b.testBit 175 then u.xlat.nextCold else s.xlat.nextCold,
      precondQ := bif a.testBit 176 || b.testBit 176 then u.xlat.precondQ else s.xlat.precondQ,
      seq := bif a.testBit 177 || b.testBit 177 then u.xlat.seq else s.xlat.seq,
      sbe := bif a.testBit 178 || b.testBit 178 then u.xlat.sbe else s.xlat.sbe,
      moves := bif a.testBit 179 || b.testBit 179 then u.xlat.moves else s.xlat.moves,
      moveQ := bif a.testBit 180 || b.testBit 180 then u.xlat.moveQ else s.xlat.moveQ,
      copies := bif a.testBit 181 || b.testBit 181 then u.xlat.copies else s.xlat.copies,
      settles := bif a.testBit 182 || b.testBit 182 then u.xlat.settles else s.xlat.settles,
      gather := bif a.testBit 183 || b.testBit 183 then u.xlat.gather else s.xlat.gather,
      better := bif a.testBit 184 || b.testBit 184 then u.xlat.better else s.xlat.better,
      whole := bif a.testBit 185 || b.testBit 185 then u.xlat.whole else s.xlat.whole,
      failedSlots := bif a.testBit 186 || b.testBit 186 then u.xlat.failedSlots else s.xlat.failedSlots,
      badParity := bif a.testBit 187 || b.testBit 187 then u.xlat.badParity else s.xlat.badParity,
      evac := bif a.testBit 188 || b.testBit 188 then u.xlat.evac else s.xlat.evac,
      checkpoints := bif a.testBit 189 || b.testBit 189 then u.xlat.checkpoints else s.xlat.checkpoints,
      again := bif a.testBit 190 || b.testBit 190 then u.xlat.again else s.xlat.again,
      heatEpochs := bif a.testBit 191 || b.testBit 191 then u.xlat.heatEpochs else s.xlat.heatEpochs } := by
    rw [
        ← h169, ← h170, ← h171, ← h172, ← h173, ← h174, ← h175, ← h176, ← h177, ← h178, ← h179, ← h180, ← h181,
        ← h182, ← h183, ← h184, ← h185, ← h186, ← h187, ← h188, ← h189, ← h190, ← h191]
  have herr : u.err = {
      poison := bif a.testBit 192 || b.testBit 192 then u.err.poison else s.err.poison,
      poisonLost := bif a.testBit 193 || b.testBit 193 then u.err.poisonLost else s.err.poisonLost,
      patrolPos := bif a.testBit 194 || b.testBit 194 then u.err.patrolPos else s.err.patrolPos,
      patrolStart := bif a.testBit 195 || b.testBit 195 then u.err.patrolStart else s.err.patrolStart,
      visited := bif a.testBit 196 || b.testBit 196 then u.err.visited else s.err.visited,
      refresh := bif a.testBit 197 || b.testBit 197 then u.err.refresh else s.err.refresh,
      rewrites := bif a.testBit 198 || b.testBit 198 then u.err.rewrites else s.err.rewrites,
      scrub := bif a.testBit 199 || b.testBit 199 then u.err.scrub else s.err.scrub,
      scanResults := bif a.testBit 200 || b.testBit 200 then u.err.scanResults else s.err.scanResults,
      wake := bif a.testBit 201 || b.testBit 201 then u.err.wake else s.err.wake,
      ageStrokes := bif a.testBit 202 || b.testBit 202 then u.err.ageStrokes else s.err.ageStrokes,
      e := bif a.testBit 203 || b.testBit 203 then u.err.e else s.err.e,
      eSaved := bif a.testBit 204 || b.testBit 204 then u.err.eSaved else s.err.eSaved,
      lastHealth := bif a.testBit 205 || b.testBit 205 then u.err.lastHealth else s.err.lastHealth,
      lastMedia := bif a.testBit 206 || b.testBit 206 then u.err.lastMedia else s.err.lastMedia,
      temp := bif a.testBit 207 || b.testBit 207 then u.err.temp else s.err.temp,
      lastUncorrHi := bif a.testBit 208 || b.testBit 208 then u.err.lastUncorrHi else s.err.lastUncorrHi } := by
    rw [
        ← h192, ← h193, ← h194, ← h195, ← h196, ← h197, ← h198, ← h199, ← h200, ← h201, ← h202, ← h203, ← h204,
        ← h205, ← h206, ← h207, ← h208]
  have himg : u.img = {
      tAge := bif a.testBit 209 || b.testBit 209 then u.img.tAge else s.img.tAge,
      arrayRead := bif a.testBit 210 || b.testBit 210 then u.img.arrayRead else s.img.arrayRead,
      suspend := bif a.testBit 211 || b.testBit 211 then u.img.suspend else s.img.suspend,
      cls := bif a.testBit 212 || b.testBit 212 then u.img.cls else s.img.cls,
      version := bif a.testBit 213 || b.testBit 213 then u.img.version else s.img.version,
      compact := bif a.testBit 214 || b.testBit 214 then u.img.compact else s.img.compact,
      dieTypes := bif a.testBit 215 || b.testBit 215 then u.img.dieTypes else s.img.dieTypes } := by
    rw [← h209, ← h210, ← h211, ← h212, ← h213, ← h214, ← h215]
  have hshelf : u.shelf = {
      listening := bif a.testBit 216 || b.testBit 216 then u.shelf.listening else s.shelf.listening,
      claiming := bif a.testBit 217 || b.testBit 217 then u.shelf.claiming else s.shelf.claiming,
      claimed := bif a.testBit 218 || b.testBit 218 then u.shelf.claimed else s.shelf.claimed,
      yieldTo := bif a.testBit 219 || b.testBit 219 then u.shelf.yieldTo else s.shelf.yieldTo,
      conflictDue := bif a.testBit 220 || b.testBit 220 then u.shelf.conflictDue else s.shelf.conflictDue,
      beaconNow := bif a.testBit 221 || b.testBit 221 then u.shelf.beaconNow else s.shelf.beaconNow,
      beaconless := bif a.testBit 222 || b.testBit 222 then u.shelf.beaconless else s.shelf.beaconless,
      mgr := bif a.testBit 223 || b.testBit 223 then u.shelf.mgr else s.shelf.mgr,
      dups := bif a.testBit 224 || b.testBit 224 then u.shelf.dups else s.shelf.dups,
      epoch := bif a.testBit 225 || b.testBit 225 then u.shelf.epoch else s.shelf.epoch,
      records := bif a.testBit 226 || b.testBit 226 then u.shelf.records else s.shelf.records,
      keptEpoch := bif a.testBit 227 || b.testBit 227 then u.shelf.keptEpoch else s.shelf.keptEpoch,
      keptRecords := bif a.testBit 228 || b.testBit 228 then u.shelf.keptRecords else s.shelf.keptRecords,
      held := bif a.testBit 229 || b.testBit 229 then u.shelf.held else s.shelf.held,
      wall := bif a.testBit 230 || b.testBit 230 then u.shelf.wall else s.shelf.wall,
      seqOut := bif a.testBit 231 || b.testBit 231 then u.shelf.seqOut else s.shelf.seqOut,
      cmds := bif a.testBit 232 || b.testBit 232 then u.shelf.cmds else s.shelf.cmds,
      ops := bif a.testBit 233 || b.testBit 233 then u.shelf.ops else s.shelf.ops,
      nextOp := bif a.testBit 234 || b.testBit 234 then u.shelf.nextOp else s.shelf.nextOp,
      members := bif a.testBit 235 || b.testBit 235 then u.shelf.members else s.shelf.members,
      status := bif a.testBit 236 || b.testBit 236 then u.shelf.status else s.shelf.status,
      slotQ := bif a.testBit 237 || b.testBit 237 then u.shelf.slotQ else s.shelf.slotQ,
      lastGrant := bif a.testBit 238 || b.testBit 238 then u.shelf.lastGrant else s.shelf.lastGrant,
      grants := bif a.testBit 239 || b.testBit 239 then u.shelf.grants else s.shelf.grants,
      ack := bif a.testBit 240 || b.testBit 240 then u.shelf.ack else s.shelf.ack,
      pointReport := bif a.testBit 241 || b.testBit 241 then u.shelf.pointReport else s.shelf.pointReport,
      point := bif a.testBit 242 || b.testBit 242 then u.shelf.point else s.shelf.point,
      act := bif a.testBit 243 || b.testBit 243 then u.shelf.act else s.shelf.act,
      actSent := bif a.testBit 244 || b.testBit 244 then u.shelf.actSent else s.shelf.actSent,
      actMembers := bif a.testBit 245 || b.testBit 245 then u.shelf.actMembers else s.shelf.actMembers,
      stepDue := bif a.testBit 246 || b.testBit 246 then u.shelf.stepDue else s.shelf.stepDue,
      follow := bif a.testBit 247 || b.testBit 247 then u.shelf.follow else s.shelf.follow,
      sinceStep := bif a.testBit 248 || b.testBit 248 then u.shelf.sinceStep else s.shelf.sinceStep,
      pulseNow := bif a.testBit 249 || b.testBit 249 then u.shelf.pulseNow else s.shelf.pulseNow,
      pulseless := bif a.testBit 250 || b.testBit 250 then u.shelf.pulseless else s.shelf.pulseless,
      pulses := bif a.testBit 251 || b.testBit 251 then u.shelf.pulses else s.shelf.pulses,
      granted := bif a.testBit 252 || b.testBit 252 then u.shelf.granted else s.shelf.granted,
      slew := bif a.testBit 253 || b.testBit 253 then u.shelf.slew else s.shelf.slew,
      timeKnown := bif a.testBit 254 || b.testBit 254 then u.shelf.timeKnown else s.shelf.timeKnown } := by
    rw [
        ← h216, ← h217, ← h218, ← h219, ← h220, ← h221, ← h222, ← h223, ← h224, ← h225, ← h226, ← h227, ← h228,
        ← h229, ← h230, ← h231, ← h232, ← h233, ← h234, ← h235, ← h236, ← h237, ← h238, ← h239, ← h240, ← h241,
        ← h242, ← h243, ← h244, ← h245, ← h246, ← h247, ← h248, ← h249, ← h250, ← h251, ← h252, ← h253, ← h254]
  have hfw : u.fw = {
      transfer := bif a.testBit 255 || b.testBit 255 then u.fw.transfer else s.fw.transfer,
      cmd := bif a.testBit 256 || b.testBit 256 then u.fw.cmd else s.fw.cmd,
      act := bif a.testBit 257 || b.testBit 257 then u.fw.act else s.fw.act,
      abandoned := bif a.testBit 258 || b.testBit 258 then u.fw.abandoned else s.fw.abandoned,
      oldBank := bif a.testBit 259 || b.testBit 259 then u.fw.oldBank else s.fw.oldBank,
      oldPrecond := bif a.testBit 260 || b.testBit 260 then u.fw.oldPrecond else s.fw.oldPrecond } := by
    rw [← h255, ← h256, ← h257, ← h258, ← h259, ← h260]
  have htelem : u.telem = {
      cfg := bif a.testBit 261 || b.testBit 261 then u.telem.cfg else s.telem.cfg,
      cfgDue := bif a.testBit 262 || b.testBit 262 then u.telem.cfgDue else s.telem.cfgDue,
      counts := bif a.testBit 263 || b.testBit 263 then u.telem.counts else s.telem.counts,
      cycles := bif a.testBit 264 || b.testBit 264 then u.telem.cycles else s.telem.cycles,
      bwRead := bif a.testBit 265 || b.testBit 265 then u.telem.bwRead else s.telem.bwRead,
      bwWrite := bif a.testBit 266 || b.testBit 266 then u.telem.bwWrite else s.telem.bwWrite,
      bwK := bif a.testBit 267 || b.testBit 267 then u.telem.bwK else s.telem.bwK,
      bwStart := bif a.testBit 268 || b.testBit 268 then u.telem.bwStart else s.telem.bwStart,
      bwHeld := bif a.testBit 269 || b.testBit 269 then u.telem.bwHeld else s.telem.bwHeld,
      bwHeldK := bif a.testBit 270 || b.testBit 270 then u.telem.bwHeldK else s.telem.bwHeldK,
      snapAsked := bif a.testBit 271 || b.testBit 271 then u.telem.snapAsked else s.telem.snapAsked,
      snapWait := bif a.testBit 272 || b.testBit 272 then u.telem.snapWait else s.telem.snapWait,
      seq := bif a.testBit 273 || b.testBit 273 then u.telem.seq else s.telem.seq,
      head := bif a.testBit 274 || b.testBit 274 then u.telem.head else s.telem.head,
      shadow := bif a.testBit 275 || b.testBit 275 then u.telem.shadow else s.telem.shadow,
      dropped := bif a.testBit 276 || b.testBit 276 then u.telem.dropped else s.telem.dropped,
      ring := bif a.testBit 277 || b.testBit 277 then u.telem.ring else s.telem.ring } := by
    rw [
        ← h261, ← h262, ← h263, ← h264, ← h265, ← h266, ← h267, ← h268, ← h269, ← h270, ← h271, ← h272, ← h273,
        ← h274, ← h275, ← h276, ← h277]
  unfold State.pick
  simp only [Nat.testBit_or]
  rw [
      ← h0, ← h1, ← h2, ← h3, ← h4, ← h5, ← h6, ← h7, ← h8, ← h9, ← hpwr, ← hstart, ← hkeep, ← hchron, ← hevents,
      ← hprot, ← h111, ← h112, ← h113, ← h114, ← h115, ← h116, ← hmerge, ← hmbox, ← hcache, ← h151, ← h152, ← h153,
      ← h154, ← h155, ← h156, ← hsched, ← hxlat, ← herr, ← himg, ← hshelf, ← hfw, ← htelem, ← h278, ← h279, ← h280]

theorem Within.step {a b m : Nat} {s t u : State} (g : Within b t u) (e : a ||| b = m := by rfl) (h : Within a s
    t) : Within m s u := by
  subst e; exact pick_pick _ _ _ _ _ h g

theorem Within.mono {a m : Nat} {s t : State} (h : Within a s t) (e : a ||| m = m) : Within m s t := by
  have := pick_pick _ m _ _ _ h (Within.rfl (m := m)); rw [e] at this; exact this

theorem Within.on {b m : Nat} {s t u : State} (g : Within b t u) (e : b ||| m = m) (h : Within m s t) : Within m s
    u := by
  have := pick_pick _ _ _ _ _ h (g.mono e); rw [Nat.or_self] at this; exact this

theorem subm {b a M : Nat} (h : b ||| a = a) (hM : a ||| M = M) : b ||| M = M := by rw [← hM, ← Nat.or_assoc, h]

theorem Within.of_if {m : Nat} {u t : State} {c : Prop} [Decidable c] {o : Option State} (e : (if c then o else
    some u) = some t) (h : ∀ t, o = some t → Within m u t) : Within m u t := by
  split at e
  · exact h t e
  · cases e; exact Within.rfl

theorem Within.foldl {α : Type} {m : Nat} {f : State → α → State} (hf : ∀ t x, Within m t (f t x)) (l : List α) {s
    t : State} (h : Within m s t) : Within m s (l.foldl f t) := by
  induction l generalizing t with
  | nil => exact h
  | cons x l ih => exact ih ((hf t x).on (Nat.or_self m) h)

theorem Within.foldl1 {α β : Type} {m : Nat} {f : State × β → α → State × β} (hf : ∀ t x, Within m t.1 (f t x).1)
    (l : List α) {s : State} {t : State × β} (h : Within m s t.1) : Within m s (l.foldl f t).1 := by
  induction l generalizing t with
  | nil => exact h
  | cons x l ih => exact ih ((hf t x).on (Nat.or_self m) h)

theorem Within.of_fst {β : Type} {m : Nat} {s t : State} {p : State × β} {b : β} (e : p = (t, b)) (h : Within m s
    p.1) : Within m s t := by subst e; exact h

theorem Within.ite {m : Nat} {s a b : State} {c : Prop} [Decidable c] (h1 : c → Within m s a) (h2 : ¬c → Within m
    s b) : Within m s (if c then a else b) := by
  split
  · exact h1 (by assumption)
  · exact h2 (by assumption)

theorem Within.ite1 {β : Type} {m : Nat} {s : State} {a b : State × β} {c : Prop} [Decidable c] (h1 : c → Within m
    s a.1) (h2 : ¬c → Within m s b.1) : Within m s (if c then a else b).1 := by
  split
  · exact h1 (by assumption)
  · exact h2 (by assumption)

theorem Within.iteP {β : Type} (π : β → State) {m : Nat} {s : State} {a b : β} {c : Prop} [Decidable c] (h1 : c →
    Within m s (π a)) (h2 : ¬c → Within m s (π b)) : Within m s (π (if c then a else b)) := by
  split
  · exact h1 (by assumption)
  · exact h2 (by assumption)

theorem Within.foldlP {α β : Type} (π : β → State) {m : Nat} {f : β → α → β} (hf : ∀ t x, Within m (π t) (π (f t
    x))) (l : List α) {s : State} {t : β} (h : Within m s (π t)) : Within m s (π (l.foldl f t)) := by
  induction l generalizing t with
  | nil => exact h
  | cons x l ih => exact ih ((hf t x).on (Nat.or_self m) h)

theorem Within.iter {m : Nat} {f : State → State} (hf : ∀ t, Within m t (f t)) (n : Nat) {s t : State} (h : Within
    m s t) : Within m s (iter f n t) := by
  induction n generalizing t with
  | zero => exact h
  | succ n ih => exact ih ((hf t).on (Nat.or_self m) h)

theorem Within.getD {m : Nat} {s d : State} {o : Option State} (h : ∀ t, o = some t → Within m s t) (g : Within m
    s d) : Within m s (o.getD d) := by
  cases o with
  | none => exact g
  | some t => exact h t (by rfl)

theorem Within.of_fst1 {β : Type} {m : Nat} {s t : State} {p : State × β} {b : β} (e : p = (t, b)) (h : Within m s
    p.1) : Within m s (t, b).1 := by subst e; exact h

theorem Within.upd {m : Nat} {s e : State} {x0 x1 x2 x3 x4 x5 x6 x7 x8 x9 x10 x11 x12 x13 x14 x15 x16 x17 x18 x19
    x20 x21 x22 x23 x24 x25 x26 x27 x28 x29 x30 x31 x32 x33 x34 x35 x36 x37 x38 x39}
    (g : (State.mk e.pending x0 x1 x2 x3 x4 x5 x6 x7 x8 x9 x10 x11 x12 x13 x14 x15 x16 x17 x18 x19 x20 x21 x22 x23
        x24 x25 x26 x27 x28 x29 x30 x31 x32 x33 x34 x35 x36 x37 x38 x39) = State.pick m e (State.mk e.pending x0 x1 x2 x3
        x4 x5 x6 x7 x8 x9 x10 x11 x12 x13 x14 x15 x16 x17 x18 x19 x20 x21 x22 x23 x24 x25 x26 x27 x28 x29 x30 x31 x32 x33
        x34 x35 x36 x37 x38 x39))
    (h : Within m s e) : Within m s (State.mk e.pending x0 x1 x2 x3 x4 x5 x6 x7 x8 x9 x10 x11 x12 x13 x14 x15 x16
        x17 x18 x19 x20 x21 x22 x23 x24 x25 x26 x27 x28 x29 x30 x31 x32 x33 x34 x35 x36 x37 x38 x39) :=
  Within.on (m := m) g (Nat.or_self m) h

theorem Within.upd1 {m M : Nat} {s e : State} {x0 x1 x2 x3 x4 x5 x6 x7 x8 x9 x10 x11 x12 x13 x14 x15 x16 x17 x18
    x19 x20 x21 x22 x23 x24 x25 x26 x27 x28 x29 x30 x31 x32 x33 x34 x35 x36 x37 x38 x39}
    (hM : m ||| M = M) (g : (State.mk e.pending x0 x1 x2 x3 x4 x5 x6 x7 x8 x9 x10 x11 x12 x13 x14 x15 x16 x17 x18
        x19 x20 x21 x22 x23 x24 x25 x26 x27 x28 x29 x30 x31 x32 x33 x34 x35 x36 x37 x38 x39) = State.pick m e (State.mk
        e.pending x0 x1 x2 x3 x4 x5 x6 x7 x8 x9 x10 x11 x12 x13 x14 x15 x16 x17 x18 x19 x20 x21 x22 x23 x24 x25 x26 x27
        x28 x29 x30 x31 x32 x33 x34 x35 x36 x37 x38 x39))
    (h : Within M s e) : Within M s (State.mk e.pending x0 x1 x2 x3 x4 x5 x6 x7 x8 x9 x10 x11 x12 x13 x14 x15 x16
        x17 x18 x19 x20 x21 x22 x23 x24 x25 x26 x27 x28 x29 x30 x31 x32 x33 x34 x35 x36 x37 x38 x39) :=
  Within.on (m := M) g hM h

end Sys2Proof.Machine
end

