-- ==== Sys2Proof/Laws/OnlyRegs.lean ====
section
/-! SUPPORT. `onlyRegs l s t`: every register but those of the fields `l` is as it was; and how such facts combine. -/

namespace Sys2Proof

open Machine

theorem onlyRegs.rfl {l : List Field} {s : State} : onlyRegs l s s := fun _ _ => Eq.refl _

theorem onlyRegs.on {l : List Field} {s t u : State} (g : onlyRegs l t u) (h : onlyRegs l s t) : onlyRegs l s u :=
  fun k hk => (g k hk).trans (h k hk)

theorem onlyRegs.keep {l : List Field} {m : Nat} {s t u : State} (g : Within m t u) (e : m.testBit 1 = false) (h :
    onlyRegs l s t) : onlyRegs l s u := by
  intro k hk
  have r : u.regs = t.regs := by
    have := congrArg State.regs g
    simp only [State.pick, e, cond_false] at this
    exact this
  rw [r]; exact h k hk

theorem onlyRegs.wr {l : List Field} {s t : State} {f : Field} {v i j : Nat} (hf : f ∈ l) (h : onlyRegs l s t) :
    onlyRegs l s (t.wr f v i j) := by
  intro k hk
  have := Tab.find_set_ne (f.resetAt i) t.regs (f.key i j) k (v % 2 ^ f.width) (hk f hf i j)
  exact this.trans (h k hk)

theorem onlyRegs.ite {l : List Field} {s a b : State} {c : Prop} [Decidable c] (h1 : c → onlyRegs l s a) (h2 : ¬c
    → onlyRegs l s b) : onlyRegs l s (if c then a else b) := by
  split
  · exact h1 (by assumption)
  · exact h2 (by assumption)

theorem onlyRegs.ite1 {β : Type} {l : List Field} {s : State} {a b : State × β} {c : Prop} [Decidable c] (h1 : c →
    onlyRegs l s a.1) (h2 : ¬c → onlyRegs l s b.1) : onlyRegs l s (if c then a else b).1 := by
  split
  · exact h1 (by assumption)
  · exact h2 (by assumption)

theorem onlyRegs.foldl {α : Type} {l : List Field} {f : State → α → State} (hf : ∀ t x, onlyRegs l t (f t x)) (q :
    List α) {s t : State} (h : onlyRegs l s t) : onlyRegs l s (q.foldl f t) := by
  induction q generalizing t with
  | nil => exact h
  | cons x q ih => exact ih ((hf t x).on h)

theorem onlyRegs.foldlP {α β : Type} (π : β → State) {l : List Field} {f : β → α → β} (hf : ∀ t x, onlyRegs l (π
    t) (π (f t x))) (q : List α) {s : State} {t : β} (h : onlyRegs l s (π t)) : onlyRegs l s (π (q.foldl f t)) := by
  induction q generalizing t with
  | nil => exact h
  | cons x q ih => exact ih ((hf t x).on h)

theorem onlyRegs.iteP {β : Type} (π : β → State) {l : List Field} {s : State} {a b : β} {c : Prop} [Decidable c]
    (h1 : c → onlyRegs l s (π a)) (h2 : ¬c → onlyRegs l s (π b)) : onlyRegs l s (π (if c then a else b)) := by
  split
  · exact h1 (by assumption)
  · exact h2 (by assumption)

theorem onlyRegs.iter {l : List Field} {f : State → State} (hf : ∀ t, onlyRegs l t (f t)) (n : Nat) {s t : State}
    (h : onlyRegs l s t) : onlyRegs l s (iter f n t) := by
  induction n generalizing t with
  | zero => exact h
  | succ n ih => exact ih ((hf t).on h)

theorem onlyRegs.getD {l : List Field} {s d : State} {o : Option State} (h : ∀ t, o = some t → onlyRegs l s t) (g
    : onlyRegs l s d) : onlyRegs l s (o.getD d) := by
  cases o with
  | none => exact g
  | some t => exact h t (Eq.refl _)

theorem onlyRegs.of_fst {β : Type} {l : List Field} {s t : State} {p : State × β} {b : β} (e : p = (t, b)) (h :
    onlyRegs l s p.1) : onlyRegs l s t := by subst e; exact h

theorem onlyRegs.of_fst1 {β : Type} {l : List Field} {s t : State} {p : State × β} {b : β} (e : p = (t, b)) (h :
    onlyRegs l s p.1) : onlyRegs l s (t, b).1 := by subst e; exact h

theorem onlyRegs.of_if {l : List Field} {u t : State} {c : Prop} [Decidable c] {o : Option State} (e : (if c then
    o else some u) = some t) (h : ∀ t, o = some t → onlyRegs l u t) : onlyRegs l u t := by
  split at e
  · exact h t e
  · cases e; exact onlyRegs.rfl

theorem onlyRegs.upd {l : List Field} {s e : State} {x0 x1 x2 x3 x4 x5 x6 x7 x8 x9 x10 x11 x12 x13 x14 x15 x16 x17
    x18 x19 x20 x21 x22 x23 x24 x25 x26 x27 x28 x29 x30 x31 x32 x33 x34 x35 x36 x37 x38} (h : onlyRegs l s e) :
    onlyRegs l s (State.mk e.pending e.regs x0 x1 x2 x3 x4 x5 x6 x7 x8 x9 x10 x11 x12 x13 x14 x15 x16 x17 x18 x19 x20
    x21 x22 x23 x24 x25 x26 x27 x28 x29 x30 x31 x32 x33 x34 x35 x36 x37 x38) := h

end Sys2Proof
end

