-- ==== Sys2Proof/Laws/OpsFrames.lean ====
section
/-! SUPPORT. For each function of Machine/Ops.lean over the state: the part of the state outside which it changes
nothing (`…_within`), and the register fields that it may write (`…_regs`). -/

namespace Sys2Proof.Machine

set_option maxRecDepth 4000

theorem pick_2 (s t : State) : State.pick 2 s t = { s with regs := t.regs } := rfl

theorem wr_within (s : State) (f : Field) (v : Nat) (i : Nat) (j : Nat) : Within 2
    s (@State.wr s f v i j) := by
  unfold State.wr
  repeat' (first
      | with_reducible apply Within.rfl
      | fail_if_no_progress with_reducible apply Within.upd (by rw [pick_2]))

theorem bump_within (s : State) (f : Field) (n : Nat) (i : Nat) (j : Nat) : Within
    2 s (@State.bump s f n i j) := by
  unfold State.bump
  repeat' (first
      | with_reducible apply Within.rfl
      | (with_reducible apply Within.on (m := 2) (wr_within _ _ _ _ _) (by decide)))

theorem bump_regs (s : State) (f : Field) (n : Nat) (i : Nat) (j : Nat) {ks :
    List Field} (h0 : f ∈ ks) : onlyRegs ks s (@State.bump s f n i j) := by
  unfold State.bump
  repeat' (first
      | (with_reducible apply onlyRegs.rfl)
      | (with_reducible assumption)
      | (with_reducible exact List.mem_cons_self)
      | (with_reducible apply List.mem_cons_of_mem)
      | (with_reducible apply onlyRegs.wr))

theorem clr_within (s : State) (f : Field) (i : Nat) (j : Nat) : Within 2 s
    (@State.clr s f i j) := by
  unfold State.clr
  repeat' (first
      | with_reducible apply Within.rfl
      | (with_reducible apply Within.on (m := 2) (wr_within _ _ _ _ _) (by decide)))

theorem setBit_within (s : State) (f : Field) (b : Bool) (i : Nat) (j : Nat) :
    Within 2 s (@State.setBit s f b i j) := by
  unfold State.setBit
  repeat' (first
      | with_reducible apply Within.rfl
      | (with_reducible apply Within.on (m := 2) (wr_within _ _ _ _ _) (by decide)))

theorem setBit_regs (s : State) (f : Field) (b : Bool) (i : Nat) (j : Nat) {ks :
    List Field} (h0 : f ∈ ks) : onlyRegs ks s (@State.setBit s f b i j) := by
  unfold State.setBit
  repeat' (first
      | (with_reducible apply onlyRegs.rfl)
      | (with_reducible assumption)
      | (with_reducible exact List.mem_cons_self)
      | (with_reducible apply List.mem_cons_of_mem)
      | (with_reducible apply onlyRegs.wr))

theorem pick_20 (s t : State) : State.pick 32 s t = { s with out := t.out } := rfl

theorem emit_within (s : State) (o : Out) : Within 32 s
    (@State.emit s o) := by
  unfold State.emit
  repeat' (first
      | with_reducible apply Within.rfl
      | fail_if_no_progress with_reducible apply Within.upd (by rw [pick_20]))

theorem pick_8 (s t : State) : State.pick 8 s t = { s with clears := t.clears } := rfl

theorem askClear_within (s : State) (c : Clear) : Within 8 s
    (@State.askClear s c) := by
  unfold State.askClear
  repeat' (first
      | with_reducible apply Within.rfl
      | fail_if_no_progress with_reducible apply Within.upd (by rw [pick_8]))

theorem pick_10 (s t : State) : State.pick 16 s t = { s with free := t.free } := rfl

theorem tick_within (s : State) : Within 16 s (@State.tick s) := by
  unfold State.tick
  repeat' (first
      | with_reducible apply Within.rfl
      | fail_if_no_progress with_reducible apply Within.upd (by rw [pick_10]))

theorem setSeq_within (s : State) (q : SeqState) : Within 2 s
    (@State.setSeq s q) := by
  unfold State.setSeq
  repeat' (first
      | with_reducible apply Within.rfl
      | (with_reducible apply Within.on (m := 2) (wr_within _ _ _ _ _) (by decide)))

theorem setSeq_regs (s : State) (q : SeqState) {ks : List Field} (h1 :
    Reg.PWR_STATUS_STATE ∈ ks) : onlyRegs ks s (@State.setSeq s q) := by
  unfold State.setSeq
  repeat' (first
      | (with_reducible apply onlyRegs.rfl)
      | (with_reducible assumption)
      | (with_reducible exact List.mem_cons_self)
      | (with_reducible apply List.mem_cons_of_mem)
      | (with_reducible apply onlyRegs.wr))

theorem pick_800000000000000000000000000000000000000000000000000000000000000002 (s t : State) : State.pick 0x800000000000000000000000000000000000000000000000000000000000000002 s t = { s with
    regs := t.regs, telem := { s.telem with counts := t.telem.counts } } := rfl

theorem teleAdd_within (s : State) (k : Nat) (n : Nat) : Within
    0x800000000000000000000000000000000000000000000000000000000000000002 s
    (@State.teleAdd s k n) := by
  unfold State.teleAdd
  repeat' (first
      | extract_lets
      | with_reducible apply Within.ite <;> intro _
      | with_reducible apply Within.rfl
      | (with_reducible apply Within.on (m := 0x800000000000000000000000000000000000000000000000000000000000000002) (wr_within _ _ _ _ _) (by decide))
      | fail_if_no_progress with_reducible apply Within.upd (by rw [pick_800000000000000000000000000000000000000000000000000000000000000002]))

theorem teleAdd_regs (s : State) (k : Nat) (n : Nat) {ks : List Field} (h1 : Reg.TELEM_BLK_OVF_OVF
    ∈ ks) : onlyRegs ks s (@State.teleAdd s k n) := by
  unfold State.teleAdd
  repeat' (first
      | (with_reducible apply onlyRegs.rfl)
      | extract_lets
      | (with_reducible assumption)
      | (with_reducible exact List.mem_cons_self)
      | (with_reducible apply List.mem_cons_of_mem)
      | (with_reducible apply onlyRegs.ite <;> intro _)
      | (with_reducible apply onlyRegs.wr)
      | fail_if_no_progress with_reducible apply onlyRegs.upd)

theorem tele_within (s : State) (b : Nat) (code : Nat) (f : Nat) (n : Nat) : Within
    0x800000000000000000000000000000000000000000000000000000000000000002 s (@State.tele
    s b code f n) := by
  unfold State.tele
  repeat' (first
      | with_reducible apply Within.ite <;> intro _
      | with_reducible apply Within.rfl
      | (with_reducible apply Within.on (m := 0x800000000000000000000000000000000000000000000000000000000000000002) (teleAdd_within _ _ _) (by decide))
      | (with_reducible apply Within.foldl; intro t x))

theorem tele_regs (s : State) (b : Nat) (code : Nat) (f : Nat) (n : Nat) {ks : List Field} (h1 :
    Reg.TELEM_BLK_OVF_OVF ∈ ks) : onlyRegs ks s (@State.tele s b code f n) := by
  unfold State.tele
  repeat' (first
      | (with_reducible apply onlyRegs.rfl)
      | (with_reducible assumption)
      | (with_reducible exact List.mem_cons_self)
      | (with_reducible apply List.mem_cons_of_mem)
      | (with_reducible apply onlyRegs.ite <;> intro _)
      | (with_reducible apply onlyRegs.on (teleAdd_regs _ _ _ ?_))
      | (with_reducible apply onlyRegs.foldl; intro t x))

theorem teleBegin_within (s : State) (e : Nat × Nat × Nat) : Within
    0x800000000000000000000000000000000000000000000000000000000000000002 s
    (@State.teleBegin s e) := by
  unfold State.teleBegin
  repeat' (first
      | with_reducible apply Within.ite <;> intro _
      | with_reducible apply Within.rfl
      | (with_reducible apply Within.on (m := 0x800000000000000000000000000000000000000000000000000000000000000002) (teleAdd_within _ _ _) (by decide))
      | (with_reducible apply Within.foldl; intro t x))

theorem teleBegin_regs (s : State) (e : Nat × Nat × Nat) {ks : List Field} (h1 :
    Reg.TELEM_BLK_OVF_OVF ∈ ks) : onlyRegs ks s (@State.teleBegin s e) := by
  unfold State.teleBegin
  repeat' (first
      | (with_reducible apply onlyRegs.rfl)
      | (with_reducible assumption)
      | (with_reducible exact List.mem_cons_self)
      | (with_reducible apply List.mem_cons_of_mem)
      | (with_reducible apply onlyRegs.ite <;> intro _)
      | (with_reducible apply onlyRegs.on (teleAdd_regs _ _ _ ?_))
      | (with_reducible apply onlyRegs.foldl; intro t x))

theorem teleCount_within (s : State) (t : State) : Within
    0x800000000000000000000000000000000000000000000000000000000000000002 t (@teleCount s
    t) := by
  unfold teleCount
  repeat' (first
      | extract_lets
      | with_reducible apply Within.ite <;> intro _
      | with_reducible apply Within.rfl
      | (with_reducible apply Within.on (m := 0x800000000000000000000000000000000000000000000000000000000000000002) (tele_within _ _ _ _ _) (by decide))
      | (with_reducible apply Within.on (m := 0x800000000000000000000000000000000000000000000000000000000000000002) (teleBegin_within _ _) (by decide))
      | (with_reducible apply Within.foldl; intro t x))

theorem teleCount_regs (s : State) (t : State) {ks : List Field} (h1 :
    Reg.TELEM_BLK_OVF_OVF ∈ ks) : onlyRegs ks t (@teleCount s t) := by
  unfold teleCount
  repeat' (first
      | (with_reducible apply onlyRegs.rfl)
      | extract_lets
      | (with_reducible assumption)
      | (with_reducible exact List.mem_cons_self)
      | (with_reducible apply List.mem_cons_of_mem)
      | (with_reducible apply onlyRegs.ite <;> intro _)
      | (with_reducible apply onlyRegs.on (tele_regs _ _ _ _ _ ?_))
      | (with_reducible apply onlyRegs.on (teleBegin_regs _ _ ?_))
      | (with_reducible apply onlyRegs.foldl; intro t x))

theorem pick_2000000000000000000000000000000000000000000000000000000000000000000 (s t : State) : State.pick 0x2000000000000000000000000000000000000000000000000000000000000000000 s t = { s with
    telem := { s.telem with bwRead := t.telem.bwRead } } := rfl

theorem bwCount_within (s : State) (t : State) : Within
    0x2000000000000000000000000000000000000000000000000000000000000000000 t (@bwCount s
    t) := by
  unfold bwCount
  repeat' (first
      | with_reducible apply Within.ite <;> intro _
      | with_reducible apply Within.rfl
      | fail_if_no_progress with_reducible apply Within.upd (by rw [pick_2000000000000000000000000000000000000000000000000000000000000000000]))

theorem pick_2800000000000000000000000000000000000000000000000000000000000000022 (s t : State) : State.pick 0x2800000000000000000000000000000000000000000000000000000000000000022 s t = { s with
    regs := t.regs, out := t.out, telem := { s.telem with counts := t.telem.counts, bwRead := t.telem.bwRead } } := rfl

theorem settle_within (s : State) (t : State) : Within
    0x2800000000000000000000000000000000000000000000000000000000000000022 t (@settle s t)
    := by
  unfold settle
  repeat' (first
      | extract_lets
      | with_reducible apply Within.rfl
      | (with_reducible apply Within.on (m := 0x2800000000000000000000000000000000000000000000000000000000000000022) (teleCount_within _ _) (by decide))
      | (with_reducible apply Within.on (m := 0x2800000000000000000000000000000000000000000000000000000000000000022) (bwCount_within _ _) (by decide))
      | fail_if_no_progress with_reducible apply Within.upd (by rw [pick_2800000000000000000000000000000000000000000000000000000000000000022]))

theorem settle_regs (s : State) (t : State) {ks : List Field} (h1 :
    Reg.TELEM_BLK_OVF_OVF ∈ ks) : onlyRegs ks t (@settle s t) := by
  unfold settle
  repeat' (first
      | (with_reducible apply onlyRegs.rfl)
      | extract_lets
      | (with_reducible assumption)
      | (with_reducible exact List.mem_cons_self)
      | (with_reducible apply List.mem_cons_of_mem)
      | (with_reducible apply onlyRegs.on (teleCount_regs _ _ ?_))
      | (with_reducible apply onlyRegs.keep (bwCount_within _ _) (by decide))
      | fail_if_no_progress with_reducible apply onlyRegs.upd)


theorem Within.done {M : Nat} {s t u : State} (h : Machine.done s t = .next u) (hM : 0x2800000000000000000000000000000000000000000000000000000000000000022 ||| M = M) (g : Within M s t) : Within M s u := by
  simp only [Machine.done, Host.Outcome.next.injEq] at h
  subst h
  have e : settle s t = State.pick M s (settle s t) := Within.on (settle_within s t) hM g
  show { settle s t with pending := s.pending } = State.pick M s { settle s t with pending := s.pending }
  generalize settle s t = S at e
  conv => lhs; rw [e]
  unfold State.pick
  cases M.testBit 0 <;> rfl


theorem onlyRegs.done {l : List Field} {s t u : State} (h : Machine.done s t = .next u) (h1 : Reg.TELEM_BLK_OVF_OVF ∈ l) (g : onlyRegs l s t) : onlyRegs l s u := by
  simp only [Machine.done, Host.Outcome.next.injEq] at h
  subst h
  exact (settle_regs s t h1).on g


theorem pick_14c00000000000000000 (s t : State) : State.pick 0x14c00000000000000000 s t = { s with
    chron := { s.chron with
      perm := t.chron.perm, ring := t.chron.ring, buffer := t.chron.buffer, runs := t.chron.runs } } := rfl

theorem closeRun_within (s : State) (r : ChronRun) : Within 0x14c00000000000000000
    s (@State.closeRun s r) := by
  unfold State.closeRun
  repeat' (first
      | extract_lets
      | with_reducible apply Within.ite <;> intro _
      | with_reducible apply Within.rfl
      | fail_if_no_progress with_reducible apply Within.upd (by rw [pick_14c00000000000000000])
      | with_reducible apply Within.of_fst (by assumption)
      | with_reducible apply Within.of_fst1 (by assumption)
      | split)

theorem pick_3cc00000000000000002 (s t : State) : State.pick 0x3cc00000000000000002 s t = { s with
    regs := t.regs,
    chron := { s.chron with
      perm := t.chron.perm, ring := t.chron.ring, buffer := t.chron.buffer, nextSerial := t.chron.nextSerial,
      runs := t.chron.runs, dropped := t.chron.dropped } } := rfl

theorem chronNew_within (s : State) (r : ChronRec) : Within
    0x3cc00000000000000002 s (@State.chronNew s r) := by
  unfold State.chronNew
  repeat' (first
      | extract_lets
      | with_reducible apply Within.ite <;> intro _
      | with_reducible apply Within.rfl
      | (with_reducible apply Within.on (m := 0x3cc00000000000000002) (bump_within _ _ _ _ _) (by decide))
      | (with_reducible apply Within.on (m := 0x3cc00000000000000002) (closeRun_within _ _) (by decide))
      | fail_if_no_progress with_reducible apply Within.upd (by rw [pick_3cc00000000000000002])
      | with_reducible apply Within.of_fst (by assumption)
      | with_reducible apply Within.of_fst1 (by assumption)
      | split)

theorem chronNew_regs (s : State) (r : ChronRec) {ks : List Field} (h1 :
    Reg.CHRON_DROP_CNT ∈ ks) : onlyRegs ks s (@State.chronNew s r) := by
  unfold State.chronNew
  repeat' (first
      | (with_reducible apply onlyRegs.rfl)
      | extract_lets
      | (with_reducible assumption)
      | (with_reducible exact List.mem_cons_self)
      | (with_reducible apply List.mem_cons_of_mem)
      | (with_reducible apply onlyRegs.ite <;> intro _)
      | (with_reducible apply onlyRegs.on (bump_regs _ _ _ _ _ ?_))
      | (with_reducible apply onlyRegs.keep (closeRun_within _ _) (by decide))
      | fail_if_no_progress with_reducible apply onlyRegs.upd
      | with_reducible apply onlyRegs.of_fst (by assumption)
      | with_reducible apply onlyRegs.of_fst1 (by assumption)
      | split)

theorem chronOne_within (s : State) (code : Nat) (source : Nat) (sev : Nat) (payload : List Nat) :
    Within 0x3cc00000000000000002 s (@State.chronOne s code source sev payload) := by
  unfold State.chronOne
  repeat' (first
      | extract_lets
      | with_reducible apply Within.ite <;> intro _
      | with_reducible apply Within.rfl
      | (with_reducible apply Within.on (m := 0x3cc00000000000000002) (chronNew_within _ _) (by decide))
      | (with_reducible apply Within.on (m := 0x3cc00000000000000002) (bump_within _ _ _ _ _) (by decide))
      | (with_reducible apply Within.on (m := 0x3cc00000000000000002) (closeRun_within _ _) (by decide))
      | fail_if_no_progress with_reducible apply Within.upd (by rw [pick_3cc00000000000000002])
      | with_reducible apply Within.of_fst (by assumption)
      | with_reducible apply Within.of_fst1 (by assumption)
      | split)

theorem chronOne_regs (s : State) (code : Nat) (source : Nat) (sev : Nat) (payload : List Nat) {ks
    : List Field} (h1 : Reg.CHRON_DROP_CNT ∈ ks) (h2 : Reg.CHRON_REPEAT_CNT ∈ ks) : onlyRegs ks s
    (@State.chronOne s code source sev payload) := by
  unfold State.chronOne
  repeat' (first
      | (with_reducible apply onlyRegs.rfl)
      | extract_lets
      | (with_reducible assumption)
      | (with_reducible exact List.mem_cons_self)
      | (with_reducible apply List.mem_cons_of_mem)
      | (with_reducible apply onlyRegs.ite <;> intro _)
      | (with_reducible apply onlyRegs.on (chronNew_regs _ _ ?_))
      | (with_reducible apply onlyRegs.on (bump_regs _ _ _ _ _ ?_))
      | (with_reducible apply onlyRegs.keep (closeRun_within _ _) (by decide))
      | fail_if_no_progress with_reducible apply onlyRegs.upd
      | with_reducible apply onlyRegs.of_fst (by assumption)
      | with_reducible apply onlyRegs.of_fst1 (by assumption)
      | split)

theorem chronicle_within (s : State) (code : Nat) (source : Nat) (sev : Nat) (payload : List Nat) :
    Within 0x3cc00000000000000002 s (@State.chronicle s code source sev payload) := by
  unfold State.chronicle
  repeat' (first
      | extract_lets
      | with_reducible apply Within.ite <;> intro _
      | with_reducible apply Within.rfl
      | (with_reducible apply Within.on (m := 0x3cc00000000000000002) (chronOne_within _ _ _ _ _) (by decide))
      | fail_if_no_progress with_reducible apply Within.upd (by rw [pick_3cc00000000000000002]))

theorem chronicle_regs (s : State) (code : Nat) (source : Nat) (sev : Nat) (payload : List Nat) {ks
    : List Field} (h1 : Reg.CHRON_DROP_CNT ∈ ks) (h2 : Reg.CHRON_REPEAT_CNT ∈ ks) : onlyRegs ks s
    (@State.chronicle s code source sev payload) := by
  unfold State.chronicle
  repeat' (first
      | (with_reducible apply onlyRegs.rfl)
      | extract_lets
      | (with_reducible assumption)
      | (with_reducible exact List.mem_cons_self)
      | (with_reducible apply List.mem_cons_of_mem)
      | (with_reducible apply onlyRegs.ite <;> intro _)
      | (with_reducible apply onlyRegs.on (chronOne_regs _ _ _ _ _ ?_ ?_))
      | fail_if_no_progress with_reducible apply onlyRegs.upd)

theorem logInterrupt_within (s : State) (l : Log) : Within 32 s
    (@State.logInterrupt s l) := by
  unfold State.logInterrupt
  repeat' (first
      | with_reducible apply Within.rfl
      | (with_reducible apply Within.on (m := 32) (emit_within _ _) (by decide))
      | fail_if_no_progress with_reducible apply Within.upd (by rw [pick_20])
      | with_reducible apply Within.of_fst (by assumption)
      | with_reducible apply Within.of_fst1 (by assumption)
      | split)

theorem pick_7fbcc00000000000000022 (s t : State) : State.pick 0x7fbcc00000000000000022 s t = { s with
    regs := t.regs, out := t.out,
    chron := { s.chron with
      perm := t.chron.perm, ring := t.chron.ring, buffer := t.chron.buffer, nextSerial := t.chron.nextSerial,
      runs := t.chron.runs, dropped := t.chron.dropped },
    events := t.events } := rfl

theorem event_within (s : State) (l : Log) (r : EventRec) (source
    : Nat) : Within 0x7fbcc00000000000000022 s (@State.event s l r source) := by
  unfold State.event
  repeat' (first
      | extract_lets
      | with_reducible apply Within.ite <;> intro _
      | with_reducible apply Within.rfl
      | (with_reducible apply Within.on (m := 0x7fbcc00000000000000022) (logInterrupt_within _ _) (by decide))
      | (with_reducible apply Within.on (m := 0x7fbcc00000000000000022) (chronicle_within _ _ _ _ _) (by decide))
      | fail_if_no_progress with_reducible apply Within.upd (by rw [pick_7fbcc00000000000000022]))

theorem event_regs (s : State) (l : Log) (r : EventRec) (source
    : Nat) {ks : List Field} (h1 : Reg.CHRON_DROP_CNT ∈ ks) (h2 : Reg.CHRON_REPEAT_CNT ∈ ks) : onlyRegs ks s
    (@State.event s l r source) := by
  unfold State.event
  repeat' (first
      | (with_reducible apply onlyRegs.rfl)
      | extract_lets
      | (with_reducible assumption)
      | (with_reducible exact List.mem_cons_self)
      | (with_reducible apply List.mem_cons_of_mem)
      | (with_reducible apply onlyRegs.ite <;> intro _)
      | (with_reducible apply onlyRegs.keep (logInterrupt_within _ _) (by decide))
      | (with_reducible apply onlyRegs.on (chronicle_regs _ _ _ _ _ ?_ ?_))
      | fail_if_no_progress with_reducible apply onlyRegs.upd)

theorem health_within (s : State) (f : Field) : Within 2 s
    (@State.health s f) := by
  unfold State.health
  repeat' (first
      | with_reducible apply Within.rfl
      | (with_reducible apply Within.on (m := 2) (setBit_within _ _ _ _ _) (by decide)))

theorem health_regs (s : State) (f : Field) {ks : List Field} (h0 : f ∈ ks) :
    onlyRegs ks s (@State.health s f) := by
  unfold State.health
  repeat' (first
      | (with_reducible apply onlyRegs.rfl)
      | (with_reducible assumption)
      | (with_reducible exact List.mem_cons_self)
      | (with_reducible apply List.mem_cons_of_mem)
      | (with_reducible apply onlyRegs.on (setBit_regs _ _ _ _ _ ?_)))

theorem bucket_within (s : State) (b : Nat) (e : BucketEvent) : Within
    0x7fbcc00000000000000022 s (@State.bucket s b e) := by
  unfold State.bucket
  repeat' (first
      | extract_lets
      | with_reducible apply Within.ite <;> intro _
      | with_reducible apply Within.rfl
      | (with_reducible apply Within.on (m := 0x7fbcc00000000000000022) (wr_within _ _ _ _ _) (by decide))
      | (with_reducible apply Within.on (m := 0x7fbcc00000000000000022) (bump_within _ _ _ _ _) (by decide))
      | (with_reducible apply Within.on (m := 0x7fbcc00000000000000022) (health_within _ _) (by decide))
      | (with_reducible apply Within.on (m := 0x7fbcc00000000000000022) (event_within _ _ _ _) (by decide)))

theorem bucket_regs (s : State) (b : Nat) (e : BucketEvent) {ks : List Field} (h1
    : Reg.CHRON_DROP_CNT ∈ ks) (h2 : Reg.CHRON_REPEAT_CNT ∈ ks) (h3 : Reg.ERR_BUCKET_STATUS_LEVEL ∈ ks) (h4 :
    Reg.ERR_BUCKET_STATUS_OVF_CNT ∈ ks) (h5 : Reg.ERR_HEALTH_EVENT_BUCKET_OVF ∈ ks) : onlyRegs ks s
    (@State.bucket s b e) := by
  unfold State.bucket
  repeat' (first
      | (with_reducible apply onlyRegs.rfl)
      | extract_lets
      | (with_reducible assumption)
      | (with_reducible exact List.mem_cons_self)
      | (with_reducible apply List.mem_cons_of_mem)
      | (with_reducible apply onlyRegs.ite <;> intro _)
      | (with_reducible apply onlyRegs.wr)
      | (with_reducible apply onlyRegs.on (bump_regs _ _ _ _ _ ?_))
      | (with_reducible apply onlyRegs.on (health_regs _ _ ?_))
      | (with_reducible apply onlyRegs.on (event_regs _ _ _ _ ?_ ?_)))

theorem pick_c10000000000000 (s t : State) : State.pick 0xc10000000000000 s t = { s with
    keep := { s.keep with shadow := t.keep.shadow, queue := t.keep.queue, lost := t.keep.lost } } := rfl

theorem keepWrite_within (s : State) (page : Nat) (data : PageData) (group : Nat) :
    Within 0xc10000000000000 s (@State.keepWrite s page data group) := by
  unfold State.keepWrite
  repeat' (first
      | extract_lets
      | with_reducible apply Within.rfl
      | fail_if_no_progress with_reducible apply Within.upd (by rw [pick_c10000000000000]))

theorem pick_3ffff0000000000000 (s t : State) : State.pick 0x3ffff0000000000000 s t = { s with keep := t.keep } := rfl

theorem flash_within (s : State) : Within 0x3ffff0000000000000 s (@State.flash s)
    := by
  unfold State.flash
  repeat' (first
      | with_reducible apply Within.ite <;> intro _
      | with_reducible apply Within.rfl
      | fail_if_no_progress with_reducible apply Within.upd (by rw [pick_3ffff0000000000000])
      | with_reducible apply Within.of_fst (by assumption)
      | with_reducible apply Within.of_fst1 (by assumption)
      | split)

theorem pick_6c10000000000000 (s t : State) : State.pick 0x6c10000000000000 s t = { s with
    keep := { s.keep with
      shadow := t.keep.shadow, queue := t.keep.queue, lost := t.keep.lost, groupPages := t.keep.groupPages,
      groupCounter := t.keep.groupCounter } } := rfl

theorem keepGroup_within (s : State) (pages : List (Nat × PageData)) (nonces : List
    (BitVec 64)) : Within 0x6c10000000000000 s (@State.keepGroup s pages nonces) := by
  unfold State.keepGroup
  repeat' (first
      | extract_lets
      | with_reducible apply Within.rfl
      | (with_reducible apply Within.on (m := 0x6c10000000000000) (keepWrite_within _ _ _ _) (by decide))
      | (with_reducible apply Within.foldl; intro t x)
      | fail_if_no_progress with_reducible apply Within.upd (by rw [pick_6c10000000000000]))

end Sys2Proof.Machine
end

