-- ==== Sys2Proof/Laws/PlaceFrames.lean ====
section
/-! SUPPORT. For each function of Machine/Place.lean over the state: the part of the state outside which it changes
nothing (`…_within`), and the register fields that it may write (`…_regs`). -/

namespace Sys2Proof.Machine

set_option maxRecDepth 4000

theorem pick_2000000000000000000000000000000000000000000 (s t : State) : State.pick 0x2000000000000000000000000000000000000000000 s t = { s with
    xlat := { s.xlat with tracts := t.xlat.tracts } } := rfl

theorem setTract_within (s : State) (t0 : Nat) (x : Tract) : Within
    0x2000000000000000000000000000000000000000000 s (@State.setTract s t0 x) := by
  unfold State.setTract
  repeat' (first
      | with_reducible apply Within.rfl
      | fail_if_no_progress with_reducible apply Within.upd (by rw [pick_2000000000000000000000000000000000000000000]))

theorem pick_8000000000000000000000000000000000000000000 (s t : State) : State.pick 0x8000000000000000000000000000000000000000000 s t = { s with
    xlat := { s.xlat with blocks := t.xlat.blocks } } := rfl

theorem setBlock_within (s : State) (b : Nat) (x : Block) : Within
    0x8000000000000000000000000000000000000000000 s (@State.setBlock s b x) := by
  unfold State.setBlock
  repeat' (first
      | with_reducible apply Within.rfl
      | fail_if_no_progress with_reducible apply Within.upd (by rw [pick_8000000000000000000000000000000000000000000]))

theorem pick_1000000000000000000000000000000000000000 (s t : State) : State.pick 0x1000000000000000000000000000000000000000 s t = { s with
    chans := t.chans } := rfl

theorem setChan_within (s : State) (c : Nat) (x : Chan) : Within
    0x1000000000000000000000000000000000000000 s (@State.setChan s c x) := by
  unfold State.setChan
  repeat' (first
      | with_reducible apply Within.rfl
      | fail_if_no_progress with_reducible apply Within.upd (by rw [pick_1000000000000000000000000000000000000000]))

theorem touchTract_within (s : State) (t0 : Nat) : Within
    0x2000000000000000000000000000000000000000000 s (@State.touchTract s t0) := by
  unfold State.touchTract
  repeat' (first
      | with_reducible apply Within.rfl
      | (with_reducible apply Within.on (m := 0x2000000000000000000000000000000000000000000) (setTract_within _ _ _) (by decide)))

theorem poolCounts_within (s : State) : Within 2 s (@State.poolCounts s) := by
  unfold State.poolCounts
  repeat' (first
      | extract_lets
      | with_reducible apply Within.rfl
      | (with_reducible apply Within.on (m := 2) (wr_within _ _ _ _ _) (by decide)))

theorem poolCounts_regs (s : State) {ks : List Field} (h1 : Reg.XLAT_COLD_COUNT_BLOCKS ∈ ks) (h2 :
    Reg.XLAT_HOT_COUNT_BLOCKS ∈ ks) (h3 : Reg.XLAT_LIFTED_PAGES ∈ ks) (h4 : Reg.XLAT_MOVES_ACTIVE ∈ ks) (h5 :
    Reg.XLAT_MOVES_QUEUED ∈ ks) (h6 : Reg.XLAT_POOL_STATUS_FREE ∈ ks) : onlyRegs ks s
    (@State.poolCounts s) := by
  unfold State.poolCounts
  repeat' (first
      | (with_reducible apply onlyRegs.rfl)
      | extract_lets
      | (with_reducible assumption)
      | (with_reducible exact List.mem_cons_self)
      | (with_reducible apply List.mem_cons_of_mem)
      | (with_reducible apply onlyRegs.wr))

theorem pick_108000000000000000000000000000000000000000000 (s t : State) : State.pick 0x108000000000000000000000000000000000000000000 s t = { s with
    xlat := { s.xlat with blocks := t.xlat.blocks, precondQ := t.xlat.precondQ } } := rfl

theorem retireOrQueue_within (s : State) (b : Nat) : Within
    0x108000000000000000000000000000000000000000000 s (@State.retireOrQueue s b) := by
  unfold State.retireOrQueue
  repeat' (first
      | extract_lets
      | with_reducible apply Within.ite <;> intro _
      | with_reducible apply Within.rfl
      | (with_reducible apply Within.on (m := 0x108000000000000000000000000000000000000000000) (setBlock_within _ _ _) (by decide))
      | fail_if_no_progress with_reducible apply Within.upd (by rw [pick_108000000000000000000000000000000000000000000]))

theorem pick_200000000000000000000000000000 (s t : State) : State.pick 0x200000000000000000000000000000 s t = { s with
    merge := { s.merge with entries := t.merge.entries } } := rfl

theorem retarget_within (s : State) (t0 : Nat) : Within 0x200000000000000000000000000000 s
    (@State.retarget s t0) := by
  unfold State.retarget
  repeat' (first
      | with_reducible apply Within.rfl
      | fail_if_no_progress with_reducible apply Within.upd (by rw [pick_200000000000000000000000000000]))

theorem pick_200000000000000000000000000000000000000 (s t : State) : State.pick 0x200000000000000000000000000000000000000 s t = { s with
    pages := t.pages } := rfl

theorem setMline_within (s : State) (mp : Nat) (ln : Nat) (l : MLine) : Within
    0x200000000000000000000000000000000000000 s (@State.setMline s mp ln l) := by
  unfold State.setMline
  repeat' (first
      | with_reducible apply Within.rfl
      | fail_if_no_progress with_reducible apply Within.upd (by rw [pick_200000000000000000000000000000000000000])
      | with_reducible apply Within.of_fst (by assumption)
      | with_reducible apply Within.of_fst1 (by assumption)
      | split)

theorem wear_within (s : State) (b : Nat) (n : Nat) : Within
    0x8000000000000000000000000000000000000000000 s (@State.wear s b n) := by
  unfold State.wear
  repeat' (first
      | with_reducible apply Within.rfl
      | (with_reducible apply Within.on (m := 0x8000000000000000000000000000000000000000000) (setBlock_within _ _ _) (by decide)))

theorem teleAppend_within (s : State) (mps : List Nat) : Within
    0x800000000000000000000000000000000000000000000000000000000000000002 s
    (@State.teleAppend s mps) := by
  unfold State.teleAppend
  repeat' (first
      | with_reducible apply Within.rfl
      | (with_reducible apply Within.on (m := 0x800000000000000000000000000000000000000000000000000000000000000002) (tele_within _ _ _ _ _) (by decide))
      | (with_reducible apply Within.foldl; intro t x))

theorem teleAppend_regs (s : State) (mps : List Nat) {ks : List Field} (h1 : Reg.TELEM_BLK_OVF_OVF
    ∈ ks) : onlyRegs ks s (@State.teleAppend s mps) := by
  unfold State.teleAppend
  repeat' (first
      | (with_reducible apply onlyRegs.rfl)
      | (with_reducible assumption)
      | (with_reducible exact List.mem_cons_self)
      | (with_reducible apply List.mem_cons_of_mem)
      | (with_reducible apply onlyRegs.on (tele_regs _ _ _ _ _ ?_))
      | (with_reducible apply onlyRegs.foldl; intro t x))

theorem pick_800000000000000000000008000200000000000000000000000000000000000002 (s t : State) : State.pick 0x800000000000000000000008000200000000000000000000000000000000000002 s t = { s with
    regs := t.regs, pages := t.pages, xlat := { s.xlat with blocks := t.xlat.blocks },
    telem := { s.telem with counts := t.telem.counts } } := rfl

theorem programStripe_within (s : State) (sbn : Nat) (stripe : Nat) (pages : List
    MPage) (failed : List Nat) : Within
    0x800000000000000000000008000200000000000000000000000000000000000002 s
    (@State.programStripe s sbn stripe pages failed) := by
  unfold State.programStripe
  repeat' (first
      | extract_lets
      | with_reducible apply Within.rfl
      | (with_reducible apply Within.on (m := 0x800000000000000000000008000200000000000000000000000000000000000002) (teleAppend_within _ _) (by decide))
      | (with_reducible apply Within.on (m := 0x800000000000000000000008000200000000000000000000000000000000000002) (wear_within _ _ _) (by decide))
      | fail_if_no_progress with_reducible apply Within.upd (by rw [pick_800000000000000000000008000200000000000000000000000000000000000002]))

theorem programStripe_regs (s : State) (sbn : Nat) (stripe : Nat) (pages : List
    MPage) (failed : List Nat) {ks : List Field} (h1 : Reg.TELEM_BLK_OVF_OVF ∈ ks) : onlyRegs ks s
    (@State.programStripe s sbn stripe pages failed) := by
  unfold State.programStripe
  repeat' (first
      | (with_reducible apply onlyRegs.rfl)
      | extract_lets
      | (with_reducible assumption)
      | (with_reducible exact List.mem_cons_self)
      | (with_reducible apply List.mem_cons_of_mem)
      | (with_reducible apply onlyRegs.on (teleAppend_regs _ _ ?_))
      | (with_reducible apply onlyRegs.keep (wear_within _ _ _) (by decide))
      | fail_if_no_progress with_reducible apply onlyRegs.upd)

theorem pick_2600c0000000200000000000000000000000000000000000000 (s t : State) : State.pick 0x2600c0000000200000000000000000000000000000000000000 s t = { s with
    pages := t.pages, xlat := { s.xlat with failedSlots := t.xlat.failedSlots, badParity := t.xlat.badParity },
    err := { s.err with refresh := t.err.refresh, rewrites := t.err.rewrites, wake := t.err.wake } } := rfl

theorem eraseBlock_within (s : State) (sbn : Nat) : Within
    0x2600c0000000200000000000000000000000000000000000000 s (@State.eraseBlock s sbn) := by
  unfold State.eraseBlock
  repeat' (first
      | with_reducible apply Within.rfl
      | fail_if_no_progress with_reducible apply Within.upd (by rw [pick_2600c0000000200000000000000000000000000000000000000]))

end Sys2Proof.Machine
end

