-- ==== Sys2Proof/Laws/ErrorsFrames.lean ====
section
/-! SUPPORT. For each function of Machine/Errors.lean over the state: the part of the state outside which it changes
nothing (`…_within`), and the register fields that it may write (`…_regs`). -/

namespace Sys2Proof.Machine

set_option maxRecDepth 4000

theorem pick_2000000000000000000000000000000000000000000000002 (s t : State) : State.pick 0x2000000000000000000000000000000000000000000000002 s t = { s with
    regs := t.regs, err := { s.err with poisonLost := t.err.poisonLost } } := rfl

theorem poisonFull_within (s : State) : Within
    0x2000000000000000000000000000000000000000000000002 s (@State.poisonFull s) := by
  unfold State.poisonFull
  repeat' (first
      | extract_lets
      | with_reducible apply Within.ite <;> intro _
      | with_reducible apply Within.rfl
      | (with_reducible apply Within.on (m := 0x2000000000000000000000000000000000000000000000002) (health_within _ _) (by decide))
      | (with_reducible apply Within.on (m := 0x2000000000000000000000000000000000000000000000002) (setBit_within _ _ _ _ _) (by decide))
      | fail_if_no_progress with_reducible apply Within.upd (by rw [pick_2000000000000000000000000000000000000000000000002]))

theorem poisonFull_regs (s : State) {ks : List Field} (h1 : Reg.ERR_HEALTH_EVENT_POISON_FULL ∈ ks)
    (h2 : Reg.ERR_POISON_LIST_OVERFLOW ∈ ks) : onlyRegs ks s (@State.poisonFull s) := by
  unfold State.poisonFull
  repeat' (first
      | (with_reducible apply onlyRegs.rfl)
      | extract_lets
      | (with_reducible assumption)
      | (with_reducible exact List.mem_cons_self)
      | (with_reducible apply List.mem_cons_of_mem)
      | (with_reducible apply onlyRegs.ite <;> intro _)
      | (with_reducible apply onlyRegs.on (health_regs _ _ ?_))
      | (with_reducible apply onlyRegs.on (setBit_regs _ _ _ _ _ ?_))
      | fail_if_no_progress with_reducible apply onlyRegs.upd)

theorem pick_1000000000000000000000000000000000000000000000002 (s t : State) : State.pick 0x1000000000000000000000000000000000000000000000002 s t = { s with
    regs := t.regs, err := { s.err with poison := t.err.poison } } := rfl

theorem setPoison_within (s : State) (l : List PoisonRec) : Within
    0x1000000000000000000000000000000000000000000000002 s (@State.setPoison s l) := by
  unfold State.setPoison
  repeat' (first
      | with_reducible apply Within.rfl
      | (with_reducible apply Within.on (m := 0x1000000000000000000000000000000000000000000000002) (wr_within _ _ _ _ _) (by decide))
      | fail_if_no_progress with_reducible apply Within.upd (by rw [pick_1000000000000000000000000000000000000000000000002]))

theorem setPoison_regs (s : State) (l : List PoisonRec) {ks : List Field} (h1 :
    Reg.ERR_POISON_LIST_RECORDS ∈ ks) : onlyRegs ks s (@State.setPoison s l) := by
  unfold State.setPoison
  repeat' (first
      | (with_reducible apply onlyRegs.rfl)
      | (with_reducible assumption)
      | (with_reducible exact List.mem_cons_self)
      | (with_reducible apply List.mem_cons_of_mem)
      | (with_reducible apply onlyRegs.wr)
      | fail_if_no_progress with_reducible apply onlyRegs.upd)

theorem pick_3000000000000000000000000000000000000000000000002 (s t : State) : State.pick 0x3000000000000000000000000000000000000000000000002 s t = { s with
    regs := t.regs, err := { s.err with poison := t.err.poison, poisonLost := t.err.poisonLost } } := rfl

theorem poisonAdd_within (s : State) (line : Nat) (src : PoisonSrc) : Within
    0x3000000000000000000000000000000000000000000000002 s (@State.poisonAdd s line src) :=
    by
  unfold State.poisonAdd
  repeat' (first
      | extract_lets
      | with_reducible apply Within.ite <;> intro _
      | with_reducible apply Within.rfl
      | (with_reducible apply Within.on (m := 0x3000000000000000000000000000000000000000000000002) (poisonFull_within _) (by decide))
      | (with_reducible apply Within.on (m := 0x3000000000000000000000000000000000000000000000002) (setPoison_within _ _) (by decide)))

theorem poisonAdd_regs (s : State) (line : Nat) (src : PoisonSrc) {ks : List
    Field} (h1 : Reg.ERR_HEALTH_EVENT_POISON_FULL ∈ ks) (h2 : Reg.ERR_POISON_LIST_OVERFLOW ∈ ks) (h3 :
    Reg.ERR_POISON_LIST_RECORDS ∈ ks) : onlyRegs ks s (@State.poisonAdd s line src) := by
  unfold State.poisonAdd
  repeat' (first
      | (with_reducible apply onlyRegs.rfl)
      | extract_lets
      | (with_reducible assumption)
      | (with_reducible exact List.mem_cons_self)
      | (with_reducible apply List.mem_cons_of_mem)
      | (with_reducible apply onlyRegs.ite <;> intro _)
      | (with_reducible apply onlyRegs.on (poisonFull_regs _ ?_ ?_))
      | (with_reducible apply onlyRegs.on (setPoison_regs _ _ ?_)))

theorem poisonDrop_within (s : State) (line : Nat) : Within
    0x3000000000000000000000000000000000000000000000002 s (@State.poisonDrop s line) := by
  unfold State.poisonDrop
  repeat' (first
      | extract_lets
      | with_reducible apply Within.ite <;> intro _
      | with_reducible apply Within.rfl
      | (with_reducible apply Within.on (m := 0x3000000000000000000000000000000000000000000000002) (poisonFull_within _) (by decide))
      | (with_reducible apply Within.on (m := 0x3000000000000000000000000000000000000000000000002) (setPoison_within _ _) (by decide)))

theorem poisonDrop_regs (s : State) (line : Nat) {ks : List Field} (h1 :
    Reg.ERR_HEALTH_EVENT_POISON_FULL ∈ ks) (h2 : Reg.ERR_POISON_LIST_OVERFLOW ∈ ks) (h3 : Reg.ERR_POISON_LIST_RECORDS
    ∈ ks) : onlyRegs ks s (@State.poisonDrop s line) := by
  unfold State.poisonDrop
  repeat' (first
      | (with_reducible apply onlyRegs.rfl)
      | extract_lets
      | (with_reducible assumption)
      | (with_reducible exact List.mem_cons_self)
      | (with_reducible apply List.mem_cons_of_mem)
      | (with_reducible apply onlyRegs.ite <;> intro _)
      | (with_reducible apply onlyRegs.on (poisonFull_regs _ ?_ ?_))
      | (with_reducible apply onlyRegs.on (setPoison_regs _ _ ?_)))

theorem dirtyLost_within (s : State) (line : Nat) : Within 0x7fbcc00000000000000022 s
    (@State.dirtyLost s line) := by
  unfold State.dirtyLost
  repeat' (first
      | extract_lets
      | with_reducible apply Within.rfl
      | (with_reducible apply Within.on (m := 0x7fbcc00000000000000022) (health_within _ _) (by decide))
      | (with_reducible apply Within.on (m := 0x7fbcc00000000000000022) (bump_within _ _ _ _ _) (by decide))
      | (with_reducible apply Within.on (m := 0x7fbcc00000000000000022) (event_within _ _ _ _) (by decide)))

theorem dirtyLost_regs (s : State) (line : Nat) {ks : List Field} (h1 : Reg.CHRON_DROP_CNT ∈ ks)
    (h2 : Reg.CHRON_REPEAT_CNT ∈ ks) (h3 : Reg.ERR_DIRTY_LOST_CNT ∈ ks) (h4 : Reg.ERR_HEALTH_EVENT_DIRTY_LOST ∈ ks) :
    onlyRegs ks s (@State.dirtyLost s line) := by
  unfold State.dirtyLost
  repeat' (first
      | (with_reducible apply onlyRegs.rfl)
      | extract_lets
      | (with_reducible assumption)
      | (with_reducible exact List.mem_cons_self)
      | (with_reducible apply List.mem_cons_of_mem)
      | (with_reducible apply onlyRegs.on (health_regs _ _ ?_))
      | (with_reducible apply onlyRegs.on (bump_regs _ _ _ _ _ ?_))
      | (with_reducible apply onlyRegs.on (event_regs _ _ _ _ ?_ ?_)))

theorem pick_10000000000000000000000000000007fbcc00000000000000022 (s t : State) : State.pick 0x10000000000000000000000000000007fbcc00000000000000022 s t = { s with
    regs := t.regs, out := t.out,
    chron := { s.chron with
      perm := t.chron.perm, ring := t.chron.ring, buffer := t.chron.buffer, nextSerial := t.chron.nextSerial,
      runs := t.chron.runs, dropped := t.chron.dropped },
    events := t.events, err := { s.err with lastUncorrHi := t.err.lastUncorrHi } } := rfl

theorem uncorrRecord_within (s : State) (line : Nat) (chan : Nat) (transaction : Nat) : Within
    0x10000000000000000000000000000007fbcc00000000000000022 s (@State.uncorrRecord s line
    chan transaction) := by
  unfold State.uncorrRecord
  repeat' (first
      | extract_lets
      | with_reducible apply Within.rfl
      | (with_reducible apply Within.on (m := 0x10000000000000000000000000000007fbcc00000000000000022) (bump_within _ _ _ _ _) (by decide))
      | (with_reducible apply Within.on (m := 0x10000000000000000000000000000007fbcc00000000000000022) (setBit_within _ _ _ _ _) (by decide))
      | (with_reducible apply Within.on (m := 0x10000000000000000000000000000007fbcc00000000000000022) (wr_within _ _ _ _ _) (by decide))
      | (with_reducible apply Within.on (m := 0x10000000000000000000000000000007fbcc00000000000000022) (event_within _ _ _ _) (by decide))
      | (with_reducible apply Within.on (m := 0x10000000000000000000000000000007fbcc00000000000000022) (health_within _ _) (by decide))
      | fail_if_no_progress with_reducible apply Within.upd (by rw [pick_10000000000000000000000000000007fbcc00000000000000022]))

theorem uncorrRecord_regs (s : State) (line : Nat) (chan : Nat) (transaction : Nat) {ks : List
    Field} (h1 : Reg.CHAN_UNCORR_CNT ∈ ks) (h2 : Reg.CHRON_DROP_CNT ∈ ks) (h3 : Reg.CHRON_REPEAT_CNT ∈ ks) (h4 :
    Reg.ERR_HEALTH_EVENT_UNCORR ∈ ks) (h5 : Reg.ERR_LAST_UNCORR_HI_VALID ∈ ks) (h6 : Reg.ERR_LAST_UNCORR_LO_DPA_LO ∈
    ks) (h7 : Reg.ERR_UNCORR_CNT ∈ ks) : onlyRegs ks s (@State.uncorrRecord s line chan transaction)
    := by
  unfold State.uncorrRecord
  repeat' (first
      | (with_reducible apply onlyRegs.rfl)
      | extract_lets
      | (with_reducible assumption)
      | (with_reducible exact List.mem_cons_self)
      | (with_reducible apply List.mem_cons_of_mem)
      | (with_reducible apply onlyRegs.on (bump_regs _ _ _ _ _ ?_))
      | (with_reducible apply onlyRegs.on (setBit_regs _ _ _ _ _ ?_))
      | (with_reducible apply onlyRegs.wr)
      | (with_reducible apply onlyRegs.on (event_regs _ _ _ _ ?_ ?_))
      | (with_reducible apply onlyRegs.on (health_regs _ _ ?_))
      | fail_if_no_progress with_reducible apply onlyRegs.upd)

theorem pick_800000000000000000000000000000000000000000007fbcc00000000000000022 (s t : State) : State.pick 0x800000000000000000000000000000000000000000007fbcc00000000000000022 s t = { s with
    regs := t.regs, out := t.out,
    chron := { s.chron with
      perm := t.chron.perm, ring := t.chron.ring, buffer := t.chron.buffer, nextSerial := t.chron.nextSerial,
      runs := t.chron.runs, dropped := t.chron.dropped },
    events := t.events, telem := { s.telem with counts := t.telem.counts } } := rfl

theorem correctedVol_within (s : State) (r : Region) (address : Nat) : Within
    0x800000000000000000000000000000000000000000007fbcc00000000000000022 s
    (@State.correctedVol s r address) := by
  unfold State.correctedVol
  repeat' (first
      | with_reducible apply Within.rfl
      | (with_reducible apply Within.on (m := 0x800000000000000000000000000000000000000000007fbcc00000000000000022) (bucket_within _ _ _) (by decide))
      | (with_reducible apply Within.on (m := 0x800000000000000000000000000000000000000000007fbcc00000000000000022) (bump_within _ _ _ _ _) (by decide))
      | (with_reducible apply Within.on (m := 0x800000000000000000000000000000000000000000007fbcc00000000000000022) (tele_within _ _ _ _ _) (by decide)))

theorem correctedVol_regs (s : State) (r : Region) (address : Nat) {ks : List
    Field} (h1 : Reg.CHRON_DROP_CNT ∈ ks) (h2 : Reg.CHRON_REPEAT_CNT ∈ ks) (h3 : Reg.ERR_BUCKET_STATUS_LEVEL ∈ ks) (h4
    : Reg.ERR_BUCKET_STATUS_OVF_CNT ∈ ks) (h5 : Reg.ERR_CORR_VOL_CNT ∈ ks) (h6 : Reg.ERR_HEALTH_EVENT_BUCKET_OVF ∈ ks)
    (h7 : Reg.TELEM_BLK_OVF_OVF ∈ ks) : onlyRegs ks s (@State.correctedVol s r address) := by
  unfold State.correctedVol
  repeat' (first
      | (with_reducible apply onlyRegs.rfl)
      | (with_reducible assumption)
      | (with_reducible exact List.mem_cons_self)
      | (with_reducible apply List.mem_cons_of_mem)
      | (with_reducible apply onlyRegs.on (bucket_regs _ _ _ ?_ ?_ ?_ ?_ ?_))
      | (with_reducible apply onlyRegs.on (bump_regs _ _ _ _ _ ?_))
      | (with_reducible apply onlyRegs.on (tele_regs _ _ _ _ _ ?_)))

theorem detected_within (s : State) (r : Region) (address : Nat) : Within
    0x7fbcc00000000000000022 s (@State.detected s r address) := by
  unfold State.detected
  repeat' (first
      | extract_lets
      | with_reducible apply Within.rfl
      | (with_reducible apply Within.on (m := 0x7fbcc00000000000000022) (health_within _ _) (by decide))
      | (with_reducible apply Within.on (m := 0x7fbcc00000000000000022) (bump_within _ _ _ _ _) (by decide))
      | (with_reducible apply Within.on (m := 0x7fbcc00000000000000022) (event_within _ _ _ _) (by decide)))

theorem detected_regs (s : State) (r : Region) (address : Nat) {ks : List Field}
    (h1 : Reg.CHRON_DROP_CNT ∈ ks) (h2 : Reg.CHRON_REPEAT_CNT ∈ ks) (h3 : Reg.ERR_HEALTH_EVENT_UNCORR ∈ ks) (h4 :
    Reg.ERR_UNCORR_CNT ∈ ks) : onlyRegs ks s (@State.detected s r address) := by
  unfold State.detected
  repeat' (first
      | (with_reducible apply onlyRegs.rfl)
      | extract_lets
      | (with_reducible assumption)
      | (with_reducible exact List.mem_cons_self)
      | (with_reducible apply List.mem_cons_of_mem)
      | (with_reducible apply onlyRegs.on (health_regs _ _ ?_))
      | (with_reducible apply onlyRegs.on (bump_regs _ _ _ _ _ ?_))
      | (with_reducible apply onlyRegs.on (event_regs _ _ _ _ ?_ ?_)))

theorem recovered_within (s : State) (line : Nat) (chan : Nat) : Within 0x7fbcc00000000000000022 s
    (@State.recovered s line chan) := by
  unfold State.recovered
  repeat' (first
      | with_reducible apply Within.rfl
      | (with_reducible apply Within.on (m := 0x7fbcc00000000000000022) (bucket_within _ _ _) (by decide))
      | (with_reducible apply Within.on (m := 0x7fbcc00000000000000022) (bump_within _ _ _ _ _) (by decide)))

theorem recovered_regs (s : State) (line : Nat) (chan : Nat) {ks : List Field} (h1 :
    Reg.CHRON_DROP_CNT ∈ ks) (h2 : Reg.CHRON_REPEAT_CNT ∈ ks) (h3 : Reg.ERR_BUCKET_STATUS_LEVEL ∈ ks) (h4 :
    Reg.ERR_BUCKET_STATUS_OVF_CNT ∈ ks) (h5 : Reg.ERR_CORR_PERS_CNT ∈ ks) (h6 : Reg.ERR_HEALTH_EVENT_BUCKET_OVF ∈ ks)
    : onlyRegs ks s (@State.recovered s line chan) := by
  unfold State.recovered
  repeat' (first
      | (with_reducible apply onlyRegs.rfl)
      | (with_reducible assumption)
      | (with_reducible exact List.mem_cons_self)
      | (with_reducible apply List.mem_cons_of_mem)
      | (with_reducible apply onlyRegs.on (bucket_regs _ _ _ ?_ ?_ ?_ ?_ ?_))
      | (with_reducible apply onlyRegs.on (bump_regs _ _ _ _ _ ?_)))

theorem pick_20000000000000000000000000000000000000000000000000 (s t : State) : State.pick 0x20000000000000000000000000000000000000000000000000 s t = { s with
    err := { s.err with refresh := t.err.refresh } } := rfl

theorem markRefresh_within (s : State) (mp : Nat) : Within
    0x20000000000000000000000000000000000000000000000000 s (@State.markRefresh s mp) := by
  unfold State.markRefresh
  repeat' (first
      | with_reducible apply Within.ite <;> intro _
      | with_reducible apply Within.rfl
      | fail_if_no_progress with_reducible apply Within.upd (by rw [pick_20000000000000000000000000000000000000000000000000]))

theorem pick_40000000000000000000000000000000000000000000000000 (s t : State) : State.pick 0x40000000000000000000000000000000000000000000000000 s t = { s with
    err := { s.err with rewrites := t.err.rewrites } } := rfl

theorem askRewrite_within (s : State) (r : Rewrite) : Within
    0x40000000000000000000000000000000000000000000000000 s (@State.askRewrite s r) := by
  unfold State.askRewrite
  repeat' (first
      | with_reducible apply Within.ite <;> intro _
      | with_reducible apply Within.rfl
      | fail_if_no_progress with_reducible apply Within.upd (by rw [pick_40000000000000000000000000000000000000000000000000]))

theorem pick_40000000000000000000000000000000000000000000000002 (s t : State) : State.pick 0x40000000000000000000000000000000000000000000000002 s t = { s with
    regs := t.regs, err := { s.err with rewrites := t.err.rewrites } } := rfl

theorem rewriteGood_within (s : State) (line : Nat) (mp : Nat) (ln : Nat) (data : Sys2Proof.LineData)
    : Within 0x40000000000000000000000000000000000000000000000002 s (@State.rewriteGood s
    line mp ln data) := by
  unfold State.rewriteGood
  repeat' (first
      | extract_lets
      | with_reducible apply Within.ite <;> intro _
      | with_reducible apply Within.rfl
      | (with_reducible apply Within.on (m := 0x40000000000000000000000000000000000000000000000002) (bump_within _ _ _ _ _) (by decide))
      | (with_reducible apply Within.on (m := 0x40000000000000000000000000000000000000000000000002) (askRewrite_within _ _) (by decide)))

theorem rewriteGood_regs (s : State) (line : Nat) (mp : Nat) (ln : Nat) (data : Sys2Proof.LineData)
    {ks : List Field} (h1 : Reg.ERR_REWRITE_CNT ∈ ks) : onlyRegs ks s (@State.rewriteGood s line mp ln
    data) := by
  unfold State.rewriteGood
  repeat' (first
      | (with_reducible apply onlyRegs.rfl)
      | extract_lets
      | (with_reducible assumption)
      | (with_reducible exact List.mem_cons_self)
      | (with_reducible apply List.mem_cons_of_mem)
      | (with_reducible apply onlyRegs.ite <;> intro _)
      | (with_reducible apply onlyRegs.on (bump_regs _ _ _ _ _ ?_))
      | (with_reducible apply onlyRegs.keep (askRewrite_within _ _) (by decide)))

theorem pick_43000000000000000000000000000000000000000000000002 (s t : State) : State.pick 0x43000000000000000000000000000000000000000000000002 s t = { s with
    regs := t.regs,
    err := { s.err with poison := t.err.poison, poisonLost := t.err.poisonLost, rewrites := t.err.rewrites } } := rfl

theorem rewritePoison_within (s : State) (line : Nat) (mp : Nat) (ln : Nat) : Within
    0x43000000000000000000000000000000000000000000000002 s (@State.rewritePoison s line mp
    ln) := by
  unfold State.rewritePoison
  repeat' (first
      | extract_lets
      | with_reducible apply Within.ite <;> intro _
      | with_reducible apply Within.rfl
      | (with_reducible apply Within.on (m := 0x43000000000000000000000000000000000000000000000002) (poisonAdd_within _ _ _) (by decide))
      | (with_reducible apply Within.on (m := 0x43000000000000000000000000000000000000000000000002) (askRewrite_within _ _) (by decide)))

theorem rewritePoison_regs (s : State) (line : Nat) (mp : Nat) (ln : Nat) {ks : List Field} (h1 :
    Reg.ERR_HEALTH_EVENT_POISON_FULL ∈ ks) (h2 : Reg.ERR_POISON_LIST_OVERFLOW ∈ ks) (h3 : Reg.ERR_POISON_LIST_RECORDS
    ∈ ks) : onlyRegs ks s (@State.rewritePoison s line mp ln) := by
  unfold State.rewritePoison
  repeat' (first
      | (with_reducible apply onlyRegs.rfl)
      | extract_lets
      | (with_reducible assumption)
      | (with_reducible exact List.mem_cons_self)
      | (with_reducible apply List.mem_cons_of_mem)
      | (with_reducible apply onlyRegs.ite <;> intro _)
      | (with_reducible apply onlyRegs.on (poisonAdd_regs _ _ _ ?_ ?_ ?_))
      | (with_reducible apply onlyRegs.keep (askRewrite_within _ _) (by decide)))

end Sys2Proof.Machine
end

