-- ==== Sys2Proof/Laws/LookupFrames.lean ====
section
/-! SUPPORT. For each function of Machine/Lookup.lean over the state: the part of the state outside which it changes
nothing (`…_within`), and the register fields that it may write (`…_regs`). -/

namespace Sys2Proof.Machine

set_option maxRecDepth 4000

theorem pick_8000000000000000000000000000 (s t : State) : State.pick 0x8000000000000000000000000000 s t = { s with
    sessions := t.sessions } := rfl

theorem setSess_within (s : State) (n : Nat) (e : Session) : Within
    0x8000000000000000000000000000 s (@State.setSess s n e) := by
  unfold State.setSess
  repeat' (first
      | with_reducible apply Within.rfl
      | fail_if_no_progress with_reducible apply Within.upd (by rw [pick_8000000000000000000000000000]))

theorem setTrackers_within (s : State) (p : Nat) (l : Nat) (n : Nat) : Within 2 s
    (@State.setTrackers s p l n) := by
  unfold State.setTrackers
  repeat' (first
      | with_reducible apply Within.ite <;> intro _
      | with_reducible apply Within.rfl
      | (with_reducible apply Within.on (m := 2) (wr_within _ _ _ _ _) (by decide)))

theorem setTrackers_regs (s : State) (p : Nat) (l : Nat) (n : Nat) {ks : List Field} (h1 :
    Reg.PORT_INFLIGHT_LINK0 ∈ ks) (h2 : Reg.PORT_INFLIGHT_LINK1 ∈ ks) (h3 : Reg.PORT_INFLIGHT_PEAK_LINK0 ∈ ks) (h4 :
    Reg.PORT_INFLIGHT_PEAK_LINK1 ∈ ks) : onlyRegs ks s (@State.setTrackers s p l n) := by
  unfold State.setTrackers
  repeat' (first
      | (with_reducible apply onlyRegs.rfl)
      | (with_reducible assumption)
      | (with_reducible exact List.mem_cons_self)
      | (with_reducible apply List.mem_cons_of_mem)
      | (with_reducible apply onlyRegs.ite <;> intro _)
      | (with_reducible apply onlyRegs.wr))

theorem respond_within (s : State) (p : Nat) (l : Nat) (discard : Bool) (o : Out) :
    Within 32 s (@State.respond s p l discard o) := by
  unfold State.respond
  repeat' (first
      | with_reducible apply Within.ite <;> intro _
      | with_reducible apply Within.rfl
      | (with_reducible apply Within.on (m := 32) (emit_within _ _) (by decide)))

theorem orphan_within (s : State) (m : Sys2Proof.M2S) : Within 0x7fbcc00000000000000022 s
    (@State.orphan s m) := by
  unfold State.orphan
  repeat' (first
      | extract_lets
      | with_reducible apply Within.ite <;> intro _
      | with_reducible apply Within.rfl
      | (with_reducible apply Within.on (m := 0x7fbcc00000000000000022) (bump_within _ _ _ _ _) (by decide))
      | (with_reducible apply Within.on (m := 0x7fbcc00000000000000022) (event_within _ _ _ _) (by decide))
      | fail_if_no_progress with_reducible apply Within.upd (by rw [pick_7fbcc00000000000000022]))

theorem orphan_regs (s : State) (m : Sys2Proof.M2S) {ks : List Field} (h1 : Reg.CHRON_DROP_CNT ∈
    ks) (h2 : Reg.CHRON_REPEAT_CNT ∈ ks) (h3 : Reg.SESS_ORPHAN_CNT ∈ ks) : onlyRegs ks s
    (@State.orphan s m) := by
  unfold State.orphan
  repeat' (first
      | (with_reducible apply onlyRegs.rfl)
      | extract_lets
      | (with_reducible assumption)
      | (with_reducible exact List.mem_cons_self)
      | (with_reducible apply List.mem_cons_of_mem)
      | (with_reducible apply onlyRegs.ite <;> intro _)
      | (with_reducible apply onlyRegs.on (bump_regs _ _ _ _ _ ?_))
      | (with_reducible apply onlyRegs.on (event_regs _ _ _ _ ?_ ?_))
      | fail_if_no_progress with_reducible apply onlyRegs.upd)

theorem pick_8000000000000000000000000002 (s t : State) : State.pick 0x8000000000000000000000000002 s t = { s with
    regs := t.regs, sessions := t.sessions } := rfl

theorem hold_within (s : State) (n : Nat) (e : Session) (c :
    HoldCause) : Within 0x8000000000000000000000000002 s (@State.hold s n e c)
    := by
  unfold State.hold
  repeat' (first
      | with_reducible apply Within.rfl
      | (with_reducible apply Within.on (m := 0x8000000000000000000000000002) (bump_within _ _ _ _ _) (by decide))
      | (with_reducible apply Within.on (m := 0x8000000000000000000000000002) (setSess_within _ _ _) (by decide)))

theorem hold_regs (s : State) (n : Nat) (e : Session) (c :
    HoldCause) {ks : List Field} (h1 : Reg.SESS_HELD ∈ ks) (h2 : Reg.SESS_HOLD_CNT ∈ ks) : onlyRegs ks
    s (@State.hold s n e c) := by
  unfold State.hold
  repeat' (first
      | (with_reducible apply onlyRegs.rfl)
      | (with_reducible assumption)
      | (with_reducible exact List.mem_cons_self)
      | (with_reducible apply List.mem_cons_of_mem)
      | (with_reducible apply onlyRegs.on (bump_regs _ _ _ _ _ ?_))
      | (with_reducible apply onlyRegs.keep (setSess_within _ _ _) (by decide)))

theorem pick_100000000000000000000000000000020 (s t : State) : State.pick 0x100000000000000000000000000000020 s t = { s with
    out := t.out, merge := { s.merge with capoCredits := t.merge.capoCredits } } := rfl

theorem returnCredit_within (s : State) (p : Nat) (l : Nat) (rwd : Bool) : Within
    0x100000000000000000000000000000020 s (@State.returnCredit s p l rwd) := by
  unfold State.returnCredit
  repeat' (first
      | with_reducible apply Within.ite <;> intro _
      | with_reducible apply Within.rfl
      | (with_reducible apply Within.on (m := 0x100000000000000000000000000000020) (emit_within _ _) (by decide))
      | fail_if_no_progress with_reducible apply Within.upd (by rw [pick_100000000000000000000000000000020]))

theorem pick_100008000000000000000000000000022 (s t : State) : State.pick 0x100008000000000000000000000000022 s t = { s with
    regs := t.regs, out := t.out, sessions := t.sessions,
    merge := { s.merge with capoCredits := t.merge.capoCredits } } := rfl

theorem enqueue_within (s : State) (n : Nat) (d : Desc) : Within
    0x100008000000000000000000000000022 s (@State.enqueue s n d) := by
  unfold State.enqueue
  repeat' (first
      | extract_lets
      | with_reducible apply Within.ite <;> intro _
      | with_reducible apply Within.rfl
      | (with_reducible apply Within.on (m := 0x100008000000000000000000000000022) (setSess_within _ _ _) (by decide))
      | (with_reducible apply Within.on (m := 0x100008000000000000000000000000022) (returnCredit_within _ _ _ _) (by decide))
      | (with_reducible apply Within.on (m := 0x100008000000000000000000000000022) (wr_within _ _ _ _ _) (by decide))
      | (with_reducible apply Within.on (m := 0x100008000000000000000000000000022) (hold_within _ _ _ _) (by decide))
      | fail_if_no_progress with_reducible apply Within.upd (by rw [pick_100008000000000000000000000000022])
      | with_reducible apply Within.of_fst (by assumption)
      | with_reducible apply Within.of_fst1 (by assumption)
      | split)

theorem enqueue_regs (s : State) (n : Nat) (d : Desc) {ks : List Field} (h1 :
    Reg.SESS_HELD ∈ ks) (h2 : Reg.SESS_HOLD_CNT ∈ ks) (h3 : Reg.SESS_SPILL_STATUS_SHARED_FREE ∈ ks) : onlyRegs ks s
    (@State.enqueue s n d) := by
  unfold State.enqueue
  repeat' (first
      | (with_reducible apply onlyRegs.rfl)
      | extract_lets
      | (with_reducible assumption)
      | (with_reducible exact List.mem_cons_self)
      | (with_reducible apply List.mem_cons_of_mem)
      | (with_reducible apply onlyRegs.ite <;> intro _)
      | (with_reducible apply onlyRegs.keep (setSess_within _ _ _) (by decide))
      | (with_reducible apply onlyRegs.keep (returnCredit_within _ _ _ _) (by decide))
      | (with_reducible apply onlyRegs.wr)
      | (with_reducible apply onlyRegs.on (hold_regs _ _ _ _ ?_ ?_))
      | fail_if_no_progress with_reducible apply onlyRegs.upd
      | with_reducible apply onlyRegs.of_fst (by assumption)
      | with_reducible apply onlyRegs.of_fst1 (by assumption)
      | split)

theorem freeShared_within (s : State) (k : Nat) : Within 2 s (@State.freeShared s
    k) := by
  unfold State.freeShared
  repeat' (first
      | with_reducible apply Within.ite <;> intro _
      | with_reducible apply Within.rfl
      | (with_reducible apply Within.on (m := 2) (wr_within _ _ _ _ _) (by decide)))

theorem freeShared_regs (s : State) (k : Nat) {ks : List Field} (h1 :
    Reg.SESS_SPILL_STATUS_SHARED_FREE ∈ ks) : onlyRegs ks s (@State.freeShared s k) := by
  unfold State.freeShared
  repeat' (first
      | (with_reducible apply onlyRegs.rfl)
      | (with_reducible assumption)
      | (with_reducible exact List.mem_cons_self)
      | (with_reducible apply List.mem_cons_of_mem)
      | (with_reducible apply onlyRegs.ite <;> intro _)
      | (with_reducible apply onlyRegs.wr))

theorem retainLane_within (s : State) (n : Nat) (l : Sys2Proof.Lane) (keep : Desc →
    Bool) : Within 0x8000000000000000000000000002 s (@State.retainLane s n l keep) := by
  unfold State.retainLane
  repeat' (first
      | extract_lets
      | with_reducible apply Within.rfl
      | (with_reducible apply Within.on (m := 0x8000000000000000000000000002) (freeShared_within _ _) (by decide))
      | (with_reducible apply Within.on (m := 0x8000000000000000000000000002) (setSess_within _ _ _) (by decide)))

theorem retainLane_regs (s : State) (n : Nat) (l : Sys2Proof.Lane) (keep : Desc →
    Bool) {ks : List Field} (h1 : Reg.SESS_SPILL_STATUS_SHARED_FREE ∈ ks) : onlyRegs ks s
    (@State.retainLane s n l keep) := by
  unfold State.retainLane
  repeat' (first
      | (with_reducible apply onlyRegs.rfl)
      | extract_lets
      | (with_reducible assumption)
      | (with_reducible exact List.mem_cons_self)
      | (with_reducible apply List.mem_cons_of_mem)
      | (with_reducible apply onlyRegs.on (freeShared_regs _ _ ?_))
      | (with_reducible apply onlyRegs.keep (setSess_within _ _ _) (by decide)))

theorem endHold_within (s : State) (n : Nat) : Within 0x100008000000000000000000000000022 s
    (@State.endHold s n) := by
  unfold State.endHold
  repeat' (first
      | extract_lets
      | with_reducible apply Within.ite <;> intro _
      | with_reducible apply Within.rfl
      | (with_reducible apply Within.on (m := 0x100008000000000000000000000000022) (returnCredit_within _ _ _ _) (by decide))
      | (with_reducible apply Within.on (m := 0x100008000000000000000000000000022) (wr_within _ _ _ _ _) (by decide))
      | (with_reducible apply Within.on (m := 0x100008000000000000000000000000022) (setSess_within _ _ _) (by decide))
      | (with_reducible apply Within.foldl; intro t x))

theorem noteWait_within (s : State) (n : Nat) (l : Sys2Proof.Lane) : Within
    0x8000000000000000000000000000 s (@State.noteWait s n l) := by
  unfold State.noteWait
  repeat' (first
      | extract_lets
      | with_reducible apply Within.ite <;> intro _
      | with_reducible apply Within.rfl
      | (with_reducible apply Within.on (m := 0x8000000000000000000000000000) (setSess_within _ _ _) (by decide)))

theorem pick_38000000000000000000000000002 (s t : State) : State.pick 0x38000000000000000000000000002 s t = { s with
    regs := t.regs, sessions := t.sessions, reqs := t.reqs, nextRid := t.nextRid } := rfl

theorem takeTracker_within (s : State) (r : Req) : Within
    0x38000000000000000000000000002 s (@State.takeTracker s r).1 := by
  unfold State.takeTracker
  repeat' (first
      | extract_lets
      | with_reducible apply Within.rfl
      | (with_reducible apply Within.on (m := 0x38000000000000000000000000002) (setTrackers_within _ _ _ _) (by decide))
      | (with_reducible apply Within.on (m := 0x38000000000000000000000000002) (setSess_within _ _ _) (by decide))
      | fail_if_no_progress with_reducible apply Within.upd (by rw [pick_38000000000000000000000000002]))

theorem takeTracker_regs (s : State) (r : Req) {ks : List Field} (h1 :
    Reg.PORT_INFLIGHT_LINK0 ∈ ks) (h2 : Reg.PORT_INFLIGHT_LINK1 ∈ ks) (h3 : Reg.PORT_INFLIGHT_PEAK_LINK0 ∈ ks) (h4 :
    Reg.PORT_INFLIGHT_PEAK_LINK1 ∈ ks) : onlyRegs ks s (@State.takeTracker s r).1 := by
  unfold State.takeTracker
  repeat' (first
      | (with_reducible apply onlyRegs.rfl)
      | extract_lets
      | (with_reducible assumption)
      | (with_reducible exact List.mem_cons_self)
      | (with_reducible apply List.mem_cons_of_mem)
      | (with_reducible apply onlyRegs.on (setTrackers_regs _ _ _ _ ?_ ?_ ?_ ?_))
      | (with_reducible apply onlyRegs.keep (setSess_within _ _ _) (by decide))
      | fail_if_no_progress with_reducible apply onlyRegs.upd)

theorem pick_18000000000000000000000000002 (s t : State) : State.pick 0x18000000000000000000000000002 s t = { s with
    regs := t.regs, sessions := t.sessions, reqs := t.reqs } := rfl

theorem release_within (s : State) (rid : Nat) : Within 0x18000000000000000000000000002 s
    (@State.release s rid) := by
  unfold State.release
  repeat' (first
      | extract_lets
      | with_reducible apply Within.rfl
      | (with_reducible apply Within.on (m := 0x18000000000000000000000000002) (setTrackers_within _ _ _ _) (by decide))
      | (with_reducible apply Within.on (m := 0x18000000000000000000000000002) (setSess_within _ _ _) (by decide))
      | fail_if_no_progress with_reducible apply Within.upd (by rw [pick_18000000000000000000000000002])
      | with_reducible apply Within.of_fst (by assumption)
      | with_reducible apply Within.of_fst1 (by assumption)
      | split)

theorem release_regs (s : State) (rid : Nat) {ks : List Field} (h1 : Reg.PORT_INFLIGHT_LINK0 ∈ ks)
    (h2 : Reg.PORT_INFLIGHT_LINK1 ∈ ks) (h3 : Reg.PORT_INFLIGHT_PEAK_LINK0 ∈ ks) (h4 : Reg.PORT_INFLIGHT_PEAK_LINK1 ∈
    ks) : onlyRegs ks s (@State.release s rid) := by
  unfold State.release
  repeat' (first
      | (with_reducible apply onlyRegs.rfl)
      | extract_lets
      | (with_reducible assumption)
      | (with_reducible exact List.mem_cons_self)
      | (with_reducible apply List.mem_cons_of_mem)
      | (with_reducible apply onlyRegs.on (setTrackers_regs _ _ _ _ ?_ ?_ ?_ ?_))
      | (with_reducible apply onlyRegs.keep (setSess_within _ _ _) (by decide))
      | fail_if_no_progress with_reducible apply onlyRegs.upd
      | with_reducible apply onlyRegs.of_fst (by assumption)
      | with_reducible apply onlyRegs.of_fst1 (by assumption)
      | split)

end Sys2Proof.Machine
end

