-- ==== Sys2Proof/Laws/MergeOpsFrames.lean ====
section
/-! SUPPORT. For each function of Machine/MergeOps.lean over the state: the part of the state outside which it changes
nothing (`…_within`), and the register fields that it may write (`…_regs`). -/

namespace Sys2Proof.Machine

set_option maxRecDepth 4000

theorem putEntry_within (s : State) (line : Nat) (e : Entry) : Within
    0x200000000000000000000000000000 s (@State.putEntry s line e) := by
  unfold State.putEntry
  repeat' (first
      | with_reducible apply Within.rfl
      | fail_if_no_progress with_reducible apply Within.upd (by rw [pick_200000000000000000000000000000]))

theorem pick_8000000000010000000000000000000000000000 (s t : State) : State.pick 0x8000000000010000000000000000000000000000 s t = { s with
    reqs := t.reqs, sched := { s.sched with jobs := t.sched.jobs } } := rfl

theorem forgetReads_within (s : State) (lines : Nat → Bool) (all : Bool) : Within
    0x8000000000010000000000000000000000000000 s (@State.forgetReads s lines all) := by
  unfold State.forgetReads
  repeat' (first
      | extract_lets
      | with_reducible apply Within.rfl
      | fail_if_no_progress with_reducible apply Within.upd (by rw [pick_8000000000010000000000000000000000000000]))

theorem pick_8000000000210000000000000000000000000000 (s t : State) : State.pick 0x8000000000210000000000000000000000000000 s t = { s with
    reqs := t.reqs, merge := { s.merge with entries := t.merge.entries },
    sched := { s.sched with jobs := t.sched.jobs } } := rfl

theorem dropEntry_within (s : State) (line : Nat) : Within
    0x8000000000210000000000000000000000000000 s (@State.dropEntry s line) := by
  unfold State.dropEntry
  repeat' (first
      | extract_lets
      | with_reducible apply Within.rfl
      | (with_reducible apply Within.on (m := 0x8000000000210000000000000000000000000000) (forgetReads_within _ _ _) (by decide))
      | fail_if_no_progress with_reducible apply Within.upd (by rw [pick_8000000000210000000000000000000000000000]))

theorem mergeCounts_within (s : State) : Within 2 s (@State.mergeCounts s) := by
  unfold State.mergeCounts
  repeat' (first
      | extract_lets
      | with_reducible apply Within.rfl
      | (with_reducible apply Within.on (m := 2) (setBit_within _ _ _ _ _) (by decide))
      | (with_reducible apply Within.on (m := 2) (wr_within _ _ _ _ _) (by decide)))

theorem mergeCounts_regs (s : State) {ks : List Field} (h1 : Reg.MERGE_PARTIAL_LINES ∈ ks) (h2 :
    Reg.MERGE_SETTLING_LINES ∈ ks) (h3 : Reg.MERGE_STATUS_DIRTY ∈ ks) (h4 : Reg.MERGE_STATUS_LIMIT ∈ ks) (h5 :
    Reg.XLAT_PINNED_LINES ∈ ks) : onlyRegs ks s (@State.mergeCounts s) := by
  unfold State.mergeCounts
  repeat' (first
      | (with_reducible apply onlyRegs.rfl)
      | extract_lets
      | (with_reducible assumption)
      | (with_reducible exact List.mem_cons_self)
      | (with_reducible apply List.mem_cons_of_mem)
      | (with_reducible apply onlyRegs.on (setBit_regs _ _ _ _ _ ?_))
      | (with_reducible apply onlyRegs.wr))

theorem pick_8000000000000000000000000000000000000000 (s t : State) : State.pick 0x8000000000000000000000000000000000000000 s t = { s with
    sched := { s.sched with jobs := t.sched.jobs } } := rfl

theorem staleJobs_within (s : State) (line : Nat) : Within
    0x8000000000000000000000000000000000000000 s (@State.staleJobs s line) := by
  unfold State.staleJobs
  repeat' (first
      | with_reducible apply Within.rfl
      | fail_if_no_progress with_reducible apply Within.upd (by rw [pick_8000000000000000000000000000000000000000]))

theorem dropFill_within (s : State) (line : Nat) : Within
    0x8000000000000000000000000000000000000000 s (@State.dropFill s line) := by
  unfold State.dropFill
  repeat' (first
      | with_reducible apply Within.rfl
      | fail_if_no_progress with_reducible apply Within.upd (by rw [pick_8000000000000000000000000000000000000000]))

theorem pick_60000000000000000 (s t : State) : State.pick 0x60000000000000000 s t = { s with
    keep := { s.keep with bytes := t.keep.bytes, byteLines := t.keep.byteLines } } := rfl

theorem countBytes_within (s : State) : Within 0x60000000000000000 s
    (@State.countBytes s) := by
  unfold State.countBytes
  repeat' (first
      | with_reducible apply Within.ite <;> intro _
      | with_reducible apply Within.rfl
      | fail_if_no_progress with_reducible apply Within.upd (by rw [pick_60000000000000000]))

theorem pick_3000002008000000000200000000000060000000000000002 (s t : State) : State.pick 0x3000002008000000000200000000000060000000000000002 s t = { s with
    regs := t.regs, keep := { s.keep with bytes := t.keep.bytes, byteLines := t.keep.byteLines },
    merge := { s.merge with entries := t.merge.entries }, sched := { s.sched with jobs := t.sched.jobs },
    xlat := { s.xlat with tracts := t.xlat.tracts },
    err := { s.err with poison := t.err.poison, poisonLost := t.err.poisonLost } } := rfl

theorem putMerged_within (s : State) (w : WriteIn) (e : Entry) :
    Within 0x3000002008000000000200000000000060000000000000002 s (@State.putMerged s w e) :=
    by
  unfold State.putMerged
  repeat' (first
      | extract_lets
      | with_reducible apply Within.ite <;> intro _
      | with_reducible apply Within.rfl
      | (with_reducible apply Within.on (m := 0x3000002008000000000200000000000060000000000000002) (putEntry_within _ _ _) (by decide))
      | (with_reducible apply Within.on (m := 0x3000002008000000000200000000000060000000000000002) (poisonAdd_within _ _ _) (by decide))
      | (with_reducible apply Within.on (m := 0x3000002008000000000200000000000060000000000000002) (poisonDrop_within _ _) (by decide))
      | (with_reducible apply Within.on (m := 0x3000002008000000000200000000000060000000000000002) (mergeCounts_within _) (by decide))
      | (with_reducible apply Within.on (m := 0x3000002008000000000200000000000060000000000000002) (bump_within _ _ _ _ _) (by decide))
      | (with_reducible apply Within.on (m := 0x3000002008000000000200000000000060000000000000002) (countBytes_within _) (by decide))
      | (with_reducible apply Within.on (m := 0x3000002008000000000200000000000060000000000000002) (staleJobs_within _ _) (by decide))
      | (with_reducible apply Within.on (m := 0x3000002008000000000200000000000060000000000000002) (touchTract_within _ _) (by decide)))

theorem putMerged_regs (s : State) (w : WriteIn) (e : Entry)
    {ks : List Field} (h1 : Reg.ERR_HEALTH_EVENT_POISON_FULL ∈ ks) (h2 : Reg.ERR_POISON_LIST_OVERFLOW ∈ ks) (h3 :
    Reg.ERR_POISON_LIST_RECORDS ∈ ks) (h4 : Reg.MERGE_MERGE_CNT ∈ ks) (h5 : Reg.MERGE_PARTIAL_LINES ∈ ks) (h6 :
    Reg.MERGE_SETTLING_LINES ∈ ks) (h7 : Reg.MERGE_STATUS_DIRTY ∈ ks) (h8 : Reg.MERGE_STATUS_LIMIT ∈ ks) (h9 :
    Reg.XLAT_PINNED_LINES ∈ ks) : onlyRegs ks s (@State.putMerged s w e) := by
  unfold State.putMerged
  repeat' (first
      | (with_reducible apply onlyRegs.rfl)
      | extract_lets
      | (with_reducible assumption)
      | (with_reducible exact List.mem_cons_self)
      | (with_reducible apply List.mem_cons_of_mem)
      | (with_reducible apply onlyRegs.ite <;> intro _)
      | (with_reducible apply onlyRegs.keep (putEntry_within _ _ _) (by decide))
      | (with_reducible apply onlyRegs.on (poisonAdd_regs _ _ _ ?_ ?_ ?_))
      | (with_reducible apply onlyRegs.on (poisonDrop_regs _ _ ?_ ?_ ?_))
      | (with_reducible apply onlyRegs.on (mergeCounts_regs _ ?_ ?_ ?_ ?_ ?_))
      | (with_reducible apply onlyRegs.on (bump_regs _ _ _ _ _ ?_))
      | (with_reducible apply onlyRegs.keep (countBytes_within _) (by decide))
      | (with_reducible apply onlyRegs.keep (staleJobs_within _ _) (by decide))
      | (with_reducible apply onlyRegs.keep (touchTract_within _ _) (by decide)))

theorem pick_3000002008000000000210000000000060000000000000002 (s t : State) : State.pick 0x3000002008000000000210000000000060000000000000002 s t = { s with
    regs := t.regs, keep := { s.keep with bytes := t.keep.bytes, byteLines := t.keep.byteLines }, reqs := t.reqs,
    merge := { s.merge with entries := t.merge.entries }, sched := { s.sched with jobs := t.sched.jobs },
    xlat := { s.xlat with tracts := t.xlat.tracts },
    err := { s.err with poison := t.err.poison, poisonLost := t.err.poisonLost } } := rfl

theorem mergeWrite_within (s : State) (w : WriteIn) (set : Nat) : Within
    0x3000002008000000000210000000000060000000000000002 s (@State.mergeWrite s w set) := by
  unfold State.mergeWrite
  repeat' (first
      | extract_lets
      | with_reducible apply Within.ite <;> intro _
      | with_reducible apply Within.rfl
      | (with_reducible apply Within.on (m := 0x3000002008000000000210000000000060000000000000002) (putMerged_within _ _ _) (by decide))
      | (with_reducible apply Within.on (m := 0x3000002008000000000210000000000060000000000000002) (dropEntry_within _ _) (by decide))
      | (with_reducible apply Within.on (m := 0x3000002008000000000210000000000060000000000000002) (bump_within _ _ _ _ _) (by decide))
      | with_reducible apply Within.of_fst (by assumption)
      | with_reducible apply Within.of_fst1 (by assumption)
      | split)

theorem mergeWrite_regs (s : State) (w : WriteIn) (set : Nat) {ks : List Field}
    (h1 : Reg.ERR_HEALTH_EVENT_POISON_FULL ∈ ks) (h2 : Reg.ERR_POISON_LIST_OVERFLOW ∈ ks) (h3 :
    Reg.ERR_POISON_LIST_RECORDS ∈ ks) (h4 : Reg.MERGE_MERGE_CNT ∈ ks) (h5 : Reg.MERGE_PARTIAL_LINES ∈ ks) (h6 :
    Reg.MERGE_SETTLE_REFETCH_CNT ∈ ks) (h7 : Reg.MERGE_SETTLING_LINES ∈ ks) (h8 : Reg.MERGE_STATUS_DIRTY ∈ ks) (h9 :
    Reg.MERGE_STATUS_LIMIT ∈ ks) (h10 : Reg.XLAT_PINNED_LINES ∈ ks) : onlyRegs ks s (@State.mergeWrite
    s w set) := by
  unfold State.mergeWrite
  repeat' (first
      | (with_reducible apply onlyRegs.rfl)
      | extract_lets
      | (with_reducible assumption)
      | (with_reducible exact List.mem_cons_self)
      | (with_reducible apply List.mem_cons_of_mem)
      | (with_reducible apply onlyRegs.ite <;> intro _)
      | (with_reducible apply onlyRegs.on (putMerged_regs _ _ _ ?_ ?_ ?_ ?_ ?_ ?_ ?_ ?_ ?_))
      | (with_reducible apply onlyRegs.keep (dropEntry_within _ _) (by decide))
      | (with_reducible apply onlyRegs.on (bump_regs _ _ _ _ _ ?_))
      | with_reducible apply onlyRegs.of_fst (by assumption)
      | with_reducible apply onlyRegs.of_fst1 (by assumption)
      | split)

theorem pick_200000000000000000000000000002 (s t : State) : State.pick 0x200000000000000000000000000002 s t = { s with
    regs := t.regs, merge := { s.merge with entries := t.merge.entries } } := rfl

theorem drainVerified_within (s : State) (line : Nat) : Within 0x200000000000000000000000000002 s
    (@State.drainVerified s line) := by
  unfold State.drainVerified
  repeat' (first
      | extract_lets
      | with_reducible apply Within.rfl
      | (with_reducible apply Within.on (m := 0x200000000000000000000000000002) (bump_within _ _ _ _ _) (by decide))
      | (with_reducible apply Within.on (m := 0x200000000000000000000000000002) (mergeCounts_within _) (by decide))
      | (with_reducible apply Within.on (m := 0x200000000000000000000000000002) (putEntry_within _ _ _) (by decide))
      | fail_if_no_progress with_reducible apply Within.upd (by rw [pick_200000000000000000000000000002])
      | with_reducible apply Within.of_fst (by assumption)
      | with_reducible apply Within.of_fst1 (by assumption)
      | split)

theorem drainVerified_regs (s : State) (line : Nat) {ks : List Field} (h1 : Reg.MERGE_DRAIN_CNT ∈
    ks) (h2 : Reg.MERGE_PARTIAL_LINES ∈ ks) (h3 : Reg.MERGE_SETTLING_LINES ∈ ks) (h4 : Reg.MERGE_STATUS_DIRTY ∈ ks)
    (h5 : Reg.MERGE_STATUS_LIMIT ∈ ks) (h6 : Reg.XLAT_PINNED_LINES ∈ ks) : onlyRegs ks s
    (@State.drainVerified s line) := by
  unfold State.drainVerified
  repeat' (first
      | (with_reducible apply onlyRegs.rfl)
      | extract_lets
      | (with_reducible assumption)
      | (with_reducible exact List.mem_cons_self)
      | (with_reducible apply List.mem_cons_of_mem)
      | (with_reducible apply onlyRegs.on (bump_regs _ _ _ _ _ ?_))
      | (with_reducible apply onlyRegs.on (mergeCounts_regs _ ?_ ?_ ?_ ?_ ?_))
      | (with_reducible apply onlyRegs.keep (putEntry_within _ _ _) (by decide))
      | fail_if_no_progress with_reducible apply onlyRegs.upd
      | with_reducible apply onlyRegs.of_fst (by assumption)
      | with_reducible apply onlyRegs.of_fst1 (by assumption)
      | split)

theorem drainFailed_within (s : State) (line : Nat) : Within 0x200000000000000000000000000002 s
    (@State.drainFailed s line) := by
  unfold State.drainFailed
  repeat' (first
      | with_reducible apply Within.ite <;> intro _
      | with_reducible apply Within.rfl
      | (with_reducible apply Within.on (m := 0x200000000000000000000000000002) (mergeCounts_within _) (by decide))
      | (with_reducible apply Within.on (m := 0x200000000000000000000000000002) (putEntry_within _ _ _) (by decide))
      | fail_if_no_progress with_reducible apply Within.upd (by rw [pick_200000000000000000000000000002])
      | with_reducible apply Within.of_fst (by assumption)
      | with_reducible apply Within.of_fst1 (by assumption)
      | split)

theorem drainFailed_regs (s : State) (line : Nat) {ks : List Field} (h1 : Reg.MERGE_PARTIAL_LINES ∈
    ks) (h2 : Reg.MERGE_SETTLING_LINES ∈ ks) (h3 : Reg.MERGE_STATUS_DIRTY ∈ ks) (h4 : Reg.MERGE_STATUS_LIMIT ∈ ks) (h5
    : Reg.XLAT_PINNED_LINES ∈ ks) : onlyRegs ks s (@State.drainFailed s line) := by
  unfold State.drainFailed
  repeat' (first
      | (with_reducible apply onlyRegs.rfl)
      | (with_reducible assumption)
      | (with_reducible exact List.mem_cons_self)
      | (with_reducible apply List.mem_cons_of_mem)
      | (with_reducible apply onlyRegs.ite <;> intro _)
      | (with_reducible apply onlyRegs.on (mergeCounts_regs _ ?_ ?_ ?_ ?_ ?_))
      | (with_reducible apply onlyRegs.keep (putEntry_within _ _ _) (by decide))
      | fail_if_no_progress with_reducible apply onlyRegs.upd
      | with_reducible apply onlyRegs.of_fst (by assumption)
      | with_reducible apply onlyRegs.of_fst1 (by assumption)
      | split)

theorem drainPoison_within (s : State) (line : Nat) (e : Entry) : Within
    0x3000000000000000000000000000000000000000000000002 s (@State.drainPoison s line e) :=
    by
  unfold State.drainPoison
  repeat' (first
      | with_reducible apply Within.ite <;> intro _
      | with_reducible apply Within.rfl
      | (with_reducible apply Within.on (m := 0x3000000000000000000000000000000000000000000000002) (poisonAdd_within _ _ _) (by decide)))

theorem drainPoison_regs (s : State) (line : Nat) (e : Entry) {ks : List Field}
    (h1 : Reg.ERR_HEALTH_EVENT_POISON_FULL ∈ ks) (h2 : Reg.ERR_POISON_LIST_OVERFLOW ∈ ks) (h3 :
    Reg.ERR_POISON_LIST_RECORDS ∈ ks) : onlyRegs ks s (@State.drainPoison s line e) := by
  unfold State.drainPoison
  repeat' (first
      | (with_reducible apply onlyRegs.rfl)
      | (with_reducible assumption)
      | (with_reducible exact List.mem_cons_self)
      | (with_reducible apply List.mem_cons_of_mem)
      | (with_reducible apply onlyRegs.ite <;> intro _)
      | (with_reducible apply onlyRegs.on (poisonAdd_regs _ _ _ ?_ ?_ ?_)))

theorem pointCount_within (s : State) : Within 2 s (@State.pointCount s) := by
  unfold State.pointCount
  repeat' (first
      | with_reducible apply Within.rfl
      | (with_reducible apply Within.on (m := 2) (wr_within _ _ _ _ _) (by decide)))

theorem pointCount_regs (s : State) {ks : List Field} (h1 : Reg.MERGE_STATUS_POINTS ∈ ks) : onlyRegs
    ks s (@State.pointCount s) := by
  unfold State.pointCount
  repeat' (first
      | (with_reducible apply onlyRegs.rfl)
      | (with_reducible assumption)
      | (with_reducible exact List.mem_cons_self)
      | (with_reducible apply List.mem_cons_of_mem)
      | (with_reducible apply onlyRegs.wr))

end Sys2Proof.Machine
end

