-- ==== Sys2Proof/Laws/ReadPathFrames.lean ====
section
/-! SUPPORT. For each function of Machine/ReadPath.lean over the state: the part of the state outside which it changes
nothing (`…_within`), and the register fields that it may write (`…_regs`). -/

namespace Sys2Proof.Machine

set_option maxRecDepth 4000

theorem integFail_within (s : State) (line : Nat) (level : Nat) : Within 0x7fbcc00000000000000022
    s (@State.integFail s line level) := by
  unfold State.integFail
  repeat' (first
      | extract_lets
      | with_reducible apply Within.rfl
      | (with_reducible apply Within.on (m := 0x7fbcc00000000000000022) (bump_within _ _ _ _ _) (by decide))
      | (with_reducible apply Within.on (m := 0x7fbcc00000000000000022) (event_within _ _ _ _) (by decide)))

theorem integFail_regs (s : State) (line : Nat) (level : Nat) {ks : List Field} (h1 :
    Reg.CHRON_DROP_CNT ∈ ks) (h2 : Reg.CHRON_REPEAT_CNT ∈ ks) (h3 : Reg.PROT_INTEG_FAIL_CNT ∈ ks) (h4 :
    Reg.RANGE_INTEG_FAIL_CNT ∈ ks) : onlyRegs ks s (@State.integFail s line level) := by
  unfold State.integFail
  repeat' (first
      | (with_reducible apply onlyRegs.rfl)
      | extract_lets
      | (with_reducible assumption)
      | (with_reducible exact List.mem_cons_self)
      | (with_reducible apply List.mem_cons_of_mem)
      | (with_reducible apply onlyRegs.on (bump_regs _ _ _ _ _ ?_))
      | (with_reducible apply onlyRegs.on (event_regs _ _ _ _ ?_ ?_)))

theorem sliceCount_within (s : State) : Within 2 s (@State.sliceCount s) := by
  unfold State.sliceCount
  repeat' (first
      | with_reducible apply Within.rfl
      | (with_reducible apply Within.on (m := 2) (wr_within _ _ _ _ _) (by decide)))

theorem sliceCount_regs (s : State) {ks : List Field} (h1 : Reg.DIR_SLICE_STATUS_ENTRIES ∈ ks) :
    onlyRegs ks s (@State.sliceCount s) := by
  unfold State.sliceCount
  repeat' (first
      | (with_reducible apply onlyRegs.rfl)
      | (with_reducible assumption)
      | (with_reducible exact List.mem_cons_self)
      | (with_reducible apply List.mem_cons_of_mem)
      | (with_reducible apply onlyRegs.wr))

theorem pick_4000000000000000000000000000000002 (s t : State) : State.pick 0x4000000000000000000000000000000002 s t = { s with
    regs := t.regs, cache := { s.cache with lines := t.cache.lines } } := rfl

theorem dropSlice_within (s : State) (line : Nat) (slice : Nat) : Within
    0x4000000000000000000000000000000002 s (@State.dropSlice s line slice) := by
  unfold State.dropSlice
  repeat' (first
      | with_reducible apply Within.rfl
      | (with_reducible apply Within.on (m := 0x4000000000000000000000000000000002) (sliceCount_within _) (by decide))
      | fail_if_no_progress with_reducible apply Within.upd (by rw [pick_4000000000000000000000000000000002]))

theorem dropSlice_regs (s : State) (line : Nat) (slice : Nat) {ks : List Field} (h1 :
    Reg.DIR_SLICE_STATUS_ENTRIES ∈ ks) : onlyRegs ks s (@State.dropSlice s line slice) := by
  unfold State.dropSlice
  repeat' (first
      | (with_reducible apply onlyRegs.rfl)
      | (with_reducible assumption)
      | (with_reducible exact List.mem_cons_self)
      | (with_reducible apply List.mem_cons_of_mem)
      | (with_reducible apply onlyRegs.on (sliceCount_regs _ ?_))
      | fail_if_no_progress with_reducible apply onlyRegs.upd)

theorem putSlice_within (s : State) (line : Nat) (slice : Nat) (e : SliceEntry) :
    Within 0x4000000000000000000000000000000002 s (@State.putSlice s line slice e) := by
  unfold State.putSlice
  repeat' (first
      | with_reducible apply Within.rfl
      | (with_reducible apply Within.on (m := 0x4000000000000000000000000000000002) (sliceCount_within _) (by decide))
      | fail_if_no_progress with_reducible apply Within.upd (by rw [pick_4000000000000000000000000000000002]))

theorem putSlice_regs (s : State) (line : Nat) (slice : Nat) (e : SliceEntry) {ks
    : List Field} (h1 : Reg.DIR_SLICE_STATUS_ENTRIES ∈ ks) : onlyRegs ks s (@State.putSlice s line
    slice e) := by
  unfold State.putSlice
  repeat' (first
      | (with_reducible apply onlyRegs.rfl)
      | (with_reducible assumption)
      | (with_reducible exact List.mem_cons_self)
      | (with_reducible apply List.mem_cons_of_mem)
      | (with_reducible apply onlyRegs.on (sliceCount_regs _ ?_))
      | fail_if_no_progress with_reducible apply onlyRegs.upd)

theorem dropOthers_within (s : State) (line : Nat) (slice : Nat) : Within
    0x4000000000000000000000000000000002 s (@State.dropOthers s line slice) := by
  unfold State.dropOthers
  repeat' (first
      | extract_lets
      | with_reducible apply Within.rfl
      | (with_reducible apply Within.on (m := 0x4000000000000000000000000000000002) (sliceCount_within _) (by decide))
      | fail_if_no_progress with_reducible apply Within.upd (by rw [pick_4000000000000000000000000000000002]))

theorem dropOthers_regs (s : State) (line : Nat) (slice : Nat) {ks : List Field} (h1 :
    Reg.DIR_SLICE_STATUS_ENTRIES ∈ ks) : onlyRegs ks s (@State.dropOthers s line slice) := by
  unfold State.dropOthers
  repeat' (first
      | (with_reducible apply onlyRegs.rfl)
      | extract_lets
      | (with_reducible assumption)
      | (with_reducible exact List.mem_cons_self)
      | (with_reducible apply List.mem_cons_of_mem)
      | (with_reducible apply onlyRegs.on (sliceCount_regs _ ?_))
      | fail_if_no_progress with_reducible apply onlyRegs.upd)

theorem dropAll_within (s : State) (line : Nat) : Within 0x4000000000000000000000000000000002 s
    (@State.dropAll s line) := by
  unfold State.dropAll
  repeat' (first
      | extract_lets
      | with_reducible apply Within.rfl
      | (with_reducible apply Within.on (m := 0x4000000000000000000000000000000002) (sliceCount_within _) (by decide))
      | fail_if_no_progress with_reducible apply Within.upd (by rw [pick_4000000000000000000000000000000002]))

theorem dropAll_regs (s : State) (line : Nat) {ks : List Field} (h1 : Reg.DIR_SLICE_STATUS_ENTRIES
    ∈ ks) : onlyRegs ks s (@State.dropAll s line) := by
  unfold State.dropAll
  repeat' (first
      | (with_reducible apply onlyRegs.rfl)
      | extract_lets
      | (with_reducible assumption)
      | (with_reducible exact List.mem_cons_self)
      | (with_reducible apply List.mem_cons_of_mem)
      | (with_reducible apply onlyRegs.on (sliceCount_regs _ ?_))
      | fail_if_no_progress with_reducible apply onlyRegs.upd)

theorem pick_200000000000000000000000000000000000 (s t : State) : State.pick 0x200000000000000000000000000000000000 s t = { s with
    cache := { s.cache with plru := t.cache.plru } } := rfl

theorem touchWay_within (s : State) (slice : Nat) (line : Nat) (way : Nat) : Within
    0x200000000000000000000000000000000000 s (@State.touchWay s slice line way) := by
  unfold State.touchWay
  repeat' (first
      | with_reducible apply Within.rfl
      | fail_if_no_progress with_reducible apply Within.upd (by rw [pick_200000000000000000000000000000000000]))

theorem pick_100000000000000000000000000000000000 (s t : State) : State.pick 0x100000000000000000000000000000000000 s t = { s with
    cache := { s.cache with dirPlru := t.cache.dirPlru } } := rfl

theorem touchDir_within (s : State) (line : Nat) : Within 0x100000000000000000000000000000000000
    s (@State.touchDir s line) := by
  unfold State.touchDir
  repeat' (first
      | with_reducible apply Within.rfl
      | fail_if_no_progress with_reducible apply Within.upd (by rw [pick_100000000000000000000000000000000000])
      | with_reducible apply Within.of_fst (by assumption)
      | with_reducible apply Within.of_fst1 (by assumption)
      | split)

theorem pick_400000000000000000000000000000000000000000 (s t : State) : State.pick 0x400000000000000000000000000000000000000000 s t = { s with
    sched := { s.sched with now := t.sched.now } } := rfl

theorem leaveAt_within (s : State) (t0 : Nat) : Within
    0x400000000000000000000000000000000000000000 s (@State.leaveAt s t0) := by
  unfold State.leaveAt
  repeat' (first
      | with_reducible apply Within.rfl
      | fail_if_no_progress with_reducible apply Within.upd (by rw [pick_400000000000000000000000000000000000000000]))

theorem noteLatency_within (s : State) (r : Req) : Within 2 s
    (@State.noteLatency s r) := by
  unfold State.noteLatency
  repeat' (first
      | extract_lets
      | with_reducible apply Within.ite <;> intro _
      | with_reducible apply Within.rfl
      | (with_reducible apply Within.on (m := 2) (wr_within _ _ _ _ _) (by decide))
      | (with_reducible apply Within.on (m := 2) (bump_within _ _ _ _ _) (by decide)))

theorem noteLatency_regs (s : State) (r : Req) {ks : List Field} (h1 :
    Reg.SCHED_BOUND_MISS ∈ ks) (h2 : Reg.SCHED_MAX_LAT_CCLK ∈ ks) : onlyRegs ks s (@State.noteLatency
    s r) := by
  unfold State.noteLatency
  repeat' (first
      | (with_reducible apply onlyRegs.rfl)
      | extract_lets
      | (with_reducible assumption)
      | (with_reducible exact List.mem_cons_self)
      | (with_reducible apply List.mem_cons_of_mem)
      | (with_reducible apply onlyRegs.ite <;> intro _)
      | (with_reducible apply onlyRegs.wr)
      | (with_reducible apply onlyRegs.on (bump_regs _ _ _ _ _ ?_)))

theorem pick_18000000000000000000000000022 (s t : State) : State.pick 0x18000000000000000000000000022 s t = { s with
    regs := t.regs, out := t.out, sessions := t.sessions, reqs := t.reqs } := rfl

theorem flushConflicts_within (s : State) (sess : Nat) (line : Nat) : Within
    0x18000000000000000000000000022 s (@State.flushConflicts s sess line) := by
  unfold State.flushConflicts
  repeat' (first
      | with_reducible apply Within.ite <;> intro _
      | with_reducible apply Within.rfl
      | (with_reducible apply Within.on (m := 0x18000000000000000000000000022) (release_within _ _) (by decide))
      | (with_reducible apply Within.on (m := 0x18000000000000000000000000022) (respond_within _ _ _ _ _) (by decide))
      | (with_reducible apply Within.foldl; intro t x))

theorem flushConflicts_regs (s : State) (sess : Nat) (line : Nat) {ks : List Field} (h1 :
    Reg.PORT_INFLIGHT_LINK0 ∈ ks) (h2 : Reg.PORT_INFLIGHT_LINK1 ∈ ks) (h3 : Reg.PORT_INFLIGHT_PEAK_LINK0 ∈ ks) (h4 :
    Reg.PORT_INFLIGHT_PEAK_LINK1 ∈ ks) : onlyRegs ks s (@State.flushConflicts s sess line) := by
  unfold State.flushConflicts
  repeat' (first
      | (with_reducible apply onlyRegs.rfl)
      | (with_reducible assumption)
      | (with_reducible exact List.mem_cons_self)
      | (with_reducible apply List.mem_cons_of_mem)
      | (with_reducible apply onlyRegs.ite <;> intro _)
      | (with_reducible apply onlyRegs.on (release_regs _ _ ?_ ?_ ?_ ?_))
      | (with_reducible apply onlyRegs.keep (respond_within _ _ _ _ _) (by decide))
      | (with_reducible apply onlyRegs.foldl; intro t x))

theorem dropJob_within (s : State) (rid : Nat) : Within
    0x8000000000000000000000000000000000000000 s (@State.dropJob s rid) := by
  unfold State.dropJob
  repeat' (first
      | with_reducible apply Within.rfl
      | fail_if_no_progress with_reducible apply Within.upd (by rw [pick_8000000000000000000000000000000000000000]))

theorem pick_8000000000018000000000000000000000000022 (s t : State) : State.pick 0x8000000000018000000000000000000000000022 s t = { s with
    regs := t.regs, out := t.out, sessions := t.sessions, reqs := t.reqs,
    sched := { s.sched with jobs := t.sched.jobs } } := rfl

theorem finish_within (s : State) (rid : Nat) : Within
    0x8000000000018000000000000000000000000022 s (@State.finish s rid) := by
  unfold State.finish
  repeat' (first
      | with_reducible apply Within.rfl
      | (with_reducible apply Within.on (m := 0x8000000000018000000000000000000000000022) (flushConflicts_within _ _ _) (by decide))
      | (with_reducible apply Within.on (m := 0x8000000000018000000000000000000000000022) (release_within _ _) (by decide))
      | (with_reducible apply Within.on (m := 0x8000000000018000000000000000000000000022) (dropJob_within _ _) (by decide))
      | with_reducible apply Within.of_fst (by assumption)
      | with_reducible apply Within.of_fst1 (by assumption)
      | split)

theorem finish_regs (s : State) (rid : Nat) {ks : List Field} (h1 : Reg.PORT_INFLIGHT_LINK0 ∈ ks)
    (h2 : Reg.PORT_INFLIGHT_LINK1 ∈ ks) (h3 : Reg.PORT_INFLIGHT_PEAK_LINK0 ∈ ks) (h4 : Reg.PORT_INFLIGHT_PEAK_LINK1 ∈
    ks) : onlyRegs ks s (@State.finish s rid) := by
  unfold State.finish
  repeat' (first
      | (with_reducible apply onlyRegs.rfl)
      | (with_reducible assumption)
      | (with_reducible exact List.mem_cons_self)
      | (with_reducible apply List.mem_cons_of_mem)
      | (with_reducible apply onlyRegs.on (flushConflicts_regs _ _ _ ?_ ?_ ?_ ?_))
      | (with_reducible apply onlyRegs.on (release_regs _ _ ?_ ?_ ?_ ?_))
      | (with_reducible apply onlyRegs.keep (dropJob_within _ _) (by decide))
      | with_reducible apply onlyRegs.of_fst (by assumption)
      | with_reducible apply onlyRegs.of_fst1 (by assumption)
      | split)

theorem countRead_within (s : State) (n : Nat) : Within 0x8000000000000000000000000000 s
    (@State.countRead s n) := by
  unfold State.countRead
  repeat' (first
      | with_reducible apply Within.rfl
      | (with_reducible apply Within.on (m := 0x8000000000000000000000000000) (setSess_within _ _ _) (by decide)))

theorem countWrite_within (s : State) (n : Nat) : Within 0x8000000000000000000000000000 s
    (@State.countWrite s n) := by
  unfold State.countWrite
  repeat' (first
      | with_reducible apply Within.rfl
      | (with_reducible apply Within.on (m := 0x8000000000000000000000000000) (setSess_within _ _ _) (by decide)))

theorem pick_8000000000000000000000000020 (s t : State) : State.pick 0x8000000000000000000000000020 s t = { s with
    out := t.out, sessions := t.sessions } := rfl

theorem sendData_within (s : State) (r : Req) (data : Sys2Proof.LineData) (poison :
    Bool) : Within 0x8000000000000000000000000020 s (@State.sendData s r data poison) := by
  unfold State.sendData
  repeat' (first
      | with_reducible apply Within.rfl
      | (with_reducible apply Within.on (m := 0x8000000000000000000000000020) (countRead_within _ _) (by decide))
      | (with_reducible apply Within.on (m := 0x8000000000000000000000000020) (respond_within _ _ _ _ _) (by decide)))

theorem sendNdr_within (s : State) (r : Req) : Within 32 s
    (@State.sendNdr s r) := by
  unfold State.sendNdr
  repeat' (first
      | with_reducible apply Within.rfl
      | (with_reducible apply Within.on (m := 32) (respond_within _ _ _ _ _) (by decide)))

theorem pick_8000008000018000000000000000000000000022 (s t : State) : State.pick 0x8000008000018000000000000000000000000022 s t = { s with
    regs := t.regs, out := t.out, sessions := t.sessions, reqs := t.reqs,
    cache := { s.cache with fills := t.cache.fills }, sched := { s.sched with jobs := t.sched.jobs } } := rfl

theorem answer_within (s : State) (rid : Nat) (data : Sys2Proof.LineData) (poison : Bool) (fill :
    Bool) : Within 0x8000008000018000000000000000000000000022 s (@State.answer s rid data
    poison fill) := by
  unfold State.answer
  repeat' (first
      | extract_lets
      | with_reducible apply Within.ite <;> intro _
      | with_reducible apply Within.rfl
      | (with_reducible apply Within.on (m := 0x8000008000018000000000000000000000000022) (sendData_within _ _ _ _) (by decide))
      | (with_reducible apply Within.on (m := 0x8000008000018000000000000000000000000022) (finish_within _ _) (by decide))
      | fail_if_no_progress with_reducible apply Within.upd (by rw [pick_8000008000018000000000000000000000000022])
      | with_reducible apply Within.of_fst (by assumption)
      | with_reducible apply Within.of_fst1 (by assumption)
      | split)

theorem answer_regs (s : State) (rid : Nat) (data : Sys2Proof.LineData) (poison : Bool) (fill :
    Bool) {ks : List Field} (h1 : Reg.PORT_INFLIGHT_LINK0 ∈ ks) (h2 : Reg.PORT_INFLIGHT_LINK1 ∈ ks) (h3 :
    Reg.PORT_INFLIGHT_PEAK_LINK0 ∈ ks) (h4 : Reg.PORT_INFLIGHT_PEAK_LINK1 ∈ ks) : onlyRegs ks s
    (@State.answer s rid data poison fill) := by
  unfold State.answer
  repeat' (first
      | (with_reducible apply onlyRegs.rfl)
      | extract_lets
      | (with_reducible assumption)
      | (with_reducible exact List.mem_cons_self)
      | (with_reducible apply List.mem_cons_of_mem)
      | (with_reducible apply onlyRegs.ite <;> intro _)
      | (with_reducible apply onlyRegs.keep (sendData_within _ _ _ _) (by decide))
      | (with_reducible apply onlyRegs.on (finish_regs _ _ ?_ ?_ ?_ ?_))
      | fail_if_no_progress with_reducible apply onlyRegs.upd
      | with_reducible apply onlyRegs.of_fst (by assumption)
      | with_reducible apply onlyRegs.of_fst1 (by assumption)
      | split)

theorem touchEntry_within (s : State) (line : Nat) : Within 0x200000000000000000000000000000 s
    (@State.touchEntry s line) := by
  unfold State.touchEntry
  repeat' (first
      | with_reducible apply Within.rfl
      | (with_reducible apply Within.on (m := 0x200000000000000000000000000000) (putEntry_within _ _ _) (by decide))
      | fail_if_no_progress with_reducible apply Within.upd (by rw [pick_200000000000000000000000000000])
      | with_reducible apply Within.of_fst (by assumption)
      | with_reducible apply Within.of_fst1 (by assumption)
      | split)

theorem pick_10000000000000000000000000000 (s t : State) : State.pick 0x10000000000000000000000000000 s t = { s with
    reqs := t.reqs } := rfl

theorem setReq_within (s : State) (rid : Nat) (r : Req) : Within
    0x10000000000000000000000000000 s (@State.setReq s rid r) := by
  unfold State.setReq
  repeat' (first
      | with_reducible apply Within.rfl
      | fail_if_no_progress with_reducible apply Within.upd (by rw [pick_10000000000000000000000000000]))

theorem pick_40000000000000000000000000000000000022 (s t : State) : State.pick 0x40000000000000000000000000000000000022 s t = { s with
    regs := t.regs, out := t.out, cache := { s.cache with biCredits := t.cache.biCredits } } := rfl

theorem sendSnoops_within (s : State) (x : Snoop) : Within
    0x40000000000000000000000000000000000022 s (@State.sendSnoops s x).1 := by
  unfold State.sendSnoops
  repeat' (first
      | extract_lets
      | with_reducible apply Within.ite1 <;> intro _
      | with_reducible apply Within.rfl
      | (with_reducible apply Within.on (m := 0x40000000000000000000000000000000000022) (bump_within _ _ _ _ _) (by decide))
      | (with_reducible apply Within.on (m := 0x40000000000000000000000000000000000022) (emit_within _ _) (by decide))
      | (with_reducible apply Within.foldl1; intro t x)
      | fail_if_no_progress with_reducible apply Within.upd (by rw [pick_40000000000000000000000000000000000022]))

theorem sendSnoops_regs (s : State) (x : Snoop) {ks : List Field} (h1 :
    Reg.DIR_BISNP_CNT ∈ ks) : onlyRegs ks s (@State.sendSnoops s x).1 := by
  unfold State.sendSnoops
  repeat' (first
      | (with_reducible apply onlyRegs.rfl)
      | extract_lets
      | (with_reducible assumption)
      | (with_reducible exact List.mem_cons_self)
      | (with_reducible apply List.mem_cons_of_mem)
      | (with_reducible apply onlyRegs.ite1 <;> intro _)
      | (with_reducible apply onlyRegs.on (bump_regs _ _ _ _ _ ?_))
      | (with_reducible apply onlyRegs.keep (emit_within _ _) (by decide))
      | fail_if_no_progress with_reducible apply onlyRegs.upd
      | with_reducible apply onlyRegs.of_fst (by assumption)
      | (with_reducible apply onlyRegs.foldlP (π := Prod.fst); intro t x))

theorem dirCounts_within (s : State) : Within 2 s (@State.dirCounts s) := by
  unfold State.dirCounts
  repeat' (first
      | with_reducible apply Within.rfl
      | (with_reducible apply Within.on (m := 2) (wr_within _ _ _ _ _) (by decide)))

theorem dirCounts_regs (s : State) {ks : List Field} (h1 : Reg.DIR_EVBUF_USED ∈ ks) (h2 :
    Reg.DIR_HOST_OVF_ENTRIES ∈ ks) (h3 : Reg.DIR_HOST_STATUS_ENTRIES ∈ ks) : onlyRegs ks s
    (@State.dirCounts s) := by
  unfold State.dirCounts
  repeat' (first
      | (with_reducible apply onlyRegs.rfl)
      | (with_reducible assumption)
      | (with_reducible exact List.mem_cons_self)
      | (with_reducible apply List.mem_cons_of_mem)
      | (with_reducible apply onlyRegs.wr))

theorem pick_24000000000000000000000000000000000002 (s t : State) : State.pick 0x24000000000000000000000000000000000002 s t = { s with
    regs := t.regs, cache := { s.cache with host := t.cache.host, clock := t.cache.clock } } := rfl

theorem setHost_within (s : State) (line : Nat) (h : HostEntry) : Within
    0x24000000000000000000000000000000000002 s (@State.setHost s line h) := by
  unfold State.setHost
  repeat' (first
      | with_reducible apply Within.rfl
      | (with_reducible apply Within.on (m := 0x24000000000000000000000000000000000002) (dirCounts_within _) (by decide))
      | fail_if_no_progress with_reducible apply Within.upd (by rw [pick_24000000000000000000000000000000000002]))

theorem setHost_regs (s : State) (line : Nat) (h : HostEntry) {ks : List Field}
    (h1 : Reg.DIR_EVBUF_USED ∈ ks) (h2 : Reg.DIR_HOST_OVF_ENTRIES ∈ ks) (h3 : Reg.DIR_HOST_STATUS_ENTRIES ∈ ks) :
    onlyRegs ks s (@State.setHost s line h) := by
  unfold State.setHost
  repeat' (first
      | (with_reducible apply onlyRegs.rfl)
      | (with_reducible assumption)
      | (with_reducible exact List.mem_cons_self)
      | (with_reducible apply List.mem_cons_of_mem)
      | (with_reducible apply onlyRegs.on (dirCounts_regs _ ?_ ?_ ?_))
      | fail_if_no_progress with_reducible apply onlyRegs.upd)

theorem pick_4000000000000000000000000000000000002 (s t : State) : State.pick 0x4000000000000000000000000000000000002 s t = { s with
    regs := t.regs, cache := { s.cache with host := t.cache.host } } := rfl

theorem dropHost_within (s : State) (line : Nat) : Within
    0x4000000000000000000000000000000000002 s (@State.dropHost s line) := by
  unfold State.dropHost
  repeat' (first
      | with_reducible apply Within.rfl
      | (with_reducible apply Within.on (m := 0x4000000000000000000000000000000000002) (dirCounts_within _) (by decide))
      | fail_if_no_progress with_reducible apply Within.upd (by rw [pick_4000000000000000000000000000000000002]))

theorem dropHost_regs (s : State) (line : Nat) {ks : List Field} (h1 : Reg.DIR_EVBUF_USED ∈ ks) (h2
    : Reg.DIR_HOST_OVF_ENTRIES ∈ ks) (h3 : Reg.DIR_HOST_STATUS_ENTRIES ∈ ks) : onlyRegs ks s
    (@State.dropHost s line) := by
  unfold State.dropHost
  repeat' (first
      | (with_reducible apply onlyRegs.rfl)
      | (with_reducible assumption)
      | (with_reducible exact List.mem_cons_self)
      | (with_reducible apply List.mem_cons_of_mem)
      | (with_reducible apply onlyRegs.on (dirCounts_regs _ ?_ ?_ ?_))
      | fail_if_no_progress with_reducible apply onlyRegs.upd)

theorem putHost_within (s : State) (line : Nat) (h : HostEntry) : Within
    0x24000000000000000000000000000000000002 s (@State.putHost s line h) := by
  unfold State.putHost
  repeat' (first
      | with_reducible apply Within.ite <;> intro _
      | with_reducible apply Within.rfl
      | (with_reducible apply Within.on (m := 0x24000000000000000000000000000000000002) (dropHost_within _ _) (by decide))
      | (with_reducible apply Within.on (m := 0x24000000000000000000000000000000000002) (setHost_within _ _ _) (by decide)))

theorem putHost_regs (s : State) (line : Nat) (h : HostEntry) {ks : List Field}
    (h1 : Reg.DIR_EVBUF_USED ∈ ks) (h2 : Reg.DIR_HOST_OVF_ENTRIES ∈ ks) (h3 : Reg.DIR_HOST_STATUS_ENTRIES ∈ ks) :
    onlyRegs ks s (@State.putHost s line h) := by
  unfold State.putHost
  repeat' (first
      | (with_reducible apply onlyRegs.rfl)
      | (with_reducible assumption)
      | (with_reducible exact List.mem_cons_self)
      | (with_reducible apply List.mem_cons_of_mem)
      | (with_reducible apply onlyRegs.ite <;> intro _)
      | (with_reducible apply onlyRegs.on (dropHost_regs _ _ ?_ ?_ ?_))
      | (with_reducible apply onlyRegs.on (setHost_regs _ _ _ ?_ ?_ ?_)))

theorem pick_74000000000000000000000000000000000022 (s t : State) : State.pick 0x74000000000000000000000000000000000022 s t = { s with
    regs := t.regs, out := t.out,
    cache := { s.cache with
      host := t.cache.host, snoops := t.cache.snoops, clock := t.cache.clock, biCredits := t.cache.biCredits } } := rfl

theorem startSnoop_within (s : State) (line : Nat) (op : Nat) (why : SnoopWhy)
    (targets : List Nat) (bcast : Bool) : Within 0x74000000000000000000000000000000000022 s
    (@State.startSnoop s line op why targets bcast) := by
  unfold State.startSnoop
  repeat' (first
      | extract_lets
      | with_reducible apply Within.ite <;> intro _
      | with_reducible apply Within.rfl
      | (with_reducible apply Within.on (m := 0x74000000000000000000000000000000000022) (bump_within _ _ _ _ _) (by decide))
      | (with_reducible apply Within.on (m := 0x74000000000000000000000000000000000022) (sendSnoops_within _ _) (by decide))
      | (with_reducible apply Within.on (m := 0x74000000000000000000000000000000000022) (setHost_within _ _ _) (by decide))
      | fail_if_no_progress with_reducible apply Within.upd (by rw [pick_74000000000000000000000000000000000022])
      | with_reducible apply Within.of_fst (by assumption)
      | with_reducible apply Within.of_fst1 (by assumption)
      | split)

theorem startSnoop_regs (s : State) (line : Nat) (op : Nat) (why : SnoopWhy)
    (targets : List Nat) (bcast : Bool) {ks : List Field} (h1 : Reg.DIR_BCAST_CNT ∈ ks) (h2 : Reg.DIR_BISNP_CNT ∈ ks)
    (h3 : Reg.DIR_EVBUF_USED ∈ ks) (h4 : Reg.DIR_HOST_OVF_ENTRIES ∈ ks) (h5 : Reg.DIR_HOST_STATUS_ENTRIES ∈ ks) :
    onlyRegs ks s (@State.startSnoop s line op why targets bcast) := by
  unfold State.startSnoop
  repeat' (first
      | (with_reducible apply onlyRegs.rfl)
      | extract_lets
      | (with_reducible assumption)
      | (with_reducible exact List.mem_cons_self)
      | (with_reducible apply List.mem_cons_of_mem)
      | (with_reducible apply onlyRegs.ite <;> intro _)
      | (with_reducible apply onlyRegs.on (bump_regs _ _ _ _ _ ?_))
      | (with_reducible apply onlyRegs.on (sendSnoops_regs _ _ ?_))
      | (with_reducible apply onlyRegs.on (setHost_regs _ _ _ ?_ ?_ ?_))
      | fail_if_no_progress with_reducible apply onlyRegs.upd
      | with_reducible apply onlyRegs.of_fst (by assumption)
      | with_reducible apply onlyRegs.of_fst1 (by assumption)
      | split)

theorem pick_7c000000000000000000000000000000000022 (s t : State) : State.pick 0x7c000000000000000000000000000000000022 s t = { s with
    regs := t.regs, out := t.out,
    cache := { s.cache with
      host := t.cache.host, evicting := t.cache.evicting, snoops := t.cache.snoops, clock := t.cache.clock,
      biCredits := t.cache.biCredits } } := rfl

theorem hostRoom_within (s : State) (line : Nat) (t : State) (ht : (@State.hostRoom
    s line) = some t) : Within 0x7c000000000000000000000000000000000022 s t := by
  unfold State.hostRoom at ht
  repeat' (first | extract_lets at ht | (cases ht; done) | (simp only [Option.some.injEq, Prod.mk.injEq] at ht; obtain ⟨ht, -⟩ := ht; subst ht) | (simp only [Option.some.injEq] at ht; subst ht) | split at ht)
  all_goals repeat' (first
      | extract_lets
      | with_reducible apply Within.rfl
      | (with_reducible apply Within.on (m := 0x7c000000000000000000000000000000000022) (bump_within _ _ _ _ _) (by decide))
      | (with_reducible apply Within.on (m := 0x7c000000000000000000000000000000000022) (dropHost_within _ _) (by decide))
      | (with_reducible apply Within.on (m := 0x7c000000000000000000000000000000000022) (dirCounts_within _) (by decide))
      | (with_reducible apply Within.on (m := 0x7c000000000000000000000000000000000022) (startSnoop_within _ _ _ _ _ _) (by decide))
      | fail_if_no_progress with_reducible apply Within.upd (by rw [pick_7c000000000000000000000000000000000022]))

theorem hostRoom_regs (s : State) (line : Nat) (t : State) (ht : (@State.hostRoom
    s line) = some t) {ks : List Field} (h1 : Reg.DIR_BCAST_CNT ∈ ks) (h2 : Reg.DIR_BISNP_CNT ∈ ks) (h3 :
    Reg.DIR_EVBUF_USED ∈ ks) (h4 : Reg.DIR_EVICT_CNT ∈ ks) (h5 : Reg.DIR_HOST_OVF_ENTRIES ∈ ks) (h6 :
    Reg.DIR_HOST_STATUS_ENTRIES ∈ ks) : onlyRegs ks s t := by
  unfold State.hostRoom at ht
  repeat' (first | extract_lets at ht | (cases ht; done) | (simp only [Option.some.injEq, Prod.mk.injEq] at ht; obtain ⟨ht, -⟩ := ht; subst ht) | (simp only [Option.some.injEq] at ht; subst ht) | split at ht)
  all_goals repeat' (first
      | (with_reducible apply onlyRegs.rfl)
      | extract_lets
      | (with_reducible assumption)
      | (with_reducible exact List.mem_cons_self)
      | (with_reducible apply List.mem_cons_of_mem)
      | (with_reducible apply onlyRegs.on (bump_regs _ _ _ _ _ ?_))
      | (with_reducible apply onlyRegs.on (dropHost_regs _ _ ?_ ?_ ?_))
      | (with_reducible apply onlyRegs.on (dirCounts_regs _ ?_ ?_ ?_))
      | (with_reducible apply onlyRegs.on (startSnoop_regs _ _ _ _ _ _ ?_ ?_ ?_ ?_ ?_))
      | fail_if_no_progress with_reducible apply onlyRegs.upd)

theorem resolve_within (s : State) (rid : Nat) (r : Req) : Within
    0x7c000000000000000000000000000000000022 s (@State.resolve s rid r).1 := by
  unfold State.resolve
  repeat' (first
      | extract_lets
      | with_reducible apply Within.ite1 <;> intro _
      | with_reducible apply Within.rfl
      | (with_reducible apply Within.on (m := 0x7c000000000000000000000000000000000022) (hostRoom_within _ _ _ (by assumption)) (by decide))
      | (with_reducible apply Within.on (m := 0x7c000000000000000000000000000000000022) (setHost_within _ _ _) (by decide))
      | (with_reducible apply Within.on (m := 0x7c000000000000000000000000000000000022) (startSnoop_within _ _ _ _ _ _) (by decide))
      | fail_if_no_progress with_reducible apply Within.upd (by rw [pick_7c000000000000000000000000000000000022])
      | with_reducible apply Within.of_fst (by assumption)
      | with_reducible apply Within.of_fst1 (by assumption)
      | split)

theorem resolve_regs (s : State) (rid : Nat) (r : Req) {ks : List Field} (h1 :
    Reg.DIR_BCAST_CNT ∈ ks) (h2 : Reg.DIR_BISNP_CNT ∈ ks) (h3 : Reg.DIR_EVBUF_USED ∈ ks) (h4 : Reg.DIR_EVICT_CNT ∈ ks)
    (h5 : Reg.DIR_HOST_OVF_ENTRIES ∈ ks) (h6 : Reg.DIR_HOST_STATUS_ENTRIES ∈ ks) : onlyRegs ks s
    (@State.resolve s rid r).1 := by
  unfold State.resolve
  repeat' (first
      | (with_reducible apply onlyRegs.rfl)
      | extract_lets
      | (with_reducible assumption)
      | (with_reducible exact List.mem_cons_self)
      | (with_reducible apply List.mem_cons_of_mem)
      | (with_reducible apply onlyRegs.ite1 <;> intro _)
      | (with_reducible apply onlyRegs.on (hostRoom_regs _ _ _ (by assumption) ?_ ?_ ?_ ?_ ?_ ?_))
      | (with_reducible apply onlyRegs.on (setHost_regs _ _ _ ?_ ?_ ?_))
      | (with_reducible apply onlyRegs.on (startSnoop_regs _ _ _ _ _ _ ?_ ?_ ?_ ?_ ?_))
      | fail_if_no_progress with_reducible apply onlyRegs.upd
      | with_reducible apply onlyRegs.of_fst (by assumption)
      | with_reducible apply onlyRegs.of_fst1 (by assumption)
      | split)

theorem readResolved_within (s : State) (x : Snoop) (sess : Nat) (want :
    Sys2Proof.MetaValue) : Within 0x24000000000000000000000000000000000002 s
    (@State.readResolved s x sess want) := by
  unfold State.readResolved
  repeat' (first
      | extract_lets
      | with_reducible apply Within.rfl
      | (with_reducible apply Within.on (m := 0x24000000000000000000000000000000000002) (setHost_within _ _ _) (by decide))
      | fail_if_no_progress with_reducible apply Within.upd (by rw [pick_24000000000000000000000000000000000002])
      | with_reducible apply Within.of_fst (by assumption)
      | with_reducible apply Within.of_fst1 (by assumption)
      | split)

theorem readResolved_regs (s : State) (x : Snoop) (sess : Nat) (want :
    Sys2Proof.MetaValue) {ks : List Field} (h1 : Reg.DIR_EVBUF_USED ∈ ks) (h2 : Reg.DIR_HOST_OVF_ENTRIES ∈ ks) (h3 :
    Reg.DIR_HOST_STATUS_ENTRIES ∈ ks) : onlyRegs ks s (@State.readResolved s x sess want) := by
  unfold State.readResolved
  repeat' (first
      | (with_reducible apply onlyRegs.rfl)
      | extract_lets
      | (with_reducible assumption)
      | (with_reducible exact List.mem_cons_self)
      | (with_reducible apply List.mem_cons_of_mem)
      | (with_reducible apply onlyRegs.on (setHost_regs _ _ _ ?_ ?_ ?_))
      | fail_if_no_progress with_reducible apply onlyRegs.upd
      | with_reducible apply onlyRegs.of_fst (by assumption)
      | with_reducible apply onlyRegs.of_fst1 (by assumption)
      | split)

theorem toLookup_within (s : State) (rid : Nat) (r : Req) : Within
    0x10000000000000000000000000000 s (@State.toLookup s rid r) := by
  unfold State.toLookup
  repeat' (first
      | with_reducible apply Within.rfl
      | (with_reducible apply Within.on (m := 0x10000000000000000000000000000) (setReq_within _ _ _) (by decide)))

theorem pick_80000000000000000000000000800030c000018000007fbcc00000000000000022 (s t : State) : State.pick 0x80000000000000000000000000800030c000018000007fbcc00000000000000022 s t = { s with
    regs := t.regs, out := t.out,
    chron := { s.chron with
      perm := t.chron.perm, ring := t.chron.ring, buffer := t.chron.buffer, nextSerial := t.chron.nextSerial,
      runs := t.chron.runs, dropped := t.chron.dropped },
    events := t.events, sessions := t.sessions, reqs := t.reqs,
    cache := { s.cache with
      lines := t.cache.lines, fills := t.cache.fills, dirPlru := t.cache.dirPlru, plru := t.cache.plru },
    sched := { s.sched with jobs := t.sched.jobs }, telem := { s.telem with counts := t.telem.counts } } := rfl

theorem sources_within (s : State) (rid : Nat) (r : Req) (fBad : Bool) : Within
    0x80000000000000000000000000800030c000018000007fbcc00000000000000022 s
    (@State.sources s rid r fBad) := by
  unfold State.sources
  repeat' (first
      | extract_lets
      | with_reducible apply Within.ite <;> intro _
      | with_reducible apply Within.rfl
      | (with_reducible apply Within.on (m := 0x80000000000000000000000000800030c000018000007fbcc00000000000000022) (answer_within _ _ _ _ _) (by decide))
      | (with_reducible apply Within.on (m := 0x80000000000000000000000000800030c000018000007fbcc00000000000000022) (integFail_within _ _ _) (by decide))
      | (with_reducible apply Within.on (m := 0x80000000000000000000000000800030c000018000007fbcc00000000000000022) (bump_within _ _ _ _ _) (by decide))
      | (with_reducible apply Within.on (m := 0x80000000000000000000000000800030c000018000007fbcc00000000000000022) (touchWay_within _ _ _ _) (by decide))
      | (with_reducible apply Within.on (m := 0x80000000000000000000000000800030c000018000007fbcc00000000000000022) (correctedVol_within _ _ _) (by decide))
      | (with_reducible apply Within.on (m := 0x80000000000000000000000000800030c000018000007fbcc00000000000000022) (dropSlice_within _ _ _) (by decide))
      | (with_reducible apply Within.on (m := 0x80000000000000000000000000800030c000018000007fbcc00000000000000022) (setReq_within _ _ _) (by decide))
      | (with_reducible apply Within.on (m := 0x80000000000000000000000000800030c000018000007fbcc00000000000000022) (touchDir_within _ _) (by decide))
      | (with_reducible apply Within.on (m := 0x80000000000000000000000000800030c000018000007fbcc00000000000000022) (putSlice_within _ _ _ _) (by decide))
      | (with_reducible apply Within.on (m := 0x80000000000000000000000000800030c000018000007fbcc00000000000000022) (toLookup_within _ _ _) (by decide))
      | fail_if_no_progress with_reducible apply Within.upd (by rw [pick_80000000000000000000000000800030c000018000007fbcc00000000000000022])
      | with_reducible apply Within.of_fst (by assumption)
      | with_reducible apply Within.of_fst1 (by assumption)
      | split
      | dsimp +zetaDelta only)

theorem sources_regs (s : State) (rid : Nat) (r : Req) (fBad : Bool) {ks : List
    Field} (h1 : Reg.CACHE_FWD_CNT ∈ ks) (h2 : Reg.CACHE_HIT_CNT ∈ ks) (h3 : Reg.CACHE_MISS_CNT ∈ ks) (h4 :
    Reg.CHRON_DROP_CNT ∈ ks) (h5 : Reg.CHRON_REPEAT_CNT ∈ ks) (h6 : Reg.DIR_SLICE_STATUS_ENTRIES ∈ ks) (h7 :
    Reg.ERR_BUCKET_STATUS_LEVEL ∈ ks) (h8 : Reg.ERR_BUCKET_STATUS_OVF_CNT ∈ ks) (h9 : Reg.ERR_CORR_VOL_CNT ∈ ks) (h10
    : Reg.ERR_HEALTH_EVENT_BUCKET_OVF ∈ ks) (h11 : Reg.PORT_INFLIGHT_LINK0 ∈ ks) (h12 : Reg.PORT_INFLIGHT_LINK1 ∈ ks)
    (h13 : Reg.PORT_INFLIGHT_PEAK_LINK0 ∈ ks) (h14 : Reg.PORT_INFLIGHT_PEAK_LINK1 ∈ ks) (h15 : Reg.PROT_INTEG_FAIL_CNT
    ∈ ks) (h16 : Reg.RANGE_INTEG_FAIL_CNT ∈ ks) (h17 : Reg.TELEM_BLK_OVF_OVF ∈ ks) : onlyRegs ks s
    (@State.sources s rid r fBad) := by
  unfold State.sources
  repeat' (first
      | (with_reducible apply onlyRegs.rfl)
      | extract_lets
      | (with_reducible assumption)
      | (with_reducible exact List.mem_cons_self)
      | (with_reducible apply List.mem_cons_of_mem)
      | (with_reducible apply onlyRegs.ite <;> intro _)
      | (with_reducible apply onlyRegs.on (answer_regs _ _ _ _ _ ?_ ?_ ?_ ?_))
      | (with_reducible apply onlyRegs.on (integFail_regs _ _ _ ?_ ?_ ?_ ?_))
      | (with_reducible apply onlyRegs.on (bump_regs _ _ _ _ _ ?_))
      | (with_reducible apply onlyRegs.keep (touchWay_within _ _ _ _) (by decide))
      | (with_reducible apply onlyRegs.on (correctedVol_regs _ _ _ ?_ ?_ ?_ ?_ ?_ ?_ ?_))
      | (with_reducible apply onlyRegs.on (dropSlice_regs _ _ _ ?_))
      | (with_reducible apply onlyRegs.keep (setReq_within _ _ _) (by decide))
      | (with_reducible apply onlyRegs.keep (touchDir_within _ _) (by decide))
      | (with_reducible apply onlyRegs.on (putSlice_regs _ _ _ _ ?_))
      | (with_reducible apply onlyRegs.keep (toLookup_within _ _ _) (by decide))
      | fail_if_no_progress with_reducible apply onlyRegs.upd
      | with_reducible apply onlyRegs.of_fst (by assumption)
      | with_reducible apply onlyRegs.of_fst1 (by assumption)
      | split
      | dsimp +zetaDelta only)

theorem dropPointer_within (s : State) (line : Nat) (sess : Nat) : Within
    0x24000000000000000000000000000000000002 s (@State.dropPointer s line sess) := by
  unfold State.dropPointer
  repeat' (first
      | with_reducible apply Within.ite <;> intro _
      | with_reducible apply Within.rfl
      | (with_reducible apply Within.on (m := 0x24000000000000000000000000000000000002) (putHost_within _ _ _) (by decide))
      | fail_if_no_progress with_reducible apply Within.upd (by rw [pick_24000000000000000000000000000000000002])
      | with_reducible apply Within.of_fst (by assumption)
      | with_reducible apply Within.of_fst1 (by assumption)
      | split)

theorem dropPointer_regs (s : State) (line : Nat) (sess : Nat) {ks : List Field} (h1 :
    Reg.DIR_EVBUF_USED ∈ ks) (h2 : Reg.DIR_HOST_OVF_ENTRIES ∈ ks) (h3 : Reg.DIR_HOST_STATUS_ENTRIES ∈ ks) : onlyRegs ks
    s (@State.dropPointer s line sess) := by
  unfold State.dropPointer
  repeat' (first
      | (with_reducible apply onlyRegs.rfl)
      | (with_reducible assumption)
      | (with_reducible exact List.mem_cons_self)
      | (with_reducible apply List.mem_cons_of_mem)
      | (with_reducible apply onlyRegs.ite <;> intro _)
      | (with_reducible apply onlyRegs.on (putHost_regs _ _ _ ?_ ?_ ?_))
      | fail_if_no_progress with_reducible apply onlyRegs.upd
      | with_reducible apply onlyRegs.of_fst (by assumption)
      | with_reducible apply onlyRegs.of_fst1 (by assumption)
      | split)

theorem pick_80000000000000000000000000802430c000018000007fbcc00000000000000022 (s t : State) : State.pick 0x80000000000000000000000000802430c000018000007fbcc00000000000000022 s t = { s with
    regs := t.regs, out := t.out,
    chron := { s.chron with
      perm := t.chron.perm, ring := t.chron.ring, buffer := t.chron.buffer, nextSerial := t.chron.nextSerial,
      runs := t.chron.runs, dropped := t.chron.dropped },
    events := t.events, sessions := t.sessions, reqs := t.reqs,
    cache := { s.cache with
      lines := t.cache.lines, fills := t.cache.fills, dirPlru := t.cache.dirPlru, plru := t.cache.plru,
      host := t.cache.host, clock := t.cache.clock },
    sched := { s.sched with jobs := t.sched.jobs }, telem := { s.telem with counts := t.telem.counts } } := rfl

theorem proceed_within (s : State) (rid : Nat) (r : Req) (fBad : Bool) : Within
    0x80000000000000000000000000802430c000018000007fbcc00000000000000022 s
    (@State.proceed s rid r fBad) := by
  unfold State.proceed
  repeat' (first
      | with_reducible apply Within.rfl
      | (with_reducible apply Within.on (m := 0x80000000000000000000000000802430c000018000007fbcc00000000000000022) (finish_within _ _) (by decide))
      | (with_reducible apply Within.on (m := 0x80000000000000000000000000802430c000018000007fbcc00000000000000022) (sendNdr_within _ _) (by decide))
      | (with_reducible apply Within.on (m := 0x80000000000000000000000000802430c000018000007fbcc00000000000000022) (dropPointer_within _ _ _) (by decide))
      | (with_reducible apply Within.on (m := 0x80000000000000000000000000802430c000018000007fbcc00000000000000022) (sources_within _ _ _ _) (by decide))
      | with_reducible apply Within.of_fst (by assumption)
      | with_reducible apply Within.of_fst1 (by assumption)
      | split)

theorem proceed_regs (s : State) (rid : Nat) (r : Req) (fBad : Bool) {ks : List
    Field} (h1 : Reg.CACHE_FWD_CNT ∈ ks) (h2 : Reg.CACHE_HIT_CNT ∈ ks) (h3 : Reg.CACHE_MISS_CNT ∈ ks) (h4 :
    Reg.CHRON_DROP_CNT ∈ ks) (h5 : Reg.CHRON_REPEAT_CNT ∈ ks) (h6 : Reg.DIR_EVBUF_USED ∈ ks) (h7 :
    Reg.DIR_HOST_OVF_ENTRIES ∈ ks) (h8 : Reg.DIR_HOST_STATUS_ENTRIES ∈ ks) (h9 : Reg.DIR_SLICE_STATUS_ENTRIES ∈ ks)
    (h10 : Reg.ERR_BUCKET_STATUS_LEVEL ∈ ks) (h11 : Reg.ERR_BUCKET_STATUS_OVF_CNT ∈ ks) (h12 : Reg.ERR_CORR_VOL_CNT ∈
    ks) (h13 : Reg.ERR_HEALTH_EVENT_BUCKET_OVF ∈ ks) (h14 : Reg.PORT_INFLIGHT_LINK0 ∈ ks) (h15 :
    Reg.PORT_INFLIGHT_LINK1 ∈ ks) (h16 : Reg.PORT_INFLIGHT_PEAK_LINK0 ∈ ks) (h17 : Reg.PORT_INFLIGHT_PEAK_LINK1 ∈ ks)
    (h18 : Reg.PROT_INTEG_FAIL_CNT ∈ ks) (h19 : Reg.RANGE_INTEG_FAIL_CNT ∈ ks) (h20 : Reg.TELEM_BLK_OVF_OVF ∈ ks) :
    onlyRegs ks s (@State.proceed s rid r fBad) := by
  unfold State.proceed
  repeat' (first
      | (with_reducible apply onlyRegs.rfl)
      | (with_reducible assumption)
      | (with_reducible exact List.mem_cons_self)
      | (with_reducible apply List.mem_cons_of_mem)
      | (with_reducible apply onlyRegs.on (finish_regs _ _ ?_ ?_ ?_ ?_))
      | (with_reducible apply onlyRegs.keep (sendNdr_within _ _) (by decide))
      | (with_reducible apply onlyRegs.on (dropPointer_regs _ _ _ ?_ ?_ ?_))
      | (with_reducible apply onlyRegs.on (sources_regs _ _ _ _ ?_ ?_ ?_ ?_ ?_ ?_ ?_ ?_ ?_ ?_ ?_ ?_ ?_ ?_ ?_ ?_ ?_))
      | with_reducible apply onlyRegs.of_fst (by assumption)
      | with_reducible apply onlyRegs.of_fst1 (by assumption)
      | split)

theorem pick_80000000000000000000000000807c30c000018000007fbcc00000000000000022 (s t : State) : State.pick 0x80000000000000000000000000807c30c000018000007fbcc00000000000000022 s t = { s with
    regs := t.regs, out := t.out,
    chron := { s.chron with
      perm := t.chron.perm, ring := t.chron.ring, buffer := t.chron.buffer, nextSerial := t.chron.nextSerial,
      runs := t.chron.runs, dropped := t.chron.dropped },
    events := t.events, sessions := t.sessions, reqs := t.reqs,
    cache := { s.cache with
      lines := t.cache.lines, fills := t.cache.fills, dirPlru := t.cache.dirPlru, plru := t.cache.plru,
      host := t.cache.host, evicting := t.cache.evicting, snoops := t.cache.snoops, clock := t.cache.clock,
      biCredits := t.cache.biCredits },
    sched := { s.sched with jobs := t.sched.jobs }, telem := { s.telem with counts := t.telem.counts } } := rfl

theorem tryResolve_within (s : State) (rid : Nat) (r : Req) (fBad : Bool) : Within
    0x80000000000000000000000000807c30c000018000007fbcc00000000000000022 s
    (@State.tryResolve s rid r fBad) := by
  unfold State.tryResolve
  repeat' (first
      | extract_lets
      | with_reducible apply Within.ite <;> intro _
      | with_reducible apply Within.rfl
      | (with_reducible apply Within.on (m := 0x80000000000000000000000000807c30c000018000007fbcc00000000000000022) (resolve_within _ _ _) (by decide))
      | (with_reducible apply Within.on (m := 0x80000000000000000000000000807c30c000018000007fbcc00000000000000022) (proceed_within _ _ _ _) (by decide))
      | (with_reducible apply Within.on (m := 0x80000000000000000000000000807c30c000018000007fbcc00000000000000022) (setReq_within _ _ _) (by decide))
      | (with_reducible apply Within.on (m := 0x80000000000000000000000000807c30c000018000007fbcc00000000000000022) (bump_within _ _ _ _ _) (by decide))
      | fail_if_no_progress with_reducible apply Within.upd (by rw [pick_80000000000000000000000000807c30c000018000007fbcc00000000000000022])
      | with_reducible apply Within.of_fst (by assumption)
      | with_reducible apply Within.of_fst1 (by assumption)
      | split)

theorem tryResolve_regs (s : State) (rid : Nat) (r : Req) (fBad : Bool) {ks :
    List Field} (h1 : Reg.CACHE_FWD_CNT ∈ ks) (h2 : Reg.CACHE_HIT_CNT ∈ ks) (h3 : Reg.CACHE_MISS_CNT ∈ ks) (h4 :
    Reg.CHRON_DROP_CNT ∈ ks) (h5 : Reg.CHRON_REPEAT_CNT ∈ ks) (h6 : Reg.DIR_BCAST_CNT ∈ ks) (h7 : Reg.DIR_BISNP_CNT ∈
    ks) (h8 : Reg.DIR_EVBUF_USED ∈ ks) (h9 : Reg.DIR_EVICT_CNT ∈ ks) (h10 : Reg.DIR_HOST_OVF_ENTRIES ∈ ks) (h11 :
    Reg.DIR_HOST_STATUS_ENTRIES ∈ ks) (h12 : Reg.DIR_RESOLVE_WAIT_CNT ∈ ks) (h13 : Reg.DIR_SLICE_STATUS_ENTRIES ∈ ks)
    (h14 : Reg.ERR_BUCKET_STATUS_LEVEL ∈ ks) (h15 : Reg.ERR_BUCKET_STATUS_OVF_CNT ∈ ks) (h16 : Reg.ERR_CORR_VOL_CNT ∈
    ks) (h17 : Reg.ERR_HEALTH_EVENT_BUCKET_OVF ∈ ks) (h18 : Reg.PORT_INFLIGHT_LINK0 ∈ ks) (h19 :
    Reg.PORT_INFLIGHT_LINK1 ∈ ks) (h20 : Reg.PORT_INFLIGHT_PEAK_LINK0 ∈ ks) (h21 : Reg.PORT_INFLIGHT_PEAK_LINK1 ∈ ks)
    (h22 : Reg.PROT_INTEG_FAIL_CNT ∈ ks) (h23 : Reg.RANGE_INTEG_FAIL_CNT ∈ ks) (h24 : Reg.TELEM_BLK_OVF_OVF ∈ ks) :
    onlyRegs ks s (@State.tryResolve s rid r fBad) := by
  unfold State.tryResolve
  repeat' (first
      | (with_reducible apply onlyRegs.rfl)
      | extract_lets
      | (with_reducible assumption)
      | (with_reducible exact List.mem_cons_self)
      | (with_reducible apply List.mem_cons_of_mem)
      | (with_reducible apply onlyRegs.ite <;> intro _)
      | (with_reducible apply onlyRegs.on (resolve_regs _ _ _ ?_ ?_ ?_ ?_ ?_ ?_))
      | (with_reducible apply onlyRegs.on (proceed_regs _ _ _ _ ?_ ?_ ?_ ?_ ?_ ?_ ?_ ?_ ?_ ?_ ?_ ?_ ?_ ?_ ?_ ?_ ?_ ?_ ?_ ?_))
      | (with_reducible apply onlyRegs.keep (setReq_within _ _ _) (by decide))
      | (with_reducible apply onlyRegs.on (bump_regs _ _ _ _ _ ?_))
      | fail_if_no_progress with_reducible apply onlyRegs.upd
      | with_reducible apply onlyRegs.of_fst (by assumption)
      | with_reducible apply onlyRegs.of_fst1 (by assumption)
      | split)

theorem wakeAll_within (s : State) : Within
    0x80000000000000000000000000807c30c000018000007fbcc00000000000000022 s
    (@State.wakeAll s) := by
  unfold State.wakeAll
  repeat' (first
      | with_reducible apply Within.ite <;> intro _
      | with_reducible apply Within.rfl
      | (with_reducible apply Within.on (m := 0x80000000000000000000000000807c30c000018000007fbcc00000000000000022) (tryResolve_within _ _ _ _) (by decide))
      | (with_reducible apply Within.foldl; intro t x)
      | fail_if_no_progress with_reducible apply Within.upd (by rw [pick_80000000000000000000000000807c30c000018000007fbcc00000000000000022])
      | with_reducible apply Within.of_fst (by assumption)
      | with_reducible apply Within.of_fst1 (by assumption)
      | split)

theorem wakeAll_regs (s : State) {ks : List Field} (h1 : Reg.CACHE_FWD_CNT ∈ ks) (h2 :
    Reg.CACHE_HIT_CNT ∈ ks) (h3 : Reg.CACHE_MISS_CNT ∈ ks) (h4 : Reg.CHRON_DROP_CNT ∈ ks) (h5 : Reg.CHRON_REPEAT_CNT ∈
    ks) (h6 : Reg.DIR_BCAST_CNT ∈ ks) (h7 : Reg.DIR_BISNP_CNT ∈ ks) (h8 : Reg.DIR_EVBUF_USED ∈ ks) (h9 :
    Reg.DIR_EVICT_CNT ∈ ks) (h10 : Reg.DIR_HOST_OVF_ENTRIES ∈ ks) (h11 : Reg.DIR_HOST_STATUS_ENTRIES ∈ ks) (h12 :
    Reg.DIR_RESOLVE_WAIT_CNT ∈ ks) (h13 : Reg.DIR_SLICE_STATUS_ENTRIES ∈ ks) (h14 : Reg.ERR_BUCKET_STATUS_LEVEL ∈ ks)
    (h15 : Reg.ERR_BUCKET_STATUS_OVF_CNT ∈ ks) (h16 : Reg.ERR_CORR_VOL_CNT ∈ ks) (h17 :
    Reg.ERR_HEALTH_EVENT_BUCKET_OVF ∈ ks) (h18 : Reg.PORT_INFLIGHT_LINK0 ∈ ks) (h19 : Reg.PORT_INFLIGHT_LINK1 ∈ ks)
    (h20 : Reg.PORT_INFLIGHT_PEAK_LINK0 ∈ ks) (h21 : Reg.PORT_INFLIGHT_PEAK_LINK1 ∈ ks) (h22 : Reg.PROT_INTEG_FAIL_CNT
    ∈ ks) (h23 : Reg.RANGE_INTEG_FAIL_CNT ∈ ks) (h24 : Reg.TELEM_BLK_OVF_OVF ∈ ks) : onlyRegs ks s
    (@State.wakeAll s) := by
  unfold State.wakeAll
  repeat' (first
      | (with_reducible apply onlyRegs.rfl)
      | (with_reducible assumption)
      | (with_reducible exact List.mem_cons_self)
      | (with_reducible apply List.mem_cons_of_mem)
      | (with_reducible apply onlyRegs.ite <;> intro _)
      | (with_reducible apply onlyRegs.on (tryResolve_regs _ _ _ _ ?_ ?_ ?_ ?_ ?_ ?_ ?_ ?_ ?_ ?_ ?_ ?_ ?_ ?_ ?_ ?_ ?_ ?_ ?_ ?_ ?_ ?_ ?_ ?_))
      | (with_reducible apply onlyRegs.foldl; intro t x)
      | fail_if_no_progress with_reducible apply onlyRegs.upd
      | with_reducible apply onlyRegs.of_fst (by assumption)
      | with_reducible apply onlyRegs.of_fst1 (by assumption)
      | split)

theorem forwardBack_within (s : State) (sess : Nat) (line : Nat) (data : Sys2Proof.LineData) (bad :
    Bool) : Within 0x8000008000018000000000000000000000000022 s (@State.forwardBack s sess
    line data bad) := by
  unfold State.forwardBack
  repeat' (first
      | with_reducible apply Within.ite <;> intro _
      | with_reducible apply Within.rfl
      | (with_reducible apply Within.on (m := 0x8000008000018000000000000000000000000022) (answer_within _ _ _ _ _) (by decide))
      | (with_reducible apply Within.on (m := 0x8000008000018000000000000000000000000022) (bump_within _ _ _ _ _) (by decide))
      | with_reducible apply Within.of_fst (by assumption)
      | with_reducible apply Within.of_fst1 (by assumption)
      | split)

theorem forwardBack_regs (s : State) (sess : Nat) (line : Nat) (data : Sys2Proof.LineData) (bad :
    Bool) {ks : List Field} (h1 : Reg.DIR_FWD_CNT ∈ ks) (h2 : Reg.PORT_INFLIGHT_LINK0 ∈ ks) (h3 :
    Reg.PORT_INFLIGHT_LINK1 ∈ ks) (h4 : Reg.PORT_INFLIGHT_PEAK_LINK0 ∈ ks) (h5 : Reg.PORT_INFLIGHT_PEAK_LINK1 ∈ ks) :
    onlyRegs ks s (@State.forwardBack s sess line data bad) := by
  unfold State.forwardBack
  repeat' (first
      | (with_reducible apply onlyRegs.rfl)
      | (with_reducible assumption)
      | (with_reducible exact List.mem_cons_self)
      | (with_reducible apply List.mem_cons_of_mem)
      | (with_reducible apply onlyRegs.ite <;> intro _)
      | (with_reducible apply onlyRegs.on (answer_regs _ _ _ _ _ ?_ ?_ ?_ ?_))
      | (with_reducible apply onlyRegs.on (bump_regs _ _ _ _ _ ?_))
      | with_reducible apply onlyRegs.of_fst (by assumption)
      | with_reducible apply onlyRegs.of_fst1 (by assumption)
      | split)

theorem snoopDone_within (s : State) (x : Snoop) : Within
    0x80000000000000000000000000807c30c000018000007fbcc00000000000000022 s
    (@State.snoopDone s x) := by
  unfold State.snoopDone
  repeat' (first
      | extract_lets
      | with_reducible apply Within.rfl
      | (with_reducible apply Within.on (m := 0x80000000000000000000000000807c30c000018000007fbcc00000000000000022) (readResolved_within _ _ _ _) (by decide))
      | (with_reducible apply Within.on (m := 0x80000000000000000000000000807c30c000018000007fbcc00000000000000022) (proceed_within _ _ _ _) (by decide))
      | (with_reducible apply Within.on (m := 0x80000000000000000000000000807c30c000018000007fbcc00000000000000022) (putHost_within _ _ _) (by decide))
      | (with_reducible apply Within.on (m := 0x80000000000000000000000000807c30c000018000007fbcc00000000000000022) (dirCounts_within _) (by decide))
      | (with_reducible apply Within.on (m := 0x80000000000000000000000000807c30c000018000007fbcc00000000000000022) (dropHost_within _ _) (by decide))
      | (with_reducible apply Within.on (m := 0x80000000000000000000000000807c30c000018000007fbcc00000000000000022) (setSess_within _ _ _) (by decide))
      | (with_reducible apply Within.on (m := 0x80000000000000000000000000807c30c000018000007fbcc00000000000000022) (wakeAll_within _) (by decide))
      | fail_if_no_progress with_reducible apply Within.upd (by rw [pick_80000000000000000000000000807c30c000018000007fbcc00000000000000022])
      | with_reducible apply Within.of_fst (by assumption)
      | with_reducible apply Within.of_fst1 (by assumption)
      | split
      | dsimp +zetaDelta only)

theorem snoopDone_regs (s : State) (x : Snoop) {ks : List Field} (h1 :
    Reg.CACHE_FWD_CNT ∈ ks) (h2 : Reg.CACHE_HIT_CNT ∈ ks) (h3 : Reg.CACHE_MISS_CNT ∈ ks) (h4 : Reg.CHRON_DROP_CNT ∈
    ks) (h5 : Reg.CHRON_REPEAT_CNT ∈ ks) (h6 : Reg.DIR_BCAST_CNT ∈ ks) (h7 : Reg.DIR_BISNP_CNT ∈ ks) (h8 :
    Reg.DIR_EVBUF_USED ∈ ks) (h9 : Reg.DIR_EVICT_CNT ∈ ks) (h10 : Reg.DIR_HOST_OVF_ENTRIES ∈ ks) (h11 :
    Reg.DIR_HOST_STATUS_ENTRIES ∈ ks) (h12 : Reg.DIR_RESOLVE_WAIT_CNT ∈ ks) (h13 : Reg.DIR_SLICE_STATUS_ENTRIES ∈ ks)
    (h14 : Reg.ERR_BUCKET_STATUS_LEVEL ∈ ks) (h15 : Reg.ERR_BUCKET_STATUS_OVF_CNT ∈ ks) (h16 : Reg.ERR_CORR_VOL_CNT ∈
    ks) (h17 : Reg.ERR_HEALTH_EVENT_BUCKET_OVF ∈ ks) (h18 : Reg.PORT_INFLIGHT_LINK0 ∈ ks) (h19 :
    Reg.PORT_INFLIGHT_LINK1 ∈ ks) (h20 : Reg.PORT_INFLIGHT_PEAK_LINK0 ∈ ks) (h21 : Reg.PORT_INFLIGHT_PEAK_LINK1 ∈ ks)
    (h22 : Reg.PROT_INTEG_FAIL_CNT ∈ ks) (h23 : Reg.RANGE_INTEG_FAIL_CNT ∈ ks) (h24 : Reg.TELEM_BLK_OVF_OVF ∈ ks) :
    onlyRegs ks s (@State.snoopDone s x) := by
  unfold State.snoopDone
  repeat' (first
      | (with_reducible apply onlyRegs.rfl)
      | extract_lets
      | (with_reducible assumption)
      | (with_reducible exact List.mem_cons_self)
      | (with_reducible apply List.mem_cons_of_mem)
      | (with_reducible apply onlyRegs.on (readResolved_regs _ _ _ _ ?_ ?_ ?_))
      | (with_reducible apply onlyRegs.on (proceed_regs _ _ _ _ ?_ ?_ ?_ ?_ ?_ ?_ ?_ ?_ ?_ ?_ ?_ ?_ ?_ ?_ ?_ ?_ ?_ ?_ ?_ ?_))
      | (with_reducible apply onlyRegs.on (putHost_regs _ _ _ ?_ ?_ ?_))
      | (with_reducible apply onlyRegs.on (dirCounts_regs _ ?_ ?_ ?_))
      | (with_reducible apply onlyRegs.on (dropHost_regs _ _ ?_ ?_ ?_))
      | (with_reducible apply onlyRegs.keep (setSess_within _ _ _) (by decide))
      | (with_reducible apply onlyRegs.on (wakeAll_regs _ ?_ ?_ ?_ ?_ ?_ ?_ ?_ ?_ ?_ ?_ ?_ ?_ ?_ ?_ ?_ ?_ ?_ ?_ ?_ ?_ ?_ ?_ ?_ ?_))
      | fail_if_no_progress with_reducible apply onlyRegs.upd
      | with_reducible apply onlyRegs.of_fst (by assumption)
      | with_reducible apply onlyRegs.of_fst1 (by assumption)
      | split
      | dsimp +zetaDelta only)

theorem snoopAnswer_within (s : State) (sess : Nat) (line : Nat) (kept : Bool) : Within
    0x80000000000000000000000000807c30c000018000007fbcc00000000000000022 s
    (@State.snoopAnswer s sess line kept) := by
  unfold State.snoopAnswer
  repeat' (first
      | extract_lets
      | with_reducible apply Within.ite <;> intro _
      | with_reducible apply Within.rfl
      | (with_reducible apply Within.on (m := 0x80000000000000000000000000807c30c000018000007fbcc00000000000000022) (snoopDone_within _ _) (by decide))
      | fail_if_no_progress with_reducible apply Within.upd (by rw [pick_80000000000000000000000000807c30c000018000007fbcc00000000000000022])
      | with_reducible apply Within.of_fst (by assumption)
      | with_reducible apply Within.of_fst1 (by assumption)
      | split)

theorem snoopAnswer_regs (s : State) (sess : Nat) (line : Nat) (kept : Bool) {ks : List Field} (h1
    : Reg.CACHE_FWD_CNT ∈ ks) (h2 : Reg.CACHE_HIT_CNT ∈ ks) (h3 : Reg.CACHE_MISS_CNT ∈ ks) (h4 : Reg.CHRON_DROP_CNT ∈
    ks) (h5 : Reg.CHRON_REPEAT_CNT ∈ ks) (h6 : Reg.DIR_BCAST_CNT ∈ ks) (h7 : Reg.DIR_BISNP_CNT ∈ ks) (h8 :
    Reg.DIR_EVBUF_USED ∈ ks) (h9 : Reg.DIR_EVICT_CNT ∈ ks) (h10 : Reg.DIR_HOST_OVF_ENTRIES ∈ ks) (h11 :
    Reg.DIR_HOST_STATUS_ENTRIES ∈ ks) (h12 : Reg.DIR_RESOLVE_WAIT_CNT ∈ ks) (h13 : Reg.DIR_SLICE_STATUS_ENTRIES ∈ ks)
    (h14 : Reg.ERR_BUCKET_STATUS_LEVEL ∈ ks) (h15 : Reg.ERR_BUCKET_STATUS_OVF_CNT ∈ ks) (h16 : Reg.ERR_CORR_VOL_CNT ∈
    ks) (h17 : Reg.ERR_HEALTH_EVENT_BUCKET_OVF ∈ ks) (h18 : Reg.PORT_INFLIGHT_LINK0 ∈ ks) (h19 :
    Reg.PORT_INFLIGHT_LINK1 ∈ ks) (h20 : Reg.PORT_INFLIGHT_PEAK_LINK0 ∈ ks) (h21 : Reg.PORT_INFLIGHT_PEAK_LINK1 ∈ ks)
    (h22 : Reg.PROT_INTEG_FAIL_CNT ∈ ks) (h23 : Reg.RANGE_INTEG_FAIL_CNT ∈ ks) (h24 : Reg.TELEM_BLK_OVF_OVF ∈ ks) :
    onlyRegs ks s (@State.snoopAnswer s sess line kept) := by
  unfold State.snoopAnswer
  repeat' (first
      | (with_reducible apply onlyRegs.rfl)
      | extract_lets
      | (with_reducible assumption)
      | (with_reducible exact List.mem_cons_self)
      | (with_reducible apply List.mem_cons_of_mem)
      | (with_reducible apply onlyRegs.ite <;> intro _)
      | (with_reducible apply onlyRegs.on (snoopDone_regs _ _ ?_ ?_ ?_ ?_ ?_ ?_ ?_ ?_ ?_ ?_ ?_ ?_ ?_ ?_ ?_ ?_ ?_ ?_ ?_ ?_ ?_ ?_ ?_ ?_))
      | fail_if_no_progress with_reducible apply onlyRegs.upd
      | with_reducible apply onlyRegs.of_fst (by assumption)
      | with_reducible apply onlyRegs.of_fst1 (by assumption)
      | split)

theorem pick_8000008000218000000000000000000000000022 (s t : State) : State.pick 0x8000008000218000000000000000000000000022 s t = { s with
    regs := t.regs, out := t.out, sessions := t.sessions, reqs := t.reqs,
    merge := { s.merge with entries := t.merge.entries }, cache := { s.cache with fills := t.cache.fills },
    sched := { s.sched with jobs := t.sched.jobs } } := rfl

theorem fromEntry_within (s : State) (rid : Nat) (line : Nat) (e : Entry) : Within
    0x8000008000218000000000000000000000000022 s (@State.fromEntry s rid line e) := by
  unfold State.fromEntry
  repeat' (first
      | with_reducible apply Within.rfl
      | (with_reducible apply Within.on (m := 0x8000008000218000000000000000000000000022) (answer_within _ _ _ _ _) (by decide))
      | (with_reducible apply Within.on (m := 0x8000008000218000000000000000000000000022) (touchEntry_within _ _) (by decide)))

theorem fromEntry_regs (s : State) (rid : Nat) (line : Nat) (e : Entry) {ks :
    List Field} (h1 : Reg.PORT_INFLIGHT_LINK0 ∈ ks) (h2 : Reg.PORT_INFLIGHT_LINK1 ∈ ks) (h3 :
    Reg.PORT_INFLIGHT_PEAK_LINK0 ∈ ks) (h4 : Reg.PORT_INFLIGHT_PEAK_LINK1 ∈ ks) : onlyRegs ks s
    (@State.fromEntry s rid line e) := by
  unfold State.fromEntry
  repeat' (first
      | (with_reducible apply onlyRegs.rfl)
      | (with_reducible assumption)
      | (with_reducible exact List.mem_cons_self)
      | (with_reducible apply List.mem_cons_of_mem)
      | (with_reducible apply onlyRegs.on (answer_regs _ _ _ _ _ ?_ ?_ ?_ ?_))
      | (with_reducible apply onlyRegs.keep (touchEntry_within _ _) (by decide)))

theorem takeResult_within (s : State) (rid : Nat) : Within
    0x8000008000018000000000000000000000000022 s (@State.takeResult s rid) := by
  unfold State.takeResult
  repeat' (first
      | extract_lets
      | with_reducible apply Within.ite <;> intro _
      | with_reducible apply Within.rfl
      | (with_reducible apply Within.on (m := 0x8000008000018000000000000000000000000022) (bump_within _ _ _ _ _) (by decide))
      | (with_reducible apply Within.on (m := 0x8000008000018000000000000000000000000022) (noteLatency_within _ _) (by decide))
      | (with_reducible apply Within.on (m := 0x8000008000018000000000000000000000000022) (answer_within _ _ _ _ _) (by decide))
      | with_reducible apply Within.of_fst (by assumption)
      | with_reducible apply Within.of_fst1 (by assumption)
      | split)

theorem takeResult_regs (s : State) (rid : Nat) {ks : List Field} (h1 : Reg.CACHE_RC_HIT_CNT ∈ ks)
    (h2 : Reg.PORT_INFLIGHT_LINK0 ∈ ks) (h3 : Reg.PORT_INFLIGHT_LINK1 ∈ ks) (h4 : Reg.PORT_INFLIGHT_PEAK_LINK0 ∈ ks)
    (h5 : Reg.PORT_INFLIGHT_PEAK_LINK1 ∈ ks) (h6 : Reg.SCHED_BOUND_MISS ∈ ks) (h7 : Reg.SCHED_MAX_LAT_CCLK ∈ ks) :
    onlyRegs ks s (@State.takeResult s rid) := by
  unfold State.takeResult
  repeat' (first
      | (with_reducible apply onlyRegs.rfl)
      | extract_lets
      | (with_reducible assumption)
      | (with_reducible exact List.mem_cons_self)
      | (with_reducible apply List.mem_cons_of_mem)
      | (with_reducible apply onlyRegs.ite <;> intro _)
      | (with_reducible apply onlyRegs.on (bump_regs _ _ _ _ _ ?_))
      | (with_reducible apply onlyRegs.on (noteLatency_regs _ _ ?_ ?_))
      | (with_reducible apply onlyRegs.on (answer_regs _ _ _ _ _ ?_ ?_ ?_ ?_))
      | with_reducible apply onlyRegs.of_fst (by assumption)
      | with_reducible apply onlyRegs.of_fst1 (by assumption)
      | split)

end Sys2Proof.Machine
end

