-- ==== Sys2Proof/Laws/CommandFrames.lean ====
section
/-! SUPPORT. For each function of Machine/Command.lean over the state: the part of the state outside which it changes
nothing (`…_within`), and the register fields that it may write (`…_regs`). -/

namespace Sys2Proof.Machine

set_option maxRecDepth 4000

theorem pick_200000000000000000000000000000020 (s t : State) : State.pick 0x200000000000000000000000000000020 s t = { s with
    out := t.out, mbox := { s.mbox with stored := t.mbox.stored } } := rfl

theorem reply_within (s : State) (p : Sys2Proof.CmdPath) (rc : Rc) (ext : Nat)
    (data : List Nat) : Within 0x200000000000000000000000000000020 s (@State.reply s p rc ext
    data) := by
  unfold State.reply
  repeat' (first
      | extract_lets
      | with_reducible apply Within.ite <;> intro _
      | with_reducible apply Within.rfl
      | (with_reducible apply Within.on (m := 0x200000000000000000000000000000020) (emit_within _ _) (by decide))
      | fail_if_no_progress with_reducible apply Within.upd (by rw [pick_200000000000000000000000000000020]))

theorem command_within (s : State) (p : Sys2Proof.CmdPath) (i : Sys2Proof.Instr) (c :
    PathClass) (needReady : Bool) (f : State → State) {M : Nat}
    (hM : 0x200000000000000000000000000000020 ||| M = M) (hf : ∀ y, Within M y (f y)) : Within M s
    (@State.command s p i c needReady f) := by
  unfold State.command
  repeat' (first
      | extract_lets
      | with_reducible apply Within.ite <;> intro _
      | with_reducible apply Within.rfl
      | (with_reducible apply Within.on (m := M) (emit_within _ _) (subm (a := 0x200000000000000000000000000000020) (by decide) hM))
      | (with_reducible apply Within.on (m := M) (reply_within _ _ _ _ _) (subm (a := 0x200000000000000000000000000000020) (by decide) hM))
      | fail_if_no_progress with_reducible apply Within.upd1 (m := 0x200000000000000000000000000000020) hM (by rw [pick_200000000000000000000000000000020])
      | with_reducible apply Within.of_fst (by assumption)
      | with_reducible apply Within.of_fst1 (by assumption)
      | (with_reducible apply Within.on (hf _) (Nat.or_self _))
      | (with_reducible apply Within.on (hf _ _) (Nat.or_self _))
      | split)

theorem command_regs (s : State) (p : Sys2Proof.CmdPath) (i : Sys2Proof.Instr) (c :
    PathClass) (needReady : Bool) (f : State → State) {ks : List
    Field} (hf : ∀ y, onlyRegs ks y (f y)) : onlyRegs ks s (@State.command s p i c needReady f) := by
  unfold State.command
  repeat' (first
      | (with_reducible apply onlyRegs.on (hf _))
      | (with_reducible apply onlyRegs.on (hf _ _))
      | (with_reducible apply onlyRegs.rfl)
      | extract_lets
      | (with_reducible assumption)
      | (with_reducible exact List.mem_cons_self)
      | (with_reducible apply List.mem_cons_of_mem)
      | (with_reducible apply onlyRegs.ite <;> intro _)
      | (with_reducible apply onlyRegs.keep (emit_within _ _) (by decide))
      | (with_reducible apply onlyRegs.keep (reply_within _ _ _ _ _) (by decide))
      | fail_if_no_progress with_reducible apply onlyRegs.upd
      | with_reducible apply onlyRegs.of_fst (by assumption)
      | with_reducible apply onlyRegs.of_fst1 (by assumption)
      | split)

theorem pick_400000000000000000000000000000000 (s t : State) : State.pick 0x400000000000000000000000000000000 s t = { s with
    mbox := { s.mbox with bg := t.mbox.bg } } := rfl

theorem bgStart_within (s : State) (p : Sys2Proof.CmdPath) (b : Background) :
    Within 0x400000000000000000000000000000000 s (@State.bgStart s p b) := by
  unfold State.bgStart
  repeat' (first
      | with_reducible apply Within.rfl
      | fail_if_no_progress with_reducible apply Within.upd (by rw [pick_400000000000000000000000000000000]))

theorem pick_600000000000000000000000000000020 (s t : State) : State.pick 0x600000000000000000000000000000020 s t = { s with
    out := t.out, mbox := { s.mbox with stored := t.mbox.stored, bg := t.mbox.bg } } := rfl

theorem bgEnd_within (s : State) (b : Background) (rc : Rc) (ext
    : Nat) (data : List Nat) : Within 0x600000000000000000000000000000020 s (@State.bgEnd s b
    rc ext data) := by
  unfold State.bgEnd
  repeat' (first
      | extract_lets
      | with_reducible apply Within.ite <;> intro _
      | with_reducible apply Within.rfl
      | (with_reducible apply Within.on (m := 0x600000000000000000000000000000020) (reply_within _ _ _ _ _) (by decide))
      | (with_reducible apply Within.on (m := 0x600000000000000000000000000000020) (emit_within _ _) (by decide))
      | (with_reducible apply Within.foldl; intro t x)
      | fail_if_no_progress with_reducible apply Within.upd (by rw [pick_600000000000000000000000000000020]))

end Sys2Proof.Machine
end

