-- ==== Sys2Proof/Laws/SessionFamilyFrames.lean ====
section
/-! SUPPORT. For each function of Machine/SessionFamily.lean over the state: the part of the state outside which it changes
nothing (`…_within`), and the register fields that it may write (`…_regs`). -/

namespace Sys2Proof.Machine

set_option maxRecDepth 4000

theorem recount_within (s : State) : Within 2 s (@State.recount s) := by
  unfold State.recount
  repeat' (first
      | extract_lets
      | with_reducible apply Within.rfl
      | (with_reducible apply Within.on (m := 2) (wr_within _ _ _ _ _) (by decide)))

theorem recount_regs (s : State) {ks : List Field} (h1 : Reg.SCHED_READ_SUM_SUM ∈ ks) (h2 :
    Reg.SCHED_WRITE_SUM_SUM ∈ ks) (h3 : Reg.SESS_COUNT_ACTIVE ∈ ks) (h4 : Reg.SESS_COUNT_FENCING ∈ ks) : onlyRegs ks s
    (@State.recount s) := by
  unfold State.recount
  repeat' (first
      | (with_reducible apply onlyRegs.rfl)
      | extract_lets
      | (with_reducible assumption)
      | (with_reducible exact List.mem_cons_self)
      | (with_reducible apply List.mem_cons_of_mem)
      | (with_reducible apply onlyRegs.wr))

theorem sessReply_within (s : State) (p : Sys2Proof.CmdPath) (num : Nat) (reason : Nat) : Within
    0x200000000000000000000000000000020 s (@State.sessReply s p num reason) := by
  unfold State.sessReply
  repeat' (first
      | extract_lets
      | with_reducible apply Within.rfl
      | (with_reducible apply Within.on (m := 0x200000000000000000000000000000020) (reply_within _ _ _ _ _) (by decide)))

theorem pick_200000000000000000000000000000022 (s t : State) : State.pick 0x200000000000000000000000000000022 s t = { s with
    regs := t.regs, out := t.out, mbox := { s.mbox with stored := t.mbox.stored } } := rfl

theorem sessRefuse_within (s : State) (p : Sys2Proof.CmdPath) (num : Nat) (reason : Nat) : Within
    0x200000000000000000000000000000022 s (@State.sessRefuse s p num reason) := by
  unfold State.sessRefuse
  repeat' (first
      | extract_lets
      | with_reducible apply Within.rfl
      | (with_reducible apply Within.on (m := 0x200000000000000000000000000000022) (bump_within _ _ _ _ _) (by decide))
      | (with_reducible apply Within.on (m := 0x200000000000000000000000000000022) (wr_within _ _ _ _ _) (by decide))
      | (with_reducible apply Within.on (m := 0x200000000000000000000000000000022) (reply_within _ _ _ _ _) (by decide)))

theorem sessRefuse_regs (s : State) (p : Sys2Proof.CmdPath) (num : Nat) (reason : Nat) {ks : List
    Field} (h1 : Reg.SESS_CMD_REJECT_COUNT ∈ ks) (h2 : Reg.SESS_CMD_REJECT_LAST_REASON ∈ ks) : onlyRegs ks s
    (@State.sessRefuse s p num reason) := by
  unfold State.sessRefuse
  repeat' (first
      | (with_reducible apply onlyRegs.rfl)
      | extract_lets
      | (with_reducible assumption)
      | (with_reducible exact List.mem_cons_self)
      | (with_reducible apply List.mem_cons_of_mem)
      | (with_reducible apply onlyRegs.on (bump_regs _ _ _ _ _ ?_))
      | (with_reducible apply onlyRegs.wr)
      | (with_reducible apply onlyRegs.keep (reply_within _ _ _ _ _) (by decide)))

theorem pick_200008000000000000000000000000022 (s t : State) : State.pick 0x200008000000000000000000000000022 s t = { s with
    regs := t.regs, out := t.out, sessions := t.sessions, mbox := { s.mbox with stored := t.mbox.stored } } := rfl

theorem sessCreate_within (s : State) (p : Sys2Proof.CmdPath) (num : Nat) (w : Sys2Proof.SessWords) :
    Within 0x200008000000000000000000000000022 s (@State.sessCreate s p num w) := by
  unfold State.sessCreate
  repeat' (first
      | extract_lets
      | with_reducible apply Within.rfl
      | (with_reducible apply Within.on (m := 0x200008000000000000000000000000022) (recount_within _) (by decide))
      | (with_reducible apply Within.on (m := 0x200008000000000000000000000000022) (setSess_within _ _ _) (by decide))
      | (with_reducible apply Within.on (m := 0x200008000000000000000000000000022) (sessReply_within _ _ _ _) (by decide))
      | (with_reducible apply Within.on (m := 0x200008000000000000000000000000022) (sessRefuse_within _ _ _ _) (by decide))
      | fail_if_no_progress with_reducible apply Within.upd (by rw [pick_200008000000000000000000000000022])
      | with_reducible apply Within.of_fst (by assumption)
      | with_reducible apply Within.of_fst1 (by assumption)
      | split
      | dsimp +zetaDelta only)

theorem sessCreate_regs (s : State) (p : Sys2Proof.CmdPath) (num : Nat) (w : Sys2Proof.SessWords)
    {ks : List Field} (h1 : Reg.SCHED_READ_SUM_SUM ∈ ks) (h2 : Reg.SCHED_WRITE_SUM_SUM ∈ ks) (h3 :
    Reg.SESS_CMD_REJECT_COUNT ∈ ks) (h4 : Reg.SESS_CMD_REJECT_LAST_REASON ∈ ks) (h5 : Reg.SESS_COUNT_ACTIVE ∈ ks) (h6
    : Reg.SESS_COUNT_FENCING ∈ ks) : onlyRegs ks s (@State.sessCreate s p num w) := by
  unfold State.sessCreate
  repeat' (first
      | (with_reducible apply onlyRegs.rfl)
      | extract_lets
      | (with_reducible assumption)
      | (with_reducible exact List.mem_cons_self)
      | (with_reducible apply List.mem_cons_of_mem)
      | (with_reducible apply onlyRegs.on (recount_regs _ ?_ ?_ ?_ ?_))
      | (with_reducible apply onlyRegs.keep (setSess_within _ _ _) (by decide))
      | (with_reducible apply onlyRegs.keep (sessReply_within _ _ _ _) (by decide))
      | (with_reducible apply onlyRegs.on (sessRefuse_regs _ _ _ _ ?_ ?_))
      | fail_if_no_progress with_reducible apply onlyRegs.upd
      | with_reducible apply onlyRegs.of_fst (by assumption)
      | with_reducible apply onlyRegs.of_fst1 (by assumption)
      | split
      | dsimp +zetaDelta only)

theorem sessModify_within (s : State) (p : Sys2Proof.CmdPath) (num : Nat) (m : Sys2Proof.SessModify)
    : Within 0x200008000000000000000000000000022 s (@State.sessModify s p num m) := by
  unfold State.sessModify
  repeat' (first
      | extract_lets
      | with_reducible apply Within.rfl
      | (with_reducible apply Within.on (m := 0x200008000000000000000000000000022) (sessReply_within _ _ _ _) (by decide))
      | (with_reducible apply Within.on (m := 0x200008000000000000000000000000022) (recount_within _) (by decide))
      | (with_reducible apply Within.on (m := 0x200008000000000000000000000000022) (setSess_within _ _ _) (by decide))
      | (with_reducible apply Within.on (m := 0x200008000000000000000000000000022) (sessRefuse_within _ _ _ _) (by decide))
      | fail_if_no_progress with_reducible apply Within.upd (by rw [pick_200008000000000000000000000000022])
      | with_reducible apply Within.of_fst (by assumption)
      | with_reducible apply Within.of_fst1 (by assumption)
      | split)

theorem sessModify_regs (s : State) (p : Sys2Proof.CmdPath) (num : Nat) (m : Sys2Proof.SessModify)
    {ks : List Field} (h1 : Reg.SCHED_READ_SUM_SUM ∈ ks) (h2 : Reg.SCHED_WRITE_SUM_SUM ∈ ks) (h3 :
    Reg.SESS_CMD_REJECT_COUNT ∈ ks) (h4 : Reg.SESS_CMD_REJECT_LAST_REASON ∈ ks) (h5 : Reg.SESS_COUNT_ACTIVE ∈ ks) (h6
    : Reg.SESS_COUNT_FENCING ∈ ks) : onlyRegs ks s (@State.sessModify s p num m) := by
  unfold State.sessModify
  repeat' (first
      | (with_reducible apply onlyRegs.rfl)
      | extract_lets
      | (with_reducible assumption)
      | (with_reducible exact List.mem_cons_self)
      | (with_reducible apply List.mem_cons_of_mem)
      | (with_reducible apply onlyRegs.keep (sessReply_within _ _ _ _) (by decide))
      | (with_reducible apply onlyRegs.on (recount_regs _ ?_ ?_ ?_ ?_))
      | (with_reducible apply onlyRegs.keep (setSess_within _ _ _) (by decide))
      | (with_reducible apply onlyRegs.on (sessRefuse_regs _ _ _ _ ?_ ?_))
      | fail_if_no_progress with_reducible apply onlyRegs.upd
      | with_reducible apply onlyRegs.of_fst (by assumption)
      | with_reducible apply onlyRegs.of_fst1 (by assumption)
      | split)

theorem sessFence_within (s : State) (p : Sys2Proof.CmdPath) (num : Nat) : Within
    0x200008000000000000000000000000022 s (@State.sessFence s p num) := by
  unfold State.sessFence
  repeat' (first
      | extract_lets
      | with_reducible apply Within.ite <;> intro _
      | with_reducible apply Within.rfl
      | (with_reducible apply Within.on (m := 0x200008000000000000000000000000022) (sessRefuse_within _ _ _ _) (by decide))
      | (with_reducible apply Within.on (m := 0x200008000000000000000000000000022) (recount_within _) (by decide))
      | (with_reducible apply Within.on (m := 0x200008000000000000000000000000022) (setSess_within _ _ _) (by decide))
      | (with_reducible apply Within.on (m := 0x200008000000000000000000000000022) (sessReply_within _ _ _ _) (by decide))
      | fail_if_no_progress with_reducible apply Within.upd (by rw [pick_200008000000000000000000000000022])
      | with_reducible apply Within.of_fst (by assumption)
      | with_reducible apply Within.of_fst1 (by assumption)
      | split
      | dsimp +zetaDelta only)

theorem sessFence_regs (s : State) (p : Sys2Proof.CmdPath) (num : Nat) {ks : List Field} (h1 :
    Reg.SCHED_READ_SUM_SUM ∈ ks) (h2 : Reg.SCHED_WRITE_SUM_SUM ∈ ks) (h3 : Reg.SESS_CMD_REJECT_COUNT ∈ ks) (h4 :
    Reg.SESS_CMD_REJECT_LAST_REASON ∈ ks) (h5 : Reg.SESS_COUNT_ACTIVE ∈ ks) (h6 : Reg.SESS_COUNT_FENCING ∈ ks) :
    onlyRegs ks s (@State.sessFence s p num) := by
  unfold State.sessFence
  repeat' (first
      | (with_reducible apply onlyRegs.rfl)
      | extract_lets
      | (with_reducible assumption)
      | (with_reducible exact List.mem_cons_self)
      | (with_reducible apply List.mem_cons_of_mem)
      | (with_reducible apply onlyRegs.ite <;> intro _)
      | (with_reducible apply onlyRegs.on (sessRefuse_regs _ _ _ _ ?_ ?_))
      | (with_reducible apply onlyRegs.on (recount_regs _ ?_ ?_ ?_ ?_))
      | (with_reducible apply onlyRegs.keep (setSess_within _ _ _) (by decide))
      | (with_reducible apply onlyRegs.keep (sessReply_within _ _ _ _) (by decide))
      | fail_if_no_progress with_reducible apply onlyRegs.upd
      | with_reducible apply onlyRegs.of_fst (by assumption)
      | with_reducible apply onlyRegs.of_fst1 (by assumption)
      | split
      | dsimp +zetaDelta only)

theorem sessGet_within (s : State) (p : Sys2Proof.CmdPath) (num : Nat) : Within
    0x200000000000000000000000000000022 s (@State.sessGet s p num) := by
  unfold State.sessGet
  repeat' (first
      | extract_lets
      | with_reducible apply Within.ite <;> intro _
      | with_reducible apply Within.rfl
      | (with_reducible apply Within.on (m := 0x200000000000000000000000000000022) (sessRefuse_within _ _ _ _) (by decide))
      | (with_reducible apply Within.on (m := 0x200000000000000000000000000000022) (reply_within _ _ _ _ _) (by decide)))

theorem sessGet_regs (s : State) (p : Sys2Proof.CmdPath) (num : Nat) {ks : List Field} (h1 :
    Reg.SESS_CMD_REJECT_COUNT ∈ ks) (h2 : Reg.SESS_CMD_REJECT_LAST_REASON ∈ ks) : onlyRegs ks s
    (@State.sessGet s p num) := by
  unfold State.sessGet
  repeat' (first
      | (with_reducible apply onlyRegs.rfl)
      | extract_lets
      | (with_reducible assumption)
      | (with_reducible exact List.mem_cons_self)
      | (with_reducible apply List.mem_cons_of_mem)
      | (with_reducible apply onlyRegs.ite <;> intro _)
      | (with_reducible apply onlyRegs.on (sessRefuse_regs _ _ _ _ ?_ ?_))
      | (with_reducible apply onlyRegs.keep (reply_within _ _ _ _ _) (by decide)))

end Sys2Proof.Machine
end

