-- ==== Sys2Proof/Laws/PortFamilyFrames.lean ====
section
/-! SUPPORT. For each function of Machine/PortFamily.lean over the state: the part of the state outside which it changes
nothing (`…_within`), and the register fields that it may write (`…_regs`). -/

namespace Sys2Proof.Machine

set_option maxRecDepth 4000

theorem pick_100000000007fbcc00000000000000022 (s t : State) : State.pick 0x100000000007fbcc00000000000000022 s t = { s with
    regs := t.regs, out := t.out,
    chron := { s.chron with
      perm := t.chron.perm, ring := t.chron.ring, buffer := t.chron.buffer, nextSerial := t.chron.nextSerial,
      runs := t.chron.runs, dropped := t.chron.dropped },
    events := t.events, merge := { s.merge with capoCredits := t.merge.capoCredits } } := rfl

theorem failLookup_within (s : State) (m : Sys2Proof.M2S) (op : MemOp) : Within
    0x100000000007fbcc00000000000000022 s (@State.failLookup s m op) := by
  unfold State.failLookup
  repeat' (first
      | extract_lets
      | with_reducible apply Within.rfl
      | (with_reducible apply Within.on (m := 0x100000000007fbcc00000000000000022) (orphan_within _ _) (by decide))
      | (with_reducible apply Within.on (m := 0x100000000007fbcc00000000000000022) (respond_within _ _ _ _ _) (by decide))
      | (with_reducible apply Within.on (m := 0x100000000007fbcc00000000000000022) (returnCredit_within _ _ _ _) (by decide)))

theorem failLookup_regs (s : State) (m : Sys2Proof.M2S) (op : MemOp) {ks : List
    Field} (h1 : Reg.CHRON_DROP_CNT ∈ ks) (h2 : Reg.CHRON_REPEAT_CNT ∈ ks) (h3 : Reg.SESS_ORPHAN_CNT ∈ ks) : onlyRegs ks
    s (@State.failLookup s m op) := by
  unfold State.failLookup
  repeat' (first
      | (with_reducible apply onlyRegs.rfl)
      | extract_lets
      | (with_reducible assumption)
      | (with_reducible exact List.mem_cons_self)
      | (with_reducible apply List.mem_cons_of_mem)
      | (with_reducible apply onlyRegs.on (orphan_regs _ _ ?_ ?_ ?_))
      | (with_reducible apply onlyRegs.keep (respond_within _ _ _ _ _) (by decide))
      | (with_reducible apply onlyRegs.keep (returnCredit_within _ _ _ _) (by decide)))

theorem pick_4000000000000000000000000000000000000000000000000000000000000000000 (s t : State) : State.pick 0x4000000000000000000000000000000000000000000000000000000000000000000 s t = { s with
    telem := { s.telem with bwWrite := t.telem.bwWrite } } := rfl

theorem countRwd_within (s : State) (k : Nat) : Within
    0x4000000000000000000000000000000000000000000000000000000000000000000 s
    (@State.countRwd s k) := by
  unfold State.countRwd
  repeat' (first
      | with_reducible apply Within.ite <;> intro _
      | with_reducible apply Within.rfl
      | fail_if_no_progress with_reducible apply Within.upd (by rw [pick_4000000000000000000000000000000000000000000000000000000000000000000]))

theorem pick_800000000000000000000000000000000100008000007fbcc00000000000000022 (s t : State) : State.pick 0x800000000000000000000000000000000100008000007fbcc00000000000000022 s t = { s with
    regs := t.regs, out := t.out,
    chron := { s.chron with
      perm := t.chron.perm, ring := t.chron.ring, buffer := t.chron.buffer, nextSerial := t.chron.nextSerial,
      runs := t.chron.runs, dropped := t.chron.dropped },
    events := t.events, sessions := t.sessions, merge := { s.merge with capoCredits := t.merge.capoCredits },
    telem := { s.telem with counts := t.telem.counts } } := rfl

theorem receive_within (s : State) (m : Sys2Proof.M2S) (op : MemOp) : Within
    0x800000000000000000000000000000000100008000007fbcc00000000000000022 s
    (@State.receive s m op) := by
  unfold State.receive
  repeat' (first
      | extract_lets
      | with_reducible apply Within.ite <;> intro _
      | with_reducible apply Within.rfl
      | (with_reducible apply Within.on (m := 0x800000000000000000000000000000000100008000007fbcc00000000000000022) (tele_within _ _ _ _ _) (by decide))
      | (with_reducible apply Within.on (m := 0x800000000000000000000000000000000100008000007fbcc00000000000000022) (failLookup_within _ _ _) (by decide))
      | (with_reducible apply Within.on (m := 0x800000000000000000000000000000000100008000007fbcc00000000000000022) (enqueue_within _ _ _) (by decide))
      | with_reducible apply Within.of_fst (by assumption)
      | with_reducible apply Within.of_fst1 (by assumption)
      | split)

theorem receive_regs (s : State) (m : Sys2Proof.M2S) (op : MemOp) {ks : List
    Field} (h1 : Reg.CHRON_DROP_CNT ∈ ks) (h2 : Reg.CHRON_REPEAT_CNT ∈ ks) (h3 : Reg.SESS_HELD ∈ ks) (h4 :
    Reg.SESS_HOLD_CNT ∈ ks) (h5 : Reg.SESS_ORPHAN_CNT ∈ ks) (h6 : Reg.SESS_SPILL_STATUS_SHARED_FREE ∈ ks) (h7 :
    Reg.TELEM_BLK_OVF_OVF ∈ ks) : onlyRegs ks s (@State.receive s m op) := by
  unfold State.receive
  repeat' (first
      | (with_reducible apply onlyRegs.rfl)
      | extract_lets
      | (with_reducible assumption)
      | (with_reducible exact List.mem_cons_self)
      | (with_reducible apply List.mem_cons_of_mem)
      | (with_reducible apply onlyRegs.ite <;> intro _)
      | (with_reducible apply onlyRegs.on (tele_regs _ _ _ _ _ ?_))
      | (with_reducible apply onlyRegs.on (failLookup_regs _ _ _ ?_ ?_ ?_))
      | (with_reducible apply onlyRegs.on (enqueue_regs _ _ _ ?_ ?_ ?_))
      | with_reducible apply onlyRegs.of_fst (by assumption)
      | with_reducible apply onlyRegs.of_fst1 (by assumption)
      | split)

theorem readCell_within (s : State) (cell : Nat) (hbm : Sys2Proof.HbmErr) : Within
    0x800000000000000000000000000000000000000000007fbcc00000000000000022 s
    (@State.readCell s cell hbm).1 := by
  unfold State.readCell
  repeat' (first
      | with_reducible apply Within.rfl
      | (with_reducible apply Within.on (m := 0x800000000000000000000000000000000000000000007fbcc00000000000000022) (correctedVol_within _ _ _) (by decide))
      | (with_reducible apply Within.on (m := 0x800000000000000000000000000000000000000000007fbcc00000000000000022) (detected_within _ _ _) (by decide))
      | with_reducible apply Within.of_fst (by assumption)
      | with_reducible apply Within.of_fst1 (by assumption)
      | split)

theorem readCell_regs (s : State) (cell : Nat) (hbm : Sys2Proof.HbmErr) {ks : List Field} (h1 :
    Reg.CHRON_DROP_CNT ∈ ks) (h2 : Reg.CHRON_REPEAT_CNT ∈ ks) (h3 : Reg.ERR_BUCKET_STATUS_LEVEL ∈ ks) (h4 :
    Reg.ERR_BUCKET_STATUS_OVF_CNT ∈ ks) (h5 : Reg.ERR_CORR_VOL_CNT ∈ ks) (h6 : Reg.ERR_HEALTH_EVENT_BUCKET_OVF ∈ ks)
    (h7 : Reg.ERR_HEALTH_EVENT_UNCORR ∈ ks) (h8 : Reg.ERR_UNCORR_CNT ∈ ks) (h9 : Reg.TELEM_BLK_OVF_OVF ∈ ks) : onlyRegs
    ks s (@State.readCell s cell hbm).1 := by
  unfold State.readCell
  repeat' (first
      | (with_reducible apply onlyRegs.rfl)
      | (with_reducible assumption)
      | (with_reducible exact List.mem_cons_self)
      | (with_reducible apply List.mem_cons_of_mem)
      | (with_reducible apply onlyRegs.on (correctedVol_regs _ _ _ ?_ ?_ ?_ ?_ ?_ ?_ ?_))
      | (with_reducible apply onlyRegs.on (detected_regs _ _ _ ?_ ?_ ?_ ?_))
      | with_reducible apply onlyRegs.of_fst (by assumption)
      | with_reducible apply onlyRegs.of_fst1 (by assumption)
      | split)

theorem pick_400000000000000000000000000000 (s t : State) : State.pick 0x400000000000000000000000000000 s t = { s with
    merge := { s.merge with cells := t.merge.cells } } := rfl

theorem freeCell_within (s : State) (cell : Nat) : Within 0x400000000000000000000000000000 s
    (@State.freeCell s cell) := by
  unfold State.freeCell
  repeat' (first
      | with_reducible apply Within.rfl
      | fail_if_no_progress with_reducible apply Within.upd (by rw [pick_400000000000000000000000000000]))

theorem pick_8000010000000000000000000000000000 (s t : State) : State.pick 0x8000010000000000000000000000000000 s t = { s with
    reqs := t.reqs, cache := { s.cache with fills := t.cache.fills } } := rfl

theorem overtake_within (s : State) (line : Nat) : Within 0x8000010000000000000000000000000000 s
    (@State.overtake s line) := by
  unfold State.overtake
  repeat' (first
      | with_reducible apply Within.rfl
      | fail_if_no_progress with_reducible apply Within.upd (by rw [pick_8000010000000000000000000000000000]))

theorem pick_31c000010000000000000000000000000002 (s t : State) : State.pick 0x31c000010000000000000000000000000002 s t = { s with
    regs := t.regs, reqs := t.reqs,
    cache := { s.cache with
      lines := t.cache.lines, fills := t.cache.fills, busy := t.cache.busy, dirPlru := t.cache.dirPlru,
      plru := t.cache.plru } } := rfl

theorem orderWrite_within (s : State) (slice : Nat) (w : WriteIn) : Within
    0x31c000010000000000000000000000000002 s (@State.orderWrite s slice w).1 := by
  unfold State.orderWrite
  repeat' (first
      | extract_lets
      | with_reducible apply Within.ite1 <;> intro _
      | with_reducible apply Within.rfl
      | (with_reducible apply Within.on (m := 0x31c000010000000000000000000000000002) (overtake_within _ _) (by decide))
      | (with_reducible apply Within.on (m := 0x31c000010000000000000000000000000002) (touchDir_within _ _) (by decide))
      | (with_reducible apply Within.on (m := 0x31c000010000000000000000000000000002) (dropOthers_within _ _ _) (by decide))
      | (with_reducible apply Within.on (m := 0x31c000010000000000000000000000000002) (dropSlice_within _ _ _) (by decide))
      | (with_reducible apply Within.on (m := 0x31c000010000000000000000000000000002) (touchWay_within _ _ _ _) (by decide))
      | (with_reducible apply Within.on (m := 0x31c000010000000000000000000000000002) (putSlice_within _ _ _ _) (by decide))
      | fail_if_no_progress with_reducible apply Within.upd (by rw [pick_31c000010000000000000000000000000002])
      | with_reducible apply Within.of_fst (by assumption)
      | with_reducible apply Within.of_fst1 (by assumption)
      | split)

theorem orderWrite_regs (s : State) (slice : Nat) (w : WriteIn) {ks : List Field}
    (h1 : Reg.DIR_SLICE_STATUS_ENTRIES ∈ ks) : onlyRegs ks s (@State.orderWrite s slice w).1 := by
  unfold State.orderWrite
  repeat' (first
      | (with_reducible apply onlyRegs.rfl)
      | extract_lets
      | (with_reducible assumption)
      | (with_reducible exact List.mem_cons_self)
      | (with_reducible apply List.mem_cons_of_mem)
      | (with_reducible apply onlyRegs.ite1 <;> intro _)
      | (with_reducible apply onlyRegs.keep (overtake_within _ _) (by decide))
      | (with_reducible apply onlyRegs.keep (touchDir_within _ _) (by decide))
      | (with_reducible apply onlyRegs.on (dropOthers_regs _ _ _ ?_))
      | (with_reducible apply onlyRegs.on (dropSlice_regs _ _ _ ?_))
      | (with_reducible apply onlyRegs.keep (touchWay_within _ _ _ _) (by decide))
      | (with_reducible apply onlyRegs.on (putSlice_regs _ _ _ _ ?_))
      | fail_if_no_progress with_reducible apply onlyRegs.upd
      | with_reducible apply onlyRegs.of_fst (by assumption)
      | with_reducible apply onlyRegs.of_fst1 (by assumption)
      | split)

theorem pick_300000200800031c000638000000000060000000000000002 (s t : State) : State.pick 0x300000200800031c000638000000000060000000000000002 s t = { s with
    regs := t.regs, keep := { s.keep with bytes := t.keep.bytes, byteLines := t.keep.byteLines },
    sessions := t.sessions, reqs := t.reqs, nextRid := t.nextRid,
    merge := { s.merge with entries := t.merge.entries, cells := t.merge.cells },
    cache := { s.cache with
      lines := t.cache.lines, fills := t.cache.fills, busy := t.cache.busy, dirPlru := t.cache.dirPlru,
      plru := t.cache.plru },
    sched := { s.sched with jobs := t.sched.jobs }, xlat := { s.xlat with tracts := t.xlat.tracts },
    err := { s.err with poison := t.err.poison, poisonLost := t.err.poisonLost } } := rfl

theorem passWrite_within (s : State) (d : Desc) (w : WriteIn)
    (set : Nat) (drop : Option Nat) : Within 0x300000200800031c000638000000000060000000000000002 s
    (@State.passWrite s d w set drop) := by
  unfold State.passWrite
  repeat' (first
      | extract_lets
      | with_reducible apply Within.rfl
      | (with_reducible apply Within.on (m := 0x300000200800031c000638000000000060000000000000002) (dropEntry_within _ _) (by decide))
      | (with_reducible apply Within.on (m := 0x300000200800031c000638000000000060000000000000002) (orderWrite_within _ _ _) (by decide))
      | (with_reducible apply Within.on (m := 0x300000200800031c000638000000000060000000000000002) (mergeWrite_within _ _ _) (by decide))
      | (with_reducible apply Within.on (m := 0x300000200800031c000638000000000060000000000000002) (freeCell_within _ _) (by decide))
      | (with_reducible apply Within.on (m := 0x300000200800031c000638000000000060000000000000002) (takeTracker_within _ _) (by decide))
      | with_reducible apply Within.of_fst (by assumption)
      | with_reducible apply Within.of_fst1 (by assumption)
      | split
      | dsimp +zetaDelta only)

theorem passWrite_regs (s : State) (d : Desc) (w : WriteIn)
    (set : Nat) (drop : Option Nat) {ks : List Field} (h1 : Reg.DIR_SLICE_STATUS_ENTRIES ∈ ks) (h2 :
    Reg.ERR_HEALTH_EVENT_POISON_FULL ∈ ks) (h3 : Reg.ERR_POISON_LIST_OVERFLOW ∈ ks) (h4 : Reg.ERR_POISON_LIST_RECORDS
    ∈ ks) (h5 : Reg.MERGE_MERGE_CNT ∈ ks) (h6 : Reg.MERGE_PARTIAL_LINES ∈ ks) (h7 : Reg.MERGE_SETTLE_REFETCH_CNT ∈ ks)
    (h8 : Reg.MERGE_SETTLING_LINES ∈ ks) (h9 : Reg.MERGE_STATUS_DIRTY ∈ ks) (h10 : Reg.MERGE_STATUS_LIMIT ∈ ks) (h11 :
    Reg.PORT_INFLIGHT_LINK0 ∈ ks) (h12 : Reg.PORT_INFLIGHT_LINK1 ∈ ks) (h13 : Reg.PORT_INFLIGHT_PEAK_LINK0 ∈ ks) (h14
    : Reg.PORT_INFLIGHT_PEAK_LINK1 ∈ ks) (h15 : Reg.XLAT_PINNED_LINES ∈ ks) : onlyRegs ks s
    (@State.passWrite s d w set drop) := by
  unfold State.passWrite
  repeat' (first
      | (with_reducible apply onlyRegs.rfl)
      | extract_lets
      | (with_reducible assumption)
      | (with_reducible exact List.mem_cons_self)
      | (with_reducible apply List.mem_cons_of_mem)
      | (with_reducible apply onlyRegs.keep (dropEntry_within _ _) (by decide))
      | (with_reducible apply onlyRegs.on (orderWrite_regs _ _ _ ?_))
      | (with_reducible apply onlyRegs.on (mergeWrite_regs _ _ _ ?_ ?_ ?_ ?_ ?_ ?_ ?_ ?_ ?_ ?_))
      | (with_reducible apply onlyRegs.keep (freeCell_within _ _) (by decide))
      | (with_reducible apply onlyRegs.on (takeTracker_regs _ _ ?_ ?_ ?_ ?_))
      | with_reducible apply onlyRegs.of_fst (by assumption)
      | with_reducible apply onlyRegs.of_fst1 (by assumption)
      | split
      | dsimp +zetaDelta only)

theorem pick_80000000000000000300000200800031c000638000007fbcc60000000000000022 (s t : State) : State.pick 0x80000000000000000300000200800031c000638000007fbcc60000000000000022 s t = { s with
    regs := t.regs, out := t.out, keep := { s.keep with bytes := t.keep.bytes, byteLines := t.keep.byteLines },
    chron := { s.chron with
      perm := t.chron.perm, ring := t.chron.ring, buffer := t.chron.buffer, nextSerial := t.chron.nextSerial,
      runs := t.chron.runs, dropped := t.chron.dropped },
    events := t.events, sessions := t.sessions, reqs := t.reqs, nextRid := t.nextRid,
    merge := { s.merge with entries := t.merge.entries, cells := t.merge.cells },
    cache := { s.cache with
      lines := t.cache.lines, fills := t.cache.fills, busy := t.cache.busy, dirPlru := t.cache.dirPlru,
      plru := t.cache.plru },
    sched := { s.sched with jobs := t.sched.jobs }, xlat := { s.xlat with tracts := t.xlat.tracts },
    err := { s.err with poison := t.err.poison, poisonLost := t.err.poisonLost },
    telem := { s.telem with counts := t.telem.counts } } := rfl

theorem takeWriteBack_within (s : State) (d : Desc) : Within
    0x80000000000000000300000200800031c000638000007fbcc60000000000000022 s
    (@State.takeWriteBack s d) := by
  unfold State.takeWriteBack
  repeat' (first
      | extract_lets
      | with_reducible apply Within.rfl
      | (with_reducible apply Within.on (m := 0x80000000000000000300000200800031c000638000007fbcc60000000000000022) (readCell_within _ _ _) (by decide))
      | (with_reducible apply Within.on (m := 0x80000000000000000300000200800031c000638000007fbcc60000000000000022) (passWrite_within _ _ _ _ _) (by decide))
      | with_reducible apply Within.of_fst (by assumption)
      | with_reducible apply Within.of_fst1 (by assumption)
      | split)

theorem takeWriteBack_regs (s : State) (d : Desc) {ks : List Field} (h1 :
    Reg.CHRON_DROP_CNT ∈ ks) (h2 : Reg.CHRON_REPEAT_CNT ∈ ks) (h3 : Reg.DIR_SLICE_STATUS_ENTRIES ∈ ks) (h4 :
    Reg.ERR_BUCKET_STATUS_LEVEL ∈ ks) (h5 : Reg.ERR_BUCKET_STATUS_OVF_CNT ∈ ks) (h6 : Reg.ERR_CORR_VOL_CNT ∈ ks) (h7 :
    Reg.ERR_HEALTH_EVENT_BUCKET_OVF ∈ ks) (h8 : Reg.ERR_HEALTH_EVENT_POISON_FULL ∈ ks) (h9 :
    Reg.ERR_HEALTH_EVENT_UNCORR ∈ ks) (h10 : Reg.ERR_POISON_LIST_OVERFLOW ∈ ks) (h11 : Reg.ERR_POISON_LIST_RECORDS ∈
    ks) (h12 : Reg.ERR_UNCORR_CNT ∈ ks) (h13 : Reg.MERGE_MERGE_CNT ∈ ks) (h14 : Reg.MERGE_PARTIAL_LINES ∈ ks) (h15 :
    Reg.MERGE_SETTLE_REFETCH_CNT ∈ ks) (h16 : Reg.MERGE_SETTLING_LINES ∈ ks) (h17 : Reg.MERGE_STATUS_DIRTY ∈ ks) (h18
    : Reg.MERGE_STATUS_LIMIT ∈ ks) (h19 : Reg.PORT_INFLIGHT_LINK0 ∈ ks) (h20 : Reg.PORT_INFLIGHT_LINK1 ∈ ks) (h21 :
    Reg.PORT_INFLIGHT_PEAK_LINK0 ∈ ks) (h22 : Reg.PORT_INFLIGHT_PEAK_LINK1 ∈ ks) (h23 : Reg.TELEM_BLK_OVF_OVF ∈ ks)
    (h24 : Reg.XLAT_PINNED_LINES ∈ ks) : onlyRegs ks s (@State.takeWriteBack s d) := by
  unfold State.takeWriteBack
  repeat' (first
      | (with_reducible apply onlyRegs.rfl)
      | extract_lets
      | (with_reducible assumption)
      | (with_reducible exact List.mem_cons_self)
      | (with_reducible apply List.mem_cons_of_mem)
      | (with_reducible apply onlyRegs.on (readCell_regs _ _ _ ?_ ?_ ?_ ?_ ?_ ?_ ?_ ?_ ?_))
      | (with_reducible apply onlyRegs.on (passWrite_regs _ _ _ _ _ ?_ ?_ ?_ ?_ ?_ ?_ ?_ ?_ ?_ ?_ ?_ ?_ ?_ ?_ ?_))
      | with_reducible apply onlyRegs.of_fst (by assumption)
      | with_reducible apply onlyRegs.of_fst1 (by assumption)
      | split)

theorem pick_80000000000000000300000200800031c100638000007fbcc60000000000000022 (s t : State) : State.pick 0x80000000000000000300000200800031c100638000007fbcc60000000000000022 s t = { s with
    regs := t.regs, out := t.out, keep := { s.keep with bytes := t.keep.bytes, byteLines := t.keep.byteLines },
    chron := { s.chron with
      perm := t.chron.perm, ring := t.chron.ring, buffer := t.chron.buffer, nextSerial := t.chron.nextSerial,
      runs := t.chron.runs, dropped := t.chron.dropped },
    events := t.events, sessions := t.sessions, reqs := t.reqs, nextRid := t.nextRid,
    merge := { s.merge with
      entries := t.merge.entries, cells := t.merge.cells, capoCredits := t.merge.capoCredits },
    cache := { s.cache with
      lines := t.cache.lines, fills := t.cache.fills, busy := t.cache.busy, dirPlru := t.cache.dirPlru,
      plru := t.cache.plru },
    sched := { s.sched with jobs := t.sched.jobs }, xlat := { s.xlat with tracts := t.xlat.tracts },
    err := { s.err with poison := t.err.poison, poisonLost := t.err.poisonLost },
    telem := { s.telem with counts := t.telem.counts } } := rfl

theorem writeBack_within (s : State) (d : Desc) (data : Sys2Proof.LineData) :
    Within 0x80000000000000000300000200800031c100638000007fbcc60000000000000022 s
    (@State.writeBack s d data) := by
  unfold State.writeBack
  repeat' (first
      | extract_lets
      | with_reducible apply Within.ite <;> intro _
      | with_reducible apply Within.rfl
      | (with_reducible apply Within.on (m := 0x80000000000000000300000200800031c100638000007fbcc60000000000000022) (takeWriteBack_within _ _) (by decide))
      | (with_reducible apply Within.on (m := 0x80000000000000000300000200800031c100638000007fbcc60000000000000022) (retainLane_within _ _ _ _) (by decide))
      | (with_reducible apply Within.on (m := 0x80000000000000000300000200800031c100638000007fbcc60000000000000022) (forwardBack_within _ _ _ _ _) (by decide))
      | (with_reducible apply Within.on (m := 0x80000000000000000300000200800031c100638000007fbcc60000000000000022) (returnCredit_within _ _ _ _) (by decide))
      | (with_reducible apply Within.foldl; intro t x))

theorem writeBack_regs (s : State) (d : Desc) (data : Sys2Proof.LineData) {ks :
    List Field} (h1 : Reg.CHRON_DROP_CNT ∈ ks) (h2 : Reg.CHRON_REPEAT_CNT ∈ ks) (h3 : Reg.DIR_FWD_CNT ∈ ks) (h4 :
    Reg.DIR_SLICE_STATUS_ENTRIES ∈ ks) (h5 : Reg.ERR_BUCKET_STATUS_LEVEL ∈ ks) (h6 : Reg.ERR_BUCKET_STATUS_OVF_CNT ∈
    ks) (h7 : Reg.ERR_CORR_VOL_CNT ∈ ks) (h8 : Reg.ERR_HEALTH_EVENT_BUCKET_OVF ∈ ks) (h9 :
    Reg.ERR_HEALTH_EVENT_POISON_FULL ∈ ks) (h10 : Reg.ERR_HEALTH_EVENT_UNCORR ∈ ks) (h11 :
    Reg.ERR_POISON_LIST_OVERFLOW ∈ ks) (h12 : Reg.ERR_POISON_LIST_RECORDS ∈ ks) (h13 : Reg.ERR_UNCORR_CNT ∈ ks) (h14 :
    Reg.MERGE_MERGE_CNT ∈ ks) (h15 : Reg.MERGE_PARTIAL_LINES ∈ ks) (h16 : Reg.MERGE_SETTLE_REFETCH_CNT ∈ ks) (h17 :
    Reg.MERGE_SETTLING_LINES ∈ ks) (h18 : Reg.MERGE_STATUS_DIRTY ∈ ks) (h19 : Reg.MERGE_STATUS_LIMIT ∈ ks) (h20 :
    Reg.PORT_INFLIGHT_LINK0 ∈ ks) (h21 : Reg.PORT_INFLIGHT_LINK1 ∈ ks) (h22 : Reg.PORT_INFLIGHT_PEAK_LINK0 ∈ ks) (h23
    : Reg.PORT_INFLIGHT_PEAK_LINK1 ∈ ks) (h24 : Reg.SESS_SPILL_STATUS_SHARED_FREE ∈ ks) (h25 : Reg.TELEM_BLK_OVF_OVF ∈
    ks) (h26 : Reg.XLAT_PINNED_LINES ∈ ks) : onlyRegs ks s (@State.writeBack s d data) := by
  unfold State.writeBack
  repeat' (first
      | (with_reducible apply onlyRegs.rfl)
      | extract_lets
      | (with_reducible assumption)
      | (with_reducible exact List.mem_cons_self)
      | (with_reducible apply List.mem_cons_of_mem)
      | (with_reducible apply onlyRegs.ite <;> intro _)
      | (with_reducible apply onlyRegs.on (takeWriteBack_regs _ _ ?_ ?_ ?_ ?_ ?_ ?_ ?_ ?_ ?_ ?_ ?_ ?_ ?_ ?_ ?_ ?_ ?_ ?_ ?_ ?_ ?_ ?_ ?_ ?_))
      | (with_reducible apply onlyRegs.on (retainLane_regs _ _ _ _ ?_))
      | (with_reducible apply onlyRegs.on (forwardBack_regs _ _ _ _ _ ?_ ?_ ?_ ?_ ?_))
      | (with_reducible apply onlyRegs.keep (returnCredit_within _ _ _ _) (by decide))
      | (with_reducible apply onlyRegs.foldl; intro t x))

theorem pick_480000000000000000300000200800031c100638000007fbcc60000000000000022 (s t : State) : State.pick 0x480000000000000000300000200800031c100638000007fbcc60000000000000022 s t = { s with
    regs := t.regs, out := t.out, keep := { s.keep with bytes := t.keep.bytes, byteLines := t.keep.byteLines },
    chron := { s.chron with
      perm := t.chron.perm, ring := t.chron.ring, buffer := t.chron.buffer, nextSerial := t.chron.nextSerial,
      runs := t.chron.runs, dropped := t.chron.dropped },
    events := t.events, sessions := t.sessions, reqs := t.reqs, nextRid := t.nextRid,
    merge := { s.merge with
      entries := t.merge.entries, cells := t.merge.cells, capoCredits := t.merge.capoCredits },
    cache := { s.cache with
      lines := t.cache.lines, fills := t.cache.fills, busy := t.cache.busy, dirPlru := t.cache.dirPlru,
      plru := t.cache.plru },
    sched := { s.sched with jobs := t.sched.jobs }, xlat := { s.xlat with tracts := t.xlat.tracts },
    err := { s.err with poison := t.err.poison, poisonLost := t.err.poisonLost },
    telem := { s.telem with counts := t.telem.counts, bwWrite := t.telem.bwWrite } } := rfl

theorem receiveWrite_within (s : State) (m : Sys2Proof.M2S) (op : MemOp) (data :
    Sys2Proof.LineData) (be : Sys2Proof.Mask) (poison : Bool) : Within
    0x480000000000000000300000200800031c100638000007fbcc60000000000000022 s
    (@State.receiveWrite s m op data be poison) := by
  unfold State.receiveWrite
  repeat' (first
      | extract_lets
      | with_reducible apply Within.ite <;> intro _
      | with_reducible apply Within.rfl
      | (with_reducible apply Within.on (m := 0x480000000000000000300000200800031c100638000007fbcc60000000000000022) (countRwd_within _ _) (by decide))
      | (with_reducible apply Within.on (m := 0x480000000000000000300000200800031c100638000007fbcc60000000000000022) (tele_within _ _ _ _ _) (by decide))
      | (with_reducible apply Within.on (m := 0x480000000000000000300000200800031c100638000007fbcc60000000000000022) (failLookup_within _ _ _) (by decide))
      | (with_reducible apply Within.on (m := 0x480000000000000000300000200800031c100638000007fbcc60000000000000022) (writeBack_within _ _ _) (by decide))
      | (with_reducible apply Within.on (m := 0x480000000000000000300000200800031c100638000007fbcc60000000000000022) (enqueue_within _ _ _) (by decide))
      | fail_if_no_progress with_reducible apply Within.upd (by rw [pick_480000000000000000300000200800031c100638000007fbcc60000000000000022])
      | with_reducible apply Within.of_fst (by assumption)
      | with_reducible apply Within.of_fst1 (by assumption)
      | split)

theorem receiveWrite_regs (s : State) (m : Sys2Proof.M2S) (op : MemOp) (data :
    Sys2Proof.LineData) (be : Sys2Proof.Mask) (poison : Bool) {ks : List Field} (h1 : Reg.CHRON_DROP_CNT ∈ ks) (h2 :
    Reg.CHRON_REPEAT_CNT ∈ ks) (h3 : Reg.DIR_FWD_CNT ∈ ks) (h4 : Reg.DIR_SLICE_STATUS_ENTRIES ∈ ks) (h5 :
    Reg.ERR_BUCKET_STATUS_LEVEL ∈ ks) (h6 : Reg.ERR_BUCKET_STATUS_OVF_CNT ∈ ks) (h7 : Reg.ERR_CORR_VOL_CNT ∈ ks) (h8 :
    Reg.ERR_HEALTH_EVENT_BUCKET_OVF ∈ ks) (h9 : Reg.ERR_HEALTH_EVENT_POISON_FULL ∈ ks) (h10 :
    Reg.ERR_HEALTH_EVENT_UNCORR ∈ ks) (h11 : Reg.ERR_POISON_LIST_OVERFLOW ∈ ks) (h12 : Reg.ERR_POISON_LIST_RECORDS ∈
    ks) (h13 : Reg.ERR_UNCORR_CNT ∈ ks) (h14 : Reg.MERGE_MERGE_CNT ∈ ks) (h15 : Reg.MERGE_PARTIAL_LINES ∈ ks) (h16 :
    Reg.MERGE_SETTLE_REFETCH_CNT ∈ ks) (h17 : Reg.MERGE_SETTLING_LINES ∈ ks) (h18 : Reg.MERGE_STATUS_DIRTY ∈ ks) (h19
    : Reg.MERGE_STATUS_LIMIT ∈ ks) (h20 : Reg.PORT_INFLIGHT_LINK0 ∈ ks) (h21 : Reg.PORT_INFLIGHT_LINK1 ∈ ks) (h22 :
    Reg.PORT_INFLIGHT_PEAK_LINK0 ∈ ks) (h23 : Reg.PORT_INFLIGHT_PEAK_LINK1 ∈ ks) (h24 : Reg.SESS_HELD ∈ ks) (h25 :
    Reg.SESS_HOLD_CNT ∈ ks) (h26 : Reg.SESS_ORPHAN_CNT ∈ ks) (h27 : Reg.SESS_SPILL_STATUS_SHARED_FREE ∈ ks) (h28 :
    Reg.TELEM_BLK_OVF_OVF ∈ ks) (h29 : Reg.XLAT_PINNED_LINES ∈ ks) : onlyRegs ks s
    (@State.receiveWrite s m op data be poison) := by
  unfold State.receiveWrite
  repeat' (first
      | (with_reducible apply onlyRegs.rfl)
      | extract_lets
      | (with_reducible assumption)
      | (with_reducible exact List.mem_cons_self)
      | (with_reducible apply List.mem_cons_of_mem)
      | (with_reducible apply onlyRegs.ite <;> intro _)
      | (with_reducible apply onlyRegs.keep (countRwd_within _ _) (by decide))
      | (with_reducible apply onlyRegs.on (tele_regs _ _ _ _ _ ?_))
      | (with_reducible apply onlyRegs.on (failLookup_regs _ _ _ ?_ ?_ ?_))
      | (with_reducible apply onlyRegs.on (writeBack_regs _ _ _ ?_ ?_ ?_ ?_ ?_ ?_ ?_ ?_ ?_ ?_ ?_ ?_ ?_ ?_ ?_ ?_ ?_ ?_ ?_ ?_ ?_ ?_ ?_ ?_ ?_ ?_))
      | (with_reducible apply onlyRegs.on (enqueue_regs _ _ _ ?_ ?_ ?_))
      | fail_if_no_progress with_reducible apply onlyRegs.upd
      | with_reducible apply onlyRegs.of_fst (by assumption)
      | with_reducible apply onlyRegs.of_fst1 (by assumption)
      | split)

theorem pick_1000000000000000000000000000000000002 (s t : State) : State.pick 0x1000000000000000000000000000000000002 s t = { s with
    regs := t.regs, cache := { s.cache with rc := t.cache.rc } } := rfl

theorem rcFill_within (s : State) (line : Nat) (epoch : Nat) (data : Sys2Proof.LineData) : Within
    0x1000000000000000000000000000000000002 s (@State.rcFill s line epoch data) := by
  unfold State.rcFill
  repeat' (first
      | with_reducible apply Within.rfl
      | (with_reducible apply Within.on (m := 0x1000000000000000000000000000000000002) (bump_within _ _ _ _ _) (by decide))
      | fail_if_no_progress with_reducible apply Within.upd (by rw [pick_1000000000000000000000000000000000002]))

theorem rcFill_regs (s : State) (line : Nat) (epoch : Nat) (data : Sys2Proof.LineData) {ks : List
    Field} (h1 : Reg.CACHE_RC_FILL_CNT ∈ ks) : onlyRegs ks s (@State.rcFill s line epoch data) := by
  unfold State.rcFill
  repeat' (first
      | (with_reducible apply onlyRegs.rfl)
      | (with_reducible assumption)
      | (with_reducible exact List.mem_cons_self)
      | (with_reducible apply List.mem_cons_of_mem)
      | (with_reducible apply onlyRegs.on (bump_regs _ _ _ _ _ ?_))
      | fail_if_no_progress with_reducible apply onlyRegs.upd)

theorem specFill_within (s : State) (line : Nat) (class4 : Bool) : Within
    0x1000000000000000000000000000000000002 s (@State.specFill s line class4) := by
  unfold State.specFill
  repeat' (first
      | with_reducible apply Within.ite <;> intro _
      | with_reducible apply Within.rfl
      | (with_reducible apply Within.on (m := 0x1000000000000000000000000000000000002) (rcFill_within _ _ _ _) (by decide))
      | with_reducible apply Within.of_fst (by assumption)
      | with_reducible apply Within.of_fst1 (by assumption)
      | split)

theorem specFill_regs (s : State) (line : Nat) (class4 : Bool) {ks : List Field} (h1 :
    Reg.CACHE_RC_FILL_CNT ∈ ks) : onlyRegs ks s (@State.specFill s line class4) := by
  unfold State.specFill
  repeat' (first
      | (with_reducible apply onlyRegs.rfl)
      | (with_reducible assumption)
      | (with_reducible exact List.mem_cons_self)
      | (with_reducible apply List.mem_cons_of_mem)
      | (with_reducible apply onlyRegs.ite <;> intro _)
      | (with_reducible apply onlyRegs.on (rcFill_regs _ _ _ _ ?_))
      | with_reducible apply onlyRegs.of_fst (by assumption)
      | with_reducible apply onlyRegs.of_fst1 (by assumption)
      | split)

theorem pick_74004000000000000000000000000000000022 (s t : State) : State.pick 0x74004000000000000000000000000000000022 s t = { s with
    regs := t.regs, out := t.out,
    cache := { s.cache with
      lines := t.cache.lines, host := t.cache.host, snoops := t.cache.snoops, clock := t.cache.clock,
      biCredits := t.cache.biCredits } } := rfl

theorem sweepInternal_within (s : State) : Within 0x74004000000000000000000000000000000022 s
    (@State.sweepInternal s) := by
  unfold State.sweepInternal
  repeat' (first
      | extract_lets
      | with_reducible apply Within.ite <;> intro _
      | with_reducible apply Within.rfl
      | (with_reducible apply Within.on (m := 0x74004000000000000000000000000000000022) (dropHost_within _ _) (by decide))
      | (with_reducible apply Within.on (m := 0x74004000000000000000000000000000000022) (startSnoop_within _ _ _ _ _ _) (by decide))
      | (with_reducible apply Within.on (m := 0x74004000000000000000000000000000000022) (sliceCount_within _) (by decide))
      | (with_reducible apply Within.foldl; intro t x)
      | fail_if_no_progress with_reducible apply Within.upd (by rw [pick_74004000000000000000000000000000000022])
      | with_reducible apply Within.of_fst (by assumption)
      | with_reducible apply Within.of_fst1 (by assumption)
      | split)

theorem sweepInternal_regs (s : State) {ks : List Field} (h1 : Reg.DIR_BCAST_CNT ∈ ks) (h2 :
    Reg.DIR_BISNP_CNT ∈ ks) (h3 : Reg.DIR_EVBUF_USED ∈ ks) (h4 : Reg.DIR_HOST_OVF_ENTRIES ∈ ks) (h5 :
    Reg.DIR_HOST_STATUS_ENTRIES ∈ ks) (h6 : Reg.DIR_SLICE_STATUS_ENTRIES ∈ ks) : onlyRegs ks s
    (@State.sweepInternal s) := by
  unfold State.sweepInternal
  repeat' (first
      | (with_reducible apply onlyRegs.rfl)
      | extract_lets
      | (with_reducible assumption)
      | (with_reducible exact List.mem_cons_self)
      | (with_reducible apply List.mem_cons_of_mem)
      | (with_reducible apply onlyRegs.ite <;> intro _)
      | (with_reducible apply onlyRegs.on (dropHost_regs _ _ ?_ ?_ ?_))
      | (with_reducible apply onlyRegs.on (startSnoop_regs _ _ _ _ _ _ ?_ ?_ ?_ ?_ ?_))
      | (with_reducible apply onlyRegs.on (sliceCount_regs _ ?_))
      | (with_reducible apply onlyRegs.foldl; intro t x)
      | fail_if_no_progress with_reducible apply onlyRegs.upd
      | with_reducible apply onlyRegs.of_fst (by assumption)
      | with_reducible apply onlyRegs.of_fst1 (by assumption)
      | split)

theorem pick_f4004000000000000000000000000000000022 (s t : State) : State.pick 0xf4004000000000000000000000000000000022 s t = { s with
    regs := t.regs, out := t.out,
    cache := { s.cache with
      lines := t.cache.lines, host := t.cache.host, snoops := t.cache.snoops, clock := t.cache.clock,
      biCredits := t.cache.biCredits },
    internals := t.internals } := rfl

theorem queueInternal_within (s : State) (i : Internal) : Within
    0xf4004000000000000000000000000000000022 s (@State.queueInternal s i) := by
  unfold State.queueInternal
  repeat' (first
      | extract_lets
      | with_reducible apply Within.ite <;> intro _
      | with_reducible apply Within.rfl
      | (with_reducible apply Within.on (m := 0xf4004000000000000000000000000000000022) (sweepInternal_within _) (by decide))
      | fail_if_no_progress with_reducible apply Within.upd (by rw [pick_f4004000000000000000000000000000000022]))

theorem queueInternal_regs (s : State) (i : Internal) {ks : List Field} (h1 :
    Reg.DIR_BCAST_CNT ∈ ks) (h2 : Reg.DIR_BISNP_CNT ∈ ks) (h3 : Reg.DIR_EVBUF_USED ∈ ks) (h4 :
    Reg.DIR_HOST_OVF_ENTRIES ∈ ks) (h5 : Reg.DIR_HOST_STATUS_ENTRIES ∈ ks) (h6 : Reg.DIR_SLICE_STATUS_ENTRIES ∈ ks) :
    onlyRegs ks s (@State.queueInternal s i) := by
  unfold State.queueInternal
  repeat' (first
      | (with_reducible apply onlyRegs.rfl)
      | extract_lets
      | (with_reducible assumption)
      | (with_reducible exact List.mem_cons_self)
      | (with_reducible apply List.mem_cons_of_mem)
      | (with_reducible apply onlyRegs.ite <;> intro _)
      | (with_reducible apply onlyRegs.on (sweepInternal_regs _ ?_ ?_ ?_ ?_ ?_ ?_))
      | fail_if_no_progress with_reducible apply onlyRegs.upd)

theorem endInternal_within (s : State) : Within 0xf4004000000000000000000000000000000022 s
    (@State.endInternal s) := by
  unfold State.endInternal
  repeat' (first
      | with_reducible apply Within.rfl
      | (with_reducible apply Within.on (m := 0xf4004000000000000000000000000000000022) (sweepInternal_within _) (by decide))
      | fail_if_no_progress with_reducible apply Within.upd (by rw [pick_f4004000000000000000000000000000000022]))

theorem endInternal_regs (s : State) {ks : List Field} (h1 : Reg.DIR_BCAST_CNT ∈ ks) (h2 :
    Reg.DIR_BISNP_CNT ∈ ks) (h3 : Reg.DIR_EVBUF_USED ∈ ks) (h4 : Reg.DIR_HOST_OVF_ENTRIES ∈ ks) (h5 :
    Reg.DIR_HOST_STATUS_ENTRIES ∈ ks) (h6 : Reg.DIR_SLICE_STATUS_ENTRIES ∈ ks) : onlyRegs ks s
    (@State.endInternal s) := by
  unfold State.endInternal
  repeat' (first
      | (with_reducible apply onlyRegs.rfl)
      | (with_reducible assumption)
      | (with_reducible exact List.mem_cons_self)
      | (with_reducible apply List.mem_cons_of_mem)
      | (with_reducible apply onlyRegs.on (sweepInternal_regs _ ?_ ?_ ?_ ?_ ?_ ?_))
      | fail_if_no_progress with_reducible apply onlyRegs.upd)

theorem queueRelease_within (s : State) (base : Nat) (size : Nat) : Within
    0xf4004000000000000000000000000000000022 s (@State.queueRelease s base size) := by
  unfold State.queueRelease
  repeat' (first
      | extract_lets
      | with_reducible apply Within.rfl
      | (with_reducible apply Within.on (m := 0xf4004000000000000000000000000000000022) (queueInternal_within _ _) (by decide)))

theorem queueRelease_regs (s : State) (base : Nat) (size : Nat) {ks : List Field} (h1 :
    Reg.DIR_BCAST_CNT ∈ ks) (h2 : Reg.DIR_BISNP_CNT ∈ ks) (h3 : Reg.DIR_EVBUF_USED ∈ ks) (h4 :
    Reg.DIR_HOST_OVF_ENTRIES ∈ ks) (h5 : Reg.DIR_HOST_STATUS_ENTRIES ∈ ks) (h6 : Reg.DIR_SLICE_STATUS_ENTRIES ∈ ks) :
    onlyRegs ks s (@State.queueRelease s base size) := by
  unfold State.queueRelease
  repeat' (first
      | (with_reducible apply onlyRegs.rfl)
      | extract_lets
      | (with_reducible assumption)
      | (with_reducible exact List.mem_cons_self)
      | (with_reducible apply List.mem_cons_of_mem)
      | (with_reducible apply onlyRegs.on (queueInternal_regs _ _ ?_ ?_ ?_ ?_ ?_ ?_)))

theorem snoopRecord_within (s : State) (code : Nat) (sess : Nat) (line : Nat) : Within
    0x3cc00000000000000002 s (@State.snoopRecord s code sess line) := by
  unfold State.snoopRecord
  repeat' (first
      | with_reducible apply Within.rfl
      | (with_reducible apply Within.on (m := 0x3cc00000000000000002) (chronicle_within _ _ _ _ _) (by decide)))

theorem snoopRecord_regs (s : State) (code : Nat) (sess : Nat) (line : Nat) {ks : List Field} (h1 :
    Reg.CHRON_DROP_CNT ∈ ks) (h2 : Reg.CHRON_REPEAT_CNT ∈ ks) : onlyRegs ks s (@State.snoopRecord s
    code sess line) := by
  unfold State.snoopRecord
  repeat' (first
      | (with_reducible apply onlyRegs.rfl)
      | (with_reducible assumption)
      | (with_reducible exact List.mem_cons_self)
      | (with_reducible apply List.mem_cons_of_mem)
      | (with_reducible apply onlyRegs.on (chronicle_regs _ _ _ _ _ ?_ ?_)))

theorem pick_7fffc000000000000000000000000000000022 (s t : State) : State.pick 0x7fffc000000000000000000000000000000022 s t = { s with
    regs := t.regs, out := t.out, cache := t.cache } := rfl

theorem pushSnoops_within (s : State) : Within 0x7fffc000000000000000000000000000000022 s
    (@State.pushSnoops s) := by
  unfold State.pushSnoops
  repeat' (first
      | extract_lets
      | with_reducible apply Within.rfl
      | (with_reducible apply Within.on (m := 0x7fffc000000000000000000000000000000022) (sendSnoops_within _ _) (by decide))
      | (with_reducible apply Within.foldl1; intro t x)
      | fail_if_no_progress with_reducible apply Within.upd (by rw [pick_7fffc000000000000000000000000000000022]))

theorem pushSnoops_regs (s : State) {ks : List Field} (h1 : Reg.DIR_BISNP_CNT ∈ ks) : onlyRegs ks s
    (@State.pushSnoops s) := by
  unfold State.pushSnoops
  repeat' (first
      | (with_reducible apply onlyRegs.rfl)
      | extract_lets
      | (with_reducible assumption)
      | (with_reducible exact List.mem_cons_self)
      | (with_reducible apply List.mem_cons_of_mem)
      | (with_reducible apply onlyRegs.on (sendSnoops_regs _ _ ?_))
      | fail_if_no_progress with_reducible apply onlyRegs.upd
      | with_reducible apply onlyRegs.of_fst (by assumption)
      | (with_reducible apply onlyRegs.foldlP (π := Prod.fst); intro t x))

theorem setLink_within (s : State) (p : Nat) (l : Nat) (up : Nat) (rate : Nat) (width : Nat) (flit :
    Nat) (ide : Nat) : Within 2 s (@State.setLink s p l up rate width flit ide) := by
  unfold State.setLink
  repeat' (first
      | with_reducible apply Within.ite <;> intro _
      | with_reducible apply Within.rfl
      | (with_reducible apply Within.on (m := 2) (wr_within _ _ _ _ _) (by decide)))

theorem setLink_regs (s : State) (p : Nat) (l : Nat) (up : Nat) (rate : Nat) (width : Nat) (flit :
    Nat) (ide : Nat) {ks : List Field} (h1 : Reg.PORT_LINK_STATUS0_FLIT ∈ ks) (h2 : Reg.PORT_LINK_STATUS0_IDE ∈ ks)
    (h3 : Reg.PORT_LINK_STATUS0_RATE ∈ ks) (h4 : Reg.PORT_LINK_STATUS0_UP ∈ ks) (h5 : Reg.PORT_LINK_STATUS0_WIDTH ∈
    ks) (h6 : Reg.PORT_LINK_STATUS1_FLIT ∈ ks) (h7 : Reg.PORT_LINK_STATUS1_IDE ∈ ks) (h8 : Reg.PORT_LINK_STATUS1_RATE
    ∈ ks) (h9 : Reg.PORT_LINK_STATUS1_UP ∈ ks) (h10 : Reg.PORT_LINK_STATUS1_WIDTH ∈ ks) : onlyRegs ks s
    (@State.setLink s p l up rate width flit ide) := by
  unfold State.setLink
  repeat' (first
      | (with_reducible apply onlyRegs.rfl)
      | (with_reducible assumption)
      | (with_reducible exact List.mem_cons_self)
      | (with_reducible apply List.mem_cons_of_mem)
      | (with_reducible apply onlyRegs.ite <;> intro _)
      | (with_reducible apply onlyRegs.wr))

theorem setIde_within (s : State) (p : Nat) (l : Nat) (ide : Nat) : Within 2 s
    (@State.setIde s p l ide) := by
  unfold State.setIde
  repeat' (first
      | with_reducible apply Within.ite <;> intro _
      | with_reducible apply Within.rfl
      | (with_reducible apply Within.on (m := 2) (wr_within _ _ _ _ _) (by decide)))

theorem setIde_regs (s : State) (p : Nat) (l : Nat) (ide : Nat) {ks : List Field} (h1 :
    Reg.PORT_LINK_STATUS0_IDE ∈ ks) (h2 : Reg.PORT_LINK_STATUS1_IDE ∈ ks) : onlyRegs ks s
    (@State.setIde s p l ide) := by
  unfold State.setIde
  repeat' (first
      | (with_reducible apply onlyRegs.rfl)
      | (with_reducible assumption)
      | (with_reducible exact List.mem_cons_self)
      | (with_reducible apply List.mem_cons_of_mem)
      | (with_reducible apply onlyRegs.ite <;> intro _)
      | (with_reducible apply onlyRegs.wr))

theorem discardLink_within (s : State) (p : Nat) (l : Nat) : Within
    0x10000000000000000000000000000 s (@State.discardLink s p l) := by
  unfold State.discardLink
  repeat' (first
      | with_reducible apply Within.rfl
      | fail_if_no_progress with_reducible apply Within.upd (by rw [pick_10000000000000000000000000000]))

theorem pick_2000000000000000000000000000 (s t : State) : State.pick 0x2000000000000000000000000000 s t = { s with
    prot := { s.prot with ide := t.prot.ide } } := rfl

theorem loseKeys_within (s : State) (p : Nat) (l : Nat) : Within 0x2000000000000000000000000000 s
    (@State.loseKeys s p l) := by
  unfold State.loseKeys
  repeat' (first
      | with_reducible apply Within.rfl
      | fail_if_no_progress with_reducible apply Within.upd (by rw [pick_2000000000000000000000000000]))

theorem downSession_within (s : State) (n : Nat) (p : Nat) (l : Nat) : Within
    0x8000000000000000000000000002 s (@State.downSession s n p l) := by
  unfold State.downSession
  repeat' (first
      | extract_lets
      | with_reducible apply Within.rfl
      | (with_reducible apply Within.on (m := 0x8000000000000000000000000002) (retainLane_within _ _ _ _) (by decide))
      | (with_reducible apply Within.on (m := 0x8000000000000000000000000002) (setSess_within _ _ _) (by decide)))

theorem downSession_regs (s : State) (n : Nat) (p : Nat) (l : Nat) {ks : List Field} (h1 :
    Reg.SESS_SPILL_STATUS_SHARED_FREE ∈ ks) : onlyRegs ks s (@State.downSession s n p l) := by
  unfold State.downSession
  repeat' (first
      | (with_reducible apply onlyRegs.rfl)
      | extract_lets
      | (with_reducible assumption)
      | (with_reducible exact List.mem_cons_self)
      | (with_reducible apply List.mem_cons_of_mem)
      | (with_reducible apply onlyRegs.on (retainLane_regs _ _ _ _ ?_))
      | (with_reducible apply onlyRegs.keep (setSess_within _ _ _) (by decide)))

theorem pick_1c000000000000000000000000000000000000000100000000000000000000000000040 (s t : State) : State.pick 0x1c000000000000000000000000000000000000000100000000000000000000000000040 s t = { s with
    msixEn := t.msixEn, decoders := t.decoders, cfgSpace := t.cfgSpace, bar0 := t.bar0, d3 := t.d3 } := rfl

theorem resetConfig_within (s : State) (p : Nat) : Within
    0x1c000000000000000000000000000000000000000100000000000000000000000000040 s
    (@State.resetConfig s p) := by
  unfold State.resetConfig
  repeat' (first
      | with_reducible apply Within.rfl
      | fail_if_no_progress with_reducible apply Within.upd (by rw [pick_1c000000000000000000000000000000000000000100000000000000000000000000040]))

theorem pick_1c00000000000000000000000000000007fffc00011a000000000000000000000000042 (s t : State) : State.pick 0x1c00000000000000000000000000000007fffc00011a000000000000000000000000042 s t = { s with
    regs := t.regs, msixEn := t.msixEn, prot := { s.prot with ide := t.prot.ide }, sessions := t.sessions,
    reqs := t.reqs, decoders := t.decoders, cache := t.cache, cfgSpace := t.cfgSpace, bar0 := t.bar0, d3 := t.d3 } := rfl

theorem linkGone_within (s : State) (p : Nat) (l : Nat) : Within
    0x1c00000000000000000000000000000007fffc00011a000000000000000000000000042 s
    (@State.linkGone s p l) := by
  unfold State.linkGone
  repeat' (first
      | extract_lets
      | with_reducible apply Within.rfl
      | (with_reducible apply Within.on (m := 0x1c00000000000000000000000000000007fffc00011a000000000000000000000000042) (discardLink_within _ _ _) (by decide))
      | (with_reducible apply Within.on (m := 0x1c00000000000000000000000000000007fffc00011a000000000000000000000000042) (setLink_within _ _ _ _ _ _ _ _) (by decide))
      | (with_reducible apply Within.on (m := 0x1c00000000000000000000000000000007fffc00011a000000000000000000000000042) (setBit_within _ _ _ _ _) (by decide))
      | (with_reducible apply Within.on (m := 0x1c00000000000000000000000000000007fffc00011a000000000000000000000000042) (bump_within _ _ _ _ _) (by decide))
      | (with_reducible apply Within.on (m := 0x1c00000000000000000000000000000007fffc00011a000000000000000000000000042) (loseKeys_within _ _ _) (by decide))
      | (with_reducible apply Within.on (m := 0x1c00000000000000000000000000000007fffc00011a000000000000000000000000042) (downSession_within _ _ _ _) (by decide))
      | (with_reducible apply Within.on (m := 0x1c00000000000000000000000000000007fffc00011a000000000000000000000000042) (resetConfig_within _ _) (by decide))
      | (with_reducible apply Within.foldl; intro t x)
      | fail_if_no_progress with_reducible apply Within.upd (by rw [pick_1c00000000000000000000000000000007fffc00011a000000000000000000000000042]))

theorem linkGone_regs (s : State) (p : Nat) (l : Nat) {ks : List Field} (h1 :
    Reg.PORT_EVENT_LINK_DOWN ∈ ks) (h2 : Reg.PORT_LINKDOWN_CNT ∈ ks) (h3 : Reg.PORT_LINK_STATUS0_FLIT ∈ ks) (h4 :
    Reg.PORT_LINK_STATUS0_IDE ∈ ks) (h5 : Reg.PORT_LINK_STATUS0_RATE ∈ ks) (h6 : Reg.PORT_LINK_STATUS0_UP ∈ ks) (h7 :
    Reg.PORT_LINK_STATUS0_WIDTH ∈ ks) (h8 : Reg.PORT_LINK_STATUS1_FLIT ∈ ks) (h9 : Reg.PORT_LINK_STATUS1_IDE ∈ ks)
    (h10 : Reg.PORT_LINK_STATUS1_RATE ∈ ks) (h11 : Reg.PORT_LINK_STATUS1_UP ∈ ks) (h12 : Reg.PORT_LINK_STATUS1_WIDTH ∈
    ks) (h13 : Reg.SESS_SPILL_STATUS_SHARED_FREE ∈ ks) : onlyRegs ks s (@State.linkGone s p l) := by
  unfold State.linkGone
  repeat' (first
      | (with_reducible apply onlyRegs.rfl)
      | extract_lets
      | (with_reducible assumption)
      | (with_reducible exact List.mem_cons_self)
      | (with_reducible apply List.mem_cons_of_mem)
      | (with_reducible apply onlyRegs.keep (discardLink_within _ _ _) (by decide))
      | (with_reducible apply onlyRegs.on (setLink_regs _ _ _ _ _ _ _ _ ?_ ?_ ?_ ?_ ?_ ?_ ?_ ?_ ?_ ?_))
      | (with_reducible apply onlyRegs.on (setBit_regs _ _ _ _ _ ?_))
      | (with_reducible apply onlyRegs.on (bump_regs _ _ _ _ _ ?_))
      | (with_reducible apply onlyRegs.keep (loseKeys_within _ _ _) (by decide))
      | (with_reducible apply onlyRegs.on (downSession_regs _ _ _ _ ?_))
      | (with_reducible apply onlyRegs.keep (resetConfig_within _ _) (by decide))
      | (with_reducible apply onlyRegs.foldl; intro t x)
      | fail_if_no_progress with_reducible apply onlyRegs.upd)

theorem applyMode_within (s : State) (p : Nat) : Within 2 s (@State.applyMode s p)
    := by
  unfold State.applyMode
  repeat' (first
      | with_reducible apply Within.rfl
      | (with_reducible apply Within.on (m := 2) (wr_within _ _ _ _ _) (by decide)))

theorem applyMode_regs (s : State) (p : Nat) {ks : List Field} (h1 : Reg.PORT_MODE_STATUS_MODE ∈
    ks) (h2 : Reg.PORT_MODE_STATUS_MODE_PENDING ∈ ks) : onlyRegs ks s (@State.applyMode s p) := by
  unfold State.applyMode
  repeat' (first
      | (with_reducible apply onlyRegs.rfl)
      | (with_reducible assumption)
      | (with_reducible exact List.mem_cons_self)
      | (with_reducible apply List.mem_cons_of_mem)
      | (with_reducible apply onlyRegs.wr))

theorem freeSession_within (s : State) (n : Nat) : Within 0x8000000000000000000000000000 s
    (@State.freeSession s n) := by
  unfold State.freeSession
  repeat' (first
      | with_reducible apply Within.rfl
      | (with_reducible apply Within.on (m := 0x8000000000000000000000000000) (setSess_within _ _ _) (by decide)))

theorem sanitizeBlocks_within (s : State) (l : List Sys2Proof.Extent) : Within
    0xf4004000000000000000000000000000000022 s (@State.sanitizeBlocks s l) := by
  unfold State.sanitizeBlocks
  repeat' (first
      | extract_lets
      | with_reducible apply Within.ite <;> intro _
      | with_reducible apply Within.rfl
      | (with_reducible apply Within.on (m := 0xf4004000000000000000000000000000000022) (queueRelease_within _ _ _) (by decide))
      | (with_reducible apply Within.foldl; intro t x)
      | with_reducible apply Within.of_fst (by assumption)
      | with_reducible apply Within.of_fst1 (by assumption)
      | split)

theorem sanitizeBlocks_regs (s : State) (l : List Sys2Proof.Extent) {ks : List Field} (h1 :
    Reg.DIR_BCAST_CNT ∈ ks) (h2 : Reg.DIR_BISNP_CNT ∈ ks) (h3 : Reg.DIR_EVBUF_USED ∈ ks) (h4 :
    Reg.DIR_HOST_OVF_ENTRIES ∈ ks) (h5 : Reg.DIR_HOST_STATUS_ENTRIES ∈ ks) (h6 : Reg.DIR_SLICE_STATUS_ENTRIES ∈ ks) :
    onlyRegs ks s (@State.sanitizeBlocks s l) := by
  unfold State.sanitizeBlocks
  repeat' (first
      | (with_reducible apply onlyRegs.rfl)
      | extract_lets
      | (with_reducible assumption)
      | (with_reducible exact List.mem_cons_self)
      | (with_reducible apply List.mem_cons_of_mem)
      | (with_reducible apply onlyRegs.ite <;> intro _)
      | (with_reducible apply onlyRegs.on (queueRelease_regs _ _ _ ?_ ?_ ?_ ?_ ?_ ?_))
      | (with_reducible apply onlyRegs.foldl; intro t x)
      | with_reducible apply onlyRegs.of_fst (by assumption)
      | with_reducible apply onlyRegs.of_fst1 (by assumption)
      | split)

end Sys2Proof.Machine
end

