-- ==== Sys2Proof/Laws/MediaFrames.lean ====
section
/-! SUPPORT. For each function of Machine/Media.lean over the state: the part of the state outside which it changes
nothing (`…_within`), and the register fields that it may write (`…_regs`). -/

namespace Sys2Proof.Machine

set_option maxRecDepth 4000

theorem noteCorr_within (s : State) (chan : Nat) (bits : Nat) : Within 2 s
    (@State.noteCorr s chan bits) := by
  unfold State.noteCorr
  repeat' (first
      | with_reducible apply Within.ite <;> intro _
      | with_reducible apply Within.rfl
      | (with_reducible apply Within.on (m := 2) (bump_within _ _ _ _ _) (by decide)))

theorem noteCorr_regs (s : State) (chan : Nat) (bits : Nat) {ks : List Field} (h1 :
    Reg.CHAN_CORR_CNT ∈ ks) : onlyRegs ks s (@State.noteCorr s chan bits) := by
  unfold State.noteCorr
  repeat' (first
      | (with_reducible apply onlyRegs.rfl)
      | (with_reducible assumption)
      | (with_reducible exact List.mem_cons_self)
      | (with_reducible apply List.mem_cons_of_mem)
      | (with_reducible apply onlyRegs.ite <;> intro _)
      | (with_reducible apply onlyRegs.on (bump_regs _ _ _ _ _ ?_)))

theorem pick_1000000000000000007fbcc00c10000000000022 (s t : State) : State.pick 0x1000000000000000007fbcc00c10000000000022 s t = { s with
    regs := t.regs, out := t.out,
    keep := { s.keep with shadow := t.keep.shadow, queue := t.keep.queue, lost := t.keep.lost },
    chron := { s.chron with
      perm := t.chron.perm, ring := t.chron.ring, buffer := t.chron.buffer, nextSerial := t.chron.nextSerial,
      runs := t.chron.runs, dropped := t.chron.dropped },
    events := t.events, chans := t.chans } := rfl

theorem declareDie_within (s : State) (c : Nat) (d : Nat) (row : Nat) : Within
    0x1000000000000000007fbcc00c10000000000022 s (@State.declareDie s c d row) := by
  unfold State.declareDie
  repeat' (first
      | extract_lets
      | with_reducible apply Within.ite <;> intro _
      | with_reducible apply Within.rfl
      | (with_reducible apply Within.on (m := 0x1000000000000000007fbcc00c10000000000022) (setChan_within _ _ _) (by decide))
      | (with_reducible apply Within.on (m := 0x1000000000000000007fbcc00c10000000000022) (keepWrite_within _ _ _ _) (by decide))
      | (with_reducible apply Within.on (m := 0x1000000000000000007fbcc00c10000000000022) (health_within _ _) (by decide))
      | (with_reducible apply Within.on (m := 0x1000000000000000007fbcc00c10000000000022) (chronicle_within _ _ _ _ _) (by decide))
      | (with_reducible apply Within.on (m := 0x1000000000000000007fbcc00c10000000000022) (event_within _ _ _ _) (by decide)))

theorem declareDie_regs (s : State) (c : Nat) (d : Nat) (row : Nat) {ks : List Field} (h1 :
    Reg.CHRON_DROP_CNT ∈ ks) (h2 : Reg.CHRON_REPEAT_CNT ∈ ks) (h3 : Reg.ERR_HEALTH_EVENT_DIE_FAIL ∈ ks) : onlyRegs ks s
    (@State.declareDie s c d row) := by
  unfold State.declareDie
  repeat' (first
      | (with_reducible apply onlyRegs.rfl)
      | extract_lets
      | (with_reducible assumption)
      | (with_reducible exact List.mem_cons_self)
      | (with_reducible apply List.mem_cons_of_mem)
      | (with_reducible apply onlyRegs.ite <;> intro _)
      | (with_reducible apply onlyRegs.keep (setChan_within _ _ _) (by decide))
      | (with_reducible apply onlyRegs.keep (keepWrite_within _ _ _ _) (by decide))
      | (with_reducible apply onlyRegs.on (health_regs _ _ ?_))
      | (with_reducible apply onlyRegs.on (chronicle_regs _ _ _ _ _ ?_ ?_))
      | (with_reducible apply onlyRegs.on (event_regs _ _ _ _ ?_ ?_)))

theorem noteRecon_within (s : State) (mp : Nat) : Within
    0x1000000000000000007fbcc00c10000000000022 s (@State.noteRecon s mp) := by
  unfold State.noteRecon
  repeat' (first
      | extract_lets
      | with_reducible apply Within.ite <;> intro _
      | with_reducible apply Within.rfl
      | (with_reducible apply Within.on (m := 0x1000000000000000007fbcc00c10000000000022) (bump_within _ _ _ _ _) (by decide))
      | (with_reducible apply Within.on (m := 0x1000000000000000007fbcc00c10000000000022) (setChan_within _ _ _) (by decide))
      | (with_reducible apply Within.on (m := 0x1000000000000000007fbcc00c10000000000022) (declareDie_within _ _ _ _) (by decide)))

theorem noteRecon_regs (s : State) (mp : Nat) {ks : List Field} (h1 : Reg.CHAN_RECON_CNT ∈ ks) (h2
    : Reg.CHRON_DROP_CNT ∈ ks) (h3 : Reg.CHRON_REPEAT_CNT ∈ ks) (h4 : Reg.ERR_HEALTH_EVENT_DIE_FAIL ∈ ks) : onlyRegs ks
    s (@State.noteRecon s mp) := by
  unfold State.noteRecon
  repeat' (first
      | (with_reducible apply onlyRegs.rfl)
      | extract_lets
      | (with_reducible assumption)
      | (with_reducible exact List.mem_cons_self)
      | (with_reducible apply List.mem_cons_of_mem)
      | (with_reducible apply onlyRegs.ite <;> intro _)
      | (with_reducible apply onlyRegs.on (bump_regs _ _ _ _ _ ?_))
      | (with_reducible apply onlyRegs.keep (setChan_within _ _ _) (by decide))
      | (with_reducible apply onlyRegs.on (declareDie_regs _ _ _ _ ?_ ?_ ?_)))

theorem pick_20000000000000000000000000007fbcc00000000000000022 (s t : State) : State.pick 0x20000000000000000000000000007fbcc00000000000000022 s t = { s with
    regs := t.regs, out := t.out,
    chron := { s.chron with
      perm := t.chron.perm, ring := t.chron.ring, buffer := t.chron.buffer, nextSerial := t.chron.nextSerial,
      runs := t.chron.runs, dropped := t.chron.dropped },
    events := t.events, err := { s.err with refresh := t.err.refresh } } := rfl

theorem byRetry_within (s : State) (line : Nat) (mp : Nat) (bits : Nat) : Within
    0x20000000000000000000000000007fbcc00000000000000022 s (@State.byRetry s line mp bits)
    := by
  unfold State.byRetry
  repeat' (first
      | with_reducible apply Within.rfl
      | (with_reducible apply Within.on (m := 0x20000000000000000000000000007fbcc00000000000000022) (markRefresh_within _ _) (by decide))
      | (with_reducible apply Within.on (m := 0x20000000000000000000000000007fbcc00000000000000022) (recovered_within _ _ _) (by decide))
      | (with_reducible apply Within.on (m := 0x20000000000000000000000000007fbcc00000000000000022) (noteCorr_within _ _ _) (by decide)))

theorem byRetry_regs (s : State) (line : Nat) (mp : Nat) (bits : Nat) {ks : List Field} (h1 :
    Reg.CHAN_CORR_CNT ∈ ks) (h2 : Reg.CHRON_DROP_CNT ∈ ks) (h3 : Reg.CHRON_REPEAT_CNT ∈ ks) (h4 :
    Reg.ERR_BUCKET_STATUS_LEVEL ∈ ks) (h5 : Reg.ERR_BUCKET_STATUS_OVF_CNT ∈ ks) (h6 : Reg.ERR_CORR_PERS_CNT ∈ ks) (h7
    : Reg.ERR_HEALTH_EVENT_BUCKET_OVF ∈ ks) : onlyRegs ks s (@State.byRetry s line mp bits) := by
  unfold State.byRetry
  repeat' (first
      | (with_reducible apply onlyRegs.rfl)
      | (with_reducible assumption)
      | (with_reducible exact List.mem_cons_self)
      | (with_reducible apply List.mem_cons_of_mem)
      | (with_reducible apply onlyRegs.keep (markRefresh_within _ _) (by decide))
      | (with_reducible apply onlyRegs.on (recovered_regs _ _ _ ?_ ?_ ?_ ?_ ?_ ?_))
      | (with_reducible apply onlyRegs.on (noteCorr_regs _ _ _ ?_)))

theorem pick_40000000000000000000000000007fbcc00000000000000022 (s t : State) : State.pick 0x40000000000000000000000000007fbcc00000000000000022 s t = { s with
    regs := t.regs, out := t.out,
    chron := { s.chron with
      perm := t.chron.perm, ring := t.chron.ring, buffer := t.chron.buffer, nextSerial := t.chron.nextSerial,
      runs := t.chron.runs, dropped := t.chron.dropped },
    events := t.events, err := { s.err with rewrites := t.err.rewrites } } := rfl

theorem byRecon_within (s : State) (line : Nat) (mp : Nat) (ln : Nat) (bits : Nat) (data :
    Sys2Proof.LineData) : Within 0x40000000000000000000000000007fbcc00000000000000022 s
    (@State.byRecon s line mp ln bits data) := by
  unfold State.byRecon
  repeat' (first
      | with_reducible apply Within.rfl
      | (with_reducible apply Within.on (m := 0x40000000000000000000000000007fbcc00000000000000022) (rewriteGood_within _ _ _ _ _) (by decide))
      | (with_reducible apply Within.on (m := 0x40000000000000000000000000007fbcc00000000000000022) (recovered_within _ _ _) (by decide))
      | (with_reducible apply Within.on (m := 0x40000000000000000000000000007fbcc00000000000000022) (noteCorr_within _ _ _) (by decide)))

theorem byRecon_regs (s : State) (line : Nat) (mp : Nat) (ln : Nat) (bits : Nat) (data :
    Sys2Proof.LineData) {ks : List Field} (h1 : Reg.CHAN_CORR_CNT ∈ ks) (h2 : Reg.CHRON_DROP_CNT ∈ ks) (h3 :
    Reg.CHRON_REPEAT_CNT ∈ ks) (h4 : Reg.ERR_BUCKET_STATUS_LEVEL ∈ ks) (h5 : Reg.ERR_BUCKET_STATUS_OVF_CNT ∈ ks) (h6 :
    Reg.ERR_CORR_PERS_CNT ∈ ks) (h7 : Reg.ERR_HEALTH_EVENT_BUCKET_OVF ∈ ks) (h8 : Reg.ERR_REWRITE_CNT ∈ ks) : onlyRegs
    ks s (@State.byRecon s line mp ln bits data) := by
  unfold State.byRecon
  repeat' (first
      | (with_reducible apply onlyRegs.rfl)
      | (with_reducible assumption)
      | (with_reducible exact List.mem_cons_self)
      | (with_reducible apply List.mem_cons_of_mem)
      | (with_reducible apply onlyRegs.on (rewriteGood_regs _ _ _ _ _ ?_))
      | (with_reducible apply onlyRegs.on (recovered_regs _ _ _ ?_ ?_ ?_ ?_ ?_ ?_))
      | (with_reducible apply onlyRegs.on (noteCorr_regs _ _ _ ?_)))

theorem pick_10043000000000000000000000000007fbcc00000000000000022 (s t : State) : State.pick 0x10043000000000000000000000000007fbcc00000000000000022 s t = { s with
    regs := t.regs, out := t.out,
    chron := { s.chron with
      perm := t.chron.perm, ring := t.chron.ring, buffer := t.chron.buffer, nextSerial := t.chron.nextSerial,
      runs := t.chron.runs, dropped := t.chron.dropped },
    events := t.events,
    err := { s.err with
      poison := t.err.poison, poisonLost := t.err.poisonLost, rewrites := t.err.rewrites,
      lastUncorrHi := t.err.lastUncorrHi } } := rfl

theorem byLoss_within (s : State) (line : Nat) (mp : Nat) (ln : Nat) (transaction : Nat) : Within
    0x10043000000000000000000000000007fbcc00000000000000022 s (@State.byLoss s line mp ln
    transaction) := by
  unfold State.byLoss
  repeat' (first
      | with_reducible apply Within.rfl
      | (with_reducible apply Within.on (m := 0x10043000000000000000000000000007fbcc00000000000000022) (rewritePoison_within _ _ _ _) (by decide))
      | (with_reducible apply Within.on (m := 0x10043000000000000000000000000007fbcc00000000000000022) (uncorrRecord_within _ _ _ _) (by decide)))

theorem byLoss_regs (s : State) (line : Nat) (mp : Nat) (ln : Nat) (transaction : Nat) {ks : List
    Field} (h1 : Reg.CHAN_UNCORR_CNT ∈ ks) (h2 : Reg.CHRON_DROP_CNT ∈ ks) (h3 : Reg.CHRON_REPEAT_CNT ∈ ks) (h4 :
    Reg.ERR_HEALTH_EVENT_POISON_FULL ∈ ks) (h5 : Reg.ERR_HEALTH_EVENT_UNCORR ∈ ks) (h6 : Reg.ERR_LAST_UNCORR_HI_VALID
    ∈ ks) (h7 : Reg.ERR_LAST_UNCORR_LO_DPA_LO ∈ ks) (h8 : Reg.ERR_POISON_LIST_OVERFLOW ∈ ks) (h9 :
    Reg.ERR_POISON_LIST_RECORDS ∈ ks) (h10 : Reg.ERR_UNCORR_CNT ∈ ks) : onlyRegs ks s (@State.byLoss s
    line mp ln transaction) := by
  unfold State.byLoss
  repeat' (first
      | (with_reducible apply onlyRegs.rfl)
      | (with_reducible assumption)
      | (with_reducible exact List.mem_cons_self)
      | (with_reducible apply List.mem_cons_of_mem)
      | (with_reducible apply onlyRegs.on (rewritePoison_regs _ _ _ _ ?_ ?_ ?_))
      | (with_reducible apply onlyRegs.on (uncorrRecord_regs _ _ _ _ ?_ ?_ ?_ ?_ ?_ ?_ ?_)))

theorem pick_10043000000001000000000000000007fbcc00c10000000000022 (s t : State) : State.pick 0x10043000000001000000000000000007fbcc00c10000000000022 s t = { s with
    regs := t.regs, out := t.out,
    keep := { s.keep with shadow := t.keep.shadow, queue := t.keep.queue, lost := t.keep.lost },
    chron := { s.chron with
      perm := t.chron.perm, ring := t.chron.ring, buffer := t.chron.buffer, nextSerial := t.chron.nextSerial,
      runs := t.chron.runs, dropped := t.chron.dropped },
    events := t.events, chans := t.chans,
    err := { s.err with
      poison := t.err.poison, poisonLost := t.err.poisonLost, rewrites := t.err.rewrites,
      lastUncorrHi := t.err.lastUncorrHi } } := rfl

theorem reconRead_within (s : State) (line : Nat) (mp : Nat) (ln : Nat) (e : Sys2Proof.MediaErr)
    (transaction : Nat) (keepOnly : Bool) (group : Bool) : Within
    0x10043000000001000000000000000007fbcc00c10000000000022 s (@State.reconRead s line mp ln
    e transaction keepOnly group).1 := by
  unfold State.reconRead
  repeat' (first
      | extract_lets
      | with_reducible apply Within.ite <;> intro _
      | with_reducible apply Within.rfl
      | (with_reducible apply Within.on (m := 0x10043000000001000000000000000007fbcc00c10000000000022) (noteRecon_within _ _) (by decide))
      | (with_reducible apply Within.on (m := 0x10043000000001000000000000000007fbcc00c10000000000022) (byRecon_within _ _ _ _ _ _) (by decide))
      | (with_reducible apply Within.on (m := 0x10043000000001000000000000000007fbcc00c10000000000022) (poisonAdd_within _ _ _) (by decide))
      | (with_reducible apply Within.on (m := 0x10043000000001000000000000000007fbcc00c10000000000022) (uncorrRecord_within _ _ _ _) (by decide))
      | (with_reducible apply Within.on (m := 0x10043000000001000000000000000007fbcc00c10000000000022) (byLoss_within _ _ _ _ _) (by decide))
      | with_reducible apply Within.of_fst (by assumption)
      | with_reducible apply Within.of_fst1 (by assumption)
      | split)

theorem reconRead_regs (s : State) (line : Nat) (mp : Nat) (ln : Nat) (e : Sys2Proof.MediaErr)
    (transaction : Nat) (keepOnly : Bool) (group : Bool) {ks : List Field} (h1 : Reg.CHAN_CORR_CNT ∈ ks) (h2 :
    Reg.CHAN_RECON_CNT ∈ ks) (h3 : Reg.CHAN_UNCORR_CNT ∈ ks) (h4 : Reg.CHRON_DROP_CNT ∈ ks) (h5 : Reg.CHRON_REPEAT_CNT
    ∈ ks) (h6 : Reg.ERR_BUCKET_STATUS_LEVEL ∈ ks) (h7 : Reg.ERR_BUCKET_STATUS_OVF_CNT ∈ ks) (h8 :
    Reg.ERR_CORR_PERS_CNT ∈ ks) (h9 : Reg.ERR_HEALTH_EVENT_BUCKET_OVF ∈ ks) (h10 : Reg.ERR_HEALTH_EVENT_DIE_FAIL ∈ ks)
    (h11 : Reg.ERR_HEALTH_EVENT_POISON_FULL ∈ ks) (h12 : Reg.ERR_HEALTH_EVENT_UNCORR ∈ ks) (h13 :
    Reg.ERR_LAST_UNCORR_HI_VALID ∈ ks) (h14 : Reg.ERR_LAST_UNCORR_LO_DPA_LO ∈ ks) (h15 : Reg.ERR_POISON_LIST_OVERFLOW
    ∈ ks) (h16 : Reg.ERR_POISON_LIST_RECORDS ∈ ks) (h17 : Reg.ERR_REWRITE_CNT ∈ ks) (h18 : Reg.ERR_UNCORR_CNT ∈ ks) :
    onlyRegs ks s (@State.reconRead s line mp ln e transaction keepOnly group).1 := by
  unfold State.reconRead
  repeat' (first
      | (with_reducible apply onlyRegs.rfl)
      | extract_lets
      | (with_reducible assumption)
      | (with_reducible exact List.mem_cons_self)
      | (with_reducible apply List.mem_cons_of_mem)
      | (with_reducible apply onlyRegs.ite <;> intro _)
      | (with_reducible apply onlyRegs.on (noteRecon_regs _ _ ?_ ?_ ?_ ?_))
      | (with_reducible apply onlyRegs.on (byRecon_regs _ _ _ _ _ _ ?_ ?_ ?_ ?_ ?_ ?_ ?_ ?_))
      | (with_reducible apply onlyRegs.on (poisonAdd_regs _ _ _ ?_ ?_ ?_))
      | (with_reducible apply onlyRegs.on (uncorrRecord_regs _ _ _ _ ?_ ?_ ?_ ?_ ?_ ?_ ?_))
      | (with_reducible apply onlyRegs.on (byLoss_regs _ _ _ _ _ ?_ ?_ ?_ ?_ ?_ ?_ ?_ ?_ ?_ ?_))
      | with_reducible apply onlyRegs.of_fst (by assumption)
      | with_reducible apply onlyRegs.of_fst1 (by assumption)
      | split)

theorem pick_10063000000001000000000000000007fbcc00c10000000000022 (s t : State) : State.pick 0x10063000000001000000000000000007fbcc00c10000000000022 s t = { s with
    regs := t.regs, out := t.out,
    keep := { s.keep with shadow := t.keep.shadow, queue := t.keep.queue, lost := t.keep.lost },
    chron := { s.chron with
      perm := t.chron.perm, ring := t.chron.ring, buffer := t.chron.buffer, nextSerial := t.chron.nextSerial,
      runs := t.chron.runs, dropped := t.chron.dropped },
    events := t.events, chans := t.chans,
    err := { s.err with
      poison := t.err.poison, poisonLost := t.err.poisonLost, refresh := t.err.refresh,
      rewrites := t.err.rewrites, lastUncorrHi := t.err.lastUncorrHi } } := rfl

theorem readMedia_within (s : State) (line : Nat) (mp : Nat) (ln : Nat) (e : Sys2Proof.LineErr)
    (transaction : Nat) (keepOnly : Bool) : Within 0x10063000000001000000000000000007fbcc00c10000000000022 s
    (@State.readMedia s line mp ln e transaction keepOnly).1 := by
  unfold State.readMedia
  repeat' (first
      | extract_lets
      | with_reducible apply Within.ite <;> intro _
      | with_reducible apply Within.ite1 <;> intro _
      | with_reducible apply Within.rfl
      | (with_reducible apply Within.on (m := 0x10063000000001000000000000000007fbcc00c10000000000022) (reconRead_within _ _ _ _ _ _ _ _) (by decide))
      | (with_reducible apply Within.on (m := 0x10063000000001000000000000000007fbcc00c10000000000022) (noteCorr_within _ _ _) (by decide))
      | (with_reducible apply Within.on (m := 0x10063000000001000000000000000007fbcc00c10000000000022) (bump_within _ _ _ _ _) (by decide))
      | (with_reducible apply Within.on (m := 0x10063000000001000000000000000007fbcc00c10000000000022) (byRetry_within _ _ _ _) (by decide))
      | with_reducible apply Within.of_fst (by assumption)
      | with_reducible apply Within.of_fst1 (by assumption)
      | split)

theorem readMedia_regs (s : State) (line : Nat) (mp : Nat) (ln : Nat) (e : Sys2Proof.LineErr)
    (transaction : Nat) (keepOnly : Bool) {ks : List Field} (h1 : Reg.CHAN_CORR_CNT ∈ ks) (h2 : Reg.CHAN_RECON_CNT ∈
    ks) (h3 : Reg.CHAN_RETRY_CNT ∈ ks) (h4 : Reg.CHAN_UNCORR_CNT ∈ ks) (h5 : Reg.CHRON_DROP_CNT ∈ ks) (h6 :
    Reg.CHRON_REPEAT_CNT ∈ ks) (h7 : Reg.ERR_BUCKET_STATUS_LEVEL ∈ ks) (h8 : Reg.ERR_BUCKET_STATUS_OVF_CNT ∈ ks) (h9 :
    Reg.ERR_CORR_PERS_CNT ∈ ks) (h10 : Reg.ERR_HEALTH_EVENT_BUCKET_OVF ∈ ks) (h11 : Reg.ERR_HEALTH_EVENT_DIE_FAIL ∈
    ks) (h12 : Reg.ERR_HEALTH_EVENT_POISON_FULL ∈ ks) (h13 : Reg.ERR_HEALTH_EVENT_UNCORR ∈ ks) (h14 :
    Reg.ERR_LAST_UNCORR_HI_VALID ∈ ks) (h15 : Reg.ERR_LAST_UNCORR_LO_DPA_LO ∈ ks) (h16 : Reg.ERR_POISON_LIST_OVERFLOW
    ∈ ks) (h17 : Reg.ERR_POISON_LIST_RECORDS ∈ ks) (h18 : Reg.ERR_REWRITE_CNT ∈ ks) (h19 : Reg.ERR_UNCORR_CNT ∈ ks) :
    onlyRegs ks s (@State.readMedia s line mp ln e transaction keepOnly).1 := by
  unfold State.readMedia
  repeat' (first
      | (with_reducible apply onlyRegs.rfl)
      | extract_lets
      | (with_reducible assumption)
      | (with_reducible exact List.mem_cons_self)
      | (with_reducible apply List.mem_cons_of_mem)
      | (with_reducible apply onlyRegs.ite <;> intro _)
      | (with_reducible apply onlyRegs.ite1 <;> intro _)
      | (with_reducible apply onlyRegs.on (reconRead_regs _ _ _ _ _ _ _ _ ?_ ?_ ?_ ?_ ?_ ?_ ?_ ?_ ?_ ?_ ?_ ?_ ?_ ?_ ?_ ?_ ?_ ?_))
      | (with_reducible apply onlyRegs.on (noteCorr_regs _ _ _ ?_))
      | (with_reducible apply onlyRegs.on (bump_regs _ _ _ _ _ ?_))
      | (with_reducible apply onlyRegs.on (byRetry_regs _ _ _ _ ?_ ?_ ?_ ?_ ?_ ?_ ?_))
      | with_reducible apply onlyRegs.of_fst (by assumption)
      | with_reducible apply onlyRegs.of_fst1 (by assumption)
      | split)

theorem checkInteg_within (s : State) (line : Nat) (r : MediaResult) (c :
    Sys2Proof.IntegCheck) : Within 0x7fbcc00000000000000022 s (@State.checkInteg s line r c).1 :=
    by
  unfold State.checkInteg
  repeat' (first
      | with_reducible apply Within.ite1 <;> intro _
      | with_reducible apply Within.rfl
      | (with_reducible apply Within.on (m := 0x7fbcc00000000000000022) (integFail_within _ _ _) (by decide))
      | with_reducible apply Within.of_fst (by assumption)
      | with_reducible apply Within.of_fst1 (by assumption)
      | split)

theorem checkInteg_regs (s : State) (line : Nat) (r : MediaResult) (c :
    Sys2Proof.IntegCheck) {ks : List Field} (h1 : Reg.CHRON_DROP_CNT ∈ ks) (h2 : Reg.CHRON_REPEAT_CNT ∈ ks) (h3 :
    Reg.PROT_INTEG_FAIL_CNT ∈ ks) (h4 : Reg.RANGE_INTEG_FAIL_CNT ∈ ks) : onlyRegs ks s
    (@State.checkInteg s line r c).1 := by
  unfold State.checkInteg
  repeat' (first
      | (with_reducible apply onlyRegs.rfl)
      | (with_reducible assumption)
      | (with_reducible exact List.mem_cons_self)
      | (with_reducible apply List.mem_cons_of_mem)
      | (with_reducible apply onlyRegs.ite1 <;> intro _)
      | (with_reducible apply onlyRegs.on (integFail_regs _ _ _ ?_ ?_ ?_ ?_))
      | with_reducible apply onlyRegs.of_fst (by assumption)
      | with_reducible apply onlyRegs.of_fst1 (by assumption)
      | split)

theorem pick_8000000000200000000000000000000000000002 (s t : State) : State.pick 0x8000000000200000000000000000000000000002 s t = { s with
    regs := t.regs, merge := { s.merge with entries := t.merge.entries },
    sched := { s.sched with jobs := t.sched.jobs } } := rfl

theorem fillEntry_within (s : State) (line : Nat) (d : Sys2Proof.LineData) (bad : Bool) : Within
    0x8000000000200000000000000000000000000002 s (@State.fillEntry s line d bad) := by
  unfold State.fillEntry
  repeat' (first
      | extract_lets
      | with_reducible apply Within.ite <;> intro _
      | with_reducible apply Within.rfl
      | (with_reducible apply Within.on (m := 0x8000000000200000000000000000000000000002) (dropFill_within _ _) (by decide))
      | (with_reducible apply Within.on (m := 0x8000000000200000000000000000000000000002) (mergeCounts_within _) (by decide))
      | (with_reducible apply Within.on (m := 0x8000000000200000000000000000000000000002) (putEntry_within _ _ _) (by decide))
      | (with_reducible apply Within.on (m := 0x8000000000200000000000000000000000000002) (bump_within _ _ _ _ _) (by decide))
      | fail_if_no_progress with_reducible apply Within.upd (by rw [pick_8000000000200000000000000000000000000002])
      | with_reducible apply Within.of_fst (by assumption)
      | with_reducible apply Within.of_fst1 (by assumption)
      | split)

theorem fillEntry_regs (s : State) (line : Nat) (d : Sys2Proof.LineData) (bad : Bool) {ks : List
    Field} (h1 : Reg.MERGE_FILL_BAD_CNT ∈ ks) (h2 : Reg.MERGE_PARTIAL_LINES ∈ ks) (h3 : Reg.MERGE_SETTLING_LINES ∈ ks)
    (h4 : Reg.MERGE_STATUS_DIRTY ∈ ks) (h5 : Reg.MERGE_STATUS_LIMIT ∈ ks) (h6 : Reg.XLAT_PINNED_LINES ∈ ks) : onlyRegs
    ks s (@State.fillEntry s line d bad) := by
  unfold State.fillEntry
  repeat' (first
      | (with_reducible apply onlyRegs.rfl)
      | extract_lets
      | (with_reducible assumption)
      | (with_reducible exact List.mem_cons_self)
      | (with_reducible apply List.mem_cons_of_mem)
      | (with_reducible apply onlyRegs.ite <;> intro _)
      | (with_reducible apply onlyRegs.keep (dropFill_within _ _) (by decide))
      | (with_reducible apply onlyRegs.on (mergeCounts_regs _ ?_ ?_ ?_ ?_ ?_))
      | (with_reducible apply onlyRegs.keep (putEntry_within _ _ _) (by decide))
      | (with_reducible apply onlyRegs.on (bump_regs _ _ _ _ _ ?_))
      | fail_if_no_progress with_reducible apply onlyRegs.upd
      | with_reducible apply onlyRegs.of_fst (by assumption)
      | with_reducible apply onlyRegs.of_fst1 (by assumption)
      | split)

theorem tryRcFill_within (s : State) (line : Nat) (epoch : Nat) (d : Sys2Proof.LineData) (stale :
    Bool) (class4 : Bool) : Within 0x1000000000000000000000000000000000002 s (@State.tryRcFill
    s line epoch d stale class4) := by
  unfold State.tryRcFill
  repeat' (first
      | with_reducible apply Within.ite <;> intro _
      | with_reducible apply Within.rfl
      | (with_reducible apply Within.on (m := 0x1000000000000000000000000000000000002) (bump_within _ _ _ _ _) (by decide))
      | (with_reducible apply Within.on (m := 0x1000000000000000000000000000000000002) (rcFill_within _ _ _ _) (by decide)))

theorem tryRcFill_regs (s : State) (line : Nat) (epoch : Nat) (d : Sys2Proof.LineData) (stale :
    Bool) (class4 : Bool) {ks : List Field} (h1 : Reg.CACHE_RC_FILL_CNT ∈ ks) (h2 : Reg.CACHE_RC_FILL_DROP_CNT ∈ ks) :
    onlyRegs ks s (@State.tryRcFill s line epoch d stale class4) := by
  unfold State.tryRcFill
  repeat' (first
      | (with_reducible apply onlyRegs.rfl)
      | (with_reducible assumption)
      | (with_reducible exact List.mem_cons_self)
      | (with_reducible apply List.mem_cons_of_mem)
      | (with_reducible apply onlyRegs.ite <;> intro _)
      | (with_reducible apply onlyRegs.on (bump_regs _ _ _ _ _ ?_))
      | (with_reducible apply onlyRegs.on (rcFill_regs _ _ _ _ ?_)))

theorem pick_8000000000210000000000000000000000000002 (s t : State) : State.pick 0x8000000000210000000000000000000000000002 s t = { s with
    regs := t.regs, reqs := t.reqs, merge := { s.merge with entries := t.merge.entries },
    sched := { s.sched with jobs := t.sched.jobs } } := rfl

theorem refill_within (s : State) (line : Nat) (d : Sys2Proof.LineData) (bad : Bool) : Within
    0x8000000000210000000000000000000000000002 s (@State.refill s line d bad) := by
  unfold State.refill
  repeat' (first
      | with_reducible apply Within.ite <;> intro _
      | with_reducible apply Within.rfl
      | (with_reducible apply Within.on (m := 0x8000000000210000000000000000000000000002) (mergeCounts_within _) (by decide))
      | (with_reducible apply Within.on (m := 0x8000000000210000000000000000000000000002) (dropEntry_within _ _) (by decide))
      | (with_reducible apply Within.on (m := 0x8000000000210000000000000000000000000002) (putEntry_within _ _ _) (by decide))
      | fail_if_no_progress with_reducible apply Within.upd (by rw [pick_8000000000210000000000000000000000000002])
      | with_reducible apply Within.of_fst (by assumption)
      | with_reducible apply Within.of_fst1 (by assumption)
      | split)

theorem refill_regs (s : State) (line : Nat) (d : Sys2Proof.LineData) (bad : Bool) {ks : List
    Field} (h1 : Reg.MERGE_PARTIAL_LINES ∈ ks) (h2 : Reg.MERGE_SETTLING_LINES ∈ ks) (h3 : Reg.MERGE_STATUS_DIRTY ∈ ks)
    (h4 : Reg.MERGE_STATUS_LIMIT ∈ ks) (h5 : Reg.XLAT_PINNED_LINES ∈ ks) : onlyRegs ks s
    (@State.refill s line d bad) := by
  unfold State.refill
  repeat' (first
      | (with_reducible apply onlyRegs.rfl)
      | (with_reducible assumption)
      | (with_reducible exact List.mem_cons_self)
      | (with_reducible apply List.mem_cons_of_mem)
      | (with_reducible apply onlyRegs.ite <;> intro _)
      | (with_reducible apply onlyRegs.on (mergeCounts_regs _ ?_ ?_ ?_ ?_ ?_))
      | (with_reducible apply onlyRegs.keep (dropEntry_within _ _) (by decide))
      | (with_reducible apply onlyRegs.keep (putEntry_within _ _ _) (by decide))
      | fail_if_no_progress with_reducible apply onlyRegs.upd
      | with_reducible apply onlyRegs.of_fst (by assumption)
      | with_reducible apply onlyRegs.of_fst1 (by assumption)
      | split)

theorem deliverHost_within (s : State) (rid : Nat) (d : Sys2Proof.LineData) (bad : Bool) : Within
    0x8000008000218000000000000000000000000022 s (@State.deliverHost s rid d bad) := by
  unfold State.deliverHost
  repeat' (first
      | extract_lets
      | with_reducible apply Within.ite <;> intro _
      | with_reducible apply Within.ite1 <;> intro _
      | with_reducible apply Within.rfl
      | (with_reducible apply Within.on (m := 0x8000008000218000000000000000000000000022) (refill_within _ _ _ _) (by decide))
      | (with_reducible apply Within.on (m := 0x8000008000218000000000000000000000000022) (fillEntry_within _ _ _ _) (by decide))
      | (with_reducible apply Within.on (m := 0x8000008000218000000000000000000000000022) (takeResult_within _ _) (by decide))
      | (with_reducible apply Within.on (m := 0x8000008000218000000000000000000000000022) (setReq_within _ _ _) (by decide))
      | fail_if_no_progress with_reducible apply Within.upd (by rw [pick_8000008000218000000000000000000000000022])
      | with_reducible apply Within.of_fst (by assumption)
      | with_reducible apply Within.of_fst1 (by assumption)
      | split)

theorem deliverHost_regs (s : State) (rid : Nat) (d : Sys2Proof.LineData) (bad : Bool) {ks : List
    Field} (h1 : Reg.CACHE_RC_HIT_CNT ∈ ks) (h2 : Reg.MERGE_FILL_BAD_CNT ∈ ks) (h3 : Reg.MERGE_PARTIAL_LINES ∈ ks) (h4
    : Reg.MERGE_SETTLING_LINES ∈ ks) (h5 : Reg.MERGE_STATUS_DIRTY ∈ ks) (h6 : Reg.MERGE_STATUS_LIMIT ∈ ks) (h7 :
    Reg.PORT_INFLIGHT_LINK0 ∈ ks) (h8 : Reg.PORT_INFLIGHT_LINK1 ∈ ks) (h9 : Reg.PORT_INFLIGHT_PEAK_LINK0 ∈ ks) (h10 :
    Reg.PORT_INFLIGHT_PEAK_LINK1 ∈ ks) (h11 : Reg.SCHED_BOUND_MISS ∈ ks) (h12 : Reg.SCHED_MAX_LAT_CCLK ∈ ks) (h13 :
    Reg.XLAT_PINNED_LINES ∈ ks) : onlyRegs ks s (@State.deliverHost s rid d bad) := by
  unfold State.deliverHost
  repeat' (first
      | (with_reducible apply onlyRegs.rfl)
      | extract_lets
      | (with_reducible assumption)
      | (with_reducible exact List.mem_cons_self)
      | (with_reducible apply List.mem_cons_of_mem)
      | (with_reducible apply onlyRegs.ite <;> intro _)
      | (with_reducible apply onlyRegs.ite1 <;> intro _)
      | (with_reducible apply onlyRegs.on (refill_regs _ _ _ _ ?_ ?_ ?_ ?_ ?_))
      | (with_reducible apply onlyRegs.on (fillEntry_regs _ _ _ _ ?_ ?_ ?_ ?_ ?_ ?_))
      | (with_reducible apply onlyRegs.on (takeResult_regs _ _ ?_ ?_ ?_ ?_ ?_ ?_ ?_))
      | (with_reducible apply onlyRegs.keep (setReq_within _ _ _) (by decide))
      | fail_if_no_progress with_reducible apply onlyRegs.upd
      | with_reducible apply onlyRegs.of_fst (by assumption)
      | with_reducible apply onlyRegs.of_fst1 (by assumption)
      | split)

end Sys2Proof.Machine
end

