-- ==== Sys2Proof/Laws/IntegFrames.lean ====
section
/-! SUPPORT. For each function of Machine/Integ.lean over the state: the part of the state outside which it changes
nothing (`…_within`), and the register fields that it may write (`…_regs`). -/

namespace Sys2Proof.Machine

set_option maxRecDepth 4000

theorem nodeCounts_within (s : State) : Within 2 s (@State.nodeCounts s) := by
  unfold State.nodeCounts
  repeat' (first
      | with_reducible apply Within.rfl
      | (with_reducible apply Within.on (m := 2) (wr_within _ _ _ _ _) (by decide)))

theorem nodeCounts_regs (s : State) {ks : List Field} (h1 : Reg.PROT_INTEG_DIRTY_LINES ∈ ks) :
    onlyRegs ks s (@State.nodeCounts s) := by
  unfold State.nodeCounts
  repeat' (first
      | (with_reducible apply onlyRegs.rfl)
      | (with_reducible assumption)
      | (with_reducible exact List.mem_cons_self)
      | (with_reducible apply List.mem_cons_of_mem)
      | (with_reducible apply onlyRegs.wr))

theorem pick_300000000000000000000002 (s t : State) : State.pick 0x300000000000000000000002 s t = { s with
    regs := t.regs, prot := { s.prot with lineCounters := t.prot.lineCounters, dirtyNodes := t.prot.dirtyNodes } } := rfl

theorem countDrain_within (s : State) (line : Nat) : Within 0x300000000000000000000002 s
    (@State.countDrain s line) := by
  unfold State.countDrain
  repeat' (first
      | extract_lets
      | with_reducible apply Within.rfl
      | (with_reducible apply Within.on (m := 0x300000000000000000000002) (nodeCounts_within _) (by decide))
      | fail_if_no_progress with_reducible apply Within.upd (by rw [pick_300000000000000000000002])
      | with_reducible apply Within.of_fst (by assumption)
      | with_reducible apply Within.of_fst1 (by assumption)
      | split)

theorem countDrain_regs (s : State) (line : Nat) {ks : List Field} (h1 : Reg.PROT_INTEG_DIRTY_LINES
    ∈ ks) : onlyRegs ks s (@State.countDrain s line) := by
  unfold State.countDrain
  repeat' (first
      | (with_reducible apply onlyRegs.rfl)
      | extract_lets
      | (with_reducible assumption)
      | (with_reducible exact List.mem_cons_self)
      | (with_reducible apply List.mem_cons_of_mem)
      | (with_reducible apply onlyRegs.on (nodeCounts_regs _ ?_))
      | fail_if_no_progress with_reducible apply onlyRegs.upd
      | with_reducible apply onlyRegs.of_fst (by assumption)
      | with_reducible apply onlyRegs.of_fst1 (by assumption)
      | split)

theorem pick_280000000000000000000002 (s t : State) : State.pick 0x280000000000000000000002 s t = { s with
    regs := t.regs, prot := { s.prot with roots := t.prot.roots, dirtyNodes := t.prot.dirtyNodes } } := rfl

theorem writeBackNodes_within (s : State) (l : List Nat) : Within 0x280000000000000000000002 s
    (@State.writeBackNodes s l) := by
  unfold State.writeBackNodes
  repeat' (first
      | extract_lets
      | with_reducible apply Within.rfl
      | (with_reducible apply Within.on (m := 0x280000000000000000000002) (nodeCounts_within _) (by decide))
      | fail_if_no_progress with_reducible apply Within.upd (by rw [pick_280000000000000000000002]))

theorem writeBackNodes_regs (s : State) (l : List Nat) {ks : List Field} (h1 :
    Reg.PROT_INTEG_DIRTY_LINES ∈ ks) : onlyRegs ks s (@State.writeBackNodes s l) := by
  unfold State.writeBackNodes
  repeat' (first
      | (with_reducible apply onlyRegs.rfl)
      | extract_lets
      | (with_reducible assumption)
      | (with_reducible exact List.mem_cons_self)
      | (with_reducible apply List.mem_cons_of_mem)
      | (with_reducible apply onlyRegs.on (nodeCounts_regs _ ?_))
      | fail_if_no_progress with_reducible apply onlyRegs.upd)

theorem flushNodes_within (s : State) : Within 0x280000000000000000000002 s
    (@State.flushNodes s) := by
  unfold State.flushNodes
  repeat' (first
      | with_reducible apply Within.rfl
      | (with_reducible apply Within.on (m := 0x280000000000000000000002) (writeBackNodes_within _ _) (by decide)))

theorem flushNodes_regs (s : State) {ks : List Field} (h1 : Reg.PROT_INTEG_DIRTY_LINES ∈ ks) :
    onlyRegs ks s (@State.flushNodes s) := by
  unfold State.flushNodes
  repeat' (first
      | (with_reducible apply onlyRegs.rfl)
      | (with_reducible assumption)
      | (with_reducible exact List.mem_cons_self)
      | (with_reducible apply List.mem_cons_of_mem)
      | (with_reducible apply onlyRegs.on (writeBackNodes_regs _ _ ?_)))

theorem trimNodes_within (s : State) : Within 0x280000000000000000000002 s
    (@State.trimNodes s) := by
  unfold State.trimNodes
  repeat' (first
      | with_reducible apply Within.ite <;> intro _
      | with_reducible apply Within.rfl
      | (with_reducible apply Within.on (m := 0x280000000000000000000002) (writeBackNodes_within _ _) (by decide)))

theorem trimNodes_regs (s : State) {ks : List Field} (h1 : Reg.PROT_INTEG_DIRTY_LINES ∈ ks) :
    onlyRegs ks s (@State.trimNodes s) := by
  unfold State.trimNodes
  repeat' (first
      | (with_reducible apply onlyRegs.rfl)
      | (with_reducible assumption)
      | (with_reducible exact List.mem_cons_self)
      | (with_reducible apply List.mem_cons_of_mem)
      | (with_reducible apply onlyRegs.ite <;> intro _)
      | (with_reducible apply onlyRegs.on (writeBackNodes_regs _ _ ?_)))

end Sys2Proof.Machine
end

