-- ==== Sys2Proof/Laws/PlacingFrames.lean ====
section
/-! SUPPORT. For each function of Machine/Placing.lean over the state: the part of the state outside which it changes
nothing (`…_within`), and the register fields that it may write (`…_regs`). -/

namespace Sys2Proof.Machine

set_option maxRecDepth 4000

theorem pick_400000000000000000000000000000000000020 (s t : State) : State.pick 0x400000000000000000000000000000000000020 s t = { s with
    out := t.out, ops := t.ops } := rfl

theorem placeExchange_within (s : State) (kind : ProgKind) (mp : Nat) (ln : Nat)
    (line : Nat) (n : Nat) (new : MLine) : Within 0x400000000000000000000000000000000000020 s
    (@State.placeExchange s kind mp ln line n new) := by
  unfold State.placeExchange
  repeat' (first
      | extract_lets
      | with_reducible apply Within.ite <;> intro _
      | with_reducible apply Within.rfl
      | (with_reducible apply Within.on (m := 0x400000000000000000000000000000000000020) (emit_within _ _) (by decide))
      | fail_if_no_progress with_reducible apply Within.upd (by rw [pick_400000000000000000000000000000000000020]))

theorem placePlain_within (s : State) (kind : ProgKind) (c :
    FipenCmd) (mp : Nat) (ln : Nat) (n : Nat) : Within
    0x400000000000000000000000000000000000020 s (@State.placePlain s kind c mp ln n) := by
  unfold State.placePlain
  repeat' (first
      | extract_lets
      | with_reducible apply Within.rfl
      | (with_reducible apply Within.on (m := 0x400000000000000000000000000000000000020) (emit_within _ _) (by decide))
      | fail_if_no_progress with_reducible apply Within.upd (by rw [pick_400000000000000000000000000000000000020]))

theorem pick_800000000000000003000000000000000000200000300000000000000000000002 (s t : State) : State.pick 0x800000000000000003000000000000000000200000300000000000000000000002 s t = { s with
    regs := t.regs, prot := { s.prot with lineCounters := t.prot.lineCounters, dirtyNodes := t.prot.dirtyNodes },
    merge := { s.merge with entries := t.merge.entries },
    err := { s.err with poison := t.err.poison, poisonLost := t.err.poisonLost },
    telem := { s.telem with counts := t.telem.counts } } := rfl

theorem startDrain_within (s : State) (line : Nat) (e : Entry) : Within
    0x800000000000000003000000000000000000200000300000000000000000000002 s
    (@State.startDrain s line e) := by
  unfold State.startDrain
  repeat' (first
      | with_reducible apply Within.rfl
      | (with_reducible apply Within.on (m := 0x800000000000000003000000000000000000200000300000000000000000000002) (countDrain_within _ _) (by decide))
      | (with_reducible apply Within.on (m := 0x800000000000000003000000000000000000200000300000000000000000000002) (drainPoison_within _ _ _) (by decide))
      | (with_reducible apply Within.on (m := 0x800000000000000003000000000000000000200000300000000000000000000002) (putEntry_within _ _ _) (by decide))
      | (with_reducible apply Within.on (m := 0x800000000000000003000000000000000000200000300000000000000000000002) (tele_within _ _ _ _ _) (by decide)))

theorem startDrain_regs (s : State) (line : Nat) (e : Entry) {ks : List Field}
    (h1 : Reg.ERR_HEALTH_EVENT_POISON_FULL ∈ ks) (h2 : Reg.ERR_POISON_LIST_OVERFLOW ∈ ks) (h3 :
    Reg.ERR_POISON_LIST_RECORDS ∈ ks) (h4 : Reg.PROT_INTEG_DIRTY_LINES ∈ ks) (h5 : Reg.TELEM_BLK_OVF_OVF ∈ ks) :
    onlyRegs ks s (@State.startDrain s line e) := by
  unfold State.startDrain
  repeat' (first
      | (with_reducible apply onlyRegs.rfl)
      | (with_reducible assumption)
      | (with_reducible exact List.mem_cons_self)
      | (with_reducible apply List.mem_cons_of_mem)
      | (with_reducible apply onlyRegs.on (countDrain_regs _ _ ?_))
      | (with_reducible apply onlyRegs.on (drainPoison_regs _ _ _ ?_ ?_ ?_))
      | (with_reducible apply onlyRegs.keep (putEntry_within _ _ _) (by decide))
      | (with_reducible apply onlyRegs.on (tele_regs _ _ _ _ _ ?_)))

theorem startDrains_within (s : State) (l : List (Nat × Entry)) : Within
    0x800000000000000003000000000000000000200000300000000000000000000002 s
    (@State.startDrains s l) := by
  unfold State.startDrains
  repeat' (first
      | with_reducible apply Within.rfl
      | (with_reducible apply Within.on (m := 0x800000000000000003000000000000000000200000300000000000000000000002) (startDrain_within _ _ _) (by decide))
      | (with_reducible apply Within.foldl; intro t x))

theorem startDrains_regs (s : State) (l : List (Nat × Entry)) {ks : List Field}
    (h1 : Reg.ERR_HEALTH_EVENT_POISON_FULL ∈ ks) (h2 : Reg.ERR_POISON_LIST_OVERFLOW ∈ ks) (h3 :
    Reg.ERR_POISON_LIST_RECORDS ∈ ks) (h4 : Reg.PROT_INTEG_DIRTY_LINES ∈ ks) (h5 : Reg.TELEM_BLK_OVF_OVF ∈ ks) :
    onlyRegs ks s (@State.startDrains s l) := by
  unfold State.startDrains
  repeat' (first
      | (with_reducible apply onlyRegs.rfl)
      | (with_reducible assumption)
      | (with_reducible exact List.mem_cons_self)
      | (with_reducible apply List.mem_cons_of_mem)
      | (with_reducible apply onlyRegs.on (startDrain_regs _ _ _ ?_ ?_ ?_ ?_ ?_))
      | (with_reducible apply onlyRegs.foldl; intro t x))

theorem noteUnbuilt_within (s : State) (lpn : Nat) (mp : Nat) (dirty : List (Nat ×
    Entry)) : Within 0x3000000000000000000000000000000000000000000000002 s
    (@State.noteUnbuilt s lpn mp dirty) := by
  unfold State.noteUnbuilt
  repeat' (first
      | with_reducible apply Within.ite <;> intro _
      | with_reducible apply Within.rfl
      | (with_reducible apply Within.on (m := 0x3000000000000000000000000000000000000000000000002) (poisonAdd_within _ _ _) (by decide))
      | (with_reducible apply Within.foldl; intro t x))

theorem noteUnbuilt_regs (s : State) (lpn : Nat) (mp : Nat) (dirty : List (Nat ×
    Entry)) {ks : List Field} (h1 : Reg.ERR_HEALTH_EVENT_POISON_FULL ∈ ks) (h2 :
    Reg.ERR_POISON_LIST_OVERFLOW ∈ ks) (h3 : Reg.ERR_POISON_LIST_RECORDS ∈ ks) : onlyRegs ks s
    (@State.noteUnbuilt s lpn mp dirty) := by
  unfold State.noteUnbuilt
  repeat' (first
      | (with_reducible apply onlyRegs.rfl)
      | (with_reducible assumption)
      | (with_reducible exact List.mem_cons_self)
      | (with_reducible apply List.mem_cons_of_mem)
      | (with_reducible apply onlyRegs.ite <;> intro _)
      | (with_reducible apply onlyRegs.on (poisonAdd_regs _ _ _ ?_ ?_ ?_))
      | (with_reducible apply onlyRegs.foldl; intro t x))

theorem pick_28000000000000000000000000000000000000000000 (s t : State) : State.pick 0x28000000000000000000000000000000000000000000 s t = { s with
    xlat := { s.xlat with blocks := t.xlat.blocks, opens := t.xlat.opens } } := rfl

theorem openIn_within (s : State) (course : Nat) (hot : Bool) (t : State) (b : _) (ht :
    (@State.openIn s course hot) = some (t, b)) : Within
    0x28000000000000000000000000000000000000000000 s t := by
  unfold State.openIn at ht
  repeat' (first | extract_lets at ht | (cases ht; done) | (simp only [Option.some.injEq, Prod.mk.injEq] at ht; obtain ⟨ht, -⟩ := ht; subst ht) | (simp only [Option.some.injEq] at ht; subst ht) | split at ht)
  all_goals repeat' (first
      | extract_lets
      | with_reducible apply Within.rfl
      | (with_reducible apply Within.on (m := 0x28000000000000000000000000000000000000000000) (setBlock_within _ _ _) (by decide))
      | fail_if_no_progress with_reducible apply Within.upd (by rw [pick_28000000000000000000000000000000000000000000]))

theorem seal_within (s : State) (sbn : Nat) : Within
    0x28000000000000000000000000000000000000000000 s (@State.seal s sbn) := by
  unfold State.seal
  repeat' (first
      | extract_lets
      | with_reducible apply Within.rfl
      | (with_reducible apply Within.on (m := 0x28000000000000000000000000000000000000000000) (setBlock_within _ _ _) (by decide))
      | fail_if_no_progress with_reducible apply Within.upd (by rw [pick_28000000000000000000000000000000000000000000]))

theorem takePage_within (s : State) (hot : Bool) (course : Nat) (o : OpenBlock) :
    Within 0x28000000000000000000000000000000000000000000 s (@State.takePage s hot course
    o).1 := by
  unfold State.takePage
  repeat' (first
      | extract_lets
      | with_reducible apply Within.ite1 <;> intro _
      | with_reducible apply Within.rfl
      | (with_reducible apply Within.on (m := 0x28000000000000000000000000000000000000000000) (setBlock_within _ _ _) (by decide))
      | (with_reducible apply Within.on (m := 0x28000000000000000000000000000000000000000000) (seal_within _ _) (by decide))
      | fail_if_no_progress with_reducible apply Within.upd (by rw [pick_28000000000000000000000000000000000000000000]))

theorem pick_fffffe000000000000000000000000000000000000000000 (s t : State) : State.pick 0xfffffe000000000000000000000000000000000000000000 s t = { s with
    xlat := t.xlat } := rfl

theorem nextPoolPage_within (s : State) (hot : Bool) (t : State) (b : _) (ht :
    (@State.nextPoolPage s hot) = some (t, b)) : Within
    0xfffffe000000000000000000000000000000000000000000 s t := by
  unfold State.nextPoolPage at ht
  extract_lets at ht
  obtain ⟨c, -, hc⟩ := List.exists_of_findSome?_eq_some ht
  split at hc
  · cases hc
  · rename_i t' o h
    have h1 := openIn_within _ _ _ _ _ h
    simp only [Option.some.injEq, Prod.mk.injEq] at hc
    obtain ⟨hc, -⟩ := hc
    subst hc
    have h2 := takePage_within t' hot c o
    refine Within.on (m := 0xfffffe000000000000000000000000000000000000000000) (s := s) ?_ (Nat.or_self _) Within.rfl
    exact Within.upd (by rw [pick_fffffe000000000000000000000000000000000000000000]) (Within.on h2 (by decide) (Within.on h1 (by decide) Within.rfl))

theorem closeStripe_within (s : State) (sbn : Nat) (stripe : Nat) : Within
    0x800000000000000000000008000200000000000000000000000000000000000002 s
    (@State.closeStripe s sbn stripe) := by
  unfold State.closeStripe
  repeat' (first
      | extract_lets
      | with_reducible apply Within.ite <;> intro _
      | with_reducible apply Within.rfl
      | (with_reducible apply Within.on (m := 0x800000000000000000000008000200000000000000000000000000000000000002) (teleAppend_within _ _) (by decide))
      | (with_reducible apply Within.on (m := 0x800000000000000000000008000200000000000000000000000000000000000002) (wear_within _ _ _) (by decide))
      | fail_if_no_progress with_reducible apply Within.upd (by rw [pick_800000000000000000000008000200000000000000000000000000000000000002]))

theorem closeStripe_regs (s : State) (sbn : Nat) (stripe : Nat) {ks : List Field} (h1 :
    Reg.TELEM_BLK_OVF_OVF ∈ ks) : onlyRegs ks s (@State.closeStripe s sbn stripe) := by
  unfold State.closeStripe
  repeat' (first
      | (with_reducible apply onlyRegs.rfl)
      | extract_lets
      | (with_reducible assumption)
      | (with_reducible exact List.mem_cons_self)
      | (with_reducible apply List.mem_cons_of_mem)
      | (with_reducible apply onlyRegs.ite <;> intro _)
      | (with_reducible apply onlyRegs.on (teleAppend_regs _ _ ?_))
      | (with_reducible apply onlyRegs.keep (wear_within _ _ _) (by decide))
      | fail_if_no_progress with_reducible apply onlyRegs.upd)

theorem programPage_within (s : State) (mp : Nat) (p : MPage) : Within
    0x800000000000000000000008000200000000000000000000000000000000000002 s
    (@State.programPage s mp p) := by
  unfold State.programPage
  repeat' (first
      | with_reducible apply Within.rfl
      | (with_reducible apply Within.on (m := 0x800000000000000000000008000200000000000000000000000000000000000002) (closeStripe_within _ _ _) (by decide))
      | (with_reducible apply Within.on (m := 0x800000000000000000000008000200000000000000000000000000000000000002) (teleAppend_within _ _) (by decide))
      | (with_reducible apply Within.on (m := 0x800000000000000000000008000200000000000000000000000000000000000002) (wear_within _ _ _) (by decide))
      | fail_if_no_progress with_reducible apply Within.upd (by rw [pick_800000000000000000000008000200000000000000000000000000000000000002]))

theorem programPage_regs (s : State) (mp : Nat) (p : MPage) {ks : List Field} (h1
    : Reg.TELEM_BLK_OVF_OVF ∈ ks) : onlyRegs ks s (@State.programPage s mp p) := by
  unfold State.programPage
  repeat' (first
      | (with_reducible apply onlyRegs.rfl)
      | (with_reducible assumption)
      | (with_reducible exact List.mem_cons_self)
      | (with_reducible apply List.mem_cons_of_mem)
      | (with_reducible apply onlyRegs.on (closeStripe_regs _ _ _ ?_))
      | (with_reducible apply onlyRegs.on (teleAppend_regs _ _ ?_))
      | (with_reducible apply onlyRegs.keep (wear_within _ _ _) (by decide))
      | fail_if_no_progress with_reducible apply onlyRegs.upd)

theorem pick_200000000000000000000000000000000000000000000 (s t : State) : State.pick 0x200000000000000000000000000000000000000000000 s t = { s with
    xlat := { s.xlat with seq := t.xlat.seq } } := rfl

theorem takeSeq_within (s : State) : Within 0x200000000000000000000000000000000000000000000 s
    (@State.takeSeq s).1 := by
  unfold State.takeSeq
  repeat' (first
      | with_reducible apply Within.rfl
      | fail_if_no_progress with_reducible apply Within.upd (by rw [pick_200000000000000000000000000000000000000000000]))

theorem pick_800000000000000000000228000200000000000000000000000000000000000002 (s t : State) : State.pick 0x800000000000000000000228000200000000000000000000000000000000000002 s t = { s with
    regs := t.regs, pages := t.pages,
    xlat := { s.xlat with blocks := t.xlat.blocks, opens := t.xlat.opens, seq := t.xlat.seq },
    telem := { s.telem with counts := t.telem.counts } } := rfl

theorem fillStripe_within (s : State) (hot : Bool) (course : Nat) (o : OpenBlock) :
    Within 0x800000000000000000000228000200000000000000000000000000000000000002 s
    (@State.fillStripe s hot course o) := by
  unfold State.fillStripe
  repeat' (first
      | extract_lets
      | with_reducible apply Within.ite <;> intro _
      | with_reducible apply Within.rfl
      | (with_reducible apply Within.on (m := 0x800000000000000000000228000200000000000000000000000000000000000002) (takeSeq_within _) (by decide))
      | (with_reducible apply Within.on (m := 0x800000000000000000000228000200000000000000000000000000000000000002) (takePage_within _ _ _ _) (by decide))
      | (with_reducible apply Within.on (m := 0x800000000000000000000228000200000000000000000000000000000000000002) (programPage_within _ _ _) (by decide))
      | (with_reducible apply Within.foldl; intro t x)
      | with_reducible apply Within.of_fst (by assumption)
      | with_reducible apply Within.of_fst1 (by assumption)
      | split)

theorem fillStripe_regs (s : State) (hot : Bool) (course : Nat) (o : OpenBlock)
    {ks : List Field} (h1 : Reg.TELEM_BLK_OVF_OVF ∈ ks) : onlyRegs ks s (@State.fillStripe s hot
    course o) := by
  unfold State.fillStripe
  repeat' (first
      | (with_reducible apply onlyRegs.rfl)
      | extract_lets
      | (with_reducible assumption)
      | (with_reducible exact List.mem_cons_self)
      | (with_reducible apply List.mem_cons_of_mem)
      | (with_reducible apply onlyRegs.ite <;> intro _)
      | (with_reducible apply onlyRegs.keep (takeSeq_within _) (by decide))
      | (with_reducible apply onlyRegs.keep (takePage_within _ _ _ _) (by decide))
      | (with_reducible apply onlyRegs.on (programPage_regs _ _ _ ?_))
      | (with_reducible apply onlyRegs.foldl; intro t x)
      | with_reducible apply onlyRegs.of_fst (by assumption)
      | with_reducible apply onlyRegs.of_fst1 (by assumption)
      | split)

theorem pick_800000000000000003fffffe000000000000200000300000000000000000000002 (s t : State) : State.pick 0x800000000000000003fffffe000000000000200000300000000000000000000002 s t = { s with
    regs := t.regs, prot := { s.prot with lineCounters := t.prot.lineCounters, dirtyNodes := t.prot.dirtyNodes },
    merge := { s.merge with entries := t.merge.entries }, xlat := t.xlat,
    err := { s.err with poison := t.err.poison, poisonLost := t.err.poisonLost },
    telem := { s.telem with counts := t.telem.counts } } := rfl

theorem beginCopy_within (s : State) (why : CopyWhy) (lpn : Nat) (src : Option Nat)
    (t : State) (ht : (@State.beginCopy s why lpn src) = some t) : Within
    0x800000000000000003fffffe000000000000200000300000000000000000000002 s t := by
  unfold State.beginCopy at ht
  extract_lets at ht
  split at ht
  · cases ht
  · rename_i u dst h
    have h1 := nextPoolPage_within _ _ _ _ h
    simp only [Option.some.injEq] at ht
    subst ht
    refine Within.on (m := 0x800000000000000003fffffe000000000000200000300000000000000000000002) (t := u) ?_ (Nat.or_self _) (Within.on h1 (by decide) Within.rfl)
    repeat' (first
        | extract_lets
        | with_reducible apply Within.ite <;> intro _
        | with_reducible apply Within.rfl
        | (with_reducible apply Within.on (m := 0x800000000000000003fffffe000000000000200000300000000000000000000002) (takeSeq_within _) (by decide))
        | (with_reducible apply Within.on (m := 0x800000000000000003fffffe000000000000200000300000000000000000000002) (noteUnbuilt_within _ _ _ _) (by decide))
        | (with_reducible apply Within.on (m := 0x800000000000000003fffffe000000000000200000300000000000000000000002) (startDrains_within _ _) (by decide))
        | (with_reducible apply Within.on (m := 0x800000000000000003fffffe000000000000200000300000000000000000000002) (tele_within _ _ _ _ _) (by decide))
        | (with_reducible apply Within.on (m := 0x800000000000000003fffffe000000000000200000300000000000000000000002) (poolCounts_within _) (by decide))
        | (with_reducible apply Within.on (m := 0x800000000000000003fffffe000000000000200000300000000000000000000002) (mergeCounts_within _) (by decide))
        | fail_if_no_progress with_reducible apply Within.upd (by rw [pick_800000000000000003fffffe000000000000200000300000000000000000000002])
        | with_reducible apply Within.of_fst (by assumption)
        | with_reducible apply Within.of_fst1 (by assumption)
        | split)

theorem beginCopy_regs (s : State) (why : CopyWhy) (lpn : Nat) (src : Option Nat)
    (t : State) (ht : (@State.beginCopy s why lpn src) = some t) {ks : List Field} (h1 :
    Reg.ERR_HEALTH_EVENT_POISON_FULL ∈ ks) (h2 : Reg.ERR_POISON_LIST_OVERFLOW ∈ ks) (h3 : Reg.ERR_POISON_LIST_RECORDS
    ∈ ks) (h4 : Reg.MERGE_PARTIAL_LINES ∈ ks) (h5 : Reg.MERGE_SETTLING_LINES ∈ ks) (h6 : Reg.MERGE_STATUS_DIRTY ∈ ks)
    (h7 : Reg.MERGE_STATUS_LIMIT ∈ ks) (h8 : Reg.PROT_INTEG_DIRTY_LINES ∈ ks) (h9 : Reg.TELEM_BLK_OVF_OVF ∈ ks) (h10 :
    Reg.XLAT_COLD_COUNT_BLOCKS ∈ ks) (h11 : Reg.XLAT_HOT_COUNT_BLOCKS ∈ ks) (h12 : Reg.XLAT_LIFTED_PAGES ∈ ks) (h13 :
    Reg.XLAT_MOVES_ACTIVE ∈ ks) (h14 : Reg.XLAT_MOVES_QUEUED ∈ ks) (h15 : Reg.XLAT_PINNED_LINES ∈ ks) (h16 :
    Reg.XLAT_POOL_STATUS_FREE ∈ ks) : onlyRegs ks s t := by
  unfold State.beginCopy at ht
  repeat' (first | extract_lets at ht | (cases ht; done) | (simp only [Option.some.injEq, Prod.mk.injEq] at ht; obtain ⟨ht, -⟩ := ht; subst ht) | (simp only [Option.some.injEq] at ht; subst ht) | split at ht)
  all_goals repeat' (first
      | (with_reducible apply onlyRegs.rfl)
      | extract_lets
      | (with_reducible assumption)
      | (with_reducible exact List.mem_cons_self)
      | (with_reducible apply List.mem_cons_of_mem)
      | (with_reducible apply onlyRegs.ite <;> intro _)
      | (with_reducible apply onlyRegs.keep (nextPoolPage_within _ _ _ _ (by assumption)) (by decide))
      | (with_reducible apply onlyRegs.keep (takeSeq_within _) (by decide))
      | (with_reducible apply onlyRegs.on (noteUnbuilt_regs _ _ _ _ ?_ ?_ ?_))
      | (with_reducible apply onlyRegs.on (startDrains_regs _ _ ?_ ?_ ?_ ?_ ?_))
      | (with_reducible apply onlyRegs.on (tele_regs _ _ _ _ _ ?_))
      | (with_reducible apply onlyRegs.on (poolCounts_regs _ ?_ ?_ ?_ ?_ ?_ ?_))
      | (with_reducible apply onlyRegs.on (mergeCounts_regs _ ?_ ?_ ?_ ?_ ?_))
      | fail_if_no_progress with_reducible apply onlyRegs.upd
      | with_reducible apply onlyRegs.of_fst (by assumption)
      | with_reducible apply onlyRegs.of_fst1 (by assumption)
      | split)

theorem pick_18000000000000000000000000000000000000000000 (s t : State) : State.pick 0x18000000000000000000000000000000000000000000 s t = { s with
    xlat := { s.xlat with blocks := t.xlat.blocks, valid := t.xlat.valid } } := rfl

theorem invalidate_within (s : State) (mp : Nat) : Within
    0x18000000000000000000000000000000000000000000 s (@State.invalidate s mp) := by
  unfold State.invalidate
  repeat' (first
      | extract_lets
      | with_reducible apply Within.ite <;> intro _
      | with_reducible apply Within.rfl
      | (with_reducible apply Within.on (m := 0x18000000000000000000000000000000000000000000) (setBlock_within _ _ _) (by decide))
      | fail_if_no_progress with_reducible apply Within.upd (by rw [pick_18000000000000000000000000000000000000000000]))

theorem validate_within (s : State) (mp : Nat) : Within
    0x18000000000000000000000000000000000000000000 s (@State.validate s mp) := by
  unfold State.validate
  repeat' (first
      | extract_lets
      | with_reducible apply Within.rfl
      | (with_reducible apply Within.on (m := 0x18000000000000000000000000000000000000000000) (setBlock_within _ _ _) (by decide))
      | fail_if_no_progress with_reducible apply Within.upd (by rw [pick_18000000000000000000000000000000000000000000]))

theorem pick_1e000000000000200000000000000000000000000002 (s t : State) : State.pick 0x1e000000000000200000000000000000000000000002 s t = { s with
    regs := t.regs, merge := { s.merge with entries := t.merge.entries },
    xlat := { s.xlat with
      tracts := t.xlat.tracts, fluid := t.xlat.fluid, blocks := t.xlat.blocks, valid := t.xlat.valid } } := rfl

theorem setFluid_within (s : State) (lpn : Nat) (mp : Nat) (recent : Bool) : Within
    0x1e000000000000200000000000000000000000000002 s (@State.setFluid s lpn mp recent) := by
  unfold State.setFluid
  repeat' (first
      | extract_lets
      | with_reducible apply Within.rfl
      | (with_reducible apply Within.on (m := 0x1e000000000000200000000000000000000000000002) (invalidate_within _ _) (by decide))
      | (with_reducible apply Within.on (m := 0x1e000000000000200000000000000000000000000002) (setBlock_within _ _ _) (by decide))
      | (with_reducible apply Within.on (m := 0x1e000000000000200000000000000000000000000002) (poolCounts_within _) (by decide))
      | (with_reducible apply Within.on (m := 0x1e000000000000200000000000000000000000000002) (retarget_within _ _) (by decide))
      | (with_reducible apply Within.on (m := 0x1e000000000000200000000000000000000000000002) (validate_within _ _) (by decide))
      | (with_reducible apply Within.on (m := 0x1e000000000000200000000000000000000000000002) (setTract_within _ _ _) (by decide))
      | fail_if_no_progress with_reducible apply Within.upd (by rw [pick_1e000000000000200000000000000000000000000002])
      | with_reducible apply Within.of_fst (by assumption)
      | with_reducible apply Within.of_fst1 (by assumption)
      | split
      | dsimp +zetaDelta only)

theorem setFluid_regs (s : State) (lpn : Nat) (mp : Nat) (recent : Bool) {ks : List Field} (h1 :
    Reg.XLAT_COLD_COUNT_BLOCKS ∈ ks) (h2 : Reg.XLAT_HOT_COUNT_BLOCKS ∈ ks) (h3 : Reg.XLAT_LIFTED_PAGES ∈ ks) (h4 :
    Reg.XLAT_MOVES_ACTIVE ∈ ks) (h5 : Reg.XLAT_MOVES_QUEUED ∈ ks) (h6 : Reg.XLAT_POOL_STATUS_FREE ∈ ks) : onlyRegs ks s
    (@State.setFluid s lpn mp recent) := by
  unfold State.setFluid
  repeat' (first
      | (with_reducible apply onlyRegs.rfl)
      | extract_lets
      | (with_reducible assumption)
      | (with_reducible exact List.mem_cons_self)
      | (with_reducible apply List.mem_cons_of_mem)
      | (with_reducible apply onlyRegs.keep (invalidate_within _ _) (by decide))
      | (with_reducible apply onlyRegs.keep (setBlock_within _ _ _) (by decide))
      | (with_reducible apply onlyRegs.on (poolCounts_regs _ ?_ ?_ ?_ ?_ ?_ ?_))
      | (with_reducible apply onlyRegs.keep (retarget_within _ _) (by decide))
      | (with_reducible apply onlyRegs.keep (validate_within _ _) (by decide))
      | (with_reducible apply onlyRegs.keep (setTract_within _ _ _) (by decide))
      | fail_if_no_progress with_reducible apply onlyRegs.upd
      | with_reducible apply onlyRegs.of_fst (by assumption)
      | with_reducible apply onlyRegs.of_fst1 (by assumption)
      | split
      | dsimp +zetaDelta only)

theorem dropFluid_within (s : State) (lpn : Nat) : Within
    0x1e000000000000200000000000000000000000000002 s (@State.dropFluid s lpn) := by
  unfold State.dropFluid
  repeat' (first
      | extract_lets
      | with_reducible apply Within.rfl
      | (with_reducible apply Within.on (m := 0x1e000000000000200000000000000000000000000002) (invalidate_within _ _) (by decide))
      | (with_reducible apply Within.on (m := 0x1e000000000000200000000000000000000000000002) (setBlock_within _ _ _) (by decide))
      | (with_reducible apply Within.on (m := 0x1e000000000000200000000000000000000000000002) (poolCounts_within _) (by decide))
      | (with_reducible apply Within.on (m := 0x1e000000000000200000000000000000000000000002) (retarget_within _ _) (by decide))
      | (with_reducible apply Within.on (m := 0x1e000000000000200000000000000000000000000002) (setTract_within _ _ _) (by decide))
      | fail_if_no_progress with_reducible apply Within.upd (by rw [pick_1e000000000000200000000000000000000000000002])
      | with_reducible apply Within.of_fst (by assumption)
      | with_reducible apply Within.of_fst1 (by assumption)
      | split)

theorem dropFluid_regs (s : State) (lpn : Nat) {ks : List Field} (h1 : Reg.XLAT_COLD_COUNT_BLOCKS ∈
    ks) (h2 : Reg.XLAT_HOT_COUNT_BLOCKS ∈ ks) (h3 : Reg.XLAT_LIFTED_PAGES ∈ ks) (h4 : Reg.XLAT_MOVES_ACTIVE ∈ ks) (h5
    : Reg.XLAT_MOVES_QUEUED ∈ ks) (h6 : Reg.XLAT_POOL_STATUS_FREE ∈ ks) : onlyRegs ks s
    (@State.dropFluid s lpn) := by
  unfold State.dropFluid
  repeat' (first
      | (with_reducible apply onlyRegs.rfl)
      | extract_lets
      | (with_reducible assumption)
      | (with_reducible exact List.mem_cons_self)
      | (with_reducible apply List.mem_cons_of_mem)
      | (with_reducible apply onlyRegs.keep (invalidate_within _ _) (by decide))
      | (with_reducible apply onlyRegs.keep (setBlock_within _ _ _) (by decide))
      | (with_reducible apply onlyRegs.on (poolCounts_regs _ ?_ ?_ ?_ ?_ ?_ ?_))
      | (with_reducible apply onlyRegs.keep (retarget_within _ _) (by decide))
      | (with_reducible apply onlyRegs.keep (setTract_within _ _ _) (by decide))
      | fail_if_no_progress with_reducible apply onlyRegs.upd
      | with_reducible apply onlyRegs.of_fst (by assumption)
      | with_reducible apply onlyRegs.of_fst1 (by assumption)
      | split)

theorem pick_800000000000000003004200000000000000200000300000000000000000000002 (s t : State) : State.pick 0x800000000000000003004200000000000000200000300000000000000000000002 s t = { s with
    regs := t.regs, prot := { s.prot with lineCounters := t.prot.lineCounters, dirtyNodes := t.prot.dirtyNodes },
    merge := { s.merge with entries := t.merge.entries },
    xlat := { s.xlat with seq := t.xlat.seq, settles := t.xlat.settles },
    err := { s.err with poison := t.err.poison, poisonLost := t.err.poisonLost },
    telem := { s.telem with counts := t.telem.counts } } := rfl

theorem beginSettle_within (s : State) (lpn : Nat) : Within
    0x800000000000000003004200000000000000200000300000000000000000000002 s
    (@State.beginSettle s lpn) := by
  unfold State.beginSettle
  repeat' (first
      | extract_lets
      | with_reducible apply Within.ite <;> intro _
      | with_reducible apply Within.rfl
      | (with_reducible apply Within.on (m := 0x800000000000000003004200000000000000200000300000000000000000000002) (takeSeq_within _) (by decide))
      | (with_reducible apply Within.on (m := 0x800000000000000003004200000000000000200000300000000000000000000002) (noteUnbuilt_within _ _ _ _) (by decide))
      | (with_reducible apply Within.on (m := 0x800000000000000003004200000000000000200000300000000000000000000002) (startDrains_within _ _) (by decide))
      | (with_reducible apply Within.on (m := 0x800000000000000003004200000000000000200000300000000000000000000002) (mergeCounts_within _) (by decide))
      | fail_if_no_progress with_reducible apply Within.upd (by rw [pick_800000000000000003004200000000000000200000300000000000000000000002])
      | with_reducible apply Within.of_fst (by assumption)
      | with_reducible apply Within.of_fst1 (by assumption)
      | split)

theorem beginSettle_regs (s : State) (lpn : Nat) {ks : List Field} (h1 :
    Reg.ERR_HEALTH_EVENT_POISON_FULL ∈ ks) (h2 : Reg.ERR_POISON_LIST_OVERFLOW ∈ ks) (h3 : Reg.ERR_POISON_LIST_RECORDS
    ∈ ks) (h4 : Reg.MERGE_PARTIAL_LINES ∈ ks) (h5 : Reg.MERGE_SETTLING_LINES ∈ ks) (h6 : Reg.MERGE_STATUS_DIRTY ∈ ks)
    (h7 : Reg.MERGE_STATUS_LIMIT ∈ ks) (h8 : Reg.PROT_INTEG_DIRTY_LINES ∈ ks) (h9 : Reg.TELEM_BLK_OVF_OVF ∈ ks) (h10 :
    Reg.XLAT_PINNED_LINES ∈ ks) : onlyRegs ks s (@State.beginSettle s lpn) := by
  unfold State.beginSettle
  repeat' (first
      | (with_reducible apply onlyRegs.rfl)
      | extract_lets
      | (with_reducible assumption)
      | (with_reducible exact List.mem_cons_self)
      | (with_reducible apply List.mem_cons_of_mem)
      | (with_reducible apply onlyRegs.ite <;> intro _)
      | (with_reducible apply onlyRegs.keep (takeSeq_within _) (by decide))
      | (with_reducible apply onlyRegs.on (noteUnbuilt_regs _ _ _ _ ?_ ?_ ?_))
      | (with_reducible apply onlyRegs.on (startDrains_regs _ _ ?_ ?_ ?_ ?_ ?_))
      | (with_reducible apply onlyRegs.on (mergeCounts_regs _ ?_ ?_ ?_ ?_ ?_))
      | fail_if_no_progress with_reducible apply onlyRegs.upd
      | with_reducible apply onlyRegs.of_fst (by assumption)
      | with_reducible apply onlyRegs.of_fst1 (by assumption)
      | split)

theorem pick_1c0a000000000000200000000000000000000000000002 (s t : State) : State.pick 0x1c0a000000000000200000000000000000000000000002 s t = { s with
    regs := t.regs, merge := { s.merge with entries := t.merge.entries },
    xlat := { s.xlat with
      tracts := t.xlat.tracts, blocks := t.xlat.blocks, sbe := t.xlat.sbe, moves := t.xlat.moves,
      moveQ := t.xlat.moveQ } } := rfl

theorem startMove_within (s : State) (t0 : Nat) (why : MoveWhy) (t : State) (ht :
    (@State.startMove s t0 why) = some t) : Within
    0x1c0a000000000000200000000000000000000000000002 s t := by
  unfold State.startMove at ht
  repeat' (first | extract_lets at ht | (cases ht; done) | (simp only [Option.some.injEq, Prod.mk.injEq] at ht; obtain ⟨ht, -⟩ := ht; subst ht) | (simp only [Option.some.injEq] at ht; subst ht) | split at ht)
  all_goals repeat' (first
      | extract_lets
      | with_reducible apply Within.rfl
      | (with_reducible apply Within.on (m := 0x1c0a000000000000200000000000000000000000000002) (setBlock_within _ _ _) (by decide))
      | (with_reducible apply Within.on (m := 0x1c0a000000000000200000000000000000000000000002) (setTract_within _ _ _) (by decide))
      | (with_reducible apply Within.on (m := 0x1c0a000000000000200000000000000000000000000002) (poolCounts_within _) (by decide))
      | (with_reducible apply Within.on (m := 0x1c0a000000000000200000000000000000000000000002) (retarget_within _ _) (by decide))
      | fail_if_no_progress with_reducible apply Within.upd (by rw [pick_1c0a000000000000200000000000000000000000000002]))

theorem startMove_regs (s : State) (t0 : Nat) (why : MoveWhy) (t : State) (ht :
    (@State.startMove s t0 why) = some t) {ks : List Field} (h1 : Reg.XLAT_COLD_COUNT_BLOCKS ∈ ks)
    (h2 : Reg.XLAT_HOT_COUNT_BLOCKS ∈ ks) (h3 : Reg.XLAT_LIFTED_PAGES ∈ ks) (h4 : Reg.XLAT_MOVES_ACTIVE ∈ ks) (h5 :
    Reg.XLAT_MOVES_QUEUED ∈ ks) (h6 : Reg.XLAT_POOL_STATUS_FREE ∈ ks) : onlyRegs ks s t := by
  unfold State.startMove at ht
  repeat' (first | extract_lets at ht | (cases ht; done) | (simp only [Option.some.injEq, Prod.mk.injEq] at ht; obtain ⟨ht, -⟩ := ht; subst ht) | (simp only [Option.some.injEq] at ht; subst ht) | split at ht)
  all_goals repeat' (first
      | (with_reducible apply onlyRegs.rfl)
      | extract_lets
      | (with_reducible assumption)
      | (with_reducible exact List.mem_cons_self)
      | (with_reducible apply List.mem_cons_of_mem)
      | (with_reducible apply onlyRegs.keep (setBlock_within _ _ _) (by decide))
      | (with_reducible apply onlyRegs.keep (setTract_within _ _ _) (by decide))
      | (with_reducible apply onlyRegs.on (poolCounts_regs _ ?_ ?_ ?_ ?_ ?_ ?_))
      | (with_reducible apply onlyRegs.keep (retarget_within _ _) (by decide))
      | fail_if_no_progress with_reducible apply onlyRegs.upd)

theorem pick_800000000000000003000200000000000000200000300000000000000000000002 (s t : State) : State.pick 0x800000000000000003000200000000000000200000300000000000000000000002 s t = { s with
    regs := t.regs, prot := { s.prot with lineCounters := t.prot.lineCounters, dirtyNodes := t.prot.dirtyNodes },
    merge := { s.merge with entries := t.merge.entries }, xlat := { s.xlat with seq := t.xlat.seq },
    err := { s.err with poison := t.err.poison, poisonLost := t.err.poisonLost },
    telem := { s.telem with counts := t.telem.counts } } := rfl

theorem loadStripe_within (s : State) (m : Move) : Within
    0x800000000000000003000200000000000000200000300000000000000000000002 s
    (@State.loadStripe s m).1 := by
  unfold State.loadStripe
  repeat' (first
      | extract_lets
      | with_reducible apply Within.ite <;> intro _
      | with_reducible apply Within.ite1 <;> intro _
      | with_reducible apply Within.rfl
      | (with_reducible apply Within.on (m := 0x800000000000000003000200000000000000200000300000000000000000000002) (takeSeq_within _) (by decide))
      | (with_reducible apply Within.on (m := 0x800000000000000003000200000000000000200000300000000000000000000002) (noteUnbuilt_within _ _ _ _) (by decide))
      | (with_reducible apply Within.on (m := 0x800000000000000003000200000000000000200000300000000000000000000002) (startDrains_within _ _) (by decide))
      | (with_reducible apply Within.foldl1; intro t x))

theorem loadStripe_regs (s : State) (m : Move) {ks : List Field} (h1 :
    Reg.ERR_HEALTH_EVENT_POISON_FULL ∈ ks) (h2 : Reg.ERR_POISON_LIST_OVERFLOW ∈ ks) (h3 : Reg.ERR_POISON_LIST_RECORDS
    ∈ ks) (h4 : Reg.PROT_INTEG_DIRTY_LINES ∈ ks) (h5 : Reg.TELEM_BLK_OVF_OVF ∈ ks) : onlyRegs ks s
    (@State.loadStripe s m).1 := by
  unfold State.loadStripe
  repeat' (first
      | (with_reducible apply onlyRegs.rfl)
      | extract_lets
      | (with_reducible assumption)
      | (with_reducible exact List.mem_cons_self)
      | (with_reducible apply List.mem_cons_of_mem)
      | (with_reducible apply onlyRegs.ite <;> intro _)
      | (with_reducible apply onlyRegs.ite1 <;> intro _)
      | (with_reducible apply onlyRegs.keep (takeSeq_within _) (by decide))
      | (with_reducible apply onlyRegs.on (noteUnbuilt_regs _ _ _ _ ?_ ?_ ?_))
      | (with_reducible apply onlyRegs.on (startDrains_regs _ _ ?_ ?_ ?_ ?_ ?_))
      | fail_if_no_progress with_reducible apply onlyRegs.upd
      | with_reducible apply onlyRegs.of_fst (by assumption)
      | (with_reducible apply onlyRegs.foldlP (π := Prod.fst); intro t x))

theorem pick_800000000000000003000a00000000000000200000300000000000000000000002 (s t : State) : State.pick 0x800000000000000003000a00000000000000200000300000000000000000000002 s t = { s with
    regs := t.regs, prot := { s.prot with lineCounters := t.prot.lineCounters, dirtyNodes := t.prot.dirtyNodes },
    merge := { s.merge with entries := t.merge.entries },
    xlat := { s.xlat with seq := t.xlat.seq, moves := t.xlat.moves },
    err := { s.err with poison := t.err.poison, poisonLost := t.err.poisonLost },
    telem := { s.telem with counts := t.telem.counts } } := rfl

theorem loadMoves_within (s : State) : Within
    0x800000000000000003000a00000000000000200000300000000000000000000002 s
    (@State.loadMoves s) := by
  unfold State.loadMoves
  repeat' (first
      | extract_lets
      | with_reducible apply Within.ite1 <;> intro _
      | with_reducible apply Within.rfl
      | (with_reducible apply Within.on (m := 0x800000000000000003000a00000000000000200000300000000000000000000002) (loadStripe_within _ _) (by decide))
      | (with_reducible apply Within.on (m := 0x800000000000000003000a00000000000000200000300000000000000000000002) (mergeCounts_within _) (by decide))
      | (with_reducible apply Within.foldl1; intro t x)
      | fail_if_no_progress with_reducible apply Within.upd (by rw [pick_800000000000000003000a00000000000000200000300000000000000000000002]))

theorem loadMoves_regs (s : State) {ks : List Field} (h1 : Reg.ERR_HEALTH_EVENT_POISON_FULL ∈ ks)
    (h2 : Reg.ERR_POISON_LIST_OVERFLOW ∈ ks) (h3 : Reg.ERR_POISON_LIST_RECORDS ∈ ks) (h4 : Reg.MERGE_PARTIAL_LINES ∈
    ks) (h5 : Reg.MERGE_SETTLING_LINES ∈ ks) (h6 : Reg.MERGE_STATUS_DIRTY ∈ ks) (h7 : Reg.MERGE_STATUS_LIMIT ∈ ks) (h8
    : Reg.PROT_INTEG_DIRTY_LINES ∈ ks) (h9 : Reg.TELEM_BLK_OVF_OVF ∈ ks) (h10 : Reg.XLAT_PINNED_LINES ∈ ks) : onlyRegs
    ks s (@State.loadMoves s) := by
  unfold State.loadMoves
  repeat' (first
      | (with_reducible apply onlyRegs.rfl)
      | extract_lets
      | (with_reducible assumption)
      | (with_reducible exact List.mem_cons_self)
      | (with_reducible apply List.mem_cons_of_mem)
      | (with_reducible apply onlyRegs.ite1 <;> intro _)
      | (with_reducible apply onlyRegs.on (loadStripe_regs _ _ ?_ ?_ ?_ ?_ ?_))
      | (with_reducible apply onlyRegs.on (mergeCounts_regs _ ?_ ?_ ?_ ?_ ?_))
      | fail_if_no_progress with_reducible apply onlyRegs.upd
      | with_reducible apply onlyRegs.of_fst (by assumption)
      | (with_reducible apply onlyRegs.foldlP (π := Prod.fst); intro t x))

theorem startEvac_within (s : State) : Within 0x1c0a000000000000200000000000000000000000000002
    s (@State.startEvac s) := by
  unfold State.startEvac
  repeat' (first
      | with_reducible apply Within.ite <;> intro _
      | with_reducible apply Within.rfl
      | (with_reducible apply Within.on (m := 0x1c0a000000000000200000000000000000000000000002) (startMove_within _ _ _ _ (by assumption)) (by decide))
      | with_reducible apply Within.of_fst (by assumption)
      | with_reducible apply Within.of_fst1 (by assumption)
      | with_reducible apply Within.getD; intro t ht
      | split)

theorem startEvac_regs (s : State) {ks : List Field} (h1 : Reg.XLAT_COLD_COUNT_BLOCKS ∈ ks) (h2 :
    Reg.XLAT_HOT_COUNT_BLOCKS ∈ ks) (h3 : Reg.XLAT_LIFTED_PAGES ∈ ks) (h4 : Reg.XLAT_MOVES_ACTIVE ∈ ks) (h5 :
    Reg.XLAT_MOVES_QUEUED ∈ ks) (h6 : Reg.XLAT_POOL_STATUS_FREE ∈ ks) : onlyRegs ks s
    (@State.startEvac s) := by
  unfold State.startEvac
  repeat' (first
      | (with_reducible apply onlyRegs.rfl)
      | (with_reducible assumption)
      | (with_reducible exact List.mem_cons_self)
      | (with_reducible apply List.mem_cons_of_mem)
      | (with_reducible apply onlyRegs.ite <;> intro _)
      | (with_reducible apply onlyRegs.on (startMove_regs _ _ _ _ (by assumption) ?_ ?_ ?_ ?_ ?_ ?_))
      | with_reducible apply onlyRegs.of_fst (by assumption)
      | with_reducible apply onlyRegs.of_fst1 (by assumption)
      | with_reducible apply onlyRegs.getD; intro t ht
      | split)

theorem startWear_within (s : State) : Within 0x1c0a000000000000200000000000000000000000000002
    s (@State.startWear s) := by
  unfold State.startWear
  repeat' (first
      | with_reducible apply Within.ite <;> intro _
      | with_reducible apply Within.rfl
      | (with_reducible apply Within.on (m := 0x1c0a000000000000200000000000000000000000000002) (startMove_within _ _ _ _ (by assumption)) (by decide))
      | (with_reducible apply Within.foldl; intro t x)
      | with_reducible apply Within.getD; intro t ht)

theorem startWear_regs (s : State) {ks : List Field} (h1 : Reg.XLAT_COLD_COUNT_BLOCKS ∈ ks) (h2 :
    Reg.XLAT_HOT_COUNT_BLOCKS ∈ ks) (h3 : Reg.XLAT_LIFTED_PAGES ∈ ks) (h4 : Reg.XLAT_MOVES_ACTIVE ∈ ks) (h5 :
    Reg.XLAT_MOVES_QUEUED ∈ ks) (h6 : Reg.XLAT_POOL_STATUS_FREE ∈ ks) : onlyRegs ks s
    (@State.startWear s) := by
  unfold State.startWear
  repeat' (first
      | (with_reducible apply onlyRegs.rfl)
      | (with_reducible assumption)
      | (with_reducible exact List.mem_cons_self)
      | (with_reducible apply List.mem_cons_of_mem)
      | (with_reducible apply onlyRegs.ite <;> intro _)
      | (with_reducible apply onlyRegs.on (startMove_regs _ _ _ _ (by assumption) ?_ ?_ ?_ ?_ ?_ ?_))
      | (with_reducible apply onlyRegs.foldl; intro t x)
      | with_reducible apply onlyRegs.getD; intro t ht)

theorem startRekey_within (s : State) : Within
    0x800000000000000003fffffe000000000000200000300000000000000000000002 s
    (@State.startRekey s) := by
  unfold State.startRekey
  repeat' (first
      | with_reducible apply Within.ite <;> intro _
      | with_reducible apply Within.rfl
      | (with_reducible apply Within.on (m := 0x800000000000000003fffffe000000000000200000300000000000000000000002) (beginSettle_within _ _) (by decide))
      | (with_reducible apply Within.on (m := 0x800000000000000003fffffe000000000000200000300000000000000000000002) (beginCopy_within _ _ _ _ _ (by assumption)) (by decide))
      | (with_reducible apply Within.on (m := 0x800000000000000003fffffe000000000000200000300000000000000000000002) (startMove_within _ _ _ _ (by assumption)) (by decide))
      | (with_reducible apply Within.foldl; intro t x)
      | with_reducible apply Within.of_fst (by assumption)
      | with_reducible apply Within.of_fst1 (by assumption)
      | with_reducible apply Within.getD; intro t ht
      | split)

theorem startRekey_regs (s : State) {ks : List Field} (h1 : Reg.ERR_HEALTH_EVENT_POISON_FULL ∈ ks)
    (h2 : Reg.ERR_POISON_LIST_OVERFLOW ∈ ks) (h3 : Reg.ERR_POISON_LIST_RECORDS ∈ ks) (h4 : Reg.MERGE_PARTIAL_LINES ∈
    ks) (h5 : Reg.MERGE_SETTLING_LINES ∈ ks) (h6 : Reg.MERGE_STATUS_DIRTY ∈ ks) (h7 : Reg.MERGE_STATUS_LIMIT ∈ ks) (h8
    : Reg.PROT_INTEG_DIRTY_LINES ∈ ks) (h9 : Reg.TELEM_BLK_OVF_OVF ∈ ks) (h10 : Reg.XLAT_COLD_COUNT_BLOCKS ∈ ks) (h11
    : Reg.XLAT_HOT_COUNT_BLOCKS ∈ ks) (h12 : Reg.XLAT_LIFTED_PAGES ∈ ks) (h13 : Reg.XLAT_MOVES_ACTIVE ∈ ks) (h14 :
    Reg.XLAT_MOVES_QUEUED ∈ ks) (h15 : Reg.XLAT_PINNED_LINES ∈ ks) (h16 : Reg.XLAT_POOL_STATUS_FREE ∈ ks) : onlyRegs ks
    s (@State.startRekey s) := by
  unfold State.startRekey
  repeat' (first
      | (with_reducible apply onlyRegs.rfl)
      | (with_reducible assumption)
      | (with_reducible exact List.mem_cons_self)
      | (with_reducible apply List.mem_cons_of_mem)
      | (with_reducible apply onlyRegs.ite <;> intro _)
      | (with_reducible apply onlyRegs.on (beginSettle_regs _ _ ?_ ?_ ?_ ?_ ?_ ?_ ?_ ?_ ?_ ?_))
      | (with_reducible apply onlyRegs.on (beginCopy_regs _ _ _ _ _ (by assumption) ?_ ?_ ?_ ?_ ?_ ?_ ?_ ?_ ?_ ?_ ?_ ?_ ?_ ?_ ?_ ?_))
      | (with_reducible apply onlyRegs.on (startMove_regs _ _ _ _ (by assumption) ?_ ?_ ?_ ?_ ?_ ?_))
      | (with_reducible apply onlyRegs.foldl; intro t x)
      | with_reducible apply onlyRegs.of_fst (by assumption)
      | with_reducible apply onlyRegs.of_fst1 (by assumption)
      | with_reducible apply onlyRegs.getD; intro t ht
      | split)

theorem pick_1002000000000000000000000000000000000000000002 (s t : State) : State.pick 0x1002000000000000000000000000000000000000000002 s t = { s with
    regs := t.regs, xlat := { s.xlat with tracts := t.xlat.tracts, moveQ := t.xlat.moveQ } } := rfl

theorem queueMove_within (s : State) (t0 : Nat) : Within
    0x1002000000000000000000000000000000000000000002 s (@State.queueMove s t0) := by
  unfold State.queueMove
  repeat' (first
      | extract_lets
      | with_reducible apply Within.ite <;> intro _
      | with_reducible apply Within.rfl
      | (with_reducible apply Within.on (m := 0x1002000000000000000000000000000000000000000002) (setTract_within _ _ _) (by decide))
      | (with_reducible apply Within.on (m := 0x1002000000000000000000000000000000000000000002) (poolCounts_within _) (by decide))
      | fail_if_no_progress with_reducible apply Within.upd (by rw [pick_1002000000000000000000000000000000000000000002]))

theorem queueMove_regs (s : State) (t0 : Nat) {ks : List Field} (h1 : Reg.XLAT_COLD_COUNT_BLOCKS ∈
    ks) (h2 : Reg.XLAT_HOT_COUNT_BLOCKS ∈ ks) (h3 : Reg.XLAT_LIFTED_PAGES ∈ ks) (h4 : Reg.XLAT_MOVES_ACTIVE ∈ ks) (h5
    : Reg.XLAT_MOVES_QUEUED ∈ ks) (h6 : Reg.XLAT_POOL_STATUS_FREE ∈ ks) : onlyRegs ks s
    (@State.queueMove s t0) := by
  unfold State.queueMove
  repeat' (first
      | (with_reducible apply onlyRegs.rfl)
      | extract_lets
      | (with_reducible assumption)
      | (with_reducible exact List.mem_cons_self)
      | (with_reducible apply List.mem_cons_of_mem)
      | (with_reducible apply onlyRegs.ite <;> intro _)
      | (with_reducible apply onlyRegs.keep (setTract_within _ _ _) (by decide))
      | (with_reducible apply onlyRegs.on (poolCounts_regs _ ?_ ?_ ?_ ?_ ?_ ?_))
      | fail_if_no_progress with_reducible apply onlyRegs.upd)

end Sys2Proof.Machine
end

