-- ==== Sys2Proof/Laws/SchedFamilyFrames.lean ====
section
/-! SUPPORT. For each function of Machine/SchedFamily.lean over the state: the part of the state outside which it changes
nothing (`…_within`), and the register fields that it may write (`…_regs`). -/

namespace Sys2Proof.Machine

set_option maxRecDepth 4000

theorem boundUpdate_within (s : State) : Within 2 s (@State.boundUpdate s) := by
  unfold State.boundUpdate
  repeat' (first
      | with_reducible apply Within.rfl
      | (with_reducible apply Within.on (m := 2) (setBit_within _ _ _ _ _) (by decide)))

theorem boundUpdate_regs (s : State) {ks : List Field} (h1 : Reg.SCHED_STATUS_BOUND_ACTIVE ∈ ks) :
    onlyRegs ks s (@State.boundUpdate s) := by
  unfold State.boundUpdate
  repeat' (first
      | (with_reducible apply onlyRegs.rfl)
      | (with_reducible assumption)
      | (with_reducible exact List.mem_cons_self)
      | (with_reducible apply List.mem_cons_of_mem)
      | (with_reducible apply onlyRegs.on (setBit_regs _ _ _ _ _ ?_)))

theorem pick_4000000000000000000000000000000000000000 (s t : State) : State.pick 0x4000000000000000000000000000000000000000 s t = { s with
    sched := { s.sched with last := t.sched.last } } := rfl

theorem notePlaced_within (s : State) (c : Nat) (stroke : Nat) (slot : Nat) : Within
    0x4000000000000000000000000000000000000000 s (@State.notePlaced s c stroke slot) := by
  unfold State.notePlaced
  repeat' (first
      | with_reducible apply Within.rfl
      | fail_if_no_progress with_reducible apply Within.upd (by rw [pick_4000000000000000000000000000000000000000]))

theorem putJob_within (s : State) (n : Nat) (j : Job) : Within
    0x8000000000000000000000000000000000000000 s (@State.putJob s n j) := by
  unfold State.putJob
  repeat' (first
      | with_reducible apply Within.rfl
      | fail_if_no_progress with_reducible apply Within.upd (by rw [pick_8000000000000000000000000000000000000000]))

theorem pick_108000000000000000000000000000000000000000 (s t : State) : State.pick 0x108000000000000000000000000000000000000000 s t = { s with
    sched := { s.sched with jobs := t.sched.jobs, moved := t.sched.moved } } := rfl

theorem dropJobNo_within (s : State) (n : Nat) : Within
    0x108000000000000000000000000000000000000000 s (@State.dropJobNo s n) := by
  unfold State.dropJobNo
  repeat' (first
      | with_reducible apply Within.rfl
      | fail_if_no_progress with_reducible apply Within.upd (by rw [pick_108000000000000000000000000000000000000000]))

theorem pick_400000000000000000000000000000000000000 (s t : State) : State.pick 0x400000000000000000000000000000000000000 s t = { s with
    ops := t.ops } := rfl

theorem suspendBank_within (s : State) (b : Nat) : Within
    0x400000000000000000000000000000000000000 s (@State.suspendBank s b) := by
  unfold State.suspendBank
  repeat' (first
      | with_reducible apply Within.ite <;> intro _
      | with_reducible apply Within.rfl
      | fail_if_no_progress with_reducible apply Within.upd (by rw [pick_400000000000000000000000000000000000000])
      | with_reducible apply Within.of_fst (by assumption)
      | with_reducible apply Within.of_fst1 (by assumption)
      | split)

theorem teleChan_within (s : State) (c : Nat) (code : Nat) (n : Nat) : Within
    0x800000000000000000000000000000000000000000000000000000000000000002 s
    (@State.teleChan s c code n) := by
  unfold State.teleChan
  repeat' (first
      | with_reducible apply Within.rfl
      | (with_reducible apply Within.on (m := 0x800000000000000000000000000000000000000000000000000000000000000002) (tele_within _ _ _ _ _) (by decide)))

theorem teleChan_regs (s : State) (c : Nat) (code : Nat) (n : Nat) {ks : List Field} (h1 :
    Reg.TELEM_BLK_OVF_OVF ∈ ks) : onlyRegs ks s (@State.teleChan s c code n) := by
  unfold State.teleChan
  repeat' (first
      | (with_reducible apply onlyRegs.rfl)
      | (with_reducible assumption)
      | (with_reducible exact List.mem_cons_self)
      | (with_reducible apply List.mem_cons_of_mem)
      | (with_reducible apply onlyRegs.on (tele_regs _ _ _ _ _ ?_)))

theorem forHost_within (s : State) (j : Job) (f : Req →
    Req) : Within 0x10000000000000000000000000000 s (@State.forHost s j f) :=
    by
  unfold State.forHost
  repeat' (first
      | with_reducible apply Within.rfl
      | (with_reducible apply Within.on (m := 0x10000000000000000000000000000) (setReq_within _ _ _) (by decide))
      | with_reducible apply Within.of_fst (by assumption)
      | with_reducible apply Within.of_fst1 (by assumption)
      | split)

theorem unbind_within (s : State) (j : Job) : Within
    0x10000000000000000000000000000 s (@State.unbind s j) := by
  unfold State.unbind
  repeat' (first
      | with_reducible apply Within.rfl
      | (with_reducible apply Within.on (m := 0x10000000000000000000000000000) (forHost_within _ _ _) (by decide)))

theorem pick_10000000000000000000000000002 (s t : State) : State.pick 0x10000000000000000000000000002 s t = { s with
    regs := t.regs, reqs := t.reqs } := rfl

theorem placedLate_within (s : State) (j : Job) : Within
    0x10000000000000000000000000002 s (@State.placedLate s j) := by
  unfold State.placedLate
  repeat' (first
      | with_reducible apply Within.rfl
      | (with_reducible apply Within.on (m := 0x10000000000000000000000000002) (bump_within _ _ _ _ _) (by decide))
      | (with_reducible apply Within.on (m := 0x10000000000000000000000000002) (forHost_within _ _ _) (by decide)))

theorem placedLate_regs (s : State) (j : Job) {ks : List Field} (h1 :
    Reg.SCHED_DEFER_CNT ∈ ks) : onlyRegs ks s (@State.placedLate s j) := by
  unfold State.placedLate
  repeat' (first
      | (with_reducible apply onlyRegs.rfl)
      | (with_reducible assumption)
      | (with_reducible exact List.mem_cons_self)
      | (with_reducible apply List.mem_cons_of_mem)
      | (with_reducible apply onlyRegs.on (bump_regs _ _ _ _ _ ?_))
      | (with_reducible apply onlyRegs.keep (forHost_within _ _ _) (by decide)))

theorem pick_200000000000000000000000000000000000000000 (s t : State) : State.pick 0x200000000000000000000000000000000000000000 s t = { s with
    sched := { s.sched with demand := t.sched.demand } } := rfl

theorem countDemand_within (s : State) (chans : List Nat) (host : Nat) : Within
    0x200000000000000000000000000000000000000000 s (@State.countDemand s chans host) := by
  unfold State.countDemand
  repeat' (first
      | extract_lets
      | with_reducible apply Within.rfl
      | (with_reducible apply Within.foldl; intro t x)
      | fail_if_no_progress with_reducible apply Within.upd (by rw [pick_200000000000000000000000000000000000000000]))

theorem testC1_within (s : State) (chans : List Nat) : Within 0x10000000000000000000000000000 s
    (@State.testC1 s chans) := by
  unfold State.testC1
  repeat' (first
      | extract_lets
      | with_reducible apply Within.ite <;> intro _
      | with_reducible apply Within.rfl
      | (with_reducible apply Within.on (m := 0x10000000000000000000000000000) (unbind_within _ _) (by decide))
      | (with_reducible apply Within.foldl; intro t x))

theorem pick_80000000000000000000000002c400000000010000000000000000000000000002 (s t : State) : State.pick 0x80000000000000000000000002c400000000010000000000000000000000000002 s t = { s with
    regs := t.regs, reqs := t.reqs, ops := t.ops,
    sched := { s.sched with last := t.sched.last, jobs := t.sched.jobs, late := t.sched.late },
    telem := { s.telem with counts := t.telem.counts } } := rfl

theorem place_within (s : State) (n : Nat) (j : Job) (t0 : Nat) : Within
    0x80000000000000000000000002c400000000010000000000000000000000000002 s (@State.place
    s n j t0) := by
  unfold State.place
  repeat' (first
      | extract_lets
      | with_reducible apply Within.ite <;> intro _
      | with_reducible apply Within.rfl
      | (with_reducible apply Within.on (m := 0x80000000000000000000000002c400000000010000000000000000000000000002) (putJob_within _ _ _) (by decide))
      | (with_reducible apply Within.on (m := 0x80000000000000000000000002c400000000010000000000000000000000000002) (notePlaced_within _ _ _ _) (by decide))
      | (with_reducible apply Within.on (m := 0x80000000000000000000000002c400000000010000000000000000000000000002) (teleChan_within _ _ _ _) (by decide))
      | (with_reducible apply Within.on (m := 0x80000000000000000000000002c400000000010000000000000000000000000002) (suspendBank_within _ _) (by decide))
      | (with_reducible apply Within.on (m := 0x80000000000000000000000002c400000000010000000000000000000000000002) (placedLate_within _ _) (by decide))
      | (with_reducible apply Within.on (m := 0x80000000000000000000000002c400000000010000000000000000000000000002) (bump_within _ _ _ _ _) (by decide))
      | fail_if_no_progress with_reducible apply Within.upd (by rw [pick_80000000000000000000000002c400000000010000000000000000000000000002])
      | with_reducible apply Within.of_fst (by assumption)
      | with_reducible apply Within.of_fst1 (by assumption)
      | split)

theorem place_regs (s : State) (n : Nat) (j : Job) (t0 : Nat) {ks : List Field}
    (h1 : Reg.SCHED_DEFER_CNT ∈ ks) (h2 : Reg.SCHED_HELD_CNT ∈ ks) (h3 : Reg.TELEM_BLK_OVF_OVF ∈ ks) : onlyRegs ks s
    (@State.place s n j t0) := by
  unfold State.place
  repeat' (first
      | (with_reducible apply onlyRegs.rfl)
      | extract_lets
      | (with_reducible assumption)
      | (with_reducible exact List.mem_cons_self)
      | (with_reducible apply List.mem_cons_of_mem)
      | (with_reducible apply onlyRegs.ite <;> intro _)
      | (with_reducible apply onlyRegs.keep (putJob_within _ _ _) (by decide))
      | (with_reducible apply onlyRegs.keep (notePlaced_within _ _ _ _) (by decide))
      | (with_reducible apply onlyRegs.on (teleChan_regs _ _ _ _ ?_))
      | (with_reducible apply onlyRegs.keep (suspendBank_within _ _) (by decide))
      | (with_reducible apply onlyRegs.on (placedLate_regs _ _ ?_))
      | (with_reducible apply onlyRegs.on (bump_regs _ _ _ _ _ ?_))
      | fail_if_no_progress with_reducible apply onlyRegs.upd
      | with_reducible apply onlyRegs.of_fst (by assumption)
      | with_reducible apply onlyRegs.of_fst1 (by assumption)
      | split)

theorem pick_80000000000000000000000023c400000000010000000000000000000000000002 (s t : State) : State.pick 0x80000000000000000000000023c400000000010000000000000000000000000002 s t = { s with
    regs := t.regs, reqs := t.reqs, ops := t.ops,
    sched := { s.sched with
      last := t.sched.last, jobs := t.sched.jobs, nextJob := t.sched.nextJob, late := t.sched.late,
      demand := t.sched.demand },
    telem := { s.telem with counts := t.telem.counts } } := rfl

theorem admitRead_within (s : State) (rid : Nat) (r : Req) (mp : Nat) (t0 : Nat) :
    Within 0x80000000000000000000000023c400000000010000000000000000000000000002 s
    (@State.admitRead s rid r mp t0) := by
  unfold State.admitRead
  repeat' (first
      | extract_lets
      | with_reducible apply Within.ite <;> intro _
      | with_reducible apply Within.rfl
      | (with_reducible apply Within.on (m := 0x80000000000000000000000023c400000000010000000000000000000000000002) (setReq_within _ _ _) (by decide))
      | (with_reducible apply Within.on (m := 0x80000000000000000000000023c400000000010000000000000000000000000002) (place_within _ _ _ _) (by decide))
      | (with_reducible apply Within.on (m := 0x80000000000000000000000023c400000000010000000000000000000000000002) (countDemand_within _ _ _) (by decide))
      | (with_reducible apply Within.on (m := 0x80000000000000000000000023c400000000010000000000000000000000000002) (testC1_within _ _) (by decide))
      | fail_if_no_progress with_reducible apply Within.upd (by rw [pick_80000000000000000000000023c400000000010000000000000000000000000002]))

theorem admitRead_regs (s : State) (rid : Nat) (r : Req) (mp : Nat) (t0 : Nat)
    {ks : List Field} (h1 : Reg.SCHED_DEFER_CNT ∈ ks) (h2 : Reg.SCHED_HELD_CNT ∈ ks) (h3 : Reg.TELEM_BLK_OVF_OVF ∈ ks)
    : onlyRegs ks s (@State.admitRead s rid r mp t0) := by
  unfold State.admitRead
  repeat' (first
      | (with_reducible apply onlyRegs.rfl)
      | extract_lets
      | (with_reducible assumption)
      | (with_reducible exact List.mem_cons_self)
      | (with_reducible apply List.mem_cons_of_mem)
      | (with_reducible apply onlyRegs.ite <;> intro _)
      | (with_reducible apply onlyRegs.keep (setReq_within _ _ _) (by decide))
      | (with_reducible apply onlyRegs.on (place_regs _ _ _ _ ?_ ?_ ?_))
      | (with_reducible apply onlyRegs.keep (countDemand_within _ _ _) (by decide))
      | (with_reducible apply onlyRegs.keep (testC1_within _ _) (by decide))
      | fail_if_no_progress with_reducible apply onlyRegs.upd)

theorem probe_within (s : State) (rid : Nat) (class4 : Bool) : Within
    0x10000000000000000000000000002 s (@State.probe s rid class4) := by
  unfold State.probe
  repeat' (first
      | with_reducible apply Within.ite <;> intro _
      | with_reducible apply Within.rfl
      | (with_reducible apply Within.on (m := 0x10000000000000000000000000002) (setReq_within _ _ _) (by decide))
      | (with_reducible apply Within.on (m := 0x10000000000000000000000000002) (bump_within _ _ _ _ _) (by decide))
      | fail_if_no_progress with_reducible apply Within.upd (by rw [pick_10000000000000000000000000002])
      | with_reducible apply Within.of_fst (by assumption)
      | with_reducible apply Within.of_fst1 (by assumption)
      | split)

theorem probe_regs (s : State) (rid : Nat) (class4 : Bool) {ks : List Field} (h1 :
    Reg.CACHE_RC_PROBE_SKIP_CNT ∈ ks) : onlyRegs ks s (@State.probe s rid class4) := by
  unfold State.probe
  repeat' (first
      | (with_reducible apply onlyRegs.rfl)
      | (with_reducible assumption)
      | (with_reducible exact List.mem_cons_self)
      | (with_reducible apply List.mem_cons_of_mem)
      | (with_reducible apply onlyRegs.ite <;> intro _)
      | (with_reducible apply onlyRegs.keep (setReq_within _ _ _) (by decide))
      | (with_reducible apply onlyRegs.on (bump_regs _ _ _ _ _ ?_))
      | fail_if_no_progress with_reducible apply onlyRegs.upd
      | with_reducible apply onlyRegs.of_fst (by assumption)
      | with_reducible apply onlyRegs.of_fst1 (by assumption)
      | split)

theorem pick_100000000000010000000000000000000000000002 (s t : State) : State.pick 0x100000000000010000000000000000000000000002 s t = { s with
    regs := t.regs, reqs := t.reqs, sched := { s.sched with moved := t.sched.moved } } := rfl

theorem overflow_within (s : State) (n : Nat) (k : Nat) (j : Job) : Within
    0x100000000000010000000000000000000000000002 s (@State.overflow s n k j) := by
  unfold State.overflow
  repeat' (first
      | extract_lets
      | with_reducible apply Within.rfl
      | (with_reducible apply Within.on (m := 0x100000000000010000000000000000000000000002) (unbind_within _ _) (by decide))
      | (with_reducible apply Within.on (m := 0x100000000000010000000000000000000000000002) (bump_within _ _ _ _ _) (by decide))
      | fail_if_no_progress with_reducible apply Within.upd (by rw [pick_100000000000010000000000000000000000000002]))

theorem overflow_regs (s : State) (n : Nat) (k : Nat) (j : Job) {ks : List Field}
    (h1 : Reg.SCHED_RECOV_OVF ∈ ks) : onlyRegs ks s (@State.overflow s n k j) := by
  unfold State.overflow
  repeat' (first
      | (with_reducible apply onlyRegs.rfl)
      | extract_lets
      | (with_reducible assumption)
      | (with_reducible exact List.mem_cons_self)
      | (with_reducible apply List.mem_cons_of_mem)
      | (with_reducible apply onlyRegs.keep (unbind_within _ _) (by decide))
      | (with_reducible apply onlyRegs.on (bump_regs _ _ _ _ _ ?_))
      | fail_if_no_progress with_reducible apply onlyRegs.upd)

theorem pick_100000000000000000000000000000000000000000 (s t : State) : State.pick 0x100000000000000000000000000000000000000000 s t = { s with
    sched := { s.sched with moved := t.sched.moved } } := rfl

theorem unmove_within (s : State) (n : Nat) : Within
    0x100000000000000000000000000000000000000000 s (@State.unmove s n) := by
  unfold State.unmove
  repeat' (first
      | with_reducible apply Within.rfl
      | fail_if_no_progress with_reducible apply Within.upd (by rw [pick_100000000000000000000000000000000000000000]))

theorem pick_108000000000010000000000000000000000000002 (s t : State) : State.pick 0x108000000000010000000000000000000000000002 s t = { s with
    regs := t.regs, reqs := t.reqs, sched := { s.sched with jobs := t.sched.jobs, moved := t.sched.moved } } := rfl

theorem lockRecon_within (stroke : Nat) (a : State × Used) (e : Nat × Job) : Within
    0x108000000000010000000000000000000000000002 a.1 (@lockRecon stroke a e).1 := by
  unfold lockRecon
  repeat' (first
      | extract_lets
      | with_reducible apply Within.rfl
      | (with_reducible apply Within.on (m := 0x108000000000010000000000000000000000000002) (unmove_within _ _) (by decide))
      | (with_reducible apply Within.on (m := 0x108000000000010000000000000000000000000002) (putJob_within _ _ _) (by decide))
      | (with_reducible apply Within.on (m := 0x108000000000010000000000000000000000000002) (overflow_within _ _ _ _) (by decide))
      | fail_if_no_progress with_reducible apply Within.upd (by rw [pick_108000000000010000000000000000000000000002])
      | with_reducible apply Within.of_fst (by assumption)
      | with_reducible apply Within.of_fst1 (by assumption)
      | split)

theorem lockRecon_regs (stroke : Nat) (a : State × Used) (e : Nat × Job) {ks : List Field} (h1 : Reg.SCHED_RECOV_OVF
    ∈ ks) : onlyRegs ks a.1 (@lockRecon stroke a e).1 := by
  unfold lockRecon
  repeat' (first
      | (with_reducible apply onlyRegs.rfl)
      | extract_lets
      | (with_reducible assumption)
      | (with_reducible exact List.mem_cons_self)
      | (with_reducible apply List.mem_cons_of_mem)
      | (with_reducible apply onlyRegs.keep (unmove_within _ _) (by decide))
      | (with_reducible apply onlyRegs.keep (putJob_within _ _ _) (by decide))
      | (with_reducible apply onlyRegs.on (overflow_regs _ _ _ _ ?_))
      | fail_if_no_progress with_reducible apply onlyRegs.upd
      | with_reducible apply onlyRegs.of_fst (by assumption)
      | with_reducible apply onlyRegs.of_fst1 (by assumption)
      | split)

theorem lockRetry_within (stroke : Nat) (a : State × Used) (e : Nat × Job) : Within
    0x108000000000010000000000000000000000000002 a.1 (@lockRetry stroke a e).1 := by
  unfold lockRetry
  repeat' (first
      | extract_lets
      | with_reducible apply Within.rfl
      | (with_reducible apply Within.on (m := 0x108000000000010000000000000000000000000002) (unmove_within _ _) (by decide))
      | (with_reducible apply Within.on (m := 0x108000000000010000000000000000000000000002) (putJob_within _ _ _) (by decide))
      | (with_reducible apply Within.on (m := 0x108000000000010000000000000000000000000002) (overflow_within _ _ _ _) (by decide))
      | fail_if_no_progress with_reducible apply Within.upd (by rw [pick_108000000000010000000000000000000000000002])
      | with_reducible apply Within.of_fst (by assumption)
      | with_reducible apply Within.of_fst1 (by assumption)
      | split)

theorem lockRetry_regs (stroke : Nat) (a : State × Used) (e : Nat × Job) {ks : List Field} (h1 : Reg.SCHED_RECOV_OVF
    ∈ ks) : onlyRegs ks a.1 (@lockRetry stroke a e).1 := by
  unfold lockRetry
  repeat' (first
      | (with_reducible apply onlyRegs.rfl)
      | extract_lets
      | (with_reducible assumption)
      | (with_reducible exact List.mem_cons_self)
      | (with_reducible apply List.mem_cons_of_mem)
      | (with_reducible apply onlyRegs.keep (unmove_within _ _) (by decide))
      | (with_reducible apply onlyRegs.keep (putJob_within _ _ _) (by decide))
      | (with_reducible apply onlyRegs.on (overflow_regs _ _ _ _ ?_))
      | fail_if_no_progress with_reducible apply onlyRegs.upd
      | with_reducible apply onlyRegs.of_fst (by assumption)
      | with_reducible apply onlyRegs.of_fst1 (by assumption)
      | split)

theorem pick_c000000000010000000000000000000000000002 (s t : State) : State.pick 0xc000000000010000000000000000000000000002 s t = { s with
    regs := t.regs, reqs := t.reqs, sched := { s.sched with last := t.sched.last, jobs := t.sched.jobs } } := rfl

theorem lockGroup_within (stroke : Nat) (a : LockAcc) (e : Nat × Job) : Within
    0xc000000000010000000000000000000000000002 a.s (@lockGroup stroke a e).s := by
  unfold lockGroup
  repeat' (first
      | extract_lets
      | with_reducible apply Within.ite <;> intro _
      | with_reducible apply Within.rfl
      | (with_reducible apply Within.on (m := 0xc000000000010000000000000000000000000002) (putJob_within _ _ _) (by decide))
      | (with_reducible apply Within.on (m := 0xc000000000010000000000000000000000000002) (notePlaced_within _ _ _ _) (by decide))
      | (with_reducible apply Within.on (m := 0xc000000000010000000000000000000000000002) (placedLate_within _ _) (by decide))
      | (with_reducible apply Within.foldl; intro t x)
      | fail_if_no_progress with_reducible apply Within.upd (by rw [pick_c000000000010000000000000000000000000002])
      | with_reducible apply Within.of_fst (by assumption)
      | with_reducible apply Within.iteP (π := LockAcc.s) <;> intro _
      | with_reducible apply Within.of_fst1 (by assumption)
      | split)

theorem lockGroup_regs (stroke : Nat) (a : LockAcc) (e : Nat × Job) {ks : List Field} (h1 : Reg.SCHED_DEFER_CNT ∈ ks)
    : onlyRegs ks a.s (@lockGroup stroke a e).s := by
  unfold lockGroup
  repeat' (first
      | (with_reducible apply onlyRegs.rfl)
      | extract_lets
      | (with_reducible assumption)
      | (with_reducible exact List.mem_cons_self)
      | (with_reducible apply List.mem_cons_of_mem)
      | (with_reducible apply onlyRegs.ite <;> intro _)
      | (with_reducible apply onlyRegs.keep (putJob_within _ _ _) (by decide))
      | (with_reducible apply onlyRegs.keep (notePlaced_within _ _ _ _) (by decide))
      | (with_reducible apply onlyRegs.on (placedLate_regs _ _ ?_))
      | (with_reducible apply onlyRegs.foldl; intro t x)
      | fail_if_no_progress with_reducible apply onlyRegs.upd
      | with_reducible apply onlyRegs.of_fst (by assumption)
      | with_reducible apply onlyRegs.iteP (π := LockAcc.s) <;> intro _
      | with_reducible apply onlyRegs.of_fst1 (by assumption)
      | split)

theorem pick_80000000000000000000000000c000000000010000000000000000000000000002 (s t : State) : State.pick 0x80000000000000000000000000c000000000010000000000000000000000000002 s t = { s with
    regs := t.regs, reqs := t.reqs, sched := { s.sched with last := t.sched.last, jobs := t.sched.jobs },
    telem := { s.telem with counts := t.telem.counts } } := rfl

theorem lockHeld_within (stroke : Nat) (a : LockAcc) (e : Nat × Job) : Within
    0x80000000000000000000000000c000000000010000000000000000000000000002 a.s (@lockHeld
    stroke a e).s := by
  unfold lockHeld
  repeat' (first
      | extract_lets
      | with_reducible apply Within.ite <;> intro _
      | with_reducible apply Within.rfl
      | (with_reducible apply Within.on (m := 0x80000000000000000000000000c000000000010000000000000000000000000002) (notePlaced_within _ _ _ _) (by decide))
      | (with_reducible apply Within.on (m := 0x80000000000000000000000000c000000000010000000000000000000000000002) (putJob_within _ _ _) (by decide))
      | (with_reducible apply Within.on (m := 0x80000000000000000000000000c000000000010000000000000000000000000002) (teleChan_within _ _ _ _) (by decide))
      | (with_reducible apply Within.on (m := 0x80000000000000000000000000c000000000010000000000000000000000000002) (placedLate_within _ _) (by decide))
      | fail_if_no_progress with_reducible apply Within.upd (by rw [pick_80000000000000000000000000c000000000010000000000000000000000000002])
      | with_reducible apply Within.of_fst (by assumption)
      | with_reducible apply Within.iteP (π := LockAcc.s) <;> intro _
      | with_reducible apply Within.of_fst1 (by assumption)
      | split)

theorem lockHeld_regs (stroke : Nat) (a : LockAcc) (e : Nat × Job) {ks : List Field} (h1 : Reg.SCHED_DEFER_CNT ∈ ks)
    (h2 : Reg.TELEM_BLK_OVF_OVF ∈ ks) : onlyRegs ks a.s (@lockHeld stroke a e).s := by
  unfold lockHeld
  repeat' (first
      | (with_reducible apply onlyRegs.rfl)
      | extract_lets
      | (with_reducible assumption)
      | (with_reducible exact List.mem_cons_self)
      | (with_reducible apply List.mem_cons_of_mem)
      | (with_reducible apply onlyRegs.ite <;> intro _)
      | (with_reducible apply onlyRegs.keep (notePlaced_within _ _ _ _) (by decide))
      | (with_reducible apply onlyRegs.keep (putJob_within _ _ _) (by decide))
      | (with_reducible apply onlyRegs.on (teleChan_regs _ _ _ _ ?_))
      | (with_reducible apply onlyRegs.on (placedLate_regs _ _ ?_))
      | fail_if_no_progress with_reducible apply onlyRegs.upd
      | with_reducible apply onlyRegs.of_fst (by assumption)
      | with_reducible apply onlyRegs.iteP (π := LockAcc.s) <;> intro _
      | with_reducible apply onlyRegs.of_fst1 (by assumption)
      | split)

theorem pick_1c000000000200000000000000000000000000002 (s t : State) : State.pick 0x1c000000000200000000000000000000000000002 s t = { s with
    regs := t.regs, merge := { s.merge with entries := t.merge.entries },
    sched := { s.sched with last := t.sched.last, jobs := t.sched.jobs, nextJob := t.sched.nextJob } } := rfl

theorem lockFill_within (stroke : Nat) (a : State × Used) (e : Nat × Entry) : Within
    0x1c000000000200000000000000000000000000002 a.1 (@lockFill stroke a e).1 := by
  unfold lockFill
  repeat' (first
      | extract_lets
      | with_reducible apply Within.ite1 <;> intro _
      | with_reducible apply Within.rfl
      | (with_reducible apply Within.on (m := 0x1c000000000200000000000000000000000000002) (fillEntry_within _ _ _ _) (by decide))
      | (with_reducible apply Within.on (m := 0x1c000000000200000000000000000000000000002) (bump_within _ _ _ _ _) (by decide))
      | (with_reducible apply Within.on (m := 0x1c000000000200000000000000000000000000002) (putJob_within _ _ _) (by decide))
      | (with_reducible apply Within.on (m := 0x1c000000000200000000000000000000000000002) (notePlaced_within _ _ _ _) (by decide))
      | fail_if_no_progress with_reducible apply Within.upd (by rw [pick_1c000000000200000000000000000000000000002])
      | with_reducible apply Within.of_fst (by assumption)
      | with_reducible apply Within.of_fst1 (by assumption)
      | split)

theorem lockFill_regs (stroke : Nat) (a : State × Used) (e : Nat × Entry) {ks : List Field} (h1 :
    Reg.MERGE_FILL_BAD_CNT ∈ ks) (h2 : Reg.MERGE_FILL_CNT ∈ ks) (h3 : Reg.MERGE_PARTIAL_LINES ∈ ks) (h4 :
    Reg.MERGE_SETTLING_LINES ∈ ks) (h5 : Reg.MERGE_STATUS_DIRTY ∈ ks) (h6 : Reg.MERGE_STATUS_LIMIT ∈ ks) (h7 :
    Reg.XLAT_PINNED_LINES ∈ ks) : onlyRegs ks a.1 (@lockFill stroke a e).1 := by
  unfold lockFill
  repeat' (first
      | (with_reducible apply onlyRegs.rfl)
      | extract_lets
      | (with_reducible assumption)
      | (with_reducible exact List.mem_cons_self)
      | (with_reducible apply List.mem_cons_of_mem)
      | (with_reducible apply onlyRegs.ite1 <;> intro _)
      | (with_reducible apply onlyRegs.on (fillEntry_regs _ _ _ _ ?_ ?_ ?_ ?_ ?_ ?_))
      | (with_reducible apply onlyRegs.on (bump_regs _ _ _ _ _ ?_))
      | (with_reducible apply onlyRegs.keep (putJob_within _ _ _) (by decide))
      | (with_reducible apply onlyRegs.keep (notePlaced_within _ _ _ _) (by decide))
      | fail_if_no_progress with_reducible apply onlyRegs.upd
      | with_reducible apply onlyRegs.of_fst (by assumption)
      | with_reducible apply onlyRegs.of_fst1 (by assumption)
      | split)

theorem violate_within (s : State) (l : List Nat) : Within 2 s (@State.violate s l)
    := by
  unfold State.violate
  repeat' (first
      | extract_lets
      | with_reducible apply Within.ite <;> intro _
      | with_reducible apply Within.rfl
      | (with_reducible apply Within.on (m := 2) (bump_within _ _ _ _ _) (by decide))
      | (with_reducible apply Within.on (m := 2) (wr_within _ _ _ _ _) (by decide)))

theorem violate_regs (s : State) (l : List Nat) {ks : List Field} (h1 : Reg.SCHED_C2_VIOL ∈ ks) (h2
    : Reg.SCHED_CHAN_VIOL_HI_CHAN ∈ ks) (h3 : Reg.SCHED_CHAN_VIOL_LO_CHAN ∈ ks) : onlyRegs ks s
    (@State.violate s l) := by
  unfold State.violate
  repeat' (first
      | (with_reducible apply onlyRegs.rfl)
      | extract_lets
      | (with_reducible assumption)
      | (with_reducible exact List.mem_cons_self)
      | (with_reducible apply List.mem_cons_of_mem)
      | (with_reducible apply onlyRegs.ite <;> intro _)
      | (with_reducible apply onlyRegs.on (bump_regs _ _ _ _ _ ?_))
      | (with_reducible apply onlyRegs.wr))

theorem lockStatus_within (s : State) : Within 32 s (@State.lockStatus s).1 := by
  unfold State.lockStatus
  repeat' (first
      | extract_lets
      | with_reducible apply Within.rfl
      | (with_reducible apply Within.on (m := 32) (emit_within _ _) (by decide))
      | (with_reducible apply Within.foldl; intro t x))

theorem lockTele_within (s : State) (stroke : Nat) (used : Used) : Within
    0x800000000000000000000000000000000000000000000000000000000000000002 s
    (@State.lockTele s stroke used) := by
  unfold State.lockTele
  repeat' (first
      | extract_lets
      | with_reducible apply Within.ite <;> intro _
      | with_reducible apply Within.rfl
      | (with_reducible apply Within.on (m := 0x800000000000000000000000000000000000000000000000000000000000000002) (teleChan_within _ _ _ _) (by decide))
      | (with_reducible apply Within.foldl; intro t x))

theorem lockTele_regs (s : State) (stroke : Nat) (used : Used) {ks : List Field}
    (h1 : Reg.TELEM_BLK_OVF_OVF ∈ ks) : onlyRegs ks s (@State.lockTele s stroke used) := by
  unfold State.lockTele
  repeat' (first
      | (with_reducible apply onlyRegs.rfl)
      | extract_lets
      | (with_reducible assumption)
      | (with_reducible exact List.mem_cons_self)
      | (with_reducible apply List.mem_cons_of_mem)
      | (with_reducible apply onlyRegs.ite <;> intro _)
      | (with_reducible apply onlyRegs.on (teleChan_regs _ _ _ _ ?_))
      | (with_reducible apply onlyRegs.foldl; intro t x))

theorem pick_80000000000000000000000013c000000000210000000000000000000000000022 (s t : State) : State.pick 0x80000000000000000000000013c000000000210000000000000000000000000022 s t = { s with
    regs := t.regs, out := t.out, reqs := t.reqs, merge := { s.merge with entries := t.merge.entries },
    sched := { s.sched with
      last := t.sched.last, jobs := t.sched.jobs, nextJob := t.sched.nextJob, late := t.sched.late,
      moved := t.sched.moved },
    telem := { s.telem with counts := t.telem.counts } } := rfl

theorem lockReads_within (s : State) (stroke : Nat) : Within
    0x80000000000000000000000013c000000000210000000000000000000000000022 s
    (@State.lockReads s stroke) := by
  unfold State.lockReads
  repeat' (first
      | extract_lets
      | with_reducible apply Within.rfl
      | (with_reducible apply Within.on (m := 0x80000000000000000000000013c000000000210000000000000000000000000022) (lockStatus_within _) (by decide))
      | (with_reducible apply Within.on (m := 0x80000000000000000000000013c000000000210000000000000000000000000022) (lockRecon_within _ _ _) (by decide))
      | (with_reducible apply Within.on (m := 0x80000000000000000000000013c000000000210000000000000000000000000022) (lockRetry_within _ _ _) (by decide))
      | (with_reducible apply Within.on (m := 0x80000000000000000000000013c000000000210000000000000000000000000022) (lockHeld_within _ _ _) (by decide))
      | (with_reducible apply Within.on (m := 0x80000000000000000000000013c000000000210000000000000000000000000022) (lockGroup_within _ _ _) (by decide))
      | (with_reducible apply Within.on (m := 0x80000000000000000000000013c000000000210000000000000000000000000022) (lockFill_within _ _ _) (by decide))
      | (with_reducible apply Within.on (m := 0x80000000000000000000000013c000000000210000000000000000000000000022) (lockTele_within _ _ _) (by decide))
      | (with_reducible apply Within.on (m := 0x80000000000000000000000013c000000000210000000000000000000000000022) (violate_within _ _) (by decide))
      | (with_reducible apply Within.foldl1; intro t x)
      | fail_if_no_progress with_reducible apply Within.upd (by rw [pick_80000000000000000000000013c000000000210000000000000000000000000022])
      | with_reducible apply Within.of_fst (by assumption)
      | (with_reducible apply Within.foldlP (π := LockAcc.s); intro t x)
      | with_reducible apply Within.iteP (π := LockAcc.s) <;> intro _)

theorem lockReads_regs (s : State) (stroke : Nat) {ks : List Field} (h1 : Reg.MERGE_FILL_BAD_CNT ∈
    ks) (h2 : Reg.MERGE_FILL_CNT ∈ ks) (h3 : Reg.MERGE_PARTIAL_LINES ∈ ks) (h4 : Reg.MERGE_SETTLING_LINES ∈ ks) (h5 :
    Reg.MERGE_STATUS_DIRTY ∈ ks) (h6 : Reg.MERGE_STATUS_LIMIT ∈ ks) (h7 : Reg.SCHED_C2_VIOL ∈ ks) (h8 :
    Reg.SCHED_CHAN_VIOL_HI_CHAN ∈ ks) (h9 : Reg.SCHED_CHAN_VIOL_LO_CHAN ∈ ks) (h10 : Reg.SCHED_DEFER_CNT ∈ ks) (h11 :
    Reg.SCHED_RECOV_OVF ∈ ks) (h12 : Reg.TELEM_BLK_OVF_OVF ∈ ks) (h13 : Reg.XLAT_PINNED_LINES ∈ ks) : onlyRegs ks s
    (@State.lockReads s stroke) := by
  unfold State.lockReads
  repeat' (first
      | (with_reducible apply onlyRegs.rfl)
      | extract_lets
      | (with_reducible assumption)
      | (with_reducible exact List.mem_cons_self)
      | (with_reducible apply List.mem_cons_of_mem)
      | (with_reducible apply onlyRegs.keep (lockStatus_within _) (by decide))
      | (with_reducible apply onlyRegs.on (lockRecon_regs _ _ _ ?_))
      | (with_reducible apply onlyRegs.on (lockRetry_regs _ _ _ ?_))
      | (with_reducible apply onlyRegs.on (lockHeld_regs _ _ _ ?_ ?_))
      | (with_reducible apply onlyRegs.on (lockGroup_regs _ _ _ ?_))
      | (with_reducible apply onlyRegs.on (lockFill_regs _ _ _ ?_ ?_ ?_ ?_ ?_ ?_ ?_))
      | (with_reducible apply onlyRegs.on (lockTele_regs _ _ _ ?_))
      | (with_reducible apply onlyRegs.on (violate_regs _ _ ?_ ?_ ?_))
      | fail_if_no_progress with_reducible apply onlyRegs.upd
      | with_reducible apply onlyRegs.of_fst (by assumption)
      | (with_reducible apply onlyRegs.foldlP (π := LockAcc.s); intro t x)
      | (with_reducible apply onlyRegs.foldlP (π := Prod.fst); intro t x)
      | with_reducible apply onlyRegs.iteP (π := LockAcc.s) <;> intro _)

theorem lockRewrite_within (stroke : Nat) (limit : Nat) (a : DrainAcc) (r : Rewrite) : Within
    0x400000000000000000000000000000000000020 a.s (@lockRewrite stroke limit a r).s := by
  unfold lockRewrite
  repeat' (first
      | extract_lets
      | with_reducible apply Within.rfl
      | (with_reducible apply Within.on (m := 0x400000000000000000000000000000000000020) (placeExchange_within _ _ _ _ _ _ _) (by decide))
      | fail_if_no_progress with_reducible apply Within.upd (by rw [pick_400000000000000000000000000000000000020])
      | with_reducible apply Within.iteP (π := DrainAcc.s) <;> intro _)

theorem lockRefresh_within (stroke : Nat) (limit : Nat) (a : DrainAcc) (mp : Nat) : Within
    0x400000000000000000000000000000000000020 a.s (@lockRefresh stroke limit a mp).s := by
  unfold lockRefresh
  repeat' (first
      | extract_lets
      | with_reducible apply Within.rfl
      | (with_reducible apply Within.on (m := 0x400000000000000000000000000000000000020) (placePlain_within _ _ _ _ _ _) (by decide))
      | fail_if_no_progress with_reducible apply Within.upd (by rw [pick_400000000000000000000000000000000000020])
      | with_reducible apply Within.iteP (π := DrainAcc.s) <;> intro _)

theorem pick_1ffff000000000400000000000000000000000000000000000020 (s t : State) : State.pick 0x1ffff000000000400000000000000000000000000000000000020 s t = { s with
    out := t.out, ops := t.ops, err := t.err } := rfl

theorem lockBackground_within (stroke : Nat) (limit : Nat) (a : DrainAcc) : Within
    0x1ffff000000000400000000000000000000000000000000000020 a.s (@lockBackground stroke
    limit a).s := by
  unfold lockBackground
  repeat' (first
      | extract_lets
      | with_reducible apply Within.rfl
      | (with_reducible apply Within.on (m := 0x1ffff000000000400000000000000000000000000000000000020) (lockRefresh_within _ _ _ _) (by decide))
      | (with_reducible apply Within.on (m := 0x1ffff000000000400000000000000000000000000000000000020) (lockRewrite_within _ _ _ _) (by decide))
      | fail_if_no_progress with_reducible apply Within.upd (by rw [pick_1ffff000000000400000000000000000000000000000000000020])
      | (with_reducible apply Within.foldlP (π := DrainAcc.s); intro t x)
      | with_reducible apply Within.iteP (π := DrainAcc.s) <;> intro _)

theorem DrainAcc_copy_within (a : DrainAcc) (why : CopyWhy) (lpn : Nat) : Within
    0x800000000000000003fffffe000000000000200000300000000000000000000002 a.s
    (@DrainAcc.copy a why lpn).s := by
  unfold DrainAcc.copy
  repeat' (first
      | with_reducible apply Within.rfl
      | (with_reducible apply Within.on (m := 0x800000000000000003fffffe000000000000200000300000000000000000000002) (beginCopy_within _ _ _ _ _ (by assumption)) (by decide))
      | fail_if_no_progress with_reducible apply Within.upd (by rw [pick_800000000000000003fffffe000000000000200000300000000000000000000002])
      | with_reducible apply Within.of_fst (by assumption)
      | with_reducible apply Within.iteP (π := DrainAcc.s) <;> intro _
      | with_reducible apply Within.of_fst1 (by assumption)
      | split)

theorem DrainAcc_copy_regs (a : DrainAcc) (why : CopyWhy) (lpn : Nat) {ks : List Field} (h1 :
    Reg.ERR_HEALTH_EVENT_POISON_FULL ∈ ks) (h2 : Reg.ERR_POISON_LIST_OVERFLOW ∈ ks) (h3 : Reg.ERR_POISON_LIST_RECORDS
    ∈ ks) (h4 : Reg.MERGE_PARTIAL_LINES ∈ ks) (h5 : Reg.MERGE_SETTLING_LINES ∈ ks) (h6 : Reg.MERGE_STATUS_DIRTY ∈ ks)
    (h7 : Reg.MERGE_STATUS_LIMIT ∈ ks) (h8 : Reg.PROT_INTEG_DIRTY_LINES ∈ ks) (h9 : Reg.TELEM_BLK_OVF_OVF ∈ ks) (h10 :
    Reg.XLAT_COLD_COUNT_BLOCKS ∈ ks) (h11 : Reg.XLAT_HOT_COUNT_BLOCKS ∈ ks) (h12 : Reg.XLAT_LIFTED_PAGES ∈ ks) (h13 :
    Reg.XLAT_MOVES_ACTIVE ∈ ks) (h14 : Reg.XLAT_MOVES_QUEUED ∈ ks) (h15 : Reg.XLAT_PINNED_LINES ∈ ks) (h16 :
    Reg.XLAT_POOL_STATUS_FREE ∈ ks) : onlyRegs ks a.s (@DrainAcc.copy a why lpn).s := by
  unfold DrainAcc.copy
  repeat' (first
      | (with_reducible apply onlyRegs.rfl)
      | (with_reducible assumption)
      | (with_reducible exact List.mem_cons_self)
      | (with_reducible apply List.mem_cons_of_mem)
      | (with_reducible apply onlyRegs.on (beginCopy_regs _ _ _ _ _ (by assumption) ?_ ?_ ?_ ?_ ?_ ?_ ?_ ?_ ?_ ?_ ?_ ?_ ?_ ?_ ?_ ?_))
      | fail_if_no_progress with_reducible apply onlyRegs.upd
      | with_reducible apply onlyRegs.of_fst (by assumption)
      | with_reducible apply onlyRegs.iteP (π := DrainAcc.s) <;> intro _
      | with_reducible apply onlyRegs.of_fst1 (by assumption)
      | split)

theorem pick_800000000000000003000000000400000000200000300000000000000000000022 (s t : State) : State.pick 0x800000000000000003000000000400000000200000300000000000000000000022 s t = { s with
    regs := t.regs, out := t.out,
    prot := { s.prot with lineCounters := t.prot.lineCounters, dirtyNodes := t.prot.dirtyNodes },
    merge := { s.merge with entries := t.merge.entries }, ops := t.ops,
    err := { s.err with poison := t.err.poison, poisonLost := t.err.poisonLost },
    telem := { s.telem with counts := t.telem.counts } } := rfl

theorem DrainAcc_inPlace_within (a : DrainAcc) (stroke : Nat) (line : Nat) (c : Nat) (mp : Nat) (e : Entry) : Within
    0x800000000000000003000000000400000000200000300000000000000000000022 a.s
    (@DrainAcc.inPlace a stroke line c mp e).s := by
  unfold DrainAcc.inPlace
  repeat' (first
      | extract_lets
      | with_reducible apply Within.rfl
      | (with_reducible apply Within.on (m := 0x800000000000000003000000000400000000200000300000000000000000000022) (placeExchange_within _ _ _ _ _ _ _) (by decide))
      | (with_reducible apply Within.on (m := 0x800000000000000003000000000400000000200000300000000000000000000022) (startDrain_within _ _ _) (by decide))
      | fail_if_no_progress with_reducible apply Within.upd (by rw [pick_800000000000000003000000000400000000200000300000000000000000000022])
      | with_reducible apply Within.of_fst (by assumption)
      | with_reducible apply Within.iteP (π := DrainAcc.s) <;> intro _)

theorem DrainAcc_inPlace_regs (a : DrainAcc) (stroke : Nat) (line : Nat) (c : Nat) (mp : Nat) (e : Entry) {ks : List
    Field} (h1 : Reg.ERR_HEALTH_EVENT_POISON_FULL ∈ ks) (h2 : Reg.ERR_POISON_LIST_OVERFLOW ∈ ks) (h3 :
    Reg.ERR_POISON_LIST_RECORDS ∈ ks) (h4 : Reg.PROT_INTEG_DIRTY_LINES ∈ ks) (h5 : Reg.TELEM_BLK_OVF_OVF ∈ ks) :
    onlyRegs ks a.s (@DrainAcc.inPlace a stroke line c mp e).s := by
  unfold DrainAcc.inPlace
  repeat' (first
      | (with_reducible apply onlyRegs.rfl)
      | extract_lets
      | (with_reducible assumption)
      | (with_reducible exact List.mem_cons_self)
      | (with_reducible apply List.mem_cons_of_mem)
      | (with_reducible apply onlyRegs.keep (placeExchange_within _ _ _ _ _ _ _) (by decide))
      | (with_reducible apply onlyRegs.on (startDrain_regs _ _ _ ?_ ?_ ?_ ?_ ?_))
      | fail_if_no_progress with_reducible apply onlyRegs.upd
      | with_reducible apply onlyRegs.of_fst (by assumption)
      | with_reducible apply onlyRegs.iteP (π := DrainAcc.s) <;> intro _)

theorem DrainAcc_retryPinned_within (a : DrainAcc) (line : Nat) (e : Entry) : Within
    0x800000000000000003fffffe000000000000200000300000000000000000000002 a.s
    (@DrainAcc.retryPinned a line e).s := by
  unfold DrainAcc.retryPinned
  repeat' (first
      | extract_lets
      | with_reducible apply Within.rfl
      | (with_reducible apply Within.on (m := 0x800000000000000003fffffe000000000000200000300000000000000000000002) (DrainAcc_copy_within _ _ _) (by decide))
      | (with_reducible apply Within.on (m := 0x800000000000000003fffffe000000000000200000300000000000000000000002) (putEntry_within _ _ _) (by decide))
      | fail_if_no_progress with_reducible apply Within.upd (by rw [pick_800000000000000003fffffe000000000000200000300000000000000000000002])
      | with_reducible apply Within.iteP (π := DrainAcc.s) <;> intro _)

theorem DrainAcc_retryPinned_regs (a : DrainAcc) (line : Nat) (e : Entry) {ks : List Field} (h1 :
    Reg.ERR_HEALTH_EVENT_POISON_FULL ∈ ks) (h2 : Reg.ERR_POISON_LIST_OVERFLOW ∈ ks) (h3 : Reg.ERR_POISON_LIST_RECORDS
    ∈ ks) (h4 : Reg.MERGE_PARTIAL_LINES ∈ ks) (h5 : Reg.MERGE_SETTLING_LINES ∈ ks) (h6 : Reg.MERGE_STATUS_DIRTY ∈ ks)
    (h7 : Reg.MERGE_STATUS_LIMIT ∈ ks) (h8 : Reg.PROT_INTEG_DIRTY_LINES ∈ ks) (h9 : Reg.TELEM_BLK_OVF_OVF ∈ ks) (h10 :
    Reg.XLAT_COLD_COUNT_BLOCKS ∈ ks) (h11 : Reg.XLAT_HOT_COUNT_BLOCKS ∈ ks) (h12 : Reg.XLAT_LIFTED_PAGES ∈ ks) (h13 :
    Reg.XLAT_MOVES_ACTIVE ∈ ks) (h14 : Reg.XLAT_MOVES_QUEUED ∈ ks) (h15 : Reg.XLAT_PINNED_LINES ∈ ks) (h16 :
    Reg.XLAT_POOL_STATUS_FREE ∈ ks) : onlyRegs ks a.s (@DrainAcc.retryPinned a line e).s := by
  unfold DrainAcc.retryPinned
  repeat' (first
      | (with_reducible apply onlyRegs.rfl)
      | extract_lets
      | (with_reducible assumption)
      | (with_reducible exact List.mem_cons_self)
      | (with_reducible apply List.mem_cons_of_mem)
      | (with_reducible apply onlyRegs.on (DrainAcc_copy_regs _ _ _ ?_ ?_ ?_ ?_ ?_ ?_ ?_ ?_ ?_ ?_ ?_ ?_ ?_ ?_ ?_ ?_))
      | (with_reducible apply onlyRegs.keep (putEntry_within _ _ _) (by decide))
      | fail_if_no_progress with_reducible apply onlyRegs.upd
      | with_reducible apply onlyRegs.iteP (π := DrainAcc.s) <;> intro _)

theorem pick_800000000000000003fffffe000400000000200000300000000000000000000022 (s t : State) : State.pick 0x800000000000000003fffffe000400000000200000300000000000000000000022 s t = { s with
    regs := t.regs, out := t.out,
    prot := { s.prot with lineCounters := t.prot.lineCounters, dirtyNodes := t.prot.dirtyNodes },
    merge := { s.merge with entries := t.merge.entries }, ops := t.ops, xlat := t.xlat,
    err := { s.err with poison := t.err.poison, poisonLost := t.err.poisonLost },
    telem := { s.telem with counts := t.telem.counts } } := rfl

theorem lockDrain_within (stroke : Nat) (limit : Tab Nat → Nat → Nat) (a : DrainAcc) (x : Nat × Entry) : Within
    0x800000000000000003fffffe000400000000200000300000000000000000000022 a.s (@lockDrain
    stroke limit a x).s := by
  unfold lockDrain
  repeat' (first
      | extract_lets
      | with_reducible apply Within.rfl
      | (with_reducible apply Within.on (m := 0x800000000000000003fffffe000400000000200000300000000000000000000022) (DrainAcc_retryPinned_within _ _ _) (by decide))
      | (with_reducible apply Within.on (m := 0x800000000000000003fffffe000400000000200000300000000000000000000022) (startMove_within _ _ _ _ (by assumption)) (by decide))
      | (with_reducible apply Within.on (m := 0x800000000000000003fffffe000400000000200000300000000000000000000022) (DrainAcc_copy_within _ _ _) (by decide))
      | (with_reducible apply Within.on (m := 0x800000000000000003fffffe000400000000200000300000000000000000000022) (beginSettle_within _ _) (by decide))
      | (with_reducible apply Within.on (m := 0x800000000000000003fffffe000400000000200000300000000000000000000022) (DrainAcc_inPlace_within _ _ _ _ _ _) (by decide))
      | (with_reducible apply Within.on (m := 0x800000000000000003fffffe000400000000200000300000000000000000000022) (bump_within _ _ _ _ _) (by decide))
      | fail_if_no_progress with_reducible apply Within.upd (by rw [pick_800000000000000003fffffe000400000000200000300000000000000000000022])
      | with_reducible apply Within.of_fst (by assumption)
      | with_reducible apply Within.iteP (π := DrainAcc.s) <;> intro _
      | with_reducible apply Within.of_fst1 (by assumption)
      | with_reducible apply Within.getD; intro t ht
      | split)

theorem lockDrain_regs (stroke : Nat) (limit : Tab Nat → Nat → Nat) (a : DrainAcc) (x : Nat × Entry) {ks : List
    Field} (h1 : Reg.ERR_HEALTH_EVENT_POISON_FULL ∈ ks) (h2 : Reg.ERR_POISON_LIST_OVERFLOW ∈ ks) (h3 :
    Reg.ERR_POISON_LIST_RECORDS ∈ ks) (h4 : Reg.MERGE_PARTIAL_LINES ∈ ks) (h5 : Reg.MERGE_SETTLING_LINES ∈ ks) (h6 :
    Reg.MERGE_STATUS_DIRTY ∈ ks) (h7 : Reg.MERGE_STATUS_LIMIT ∈ ks) (h8 : Reg.PROT_INTEG_DIRTY_LINES ∈ ks) (h9 :
    Reg.TELEM_BLK_OVF_OVF ∈ ks) (h10 : Reg.XLAT_COLD_COUNT_BLOCKS ∈ ks) (h11 : Reg.XLAT_HOT_COUNT_BLOCKS ∈ ks) (h12 :
    Reg.XLAT_LIFTED_PAGES ∈ ks) (h13 : Reg.XLAT_LIFT_FULL_CNT ∈ ks) (h14 : Reg.XLAT_MOVES_ACTIVE ∈ ks) (h15 :
    Reg.XLAT_MOVES_QUEUED ∈ ks) (h16 : Reg.XLAT_PINNED_LINES ∈ ks) (h17 : Reg.XLAT_POOL_STATUS_FREE ∈ ks) : onlyRegs ks
    a.s (@lockDrain stroke limit a x).s := by
  unfold lockDrain
  repeat' (first
      | (with_reducible apply onlyRegs.rfl)
      | extract_lets
      | (with_reducible assumption)
      | (with_reducible exact List.mem_cons_self)
      | (with_reducible apply List.mem_cons_of_mem)
      | (with_reducible apply onlyRegs.on (DrainAcc_retryPinned_regs _ _ _ ?_ ?_ ?_ ?_ ?_ ?_ ?_ ?_ ?_ ?_ ?_ ?_ ?_ ?_ ?_ ?_))
      | (with_reducible apply onlyRegs.on (startMove_regs _ _ _ _ (by assumption) ?_ ?_ ?_ ?_ ?_ ?_))
      | (with_reducible apply onlyRegs.on (DrainAcc_copy_regs _ _ _ ?_ ?_ ?_ ?_ ?_ ?_ ?_ ?_ ?_ ?_ ?_ ?_ ?_ ?_ ?_ ?_))
      | (with_reducible apply onlyRegs.on (beginSettle_regs _ _ ?_ ?_ ?_ ?_ ?_ ?_ ?_ ?_ ?_ ?_))
      | (with_reducible apply onlyRegs.on (DrainAcc_inPlace_regs _ _ _ _ _ _ ?_ ?_ ?_ ?_ ?_))
      | (with_reducible apply onlyRegs.on (bump_regs _ _ _ _ _ ?_))
      | fail_if_no_progress with_reducible apply onlyRegs.upd
      | with_reducible apply onlyRegs.of_fst (by assumption)
      | with_reducible apply onlyRegs.iteP (π := DrainAcc.s) <;> intro _
      | with_reducible apply onlyRegs.of_fst1 (by assumption)
      | with_reducible apply onlyRegs.getD; intro t ht
      | split)

theorem pick_800000000000000000000000000000 (s t : State) : State.pick 0x800000000000000000000000000000 s t = { s with
    merge := { s.merge with heat := t.merge.heat } } := rfl

theorem heatUp_within (s : State) (pages : List Nat) : Within 0x800000000000000000000000000000 s
    (@State.heatUp s pages) := by
  unfold State.heatUp
  repeat' (first
      | extract_lets
      | with_reducible apply Within.rfl
      | fail_if_no_progress with_reducible apply Within.upd (by rw [pick_800000000000000000000000000000]))

theorem pick_80000000000001fffffffffe000400000000a00000380000000000000000000022 (s t : State) : State.pick 0x80000000000001fffffffffe000400000000a00000380000000000000000000022 s t = { s with
    regs := t.regs, out := t.out,
    prot := { s.prot with
      roots := t.prot.roots, lineCounters := t.prot.lineCounters, dirtyNodes := t.prot.dirtyNodes },
    merge := { s.merge with entries := t.merge.entries, heat := t.merge.heat }, ops := t.ops, xlat := t.xlat,
    err := t.err, telem := { s.telem with counts := t.telem.counts } } := rfl

theorem lockPrograms_within (s : State) (stroke : Nat) : Within
    0x80000000000001fffffffffe000400000000a00000380000000000000000000022 s
    (@State.lockPrograms s stroke) := by
  unfold State.lockPrograms
  repeat' (first
      | extract_lets
      | with_reducible apply Within.ite <;> intro _
      | with_reducible apply Within.rfl
      | (with_reducible apply Within.on (m := 0x80000000000001fffffffffe000400000000a00000380000000000000000000022) (trimNodes_within _) (by decide))
      | (with_reducible apply Within.on (m := 0x80000000000001fffffffffe000400000000a00000380000000000000000000022) (lockBackground_within _ _ _) (by decide))
      | (with_reducible apply Within.on (m := 0x80000000000001fffffffffe000400000000a00000380000000000000000000022) (lockDrain_within _ _ _ _) (by decide))
      | (with_reducible apply Within.on (m := 0x80000000000001fffffffffe000400000000a00000380000000000000000000022) (mergeCounts_within _) (by decide))
      | (with_reducible apply Within.on (m := 0x80000000000001fffffffffe000400000000a00000380000000000000000000022) (loadMoves_within _) (by decide))
      | (with_reducible apply Within.on (m := 0x80000000000001fffffffffe000400000000a00000380000000000000000000022) (startRekey_within _) (by decide))
      | (with_reducible apply Within.on (m := 0x80000000000001fffffffffe000400000000a00000380000000000000000000022) (startWear_within _) (by decide))
      | (with_reducible apply Within.on (m := 0x80000000000001fffffffffe000400000000a00000380000000000000000000022) (startEvac_within _) (by decide))
      | (with_reducible apply Within.on (m := 0x80000000000001fffffffffe000400000000a00000380000000000000000000022) (heatUp_within _ _) (by decide))
      | (with_reducible apply Within.foldlP (π := DrainAcc.s); intro t x)
      | with_reducible apply Within.iteP (π := DrainAcc.s) <;> intro _)

theorem lockPrograms_regs (s : State) (stroke : Nat) {ks : List Field} (h1 :
    Reg.ERR_HEALTH_EVENT_POISON_FULL ∈ ks) (h2 : Reg.ERR_POISON_LIST_OVERFLOW ∈ ks) (h3 : Reg.ERR_POISON_LIST_RECORDS
    ∈ ks) (h4 : Reg.MERGE_PARTIAL_LINES ∈ ks) (h5 : Reg.MERGE_SETTLING_LINES ∈ ks) (h6 : Reg.MERGE_STATUS_DIRTY ∈ ks)
    (h7 : Reg.MERGE_STATUS_LIMIT ∈ ks) (h8 : Reg.PROT_INTEG_DIRTY_LINES ∈ ks) (h9 : Reg.TELEM_BLK_OVF_OVF ∈ ks) (h10 :
    Reg.XLAT_COLD_COUNT_BLOCKS ∈ ks) (h11 : Reg.XLAT_HOT_COUNT_BLOCKS ∈ ks) (h12 : Reg.XLAT_LIFTED_PAGES ∈ ks) (h13 :
    Reg.XLAT_LIFT_FULL_CNT ∈ ks) (h14 : Reg.XLAT_MOVES_ACTIVE ∈ ks) (h15 : Reg.XLAT_MOVES_QUEUED ∈ ks) (h16 :
    Reg.XLAT_PINNED_LINES ∈ ks) (h17 : Reg.XLAT_POOL_STATUS_FREE ∈ ks) : onlyRegs ks s
    (@State.lockPrograms s stroke) := by
  unfold State.lockPrograms
  repeat' (first
      | (with_reducible apply onlyRegs.rfl)
      | extract_lets
      | (with_reducible assumption)
      | (with_reducible exact List.mem_cons_self)
      | (with_reducible apply List.mem_cons_of_mem)
      | (with_reducible apply onlyRegs.ite <;> intro _)
      | (with_reducible apply onlyRegs.on (trimNodes_regs _ ?_))
      | (with_reducible apply onlyRegs.keep (lockBackground_within _ _ _) (by decide))
      | (with_reducible apply onlyRegs.on (lockDrain_regs _ _ _ _ ?_ ?_ ?_ ?_ ?_ ?_ ?_ ?_ ?_ ?_ ?_ ?_ ?_ ?_ ?_ ?_ ?_))
      | (with_reducible apply onlyRegs.on (mergeCounts_regs _ ?_ ?_ ?_ ?_ ?_))
      | (with_reducible apply onlyRegs.on (loadMoves_regs _ ?_ ?_ ?_ ?_ ?_ ?_ ?_ ?_ ?_ ?_))
      | (with_reducible apply onlyRegs.on (startRekey_regs _ ?_ ?_ ?_ ?_ ?_ ?_ ?_ ?_ ?_ ?_ ?_ ?_ ?_ ?_ ?_ ?_))
      | (with_reducible apply onlyRegs.on (startWear_regs _ ?_ ?_ ?_ ?_ ?_ ?_))
      | (with_reducible apply onlyRegs.on (startEvac_regs _ ?_ ?_ ?_ ?_ ?_ ?_))
      | (with_reducible apply onlyRegs.keep (heatUp_within _ _) (by decide))
      | (with_reducible apply onlyRegs.foldlP (π := DrainAcc.s); intro t x)
      | with_reducible apply onlyRegs.iteP (π := DrainAcc.s) <;> intro _)

theorem suspendAll_within (s : State) : Within 0x400000000000000000000000000000000000020 s
    (@State.suspendAll s) := by
  unfold State.suspendAll
  repeat' (first
      | extract_lets
      | with_reducible apply Within.ite <;> intro _
      | with_reducible apply Within.rfl
      | (with_reducible apply Within.on (m := 0x400000000000000000000000000000000000020) (emit_within _ _) (by decide))
      | (with_reducible apply Within.foldl; intro t x)
      | fail_if_no_progress with_reducible apply Within.upd (by rw [pick_400000000000000000000000000000000000020]))

theorem exclEnd_within (s : State) : Within 2 s (@State.exclEnd s) := by
  unfold State.exclEnd
  repeat' (first
      | with_reducible apply Within.ite <;> intro _
      | with_reducible apply Within.rfl
      | (with_reducible apply Within.on (m := 2) (setBit_within _ _ _ _ _) (by decide)))

theorem exclEnd_regs (s : State) {ks : List Field} (h1 : Reg.SCHED_STATUS_POOL_EXCL ∈ ks) : onlyRegs
    ks s (@State.exclEnd s) := by
  unfold State.exclEnd
  repeat' (first
      | (with_reducible apply onlyRegs.rfl)
      | (with_reducible assumption)
      | (with_reducible exact List.mem_cons_self)
      | (with_reducible apply List.mem_cons_of_mem)
      | (with_reducible apply onlyRegs.ite <;> intro _)
      | (with_reducible apply onlyRegs.on (setBit_regs _ _ _ _ _ ?_)))

theorem pick_108001008000218000007fbcc00000000000000022 (s t : State) : State.pick 0x108001008000218000007fbcc00000000000000022 s t = { s with
    regs := t.regs, out := t.out,
    chron := { s.chron with
      perm := t.chron.perm, ring := t.chron.ring, buffer := t.chron.buffer, nextSerial := t.chron.nextSerial,
      runs := t.chron.runs, dropped := t.chron.dropped },
    events := t.events, sessions := t.sessions, reqs := t.reqs,
    merge := { s.merge with entries := t.merge.entries },
    cache := { s.cache with fills := t.cache.fills, rc := t.cache.rc },
    sched := { s.sched with jobs := t.sched.jobs, moved := t.sched.moved } } := rfl

theorem hostResult_within (s : State) (n : Nat) (j : Job) (rid : Nat) (r :
    MediaResult) (integ : Sys2Proof.IntegCheck) (class4 : Bool) : Within
    0x108001008000218000007fbcc00000000000000022 s (@State.hostResult s n j rid r integ
    class4) := by
  unfold State.hostResult
  repeat' (first
      | extract_lets
      | with_reducible apply Within.rfl
      | (with_reducible apply Within.on (m := 0x108001008000218000007fbcc00000000000000022) (checkInteg_within _ _ _ _) (by decide))
      | (with_reducible apply Within.on (m := 0x108001008000218000007fbcc00000000000000022) (tryRcFill_within _ _ _ _ _ _) (by decide))
      | (with_reducible apply Within.on (m := 0x108001008000218000007fbcc00000000000000022) (deliverHost_within _ _ _ _) (by decide))
      | (with_reducible apply Within.on (m := 0x108001008000218000007fbcc00000000000000022) (dropJobNo_within _ _) (by decide))
      | with_reducible apply Within.of_fst (by assumption)
      | with_reducible apply Within.of_fst1 (by assumption)
      | split)

theorem hostResult_regs (s : State) (n : Nat) (j : Job) (rid : Nat) (r :
    MediaResult) (integ : Sys2Proof.IntegCheck) (class4 : Bool) {ks : List Field} (h1 :
    Reg.CACHE_RC_FILL_CNT ∈ ks) (h2 : Reg.CACHE_RC_FILL_DROP_CNT ∈ ks) (h3 : Reg.CACHE_RC_HIT_CNT ∈ ks) (h4 :
    Reg.CHRON_DROP_CNT ∈ ks) (h5 : Reg.CHRON_REPEAT_CNT ∈ ks) (h6 : Reg.MERGE_FILL_BAD_CNT ∈ ks) (h7 :
    Reg.MERGE_PARTIAL_LINES ∈ ks) (h8 : Reg.MERGE_SETTLING_LINES ∈ ks) (h9 : Reg.MERGE_STATUS_DIRTY ∈ ks) (h10 :
    Reg.MERGE_STATUS_LIMIT ∈ ks) (h11 : Reg.PORT_INFLIGHT_LINK0 ∈ ks) (h12 : Reg.PORT_INFLIGHT_LINK1 ∈ ks) (h13 :
    Reg.PORT_INFLIGHT_PEAK_LINK0 ∈ ks) (h14 : Reg.PORT_INFLIGHT_PEAK_LINK1 ∈ ks) (h15 : Reg.PROT_INTEG_FAIL_CNT ∈ ks)
    (h16 : Reg.RANGE_INTEG_FAIL_CNT ∈ ks) (h17 : Reg.SCHED_BOUND_MISS ∈ ks) (h18 : Reg.SCHED_MAX_LAT_CCLK ∈ ks) (h19 :
    Reg.XLAT_PINNED_LINES ∈ ks) : onlyRegs ks s (@State.hostResult s n j rid r integ class4) := by
  unfold State.hostResult
  repeat' (first
      | (with_reducible apply onlyRegs.rfl)
      | extract_lets
      | (with_reducible assumption)
      | (with_reducible exact List.mem_cons_self)
      | (with_reducible apply List.mem_cons_of_mem)
      | (with_reducible apply onlyRegs.on (checkInteg_regs _ _ _ _ ?_ ?_ ?_ ?_))
      | (with_reducible apply onlyRegs.on (tryRcFill_regs _ _ _ _ _ _ ?_ ?_))
      | (with_reducible apply onlyRegs.on (deliverHost_regs _ _ _ _ ?_ ?_ ?_ ?_ ?_ ?_ ?_ ?_ ?_ ?_ ?_ ?_ ?_))
      | (with_reducible apply onlyRegs.keep (dropJobNo_within _ _) (by decide))
      | with_reducible apply onlyRegs.of_fst (by assumption)
      | with_reducible apply onlyRegs.of_fst1 (by assumption)
      | split)

theorem pick_20000000108001008000218000007fbcc00000000000000022 (s t : State) : State.pick 0x20000000108001008000218000007fbcc00000000000000022 s t = { s with
    regs := t.regs, out := t.out,
    chron := { s.chron with
      perm := t.chron.perm, ring := t.chron.ring, buffer := t.chron.buffer, nextSerial := t.chron.nextSerial,
      runs := t.chron.runs, dropped := t.chron.dropped },
    events := t.events, sessions := t.sessions, reqs := t.reqs,
    merge := { s.merge with entries := t.merge.entries },
    cache := { s.cache with fills := t.cache.fills, rc := t.cache.rc },
    sched := { s.sched with jobs := t.sched.jobs, moved := t.sched.moved },
    err := { s.err with refresh := t.err.refresh } } := rfl

theorem hostDecode_within (s : State) (n : Nat) (j : Job) (rid : Nat) (e :
    Sys2Proof.MediaErr) (integ : Sys2Proof.IntegCheck) (class4 : Bool) : Within
    0x20000000108001008000218000007fbcc00000000000000022 s (@State.hostDecode s n j rid e
    integ class4) := by
  unfold State.hostDecode
  repeat' (first
      | extract_lets
      | with_reducible apply Within.ite <;> intro _
      | with_reducible apply Within.rfl
      | (with_reducible apply Within.on (m := 0x20000000108001008000218000007fbcc00000000000000022) (byRetry_within _ _ _ _) (by decide))
      | (with_reducible apply Within.on (m := 0x20000000108001008000218000007fbcc00000000000000022) (noteCorr_within _ _ _) (by decide))
      | (with_reducible apply Within.on (m := 0x20000000108001008000218000007fbcc00000000000000022) (hostResult_within _ _ _ _ _ _ _) (by decide))
      | (with_reducible apply Within.on (m := 0x20000000108001008000218000007fbcc00000000000000022) (putJob_within _ _ _) (by decide))
      | (with_reducible apply Within.on (m := 0x20000000108001008000218000007fbcc00000000000000022) (bump_within _ _ _ _ _) (by decide))
      | fail_if_no_progress with_reducible apply Within.upd (by rw [pick_20000000108001008000218000007fbcc00000000000000022])
      | with_reducible apply Within.of_fst (by assumption)
      | with_reducible apply Within.of_fst1 (by assumption)
      | split)

theorem hostDecode_regs (s : State) (n : Nat) (j : Job) (rid : Nat) (e :
    Sys2Proof.MediaErr) (integ : Sys2Proof.IntegCheck) (class4 : Bool) {ks : List Field} (h1 : Reg.CACHE_RC_FILL_CNT ∈
    ks) (h2 : Reg.CACHE_RC_FILL_DROP_CNT ∈ ks) (h3 : Reg.CACHE_RC_HIT_CNT ∈ ks) (h4 : Reg.CHAN_CORR_CNT ∈ ks) (h5 :
    Reg.CHAN_RETRY_CNT ∈ ks) (h6 : Reg.CHRON_DROP_CNT ∈ ks) (h7 : Reg.CHRON_REPEAT_CNT ∈ ks) (h8 :
    Reg.ERR_BUCKET_STATUS_LEVEL ∈ ks) (h9 : Reg.ERR_BUCKET_STATUS_OVF_CNT ∈ ks) (h10 : Reg.ERR_CORR_PERS_CNT ∈ ks)
    (h11 : Reg.ERR_HEALTH_EVENT_BUCKET_OVF ∈ ks) (h12 : Reg.MERGE_FILL_BAD_CNT ∈ ks) (h13 : Reg.MERGE_PARTIAL_LINES ∈
    ks) (h14 : Reg.MERGE_SETTLING_LINES ∈ ks) (h15 : Reg.MERGE_STATUS_DIRTY ∈ ks) (h16 : Reg.MERGE_STATUS_LIMIT ∈ ks)
    (h17 : Reg.PORT_INFLIGHT_LINK0 ∈ ks) (h18 : Reg.PORT_INFLIGHT_LINK1 ∈ ks) (h19 : Reg.PORT_INFLIGHT_PEAK_LINK0 ∈
    ks) (h20 : Reg.PORT_INFLIGHT_PEAK_LINK1 ∈ ks) (h21 : Reg.PROT_INTEG_FAIL_CNT ∈ ks) (h22 : Reg.RANGE_INTEG_FAIL_CNT
    ∈ ks) (h23 : Reg.SCHED_BOUND_MISS ∈ ks) (h24 : Reg.SCHED_MAX_LAT_CCLK ∈ ks) (h25 : Reg.XLAT_PINNED_LINES ∈ ks) :
    onlyRegs ks s (@State.hostDecode s n j rid e integ class4) := by
  unfold State.hostDecode
  repeat' (first
      | (with_reducible apply onlyRegs.rfl)
      | extract_lets
      | (with_reducible assumption)
      | (with_reducible exact List.mem_cons_self)
      | (with_reducible apply List.mem_cons_of_mem)
      | (with_reducible apply onlyRegs.ite <;> intro _)
      | (with_reducible apply onlyRegs.on (byRetry_regs _ _ _ _ ?_ ?_ ?_ ?_ ?_ ?_ ?_))
      | (with_reducible apply onlyRegs.on (noteCorr_regs _ _ _ ?_))
      | (with_reducible apply onlyRegs.on (hostResult_regs _ _ _ _ _ _ _ ?_ ?_ ?_ ?_ ?_ ?_ ?_ ?_ ?_ ?_ ?_ ?_ ?_ ?_ ?_ ?_ ?_ ?_ ?_))
      | (with_reducible apply onlyRegs.keep (putJob_within _ _ _) (by decide))
      | (with_reducible apply onlyRegs.on (bump_regs _ _ _ _ _ ?_))
      | fail_if_no_progress with_reducible apply onlyRegs.upd
      | with_reducible apply onlyRegs.of_fst (by assumption)
      | with_reducible apply onlyRegs.of_fst1 (by assumption)
      | split)

end Sys2Proof.Machine
end

