-- ==== Sys2Proof/Laws/ChanFamilyFrames.lean ====
section
/-! SUPPORT. For each function of Machine/ChanFamily.lean over the state: the part of the state outside which it changes
nothing (`…_within`), and the register fields that it may write (`…_regs`). -/

namespace Sys2Proof.Machine

set_option maxRecDepth 4000

theorem savePage1_within (s : State) : Within 0xc10000000000000 s
    (@State.savePage1 s) := by
  unfold State.savePage1
  repeat' (first
      | with_reducible apply Within.rfl
      | (with_reducible apply Within.on (m := 0xc10000000000000) (keepWrite_within _ _ _ _) (by decide)))

theorem regroup_within (s : State) (now : Nat) (gone : Nat → Bool) : Within
    0x8000000000000000000000000000000000000000 s (@State.regroup s now gone) := by
  unfold State.regroup
  repeat' (first
      | extract_lets
      | with_reducible apply Within.rfl
      | fail_if_no_progress with_reducible apply Within.upd (by rw [pick_8000000000000000000000000000000000000000]))

theorem dropToggle_within (s : State) (o : BankOp) : Within
    0x400000000000000000000000000000000000000 s (@State.dropToggle s o) := by
  unfold State.dropToggle
  repeat' (first
      | with_reducible apply Within.ite <;> intro _
      | with_reducible apply Within.rfl
      | fail_if_no_progress with_reducible apply Within.upd (by rw [pick_400000000000000000000000000000000000000])
      | with_reducible apply Within.of_fst (by assumption)
      | with_reducible apply Within.of_fst1 (by assumption)
      | split)

theorem pick_40000000000400000000200000000000000000000000000002 (s t : State) : State.pick 0x40000000000400000000200000000000000000000000000002 s t = { s with
    regs := t.regs, merge := { s.merge with entries := t.merge.entries }, ops := t.ops,
    err := { s.err with rewrites := t.err.rewrites } } := rfl

theorem abandon_within (s : State) (b : Nat) (o : BankOp) : Within
    0x40000000000400000000200000000000000000000000000002 s (@State.abandon s b o) := by
  unfold State.abandon
  repeat' (first
      | with_reducible apply Within.ite <;> intro _
      | with_reducible apply Within.rfl
      | (with_reducible apply Within.on (m := 0x40000000000400000000200000000000000000000000000002) (drainFailed_within _ _) (by decide))
      | (with_reducible apply Within.on (m := 0x40000000000400000000200000000000000000000000000002) (dropToggle_within _ _) (by decide))
      | (with_reducible apply Within.on (m := 0x40000000000400000000200000000000000000000000000002) (askRewrite_within _ _) (by decide))
      | fail_if_no_progress with_reducible apply Within.upd (by rw [pick_40000000000400000000200000000000000000000000000002])
      | with_reducible apply Within.of_fst (by assumption)
      | with_reducible apply Within.of_fst1 (by assumption)
      | split)

theorem abandon_regs (s : State) (b : Nat) (o : BankOp) {ks : List Field} (h1 :
    Reg.MERGE_PARTIAL_LINES ∈ ks) (h2 : Reg.MERGE_SETTLING_LINES ∈ ks) (h3 : Reg.MERGE_STATUS_DIRTY ∈ ks) (h4 :
    Reg.MERGE_STATUS_LIMIT ∈ ks) (h5 : Reg.XLAT_PINNED_LINES ∈ ks) : onlyRegs ks s (@State.abandon s b
    o) := by
  unfold State.abandon
  repeat' (first
      | (with_reducible apply onlyRegs.rfl)
      | (with_reducible assumption)
      | (with_reducible exact List.mem_cons_self)
      | (with_reducible apply List.mem_cons_of_mem)
      | (with_reducible apply onlyRegs.ite <;> intro _)
      | (with_reducible apply onlyRegs.on (drainFailed_regs _ _ ?_ ?_ ?_ ?_ ?_))
      | (with_reducible apply onlyRegs.keep (dropToggle_within _ _) (by decide))
      | (with_reducible apply onlyRegs.keep (askRewrite_within _ _) (by decide))
      | fail_if_no_progress with_reducible apply onlyRegs.upd
      | with_reducible apply onlyRegs.of_fst (by assumption)
      | with_reducible apply onlyRegs.of_fst1 (by assumption)
      | split)

theorem pick_2000000000000000200000000000000000000000000002 (s t : State) : State.pick 0x2000000000000000200000000000000000000000000002 s t = { s with
    regs := t.regs, merge := { s.merge with entries := t.merge.entries },
    xlat := { s.xlat with copies := t.xlat.copies } } := rfl

theorem dropCopy_within (s : State) (c : Copy) : Within
    0x2000000000000000200000000000000000000000000002 s (@State.dropCopy s c) := by
  unfold State.dropCopy
  repeat' (first
      | extract_lets
      | with_reducible apply Within.rfl
      | (with_reducible apply Within.on (m := 0x2000000000000000200000000000000000000000000002) (drainFailed_within _ _) (by decide))
      | (with_reducible apply Within.foldl; intro t x)
      | fail_if_no_progress with_reducible apply Within.upd (by rw [pick_2000000000000000200000000000000000000000000002]))

theorem dropCopy_regs (s : State) (c : Copy) {ks : List Field} (h1 :
    Reg.MERGE_PARTIAL_LINES ∈ ks) (h2 : Reg.MERGE_SETTLING_LINES ∈ ks) (h3 : Reg.MERGE_STATUS_DIRTY ∈ ks) (h4 :
    Reg.MERGE_STATUS_LIMIT ∈ ks) (h5 : Reg.XLAT_PINNED_LINES ∈ ks) : onlyRegs ks s (@State.dropCopy s
    c) := by
  unfold State.dropCopy
  repeat' (first
      | (with_reducible apply onlyRegs.rfl)
      | extract_lets
      | (with_reducible assumption)
      | (with_reducible exact List.mem_cons_self)
      | (with_reducible apply List.mem_cons_of_mem)
      | (with_reducible apply onlyRegs.on (drainFailed_regs _ _ ?_ ?_ ?_ ?_ ?_))
      | (with_reducible apply onlyRegs.foldl; intro t x)
      | fail_if_no_progress with_reducible apply onlyRegs.upd)

theorem pick_800000000000000200000000000000000000000000002 (s t : State) : State.pick 0x800000000000000200000000000000000000000000002 s t = { s with
    regs := t.regs, merge := { s.merge with entries := t.merge.entries },
    xlat := { s.xlat with moves := t.xlat.moves } } := rfl

theorem unloadMove_within (s : State) (m : Move) : Within
    0x800000000000000200000000000000000000000000002 s (@State.unloadMove s m) := by
  unfold State.unloadMove
  repeat' (first
      | extract_lets
      | with_reducible apply Within.rfl
      | (with_reducible apply Within.on (m := 0x800000000000000200000000000000000000000000002) (drainFailed_within _ _) (by decide))
      | (with_reducible apply Within.foldl; intro t x)
      | fail_if_no_progress with_reducible apply Within.upd (by rw [pick_800000000000000200000000000000000000000000002]))

theorem unloadMove_regs (s : State) (m : Move) {ks : List Field} (h1 :
    Reg.MERGE_PARTIAL_LINES ∈ ks) (h2 : Reg.MERGE_SETTLING_LINES ∈ ks) (h3 : Reg.MERGE_STATUS_DIRTY ∈ ks) (h4 :
    Reg.MERGE_STATUS_LIMIT ∈ ks) (h5 : Reg.XLAT_PINNED_LINES ∈ ks) : onlyRegs ks s (@State.unloadMove
    s m) := by
  unfold State.unloadMove
  repeat' (first
      | (with_reducible apply onlyRegs.rfl)
      | extract_lets
      | (with_reducible assumption)
      | (with_reducible exact List.mem_cons_self)
      | (with_reducible apply List.mem_cons_of_mem)
      | (with_reducible apply onlyRegs.on (drainFailed_regs _ _ ?_ ?_ ?_ ?_ ?_))
      | (with_reducible apply onlyRegs.foldl; intro t x)
      | fail_if_no_progress with_reducible apply onlyRegs.upd)

theorem pick_40002828000400000000200000000000000000000000000002 (s t : State) : State.pick 0x40002828000400000000200000000000000000000000000002 s t = { s with
    regs := t.regs, merge := { s.merge with entries := t.merge.entries }, ops := t.ops,
    xlat := { s.xlat with
      blocks := t.xlat.blocks, opens := t.xlat.opens, moves := t.xlat.moves, copies := t.xlat.copies },
    err := { s.err with rewrites := t.err.rewrites } } := rfl

theorem abandonAll_within (s : State) (bank : Nat → Bool) (page : Nat → Bool) (blk : Nat → Bool) :
    Within 0x40002828000400000000200000000000000000000000000002 s (@State.abandonAll s bank
    page blk) := by
  unfold State.abandonAll
  repeat' (first
      | extract_lets
      | with_reducible apply Within.rfl
      | (with_reducible apply Within.on (m := 0x40002828000400000000200000000000000000000000000002) (abandon_within _ _ _) (by decide))
      | (with_reducible apply Within.on (m := 0x40002828000400000000200000000000000000000000000002) (seal_within _ _) (by decide))
      | (with_reducible apply Within.on (m := 0x40002828000400000000200000000000000000000000000002) (dropCopy_within _ _) (by decide))
      | (with_reducible apply Within.on (m := 0x40002828000400000000200000000000000000000000000002) (unloadMove_within _ _) (by decide))
      | (with_reducible apply Within.foldl; intro t x))

theorem abandonAll_regs (s : State) (bank : Nat → Bool) (page : Nat → Bool) (blk : Nat → Bool) {ks
    : List Field} (h1 : Reg.MERGE_PARTIAL_LINES ∈ ks) (h2 : Reg.MERGE_SETTLING_LINES ∈ ks) (h3 :
    Reg.MERGE_STATUS_DIRTY ∈ ks) (h4 : Reg.MERGE_STATUS_LIMIT ∈ ks) (h5 : Reg.XLAT_PINNED_LINES ∈ ks) : onlyRegs ks s
    (@State.abandonAll s bank page blk) := by
  unfold State.abandonAll
  repeat' (first
      | (with_reducible apply onlyRegs.rfl)
      | extract_lets
      | (with_reducible assumption)
      | (with_reducible exact List.mem_cons_self)
      | (with_reducible apply List.mem_cons_of_mem)
      | (with_reducible apply onlyRegs.on (abandon_regs _ _ _ ?_ ?_ ?_ ?_ ?_))
      | (with_reducible apply onlyRegs.keep (seal_within _ _) (by decide))
      | (with_reducible apply onlyRegs.on (dropCopy_regs _ _ ?_ ?_ ?_ ?_ ?_))
      | (with_reducible apply onlyRegs.on (unloadMove_regs _ _ ?_ ?_ ?_ ?_ ?_))
      | (with_reducible apply onlyRegs.foldl; intro t x))

theorem suspendChan_within (s : State) (c : Nat) : Within
    0x400000000000000000000000000000000000000 s (@State.suspendChan s c) := by
  unfold State.suspendChan
  repeat' (first
      | with_reducible apply Within.rfl
      | fail_if_no_progress with_reducible apply Within.upd (by rw [pick_400000000000000000000000000000000000000]))

theorem pick_9400000000000000000000000000000000000022 (s t : State) : State.pick 0x9400000000000000000000000000000000000022 s t = { s with
    regs := t.regs, out := t.out, ops := t.ops, chans := t.chans, sched := { s.sched with jobs := t.sched.jobs } } := rfl

theorem fastRetrain_within (s : State) (c : Nat) : Within
    0x9400000000000000000000000000000000000022 s (@State.fastRetrain s c) := by
  unfold State.fastRetrain
  repeat' (first
      | extract_lets
      | with_reducible apply Within.ite <;> intro _
      | with_reducible apply Within.rfl
      | (with_reducible apply Within.on (m := 0x9400000000000000000000000000000000000022) (bump_within _ _ _ _ _) (by decide))
      | (with_reducible apply Within.on (m := 0x9400000000000000000000000000000000000022) (setBit_within _ _ _ _ _) (by decide))
      | (with_reducible apply Within.on (m := 0x9400000000000000000000000000000000000022) (suspendChan_within _ _) (by decide))
      | (with_reducible apply Within.on (m := 0x9400000000000000000000000000000000000022) (setChan_within _ _ _) (by decide))
      | (with_reducible apply Within.on (m := 0x9400000000000000000000000000000000000022) (regroup_within _ _ _) (by decide))
      | (with_reducible apply Within.on (m := 0x9400000000000000000000000000000000000022) (emit_within _ _) (by decide)))

theorem fastRetrain_regs (s : State) (c : Nat) {ks : List Field} (h1 : Reg.CHAN_RETRAIN_CNT ∈ ks)
    (h2 : Reg.CHAN_STATUS_RETRAIN ∈ ks) : onlyRegs ks s (@State.fastRetrain s c) := by
  unfold State.fastRetrain
  repeat' (first
      | (with_reducible apply onlyRegs.rfl)
      | extract_lets
      | (with_reducible assumption)
      | (with_reducible exact List.mem_cons_self)
      | (with_reducible apply List.mem_cons_of_mem)
      | (with_reducible apply onlyRegs.ite <;> intro _)
      | (with_reducible apply onlyRegs.on (bump_regs _ _ _ _ _ ?_))
      | (with_reducible apply onlyRegs.on (setBit_regs _ _ _ _ _ ?_))
      | (with_reducible apply onlyRegs.keep (suspendChan_within _ _) (by decide))
      | (with_reducible apply onlyRegs.keep (setChan_within _ _ _) (by decide))
      | (with_reducible apply onlyRegs.keep (regroup_within _ _ _) (by decide))
      | (with_reducible apply onlyRegs.keep (emit_within _ _) (by decide)))

theorem retrainRecord_within (s : State) (c : Nat) (full : Bool) (failed : Bool) : Within
    0x3cc00000000000000002 s (@State.retrainRecord s c full failed) := by
  unfold State.retrainRecord
  repeat' (first
      | with_reducible apply Within.rfl
      | (with_reducible apply Within.on (m := 0x3cc00000000000000002) (chronicle_within _ _ _ _ _) (by decide)))

theorem retrainRecord_regs (s : State) (c : Nat) (full : Bool) (failed : Bool) {ks : List Field}
    (h1 : Reg.CHRON_DROP_CNT ∈ ks) (h2 : Reg.CHRON_REPEAT_CNT ∈ ks) : onlyRegs ks s
    (@State.retrainRecord s c full failed) := by
  unfold State.retrainRecord
  repeat' (first
      | (with_reducible apply onlyRegs.rfl)
      | (with_reducible assumption)
      | (with_reducible exact List.mem_cons_self)
      | (with_reducible apply List.mem_cons_of_mem)
      | (with_reducible apply onlyRegs.on (chronicle_regs _ _ _ _ _ ?_ ?_)))

theorem pick_4000282800140000000020000000003cc00000000000000002 (s t : State) : State.pick 0x4000282800140000000020000000003cc00000000000000002 s t = { s with
    regs := t.regs,
    chron := { s.chron with
      perm := t.chron.perm, ring := t.chron.ring, buffer := t.chron.buffer, nextSerial := t.chron.nextSerial,
      runs := t.chron.runs, dropped := t.chron.dropped },
    merge := { s.merge with entries := t.merge.entries }, ops := t.ops, chans := t.chans,
    xlat := { s.xlat with
      blocks := t.xlat.blocks, opens := t.xlat.opens, moves := t.xlat.moves, copies := t.xlat.copies },
    err := { s.err with rewrites := t.err.rewrites } } := rfl

theorem fullRetrain_within (s : State) (c : Nat) : Within
    0x4000282800140000000020000000003cc00000000000000002 s (@State.fullRetrain s c) := by
  unfold State.fullRetrain
  repeat' (first
      | extract_lets
      | with_reducible apply Within.rfl
      | (with_reducible apply Within.on (m := 0x4000282800140000000020000000003cc00000000000000002) (wr_within _ _ _ _ _) (by decide))
      | (with_reducible apply Within.on (m := 0x4000282800140000000020000000003cc00000000000000002) (retrainRecord_within _ _ _ _) (by decide))
      | (with_reducible apply Within.on (m := 0x4000282800140000000020000000003cc00000000000000002) (setChan_within _ _ _) (by decide))
      | (with_reducible apply Within.on (m := 0x4000282800140000000020000000003cc00000000000000002) (bump_within _ _ _ _ _) (by decide))
      | (with_reducible apply Within.on (m := 0x4000282800140000000020000000003cc00000000000000002) (abandonAll_within _ _ _ _) (by decide)))

theorem fullRetrain_regs (s : State) (c : Nat) {ks : List Field} (h1 : Reg.CHAN_RETRAIN_CNT ∈ ks)
    (h2 : Reg.CHAN_STATUS_STATE ∈ ks) (h3 : Reg.CHRON_DROP_CNT ∈ ks) (h4 : Reg.CHRON_REPEAT_CNT ∈ ks) (h5 :
    Reg.MERGE_PARTIAL_LINES ∈ ks) (h6 : Reg.MERGE_SETTLING_LINES ∈ ks) (h7 : Reg.MERGE_STATUS_DIRTY ∈ ks) (h8 :
    Reg.MERGE_STATUS_LIMIT ∈ ks) (h9 : Reg.XLAT_PINNED_LINES ∈ ks) : onlyRegs ks s (@State.fullRetrain
    s c) := by
  unfold State.fullRetrain
  repeat' (first
      | (with_reducible apply onlyRegs.rfl)
      | extract_lets
      | (with_reducible assumption)
      | (with_reducible exact List.mem_cons_self)
      | (with_reducible apply List.mem_cons_of_mem)
      | (with_reducible apply onlyRegs.wr)
      | (with_reducible apply onlyRegs.on (retrainRecord_regs _ _ _ _ ?_ ?_))
      | (with_reducible apply onlyRegs.keep (setChan_within _ _ _) (by decide))
      | (with_reducible apply onlyRegs.on (bump_regs _ _ _ _ _ ?_))
      | (with_reducible apply onlyRegs.on (abandonAll_regs _ _ _ _ ?_ ?_ ?_ ?_ ?_)))

theorem linkError_within (s : State) (c : Nat) (n : Nat) : Within
    0x9400000000000000000000000000000000000022 s (@State.linkError s c n) := by
  unfold State.linkError
  repeat' (first
      | extract_lets
      | with_reducible apply Within.ite <;> intro _
      | with_reducible apply Within.rfl
      | (with_reducible apply Within.on (m := 0x9400000000000000000000000000000000000022) (setChan_within _ _ _) (by decide))
      | (with_reducible apply Within.on (m := 0x9400000000000000000000000000000000000022) (bump_within _ _ _ _ _) (by decide))
      | (with_reducible apply Within.on (m := 0x9400000000000000000000000000000000000022) (fastRetrain_within _ _) (by decide)))

theorem linkError_regs (s : State) (c : Nat) (n : Nat) {ks : List Field} (h1 :
    Reg.CHAN_LINK_ERR_CNT ∈ ks) (h2 : Reg.CHAN_RETRAIN_CNT ∈ ks) (h3 : Reg.CHAN_STATUS_RETRAIN ∈ ks) : onlyRegs ks s
    (@State.linkError s c n) := by
  unfold State.linkError
  repeat' (first
      | (with_reducible apply onlyRegs.rfl)
      | extract_lets
      | (with_reducible assumption)
      | (with_reducible exact List.mem_cons_self)
      | (with_reducible apply List.mem_cons_of_mem)
      | (with_reducible apply onlyRegs.ite <;> intro _)
      | (with_reducible apply onlyRegs.keep (setChan_within _ _ _) (by decide))
      | (with_reducible apply onlyRegs.on (bump_regs _ _ _ _ _ ?_))
      | (with_reducible apply onlyRegs.on (fastRetrain_regs _ _ ?_ ?_)))

theorem failChannel_within (s : State) (c : Nat) : Within
    0x1000000000000000007fbcc00c10000000000022 s (@State.failChannel s c) := by
  unfold State.failChannel
  repeat' (first
      | extract_lets
      | with_reducible apply Within.rfl
      | (with_reducible apply Within.on (m := 0x1000000000000000007fbcc00c10000000000022) (setChan_within _ _ _) (by decide))
      | (with_reducible apply Within.on (m := 0x1000000000000000007fbcc00c10000000000022) (setBit_within _ _ _ _ _) (by decide))
      | (with_reducible apply Within.on (m := 0x1000000000000000007fbcc00c10000000000022) (wr_within _ _ _ _ _) (by decide))
      | (with_reducible apply Within.on (m := 0x1000000000000000007fbcc00c10000000000022) (declareDie_within _ _ _ _) (by decide))
      | (with_reducible apply Within.foldl; intro t x))

theorem failChannel_regs (s : State) (c : Nat) {ks : List Field} (h1 : Reg.CHAN_STATUS_RETRAIN ∈
    ks) (h2 : Reg.CHAN_STATUS_STATE ∈ ks) (h3 : Reg.CHRON_DROP_CNT ∈ ks) (h4 : Reg.CHRON_REPEAT_CNT ∈ ks) (h5 :
    Reg.ERR_HEALTH_EVENT_DIE_FAIL ∈ ks) : onlyRegs ks s (@State.failChannel s c) := by
  unfold State.failChannel
  repeat' (first
      | (with_reducible apply onlyRegs.rfl)
      | extract_lets
      | (with_reducible assumption)
      | (with_reducible exact List.mem_cons_self)
      | (with_reducible apply List.mem_cons_of_mem)
      | (with_reducible apply onlyRegs.keep (setChan_within _ _ _) (by decide))
      | (with_reducible apply onlyRegs.on (setBit_regs _ _ _ _ _ ?_))
      | (with_reducible apply onlyRegs.wr)
      | (with_reducible apply onlyRegs.on (declareDie_regs _ _ _ _ ?_ ?_ ?_))
      | (with_reducible apply onlyRegs.foldl; intro t x))

theorem failRb_within (s : State) (sbn : Nat) (pos : Nat) : Within
    0x8000000000000000000000000000000000000000000 s (@State.failRb s sbn pos) := by
  unfold State.failRb
  repeat' (first
      | extract_lets
      | with_reducible apply Within.rfl
      | (with_reducible apply Within.on (m := 0x8000000000000000000000000000000000000000000) (setBlock_within _ _ _) (by decide)))

theorem queueBlock_within (s : State) (sbn : Nat) : Within
    0x1002000000000000000000000000000000000000000002 s (@State.queueBlock s sbn) := by
  unfold State.queueBlock
  repeat' (first
      | with_reducible apply Within.rfl
      | (with_reducible apply Within.on (m := 0x1002000000000000000000000000000000000000000002) (queueMove_within _ _) (by decide))
      | with_reducible apply Within.of_fst (by assumption)
      | with_reducible apply Within.of_fst1 (by assumption)
      | split)

theorem queueBlock_regs (s : State) (sbn : Nat) {ks : List Field} (h1 : Reg.XLAT_COLD_COUNT_BLOCKS
    ∈ ks) (h2 : Reg.XLAT_HOT_COUNT_BLOCKS ∈ ks) (h3 : Reg.XLAT_LIFTED_PAGES ∈ ks) (h4 : Reg.XLAT_MOVES_ACTIVE ∈ ks)
    (h5 : Reg.XLAT_MOVES_QUEUED ∈ ks) (h6 : Reg.XLAT_POOL_STATUS_FREE ∈ ks) : onlyRegs ks s
    (@State.queueBlock s sbn) := by
  unfold State.queueBlock
  repeat' (first
      | (with_reducible apply onlyRegs.rfl)
      | (with_reducible assumption)
      | (with_reducible exact List.mem_cons_self)
      | (with_reducible apply List.mem_cons_of_mem)
      | (with_reducible apply onlyRegs.on (queueMove_regs _ _ ?_ ?_ ?_ ?_ ?_ ?_))
      | with_reducible apply onlyRegs.of_fst (by assumption)
      | with_reducible apply onlyRegs.of_fst1 (by assumption)
      | split)

theorem pick_40008000000000000000000000000000000000000000000 (s t : State) : State.pick 0x40008000000000000000000000000000000000000000000 s t = { s with
    xlat := { s.xlat with blocks := t.xlat.blocks, failedSlots := t.xlat.failedSlots } } := rfl

theorem failSlot_within (s : State) (mp : Nat) : Within
    0x40008000000000000000000000000000000000000000000 s (@State.failSlot s mp) := by
  unfold State.failSlot
  repeat' (first
      | with_reducible apply Within.rfl
      | (with_reducible apply Within.on (m := 0x40008000000000000000000000000000000000000000000) (failRb_within _ _ _) (by decide))
      | fail_if_no_progress with_reducible apply Within.upd (by rw [pick_40008000000000000000000000000000000000000000000]))

theorem pick_43000000008000000000210000007fbcc00000000000000022 (s t : State) : State.pick 0x43000000008000000000210000007fbcc00000000000000022 s t = { s with
    regs := t.regs, out := t.out,
    chron := { s.chron with
      perm := t.chron.perm, ring := t.chron.ring, buffer := t.chron.buffer, nextSerial := t.chron.nextSerial,
      runs := t.chron.runs, dropped := t.chron.dropped },
    events := t.events, reqs := t.reqs, merge := { s.merge with entries := t.merge.entries },
    sched := { s.sched with jobs := t.sched.jobs },
    err := { s.err with poison := t.err.poison, poisonLost := t.err.poisonLost, rewrites := t.err.rewrites } } := rfl

theorem writePoisoned_within (s : State) (line : Nat) (mp : Nat) : Within
    0x43000000008000000000210000007fbcc00000000000000022 s (@State.writePoisoned s line mp)
    := by
  unfold State.writePoisoned
  repeat' (first
      | extract_lets
      | with_reducible apply Within.rfl
      | (with_reducible apply Within.on (m := 0x43000000008000000000210000007fbcc00000000000000022) (dirtyLost_within _ _) (by decide))
      | (with_reducible apply Within.on (m := 0x43000000008000000000210000007fbcc00000000000000022) (rewritePoison_within _ _ _ _) (by decide))
      | (with_reducible apply Within.on (m := 0x43000000008000000000210000007fbcc00000000000000022) (dropEntry_within _ _) (by decide))
      | (with_reducible apply Within.on (m := 0x43000000008000000000210000007fbcc00000000000000022) (mergeCounts_within _) (by decide))
      | (with_reducible apply Within.on (m := 0x43000000008000000000210000007fbcc00000000000000022) (bump_within _ _ _ _ _) (by decide)))

theorem writePoisoned_regs (s : State) (line : Nat) (mp : Nat) {ks : List Field} (h1 :
    Reg.CHRON_DROP_CNT ∈ ks) (h2 : Reg.CHRON_REPEAT_CNT ∈ ks) (h3 : Reg.ERR_DIRTY_LOST_CNT ∈ ks) (h4 :
    Reg.ERR_HEALTH_EVENT_DIRTY_LOST ∈ ks) (h5 : Reg.ERR_HEALTH_EVENT_POISON_FULL ∈ ks) (h6 :
    Reg.ERR_POISON_LIST_OVERFLOW ∈ ks) (h7 : Reg.ERR_POISON_LIST_RECORDS ∈ ks) (h8 : Reg.MERGE_PARTIAL_LINES ∈ ks) (h9
    : Reg.MERGE_SETTLING_LINES ∈ ks) (h10 : Reg.MERGE_STATUS_DIRTY ∈ ks) (h11 : Reg.MERGE_STATUS_LIMIT ∈ ks) (h12 :
    Reg.XLAT_PINNED_LINES ∈ ks) (h13 : Reg.XLAT_POISON_WR_CNT ∈ ks) : onlyRegs ks s
    (@State.writePoisoned s line mp) := by
  unfold State.writePoisoned
  repeat' (first
      | (with_reducible apply onlyRegs.rfl)
      | extract_lets
      | (with_reducible assumption)
      | (with_reducible exact List.mem_cons_self)
      | (with_reducible apply List.mem_cons_of_mem)
      | (with_reducible apply onlyRegs.on (dirtyLost_regs _ _ ?_ ?_ ?_ ?_))
      | (with_reducible apply onlyRegs.on (rewritePoison_regs _ _ _ _ ?_ ?_ ?_))
      | (with_reducible apply onlyRegs.keep (dropEntry_within _ _) (by decide))
      | (with_reducible apply onlyRegs.on (mergeCounts_regs _ ?_ ?_ ?_ ?_ ?_))
      | (with_reducible apply onlyRegs.on (bump_regs _ _ _ _ _ ?_)))

theorem pick_43fffffe008000000000210000007fbcc00000000000000022 (s t : State) : State.pick 0x43fffffe008000000000210000007fbcc00000000000000022 s t = { s with
    regs := t.regs, out := t.out,
    chron := { s.chron with
      perm := t.chron.perm, ring := t.chron.ring, buffer := t.chron.buffer, nextSerial := t.chron.nextSerial,
      runs := t.chron.runs, dropped := t.chron.dropped },
    events := t.events, reqs := t.reqs, merge := { s.merge with entries := t.merge.entries },
    sched := { s.sched with jobs := t.sched.jobs }, xlat := t.xlat,
    err := { s.err with poison := t.err.poison, poisonLost := t.err.poisonLost, rewrites := t.err.rewrites } } := rfl

theorem pinOrPoison_within (s : State) (line : Nat) (mp : Nat) : Within
    0x43fffffe008000000000210000007fbcc00000000000000022 s (@State.pinOrPoison s line mp) :=
    by
  unfold State.pinOrPoison
  repeat' (first
      | with_reducible apply Within.ite <;> intro _
      | with_reducible apply Within.rfl
      | (with_reducible apply Within.on (m := 0x43fffffe008000000000210000007fbcc00000000000000022) (poolCounts_within _) (by decide))
      | (with_reducible apply Within.on (m := 0x43fffffe008000000000210000007fbcc00000000000000022) (retireOrQueue_within _ _) (by decide))
      | (with_reducible apply Within.on (m := 0x43fffffe008000000000210000007fbcc00000000000000022) (mergeCounts_within _) (by decide))
      | (with_reducible apply Within.on (m := 0x43fffffe008000000000210000007fbcc00000000000000022) (bump_within _ _ _ _ _) (by decide))
      | (with_reducible apply Within.on (m := 0x43fffffe008000000000210000007fbcc00000000000000022) (putEntry_within _ _ _) (by decide))
      | (with_reducible apply Within.on (m := 0x43fffffe008000000000210000007fbcc00000000000000022) (writePoisoned_within _ _ _) (by decide))
      | fail_if_no_progress with_reducible apply Within.upd (by rw [pick_43fffffe008000000000210000007fbcc00000000000000022])
      | with_reducible apply Within.of_fst (by assumption)
      | with_reducible apply Within.of_fst1 (by assumption)
      | split)

theorem pinOrPoison_regs (s : State) (line : Nat) (mp : Nat) {ks : List Field} (h1 :
    Reg.CHRON_DROP_CNT ∈ ks) (h2 : Reg.CHRON_REPEAT_CNT ∈ ks) (h3 : Reg.ERR_DIRTY_LOST_CNT ∈ ks) (h4 :
    Reg.ERR_HEALTH_EVENT_DIRTY_LOST ∈ ks) (h5 : Reg.ERR_HEALTH_EVENT_POISON_FULL ∈ ks) (h6 :
    Reg.ERR_POISON_LIST_OVERFLOW ∈ ks) (h7 : Reg.ERR_POISON_LIST_RECORDS ∈ ks) (h8 : Reg.MERGE_PARTIAL_LINES ∈ ks) (h9
    : Reg.MERGE_SETTLING_LINES ∈ ks) (h10 : Reg.MERGE_STATUS_DIRTY ∈ ks) (h11 : Reg.MERGE_STATUS_LIMIT ∈ ks) (h12 :
    Reg.XLAT_COLD_COUNT_BLOCKS ∈ ks) (h13 : Reg.XLAT_HOT_COUNT_BLOCKS ∈ ks) (h14 : Reg.XLAT_LIFTED_PAGES ∈ ks) (h15 :
    Reg.XLAT_MOVES_ACTIVE ∈ ks) (h16 : Reg.XLAT_MOVES_QUEUED ∈ ks) (h17 : Reg.XLAT_PINNED_LINES ∈ ks) (h18 :
    Reg.XLAT_PIN_CNT ∈ ks) (h19 : Reg.XLAT_POISON_WR_CNT ∈ ks) (h20 : Reg.XLAT_POOL_STATUS_FREE ∈ ks) : onlyRegs ks s
    (@State.pinOrPoison s line mp) := by
  unfold State.pinOrPoison
  repeat' (first
      | (with_reducible apply onlyRegs.rfl)
      | (with_reducible assumption)
      | (with_reducible exact List.mem_cons_self)
      | (with_reducible apply List.mem_cons_of_mem)
      | (with_reducible apply onlyRegs.ite <;> intro _)
      | (with_reducible apply onlyRegs.on (poolCounts_regs _ ?_ ?_ ?_ ?_ ?_ ?_))
      | (with_reducible apply onlyRegs.keep (retireOrQueue_within _ _) (by decide))
      | (with_reducible apply onlyRegs.on (mergeCounts_regs _ ?_ ?_ ?_ ?_ ?_))
      | (with_reducible apply onlyRegs.on (bump_regs _ _ _ _ _ ?_))
      | (with_reducible apply onlyRegs.keep (putEntry_within _ _ _) (by decide))
      | (with_reducible apply onlyRegs.on (writePoisoned_regs _ _ _ ?_ ?_ ?_ ?_ ?_ ?_ ?_ ?_ ?_ ?_ ?_ ?_ ?_))
      | fail_if_no_progress with_reducible apply onlyRegs.upd
      | with_reducible apply onlyRegs.of_fst (by assumption)
      | with_reducible apply onlyRegs.of_fst1 (by assumption)
      | split)

theorem pick_43fffffe008400000000210000007fbcc00000000000000022 (s t : State) : State.pick 0x43fffffe008400000000210000007fbcc00000000000000022 s t = { s with
    regs := t.regs, out := t.out,
    chron := { s.chron with
      perm := t.chron.perm, ring := t.chron.ring, buffer := t.chron.buffer, nextSerial := t.chron.nextSerial,
      runs := t.chron.runs, dropped := t.chron.dropped },
    events := t.events, reqs := t.reqs, merge := { s.merge with entries := t.merge.entries }, ops := t.ops,
    sched := { s.sched with jobs := t.sched.jobs }, xlat := t.xlat,
    err := { s.err with poison := t.err.poison, poisonLost := t.err.poisonLost, rewrites := t.err.rewrites } } := rfl

theorem exchangeFailed_within (s : State) (b : Nat) (o : BankOp) : Within
    0x43fffffe008400000000210000007fbcc00000000000000022 s (@State.exchangeFailed s b o) :=
    by
  unfold State.exchangeFailed
  repeat' (first
      | extract_lets
      | with_reducible apply Within.ite <;> intro _
      | with_reducible apply Within.rfl
      | (with_reducible apply Within.on (m := 0x43fffffe008400000000210000007fbcc00000000000000022) (queueBlock_within _ _) (by decide))
      | (with_reducible apply Within.on (m := 0x43fffffe008400000000210000007fbcc00000000000000022) (failRb_within _ _ _) (by decide))
      | (with_reducible apply Within.on (m := 0x43fffffe008400000000210000007fbcc00000000000000022) (dropToggle_within _ _) (by decide))
      | (with_reducible apply Within.on (m := 0x43fffffe008400000000210000007fbcc00000000000000022) (failSlot_within _ _) (by decide))
      | (with_reducible apply Within.on (m := 0x43fffffe008400000000210000007fbcc00000000000000022) (pinOrPoison_within _ _ _) (by decide))
      | (with_reducible apply Within.on (m := 0x43fffffe008400000000210000007fbcc00000000000000022) (drainFailed_within _ _) (by decide))
      | fail_if_no_progress with_reducible apply Within.upd (by rw [pick_43fffffe008400000000210000007fbcc00000000000000022]))

theorem exchangeFailed_regs (s : State) (b : Nat) (o : BankOp) {ks : List Field}
    (h1 : Reg.CHRON_DROP_CNT ∈ ks) (h2 : Reg.CHRON_REPEAT_CNT ∈ ks) (h3 : Reg.ERR_DIRTY_LOST_CNT ∈ ks) (h4 :
    Reg.ERR_HEALTH_EVENT_DIRTY_LOST ∈ ks) (h5 : Reg.ERR_HEALTH_EVENT_POISON_FULL ∈ ks) (h6 :
    Reg.ERR_POISON_LIST_OVERFLOW ∈ ks) (h7 : Reg.ERR_POISON_LIST_RECORDS ∈ ks) (h8 : Reg.MERGE_PARTIAL_LINES ∈ ks) (h9
    : Reg.MERGE_SETTLING_LINES ∈ ks) (h10 : Reg.MERGE_STATUS_DIRTY ∈ ks) (h11 : Reg.MERGE_STATUS_LIMIT ∈ ks) (h12 :
    Reg.XLAT_COLD_COUNT_BLOCKS ∈ ks) (h13 : Reg.XLAT_HOT_COUNT_BLOCKS ∈ ks) (h14 : Reg.XLAT_LIFTED_PAGES ∈ ks) (h15 :
    Reg.XLAT_MOVES_ACTIVE ∈ ks) (h16 : Reg.XLAT_MOVES_QUEUED ∈ ks) (h17 : Reg.XLAT_PINNED_LINES ∈ ks) (h18 :
    Reg.XLAT_PIN_CNT ∈ ks) (h19 : Reg.XLAT_POISON_WR_CNT ∈ ks) (h20 : Reg.XLAT_POOL_STATUS_FREE ∈ ks) : onlyRegs ks s
    (@State.exchangeFailed s b o) := by
  unfold State.exchangeFailed
  repeat' (first
      | (with_reducible apply onlyRegs.rfl)
      | extract_lets
      | (with_reducible assumption)
      | (with_reducible exact List.mem_cons_self)
      | (with_reducible apply List.mem_cons_of_mem)
      | (with_reducible apply onlyRegs.ite <;> intro _)
      | (with_reducible apply onlyRegs.on (queueBlock_regs _ _ ?_ ?_ ?_ ?_ ?_ ?_))
      | (with_reducible apply onlyRegs.keep (failRb_within _ _ _) (by decide))
      | (with_reducible apply onlyRegs.keep (dropToggle_within _ _) (by decide))
      | (with_reducible apply onlyRegs.keep (failSlot_within _ _) (by decide))
      | (with_reducible apply onlyRegs.on (pinOrPoison_regs _ _ _ ?_ ?_ ?_ ?_ ?_ ?_ ?_ ?_ ?_ ?_ ?_ ?_ ?_ ?_ ?_ ?_ ?_ ?_ ?_ ?_))
      | (with_reducible apply onlyRegs.on (drainFailed_regs _ _ ?_ ?_ ?_ ?_ ?_))
      | fail_if_no_progress with_reducible apply onlyRegs.upd)

theorem pick_81002000c00000000000000000000000000000000000002 (s t : State) : State.pick 0x81002000c00000000000000000000000000000000000002 s t = { s with
    regs := t.regs, ops := t.ops, deltas := t.deltas,
    xlat := { s.xlat with tracts := t.xlat.tracts, moveQ := t.xlat.moveQ, badParity := t.xlat.badParity } } := rfl

theorem toggleFailed_within (s : State) (b : Nat) (o : BankOp) : Within
    0x81002000c00000000000000000000000000000000000002 s (@State.toggleFailed s b o) := by
  unfold State.toggleFailed
  repeat' (first
      | extract_lets
      | with_reducible apply Within.ite <;> intro _
      | with_reducible apply Within.rfl
      | (with_reducible apply Within.on (m := 0x81002000c00000000000000000000000000000000000002) (queueBlock_within _ _) (by decide))
      | fail_if_no_progress with_reducible apply Within.upd (by rw [pick_81002000c00000000000000000000000000000000000002]))

theorem toggleFailed_regs (s : State) (b : Nat) (o : BankOp) {ks : List Field}
    (h1 : Reg.XLAT_COLD_COUNT_BLOCKS ∈ ks) (h2 : Reg.XLAT_HOT_COUNT_BLOCKS ∈ ks) (h3 : Reg.XLAT_LIFTED_PAGES ∈ ks) (h4
    : Reg.XLAT_MOVES_ACTIVE ∈ ks) (h5 : Reg.XLAT_MOVES_QUEUED ∈ ks) (h6 : Reg.XLAT_POOL_STATUS_FREE ∈ ks) : onlyRegs ks
    s (@State.toggleFailed s b o) := by
  unfold State.toggleFailed
  repeat' (first
      | (with_reducible apply onlyRegs.rfl)
      | extract_lets
      | (with_reducible assumption)
      | (with_reducible exact List.mem_cons_self)
      | (with_reducible apply List.mem_cons_of_mem)
      | (with_reducible apply onlyRegs.ite <;> intro _)
      | (with_reducible apply onlyRegs.on (queueBlock_regs _ _ ?_ ?_ ?_ ?_ ?_ ?_))
      | fail_if_no_progress with_reducible apply onlyRegs.upd)

theorem pick_fffffe000000000000200000000000000000000000000002 (s t : State) : State.pick 0xfffffe000000000000200000000000000000000000000002 s t = { s with
    regs := t.regs, merge := { s.merge with entries := t.merge.entries }, xlat := t.xlat } := rfl

theorem copyFailed_within (s : State) (c : Copy) : Within
    0xfffffe000000000000200000000000000000000000000002 s (@State.copyFailed s c) := by
  unfold State.copyFailed
  repeat' (first
      | extract_lets
      | with_reducible apply Within.rfl
      | (with_reducible apply Within.on (m := 0xfffffe000000000000200000000000000000000000000002) (bump_within _ _ _ _ _) (by decide))
      | (with_reducible apply Within.on (m := 0xfffffe000000000000200000000000000000000000000002) (seal_within _ _) (by decide))
      | (with_reducible apply Within.on (m := 0xfffffe000000000000200000000000000000000000000002) (failRb_within _ _ _) (by decide))
      | (with_reducible apply Within.on (m := 0xfffffe000000000000200000000000000000000000000002) (nextPoolPage_within _ _ _ _ (by assumption)) (by decide))
      | (with_reducible apply Within.on (m := 0xfffffe000000000000200000000000000000000000000002) (dropCopy_within _ _) (by decide))
      | fail_if_no_progress with_reducible apply Within.upd (by rw [pick_fffffe000000000000200000000000000000000000000002])
      | with_reducible apply Within.of_fst (by assumption)
      | with_reducible apply Within.of_fst1 (by assumption)
      | split)

theorem copyFailed_regs (s : State) (c : Copy) {ks : List Field} (h1 :
    Reg.MERGE_PARTIAL_LINES ∈ ks) (h2 : Reg.MERGE_SETTLING_LINES ∈ ks) (h3 : Reg.MERGE_STATUS_DIRTY ∈ ks) (h4 :
    Reg.MERGE_STATUS_LIMIT ∈ ks) (h5 : Reg.XLAT_COPY_FAIL_CNT ∈ ks) (h6 : Reg.XLAT_PINNED_LINES ∈ ks) : onlyRegs ks s
    (@State.copyFailed s c) := by
  unfold State.copyFailed
  repeat' (first
      | (with_reducible apply onlyRegs.rfl)
      | extract_lets
      | (with_reducible assumption)
      | (with_reducible exact List.mem_cons_self)
      | (with_reducible apply List.mem_cons_of_mem)
      | (with_reducible apply onlyRegs.on (bump_regs _ _ _ _ _ ?_))
      | (with_reducible apply onlyRegs.keep (seal_within _ _) (by decide))
      | (with_reducible apply onlyRegs.keep (failRb_within _ _ _) (by decide))
      | (with_reducible apply onlyRegs.keep (nextPoolPage_within _ _ _ _ (by assumption)) (by decide))
      | (with_reducible apply onlyRegs.on (dropCopy_regs _ _ ?_ ?_ ?_ ?_ ?_))
      | fail_if_no_progress with_reducible apply onlyRegs.upd
      | with_reducible apply onlyRegs.of_fst (by assumption)
      | with_reducible apply onlyRegs.of_fst1 (by assumption)
      | split)

theorem pick_808000000000000000000000000000000000000000002 (s t : State) : State.pick 0x808000000000000000000000000000000000000000002 s t = { s with
    regs := t.regs, xlat := { s.xlat with blocks := t.xlat.blocks, moves := t.xlat.moves } } := rfl

theorem moveFailed_within (s : State) (m : Move) (pos : Nat) : Within
    0x808000000000000000000000000000000000000000002 s (@State.moveFailed s m pos) := by
  unfold State.moveFailed
  repeat' (first
      | extract_lets
      | with_reducible apply Within.rfl
      | (with_reducible apply Within.on (m := 0x808000000000000000000000000000000000000000002) (bump_within _ _ _ _ _) (by decide))
      | (with_reducible apply Within.on (m := 0x808000000000000000000000000000000000000000002) (failRb_within _ _ _) (by decide))
      | fail_if_no_progress with_reducible apply Within.upd (by rw [pick_808000000000000000000000000000000000000000002]))

theorem moveFailed_regs (s : State) (m : Move) (pos : Nat) {ks : List Field} (h1
    : Reg.XLAT_COPY_FAIL_CNT ∈ ks) : onlyRegs ks s (@State.moveFailed s m pos) := by
  unfold State.moveFailed
  repeat' (first
      | (with_reducible apply onlyRegs.rfl)
      | extract_lets
      | (with_reducible assumption)
      | (with_reducible exact List.mem_cons_self)
      | (with_reducible apply List.mem_cons_of_mem)
      | (with_reducible apply onlyRegs.on (bump_regs _ _ _ _ _ ?_))
      | (with_reducible apply onlyRegs.keep (failRb_within _ _ _) (by decide))
      | fail_if_no_progress with_reducible apply onlyRegs.upd)

theorem appendFailed_within (s : State) (mp : Nat) : Within
    0xfffffe000000000000200000000000000000000000000002 s (@State.appendFailed s mp) := by
  unfold State.appendFailed
  repeat' (first
      | with_reducible apply Within.rfl
      | (with_reducible apply Within.on (m := 0xfffffe000000000000200000000000000000000000000002) (copyFailed_within _ _) (by decide))
      | (with_reducible apply Within.on (m := 0xfffffe000000000000200000000000000000000000000002) (moveFailed_within _ _ _) (by decide))
      | with_reducible apply Within.of_fst (by assumption)
      | with_reducible apply Within.of_fst1 (by assumption)
      | split)

theorem appendFailed_regs (s : State) (mp : Nat) {ks : List Field} (h1 : Reg.MERGE_PARTIAL_LINES ∈
    ks) (h2 : Reg.MERGE_SETTLING_LINES ∈ ks) (h3 : Reg.MERGE_STATUS_DIRTY ∈ ks) (h4 : Reg.MERGE_STATUS_LIMIT ∈ ks) (h5
    : Reg.XLAT_COPY_FAIL_CNT ∈ ks) (h6 : Reg.XLAT_PINNED_LINES ∈ ks) : onlyRegs ks s
    (@State.appendFailed s mp) := by
  unfold State.appendFailed
  repeat' (first
      | (with_reducible apply onlyRegs.rfl)
      | (with_reducible assumption)
      | (with_reducible exact List.mem_cons_self)
      | (with_reducible apply List.mem_cons_of_mem)
      | (with_reducible apply onlyRegs.on (copyFailed_regs _ _ ?_ ?_ ?_ ?_ ?_ ?_))
      | (with_reducible apply onlyRegs.on (moveFailed_regs _ _ _ ?_))
      | with_reducible apply onlyRegs.of_fst (by assumption)
      | with_reducible apply onlyRegs.of_fst1 (by assumption)
      | split)

theorem pick_260000000000400000000000000000000000000000000000000 (s t : State) : State.pick 0x260000000000400000000000000000000000000000000000000 s t = { s with
    ops := t.ops, err := { s.err with refresh := t.err.refresh, rewrites := t.err.rewrites, wake := t.err.wake } } := rfl

theorem refreshFailed_within (s : State) (b : Nat) (o : BankOp) : Within
    0x260000000000400000000000000000000000000000000000000 s (@State.refreshFailed s b o) :=
    by
  unfold State.refreshFailed
  repeat' (first
      | extract_lets
      | with_reducible apply Within.rfl
      | (with_reducible apply Within.on (m := 0x260000000000400000000000000000000000000000000000000) (askRewrite_within _ _) (by decide))
      | (with_reducible apply Within.foldl; intro t x)
      | fail_if_no_progress with_reducible apply Within.upd (by rw [pick_260000000000400000000000000000000000000000000000000])
      | with_reducible apply Within.of_fst (by assumption)
      | with_reducible apply Within.of_fst1 (by assumption)
      | split)

theorem pick_263fffffe008c00000000210000007fbcc00000000000000022 (s t : State) : State.pick 0x263fffffe008c00000000210000007fbcc00000000000000022 s t = { s with
    regs := t.regs, out := t.out,
    chron := { s.chron with
      perm := t.chron.perm, ring := t.chron.ring, buffer := t.chron.buffer, nextSerial := t.chron.nextSerial,
      runs := t.chron.runs, dropped := t.chron.dropped },
    events := t.events, reqs := t.reqs, merge := { s.merge with entries := t.merge.entries }, ops := t.ops,
    deltas := t.deltas, sched := { s.sched with jobs := t.sched.jobs }, xlat := t.xlat,
    err := { s.err with
      poison := t.err.poison, poisonLost := t.err.poisonLost, refresh := t.err.refresh,
      rewrites := t.err.rewrites, wake := t.err.wake } } := rfl

theorem programFailed_within (s : State) (chan : Nat) (die : Nat) (bank : Nat) (row : Nat) (opcode :
    Nat) : Within 0x263fffffe008c00000000210000007fbcc00000000000000022 s
    (@State.programFailed s chan die bank row opcode) := by
  unfold State.programFailed
  repeat' (first
      | extract_lets
      | with_reducible apply Within.rfl
      | (with_reducible apply Within.on (m := 0x263fffffe008c00000000210000007fbcc00000000000000022) (appendFailed_within _ _) (by decide))
      | (with_reducible apply Within.on (m := 0x263fffffe008c00000000210000007fbcc00000000000000022) (failRb_within _ _ _) (by decide))
      | (with_reducible apply Within.on (m := 0x263fffffe008c00000000210000007fbcc00000000000000022) (exchangeFailed_within _ _ _) (by decide))
      | (with_reducible apply Within.on (m := 0x263fffffe008c00000000210000007fbcc00000000000000022) (toggleFailed_within _ _ _) (by decide))
      | (with_reducible apply Within.on (m := 0x263fffffe008c00000000210000007fbcc00000000000000022) (refreshFailed_within _ _ _) (by decide))
      | with_reducible apply Within.of_fst (by assumption)
      | with_reducible apply Within.of_fst1 (by assumption)
      | split)

theorem programFailed_regs (s : State) (chan : Nat) (die : Nat) (bank : Nat) (row : Nat) (opcode :
    Nat) {ks : List Field} (h1 : Reg.CHRON_DROP_CNT ∈ ks) (h2 : Reg.CHRON_REPEAT_CNT ∈ ks) (h3 :
    Reg.ERR_DIRTY_LOST_CNT ∈ ks) (h4 : Reg.ERR_HEALTH_EVENT_DIRTY_LOST ∈ ks) (h5 : Reg.ERR_HEALTH_EVENT_POISON_FULL ∈
    ks) (h6 : Reg.ERR_POISON_LIST_OVERFLOW ∈ ks) (h7 : Reg.ERR_POISON_LIST_RECORDS ∈ ks) (h8 : Reg.MERGE_PARTIAL_LINES
    ∈ ks) (h9 : Reg.MERGE_SETTLING_LINES ∈ ks) (h10 : Reg.MERGE_STATUS_DIRTY ∈ ks) (h11 : Reg.MERGE_STATUS_LIMIT ∈ ks)
    (h12 : Reg.XLAT_COLD_COUNT_BLOCKS ∈ ks) (h13 : Reg.XLAT_COPY_FAIL_CNT ∈ ks) (h14 : Reg.XLAT_HOT_COUNT_BLOCKS ∈ ks)
    (h15 : Reg.XLAT_LIFTED_PAGES ∈ ks) (h16 : Reg.XLAT_MOVES_ACTIVE ∈ ks) (h17 : Reg.XLAT_MOVES_QUEUED ∈ ks) (h18 :
    Reg.XLAT_PINNED_LINES ∈ ks) (h19 : Reg.XLAT_PIN_CNT ∈ ks) (h20 : Reg.XLAT_POISON_WR_CNT ∈ ks) (h21 :
    Reg.XLAT_POOL_STATUS_FREE ∈ ks) : onlyRegs ks s (@State.programFailed s chan die bank row opcode)
    := by
  unfold State.programFailed
  repeat' (first
      | (with_reducible apply onlyRegs.rfl)
      | extract_lets
      | (with_reducible assumption)
      | (with_reducible exact List.mem_cons_self)
      | (with_reducible apply List.mem_cons_of_mem)
      | (with_reducible apply onlyRegs.on (appendFailed_regs _ _ ?_ ?_ ?_ ?_ ?_ ?_))
      | (with_reducible apply onlyRegs.keep (failRb_within _ _ _) (by decide))
      | (with_reducible apply onlyRegs.on (exchangeFailed_regs _ _ _ ?_ ?_ ?_ ?_ ?_ ?_ ?_ ?_ ?_ ?_ ?_ ?_ ?_ ?_ ?_ ?_ ?_ ?_ ?_ ?_))
      | (with_reducible apply onlyRegs.on (toggleFailed_regs _ _ _ ?_ ?_ ?_ ?_ ?_ ?_))
      | (with_reducible apply onlyRegs.keep (refreshFailed_within _ _ _) (by decide))
      | with_reducible apply onlyRegs.of_fst (by assumption)
      | with_reducible apply onlyRegs.of_fst1 (by assumption)
      | split)

theorem pick_263fffffe009c00000000210000007fbcc00c10000000000022 (s t : State) : State.pick 0x263fffffe009c00000000210000007fbcc00c10000000000022 s t = { s with
    regs := t.regs, out := t.out,
    keep := { s.keep with shadow := t.keep.shadow, queue := t.keep.queue, lost := t.keep.lost },
    chron := { s.chron with
      perm := t.chron.perm, ring := t.chron.ring, buffer := t.chron.buffer, nextSerial := t.chron.nextSerial,
      runs := t.chron.runs, dropped := t.chron.dropped },
    events := t.events, reqs := t.reqs, merge := { s.merge with entries := t.merge.entries }, ops := t.ops,
    deltas := t.deltas, chans := t.chans, sched := { s.sched with jobs := t.sched.jobs }, xlat := t.xlat,
    err := { s.err with
      poison := t.err.poison, poisonLost := t.err.poisonLost, refresh := t.err.refresh,
      rewrites := t.err.rewrites, wake := t.err.wake } } := rfl

theorem verifyFailure_within (s : State) (c : Nat) (st : Sys2Proof.StatusLine) : Within
    0x263fffffe009c00000000210000007fbcc00c10000000000022 s (@State.verifyFailure s c st) :=
    by
  unfold State.verifyFailure
  repeat' (first
      | extract_lets
      | with_reducible apply Within.ite <;> intro _
      | with_reducible apply Within.rfl
      | (with_reducible apply Within.on (m := 0x263fffffe009c00000000210000007fbcc00c10000000000022) (wr_within _ _ _ _ _) (by decide))
      | (with_reducible apply Within.on (m := 0x263fffffe009c00000000210000007fbcc00c10000000000022) (bump_within _ _ _ _ _) (by decide))
      | (with_reducible apply Within.on (m := 0x263fffffe009c00000000210000007fbcc00c10000000000022) (setChan_within _ _ _) (by decide))
      | (with_reducible apply Within.on (m := 0x263fffffe009c00000000210000007fbcc00c10000000000022) (declareDie_within _ _ _ _) (by decide))
      | (with_reducible apply Within.on (m := 0x263fffffe009c00000000210000007fbcc00c10000000000022) (programFailed_within _ _ _ _ _ _) (by decide)))

theorem verifyFailure_regs (s : State) (c : Nat) (st : Sys2Proof.StatusLine) {ks : List Field} (h1
    : Reg.CHAN_LAST_FAIL_OP ∈ ks) (h2 : Reg.CHAN_VERIFY_FAIL_CNT ∈ ks) (h3 : Reg.CHRON_DROP_CNT ∈ ks) (h4 :
    Reg.CHRON_REPEAT_CNT ∈ ks) (h5 : Reg.ERR_DIRTY_LOST_CNT ∈ ks) (h6 : Reg.ERR_HEALTH_EVENT_DIE_FAIL ∈ ks) (h7 :
    Reg.ERR_HEALTH_EVENT_DIRTY_LOST ∈ ks) (h8 : Reg.ERR_HEALTH_EVENT_POISON_FULL ∈ ks) (h9 :
    Reg.ERR_POISON_LIST_OVERFLOW ∈ ks) (h10 : Reg.ERR_POISON_LIST_RECORDS ∈ ks) (h11 : Reg.MERGE_PARTIAL_LINES ∈ ks)
    (h12 : Reg.MERGE_SETTLING_LINES ∈ ks) (h13 : Reg.MERGE_STATUS_DIRTY ∈ ks) (h14 : Reg.MERGE_STATUS_LIMIT ∈ ks) (h15
    : Reg.XLAT_COLD_COUNT_BLOCKS ∈ ks) (h16 : Reg.XLAT_COPY_FAIL_CNT ∈ ks) (h17 : Reg.XLAT_HOT_COUNT_BLOCKS ∈ ks) (h18
    : Reg.XLAT_LIFTED_PAGES ∈ ks) (h19 : Reg.XLAT_MOVES_ACTIVE ∈ ks) (h20 : Reg.XLAT_MOVES_QUEUED ∈ ks) (h21 :
    Reg.XLAT_PINNED_LINES ∈ ks) (h22 : Reg.XLAT_PIN_CNT ∈ ks) (h23 : Reg.XLAT_POISON_WR_CNT ∈ ks) (h24 :
    Reg.XLAT_POOL_STATUS_FREE ∈ ks) : onlyRegs ks s (@State.verifyFailure s c st) := by
  unfold State.verifyFailure
  repeat' (first
      | (with_reducible apply onlyRegs.rfl)
      | extract_lets
      | (with_reducible assumption)
      | (with_reducible exact List.mem_cons_self)
      | (with_reducible apply List.mem_cons_of_mem)
      | (with_reducible apply onlyRegs.ite <;> intro _)
      | (with_reducible apply onlyRegs.wr)
      | (with_reducible apply onlyRegs.on (bump_regs _ _ _ _ _ ?_))
      | (with_reducible apply onlyRegs.keep (setChan_within _ _ _) (by decide))
      | (with_reducible apply onlyRegs.on (declareDie_regs _ _ _ _ ?_ ?_ ?_))
      | (with_reducible apply onlyRegs.on (programFailed_regs _ _ _ _ _ _ ?_ ?_ ?_ ?_ ?_ ?_ ?_ ?_ ?_ ?_ ?_ ?_ ?_ ?_ ?_ ?_ ?_ ?_ ?_ ?_ ?_)))

theorem pick_1000000000000000000000000000000000000002 (s t : State) : State.pick 0x1000000000000000000000000000000000000002 s t = { s with
    regs := t.regs, chans := t.chans } := rfl

theorem trained_within (s : State) (r : Sys2Proof.TrainResult) : Within
    0x1000000000000000000000000000000000000002 s (@State.trained s r) := by
  unfold State.trained
  repeat' (first
      | extract_lets
      | with_reducible apply Within.ite <;> intro _
      | with_reducible apply Within.rfl
      | (with_reducible apply Within.on (m := 0x1000000000000000000000000000000000000002) (wr_within _ _ _ _ _) (by decide))
      | (with_reducible apply Within.on (m := 0x1000000000000000000000000000000000000002) (setChan_within _ _ _) (by decide)))

theorem trained_regs (s : State) (r : Sys2Proof.TrainResult) {ks : List Field} (h1 :
    Reg.CHAN_SERIAL_HI_SERIAL ∈ ks) (h2 : Reg.CHAN_SERIAL_LO_SERIAL ∈ ks) (h3 : Reg.CHAN_STATUS_DIES ∈ ks) (h4 :
    Reg.CHAN_STATUS_STATE ∈ ks) (h5 : Reg.CHAN_TRAIN_VALUES ∈ ks) : onlyRegs ks s (@State.trained s r)
    := by
  unfold State.trained
  repeat' (first
      | (with_reducible apply onlyRegs.rfl)
      | extract_lets
      | (with_reducible assumption)
      | (with_reducible exact List.mem_cons_self)
      | (with_reducible apply List.mem_cons_of_mem)
      | (with_reducible apply onlyRegs.ite <;> intro _)
      | (with_reducible apply onlyRegs.wr)
      | (with_reducible apply onlyRegs.keep (setChan_within _ _ _) (by decide)))

theorem saveSerials_within (s : State) : Within 0xc10000000000000 s
    (@State.saveSerials s) := by
  unfold State.saveSerials
  repeat' (first
      | with_reducible apply Within.ite <;> intro _
      | with_reducible apply Within.rfl
      | (with_reducible apply Within.on (m := 0xc10000000000000) (keepWrite_within _ _ _ _) (by decide))
      | (with_reducible apply Within.foldl; intro t x))

theorem writeHeader_within (s : State) : Within 0xc10000000000000 s
    (@State.writeHeader s) := by
  unfold State.writeHeader
  repeat' (first
      | with_reducible apply Within.ite <;> intro _
      | with_reducible apply Within.rfl
      | (with_reducible apply Within.on (m := 0xc10000000000000) (keepWrite_within _ _ _ _) (by decide)))

theorem pick_fe0000000000000000000000000000000000000000000000000002 (s t : State) : State.pick 0xfe0000000000000000000000000000000000000000000000000002 s t = { s with
    regs := t.regs, img := t.img } := rfl

theorem enterRecovery_within (s : State) : Within
    0xfe0000000000000000000000000000000000000000000000000002 s (@State.enterRecovery s) :=
    by
  unfold State.enterRecovery
  repeat' (first
      | extract_lets
      | with_reducible apply Within.rfl
      | (with_reducible apply Within.on (m := 0xfe0000000000000000000000000000000000000000000000000002) (setBit_within _ _ _ _ _) (by decide))
      | fail_if_no_progress with_reducible apply Within.upd (by rw [pick_fe0000000000000000000000000000000000000000000000000002]))

theorem enterRecovery_regs (s : State) {ks : List Field} (h1 : Reg.TOP_STATUS_RECOVERY ∈ ks) :
    onlyRegs ks s (@State.enterRecovery s) := by
  unfold State.enterRecovery
  repeat' (first
      | (with_reducible apply onlyRegs.rfl)
      | extract_lets
      | (with_reducible assumption)
      | (with_reducible exact List.mem_cons_self)
      | (with_reducible apply List.mem_cons_of_mem)
      | (with_reducible apply onlyRegs.on (setBit_regs _ _ _ _ _ ?_))
      | fail_if_no_progress with_reducible apply onlyRegs.upd)

theorem pick_fe000000000000000000000000000000003cc00000000000000002 (s t : State) : State.pick 0xfe000000000000000000000000000000003cc00000000000000002 s t = { s with
    regs := t.regs,
    chron := { s.chron with
      perm := t.chron.perm, ring := t.chron.ring, buffer := t.chron.buffer, nextSerial := t.chron.nextSerial,
      runs := t.chron.runs, dropped := t.chron.dropped },
    img := t.img } := rfl

theorem imageCheck_within (s : State) : Within
    0xfe000000000000000000000000000000003cc00000000000000002 s (@State.imageCheck s) := by
  unfold State.imageCheck
  repeat' (first
      | extract_lets
      | with_reducible apply Within.ite <;> intro _
      | with_reducible apply Within.rfl
      | (with_reducible apply Within.on (m := 0xfe000000000000000000000000000000003cc00000000000000002) (chronicle_within _ _ _ _ _) (by decide))
      | (with_reducible apply Within.on (m := 0xfe000000000000000000000000000000003cc00000000000000002) (enterRecovery_within _) (by decide)))

theorem imageCheck_regs (s : State) {ks : List Field} (h1 : Reg.CHRON_DROP_CNT ∈ ks) (h2 :
    Reg.CHRON_REPEAT_CNT ∈ ks) (h3 : Reg.TOP_STATUS_RECOVERY ∈ ks) : onlyRegs ks s (@State.imageCheck
    s) := by
  unfold State.imageCheck
  repeat' (first
      | (with_reducible apply onlyRegs.rfl)
      | extract_lets
      | (with_reducible assumption)
      | (with_reducible exact List.mem_cons_self)
      | (with_reducible apply List.mem_cons_of_mem)
      | (with_reducible apply onlyRegs.ite <;> intro _)
      | (with_reducible apply onlyRegs.on (chronicle_regs _ _ _ _ _ ?_ ?_))
      | (with_reducible apply onlyRegs.on (enterRecovery_regs _ ?_)))

theorem restoreFailed_within (s : State) : Within 2 s (@State.restoreFailed s) := by
  unfold State.restoreFailed
  repeat' (first
      | with_reducible apply Within.ite <;> intro _
      | with_reducible apply Within.rfl
      | (with_reducible apply Within.on (m := 2) (wr_within _ _ _ _ _) (by decide))
      | (with_reducible apply Within.foldl; intro t x))

theorem restoreFailed_regs (s : State) {ks : List Field} (h1 : Reg.CHAN_G_FAILED_DIES ∈ ks) (h2 :
    Reg.CHAN_STATUS_DIE_FAILED ∈ ks) : onlyRegs ks s (@State.restoreFailed s) := by
  unfold State.restoreFailed
  repeat' (first
      | (with_reducible apply onlyRegs.rfl)
      | (with_reducible assumption)
      | (with_reducible exact List.mem_cons_self)
      | (with_reducible apply List.mem_cons_of_mem)
      | (with_reducible apply onlyRegs.ite <;> intro _)
      | (with_reducible apply onlyRegs.wr)
      | (with_reducible apply onlyRegs.foldl; intro t x))

theorem pick_fe000000000008000000000000000000003cfffff0082000000002 (s t : State) : State.pick 0xfe000000000008000000000000000000003cfffff0082000000002 s t = { s with
    regs := t.regs, start := { s.start with step5 := t.start.step5, stopped := t.start.stopped }, keep := t.keep,
    chron := { s.chron with
      perm := t.chron.perm, ring := t.chron.ring, buffer := t.chron.buffer, nextSerial := t.chron.nextSerial,
      runs := t.chron.runs, dropped := t.chron.dropped },
    sched := { s.sched with back := t.sched.back }, img := t.img } := rfl

theorem trainingEnd_within (s : State) : Within
    0xfe000000000008000000000000000000003cfffff0082000000002 s (@State.trainingEnd s) :=
    by
  unfold State.trainingEnd
  repeat' (first
      | extract_lets
      | with_reducible apply Within.ite <;> intro _
      | with_reducible apply Within.rfl
      | (with_reducible apply Within.on (m := 0xfe000000000008000000000000000000003cfffff0082000000002) (chronicle_within _ _ _ _ _) (by decide))
      | (with_reducible apply Within.on (m := 0xfe000000000008000000000000000000003cfffff0082000000002) (wr_within _ _ _ _ _) (by decide))
      | (with_reducible apply Within.on (m := 0xfe000000000008000000000000000000003cfffff0082000000002) (restoreFailed_within _) (by decide))
      | (with_reducible apply Within.on (m := 0xfe000000000008000000000000000000003cfffff0082000000002) (imageCheck_within _) (by decide))
      | (with_reducible apply Within.on (m := 0xfe000000000008000000000000000000003cfffff0082000000002) (flash_within _) (by decide))
      | (with_reducible apply Within.on (m := 0xfe000000000008000000000000000000003cfffff0082000000002) (saveSerials_within _) (by decide))
      | (with_reducible apply Within.on (m := 0xfe000000000008000000000000000000003cfffff0082000000002) (writeHeader_within _) (by decide))
      | fail_if_no_progress with_reducible apply Within.upd (by rw [pick_fe000000000008000000000000000000003cfffff0082000000002])
      | with_reducible apply Within.of_fst (by assumption)
      | with_reducible apply Within.of_fst1 (by assumption)
      | split)

theorem trainingEnd_regs (s : State) {ks : List Field} (h1 : Reg.CHAN_G_FAILED_DIES ∈ ks) (h2 :
    Reg.CHAN_STATUS_DIE_FAILED ∈ ks) (h3 : Reg.CHRON_DROP_CNT ∈ ks) (h4 : Reg.CHRON_REPEAT_CNT ∈ ks) (h5 :
    Reg.TOP_CAPACITY_UNITS ∈ ks) (h6 : Reg.TOP_STATUS_RECOVERY ∈ ks) (h7 : Reg.TOP_STATUS_STACK ∈ ks) : onlyRegs ks s
    (@State.trainingEnd s) := by
  unfold State.trainingEnd
  repeat' (first
      | (with_reducible apply onlyRegs.rfl)
      | extract_lets
      | (with_reducible assumption)
      | (with_reducible exact List.mem_cons_self)
      | (with_reducible apply List.mem_cons_of_mem)
      | (with_reducible apply onlyRegs.ite <;> intro _)
      | (with_reducible apply onlyRegs.on (chronicle_regs _ _ _ _ _ ?_ ?_))
      | (with_reducible apply onlyRegs.wr)
      | (with_reducible apply onlyRegs.on (restoreFailed_regs _ ?_ ?_))
      | (with_reducible apply onlyRegs.on (imageCheck_regs _ ?_ ?_ ?_))
      | (with_reducible apply onlyRegs.keep (flash_within _) (by decide))
      | (with_reducible apply onlyRegs.keep (saveSerials_within _) (by decide))
      | (with_reducible apply onlyRegs.keep (writeHeader_within _) (by decide))
      | fail_if_no_progress with_reducible apply onlyRegs.upd
      | with_reducible apply onlyRegs.of_fst (by assumption)
      | with_reducible apply onlyRegs.of_fst1 (by assumption)
      | split)

theorem retrained_within (s : State) (r : Sys2Proof.TrainResult) : Within
    0x1000000000000000007fbcc00c10000000000022 s (@State.retrained s r) := by
  unfold State.retrained
  repeat' (first
      | extract_lets
      | with_reducible apply Within.ite <;> intro _
      | with_reducible apply Within.rfl
      | (with_reducible apply Within.on (m := 0x1000000000000000007fbcc00c10000000000022) (setChan_within _ _ _) (by decide))
      | (with_reducible apply Within.on (m := 0x1000000000000000007fbcc00c10000000000022) (wr_within _ _ _ _ _) (by decide))
      | (with_reducible apply Within.on (m := 0x1000000000000000007fbcc00c10000000000022) (setBit_within _ _ _ _ _) (by decide))
      | (with_reducible apply Within.on (m := 0x1000000000000000007fbcc00c10000000000022) (retrainRecord_within _ _ _ _) (by decide))
      | (with_reducible apply Within.on (m := 0x1000000000000000007fbcc00c10000000000022) (failChannel_within _ _) (by decide)))

theorem retrained_regs (s : State) (r : Sys2Proof.TrainResult) {ks : List Field} (h1 :
    Reg.CHAN_STATUS_RETRAIN ∈ ks) (h2 : Reg.CHAN_STATUS_STATE ∈ ks) (h3 : Reg.CHAN_TRAIN_VALUES ∈ ks) (h4 :
    Reg.CHRON_DROP_CNT ∈ ks) (h5 : Reg.CHRON_REPEAT_CNT ∈ ks) (h6 : Reg.ERR_HEALTH_EVENT_DIE_FAIL ∈ ks) : onlyRegs ks s
    (@State.retrained s r) := by
  unfold State.retrained
  repeat' (first
      | (with_reducible apply onlyRegs.rfl)
      | extract_lets
      | (with_reducible assumption)
      | (with_reducible exact List.mem_cons_self)
      | (with_reducible apply List.mem_cons_of_mem)
      | (with_reducible apply onlyRegs.ite <;> intro _)
      | (with_reducible apply onlyRegs.keep (setChan_within _ _ _) (by decide))
      | (with_reducible apply onlyRegs.wr)
      | (with_reducible apply onlyRegs.on (setBit_regs _ _ _ _ _ ?_))
      | (with_reducible apply onlyRegs.on (retrainRecord_regs _ _ _ _ ?_ ?_))
      | (with_reducible apply onlyRegs.on (failChannel_regs _ _ ?_ ?_ ?_ ?_ ?_)))

theorem pick_40000008000e00000000200000000000000000000000000002 (s t : State) : State.pick 0x40000008000e00000000200000000000000000000000000002 s t = { s with
    regs := t.regs, merge := { s.merge with entries := t.merge.entries }, pages := t.pages, ops := t.ops,
    deltas := t.deltas, xlat := { s.xlat with blocks := t.xlat.blocks },
    err := { s.err with rewrites := t.err.rewrites } } := rfl

theorem exchanged_within (s : State) (b : Nat) (o : BankOp) : Within
    0x40000008000e00000000200000000000000000000000000002 s (@State.exchanged s b o) := by
  unfold State.exchanged
  repeat' (first
      | extract_lets
      | with_reducible apply Within.ite <;> intro _
      | with_reducible apply Within.rfl
      | (with_reducible apply Within.on (m := 0x40000008000e00000000200000000000000000000000000002) (wear_within _ _ _) (by decide))
      | (with_reducible apply Within.on (m := 0x40000008000e00000000200000000000000000000000000002) (setMline_within _ _ _ _) (by decide))
      | (with_reducible apply Within.on (m := 0x40000008000e00000000200000000000000000000000000002) (drainVerified_within _ _) (by decide))
      | fail_if_no_progress with_reducible apply Within.upd (by rw [pick_40000008000e00000000200000000000000000000000000002])
      | with_reducible apply Within.of_fst (by assumption)
      | with_reducible apply Within.of_fst1 (by assumption)
      | split
      | dsimp +zetaDelta only)

theorem exchanged_regs (s : State) (b : Nat) (o : BankOp) {ks : List Field} (h1 :
    Reg.MERGE_DRAIN_CNT ∈ ks) (h2 : Reg.MERGE_PARTIAL_LINES ∈ ks) (h3 : Reg.MERGE_SETTLING_LINES ∈ ks) (h4 :
    Reg.MERGE_STATUS_DIRTY ∈ ks) (h5 : Reg.MERGE_STATUS_LIMIT ∈ ks) (h6 : Reg.XLAT_PINNED_LINES ∈ ks) : onlyRegs ks s
    (@State.exchanged s b o) := by
  unfold State.exchanged
  repeat' (first
      | (with_reducible apply onlyRegs.rfl)
      | extract_lets
      | (with_reducible assumption)
      | (with_reducible exact List.mem_cons_self)
      | (with_reducible apply List.mem_cons_of_mem)
      | (with_reducible apply onlyRegs.ite <;> intro _)
      | (with_reducible apply onlyRegs.keep (wear_within _ _ _) (by decide))
      | (with_reducible apply onlyRegs.keep (setMline_within _ _ _ _) (by decide))
      | (with_reducible apply onlyRegs.on (drainVerified_regs _ _ ?_ ?_ ?_ ?_ ?_ ?_))
      | fail_if_no_progress with_reducible apply onlyRegs.upd
      | with_reducible apply onlyRegs.of_fst (by assumption)
      | with_reducible apply onlyRegs.of_fst1 (by assumption)
      | split
      | dsimp +zetaDelta only)

theorem pick_800000000000000220000008000600000000000000000000000000000000000002 (s t : State) : State.pick 0x800000000000000220000008000600000000000000000000000000000000000002 s t = { s with
    regs := t.regs, pages := t.pages, ops := t.ops, xlat := { s.xlat with blocks := t.xlat.blocks },
    err := { s.err with refresh := t.err.refresh, wake := t.err.wake },
    telem := { s.telem with counts := t.telem.counts } } := rfl

theorem refreshed_within (s : State) (b : Nat) (o : BankOp) : Within
    0x800000000000000220000008000600000000000000000000000000000000000002 s
    (@State.refreshed s b o) := by
  unfold State.refreshed
  repeat' (first
      | extract_lets
      | with_reducible apply Within.rfl
      | (with_reducible apply Within.on (m := 0x800000000000000220000008000600000000000000000000000000000000000002) (wear_within _ _ _) (by decide))
      | (with_reducible apply Within.on (m := 0x800000000000000220000008000600000000000000000000000000000000000002) (bump_within _ _ _ _ _) (by decide))
      | (with_reducible apply Within.on (m := 0x800000000000000220000008000600000000000000000000000000000000000002) (tele_within _ _ _ _ _) (by decide))
      | fail_if_no_progress with_reducible apply Within.upd (by rw [pick_800000000000000220000008000600000000000000000000000000000000000002])
      | with_reducible apply Within.of_fst (by assumption)
      | with_reducible apply Within.of_fst1 (by assumption)
      | split
      | dsimp +zetaDelta only)

theorem refreshed_regs (s : State) (b : Nat) (o : BankOp) {ks : List Field} (h1 :
    Reg.ERR_REFRESH_CNT ∈ ks) (h2 : Reg.TELEM_BLK_OVF_OVF ∈ ks) : onlyRegs ks s (@State.refreshed s b
    o) := by
  unfold State.refreshed
  repeat' (first
      | (with_reducible apply onlyRegs.rfl)
      | extract_lets
      | (with_reducible assumption)
      | (with_reducible exact List.mem_cons_self)
      | (with_reducible apply List.mem_cons_of_mem)
      | (with_reducible apply onlyRegs.keep (wear_within _ _ _) (by decide))
      | (with_reducible apply onlyRegs.on (bump_regs _ _ _ _ _ ?_))
      | (with_reducible apply onlyRegs.on (tele_regs _ _ _ _ _ ?_))
      | fail_if_no_progress with_reducible apply onlyRegs.upd
      | with_reducible apply onlyRegs.of_fst (by assumption)
      | with_reducible apply onlyRegs.of_fst1 (by assumption)
      | split
      | dsimp +zetaDelta only)

theorem pick_600000000000000000000000000000000000000 (s t : State) : State.pick 0x600000000000000000000000000000000000000 s t = { s with
    pages := t.pages, ops := t.ops } := rfl

theorem tagged_within (s : State) (b : Nat) (o : BankOp) : Within
    0x600000000000000000000000000000000000000 s (@State.tagged s b o) := by
  unfold State.tagged
  repeat' (first
      | extract_lets
      | with_reducible apply Within.rfl
      | fail_if_no_progress with_reducible apply Within.upd (by rw [pick_600000000000000000000000000000000000000])
      | with_reducible apply Within.of_fst (by assumption)
      | with_reducible apply Within.of_fst1 (by assumption)
      | split)

theorem setDelta_within (s : State) (o : BankOp) (d : Option Lin)
    : Within 0x400000000000000000000000000000000000000 s (@State.setDelta s o d) := by
  unfold State.setDelta
  repeat' (first
      | extract_lets
      | with_reducible apply Within.ite <;> intro _
      | with_reducible apply Within.rfl
      | fail_if_no_progress with_reducible apply Within.upd (by rw [pick_400000000000000000000000000000000000000])
      | with_reducible apply Within.of_fst (by assumption)
      | with_reducible apply Within.of_fst1 (by assumption)
      | split)

theorem pick_8000200000000000000000000000000000000000000 (s t : State) : State.pick 0x8000200000000000000000000000000000000000000 s t = { s with
    pages := t.pages, xlat := { s.xlat with blocks := t.xlat.blocks } } := rfl

theorem setParity_within (s : State) (mp : Nat) (ln : Nat) (l : Lin) : Within
    0x8000200000000000000000000000000000000000000 s (@State.setParity s mp ln l) := by
  unfold State.setParity
  repeat' (first
      | with_reducible apply Within.rfl
      | (with_reducible apply Within.on (m := 0x8000200000000000000000000000000000000000000) (wear_within _ _ _) (by decide))
      | (with_reducible apply Within.on (m := 0x8000200000000000000000000000000000000000000) (setMline_within _ _ _ _) (by decide)))

theorem evacCounts_within (s : State) : Within 2 s (@State.evacCounts s) := by
  unfold State.evacCounts
  repeat' (first
      | with_reducible apply Within.rfl
      | (with_reducible apply Within.on (m := 2) (setBit_within _ _ _ _ _) (by decide))
      | (with_reducible apply Within.on (m := 2) (wr_within _ _ _ _ _) (by decide)))

theorem evacCounts_regs (s : State) {ks : List Field} (h1 : Reg.CHAN_G_EVAC_STATUS_ACTIVE ∈ ks) (h2
    : Reg.CHAN_G_EVAC_STATUS_REMAINING ∈ ks) : onlyRegs ks s (@State.evacCounts s) := by
  unfold State.evacCounts
  repeat' (first
      | (with_reducible apply onlyRegs.rfl)
      | (with_reducible assumption)
      | (with_reducible exact List.mem_cons_self)
      | (with_reducible apply List.mem_cons_of_mem)
      | (with_reducible apply onlyRegs.on (setBit_regs _ _ _ _ _ ?_))
      | (with_reducible apply onlyRegs.wr))

end Sys2Proof.Machine
end

