-- ==== Sys2Proof/Laws/XlatFamilyFrames.lean ====
section
/-! SUPPORT. For each function of Machine/XlatFamily.lean over the state: the part of the state outside which it changes
nothing (`…_within`), and the register fields that it may write (`…_regs`). -/

namespace Sys2Proof.Machine

set_option maxRecDepth 4000

theorem pick_800000000000000000000000000000000000000000000 (s t : State) : State.pick 0x800000000000000000000000000000000000000000000 s t = { s with
    xlat := { s.xlat with moves := t.xlat.moves } } := rfl

theorem putMove_within (s : State) (m : Move) : Within
    0x800000000000000000000000000000000000000000000 s (@State.putMove s m) := by
  unfold State.putMove
  repeat' (first
      | with_reducible apply Within.rfl
      | fail_if_no_progress with_reducible apply Within.upd (by rw [pick_800000000000000000000000000000000000000000000]))

theorem degrade_within (s : State) (sbn : Nat) (stripe : Nat) : Within
    0x8000000000000000000000000000000000000000000 s (@State.degrade s sbn stripe) := by
  unfold State.degrade
  repeat' (first
      | extract_lets
      | with_reducible apply Within.ite <;> intro _
      | with_reducible apply Within.rfl
      | (with_reducible apply Within.on (m := 0x8000000000000000000000000000000000000000000) (setBlock_within _ _ _) (by decide)))

theorem pick_800000000000000000fffffe000200000000200000000000000000000000000002 (s t : State) : State.pick 0x800000000000000000fffffe000200000000200000000000000000000000000002 s t = { s with
    regs := t.regs, merge := { s.merge with entries := t.merge.entries }, pages := t.pages, xlat := t.xlat,
    telem := { s.telem with counts := t.telem.counts } } := rfl

theorem liftFailed_within (s : State) (m : Move) (pages : List
    MPage) (k : Nat) (t : State) (ht : (@State.liftFailed s m pages k) = some t) :
    Within 0x800000000000000000fffffe000200000000200000000000000000000000000002 s t := by
  unfold State.liftFailed at ht
  extract_lets at ht
  split at ht
  · simp only [Option.some.injEq] at ht; subst ht
    repeat' (first
        | extract_lets
        | with_reducible apply Within.rfl
        | fail_if_no_progress with_reducible apply Within.upd (by rw [pick_800000000000000000fffffe000200000000200000000000000000000000000002]))
  · split at ht
    · cases ht
    · split at ht
      · rename_i u dst _ h
        simp only [Option.some.injEq] at ht
        subst ht
        refine Within.on (m := 0x800000000000000000fffffe000200000000200000000000000000000000000002) (t := u) ?_ (Nat.or_self _) (Within.on (nextPoolPage_within _ _ _ _ h) (by decide) (Within.upd (by rw [pick_800000000000000000fffffe000200000000200000000000000000000000000002]) Within.rfl))
        repeat' (first
            | extract_lets
            | with_reducible apply Within.rfl
            | (with_reducible apply Within.on (m := 0x800000000000000000fffffe000200000000200000000000000000000000000002) (takeSeq_within _) (by decide))
            | (with_reducible apply Within.on (m := 0x800000000000000000fffffe000200000000200000000000000000000000000002) (setFluid_within _ _ _ _) (by decide))
            | (with_reducible apply Within.on (m := 0x800000000000000000fffffe000200000000200000000000000000000000000002) (programPage_within _ _ _) (by decide)))
      · cases ht

theorem liftFailed_regs (s : State) (m : Move) (pages : List
    MPage) (k : Nat) (t : State) (ht : (@State.liftFailed s m pages k) = some t)
    {ks : List Field} (h1 : Reg.TELEM_BLK_OVF_OVF ∈ ks) (h2 : Reg.XLAT_COLD_COUNT_BLOCKS ∈ ks) (h3 :
    Reg.XLAT_HOT_COUNT_BLOCKS ∈ ks) (h4 : Reg.XLAT_LIFTED_PAGES ∈ ks) (h5 : Reg.XLAT_MOVES_ACTIVE ∈ ks) (h6 :
    Reg.XLAT_MOVES_QUEUED ∈ ks) (h7 : Reg.XLAT_POOL_STATUS_FREE ∈ ks) : onlyRegs ks s t := by
  unfold State.liftFailed at ht
  repeat' (first | extract_lets at ht | (cases ht; done) | (simp only [Option.some.injEq, Prod.mk.injEq] at ht; obtain ⟨ht, -⟩ := ht; subst ht) | (simp only [Option.some.injEq] at ht; subst ht) | split at ht)
  all_goals repeat' (first
      | (with_reducible apply onlyRegs.rfl)
      | extract_lets
      | (with_reducible assumption)
      | (with_reducible exact List.mem_cons_self)
      | (with_reducible apply List.mem_cons_of_mem)
      | (with_reducible apply onlyRegs.keep (nextPoolPage_within _ _ _ _ (by assumption)) (by decide))
      | (with_reducible apply onlyRegs.keep (takeSeq_within _) (by decide))
      | (with_reducible apply onlyRegs.on (setFluid_regs _ _ _ _ ?_ ?_ ?_ ?_ ?_ ?_))
      | (with_reducible apply onlyRegs.on (programPage_regs _ _ _ ?_))
      | fail_if_no_progress with_reducible apply onlyRegs.upd)

theorem liftAllFailed_within (s : State) (m : Move) (pages : List
    MPage) (x3 : List Nat) (t : State) (ht : (@State.liftAllFailed s m pages x3) =
    some t) : Within 0x800000000000000000fffffe000200000000200000000000000000000000000002 s t := by
  induction x3 generalizing s with
  | nil => simp only [State.liftAllFailed, Option.some.injEq] at ht; subst ht; exact Within.rfl
  | cons k r ih =>
    simp only [State.liftAllFailed] at ht
    split at ht
    · rename_i u h
      exact Within.on (ih _ ht) (Nat.or_self _) (Within.on (liftFailed_within _ _ _ _ _ h) (by decide) Within.rfl)
    · cases ht

theorem liftAllFailed_regs (s : State) (m : Move) (pages : List
    MPage) (x3 : List Nat) (t : State) (ht : (@State.liftAllFailed s m pages x3) =
    some t) {ks : List Field} (h1 : Reg.TELEM_BLK_OVF_OVF ∈ ks) (h2 : Reg.XLAT_COLD_COUNT_BLOCKS ∈ ks) (h3 :
    Reg.XLAT_HOT_COUNT_BLOCKS ∈ ks) (h4 : Reg.XLAT_LIFTED_PAGES ∈ ks) (h5 : Reg.XLAT_MOVES_ACTIVE ∈ ks) (h6 :
    Reg.XLAT_MOVES_QUEUED ∈ ks) (h7 : Reg.XLAT_POOL_STATUS_FREE ∈ ks) : onlyRegs ks s t := by
  induction x3 generalizing s with
  | nil => simp only [State.liftAllFailed, Option.some.injEq] at ht; subst ht; exact onlyRegs.rfl
  | cons k r ih =>
    simp only [State.liftAllFailed] at ht
    split at ht
    · rename_i u h
      refine onlyRegs.on (ih _ ht) ?_
      repeat' (first
          | (with_reducible apply onlyRegs.rfl)
          | (with_reducible assumption)
          | (with_reducible exact List.mem_cons_self)
          | (with_reducible apply List.mem_cons_of_mem)
          | (with_reducible apply onlyRegs.on (liftFailed_regs _ _ _ _ _ (by assumption) ?_ ?_ ?_ ?_ ?_ ?_ ?_)))
    · cases ht

theorem pick_800000000000000000000808000200000000200000000000000000000000000002 (s t : State) : State.pick 0x800000000000000000000808000200000000200000000000000000000000000002 s t = { s with
    regs := t.regs, merge := { s.merge with entries := t.merge.entries }, pages := t.pages,
    xlat := { s.xlat with blocks := t.xlat.blocks, moves := t.xlat.moves },
    telem := { s.telem with counts := t.telem.counts } } := rfl

theorem commitStripe_within (s : State) (m : Move) (pages : List
    MPage) : Within 0x800000000000000000000808000200000000200000000000000000000000000002
    s (@State.commitStripe s m pages) := by
  unfold State.commitStripe
  repeat' (first
      | extract_lets
      | with_reducible apply Within.ite <;> intro _
      | with_reducible apply Within.rfl
      | (with_reducible apply Within.on (m := 0x800000000000000000000808000200000000200000000000000000000000000002) (programStripe_within _ _ _ _ _) (by decide))
      | (with_reducible apply Within.on (m := 0x800000000000000000000808000200000000200000000000000000000000000002) (degrade_within _ _ _) (by decide))
      | (with_reducible apply Within.on (m := 0x800000000000000000000808000200000000200000000000000000000000000002) (putMove_within _ _) (by decide))
      | (with_reducible apply Within.on (m := 0x800000000000000000000808000200000000200000000000000000000000000002) (tele_within _ _ _ _ _) (by decide))
      | (with_reducible apply Within.on (m := 0x800000000000000000000808000200000000200000000000000000000000000002) (drainVerified_within _ _) (by decide))
      | (with_reducible apply Within.foldl; intro t x))

theorem commitStripe_regs (s : State) (m : Move) (pages : List
    MPage) {ks : List Field} (h1 : Reg.MERGE_DRAIN_CNT ∈ ks) (h2 : Reg.MERGE_PARTIAL_LINES ∈ ks) (h3
    : Reg.MERGE_SETTLING_LINES ∈ ks) (h4 : Reg.MERGE_STATUS_DIRTY ∈ ks) (h5 : Reg.MERGE_STATUS_LIMIT ∈ ks) (h6 :
    Reg.TELEM_BLK_OVF_OVF ∈ ks) (h7 : Reg.XLAT_PINNED_LINES ∈ ks) : onlyRegs ks s (@State.commitStripe
    s m pages) := by
  unfold State.commitStripe
  repeat' (first
      | (with_reducible apply onlyRegs.rfl)
      | extract_lets
      | (with_reducible assumption)
      | (with_reducible exact List.mem_cons_self)
      | (with_reducible apply List.mem_cons_of_mem)
      | (with_reducible apply onlyRegs.ite <;> intro _)
      | (with_reducible apply onlyRegs.on (programStripe_regs _ _ _ _ _ ?_))
      | (with_reducible apply onlyRegs.keep (degrade_within _ _ _) (by decide))
      | (with_reducible apply onlyRegs.keep (putMove_within _ _) (by decide))
      | (with_reducible apply onlyRegs.on (tele_regs _ _ _ _ _ ?_))
      | (with_reducible apply onlyRegs.on (drainVerified_regs _ _ ?_ ?_ ?_ ?_ ?_ ?_))
      | (with_reducible apply onlyRegs.foldl; intro t x))

theorem pick_190a000000000000200000000000000000000000000002 (s t : State) : State.pick 0x190a000000000000200000000000000000000000000002 s t = { s with
    regs := t.regs, merge := { s.merge with entries := t.merge.entries },
    xlat := { s.xlat with
      tracts := t.xlat.tracts, blocks := t.xlat.blocks, precondQ := t.xlat.precondQ, moves := t.xlat.moves,
      moveQ := t.xlat.moveQ } } := rfl

theorem endMove_within (s : State) (m : Move) : Within
    0x190a000000000000200000000000000000000000000002 s (@State.endMove s m) := by
  unfold State.endMove
  repeat' (first
      | extract_lets
      | with_reducible apply Within.ite <;> intro _
      | with_reducible apply Within.rfl
      | (with_reducible apply Within.on (m := 0x190a000000000000200000000000000000000000000002) (setTract_within _ _ _) (by decide))
      | (with_reducible apply Within.on (m := 0x190a000000000000200000000000000000000000000002) (retireOrQueue_within _ _) (by decide))
      | (with_reducible apply Within.on (m := 0x190a000000000000200000000000000000000000000002) (retarget_within _ _) (by decide))
      | (with_reducible apply Within.on (m := 0x190a000000000000200000000000000000000000000002) (bump_within _ _ _ _ _) (by decide))
      | (with_reducible apply Within.on (m := 0x190a000000000000200000000000000000000000000002) (poolCounts_within _) (by decide))
      | (with_reducible apply Within.on (m := 0x190a000000000000200000000000000000000000000002) (queueMove_within _ _) (by decide))
      | fail_if_no_progress with_reducible apply Within.upd (by rw [pick_190a000000000000200000000000000000000000000002]))

theorem endMove_regs (s : State) (m : Move) {ks : List Field} (h1 :
    Reg.XLAT_COLD_COUNT_BLOCKS ∈ ks) (h2 : Reg.XLAT_HOT_COUNT_BLOCKS ∈ ks) (h3 : Reg.XLAT_LIFTED_PAGES ∈ ks) (h4 :
    Reg.XLAT_MOVES_ACTIVE ∈ ks) (h5 : Reg.XLAT_MOVES_QUEUED ∈ ks) (h6 : Reg.XLAT_POOL_STATUS_FREE ∈ ks) (h7 :
    Reg.XLAT_RELOC_CNT ∈ ks) : onlyRegs ks s (@State.endMove s m) := by
  unfold State.endMove
  repeat' (first
      | (with_reducible apply onlyRegs.rfl)
      | extract_lets
      | (with_reducible assumption)
      | (with_reducible exact List.mem_cons_self)
      | (with_reducible apply List.mem_cons_of_mem)
      | (with_reducible apply onlyRegs.ite <;> intro _)
      | (with_reducible apply onlyRegs.keep (setTract_within _ _ _) (by decide))
      | (with_reducible apply onlyRegs.keep (retireOrQueue_within _ _) (by decide))
      | (with_reducible apply onlyRegs.keep (retarget_within _ _) (by decide))
      | (with_reducible apply onlyRegs.on (bump_regs _ _ _ _ _ ?_))
      | (with_reducible apply onlyRegs.on (poolCounts_regs _ ?_ ?_ ?_ ?_ ?_ ?_))
      | (with_reducible apply onlyRegs.on (queueMove_regs _ _ ?_ ?_ ?_ ?_ ?_ ?_))
      | fail_if_no_progress with_reducible apply onlyRegs.upd)

theorem advanceMove_within (s : State) (m : Move) : Within
    0x190a000000000000200000000000000000000000000002 s (@State.advanceMove s m) := by
  unfold State.advanceMove
  repeat' (first
      | extract_lets
      | with_reducible apply Within.ite <;> intro _
      | with_reducible apply Within.rfl
      | (with_reducible apply Within.on (m := 0x190a000000000000200000000000000000000000000002) (endMove_within _ _) (by decide))
      | (with_reducible apply Within.on (m := 0x190a000000000000200000000000000000000000000002) (setTract_within _ _ _) (by decide))
      | (with_reducible apply Within.on (m := 0x190a000000000000200000000000000000000000000002) (retarget_within _ _) (by decide))
      | (with_reducible apply Within.on (m := 0x190a000000000000200000000000000000000000000002) (putMove_within _ _) (by decide)))

theorem advanceMove_regs (s : State) (m : Move) {ks : List Field} (h1 :
    Reg.XLAT_COLD_COUNT_BLOCKS ∈ ks) (h2 : Reg.XLAT_HOT_COUNT_BLOCKS ∈ ks) (h3 : Reg.XLAT_LIFTED_PAGES ∈ ks) (h4 :
    Reg.XLAT_MOVES_ACTIVE ∈ ks) (h5 : Reg.XLAT_MOVES_QUEUED ∈ ks) (h6 : Reg.XLAT_POOL_STATUS_FREE ∈ ks) (h7 :
    Reg.XLAT_RELOC_CNT ∈ ks) : onlyRegs ks s (@State.advanceMove s m) := by
  unfold State.advanceMove
  repeat' (first
      | (with_reducible apply onlyRegs.rfl)
      | extract_lets
      | (with_reducible assumption)
      | (with_reducible exact List.mem_cons_self)
      | (with_reducible apply List.mem_cons_of_mem)
      | (with_reducible apply onlyRegs.ite <;> intro _)
      | (with_reducible apply onlyRegs.on (endMove_regs _ _ ?_ ?_ ?_ ?_ ?_ ?_ ?_))
      | (with_reducible apply onlyRegs.keep (setTract_within _ _ _) (by decide))
      | (with_reducible apply onlyRegs.keep (retarget_within _ _) (by decide))
      | (with_reducible apply onlyRegs.keep (putMove_within _ _) (by decide)))

theorem pick_2000000000000000000000000000000000000000000000 (s t : State) : State.pick 0x2000000000000000000000000000000000000000000000 s t = { s with
    xlat := { s.xlat with copies := t.xlat.copies } } := rfl

theorem endCopy_within (s : State) (c : Copy) : Within
    0x2000000000000000000000000000000000000000000000 s (@State.endCopy s c) := by
  unfold State.endCopy
  repeat' (first
      | with_reducible apply Within.rfl
      | fail_if_no_progress with_reducible apply Within.upd (by rw [pick_2000000000000000000000000000000000000000000000]))

theorem pick_800000000000000003004204000000000000200000300000000000000000000002 (s t : State) : State.pick 0x800000000000000003004204000000000000200000300000000000000000000002 s t = { s with
    regs := t.regs, prot := { s.prot with lineCounters := t.prot.lineCounters, dirtyNodes := t.prot.dirtyNodes },
    merge := { s.merge with entries := t.merge.entries },
    xlat := { s.xlat with fluid := t.xlat.fluid, seq := t.xlat.seq, settles := t.xlat.settles },
    err := { s.err with poison := t.err.poison, poisonLost := t.err.poisonLost },
    telem := { s.telem with counts := t.telem.counts } } := rfl

theorem walkEntry_within (s : State) (lpn : Nat) : Within
    0x800000000000000003004204000000000000200000300000000000000000000002 s
    (@State.walkEntry s lpn) := by
  unfold State.walkEntry
  repeat' (first
      | with_reducible apply Within.ite <;> intro _
      | with_reducible apply Within.rfl
      | (with_reducible apply Within.on (m := 0x800000000000000003004204000000000000200000300000000000000000000002) (beginSettle_within _ _) (by decide))
      | fail_if_no_progress with_reducible apply Within.upd (by rw [pick_800000000000000003004204000000000000200000300000000000000000000002])
      | with_reducible apply Within.of_fst (by assumption)
      | with_reducible apply Within.of_fst1 (by assumption)
      | split)

theorem walkEntry_regs (s : State) (lpn : Nat) {ks : List Field} (h1 :
    Reg.ERR_HEALTH_EVENT_POISON_FULL ∈ ks) (h2 : Reg.ERR_POISON_LIST_OVERFLOW ∈ ks) (h3 : Reg.ERR_POISON_LIST_RECORDS
    ∈ ks) (h4 : Reg.MERGE_PARTIAL_LINES ∈ ks) (h5 : Reg.MERGE_SETTLING_LINES ∈ ks) (h6 : Reg.MERGE_STATUS_DIRTY ∈ ks)
    (h7 : Reg.MERGE_STATUS_LIMIT ∈ ks) (h8 : Reg.PROT_INTEG_DIRTY_LINES ∈ ks) (h9 : Reg.TELEM_BLK_OVF_OVF ∈ ks) (h10 :
    Reg.XLAT_PINNED_LINES ∈ ks) : onlyRegs ks s (@State.walkEntry s lpn) := by
  unfold State.walkEntry
  repeat' (first
      | (with_reducible apply onlyRegs.rfl)
      | (with_reducible assumption)
      | (with_reducible exact List.mem_cons_self)
      | (with_reducible apply List.mem_cons_of_mem)
      | (with_reducible apply onlyRegs.ite <;> intro _)
      | (with_reducible apply onlyRegs.on (beginSettle_regs _ _ ?_ ?_ ?_ ?_ ?_ ?_ ?_ ?_ ?_ ?_))
      | fail_if_no_progress with_reducible apply onlyRegs.upd
      | with_reducible apply onlyRegs.of_fst (by assumption)
      | with_reducible apply onlyRegs.of_fst1 (by assumption)
      | split)

theorem rewriteHome_within (s : State) (home : Nat) (new : MPage) : Within
    0x8000200000000000000000000000000000000000000 s (@State.rewriteHome s home new) := by
  unfold State.rewriteHome
  repeat' (first
      | extract_lets
      | with_reducible apply Within.ite <;> intro _
      | with_reducible apply Within.rfl
      | (with_reducible apply Within.on (m := 0x8000200000000000000000000000000000000000000) (wear_within _ _ _) (by decide))
      | fail_if_no_progress with_reducible apply Within.upd (by rw [pick_8000200000000000000000000000000000000000000])
      | with_reducible apply Within.of_fst (by assumption)
      | with_reducible apply Within.of_fst1 (by assumption)
      | split
      | dsimp +zetaDelta only)

theorem reclaimPage_within (s : State) (mp : Nat) : Within
    0x800000000000000003fffffe000000000000200000300000000000000000000002 s
    (@State.reclaimPage s mp) := by
  unfold State.reclaimPage
  repeat' (first
      | with_reducible apply Within.ite <;> intro _
      | with_reducible apply Within.rfl
      | (with_reducible apply Within.on (m := 0x800000000000000003fffffe000000000000200000300000000000000000000002) (beginSettle_within _ _) (by decide))
      | (with_reducible apply Within.on (m := 0x800000000000000003fffffe000000000000200000300000000000000000000002) (beginCopy_within _ _ _ _ _ (by assumption)) (by decide))
      | with_reducible apply Within.of_fst (by assumption)
      | with_reducible apply Within.of_fst1 (by assumption)
      | with_reducible apply Within.getD; intro t ht
      | split)

theorem reclaimPage_regs (s : State) (mp : Nat) {ks : List Field} (h1 :
    Reg.ERR_HEALTH_EVENT_POISON_FULL ∈ ks) (h2 : Reg.ERR_POISON_LIST_OVERFLOW ∈ ks) (h3 : Reg.ERR_POISON_LIST_RECORDS
    ∈ ks) (h4 : Reg.MERGE_PARTIAL_LINES ∈ ks) (h5 : Reg.MERGE_SETTLING_LINES ∈ ks) (h6 : Reg.MERGE_STATUS_DIRTY ∈ ks)
    (h7 : Reg.MERGE_STATUS_LIMIT ∈ ks) (h8 : Reg.PROT_INTEG_DIRTY_LINES ∈ ks) (h9 : Reg.TELEM_BLK_OVF_OVF ∈ ks) (h10 :
    Reg.XLAT_COLD_COUNT_BLOCKS ∈ ks) (h11 : Reg.XLAT_HOT_COUNT_BLOCKS ∈ ks) (h12 : Reg.XLAT_LIFTED_PAGES ∈ ks) (h13 :
    Reg.XLAT_MOVES_ACTIVE ∈ ks) (h14 : Reg.XLAT_MOVES_QUEUED ∈ ks) (h15 : Reg.XLAT_PINNED_LINES ∈ ks) (h16 :
    Reg.XLAT_POOL_STATUS_FREE ∈ ks) : onlyRegs ks s (@State.reclaimPage s mp) := by
  unfold State.reclaimPage
  repeat' (first
      | (with_reducible apply onlyRegs.rfl)
      | (with_reducible assumption)
      | (with_reducible exact List.mem_cons_self)
      | (with_reducible apply List.mem_cons_of_mem)
      | (with_reducible apply onlyRegs.ite <;> intro _)
      | (with_reducible apply onlyRegs.on (beginSettle_regs _ _ ?_ ?_ ?_ ?_ ?_ ?_ ?_ ?_ ?_ ?_))
      | (with_reducible apply onlyRegs.on (beginCopy_regs _ _ _ _ _ (by assumption) ?_ ?_ ?_ ?_ ?_ ?_ ?_ ?_ ?_ ?_ ?_ ?_ ?_ ?_ ?_ ?_))
      | with_reducible apply onlyRegs.of_fst (by assumption)
      | with_reducible apply onlyRegs.of_fst1 (by assumption)
      | with_reducible apply onlyRegs.getD; intro t ht
      | split)

theorem pick_400100000000000000000000000000000000000000000000 (s t : State) : State.pick 0x400100000000000000000000000000000000000000000000 s t = { s with
    xlat := { s.xlat with precondQ := t.xlat.precondQ, again := t.xlat.again } } := rfl

theorem unqueue_within (s : State) (sbn : Nat) : Within
    0x400100000000000000000000000000000000000000000000 s (@State.unqueue s sbn) := by
  unfold State.unqueue
  repeat' (first
      | with_reducible apply Within.rfl
      | fail_if_no_progress with_reducible apply Within.upd (by rw [pick_400100000000000000000000000000000000000000000000]))

theorem pick_2604c0108000200000000000000000000000000000000000002 (s t : State) : State.pick 0x2604c0108000200000000000000000000000000000000000002 s t = { s with
    regs := t.regs, pages := t.pages,
    xlat := { s.xlat with
      blocks := t.xlat.blocks, precondQ := t.xlat.precondQ, failedSlots := t.xlat.failedSlots,
      badParity := t.xlat.badParity, again := t.xlat.again },
    err := { s.err with refresh := t.err.refresh, rewrites := t.err.rewrites, wake := t.err.wake } } := rfl

theorem preconditioned_within (s : State) (sbn : Nat) : Within
    0x2604c0108000200000000000000000000000000000000000002 s (@State.preconditioned s sbn) :=
    by
  unfold State.preconditioned
  repeat' (first
      | extract_lets
      | with_reducible apply Within.ite <;> intro _
      | with_reducible apply Within.rfl
      | (with_reducible apply Within.on (m := 0x2604c0108000200000000000000000000000000000000000002) (eraseBlock_within _ _) (by decide))
      | (with_reducible apply Within.on (m := 0x2604c0108000200000000000000000000000000000000000002) (unqueue_within _ _) (by decide))
      | (with_reducible apply Within.on (m := 0x2604c0108000200000000000000000000000000000000000002) (setBlock_within _ _ _) (by decide))
      | (with_reducible apply Within.on (m := 0x2604c0108000200000000000000000000000000000000000002) (bump_within _ _ _ _ _) (by decide)))

theorem preconditioned_regs (s : State) (sbn : Nat) {ks : List Field} (h1 : Reg.XLAT_RECLAIM_CNT ∈
    ks) : onlyRegs ks s (@State.preconditioned s sbn) := by
  unfold State.preconditioned
  repeat' (first
      | (with_reducible apply onlyRegs.rfl)
      | extract_lets
      | (with_reducible assumption)
      | (with_reducible exact List.mem_cons_self)
      | (with_reducible apply List.mem_cons_of_mem)
      | (with_reducible apply onlyRegs.ite <;> intro _)
      | (with_reducible apply onlyRegs.keep (eraseBlock_within _ _) (by decide))
      | (with_reducible apply onlyRegs.keep (unqueue_within _ _) (by decide))
      | (with_reducible apply onlyRegs.keep (setBlock_within _ _ _) (by decide))
      | (with_reducible apply onlyRegs.on (bump_regs _ _ _ _ _ ?_)))

theorem pick_2604c0108000200000000000000000000000000000000000000 (s t : State) : State.pick 0x2604c0108000200000000000000000000000000000000000000 s t = { s with
    pages := t.pages,
    xlat := { s.xlat with
      blocks := t.xlat.blocks, precondQ := t.xlat.precondQ, failedSlots := t.xlat.failedSlots,
      badParity := t.xlat.badParity, again := t.xlat.again },
    err := { s.err with refresh := t.err.refresh, rewrites := t.err.rewrites, wake := t.err.wake } } := rfl

theorem precondFailed_within (s : State) (sbn : Nat) (failed : BitVec 8) : Within
    0x2604c0108000200000000000000000000000000000000000000 s (@State.precondFailed s sbn
    failed) := by
  unfold State.precondFailed
  repeat' (first
      | extract_lets
      | with_reducible apply Within.rfl
      | (with_reducible apply Within.on (m := 0x2604c0108000200000000000000000000000000000000000000) (eraseBlock_within _ _) (by decide))
      | (with_reducible apply Within.on (m := 0x2604c0108000200000000000000000000000000000000000000) (unqueue_within _ _) (by decide))
      | (with_reducible apply Within.on (m := 0x2604c0108000200000000000000000000000000000000000000) (setBlock_within _ _ _) (by decide)))

end Sys2Proof.Machine
end

