-- ==== Sys2Proof/Laws/MergeFamilyFrames.lean ====
section
/-! SUPPORT. For each function of Machine/MergeFamily.lean over the state: the part of the state outside which it changes
nothing (`…_within`), and the register fields that it may write (`…_regs`). -/

namespace Sys2Proof.Machine

set_option maxRecDepth 4000

theorem setBudget_within (s : State) (budget : Nat) (holdup : Nat) : Within 2 s
    (@State.setBudget s budget holdup) := by
  unfold State.setBudget
  repeat' (first
      | extract_lets
      | with_reducible apply Within.rfl
      | (with_reducible apply Within.on (m := 2) (wr_within _ _ _ _ _) (by decide))
      | (with_reducible apply Within.on (m := 2) (mergeCounts_within _) (by decide)))

theorem setBudget_regs (s : State) (budget : Nat) (holdup : Nat) {ks : List Field} (h1 :
    Reg.MERGE_CFG_BUDGET ∈ ks) (h2 : Reg.MERGE_CFG_HOLDUP ∈ ks) (h3 : Reg.MERGE_CHAN_LIMIT_L ∈ ks) (h4 :
    Reg.MERGE_GPF_DUR_MS ∈ ks) (h5 : Reg.MERGE_PARTIAL_LINES ∈ ks) (h6 : Reg.MERGE_SETTLING_LINES ∈ ks) (h7 :
    Reg.MERGE_STATUS_DIRTY ∈ ks) (h8 : Reg.MERGE_STATUS_LIMIT ∈ ks) (h9 : Reg.XLAT_PINNED_LINES ∈ ks) : onlyRegs ks s
    (@State.setBudget s budget holdup) := by
  unfold State.setBudget
  repeat' (first
      | (with_reducible apply onlyRegs.rfl)
      | extract_lets
      | (with_reducible assumption)
      | (with_reducible exact List.mem_cons_self)
      | (with_reducible apply List.mem_cons_of_mem)
      | (with_reducible apply onlyRegs.wr)
      | (with_reducible apply onlyRegs.on (mergeCounts_regs _ ?_ ?_ ?_ ?_ ?_)))

theorem pick_1000000000000000000000000000002 (s t : State) : State.pick 0x1000000000000000000000000000002 s t = { s with
    regs := t.regs, merge := { s.merge with points := t.merge.points } } := rfl

theorem joinPoint_within (s : State) (S : Nat) (counted : Bool) (f : Point →
    Point) : Within 0x1000000000000000000000000000002 s (@State.joinPoint s S
    counted f) := by
  unfold State.joinPoint
  repeat' (first
      | extract_lets
      | with_reducible apply Within.rfl
      | (with_reducible apply Within.on (m := 0x1000000000000000000000000000002) (pointCount_within _) (by decide))
      | fail_if_no_progress with_reducible apply Within.upd (by rw [pick_1000000000000000000000000000002]))

theorem joinPoint_regs (s : State) (S : Nat) (counted : Bool) (f : Point →
    Point) {ks : List Field} (h1 : Reg.MERGE_STATUS_POINTS ∈ ks) : onlyRegs ks s
    (@State.joinPoint s S counted f) := by
  unfold State.joinPoint
  repeat' (first
      | (with_reducible apply onlyRegs.rfl)
      | extract_lets
      | (with_reducible assumption)
      | (with_reducible exact List.mem_cons_self)
      | (with_reducible apply List.mem_cons_of_mem)
      | (with_reducible apply onlyRegs.on (pointCount_regs _ ?_))
      | fail_if_no_progress with_reducible apply onlyRegs.upd)

theorem bgDone_within (s : State) (p : Sys2Proof.CmdPath) (b : Background) (rc :
    Rc) (ext : Nat) (data : List Nat) : Within 0x600000000000000000000000000000020 s
    (@State.bgDone s p b rc ext data) := by
  unfold State.bgDone
  repeat' (first
      | extract_lets
      | with_reducible apply Within.ite <;> intro _
      | with_reducible apply Within.rfl
      | (with_reducible apply Within.on (m := 0x600000000000000000000000000000020) (reply_within _ _ _ _ _) (by decide))
      | (with_reducible apply Within.on (m := 0x600000000000000000000000000000020) (emit_within _ _) (by decide))
      | fail_if_no_progress with_reducible apply Within.upd (by rw [pick_600000000000000000000000000000020]))

theorem pick_200000000000000000000000000060f000000007fbcc00000000000000022 (s t : State) : State.pick 0x200000000000000000000000000060f000000007fbcc00000000000000022 s t = { s with
    regs := t.regs, out := t.out,
    chron := { s.chron with
      perm := t.chron.perm, ring := t.chron.ring, buffer := t.chron.buffer, nextSerial := t.chron.nextSerial,
      runs := t.chron.runs, dropped := t.chron.dropped },
    events := t.events,
    merge := { s.merge with
      points := t.merge.points, lastPoint := t.merge.lastPoint, pointDone := t.merge.pointDone,
      pointPinned := t.merge.pointPinned },
    mbox := { s.mbox with stored := t.mbox.stored, bg := t.mbox.bg },
    shelf := { s.shelf with pointReport := t.shelf.pointReport } } := rfl

theorem endPoint_within (s : State) (p : Point) (pinned : List Nat) (capo : Bool) :
    Within 0x200000000000000000000000000060f000000007fbcc00000000000000022 s
    (@State.endPoint s p pinned capo) := by
  unfold State.endPoint
  repeat' (first
      | extract_lets
      | with_reducible apply Within.ite <;> intro _
      | with_reducible apply Within.rfl
      | (with_reducible apply Within.on (m := 0x200000000000000000000000000060f000000007fbcc00000000000000022) (pointCount_within _) (by decide))
      | (with_reducible apply Within.on (m := 0x200000000000000000000000000060f000000007fbcc00000000000000022) (wr_within _ _ _ _ _) (by decide))
      | (with_reducible apply Within.on (m := 0x200000000000000000000000000060f000000007fbcc00000000000000022) (bump_within _ _ _ _ _) (by decide))
      | (with_reducible apply Within.on (m := 0x200000000000000000000000000060f000000007fbcc00000000000000022) (bgDone_within _ _ _ _ _ _) (by decide))
      | (with_reducible apply Within.on (m := 0x200000000000000000000000000060f000000007fbcc00000000000000022) (dirtyLost_within _ _) (by decide))
      | (with_reducible apply Within.on (m := 0x200000000000000000000000000060f000000007fbcc00000000000000022) (emit_within _ _) (by decide))
      | (with_reducible apply Within.foldl; intro t x)
      | fail_if_no_progress with_reducible apply Within.upd (by rw [pick_200000000000000000000000000060f000000007fbcc00000000000000022])
      | with_reducible apply Within.of_fst (by assumption)
      | with_reducible apply Within.of_fst1 (by assumption)
      | split)

theorem endPoint_regs (s : State) (p : Point) (pinned : List Nat) (capo : Bool)
    {ks : List Field} (h1 : Reg.CHRON_DROP_CNT ∈ ks) (h2 : Reg.CHRON_REPEAT_CNT ∈ ks) (h3 : Reg.ERR_DIRTY_LOST_CNT ∈
    ks) (h4 : Reg.ERR_HEALTH_EVENT_DIRTY_LOST ∈ ks) (h5 : Reg.MERGE_LOST_CNT ∈ ks) (h6 : Reg.MERGE_POINT_LO_STROKE_LO
    ∈ ks) (h7 : Reg.MERGE_STATUS_POINTS ∈ ks) : onlyRegs ks s (@State.endPoint s p pinned capo) := by
  unfold State.endPoint
  repeat' (first
      | (with_reducible apply onlyRegs.rfl)
      | extract_lets
      | (with_reducible assumption)
      | (with_reducible exact List.mem_cons_self)
      | (with_reducible apply List.mem_cons_of_mem)
      | (with_reducible apply onlyRegs.ite <;> intro _)
      | (with_reducible apply onlyRegs.on (pointCount_regs _ ?_))
      | (with_reducible apply onlyRegs.wr)
      | (with_reducible apply onlyRegs.on (bump_regs _ _ _ _ _ ?_))
      | (with_reducible apply onlyRegs.keep (bgDone_within _ _ _ _ _ _) (by decide))
      | (with_reducible apply onlyRegs.on (dirtyLost_regs _ _ ?_ ?_ ?_ ?_))
      | (with_reducible apply onlyRegs.keep (emit_within _ _) (by decide))
      | (with_reducible apply onlyRegs.foldl; intro t x)
      | fail_if_no_progress with_reducible apply onlyRegs.upd
      | with_reducible apply onlyRegs.of_fst (by assumption)
      | with_reducible apply onlyRegs.of_fst1 (by assumption)
      | split)

theorem pick_601000000000000000000000000000022 (s t : State) : State.pick 0x601000000000000000000000000000022 s t = { s with
    regs := t.regs, out := t.out, merge := { s.merge with points := t.merge.points },
    mbox := { s.mbox with stored := t.mbox.stored, bg := t.mbox.bg } } := rfl

theorem persistAt_within (s : State) (p : Sys2Proof.CmdPath) (S : Nat) : Within
    0x601000000000000000000000000000022 s (@State.persistAt s p S) := by
  unfold State.persistAt
  repeat' (first
      | extract_lets
      | with_reducible apply Within.ite <;> intro _
      | with_reducible apply Within.rfl
      | (with_reducible apply Within.on (m := 0x601000000000000000000000000000022) (reply_within _ _ _ _ _) (by decide))
      | (with_reducible apply Within.on (m := 0x601000000000000000000000000000022) (bgStart_within _ _ _) (by decide))
      | (with_reducible apply Within.on (m := 0x601000000000000000000000000000022) (joinPoint_within _ _ _ _) (by decide)))

theorem persistAt_regs (s : State) (p : Sys2Proof.CmdPath) (S : Nat) {ks : List Field} (h1 :
    Reg.MERGE_STATUS_POINTS ∈ ks) : onlyRegs ks s (@State.persistAt s p S) := by
  unfold State.persistAt
  repeat' (first
      | (with_reducible apply onlyRegs.rfl)
      | extract_lets
      | (with_reducible assumption)
      | (with_reducible exact List.mem_cons_self)
      | (with_reducible apply List.mem_cons_of_mem)
      | (with_reducible apply onlyRegs.ite <;> intro _)
      | (with_reducible apply onlyRegs.keep (reply_within _ _ _ _ _) (by decide))
      | (with_reducible apply onlyRegs.keep (bgStart_within _ _ _) (by decide))
      | (with_reducible apply onlyRegs.on (joinPoint_regs _ _ _ _ ?_)))

end Sys2Proof.Machine
end

