-- ==== Sys2Proof/Laws/KeepFamilyFrames.lean ====
section
/-! SUPPORT. For each function of Machine/KeepFamily.lean over the state: the part of the state outside which it changes
nothing (`…_within`), and the register fields that it may write (`…_regs`). -/

namespace Sys2Proof.Machine

set_option maxRecDepth 4000

theorem keepRecord_within (s : State) (page : Nat) (what : Nat) : Within 0x3cc00000000000000002 s
    (@State.keepRecord s page what) := by
  unfold State.keepRecord
  repeat' (first
      | with_reducible apply Within.rfl
      | (with_reducible apply Within.on (m := 0x3cc00000000000000002) (chronicle_within _ _ _ _ _) (by decide)))

theorem keepRecord_regs (s : State) (page : Nat) (what : Nat) {ks : List Field} (h1 :
    Reg.CHRON_DROP_CNT ∈ ks) (h2 : Reg.CHRON_REPEAT_CNT ∈ ks) : onlyRegs ks s (@State.keepRecord s
    page what) := by
  unfold State.keepRecord
  repeat' (first
      | (with_reducible apply onlyRegs.rfl)
      | (with_reducible assumption)
      | (with_reducible exact List.mem_cons_self)
      | (with_reducible apply List.mem_cons_of_mem)
      | (with_reducible apply onlyRegs.on (chronicle_regs _ _ _ _ _ ?_ ?_)))

theorem eraseAhead_within (s : State) (page : Nat) (copy : Nat) : Within 0x3ffff0000000000000 s
    (@State.eraseAhead s page copy) := by
  unfold State.eraseAhead
  repeat' (first
      | extract_lets
      | with_reducible apply Within.ite <;> intro _
      | with_reducible apply Within.rfl
      | fail_if_no_progress with_reducible apply Within.upd (by rw [pick_3ffff0000000000000]))

theorem pick_40000003ffff0000000000000 (s t : State) : State.pick 0x40000003ffff0000000000000 s t = { s with
    keep := t.keep, prot := { s.prot with lodged := t.prot.lodged } } := rfl

theorem commitGroup_within (s : State) (g : Nat) : Within 0x40000003ffff0000000000000 s
    (@State.commitGroup s g) := by
  unfold State.commitGroup
  repeat' (first
      | extract_lets
      | with_reducible apply Within.rfl
      | (with_reducible apply Within.on (m := 0x40000003ffff0000000000000) (eraseAhead_within _ _ _) (by decide))
      | (with_reducible apply Within.foldl; intro t x)
      | fail_if_no_progress with_reducible apply Within.upd (by rw [pick_40000003ffff0000000000000]))

theorem spreadRoll_within (s : State) (i : Nat) : Within 0x3ffff0000000000000 s
    (@State.spreadRoll s i) := by
  unfold State.spreadRoll
  repeat' (first
      | extract_lets
      | with_reducible apply Within.rfl
      | (with_reducible apply Within.on (m := 0x3ffff0000000000000) (keepWrite_within _ _ _ _) (by decide))
      | fail_if_no_progress with_reducible apply Within.upd (by rw [pick_3ffff0000000000000]))

theorem spreadErase_within (s : State) (i : Nat) : Within 0x3ffff0000000000000 s
    (@State.spreadErase s i) := by
  unfold State.spreadErase
  repeat' (first
      | extract_lets
      | with_reducible apply Within.ite <;> intro _
      | with_reducible apply Within.rfl
      | fail_if_no_progress with_reducible apply Within.upd (by rw [pick_3ffff0000000000000]))

theorem spreadHeader_within (s : State) (i : Nat) : Within 0x3ffff0000000000000 s
    (@State.spreadHeader s i) := by
  unfold State.spreadHeader
  repeat' (first
      | extract_lets
      | with_reducible apply Within.ite <;> intro _
      | with_reducible apply Within.rfl
      | fail_if_no_progress with_reducible apply Within.upd (by rw [pick_3ffff0000000000000]))

theorem keepDone_within (s : State) (w : KeepWrite) (q : Nat) : Within
    0x40000003ffff0000000000000 s (@State.keepDone s w q) := by
  unfold State.keepDone
  repeat' (first
      | extract_lets
      | with_reducible apply Within.ite <;> intro _
      | with_reducible apply Within.rfl
      | (with_reducible apply Within.on (m := 0x40000003ffff0000000000000) (eraseAhead_within _ _ _) (by decide))
      | (with_reducible apply Within.on (m := 0x40000003ffff0000000000000) (commitGroup_within _ _) (by decide))
      | (with_reducible apply Within.on (m := 0x40000003ffff0000000000000) (spreadErase_within _ _) (by decide))
      | fail_if_no_progress with_reducible apply Within.upd (by rw [pick_40000003ffff0000000000000])
      | with_reducible apply Within.of_fst (by assumption)
      | with_reducible apply Within.of_fst1 (by assumption)
      | split
      | dsimp +zetaDelta only)

theorem pick_3cc00d80000000000002 (s t : State) : State.pick 0x3cc00d80000000000002 s t = { s with
    regs := t.regs,
    keep := { s.keep with
      abandoned := t.keep.abandoned, degraded := t.keep.degraded, queue := t.keep.queue, lost := t.keep.lost },
    chron := { s.chron with
      perm := t.chron.perm, ring := t.chron.ring, buffer := t.chron.buffer, nextSerial := t.chron.nextSerial,
      runs := t.chron.runs, dropped := t.chron.dropped } } := rfl

theorem keepFailed_within (s : State) (w : KeepWrite) (rest : List
    KeepWrite) : Within 0x3cc00d80000000000002 s (@State.keepFailed s w rest) :=
    by
  unfold State.keepFailed
  repeat' (first
      | extract_lets
      | with_reducible apply Within.ite <;> intro _
      | with_reducible apply Within.rfl
      | (with_reducible apply Within.on (m := 0x3cc00d80000000000002) (bump_within _ _ _ _ _) (by decide))
      | (with_reducible apply Within.on (m := 0x3cc00d80000000000002) (keepRecord_within _ _ _) (by decide))
      | (with_reducible apply Within.on (m := 0x3cc00d80000000000002) (setBit_within _ _ _ _ _) (by decide))
      | fail_if_no_progress with_reducible apply Within.upd (by rw [pick_3cc00d80000000000002]))

theorem keepFailed_regs (s : State) (w : KeepWrite) (rest : List
    KeepWrite) {ks : List Field} (h1 : Reg.CHRON_DROP_CNT ∈ ks) (h2 : Reg.CHRON_REPEAT_CNT ∈ ks) (h3
    : Reg.KEEP_RETRY_CNT ∈ ks) (h4 : Reg.KEEP_STATUS_DEGRADED ∈ ks) (h5 : Reg.KEEP_STATUS_FAIL ∈ ks) : onlyRegs ks s
    (@State.keepFailed s w rest) := by
  unfold State.keepFailed
  repeat' (first
      | (with_reducible apply onlyRegs.rfl)
      | extract_lets
      | (with_reducible assumption)
      | (with_reducible exact List.mem_cons_self)
      | (with_reducible apply List.mem_cons_of_mem)
      | (with_reducible apply onlyRegs.ite <;> intro _)
      | (with_reducible apply onlyRegs.on (bump_regs _ _ _ _ _ ?_))
      | (with_reducible apply onlyRegs.on (keepRecord_regs _ _ _ ?_ ?_))
      | (with_reducible apply onlyRegs.on (setBit_regs _ _ _ _ _ ?_))
      | fail_if_no_progress with_reducible apply onlyRegs.upd)

theorem pick_400003cfffff0000000000002 (s t : State) : State.pick 0x400003cfffff0000000000002 s t = { s with
    regs := t.regs, keep := t.keep,
    chron := { s.chron with
      perm := t.chron.perm, ring := t.chron.ring, buffer := t.chron.buffer, nextSerial := t.chron.nextSerial,
      runs := t.chron.runs, dropped := t.chron.dropped },
    prot := { s.prot with lodged := t.prot.lodged } } := rfl

theorem keepProgrammed_within (s : State) (readback : Bool) : Within 0x400003cfffff0000000000002 s
    (@State.keepProgrammed s readback) := by
  unfold State.keepProgrammed
  repeat' (first
      | extract_lets
      | with_reducible apply Within.ite <;> intro _
      | with_reducible apply Within.rfl
      | (with_reducible apply Within.on (m := 0x400003cfffff0000000000002) (bump_within _ _ _ _ _) (by decide))
      | (with_reducible apply Within.on (m := 0x400003cfffff0000000000002) (keepDone_within _ _ _) (by decide))
      | (with_reducible apply Within.on (m := 0x400003cfffff0000000000002) (keepFailed_within _ _ _) (by decide))
      | (with_reducible apply Within.on (m := 0x400003cfffff0000000000002) (flash_within _) (by decide))
      | fail_if_no_progress with_reducible apply Within.upd (by rw [pick_400003cfffff0000000000002])
      | with_reducible apply Within.of_fst (by assumption)
      | with_reducible apply Within.of_fst1 (by assumption)
      | split)

theorem keepProgrammed_regs (s : State) (readback : Bool) {ks : List Field} (h1 :
    Reg.CHRON_DROP_CNT ∈ ks) (h2 : Reg.CHRON_REPEAT_CNT ∈ ks) (h3 : Reg.KEEP_RETRY_CNT ∈ ks) (h4 :
    Reg.KEEP_STATUS_DEGRADED ∈ ks) (h5 : Reg.KEEP_STATUS_FAIL ∈ ks) (h6 : Reg.KEEP_WRITE_CNT ∈ ks) : onlyRegs ks s
    (@State.keepProgrammed s readback) := by
  unfold State.keepProgrammed
  repeat' (first
      | (with_reducible apply onlyRegs.rfl)
      | extract_lets
      | (with_reducible assumption)
      | (with_reducible exact List.mem_cons_self)
      | (with_reducible apply List.mem_cons_of_mem)
      | (with_reducible apply onlyRegs.ite <;> intro _)
      | (with_reducible apply onlyRegs.on (bump_regs _ _ _ _ _ ?_))
      | (with_reducible apply onlyRegs.keep (keepDone_within _ _ _) (by decide))
      | (with_reducible apply onlyRegs.on (keepFailed_regs _ _ _ ?_ ?_ ?_ ?_ ?_))
      | (with_reducible apply onlyRegs.keep (flash_within _) (by decide))
      | fail_if_no_progress with_reducible apply onlyRegs.upd
      | with_reducible apply onlyRegs.of_fst (by assumption)
      | with_reducible apply onlyRegs.of_fst1 (by assumption)
      | split)

theorem pick_3cfffff0000000000002 (s t : State) : State.pick 0x3cfffff0000000000002 s t = { s with
    regs := t.regs, keep := t.keep,
    chron := { s.chron with
      perm := t.chron.perm, ring := t.chron.ring, buffer := t.chron.buffer, nextSerial := t.chron.nextSerial,
      runs := t.chron.runs, dropped := t.chron.dropped } } := rfl

theorem keepErased_within (s : State) (n : Nat) (ok : Bool) : Within 0x3cfffff0000000000002 s
    (@State.keepErased s n ok) := by
  unfold State.keepErased
  repeat' (first
      | extract_lets
      | with_reducible apply Within.ite <;> intro _
      | with_reducible apply Within.rfl
      | (with_reducible apply Within.on (m := 0x3cfffff0000000000002) (bump_within _ _ _ _ _) (by decide))
      | (with_reducible apply Within.on (m := 0x3cfffff0000000000002) (spreadHeader_within _ _) (by decide))
      | (with_reducible apply Within.on (m := 0x3cfffff0000000000002) (keepRecord_within _ _ _) (by decide))
      | (with_reducible apply Within.on (m := 0x3cfffff0000000000002) (setBit_within _ _ _ _ _) (by decide))
      | (with_reducible apply Within.on (m := 0x3cfffff0000000000002) (flash_within _) (by decide))
      | fail_if_no_progress with_reducible apply Within.upd (by rw [pick_3cfffff0000000000002]))

theorem keepErased_regs (s : State) (n : Nat) (ok : Bool) {ks : List Field} (h1 :
    Reg.CHRON_DROP_CNT ∈ ks) (h2 : Reg.CHRON_REPEAT_CNT ∈ ks) (h3 : Reg.KEEP_ERASE_CNT ∈ ks) (h4 :
    Reg.KEEP_STATUS_DEGRADED ∈ ks) : onlyRegs ks s (@State.keepErased s n ok) := by
  unfold State.keepErased
  repeat' (first
      | (with_reducible apply onlyRegs.rfl)
      | extract_lets
      | (with_reducible assumption)
      | (with_reducible exact List.mem_cons_self)
      | (with_reducible apply List.mem_cons_of_mem)
      | (with_reducible apply onlyRegs.ite <;> intro _)
      | (with_reducible apply onlyRegs.on (bump_regs _ _ _ _ _ ?_))
      | (with_reducible apply onlyRegs.keep (spreadHeader_within _ _) (by decide))
      | (with_reducible apply onlyRegs.on (keepRecord_regs _ _ _ ?_ ?_))
      | (with_reducible apply onlyRegs.on (setBit_regs _ _ _ _ _ ?_))
      | (with_reducible apply onlyRegs.keep (flash_within _) (by decide))
      | fail_if_no_progress with_reducible apply onlyRegs.upd)

theorem spreadIncrement_within (s : State) (i : Nat) : Within 0x3ffff0000000000000 s
    (@State.spreadIncrement s i) := by
  unfold State.spreadIncrement
  repeat' (first
      | extract_lets
      | with_reducible apply Within.ite <;> intro _
      | with_reducible apply Within.rfl
      | (with_reducible apply Within.on (m := 0x3ffff0000000000000) (flash_within _) (by decide))
      | (with_reducible apply Within.on (m := 0x3ffff0000000000000) (spreadRoll_within _ _) (by decide))
      | fail_if_no_progress with_reducible apply Within.upd (by rw [pick_3ffff0000000000000]))

theorem pick_7ffffff0000000000000 (s t : State) : State.pick 0x7ffffff0000000000000 s t = { s with
    keep := t.keep, chron := t.chron } := rfl

theorem openSector_within (s : State) : Within 0x7ffffff0000000000000 s
    (@State.openSector s) := by
  unfold State.openSector
  repeat' (first
      | extract_lets
      | with_reducible apply Within.ite <;> intro _
      | with_reducible apply Within.rfl
      | fail_if_no_progress with_reducible apply Within.upd (by rw [pick_7ffffff0000000000000]))

theorem pick_7ffffff0000000000002 (s t : State) : State.pick 0x7ffffff0000000000002 s t = { s with
    regs := t.regs, keep := t.keep, chron := t.chron } := rfl

theorem chronProgrammed_within (s : State) (readback : Bool) : Within 0x7ffffff0000000000002 s
    (@State.chronProgrammed s readback) := by
  unfold State.chronProgrammed
  repeat' (first
      | extract_lets
      | with_reducible apply Within.ite <;> intro _
      | with_reducible apply Within.rfl
      | (with_reducible apply Within.on (m := 0x7ffffff0000000000002) (bump_within _ _ _ _ _) (by decide))
      | (with_reducible apply Within.on (m := 0x7ffffff0000000000002) (flash_within _) (by decide))
      | (with_reducible apply Within.on (m := 0x7ffffff0000000000002) (openSector_within _) (by decide))
      | fail_if_no_progress with_reducible apply Within.upd (by rw [pick_7ffffff0000000000002])
      | with_reducible apply Within.of_fst (by assumption)
      | with_reducible apply Within.of_fst1 (by assumption)
      | split)

theorem chronProgrammed_regs (s : State) (readback : Bool) {ks : List Field} (h1 :
    Reg.CHRON_WRITTEN_CNT ∈ ks) : onlyRegs ks s (@State.chronProgrammed s readback) := by
  unfold State.chronProgrammed
  repeat' (first
      | (with_reducible apply onlyRegs.rfl)
      | extract_lets
      | (with_reducible assumption)
      | (with_reducible exact List.mem_cons_self)
      | (with_reducible apply List.mem_cons_of_mem)
      | (with_reducible apply onlyRegs.ite <;> intro _)
      | (with_reducible apply onlyRegs.on (bump_regs _ _ _ _ _ ?_))
      | (with_reducible apply onlyRegs.keep (flash_within _) (by decide))
      | (with_reducible apply onlyRegs.keep (openSector_within _) (by decide))
      | fail_if_no_progress with_reducible apply onlyRegs.upd
      | with_reducible apply onlyRegs.of_fst (by assumption)
      | with_reducible apply onlyRegs.of_fst1 (by assumption)
      | split)

theorem ringErased_within (s : State) (k : Nat) (ok : Bool) : Within 0x7ffffff0000000000000 s
    (@State.ringErased s k ok) := by
  unfold State.ringErased
  repeat' (first
      | extract_lets
      | with_reducible apply Within.ite <;> intro _
      | with_reducible apply Within.rfl
      | (with_reducible apply Within.on (m := 0x7ffffff0000000000000) (flash_within _) (by decide))
      | (with_reducible apply Within.on (m := 0x7ffffff0000000000000) (openSector_within _) (by decide))
      | fail_if_no_progress with_reducible apply Within.upd (by rw [pick_7ffffff0000000000000]))

end Sys2Proof.Machine
end

