-- ==== Sys2Proof/Laws/CapoFrames.lean ====
section
/-! SUPPORT. For each function of Machine/Capo.lean over the state: the part of the state outside which it changes
nothing (`…_within`), and the register fields that it may write (`…_regs`). -/

namespace Sys2Proof.Machine

set_option maxRecDepth 4000

theorem setDescr_within (s : State) (d : Descr) : Within 0x3ffff0000000000000 s
    (@State.setDescr s d) := by
  unfold State.setDescr
  repeat' (first
      | with_reducible apply Within.rfl
      | (with_reducible apply Within.on (m := 0x3ffff0000000000000) (flash_within _) (by decide))
      | (with_reducible apply Within.on (m := 0x3ffff0000000000000) (keepWrite_within _ _ _ _) (by decide)))

theorem pick_1000000000000000000003ffff0000000000000 (s t : State) : State.pick 0x1000000000000000000003ffff0000000000000 s t = { s with
    keep := t.keep, imageOps := t.imageOps } := rfl

theorem dropImageOps_within (s : State) (p : ImageOp → Bool) : Within
    0x1000000000000000000003ffff0000000000000 s (@State.dropImageOps s p) := by
  unfold State.dropImageOps
  repeat' (first
      | extract_lets
      | with_reducible apply Within.rfl
      | (with_reducible apply Within.on (m := 0x1000000000000000000003ffff0000000000000) (flash_within _) (by decide))
      | fail_if_no_progress with_reducible apply Within.upd (by rw [pick_1000000000000000000003ffff0000000000000]))

theorem releaseSpare_within (s : State) : Within 0x1000000000000000000000000000000000000000 s
    (@State.releaseSpare s) := by
  unfold State.releaseSpare
  repeat' (first
      | with_reducible apply Within.rfl
      | (with_reducible apply Within.on (m := 0x1000000000000000000000000000000000000000) (setChan_within _ _ _) (by decide))
      | (with_reducible apply Within.foldl; intro t x))

theorem setAct_within (s : State) (v : Nat) : Within 2 s (@State.setAct s v) := by
  unfold State.setAct
  repeat' (first
      | with_reducible apply Within.rfl
      | (with_reducible apply Within.on (m := 2) (wr_within _ _ _ _ _) (by decide)))

theorem setAct_regs (s : State) (v : Nat) {ks : List Field} (h1 : Reg.SHELF_ACT_STATUS_ACT ∈ ks) :
    onlyRegs ks s (@State.setAct s v) := by
  unfold State.setAct
  repeat' (first
      | (with_reducible apply onlyRegs.rfl)
      | (with_reducible assumption)
      | (with_reducible exact List.mem_cons_self)
      | (with_reducible apply List.mem_cons_of_mem)
      | (with_reducible apply onlyRegs.wr))

theorem pick_6000800000000000000000000110000060000000000003cfffff0000000000022 (s t : State) : State.pick 0x6000800000000000000000000110000060000000000003cfffff0000000000022 s t = { s with
    regs := t.regs, out := t.out, keep := t.keep,
    chron := { s.chron with
      perm := t.chron.perm, ring := t.chron.ring, buffer := t.chron.buffer, nextSerial := t.chron.nextSerial,
      runs := t.chron.runs, dropped := t.chron.dropped },
    mbox := { s.mbox with stored := t.mbox.stored, bg := t.mbox.bg }, imageOps := t.imageOps, chans := t.chans,
    shelf := { s.shelf with act := t.shelf.act },
    fw := { s.fw with act := t.fw.act, abandoned := t.fw.abandoned } } := rfl

theorem capoActivation_within (s : State) : Within
    0x6000800000000000000000000110000060000000000003cfffff0000000000022 s
    (@State.capoActivation s) := by
  unfold State.capoActivation
  repeat' (first
      | extract_lets
      | with_reducible apply Within.ite <;> intro _
      | with_reducible apply Within.rfl
      | (with_reducible apply Within.on (m := 0x6000800000000000000000000110000060000000000003cfffff0000000000022) (chronicle_within _ _ _ _ _) (by decide))
      | (with_reducible apply Within.on (m := 0x6000800000000000000000000110000060000000000003cfffff0000000000022) (releaseSpare_within _) (by decide))
      | (with_reducible apply Within.on (m := 0x6000800000000000000000000110000060000000000003cfffff0000000000022) (dropImageOps_within _ _) (by decide))
      | (with_reducible apply Within.on (m := 0x6000800000000000000000000110000060000000000003cfffff0000000000022) (bgDone_within _ _ _ _ _ _) (by decide))
      | (with_reducible apply Within.on (m := 0x6000800000000000000000000110000060000000000003cfffff0000000000022) (setAct_within _ _) (by decide))
      | fail_if_no_progress with_reducible apply Within.upd (by rw [pick_6000800000000000000000000110000060000000000003cfffff0000000000022])
      | with_reducible apply Within.of_fst (by assumption)
      | with_reducible apply Within.of_fst1 (by assumption)
      | split
      | dsimp +zetaDelta only)

theorem capoActivation_regs (s : State) {ks : List Field} (h1 : Reg.CHRON_DROP_CNT ∈ ks) (h2 :
    Reg.CHRON_REPEAT_CNT ∈ ks) (h3 : Reg.SHELF_ACT_STATUS_ACT ∈ ks) : onlyRegs ks s
    (@State.capoActivation s) := by
  unfold State.capoActivation
  repeat' (first
      | (with_reducible apply onlyRegs.rfl)
      | extract_lets
      | (with_reducible assumption)
      | (with_reducible exact List.mem_cons_self)
      | (with_reducible apply List.mem_cons_of_mem)
      | (with_reducible apply onlyRegs.ite <;> intro _)
      | (with_reducible apply onlyRegs.on (chronicle_regs _ _ _ _ _ ?_ ?_))
      | (with_reducible apply onlyRegs.keep (releaseSpare_within _) (by decide))
      | (with_reducible apply onlyRegs.keep (dropImageOps_within _ _) (by decide))
      | (with_reducible apply onlyRegs.keep (bgDone_within _ _ _ _ _ _) (by decide))
      | (with_reducible apply onlyRegs.on (setAct_regs _ _ ?_))
      | fail_if_no_progress with_reducible apply onlyRegs.upd
      | with_reducible apply onlyRegs.of_fst (by assumption)
      | with_reducible apply onlyRegs.of_fst1 (by assumption)
      | split
      | dsimp +zetaDelta only)

theorem pick_600080000000000000000000411000006e000000000003cfffff0000000000022 (s t : State) : State.pick 0x600080000000000000000000411000006e000000000003cfffff0000000000022 s t = { s with
    regs := t.regs, out := t.out, keep := t.keep,
    chron := { s.chron with
      perm := t.chron.perm, ring := t.chron.ring, buffer := t.chron.buffer, nextSerial := t.chron.nextSerial,
      runs := t.chron.runs, dropped := t.chron.dropped },
    merge := { s.merge with capo := t.merge.capo, lost := t.merge.lost, cut := t.merge.cut },
    mbox := { s.mbox with stored := t.mbox.stored, bg := t.mbox.bg }, imageOps := t.imageOps, chans := t.chans,
    sched := { s.sched with capoAsk := t.sched.capoAsk }, shelf := { s.shelf with act := t.shelf.act },
    fw := { s.fw with act := t.fw.act, abandoned := t.fw.abandoned } } := rfl

theorem beginFlush_within (s : State) : Within
    0x600080000000000000000000411000006e000000000003cfffff0000000000022 s
    (@State.beginFlush s) := by
  unfold State.beginFlush
  repeat' (first
      | extract_lets
      | with_reducible apply Within.rfl
      | (with_reducible apply Within.on (m := 0x600080000000000000000000411000006e000000000003cfffff0000000000022) (setBit_within _ _ _ _ _) (by decide))
      | (with_reducible apply Within.on (m := 0x600080000000000000000000411000006e000000000003cfffff0000000000022) (flash_within _) (by decide))
      | (with_reducible apply Within.on (m := 0x600080000000000000000000411000006e000000000003cfffff0000000000022) (capoActivation_within _) (by decide))
      | fail_if_no_progress with_reducible apply Within.upd (by rw [pick_600080000000000000000000411000006e000000000003cfffff0000000000022]))

theorem beginFlush_regs (s : State) {ks : List Field} (h1 : Reg.CHRON_DROP_CNT ∈ ks) (h2 :
    Reg.CHRON_REPEAT_CNT ∈ ks) (h3 : Reg.MERGE_STATUS_CAPO ∈ ks) (h4 : Reg.SHELF_ACT_STATUS_ACT ∈ ks) (h5 :
    Reg.TOP_STATUS_CAPO ∈ ks) : onlyRegs ks s (@State.beginFlush s) := by
  unfold State.beginFlush
  repeat' (first
      | (with_reducible apply onlyRegs.rfl)
      | extract_lets
      | (with_reducible assumption)
      | (with_reducible exact List.mem_cons_self)
      | (with_reducible apply List.mem_cons_of_mem)
      | (with_reducible apply onlyRegs.on (setBit_regs _ _ _ _ _ ?_))
      | (with_reducible apply onlyRegs.keep (flash_within _) (by decide))
      | (with_reducible apply onlyRegs.on (capoActivation_regs _ ?_ ?_ ?_))
      | fail_if_no_progress with_reducible apply onlyRegs.upd)

theorem toggleNow_within (s : State) (mp : Nat) (ln : Nat) (d : Lin) : Within
    0x8000200000000000000000000000000000000000000 s (@State.toggleNow s mp ln d) := by
  unfold State.toggleNow
  repeat' (first
      | extract_lets
      | with_reducible apply Within.ite <;> intro _
      | with_reducible apply Within.rfl
      | (with_reducible apply Within.on (m := 0x8000200000000000000000000000000000000000000) (setParity_within _ _ _ _) (by decide))
      | with_reducible apply Within.of_fst (by assumption)
      | with_reducible apply Within.of_fst1 (by assumption)
      | split)

theorem storeNow_within (s : State) (mp : Nat) (ln : Nat) (new : MLine) : Within
    0x8000200000000000000000000000000000000000000 s (@State.storeNow s mp ln new) := by
  unfold State.storeNow
  repeat' (first
      | extract_lets
      | with_reducible apply Within.rfl
      | (with_reducible apply Within.on (m := 0x8000200000000000000000000000000000000000000) (toggleNow_within _ _ _ _) (by decide))
      | (with_reducible apply Within.on (m := 0x8000200000000000000000000000000000000000000) (wear_within _ _ _) (by decide))
      | (with_reducible apply Within.on (m := 0x8000200000000000000000000000000000000000000) (setMline_within _ _ _ _) (by decide)))

theorem pick_40000008000200000000200000000000000000000000000002 (s t : State) : State.pick 0x40000008000200000000200000000000000000000000000002 s t = { s with
    regs := t.regs, merge := { s.merge with entries := t.merge.entries }, pages := t.pages,
    xlat := { s.xlat with blocks := t.xlat.blocks }, err := { s.err with rewrites := t.err.rewrites } } := rfl

theorem finishExchange_within (s : State) (o : BankOp) : Within
    0x40000008000200000000200000000000000000000000000002 s (@State.finishExchange s o) := by
  unfold State.finishExchange
  repeat' (first
      | extract_lets
      | with_reducible apply Within.ite <;> intro _
      | with_reducible apply Within.rfl
      | (with_reducible apply Within.on (m := 0x40000008000200000000200000000000000000000000000002) (storeNow_within _ _ _ _) (by decide))
      | (with_reducible apply Within.on (m := 0x40000008000200000000200000000000000000000000000002) (wear_within _ _ _) (by decide))
      | (with_reducible apply Within.on (m := 0x40000008000200000000200000000000000000000000000002) (setMline_within _ _ _ _) (by decide))
      | (with_reducible apply Within.on (m := 0x40000008000200000000200000000000000000000000000002) (drainVerified_within _ _) (by decide))
      | fail_if_no_progress with_reducible apply Within.upd (by rw [pick_40000008000200000000200000000000000000000000000002]))

theorem finishExchange_regs (s : State) (o : BankOp) {ks : List Field} (h1 :
    Reg.MERGE_DRAIN_CNT ∈ ks) (h2 : Reg.MERGE_PARTIAL_LINES ∈ ks) (h3 : Reg.MERGE_SETTLING_LINES ∈ ks) (h4 :
    Reg.MERGE_STATUS_DIRTY ∈ ks) (h5 : Reg.MERGE_STATUS_LIMIT ∈ ks) (h6 : Reg.XLAT_PINNED_LINES ∈ ks) : onlyRegs ks s
    (@State.finishExchange s o) := by
  unfold State.finishExchange
  repeat' (first
      | (with_reducible apply onlyRegs.rfl)
      | extract_lets
      | (with_reducible assumption)
      | (with_reducible exact List.mem_cons_self)
      | (with_reducible apply List.mem_cons_of_mem)
      | (with_reducible apply onlyRegs.ite <;> intro _)
      | (with_reducible apply onlyRegs.keep (storeNow_within _ _ _ _) (by decide))
      | (with_reducible apply onlyRegs.keep (wear_within _ _ _) (by decide))
      | (with_reducible apply onlyRegs.keep (setMline_within _ _ _ _) (by decide))
      | (with_reducible apply onlyRegs.on (drainVerified_regs _ _ ?_ ?_ ?_ ?_ ?_ ?_))
      | fail_if_no_progress with_reducible apply onlyRegs.upd)

theorem finishToggle_within (s : State) (o : BankOp) : Within
    0x8000200000000000000000000000000000000000000 s (@State.finishToggle s o) := by
  unfold State.finishToggle
  repeat' (first
      | with_reducible apply Within.rfl
      | (with_reducible apply Within.on (m := 0x8000200000000000000000000000000000000000000) (setParity_within _ _ _ _) (by decide))
      | with_reducible apply Within.of_fst (by assumption)
      | with_reducible apply Within.of_fst1 (by assumption)
      | split)

theorem finishOps_within (s : State) : Within
    0x40000008000e00000000200000000000000000000000000002 s (@State.finishOps s) := by
  unfold State.finishOps
  repeat' (first
      | extract_lets
      | with_reducible apply Within.rfl
      | (with_reducible apply Within.on (m := 0x40000008000e00000000200000000000000000000000000002) (finishExchange_within _ _) (by decide))
      | (with_reducible apply Within.on (m := 0x40000008000e00000000200000000000000000000000000002) (finishToggle_within _ _) (by decide))
      | (with_reducible apply Within.on (m := 0x40000008000e00000000200000000000000000000000000002) (setParity_within _ _ _ _) (by decide))
      | (with_reducible apply Within.foldl; intro t x)
      | fail_if_no_progress with_reducible apply Within.upd (by rw [pick_40000008000e00000000200000000000000000000000000002]))

theorem finishOps_regs (s : State) {ks : List Field} (h1 : Reg.MERGE_DRAIN_CNT ∈ ks) (h2 :
    Reg.MERGE_PARTIAL_LINES ∈ ks) (h3 : Reg.MERGE_SETTLING_LINES ∈ ks) (h4 : Reg.MERGE_STATUS_DIRTY ∈ ks) (h5 :
    Reg.MERGE_STATUS_LIMIT ∈ ks) (h6 : Reg.XLAT_PINNED_LINES ∈ ks) : onlyRegs ks s (@State.finishOps
    s) := by
  unfold State.finishOps
  repeat' (first
      | (with_reducible apply onlyRegs.rfl)
      | extract_lets
      | (with_reducible assumption)
      | (with_reducible exact List.mem_cons_self)
      | (with_reducible apply List.mem_cons_of_mem)
      | (with_reducible apply onlyRegs.on (finishExchange_regs _ _ ?_ ?_ ?_ ?_ ?_ ?_))
      | (with_reducible apply onlyRegs.keep (finishToggle_within _ _) (by decide))
      | (with_reducible apply onlyRegs.keep (setParity_within _ _ _ _) (by decide))
      | (with_reducible apply onlyRegs.foldl; intro t x)
      | fail_if_no_progress with_reducible apply onlyRegs.upd)

theorem finishMoves_within (s : State) : Within
    0x800000000000000000fffffe000200000000200000000000000000000000000002 s
    (@State.finishMoves s) := by
  unfold State.finishMoves
  repeat' (first
      | extract_lets
      | with_reducible apply Within.ite <;> intro _
      | with_reducible apply Within.rfl
      | (with_reducible apply Within.on (m := 0x800000000000000000fffffe000200000000200000000000000000000000000002) (commitStripe_within _ _ _) (by decide))
      | (with_reducible apply Within.on (m := 0x800000000000000000fffffe000200000000200000000000000000000000000002) (liftAllFailed_within _ _ _ _ _ (by assumption)) (by decide))
      | (with_reducible apply Within.on (m := 0x800000000000000000fffffe000200000000200000000000000000000000000002) (advanceMove_within _ _) (by decide))
      | (with_reducible apply Within.foldl; intro t x)
      | with_reducible apply Within.of_fst (by assumption)
      | with_reducible apply Within.of_fst1 (by assumption)
      | with_reducible apply Within.getD; intro t ht
      | split)

theorem finishMoves_regs (s : State) {ks : List Field} (h1 : Reg.MERGE_DRAIN_CNT ∈ ks) (h2 :
    Reg.MERGE_PARTIAL_LINES ∈ ks) (h3 : Reg.MERGE_SETTLING_LINES ∈ ks) (h4 : Reg.MERGE_STATUS_DIRTY ∈ ks) (h5 :
    Reg.MERGE_STATUS_LIMIT ∈ ks) (h6 : Reg.TELEM_BLK_OVF_OVF ∈ ks) (h7 : Reg.XLAT_COLD_COUNT_BLOCKS ∈ ks) (h8 :
    Reg.XLAT_HOT_COUNT_BLOCKS ∈ ks) (h9 : Reg.XLAT_LIFTED_PAGES ∈ ks) (h10 : Reg.XLAT_MOVES_ACTIVE ∈ ks) (h11 :
    Reg.XLAT_MOVES_QUEUED ∈ ks) (h12 : Reg.XLAT_PINNED_LINES ∈ ks) (h13 : Reg.XLAT_POOL_STATUS_FREE ∈ ks) (h14 :
    Reg.XLAT_RELOC_CNT ∈ ks) : onlyRegs ks s (@State.finishMoves s) := by
  unfold State.finishMoves
  repeat' (first
      | (with_reducible apply onlyRegs.rfl)
      | extract_lets
      | (with_reducible assumption)
      | (with_reducible exact List.mem_cons_self)
      | (with_reducible apply List.mem_cons_of_mem)
      | (with_reducible apply onlyRegs.ite <;> intro _)
      | (with_reducible apply onlyRegs.on (commitStripe_regs _ _ _ ?_ ?_ ?_ ?_ ?_ ?_ ?_))
      | (with_reducible apply onlyRegs.on (liftAllFailed_regs _ _ _ _ _ (by assumption) ?_ ?_ ?_ ?_ ?_ ?_ ?_))
      | (with_reducible apply onlyRegs.on (advanceMove_regs _ _ ?_ ?_ ?_ ?_ ?_ ?_ ?_))
      | (with_reducible apply onlyRegs.foldl; intro t x)
      | with_reducible apply onlyRegs.of_fst (by assumption)
      | with_reducible apply onlyRegs.of_fst1 (by assumption)
      | with_reducible apply onlyRegs.getD; intro t ht
      | split)

theorem pick_80000000000000000000201e000200000000200000000000000000000000000002 (s t : State) : State.pick 0x80000000000000000000201e000200000000200000000000000000000000000002 s t = { s with
    regs := t.regs, merge := { s.merge with entries := t.merge.entries }, pages := t.pages,
    xlat := { s.xlat with
      tracts := t.xlat.tracts, fluid := t.xlat.fluid, blocks := t.xlat.blocks, valid := t.xlat.valid,
      copies := t.xlat.copies },
    telem := { s.telem with counts := t.telem.counts } } := rfl

theorem finishCopies_within (s : State) : Within
    0x80000000000000000000201e000200000000200000000000000000000000000002 s
    (@State.finishCopies s) := by
  unfold State.finishCopies
  repeat' (first
      | extract_lets
      | with_reducible apply Within.ite <;> intro _
      | with_reducible apply Within.rfl
      | (with_reducible apply Within.on (m := 0x80000000000000000000201e000200000000200000000000000000000000000002) (programPage_within _ _ _) (by decide))
      | (with_reducible apply Within.on (m := 0x80000000000000000000201e000200000000200000000000000000000000000002) (endCopy_within _ _) (by decide))
      | (with_reducible apply Within.on (m := 0x80000000000000000000201e000200000000200000000000000000000000000002) (setFluid_within _ _ _ _) (by decide))
      | (with_reducible apply Within.on (m := 0x80000000000000000000201e000200000000200000000000000000000000000002) (drainVerified_within _ _) (by decide))
      | (with_reducible apply Within.foldl; intro t x)
      | with_reducible apply Within.of_fst (by assumption)
      | with_reducible apply Within.of_fst1 (by assumption)
      | split)

theorem finishCopies_regs (s : State) {ks : List Field} (h1 : Reg.MERGE_DRAIN_CNT ∈ ks) (h2 :
    Reg.MERGE_PARTIAL_LINES ∈ ks) (h3 : Reg.MERGE_SETTLING_LINES ∈ ks) (h4 : Reg.MERGE_STATUS_DIRTY ∈ ks) (h5 :
    Reg.MERGE_STATUS_LIMIT ∈ ks) (h6 : Reg.TELEM_BLK_OVF_OVF ∈ ks) (h7 : Reg.XLAT_COLD_COUNT_BLOCKS ∈ ks) (h8 :
    Reg.XLAT_HOT_COUNT_BLOCKS ∈ ks) (h9 : Reg.XLAT_LIFTED_PAGES ∈ ks) (h10 : Reg.XLAT_MOVES_ACTIVE ∈ ks) (h11 :
    Reg.XLAT_MOVES_QUEUED ∈ ks) (h12 : Reg.XLAT_PINNED_LINES ∈ ks) (h13 : Reg.XLAT_POOL_STATUS_FREE ∈ ks) : onlyRegs ks
    s (@State.finishCopies s) := by
  unfold State.finishCopies
  repeat' (first
      | (with_reducible apply onlyRegs.rfl)
      | extract_lets
      | (with_reducible assumption)
      | (with_reducible exact List.mem_cons_self)
      | (with_reducible apply List.mem_cons_of_mem)
      | (with_reducible apply onlyRegs.ite <;> intro _)
      | (with_reducible apply onlyRegs.on (programPage_regs _ _ _ ?_))
      | (with_reducible apply onlyRegs.keep (endCopy_within _ _) (by decide))
      | (with_reducible apply onlyRegs.on (setFluid_regs _ _ _ _ ?_ ?_ ?_ ?_ ?_ ?_))
      | (with_reducible apply onlyRegs.on (drainVerified_regs _ _ ?_ ?_ ?_ ?_ ?_ ?_))
      | (with_reducible apply onlyRegs.foldl; intro t x)
      | with_reducible apply onlyRegs.of_fst (by assumption)
      | with_reducible apply onlyRegs.of_fst1 (by assumption)
      | split)

theorem pick_c000000000000000200000000000000000000000000002 (s t : State) : State.pick 0xc000000000000000200000000000000000000000000002 s t = { s with
    regs := t.regs, merge := { s.merge with entries := t.merge.entries },
    xlat := { s.xlat with settles := t.xlat.settles, gather := t.xlat.gather } } := rfl

theorem dropSettles_within (s : State) : Within
    0xc000000000000000200000000000000000000000000002 s (@State.dropSettles s) := by
  unfold State.dropSettles
  repeat' (first
      | extract_lets
      | with_reducible apply Within.rfl
      | (with_reducible apply Within.on (m := 0xc000000000000000200000000000000000000000000002) (drainFailed_within _ _) (by decide))
      | (with_reducible apply Within.foldl; intro t x)
      | fail_if_no_progress with_reducible apply Within.upd (by rw [pick_c000000000000000200000000000000000000000000002]))

theorem dropSettles_regs (s : State) {ks : List Field} (h1 : Reg.MERGE_PARTIAL_LINES ∈ ks) (h2 :
    Reg.MERGE_SETTLING_LINES ∈ ks) (h3 : Reg.MERGE_STATUS_DIRTY ∈ ks) (h4 : Reg.MERGE_STATUS_LIMIT ∈ ks) (h5 :
    Reg.XLAT_PINNED_LINES ∈ ks) : onlyRegs ks s (@State.dropSettles s) := by
  unfold State.dropSettles
  repeat' (first
      | (with_reducible apply onlyRegs.rfl)
      | extract_lets
      | (with_reducible assumption)
      | (with_reducible exact List.mem_cons_self)
      | (with_reducible apply List.mem_cons_of_mem)
      | (with_reducible apply onlyRegs.on (drainFailed_regs _ _ ?_ ?_ ?_ ?_ ?_))
      | (with_reducible apply onlyRegs.foldl; intro t x)
      | fail_if_no_progress with_reducible apply onlyRegs.upd)

theorem finishOpens_within (s : State) : Within
    0x800000000000000000000228000200000000000000000000000000000000000002 s
    (@State.finishOpens s) := by
  unfold State.finishOpens
  repeat' (first
      | with_reducible apply Within.ite <;> intro _
      | with_reducible apply Within.rfl
      | (with_reducible apply Within.on (m := 0x800000000000000000000228000200000000000000000000000000000000000002) (fillStripe_within _ _ _ _) (by decide))
      | (with_reducible apply Within.foldl; intro t x))

theorem finishOpens_regs (s : State) {ks : List Field} (h1 : Reg.TELEM_BLK_OVF_OVF ∈ ks) : onlyRegs
    ks s (@State.finishOpens s) := by
  unfold State.finishOpens
  repeat' (first
      | (with_reducible apply onlyRegs.rfl)
      | (with_reducible assumption)
      | (with_reducible exact List.mem_cons_self)
      | (with_reducible apply List.mem_cons_of_mem)
      | (with_reducible apply onlyRegs.ite <;> intro _)
      | (with_reducible apply onlyRegs.on (fillStripe_regs _ _ _ _ ?_))
      | (with_reducible apply onlyRegs.foldl; intro t x))

theorem pick_3000008008200000040210000007fbcc00000000000000022 (s t : State) : State.pick 0x3000008008200000040210000007fbcc00000000000000022 s t = { s with
    regs := t.regs, out := t.out,
    chron := { s.chron with
      perm := t.chron.perm, ring := t.chron.ring, buffer := t.chron.buffer, nextSerial := t.chron.nextSerial,
      runs := t.chron.runs, dropped := t.chron.dropped },
    events := t.events, reqs := t.reqs,
    merge := { s.merge with entries := t.merge.entries, lost := t.merge.lost }, pages := t.pages,
    sched := { s.sched with jobs := t.sched.jobs }, xlat := { s.xlat with blocks := t.xlat.blocks },
    err := { s.err with poison := t.err.poison, poisonLost := t.err.poisonLost } } := rfl

theorem loseLine_within (s : State) (line : Nat) : Within
    0x3000008008200000040210000007fbcc00000000000000022 s (@State.loseLine s line) := by
  unfold State.loseLine
  repeat' (first
      | extract_lets
      | with_reducible apply Within.ite <;> intro _
      | with_reducible apply Within.rfl
      | (with_reducible apply Within.on (m := 0x3000008008200000040210000007fbcc00000000000000022) (bump_within _ _ _ _ _) (by decide))
      | (with_reducible apply Within.on (m := 0x3000008008200000040210000007fbcc00000000000000022) (poisonAdd_within _ _ _) (by decide))
      | (with_reducible apply Within.on (m := 0x3000008008200000040210000007fbcc00000000000000022) (storeNow_within _ _ _ _) (by decide))
      | (with_reducible apply Within.on (m := 0x3000008008200000040210000007fbcc00000000000000022) (dirtyLost_within _ _) (by decide))
      | (with_reducible apply Within.on (m := 0x3000008008200000040210000007fbcc00000000000000022) (dropEntry_within _ _) (by decide))
      | fail_if_no_progress with_reducible apply Within.upd (by rw [pick_3000008008200000040210000007fbcc00000000000000022])
      | with_reducible apply Within.of_fst (by assumption)
      | with_reducible apply Within.of_fst1 (by assumption)
      | split
      | dsimp +zetaDelta only)

theorem loseLine_regs (s : State) (line : Nat) {ks : List Field} (h1 : Reg.CHRON_DROP_CNT ∈ ks) (h2
    : Reg.CHRON_REPEAT_CNT ∈ ks) (h3 : Reg.ERR_DIRTY_LOST_CNT ∈ ks) (h4 : Reg.ERR_HEALTH_EVENT_DIRTY_LOST ∈ ks) (h5 :
    Reg.ERR_HEALTH_EVENT_POISON_FULL ∈ ks) (h6 : Reg.ERR_POISON_LIST_OVERFLOW ∈ ks) (h7 : Reg.ERR_POISON_LIST_RECORDS
    ∈ ks) (h8 : Reg.MERGE_LOST_CNT ∈ ks) (h9 : Reg.XLAT_POISON_WR_CNT ∈ ks) : onlyRegs ks s
    (@State.loseLine s line) := by
  unfold State.loseLine
  repeat' (first
      | (with_reducible apply onlyRegs.rfl)
      | extract_lets
      | (with_reducible assumption)
      | (with_reducible exact List.mem_cons_self)
      | (with_reducible apply List.mem_cons_of_mem)
      | (with_reducible apply onlyRegs.ite <;> intro _)
      | (with_reducible apply onlyRegs.on (bump_regs _ _ _ _ _ ?_))
      | (with_reducible apply onlyRegs.on (poisonAdd_regs _ _ _ ?_ ?_ ?_))
      | (with_reducible apply onlyRegs.keep (storeNow_within _ _ _ _) (by decide))
      | (with_reducible apply onlyRegs.on (dirtyLost_regs _ _ ?_ ?_ ?_ ?_))
      | (with_reducible apply onlyRegs.keep (dropEntry_within _ _) (by decide))
      | fail_if_no_progress with_reducible apply onlyRegs.upd
      | with_reducible apply onlyRegs.of_fst (by assumption)
      | with_reducible apply onlyRegs.of_fst1 (by assumption)
      | split
      | dsimp +zetaDelta only)

theorem pick_80000000000000000300023e008200000040210000307fbcc00000000000000022 (s t : State) : State.pick 0x80000000000000000300023e008200000040210000307fbcc00000000000000022 s t = { s with
    regs := t.regs, out := t.out,
    chron := { s.chron with
      perm := t.chron.perm, ring := t.chron.ring, buffer := t.chron.buffer, nextSerial := t.chron.nextSerial,
      runs := t.chron.runs, dropped := t.chron.dropped },
    events := t.events,
    prot := { s.prot with lineCounters := t.prot.lineCounters, dirtyNodes := t.prot.dirtyNodes }, reqs := t.reqs,
    merge := { s.merge with entries := t.merge.entries, lost := t.merge.lost }, pages := t.pages,
    sched := { s.sched with jobs := t.sched.jobs },
    xlat := { s.xlat with
      tracts := t.xlat.tracts, fluid := t.xlat.fluid, blocks := t.xlat.blocks, valid := t.xlat.valid,
      opens := t.xlat.opens, seq := t.xlat.seq },
    err := { s.err with poison := t.err.poison, poisonLost := t.err.poisonLost },
    telem := { s.telem with counts := t.telem.counts } } := rfl

theorem flushAppend_within (s : State) (lpn : Nat) (src : Option Nat) (line : Nat) : Within
    0x80000000000000000300023e008200000040210000307fbcc00000000000000022 s
    (@State.flushAppend s lpn src line) := by
  unfold State.flushAppend
  repeat' (first
      | extract_lets
      | with_reducible apply Within.rfl
      | (with_reducible apply Within.on (m := 0x80000000000000000300023e008200000040210000307fbcc00000000000000022) (loseLine_within _ _) (by decide))
      | (with_reducible apply Within.on (m := 0x80000000000000000300023e008200000040210000307fbcc00000000000000022) (takePage_within _ _ _ _) (by decide))
      | (with_reducible apply Within.on (m := 0x80000000000000000300023e008200000040210000307fbcc00000000000000022) (takeSeq_within _) (by decide))
      | (with_reducible apply Within.on (m := 0x80000000000000000300023e008200000040210000307fbcc00000000000000022) (noteUnbuilt_within _ _ _ _) (by decide))
      | (with_reducible apply Within.on (m := 0x80000000000000000300023e008200000040210000307fbcc00000000000000022) (setFluid_within _ _ _ _) (by decide))
      | (with_reducible apply Within.on (m := 0x80000000000000000300023e008200000040210000307fbcc00000000000000022) (programPage_within _ _ _) (by decide))
      | (with_reducible apply Within.on (m := 0x80000000000000000300023e008200000040210000307fbcc00000000000000022) (startDrains_within _ _) (by decide))
      | (with_reducible apply Within.on (m := 0x80000000000000000300023e008200000040210000307fbcc00000000000000022) (drainVerified_within _ _) (by decide))
      | (with_reducible apply Within.foldl; intro t x)
      | with_reducible apply Within.of_fst (by assumption)
      | with_reducible apply Within.of_fst1 (by assumption)
      | split)

theorem flushAppend_regs (s : State) (lpn : Nat) (src : Option Nat) (line : Nat) {ks : List Field}
    (h1 : Reg.CHRON_DROP_CNT ∈ ks) (h2 : Reg.CHRON_REPEAT_CNT ∈ ks) (h3 : Reg.ERR_DIRTY_LOST_CNT ∈ ks) (h4 :
    Reg.ERR_HEALTH_EVENT_DIRTY_LOST ∈ ks) (h5 : Reg.ERR_HEALTH_EVENT_POISON_FULL ∈ ks) (h6 :
    Reg.ERR_POISON_LIST_OVERFLOW ∈ ks) (h7 : Reg.ERR_POISON_LIST_RECORDS ∈ ks) (h8 : Reg.MERGE_DRAIN_CNT ∈ ks) (h9 :
    Reg.MERGE_LOST_CNT ∈ ks) (h10 : Reg.MERGE_PARTIAL_LINES ∈ ks) (h11 : Reg.MERGE_SETTLING_LINES ∈ ks) (h12 :
    Reg.MERGE_STATUS_DIRTY ∈ ks) (h13 : Reg.MERGE_STATUS_LIMIT ∈ ks) (h14 : Reg.PROT_INTEG_DIRTY_LINES ∈ ks) (h15 :
    Reg.TELEM_BLK_OVF_OVF ∈ ks) (h16 : Reg.XLAT_COLD_COUNT_BLOCKS ∈ ks) (h17 : Reg.XLAT_HOT_COUNT_BLOCKS ∈ ks) (h18 :
    Reg.XLAT_LIFTED_PAGES ∈ ks) (h19 : Reg.XLAT_MOVES_ACTIVE ∈ ks) (h20 : Reg.XLAT_MOVES_QUEUED ∈ ks) (h21 :
    Reg.XLAT_PINNED_LINES ∈ ks) (h22 : Reg.XLAT_POISON_WR_CNT ∈ ks) (h23 : Reg.XLAT_POOL_STATUS_FREE ∈ ks) : onlyRegs ks
    s (@State.flushAppend s lpn src line) := by
  unfold State.flushAppend
  repeat' (first
      | (with_reducible apply onlyRegs.rfl)
      | extract_lets
      | (with_reducible assumption)
      | (with_reducible exact List.mem_cons_self)
      | (with_reducible apply List.mem_cons_of_mem)
      | (with_reducible apply onlyRegs.on (loseLine_regs _ _ ?_ ?_ ?_ ?_ ?_ ?_ ?_ ?_ ?_))
      | (with_reducible apply onlyRegs.keep (takePage_within _ _ _ _) (by decide))
      | (with_reducible apply onlyRegs.keep (takeSeq_within _) (by decide))
      | (with_reducible apply onlyRegs.on (noteUnbuilt_regs _ _ _ _ ?_ ?_ ?_))
      | (with_reducible apply onlyRegs.on (setFluid_regs _ _ _ _ ?_ ?_ ?_ ?_ ?_ ?_))
      | (with_reducible apply onlyRegs.on (programPage_regs _ _ _ ?_))
      | (with_reducible apply onlyRegs.on (startDrains_regs _ _ ?_ ?_ ?_ ?_ ?_))
      | (with_reducible apply onlyRegs.on (drainVerified_regs _ _ ?_ ?_ ?_ ?_ ?_ ?_))
      | (with_reducible apply onlyRegs.foldl; intro t x)
      | with_reducible apply onlyRegs.of_fst (by assumption)
      | with_reducible apply onlyRegs.of_fst1 (by assumption)
      | split)

theorem pick_800000000000000003001b0a000200000000200000300000000000000000000002 (s t : State) : State.pick 0x800000000000000003001b0a000200000000200000300000000000000000000002 s t = { s with
    regs := t.regs, prot := { s.prot with lineCounters := t.prot.lineCounters, dirtyNodes := t.prot.dirtyNodes },
    merge := { s.merge with entries := t.merge.entries }, pages := t.pages,
    xlat := { s.xlat with
      tracts := t.xlat.tracts, blocks := t.xlat.blocks, precondQ := t.xlat.precondQ, seq := t.xlat.seq,
      moves := t.xlat.moves, moveQ := t.xlat.moveQ },
    err := { s.err with poison := t.err.poison, poisonLost := t.err.poisonLost },
    telem := { s.telem with counts := t.telem.counts } } := rfl

theorem flushFirst_within (s : State) (t0 : Nat) : Within
    0x800000000000000003001b0a000200000000200000300000000000000000000002 s
    (@State.flushFirst s t0) := by
  unfold State.flushFirst
  repeat' (first
      | extract_lets
      | with_reducible apply Within.rfl
      | (with_reducible apply Within.on (m := 0x800000000000000003001b0a000200000000200000300000000000000000000002) (loadStripe_within _ _) (by decide))
      | (with_reducible apply Within.on (m := 0x800000000000000003001b0a000200000000200000300000000000000000000002) (commitStripe_within _ _ _) (by decide))
      | (with_reducible apply Within.on (m := 0x800000000000000003001b0a000200000000200000300000000000000000000002) (advanceMove_within _ _) (by decide))
      | with_reducible apply Within.of_fst (by assumption)
      | with_reducible apply Within.of_fst1 (by assumption)
      | split)

theorem flushFirst_regs (s : State) (t0 : Nat) {ks : List Field} (h1 :
    Reg.ERR_HEALTH_EVENT_POISON_FULL ∈ ks) (h2 : Reg.ERR_POISON_LIST_OVERFLOW ∈ ks) (h3 : Reg.ERR_POISON_LIST_RECORDS
    ∈ ks) (h4 : Reg.MERGE_DRAIN_CNT ∈ ks) (h5 : Reg.MERGE_PARTIAL_LINES ∈ ks) (h6 : Reg.MERGE_SETTLING_LINES ∈ ks) (h7
    : Reg.MERGE_STATUS_DIRTY ∈ ks) (h8 : Reg.MERGE_STATUS_LIMIT ∈ ks) (h9 : Reg.PROT_INTEG_DIRTY_LINES ∈ ks) (h10 :
    Reg.TELEM_BLK_OVF_OVF ∈ ks) (h11 : Reg.XLAT_COLD_COUNT_BLOCKS ∈ ks) (h12 : Reg.XLAT_HOT_COUNT_BLOCKS ∈ ks) (h13 :
    Reg.XLAT_LIFTED_PAGES ∈ ks) (h14 : Reg.XLAT_MOVES_ACTIVE ∈ ks) (h15 : Reg.XLAT_MOVES_QUEUED ∈ ks) (h16 :
    Reg.XLAT_PINNED_LINES ∈ ks) (h17 : Reg.XLAT_POOL_STATUS_FREE ∈ ks) (h18 : Reg.XLAT_RELOC_CNT ∈ ks) : onlyRegs ks s
    (@State.flushFirst s t0) := by
  unfold State.flushFirst
  repeat' (first
      | (with_reducible apply onlyRegs.rfl)
      | extract_lets
      | (with_reducible assumption)
      | (with_reducible exact List.mem_cons_self)
      | (with_reducible apply List.mem_cons_of_mem)
      | (with_reducible apply onlyRegs.on (loadStripe_regs _ _ ?_ ?_ ?_ ?_ ?_))
      | (with_reducible apply onlyRegs.on (commitStripe_regs _ _ _ ?_ ?_ ?_ ?_ ?_ ?_ ?_))
      | (with_reducible apply onlyRegs.on (advanceMove_regs _ _ ?_ ?_ ?_ ?_ ?_ ?_ ?_))
      | with_reducible apply onlyRegs.of_fst (by assumption)
      | with_reducible apply onlyRegs.of_fst1 (by assumption)
      | split)

theorem pick_800000000000000003001b3e008200000040210000307fbcc00000000000000022 (s t : State) : State.pick 0x800000000000000003001b3e008200000040210000307fbcc00000000000000022 s t = { s with
    regs := t.regs, out := t.out,
    chron := { s.chron with
      perm := t.chron.perm, ring := t.chron.ring, buffer := t.chron.buffer, nextSerial := t.chron.nextSerial,
      runs := t.chron.runs, dropped := t.chron.dropped },
    events := t.events,
    prot := { s.prot with lineCounters := t.prot.lineCounters, dirtyNodes := t.prot.dirtyNodes }, reqs := t.reqs,
    merge := { s.merge with entries := t.merge.entries, lost := t.merge.lost }, pages := t.pages,
    sched := { s.sched with jobs := t.sched.jobs },
    xlat := { s.xlat with
      tracts := t.xlat.tracts, fluid := t.xlat.fluid, blocks := t.xlat.blocks, valid := t.xlat.valid,
      opens := t.xlat.opens, precondQ := t.xlat.precondQ, seq := t.xlat.seq, moves := t.xlat.moves,
      moveQ := t.xlat.moveQ },
    err := { s.err with poison := t.err.poison, poisonLost := t.err.poisonLost },
    telem := { s.telem with counts := t.telem.counts } } := rfl

theorem flushLine_within (s : State) (line : Nat) : Within
    0x800000000000000003001b3e008200000040210000307fbcc00000000000000022 s
    (@State.flushLine s line) := by
  unfold State.flushLine
  repeat' (first
      | extract_lets
      | with_reducible apply Within.ite <;> intro _
      | with_reducible apply Within.rfl
      | (with_reducible apply Within.on (m := 0x800000000000000003001b3e008200000040210000307fbcc00000000000000022) (flushFirst_within _ _) (by decide))
      | (with_reducible apply Within.on (m := 0x800000000000000003001b3e008200000040210000307fbcc00000000000000022) (drainVerified_within _ _) (by decide))
      | (with_reducible apply Within.on (m := 0x800000000000000003001b3e008200000040210000307fbcc00000000000000022) (storeNow_within _ _ _ _) (by decide))
      | (with_reducible apply Within.on (m := 0x800000000000000003001b3e008200000040210000307fbcc00000000000000022) (startDrain_within _ _ _) (by decide))
      | (with_reducible apply Within.on (m := 0x800000000000000003001b3e008200000040210000307fbcc00000000000000022) (flushAppend_within _ _ _ _) (by decide))
      | (with_reducible apply Within.on (m := 0x800000000000000003001b3e008200000040210000307fbcc00000000000000022) (loseLine_within _ _) (by decide))
      | with_reducible apply Within.of_fst (by assumption)
      | with_reducible apply Within.of_fst1 (by assumption)
      | split)

theorem flushLine_regs (s : State) (line : Nat) {ks : List Field} (h1 : Reg.CHRON_DROP_CNT ∈ ks)
    (h2 : Reg.CHRON_REPEAT_CNT ∈ ks) (h3 : Reg.ERR_DIRTY_LOST_CNT ∈ ks) (h4 : Reg.ERR_HEALTH_EVENT_DIRTY_LOST ∈ ks)
    (h5 : Reg.ERR_HEALTH_EVENT_POISON_FULL ∈ ks) (h6 : Reg.ERR_POISON_LIST_OVERFLOW ∈ ks) (h7 :
    Reg.ERR_POISON_LIST_RECORDS ∈ ks) (h8 : Reg.MERGE_DRAIN_CNT ∈ ks) (h9 : Reg.MERGE_LOST_CNT ∈ ks) (h10 :
    Reg.MERGE_PARTIAL_LINES ∈ ks) (h11 : Reg.MERGE_SETTLING_LINES ∈ ks) (h12 : Reg.MERGE_STATUS_DIRTY ∈ ks) (h13 :
    Reg.MERGE_STATUS_LIMIT ∈ ks) (h14 : Reg.PROT_INTEG_DIRTY_LINES ∈ ks) (h15 : Reg.TELEM_BLK_OVF_OVF ∈ ks) (h16 :
    Reg.XLAT_COLD_COUNT_BLOCKS ∈ ks) (h17 : Reg.XLAT_HOT_COUNT_BLOCKS ∈ ks) (h18 : Reg.XLAT_LIFTED_PAGES ∈ ks) (h19 :
    Reg.XLAT_MOVES_ACTIVE ∈ ks) (h20 : Reg.XLAT_MOVES_QUEUED ∈ ks) (h21 : Reg.XLAT_PINNED_LINES ∈ ks) (h22 :
    Reg.XLAT_POISON_WR_CNT ∈ ks) (h23 : Reg.XLAT_POOL_STATUS_FREE ∈ ks) (h24 : Reg.XLAT_RELOC_CNT ∈ ks) : onlyRegs ks s
    (@State.flushLine s line) := by
  unfold State.flushLine
  repeat' (first
      | (with_reducible apply onlyRegs.rfl)
      | extract_lets
      | (with_reducible assumption)
      | (with_reducible exact List.mem_cons_self)
      | (with_reducible apply List.mem_cons_of_mem)
      | (with_reducible apply onlyRegs.ite <;> intro _)
      | (with_reducible apply onlyRegs.on (flushFirst_regs _ _ ?_ ?_ ?_ ?_ ?_ ?_ ?_ ?_ ?_ ?_ ?_ ?_ ?_ ?_ ?_ ?_ ?_ ?_))
      | (with_reducible apply onlyRegs.on (drainVerified_regs _ _ ?_ ?_ ?_ ?_ ?_ ?_))
      | (with_reducible apply onlyRegs.keep (storeNow_within _ _ _ _) (by decide))
      | (with_reducible apply onlyRegs.on (startDrain_regs _ _ _ ?_ ?_ ?_ ?_ ?_))
      | (with_reducible apply onlyRegs.on (flushAppend_regs _ _ _ _ ?_ ?_ ?_ ?_ ?_ ?_ ?_ ?_ ?_ ?_ ?_ ?_ ?_ ?_ ?_ ?_ ?_ ?_ ?_ ?_ ?_ ?_ ?_))
      | (with_reducible apply onlyRegs.on (loseLine_regs _ _ ?_ ?_ ?_ ?_ ?_ ?_ ?_ ?_ ?_))
      | with_reducible apply onlyRegs.of_fst (by assumption)
      | with_reducible apply onlyRegs.of_fst1 (by assumption)
      | split)

theorem flushLines_within (s : State) : Within
    0x800000000000000003001b3e008200000040210000307fbcc00000000000000022 s
    (@State.flushLines s) := by
  unfold State.flushLines
  repeat' (first
      | extract_lets
      | with_reducible apply Within.ite <;> intro _
      | with_reducible apply Within.rfl
      | (with_reducible apply Within.on (m := 0x800000000000000003001b3e008200000040210000307fbcc00000000000000022) (loseLine_within _ _) (by decide))
      | (with_reducible apply Within.on (m := 0x800000000000000003001b3e008200000040210000307fbcc00000000000000022) (flushLine_within _ _) (by decide))
      | (with_reducible apply Within.foldl; intro t x))

theorem flushLines_regs (s : State) {ks : List Field} (h1 : Reg.CHRON_DROP_CNT ∈ ks) (h2 :
    Reg.CHRON_REPEAT_CNT ∈ ks) (h3 : Reg.ERR_DIRTY_LOST_CNT ∈ ks) (h4 : Reg.ERR_HEALTH_EVENT_DIRTY_LOST ∈ ks) (h5 :
    Reg.ERR_HEALTH_EVENT_POISON_FULL ∈ ks) (h6 : Reg.ERR_POISON_LIST_OVERFLOW ∈ ks) (h7 : Reg.ERR_POISON_LIST_RECORDS
    ∈ ks) (h8 : Reg.MERGE_DRAIN_CNT ∈ ks) (h9 : Reg.MERGE_LOST_CNT ∈ ks) (h10 : Reg.MERGE_PARTIAL_LINES ∈ ks) (h11 :
    Reg.MERGE_SETTLING_LINES ∈ ks) (h12 : Reg.MERGE_STATUS_DIRTY ∈ ks) (h13 : Reg.MERGE_STATUS_LIMIT ∈ ks) (h14 :
    Reg.PROT_INTEG_DIRTY_LINES ∈ ks) (h15 : Reg.TELEM_BLK_OVF_OVF ∈ ks) (h16 : Reg.XLAT_COLD_COUNT_BLOCKS ∈ ks) (h17 :
    Reg.XLAT_HOT_COUNT_BLOCKS ∈ ks) (h18 : Reg.XLAT_LIFTED_PAGES ∈ ks) (h19 : Reg.XLAT_MOVES_ACTIVE ∈ ks) (h20 :
    Reg.XLAT_MOVES_QUEUED ∈ ks) (h21 : Reg.XLAT_PINNED_LINES ∈ ks) (h22 : Reg.XLAT_POISON_WR_CNT ∈ ks) (h23 :
    Reg.XLAT_POOL_STATUS_FREE ∈ ks) (h24 : Reg.XLAT_RELOC_CNT ∈ ks) : onlyRegs ks s (@State.flushLines
    s) := by
  unfold State.flushLines
  repeat' (first
      | (with_reducible apply onlyRegs.rfl)
      | extract_lets
      | (with_reducible assumption)
      | (with_reducible exact List.mem_cons_self)
      | (with_reducible apply List.mem_cons_of_mem)
      | (with_reducible apply onlyRegs.ite <;> intro _)
      | (with_reducible apply onlyRegs.on (loseLine_regs _ _ ?_ ?_ ?_ ?_ ?_ ?_ ?_ ?_ ?_))
      | (with_reducible apply onlyRegs.on (flushLine_regs _ _ ?_ ?_ ?_ ?_ ?_ ?_ ?_ ?_ ?_ ?_ ?_ ?_ ?_ ?_ ?_ ?_ ?_ ?_ ?_ ?_ ?_ ?_ ?_ ?_))
      | (with_reducible apply onlyRegs.foldl; intro t x))

theorem flushPoints_within (s : State) (l : List (Point × List Nat)) : Within
    0x200000000000000000000000000060f000000007fbcc00000000000000022 s (@State.flushPoints
    s l) := by
  unfold State.flushPoints
  repeat' (first
      | with_reducible apply Within.rfl
      | (with_reducible apply Within.on (m := 0x200000000000000000000000000060f000000007fbcc00000000000000022) (endPoint_within _ _ _ _) (by decide))
      | (with_reducible apply Within.foldl; intro t x))

theorem flushPoints_regs (s : State) (l : List (Point × List Nat)) {ks : List
    Field} (h1 : Reg.CHRON_DROP_CNT ∈ ks) (h2 : Reg.CHRON_REPEAT_CNT ∈ ks) (h3 : Reg.ERR_DIRTY_LOST_CNT ∈ ks) (h4 :
    Reg.ERR_HEALTH_EVENT_DIRTY_LOST ∈ ks) (h5 : Reg.MERGE_LOST_CNT ∈ ks) (h6 : Reg.MERGE_POINT_LO_STROKE_LO ∈ ks) (h7
    : Reg.MERGE_STATUS_POINTS ∈ ks) : onlyRegs ks s (@State.flushPoints s l) := by
  unfold State.flushPoints
  repeat' (first
      | (with_reducible apply onlyRegs.rfl)
      | (with_reducible assumption)
      | (with_reducible exact List.mem_cons_self)
      | (with_reducible apply List.mem_cons_of_mem)
      | (with_reducible apply onlyRegs.on (endPoint_regs _ _ _ _ ?_ ?_ ?_ ?_ ?_ ?_ ?_))
      | (with_reducible apply onlyRegs.foldl; intro t x))

theorem pick_800002000000000043fffffe008e0000064f210000387fbcc00000000000000022 (s t : State) : State.pick 0x800002000000000043fffffe008e0000064f210000387fbcc00000000000000022 s t = { s with
    regs := t.regs, out := t.out,
    chron := { s.chron with
      perm := t.chron.perm, ring := t.chron.ring, buffer := t.chron.buffer, nextSerial := t.chron.nextSerial,
      runs := t.chron.runs, dropped := t.chron.dropped },
    events := t.events,
    prot := { s.prot with
      roots := t.prot.roots, lineCounters := t.prot.lineCounters, dirtyNodes := t.prot.dirtyNodes },
    reqs := t.reqs,
    merge := { s.merge with
      entries := t.merge.entries, points := t.merge.points, lastPoint := t.merge.lastPoint,
      pointDone := t.merge.pointDone, pointPinned := t.merge.pointPinned, lost := t.merge.lost },
    mbox := { s.mbox with stored := t.mbox.stored, bg := t.mbox.bg }, pages := t.pages, ops := t.ops,
    deltas := t.deltas, sched := { s.sched with jobs := t.sched.jobs }, xlat := t.xlat,
    err := { s.err with poison := t.err.poison, poisonLost := t.err.poisonLost, rewrites := t.err.rewrites },
    shelf := { s.shelf with pointReport := t.shelf.pointReport },
    telem := { s.telem with counts := t.telem.counts } } := rfl

theorem flushAll_within (s : State) : Within
    0x800002000000000043fffffe008e0000064f210000387fbcc00000000000000022 s
    (@State.flushAll s) := by
  unfold State.flushAll
  repeat' (first
      | extract_lets
      | with_reducible apply Within.rfl
      | (with_reducible apply Within.on (m := 0x800002000000000043fffffe008e0000064f210000387fbcc00000000000000022) (finishOps_within _) (by decide))
      | (with_reducible apply Within.on (m := 0x800002000000000043fffffe008e0000064f210000387fbcc00000000000000022) (dropSettles_within _) (by decide))
      | (with_reducible apply Within.on (m := 0x800002000000000043fffffe008e0000064f210000387fbcc00000000000000022) (finishCopies_within _) (by decide))
      | (with_reducible apply Within.on (m := 0x800002000000000043fffffe008e0000064f210000387fbcc00000000000000022) (finishMoves_within _) (by decide))
      | (with_reducible apply Within.on (m := 0x800002000000000043fffffe008e0000064f210000387fbcc00000000000000022) (flushNodes_within _) (by decide))
      | (with_reducible apply Within.on (m := 0x800002000000000043fffffe008e0000064f210000387fbcc00000000000000022) (finishOpens_within _) (by decide))
      | (with_reducible apply Within.on (m := 0x800002000000000043fffffe008e0000064f210000387fbcc00000000000000022) (flushLines_within _) (by decide))
      | (with_reducible apply Within.on (m := 0x800002000000000043fffffe008e0000064f210000387fbcc00000000000000022) (poolCounts_within _) (by decide))
      | (with_reducible apply Within.on (m := 0x800002000000000043fffffe008e0000064f210000387fbcc00000000000000022) (mergeCounts_within _) (by decide))
      | (with_reducible apply Within.on (m := 0x800002000000000043fffffe008e0000064f210000387fbcc00000000000000022) (flushPoints_within _ _) (by decide)))

theorem flushAll_regs (s : State) {ks : List Field} (h1 : Reg.CHRON_DROP_CNT ∈ ks) (h2 :
    Reg.CHRON_REPEAT_CNT ∈ ks) (h3 : Reg.ERR_DIRTY_LOST_CNT ∈ ks) (h4 : Reg.ERR_HEALTH_EVENT_DIRTY_LOST ∈ ks) (h5 :
    Reg.ERR_HEALTH_EVENT_POISON_FULL ∈ ks) (h6 : Reg.ERR_POISON_LIST_OVERFLOW ∈ ks) (h7 : Reg.ERR_POISON_LIST_RECORDS
    ∈ ks) (h8 : Reg.MERGE_DRAIN_CNT ∈ ks) (h9 : Reg.MERGE_LOST_CNT ∈ ks) (h10 : Reg.MERGE_PARTIAL_LINES ∈ ks) (h11 :
    Reg.MERGE_POINT_LO_STROKE_LO ∈ ks) (h12 : Reg.MERGE_SETTLING_LINES ∈ ks) (h13 : Reg.MERGE_STATUS_DIRTY ∈ ks) (h14
    : Reg.MERGE_STATUS_LIMIT ∈ ks) (h15 : Reg.MERGE_STATUS_POINTS ∈ ks) (h16 : Reg.PROT_INTEG_DIRTY_LINES ∈ ks) (h17 :
    Reg.TELEM_BLK_OVF_OVF ∈ ks) (h18 : Reg.XLAT_COLD_COUNT_BLOCKS ∈ ks) (h19 : Reg.XLAT_HOT_COUNT_BLOCKS ∈ ks) (h20 :
    Reg.XLAT_LIFTED_PAGES ∈ ks) (h21 : Reg.XLAT_MOVES_ACTIVE ∈ ks) (h22 : Reg.XLAT_MOVES_QUEUED ∈ ks) (h23 :
    Reg.XLAT_PINNED_LINES ∈ ks) (h24 : Reg.XLAT_POISON_WR_CNT ∈ ks) (h25 : Reg.XLAT_POOL_STATUS_FREE ∈ ks) (h26 :
    Reg.XLAT_RELOC_CNT ∈ ks) : onlyRegs ks s (@State.flushAll s) := by
  unfold State.flushAll
  repeat' (first
      | (with_reducible apply onlyRegs.rfl)
      | extract_lets
      | (with_reducible assumption)
      | (with_reducible exact List.mem_cons_self)
      | (with_reducible apply List.mem_cons_of_mem)
      | (with_reducible apply onlyRegs.on (finishOps_regs _ ?_ ?_ ?_ ?_ ?_ ?_))
      | (with_reducible apply onlyRegs.on (dropSettles_regs _ ?_ ?_ ?_ ?_ ?_))
      | (with_reducible apply onlyRegs.on (finishCopies_regs _ ?_ ?_ ?_ ?_ ?_ ?_ ?_ ?_ ?_ ?_ ?_ ?_ ?_))
      | (with_reducible apply onlyRegs.on (finishMoves_regs _ ?_ ?_ ?_ ?_ ?_ ?_ ?_ ?_ ?_ ?_ ?_ ?_ ?_ ?_))
      | (with_reducible apply onlyRegs.on (flushNodes_regs _ ?_))
      | (with_reducible apply onlyRegs.on (finishOpens_regs _ ?_))
      | (with_reducible apply onlyRegs.on (flushLines_regs _ ?_ ?_ ?_ ?_ ?_ ?_ ?_ ?_ ?_ ?_ ?_ ?_ ?_ ?_ ?_ ?_ ?_ ?_ ?_ ?_ ?_ ?_ ?_ ?_))
      | (with_reducible apply onlyRegs.on (poolCounts_regs _ ?_ ?_ ?_ ?_ ?_ ?_))
      | (with_reducible apply onlyRegs.on (mergeCounts_regs _ ?_ ?_ ?_ ?_ ?_))
      | (with_reducible apply onlyRegs.on (flushPoints_regs _ _ ?_ ?_ ?_ ?_ ?_ ?_ ?_)))

theorem saveKeep_within (s : State) : Within 0x3ffff0000000000000 s
    (@State.saveKeep s) := by
  unfold State.saveKeep
  repeat' (first
      | extract_lets
      | with_reducible apply Within.ite <;> intro _
      | with_reducible apply Within.rfl
      | (with_reducible apply Within.on (m := 0x3ffff0000000000000) (keepWrite_within _ _ _ _) (by decide))
      | (with_reducible apply Within.on (m := 0x3ffff0000000000000) (flash_within _) (by decide))
      | (with_reducible apply Within.foldl; intro t x))

theorem pick_10000000000000000000000000000000 (s t : State) : State.pick 0x10000000000000000000000000000000 s t = { s with
    merge := { s.merge with marker := t.merge.marker } } := rfl

theorem markFlush_within (s : State) : Within 0x10000000000000000000000000000000 s
    (@State.markFlush s) := by
  unfold State.markFlush
  repeat' (first
      | with_reducible apply Within.rfl
      | fail_if_no_progress with_reducible apply Within.upd (by rw [pick_10000000000000000000000000000000]))

theorem capoRecord_within (s : State) (result : Nat) (us : Nat) (warm : Bool) : Within
    0x3cc00000000000000002 s (@State.capoRecord s result us warm) := by
  unfold State.capoRecord
  repeat' (first
      | with_reducible apply Within.rfl
      | (with_reducible apply Within.on (m := 0x3cc00000000000000002) (chronicle_within _ _ _ _ _) (by decide)))

theorem capoRecord_regs (s : State) (result : Nat) (us : Nat) (warm : Bool) {ks : List Field} (h1 :
    Reg.CHRON_DROP_CNT ∈ ks) (h2 : Reg.CHRON_REPEAT_CNT ∈ ks) : onlyRegs ks s (@State.capoRecord s
    result us warm) := by
  unfold State.capoRecord
  repeat' (first
      | (with_reducible apply onlyRegs.rfl)
      | (with_reducible assumption)
      | (with_reducible exact List.mem_cons_self)
      | (with_reducible apply List.mem_cons_of_mem)
      | (with_reducible apply onlyRegs.on (chronicle_regs _ _ _ _ _ ?_ ?_)))

theorem saveSpread_within (s : State) : Within 0x3ffff0000000000000 s
    (@State.saveSpread s) := by
  unfold State.saveSpread
  repeat' (first
      | with_reducible apply Within.rfl
      | (with_reducible apply Within.on (m := 0x3ffff0000000000000) (spreadIncrement_within _ _) (by decide))
      | (with_reducible apply Within.foldl; intro t x)
      | (with_reducible apply Within.iter; intro t))

theorem writeRecord_within (s : State) : Within 0x7ffffff0000000000002 s
    (@State.writeRecord s) := by
  unfold State.writeRecord
  repeat' (first
      | extract_lets
      | with_reducible apply Within.rfl
      | (with_reducible apply Within.on (m := 0x7ffffff0000000000002) (openSector_within _) (by decide))
      | (with_reducible apply Within.on (m := 0x7ffffff0000000000002) (bump_within _ _ _ _ _) (by decide))
      | fail_if_no_progress with_reducible apply Within.upd (by rw [pick_7ffffff0000000000002])
      | with_reducible apply Within.of_fst (by assumption)
      | with_reducible apply Within.of_fst1 (by assumption)
      | split)

theorem saveChronicle_within (s : State) (room : Nat) : Within 0x7ffffff0000000000002 s
    (@State.saveChronicle s room) := by
  unfold State.saveChronicle
  repeat' (first
      | extract_lets
      | with_reducible apply Within.ite <;> intro _
      | with_reducible apply Within.rfl
      | (with_reducible apply Within.on (m := 0x7ffffff0000000000002) (writeRecord_within _) (by decide))
      | (with_reducible apply Within.on (m := 0x7ffffff0000000000002) (bump_within _ _ _ _ _) (by decide))
      | (with_reducible apply Within.iter; intro t)
      | fail_if_no_progress with_reducible apply Within.upd (by rw [pick_7ffffff0000000000002]))

end Sys2Proof.Machine
end

