-- ==== Sys2Proof/Laws/ResetsFrames.lean ====
section
/-! SUPPORT. For each function of Machine/Resets.lean over the state: the part of the state outside which it changes
nothing (`…_within`), and the register fields that it may write (`…_regs`). -/

namespace Sys2Proof.Machine

set_option maxRecDepth 4000

theorem pick_1ffffff8000000000ffffffdffffffffdfffff7fff7fff7efff801c000ffffc0000014a (s t : State) : State.pick 0x1ffffff8000000000ffffffdffffffffdfffff7fff7fff7efff801c000ffffc0000014a s t = { s with
    regs := t.regs, clears := t.clears, msixEn := t.msixEn, intOwed := t.intOwed, start := t.start,
    keep := { s.keep with byteLines := t.keep.byteLines, timeStrokes := t.keep.timeStrokes, op := t.keep.op },
    events := t.events,
    prot := { s.prot with
      ranges := t.prot.ranges, slots := t.prot.slots, integState := t.prot.integState,
      granules := t.prot.granules, roots := t.prot.roots, dirtyNodes := t.prot.dirtyNodes,
      slotBad := t.prot.slotBad, slotLost := t.prot.slotLost, officers := t.prot.officers,
      nonces := t.prot.nonces, lodged := t.prot.lodged, bindings := t.prot.bindings, anchor := t.prot.anchor,
      eraseAuth := t.prot.eraseAuth, unlock := t.prot.unlock, testAccess := t.prot.testAccess,
      challenge := t.prot.challenge, rekeys := t.prot.rekeys, eraseLeft := t.prot.eraseLeft,
      erasePath := t.prot.erasePath, ide := t.prot.ide, spdm := t.prot.spdm },
    sessions := t.sessions, reqs := t.reqs, nextRid := t.nextRid, share := t.share, decoders := t.decoders,
    merge := t.merge,
    mbox := { s.mbox with
      stored := t.mbox.stored, bg := t.mbox.bg, shutdown := t.mbox.shutdown, alerts := t.mbox.alerts },
    cache := t.cache, internals := t.internals, imageOps := t.imageOps, ops := t.ops, deltas := t.deltas,
    chans := t.chans, sched := t.sched,
    xlat := { s.xlat with
      tracts := t.xlat.tracts, fluid := t.xlat.fluid, blocks := t.xlat.blocks, valid := t.xlat.valid,
      opens := t.xlat.opens, nextHot := t.xlat.nextHot, nextCold := t.xlat.nextCold, precondQ := t.xlat.precondQ,
      seq := t.xlat.seq, sbe := t.xlat.sbe, moves := t.xlat.moves, moveQ := t.xlat.moveQ, copies := t.xlat.copies,
      settles := t.xlat.settles, gather := t.xlat.gather, better := t.xlat.better, whole := t.xlat.whole,
      failedSlots := t.xlat.failedSlots, badParity := t.xlat.badParity, evac := t.xlat.evac,
      again := t.xlat.again, heatEpochs := t.xlat.heatEpochs },
    err := t.err, img := t.img, fw := t.fw, telem := t.telem, cfgSpace := t.cfgSpace, bar0 := t.bar0, d3 := t.d3 } := rfl

theorem coldCore_within (s : State) : Within
    0x1ffffff8000000000ffffffdffffffffdfffff7fff7fff7efff801c000ffffc0000014a s
    (@State.coldCore s) := by
  unfold State.coldCore
  repeat' (first
      | extract_lets
      | with_reducible apply Within.rfl
      | fail_if_no_progress with_reducible apply Within.upd (by rw [pick_1ffffff8000000000ffffffdffffffffdfffff7fff7fff7efff801c000ffffc0000014a]))

theorem pick_1ffffff80000000000163e0dff9ffffedfffff7aff7fff5efe0003ffff000000000014a (s t : State) : State.pick 0x1ffffff80000000000163e0dff9ffffedfffff7aff7fff5efe0003ffff000000000014a s t = { s with
    regs := t.regs, clears := t.clears, msixEn := t.msixEn, intOwed := t.intOwed, keep := t.keep,
    events := { s.events with orphanSeen := t.events.orphanSeen, paritySeen := t.events.paritySeen },
    prot := { s.prot with
      ranges := t.prot.ranges, slots := t.prot.slots, integState := t.prot.integState,
      granules := t.prot.granules, roots := t.prot.roots, dirtyNodes := t.prot.dirtyNodes,
      slotBad := t.prot.slotBad, slotLost := t.prot.slotLost, officers := t.prot.officers,
      lodged := t.prot.lodged, bindings := t.prot.bindings, anchor := t.prot.anchor,
      eraseAuth := t.prot.eraseAuth, unlock := t.prot.unlock, testAccess := t.prot.testAccess,
      challenge := t.prot.challenge, rekeys := t.prot.rekeys, eraseLeft := t.prot.eraseLeft,
      erasePath := t.prot.erasePath, ide := t.prot.ide, spdm := t.prot.spdm },
    sessions := t.sessions, reqs := t.reqs, nextRid := t.nextRid, share := t.share, decoders := t.decoders,
    merge := { s.merge with
      entries := t.merge.entries, cells := t.merge.cells, heat := t.merge.heat, points := t.merge.points,
      lastPoint := t.merge.lastPoint, pointDone := t.merge.pointDone, pointPinned := t.merge.pointPinned,
      capo := t.merge.capo, cut := t.merge.cut, capoCredits := t.merge.capoCredits },
    mbox := { s.mbox with
      stored := t.mbox.stored, bg := t.mbox.bg, shutdown := t.mbox.shutdown, alerts := t.mbox.alerts },
    cache := t.cache, internals := t.internals, imageOps := t.imageOps, ops := t.ops, deltas := t.deltas,
    sched := t.sched,
    xlat := { s.xlat with
      tracts := t.xlat.tracts, fluid := t.xlat.fluid, blocks := t.xlat.blocks, valid := t.xlat.valid,
      opens := t.xlat.opens, nextHot := t.xlat.nextHot, nextCold := t.xlat.nextCold, precondQ := t.xlat.precondQ,
      moves := t.xlat.moves, moveQ := t.xlat.moveQ, copies := t.xlat.copies, settles := t.xlat.settles,
      gather := t.xlat.gather, better := t.xlat.better, whole := t.xlat.whole, failedSlots := t.xlat.failedSlots,
      badParity := t.xlat.badParity, evac := t.xlat.evac, again := t.xlat.again, heatEpochs := t.xlat.heatEpochs },
    err := { s.err with
      refresh := t.err.refresh, rewrites := t.err.rewrites, scrub := t.err.scrub,
      scanResults := t.err.scanResults, wake := t.err.wake, lastHealth := t.err.lastHealth,
      lastMedia := t.err.lastMedia, lastUncorrHi := t.err.lastUncorrHi },
    fw := t.fw, telem := t.telem, cfgSpace := t.cfgSpace, bar0 := t.bar0, d3 := t.d3 } := rfl

theorem warmCore_within (s : State) : Within
    0x1ffffff80000000000163e0dff9ffffedfffff7aff7fff5efe0003ffff000000000014a s
    (@State.warmCore s) := by
  unfold State.warmCore
  repeat' (first
      | extract_lets
      | with_reducible apply Within.rfl
      | (with_reducible apply Within.on (m := 0x1ffffff80000000000163e0dff9ffffedfffff7aff7fff5efe0003ffff000000000014a) (wr_within _ _ _ _ _) (by decide))
      | (with_reducible apply Within.on (m := 0x1ffffff80000000000163e0dff9ffffedfffff7aff7fff5efe0003ffff000000000014a) (recount_within _) (by decide))
      | (with_reducible apply Within.foldl; intro t x)
      | fail_if_no_progress with_reducible apply Within.upd (by rw [pick_1ffffff80000000000163e0dff9ffffedfffff7aff7fff5efe0003ffff000000000014a]))

theorem closeRuns_within (s : State) : Within 0x14c00000000000000000 s
    (@State.closeRuns s) := by
  unfold State.closeRuns
  repeat' (first
      | with_reducible apply Within.rfl
      | (with_reducible apply Within.on (m := 0x14c00000000000000000) (closeRun_within _ _) (by decide))
      | (with_reducible apply Within.foldl; intro t x))

end Sys2Proof.Machine
end

