-- ==== Sys2Proof/Laws/KeepLoadFrames.lean ====
section
/-! SUPPORT. For each function of Machine/KeepLoad.lean over the state: the part of the state outside which it changes
nothing (`…_within`), and the register fields that it may write (`…_regs`). -/

namespace Sys2Proof.Machine

set_option maxRecDepth 4000

theorem loadPage_within (s : State) (lim : Nat) (page : Nat) : Within 0x3cfffff0000000000002 s
    (@State.loadPage s lim page) := by
  unfold State.loadPage
  repeat' (first
      | extract_lets
      | with_reducible apply Within.ite <;> intro _
      | with_reducible apply Within.rfl
      | (with_reducible apply Within.on (m := 0x3cfffff0000000000002) (chronicle_within _ _ _ _ _) (by decide))
      | (with_reducible apply Within.on (m := 0x3cfffff0000000000002) (setBit_within _ _ _ _ _) (by decide))
      | fail_if_no_progress with_reducible apply Within.upd (by rw [pick_3cfffff0000000000002])
      | with_reducible apply Within.of_fst (by assumption)
      | with_reducible apply Within.of_fst1 (by assumption)
      | split)

theorem loadPage_regs (s : State) (lim : Nat) (page : Nat) {ks : List Field} (h1 :
    Reg.CHRON_DROP_CNT ∈ ks) (h2 : Reg.CHRON_REPEAT_CNT ∈ ks) (h3 : Reg.KEEP_STATUS_TIE ∈ ks) : onlyRegs ks s
    (@State.loadPage s lim page) := by
  unfold State.loadPage
  repeat' (first
      | (with_reducible apply onlyRegs.rfl)
      | extract_lets
      | (with_reducible assumption)
      | (with_reducible exact List.mem_cons_self)
      | (with_reducible apply List.mem_cons_of_mem)
      | (with_reducible apply onlyRegs.ite <;> intro _)
      | (with_reducible apply onlyRegs.on (chronicle_regs _ _ _ _ _ ?_ ?_))
      | (with_reducible apply onlyRegs.on (setBit_regs _ _ _ _ _ ?_))
      | fail_if_no_progress with_reducible apply onlyRegs.upd
      | with_reducible apply onlyRegs.of_fst (by assumption)
      | with_reducible apply onlyRegs.of_fst1 (by assumption)
      | split)

theorem loadKeep_within (s : State) : Within 0x3cfffff0000000000002 s
    (@State.loadKeep s) := by
  unfold State.loadKeep
  repeat' (first
      | extract_lets
      | with_reducible apply Within.rfl
      | (with_reducible apply Within.on (m := 0x3cfffff0000000000002) (loadPage_within _ _ _) (by decide))
      | (with_reducible apply Within.foldl; intro t x)
      | fail_if_no_progress with_reducible apply Within.upd (by rw [pick_3cfffff0000000000002]))

theorem loadKeep_regs (s : State) {ks : List Field} (h1 : Reg.CHRON_DROP_CNT ∈ ks) (h2 :
    Reg.CHRON_REPEAT_CNT ∈ ks) (h3 : Reg.KEEP_STATUS_TIE ∈ ks) : onlyRegs ks s (@State.loadKeep s) :=
    by
  unfold State.loadKeep
  repeat' (first
      | (with_reducible apply onlyRegs.rfl)
      | extract_lets
      | (with_reducible assumption)
      | (with_reducible exact List.mem_cons_self)
      | (with_reducible apply List.mem_cons_of_mem)
      | (with_reducible apply onlyRegs.on (loadPage_regs _ _ _ ?_ ?_ ?_))
      | (with_reducible apply onlyRegs.foldl; intro t x)
      | fail_if_no_progress with_reducible apply onlyRegs.upd)

theorem resolveSpread_within (s : State) (i : Nat) : Within 0x3cfffff0000000000002 s
    (@State.resolveSpread s i) := by
  unfold State.resolveSpread
  repeat' (first
      | extract_lets
      | with_reducible apply Within.ite <;> intro _
      | with_reducible apply Within.rfl
      | (with_reducible apply Within.on (m := 0x3cfffff0000000000002) (spreadRoll_within _ _) (by decide))
      | (with_reducible apply Within.on (m := 0x3cfffff0000000000002) (chronicle_within _ _ _ _ _) (by decide))
      | (with_reducible apply Within.on (m := 0x3cfffff0000000000002) (keepWrite_within _ _ _ _) (by decide))
      | (with_reducible apply Within.on (m := 0x3cfffff0000000000002) (spreadErase_within _ _) (by decide))
      | fail_if_no_progress with_reducible apply Within.upd (by rw [pick_3cfffff0000000000002])
      | with_reducible apply Within.of_fst (by assumption)
      | with_reducible apply Within.of_fst1 (by assumption)
      | split)

theorem pick_b30e8000000000000000000000 (s t : State) : State.pick 0xb30e8000000000000000000000 s t = { s with
    prot := { s.prot with
      ranges := t.prot.ranges, integState := t.prot.integState, granules := t.prot.granules,
      roots := t.prot.roots, officers := t.prot.officers, nonces := t.prot.nonces, bindings := t.prot.bindings,
      anchor := t.prot.anchor, unlock := t.prot.unlock } } := rfl

theorem restoreProt_within (s : State) : Within 0xb30e8000000000000000000000 s
    (@State.restoreProt s) := by
  unfold State.restoreProt
  repeat' (first
      | with_reducible apply Within.rfl
      | fail_if_no_progress with_reducible apply Within.upd (by rw [pick_b30e8000000000000000000000]))

theorem restoreBudget_within (s : State) : Within 2 s (@State.restoreBudget s) := by
  unfold State.restoreBudget
  repeat' (first
      | with_reducible apply Within.rfl
      | (with_reducible apply Within.on (m := 2) (setBudget_within _ _ _) (by decide))
      | with_reducible apply Within.of_fst (by assumption)
      | with_reducible apply Within.of_fst1 (by assumption)
      | split)

theorem raiseDsc_within (s : State) (m : Marker) : Within 0x3cc00000000000000002
    s (@State.raiseDsc s m) := by
  unfold State.raiseDsc
  repeat' (first
      | with_reducible apply Within.rfl
      | (with_reducible apply Within.on (m := 0x3cc00000000000000002) (chronicle_within _ _ _ _ _) (by decide))
      | (with_reducible apply Within.on (m := 0x3cc00000000000000002) (bump_within _ _ _ _ _) (by decide))
      | with_reducible apply Within.of_fst (by assumption)
      | with_reducible apply Within.of_fst1 (by assumption)
      | split)

theorem raiseDsc_regs (s : State) (m : Marker) {ks : List Field} (h1 :
    Reg.CHRON_DROP_CNT ∈ ks) (h2 : Reg.CHRON_REPEAT_CNT ∈ ks) (h3 : Reg.MERGE_DSC ∈ ks) : onlyRegs ks s
    (@State.raiseDsc s m) := by
  unfold State.raiseDsc
  repeat' (first
      | (with_reducible apply onlyRegs.rfl)
      | (with_reducible assumption)
      | (with_reducible exact List.mem_cons_self)
      | (with_reducible apply List.mem_cons_of_mem)
      | (with_reducible apply onlyRegs.on (chronicle_regs _ _ _ _ _ ?_ ?_))
      | (with_reducible apply onlyRegs.on (bump_regs _ _ _ _ _ ?_))
      | with_reducible apply onlyRegs.of_fst (by assumption)
      | with_reducible apply onlyRegs.of_fst1 (by assumption)
      | split)

theorem pick_180000060000000000001000000000003cc00001800000000002 (s t : State) : State.pick 0x180000060000000000001000000000003cc00001800000000002 s t = { s with
    regs := t.regs, start := { s.start with readMarker := t.start.readMarker, first := t.start.first },
    chron := { s.chron with
      perm := t.chron.perm, ring := t.chron.ring, buffer := t.chron.buffer, nextSerial := t.chron.nextSerial,
      runs := t.chron.runs, dropped := t.chron.dropped },
    merge := { s.merge with marker := t.merge.marker },
    xlat := { s.xlat with seq := t.xlat.seq, sbe := t.xlat.sbe },
    err := { s.err with e := t.err.e, eSaved := t.err.eSaved } } := rfl

theorem restoreState_within (s : State) : Within
    0x180000060000000000001000000000003cc00001800000000002 s (@State.restoreState s) := by
  unfold State.restoreState
  repeat' (first
      | extract_lets
      | with_reducible apply Within.ite <;> intro _
      | with_reducible apply Within.rfl
      | (with_reducible apply Within.on (m := 0x180000060000000000001000000000003cc00001800000000002) (raiseDsc_within _ _) (by decide))
      | (with_reducible apply Within.on (m := 0x180000060000000000001000000000003cc00001800000000002) (wr_within _ _ _ _ _) (by decide))
      | (with_reducible apply Within.on (m := 0x180000060000000000001000000000003cc00001800000000002) (setBit_within _ _ _ _ _) (by decide))
      | fail_if_no_progress with_reducible apply Within.upd (by rw [pick_180000060000000000001000000000003cc00001800000000002])
      | with_reducible apply Within.of_fst (by assumption)
      | with_reducible apply Within.of_fst1 (by assumption)
      | split
      | dsimp +zetaDelta only)

theorem pick_18000006000000000000100002b30e803cfffff1800000000012 (s t : State) : State.pick 0x18000006000000000000100002b30e803cfffff1800000000012 s t = { s with
    regs := t.regs, free := t.free,
    start := { s.start with readMarker := t.start.readMarker, first := t.start.first }, keep := t.keep,
    chron := { s.chron with
      perm := t.chron.perm, ring := t.chron.ring, buffer := t.chron.buffer, nextSerial := t.chron.nextSerial,
      runs := t.chron.runs, dropped := t.chron.dropped },
    prot := { s.prot with
      ranges := t.prot.ranges, integState := t.prot.integState, granules := t.prot.granules,
      roots := t.prot.roots, officers := t.prot.officers, nonces := t.prot.nonces, bindings := t.prot.bindings,
      anchor := t.prot.anchor, unlock := t.prot.unlock, challenge := t.prot.challenge },
    merge := { s.merge with marker := t.merge.marker },
    xlat := { s.xlat with seq := t.xlat.seq, sbe := t.xlat.sbe },
    err := { s.err with e := t.err.e, eSaved := t.err.eSaved } } := rfl

theorem readKeep_within (s : State) : Within
    0x18000006000000000000100002b30e803cfffff1800000000012 s (@State.readKeep s) := by
  unfold State.readKeep
  repeat' (first
      | extract_lets
      | with_reducible apply Within.rfl
      | (with_reducible apply Within.on (m := 0x18000006000000000000100002b30e803cfffff1800000000012) (loadKeep_within _) (by decide))
      | (with_reducible apply Within.on (m := 0x18000006000000000000100002b30e803cfffff1800000000012) (resolveSpread_within _ _) (by decide))
      | (with_reducible apply Within.on (m := 0x18000006000000000000100002b30e803cfffff1800000000012) (restoreBudget_within _) (by decide))
      | (with_reducible apply Within.on (m := 0x18000006000000000000100002b30e803cfffff1800000000012) (restoreProt_within _) (by decide))
      | (with_reducible apply Within.on (m := 0x18000006000000000000100002b30e803cfffff1800000000012) (restoreState_within _) (by decide))
      | (with_reducible apply Within.on (m := 0x18000006000000000000100002b30e803cfffff1800000000012) (flash_within _) (by decide))
      | (with_reducible apply Within.on (m := 0x18000006000000000000100002b30e803cfffff1800000000012) (tick_within _) (by decide))
      | fail_if_no_progress with_reducible apply Within.upd (by rw [pick_18000006000000000000100002b30e803cfffff1800000000012]))

end Sys2Proof.Machine
end

