-- ==== Sys2Proof/Laws/ProtFamilyFrames.lean ====
section
/-! SUPPORT. For each function of Machine/ProtFamily.lean over the state: the part of the state outside which it changes
nothing (`…_within`), and the register fields that it may write (`…_regs`). -/

namespace Sys2Proof.Machine

set_option maxRecDepth 4000

theorem pick_40000003ffff0000000000010 (s t : State) : State.pick 0x40000003ffff0000000000010 s t = { s with
    free := t.free, keep := t.keep, prot := { s.prot with lodged := t.prot.lodged } } := rfl

theorem beginApply_within (s : State) (l : Lodged) (seconder : Nat) (path : Option
    Sys2Proof.CmdPath) : Within 0x40000003ffff0000000000010 s (@State.beginApply s l seconder
    path) := by
  unfold State.beginApply
  repeat' (first
      | extract_lets
      | with_reducible apply Within.rfl
      | (with_reducible apply Within.on (m := 0x40000003ffff0000000000010) (keepGroup_within _ _ _) (by decide))
      | (with_reducible apply Within.on (m := 0x40000003ffff0000000000010) (tick_within _) (by decide))
      | (with_reducible apply Within.on (m := 0x40000003ffff0000000000010) (flash_within _) (by decide))
      | fail_if_no_progress with_reducible apply Within.upd (by rw [pick_40000003ffff0000000000010]))

theorem motionReply_within (s : State) (p : Sys2Proof.CmdPath) (reason : Nat) (m : Sys2Proof.Motion)
    (state : Nat) : Within 0x200000000000000000000000000000022 s (@State.motionReply s p reason
    m state) := by
  unfold State.motionReply
  repeat' (first
      | extract_lets
      | with_reducible apply Within.ite <;> intro _
      | with_reducible apply Within.rfl
      | (with_reducible apply Within.on (m := 0x200000000000000000000000000000022) (bump_within _ _ _ _ _) (by decide))
      | (with_reducible apply Within.on (m := 0x200000000000000000000000000000022) (wr_within _ _ _ _ _) (by decide))
      | (with_reducible apply Within.on (m := 0x200000000000000000000000000000022) (reply_within _ _ _ _ _) (by decide)))

theorem motionReply_regs (s : State) (p : Sys2Proof.CmdPath) (reason : Nat) (m : Sys2Proof.Motion)
    (state : Nat) {ks : List Field} (h1 : Reg.PROT_DUP_CNT ∈ ks) (h2 : Reg.PROT_MOTION_REJECT_COUNT ∈ ks) (h3 :
    Reg.PROT_MOTION_REJECT_LAST_REASON ∈ ks) : onlyRegs ks s (@State.motionReply s p reason m state)
    := by
  unfold State.motionReply
  repeat' (first
      | (with_reducible apply onlyRegs.rfl)
      | extract_lets
      | (with_reducible assumption)
      | (with_reducible exact List.mem_cons_self)
      | (with_reducible apply List.mem_cons_of_mem)
      | (with_reducible apply onlyRegs.ite <;> intro _)
      | (with_reducible apply onlyRegs.on (bump_regs _ _ _ _ _ ?_))
      | (with_reducible apply onlyRegs.wr)
      | (with_reducible apply onlyRegs.keep (reply_within _ _ _ _ _) (by decide)))

theorem pick_2000000060000003ffff0000000000032 (s t : State) : State.pick 0x2000000060000003ffff0000000000032 s t = { s with
    regs := t.regs, free := t.free, out := t.out, keep := t.keep,
    prot := { s.prot with nonces := t.prot.nonces, lodged := t.prot.lodged },
    mbox := { s.mbox with stored := t.mbox.stored } } := rfl

theorem motion_within (s : State) (p : Sys2Proof.CmdPath) (m : Sys2Proof.Motion) : Within
    0x2000000060000003ffff0000000000032 s (@State.motion s p m) := by
  unfold State.motion
  repeat' (first
      | extract_lets
      | with_reducible apply Within.ite <;> intro _
      | with_reducible apply Within.rfl
      | (with_reducible apply Within.on (m := 0x2000000060000003ffff0000000000032) (motionReply_within _ _ _ _ _) (by decide))
      | (with_reducible apply Within.on (m := 0x2000000060000003ffff0000000000032) (beginApply_within _ _ _ _) (by decide))
      | fail_if_no_progress with_reducible apply Within.upd (by rw [pick_2000000060000003ffff0000000000032]))

theorem motion_regs (s : State) (p : Sys2Proof.CmdPath) (m : Sys2Proof.Motion) {ks : List Field}
    (h1 : Reg.PROT_DUP_CNT ∈ ks) (h2 : Reg.PROT_MOTION_REJECT_COUNT ∈ ks) (h3 : Reg.PROT_MOTION_REJECT_LAST_REASON ∈
    ks) : onlyRegs ks s (@State.motion s p m) := by
  unfold State.motion
  repeat' (first
      | (with_reducible apply onlyRegs.rfl)
      | extract_lets
      | (with_reducible assumption)
      | (with_reducible exact List.mem_cons_self)
      | (with_reducible apply List.mem_cons_of_mem)
      | (with_reducible apply onlyRegs.ite <;> intro _)
      | (with_reducible apply onlyRegs.on (motionReply_regs _ _ _ _ _ ?_ ?_ ?_))
      | (with_reducible apply onlyRegs.keep (beginApply_within _ _ _ _) (by decide))
      | fail_if_no_progress with_reducible apply onlyRegs.upd)

theorem pick_200000000000000000000000010 (s t : State) : State.pick 0x200000000000000000000000010 s t = { s with
    free := t.free, prot := { s.prot with challenge := t.prot.challenge } } := rfl

theorem newChallenge_within (s : State) : Within 0x200000000000000000000000010 s
    (@State.newChallenge s) := by
  unfold State.newChallenge
  repeat' (first
      | with_reducible apply Within.rfl
      | (with_reducible apply Within.on (m := 0x200000000000000000000000010) (tick_within _) (by decide))
      | fail_if_no_progress with_reducible apply Within.upd (by rw [pick_200000000000000000000000010]))

theorem pick_204000000000000000000000010 (s t : State) : State.pick 0x204000000000000000000000010 s t = { s with
    free := t.free, prot := { s.prot with lodged := t.prot.lodged, challenge := t.prot.challenge } } := rfl

theorem dropMotion_within (s : State) (m : Sys2Proof.Motion) : Within
    0x204000000000000000000000010 s (@State.dropMotion s m) := by
  unfold State.dropMotion
  repeat' (first
      | extract_lets
      | with_reducible apply Within.ite <;> intro _
      | with_reducible apply Within.rfl
      | (with_reducible apply Within.on (m := 0x204000000000000000000000010) (newChallenge_within _) (by decide))
      | fail_if_no_progress with_reducible apply Within.upd (by rw [pick_204000000000000000000000010]))

theorem pick_2000002040000003ffff0000000000032 (s t : State) : State.pick 0x2000002040000003ffff0000000000032 s t = { s with
    regs := t.regs, free := t.free, out := t.out, keep := t.keep,
    prot := { s.prot with lodged := t.prot.lodged, challenge := t.prot.challenge },
    mbox := { s.mbox with stored := t.mbox.stored } } := rfl

theorem second_within (s : State) (p : Sys2Proof.CmdPath) (m : Sys2Proof.Second) : Within
    0x2000002040000003ffff0000000000032 s (@State.second s p m) := by
  unfold State.second
  repeat' (first
      | extract_lets
      | with_reducible apply Within.ite <;> intro _
      | with_reducible apply Within.rfl
      | (with_reducible apply Within.on (m := 0x2000002040000003ffff0000000000032) (motionReply_within _ _ _ _ _) (by decide))
      | (with_reducible apply Within.on (m := 0x2000002040000003ffff0000000000032) (dropMotion_within _ _) (by decide))
      | (with_reducible apply Within.on (m := 0x2000002040000003ffff0000000000032) (beginApply_within _ _ _ _) (by decide))
      | with_reducible apply Within.of_fst (by assumption)
      | with_reducible apply Within.of_fst1 (by assumption)
      | split)

theorem second_regs (s : State) (p : Sys2Proof.CmdPath) (m : Sys2Proof.Second) {ks : List Field}
    (h1 : Reg.PROT_DUP_CNT ∈ ks) (h2 : Reg.PROT_MOTION_REJECT_COUNT ∈ ks) (h3 : Reg.PROT_MOTION_REJECT_LAST_REASON ∈
    ks) : onlyRegs ks s (@State.second s p m) := by
  unfold State.second
  repeat' (first
      | (with_reducible apply onlyRegs.rfl)
      | extract_lets
      | (with_reducible assumption)
      | (with_reducible exact List.mem_cons_self)
      | (with_reducible apply List.mem_cons_of_mem)
      | (with_reducible apply onlyRegs.ite <;> intro _)
      | (with_reducible apply onlyRegs.on (motionReply_regs _ _ _ _ _ ?_ ?_ ?_))
      | (with_reducible apply onlyRegs.keep (dropMotion_within _ _) (by decide))
      | (with_reducible apply onlyRegs.keep (beginApply_within _ _ _ _) (by decide))
      | with_reducible apply onlyRegs.of_fst (by assumption)
      | with_reducible apply onlyRegs.of_fst1 (by assumption)
      | split)

theorem pick_f4004000000400000000000000000000000022 (s t : State) : State.pick 0xf4004000000400000000000000000000000022 s t = { s with
    regs := t.regs, out := t.out, prot := { s.prot with rekeys := t.prot.rekeys },
    cache := { s.cache with
      lines := t.cache.lines, host := t.cache.host, snoops := t.cache.snoops, clock := t.cache.clock,
      biCredits := t.cache.biCredits },
    internals := t.internals } := rfl

theorem queuePass_within (s : State) (r : Rekey) : Within
    0xf4004000000400000000000000000000000022 s (@State.queuePass s r) := by
  unfold State.queuePass
  repeat' (first
      | extract_lets
      | with_reducible apply Within.rfl
      | (with_reducible apply Within.on (m := 0xf4004000000400000000000000000000000022) (queueInternal_within _ _) (by decide))
      | fail_if_no_progress with_reducible apply Within.upd (by rw [pick_f4004000000400000000000000000000000022]))

theorem queuePass_regs (s : State) (r : Rekey) {ks : List Field} (h1 :
    Reg.DIR_BCAST_CNT ∈ ks) (h2 : Reg.DIR_BISNP_CNT ∈ ks) (h3 : Reg.DIR_EVBUF_USED ∈ ks) (h4 :
    Reg.DIR_HOST_OVF_ENTRIES ∈ ks) (h5 : Reg.DIR_HOST_STATUS_ENTRIES ∈ ks) (h6 : Reg.DIR_SLICE_STATUS_ENTRIES ∈ ks) :
    onlyRegs ks s (@State.queuePass s r) := by
  unfold State.queuePass
  repeat' (first
      | (with_reducible apply onlyRegs.rfl)
      | extract_lets
      | (with_reducible assumption)
      | (with_reducible exact List.mem_cons_self)
      | (with_reducible apply List.mem_cons_of_mem)
      | (with_reducible apply onlyRegs.on (queueInternal_regs _ _ ?_ ?_ ?_ ?_ ?_ ?_))
      | fail_if_no_progress with_reducible apply onlyRegs.upd)

theorem pick_f4004000000644000000000000000000000032 (s t : State) : State.pick 0xf4004000000644000000000000000000000032 s t = { s with
    regs := t.regs, free := t.free, out := t.out,
    prot := { s.prot with
      lodged := t.prot.lodged, eraseAuth := t.prot.eraseAuth, challenge := t.prot.challenge,
      rekeys := t.prot.rekeys },
    cache := { s.cache with
      lines := t.cache.lines, host := t.cache.host, snoops := t.cache.snoops, clock := t.cache.clock,
      biCredits := t.cache.biCredits },
    internals := t.internals } := rfl

theorem startedBy_within (s : State) (before : Tab RangeDef) (a :
    Sys2Proof.MotionArgs) : Within 0xf4004000000644000000000000000000000032 s
    (@State.startedBy s before a) := by
  unfold State.startedBy
  repeat' (first
      | extract_lets
      | with_reducible apply Within.ite <;> intro _
      | with_reducible apply Within.rfl
      | (with_reducible apply Within.on (m := 0xf4004000000644000000000000000000000032) (newChallenge_within _) (by decide))
      | (with_reducible apply Within.on (m := 0xf4004000000644000000000000000000000032) (bump_within _ _ _ _ _) (by decide))
      | (with_reducible apply Within.on (m := 0xf4004000000644000000000000000000000032) (queueRelease_within _ _ _) (by decide))
      | (with_reducible apply Within.on (m := 0xf4004000000644000000000000000000000032) (queuePass_within _ _) (by decide))
      | fail_if_no_progress with_reducible apply Within.upd (by rw [pick_f4004000000644000000000000000000000032])
      | with_reducible apply Within.of_fst (by assumption)
      | with_reducible apply Within.of_fst1 (by assumption)
      | split)

theorem startedBy_regs (s : State) (before : Tab RangeDef) (a :
    Sys2Proof.MotionArgs) {ks : List Field} (h1 : Reg.DIR_BCAST_CNT ∈ ks) (h2 : Reg.DIR_BISNP_CNT ∈ ks) (h3 :
    Reg.DIR_EVBUF_USED ∈ ks) (h4 : Reg.DIR_HOST_OVF_ENTRIES ∈ ks) (h5 : Reg.DIR_HOST_STATUS_ENTRIES ∈ ks) (h6 :
    Reg.DIR_SLICE_STATUS_ENTRIES ∈ ks) (h7 : Reg.PROT_LAPSE_CNT ∈ ks) : onlyRegs ks s
    (@State.startedBy s before a) := by
  unfold State.startedBy
  repeat' (first
      | (with_reducible apply onlyRegs.rfl)
      | extract_lets
      | (with_reducible assumption)
      | (with_reducible exact List.mem_cons_self)
      | (with_reducible apply List.mem_cons_of_mem)
      | (with_reducible apply onlyRegs.ite <;> intro _)
      | (with_reducible apply onlyRegs.keep (newChallenge_within _) (by decide))
      | (with_reducible apply onlyRegs.on (bump_regs _ _ _ _ _ ?_))
      | (with_reducible apply onlyRegs.on (queueRelease_regs _ _ _ ?_ ?_ ?_ ?_ ?_ ?_))
      | (with_reducible apply onlyRegs.on (queuePass_regs _ _ ?_ ?_ ?_ ?_ ?_ ?_))
      | fail_if_no_progress with_reducible apply onlyRegs.upd
      | with_reducible apply onlyRegs.of_fst (by assumption)
      | with_reducible apply onlyRegs.of_fst1 (by assumption)
      | split)

theorem pick_f4004200007fffff803cc00000000000000032 (s t : State) : State.pick 0xf4004200007fffff803cc00000000000000032 s t = { s with
    regs := t.regs, free := t.free, out := t.out,
    chron := { s.chron with
      perm := t.chron.perm, ring := t.chron.ring, buffer := t.chron.buffer, nextSerial := t.chron.nextSerial,
      runs := t.chron.runs, dropped := t.chron.dropped },
    prot := t.prot, mbox := { s.mbox with stored := t.mbox.stored },
    cache := { s.cache with
      lines := t.cache.lines, host := t.cache.host, snoops := t.cache.snoops, clock := t.cache.clock,
      biCredits := t.cache.biCredits },
    internals := t.internals } := rfl

theorem applyMotion_within (s : State) (l : Lodged) : Within
    0xf4004200007fffff803cc00000000000000032 s (@State.applyMotion s l) := by
  unfold State.applyMotion
  repeat' (first
      | extract_lets
      | with_reducible apply Within.rfl
      | (with_reducible apply Within.on (m := 0xf4004200007fffff803cc00000000000000032) (bump_within _ _ _ _ _) (by decide))
      | (with_reducible apply Within.on (m := 0xf4004200007fffff803cc00000000000000032) (startedBy_within _ _ _) (by decide))
      | (with_reducible apply Within.on (m := 0xf4004200007fffff803cc00000000000000032) (chronicle_within _ _ _ _ _) (by decide))
      | (with_reducible apply Within.on (m := 0xf4004200007fffff803cc00000000000000032) (reply_within _ _ _ _ _) (by decide))
      | fail_if_no_progress with_reducible apply Within.upd (by rw [pick_f4004200007fffff803cc00000000000000032])
      | with_reducible apply Within.of_fst (by assumption)
      | with_reducible apply Within.of_fst1 (by assumption)
      | split)

theorem applyMotion_regs (s : State) (l : Lodged) {ks : List Field} (h1 :
    Reg.CHRON_DROP_CNT ∈ ks) (h2 : Reg.CHRON_REPEAT_CNT ∈ ks) (h3 : Reg.DIR_BCAST_CNT ∈ ks) (h4 : Reg.DIR_BISNP_CNT ∈
    ks) (h5 : Reg.DIR_EVBUF_USED ∈ ks) (h6 : Reg.DIR_HOST_OVF_ENTRIES ∈ ks) (h7 : Reg.DIR_HOST_STATUS_ENTRIES ∈ ks)
    (h8 : Reg.DIR_SLICE_STATUS_ENTRIES ∈ ks) (h9 : Reg.PROT_LAPSE_CNT ∈ ks) (h10 : Reg.PROT_MOTION_CNT ∈ ks) : onlyRegs
    ks s (@State.applyMotion s l) := by
  unfold State.applyMotion
  repeat' (first
      | (with_reducible apply onlyRegs.rfl)
      | extract_lets
      | (with_reducible assumption)
      | (with_reducible exact List.mem_cons_self)
      | (with_reducible apply List.mem_cons_of_mem)
      | (with_reducible apply onlyRegs.on (bump_regs _ _ _ _ _ ?_))
      | (with_reducible apply onlyRegs.on (startedBy_regs _ _ _ ?_ ?_ ?_ ?_ ?_ ?_ ?_))
      | (with_reducible apply onlyRegs.on (chronicle_regs _ _ _ _ _ ?_ ?_))
      | (with_reducible apply onlyRegs.keep (reply_within _ _ _ _ _) (by decide))
      | fail_if_no_progress with_reducible apply onlyRegs.upd
      | with_reducible apply onlyRegs.of_fst (by assumption)
      | with_reducible apply onlyRegs.of_fst1 (by assumption)
      | split)

theorem setStream_within (s : State) (p : Nat) (l : Nat) (x : IdeStream) : Within
    0x2000000000000000000000000000 s (@State.setStream s p l x) := by
  unfold State.setStream
  repeat' (first
      | with_reducible apply Within.rfl
      | fail_if_no_progress with_reducible apply Within.upd (by rw [pick_2000000000000000000000000000]))

end Sys2Proof.Machine
end

