-- ==== Sys2Proof/Laws/CacheFamilyFrames.lean ====
section
/-! SUPPORT. For each function of Machine/CacheFamily.lean over the state: the part of the state outside which it changes
nothing (`…_within`), and the register fields that it may write (`…_regs`). -/

namespace Sys2Proof.Machine

set_option maxRecDepth 4000

theorem showWays_within (s : State) (i : Nat) : Within 2 s (@State.showWays s i) := by
  unfold State.showWays
  repeat' (first
      | with_reducible apply Within.rfl
      | (with_reducible apply Within.on (m := 2) (wr_within _ _ _ _ _) (by decide)))

theorem showWays_regs (s : State) (i : Nat) {ks : List Field} (h1 : Reg.CACHE_WAY_STATUS_CLEANING ∈
    ks) (h2 : Reg.CACHE_WAY_STATUS_ENABLED ∈ ks) : onlyRegs ks s (@State.showWays s i) := by
  unfold State.showWays
  repeat' (first
      | (with_reducible apply onlyRegs.rfl)
      | (with_reducible assumption)
      | (with_reducible exact List.mem_cons_self)
      | (with_reducible apply List.mem_cons_of_mem)
      | (with_reducible apply onlyRegs.wr))

theorem pick_c00000000000000000000000000000000002 (s t : State) : State.pick 0xc00000000000000000000000000000000002 s t = { s with
    regs := t.regs, cache := { s.cache with enabled := t.cache.enabled, cleaning := t.cache.cleaning } } := rfl

theorem setWays_within (s : State) (i : Nat) (en : Nat) (cl : Nat) : Within
    0xc00000000000000000000000000000000002 s (@State.setWays s i en cl) := by
  unfold State.setWays
  repeat' (first
      | with_reducible apply Within.rfl
      | (with_reducible apply Within.on (m := 0xc00000000000000000000000000000000002) (showWays_within _ _) (by decide))
      | fail_if_no_progress with_reducible apply Within.upd (by rw [pick_c00000000000000000000000000000000002]))

theorem setWays_regs (s : State) (i : Nat) (en : Nat) (cl : Nat) {ks : List Field} (h1 :
    Reg.CACHE_WAY_STATUS_CLEANING ∈ ks) (h2 : Reg.CACHE_WAY_STATUS_ENABLED ∈ ks) : onlyRegs ks s
    (@State.setWays s i en cl) := by
  unfold State.setWays
  repeat' (first
      | (with_reducible apply onlyRegs.rfl)
      | (with_reducible assumption)
      | (with_reducible exact List.mem_cons_self)
      | (with_reducible apply List.mem_cons_of_mem)
      | (with_reducible apply onlyRegs.on (showWays_regs _ _ ?_ ?_))
      | fail_if_no_progress with_reducible apply onlyRegs.upd)

theorem waysBoundary_within (s : State) (i : Nat) : Within
    0xc00000000000000000000000000000000002 s (@State.waysBoundary s i) := by
  unfold State.waysBoundary
  repeat' (first
      | extract_lets
      | with_reducible apply Within.rfl
      | (with_reducible apply Within.on (m := 0xc00000000000000000000000000000000002) (setWays_within _ _ _ _) (by decide)))

theorem pick_3000002008000008000210000000000060000000000000002 (s t : State) : State.pick 0x3000002008000008000210000000000060000000000000002 s t = { s with
    regs := t.regs, keep := { s.keep with bytes := t.keep.bytes, byteLines := t.keep.byteLines }, reqs := t.reqs,
    merge := { s.merge with entries := t.merge.entries }, cache := { s.cache with fills := t.cache.fills },
    sched := { s.sched with jobs := t.sched.jobs }, xlat := { s.xlat with tracts := t.xlat.tracts },
    err := { s.err with poison := t.err.poison, poisonLost := t.err.poisonLost } } := rfl

theorem internalMerge_within (s : State) (w : WriteIn) : Within
    0x3000002008000008000210000000000060000000000000002 s (@State.internalMerge s w) := by
  unfold State.internalMerge
  repeat' (first
      | extract_lets
      | with_reducible apply Within.rfl
      | (with_reducible apply Within.on (m := 0x3000002008000008000210000000000060000000000000002) (overtake_within _ _) (by decide))
      | (with_reducible apply Within.on (m := 0x3000002008000008000210000000000060000000000000002) (mergeWrite_within _ _ _) (by decide))
      | (with_reducible apply Within.on (m := 0x3000002008000008000210000000000060000000000000002) (dropEntry_within _ _) (by decide))
      | with_reducible apply Within.of_fst (by assumption)
      | with_reducible apply Within.of_fst1 (by assumption)
      | split)

theorem internalMerge_regs (s : State) (w : WriteIn) {ks : List Field} (h1 :
    Reg.ERR_HEALTH_EVENT_POISON_FULL ∈ ks) (h2 : Reg.ERR_POISON_LIST_OVERFLOW ∈ ks) (h3 : Reg.ERR_POISON_LIST_RECORDS
    ∈ ks) (h4 : Reg.MERGE_MERGE_CNT ∈ ks) (h5 : Reg.MERGE_PARTIAL_LINES ∈ ks) (h6 : Reg.MERGE_SETTLE_REFETCH_CNT ∈ ks)
    (h7 : Reg.MERGE_SETTLING_LINES ∈ ks) (h8 : Reg.MERGE_STATUS_DIRTY ∈ ks) (h9 : Reg.MERGE_STATUS_LIMIT ∈ ks) (h10 :
    Reg.XLAT_PINNED_LINES ∈ ks) : onlyRegs ks s (@State.internalMerge s w) := by
  unfold State.internalMerge
  repeat' (first
      | (with_reducible apply onlyRegs.rfl)
      | extract_lets
      | (with_reducible assumption)
      | (with_reducible exact List.mem_cons_self)
      | (with_reducible apply List.mem_cons_of_mem)
      | (with_reducible apply onlyRegs.keep (overtake_within _ _) (by decide))
      | (with_reducible apply onlyRegs.on (mergeWrite_regs _ _ _ ?_ ?_ ?_ ?_ ?_ ?_ ?_ ?_ ?_ ?_))
      | (with_reducible apply onlyRegs.keep (dropEntry_within _ _) (by decide))
      | with_reducible apply onlyRegs.of_fst (by assumption)
      | with_reducible apply onlyRegs.of_fst1 (by assumption)
      | split)

theorem internalReply_within (s : State) (p : Option Sys2Proof.CmdPath) : Within
    0x200000000000000000000000000000020 s (@State.internalReply s p) := by
  unfold State.internalReply
  repeat' (first
      | with_reducible apply Within.rfl
      | (with_reducible apply Within.on (m := 0x200000000000000000000000000000020) (reply_within _ _ _ _ _) (by decide))
      | with_reducible apply Within.of_fst (by assumption)
      | with_reducible apply Within.of_fst1 (by assumption)
      | split)

theorem pick_200000000000000e01e0080013ec60f610000007fbcc00000000000000022 (s t : State) : State.pick 0x200000000000000e01e0080013ec60f610000007fbcc00000000000000022 s t = { s with
    regs := t.regs, out := t.out,
    chron := { s.chron with
      perm := t.chron.perm, ring := t.chron.ring, buffer := t.chron.buffer, nextSerial := t.chron.nextSerial,
      runs := t.chron.runs, dropped := t.chron.dropped },
    events := t.events, reqs := t.reqs,
    merge := { s.merge with
      entries := t.merge.entries, cells := t.merge.cells, points := t.merge.points,
      lastPoint := t.merge.lastPoint, pointDone := t.merge.pointDone, pointPinned := t.merge.pointPinned },
    mbox := { s.mbox with stored := t.mbox.stored, bg := t.mbox.bg },
    cache := { s.cache with
      lines := t.cache.lines, fills := t.cache.fills, victims := t.cache.victims, purges := t.cache.purges,
      dirWay := t.cache.dirWay, dirPlru := t.cache.dirPlru, plru := t.cache.plru, rc := t.cache.rc },
    sched := { s.sched with jobs := t.sched.jobs },
    xlat := { s.xlat with
      tracts := t.xlat.tracts, fluid := t.xlat.fluid, blocks := t.xlat.blocks, valid := t.xlat.valid,
      copies := t.xlat.copies, settles := t.xlat.settles, gather := t.xlat.gather },
    shelf := { s.shelf with pointReport := t.shelf.pointReport } } := rfl

theorem eraseStep2_within (s : State) : Within
    0x200000000000000e01e0080013ec60f610000007fbcc00000000000000022 s (@State.eraseStep2
    s) := by
  unfold State.eraseStep2
  repeat' (first
      | extract_lets
      | with_reducible apply Within.rfl
      | (with_reducible apply Within.on (m := 0x200000000000000e01e0080013ec60f610000007fbcc00000000000000022) (forgetReads_within _ _ _) (by decide))
      | (with_reducible apply Within.on (m := 0x200000000000000e01e0080013ec60f610000007fbcc00000000000000022) (endPoint_within _ _ _ _) (by decide))
      | (with_reducible apply Within.on (m := 0x200000000000000e01e0080013ec60f610000007fbcc00000000000000022) (poolCounts_within _) (by decide))
      | (with_reducible apply Within.on (m := 0x200000000000000e01e0080013ec60f610000007fbcc00000000000000022) (sliceCount_within _) (by decide))
      | (with_reducible apply Within.on (m := 0x200000000000000e01e0080013ec60f610000007fbcc00000000000000022) (mergeCounts_within _) (by decide))
      | (with_reducible apply Within.foldl; intro t x)
      | fail_if_no_progress with_reducible apply Within.upd (by rw [pick_200000000000000e01e0080013ec60f610000007fbcc00000000000000022]))

theorem eraseStep2_regs (s : State) {ks : List Field} (h1 : Reg.CHRON_DROP_CNT ∈ ks) (h2 :
    Reg.CHRON_REPEAT_CNT ∈ ks) (h3 : Reg.DIR_SLICE_STATUS_ENTRIES ∈ ks) (h4 : Reg.ERR_DIRTY_LOST_CNT ∈ ks) (h5 :
    Reg.ERR_HEALTH_EVENT_DIRTY_LOST ∈ ks) (h6 : Reg.MERGE_LOST_CNT ∈ ks) (h7 : Reg.MERGE_PARTIAL_LINES ∈ ks) (h8 :
    Reg.MERGE_POINT_LO_STROKE_LO ∈ ks) (h9 : Reg.MERGE_SETTLING_LINES ∈ ks) (h10 : Reg.MERGE_STATUS_DIRTY ∈ ks) (h11 :
    Reg.MERGE_STATUS_LIMIT ∈ ks) (h12 : Reg.MERGE_STATUS_POINTS ∈ ks) (h13 : Reg.XLAT_COLD_COUNT_BLOCKS ∈ ks) (h14 :
    Reg.XLAT_HOT_COUNT_BLOCKS ∈ ks) (h15 : Reg.XLAT_LIFTED_PAGES ∈ ks) (h16 : Reg.XLAT_MOVES_ACTIVE ∈ ks) (h17 :
    Reg.XLAT_MOVES_QUEUED ∈ ks) (h18 : Reg.XLAT_PINNED_LINES ∈ ks) (h19 : Reg.XLAT_POOL_STATUS_FREE ∈ ks) : onlyRegs ks
    s (@State.eraseStep2 s) := by
  unfold State.eraseStep2
  repeat' (first
      | (with_reducible apply onlyRegs.rfl)
      | extract_lets
      | (with_reducible assumption)
      | (with_reducible exact List.mem_cons_self)
      | (with_reducible apply List.mem_cons_of_mem)
      | (with_reducible apply onlyRegs.keep (forgetReads_within _ _ _) (by decide))
      | (with_reducible apply onlyRegs.on (endPoint_regs _ _ _ _ ?_ ?_ ?_ ?_ ?_ ?_ ?_))
      | (with_reducible apply onlyRegs.on (poolCounts_regs _ ?_ ?_ ?_ ?_ ?_ ?_))
      | (with_reducible apply onlyRegs.on (sliceCount_regs _ ?_))
      | (with_reducible apply onlyRegs.on (mergeCounts_regs _ ?_ ?_ ?_ ?_ ?_))
      | (with_reducible apply onlyRegs.foldl; intro t x)
      | fail_if_no_progress with_reducible apply onlyRegs.upd)

theorem pick_c10000000000000000000010 (s t : State) : State.pick 0xc10000000000000000000010 s t = { s with
    free := t.free,
    prot := { s.prot with slots := t.prot.slots, slotBad := t.prot.slotBad, slotLost := t.prot.slotLost } } := rfl

theorem eraseSlot_within (s : State) (n : Nat) : Within 0xc10000000000000000000010 s
    (@State.eraseSlot s n) := by
  unfold State.eraseSlot
  repeat' (first
      | extract_lets
      | with_reducible apply Within.rfl
      | (with_reducible apply Within.on (m := 0xc10000000000000000000010) (tick_within _) (by decide))
      | fail_if_no_progress with_reducible apply Within.upd (by rw [pick_c10000000000000000000010]))

theorem pick_fb00003ffff0000000000012 (s t : State) : State.pick 0xfb00003ffff0000000000012 s t = { s with
    regs := t.regs, free := t.free, keep := t.keep,
    prot := { s.prot with
      slots := t.prot.slots, integState := t.prot.integState, roots := t.prot.roots,
      lineCounters := t.prot.lineCounters, dirtyNodes := t.prot.dirtyNodes, slotBad := t.prot.slotBad,
      slotLost := t.prot.slotLost } } := rfl

theorem eraseStep3_within (s : State) : Within 0xfb00003ffff0000000000012 s
    (@State.eraseStep3 s) := by
  unfold State.eraseStep3
  repeat' (first
      | extract_lets
      | with_reducible apply Within.rfl
      | (with_reducible apply Within.on (m := 0xfb00003ffff0000000000012) (eraseSlot_within _ _) (by decide))
      | (with_reducible apply Within.on (m := 0xfb00003ffff0000000000012) (nodeCounts_within _) (by decide))
      | (with_reducible apply Within.on (m := 0xfb00003ffff0000000000012) (flash_within _) (by decide))
      | (with_reducible apply Within.on (m := 0xfb00003ffff0000000000012) (keepGroup_within _ _ _) (by decide))
      | (with_reducible apply Within.foldl; intro t x)
      | fail_if_no_progress with_reducible apply Within.upd (by rw [pick_fb00003ffff0000000000012]))

theorem eraseStep3_regs (s : State) {ks : List Field} (h1 : Reg.PROT_INTEG_DIRTY_LINES ∈ ks) :
    onlyRegs ks s (@State.eraseStep3 s) := by
  unfold State.eraseStep3
  repeat' (first
      | (with_reducible apply onlyRegs.rfl)
      | extract_lets
      | (with_reducible assumption)
      | (with_reducible exact List.mem_cons_self)
      | (with_reducible apply List.mem_cons_of_mem)
      | (with_reducible apply onlyRegs.keep (eraseSlot_within _ _) (by decide))
      | (with_reducible apply onlyRegs.on (nodeCounts_regs _ ?_))
      | (with_reducible apply onlyRegs.keep (flash_within _) (by decide))
      | (with_reducible apply onlyRegs.keep (keepGroup_within _ _ _) (by decide))
      | (with_reducible apply onlyRegs.foldl; intro t x)
      | fail_if_no_progress with_reducible apply onlyRegs.upd)

theorem pick_80000000000000000000000000000000000000 (s t : State) : State.pick 0x80000000000000000000000000000000000000 s t = { s with
    internals := t.internals } := rfl

theorem setInternal_within (s : State) (f : Internal → Internal)
    : Within 0x80000000000000000000000000000000000000 s (@State.setInternal s f) := by
  unfold State.setInternal
  repeat' (first
      | with_reducible apply Within.rfl
      | fail_if_no_progress with_reducible apply Within.upd (by rw [pick_80000000000000000000000000000000000000])
      | with_reducible apply Within.of_fst (by assumption)
      | with_reducible apply Within.of_fst1 (by assumption)
      | split)

theorem pick_26100f93e000c00000000000800000000000000000000000002 (s t : State) : State.pick 0x26100f93e000c00000000000800000000000000000000000002 s t = { s with
    regs := t.regs, prot := { s.prot with eraseLeft := t.prot.eraseLeft }, ops := t.ops, deltas := t.deltas,
    xlat := { s.xlat with
      tracts := t.xlat.tracts, fluid := t.xlat.fluid, blocks := t.xlat.blocks, valid := t.xlat.valid,
      opens := t.xlat.opens, precondQ := t.xlat.precondQ, moves := t.xlat.moves, moveQ := t.xlat.moveQ,
      copies := t.xlat.copies, settles := t.xlat.settles, gather := t.xlat.gather },
    err := { s.err with
      poison := t.err.poison, refresh := t.err.refresh, rewrites := t.err.rewrites, wake := t.err.wake } } := rfl

theorem eraseStep4_within (s : State) : Within
    0x26100f93e000c00000000000800000000000000000000000002 s (@State.eraseStep4 s) := by
  unfold State.eraseStep4
  repeat' (first
      | extract_lets
      | with_reducible apply Within.rfl
      | (with_reducible apply Within.on (m := 0x26100f93e000c00000000000800000000000000000000000002) (retireOrQueue_within _ _) (by decide))
      | (with_reducible apply Within.on (m := 0x26100f93e000c00000000000800000000000000000000000002) (poolCounts_within _) (by decide))
      | (with_reducible apply Within.on (m := 0x26100f93e000c00000000000800000000000000000000000002) (setPoison_within _ _) (by decide))
      | (with_reducible apply Within.foldl; intro t x)
      | fail_if_no_progress with_reducible apply Within.upd (by rw [pick_26100f93e000c00000000000800000000000000000000000002]))

theorem eraseRecord_within (s : State) (what : Nat) : Within 0x3cc00000000000000002 s
    (@State.eraseRecord s what) := by
  unfold State.eraseRecord
  repeat' (first
      | with_reducible apply Within.rfl
      | (with_reducible apply Within.on (m := 0x3cc00000000000000002) (chronicle_within _ _ _ _ _) (by decide)))

theorem eraseRecord_regs (s : State) (what : Nat) {ks : List Field} (h1 : Reg.CHRON_DROP_CNT ∈ ks)
    (h2 : Reg.CHRON_REPEAT_CNT ∈ ks) : onlyRegs ks s (@State.eraseRecord s what) := by
  unfold State.eraseRecord
  repeat' (first
      | (with_reducible apply onlyRegs.rfl)
      | (with_reducible assumption)
      | (with_reducible exact List.mem_cons_self)
      | (with_reducible apply List.mem_cons_of_mem)
      | (with_reducible apply onlyRegs.on (chronicle_regs _ _ _ _ _ ?_ ?_)))

theorem pick_26100f93e000cf400460000180000003cc00000000000000022 (s t : State) : State.pick 0x26100f93e000cf400460000180000003cc00000000000000022 s t = { s with
    regs := t.regs, out := t.out,
    chron := { s.chron with
      perm := t.chron.perm, ring := t.chron.ring, buffer := t.chron.buffer, nextSerial := t.chron.nextSerial,
      runs := t.chron.runs, dropped := t.chron.dropped },
    prot := { s.prot with eraseLeft := t.prot.eraseLeft, erasePath := t.prot.erasePath },
    mbox := { s.mbox with stored := t.mbox.stored, bg := t.mbox.bg },
    cache := { s.cache with
      lines := t.cache.lines, host := t.cache.host, snoops := t.cache.snoops, clock := t.cache.clock,
      biCredits := t.cache.biCredits },
    internals := t.internals, ops := t.ops, deltas := t.deltas,
    xlat := { s.xlat with
      tracts := t.xlat.tracts, fluid := t.xlat.fluid, blocks := t.xlat.blocks, valid := t.xlat.valid,
      opens := t.xlat.opens, precondQ := t.xlat.precondQ, moves := t.xlat.moves, moveQ := t.xlat.moveQ,
      copies := t.xlat.copies, settles := t.xlat.settles, gather := t.xlat.gather },
    err := { s.err with
      poison := t.err.poison, refresh := t.err.refresh, rewrites := t.err.rewrites, wake := t.err.wake } } := rfl

theorem eraseBoundary_within (s : State) (i : Internal) : Within
    0x26100f93e000cf400460000180000003cc00000000000000022 s (@State.eraseBoundary s i) := by
  unfold State.eraseBoundary
  repeat' (first
      | extract_lets
      | with_reducible apply Within.ite <;> intro _
      | with_reducible apply Within.rfl
      | (with_reducible apply Within.on (m := 0x26100f93e000cf400460000180000003cc00000000000000022) (endInternal_within _) (by decide))
      | (with_reducible apply Within.on (m := 0x26100f93e000cf400460000180000003cc00000000000000022) (eraseStep4_within _) (by decide))
      | (with_reducible apply Within.on (m := 0x26100f93e000cf400460000180000003cc00000000000000022) (bgDone_within _ _ _ _ _ _) (by decide))
      | (with_reducible apply Within.on (m := 0x26100f93e000cf400460000180000003cc00000000000000022) (eraseRecord_within _ _) (by decide))
      | fail_if_no_progress with_reducible apply Within.upd (by rw [pick_26100f93e000cf400460000180000003cc00000000000000022])
      | with_reducible apply Within.of_fst (by assumption)
      | with_reducible apply Within.of_fst1 (by assumption)
      | split)

theorem pick_200000000000300e01e0080f53ec60f610000fb7fbcfffff0000000000032 (s t : State) : State.pick 0x200000000000300e01e0080f53ec60f610000fb7fbcfffff0000000000032 s t = { s with
    regs := t.regs, free := t.free, out := t.out, keep := t.keep,
    chron := { s.chron with
      perm := t.chron.perm, ring := t.chron.ring, buffer := t.chron.buffer, nextSerial := t.chron.nextSerial,
      runs := t.chron.runs, dropped := t.chron.dropped },
    events := t.events,
    prot := { s.prot with
      slots := t.prot.slots, integState := t.prot.integState, roots := t.prot.roots,
      lineCounters := t.prot.lineCounters, dirtyNodes := t.prot.dirtyNodes, slotBad := t.prot.slotBad,
      slotLost := t.prot.slotLost },
    reqs := t.reqs,
    merge := { s.merge with
      entries := t.merge.entries, cells := t.merge.cells, points := t.merge.points,
      lastPoint := t.merge.lastPoint, pointDone := t.merge.pointDone, pointPinned := t.merge.pointPinned },
    mbox := { s.mbox with stored := t.mbox.stored, bg := t.mbox.bg },
    cache := { s.cache with
      lines := t.cache.lines, fills := t.cache.fills, victims := t.cache.victims, purges := t.cache.purges,
      dirWay := t.cache.dirWay, dirPlru := t.cache.dirPlru, plru := t.cache.plru, rc := t.cache.rc,
      host := t.cache.host, snoops := t.cache.snoops, clock := t.cache.clock, biCredits := t.cache.biCredits },
    internals := t.internals, sched := { s.sched with jobs := t.sched.jobs },
    xlat := { s.xlat with
      tracts := t.xlat.tracts, fluid := t.xlat.fluid, blocks := t.xlat.blocks, valid := t.xlat.valid,
      copies := t.xlat.copies, settles := t.xlat.settles, gather := t.xlat.gather },
    err := { s.err with poison := t.err.poison, poisonLost := t.err.poisonLost },
    shelf := { s.shelf with pointReport := t.shelf.pointReport } } := rfl

theorem placeInternal_within (s : State) (i : Internal) : Within
    0x200000000000300e01e0080f53ec60f610000fb7fbcfffff0000000000032 s
    (@State.placeInternal s i) := by
  unfold State.placeInternal
  repeat' (first
      | extract_lets
      | with_reducible apply Within.rfl
      | (with_reducible apply Within.on (m := 0x200000000000300e01e0080f53ec60f610000fb7fbcfffff0000000000032) (internalReply_within _ _) (by decide))
      | (with_reducible apply Within.on (m := 0x200000000000300e01e0080f53ec60f610000fb7fbcfffff0000000000032) (endInternal_within _) (by decide))
      | (with_reducible apply Within.on (m := 0x200000000000300e01e0080f53ec60f610000fb7fbcfffff0000000000032) (poisonAdd_within _ _ _) (by decide))
      | (with_reducible apply Within.on (m := 0x200000000000300e01e0080f53ec60f610000fb7fbcfffff0000000000032) (internalMerge_within _ _) (by decide))
      | (with_reducible apply Within.on (m := 0x200000000000300e01e0080f53ec60f610000fb7fbcfffff0000000000032) (setInternal_within _ _) (by decide))
      | (with_reducible apply Within.on (m := 0x200000000000300e01e0080f53ec60f610000fb7fbcfffff0000000000032) (eraseStep3_within _) (by decide))
      | (with_reducible apply Within.on (m := 0x200000000000300e01e0080f53ec60f610000fb7fbcfffff0000000000032) (eraseStep2_within _) (by decide))
      | fail_if_no_progress with_reducible apply Within.upd (by rw [pick_200000000000300e01e0080f53ec60f610000fb7fbcfffff0000000000032])
      | with_reducible apply Within.of_fst (by assumption)
      | with_reducible apply Within.of_fst1 (by assumption)
      | split)

theorem placeInternal_regs (s : State) (i : Internal) {ks : List Field} (h1 :
    Reg.CHRON_DROP_CNT ∈ ks) (h2 : Reg.CHRON_REPEAT_CNT ∈ ks) (h3 : Reg.DIR_BCAST_CNT ∈ ks) (h4 : Reg.DIR_BISNP_CNT ∈
    ks) (h5 : Reg.DIR_EVBUF_USED ∈ ks) (h6 : Reg.DIR_HOST_OVF_ENTRIES ∈ ks) (h7 : Reg.DIR_HOST_STATUS_ENTRIES ∈ ks)
    (h8 : Reg.DIR_SLICE_STATUS_ENTRIES ∈ ks) (h9 : Reg.ERR_DIRTY_LOST_CNT ∈ ks) (h10 : Reg.ERR_HEALTH_EVENT_DIRTY_LOST
    ∈ ks) (h11 : Reg.ERR_HEALTH_EVENT_POISON_FULL ∈ ks) (h12 : Reg.ERR_POISON_LIST_OVERFLOW ∈ ks) (h13 :
    Reg.ERR_POISON_LIST_RECORDS ∈ ks) (h14 : Reg.MERGE_LOST_CNT ∈ ks) (h15 : Reg.MERGE_MERGE_CNT ∈ ks) (h16 :
    Reg.MERGE_PARTIAL_LINES ∈ ks) (h17 : Reg.MERGE_POINT_LO_STROKE_LO ∈ ks) (h18 : Reg.MERGE_SETTLE_REFETCH_CNT ∈ ks)
    (h19 : Reg.MERGE_SETTLING_LINES ∈ ks) (h20 : Reg.MERGE_STATUS_DIRTY ∈ ks) (h21 : Reg.MERGE_STATUS_LIMIT ∈ ks) (h22
    : Reg.MERGE_STATUS_POINTS ∈ ks) (h23 : Reg.PROT_INTEG_DIRTY_LINES ∈ ks) (h24 : Reg.XLAT_COLD_COUNT_BLOCKS ∈ ks)
    (h25 : Reg.XLAT_HOT_COUNT_BLOCKS ∈ ks) (h26 : Reg.XLAT_LIFTED_PAGES ∈ ks) (h27 : Reg.XLAT_MOVES_ACTIVE ∈ ks) (h28
    : Reg.XLAT_MOVES_QUEUED ∈ ks) (h29 : Reg.XLAT_PINNED_LINES ∈ ks) (h30 : Reg.XLAT_POOL_STATUS_FREE ∈ ks) : onlyRegs
    ks s (@State.placeInternal s i) := by
  unfold State.placeInternal
  repeat' (first
      | (with_reducible apply onlyRegs.rfl)
      | extract_lets
      | (with_reducible assumption)
      | (with_reducible exact List.mem_cons_self)
      | (with_reducible apply List.mem_cons_of_mem)
      | (with_reducible apply onlyRegs.keep (internalReply_within _ _) (by decide))
      | (with_reducible apply onlyRegs.on (endInternal_regs _ ?_ ?_ ?_ ?_ ?_ ?_))
      | (with_reducible apply onlyRegs.on (poisonAdd_regs _ _ _ ?_ ?_ ?_))
      | (with_reducible apply onlyRegs.on (internalMerge_regs _ _ ?_ ?_ ?_ ?_ ?_ ?_ ?_ ?_ ?_ ?_))
      | (with_reducible apply onlyRegs.keep (setInternal_within _ _) (by decide))
      | (with_reducible apply onlyRegs.on (eraseStep3_regs _ ?_))
      | (with_reducible apply onlyRegs.on (eraseStep2_regs _ ?_ ?_ ?_ ?_ ?_ ?_ ?_ ?_ ?_ ?_ ?_ ?_ ?_ ?_ ?_ ?_ ?_ ?_ ?_))
      | fail_if_no_progress with_reducible apply onlyRegs.upd
      | with_reducible apply onlyRegs.of_fst (by assumption)
      | with_reducible apply onlyRegs.of_fst1 (by assumption)
      | split)

theorem pick_781e008000000000210000000000000000000000000002 (s t : State) : State.pick 0x781e008000000000210000000000000000000000000002 s t = { s with
    regs := t.regs, reqs := t.reqs, merge := { s.merge with entries := t.merge.entries },
    sched := { s.sched with jobs := t.sched.jobs },
    xlat := { s.xlat with
      tracts := t.xlat.tracts, fluid := t.xlat.fluid, blocks := t.xlat.blocks, valid := t.xlat.valid,
      moves := t.xlat.moves, moveQ := t.xlat.moveQ, copies := t.xlat.copies, settles := t.xlat.settles } } := rfl

theorem emptyTract_within (s : State) (t0 : Nat) : Within
    0x781e008000000000210000000000000000000000000002 s (@State.emptyTract s t0) := by
  unfold State.emptyTract
  repeat' (first
      | extract_lets
      | with_reducible apply Within.rfl
      | (with_reducible apply Within.on (m := 0x781e008000000000210000000000000000000000000002) (forgetReads_within _ _ _) (by decide))
      | (with_reducible apply Within.on (m := 0x781e008000000000210000000000000000000000000002) (mergeCounts_within _) (by decide))
      | (with_reducible apply Within.on (m := 0x781e008000000000210000000000000000000000000002) (dropFluid_within _ _) (by decide))
      | (with_reducible apply Within.foldl; intro t x)
      | fail_if_no_progress with_reducible apply Within.upd (by rw [pick_781e008000000000210000000000000000000000000002]))

theorem pick_791e008000000000210000000000000000000000000002 (s t : State) : State.pick 0x791e008000000000210000000000000000000000000002 s t = { s with
    regs := t.regs, reqs := t.reqs, merge := { s.merge with entries := t.merge.entries },
    sched := { s.sched with jobs := t.sched.jobs },
    xlat := { s.xlat with
      tracts := t.xlat.tracts, fluid := t.xlat.fluid, blocks := t.xlat.blocks, valid := t.xlat.valid,
      precondQ := t.xlat.precondQ, moves := t.xlat.moves, moveQ := t.xlat.moveQ, copies := t.xlat.copies,
      settles := t.xlat.settles } } := rfl

theorem releaseTract_within (s : State) (t0 : Nat) : Within
    0x791e008000000000210000000000000000000000000002 s (@State.releaseTract s t0) := by
  unfold State.releaseTract
  repeat' (first
      | extract_lets
      | with_reducible apply Within.ite <;> intro _
      | with_reducible apply Within.rfl
      | (with_reducible apply Within.on (m := 0x791e008000000000210000000000000000000000000002) (emptyTract_within _ _) (by decide))
      | (with_reducible apply Within.on (m := 0x791e008000000000210000000000000000000000000002) (setTract_within _ _ _) (by decide))
      | (with_reducible apply Within.on (m := 0x791e008000000000210000000000000000000000000002) (retireOrQueue_within _ _) (by decide))
      | (with_reducible apply Within.on (m := 0x791e008000000000210000000000000000000000000002) (poolCounts_within _) (by decide)))

theorem zeroPage_within (s : State) (lpn : Nat) : Within
    0x3000002008000008000210000000000060000000000000002 s (@State.zeroPage s lpn) := by
  unfold State.zeroPage
  repeat' (first
      | with_reducible apply Within.rfl
      | (with_reducible apply Within.on (m := 0x3000002008000008000210000000000060000000000000002) (internalMerge_within _ _) (by decide))
      | (with_reducible apply Within.foldl; intro t x))

theorem discardInside_within (s : State) (i : Internal) : Within
    0x8000000000210000000000000000000000000002 s (@State.discardInside s i) := by
  unfold State.discardInside
  repeat' (first
      | extract_lets
      | with_reducible apply Within.rfl
      | (with_reducible apply Within.on (m := 0x8000000000210000000000000000000000000002) (forgetReads_within _ _ _) (by decide))
      | (with_reducible apply Within.on (m := 0x8000000000210000000000000000000000000002) (mergeCounts_within _) (by decide))
      | fail_if_no_progress with_reducible apply Within.upd (by rw [pick_8000000000210000000000000000000000000002]))

theorem pick_300791e008080008000210000000000060000000000000002 (s t : State) : State.pick 0x300791e008080008000210000000000060000000000000002 s t = { s with
    regs := t.regs, keep := { s.keep with bytes := t.keep.bytes, byteLines := t.keep.byteLines }, reqs := t.reqs,
    merge := { s.merge with entries := t.merge.entries }, cache := { s.cache with fills := t.cache.fills },
    internals := t.internals, sched := { s.sched with jobs := t.sched.jobs },
    xlat := { s.xlat with
      tracts := t.xlat.tracts, fluid := t.xlat.fluid, blocks := t.xlat.blocks, valid := t.xlat.valid,
      precondQ := t.xlat.precondQ, moves := t.xlat.moves, moveQ := t.xlat.moveQ, copies := t.xlat.copies,
      settles := t.xlat.settles },
    err := { s.err with poison := t.err.poison, poisonLost := t.err.poisonLost } } := rfl

theorem releaseBoundary_within (s : State) (i : Internal) : Within
    0x300791e008080008000210000000000060000000000000002 s (@State.releaseBoundary s i) := by
  unfold State.releaseBoundary
  repeat' (first
      | with_reducible apply Within.rfl
      | (with_reducible apply Within.on (m := 0x300791e008080008000210000000000060000000000000002) (releaseTract_within _ _) (by decide))
      | (with_reducible apply Within.on (m := 0x300791e008080008000210000000000060000000000000002) (setInternal_within _ _) (by decide))
      | (with_reducible apply Within.on (m := 0x300791e008080008000210000000000060000000000000002) (zeroPage_within _ _) (by decide))
      | (with_reducible apply Within.on (m := 0x300791e008080008000210000000000060000000000000002) (discardInside_within _ _) (by decide))
      | fail_if_no_progress with_reducible apply Within.upd (by rw [pick_300791e008080008000210000000000060000000000000002])
      | with_reducible apply Within.of_fst (by assumption)
      | with_reducible apply Within.of_fst1 (by assumption)
      | split)

theorem pick_26300f93e008cf400c60021180000003cc60000000000000022 (s t : State) : State.pick 0x26300f93e008cf400c60021180000003cc60000000000000022 s t = { s with
    regs := t.regs, out := t.out, keep := { s.keep with bytes := t.keep.bytes, byteLines := t.keep.byteLines },
    chron := { s.chron with
      perm := t.chron.perm, ring := t.chron.ring, buffer := t.chron.buffer, nextSerial := t.chron.nextSerial,
      runs := t.chron.runs, dropped := t.chron.dropped },
    prot := { s.prot with eraseLeft := t.prot.eraseLeft, erasePath := t.prot.erasePath }, reqs := t.reqs,
    merge := { s.merge with entries := t.merge.entries },
    mbox := { s.mbox with stored := t.mbox.stored, bg := t.mbox.bg },
    cache := { s.cache with
      lines := t.cache.lines, fills := t.cache.fills, host := t.cache.host, snoops := t.cache.snoops,
      clock := t.cache.clock, biCredits := t.cache.biCredits },
    internals := t.internals, ops := t.ops, deltas := t.deltas, sched := { s.sched with jobs := t.sched.jobs },
    xlat := { s.xlat with
      tracts := t.xlat.tracts, fluid := t.xlat.fluid, blocks := t.xlat.blocks, valid := t.xlat.valid,
      opens := t.xlat.opens, precondQ := t.xlat.precondQ, moves := t.xlat.moves, moveQ := t.xlat.moveQ,
      copies := t.xlat.copies, settles := t.xlat.settles, gather := t.xlat.gather },
    err := { s.err with
      poison := t.err.poison, poisonLost := t.err.poisonLost, refresh := t.err.refresh,
      rewrites := t.err.rewrites, wake := t.err.wake } } := rfl

theorem internalBoundary_within (s : State) : Within
    0x26300f93e008cf400c60021180000003cc60000000000000022 s (@State.internalBoundary s) :=
    by
  unfold State.internalBoundary
  repeat' (first
      | with_reducible apply Within.ite <;> intro _
      | with_reducible apply Within.rfl
      | (with_reducible apply Within.on (m := 0x26300f93e008cf400c60021180000003cc60000000000000022) (releaseBoundary_within _ _) (by decide))
      | (with_reducible apply Within.on (m := 0x26300f93e008cf400c60021180000003cc60000000000000022) (eraseBoundary_within _ _) (by decide))
      | with_reducible apply Within.of_fst (by assumption)
      | with_reducible apply Within.of_fst1 (by assumption)
      | split)

theorem pick_f4004200000000000000000000000000000022 (s t : State) : State.pick 0xf4004200000000000000000000000000000022 s t = { s with
    regs := t.regs, out := t.out, mbox := { s.mbox with stored := t.mbox.stored },
    cache := { s.cache with
      lines := t.cache.lines, host := t.cache.host, snoops := t.cache.snoops, clock := t.cache.clock,
      biCredits := t.cache.biCredits },
    internals := t.internals } := rfl

theorem lineCommand_within (s : State) (p : Sys2Proof.CmdPath) (dpa : Nat) (kind :
    InternalKind) (data : Sys2Proof.LineData) : Within
    0xf4004200000000000000000000000000000022 s (@State.lineCommand s p dpa kind data) := by
  unfold State.lineCommand
  repeat' (first
      | with_reducible apply Within.ite <;> intro _
      | with_reducible apply Within.rfl
      | (with_reducible apply Within.on (m := 0xf4004200000000000000000000000000000022) (reply_within _ _ _ _ _) (by decide))
      | (with_reducible apply Within.on (m := 0xf4004200000000000000000000000000000022) (queueInternal_within _ _) (by decide))
      | with_reducible apply Within.of_fst (by assumption)
      | with_reducible apply Within.of_fst1 (by assumption)
      | split)

theorem lineCommand_regs (s : State) (p : Sys2Proof.CmdPath) (dpa : Nat) (kind :
    InternalKind) (data : Sys2Proof.LineData) {ks : List Field} (h1 : Reg.DIR_BCAST_CNT ∈ ks) (h2 :
    Reg.DIR_BISNP_CNT ∈ ks) (h3 : Reg.DIR_EVBUF_USED ∈ ks) (h4 : Reg.DIR_HOST_OVF_ENTRIES ∈ ks) (h5 :
    Reg.DIR_HOST_STATUS_ENTRIES ∈ ks) (h6 : Reg.DIR_SLICE_STATUS_ENTRIES ∈ ks) : onlyRegs ks s
    (@State.lineCommand s p dpa kind data) := by
  unfold State.lineCommand
  repeat' (first
      | (with_reducible apply onlyRegs.rfl)
      | (with_reducible assumption)
      | (with_reducible exact List.mem_cons_self)
      | (with_reducible apply List.mem_cons_of_mem)
      | (with_reducible apply onlyRegs.ite <;> intro _)
      | (with_reducible apply onlyRegs.keep (reply_within _ _ _ _ _) (by decide))
      | (with_reducible apply onlyRegs.on (queueInternal_regs _ _ ?_ ?_ ?_ ?_ ?_ ?_))
      | with_reducible apply onlyRegs.of_fst (by assumption)
      | with_reducible apply onlyRegs.of_fst1 (by assumption)
      | split)

theorem pick_f4004600000040000000000000000000000022 (s t : State) : State.pick 0xf4004600000040000000000000000000000022 s t = { s with
    regs := t.regs, out := t.out, prot := { s.prot with eraseAuth := t.prot.eraseAuth },
    mbox := { s.mbox with stored := t.mbox.stored, bg := t.mbox.bg },
    cache := { s.cache with
      lines := t.cache.lines, host := t.cache.host, snoops := t.cache.snoops, clock := t.cache.clock,
      biCredits := t.cache.biCredits },
    internals := t.internals } := rfl

theorem startErase_within (s : State) (p : Sys2Proof.CmdPath) (kind : InternalKind)
    (bg : Background) (what : Nat) : Within 0xf4004600000040000000000000000000000022 s
    (@State.startErase s p kind bg what) := by
  unfold State.startErase
  repeat' (first
      | extract_lets
      | with_reducible apply Within.ite <;> intro _
      | with_reducible apply Within.rfl
      | (with_reducible apply Within.on (m := 0xf4004600000040000000000000000000000022) (reply_within _ _ _ _ _) (by decide))
      | (with_reducible apply Within.on (m := 0xf4004600000040000000000000000000000022) (queueInternal_within _ _) (by decide))
      | (with_reducible apply Within.on (m := 0xf4004600000040000000000000000000000022) (bgStart_within _ _ _) (by decide))
      | fail_if_no_progress with_reducible apply Within.upd (by rw [pick_f4004600000040000000000000000000000022]))

theorem startErase_regs (s : State) (p : Sys2Proof.CmdPath) (kind : InternalKind)
    (bg : Background) (what : Nat) {ks : List Field} (h1 : Reg.DIR_BCAST_CNT ∈ ks) (h2 :
    Reg.DIR_BISNP_CNT ∈ ks) (h3 : Reg.DIR_EVBUF_USED ∈ ks) (h4 : Reg.DIR_HOST_OVF_ENTRIES ∈ ks) (h5 :
    Reg.DIR_HOST_STATUS_ENTRIES ∈ ks) (h6 : Reg.DIR_SLICE_STATUS_ENTRIES ∈ ks) : onlyRegs ks s
    (@State.startErase s p kind bg what) := by
  unfold State.startErase
  repeat' (first
      | (with_reducible apply onlyRegs.rfl)
      | extract_lets
      | (with_reducible assumption)
      | (with_reducible exact List.mem_cons_self)
      | (with_reducible apply List.mem_cons_of_mem)
      | (with_reducible apply onlyRegs.ite <;> intro _)
      | (with_reducible apply onlyRegs.keep (reply_within _ _ _ _ _) (by decide))
      | (with_reducible apply onlyRegs.on (queueInternal_regs _ _ ?_ ?_ ?_ ?_ ?_ ?_))
      | (with_reducible apply onlyRegs.keep (bgStart_within _ _ _) (by decide))
      | fail_if_no_progress with_reducible apply onlyRegs.upd)

theorem pick_10000000c10000000000000 (s t : State) : State.pick 0x10000000c10000000000000 s t = { s with
    keep := { s.keep with shadow := t.keep.shadow, queue := t.keep.queue, lost := t.keep.lost },
    prot := { s.prot with slots := t.prot.slots } } := rfl

theorem unmark_within (s : State) : Within 0x10000000c10000000000000 s
    (@State.unmark s) := by
  unfold State.unmark
  repeat' (first
      | extract_lets
      | with_reducible apply Within.rfl
      | (with_reducible apply Within.on (m := 0x10000000c10000000000000) (keepWrite_within _ _ _ _) (by decide))
      | (with_reducible apply Within.foldl; intro t x)
      | fail_if_no_progress with_reducible apply Within.upd (by rw [pick_10000000c10000000000000]))

end Sys2Proof.Machine
end

