-- ==== Sys2Proof/Laws/RebuildFrames.lean ====
section
/-! SUPPORT. For each function of Machine/Rebuild.lean over the state: the part of the state outside which it changes
nothing (`…_within`), and the register fields that it may write (`…_regs`). -/

namespace Sys2Proof.Machine

set_option maxRecDepth 4000

theorem claim_within (s : State) (t0 : Nat) (c : Cand) : Within
    0x8000000000000000000000000000000000000000000 s (@State.claim s t0 c) := by
  unfold State.claim
  repeat' (first
      | with_reducible apply Within.rfl
      | (with_reducible apply Within.on (m := 0x8000000000000000000000000000000000000000000) (setBlock_within _ _ _) (by decide)))

theorem passOver_within (s : State) (t0 : Nat) (h : Home) (l : List
    Cand) : Within 0x3cc00000000000000002 s (@State.passOver s t0 h l) := by
  unfold State.passOver
  repeat' (first
      | with_reducible apply Within.ite <;> intro _
      | with_reducible apply Within.rfl
      | (with_reducible apply Within.on (m := 0x3cc00000000000000002) (chronicle_within _ _ _ _ _) (by decide))
      | (with_reducible apply Within.foldl; intro t x))

theorem passOver_regs (s : State) (t0 : Nat) (h : Home) (l : List
    Cand) {ks : List Field} (h1 : Reg.CHRON_DROP_CNT ∈ ks) (h2 : Reg.CHRON_REPEAT_CNT ∈ ks) : onlyRegs
    ks s (@State.passOver s t0 h l) := by
  unfold State.passOver
  repeat' (first
      | (with_reducible apply onlyRegs.rfl)
      | (with_reducible assumption)
      | (with_reducible exact List.mem_cons_self)
      | (with_reducible apply List.mem_cons_of_mem)
      | (with_reducible apply onlyRegs.ite <;> intro _)
      | (with_reducible apply onlyRegs.on (chronicle_regs _ _ _ _ _ ?_ ?_))
      | (with_reducible apply onlyRegs.foldl; intro t x))

theorem pick_a00000000000000000000003cc00000000000000002 (s t : State) : State.pick 0xa00000000000000000000003cc00000000000000002 s t = { s with
    regs := t.regs,
    chron := { s.chron with
      perm := t.chron.perm, ring := t.chron.ring, buffer := t.chron.buffer, nextSerial := t.chron.nextSerial,
      runs := t.chron.runs, dropped := t.chron.dropped },
    xlat := { s.xlat with tracts := t.xlat.tracts, blocks := t.xlat.blocks } } := rfl

theorem homeTract_within (s : State) (l : List TractCand) (t0 : Nat) : Within
    0xa00000000000000000000003cc00000000000000002 s (@State.homeTract s l t0) := by
  unfold State.homeTract
  repeat' (first
      | extract_lets
      | with_reducible apply Within.rfl
      | (with_reducible apply Within.on (m := 0xa00000000000000000000003cc00000000000000002) (claim_within _ _ _) (by decide))
      | (with_reducible apply Within.on (m := 0xa00000000000000000000003cc00000000000000002) (passOver_within _ _ _ _) (by decide))
      | (with_reducible apply Within.on (m := 0xa00000000000000000000003cc00000000000000002) (setTract_within _ _ _) (by decide))
      | with_reducible apply Within.of_fst (by assumption)
      | with_reducible apply Within.of_fst1 (by assumption)
      | split
      | dsimp +zetaDelta only)

theorem homeTract_regs (s : State) (l : List TractCand) (t0 : Nat) {ks : List
    Field} (h1 : Reg.CHRON_DROP_CNT ∈ ks) (h2 : Reg.CHRON_REPEAT_CNT ∈ ks) : onlyRegs ks s
    (@State.homeTract s l t0) := by
  unfold State.homeTract
  repeat' (first
      | (with_reducible apply onlyRegs.rfl)
      | extract_lets
      | (with_reducible assumption)
      | (with_reducible exact List.mem_cons_self)
      | (with_reducible apply List.mem_cons_of_mem)
      | (with_reducible apply onlyRegs.keep (claim_within _ _ _) (by decide))
      | (with_reducible apply onlyRegs.on (passOver_regs _ _ _ _ ?_ ?_))
      | (with_reducible apply onlyRegs.keep (setTract_within _ _ _) (by decide))
      | with_reducible apply onlyRegs.of_fst (by assumption)
      | with_reducible apply onlyRegs.of_fst1 (by assumption)
      | split
      | dsimp +zetaDelta only)

theorem equalSeq_within (s : State) (lpn : Nat) : Within 0x3cc00000000000000002 s
    (@State.equalSeq s lpn) := by
  unfold State.equalSeq
  repeat' (first
      | with_reducible apply Within.rfl
      | (with_reducible apply Within.on (m := 0x3cc00000000000000002) (chronicle_within _ _ _ _ _) (by decide))
      | (with_reducible apply Within.on (m := 0x3cc00000000000000002) (bump_within _ _ _ _ _) (by decide)))

theorem equalSeq_regs (s : State) (lpn : Nat) {ks : List Field} (h1 : Reg.CHRON_DROP_CNT ∈ ks) (h2
    : Reg.CHRON_REPEAT_CNT ∈ ks) (h3 : Reg.XLAT_EQ_SEQ_CNT ∈ ks) : onlyRegs ks s (@State.equalSeq s
    lpn) := by
  unfold State.equalSeq
  repeat' (first
      | (with_reducible apply onlyRegs.rfl)
      | (with_reducible assumption)
      | (with_reducible exact List.mem_cons_self)
      | (with_reducible apply List.mem_cons_of_mem)
      | (with_reducible apply onlyRegs.on (chronicle_regs _ _ _ _ _ ?_ ?_))
      | (with_reducible apply onlyRegs.on (bump_regs _ _ _ _ _ ?_)))

theorem takeCand_within (a : State × Tab PoolCand) (lpn : Nat) (c : PoolCand) : Within 0x3cc00000000000000002 a.1
    (@State.takeCand a lpn c).1 := by
  unfold State.takeCand
  repeat' (first
      | with_reducible apply Within.ite1 <;> intro _
      | with_reducible apply Within.rfl
      | (with_reducible apply Within.on (m := 0x3cc00000000000000002) (equalSeq_within _ _) (by decide))
      | with_reducible apply Within.of_fst (by assumption)
      | with_reducible apply Within.of_fst1 (by assumption)
      | split)

theorem takeCand_regs (a : State × Tab PoolCand) (lpn : Nat) (c : PoolCand) {ks : List Field} (h1 :
    Reg.CHRON_DROP_CNT ∈ ks) (h2 : Reg.CHRON_REPEAT_CNT ∈ ks) (h3 : Reg.XLAT_EQ_SEQ_CNT ∈ ks) : onlyRegs ks a.1
    (@State.takeCand a lpn c).1 := by
  unfold State.takeCand
  repeat' (first
      | (with_reducible apply onlyRegs.rfl)
      | (with_reducible assumption)
      | (with_reducible exact List.mem_cons_self)
      | (with_reducible apply List.mem_cons_of_mem)
      | (with_reducible apply onlyRegs.ite1 <;> intro _)
      | (with_reducible apply onlyRegs.on (equalSeq_regs _ _ ?_ ?_ ?_))
      | with_reducible apply onlyRegs.of_fst (by assumption)
      | with_reducible apply onlyRegs.of_fst1 (by assumption)
      | split)

theorem workspace_within (s : State) : Within 0x3cc00000000000000002 s
    (@State.workspace s).1 := by
  unfold State.workspace
  repeat' (first
      | with_reducible apply Within.ite1 <;> intro _
      | with_reducible apply Within.rfl
      | (with_reducible apply Within.on (m := 0x3cc00000000000000002) (takeCand_within _ _ _) (by decide))
      | (with_reducible apply Within.foldl1; intro t x)
      | with_reducible apply Within.of_fst (by assumption)
      | with_reducible apply Within.of_fst1 (by assumption)
      | split)

theorem workspace_regs (s : State) {ks : List Field} (h1 : Reg.CHRON_DROP_CNT ∈ ks) (h2 :
    Reg.CHRON_REPEAT_CNT ∈ ks) (h3 : Reg.XLAT_EQ_SEQ_CNT ∈ ks) : onlyRegs ks s (@State.workspace s).1
    := by
  unfold State.workspace
  repeat' (first
      | (with_reducible apply onlyRegs.rfl)
      | (with_reducible assumption)
      | (with_reducible exact List.mem_cons_self)
      | (with_reducible apply List.mem_cons_of_mem)
      | (with_reducible apply onlyRegs.ite1 <;> intro _)
      | (with_reducible apply onlyRegs.on (takeCand_regs _ _ _ ?_ ?_ ?_))
      | with_reducible apply onlyRegs.of_fst (by assumption)
      | (with_reducible apply onlyRegs.foldlP (π := Prod.fst); intro t x)
      | with_reducible apply onlyRegs.of_fst1 (by assumption)
      | split)

theorem pick_1e00000000000020000000003cc00000000000000002 (s t : State) : State.pick 0x1e00000000000020000000003cc00000000000000002 s t = { s with
    regs := t.regs,
    chron := { s.chron with
      perm := t.chron.perm, ring := t.chron.ring, buffer := t.chron.buffer, nextSerial := t.chron.nextSerial,
      runs := t.chron.runs, dropped := t.chron.dropped },
    merge := { s.merge with entries := t.merge.entries },
    xlat := { s.xlat with
      tracts := t.xlat.tracts, fluid := t.xlat.fluid, blocks := t.xlat.blocks, valid := t.xlat.valid } } := rfl

theorem placeCand_within (s : State) (lpn : Nat) (c : PoolCand) (home : Option Nat)
    : Within 0x1e00000000000020000000003cc00000000000000002 s (@State.placeCand s lpn c home)
    := by
  unfold State.placeCand
  repeat' (first
      | with_reducible apply Within.ite <;> intro _
      | with_reducible apply Within.rfl
      | (with_reducible apply Within.on (m := 0x1e00000000000020000000003cc00000000000000002) (setFluid_within _ _ _ _) (by decide))
      | (with_reducible apply Within.on (m := 0x1e00000000000020000000003cc00000000000000002) (equalSeq_within _ _) (by decide))
      | with_reducible apply Within.of_fst (by assumption)
      | with_reducible apply Within.of_fst1 (by assumption)
      | split)

theorem placeCand_regs (s : State) (lpn : Nat) (c : PoolCand) (home : Option Nat)
    {ks : List Field} (h1 : Reg.CHRON_DROP_CNT ∈ ks) (h2 : Reg.CHRON_REPEAT_CNT ∈ ks) (h3 : Reg.XLAT_COLD_COUNT_BLOCKS
    ∈ ks) (h4 : Reg.XLAT_EQ_SEQ_CNT ∈ ks) (h5 : Reg.XLAT_HOT_COUNT_BLOCKS ∈ ks) (h6 : Reg.XLAT_LIFTED_PAGES ∈ ks) (h7
    : Reg.XLAT_MOVES_ACTIVE ∈ ks) (h8 : Reg.XLAT_MOVES_QUEUED ∈ ks) (h9 : Reg.XLAT_POOL_STATUS_FREE ∈ ks) : onlyRegs ks
    s (@State.placeCand s lpn c home) := by
  unfold State.placeCand
  repeat' (first
      | (with_reducible apply onlyRegs.rfl)
      | (with_reducible assumption)
      | (with_reducible exact List.mem_cons_self)
      | (with_reducible apply List.mem_cons_of_mem)
      | (with_reducible apply onlyRegs.ite <;> intro _)
      | (with_reducible apply onlyRegs.on (setFluid_regs _ _ _ _ ?_ ?_ ?_ ?_ ?_ ?_))
      | (with_reducible apply onlyRegs.on (equalSeq_regs _ _ ?_ ?_ ?_))
      | with_reducible apply onlyRegs.of_fst (by assumption)
      | with_reducible apply onlyRegs.of_fst1 (by assumption)
      | split)

theorem placeCands_within (s : State) (w : Tab PoolCand) : Within
    0x1e00000000000020000000003cc00000000000000002 s (@State.placeCands s w) := by
  unfold State.placeCands
  repeat' (first
      | extract_lets
      | with_reducible apply Within.rfl
      | (with_reducible apply Within.on (m := 0x1e00000000000020000000003cc00000000000000002) (placeCand_within _ _ _ _) (by decide))
      | (with_reducible apply Within.foldl; intro t x))

theorem placeCands_regs (s : State) (w : Tab PoolCand) {ks :
    List Field} (h1 : Reg.CHRON_DROP_CNT ∈ ks) (h2 : Reg.CHRON_REPEAT_CNT ∈ ks) (h3 : Reg.XLAT_COLD_COUNT_BLOCKS ∈ ks)
    (h4 : Reg.XLAT_EQ_SEQ_CNT ∈ ks) (h5 : Reg.XLAT_HOT_COUNT_BLOCKS ∈ ks) (h6 : Reg.XLAT_LIFTED_PAGES ∈ ks) (h7 :
    Reg.XLAT_MOVES_ACTIVE ∈ ks) (h8 : Reg.XLAT_MOVES_QUEUED ∈ ks) (h9 : Reg.XLAT_POOL_STATUS_FREE ∈ ks) : onlyRegs ks s
    (@State.placeCands s w) := by
  unfold State.placeCands
  repeat' (first
      | (with_reducible apply onlyRegs.rfl)
      | extract_lets
      | (with_reducible assumption)
      | (with_reducible exact List.mem_cons_self)
      | (with_reducible apply List.mem_cons_of_mem)
      | (with_reducible apply onlyRegs.on (placeCand_regs _ _ _ _ ?_ ?_ ?_ ?_ ?_ ?_ ?_ ?_ ?_))
      | (with_reducible apply onlyRegs.foldl; intro t x))

theorem blockFromTags_within (s : State) (b : Nat) : Within
    0x8000000000000000000000000000000000000000000 s (@State.blockFromTags s b) := by
  unfold State.blockFromTags
  repeat' (first
      | extract_lets
      | with_reducible apply Within.rfl
      | (with_reducible apply Within.on (m := 0x8000000000000000000000000000000000000000000) (setBlock_within _ _ _) (by decide)))

theorem unclaimed_within (s : State) (b : Nat) : Within
    0x108000000000000000000000000000000000000000000 s (@State.unclaimed s b) := by
  unfold State.unclaimed
  repeat' (first
      | extract_lets
      | with_reducible apply Within.ite <;> intro _
      | with_reducible apply Within.rfl
      | (with_reducible apply Within.on (m := 0x108000000000000000000000000000000000000000000) (retireOrQueue_within _ _) (by decide)))

theorem pick_600000000000000000000000000000000000000000000 (s t : State) : State.pick 0x600000000000000000000000000000000000000000000 s t = { s with
    xlat := { s.xlat with seq := t.xlat.seq, sbe := t.xlat.sbe } } := rfl

theorem countersFrom_within (s : State) (g : List Tag) : Within
    0x600000000000000000000000000000000000000000000 s (@State.countersFrom s g) := by
  unfold State.countersFrom
  repeat' (first
      | extract_lets
      | with_reducible apply Within.rfl
      | fail_if_no_progress with_reducible apply Within.upd (by rw [pick_600000000000000000000000000000000000000000000]))

theorem pick_40000000000000000000000000000000000000000000000000000000000000 (s t : State) : State.pick 0x40000000000000000000000000000000000000000000000000000000000000 s t = { s with
    shelf := { s.shelf with stepDue := t.shelf.stepDue } } := rfl

theorem timeFrom_within (s : State) (g : List Tag) : Within
    0x40000000000000000000000000000000000000000000000000000000000000 s (@State.timeFrom s
    g) := by
  unfold State.timeFrom
  repeat' (first
      | extract_lets
      | with_reducible apply Within.ite <;> intro _
      | with_reducible apply Within.rfl
      | fail_if_no_progress with_reducible apply Within.upd (by rw [pick_40000000000000000000000000000000000000000000000000000000000000]))

theorem pick_800000000000000000000000000000000000000000002 (s t : State) : State.pick 0x800000000000000000000000000000000000000000002 s t = { s with
    regs := t.regs, xlat := { s.xlat with moves := t.xlat.moves } } := rfl

theorem foundMoves_within (s : State) : Within 0x800000000000000000000000000000000000000000002
    s (@State.foundMoves s) := by
  unfold State.foundMoves
  repeat' (first
      | extract_lets
      | with_reducible apply Within.rfl
      | (with_reducible apply Within.on (m := 0x800000000000000000000000000000000000000000002) (setBit_within _ _ _ _ _) (by decide))
      | fail_if_no_progress with_reducible apply Within.upd (by rw [pick_800000000000000000000000000000000000000000002]))

theorem foundMoves_regs (s : State) {ks : List Field} (h1 : Reg.XLAT_REBUILD_RESUMED ∈ ks) : onlyRegs
    ks s (@State.foundMoves s) := by
  unfold State.foundMoves
  repeat' (first
      | (with_reducible apply onlyRegs.rfl)
      | extract_lets
      | (with_reducible assumption)
      | (with_reducible exact List.mem_cons_self)
      | (with_reducible apply List.mem_cons_of_mem)
      | (with_reducible apply onlyRegs.on (setBit_regs _ _ _ _ _ ?_))
      | fail_if_no_progress with_reducible apply onlyRegs.upd)

theorem resumeMove_within (s : State) (m : Move) : Within
    0x800000000000000003001b0a000200000000200000300000000000000000000002 s
    (@State.resumeMove s m) := by
  unfold State.resumeMove
  repeat' (first
      | extract_lets
      | with_reducible apply Within.ite <;> intro _
      | with_reducible apply Within.rfl
      | (with_reducible apply Within.on (m := 0x800000000000000003001b0a000200000000200000300000000000000000000002) (loadStripe_within _ _) (by decide))
      | (with_reducible apply Within.on (m := 0x800000000000000003001b0a000200000000200000300000000000000000000002) (commitStripe_within _ _ _) (by decide))
      | (with_reducible apply Within.on (m := 0x800000000000000003001b0a000200000000200000300000000000000000000002) (advanceMove_within _ _) (by decide))
      | with_reducible apply Within.of_fst (by assumption)
      | with_reducible apply Within.of_fst1 (by assumption)
      | split)

theorem resumeMove_regs (s : State) (m : Move) {ks : List Field} (h1 :
    Reg.ERR_HEALTH_EVENT_POISON_FULL ∈ ks) (h2 : Reg.ERR_POISON_LIST_OVERFLOW ∈ ks) (h3 : Reg.ERR_POISON_LIST_RECORDS
    ∈ ks) (h4 : Reg.MERGE_DRAIN_CNT ∈ ks) (h5 : Reg.MERGE_PARTIAL_LINES ∈ ks) (h6 : Reg.MERGE_SETTLING_LINES ∈ ks) (h7
    : Reg.MERGE_STATUS_DIRTY ∈ ks) (h8 : Reg.MERGE_STATUS_LIMIT ∈ ks) (h9 : Reg.PROT_INTEG_DIRTY_LINES ∈ ks) (h10 :
    Reg.TELEM_BLK_OVF_OVF ∈ ks) (h11 : Reg.XLAT_COLD_COUNT_BLOCKS ∈ ks) (h12 : Reg.XLAT_HOT_COUNT_BLOCKS ∈ ks) (h13 :
    Reg.XLAT_LIFTED_PAGES ∈ ks) (h14 : Reg.XLAT_MOVES_ACTIVE ∈ ks) (h15 : Reg.XLAT_MOVES_QUEUED ∈ ks) (h16 :
    Reg.XLAT_PINNED_LINES ∈ ks) (h17 : Reg.XLAT_POOL_STATUS_FREE ∈ ks) (h18 : Reg.XLAT_RELOC_CNT ∈ ks) : onlyRegs ks s
    (@State.resumeMove s m) := by
  unfold State.resumeMove
  repeat' (first
      | (with_reducible apply onlyRegs.rfl)
      | extract_lets
      | (with_reducible assumption)
      | (with_reducible exact List.mem_cons_self)
      | (with_reducible apply List.mem_cons_of_mem)
      | (with_reducible apply onlyRegs.ite <;> intro _)
      | (with_reducible apply onlyRegs.on (loadStripe_regs _ _ ?_ ?_ ?_ ?_ ?_))
      | (with_reducible apply onlyRegs.on (commitStripe_regs _ _ _ ?_ ?_ ?_ ?_ ?_ ?_ ?_))
      | (with_reducible apply onlyRegs.on (advanceMove_regs _ _ ?_ ?_ ?_ ?_ ?_ ?_ ?_))
      | with_reducible apply onlyRegs.of_fst (by assumption)
      | with_reducible apply onlyRegs.of_fst1 (by assumption)
      | split)

theorem resumeMoves_within (s : State) : Within
    0x800000000000000003001b0a000200000000200000300000000000000000000002 s
    (@State.resumeMoves s) := by
  unfold State.resumeMoves
  repeat' (first
      | with_reducible apply Within.rfl
      | (with_reducible apply Within.on (m := 0x800000000000000003001b0a000200000000200000300000000000000000000002) (resumeMove_within _ _) (by decide))
      | (with_reducible apply Within.foldl; intro t x))

theorem resumeMoves_regs (s : State) {ks : List Field} (h1 : Reg.ERR_HEALTH_EVENT_POISON_FULL ∈ ks)
    (h2 : Reg.ERR_POISON_LIST_OVERFLOW ∈ ks) (h3 : Reg.ERR_POISON_LIST_RECORDS ∈ ks) (h4 : Reg.MERGE_DRAIN_CNT ∈ ks)
    (h5 : Reg.MERGE_PARTIAL_LINES ∈ ks) (h6 : Reg.MERGE_SETTLING_LINES ∈ ks) (h7 : Reg.MERGE_STATUS_DIRTY ∈ ks) (h8 :
    Reg.MERGE_STATUS_LIMIT ∈ ks) (h9 : Reg.PROT_INTEG_DIRTY_LINES ∈ ks) (h10 : Reg.TELEM_BLK_OVF_OVF ∈ ks) (h11 :
    Reg.XLAT_COLD_COUNT_BLOCKS ∈ ks) (h12 : Reg.XLAT_HOT_COUNT_BLOCKS ∈ ks) (h13 : Reg.XLAT_LIFTED_PAGES ∈ ks) (h14 :
    Reg.XLAT_MOVES_ACTIVE ∈ ks) (h15 : Reg.XLAT_MOVES_QUEUED ∈ ks) (h16 : Reg.XLAT_PINNED_LINES ∈ ks) (h17 :
    Reg.XLAT_POOL_STATUS_FREE ∈ ks) (h18 : Reg.XLAT_RELOC_CNT ∈ ks) : onlyRegs ks s
    (@State.resumeMoves s) := by
  unfold State.resumeMoves
  repeat' (first
      | (with_reducible apply onlyRegs.rfl)
      | (with_reducible assumption)
      | (with_reducible exact List.mem_cons_self)
      | (with_reducible apply List.mem_cons_of_mem)
      | (with_reducible apply onlyRegs.on (resumeMove_regs _ _ ?_ ?_ ?_ ?_ ?_ ?_ ?_ ?_ ?_ ?_ ?_ ?_ ?_ ?_ ?_ ?_ ?_ ?_))
      | (with_reducible apply onlyRegs.foldl; intro t x))

theorem pick_100000000000000000000000000000000000000000000002 (s t : State) : State.pick 0x100000000000000000000000000000000000000000000002 s t = { s with
    regs := t.regs, xlat := { s.xlat with evac := t.xlat.evac } } := rfl

theorem evacFrom_within (s : State) : Within
    0x100000000000000000000000000000000000000000000002 s (@State.evacFrom s) := by
  unfold State.evacFrom
  repeat' (first
      | extract_lets
      | with_reducible apply Within.rfl
      | (with_reducible apply Within.on (m := 0x100000000000000000000000000000000000000000000002) (evacCounts_within _) (by decide))
      | fail_if_no_progress with_reducible apply Within.upd (by rw [pick_100000000000000000000000000000000000000000000002]))

theorem evacFrom_regs (s : State) {ks : List Field} (h1 : Reg.CHAN_G_EVAC_STATUS_ACTIVE ∈ ks) (h2 :
    Reg.CHAN_G_EVAC_STATUS_REMAINING ∈ ks) : onlyRegs ks s (@State.evacFrom s) := by
  unfold State.evacFrom
  repeat' (first
      | (with_reducible apply onlyRegs.rfl)
      | extract_lets
      | (with_reducible assumption)
      | (with_reducible exact List.mem_cons_self)
      | (with_reducible apply List.mem_cons_of_mem)
      | (with_reducible apply onlyRegs.on (evacCounts_regs _ ?_ ?_))
      | fail_if_no_progress with_reducible apply onlyRegs.upd)

theorem pick_c10000000c10000000000010 (s t : State) : State.pick 0xc10000000c10000000000010 s t = { s with
    free := t.free, keep := { s.keep with shadow := t.keep.shadow, queue := t.keep.queue, lost := t.keep.lost },
    prot := { s.prot with slots := t.prot.slots, slotBad := t.prot.slotBad, slotLost := t.prot.slotLost } } := rfl

theorem unsealSlots_within (s : State) : Within 0xc10000000c10000000000010 s
    (@State.unsealSlots s) := by
  unfold State.unsealSlots
  repeat' (first
      | extract_lets
      | with_reducible apply Within.ite <;> intro _
      | with_reducible apply Within.rfl
      | (with_reducible apply Within.on (m := 0xc10000000c10000000000010) (tick_within _) (by decide))
      | (with_reducible apply Within.on (m := 0xc10000000c10000000000010) (keepWrite_within _ _ _ _) (by decide))
      | fail_if_no_progress with_reducible apply Within.upd (by rw [pick_c10000000c10000000000010]))

theorem pick_8000400000000000035cff3e00020000000020000030003cc00000000000000002 (s t : State) : State.pick 0x8000400000000000035cff3e00020000000020000030003cc00000000000000002 s t = { s with
    regs := t.regs,
    chron := { s.chron with
      perm := t.chron.perm, ring := t.chron.ring, buffer := t.chron.buffer, nextSerial := t.chron.nextSerial,
      runs := t.chron.runs, dropped := t.chron.dropped },
    prot := { s.prot with lineCounters := t.prot.lineCounters, dirtyNodes := t.prot.dirtyNodes },
    merge := { s.merge with entries := t.merge.entries }, pages := t.pages,
    xlat := { s.xlat with
      tracts := t.xlat.tracts, fluid := t.xlat.fluid, blocks := t.xlat.blocks, valid := t.xlat.valid,
      opens := t.xlat.opens, precondQ := t.xlat.precondQ, seq := t.xlat.seq, sbe := t.xlat.sbe,
      moves := t.xlat.moves, moveQ := t.xlat.moveQ, copies := t.xlat.copies, settles := t.xlat.settles,
      gather := t.xlat.gather, failedSlots := t.xlat.failedSlots, badParity := t.xlat.badParity,
      evac := t.xlat.evac, again := t.xlat.again },
    err := { s.err with poison := t.err.poison, poisonLost := t.err.poisonLost },
    shelf := { s.shelf with stepDue := t.shelf.stepDue }, telem := { s.telem with counts := t.telem.counts } } := rfl

theorem rebuild_within (s : State) : Within
    0x8000400000000000035cff3e00020000000020000030003cc00000000000000002 s
    (@State.rebuild s) := by
  unfold State.rebuild
  repeat' (first
      | extract_lets
      | with_reducible apply Within.rfl
      | (with_reducible apply Within.on (m := 0x8000400000000000035cff3e00020000000020000030003cc00000000000000002) (setBit_within _ _ _ _ _) (by decide))
      | (with_reducible apply Within.on (m := 0x8000400000000000035cff3e00020000000020000030003cc00000000000000002) (blockFromTags_within _ _) (by decide))
      | (with_reducible apply Within.on (m := 0x8000400000000000035cff3e00020000000020000030003cc00000000000000002) (timeFrom_within _ _) (by decide))
      | (with_reducible apply Within.on (m := 0x8000400000000000035cff3e00020000000020000030003cc00000000000000002) (countersFrom_within _ _) (by decide))
      | (with_reducible apply Within.on (m := 0x8000400000000000035cff3e00020000000020000030003cc00000000000000002) (homeTract_within _ _ _) (by decide))
      | (with_reducible apply Within.on (m := 0x8000400000000000035cff3e00020000000020000030003cc00000000000000002) (workspace_within _) (by decide))
      | (with_reducible apply Within.on (m := 0x8000400000000000035cff3e00020000000020000030003cc00000000000000002) (placeCands_within _ _) (by decide))
      | (with_reducible apply Within.on (m := 0x8000400000000000035cff3e00020000000020000030003cc00000000000000002) (unclaimed_within _ _) (by decide))
      | (with_reducible apply Within.on (m := 0x8000400000000000035cff3e00020000000020000030003cc00000000000000002) (poolCounts_within _) (by decide))
      | (with_reducible apply Within.on (m := 0x8000400000000000035cff3e00020000000020000030003cc00000000000000002) (evacFrom_within _) (by decide))
      | (with_reducible apply Within.on (m := 0x8000400000000000035cff3e00020000000020000030003cc00000000000000002) (resumeMoves_within _) (by decide))
      | (with_reducible apply Within.on (m := 0x8000400000000000035cff3e00020000000020000030003cc00000000000000002) (foundMoves_within _) (by decide))
      | (with_reducible apply Within.foldl; intro t x)
      | fail_if_no_progress with_reducible apply Within.upd (by rw [pick_8000400000000000035cff3e00020000000020000030003cc00000000000000002]))

theorem rebuild_regs (s : State) {ks : List Field} (h1 : Reg.CHAN_G_EVAC_STATUS_ACTIVE ∈ ks) (h2 :
    Reg.CHAN_G_EVAC_STATUS_REMAINING ∈ ks) (h3 : Reg.CHRON_DROP_CNT ∈ ks) (h4 : Reg.CHRON_REPEAT_CNT ∈ ks) (h5 :
    Reg.ERR_HEALTH_EVENT_POISON_FULL ∈ ks) (h6 : Reg.ERR_POISON_LIST_OVERFLOW ∈ ks) (h7 : Reg.ERR_POISON_LIST_RECORDS
    ∈ ks) (h8 : Reg.MERGE_DRAIN_CNT ∈ ks) (h9 : Reg.MERGE_PARTIAL_LINES ∈ ks) (h10 : Reg.MERGE_SETTLING_LINES ∈ ks)
    (h11 : Reg.MERGE_STATUS_DIRTY ∈ ks) (h12 : Reg.MERGE_STATUS_LIMIT ∈ ks) (h13 : Reg.PROT_INTEG_DIRTY_LINES ∈ ks)
    (h14 : Reg.TELEM_BLK_OVF_OVF ∈ ks) (h15 : Reg.XLAT_COLD_COUNT_BLOCKS ∈ ks) (h16 : Reg.XLAT_EQ_SEQ_CNT ∈ ks) (h17 :
    Reg.XLAT_HOT_COUNT_BLOCKS ∈ ks) (h18 : Reg.XLAT_LIFTED_PAGES ∈ ks) (h19 : Reg.XLAT_MOVES_ACTIVE ∈ ks) (h20 :
    Reg.XLAT_MOVES_QUEUED ∈ ks) (h21 : Reg.XLAT_PINNED_LINES ∈ ks) (h22 : Reg.XLAT_POOL_STATUS_FREE ∈ ks) (h23 :
    Reg.XLAT_REBUILD_RECON ∈ ks) (h24 : Reg.XLAT_REBUILD_RESUMED ∈ ks) (h25 : Reg.XLAT_RELOC_CNT ∈ ks) : onlyRegs ks s
    (@State.rebuild s) := by
  unfold State.rebuild
  repeat' (first
      | (with_reducible apply onlyRegs.rfl)
      | extract_lets
      | (with_reducible assumption)
      | (with_reducible exact List.mem_cons_self)
      | (with_reducible apply List.mem_cons_of_mem)
      | (with_reducible apply onlyRegs.on (setBit_regs _ _ _ _ _ ?_))
      | (with_reducible apply onlyRegs.keep (blockFromTags_within _ _) (by decide))
      | (with_reducible apply onlyRegs.keep (timeFrom_within _ _) (by decide))
      | (with_reducible apply onlyRegs.keep (countersFrom_within _ _) (by decide))
      | (with_reducible apply onlyRegs.on (homeTract_regs _ _ _ ?_ ?_))
      | (with_reducible apply onlyRegs.on (workspace_regs _ ?_ ?_ ?_))
      | (with_reducible apply onlyRegs.on (placeCands_regs _ _ ?_ ?_ ?_ ?_ ?_ ?_ ?_ ?_ ?_))
      | (with_reducible apply onlyRegs.keep (unclaimed_within _ _) (by decide))
      | (with_reducible apply onlyRegs.on (poolCounts_regs _ ?_ ?_ ?_ ?_ ?_ ?_))
      | (with_reducible apply onlyRegs.on (evacFrom_regs _ ?_ ?_))
      | (with_reducible apply onlyRegs.on (resumeMoves_regs _ ?_ ?_ ?_ ?_ ?_ ?_ ?_ ?_ ?_ ?_ ?_ ?_ ?_ ?_ ?_ ?_ ?_ ?_))
      | (with_reducible apply onlyRegs.on (foundMoves_regs _ ?_))
      | (with_reducible apply onlyRegs.foldl; intro t x)
      | fail_if_no_progress with_reducible apply onlyRegs.upd)

end Sys2Proof.Machine
end

