-- ==== Sys2Proof/Laws/PowerOpsFrames.lean ====
section
/-! SUPPORT. For each function of Machine/PowerOps.lean over the state: the part of the state outside which it changes
nothing (`…_within`), and the register fields that it may write (`…_regs`). -/

namespace Sys2Proof.Machine

set_option maxRecDepth 4000

theorem showPoll_within (s : State) (q : Sys2Proof.RailPoll) : Within 2 s
    (@State.showPoll s q) := by
  unfold State.showPoll
  repeat' (first
      | with_reducible apply Within.ite <;> intro _
      | with_reducible apply Within.rfl
      | (with_reducible apply Within.on (m := 2) (wr_within _ _ _ _ _) (by decide)))

theorem toPmics_within (s : State) (r : Nat) (code : Nat) (data : Nat) : Within 32 s
    (@State.toPmics s r code data) := by
  unfold State.toPmics
  repeat' (first
      | extract_lets
      | with_reducible apply Within.ite <;> intro _
      | with_reducible apply Within.rfl
      | (with_reducible apply Within.on (m := 32) (emit_within _ _) (by decide)))

theorem setGood_within (s : State) (r : Nat) (b : Bool) : Within 2 s
    (@State.setGood s r b) := by
  unfold State.setGood
  repeat' (first
      | extract_lets
      | with_reducible apply Within.rfl
      | (with_reducible apply Within.on (m := 2) (wr_within _ _ _ _ _) (by decide)))

theorem pick_1000000000000000000000000000000000000000000000000000000000000002 (s t : State) : State.pick 0x1000000000000000000000000000000000000000000000000000000000000002 s t = { s with
    regs := t.regs, shelf := { s.shelf with granted := t.shelf.granted } } := rfl

theorem askSlot_within (s : State) : Within
    0x1000000000000000000000000000000000000000000000000000000000000002 s (@State.askSlot
    s) := by
  unfold State.askSlot
  repeat' (first
      | with_reducible apply Within.rfl
      | (with_reducible apply Within.on (m := 0x1000000000000000000000000000000000000000000000000000000000000002) (setBit_within _ _ _ _ _) (by decide))
      | fail_if_no_progress with_reducible apply Within.upd (by rw [pick_1000000000000000000000000000000000000000000000000000000000000002]))

theorem askSlot_regs (s : State) {ks : List Field} (h1 : Reg.PWR_STATUS_SLOT_WAIT ∈ ks) : onlyRegs ks
    s (@State.askSlot s) := by
  unfold State.askSlot
  repeat' (first
      | (with_reducible apply onlyRegs.rfl)
      | (with_reducible assumption)
      | (with_reducible exact List.mem_cons_self)
      | (with_reducible apply List.mem_cons_of_mem)
      | (with_reducible apply onlyRegs.on (setBit_regs _ _ _ _ _ ?_))
      | fail_if_no_progress with_reducible apply onlyRegs.upd)

theorem lockout_within (s : State) : Within 2 s (@State.lockout s) := by
  unfold State.lockout
  repeat' (first
      | with_reducible apply Within.rfl
      | (with_reducible apply Within.on (m := 2) (setBit_within _ _ _ _ _) (by decide))
      | (with_reducible apply Within.on (m := 2) (setSeq_within _ _) (by decide)))

theorem lockout_regs (s : State) {ks : List Field} (h1 : Reg.PWR_FAULT_LOCKOUT ∈ ks) (h2 :
    Reg.PWR_STATUS_STATE ∈ ks) : onlyRegs ks s (@State.lockout s) := by
  unfold State.lockout
  repeat' (first
      | (with_reducible apply onlyRegs.rfl)
      | (with_reducible assumption)
      | (with_reducible exact List.mem_cons_self)
      | (with_reducible apply List.mem_cons_of_mem)
      | (with_reducible apply onlyRegs.on (setBit_regs _ _ _ _ _ ?_))
      | (with_reducible apply onlyRegs.on (setSeq_regs _ _ ?_)))

theorem pick_86001002 (s t : State) : State.pick 2248151042 s t = { s with
    regs := t.regs,
    pwr := { s.pwr with
      rail := t.pwr.rail, mediaWait := t.pwr.mediaWait, mediaStopped := t.pwr.mediaStopped,
      mediaDown := t.pwr.mediaDown } } := rfl

theorem mediaAllOff_within (s : State) : Within 2248151042 s (@State.mediaAllOff s)
    := by
  unfold State.mediaAllOff
  repeat' (first
      | extract_lets
      | with_reducible apply Within.ite <;> intro _
      | with_reducible apply Within.rfl
      | (with_reducible apply Within.on (m := 2248151042) (wr_within _ _ _ _ _) (by decide))
      | (with_reducible apply Within.on (m := 2248151042) (setSeq_within _ _) (by decide))
      | (with_reducible apply Within.on (m := 2248151042) (setBit_within _ _ _ _ _) (by decide))
      | fail_if_no_progress with_reducible apply Within.upd (by rw [pick_86001002]))

theorem pick_1002 (s t : State) : State.pick 4098 s t = { s with
    regs := t.regs, pwr := { s.pwr with rail := t.pwr.rail } } := rfl

theorem allOff_within (s : State) : Within 4098 s (@State.allOff s) := by
  unfold State.allOff
  repeat' (first
      | extract_lets
      | with_reducible apply Within.rfl
      | (with_reducible apply Within.on (m := 4098) (wr_within _ _ _ _ _) (by decide))
      | (with_reducible apply Within.on (m := 4098) (setSeq_within _ _) (by decide))
      | fail_if_no_progress with_reducible apply Within.upd (by rw [pick_1002]))

theorem pick_1ffffff8000000000ffffffdffffffffdfffff7fff7fff7efff801c000ffffc0001094a (s t : State) : State.pick 0x1ffffff8000000000ffffffdffffffffdfffff7fff7fff7efff801c000ffffc0001094a s t = { s with
    regs := t.regs, clears := t.clears, msixEn := t.msixEn, intOwed := t.intOwed,
    pwr := { s.pwr with onMask := t.pwr.onMask, discharged := t.pwr.discharged }, start := t.start,
    keep := { s.keep with byteLines := t.keep.byteLines, timeStrokes := t.keep.timeStrokes, op := t.keep.op },
    events := t.events,
    prot := { s.prot with
      ranges := t.prot.ranges, slots := t.prot.slots, integState := t.prot.integState,
      granules := t.prot.granules, roots := t.prot.roots, dirtyNodes := t.prot.dirtyNodes,
      slotBad := t.prot.slotBad, slotLost := t.prot.slotLost, officers := t.prot.officers,
      nonces := t.prot.nonces, lodged := t.prot.lodged, bindings := t.prot.bindings, anchor := t.prot.anchor,
      eraseAuth := t.prot.eraseAuth, unlock := t.prot.unlock, testAccess := t.prot.testAccess,
      challenge := t.prot.challenge, rekeys := t.prot.rekeys, eraseLeft := t.prot.eraseLeft,
      erasePath := t.prot.erasePath, ide := t.prot.ide, spdm := t.prot.spdm },
    sessions := t.sessions, reqs := t.reqs, nextRid := t.nextRid, share := t.share, decoders := t.decoders,
    merge := t.merge,
    mbox := { s.mbox with
      stored := t.mbox.stored, bg := t.mbox.bg, shutdown := t.mbox.shutdown, alerts := t.mbox.alerts },
    cache := t.cache, internals := t.internals, imageOps := t.imageOps, ops := t.ops, deltas := t.deltas,
    chans := t.chans, sched := t.sched,
    xlat := { s.xlat with
      tracts := t.xlat.tracts, fluid := t.xlat.fluid, blocks := t.xlat.blocks, valid := t.xlat.valid,
      opens := t.xlat.opens, nextHot := t.xlat.nextHot, nextCold := t.xlat.nextCold, precondQ := t.xlat.precondQ,
      seq := t.xlat.seq, sbe := t.xlat.sbe, moves := t.xlat.moves, moveQ := t.xlat.moveQ, copies := t.xlat.copies,
      settles := t.xlat.settles, gather := t.xlat.gather, better := t.xlat.better, whole := t.xlat.whole,
      failedSlots := t.xlat.failedSlots, badParity := t.xlat.badParity, evac := t.xlat.evac,
      again := t.xlat.again, heatEpochs := t.xlat.heatEpochs },
    err := t.err, img := t.img, fw := t.fw, telem := t.telem, cfgSpace := t.cfgSpace, bar0 := t.bar0, d3 := t.d3 } := rfl

theorem railOff_within (s : State) (r : Nat) : Within
    0x1ffffff8000000000ffffffdffffffffdfffff7fff7fff7efff801c000ffffc0001094a s
    (@State.railOff s r) := by
  unfold State.railOff
  repeat' (first
      | extract_lets
      | with_reducible apply Within.ite <;> intro _
      | with_reducible apply Within.rfl
      | (with_reducible apply Within.on (m := 0x1ffffff8000000000ffffffdffffffffdfffff7fff7fff7efff801c000ffffc0001094a) (setGood_within _ _ _) (by decide))
      | (with_reducible apply Within.on (m := 0x1ffffff8000000000ffffffdffffffffdfffff7fff7fff7efff801c000ffffc0001094a) (coldCore_within _) (by decide))
      | fail_if_no_progress with_reducible apply Within.upd (by rw [pick_1ffffff8000000000ffffffdffffffffdfffff7fff7fff7efff801c000ffffc0001094a]))

theorem pick_1ffffff8000000000ffffffdffffffffdfffff7fff7fff7efff801c000ffffc8601196a (s t : State) : State.pick 0x1ffffff8000000000ffffffdffffffffdfffff7fff7fff7efff801c000ffffc8601196a s t = { s with
    regs := t.regs, clears := t.clears, out := t.out, msixEn := t.msixEn, intOwed := t.intOwed,
    pwr := { s.pwr with
      onMask := t.pwr.onMask, rail := t.pwr.rail, discharged := t.pwr.discharged, mediaWait := t.pwr.mediaWait,
      mediaStopped := t.pwr.mediaStopped, mediaDown := t.pwr.mediaDown },
    start := t.start,
    keep := { s.keep with byteLines := t.keep.byteLines, timeStrokes := t.keep.timeStrokes, op := t.keep.op },
    events := t.events,
    prot := { s.prot with
      ranges := t.prot.ranges, slots := t.prot.slots, integState := t.prot.integState,
      granules := t.prot.granules, roots := t.prot.roots, dirtyNodes := t.prot.dirtyNodes,
      slotBad := t.prot.slotBad, slotLost := t.prot.slotLost, officers := t.prot.officers,
      nonces := t.prot.nonces, lodged := t.prot.lodged, bindings := t.prot.bindings, anchor := t.prot.anchor,
      eraseAuth := t.prot.eraseAuth, unlock := t.prot.unlock, testAccess := t.prot.testAccess,
      challenge := t.prot.challenge, rekeys := t.prot.rekeys, eraseLeft := t.prot.eraseLeft,
      erasePath := t.prot.erasePath, ide := t.prot.ide, spdm := t.prot.spdm },
    sessions := t.sessions, reqs := t.reqs, nextRid := t.nextRid, share := t.share, decoders := t.decoders,
    merge := t.merge,
    mbox := { s.mbox with
      stored := t.mbox.stored, bg := t.mbox.bg, shutdown := t.mbox.shutdown, alerts := t.mbox.alerts },
    cache := t.cache, internals := t.internals, imageOps := t.imageOps, ops := t.ops, deltas := t.deltas,
    chans := t.chans, sched := t.sched,
    xlat := { s.xlat with
      tracts := t.xlat.tracts, fluid := t.xlat.fluid, blocks := t.xlat.blocks, valid := t.xlat.valid,
      opens := t.xlat.opens, nextHot := t.xlat.nextHot, nextCold := t.xlat.nextCold, precondQ := t.xlat.precondQ,
      seq := t.xlat.seq, sbe := t.xlat.sbe, moves := t.xlat.moves, moveQ := t.xlat.moveQ, copies := t.xlat.copies,
      settles := t.xlat.settles, gather := t.xlat.gather, better := t.xlat.better, whole := t.xlat.whole,
      failedSlots := t.xlat.failedSlots, badParity := t.xlat.badParity, evac := t.xlat.evac,
      again := t.xlat.again, heatEpochs := t.xlat.heatEpochs },
    err := t.err, img := t.img, fw := t.fw, telem := t.telem, cfgSpace := t.cfgSpace, bar0 := t.bar0, d3 := t.d3 } := rfl

theorem nextDown_within (s : State) (x1 : Nat) : Within
    0x1ffffff8000000000ffffffdffffffffdfffff7fff7fff7efff801c000ffffc8601196a s
    (@State.nextDown s x1) := by
  induction x1 generalizing s with
  | zero => exact Within.rfl
  | succ n ih =>
    unfold State.nextDown
    repeat' (first
        | with_reducible apply Within.on (ih _) (Nat.or_self _)
        | extract_lets
        | with_reducible apply Within.ite <;> intro _
        | with_reducible apply Within.rfl
        | (with_reducible apply Within.on (m := 0x1ffffff8000000000ffffffdffffffffdfffff7fff7fff7efff801c000ffffc8601196a) (toPmics_within _ _ _ _) (by decide))
        | (with_reducible apply Within.on (m := 0x1ffffff8000000000ffffffdffffffffdfffff7fff7fff7efff801c000ffffc8601196a) (setGood_within _ _ _) (by decide))
        | (with_reducible apply Within.on (m := 0x1ffffff8000000000ffffffdffffffffdfffff7fff7fff7efff801c000ffffc8601196a) (railOff_within _ _) (by decide))
        | (with_reducible apply Within.on (m := 0x1ffffff8000000000ffffffdffffffffdfffff7fff7fff7efff801c000ffffc8601196a) (allOff_within _) (by decide))
        | (with_reducible apply Within.on (m := 0x1ffffff8000000000ffffffdffffffffdfffff7fff7fff7efff801c000ffffc8601196a) (mediaAllOff_within _) (by decide))
        | fail_if_no_progress with_reducible apply Within.upd (by rw [pick_1ffffff8000000000ffffffdffffffffdfffff7fff7fff7efff801c000ffffc8601196a]))

theorem pick_1800000000000000000000000010000000000000000003cfffff0000000000002 (s t : State) : State.pick 0x1800000000000000000000000010000000000000000003cfffff0000000000002 s t = { s with
    regs := t.regs, keep := t.keep,
    chron := { s.chron with
      perm := t.chron.perm, ring := t.chron.ring, buffer := t.chron.buffer, nextSerial := t.chron.nextSerial,
      runs := t.chron.runs, dropped := t.chron.dropped },
    imageOps := t.imageOps, fw := { s.fw with transfer := t.fw.transfer, cmd := t.fw.cmd } } := rfl

theorem closeTransfer_within (s : State) : Within
    0x1800000000000000000000000010000000000000000003cfffff0000000000002 s
    (@State.closeTransfer s) := by
  unfold State.closeTransfer
  repeat' (first
      | extract_lets
      | with_reducible apply Within.rfl
      | (with_reducible apply Within.on (m := 0x1800000000000000000000000010000000000000000003cfffff0000000000002) (dropImageOps_within _ _) (by decide))
      | (with_reducible apply Within.on (m := 0x1800000000000000000000000010000000000000000003cfffff0000000000002) (chronicle_within _ _ _ _ _) (by decide))
      | fail_if_no_progress with_reducible apply Within.upd (by rw [pick_1800000000000000000000000010000000000000000003cfffff0000000000002])
      | with_reducible apply Within.of_fst (by assumption)
      | with_reducible apply Within.of_fst1 (by assumption)
      | split)

theorem closeTransfer_regs (s : State) {ks : List Field} (h1 : Reg.CHRON_DROP_CNT ∈ ks) (h2 :
    Reg.CHRON_REPEAT_CNT ∈ ks) : onlyRegs ks s (@State.closeTransfer s) := by
  unfold State.closeTransfer
  repeat' (first
      | (with_reducible apply onlyRegs.rfl)
      | extract_lets
      | (with_reducible assumption)
      | (with_reducible exact List.mem_cons_self)
      | (with_reducible apply List.mem_cons_of_mem)
      | (with_reducible apply onlyRegs.keep (dropImageOps_within _ _) (by decide))
      | (with_reducible apply onlyRegs.on (chronicle_regs _ _ _ _ _ ?_ ?_))
      | fail_if_no_progress with_reducible apply onlyRegs.upd
      | with_reducible apply onlyRegs.of_fst (by assumption)
      | with_reducible apply onlyRegs.of_fst1 (by assumption)
      | split)

theorem pick_1ffffffffffffffffffffffdffffffffdfffff7fff7fff7efffbcfffffffffffffffd6a (s t : State) : State.pick 0x1ffffffffffffffffffffffdffffffffdfffff7fff7fff7efffbcfffffffffffffffd6a s t = { s with
    regs := t.regs, clears := t.clears, out := t.out, msixEn := t.msixEn, intOwed := t.intOwed, pwr := t.pwr,
    start := t.start, keep := t.keep,
    chron := { s.chron with
      perm := t.chron.perm, ring := t.chron.ring, buffer := t.chron.buffer, nextSerial := t.chron.nextSerial,
      runs := t.chron.runs, dropped := t.chron.dropped },
    events := t.events,
    prot := { s.prot with
      ranges := t.prot.ranges, slots := t.prot.slots, integState := t.prot.integState,
      granules := t.prot.granules, roots := t.prot.roots, dirtyNodes := t.prot.dirtyNodes,
      slotBad := t.prot.slotBad, slotLost := t.prot.slotLost, officers := t.prot.officers,
      nonces := t.prot.nonces, lodged := t.prot.lodged, bindings := t.prot.bindings, anchor := t.prot.anchor,
      eraseAuth := t.prot.eraseAuth, unlock := t.prot.unlock, testAccess := t.prot.testAccess,
      challenge := t.prot.challenge, rekeys := t.prot.rekeys, eraseLeft := t.prot.eraseLeft,
      erasePath := t.prot.erasePath, ide := t.prot.ide, spdm := t.prot.spdm },
    sessions := t.sessions, reqs := t.reqs, nextRid := t.nextRid, share := t.share, decoders := t.decoders,
    merge := t.merge,
    mbox := { s.mbox with
      stored := t.mbox.stored, bg := t.mbox.bg, shutdown := t.mbox.shutdown, alerts := t.mbox.alerts },
    cache := t.cache, internals := t.internals, imageOps := t.imageOps, ops := t.ops, deltas := t.deltas,
    chans := t.chans, sched := t.sched,
    xlat := { s.xlat with
      tracts := t.xlat.tracts, fluid := t.xlat.fluid, blocks := t.xlat.blocks, valid := t.xlat.valid,
      opens := t.xlat.opens, nextHot := t.xlat.nextHot, nextCold := t.xlat.nextCold, precondQ := t.xlat.precondQ,
      seq := t.xlat.seq, sbe := t.xlat.sbe, moves := t.xlat.moves, moveQ := t.xlat.moveQ, copies := t.xlat.copies,
      settles := t.xlat.settles, gather := t.xlat.gather, better := t.xlat.better, whole := t.xlat.whole,
      failedSlots := t.xlat.failedSlots, badParity := t.xlat.badParity, evac := t.xlat.evac,
      again := t.xlat.again, heatEpochs := t.xlat.heatEpochs },
    err := t.err, img := t.img, shelf := t.shelf, fw := t.fw, telem := t.telem, cfgSpace := t.cfgSpace,
    bar0 := t.bar0, d3 := t.d3 } := rfl

theorem powerDown_within (s : State) (cause : DownCause) (after :
    AfterDown) (capo : Bool) : Within
    0x1ffffffffffffffffffffffdffffffffdfffff7fff7fff7efffbcfffffffffffffffd6a s
    (@State.powerDown s cause after capo) := by
  unfold State.powerDown
  repeat' (first
      | extract_lets
      | with_reducible apply Within.ite <;> intro _
      | with_reducible apply Within.rfl
      | (with_reducible apply Within.on (m := 0x1ffffffffffffffffffffffdffffffffdfffff7fff7fff7efffbcfffffffffffffffd6a) (setBit_within _ _ _ _ _) (by decide))
      | (with_reducible apply Within.on (m := 0x1ffffffffffffffffffffffdffffffffdfffff7fff7fff7efffbcfffffffffffffffd6a) (setSeq_within _ _) (by decide))
      | (with_reducible apply Within.on (m := 0x1ffffffffffffffffffffffdffffffffdfffff7fff7fff7efffbcfffffffffffffffd6a) (closeTransfer_within _) (by decide))
      | (with_reducible apply Within.on (m := 0x1ffffffffffffffffffffffdffffffffdfffff7fff7fff7efffbcfffffffffffffffd6a) (wr_within _ _ _ _ _) (by decide))
      | (with_reducible apply Within.on (m := 0x1ffffffffffffffffffffffdffffffffdfffff7fff7fff7efffbcfffffffffffffffd6a) (nextDown_within _ _) (by decide))
      | fail_if_no_progress with_reducible apply Within.upd (by rw [pick_1ffffffffffffffffffffffdffffffffdfffff7fff7fff7efffbcfffffffffffffffd6a]))

theorem noteUpFail_within (s : State) (rail : Nat) (attempt : Nat) (cause : Nat) : Within
    0x3cc00000000000000002 s (@State.noteUpFail s rail attempt cause) := by
  unfold State.noteUpFail
  repeat' (first
      | with_reducible apply Within.rfl
      | (with_reducible apply Within.on (m := 0x3cc00000000000000002) (chronicle_within _ _ _ _ _) (by decide))
      | (with_reducible apply Within.on (m := 0x3cc00000000000000002) (bump_within _ _ _ _ _) (by decide)))

theorem noteUpFail_regs (s : State) (rail : Nat) (attempt : Nat) (cause : Nat) {ks : List Field}
    (h1 : Reg.CHRON_DROP_CNT ∈ ks) (h2 : Reg.CHRON_REPEAT_CNT ∈ ks) (h3 : Reg.PWR_UPFAIL_CNT ∈ ks) : onlyRegs ks s
    (@State.noteUpFail s rail attempt cause) := by
  unfold State.noteUpFail
  repeat' (first
      | (with_reducible apply onlyRegs.rfl)
      | (with_reducible assumption)
      | (with_reducible exact List.mem_cons_self)
      | (with_reducible apply List.mem_cons_of_mem)
      | (with_reducible apply onlyRegs.on (chronicle_regs _ _ _ _ _ ?_ ?_))
      | (with_reducible apply onlyRegs.on (bump_regs _ _ _ _ _ ?_)))

theorem packageFail_within (s : State) (rail : Nat) (cause : Nat) : Within
    0x1ffffffffffffffffffffffdffffffffdfffff7fff7fff7efffbcfffffffffffffffd6a s
    (@State.packageFail s rail cause) := by
  unfold State.packageFail
  repeat' (first
      | extract_lets
      | with_reducible apply Within.ite <;> intro _
      | with_reducible apply Within.rfl
      | (with_reducible apply Within.on (m := 0x1ffffffffffffffffffffffdffffffffdfffff7fff7fff7efffbcfffffffffffffffd6a) (noteUpFail_within _ _ _ _) (by decide))
      | (with_reducible apply Within.on (m := 0x1ffffffffffffffffffffffdffffffffdfffff7fff7fff7efffbcfffffffffffffffd6a) (powerDown_within _ _ _ _) (by decide))
      | (with_reducible apply Within.on (m := 0x1ffffffffffffffffffffffdffffffffdfffff7fff7fff7efffbcfffffffffffffffd6a) (setBit_within _ _ _ _ _) (by decide)))

theorem pick_1ffffff8000000000ffffffdffffffffdfffff7fff7fff7efffbcdc000ffffffffffd6a (s t : State) : State.pick 0x1ffffff8000000000ffffffdffffffffdfffff7fff7fff7efffbcdc000ffffffffffd6a s t = { s with
    regs := t.regs, clears := t.clears, out := t.out, msixEn := t.msixEn, intOwed := t.intOwed, pwr := t.pwr,
    start := t.start,
    keep := { s.keep with byteLines := t.keep.byteLines, timeStrokes := t.keep.timeStrokes, op := t.keep.op },
    chron := { s.chron with
      perm := t.chron.perm, ring := t.chron.ring, buffer := t.chron.buffer, nextSerial := t.chron.nextSerial,
      runs := t.chron.runs, dropped := t.chron.dropped },
    events := t.events,
    prot := { s.prot with
      ranges := t.prot.ranges, slots := t.prot.slots, integState := t.prot.integState,
      granules := t.prot.granules, roots := t.prot.roots, dirtyNodes := t.prot.dirtyNodes,
      slotBad := t.prot.slotBad, slotLost := t.prot.slotLost, officers := t.prot.officers,
      nonces := t.prot.nonces, lodged := t.prot.lodged, bindings := t.prot.bindings, anchor := t.prot.anchor,
      eraseAuth := t.prot.eraseAuth, unlock := t.prot.unlock, testAccess := t.prot.testAccess,
      challenge := t.prot.challenge, rekeys := t.prot.rekeys, eraseLeft := t.prot.eraseLeft,
      erasePath := t.prot.erasePath, ide := t.prot.ide, spdm := t.prot.spdm },
    sessions := t.sessions, reqs := t.reqs, nextRid := t.nextRid, share := t.share, decoders := t.decoders,
    merge := t.merge,
    mbox := { s.mbox with
      stored := t.mbox.stored, bg := t.mbox.bg, shutdown := t.mbox.shutdown, alerts := t.mbox.alerts },
    cache := t.cache, internals := t.internals, imageOps := t.imageOps, ops := t.ops, deltas := t.deltas,
    chans := t.chans, sched := t.sched,
    xlat := { s.xlat with
      tracts := t.xlat.tracts, fluid := t.xlat.fluid, blocks := t.xlat.blocks, valid := t.xlat.valid,
      opens := t.xlat.opens, nextHot := t.xlat.nextHot, nextCold := t.xlat.nextCold, precondQ := t.xlat.precondQ,
      seq := t.xlat.seq, sbe := t.xlat.sbe, moves := t.xlat.moves, moveQ := t.xlat.moveQ, copies := t.xlat.copies,
      settles := t.xlat.settles, gather := t.xlat.gather, better := t.xlat.better, whole := t.xlat.whole,
      failedSlots := t.xlat.failedSlots, badParity := t.xlat.badParity, evac := t.xlat.evac,
      again := t.xlat.again, heatEpochs := t.xlat.heatEpochs },
    err := t.err, img := t.img, fw := t.fw, telem := t.telem, cfgSpace := t.cfgSpace, bar0 := t.bar0, d3 := t.d3 } := rfl

theorem mediaFail_within (s : State) (rail : Nat) (cause : Nat) : Within
    0x1ffffff8000000000ffffffdffffffffdfffff7fff7fff7efffbcdc000ffffffffffd6a s
    (@State.mediaFail s rail cause) := by
  unfold State.mediaFail
  repeat' (first
      | extract_lets
      | with_reducible apply Within.rfl
      | (with_reducible apply Within.on (m := 0x1ffffff8000000000ffffffdffffffffdfffff7fff7fff7efffbcdc000ffffffffffd6a) (noteUpFail_within _ _ _ _) (by decide))
      | (with_reducible apply Within.on (m := 0x1ffffff8000000000ffffffdffffffffdfffff7fff7fff7efffbcdc000ffffffffffd6a) (wr_within _ _ _ _ _) (by decide))
      | (with_reducible apply Within.on (m := 0x1ffffff8000000000ffffffdffffffffdfffff7fff7fff7efffbcdc000ffffffffffd6a) (nextDown_within _ _) (by decide))
      | fail_if_no_progress with_reducible apply Within.upd (by rw [pick_1ffffff8000000000ffffffdffffffffdfffff7fff7fff7efffbcdc000ffffffffffd6a]))

theorem upFail_within (s : State) (rail : Nat) (cause : Nat) : Within
    0x1ffffffffffffffffffffffdffffffffdfffff7fff7fff7efffbcfffffffffffffffd6a s
    (@State.upFail s rail cause) := by
  unfold State.upFail
  repeat' (first
      | with_reducible apply Within.ite <;> intro _
      | with_reducible apply Within.rfl
      | (with_reducible apply Within.on (m := 0x1ffffffffffffffffffffffdffffffffdfffff7fff7fff7efffbcfffffffffffffffd6a) (packageFail_within _ _ _) (by decide))
      | (with_reducible apply Within.on (m := 0x1ffffffffffffffffffffffdffffffffdfffff7fff7fff7efffbcfffffffffffffffd6a) (mediaFail_within _ _ _) (by decide)))

theorem testLockout_within (s : State) : Within 0x3cc00000000000000002 s
    (@State.testLockout s) := by
  unfold State.testLockout
  repeat' (first
      | with_reducible apply Within.rfl
      | (with_reducible apply Within.on (m := 0x3cc00000000000000002) (lockout_within _) (by decide))
      | (with_reducible apply Within.on (m := 0x3cc00000000000000002) (chronicle_within _ _ _ _ _) (by decide))
      | (with_reducible apply Within.on (m := 0x3cc00000000000000002) (setBit_within _ _ _ _ _) (by decide)))

theorem testLockout_regs (s : State) {ks : List Field} (h1 : Reg.CHRON_DROP_CNT ∈ ks) (h2 :
    Reg.CHRON_REPEAT_CNT ∈ ks) (h3 : Reg.PWR_FAULT_LOCKOUT ∈ ks) (h4 : Reg.PWR_FAULT_TEST_EN ∈ ks) (h5 :
    Reg.PWR_STATUS_STATE ∈ ks) (h6 : Reg.TOP_STRAPS_TEST_EN ∈ ks) : onlyRegs ks s (@State.testLockout
    s) := by
  unfold State.testLockout
  repeat' (first
      | (with_reducible apply onlyRegs.rfl)
      | (with_reducible assumption)
      | (with_reducible exact List.mem_cons_self)
      | (with_reducible apply List.mem_cons_of_mem)
      | (with_reducible apply onlyRegs.on (lockout_regs _ ?_ ?_))
      | (with_reducible apply onlyRegs.on (chronicle_regs _ _ _ _ _ ?_ ?_))
      | (with_reducible apply onlyRegs.on (setBit_regs _ _ _ _ _ ?_)))

theorem pick_3cfffff00003fffffc02 (s t : State) : State.pick 0x3cfffff00003fffffc02 s t = { s with
    regs := t.regs, pwr := t.pwr, keep := t.keep,
    chron := { s.chron with
      perm := t.chron.perm, ring := t.chron.ring, buffer := t.chron.buffer, nextSerial := t.chron.nextSerial,
      runs := t.chron.runs, dropped := t.chron.dropped } } := rfl

theorem enterPkgUp_within (s : State) (testEn : Sys2Proof.Samples) : Within 0x3cfffff00003fffffc02
    s (@State.enterPkgUp s testEn) := by
  unfold State.enterPkgUp
  repeat' (first
      | extract_lets
      | with_reducible apply Within.ite <;> intro _
      | with_reducible apply Within.rfl
      | (with_reducible apply Within.on (m := 0x3cfffff00003fffffc02) (flash_within _) (by decide))
      | (with_reducible apply Within.on (m := 0x3cfffff00003fffffc02) (testLockout_within _) (by decide))
      | (with_reducible apply Within.on (m := 0x3cfffff00003fffffc02) (setSeq_within _ _) (by decide))
      | (with_reducible apply Within.on (m := 0x3cfffff00003fffffc02) (setBit_within _ _ _ _ _) (by decide))
      | (with_reducible apply Within.on (m := 0x3cfffff00003fffffc02) (wr_within _ _ _ _ _) (by decide))
      | fail_if_no_progress with_reducible apply Within.upd (by rw [pick_3cfffff00003fffffc02]))

theorem enterPkgUp_regs (s : State) (testEn : Sys2Proof.Samples) {ks : List Field} (h1 :
    Reg.CHRON_DROP_CNT ∈ ks) (h2 : Reg.CHRON_REPEAT_CNT ∈ ks) (h3 : Reg.PWR_FAULT_LOCKOUT ∈ ks) (h4 :
    Reg.PWR_FAULT_TEST_EN ∈ ks) (h5 : Reg.PWR_STATUS_ATTEMPT ∈ ks) (h6 : Reg.PWR_STATUS_STATE ∈ ks) (h7 :
    Reg.TOP_STRAPS_TEST_EN ∈ ks) : onlyRegs ks s (@State.enterPkgUp s testEn) := by
  unfold State.enterPkgUp
  repeat' (first
      | (with_reducible apply onlyRegs.rfl)
      | extract_lets
      | (with_reducible assumption)
      | (with_reducible exact List.mem_cons_self)
      | (with_reducible apply List.mem_cons_of_mem)
      | (with_reducible apply onlyRegs.ite <;> intro _)
      | (with_reducible apply onlyRegs.keep (flash_within _) (by decide))
      | (with_reducible apply onlyRegs.on (testLockout_regs _ ?_ ?_ ?_ ?_ ?_ ?_))
      | (with_reducible apply onlyRegs.on (setSeq_regs _ _ ?_))
      | (with_reducible apply onlyRegs.on (setBit_regs _ _ _ _ _ ?_))
      | (with_reducible apply onlyRegs.wr)
      | fail_if_no_progress with_reducible apply onlyRegs.upd)

theorem pick_20002 (s t : State) : State.pick 131074 s t = { s with
    regs := t.regs, pwr := { s.pwr with pfCount := t.pwr.pfCount } } := rfl

theorem pfTake_within (s : State) (l : List Bool) : Within 131074 s (@State.pfTake
    s l) := by
  unfold State.pfTake
  repeat' (first
      | extract_lets
      | with_reducible apply Within.rfl
      | (with_reducible apply Within.on (m := 131074) (setBit_within _ _ _ _ _) (by decide))
      | fail_if_no_progress with_reducible apply Within.upd (by rw [pick_20002])
      | with_reducible apply Within.of_fst (by assumption)
      | with_reducible apply Within.of_fst1 (by assumption)
      | split)

theorem pfTake_regs (s : State) (l : List Bool) {ks : List Field} (h1 : Reg.PWR_STATUS_PF_PIN ∈ ks)
    : onlyRegs ks s (@State.pfTake s l) := by
  unfold State.pfTake
  repeat' (first
      | (with_reducible apply onlyRegs.rfl)
      | extract_lets
      | (with_reducible assumption)
      | (with_reducible exact List.mem_cons_self)
      | (with_reducible apply List.mem_cons_of_mem)
      | (with_reducible apply onlyRegs.on (setBit_regs _ _ _ _ _ ?_))
      | fail_if_no_progress with_reducible apply onlyRegs.upd
      | with_reducible apply onlyRegs.of_fst (by assumption)
      | with_reducible apply onlyRegs.of_fst1 (by assumption)
      | split)

theorem pick_600080000000000000000000411000006e000000000003cfffff20003fffffc22 (s t : State) : State.pick 0x600080000000000000000000411000006e000000000003cfffff20003fffffc22 s t = { s with
    regs := t.regs, out := t.out, pwr := t.pwr, start := { s.start with warm := t.start.warm }, keep := t.keep,
    chron := { s.chron with
      perm := t.chron.perm, ring := t.chron.ring, buffer := t.chron.buffer, nextSerial := t.chron.nextSerial,
      runs := t.chron.runs, dropped := t.chron.dropped },
    merge := { s.merge with capo := t.merge.capo, lost := t.merge.lost, cut := t.merge.cut },
    mbox := { s.mbox with stored := t.mbox.stored, bg := t.mbox.bg }, imageOps := t.imageOps, chans := t.chans,
    sched := { s.sched with capoAsk := t.sched.capoAsk }, shelf := { s.shelf with act := t.shelf.act },
    fw := { s.fw with act := t.fw.act, abandoned := t.fw.abandoned } } := rfl

theorem enterCapo_within (s : State) (cause : DownCause) (after :
    AfterDown) : Within
    0x600080000000000000000000411000006e000000000003cfffff20003fffffc22 s
    (@State.enterCapo s cause after) := by
  unfold State.enterCapo
  repeat' (first
      | extract_lets
      | with_reducible apply Within.ite <;> intro _
      | with_reducible apply Within.rfl
      | (with_reducible apply Within.on (m := 0x600080000000000000000000411000006e000000000003cfffff20003fffffc22) (setSeq_within _ _) (by decide))
      | (with_reducible apply Within.on (m := 0x600080000000000000000000411000006e000000000003cfffff20003fffffc22) (setBit_within _ _ _ _ _) (by decide))
      | (with_reducible apply Within.on (m := 0x600080000000000000000000411000006e000000000003cfffff20003fffffc22) (flash_within _) (by decide))
      | (with_reducible apply Within.on (m := 0x600080000000000000000000411000006e000000000003cfffff20003fffffc22) (beginFlush_within _) (by decide))
      | fail_if_no_progress with_reducible apply Within.upd (by rw [pick_600080000000000000000000411000006e000000000003cfffff20003fffffc22]))

theorem leaveOn_within (s : State) (cause : DownCause) (after :
    AfterDown) : Within
    0x1ffffffffffffffffffffffdffffffffdfffff7fff7fff7efffbcfffffffffffffffd6a s
    (@State.leaveOn s cause after) := by
  unfold State.leaveOn
  repeat' (first
      | extract_lets
      | with_reducible apply Within.ite <;> intro _
      | with_reducible apply Within.rfl
      | (with_reducible apply Within.on (m := 0x1ffffffffffffffffffffffdffffffffdfffff7fff7fff7efffbcfffffffffffffffd6a) (enterCapo_within _ _ _) (by decide))
      | (with_reducible apply Within.on (m := 0x1ffffffffffffffffffffffdffffffffdfffff7fff7fff7efffbcfffffffffffffffd6a) (setBit_within _ _ _ _ _) (by decide))
      | (with_reducible apply Within.on (m := 0x1ffffffffffffffffffffffdffffffffdfffff7fff7fff7efffbcfffffffffffffffd6a) (powerDown_within _ _ _ _) (by decide)))

theorem pfActs_within (s : State) : Within
    0x1ffffffffffffffffffffffdffffffffdfffff7fff7fff7efffbcfffffffffffffffd6a s
    (@State.pfActs s) := by
  unfold State.pfActs
  repeat' (first
      | with_reducible apply Within.ite <;> intro _
      | with_reducible apply Within.rfl
      | (with_reducible apply Within.on (m := 0x1ffffffffffffffffffffffdffffffffdfffff7fff7fff7efffbcfffffffffffffffd6a) (leaveOn_within _ _ _) (by decide))
      | (with_reducible apply Within.on (m := 0x1ffffffffffffffffffffffdffffffffdfffff7fff7fff7efffbcfffffffffffffffd6a) (powerDown_within _ _ _ _) (by decide))
      | (with_reducible apply Within.on (m := 0x1ffffffffffffffffffffffdffffffffdfffff7fff7fff7efffbcfffffffffffffffd6a) (setBit_within _ _ _ _ _) (by decide))
      | fail_if_no_progress with_reducible apply Within.upd (by rw [pick_1ffffffffffffffffffffffdffffffffdfffff7fff7fff7efffbcfffffffffffffffd6a]))

theorem railFault_within (s : State) (r : Nat) (status : BitVec 16) : Within
    0x1ffffffffffffffffffffffdffffffffdfffff7fff7fff7efffbcfffffffffffffffd6a s
    (@State.railFault s r status) := by
  unfold State.railFault
  repeat' (first
      | extract_lets
      | with_reducible apply Within.ite <;> intro _
      | with_reducible apply Within.rfl
      | (with_reducible apply Within.on (m := 0x1ffffffffffffffffffffffdffffffffdfffff7fff7fff7efffbcfffffffffffffffd6a) (chronicle_within _ _ _ _ _) (by decide))
      | (with_reducible apply Within.on (m := 0x1ffffffffffffffffffffffdffffffffdfffff7fff7fff7efffbcfffffffffffffffd6a) (setBit_within _ _ _ _ _) (by decide))
      | (with_reducible apply Within.on (m := 0x1ffffffffffffffffffffffdffffffffdfffff7fff7fff7efffbcfffffffffffffffd6a) (powerDown_within _ _ _ _) (by decide))
      | (with_reducible apply Within.on (m := 0x1ffffffffffffffffffffffdffffffffdfffff7fff7fff7efffbcfffffffffffffffd6a) (leaveOn_within _ _ _) (by decide))
      | fail_if_no_progress with_reducible apply Within.upd (by rw [pick_1ffffffffffffffffffffffdffffffffdfffff7fff7fff7efffbcfffffffffffffffd6a]))

theorem thermalTrip_within (s : State) (tempC : Nat) : Within
    0x1ffffffffffffffffffffffdffffffffdfffff7fff7fff7efffbcfffffffffffffffd6a s
    (@State.thermalTrip s tempC) := by
  unfold State.thermalTrip
  repeat' (first
      | extract_lets
      | with_reducible apply Within.ite <;> intro _
      | with_reducible apply Within.rfl
      | (with_reducible apply Within.on (m := 0x1ffffffffffffffffffffffdffffffffdfffff7fff7fff7efffbcfffffffffffffffd6a) (chronicle_within _ _ _ _ _) (by decide))
      | (with_reducible apply Within.on (m := 0x1ffffffffffffffffffffffdffffffffdfffff7fff7fff7efffbcfffffffffffffffd6a) (setBit_within _ _ _ _ _) (by decide))
      | (with_reducible apply Within.on (m := 0x1ffffffffffffffffffffffdffffffffdfffff7fff7fff7efffbcfffffffffffffffd6a) (leaveOn_within _ _ _) (by decide))
      | (with_reducible apply Within.on (m := 0x1ffffffffffffffffffffffdffffffffdfffff7fff7fff7efffbcfffffffffffffffd6a) (powerDown_within _ _ _ _) (by decide))
      | (with_reducible apply Within.on (m := 0x1ffffffffffffffffffffffdffffffffdfffff7fff7fff7efffbcfffffffffffffffd6a) (lockout_within _) (by decide))
      | fail_if_no_progress with_reducible apply Within.upd (by rw [pick_1ffffffffffffffffffffffdffffffffdfffff7fff7fff7efffbcfffffffffffffffd6a]))

theorem pick_3cfffff0000020000002 (s t : State) : State.pick 0x3cfffff0000020000002 s t = { s with
    regs := t.regs, pwr := { s.pwr with hungRecord := t.pwr.hungRecord }, keep := t.keep,
    chron := { s.chron with
      perm := t.chron.perm, ring := t.chron.ring, buffer := t.chron.buffer, nextSerial := t.chron.nextSerial,
      runs := t.chron.runs, dropped := t.chron.dropped } } := rfl

theorem railHung_within (s : State) (r : Nat) (flashAnswers : Bool) : Within 0x3cfffff0000020000002
    s (@State.railHung s r flashAnswers) := by
  unfold State.railHung
  repeat' (first
      | extract_lets
      | with_reducible apply Within.ite <;> intro _
      | with_reducible apply Within.rfl
      | (with_reducible apply Within.on (m := 0x3cfffff0000020000002) (wr_within _ _ _ _ _) (by decide))
      | (with_reducible apply Within.on (m := 0x3cfffff0000020000002) (setBit_within _ _ _ _ _) (by decide))
      | (with_reducible apply Within.on (m := 0x3cfffff0000020000002) (setSeq_within _ _) (by decide))
      | (with_reducible apply Within.on (m := 0x3cfffff0000020000002) (flash_within _) (by decide))
      | (with_reducible apply Within.on (m := 0x3cfffff0000020000002) (chronicle_within _ _ _ _ _) (by decide))
      | fail_if_no_progress with_reducible apply Within.upd (by rw [pick_3cfffff0000020000002]))

theorem railHung_regs (s : State) (r : Nat) (flashAnswers : Bool) {ks : List Field} (h1 :
    Reg.CHRON_DROP_CNT ∈ ks) (h2 : Reg.CHRON_REPEAT_CNT ∈ ks) (h3 : Reg.PWR_FAULT_HANG ∈ ks) (h4 :
    Reg.PWR_LAST_DOWN_HUNG_RAIL ∈ ks) (h5 : Reg.PWR_STATUS_STATE ∈ ks) : onlyRegs ks s
    (@State.railHung s r flashAnswers) := by
  unfold State.railHung
  repeat' (first
      | (with_reducible apply onlyRegs.rfl)
      | extract_lets
      | (with_reducible assumption)
      | (with_reducible exact List.mem_cons_self)
      | (with_reducible apply List.mem_cons_of_mem)
      | (with_reducible apply onlyRegs.ite <;> intro _)
      | (with_reducible apply onlyRegs.wr)
      | (with_reducible apply onlyRegs.on (setBit_regs _ _ _ _ _ ?_))
      | (with_reducible apply onlyRegs.on (setSeq_regs _ _ ?_))
      | (with_reducible apply onlyRegs.keep (flash_within _) (by decide))
      | (with_reducible apply onlyRegs.on (chronicle_regs _ _ _ _ _ ?_ ?_))
      | fail_if_no_progress with_reducible apply onlyRegs.upd)

theorem standbyTest_within (s : State) (testEn : Sys2Proof.Samples) : Within 0x3cfffff0000000000002
    s (@State.standbyTest s testEn) := by
  unfold State.standbyTest
  repeat' (first
      | with_reducible apply Within.ite <;> intro _
      | with_reducible apply Within.rfl
      | (with_reducible apply Within.on (m := 0x3cfffff0000000000002) (flash_within _) (by decide))
      | (with_reducible apply Within.on (m := 0x3cfffff0000000000002) (testLockout_within _) (by decide)))

theorem standbyTest_regs (s : State) (testEn : Sys2Proof.Samples) {ks : List Field} (h1 :
    Reg.CHRON_DROP_CNT ∈ ks) (h2 : Reg.CHRON_REPEAT_CNT ∈ ks) (h3 : Reg.PWR_FAULT_LOCKOUT ∈ ks) (h4 :
    Reg.PWR_FAULT_TEST_EN ∈ ks) (h5 : Reg.PWR_STATUS_STATE ∈ ks) (h6 : Reg.TOP_STRAPS_TEST_EN ∈ ks) : onlyRegs ks s
    (@State.standbyTest s testEn) := by
  unfold State.standbyTest
  repeat' (first
      | (with_reducible apply onlyRegs.rfl)
      | (with_reducible assumption)
      | (with_reducible exact List.mem_cons_self)
      | (with_reducible apply List.mem_cons_of_mem)
      | (with_reducible apply onlyRegs.ite <;> intro _)
      | (with_reducible apply onlyRegs.keep (flash_within _) (by decide))
      | (with_reducible apply onlyRegs.on (testLockout_regs _ ?_ ?_ ?_ ?_ ?_ ?_)))

theorem pick_1ffffffffffffffffffffffdffffffffdfffffffff7fff7effffffffffffffffffffd4a (s t : State) : State.pick 0x1ffffffffffffffffffffffdffffffffdfffffffff7fff7effffffffffffffffffffd4a s t = { s with
    regs := t.regs, clears := t.clears, msixEn := t.msixEn, intOwed := t.intOwed, pwr := t.pwr, start := t.start,
    keep := t.keep, chron := t.chron, events := t.events,
    prot := { s.prot with
      ranges := t.prot.ranges, slots := t.prot.slots, integState := t.prot.integState,
      granules := t.prot.granules, roots := t.prot.roots, dirtyNodes := t.prot.dirtyNodes,
      slotBad := t.prot.slotBad, slotLost := t.prot.slotLost, officers := t.prot.officers,
      nonces := t.prot.nonces, lodged := t.prot.lodged, bindings := t.prot.bindings, anchor := t.prot.anchor,
      eraseAuth := t.prot.eraseAuth, unlock := t.prot.unlock, testAccess := t.prot.testAccess,
      challenge := t.prot.challenge, rekeys := t.prot.rekeys, eraseLeft := t.prot.eraseLeft,
      erasePath := t.prot.erasePath, ide := t.prot.ide, spdm := t.prot.spdm },
    sessions := t.sessions, reqs := t.reqs, nextRid := t.nextRid, share := t.share, decoders := t.decoders,
    merge := t.merge, mbox := t.mbox, cache := t.cache, internals := t.internals, imageOps := t.imageOps,
    ops := t.ops, deltas := t.deltas, chans := t.chans, sched := t.sched,
    xlat := { s.xlat with
      tracts := t.xlat.tracts, fluid := t.xlat.fluid, blocks := t.xlat.blocks, valid := t.xlat.valid,
      opens := t.xlat.opens, nextHot := t.xlat.nextHot, nextCold := t.xlat.nextCold, precondQ := t.xlat.precondQ,
      seq := t.xlat.seq, sbe := t.xlat.sbe, moves := t.xlat.moves, moveQ := t.xlat.moveQ, copies := t.xlat.copies,
      settles := t.xlat.settles, gather := t.xlat.gather, better := t.xlat.better, whole := t.xlat.whole,
      failedSlots := t.xlat.failedSlots, badParity := t.xlat.badParity, evac := t.xlat.evac,
      again := t.xlat.again, heatEpochs := t.xlat.heatEpochs },
    err := t.err, img := t.img, shelf := t.shelf, fw := t.fw, telem := t.telem, cfgSpace := t.cfgSpace,
    bar0 := t.bar0, d3 := t.d3 } := rfl

theorem removeAux_within (s : State) : Within
    0x1ffffffffffffffffffffffdffffffffdfffffffff7fff7effffffffffffffffffffd4a s
    (@State.removeAux s) := by
  unfold State.removeAux
  repeat' (first
      | extract_lets
      | with_reducible apply Within.rfl
      | (with_reducible apply Within.on (m := 0x1ffffffffffffffffffffffdffffffffdfffffffff7fff7effffffffffffffffffffd4a) (coldCore_within _) (by decide))
      | fail_if_no_progress with_reducible apply Within.upd (by rw [pick_1ffffffffffffffffffffffdffffffffdfffffffff7fff7effffffffffffffffffffd4a]))

theorem pick_7fffffffff00000000000000000000000000000000003cfffff0000020000416 (s t : State) : State.pick 0x7fffffffff00000000000000000000000000000000003cfffff0000020000416 s t = { s with
    regs := t.regs, stroke := t.stroke, free := t.free,
    pwr := { s.pwr with aux := t.pwr.aux, hungRecord := t.pwr.hungRecord }, keep := t.keep,
    chron := { s.chron with
      perm := t.chron.perm, ring := t.chron.ring, buffer := t.chron.buffer, nextSerial := t.chron.nextSerial,
      runs := t.chron.runs, dropped := t.chron.dropped },
    shelf := t.shelf } := rfl

theorem applyAux_within (s : State) (role : Sys2Proof.Samples) (pos : BitVec 5) (pfHigh : Bool) (f :
    Sys2Proof.FlashReport) : Within 0x7fffffffff00000000000000000000000000000000003cfffff0000020000416 s
    (@State.applyAux s role pos pfHigh f) := by
  unfold State.applyAux
  repeat' (first
      | extract_lets
      | with_reducible apply Within.ite <;> intro _
      | with_reducible apply Within.rfl
      | (with_reducible apply Within.on (m := 0x7fffffffff00000000000000000000000000000000003cfffff0000020000416) (wr_within _ _ _ _ _) (by decide))
      | (with_reducible apply Within.on (m := 0x7fffffffff00000000000000000000000000000000003cfffff0000020000416) (setBit_within _ _ _ _ _) (by decide))
      | (with_reducible apply Within.on (m := 0x7fffffffff00000000000000000000000000000000003cfffff0000020000416) (loadKeep_within _) (by decide))
      | (with_reducible apply Within.on (m := 0x7fffffffff00000000000000000000000000000000003cfffff0000020000416) (tick_within _) (by decide))
      | (with_reducible apply Within.on (m := 0x7fffffffff00000000000000000000000000000000003cfffff0000020000416) (chronicle_within _ _ _ _ _) (by decide))
      | fail_if_no_progress with_reducible apply Within.upd (by rw [pick_7fffffffff00000000000000000000000000000000003cfffff0000020000416])
      | with_reducible apply Within.of_fst (by assumption)
      | with_reducible apply Within.of_fst1 (by assumption)
      | split)

theorem applyAux_regs (s : State) (role : Sys2Proof.Samples) (pos : BitVec 5) (pfHigh : Bool) (f :
    Sys2Proof.FlashReport) {ks : List Field} (h1 : Reg.CHRON_DROP_CNT ∈ ks) (h2 : Reg.CHRON_REPEAT_CNT ∈ ks) (h3 :
    Reg.KEEP_STATUS_FLASH_OK ∈ ks) (h4 : Reg.KEEP_STATUS_TIE ∈ ks) (h5 : Reg.PWR_STATUS_PF_PIN ∈ ks) (h6 :
    Reg.SHELF_STATUS_POS ∈ ks) (h7 : Reg.SHELF_STATUS_ROLE ∈ ks) (h8 : Reg.TOP_STRAPS_SHELF_POS ∈ ks) (h9 :
    Reg.TOP_STRAPS_SHELF_ROLE ∈ ks) : onlyRegs ks s (@State.applyAux s role pos pfHigh f) := by
  unfold State.applyAux
  repeat' (first
      | (with_reducible apply onlyRegs.rfl)
      | extract_lets
      | (with_reducible assumption)
      | (with_reducible exact List.mem_cons_self)
      | (with_reducible apply List.mem_cons_of_mem)
      | (with_reducible apply onlyRegs.ite <;> intro _)
      | (with_reducible apply onlyRegs.wr)
      | (with_reducible apply onlyRegs.on (setBit_regs _ _ _ _ _ ?_))
      | (with_reducible apply onlyRegs.on (loadKeep_regs _ ?_ ?_ ?_))
      | (with_reducible apply onlyRegs.keep (tick_within _) (by decide))
      | (with_reducible apply onlyRegs.on (chronicle_regs _ _ _ _ _ ?_ ?_))
      | fail_if_no_progress with_reducible apply onlyRegs.upd
      | with_reducible apply onlyRegs.of_fst (by assumption)
      | with_reducible apply onlyRegs.of_fst1 (by assumption)
      | split)

end Sys2Proof.Machine
end

