-- ==== Sys2Proof/Laws/PowerFamilyFrames.lean ====
section
/-! SUPPORT. For each function of Machine/PowerFamily.lean over the state: the part of the state outside which it changes
nothing (`…_within`), and the register fields that it may write (`…_regs`). -/

namespace Sys2Proof.Machine

set_option maxRecDepth 4000

theorem showPresence_within (s : State) (q : Sys2Proof.PmicReport) : Within 2 s
    (@State.showPresence s q) := by
  unfold State.showPresence
  repeat' (first
      | with_reducible apply Within.rfl
      | (with_reducible apply Within.on (m := 2) (wr_within _ _ _ _ _) (by decide)))

theorem showPresence_regs (s : State) (q : Sys2Proof.PmicReport) {ks : List Field} (h1 :
    Reg.PWR_PRESENT_A_PRI ∈ ks) (h2 : Reg.PWR_PRESENT_A_SEC ∈ ks) (h3 : Reg.PWR_PRESENT_B_PRI ∈ ks) (h4 :
    Reg.PWR_PRESENT_B_SEC ∈ ks) : onlyRegs ks s (@State.showPresence s q) := by
  unfold State.showPresence
  repeat' (first
      | (with_reducible apply onlyRegs.rfl)
      | (with_reducible assumption)
      | (with_reducible exact List.mem_cons_self)
      | (with_reducible apply List.mem_cons_of_mem)
      | (with_reducible apply onlyRegs.wr))

theorem writePages_within (s : State) : Within 32 s (@State.writePages s) := by
  unfold State.writePages
  repeat' (first
      | with_reducible apply Within.rfl
      | (with_reducible apply Within.on (m := 32) (toPmics_within _ _ _ _) (by decide))
      | (with_reducible apply Within.foldl; intro t x))

theorem pmicRefused_within (s : State) : Within 0x3cfffff0000000000002 s
    (@State.pmicRefused s) := by
  unfold State.pmicRefused
  repeat' (first
      | with_reducible apply Within.rfl
      | (with_reducible apply Within.on (m := 0x3cfffff0000000000002) (flash_within _) (by decide))
      | (with_reducible apply Within.on (m := 0x3cfffff0000000000002) (lockout_within _) (by decide))
      | (with_reducible apply Within.on (m := 0x3cfffff0000000000002) (setBit_within _ _ _ _ _) (by decide))
      | (with_reducible apply Within.on (m := 0x3cfffff0000000000002) (noteUpFail_within _ _ _ _) (by decide)))

theorem pmicRefused_regs (s : State) {ks : List Field} (h1 : Reg.CHRON_DROP_CNT ∈ ks) (h2 :
    Reg.CHRON_REPEAT_CNT ∈ ks) (h3 : Reg.PWR_FAULT_LOCKOUT ∈ ks) (h4 : Reg.PWR_FAULT_PMIC_CONFIG ∈ ks) (h5 :
    Reg.PWR_STATUS_STATE ∈ ks) (h6 : Reg.PWR_UPFAIL_CNT ∈ ks) : onlyRegs ks s (@State.pmicRefused s)
    := by
  unfold State.pmicRefused
  repeat' (first
      | (with_reducible apply onlyRegs.rfl)
      | (with_reducible assumption)
      | (with_reducible exact List.mem_cons_self)
      | (with_reducible apply List.mem_cons_of_mem)
      | (with_reducible apply onlyRegs.keep (flash_within _) (by decide))
      | (with_reducible apply onlyRegs.on (lockout_regs _ ?_ ?_))
      | (with_reducible apply onlyRegs.on (setBit_regs _ _ _ _ _ ?_))
      | (with_reducible apply onlyRegs.on (noteUpFail_regs _ _ _ _ ?_ ?_ ?_)))

theorem pick_10000000000018000006000000000000100003b30e803cfffffffffc00001012 (s t : State) : State.pick 0x10000000000018000006000000000000100003b30e803cfffffffffc00001012 s t = { s with
    regs := t.regs, free := t.free, pwr := { s.pwr with rail := t.pwr.rail }, start := t.start, keep := t.keep,
    chron := { s.chron with
      perm := t.chron.perm, ring := t.chron.ring, buffer := t.chron.buffer, nextSerial := t.chron.nextSerial,
      runs := t.chron.runs, dropped := t.chron.dropped },
    prot := { s.prot with
      ranges := t.prot.ranges, integState := t.prot.integState, granules := t.prot.granules,
      roots := t.prot.roots, officers := t.prot.officers, nonces := t.prot.nonces, bindings := t.prot.bindings,
      anchor := t.prot.anchor, unlock := t.prot.unlock, testAccess := t.prot.testAccess,
      challenge := t.prot.challenge },
    merge := { s.merge with marker := t.merge.marker },
    xlat := { s.xlat with seq := t.xlat.seq, sbe := t.xlat.sbe },
    err := { s.err with e := t.err.e, eSaved := t.err.eSaved },
    shelf := { s.shelf with granted := t.shelf.granted } } := rfl

theorem packageOn_within (s : State) (bootSel : Sys2Proof.Samples) : Within
    0x10000000000018000006000000000000100003b30e803cfffffffffc00001012 s (@State.packageOn
    s bootSel) := by
  unfold State.packageOn
  repeat' (first
      | extract_lets
      | with_reducible apply Within.ite <;> intro _
      | with_reducible apply Within.rfl
      | (with_reducible apply Within.on (m := 0x10000000000018000006000000000000100003b30e803cfffffffffc00001012) (setBit_within _ _ _ _ _) (by decide))
      | (with_reducible apply Within.on (m := 0x10000000000018000006000000000000100003b30e803cfffffffffc00001012) (wr_within _ _ _ _ _) (by decide))
      | (with_reducible apply Within.on (m := 0x10000000000018000006000000000000100003b30e803cfffffffffc00001012) (setSeq_within _ _) (by decide))
      | (with_reducible apply Within.on (m := 0x10000000000018000006000000000000100003b30e803cfffffffffc00001012) (readKeep_within _) (by decide))
      | (with_reducible apply Within.on (m := 0x10000000000018000006000000000000100003b30e803cfffffffffc00001012) (askSlot_within _) (by decide))
      | (with_reducible apply Within.on (m := 0x10000000000018000006000000000000100003b30e803cfffffffffc00001012) (flash_within _) (by decide))
      | (with_reducible apply Within.on (m := 0x10000000000018000006000000000000100003b30e803cfffffffffc00001012) (keepWrite_within _ _ _ _) (by decide))
      | fail_if_no_progress with_reducible apply Within.upd (by rw [pick_10000000000018000006000000000000100003b30e803cfffffffffc00001012]))

theorem pick_8001022 (s t : State) : State.pick 134221858 s t = { s with
    regs := t.regs, out := t.out, pwr := { s.pwr with rail := t.pwr.rail, fpReset := t.pwr.fpReset } } := rfl

theorem mediaOn_within (s : State) : Within 134221858 s (@State.mediaOn s) := by
  unfold State.mediaOn
  repeat' (first
      | extract_lets
      | with_reducible apply Within.rfl
      | (with_reducible apply Within.on (m := 134221858) (wr_within _ _ _ _ _) (by decide))
      | (with_reducible apply Within.on (m := 134221858) (setSeq_within _ _) (by decide))
      | (with_reducible apply Within.on (m := 134221858) (emit_within _ _) (by decide))
      | (with_reducible apply Within.foldl; intro t x)
      | fail_if_no_progress with_reducible apply Within.upd (by rw [pick_8001022]))

theorem pick_10000000000018000006000000000000100003b30e803cfffffffffc08007032 (s t : State) : State.pick 0x10000000000018000006000000000000100003b30e803cfffffffffc08007032 s t = { s with
    regs := t.regs, free := t.free, out := t.out,
    pwr := { s.pwr with
      rail := t.pwr.rail, ramping := t.pwr.ramping, goodPolls := t.pwr.goodPolls, fpReset := t.pwr.fpReset },
    start := t.start, keep := t.keep,
    chron := { s.chron with
      perm := t.chron.perm, ring := t.chron.ring, buffer := t.chron.buffer, nextSerial := t.chron.nextSerial,
      runs := t.chron.runs, dropped := t.chron.dropped },
    prot := { s.prot with
      ranges := t.prot.ranges, integState := t.prot.integState, granules := t.prot.granules,
      roots := t.prot.roots, officers := t.prot.officers, nonces := t.prot.nonces, bindings := t.prot.bindings,
      anchor := t.prot.anchor, unlock := t.prot.unlock, testAccess := t.prot.testAccess,
      challenge := t.prot.challenge },
    merge := { s.merge with marker := t.merge.marker },
    xlat := { s.xlat with seq := t.xlat.seq, sbe := t.xlat.sbe },
    err := { s.err with e := t.err.e, eSaved := t.err.eSaved },
    shelf := { s.shelf with granted := t.shelf.granted } } := rfl

theorem railIsGood_within (s : State) (r : Nat) (bootSel : Sys2Proof.Samples) : Within
    0x10000000000018000006000000000000100003b30e803cfffffffffc08007032 s
    (@State.railIsGood s r bootSel) := by
  unfold State.railIsGood
  repeat' (first
      | extract_lets
      | with_reducible apply Within.ite <;> intro _
      | with_reducible apply Within.rfl
      | (with_reducible apply Within.on (m := 0x10000000000018000006000000000000100003b30e803cfffffffffc08007032) (setGood_within _ _ _) (by decide))
      | (with_reducible apply Within.on (m := 0x10000000000018000006000000000000100003b30e803cfffffffffc08007032) (packageOn_within _ _) (by decide))
      | (with_reducible apply Within.on (m := 0x10000000000018000006000000000000100003b30e803cfffffffffc08007032) (mediaOn_within _) (by decide))
      | fail_if_no_progress with_reducible apply Within.upd (by rw [pick_10000000000018000006000000000000100003b30e803cfffffffffc08007032]))

theorem servicePollOne_within (s : State) (q : Sys2Proof.RailPoll) : Within
    0x1ffffffffffffffffffffffdffffffffdfffff7fff7fff7efffbcfffffffffffffffd6a s
    (@State.servicePollOne s q) := by
  unfold State.servicePollOne
  repeat' (first
      | extract_lets
      | with_reducible apply Within.ite <;> intro _
      | with_reducible apply Within.rfl
      | (with_reducible apply Within.on (m := 0x1ffffffffffffffffffffffdffffffffdfffff7fff7fff7efffbcfffffffffffffffd6a) (railFault_within _ _ _) (by decide))
      | (with_reducible apply Within.on (m := 0x1ffffffffffffffffffffffdffffffffdfffff7fff7fff7efffbcfffffffffffffffd6a) (showPoll_within _ _) (by decide))
      | fail_if_no_progress with_reducible apply Within.upd (by rw [pick_1ffffffffffffffffffffffdffffffffdfffff7fff7fff7efffbcfffffffffffffffd6a]))

theorem collapse_within (s : State) (r : Nat) : Within 0x3cc00000000000000002 s
    (@State.collapse s r) := by
  unfold State.collapse
  repeat' (first
      | extract_lets
      | with_reducible apply Within.ite <;> intro _
      | with_reducible apply Within.rfl
      | (with_reducible apply Within.on (m := 0x3cc00000000000000002) (setGood_within _ _ _) (by decide))
      | (with_reducible apply Within.on (m := 0x3cc00000000000000002) (setBit_within _ _ _ _ _) (by decide))
      | (with_reducible apply Within.on (m := 0x3cc00000000000000002) (wr_within _ _ _ _ _) (by decide))
      | (with_reducible apply Within.on (m := 0x3cc00000000000000002) (chronicle_within _ _ _ _ _) (by decide)))

theorem watchCollapse_within (s : State) (q : Sys2Proof.RailPoll) : Within 0x3cc00000000000000002 s
    (@State.watchCollapse s q) := by
  unfold State.watchCollapse
  repeat' (first
      | with_reducible apply Within.ite <;> intro _
      | with_reducible apply Within.rfl
      | (with_reducible apply Within.on (m := 0x3cc00000000000000002) (collapse_within _ _) (by decide)))

theorem capoCreditsBack_within (s : State) : Within 0x100000000000000000000000000000020 s
    (@State.capoCreditsBack s) := by
  unfold State.capoCreditsBack
  repeat' (first
      | extract_lets
      | with_reducible apply Within.ite <;> intro _
      | with_reducible apply Within.rfl
      | (with_reducible apply Within.on (m := 0x100000000000000000000000000000020) (emit_within _ _) (by decide))
      | (with_reducible apply Within.foldl; intro t x)
      | fail_if_no_progress with_reducible apply Within.upd (by rw [pick_100000000000000000000000000000020]))

theorem pick_1000000000003cc00c10000000080002 (s t : State) : State.pick 0x1000000000003cc00c10000000080002 s t = { s with
    regs := t.regs, pwr := { s.pwr with dirtySet := t.pwr.dirtySet },
    keep := { s.keep with shadow := t.keep.shadow, queue := t.keep.queue, lost := t.keep.lost },
    chron := { s.chron with
      perm := t.chron.perm, ring := t.chron.ring, buffer := t.chron.buffer, nextSerial := t.chron.nextSerial,
      runs := t.chron.runs, dropped := t.chron.dropped },
    merge := { s.merge with marker := t.merge.marker } } := rfl

theorem dirtyAgain_within (s : State) : Within 0x1000000000003cc00c10000000080002 s
    (@State.dirtyAgain s) := by
  unfold State.dirtyAgain
  repeat' (first
      | extract_lets
      | with_reducible apply Within.ite <;> intro _
      | with_reducible apply Within.rfl
      | (with_reducible apply Within.on (m := 0x1000000000003cc00c10000000080002) (raiseDsc_within _ _) (by decide))
      | (with_reducible apply Within.on (m := 0x1000000000003cc00c10000000080002) (savePage1_within _) (by decide))
      | fail_if_no_progress with_reducible apply Within.upd (by rw [pick_1000000000003cc00c10000000080002]))

theorem dirtyAgain_regs (s : State) {ks : List Field} (h1 : Reg.CHRON_DROP_CNT ∈ ks) (h2 :
    Reg.CHRON_REPEAT_CNT ∈ ks) (h3 : Reg.MERGE_DSC ∈ ks) : onlyRegs ks s (@State.dirtyAgain s) := by
  unfold State.dirtyAgain
  repeat' (first
      | (with_reducible apply onlyRegs.rfl)
      | extract_lets
      | (with_reducible assumption)
      | (with_reducible exact List.mem_cons_self)
      | (with_reducible apply List.mem_cons_of_mem)
      | (with_reducible apply onlyRegs.ite <;> intro _)
      | (with_reducible apply onlyRegs.on (raiseDsc_regs _ _ ?_ ?_ ?_))
      | (with_reducible apply onlyRegs.keep (savePage1_within _) (by decide))
      | fail_if_no_progress with_reducible apply onlyRegs.upd)

theorem pick_400000000000000000000000000000000000000000000003ffff0000000000000 (s t : State) : State.pick 0x400000000000000000000000000000000000000000000003ffff0000000000000 s t = { s with
    keep := t.keep, fw := { s.fw with abandoned := t.fw.abandoned } } := rfl

theorem activationBack_within (s : State) : Within
    0x400000000000000000000000000000000000000000000003ffff0000000000000 s
    (@State.activationBack s) := by
  unfold State.activationBack
  repeat' (first
      | with_reducible apply Within.ite <;> intro _
      | with_reducible apply Within.rfl
      | (with_reducible apply Within.on (m := 0x400000000000000000000000000000000000000000000003ffff0000000000000) (setDescr_within _ _) (by decide))
      | fail_if_no_progress with_reducible apply Within.upd (by rw [pick_400000000000000000000000000000000000000000000003ffff0000000000000]))

end Sys2Proof.Machine
end

