-- ==== Sys2Proof/Laws/StartFamilyFrames.lean ====
section
/-! SUPPORT. For each function of Machine/StartFamily.lean over the state: the part of the state outside which it changes
nothing (`…_within`), and the register fields that it may write (`…_regs`). -/

namespace Sys2Proof.Machine

set_option maxRecDepth 4000

theorem takeImage_within (s : State) (row : Nat) (active : Sys2Proof.ImageReport) (staging :
    Sys2Proof.ImageReport) : Within 0xfe000000000000000000000000000000003cc00000000000000002 s
    (@State.takeImage s row active staging) := by
  unfold State.takeImage
  repeat' (first
      | with_reducible apply Within.rfl
      | (with_reducible apply Within.on (m := 0xfe000000000000000000000000000000003cc00000000000000002) (chronicle_within _ _ _ _ _) (by decide))
      | (with_reducible apply Within.on (m := 0xfe000000000000000000000000000000003cc00000000000000002) (enterRecovery_within _) (by decide))
      | fail_if_no_progress with_reducible apply Within.upd (by rw [pick_fe000000000000000000000000000000003cc00000000000000002])
      | with_reducible apply Within.of_fst (by assumption)
      | with_reducible apply Within.of_fst1 (by assumption)
      | split)

theorem takeImage_regs (s : State) (row : Nat) (active : Sys2Proof.ImageReport) (staging :
    Sys2Proof.ImageReport) {ks : List Field} (h1 : Reg.CHRON_DROP_CNT ∈ ks) (h2 : Reg.CHRON_REPEAT_CNT ∈ ks) (h3 :
    Reg.TOP_STATUS_RECOVERY ∈ ks) : onlyRegs ks s (@State.takeImage s row active staging) := by
  unfold State.takeImage
  repeat' (first
      | (with_reducible apply onlyRegs.rfl)
      | (with_reducible assumption)
      | (with_reducible exact List.mem_cons_self)
      | (with_reducible apply List.mem_cons_of_mem)
      | (with_reducible apply onlyRegs.on (chronicle_regs _ _ _ _ _ ?_ ?_))
      | (with_reducible apply onlyRegs.on (enterRecovery_regs _ ?_))
      | fail_if_no_progress with_reducible apply onlyRegs.upd
      | with_reducible apply onlyRegs.of_fst (by assumption)
      | with_reducible apply onlyRegs.of_fst1 (by assumption)
      | split)

theorem pick_800000000000000000000000000 (s t : State) : State.pick 0x800000000000000000000000000 s t = { s with
    prot := { s.prot with eraseLeft := t.prot.eraseLeft } } := rfl

theorem markedBlocks_within (s : State) : Within 0x800000000000000000000000000 s
    (@State.markedBlocks s) := by
  unfold State.markedBlocks
  repeat' (first
      | with_reducible apply Within.ite <;> intro _
      | with_reducible apply Within.rfl
      | fail_if_no_progress with_reducible apply Within.upd (by rw [pick_800000000000000000000000000]))

theorem rangeUnverified_within (s : State) (n : Nat) : Within 0x3cc00000000000000002 s
    (@State.rangeUnverified s n) := by
  unfold State.rangeUnverified
  repeat' (first
      | with_reducible apply Within.rfl
      | (with_reducible apply Within.on (m := 0x3cc00000000000000002) (chronicle_within _ _ _ _ _) (by decide)))

theorem rangeUnverified_regs (s : State) (n : Nat) {ks : List Field} (h1 : Reg.CHRON_DROP_CNT ∈ ks)
    (h2 : Reg.CHRON_REPEAT_CNT ∈ ks) : onlyRegs ks s (@State.rangeUnverified s n) := by
  unfold State.rangeUnverified
  repeat' (first
      | (with_reducible apply onlyRegs.rfl)
      | (with_reducible assumption)
      | (with_reducible exact List.mem_cons_self)
      | (with_reducible apply List.mem_cons_of_mem)
      | (with_reducible apply onlyRegs.on (chronicle_regs _ _ _ _ _ ?_ ?_)))

theorem pick_2003cc00000000000000002 (s t : State) : State.pick 0x2003cc00000000000000002 s t = { s with
    regs := t.regs,
    chron := { s.chron with
      perm := t.chron.perm, ring := t.chron.ring, buffer := t.chron.buffer, nextSerial := t.chron.nextSerial,
      runs := t.chron.runs, dropped := t.chron.dropped },
    prot := { s.prot with integState := t.prot.integState } } := rfl

theorem verifyRoots_within (s : State) (failed : List Nat) : Within 0x2003cc00000000000000002 s
    (@State.verifyRoots s failed) := by
  unfold State.verifyRoots
  repeat' (first
      | extract_lets
      | with_reducible apply Within.rfl
      | (with_reducible apply Within.on (m := 0x2003cc00000000000000002) (rangeUnverified_within _ _) (by decide))
      | (with_reducible apply Within.foldl; intro t x)
      | fail_if_no_progress with_reducible apply Within.upd (by rw [pick_2003cc00000000000000002]))

theorem verifyRoots_regs (s : State) (failed : List Nat) {ks : List Field} (h1 : Reg.CHRON_DROP_CNT
    ∈ ks) (h2 : Reg.CHRON_REPEAT_CNT ∈ ks) : onlyRegs ks s (@State.verifyRoots s failed) := by
  unfold State.verifyRoots
  repeat' (first
      | (with_reducible apply onlyRegs.rfl)
      | extract_lets
      | (with_reducible assumption)
      | (with_reducible exact List.mem_cons_self)
      | (with_reducible apply List.mem_cons_of_mem)
      | (with_reducible apply onlyRegs.on (rangeUnverified_regs _ _ ?_ ?_))
      | (with_reducible apply onlyRegs.foldl; intro t x)
      | fail_if_no_progress with_reducible apply onlyRegs.upd)

theorem pick_4000000000000000000001000000000000040000000000000000000000080002 (s t : State) : State.pick 0x4000000000000000000001000000000000040000000000000000000000080002 s t = { s with
    regs := t.regs, pwr := { s.pwr with dirtySet := t.pwr.dirtySet }, share := t.share,
    sched := { s.sched with since := t.sched.since }, shelf := { s.shelf with timeKnown := t.shelf.timeKnown } } := rfl

theorem becomeReady_within (s : State) : Within
    0x4000000000000000000001000000000000040000000000000000000000080002 s
    (@State.becomeReady s) := by
  unfold State.becomeReady
  repeat' (first
      | extract_lets
      | with_reducible apply Within.rfl
      | (with_reducible apply Within.on (m := 0x4000000000000000000001000000000000040000000000000000000000080002) (setBit_within _ _ _ _ _) (by decide))
      | (with_reducible apply Within.on (m := 0x4000000000000000000001000000000000040000000000000000000000080002) (boundUpdate_within _) (by decide))
      | fail_if_no_progress with_reducible apply Within.upd (by rw [pick_4000000000000000000001000000000000040000000000000000000000080002]))

theorem becomeReady_regs (s : State) {ks : List Field} (h1 : Reg.SCHED_STATUS_BOUND_ACTIVE ∈ ks)
    (h2 : Reg.TOP_STATUS_READY ∈ ks) : onlyRegs ks s (@State.becomeReady s) := by
  unfold State.becomeReady
  repeat' (first
      | (with_reducible apply onlyRegs.rfl)
      | extract_lets
      | (with_reducible assumption)
      | (with_reducible exact List.mem_cons_self)
      | (with_reducible apply List.mem_cons_of_mem)
      | (with_reducible apply onlyRegs.on (setBit_regs _ _ _ _ _ ?_))
      | (with_reducible apply onlyRegs.on (boundUpdate_regs _ ?_))
      | fail_if_no_progress with_reducible apply onlyRegs.upd)

theorem pick_1000000000000000000003ffff8000000000000 (s t : State) : State.pick 0x1000000000000000000003ffff8000000000000 s t = { s with
    start := { s.start with copying := t.start.copying }, keep := t.keep, imageOps := t.imageOps } := rfl

theorem startCopy_within (s : State) : Within 0x1000000000000000000003ffff8000000000000 s
    (@State.startCopy s) := by
  unfold State.startCopy
  repeat' (first
      | with_reducible apply Within.ite <;> intro _
      | with_reducible apply Within.rfl
      | (with_reducible apply Within.on (m := 0x1000000000000000000003ffff8000000000000) (flash_within _) (by decide))
      | fail_if_no_progress with_reducible apply Within.upd (by rw [pick_1000000000000000000003ffff8000000000000]))

theorem pick_1c00007800800000000000000000004117fffc6e011a00000003cfffff2000000000062 (s t : State) : State.pick 0x1c00007800800000000000000000004117fffc6e011a00000003cfffff2000000000062 s t = { s with
    regs := t.regs, out := t.out, msixEn := t.msixEn, start := { s.start with warm := t.start.warm },
    keep := t.keep,
    chron := { s.chron with
      perm := t.chron.perm, ring := t.chron.ring, buffer := t.chron.buffer, nextSerial := t.chron.nextSerial,
      runs := t.chron.runs, dropped := t.chron.dropped },
    prot := { s.prot with ide := t.prot.ide }, sessions := t.sessions, reqs := t.reqs, decoders := t.decoders,
    merge := { s.merge with capo := t.merge.capo, lost := t.merge.lost, cut := t.merge.cut },
    mbox := { s.mbox with stored := t.mbox.stored, bg := t.mbox.bg }, cache := t.cache, imageOps := t.imageOps,
    chans := t.chans, sched := { s.sched with capoAsk := t.sched.capoAsk },
    shelf := { s.shelf with act := t.shelf.act },
    fw := { s.fw with
      transfer := t.fw.transfer, cmd := t.fw.cmd, act := t.fw.act, abandoned := t.fw.abandoned },
    cfgSpace := t.cfgSpace, bar0 := t.bar0, d3 := t.d3 } := rfl

theorem startWarm_within (s : State) : Within
    0x1c00007800800000000000000000004117fffc6e011a00000003cfffff2000000000062 s
    (@State.startWarm s) := by
  unfold State.startWarm
  repeat' (first
      | extract_lets
      | with_reducible apply Within.ite <;> intro _
      | with_reducible apply Within.rfl
      | (with_reducible apply Within.on (m := 0x1c00007800800000000000000000004117fffc6e011a00000003cfffff2000000000062) (closeTransfer_within _) (by decide))
      | (with_reducible apply Within.on (m := 0x1c00007800800000000000000000004117fffc6e011a00000003cfffff2000000000062) (linkGone_within _ _ _) (by decide))
      | (with_reducible apply Within.on (m := 0x1c00007800800000000000000000004117fffc6e011a00000003cfffff2000000000062) (setBit_within _ _ _ _ _) (by decide))
      | (with_reducible apply Within.on (m := 0x1c00007800800000000000000000004117fffc6e011a00000003cfffff2000000000062) (beginFlush_within _) (by decide))
      | (with_reducible apply Within.foldl; intro t x)
      | fail_if_no_progress with_reducible apply Within.upd (by rw [pick_1c00007800800000000000000000004117fffc6e011a00000003cfffff2000000000062]))

theorem startWarm_regs (s : State) {ks : List Field} (h1 : Reg.CHRON_DROP_CNT ∈ ks) (h2 :
    Reg.CHRON_REPEAT_CNT ∈ ks) (h3 : Reg.MERGE_STATUS_CAPO ∈ ks) (h4 : Reg.PORT_EVENT_LINK_DOWN ∈ ks) (h5 :
    Reg.PORT_LINKDOWN_CNT ∈ ks) (h6 : Reg.PORT_LINK_STATUS0_FLIT ∈ ks) (h7 : Reg.PORT_LINK_STATUS0_IDE ∈ ks) (h8 :
    Reg.PORT_LINK_STATUS0_RATE ∈ ks) (h9 : Reg.PORT_LINK_STATUS0_UP ∈ ks) (h10 : Reg.PORT_LINK_STATUS0_WIDTH ∈ ks)
    (h11 : Reg.PORT_LINK_STATUS1_FLIT ∈ ks) (h12 : Reg.PORT_LINK_STATUS1_IDE ∈ ks) (h13 : Reg.PORT_LINK_STATUS1_RATE ∈
    ks) (h14 : Reg.PORT_LINK_STATUS1_UP ∈ ks) (h15 : Reg.PORT_LINK_STATUS1_WIDTH ∈ ks) (h16 :
    Reg.SESS_SPILL_STATUS_SHARED_FREE ∈ ks) (h17 : Reg.SHELF_ACT_STATUS_ACT ∈ ks) (h18 : Reg.TOP_STATUS_CAPO ∈ ks)
    (h19 : Reg.TOP_STATUS_READY ∈ ks) (h20 : Reg.TOP_STATUS_WARM_BUSY ∈ ks) : onlyRegs ks s
    (@State.startWarm s) := by
  unfold State.startWarm
  repeat' (first
      | (with_reducible apply onlyRegs.rfl)
      | extract_lets
      | (with_reducible assumption)
      | (with_reducible exact List.mem_cons_self)
      | (with_reducible apply List.mem_cons_of_mem)
      | (with_reducible apply onlyRegs.ite <;> intro _)
      | (with_reducible apply onlyRegs.on (closeTransfer_regs _ ?_ ?_))
      | (with_reducible apply onlyRegs.on (linkGone_regs _ _ _ ?_ ?_ ?_ ?_ ?_ ?_ ?_ ?_ ?_ ?_ ?_ ?_ ?_))
      | (with_reducible apply onlyRegs.on (setBit_regs _ _ _ _ _ ?_))
      | (with_reducible apply onlyRegs.on (beginFlush_regs _ ?_ ?_ ?_ ?_ ?_))
      | (with_reducible apply onlyRegs.foldl; intro t x)
      | fail_if_no_progress with_reducible apply onlyRegs.upd)

theorem applyKept_within (s : State) : Within 0xf4004200007fffff803cc00000000000000032 s
    (@State.applyKept s) := by
  unfold State.applyKept
  repeat' (first
      | with_reducible apply Within.rfl
      | (with_reducible apply Within.on (m := 0xf4004200007fffff803cc00000000000000032) (applyMotion_within _ _) (by decide))
      | (with_reducible apply Within.foldl; intro t x))

theorem pick_1ffffff80020000000163e3ffffffffeffffff7fff7fffffffffffffffffffc0008017a (s t : State) : State.pick 0x1ffffff80020000000163e3ffffffffeffffff7fff7fffffffffffffffffffc0008017a s t = { s with
    regs := t.regs, clears := t.clears, free := t.free, out := t.out, msixEn := t.msixEn, intOwed := t.intOwed,
    pwr := { s.pwr with dirtySet := t.pwr.dirtySet }, start := t.start, keep := t.keep, chron := t.chron,
    events := t.events, prot := t.prot, sessions := t.sessions, reqs := t.reqs, nextRid := t.nextRid,
    share := t.share, decoders := t.decoders, merge := t.merge,
    mbox := { s.mbox with
      stored := t.mbox.stored, bg := t.mbox.bg, shutdown := t.mbox.shutdown, alerts := t.mbox.alerts },
    cache := t.cache, internals := t.internals, imageOps := t.imageOps, pages := t.pages, ops := t.ops,
    deltas := t.deltas, sched := t.sched, xlat := t.xlat,
    err := { s.err with
      poison := t.err.poison, poisonLost := t.err.poisonLost, refresh := t.err.refresh,
      rewrites := t.err.rewrites, scrub := t.err.scrub, scanResults := t.err.scanResults, wake := t.err.wake,
      lastHealth := t.err.lastHealth, lastMedia := t.err.lastMedia, lastUncorrHi := t.err.lastUncorrHi },
    shelf := { s.shelf with pointReport := t.shelf.pointReport }, fw := t.fw, telem := t.telem,
    cfgSpace := t.cfgSpace, bar0 := t.bar0, d3 := t.d3 } := rfl

theorem warmFlushed_within (s : State) : Within
    0x1ffffff80020000000163e3ffffffffeffffff7fff7fffffffffffffffffffc0008017a s
    (@State.warmFlushed s) := by
  unfold State.warmFlushed
  repeat' (first
      | extract_lets
      | with_reducible apply Within.rfl
      | (with_reducible apply Within.on (m := 0x1ffffff80020000000163e3ffffffffeffffff7fff7fffffffffffffffffffc0008017a) (applyKept_within _) (by decide))
      | (with_reducible apply Within.on (m := 0x1ffffff80020000000163e3ffffffffeffffff7fff7fffffffffffffffffffc0008017a) (markFlush_within _) (by decide))
      | (with_reducible apply Within.on (m := 0x1ffffff80020000000163e3ffffffffeffffff7fff7fffffffffffffffffffc0008017a) (flushAll_within _) (by decide))
      | (with_reducible apply Within.on (m := 0x1ffffff80020000000163e3ffffffffeffffff7fff7fffffffffffffffffffc0008017a) (saveSpread_within _) (by decide))
      | (with_reducible apply Within.on (m := 0x1ffffff80020000000163e3ffffffffeffffff7fff7fffffffffffffffffffc0008017a) (capoRecord_within _ _ _ _) (by decide))
      | (with_reducible apply Within.on (m := 0x1ffffff80020000000163e3ffffffffeffffff7fff7fffffffffffffffffffc0008017a) (tick_within _) (by decide))
      | (with_reducible apply Within.on (m := 0x1ffffff80020000000163e3ffffffffeffffff7fff7fffffffffffffffffffc0008017a) (saveChronicle_within _ _) (by decide))
      | (with_reducible apply Within.on (m := 0x1ffffff80020000000163e3ffffffffeffffff7fff7fffffffffffffffffffc0008017a) (saveKeep_within _) (by decide))
      | (with_reducible apply Within.on (m := 0x1ffffff80020000000163e3ffffffffeffffff7fff7fffffffffffffffffffc0008017a) (closeRuns_within _) (by decide))
      | (with_reducible apply Within.on (m := 0x1ffffff80020000000163e3ffffffffeffffff7fff7fffffffffffffffffffc0008017a) (restoreProt_within _) (by decide))
      | (with_reducible apply Within.on (m := 0x1ffffff80020000000163e3ffffffffeffffff7fff7fffffffffffffffffffc0008017a) (warmCore_within _) (by decide))
      | (with_reducible apply Within.on (m := 0x1ffffff80020000000163e3ffffffffeffffff7fff7fffffffffffffffffffc0008017a) (setBit_within _ _ _ _ _) (by decide))
      | (with_reducible apply Within.on (m := 0x1ffffff80020000000163e3ffffffffeffffff7fff7fffffffffffffffffffc0008017a) (flash_within _) (by decide))
      | fail_if_no_progress with_reducible apply Within.upd (by rw [pick_1ffffff80020000000163e3ffffffffeffffff7fff7fffffffffffffffffffc0008017a]))

end Sys2Proof.Machine
end

