-- ==== Sys2Proof/Laws/ImageFamilyFrames.lean ====
section
/-! SUPPORT. For each function of Machine/ImageFamily.lean over the state: the part of the state outside which it changes
nothing (`…_within`), and the register fields that it may write (`…_regs`). -/

namespace Sys2Proof.Machine

set_option maxRecDepth 4000

theorem pick_180000000000000000000000001000006000000000000003ffff0000000000020 (s t : State) : State.pick 0x180000000000000000000000001000006000000000000003ffff0000000000020 s t = { s with
    out := t.out, keep := t.keep, mbox := { s.mbox with stored := t.mbox.stored, bg := t.mbox.bg },
    imageOps := t.imageOps, fw := { s.fw with transfer := t.fw.transfer, cmd := t.fw.cmd } } := rfl

theorem takeUnits_within (s : State) (p : Sys2Proof.CmdPath) (t0 : Transfer)
    (offset : Nat) (l : List Nat) (h : Sys2Proof.ImageReport) (last : Bool) : Within
    0x180000000000000000000000001000006000000000000003ffff0000000000020 s
    (@State.takeUnits s p t0 offset l h last) := by
  unfold State.takeUnits
  repeat' (first
      | extract_lets
      | with_reducible apply Within.ite <;> intro _
      | with_reducible apply Within.rfl
      | (with_reducible apply Within.on (m := 0x180000000000000000000000001000006000000000000003ffff0000000000020) (reply_within _ _ _ _ _) (by decide))
      | (with_reducible apply Within.on (m := 0x180000000000000000000000001000006000000000000003ffff0000000000020) (flash_within _) (by decide))
      | (with_reducible apply Within.on (m := 0x180000000000000000000000001000006000000000000003ffff0000000000020) (bgStart_within _ _ _) (by decide))
      | fail_if_no_progress with_reducible apply Within.upd (by rw [pick_180000000000000000000000001000006000000000000003ffff0000000000020])
      | with_reducible apply Within.of_fst (by assumption)
      | with_reducible apply Within.of_fst1 (by assumption)
      | split)

theorem transferRecord_within (s : State) (what : Nat) (version : Nat) : Within
    0x3cc00000000000000002 s (@State.transferRecord s what version) := by
  unfold State.transferRecord
  repeat' (first
      | with_reducible apply Within.rfl
      | (with_reducible apply Within.on (m := 0x3cc00000000000000002) (chronicle_within _ _ _ _ _) (by decide)))

theorem transferRecord_regs (s : State) (what : Nat) (version : Nat) {ks : List Field} (h1 :
    Reg.CHRON_DROP_CNT ∈ ks) (h2 : Reg.CHRON_REPEAT_CNT ∈ ks) : onlyRegs ks s (@State.transferRecord s
    what version) := by
  unfold State.transferRecord
  repeat' (first
      | (with_reducible apply onlyRegs.rfl)
      | (with_reducible assumption)
      | (with_reducible exact List.mem_cons_self)
      | (with_reducible apply List.mem_cons_of_mem)
      | (with_reducible apply onlyRegs.on (chronicle_regs _ _ _ _ _ ?_ ?_)))

theorem pick_1800000000000000000000000010000060000000000003cfffff0000000000022 (s t : State) : State.pick 0x1800000000000000000000000010000060000000000003cfffff0000000000022 s t = { s with
    regs := t.regs, out := t.out, keep := t.keep,
    chron := { s.chron with
      perm := t.chron.perm, ring := t.chron.ring, buffer := t.chron.buffer, nextSerial := t.chron.nextSerial,
      runs := t.chron.runs, dropped := t.chron.dropped },
    mbox := { s.mbox with stored := t.mbox.stored, bg := t.mbox.bg }, imageOps := t.imageOps,
    fw := { s.fw with transfer := t.fw.transfer, cmd := t.fw.cmd } } := rfl

theorem openTransfer_within (s : State) (p : Sys2Proof.CmdPath) (offset : Nat) (l : List Nat) (h :
    Sys2Proof.ImageReport) : Within 0x1800000000000000000000000010000060000000000003cfffff0000000000022 s
    (@State.openTransfer s p offset l h) := by
  unfold State.openTransfer
  repeat' (first
      | extract_lets
      | with_reducible apply Within.rfl
      | (with_reducible apply Within.on (m := 0x1800000000000000000000000010000060000000000003cfffff0000000000022) (reply_within _ _ _ _ _) (by decide))
      | (with_reducible apply Within.on (m := 0x1800000000000000000000000010000060000000000003cfffff0000000000022) (setDescr_within _ _) (by decide))
      | (with_reducible apply Within.on (m := 0x1800000000000000000000000010000060000000000003cfffff0000000000022) (transferRecord_within _ _ _) (by decide))
      | (with_reducible apply Within.on (m := 0x1800000000000000000000000010000060000000000003cfffff0000000000022) (takeUnits_within _ _ _ _ _ _ _) (by decide))
      | fail_if_no_progress with_reducible apply Within.upd (by rw [pick_1800000000000000000000000010000060000000000003cfffff0000000000022])
      | with_reducible apply Within.of_fst (by assumption)
      | with_reducible apply Within.of_fst1 (by assumption)
      | split)

theorem openTransfer_regs (s : State) (p : Sys2Proof.CmdPath) (offset : Nat) (l : List Nat) (h :
    Sys2Proof.ImageReport) {ks : List Field} (h1 : Reg.CHRON_DROP_CNT ∈ ks) (h2 : Reg.CHRON_REPEAT_CNT ∈ ks) : onlyRegs
    ks s (@State.openTransfer s p offset l h) := by
  unfold State.openTransfer
  repeat' (first
      | (with_reducible apply onlyRegs.rfl)
      | extract_lets
      | (with_reducible assumption)
      | (with_reducible exact List.mem_cons_self)
      | (with_reducible apply List.mem_cons_of_mem)
      | (with_reducible apply onlyRegs.keep (reply_within _ _ _ _ _) (by decide))
      | (with_reducible apply onlyRegs.keep (setDescr_within _ _) (by decide))
      | (with_reducible apply onlyRegs.on (transferRecord_regs _ _ _ ?_ ?_))
      | (with_reducible apply onlyRegs.keep (takeUnits_within _ _ _ _ _ _ _) (by decide))
      | fail_if_no_progress with_reducible apply onlyRegs.upd
      | with_reducible apply onlyRegs.of_fst (by assumption)
      | with_reducible apply onlyRegs.of_fst1 (by assumption)
      | split)

theorem ownTransfer_within (s : State) (p : Sys2Proof.CmdPath) (slot : Nat) (f :
    State → Transfer → State) {M : Nat} (hM :
    0x200000000000000000000000000000020 ||| M = M) (hf : ∀ y z, Within M y (f y z)) : Within M s
    (@State.ownTransfer s p slot f) := by
  unfold State.ownTransfer
  repeat' (first
      | with_reducible apply Within.ite <;> intro _
      | with_reducible apply Within.rfl
      | (with_reducible apply Within.on (m := M) (reply_within _ _ _ _ _) (subm (a := 0x200000000000000000000000000000020) (by decide) hM))
      | with_reducible apply Within.of_fst (by assumption)
      | with_reducible apply Within.of_fst1 (by assumption)
      | (with_reducible apply Within.on (hf _) (Nat.or_self _))
      | (with_reducible apply Within.on (hf _ _) (Nat.or_self _))
      | split)

theorem ownTransfer_regs (s : State) (p : Sys2Proof.CmdPath) (slot : Nat) (f :
    State → Transfer → State) {ks : List Field} (hf : ∀ y z,
    onlyRegs ks y (f y z)) : onlyRegs ks s (@State.ownTransfer s p slot f) := by
  unfold State.ownTransfer
  repeat' (first
      | (with_reducible apply onlyRegs.on (hf _))
      | (with_reducible apply onlyRegs.on (hf _ _))
      | (with_reducible apply onlyRegs.rfl)
      | (with_reducible assumption)
      | (with_reducible exact List.mem_cons_self)
      | (with_reducible apply List.mem_cons_of_mem)
      | (with_reducible apply onlyRegs.ite <;> intro _)
      | (with_reducible apply onlyRegs.keep (reply_within _ _ _ _ _) (by decide))
      | with_reducible apply onlyRegs.of_fst (by assumption)
      | with_reducible apply onlyRegs.of_fst1 (by assumption)
      | split)

theorem abortTransfer_within (s : State) (p : Sys2Proof.CmdPath) (t0 : Transfer) :
    Within 0x1800000000000000000000000010000060000000000003cfffff0000000000022 s
    (@State.abortTransfer s p t0) := by
  unfold State.abortTransfer
  repeat' (first
      | extract_lets
      | with_reducible apply Within.rfl
      | (with_reducible apply Within.on (m := 0x1800000000000000000000000010000060000000000003cfffff0000000000022) (bgDone_within _ _ _ _ _ _) (by decide))
      | (with_reducible apply Within.on (m := 0x1800000000000000000000000010000060000000000003cfffff0000000000022) (dropImageOps_within _ _) (by decide))
      | (with_reducible apply Within.on (m := 0x1800000000000000000000000010000060000000000003cfffff0000000000022) (reply_within _ _ _ _ _) (by decide))
      | (with_reducible apply Within.on (m := 0x1800000000000000000000000010000060000000000003cfffff0000000000022) (transferRecord_within _ _ _) (by decide))
      | (with_reducible apply Within.on (m := 0x1800000000000000000000000010000060000000000003cfffff0000000000022) (setDescr_within _ _) (by decide))
      | fail_if_no_progress with_reducible apply Within.upd (by rw [pick_1800000000000000000000000010000060000000000003cfffff0000000000022])
      | with_reducible apply Within.of_fst (by assumption)
      | with_reducible apply Within.of_fst1 (by assumption)
      | split
      | dsimp +zetaDelta only)

theorem abortTransfer_regs (s : State) (p : Sys2Proof.CmdPath) (t0 : Transfer)
    {ks : List Field} (h1 : Reg.CHRON_DROP_CNT ∈ ks) (h2 : Reg.CHRON_REPEAT_CNT ∈ ks) : onlyRegs ks s
    (@State.abortTransfer s p t0) := by
  unfold State.abortTransfer
  repeat' (first
      | (with_reducible apply onlyRegs.rfl)
      | extract_lets
      | (with_reducible assumption)
      | (with_reducible exact List.mem_cons_self)
      | (with_reducible apply List.mem_cons_of_mem)
      | (with_reducible apply onlyRegs.keep (bgDone_within _ _ _ _ _ _) (by decide))
      | (with_reducible apply onlyRegs.keep (dropImageOps_within _ _) (by decide))
      | (with_reducible apply onlyRegs.keep (reply_within _ _ _ _ _) (by decide))
      | (with_reducible apply onlyRegs.on (transferRecord_regs _ _ _ ?_ ?_))
      | (with_reducible apply onlyRegs.keep (setDescr_within _ _) (by decide))
      | fail_if_no_progress with_reducible apply onlyRegs.upd
      | with_reducible apply onlyRegs.of_fst (by assumption)
      | with_reducible apply onlyRegs.of_fst1 (by assumption)
      | split
      | dsimp +zetaDelta only)

theorem refuseStaging_within (s : State) (fault : Nat) (at_ : Nat) : Within 0x3cfffff0000000000002
    s (@State.refuseStaging s fault at_) := by
  unfold State.refuseStaging
  repeat' (first
      | with_reducible apply Within.rfl
      | (with_reducible apply Within.on (m := 0x3cfffff0000000000002) (chronicle_within _ _ _ _ _) (by decide))
      | (with_reducible apply Within.on (m := 0x3cfffff0000000000002) (setDescr_within _ _) (by decide)))

theorem refuseStaging_regs (s : State) (fault : Nat) (at_ : Nat) {ks : List Field} (h1 :
    Reg.CHRON_DROP_CNT ∈ ks) (h2 : Reg.CHRON_REPEAT_CNT ∈ ks) : onlyRegs ks s (@State.refuseStaging s
    fault at_) := by
  unfold State.refuseStaging
  repeat' (first
      | (with_reducible apply onlyRegs.rfl)
      | (with_reducible assumption)
      | (with_reducible exact List.mem_cons_self)
      | (with_reducible apply List.mem_cons_of_mem)
      | (with_reducible apply onlyRegs.on (chronicle_regs _ _ _ _ _ ?_ ?_))
      | (with_reducible apply onlyRegs.keep (setDescr_within _ _) (by decide)))

theorem pick_800000000000000000000000000000060000000000003cfffff0000000000022 (s t : State) : State.pick 0x800000000000000000000000000000060000000000003cfffff0000000000022 s t = { s with
    regs := t.regs, out := t.out, keep := t.keep,
    chron := { s.chron with
      perm := t.chron.perm, ring := t.chron.ring, buffer := t.chron.buffer, nextSerial := t.chron.nextSerial,
      runs := t.chron.runs, dropped := t.chron.dropped },
    mbox := { s.mbox with stored := t.mbox.stored, bg := t.mbox.bg },
    fw := { s.fw with transfer := t.fw.transfer } } := rfl

theorem endChecks_within (s : State) (c : XferCmd) (t0 :
    Transfer) : Within 0x800000000000000000000000000000060000000000003cfffff0000000000022
    s (@State.endChecks s c t0) := by
  unfold State.endChecks
  repeat' (first
      | extract_lets
      | with_reducible apply Within.ite <;> intro _
      | with_reducible apply Within.rfl
      | (with_reducible apply Within.on (m := 0x800000000000000000000000000000060000000000003cfffff0000000000022) (bgDone_within _ _ _ _ _ _) (by decide))
      | (with_reducible apply Within.on (m := 0x800000000000000000000000000000060000000000003cfffff0000000000022) (refuseStaging_within _ _ _) (by decide))
      | (with_reducible apply Within.on (m := 0x800000000000000000000000000000060000000000003cfffff0000000000022) (setDescr_within _ _) (by decide))
      | (with_reducible apply Within.on (m := 0x800000000000000000000000000000060000000000003cfffff0000000000022) (transferRecord_within _ _ _) (by decide))
      | fail_if_no_progress with_reducible apply Within.upd (by rw [pick_800000000000000000000000000000060000000000003cfffff0000000000022]))

theorem endChecks_regs (s : State) (c : XferCmd) (t0 :
    Transfer) {ks : List Field} (h1 : Reg.CHRON_DROP_CNT ∈ ks) (h2 : Reg.CHRON_REPEAT_CNT ∈ ks) :
    onlyRegs ks s (@State.endChecks s c t0) := by
  unfold State.endChecks
  repeat' (first
      | (with_reducible apply onlyRegs.rfl)
      | extract_lets
      | (with_reducible assumption)
      | (with_reducible exact List.mem_cons_self)
      | (with_reducible apply List.mem_cons_of_mem)
      | (with_reducible apply onlyRegs.ite <;> intro _)
      | (with_reducible apply onlyRegs.keep (bgDone_within _ _ _ _ _ _) (by decide))
      | (with_reducible apply onlyRegs.on (refuseStaging_regs _ _ _ ?_ ?_))
      | (with_reducible apply onlyRegs.keep (setDescr_within _ _) (by decide))
      | (with_reducible apply onlyRegs.on (transferRecord_regs _ _ _ ?_ ?_))
      | fail_if_no_progress with_reducible apply onlyRegs.upd)

theorem transferWritten_within (s : State) (ok : Bool) (check : Nat) (c : XferCmd)
    (t0 : Transfer) : Within
    0x1800000000000000000000000010000060000000000003cfffff0000000000022 s
    (@State.transferWritten s ok check c t0) := by
  unfold State.transferWritten
  repeat' (first
      | extract_lets
      | with_reducible apply Within.ite <;> intro _
      | with_reducible apply Within.rfl
      | (with_reducible apply Within.on (m := 0x1800000000000000000000000010000060000000000003cfffff0000000000022) (flash_within _) (by decide))
      | (with_reducible apply Within.on (m := 0x1800000000000000000000000010000060000000000003cfffff0000000000022) (bgDone_within _ _ _ _ _ _) (by decide))
      | (with_reducible apply Within.on (m := 0x1800000000000000000000000010000060000000000003cfffff0000000000022) (endChecks_within _ _ _) (by decide))
      | fail_if_no_progress with_reducible apply Within.upd (by rw [pick_1800000000000000000000000010000060000000000003cfffff0000000000022]))

theorem transferWritten_regs (s : State) (ok : Bool) (check : Nat) (c : XferCmd)
    (t0 : Transfer) {ks : List Field} (h1 : Reg.CHRON_DROP_CNT ∈ ks) (h2 : Reg.CHRON_REPEAT_CNT ∈
    ks) : onlyRegs ks s (@State.transferWritten s ok check c t0) := by
  unfold State.transferWritten
  repeat' (first
      | (with_reducible apply onlyRegs.rfl)
      | extract_lets
      | (with_reducible assumption)
      | (with_reducible exact List.mem_cons_self)
      | (with_reducible apply List.mem_cons_of_mem)
      | (with_reducible apply onlyRegs.ite <;> intro _)
      | (with_reducible apply onlyRegs.keep (flash_within _) (by decide))
      | (with_reducible apply onlyRegs.keep (bgDone_within _ _ _ _ _ _) (by decide))
      | (with_reducible apply onlyRegs.on (endChecks_regs _ _ _ ?_ ?_))
      | fail_if_no_progress with_reducible apply onlyRegs.upd)

theorem activateCheck_within (s : State) (p : Sys2Proof.CmdPath) (now : Bool) (f :
    State → State) {M : Nat} (hM : 0x200000000000000000000000000000020 ||| M =
    M) (hf : ∀ y, Within M y (f y)) : Within M s (@State.activateCheck s p now f) := by
  unfold State.activateCheck
  repeat' (first
      | with_reducible apply Within.ite <;> intro _
      | with_reducible apply Within.rfl
      | (with_reducible apply Within.on (m := M) (reply_within _ _ _ _ _) (subm (a := 0x200000000000000000000000000000020) (by decide) hM))
      | (with_reducible apply Within.on (hf _) (Nat.or_self _)))

theorem activateCheck_regs (s : State) (p : Sys2Proof.CmdPath) (now : Bool) (f :
    State → State) {ks : List Field} (hf : ∀ y, onlyRegs ks y (f y)) : onlyRegs ks s
    (@State.activateCheck s p now f) := by
  unfold State.activateCheck
  repeat' (first
      | (with_reducible apply onlyRegs.on (hf _))
      | (with_reducible apply onlyRegs.on (hf _ _))
      | (with_reducible apply onlyRegs.rfl)
      | (with_reducible assumption)
      | (with_reducible exact List.mem_cons_self)
      | (with_reducible apply List.mem_cons_of_mem)
      | (with_reducible apply onlyRegs.ite <;> intro _)
      | (with_reducible apply onlyRegs.keep (reply_within _ _ _ _ _) (by decide)))

theorem pick_200000000000000000000000001000006000000000000003ffff0000000000020 (s t : State) : State.pick 0x200000000000000000000000001000006000000000000003ffff0000000000020 s t = { s with
    out := t.out, keep := t.keep, mbox := { s.mbox with stored := t.mbox.stored, bg := t.mbox.bg },
    imageOps := t.imageOps, fw := { s.fw with act := t.fw.act } } := rfl

theorem startActivation_within (s : State) (p : Sys2Proof.CmdPath) (kind : ActKind)
    (stroke : Option Nat) : Within 0x200000000000000000000000001000006000000000000003ffff0000000000020 s
    (@State.startActivation s p kind stroke) := by
  unfold State.startActivation
  repeat' (first
      | extract_lets
      | with_reducible apply Within.ite <;> intro _
      | with_reducible apply Within.rfl
      | (with_reducible apply Within.on (m := 0x200000000000000000000000001000006000000000000003ffff0000000000020) (reply_within _ _ _ _ _) (by decide))
      | (with_reducible apply Within.on (m := 0x200000000000000000000000001000006000000000000003ffff0000000000020) (flash_within _) (by decide))
      | (with_reducible apply Within.on (m := 0x200000000000000000000000001000006000000000000003ffff0000000000020) (bgStart_within _ _ _) (by decide))
      | fail_if_no_progress with_reducible apply Within.upd (by rw [pick_200000000000000000000000001000006000000000000003ffff0000000000020]))

theorem activationRecord_within (s : State) (how : Nat) : Within 0x3cc00000000000000002 s
    (@State.activationRecord s how) := by
  unfold State.activationRecord
  repeat' (first
      | with_reducible apply Within.rfl
      | (with_reducible apply Within.on (m := 0x3cc00000000000000002) (chronicle_within _ _ _ _ _) (by decide)))

theorem activationRecord_regs (s : State) (how : Nat) {ks : List Field} (h1 : Reg.CHRON_DROP_CNT ∈
    ks) (h2 : Reg.CHRON_REPEAT_CNT ∈ ks) : onlyRegs ks s (@State.activationRecord s how) := by
  unfold State.activationRecord
  repeat' (first
      | (with_reducible apply onlyRegs.rfl)
      | (with_reducible assumption)
      | (with_reducible exact List.mem_cons_self)
      | (with_reducible apply List.mem_cons_of_mem)
      | (with_reducible apply onlyRegs.on (chronicle_regs _ _ _ _ _ ?_ ?_)))

theorem pick_200000000000000000000000001000000000000000000003ffff0000000000000 (s t : State) : State.pick 0x200000000000000000000000001000000000000000000003ffff0000000000000 s t = { s with
    keep := t.keep, imageOps := t.imageOps, fw := { s.fw with act := t.fw.act } } := rfl

theorem dropActivation_within (s : State) : Within
    0x200000000000000000000000001000000000000000000003ffff0000000000000 s
    (@State.dropActivation s) := by
  unfold State.dropActivation
  repeat' (first
      | with_reducible apply Within.rfl
      | (with_reducible apply Within.on (m := 0x200000000000000000000000001000000000000000000003ffff0000000000000) (dropImageOps_within _ _) (by decide))
      | fail_if_no_progress with_reducible apply Within.upd (by rw [pick_200000000000000000000000001000000000000000000003ffff0000000000000]))

theorem pick_200000000000000000000000011000000000000000000003ffff0000000000000 (s t : State) : State.pick 0x200000000000000000000000011000000000000000000003ffff0000000000000 s t = { s with
    keep := t.keep, imageOps := t.imageOps, chans := t.chans, fw := { s.fw with act := t.fw.act } } := rfl

theorem loadTables_within (s : State) (a : Activation) (r : Sys2Proof.ImageReport)
    : Within 0x200000000000000000000000011000000000000000000003ffff0000000000000 s
    (@State.loadTables s a r) := by
  unfold State.loadTables
  repeat' (first
      | extract_lets
      | with_reducible apply Within.ite <;> intro _
      | with_reducible apply Within.rfl
      | (with_reducible apply Within.on (m := 0x200000000000000000000000011000000000000000000003ffff0000000000000) (releaseSpare_within _) (by decide))
      | (with_reducible apply Within.on (m := 0x200000000000000000000000011000000000000000000003ffff0000000000000) (flash_within _) (by decide))
      | fail_if_no_progress with_reducible apply Within.upd (by rw [pick_200000000000000000000000011000000000000000000003ffff0000000000000]))

theorem rolledBack_within (s : State) (a : Activation) (ext : Nat) : Within
    0x600000000000000000000000000000020 s (@State.rolledBack s a ext) := by
  unfold State.rolledBack
  repeat' (first
      | with_reducible apply Within.rfl
      | (with_reducible apply Within.on (m := 0x600000000000000000000000000000020) (bgDone_within _ _ _ _ _ _) (by decide))
      | with_reducible apply Within.of_fst (by assumption)
      | with_reducible apply Within.of_fst1 (by assumption)
      | split)

theorem pick_2000000000000000000000000110000060000000000003cfffff0000000000022 (s t : State) : State.pick 0x2000000000000000000000000110000060000000000003cfffff0000000000022 s t = { s with
    regs := t.regs, out := t.out, keep := t.keep,
    chron := { s.chron with
      perm := t.chron.perm, ring := t.chron.ring, buffer := t.chron.buffer, nextSerial := t.chron.nextSerial,
      runs := t.chron.runs, dropped := t.chron.dropped },
    mbox := { s.mbox with stored := t.mbox.stored, bg := t.mbox.bg }, imageOps := t.imageOps, chans := t.chans,
    fw := { s.fw with act := t.fw.act } } := rfl

theorem stagingRead_within (s : State) (a : Activation) (r : Sys2Proof.ImageReport)
    : Within 0x2000000000000000000000000110000060000000000003cfffff0000000000022 s
    (@State.stagingRead s a r) := by
  unfold State.stagingRead
  repeat' (first
      | extract_lets
      | with_reducible apply Within.ite <;> intro _
      | with_reducible apply Within.rfl
      | (with_reducible apply Within.on (m := 0x2000000000000000000000000110000060000000000003cfffff0000000000022) (rolledBack_within _ _ _) (by decide))
      | (with_reducible apply Within.on (m := 0x2000000000000000000000000110000060000000000003cfffff0000000000022) (refuseStaging_within _ _ _) (by decide))
      | (with_reducible apply Within.on (m := 0x2000000000000000000000000110000060000000000003cfffff0000000000022) (dropActivation_within _) (by decide))
      | (with_reducible apply Within.on (m := 0x2000000000000000000000000110000060000000000003cfffff0000000000022) (chronicle_within _ _ _ _ _) (by decide))
      | (with_reducible apply Within.on (m := 0x2000000000000000000000000110000060000000000003cfffff0000000000022) (loadTables_within _ _ _) (by decide))
      | (with_reducible apply Within.on (m := 0x2000000000000000000000000110000060000000000003cfffff0000000000022) (setDescr_within _ _) (by decide)))

theorem stagingRead_regs (s : State) (a : Activation) (r : Sys2Proof.ImageReport)
    {ks : List Field} (h1 : Reg.CHRON_DROP_CNT ∈ ks) (h2 : Reg.CHRON_REPEAT_CNT ∈ ks) : onlyRegs ks s
    (@State.stagingRead s a r) := by
  unfold State.stagingRead
  repeat' (first
      | (with_reducible apply onlyRegs.rfl)
      | extract_lets
      | (with_reducible assumption)
      | (with_reducible exact List.mem_cons_self)
      | (with_reducible apply List.mem_cons_of_mem)
      | (with_reducible apply onlyRegs.ite <;> intro _)
      | (with_reducible apply onlyRegs.keep (rolledBack_within _ _ _) (by decide))
      | (with_reducible apply onlyRegs.on (refuseStaging_regs _ _ _ ?_ ?_))
      | (with_reducible apply onlyRegs.keep (dropActivation_within _) (by decide))
      | (with_reducible apply onlyRegs.on (chronicle_regs _ _ _ _ _ ?_ ?_))
      | (with_reducible apply onlyRegs.keep (loadTables_within _ _ _) (by decide))
      | (with_reducible apply onlyRegs.keep (setDescr_within _ _) (by decide)))

theorem pick_8000000000000000000000000000000000000000000000000000000000002 (s t : State) : State.pick 0x8000000000000000000000000000000000000000000000000000000000002 s t = { s with
    regs := t.regs, shelf := { s.shelf with act := t.shelf.act } } := rfl

theorem actRefused_within (s : State) : Within
    0x8000000000000000000000000000000000000000000000000000000000002 s (@State.actRefused
    s) := by
  unfold State.actRefused
  repeat' (first
      | with_reducible apply Within.rfl
      | (with_reducible apply Within.on (m := 0x8000000000000000000000000000000000000000000000000000000000002) (setAct_within _ _) (by decide))
      | fail_if_no_progress with_reducible apply Within.upd (by rw [pick_8000000000000000000000000000000000000000000000000000000000002]))

theorem actRefused_regs (s : State) {ks : List Field} (h1 : Reg.SHELF_ACT_STATUS_ACT ∈ ks) : onlyRegs
    ks s (@State.actRefused s) := by
  unfold State.actRefused
  repeat' (first
      | (with_reducible apply onlyRegs.rfl)
      | (with_reducible assumption)
      | (with_reducible exact List.mem_cons_self)
      | (with_reducible apply List.mem_cons_of_mem)
      | (with_reducible apply onlyRegs.on (setAct_regs _ _ ?_))
      | fail_if_no_progress with_reducible apply onlyRegs.upd)

theorem pick_2000800000000000000000000110000060000000000003cfffff0000000000022 (s t : State) : State.pick 0x2000800000000000000000000110000060000000000003cfffff0000000000022 s t = { s with
    regs := t.regs, out := t.out, keep := t.keep,
    chron := { s.chron with
      perm := t.chron.perm, ring := t.chron.ring, buffer := t.chron.buffer, nextSerial := t.chron.nextSerial,
      runs := t.chron.runs, dropped := t.chron.dropped },
    mbox := { s.mbox with stored := t.mbox.stored, bg := t.mbox.bg }, imageOps := t.imageOps, chans := t.chans,
    shelf := { s.shelf with act := t.shelf.act }, fw := { s.fw with act := t.fw.act } } := rfl

theorem loadFailed_within (s : State) (a : Activation) : Within
    0x2000800000000000000000000110000060000000000003cfffff0000000000022 s
    (@State.loadFailed s a) := by
  unfold State.loadFailed
  repeat' (first
      | extract_lets
      | with_reducible apply Within.ite <;> intro _
      | with_reducible apply Within.rfl
      | (with_reducible apply Within.on (m := 0x2000800000000000000000000110000060000000000003cfffff0000000000022) (chronicle_within _ _ _ _ _) (by decide))
      | (with_reducible apply Within.on (m := 0x2000800000000000000000000110000060000000000003cfffff0000000000022) (releaseSpare_within _) (by decide))
      | (with_reducible apply Within.on (m := 0x2000800000000000000000000110000060000000000003cfffff0000000000022) (dropActivation_within _) (by decide))
      | (with_reducible apply Within.on (m := 0x2000800000000000000000000110000060000000000003cfffff0000000000022) (actRefused_within _) (by decide))
      | (with_reducible apply Within.on (m := 0x2000800000000000000000000110000060000000000003cfffff0000000000022) (rolledBack_within _ _ _) (by decide))
      | (with_reducible apply Within.on (m := 0x2000800000000000000000000110000060000000000003cfffff0000000000022) (setDescr_within _ _) (by decide)))

theorem loadFailed_regs (s : State) (a : Activation) {ks : List Field} (h1 :
    Reg.CHRON_DROP_CNT ∈ ks) (h2 : Reg.CHRON_REPEAT_CNT ∈ ks) (h3 : Reg.SHELF_ACT_STATUS_ACT ∈ ks) : onlyRegs ks s
    (@State.loadFailed s a) := by
  unfold State.loadFailed
  repeat' (first
      | (with_reducible apply onlyRegs.rfl)
      | extract_lets
      | (with_reducible assumption)
      | (with_reducible exact List.mem_cons_self)
      | (with_reducible apply List.mem_cons_of_mem)
      | (with_reducible apply onlyRegs.ite <;> intro _)
      | (with_reducible apply onlyRegs.on (chronicle_regs _ _ _ _ _ ?_ ?_))
      | (with_reducible apply onlyRegs.keep (releaseSpare_within _) (by decide))
      | (with_reducible apply onlyRegs.keep (dropActivation_within _) (by decide))
      | (with_reducible apply onlyRegs.on (actRefused_regs _ ?_))
      | (with_reducible apply onlyRegs.keep (rolledBack_within _ _ _) (by decide))
      | (with_reducible apply onlyRegs.keep (setDescr_within _ _) (by decide)))

theorem lowerHorizon_within (s : State) : Within 0x3cc00000000000000002 s
    (@State.lowerHorizon s) := by
  unfold State.lowerHorizon
  repeat' (first
      | extract_lets
      | with_reducible apply Within.ite <;> intro _
      | with_reducible apply Within.rfl
      | (with_reducible apply Within.on (m := 0x3cc00000000000000002) (chronicle_within _ _ _ _ _) (by decide))
      | (with_reducible apply Within.on (m := 0x3cc00000000000000002) (wr_within _ _ _ _ _) (by decide)))

theorem lowerHorizon_regs (s : State) {ks : List Field} (h1 : Reg.CHRON_DROP_CNT ∈ ks) (h2 :
    Reg.CHRON_REPEAT_CNT ∈ ks) (h3 : Reg.ERR_PATROL_CFG_HORIZON ∈ ks) : onlyRegs ks s
    (@State.lowerHorizon s) := by
  unfold State.lowerHorizon
  repeat' (first
      | (with_reducible apply onlyRegs.rfl)
      | extract_lets
      | (with_reducible assumption)
      | (with_reducible exact List.mem_cons_self)
      | (with_reducible apply List.mem_cons_of_mem)
      | (with_reducible apply onlyRegs.ite <;> intro _)
      | (with_reducible apply onlyRegs.on (chronicle_regs _ _ _ _ _ ?_ ?_))
      | (with_reducible apply onlyRegs.wr))

theorem switchBanks_within (s : State) : Within 2 s (@State.switchBanks s) := by
  unfold State.switchBanks
  repeat' (first
      | with_reducible apply Within.rfl
      | (with_reducible apply Within.on (m := 2) (wr_within _ _ _ _ _) (by decide))
      | (with_reducible apply Within.foldl; intro t x))

theorem switchBanks_regs (s : State) {ks : List Field} (h1 : Reg.CHAN_STATUS_TBANK ∈ ks) : onlyRegs
    ks s (@State.switchBanks s) := by
  unfold State.switchBanks
  repeat' (first
      | (with_reducible apply onlyRegs.rfl)
      | (with_reducible assumption)
      | (with_reducible exact List.mem_cons_self)
      | (with_reducible apply List.mem_cons_of_mem)
      | (with_reducible apply onlyRegs.wr)
      | (with_reducible apply onlyRegs.foldl; intro t x))

theorem pick_80000000000000000000000000000000000000002 (s t : State) : State.pick 0x80000000000000000000000000000000000000002 s t = { s with
    regs := t.regs, sched := { s.sched with back := t.sched.back } } := rfl

theorem leaveRecovery_within (s : State) : Within 0x80000000000000000000000000000000000000002
    s (@State.leaveRecovery s) := by
  unfold State.leaveRecovery
  repeat' (first
      | extract_lets
      | with_reducible apply Within.ite <;> intro _
      | with_reducible apply Within.rfl
      | (with_reducible apply Within.on (m := 0x80000000000000000000000000000000000000002) (setBit_within _ _ _ _ _) (by decide))
      | (with_reducible apply Within.on (m := 0x80000000000000000000000000000000000000002) (wr_within _ _ _ _ _) (by decide))
      | fail_if_no_progress with_reducible apply Within.upd (by rw [pick_80000000000000000000000000000000000000002]))

theorem leaveRecovery_regs (s : State) {ks : List Field} (h1 : Reg.SCHED_STATUS_LAYOUT ∈ ks) (h2 :
    Reg.TOP_STATUS_RECOVERY ∈ ks) : onlyRegs ks s (@State.leaveRecovery s) := by
  unfold State.leaveRecovery
  repeat' (first
      | (with_reducible apply onlyRegs.rfl)
      | extract_lets
      | (with_reducible assumption)
      | (with_reducible exact List.mem_cons_self)
      | (with_reducible apply List.mem_cons_of_mem)
      | (with_reducible apply onlyRegs.ite <;> intro _)
      | (with_reducible apply onlyRegs.on (setBit_regs _ _ _ _ _ ?_))
      | (with_reducible apply onlyRegs.wr)
      | fail_if_no_progress with_reducible apply onlyRegs.upd)

theorem pick_1a0000000000fe000000000008100000060000000000003cfffff0000000000022 (s t : State) : State.pick 0x1a0000000000fe000000000008100000060000000000003cfffff0000000000022 s t = { s with
    regs := t.regs, out := t.out, keep := t.keep,
    chron := { s.chron with
      perm := t.chron.perm, ring := t.chron.ring, buffer := t.chron.buffer, nextSerial := t.chron.nextSerial,
      runs := t.chron.runs, dropped := t.chron.dropped },
    mbox := { s.mbox with stored := t.mbox.stored, bg := t.mbox.bg }, chans := t.chans,
    sched := { s.sched with back := t.sched.back }, img := t.img,
    fw := { s.fw with act := t.fw.act, oldBank := t.fw.oldBank, oldPrecond := t.fw.oldPrecond } } := rfl

theorem takeEffect_within (s : State) (a : Activation) : Within
    0x1a0000000000fe000000000008100000060000000000003cfffff0000000000022 s
    (@State.takeEffect s a) := by
  unfold State.takeEffect
  repeat' (first
      | extract_lets
      | with_reducible apply Within.ite <;> intro _
      | with_reducible apply Within.rfl
      | (with_reducible apply Within.on (m := 0x1a0000000000fe000000000008100000060000000000003cfffff0000000000022) (chronicle_within _ _ _ _ _) (by decide))
      | (with_reducible apply Within.on (m := 0x1a0000000000fe000000000008100000060000000000003cfffff0000000000022) (switchBanks_within _) (by decide))
      | (with_reducible apply Within.on (m := 0x1a0000000000fe000000000008100000060000000000003cfffff0000000000022) (releaseSpare_within _) (by decide))
      | (with_reducible apply Within.on (m := 0x1a0000000000fe000000000008100000060000000000003cfffff0000000000022) (lowerHorizon_within _) (by decide))
      | (with_reducible apply Within.on (m := 0x1a0000000000fe000000000008100000060000000000003cfffff0000000000022) (leaveRecovery_within _) (by decide))
      | (with_reducible apply Within.on (m := 0x1a0000000000fe000000000008100000060000000000003cfffff0000000000022) (setDescr_within _ _) (by decide))
      | (with_reducible apply Within.on (m := 0x1a0000000000fe000000000008100000060000000000003cfffff0000000000022) (activationRecord_within _ _) (by decide))
      | (with_reducible apply Within.on (m := 0x1a0000000000fe000000000008100000060000000000003cfffff0000000000022) (bgDone_within _ _ _ _ _ _) (by decide))
      | fail_if_no_progress with_reducible apply Within.upd (by rw [pick_1a0000000000fe000000000008100000060000000000003cfffff0000000000022])
      | with_reducible apply Within.of_fst (by assumption)
      | with_reducible apply Within.of_fst1 (by assumption)
      | split)

theorem takeEffect_regs (s : State) (a : Activation) {ks : List Field} (h1 :
    Reg.CHAN_STATUS_TBANK ∈ ks) (h2 : Reg.CHRON_DROP_CNT ∈ ks) (h3 : Reg.CHRON_REPEAT_CNT ∈ ks) (h4 :
    Reg.ERR_PATROL_CFG_HORIZON ∈ ks) (h5 : Reg.SCHED_STATUS_LAYOUT ∈ ks) (h6 : Reg.TOP_STATUS_RECOVERY ∈ ks) : onlyRegs
    ks s (@State.takeEffect s a) := by
  unfold State.takeEffect
  repeat' (first
      | (with_reducible apply onlyRegs.rfl)
      | extract_lets
      | (with_reducible assumption)
      | (with_reducible exact List.mem_cons_self)
      | (with_reducible apply List.mem_cons_of_mem)
      | (with_reducible apply onlyRegs.ite <;> intro _)
      | (with_reducible apply onlyRegs.on (chronicle_regs _ _ _ _ _ ?_ ?_))
      | (with_reducible apply onlyRegs.on (switchBanks_regs _ ?_))
      | (with_reducible apply onlyRegs.keep (releaseSpare_within _) (by decide))
      | (with_reducible apply onlyRegs.on (lowerHorizon_regs _ ?_ ?_ ?_))
      | (with_reducible apply onlyRegs.on (leaveRecovery_regs _ ?_ ?_))
      | (with_reducible apply onlyRegs.keep (setDescr_within _ _) (by decide))
      | (with_reducible apply onlyRegs.on (activationRecord_regs _ _ ?_ ?_))
      | (with_reducible apply onlyRegs.keep (bgDone_within _ _ _ _ _ _) (by decide))
      | fail_if_no_progress with_reducible apply onlyRegs.upd
      | with_reducible apply onlyRegs.of_fst (by assumption)
      | with_reducible apply onlyRegs.of_fst1 (by assumption)
      | split)

theorem pick_100000000000000000000100000000000000000 (s t : State) : State.pick 0x100000000000000000000100000000000000000 s t = { s with
    keep := { s.keep with op := t.keep.op }, imageOps := t.imageOps } := rfl

theorem imageOpDone_within (s : State) : Within 0x100000000000000000000100000000000000000 s
    (@State.imageOpDone s) := by
  unfold State.imageOpDone
  repeat' (first
      | with_reducible apply Within.rfl
      | fail_if_no_progress with_reducible apply Within.upd (by rw [pick_100000000000000000000100000000000000000]))

end Sys2Proof.Machine
end

