-- ==== Sys2Proof/Laws/ErrFamilyFrames.lean ====
section
/-! SUPPORT. For each function of Machine/ErrFamily.lean over the state: the part of the state outside which it changes
nothing (`…_within`), and the register fields that it may write (`…_regs`). -/

namespace Sys2Proof.Machine

set_option maxRecDepth 4000

theorem lifeCrosses_within (s : State) (old : Nat) (new : Nat) : Within 0x7fbcc00000000000000022 s
    (@State.lifeCrosses s old new) := by
  unfold State.lifeCrosses
  repeat' (first
      | with_reducible apply Within.ite <;> intro _
      | with_reducible apply Within.rfl
      | (with_reducible apply Within.on (m := 0x7fbcc00000000000000022) (event_within _ _ _ _) (by decide))
      | (with_reducible apply Within.on (m := 0x7fbcc00000000000000022) (health_within _ _) (by decide))
      | with_reducible apply Within.of_fst (by assumption)
      | with_reducible apply Within.of_fst1 (by assumption)
      | split)

theorem pick_6000000000000000000000000000007fbcc00000000000000022 (s t : State) : State.pick 0x6000000000000000000000000000007fbcc00000000000000022 s t = { s with
    regs := t.regs, out := t.out,
    chron := { s.chron with
      perm := t.chron.perm, ring := t.chron.ring, buffer := t.chron.buffer, nextSerial := t.chron.nextSerial,
      runs := t.chron.runs, dropped := t.chron.dropped },
    events := t.events, err := { s.err with lastHealth := t.err.lastHealth, lastMedia := t.err.lastMedia } } := rfl

theorem healthUpdate_within (s : State) : Within
    0x6000000000000000000000000000007fbcc00000000000000022 s (@State.healthUpdate s) := by
  unfold State.healthUpdate
  repeat' (first
      | extract_lets
      | with_reducible apply Within.ite <;> intro _
      | with_reducible apply Within.rfl
      | (with_reducible apply Within.on (m := 0x6000000000000000000000000000007fbcc00000000000000022) (lifeCrosses_within _ _ _) (by decide))
      | (with_reducible apply Within.on (m := 0x6000000000000000000000000000007fbcc00000000000000022) (wr_within _ _ _ _ _) (by decide))
      | (with_reducible apply Within.on (m := 0x6000000000000000000000000000007fbcc00000000000000022) (event_within _ _ _ _) (by decide))
      | (with_reducible apply Within.on (m := 0x6000000000000000000000000000007fbcc00000000000000022) (health_within _ _) (by decide))
      | fail_if_no_progress with_reducible apply Within.upd (by rw [pick_6000000000000000000000000000007fbcc00000000000000022]))

theorem reassertHealth_within (s : State) : Within 2 s (@State.reassertHealth s) := by
  unfold State.reassertHealth
  repeat' (first
      | extract_lets
      | with_reducible apply Within.ite <;> intro _
      | with_reducible apply Within.rfl
      | (with_reducible apply Within.on (m := 2) (health_within _ _) (by decide))
      | with_reducible apply Within.of_fst (by assumption)
      | with_reducible apply Within.of_fst1 (by assumption)
      | split
      | dsimp +zetaDelta only)

theorem reassertHealth_regs (s : State) {ks : List Field} (h1 : Reg.ERR_HEALTH_EVENT_DIE_FAIL ∈ ks)
    (h2 : Reg.ERR_HEALTH_EVENT_LIFE ∈ ks) (h3 : Reg.ERR_HEALTH_EVENT_POISON_FULL ∈ ks) (h4 : Reg.ERR_HEALTH_EVENT_POOL
    ∈ ks) (h5 : Reg.ERR_HEALTH_EVENT_TEMP ∈ ks) : onlyRegs ks s (@State.reassertHealth s) := by
  unfold State.reassertHealth
  repeat' (first
      | (with_reducible apply onlyRegs.rfl)
      | extract_lets
      | (with_reducible assumption)
      | (with_reducible exact List.mem_cons_self)
      | (with_reducible apply List.mem_cons_of_mem)
      | (with_reducible apply onlyRegs.ite <;> intro _)
      | (with_reducible apply onlyRegs.on (health_regs _ _ ?_))
      | with_reducible apply onlyRegs.of_fst (by assumption)
      | with_reducible apply onlyRegs.of_fst1 (by assumption)
      | split
      | dsimp +zetaDelta only)

theorem weakLine_within (s : State) (mp : Nat) (bits : Nat) : Within
    0x20000000000000000000000000000000000000000000000000 s (@State.weakLine s mp bits) := by
  unfold State.weakLine
  repeat' (first
      | with_reducible apply Within.ite <;> intro _
      | with_reducible apply Within.rfl
      | (with_reducible apply Within.on (m := 0x20000000000000000000000000000000000000000000000000) (markRefresh_within _ _) (by decide)))

theorem pick_60000000001000000000000000007fbcc00c10000000000022 (s t : State) : State.pick 0x60000000001000000000000000007fbcc00c10000000000022 s t = { s with
    regs := t.regs, out := t.out,
    keep := { s.keep with shadow := t.keep.shadow, queue := t.keep.queue, lost := t.keep.lost },
    chron := { s.chron with
      perm := t.chron.perm, ring := t.chron.ring, buffer := t.chron.buffer, nextSerial := t.chron.nextSerial,
      runs := t.chron.runs, dropped := t.chron.dropped },
    events := t.events, chans := t.chans,
    err := { s.err with refresh := t.err.refresh, rewrites := t.err.rewrites } } := rfl

theorem patrolPlain_within (s : State) (mp : Nat) (e : Sys2Proof.LineErr) : Within
    0x60000000001000000000000000007fbcc00c10000000000022 s (@State.patrolPlain s mp e) := by
  unfold State.patrolPlain
  repeat' (first
      | extract_lets
      | with_reducible apply Within.ite <;> intro _
      | with_reducible apply Within.rfl
      | (with_reducible apply Within.on (m := 0x60000000001000000000000000007fbcc00c10000000000022) (weakLine_within _ _ _) (by decide))
      | (with_reducible apply Within.on (m := 0x60000000001000000000000000007fbcc00c10000000000022) (noteCorr_within _ _ _) (by decide))
      | (with_reducible apply Within.on (m := 0x60000000001000000000000000007fbcc00c10000000000022) (bump_within _ _ _ _ _) (by decide))
      | (with_reducible apply Within.on (m := 0x60000000001000000000000000007fbcc00c10000000000022) (markRefresh_within _ _) (by decide))
      | (with_reducible apply Within.on (m := 0x60000000001000000000000000007fbcc00c10000000000022) (recovered_within _ _ _) (by decide))
      | (with_reducible apply Within.on (m := 0x60000000001000000000000000007fbcc00c10000000000022) (noteRecon_within _ _) (by decide))
      | (with_reducible apply Within.on (m := 0x60000000001000000000000000007fbcc00c10000000000022) (askRewrite_within _ _) (by decide))
      | (with_reducible apply Within.on (m := 0x60000000001000000000000000007fbcc00c10000000000022) (health_within _ _) (by decide)))

theorem patrolPlain_regs (s : State) (mp : Nat) (e : Sys2Proof.LineErr) {ks : List Field} (h1 :
    Reg.CHAN_CORR_CNT ∈ ks) (h2 : Reg.CHAN_RECON_CNT ∈ ks) (h3 : Reg.CHAN_RETRY_CNT ∈ ks) (h4 : Reg.CHAN_UNCORR_CNT ∈
    ks) (h5 : Reg.CHRON_DROP_CNT ∈ ks) (h6 : Reg.CHRON_REPEAT_CNT ∈ ks) (h7 : Reg.ERR_BUCKET_STATUS_LEVEL ∈ ks) (h8 :
    Reg.ERR_BUCKET_STATUS_OVF_CNT ∈ ks) (h9 : Reg.ERR_CORR_PERS_CNT ∈ ks) (h10 : Reg.ERR_HEALTH_EVENT_BUCKET_OVF ∈ ks)
    (h11 : Reg.ERR_HEALTH_EVENT_DIE_FAIL ∈ ks) (h12 : Reg.ERR_HEALTH_EVENT_UNCORR ∈ ks) (h13 : Reg.ERR_REWRITE_CNT ∈
    ks) (h14 : Reg.ERR_UNCORR_CNT ∈ ks) : onlyRegs ks s (@State.patrolPlain s mp e) := by
  unfold State.patrolPlain
  repeat' (first
      | (with_reducible apply onlyRegs.rfl)
      | extract_lets
      | (with_reducible assumption)
      | (with_reducible exact List.mem_cons_self)
      | (with_reducible apply List.mem_cons_of_mem)
      | (with_reducible apply onlyRegs.ite <;> intro _)
      | (with_reducible apply onlyRegs.keep (weakLine_within _ _ _) (by decide))
      | (with_reducible apply onlyRegs.on (noteCorr_regs _ _ _ ?_))
      | (with_reducible apply onlyRegs.on (bump_regs _ _ _ _ _ ?_))
      | (with_reducible apply onlyRegs.keep (markRefresh_within _ _) (by decide))
      | (with_reducible apply onlyRegs.on (recovered_regs _ _ _ ?_ ?_ ?_ ?_ ?_ ?_))
      | (with_reducible apply onlyRegs.on (noteRecon_regs _ _ ?_ ?_ ?_ ?_))
      | (with_reducible apply onlyRegs.keep (askRewrite_within _ _) (by decide))
      | (with_reducible apply onlyRegs.on (health_regs _ _ ?_)))

theorem patrolLine_within (mp : Nat) (p : MPage) (s : State) (e :
    Sys2Proof.LineErr) : Within 0x10063000000001000000000000000007fbcc00c10000000000022 s
    (@State.patrolLine mp p s e) := by
  unfold State.patrolLine
  repeat' (first
      | extract_lets
      | with_reducible apply Within.ite <;> intro _
      | with_reducible apply Within.rfl
      | (with_reducible apply Within.on (m := 0x10063000000001000000000000000007fbcc00c10000000000022) (readMedia_within _ _ _ _ _ _ _) (by decide))
      | (with_reducible apply Within.on (m := 0x10063000000001000000000000000007fbcc00c10000000000022) (weakLine_within _ _ _) (by decide))
      | (with_reducible apply Within.on (m := 0x10063000000001000000000000000007fbcc00c10000000000022) (patrolPlain_within _ _ _) (by decide))
      | with_reducible apply Within.of_fst (by assumption)
      | with_reducible apply Within.of_fst1 (by assumption)
      | split)

theorem patrolLine_regs (mp : Nat) (p : MPage) (s : State) (e :
    Sys2Proof.LineErr) {ks : List Field} (h1 : Reg.CHAN_CORR_CNT ∈ ks) (h2 : Reg.CHAN_RECON_CNT ∈ ks) (h3 :
    Reg.CHAN_RETRY_CNT ∈ ks) (h4 : Reg.CHAN_UNCORR_CNT ∈ ks) (h5 : Reg.CHRON_DROP_CNT ∈ ks) (h6 : Reg.CHRON_REPEAT_CNT
    ∈ ks) (h7 : Reg.ERR_BUCKET_STATUS_LEVEL ∈ ks) (h8 : Reg.ERR_BUCKET_STATUS_OVF_CNT ∈ ks) (h9 :
    Reg.ERR_CORR_PERS_CNT ∈ ks) (h10 : Reg.ERR_HEALTH_EVENT_BUCKET_OVF ∈ ks) (h11 : Reg.ERR_HEALTH_EVENT_DIE_FAIL ∈
    ks) (h12 : Reg.ERR_HEALTH_EVENT_POISON_FULL ∈ ks) (h13 : Reg.ERR_HEALTH_EVENT_UNCORR ∈ ks) (h14 :
    Reg.ERR_LAST_UNCORR_HI_VALID ∈ ks) (h15 : Reg.ERR_LAST_UNCORR_LO_DPA_LO ∈ ks) (h16 : Reg.ERR_POISON_LIST_OVERFLOW
    ∈ ks) (h17 : Reg.ERR_POISON_LIST_RECORDS ∈ ks) (h18 : Reg.ERR_REWRITE_CNT ∈ ks) (h19 : Reg.ERR_UNCORR_CNT ∈ ks) :
    onlyRegs ks s (@State.patrolLine mp p s e) := by
  unfold State.patrolLine
  repeat' (first
      | (with_reducible apply onlyRegs.rfl)
      | extract_lets
      | (with_reducible assumption)
      | (with_reducible exact List.mem_cons_self)
      | (with_reducible apply List.mem_cons_of_mem)
      | (with_reducible apply onlyRegs.ite <;> intro _)
      | (with_reducible apply onlyRegs.on (readMedia_regs _ _ _ _ _ _ _ ?_ ?_ ?_ ?_ ?_ ?_ ?_ ?_ ?_ ?_ ?_ ?_ ?_ ?_ ?_ ?_ ?_ ?_ ?_))
      | (with_reducible apply onlyRegs.keep (weakLine_within _ _ _) (by decide))
      | (with_reducible apply onlyRegs.on (patrolPlain_regs _ _ _ ?_ ?_ ?_ ?_ ?_ ?_ ?_ ?_ ?_ ?_ ?_ ?_ ?_ ?_))
      | with_reducible apply onlyRegs.of_fst (by assumption)
      | with_reducible apply onlyRegs.of_fst1 (by assumption)
      | split)

theorem pick_1c000000000000000000000000000000000000000000000002 (s t : State) : State.pick 0x1c000000000000000000000000000000000000000000000002 s t = { s with
    regs := t.regs,
    err := { s.err with
      patrolPos := t.err.patrolPos, patrolStart := t.err.patrolStart, visited := t.err.visited } } := rfl

theorem newPass_within (s : State) : Within
    0x1c000000000000000000000000000000000000000000000002 s (@State.newPass s) := by
  unfold State.newPass
  repeat' (first
      | with_reducible apply Within.rfl
      | (with_reducible apply Within.on (m := 0x1c000000000000000000000000000000000000000000000002) (wr_within _ _ _ _ _) (by decide))
      | fail_if_no_progress with_reducible apply Within.upd (by rw [pick_1c000000000000000000000000000000000000000000000002]))

theorem newPass_regs (s : State) {ks : List Field} (h1 : Reg.ERR_PATROL_STATUS_PROGRESS ∈ ks) :
    onlyRegs ks s (@State.newPass s) := by
  unfold State.newPass
  repeat' (first
      | (with_reducible apply onlyRegs.rfl)
      | (with_reducible assumption)
      | (with_reducible exact List.mem_cons_self)
      | (with_reducible apply List.mem_cons_of_mem)
      | (with_reducible apply onlyRegs.wr)
      | fail_if_no_progress with_reducible apply onlyRegs.upd)

theorem passComplete_within (s : State) : Within
    0x1c000000000000000000000000000000000000000000000002 s (@State.passComplete s) := by
  unfold State.passComplete
  repeat' (first
      | with_reducible apply Within.rfl
      | (with_reducible apply Within.on (m := 0x1c000000000000000000000000000000000000000000000002) (newPass_within _) (by decide))
      | (with_reducible apply Within.on (m := 0x1c000000000000000000000000000000000000000000000002) (wr_within _ _ _ _ _) (by decide)))

theorem passComplete_regs (s : State) {ks : List Field} (h1 : Reg.ERR_PATROL_STATUS_LAST_PASS ∈ ks)
    (h2 : Reg.ERR_PATROL_STATUS_PROGRESS ∈ ks) : onlyRegs ks s (@State.passComplete s) := by
  unfold State.passComplete
  repeat' (first
      | (with_reducible apply onlyRegs.rfl)
      | (with_reducible assumption)
      | (with_reducible exact List.mem_cons_self)
      | (with_reducible apply List.mem_cons_of_mem)
      | (with_reducible apply onlyRegs.on (newPass_regs _ ?_))
      | (with_reducible apply onlyRegs.wr))

theorem pick_800000000000010077000000001000000000000000007fbcc00c10000000000022 (s t : State) : State.pick 0x800000000000010077000000001000000000000000007fbcc00c10000000000022 s t = { s with
    regs := t.regs, out := t.out,
    keep := { s.keep with shadow := t.keep.shadow, queue := t.keep.queue, lost := t.keep.lost },
    chron := { s.chron with
      perm := t.chron.perm, ring := t.chron.ring, buffer := t.chron.buffer, nextSerial := t.chron.nextSerial,
      runs := t.chron.runs, dropped := t.chron.dropped },
    events := t.events, chans := t.chans,
    err := { s.err with
      poison := t.err.poison, poisonLost := t.err.poisonLost, patrolPos := t.err.patrolPos,
      visited := t.err.visited, refresh := t.err.refresh, rewrites := t.err.rewrites,
      lastUncorrHi := t.err.lastUncorrHi },
    telem := { s.telem with counts := t.telem.counts } } := rfl

theorem visit_within (s : State) (mp : Nat) (p : MPage) (errs : List
    Sys2Proof.LineErr) : Within 0x800000000000010077000000001000000000000000007fbcc00c10000000000022 s
    (@State.visit s mp p errs) := by
  unfold State.visit
  dsimp only
  have key : ∀ (u : State) (x y v : Nat), Within 0x800000000000010077000000001000000000000000007fbcc00c10000000000022 u (({ u with err := { u.err with patrolPos := x, visited := y } } : State).wr Reg.ERR_PATROL_STATUS_PROGRESS v) := by
    intro u x y v
    refine Within.on (wr_within _ _ _ _ _) (by decide) ?_
    exact Within.upd (by rw [pick_800000000000010077000000001000000000000000007fbcc00c10000000000022]) Within.rfl
  have fold : Within 0x800000000000010077000000001000000000000000007fbcc00c10000000000022 s (errs.foldl (State.patrolLine mp p) (s.tele 13 0x07 (mpChan mp / 8))) :=
    Within.foldl (fun t x => (patrolLine_within mp p t x).mono (by decide)) _ ((tele_within s 13 7 (mpChan mp / 8) 1).mono (by decide))
  generalize errs.foldl (State.patrolLine mp p) (s.tele 13 0x07 (mpChan mp / 8)) = u at fold ⊢
  have two : Within 0x800000000000010077000000001000000000000000007fbcc00c10000000000022 s (if u.tooOld p then u.markRefresh mp else u) := by
    split
    · exact Within.on (markRefresh_within _ _) (by decide) fold
    · exact fold
  generalize (if u.tooOld p then u.markRefresh mp else u) = w at two ⊢
  exact Within.on (key w _ _ _) (Nat.or_self _) two

theorem visit_regs (s : State) (mp : Nat) (p : MPage) (errs : List
    Sys2Proof.LineErr) {ks : List Field} (h1 : Reg.CHAN_CORR_CNT ∈ ks) (h2 : Reg.CHAN_RECON_CNT ∈ ks) (h3 :
    Reg.CHAN_RETRY_CNT ∈ ks) (h4 : Reg.CHAN_UNCORR_CNT ∈ ks) (h5 : Reg.CHRON_DROP_CNT ∈ ks) (h6 : Reg.CHRON_REPEAT_CNT
    ∈ ks) (h7 : Reg.ERR_BUCKET_STATUS_LEVEL ∈ ks) (h8 : Reg.ERR_BUCKET_STATUS_OVF_CNT ∈ ks) (h9 :
    Reg.ERR_CORR_PERS_CNT ∈ ks) (h10 : Reg.ERR_HEALTH_EVENT_BUCKET_OVF ∈ ks) (h11 : Reg.ERR_HEALTH_EVENT_DIE_FAIL ∈
    ks) (h12 : Reg.ERR_HEALTH_EVENT_POISON_FULL ∈ ks) (h13 : Reg.ERR_HEALTH_EVENT_UNCORR ∈ ks) (h14 :
    Reg.ERR_LAST_UNCORR_HI_VALID ∈ ks) (h15 : Reg.ERR_LAST_UNCORR_LO_DPA_LO ∈ ks) (h16 :
    Reg.ERR_PATROL_STATUS_PROGRESS ∈ ks) (h17 : Reg.ERR_POISON_LIST_OVERFLOW ∈ ks) (h18 : Reg.ERR_POISON_LIST_RECORDS
    ∈ ks) (h19 : Reg.ERR_REWRITE_CNT ∈ ks) (h20 : Reg.ERR_UNCORR_CNT ∈ ks) (h21 : Reg.TELEM_BLK_OVF_OVF ∈ ks) : onlyRegs
    ks s (@State.visit s mp p errs) := by
  unfold State.visit
  repeat' (first
      | (with_reducible apply onlyRegs.rfl)
      | extract_lets
      | (with_reducible assumption)
      | (with_reducible exact List.mem_cons_self)
      | (with_reducible apply List.mem_cons_of_mem)
      | (with_reducible apply onlyRegs.ite <;> intro _)
      | (with_reducible apply onlyRegs.on (tele_regs _ _ _ _ _ ?_))
      | (with_reducible apply onlyRegs.on (patrolLine_regs _ _ _ _ ?_ ?_ ?_ ?_ ?_ ?_ ?_ ?_ ?_ ?_ ?_ ?_ ?_ ?_ ?_ ?_ ?_ ?_ ?_))
      | (with_reducible apply onlyRegs.keep (markRefresh_within _ _) (by decide))
      | (with_reducible apply onlyRegs.wr)
      | (with_reducible apply onlyRegs.foldl; intro t x)
      | fail_if_no_progress with_reducible apply onlyRegs.upd)

theorem pick_80000000000000000600000000000000000000000000000022 (s t : State) : State.pick 0x80000000000000000600000000000000000000000000000022 s t = { s with
    regs := t.regs, out := t.out, mbox := { s.mbox with stored := t.mbox.stored, bg := t.mbox.bg },
    err := { s.err with scrub := t.err.scrub } } := rfl

theorem startScrub_within (s : State) (x : Scrub) (b :
    Background) : Within 0x80000000000000000600000000000000000000000000000022 s
    (@State.startScrub s x b) := by
  unfold State.startScrub
  repeat' (first
      | extract_lets
      | with_reducible apply Within.rfl
      | (with_reducible apply Within.on (m := 0x80000000000000000600000000000000000000000000000022) (setBit_within _ _ _ _ _) (by decide))
      | (with_reducible apply Within.on (m := 0x80000000000000000600000000000000000000000000000022) (reply_within _ _ _ _ _) (by decide))
      | (with_reducible apply Within.on (m := 0x80000000000000000600000000000000000000000000000022) (bgStart_within _ _ _) (by decide))
      | fail_if_no_progress with_reducible apply Within.upd (by rw [pick_80000000000000000600000000000000000000000000000022]))

theorem startScrub_regs (s : State) (x : Scrub) (b :
    Background) {ks : List Field} (h1 : Reg.ERR_STATUS_SCRUB_BUSY ∈ ks) : onlyRegs ks s
    (@State.startScrub s x b) := by
  unfold State.startScrub
  repeat' (first
      | (with_reducible apply onlyRegs.rfl)
      | extract_lets
      | (with_reducible assumption)
      | (with_reducible exact List.mem_cons_self)
      | (with_reducible apply List.mem_cons_of_mem)
      | (with_reducible apply onlyRegs.on (setBit_regs _ _ _ _ _ ?_))
      | (with_reducible apply onlyRegs.keep (reply_within _ _ _ _ _) (by decide))
      | (with_reducible apply onlyRegs.keep (bgStart_within _ _ _) (by decide))
      | fail_if_no_progress with_reducible apply onlyRegs.upd)

theorem scrubLine_within (l : List (Nat × Nat)) (scan : Bool) (a : ScrubAcc) (x : Nat × LineErr) : Within
    0x10063000000001000000000000000007fbcc00c10000000000022 a.s (@scrubLine l scan a x).s :=
    by
  unfold scrubLine
  repeat' (first
      | extract_lets
      | with_reducible apply Within.ite <;> intro _
      | with_reducible apply Within.rfl
      | (with_reducible apply Within.on (m := 0x10063000000001000000000000000007fbcc00c10000000000022) (readMedia_within _ _ _ _ _ _ _) (by decide))
      | (with_reducible apply Within.on (m := 0x10063000000001000000000000000007fbcc00c10000000000022) (weakLine_within _ _ _) (by decide))
      | fail_if_no_progress with_reducible apply Within.upd (by rw [pick_10063000000001000000000000000007fbcc00c10000000000022])
      | with_reducible apply Within.of_fst (by assumption)
      | with_reducible apply Within.iteP (π := ScrubAcc.s) <;> intro _
      | with_reducible apply Within.of_fst1 (by assumption)
      | split)

theorem scrubLine_regs (l : List (Nat × Nat)) (scan : Bool) (a : ScrubAcc) (x : Nat × LineErr) {ks : List Field} (h1
    : Reg.CHAN_CORR_CNT ∈ ks) (h2 : Reg.CHAN_RECON_CNT ∈ ks) (h3 : Reg.CHAN_RETRY_CNT ∈ ks) (h4 : Reg.CHAN_UNCORR_CNT
    ∈ ks) (h5 : Reg.CHRON_DROP_CNT ∈ ks) (h6 : Reg.CHRON_REPEAT_CNT ∈ ks) (h7 : Reg.ERR_BUCKET_STATUS_LEVEL ∈ ks) (h8
    : Reg.ERR_BUCKET_STATUS_OVF_CNT ∈ ks) (h9 : Reg.ERR_CORR_PERS_CNT ∈ ks) (h10 : Reg.ERR_HEALTH_EVENT_BUCKET_OVF ∈
    ks) (h11 : Reg.ERR_HEALTH_EVENT_DIE_FAIL ∈ ks) (h12 : Reg.ERR_HEALTH_EVENT_POISON_FULL ∈ ks) (h13 :
    Reg.ERR_HEALTH_EVENT_UNCORR ∈ ks) (h14 : Reg.ERR_LAST_UNCORR_HI_VALID ∈ ks) (h15 : Reg.ERR_LAST_UNCORR_LO_DPA_LO ∈
    ks) (h16 : Reg.ERR_POISON_LIST_OVERFLOW ∈ ks) (h17 : Reg.ERR_POISON_LIST_RECORDS ∈ ks) (h18 : Reg.ERR_REWRITE_CNT
    ∈ ks) (h19 : Reg.ERR_UNCORR_CNT ∈ ks) : onlyRegs ks a.s (@scrubLine l scan a x).s := by
  unfold scrubLine
  repeat' (first
      | (with_reducible apply onlyRegs.rfl)
      | extract_lets
      | (with_reducible assumption)
      | (with_reducible exact List.mem_cons_self)
      | (with_reducible apply List.mem_cons_of_mem)
      | (with_reducible apply onlyRegs.ite <;> intro _)
      | (with_reducible apply onlyRegs.on (readMedia_regs _ _ _ _ _ _ _ ?_ ?_ ?_ ?_ ?_ ?_ ?_ ?_ ?_ ?_ ?_ ?_ ?_ ?_ ?_ ?_ ?_ ?_ ?_))
      | (with_reducible apply onlyRegs.keep (weakLine_within _ _ _) (by decide))
      | fail_if_no_progress with_reducible apply onlyRegs.upd
      | with_reducible apply onlyRegs.of_fst (by assumption)
      | with_reducible apply onlyRegs.iteP (π := ScrubAcc.s) <;> intro _
      | with_reducible apply onlyRegs.of_fst1 (by assumption)
      | split)

theorem pick_101e3000000001000000600000000007fbcc00c10000000000022 (s t : State) : State.pick 0x101e3000000001000000600000000007fbcc00c10000000000022 s t = { s with
    regs := t.regs, out := t.out,
    keep := { s.keep with shadow := t.keep.shadow, queue := t.keep.queue, lost := t.keep.lost },
    chron := { s.chron with
      perm := t.chron.perm, ring := t.chron.ring, buffer := t.chron.buffer, nextSerial := t.chron.nextSerial,
      runs := t.chron.runs, dropped := t.chron.dropped },
    events := t.events, mbox := { s.mbox with stored := t.mbox.stored, bg := t.mbox.bg }, chans := t.chans,
    err := { s.err with
      poison := t.err.poison, poisonLost := t.err.poisonLost, refresh := t.err.refresh,
      rewrites := t.err.rewrites, scrub := t.err.scrub, scanResults := t.err.scanResults,
      lastUncorrHi := t.err.lastUncorrHi } } := rfl

theorem scrubDone_within (s : State) (x : Scrub) (how : Sys2Proof.ScrubEnd)
    (reached : Nat) (errs : List (Nat × Sys2Proof.LineErr)) : Within
    0x101e3000000001000000600000000007fbcc00c10000000000022 s (@State.scrubDone s x how
    reached errs) := by
  unfold State.scrubDone
  repeat' (first
      | extract_lets
      | with_reducible apply Within.ite <;> intro _
      | with_reducible apply Within.rfl
      | (with_reducible apply Within.on (m := 0x101e3000000001000000600000000007fbcc00c10000000000022) (scrubLine_within _ _ _ _) (by decide))
      | (with_reducible apply Within.on (m := 0x101e3000000001000000600000000007fbcc00c10000000000022) (markRefresh_within _ _) (by decide))
      | (with_reducible apply Within.on (m := 0x101e3000000001000000600000000007fbcc00c10000000000022) (setBit_within _ _ _ _ _) (by decide))
      | (with_reducible apply Within.on (m := 0x101e3000000001000000600000000007fbcc00c10000000000022) (bgDone_within _ _ _ _ _ _) (by decide))
      | (with_reducible apply Within.foldl; intro t x)
      | fail_if_no_progress with_reducible apply Within.upd (by rw [pick_101e3000000001000000600000000007fbcc00c10000000000022])
      | (with_reducible apply Within.foldlP (π := ScrubAcc.s); intro t x))

theorem scrubDone_regs (s : State) (x : Scrub) (how : Sys2Proof.ScrubEnd)
    (reached : Nat) (errs : List (Nat × Sys2Proof.LineErr)) {ks : List Field} (h1 : Reg.CHAN_CORR_CNT ∈ ks) (h2 :
    Reg.CHAN_RECON_CNT ∈ ks) (h3 : Reg.CHAN_RETRY_CNT ∈ ks) (h4 : Reg.CHAN_UNCORR_CNT ∈ ks) (h5 : Reg.CHRON_DROP_CNT ∈
    ks) (h6 : Reg.CHRON_REPEAT_CNT ∈ ks) (h7 : Reg.ERR_BUCKET_STATUS_LEVEL ∈ ks) (h8 : Reg.ERR_BUCKET_STATUS_OVF_CNT ∈
    ks) (h9 : Reg.ERR_CORR_PERS_CNT ∈ ks) (h10 : Reg.ERR_HEALTH_EVENT_BUCKET_OVF ∈ ks) (h11 :
    Reg.ERR_HEALTH_EVENT_DIE_FAIL ∈ ks) (h12 : Reg.ERR_HEALTH_EVENT_POISON_FULL ∈ ks) (h13 :
    Reg.ERR_HEALTH_EVENT_UNCORR ∈ ks) (h14 : Reg.ERR_LAST_UNCORR_HI_VALID ∈ ks) (h15 : Reg.ERR_LAST_UNCORR_LO_DPA_LO ∈
    ks) (h16 : Reg.ERR_POISON_LIST_OVERFLOW ∈ ks) (h17 : Reg.ERR_POISON_LIST_RECORDS ∈ ks) (h18 : Reg.ERR_REWRITE_CNT
    ∈ ks) (h19 : Reg.ERR_STATUS_SCRUB_BUSY ∈ ks) (h20 : Reg.ERR_UNCORR_CNT ∈ ks) : onlyRegs ks s
    (@State.scrubDone s x how reached errs) := by
  unfold State.scrubDone
  repeat' (first
      | (with_reducible apply onlyRegs.rfl)
      | extract_lets
      | (with_reducible assumption)
      | (with_reducible exact List.mem_cons_self)
      | (with_reducible apply List.mem_cons_of_mem)
      | (with_reducible apply onlyRegs.ite <;> intro _)
      | (with_reducible apply onlyRegs.on (scrubLine_regs _ _ _ _ ?_ ?_ ?_ ?_ ?_ ?_ ?_ ?_ ?_ ?_ ?_ ?_ ?_ ?_ ?_ ?_ ?_ ?_ ?_))
      | (with_reducible apply onlyRegs.keep (markRefresh_within _ _) (by decide))
      | (with_reducible apply onlyRegs.on (setBit_regs _ _ _ _ _ ?_))
      | (with_reducible apply onlyRegs.keep (bgDone_within _ _ _ _ _ _) (by decide))
      | (with_reducible apply onlyRegs.foldl; intro t x)
      | fail_if_no_progress with_reducible apply onlyRegs.upd
      | (with_reducible apply onlyRegs.foldlP (π := ScrubAcc.s); intro t x))

end Sys2Proof.Machine
end

