-- ==== Sys2Proof/Laws/DcFamilyFrames.lean ====
section
/-! SUPPORT. For each function of Machine/DcFamily.lean over the state: the part of the state outside which it changes
nothing (`…_within`), and the register fields that it may write (`…_regs`). -/

namespace Sys2Proof.Machine

set_option maxRecDepth 4000

theorem releaseSnoops_within (s : State) (n : Nat) (us : List Nat) : Within
    0x74000000000000000000000000000000000022 s (@State.releaseSnoops s n us) := by
  unfold State.releaseSnoops
  repeat' (first
      | extract_lets
      | with_reducible apply Within.ite <;> intro _
      | with_reducible apply Within.rfl
      | (with_reducible apply Within.on (m := 0x74000000000000000000000000000000000022) (startSnoop_within _ _ _ _ _ _) (by decide))
      | (with_reducible apply Within.foldl; intro t x))

theorem releaseSnoops_regs (s : State) (n : Nat) (us : List Nat) {ks : List Field} (h1 :
    Reg.DIR_BCAST_CNT ∈ ks) (h2 : Reg.DIR_BISNP_CNT ∈ ks) (h3 : Reg.DIR_EVBUF_USED ∈ ks) (h4 :
    Reg.DIR_HOST_OVF_ENTRIES ∈ ks) (h5 : Reg.DIR_HOST_STATUS_ENTRIES ∈ ks) : onlyRegs ks s
    (@State.releaseSnoops s n us) := by
  unfold State.releaseSnoops
  repeat' (first
      | (with_reducible apply onlyRegs.rfl)
      | extract_lets
      | (with_reducible assumption)
      | (with_reducible exact List.mem_cons_self)
      | (with_reducible apply List.mem_cons_of_mem)
      | (with_reducible apply onlyRegs.ite <;> intro _)
      | (with_reducible apply onlyRegs.on (startSnoop_regs _ _ _ _ _ _ ?_ ?_ ?_ ?_ ?_))
      | (with_reducible apply onlyRegs.foldl; intro t x))

theorem pick_74000000008000000000000000000000000022 (s t : State) : State.pick 0x74000000008000000000000000000000000022 s t = { s with
    regs := t.regs, out := t.out, sessions := t.sessions,
    cache := { s.cache with
      host := t.cache.host, snoops := t.cache.snoops, clock := t.cache.clock, biCredits := t.cache.biCredits } } := rfl

theorem startRelease_within (s : State) (n : Nat) (us : List Nat) : Within
    0x74000000008000000000000000000000000022 s (@State.startRelease s n us) := by
  unfold State.startRelease
  repeat' (first
      | extract_lets
      | with_reducible apply Within.rfl
      | (with_reducible apply Within.on (m := 0x74000000008000000000000000000000000022) (setSess_within _ _ _) (by decide))
      | (with_reducible apply Within.on (m := 0x74000000008000000000000000000000000022) (releaseSnoops_within _ _ _) (by decide)))

theorem startRelease_regs (s : State) (n : Nat) (us : List Nat) {ks : List Field} (h1 :
    Reg.DIR_BCAST_CNT ∈ ks) (h2 : Reg.DIR_BISNP_CNT ∈ ks) (h3 : Reg.DIR_EVBUF_USED ∈ ks) (h4 :
    Reg.DIR_HOST_OVF_ENTRIES ∈ ks) (h5 : Reg.DIR_HOST_STATUS_ENTRIES ∈ ks) : onlyRegs ks s
    (@State.startRelease s n us) := by
  unfold State.startRelease
  repeat' (first
      | (with_reducible apply onlyRegs.rfl)
      | extract_lets
      | (with_reducible assumption)
      | (with_reducible exact List.mem_cons_self)
      | (with_reducible apply List.mem_cons_of_mem)
      | (with_reducible apply onlyRegs.keep (setSess_within _ _ _) (by decide))
      | (with_reducible apply onlyRegs.on (releaseSnoops_regs _ _ _ ?_ ?_ ?_ ?_ ?_)))

end Sys2Proof.Machine
end

