-- ==== Sys2Proof/Laws/QueueFamilyFrames.lean ====
section
/-! SUPPORT. For each function of Machine/QueueFamily.lean over the state: the part of the state outside which it changes
nothing (`…_within`), and the register fields that it may write (`…_regs`). -/

namespace Sys2Proof.Machine

set_option maxRecDepth 4000

theorem popHead_within (s : State) (n : Nat) (l : Sys2Proof.Lane) : Within
    0x8000000000000000000000000000 s (@State.popHead s n l) := by
  unfold State.popHead
  repeat' (first
      | extract_lets
      | with_reducible apply Within.rfl
      | (with_reducible apply Within.on (m := 0x8000000000000000000000000000) (setSess_within _ _ _) (by decide)))

theorem setHead_within (s : State) (n : Nat) (l : Sys2Proof.Lane) (d : Desc) :
    Within 0x8000000000000000000000000000 s (@State.setHead s n l d) := by
  unfold State.setHead
  repeat' (first
      | extract_lets
      | with_reducible apply Within.rfl
      | (with_reducible apply Within.on (m := 0x8000000000000000000000000000) (setSess_within _ _ _) (by decide)))

theorem charge_within (s : State) (n : Nat) (l : Sys2Proof.Lane) (c : Nat) : Within
    0x8000000000000000000000000000 s (@State.charge s n l c) := by
  unfold State.charge
  repeat' (first
      | extract_lets
      | with_reducible apply Within.rfl
      | (with_reducible apply Within.on (m := 0x8000000000000000000000000000) (setSess_within _ _ _) (by decide))
      | fail_if_no_progress with_reducible apply Within.upd (by rw [pick_8000000000000000000000000000])
      | with_reducible apply Within.of_fst (by assumption)
      | with_reducible apply Within.of_fst1 (by assumption)
      | split)

theorem stall_within (s : State) (n : Nat) : Within 0x8000000000000000000000000000 s
    (@State.stall s n) := by
  unfold State.stall
  repeat' (first
      | extract_lets
      | with_reducible apply Within.ite <;> intro _
      | with_reducible apply Within.rfl
      | (with_reducible apply Within.on (m := 0x8000000000000000000000000000) (setSess_within _ _ _) (by decide)))

theorem parityRecord_within (s : State) (n : Nat) (d : Desc) : Within
    0x7fbcc00000000000000022 s (@State.parityRecord s n d) := by
  unfold State.parityRecord
  repeat' (first
      | extract_lets
      | with_reducible apply Within.ite <;> intro _
      | with_reducible apply Within.rfl
      | (with_reducible apply Within.on (m := 0x7fbcc00000000000000022) (event_within _ _ _ _) (by decide))
      | fail_if_no_progress with_reducible apply Within.upd (by rw [pick_7fbcc00000000000000022]))

theorem parityRecord_regs (s : State) (n : Nat) (d : Desc) {ks : List Field} (h1
    : Reg.CHRON_DROP_CNT ∈ ks) (h2 : Reg.CHRON_REPEAT_CNT ∈ ks) : onlyRegs ks s (@State.parityRecord s
    n d) := by
  unfold State.parityRecord
  repeat' (first
      | (with_reducible apply onlyRegs.rfl)
      | extract_lets
      | (with_reducible assumption)
      | (with_reducible exact List.mem_cons_self)
      | (with_reducible apply List.mem_cons_of_mem)
      | (with_reducible apply onlyRegs.ite <;> intro _)
      | (with_reducible apply onlyRegs.on (event_regs _ _ _ _ ?_ ?_))
      | fail_if_no_progress with_reducible apply onlyRegs.upd)

theorem pick_8000000000438000007fbcc00000000000000022 (s t : State) : State.pick 0x8000000000438000007fbcc00000000000000022 s t = { s with
    regs := t.regs, out := t.out,
    chron := { s.chron with
      perm := t.chron.perm, ring := t.chron.ring, buffer := t.chron.buffer, nextSerial := t.chron.nextSerial,
      runs := t.chron.runs, dropped := t.chron.dropped },
    events := t.events, sessions := t.sessions, reqs := t.reqs, nextRid := t.nextRid,
    merge := { s.merge with cells := t.merge.cells }, sched := { s.sched with jobs := t.sched.jobs } } := rfl

theorem poisoned_within (s : State) (n : Nat) (l : Sys2Proof.Lane) (d : Desc) :
    Within 0x8000000000438000007fbcc00000000000000022 s (@State.poisoned s n l d) := by
  unfold State.poisoned
  repeat' (first
      | extract_lets
      | with_reducible apply Within.ite <;> intro _
      | with_reducible apply Within.rfl
      | (with_reducible apply Within.on (m := 0x8000000000438000007fbcc00000000000000022) (parityRecord_within _ _ _) (by decide))
      | (with_reducible apply Within.on (m := 0x8000000000438000007fbcc00000000000000022) (bump_within _ _ _ _ _) (by decide))
      | (with_reducible apply Within.on (m := 0x8000000000438000007fbcc00000000000000022) (popHead_within _ _ _) (by decide))
      | (with_reducible apply Within.on (m := 0x8000000000438000007fbcc00000000000000022) (noteWait_within _ _ _) (by decide))
      | (with_reducible apply Within.on (m := 0x8000000000438000007fbcc00000000000000022) (setHead_within _ _ _ _) (by decide))
      | (with_reducible apply Within.on (m := 0x8000000000438000007fbcc00000000000000022) (freeCell_within _ _) (by decide))
      | (with_reducible apply Within.on (m := 0x8000000000438000007fbcc00000000000000022) (takeTracker_within _ _) (by decide))
      | (with_reducible apply Within.on (m := 0x8000000000438000007fbcc00000000000000022) (finish_within _ _) (by decide))
      | (with_reducible apply Within.on (m := 0x8000000000438000007fbcc00000000000000022) (respond_within _ _ _ _ _) (by decide)))

theorem poisoned_regs (s : State) (n : Nat) (l : Sys2Proof.Lane) (d : Desc) {ks :
    List Field} (h1 : Reg.CHRON_DROP_CNT ∈ ks) (h2 : Reg.CHRON_REPEAT_CNT ∈ ks) (h3 : Reg.PORT_INFLIGHT_LINK0 ∈ ks)
    (h4 : Reg.PORT_INFLIGHT_LINK1 ∈ ks) (h5 : Reg.PORT_INFLIGHT_PEAK_LINK0 ∈ ks) (h6 : Reg.PORT_INFLIGHT_PEAK_LINK1 ∈
    ks) (h7 : Reg.SESS_Q_LOST_CNT ∈ ks) (h8 : Reg.SESS_Q_PARITY_CNT ∈ ks) : onlyRegs ks s
    (@State.poisoned s n l d) := by
  unfold State.poisoned
  repeat' (first
      | (with_reducible apply onlyRegs.rfl)
      | extract_lets
      | (with_reducible assumption)
      | (with_reducible exact List.mem_cons_self)
      | (with_reducible apply List.mem_cons_of_mem)
      | (with_reducible apply onlyRegs.ite <;> intro _)
      | (with_reducible apply onlyRegs.on (parityRecord_regs _ _ _ ?_ ?_))
      | (with_reducible apply onlyRegs.on (bump_regs _ _ _ _ _ ?_))
      | (with_reducible apply onlyRegs.keep (popHead_within _ _ _) (by decide))
      | (with_reducible apply onlyRegs.keep (noteWait_within _ _ _) (by decide))
      | (with_reducible apply onlyRegs.keep (setHead_within _ _ _ _) (by decide))
      | (with_reducible apply onlyRegs.keep (freeCell_within _ _) (by decide))
      | (with_reducible apply onlyRegs.on (takeTracker_regs _ _ ?_ ?_ ?_ ?_))
      | (with_reducible apply onlyRegs.on (finish_regs _ _ ?_ ?_ ?_ ?_))
      | (with_reducible apply onlyRegs.keep (respond_within _ _ _ _ _) (by decide)))

theorem pick_80000000000000000000000000807c30c000038000007fbcc00000000000000022 (s t : State) : State.pick 0x80000000000000000000000000807c30c000038000007fbcc00000000000000022 s t = { s with
    regs := t.regs, out := t.out,
    chron := { s.chron with
      perm := t.chron.perm, ring := t.chron.ring, buffer := t.chron.buffer, nextSerial := t.chron.nextSerial,
      runs := t.chron.runs, dropped := t.chron.dropped },
    events := t.events, sessions := t.sessions, reqs := t.reqs, nextRid := t.nextRid,
    cache := { s.cache with
      lines := t.cache.lines, fills := t.cache.fills, dirPlru := t.cache.dirPlru, plru := t.cache.plru,
      host := t.cache.host, evicting := t.cache.evicting, snoops := t.cache.snoops, clock := t.cache.clock,
      biCredits := t.cache.biCredits },
    sched := { s.sched with jobs := t.sched.jobs }, telem := { s.telem with counts := t.telem.counts } } := rfl

theorem passRead_within (s : State) (n : Nat) (d : Desc) (classF : Bool) : Within
    0x80000000000000000000000000807c30c000038000007fbcc00000000000000022 s
    (@State.passRead s n d classF) := by
  unfold State.passRead
  repeat' (first
      | extract_lets
      | with_reducible apply Within.ite <;> intro _
      | with_reducible apply Within.rfl
      | (with_reducible apply Within.on (m := 0x80000000000000000000000000807c30c000038000007fbcc00000000000000022) (takeTracker_within _ _) (by decide))
      | (with_reducible apply Within.on (m := 0x80000000000000000000000000807c30c000038000007fbcc00000000000000022) (charge_within _ _ _ _) (by decide))
      | (with_reducible apply Within.on (m := 0x80000000000000000000000000807c30c000038000007fbcc00000000000000022) (popHead_within _ _ _) (by decide))
      | (with_reducible apply Within.on (m := 0x80000000000000000000000000807c30c000038000007fbcc00000000000000022) (tele_within _ _ _ _ _) (by decide))
      | (with_reducible apply Within.on (m := 0x80000000000000000000000000807c30c000038000007fbcc00000000000000022) (tryResolve_within _ _ _ _) (by decide))
      | (with_reducible apply Within.on (m := 0x80000000000000000000000000807c30c000038000007fbcc00000000000000022) (proceed_within _ _ _ _) (by decide))
      | fail_if_no_progress with_reducible apply Within.upd (by rw [pick_80000000000000000000000000807c30c000038000007fbcc00000000000000022])
      | with_reducible apply Within.of_fst (by assumption)
      | with_reducible apply Within.of_fst1 (by assumption)
      | split)

theorem passRead_regs (s : State) (n : Nat) (d : Desc) (classF : Bool) {ks : List
    Field} (h1 : Reg.CACHE_FWD_CNT ∈ ks) (h2 : Reg.CACHE_HIT_CNT ∈ ks) (h3 : Reg.CACHE_MISS_CNT ∈ ks) (h4 :
    Reg.CHRON_DROP_CNT ∈ ks) (h5 : Reg.CHRON_REPEAT_CNT ∈ ks) (h6 : Reg.DIR_BCAST_CNT ∈ ks) (h7 : Reg.DIR_BISNP_CNT ∈
    ks) (h8 : Reg.DIR_EVBUF_USED ∈ ks) (h9 : Reg.DIR_EVICT_CNT ∈ ks) (h10 : Reg.DIR_HOST_OVF_ENTRIES ∈ ks) (h11 :
    Reg.DIR_HOST_STATUS_ENTRIES ∈ ks) (h12 : Reg.DIR_RESOLVE_WAIT_CNT ∈ ks) (h13 : Reg.DIR_SLICE_STATUS_ENTRIES ∈ ks)
    (h14 : Reg.ERR_BUCKET_STATUS_LEVEL ∈ ks) (h15 : Reg.ERR_BUCKET_STATUS_OVF_CNT ∈ ks) (h16 : Reg.ERR_CORR_VOL_CNT ∈
    ks) (h17 : Reg.ERR_HEALTH_EVENT_BUCKET_OVF ∈ ks) (h18 : Reg.PORT_INFLIGHT_LINK0 ∈ ks) (h19 :
    Reg.PORT_INFLIGHT_LINK1 ∈ ks) (h20 : Reg.PORT_INFLIGHT_PEAK_LINK0 ∈ ks) (h21 : Reg.PORT_INFLIGHT_PEAK_LINK1 ∈ ks)
    (h22 : Reg.PROT_INTEG_FAIL_CNT ∈ ks) (h23 : Reg.RANGE_INTEG_FAIL_CNT ∈ ks) (h24 : Reg.TELEM_BLK_OVF_OVF ∈ ks) :
    onlyRegs ks s (@State.passRead s n d classF) := by
  unfold State.passRead
  repeat' (first
      | (with_reducible apply onlyRegs.rfl)
      | extract_lets
      | (with_reducible assumption)
      | (with_reducible exact List.mem_cons_self)
      | (with_reducible apply List.mem_cons_of_mem)
      | (with_reducible apply onlyRegs.ite <;> intro _)
      | (with_reducible apply onlyRegs.on (takeTracker_regs _ _ ?_ ?_ ?_ ?_))
      | (with_reducible apply onlyRegs.keep (charge_within _ _ _ _) (by decide))
      | (with_reducible apply onlyRegs.keep (popHead_within _ _ _) (by decide))
      | (with_reducible apply onlyRegs.on (tele_regs _ _ _ _ _ ?_))
      | (with_reducible apply onlyRegs.on (tryResolve_regs _ _ _ _ ?_ ?_ ?_ ?_ ?_ ?_ ?_ ?_ ?_ ?_ ?_ ?_ ?_ ?_ ?_ ?_ ?_ ?_ ?_ ?_ ?_ ?_ ?_ ?_))
      | (with_reducible apply onlyRegs.on (proceed_regs _ _ _ _ ?_ ?_ ?_ ?_ ?_ ?_ ?_ ?_ ?_ ?_ ?_ ?_ ?_ ?_ ?_ ?_ ?_ ?_ ?_ ?_))
      | fail_if_no_progress with_reducible apply onlyRegs.upd
      | with_reducible apply onlyRegs.of_fst (by assumption)
      | with_reducible apply onlyRegs.of_fst1 (by assumption)
      | split)

theorem pick_800000000000000000000000008000000000438000000000000000000000000022 (s t : State) : State.pick 0x800000000000000000000000008000000000438000000000000000000000000022 s t = { s with
    regs := t.regs, out := t.out, sessions := t.sessions, reqs := t.reqs, nextRid := t.nextRid,
    merge := { s.merge with cells := t.merge.cells }, sched := { s.sched with jobs := t.sched.jobs },
    telem := { s.telem with counts := t.telem.counts } } := rfl

theorem discardWrite_within (s : State) (n : Nat) (d : Desc) (c : Nat) : Within
    0x800000000000000000000000008000000000438000000000000000000000000022 s
    (@State.discardWrite s n d c) := by
  unfold State.discardWrite
  repeat' (first
      | extract_lets
      | with_reducible apply Within.rfl
      | (with_reducible apply Within.on (m := 0x800000000000000000000000008000000000438000000000000000000000000022) (takeTracker_within _ _) (by decide))
      | (with_reducible apply Within.on (m := 0x800000000000000000000000008000000000438000000000000000000000000022) (charge_within _ _ _ _) (by decide))
      | (with_reducible apply Within.on (m := 0x800000000000000000000000008000000000438000000000000000000000000022) (popHead_within _ _ _) (by decide))
      | (with_reducible apply Within.on (m := 0x800000000000000000000000008000000000438000000000000000000000000022) (tele_within _ _ _ _ _) (by decide))
      | (with_reducible apply Within.on (m := 0x800000000000000000000000008000000000438000000000000000000000000022) (finish_within _ _) (by decide))
      | (with_reducible apply Within.on (m := 0x800000000000000000000000008000000000438000000000000000000000000022) (respond_within _ _ _ _ _) (by decide))
      | (with_reducible apply Within.on (m := 0x800000000000000000000000008000000000438000000000000000000000000022) (freeCell_within _ _) (by decide)))

theorem discardWrite_regs (s : State) (n : Nat) (d : Desc) (c : Nat) {ks : List
    Field} (h1 : Reg.PORT_INFLIGHT_LINK0 ∈ ks) (h2 : Reg.PORT_INFLIGHT_LINK1 ∈ ks) (h3 : Reg.PORT_INFLIGHT_PEAK_LINK0
    ∈ ks) (h4 : Reg.PORT_INFLIGHT_PEAK_LINK1 ∈ ks) (h5 : Reg.TELEM_BLK_OVF_OVF ∈ ks) : onlyRegs ks s
    (@State.discardWrite s n d c) := by
  unfold State.discardWrite
  repeat' (first
      | (with_reducible apply onlyRegs.rfl)
      | extract_lets
      | (with_reducible assumption)
      | (with_reducible exact List.mem_cons_self)
      | (with_reducible apply List.mem_cons_of_mem)
      | (with_reducible apply onlyRegs.on (takeTracker_regs _ _ ?_ ?_ ?_ ?_))
      | (with_reducible apply onlyRegs.keep (charge_within _ _ _ _) (by decide))
      | (with_reducible apply onlyRegs.keep (popHead_within _ _ _) (by decide))
      | (with_reducible apply onlyRegs.on (tele_regs _ _ _ _ _ ?_))
      | (with_reducible apply onlyRegs.on (finish_regs _ _ ?_ ?_ ?_ ?_))
      | (with_reducible apply onlyRegs.keep (respond_within _ _ _ _ _) (by decide))
      | (with_reducible apply onlyRegs.keep (freeCell_within _ _) (by decide)))

theorem pick_38000000000000000000000000022 (s t : State) : State.pick 0x38000000000000000000000000022 s t = { s with
    regs := t.regs, out := t.out, sessions := t.sessions, reqs := t.reqs, nextRid := t.nextRid } := rfl

theorem passConflict_within (s : State) (n : Nat) (d : Desc) : Within
    0x38000000000000000000000000022 s (@State.passConflict s n d) := by
  unfold State.passConflict
  repeat' (first
      | extract_lets
      | with_reducible apply Within.rfl
      | (with_reducible apply Within.on (m := 0x38000000000000000000000000022) (takeTracker_within _ _) (by decide))
      | (with_reducible apply Within.on (m := 0x38000000000000000000000000022) (popHead_within _ _ _) (by decide))
      | (with_reducible apply Within.on (m := 0x38000000000000000000000000022) (flushConflicts_within _ _ _) (by decide))
      | (with_reducible apply Within.on (m := 0x38000000000000000000000000022) (setReq_within _ _ _) (by decide)))

theorem passConflict_regs (s : State) (n : Nat) (d : Desc) {ks : List Field} (h1
    : Reg.PORT_INFLIGHT_LINK0 ∈ ks) (h2 : Reg.PORT_INFLIGHT_LINK1 ∈ ks) (h3 : Reg.PORT_INFLIGHT_PEAK_LINK0 ∈ ks) (h4 :
    Reg.PORT_INFLIGHT_PEAK_LINK1 ∈ ks) : onlyRegs ks s (@State.passConflict s n d) := by
  unfold State.passConflict
  repeat' (first
      | (with_reducible apply onlyRegs.rfl)
      | extract_lets
      | (with_reducible assumption)
      | (with_reducible exact List.mem_cons_self)
      | (with_reducible apply List.mem_cons_of_mem)
      | (with_reducible apply onlyRegs.on (takeTracker_regs _ _ ?_ ?_ ?_ ?_))
      | (with_reducible apply onlyRegs.keep (popHead_within _ _ _) (by decide))
      | (with_reducible apply onlyRegs.on (flushConflicts_regs _ _ _ ?_ ?_ ?_ ?_))
      | (with_reducible apply onlyRegs.keep (setReq_within _ _ _) (by decide)))

theorem writeMeta_within (s : State) (n : Nat) (line : Nat) (m : Sys2Proof.MetaValue) : Within
    0x24000000000000000000000000000000000002 s (@State.writeMeta s n line m) := by
  unfold State.writeMeta
  repeat' (first
      | extract_lets
      | with_reducible apply Within.rfl
      | (with_reducible apply Within.on (m := 0x24000000000000000000000000000000000002) (setHost_within _ _ _) (by decide))
      | (with_reducible apply Within.on (m := 0x24000000000000000000000000000000000002) (dropHost_within _ _) (by decide))
      | with_reducible apply Within.of_fst (by assumption)
      | with_reducible apply Within.of_fst1 (by assumption)
      | split
      | dsimp +zetaDelta only)

theorem writeMeta_regs (s : State) (n : Nat) (line : Nat) (m : Sys2Proof.MetaValue) {ks : List
    Field} (h1 : Reg.DIR_EVBUF_USED ∈ ks) (h2 : Reg.DIR_HOST_OVF_ENTRIES ∈ ks) (h3 : Reg.DIR_HOST_STATUS_ENTRIES ∈ ks)
    : onlyRegs ks s (@State.writeMeta s n line m) := by
  unfold State.writeMeta
  repeat' (first
      | (with_reducible apply onlyRegs.rfl)
      | extract_lets
      | (with_reducible assumption)
      | (with_reducible exact List.mem_cons_self)
      | (with_reducible apply List.mem_cons_of_mem)
      | (with_reducible apply onlyRegs.on (setHost_regs _ _ _ ?_ ?_ ?_))
      | (with_reducible apply onlyRegs.on (dropHost_regs _ _ ?_ ?_ ?_))
      | with_reducible apply onlyRegs.of_fst (by assumption)
      | with_reducible apply onlyRegs.of_fst1 (by assumption)
      | split
      | dsimp +zetaDelta only)

theorem pick_80000000000000000300000200807c31c000638000007fbcc60000000000000022 (s t : State) : State.pick 0x80000000000000000300000200807c31c000638000007fbcc60000000000000022 s t = { s with
    regs := t.regs, out := t.out, keep := { s.keep with bytes := t.keep.bytes, byteLines := t.keep.byteLines },
    chron := { s.chron with
      perm := t.chron.perm, ring := t.chron.ring, buffer := t.chron.buffer, nextSerial := t.chron.nextSerial,
      runs := t.chron.runs, dropped := t.chron.dropped },
    events := t.events, sessions := t.sessions, reqs := t.reqs, nextRid := t.nextRid,
    merge := { s.merge with entries := t.merge.entries, cells := t.merge.cells },
    cache := { s.cache with
      lines := t.cache.lines, fills := t.cache.fills, busy := t.cache.busy, dirPlru := t.cache.dirPlru,
      plru := t.cache.plru, host := t.cache.host, evicting := t.cache.evicting, snoops := t.cache.snoops,
      clock := t.cache.clock, biCredits := t.cache.biCredits },
    sched := { s.sched with jobs := t.sched.jobs }, xlat := { s.xlat with tracts := t.xlat.tracts },
    err := { s.err with poison := t.err.poison, poisonLost := t.err.poisonLost },
    telem := { s.telem with counts := t.telem.counts } } := rfl

theorem tryWrite_within (s : State) (n : Nat) (d : Desc) (hbm : Sys2Proof.HbmErr)
    (classF : Bool) (c : Nat) : Within
    0x80000000000000000300000200807c31c000638000007fbcc60000000000000022 s
    (@State.tryWrite s n d hbm classF c) := by
  unfold State.tryWrite
  repeat' (first
      | with_reducible apply Within.on (m := 0x80000000000000000300000200807c31c000638000007fbcc60000000000000022) (Within.of_if (by assumption) (fun _ h => (hostRoom_within _ _ _ h))) (by decide)
      | extract_lets
      | with_reducible apply Within.ite <;> intro _
      | with_reducible apply Within.rfl
      | (with_reducible apply Within.on (m := 0x80000000000000000300000200807c31c000638000007fbcc60000000000000022) (discardWrite_within _ _ _ _) (by decide))
      | (with_reducible apply Within.on (m := 0x80000000000000000300000200807c31c000638000007fbcc60000000000000022) (bump_within _ _ _ _ _) (by decide))
      | (with_reducible apply Within.on (m := 0x80000000000000000300000200807c31c000638000007fbcc60000000000000022) (startSnoop_within _ _ _ _ _ _) (by decide))
      | (with_reducible apply Within.on (m := 0x80000000000000000300000200807c31c000638000007fbcc60000000000000022) (readCell_within _ _ _) (by decide))
      | (with_reducible apply Within.on (m := 0x80000000000000000300000200807c31c000638000007fbcc60000000000000022) (setHead_within _ _ _ _) (by decide))
      | (with_reducible apply Within.on (m := 0x80000000000000000300000200807c31c000638000007fbcc60000000000000022) (charge_within _ _ _ _) (by decide))
      | (with_reducible apply Within.on (m := 0x80000000000000000300000200807c31c000638000007fbcc60000000000000022) (popHead_within _ _ _) (by decide))
      | (with_reducible apply Within.on (m := 0x80000000000000000300000200807c31c000638000007fbcc60000000000000022) (tele_within _ _ _ _ _) (by decide))
      | (with_reducible apply Within.on (m := 0x80000000000000000300000200807c31c000638000007fbcc60000000000000022) (passWrite_within _ _ _ _ _) (by decide))
      | (with_reducible apply Within.on (m := 0x80000000000000000300000200807c31c000638000007fbcc60000000000000022) (writeMeta_within _ _ _ _) (by decide))
      | fail_if_no_progress with_reducible apply Within.upd (by rw [pick_80000000000000000300000200807c31c000638000007fbcc60000000000000022])
      | with_reducible apply Within.of_fst (by assumption)
      | with_reducible apply Within.of_fst1 (by assumption)
      | split)

theorem tryWrite_regs (s : State) (n : Nat) (d : Desc) (hbm : Sys2Proof.HbmErr)
    (classF : Bool) (c : Nat) {ks : List Field} (h1 : Reg.CHRON_DROP_CNT ∈ ks) (h2 : Reg.CHRON_REPEAT_CNT ∈ ks) (h3 :
    Reg.DIR_BCAST_CNT ∈ ks) (h4 : Reg.DIR_BISNP_CNT ∈ ks) (h5 : Reg.DIR_EVBUF_USED ∈ ks) (h6 : Reg.DIR_EVICT_CNT ∈ ks)
    (h7 : Reg.DIR_HOST_OVF_ENTRIES ∈ ks) (h8 : Reg.DIR_HOST_STATUS_ENTRIES ∈ ks) (h9 : Reg.DIR_SLICE_STATUS_ENTRIES ∈
    ks) (h10 : Reg.ERR_BUCKET_STATUS_LEVEL ∈ ks) (h11 : Reg.ERR_BUCKET_STATUS_OVF_CNT ∈ ks) (h12 :
    Reg.ERR_CORR_VOL_CNT ∈ ks) (h13 : Reg.ERR_HEALTH_EVENT_BUCKET_OVF ∈ ks) (h14 : Reg.ERR_HEALTH_EVENT_POISON_FULL ∈
    ks) (h15 : Reg.ERR_HEALTH_EVENT_UNCORR ∈ ks) (h16 : Reg.ERR_POISON_LIST_OVERFLOW ∈ ks) (h17 :
    Reg.ERR_POISON_LIST_RECORDS ∈ ks) (h18 : Reg.ERR_UNCORR_CNT ∈ ks) (h19 : Reg.MERGE_MERGE_CNT ∈ ks) (h20 :
    Reg.MERGE_PARTIAL_LINES ∈ ks) (h21 : Reg.MERGE_SETTLE_REFETCH_CNT ∈ ks) (h22 : Reg.MERGE_SETTLING_LINES ∈ ks) (h23
    : Reg.MERGE_SET_FULL_CNT ∈ ks) (h24 : Reg.MERGE_STATUS_DIRTY ∈ ks) (h25 : Reg.MERGE_STATUS_LIMIT ∈ ks) (h26 :
    Reg.PORT_INFLIGHT_LINK0 ∈ ks) (h27 : Reg.PORT_INFLIGHT_LINK1 ∈ ks) (h28 : Reg.PORT_INFLIGHT_PEAK_LINK0 ∈ ks) (h29
    : Reg.PORT_INFLIGHT_PEAK_LINK1 ∈ ks) (h30 : Reg.RANGE_INTEG_FAIL_CNT ∈ ks) (h31 : Reg.TELEM_BLK_OVF_OVF ∈ ks) (h32
    : Reg.XLAT_PINNED_LINES ∈ ks) : onlyRegs ks s (@State.tryWrite s n d hbm classF c) := by
  unfold State.tryWrite
  repeat' (first
      | (with_reducible apply onlyRegs.on (onlyRegs.of_if (by assumption) (fun _ h => (hostRoom_regs _ _ _ h h3 h4 h5 h6 h7 h8))))
      | (with_reducible apply onlyRegs.rfl)
      | extract_lets
      | (with_reducible assumption)
      | (with_reducible exact List.mem_cons_self)
      | (with_reducible apply List.mem_cons_of_mem)
      | (with_reducible apply onlyRegs.ite <;> intro _)
      | (with_reducible apply onlyRegs.on (discardWrite_regs _ _ _ _ ?_ ?_ ?_ ?_ ?_))
      | (with_reducible apply onlyRegs.on (bump_regs _ _ _ _ _ ?_))
      | (with_reducible apply onlyRegs.on (startSnoop_regs _ _ _ _ _ _ ?_ ?_ ?_ ?_ ?_))
      | (with_reducible apply onlyRegs.on (readCell_regs _ _ _ ?_ ?_ ?_ ?_ ?_ ?_ ?_ ?_ ?_))
      | (with_reducible apply onlyRegs.keep (setHead_within _ _ _ _) (by decide))
      | (with_reducible apply onlyRegs.on (hostRoom_regs _ _ _ (by assumption) ?_ ?_ ?_ ?_ ?_ ?_))
      | (with_reducible apply onlyRegs.keep (charge_within _ _ _ _) (by decide))
      | (with_reducible apply onlyRegs.keep (popHead_within _ _ _) (by decide))
      | (with_reducible apply onlyRegs.on (tele_regs _ _ _ _ _ ?_))
      | (with_reducible apply onlyRegs.on (passWrite_regs _ _ _ _ _ ?_ ?_ ?_ ?_ ?_ ?_ ?_ ?_ ?_ ?_ ?_ ?_ ?_ ?_ ?_))
      | (with_reducible apply onlyRegs.on (writeMeta_regs _ _ _ _ ?_ ?_ ?_))
      | fail_if_no_progress with_reducible apply onlyRegs.upd
      | with_reducible apply onlyRegs.of_fst (by assumption)
      | with_reducible apply onlyRegs.of_fst1 (by assumption)
      | split)

theorem spillLine_within (s : State) (sess : Nat) (l : List Desc) (hbm :
    Sys2Proof.HbmErr) : Within 0x800000000000000000000000000000000000000000007fbcc00000000000000022 s
    (@State.spillLine s sess l hbm).1 := by
  unfold State.spillLine
  repeat' (first
      | extract_lets
      | with_reducible apply Within.rfl
      | (with_reducible apply Within.on (m := 0x800000000000000000000000000000000000000000007fbcc00000000000000022) (correctedVol_within _ _ _) (by decide))
      | (with_reducible apply Within.on (m := 0x800000000000000000000000000000000000000000007fbcc00000000000000022) (detected_within _ _ _) (by decide))
      | fail_if_no_progress with_reducible apply Within.upd (by rw [pick_800000000000000000000000000000000000000000007fbcc00000000000000022])
      | with_reducible apply Within.of_fst (by assumption)
      | with_reducible apply Within.of_fst1 (by assumption)
      | split)

theorem spillLine_regs (s : State) (sess : Nat) (l : List Desc) (hbm :
    Sys2Proof.HbmErr) {ks : List Field} (h1 : Reg.CHRON_DROP_CNT ∈ ks) (h2 : Reg.CHRON_REPEAT_CNT ∈ ks) (h3 :
    Reg.ERR_BUCKET_STATUS_LEVEL ∈ ks) (h4 : Reg.ERR_BUCKET_STATUS_OVF_CNT ∈ ks) (h5 : Reg.ERR_CORR_VOL_CNT ∈ ks) (h6 :
    Reg.ERR_HEALTH_EVENT_BUCKET_OVF ∈ ks) (h7 : Reg.ERR_HEALTH_EVENT_UNCORR ∈ ks) (h8 : Reg.ERR_UNCORR_CNT ∈ ks) (h9 :
    Reg.TELEM_BLK_OVF_OVF ∈ ks) : onlyRegs ks s (@State.spillLine s sess l hbm).1 := by
  unfold State.spillLine
  repeat' (first
      | (with_reducible apply onlyRegs.rfl)
      | extract_lets
      | (with_reducible assumption)
      | (with_reducible exact List.mem_cons_self)
      | (with_reducible apply List.mem_cons_of_mem)
      | (with_reducible apply onlyRegs.on (correctedVol_regs _ _ _ ?_ ?_ ?_ ?_ ?_ ?_ ?_))
      | (with_reducible apply onlyRegs.on (detected_regs _ _ _ ?_ ?_ ?_ ?_))
      | fail_if_no_progress with_reducible apply onlyRegs.upd
      | with_reducible apply onlyRegs.of_fst (by assumption)
      | with_reducible apply onlyRegs.of_fst1 (by assumption)
      | split)

theorem pick_800000000000000003000000000000000000200000007fbcc00000000000000022 (s t : State) : State.pick 0x800000000000000003000000000000000000200000007fbcc00000000000000022 s t = { s with
    regs := t.regs, out := t.out,
    chron := { s.chron with
      perm := t.chron.perm, ring := t.chron.ring, buffer := t.chron.buffer, nextSerial := t.chron.nextSerial,
      runs := t.chron.runs, dropped := t.chron.dropped },
    events := t.events, merge := { s.merge with entries := t.merge.entries },
    err := { s.err with poison := t.err.poison, poisonLost := t.err.poisonLost },
    telem := { s.telem with counts := t.telem.counts } } := rfl

theorem entryCheck_within (s : State) (line : Nat) (e : Entry) (hbm :
    Sys2Proof.HbmErr) : Within 0x800000000000000003000000000000000000200000007fbcc00000000000000022 s
    (@State.entryCheck s line e hbm).1 := by
  unfold State.entryCheck
  repeat' (first
      | extract_lets
      | with_reducible apply Within.rfl
      | (with_reducible apply Within.on (m := 0x800000000000000003000000000000000000200000007fbcc00000000000000022) (correctedVol_within _ _ _) (by decide))
      | (with_reducible apply Within.on (m := 0x800000000000000003000000000000000000200000007fbcc00000000000000022) (poisonAdd_within _ _ _) (by decide))
      | (with_reducible apply Within.on (m := 0x800000000000000003000000000000000000200000007fbcc00000000000000022) (dirtyLost_within _ _) (by decide))
      | (with_reducible apply Within.on (m := 0x800000000000000003000000000000000000200000007fbcc00000000000000022) (detected_within _ _ _) (by decide))
      | (with_reducible apply Within.on (m := 0x800000000000000003000000000000000000200000007fbcc00000000000000022) (putEntry_within _ _ _) (by decide))
      | fail_if_no_progress with_reducible apply Within.upd (by rw [pick_800000000000000003000000000000000000200000007fbcc00000000000000022])
      | with_reducible apply Within.of_fst (by assumption)
      | with_reducible apply Within.of_fst1 (by assumption)
      | split)

theorem entryCheck_regs (s : State) (line : Nat) (e : Entry) (hbm :
    Sys2Proof.HbmErr) {ks : List Field} (h1 : Reg.CHRON_DROP_CNT ∈ ks) (h2 : Reg.CHRON_REPEAT_CNT ∈ ks) (h3 :
    Reg.ERR_BUCKET_STATUS_LEVEL ∈ ks) (h4 : Reg.ERR_BUCKET_STATUS_OVF_CNT ∈ ks) (h5 : Reg.ERR_CORR_VOL_CNT ∈ ks) (h6 :
    Reg.ERR_DIRTY_LOST_CNT ∈ ks) (h7 : Reg.ERR_HEALTH_EVENT_BUCKET_OVF ∈ ks) (h8 : Reg.ERR_HEALTH_EVENT_DIRTY_LOST ∈
    ks) (h9 : Reg.ERR_HEALTH_EVENT_POISON_FULL ∈ ks) (h10 : Reg.ERR_HEALTH_EVENT_UNCORR ∈ ks) (h11 :
    Reg.ERR_POISON_LIST_OVERFLOW ∈ ks) (h12 : Reg.ERR_POISON_LIST_RECORDS ∈ ks) (h13 : Reg.ERR_UNCORR_CNT ∈ ks) (h14 :
    Reg.TELEM_BLK_OVF_OVF ∈ ks) : onlyRegs ks s (@State.entryCheck s line e hbm).1 := by
  unfold State.entryCheck
  repeat' (first
      | (with_reducible apply onlyRegs.rfl)
      | extract_lets
      | (with_reducible assumption)
      | (with_reducible exact List.mem_cons_self)
      | (with_reducible apply List.mem_cons_of_mem)
      | (with_reducible apply onlyRegs.on (correctedVol_regs _ _ _ ?_ ?_ ?_ ?_ ?_ ?_ ?_))
      | (with_reducible apply onlyRegs.on (poisonAdd_regs _ _ _ ?_ ?_ ?_))
      | (with_reducible apply onlyRegs.on (dirtyLost_regs _ _ ?_ ?_ ?_ ?_))
      | (with_reducible apply onlyRegs.on (detected_regs _ _ _ ?_ ?_ ?_ ?_))
      | (with_reducible apply onlyRegs.keep (putEntry_within _ _ _) (by decide))
      | fail_if_no_progress with_reducible apply onlyRegs.upd
      | with_reducible apply onlyRegs.of_fst (by assumption)
      | with_reducible apply onlyRegs.of_fst1 (by assumption)
      | split)

theorem pick_800000000000000000000000008000008000218000007fbcc00000000000000022 (s t : State) : State.pick 0x800000000000000000000000008000008000218000007fbcc00000000000000022 s t = { s with
    regs := t.regs, out := t.out,
    chron := { s.chron with
      perm := t.chron.perm, ring := t.chron.ring, buffer := t.chron.buffer, nextSerial := t.chron.nextSerial,
      runs := t.chron.runs, dropped := t.chron.dropped },
    events := t.events, sessions := t.sessions, reqs := t.reqs,
    merge := { s.merge with entries := t.merge.entries }, cache := { s.cache with fills := t.cache.fills },
    sched := { s.sched with jobs := t.sched.jobs }, telem := { s.telem with counts := t.telem.counts } } := rfl

theorem settleRead_within (s : State) (rid : Nat) (r : Req) (e :
    Entry) (bad : Bool) : Within
    0x800000000000000000000000008000008000218000007fbcc00000000000000022 s
    (@State.settleRead s rid r e bad) := by
  unfold State.settleRead
  repeat' (first
      | extract_lets
      | with_reducible apply Within.ite <;> intro _
      | with_reducible apply Within.rfl
      | (with_reducible apply Within.on (m := 0x800000000000000000000000008000008000218000007fbcc00000000000000022) (fromEntry_within _ _ _ _) (by decide))
      | (with_reducible apply Within.on (m := 0x800000000000000000000000008000008000218000007fbcc00000000000000022) (bump_within _ _ _ _ _) (by decide))
      | (with_reducible apply Within.on (m := 0x800000000000000000000000008000008000218000007fbcc00000000000000022) (correctedVol_within _ _ _) (by decide))
      | (with_reducible apply Within.on (m := 0x800000000000000000000000008000008000218000007fbcc00000000000000022) (takeResult_within _ _) (by decide))
      | (with_reducible apply Within.on (m := 0x800000000000000000000000008000008000218000007fbcc00000000000000022) (setReq_within _ _ _) (by decide))
      | (with_reducible apply Within.on (m := 0x800000000000000000000000008000008000218000007fbcc00000000000000022) (mergeCounts_within _) (by decide))
      | (with_reducible apply Within.on (m := 0x800000000000000000000000008000008000218000007fbcc00000000000000022) (dropEntry_within _ _) (by decide))
      | (with_reducible apply Within.on (m := 0x800000000000000000000000008000008000218000007fbcc00000000000000022) (putEntry_within _ _ _) (by decide)))

theorem settleRead_regs (s : State) (rid : Nat) (r : Req) (e :
    Entry) (bad : Bool) {ks : List Field} (h1 : Reg.CACHE_RC_HIT_CNT ∈ ks) (h2 : Reg.CHRON_DROP_CNT
    ∈ ks) (h3 : Reg.CHRON_REPEAT_CNT ∈ ks) (h4 : Reg.ERR_BUCKET_STATUS_LEVEL ∈ ks) (h5 : Reg.ERR_BUCKET_STATUS_OVF_CNT
    ∈ ks) (h6 : Reg.ERR_CORR_VOL_CNT ∈ ks) (h7 : Reg.ERR_HEALTH_EVENT_BUCKET_OVF ∈ ks) (h8 : Reg.MERGE_PARTIAL_LINES ∈
    ks) (h9 : Reg.MERGE_SETTLE_REFETCH_CNT ∈ ks) (h10 : Reg.MERGE_SETTLING_LINES ∈ ks) (h11 : Reg.MERGE_STATUS_DIRTY ∈
    ks) (h12 : Reg.MERGE_STATUS_LIMIT ∈ ks) (h13 : Reg.PORT_INFLIGHT_LINK0 ∈ ks) (h14 : Reg.PORT_INFLIGHT_LINK1 ∈ ks)
    (h15 : Reg.PORT_INFLIGHT_PEAK_LINK0 ∈ ks) (h16 : Reg.PORT_INFLIGHT_PEAK_LINK1 ∈ ks) (h17 : Reg.SCHED_BOUND_MISS ∈
    ks) (h18 : Reg.SCHED_MAX_LAT_CCLK ∈ ks) (h19 : Reg.TELEM_BLK_OVF_OVF ∈ ks) (h20 : Reg.XLAT_PINNED_LINES ∈ ks) :
    onlyRegs ks s (@State.settleRead s rid r e bad) := by
  unfold State.settleRead
  repeat' (first
      | (with_reducible apply onlyRegs.rfl)
      | extract_lets
      | (with_reducible assumption)
      | (with_reducible exact List.mem_cons_self)
      | (with_reducible apply List.mem_cons_of_mem)
      | (with_reducible apply onlyRegs.ite <;> intro _)
      | (with_reducible apply onlyRegs.on (fromEntry_regs _ _ _ _ ?_ ?_ ?_ ?_))
      | (with_reducible apply onlyRegs.on (bump_regs _ _ _ _ _ ?_))
      | (with_reducible apply onlyRegs.on (correctedVol_regs _ _ _ ?_ ?_ ?_ ?_ ?_ ?_ ?_))
      | (with_reducible apply onlyRegs.on (takeResult_regs _ _ ?_ ?_ ?_ ?_ ?_ ?_ ?_))
      | (with_reducible apply onlyRegs.keep (setReq_within _ _ _) (by decide))
      | (with_reducible apply onlyRegs.on (mergeCounts_regs _ ?_ ?_ ?_ ?_ ?_))
      | (with_reducible apply onlyRegs.keep (dropEntry_within _ _) (by decide))
      | (with_reducible apply onlyRegs.keep (putEntry_within _ _ _) (by decide)))

theorem probeHit_within (s : State) (rid : Nat) (r : Req) (d : Sys2Proof.LineData)
    : Within 0x8000008000018000000000000000000000000022 s (@State.probeHit s rid r d) := by
  unfold State.probeHit
  repeat' (first
      | extract_lets
      | with_reducible apply Within.ite <;> intro _
      | with_reducible apply Within.rfl
      | (with_reducible apply Within.on (m := 0x8000008000018000000000000000000000000022) (takeResult_within _ _) (by decide))
      | (with_reducible apply Within.on (m := 0x8000008000018000000000000000000000000022) (setReq_within _ _ _) (by decide))
      | fail_if_no_progress with_reducible apply Within.upd (by rw [pick_8000008000018000000000000000000000000022])
      | with_reducible apply Within.of_fst (by assumption)
      | with_reducible apply Within.of_fst1 (by assumption)
      | split)

theorem probeHit_regs (s : State) (rid : Nat) (r : Req) (d : Sys2Proof.LineData)
    {ks : List Field} (h1 : Reg.CACHE_RC_HIT_CNT ∈ ks) (h2 : Reg.PORT_INFLIGHT_LINK0 ∈ ks) (h3 :
    Reg.PORT_INFLIGHT_LINK1 ∈ ks) (h4 : Reg.PORT_INFLIGHT_PEAK_LINK0 ∈ ks) (h5 : Reg.PORT_INFLIGHT_PEAK_LINK1 ∈ ks)
    (h6 : Reg.SCHED_BOUND_MISS ∈ ks) (h7 : Reg.SCHED_MAX_LAT_CCLK ∈ ks) : onlyRegs ks s
    (@State.probeHit s rid r d) := by
  unfold State.probeHit
  repeat' (first
      | (with_reducible apply onlyRegs.rfl)
      | extract_lets
      | (with_reducible assumption)
      | (with_reducible exact List.mem_cons_self)
      | (with_reducible apply List.mem_cons_of_mem)
      | (with_reducible apply onlyRegs.ite <;> intro _)
      | (with_reducible apply onlyRegs.on (takeResult_regs _ _ ?_ ?_ ?_ ?_ ?_ ?_ ?_))
      | (with_reducible apply onlyRegs.keep (setReq_within _ _ _) (by decide))
      | fail_if_no_progress with_reducible apply onlyRegs.upd
      | with_reducible apply onlyRegs.of_fst (by assumption)
      | with_reducible apply onlyRegs.of_fst1 (by assumption)
      | split)

theorem pick_1c4000000000000000000000000000000002 (s t : State) : State.pick 0x1c4000000000000000000000000000000002 s t = { s with
    regs := t.regs,
    cache := { s.cache with
      lines := t.cache.lines, purges := t.cache.purges, dirWay := t.cache.dirWay, dirPlru := t.cache.dirPlru } } := rfl

theorem dirRoom_within (s : State) (line : Nat) : Within 0x1c4000000000000000000000000000000002
    s (@State.dirRoom s line) := by
  unfold State.dirRoom
  repeat' (first
      | extract_lets
      | with_reducible apply Within.ite <;> intro _
      | with_reducible apply Within.rfl
      | (with_reducible apply Within.on (m := 0x1c4000000000000000000000000000000002) (touchDir_within _ _) (by decide))
      | (with_reducible apply Within.on (m := 0x1c4000000000000000000000000000000002) (bump_within _ _ _ _ _) (by decide))
      | (with_reducible apply Within.on (m := 0x1c4000000000000000000000000000000002) (dropAll_within _ _) (by decide))
      | fail_if_no_progress with_reducible apply Within.upd (by rw [pick_1c4000000000000000000000000000000002])
      | with_reducible apply Within.of_fst (by assumption)
      | with_reducible apply Within.of_fst1 (by assumption)
      | split
      | dsimp +zetaDelta only)

theorem dirRoom_regs (s : State) (line : Nat) {ks : List Field} (h1 : Reg.DIR_SLICE_EVICT_CNT ∈ ks)
    (h2 : Reg.DIR_SLICE_STATUS_ENTRIES ∈ ks) : onlyRegs ks s (@State.dirRoom s line) := by
  unfold State.dirRoom
  repeat' (first
      | (with_reducible apply onlyRegs.rfl)
      | extract_lets
      | (with_reducible assumption)
      | (with_reducible exact List.mem_cons_self)
      | (with_reducible apply List.mem_cons_of_mem)
      | (with_reducible apply onlyRegs.ite <;> intro _)
      | (with_reducible apply onlyRegs.keep (touchDir_within _ _) (by decide))
      | (with_reducible apply onlyRegs.on (bump_regs _ _ _ _ _ ?_))
      | (with_reducible apply onlyRegs.on (dropAll_regs _ _ ?_))
      | fail_if_no_progress with_reducible apply onlyRegs.upd
      | with_reducible apply onlyRegs.of_fst (by assumption)
      | with_reducible apply onlyRegs.of_fst1 (by assumption)
      | split
      | dsimp +zetaDelta only)

theorem pick_3c4000000000000000000000000000000002 (s t : State) : State.pick 0x3c4000000000000000000000000000000002 s t = { s with
    regs := t.regs,
    cache := { s.cache with
      lines := t.cache.lines, purges := t.cache.purges, dirWay := t.cache.dirWay, dirPlru := t.cache.dirPlru,
      plru := t.cache.plru } } := rfl

theorem install_within (s : State) (x : SliceFill) (way : Nat) : Within
    0x3c4000000000000000000000000000000002 s (@State.install s x way) := by
  unfold State.install
  repeat' (first
      | extract_lets
      | with_reducible apply Within.rfl
      | (with_reducible apply Within.on (m := 0x3c4000000000000000000000000000000002) (dirRoom_within _ _) (by decide))
      | (with_reducible apply Within.on (m := 0x3c4000000000000000000000000000000002) (putSlice_within _ _ _ _) (by decide))
      | (with_reducible apply Within.on (m := 0x3c4000000000000000000000000000000002) (touchWay_within _ _ _ _) (by decide))
      | fail_if_no_progress with_reducible apply Within.upd (by rw [pick_3c4000000000000000000000000000000002])
      | with_reducible apply Within.of_fst (by assumption)
      | with_reducible apply Within.of_fst1 (by assumption)
      | split
      | dsimp +zetaDelta only)

theorem install_regs (s : State) (x : SliceFill) (way : Nat) {ks : List Field}
    (h1 : Reg.DIR_SLICE_EVICT_CNT ∈ ks) (h2 : Reg.DIR_SLICE_STATUS_ENTRIES ∈ ks) : onlyRegs ks s
    (@State.install s x way) := by
  unfold State.install
  repeat' (first
      | (with_reducible apply onlyRegs.rfl)
      | extract_lets
      | (with_reducible assumption)
      | (with_reducible exact List.mem_cons_self)
      | (with_reducible apply List.mem_cons_of_mem)
      | (with_reducible apply onlyRegs.on (dirRoom_regs _ _ ?_ ?_))
      | (with_reducible apply onlyRegs.on (putSlice_regs _ _ _ _ ?_))
      | (with_reducible apply onlyRegs.keep (touchWay_within _ _ _ _) (by decide))
      | fail_if_no_progress with_reducible apply onlyRegs.upd
      | with_reducible apply onlyRegs.of_fst (by assumption)
      | with_reducible apply onlyRegs.of_fst1 (by assumption)
      | split
      | dsimp +zetaDelta only)

theorem pick_8000000000000000000000000000000002 (s t : State) : State.pick 0x8000000000000000000000000000000002 s t = { s with
    regs := t.regs, cache := { s.cache with fills := t.cache.fills } } := rfl

theorem holdFill_within (s : State) (x : SliceFill) : Within
    0x8000000000000000000000000000000002 s (@State.holdFill s x) := by
  unfold State.holdFill
  repeat' (first
      | extract_lets
      | with_reducible apply Within.ite <;> intro _
      | with_reducible apply Within.rfl
      | (with_reducible apply Within.on (m := 0x8000000000000000000000000000000002) (bump_within _ _ _ _ _) (by decide))
      | fail_if_no_progress with_reducible apply Within.upd (by rw [pick_8000000000000000000000000000000002]))

theorem holdFill_regs (s : State) (x : SliceFill) {ks : List Field} (h1 :
    Reg.CACHE_WT_WAIT_CNT ∈ ks) : onlyRegs ks s (@State.holdFill s x) := by
  unfold State.holdFill
  repeat' (first
      | (with_reducible apply onlyRegs.rfl)
      | extract_lets
      | (with_reducible assumption)
      | (with_reducible exact List.mem_cons_self)
      | (with_reducible apply List.mem_cons_of_mem)
      | (with_reducible apply onlyRegs.ite <;> intro _)
      | (with_reducible apply onlyRegs.on (bump_regs _ _ _ _ _ ?_))
      | fail_if_no_progress with_reducible apply onlyRegs.upd)

theorem pick_24000000000000000000000000000000002 (s t : State) : State.pick 0x24000000000000000000000000000000002 s t = { s with
    regs := t.regs, cache := { s.cache with lines := t.cache.lines, victims := t.cache.victims } } := rfl

theorem leaveSet_within (s : State) (slice : Nat) (line : Nat) : Within
    0x24000000000000000000000000000000002 s (@State.leaveSet s slice line) := by
  unfold State.leaveSet
  repeat' (first
      | extract_lets
      | with_reducible apply Within.rfl
      | (with_reducible apply Within.on (m := 0x24000000000000000000000000000000002) (dropSlice_within _ _ _) (by decide))
      | fail_if_no_progress with_reducible apply Within.upd (by rw [pick_24000000000000000000000000000000002]))

theorem leaveSet_regs (s : State) (slice : Nat) (line : Nat) {ks : List Field} (h1 :
    Reg.DIR_SLICE_STATUS_ENTRIES ∈ ks) : onlyRegs ks s (@State.leaveSet s slice line) := by
  unfold State.leaveSet
  repeat' (first
      | (with_reducible apply onlyRegs.rfl)
      | extract_lets
      | (with_reducible assumption)
      | (with_reducible exact List.mem_cons_self)
      | (with_reducible apply List.mem_cons_of_mem)
      | (with_reducible apply onlyRegs.on (dropSlice_regs _ _ _ ?_))
      | fail_if_no_progress with_reducible apply onlyRegs.upd)

theorem pick_64000000000000000000000000000000002 (s t : State) : State.pick 0x64000000000000000000000000000000002 s t = { s with
    regs := t.regs,
    cache := { s.cache with lines := t.cache.lines, victims := t.cache.victims, purges := t.cache.purges } } := rfl

theorem mergedSlices_within (s : State) (line : Nat) (slice : Nat) (left : List Nat) : Within
    0x64000000000000000000000000000000002 s (@State.mergedSlices s line slice left) := by
  unfold State.mergedSlices
  repeat' (first
      | extract_lets
      | with_reducible apply Within.ite <;> intro _
      | with_reducible apply Within.rfl
      | (with_reducible apply Within.on (m := 0x64000000000000000000000000000000002) (dropAll_within _ _) (by decide))
      | fail_if_no_progress with_reducible apply Within.upd (by rw [pick_64000000000000000000000000000000002]))

theorem mergedSlices_regs (s : State) (line : Nat) (slice : Nat) (left : List Nat) {ks : List
    Field} (h1 : Reg.DIR_SLICE_STATUS_ENTRIES ∈ ks) : onlyRegs ks s (@State.mergedSlices s line slice
    left) := by
  unfold State.mergedSlices
  repeat' (first
      | (with_reducible apply onlyRegs.rfl)
      | extract_lets
      | (with_reducible assumption)
      | (with_reducible exact List.mem_cons_self)
      | (with_reducible apply List.mem_cons_of_mem)
      | (with_reducible apply onlyRegs.ite <;> intro _)
      | (with_reducible apply onlyRegs.on (dropAll_regs _ _ ?_))
      | fail_if_no_progress with_reducible apply onlyRegs.upd)

theorem pick_800007c000218000000000000000000000000022 (s t : State) : State.pick 0x800007c000218000000000000000000000000022 s t = { s with
    regs := t.regs, out := t.out, sessions := t.sessions, reqs := t.reqs,
    merge := { s.merge with entries := t.merge.entries },
    cache := { s.cache with
      lines := t.cache.lines, fills := t.cache.fills, busy := t.cache.busy, victims := t.cache.victims,
      purges := t.cache.purges },
    sched := { s.sched with jobs := t.sched.jobs } } := rfl

theorem mergeEnd_within (s : State) (line : Nat) (slice : Nat) : Within
    0x800007c000218000000000000000000000000022 s (@State.mergeEnd s line slice) := by
  unfold State.mergeEnd
  repeat' (first
      | extract_lets
      | with_reducible apply Within.ite <;> intro _
      | with_reducible apply Within.rfl
      | (with_reducible apply Within.on (m := 0x800007c000218000000000000000000000000022) (mergedSlices_within _ _ _ _) (by decide))
      | (with_reducible apply Within.on (m := 0x800007c000218000000000000000000000000022) (fromEntry_within _ _ _ _) (by decide))
      | (with_reducible apply Within.on (m := 0x800007c000218000000000000000000000000022) (toLookup_within _ _ _) (by decide))
      | (with_reducible apply Within.foldl; intro t x)
      | fail_if_no_progress with_reducible apply Within.upd (by rw [pick_800007c000218000000000000000000000000022])
      | with_reducible apply Within.of_fst (by assumption)
      | with_reducible apply Within.of_fst1 (by assumption)
      | split)

theorem mergeEnd_regs (s : State) (line : Nat) (slice : Nat) {ks : List Field} (h1 :
    Reg.DIR_SLICE_STATUS_ENTRIES ∈ ks) (h2 : Reg.PORT_INFLIGHT_LINK0 ∈ ks) (h3 : Reg.PORT_INFLIGHT_LINK1 ∈ ks) (h4 :
    Reg.PORT_INFLIGHT_PEAK_LINK0 ∈ ks) (h5 : Reg.PORT_INFLIGHT_PEAK_LINK1 ∈ ks) : onlyRegs ks s
    (@State.mergeEnd s line slice) := by
  unfold State.mergeEnd
  repeat' (first
      | (with_reducible apply onlyRegs.rfl)
      | extract_lets
      | (with_reducible assumption)
      | (with_reducible exact List.mem_cons_self)
      | (with_reducible apply List.mem_cons_of_mem)
      | (with_reducible apply onlyRegs.ite <;> intro _)
      | (with_reducible apply onlyRegs.on (mergedSlices_regs _ _ _ _ ?_))
      | (with_reducible apply onlyRegs.on (fromEntry_regs _ _ _ _ ?_ ?_ ?_ ?_))
      | (with_reducible apply onlyRegs.keep (toLookup_within _ _ _) (by decide))
      | (with_reducible apply onlyRegs.foldl; intro t x)
      | fail_if_no_progress with_reducible apply onlyRegs.upd
      | with_reducible apply onlyRegs.of_fst (by assumption)
      | with_reducible apply onlyRegs.of_fst1 (by assumption)
      | split)

end Sys2Proof.Machine
end

