-- ==== Sys2Proof/Laws/ShelfOpsFrames.lean ====
section
/-! SUPPORT. For each function of Machine/ShelfOps.lean over the state: the part of the state outside which it changes
nothing (`…_within`), and the register fields that it may write (`…_regs`). -/

namespace Sys2Proof.Machine

set_option maxRecDepth 4000

theorem pick_7fffffffff000000000000000000000000000000000000000000000000000000 (s t : State) : State.pick 0x7fffffffff000000000000000000000000000000000000000000000000000000 s t = { s with
    shelf := t.shelf } := rfl

theorem setShelf_within (s : State) (f : Shelf → Shelf) : Within
    0x7fffffffff000000000000000000000000000000000000000000000000000000 s (@State.setShelf
    s f) := by
  unfold State.setShelf
  repeat' (first
      | with_reducible apply Within.rfl
      | fail_if_no_progress with_reducible apply Within.upd (by rw [pick_7fffffffff000000000000000000000000000000000000000000000000000000]))

theorem shelfRec_within (s : State) (code : Nat) (sev : Nat) (payload : List Nat) : Within
    0x3cc00000000000000002 s (@State.shelfRec s code sev payload) := by
  unfold State.shelfRec
  repeat' (first
      | with_reducible apply Within.rfl
      | (with_reducible apply Within.on (m := 0x3cc00000000000000002) (chronicle_within _ _ _ _ _) (by decide)))

theorem shelfRec_regs (s : State) (code : Nat) (sev : Nat) (payload : List Nat) {ks : List Field}
    (h1 : Reg.CHRON_DROP_CNT ∈ ks) (h2 : Reg.CHRON_REPEAT_CNT ∈ ks) : onlyRegs ks s (@State.shelfRec s
    code sev payload) := by
  unfold State.shelfRec
  repeat' (first
      | (with_reducible apply onlyRegs.rfl)
      | (with_reducible assumption)
      | (with_reducible exact List.mem_cons_self)
      | (with_reducible apply List.mem_cons_of_mem)
      | (with_reducible apply onlyRegs.on (chronicle_regs _ _ _ _ _ ?_ ?_)))

theorem setCause_within (s : State) (f : Field) (on : Bool) : Within
    0x3cc00000000000000002 s (@State.setCause s f on) := by
  unfold State.setCause
  repeat' (first
      | extract_lets
      | with_reducible apply Within.ite <;> intro _
      | with_reducible apply Within.rfl
      | (with_reducible apply Within.on (m := 0x3cc00000000000000002) (setBit_within _ _ _ _ _) (by decide))
      | (with_reducible apply Within.on (m := 0x3cc00000000000000002) (shelfRec_within _ _ _ _) (by decide)))

theorem setCause_regs (s : State) (f : Field) (on : Bool) {ks : List Field} (h0 :
    f ∈ ks) (h1 : Reg.CHRON_DROP_CNT ∈ ks) (h2 : Reg.CHRON_REPEAT_CNT ∈ ks) : onlyRegs ks s
    (@State.setCause s f on) := by
  unfold State.setCause
  repeat' (first
      | (with_reducible apply onlyRegs.rfl)
      | extract_lets
      | (with_reducible assumption)
      | (with_reducible exact List.mem_cons_self)
      | (with_reducible apply List.mem_cons_of_mem)
      | (with_reducible apply onlyRegs.ite <;> intro _)
      | (with_reducible apply onlyRegs.on (setBit_regs _ _ _ _ _ ?_))
      | (with_reducible apply onlyRegs.on (shelfRec_regs _ _ _ _ ?_ ?_)))

theorem setTime_within (s : State) (v : Nat) : Within 0x3cc00000000000000002 s
    (@State.setTime s v) := by
  unfold State.setTime
  repeat' (first
      | extract_lets
      | with_reducible apply Within.rfl
      | (with_reducible apply Within.on (m := 0x3cc00000000000000002) (wr_within _ _ _ _ _) (by decide))
      | (with_reducible apply Within.on (m := 0x3cc00000000000000002) (setCause_within _ _ _) (by decide)))

theorem setTime_regs (s : State) (v : Nat) {ks : List Field} (h1 : Reg.CHRON_DROP_CNT ∈ ks) (h2 :
    Reg.CHRON_REPEAT_CNT ∈ ks) (h3 : Reg.SHELF_DETUNE_TIME ∈ ks) (h4 : Reg.SHELF_STATUS_TIME_STATE ∈ ks) : onlyRegs ks s
    (@State.setTime s v) := by
  unfold State.setTime
  repeat' (first
      | (with_reducible apply onlyRegs.rfl)
      | extract_lets
      | (with_reducible assumption)
      | (with_reducible exact List.mem_cons_self)
      | (with_reducible apply List.mem_cons_of_mem)
      | (with_reducible apply onlyRegs.wr)
      | (with_reducible apply onlyRegs.on (setCause_regs _ _ _ ?_ ?_ ?_)))

theorem pick_7fffffffff00000000000000000000000000000000003cc00000000000000002 (s t : State) : State.pick 0x7fffffffff00000000000000000000000000000000003cc00000000000000002 s t = { s with
    regs := t.regs,
    chron := { s.chron with
      perm := t.chron.perm, ring := t.chron.ring, buffer := t.chron.buffer, nextSerial := t.chron.nextSerial,
      runs := t.chron.runs, dropped := t.chron.dropped },
    shelf := t.shelf } := rfl

theorem freeTime_within (s : State) : Within
    0x7fffffffff00000000000000000000000000000000003cc00000000000000002 s (@State.freeTime
    s) := by
  unfold State.freeTime
  repeat' (first
      | with_reducible apply Within.rfl
      | (with_reducible apply Within.on (m := 0x7fffffffff00000000000000000000000000000000003cc00000000000000002) (setTime_within _ _) (by decide))
      | (with_reducible apply Within.on (m := 0x7fffffffff00000000000000000000000000000000003cc00000000000000002) (setShelf_within _ _) (by decide)))

theorem freeTime_regs (s : State) {ks : List Field} (h1 : Reg.CHRON_DROP_CNT ∈ ks) (h2 :
    Reg.CHRON_REPEAT_CNT ∈ ks) (h3 : Reg.SHELF_DETUNE_TIME ∈ ks) (h4 : Reg.SHELF_STATUS_TIME_STATE ∈ ks) : onlyRegs ks s
    (@State.freeTime s) := by
  unfold State.freeTime
  repeat' (first
      | (with_reducible apply onlyRegs.rfl)
      | (with_reducible assumption)
      | (with_reducible exact List.mem_cons_self)
      | (with_reducible apply List.mem_cons_of_mem)
      | (with_reducible apply onlyRegs.on (setTime_regs _ _ ?_ ?_ ?_ ?_))
      | (with_reducible apply onlyRegs.keep (setShelf_within _ _) (by decide)))

theorem loseContact_within (s : State) : Within
    0x7fffffffff00000000000000000000000000000000003cc00000000000000002 s
    (@State.loseContact s) := by
  unfold State.loseContact
  repeat' (first
      | extract_lets
      | with_reducible apply Within.ite <;> intro _
      | with_reducible apply Within.rfl
      | (with_reducible apply Within.on (m := 0x7fffffffff00000000000000000000000000000000003cc00000000000000002) (setBit_within _ _ _ _ _) (by decide))
      | (with_reducible apply Within.on (m := 0x7fffffffff00000000000000000000000000000000003cc00000000000000002) (setShelf_within _ _) (by decide))
      | (with_reducible apply Within.on (m := 0x7fffffffff00000000000000000000000000000000003cc00000000000000002) (shelfRec_within _ _ _ _) (by decide))
      | (with_reducible apply Within.on (m := 0x7fffffffff00000000000000000000000000000000003cc00000000000000002) (freeTime_within _) (by decide)))

theorem loseContact_regs (s : State) {ks : List Field} (h1 : Reg.CHRON_DROP_CNT ∈ ks) (h2 :
    Reg.CHRON_REPEAT_CNT ∈ ks) (h3 : Reg.PWR_STATUS_SLOT_WAIT ∈ ks) (h4 : Reg.SHELF_DETUNE_TIME ∈ ks) (h5 :
    Reg.SHELF_STATUS_CONTACT ∈ ks) (h6 : Reg.SHELF_STATUS_TIME_STATE ∈ ks) : onlyRegs ks s
    (@State.loseContact s) := by
  unfold State.loseContact
  repeat' (first
      | (with_reducible apply onlyRegs.rfl)
      | extract_lets
      | (with_reducible assumption)
      | (with_reducible exact List.mem_cons_self)
      | (with_reducible apply List.mem_cons_of_mem)
      | (with_reducible apply onlyRegs.ite <;> intro _)
      | (with_reducible apply onlyRegs.on (setBit_regs _ _ _ _ _ ?_))
      | (with_reducible apply onlyRegs.keep (setShelf_within _ _) (by decide))
      | (with_reducible apply onlyRegs.on (shelfRec_regs _ _ _ _ ?_ ?_))
      | (with_reducible apply onlyRegs.on (freeTime_regs _ ?_ ?_ ?_ ?_)))

theorem pick_7fffffffff000000000000000000000600000000000000000000000000000020 (s t : State) : State.pick 0x7fffffffff000000000000000000000600000000000000000000000000000020 s t = { s with
    out := t.out, mbox := { s.mbox with stored := t.mbox.stored, bg := t.mbox.bg }, shelf := t.shelf } := rfl

theorem endOp_within (s : State) (o : ShelfOp) (rc : Rc) (data :
    List Nat) : Within 0x7fffffffff000000000000000000000600000000000000000000000000000020 s
    (@State.endOp s o rc data) := by
  unfold State.endOp
  repeat' (first
      | extract_lets
      | with_reducible apply Within.ite <;> intro _
      | with_reducible apply Within.rfl
      | (with_reducible apply Within.on (m := 0x7fffffffff000000000000000000000600000000000000000000000000000020) (setShelf_within _ _) (by decide))
      | (with_reducible apply Within.on (m := 0x7fffffffff000000000000000000000600000000000000000000000000000020) (reply_within _ _ _ _ _) (by decide))
      | (with_reducible apply Within.on (m := 0x7fffffffff000000000000000000000600000000000000000000000000000020) (bgDone_within _ _ _ _ _ _) (by decide)))

theorem pick_7fffffffff000000000000000000000600000000000000000000000000000022 (s t : State) : State.pick 0x7fffffffff000000000000000000000600000000000000000000000000000022 s t = { s with
    regs := t.regs, out := t.out, mbox := { s.mbox with stored := t.mbox.stored, bg := t.mbox.bg },
    shelf := t.shelf } := rfl

theorem dropManager_within (s : State) : Within
    0x7fffffffff000000000000000000000600000000000000000000000000000022 s
    (@State.dropManager s) := by
  unfold State.dropManager
  repeat' (first
      | extract_lets
      | with_reducible apply Within.rfl
      | (with_reducible apply Within.on (m := 0x7fffffffff000000000000000000000600000000000000000000000000000022) (setBit_within _ _ _ _ _) (by decide))
      | (with_reducible apply Within.on (m := 0x7fffffffff000000000000000000000600000000000000000000000000000022) (endOp_within _ _ _ _) (by decide))
      | (with_reducible apply Within.on (m := 0x7fffffffff000000000000000000000600000000000000000000000000000022) (setShelf_within _ _) (by decide))
      | (with_reducible apply Within.on (m := 0x7fffffffff000000000000000000000600000000000000000000000000000022) (wr_within _ _ _ _ _) (by decide))
      | (with_reducible apply Within.foldl; intro t x))

theorem dropManager_regs (s : State) {ks : List Field} (h1 : Reg.PWR_STATUS_SLOT_WAIT ∈ ks) (h2 :
    Reg.SHELF_MEMBERS_POS ∈ ks) (h3 : Reg.SHELF_POINT_DONE_POS ∈ ks) (h4 : Reg.SHELF_POINT_EXCL_POS ∈ ks) (h5 :
    Reg.SHELF_POINT_NOANS_POS ∈ ks) (h6 : Reg.SHELF_POINT_PARTIAL_POS ∈ ks) (h7 : Reg.SHELF_STATUS_MANAGER ∈ ks) :
    onlyRegs ks s (@State.dropManager s) := by
  unfold State.dropManager
  repeat' (first
      | (with_reducible apply onlyRegs.rfl)
      | extract_lets
      | (with_reducible assumption)
      | (with_reducible exact List.mem_cons_self)
      | (with_reducible apply List.mem_cons_of_mem)
      | (with_reducible apply onlyRegs.on (setBit_regs _ _ _ _ _ ?_))
      | (with_reducible apply onlyRegs.keep (endOp_within _ _ _ _) (by decide))
      | (with_reducible apply onlyRegs.keep (setShelf_within _ _) (by decide))
      | (with_reducible apply onlyRegs.wr)
      | (with_reducible apply onlyRegs.foldl; intro t x))

theorem pick_7fffffffff00000000000000000000060000000000003cc00000000000000022 (s t : State) : State.pick 0x7fffffffff00000000000000000000060000000000003cc00000000000000022 s t = { s with
    regs := t.regs, out := t.out,
    chron := { s.chron with
      perm := t.chron.perm, ring := t.chron.ring, buffer := t.chron.buffer, nextSerial := t.chron.nextSerial,
      runs := t.chron.runs, dropped := t.chron.dropped },
    mbox := { s.mbox with stored := t.mbox.stored, bg := t.mbox.bg }, shelf := t.shelf } := rfl

theorem conflict_within (s : State) : Within
    0x7fffffffff00000000000000000000060000000000003cc00000000000000022 s (@State.conflict
    s) := by
  unfold State.conflict
  repeat' (first
      | extract_lets
      | with_reducible apply Within.ite <;> intro _
      | with_reducible apply Within.rfl
      | (with_reducible apply Within.on (m := 0x7fffffffff00000000000000000000060000000000003cc00000000000000022) (loseContact_within _) (by decide))
      | (with_reducible apply Within.on (m := 0x7fffffffff00000000000000000000060000000000003cc00000000000000022) (dropManager_within _) (by decide))
      | (with_reducible apply Within.on (m := 0x7fffffffff00000000000000000000060000000000003cc00000000000000022) (setShelf_within _ _) (by decide))
      | (with_reducible apply Within.on (m := 0x7fffffffff00000000000000000000060000000000003cc00000000000000022) (shelfRec_within _ _ _ _) (by decide))
      | (with_reducible apply Within.on (m := 0x7fffffffff00000000000000000000060000000000003cc00000000000000022) (setCause_within _ _ _) (by decide)))

theorem conflict_regs (s : State) {ks : List Field} (h1 : Reg.CHRON_DROP_CNT ∈ ks) (h2 :
    Reg.CHRON_REPEAT_CNT ∈ ks) (h3 : Reg.PWR_STATUS_SLOT_WAIT ∈ ks) (h4 : Reg.SHELF_DETUNE_POS_CONFLICT ∈ ks) (h5 :
    Reg.SHELF_DETUNE_TIME ∈ ks) (h6 : Reg.SHELF_MEMBERS_POS ∈ ks) (h7 : Reg.SHELF_POINT_DONE_POS ∈ ks) (h8 :
    Reg.SHELF_POINT_EXCL_POS ∈ ks) (h9 : Reg.SHELF_POINT_NOANS_POS ∈ ks) (h10 : Reg.SHELF_POINT_PARTIAL_POS ∈ ks) (h11
    : Reg.SHELF_STATUS_CONTACT ∈ ks) (h12 : Reg.SHELF_STATUS_MANAGER ∈ ks) (h13 : Reg.SHELF_STATUS_TIME_STATE ∈ ks) :
    onlyRegs ks s (@State.conflict s) := by
  unfold State.conflict
  repeat' (first
      | (with_reducible apply onlyRegs.rfl)
      | extract_lets
      | (with_reducible assumption)
      | (with_reducible exact List.mem_cons_self)
      | (with_reducible apply List.mem_cons_of_mem)
      | (with_reducible apply onlyRegs.ite <;> intro _)
      | (with_reducible apply onlyRegs.on (loseContact_regs _ ?_ ?_ ?_ ?_ ?_ ?_))
      | (with_reducible apply onlyRegs.on (dropManager_regs _ ?_ ?_ ?_ ?_ ?_ ?_ ?_))
      | (with_reducible apply onlyRegs.keep (setShelf_within _ _) (by decide))
      | (with_reducible apply onlyRegs.on (shelfRec_regs _ _ _ _ ?_ ?_))
      | (with_reducible apply onlyRegs.on (setCause_regs _ _ _ ?_ ?_ ?_)))

theorem becomeManager_within (s : State) : Within
    0x7fffffffff00000000000000000000000000000000003cc00000000000000002 s
    (@State.becomeManager s) := by
  unfold State.becomeManager
  repeat' (first
      | extract_lets
      | with_reducible apply Within.rfl
      | (with_reducible apply Within.on (m := 0x7fffffffff00000000000000000000000000000000003cc00000000000000002) (freeTime_within _) (by decide))
      | (with_reducible apply Within.on (m := 0x7fffffffff00000000000000000000000000000000003cc00000000000000002) (setBit_within _ _ _ _ _) (by decide))
      | (with_reducible apply Within.on (m := 0x7fffffffff00000000000000000000000000000000003cc00000000000000002) (setShelf_within _ _) (by decide))
      | (with_reducible apply Within.on (m := 0x7fffffffff00000000000000000000000000000000003cc00000000000000002) (setCause_within _ _ _) (by decide)))

theorem becomeManager_regs (s : State) {ks : List Field} (h1 : Reg.CHRON_DROP_CNT ∈ ks) (h2 :
    Reg.CHRON_REPEAT_CNT ∈ ks) (h3 : Reg.SHELF_DETUNE_EPOCH_HIGH ∈ ks) (h4 : Reg.SHELF_DETUNE_IMAGE_CLASS ∈ ks) (h5 :
    Reg.SHELF_DETUNE_TIME ∈ ks) (h6 : Reg.SHELF_STATUS_CONTACT ∈ ks) (h7 : Reg.SHELF_STATUS_MANAGER ∈ ks) (h8 :
    Reg.SHELF_STATUS_TIME_STATE ∈ ks) : onlyRegs ks s (@State.becomeManager s) := by
  unfold State.becomeManager
  repeat' (first
      | (with_reducible apply onlyRegs.rfl)
      | extract_lets
      | (with_reducible assumption)
      | (with_reducible exact List.mem_cons_self)
      | (with_reducible apply List.mem_cons_of_mem)
      | (with_reducible apply onlyRegs.on (freeTime_regs _ ?_ ?_ ?_ ?_))
      | (with_reducible apply onlyRegs.on (setBit_regs _ _ _ _ _ ?_))
      | (with_reducible apply onlyRegs.keep (setShelf_within _ _) (by decide))
      | (with_reducible apply onlyRegs.on (setCause_regs _ _ _ ?_ ?_ ?_)))

theorem yield_within (s : State) (pos : Nat) : Within
    0x7fffffffff00000000000000000000060000000000003cc00000000000000022 s (@State.yield s
    pos) := by
  unfold State.yield
  repeat' (first
      | with_reducible apply Within.rfl
      | (with_reducible apply Within.on (m := 0x7fffffffff00000000000000000000060000000000003cc00000000000000022) (shelfRec_within _ _ _ _) (by decide))
      | (with_reducible apply Within.on (m := 0x7fffffffff00000000000000000000060000000000003cc00000000000000022) (dropManager_within _) (by decide)))

theorem yield_regs (s : State) (pos : Nat) {ks : List Field} (h1 : Reg.CHRON_DROP_CNT ∈ ks) (h2 :
    Reg.CHRON_REPEAT_CNT ∈ ks) (h3 : Reg.PWR_STATUS_SLOT_WAIT ∈ ks) (h4 : Reg.SHELF_MEMBERS_POS ∈ ks) (h5 :
    Reg.SHELF_POINT_DONE_POS ∈ ks) (h6 : Reg.SHELF_POINT_EXCL_POS ∈ ks) (h7 : Reg.SHELF_POINT_NOANS_POS ∈ ks) (h8 :
    Reg.SHELF_POINT_PARTIAL_POS ∈ ks) (h9 : Reg.SHELF_STATUS_MANAGER ∈ ks) : onlyRegs ks s
    (@State.yield s pos) := by
  unfold State.yield
  repeat' (first
      | (with_reducible apply onlyRegs.rfl)
      | (with_reducible assumption)
      | (with_reducible exact List.mem_cons_self)
      | (with_reducible apply List.mem_cons_of_mem)
      | (with_reducible apply onlyRegs.on (shelfRec_regs _ _ _ _ ?_ ?_))
      | (with_reducible apply onlyRegs.on (dropManager_regs _ ?_ ?_ ?_ ?_ ?_ ?_ ?_)))

theorem linkChanged_within (s : State) : Within
    0x7fffffffff00000000000000000000060000000000003cc00000000000000022 s
    (@State.linkChanged s) := by
  unfold State.linkChanged
  repeat' (first
      | extract_lets
      | with_reducible apply Within.ite <;> intro _
      | with_reducible apply Within.rfl
      | (with_reducible apply Within.on (m := 0x7fffffffff00000000000000000000060000000000003cc00000000000000022) (setShelf_within _ _) (by decide))
      | (with_reducible apply Within.on (m := 0x7fffffffff00000000000000000000060000000000003cc00000000000000022) (loseContact_within _) (by decide))
      | (with_reducible apply Within.on (m := 0x7fffffffff00000000000000000000060000000000003cc00000000000000022) (dropManager_within _) (by decide)))

theorem interleaveCheck_within (s : State) : Within 0x3cc00000000000000002 s
    (@State.interleaveCheck s) := by
  unfold State.interleaveCheck
  repeat' (first
      | extract_lets
      | with_reducible apply Within.rfl
      | (with_reducible apply Within.on (m := 0x3cc00000000000000002) (setCause_within _ _ _) (by decide))
      | (with_reducible apply Within.on (m := 0x3cc00000000000000002) (setBit_within _ _ _ _ _) (by decide))
      | (with_reducible apply Within.on (m := 0x3cc00000000000000002) (wr_within _ _ _ _ _) (by decide))
      | (with_reducible apply Within.on (m := 0x3cc00000000000000002) (shelfRec_within _ _ _ _) (by decide))
      | (with_reducible apply Within.foldl; intro t x))

theorem interleaveCheck_regs (s : State) {ks : List Field} (h1 : Reg.CHRON_DROP_CNT ∈ ks) (h2 :
    Reg.CHRON_REPEAT_CNT ∈ ks) (h3 : Reg.SHELF_DETUNE_INTERLEAVE ∈ ks) (h4 : Reg.SHELF_ILV_STATUS_SET_ID ∈ ks) (h5 :
    Reg.SHELF_ILV_STATUS_VALID ∈ ks) : onlyRegs ks s (@State.interleaveCheck s) := by
  unfold State.interleaveCheck
  repeat' (first
      | (with_reducible apply onlyRegs.rfl)
      | extract_lets
      | (with_reducible assumption)
      | (with_reducible exact List.mem_cons_self)
      | (with_reducible apply List.mem_cons_of_mem)
      | (with_reducible apply onlyRegs.on (setCause_regs _ _ _ ?_ ?_ ?_))
      | (with_reducible apply onlyRegs.on (setBit_regs _ _ _ _ _ ?_))
      | (with_reducible apply onlyRegs.wr)
      | (with_reducible apply onlyRegs.on (shelfRec_regs _ _ _ _ ?_ ?_))
      | (with_reducible apply onlyRegs.foldl; intro t x))

theorem keepShelf_within (s : State) : Within
    0x7fffffffff000000000000000000000000000000000000000000000000000000 s
    (@State.keepShelf s) := by
  unfold State.keepShelf
  repeat' (first
      | with_reducible apply Within.ite <;> intro _
      | with_reducible apply Within.rfl
      | (with_reducible apply Within.on (m := 0x7fffffffff000000000000000000000000000000000000000000000000000000) (setShelf_within _ _) (by decide)))

theorem adopt_within (s : State) (epoch : Nat) (l : List Sys2Proof.IlvRecord) : Within
    0x7fffffffff00000000000000000000000000000000003cc00000000000000002 s (@State.adopt s
    epoch l) := by
  unfold State.adopt
  repeat' (first
      | extract_lets
      | with_reducible apply Within.rfl
      | (with_reducible apply Within.on (m := 0x7fffffffff00000000000000000000000000000000003cc00000000000000002) (keepShelf_within _) (by decide))
      | (with_reducible apply Within.on (m := 0x7fffffffff00000000000000000000000000000000003cc00000000000000002) (setShelf_within _ _) (by decide))
      | (with_reducible apply Within.on (m := 0x7fffffffff00000000000000000000000000000000003cc00000000000000002) (interleaveCheck_within _) (by decide))
      | (with_reducible apply Within.on (m := 0x7fffffffff00000000000000000000000000000000003cc00000000000000002) (shelfRec_within _ _ _ _) (by decide)))

theorem adopt_regs (s : State) (epoch : Nat) (l : List Sys2Proof.IlvRecord) {ks : List Field} (h1 :
    Reg.CHRON_DROP_CNT ∈ ks) (h2 : Reg.CHRON_REPEAT_CNT ∈ ks) (h3 : Reg.SHELF_DETUNE_INTERLEAVE ∈ ks) (h4 :
    Reg.SHELF_ILV_STATUS_SET_ID ∈ ks) (h5 : Reg.SHELF_ILV_STATUS_VALID ∈ ks) : onlyRegs ks s
    (@State.adopt s epoch l) := by
  unfold State.adopt
  repeat' (first
      | (with_reducible apply onlyRegs.rfl)
      | extract_lets
      | (with_reducible assumption)
      | (with_reducible exact List.mem_cons_self)
      | (with_reducible apply List.mem_cons_of_mem)
      | (with_reducible apply onlyRegs.keep (keepShelf_within _) (by decide))
      | (with_reducible apply onlyRegs.keep (setShelf_within _ _) (by decide))
      | (with_reducible apply onlyRegs.on (interleaveCheck_regs _ ?_ ?_ ?_ ?_ ?_))
      | (with_reducible apply onlyRegs.on (shelfRec_regs _ _ _ _ ?_ ?_)))

theorem actOutcome_within (s : State) (stroke : Nat) (late : Bool) : Within 0x3cc00000000000000002
    s (@State.actOutcome s stroke late) := by
  unfold State.actOutcome
  repeat' (first
      | with_reducible apply Within.rfl
      | (with_reducible apply Within.on (m := 0x3cc00000000000000002) (shelfRec_within _ _ _ _) (by decide)))

theorem actOutcome_regs (s : State) (stroke : Nat) (late : Bool) {ks : List Field} (h1 :
    Reg.CHRON_DROP_CNT ∈ ks) (h2 : Reg.CHRON_REPEAT_CNT ∈ ks) : onlyRegs ks s (@State.actOutcome s
    stroke late) := by
  unfold State.actOutcome
  repeat' (first
      | (with_reducible apply onlyRegs.rfl)
      | (with_reducible assumption)
      | (with_reducible exact List.mem_cons_self)
      | (with_reducible apply List.mem_cons_of_mem)
      | (with_reducible apply onlyRegs.on (shelfRec_regs _ _ _ _ ?_ ?_)))

theorem pick_27fffffffff0000000000000011000000000000000000003ffff0000000000000 (s t : State) : State.pick 0x27fffffffff0000000000000011000000000000000000003ffff0000000000000 s t = { s with
    keep := t.keep, imageOps := t.imageOps, chans := t.chans, shelf := t.shelf,
    fw := { s.fw with act := t.fw.act } } := rfl

theorem releaseAct_within (s : State) : Within
    0x27fffffffff0000000000000011000000000000000000003ffff0000000000000 s
    (@State.releaseAct s) := by
  unfold State.releaseAct
  repeat' (first
      | extract_lets
      | with_reducible apply Within.ite <;> intro _
      | with_reducible apply Within.rfl
      | (with_reducible apply Within.on (m := 0x27fffffffff0000000000000011000000000000000000003ffff0000000000000) (releaseSpare_within _) (by decide))
      | (with_reducible apply Within.on (m := 0x27fffffffff0000000000000011000000000000000000003ffff0000000000000) (dropActivation_within _) (by decide))
      | (with_reducible apply Within.on (m := 0x27fffffffff0000000000000011000000000000000000003ffff0000000000000) (setShelf_within _ _) (by decide)))

theorem pick_27fffffffff00000000000000110000000000000000003cfffff0000000000002 (s t : State) : State.pick 0x27fffffffff00000000000000110000000000000000003cfffff0000000000002 s t = { s with
    regs := t.regs, keep := t.keep,
    chron := { s.chron with
      perm := t.chron.perm, ring := t.chron.ring, buffer := t.chron.buffer, nextSerial := t.chron.nextSerial,
      runs := t.chron.runs, dropped := t.chron.dropped },
    imageOps := t.imageOps, chans := t.chans, shelf := t.shelf, fw := { s.fw with act := t.fw.act } } := rfl

theorem notActivated_within (s : State) (stroke : Nat) : Within
    0x27fffffffff00000000000000110000000000000000003cfffff0000000000002 s
    (@State.notActivated s stroke) := by
  unfold State.notActivated
  repeat' (first
      | extract_lets
      | with_reducible apply Within.ite <;> intro _
      | with_reducible apply Within.rfl
      | (with_reducible apply Within.on (m := 0x27fffffffff00000000000000110000000000000000003cfffff0000000000002) (setAct_within _ _) (by decide))
      | (with_reducible apply Within.on (m := 0x27fffffffff00000000000000110000000000000000003cfffff0000000000002) (actOutcome_within _ _ _) (by decide))
      | (with_reducible apply Within.on (m := 0x27fffffffff00000000000000110000000000000000003cfffff0000000000002) (releaseAct_within _) (by decide)))

theorem notActivated_regs (s : State) (stroke : Nat) {ks : List Field} (h1 : Reg.CHRON_DROP_CNT ∈
    ks) (h2 : Reg.CHRON_REPEAT_CNT ∈ ks) (h3 : Reg.SHELF_ACT_STATUS_ACT ∈ ks) : onlyRegs ks s
    (@State.notActivated s stroke) := by
  unfold State.notActivated
  repeat' (first
      | (with_reducible apply onlyRegs.rfl)
      | extract_lets
      | (with_reducible assumption)
      | (with_reducible exact List.mem_cons_self)
      | (with_reducible apply List.mem_cons_of_mem)
      | (with_reducible apply onlyRegs.ite <;> intro _)
      | (with_reducible apply onlyRegs.on (setAct_regs _ _ ?_))
      | (with_reducible apply onlyRegs.on (actOutcome_regs _ _ _ ?_ ?_))
      | (with_reducible apply onlyRegs.keep (releaseAct_within _) (by decide)))

theorem learn_within (s : State) (seq : Nat) (stroke : Nat) (decision : Nat) : Within
    0x27fffffffff00000000000000110000000000000000003cfffff0000000000002 s (@State.learn s
    seq stroke decision) := by
  unfold State.learn
  repeat' (first
      | extract_lets
      | with_reducible apply Within.ite <;> intro _
      | with_reducible apply Within.rfl
      | (with_reducible apply Within.on (m := 0x27fffffffff00000000000000110000000000000000003cfffff0000000000002) (wr_within _ _ _ _ _) (by decide))
      | (with_reducible apply Within.on (m := 0x27fffffffff00000000000000110000000000000000003cfffff0000000000002) (notActivated_within _ _) (by decide))
      | (with_reducible apply Within.on (m := 0x27fffffffff00000000000000110000000000000000003cfffff0000000000002) (setShelf_within _ _) (by decide))
      | fail_if_no_progress with_reducible apply Within.upd (by rw [pick_27fffffffff00000000000000110000000000000000003cfffff0000000000002])
      | with_reducible apply Within.of_fst (by assumption)
      | with_reducible apply Within.of_fst1 (by assumption)
      | split)

theorem learn_regs (s : State) (seq : Nat) (stroke : Nat) (decision : Nat) {ks : List Field} (h1 :
    Reg.CHRON_DROP_CNT ∈ ks) (h2 : Reg.CHRON_REPEAT_CNT ∈ ks) (h3 : Reg.SHELF_ACT_STATUS_ACT ∈ ks) (h4 :
    Reg.SHELF_ACT_STATUS_DECISION ∈ ks) : onlyRegs ks s (@State.learn s seq stroke decision) := by
  unfold State.learn
  repeat' (first
      | (with_reducible apply onlyRegs.rfl)
      | extract_lets
      | (with_reducible assumption)
      | (with_reducible exact List.mem_cons_self)
      | (with_reducible apply List.mem_cons_of_mem)
      | (with_reducible apply onlyRegs.ite <;> intro _)
      | (with_reducible apply onlyRegs.wr)
      | (with_reducible apply onlyRegs.on (notActivated_regs _ _ ?_ ?_ ?_))
      | (with_reducible apply onlyRegs.keep (setShelf_within _ _) (by decide))
      | fail_if_no_progress with_reducible apply onlyRegs.upd
      | with_reducible apply onlyRegs.of_fst (by assumption)
      | with_reducible apply onlyRegs.of_fst1 (by assumption)
      | split)

end Sys2Proof.Machine
end

