-- ==== Sys2Proof/Laws/ShelfWorkerFrames.lean ====
section
/-! SUPPORT. For each function of Machine/ShelfWorker.lean over the state: the part of the state outside which it changes
nothing (`…_within`), and the register fields that it may write (`…_regs`). -/

namespace Sys2Proof.Machine

set_option maxRecDepth 4000

theorem takeConfig_within (epoch : Nat) (count : Nat) (s : State) : Within
    0x7fffffffff00000000000000000000000000000000003cc00000000000000002 s
    (@State.takeConfig epoch count s).1 := by
  unfold State.takeConfig
  repeat' (first
      | with_reducible apply Within.ite1 <;> intro _
      | with_reducible apply Within.rfl
      | (with_reducible apply Within.on (m := 0x7fffffffff00000000000000000000000000000000003cc00000000000000002) (adopt_within _ _ _) (by decide))
      | with_reducible apply Within.of_fst (by assumption)
      | with_reducible apply Within.of_fst1 (by assumption)
      | split)

theorem takeConfig_regs (epoch : Nat) (count : Nat) (s : State) {ks : List Field} (h1 :
    Reg.CHRON_DROP_CNT ∈ ks) (h2 : Reg.CHRON_REPEAT_CNT ∈ ks) (h3 : Reg.SHELF_DETUNE_INTERLEAVE ∈ ks) (h4 :
    Reg.SHELF_ILV_STATUS_SET_ID ∈ ks) (h5 : Reg.SHELF_ILV_STATUS_VALID ∈ ks) : onlyRegs ks s
    (@State.takeConfig epoch count s).1 := by
  unfold State.takeConfig
  repeat' (first
      | (with_reducible apply onlyRegs.rfl)
      | (with_reducible assumption)
      | (with_reducible exact List.mem_cons_self)
      | (with_reducible apply List.mem_cons_of_mem)
      | (with_reducible apply onlyRegs.ite1 <;> intro _)
      | (with_reducible apply onlyRegs.on (adopt_regs _ _ _ ?_ ?_ ?_ ?_ ?_))
      | with_reducible apply onlyRegs.of_fst (by assumption)
      | with_reducible apply onlyRegs.of_fst1 (by assumption)
      | split)

theorem takeRecord_within (epoch : Nat) (index : Nat) (r : Sys2Proof.IlvRecord) (s : State) : Within
    0x7fffffffff000000000000000000000000000000000000000000000000000000 s
    (@State.takeRecord epoch index r s).1 := by
  unfold State.takeRecord
  repeat' (first
      | with_reducible apply Within.ite1 <;> intro _
      | with_reducible apply Within.rfl
      | (with_reducible apply Within.on (m := 0x7fffffffff000000000000000000000000000000000000000000000000000000) (setShelf_within _ _) (by decide)))

theorem takeGrant_within (stroke : Nat) (s : State) : Within
    0x7fffffffff000000000000000000000000000000000000000000000000000000 s
    (@State.takeGrant stroke s).1 := by
  unfold State.takeGrant
  repeat' (first
      | with_reducible apply Within.ite1 <;> intro _
      | with_reducible apply Within.rfl
      | (with_reducible apply Within.on (m := 0x7fffffffff000000000000000000000000000000000000000000000000000000) (setShelf_within _ _) (by decide)))

theorem pick_1000000 (s t : State) : State.pick 16777216 s t = { s with
    pwr := { s.pwr with offStroke := t.pwr.offStroke } } := rfl

theorem takePowerOff_within (stroke : Nat) (s : State) : Within 16777216 s
    (@State.takePowerOff stroke s).1 := by
  unfold State.takePowerOff
  repeat' (first
      | with_reducible apply Within.ite1 <;> intro _
      | with_reducible apply Within.rfl
      | fail_if_no_progress with_reducible apply Within.upd (by rw [pick_1000000]))

theorem pick_800000 (s t : State) : State.pick 8388608 s t = { s with
    pwr := { s.pwr with keptOn := t.pwr.keptOn } } := rfl

theorem takePowerOn_within (s : State) : Within 8388608 s (@State.takePowerOn s).1
    := by
  unfold State.takePowerOn
  repeat' (first
      | with_reducible apply Within.ite1 <;> intro _
      | with_reducible apply Within.rfl
      | fail_if_no_progress with_reducible apply Within.upd (by rw [pick_800000]))

theorem pick_7fffffffff000000000000000000000001000000000000000000000000000002 (s t : State) : State.pick 0x7fffffffff000000000000000000000001000000000000000000000000000002 s t = { s with
    regs := t.regs, merge := { s.merge with points := t.merge.points }, shelf := t.shelf } := rfl

theorem takePersist_within (seq : Nat) (stroke : Nat) (s : State) : Within
    0x7fffffffff000000000000000000000001000000000000000000000000000002 s
    (@State.takePersist seq stroke s).1 := by
  unfold State.takePersist
  repeat' (first
      | extract_lets
      | with_reducible apply Within.ite1 <;> intro _
      | with_reducible apply Within.rfl
      | (with_reducible apply Within.on (m := 0x7fffffffff000000000000000000000001000000000000000000000000000002) (setShelf_within _ _) (by decide))
      | (with_reducible apply Within.on (m := 0x7fffffffff000000000000000000000001000000000000000000000000000002) (joinPoint_within _ _ _ _) (by decide)))

theorem takePersist_regs (seq : Nat) (stroke : Nat) (s : State) {ks : List Field} (h1 :
    Reg.MERGE_STATUS_POINTS ∈ ks) : onlyRegs ks s (@State.takePersist seq stroke s).1 := by
  unfold State.takePersist
  repeat' (first
      | (with_reducible apply onlyRegs.rfl)
      | extract_lets
      | (with_reducible assumption)
      | (with_reducible exact List.mem_cons_self)
      | (with_reducible apply List.mem_cons_of_mem)
      | (with_reducible apply onlyRegs.ite1 <;> intro _)
      | (with_reducible apply onlyRegs.keep (setShelf_within _ _) (by decide))
      | (with_reducible apply onlyRegs.on (joinPoint_regs _ _ _ _ ?_)))

theorem pick_27fffffffff0000000000000011000000000000000000003ffff0000000000002 (s t : State) : State.pick 0x27fffffffff0000000000000011000000000000000000003ffff0000000000002 s t = { s with
    regs := t.regs, keep := t.keep, imageOps := t.imageOps, chans := t.chans, shelf := t.shelf,
    fw := { s.fw with act := t.fw.act } } := rfl

theorem takePrepare_within (seq : Nat) (stroke : Nat) (r : Sys2Proof.ImageReport) (s : State) :
    Within 0x27fffffffff0000000000000011000000000000000000003ffff0000000000002 s
    (@State.takePrepare seq stroke r s).1 := by
  unfold State.takePrepare
  repeat' (first
      | extract_lets
      | with_reducible apply Within.ite1 <;> intro _
      | with_reducible apply Within.rfl
      | (with_reducible apply Within.on (m := 0x27fffffffff0000000000000011000000000000000000003ffff0000000000002) (setBit_within _ _ _ _ _) (by decide))
      | (with_reducible apply Within.on (m := 0x27fffffffff0000000000000011000000000000000000003ffff0000000000002) (wr_within _ _ _ _ _) (by decide))
      | (with_reducible apply Within.on (m := 0x27fffffffff0000000000000011000000000000000000003ffff0000000000002) (setAct_within _ _) (by decide))
      | (with_reducible apply Within.on (m := 0x27fffffffff0000000000000011000000000000000000003ffff0000000000002) (setShelf_within _ _) (by decide))
      | (with_reducible apply Within.on (m := 0x27fffffffff0000000000000011000000000000000000003ffff0000000000002) (loadTables_within _ _ _) (by decide)))

theorem takePrepare_regs (seq : Nat) (stroke : Nat) (r : Sys2Proof.ImageReport) (s : State) {ks :
    List Field} (h1 : Reg.SHELF_ACT_STATUS_ACT ∈ ks) (h2 : Reg.SHELF_ACT_STATUS_DECISION ∈ ks) (h3 :
    Reg.SHELF_ACT_STATUS_LATE ∈ ks) : onlyRegs ks s (@State.takePrepare seq stroke r s).1 := by
  unfold State.takePrepare
  repeat' (first
      | (with_reducible apply onlyRegs.rfl)
      | extract_lets
      | (with_reducible assumption)
      | (with_reducible exact List.mem_cons_self)
      | (with_reducible apply List.mem_cons_of_mem)
      | (with_reducible apply onlyRegs.ite1 <;> intro _)
      | (with_reducible apply onlyRegs.on (setBit_regs _ _ _ _ _ ?_))
      | (with_reducible apply onlyRegs.wr)
      | (with_reducible apply onlyRegs.on (setAct_regs _ _ ?_))
      | (with_reducible apply onlyRegs.keep (setShelf_within _ _) (by decide))
      | (with_reducible apply onlyRegs.keep (loadTables_within _ _ _) (by decide)))

theorem takeRelease_within (s : State) : Within
    0x7fffffffff00000000000000000000000000000000003cc00000000000000002 s
    (@State.takeRelease s).1 := by
  unfold State.takeRelease
  repeat' (first
      | with_reducible apply Within.ite1 <;> intro _
      | with_reducible apply Within.rfl
      | (with_reducible apply Within.on (m := 0x7fffffffff00000000000000000000000000000000003cc00000000000000002) (adopt_within _ _ _) (by decide))
      | (with_reducible apply Within.on (m := 0x7fffffffff00000000000000000000000000000000003cc00000000000000002) (setCause_within _ _ _) (by decide)))

theorem takeRelease_regs (s : State) {ks : List Field} (h1 : Reg.CHRON_DROP_CNT ∈ ks) (h2 :
    Reg.CHRON_REPEAT_CNT ∈ ks) (h3 : Reg.SHELF_DETUNE_EPOCH_HIGH ∈ ks) (h4 : Reg.SHELF_DETUNE_INTERLEAVE ∈ ks) (h5 :
    Reg.SHELF_ILV_STATUS_SET_ID ∈ ks) (h6 : Reg.SHELF_ILV_STATUS_VALID ∈ ks) : onlyRegs ks s
    (@State.takeRelease s).1 := by
  unfold State.takeRelease
  repeat' (first
      | (with_reducible apply onlyRegs.rfl)
      | (with_reducible assumption)
      | (with_reducible exact List.mem_cons_self)
      | (with_reducible apply List.mem_cons_of_mem)
      | (with_reducible apply onlyRegs.ite1 <;> intro _)
      | (with_reducible apply onlyRegs.on (adopt_regs _ _ _ ?_ ?_ ?_ ?_ ?_))
      | (with_reducible apply onlyRegs.on (setCause_regs _ _ _ ?_ ?_ ?_)))

theorem ackNow_within (s : State) (seq : Nat) (res : Nat) : Within
    0x7fffffffff000000000000000000000000000000000000000000000000000000 s (@State.ackNow s
    seq res) := by
  unfold State.ackNow
  repeat' (first
      | with_reducible apply Within.rfl
      | (with_reducible apply Within.on (m := 0x7fffffffff000000000000000000000000000000000000000000000000000000) (setShelf_within _ _) (by decide)))

theorem remember_within (s : State) (seq : Nat) (res : Nat) : Within
    0x7fffffffff000000000000000000000000000000000000000000000000000000 s (@State.remember
    s seq res) := by
  unfold State.remember
  repeat' (first
      | with_reducible apply Within.rfl
      | (with_reducible apply Within.on (m := 0x7fffffffff000000000000000000000000000000000000000000000000000000) (ackNow_within _ _ _) (by decide))
      | (with_reducible apply Within.on (m := 0x7fffffffff000000000000000000000000000000000000000000000000000000) (setShelf_within _ _) (by decide)))

theorem pick_7fffffffff000000000000000000000000000000000000000000000000000002 (s t : State) : State.pick 0x7fffffffff000000000000000000000000000000000000000000000000000002 s t = { s with
    regs := t.regs, shelf := t.shelf } := rfl

theorem takeFrame_within (s : State) (f : Sys2Proof.Frame) (addressedOnly : Bool) (run :
    State → State × Nat) {M : Nat} (hM :
    0x7fffffffff000000000000000000000000000000000000000000000000000002 ||| M = M) (hf : ∀ y, Within M y
    (run y).1) : Within M s (@State.takeFrame s f addressedOnly run) := by
  unfold State.takeFrame
  repeat' (first
      | extract_lets
      | with_reducible apply Within.ite <;> intro _
      | with_reducible apply Within.rfl
      | (with_reducible apply Within.on (m := M) (bump_within _ _ _ _ _) (subm (a := 0x7fffffffff000000000000000000000000000000000000000000000000000002) (by decide) hM))
      | (with_reducible apply Within.on (m := M) (ackNow_within _ _ _) (subm (a := 0x7fffffffff000000000000000000000000000000000000000000000000000002) (by decide) hM))
      | (with_reducible apply Within.on (m := M) (remember_within _ _ _) (subm (a := 0x7fffffffff000000000000000000000000000000000000000000000000000002) (by decide) hM))
      | with_reducible apply Within.of_fst (by assumption)
      | with_reducible apply Within.of_fst1 (by assumption)
      | (with_reducible apply Within.on (hf _) (Nat.or_self _))
      | (with_reducible apply Within.on (hf _ _) (Nat.or_self _))
      | split)

theorem takeFrame_regs (s : State) (f : Sys2Proof.Frame) (addressedOnly : Bool) (run :
    State → State × Nat) {ks : List Field} (hf : ∀ y, onlyRegs ks y (run y).1) (h1 :
    Reg.SHELF_DUP_CNT ∈ ks) (h2 : Reg.SHELF_FRAME_CNT ∈ ks) : onlyRegs ks s (@State.takeFrame s f
    addressedOnly run) := by
  unfold State.takeFrame
  repeat' (first
      | (with_reducible apply onlyRegs.on (hf _))
      | (with_reducible apply onlyRegs.on (hf _ _))
      | (with_reducible apply onlyRegs.rfl)
      | extract_lets
      | (with_reducible assumption)
      | (with_reducible exact List.mem_cons_self)
      | (with_reducible apply List.mem_cons_of_mem)
      | (with_reducible apply onlyRegs.ite <;> intro _)
      | (with_reducible apply onlyRegs.on (bump_regs _ _ _ _ _ ?_))
      | (with_reducible apply onlyRegs.keep (ackNow_within _ _ _) (by decide))
      | (with_reducible apply onlyRegs.keep (remember_within _ _ _) (by decide))
      | with_reducible apply onlyRegs.of_fst (by assumption)
      | with_reducible apply onlyRegs.of_fst1 (by assumption)
      | split)

theorem followBeacon_within (s : State) (b : Sys2Proof.Beacon) : Within
    0x27fffffffff00000000000000110000000000000000003cfffff0000000000002 s
    (@State.followBeacon s b) := by
  unfold State.followBeacon
  repeat' (first
      | extract_lets
      | with_reducible apply Within.ite <;> intro _
      | with_reducible apply Within.rfl
      | (with_reducible apply Within.on (m := 0x27fffffffff00000000000000110000000000000000003cfffff0000000000002) (setShelf_within _ _) (by decide))
      | (with_reducible apply Within.on (m := 0x27fffffffff00000000000000110000000000000000003cfffff0000000000002) (wr_within _ _ _ _ _) (by decide))
      | (with_reducible apply Within.on (m := 0x27fffffffff00000000000000110000000000000000003cfffff0000000000002) (setBit_within _ _ _ _ _) (by decide))
      | (with_reducible apply Within.on (m := 0x27fffffffff00000000000000110000000000000000003cfffff0000000000002) (shelfRec_within _ _ _ _) (by decide))
      | (with_reducible apply Within.on (m := 0x27fffffffff00000000000000110000000000000000003cfffff0000000000002) (setTime_within _ _) (by decide))
      | (with_reducible apply Within.on (m := 0x27fffffffff00000000000000110000000000000000003cfffff0000000000002) (setCause_within _ _ _) (by decide))
      | (with_reducible apply Within.on (m := 0x27fffffffff00000000000000110000000000000000003cfffff0000000000002) (learn_within _ _ _ _) (by decide)))

theorem followBeacon_regs (s : State) (b : Sys2Proof.Beacon) {ks : List Field} (h1 :
    Reg.CHRON_DROP_CNT ∈ ks) (h2 : Reg.CHRON_REPEAT_CNT ∈ ks) (h3 : Reg.SHELF_ACT_STATUS_ACT ∈ ks) (h4 :
    Reg.SHELF_ACT_STATUS_DECISION ∈ ks) (h5 : Reg.SHELF_DETUNE_EPOCH_HIGH ∈ ks) (h6 : Reg.SHELF_DETUNE_IMAGE_CLASS ∈
    ks) (h7 : Reg.SHELF_DETUNE_TIME ∈ ks) (h8 : Reg.SHELF_MEMBERS_POS ∈ ks) (h9 : Reg.SHELF_STATUS_CONTACT ∈ ks) (h10
    : Reg.SHELF_STATUS_TIME_STATE ∈ ks) : onlyRegs ks s (@State.followBeacon s b) := by
  unfold State.followBeacon
  repeat' (first
      | (with_reducible apply onlyRegs.rfl)
      | extract_lets
      | (with_reducible assumption)
      | (with_reducible exact List.mem_cons_self)
      | (with_reducible apply List.mem_cons_of_mem)
      | (with_reducible apply onlyRegs.ite <;> intro _)
      | (with_reducible apply onlyRegs.keep (setShelf_within _ _) (by decide))
      | (with_reducible apply onlyRegs.wr)
      | (with_reducible apply onlyRegs.on (setBit_regs _ _ _ _ _ ?_))
      | (with_reducible apply onlyRegs.on (shelfRec_regs _ _ _ _ ?_ ?_))
      | (with_reducible apply onlyRegs.on (setTime_regs _ _ ?_ ?_ ?_ ?_))
      | (with_reducible apply onlyRegs.on (setCause_regs _ _ _ ?_ ?_ ?_))
      | (with_reducible apply onlyRegs.on (learn_regs _ _ _ _ ?_ ?_ ?_ ?_)))

theorem managerHears_within (s : State) (b : Sys2Proof.Beacon) : Within
    0x7fffffffff000000000000000000000000000000000000000000000000000002 s
    (@State.managerHears s b) := by
  unfold State.managerHears
  repeat' (first
      | extract_lets
      | with_reducible apply Within.ite <;> intro _
      | with_reducible apply Within.rfl
      | (with_reducible apply Within.on (m := 0x7fffffffff000000000000000000000000000000000000000000000000000002) (bump_within _ _ _ _ _) (by decide))
      | (with_reducible apply Within.on (m := 0x7fffffffff000000000000000000000000000000000000000000000000000002) (setShelf_within _ _) (by decide)))

theorem managerHears_regs (s : State) (b : Sys2Proof.Beacon) {ks : List Field} (h1 :
    Reg.SHELF_FRAME_CNT ∈ ks) : onlyRegs ks s (@State.managerHears s b) := by
  unfold State.managerHears
  repeat' (first
      | (with_reducible apply onlyRegs.rfl)
      | extract_lets
      | (with_reducible assumption)
      | (with_reducible exact List.mem_cons_self)
      | (with_reducible apply List.mem_cons_of_mem)
      | (with_reducible apply onlyRegs.ite <;> intro _)
      | (with_reducible apply onlyRegs.on (bump_regs _ _ _ _ _ ?_))
      | (with_reducible apply onlyRegs.keep (setShelf_within _ _) (by decide)))

theorem showPhase_within (s : State) (e : Int) : Within 2 s (@State.showPhase s e)
    := by
  unfold State.showPhase
  repeat' (first
      | extract_lets
      | with_reducible apply Within.rfl
      | (with_reducible apply Within.on (m := 2) (wr_within _ _ _ _ _) (by decide)))

theorem showPhase_regs (s : State) (e : Int) {ks : List Field} (h1 : Reg.SHELF_PHASE_ERR_CCLK ∈ ks)
    : onlyRegs ks s (@State.showPhase s e) := by
  unfold State.showPhase
  repeat' (first
      | (with_reducible apply onlyRegs.rfl)
      | extract_lets
      | (with_reducible assumption)
      | (with_reducible exact List.mem_cons_self)
      | (with_reducible apply List.mem_cons_of_mem)
      | (with_reducible apply onlyRegs.wr))

theorem acceptPulse_within (s : State) : Within
    0x7fffffffff000000000000000000000000000000000000000000000000000000 s
    (@State.acceptPulse s) := by
  unfold State.acceptPulse
  repeat' (first
      | with_reducible apply Within.rfl
      | (with_reducible apply Within.on (m := 0x7fffffffff000000000000000000000000000000000000000000000000000000) (setShelf_within _ _) (by decide)))

theorem acquire_within (s : State) (e : Int) : Within
    0x7fffffffff00000000000000000000000000000000003cc00000000000000002 s (@State.acquire
    s e) := by
  unfold State.acquire
  repeat' (first
      | with_reducible apply Within.ite <;> intro _
      | with_reducible apply Within.rfl
      | (with_reducible apply Within.on (m := 0x7fffffffff00000000000000000000000000000000003cc00000000000000002) (setTime_within _ _) (by decide))
      | (with_reducible apply Within.on (m := 0x7fffffffff00000000000000000000000000000000003cc00000000000000002) (acceptPulse_within _) (by decide))
      | (with_reducible apply Within.on (m := 0x7fffffffff00000000000000000000000000000000003cc00000000000000002) (setShelf_within _ _) (by decide)))

theorem acquire_regs (s : State) (e : Int) {ks : List Field} (h1 : Reg.CHRON_DROP_CNT ∈ ks) (h2 :
    Reg.CHRON_REPEAT_CNT ∈ ks) (h3 : Reg.SHELF_DETUNE_TIME ∈ ks) (h4 : Reg.SHELF_STATUS_TIME_STATE ∈ ks) : onlyRegs ks s
    (@State.acquire s e) := by
  unfold State.acquire
  repeat' (first
      | (with_reducible apply onlyRegs.rfl)
      | (with_reducible assumption)
      | (with_reducible exact List.mem_cons_self)
      | (with_reducible apply List.mem_cons_of_mem)
      | (with_reducible apply onlyRegs.ite <;> intro _)
      | (with_reducible apply onlyRegs.on (setTime_regs _ _ ?_ ?_ ?_ ?_))
      | (with_reducible apply onlyRegs.keep (acceptPulse_within _) (by decide))
      | (with_reducible apply onlyRegs.keep (setShelf_within _ _) (by decide)))

theorem pick_1a7ffffffffffe000000000008100000060000000000003cfffff0000000000022 (s t : State) : State.pick 0x1a7ffffffffffe000000000008100000060000000000003cfffff0000000000022 s t = { s with
    regs := t.regs, out := t.out, keep := t.keep,
    chron := { s.chron with
      perm := t.chron.perm, ring := t.chron.ring, buffer := t.chron.buffer, nextSerial := t.chron.nextSerial,
      runs := t.chron.runs, dropped := t.chron.dropped },
    mbox := { s.mbox with stored := t.mbox.stored, bg := t.mbox.bg }, chans := t.chans,
    sched := { s.sched with back := t.sched.back }, img := t.img, shelf := t.shelf,
    fw := { s.fw with act := t.fw.act, oldBank := t.fw.oldBank, oldPrecond := t.fw.oldPrecond } } := rfl

theorem coordinate_within (s : State) (x : ShelfAct) (a :
    Activation) : Within
    0x1a7ffffffffffe000000000008100000060000000000003cfffff0000000000022 s
    (@State.coordinate s x a) := by
  unfold State.coordinate
  repeat' (first
      | extract_lets
      | with_reducible apply Within.rfl
      | (with_reducible apply Within.on (m := 0x1a7ffffffffffe000000000008100000060000000000003cfffff0000000000022) (setAct_within _ _) (by decide))
      | (with_reducible apply Within.on (m := 0x1a7ffffffffffe000000000008100000060000000000003cfffff0000000000022) (takeEffect_within _ _) (by decide))
      | (with_reducible apply Within.on (m := 0x1a7ffffffffffe000000000008100000060000000000003cfffff0000000000022) (setBit_within _ _ _ _ _) (by decide))
      | (with_reducible apply Within.on (m := 0x1a7ffffffffffe000000000008100000060000000000003cfffff0000000000022) (setShelf_within _ _) (by decide))
      | (with_reducible apply Within.on (m := 0x1a7ffffffffffe000000000008100000060000000000003cfffff0000000000022) (actOutcome_within _ _ _) (by decide)))

theorem coordinate_regs (s : State) (x : ShelfAct) (a :
    Activation) {ks : List Field} (h1 : Reg.CHAN_STATUS_TBANK ∈ ks) (h2 : Reg.CHRON_DROP_CNT ∈ ks)
    (h3 : Reg.CHRON_REPEAT_CNT ∈ ks) (h4 : Reg.ERR_PATROL_CFG_HORIZON ∈ ks) (h5 : Reg.SCHED_STATUS_LAYOUT ∈ ks) (h6 :
    Reg.SHELF_ACT_STATUS_ACT ∈ ks) (h7 : Reg.SHELF_ACT_STATUS_LATE ∈ ks) (h8 : Reg.TOP_STATUS_RECOVERY ∈ ks) : onlyRegs
    ks s (@State.coordinate s x a) := by
  unfold State.coordinate
  repeat' (first
      | (with_reducible apply onlyRegs.rfl)
      | extract_lets
      | (with_reducible assumption)
      | (with_reducible exact List.mem_cons_self)
      | (with_reducible apply List.mem_cons_of_mem)
      | (with_reducible apply onlyRegs.on (setAct_regs _ _ ?_))
      | (with_reducible apply onlyRegs.on (takeEffect_regs _ _ ?_ ?_ ?_ ?_ ?_ ?_))
      | (with_reducible apply onlyRegs.on (setBit_regs _ _ _ _ _ ?_))
      | (with_reducible apply onlyRegs.keep (setShelf_within _ _) (by decide))
      | (with_reducible apply onlyRegs.on (actOutcome_regs _ _ _ ?_ ?_)))

theorem sendStatus_within (s : State) : Within 32 s (@State.sendStatus s) := by
  unfold State.sendStatus
  repeat' (first
      | with_reducible apply Within.ite <;> intro _
      | with_reducible apply Within.rfl
      | (with_reducible apply Within.on (m := 32) (emit_within _ _) (by decide)))

end Sys2Proof.Machine
end

