-- ==== Sys2Proof/Laws/ShelfFamilyFrames.lean ====
section
/-! SUPPORT. For each function of Machine/ShelfFamily.lean over the state: the part of the state outside which it changes
nothing (`…_within`), and the register fields that it may write (`…_regs`). -/

namespace Sys2Proof.Machine

set_option maxRecDepth 4000

theorem mark_within (s : State) (f : Field) (p : Nat) : Within 2 s
    (@State.mark s f p) := by
  unfold State.mark
  repeat' (first
      | with_reducible apply Within.rfl
      | (with_reducible apply Within.on (m := 2) (wr_within _ _ _ _ _) (by decide)))

theorem mark_regs (s : State) (f : Field) (p : Nat) {ks : List Field} (h0 : f ∈
    ks) : onlyRegs ks s (@State.mark s f p) := by
  unfold State.mark
  repeat' (first
      | (with_reducible apply onlyRegs.rfl)
      | (with_reducible assumption)
      | (with_reducible exact List.mem_cons_self)
      | (with_reducible apply List.mem_cons_of_mem)
      | (with_reducible apply onlyRegs.wr))

theorem newCmd_within (s : State) (msg : ShelfMsg) (bcast : Bool) (left : List Nat)
    (why : ShelfWhy) : Within
    0x7fffffffff000000000000000000000000000000000000000000000000000000 s (@State.newCmd s
    msg bcast left why) := by
  unfold State.newCmd
  repeat' (first
      | extract_lets
      | with_reducible apply Within.rfl
      | (with_reducible apply Within.on (m := 0x7fffffffff000000000000000000000000000000000000000000000000000000) (setShelf_within _ _) (by decide)))

theorem withOp_within (s : State) (n : Nat) (f : ShelfOp →
    ShelfOp) : Within 0x7fffffffff000000000000000000000000000000000000000000000000000000
    s (@State.withOp s n f) := by
  unfold State.withOp
  repeat' (first
      | with_reducible apply Within.rfl
      | (with_reducible apply Within.on (m := 0x7fffffffff000000000000000000000000000000000000000000000000000000) (setShelf_within _ _) (by decide)))

theorem newOp_within (s : State) (p : Sys2Proof.CmdPath) (use : ShelfUse) : Within
    0x7fffffffff000000000000000000000600000000000000000000000000000020 s (@State.newOp s
    p use) := by
  unfold State.newOp
  repeat' (first
      | extract_lets
      | with_reducible apply Within.ite <;> intro _
      | with_reducible apply Within.rfl
      | (with_reducible apply Within.on (m := 0x7fffffffff000000000000000000000600000000000000000000000000000020) (setShelf_within _ _) (by decide))
      | (with_reducible apply Within.on (m := 0x7fffffffff000000000000000000000600000000000000000000000000000020) (reply_within _ _ _ _ _) (by decide))
      | (with_reducible apply Within.on (m := 0x7fffffffff000000000000000000000600000000000000000000000000000020) (bgStart_within _ _ _) (by decide)))

theorem opCheck_within (s : State) (n : Nat) : Within
    0x7fffffffff000000000000000000000600000000000000000000000000000020 s (@State.opCheck
    s n) := by
  unfold State.opCheck
  repeat' (first
      | with_reducible apply Within.ite <;> intro _
      | with_reducible apply Within.rfl
      | (with_reducible apply Within.on (m := 0x7fffffffff000000000000000000000600000000000000000000000000000020) (endOp_within _ _ _ _) (by decide))
      | with_reducible apply Within.of_fst (by assumption)
      | with_reducible apply Within.of_fst1 (by assumption)
      | split)

theorem opsCheck_within (s : State) : Within
    0x7fffffffff000000000000000000000600000000000000000000000000000020 s (@State.opsCheck
    s) := by
  unfold State.opsCheck
  repeat' (first
      | with_reducible apply Within.rfl
      | (with_reducible apply Within.on (m := 0x7fffffffff000000000000000000000600000000000000000000000000000020) (opCheck_within _ _) (by decide))
      | (with_reducible apply Within.foldl; intro t x))

theorem giveUp_within (s : State) (c : ShelfCmd) (l : List Nat) : Within
    0x7fffffffff000000000000000000000000000000000000000000000000000000 s (@State.giveUp s
    c l) := by
  unfold State.giveUp
  repeat' (first
      | extract_lets
      | with_reducible apply Within.ite <;> intro _
      | with_reducible apply Within.rfl
      | (with_reducible apply Within.on (m := 0x7fffffffff000000000000000000000000000000000000000000000000000000) (withOp_within _ _ _) (by decide))
      | (with_reducible apply Within.on (m := 0x7fffffffff000000000000000000000000000000000000000000000000000000) (setShelf_within _ _) (by decide))
      | fail_if_no_progress with_reducible apply Within.upd (by rw [pick_7fffffffff000000000000000000000000000000000000000000000000000000])
      | with_reducible apply Within.of_fst (by assumption)
      | with_reducible apply Within.of_fst1 (by assumption)
      | split
      | dsimp +zetaDelta only)

theorem dropTargets_within (s : State) (seq : Nat) (l : List Nat) : Within
    0x7fffffffff000000000000000000000000000000000000000000000000000000 s
    (@State.dropTargets s seq l) := by
  unfold State.dropTargets
  repeat' (first
      | with_reducible apply Within.rfl
      | (with_reducible apply Within.on (m := 0x7fffffffff000000000000000000000000000000000000000000000000000000) (setShelf_within _ _) (by decide)))

theorem pointNote_within (s : State) (pos : Nat) (seq : Nat) (result : Nat) : Within 2 s
    (@State.pointNote s pos seq result) := by
  unfold State.pointNote
  repeat' (first
      | with_reducible apply Within.ite <;> intro _
      | with_reducible apply Within.rfl
      | (with_reducible apply Within.on (m := 2) (mark_within _ _ _) (by decide))
      | with_reducible apply Within.of_fst (by assumption)
      | with_reducible apply Within.of_fst1 (by assumption)
      | split)

theorem pointNote_regs (s : State) (pos : Nat) (seq : Nat) (result : Nat) {ks : List Field} (h1 :
    Reg.SHELF_POINT_DONE_POS ∈ ks) (h2 : Reg.SHELF_POINT_EXCL_POS ∈ ks) (h3 : Reg.SHELF_POINT_PARTIAL_POS ∈ ks) :
    onlyRegs ks s (@State.pointNote s pos seq result) := by
  unfold State.pointNote
  repeat' (first
      | (with_reducible apply onlyRegs.rfl)
      | (with_reducible assumption)
      | (with_reducible exact List.mem_cons_self)
      | (with_reducible apply List.mem_cons_of_mem)
      | (with_reducible apply onlyRegs.ite <;> intro _)
      | (with_reducible apply onlyRegs.on (mark_regs _ _ _ ?_))
      | with_reducible apply onlyRegs.of_fst (by assumption)
      | with_reducible apply onlyRegs.of_fst1 (by assumption)
      | split)

theorem pointOwn_within (s : State) : Within 2 s (@State.pointOwn s) := by
  unfold State.pointOwn
  repeat' (first
      | with_reducible apply Within.rfl
      | (with_reducible apply Within.on (m := 2) (pointNote_within _ _ _ _) (by decide)))

theorem pointOwn_regs (s : State) {ks : List Field} (h1 : Reg.SHELF_POINT_DONE_POS ∈ ks) (h2 :
    Reg.SHELF_POINT_EXCL_POS ∈ ks) (h3 : Reg.SHELF_POINT_PARTIAL_POS ∈ ks) : onlyRegs ks s
    (@State.pointOwn s) := by
  unfold State.pointOwn
  repeat' (first
      | (with_reducible apply onlyRegs.rfl)
      | (with_reducible assumption)
      | (with_reducible exact List.mem_cons_self)
      | (with_reducible apply List.mem_cons_of_mem)
      | (with_reducible apply onlyRegs.on (pointNote_regs _ _ _ _ ?_ ?_ ?_)))

theorem shelfPointTick_within (s : State) : Within
    0x7fffffffff000000000000000000000000000000000000000000000000000000 s
    (@State.shelfPointTick s) := by
  unfold State.shelfPointTick
  repeat' (first
      | with_reducible apply Within.ite <;> intro _
      | with_reducible apply Within.rfl
      | (with_reducible apply Within.on (m := 0x7fffffffff000000000000000000000000000000000000000000000000000000) (setShelf_within _ _) (by decide))
      | fail_if_no_progress with_reducible apply Within.upd (by rw [pick_7fffffffff000000000000000000000000000000000000000000000000000000])
      | with_reducible apply Within.of_fst (by assumption)
      | with_reducible apply Within.of_fst1 (by assumption)
      | split)

theorem endUses_within (s : State) (u : ShelfUse) (rc : Rc) (data
    : List Nat) : Within 0x7fffffffff000000000000000000000600000000000000000000000000000020 s
    (@State.endUses s u rc data) := by
  unfold State.endUses
  repeat' (first
      | with_reducible apply Within.rfl
      | (with_reducible apply Within.on (m := 0x7fffffffff000000000000000000000600000000000000000000000000000020) (endOp_within _ _ _ _) (by decide))
      | (with_reducible apply Within.foldl; intro t x))

theorem endShelfPoint_within (s : State) (lost : List Nat) : Within
    0x7fffffffff00000000000000000000060000000000003cc00000000000000022 s
    (@State.endShelfPoint s lost) := by
  unfold State.endShelfPoint
  repeat' (first
      | extract_lets
      | with_reducible apply Within.rfl
      | (with_reducible apply Within.on (m := 0x7fffffffff00000000000000000000060000000000003cc00000000000000022) (wr_within _ _ _ _ _) (by decide))
      | (with_reducible apply Within.on (m := 0x7fffffffff00000000000000000000060000000000003cc00000000000000022) (setShelf_within _ _) (by decide))
      | (with_reducible apply Within.on (m := 0x7fffffffff00000000000000000000060000000000003cc00000000000000022) (shelfRec_within _ _ _ _) (by decide))
      | (with_reducible apply Within.on (m := 0x7fffffffff00000000000000000000060000000000003cc00000000000000022) (endUses_within _ _ _ _) (by decide)))

theorem endShelfPoint_regs (s : State) (lost : List Nat) {ks : List Field} (h1 : Reg.CHRON_DROP_CNT
    ∈ ks) (h2 : Reg.CHRON_REPEAT_CNT ∈ ks) (h3 : Reg.SHELF_POINT_NOANS_POS ∈ ks) : onlyRegs ks s
    (@State.endShelfPoint s lost) := by
  unfold State.endShelfPoint
  repeat' (first
      | (with_reducible apply onlyRegs.rfl)
      | extract_lets
      | (with_reducible assumption)
      | (with_reducible exact List.mem_cons_self)
      | (with_reducible apply List.mem_cons_of_mem)
      | (with_reducible apply onlyRegs.wr)
      | (with_reducible apply onlyRegs.keep (setShelf_within _ _) (by decide))
      | (with_reducible apply onlyRegs.on (shelfRec_regs _ _ _ _ ?_ ?_))
      | (with_reducible apply onlyRegs.keep (endUses_within _ _ _ _) (by decide)))

theorem actCheck_within (s : State) : Within
    0x7fffffffff000000000000000000000600000000000000000000000000000020 s (@State.actCheck
    s) := by
  unfold State.actCheck
  repeat' (first
      | with_reducible apply Within.ite <;> intro _
      | with_reducible apply Within.rfl
      | (with_reducible apply Within.on (m := 0x7fffffffff000000000000000000000600000000000000000000000000000020) (endUses_within _ _ _ _) (by decide)))

theorem actExpire_within (s : State) : Within
    0x7fffffffff000000000000000000000600000000000000000000000000000022 s
    (@State.actExpire s) := by
  unfold State.actExpire
  repeat' (first
      | extract_lets
      | with_reducible apply Within.ite <;> intro _
      | with_reducible apply Within.rfl
      | (with_reducible apply Within.on (m := 0x7fffffffff000000000000000000000600000000000000000000000000000022) (endUses_within _ _ _ _) (by decide))
      | (with_reducible apply Within.on (m := 0x7fffffffff000000000000000000000600000000000000000000000000000022) (wr_within _ _ _ _ _) (by decide))
      | (with_reducible apply Within.on (m := 0x7fffffffff000000000000000000000600000000000000000000000000000022) (setShelf_within _ _) (by decide)))

theorem actExpire_regs (s : State) {ks : List Field} (h1 : Reg.SHELF_ACT_STATUS_DECISION ∈ ks) :
    onlyRegs ks s (@State.actExpire s) := by
  unfold State.actExpire
  repeat' (first
      | (with_reducible apply onlyRegs.rfl)
      | extract_lets
      | (with_reducible assumption)
      | (with_reducible exact List.mem_cons_self)
      | (with_reducible apply List.mem_cons_of_mem)
      | (with_reducible apply onlyRegs.ite <;> intro _)
      | (with_reducible apply onlyRegs.keep (endUses_within _ _ _ _) (by decide))
      | (with_reducible apply onlyRegs.wr)
      | (with_reducible apply onlyRegs.keep (setShelf_within _ _) (by decide)))

theorem slotSeen_within (s : State) (pos : Nat) (epoch : Nat) : Within
    0x7fffffffff000000000000000000000000000000000000000000000000000000 s (@State.slotSeen
    s pos epoch) := by
  unfold State.slotSeen
  repeat' (first
      | extract_lets
      | with_reducible apply Within.ite <;> intro _
      | with_reducible apply Within.rfl
      | (with_reducible apply Within.on (m := 0x7fffffffff000000000000000000000000000000000000000000000000000000) (setShelf_within _ _) (by decide)))

theorem acked_within (s : State) (pos : Nat) (seq : Nat) (result : Nat) : Within
    0x7fffffffff000000000000000000000600000000000000000000000000000020 s (@State.acked s
    pos seq result) := by
  unfold State.acked
  repeat' (first
      | extract_lets
      | with_reducible apply Within.rfl
      | (with_reducible apply Within.on (m := 0x7fffffffff000000000000000000000600000000000000000000000000000020) (withOp_within _ _ _) (by decide))
      | (with_reducible apply Within.on (m := 0x7fffffffff000000000000000000000600000000000000000000000000000020) (opsCheck_within _) (by decide))
      | (with_reducible apply Within.on (m := 0x7fffffffff000000000000000000000600000000000000000000000000000020) (dropTargets_within _ _ _) (by decide))
      | fail_if_no_progress with_reducible apply Within.upd (by rw [pick_7fffffffff000000000000000000000600000000000000000000000000000020])
      | with_reducible apply Within.of_fst (by assumption)
      | with_reducible apply Within.of_fst1 (by assumption)
      | split
      | dsimp +zetaDelta only)

theorem sendConfig_within (s : State) (pos : Nat) (why : ShelfWhy) : Within
    0x7fffffffff000000000000000000000000000000000000000000000000000000 s
    (@State.sendConfig s pos why) := by
  unfold State.sendConfig
  repeat' (first
      | extract_lets
      | with_reducible apply Within.rfl
      | (with_reducible apply Within.on (m := 0x7fffffffff000000000000000000000000000000000000000000000000000000) (newCmd_within _ _ _ _ _) (by decide))
      | (with_reducible apply Within.foldl; intro t x))

theorem managerStep_within (s : State) (f : Sys2Proof.Status) : Within
    0x7fffffffff000000000000000000000000000000000000000000000000000000 s
    (@State.managerStep s f) := by
  unfold State.managerStep
  repeat' (first
      | extract_lets
      | with_reducible apply Within.ite <;> intro _
      | with_reducible apply Within.rfl
      | (with_reducible apply Within.on (m := 0x7fffffffff000000000000000000000000000000000000000000000000000000) (setShelf_within _ _) (by decide)))

theorem takeStatus_within (s : State) (f : Sys2Proof.Status) : Within
    0x7fffffffff000000000000000000000600000000000000000000000000000022 s
    (@State.takeStatus s f) := by
  unfold State.takeStatus
  repeat' (first
      | extract_lets
      | with_reducible apply Within.ite <;> intro _
      | with_reducible apply Within.rfl
      | (with_reducible apply Within.on (m := 0x7fffffffff000000000000000000000600000000000000000000000000000022) (bump_within _ _ _ _ _) (by decide))
      | (with_reducible apply Within.on (m := 0x7fffffffff000000000000000000000600000000000000000000000000000022) (setShelf_within _ _) (by decide))
      | (with_reducible apply Within.on (m := 0x7fffffffff000000000000000000000600000000000000000000000000000022) (slotSeen_within _ _ _) (by decide))
      | (with_reducible apply Within.on (m := 0x7fffffffff000000000000000000000600000000000000000000000000000022) (pointNote_within _ _ _ _) (by decide))
      | (with_reducible apply Within.on (m := 0x7fffffffff000000000000000000000600000000000000000000000000000022) (acked_within _ _ _ _) (by decide))
      | (with_reducible apply Within.on (m := 0x7fffffffff000000000000000000000600000000000000000000000000000022) (sendConfig_within _ _ _) (by decide))
      | (with_reducible apply Within.on (m := 0x7fffffffff000000000000000000000600000000000000000000000000000022) (actCheck_within _) (by decide))
      | (with_reducible apply Within.on (m := 0x7fffffffff000000000000000000000600000000000000000000000000000022) (managerStep_within _ _) (by decide)))

theorem takeStatus_regs (s : State) (f : Sys2Proof.Status) {ks : List Field} (h1 :
    Reg.SHELF_FRAME_CNT ∈ ks) (h2 : Reg.SHELF_POINT_DONE_POS ∈ ks) (h3 : Reg.SHELF_POINT_EXCL_POS ∈ ks) (h4 :
    Reg.SHELF_POINT_PARTIAL_POS ∈ ks) : onlyRegs ks s (@State.takeStatus s f) := by
  unfold State.takeStatus
  repeat' (first
      | (with_reducible apply onlyRegs.rfl)
      | extract_lets
      | (with_reducible assumption)
      | (with_reducible exact List.mem_cons_self)
      | (with_reducible apply List.mem_cons_of_mem)
      | (with_reducible apply onlyRegs.ite <;> intro _)
      | (with_reducible apply onlyRegs.on (bump_regs _ _ _ _ _ ?_))
      | (with_reducible apply onlyRegs.keep (setShelf_within _ _) (by decide))
      | (with_reducible apply onlyRegs.keep (slotSeen_within _ _ _) (by decide))
      | (with_reducible apply onlyRegs.on (pointNote_regs _ _ _ _ ?_ ?_ ?_))
      | (with_reducible apply onlyRegs.keep (acked_within _ _ _ _) (by decide))
      | (with_reducible apply onlyRegs.keep (sendConfig_within _ _ _) (by decide))
      | (with_reducible apply onlyRegs.keep (actCheck_within _) (by decide))
      | (with_reducible apply onlyRegs.keep (managerStep_within _ _) (by decide)))

theorem shelfControl_within (s : State) (p : Sys2Proof.CmdPath) (i : Sys2Proof.Instr) (f :
    State → State) {M : Nat} (hM : 0x200000000000000000000000000000020 ||| M =
    M) (hf : ∀ y, Within M y (f y)) : Within M s (@State.shelfControl s p i f) := by
  unfold State.shelfControl
  repeat' (first
      | with_reducible apply Within.ite <;> intro _
      | with_reducible apply Within.rfl
      | (with_reducible apply Within.on (m := M) (command_within _ _ _ _ _ _ (subm (a := 0x200000000000000000000000000000020) (by decide) hM) ?_) (Nat.or_self _) ?_ <;> (first | (intro y z; skip) | intro y | skip))
      | (with_reducible apply Within.on (m := M) (reply_within _ _ _ _ _) (subm (a := 0x200000000000000000000000000000020) (by decide) hM))
      | (with_reducible apply Within.on (hf _) (Nat.or_self _)))

theorem shelfControl_regs (s : State) (p : Sys2Proof.CmdPath) (i : Sys2Proof.Instr) (f :
    State → State) {ks : List Field} (hf : ∀ y, onlyRegs ks y (f y)) : onlyRegs ks s
    (@State.shelfControl s p i f) := by
  unfold State.shelfControl
  repeat' (first
      | (with_reducible apply onlyRegs.on (hf _))
      | (with_reducible apply onlyRegs.on (hf _ _))
      | (with_reducible apply onlyRegs.rfl)
      | (with_reducible assumption)
      | (with_reducible exact List.mem_cons_self)
      | (with_reducible apply List.mem_cons_of_mem)
      | (with_reducible apply onlyRegs.ite <;> intro _)
      | (with_reducible apply onlyRegs.on (command_regs _ _ _ _ _ _ ?_ ) ?_ <;> (first | (intro y z; skip) | intro y | skip))
      | (with_reducible apply onlyRegs.keep (reply_within _ _ _ _ _) (by decide)))

theorem powerUse_within (s : State) (p : Sys2Proof.CmdPath) (use : ShelfUse) (msg :
    ShelfMsg) (mask : BitVec 32) (own : State → State × Nat) {M
    : Nat} (hM : 0x7fffffffff000000000000000000000600000000000000000000000000000020 ||| M = M) (hf : ∀ y,
    Within M y (own y).1) : Within M s (@State.powerUse s p use msg mask own) := by
  unfold State.powerUse
  repeat' (first
      | extract_lets
      | with_reducible apply Within.ite <;> intro _
      | with_reducible apply Within.rfl
      | (with_reducible apply Within.on (m := M) (newOp_within _ _ _) (subm (a := 0x7fffffffff000000000000000000000600000000000000000000000000000020) (by decide) hM))
      | (with_reducible apply Within.on (m := M) (withOp_within _ _ _) (subm (a := 0x7fffffffff000000000000000000000600000000000000000000000000000020) (by decide) hM))
      | (with_reducible apply Within.on (m := M) (newCmd_within _ _ _ _ _) (subm (a := 0x7fffffffff000000000000000000000600000000000000000000000000000020) (by decide) hM))
      | (with_reducible apply Within.on (m := M) (opCheck_within _ _) (subm (a := 0x7fffffffff000000000000000000000600000000000000000000000000000020) (by decide) hM))
      | (with_reducible apply Within.foldl; intro t x)
      | fail_if_no_progress with_reducible apply Within.upd1 (m := 0x7fffffffff000000000000000000000600000000000000000000000000000020) hM (by rw [pick_7fffffffff000000000000000000000600000000000000000000000000000020])
      | (with_reducible apply Within.on (hf _) (Nat.or_self _)))

theorem powerUse_regs (s : State) (p : Sys2Proof.CmdPath) (use : ShelfUse) (msg :
    ShelfMsg) (mask : BitVec 32) (own : State → State × Nat) {ks
    : List Field} (hf : ∀ y, onlyRegs ks y (own y).1) : onlyRegs ks s (@State.powerUse s p use msg mask
    own) := by
  unfold State.powerUse
  repeat' (first
      | (with_reducible apply onlyRegs.on (hf _))
      | (with_reducible apply onlyRegs.on (hf _ _))
      | (with_reducible apply onlyRegs.rfl)
      | extract_lets
      | (with_reducible assumption)
      | (with_reducible exact List.mem_cons_self)
      | (with_reducible apply List.mem_cons_of_mem)
      | (with_reducible apply onlyRegs.ite <;> intro _)
      | (with_reducible apply onlyRegs.keep (newOp_within _ _ _) (by decide))
      | (with_reducible apply onlyRegs.keep (withOp_within _ _ _) (by decide))
      | (with_reducible apply onlyRegs.keep (newCmd_within _ _ _ _ _) (by decide))
      | (with_reducible apply onlyRegs.keep (opCheck_within _ _) (by decide))
      | (with_reducible apply onlyRegs.foldl; intro t x))

theorem pick_22 (s t : State) : State.pick 34 s t = { s with regs := t.regs, out := t.out } := rfl

theorem sendBeacon_within (s : State) : Within 34 s (@State.sendBeacon s) := by
  unfold State.sendBeacon
  repeat' (first
      | with_reducible apply Within.rfl
      | (with_reducible apply Within.on (m := 34) (emit_within _ _) (by decide))
      | (with_reducible apply Within.on (m := 34) (wr_within _ _ _ _ _) (by decide)))

theorem sendBeacon_regs (s : State) {ks : List Field} (h1 : Reg.SHELF_MEMBERS_POS ∈ ks) : onlyRegs ks
    s (@State.sendBeacon s) := by
  unfold State.sendBeacon
  repeat' (first
      | (with_reducible apply onlyRegs.rfl)
      | (with_reducible assumption)
      | (with_reducible exact List.mem_cons_self)
      | (with_reducible apply List.mem_cons_of_mem)
      | (with_reducible apply onlyRegs.keep (emit_within _ _) (by decide))
      | (with_reducible apply onlyRegs.wr))

theorem pick_7fffffffff000000000000000000000000000000000000000000000000000020 (s t : State) : State.pick 0x7fffffffff000000000000000000000000000000000000000000000000000020 s t = { s with
    out := t.out, shelf := t.shelf } := rfl

theorem sendCommands_within (s : State) : Within
    0x7fffffffff000000000000000000000000000000000000000000000000000020 s
    (@State.sendCommands s) := by
  unfold State.sendCommands
  repeat' (first
      | extract_lets
      | with_reducible apply Within.ite <;> intro _
      | with_reducible apply Within.rfl
      | (with_reducible apply Within.on (m := 0x7fffffffff000000000000000000000000000000000000000000000000000020) (emit_within _ _) (by decide))
      | (with_reducible apply Within.on (m := 0x7fffffffff000000000000000000000000000000000000000000000000000020) (setShelf_within _ _) (by decide))
      | (with_reducible apply Within.foldl; intro t x))

theorem grantSlot_within (s : State) : Within
    0x7fffffffff000000000000000000000000000000000000000000000000000000 s
    (@State.grantSlot s) := by
  unfold State.grantSlot
  repeat' (first
      | extract_lets
      | with_reducible apply Within.ite <;> intro _
      | with_reducible apply Within.rfl
      | (with_reducible apply Within.on (m := 0x7fffffffff000000000000000000000000000000000000000000000000000000) (setShelf_within _ _) (by decide))
      | (with_reducible apply Within.on (m := 0x7fffffffff000000000000000000000000000000000000000000000000000000) (takeGrant_within _ _) (by decide))
      | (with_reducible apply Within.on (m := 0x7fffffffff000000000000000000000000000000000000000000000000000000) (newCmd_within _ _ _ _ _) (by decide))
      | fail_if_no_progress with_reducible apply Within.upd (by rw [pick_7fffffffff000000000000000000000000000000000000000000000000000000])
      | with_reducible apply Within.of_fst (by assumption)
      | with_reducible apply Within.of_fst1 (by assumption)
      | split)

theorem managerEpoch_within (s : State) : Within
    0x7fffffffff000000000000000000000600000000000000000000000000000022 s
    (@State.managerEpoch s) := by
  unfold State.managerEpoch
  repeat' (first
      | extract_lets
      | with_reducible apply Within.ite <;> intro _
      | with_reducible apply Within.rfl
      | (with_reducible apply Within.on (m := 0x7fffffffff000000000000000000000600000000000000000000000000000022) (setShelf_within _ _) (by decide))
      | (with_reducible apply Within.on (m := 0x7fffffffff000000000000000000000600000000000000000000000000000022) (slotSeen_within _ _ _) (by decide))
      | (with_reducible apply Within.on (m := 0x7fffffffff000000000000000000000600000000000000000000000000000022) (actExpire_within _) (by decide))
      | (with_reducible apply Within.on (m := 0x7fffffffff000000000000000000000600000000000000000000000000000022) (pointOwn_within _) (by decide))
      | (with_reducible apply Within.on (m := 0x7fffffffff000000000000000000000600000000000000000000000000000022) (sendCommands_within _) (by decide))
      | (with_reducible apply Within.on (m := 0x7fffffffff000000000000000000000600000000000000000000000000000022) (grantSlot_within _) (by decide))
      | (with_reducible apply Within.on (m := 0x7fffffffff000000000000000000000600000000000000000000000000000022) (sendBeacon_within _) (by decide)))

theorem managerEpoch_regs (s : State) {ks : List Field} (h1 : Reg.SHELF_ACT_STATUS_DECISION ∈ ks)
    (h2 : Reg.SHELF_MEMBERS_POS ∈ ks) (h3 : Reg.SHELF_POINT_DONE_POS ∈ ks) (h4 : Reg.SHELF_POINT_EXCL_POS ∈ ks) (h5 :
    Reg.SHELF_POINT_PARTIAL_POS ∈ ks) : onlyRegs ks s (@State.managerEpoch s) := by
  unfold State.managerEpoch
  repeat' (first
      | (with_reducible apply onlyRegs.rfl)
      | extract_lets
      | (with_reducible assumption)
      | (with_reducible exact List.mem_cons_self)
      | (with_reducible apply List.mem_cons_of_mem)
      | (with_reducible apply onlyRegs.ite <;> intro _)
      | (with_reducible apply onlyRegs.keep (setShelf_within _ _) (by decide))
      | (with_reducible apply onlyRegs.keep (slotSeen_within _ _ _) (by decide))
      | (with_reducible apply onlyRegs.on (actExpire_regs _ ?_))
      | (with_reducible apply onlyRegs.on (pointOwn_regs _ ?_ ?_ ?_))
      | (with_reducible apply onlyRegs.keep (sendCommands_within _) (by decide))
      | (with_reducible apply onlyRegs.keep (grantSlot_within _) (by decide))
      | (with_reducible apply onlyRegs.on (sendBeacon_regs _ ?_)))

theorem pick_7fffffffff000000000000000000000000000000000000000000000000000022 (s t : State) : State.pick 0x7fffffffff000000000000000000000000000000000000000000000000000022 s t = { s with
    regs := t.regs, out := t.out, shelf := t.shelf } := rfl

theorem claimNow_within (s : State) : Within
    0x7fffffffff000000000000000000000000000000000000000000000000000022 s (@State.claimNow
    s) := by
  unfold State.claimNow
  repeat' (first
      | with_reducible apply Within.ite <;> intro _
      | with_reducible apply Within.rfl
      | (with_reducible apply Within.on (m := 0x7fffffffff000000000000000000000000000000000000000000000000000022) (setShelf_within _ _) (by decide))
      | (with_reducible apply Within.on (m := 0x7fffffffff000000000000000000000000000000000000000000000000000022) (sendBeacon_within _) (by decide))
      | fail_if_no_progress with_reducible apply Within.upd (by rw [pick_7fffffffff000000000000000000000000000000000000000000000000000022])
      | with_reducible apply Within.of_fst (by assumption)
      | with_reducible apply Within.of_fst1 (by assumption)
      | split)

theorem claimNow_regs (s : State) {ks : List Field} (h1 : Reg.SHELF_MEMBERS_POS ∈ ks) : onlyRegs ks s
    (@State.claimNow s) := by
  unfold State.claimNow
  repeat' (first
      | (with_reducible apply onlyRegs.rfl)
      | (with_reducible assumption)
      | (with_reducible exact List.mem_cons_self)
      | (with_reducible apply List.mem_cons_of_mem)
      | (with_reducible apply onlyRegs.ite <;> intro _)
      | (with_reducible apply onlyRegs.keep (setShelf_within _ _) (by decide))
      | (with_reducible apply onlyRegs.on (sendBeacon_regs _ ?_))
      | fail_if_no_progress with_reducible apply onlyRegs.upd
      | with_reducible apply onlyRegs.of_fst (by assumption)
      | with_reducible apply onlyRegs.of_fst1 (by assumption)
      | split)

theorem workerEpoch_within (s : State) : Within
    0x7fffffffff000000000000000000000000000000000000000000000000000022 s
    (@State.workerEpoch s) := by
  unfold State.workerEpoch
  repeat' (first
      | extract_lets
      | with_reducible apply Within.rfl
      | (with_reducible apply Within.on (m := 0x7fffffffff000000000000000000000000000000000000000000000000000022) (setShelf_within _ _) (by decide))
      | (with_reducible apply Within.on (m := 0x7fffffffff000000000000000000000000000000000000000000000000000022) (claimNow_within _) (by decide))
      | (with_reducible apply Within.on (m := 0x7fffffffff000000000000000000000000000000000000000000000000000022) (sendStatus_within _) (by decide)))

theorem workerEpoch_regs (s : State) {ks : List Field} (h1 : Reg.SHELF_MEMBERS_POS ∈ ks) : onlyRegs
    ks s (@State.workerEpoch s) := by
  unfold State.workerEpoch
  repeat' (first
      | (with_reducible apply onlyRegs.rfl)
      | extract_lets
      | (with_reducible assumption)
      | (with_reducible exact List.mem_cons_self)
      | (with_reducible apply List.mem_cons_of_mem)
      | (with_reducible apply onlyRegs.keep (setShelf_within _ _) (by decide))
      | (with_reducible apply onlyRegs.on (claimNow_regs _ ?_))
      | (with_reducible apply onlyRegs.keep (sendStatus_within _) (by decide)))

theorem roleChange_within (s : State) : Within
    0x7fffffffff00000000000000000000060000000000003cc00000000000000022 s
    (@State.roleChange s) := by
  unfold State.roleChange
  repeat' (first
      | with_reducible apply Within.ite <;> intro _
      | with_reducible apply Within.rfl
      | (with_reducible apply Within.on (m := 0x7fffffffff00000000000000000000060000000000003cc00000000000000022) (becomeManager_within _) (by decide))
      | (with_reducible apply Within.on (m := 0x7fffffffff00000000000000000000060000000000003cc00000000000000022) (conflict_within _) (by decide))
      | (with_reducible apply Within.on (m := 0x7fffffffff00000000000000000000060000000000003cc00000000000000022) (yield_within _ _) (by decide))
      | (with_reducible apply Within.on (m := 0x7fffffffff00000000000000000000060000000000003cc00000000000000022) (setShelf_within _ _) (by decide))
      | fail_if_no_progress with_reducible apply Within.upd (by rw [pick_7fffffffff00000000000000000000060000000000003cc00000000000000022])
      | with_reducible apply Within.of_fst (by assumption)
      | with_reducible apply Within.of_fst1 (by assumption)
      | split)

theorem roleChange_regs (s : State) {ks : List Field} (h1 : Reg.CHRON_DROP_CNT ∈ ks) (h2 :
    Reg.CHRON_REPEAT_CNT ∈ ks) (h3 : Reg.PWR_STATUS_SLOT_WAIT ∈ ks) (h4 : Reg.SHELF_DETUNE_EPOCH_HIGH ∈ ks) (h5 :
    Reg.SHELF_DETUNE_IMAGE_CLASS ∈ ks) (h6 : Reg.SHELF_DETUNE_POS_CONFLICT ∈ ks) (h7 : Reg.SHELF_DETUNE_TIME ∈ ks) (h8
    : Reg.SHELF_MEMBERS_POS ∈ ks) (h9 : Reg.SHELF_POINT_DONE_POS ∈ ks) (h10 : Reg.SHELF_POINT_EXCL_POS ∈ ks) (h11 :
    Reg.SHELF_POINT_NOANS_POS ∈ ks) (h12 : Reg.SHELF_POINT_PARTIAL_POS ∈ ks) (h13 : Reg.SHELF_STATUS_CONTACT ∈ ks)
    (h14 : Reg.SHELF_STATUS_MANAGER ∈ ks) (h15 : Reg.SHELF_STATUS_TIME_STATE ∈ ks) : onlyRegs ks s
    (@State.roleChange s) := by
  unfold State.roleChange
  repeat' (first
      | (with_reducible apply onlyRegs.rfl)
      | (with_reducible assumption)
      | (with_reducible exact List.mem_cons_self)
      | (with_reducible apply List.mem_cons_of_mem)
      | (with_reducible apply onlyRegs.ite <;> intro _)
      | (with_reducible apply onlyRegs.on (becomeManager_regs _ ?_ ?_ ?_ ?_ ?_ ?_ ?_ ?_))
      | (with_reducible apply onlyRegs.on (conflict_regs _ ?_ ?_ ?_ ?_ ?_ ?_ ?_ ?_ ?_ ?_ ?_ ?_ ?_))
      | (with_reducible apply onlyRegs.on (yield_regs _ _ ?_ ?_ ?_ ?_ ?_ ?_ ?_ ?_ ?_))
      | (with_reducible apply onlyRegs.keep (setShelf_within _ _) (by decide))
      | fail_if_no_progress with_reducible apply onlyRegs.upd
      | with_reducible apply onlyRegs.of_fst (by assumption)
      | with_reducible apply onlyRegs.of_fst1 (by assumption)
      | split)

theorem pick_1ffe400000000010000000000000000000000000004 (s t : State) : State.pick 0x1ffe400000000010000000000000000000000000004 s t = { s with
    stroke := t.stroke, reqs := t.reqs, ops := t.ops, sched := t.sched } := rfl

theorem renumber_within (s : State) (n : Nat) : Within
    0x1ffe400000000010000000000000000000000000004 s (@State.renumber s n) := by
  unfold State.renumber
  repeat' (first
      | extract_lets
      | with_reducible apply Within.rfl
      | fail_if_no_progress with_reducible apply Within.upd (by rw [pick_1ffe400000000010000000000000000000000000004]))

theorem pick_7fffffffff000000000001ffe40000000001000000003cc00000000000000006 (s t : State) : State.pick 0x7fffffffff000000000001ffe40000000001000000003cc00000000000000006 s t = { s with
    regs := t.regs, stroke := t.stroke,
    chron := { s.chron with
      perm := t.chron.perm, ring := t.chron.ring, buffer := t.chron.buffer, nextSerial := t.chron.nextSerial,
      runs := t.chron.runs, dropped := t.chron.dropped },
    reqs := t.reqs, ops := t.ops, sched := t.sched, shelf := t.shelf } := rfl

theorem shelfStep_within (s : State) : Within
    0x7fffffffff000000000001ffe40000000001000000003cc00000000000000006 s
    (@State.shelfStep s) := by
  unfold State.shelfStep
  repeat' (first
      | extract_lets
      | with_reducible apply Within.ite <;> intro _
      | with_reducible apply Within.rfl
      | (with_reducible apply Within.on (m := 0x7fffffffff000000000001ffe40000000001000000003cc00000000000000006) (setShelf_within _ _) (by decide))
      | (with_reducible apply Within.on (m := 0x7fffffffff000000000001ffe40000000001000000003cc00000000000000006) (renumber_within _ _) (by decide))
      | (with_reducible apply Within.on (m := 0x7fffffffff000000000001ffe40000000001000000003cc00000000000000006) (shelfRec_within _ _ _ _) (by decide))
      | (with_reducible apply Within.on (m := 0x7fffffffff000000000001ffe40000000001000000003cc00000000000000006) (bump_within _ _ _ _ _) (by decide))
      | (with_reducible apply Within.on (m := 0x7fffffffff000000000001ffe40000000001000000003cc00000000000000006) (setTime_within _ _) (by decide))
      | (with_reducible apply Within.on (m := 0x7fffffffff000000000001ffe40000000001000000003cc00000000000000006) (acceptPulse_within _) (by decide)))

theorem shelfStep_regs (s : State) {ks : List Field} (h1 : Reg.CHRON_DROP_CNT ∈ ks) (h2 :
    Reg.CHRON_REPEAT_CNT ∈ ks) (h3 : Reg.SHELF_DETUNE_TIME ∈ ks) (h4 : Reg.SHELF_STATUS_TIME_STATE ∈ ks) (h5 :
    Reg.SHELF_STEP_CNT ∈ ks) : onlyRegs ks s (@State.shelfStep s) := by
  unfold State.shelfStep
  repeat' (first
      | (with_reducible apply onlyRegs.rfl)
      | extract_lets
      | (with_reducible assumption)
      | (with_reducible exact List.mem_cons_self)
      | (with_reducible apply List.mem_cons_of_mem)
      | (with_reducible apply onlyRegs.ite <;> intro _)
      | (with_reducible apply onlyRegs.keep (setShelf_within _ _) (by decide))
      | (with_reducible apply onlyRegs.keep (renumber_within _ _) (by decide))
      | (with_reducible apply onlyRegs.on (shelfRec_regs _ _ _ _ ?_ ?_))
      | (with_reducible apply onlyRegs.on (bump_regs _ _ _ _ _ ?_))
      | (with_reducible apply onlyRegs.on (setTime_regs _ _ ?_ ?_ ?_ ?_))
      | (with_reducible apply onlyRegs.keep (acceptPulse_within _) (by decide)))

theorem pick_7fffffffff000000000001ffe40000060001000000003cc00000000000000026 (s t : State) : State.pick 0x7fffffffff000000000001ffe40000060001000000003cc00000000000000026 s t = { s with
    regs := t.regs, stroke := t.stroke, out := t.out,
    chron := { s.chron with
      perm := t.chron.perm, ring := t.chron.ring, buffer := t.chron.buffer, nextSerial := t.chron.nextSerial,
      runs := t.chron.runs, dropped := t.chron.dropped },
    reqs := t.reqs, mbox := { s.mbox with stored := t.mbox.stored, bg := t.mbox.bg }, ops := t.ops,
    sched := t.sched, shelf := t.shelf } := rfl

theorem shelfEpoch_within (s : State) : Within
    0x7fffffffff000000000001ffe40000060001000000003cc00000000000000026 s
    (@State.shelfEpoch s) := by
  unfold State.shelfEpoch
  repeat' (first
      | extract_lets
      | with_reducible apply Within.ite <;> intro _
      | with_reducible apply Within.rfl
      | (with_reducible apply Within.on (m := 0x7fffffffff000000000001ffe40000060001000000003cc00000000000000026) (setShelf_within _ _) (by decide))
      | (with_reducible apply Within.on (m := 0x7fffffffff000000000001ffe40000060001000000003cc00000000000000026) (shelfStep_within _) (by decide))
      | (with_reducible apply Within.on (m := 0x7fffffffff000000000001ffe40000060001000000003cc00000000000000026) (keepShelf_within _) (by decide))
      | (with_reducible apply Within.on (m := 0x7fffffffff000000000001ffe40000060001000000003cc00000000000000026) (roleChange_within _) (by decide))
      | (with_reducible apply Within.on (m := 0x7fffffffff000000000001ffe40000060001000000003cc00000000000000026) (managerEpoch_within _) (by decide))
      | (with_reducible apply Within.on (m := 0x7fffffffff000000000001ffe40000060001000000003cc00000000000000026) (workerEpoch_within _) (by decide)))

theorem shelfEpoch_regs (s : State) {ks : List Field} (h1 : Reg.CHRON_DROP_CNT ∈ ks) (h2 :
    Reg.CHRON_REPEAT_CNT ∈ ks) (h3 : Reg.PWR_STATUS_SLOT_WAIT ∈ ks) (h4 : Reg.SHELF_ACT_STATUS_DECISION ∈ ks) (h5 :
    Reg.SHELF_DETUNE_EPOCH_HIGH ∈ ks) (h6 : Reg.SHELF_DETUNE_IMAGE_CLASS ∈ ks) (h7 : Reg.SHELF_DETUNE_POS_CONFLICT ∈
    ks) (h8 : Reg.SHELF_DETUNE_TIME ∈ ks) (h9 : Reg.SHELF_MEMBERS_POS ∈ ks) (h10 : Reg.SHELF_POINT_DONE_POS ∈ ks) (h11
    : Reg.SHELF_POINT_EXCL_POS ∈ ks) (h12 : Reg.SHELF_POINT_NOANS_POS ∈ ks) (h13 : Reg.SHELF_POINT_PARTIAL_POS ∈ ks)
    (h14 : Reg.SHELF_STATUS_CONTACT ∈ ks) (h15 : Reg.SHELF_STATUS_MANAGER ∈ ks) (h16 : Reg.SHELF_STATUS_TIME_STATE ∈
    ks) (h17 : Reg.SHELF_STEP_CNT ∈ ks) : onlyRegs ks s (@State.shelfEpoch s) := by
  unfold State.shelfEpoch
  repeat' (first
      | (with_reducible apply onlyRegs.rfl)
      | extract_lets
      | (with_reducible assumption)
      | (with_reducible exact List.mem_cons_self)
      | (with_reducible apply List.mem_cons_of_mem)
      | (with_reducible apply onlyRegs.ite <;> intro _)
      | (with_reducible apply onlyRegs.keep (setShelf_within _ _) (by decide))
      | (with_reducible apply onlyRegs.on (shelfStep_regs _ ?_ ?_ ?_ ?_ ?_))
      | (with_reducible apply onlyRegs.keep (keepShelf_within _) (by decide))
      | (with_reducible apply onlyRegs.on (roleChange_regs _ ?_ ?_ ?_ ?_ ?_ ?_ ?_ ?_ ?_ ?_ ?_ ?_ ?_ ?_ ?_))
      | (with_reducible apply onlyRegs.on (managerEpoch_regs _ ?_ ?_ ?_ ?_ ?_))
      | (with_reducible apply onlyRegs.on (workerEpoch_regs _ ?_)))

end Sys2Proof.Machine
end

