-- ==== Sys2Proof/Laws/RegFamilyFrames.lean ====
section
/-! SUPPORT. For each function of Machine/RegFamily.lean over the state: the part of the state outside which it changes
nothing (`…_within`), and the register fields that it may write (`…_regs`). -/

namespace Sys2Proof.Machine

set_option maxRecDepth 4000

theorem writeField_within (s : State) (v : Nat) (e : Field × Nat × Nat) : Within 2
    s (@State.writeField s v e) := by
  unfold State.writeField
  repeat' (first
      | extract_lets
      | with_reducible apply Within.ite <;> intro _
      | with_reducible apply Within.rfl
      | (with_reducible apply Within.on (m := 2) (wr_within _ _ _ _ _) (by decide)))

theorem cfgReject_within (s : State) (o : Nat) : Within 2 s (@State.cfgReject s o)
    := by
  unfold State.cfgReject
  repeat' (first
      | with_reducible apply Within.rfl
      | (with_reducible apply Within.on (m := 2) (setBit_within _ _ _ _ _) (by decide))
      | with_reducible apply Within.of_fst (by assumption)
      | with_reducible apply Within.of_fst1 (by assumption)
      | split)

theorem writeBar2_within (s : State) (o : Nat) (v : Nat) : Within
    0x7fffffffff00000000000000000000060000000000003cc00000000000000022 s
    (@State.writeBar2 s o v) := by
  unfold State.writeBar2
  repeat' (first
      | extract_lets
      | with_reducible apply Within.ite <;> intro _
      | with_reducible apply Within.rfl
      | (with_reducible apply Within.on (m := 0x7fffffffff00000000000000000000060000000000003cc00000000000000022) (cfgReject_within _ _) (by decide))
      | (with_reducible apply Within.on (m := 0x7fffffffff00000000000000000000060000000000003cc00000000000000022) (writeField_within _ _ _) (by decide))
      | (with_reducible apply Within.on (m := 0x7fffffffff00000000000000000000060000000000003cc00000000000000022) (linkChanged_within _) (by decide))
      | (with_reducible apply Within.foldl; intro t x))

theorem pick_10000000003cc00000000000000002 (s t : State) : State.pick 0x10000000003cc00000000000000002 s t = { s with
    regs := t.regs,
    chron := { s.chron with
      perm := t.chron.perm, ring := t.chron.ring, buffer := t.chron.buffer, nextSerial := t.chron.nextSerial,
      runs := t.chron.runs, dropped := t.chron.dropped },
    decoders := t.decoders } := rfl

theorem writeDecoder_within (s : State) (d : Decoder) (commit : Bool) : Within
    0x10000000003cc00000000000000002 s (@State.writeDecoder s d commit) := by
  unfold State.writeDecoder
  repeat' (first
      | extract_lets
      | with_reducible apply Within.ite <;> intro _
      | with_reducible apply Within.rfl
      | (with_reducible apply Within.on (m := 0x10000000003cc00000000000000002) (interleaveCheck_within _) (by decide))
      | fail_if_no_progress with_reducible apply Within.upd (by rw [pick_10000000003cc00000000000000002]))

theorem pick_14000000000000000000000000000000000000000000000000000000000000000000040 (s t : State) : State.pick 0x14000000000000000000000000000000000000000000000000000000000000000000040 s t = { s with
    msixEn := t.msixEn, cfgSpace := t.cfgSpace, d3 := t.d3 } := rfl

theorem writeConfig_within (s : State) (port : Nat) (o : Nat) (v : Nat) : Within
    0x14000000000000000000000000000000000000000000000000000000000000000000040 s
    (@State.writeConfig s port o v) := by
  unfold State.writeConfig
  repeat' (first
      | extract_lets
      | with_reducible apply Within.ite <;> intro _
      | with_reducible apply Within.rfl
      | fail_if_no_progress with_reducible apply Within.upd (by rw [pick_14000000000000000000000000000000000000000000000000000000000000000000040]))

end Sys2Proof.Machine
end

