-- ==== Sys2Proof/Laws/TelemFamilyFrames.lean ====
section
/-! SUPPORT. For each function of Machine/TelemFamily.lean over the state: the part of the state outside which it changes
nothing (`…_within`), and the register fields that it may write (`…_regs`). -/

namespace Sys2Proof.Machine

set_option maxRecDepth 4000

theorem pick_400000000000000000000000000000000000000000000000000000000000000002 (s t : State) : State.pick 0x400000000000000000000000000000000000000000000000000000000000000002 s t = { s with
    regs := t.regs, telem := { s.telem with cfgDue := t.telem.cfgDue } } := rfl

theorem setEvt_within (s : State) (b : Nat) (i : Nat) (c : EvtCfg) : Within
    0x400000000000000000000000000000000000000000000000000000000000000002 s (@State.setEvt
    s b i c) := by
  unfold State.setEvt
  repeat' (first
      | extract_lets
      | with_reducible apply Within.rfl
      | (with_reducible apply Within.on (m := 0x400000000000000000000000000000000000000000000000000000000000000002) (setBit_within _ _ _ _ _) (by decide))
      | (with_reducible apply Within.on (m := 0x400000000000000000000000000000000000000000000000000000000000000002) (wr_within _ _ _ _ _) (by decide))
      | fail_if_no_progress with_reducible apply Within.upd (by rw [pick_400000000000000000000000000000000000000000000000000000000000000002]))

theorem setEvt_regs (s : State) (b : Nat) (i : Nat) (c : EvtCfg) {ks : List
    Field} (h1 : Reg.TELEM_EVT_CFG_EVENT ∈ ks) (h2 : Reg.TELEM_EVT_CFG_FILTER ∈ ks) (h3 : Reg.TELEM_EVT_CFG_FILTER_EN
    ∈ ks) (h4 : Reg.TELEM_EVT_CFG_MODE ∈ ks) : onlyRegs ks s (@State.setEvt s b i c) := by
  unfold State.setEvt
  repeat' (first
      | (with_reducible apply onlyRegs.rfl)
      | extract_lets
      | (with_reducible assumption)
      | (with_reducible exact List.mem_cons_self)
      | (with_reducible apply List.mem_cons_of_mem)
      | (with_reducible apply onlyRegs.on (setBit_regs _ _ _ _ _ ?_))
      | (with_reducible apply onlyRegs.wr)
      | fail_if_no_progress with_reducible apply onlyRegs.upd)

theorem telemReject_within (s : State) : Within 2 s (@State.telemReject s) := by
  unfold State.telemReject
  repeat' (first
      | with_reducible apply Within.rfl
      | (with_reducible apply Within.on (m := 2) (setBit_within _ _ _ _ _) (by decide)))

theorem telemReject_regs (s : State) {ks : List Field} (h1 : Reg.TELEM_STATUS_CFG_REJECT ∈ ks) :
    onlyRegs ks s (@State.telemReject s) := by
  unfold State.telemReject
  repeat' (first
      | (with_reducible apply onlyRegs.rfl)
      | (with_reducible assumption)
      | (with_reducible exact List.mem_cons_self)
      | (with_reducible apply List.mem_cons_of_mem)
      | (with_reducible apply onlyRegs.on (setBit_regs _ _ _ _ _ ?_)))

theorem writeEvt_within (s : State) (b : Nat) (i : Nat) (c : EvtCfg) : Within
    0x400000000000000000000000000000000000000000000000000000000000000002 s
    (@State.writeEvt s b i c).1 := by
  unfold State.writeEvt
  repeat' (first
      | with_reducible apply Within.ite1 <;> intro _
      | with_reducible apply Within.rfl
      | (with_reducible apply Within.on (m := 0x400000000000000000000000000000000000000000000000000000000000000002) (setEvt_within _ _ _ _) (by decide))
      | (with_reducible apply Within.on (m := 0x400000000000000000000000000000000000000000000000000000000000000002) (telemReject_within _) (by decide)))

theorem writeEvt_regs (s : State) (b : Nat) (i : Nat) (c : EvtCfg) {ks : List
    Field} (h1 : Reg.TELEM_EVT_CFG_EVENT ∈ ks) (h2 : Reg.TELEM_EVT_CFG_FILTER ∈ ks) (h3 : Reg.TELEM_EVT_CFG_FILTER_EN
    ∈ ks) (h4 : Reg.TELEM_EVT_CFG_MODE ∈ ks) (h5 : Reg.TELEM_STATUS_CFG_REJECT ∈ ks) : onlyRegs ks s
    (@State.writeEvt s b i c).1 := by
  unfold State.writeEvt
  repeat' (first
      | (with_reducible apply onlyRegs.rfl)
      | (with_reducible assumption)
      | (with_reducible exact List.mem_cons_self)
      | (with_reducible apply List.mem_cons_of_mem)
      | (with_reducible apply onlyRegs.ite1 <;> intro _)
      | (with_reducible apply onlyRegs.on (setEvt_regs _ _ _ _ ?_ ?_ ?_ ?_))
      | (with_reducible apply onlyRegs.on (telemReject_regs _ ?_)))

theorem pick_600000000000000000000000000000000000000000000000000000000000000000 (s t : State) : State.pick 0x600000000000000000000000000000000000000000000000000000000000000000 s t = { s with
    telem := { s.telem with cfg := t.telem.cfg, cfgDue := t.telem.cfgDue } } := rfl

theorem loadEvt_within (s : State) : Within
    0x600000000000000000000000000000000000000000000000000000000000000000 s
    (@State.loadEvt s) := by
  unfold State.loadEvt
  repeat' (first
      | extract_lets
      | with_reducible apply Within.ite <;> intro _
      | with_reducible apply Within.rfl
      | fail_if_no_progress with_reducible apply Within.upd (by rw [pick_600000000000000000000000000000000000000000000000000000000000000000]))

theorem pick_1a00000000000000000000000000000000000000000000000000000000000000000002 (s t : State) : State.pick 0x1a00000000000000000000000000000000000000000000000000000000000000000002 s t = { s with
    regs := t.regs,
    telem := { s.telem with seq := t.telem.seq, shadow := t.telem.shadow, dropped := t.telem.dropped } } := rfl

theorem takeSnap_within (s : State) : Within
    0x1a00000000000000000000000000000000000000000000000000000000000000000002 s
    (@State.takeSnap s) := by
  unfold State.takeSnap
  repeat' (first
      | with_reducible apply Within.ite <;> intro _
      | with_reducible apply Within.rfl
      | (with_reducible apply Within.on (m := 0x1a00000000000000000000000000000000000000000000000000000000000000000002) (setBit_within _ _ _ _ _) (by decide))
      | (with_reducible apply Within.on (m := 0x1a00000000000000000000000000000000000000000000000000000000000000000002) (bump_within _ _ _ _ _) (by decide))
      | fail_if_no_progress with_reducible apply Within.upd (by rw [pick_1a00000000000000000000000000000000000000000000000000000000000000000002]))

theorem takeSnap_regs (s : State) {ks : List Field} (h1 : Reg.TELEM_SNAP_DROP_CNT ∈ ks) (h2 :
    Reg.TELEM_STATUS_SNAP_DROP ∈ ks) : onlyRegs ks s (@State.takeSnap s) := by
  unfold State.takeSnap
  repeat' (first
      | (with_reducible apply onlyRegs.rfl)
      | (with_reducible assumption)
      | (with_reducible exact List.mem_cons_self)
      | (with_reducible apply List.mem_cons_of_mem)
      | (with_reducible apply onlyRegs.ite <;> intro _)
      | (with_reducible apply onlyRegs.on (setBit_regs _ _ _ _ _ ?_))
      | (with_reducible apply onlyRegs.on (bump_regs _ _ _ _ _ ?_))
      | fail_if_no_progress with_reducible apply onlyRegs.upd)

theorem pick_100000000000000000000000000000000000200000000000000000000000000000020 (s t : State) : State.pick 0x100000000000000000000000000000000000200000000000000000000000000000020 s t = { s with
    out := t.out, mbox := { s.mbox with stored := t.mbox.stored },
    telem := { s.telem with snapWait := t.telem.snapWait } } := rfl

theorem snapReplies_within (s : State) (before : Telem) : Within
    0x100000000000000000000000000000000000200000000000000000000000000000020 s
    (@State.snapReplies s before) := by
  unfold State.snapReplies
  repeat' (first
      | extract_lets
      | with_reducible apply Within.rfl
      | (with_reducible apply Within.on (m := 0x100000000000000000000000000000000000200000000000000000000000000000020) (reply_within _ _ _ _ _) (by decide))
      | (with_reducible apply Within.foldl; intro t x)
      | fail_if_no_progress with_reducible apply Within.upd (by rw [pick_100000000000000000000000000000000000200000000000000000000000000000020]))

theorem pick_6800000000000000000000000000000000000000000000000000000000000000002 (s t : State) : State.pick 0x6800000000000000000000000000000000000000000000000000000000000000002 s t = { s with
    regs := t.regs,
    telem := { s.telem with counts := t.telem.counts, bwRead := t.telem.bwRead, bwWrite := t.telem.bwWrite } } := rfl

theorem telemClear_within (s : State) : Within
    0x6800000000000000000000000000000000000000000000000000000000000000002 s
    (@State.telemClear s) := by
  unfold State.telemClear
  repeat' (first
      | extract_lets
      | with_reducible apply Within.rfl
      | (with_reducible apply Within.on (m := 0x6800000000000000000000000000000000000000000000000000000000000000002) (wr_within _ _ _ _ _) (by decide))
      | (with_reducible apply Within.foldl; intro t x)
      | fail_if_no_progress with_reducible apply Within.upd (by rw [pick_6800000000000000000000000000000000000000000000000000000000000000002]))

theorem telemClear_regs (s : State) {ks : List Field} (h1 : Reg.TELEM_BLK_OVF_OVF ∈ ks) : onlyRegs ks
    s (@State.telemClear s) := by
  unfold State.telemClear
  repeat' (first
      | (with_reducible apply onlyRegs.rfl)
      | extract_lets
      | (with_reducible assumption)
      | (with_reducible exact List.mem_cons_self)
      | (with_reducible apply List.mem_cons_of_mem)
      | (with_reducible apply onlyRegs.wr)
      | (with_reducible apply onlyRegs.foldl; intro t x)
      | fail_if_no_progress with_reducible apply onlyRegs.upd)

theorem pick_1b86e0000000000000000000000000000000020000000000000000000000000000002a (s t : State) : State.pick 0x1b86e0000000000000000000000000000000020000000000000000000000000000002a s t = { s with
    regs := t.regs, clears := t.clears, out := t.out, mbox := { s.mbox with stored := t.mbox.stored },
    telem := { s.telem with
      cfg := t.telem.cfg, cfgDue := t.telem.cfgDue, counts := t.telem.counts, bwRead := t.telem.bwRead,
      bwWrite := t.telem.bwWrite, snapAsked := t.telem.snapAsked, snapWait := t.telem.snapWait,
      seq := t.telem.seq, shadow := t.telem.shadow, dropped := t.telem.dropped } } := rfl

theorem telemBoundary_within (s : State) : Within
    0x1b86e0000000000000000000000000000000020000000000000000000000000000002a s
    (@State.telemBoundary s) := by
  unfold State.telemBoundary
  repeat' (first
      | extract_lets
      | with_reducible apply Within.ite <;> intro _
      | with_reducible apply Within.rfl
      | (with_reducible apply Within.on (m := 0x1b86e0000000000000000000000000000000020000000000000000000000000000002a) (takeSnap_within _) (by decide))
      | (with_reducible apply Within.on (m := 0x1b86e0000000000000000000000000000000020000000000000000000000000000002a) (snapReplies_within _ _) (by decide))
      | (with_reducible apply Within.on (m := 0x1b86e0000000000000000000000000000000020000000000000000000000000000002a) (loadEvt_within _) (by decide))
      | (with_reducible apply Within.on (m := 0x1b86e0000000000000000000000000000000020000000000000000000000000000002a) (telemClear_within _) (by decide))
      | (with_reducible apply Within.on (m := 0x1b86e0000000000000000000000000000000020000000000000000000000000000002a) (setBit_within _ _ _ _ _) (by decide))
      | fail_if_no_progress with_reducible apply Within.upd (by rw [pick_1b86e0000000000000000000000000000000020000000000000000000000000000002a]))

theorem telemBoundary_regs (s : State) {ks : List Field} (h1 : Reg.TELEM_BLK_OVF_OVF ∈ ks) (h2 :
    Reg.TELEM_SNAP_DROP_CNT ∈ ks) (h3 : Reg.TELEM_STATUS_FROZEN ∈ ks) (h4 : Reg.TELEM_STATUS_SNAP_DROP ∈ ks) : onlyRegs
    ks s (@State.telemBoundary s) := by
  unfold State.telemBoundary
  repeat' (first
      | (with_reducible apply onlyRegs.rfl)
      | extract_lets
      | (with_reducible assumption)
      | (with_reducible exact List.mem_cons_self)
      | (with_reducible apply List.mem_cons_of_mem)
      | (with_reducible apply onlyRegs.ite <;> intro _)
      | (with_reducible apply onlyRegs.on (takeSnap_regs _ ?_ ?_))
      | (with_reducible apply onlyRegs.keep (snapReplies_within _ _) (by decide))
      | (with_reducible apply onlyRegs.keep (loadEvt_within _) (by decide))
      | (with_reducible apply onlyRegs.on (telemClear_regs _ ?_))
      | (with_reducible apply onlyRegs.on (setBit_regs _ _ _ _ _ ?_))
      | fail_if_no_progress with_reducible apply onlyRegs.upd)

theorem pick_1800000000000000000000000000000000000000000000000000000000000000002 (s t : State) : State.pick 0x1800000000000000000000000000000000000000000000000000000000000000002 s t = { s with
    regs := t.regs, telem := { s.telem with counts := t.telem.counts, cycles := t.telem.cycles } } := rfl

theorem telemStroke_within (s : State) : Within
    0x1800000000000000000000000000000000000000000000000000000000000000002 s
    (@State.telemStroke s) := by
  unfold State.telemStroke
  repeat' (first
      | extract_lets
      | with_reducible apply Within.ite <;> intro _
      | with_reducible apply Within.rfl
      | (with_reducible apply Within.on (m := 0x1800000000000000000000000000000000000000000000000000000000000000002) (teleAdd_within _ _ _) (by decide))
      | (with_reducible apply Within.foldl; intro t x)
      | fail_if_no_progress with_reducible apply Within.upd (by rw [pick_1800000000000000000000000000000000000000000000000000000000000000002]))

theorem pick_16000000000000000000000000000000000000000000000000000000000000000000 (s t : State) : State.pick 0x16000000000000000000000000000000000000000000000000000000000000000000 s t = { s with
    telem := { s.telem with bwRead := t.telem.bwRead, bwWrite := t.telem.bwWrite, bwStart := t.telem.bwStart } } := rfl

theorem telemWindow_within (s : State) : Within
    0x16000000000000000000000000000000000000000000000000000000000000000000 s
    (@State.telemWindow s) := by
  unfold State.telemWindow
  repeat' (first
      | with_reducible apply Within.ite <;> intro _
      | with_reducible apply Within.rfl
      | fail_if_no_progress with_reducible apply Within.upd (by rw [pick_16000000000000000000000000000000000000000000000000000000000000000000]))

theorem pick_a (s t : State) : State.pick 10 s t = { s with regs := t.regs, clears := t.clears } := rfl

theorem writeTelemCtrl_within (s : State) (v : Sys2Proof.Word) : Within 10 s
    (@State.writeTelemCtrl s v) := by
  unfold State.writeTelemCtrl
  repeat' (first
      | extract_lets
      | with_reducible apply Within.ite <;> intro _
      | with_reducible apply Within.rfl
      | (with_reducible apply Within.on (m := 10) (wr_within _ _ _ _ _) (by decide))
      | (with_reducible apply Within.on (m := 10) (askClear_within _ _) (by decide)))

theorem writeTelemCtrl_regs (s : State) (v : Sys2Proof.Word) {ks : List Field} (h1 :
    Reg.TELEM_CTRL_FREEZE ∈ ks) : onlyRegs ks s (@State.writeTelemCtrl s v) := by
  unfold State.writeTelemCtrl
  repeat' (first
      | (with_reducible apply onlyRegs.rfl)
      | extract_lets
      | (with_reducible assumption)
      | (with_reducible exact List.mem_cons_self)
      | (with_reducible apply List.mem_cons_of_mem)
      | (with_reducible apply onlyRegs.ite <;> intro _)
      | (with_reducible apply onlyRegs.wr)
      | (with_reducible apply onlyRegs.keep (askClear_within _ _) (by decide)))

theorem pick_1e000000000000000000000000000000000000000000000000000000000000000002 (s t : State) : State.pick 0x1e000000000000000000000000000000000000000000000000000000000000000002 s t = { s with
    regs := t.regs,
    telem := { s.telem with
      bwRead := t.telem.bwRead, bwWrite := t.telem.bwWrite, bwK := t.telem.bwK, bwStart := t.telem.bwStart } } := rfl

theorem setK_within (s : State) (k : Nat) : Within
    0x1e000000000000000000000000000000000000000000000000000000000000000002 s (@State.setK
    s k) := by
  unfold State.setK
  repeat' (first
      | extract_lets
      | with_reducible apply Within.ite <;> intro _
      | with_reducible apply Within.rfl
      | (with_reducible apply Within.on (m := 0x1e000000000000000000000000000000000000000000000000000000000000000002) (wr_within _ _ _ _ _) (by decide))
      | fail_if_no_progress with_reducible apply Within.upd (by rw [pick_1e000000000000000000000000000000000000000000000000000000000000000002]))

theorem setK_regs (s : State) (k : Nat) {ks : List Field} (h1 : Reg.TELEM_BW_CFG_K ∈ ks) : onlyRegs
    ks s (@State.setK s k) := by
  unfold State.setK
  repeat' (first
      | (with_reducible apply onlyRegs.rfl)
      | extract_lets
      | (with_reducible assumption)
      | (with_reducible exact List.mem_cons_self)
      | (with_reducible apply List.mem_cons_of_mem)
      | (with_reducible apply onlyRegs.ite <;> intro _)
      | (with_reducible apply onlyRegs.wr)
      | fail_if_no_progress with_reducible apply onlyRegs.upd)

theorem telemReply_within (s : State) (p : Sys2Proof.CmdPath) (ok : Bool) : Within
    0x200000000000000000000000000000020 s (@State.telemReply s p ok) := by
  unfold State.telemReply
  repeat' (first
      | with_reducible apply Within.ite <;> intro _
      | with_reducible apply Within.rfl
      | (with_reducible apply Within.on (m := 0x200000000000000000000000000000020) (reply_within _ _ _ _ _) (by decide)))

end Sys2Proof.Machine
end

