-- ==== Sys2Proof/Laws/StrokeFamilyFrames.lean ====
section
/-! SUPPORT. For each function of Machine/StrokeFamily.lean over the state: the part of the state outside which it changes
nothing (`…_within`), and the register fields that it may write (`…_regs`). -/

namespace Sys2Proof.Machine

set_option maxRecDepth 4000

theorem clearSpan_within (s : State) (lo : Nat) (hi : Nat) : Within 2 s
    (@State.clearSpan s lo hi) := by
  unfold State.clearSpan
  repeat' (first
      | with_reducible apply Within.rfl
      | fail_if_no_progress with_reducible apply Within.upd (by rw [pick_2]))

theorem clearOne_within (s : State) (c : Clear) : Within 2 s
    (@State.clearOne s c) := by
  unfold State.clearOne
  repeat' (first
      | extract_lets
      | with_reducible apply Within.ite <;> intro _
      | with_reducible apply Within.rfl
      | (with_reducible apply Within.on (m := 2) (clearSpan_within _ _ _) (by decide))
      | with_reducible apply Within.of_fst (by assumption)
      | with_reducible apply Within.of_fst1 (by assumption)
      | split
      | dsimp +zetaDelta only)

theorem clearDue_within (s : State) : Within 10 s (@State.clearDue s) := by
  unfold State.clearDue
  repeat' (first
      | extract_lets
      | with_reducible apply Within.rfl
      | (with_reducible apply Within.on (m := 10) (clearOne_within _ _) (by decide))
      | (with_reducible apply Within.foldl; intro t x)
      | fail_if_no_progress with_reducible apply Within.upd (by rw [pick_a]))

theorem pick_4000000000000000000000000000000003ffff0000000000000 (s t : State) : State.pick 0x4000000000000000000000000000000003ffff0000000000000 s t = { s with
    keep := t.keep, err := { s.err with ageStrokes := t.err.ageStrokes } } := rfl

theorem countTime_within (s : State) : Within
    0x4000000000000000000000000000000003ffff0000000000000 s (@State.countTime s) := by
  unfold State.countTime
  repeat' (first
      | extract_lets
      | with_reducible apply Within.ite <;> intro _
      | with_reducible apply Within.rfl
      | fail_if_no_progress with_reducible apply Within.upd (by rw [pick_4000000000000000000000000000000003ffff0000000000000]))

theorem pick_48000000000000000000000000000000000000002 (s t : State) : State.pick 0x48000000000000000000000000000000000000002 s t = { s with
    regs := t.regs, sched := { s.sched with jobs := t.sched.jobs, capoAsk := t.sched.capoAsk } } := rfl

theorem capoLayout_within (s : State) : Within 0x48000000000000000000000000000000000000002 s
    (@State.capoLayout s) := by
  unfold State.capoLayout
  repeat' (first
      | extract_lets
      | with_reducible apply Within.rfl
      | (with_reducible apply Within.on (m := 0x48000000000000000000000000000000000000002) (wr_within _ _ _ _ _) (by decide))
      | fail_if_no_progress with_reducible apply Within.upd (by rw [pick_48000000000000000000000000000000000000002]))

theorem pick_1088000000000010000000000000000000000000002 (s t : State) : State.pick 0x1088000000000010000000000000000000000000002 s t = { s with
    regs := t.regs, reqs := t.reqs,
    sched := { s.sched with jobs := t.sched.jobs, back := t.sched.back, since := t.sched.since } } := rfl

theorem layoutBack_within (s : State) (l : Nat) : Within
    0x1088000000000010000000000000000000000000002 s (@State.layoutBack s l) := by
  unfold State.layoutBack
  repeat' (first
      | extract_lets
      | with_reducible apply Within.rfl
      | (with_reducible apply Within.on (m := 0x1088000000000010000000000000000000000000002) (wr_within _ _ _ _ _) (by decide))
      | fail_if_no_progress with_reducible apply Within.upd (by rw [pick_1088000000000010000000000000000000000000002]))

theorem pick_14c8000000000010000000000000000000000000002 (s t : State) : State.pick 0x14c8000000000010000000000000000000000000002 s t = { s with
    regs := t.regs, reqs := t.reqs,
    sched := { s.sched with
      jobs := t.sched.jobs, capoAsk := t.sched.capoAsk, back := t.sched.back, now := t.sched.now,
      since := t.sched.since } } := rfl

theorem layoutBoundary_within (s : State) : Within
    0x14c8000000000010000000000000000000000000002 s (@State.layoutBoundary s) := by
  unfold State.layoutBoundary
  repeat' (first
      | extract_lets
      | with_reducible apply Within.ite <;> intro _
      | with_reducible apply Within.rfl
      | (with_reducible apply Within.on (m := 0x14c8000000000010000000000000000000000000002) (leaveAt_within _ _) (by decide))
      | (with_reducible apply Within.on (m := 0x14c8000000000010000000000000000000000000002) (capoLayout_within _) (by decide))
      | (with_reducible apply Within.on (m := 0x14c8000000000010000000000000000000000000002) (layoutBack_within _ _) (by decide))
      | with_reducible apply Within.of_fst (by assumption)
      | with_reducible apply Within.of_fst1 (by assumption)
      | split)

theorem pick_10000000000000000000000000003cc00000000000000002 (s t : State) : State.pick 0x10000000000000000000000000003cc00000000000000002 s t = { s with
    regs := t.regs,
    chron := { s.chron with
      perm := t.chron.perm, ring := t.chron.ring, buffer := t.chron.buffer, nextSerial := t.chron.nextSerial,
      runs := t.chron.runs, dropped := t.chron.dropped },
    xlat := { s.xlat with evac := t.xlat.evac } } := rfl

theorem queueEvac_within (s : State) (c : Nat) (d : Nat) : Within
    0x10000000000000000000000000003cc00000000000000002 s (@State.queueEvac s c d) := by
  unfold State.queueEvac
  repeat' (first
      | extract_lets
      | with_reducible apply Within.ite <;> intro _
      | with_reducible apply Within.rfl
      | (with_reducible apply Within.on (m := 0x10000000000000000000000000003cc00000000000000002) (evacCounts_within _) (by decide))
      | (with_reducible apply Within.on (m := 0x10000000000000000000000000003cc00000000000000002) (chronicle_within _ _ _ _ _) (by decide))
      | fail_if_no_progress with_reducible apply Within.upd (by rw [pick_10000000000000000000000000003cc00000000000000002]))

theorem pick_40102828008c0000000020000000003cc00000000000000002 (s t : State) : State.pick 0x40102828008c0000000020000000003cc00000000000000002 s t = { s with
    regs := t.regs,
    chron := { s.chron with
      perm := t.chron.perm, ring := t.chron.ring, buffer := t.chron.buffer, nextSerial := t.chron.nextSerial,
      runs := t.chron.runs, dropped := t.chron.dropped },
    merge := { s.merge with entries := t.merge.entries }, ops := t.ops, deltas := t.deltas,
    sched := { s.sched with jobs := t.sched.jobs },
    xlat := { s.xlat with
      blocks := t.xlat.blocks, opens := t.xlat.opens, moves := t.xlat.moves, copies := t.xlat.copies,
      evac := t.xlat.evac },
    err := { s.err with rewrites := t.err.rewrites } } := rfl

theorem dieGoes_within (s : State) (c : Nat) (d : Nat) : Within
    0x40102828008c0000000020000000003cc00000000000000002 s (@State.dieGoes s c d) := by
  unfold State.dieGoes
  repeat' (first
      | extract_lets
      | with_reducible apply Within.rfl
      | (with_reducible apply Within.on (m := 0x40102828008c0000000020000000003cc00000000000000002) (wr_within _ _ _ _ _) (by decide))
      | (with_reducible apply Within.on (m := 0x40102828008c0000000020000000003cc00000000000000002) (regroup_within _ _ _) (by decide))
      | (with_reducible apply Within.on (m := 0x40102828008c0000000020000000003cc00000000000000002) (abandonAll_within _ _ _ _) (by decide))
      | (with_reducible apply Within.on (m := 0x40102828008c0000000020000000003cc00000000000000002) (seal_within _ _) (by decide))
      | (with_reducible apply Within.on (m := 0x40102828008c0000000020000000003cc00000000000000002) (poolCounts_within _) (by decide))
      | (with_reducible apply Within.on (m := 0x40102828008c0000000020000000003cc00000000000000002) (queueEvac_within _ _ _) (by decide))
      | (with_reducible apply Within.foldl; intro t x)
      | fail_if_no_progress with_reducible apply Within.upd (by rw [pick_40102828008c0000000020000000003cc00000000000000002]))

theorem pick_40102828009c0000000020000000003cc00000000000000002 (s t : State) : State.pick 0x40102828009c0000000020000000003cc00000000000000002 s t = { s with
    regs := t.regs,
    chron := { s.chron with
      perm := t.chron.perm, ring := t.chron.ring, buffer := t.chron.buffer, nextSerial := t.chron.nextSerial,
      runs := t.chron.runs, dropped := t.chron.dropped },
    merge := { s.merge with entries := t.merge.entries }, ops := t.ops, deltas := t.deltas, chans := t.chans,
    sched := { s.sched with jobs := t.sched.jobs },
    xlat := { s.xlat with
      blocks := t.xlat.blocks, opens := t.xlat.opens, moves := t.xlat.moves, copies := t.xlat.copies,
      evac := t.xlat.evac },
    err := { s.err with rewrites := t.err.rewrites } } := rfl

theorem diesGo_within (s : State) : Within
    0x40102828009c0000000020000000003cc00000000000000002 s (@State.diesGo s) := by
  unfold State.diesGo
  repeat' (first
      | extract_lets
      | with_reducible apply Within.rfl
      | (with_reducible apply Within.on (m := 0x40102828009c0000000020000000003cc00000000000000002) (setChan_within _ _ _) (by decide))
      | (with_reducible apply Within.on (m := 0x40102828009c0000000020000000003cc00000000000000002) (dieGoes_within _ _ _) (by decide))
      | (with_reducible apply Within.foldl; intro t x))

theorem emitBank_within (s : State) (b : Nat) (c : FipenCmd) : Within 32 s
    (@State.emitBank s b c) := by
  unfold State.emitBank
  repeat' (first
      | with_reducible apply Within.rfl
      | (with_reducible apply Within.on (m := 32) (emit_within _ _) (by decide)))

theorem startToggles_within (s : State) : Within 0x400000000000000000000000000000000000020 s
    (@State.startToggles s) := by
  unfold State.startToggles
  repeat' (first
      | with_reducible apply Within.rfl
      | (with_reducible apply Within.on (m := 0x400000000000000000000000000000000000020) (emitBank_within _ _ _) (by decide))
      | (with_reducible apply Within.foldl; intro t x)
      | fail_if_no_progress with_reducible apply Within.upd (by rw [pick_400000000000000000000000000000000000020]))

theorem resumeOps_within (s : State) : Within 0x400000000000000000000000000000000000020 s
    (@State.resumeOps s) := by
  unfold State.resumeOps
  repeat' (first
      | extract_lets
      | with_reducible apply Within.rfl
      | (with_reducible apply Within.on (m := 0x400000000000000000000000000000000000020) (emitBank_within _ _ _) (by decide))
      | (with_reducible apply Within.foldl; intro t x)
      | fail_if_no_progress with_reducible apply Within.upd (by rw [pick_400000000000000000000000000000000000020]))

theorem advanceMoves_within (s : State) : Within
    0x190a000000000000200000000000000000000000000002 s (@State.advanceMoves s) := by
  unfold State.advanceMoves
  repeat' (first
      | with_reducible apply Within.rfl
      | (with_reducible apply Within.on (m := 0x190a000000000000200000000000000000000000000002) (advanceMove_within _ _) (by decide))
      | (with_reducible apply Within.foldl; intro t x))

theorem setPool_within (s : State) (p : Nat) : Within 0x3cc00000000000000002 s
    (@State.setPool s p) := by
  unfold State.setPool
  repeat' (first
      | extract_lets
      | with_reducible apply Within.ite <;> intro _
      | with_reducible apply Within.rfl
      | (with_reducible apply Within.on (m := 0x3cc00000000000000002) (wr_within _ _ _ _ _) (by decide))
      | (with_reducible apply Within.on (m := 0x3cc00000000000000002) (chronicle_within _ _ _ _ _) (by decide))
      | (with_reducible apply Within.on (m := 0x3cc00000000000000002) (health_within _ _) (by decide))
      | (with_reducible apply Within.on (m := 0x3cc00000000000000002) (setBit_within _ _ _ _ _) (by decide)))

theorem pick_fffffe00000000000000000000003cc00000000000000002 (s t : State) : State.pick 0xfffffe00000000000000000000003cc00000000000000002 s t = { s with
    regs := t.regs,
    chron := { s.chron with
      perm := t.chron.perm, ring := t.chron.ring, buffer := t.chron.buffer, nextSerial := t.chron.nextSerial,
      runs := t.chron.runs, dropped := t.chron.dropped },
    xlat := t.xlat } := rfl

theorem poolBoundary_within (s : State) : Within
    0xfffffe00000000000000000000003cc00000000000000002 s (@State.poolBoundary s) := by
  unfold State.poolBoundary
  repeat' (first
      | extract_lets
      | with_reducible apply Within.ite <;> intro _
      | with_reducible apply Within.rfl
      | (with_reducible apply Within.on (m := 0xfffffe00000000000000000000003cc00000000000000002) (setPool_within _ _) (by decide))
      | (with_reducible apply Within.on (m := 0xfffffe00000000000000000000003cc00000000000000002) (poolCounts_within _) (by decide))
      | fail_if_no_progress with_reducible apply Within.upd (by rw [pick_fffffe00000000000000000000003cc00000000000000002]))

theorem newAllowances_within (s : State) (n : Nat) : Within 0x8000000000000000000000000000 s
    (@State.newAllowances s n) := by
  unfold State.newAllowances
  repeat' (first
      | with_reducible apply Within.rfl
      | (with_reducible apply Within.on (m := 0x8000000000000000000000000000) (setSess_within _ _ _) (by decide)))

theorem withdraw_within (s : State) (n : Nat) : Within 0x100008000000000000000000000000022 s
    (@State.withdraw s n) := by
  unfold State.withdraw
  repeat' (first
      | extract_lets
      | with_reducible apply Within.rfl
      | (with_reducible apply Within.on (m := 0x100008000000000000000000000000022) (respond_within _ _ _ _ _) (by decide))
      | (with_reducible apply Within.on (m := 0x100008000000000000000000000000022) (bump_within _ _ _ _ _) (by decide))
      | (with_reducible apply Within.on (m := 0x100008000000000000000000000000022) (retainLane_within _ _ _ _) (by decide))
      | (with_reducible apply Within.on (m := 0x100008000000000000000000000000022) (endHold_within _ _) (by decide))
      | (with_reducible apply Within.on (m := 0x100008000000000000000000000000022) (setSess_within _ _ _) (by decide))
      | (with_reducible apply Within.foldl; intro t x))

theorem fenceSnoop_within (s : State) (n : Nat) (line : Nat) : Within
    0x74000000008000000000000000000000000022 s (@State.fenceSnoop s n line) := by
  unfold State.fenceSnoop
  repeat' (first
      | extract_lets
      | with_reducible apply Within.ite <;> intro _
      | with_reducible apply Within.rfl
      | (with_reducible apply Within.on (m := 0x74000000008000000000000000000000000022) (startSnoop_within _ _ _ _ _ _) (by decide))
      | (with_reducible apply Within.on (m := 0x74000000008000000000000000000000000022) (setSess_within _ _ _) (by decide)))

theorem pick_74000100008000000000000000000000000022 (s t : State) : State.pick 0x74000100008000000000000000000000000022 s t = { s with
    regs := t.regs, out := t.out, sessions := t.sessions,
    merge := { s.merge with capoCredits := t.merge.capoCredits },
    cache := { s.cache with
      host := t.cache.host, snoops := t.cache.snoops, clock := t.cache.clock, biCredits := t.cache.biCredits } } := rfl

theorem fenceBoundary_within (s : State) (n : Nat) : Within
    0x74000100008000000000000000000000000022 s (@State.fenceBoundary s n) := by
  unfold State.fenceBoundary
  repeat' (first
      | extract_lets
      | with_reducible apply Within.ite <;> intro _
      | with_reducible apply Within.rfl
      | (with_reducible apply Within.on (m := 0x74000100008000000000000000000000000022) (withdraw_within _ _) (by decide))
      | (with_reducible apply Within.on (m := 0x74000100008000000000000000000000000022) (fenceSnoop_within _ _ _) (by decide))
      | (with_reducible apply Within.foldl; intro t x))

theorem holdBoundary_within (s : State) (n : Nat) : Within 0x100008000000000000000000000000022 s
    (@State.holdBoundary s n) := by
  unfold State.holdBoundary
  repeat' (first
      | extract_lets
      | with_reducible apply Within.ite <;> intro _
      | with_reducible apply Within.rfl
      | (with_reducible apply Within.on (m := 0x100008000000000000000000000000022) (endHold_within _ _) (by decide)))

theorem devLoadBoundary_within (s : State) (n : Nat) : Within 0x8000000000000000000000000000 s
    (@State.devLoadBoundary s n) := by
  unfold State.devLoadBoundary
  repeat' (first
      | extract_lets
      | with_reducible apply Within.rfl
      | (with_reducible apply Within.on (m := 0x8000000000000000000000000000) (setSess_within _ _ _) (by decide)))

theorem pick_f4004000008000000000000000000000000022 (s t : State) : State.pick 0xf4004000008000000000000000000000000022 s t = { s with
    regs := t.regs, out := t.out, sessions := t.sessions,
    cache := { s.cache with
      lines := t.cache.lines, host := t.cache.host, snoops := t.cache.snoops, clock := t.cache.clock,
      biCredits := t.cache.biCredits },
    internals := t.internals } := rfl

theorem releaseEnd_within (s : State) (n : Nat) : Within
    0xf4004000008000000000000000000000000022 s (@State.releaseEnd s n) := by
  unfold State.releaseEnd
  repeat' (first
      | extract_lets
      | with_reducible apply Within.ite <;> intro _
      | with_reducible apply Within.rfl
      | (with_reducible apply Within.on (m := 0xf4004000008000000000000000000000000022) (releaseSnoops_within _ _ _) (by decide))
      | (with_reducible apply Within.on (m := 0xf4004000008000000000000000000000000022) (sanitizeBlocks_within _ _) (by decide))
      | (with_reducible apply Within.on (m := 0xf4004000008000000000000000000000000022) (setSess_within _ _ _) (by decide)))

theorem pick_f4004100048000000000000000000000000022 (s t : State) : State.pick 0xf4004100048000000000000000000000000022 s t = { s with
    regs := t.regs, out := t.out, sessions := t.sessions, share := t.share,
    merge := { s.merge with capoCredits := t.merge.capoCredits },
    cache := { s.cache with
      lines := t.cache.lines, host := t.cache.host, snoops := t.cache.snoops, clock := t.cache.clock,
      biCredits := t.cache.biCredits },
    internals := t.internals } := rfl

theorem sessionsBoundary_within (s : State) : Within 0xf4004100048000000000000000000000000022 s
    (@State.sessionsBoundary s) := by
  unfold State.sessionsBoundary
  repeat' (first
      | extract_lets
      | with_reducible apply Within.rfl
      | (with_reducible apply Within.on (m := 0xf4004100048000000000000000000000000022) (newAllowances_within _ _) (by decide))
      | (with_reducible apply Within.on (m := 0xf4004100048000000000000000000000000022) (fenceBoundary_within _ _) (by decide))
      | (with_reducible apply Within.on (m := 0xf4004100048000000000000000000000000022) (holdBoundary_within _ _) (by decide))
      | (with_reducible apply Within.on (m := 0xf4004100048000000000000000000000000022) (releaseEnd_within _ _) (by decide))
      | (with_reducible apply Within.on (m := 0xf4004100048000000000000000000000000022) (devLoadBoundary_within _ _) (by decide))
      | (with_reducible apply Within.foldl; intro t x)
      | fail_if_no_progress with_reducible apply Within.upd (by rw [pick_f4004100048000000000000000000000000022]))

theorem settleHeld_within (s : State) (rid : Nat) (r : Req) : Within
    0x8000008000218000000000000000000000000022 s (@State.settleHeld s rid r) := by
  unfold State.settleHeld
  repeat' (first
      | with_reducible apply Within.ite <;> intro _
      | with_reducible apply Within.rfl
      | (with_reducible apply Within.on (m := 0x8000008000218000000000000000000000000022) (takeResult_within _ _) (by decide))
      | (with_reducible apply Within.on (m := 0x8000008000218000000000000000000000000022) (setReq_within _ _ _) (by decide))
      | (with_reducible apply Within.on (m := 0x8000008000218000000000000000000000000022) (mergeCounts_within _) (by decide))
      | (with_reducible apply Within.on (m := 0x8000008000218000000000000000000000000022) (dropEntry_within _ _) (by decide))
      | fail_if_no_progress with_reducible apply Within.upd (by rw [pick_8000008000218000000000000000000000000022])
      | with_reducible apply Within.of_fst (by assumption)
      | with_reducible apply Within.of_fst1 (by assumption)
      | split)

theorem settleBoundary_within (s : State) : Within 0x8000008000218000000000000000000000000022 s
    (@State.settleBoundary s) := by
  unfold State.settleBoundary
  repeat' (first
      | with_reducible apply Within.rfl
      | (with_reducible apply Within.on (m := 0x8000008000218000000000000000000000000022) (settleHeld_within _ _ _) (by decide))
      | (with_reducible apply Within.foldl; intro t x))

theorem stallCount_within (s : State) : Within 2 s (@State.stallCount s) := by
  unfold State.stallCount
  repeat' (first
      | with_reducible apply Within.ite <;> intro _
      | with_reducible apply Within.rfl
      | (with_reducible apply Within.on (m := 2) (bump_within _ _ _ _ _) (by decide)))

theorem pick_120 (s t : State) : State.pick 288 s t = { s with out := t.out, intOwed := t.intOwed } := rfl

theorem owedMessage_within (s : State) : Within 288 s (@State.owedMessage s) := by
  unfold State.owedMessage
  repeat' (first
      | extract_lets
      | with_reducible apply Within.ite <;> intro _
      | with_reducible apply Within.rfl
      | fail_if_no_progress with_reducible apply Within.upd (by rw [pick_120]))

theorem pick_2c00000000000000000000000000000000002 (s t : State) : State.pick 0x2c00000000000000000000000000000000002 s t = { s with
    regs := t.regs,
    cache := { s.cache with enabled := t.cache.enabled, cleaning := t.cache.cleaning, rcOn := t.cache.rcOn } } := rfl

theorem cachesBoundary_within (s : State) : Within 0x2c00000000000000000000000000000000002 s
    (@State.cachesBoundary s) := by
  unfold State.cachesBoundary
  repeat' (first
      | extract_lets
      | with_reducible apply Within.rfl
      | (with_reducible apply Within.on (m := 0x2c00000000000000000000000000000000002) (waysBoundary_within _ _) (by decide))
      | (with_reducible apply Within.foldl; intro t x)
      | fail_if_no_progress with_reducible apply Within.upd (by rw [pick_2c00000000000000000000000000000000002]))

theorem pick_1b96e00000000000006663ffffff4c9cf6c0c700259800007fbcfffff000000000012a (s t : State) : State.pick 0x1b96e00000000000006663ffffff4c9cf6c0c700259800007fbcfffff000000000012a s t = { s with
    regs := t.regs, clears := t.clears, out := t.out, intOwed := t.intOwed, keep := t.keep,
    chron := { s.chron with
      perm := t.chron.perm, ring := t.chron.ring, buffer := t.chron.buffer, nextSerial := t.chron.nextSerial,
      runs := t.chron.runs, dropped := t.chron.dropped },
    events := t.events, prot := { s.prot with eraseLeft := t.prot.eraseLeft, erasePath := t.prot.erasePath },
    sessions := t.sessions, reqs := t.reqs, share := t.share,
    merge := { s.merge with entries := t.merge.entries, capoCredits := t.merge.capoCredits },
    mbox := { s.mbox with stored := t.mbox.stored, bg := t.mbox.bg },
    cache := { s.cache with
      lines := t.cache.lines, fills := t.cache.fills, enabled := t.cache.enabled, cleaning := t.cache.cleaning,
      rcOn := t.cache.rcOn, host := t.cache.host, snoops := t.cache.snoops, clock := t.cache.clock,
      biCredits := t.cache.biCredits },
    internals := t.internals, ops := t.ops, deltas := t.deltas, chans := t.chans,
    sched := { s.sched with
      jobs := t.sched.jobs, capoAsk := t.sched.capoAsk, back := t.sched.back, now := t.sched.now,
      since := t.sched.since },
    xlat := t.xlat,
    err := { s.err with
      poison := t.err.poison, poisonLost := t.err.poisonLost, refresh := t.err.refresh,
      rewrites := t.err.rewrites, wake := t.err.wake, ageStrokes := t.err.ageStrokes,
      lastHealth := t.err.lastHealth, lastMedia := t.err.lastMedia },
    telem := { s.telem with
      cfg := t.telem.cfg, cfgDue := t.telem.cfgDue, counts := t.telem.counts, bwRead := t.telem.bwRead,
      bwWrite := t.telem.bwWrite, bwStart := t.telem.bwStart, snapAsked := t.telem.snapAsked,
      snapWait := t.telem.snapWait, seq := t.telem.seq, shadow := t.telem.shadow, dropped := t.telem.dropped } } := rfl

theorem coreBoundary_within (s : State) : Within
    0x1b96e00000000000006663ffffff4c9cf6c0c700259800007fbcfffff000000000012a s
    (@State.coreBoundary s) := by
  unfold State.coreBoundary
  repeat' (first
      | extract_lets
      | with_reducible apply Within.ite <;> intro _
      | with_reducible apply Within.rfl
      | (with_reducible apply Within.on (m := 0x1b96e00000000000006663ffffff4c9cf6c0c700259800007fbcfffff000000000012a) (diesGo_within _) (by decide))
      | (with_reducible apply Within.on (m := 0x1b96e00000000000006663ffffff4c9cf6c0c700259800007fbcfffff000000000012a) (layoutBoundary_within _) (by decide))
      | (with_reducible apply Within.on (m := 0x1b96e00000000000006663ffffff4c9cf6c0c700259800007fbcfffff000000000012a) (telemWindow_within _) (by decide))
      | (with_reducible apply Within.on (m := 0x1b96e00000000000006663ffffff4c9cf6c0c700259800007fbcfffff000000000012a) (countTime_within _) (by decide))
      | (with_reducible apply Within.on (m := 0x1b96e00000000000006663ffffff4c9cf6c0c700259800007fbcfffff000000000012a) (advanceMoves_within _) (by decide))
      | (with_reducible apply Within.on (m := 0x1b96e00000000000006663ffffff4c9cf6c0c700259800007fbcfffff000000000012a) (resumeOps_within _) (by decide))
      | (with_reducible apply Within.on (m := 0x1b96e00000000000006663ffffff4c9cf6c0c700259800007fbcfffff000000000012a) (startToggles_within _) (by decide))
      | (with_reducible apply Within.on (m := 0x1b96e00000000000006663ffffff4c9cf6c0c700259800007fbcfffff000000000012a) (poolBoundary_within _) (by decide))
      | (with_reducible apply Within.on (m := 0x1b96e00000000000006663ffffff4c9cf6c0c700259800007fbcfffff000000000012a) (cachesBoundary_within _) (by decide))
      | (with_reducible apply Within.on (m := 0x1b96e00000000000006663ffffff4c9cf6c0c700259800007fbcfffff000000000012a) (internalBoundary_within _) (by decide))
      | (with_reducible apply Within.on (m := 0x1b96e00000000000006663ffffff4c9cf6c0c700259800007fbcfffff000000000012a) (boundUpdate_within _) (by decide))
      | (with_reducible apply Within.on (m := 0x1b96e00000000000006663ffffff4c9cf6c0c700259800007fbcfffff000000000012a) (healthUpdate_within _) (by decide))
      | (with_reducible apply Within.on (m := 0x1b96e00000000000006663ffffff4c9cf6c0c700259800007fbcfffff000000000012a) (settleBoundary_within _) (by decide))
      | (with_reducible apply Within.on (m := 0x1b96e00000000000006663ffffff4c9cf6c0c700259800007fbcfffff000000000012a) (sessionsBoundary_within _) (by decide))
      | (with_reducible apply Within.on (m := 0x1b96e00000000000006663ffffff4c9cf6c0c700259800007fbcfffff000000000012a) (owedMessage_within _) (by decide))
      | (with_reducible apply Within.on (m := 0x1b96e00000000000006663ffffff4c9cf6c0c700259800007fbcfffff000000000012a) (telemBoundary_within _) (by decide)))

theorem chansEpoch_within (s : State) : Within 0x1000000000000000000000000000000000000000 s
    (@State.chansEpoch s) := by
  unfold State.chansEpoch
  repeat' (first
      | with_reducible apply Within.ite <;> intro _
      | with_reducible apply Within.rfl
      | (with_reducible apply Within.on (m := 0x1000000000000000000000000000000000000000) (setChan_within _ _ _) (by decide))
      | (with_reducible apply Within.foldl; intro t x))

theorem leak_within (s : State) : Within 2 s (@State.leak s) := by
  unfold State.leak
  repeat' (first
      | with_reducible apply Within.rfl
      | (with_reducible apply Within.on (m := 2) (wr_within _ _ _ _ _) (by decide))
      | (with_reducible apply Within.foldl; intro t x))

theorem leak_regs (s : State) {ks : List Field} (h1 : Reg.ERR_BUCKET_STATUS_LEVEL ∈ ks) : onlyRegs ks
    s (@State.leak s) := by
  unfold State.leak
  repeat' (first
      | (with_reducible apply onlyRegs.rfl)
      | (with_reducible assumption)
      | (with_reducible exact List.mem_cons_self)
      | (with_reducible apply List.mem_cons_of_mem)
      | (with_reducible apply onlyRegs.wr)
      | (with_reducible apply onlyRegs.foldl; intro t x))

theorem lwSweep_within (s : State) : Within 0x2000000000000000000000000000000000000000000 s
    (@State.lwSweep s) := by
  unfold State.lwSweep
  repeat' (first
      | extract_lets
      | with_reducible apply Within.rfl
      | fail_if_no_progress with_reducible apply Within.upd (by rw [pick_2000000000000000000000000000000000000000000]))

theorem timeSweep_within (s : State) : Within 0x200000000000000000000000000000 s
    (@State.timeSweep s) := by
  unfold State.timeSweep
  repeat' (first
      | extract_lets
      | with_reducible apply Within.rfl
      | fail_if_no_progress with_reducible apply Within.upd (by rw [pick_200000000000000000000000000000]))

theorem cellSweep_within (s : State) : Within 0x400000000000000000000000000000 s
    (@State.cellSweep s) := by
  unfold State.cellSweep
  repeat' (first
      | extract_lets
      | with_reducible apply Within.rfl
      | fail_if_no_progress with_reducible apply Within.upd (by rw [pick_400000000000000000000000000000]))

theorem wearCheck_within (s : State) : Within 0x1002000000000000000000000000000000000000000002
    s (@State.wearCheck s) := by
  unfold State.wearCheck
  repeat' (first
      | extract_lets
      | with_reducible apply Within.rfl
      | (with_reducible apply Within.on (m := 0x1002000000000000000000000000000000000000000002) (queueMove_within _ _) (by decide))
      | (with_reducible apply Within.foldl; intro t x)
      | fail_if_no_progress with_reducible apply Within.upd (by rw [pick_1002000000000000000000000000000000000000000002]))

theorem wearCheck_regs (s : State) {ks : List Field} (h1 : Reg.XLAT_COLD_COUNT_BLOCKS ∈ ks) (h2 :
    Reg.XLAT_HOT_COUNT_BLOCKS ∈ ks) (h3 : Reg.XLAT_LIFTED_PAGES ∈ ks) (h4 : Reg.XLAT_MOVES_ACTIVE ∈ ks) (h5 :
    Reg.XLAT_MOVES_QUEUED ∈ ks) (h6 : Reg.XLAT_POOL_STATUS_FREE ∈ ks) : onlyRegs ks s
    (@State.wearCheck s) := by
  unfold State.wearCheck
  repeat' (first
      | (with_reducible apply onlyRegs.rfl)
      | extract_lets
      | (with_reducible assumption)
      | (with_reducible exact List.mem_cons_self)
      | (with_reducible apply List.mem_cons_of_mem)
      | (with_reducible apply onlyRegs.on (queueMove_regs _ _ ?_ ?_ ?_ ?_ ?_ ?_))
      | (with_reducible apply onlyRegs.foldl; intro t x)
      | fail_if_no_progress with_reducible apply onlyRegs.upd)

theorem pick_1b86e0000000000000000080100200100000020060000000600000000000000000002a (s t : State) : State.pick 0x1b86e0000000000000000080100200100000020060000000600000000000000000002a s t = { s with
    regs := t.regs, clears := t.clears, out := t.out,
    events := { s.events with orphanSeen := t.events.orphanSeen, paritySeen := t.events.paritySeen },
    merge := { s.merge with entries := t.merge.entries, cells := t.merge.cells },
    mbox := { s.mbox with stored := t.mbox.stored }, chans := t.chans,
    xlat := { s.xlat with tracts := t.xlat.tracts, moveQ := t.xlat.moveQ, heatEpochs := t.xlat.heatEpochs },
    telem := { s.telem with
      cfg := t.telem.cfg, cfgDue := t.telem.cfgDue, counts := t.telem.counts, bwRead := t.telem.bwRead,
      bwWrite := t.telem.bwWrite, snapAsked := t.telem.snapAsked, snapWait := t.telem.snapWait,
      seq := t.telem.seq, shadow := t.telem.shadow, dropped := t.telem.dropped } } := rfl

theorem coreEpoch_within (s : State) : Within
    0x1b86e0000000000000000080100200100000020060000000600000000000000000002a s
    (@State.coreEpoch s) := by
  unfold State.coreEpoch
  repeat' (first
      | extract_lets
      | with_reducible apply Within.rfl
      | (with_reducible apply Within.on (m := 0x1b86e0000000000000000080100200100000020060000000600000000000000000002a) (timeSweep_within _) (by decide))
      | (with_reducible apply Within.on (m := 0x1b86e0000000000000000080100200100000020060000000600000000000000000002a) (lwSweep_within _) (by decide))
      | (with_reducible apply Within.on (m := 0x1b86e0000000000000000080100200100000020060000000600000000000000000002a) (leak_within _) (by decide))
      | (with_reducible apply Within.on (m := 0x1b86e0000000000000000080100200100000020060000000600000000000000000002a) (chansEpoch_within _) (by decide))
      | (with_reducible apply Within.on (m := 0x1b86e0000000000000000080100200100000020060000000600000000000000000002a) (wearCheck_within _) (by decide))
      | (with_reducible apply Within.on (m := 0x1b86e0000000000000000080100200100000020060000000600000000000000000002a) (cellSweep_within _) (by decide))
      | (with_reducible apply Within.on (m := 0x1b86e0000000000000000080100200100000020060000000600000000000000000002a) (telemBoundary_within _) (by decide))
      | (with_reducible apply Within.on (m := 0x1b86e0000000000000000080100200100000020060000000600000000000000000002a) (reassertHealth_within _) (by decide))
      | fail_if_no_progress with_reducible apply Within.upd (by rw [pick_1b86e0000000000000000080100200100000020060000000600000000000000000002a]))

theorem coreEpoch_regs (s : State) {ks : List Field} (h1 : Reg.ERR_BUCKET_STATUS_LEVEL ∈ ks) (h2 :
    Reg.ERR_HEALTH_EVENT_DIE_FAIL ∈ ks) (h3 : Reg.ERR_HEALTH_EVENT_LIFE ∈ ks) (h4 : Reg.ERR_HEALTH_EVENT_POISON_FULL ∈
    ks) (h5 : Reg.ERR_HEALTH_EVENT_POOL ∈ ks) (h6 : Reg.ERR_HEALTH_EVENT_TEMP ∈ ks) (h7 : Reg.TELEM_BLK_OVF_OVF ∈ ks)
    (h8 : Reg.TELEM_SNAP_DROP_CNT ∈ ks) (h9 : Reg.TELEM_STATUS_FROZEN ∈ ks) (h10 : Reg.TELEM_STATUS_SNAP_DROP ∈ ks)
    (h11 : Reg.XLAT_COLD_COUNT_BLOCKS ∈ ks) (h12 : Reg.XLAT_HOT_COUNT_BLOCKS ∈ ks) (h13 : Reg.XLAT_LIFTED_PAGES ∈ ks)
    (h14 : Reg.XLAT_MOVES_ACTIVE ∈ ks) (h15 : Reg.XLAT_MOVES_QUEUED ∈ ks) (h16 : Reg.XLAT_POOL_STATUS_FREE ∈ ks) :
    onlyRegs ks s (@State.coreEpoch s) := by
  unfold State.coreEpoch
  repeat' (first
      | (with_reducible apply onlyRegs.rfl)
      | extract_lets
      | (with_reducible assumption)
      | (with_reducible exact List.mem_cons_self)
      | (with_reducible apply List.mem_cons_of_mem)
      | (with_reducible apply onlyRegs.keep (timeSweep_within _) (by decide))
      | (with_reducible apply onlyRegs.keep (lwSweep_within _) (by decide))
      | (with_reducible apply onlyRegs.on (leak_regs _ ?_))
      | (with_reducible apply onlyRegs.keep (chansEpoch_within _) (by decide))
      | (with_reducible apply onlyRegs.on (wearCheck_regs _ ?_ ?_ ?_ ?_ ?_ ?_))
      | (with_reducible apply onlyRegs.keep (cellSweep_within _) (by decide))
      | (with_reducible apply onlyRegs.on (telemBoundary_regs _ ?_ ?_ ?_ ?_))
      | (with_reducible apply onlyRegs.on (reassertHealth_regs _ ?_ ?_ ?_ ?_ ?_))
      | fail_if_no_progress with_reducible apply onlyRegs.upd)

end Sys2Proof.Machine
end

