-- ==== Sys2Proof/Laws/Medium.lean ====
section
/-! SUPPORT. The medium: what each of its operations stores, which pages it leaves, and that the table of pages stays in
canonical form. -/

namespace Sys2Proof.Machine

/-- A change outside the medium leaves every page. -/
theorem Within.pages {m : Nat} {s t : State} (h : Within m s t) (e : m.testBit 153 = false) : t.pages = s.pages := by
  have := congrArg State.pages h
  simpa only [State.pick, e, cond_false] using this

@[simp] theorem wear_pages (s : State) (b n : Nat) : (s.wear b n).pages = s.pages := (wear_within s b n).pages (by decide)

@[simp] theorem teleAppend_pages (s : State) (l : List Nat) : (s.teleAppend l).pages = s.pages :=
  (teleAppend_within s l).pages (by decide)

/-! ### Which pages an operation stores to -/

theorem setMline_find (s : State) (mp ln : Nat) (l : MLine) (k : Nat) (h : k ≠ mp) :
    (s.setMline mp ln l).pages.find k = s.pages.find k := by
  unfold State.setMline; split
  · exact Tab.find_put_ne _ _ _ _ h
  · rfl

theorem setLine_line (p : MPage) (ln k : Nat) (l : MLine) (h : k ≠ ln) : (p.setLine ln l).line k = p.line k :=
  Tab.get_set_ne _ _ _ _ _ h

@[simp] theorem setLine_line_self (p : MPage) (ln : Nat) (l : MLine) : (p.setLine ln l).line ln = l :=
  Tab.get_set_self _ _ _ _

/-- A line program changes no other line of the medium. -/
theorem setMline_mline (s : State) (mp ln : Nat) (l : MLine) (k j : Nat) (h : ¬(k = mp ∧ j = ln)) :
    (s.setMline mp ln l).mline k j = s.mline k j := by
  by_cases hk : k = mp
  · subst hk
    have hj : j ≠ ln := fun e => h ⟨rfl, e⟩
    cases hp : s.pages.find k with
    | none => simp [State.setMline, hp]
    | some p => simp [State.setMline, State.mline, hp, setLine_line p ln j l hj]
  · unfold State.mline; rw [setMline_find s mp ln l k hk]

/-- A programmed line reads as what was programmed. -/
theorem setMline_mline_self (s : State) (mp ln : Nat) (l : MLine) (h : (s.pages.find mp).isSome) :
    (s.setMline mp ln l).mline mp ln = some l := by
  obtain ⟨p, hp⟩ := Option.isSome_iff_exists.mp h
  simp [State.setMline, State.mline, hp]

theorem setParity_find (s : State) (mp ln : Nat) (l : Lin) (k : Nat) (h : k ≠ mp) :
    (s.setParity mp ln l).pages.find k = s.pages.find k := by
  unfold State.setParity; rw [wear_pages]; exact setMline_find _ _ _ _ _ h

theorem setParity_mline (s : State) (mp ln : Nat) (l : Lin) (k j : Nat) (h : ¬(k = mp ∧ j = ln)) :
    (s.setParity mp ln l).mline k j = s.mline k j := by
  have e := setMline_mline s mp ln { lin := l, age := s.ageNow } k j h
  unfold State.setParity State.mline at *; rw [wear_pages]; exact e

theorem closeStripe_find (s : State) (sbn st k : Nat) (h : k ≠ mpOf sbn st (parityPos sbn st)) :
    (s.closeStripe sbn st).pages.find k = s.pages.find k := by
  unfold State.closeStripe; extract_lets ps par; split
  · rfl
  · rw [teleAppend_pages, wear_pages]; exact Tab.find_put_ne _ _ _ _ h

/-- A page program stores to its page and, with the last page of a stripe, to the stripe's parity page. -/
theorem programPage_find (s : State) (mp : Nat) (p : MPage) (k : Nat) (h : k ≠ mp) (hp : k ≠ mpParity mp) :
    (s.programPage mp p).pages.find k = s.pages.find k := by
  unfold State.programPage; rw [closeStripe_find _ _ _ _ hp, teleAppend_pages, wear_pages]
  exact Tab.find_put_ne _ _ _ _ h

theorem rewriteHome_find (s : State) (home : Nat) (p : MPage) (k : Nat) (h : k ≠ home) (hp : k ≠ mpParity home) :
    (s.rewriteHome home p).pages.find k = s.pages.find k := by
  have e : (s.pages.put home p).find k = s.pages.find k := Tab.find_put_ne _ _ _ _ h
  unfold State.rewriteHome; extract_lets old s1 s2; rw [wear_pages]
  unfold s2; split
  · split
    · exact e
    · exact (Tab.find_put_ne _ _ _ _ hp).trans e
  · exact e

/-- A stripe program stores to the eight pages of its stripe. -/
theorem programStripe_find (s : State) (sbn st : Nat) (ps : List MPage) (f : List Nat) (k : Nat)
    (h : ∀ p < 8, k ≠ mpOf sbn st p) : (s.programStripe sbn st ps f).pages.find k = s.pages.find k := by
  have key : ∀ (l : List (MPage × Nat)) (t : Tab MPage),
      (l.foldl (fun t e => t.put (mpOf sbn st (dataPos sbn st e.2)) e.1) t).find k = t.find k := by
    intro l
    induction l with
    | nil => intro t; rfl
    | cons e l ih =>
      intro t
      rw [List.foldl_cons, ih]
      exact Tab.find_put_ne _ _ _ _ (h _ (Nat.mod_lt _ (by decide)))
  unfold State.programStripe; extract_lets par q r; rw [teleAppend_pages, wear_pages]
  show Tab.find r k = _
  unfold r; split
  · exact key _ _
  · exact (Tab.find_put_ne _ _ _ _ (h _ (Nat.mod_lt _ (by decide)))).trans (key _ _)

/-- Precondition leaves every page of another block. -/
theorem eraseBlock_find (s : State) (sbn k : Nat) :
    (s.eraseBlock sbn).pages.find k = if mpSbn k = sbn then none else s.pages.find k := by
  have := Tab.find_keep (fun mp => mpSbn mp != sbn) s.pages k
  unfold State.eraseBlock; refine this.trans ?_
  by_cases h : mpSbn k = sbn <;> simp [h]

/-! ### The canonical form (every operation of the medium keeps it) -/

theorem setMline_sorted (s : State) (mp ln : Nat) (l : MLine) (h : s.pages.sorted = true) :
    (s.setMline mp ln l).pages.sorted = true := by
  unfold State.setMline; split
  · exact Tab.sorted_put _ _ _ h
  · exact h

theorem setParity_sorted (s : State) (mp ln : Nat) (l : Lin) (h : s.pages.sorted = true) :
    (s.setParity mp ln l).pages.sorted = true := by
  unfold State.setParity; rw [wear_pages]; exact setMline_sorted _ _ _ _ h

theorem closeStripe_sorted (s : State) (sbn st : Nat) (h : s.pages.sorted = true) :
    (s.closeStripe sbn st).pages.sorted = true := by
  unfold State.closeStripe; extract_lets ps par; split
  · exact h
  · rw [teleAppend_pages, wear_pages]; exact Tab.sorted_put _ _ _ h

theorem programPage_sorted (s : State) (mp : Nat) (p : MPage) (h : s.pages.sorted = true) :
    (s.programPage mp p).pages.sorted = true := by
  unfold State.programPage; apply closeStripe_sorted; rw [teleAppend_pages, wear_pages]; exact Tab.sorted_put _ _ _ h

theorem programStripe_sorted (s : State) (sbn st : Nat) (ps : List MPage) (f : List Nat) (h : s.pages.sorted = true) :
    (s.programStripe sbn st ps f).pages.sorted = true := by
  have key : ∀ (l : List (MPage × Nat)) (t : Tab MPage), t.sorted = true →
      (l.foldl (fun t e => t.put (mpOf sbn st (dataPos sbn st e.2)) e.1) t).sorted = true := by
    intro l
    induction l with
    | nil => intro t ht; exact ht
    | cons e l ih => intro t ht; exact ih _ (Tab.sorted_put _ _ _ ht)
  unfold State.programStripe; extract_lets par q r; rw [teleAppend_pages, wear_pages]
  show Tab.sorted r = true
  unfold r; split
  · exact key _ _ h
  · exact Tab.sorted_put _ _ _ (key _ _ h)

theorem eraseBlock_sorted (s : State) (sbn : Nat) (h : s.pages.sorted = true) :
    (s.eraseBlock sbn).pages.sorted = true := Tab.sorted_keep (fun mp _ => mpSbn mp != sbn) s.pages h

theorem rewriteHome_sorted (s : State) (home : Nat) (p : MPage) (h : s.pages.sorted = true) :
    (s.rewriteHome home p).pages.sorted = true := by
  have e : (s.pages.put home p).sorted = true := Tab.sorted_put _ _ _ h
  unfold State.rewriteHome; extract_lets old s1 s2; rw [wear_pages]
  unfold s2; split
  · split
    · exact e
    · exact Tab.sorted_put _ _ _ e
  · exact e

theorem tagged_sorted (s : State) (b : Nat) (o : BankOp) (h : s.pages.sorted = true) :
    (s.tagged b o).pages.sorted = true := by
  unfold State.tagged; extract_lets s1; split
  · exact Tab.sorted_put _ _ _ h
  · exact h

theorem refreshed_pages (s : State) (b : Nat) (o : BankOp) : (s.refreshed b o).pages = match s.pages.find o.mp with
    | some p => s.pages.put o.mp { p with age := s.ageNow, lines := p.lines.mapVals (fun _ l => { l with age := s.ageNow }) }
    | none => s.pages := by
  unfold State.refreshed; extract_lets s1 s2 s3 s4 o'
  have e : s4.pages = s1.pages := by
    unfold s4; rw [wear_pages, (bump_within _ _ _ _ _).pages (by decide), (tele_within _ _ _ _ _).pages (by decide)]
  refine e.trans ?_
  unfold s1; cases s.pages.find o.mp <;> rfl

theorem refreshed_sorted (s : State) (b : Nat) (o : BankOp) (h : s.pages.sorted = true) :
    (s.refreshed b o).pages.sorted = true := by
  rw [refreshed_pages]; split
  · exact Tab.sorted_put _ _ _ h
  · exact h

/-- The medium of the machine right after reset is in canonical form. -/
theorem reset_memoryWf : State.reset.memoryWf = true := rfl

end Sys2Proof.Machine
end

