-- ==== Sys2Proof/Laws/PerInstr.lean ====
section
/-! SUPPORT. Statements made of every command as syntax. `CommandPort`: a well-formed command that comes on a port, or on a
command path of a port, names one of the four ports (Figure 1-1). -/

namespace Sys2Proof.Laws.CommandPort

set_option Elab.async false

/-- The port that a command comes on, if it comes on one. -/
def portOf : Instr → Option Nat
  | .memRd x => some x.port
  | .memRdData x => some x.port
  | .memInv x => some x.port
  | .memInvNt x => some x.port
  | .memClnEvct x => some x.port
  | .memSpecRd x _ => some x.port
  | .memWr x _ _ => some x.port
  | .memWrPtl x _ _ _ => some x.port
  | .biConflict x => some x.port
  | .biRsp x _ _ _ _ => some x
  | .ideIntegrityFailure x _ => some x
  | .linkDown x _ => some x
  | .perstNAssert x _ => some x
  | .perstNDeassert x => some x
  | .linkUp x _ _ _ _ => some x
  | .sessionCreate x _ _ => some x.port
  | .sessionModify x _ _ => some x.port
  | .sessionFence x _ => some x.port
  | .sessionGet x _ => some x.port
  | .persistAt x _ => some x.port
  | .gpfPhase1 x => some x
  | .gpfPhase2 x => some x
  | .scrubRange x _ _ => some x.port
  | .motion x _ => some x.port
  | .second x _ => some x.port
  | .motionStatus x _ => some x.port
  | .ideKeyProg x _ _ _ _ => some x
  | .ideKSetGo x _ _ _ => some x
  | .ideKSetStop x _ _ _ => some x
  | .spdmGetMeasurements x _ => some x
  | .identify x => some x.port
  | .requestAbortBackgroundOperation x => some x.port
  | .getEventRecords x _ => some x.port
  | .clearEventRecords x _ _ _ => some x.port
  | .getEventInterruptPolicy x => some x.port
  | .setEventInterruptPolicy x _ => some x.port
  | .getFwInfo x => some x.port
  | .transferFwFull x => some x.port
  | .transferFwInitiate x _ _ _ _ => some x.port
  | .transferFwContinue x _ _ _ _ => some x.port
  | .transferFwEnd x _ _ _ _ => some x.port
  | .transferFwAbort x => some x.port
  | .activateFwOnline x _ => some x.port
  | .activateFwNextColdReset x _ _ => some x.port
  | .activateAt x _ => some x.port
  | .getTimestamp x => some x.port
  | .setTimestamp x _ => some x.port
  | .getSupportedLogs x => some x.port
  | .getLog x => some x.port
  | .identifyMemoryDevice x => some x.port
  | .getPartitionInfo x => some x.port
  | .unsupportedCommand x _ => some x.port
  | .getHealthInfo x => some x.port
  | .getAlertConfiguration x => some x.port
  | .setAlertConfiguration x _ => some x.port
  | .getShutdownState x => some x.port
  | .setShutdownState x _ => some x.port
  | .getPoisonList x _ _ => some x.port
  | .injectPoison x _ => some x.port
  | .clearPoison x _ _ => some x.port
  | .getScanMediaCapabilities x _ _ => some x.port
  | .scanMedia x _ _ => some x.port
  | .getScanMediaResults x => some x.port
  | .sanitize x => some x.port
  | .secureErase x => some x.port
  | .getDynamicCapacityConfiguration x => some x.port
  | .getDynamicCapacityExtentList x => some x.port
  | .addDynamicCapacityResponse x _ => some x.port
  | .releaseDynamicCapacity x _ => some x.port
  | .setDcRegionConfiguration x _ _ _ _ => some x.port
  | .getDcRegionConfiguration x => some x.port
  | .initiateDynamicCapacityAdd x _ _ _ => some x.port
  | .initiateDynamicCapacityRelease x _ _ => some x.port
  | .deviceReset x => some x.port
  | .kekRead x => some x.port
  | .keepRead x _ => some x.port
  | .chronicleRead x _ _ _ => some x.port
  | .releaseRange x _ _ => some x.port
  | .shelfStatus x => some x.port
  | .setRecords x _ => some x.port
  | .shelfPowerOff x _ _ => some x.port
  | .shelfPowerOn x _ => some x.port
  | .shelfPersist x _ => some x.port
  | .shelfActivate x _ _ => some x.port
  | .shelfRelease x _ => some x.port
  | .telemetryStatus x => some x.port
  | .telemetryPeriod x _ => some x.port
  | .telemetrySnapshot x => some x.port
  | .telemetryClear x => some x.port
  | .telemetryFreeze x _ => some x.port
  | .telemetryWindow x _ => some x.port
  | .telemetrySelect x _ => some x.port
  | .portCfgWrite x _ => some x
  | .portCntClr x _ => some x
  | .bisnpCreditReturn x _ _ => some x
  | .spdmSecureSession x _ => some x.port
  | _ => none

/-- A well-formed command names an existing port. -/
def Statement (i : Instr) : Prop := i.wf = true → ∀ p, portOf i = some p → p < 4

theorem auxApply (a0 : Samples) (a1 : BitVec 5) (a2 : BitVec 5) (a3 : BitVec 5) (a4 : Bool) (a5 : FlashReport) :
    Statement (.auxApply a0 a1 a2 a3 a4 a5) := fun _ _ h => nomatch h

theorem auxRemove : Statement .auxRemove := fun _ _ h => nomatch h

theorem pwrfailNQualify (a0 : List Bool) : Statement (.pwrfailNQualify a0) := fun _ _ h => nomatch h

theorem pwrfailNGlitch (a0 : List Bool) : Statement (.pwrfailNGlitch a0) := fun _ _ h => nomatch h

theorem pwrfailNHigh100ms (a0 : Samples) : Statement (.pwrfailNHigh100ms a0) := fun _ _ h => nomatch h

theorem powerUpPackage (a0 : Samples) (a1 : PmicReport) : Statement (.powerUpPackage a0 a1) := fun _ _ h => nomatch h

theorem railTurnOn (a0 : RailPoll) : Statement (.railTurnOn a0) := fun _ _ h => nomatch h

theorem rampPoll (a0 : RailPoll) (a1 : Samples) : Statement (.rampPoll a0 a1) := fun _ _ h => nomatch h

theorem railRampLimit : Statement .railRampLimit := fun _ _ h => nomatch h

theorem powerUpMedia : Statement .powerUpMedia := fun _ _ h => nomatch h

theorem servicePoll (a0 : List RailPoll) : Statement (.servicePoll a0) := fun _ _ h => nomatch h

theorem decayPoll (a0 : List RailPoll) : Statement (.decayPoll a0) := fun _ _ h => nomatch h

theorem decayLimitExpiry (a0 : Bool) : Statement (.decayLimitExpiry a0) := fun _ _ h => nomatch h

theorem offHoldExpiry (a0 : Samples) : Statement (.offHoldExpiry a0) := fun _ _ h => nomatch h

theorem thermtrip (a0 : Nat) : Statement (.thermtrip a0) := fun _ _ h => nomatch h

theorem capoFlushComplete (a0 : Nat) : Statement (.capoFlushComplete a0) := fun _ _ h => nomatch h

theorem capoSaveComplete (a0 : Bool) (a1 : Nat) : Statement (.capoSaveComplete a0 a1) := fun _ _ h => nomatch h

theorem warmResumption : Statement .warmResumption := fun _ _ h => nomatch h

theorem strokeBoundary : Statement .strokeBoundary := fun _ _ h => nomatch h

theorem planLock : Statement .planLock := fun _ _ h => nomatch h

theorem syncEpochBoundary : Statement .syncEpochBoundary := fun _ _ h => nomatch h

theorem programResume (a0 : BankId) : Statement (.programResume a0) := fun _ _ h => nomatch h

theorem readReachScheduler (a0 : Nat) (a1 : Nat) (a2 : Bool) :
    Statement (.readReachScheduler a0 a1 a2) := fun _ _ h => nomatch h

theorem schedCntClr (a0 : Word) : Statement (.schedCntClr a0) := fun _ _ h => nomatch h

theorem schedStrokeLoRead : Statement .schedStrokeLoRead := fun _ _ h => nomatch h

theorem memRd (a0 : M2S) : Statement (.memRd a0) := by
  intro h p e; cases e; simp only [Instr.wf, M2S.wf, portLink, Bool.and_eq_true, decide_eq_true_eq] at h; omega

theorem memRdData (a0 : M2S) : Statement (.memRdData a0) := by
  intro h p e; cases e; simp only [Instr.wf, M2S.wf, portLink, Bool.and_eq_true, decide_eq_true_eq] at h; omega

theorem memInv (a0 : M2S) : Statement (.memInv a0) := by
  intro h p e; cases e; simp only [Instr.wf, M2S.wf, portLink, Bool.and_eq_true, decide_eq_true_eq] at h; omega

theorem memInvNt (a0 : M2S) : Statement (.memInvNt a0) := by
  intro h p e; cases e; simp only [Instr.wf, M2S.wf, portLink, Bool.and_eq_true, decide_eq_true_eq] at h; omega

theorem memClnEvct (a0 : M2S) : Statement (.memClnEvct a0) := by
  intro h p e; cases e; simp only [Instr.wf, M2S.wf, portLink, Bool.and_eq_true, decide_eq_true_eq] at h; omega

theorem memSpecRd (a0 : M2S) (a1 : Bool) : Statement (.memSpecRd a0 a1) := by
  intro h p e; cases e; simp only [Instr.wf, M2S.wf, portLink, Bool.and_eq_true, decide_eq_true_eq] at h; omega

theorem memWr (a0 : M2S) (a1 : LineData) (a2 : Bool) : Statement (.memWr a0 a1 a2) := by
  intro h p e; cases e; simp only [Instr.wf, M2S.wf, portLink, Bool.and_eq_true, decide_eq_true_eq] at h; omega

theorem memWrPtl (a0 : M2S) (a1 : LineData) (a2 : Mask) (a3 : Bool) : Statement (.memWrPtl a0 a1 a2 a3) := by
  intro h p e; cases e; simp only [Instr.wf, M2S.wf, portLink, Bool.and_eq_true, decide_eq_true_eq] at h; omega

theorem biConflict (a0 : M2S) : Statement (.biConflict a0) := by
  intro h p e; cases e; simp only [Instr.wf, M2S.wf, portLink, Bool.and_eq_true, decide_eq_true_eq] at h; omega

theorem biRsp (a0 : Nat) (a1 : Nat) (a2 : Nat) (a3 : Nat) (a4 : BiAnswer) : Statement (.biRsp a0 a1 a2 a3 a4) := by
  intro h p e; cases e; simp only [Instr.wf, portLink, Bool.and_eq_true, decide_eq_true_eq] at h; omega

theorem ideIntegrityFailure (a0 : Nat) (a1 : Nat) : Statement (.ideIntegrityFailure a0 a1) := by
  intro h p e; cases e; simp only [Instr.wf, portLink, Bool.and_eq_true, decide_eq_true_eq] at h; omega

theorem linkDown (a0 : Nat) (a1 : Nat) : Statement (.linkDown a0 a1) := by
  intro h p e; cases e; simp only [Instr.wf, portLink, Bool.and_eq_true, decide_eq_true_eq] at h; omega

theorem perstNAssert (a0 : Nat) (a1 : Nat) : Statement (.perstNAssert a0 a1) := by
  intro h p e; cases e; simp only [Instr.wf, decide_eq_true_eq] at h; omega

theorem perstNDeassert (a0 : Nat) : Statement (.perstNDeassert a0) := by
  intro h p e; cases e; simp only [Instr.wf, decide_eq_true_eq] at h; omega

theorem linkUp (a0 : Nat) (a1 : Nat) (a2 : Nat) (a3 : Nat) (a4 : Nat) : Statement (.linkUp a0 a1 a2 a3 a4) := by
  intro h p e; cases e; simp only [Instr.wf, portLink, Bool.and_eq_true, decide_eq_true_eq] at h; omega

theorem allowanceCheck (a0 : Nat) (a1 : Lane) (a2 : BitVec 4) (a3 : HbmErr) (a4 : Bool) :
    Statement (.allowanceCheck a0 a1 a2 a3 a4) := fun _ _ h => nomatch h

theorem sessionCreate (a0 : CmdPath) (a1 : Nat) (a2 : SessWords) : Statement (.sessionCreate a0 a1 a2) := by
  intro h p e; cases e; simp only [Instr.wf, CmdPath.wf, Bool.and_eq_true, decide_eq_true_eq] at h; omega

theorem sessionModify (a0 : CmdPath) (a1 : Nat) (a2 : SessModify) : Statement (.sessionModify a0 a1 a2) := by
  intro h p e; cases e; simp only [Instr.wf, CmdPath.wf, Bool.and_eq_true, decide_eq_true_eq] at h; omega

theorem sessionFence (a0 : CmdPath) (a1 : Nat) : Statement (.sessionFence a0 a1) := by
  intro h p e; cases e; simp only [Instr.wf, CmdPath.wf, Bool.and_eq_true, decide_eq_true_eq] at h; omega

theorem sessionGet (a0 : CmdPath) (a1 : Nat) : Statement (.sessionGet a0 a1) := by
  intro h p e; cases e; simp only [Instr.wf, CmdPath.wf, Bool.and_eq_true, decide_eq_true_eq] at h; omega

theorem fenceDrainEnd (a0 : Nat) : Statement (.fenceDrainEnd a0) := fun _ _ h => nomatch h

theorem fenceBiTimeout (a0 : Nat) (a1 : Nat) : Statement (.fenceBiTimeout a0 a1) := fun _ _ h => nomatch h

theorem spillRefill (a0 : Nat) (a1 : Lane) (a2 : HbmErr) : Statement (.spillRefill a0 a1 a2) := fun _ _ h => nomatch h

theorem fipenAlert (a0 : Nat) : Statement (.fipenAlert a0) := fun _ _ h => nomatch h

theorem readStatusResponse (a0 : Nat) (a1 : StatusLine) :
    Statement (.readStatusResponse a0 a1) := fun _ _ h => nomatch h

theorem readStatusNoResponse (a0 : Nat) : Statement (.readStatusNoResponse a0) := fun _ _ h => nomatch h

theorem fipenTrainingStepLimit (a0 : Nat) (a1 : Nat) :
    Statement (.fipenTrainingStepLimit a0 a1) := fun _ _ h => nomatch h

theorem fipenTrainingComplete (a0 : List TrainResult) :
    Statement (.fipenTrainingComplete a0) := fun _ _ h => nomatch h

theorem fastRetrainComplete (a0 : Nat) (a1 : Bool) : Statement (.fastRetrainComplete a0 a1) := fun _ _ h => nomatch h

theorem mediaReadComplete (a0 : Nat) (a1 : Nat) (a2 : MediaErr) (a3 : IntegCheck) (a4 : Bool) :
    Statement (.mediaReadComplete a0 a1 a2 a3 a4) := fun _ _ h => nomatch h

theorem reconstructionComplete (a0 : Nat) (a1 : Nat) (a2 : MediaErr) (a3 : IntegCheck) :
    Statement (.reconstructionComplete a0 a1 a2 a3) := fun _ _ h => nomatch h

theorem programComplete (a0 : BankId) : Statement (.programComplete a0) := fun _ _ h => nomatch h

theorem exchangeOldLineReturn (a0 : BankId) (a1 : MediaErr) :
    Statement (.exchangeOldLineReturn a0 a1) := fun _ _ h => nomatch h

theorem toggleComplete (a0 : BankId) : Statement (.toggleComplete a0) := fun _ _ h => nomatch h

theorem ageEpochAdvance : Statement .ageEpochAdvance := fun _ _ h => nomatch h

theorem evacuationBlockDone (a0 : Nat) : Statement (.evacuationBlockDone a0) := fun _ _ h => nomatch h

theorem loadTableComplete (a0 : Bool) : Statement (.loadTableComplete a0) := fun _ _ h => nomatch h

theorem chanCntClr (a0 : Nat) (a1 : Word) : Statement (.chanCntClr a0 a1) := fun _ _ h => nomatch h

theorem moveStripeCommit (a0 : Nat) : Statement (.moveStripeCommit a0) := fun _ _ h => nomatch h

theorem liftVerify (a0 : Nat) : Statement (.liftVerify a0) := fun _ _ h => nomatch h

theorem heatHalving : Statement .heatHalving := fun _ _ h => nomatch h

theorem settleBackWalk (a0 : Nat) : Statement (.settleBackWalk a0) := fun _ _ h => nomatch h

theorem settleBackCommit (a0 : Nat) : Statement (.settleBackCommit a0) := fun _ _ h => nomatch h

theorem reclaim (a0 : Nat) : Statement (.reclaim a0) := fun _ _ h => nomatch h

theorem reclaimCopyCommit (a0 : Nat) : Statement (.reclaimCopyCommit a0) := fun _ _ h => nomatch h

theorem preconditionComplete (a0 : Nat) (a1 : BitVec 8) :
    Statement (.preconditionComplete a0 a1) := fun _ _ h => nomatch h

theorem poolFillTimeout (a0 : Nat) (a1 : Bool) : Statement (.poolFillTimeout a0 a1) := fun _ _ h => nomatch h

theorem blockRecordCheckpoint : Statement .blockRecordCheckpoint := fun _ _ h => nomatch h

theorem rebuildStart : Statement .rebuildStart := fun _ _ h => nomatch h

theorem rebuildComplete (a0 : Nat) : Statement (.rebuildComplete a0) := fun _ _ h => nomatch h

theorem xlatMapIdxWrite (a0 : Word) : Statement (.xlatMapIdxWrite a0) := fun _ _ h => nomatch h

theorem xlatSeqLoRead : Statement .xlatSeqLoRead := fun _ _ h => nomatch h

theorem xlatCntClr (a0 : Word) : Statement (.xlatCntClr a0) := fun _ _ h => nomatch h

theorem mergeComplete (a0 : Nat) : Statement (.mergeComplete a0) := fun _ _ h => nomatch h

theorem fillReturn (a0 : Nat) (a1 : MediaErr) (a2 : MediaErr) (a3 : MediaErr) (a4 : IntegCheck) :
    Statement (.fillReturn a0 a1 a2 a3 a4) := fun _ _ h => nomatch h

theorem mergeCfgWrite (a0 : Word) : Statement (.mergeCfgWrite a0) := fun _ _ h => nomatch h

theorem persistAt (a0 : CmdPath) (a1 : Nat) : Statement (.persistAt a0 a1) := by
  intro h p e; cases e; simp only [Instr.wf, CmdPath.wf, Bool.and_eq_true, decide_eq_true_eq] at h; omega

theorem persistencePointComplete (a0 : Nat) : Statement (.persistencePointComplete a0) := fun _ _ h => nomatch h

theorem gpfPhase1 (a0 : Nat) : Statement (.gpfPhase1 a0) := by
  intro h p e; cases e; simp only [Instr.wf, decide_eq_true_eq] at h; omega

theorem gpfPhase2 (a0 : Nat) : Statement (.gpfPhase2 a0) := by
  intro h p e; cases e; simp only [Instr.wf, decide_eq_true_eq] at h; omega

theorem mergeCntClr (a0 : Word) : Statement (.mergeCntClr a0) := fun _ _ h => nomatch h

theorem mergePointLoRead : Statement .mergePointLoRead := fun _ _ h => nomatch h

theorem sliceFillInstall (a0 : Nat) (a1 : Nat) : Statement (.sliceFillInstall a0 a1) := fun _ _ h => nomatch h

theorem cacheWayCfgWrite (a0 : Nat) (a1 : Word) : Statement (.cacheWayCfgWrite a0 a1) := fun _ _ h => nomatch h

theorem wayGroupCleaningEnd (a0 : Nat) (a1 : Nat) : Statement (.wayGroupCleaningEnd a0 a1) := fun _ _ h => nomatch h

theorem cacheRcCfgWrite (a0 : Word) : Statement (.cacheRcCfgWrite a0) := fun _ _ h => nomatch h

theorem readCacheProbeReturn (a0 : Nat) (a1 : HbmErr) :
    Statement (.readCacheProbeReturn a0 a1) := fun _ _ h => nomatch h

theorem snoopTimeout (a0 : Nat) (a1 : Nat) : Statement (.snoopTimeout a0 a1) := fun _ _ h => nomatch h

theorem backInvalidateWalkEnd : Statement .backInvalidateWalkEnd := fun _ _ h => nomatch h

theorem cacheCntClr (a0 : Nat) (a1 : Word) : Statement (.cacheCntClr a0 a1) := fun _ _ h => nomatch h

theorem cacheRcCntClr (a0 : Word) : Statement (.cacheRcCntClr a0) := fun _ _ h => nomatch h

theorem dirCntClr (a0 : Word) : Statement (.dirCntClr a0) := fun _ _ h => nomatch h

theorem hbmFillComplete (a0 : Nat) : Statement (.hbmFillComplete a0) := fun _ _ h => nomatch h

theorem patrolVisit (a0 : List LineErr) : Statement (.patrolVisit a0) := fun _ _ h => nomatch h

theorem patrolPassLate : Statement .patrolPassLate := fun _ _ h => nomatch h

theorem freeBlockReprecondition (a0 : Nat) : Statement (.freeBlockReprecondition a0) := fun _ _ h => nomatch h

theorem errPatrolCfgWrite (a0 : Word) : Statement (.errPatrolCfgWrite a0) := fun _ _ h => nomatch h

theorem errCntClr (a0 : Word) : Statement (.errCntClr a0) := fun _ _ h => nomatch h

theorem errLastUncorrLoRead : Statement .errLastUncorrLoRead := fun _ _ h => nomatch h

theorem scrubRange (a0 : CmdPath) (a1 : Nat) (a2 : Nat) : Statement (.scrubRange a0 a1 a2) := by
  intro h p e; cases e; simp only [Instr.wf, CmdPath.wf, Bool.and_eq_true, decide_eq_true_eq] at h; omega

theorem scrubRangeComplete (a0 : ScrubEnd) (a1 : Nat) (a2 : List (Nat × LineErr)) :
    Statement (.scrubRangeComplete a0 a1 a2) := fun _ _ h => nomatch h

theorem motion (a0 : CmdPath) (a1 : Motion) : Statement (.motion a0 a1) := by
  intro h p e; cases e; simp only [Instr.wf, CmdPath.wf, Bool.and_eq_true, decide_eq_true_eq] at h; omega

theorem second (a0 : CmdPath) (a1 : Second) : Statement (.second a0 a1) := by
  intro h p e; cases e; simp only [Instr.wf, CmdPath.wf, Bool.and_eq_true, decide_eq_true_eq] at h; omega

theorem motionStatus (a0 : CmdPath) (a1 : Motion) : Statement (.motionStatus a0 a1) := by
  intro h p e; cases e; simp only [Instr.wf, CmdPath.wf, Bool.and_eq_true, decide_eq_true_eq] at h; omega

theorem motionLapse (a0 : Motion) : Statement (.motionLapse a0) := fun _ _ h => nomatch h

theorem motionApply : Statement .motionApply := fun _ _ h => nomatch h

theorem rekeyPassEnd : Statement .rekeyPassEnd := fun _ _ h => nomatch h

theorem eraseAuthExpiry : Statement .eraseAuthExpiry := fun _ _ h => nomatch h

theorem keySlotReunseal (a0 : Nat) (a1 : Bool) : Statement (.keySlotReunseal a0 a1) := fun _ _ h => nomatch h

theorem integrityRootVerifyComplete (a0 : List Nat) :
    Statement (.integrityRootVerifyComplete a0) := fun _ _ h => nomatch h

theorem ideKeyProg (a0 : Nat) (a1 : Nat) (a2 : IdeDir) (a3 : Nat) (a4 : KeyName) :
    Statement (.ideKeyProg a0 a1 a2 a3 a4) := by
  intro h p e; cases e; simp only [Instr.wf, portLink, Bool.and_eq_true, decide_eq_true_eq] at h; omega

theorem ideKSetGo (a0 : Nat) (a1 : Nat) (a2 : IdeDir) (a3 : Nat) : Statement (.ideKSetGo a0 a1 a2 a3) := by
  intro h p e; cases e; simp only [Instr.wf, portLink, Bool.and_eq_true, decide_eq_true_eq] at h; omega

theorem ideKSetStop (a0 : Nat) (a1 : Nat) (a2 : IdeDir) (a3 : Nat) : Statement (.ideKSetStop a0 a1 a2 a3) := by
  intro h p e; cases e; simp only [Instr.wf, portLink, Bool.and_eq_true, decide_eq_true_eq] at h; omega

theorem spdmGetMeasurements (a0 : Nat) (a1 : Nat) : Statement (.spdmGetMeasurements a0 a1) := by
  intro h p e; cases e; simp only [Instr.wf, decide_eq_true_eq] at h; omega

theorem protCntClr (a0 : Word) : Statement (.protCntClr a0) := fun _ _ h => nomatch h

theorem imageVerifyComplete (a0 : ImageReport) (a1 : ImageReport) :
    Statement (.imageVerifyComplete a0 a1) := fun _ _ h => nomatch h

theorem mediaReady : Statement .mediaReady := fun _ _ h => nomatch h

theorem wakePatrolEnd : Statement .wakePatrolEnd := fun _ _ h => nomatch h

theorem stagingCopyComplete (a0 : Bool) : Statement (.stagingCopyComplete a0) := fun _ _ h => nomatch h

theorem warmResetFlushDone : Statement .warmResetFlushDone := fun _ _ h => nomatch h

theorem warmResetComplete : Statement .warmResetComplete := fun _ _ h => nomatch h

theorem keepSlotProgrammed (a0 : Bool) : Statement (.keepSlotProgrammed a0) := fun _ _ h => nomatch h

theorem keepSectorEraseComplete (a0 : Bool) : Statement (.keepSectorEraseComplete a0) := fun _ _ h => nomatch h

theorem spreadCounterIncrement (a0 : Nat) : Statement (.spreadCounterIncrement a0) := fun _ _ h => nomatch h

theorem chronicleRecordProgrammed (a0 : Bool) : Statement (.chronicleRecordProgrammed a0) := fun _ _ h => nomatch h

theorem chronicleSectorEraseComplete (a0 : Bool) :
    Statement (.chronicleSectorEraseComplete a0) := fun _ _ h => nomatch h

theorem chronicleRunClose (a0 : Nat) (a1 : Nat) : Statement (.chronicleRunClose a0 a1) := fun _ _ h => nomatch h

theorem keepPageIdxWrite (a0 : Word) : Statement (.keepPageIdxWrite a0) := fun _ _ h => nomatch h

theorem keepCntClr (a0 : Word) : Statement (.keepCntClr a0) := fun _ _ h => nomatch h

theorem chronCntClr (a0 : Word) : Statement (.chronCntClr a0) := fun _ _ h => nomatch h

theorem pwrCntClr (a0 : Word) : Statement (.pwrCntClr a0) := fun _ _ h => nomatch h

theorem beacon (a0 : Beacon) : Statement (.beacon a0) := fun _ _ h => nomatch h

theorem statusFrame (a0 : Status) : Statement (.statusFrame a0) := fun _ _ h => nomatch h

theorem contactLoss : Statement .contactLoss := fun _ _ h => nomatch h

theorem memberDropout (a0 : Nat) : Statement (.memberDropout a0) := fun _ _ h => nomatch h

theorem managerListenEnd : Statement .managerListenEnd := fun _ _ h => nomatch h

theorem shlSyncPulse (a0 : Int) (a1 : Bool) (a2 : Nat) : Statement (.shlSyncPulse a0 a1 a2) := fun _ _ h => nomatch h

theorem timeLockLoss : Statement .timeLockLoss := fun _ _ h => nomatch h

theorem config (a0 : Frame) (a1 : BitVec 64) (a2 : Nat) : Statement (.config a0 a1 a2) := fun _ _ h => nomatch h

theorem ilvRecord (a0 : Frame) (a1 : BitVec 64) (a2 : Nat) (a3 : IlvRecord) :
    Statement (.ilvRecord a0 a1 a2 a3) := fun _ _ h => nomatch h

theorem slotGrant (a0 : Frame) (a1 : Nat) : Statement (.slotGrant a0 a1) := fun _ _ h => nomatch h

theorem powerOff (a0 : Frame) (a1 : Nat) : Statement (.powerOff a0 a1) := fun _ _ h => nomatch h

theorem powerOffStroke : Statement .powerOffStroke := fun _ _ h => nomatch h

theorem powerOn (a0 : Frame) : Statement (.powerOn a0) := fun _ _ h => nomatch h

theorem persist (a0 : Frame) (a1 : Nat) : Statement (.persist a0 a1) := fun _ _ h => nomatch h

theorem actPrepare (a0 : Frame) (a1 : Nat) (a2 : ImageReport) :
    Statement (.actPrepare a0 a1 a2) := fun _ _ h => nomatch h

theorem release (a0 : Frame) : Statement (.release a0) := fun _ _ h => nomatch h

theorem commandResend (a0 : Nat) : Statement (.commandResend a0) := fun _ _ h => nomatch h

theorem shelfCntClr (a0 : Word) : Statement (.shelfCntClr a0) := fun _ _ h => nomatch h

theorem identify (a0 : CmdPath) : Statement (.identify a0) := by
  intro h p e; cases e; simp only [Instr.wf, CmdPath.wf, Bool.and_eq_true, decide_eq_true_eq] at h; omega

theorem requestAbortBackgroundOperation (a0 : CmdPath) : Statement (.requestAbortBackgroundOperation a0) := by
  intro h p e; cases e; simp only [Instr.wf, CmdPath.wf, Bool.and_eq_true, decide_eq_true_eq] at h; omega

theorem getEventRecords (a0 : CmdPath) (a1 : Nat) : Statement (.getEventRecords a0 a1) := by
  intro h p e; cases e; simp only [Instr.wf, CmdPath.wf, Bool.and_eq_true, decide_eq_true_eq] at h; omega

theorem clearEventRecords (a0 : CmdPath) (a1 : Nat) (a2 : Bool) (a3 : List Nat) :
    Statement (.clearEventRecords a0 a1 a2 a3) := by
  intro h p e; cases e; simp only [Instr.wf, CmdPath.wf, Bool.and_eq_true, decide_eq_true_eq] at h; omega

theorem getEventInterruptPolicy (a0 : CmdPath) : Statement (.getEventInterruptPolicy a0) := by
  intro h p e; cases e; simp only [Instr.wf, CmdPath.wf, Bool.and_eq_true, decide_eq_true_eq] at h; omega

theorem setEventInterruptPolicy (a0 : CmdPath) (a1 : List Nat) : Statement (.setEventInterruptPolicy a0 a1) := by
  intro h p e; cases e; simp only [Instr.wf, CmdPath.wf, Bool.and_eq_true, decide_eq_true_eq] at h; omega

theorem getFwInfo (a0 : CmdPath) : Statement (.getFwInfo a0) := by
  intro h p e; cases e; simp only [Instr.wf, CmdPath.wf, Bool.and_eq_true, decide_eq_true_eq] at h; omega

theorem transferFwFull (a0 : CmdPath) : Statement (.transferFwFull a0) := by
  intro h p e; cases e; simp only [Instr.wf, CmdPath.wf, Bool.and_eq_true, decide_eq_true_eq] at h; omega

theorem transferFwInitiate (a0 : CmdPath) (a1 : Nat) (a2 : Nat) (a3 : List Nat) (a4 : ImageReport) :
    Statement (.transferFwInitiate a0 a1 a2 a3 a4) := by
  intro h p e; cases e; simp only [Instr.wf, CmdPath.wf, Bool.and_eq_true, decide_eq_true_eq] at h; omega

theorem transferFwContinue (a0 : CmdPath) (a1 : Nat) (a2 : Nat) (a3 : List Nat) (a4 : ImageReport) :
    Statement (.transferFwContinue a0 a1 a2 a3 a4) := by
  intro h p e; cases e; simp only [Instr.wf, CmdPath.wf, Bool.and_eq_true, decide_eq_true_eq] at h; omega

theorem transferFwEnd (a0 : CmdPath) (a1 : Nat) (a2 : Nat) (a3 : List Nat) (a4 : ImageReport) :
    Statement (.transferFwEnd a0 a1 a2 a3 a4) := by
  intro h p e; cases e; simp only [Instr.wf, CmdPath.wf, Bool.and_eq_true, decide_eq_true_eq] at h; omega

theorem transferFwAbort (a0 : CmdPath) : Statement (.transferFwAbort a0) := by
  intro h p e; cases e; simp only [Instr.wf, CmdPath.wf, Bool.and_eq_true, decide_eq_true_eq] at h; omega

theorem activateFwOnline (a0 : CmdPath) (a1 : Nat) : Statement (.activateFwOnline a0 a1) := by
  intro h p e; cases e; simp only [Instr.wf, CmdPath.wf, Bool.and_eq_true, decide_eq_true_eq] at h; omega

theorem activateFwNextColdReset (a0 : CmdPath) (a1 : Nat) (a2 : ImageReport) :
    Statement (.activateFwNextColdReset a0 a1 a2) := by
  intro h p e; cases e; simp only [Instr.wf, CmdPath.wf, Bool.and_eq_true, decide_eq_true_eq] at h; omega

theorem activateAt (a0 : CmdPath) (a1 : Nat) : Statement (.activateAt a0 a1) := by
  intro h p e; cases e; simp only [Instr.wf, CmdPath.wf, Bool.and_eq_true, decide_eq_true_eq] at h; omega

theorem activationTakeEffect : Statement .activationTakeEffect := fun _ _ h => nomatch h

theorem oldBankRelease : Statement .oldBankRelease := fun _ _ h => nomatch h

theorem getTimestamp (a0 : CmdPath) : Statement (.getTimestamp a0) := by
  intro h p e; cases e; simp only [Instr.wf, CmdPath.wf, Bool.and_eq_true, decide_eq_true_eq] at h; omega

theorem setTimestamp (a0 : CmdPath) (a1 : Nat) : Statement (.setTimestamp a0 a1) := by
  intro h p e; cases e; simp only [Instr.wf, CmdPath.wf, Bool.and_eq_true, decide_eq_true_eq] at h; omega

theorem getSupportedLogs (a0 : CmdPath) : Statement (.getSupportedLogs a0) := by
  intro h p e; cases e; simp only [Instr.wf, CmdPath.wf, Bool.and_eq_true, decide_eq_true_eq] at h; omega

theorem getLog (a0 : CmdPath) : Statement (.getLog a0) := by
  intro h p e; cases e; simp only [Instr.wf, CmdPath.wf, Bool.and_eq_true, decide_eq_true_eq] at h; omega

theorem identifyMemoryDevice (a0 : CmdPath) : Statement (.identifyMemoryDevice a0) := by
  intro h p e; cases e; simp only [Instr.wf, CmdPath.wf, Bool.and_eq_true, decide_eq_true_eq] at h; omega

theorem getPartitionInfo (a0 : CmdPath) : Statement (.getPartitionInfo a0) := by
  intro h p e; cases e; simp only [Instr.wf, CmdPath.wf, Bool.and_eq_true, decide_eq_true_eq] at h; omega

theorem unsupportedCommand (a0 : CmdPath) (a1 : Nat) : Statement (.unsupportedCommand a0 a1) := by
  intro h p e; cases e; simp only [Instr.wf, CmdPath.wf, Bool.and_eq_true, decide_eq_true_eq] at h; omega

theorem getHealthInfo (a0 : CmdPath) : Statement (.getHealthInfo a0) := by
  intro h p e; cases e; simp only [Instr.wf, CmdPath.wf, Bool.and_eq_true, decide_eq_true_eq] at h; omega

theorem getAlertConfiguration (a0 : CmdPath) : Statement (.getAlertConfiguration a0) := by
  intro h p e; cases e; simp only [Instr.wf, CmdPath.wf, Bool.and_eq_true, decide_eq_true_eq] at h; omega

theorem setAlertConfiguration (a0 : CmdPath) (a1 : AlertCfg) : Statement (.setAlertConfiguration a0 a1) := by
  intro h p e; cases e; simp only [Instr.wf, CmdPath.wf, Bool.and_eq_true, decide_eq_true_eq] at h; omega

theorem getShutdownState (a0 : CmdPath) : Statement (.getShutdownState a0) := by
  intro h p e; cases e; simp only [Instr.wf, CmdPath.wf, Bool.and_eq_true, decide_eq_true_eq] at h; omega

theorem setShutdownState (a0 : CmdPath) (a1 : Nat) : Statement (.setShutdownState a0 a1) := by
  intro h p e; cases e; simp only [Instr.wf, CmdPath.wf, Bool.and_eq_true, decide_eq_true_eq] at h; omega

theorem getPoisonList (a0 : CmdPath) (a1 : Nat) (a2 : Nat) : Statement (.getPoisonList a0 a1 a2) := by
  intro h p e; cases e; simp only [Instr.wf, CmdPath.wf, Bool.and_eq_true, decide_eq_true_eq] at h; omega

theorem injectPoison (a0 : CmdPath) (a1 : Nat) : Statement (.injectPoison a0 a1) := by
  intro h p e; cases e; simp only [Instr.wf, CmdPath.wf, Bool.and_eq_true, decide_eq_true_eq] at h; omega

theorem clearPoison (a0 : CmdPath) (a1 : Nat) (a2 : LineData) : Statement (.clearPoison a0 a1 a2) := by
  intro h p e; cases e; simp only [Instr.wf, CmdPath.wf, Bool.and_eq_true, decide_eq_true_eq] at h; omega

theorem getScanMediaCapabilities (a0 : CmdPath) (a1 : Nat) (a2 : Nat) :
    Statement (.getScanMediaCapabilities a0 a1 a2) := by
  intro h p e; cases e; simp only [Instr.wf, CmdPath.wf, Bool.and_eq_true, decide_eq_true_eq] at h; omega

theorem scanMedia (a0 : CmdPath) (a1 : Nat) (a2 : Nat) : Statement (.scanMedia a0 a1 a2) := by
  intro h p e; cases e; simp only [Instr.wf, CmdPath.wf, Bool.and_eq_true, decide_eq_true_eq] at h; omega

theorem getScanMediaResults (a0 : CmdPath) : Statement (.getScanMediaResults a0) := by
  intro h p e; cases e; simp only [Instr.wf, CmdPath.wf, Bool.and_eq_true, decide_eq_true_eq] at h; omega

theorem sanitize (a0 : CmdPath) : Statement (.sanitize a0) := by
  intro h p e; cases e; simp only [Instr.wf, CmdPath.wf, Bool.and_eq_true, decide_eq_true_eq] at h; omega

theorem secureErase (a0 : CmdPath) : Statement (.secureErase a0) := by
  intro h p e; cases e; simp only [Instr.wf, CmdPath.wf, Bool.and_eq_true, decide_eq_true_eq] at h; omega

theorem sanitizeComplete : Statement .sanitizeComplete := fun _ _ h => nomatch h

theorem getDynamicCapacityConfiguration (a0 : CmdPath) : Statement (.getDynamicCapacityConfiguration a0) := by
  intro h p e; cases e; simp only [Instr.wf, CmdPath.wf, Bool.and_eq_true, decide_eq_true_eq] at h; omega

theorem getDynamicCapacityExtentList (a0 : CmdPath) : Statement (.getDynamicCapacityExtentList a0) := by
  intro h p e; cases e; simp only [Instr.wf, CmdPath.wf, Bool.and_eq_true, decide_eq_true_eq] at h; omega

theorem addDynamicCapacityResponse (a0 : CmdPath) (a1 : List Extent) :
    Statement (.addDynamicCapacityResponse a0 a1) := by
  intro h p e; cases e; simp only [Instr.wf, CmdPath.wf, Bool.and_eq_true, decide_eq_true_eq] at h; omega

theorem releaseDynamicCapacity (a0 : CmdPath) (a1 : List Extent) : Statement (.releaseDynamicCapacity a0 a1) := by
  intro h p e; cases e; simp only [Instr.wf, CmdPath.wf, Bool.and_eq_true, decide_eq_true_eq] at h; omega

theorem setDcRegionConfiguration (a0 : CmdPath) (a1 : Nat) (a2 : Nat) (a3 : Nat) (a4 : Bool) :
    Statement (.setDcRegionConfiguration a0 a1 a2 a3 a4) := by
  intro h p e; cases e; simp only [Instr.wf, CmdPath.wf, Bool.and_eq_true, decide_eq_true_eq] at h; omega

theorem getDcRegionConfiguration (a0 : CmdPath) : Statement (.getDcRegionConfiguration a0) := by
  intro h p e; cases e; simp only [Instr.wf, CmdPath.wf, Bool.and_eq_true, decide_eq_true_eq] at h; omega

theorem initiateDynamicCapacityAdd (a0 : CmdPath) (a1 : Nat) (a2 : Nat) (a3 : List Extent) :
    Statement (.initiateDynamicCapacityAdd a0 a1 a2 a3) := by
  intro h p e; cases e; simp only [Instr.wf, CmdPath.wf, Bool.and_eq_true, decide_eq_true_eq] at h; omega

theorem initiateDynamicCapacityRelease (a0 : CmdPath) (a1 : Nat) (a2 : List Extent) :
    Statement (.initiateDynamicCapacityRelease a0 a1 a2) := by
  intro h p e; cases e; simp only [Instr.wf, CmdPath.wf, Bool.and_eq_true, decide_eq_true_eq] at h; omega

theorem deviceReset (a0 : CmdPath) : Statement (.deviceReset a0) := by
  intro h p e; cases e; simp only [Instr.wf, CmdPath.wf, Bool.and_eq_true, decide_eq_true_eq] at h; omega

theorem topCtrlWarmReset (a0 : Word) : Statement (.topCtrlWarmReset a0) := fun _ _ h => nomatch h

theorem kekRead (a0 : CmdPath) : Statement (.kekRead a0) := by
  intro h p e; cases e; simp only [Instr.wf, CmdPath.wf, Bool.and_eq_true, decide_eq_true_eq] at h; omega

theorem keepRead (a0 : CmdPath) (a1 : Nat) : Statement (.keepRead a0 a1) := by
  intro h p e; cases e; simp only [Instr.wf, CmdPath.wf, Bool.and_eq_true, decide_eq_true_eq] at h; omega

theorem chronicleRead (a0 : CmdPath) (a1 : Nat) (a2 : Nat) (a3 : Nat) : Statement (.chronicleRead a0 a1 a2 a3) := by
  intro h p e; cases e; simp only [Instr.wf, CmdPath.wf, Bool.and_eq_true, decide_eq_true_eq] at h; omega

theorem releaseRange (a0 : CmdPath) (a1 : Nat) (a2 : Nat) : Statement (.releaseRange a0 a1 a2) := by
  intro h p e; cases e; simp only [Instr.wf, CmdPath.wf, Bool.and_eq_true, decide_eq_true_eq] at h; omega

theorem releaseRangeComplete : Statement .releaseRangeComplete := fun _ _ h => nomatch h

theorem shelfStatus (a0 : CmdPath) : Statement (.shelfStatus a0) := by
  intro h p e; cases e; simp only [Instr.wf, CmdPath.wf, Bool.and_eq_true, decide_eq_true_eq] at h; omega

theorem setRecords (a0 : CmdPath) (a1 : List IlvRecord) : Statement (.setRecords a0 a1) := by
  intro h p e; cases e; simp only [Instr.wf, CmdPath.wf, Bool.and_eq_true, decide_eq_true_eq] at h; omega

theorem shelfPowerOff (a0 : CmdPath) (a1 : BitVec 32) (a2 : Nat) : Statement (.shelfPowerOff a0 a1 a2) := by
  intro h p e; cases e; simp only [Instr.wf, CmdPath.wf, Bool.and_eq_true, decide_eq_true_eq] at h; omega

theorem shelfPowerOn (a0 : CmdPath) (a1 : BitVec 32) : Statement (.shelfPowerOn a0 a1) := by
  intro h p e; cases e; simp only [Instr.wf, CmdPath.wf, Bool.and_eq_true, decide_eq_true_eq] at h; omega

theorem shelfPersist (a0 : CmdPath) (a1 : Nat) : Statement (.shelfPersist a0 a1) := by
  intro h p e; cases e; simp only [Instr.wf, CmdPath.wf, Bool.and_eq_true, decide_eq_true_eq] at h; omega

theorem shelfActivate (a0 : CmdPath) (a1 : Nat) (a2 : ImageReport) : Statement (.shelfActivate a0 a1 a2) := by
  intro h p e; cases e; simp only [Instr.wf, CmdPath.wf, Bool.and_eq_true, decide_eq_true_eq] at h; omega

theorem shelfRelease (a0 : CmdPath) (a1 : Nat) : Statement (.shelfRelease a0 a1) := by
  intro h p e; cases e; simp only [Instr.wf, CmdPath.wf, Bool.and_eq_true, decide_eq_true_eq] at h; omega

theorem telemetryStatus (a0 : CmdPath) : Statement (.telemetryStatus a0) := by
  intro h p e; cases e; simp only [Instr.wf, CmdPath.wf, Bool.and_eq_true, decide_eq_true_eq] at h; omega

theorem telemetryPeriod (a0 : CmdPath) (a1 : Nat) : Statement (.telemetryPeriod a0 a1) := by
  intro h p e; cases e; simp only [Instr.wf, CmdPath.wf, Bool.and_eq_true, decide_eq_true_eq] at h; omega

theorem telemetrySnapshot (a0 : CmdPath) : Statement (.telemetrySnapshot a0) := by
  intro h p e; cases e; simp only [Instr.wf, CmdPath.wf, Bool.and_eq_true, decide_eq_true_eq] at h; omega

theorem telemetryClear (a0 : CmdPath) : Statement (.telemetryClear a0) := by
  intro h p e; cases e; simp only [Instr.wf, CmdPath.wf, Bool.and_eq_true, decide_eq_true_eq] at h; omega

theorem telemetryFreeze (a0 : CmdPath) (a1 : Nat) : Statement (.telemetryFreeze a0 a1) := by
  intro h p e; cases e; simp only [Instr.wf, CmdPath.wf, Bool.and_eq_true, decide_eq_true_eq] at h; omega

theorem telemetryWindow (a0 : CmdPath) (a1 : Nat) : Statement (.telemetryWindow a0 a1) := by
  intro h p e; cases e; simp only [Instr.wf, CmdPath.wf, Bool.and_eq_true, decide_eq_true_eq] at h; omega

theorem telemetrySelect (a0 : CmdPath) (a1 : Word) : Statement (.telemetrySelect a0 a1) := by
  intro h p e; cases e; simp only [Instr.wf, CmdPath.wf, Bool.and_eq_true, decide_eq_true_eq] at h; omega

theorem telemCtrlClr (a0 : Word) : Statement (.telemCtrlClr a0) := fun _ _ h => nomatch h

theorem telemCtrlFreeze (a0 : Word) : Statement (.telemCtrlFreeze a0) := fun _ _ h => nomatch h

theorem telemSnapNow (a0 : Word) : Statement (.telemSnapNow a0) := fun _ _ h => nomatch h

theorem telemEvtCfgWrite (a0 : Nat) (a1 : Nat) (a2 : Word) :
    Statement (.telemEvtCfgWrite a0 a1 a2) := fun _ _ h => nomatch h

theorem telemBwCfgWrite (a0 : Word) : Statement (.telemBwCfgWrite a0) := fun _ _ h => nomatch h

theorem telemWindowRead (a0 : Nat) (a1 : Nat) (a2 : HbmErr) :
    Statement (.telemWindowRead a0 a1 a2) := fun _ _ h => nomatch h

theorem telemCntLoRead (a0 : Nat) (a1 : Nat) : Statement (.telemCntLoRead a0 a1) := fun _ _ h => nomatch h

theorem telemCycLoRead (a0 : Nat) : Statement (.telemCycLoRead a0) := fun _ _ h => nomatch h

theorem portCfgWrite (a0 : Nat) (a1 : Word) : Statement (.portCfgWrite a0 a1) := by
  intro h p e; cases e; simp only [Instr.wf, decide_eq_true_eq] at h; omega

theorem portCntClr (a0 : Nat) (a1 : Word) : Statement (.portCntClr a0 a1) := by
  intro h p e; cases e; simp only [Instr.wf, decide_eq_true_eq] at h; omega

theorem sessCntClr (a0 : Word) : Statement (.sessCntClr a0) := fun _ _ h => nomatch h

theorem sessQCntClr (a0 : Word) : Statement (.sessQCntClr a0) := fun _ _ h => nomatch h

theorem topIntMaskWrite (a0 : Word) : Statement (.topIntMaskWrite a0) := fun _ _ h => nomatch h

theorem rwmWriteReject (a0 : Nat) (a1 : Word) : Statement (.rwmWriteReject a0 a1) := fun _ _ h => nomatch h

theorem bar2AccessError (a0 : Nat) (a1 : Nat) (a2 : Nat) :
    Statement (.bar2AccessError a0 a1 a2) := fun _ _ h => nomatch h

theorem registerWrite (a0 : RegSpace) (a1 : Word) : Statement (.registerWrite a0 a1) := fun _ _ h => nomatch h

theorem bisnpCreditReturn (a0 : Nat) (a1 : Nat) (a2 : Nat) : Statement (.bisnpCreditReturn a0 a1 a2) := by
  intro h p e; cases e; simp only [Instr.wf, portLink, Bool.and_eq_true, decide_eq_true_eq] at h; omega

theorem mergeBufferLookupReturn (a0 : Nat) (a1 : Nat) (a2 : HbmErr) :
    Statement (.mergeBufferLookupReturn a0 a1 a2) := fun _ _ h => nomatch h

theorem hbmTrainingComplete (a0 : Bool) : Statement (.hbmTrainingComplete a0) := fun _ _ h => nomatch h

theorem shelfFrameDiscard (a0 : FrameFault) : Statement (.shelfFrameDiscard a0) := fun _ _ h => nomatch h

theorem deviceTemperatureCrossing (a0 : Int) : Statement (.deviceTemperatureCrossing a0) := fun _ _ h => nomatch h

theorem spdmSecureSession (a0 : CmdPath) (a1 : Bool) : Statement (.spdmSecureSession a0 a1) := by
  intro h p e; cases e; simp only [Instr.wf, CmdPath.wf, Bool.and_eq_true, decide_eq_true_eq] at h; omega

theorem imageSlotFlashComplete (a0 : FlashEnd) : Statement (.imageSlotFlashComplete a0) := fun _ _ h => nomatch h

theorem activationDecision : Statement .activationDecision := fun _ _ h => nomatch h

theorem coordinatedActivation : Statement .coordinatedActivation := fun _ _ h => nomatch h

theorem activationInDoubt : Statement .activationInDoubt := fun _ _ h => nomatch h

theorem shelfPersistComplete : Statement .shelfPersistComplete := fun _ _ h => nomatch h

theorem shelfEpochLoRead : Statement .shelfEpochLoRead := fun _ _ h => nomatch h

theorem snapshotRecordWritten : Statement .snapshotRecordWritten := fun _ _ h => nomatch h

theorem bandwidthWindowEnd : Statement .bandwidthWindowEnd := fun _ _ h => nomatch h

theorem telemSnapHeadLoRead : Statement .telemSnapHeadLoRead := fun _ _ h => nomatch h

theorem telemBwWindowLoRead : Statement .telemBwWindowLoRead := fun _ _ h => nomatch h

end Sys2Proof.Laws.CommandPort
end

