-- ==== Sys2Proof/Laws/State.lean ====
section
/-! SUPPORT. What each field of State is after each named update of one field (all by definition), and what a register
field, a session, a tract, a block or a channel reads as after it is written. -/

namespace Sys2Proof.Machine

/-! ### State.wr -/

@[simp] theorem wr_pending (s : State) (f : Field) (v i j : Nat) : (s.wr f v i j).pending = s.pending := rfl
@[simp] theorem wr_regs (s : State) (f : Field) (v i j : Nat) : (s.wr f v i j).regs = s.regs.set (f.resetAt i) (f.key i j) (v % 2 ^ f.width) := rfl
@[simp] theorem wr_stroke (s : State) (f : Field) (v i j : Nat) : (s.wr f v i j).stroke = s.stroke := rfl
@[simp] theorem wr_clears (s : State) (f : Field) (v i j : Nat) : (s.wr f v i j).clears = s.clears := rfl
@[simp] theorem wr_free (s : State) (f : Field) (v i j : Nat) : (s.wr f v i j).free = s.free := rfl
@[simp] theorem wr_out (s : State) (f : Field) (v i j : Nat) : (s.wr f v i j).out = s.out := rfl
@[simp] theorem wr_msixEn (s : State) (f : Field) (v i j : Nat) : (s.wr f v i j).msixEn = s.msixEn := rfl
@[simp] theorem wr_perst (s : State) (f : Field) (v i j : Nat) : (s.wr f v i j).perst = s.perst := rfl
@[simp] theorem wr_intOwed (s : State) (f : Field) (v i j : Nat) : (s.wr f v i j).intOwed = s.intOwed := rfl
@[simp] theorem wr_epochDue (s : State) (f : Field) (v i j : Nat) : (s.wr f v i j).epochDue = s.epochDue := rfl
@[simp] theorem wr_pwr (s : State) (f : Field) (v i j : Nat) : (s.wr f v i j).pwr = s.pwr := rfl
@[simp] theorem wr_start (s : State) (f : Field) (v i j : Nat) : (s.wr f v i j).start = s.start := rfl
@[simp] theorem wr_keep (s : State) (f : Field) (v i j : Nat) : (s.wr f v i j).keep = s.keep := rfl
@[simp] theorem wr_chron (s : State) (f : Field) (v i j : Nat) : (s.wr f v i j).chron = s.chron := rfl
@[simp] theorem wr_events (s : State) (f : Field) (v i j : Nat) : (s.wr f v i j).events = s.events := rfl
@[simp] theorem wr_prot (s : State) (f : Field) (v i j : Nat) : (s.wr f v i j).prot = s.prot := rfl
@[simp] theorem wr_sessions (s : State) (f : Field) (v i j : Nat) : (s.wr f v i j).sessions = s.sessions := rfl
@[simp] theorem wr_reqs (s : State) (f : Field) (v i j : Nat) : (s.wr f v i j).reqs = s.reqs := rfl
@[simp] theorem wr_nextRid (s : State) (f : Field) (v i j : Nat) : (s.wr f v i j).nextRid = s.nextRid := rfl
@[simp] theorem wr_share (s : State) (f : Field) (v i j : Nat) : (s.wr f v i j).share = s.share := rfl
@[simp] theorem wr_dc (s : State) (f : Field) (v i j : Nat) : (s.wr f v i j).dc = s.dc := rfl
@[simp] theorem wr_decoders (s : State) (f : Field) (v i j : Nat) : (s.wr f v i j).decoders = s.decoders := rfl
@[simp] theorem wr_merge (s : State) (f : Field) (v i j : Nat) : (s.wr f v i j).merge = s.merge := rfl
@[simp] theorem wr_mbox (s : State) (f : Field) (v i j : Nat) : (s.wr f v i j).mbox = s.mbox := rfl
@[simp] theorem wr_cache (s : State) (f : Field) (v i j : Nat) : (s.wr f v i j).cache = s.cache := rfl
@[simp] theorem wr_internals (s : State) (f : Field) (v i j : Nat) : (s.wr f v i j).internals = s.internals := rfl
@[simp] theorem wr_imageOps (s : State) (f : Field) (v i j : Nat) : (s.wr f v i j).imageOps = s.imageOps := rfl
@[simp] theorem wr_pages (s : State) (f : Field) (v i j : Nat) : (s.wr f v i j).pages = s.pages := rfl
@[simp] theorem wr_ops (s : State) (f : Field) (v i j : Nat) : (s.wr f v i j).ops = s.ops := rfl
@[simp] theorem wr_deltas (s : State) (f : Field) (v i j : Nat) : (s.wr f v i j).deltas = s.deltas := rfl
@[simp] theorem wr_chans (s : State) (f : Field) (v i j : Nat) : (s.wr f v i j).chans = s.chans := rfl
@[simp] theorem wr_sched (s : State) (f : Field) (v i j : Nat) : (s.wr f v i j).sched = s.sched := rfl
@[simp] theorem wr_xlat (s : State) (f : Field) (v i j : Nat) : (s.wr f v i j).xlat = s.xlat := rfl
@[simp] theorem wr_err (s : State) (f : Field) (v i j : Nat) : (s.wr f v i j).err = s.err := rfl
@[simp] theorem wr_img (s : State) (f : Field) (v i j : Nat) : (s.wr f v i j).img = s.img := rfl
@[simp] theorem wr_shelf (s : State) (f : Field) (v i j : Nat) : (s.wr f v i j).shelf = s.shelf := rfl
@[simp] theorem wr_fw (s : State) (f : Field) (v i j : Nat) : (s.wr f v i j).fw = s.fw := rfl
@[simp] theorem wr_telem (s : State) (f : Field) (v i j : Nat) : (s.wr f v i j).telem = s.telem := rfl
@[simp] theorem wr_cfgSpace (s : State) (f : Field) (v i j : Nat) : (s.wr f v i j).cfgSpace = s.cfgSpace := rfl
@[simp] theorem wr_bar0 (s : State) (f : Field) (v i j : Nat) : (s.wr f v i j).bar0 = s.bar0 := rfl
@[simp] theorem wr_d3 (s : State) (f : Field) (v i j : Nat) : (s.wr f v i j).d3 = s.d3 := rfl

/-! ### State.emit -/

@[simp] theorem emit_pending (s : State) (o : Out) : (s.emit o).pending = s.pending := rfl
@[simp] theorem emit_regs (s : State) (o : Out) : (s.emit o).regs = s.regs := rfl
@[simp] theorem emit_stroke (s : State) (o : Out) : (s.emit o).stroke = s.stroke := rfl
@[simp] theorem emit_clears (s : State) (o : Out) : (s.emit o).clears = s.clears := rfl
@[simp] theorem emit_free (s : State) (o : Out) : (s.emit o).free = s.free := rfl
@[simp] theorem emit_out (s : State) (o : Out) : (s.emit o).out = s.out ++ [o] := rfl
@[simp] theorem emit_msixEn (s : State) (o : Out) : (s.emit o).msixEn = s.msixEn := rfl
@[simp] theorem emit_perst (s : State) (o : Out) : (s.emit o).perst = s.perst := rfl
@[simp] theorem emit_intOwed (s : State) (o : Out) : (s.emit o).intOwed = s.intOwed := rfl
@[simp] theorem emit_epochDue (s : State) (o : Out) : (s.emit o).epochDue = s.epochDue := rfl
@[simp] theorem emit_pwr (s : State) (o : Out) : (s.emit o).pwr = s.pwr := rfl
@[simp] theorem emit_start (s : State) (o : Out) : (s.emit o).start = s.start := rfl
@[simp] theorem emit_keep (s : State) (o : Out) : (s.emit o).keep = s.keep := rfl
@[simp] theorem emit_chron (s : State) (o : Out) : (s.emit o).chron = s.chron := rfl
@[simp] theorem emit_events (s : State) (o : Out) : (s.emit o).events = s.events := rfl
@[simp] theorem emit_prot (s : State) (o : Out) : (s.emit o).prot = s.prot := rfl
@[simp] theorem emit_sessions (s : State) (o : Out) : (s.emit o).sessions = s.sessions := rfl
@[simp] theorem emit_reqs (s : State) (o : Out) : (s.emit o).reqs = s.reqs := rfl
@[simp] theorem emit_nextRid (s : State) (o : Out) : (s.emit o).nextRid = s.nextRid := rfl
@[simp] theorem emit_share (s : State) (o : Out) : (s.emit o).share = s.share := rfl
@[simp] theorem emit_dc (s : State) (o : Out) : (s.emit o).dc = s.dc := rfl
@[simp] theorem emit_decoders (s : State) (o : Out) : (s.emit o).decoders = s.decoders := rfl
@[simp] theorem emit_merge (s : State) (o : Out) : (s.emit o).merge = s.merge := rfl
@[simp] theorem emit_mbox (s : State) (o : Out) : (s.emit o).mbox = s.mbox := rfl
@[simp] theorem emit_cache (s : State) (o : Out) : (s.emit o).cache = s.cache := rfl
@[simp] theorem emit_internals (s : State) (o : Out) : (s.emit o).internals = s.internals := rfl
@[simp] theorem emit_imageOps (s : State) (o : Out) : (s.emit o).imageOps = s.imageOps := rfl
@[simp] theorem emit_pages (s : State) (o : Out) : (s.emit o).pages = s.pages := rfl
@[simp] theorem emit_ops (s : State) (o : Out) : (s.emit o).ops = s.ops := rfl
@[simp] theorem emit_deltas (s : State) (o : Out) : (s.emit o).deltas = s.deltas := rfl
@[simp] theorem emit_chans (s : State) (o : Out) : (s.emit o).chans = s.chans := rfl
@[simp] theorem emit_sched (s : State) (o : Out) : (s.emit o).sched = s.sched := rfl
@[simp] theorem emit_xlat (s : State) (o : Out) : (s.emit o).xlat = s.xlat := rfl
@[simp] theorem emit_err (s : State) (o : Out) : (s.emit o).err = s.err := rfl
@[simp] theorem emit_img (s : State) (o : Out) : (s.emit o).img = s.img := rfl
@[simp] theorem emit_shelf (s : State) (o : Out) : (s.emit o).shelf = s.shelf := rfl
@[simp] theorem emit_fw (s : State) (o : Out) : (s.emit o).fw = s.fw := rfl
@[simp] theorem emit_telem (s : State) (o : Out) : (s.emit o).telem = s.telem := rfl
@[simp] theorem emit_cfgSpace (s : State) (o : Out) : (s.emit o).cfgSpace = s.cfgSpace := rfl
@[simp] theorem emit_bar0 (s : State) (o : Out) : (s.emit o).bar0 = s.bar0 := rfl
@[simp] theorem emit_d3 (s : State) (o : Out) : (s.emit o).d3 = s.d3 := rfl

/-! ### State.tick -/

@[simp] theorem tick_pending (s : State) : (s.tick).pending = s.pending := rfl
@[simp] theorem tick_regs (s : State) : (s.tick).regs = s.regs := rfl
@[simp] theorem tick_stroke (s : State) : (s.tick).stroke = s.stroke := rfl
@[simp] theorem tick_clears (s : State) : (s.tick).clears = s.clears := rfl
@[simp] theorem tick_free (s : State) : (s.tick).free = s.free + 1 := rfl
@[simp] theorem tick_out (s : State) : (s.tick).out = s.out := rfl
@[simp] theorem tick_msixEn (s : State) : (s.tick).msixEn = s.msixEn := rfl
@[simp] theorem tick_perst (s : State) : (s.tick).perst = s.perst := rfl
@[simp] theorem tick_intOwed (s : State) : (s.tick).intOwed = s.intOwed := rfl
@[simp] theorem tick_epochDue (s : State) : (s.tick).epochDue = s.epochDue := rfl
@[simp] theorem tick_pwr (s : State) : (s.tick).pwr = s.pwr := rfl
@[simp] theorem tick_start (s : State) : (s.tick).start = s.start := rfl
@[simp] theorem tick_keep (s : State) : (s.tick).keep = s.keep := rfl
@[simp] theorem tick_chron (s : State) : (s.tick).chron = s.chron := rfl
@[simp] theorem tick_events (s : State) : (s.tick).events = s.events := rfl
@[simp] theorem tick_prot (s : State) : (s.tick).prot = s.prot := rfl
@[simp] theorem tick_sessions (s : State) : (s.tick).sessions = s.sessions := rfl
@[simp] theorem tick_reqs (s : State) : (s.tick).reqs = s.reqs := rfl
@[simp] theorem tick_nextRid (s : State) : (s.tick).nextRid = s.nextRid := rfl
@[simp] theorem tick_share (s : State) : (s.tick).share = s.share := rfl
@[simp] theorem tick_dc (s : State) : (s.tick).dc = s.dc := rfl
@[simp] theorem tick_decoders (s : State) : (s.tick).decoders = s.decoders := rfl
@[simp] theorem tick_merge (s : State) : (s.tick).merge = s.merge := rfl
@[simp] theorem tick_mbox (s : State) : (s.tick).mbox = s.mbox := rfl
@[simp] theorem tick_cache (s : State) : (s.tick).cache = s.cache := rfl
@[simp] theorem tick_internals (s : State) : (s.tick).internals = s.internals := rfl
@[simp] theorem tick_imageOps (s : State) : (s.tick).imageOps = s.imageOps := rfl
@[simp] theorem tick_pages (s : State) : (s.tick).pages = s.pages := rfl
@[simp] theorem tick_ops (s : State) : (s.tick).ops = s.ops := rfl
@[simp] theorem tick_deltas (s : State) : (s.tick).deltas = s.deltas := rfl
@[simp] theorem tick_chans (s : State) : (s.tick).chans = s.chans := rfl
@[simp] theorem tick_sched (s : State) : (s.tick).sched = s.sched := rfl
@[simp] theorem tick_xlat (s : State) : (s.tick).xlat = s.xlat := rfl
@[simp] theorem tick_err (s : State) : (s.tick).err = s.err := rfl
@[simp] theorem tick_img (s : State) : (s.tick).img = s.img := rfl
@[simp] theorem tick_shelf (s : State) : (s.tick).shelf = s.shelf := rfl
@[simp] theorem tick_fw (s : State) : (s.tick).fw = s.fw := rfl
@[simp] theorem tick_telem (s : State) : (s.tick).telem = s.telem := rfl
@[simp] theorem tick_cfgSpace (s : State) : (s.tick).cfgSpace = s.cfgSpace := rfl
@[simp] theorem tick_bar0 (s : State) : (s.tick).bar0 = s.bar0 := rfl
@[simp] theorem tick_d3 (s : State) : (s.tick).d3 = s.d3 := rfl

/-! ### State.setSess -/

@[simp] theorem setSess_pending (s : State) (n : Nat) (e : Session) : (s.setSess n e).pending = s.pending := rfl
@[simp] theorem setSess_regs (s : State) (n : Nat) (e : Session) : (s.setSess n e).regs = s.regs := rfl
@[simp] theorem setSess_stroke (s : State) (n : Nat) (e : Session) : (s.setSess n e).stroke = s.stroke := rfl
@[simp] theorem setSess_clears (s : State) (n : Nat) (e : Session) : (s.setSess n e).clears = s.clears := rfl
@[simp] theorem setSess_free (s : State) (n : Nat) (e : Session) : (s.setSess n e).free = s.free := rfl
@[simp] theorem setSess_out (s : State) (n : Nat) (e : Session) : (s.setSess n e).out = s.out := rfl
@[simp] theorem setSess_msixEn (s : State) (n : Nat) (e : Session) : (s.setSess n e).msixEn = s.msixEn := rfl
@[simp] theorem setSess_perst (s : State) (n : Nat) (e : Session) : (s.setSess n e).perst = s.perst := rfl
@[simp] theorem setSess_intOwed (s : State) (n : Nat) (e : Session) : (s.setSess n e).intOwed = s.intOwed := rfl
@[simp] theorem setSess_epochDue (s : State) (n : Nat) (e : Session) : (s.setSess n e).epochDue = s.epochDue := rfl
@[simp] theorem setSess_pwr (s : State) (n : Nat) (e : Session) : (s.setSess n e).pwr = s.pwr := rfl
@[simp] theorem setSess_start (s : State) (n : Nat) (e : Session) : (s.setSess n e).start = s.start := rfl
@[simp] theorem setSess_keep (s : State) (n : Nat) (e : Session) : (s.setSess n e).keep = s.keep := rfl
@[simp] theorem setSess_chron (s : State) (n : Nat) (e : Session) : (s.setSess n e).chron = s.chron := rfl
@[simp] theorem setSess_events (s : State) (n : Nat) (e : Session) : (s.setSess n e).events = s.events := rfl
@[simp] theorem setSess_prot (s : State) (n : Nat) (e : Session) : (s.setSess n e).prot = s.prot := rfl
@[simp] theorem setSess_sessions (s : State) (n : Nat) (e : Session) : (s.setSess n e).sessions = s.sessions.set {} n e := rfl
@[simp] theorem setSess_reqs (s : State) (n : Nat) (e : Session) : (s.setSess n e).reqs = s.reqs := rfl
@[simp] theorem setSess_nextRid (s : State) (n : Nat) (e : Session) : (s.setSess n e).nextRid = s.nextRid := rfl
@[simp] theorem setSess_share (s : State) (n : Nat) (e : Session) : (s.setSess n e).share = s.share := rfl
@[simp] theorem setSess_dc (s : State) (n : Nat) (e : Session) : (s.setSess n e).dc = s.dc := rfl
@[simp] theorem setSess_decoders (s : State) (n : Nat) (e : Session) : (s.setSess n e).decoders = s.decoders := rfl
@[simp] theorem setSess_merge (s : State) (n : Nat) (e : Session) : (s.setSess n e).merge = s.merge := rfl
@[simp] theorem setSess_mbox (s : State) (n : Nat) (e : Session) : (s.setSess n e).mbox = s.mbox := rfl
@[simp] theorem setSess_cache (s : State) (n : Nat) (e : Session) : (s.setSess n e).cache = s.cache := rfl
@[simp] theorem setSess_internals (s : State) (n : Nat) (e : Session) : (s.setSess n e).internals = s.internals := rfl
@[simp] theorem setSess_imageOps (s : State) (n : Nat) (e : Session) : (s.setSess n e).imageOps = s.imageOps := rfl
@[simp] theorem setSess_pages (s : State) (n : Nat) (e : Session) : (s.setSess n e).pages = s.pages := rfl
@[simp] theorem setSess_ops (s : State) (n : Nat) (e : Session) : (s.setSess n e).ops = s.ops := rfl
@[simp] theorem setSess_deltas (s : State) (n : Nat) (e : Session) : (s.setSess n e).deltas = s.deltas := rfl
@[simp] theorem setSess_chans (s : State) (n : Nat) (e : Session) : (s.setSess n e).chans = s.chans := rfl
@[simp] theorem setSess_sched (s : State) (n : Nat) (e : Session) : (s.setSess n e).sched = s.sched := rfl
@[simp] theorem setSess_xlat (s : State) (n : Nat) (e : Session) : (s.setSess n e).xlat = s.xlat := rfl
@[simp] theorem setSess_err (s : State) (n : Nat) (e : Session) : (s.setSess n e).err = s.err := rfl
@[simp] theorem setSess_img (s : State) (n : Nat) (e : Session) : (s.setSess n e).img = s.img := rfl
@[simp] theorem setSess_shelf (s : State) (n : Nat) (e : Session) : (s.setSess n e).shelf = s.shelf := rfl
@[simp] theorem setSess_fw (s : State) (n : Nat) (e : Session) : (s.setSess n e).fw = s.fw := rfl
@[simp] theorem setSess_telem (s : State) (n : Nat) (e : Session) : (s.setSess n e).telem = s.telem := rfl
@[simp] theorem setSess_cfgSpace (s : State) (n : Nat) (e : Session) : (s.setSess n e).cfgSpace = s.cfgSpace := rfl
@[simp] theorem setSess_bar0 (s : State) (n : Nat) (e : Session) : (s.setSess n e).bar0 = s.bar0 := rfl
@[simp] theorem setSess_d3 (s : State) (n : Nat) (e : Session) : (s.setSess n e).d3 = s.d3 := rfl

/-! ### State.setReq -/

@[simp] theorem setReq_pending (s : State) (rid : Nat) (r : Req) : (s.setReq rid r).pending = s.pending := rfl
@[simp] theorem setReq_regs (s : State) (rid : Nat) (r : Req) : (s.setReq rid r).regs = s.regs := rfl
@[simp] theorem setReq_stroke (s : State) (rid : Nat) (r : Req) : (s.setReq rid r).stroke = s.stroke := rfl
@[simp] theorem setReq_clears (s : State) (rid : Nat) (r : Req) : (s.setReq rid r).clears = s.clears := rfl
@[simp] theorem setReq_free (s : State) (rid : Nat) (r : Req) : (s.setReq rid r).free = s.free := rfl
@[simp] theorem setReq_out (s : State) (rid : Nat) (r : Req) : (s.setReq rid r).out = s.out := rfl
@[simp] theorem setReq_msixEn (s : State) (rid : Nat) (r : Req) : (s.setReq rid r).msixEn = s.msixEn := rfl
@[simp] theorem setReq_perst (s : State) (rid : Nat) (r : Req) : (s.setReq rid r).perst = s.perst := rfl
@[simp] theorem setReq_intOwed (s : State) (rid : Nat) (r : Req) : (s.setReq rid r).intOwed = s.intOwed := rfl
@[simp] theorem setReq_epochDue (s : State) (rid : Nat) (r : Req) : (s.setReq rid r).epochDue = s.epochDue := rfl
@[simp] theorem setReq_pwr (s : State) (rid : Nat) (r : Req) : (s.setReq rid r).pwr = s.pwr := rfl
@[simp] theorem setReq_start (s : State) (rid : Nat) (r : Req) : (s.setReq rid r).start = s.start := rfl
@[simp] theorem setReq_keep (s : State) (rid : Nat) (r : Req) : (s.setReq rid r).keep = s.keep := rfl
@[simp] theorem setReq_chron (s : State) (rid : Nat) (r : Req) : (s.setReq rid r).chron = s.chron := rfl
@[simp] theorem setReq_events (s : State) (rid : Nat) (r : Req) : (s.setReq rid r).events = s.events := rfl
@[simp] theorem setReq_prot (s : State) (rid : Nat) (r : Req) : (s.setReq rid r).prot = s.prot := rfl
@[simp] theorem setReq_sessions (s : State) (rid : Nat) (r : Req) : (s.setReq rid r).sessions = s.sessions := rfl
@[simp] theorem setReq_reqs (s : State) (rid : Nat) (r : Req) : (s.setReq rid r).reqs = s.reqs.put rid r := rfl
@[simp] theorem setReq_nextRid (s : State) (rid : Nat) (r : Req) : (s.setReq rid r).nextRid = s.nextRid := rfl
@[simp] theorem setReq_share (s : State) (rid : Nat) (r : Req) : (s.setReq rid r).share = s.share := rfl
@[simp] theorem setReq_dc (s : State) (rid : Nat) (r : Req) : (s.setReq rid r).dc = s.dc := rfl
@[simp] theorem setReq_decoders (s : State) (rid : Nat) (r : Req) : (s.setReq rid r).decoders = s.decoders := rfl
@[simp] theorem setReq_merge (s : State) (rid : Nat) (r : Req) : (s.setReq rid r).merge = s.merge := rfl
@[simp] theorem setReq_mbox (s : State) (rid : Nat) (r : Req) : (s.setReq rid r).mbox = s.mbox := rfl
@[simp] theorem setReq_cache (s : State) (rid : Nat) (r : Req) : (s.setReq rid r).cache = s.cache := rfl
@[simp] theorem setReq_internals (s : State) (rid : Nat) (r : Req) : (s.setReq rid r).internals = s.internals := rfl
@[simp] theorem setReq_imageOps (s : State) (rid : Nat) (r : Req) : (s.setReq rid r).imageOps = s.imageOps := rfl
@[simp] theorem setReq_pages (s : State) (rid : Nat) (r : Req) : (s.setReq rid r).pages = s.pages := rfl
@[simp] theorem setReq_ops (s : State) (rid : Nat) (r : Req) : (s.setReq rid r).ops = s.ops := rfl
@[simp] theorem setReq_deltas (s : State) (rid : Nat) (r : Req) : (s.setReq rid r).deltas = s.deltas := rfl
@[simp] theorem setReq_chans (s : State) (rid : Nat) (r : Req) : (s.setReq rid r).chans = s.chans := rfl
@[simp] theorem setReq_sched (s : State) (rid : Nat) (r : Req) : (s.setReq rid r).sched = s.sched := rfl
@[simp] theorem setReq_xlat (s : State) (rid : Nat) (r : Req) : (s.setReq rid r).xlat = s.xlat := rfl
@[simp] theorem setReq_err (s : State) (rid : Nat) (r : Req) : (s.setReq rid r).err = s.err := rfl
@[simp] theorem setReq_img (s : State) (rid : Nat) (r : Req) : (s.setReq rid r).img = s.img := rfl
@[simp] theorem setReq_shelf (s : State) (rid : Nat) (r : Req) : (s.setReq rid r).shelf = s.shelf := rfl
@[simp] theorem setReq_fw (s : State) (rid : Nat) (r : Req) : (s.setReq rid r).fw = s.fw := rfl
@[simp] theorem setReq_telem (s : State) (rid : Nat) (r : Req) : (s.setReq rid r).telem = s.telem := rfl
@[simp] theorem setReq_cfgSpace (s : State) (rid : Nat) (r : Req) : (s.setReq rid r).cfgSpace = s.cfgSpace := rfl
@[simp] theorem setReq_bar0 (s : State) (rid : Nat) (r : Req) : (s.setReq rid r).bar0 = s.bar0 := rfl
@[simp] theorem setReq_d3 (s : State) (rid : Nat) (r : Req) : (s.setReq rid r).d3 = s.d3 := rfl

/-! ### State.setTract -/

@[simp] theorem setTract_pending (s : State) (t : Nat) (x : Tract) : (s.setTract t x).pending = s.pending := rfl
@[simp] theorem setTract_regs (s : State) (t : Nat) (x : Tract) : (s.setTract t x).regs = s.regs := rfl
@[simp] theorem setTract_stroke (s : State) (t : Nat) (x : Tract) : (s.setTract t x).stroke = s.stroke := rfl
@[simp] theorem setTract_clears (s : State) (t : Nat) (x : Tract) : (s.setTract t x).clears = s.clears := rfl
@[simp] theorem setTract_free (s : State) (t : Nat) (x : Tract) : (s.setTract t x).free = s.free := rfl
@[simp] theorem setTract_out (s : State) (t : Nat) (x : Tract) : (s.setTract t x).out = s.out := rfl
@[simp] theorem setTract_msixEn (s : State) (t : Nat) (x : Tract) : (s.setTract t x).msixEn = s.msixEn := rfl
@[simp] theorem setTract_perst (s : State) (t : Nat) (x : Tract) : (s.setTract t x).perst = s.perst := rfl
@[simp] theorem setTract_intOwed (s : State) (t : Nat) (x : Tract) : (s.setTract t x).intOwed = s.intOwed := rfl
@[simp] theorem setTract_epochDue (s : State) (t : Nat) (x : Tract) : (s.setTract t x).epochDue = s.epochDue := rfl
@[simp] theorem setTract_pwr (s : State) (t : Nat) (x : Tract) : (s.setTract t x).pwr = s.pwr := rfl
@[simp] theorem setTract_start (s : State) (t : Nat) (x : Tract) : (s.setTract t x).start = s.start := rfl
@[simp] theorem setTract_keep (s : State) (t : Nat) (x : Tract) : (s.setTract t x).keep = s.keep := rfl
@[simp] theorem setTract_chron (s : State) (t : Nat) (x : Tract) : (s.setTract t x).chron = s.chron := rfl
@[simp] theorem setTract_events (s : State) (t : Nat) (x : Tract) : (s.setTract t x).events = s.events := rfl
@[simp] theorem setTract_prot (s : State) (t : Nat) (x : Tract) : (s.setTract t x).prot = s.prot := rfl
@[simp] theorem setTract_sessions (s : State) (t : Nat) (x : Tract) : (s.setTract t x).sessions = s.sessions := rfl
@[simp] theorem setTract_reqs (s : State) (t : Nat) (x : Tract) : (s.setTract t x).reqs = s.reqs := rfl
@[simp] theorem setTract_nextRid (s : State) (t : Nat) (x : Tract) : (s.setTract t x).nextRid = s.nextRid := rfl
@[simp] theorem setTract_share (s : State) (t : Nat) (x : Tract) : (s.setTract t x).share = s.share := rfl
@[simp] theorem setTract_dc (s : State) (t : Nat) (x : Tract) : (s.setTract t x).dc = s.dc := rfl
@[simp] theorem setTract_decoders (s : State) (t : Nat) (x : Tract) : (s.setTract t x).decoders = s.decoders := rfl
@[simp] theorem setTract_merge (s : State) (t : Nat) (x : Tract) : (s.setTract t x).merge = s.merge := rfl
@[simp] theorem setTract_mbox (s : State) (t : Nat) (x : Tract) : (s.setTract t x).mbox = s.mbox := rfl
@[simp] theorem setTract_cache (s : State) (t : Nat) (x : Tract) : (s.setTract t x).cache = s.cache := rfl
@[simp] theorem setTract_internals (s : State) (t : Nat) (x : Tract) : (s.setTract t x).internals = s.internals := rfl
@[simp] theorem setTract_imageOps (s : State) (t : Nat) (x : Tract) : (s.setTract t x).imageOps = s.imageOps := rfl
@[simp] theorem setTract_pages (s : State) (t : Nat) (x : Tract) : (s.setTract t x).pages = s.pages := rfl
@[simp] theorem setTract_ops (s : State) (t : Nat) (x : Tract) : (s.setTract t x).ops = s.ops := rfl
@[simp] theorem setTract_deltas (s : State) (t : Nat) (x : Tract) : (s.setTract t x).deltas = s.deltas := rfl
@[simp] theorem setTract_chans (s : State) (t : Nat) (x : Tract) : (s.setTract t x).chans = s.chans := rfl
@[simp] theorem setTract_sched (s : State) (t : Nat) (x : Tract) : (s.setTract t x).sched = s.sched := rfl
@[simp] theorem setTract_xlat (s : State) (t : Nat) (x : Tract) : (s.setTract t x).xlat = { s.xlat with tracts := s.xlat.tracts.set {} t x } := rfl
@[simp] theorem setTract_err (s : State) (t : Nat) (x : Tract) : (s.setTract t x).err = s.err := rfl
@[simp] theorem setTract_img (s : State) (t : Nat) (x : Tract) : (s.setTract t x).img = s.img := rfl
@[simp] theorem setTract_shelf (s : State) (t : Nat) (x : Tract) : (s.setTract t x).shelf = s.shelf := rfl
@[simp] theorem setTract_fw (s : State) (t : Nat) (x : Tract) : (s.setTract t x).fw = s.fw := rfl
@[simp] theorem setTract_telem (s : State) (t : Nat) (x : Tract) : (s.setTract t x).telem = s.telem := rfl
@[simp] theorem setTract_cfgSpace (s : State) (t : Nat) (x : Tract) : (s.setTract t x).cfgSpace = s.cfgSpace := rfl
@[simp] theorem setTract_bar0 (s : State) (t : Nat) (x : Tract) : (s.setTract t x).bar0 = s.bar0 := rfl
@[simp] theorem setTract_d3 (s : State) (t : Nat) (x : Tract) : (s.setTract t x).d3 = s.d3 := rfl

/-! ### State.setBlock -/

@[simp] theorem setBlock_pending (s : State) (b : Nat) (x : Block) : (s.setBlock b x).pending = s.pending := rfl
@[simp] theorem setBlock_regs (s : State) (b : Nat) (x : Block) : (s.setBlock b x).regs = s.regs := rfl
@[simp] theorem setBlock_stroke (s : State) (b : Nat) (x : Block) : (s.setBlock b x).stroke = s.stroke := rfl
@[simp] theorem setBlock_clears (s : State) (b : Nat) (x : Block) : (s.setBlock b x).clears = s.clears := rfl
@[simp] theorem setBlock_free (s : State) (b : Nat) (x : Block) : (s.setBlock b x).free = s.free := rfl
@[simp] theorem setBlock_out (s : State) (b : Nat) (x : Block) : (s.setBlock b x).out = s.out := rfl
@[simp] theorem setBlock_msixEn (s : State) (b : Nat) (x : Block) : (s.setBlock b x).msixEn = s.msixEn := rfl
@[simp] theorem setBlock_perst (s : State) (b : Nat) (x : Block) : (s.setBlock b x).perst = s.perst := rfl
@[simp] theorem setBlock_intOwed (s : State) (b : Nat) (x : Block) : (s.setBlock b x).intOwed = s.intOwed := rfl
@[simp] theorem setBlock_epochDue (s : State) (b : Nat) (x : Block) : (s.setBlock b x).epochDue = s.epochDue := rfl
@[simp] theorem setBlock_pwr (s : State) (b : Nat) (x : Block) : (s.setBlock b x).pwr = s.pwr := rfl
@[simp] theorem setBlock_start (s : State) (b : Nat) (x : Block) : (s.setBlock b x).start = s.start := rfl
@[simp] theorem setBlock_keep (s : State) (b : Nat) (x : Block) : (s.setBlock b x).keep = s.keep := rfl
@[simp] theorem setBlock_chron (s : State) (b : Nat) (x : Block) : (s.setBlock b x).chron = s.chron := rfl
@[simp] theorem setBlock_events (s : State) (b : Nat) (x : Block) : (s.setBlock b x).events = s.events := rfl
@[simp] theorem setBlock_prot (s : State) (b : Nat) (x : Block) : (s.setBlock b x).prot = s.prot := rfl
@[simp] theorem setBlock_sessions (s : State) (b : Nat) (x : Block) : (s.setBlock b x).sessions = s.sessions := rfl
@[simp] theorem setBlock_reqs (s : State) (b : Nat) (x : Block) : (s.setBlock b x).reqs = s.reqs := rfl
@[simp] theorem setBlock_nextRid (s : State) (b : Nat) (x : Block) : (s.setBlock b x).nextRid = s.nextRid := rfl
@[simp] theorem setBlock_share (s : State) (b : Nat) (x : Block) : (s.setBlock b x).share = s.share := rfl
@[simp] theorem setBlock_dc (s : State) (b : Nat) (x : Block) : (s.setBlock b x).dc = s.dc := rfl
@[simp] theorem setBlock_decoders (s : State) (b : Nat) (x : Block) : (s.setBlock b x).decoders = s.decoders := rfl
@[simp] theorem setBlock_merge (s : State) (b : Nat) (x : Block) : (s.setBlock b x).merge = s.merge := rfl
@[simp] theorem setBlock_mbox (s : State) (b : Nat) (x : Block) : (s.setBlock b x).mbox = s.mbox := rfl
@[simp] theorem setBlock_cache (s : State) (b : Nat) (x : Block) : (s.setBlock b x).cache = s.cache := rfl
@[simp] theorem setBlock_internals (s : State) (b : Nat) (x : Block) : (s.setBlock b x).internals = s.internals := rfl
@[simp] theorem setBlock_imageOps (s : State) (b : Nat) (x : Block) : (s.setBlock b x).imageOps = s.imageOps := rfl
@[simp] theorem setBlock_pages (s : State) (b : Nat) (x : Block) : (s.setBlock b x).pages = s.pages := rfl
@[simp] theorem setBlock_ops (s : State) (b : Nat) (x : Block) : (s.setBlock b x).ops = s.ops := rfl
@[simp] theorem setBlock_deltas (s : State) (b : Nat) (x : Block) : (s.setBlock b x).deltas = s.deltas := rfl
@[simp] theorem setBlock_chans (s : State) (b : Nat) (x : Block) : (s.setBlock b x).chans = s.chans := rfl
@[simp] theorem setBlock_sched (s : State) (b : Nat) (x : Block) : (s.setBlock b x).sched = s.sched := rfl
@[simp] theorem setBlock_xlat (s : State) (b : Nat) (x : Block) : (s.setBlock b x).xlat = { s.xlat with blocks := s.xlat.blocks.set {} b x } := rfl
@[simp] theorem setBlock_err (s : State) (b : Nat) (x : Block) : (s.setBlock b x).err = s.err := rfl
@[simp] theorem setBlock_img (s : State) (b : Nat) (x : Block) : (s.setBlock b x).img = s.img := rfl
@[simp] theorem setBlock_shelf (s : State) (b : Nat) (x : Block) : (s.setBlock b x).shelf = s.shelf := rfl
@[simp] theorem setBlock_fw (s : State) (b : Nat) (x : Block) : (s.setBlock b x).fw = s.fw := rfl
@[simp] theorem setBlock_telem (s : State) (b : Nat) (x : Block) : (s.setBlock b x).telem = s.telem := rfl
@[simp] theorem setBlock_cfgSpace (s : State) (b : Nat) (x : Block) : (s.setBlock b x).cfgSpace = s.cfgSpace := rfl
@[simp] theorem setBlock_bar0 (s : State) (b : Nat) (x : Block) : (s.setBlock b x).bar0 = s.bar0 := rfl
@[simp] theorem setBlock_d3 (s : State) (b : Nat) (x : Block) : (s.setBlock b x).d3 = s.d3 := rfl

/-! ### State.setChan -/

@[simp] theorem setChan_pending (s : State) (c : Nat) (x : Chan) : (s.setChan c x).pending = s.pending := rfl
@[simp] theorem setChan_regs (s : State) (c : Nat) (x : Chan) : (s.setChan c x).regs = s.regs := rfl
@[simp] theorem setChan_stroke (s : State) (c : Nat) (x : Chan) : (s.setChan c x).stroke = s.stroke := rfl
@[simp] theorem setChan_clears (s : State) (c : Nat) (x : Chan) : (s.setChan c x).clears = s.clears := rfl
@[simp] theorem setChan_free (s : State) (c : Nat) (x : Chan) : (s.setChan c x).free = s.free := rfl
@[simp] theorem setChan_out (s : State) (c : Nat) (x : Chan) : (s.setChan c x).out = s.out := rfl
@[simp] theorem setChan_msixEn (s : State) (c : Nat) (x : Chan) : (s.setChan c x).msixEn = s.msixEn := rfl
@[simp] theorem setChan_perst (s : State) (c : Nat) (x : Chan) : (s.setChan c x).perst = s.perst := rfl
@[simp] theorem setChan_intOwed (s : State) (c : Nat) (x : Chan) : (s.setChan c x).intOwed = s.intOwed := rfl
@[simp] theorem setChan_epochDue (s : State) (c : Nat) (x : Chan) : (s.setChan c x).epochDue = s.epochDue := rfl
@[simp] theorem setChan_pwr (s : State) (c : Nat) (x : Chan) : (s.setChan c x).pwr = s.pwr := rfl
@[simp] theorem setChan_start (s : State) (c : Nat) (x : Chan) : (s.setChan c x).start = s.start := rfl
@[simp] theorem setChan_keep (s : State) (c : Nat) (x : Chan) : (s.setChan c x).keep = s.keep := rfl
@[simp] theorem setChan_chron (s : State) (c : Nat) (x : Chan) : (s.setChan c x).chron = s.chron := rfl
@[simp] theorem setChan_events (s : State) (c : Nat) (x : Chan) : (s.setChan c x).events = s.events := rfl
@[simp] theorem setChan_prot (s : State) (c : Nat) (x : Chan) : (s.setChan c x).prot = s.prot := rfl
@[simp] theorem setChan_sessions (s : State) (c : Nat) (x : Chan) : (s.setChan c x).sessions = s.sessions := rfl
@[simp] theorem setChan_reqs (s : State) (c : Nat) (x : Chan) : (s.setChan c x).reqs = s.reqs := rfl
@[simp] theorem setChan_nextRid (s : State) (c : Nat) (x : Chan) : (s.setChan c x).nextRid = s.nextRid := rfl
@[simp] theorem setChan_share (s : State) (c : Nat) (x : Chan) : (s.setChan c x).share = s.share := rfl
@[simp] theorem setChan_dc (s : State) (c : Nat) (x : Chan) : (s.setChan c x).dc = s.dc := rfl
@[simp] theorem setChan_decoders (s : State) (c : Nat) (x : Chan) : (s.setChan c x).decoders = s.decoders := rfl
@[simp] theorem setChan_merge (s : State) (c : Nat) (x : Chan) : (s.setChan c x).merge = s.merge := rfl
@[simp] theorem setChan_mbox (s : State) (c : Nat) (x : Chan) : (s.setChan c x).mbox = s.mbox := rfl
@[simp] theorem setChan_cache (s : State) (c : Nat) (x : Chan) : (s.setChan c x).cache = s.cache := rfl
@[simp] theorem setChan_internals (s : State) (c : Nat) (x : Chan) : (s.setChan c x).internals = s.internals := rfl
@[simp] theorem setChan_imageOps (s : State) (c : Nat) (x : Chan) : (s.setChan c x).imageOps = s.imageOps := rfl
@[simp] theorem setChan_pages (s : State) (c : Nat) (x : Chan) : (s.setChan c x).pages = s.pages := rfl
@[simp] theorem setChan_ops (s : State) (c : Nat) (x : Chan) : (s.setChan c x).ops = s.ops := rfl
@[simp] theorem setChan_deltas (s : State) (c : Nat) (x : Chan) : (s.setChan c x).deltas = s.deltas := rfl
@[simp] theorem setChan_chans (s : State) (c : Nat) (x : Chan) : (s.setChan c x).chans = s.chans.set {} c x := rfl
@[simp] theorem setChan_sched (s : State) (c : Nat) (x : Chan) : (s.setChan c x).sched = s.sched := rfl
@[simp] theorem setChan_xlat (s : State) (c : Nat) (x : Chan) : (s.setChan c x).xlat = s.xlat := rfl
@[simp] theorem setChan_err (s : State) (c : Nat) (x : Chan) : (s.setChan c x).err = s.err := rfl
@[simp] theorem setChan_img (s : State) (c : Nat) (x : Chan) : (s.setChan c x).img = s.img := rfl
@[simp] theorem setChan_shelf (s : State) (c : Nat) (x : Chan) : (s.setChan c x).shelf = s.shelf := rfl
@[simp] theorem setChan_fw (s : State) (c : Nat) (x : Chan) : (s.setChan c x).fw = s.fw := rfl
@[simp] theorem setChan_telem (s : State) (c : Nat) (x : Chan) : (s.setChan c x).telem = s.telem := rfl
@[simp] theorem setChan_cfgSpace (s : State) (c : Nat) (x : Chan) : (s.setChan c x).cfgSpace = s.cfgSpace := rfl
@[simp] theorem setChan_bar0 (s : State) (c : Nat) (x : Chan) : (s.setChan c x).bar0 = s.bar0 := rfl
@[simp] theorem setChan_d3 (s : State) (c : Nat) (x : Chan) : (s.setChan c x).d3 = s.d3 := rfl

/-! ### State.putMove -/

@[simp] theorem putMove_pending (s : State) (m : Move) : (s.putMove m).pending = s.pending := rfl
@[simp] theorem putMove_regs (s : State) (m : Move) : (s.putMove m).regs = s.regs := rfl
@[simp] theorem putMove_stroke (s : State) (m : Move) : (s.putMove m).stroke = s.stroke := rfl
@[simp] theorem putMove_clears (s : State) (m : Move) : (s.putMove m).clears = s.clears := rfl
@[simp] theorem putMove_free (s : State) (m : Move) : (s.putMove m).free = s.free := rfl
@[simp] theorem putMove_out (s : State) (m : Move) : (s.putMove m).out = s.out := rfl
@[simp] theorem putMove_msixEn (s : State) (m : Move) : (s.putMove m).msixEn = s.msixEn := rfl
@[simp] theorem putMove_perst (s : State) (m : Move) : (s.putMove m).perst = s.perst := rfl
@[simp] theorem putMove_intOwed (s : State) (m : Move) : (s.putMove m).intOwed = s.intOwed := rfl
@[simp] theorem putMove_epochDue (s : State) (m : Move) : (s.putMove m).epochDue = s.epochDue := rfl
@[simp] theorem putMove_pwr (s : State) (m : Move) : (s.putMove m).pwr = s.pwr := rfl
@[simp] theorem putMove_start (s : State) (m : Move) : (s.putMove m).start = s.start := rfl
@[simp] theorem putMove_keep (s : State) (m : Move) : (s.putMove m).keep = s.keep := rfl
@[simp] theorem putMove_chron (s : State) (m : Move) : (s.putMove m).chron = s.chron := rfl
@[simp] theorem putMove_events (s : State) (m : Move) : (s.putMove m).events = s.events := rfl
@[simp] theorem putMove_prot (s : State) (m : Move) : (s.putMove m).prot = s.prot := rfl
@[simp] theorem putMove_sessions (s : State) (m : Move) : (s.putMove m).sessions = s.sessions := rfl
@[simp] theorem putMove_reqs (s : State) (m : Move) : (s.putMove m).reqs = s.reqs := rfl
@[simp] theorem putMove_nextRid (s : State) (m : Move) : (s.putMove m).nextRid = s.nextRid := rfl
@[simp] theorem putMove_share (s : State) (m : Move) : (s.putMove m).share = s.share := rfl
@[simp] theorem putMove_dc (s : State) (m : Move) : (s.putMove m).dc = s.dc := rfl
@[simp] theorem putMove_decoders (s : State) (m : Move) : (s.putMove m).decoders = s.decoders := rfl
@[simp] theorem putMove_merge (s : State) (m : Move) : (s.putMove m).merge = s.merge := rfl
@[simp] theorem putMove_mbox (s : State) (m : Move) : (s.putMove m).mbox = s.mbox := rfl
@[simp] theorem putMove_cache (s : State) (m : Move) : (s.putMove m).cache = s.cache := rfl
@[simp] theorem putMove_internals (s : State) (m : Move) : (s.putMove m).internals = s.internals := rfl
@[simp] theorem putMove_imageOps (s : State) (m : Move) : (s.putMove m).imageOps = s.imageOps := rfl
@[simp] theorem putMove_pages (s : State) (m : Move) : (s.putMove m).pages = s.pages := rfl
@[simp] theorem putMove_ops (s : State) (m : Move) : (s.putMove m).ops = s.ops := rfl
@[simp] theorem putMove_deltas (s : State) (m : Move) : (s.putMove m).deltas = s.deltas := rfl
@[simp] theorem putMove_chans (s : State) (m : Move) : (s.putMove m).chans = s.chans := rfl
@[simp] theorem putMove_sched (s : State) (m : Move) : (s.putMove m).sched = s.sched := rfl
@[simp] theorem putMove_xlat (s : State) (m : Move) : (s.putMove m).xlat = { s.xlat with moves := s.xlat.moves.map (fun x => if x.tract == m.tract then m else x) } := rfl
@[simp] theorem putMove_err (s : State) (m : Move) : (s.putMove m).err = s.err := rfl
@[simp] theorem putMove_img (s : State) (m : Move) : (s.putMove m).img = s.img := rfl
@[simp] theorem putMove_shelf (s : State) (m : Move) : (s.putMove m).shelf = s.shelf := rfl
@[simp] theorem putMove_fw (s : State) (m : Move) : (s.putMove m).fw = s.fw := rfl
@[simp] theorem putMove_telem (s : State) (m : Move) : (s.putMove m).telem = s.telem := rfl
@[simp] theorem putMove_cfgSpace (s : State) (m : Move) : (s.putMove m).cfgSpace = s.cfgSpace := rfl
@[simp] theorem putMove_bar0 (s : State) (m : Move) : (s.putMove m).bar0 = s.bar0 := rfl
@[simp] theorem putMove_d3 (s : State) (m : Move) : (s.putMove m).d3 = s.d3 := rfl

/-! ### State.endCopy -/

@[simp] theorem endCopy_pending (s : State) (c : Copy) : (s.endCopy c).pending = s.pending := rfl
@[simp] theorem endCopy_regs (s : State) (c : Copy) : (s.endCopy c).regs = s.regs := rfl
@[simp] theorem endCopy_stroke (s : State) (c : Copy) : (s.endCopy c).stroke = s.stroke := rfl
@[simp] theorem endCopy_clears (s : State) (c : Copy) : (s.endCopy c).clears = s.clears := rfl
@[simp] theorem endCopy_free (s : State) (c : Copy) : (s.endCopy c).free = s.free := rfl
@[simp] theorem endCopy_out (s : State) (c : Copy) : (s.endCopy c).out = s.out := rfl
@[simp] theorem endCopy_msixEn (s : State) (c : Copy) : (s.endCopy c).msixEn = s.msixEn := rfl
@[simp] theorem endCopy_perst (s : State) (c : Copy) : (s.endCopy c).perst = s.perst := rfl
@[simp] theorem endCopy_intOwed (s : State) (c : Copy) : (s.endCopy c).intOwed = s.intOwed := rfl
@[simp] theorem endCopy_epochDue (s : State) (c : Copy) : (s.endCopy c).epochDue = s.epochDue := rfl
@[simp] theorem endCopy_pwr (s : State) (c : Copy) : (s.endCopy c).pwr = s.pwr := rfl
@[simp] theorem endCopy_start (s : State) (c : Copy) : (s.endCopy c).start = s.start := rfl
@[simp] theorem endCopy_keep (s : State) (c : Copy) : (s.endCopy c).keep = s.keep := rfl
@[simp] theorem endCopy_chron (s : State) (c : Copy) : (s.endCopy c).chron = s.chron := rfl
@[simp] theorem endCopy_events (s : State) (c : Copy) : (s.endCopy c).events = s.events := rfl
@[simp] theorem endCopy_prot (s : State) (c : Copy) : (s.endCopy c).prot = s.prot := rfl
@[simp] theorem endCopy_sessions (s : State) (c : Copy) : (s.endCopy c).sessions = s.sessions := rfl
@[simp] theorem endCopy_reqs (s : State) (c : Copy) : (s.endCopy c).reqs = s.reqs := rfl
@[simp] theorem endCopy_nextRid (s : State) (c : Copy) : (s.endCopy c).nextRid = s.nextRid := rfl
@[simp] theorem endCopy_share (s : State) (c : Copy) : (s.endCopy c).share = s.share := rfl
@[simp] theorem endCopy_dc (s : State) (c : Copy) : (s.endCopy c).dc = s.dc := rfl
@[simp] theorem endCopy_decoders (s : State) (c : Copy) : (s.endCopy c).decoders = s.decoders := rfl
@[simp] theorem endCopy_merge (s : State) (c : Copy) : (s.endCopy c).merge = s.merge := rfl
@[simp] theorem endCopy_mbox (s : State) (c : Copy) : (s.endCopy c).mbox = s.mbox := rfl
@[simp] theorem endCopy_cache (s : State) (c : Copy) : (s.endCopy c).cache = s.cache := rfl
@[simp] theorem endCopy_internals (s : State) (c : Copy) : (s.endCopy c).internals = s.internals := rfl
@[simp] theorem endCopy_imageOps (s : State) (c : Copy) : (s.endCopy c).imageOps = s.imageOps := rfl
@[simp] theorem endCopy_pages (s : State) (c : Copy) : (s.endCopy c).pages = s.pages := rfl
@[simp] theorem endCopy_ops (s : State) (c : Copy) : (s.endCopy c).ops = s.ops := rfl
@[simp] theorem endCopy_deltas (s : State) (c : Copy) : (s.endCopy c).deltas = s.deltas := rfl
@[simp] theorem endCopy_chans (s : State) (c : Copy) : (s.endCopy c).chans = s.chans := rfl
@[simp] theorem endCopy_sched (s : State) (c : Copy) : (s.endCopy c).sched = s.sched := rfl
@[simp] theorem endCopy_xlat (s : State) (c : Copy) : (s.endCopy c).xlat = { s.xlat with copies := s.xlat.copies.filter (fun x => x.lpn != c.lpn) } := rfl
@[simp] theorem endCopy_err (s : State) (c : Copy) : (s.endCopy c).err = s.err := rfl
@[simp] theorem endCopy_img (s : State) (c : Copy) : (s.endCopy c).img = s.img := rfl
@[simp] theorem endCopy_shelf (s : State) (c : Copy) : (s.endCopy c).shelf = s.shelf := rfl
@[simp] theorem endCopy_fw (s : State) (c : Copy) : (s.endCopy c).fw = s.fw := rfl
@[simp] theorem endCopy_telem (s : State) (c : Copy) : (s.endCopy c).telem = s.telem := rfl
@[simp] theorem endCopy_cfgSpace (s : State) (c : Copy) : (s.endCopy c).cfgSpace = s.cfgSpace := rfl
@[simp] theorem endCopy_bar0 (s : State) (c : Copy) : (s.endCopy c).bar0 = s.bar0 := rfl
@[simp] theorem endCopy_d3 (s : State) (c : Copy) : (s.endCopy c).d3 = s.d3 := rfl

/-! ### Reading back -/

/-- A register field reads as the value written to it, cut to its width. -/
@[simp] theorem rd_wr_self (s : State) (f : Field) (v i j : Nat) : (s.wr f v i j).rd f i j = v % 2 ^ f.width :=
  Tab.get_set_self _ _ _ _

/-- A write leaves every field that stands elsewhere. -/
theorem rd_wr_ne (s : State) (f g : Field) (v i j a b : Nat) (h : g.key a b ≠ f.key i j) :
    (s.wr f v i j).rd g a b = s.rd g a b := by
  unfold State.rd
  rw [Tab.get_eq_find, Tab.get_eq_find]
  exact congrArg (fun o => o.getD (g.resetAt a)) (Tab.find_set_ne (f.resetAt i) s.regs (f.key i j) (g.key a b) _ h)

@[simp] theorem sess_setSess_self (s : State) (n : Nat) (e : Session) : (s.setSess n e).sess n = e :=
  Tab.get_set_self _ _ _ _

theorem sess_setSess_ne (s : State) (n m : Nat) (e : Session) (h : m ≠ n) : (s.setSess n e).sess m = s.sess m :=
  Tab.get_set_ne _ _ _ _ _ h

@[simp] theorem tract_setTract_self (s : State) (t : Nat) (x : Tract) : (s.setTract t x).tract t = x :=
  Tab.get_set_self _ _ _ _

theorem tract_setTract_ne (s : State) (t u : Nat) (x : Tract) (h : u ≠ t) : (s.setTract t x).tract u = s.tract u :=
  Tab.get_set_ne _ _ _ _ _ h

@[simp] theorem block_setBlock_self (s : State) (b : Nat) (x : Block) : (s.setBlock b x).block b = x :=
  Tab.get_set_self _ _ _ _

theorem block_setBlock_ne (s : State) (b c : Nat) (x : Block) (h : c ≠ b) : (s.setBlock b x).block c = s.block c :=
  Tab.get_set_ne _ _ _ _ _ h

@[simp] theorem chan_setChan_self (s : State) (c : Nat) (x : Chan) : (s.setChan c x).chan c = x :=
  Tab.get_set_self _ _ _ _

theorem chan_setChan_ne (s : State) (c d : Nat) (x : Chan) (h : d ≠ c) : (s.setChan c x).chan d = s.chan d :=
  Tab.get_set_ne _ _ _ _ _ h

@[simp] theorem find_setReq_self (s : State) (rid : Nat) (r : Req) : (s.setReq rid r).reqs.find rid = some r :=
  Tab.find_put_self _ _ _

theorem find_setReq_ne (s : State) (rid k : Nat) (r : Req) (h : k ≠ rid) :
    (s.setReq rid r).reqs.find k = s.reqs.find k := Tab.find_put_ne _ _ _ _ h

/-! ### A command's answer -/

/-- What a command that led from `s` to `t` answers: the queue is the one before. -/
theorem done_next (s t : State) : done s t = .next { settle s t with pending := s.pending } := rfl

end Sys2Proof.Machine
end

