-- ==== Sys2Proof/Tests/Slice0.lean ====
section
/-! SUPPORT. Tests. Ill-formed commands that the check of well-formedness refuses, one for each check; for every obligation
that has hypotheses a state and operands that meet those of each of its clauses, at a boundary where they bound a value;
for every command a state in which it answers a next state; and examples worked by hand from the manual. -/

set_option Elab.async false
set_option linter.unusedSimpArgs false

namespace Sys2Proof.Tests
open Sys2Proof Sys2Proof.Machine

/-- A command path of the fabric manager, which every command accepts. -/
def tFm : CmdPath := ⟨.fm, 0, 0, 0⟩

/-- The primary path of port 0. -/
def tPri : CmdPath := ⟨.primary, 0, 0, 0⟩

/-- A binding of 1 GiB, device and host base 0. -/
def tBind : Binding := ⟨true, false, 0, 4, 0⟩

/-- An active session of port 0, LD 0. -/
def tSess : Session :=
  { state := .active, key := ⟨0, 0, 0⟩, readAllow := 4, writeAllow := 4, limit := 4, tOpt := 1, tMod := 2, tSev := 3,
    binds := [tBind] }

/-- The words of a second session, of port 1. -/
def tWords : SessWords := ⟨1, 0, 0, 0, 0, 4, 4, 4, 0, 1, 2, 3, [tBind]⟩

/-- AUX is on, STANDBY. -/
def tAux : State := { State.reset with pwr := { aux := true } }

/-- A device that is on and Ready, with one port up, one session and 1 GiB. -/
def tOn : State :=
  (((({ State.reset with
      pwr := { aux := true, high100 := true },
      start := { step2 := true, step3 := true, step5 := true, step6 := true, step7 := true, step8 := true, step9 := true },
      sessions := [(0, tSess)] } : State).setSeq .on).wr Reg.TOP_STATUS_READY 1).wr Reg.PORT_LINK_STATUS0_UP 1).wr
    Reg.TOP_CAPACITY_UNITS 4

/-- The device when it is on, powered as told. -/
def tSeq (q : SeqState) (p : Pwr) : State := ({ tOn with pwr := p } : State).setSeq q

/-- The media page that is home to logical page 0, of superblock 0. -/
def tMp : Nat := homeMp 0 0

/-- A blank media page. -/
def tPage : MPage := { tag := none, age := 0 }

/-- Tract 0 settled in superblock 0, with its page and the parity page of the stripe. -/
def tMedia : State :=
  { tOn with
    xlat := { tracts := [(0, { state := .settled })], blocks := [(0, { pool := .home, tract := some 0, fill := 7 })] },
    pages := [(mpParity tMp, tPage), (tMp, tPage)] }

/-- A read of line 0 in flight. -/
def tReq : Req :=
  { sess := 0, port := 0, link := 0, ld := 0, tag := 0, op := .memRd, line := 0, snp := .none, mval := .none, db := false,
    stage := .lookup }

/-- A media read of line 0. -/
def tJob (w : JobWhy) (p : JobPhase) : Job := { why := w, line := 0, mp := tMp, ln := 0, phase := p }

/-- A program of media page 0. -/
def tOp (k : ProgKind) : BankOp := { kind := k, mp := tMp, ln := 63, stroke := 0, parity := mpParity tMp }

/-- A host message for line 0 from port 0, LD `ld`. -/
def tMsg (ld : Nat) : M2S := ⟨0, 0, ld, 0, 0, .none, .none, 0⟩

/-- A dirty line of the merge buffer. -/
def tEntry (m : Mask) : Entry := { state := .dirty, data := 0, mask := m, time := 0 }

/-- A snoop of line 0 that waits for sessions 0 and 1. -/
def tSnoop (w : SnoopWhy) : Snoop := { line := 0, op := 0, why := w, waiting := [0, 1], unsent := [] }

/-- A queued request. -/
def tDesc (o : MemOp) : Desc :=
  { sess := 0, op := o, port := 0, link := 0, ld := 0, tag := 0, arrival := 0, line := 0, snp := .none, mval := .none,
    db := false, poison := false, be := fullMask, cell := 0, bad := 0, fenced := false }

/-- The device with session 0 as told. -/
def tQ (e : Session) : State := { tOn with sessions := [(0, e)] }

/-- One range. -/
def tInt (k : InternalKind) (w : Bool) : Internal := { kind := k, first := 0, count := 1, path := some tFm, walked := w }

/-- A motion of officer 0. -/
def tMot (v : Nat) (a : MotionArgs) : Motion := ⟨v, 0, true, Config.serial, 5, a, some 7⟩

/-- The same motion, lodged. -/
def tLod (g : Nat) (k : Bool) (a : MotionArgs) : Lodged := ⟨tMot 1 a, 0, some tFm, 1, g, k, 0, 0, 0⟩

/-- The same motion, seconded by officer 1. -/
def tSec (a : MotionArgs) (z : Bool) : Second := ⟨tMot 1 a, 1, z, Config.serial, some 8⟩

/-- The device with two officers and these motions lodged. -/
def tOff (l : List Lodged) : State := { tOn with prot := { officers := [7, 8], lodged := l } }

/-- An image without fault. -/
def tImg : ImageReport := ⟨0, false, 0, [], 1, 25165824, 2 ^ 37, 110, 40⟩

/-- The device with a verified staging image. -/
def tStaged : State := { tOn with keep := { shadow := [(256, .descriptor { state := 2 })] } }

/-- An activation. -/
def tAct (k : ActKind) (g : ActStage) : Activation := { kind := k, path := some tFm, stroke := some 0, stage := g }

/-- A transfer opened by the same path. -/
def tXfer : Transfer := { path := tFm }

/-- The device with this work of the image slots in the flash. -/
def tFlash (o : ImageOp) (f : Fw) : State := { tOn with keep := { op := some .imageOp }, imageOps := [o], fw := f }

/-- A transfer command whose blocks are these. -/
def tCmd (l : List Nat) : XferCmd := { path := tFm, blocks := l, header := tImg, last := false }

/-- A worker in contact with its manager. -/
def tWork : State := tOn.wr Reg.SHELF_STATUS_CONTACT 1

/-- A manager, in a sync epoch in which it sends. -/
def tMgr : State := ({ tOn with stroke := 1024 } : State).wr Reg.SHELF_STATUS_MANAGER 1

/-- A command frame for position 0. -/
def tFrame : Frame := ⟨0, false, 1⟩

/-- A command frame for all. -/
def tBcast : Frame := ⟨0, true, 1⟩

/-- An interleave record. -/
def tIlv : IlvRecord := ⟨0, 2, 0, 0, 1, []⟩

/-- The status of a member. -/
def tStat (q : Nat) : Status := ⟨q, 0, 0, false, false, 0, 0, 0, 0, 0, 0, 0, 0, 0⟩

/-- A beacon. -/
def tBeacon (q : Nat) : Beacon := ⟨q, 0, 0, 0, 0, 0, 0, 0, 0, 0, 0⟩

/-- A poll of a rail at these millivolts. -/
def tPoll (r v : Nat) : RailPoll := ⟨r, v, 0, 0, 0, 0, 0⟩

/-- Three samples that agree. -/
def tSmp (b : Bool) : Samples := ⟨b, b, b⟩

/-- A status line without fault. -/
def tLine : StatusLine := ⟨4, 0, 0, 0, 0, 0, 0, 0, 0, 0, 3⟩

/-- A training answer. -/
def tTrain (c : Nat) : TrainResult := ⟨c, true, 0, 4, 0, 0⟩

/-- A snapshot record. -/
def tSnap : Snap :=
  { seq := 0, stroke := 0, frozen := false, drop := false, k := 0, shelf := 0, window := 0, bw := [], blocks := [] }

/-- A chronicle record. -/
def tRec : ChronRec := ⟨1, 0, 0, 0, 0, 0, [], none⟩

/-- No error. -/
def tNone : MediaErr := ⟨0, 0⟩

/-- The state that a command leaves. -/
def tThen (i : Instr) (s : State) : State :=
  match exec i s with
  | .next t => t
  | _ => s

/-- The state that a step leaves. -/
def tStep (s : State) : State :=
  match step s with
  | .next t => t
  | _ => s

/-- The command answers a next state. -/
def tRuns (i : Instr) (s : State) : Bool :=
  match exec i s with
  | .next _ => true
  | _ => false

theorem tOff_prot (l : List Lodged) : (tOff l).prot = { officers := [7, 8], lodged := l } := rfl

theorem tOff_internals (l : List Lodged) : (tOff l).internals = [] := rfl

theorem tOff_stroke (l : List Lodged) : (tOff l).stroke = 0 := rfl

theorem tOff_heard (l : List Lodged) (i : Instr) : heard (tOff l) tFm i .mgmt := ⟨rfl, rfl, rfl⟩

/-- A sync epoch that is no serial-number epoch of any device. -/
theorem tMgr_not_silent : ({ tMgr with stroke := 6325248 } : State).silentEpoch = false := by
  have h : serialChunk 6 < 16 := by unfold serialChunk; omega
  have p : ({ tMgr with stroke := 6325248 } : State).shelfPos = 0 := by decide +kernel
  simp [State.silentEpoch, State.serialSilent, State.epochNo, p]
  omega

/-! ### Well-formedness -/

/-- Every bound of the check refuses the value next to it. -/
theorem test_ill_formed_refused :
    ([.pwrfailNQualify [], .railTurnOn (tPoll 0 0), .railTurnOn (tPoll 13 0), .servicePoll [tPoll 1 0, tPoll 13 0],
     .decayPoll [tPoll 0 0], .programResume ⟨64, 0, 0⟩, .programResume ⟨0, 4, 0⟩, .programResume ⟨0, 0, 16⟩,
     .readReachScheduler 0 1024 false, .memRd ⟨4, 0, 0, 0, 0, .none, .none, 0⟩,
     .memRd ⟨0, 2, 0, 0, 0, .none, .none, 0⟩, .memRd ⟨0, 0, 4096, 0, 0, .none, .none, 0⟩,
     .memRd ⟨0, 0, 0, 0, 65536, .none, .none, 0⟩, .memRd ⟨0, 0, 0, 0, 0, .none, .none, 2048⟩, .biRsp 0 2 0 0 .i,
     .biRsp 0 0 4096 0 .i, .biRsp 0 0 0 (2 ^ 37) .i, .perstNAssert 4 1000, .linkUp 4 0 1 3 0,
     .allowanceCheck 4096 .read 0 ⟨0, 0⟩ false, .sessionGet ⟨.fm, 4, 0, 0⟩ 0, .sessionGet ⟨.fm, 0, 0, 8⟩ 0,
     .fenceBiTimeout 0 (2 ^ 37), .fipenAlert 64, .fipenTrainingStepLimit 0 0, .fipenTrainingStepLimit 0 7,
     .fipenTrainingComplete [tTrain 64], .evacuationBlockDone (2 ^ 20), .liftVerify (2 ^ 31),
     .settleBackWalk (2 ^ 23), .reclaim 8, .poolFillTimeout 8 true, .mergeComplete (2 ^ 37),
     .persistAt tFm (2 ^ 64), .sliceFillInstall 4 0, .wayGroupCleaningEnd 0 8, .cacheWayCfgWrite 4 0,
     .patrolVisit [⟨64, tNone, tNone, tNone⟩], .scrubRangeComplete .complete 0 [(2 ^ 37, ⟨0, tNone, tNone, tNone⟩)],
     .keySlotReunseal 17 true, .integrityRootVerifyComplete [17], .ideKeyProg 0 0 .rx 2 1, .spdmGetMeasurements 4 1,
     .spreadCounterIncrement 3, .beacon (tBeacon 32), .statusFrame (tStat 32), .memberDropout 32,
     .release ⟨32, false, 1⟩, .release ⟨0, false, 65536⟩, .slotGrant tFrame (2 ^ 64), .commandResend 65536,
     .transferFwInitiate tFm 2 0 [256] tImg, .unsupportedCommand tFm 65536,
     .initiateDynamicCapacityAdd tFm 4096 0 [], .shelfRelease tFm 32, .telemEvtCfgWrite 15 0 0,
     .telemEvtCfgWrite 0 16 0, .telemCntLoRead 0 16, .telemCycLoRead 15, .portCfgWrite 4 0, .bar2AccessError 0 0 0,
     .bar2AccessError 0 65 0] : List Instr).all (fun i => !i.wf) = true := by decide +kernel

/-! ### Hypotheses that can be met -/

theorem witness_AuxSupplyComesAndGoes :
    (∃ (s : State), s.pwr.aux = false)
    ∧ (∃ (s : State), s.pwr.aux = true) := by
  refine ⟨?_, ?_⟩
  · exact ⟨State.reset, by decide +kernel⟩
  · exact ⟨tAux, by decide +kernel⟩

theorem witness_PwrfailFilterActs :
    (∃ (s : State) (l : List Bool), s.pwr.aux = true ∧ (pfRun s.pwr.pfCount l).2 = true ∧ s.isSeq .standby = true)
    ∧ (∃ (s : State) (l : List Bool), s.pwr.aux = true ∧ (pfRun s.pwr.pfCount l).2 = true ∧ s.isSeq .pkgOn = true ∧
        s.topRail ≠ 0 ∧ s.fw.transfer = none)
    ∧ (∃ (s : State) (l : List Bool), s.pwr.aux = true ∧ pfRun s.pwr.pfCount l = (0, false) ∧
        newLows s.pwr.pfCount l ≠ 0)
    ∧ (∃ (s : State) (x : Samples), s.pwr.aux = true ∧ s.bit Reg.PWR_STATUS_PF_PIN = true ∧ x.value = false) := by
  refine ⟨?_, ?_, ?_, ?_⟩
  · exact ⟨({ State.reset with pwr := { aux := true, pfCount := 199 } } : State), [false], by decide +kernel⟩
  · exact ⟨tSeq .pkgOn { aux := true, pfCount := 199, onMask := 1 }, [false], by decide +kernel⟩
  · exact ⟨tAux, [false, true], by decide +kernel⟩
  · exact ⟨tAux.wr Reg.PWR_STATUS_PF_PIN 1, tSmp false, by decide +kernel⟩

theorem witness_RailsComeUp :
    (∃ (s : State) (x : Samples), s.pwr.aux = true ∧ s.isSeq .standby = true ∧ s.mayRestart = true ∧
      x.value = false ∧ s.pwr.pmicRead = true ∧ s.bit Reg.KEEP_STATUS_FLASH_OK = true)
    ∧ (∃ (s : State) (q : RailPoll), s.raising q.rail = true ∧ s.pwr.ramping = false ∧ pollLost q = false ∧
        voltOff q.rail (s.railVolt q) = true)
    ∧ (∃ (s : State) (q : RailPoll), s.raising q.rail = true ∧ s.pwr.ramping = true ∧ pollLost q = false ∧
        s.pollFault q = false ∧ voltGood q.rail (s.railVolt q) = true ∧ s.pwr.goodPolls ≠ 0 ∧ q.rail ≠ 8 ∧
        q.rail ≠ 12)
    ∧ (∃ (s : State), s.isSeq .pkgOn = true ∧ s.pwr.mediaWait = false ∧ s.pwr.mediaStopped = false ∧
        s.slotHere = true)
    ∧ (∃ (s : State) (q : RailPoll), 1 ≤ q.rail ∧ q.rail ≤ 12 ∧ s.isOn q.rail = true ∧ s.isSeq .pkgOn = true ∧
        pollLost q = false ∧ s.pollFault q = false ∧ voltBad q.rail (s.railVolt q) = false ∧
        s.railVolt q < 2 ^ Reg.PWR_RAIL_VOUT.width) := by
  refine ⟨?_, ?_, ?_, ?_, ?_⟩
  · exact ⟨(tSeq .standby { aux := true, high100 := true, pmicRead := true }).wr Reg.KEEP_STATUS_FLASH_OK 1, tSmp false,
        by decide +kernel⟩
  · exact ⟨tSeq .pkgUp { aux := true, rail := 1 }, tPoll 1 249, by decide +kernel⟩
  · exact ⟨tSeq .pkgUp { aux := true, rail := 1, ramping := true, goodPolls := 1 }, tPoll 1 2375, by decide +kernel⟩
  · exact ⟨tSeq .pkgOn { aux := true }, by decide +kernel⟩
  · exact ⟨tSeq .pkgOn { aux := true, onMask := 0x800 }, tPoll 12 3036, by decide +kernel⟩

theorem witness_RailsFailAndGoDown :
    (∃ (s : State), s.isSeq .pkgUp = true ∧ s.pwr.ramping = true ∧ s.raising s.pwr.rail = true)
    ∧ (∃ (s : State) (q : RailPoll), s.goingDown = true ∧ q.rail = s.pwr.rail ∧ 1 ≤ q.rail ∧ q.rail ≤ 12 ∧
        pollLost q = false ∧ voltOff q.rail (s.railVolt q) = true)
    ∧ (∃ (s : State) (q : RailPoll), s.goingDown = true ∧ q.rail = s.pwr.rail ∧ 1 ≤ q.rail ∧ q.rail ≤ 12 ∧
        pollLost q = false ∧ voltOff q.rail (s.railVolt q) = false)
    ∧ (∃ (s : State), s.goingDown = true ∧ s.pwr.discharged = false)
    ∧ (∃ (s : State), s.goingDown = true ∧ s.pwr.discharged = true ∧ s.pwr.rail ≤ 12)
    ∧ (∃ (s : State), s.isSeq .offHold = true ∧ s.pwr.after = .lockout)
    ∧ (∃ (s : State) (n : Nat), s.pwr.aux = true ∧ s.pwr.thermtripN = false ∧ 125 ≤ n ∧ s.isSeq .standby = true) := by
  refine ⟨?_, ?_, ?_, ?_, ?_, ?_, ?_⟩
  · exact ⟨tSeq .pkgUp { aux := true, rail := 1, ramping := true }, by decide +kernel⟩
  · exact ⟨tSeq .down { aux := true, rail := 12, onMask := 0x800 }, tPoll 12 329, by decide +kernel⟩
  · exact ⟨tSeq .down { aux := true, rail := 12, onMask := 0x800 }, tPoll 12 330, by decide +kernel⟩
  · exact ⟨tSeq .down { aux := true, rail := 1, onMask := 1 }, by decide +kernel⟩
  · exact ⟨tSeq .down { aux := true, rail := 12, onMask := 0x800, discharged := true }, by decide +kernel⟩
  · exact ⟨tSeq .offHold { aux := true, after := .lockout }, by decide +kernel⟩
  · exact ⟨tAux, 125, by decide +kernel⟩

theorem witness_CapoFlushesSavesAndResumes :
    (∃ (s : State), s.isSeq .capo = true ∧ s.flushReady = true)
    ∧ (∃ (s : State), s.isSeq .capo = true ∧ s.merge.capo = 6 ∧ s.keep.queue = [] ∧ s.pwr.cause = .pwrfail)
    ∧ (∃ (s : State), s.isSeq .capoHold = true ∧ s.pwr.high100 = true) := by
  refine ⟨?_, ?_, ?_⟩
  · exact ⟨(({ tOn with merge := { capo := 4 } } : State).setSeq .capo).wr Reg.SCHED_STATUS_LAYOUT 1, by decide +kernel⟩
  · exact ⟨(({ tOn with merge := { capo := 6 }, pwr := { aux := true, cause := .pwrfail } } : State).setSeq .capo),
        by decide +kernel⟩
  · exact ⟨tSeq .capoHold { aux := true, high100 := true }, by decide +kernel⟩

theorem witness_StartStepsComplete :
    (∃ (s : State), s.awaitsHbm = true)
    ∧ (∃ (s : State), s.packageUp = true ∧ s.start.hbmTrained = true ∧ s.start.step3 = false)
    ∧ (∃ (s : State), s.packageUp = true ∧ s.start.step2 = false)
    ∧ (∃ (s : State), s.mayRebuild = true)
    ∧ (∃ (s : State), s.isSeq .on = true ∧ s.start.rebuilding = true)
    ∧ (∃ (s : State), s.isSeq .on = true ∧ s.start.step6 = true ∧ s.start.step7 = false)
    ∧ (∃ (s : State), s.isSeq .on = true ∧ s.ready = false ∧ s.start.warm = 0 ∧ s.markerKept = true)
    ∧ (∃ (s : State), s.start.step9 = true ∧ s.bit Reg.CHAN_G_AGE_WAKE = true ∧ s.err.wake = [])
    ∧ (∃ (s : State), s.start.copying = true ∧ ImageOp.copy ∉ s.imageOps) := by
  refine ⟨?_, ?_, ?_, ?_, ?_, ?_, ?_, ?_, ?_⟩
  · exact ⟨({ tAux with start := {} } : State).setSeq .pkgOn, by decide +kernel⟩
  · exact ⟨({ tAux with start := { hbmTrained := true } } : State).setSeq .pkgOn, by decide +kernel⟩
  · exact ⟨tAux.setSeq .pkgOn, by decide +kernel⟩
  · exact ⟨({ tAux with start := { step3 := true, step5 := true } } : State).setSeq .on, by decide +kernel⟩
  · exact ⟨({ tAux with start := { step3 := true, step5 := true, rebuilding := true } } : State).setSeq .on,
        by decide +kernel⟩
  · exact ⟨({ tAux with start := { step6 := true } } : State).setSeq .on, by decide +kernel⟩
  · exact ⟨({ tAux with start := { step9 := true } } : State).setSeq .on, by decide +kernel⟩
  · exact ⟨tOn.wr Reg.CHAN_G_AGE_WAKE 1, by decide +kernel⟩
  · exact ⟨({ tAux with start := { copying := true } } : State), by decide +kernel⟩

theorem witness_WarmResetRuns :
    (∃ (s : State) (p : CmdPath), s.start.step3 = true ∧ s.resent p (.deviceReset p) = none ∧
      s.accepts .admin p = true ∧ s.mayWarm = true)
    ∧ (∃ (s : State) (v : Word), v.getLsbD 0 = true ∧ s.mayWarm = true)
    ∧ (∃ (s : State), s.isSeq .on = true ∧ s.start.warm = 2 ∧ s.flushReady = true ∧ (∀ l ∈ s.prot.lodged,
        l.group ≠ 0 → l.kept = true))
    ∧ (∃ (s : State), s.isSeq .on = true ∧ s.start.warm = 5 ∧ s.markerKept = true) := by
  refine ⟨?_, ?_, ?_, ?_⟩
  · exact ⟨tOn, tFm, by decide +kernel⟩
  · exact ⟨tOn, 1, by decide +kernel⟩
  · exact ⟨(({ tOn with start := { warm := 2 }, merge := { capo := 4 }, prot := { lodged := [tLod 1 true (.anchor 1)] } } : State).wr Reg.SCHED_STATUS_LAYOUT 1),
        by decide +kernel⟩
  · exact ⟨({ tOn with start := { warm := 5, step9 := true } } : State), by decide +kernel⟩

theorem witness_KeepAndChronicleWrite :
    (∃ (s : State) (w : KeepWrite) (r : List KeepWrite) (q : Nat), s.keep.op = some .keepProgram ∧
      s.keep.queue = w :: r ∧ w.seq = some q ∧ w.group = 0 ∧ w.page ≠ 12)
    ∧ (∃ (s : State) (n : Nat), s.keep.op = some (.eraseKeep n) ∧ n < 224)
    ∧ (∃ (s : State), s.keep.optime.pending ≠ 0 ∧ s.keep.optime.step = .idle ∧ s.keep.optime.count + 1 < spreadBits)
    ∧ (∃ (s : State) (n : Nat) (r : ChronRec) (rest : List (Nat × ChronRec)), s.keep.op = some .chronicleProgram ∧
        s.chron.buffer = (n, r) :: rest ∧ s.chron.perm.length < 1023)
    ∧ (∃ (s : State) (k : Nat), s.keep.op = some (.eraseRing k) ∧ s.chron.perm.length < 1024)
    ∧ (∃ (s : State) (code src : Nat) (r : ChronRun), s.findRun code src = some r)
    ∧ (∃ (v : Word), v.toNat % 128 ≤ 111)
    ∧ (∃ (v : Word), 111 < v.toNat % 128) := by
  refine ⟨?_, ?_, ?_, ?_, ?_, ?_, ?_, ?_⟩
  · exact ⟨({ tOn with keep := { op := some .keepProgram, queue := [⟨1, 0, .header 0 0, some 1, 0, 0, false⟩] } } : State),
        ⟨1, 0, .header 0 0, some 1, 0, 0, false⟩, [], 1, by decide +kernel⟩
  · exact ⟨({ tOn with keep := { op := some (.eraseKeep 223) } } : State), 223, by decide +kernel⟩
  · exact ⟨({ tOn with keep := { optime := { pending := 1, count := 30718 } } } : State), by decide +kernel⟩
  · exact ⟨({ tOn with keep := { op := some .chronicleProgram }, chron := { buffer := [(0, tRec)] } } : State), 0, tRec,
        [], by decide +kernel⟩
  · exact ⟨({ tOn with keep := { op := some (.eraseRing 0) } } : State), 0, by decide +kernel⟩
  · exact ⟨({ tOn with chron := { runs := [⟨1, 0, .gone, 2, 0⟩] } } : State), 1, 0, ⟨1, 0, .gone, 2, 0⟩,
        by decide +kernel⟩
  · exact ⟨111, by decide +kernel⟩
  · exact ⟨112, by decide +kernel⟩

theorem witness_CounterClearsWaitForTheBoundary :
    (∃ (v : Word), v.getLsbD 0 = true)
    ∧ (∃ (v : Word) (n : Nat), v.getLsbD 0 = true ∧ n < 64)
    ∧ (∃ (v : Word) (n : Nat), v.getLsbD 0 = true ∧ n < 4)
    ∧ (∃ (v : Word), v.getLsbD 0 = false) := by
  refine ⟨?_, ?_, ?_, ?_⟩
  · exact ⟨1, by decide +kernel⟩
  · exact ⟨1, 63, by decide +kernel⟩
  · exact ⟨1, 3, by decide +kernel⟩
  · exact ⟨2, by decide +kernel⟩

theorem witness_TimeMovesByStrokes :
    (∃ (s : State), s.pwr.aux = true)
    ∧ (∃ (s : State), s.epochDue = true)
    ∧ (∃ (s : State), s.sched.locked ≤ s.stroke)
    ∧ (∃ (s : State), s.stroke < s.sched.locked) := by
  refine ⟨?_, ?_, ?_, ?_⟩
  · exact ⟨tAux, by decide +kernel⟩
  · exact ⟨({ tOn with epochDue := true } : State), by decide +kernel⟩
  · exact ⟨tOn, by decide +kernel⟩
  · exact ⟨({ tOn with sched := { locked := 1 } } : State), by decide +kernel⟩

theorem witness_ReadsReachTheMedium :
    (∃ (s : State) (rid : Nat) (r : Req) (mp : Nat), s.reqs.find rid = some r ∧ r.admits = true ∧ r.result = none ∧
      s.sched.jobs.any (fun e => e.2.why == .host rid) = false ∧ s.readMp (lpnOf r.line) = some mp)
    ∧ (∃ (s : State) (n : Nat) (e : MediaErr) (j : Job) (rid : Nat), s.sched.jobs.find n = some j ∧
        j.why = .host rid ∧ (j.phase = .placed ∨ j.phase = .retry) ∧ j.stroke ≤ s.stroke ∧
        s.decodeAt j.mp j.ln e = .failed)
    ∧ (∃ (s : State) (n : Nat) (e : MediaErr) (j : Job) (rid : Nat) (r : Req) (d : LineData) (k : Nat),
        s.sched.jobs.find n = some j ∧ j.why = .host rid ∧ j.phase = .placed ∧ j.stroke ≤ s.stroke ∧
        s.decodeAt j.mp j.ln e = .good d k ∧ s.reqs.find rid = some r ∧ r.looked = true ∧ r.stage = .lookup ∧
        r.result = none ∧ r.refetch = false ∧ r.partialHit = false ∧ r.discard = false ∧
        s.linkUp r.port r.link = true ∧ s.insecure r.port r.link = false ∧ r.port < 4 ∧ r.link < 2 ∧
        mpChan j.mp < 64 ∧ s.prot.slotBad = [])
    ∧ (∃ (s : State) (n : Nat) (e : MediaErr) (j : Job) (rid : Nat) (r : Req) (d : LineData) (k : Nat),
        s.sched.jobs.find n = some j ∧ j.why = .host rid ∧ j.phase = .group ∧ j.stroke ≤ s.stroke ∧
        s.rebuildAt j.mp j.ln e = .good d k ∧ s.reqs.find rid = some r ∧ r.looked = true ∧ r.stage = .lookup ∧
        r.result = none ∧ r.refetch = false ∧ r.partialHit = false ∧ r.discard = false ∧
        s.linkUp r.port r.link = true ∧ s.insecure r.port r.link = false ∧ r.port < 4 ∧ r.link < 2 ∧
        s.prot.slotBad = [])
    ∧ (∃ (s : State) (b : BankId) (o : BankOp), s.ops.find (bankKey b) = some o ∧ o.suspended = true) := by
  refine ⟨?_, ?_, ?_, ?_, ?_⟩
  · exact ⟨({ tMedia with reqs := [(0, tReq)] } : State), 0, tReq, tMp, by decide +kernel⟩
  · exact ⟨({ tOn with reqs := [(0, { tReq with looked := true })], sched := { jobs := [(0, tJob (.host 0) .placed)] } } : State),
        0, tNone, tJob (.host 0) .placed, 0, by decide +kernel⟩
  · exact ⟨({ tMedia with reqs := [(0, { tReq with looked := true })], sched := { jobs := [(0, tJob (.host 0) .placed)] } } : State),
        0, ⟨10, 1⟩, tJob (.host 0) .placed, 0, { tReq with looked := true }, 0, 11, by decide +kernel⟩
  · exact ⟨({ tMedia with reqs := [(0, { tReq with looked := true })], sched := { jobs := [(0, tJob (.host 0) .group)] } } : State),
        0, ⟨10, 1⟩, tJob (.host 0) .group, 0, { tReq with looked := true }, 0, 10, by decide +kernel⟩
  · exact ⟨({ tMedia with ops := [(64, { tOp .drain with suspended := true })] } : State), ⟨1, 0, 0⟩,
        { tOp .drain with suspended := true }, by decide +kernel⟩

theorem witness_ChannelsReportAndTrain :
    (∃ (s : State) (c : Nat), c < 64 ∧ s.rd Reg.CHAN_STATUS_STATE c = 2)
    ∧ (∃ (s : State) (c : Nat) (x : StatusLine), c < 64 ∧ (s.chan c).wantStatus = true ∧ x.faultMask = 0 ∧
        x.causes = 0)
    ∧ (∃ (s : State) (c : Nat), c < 64 ∧ (s.chan c).wantStatus = true ∧ (s.chan c).noReply < 2)
    ∧ (∃ (s : State) (c : Nat), c < 64 ∧ (s.chan c).wantStatus = true ∧ 2 ≤ (s.chan c).noReply)
    ∧ (∃ (s : State) (c : Nat), c < 64 ∧ s.startTraining = true ∧ (s.chan c).restarts < 3)
    ∧ (∃ (s : State), s.startTraining = true ∧ s.start.step2 = true)
    ∧ (∃ (s : State) (r : TrainResult), r.chan < 64 ∧ s.startTraining = false ∧ (s.chan r.chan).full = true ∧
        r.answered = true)
    ∧ (∃ (s : State) (c : Nat), c < 64 ∧ s.bit Reg.CHAN_STATUS_RETRAIN c = true ∧ (s.chan c).full = false) := by
  refine ⟨?_, ?_, ?_, ?_, ?_, ?_, ?_, ?_⟩
  · exact ⟨tOn.wr Reg.CHAN_STATUS_STATE 2 63, 63, by decide +kernel⟩
  · exact ⟨({ tOn with chans := [(63, { wantStatus := true })] } : State), 63, tLine, by decide +kernel⟩
  · exact ⟨({ tOn with chans := [(63, { wantStatus := true, noReply := 1 })] } : State), 63, by decide +kernel⟩
  · exact ⟨({ tOn with chans := [(63, { wantStatus := true, noReply := 2 })] } : State), 63, by decide +kernel⟩
  · exact ⟨({ tOn with start := {}, chans := [(63, { restarts := 2 })] } : State), 63, by decide +kernel⟩
  · exact ⟨({ tOn with start := { step2 := true } } : State), by decide +kernel⟩
  · exact ⟨({ tOn with chans := [(63, { full := true })] } : State), tTrain 63, by decide +kernel⟩
  · exact ⟨tOn.wr Reg.CHAN_STATUS_RETRAIN 1 63, 63, by decide +kernel⟩

theorem witness_ProgramsReachTheMedium :
    (∃ (s : State) (b : BankId) (e : MediaErr) (o : BankOp) (old : MLine) (l : Lin),
      s.ops.find (bankKey b) = some o ∧ (o.kind = .drain ∨ o.kind = .rewrite) ∧ o.returned = false ∧
      o.stroke ≤ s.stroke ∧ s.mline o.mp o.ln = some old ∧ correctedLin old e = some l ∧ mpBank o.parity ≠ bankKey b)
    ∧ (∃ (s : State) (b : BankId) (o : BankOp), s.ops.find (bankKey b) = some o ∧ o.kind = .drain ∧
        o.returned = true ∧ o.suspended = false ∧ o.stroke ≤ s.stroke ∧ (s.pages.find o.mp).isSome = true ∧
        o.ln < 64)
    ∧ (∃ (s : State) (b : BankId) (o : BankOp) (d : Lin) (l : MLine), s.ops.find (bankKey b) = some o ∧
        o.kind = .toggle ∧ o.delta = some d ∧ o.suspended = false ∧ o.stroke ≤ s.stroke ∧
        s.mline o.mp o.ln = some l ∧ o.ln < 64)
    ∧ (∃ (s : State), s.img.tAge ≤ s.err.ageStrokes ∧ s.bit Reg.CHAN_G_AGE_WAKE = false)
    ∧ (∃ (s : State) (b : Nat), b ∈ s.xlat.evac ∧ s.evacuated b = true) := by
  refine ⟨?_, ?_, ?_, ?_, ?_⟩
  · exact ⟨({ tMedia with ops := [(64, tOp .drain)] } : State), ⟨1, 0, 0⟩, ⟨10, 1⟩, tOp .drain, {}, {}, by decide +kernel⟩
  · exact ⟨({ tMedia with ops := [(64, { tOp .drain with returned := true })] } : State), ⟨1, 0, 0⟩,
        { tOp .drain with returned := true }, by decide +kernel⟩
  · exact ⟨({ tMedia with ops := [(64, { tOp .toggle with delta := some {} })] } : State), ⟨1, 0, 0⟩,
        { tOp .toggle with delta := some {} }, {}, {}, by decide +kernel⟩
  · exact ⟨({ tOn with err := { ageStrokes := 2 ^ 37 } } : State), by decide +kernel⟩
  · exact ⟨({ tOn with xlat := { evac := [5] } } : State), 5, by decide +kernel⟩

theorem witness_MessagesEnterTheirLane :
    (∃ (s : State) (m : M2S) (f : Found), s.hears m.port m.link = true ∧ s.lookup m = some f)
    ∧ (∃ (s : State) (m : M2S) (f : Found), s.hears m.port m.link = true ∧ s.lookup m = some f ∧
        s.owesSnoop f.sess f.line = false)
    ∧ (∃ (s : State) (m : M2S), s.hears m.port m.link = true ∧ s.lookup m = none) := by
  refine ⟨?_, ?_, ?_⟩
  · exact ⟨tOn, tMsg 0, ⟨0, 0, false⟩, by decide +kernel⟩
  · exact ⟨tOn, tMsg 0, ⟨0, 0, false⟩, by decide +kernel⟩
  · exact ⟨tOn, tMsg 1, by decide +kernel⟩

theorem witness_SpeculationAndSnoops :
    (∃ (s : State) (m : M2S) (f : Found) (d : LineData), s.hears m.port m.link = true ∧ s.lookup m = some f ∧
      s.cache.rcOn = true ∧ s.bit Reg.CACHE_RC_CFG_SPEC_FILL_EN = true ∧ s.ready = true ∧
      s.rd Reg.SCHED_STATUS_LAYOUT ≠ 1 ∧ s.entry f.line = none ∧ s.lineBusy f.line = false ∧
      s.unverified f.line = false ∧ s.internalOn f.line = none ∧ s.mediaNow f.line = some d)
    ∧ (∃ (s : State) (p l n line : Nat) (x : Snoop), s.hears p l = true ∧ s.owesSnoop n line = true ∧
        s.cache.snoops.find? (fun x => x.line == line && x.waiting.contains n) = some x ∧
        x.waiting.filter (· != n) ≠ [])
    ∧ (∃ (s : State) (n line : Nat) (x : Snoop), s.waitsFor n line false = true ∧
        s.cache.snoops.find? (fun x => x.line == line && x.waiting.contains n) = some x ∧
        x.waiting.filter (· != n) ≠ [])
    ∧ (∃ (s : State) (n line : Nat) (x : Snoop), s.waitsFor n line true = true ∧
        s.cache.snoops.find? (fun x => x.line == line && x.waiting.contains n) = some x ∧
        x.waiting.filter (· != n) ≠ [])
    ∧ (∃ (s : State) (p l : Nat), s.hears p l = true ∧ s.cache.snoops = [] ∧ s.cache.biCredits.length = 8) := by
  refine ⟨?_, ?_, ?_, ?_, ?_⟩
  · exact ⟨tMedia, tMsg 0, ⟨0, 0, false⟩, 0, by decide +kernel⟩
  · exact ⟨({ tOn with cache := { snoops := [tSnoop .evict] } } : State), 0, 0, 0, 0, tSnoop .evict, by decide +kernel⟩
  · exact ⟨({ tOn with cache := { snoops := [tSnoop .evict] } } : State), 0, 0, tSnoop .evict, by decide +kernel⟩
  · exact ⟨({ tOn with cache := { snoops := [tSnoop (.fence 0)] } } : State), 0, 0, tSnoop (.fence 0), by decide +kernel⟩
  · exact ⟨tOn, 0, 0, by decide +kernel⟩

theorem witness_LinksAndPorts :
    (∃ (s : State) (p l : Nat), s.hears p l = true)
    ∧ (∃ (s : State) (p l : Nat), p < 4 ∧ l < 2 ∧ s.linkUp p l = true)
    ∧ (∃ (s : State) (p rate w flit : Nat), p < 4 ∧ s.linkUp p 0 = false ∧ p ∉ s.perst ∧ 1 ≤ rate ∧ rate ≤ 4 ∧
        1 ≤ w ∧ w ≤ s.fullWidth p ∧ flit ≤ 2 ∧ s.isSeq .on = true)
    ∧ (∃ (s : State) (p ns : Nat), p < 4 ∧ 1000 ≤ ns ∧ p ∉ s.perst)
    ∧ (∃ (s : State) (p : Nat) (v : Word), p < 4 ∧ v.toNat % 4 ≠ 3 ∧ 1 ≤ v.toNat / 8 % 8 ∧ v.toNat / 8 % 8 ≤ 4 ∧
        s.sessions.any (fun e => e.2.claims.any (fun w => w.port == p)) = false)
    ∧ (∃ (s : State) (p : Nat) (v : Word), p < 4 ∧ v.toNat % 4 ≠ 3 ∧ 1 ≤ v.toNat / 8 % 8 ∧ v.toNat / 8 % 8 ≤ 4 ∧
        s.sessions.any (fun e => e.2.claims.any (fun w => w.port == p)) = true ∧
        v.toNat % 4 ≠ s.rd Reg.PORT_CFG_MODE p) := by
  refine ⟨?_, ?_, ?_, ?_, ?_, ?_⟩
  · exact ⟨tOn, 0, 0, by decide +kernel⟩
  · exact ⟨tOn, 0, 0, by decide +kernel⟩
  · exact ⟨tOn, 3, 4, 3, 2, by decide +kernel⟩
  · exact ⟨tOn, 3, 1000, by decide +kernel⟩
  · exact ⟨tOn, 3, 0x20, by decide +kernel⟩
  · exact ⟨tOn, 0, 8, by decide +kernel⟩

theorem witness_SessionCommands :
    (∃ (s : State) (p : CmdPath) (n : Nat) (w : SessWords), s.start.step3 = true ∧
      s.resent p (.sessionCreate p n w) = none ∧ s.accepts .admin p = true ∧ s.createReason p n w = 0 ∧
      (s.sess n).state = .free)
    ∧ (∃ (s : State) (p : CmdPath) (n : Nat) (w : SessWords), s.start.step3 = true ∧
        s.resent p (.sessionCreate p n w) = none ∧ s.accepts .admin p = true ∧ s.createReason p n w ≠ 0 ∧
        s.createReason p n w < 256)
    ∧ (∃ (s : State) (p : CmdPath) (n : Nat) (m : SessModify), s.start.step3 = true ∧
        s.resent p (.sessionModify p n m) = none ∧ s.accepts .admin p = true ∧ s.modifyReason p n m = 0 ∧
        (s.sess n).state = .active)
    ∧ (∃ (s : State) (p : CmdPath) (n : Nat), s.start.step3 = true ∧ s.resent p (.sessionFence p n) = none ∧
        s.accepts .admin p = true ∧ n < sessionCount ∧ s.onR59 p = true ∧ (s.sess n).state = .active)
    ∧ (∃ (s : State) (p : CmdPath) (n : Nat), s.start.step3 = true ∧ s.resent p (.sessionGet p n) = none ∧
        s.accepts .admin p = true ∧ n < sessionCount ∧ s.onR59 p = true)
    ∧ (∃ (s : State) (n : Nat), s.drained n = true ∧ (s.sess n).state = .fencing) := by
  refine ⟨?_, ?_, ?_, ?_, ?_, ?_⟩
  · exact ⟨tOn, tFm, 4095, tWords, by decide +kernel⟩
  · exact ⟨tOn, tFm, 4096, tWords, by decide +kernel⟩
  · exact ⟨tOn, tFm, 0, ⟨7168, 4000, 4096, 3, 1, 2, 1023⟩, by decide +kernel⟩
  · exact ⟨tOn, tFm, 0, by decide +kernel⟩
  · exact ⟨tOn, tFm, 4095, by decide +kernel⟩
  · exact ⟨tQ { tSess with state := .fencing, withdrawn := true }, 0, by decide +kernel⟩

theorem witness_QueuedRequestsPass :
    (∃ (s : State) (n : Nat) (d : Desc) (r : List Desc), (s.sess n).rd.head = d :: r ∧ s.serving = true ∧
      (s.sess n).state = .active ∧ (s.sess n).withdrawn = false ∧ d.orphaned = false ∧ d.bad = 0 ∧ d.op = .memRd ∧
      d.db = false ∧ s.mayTrack n d.port d.link = true ∧ (s.sess n).rdUsed < (s.sess n).readAllow)
    ∧ (∃ (s : State) (n : Nat) (d : Desc) (r : List Desc), (s.sess n).rd.head = d :: r ∧ s.serving = true ∧
        (s.sess n).state = .active ∧ (s.sess n).withdrawn = false ∧ d.orphaned = false ∧ d.bad = 0 ∧ d.op = .memRd ∧
        d.db = false ∧ s.mayTrack n d.port d.link = true ∧ (s.sess n).readAllow ≤ (s.sess n).rdUsed ∧
        (s.sess n).stalled = false)
    ∧ (∃ (s : State) (n : Nat) (d : Desc) (r : List Desc) (c : Cell) (h : Nat) (x : Option Nat),
        (s.sess n).wr.head = d :: r ∧ s.serving = true ∧ (s.sess n).state = .active ∧ (s.sess n).withdrawn = false ∧
        d.orphaned = false ∧ d.bad = 0 ∧ d.op = .memWr ∧ d.db = false ∧ s.mayTrack n d.port d.link = true ∧
        (s.sess n).wrUsed < (s.sess n).writeAllow ∧ s.erasing d.line = false ∧ s.unverified d.line = false ∧
        s.merge.cells.find d.cell = some c ∧
        s.mergeRoom { line := d.line, data := c.data, be := d.be, poison := d.poison, cellBad := c.bad, fBad := false } true = .go h x ∧
        d.sess = n)
    ∧ (∃ (s : State) (n : Nat) (l : Lane), ((s.sess n).lane l).head = [] ∧ ((s.sess n).lane l).spill ≠ []) := by
  refine ⟨?_, ?_, ?_, ?_⟩
  · exact ⟨tQ { tSess with rd := { head := [tDesc .memRd] }, rdUsed := 3 }, 0, tDesc .memRd, [], by decide +kernel⟩
  · exact ⟨tQ { tSess with rd := { head := [tDesc .memRd] }, rdUsed := 4 }, 0, tDesc .memRd, [], by decide +kernel⟩
  · exact ⟨({ tQ { tSess with wr := { head := [tDesc .memWr] }, wrUsed := 3 } with merge := { cells := [(0, { sess := 0, tag := 0, data := 9 })], entries := [(0, tEntry 1)] } } : State),
        0, tDesc .memWr, [], { sess := 0, tag := 0, data := 9 }, 0, none, by decide +kernel⟩
  · exact ⟨tQ { tSess with wr := { spill := [tDesc .memWr] } }, 0, .write, by decide +kernel⟩

theorem witness_ReadSourcesAnswer :
    (∃ (s : State) (rid : Nat) (r : Req), s.reqs.find rid = some r ∧ r.stage = .lookup ∧ r.looked = false ∧
      s.entry r.line = none ∧ r.result = none)
    ∧ (∃ (s : State) (rid : Nat) (r : Req) (e : Entry), s.reqs.find rid = some r ∧ r.stage = .lookup ∧
        r.looked = false ∧ s.entry r.line = some e ∧ e.state = .dirty ∧ e.full = true ∧ e.poison = false ∧
        e.fillBad = false ∧ r.discard = false ∧ r.port < 4 ∧ r.link < 2 ∧ s.linkUp r.port r.link = true ∧
        s.insecure r.port r.link = false)
    ∧ (∃ (s : State) (rid : Nat) (r : Req) (epoch : Nat) (d : LineData), s.reqs.find rid = some r ∧
        r.probing = true ∧ r.result = none ∧ r.partialHit = false ∧ r.refetch = false ∧ r.looked = false ∧
        s.cache.rc.find (rcIndex r.line) = some (rcTag r.line, epoch, d) ∧
        laterEpoch epoch (s.tract (tractOf r.line)).lw = true)
    ∧ (∃ (s : State) (k line w : Nat) (x : SliceFill),
        s.cache.fills.find? (fun x => x.slice == k && x.line == line) = some x ∧ s.setHeld k line = false ∧
        x.bad = false ∧ x.overtaken = false ∧ s.wayFor k line = some w ∧ (∀ v, s.victimAt k line w = some v →
        s.wtInFlight k v = false))
    ∧ (∃ (s : State) (line rid : Nat) (r : Req),
        s.reqs.find? (fun e => e.2.line == line && e.2.stage == .merging) = some (rid, r) ∧ r.discard = false ∧
        r.port < 4 ∧ r.link < 2 ∧ s.linkUp r.port r.link = true ∧ s.insecure r.port r.link = false)
    ∧ (∃ (s : State) (line n : Nat) (a : MediaErr) (j : Job) (e : Entry) (d : LineData) (k : Nat),
        s.sched.jobs.find? (fun x => x.2.line == line && x.2.why == .fill && x.2.phase == .placed && decide (x.2.stroke ≤ s.stroke)) = some (n,
        j) ∧ s.entry line = some e ∧ e.full = false ∧ s.dieFailed j.mp = false ∧ s.decodeAt j.mp j.ln a = .good d k) := by
  refine ⟨?_, ?_, ?_, ?_, ?_, ?_⟩
  · exact ⟨({ tOn with reqs := [(0, tReq)] } : State), 0, tReq, by decide +kernel⟩
  · exact ⟨({ tOn with reqs := [(0, tReq)], merge := { entries := [(0, tEntry fullMask)] } } : State), 0, tReq,
        tEntry fullMask, by decide +kernel⟩
  · exact ⟨({ tOn with reqs := [(0, { tReq with probing := true })], cache := { rc := [(0, (0, 511, 3))] } } : State), 0,
        { tReq with probing := true }, 511, 3, by decide +kernel⟩
  · exact ⟨({ tOn with cache := { fills := [⟨0, 0, 3, false, false, .s, false⟩] } } : State), 0, 0, 0,
        ⟨0, 0, 3, false, false, .s, false⟩, by decide +kernel⟩
  · exact ⟨({ tOn with reqs := [(0, { tReq with stage := .merging })] } : State), 0, 0, { tReq with stage := .merging },
        by decide +kernel⟩
  · exact ⟨({ tMedia with merge := { entries := [(0, tEntry 1)] }, sched := { jobs := [(0, tJob .fill .placed)] } } : State),
        0, 0, ⟨10, 1⟩, tJob .fill .placed, tEntry 1, 0, 11, by decide +kernel⟩

theorem witness_PersistencePointsAndBudget :
    (∃ (v : Word), 1 ≤ v.toNat % 64 ∧ v.toNat % 64 ≤ 48 ∧ 100 ≤ v.toNat / 256 % 256 ∧
      budgetFits (v.toNat % 64) (v.toNat / 256 % 256) = true)
    ∧ (∃ (s : State) (v : Word), v.toNat % 64 ≠ s.rd Reg.MERGE_CFG_BUDGET ∧
        budgetFits (v.toNat % 64) (v.toNat / 256 % 256) = false)
    ∧ (∃ (s : State) (p : CmdPath) (S : Nat), heard s p (.persistAt p S) .any ∧ s.bgBusy p = false ∧ s.stroke < S ∧
        S ≤ s.stroke + 2 ^ 24 ∧ (∀ q, s.merge.lastPoint = some q → q < S) ∧ (s.pointAt S = true ∨
        s.pointsFull = false))
    ∧ (∃ (s : State) (S : Nat) (p : Point), s.merge.points.find? (fun p => p.stroke == S) = some p ∧ S ≤ s.stroke ∧
        s.pointLeft p = 0)
    ∧ (∃ (s : State) (S : Nat) (p : Point), s.merge.points.find? (fun p => p.stroke == S) = some p ∧
        s.pointLeft p ≠ 0) := by
  refine ⟨?_, ?_, ?_, ?_, ?_⟩
  · exact ⟨25637, by decide +kernel⟩
  · exact ⟨tOn, 25638, by decide +kernel⟩
  · exact ⟨({ tOn with merge := { lastPoint := some 16777215 } } : State), tFm, 16777216,
        ⟨by unfold heard; decide, by decide, by decide, by decide, fun q h => by cases h; decide, by decide⟩⟩
  · exact ⟨({ tOn with merge := { points := [⟨0, false, true, [], [], none⟩] } } : State), 0,
        ⟨0, false, true, [], [], none⟩, by decide +kernel⟩
  · exact ⟨({ tOn with merge := { points := [⟨0, false, true, [], [], none⟩], entries := [(0, tEntry 1)] } } : State), 0,
        ⟨0, false, true, [], [], none⟩, by decide +kernel⟩

theorem witness_CachesAndInternalWrites :
    (∃ (i : Nat), i < 4)
    ∧ (∃ (s : State) (i g : Nat), i < 4 ∧ s.cache.cleaning.getD i 0 / 2 ^ g % 2 = 1 ∧ s.groupBusy i g = false)
    ∧ (∃ (s : State) (p : CmdPath) (a n f c : Nat), heard s p (.releaseRange p a n) .any ∧ s.ready = true ∧ n ≠ 0 ∧
        wholePages a n = true ∧ s.cmdRange p a (n / 64) = some [(f, c)] ∧ s.bgBusy p = false ∧ s.internals = [])
    ∧ (∃ (s : State) (p : CmdPath) (a l : Nat), heard s p (.injectPoison p a) .any ∧ s.ready = true ∧ a % 64 = 0 ∧
        s.cmdLine p a = some l ∧ s.internals = [])
    ∧ (∃ (s : State) (p : CmdPath) (a l : Nat) (d : LineData), heard s p (.clearPoison p a d) .any ∧ s.ready = true ∧
        a % 64 = 0 ∧ s.cmdLine p a = some l ∧ s.internals = [])
    ∧ (∃ (s : State) (i : Internal) (r : List Internal) (p : CmdPath), s.internals = i :: r ∧
        i.kind = .injectPoison ∧ i.walked = false ∧ i.path = some p ∧ s.sweepInternal.walked = true)
    ∧ (∃ (s : State) (i : Internal) (r : List Internal), s.internals = i :: r ∧ i.kind = .releaseRange ∧
        i.walked = false ∧ s.sweepInternal.walked = true)
    ∧ (∃ (s : State) (i : Internal) (r : List Internal) (p : CmdPath), s.internals = i :: r ∧
        i.kind = .releaseRange ∧ i.walked = true ∧ i.left = [] ∧ i.path = some p ∧ s.mappedInside i = [] ∧
        s.dirtyInside i = false) := by
  refine ⟨?_, ?_, ?_, ?_, ?_, ?_, ?_, ?_⟩
  · exact ⟨3, by decide +kernel⟩
  · exact ⟨({ tOn with cache := { cleaning := [0, 0, 0, 128] } } : State), 3, 7, by decide +kernel⟩
  · exact ⟨tOn, tFm, 4096, 4096, 64, 64, by unfold heard; decide +kernel⟩
  · exact ⟨tOn, tFm, 0x3FFFFFC0, 0xFFFFFF, by unfold heard; decide +kernel⟩
  · exact ⟨tOn, tFm, 0x3FFFFFC0, 0xFFFFFF, 5, by unfold heard; decide +kernel⟩
  · exact ⟨({ tOn with internals := [tInt .injectPoison false] } : State), tInt .injectPoison false, [], tFm,
        by decide +kernel⟩
  · exact ⟨({ tOn with internals := [tInt .releaseRange false] } : State), tInt .releaseRange false, [],
        by decide +kernel⟩
  · exact ⟨({ tOn with internals := [tInt .releaseRange true] } : State), tInt .releaseRange true, [], tFm,
        by decide +kernel⟩

theorem witness_EraseCommandsRun :
    (∃ (s : State) (p : CmdPath), heard s p (.sanitize p) .admin ∧ s.ready = true ∧ s.bgBusy p = false ∧
      s.eraseRuns = false ∧ s.eraseAllowed 1 = true)
    ∧ (∃ (s : State) (p : CmdPath), heard s p (.sanitize p) .admin ∧ s.ready = true ∧ s.bgBusy p = false ∧
        s.eraseRuns = false ∧ s.eraseAllowed 1 = false)
    ∧ (∃ (s : State) (p : CmdPath), heard s p (.secureErase p) .admin ∧ s.ready = true ∧ s.bgBusy p = false ∧
        s.eraseRuns = false ∧ s.eraseAllowed 2 = true)
    ∧ (∃ (s : State), s.prot.slots.any (fun e => e.2.destroyed) = true ∧ s.start.step6 = true ∧
        s.internals.any (fun i => i.group != 0) = false ∧
        s.prot.eraseLeft.any (fun b => s.xlat.precondQ.contains b) = false) := by
  refine ⟨?_, ?_, ?_, ?_⟩
  · exact ⟨tOn, tFm, by unfold heard; decide +kernel⟩
  · exact ⟨({ tOff [] with prot := { officers := [7, 8], eraseAuth := some (1, 0) }, stroke := 187500001 } : State), tFm,
        by unfold heard; decide +kernel⟩
  · exact ⟨({ tOff [] with prot := { officers := [7, 8], eraseAuth := some (2, 0) }, stroke := 187500000 } : State), tFm,
        by unfold heard; decide +kernel⟩
  · exact ⟨({ tOn with prot := { slots := [(0, { destroyed := true })] } } : State), by decide +kernel⟩

theorem witness_MovesAppendsAndSettleBacks :
    (∃ (s : State) (n : Nat) (m : Move) (l : List MPage), s.xlat.moves.find? (fun m => m.tract == n) = some m ∧
      m.load = some l ∧ m.committed = false ∧ m.failed = [])
    ∧ (∃ (s : State) (n : Nat) (c : Copy), s.xlat.copies.find? (fun c => c.lpn == n && c.why != .reclaim) = some c ∧
        s.stripeGathered c.dst = true)
    ∧ (∃ (s : State) (n mp : Nat) (recent : Bool) (c : Copy),
        s.xlat.copies.find? (fun c => c.lpn == n && c.why == .reclaim) = some c ∧ s.stripeGathered c.dst = true ∧
        s.xlat.fluid.find n = some (mp, recent))
    ∧ (∃ (s : State), s.rd Reg.XLAT_CFG_HEAT_HALF ≤ s.xlat.heatEpochs)
    ∧ (∃ (s : State) (b n mp : Nat), s.xlat.fluid.filter (fun e => bucketOf e.1 == b) = [(n, mp, true)])
    ∧ (∃ (s : State) (n : Nat) (x : Settle), s.xlat.settles.find? (fun x => x.lpn == n) = some x ∧
        (s.tract (tractOfLpn n)).state = .settled) := by
  refine ⟨?_, ?_, ?_, ?_, ?_, ?_⟩
  · exact ⟨({ tMedia with xlat := { moves := [{ tract := 0, why := .init, load := some [] }], tracts := [(0, { state := .inTransit })] } } : State),
        0, { tract := 0, why := .init, load := some [] }, [], by decide +kernel⟩
  · exact ⟨({ tMedia with xlat := { copies := [{ why := .lift, lpn := 0, page := tPage, src := none, dst := 0, carried := [] }], blocks := [(0, { fill := 7 })] } } : State),
        0, { why := .lift, lpn := 0, page := tPage, src := none, dst := 0, carried := [] }, by decide +kernel⟩
  · exact ⟨({ tMedia with xlat := { copies := [{ why := .reclaim, lpn := 0, page := tPage, src := none, dst := 0, carried := [] }], blocks := [(0, { fill := 7 })], fluid := [(0, (8, true))] } } : State),
        0, 8, true, { why := .reclaim, lpn := 0, page := tPage, src := none, dst := 0, carried := [] },
        by decide +kernel⟩
  · exact ⟨({ tOn with xlat := { heatEpochs := 65535 } } : State), by decide +kernel⟩
  · exact ⟨({ tOn with xlat := { fluid := [(0, (8, true))] } } : State), 0, 0, 8, by decide +kernel⟩
  · exact ⟨({ tMedia with xlat := { tracts := [(0, { state := .settled, hasLifted := true })], settles := [⟨0, tPage, []⟩] } } : State),
        0, ⟨0, tPage, []⟩, by decide +kernel⟩

theorem witness_BlocksAndTheirRecords :
    (∃ (s : State) (c b : Nat) (k : Block), s.capoHeld = false ∧ s.start.step6 = true ∧ s.reclaimBlock c = some (b,
      k) ∧ k.valid = 0)
    ∧ (∃ (s : State) (b : Nat), s.preconditioning.contains b = true)
    ∧ (∃ (s : State) (b : Nat) (f : BitVec 8), s.preconditioning.contains b = true ∧ f ≠ 0)
    ∧ (∃ (s : State) (c : Nat) (hot : Bool) (x : OpenBlock), s.xlat.opens.find (openKey hot c) = some x ∧
        x.gathered ≠ 0 ∧ x.since + s.rd Reg.XLAT_FILL_CFG_FILL_TIMEOUT ≤ s.stroke ∧ (s.block x.sbn).fill < 1792)
    ∧ (∃ (s : State), s.start.step6 = true ∧ s.xlat.checkpoints.any (fun c => c.number == s.checkpointNo) = false)
    ∧ (∃ (s : State) (b : Nat), s.capoHeld = false ∧ s.isFree b = true ∧
        s.horizon < s.stroke - (s.block b).time * 2 ^ 20) := by
  refine ⟨?_, ?_, ?_, ?_, ?_, ?_⟩
  · exact ⟨({ tOn with xlat := { blocks := [(0, { pool := .cold, sealed := true })], evac := [0] } } : State), 0, 0,
        { pool := .cold, sealed := true }, by decide +kernel⟩
  · exact ⟨({ tOn with xlat := { precondQ := [5] } } : State), 5, by decide +kernel⟩
  · exact ⟨({ tOn with xlat := { precondQ := [5] } } : State), 5, 1, by decide +kernel⟩
  · exact ⟨({ tOn with stroke := 1024, xlat := { opens := [(0, { sbn := 5, gathered := 6 })], blocks := [(5, { pool := .hot, fill := 1791 })] } } : State),
        0, true, { sbn := 5, gathered := 6 }, by decide +kernel⟩
  · exact ⟨tOn, by decide +kernel⟩
  · exact ⟨({ tOn with stroke := 2 ^ 62 } : State).wr Reg.CHAN_STATUS_DIES 4, 5, by decide +kernel⟩

theorem witness_MotionsAreLodgedSecondedAndApplied :
    (∃ (s : State) (p : CmdPath) (m : Motion), heard s p (.motion p m) .mgmt ∧ s.motionReason m = 0 ∧
      unsignedSet m = false)
    ∧ (∃ (s : State) (p : CmdPath) (m : Motion), heard s p (.motion p m) .mgmt ∧ s.motionReason m ≠ 0)
    ∧ (∃ (s : State) (p : CmdPath) (m : Second) (l : Lodged), heard s p (.second p m) .mgmt ∧ s.secondReason m = 0 ∧
        s.findLodged m.motion = some l ∧ s.argsOk m.motion.args = true ∧
        (s.onlyLodged.filter (fun x => !decide (x.motion = m.motion))).any (fun x => motionsConflict x.motion.args m.motion.args) = false)
    ∧ (∃ (s : State) (p : CmdPath) (m : Second), heard s p (.second p m) .mgmt ∧ s.secondReason m ≠ 0)
    ∧ (∃ (s : State) (p : CmdPath) (m : Motion), heard s p (.motionStatus p m) .mgmt)
    ∧ (∃ (s : State) (m : Motion) (l : Lodged), s.findLodged m = some l ∧ l.group = 0 ∧
        l.stroke + lodgeStrokes < s.stroke)
    ∧ (∃ (s : State) (m : Motion) (l : Lodged), s.findLodged m = some l ∧ l.group = 0 ∧
        s.stroke ≤ l.stroke + lodgeStrokes)
    ∧ (∃ (s : State) (l : Lodged), s.prot.lodged.filter (·.kept) = [l])
    ∧ (∃ (s : State) (w st : Nat), s.prot.eraseAuth = some (w, st))
    ∧ (∃ (s : State) (r : Rekey) (rest : List Rekey), s.prot.rekeys = r :: rest ∧ s.passDone r = true) := by
  refine ⟨?_, ?_, ?_, ?_, ?_, ?_, ?_, ?_, ?_, ?_⟩
  · exact ⟨tOff [], tFm, tMot 1 (.anchor 1), by
      simp [tOff_heard, tOff_prot, tOff_internals, tOff_stroke, tMot, tLod, tSec, unsignedSet, kindOf, argRange, argKey,
        motionsConflict, lodgeStrokes, State.motionReason, State.secondReason, State.motionState, State.findLodged,
        State.onlyLodged, State.argsOk, State.protBusy]⟩
  · exact ⟨tOff [], tFm, tMot 2 (.anchor 1), by unfold heard; decide +kernel⟩
  · exact ⟨tOff [tLod 0 false (.anchor 1)], tFm, tSec (.anchor 1) true, tLod 0 false (.anchor 1), by
      simp [tOff_heard, tOff_prot, tOff_internals, tOff_stroke, tMot, tLod, tSec, unsignedSet, kindOf, argRange, argKey,
        motionsConflict, lodgeStrokes, State.motionReason, State.secondReason, State.motionState, State.findLodged,
        State.onlyLodged, State.argsOk, State.protBusy]⟩
  · exact ⟨tOff [tLod 0 false (.anchor 1)], tFm, tSec (.anchor 1) false, by unfold heard; decide +kernel⟩
  · exact ⟨tOff [], tFm, tMot 1 (.anchor 1), by unfold heard; decide +kernel⟩
  · exact ⟨({ tOff [tLod 0 false (.anchor 1)] with stroke := 187500001 } : State), tMot 1 (.anchor 1), tLod 0 false (.anchor 1), by
      simp [tOff_heard, tOff_prot, tOff_internals, tOff_stroke, tMot, tLod, tSec, unsignedSet, kindOf, argRange, argKey,
        motionsConflict, lodgeStrokes, State.motionReason, State.secondReason, State.motionState, State.findLodged,
        State.onlyLodged, State.argsOk, State.protBusy]⟩
  · exact ⟨({ tOff [tLod 0 false (.anchor 1)] with stroke := 187500000 } : State), tMot 1 (.anchor 1), tLod 0 false (.anchor 1), by
      simp [tOff_heard, tOff_prot, tOff_internals, tOff_stroke, tMot, tLod, tSec, unsignedSet, kindOf, argRange, argKey,
        motionsConflict, lodgeStrokes, State.motionReason, State.secondReason, State.motionState, State.findLodged,
        State.onlyLodged, State.argsOk, State.protBusy]⟩
  · exact ⟨tOff [tLod 1 true (.anchor 1)], tLod 1 true (.anchor 1), by
      simp [tOff_heard, tOff_prot, tOff_internals, tOff_stroke, tMot, tLod, tSec, unsignedSet, kindOf, argRange, argKey,
        motionsConflict, lodgeStrokes, State.motionReason, State.secondReason, State.motionState, State.findLodged,
        State.onlyLodged, State.argsOk, State.protBusy]⟩
  · exact ⟨({ tOff [] with prot := { eraseAuth := some (1, 0) } } : State), 1, 0, by decide +kernel⟩
  · exact ⟨({ tOn with prot := { rekeys := [⟨1, 0, 1, false⟩] }, internals := [tInt .rekey true] } : State),
        ⟨1, 0, 1, false⟩, [], by decide +kernel⟩

theorem witness_KeySlotsIdeAndSpdm :
    (∃ (s : State) (n : Nat), s.prot.slotBad.contains n = true)
    ∧ (∃ (s : State) (p l n : Nat), s.ideOpen p l = true ∧ n ≤ 1)
    ∧ (∃ (s : State) (p l n : Nat) (d : IdeDir), s.ideOpen p l = true ∧ n ≤ 1 ∧
        ((s.ideStream p l).keys d).has n = true)
    ∧ (∃ (s : State) (p l n : Nat) (d : IdeDir), s.ideOpen p l = true ∧ ((s.ideStream p l).keys d).going = some n ∧
        n ≤ 1)
    ∧ (∃ (s : State) (p i : Nat), s.ioUp p = true ∧ 1 ≤ i ∧ i ≤ 6)
    ∧ (∃ (s : State) (p : CmdPath), s.ioUp p.port = true) := by
  refine ⟨?_, ?_, ?_, ?_, ?_, ?_⟩
  · exact ⟨({ tOn with prot := { slotBad := [16] } } : State), 16, by decide +kernel⟩
  · exact ⟨({ tOn with prot := { spdm := [0] } } : State), 0, 0, 1, by decide +kernel⟩
  · exact ⟨({ tOn with prot := { spdm := [0], ide := [(0, { rx := { set1 := some 3 } })] } } : State), 0, 0, 1, .rx,
        by decide +kernel⟩
  · exact ⟨({ tOn with prot := { spdm := [0], ide := [(0, { rx := { set1 := some 3, going := some 1 } })] } } : State),
        0, 0, 1, .rx, by decide +kernel⟩
  · exact ⟨tOn, 3, 6, by decide +kernel⟩
  · exact ⟨tOn, tFm, by decide +kernel⟩

theorem witness_HealthPatrolAndScrub :
    (∃ (s : State) (mp mp' : Nat) (p : MPage), s.droneRuns = true ∧
      s.patrolPages.find? (fun x => decide (s.err.patrolPos ≤ x)) = some mp ∧ s.pages.find mp = some p ∧
      s.tooOld p = false ∧ mp' ∈ s.patrolPages ∧ mp < mp')
    ∧ (∃ (s : State), s.droneRuns = true ∧ s.patrolPages.any (fun x => decide (s.err.patrolPos ≤ x)) = false)
    ∧ (∃ (s : State), s.droneRuns = true ∧ s.err.patrolStart + s.effectivePass < s.stroke)
    ∧ (∃ (s : State), s.stroke ≤ s.err.patrolStart + s.effectivePass)
    ∧ (∃ (s : State) (v : Word), 1 ≤ v.toNat % 32 ∧ v.toNat % 32 ≤ 24 ∧ 1 ≤ v.toNat / 32 % 32 ∧
        v.toNat / 32 % 32 ≤ 14 ∧ 1 ≤ v.toNat / 1024 % 16 ∧ v.toNat / 1024 % 16 ≤ 10 ∧
        v.toNat / 32 % 32 * dayStrokes ≤ 14 * s.img.tAge)
    ∧ (∃ (v : Word), (v.toNat % 32 = 0 ∨ 24 < v.toNat % 32))
    ∧ (∃ (s : State) (p : CmdPath) (a n : Nat), heard s p (.scrubRange p a n) .any ∧ s.ready = true ∧
        wholePages a n = true ∧ s.onR59 p = true ∧ lineOf a + lineOf n ≤ s.capLines ∧ s.scrubBusy p = false)
    ∧ (∃ (s : State) (p : CmdPath) (a n : Nat) (l : List (Nat × Nat)), heard s p (.scanMedia p a n) .any ∧
        s.ready = true ∧ s.cmdRange p a n = some l ∧ s.scrubBusy p = false)
    ∧ (∃ (s : State) (p : CmdPath) (a n : Nat) (l : List (Nat × Nat)), heard s p (.scanMedia p a n) .any ∧
        s.ready = true ∧ s.cmdRange p a n = some l ∧ s.scrubBusy p = true)
    ∧ (∃ (s : State) (p : CmdPath) (a n : Nat) (l : List (Nat × Nat)),
        heard s p (.getScanMediaCapabilities p a n) .any ∧ s.ready = true ∧ s.cmdRange p a n = some l)
    ∧ (∃ (s : State) (n : Nat) (x : Scrub), s.err.scrub = some x ∧ x.aborted = false ∧ n < x.stop)
    ∧ (∃ (s : State) (n : Nat) (x : Scrub), s.err.scrub = some x ∧ x.aborted = false ∧ x.stop ≤ n) := by
  refine ⟨?_, ?_, ?_, ?_, ?_, ?_, ?_, ?_, ?_, ?_, ?_, ?_⟩
  · exact ⟨({ tMedia with pages := [(0, tPage), (1, tPage)] } : State), 0, 1, tPage, by decide +kernel⟩
  · exact ⟨tOn, by decide +kernel⟩
  · exact ⟨({ tOn with stroke := 2 ^ 62 } : State), by decide +kernel⟩
  · exact ⟨tOn, by decide +kernel⟩
  · exact ⟨tOn, 0x29D8, by decide +kernel⟩
  · exact ⟨25, by decide +kernel⟩
  · exact ⟨tOn, tFm, 0x3FFFF000, 4096, by unfold heard; decide +kernel⟩
  · exact ⟨tOn, tFm, 0x3FFFFFC0, 1, [(0xFFFFFF, 1)], by unfold heard; decide +kernel⟩
  · exact ⟨({ tOn with err := { scrub := some { path := tFm, scan := false, pieces := [(0, 64)], start := 0, stop := 64 } } } : State),
        tFm, 0x3FFFFFC0, 1, [(0xFFFFFF, 1)], by unfold heard; decide +kernel⟩
  · exact ⟨tOn, tFm, 0x3FFFFFC0, 1, [(0xFFFFFF, 1)], by unfold heard; decide +kernel⟩
  · exact ⟨({ tOn with err := { scrub := some { path := tFm, scan := false, pieces := [(0, 64)], start := 0, stop := 64 } } } : State),
        63, { path := tFm, scan := false, pieces := [(0, 64)], start := 0, stop := 64 }, by decide +kernel⟩
  · exact ⟨({ tOn with err := { scrub := some { path := tFm, scan := false, pieces := [(0, 64)], start := 0, stop := 64 } } } : State),
        64, { path := tFm, scan := false, pieces := [(0, 64)], start := 0, stop := 64 }, by decide +kernel⟩

theorem witness_TransfersFillStaging :
    (∃ (s : State) (p : CmdPath), heard s p (.transferFwFull p) .admin)
    ∧ (∃ (s : State) (p : CmdPath) (n : Nat) (l : List Nat) (h : ImageReport),
        heard s p (.transferFwInitiate p 2 n l h) .admin ∧ s.stagingInUse = false ∧ s.bgBusy p = false ∧
        s.fw.transfer = none ∧ ({ path := p } : Transfer).refusal n l h = none)
    ∧ (∃ (s : State) (p : CmdPath) (n : Nat) (l : List Nat) (h : ImageReport) (x : Transfer),
        heard s p (.transferFwContinue p 2 n l h) .admin ∧ s.fw.transfer = some x ∧ samePath x.path p = true ∧
        s.bgBusy p = false ∧ s.fw.cmd = none ∧ x.refusal n l h = none ∧ x.holds n l = false)
    ∧ (∃ (s : State) (p : CmdPath) (n : Nat) (l : List Nat) (h : ImageReport) (x : Transfer),
        heard s p (.transferFwContinue p 2 n l h) .admin ∧ s.fw.transfer = some x ∧ samePath x.path p = true ∧
        s.bgBusy p = false ∧ s.fw.cmd = none ∧ x.refusal n l h = none ∧ x.holds n l = true)
    ∧ (∃ (s : State) (p : CmdPath) (n : Nat) (l : List Nat) (h : ImageReport) (x : Transfer),
        heard s p (.transferFwEnd p 2 n l h) .admin ∧ s.fw.transfer = some x ∧ samePath x.path p = true ∧
        s.bgBusy p = false ∧ s.fw.cmd = none ∧ x.refusal n l h = none)
    ∧ (∃ (s : State) (p : CmdPath) (x : Transfer), heard s p (.transferFwAbort p) .admin ∧ s.start.copying = false ∧
        s.fw.transfer = some x)
    ∧ (∃ (s : State) (c : XferCmd) (x : Transfer), s.inFlash .transfer = true ∧ s.fw.cmd = some c ∧
        s.fw.transfer = some x)
    ∧ (∃ (s : State) (c : XferCmd) (x : Transfer), s.inFlash .transfer = true ∧ s.fw.cmd = some c ∧
        s.fw.transfer = some x ∧ c.blocks = [] ∧ c.ext = 0 ∧ c.last = false)
    ∧ (∃ (s : State) (c : Nat), s.inFlash (.table c) = true ∧ s.fw.oldBank = false) := by
  refine ⟨?_, ?_, ?_, ?_, ?_, ?_, ?_, ?_, ?_⟩
  · exact ⟨tOn, tFm, by unfold heard; decide +kernel⟩
  · exact ⟨tOn, tFm, 0, [5], tImg, by unfold heard; decide +kernel⟩
  · exact ⟨({ tOn with fw := { transfer := some tXfer } } : State), tFm, 511, [5], tImg, tXfer,
        by unfold heard; decide +kernel⟩
  · exact ⟨({ tOn with fw := { transfer := some { tXfer with units := [(511, 5)] } } } : State), tFm, 511, [5], tImg,
        { tXfer with units := [(511, 5)] }, by unfold heard; decide +kernel⟩
  · exact ⟨({ tOn with fw := { transfer := some tXfer } } : State), tFm, 511, [5], tImg, tXfer,
        by unfold heard; decide +kernel⟩
  · exact ⟨({ tOn with fw := { transfer := some tXfer } } : State), tFm, tXfer, by unfold heard; decide +kernel⟩
  · exact ⟨tFlash .transfer { transfer := some tXfer, cmd := some (tCmd [0]) }, tCmd [0], tXfer, by decide +kernel⟩
  · exact ⟨tFlash .transfer { transfer := some tXfer, cmd := some (tCmd []) }, tCmd [], tXfer, by decide +kernel⟩
  · exact ⟨tFlash (.table 63) { act := some (tAct .online .loading) }, 63, by decide +kernel⟩

theorem witness_ActivationsTakeEffect :
    (∃ (s : State) (p : CmdPath), heard s p (.activateFwOnline p 2) .admin ∧ s.ready = true ∧ s.coordinated = false ∧
      s.bit Reg.MERGE_STATUS_CAPO = false ∧ s.descr.state = 2 ∧ s.fw.act = none ∧ s.bgBusy p = false)
    ∧ (∃ (s : State) (p : CmdPath) (S : Nat), heard s p (.activateAt p S) .admin ∧ s.ready = true ∧
        s.coordinated = false ∧ s.bit Reg.MERGE_STATUS_CAPO = false ∧ s.descr.state = 2 ∧ s.fw.act = none ∧
        s.bgBusy p = false ∧ s.stroke + 1024 ≤ S ∧ S ≤ s.stroke + 2 ^ 24)
    ∧ (∃ (s : State) (p : CmdPath) (S : Nat), heard s p (.activateAt p S) .admin ∧ s.ready = true ∧
        s.coordinated = false ∧ s.bit Reg.MERGE_STATUS_CAPO = false ∧ s.descr.state = 2 ∧ s.fw.act = none ∧
        (S < s.stroke + 1024 ∨ s.stroke + 2 ^ 24 < S))
    ∧ (∃ (s : State) (r : ImageReport) (a : Activation), s.inFlash .verify = true ∧ s.fw.act = some a ∧ r.fault = 0 ∧
        s.imageFault r = 0)
    ∧ (∃ (s : State) (p : CmdPath) (r : ImageReport), heard s p (.activateFwNextColdReset p 2 r) .admin ∧
        s.coordinated = false ∧ s.descr.state = 2 ∧ s.fw.act = none)
    ∧ (∃ (s : State) (a : Activation), s.fw.act = some a ∧ a.stage = .loading ∧
        s.imageOps.any ImageOp.activates = false ∧ s.spareValid = true)
    ∧ (∃ (s : State) (a : Activation), s.fw.act = some a ∧ a.stage = .loading ∧ a.kind ≠ .coordinated)
    ∧ (∃ (s : State) (a : Activation), s.fw.act = some a ∧ a.kind ≠ .coordinated ∧ a.stage = .loaded ∧
        s.fw.oldBank = false ∧ (∀ n, a.stroke = some n → n ≤ s.stroke))
    ∧ (∃ (s : State), s.fw.oldBank = true ∧ s.underOld = false)
    ∧ (∃ (s : State), s.fw.oldBank = true ∧ s.underOld = true) := by
  refine ⟨?_, ?_, ?_, ?_, ?_, ?_, ?_, ?_, ?_, ?_⟩
  · exact ⟨tStaged, tFm, by unfold heard; decide +kernel⟩
  · exact ⟨tStaged, tFm, 1024, by unfold heard; decide +kernel⟩
  · exact ⟨tStaged, tFm, 1023, by unfold heard; decide +kernel⟩
  · exact ⟨({ tFlash .verify { act := some (tAct .online .verify) } with start := { step3 := true } } : State), tImg,
        tAct .online .verify, by decide +kernel⟩
  · exact ⟨tStaged, tFm, tImg, by unfold heard; decide +kernel⟩
  · exact ⟨({ tOn with chans := (List.range 64).map (fun c => (c, { banks := 3 })), fw := { act := some (tAct .online .loading) } } : State),
        tAct .online .loading, by decide +kernel⟩
  · exact ⟨({ tOn with fw := { act := some (tAct .online .loading) } } : State), tAct .online .loading, by decide +kernel⟩
  · exact ⟨({ tStaged with fw := { act := some (tAct .scheduled .loaded) } } : State), tAct .scheduled .loaded,
        ⟨by decide, by decide, by decide, by decide, fun n h => by cases h; decide⟩⟩
  · exact ⟨({ tOn with fw := { oldBank := true } } : State), by decide +kernel⟩
  · exact ⟨({ tOn with fw := { oldBank := true }, ops := [(0, { tOp .drain with tb := 1 })] } : State), by decide +kernel⟩

theorem witness_WorkersTakeTheirCommands :
    (∃ (s : State) (f : Frame) (e : BitVec 64) (n : Nat) (l : List IlvRecord), heardFrame s f ∧ s.epochHigh = false ∧
      n ≤ 64 ∧ s.shelf.epoch < e.toNat ∧ s.heldRecords e.toNat n = some l)
    ∧ (∃ (s : State) (f : Frame) (n : Nat) (r : IlvRecord), heardFrame s f ∧ s.epochHigh = false ∧ n < 64 ∧
        ilvOk r = true)
    ∧ (∃ (s : State) (f : Frame), heardFrame s f ∧ f.bcast = false ∧ s.bit Reg.PWR_STATUS_SLOT_WAIT = true)
    ∧ (∃ (s : State) (f : Frame), heardFrame s f ∧ f.bcast = true)
    ∧ (∃ (s : State) (f : Frame), heardFrame s f ∧ (s.isSeq .pkgOn = true ∨ s.isSeq .on = true))
    ∧ (∃ (s : State) (f : Frame), heardFrame s f ∧ s.pwr.shelfOff = true)
    ∧ (∃ (s : State) (n : Nat), s.pwr.offStroke = some n ∧ s.stroke < n)
    ∧ (∃ (s : State) (n : Nat), s.pwr.offStroke = some n ∧ n ≤ s.stroke ∧ s.isSeq .on = true ∧ s.pwr.dirtySet = true)
    ∧ (∃ (s : State) (f : Frame) (S : Nat), heardFrame s f ∧ s.epochHigh = false ∧
        s.bit Reg.SHELF_DETUNE_IMAGE_CLASS = false ∧ s.stroke < S ∧ (∀ q, s.merge.lastPoint = some q → q < S) ∧
        (s.pointAt S = true ∨ s.pointsFull = false))
    ∧ (∃ (s : State) (f : Frame) (r : ImageReport), heardFrame s f ∧ s.detune % 8 = 0 ∧ s.canPrepare r = true)
    ∧ (∃ (s : State) (f : Frame), heardFrame s f ∧ f.bcast = false ∧ s.epochHigh = true)
    ∧ (∃ (s : State) (f : Frame) (e : Nat × Nat), s.onLink = true ∧ s.manager = false ∧ s.inContact = true ∧
        f.bcast = true ∧ s.shelf.dups.find? (fun e => e.1 == f.seq) = some e)
    ∧ (∃ (s : State) (f : Frame), heardFrame s f)
    ∧ (∃ (s : State), s.onLink = true) := by
  refine ⟨?_, ?_, ?_, ?_, ?_, ?_, ?_, ?_, ?_, ?_, ?_, ?_, ?_, ?_⟩
  · exact ⟨({ tWork with shelf := { held := [(1, 0, tIlv)] } } : State), tFrame, 1, 1, [tIlv],
        by unfold heardFrame; decide +kernel⟩
  · exact ⟨tWork, tFrame, 63, tIlv, by unfold heardFrame; decide +kernel⟩
  · exact ⟨tWork.wr Reg.PWR_STATUS_SLOT_WAIT 1, tFrame, by unfold heardFrame; decide +kernel⟩
  · exact ⟨tWork, tBcast, by unfold heardFrame; decide +kernel⟩
  · exact ⟨tWork, tFrame, by unfold heardFrame; decide +kernel⟩
  · exact ⟨({ tWork with pwr := { aux := true, shelfOff := true } } : State), tFrame,
        by unfold heardFrame; decide +kernel⟩
  · exact ⟨({ tOn with pwr := { aux := true, offStroke := some 1 } } : State), 1, by decide +kernel⟩
  · exact ⟨({ tOn with pwr := { aux := true, offStroke := some 0, dirtySet := true } } : State), 0, by decide +kernel⟩
  · exact ⟨({ tWork with merge := { lastPoint := some 5 } } : State), tFrame, 6,
        ⟨by unfold heardFrame; decide, by decide, by decide, by decide, fun q h => by cases h; decide, by decide⟩⟩
  · exact ⟨({ tWork with start := { step3 := true }, keep := { shadow := [(256, .descriptor { state := 2 })] } } : State),
        tFrame, tImg, by unfold heardFrame; decide +kernel⟩
  · exact ⟨tWork.wr Reg.SHELF_DETUNE_EPOCH_HIGH 1, tFrame, by unfold heardFrame; decide +kernel⟩
  · exact ⟨({ tWork with shelf := { dups := [(1, 0)] } } : State), tBcast, (1, 0), by decide +kernel⟩
  · exact ⟨tWork, tFrame, by unfold heardFrame; decide +kernel⟩
  · exact ⟨tWork, by decide +kernel⟩

theorem witness_ContactTimeAndRoles :
    (∃ (s : State) (b : Beacon), s.onLink = true ∧ s.manager = false ∧ b.pos ≠ s.shelfPos)
    ∧ (∃ (s : State) (b : Beacon), s.onLink = true ∧ s.manager = false ∧ b.pos = s.shelfPos)
    ∧ (∃ (s : State), s.manager = true ∧ s.silentEpoch = false)
    ∧ (∃ (s : State) (f : Status), s.onLink = true ∧ s.manager = true ∧ f.pos ≠ s.shelfPos ∧ s.silentEpoch = false)
    ∧ (∃ (s : State), s.onLink = true ∧ 4 ≤ s.shelf.beaconless)
    ∧ (∃ (s : State), s.onLink = true ∧ s.shelf.beaconless < 4)
    ∧ (∃ (s : State) (q n : Nat), s.manager = true ∧ s.shelf.members.find q = some n ∧ 4 ≤ n)
    ∧ (∃ (s : State) (q n : Nat), s.manager = true ∧ s.shelf.members.find q = some n ∧ n < 4)
    ∧ (∃ (s : State), s.onLink = true ∧ s.shelf.listening = true)
    ∧ (∃ (s : State) (e : Int), s.onLink = true ∧ s.manager = false ∧ s.inContact = true ∧
        -8 ≤ e - Int.ofNat (s.rd Reg.SHELF_CFG_SYNC_TRIM) ∧ e - Int.ofNat (s.rd Reg.SHELF_CFG_SYNC_TRIM) ≤ 8 ∧
        s.timeState = 2)
    ∧ (∃ (s : State) (e : Int), s.onLink = true ∧ s.manager = false ∧ s.inContact = true ∧ s.timeState = 3 ∧
        8 < e - Int.ofNat (s.rd Reg.SHELF_CFG_SYNC_TRIM))
    ∧ (∃ (s : State), 2 ≤ s.timeState ∧ 4 ≤ s.shelf.pulseless)
    ∧ (∃ (s : State), 2 ≤ s.timeState ∧ s.shelf.pulseless < 4) := by
  refine ⟨?_, ?_, ?_, ?_, ?_, ?_, ?_, ?_, ?_, ?_, ?_, ?_, ?_⟩
  · exact ⟨tOn, tBeacon 31, by decide +kernel⟩
  · exact ⟨tOn, tBeacon 0, by decide +kernel⟩
  · exact ⟨({ tMgr with stroke := 6325248 } : State), by simp [tMgr_not_silent]; decide +kernel⟩
  · exact ⟨({ tMgr with stroke := 6325248 } : State), tStat 31, by simp [tMgr_not_silent]; decide +kernel⟩
  · exact ⟨({ tWork with shelf := { beaconless := 4 } } : State), by decide +kernel⟩
  · exact ⟨({ tWork with shelf := { beaconless := 3 } } : State), by decide +kernel⟩
  · exact ⟨({ tMgr with shelf := { members := [(31, 4)] } } : State), 31, 4, by decide +kernel⟩
  · exact ⟨({ tMgr with shelf := { members := [(31, 3)] } } : State), 31, 3, by decide +kernel⟩
  · exact ⟨({ tOn with shelf := { listening := true } } : State), by decide +kernel⟩
  · exact ⟨tWork.wr Reg.SHELF_STATUS_TIME_STATE 2, 8, by decide +kernel⟩
  · exact ⟨tWork.wr Reg.SHELF_STATUS_TIME_STATE 3, 9, by decide +kernel⟩
  · exact ⟨({ tWork with shelf := { pulseless := 4 } } : State).wr Reg.SHELF_STATUS_TIME_STATE 2, by decide +kernel⟩
  · exact ⟨({ tWork with shelf := { pulseless := 3 } } : State).wr Reg.SHELF_STATUS_TIME_STATE 2, by decide +kernel⟩

theorem witness_ManagerRunsTheShelf :
    (∃ (s : State) (p : CmdPath), heard s p (.shelfStatus p) .admin)
    ∧ (∃ (s : State) (p : CmdPath) (l : List IlvRecord), heardManager s p (.setRecords p l) ∧ l.length ≤ 64 ∧
        l.all ilvOk = true)
    ∧ (∃ (s : State) (p : CmdPath) (m : BitVec 32) (S q : Nat), heardManager s p (.shelfPowerOff p m S) ∧
        m ≠ BitVec.allOnes 32 ∧ q ∈ positions m.toNat ∧ q ≠ s.shelfPos)
    ∧ (∃ (s : State) (p : CmdPath) (m : BitVec 32) (q : Nat), heardManager s p (.shelfPowerOn p m) ∧
        m ≠ BitVec.allOnes 32 ∧ q ∈ positions m.toNat ∧ q ≠ s.shelfPos)
    ∧ (∃ (s : State) (p : CmdPath) (S : Nat), heardManager s p (.shelfPersist p S) ∧ s.shelf.point = none)
    ∧ (∃ (s : State) (p : CmdPath) (S : Nat) (r : ImageReport), heardManager s p (.shelfActivate p S r) ∧
        s.shelf.actSent.1 = 0 ∧ s.stroke + 65536 ≤ S ∧ S ≤ s.stroke + 2 ^ 24)
    ∧ (∃ (s : State) (p : CmdPath) (S : Nat) (r : ImageReport), heardManager s p (.shelfActivate p S r) ∧
        s.shelf.actSent.1 = 0 ∧ S < s.stroke + 65536)
    ∧ (∃ (s : State) (p : CmdPath), heard s p (.shelfRelease p 255) .admin ∧ s.epochHigh = true)
    ∧ (∃ (s : State) (p : CmdPath) (q : Nat), heardManager s p (.shelfRelease p q) ∧ q < 32 ∧ q ≠ s.shelfPos)
    ∧ (∃ (s : State) (seq n : Nat) (c : ShelfCmd), s.onLink = true ∧ s.manager = true ∧
        s.shelf.cmds.find? (fun c => c.seq == seq) = some c ∧ c.sent = some n ∧ n + 2 ≤ s.epochNo ∧
        c.resends < s.rd Reg.SHELF_CFG_RETRIES) := by
  refine ⟨?_, ?_, ?_, ?_, ?_, ?_, ?_, ?_, ?_, ?_⟩
  · exact ⟨tMgr, tFm, by unfold heard; decide +kernel⟩
  · exact ⟨tMgr, tFm, List.replicate 64 tIlv, by unfold heardManager heard; decide +kernel⟩
  · exact ⟨tMgr, tFm, 0x80000000, 5, 31, by unfold heardManager heard; decide +kernel⟩
  · exact ⟨tMgr, tFm, 0x80000000, 31, by unfold heardManager heard; decide +kernel⟩
  · exact ⟨tMgr, tFm, 5, by unfold heardManager heard; decide +kernel⟩
  · exact ⟨tMgr, tFm, 66560, tImg, by unfold heardManager heard; decide +kernel⟩
  · exact ⟨tMgr, tFm, 66559, tImg, by unfold heardManager heard; decide +kernel⟩
  · exact ⟨tMgr.wr Reg.SHELF_DETUNE_EPOCH_HIGH 1, tFm, by unfold heard; decide +kernel⟩
  · exact ⟨tMgr, tFm, 31, by unfold heardManager heard; decide +kernel⟩
  · exact ⟨({ tMgr with stroke := 2048, shelf := { cmds := [{ seq := 1, msg := .powerOn, bcast := false, left := [1], why := .update, sent := some 0, resends := 7 }] } } : State),
        1, 0,
        { seq := 1, msg := .powerOn, bcast := false, left := [1], why := .update, sent := some 0, resends := 7 },
        by decide +kernel⟩

theorem witness_PointsAndActivationsEnd :
    (∃ (s : State) (q : ShelfPoint) (l : List Nat), s.manager = true ∧ s.shelf.point = some q ∧ q.members = some l ∧
      l.all (fun p => s.pointOwn.pointFinal p) = true)
    ∧ (∃ (s : State), s.onLink = true ∧ s.manager = true ∧ s.shelf.actSent.1 ≠ 0 ∧ s.decision = 0 ∧
        s.shelf.actSent.2 ≤ s.stroke + 16384 ∧ (∀ a, s.shelf.act = some a → a.seq = s.shelf.actSent.1))
    ∧ (∃ (s : State), s.stroke + 16384 < s.shelf.actSent.2)
    ∧ (∃ (s : State) (x : ShelfAct) (a : Activation), s.shelf.act = some x ∧ s.coordAct = some a ∧
        s.actDue x = true ∧ a.stage = .loaded ∧ s.fw.oldBank = false)
    ∧ (∃ (s : State) (a : ShelfAct), s.shelf.act = some a ∧ s.actValue = 1 ∧ s.decision = 0 ∧
        a.stroke + longWait ≤ s.stroke) := by
  refine ⟨?_, ?_, ?_, ?_, ?_⟩
  · exact ⟨({ tMgr with shelf := { point := some { seq := 1, stroke := 5, members := some [31] } } } : State).wr Reg.SHELF_POINT_DONE_POS 0x80000000,
        { seq := 1, stroke := 5, members := some [31] }, [31], by decide +kernel⟩
  · exact ⟨({ tMgr with shelf := { actSent := (1, 17408), act := some ⟨1, 17408, false⟩ } } : State),
        ⟨by decide, by decide, by decide, by decide, by decide, fun a h => by cases h; decide⟩⟩
  · exact ⟨({ tMgr with shelf := { actSent := (1, 17409) } } : State), by decide +kernel⟩
  · exact ⟨({ tOn with shelf := { act := some ⟨1, 0, false⟩ }, fw := { act := some (tAct .coordinated .loaded) } } : State).wr Reg.SHELF_ACT_STATUS_DECISION 1,
        ⟨1, 0, false⟩, tAct .coordinated .loaded, by decide +kernel⟩
  · exact ⟨({ tOn with stroke := 1048576, shelf := { act := some ⟨1, 0, false⟩ } } : State).wr Reg.SHELF_ACT_STATUS_ACT 1,
        ⟨1, 0, false⟩, by decide +kernel⟩

theorem witness_ReadCommandsAnswer :
    (∃ (s : State) (p : CmdPath), heard s p (.identify p) .any)
    ∧ (∃ (s : State) (p : CmdPath) (n : Nat) (l : Log), heard s p (.getEventRecords p n) .any ∧ logOf n = some l)
    ∧ (∃ (s : State) (p : CmdPath), heard s p (.getEventInterruptPolicy p) .any)
    ∧ (∃ (s : State) (p : CmdPath), heard s p (.getFwInfo p) .any)
    ∧ (∃ (s : State) (p : CmdPath), heard s p (.getTimestamp p) .any)
    ∧ (∃ (s : State) (p : CmdPath), heard s p (.getSupportedLogs p) .any)
    ∧ (∃ (s : State) (p : CmdPath), heard s p (.getLog p) .any)
    ∧ (∃ (s : State) (p : CmdPath), heard s p (.identifyMemoryDevice p) .any)
    ∧ (∃ (s : State) (p : CmdPath), heard s p (.getPartitionInfo p) .any)
    ∧ (∃ (s : State) (p : CmdPath) (n : Nat), heard s p (.unsupportedCommand p n) .any)
    ∧ (∃ (s : State) (p : CmdPath), heard s p (.getHealthInfo p) .any)
    ∧ (∃ (s : State) (p : CmdPath), heard s p (.getAlertConfiguration p) .any)
    ∧ (∃ (s : State) (p : CmdPath), heard s p (.getShutdownState p) .any)
    ∧ (∃ (s : State) (p : CmdPath) (a n : Nat) (v : List (Nat × Nat × Nat)), heard s p (.getPoisonList p a n) .any ∧
        s.ready = true ∧ s.cmdView p a n = some v)
    ∧ (∃ (s : State) (p : CmdPath), heard s p (.getScanMediaResults p) .any ∧ s.ready = true)
    ∧ (∃ (s : State) (p : CmdPath), heard s p (.kekRead p) .any)
    ∧ (∃ (s : State) (p : CmdPath) (n : Nat), heard s p (.keepRead p n) .admin ∧ n ≤ 111)
    ∧ (∃ (s : State) (p : CmdPath) (k n c : Nat), heard s p (.chronicleRead p k n c) .admin ∧ k ≤ 1 ∧ 1 ≤ c ∧
        c ≤ 255) := by
  refine ⟨?_, ?_, ?_, ?_, ?_, ?_, ?_, ?_, ?_, ?_, ?_, ?_, ?_, ?_, ?_, ?_, ?_, ?_⟩
  · exact ⟨tOn, tFm, by unfold heard; decide +kernel⟩
  · exact ⟨tOn, tFm, 3, .fatal, by unfold heard; decide +kernel⟩
  · exact ⟨tOn, tFm, by unfold heard; decide +kernel⟩
  · exact ⟨tOn, tFm, by unfold heard; decide +kernel⟩
  · exact ⟨tOn, tFm, by unfold heard; decide +kernel⟩
  · exact ⟨tOn, tFm, by unfold heard; decide +kernel⟩
  · exact ⟨tOn, tFm, by unfold heard; decide +kernel⟩
  · exact ⟨tOn, tFm, by unfold heard; decide +kernel⟩
  · exact ⟨tOn, tFm, by unfold heard; decide +kernel⟩
  · exact ⟨tOn, tFm, 0xC000, by unfold heard; decide +kernel⟩
  · exact ⟨tOn, tFm, by unfold heard; decide +kernel⟩
  · exact ⟨tOn, tFm, by unfold heard; decide +kernel⟩
  · exact ⟨tOn, tFm, by unfold heard; decide +kernel⟩
  · exact ⟨tOn, tFm, 0, 1, [(0, 0, 1)], by unfold heard; decide +kernel⟩
  · exact ⟨tOn, tFm, by unfold heard; decide +kernel⟩
  · exact ⟨tOn, tFm, by unfold heard; decide +kernel⟩
  · exact ⟨tOn, tFm, 111, by unfold heard; decide +kernel⟩
  · exact ⟨tOn, tFm, 1, 0, 255, by unfold heard; decide +kernel⟩

theorem witness_SettingCommandsTakeEffect :
    (∃ (s : State) (p : CmdPath) (n : Nat) (l : Log) (hs : List Nat), logOf n = some l ∧
      heard s p (.clearEventRecords p n true hs) .admin)
    ∧ (∃ (s : State) (p : CmdPath) (n : Nat) (l : Log) (hs : List Nat), logOf n = some l ∧
        heard s p (.clearEventRecords p n false hs) .admin ∧
        hs.all (fun h => (s.events.log l).records.any (fun r => r.1 == h)) = true)
    ∧ (∃ (s : State) (p : CmdPath) (n : Nat) (l : Log) (hs : List Nat), logOf n = some l ∧
        heard s p (.clearEventRecords p n false hs) .admin ∧
        hs.any (fun h => !(s.events.log l).records.any (fun r => r.1 == h)) = true)
    ∧ (∃ (s : State) (p : CmdPath) (l : List Nat), heard s p (.setEventInterruptPolicy p l) .admin ∧ l.length = 4 ∧
        (∀ m ∈ l, m ≤ 2))
    ∧ (∃ (s : State) (p : CmdPath) (n : Nat), heard s p (.setTimestamp p n) .admin)
    ∧ (∃ (s : State) (p : CmdPath) (c : AlertCfg), heard s p (.setAlertConfiguration p c) .admin ∧ alertsOk c = true)
    ∧ (∃ (s : State) (p : CmdPath) (n : Nat), heard s p (.setShutdownState p n) .admin ∧ n ≤ 1)
    ∧ (∃ (s : State) (p : CmdPath) (x : Scrub), heard s p (.requestAbortBackgroundOperation p) .any ∧
        s.err.scrub = some x) := by
  refine ⟨?_, ?_, ?_, ?_, ?_, ?_, ?_, ?_⟩
  · exact ⟨tOn, tFm, 3, .fatal, [], by unfold heard; decide +kernel⟩
  · exact ⟨({ tOn with events := { info := { records := [(1, .module 0)] } } } : State), tFm, 0, .info, [1],
        by unfold heard; decide +kernel⟩
  · exact ⟨tOn, tFm, 0, .info, [1], by unfold heard; decide +kernel⟩
  · exact ⟨tOn, tFm, [0, 1, 2, 2], by unfold heard; decide +kernel⟩
  · exact ⟨tOn, tFm, 5, by unfold heard; decide +kernel⟩
  · exact ⟨tOn, tFm, ⟨some 100, some 32767, some (-32768), some 65535, some 65535⟩, by unfold heard; decide +kernel⟩
  · exact ⟨tOn, tFm, 1, by unfold heard; decide +kernel⟩
  · exact ⟨({ tOn with err := { scrub := some { path := tFm, scan := false, pieces := [(0, 64)], start := 0, stop := 64 } } } : State),
        tFm, { path := tFm, scan := false, pieces := [(0, 64)], start := 0, stop := 64 },
        by unfold heard; decide +kernel⟩

theorem witness_DynamicCapacityMoves :
    (∃ (s : State) (p : CmdPath), heard s p (.getDynamicCapacityConfiguration p) .any ∧ s.ready = true)
    ∧ (∃ (s : State) (p : CmdPath), heard s p (.getDcRegionConfiguration p) .mgmt ∧ s.ready = true)
    ∧ (∃ (s : State) (p : CmdPath) (n : Nat) (b : List Binding), heard s p (.getDynamicCapacityExtentList p) .any ∧
        s.ready = true ∧ s.cmdSession p = some (n, b))
    ∧ (∃ (s : State) (p : CmdPath) (n : Nat) (b : List Binding) (a l : List Extent),
        heard s p (.addDynamicCapacityResponse p a) .any ∧ s.ready = true ∧ s.cmdSession p = some (n, b) ∧
        devExtents b a = some l ∧ (blocksOf l).all (fun u => inExtents (s.sess n).offered u) = true)
    ∧ (∃ (s : State) (p : CmdPath) (n : Nat) (b : List Binding) (a l : List Extent),
        heard s p (.releaseDynamicCapacity p a) .any ∧ s.ready = true ∧ s.cmdSession p = some (n, b) ∧
        devExtents b a = some l ∧ (blocksOf l).all (fun u => inExtents (s.sess n).extents u) = true)
    ∧ (∃ (s : State) (p : CmdPath) (r b l : Nat) (z : Bool), heard s p (.setDcRegionConfiguration p r b l z) .mgmt ∧
        s.ready = true ∧ s.dc.find r ≠ some ⟨b, l, z⟩ ∧ l ≠ 0 ∧ s.regionFits r b l = true ∧
        (s.dc.find r).any s.regionUsed = false)
    ∧ (∃ (s : State) (p : CmdPath) (r b l : Nat) (z : Bool), heard s p (.setDcRegionConfiguration p r b l z) .mgmt ∧
        s.ready = true ∧ s.dc.find r ≠ some ⟨b, l, z⟩ ∧ (s.dc.find r).any s.regionUsed = true)
    ∧ (∃ (s : State) (p : CmdPath) (n r : Nat) (x : DcRegion) (l : List Extent),
        heard s p (.initiateDynamicCapacityAdd p n r l) .mgmt ∧ s.ready = true ∧ s.dc.find r = some x ∧
        s.addOk n x l = true)
    ∧ (∃ (s : State) (p : CmdPath) (n : Nat) (l : List Extent),
        heard s p (.initiateDynamicCapacityRelease p n l) .mgmt ∧ s.ready = true ∧ blocksOf l ≠ [] ∧
        (blocksOf l).all (fun u => inExtents (s.sess n).extents u) = true) := by
  refine ⟨?_, ?_, ?_, ?_, ?_, ?_, ?_, ?_, ?_⟩
  · exact ⟨tOn, tFm, by unfold heard; decide +kernel⟩
  · exact ⟨tOn, tFm, by unfold heard; decide +kernel⟩
  · exact ⟨tOn, tPri, 0, [tBind], by unfold heard; decide +kernel⟩
  · exact ⟨tQ { tSess with offered := [⟨3, 1⟩] }, tPri, 0, [tBind], [⟨3, 1⟩], [⟨3, 1⟩], by unfold heard; decide +kernel⟩
  · exact ⟨tQ { tSess with extents := [⟨3, 1⟩] }, tPri, 0, [tBind], [⟨3, 1⟩], [⟨3, 1⟩], by unfold heard; decide +kernel⟩
  · exact ⟨tOn, tFm, 7, 0, 4, true, by unfold heard; decide +kernel⟩
  · exact ⟨({ tQ { tSess with extents := [⟨3, 1⟩] } with dc := [(0, ⟨0, 4, false⟩)] } : State), tFm, 0, 0, 2, false,
        by unfold heard; decide +kernel⟩
  · exact ⟨({ tOn with dc := [(0, ⟨0, 4, false⟩)] } : State), tFm, 0, 0, ⟨0, 4, false⟩, [⟨3, 1⟩],
        by unfold heard; decide +kernel⟩
  · exact ⟨tQ { tSess with extents := [⟨3, 1⟩] }, tFm, 0, [⟨3, 1⟩], by unfold heard; decide +kernel⟩

theorem witness_TelemetryControlCommands :
    (∃ (s : State) (p : CmdPath), heard s p (.telemetryStatus p) .admin)
    ∧ (∃ (s : State) (p : CmdPath) (n : Nat), heard s p (.telemetryPeriod p n) .admin)
    ∧ (∃ (s : State) (p : CmdPath), heard s p (.telemetrySnapshot p) .admin)
    ∧ (∃ (s : State) (p : CmdPath), heard s p (.telemetryClear p) .admin)
    ∧ (∃ (s : State) (p : CmdPath) (n : Nat), heard s p (.telemetryFreeze p n) .admin)
    ∧ (∃ (s : State) (p : CmdPath) (n : Nat), heard s p (.telemetryWindow p n) .admin)
    ∧ (∃ (s : State) (p : CmdPath) (v : Word), heard s p (.telemetrySelect p v) .admin ∧ v.toNat / 65536 % 16 ≠ 15 ∧
        evtOk (v.toNat / 65536 % 16) (evtOf (v.toNat % 8192)) = true)
    ∧ (∃ (s : State) (p : CmdPath) (v : Word), heard s p (.telemetrySelect p v) .admin ∧ v.toNat / 65536 % 16 ≠ 15 ∧
        evtOk (v.toNat / 65536 % 16) (evtOf (v.toNat % 8192)) = false ∧
        s.evtReg (v.toNat / 65536 % 16) (v.toNat / 8192 % 8) ≠ evtOf (v.toNat % 8192)) := by
  refine ⟨?_, ?_, ?_, ?_, ?_, ?_, ?_, ?_⟩
  · exact ⟨tOn, tFm, by unfold heard; decide +kernel⟩
  · exact ⟨tOn, tFm, 5, by unfold heard; decide +kernel⟩
  · exact ⟨tOn, tFm, by unfold heard; decide +kernel⟩
  · exact ⟨tOn, tFm, by unfold heard; decide +kernel⟩
  · exact ⟨tOn, tFm, 1, by unfold heard; decide +kernel⟩
  · exact ⟨tOn, tFm, 5, by unfold heard; decide +kernel⟩
  · exact ⟨tOn, tFm, 0xE0008, by unfold heard; decide +kernel⟩
  · exact ⟨tOn, tFm, 0xE0009, by unfold heard; decide +kernel⟩

theorem witness_TelemetryRegistersAndRing :
    (∃ (b i : Nat), b < 15 ∧ i < 8)
    ∧ (∃ (s : State) (r : Snap) (l : List Snap), s.telem.shadow = r :: l)
    ∧ (∃ (s : State) (b : Nat), s.telem.bwStart = some b ∧ b + 2 ^ s.telem.bwK ≤ s.stroke)
    ∧ (∃ (s : State) (b : Nat), s.telem.bwStart = some b ∧ s.stroke < b + 2 ^ s.telem.bwK)
    ∧ (∃ (a n : Nat) (e : HbmErr), [4, 8, 16, 32, 64].contains n = true ∧ a % n = 0 ∧ a < 0x4000000 ∧
        classFBad e = false)
    ∧ (∃ (a n : Nat) (e : HbmErr), [4, 8, 16, 32, 64].contains n = true ∧ a % n = 0 ∧ a < 0x4000000 ∧
        classFBad e = true)
    ∧ (∃ (b : Nat), b < 15) := by
  refine ⟨?_, ?_, ?_, ?_, ?_, ?_, ?_⟩
  · exact ⟨14, 7, by decide +kernel⟩
  · exact ⟨({ tOn with telem := { shadow := [tSnap] } } : State), tSnap, [], by decide +kernel⟩
  · exact ⟨({ tOn with stroke := 2 ^ 14, telem := { bwStart := some 0 } } : State), 0, by decide +kernel⟩
  · exact ⟨({ tOn with stroke := 2 ^ 14 - 1, telem := { bwStart := some 0 } } : State), 0, by decide +kernel⟩
  · exact ⟨0x3FFFFFC, 4, ⟨0, 0⟩, by decide +kernel⟩
  · exact ⟨0x3FFFFC0, 64, ⟨1, 0⟩, by decide +kernel⟩
  · exact ⟨14, by decide +kernel⟩

theorem witness_RegisterAccessesAreJudgedWhole :
    (∃ (v : Word), 1 ≤ v.toNat % 128 ∧ v.toNat % 128 ≤ 64)
    ∧ (∃ (s : State) (v : Word), 64 < v.toNat % 128 ∧ v.toNat % 128 ≠ s.rd Reg.ERR_SCRUB_CFG_RATE)
    ∧ (∃ (v : Word), v.toNat = 2)
    ∧ (∃ (p : Nat), p < 4)
    ∧ (∃ (i : Nat), i < 4)
    ∧ (∃ (p a : Nat), p < 4 ∧ bar0Named a = true ∧ a % 4 = 0)
    ∧ (∃ (a : Nat), reachesRwm a = true)
    ∧ (∃ (a w : Nat), a < 0xE00000 ∧ (w ≠ 4 ∨ a % 4 ≠ 0)) := by
  refine ⟨?_, ?_, ?_, ?_, ?_, ?_, ?_, ?_⟩
  · exact ⟨64, by decide +kernel⟩
  · exact ⟨tOn, 65, by decide +kernel⟩
  · exact ⟨2, by decide +kernel⟩
  · exact ⟨3, by decide +kernel⟩
  · exact ⟨3, by decide +kernel⟩
  · exact ⟨3, 0xC03C, by decide +kernel⟩
  · exact ⟨0x80006C, by decide +kernel⟩
  · exact ⟨0xDFFFFF, 4, by decide +kernel⟩

theorem witness_StepTakesTheFrontCommand :
    ∃ (s : State), s.pending = [] := by
  exact ⟨State.reset, by decide +kernel⟩

theorem witness_TimeMovesOnlyByItsCommands :
    ∃ (s t : State), step s = .next t ∧ t.stroke ≠ s.stroke := by
  exact ⟨({ tAux with pending := [.strokeBoundary] } : State),
      tStep ({ tAux with pending := [.strokeBoundary] } : State), ⟨rfl, by decide⟩⟩

theorem witness_AuthorityChangesOnlyByMotions :
    ∃ (s t : State), step s = .next t ∧ (t.prot.officers ≠ s.prot.officers ∨ t.prot.bindings ≠ s.prot.bindings ∨
      t.prot.anchor ≠ s.prot.anchor) := by
  exact ⟨({ tOn with pending := [.auxRemove], prot := { officers := [7, 8] } } : State),
      tStep ({ tOn with pending := [.auxRemove], prot := { officers := [7, 8] } } : State), ⟨rfl, by decide⟩⟩

theorem witness_MediumStaysCanonical :
    (∃ (s t : State), step s = .next t ∧ s.memoryWf = true)
    ∧ (∃ (s t : State), step s = .next t ∧ t.pages ≠ s.pages) := by
  refine ⟨?_, ?_⟩
  · exact ⟨({ tMedia with pending := [.strokeBoundary] } : State),
        tStep ({ tMedia with pending := [.strokeBoundary] } : State), ⟨rfl, by decide⟩⟩
  · exact ⟨({ tMedia with xlat := { precondQ := [0] }, pending := [.preconditionComplete 0 0] } : State),
        tStep ({ tMedia with xlat := { precondQ := [0] }, pending := [.preconditionComplete 0 0] } : State),
        ⟨rfl, by decide +kernel⟩⟩

theorem witness_MediumStoresReachOnlyTheirPlaces :
    (∃ (b : BankId) (s t : State), exec (.programComplete b) s = .next t ∧ s.ops.find (bankKey b) = none)
    ∧ (∃ (b : BankId) (s t : State) (o : BankOp) (mp ln : Nat), exec (.programComplete b) s = .next t ∧
        s.ops.find (bankKey b) = some o ∧ mp ≠ o.mp ∧ o.kind ≠ .refresh ∧ ¬(mp = o.mp ∧ ln = o.ln))
    ∧ (∃ (b : BankId) (s t : State), exec (.toggleComplete b) s = .next t ∧ s.ops.find (bankKey b) = none)
    ∧ (∃ (b : BankId) (s t : State) (o : BankOp) (mp ln : Nat), exec (.toggleComplete b) s = .next t ∧
        s.ops.find (bankKey b) = some o ∧ mp ≠ o.mp ∧ ¬(mp = o.mp ∧ ln = o.ln))
    ∧ (∃ (lpn : Nat) (s t : State) (mp : Nat), exec (.liftVerify lpn) s = .next t ∧ s.xlat.copies ≠ [] ∧
        (∀ c ∈ s.xlat.copies, c.lpn = lpn → mp ≠ c.dst ∧ mp ≠ mpParity c.dst))
    ∧ (∃ (lpn : Nat) (s t : State) (mp : Nat), exec (.reclaimCopyCommit lpn) s = .next t ∧ s.xlat.copies ≠ [] ∧
        (∀ c ∈ s.xlat.copies, c.lpn = lpn → mp ≠ c.dst ∧ mp ≠ mpParity c.dst))
    ∧ (∃ (lpn : Nat) (s t : State) (mp : Nat), exec (.settleBackCommit lpn) s = .next t ∧
        mp ≠ homeMp (s.tract (tractOfLpn lpn)).sb lpn ∧ mp ≠ mpParity (homeMp (s.tract (tractOfLpn lpn)).sb lpn))
    ∧ (∃ (b : Nat) (f : BitVec 8) (s t : State) (mp : Nat), exec (.preconditionComplete b f) s = .next t ∧
        mpSbn mp ≠ b)
    ∧ (∃ (b : Nat) (f : BitVec 8) (s t : State) (mp : Nat), exec (.preconditionComplete b f) s = .next t ∧
        mpSbn mp = b ∧ s.preconditioning.contains b = true)
    ∧ (∃ (n : Nat) (s t : State) (m : Move) (mp : Nat), exec (.moveStripeCommit n) s = .next t ∧
        s.xlat.moves.find? (fun m => m.tract == n) = some m ∧ m.failed = [] ∧ (∀ k < 8,
        mp ≠ mpOf (s.tract m.tract).sb (s.tract m.tract).ptr k))
    ∧ (∃ (n : Nat) (s t : State) (m : Move) (l : List MPage) (u : State) (mp : Nat),
        exec (.moveStripeCommit n) s = .next t ∧ s.xlat.moves.find? (fun m => m.tract == n) = some m ∧
        m.load = some l ∧ m.committed = false ∧ s.liftAllFailed m l (m.failed.filter (· < 7)) = some u ∧ (∀ k < 8,
        mp ≠ mpOf (u.tract m.tract).sb (u.tract m.tract).ptr k))
    ∧ (∃ (c : Nat) (h : Bool) (s t : State), exec (.poolFillTimeout c h) s = .next t ∧
        s.xlat.opens.find (openKey h c) = none)
    ∧ (∃ (c : Nat) (h : Bool) (s t : State) (o : OpenBlock) (mp : Nat), exec (.poolFillTimeout c h) s = .next t ∧
        s.xlat.opens.find (openKey h c) = some o ∧ mp / 8 ≠ o.sbn * 256 + (s.block o.sbn).fill / 7) := by
  refine ⟨?_, ?_, ?_, ?_, ?_, ?_, ?_, ?_, ?_, ?_, ?_, ?_, ?_⟩
  · exact ⟨⟨63, 3, 15⟩, tOn, tThen (.programComplete ⟨63, 3, 15⟩) tOn, ⟨rfl, by decide +kernel⟩⟩
  · exact ⟨⟨1, 0, 0⟩, ({ tMedia with ops := [(64, { tOp .drain with returned := true })] } : State),
        tThen (.programComplete ⟨1, 0, 0⟩) ({ tMedia with ops := [(64, { tOp .drain with returned := true })] } : State),
        { tOp .drain with returned := true }, 0, 63, ⟨rfl, by decide +kernel⟩⟩
  · exact ⟨⟨63, 3, 15⟩, tOn, tThen (.toggleComplete ⟨63, 3, 15⟩) tOn, ⟨rfl, by decide +kernel⟩⟩
  · exact ⟨⟨1, 0, 0⟩, ({ tMedia with ops := [(64, { tOp .toggle with delta := some {} })] } : State),
        tThen (.toggleComplete ⟨1, 0, 0⟩) ({ tMedia with ops := [(64, { tOp .toggle with delta := some {} })] } : State),
        { tOp .toggle with delta := some {} }, 0, 63, ⟨rfl, by decide +kernel⟩⟩
  · exact ⟨0,
        ({ tMedia with xlat := { copies := [{ why := .lift, lpn := 0, page := tPage, src := none, dst := 0, carried := [] }], blocks := [(0, { fill := 7 })] } } : State),
        tThen (.liftVerify 0) ({ tMedia with xlat := { copies := [{ why := .lift, lpn := 0, page := tPage, src := none, dst := 0, carried := [] }], blocks := [(0, { fill := 7 })] } } : State),
        2, ⟨rfl, by decide +kernel⟩⟩
  · exact ⟨0,
        ({ tMedia with xlat := { copies := [{ why := .reclaim, lpn := 0, page := tPage, src := none, dst := 0, carried := [] }], blocks := [(0, { fill := 7 })] } } : State),
        tThen (.reclaimCopyCommit 0) ({ tMedia with xlat := { copies := [{ why := .reclaim, lpn := 0, page := tPage, src := none, dst := 0, carried := [] }], blocks := [(0, { fill := 7 })] } } : State),
        2, ⟨rfl, by decide +kernel⟩⟩
  · exact ⟨0,
        ({ tMedia with xlat := { tracts := [(0, { state := .settled, hasLifted := true })], settles := [⟨0, tPage, []⟩] } } : State),
        tThen (.settleBackCommit 0) ({ tMedia with xlat := { tracts := [(0, { state := .settled, hasLifted := true })], settles := [⟨0, tPage, []⟩] } } : State),
        2, ⟨rfl, by decide +kernel⟩⟩
  · exact ⟨0, 0, ({ tMedia with xlat := { precondQ := [0] } } : State),
        tThen (.preconditionComplete 0 0) ({ tMedia with xlat := { precondQ := [0] } } : State), 2048,
        ⟨rfl, by decide +kernel⟩⟩
  · exact ⟨0, 0, ({ tMedia with xlat := { precondQ := [0] } } : State),
        tThen (.preconditionComplete 0 0) ({ tMedia with xlat := { precondQ := [0] } } : State), 2047,
        ⟨rfl, by decide +kernel⟩⟩
  · exact ⟨0,
        ({ tMedia with xlat := { moves := [{ tract := 0, why := .init, load := some [] }], tracts := [(0, { state := .inTransit })] } } : State),
        tThen (.moveStripeCommit 0) ({ tMedia with xlat := { moves := [{ tract := 0, why := .init, load := some [] }], tracts := [(0, { state := .inTransit })] } } : State),
        { tract := 0, why := .init, load := some [] }, 8, ⟨rfl, by decide +kernel⟩⟩
  · exact ⟨0,
        ({ tMedia with xlat := { moves := [{ tract := 0, why := .init, load := some [] }], tracts := [(0, { state := .inTransit })] } } : State),
        tThen (.moveStripeCommit 0) ({ tMedia with xlat := { moves := [{ tract := 0, why := .init, load := some [] }], tracts := [(0, { state := .inTransit })] } } : State),
        { tract := 0, why := .init, load := some [] }, [],
        ({ tMedia with xlat := { moves := [{ tract := 0, why := .init, load := some [] }], tracts := [(0, { state := .inTransit })] } } : State),
        8, ⟨rfl, by decide +kernel, by decide +kernel, by decide +kernel, rfl, by decide +kernel⟩⟩
  · exact ⟨7, false, tOn, tThen (.poolFillTimeout 7 false) tOn, ⟨rfl, by decide +kernel⟩⟩
  · exact ⟨0, true,
        ({ tOn with stroke := 1024, xlat := { opens := [(0, { sbn := 5, gathered := 6 })], blocks := [(5, { pool := .hot, fill := 1791 })] } } : State),
        tThen (.poolFillTimeout 0 true) ({ tOn with stroke := 1024, xlat := { opens := [(0, { sbn := 5, gathered := 6 })], blocks := [(5, { pool := .hot, fill := 1791 })] } } : State),
        { sbn := 5, gathered := 6 }, 0, ⟨rfl, by decide +kernel⟩⟩

theorem witness_AppliedMotionsStayBounded :
    ∃ (s t : State), step s = .next t ∧ s.prot.applied.length ≤ 16 := by
  exact ⟨({ tOff [tLod 1 true (.anchor 1)] with pending := [.motionApply] } : State),
      tStep ({ tOff [tLod 1 true (.anchor 1)] with pending := [.motionApply] } : State), ⟨rfl, by decide⟩⟩

theorem witness_FactoryReservedSpace :
    ∃ (s : State) (a : Nat), s.prot.testAccess = false ∧ 0xF00000 ≤ a ∧ a ≤ 0xFFFFFF := by
  exact ⟨tOn, 0xFFFFFF, by decide +kernel⟩

theorem witness_UnassignedSpace :
    (∃ (a : Nat), (0xE00000 ≤ a ∧ a ≤ 0xFFFFFF) ∨ (0x5000000 ≤ a ∧ a ≤ 0xFFFFFFF))
    ∧ (∃ (a : Nat), (0xE00000 ≤ a ∧ a ≤ 0xFFFFFF) ∨ (0x5000000 ≤ a ∧ a ≤ 0xFFFFFFF))
    ∧ (∃ (s : State) (a : Nat), a < 0xE00000 ∧ a % 4 = 0 ∧ fieldsAt a = [] ∧ s.viewAt a = none) := by
  refine ⟨?_, ?_, ?_⟩
  · exact ⟨0xFFFFFFF, by decide +kernel⟩
  · exact ⟨0x5000000, by decide +kernel⟩
  · exact ⟨tOn, 0xDFFFFC, by decide +kernel⟩

theorem witness_SecondAndMotionStatusAnswer :
    (∃ (s : State) (p : CmdPath) (m : Second), heard s p (.second p m) .mgmt ∧ s.secondReason m ≠ 0)
    ∧ (∃ (s : State) (p : CmdPath) (m : Second) (l : Lodged), heard s p (.second p m) .mgmt ∧ s.secondReason m = 0 ∧
        s.findLodged m.motion = some l ∧ s.argsOk m.motion.args = true ∧
        (s.onlyLodged.filter (fun x => !decide (x.motion = m.motion))).any (fun x => motionsConflict x.motion.args m.motion.args) = false)
    ∧ (∃ (s : State) (p : CmdPath) (m : Second) (l : Lodged), heard s p (.second p m) .mgmt ∧ s.secondReason m = 0 ∧
        s.findLodged m.motion = some l ∧
        (s.onlyLodged.filter (fun x => !decide (x.motion = m.motion))).any (fun x => motionsConflict x.motion.args m.motion.args) = true)
    ∧ (∃ (s : State) (p : CmdPath) (m : Second) (l : Lodged), heard s p (.second p m) .mgmt ∧ s.secondReason m = 0 ∧
        s.findLodged m.motion = some l ∧ s.argsOk m.motion.args = false ∧
        (s.onlyLodged.filter (fun x => !decide (x.motion = m.motion))).any (fun x => motionsConflict x.motion.args m.motion.args) = false)
    ∧ (∃ (s : State) (l : Lodged) (c : CmdPath), l ∈ s.prot.lodged ∧ l.kept = true ∧ l.path = some c)
    ∧ (∃ (s : State) (l : Lodged), s.prot.lodged.filter (·.kept) = [l])
    ∧ (∃ (s : State) (p : CmdPath) (m : Motion), heard s p (.motionStatus p m) .mgmt) := by
  refine ⟨?_, ?_, ?_, ?_, ?_, ?_, ?_⟩
  · exact ⟨tOff [tLod 0 false (.anchor 1)], tFm, tSec (.anchor 1) false, by unfold heard; decide +kernel⟩
  · exact ⟨tOff [tLod 0 false (.anchor 1)], tFm, tSec (.anchor 1) true, tLod 0 false (.anchor 1), by
      simp [tOff_heard, tOff_prot, tOff_internals, tOff_stroke, tMot, tLod, tSec, unsignedSet, kindOf, argRange, argKey,
        motionsConflict, lodgeStrokes, State.motionReason, State.secondReason, State.motionState, State.findLodged,
        State.onlyLodged, State.argsOk, State.protBusy]⟩
  · exact ⟨tOff [tLod 0 false (.anchor 1), tLod 0 false (.anchor 2)], tFm, tSec (.anchor 1) true, tLod 0 false (.anchor 1), by
      simp [tOff_heard, tOff_prot, tOff_internals, tOff_stroke, tMot, tLod, tSec, unsignedSet, kindOf, argRange, argKey,
        motionsConflict, lodgeStrokes, State.motionReason, State.secondReason, State.motionState, State.findLodged,
        State.onlyLodged, State.argsOk, State.protBusy]⟩
  · exact ⟨tOff [tLod 0 false (.eraseAuth 3)], tFm, tSec (.eraseAuth 3) true, tLod 0 false (.eraseAuth 3), by
      simp [tOff_heard, tOff_prot, tOff_internals, tOff_stroke, tMot, tLod, tSec, unsignedSet, kindOf, argRange, argKey,
        motionsConflict, lodgeStrokes, State.motionReason, State.secondReason, State.motionState, State.findLodged,
        State.onlyLodged, State.argsOk, State.protBusy]⟩
  · exact ⟨tOff [tLod 1 true (.anchor 1)], tLod 1 true (.anchor 1), tFm, by
      simp [tOff_heard, tOff_prot, tOff_internals, tOff_stroke, tMot, tLod, tSec, unsignedSet, kindOf, argRange, argKey,
        motionsConflict, lodgeStrokes, State.motionReason, State.secondReason, State.motionState, State.findLodged,
        State.onlyLodged, State.argsOk, State.protBusy]⟩
  · exact ⟨tOff [tLod 1 true (.anchor 1)], tLod 1 true (.anchor 1), by
      simp [tOff_heard, tOff_prot, tOff_internals, tOff_stroke, tMot, tLod, tSec, unsignedSet, kindOf, argRange, argKey,
        motionsConflict, lodgeStrokes, State.motionReason, State.secondReason, State.motionState, State.findLodged,
        State.onlyLodged, State.argsOk, State.protBusy]⟩
  · exact ⟨tOff [], tFm, tMot 1 (.anchor 1), by unfold heard; decide +kernel⟩

/-! ### Every command answers a next state: the hypotheses of the frames -/

theorem witness_HostTrafficFrames :
    ([.memRd (tMsg 0), .memRdData (tMsg 0), .memInv (tMsg 0), .memInvNt (tMsg 0), .memClnEvct (tMsg 0),
     .memSpecRd (tMsg 0) true, .memWr (tMsg 0) 1 true, .memWrPtl (tMsg 0) 1 1 true, .biConflict (tMsg 0),
     .biRsp 1 1 1 1 .i, .ideIntegrityFailure 1 1, .linkDown 1 1, .perstNAssert 1 1, .perstNDeassert 1,
     .linkUp 1 1 1 1 1, .allowanceCheck 1 .read 0 ⟨0, 0⟩ true, .sessionCreate tFm 1 tWords,
     .sessionModify tFm 1 ⟨4, 4, 4, 0, 1, 2, 3⟩, .sessionFence tFm 1, .sessionGet tFm 1, .fenceDrainEnd 1,
     .fenceBiTimeout 1 1, .spillRefill 1 .read ⟨0, 0⟩, .mergeComplete 1, .fillReturn 1 tNone tNone tNone .ok,
     .sliceFillInstall 1 1, .readCacheProbeReturn 1 ⟨0, 0⟩, .snoopTimeout 1 1, .portCfgWrite 1 1, .portCntClr 1 1,
     .sessCntClr 1, .sessQCntClr 1, .bisnpCreditReturn 1 1 1, .mergeBufferLookupReturn 1 1 ⟨0, 0⟩] : List Instr).all
      (fun i => i.wf && tRuns i tOn) = true := by decide +kernel

theorem witness_CachesAndErasesFrames :
    ([.cacheWayCfgWrite 1 1, .wayGroupCleaningEnd 1 1, .cacheRcCfgWrite 1, .backInvalidateWalkEnd, .cacheCntClr 1 1,
     .cacheRcCntClr 1, .dirCntClr 1, .injectPoison tFm 1, .clearPoison tFm 1 1, .sanitize tFm, .secureErase tFm,
     .sanitizeComplete, .releaseRange tFm 1 1, .releaseRangeComplete] : List Instr).all
      (fun i => i.wf && tRuns i tOn) = true := by decide +kernel

theorem witness_SchedulerAndMediaFrames :
    ([.strokeBoundary, .planLock, .syncEpochBoundary, .programResume ⟨0, 0, 0⟩, .readReachScheduler 1 1 true,
     .schedCntClr 1, .schedStrokeLoRead, .fipenAlert 1, .readStatusResponse 1 tLine, .readStatusNoResponse 1,
     .fipenTrainingStepLimit 1 1, .fipenTrainingComplete [tTrain 0], .fastRetrainComplete 1 true,
     .mediaReadComplete 1 1 tNone .ok true, .reconstructionComplete 1 1 tNone .ok, .programComplete ⟨0, 0, 0⟩,
     .exchangeOldLineReturn ⟨0, 0, 0⟩ tNone, .toggleComplete ⟨0, 0, 0⟩, .ageEpochAdvance, .evacuationBlockDone 1,
     .chanCntClr 1 1] : List Instr).all
      (fun i => i.wf && tRuns i tOn) = true := by decide +kernel

theorem witness_PlacementAndMergeFrames :
    ([.moveStripeCommit 1, .liftVerify 1, .heatHalving, .settleBackWalk 1, .settleBackCommit 1, .reclaim 1,
     .reclaimCopyCommit 1, .preconditionComplete 1 0, .poolFillTimeout 1 true, .blockRecordCheckpoint,
     .xlatMapIdxWrite 1, .xlatSeqLoRead, .xlatCntClr 1, .mergeCfgWrite 1, .persistAt tFm 1,
     .persistencePointComplete 1, .gpfPhase1 1, .gpfPhase2 1, .mergeCntClr 1, .mergePointLoRead,
     .freeBlockReprecondition 1, .keepSlotProgrammed true, .keepSectorEraseComplete true, .spreadCounterIncrement 1,
     .chronicleRecordProgrammed true, .chronicleSectorEraseComplete true, .chronicleRunClose 1 1,
     .keepPageIdxWrite 1, .keepCntClr 1, .chronCntClr 1] : List Instr).all
      (fun i => i.wf && tRuns i tOn) = true := by decide +kernel

theorem witness_ProtectionAndErrorFrames :
    ([.patrolVisit [], .patrolPassLate, .errPatrolCfgWrite 1, .errCntClr 1, .errLastUncorrLoRead,
     .scrubRange tFm 1 1, .scrubRangeComplete .complete 1 [], .motion tFm (tMot 1 (.anchor 1)),
     .second tFm (tSec (.anchor 1) true), .motionStatus tFm (tMot 1 (.anchor 1)), .motionLapse (tMot 1 (.anchor 1)),
     .motionApply, .rekeyPassEnd, .eraseAuthExpiry, .keySlotReunseal 1 true, .ideKeyProg 1 1 .rx 1 7,
     .ideKSetGo 1 1 .rx 1, .ideKSetStop 1 1 .rx 1, .spdmGetMeasurements 1 1, .protCntClr 1,
     .getScanMediaCapabilities tFm 1 1, .scanMedia tFm 1 1, .deviceTemperatureCrossing 0,
     .spdmSecureSession tFm true] : List Instr).all
      (fun i => i.wf && tRuns i tOn) = true := by decide +kernel

theorem witness_PowerAndStartFrames :
    ([.auxApply (tSmp false) 0 0 0 true ⟨true, true, true⟩, .auxRemove, .pwrfailNQualify [false],
     .pwrfailNGlitch [false], .pwrfailNHigh100ms (tSmp false), .powerUpPackage (tSmp false) ⟨0, 0, 0, 0, true⟩,
     .railTurnOn (tPoll 1 0), .rampPoll (tPoll 1 0) (tSmp false), .railRampLimit, .powerUpMedia,
     .servicePoll [tPoll 1 0], .decayPoll [tPoll 1 0], .decayLimitExpiry true, .offHoldExpiry (tSmp false),
     .thermtrip 1, .capoFlushComplete 1, .capoSaveComplete true 1, .warmResumption, .loadTableComplete true,
     .rebuildStart, .rebuildComplete 1, .hbmFillComplete 1, .integrityRootVerifyComplete [1],
     .imageVerifyComplete tImg tImg, .mediaReady, .wakePatrolEnd, .stagingCopyComplete true, .warmResetFlushDone,
     .warmResetComplete, .pwrCntClr 1, .transferFwFull tFm, .transferFwInitiate tFm 1 1 [1] tImg,
     .transferFwContinue tFm 1 1 [1] tImg, .transferFwEnd tFm 1 1 [1] tImg, .transferFwAbort tFm,
     .activateFwOnline tFm 1, .activateFwNextColdReset tFm 1 tImg, .activateAt tFm 1, .activationTakeEffect,
     .oldBankRelease, .deviceReset tFm, .topCtrlWarmReset 1, .hbmTrainingComplete true,
     .imageSlotFlashComplete (.copyProgram true)] : List Instr).all
      (fun i => i.wf && tRuns i tOn) = true := by decide +kernel

theorem witness_MailboxAndTelemetryFrames :
    ([.identify tFm, .requestAbortBackgroundOperation tFm, .getEventRecords tFm 1, .clearEventRecords tFm 1 true [1],
     .getEventInterruptPolicy tFm, .setEventInterruptPolicy tFm [1], .getFwInfo tFm, .getTimestamp tFm,
     .setTimestamp tFm 1, .getSupportedLogs tFm, .getLog tFm, .identifyMemoryDevice tFm, .getPartitionInfo tFm,
     .unsupportedCommand tFm 1, .getHealthInfo tFm, .getAlertConfiguration tFm,
     .setAlertConfiguration tFm ⟨none, none, none, none, none⟩, .getShutdownState tFm, .setShutdownState tFm 1,
     .getPoisonList tFm 1 1, .getScanMediaResults tFm, .getDynamicCapacityConfiguration tFm,
     .getDynamicCapacityExtentList tFm, .addDynamicCapacityResponse tFm [⟨0, 1⟩],
     .releaseDynamicCapacity tFm [⟨0, 1⟩], .setDcRegionConfiguration tFm 1 1 1 true, .getDcRegionConfiguration tFm,
     .initiateDynamicCapacityAdd tFm 1 1 [⟨0, 1⟩], .initiateDynamicCapacityRelease tFm 1 [⟨0, 1⟩], .kekRead tFm,
     .keepRead tFm 1, .chronicleRead tFm 1 1 1, .telemetryStatus tFm, .telemetryPeriod tFm 1,
     .telemetrySnapshot tFm, .telemetryClear tFm, .telemetryFreeze tFm 1, .telemetryWindow tFm 1,
     .telemetrySelect tFm 1, .telemCtrlClr 1, .telemCtrlFreeze 1, .telemSnapNow 1, .telemEvtCfgWrite 1 1 1,
     .telemBwCfgWrite 1, .telemWindowRead 1 1 ⟨0, 0⟩, .telemCntLoRead 1 1, .telemCycLoRead 1, .topIntMaskWrite 1,
     .rwmWriteReject 1 1, .bar2AccessError 1 1 1, .registerWrite (.bar2 0) 1, .snapshotRecordWritten,
     .bandwidthWindowEnd, .telemSnapHeadLoRead, .telemBwWindowLoRead] : List Instr).all
      (fun i => i.wf && tRuns i tOn) = true := by decide +kernel

theorem witness_ShelfFrames :
    ([.beacon (tBeacon 1), .statusFrame (tStat 1), .contactLoss, .memberDropout 1, .managerListenEnd,
     .shlSyncPulse 0 true 1, .timeLockLoss, .config tFrame 1 1, .ilvRecord tFrame 1 1 tIlv, .slotGrant tFrame 1,
     .powerOff tFrame 1, .powerOffStroke, .powerOn tFrame, .persist tFrame 1, .actPrepare tFrame 1 tImg,
     .release tFrame, .commandResend 1, .shelfCntClr 1, .shelfStatus tFm, .setRecords tFm [tIlv],
     .shelfPowerOff tFm 1 1, .shelfPowerOn tFm 1, .shelfPersist tFm 1, .shelfActivate tFm 1 tImg,
     .shelfRelease tFm 1, .shelfFrameDiscard .badCrc, .activationDecision, .coordinatedActivation,
     .activationInDoubt, .shelfPersistComplete, .shelfEpochLoRead] : List Instr).all
      (fun i => i.wf && tRuns i tOn) = true := by decide +kernel

/-! ### Examples worked in the manual -/

/-- The example of Reading and Writing Conventions: channel 37's CHAN_ block lies at 0x0042_5000. -/
theorem test_channel_block_offset : Reg.CHAN_STATUS_STATE.offset 37 0 = 0x425000 := by decide

/-- The example of chapter 17: session 721's entry lies at 0x0028_B440 and its queue status at 0x0024_1688; counter 3 of
block 9 lies at 0x00D0_1954. -/
theorem test_register_places :
    Reg.TELEM_CNT_LO_COUNT_LO.offset 9 3 = 0xD01954
      ∧ ({ tOn with sessions := [(721, tSess)] } : State).viewAt 0x28B440 = some (tSess.view.getD 0 0)
      ∧ ({ tOn with sessions := [(721, { tSess with rdOcc := 1 })] } : State).viewAt 0x241688 = some 1 := by
  decide +kernel

/-- The example of R111: DPA 3,024,119,319,616 with tract 412,003 settled in SBN 838,409. -/
theorem test_translation_example :
    let line := lineOf 3024119319616
    let mp := homeMp 838409 (lpnOf line)
    tractOf line = 412003 ∧ stripeOf (lpnOf line) = 143 ∧ slotOf (lpnOf line) = 3 ∧ line % 64 = 49 ∧ mp = 1717062780
      ∧ sbnCourse 838409 = 6 ∧ sbnDie 838409 = 1 ∧ sbnBank 838409 = 9 ∧ mpChan mp = 52 ∧ mpChan (mpParity mp) = 48 := by
  decide +kernel

/-- The example of R95: course 5, die 2, bank 11, reset block 1,234, page 1,000 of the tract. -/
theorem test_media_address_example :
    let mp := homeMp (5 * 131072 + 2 * 32768 + 11 * 2048 + 1234) 1000
    mpChan mp = 40 ∧ mpChan (mpParity mp) = 41 ∧ mpStripe mp = 142 ∧ mpBank mp = bankKey ⟨40, 2, 11⟩ := by
  decide +kernel

/-- The example of R161: with a hold-up of 12.0 ms the largest budget, 48, is taken and gives each channel 1,062,557
lines; with 10.0 ms 37 is the largest accepted. -/
theorem test_budget_example :
    chanLimit 48 = 1062557 ∧ budgetFits 48 120 = true ∧ budgetFits 48 100 = false ∧ budgetFits 37 100 = true
      ∧ budgetFits 38 100 = false := by
  decide

/-- The example of R254: low 1.5 µs, high 0.8 µs, low again: 130 further samples qualify, 129 do not. -/
theorem test_pwrfail_example :
    (pfRun 0 (List.replicate 150 false)).1 = 150 ∧ (pfRun 150 (List.replicate 80 true)).1 = 70
      ∧ (pfRun 70 (List.replicate 130 false)).2 = true ∧ (pfRun 70 (List.replicate 129 false)).2 = false
      ∧ (pfRun 150 (List.replicate 160 true)).1 = 0
      ∧ newLows 0 (List.replicate 150 false ++ List.replicate 160 true) = 1 := by
  decide +kernel

/-- The example of R57: sums 6,640 and 3,900, 480 reads and 120 writes are refused with reason 1, 100 writes taken. -/
theorem test_session_sums_example :
    let s : State := { tOn with sessions := [(1, { tSess with key := ⟨3, 0, 0⟩, readAllow := 6640, writeAllow := 3900 })] }
    let w : SessWords := { tWords with port := 2, readAllow := 480, writeAllow := 120, inflightLimit := 2600 }
    s.createReason tFm 721 w = 1 ∧ s.createReason tFm 721 { w with writeAllow := 100 } = 0 := by
  decide +kernel

/-- The table of R76's example: DevLoad of 160, 1,120 and 3,200 queued descriptors with thresholds 2, 32 and 96. -/
theorem test_devload_example :
    let e (n : Nat) : Session :=
      { tSess with tOpt := 2, tMod := 32, tSev := 96, rd := { head := List.replicate n (tDesc .memRd) } }
    (e 160).loadNow = 1 ∧ (e 1120).loadNow = 2 ∧ (e 3200).loadNow = 3 ∧ (e 0).loadNow = 0 := by
  decide +kernel

/-- The example of R201: the 257th event overflows a bucket that the 256th fills. -/
theorem test_bucket_example :
    let e : BucketEvent := ⟨0, 1, 0, 4, 0, 0⟩
    let s := tOn.wr Reg.ERR_BUCKET_STATUS_LEVEL 255 4
    (s.bucket 4 e).rd Reg.ERR_BUCKET_STATUS_LEVEL 4 = 256 ∧ (s.bucket 4 e).rd Reg.ERR_BUCKET_STATUS_OVF_CNT 4 = 0
      ∧ ((s.bucket 4 e).bucket 4 e).rd Reg.ERR_BUCKET_STATUS_OVF_CNT 4 = 1 := by
  decide +kernel

/-- The example of R283: of SEQ 40 and 42 (bad) in copy A and SEQ 41 and 43 (group not committed) in copy B, 41 is
chosen. -/
theorem test_keep_choice_example :
    let slot (q g : Nat) (b : Bool) : KeepSlot := ⟨23, q, g, .merge q g, b⟩
    let k : Keep := { sectors := [(46, [slot 40 0 true, slot 42 0 false]), (47, [slot 41 0 true, slot 43 0x91 true])] }
    chosen (k.candidates 23 0x90) = some (1, slot 41 0 true) := by
  decide +kernel

end Sys2Proof.Tests
end

section
/-! SUPPORT. A command that leaves the state as it was also leaves what its end looks at: the telemetry counters and the
TOP_ interrupt see no event in it. -/

namespace Sys2Proof.Machine

@[simp] theorem newOut_self (s : State) : newOut s s = [] := List.drop_length

@[simp] theorem grew_self (s : State) (f : Field) (i : Nat) : grew s s f i = 0 := Nat.sub_self _

/-- Between a state and itself every occurrence event is shown zero times. -/
theorem count_of_mem_shownEvents_self {s : State} {e : Nat × Nat × Nat × Nat} (h : e ∈ shownEvents s s) :
    e.2.2.2 = 0 := by
  simp only [shownEvents, newOut_self, grew_self, List.filterMap_nil, List.map_nil, List.nil_append, List.mem_append,
    List.mem_flatMap, List.mem_cons, List.not_mem_nil, or_false] at h
  obtain (⟨b, -, rfl | rfl | rfl⟩ | ⟨c, -, rfl | rfl | rfl⟩) | rfl | rfl | rfl := h <;> rfl

/-- No occurrence adds nothing to a counter. -/
@[simp] theorem tele_zero (s : State) (b code f : Nat) : s.tele b code f 0 = s := by simp [State.tele]

theorem foldl_tele_of_counts_zero (l : List (Nat × Nat × Nat × Nat)) (s : State) (h : ∀ e ∈ l, e.2.2.2 = 0) :
    l.foldl (fun u e => u.tele e.1 e.2.1 e.2.2.1 e.2.2.2) s = s := by
  induction l with
  | nil => rfl
  | cons e l ih =>
    rw [List.forall_mem_cons] at h
    rw [List.foldl_cons, h.1, tele_zero, ih h.2]

@[simp] theorem teleCount_self (s : State) : teleCount s s = s := by
  have hshown : (shownEvents s s).foldl (fun u e => u.tele e.1 e.2.1 e.2.2.1 e.2.2.2) s = s :=
    foldl_tele_of_counts_zero _ s fun _ => count_of_mem_shownEvents_self
  have hbegin : s.stateEvents.filter (fun e => !s.stateEvents.contains e) = [] := by simp
  unfold teleCount
  split
  · rfl
  · rw [hshown, hbegin]; rfl

@[simp] theorem bwCount_self (s : State) : bwCount s s = s := by
  unfold bwCount
  split
  · rfl
  · rw [newOut_self]; rfl

@[simp] theorem topRises_self (s : State) : topRises s s = false := by
  have hzip : s.topInt.zip s.topInt = s.topInt.map fun b => (b, b) := by
    simpa using List.zip_map' (f := id) (g := id) (l := s.topInt)
  simp only [topRises, List.any_eq_false]
  intro e he
  have hmem := List.fst_mem_of_mem_zipIdx he
  rw [hzip, List.mem_map] at hmem
  obtain ⟨b, -, hb⟩ := hmem
  simp [← hb]

@[simp] theorem topMessages_self (s : State) : topMessages s s = [] := by simp [topMessages]

@[simp] theorem settle_self (s : State) : settle s s = s := by simp [settle]

/-- A command that leads from a state to itself answers that state. -/
@[simp] theorem done_self (s : State) : done s s = .next s := by rw [done_next, settle_self]

theorem answers_self {i : Instr} {s : State} (h : exec i s = done s s) : answers i s fun t => t = s :=
  ⟨s, h.trans (done_self s), rfl⟩

end Sys2Proof.Machine
end

section
/-! SUPPORT. Where the register fields stand in BAR2 (Table 17-3, R372), and what the offsets beyond them do (R10, R371). -/

namespace Sys2Proof.Machine

/-- The index and the rest of a distance, as `Field.at?` takes them, make up the distance. -/
theorem index_mul_stride_add_rest (count stride d : Nat) :
    (if count ≤ 1 then 0 else d / stride) * stride + (if count ≤ 1 then d else d % stride) = d := by
  split
  · simp
  · exact Nat.div_add_mod' d stride

/-- The place of a field that `Field.at?` finds at an offset is one that the field has, and stands at that offset. -/
theorem Field.at?_eq_some {f : Field} {o i j : Nat} (h : f.at? o = some (i, j)) :
    i < f.count ∧ j < f.count2 ∧ o = f.offset i j := by
  simp only [Field.at?, Option.ite_none_left_eq_some, Option.ite_none_right_eq_some, Option.some.injEq,
    Prod.mk.injEq] at h
  obtain ⟨hle, ⟨hi, hj, hq⟩, rfl, rfl⟩ := h
  have houter := index_mul_stride_add_rest f.count f.stride (o - f.off)
  have hinner := index_mul_stride_add_rest f.count2 f.stride2
    (if f.count ≤ 1 then o - f.off else (o - f.off) % f.stride)
  refine ⟨hi, hj, ?_⟩
  unfold Field.offset
  omega

/-- BAR2 offset of the last register that holds a copy of the field. -/
def Field.lastOffset (f : Field) : Nat := f.offset (f.count - 1) (f.count2 - 1)

theorem Field.le_lastOffset_of_at? {f : Field} {o : Nat} (h : (f.at? o).isSome) : o ≤ f.lastOffset := by
  obtain ⟨⟨i, j⟩, hij⟩ := Option.isSome_iff_exists.mp h
  obtain ⟨hi, hj, rfl⟩ := Field.at?_eq_some hij
  unfold Field.lastOffset Field.offset
  gcongr <;> omega

/-- Every register field stands inside the register blocks, below the unassigned ranges (Table 17-3). -/
theorem Reg.lastOffset_lt : ∀ f ∈ Reg.all, f.lastOffset < 0xE00000 := by decide +kernel

theorem fieldsAt_eq_nil {o : Nat} (h : 0xE00000 ≤ o) : fieldsAt o = [] := by
  refine List.filterMap_eq_nil_iff.mpr fun f hf => ?_
  have hlast := Reg.lastOffset_lt f hf
  rw [Option.map_eq_none_iff, ← Option.not_isSome_iff_eq_none]
  intro hat
  have := Field.le_lastOffset_of_at? hat
  omega

/-- Every view stands inside the register blocks too. -/
theorem viewAt_eq_none (s : State) {o : Nat} (h : 0xE00000 ≤ o) : s.viewAt o = none := by
  unfold State.viewAt
  simp only [Bool.and_eq_true, decide_eq_true_eq]
  rw [if_neg (by omega), if_neg (by omega), if_neg (by omega), if_neg (by omega)]
  split
  case h_21 => rfl
  all_goals omega

theorem readWord_eq_zero {s : State} {o : Nat} (hview : s.viewAt o = none) (hfields : fieldsAt o = []) :
    s.readWord o = 0 := by
  rw [State.readWord, hview, hfields]; rfl

/-- A write to a register that holds no field changes nothing. -/
theorem writeBar2_of_fieldsAt_nil (s : State) {o : Nat} (v : Nat) (h : fieldsAt o = []) : s.writeBar2 o v = s := by
  simp [State.writeBar2, h]

theorem reachesRwm_eq_false {o : Nat} (h : 0xE00000 ≤ o) : reachesRwm o = false := by
  have hanchor : isAnchor o = false := by simp [isAnchor]; omega
  simp [reachesRwm, hanchor, fieldsAt_eq_nil h]

theorem inBlocks_eq_false {o : Nat} (h : 0xE00000 ≤ o) : inBlocks o = false := by simpa [inBlocks] using h

theorem exec_registerWrite_bar2 (s : State) (o : Nat) (v : Word) :
    exec (.registerWrite (.bar2 o) v) s = done s (s.writeBar2 o v.toNat) := rfl

theorem exec_bar2AccessError (s : State) (o w v : Nat) : exec (.bar2AccessError o w v) s =
    done s (if inBlocks o && !(w == 4 && o % 4 == 0) then s.setBit Reg.TOP_STATUS_ACCESS_ERR true else s) := rfl

theorem exec_rwmWriteReject (s : State) (o : Nat) (v : Word) :
    exec (.rwmWriteReject o v) s = done s (if reachesRwm o then s.bump Reg.ERR_RWM_REJECT else s) := rfl

theorem registerWrite_discarded (s : State) {o : Nat} (v : Word) (h : fieldsAt o = []) :
    answers (.registerWrite (.bar2 o) v) s fun t => t = s :=
  answers_self (by rw [exec_registerWrite_bar2, writeBar2_of_fieldsAt_nil s _ h])

theorem bar2AccessError_discarded (s : State) {o : Nat} (w v : Nat) (h : 0xE00000 ≤ o) :
    answers (.bar2AccessError o w v) s fun t => t = s :=
  answers_self (by simp [exec_bar2AccessError, inBlocks_eq_false h])

theorem rwmWriteReject_discarded (s : State) {o : Nat} (v : Word) (h : 0xE00000 ≤ o) :
    answers (.rwmWriteReject o v) s fun t => t = s :=
  answers_self (by simp [exec_rwmWriteReject, reachesRwm_eq_false h])

/-- Settles O48: the factory-reserved space stands beyond every register field and every view, so a read finds nothing
to show and a write nothing to change. This model keeps nothing more under factory test access, so the premise that it
is closed is not needed. -/
theorem factoryReservedSpace : Obligations.FactoryReservedSpace := by
  intro s a _ hlow _
  have hbeyond : 0xE00000 ≤ a := by omega
  have hfields : fieldsAt a = [] := fieldsAt_eq_nil hbeyond
  exact ⟨readWord_eq_zero (viewAt_eq_none s hbeyond) hfields, fun v => registerWrite_discarded s v hfields,
    fun w v => bar2AccessError_discarded s w v hbeyond, fun v => rwmWriteReject_discarded s v hbeyond⟩

end Sys2Proof.Machine
end

section
/-! SUPPORT. Every command ends in `done`: what it answers is the state it led to, after the look that the telemetry
counters and the TOP_ interrupt take at it, with the queue as it was (R11, R330). -/

namespace Sys2Proof.Machine

/-! ### The end of a command -/

/-- What a command that led from `s` to `u` answers. -/
def State.ended (s u : State) : State := { settle s u with pending := s.pending }

theorem done_eq_next_ended (s u : State) : done s u = .next (s.ended u) := done_next s u

/-- A command that leads from `s` to `u` answers whatever holds of `u` once its end has looked at it. -/
theorem answers_of_eq_done {i : Instr} {s u : State} {P : State → Prop} (h : exec i s = done s u) (hP : P (s.ended u)) :
    answers i s P :=
  ⟨_, h.trans (done_eq_next_ended s u), hP⟩

theorem execKeepSectorEraseComplete_eq_done (ok : Bool) (s : State) :
    ∃ u, execKeepSectorEraseComplete ok s = done s u := by
  unfold execKeepSectorEraseComplete
  split <;> exact ⟨_, rfl⟩

theorem execChronicleSectorEraseComplete_eq_done (ok : Bool) (s : State) :
    ∃ u, execChronicleSectorEraseComplete ok s = done s u := by
  unfold execChronicleSectorEraseComplete
  split <;> exact ⟨_, rfl⟩

theorem execChronicleRunClose_eq_done (code source : Nat) (s : State) :
    ∃ u, execChronicleRunClose code source s = done s u := by
  unfold execChronicleRunClose
  split <;> exact ⟨_, rfl⟩

theorem execKeepPageIdxWrite_eq_done (v : Word) (s : State) : ∃ u, execKeepPageIdxWrite v s = done s u := by
  unfold execKeepPageIdxWrite
  dsimp only
  split <;> exact ⟨_, rfl⟩

/-- The four commands named here choose between two ends; every other meaning is `done` of one state. -/
theorem exec_eq_done (c : Instr) (s : State) : ∃ u, exec c s = done s u := by
  cases c with
  | keepSectorEraseComplete ok => exact execKeepSectorEraseComplete_eq_done ok s
  | chronicleSectorEraseComplete ok => exact execChronicleSectorEraseComplete_eq_done ok s
  | chronicleRunClose code source => exact execChronicleRunClose_eq_done code source s
  | keepPageIdxWrite v => exact execKeepPageIdxWrite_eq_done v s
  | _ => exact ⟨_, rfl⟩

/-- Settles O42: every command ends in `done`, which answers a next state that holds the queue of before (R11, R330;
that no command stops in a fault or a refusal is the model's reading, log entry 138). -/
theorem everyCommandAnswers : Obligations.EveryCommandAnswers := by
  intro c s
  obtain ⟨u, hu⟩ := exec_eq_done c s
  exact answers_of_eq_done hu rfl

end Sys2Proof.Machine
end

section
/-! SUPPORT. What the shared operations leave of the firmware engine, of the running image, of the image descriptor
(R344) and of the transcript, and what the end of a command leaves of them. -/

namespace Sys2Proof.Machine

/-! ### Parts that a change within a mask leaves -/

theorem Within.img {m : Nat} {s t : State} (h : Within m s t)
    (e : ∀ k ∈ [209, 210, 211, 212, 213, 214, 215], m.testBit k = false) : t.img = s.img := by
  simp only [List.forall_mem_cons] at e
  obtain ⟨e0, e1, e2, e3, e4, e5, e6, -⟩ := e
  simpa only [State.pick, e0, e1, e2, e3, e4, e5, e6, cond_false] using congrArg State.img h

theorem Within.fw {m : Nat} {s t : State} (h : Within m s t)
    (e : ∀ k ∈ [255, 256, 257, 258, 259, 260], m.testBit k = false) : t.fw = s.fw := by
  simp only [List.forall_mem_cons] at e
  obtain ⟨e0, e1, e2, e3, e4, e5, -⟩ := e
  simpa only [State.pick, e0, e1, e2, e3, e4, e5, cond_false] using congrArg State.fw h

theorem Within.out {m : Nat} {s t : State} (h : Within m s t) (e : m.testBit 5 = false) : t.out = s.out := by
  simpa only [State.pick, e, cond_false] using congrArg State.out h

/-- The descriptor is read from the keep's shadow alone. -/
theorem descr_congr {s t : State} (h : t.keep.shadow = s.keep.shadow) : t.descr = s.descr := by
  unfold State.descr; rw [h]

theorem Within.descr {m : Nat} {s t : State} (h : Within m s t) (e : m.testBit 52 = false) : t.descr = s.descr :=
  descr_congr (by simpa only [State.pick, e, cond_false] using congrArg (fun u => u.keep.shadow) h)

/-- A register field that stands apart from those that may be written reads as before. -/
theorem onlyRegs_rd {l : List Field} {s t : State} (h : onlyRegs l s t) {f : Field} {i j : Nat}
    (hf : ∀ g ∈ l, ∀ a b, f.key i j ≠ g.key a b) : t.rd f i j = s.rd f i j := by
  unfold State.rd
  rw [Tab.get_eq_find, Tab.get_eq_find, h _ hf]

theorem onlyRegs_of_regs_eq {l : List Field} {s t : State} (h : t.regs = s.regs) : onlyRegs l s t := fun _ _ => by rw [h]

/-! ### The flash and the descriptor -/

theorem nextProgram_shadow {s : State} {e : FlashOp × Keep} (h : s.nextProgram = some e) :
    e.2.shadow = s.keep.shadow := by
  simp only [State.nextProgram] at h
  split at h
  · cases h; rfl
  · split at h
    · cases h; rfl
    · split at h
      · cases h; rfl
      · cases h

@[simp] theorem startErase_shadow (k : Keep) : k.startErase.shadow = k.shadow := by
  unfold Keep.startErase; split <;> rfl

/-- Whatever the flash begins, the pages stay as the keep's shadow holds them. -/
theorem flash_shadow (s : State) : s.flash.keep.shadow = s.keep.shadow := by
  unfold State.flash
  split
  · split
    · split
      next p k h => exact nextProgram_shadow (e := (p, k)) h
      next => split <;> rfl
    · rfl
  · split
    next p k h => exact nextProgram_shadow (e := (p, k)) h
    next =>
      split
      · rfl
      · split
        · rfl
        · exact startErase_shadow s.keep

@[simp] theorem flash_descr (s : State) : s.flash.descr = s.descr := descr_congr (flash_shadow s)
@[simp] theorem flash_fw (s : State) : s.flash.fw = s.fw := (flash_within s).fw (by decide)
@[simp] theorem flash_out (s : State) : s.flash.out = s.out := (flash_within s).out (by decide)

@[simp] theorem keepWrite_shadow (s : State) (page : Nat) (data : PageData) (group : Nat) :
    (s.keepWrite page data group).keep.shadow = s.keep.shadow.put page data := rfl

/-- The descriptor reads as it was written. -/
@[simp] theorem setDescr_descr (s : State) (d : Descr) : (s.setDescr d).descr = d := by
  simp [State.setDescr, State.descr, flash_shadow]

@[simp] theorem setDescr_fw (s : State) (d : Descr) : (s.setDescr d).fw = s.fw := (setDescr_within s d).fw (by decide)
@[simp] theorem setDescr_img (s : State) (d : Descr) : (s.setDescr d).img = s.img :=
  (setDescr_within s d).img (by decide)

@[simp] theorem dropImageOps_descr (s : State) (p : ImageOp → Bool) : (s.dropImageOps p).descr = s.descr := by
  unfold State.dropImageOps
  extract_lets run before after
  have hafter : after.shadow = s.keep.shadow := by unfold after; split <;> rfl
  exact (flash_descr _).trans (descr_congr hafter)

@[simp] theorem dropImageOps_fw (s : State) (p : ImageOp → Bool) : (s.dropImageOps p).fw = s.fw :=
  (dropImageOps_within s p).fw (by decide)
@[simp] theorem dropImageOps_img (s : State) (p : ImageOp → Bool) : (s.dropImageOps p).img = s.img :=
  (dropImageOps_within s p).img (by decide)

/-! ### Channels and the chronicle -/

@[simp] theorem releaseSpare_descr (s : State) : s.releaseSpare.descr = s.descr := (releaseSpare_within s).descr (by decide)
@[simp] theorem releaseSpare_fw (s : State) : s.releaseSpare.fw = s.fw := (releaseSpare_within s).fw (by decide)
@[simp] theorem releaseSpare_img (s : State) : s.releaseSpare.img = s.img := (releaseSpare_within s).img (by decide)

@[simp] theorem chronicle_descr (s : State) (code source sev : Nat) (l : List Nat) :
    (s.chronicle code source sev l).descr = s.descr := (chronicle_within s code source sev l).descr (by decide)
@[simp] theorem chronicle_fw (s : State) (code source sev : Nat) (l : List Nat) :
    (s.chronicle code source sev l).fw = s.fw := (chronicle_within s code source sev l).fw (by decide)
@[simp] theorem chronicle_img (s : State) (code source sev : Nat) (l : List Nat) :
    (s.chronicle code source sev l).img = s.img := (chronicle_within s code source sev l).img (by decide)

/-! ### Commands and their responses -/

@[simp] theorem reply_descr (s : State) (p : CmdPath) (rc : Rc) (ext : Nat) (l : List Nat) :
    (s.reply p rc ext l).descr = s.descr := (reply_within s p rc ext l).descr (by decide)
@[simp] theorem reply_fw (s : State) (p : CmdPath) (rc : Rc) (ext : Nat) (l : List Nat) :
    (s.reply p rc ext l).fw = s.fw := (reply_within s p rc ext l).fw (by decide)
@[simp] theorem reply_img (s : State) (p : CmdPath) (rc : Rc) (ext : Nat) (l : List Nat) :
    (s.reply p rc ext l).img = s.img := (reply_within s p rc ext l).img (by decide)

@[simp] theorem reply_out (s : State) (p : CmdPath) (rc : Rc) (ext : Nat) (l : List Nat) :
    (s.reply p rc ext l).out = s.out ++ [.response p rc ext l] := by
  simp only [State.reply]
  split <;> rfl

@[simp] theorem bgStart_fw (s : State) (p : CmdPath) (b : Background) : (s.bgStart p b).fw = s.fw := rfl

@[simp] theorem bgDone_descr (s : State) (p : CmdPath) (b : Background) (rc : Rc) (ext : Nat) (l : List Nat) :
    (s.bgDone p b rc ext l).descr = s.descr := (bgDone_within s p b rc ext l).descr (by decide)
@[simp] theorem bgDone_fw (s : State) (p : CmdPath) (b : Background) (rc : Rc) (ext : Nat) (l : List Nat) :
    (s.bgDone p b rc ext l).fw = s.fw := (bgDone_within s p b rc ext l).fw (by decide)
@[simp] theorem bgDone_img (s : State) (p : CmdPath) (b : Background) (rc : Rc) (ext : Nat) (l : List Nat) :
    (s.bgDone p b rc ext l).img = s.img := (bgDone_within s p b rc ext l).img (by decide)

/-- The state with other stored MCTP requests (R331): all that the command unit itself changes before a command runs. -/
def State.noted (s : State) (l : List Stored) : State := { s with mbox := { s.mbox with stored := l } }

@[simp] theorem noted_fw (s : State) (l : List Stored) : (s.noted l).fw = s.fw := rfl
@[simp] theorem noted_img (s : State) (l : List Stored) : (s.noted l).img = s.img := rfl
@[simp] theorem noted_descr (s : State) (l : List Stored) : (s.noted l).descr = s.descr := rfl

/-- A command that is heard, and finds the device ready where it asks for that, is carried out (R328, R331). -/
theorem command_of_heard {s : State} {p : CmdPath} {i : Instr} {c : PathClass} {needReady : Bool} (f : State → State)
    (h : heard s p i c) (hready : needReady = true → s.ready = true) :
    ∃ l, s.command p i c needReady f = f (s.noted l) := by
  obtain ⟨hopen, hnew, haccepts⟩ := h
  have hnotBusy : (needReady && !s.ready) = false := by
    cases needReady with
    | false => rfl
    | true => rw [hready rfl]; rfl
  have run : ∀ u : State, u.accepts c p = true → (needReady && !u.ready) = false →
      (if !u.accepts c p then u.reply p .unsupportedMailbox
        else if needReady && !u.ready then u.reply p .busy 0x000D else f u) = f u := by
    intro u ha hr
    rw [ha, hr]; rfl
  simp only [State.command, hopen, hnew, Bool.not_true, Bool.false_eq_true, if_false]
  split
  · exact ⟨_, run _ haccepts hnotBusy⟩
  · exact ⟨s.mbox.stored, run s haccepts hnotBusy⟩

/-! ### The end of a command -/

@[simp] theorem ended_fw (s u : State) : (s.ended u).fw = u.fw := (settle_within s u).fw (by decide)
@[simp] theorem ended_img (s u : State) : (s.ended u).img = u.img := (settle_within s u).img (by decide)
@[simp] theorem ended_descr (s u : State) : (s.ended u).descr = u.descr := (settle_within s u).descr (by decide)

/-- What a command has sent stays in the transcript that it answers. -/
theorem mem_ended_out {s u : State} {o : Out} (h : o ∈ u.out) : o ∈ (s.ended u).out := by
  have hcount : (teleCount s (bwCount s u)).out = u.out :=
    ((teleCount_within s _).out (by decide)).trans ((bwCount_within s u).out (by decide))
  refine List.mem_append_left _ ?_
  rwa [hcount]

/-- A command on a command path that is heard answers what its own work ends in. -/
theorem answers_of_heard {i : Instr} {s : State} {p : CmdPath} {c : PathClass} {needReady : Bool} {f : State → State}
    {P : State → Prop} (hexec : exec i s = done s (s.command p i c needReady f)) (h : heard s p i c)
    (hready : needReady = true → s.ready = true) (hP : ∀ l, P (s.ended (f (s.noted l)))) : answers i s P := by
  obtain ⟨l, hl⟩ := command_of_heard f h hready
  exact answers_of_eq_done (hexec.trans (congrArg (done s) hl)) (hP l)

end Sys2Proof.Machine
end

section
/-! SUPPORT. Activations of an image (R13, R94, R346, R347): what each step of one does, and O29. -/

namespace Sys2Proof.Machine

/-! ### Start (R346, R347) -/

/-- An activation that nothing stands against is carried on (Table 15-6). -/
theorem activateCheck_of_clear {s : State} {p : CmdPath} {now : Bool} (f : State → State) (hshelf : s.coordinated = false)
    (hcapo : now = true → s.bit Reg.MERGE_STATUS_CAPO = false) (hstate : s.descr.state = 2) (hact : s.fw.act = none) :
    s.activateCheck p now f = f s := by
  have hnotCapo : (now && s.bit Reg.MERGE_STATUS_CAPO) = false := by
    cases now with
    | false => rfl
    | true => exact hcapo rfl
  simp [State.activateCheck, hshelf, hnotCapo, hstate, hact]

theorem startActivation_fw_act {s : State} {p : CmdPath} (kind : ActKind) (stroke : Option Nat) (h : s.bgBusy p = false) :
    (s.startActivation p kind stroke).fw.act = some { kind := kind, path := some p, stroke := stroke } := by
  simp [State.startActivation, h]

theorem response_mem_startActivation_out {s : State} {p : CmdPath} (kind : ActKind) (stroke : Option Nat)
    (h : s.bgBusy p = false) : .response p .backgroundStarted 0 [] ∈ (s.startActivation p kind stroke).out := by
  simp [State.startActivation, h]

/-! ### Verification and loading (R94, R343, R347) -/

/-- A good image goes on to the load of its tables (R347, steps 2 to 4). -/
theorem stagingRead_of_good {s : State} (a : Activation) {r : ImageReport} (hfault : r.fault = 0)
    (himage : s.imageFault r = 0) : s.stagingRead a r =
      (s.setDescr { s.descr with state := 3, copyDone := false, online := true, staging := some r }).loadTables a r := by
  simp [State.stagingRead, hfault, himage]

theorem loadTables_fw_act (s : State) (a : Activation) (r : ImageReport) :
    (s.loadTables a r).fw.act = some { a with stage := .loading, image := imgOf r, report := some r } := by
  simp [State.loadTables]

@[simp] theorem loadTables_descr (s : State) (a : Activation) (r : ImageReport) : (s.loadTables a r).descr = s.descr := by
  unfold State.loadTables
  extract_lets b t ops
  have ht : t.descr = s.descr := by
    unfold t
    split
    · rfl
    · exact releaseSpare_descr s
  exact (flash_descr _).trans ht

@[simp] theorem refuseStaging_descr (s : State) (fault at_ : Nat) :
    (s.refuseStaging fault at_).descr = { s.descr with state := 4 } := by simp [State.refuseStaging]
@[simp] theorem refuseStaging_img (s : State) (fault at_ : Nat) : (s.refuseStaging fault at_).img = s.img := by
  simp [State.refuseStaging]

@[simp] theorem activationRecord_descr (s : State) (how : Nat) : (s.activationRecord how).descr = s.descr := by
  simp [State.activationRecord]
@[simp] theorem activationRecord_fw (s : State) (how : Nat) : (s.activationRecord how).fw = s.fw := by
  simp [State.activationRecord]
@[simp] theorem activationRecord_img (s : State) (how : Nat) : (s.activationRecord how).img = s.img := by
  simp [State.activationRecord]

@[simp] theorem rolledBack_descr (s : State) (a : Activation) (ext : Nat) : (s.rolledBack a ext).descr = s.descr :=
  (rolledBack_within s a ext).descr (by decide)
@[simp] theorem rolledBack_fw (s : State) (a : Activation) (ext : Nat) : (s.rolledBack a ext).fw = s.fw :=
  (rolledBack_within s a ext).fw (by decide)
@[simp] theorem rolledBack_img (s : State) (a : Activation) (ext : Nat) : (s.rolledBack a ext).img = s.img :=
  (rolledBack_within s a ext).img (by decide)

/-- A load that fails ends an activation of this device alone, and leaves STAGING valid (R347). -/
theorem loadFailed_of_own (s : State) {a : Activation} (h : a.kind ≠ .coordinated) :
    (s.loadFailed a).fw.act = none ∧ (s.loadFailed a).descr.state = 2 ∧ (s.loadFailed a).img = s.img := by
  simp [State.loadFailed, h, State.dropActivation]

/-! ### Effect (R13) -/

theorem tbank_key_injective {c d : Nat} (h : Reg.CHAN_STATUS_TBANK.key c 0 = Reg.CHAN_STATUS_TBANK.key d 0) : c = d := by
  simp only [Field.key, Field.offset, Reg.CHAN_STATUS_TBANK] at h
  omega

/-- The table banks of the channels in a list without repeats switch, the others stay. -/
theorem rd_tbank_foldl_switch (l : List Nat) (hl : l.Nodup) (s : State) (c : Nat) :
    (l.foldl (fun s c => s.wr Reg.CHAN_STATUS_TBANK (1 - s.rd Reg.CHAN_STATUS_TBANK c) c) s).rd Reg.CHAN_STATUS_TBANK c =
      if c ∈ l then 1 - s.rd Reg.CHAN_STATUS_TBANK c else s.rd Reg.CHAN_STATUS_TBANK c := by
  induction l generalizing s with
  | nil => rfl
  | cons d l ih =>
    rw [List.nodup_cons] at hl
    obtain ⟨hd, hl⟩ := hl
    rw [List.foldl_cons, ih hl]
    by_cases hcd : c = d
    · subst hcd
      have hbit : (1 - s.rd Reg.CHAN_STATUS_TBANK c) % 2 ^ Reg.CHAN_STATUS_TBANK.width = 1 - s.rd Reg.CHAN_STATUS_TBANK c :=
        Nat.mod_eq_of_lt (show _ < 2 by omega)
      rw [if_neg hd, if_pos List.mem_cons_self, rd_wr_self, hbit]
    · rw [rd_wr_ne _ _ _ _ _ _ _ _ fun h => hcd (tbank_key_injective h)]
      simp [hcd]

/-- Every channel uses the other table bank (R13). -/
theorem switchBanks_rd (s : State) {c : Nat} (hc : c < 64) :
    s.switchBanks.rd Reg.CHAN_STATUS_TBANK c = 1 - s.rd Reg.CHAN_STATUS_TBANK c := by
  rw [State.switchBanks, rd_tbank_foldl_switch _ List.nodup_range, if_pos (List.mem_range.mpr hc)]

/-- The registers that an activation's effect and the end of its command may write beside the table banks. -/
def besideBanks : List Field :=
  [Reg.CHRON_DROP_CNT, Reg.CHRON_REPEAT_CNT, Reg.ERR_PATROL_CFG_HORIZON, Reg.SCHED_STATUS_LAYOUT, Reg.TOP_STATUS_RECOVERY,
    Reg.TELEM_BLK_OVF_OVF]

/-- Fields of different lowest bits have different homes. -/
theorem key_ne_of_lo_ne {f g : Field} (hf : f.lo < 32) (hg : g.lo < 32) (h : f.lo ≠ g.lo) (i j a b : Nat) :
    f.key i j ≠ g.key a b := by
  unfold Field.key
  omega

theorem besideBanks_lo : ∀ g ∈ besideBanks, g.lo < 32 ∧ Reg.CHAN_STATUS_TBANK.lo ≠ g.lo := by decide

theorem rd_tbank_of_besideBanks {s t : State} (h : onlyRegs besideBanks s t) (c : Nat) :
    t.rd Reg.CHAN_STATUS_TBANK c = s.rd Reg.CHAN_STATUS_TBANK c :=
  onlyRegs_rd h fun g hg => key_ne_of_lo_ne (by decide) (besideBanks_lo g hg).1 (besideBanks_lo g hg).2 c 0

@[simp] theorem leaveRecovery_fw (s : State) : s.leaveRecovery.fw = s.fw := (leaveRecovery_within s).fw (by decide)
@[simp] theorem leaveRecovery_img (s : State) : s.leaveRecovery.img = s.img := (leaveRecovery_within s).img (by decide)
@[simp] theorem lowerHorizon_fw (s : State) : s.lowerHorizon.fw = s.fw := (lowerHorizon_within s).fw (by decide)
@[simp] theorem lowerHorizon_img (s : State) : s.lowerHorizon.img = s.img := (lowerHorizon_within s).img (by decide)

/-- From `s` to `t` the activation `a` has taken effect: none is pending, its image runs and is described as the one
activated (Table 15-10), and the registers that differ otherwise than by the switch of the banks are beside the banks. -/
structure InEffect (a : Activation) (s t : State) : Prop where
  act : t.fw.act = none
  img : t.img = a.image
  state : t.descr.state = 3
  regs : ∃ u, onlyRegs besideBanks s u ∧ onlyRegs besideBanks u.switchBanks t

theorem InEffect.tbank {a : Activation} {s t : State} (h : InEffect a s t) {c : Nat} (hc : c < 64) :
    t.rd Reg.CHAN_STATUS_TBANK c = 1 - s.rd Reg.CHAN_STATUS_TBANK c := by
  obtain ⟨u, hbefore, hafter⟩ := h.regs
  rw [rd_tbank_of_besideBanks hafter, switchBanks_rd u hc, rd_tbank_of_besideBanks hbefore]

theorem InEffect.bgDone {a : Activation} {s t : State} (h : InEffect a s t) (p : CmdPath) (b : Background) (rc : Rc)
    (ext : Nat) (l : List Nat) : InEffect a s (t.bgDone p b rc ext l) where
  act := by rw [bgDone_fw, h.act]
  img := by rw [bgDone_img, h.img]
  state := by rw [bgDone_descr, h.state]
  regs := by
    obtain ⟨u, hbefore, hafter⟩ := h.regs
    exact ⟨u, hbefore, hafter.keep (bgDone_within t p b rc ext l) (by decide)⟩

theorem InEffect.ended {a : Activation} {s t : State} (h : InEffect a s t) (q : State) : InEffect a s (q.ended t) where
  act := by rw [ended_fw, h.act]
  img := by rw [ended_img, h.img]
  state := by rw [ended_descr, h.state]
  regs := by
    obtain ⟨u, hbefore, hafter⟩ := h.regs
    exact ⟨u, hbefore, onlyRegs.on (settle_regs q t (by decide)) hafter⟩

/-- Before the banks switch only a late activation is recorded, and nothing after the switch turns a bank back. -/
theorem takeEffect_inEffect (s : State) (a : Activation) : InEffect a s (s.takeEffect a) := by
  unfold State.takeEffect
  extract_lets late recorded run switched imaged _ cleared _ begun spared laid staged _ described last
  have hlate : onlyRegs besideBanks s recorded :=
    onlyRegs.ite (fun _ => chronicle_regs _ _ _ _ _ (by decide) (by decide)) fun _ => onlyRegs.rfl
  have hbegun : onlyRegs besideBanks recorded.switchBanks begun :=
    onlyRegs_of_regs_eq (by simp only [begun, cleared, imaged, switched])
  have hspared : onlyRegs besideBanks recorded.switchBanks spared :=
    onlyRegs.ite (fun _ => hbegun) fun _ => hbegun.keep (releaseSpare_within begun) (by decide)
  have hlaid : onlyRegs besideBanks recorded.switchBanks laid :=
    onlyRegs.on (lowerHorizon_regs _ (by decide) (by decide) (by decide))
      (onlyRegs.on (leaveRecovery_regs spared (by decide) (by decide)) hspared)
  have hlast : onlyRegs besideBanks recorded.switchBanks last :=
    onlyRegs.on (activationRecord_regs described _ (by decide) (by decide))
      (hlaid.keep (setDescr_within laid _) (by decide))
  have hfw : last.fw = begun.fw := by simp [last, described, laid, spared, apply_ite State.fw]
  have himg : last.img = begun.img := by simp [last, described, laid, spared, apply_ite State.img]
  have heffect : InEffect a s last :=
    ⟨by rw [hfw], himg, by simp [last, described], recorded, hlate, hlast⟩
  split
  · exact heffect.bgDone _ _ _ _ _
  · exact heffect

/-! ### The commands -/

theorem exec_imageSlotFlashComplete (what : FlashEnd) (s : State) :
    exec (.imageSlotFlashComplete what) s = execImageSlotFlashComplete what s := rfl

theorem exec_loadTableComplete (ok : Bool) (s : State) : exec (.loadTableComplete ok) s = execLoadTableComplete ok s := rfl

theorem exec_activationTakeEffect (s : State) : exec .activationTakeEffect s = execActivationTakeEffect s := rfl

theorem exec_oldBankRelease (s : State) : exec .oldBankRelease s = execOldBankRelease s := rfl

theorem answers_activateFwOnline {s : State} {p : CmdPath} (h : heard s p (.activateFwOnline p 2) .admin)
    (hready : s.ready = true) (hshelf : s.coordinated = false) (hcapo : s.bit Reg.MERGE_STATUS_CAPO = false)
    (hstate : s.descr.state = 2) (hact : s.fw.act = none) (hbusy : s.bgBusy p = false) :
    answers (.activateFwOnline p 2) s fun t =>
      t.fw.act = some { kind := .online, path := some p, stroke := none }
        ∧ Out.response p .backgroundStarted 0 [] ∈ t.out := by
  refine answers_of_heard rfl h (fun _ => hready) fun l => ?_
  have hrun : (s.noted l).activateCheck p true (fun u => u.startActivation p .online none) =
      (s.noted l).startActivation p .online none := activateCheck_of_clear _ hshelf (fun _ => hcapo) hstate hact
  have hidle : (s.noted l).bgBusy p = false := hbusy
  rw [if_neg (by decide), hrun]
  exact ⟨by rw [ended_fw, startActivation_fw_act _ _ hidle], mem_ended_out (response_mem_startActivation_out _ _ hidle)⟩

/-- What ACTIVATE_AT does once nothing stands against it (R347). -/
def State.scheduleActivation (s : State) (p : CmdPath) (S : Nat) : State :=
  if S < s.stroke + 1024 || s.stroke + 2 ^ 24 < S then s.reply p .invalidInput
  else s.startActivation p .scheduled (some S)

theorem scheduleActivation_of_near {s : State} (p : CmdPath) {S : Nat} (hlow : s.stroke + 1024 ≤ S)
    (hhigh : S ≤ s.stroke + 2 ^ 24) : s.scheduleActivation p S = s.startActivation p .scheduled (some S) :=
  if_neg (by simp; omega)

theorem scheduleActivation_of_far {s : State} (p : CmdPath) {S : Nat}
    (h : S < s.stroke + 1024 ∨ s.stroke + 2 ^ 24 < S) : s.scheduleActivation p S = s.reply p .invalidInput :=
  if_pos (by simpa using h)

theorem answers_activateAt {s : State} {p : CmdPath} {S : Nat} {P : State → Prop}
    (h : heard s p (.activateAt p S) .admin) (hready : s.ready = true) (hshelf : s.coordinated = false)
    (hcapo : s.bit Reg.MERGE_STATUS_CAPO = false) (hstate : s.descr.state = 2) (hact : s.fw.act = none)
    (hP : ∀ l, P (s.ended ((s.noted l).scheduleActivation p S))) : answers (.activateAt p S) s P := by
  refine answers_of_heard rfl h (fun _ => hready) fun l => ?_
  have hrun : (s.noted l).activateCheck p true (·.scheduleActivation p S) = (s.noted l).scheduleActivation p S :=
    activateCheck_of_clear _ hshelf (fun _ => hcapo) hstate hact
  exact hrun ▸ hP l

theorem answers_activateAt_near {s : State} {p : CmdPath} {S : Nat} (h : heard s p (.activateAt p S) .admin)
    (hready : s.ready = true) (hshelf : s.coordinated = false) (hcapo : s.bit Reg.MERGE_STATUS_CAPO = false)
    (hstate : s.descr.state = 2) (hact : s.fw.act = none) (hbusy : s.bgBusy p = false) (hlow : s.stroke + 1024 ≤ S)
    (hhigh : S ≤ s.stroke + 2 ^ 24) :
    answers (.activateAt p S) s fun t =>
      t.fw.act = some { kind := .scheduled, path := some p, stroke := some S }
        ∧ Out.response p .backgroundStarted 0 [] ∈ t.out := by
  refine answers_activateAt h hready hshelf hcapo hstate hact fun l => ?_
  have hidle : (s.noted l).bgBusy p = false := hbusy
  have hrun : (s.noted l).scheduleActivation p S = (s.noted l).startActivation p .scheduled (some S) :=
    scheduleActivation_of_near p hlow hhigh
  rw [hrun]
  exact ⟨by rw [ended_fw, startActivation_fw_act _ _ hidle], mem_ended_out (response_mem_startActivation_out _ _ hidle)⟩

theorem answers_activateAt_far {s : State} {p : CmdPath} {S : Nat} (h : heard s p (.activateAt p S) .admin)
    (hready : s.ready = true) (hshelf : s.coordinated = false) (hcapo : s.bit Reg.MERGE_STATUS_CAPO = false)
    (hstate : s.descr.state = 2) (hact : s.fw.act = none) (hS : S < s.stroke + 1024 ∨ s.stroke + 2 ^ 24 < S) :
    answers (.activateAt p S) s fun t => t.fw = s.fw ∧ Out.response p .invalidInput 0 [] ∈ t.out := by
  refine answers_activateAt h hready hshelf hcapo hstate hact fun l => ?_
  have hrun : (s.noted l).scheduleActivation p S = (s.noted l).reply p .invalidInput := scheduleActivation_of_far p hS
  rw [hrun]
  exact ⟨by simp, mem_ended_out (by simp)⟩

/-- The verification read of a good image begins the load of its tables (R347, steps 2 to 4). -/
theorem answers_activationRead_of_good {s : State} {r : ImageReport} {a : Activation} (hflash : s.inFlash .verify = true)
    (hact : s.fw.act = some a) (hfault : r.fault = 0) (himage : s.imageFault r = 0) :
    answers (.imageSlotFlashComplete (.activationRead r)) s fun t =>
      t.fw.act = some { a with stage := .loading, image := imgOf r, report := some r } ∧ t.descr.state = 3 := by
  have hexec : exec (.imageSlotFlashComplete (.activationRead r)) s = done s (s.imageOpDone.stagingRead a r).flash := by
    simp [exec_imageSlotFlashComplete, execImageSlotFlashComplete, hflash, hact]
  have hgood : s.imageOpDone.imageFault r = 0 := himage
  refine answers_of_eq_done hexec ?_
  rw [stagingRead_of_good a hfault hgood]
  exact ⟨by rw [ended_fw, flash_fw, loadTables_fw_act], by simp⟩

/-- ACTIVATE_FW_NEXT_COLD_RESET once nothing stands against it (R346). -/
def State.activateCold (s : State) (p : CmdPath) (r : ImageReport) : State :=
  if s.imageFault r ≠ 0 then (s.refuseStaging (s.imageFault r) 1).reply p .verificationFailed (s.imageFault r)
  else ((s.setDescr { s.descr with state := 3, copyDone := false, online := false, staging := some r }).activationRecord
    0).reply p .success

theorem activateCold_img (s : State) (p : CmdPath) (r : ImageReport) : (s.activateCold p r).img = s.img := by
  unfold State.activateCold
  split <;> simp

theorem activateCold_of_good {s : State} (p : CmdPath) {r : ImageReport} (h : s.imageFault r = 0) :
    (s.activateCold p r).descr = { s.descr with state := 3, copyDone := false, online := false, staging := some r }
      ∧ .response p .success 0 [] ∈ (s.activateCold p r).out := by
  simp [State.activateCold, h]

theorem activateCold_of_faulty {s : State} (p : CmdPath) {r : ImageReport} (h : s.imageFault r ≠ 0) :
    (s.activateCold p r).descr = { s.descr with state := 4 }
      ∧ .response p .verificationFailed (s.imageFault r) [] ∈ (s.activateCold p r).out := by
  simp [State.activateCold, h]

theorem answers_activateFwNextColdReset {s : State} {p : CmdPath} {r : ImageReport} {P : State → Prop}
    (h : heard s p (.activateFwNextColdReset p 2 r) .admin) (hshelf : s.coordinated = false) (hstate : s.descr.state = 2)
    (hact : s.fw.act = none) (hP : ∀ l, P (s.ended ((s.noted l).activateCold p r))) :
    answers (.activateFwNextColdReset p 2 r) s P := by
  refine answers_of_heard rfl h (fun hr => nomatch hr) fun l => ?_
  have hrun : (s.noted l).activateCheck p false (·.activateCold p r) = (s.noted l).activateCold p r :=
    activateCheck_of_clear _ hshelf (fun hr => nomatch hr) hstate hact
  rw [if_neg (by decide)]
  exact hrun ▸ hP l

theorem answers_activateFwNextColdReset_verified {s : State} {p : CmdPath} {r : ImageReport}
    (h : heard s p (.activateFwNextColdReset p 2 r) .admin) (hshelf : s.coordinated = false) (hstate : s.descr.state = 2)
    (hact : s.fw.act = none) :
    answers (.activateFwNextColdReset p 2 r) s fun t =>
      (s.imageFault r = 0 → t.descr.state = 3 ∧ t.descr.online = false ∧ t.descr.staging = some r
        ∧ Out.response p .success 0 [] ∈ t.out)
      ∧ (s.imageFault r ≠ 0 → t.descr.state = 4 ∧ Out.response p .verificationFailed (s.imageFault r) [] ∈ t.out)
      ∧ t.img = s.img := by
  refine answers_activateFwNextColdReset h hshelf hstate hact fun l => ⟨fun hgood => ?_, fun hbad => ?_, ?_⟩
  · obtain ⟨hdescr, hout⟩ := activateCold_of_good (s := s.noted l) p hgood
    rw [ended_descr, hdescr]
    exact ⟨rfl, rfl, rfl, mem_ended_out hout⟩
  · obtain ⟨hdescr, hout⟩ := activateCold_of_faulty (s := s.noted l) p hbad
    rw [ended_descr, hdescr]
    exact ⟨rfl, mem_ended_out hout⟩
  · rw [ended_img, activateCold_img, noted_img]

theorem answers_loadTableComplete_ok {s : State} {a : Activation} (hact : s.fw.act = some a) (hstage : a.stage = .loading)
    (hops : s.imageOps.any ImageOp.activates = false) (hspare : s.spareValid = true) :
    answers (.loadTableComplete true) s fun t => t.fw.act = some { a with stage := .loaded } ∧ t.img = s.img := by
  refine answers_of_eq_done (Eq.refl (done s _)) ?_
  simp only [hact, hstage, hops, hspare]
  by_cases hkind : a.kind = .coordinated
  · simp [hkind, State.setAct]
  · simp [hkind]

theorem answers_loadTableComplete_failed {s : State} {a : Activation} (hact : s.fw.act = some a)
    (hstage : a.stage = .loading) (hkind : a.kind ≠ .coordinated) :
    answers (.loadTableComplete false) s fun t => t.fw.act = none ∧ t.descr.state = 2 ∧ t.img = s.img := by
  have hexec : exec (.loadTableComplete false) s = done s (s.loadFailed a) := by
    simp [exec_loadTableComplete, execLoadTableComplete, hact, hstage]
  obtain ⟨hnone, hvalid, himg⟩ := loadFailed_of_own s hkind
  exact answers_of_eq_done hexec ⟨by rw [ended_fw, hnone], by rw [ended_descr, hvalid], by rw [ended_img, himg]⟩

theorem answers_activationTakeEffect {s : State} {a : Activation} (hact : s.fw.act = some a) (hkind : a.kind ≠ .coordinated)
    (hstage : a.stage = .loaded) (hbank : s.fw.oldBank = false) (hdue : ∀ n, a.stroke = some n → n ≤ s.stroke) :
    answers .activationTakeEffect s fun t => InEffect a s t := by
  have hexec : exec .activationTakeEffect s = done s (s.takeEffect a) := by
    simp only [exec_activationTakeEffect, execActivationTakeEffect, hact, hkind, hstage, hbank]
    cases hstroke : a.stroke with
    | none => simp
    | some n => simp [hdue n hstroke]
  exact answers_of_eq_done hexec ((takeEffect_inEffect s a).ended s)

theorem answers_oldBankRelease {s : State} (hbank : s.fw.oldBank = true) (hunder : s.underOld = false) :
    answers .oldBankRelease s fun t => t.fw.oldBank = false ∧ t.fw.oldPrecond = [] ∧ t.img = s.img := by
  have hexec : exec .oldBankRelease s =
      done s ({ s with fw := { s.fw with oldBank := false, oldPrecond := [] } } : State).releaseSpare := by
    simp [exec_oldBankRelease, execOldBankRelease, hbank, hunder]
  exact answers_of_eq_done hexec (by simp)

theorem oldBankRelease_waits {s : State} (hunder : s.underOld = true) : answers .oldBankRelease s fun t => t = s :=
  answers_self (by simp [exec_oldBankRelease, execOldBankRelease, hunder])

/-- Settles O29: the refusals of an activation are met first, then each step of R347 is the one its lemma above names;
the banks of all channels switch in one step, which nothing after it turns back. -/
theorem activationsTakeEffect : Obligations.ActivationsTakeEffect := by
  unfold Obligations.ActivationsTakeEffect
  refine ⟨?_, ?_, ?_, ?_, ?_, ?_, ?_, ?_⟩
  · exact fun s p h hready hshelf hcapo hstate hact hbusy =>
      answers_activateFwOnline h hready hshelf hcapo hstate hact hbusy
  · exact fun s p S h hready hshelf hcapo hstate hact =>
      ⟨fun hbusy hlow hhigh => answers_activateAt_near h hready hshelf hcapo hstate hact hbusy hlow hhigh,
        fun hS => answers_activateAt_far h hready hshelf hcapo hstate hact hS⟩
  · exact fun s r a hflash hact hfault himage => answers_activationRead_of_good hflash hact hfault himage
  · exact fun s p r h hshelf hstate hact => answers_activateFwNextColdReset_verified h hshelf hstate hact
  · exact fun s a hact hstage hops hspare => answers_loadTableComplete_ok hact hstage hops hspare
  · exact fun s a hact hstage hkind => answers_loadTableComplete_failed hact hstage hkind
  · intro s a hact hkind hstage hbank hdue
    obtain ⟨t, ht, heffect⟩ := answers_activationTakeEffect hact hkind hstage hbank hdue
    exact ⟨t, ht, heffect.act, heffect.img, heffect.state, fun c hc => heffect.tbank hc⟩
  · refine fun s hbank => ⟨fun hunder => answers_oldBankRelease hbank hunder, fun hunder => ?_⟩
    obtain ⟨t, ht, rfl⟩ := oldBankRelease_waits hunder
    exact ⟨t, ht, rfl, rfl⟩

end Sys2Proof.Machine
end

section
/-! SUPPORT. Frames of whole commands: the parts of the state and the register fields outside which a command changes
nothing, its end included. -/

namespace Sys2Proof.Machine

open Sys2Proof

/-- `t` is `s` but for the parts that `m` names, and every register but those of the fields `l` is as it was. -/
def Framed (m : Nat) (l : List Field) (s t : State) : Prop := Within m s t ∧ onlyRegs l s t

/-- Whatever state the command starts from, its own work ends within the frame. -/
def EndsFramed (m : Nat) (l : List Field) (i : Instr) : Prop := ∀ s, ∃ u, exec i s = done s u ∧ Framed m l s u

/-- As `EndsFramed`, with nothing said of the registers apart. -/
def EndsWithin (m : Nat) (i : Instr) : Prop := ∀ s, ∃ u, exec i s = done s u ∧ Within m s u

namespace Framed

variable {m b : Nat} {l : List Field} {s t u : State}

theorem rfl : Framed m l s s := ⟨Within.rfl, onlyRegs.rfl⟩

theorem ite {c : Prop} [Decidable c] (ht : c → Framed m l s t) (hu : ¬c → Framed m l s u) :
    Framed m l s (if c then t else u) := by
  split
  · exact ht ‹_›
  · exact hu ‹_›

/-- An operation whose parts and register fields lie in the frame. -/
theorem via (h : Framed m l s t) (hw : Within b t u) (hr : onlyRegs l t u) (hb : b ||| m = m := by decide) :
    Framed m l s u := ⟨hw.on hb h.1, hr.on h.2⟩

/-- An operation that writes no register. -/
theorem quiet (h : Framed m l s t) (hw : Within b t u) (hb : b ||| m = m := by decide)
    (hregs : b.testBit 1 = false := by decide) : Framed m l s u := ⟨hw.on hb h.1, onlyRegs.keep hw hregs h.2⟩

/-- A write of one register field. -/
theorem wr {f : Field} {v i j : Nat} (h : Framed m l s t) (hf : f ∈ l) (hb : 2 ||| m = m := by decide) :
    Framed m l s (t.wr f v i j) := ⟨(wr_within ..).on hb h.1, h.2.wr hf⟩

/-- A change of fields of the record that are no registers. -/
theorem set (h : Framed m l s t) (hw : u = State.pick m t u := by rfl) (hr : u.regs = t.regs := by rfl) :
    Framed m l s u := ⟨Within.on (m := m) hw (Nat.or_self m) h.1, (onlyRegs_of_regs_eq hr).on h.2⟩

theorem foldl {α : Type} {f : State → α → State} (hf : ∀ t x, Framed m l t (f t x)) (xs : List α)
    (h : Framed m l s t) :
    Framed m l s (xs.foldl f t) :=
  ⟨Within.foldl (fun t x => (hf t x).1) xs h.1, onlyRegs.foldl (fun t x => (hf t x).2) xs h.2⟩

end Framed

theorem EndsFramed.within {m : Nat} {l : List Field} {i : Instr} (h : EndsFramed m l i) : EndsWithin m i := fun s =>
  (h s).imp fun _ hu => ⟨hu.1, hu.2.1⟩

/-- What the end of a command may change: the telemetry counters, the registers and the transcript. -/
def endParts : Nat := 0x2800000000000000000000000000000000000000000000000000000000000000022

/-- The end of a command adds the telemetry counters, TELEM_BLK_OVF and the transcript to what its work changes. -/
theorem EndsWithin.changes {m : Nat} {i : Instr} {f : State → State → State} (h : EndsWithin m i)
    (hf : ∀ s t, State.pick m s t = f s t)
    (hend : endParts ||| m = m := by decide)
    (hqueue : m.testBit 0 = false := by decide) : changes i f := by
  intro s t ht
  obtain ⟨u, hu, hw⟩ := h s
  rw [hu, done_eq_next_ended] at ht
  cases ht
  have hsettle : Within m s (settle s u) := (settle_within s u).on hend hw
  have hpending : (settle s u).pending = s.pending := by
    simpa only [State.pick, hqueue, cond_false] using congrArg State.pending hsettle
  have hended : s.ended u = settle s u := by rw [State.ended, ← hpending]
  rw [hended, ← hf]
  exact hsettle

theorem EndsFramed.changes {m : Nat} {l : List Field} {i : Instr} {f : State → State → State} (h : EndsFramed m l i)
    (hf : ∀ s t, State.pick m s t = f s t)
    (hend : endParts ||| m = m := by decide)
    (hqueue : m.testBit 0 = false := by decide) (hovf : Reg.TELEM_BLK_OVF_OVF ∈ l := by decide) :
    changes i f ∧ changesRegs i l := by
  refine ⟨h.within.changes hf hend hqueue, fun s t ht => ?_⟩
  obtain ⟨u, hu, hw⟩ := h s
  rw [hu, done_eq_next_ended] at ht
  cases ht
  exact (settle_regs s u hovf).on hw.2

end Sys2Proof.Machine
end

section
/-! SUPPORT. The frame of each command of strokes, of the scheduler and of the media channels (R23, R29, R89,
R96, R108), and O53. -/

namespace Sys2Proof.Machine

open Sys2Proof

/-! ### Time and the scheduler -/

/-- The parts that a stroke boundary may change. -/
def strokeBoundaryParts : Nat := 0x3fffe07fffffffff01fffffffffffffcffffffffe5fffffffffffffff000000000032e

theorem strokeBoundary_within : EndsWithin strokeBoundaryParts .strokeBoundary := fun s => by
  refine ⟨_, rfl, .ite (fun _ => .rfl) fun _ => ?_⟩
  extract_lets on s1 n s2
  have h1 : Within strokeBoundaryParts s s1 :=
    .ite (fun _ => (telemStroke_within _).on (by decide) ((stallCount_within s).on (by decide) .rfl)) fun _ => .rfl
  have h2 : Within strokeBoundaryParts s s2 :=
    (shelfPointTick_within _).on (by decide) ((clearDue_within _).on (by decide) (.upd (by rfl) h1))
  exact .ite (fun _ => (coreBoundary_within _).on (by decide) h2) fun _ => h2

/-- The parts that a plan lock may change. -/
def planLockParts : Nat := 0x280000000000001fffffffffe17e400000000a10000380000000000000000000022

/-- The register fields that a plan lock may write. -/
def planLockFields : List Field := [
  Reg.ERR_HEALTH_EVENT_POISON_FULL, Reg.ERR_POISON_LIST_OVERFLOW, Reg.ERR_POISON_LIST_RECORDS, Reg.MERGE_FILL_BAD_CNT,
  Reg.MERGE_FILL_CNT, Reg.MERGE_PARTIAL_LINES, Reg.MERGE_SETTLING_LINES, Reg.MERGE_STATUS_DIRTY,
  Reg.MERGE_STATUS_LIMIT, Reg.PROT_INTEG_DIRTY_LINES, Reg.SCHED_C2_VIOL, Reg.SCHED_CHAN_VIOL_HI_CHAN,
  Reg.SCHED_CHAN_VIOL_LO_CHAN, Reg.SCHED_DEFER_CNT, Reg.SCHED_RECOV_OVF, Reg.SCHED_STATUS_BOUND_ACTIVE,
  Reg.SCHED_STATUS_POOL_EXCL, Reg.TELEM_BLK_OVF_OVF, Reg.XLAT_COLD_COUNT_BLOCKS, Reg.XLAT_HOT_COUNT_BLOCKS,
  Reg.XLAT_LIFTED_PAGES, Reg.XLAT_LIFT_FULL_CNT, Reg.XLAT_MOVES_ACTIVE, Reg.XLAT_MOVES_QUEUED, Reg.XLAT_PINNED_LINES,
  Reg.XLAT_POOL_STATUS_FREE]

theorem planLock_framed : EndsFramed planLockParts planLockFields .planLock := fun s => by
  refine ⟨_, rfl, .ite (fun _ => .rfl) fun _ => ?_⟩
  extract_lets n sched s1 s2 s3
  have h1 : Framed planLockParts planLockFields s s1 := .ite (fun _ => Framed.rfl.set) fun _ => .rfl
  have h2 : Framed planLockParts planLockFields s s2 :=
    (h1.via (exclEnd_within _) (exclEnd_regs _ (by decide))).quiet (suspendAll_within _)
  have h3 : Framed planLockParts planLockFields s s3 :=
    (h2.via (lockReads_within _ _) (by apply lockReads_regs <;> decide)).via (lockPrograms_within _ _)
      (by apply lockPrograms_regs <;> decide)
  clear_value s3
  exact h3.set.via (boundUpdate_within _) (boundUpdate_regs _ (by decide))

/-- The parts that the boundary of a sync epoch may change. -/
def syncEpochParts : Nat := 0x3fffe07fffffffff000000fffffffff400003fffe10000007fffc0000000000000022e

/-- The register fields that the boundary of a sync epoch may write. -/
def syncEpochBoundaryFields : List Field := [
  Reg.CHRON_DROP_CNT, Reg.CHRON_REPEAT_CNT, Reg.ERR_BUCKET_STATUS_LEVEL, Reg.ERR_HEALTH_EVENT_DIE_FAIL,
  Reg.ERR_HEALTH_EVENT_LIFE, Reg.ERR_HEALTH_EVENT_POISON_FULL, Reg.ERR_HEALTH_EVENT_POOL, Reg.ERR_HEALTH_EVENT_TEMP,
  Reg.PWR_STATUS_SLOT_WAIT, Reg.SHELF_ACT_STATUS_DECISION, Reg.SHELF_DETUNE_EPOCH_HIGH, Reg.SHELF_DETUNE_IMAGE_CLASS,
  Reg.SHELF_DETUNE_POS_CONFLICT, Reg.SHELF_DETUNE_TIME, Reg.SHELF_MEMBERS_POS, Reg.SHELF_POINT_DONE_POS,
  Reg.SHELF_POINT_EXCL_POS, Reg.SHELF_POINT_NOANS_POS, Reg.SHELF_POINT_PARTIAL_POS, Reg.SHELF_STATUS_CONTACT,
  Reg.SHELF_STATUS_MANAGER, Reg.SHELF_STATUS_TIME_STATE, Reg.SHELF_STEP_CNT, Reg.TELEM_BLK_OVF_OVF,
  Reg.TELEM_SNAP_DROP_CNT, Reg.TELEM_STATUS_FROZEN, Reg.TELEM_STATUS_SNAP_DROP, Reg.XLAT_COLD_COUNT_BLOCKS,
  Reg.XLAT_HOT_COUNT_BLOCKS, Reg.XLAT_LIFTED_PAGES, Reg.XLAT_MOVES_ACTIVE, Reg.XLAT_MOVES_QUEUED,
  Reg.XLAT_POOL_STATUS_FREE]

theorem syncEpochBoundary_framed : EndsFramed syncEpochParts syncEpochBoundaryFields .syncEpochBoundary := fun s => by
  refine ⟨_, rfl, .ite (fun _ => .rfl) fun _ => ?_⟩
  extract_lets s1 s2
  have h1 : Framed syncEpochParts syncEpochBoundaryFields s s1 := Framed.rfl.set
  have h2 : Framed syncEpochParts syncEpochBoundaryFields s s2 :=
    .ite (fun _ => h1.via (coreEpoch_within _) (by apply coreEpoch_regs <;> decide)) fun _ => h1
  exact h2.via (shelfEpoch_within _) (by apply shelfEpoch_regs <;> decide)

theorem programResume_framed (b : BankId) :
    EndsFramed 0x2800000000000000000000000000400000000000000000000000000000000000022 [Reg.TELEM_BLK_OVF_OVF]
      (.programResume b) := fun s => by
  refine ⟨_, rfl, ?_⟩
  split
  · exact .rfl
  · exact .ite (fun _ => Framed.rfl.set) fun _ => .rfl

/-- The register fields that a read's way into the scheduler may write. -/
def readReachSchedulerFields : List Field := [
  Reg.CACHE_RC_HIT_CNT, Reg.CACHE_RC_PROBE_SKIP_CNT, Reg.MERGE_FILL_BAD_CNT, Reg.MERGE_PARTIAL_LINES,
  Reg.MERGE_SETTLING_LINES, Reg.MERGE_STATUS_DIRTY, Reg.MERGE_STATUS_LIMIT, Reg.PORT_INFLIGHT_LINK0,
  Reg.PORT_INFLIGHT_LINK1, Reg.PORT_INFLIGHT_PEAK_LINK0, Reg.PORT_INFLIGHT_PEAK_LINK1, Reg.SCHED_BOUND_MISS,
  Reg.SCHED_DEFER_CNT, Reg.SCHED_HELD_CNT, Reg.SCHED_MAX_LAT_CCLK, Reg.TELEM_BLK_OVF_OVF, Reg.XLAT_PINNED_LINES]

theorem readReachScheduler_framed (rid t : Nat) (class4 : Bool) :
    EndsFramed 0x280000000000000000000000023c400008000218000000000000000000000000022 readReachSchedulerFields
      (.readReachScheduler rid t class4) := fun s => by
  refine ⟨_, rfl, ?_⟩
  split
  · exact .rfl
  · refine .ite (fun _ => .rfl) fun _ => ?_
    split
    · exact Framed.rfl.via (deliverHost_within ..) (by apply deliverHost_regs <;> decide)
    · exact ((Framed.rfl.via (tele_within ..) (tele_regs _ _ _ _ _ (by decide))).via
        (admitRead_within ..) (by apply admitRead_regs <;> decide)).via (probe_within ..)
        (probe_regs _ _ _ (by decide))

theorem schedCntClr_framed (v : Word) :
    EndsFramed 0x280000000000000000000000000000000000000000000000000000000000000002a [Reg.TELEM_BLK_OVF_OVF]
      (.schedCntClr v) := fun s =>
  ⟨_, rfl, .ite (fun _ => Framed.rfl.quiet (askClear_within ..)) fun _ => .rfl⟩

theorem schedStrokeLoRead_framed : EndsFramed endParts
    [Reg.SCHED_STROKE_HI_COUNT_HI, Reg.TELEM_BLK_OVF_OVF] .schedStrokeLoRead := fun s =>
  ⟨_, rfl, (Framed.rfl.wr (by decide)).quiet (emit_within ..)⟩

/-! ### The state of a channel -/

theorem fipenAlert_framed (chan : Nat) : EndsFramed
    0x2800000000000000000000000001000000000000000000000000000000000000022
    [Reg.CHAN_STATUS_ALERT, Reg.TELEM_BLK_OVF_OVF] (.fipenAlert chan) := fun s =>
  ⟨_, rfl, .ite (fun _ => (Framed.rfl.via (setBit_within ..) (setBit_regs _ _ _ _ _ (by decide))).quiet
    (setChan_within ..))
    fun _ => .rfl⟩

/-- The parts that a READ STATUS response may change. -/
def readStatusParts : Nat := 0x3fffe0000000000001fffffffffffffc000001ffe10000007ffffffff0000000000022

/-- The register fields that a READ STATUS response may write. -/
def readStatusResponseFields : List Field := [
  Reg.CHAN_LAST_FAIL_OP, Reg.CHAN_LINK_ERR_CNT, Reg.CHAN_RETRAIN_CNT, Reg.CHAN_STATUS_ALERT, Reg.CHAN_STATUS_RETRAIN,
  Reg.CHAN_TEMP_DIE_TEMP, Reg.CHAN_VERIFY_FAIL_CNT, Reg.CHRON_DROP_CNT, Reg.CHRON_REPEAT_CNT, Reg.ERR_DIRTY_LOST_CNT,
  Reg.ERR_HEALTH_EVENT_DIE_FAIL, Reg.ERR_HEALTH_EVENT_DIRTY_LOST, Reg.ERR_HEALTH_EVENT_POISON_FULL,
  Reg.ERR_POISON_LIST_OVERFLOW, Reg.ERR_POISON_LIST_RECORDS, Reg.MERGE_PARTIAL_LINES, Reg.MERGE_SETTLING_LINES,
  Reg.MERGE_STATUS_DIRTY, Reg.MERGE_STATUS_LIMIT, Reg.TELEM_BLK_OVF_OVF, Reg.XLAT_COLD_COUNT_BLOCKS,
  Reg.XLAT_COPY_FAIL_CNT, Reg.XLAT_HOT_COUNT_BLOCKS, Reg.XLAT_LIFTED_PAGES, Reg.XLAT_MOVES_ACTIVE,
  Reg.XLAT_MOVES_QUEUED, Reg.XLAT_PINNED_LINES, Reg.XLAT_PIN_CNT, Reg.XLAT_POISON_WR_CNT, Reg.XLAT_POOL_STATUS_FREE]

theorem readStatusResponse_framed (chan : Nat) (st : StatusLine) :
    EndsFramed readStatusParts readStatusResponseFields (.readStatusResponse chan st) := fun s => by
  refine ⟨_, rfl, .ite (fun _ => .rfl) fun _ => ?_⟩
  extract_lets c s1 s2 s3 s4
  have h1 : Framed readStatusParts readStatusResponseFields s s1 := Framed.rfl.quiet (setChan_within ..)
  have h2 : Framed readStatusParts readStatusResponseFields s s2 :=
    (h1.via (setBit_within ..) (setBit_regs _ _ _ _ _ (by decide))).wr
      (by decide)
  have h3 : Framed readStatusParts readStatusResponseFields s s3 := .foldl (fun t d => .ite
    (fun _ => Framed.rfl.via (declareDie_within ..) (by apply declareDie_regs <;> decide))
    fun _ => .rfl) _ h2
  have h4 : Framed readStatusParts readStatusResponseFields s s4 := .ite
    (fun _ => h3.via (verifyFailure_within ..) (by apply verifyFailure_regs <;> decide))
    fun _ => .ite (fun _ => (h3.wr (by decide)).via (programFailed_within ..)
      (by apply programFailed_regs <;> decide)) fun _ => h3
  exact h4.via (linkError_within ..) (by apply linkError_regs <;> decide)

theorem readStatusNoResponse_framed (chan : Nat) : EndsFramed
    0x2800000000000000000000000001000000000000000007fbcc00c10000000000022
    [Reg.CHAN_STATUS_RETRAIN, Reg.CHAN_STATUS_STATE, Reg.CHRON_DROP_CNT, Reg.CHRON_REPEAT_CNT,
      Reg.ERR_HEALTH_EVENT_DIE_FAIL, Reg.TELEM_BLK_OVF_OVF] (.readStatusNoResponse chan) := fun s => by
  refine ⟨_, rfl, .ite (fun _ => .rfl) fun _ => ?_⟩
  exact .ite (fun _ => (Framed.rfl.quiet (setChan_within ..)).via (failChannel_within ..)
    (by apply failChannel_regs <;> decide)) fun _ => Framed.rfl.quiet (setChan_within ..)

/-- The register fields that a failed training step may write. -/
def fipenTrainingStepLimitFields : List Field := [
  Reg.CHAN_RETRAIN_CNT, Reg.CHAN_STATUS_RETRAIN, Reg.CHAN_STATUS_STATE, Reg.CHRON_DROP_CNT, Reg.CHRON_REPEAT_CNT,
  Reg.ERR_HEALTH_EVENT_DIE_FAIL, Reg.MERGE_PARTIAL_LINES, Reg.MERGE_SETTLING_LINES, Reg.MERGE_STATUS_DIRTY,
  Reg.MERGE_STATUS_LIMIT, Reg.TELEM_BLK_OVF_OVF, Reg.XLAT_PINNED_LINES]

theorem fipenTrainingStepLimit_framed (chan step : Nat) : EndsFramed
    0x2800000000000000040002828001400000000200000007fbcc00c10000000000022
    fipenTrainingStepLimitFields (.fipenTrainingStepLimit chan step) := fun s => by
  refine ⟨_, rfl, .ite (fun _ => .ite (fun _ => .rfl) fun _ => ?start)
    fun _ => .ite (fun _ => .ite (fun _ => ?full) fun _ =>
    .ite (fun _ => ?fail) fun _ => ?again) fun _ => .rfl⟩
  case start => exact (Framed.rfl.quiet (setChan_within ..)).wr (by decide)
  case full =>
    exact Framed.rfl.via (fullRetrain_within ..) (by apply fullRetrain_regs <;> decide)
  case fail =>
    exact (Framed.rfl.via (retrainRecord_within ..)
      (by apply retrainRecord_regs <;> decide)).via (failChannel_within ..)
      (by apply failChannel_regs <;> decide)
  case again => exact Framed.rfl.quiet (setChan_within ..)

/-- The register fields that the end of a training may write. -/
def fipenTrainingCompleteFields : List Field := [
  Reg.CHAN_G_FAILED_DIES, Reg.CHAN_SERIAL_HI_SERIAL, Reg.CHAN_SERIAL_LO_SERIAL, Reg.CHAN_STATUS_DIES,
  Reg.CHAN_STATUS_DIE_FAILED, Reg.CHAN_STATUS_RETRAIN, Reg.CHAN_STATUS_STATE, Reg.CHAN_TRAIN_VALUES,
  Reg.CHRON_DROP_CNT, Reg.CHRON_REPEAT_CNT, Reg.ERR_HEALTH_EVENT_DIE_FAIL, Reg.TELEM_BLK_OVF_OVF,
  Reg.TOP_CAPACITY_UNITS, Reg.TOP_STATUS_RECOVERY, Reg.TOP_STATUS_STACK]

theorem fipenTrainingComplete_framed (results : List TrainResult) : EndsFramed
    0x2800000000000fe0000000000081000000000000000007fbcfffff0082000000022
    fipenTrainingCompleteFields (.fipenTrainingComplete results) := fun s => by
  refine ⟨_, rfl, .ite (fun _ => .ite (fun _ => ?start) fun _ => .rfl) fun _ => ?retrain⟩
  case start =>
    exact (Framed.foldl (fun t c => Framed.rfl.via (trained_within ..)
      (by apply trained_regs <;> decide)) _ .rfl).via (trainingEnd_within _)
      (by apply trainingEnd_regs <;> decide)
  case retrain =>
    exact .foldl (fun t r => Framed.rfl.via (retrained_within ..)
      (by apply retrained_regs <;> decide)) _ .rfl

/-- The register fields that the end of a fast retrain may write. -/
def fastRetrainCompleteFields : List Field := [
  Reg.CHAN_RETRAIN_CNT, Reg.CHAN_STATUS_RETRAIN, Reg.CHAN_STATUS_STATE, Reg.CHRON_DROP_CNT, Reg.CHRON_REPEAT_CNT,
  Reg.MERGE_PARTIAL_LINES, Reg.MERGE_SETTLING_LINES, Reg.MERGE_STATUS_DIRTY, Reg.MERGE_STATUS_LIMIT,
  Reg.TELEM_BLK_OVF_OVF, Reg.XLAT_PINNED_LINES]

theorem fastRetrainComplete_framed (chan : Nat) (ok : Bool) : EndsFramed
    0x280000000000000004000282800140000000020000000003cc00000000000000022
    fastRetrainCompleteFields (.fastRetrainComplete chan ok) := fun s => by
  refine ⟨_, rfl, .ite (fun _ => .rfl) fun _ => .ite (fun _ => ?good) fun _ => ?full⟩
  case good =>
    refine Framed.set ?_
    exact (Framed.rfl.via (setBit_within ..) (setBit_regs _ _ _ _ _ (by decide))).via
      (retrainRecord_within ..) (by apply retrainRecord_regs <;> decide)
  case full =>
    exact Framed.rfl.via (fullRetrain_within ..) (by apply fullRetrain_regs <;> decide)

/-! ### Media reads -/

/-- The register fields that a media read's result may write. -/
def mediaReadCompleteFields : List Field := [
  Reg.CACHE_RC_FILL_CNT, Reg.CACHE_RC_FILL_DROP_CNT, Reg.CACHE_RC_HIT_CNT, Reg.CHAN_CORR_CNT, Reg.CHAN_RETRY_CNT,
  Reg.CHRON_DROP_CNT, Reg.CHRON_REPEAT_CNT, Reg.ERR_BUCKET_STATUS_LEVEL, Reg.ERR_BUCKET_STATUS_OVF_CNT,
  Reg.ERR_CORR_PERS_CNT, Reg.ERR_HEALTH_EVENT_BUCKET_OVF, Reg.MERGE_FILL_BAD_CNT, Reg.MERGE_PARTIAL_LINES,
  Reg.MERGE_SETTLING_LINES, Reg.MERGE_STATUS_DIRTY, Reg.MERGE_STATUS_LIMIT, Reg.PORT_INFLIGHT_LINK0,
  Reg.PORT_INFLIGHT_LINK1, Reg.PORT_INFLIGHT_PEAK_LINK0, Reg.PORT_INFLIGHT_PEAK_LINK1, Reg.PROT_INTEG_FAIL_CNT,
  Reg.RANGE_INTEG_FAIL_CNT, Reg.SCHED_BOUND_MISS, Reg.SCHED_MAX_LAT_CCLK, Reg.TELEM_BLK_OVF_OVF,
  Reg.XLAT_PINNED_LINES]

theorem mediaReadComplete_framed (job t : Nat) (e : MediaErr) (integ : IntegCheck) (class4 : Bool) :
    EndsFramed 0x2800000000000000020000000508001008000218000007fbcc00000000000000022 mediaReadCompleteFields
      (.mediaReadComplete job t e integ class4) := fun s => by
  refine ⟨_, rfl, ?_⟩
  split
  · exact .rfl
  split
  · exact .rfl
  · exact .ite (fun _ => (Framed.rfl.quiet (leaveAt_within ..)).via (hostDecode_within ..)
      (by apply hostDecode_regs <;> decide)) fun _ => .rfl

/-- The register fields that a reconstruction's result may write. -/
def reconstructionCompleteFields : List Field := [
  Reg.CACHE_RC_FILL_CNT, Reg.CACHE_RC_FILL_DROP_CNT, Reg.CACHE_RC_HIT_CNT, Reg.CHAN_CORR_CNT, Reg.CHAN_RECON_CNT,
  Reg.CHAN_UNCORR_CNT, Reg.CHRON_DROP_CNT, Reg.CHRON_REPEAT_CNT, Reg.ERR_BUCKET_STATUS_LEVEL,
  Reg.ERR_BUCKET_STATUS_OVF_CNT, Reg.ERR_CORR_PERS_CNT, Reg.ERR_HEALTH_EVENT_BUCKET_OVF,
  Reg.ERR_HEALTH_EVENT_DIE_FAIL, Reg.ERR_HEALTH_EVENT_POISON_FULL, Reg.ERR_HEALTH_EVENT_UNCORR,
  Reg.ERR_LAST_UNCORR_HI_VALID, Reg.ERR_LAST_UNCORR_LO_DPA_LO, Reg.ERR_POISON_LIST_OVERFLOW,
  Reg.ERR_POISON_LIST_RECORDS, Reg.ERR_REWRITE_CNT, Reg.ERR_UNCORR_CNT, Reg.MERGE_FILL_BAD_CNT,
  Reg.MERGE_PARTIAL_LINES, Reg.MERGE_SETTLING_LINES, Reg.MERGE_STATUS_DIRTY, Reg.MERGE_STATUS_LIMIT,
  Reg.PORT_INFLIGHT_LINK0, Reg.PORT_INFLIGHT_LINK1, Reg.PORT_INFLIGHT_PEAK_LINK0, Reg.PORT_INFLIGHT_PEAK_LINK1,
  Reg.PROT_INTEG_FAIL_CNT, Reg.RANGE_INTEG_FAIL_CNT, Reg.SCHED_BOUND_MISS, Reg.SCHED_MAX_LAT_CCLK,
  Reg.TELEM_BLK_OVF_OVF, Reg.XLAT_PINNED_LINES]

theorem reconstructionComplete_framed (job t : Nat) (e : MediaErr) (integ : IntegCheck) :
    EndsFramed 0x3fffe0000000000001ffff000001fff07fffc1ffe18000007ffffffff0000000000022 reconstructionCompleteFields
      (.reconstructionComplete job t e integ) := fun s => by
  refine ⟨_, rfl, ?_⟩
  split
  · exact .rfl
  split
  · exact .rfl
  · exact .ite (fun _ => ((Framed.rfl.quiet (leaveAt_within ..)).via (reconRead_within ..)
      (by apply reconRead_regs <;> decide)).via (hostResult_within ..)
      (by apply hostResult_regs <;> decide)) fun _ => .rfl

/-! ### Bank operations -/

/-- The parts that the end of a program may change. -/
def programParts : Nat := 0x2800000000000000260000008000e00000000200000000000000000000000000022

/-- The register fields that the end of a program may write. -/
def programCompleteFields : List Field := [
  Reg.ERR_REFRESH_CNT, Reg.MERGE_DRAIN_CNT, Reg.MERGE_PARTIAL_LINES, Reg.MERGE_SETTLING_LINES, Reg.MERGE_STATUS_DIRTY,
  Reg.MERGE_STATUS_LIMIT, Reg.TELEM_BLK_OVF_OVF, Reg.XLAT_PINNED_LINES]

theorem programComplete_framed (b : BankId) : EndsFramed programParts
    programCompleteFields (.programComplete b) := fun s => by
  refine ⟨_, rfl, ?_⟩
  have hexchanged (o : BankOp) : Framed programParts programCompleteFields s
      (if o.returned then s.exchanged (bankKey b) o else s) :=
    .ite (fun _ => Framed.rfl.via (exchanged_within ..) (by apply exchanged_regs <;> decide))
      fun _ => .rfl
  extract_lets k
  split
  · exact .rfl
  refine .ite (fun _ => .rfl) fun _ => ?_
  split
  · exact hexchanged _
  · exact hexchanged _
  · exact Framed.rfl.via (refreshed_within ..) (by apply refreshed_regs <;> decide)
  · exact Framed.rfl.quiet (tagged_within ..)
  · exact .rfl

theorem exchangeOldLineReturn_framed (b : BankId) (e : MediaErr) : EndsFramed
    0x2800000000000000000000000000400000000000000000000000000000000000022
    [Reg.CHAN_CORR_CNT, Reg.TELEM_BLK_OVF_OVF] (.exchangeOldLineReturn b e) := fun s => by
  refine ⟨_, rfl, ?_⟩
  extract_lets k
  split
  · exact .rfl
  refine .ite (fun _ => .rfl) fun _ => ?_
  extract_lets old d s1
  refine Framed.quiet (Framed.set ?_) (setDelta_within ..)
  exact .ite (fun _ => Framed.rfl.via (noteCorr_within ..) (noteCorr_regs _ _ _ (by decide))) fun _ => .rfl

/-- The parts that the end of a toggle may change. -/
def toggleParts : Nat := 0x2800000000000000000000008000e00000000000000000000000000000000000022

theorem toggleComplete_framed (b : BankId) : EndsFramed toggleParts [Reg.TELEM_BLK_OVF_OVF]
    (.toggleComplete b) := fun s => by
  refine ⟨_, rfl, ?_⟩
  extract_lets k t
  have ht : Framed toggleParts [Reg.TELEM_BLK_OVF_OVF] s t := Framed.rfl.set
  split
  · exact .rfl
  refine .ite (fun _ => .rfl) fun _ => ?_
  extract_lets rebuilt
  have hrebuilt : Framed toggleParts [Reg.TELEM_BLK_OVF_OVF] s rebuilt :=
    ht.quiet (setParity_within ..)
  clear_value rebuilt t
  split
  · extract_lets toggled
    have htoggled : Framed toggleParts [Reg.TELEM_BLK_OVF_OVF] s toggled :=
      ht.quiet (setParity_within ..)
    clear_value toggled
    exact htoggled.set
  · exact hrebuilt.set
  · exact .rfl

/-! ### Age, evacuation and counters -/

theorem ageEpochAdvance_framed : EndsFramed 0x2800000000000000c000000000000000000000000000000003ffff0000000000022
    [Reg.CHAN_G_AGE_EPOCH, Reg.TELEM_BLK_OVF_OVF] .ageEpochAdvance := fun s => by
  refine ⟨_, rfl, .ite (fun _ => .rfl) fun _ => ?_⟩
  exact ((Framed.rfl.set.wr (by decide)).quiet (savePage1_within _)).quiet (flash_within _)

/-- The parts that an evacuated block's end may change. -/
def evacuationBlockParts : Nat := 0x280000000000000000010002800000000000000000000003cc00000000000000022

/-- The register fields that an evacuated block's end may write. -/
def evacuationBlockDoneFields : List Field := [
  Reg.CHAN_G_EVAC_STATUS_ACTIVE, Reg.CHAN_G_EVAC_STATUS_REMAINING, Reg.CHRON_DROP_CNT, Reg.CHRON_REPEAT_CNT,
  Reg.TELEM_BLK_OVF_OVF, Reg.XLAT_COLD_COUNT_BLOCKS, Reg.XLAT_HOT_COUNT_BLOCKS, Reg.XLAT_LIFTED_PAGES,
  Reg.XLAT_MOVES_ACTIVE, Reg.XLAT_MOVES_QUEUED, Reg.XLAT_POOL_STATUS_FREE]

theorem evacuationBlockDone_framed (sbn : Nat) :
    EndsFramed evacuationBlockParts evacuationBlockDoneFields (.evacuationBlockDone sbn) := fun s => by
  refine ⟨_, rfl, .ite (fun _ => .rfl) fun _ => ?_⟩
  extract_lets k s1 x s2 s3
  have h2 : Framed evacuationBlockParts evacuationBlockDoneFields s s2 := (Framed.rfl.quiet (setBlock_within ..)).set
  have h3 : Framed evacuationBlockParts evacuationBlockDoneFields s s3 :=
    (h2.via (evacCounts_within _) (by apply evacCounts_regs <;> decide)).via
      (poolCounts_within _) (by apply poolCounts_regs <;> decide)
  exact .ite (fun _ => h3.via (chronicle_within ..) (by apply chronicle_regs <;> decide))
    fun _ => h3

theorem chanCntClr_framed (chan : Nat) (v : Word) :
    EndsFramed 0x280000000000000000000000000000000000000000000000000000000000000002a [Reg.TELEM_BLK_OVF_OVF]
      (.chanCntClr chan v) := fun s =>
  ⟨_, rfl, .ite (fun _ => Framed.rfl.quiet (askClear_within ..)) fun _ => .rfl⟩

/-- Settles O53: the frame of each command, with what its end adds, is the one that its clause lists. -/
theorem schedulerAndMediaFrames : Obligations.SchedulerAndMediaFrames :=
  ⟨strokeBoundary_within.changes fun _ _ => rfl,
    planLock_framed.changes fun _ _ => rfl,
    syncEpochBoundary_framed.changes fun _ _ => rfl,
    fun b => (programResume_framed b).changes fun _ _ => rfl,
    fun a b c => (readReachScheduler_framed a b c).changes fun _ _ => rfl,
    fun v => (schedCntClr_framed v).changes fun _ _ => rfl,
    schedStrokeLoRead_framed.changes fun _ _ => rfl,
    fun c => (fipenAlert_framed c).changes fun _ _ => rfl,
    fun c st => (readStatusResponse_framed c st).changes fun _ _ => rfl,
    fun c => (readStatusNoResponse_framed c).changes fun _ _ => rfl,
    fun c n => (fipenTrainingStepLimit_framed c n).changes fun _ _ => rfl,
    fun r => (fipenTrainingComplete_framed r).changes fun _ _ => rfl,
    fun c ok => (fastRetrainComplete_framed c ok).changes fun _ _ => rfl,
    fun a b c d e => (mediaReadComplete_framed a b c d e).changes fun _ _ => rfl,
    fun a b c d => (reconstructionComplete_framed a b c d).changes fun _ _ => rfl,
    fun b => (programComplete_framed b).changes fun _ _ => rfl,
    fun b e => (exchangeOldLineReturn_framed b e).changes fun _ _ => rfl,
    fun b => (toggleComplete_framed b).changes fun _ _ => rfl,
    ageEpochAdvance_framed.changes fun _ _ => rfl,
    fun n => (evacuationBlockDone_framed n).changes fun _ _ => rfl,
    fun c v => (chanCntClr_framed c v).changes fun _ _ => rfl⟩

end Sys2Proof.Machine
end

section
/-! SUPPORT. The stroke count and the model's operations (R23, R24, R25): each operation's frame lemma, read at the
stroke count. Only the bodies of AUX_APPLY, STROKE_BOUNDARY and SYNC_EPOCH_BOUNDARY set the count, so none of the
operations that the commands share reaches it. -/

namespace Sys2Proof.Machine

open Sys2Proof

/-- A frame that does not list the stroke count (part 2) keeps it. -/
theorem Within.stroke {m : Nat} {s t : State} (h : Within m s t) (e : m.testBit 2 = false) :
    t.stroke = s.stroke := by
  simpa only [State.pick, e, cond_false] using congrArg State.stroke h

theorem ended_stroke (s u : State) : (s.ended u).stroke = u.stroke := (settle_within s u).stroke (by decide)

theorem stroke_ite {n : Nat} {a b : State} {c : Prop} [Decidable c] (ha : a.stroke = n) (hb : b.stroke = n) :
    (if c then a else b).stroke = n := by split <;> assumption

theorem foldl_stroke {α : Type} {f : State → α → State} (h : ∀ s x, (f s x).stroke = s.stroke) (l : List α)
    (s : State) : (l.foldl f s).stroke = s.stroke := by
  induction l generalizing s with
  | nil => rfl
  | cons x l ih => exact (ih _).trans (h s x)

/-! ### Operations whose effect their own arguments give -/

@[simp] theorem bump_stroke (s : State) (f : Field) (n i j : Nat) : (s.bump f n i j).stroke = s.stroke :=
    (bump_within ..).stroke (by decide)
@[simp] theorem setBit_stroke (s : State) (f : Field) (b : Bool) (i j : Nat) : (s.setBit f b i j).stroke = s.stroke :=
    (setBit_within ..).stroke (by decide)
@[simp] theorem askClear_stroke (s : State) (c : Clear) : (s.askClear c).stroke = s.stroke :=
    (askClear_within ..).stroke (by decide)
@[simp] theorem setSeq_stroke (s : State) (q : SeqState) : (s.setSeq q).stroke = s.stroke :=
    (setSeq_within ..).stroke (by decide)
@[simp] theorem tele_stroke (s : State) (b code f n : Nat) : (s.tele b code f n).stroke = s.stroke :=
    (tele_within ..).stroke (by decide)
@[simp] theorem closeRun_stroke (s : State) (r : ChronRun) : (s.closeRun r).stroke = s.stroke :=
    (closeRun_within ..).stroke (by decide)
@[simp] theorem chronicle_stroke (s : State) (code source sev : Nat) (payload : List Nat) :
    (s.chronicle code source sev payload).stroke = s.stroke := (chronicle_within ..).stroke (by decide)
@[simp] theorem event_stroke (s : State) (l : Log) (r : EventRec) (source : Nat) :
    (s.event l r source).stroke = s.stroke := (event_within ..).stroke (by decide)
@[simp] theorem health_stroke (s : State) (f : Field) : (s.health f).stroke = s.stroke :=
    (health_within ..).stroke (by decide)
@[simp] theorem keepWrite_stroke (s : State) (page : Nat) (data : PageData) (group : Nat) :
    (s.keepWrite page data group).stroke = s.stroke := (keepWrite_within ..).stroke (by decide)
@[simp] theorem flash_stroke (s : State) : s.flash.stroke = s.stroke := (flash_within ..).stroke (by decide)
@[simp] theorem poolCounts_stroke (s : State) : s.poolCounts.stroke = s.stroke :=
    (poolCounts_within ..).stroke (by decide)
@[simp] theorem retireOrQueue_stroke (s : State) (b : Nat) : (s.retireOrQueue b).stroke = s.stroke :=
    (retireOrQueue_within ..).stroke (by decide)
@[simp] theorem correctedVol_stroke (s : State) (r : Region) (address : Nat) :
    (s.correctedVol r address).stroke = s.stroke := (correctedVol_within ..).stroke (by decide)
@[simp] theorem respond_stroke (s : State) (p l : Nat) (discard : Bool) (o : Out) :
    (s.respond p l discard o).stroke = s.stroke := (respond_within ..).stroke (by decide)
@[simp] theorem returnCredit_stroke (s : State) (p l : Nat) (rwd : Bool) :
    (s.returnCredit p l rwd).stroke = s.stroke := (returnCredit_within ..).stroke (by decide)
@[simp] theorem freeShared_stroke (s : State) (k : Nat) : (s.freeShared k).stroke = s.stroke :=
    (freeShared_within ..).stroke (by decide)
@[simp] theorem noteWait_stroke (s : State) (n : Nat) (l : Lane) : (s.noteWait n l).stroke = s.stroke :=
    (noteWait_within ..).stroke (by decide)
@[simp] theorem dropFill_stroke (s : State) (line : Nat) : (s.dropFill line).stroke = s.stroke :=
    (dropFill_within ..).stroke (by decide)
@[simp] theorem drainVerified_stroke (s : State) (line : Nat) : (s.drainVerified line).stroke = s.stroke :=
    (drainVerified_within ..).stroke (by decide)
@[simp] theorem drainFailed_stroke (s : State) (line : Nat) : (s.drainFailed line).stroke = s.stroke :=
    (drainFailed_within ..).stroke (by decide)
@[simp] theorem sliceCount_stroke (s : State) : s.sliceCount.stroke = s.stroke :=
    (sliceCount_within ..).stroke (by decide)
@[simp] theorem leaveAt_stroke (s : State) (t0 : Nat) : (s.leaveAt t0).stroke = s.stroke :=
    (leaveAt_within ..).stroke (by decide)
@[simp] theorem finish_stroke (s : State) (rid : Nat) : (s.finish rid).stroke = s.stroke :=
    (finish_within ..).stroke (by decide)
@[simp] theorem countWrite_stroke (s : State) (n : Nat) : (s.countWrite n).stroke = s.stroke :=
    (countWrite_within ..).stroke (by decide)
@[simp] theorem wakeAll_stroke (s : State) : s.wakeAll.stroke = s.stroke := (wakeAll_within ..).stroke (by decide)
@[simp] theorem snoopAnswer_stroke (s : State) (sess line : Nat) (kept : Bool) :
    (s.snoopAnswer sess line kept).stroke = s.stroke := (snoopAnswer_within ..).stroke (by decide)
@[simp] theorem fromEntry_stroke (s : State) (rid line : Nat) (e : Entry) :
    (s.fromEntry rid line e).stroke = s.stroke := (fromEntry_within ..).stroke (by decide)
@[simp] theorem takeResult_stroke (s : State) (rid : Nat) : (s.takeResult rid).stroke = s.stroke :=
    (takeResult_within ..).stroke (by decide)
@[simp] theorem reply_stroke (s : State) (p : CmdPath) (rc : Rc) (ext : Nat) (data : List Nat) :
    (s.reply p rc ext data).stroke = s.stroke := (reply_within ..).stroke (by decide)
@[simp] theorem bgStart_stroke (s : State) (p : CmdPath) (b : Background) : (s.bgStart p b).stroke = s.stroke :=
    (bgStart_within ..).stroke (by decide)
@[simp] theorem recount_stroke (s : State) : s.recount.stroke = s.stroke := (recount_within ..).stroke (by decide)
@[simp] theorem sessCreate_stroke (s : State) (p : CmdPath) (num : Nat) (w : SessWords) :
    (s.sessCreate p num w).stroke = s.stroke := (sessCreate_within ..).stroke (by decide)
@[simp] theorem sessModify_stroke (s : State) (p : CmdPath) (num : Nat) (m : SessModify) :
    (s.sessModify p num m).stroke = s.stroke := (sessModify_within ..).stroke (by decide)
@[simp] theorem sessFence_stroke (s : State) (p : CmdPath) (num : Nat) : (s.sessFence p num).stroke = s.stroke :=
    (sessFence_within ..).stroke (by decide)
@[simp] theorem sessGet_stroke (s : State) (p : CmdPath) (num : Nat) : (s.sessGet p num).stroke = s.stroke :=
    (sessGet_within ..).stroke (by decide)
@[simp] theorem receive_stroke (s : State) (m : M2S) (op : MemOp) : (s.receive m op).stroke = s.stroke :=
    (receive_within ..).stroke (by decide)
@[simp] theorem receiveWrite_stroke (s : State) (m : M2S) (op : MemOp) (data : LineData) (be : Mask) (poison : Bool) :
    (s.receiveWrite m op data be poison).stroke = s.stroke := (receiveWrite_within ..).stroke (by decide)
@[simp] theorem specFill_stroke (s : State) (line : Nat) (class4 : Bool) :
    (s.specFill line class4).stroke = s.stroke := (specFill_within ..).stroke (by decide)
@[simp] theorem sweepInternal_stroke (s : State) : s.sweepInternal.stroke = s.stroke :=
    (sweepInternal_within ..).stroke (by decide)
@[simp] theorem queueInternal_stroke (s : State) (i : Internal) : (s.queueInternal i).stroke = s.stroke :=
    (queueInternal_within ..).stroke (by decide)
@[simp] theorem endInternal_stroke (s : State) : s.endInternal.stroke = s.stroke :=
    (endInternal_within ..).stroke (by decide)
@[simp] theorem snoopRecord_stroke (s : State) (code sess line : Nat) :
    (s.snoopRecord code sess line).stroke = s.stroke := (snoopRecord_within ..).stroke (by decide)
@[simp] theorem pushSnoops_stroke (s : State) : s.pushSnoops.stroke = s.stroke :=
    (pushSnoops_within ..).stroke (by decide)
@[simp] theorem setLink_stroke (s : State) (p l up rate width flit ide : Nat) :
    (s.setLink p l up rate width flit ide).stroke = s.stroke := (setLink_within ..).stroke (by decide)
@[simp] theorem setIde_stroke (s : State) (p l ide : Nat) : (s.setIde p l ide).stroke = s.stroke :=
    (setIde_within ..).stroke (by decide)
@[simp] theorem discardLink_stroke (s : State) (p l : Nat) : (s.discardLink p l).stroke = s.stroke :=
    (discardLink_within ..).stroke (by decide)
@[simp] theorem loseKeys_stroke (s : State) (p l : Nat) : (s.loseKeys p l).stroke = s.stroke :=
    (loseKeys_within ..).stroke (by decide)
@[simp] theorem resetConfig_stroke (s : State) (p : Nat) : (s.resetConfig p).stroke = s.stroke :=
    (resetConfig_within ..).stroke (by decide)
@[simp] theorem linkGone_stroke (s : State) (p l : Nat) : (s.linkGone p l).stroke = s.stroke :=
    (linkGone_within ..).stroke (by decide)
@[simp] theorem applyMode_stroke (s : State) (p : Nat) : (s.applyMode p).stroke = s.stroke :=
    (applyMode_within ..).stroke (by decide)
@[simp] theorem freeSession_stroke (s : State) (n : Nat) : (s.freeSession n).stroke = s.stroke :=
    (freeSession_within ..).stroke (by decide)
@[simp] theorem sanitizeBlocks_stroke (s : State) (l : List Extent) : (s.sanitizeBlocks l).stroke = s.stroke :=
    (sanitizeBlocks_within ..).stroke (by decide)
@[simp] theorem declareDie_stroke (s : State) (c d row : Nat) : (s.declareDie c d row).stroke = s.stroke :=
    (declareDie_within ..).stroke (by decide)
@[simp] theorem readMedia_stroke (s : State) (line mp ln : Nat) (e : LineErr) (transaction : Nat) (keepOnly : Bool) :
    (s.readMedia line mp ln e transaction keepOnly).1.stroke = s.stroke := (readMedia_within ..).stroke (by decide)
@[simp] theorem checkInteg_stroke (s : State) (line : Nat) (r : MediaResult) (c : IntegCheck) :
    (s.checkInteg line r c).1.stroke = s.stroke := (checkInteg_within ..).stroke (by decide)
@[simp] theorem fillEntry_stroke (s : State) (line : Nat) (d : LineData) (bad : Bool) :
    (s.fillEntry line d bad).stroke = s.stroke := (fillEntry_within ..).stroke (by decide)
@[simp] theorem deliverHost_stroke (s : State) (rid : Nat) (d : LineData) (bad : Bool) :
    (s.deliverHost rid d bad).stroke = s.stroke := (deliverHost_within ..).stroke (by decide)
@[simp] theorem flushNodes_stroke (s : State) : s.flushNodes.stroke = s.stroke :=
    (flushNodes_within ..).stroke (by decide)
@[simp] theorem programPage_stroke (s : State) (mp : Nat) (p : MPage) : (s.programPage mp p).stroke = s.stroke :=
    (programPage_within ..).stroke (by decide)
@[simp] theorem fillStripe_stroke (s : State) (hot : Bool) (course : Nat) (o : OpenBlock) :
    (s.fillStripe hot course o).stroke = s.stroke := (fillStripe_within ..).stroke (by decide)
@[simp] theorem setFluid_stroke (s : State) (lpn mp : Nat) (recent : Bool) :
    (s.setFluid lpn mp recent).stroke = s.stroke := (setFluid_within ..).stroke (by decide)
@[simp] theorem dropFluid_stroke (s : State) (lpn : Nat) : (s.dropFluid lpn).stroke = s.stroke :=
    (dropFluid_within ..).stroke (by decide)
@[simp] theorem boundUpdate_stroke (s : State) : s.boundUpdate.stroke = s.stroke :=
    (boundUpdate_within ..).stroke (by decide)
@[simp] theorem lockReads_stroke (s : State) (stroke : Nat) : (s.lockReads stroke).stroke = s.stroke :=
    (lockReads_within ..).stroke (by decide)
@[simp] theorem lockPrograms_stroke (s : State) (stroke : Nat) : (s.lockPrograms stroke).stroke = s.stroke :=
    (lockPrograms_within ..).stroke (by decide)
@[simp] theorem suspendAll_stroke (s : State) : s.suspendAll.stroke = s.stroke :=
    (suspendAll_within ..).stroke (by decide)
@[simp] theorem exclEnd_stroke (s : State) : s.exclEnd.stroke = s.stroke := (exclEnd_within ..).stroke (by decide)
@[simp] theorem savePage1_stroke (s : State) : s.savePage1.stroke = s.stroke :=
    (savePage1_within ..).stroke (by decide)
@[simp] theorem retrainRecord_stroke (s : State) (c : Nat) (full failed : Bool) :
    (s.retrainRecord c full failed).stroke = s.stroke := (retrainRecord_within ..).stroke (by decide)
@[simp] theorem fullRetrain_stroke (s : State) (c : Nat) : (s.fullRetrain c).stroke = s.stroke :=
    (fullRetrain_within ..).stroke (by decide)
@[simp] theorem linkError_stroke (s : State) (c n : Nat) : (s.linkError c n).stroke = s.stroke :=
    (linkError_within ..).stroke (by decide)
@[simp] theorem failChannel_stroke (s : State) (c : Nat) : (s.failChannel c).stroke = s.stroke :=
    (failChannel_within ..).stroke (by decide)
@[simp] theorem programFailed_stroke (s : State) (chan die bank row opcode : Nat) :
    (s.programFailed chan die bank row opcode).stroke = s.stroke := (programFailed_within ..).stroke (by decide)
@[simp] theorem verifyFailure_stroke (s : State) (c : Nat) (st : StatusLine) :
    (s.verifyFailure c st).stroke = s.stroke := (verifyFailure_within ..).stroke (by decide)
@[simp] theorem trained_stroke (s : State) (r : TrainResult) : (s.trained r).stroke = s.stroke :=
    (trained_within ..).stroke (by decide)
@[simp] theorem trainingEnd_stroke (s : State) : s.trainingEnd.stroke = s.stroke :=
    (trainingEnd_within ..).stroke (by decide)
@[simp] theorem retrained_stroke (s : State) (r : TrainResult) : (s.retrained r).stroke = s.stroke :=
    (retrained_within ..).stroke (by decide)
@[simp] theorem commitStripe_stroke (s : State) (m : Move) (pages : List MPage) :
    (s.commitStripe m pages).stroke = s.stroke := (commitStripe_within ..).stroke (by decide)
@[simp] theorem walkEntry_stroke (s : State) (lpn : Nat) : (s.walkEntry lpn).stroke = s.stroke :=
    (walkEntry_within ..).stroke (by decide)
@[simp] theorem rewriteHome_stroke (s : State) (home : Nat) (new : MPage) :
    (s.rewriteHome home new).stroke = s.stroke := (rewriteHome_within ..).stroke (by decide)
@[simp] theorem reclaimPage_stroke (s : State) (mp : Nat) : (s.reclaimPage mp).stroke = s.stroke :=
    (reclaimPage_within ..).stroke (by decide)
@[simp] theorem preconditioned_stroke (s : State) (sbn : Nat) : (s.preconditioned sbn).stroke = s.stroke :=
    (preconditioned_within ..).stroke (by decide)
@[simp] theorem precondFailed_stroke (s : State) (sbn : Nat) (failed : BitVec 8) :
    (s.precondFailed sbn failed).stroke = s.stroke := (precondFailed_within ..).stroke (by decide)
@[simp] theorem setBudget_stroke (s : State) (budget holdup : Nat) : (s.setBudget budget holdup).stroke = s.stroke :=
    (setBudget_within ..).stroke (by decide)
@[simp] theorem joinPoint_stroke (s : State) (S : Nat) (counted : Bool) (f : Point → Point) :
    (s.joinPoint S counted f).stroke = s.stroke := (joinPoint_within ..).stroke (by decide)
@[simp] theorem bgDone_stroke (s : State) (p : CmdPath) (b : Background) (rc : Rc) (ext : Nat) (data : List Nat) :
    (s.bgDone p b rc ext data).stroke = s.stroke := (bgDone_within ..).stroke (by decide)
@[simp] theorem endPoint_stroke (s : State) (p : Point) (pinned : List Nat) (capo : Bool) :
    (s.endPoint p pinned capo).stroke = s.stroke := (endPoint_within ..).stroke (by decide)
@[simp] theorem persistAt_stroke (s : State) (p : CmdPath) (S : Nat) : (s.persistAt p S).stroke = s.stroke :=
    (persistAt_within ..).stroke (by decide)
@[simp] theorem keepProgrammed_stroke (s : State) (readback : Bool) : (s.keepProgrammed readback).stroke = s.stroke :=
    (keepProgrammed_within ..).stroke (by decide)
@[simp] theorem keepErased_stroke (s : State) (n : Nat) (ok : Bool) : (s.keepErased n ok).stroke = s.stroke :=
    (keepErased_within ..).stroke (by decide)
@[simp] theorem spreadIncrement_stroke (s : State) (i : Nat) : (s.spreadIncrement i).stroke = s.stroke :=
    (spreadIncrement_within ..).stroke (by decide)
@[simp] theorem chronProgrammed_stroke (s : State) (readback : Bool) :
    (s.chronProgrammed readback).stroke = s.stroke := (chronProgrammed_within ..).stroke (by decide)
@[simp] theorem ringErased_stroke (s : State) (k : Nat) (ok : Bool) : (s.ringErased k ok).stroke = s.stroke :=
    (ringErased_within ..).stroke (by decide)
@[simp] theorem setDescr_stroke (s : State) (d : Descr) : (s.setDescr d).stroke = s.stroke :=
    (setDescr_within ..).stroke (by decide)
@[simp] theorem releaseSpare_stroke (s : State) : s.releaseSpare.stroke = s.stroke :=
    (releaseSpare_within ..).stroke (by decide)
@[simp] theorem setAct_stroke (s : State) (v : Nat) : (s.setAct v).stroke = s.stroke :=
    (setAct_within ..).stroke (by decide)
@[simp] theorem flushAll_stroke (s : State) : s.flushAll.stroke = s.stroke := (flushAll_within ..).stroke (by decide)
@[simp] theorem saveKeep_stroke (s : State) : s.saveKeep.stroke = s.stroke := (saveKeep_within ..).stroke (by decide)
@[simp] theorem markFlush_stroke (s : State) : s.markFlush.stroke = s.stroke :=
    (markFlush_within ..).stroke (by decide)
@[simp] theorem capoRecord_stroke (s : State) (result us : Nat) (warm : Bool) :
    (s.capoRecord result us warm).stroke = s.stroke := (capoRecord_within ..).stroke (by decide)
@[simp] theorem saveSpread_stroke (s : State) : s.saveSpread.stroke = s.stroke :=
    (saveSpread_within ..).stroke (by decide)
@[simp] theorem saveChronicle_stroke (s : State) (room : Nat) : (s.saveChronicle room).stroke = s.stroke :=
    (saveChronicle_within ..).stroke (by decide)
@[simp] theorem closeRuns_stroke (s : State) : s.closeRuns.stroke = s.stroke :=
    (closeRuns_within ..).stroke (by decide)
@[simp] theorem raiseDsc_stroke (s : State) (m : Marker) : (s.raiseDsc m).stroke = s.stroke :=
    (raiseDsc_within ..).stroke (by decide)
@[simp] theorem motion_stroke (s : State) (p : CmdPath) (m : Motion) : (s.motion p m).stroke = s.stroke :=
    (motion_within ..).stroke (by decide)
@[simp] theorem dropMotion_stroke (s : State) (m : Motion) : (s.dropMotion m).stroke = s.stroke :=
    (dropMotion_within ..).stroke (by decide)
@[simp] theorem second_stroke (s : State) (p : CmdPath) (m : Second) : (s.second p m).stroke = s.stroke :=
    (second_within ..).stroke (by decide)
@[simp] theorem queuePass_stroke (s : State) (r : Rekey) : (s.queuePass r).stroke = s.stroke :=
    (queuePass_within ..).stroke (by decide)
@[simp] theorem applyMotion_stroke (s : State) (l : Lodged) : (s.applyMotion l).stroke = s.stroke :=
    (applyMotion_within ..).stroke (by decide)
@[simp] theorem setStream_stroke (s : State) (p l : Nat) (x : IdeStream) : (s.setStream p l x).stroke = s.stroke :=
    (setStream_within ..).stroke (by decide)
@[simp] theorem setWays_stroke (s : State) (i en cl : Nat) : (s.setWays i en cl).stroke = s.stroke :=
    (setWays_within ..).stroke (by decide)
@[simp] theorem eraseRecord_stroke (s : State) (what : Nat) : (s.eraseRecord what).stroke = s.stroke :=
    (eraseRecord_within ..).stroke (by decide)
@[simp] theorem placeInternal_stroke (s : State) (i : Internal) : (s.placeInternal i).stroke = s.stroke :=
    (placeInternal_within ..).stroke (by decide)
@[simp] theorem lineCommand_stroke (s : State) (p : CmdPath) (dpa : Nat) (kind : InternalKind) (data : LineData) :
    (s.lineCommand p dpa kind data).stroke = s.stroke := (lineCommand_within ..).stroke (by decide)
@[simp] theorem startErase_stroke (s : State) (p : CmdPath) (kind : InternalKind) (bg : Background) (what : Nat) :
    (s.startErase p kind bg what).stroke = s.stroke := (startErase_within ..).stroke (by decide)
@[simp] theorem unmark_stroke (s : State) : s.unmark.stroke = s.stroke := (unmark_within ..).stroke (by decide)
@[simp] theorem unsealSlots_stroke (s : State) : s.unsealSlots.stroke = s.stroke :=
    (unsealSlots_within ..).stroke (by decide)
@[simp] theorem rebuild_stroke (s : State) : s.rebuild.stroke = s.stroke := (rebuild_within ..).stroke (by decide)
@[simp] theorem showPoll_stroke (s : State) (q : RailPoll) : (s.showPoll q).stroke = s.stroke :=
    (showPoll_within ..).stroke (by decide)
@[simp] theorem toPmics_stroke (s : State) (r code data : Nat) : (s.toPmics r code data).stroke = s.stroke :=
    (toPmics_within ..).stroke (by decide)
@[simp] theorem askSlot_stroke (s : State) : s.askSlot.stroke = s.stroke := (askSlot_within ..).stroke (by decide)
@[simp] theorem lockout_stroke (s : State) : s.lockout.stroke = s.stroke := (lockout_within ..).stroke (by decide)
@[simp] theorem railOff_stroke (s : State) (r : Nat) : (s.railOff r).stroke = s.stroke :=
    (railOff_within ..).stroke (by decide)
@[simp] theorem nextDown_stroke (s : State) (x1 : Nat) : (s.nextDown x1).stroke = s.stroke :=
    (nextDown_within ..).stroke (by decide)
@[simp] theorem powerDown_stroke (s : State) (cause : DownCause) (after : AfterDown) (capo : Bool) :
    (s.powerDown cause after capo).stroke = s.stroke := (powerDown_within ..).stroke (by decide)
@[simp] theorem packageFail_stroke (s : State) (rail cause : Nat) : (s.packageFail rail cause).stroke = s.stroke :=
    (packageFail_within ..).stroke (by decide)
@[simp] theorem upFail_stroke (s : State) (rail cause : Nat) : (s.upFail rail cause).stroke = s.stroke :=
    (upFail_within ..).stroke (by decide)
@[simp] theorem testLockout_stroke (s : State) : s.testLockout.stroke = s.stroke :=
    (testLockout_within ..).stroke (by decide)
@[simp] theorem enterPkgUp_stroke (s : State) (testEn : Samples) : (s.enterPkgUp testEn).stroke = s.stroke :=
    (enterPkgUp_within ..).stroke (by decide)
@[simp] theorem pfTake_stroke (s : State) (l : List Bool) : (s.pfTake l).stroke = s.stroke :=
    (pfTake_within ..).stroke (by decide)
@[simp] theorem leaveOn_stroke (s : State) (cause : DownCause) (after : AfterDown) :
    (s.leaveOn cause after).stroke = s.stroke := (leaveOn_within ..).stroke (by decide)
@[simp] theorem pfActs_stroke (s : State) : s.pfActs.stroke = s.stroke := (pfActs_within ..).stroke (by decide)
@[simp] theorem thermalTrip_stroke (s : State) (tempC : Nat) : (s.thermalTrip tempC).stroke = s.stroke :=
    (thermalTrip_within ..).stroke (by decide)
@[simp] theorem railHung_stroke (s : State) (r : Nat) (flashAnswers : Bool) :
    (s.railHung r flashAnswers).stroke = s.stroke := (railHung_within ..).stroke (by decide)
@[simp] theorem standbyTest_stroke (s : State) (testEn : Samples) : (s.standbyTest testEn).stroke = s.stroke :=
    (standbyTest_within ..).stroke (by decide)
@[simp] theorem removeAux_stroke (s : State) : s.removeAux.stroke = s.stroke :=
    (removeAux_within ..).stroke (by decide)
@[simp] theorem showPresence_stroke (s : State) (q : PmicReport) : (s.showPresence q).stroke = s.stroke :=
    (showPresence_within ..).stroke (by decide)
@[simp] theorem writePages_stroke (s : State) : s.writePages.stroke = s.stroke :=
    (writePages_within ..).stroke (by decide)
@[simp] theorem pmicRefused_stroke (s : State) : s.pmicRefused.stroke = s.stroke :=
    (pmicRefused_within ..).stroke (by decide)
@[simp] theorem railIsGood_stroke (s : State) (r : Nat) (bootSel : Samples) :
    (s.railIsGood r bootSel).stroke = s.stroke := (railIsGood_within ..).stroke (by decide)
@[simp] theorem servicePollOne_stroke (s : State) (q : RailPoll) : (s.servicePollOne q).stroke = s.stroke :=
    (servicePollOne_within ..).stroke (by decide)
@[simp] theorem watchCollapse_stroke (s : State) (q : RailPoll) : (s.watchCollapse q).stroke = s.stroke :=
    (watchCollapse_within ..).stroke (by decide)
@[simp] theorem capoCreditsBack_stroke (s : State) : s.capoCreditsBack.stroke = s.stroke :=
    (capoCreditsBack_within ..).stroke (by decide)
@[simp] theorem dirtyAgain_stroke (s : State) : s.dirtyAgain.stroke = s.stroke :=
    (dirtyAgain_within ..).stroke (by decide)
@[simp] theorem activationBack_stroke (s : State) : s.activationBack.stroke = s.stroke :=
    (activationBack_within ..).stroke (by decide)
@[simp] theorem takeImage_stroke (s : State) (row : Nat) (active staging : ImageReport) :
    (s.takeImage row active staging).stroke = s.stroke := (takeImage_within ..).stroke (by decide)
@[simp] theorem markedBlocks_stroke (s : State) : s.markedBlocks.stroke = s.stroke :=
    (markedBlocks_within ..).stroke (by decide)
@[simp] theorem verifyRoots_stroke (s : State) (failed : List Nat) : (s.verifyRoots failed).stroke = s.stroke :=
    (verifyRoots_within ..).stroke (by decide)
@[simp] theorem becomeReady_stroke (s : State) : s.becomeReady.stroke = s.stroke :=
    (becomeReady_within ..).stroke (by decide)
@[simp] theorem startCopy_stroke (s : State) : s.startCopy.stroke = s.stroke :=
    (startCopy_within ..).stroke (by decide)
@[simp] theorem startWarm_stroke (s : State) : s.startWarm.stroke = s.stroke :=
    (startWarm_within ..).stroke (by decide)
@[simp] theorem warmFlushed_stroke (s : State) : s.warmFlushed.stroke = s.stroke :=
    (warmFlushed_within ..).stroke (by decide)
@[simp] theorem takeUnits_stroke (s : State) (p : CmdPath) (t0 : Transfer) (offset : Nat) (l : List Nat)
    (h : ImageReport) (last : Bool) :
    (s.takeUnits p t0 offset l h last).stroke = s.stroke := (takeUnits_within ..).stroke (by decide)
@[simp] theorem transferRecord_stroke (s : State) (what version : Nat) :
    (s.transferRecord what version).stroke = s.stroke := (transferRecord_within ..).stroke (by decide)
@[simp] theorem openTransfer_stroke (s : State) (p : CmdPath) (offset : Nat) (l : List Nat) (h : ImageReport) :
    (s.openTransfer p offset l h).stroke = s.stroke := (openTransfer_within ..).stroke (by decide)
@[simp] theorem abortTransfer_stroke (s : State) (p : CmdPath) (t0 : Transfer) :
    (s.abortTransfer p t0).stroke = s.stroke := (abortTransfer_within ..).stroke (by decide)
@[simp] theorem refuseStaging_stroke (s : State) (fault at_ : Nat) : (s.refuseStaging fault at_).stroke = s.stroke :=
    (refuseStaging_within ..).stroke (by decide)
@[simp] theorem transferWritten_stroke (s : State) (ok : Bool) (check : Nat) (c : XferCmd) (t0 : Transfer) :
    (s.transferWritten ok check c t0).stroke = s.stroke := (transferWritten_within ..).stroke (by decide)
@[simp] theorem startActivation_stroke (s : State) (p : CmdPath) (kind : ActKind) (stroke : Option Nat) :
    (s.startActivation p kind stroke).stroke = s.stroke := (startActivation_within ..).stroke (by decide)
@[simp] theorem activationRecord_stroke (s : State) (how : Nat) : (s.activationRecord how).stroke = s.stroke :=
    (activationRecord_within ..).stroke (by decide)
@[simp] theorem stagingRead_stroke (s : State) (a : Activation) (r : ImageReport) :
    (s.stagingRead a r).stroke = s.stroke := (stagingRead_within ..).stroke (by decide)
@[simp] theorem loadFailed_stroke (s : State) (a : Activation) : (s.loadFailed a).stroke = s.stroke :=
    (loadFailed_within ..).stroke (by decide)
@[simp] theorem takeEffect_stroke (s : State) (a : Activation) : (s.takeEffect a).stroke = s.stroke :=
    (takeEffect_within ..).stroke (by decide)
@[simp] theorem imageOpDone_stroke (s : State) : s.imageOpDone.stroke = s.stroke :=
    (imageOpDone_within ..).stroke (by decide)
@[simp] theorem newPass_stroke (s : State) : s.newPass.stroke = s.stroke := (newPass_within ..).stroke (by decide)
@[simp] theorem passComplete_stroke (s : State) : s.passComplete.stroke = s.stroke :=
    (passComplete_within ..).stroke (by decide)
@[simp] theorem visit_stroke (s : State) (mp : Nat) (p : MPage) (errs : List LineErr) :
    (s.visit mp p errs).stroke = s.stroke := (visit_within ..).stroke (by decide)
@[simp] theorem startScrub_stroke (s : State) (x : Scrub) (b : Background) : (s.startScrub x b).stroke = s.stroke :=
    (startScrub_within ..).stroke (by decide)
@[simp] theorem scrubDone_stroke (s : State) (x : Scrub) (how : ScrubEnd) (reached : Nat)
    (errs : List (Nat × LineErr)) : (s.scrubDone x how reached errs).stroke = s.stroke :=
    (scrubDone_within ..).stroke (by decide)
@[simp] theorem startRelease_stroke (s : State) (n : Nat) (us : List Nat) : (s.startRelease n us).stroke = s.stroke :=
    (startRelease_within ..).stroke (by decide)
@[simp] theorem stall_stroke (s : State) (n : Nat) : (s.stall n).stroke = s.stroke :=
    (stall_within ..).stroke (by decide)
@[simp] theorem poisoned_stroke (s : State) (n : Nat) (l : Lane) (d : Desc) : (s.poisoned n l d).stroke = s.stroke :=
    (poisoned_within ..).stroke (by decide)
@[simp] theorem passRead_stroke (s : State) (n : Nat) (d : Desc) (classF : Bool) :
    (s.passRead n d classF).stroke = s.stroke := (passRead_within ..).stroke (by decide)
@[simp] theorem passConflict_stroke (s : State) (n : Nat) (d : Desc) : (s.passConflict n d).stroke = s.stroke :=
    (passConflict_within ..).stroke (by decide)
@[simp] theorem tryWrite_stroke (s : State) (n : Nat) (d : Desc) (hbm : HbmErr) (classF : Bool) (c : Nat) :
    (s.tryWrite n d hbm classF c).stroke = s.stroke := (tryWrite_within ..).stroke (by decide)
@[simp] theorem spillLine_stroke (s : State) (sess : Nat) (l : List Desc) (hbm : HbmErr) :
    (s.spillLine sess l hbm).1.stroke = s.stroke := (spillLine_within ..).stroke (by decide)
@[simp] theorem entryCheck_stroke (s : State) (line : Nat) (e : Entry) (hbm : HbmErr) :
    (s.entryCheck line e hbm).1.stroke = s.stroke := (entryCheck_within ..).stroke (by decide)
@[simp] theorem settleRead_stroke (s : State) (rid : Nat) (r : Req) (e : Entry) (bad : Bool) :
    (s.settleRead rid r e bad).stroke = s.stroke := (settleRead_within ..).stroke (by decide)
@[simp] theorem probeHit_stroke (s : State) (rid : Nat) (r : Req) (d : LineData) :
    (s.probeHit rid r d).stroke = s.stroke := (probeHit_within ..).stroke (by decide)
@[simp] theorem install_stroke (s : State) (x : SliceFill) (way : Nat) : (s.install x way).stroke = s.stroke :=
    (install_within ..).stroke (by decide)
@[simp] theorem holdFill_stroke (s : State) (x : SliceFill) : (s.holdFill x).stroke = s.stroke :=
    (holdFill_within ..).stroke (by decide)
@[simp] theorem leaveSet_stroke (s : State) (slice line : Nat) : (s.leaveSet slice line).stroke = s.stroke :=
    (leaveSet_within ..).stroke (by decide)
@[simp] theorem mergeEnd_stroke (s : State) (line slice : Nat) : (s.mergeEnd line slice).stroke = s.stroke :=
    (mergeEnd_within ..).stroke (by decide)
@[simp] theorem setShelf_stroke (s : State) (f : Shelf → Shelf) : (s.setShelf f).stroke = s.stroke :=
    (setShelf_within ..).stroke (by decide)
@[simp] theorem setTime_stroke (s : State) (v : Nat) : (s.setTime v).stroke = s.stroke :=
    (setTime_within ..).stroke (by decide)
@[simp] theorem freeTime_stroke (s : State) : s.freeTime.stroke = s.stroke := (freeTime_within ..).stroke (by decide)
@[simp] theorem loseContact_stroke (s : State) : s.loseContact.stroke = s.stroke :=
    (loseContact_within ..).stroke (by decide)
@[simp] theorem conflict_stroke (s : State) : s.conflict.stroke = s.stroke := (conflict_within ..).stroke (by decide)
@[simp] theorem becomeManager_stroke (s : State) : s.becomeManager.stroke = s.stroke :=
    (becomeManager_within ..).stroke (by decide)
@[simp] theorem adopt_stroke (s : State) (epoch : Nat) (l : List IlvRecord) : (s.adopt epoch l).stroke = s.stroke :=
    (adopt_within ..).stroke (by decide)
@[simp] theorem actOutcome_stroke (s : State) (stroke : Nat) (late : Bool) :
    (s.actOutcome stroke late).stroke = s.stroke := (actOutcome_within ..).stroke (by decide)
@[simp] theorem releaseAct_stroke (s : State) : s.releaseAct.stroke = s.stroke :=
    (releaseAct_within ..).stroke (by decide)
@[simp] theorem learn_stroke (s : State) (seq stroke decision : Nat) :
    (s.learn seq stroke decision).stroke = s.stroke := (learn_within ..).stroke (by decide)
@[simp] theorem takeConfig_stroke (epoch count : Nat) (s : State) :
    (State.takeConfig epoch count s).1.stroke = s.stroke := (takeConfig_within ..).stroke (by decide)
@[simp] theorem takeRecord_stroke (epoch index : Nat) (r : IlvRecord) (s : State) :
    (State.takeRecord epoch index r s).1.stroke = s.stroke := (takeRecord_within ..).stroke (by decide)
@[simp] theorem takeGrant_stroke (stroke : Nat) (s : State) : (State.takeGrant stroke s).1.stroke = s.stroke :=
    (takeGrant_within ..).stroke (by decide)
@[simp] theorem takePowerOff_stroke (stroke : Nat) (s : State) : (State.takePowerOff stroke s).1.stroke = s.stroke :=
    (takePowerOff_within ..).stroke (by decide)
@[simp] theorem takePowerOn_stroke (s : State) : (s.takePowerOn.1).stroke = s.stroke :=
    (takePowerOn_within ..).stroke (by decide)
@[simp] theorem takePersist_stroke (seq stroke : Nat) (s : State) :
    (State.takePersist seq stroke s).1.stroke = s.stroke := (takePersist_within ..).stroke (by decide)
@[simp] theorem takePrepare_stroke (seq stroke : Nat) (r : ImageReport) (s : State) :
    (State.takePrepare seq stroke r s).1.stroke = s.stroke := (takePrepare_within ..).stroke (by decide)
@[simp] theorem takeRelease_stroke (s : State) : (s.takeRelease.1).stroke = s.stroke :=
    (takeRelease_within ..).stroke (by decide)
@[simp] theorem followBeacon_stroke (s : State) (b : Beacon) : (s.followBeacon b).stroke = s.stroke :=
    (followBeacon_within ..).stroke (by decide)
@[simp] theorem managerHears_stroke (s : State) (b : Beacon) : (s.managerHears b).stroke = s.stroke :=
    (managerHears_within ..).stroke (by decide)
@[simp] theorem showPhase_stroke (s : State) (e : ℤ) : (s.showPhase e).stroke = s.stroke :=
    (showPhase_within ..).stroke (by decide)
@[simp] theorem acceptPulse_stroke (s : State) : s.acceptPulse.stroke = s.stroke :=
    (acceptPulse_within ..).stroke (by decide)
@[simp] theorem acquire_stroke (s : State) (e : ℤ) : (s.acquire e).stroke = s.stroke :=
    (acquire_within ..).stroke (by decide)
@[simp] theorem coordinate_stroke (s : State) (x : ShelfAct) (a : Activation) :
    (s.coordinate x a).stroke = s.stroke := (coordinate_within ..).stroke (by decide)
@[simp] theorem newCmd_stroke (s : State) (msg : ShelfMsg) (bcast : Bool) (left : List Nat) (why : ShelfWhy) :
    (s.newCmd msg bcast left why).stroke = s.stroke := (newCmd_within ..).stroke (by decide)
@[simp] theorem newOp_stroke (s : State) (p : CmdPath) (use : ShelfUse) : (s.newOp p use).stroke = s.stroke :=
    (newOp_within ..).stroke (by decide)
@[simp] theorem opCheck_stroke (s : State) (n : Nat) : (s.opCheck n).stroke = s.stroke :=
    (opCheck_within ..).stroke (by decide)
@[simp] theorem opsCheck_stroke (s : State) : s.opsCheck.stroke = s.stroke := (opsCheck_within ..).stroke (by decide)
@[simp] theorem giveUp_stroke (s : State) (c : ShelfCmd) (l : List Nat) : (s.giveUp c l).stroke = s.stroke :=
    (giveUp_within ..).stroke (by decide)
@[simp] theorem dropTargets_stroke (s : State) (seq : Nat) (l : List Nat) : (s.dropTargets seq l).stroke = s.stroke :=
    (dropTargets_within ..).stroke (by decide)
@[simp] theorem pointOwn_stroke (s : State) : s.pointOwn.stroke = s.stroke := (pointOwn_within ..).stroke (by decide)
@[simp] theorem shelfPointTick_stroke (s : State) : s.shelfPointTick.stroke = s.stroke :=
    (shelfPointTick_within ..).stroke (by decide)
@[simp] theorem endShelfPoint_stroke (s : State) (lost : List Nat) : (s.endShelfPoint lost).stroke = s.stroke :=
    (endShelfPoint_within ..).stroke (by decide)
@[simp] theorem actCheck_stroke (s : State) : s.actCheck.stroke = s.stroke := (actCheck_within ..).stroke (by decide)
@[simp] theorem sendConfig_stroke (s : State) (pos : Nat) (why : ShelfWhy) :
    (s.sendConfig pos why).stroke = s.stroke := (sendConfig_within ..).stroke (by decide)
@[simp] theorem takeStatus_stroke (s : State) (f : Status) : (s.takeStatus f).stroke = s.stroke :=
    (takeStatus_within ..).stroke (by decide)
@[simp] theorem writeBar2_stroke (s : State) (o v : Nat) : (s.writeBar2 o v).stroke = s.stroke :=
    (writeBar2_within ..).stroke (by decide)
@[simp] theorem writeDecoder_stroke (s : State) (d : Decoder) (commit : Bool) :
    (s.writeDecoder d commit).stroke = s.stroke := (writeDecoder_within ..).stroke (by decide)
@[simp] theorem writeConfig_stroke (s : State) (port o v : Nat) : (s.writeConfig port o v).stroke = s.stroke :=
    (writeConfig_within ..).stroke (by decide)
@[simp] theorem telemReject_stroke (s : State) : s.telemReject.stroke = s.stroke :=
    (telemReject_within ..).stroke (by decide)
@[simp] theorem writeEvt_stroke (s : State) (b i : Nat) (c : EvtCfg) : (s.writeEvt b i c).1.stroke = s.stroke :=
    (writeEvt_within ..).stroke (by decide)
@[simp] theorem writeTelemCtrl_stroke (s : State) (v : Word) : (s.writeTelemCtrl v).stroke = s.stroke :=
    (writeTelemCtrl_within ..).stroke (by decide)
@[simp] theorem setK_stroke (s : State) (k : Nat) : (s.setK k).stroke = s.stroke :=
    (setK_within ..).stroke (by decide)
@[simp] theorem telemReply_stroke (s : State) (p : CmdPath) (ok : Bool) : (s.telemReply p ok).stroke = s.stroke :=
    (telemReply_within ..).stroke (by decide)

/-! ### Operations that run a body they are given -/

/-- Every part but the stroke count. -/
def stillMask : Nat := 0x1fffffffffffffffffffffffffffffffffffffffffffffffffffffffffffffffffffffb

theorem within_still_iff (s t : State) : Within stillMask s t ↔ t.stroke = s.stroke := by
  have e : State.pick stillMask s t = { t with stroke := s.stroke } := rfl
  unfold Within
  rw [e]
  exact ⟨fun h => (congrArg State.stroke h).trans rfl, fun h => by rw [← h]⟩

@[simp] theorem command_stroke (s : State) (p : CmdPath) (i : Instr) (c : PathClass) (needReady : Bool)
    {f : State → State} (h : ∀ y, (f y).stroke = y.stroke) : (s.command p i c needReady f).stroke = s.stroke :=
  (within_still_iff _ _).1 (command_within s p i c needReady f (by decide) fun y => (within_still_iff _ _).2 (h y))

@[simp] theorem activateCheck_stroke (s : State) (p : CmdPath) (now : Bool) {f : State → State}
    (h : ∀ y, (f y).stroke = y.stroke) : (s.activateCheck p now f).stroke = s.stroke :=
  (within_still_iff _ _).1 (activateCheck_within s p now f (by decide) fun y => (within_still_iff _ _).2 (h y))

@[simp] theorem ownTransfer_stroke (s : State) (p : CmdPath) (slot : Nat) {f : State → Transfer → State}
    (h : ∀ y z, (f y z).stroke = y.stroke) : (s.ownTransfer p slot f).stroke = s.stroke :=
  (within_still_iff _ _).1 (ownTransfer_within s p slot f (by decide) fun y z => (within_still_iff _ _).2 (h y z))

@[simp] theorem shelfControl_stroke (s : State) (p : CmdPath) (i : Instr) {f : State → State}
    (h : ∀ y, (f y).stroke = y.stroke) : (s.shelfControl p i f).stroke = s.stroke :=
  (within_still_iff _ _).1 (shelfControl_within s p i f (by decide) fun y => (within_still_iff _ _).2 (h y))

@[simp] theorem takeFrame_stroke (s : State) (f : Frame) (b : Bool) {run : State → State × Nat}
    (h : ∀ y, (run y).1.stroke = y.stroke) : (s.takeFrame f b run).stroke = s.stroke :=
  (within_still_iff _ _).1 (takeFrame_within s f b run (by decide) fun y => (within_still_iff _ _).2 (h y))

@[simp] theorem powerUse_stroke (s : State) (p : CmdPath) (u : ShelfUse) (m : ShelfMsg) (k : BitVec 32)
    {own : State → State × Nat} (h : ∀ y, (own y).1.stroke = y.stroke) :
    (s.powerUse p u m k own).stroke = s.stroke :=
  (within_still_iff _ _).1 (powerUse_within s p u m k own (by decide) fun y => (within_still_iff _ _).2 (h y))

end Sys2Proof.Machine
end

section
/-! SUPPORT. Which commands move time (R23, R24, R25, R312): every command but AUX_APPLY, STROKE_BOUNDARY and
SYNC_EPOCH_BOUNDARY leaves the stroke count, and O43. -/

namespace Sys2Proof.Machine

open Sys2Proof

/-- The command's own work leaves the stroke count. -/
def LeavesStroke (i : Instr) : Prop := ∀ s, ∃ u, exec i s = done s u ∧ u.stroke = s.stroke

theorem EndsWithin.leavesStroke {m : Nat} {i : Instr} (h : EndsWithin m i) (e : m.testBit 2 = false) :
    LeavesStroke i := fun s => (h s).imp fun _ hu => ⟨hu.1, hu.2.stroke e⟩

/-! ### Commands that look at several parts of the state -/

theorem allowanceCheck_leavesStroke (sess : Nat) (lane : Lane) (parity : BitVec 4) (hbm : HbmErr) (classF : Bool) :
    LeavesStroke (.allowanceCheck sess lane parity hbm classF) := fun s => by
  refine ⟨_, rfl, ?_⟩
  extract_lets e
  split
  · rfl
  · extract_lets free
    refine stroke_ite rfl (stroke_ite (by simp) (stroke_ite (by simp) (stroke_ite (by simp) ?_)))
    split <;> simp

theorem bandwidthWindowEnd_leavesStroke : LeavesStroke .bandwidthWindowEnd := fun s => by
  refine ⟨_, rfl, ?_⟩
  split
  · rfl
  · refine stroke_ite rfl ?_
    extract_lets s1 s2
    have h : s1.stroke = s.stroke := foldl_stroke (fun _ _ => (wr_stroke ..).trans (wr_stroke ..)) _ s
    clear_value s1
    exact h

theorem capoFlushComplete_leavesStroke (us : Nat) : LeavesStroke (.capoFlushComplete us) := fun s => by
  refine ⟨_, rfl, stroke_ite rfl ?_⟩
  extract_lets s1 s2 s3
  have h1 : s1.stroke = s.stroke := (markFlush_stroke _).trans (flushAll_stroke s)
  have h2 : s2.stroke = s.stroke := (wr_stroke ..).trans ((wr_stroke ..).trans h1)
  have h3 : s3.stroke = s.stroke := (saveSpread_stroke _).trans ((capoRecord_stroke ..).trans h2)
  exact (saveKeep_stroke _).trans h3

theorem commandResend_leavesStroke (seq : Nat) : LeavesStroke (.commandResend seq) := fun s => by
  refine ⟨_, rfl, stroke_ite rfl ?_⟩
  split
  · rfl
  split
  · rfl
  refine stroke_ite rfl (stroke_ite ?_ (by simp))
  extract_lets s1 c
  have h : s1.stroke = s.stroke := foldl_stroke (fun s x => emit_stroke ..) _ s
  simp [h]

theorem decayPoll_leavesStroke (polls : List RailPoll) : LeavesStroke (.decayPoll polls) := fun s => by
  refine ⟨_, rfl, stroke_ite rfl ?_⟩
  extract_lets s1 p s2
  have h : s1.stroke = s.stroke := foldl_stroke (fun _ _ => by simp) _ s
  split
  · split <;> simp [s2, h]
  · simp [s2, h]

theorem fenceDrainEnd_leavesStroke (sess : Nat) : LeavesStroke (.fenceDrainEnd sess) := fun s => by
  refine ⟨_, rfl, stroke_ite rfl ?_⟩
  extract_lets e gone
  split
  · simp
  · simp
  · rfl

theorem fillReturn_leavesStroke (line : Nat) (e retry recon : MediaErr) (integ : IntegCheck) :
    LeavesStroke (.fillReturn line e retry recon integ) := fun s => by
  refine ⟨_, rfl, ?_⟩
  split
  · rfl
  split
  · simp
  · exact stroke_ite (by simp) (by simp)

theorem memSpecRd_leavesStroke (m : M2S) (class4 : Bool) : LeavesStroke (.memSpecRd m class4) := fun s => by
  refine ⟨_, rfl, stroke_ite rfl ?_⟩
  extract_lets s1
  split <;> simp [s1]

theorem memberDropout_leavesStroke (pos : Nat) : LeavesStroke (.memberDropout pos) := fun s => by
  refine ⟨_, rfl, ?_⟩
  split
  · rfl
  refine stroke_ite rfl ?_
  extract_lets s1 l s2 s3
  have h2 : s2.stroke = s.stroke := (foldl_stroke (fun _ _ => by simp) _ s1).trans (by simp [s1])
  have h3 : s3.stroke = s.stroke := by
    unfold s3
    split
    · split <;> simp [h2]
    · exact h2
  simp [h3]

theorem mergeCfgWrite_leavesStroke (v : Word) : LeavesStroke (.mergeCfgWrite v) := fun s => by
  refine ⟨_, rfl, ?_⟩
  extract_lets b h m same
  exact stroke_ite ((flash_stroke _).trans ((keepWrite_stroke ..).trans ((wr_stroke ..).trans (setBudget_stroke ..))))
    (setBit_stroke ..)

theorem moveStripeCommit_leavesStroke (tract : Nat) : LeavesStroke (.moveStripeCommit tract) := fun s => by
  refine ⟨_, rfl, ?_⟩
  split
  · rfl
  split
  · rfl
  refine stroke_ite rfl ?_
  split
  · rfl
  next h => exact (commitStripe_stroke _ _ _).trans ((liftAllFailed_within _ _ _ _ _ h).stroke (by decide))

theorem readCacheProbeReturn_leavesStroke (rid : Nat) (hbm : HbmErr) :
    LeavesStroke (.readCacheProbeReturn rid hbm) := fun s => by
  refine ⟨_, rfl, ?_⟩
  split
  · rfl
  refine stroke_ite rfl ?_
  extract_lets r s1
  split
  · rfl
  · exact stroke_ite (by simp [s1]) (stroke_ite rfl (stroke_ite (by simp [s1]) (by simp [s1])))

theorem reclaimCopyCommit_leavesStroke (lpn : Nat) : LeavesStroke (.reclaimCopyCommit lpn) := fun s => by
  refine ⟨_, rfl, ?_⟩
  split
  · rfl
  refine stroke_ite rfl ?_
  extract_lets s1
  have h : s1.stroke = s.stroke := by simp [s1]
  split
  · exact stroke_ite (by simp [h]) h
  · exact h

theorem sanitizeComplete_leavesStroke : LeavesStroke .sanitizeComplete := fun s => by
  refine ⟨_, rfl, stroke_ite rfl ?_⟩
  extract_lets path p s1
  have h : s1.stroke = s.stroke := by simp [s1]
  clear_value path
  cases path <;> simp [h]

theorem scrubRange_leavesStroke (p : CmdPath) (start length : Nat) :
    LeavesStroke (.scrubRange p start length) := fun s => by
  refine ⟨_, rfl, command_stroke _ _ _ _ _ fun y => stroke_ite (by simp) ?_⟩
  extract_lets l r c n
  split
  · simp
  · exact stroke_ite (by simp) (by simp)

theorem shelfPersistComplete_leavesStroke : LeavesStroke .shelfPersistComplete := fun s => by
  refine ⟨_, rfl, stroke_ite rfl ?_⟩
  extract_lets s1
  have h : s1.stroke = s.stroke := by simp [s1]
  split
  · exact h
  split
  · exact h
  · exact stroke_ite (by simp [h]) h

theorem telemWindowRead_leavesStroke (offset size : Nat) (hbm : HbmErr) :
    LeavesStroke (.telemWindowRead offset size hbm) := fun s => by
  refine ⟨_, rfl, stroke_ite rfl (stroke_ite ?_ (by simp))⟩
  extract_lets k s1 x s2
  have h1 : s1.stroke = s.stroke := by simp [s1]
  have h2 : s2.stroke = s.stroke := by unfold s2; split <;> exact h1
  simp [h2]

/-! ### Commands that choose between two ends -/

theorem keepSectorEraseComplete_leavesStroke (ok : Bool) : LeavesStroke (.keepSectorEraseComplete ok) := fun s => by
  change ∃ u, execKeepSectorEraseComplete ok s = done s u ∧ _
  unfold execKeepSectorEraseComplete
  split <;> exact ⟨_, rfl, by simp⟩

theorem chronicleSectorEraseComplete_leavesStroke (ok : Bool) :
    LeavesStroke (.chronicleSectorEraseComplete ok) := fun s => by
  change ∃ u, execChronicleSectorEraseComplete ok s = done s u ∧ _
  unfold execChronicleSectorEraseComplete
  split <;> exact ⟨_, rfl, by simp⟩

theorem chronicleRunClose_leavesStroke (code source : Nat) :
    LeavesStroke (.chronicleRunClose code source) := fun s => by
  change ∃ u, execChronicleRunClose code source s = done s u ∧ _
  unfold execChronicleRunClose
  split <;> exact ⟨_, rfl, by simp⟩

theorem keepPageIdxWrite_leavesStroke (v : Word) : LeavesStroke (.keepPageIdxWrite v) := fun s => by
  change ∃ u, execKeepPageIdxWrite v s = done s u ∧ _
  unfold execKeepPageIdxWrite
  extract_lets p
  split <;> exact ⟨_, rfl, by simp⟩

/-! ### Every command -/

/-- Every operation that a command is made of leaves the stroke count, but for the three commands that move time: most
commands are a chain of such operations, behind conditions on the state. -/
theorem leavesStroke_of_movesTime_eq_false {i : Instr} (h : movesTime i = false) : LeavesStroke i := by
  cases i with
  | auxApply | strokeBoundary | syncEpochBoundary => cases h
  | evacuationBlockDone b => exact (evacuationBlockDone_framed b).within.leavesStroke (by decide)
  | exchangeOldLineReturn b e => exact (exchangeOldLineReturn_framed b e).within.leavesStroke (by decide)
  | mediaReadComplete n t e g c => exact (mediaReadComplete_framed n t e g c).within.leavesStroke (by decide)
  | programComplete b => exact (programComplete_framed b).within.leavesStroke (by decide)
  | programResume b => exact (programResume_framed b).within.leavesStroke (by decide)
  | readReachScheduler r t c => exact (readReachScheduler_framed r t c).within.leavesStroke (by decide)
  | reconstructionComplete n t e g => exact (reconstructionComplete_framed n t e g).within.leavesStroke (by decide)
  | toggleComplete b => exact (toggleComplete_framed b).within.leavesStroke (by decide)
  | allowanceCheck n l p e f => exact allowanceCheck_leavesStroke n l p e f
  | bandwidthWindowEnd => exact bandwidthWindowEnd_leavesStroke
  | capoFlushComplete us => exact capoFlushComplete_leavesStroke us
  | chronicleRunClose c n => exact chronicleRunClose_leavesStroke c n
  | chronicleSectorEraseComplete ok => exact chronicleSectorEraseComplete_leavesStroke ok
  | commandResend n => exact commandResend_leavesStroke n
  | decayPoll l => exact decayPoll_leavesStroke l
  | fenceDrainEnd n => exact fenceDrainEnd_leavesStroke n
  | fillReturn n a b c g => exact fillReturn_leavesStroke n a b c g
  | keepPageIdxWrite v => exact keepPageIdxWrite_leavesStroke v
  | keepSectorEraseComplete ok => exact keepSectorEraseComplete_leavesStroke ok
  | memberDropout n => exact memberDropout_leavesStroke n
  | memSpecRd m c => exact memSpecRd_leavesStroke m c
  | mergeCfgWrite v => exact mergeCfgWrite_leavesStroke v
  | moveStripeCommit n => exact moveStripeCommit_leavesStroke n
  | readCacheProbeReturn n e => exact readCacheProbeReturn_leavesStroke n e
  | reclaimCopyCommit n => exact reclaimCopyCommit_leavesStroke n
  | sanitizeComplete => exact sanitizeComplete_leavesStroke
  | scrubRange p a n => exact scrubRange_leavesStroke p a n
  | shelfPersistComplete => exact shelfPersistComplete_leavesStroke
  | telemWindowRead a n e => exact telemWindowRead_leavesStroke a n e
  | addDynamicCapacityResponse | clearEventRecords | getDynamicCapacityExtentList | getEventRecords | getPoisonList
  | getScanMediaCapabilities | initiateDynamicCapacityAdd | releaseDynamicCapacity | releaseRange
  | requestAbortBackgroundOperation | scanMedia | transferFwAbort | transferFwInitiate =>
    exact fun s => ⟨_, rfl, command_stroke _ _ _ _ _ fun y => by
      (repeat' split) <;> simp [foldl_stroke, apply_ite State.stroke]⟩
  | activationInDoubt | activationTakeEffect | backInvalidateWalkEnd | coordinatedActivation | eraseAuthExpiry
  | imageSlotFlashComplete | liftVerify | loadTableComplete | mergeBufferLookupReturn | mergeComplete | motionLapse
  | offHoldExpiry | patrolVisit | persistencePointComplete | poolFillTimeout | powerOffStroke | reclaim | registerWrite
  | rekeyPassEnd | releaseRangeComplete | scrubRangeComplete | settleBackCommit | shelfFrameDiscard | shlSyncPulse
  | sliceFillInstall | snapshotRecordWritten =>
    exact fun s => ⟨_, rfl, by (repeat' split) <;> simp [foldl_stroke, apply_ite State.stroke]⟩
  | _ => exact fun s => ⟨_, rfl, by simp [foldl_stroke, apply_ite State.stroke]⟩

/-- Settles O43: the three commands apart, no command's work reaches the stroke count, and neither does the look that
its end takes (that the pulses of SHL_SYNC leave the count too is the model's choice, log entry 15; joined epochs, log
entry 16, come with SYNC_EPOCH_BOUNDARY). -/
theorem timeMovesOnlyByItsCommands : Obligations.TimeMovesOnlyByItsCommands := by
  intro s t hstep hmoved
  unfold step at hstep
  cases hqueue : s.pending with
  | nil =>
    rw [hqueue] at hstep
    cases hstep
    exact absurd rfl hmoved
  | cons c rest =>
    rw [hqueue] at hstep
    refine ⟨c, rest, rfl, ?_⟩
    by_contra hc
    obtain ⟨u, hu, hstroke⟩ :=
      leavesStroke_of_movesTime_eq_false (Bool.eq_false_of_not_eq_true hc) { s with pending := rest }
    have hend : exec c { s with pending := rest } = .next t := hstep
    rw [hu, done_eq_next_ended] at hend
    cases hend
    exact hmoved ((ended_stroke _ u).trans hstroke)

end Sys2Proof.Machine
end

section
/-! SUPPORT. Time (R23, R24, R29, R42): what the boundaries of strokes and sync epochs, a plan lock and a read of
SCHED_STROKE_LO do, and O10. -/

namespace Sys2Proof.Machine

open Sys2Proof

theorem Within.epochDue {m : Nat} {s t : State} (h : Within m s t) (e : m.testBit 9 = false) :
    t.epochDue = s.epochDue := by
  simpa only [State.pick, e, cond_false] using congrArg State.epochDue h

theorem Within.ops {m : Nat} {s t : State} (h : Within m s t) (e : m.testBit 154 = false) : t.ops = s.ops := by
  simpa only [State.pick, e, cond_false] using congrArg State.ops h

theorem Within.sched {m : Nat} {s t : State} (h : Within m s t)
    (e : ∀ k ∈ [157, 158, 159, 160, 161, 162, 163, 164, 165, 166, 167, 168], m.testBit k = false) :
    t.sched = s.sched := by
  simp only [List.forall_mem_cons] at e
  obtain ⟨e0, e1, e2, e3, e4, e5, e6, e7, e8, e9, e10, e11, -⟩ := e
  simpa only [State.pick, e0, e1, e2, e3, e4, e5, e6, e7, e8, e9, e10, e11, cond_false] using congrArg State.sched h

theorem ended_epochDue (s u : State) : (s.ended u).epochDue = u.epochDue := (settle_within s u).epochDue (by decide)
theorem ended_ops (s u : State) : (s.ended u).ops = u.ops := (settle_within s u).ops (by decide)
theorem ended_sched (s u : State) : (s.ended u).sched = u.sched := (settle_within s u).sched (by decide)

/-- The end of a command counts telemetry events, and so may write TELEM_BLK_OVF; every other register is as the
command's work left it. -/
theorem ended_rd {f : Field} {i j : Nat} (s u : State) (hf : ∀ a b, f.key i j ≠ Reg.TELEM_BLK_OVF_OVF.key a b) :
    (s.ended u).rd f i j = u.rd f i j :=
  onlyRegs_rd (t := s.ended u) (settle_regs s u (List.mem_singleton_self _)) (by simpa using hf)

/-- The work of a stroke boundary (R23, R24). -/
theorem strokeBoundary_time {s : State} (haux : s.pwr.aux = true) :
    answers .strokeBoundary s fun t => t.stroke = s.stroke + 1 ∧ t.epochDue = ((s.stroke + 1) % 1024 == 0) := by
  refine answers_of_eq_done rfl ?_
  rw [ended_stroke, ended_epochDue, haux]
  extract_lets on s1 n s2
  rw [if_neg (by decide)]
  have hn : n = s.stroke + 1 := congrArg (· + 1) (show s1.stroke = s.stroke from stroke_ite
    (((telemStroke_within _).stroke (by decide)).trans ((stallCount_within s).stroke (by decide))) rfl)
  have hstroke : s2.stroke = n :=
    (shelfPointTick_stroke _).trans ((clearDue_within _).stroke (by decide))
  have hdue : s2.epochDue = (n % 1024 == 0) :=
    ((shelfPointTick_within _).epochDue (by decide)).trans ((clearDue_within _).epochDue (by decide))
  rw [← hn]
  split
  · exact ⟨((coreBoundary_within _).stroke (by decide)).trans hstroke,
      ((coreBoundary_within _).epochDue (by decide)).trans hdue⟩
  · exact ⟨hstroke, hdue⟩

theorem syncEpochBoundary_runs_once {s : State} (hdue : s.epochDue = true) :
    answers .syncEpochBoundary s fun t => t.epochDue = false := by
  refine answers_of_eq_done rfl ?_
  rw [ended_epochDue, hdue]
  extract_lets s1 s2
  rw [if_neg (by decide)]
  refine ((shelfEpoch_within _).epochDue (by decide)).trans ?_
  unfold s2
  split
  · exact (coreEpoch_within _).epochDue (by decide)
  · rfl

theorem planLock_locks_next {s : State} (h : s.sched.locked ≤ s.stroke) :
    answers .planLock s fun t => t.sched.locked = s.stroke + 1 ∧ t.stroke = s.stroke := by
  refine answers_of_eq_done rfl ?_
  rw [ended_stroke, ended_sched, if_neg (Nat.not_lt.2 h)]
  extract_lets n sched s1 s2 s3
  have h1 : s1.stroke = s.stroke := stroke_ite rfl rfl
  have h2 : s2.stroke = s1.stroke :=
    ((suspendAll_within _).stroke (by decide)).trans ((exclEnd_within _).stroke (by decide))
  have h3 : s3.stroke = s2.stroke :=
    ((lockPrograms_within _ _).stroke (by decide)).trans ((lockReads_within _ _).stroke (by decide))
  clear_value s3
  exact ⟨rfl, (boundUpdate_stroke _).trans (h3.trans (h2.trans h1))⟩

theorem planLock_again {s : State} (h : s.stroke < s.sched.locked) :
    answers .planLock s fun t => t.sched = s.sched ∧ t.ops = s.ops := by
  refine answers_of_eq_done rfl ?_
  rw [ended_sched, ended_ops, if_pos h]
  exact ⟨rfl, rfl⟩

theorem schedStrokeLoRead_latches (s : State) : answers .schedStrokeLoRead s fun t =>
    t.rd Reg.SCHED_STROKE_HI_COUNT_HI = s.stroke / 2 ^ 32 % 2 ^ Reg.SCHED_STROKE_HI_COUNT_HI.width
      ∧ Out.readValue 0x300010 (s.stroke % 2 ^ 32) ∈ t.out ∧ t.stroke = s.stroke ∧ t.sched = s.sched := by
  refine answers_of_eq_done rfl ⟨?_, mem_ended_out ?_, ?_, ?_⟩
  · have hkey (a b : Nat) : Reg.SCHED_STROKE_HI_COUNT_HI.key 0 0 ≠ Reg.TELEM_BLK_OVF_OVF.key a b := by
      simp only [Field.key, Field.offset, Reg.SCHED_STROKE_HI_COUNT_HI, Reg.TELEM_BLK_OVF_OVF]
      omega
    exact (ended_rd _ _ hkey).trans (rd_wr_self s _ _ _ _)
  · simp [State.emit, Reg.SCHED_STROKE_LO_COUNT_LO]
  · exact ended_stroke _ _
  · exact ended_sched _ _

/-- Refutes O10: its last clause names the offset 0x300000, and SCHED_STROKE_LO stands at 0x300010 (Table 2-10). Read in
the reset state, it puts one word on the transcript, and that word is from its own offset. The other clauses hold, and
this one with the register's own offset: they are the five lemmas above (that the count advances whenever AUX is
applied, and that the boundary of a sync epoch runs once when due, are the model's choices, log entries 15 and 13). -/
theorem not_timeMovesByStrokes : ¬ Obligations.TimeMovesByStrokes := by
  intro h
  obtain ⟨-, -, -, -, hread⟩ := h
  obtain ⟨t, ht, -, hout, -⟩ := hread State.reset
  cases ht
  exact absurd hout (by decide)

end Sys2Proof.Machine
end

section
/-! SUPPORT. Reads (R30, R28, R82, R97, R100): how a read enters the scheduler, what its media read gives, when its
data leaves, and O11. -/

namespace Sys2Proof.Machine

open Sys2Proof

/-! ### Parts that a frame does not list -/

theorem Within.reqs {m : Nat} {s t : State} (h : Within m s t) (e : m.testBit 112 = false) : t.reqs = s.reqs := by
  simpa only [State.pick, e, cond_false] using congrArg State.reqs h

theorem Within.slotBad {m : Nat} {s t : State} (h : Within m s t) (e : m.testBit 94 = false) :
    t.prot.slotBad = s.prot.slotBad := by
  simpa only [State.pick, e, cond_false] using congrArg (fun u : State => u.prot.slotBad) h

theorem Within.jobs {m : Nat} {s t : State} (h : Within m s t) (e : m.testBit 159 = false) :
    t.sched.jobs = s.sched.jobs := by
  simpa only [State.pick, e, cond_false] using congrArg (fun u : State => u.sched.jobs) h

theorem Within.nextJob {m : Nat} {s t : State} (h : Within m s t) (e : m.testBit 160 = false) :
    t.sched.nextJob = s.sched.nextJob := by
  simpa only [State.pick, e, cond_false] using congrArg (fun u : State => u.sched.nextJob) h

theorem ended_reqs (s u : State) : (s.ended u).reqs = u.reqs := (settle_within s u).reqs (by decide)
theorem ended_pages (s u : State) : (s.ended u).pages = u.pages := (settle_within s u).pages (by decide)

/-! ### The transcript only grows -/

theorem Within.out_prefix {m : Nat} {s t : State} (h : Within m s t) (e : m.testBit 5 = false) : s.out <+: t.out :=
  h.out e ▸ List.prefix_rfl

theorem foldl_out_prefix {α : Type} {f : State → α → State} (h : ∀ s x, s.out <+: (f s x).out) (l : List α)
    (s : State) : s.out <+: (l.foldl f s).out := by
  induction l generalizing s with
  | nil => exact List.prefix_rfl
  | cons x l ih => exact (h s x).trans (ih _)

theorem respond_out_prefix (s : State) (p l : Nat) (b : Bool) (o : Out) : s.out <+: (s.respond p l b o).out := by
  unfold State.respond
  split
  · exact List.prefix_rfl
  · exact List.prefix_append _ _

theorem flushConflicts_out_prefix (s : State) (n line : Nat) : s.out <+: (s.flushConflicts n line).out := by
  refine foldl_out_prefix (fun s e => ?_) _ s
  split
  · exact List.prefix_rfl
  · exact (respond_out_prefix ..).trans ((release_within _ _).out_prefix (by decide))

theorem finish_out_prefix (s : State) (rid : Nat) : s.out <+: (s.finish rid).out := by
  unfold State.finish
  split
  · exact List.prefix_rfl
  · exact (((dropJob_within s rid).out_prefix (by decide)).trans
      ((release_within _ rid).out_prefix (by decide))).trans (flushConflicts_out_prefix ..)

/-! ### Data sent to a host -/

/-- The link answers, and its stream is not Insecure (R47, R48). -/
def Connected (s : State) (p l : Nat) : Prop := s.linkUp p l = true ∧ s.insecure p l = false

/-- Registers beyond the PORT_ block (Table 0-4) are no part of a link's state. -/
theorem Connected.of_onlyRegs {fs : List Field} {s t : State} {p l : Nat} (h : Connected s p l) (hp : p < 4)
    (hr : onlyRegs fs s t) (hfs : ∀ g ∈ fs, 0x140000 ≤ g.off) : Connected t p l := by
  have hkeep (f : Field) (hoff : f.off ≤ 0x100014) (hstride : f.stride = 0x10000) (hlo : f.lo < 32) :
      t.rd f p 0 = s.rd f p 0 := by
    refine onlyRegs_rd hr fun g hg a b => ?_
    have := hfs g hg
    unfold Field.key Field.offset
    rw [hstride]
    omega
  unfold Connected State.linkUp State.insecure State.bit at h ⊢
  rwa [hkeep Reg.PORT_LINK_STATUS0_UP (by decide) rfl (by decide),
    hkeep Reg.PORT_LINK_STATUS1_UP (by decide) rfl (by decide),
    hkeep Reg.PORT_LINK_STATUS0_IDE (by decide) rfl (by decide),
    hkeep Reg.PORT_LINK_STATUS1_IDE (by decide) rfl (by decide)]

theorem respond_of_connected {s : State} {p l : Nat} (h : Connected s p l) (o : Out) :
    s.respond p l false o = s.emit o := by
  obtain ⟨hup, hsec⟩ := h
  simp [State.respond, hup, hsec]

/-- The S2M DRS that answers `r` with `d` has gone out. -/
def SendsData (t : State) (r : Req) (d : LineData) : Prop :=
  ∃ m l, Out.drs r.port r.link r.ld r.tag d false m l ∈ t.out

theorem SendsData.mono {t u : State} {r : Req} {d : LineData} (h : SendsData t r d) (hout : t.out <+: u.out) :
    SendsData u r d := by
  obtain ⟨m, l, hm⟩ := h
  exact ⟨m, l, hout.subset hm⟩

theorem SendsData.ended {t : State} {r : Req} {d : LineData} (h : SendsData t r d) (s : State) :
    SendsData (s.ended t) r d := by
  obtain ⟨m, l, hm⟩ := h
  exact ⟨m, l, mem_ended_out hm⟩

/-- The parts that the way of a read's data may change before the data is sent: neither the requests nor the slots. -/
def dataPathParts : Nat := 0x800000000000000000000000508001000000200000000000000000000000000002

/-- The register fields that the way of a read's data may write, none of them in the PORT_ block. -/
def dataPathFields : List Field := [
  Reg.CHAN_CORR_CNT, Reg.CACHE_RC_FILL_CNT, Reg.CACHE_RC_FILL_DROP_CNT, Reg.SCHED_BOUND_MISS, Reg.SCHED_MAX_LAT_CCLK,
  Reg.TELEM_BLK_OVF_OVF]

/-- A request found under its number, that is not discarded and whose link answers. -/
structure Reachable (s : State) (rid : Nat) (r : Req) : Prop where
  found : s.reqs.find rid = some r
  kept : r.discard = false
  port : r.port < 4
  connected : Connected s r.port r.link

theorem Reachable.of_framed {s t : State} {rid : Nat} {r : Req} (h : Reachable s rid r)
    (hf : Framed dataPathParts dataPathFields s t) : Reachable t rid r :=
  { h with found := (hf.1.reqs (by decide)).symm ▸ h.found
           connected := h.connected.of_onlyRegs h.port hf.2 (by decide) }

theorem answer_of_found {s : State} {rid : Nat} {r : Req} (h : s.reqs.find rid = some r) (d : LineData)
    (poison fill : Bool) :
    ∃ u : State, s.answer rid d poison fill = u.finish rid ∧ u.out = (s.sendData r d poison).out := by
  unfold State.answer
  rw [h]
  exact ⟨_, rfl, by split <;> rfl⟩

theorem Reachable.answer {s : State} {rid : Nat} {r : Req} (h : Reachable s rid r) (d : LineData) (fill : Bool) :
    SendsData (s.answer rid d false fill) r d := by
  obtain ⟨hfound, hkept, -, hconn⟩ := h
  have hsend : SendsData (s.sendData r d false) r d := by
    refine SendsData.mono ?_ ((countRead_within _ _).out_prefix (by decide))
    rw [hkept, respond_of_connected hconn]
    exact ⟨_, _, List.mem_append_right _ (List.mem_singleton_self _)⟩
  obtain ⟨u, hu, hout⟩ := answer_of_found hfound d false fill
  rw [hu]
  exact (hsend.mono (hout ▸ List.prefix_rfl)).mono (finish_out_prefix _ _)

/-- A request that has missed the merge buffer and has no other source than its media read (R30). -/
structure AwaitsMedia (s : State) (rid : Nat) (r : Req) : Prop extends Reachable s rid r where
  looked : r.looked = true
  stage : r.stage = .lookup
  pending : r.result = none
  first : r.refetch = false
  whole : r.partialHit = false
  slots : s.prot.slotBad = []

theorem AwaitsMedia.of_framed {s t : State} {rid : Nat} {r : Req} (h : AwaitsMedia s rid r)
    (hf : Framed dataPathParts dataPathFields s t) : AwaitsMedia t rid r :=
  { h with toReachable := h.toReachable.of_framed hf, slots := (hf.1.slotBad (by decide)).trans h.slots }

theorem noteLatency_framed (s : State) (r : Req) : Framed dataPathParts dataPathFields s (s.noteLatency r) :=
  Framed.rfl.via (noteLatency_within _ _) (noteLatency_regs _ _ (by decide) (by decide))

/-- A result that is at hand after the merge-buffer lookup is the answer. -/
theorem Reachable.takeResult {s : State} {rid : Nat} {r : Req} {d : LineData} (h : Reachable s rid r)
    (hresult : r.result = some (d, false, false)) (hlooked : r.looked = true) (hstage : r.stage = .lookup)
    (hslots : s.prot.slotBad = []) : SendsData (s.takeResult rid) r d := by
  have hnoted : Reachable (s.noteLatency r) rid r := h.of_framed (noteLatency_framed s r)
  unfold State.takeResult
  rw [h.found]
  simp only [hresult, hlooked, hstage, hslots]
  simp only [Bool.not_true, bne_self_eq_false, Bool.or_false, Bool.false_eq_true, if_false, List.contains_nil,
    Bool.and_false]
  split
  · exact h.answer d true
  · exact hnoted.answer d true

/-- Good data from the media goes out at once. -/
theorem AwaitsMedia.deliverHost {s : State} {rid : Nat} {r : Req} (h : AwaitsMedia s rid r) (d : LineData) :
    SendsData (s.deliverHost rid d false) r d := by
  obtain ⟨⟨hfound, hkept, hport, hconn⟩, hlooked, hstage, hpending, hfirst, hwhole, hslots⟩ := h
  have hset : s.deliverHost rid d false
      = (s.setReq rid { r with result := some (d, false, false) }).takeResult rid := by
    simp [State.deliverHost, hfound, hpending, hfirst, hwhole]
  have hr : Reachable (s.setReq rid { r with result := some (d, false, false) }) rid
      { r with result := some (d, false, false) } := ⟨find_setReq_self .., hkept, hport, hconn⟩
  rw [hset]
  exact hr.takeResult rfl hlooked hstage hslots

/-! ### Media reads -/

theorem hostResult_good_ok (s : State) (n : Nat) (j : Job) (rid : Nat) (d : LineData) (class4 : Bool) :
    s.hostResult n j rid (.good d) .ok class4
      = ((s.tryRcFill j.line (j.stroke / 2 ^ 14 % 1024) d j.stale class4).dropJobNo n).deliverHost rid d false := rfl

/-- A media read's good data, whose integrity check passes, answers the request that waits for it. -/
theorem AwaitsMedia.hostResult {s : State} {rid : Nat} {r : Req} (h : AwaitsMedia s rid r) (n : Nat) (j : Job)
    (d : LineData) (class4 : Bool) : SendsData (s.hostResult n j rid (.good d) .ok class4) r d := by
  rw [hostResult_good_ok]
  exact (h.of_framed ((Framed.rfl.via (tryRcFill_within ..) (tryRcFill_regs _ _ _ _ _ _ (by decide) (by decide))).quiet
    (dropJobNo_within ..))).deliverHost d

theorem leaveAt_framed (s : State) (k : Nat) : Framed dataPathParts dataPathFields s (s.leaveAt k) :=
  Framed.rfl.quiet (leaveAt_within s k)

theorem noteCorr_framed (s : State) (c k : Nat) : Framed dataPathParts dataPathFields s (s.noteCorr c k) :=
  Framed.rfl.via (noteCorr_within ..) (noteCorr_regs _ _ _ (by decide))

/-- The work of MEDIA_READ_COMPLETE for a host's read whose lines are on their way. -/
theorem exec_mediaReadComplete_of_due {s : State} {n : Nat} {j : Job} {rid : Nat} (u : Nat) (e : MediaErr)
    (g : IntegCheck) (c4 : Bool) (hjob : s.sched.jobs.find n = some j) (hwhy : j.why = .host rid)
    (hphase : j.phase = .placed ∨ j.phase = .retry) (hdue : j.stroke ≤ s.stroke) :
    exec (.mediaReadComplete n u e g c4) s = done s ((s.leaveAt u).hostDecode n j rid e g c4) := by
  change execMediaReadComplete n u e g c4 s = _
  simp [execMediaReadComplete, hjob, hwhy, hphase, hdue]

theorem decodeAt_leaveAt (s : State) (k mp ln : Nat) (e : MediaErr) :
    (s.leaveAt k).decodeAt mp ln e = s.decodeAt mp ln e := rfl

/-- R97, R100: a failed first decode waits for its retune retry, a failed retry for the group. -/
theorem hostDecode_of_failed {s : State} {n : Nat} {j : Job} {e : MediaErr} (rid : Nat) (g : IntegCheck) (c4 : Bool)
    (h : s.decodeAt j.mp j.ln e = .failed) :
    (s.hostDecode n j rid e g c4).sched.jobs.find n
        = some { j with phase := if j.phase = .retry then .reconWait else .retryWait }
      ∧ (s.hostDecode n j rid e g c4).reqs = s.reqs := by
  simp only [State.hostDecode, h]
  split
  · exact ⟨Tab.find_put_self .., rfl⟩
  · exact ⟨Tab.find_put_self .., rfl⟩

theorem mediaReadComplete_of_failed {s : State} {n : Nat} {e : MediaErr} {j : Job} {rid : Nat} (u : Nat)
    (g : IntegCheck) (c4 : Bool) (hjob : s.sched.jobs.find n = some j) (hwhy : j.why = .host rid)
    (hphase : j.phase = .placed ∨ j.phase = .retry) (hdue : j.stroke ≤ s.stroke)
    (hfailed : s.decodeAt j.mp j.ln e = .failed) :
    answers (.mediaReadComplete n u e g c4) s fun t =>
      t.sched.jobs.find n = some { j with phase := if j.phase = .retry then .reconWait else .retryWait }
        ∧ t.reqs = s.reqs := by
  obtain ⟨hfind, hreqs⟩ := hostDecode_of_failed (s := s.leaveAt u) (n := n) rid g c4 hfailed
  refine answers_of_eq_done (exec_mediaReadComplete_of_due u e g c4 hjob hwhy hphase hdue) ⟨?_, ?_⟩
  · rw [ended_sched, hfind]
  · rw [ended_reqs, hreqs]
    rfl

theorem mediaReadComplete_of_good {s : State} {n : Nat} {e : MediaErr} {j : Job} {rid : Nat} {r : Req} {d : LineData}
    {k : Nat} (u : Nat) (c4 : Bool) (hjob : s.sched.jobs.find n = some j) (hwhy : j.why = .host rid)
    (hphase : j.phase = .placed) (hdue : j.stroke ≤ s.stroke) (hgood : s.decodeAt j.mp j.ln e = .good d k)
    (hr : AwaitsMedia s rid r) : answers (.mediaReadComplete n u e .ok c4) s fun t => SendsData t r d := by
  refine answers_of_eq_done (exec_mediaReadComplete_of_due u e .ok c4 hjob hwhy (.inl hphase) hdue)
    (SendsData.ended ?_ s)
  have hdecode : (s.leaveAt u).hostDecode n j rid e .ok c4
      = ((s.leaveAt u).noteCorr (mpChan j.mp) k).hostResult n j rid (.good d) .ok c4 := by
    simp [State.hostDecode, decodeAt_leaveAt, hgood, hphase]
  rw [hdecode]
  exact ((hr.of_framed (leaveAt_framed s u)).of_framed (noteCorr_framed ..)).hostResult n j d c4

/-- A line rebuilt where its whole group is read for a failed die or a retrain needs no more work (R82). -/
theorem reconRead_of_group {s : State} {mp ln k : Nat} {e : MediaErr} {d : LineData} (line transaction : Nat)
    (h : s.rebuildAt mp ln e = .good d k) : s.reconRead line mp ln e transaction false true = (s, .good d) := by
  simp [State.reconRead, h]

theorem reconstructionComplete_of_good {s : State} {n : Nat} {e : MediaErr} {j : Job} {rid : Nat} {r : Req}
    {d : LineData} {k : Nat} (u : Nat) (hjob : s.sched.jobs.find n = some j) (hwhy : j.why = .host rid)
    (hphase : j.phase = .group) (hdue : j.stroke ≤ s.stroke) (hgood : s.rebuildAt j.mp j.ln e = .good d k)
    (hr : AwaitsMedia s rid r) : answers (.reconstructionComplete n u e .ok) s fun t => SendsData t r d := by
  have hrecon : (s.leaveAt u).reconRead j.line j.mp j.ln e 1 false true = (s.leaveAt u, .good d) :=
    reconRead_of_group _ _ hgood
  have hexec : exec (.reconstructionComplete n u e .ok) s
      = done s ((s.leaveAt u).hostResult n j rid (.good d) .ok true) := by
    change execReconstructionComplete n u e .ok s = _
    simp [execReconstructionComplete, hjob, hwhy, hphase, hdue, hrecon]
  exact answers_of_eq_done hexec (((hr.of_framed (leaveAt_framed s u)).hostResult n j d true).ended s)

/-! ### Reads on their way into the scheduler -/

/-- Placing a job, at once, ahead or not yet, files it under its number and changes only its place. -/
theorem place_jobs (s : State) (n : Nat) (j : Job) (k : Nat) : ∃ phase stroke slot, (s.place n j k).sched.jobs
    = s.sched.jobs.put n { j with phase := phase, stroke := stroke, slot := slot } := by
  unfold State.place
  extract_lets mp c
  split
  · exact ⟨j.phase, j.stroke, j.slot, rfl⟩
  split
  next stroke slot _ =>
    extract_lets s1 s2
    have h2 : s2.sched.jobs = s1.sched.jobs :=
      ((teleChan_within ..).jobs (by decide)).trans ((teleChan_within ..).jobs (by decide))
    refine ⟨.placed, stroke, slot, Eq.trans ?_ h2⟩
    split
    · exact (suspendBank_within ..).jobs (by decide)
    · rfl
  split
  next stroke slot _ =>
    extract_lets s1 late
    refine ⟨.placed, stroke, slot, Eq.trans (b := s1.sched.jobs) ?_ rfl⟩
    split
    · exact ((teleChan_within ..).jobs (by decide)).trans ((placedLate_within _ _).jobs (by decide))
    · rfl
  · exact ⟨j.phase, j.stroke, j.slot, rfl⟩

/-- A read that is admitted gets a media read of its page, under the next job number. -/
theorem admitRead_job (s : State) (rid : Nat) (r : Req) (mp k : Nat) :
    (∃ j, (s.admitRead rid r mp k).sched.jobs.find s.sched.nextJob = some j
        ∧ j.why = .host rid ∧ j.mp = mp ∧ j.line = r.line ∧ j.ln = r.line % 64)
      ∧ (s.admitRead rid r mp k).sched.nextJob = s.sched.nextJob + 1 := by
  unfold State.admitRead
  extract_lets n group j sched s1 s2 s3
  obtain ⟨phase, stroke, slot, hplace⟩ :=
    place_jobs (s2.countDemand j.chans (if group then 0 else 1)) n j k
  have hjobs : (s3.testC1 j.chans).sched.jobs = _ := ((testC1_within _ _).jobs (by decide)).trans hplace
  have hnext : s3.sched.nextJob = s2.sched.nextJob :=
    ((place_within _ _ _ _).nextJob (by decide)).trans ((countDemand_within _ _ _).nextJob (by decide))
  refine ⟨⟨{ j with phase := phase, stroke := stroke, slot := slot }, ?_, rfl, rfl, rfl, rfl⟩, ?_⟩
  · rw [hjobs]
    exact Tab.find_put_self ..
  · refine (((testC1_within _ _).nextJob (by decide)).trans hnext).trans ?_
    unfold s2
    split <;> rfl

theorem readReachScheduler_admits {s : State} {rid : Nat} {r : Req} {mp : Nat} (k : Nat) (c4 : Bool)
    (hfound : s.reqs.find rid = some r) (hadmits : r.admits = true) (hresult : r.result = none)
    (hnew : s.sched.jobs.any (fun e => e.2.why == .host rid) = false) (hmp : s.readMp (lpnOf r.line) = some mp) :
    answers (.readReachScheduler rid k c4) s fun t =>
      (∃ j, t.sched.jobs.find s.sched.nextJob = some j
          ∧ j.why = .host rid ∧ j.mp = mp ∧ j.line = r.line ∧ j.ln = r.line % 64)
        ∧ t.sched.nextJob = s.sched.nextJob + 1 := by
  have hexec : exec (.readReachScheduler rid k c4) s
      = done s (((s.tele 13 1 0).admitRead rid r mp k).probe rid c4) := by
    change execReadReachScheduler rid k c4 s = _
    simp [execReadReachScheduler, hfound, hadmits, hresult, hnew, hmp]
  have htele : (s.tele 13 1 0).sched = s.sched := (tele_within ..).sched (by decide)
  refine answers_of_eq_done hexec ?_
  rw [ended_sched, (probe_within _ _ _).jobs (by decide), (probe_within _ _ _).nextJob (by decide), ← htele]
  exact admitRead_job (s.tele 13 1 0) rid r mp k

/-! ### Suspended operations -/

theorem programResume_resumes {s : State} {b : BankId} {o : BankOp} (hop : s.ops.find (bankKey b) = some o)
    (hsuspended : o.suspended = true) : answers (.programResume b) s fun t =>
      t.ops.find (bankKey b) = some { o with suspended := false } ∧ Out.fipen b.chan b.die b.bank .resume ∈ t.out
        ∧ t.pages = s.pages ∧ t.sched = s.sched := by
  have hexec : exec (.programResume b) s
      = done s (({ s with ops := s.ops.put (bankKey b) { o with suspended := false } }).emit
          (.fipen b.chan b.die b.bank .resume)) := by
    change execProgramResume b s = _
    simp [execProgramResume, hop, hsuspended]
  refine answers_of_eq_done hexec ⟨?_, mem_ended_out ?_, ended_pages _ _, ended_sched _ _⟩
  · rw [ended_ops]
    exact Tab.find_put_self ..
  · exact List.mem_append_right _ (List.mem_singleton_self _)

/-- Settles O11: a read that reaches the scheduler becomes a job, and a job's good data goes to the request that waits
for it. That the job stands under the next number is the model's own choice (log entry 10); that a read that waits for
resolution or a merge is admitted is deduced (log entry 143). -/
theorem readsReachTheMedium : Obligations.ReadsReachTheMedium := by
  refine ⟨?_, ?_, ?_, ?_, fun _ _ _ => programResume_resumes⟩
  · intro s rid k c4 r mp hfound hadmits hresult hnew hmp
    exact readReachScheduler_admits k c4 hfound hadmits hresult hnew hmp
  · intro s n u e g c4 j rid hjob hwhy hphase hdue hfailed
    exact mediaReadComplete_of_failed u g c4 hjob hwhy hphase hdue hfailed
  · intro s n u e c4 j rid r d k hjob hwhy hphase hdue hgood hfound hlooked hstage hresult hfirst hwhole hkept hup hsec
      hport _ _ hslots
    exact mediaReadComplete_of_good u c4 hjob hwhy hphase hdue hgood
      ⟨⟨hfound, hkept, hport, hup, hsec⟩, hlooked, hstage, hresult, hfirst, hwhole, hslots⟩
  · intro s n u e j rid r d k hjob hwhy hphase hdue hgood hfound hlooked hstage hresult hfirst hwhole hkept hup hsec
      hport _ hslots
    exact reconstructionComplete_of_good u hjob hwhy hphase hdue hgood
      ⟨⟨hfound, hkept, hport, hup, hsec⟩, hlooked, hstage, hresult, hfirst, hwhole, hslots⟩

end Sys2Proof.Machine
end

section
/-! SUPPORT. The sources that answer a read (R15, R16, R30, R148, R149, R169, R179): the merge buffer, the read cache,
the slices and the fills, and O19. -/

namespace Sys2Proof.Machine

open Sys2Proof

theorem Within.entries {m : Nat} {s t : State} (h : Within m s t) (e : m.testBit 117 = false) :
    t.merge.entries = s.merge.entries := by
  simpa only [State.pick, e, cond_false] using congrArg (fun u : State => u.merge.entries) h

theorem Within.lines {m : Nat} {s t : State} (h : Within m s t) (e : m.testBit 134 = false) :
    t.cache.lines = s.cache.lines := by
  simpa only [State.pick, e, cond_false] using congrArg (fun u : State => u.cache.lines) h

theorem ended_entry (s u : State) (line : Nat) : (s.ended u).entry line = u.entry line :=
  congrArg (Tab.find · line) ((settle_within s u).entries (by decide))

theorem ended_sliceLine (s u : State) (line slice : Nat) : (s.ended u).sliceLine line slice = u.sliceLine line slice :=
  congrArg (Tab.find · (sliceKey line slice)) ((settle_within s u).lines (by decide))

/-! ### Lookups and probes -/

theorem takeResult_of_unanswered {s : State} {rid : Nat} {r : Req} (h : s.reqs.find rid = some r)
    (hresult : r.result = none) : s.takeResult rid = s := by
  simp [State.takeResult, h, hresult]

/-- A result waits until the merge-buffer lookup has returned. -/
theorem takeResult_of_unlooked {s : State} {rid : Nat} {r : Req} (h : s.reqs.find rid = some r)
    (hlooked : r.looked = false) : s.takeResult rid = s := by
  unfold State.takeResult
  rw [h]
  simp only [hlooked]
  split <;> rfl

theorem mergeBufferLookupReturn_misses {s : State} {rid : Nat} {r : Req} (u : Nat) (hfound : s.reqs.find rid = some r)
    (hstage : r.stage = .lookup) (hlooked : r.looked = false) (hentry : s.entry r.line = none)
    (hresult : r.result = none) :
    answers (.mergeBufferLookupReturn rid u ⟨0, 0⟩) s fun t =>
      t.reqs.find rid = some { r with looked := true } := by
  have hopen : (r.stage != .lookup || r.looked) = false := by simp [hstage, hlooked]
  have hexec : exec (.mergeBufferLookupReturn rid u ⟨0, 0⟩) s
      = done s (((s.leaveAt u).setReq rid { r with looked := true }).takeResult rid) := by
    change execMergeBufferLookupReturn rid u ⟨0, 0⟩ s = _
    simp [execMergeBufferLookupReturn, hfound, hopen, hentry]
  have htake := takeResult_of_unanswered (find_setReq_self (s.leaveAt u) rid { r with looked := true }) hresult
  refine answers_of_eq_done hexec ?_
  rw [ended_reqs, htake]
  exact find_setReq_self ..

theorem classM_of_no_error : classM ⟨0, 0⟩ = .clean 0 := by decide +kernel

theorem entryCheck_of_no_error (s : State) (line : Nat) (e : Entry) : s.entryCheck line e ⟨0, 0⟩ = (s, e) := by
  rw [State.entryCheck, classM_of_no_error]
  simp

theorem touchEntry_framed (s : State) (line : Nat) : Framed dataPathParts dataPathFields s (s.touchEntry line) :=
  Framed.rfl.quiet (touchEntry_within s line)

theorem tele_framed (s : State) (b code f n : Nat) : Framed dataPathParts dataPathFields s (s.tele b code f n) :=
  Framed.rfl.via (tele_within ..) (tele_regs _ _ _ _ _ (by decide))

/-- A good entry answers with its bytes. -/
theorem Reachable.fromEntry {s : State} {rid : Nat} {r : Req} {e : Entry} (h : Reachable s rid r) (line : Nat)
    (hpoison : e.poison = false) (hfill : e.fillBad = false) : SendsData (s.fromEntry rid line e) r e.data := by
  have hgood : (e.poison || e.fillBad) = false := by simp [hpoison, hfill]
  have hsend := (h.of_framed (touchEntry_framed s line)).answer e.data true
  rwa [← hgood] at hsend

theorem mergeBufferLookupReturn_hits {s : State} {rid : Nat} {r : Req} {e : Entry} (u : Nat) (hr : Reachable s rid r)
    (hstage : r.stage = .lookup) (hlooked : r.looked = false) (hentry : s.entry r.line = some e)
    (hdirty : e.state = .dirty) (hfull : e.full = true) (hpoison : e.poison = false) (hfill : e.fillBad = false) :
    answers (.mergeBufferLookupReturn rid u ⟨0, 0⟩) s fun t => SendsData t r e.data := by
  have hopen : (r.stage != .lookup || r.looked) = false := by simp [hstage, hlooked]
  have hexec : exec (.mergeBufferLookupReturn rid u ⟨0, 0⟩) s
      = done s (((s.leaveAt u).tele 14 4 0).fromEntry rid r.line e) := by
    change execMergeBufferLookupReturn rid u ⟨0, 0⟩ s = _
    simp only [execMergeBufferLookupReturn, hr.found, hopen, hentry, hdirty, entryCheck_of_no_error, hfull]
    simp
  have hr' := (hr.of_framed (leaveAt_framed s u)).of_framed (tele_framed _ 14 4 0 1)
  exact answers_of_eq_done hexec ((hr'.fromEntry r.line hpoison hfill).ended s)

theorem classF_of_no_error : classFBad ⟨0, 0⟩ = false := by decide +kernel

/-- A hit is kept with the request while its merge-buffer lookup is out (R30). -/
theorem probeHit_of_unlooked {s : State} {rid : Nat} {r : Req} (d : LineData) (hresult : r.result = none)
    (hwhole : r.partialHit = false) (hfirst : r.refetch = false) (hlooked : r.looked = false) :
    (s.probeHit rid r d).reqs.find rid = some { r with result := some (d, false, true) } := by
  unfold State.probeHit
  simp only [hresult, hwhole, hfirst, Bool.or_self, Bool.false_eq_true, if_false]
  rw [takeResult_of_unlooked (find_setReq_self ..) (by exact hlooked)]
  exact find_setReq_self ..

theorem readCacheProbeReturn_hits {s : State} {rid : Nat} {r : Req} {epoch : Nat} {d : LineData}
    (hfound : s.reqs.find rid = some r) (hprobing : r.probing = true) (hresult : r.result = none)
    (hwhole : r.partialHit = false) (hfirst : r.refetch = false) (hlooked : r.looked = false)
    (hhit : s.cache.rc.find (rcIndex r.line) = some (rcTag r.line, epoch, d))
    (hfresh : laterEpoch epoch (s.tract (tractOf r.line)).lw = true) :
    answers (.readCacheProbeReturn rid ⟨0, 0⟩) s fun t =>
      t.reqs.find rid = some { r with probing := false, result := some (d, false, true) } := by
  have hexec : exec (.readCacheProbeReturn rid ⟨0, 0⟩) s
      = done s ((s.setReq rid { r with probing := false }).probeHit rid { r with probing := false } d) := by
    change execReadCacheProbeReturn rid ⟨0, 0⟩ s = _
    have htract : (s.setReq rid { r with probing := false }).tract (tractOf r.line) = s.tract (tractOf r.line) := rfl
    simp only [execReadCacheProbeReturn, hfound, hprobing, setReq_cache, hhit, classF_of_no_error, htract, hfresh]
    simp
  refine answers_of_eq_done hexec ?_
  rw [ended_reqs]
  exact probeHit_of_unlooked d hresult hwhole hfirst hlooked

/-! ### Slice fills -/

theorem install_sliceLine (s : State) (x : SliceFill) (w : Nat) :
    ∃ st, (s.install x w).sliceLine x.line x.slice = some ⟨st, x.data, w⟩ := by
  refine ⟨(s.dirRoom x.line).fillState x.slice x.line, ?_⟩
  unfold State.install
  extract_lets s1 st s2 victims cache s3
  have hlines : ((s3.putSlice x.line x.slice ⟨st, x.data, w⟩).touchWay x.slice x.line w).cache.lines
      = s3.cache.lines.put (sliceKey x.line x.slice) ⟨st, x.data, w⟩ := (sliceCount_within _).lines (by decide)
  unfold State.sliceLine
  rw [hlines]
  exact Tab.find_put_self ..

/-- The fill that is installed leaves the fill buffer. -/
def State.withoutFill (s : State) (x : SliceFill) : State :=
  { s with cache := { s.cache with fills := s.cache.fills.erase x } }

theorem sliceFillInstall_installs {s : State} {k line w : Nat} {x : SliceFill}
    (hfill : s.cache.fills.find? (fun x => x.slice == k && x.line == line) = some x) (hheld : s.setHeld k line = false)
    (hgood : x.bad = false) (hnew : x.overtaken = false) (hway : s.wayFor k line = some w)
    (hvictim : ∀ v, s.victimAt k line w = some v → s.wtInFlight k v = false) :
    answers (.sliceFillInstall k line) s fun t => ∃ st, t.sliceLine line k = some ⟨st, x.data, w⟩ := by
  have hexec : exec (.sliceFillInstall k line) s = done s ((s.withoutFill x).install x w) := by
    change execSliceFillInstall k line s = _
    cases hv : s.victimAt k line w with
    | none => simp [execSliceFillInstall, hfill, hgood, hnew, hheld, hway, hv, State.withoutFill]
    | some v => simp [execSliceFillInstall, hfill, hgood, hnew, hheld, hway, hv, hvictim v hv, State.withoutFill]
  have hx : x.slice = k ∧ x.line = line := by simpa using List.find?_some hfill
  obtain ⟨rfl, rfl⟩ := hx
  obtain ⟨st, hst⟩ := install_sliceLine (s.withoutFill x) x w
  exact answers_of_eq_done hexec ⟨st, (ended_sliceLine ..).trans hst⟩

/-! ### Merges -/

theorem answer_out_prefix (s : State) (rid : Nat) (d : LineData) (poison fill : Bool) :
    s.out <+: (s.answer rid d poison fill).out := by
  cases h : s.reqs.find rid with
  | none => simp [State.answer, h]
  | some r =>
    obtain ⟨u, hu, hout⟩ := answer_of_found h d poison fill
    have hsend : s.out <+: (s.sendData r d poison).out :=
      (respond_out_prefix ..).trans ((countRead_within _ _).out_prefix (by decide))
    rw [hu]
    exact (hout ▸ hsend).trans (finish_out_prefix u rid)

theorem fromEntry_out_prefix (s : State) (rid line : Nat) (e : Entry) : s.out <+: (s.fromEntry rid line e).out :=
  ((touchEntry_within s line).out_prefix (by decide)).trans (answer_out_prefix ..)

theorem mergeEnd_out_prefix (s : State) (line slice : Nat) : s.out <+: (s.mergeEnd line slice).out := by
  unfold State.mergeEnd
  split
  · exact List.prefix_rfl
  extract_lets l s1 cache s2
  have h1 : s.out <+: s1.out := (mergedSlices_within ..).out_prefix (by decide)
  split
  · exact h1
  · refine h1.trans (foldl_out_prefix (fun u w => ?_) _ s2)
    split
    · split
      · exact fromEntry_out_prefix ..
      · exact List.prefix_rfl
    · exact List.prefix_rfl

theorem release_reqs {s : State} {rid : Nat} {r : Req} (h : s.reqs.find rid = some r) :
    (s.release rid).reqs = s.reqs.del rid := by
  unfold State.release
  rw [h]
  exact congrArg (fun q : Tab Req => q.del rid) ((setTrackers_within ..).reqs (by decide))

theorem release_of_missing {s : State} {rid : Nat} (h : s.reqs.find rid = none) : s.release rid = s := by
  simp [State.release, h]

theorem release_removes (s : State) (rid : Nat) : (s.release rid).reqs.find rid = none := by
  cases h : s.reqs.find rid with
  | none => rwa [release_of_missing h]
  | some r => rw [release_reqs h, Tab.find_del_self]

theorem release_find_none {s : State} {x : Nat} (rid : Nat) (h : s.reqs.find x = none) :
    (s.release rid).reqs.find x = none := by
  by_cases hx : x = rid
  · exact hx ▸ release_removes s rid
  cases hr : s.reqs.find rid with
  | none => rwa [release_of_missing hr]
  | some r => rw [release_reqs hr, Tab.find_del_ne _ _ _ hx, h]

theorem flushConflicts_find_none {s : State} {x : Nat} (n line : Nat) (h : s.reqs.find x = none) :
    (s.flushConflicts n line).reqs.find x = none := by
  refine List.foldlRecOn (motive := fun u : State => u.reqs.find x = none) _ _ h fun u hu e _ => ?_
  split
  · exact hu
  · refine release_find_none _ ?_
    rwa [(respond_within ..).reqs (by decide)]

theorem finish_removes (s : State) (rid : Nat) : (s.finish rid).reqs.find rid = none := by
  unfold State.finish
  split
  · assumption
  · exact flushConflicts_find_none _ _ (release_removes _ _)

theorem mergeComplete_completes {s : State} {line rid : Nat} {r : Req}
    (hmerging : s.reqs.find? (fun e => e.2.line == line && e.2.stage == .merging) = some (rid, r))
    (hkept : r.discard = false) (hconn : Connected s r.port r.link) : answers (.mergeComplete line) s fun t =>
      (∃ l, Out.ndr r.port r.link r.ld r.tag .cmp l ∈ t.out) ∧ t.reqs.find rid = none := by
  have hexec : exec (.mergeComplete line) s = done s ((((s.countWrite r.sess).emit (.ndr r.port r.link r.ld r.tag .cmp
      (s.devLoad r.sess))).mergeEnd line r.port).finish rid) := by
    change execMergeComplete line s = _
    have hresp := respond_of_connected (s := s.countWrite r.sess) hconn
    simp only [execMergeComplete, hmerging, hkept, hresp]
  refine answers_of_eq_done hexec ⟨⟨s.devLoad r.sess, mem_ended_out ?_⟩, ?_⟩
  · exact ((mergeEnd_out_prefix ..).trans (finish_out_prefix ..)).subset
      (List.mem_append_right _ (List.mem_singleton_self _))
  · rw [ended_reqs]
    exact finish_removes _ _

/-! ### Fills of partial entries -/

/-- R148, R149: the bytes that hosts have written stay, the media gives the others. -/
theorem fillEntry_of_good {s : State} {line : Nat} {e : Entry} (d : LineData) (hentry : s.entry line = some e)
    (hpart : e.full = false) : (s.fillEntry line d false).entry line
      = some { e with data := mergeBytes d e.data e.mask, mask := fullMask, fillPend := false } := by
  unfold State.fillEntry
  simp only [hentry, hpart, Bool.false_eq_true, if_false]
  exact (congrArg (Tab.find · line) ((mergeCounts_within _).entries (by decide))).trans (Tab.find_put_self ..)

theorem readMedia_of_good {s : State} {mp ln k : Nat} {e : LineErr} {d : LineData} (line transaction : Nat)
    (hdie : s.dieFailed mp = false) (hgood : s.decodeAt mp ln e.first = .good d k) :
    s.readMedia line mp ln e transaction false = (s.noteCorr (mpChan mp) k, .good d, k) := by
  simp [State.readMedia, hdie, hgood]

theorem fillReturn_merges {s : State} {line n k : Nat} {a : MediaErr} {j : Job} {e : Entry} {d : LineData}
    (b c : MediaErr) (hjob : s.sched.jobs.find? (fun x => x.2.line == line && x.2.why == .fill && x.2.phase == .placed
      && decide (x.2.stroke ≤ s.stroke)) = some (n, j)) (hentry : s.entry line = some e) (hpart : e.full = false)
    (hdie : s.dieFailed j.mp = false) (hgood : s.decodeAt j.mp j.ln a = .good d k) :
    answers (.fillReturn line a b c .ok) s fun t =>
      t.entry line = some { e with data := mergeBytes d e.data e.mask, mask := fullMask, fillPend := false } := by
  have hread := readMedia_of_good (e := ⟨j.ln, a, b, c⟩) line 2 hdie hgood
  have hexec : exec (.fillReturn line a b c .ok) s = done s ((s.noteCorr (mpChan j.mp) k).fillEntry line d false) := by
    change execFillReturn line a b c .ok s = _
    simp [execFillReturn, hjob, hentry, hpart, hread, State.checkInteg, MediaResult.out]
  have hkept : (s.noteCorr (mpChan j.mp) k).entry line = some e :=
    (congrArg (Tab.find · line) ((noteCorr_within ..).entries (by decide))).trans hentry
  exact answers_of_eq_done hexec ((ended_entry ..).trans (fillEntry_of_good d hkept hpart))

/-- Settles O19: each source that returns good data answers the request, or fills the line, that waits for it. -/
theorem readSourcesAnswer : Obligations.ReadSourcesAnswer := by
  refine ⟨?_, ?_, ?_, ?_, ?_, ?_⟩
  · intro s rid u r hfound hstage hlooked hentry hresult
    exact mergeBufferLookupReturn_misses u hfound hstage hlooked hentry hresult
  · intro s rid u r e hfound hstage hlooked hentry hdirty hfull hpoison hfill hkept hport _ hup hsec
    exact mergeBufferLookupReturn_hits u ⟨hfound, hkept, hport, hup, hsec⟩ hstage hlooked hentry hdirty hfull
      hpoison hfill
  · intro s rid r epoch d hfound hprobing hresult hwhole hfirst hlooked hhit hfresh
    exact readCacheProbeReturn_hits hfound hprobing hresult hwhole hfirst hlooked hhit hfresh
  · intro s k line w x hfill hheld hgood hnew hway hvictim
    exact sliceFillInstall_installs hfill hheld hgood hnew hway hvictim
  · intro s line rid r hmerging hkept _ _ hup hsec
    exact mergeComplete_completes hmerging hkept ⟨hup, hsec⟩
  · intro s line n a b c j e d k hjob hentry hpart hdie hgood
    exact fillReturn_merges b c hjob hentry hpart hdie hgood

end Sys2Proof.Machine
end

section
/-! SUPPORT. The ingress queues (R45, R50, R52, R65, R66, R189): what queueing an entry does to its session, what a port
does with a message that it hears, and O14. -/

namespace Sys2Proof.Machine

open Sys2Proof

/-! ### Parts that a frame does not list -/

theorem Within.sessions {m : Nat} {s t : State} (h : Within m s t) (e : m.testBit 111 = false) :
    t.sessions = s.sessions := by
  simpa only [State.pick, e, cond_false] using congrArg State.sessions h

theorem sess_congr {s t : State} (h : t.sessions = s.sessions) (n : Nat) : t.sess n = s.sess n := by
  unfold State.sess; rw [h]

theorem Within.sess {m : Nat} {s t : State} (h : Within m s t) (n : Nat) (e : m.testBit 111 = false) :
    t.sess n = s.sess n := sess_congr (h.sessions e) n

theorem Within.dc {m : Nat} {s t : State} (h : Within m s t) (e : m.testBit 115 = false) : t.dc = s.dc := by
  simpa only [State.pick, e, cond_false] using congrArg State.dc h

theorem Within.d3 {m : Nat} {s t : State} (h : Within m s t) (e : m.testBit 280 = false) : t.d3 = s.d3 := by
  simpa only [State.pick, e, cond_false] using congrArg State.d3 h

theorem Within.cells {m : Nat} {s t : State} (h : Within m s t) (e : m.testBit 118 = false) :
    t.merge.cells = s.merge.cells := by
  simpa only [State.pick, e, cond_false] using congrArg (fun u : State => u.merge.cells) h

theorem Within.snoops {m : Nat} {s t : State} (h : Within m s t) (e : m.testBit 148 = false) :
    t.cache.snoops = s.cache.snoops := by
  simpa only [State.pick, e, cond_false] using congrArg (fun u : State => u.cache.snoops) h

theorem ended_sessions (s u : State) : (s.ended u).sessions = u.sessions := (settle_within s u).sessions (by decide)
theorem ended_sess (s u : State) (n : Nat) : (s.ended u).sess n = u.sess n := sess_congr (ended_sessions s u) n
theorem ended_cells (s u : State) : (s.ended u).merge.cells = u.merge.cells := (settle_within s u).cells (by decide)

@[simp] theorem returnCredit_sess (s : State) (p l : Nat) (rwd : Bool) (n : Nat) :
    (s.returnCredit p l rwd).sess n = s.sess n := (returnCredit_within ..).sess n (by decide)

theorem returnCredit_out_prefix (s : State) (p l : Nat) (rwd : Bool) : s.out <+: (s.returnCredit p l rwd).out := by
  unfold State.returnCredit
  split
  · exact List.prefix_rfl
  · exact List.prefix_append _ _

/-! ### Registers -/

/-- No occurrence of `g` stands where the first occurrence of `f` does. -/
def Field.apartFrom (f g : Field) : Bool :=
  decide (f.key 0 0 < g.key 0 0) || (g.stride == 0 && g.stride2 == 0 && g.key 0 0 != f.key 0 0)

theorem Field.key_ne_of_apartFrom {f g : Field} (h : f.apartFrom g = true) (a b : Nat) : f.key 0 0 ≠ g.key a b := by
  simp only [Field.apartFrom, Field.key, Field.offset, Bool.or_eq_true, Bool.and_eq_true, decide_eq_true_eq, beq_iff_eq,
    bne_iff_ne, Nat.zero_mul, Nat.add_zero] at h ⊢
  obtain hlow | ⟨⟨h1, h2⟩, hne⟩ := h
  · omega
  · rw [h1, h2]
    omega

/-- A register apart from those that may be written reads as before. -/
theorem rd_of_apart {f : Field} {l : List Field} {s t : State} (h : onlyRegs l s t)
    (hf : l.all f.apartFrom = true := by decide) : t.rd f = s.rd f :=
  onlyRegs_rd h fun g hg => Field.key_ne_of_apartFrom (List.all_eq_true.1 hf g hg)

/-- A counter reads one more, or its highest value (Table 0-4). -/
theorem rd_bump_self (s : State) (f : Field) : (s.bump f).rd f = min (s.rd f + 1) (2 ^ f.width - 1) := by
  have hwidth : 0 < 2 ^ f.width := Nat.two_pow_pos _
  exact (rd_wr_self ..).trans (Nat.mod_eq_of_lt (by omega))

/-! ### Lanes (R66, R72) -/

@[simp] theorem lane_setLane_self (e : Session) (l : Lane) (q : LaneQ) : (e.setLane l q).lane l = q := by cases l <;> rfl

theorem lane_setLane_ne {k l : Lane} (e : Session) (q : LaneQ) (h : k ≠ l) : (e.setLane l q).lane k = e.lane k := by
  cases l with
  | read => cases k with
    | read => exact absurd rfl h
    | write => rfl
  | write => cases k with
    | read => rfl
    | write => exact absurd rfl h

theorem occ_eq_length_all (q : LaneQ) : q.occ = q.all.length := by
  simp [LaneQ.occ, LaneQ.all, Nat.add_assoc]

/-- The tail moves up behind the head: the order of the entries stays. -/
theorem settle_all (q : LaneQ) : q.settle.all = q.all := by
  unfold LaneQ.settle
  split
  next h => simp [LaneQ.all, h]
  next => rfl

theorem fresh_all (q : LaneQ) : q.fresh.all = q.all := by
  unfold LaneQ.fresh
  split <;> rfl

/-- The entries of a lane, with one more at the end of its tail. -/
theorem perm_all_tail (q : LaneQ) (d : Desc) : ({ q with tail := q.tail ++ [d] } : LaneQ).all.Perm (d :: q.all) := by
  simpa [LaneQ.all] using List.perm_middle (a := d) (l₁ := q.head ++ q.spill ++ q.tail) (l₂ := q.excess)

theorem perm_all_excess (q : LaneQ) (d : Desc) : ({ q with excess := q.excess ++ [d] } : LaneQ).all.Perm (d :: q.all) := by
  simpa [LaneQ.all] using List.perm_append_singleton d q.all

theorem perm_all_spillTail (q : LaneQ) (n : Nat) (d : Desc) : (q.spillTail n d).all.Perm (d :: q.all) := by
  simpa [LaneQ.all, LaneQ.spillTail] using
    List.perm_middle (a := d) (l₁ := q.head ++ q.spill ++ q.tail) (l₂ := q.excess)

/-- `t` is `s` with one entry more, in lane `l` of session `n`; the session's other lane is as it was. -/
structure Queued (s t : State) (n : Nat) (l : Lane) (d : Desc) : Prop where
  perm : ((t.sess n).lane l).all.Perm (d :: ((s.sess n).lane l).all)
  other : ∀ k, k ≠ l → (t.sess n).lane k = (s.sess n).lane k

namespace Queued

variable {s t u : State} {n : Nat} {l : Lane} {d : Desc}

theorem mem (h : Queued s t n l d) : d ∈ ((t.sess n).lane l).all := h.perm.mem_iff.2 List.mem_cons_self

theorem occ (h : Queued s t n l d) : ((t.sess n).lane l).occ = ((s.sess n).lane l).occ + 1 := by
  rw [occ_eq_length_all, occ_eq_length_all, h.perm.length_eq, List.length_cons]

theorem congr {a b : State} (h : Queued s t n l d) (hs : a.sess n = s.sess n) (ht : b.sess n = t.sess n) :
    Queued a b n l d := by
  obtain ⟨hperm, hother⟩ := h
  constructor <;> rw [hs, ht] <;> assumption

/-- A session whose lane is replaced by one that holds the entry as well. -/
theorem of_lane {q : LaneQ} (ht : ((t.sess n).lane l) = q) (hother : ∀ k, k ≠ l → (t.sess n).lane k = (s.sess n).lane k)
    (hq : q.all.Perm (d :: ((s.sess n).lane l).all)) : Queued s t n l d := ⟨ht ▸ hq, hother⟩

end Queued

/-- The overdraft takes the entry like any other part of its lane (R72). -/
theorem lane_overdraft (e : Session) (l k : Lane) (d : Desc) : (e.overdraft l d).lane k
    = (e.setLane l { e.lane l with excess := (e.lane l).excess ++ [d] }).lane k := by cases k <;> rfl

/-- Whatever room the lane finds, the entry stands in it, and the other lane is untouched (R66, R70, R72). -/
theorem enqueue_queued (s : State) (n : Nat) (d : Desc) : Queued s (s.enqueue n d) n d.op.lane d := by
  have hlane : ∀ {t : State} {e : Session} {q : LaneQ}, t.sess n = e →
      (∀ k, e.lane k = (((s.sess n).setLane d.op.lane ((s.sess n).lane d.op.lane).fresh).setLane d.op.lane q).lane k) →
      q.all.Perm (d :: ((s.sess n).lane d.op.lane).fresh.all) → Queued s t n d.op.lane d := by
    intro t e q ht he hq
    refine ⟨?_, fun k hk => ?_⟩
    · rw [ht, he, lane_setLane_self]
      rwa [fresh_all] at hq
    · rw [ht, he, lane_setLane_ne _ _ hk, lane_setLane_ne _ _ hk]
  unfold State.enqueue
  extract_lets l e q rwd
  have hq : q = ((s.sess n).lane l).fresh := lane_setLane_self ..
  have hover : ∀ k, (e.overdraft l d).lane k = (e.setLane l { q with excess := q.excess ++ [d] }).lane k :=
    fun k => lane_overdraft e l k d
  split
  · exact hlane (sess_setSess_self ..) hover (hq ▸ perm_all_excess _ d)
  split
  · refine hlane ((returnCredit_sess ..).trans (sess_setSess_self ..)) (fun _ => rfl) ?_
    rw [settle_all]
    exact hq ▸ perm_all_tail _ d
  split
  · exact hlane ((returnCredit_sess ..).trans (sess_setSess_self ..)) (fun _ => rfl) (hq ▸ perm_all_spillTail _ _ d)
  · exact hlane ((returnCredit_sess ..).trans (sess_setSess_self ..)) (fun _ => rfl) (hq ▸ perm_all_spillTail _ _ d)
  · exact hlane ((returnCredit_sess ..).trans (sess_setSess_self ..)) (fun _ => rfl) (hq ▸ perm_all_spillTail _ _ d)
  · exact hlane (sess_setSess_self s n _) hover (hq ▸ perm_all_excess _ d)

/-! ### Messages (R45, R50) -/

/-- Registers beyond the PORT_ block (Table 0-4) leave a port's mode. -/
theorem portMode_of_onlyRegs {fs : List Field} {s t : State} {p : Nat} (hp : p < 4) (hr : onlyRegs fs s t)
    (hfs : ∀ g ∈ fs, 0x140000 ≤ g.off) : t.portMode p = s.portMode p := by
  refine onlyRegs_rd hr fun g hg a b => ?_
  have := hfs g hg
  simp only [Field.key, Field.offset, Reg.PORT_MODE_STATUS_MODE]
  omega

theorem hears_iff (s : State) (p l : Nat) :
    s.hears p l = true ↔ p < 4 ∧ l < 2 ∧ Connected s p l ∧ p ∉ s.d3 := by
  simp [State.hears, Connected, and_assoc]

/-- What lookup, the links and a descriptor's times are read from is as it was. -/
structure SameHost (s t : State) : Prop where
  sessions : t.sessions = s.sessions
  dc : t.dc = s.dc
  d3 : t.d3 = s.d3
  stroke : t.stroke = s.stroke
  sched : t.sched = s.sched
  snoops : t.cache.snoops = s.cache.snoops
  regs : ∃ fs, onlyRegs fs s t ∧ ∀ g ∈ fs, 0x140000 ≤ g.off

/-- The parts that lookup, the links and a descriptor's times are not read from. -/
def offHostParts (m : Nat) : Bool :=
  [2, 111, 115, 148, 157, 158, 159, 160, 161, 162, 163, 164, 165, 166, 167, 168, 280].all (fun k => !m.testBit k)

theorem Framed.sameHost {m : Nat} {l : List Field} {s t : State} (h : Framed m l s t)
    (hm : offHostParts m = true := by decide) (hl : ∀ g ∈ l, 0x140000 ≤ g.off := by decide) : SameHost s t := by
  have hbit : ∀ k ∈ [2, 111, 115, 148, 157, 158, 159, 160, 161, 162, 163, 164, 165, 166, 167, 168, 280],
      m.testBit k = false := by simpa only [offHostParts, List.all_eq_true, Bool.not_eq_true'] using hm
  obtain ⟨hw, hr⟩ := h
  exact ⟨hw.sessions (hbit _ (by decide)), hw.dc (hbit _ (by decide)), hw.d3 (hbit _ (by decide)),
    hw.stroke (hbit _ (by decide)), hw.sched fun k hk => hbit k (by revert k; decide), hw.snoops (hbit _ (by decide)),
    l, hr, hl⟩

namespace SameHost

variable {s t : State} {p l : Nat}

theorem portMode (h : SameHost s t) (hp : p < 4) : t.portMode p = s.portMode p := by
  obtain ⟨fs, hr, hfs⟩ := h.regs
  exact portMode_of_onlyRegs hp hr hfs

theorem hears (h : SameHost s t) (hh : s.hears p l = true) : t.hears p l = true := by
  obtain ⟨hp, hl, hconn, hd3⟩ := (hears_iff s p l).1 hh
  obtain ⟨fs, hr, hfs⟩ := h.regs
  exact (hears_iff t p l).2 ⟨hp, hl, hconn.of_onlyRegs hp hr hfs, h.d3 ▸ hd3⟩

theorem lookup (h : SameHost s t) {m : M2S} (hp : m.port < 4) : t.lookup m = s.lookup m := by
  have hkind : t.portKind m.port = s.portKind m.port := by unfold State.portKind; rw [h.portMode hp]
  have hdc : ∀ u, t.dcOf u = s.dcOf u := fun u => by unfold State.dcOf; rw [h.dc]
  simp only [State.lookup, hkind, h.sessions, hdc, sess_congr h.sessions]

theorem mkDesc (h : SameHost s t) (m : M2S) (op : MemOp) (f : Found) (be : Mask) (cell : Nat) (poison : Bool) :
    mkDesc t m op f be cell poison = Machine.mkDesc s m op f be cell poison := by
  simp only [Machine.mkDesc, State.timeAt, h.stroke, h.sched]

theorem owesSnoop (h : SameHost s t) (n line : Nat) : t.owesSnoop n line = s.owesSnoop n line := by
  simp only [State.owesSnoop, h.snoops]

end SameHost

theorem tele_sameHost (s : State) (b code f n : Nat) : SameHost s (s.tele b code f n) :=
  Framed.sameHost (l := [Reg.TELEM_BLK_OVF_OVF]) ⟨tele_within s b code f n, tele_regs s b code f n (by decide)⟩

theorem receive_of_found {s : State} {m : M2S} {f : Found} (op : MemOp) (h : s.hears m.port m.link = true)
    (hf : s.lookup m = some f) :
    s.receive m op = (s.tele m.port 1 m.link).enqueue f.sess (mkDesc s m op f 0 0 false) := by
  obtain ⟨hp, -⟩ := (hears_iff ..).1 h
  have hsame : SameHost s (s.tele m.port 1 m.link) := tele_sameHost ..
  simp only [State.receive, h, Bool.not_true, Bool.false_eq_true, if_false, hsame.lookup hp, hf, hsame.mkDesc]

theorem receive_queued {s : State} {m : M2S} {f : Found} (op : MemOp) (h : s.hears m.port m.link = true)
    (hf : s.lookup m = some f) : Queued s (s.receive m op) f.sess op.lane (mkDesc s m op f 0 0 false) := by
  rw [receive_of_found op h hf]
  exact (enqueue_queued (s.tele m.port 1 m.link) f.sess (mkDesc s m op f 0 0 false)).congr
    (sess_congr (tele_sameHost ..).sessions.symm _) rfl

/-- A message of the read lane without data stands in that lane of its session, whose write lane stays. -/
theorem receive_reads {i : Instr} {s : State} {m : M2S} {f : Found} {op : MemOp}
    (hexec : exec i s = done s (s.receive m op)) (hop : op.lane = .read) (h : s.hears m.port m.link = true)
    (hf : s.lookup m = some f) : answers i s fun t => mkDesc s m op f 0 0 false ∈ (t.sess f.sess).rd.all
      ∧ (t.sess f.sess).rd.occ = (s.sess f.sess).rd.occ + 1 ∧ (t.sess f.sess).wr = (s.sess f.sess).wr := by
  have hq := (receive_queued op h hf).congr rfl (ended_sess s _ f.sess)
  rw [hop] at hq
  exact answers_of_eq_done hexec ⟨hq.mem, hq.occ, hq.other .write nofun⟩

/-! ### Writes and conflicts -/

theorem Tab.mem_keys_of_find_ne_none {α : Type} {t : Tab α} {k : Nat} (h : t.find k ≠ none) :
    k ∈ List.map Prod.fst t := by
  induction t with
  | nil => exact absurd rfl h
  | cons e r ih =>
    by_cases hk : e.1 = k
    · exact List.mem_map.2 ⟨e, List.mem_cons_self, hk⟩
    · rw [Tab.find, if_neg hk] at h
      exact List.mem_cons_of_mem _ (ih h)

/-- A search that meets no free key has met listed ones only. -/
theorem Tab.find_ne_none_of_fresh {α : Type} {t : Tab α} {n k : Nat} (h : t.find (t.fresh n k) ≠ none) {i : Nat}
    (hki : k ≤ i) (hin : i < k + n) : t.find i ≠ none := by
  induction n generalizing k with
  | zero => omega
  | succ n ih =>
    rw [Tab.fresh] at h
    cases hk : t.find k with
    | none => simp only [hk, ne_eq, not_true_eq_false] at h
    | some v =>
      simp only [hk] at h
      by_cases hi : i = k
      · rw [hi, hk]; exact nofun
      · exact ih h (by omega) (by omega)

/-- With one try more than there are keys, a free one is met. -/
theorem Tab.find_fresh {α : Type} (t : Tab α) : t.find (t.fresh (t.length + 1) 0) = none := by
  by_contra h
  have hsub : List.range (t.length + 1) ⊆ List.map Prod.fst t := fun i hi =>
    Tab.mem_keys_of_find_ne_none (Tab.find_ne_none_of_fresh h (Nat.zero_le i) (by simpa using hi))
  have hle := (List.subperm_of_subset List.nodup_range hsub).length_le
  rw [List.length_range, List.length_map] at hle
  omega

/-- What a write that is heard changes before its lookup: the telemetry counters (R354, R358). -/
def State.heardWrite (s : State) (m : M2S) : State :=
  (s.tele m.port 1 m.link).countRwd (2 * m.port + m.link)

/-- The parts that those counts may change. -/
def heardWriteParts : Nat := 0x4800000000000000000000000000000000000000000000000000000000000000002

theorem heardWrite_framed (s : State) (m : M2S) :
    Framed heardWriteParts [Reg.TELEM_BLK_OVF_OVF] s (s.heardWrite m) :=
  (Framed.rfl.via (tele_within ..) (tele_regs _ _ _ _ _ (by decide))).quiet (countRwd_within ..)

theorem heardWrite_sameHost (s : State) (m : M2S) : SameHost s (s.heardWrite m) := (heardWrite_framed s m).sameHost

/-- The data of a write lies in a landing cell (R66). -/
def State.landed (s : State) (cell : Nat) (c : Cell) : State :=
  { s with merge := { s.merge with cells := s.merge.cells.put cell c } }

/-- A landing cell that holds nothing. -/
def State.freeCellNumber (s : State) : Nat := s.merge.cells.fresh (s.merge.cells.length + 1) 0

theorem receiveWrite_of_found {s : State} {m : M2S} {f : Found} (op : MemOp) (data : LineData) (be : Mask) (poison : Bool)
    (h : s.hears m.port m.link = true) (hf : s.lookup m = some f) (howes : s.owesSnoop f.sess f.line = false) :
    s.receiveWrite m op data be poison =
      ((s.heardWrite m).landed s.freeCellNumber { sess := f.sess, tag := m.tag, data := data }).enqueue f.sess
        (mkDesc s m op f be s.freeCellNumber poison) := by
  obtain ⟨hp, -⟩ := (hears_iff ..).1 h
  have hsame : SameHost s (s.heardWrite m) := heardWrite_sameHost s m
  have hcells : (s.heardWrite m).merge.cells = s.merge.cells := (heardWrite_framed s m).1.cells (by decide)
  unfold State.receiveWrite
  rw [h, Bool.not_true, if_neg Bool.false_ne_true]
  extract_lets heard cell merge
  have hlookup : heard.lookup m = some f := (hsame.lookup hp).trans hf
  split
  next hnone => rw [hlookup] at hnone; cases hnone
  next g hg =>
    obtain rfl : f = g := Option.some.inj (hlookup.symm.trans hg)
    extract_lets landed d
    have hcell : cell = s.freeCellNumber := by unfold cell State.freeCellNumber; rw [← hcells]; rfl
    have hlanded : landed = (s.heardWrite m).landed s.freeCellNumber { sess := f.sess, tag := m.tag, data := data } := by
      rw [← hcell]; rfl
    have hd : d = mkDesc s m op f be s.freeCellNumber poison := by rw [← hcell]; exact hsame.mkDesc ..
    have howes' : landed.owesSnoop f.sess f.line = false := (hsame.owesSnoop ..).trans howes
    rw [howes', Bool.false_and, if_neg Bool.false_ne_true, hd, hlanded]

/-- A write that its session does not owe a snoop for stands in the write lane, its data in a cell that was free. -/
theorem receiveWrite_writes {i : Instr} {s : State} {m : M2S} {f : Found} {op : MemOp} {data : LineData} {be : Mask}
    {poison : Bool} (hexec : exec i s = done s (s.receiveWrite m op data be poison)) (hop : op.lane = .write)
    (h : s.hears m.port m.link = true) (hf : s.lookup m = some f) (howes : s.owesSnoop f.sess f.line = false) :
    answers i s fun t => ∃ c, mkDesc s m op f be c poison ∈ (t.sess f.sess).wr.all ∧ s.merge.cells.find c = none
      ∧ t.merge.cells.find c = some { sess := f.sess, tag := m.tag, data := data }
      ∧ (t.sess f.sess).wr.occ = (s.sess f.sess).wr.occ + 1 := by
  refine answers_of_eq_done hexec ⟨s.freeCellNumber, ?_⟩
  rw [receiveWrite_of_found op data be poison h hf howes]
  have hq := (enqueue_queued ((s.heardWrite m).landed s.freeCellNumber { sess := f.sess, tag := m.tag, data := data })
    f.sess (mkDesc s m op f be s.freeCellNumber poison)).congr
      (sess_congr (heardWrite_sameHost s m).sessions.symm f.sess) (ended_sess s _ f.sess)
  rw [show (mkDesc s m op f be s.freeCellNumber poison).op.lane = .write from hop] at hq
  refine ⟨hq.mem, Tab.find_fresh _, ?_, hq.occ⟩
  rw [ended_cells, (enqueue_within ..).cells (by decide)]
  exact Tab.find_put_self ..

/-- The register fields that a message without data may write. -/
def receiveFields : List Field := [
  Reg.CHRON_DROP_CNT, Reg.CHRON_REPEAT_CNT, Reg.SESS_HELD, Reg.SESS_HOLD_CNT, Reg.SESS_ORPHAN_CNT,
  Reg.SESS_SPILL_STATUS_SHARED_FREE, Reg.TELEM_BLK_OVF_OVF]

theorem biConflict_queued {s : State} {m : M2S} {f : Found} (h : s.hears m.port m.link = true)
    (hf : s.lookup m = some f) : answers (.biConflict m) s fun t =>
      mkDesc s m .biConflict f 0 0 false ∈ (t.sess f.sess).wr.all ∧ (t.sess f.sess).rd = (s.sess f.sess).rd
        ∧ t.rd Reg.DIR_CONFLICT_CNT = min (s.rd Reg.DIR_CONFLICT_CNT + 1) (2 ^ Reg.DIR_CONFLICT_CNT.width - 1) := by
  obtain ⟨hp, -⟩ := (hears_iff ..).1 h
  have hsame : SameHost s (s.bump Reg.DIR_CONFLICT_CNT) :=
    Framed.sameHost (l := [Reg.DIR_CONFLICT_CNT]) ⟨bump_within .., bump_regs _ _ _ _ _ (by decide)⟩
  have hexec : exec (.biConflict m) s = done s ((s.bump Reg.DIR_CONFLICT_CNT).receive m .biConflict) := by
    change done s ((if s.hears m.port m.link then _ else s).receive m .biConflict) = _
    rw [if_pos h]
  have hq := (receive_queued .biConflict (hsame.hears h) ((hsame.lookup hp).trans hf)).congr
    (sess_congr hsame.sessions.symm f.sess) (ended_sess s _ f.sess)
  rw [hsame.mkDesc] at hq
  refine answers_of_eq_done hexec ⟨hq.mem, hq.other .read nofun, ?_⟩
  have hended : onlyRegs receiveFields _ (s.ended ((s.bump Reg.DIR_CONFLICT_CNT).receive m .biConflict)) :=
    (settle_regs s _ (by decide)).on (receive_regs _ m .biConflict (by decide) (by decide) (by decide) (by decide)
      (by decide) (by decide) (by decide))
  rw [rd_of_apart hended]
  exact rd_bump_self ..

/-! ### Messages that no session answers for (R52) -/

/-- The parts that the record of a failed lookup may change. -/
def orphanParts : Nat := 0x7fbcc00000000000000022

theorem orphan_sameHost (s : State) (m : M2S) : SameHost s (s.orphan m) :=
  Framed.sameHost (m := orphanParts) (l := [Reg.CHRON_DROP_CNT, Reg.CHRON_REPEAT_CNT, Reg.SESS_ORPHAN_CNT])
    ⟨orphan_within s m, orphan_regs s m (by decide) (by decide) (by decide)⟩

theorem orphanAnswer_mem_failLookup_out {s : State} {m : M2S} (op : MemOp) (h : s.hears m.port m.link = true) :
    orphanAnswer op m.port m.link m.ld m.tag 0 ∈ (s.failLookup m op).out := by
  obtain ⟨-, -, hconn, -⟩ := (hears_iff ..).1 ((orphan_sameHost s m).hears h)
  refine (returnCredit_out_prefix ..).subset ?_
  rw [respond_of_connected hconn]
  exact List.mem_append_right _ (List.mem_singleton_self _)

theorem failLookup_reqs (s : State) (m : M2S) (op : MemOp) : (s.failLookup m op).reqs = s.reqs :=
  (failLookup_within s m op).reqs (by decide)

/-- A message whose lookup fails is answered at once, and takes no tracker. -/
theorem answers_of_failLookup {i : Instr} {s u : State} {m : M2S} {op : MemOp}
    (hexec : exec i s = done s (u.failLookup m op)) (hsame : SameHost s u) (hreqs : u.reqs = s.reqs)
    (h : s.hears m.port m.link = true) :
    answers i s fun t => orphanAnswer op m.port m.link m.ld m.tag 0 ∈ t.out ∧ t.reqs = s.reqs :=
  answers_of_eq_done hexec ⟨mem_ended_out (orphanAnswer_mem_failLookup_out op (hsame.hears h)),
    (ended_reqs ..).trans ((failLookup_reqs ..).trans hreqs)⟩

theorem receive_of_not_found {s : State} {m : M2S} (op : MemOp) (h : s.hears m.port m.link = true)
    (hf : s.lookup m = none) : s.receive m op = (s.tele m.port 1 m.link).failLookup m op := by
  obtain ⟨hp, -⟩ := (hears_iff ..).1 h
  simp only [State.receive, h, Bool.not_true, Bool.false_eq_true, if_false, (tele_sameHost s _ _ _ _).lookup hp, hf]

theorem receiveWrite_of_not_found {s : State} {m : M2S} (op : MemOp) (data : LineData) (be : Mask) (poison : Bool)
    (h : s.hears m.port m.link = true) (hf : s.lookup m = none) :
    s.receiveWrite m op data be poison = (s.heardWrite m).failLookup m op := by
  obtain ⟨hp, -⟩ := (hears_iff ..).1 h
  unfold State.receiveWrite
  rw [h, Bool.not_true, if_neg Bool.false_ne_true]
  extract_lets heard
  have hlookup : heard.lookup m = none := ((heardWrite_sameHost s m).lookup hp).trans hf
  split
  next => rfl
  next g hg => rw [hlookup] at hg; cases hg

/-- Settles O14: a message that is heard ends in `enqueue` where lookup finds a session, and in `failLookup` where it
finds none. -/
theorem messagesEnterTheirLane : Obligations.MessagesEnterTheirLane := by
  refine ⟨fun s m f h hf => ⟨?_, ?_, ?_, ?_, ?_⟩, fun s m f d be p h hf howes => ⟨?_, ?_⟩,
    fun s m f h hf => biConflict_queued h hf, fun s m d p h hf => ⟨?_, ?_⟩⟩
  · exact receive_reads rfl rfl h hf
  · exact receive_reads rfl rfl h hf
  · exact receive_reads rfl rfl h hf
  · exact receive_reads rfl rfl h hf
  · exact receive_reads rfl rfl h hf
  · exact receiveWrite_writes rfl rfl h hf howes
  · exact receiveWrite_writes rfl rfl h hf howes
  · exact answers_of_failLookup (op := .memRd) (congrArg (done s) (receive_of_not_found .memRd h hf))
      (tele_sameHost ..) ((tele_within ..).reqs (by decide)) h
  · exact answers_of_failLookup (op := .memWr) (congrArg (done s) (receiveWrite_of_not_found .memWr d fullMask p h hf))
      (heardWrite_sameHost s m) ((heardWrite_framed s m).1.reqs (by decide)) h

end Sys2Proof.Machine
end

section
/-! SUPPORT. Speculative reads and snoops (R45, R62, R176, R183, R184, R185): what a speculative read puts into the read
cache, what an answer or a timeout takes off a snoop, where credits go, and O15. -/

namespace Sys2Proof.Machine

open Sys2Proof

theorem Within.host {m : Nat} {s t : State} (h : Within m s t) (e : m.testBit 146 = false) :
    t.cache.host = s.cache.host := by
  simpa only [State.pick, e, cond_false] using congrArg (fun u : State => u.cache.host) h

theorem Within.rc {m : Nat} {s t : State} (h : Within m s t) (e : m.testBit 144 = false) : t.cache.rc = s.cache.rc := by
  simpa only [State.pick, e, cond_false] using congrArg (fun u : State => u.cache.rc) h

theorem Within.biCredits {m : Nat} {s t : State} (h : Within m s t) (e : m.testBit 150 = false) :
    t.cache.biCredits = s.cache.biCredits := by
  simpa only [State.pick, e, cond_false] using congrArg (fun u : State => u.cache.biCredits) h

theorem ended_snoops (s u : State) : (s.ended u).cache.snoops = u.cache.snoops := (settle_within s u).snoops (by decide)
theorem ended_host (s u : State) : (s.ended u).cache.host = u.cache.host := (settle_within s u).host (by decide)
theorem ended_rc (s u : State) : (s.ended u).cache.rc = u.cache.rc := (settle_within s u).rc (by decide)
theorem ended_biCredits (s u : State) : (s.ended u).cache.biCredits = u.cache.biCredits :=
  (settle_within s u).biCredits (by decide)

/-! ### Speculative reads (R45, R176) -/

/-- A read's credit comes back at once (R45, R74). -/
theorem returnCredit_read (s : State) (p l : Nat) : s.returnCredit p l false = s.emit (.credit p l false 1) := rfl

/-- Nothing holds a newer version of the line than the medium, and speculation is on with class 4 free (R176). -/
structure MaySpeculate (s : State) (line : Nat) (d : LineData) : Prop where
  rcOn : s.cache.rcOn = true
  fillEn : s.bit Reg.CACHE_RC_CFG_SPEC_FILL_EN = true
  ready : s.ready = true
  layout : s.rd Reg.SCHED_STATUS_LAYOUT ≠ 1
  entry : s.entry line = none
  idle : s.lineBusy line = false
  verified : s.unverified line = false
  quiet : s.internalOn line = none
  data : s.mediaNow line = some d

theorem MaySpeculate.specFill {s : State} {line : Nat} {d : LineData} (h : MaySpeculate s line d) :
    s.specFill line true = s.rcFill line s.lwNow d := by
  simp [State.specFill, h.rcOn, h.fillEn, h.ready, h.layout, h.entry, h.idle, h.verified, h.quiet, h.data]

/-- The transcript is not among what speculation reads. -/
theorem MaySpeculate.emit {s : State} {line : Nat} {d : LineData} (h : MaySpeculate s line d) (o : Out) :
    MaySpeculate (s.emit o) line d := by
  obtain ⟨h1, h2, h3, h4, h5, h6, h7, h8, h9⟩ := h
  exact ⟨h1, h2, h3, h4, h5, h6, h7, h8, h9⟩

theorem memSpecRd_fills {s : State} {m : M2S} {f : Found} {d : LineData} (h : s.hears m.port m.link = true)
    (hf : s.lookup m = some f) (hspec : MaySpeculate s f.line d) : answers (.memSpecRd m true) s fun t =>
      t.cache.rc.find (rcIndex f.line) = some (rcTag f.line, s.lwNow, d) ∧ t.reqs = s.reqs ∧ t.sessions = s.sessions
        ∧ Out.credit m.port m.link false 1 ∈ t.out := by
  have hlookup : (s.emit (.credit m.port m.link false 1)).lookup m = some f := hf
  have hexec : exec (.memSpecRd m true) s
      = done s ((s.emit (.credit m.port m.link false 1)).rcFill f.line s.lwNow d) := by
    change execMemSpecRd m true s = _
    simp only [execMemSpecRd, h, returnCredit_read, hlookup, (hspec.emit _).specFill]
    rfl
  refine answers_of_eq_done hexec ⟨?_, ended_reqs .., ended_sessions .., mem_ended_out ?_⟩
  · rw [ended_rc]
    exact Tab.find_put_self ..
  · exact List.mem_append_right _ (List.mem_singleton_self _)

/-! ### Answers and timeouts (R62, R183, R185) -/

/-- A snoop that this session has answered. -/
def Snoop.answered (x : Snoop) (n : Nat) (kept : Bool) : Snoop :=
  { x with waiting := x.waiting.filter (· != n), unsent := x.unsent.filter (· != n),
           kept := if kept then x.kept ++ [n] else x.kept }

/-- The session is taken off every snoop of the line. -/
def State.takenOff (s : State) (n line : Nat) (x : Snoop) : State :=
  { s with cache := { s.cache with
      snoops := s.cache.snoops.map (fun y => if y.line == line && y.waiting.contains n then x else y) } }

/-- Others still owe an answer: nothing else follows from this one. -/
theorem snoopAnswer_of_not_last {s : State} {n line : Nat} {x : Snoop} (kept : Bool)
    (hx : s.cache.snoops.find? (fun x => x.line == line && x.waiting.contains n) = some x)
    (hlast : x.waiting.filter (· != n) ≠ []) : s.snoopAnswer n line kept = s.takenOff n line (x.answered n kept) := by
  simp only [State.snoopAnswer, hx]
  exact if_neg hlast

theorem takenOff_not_waiting {s : State} {n line : Nat} {x : Snoop} (hx : n ∉ x.waiting) :
    ∀ y ∈ (s.takenOff n line x).cache.snoops, y.line = line → n ∉ y.waiting := by
  intro y hy hline
  obtain ⟨z, -, rfl⟩ := List.mem_map.1 hy
  by_cases hz : (z.line == line && z.waiting.contains n) = true
  · rwa [if_pos hz]
  · rw [if_neg hz] at hline ⊢
    simpa [hline] using hz

/-- After a state that has the same snoops, the answer of a session that is not the last takes it off them. -/
theorem snoopAnswer_takes_off {s u : State} {n line : Nat} {x : Snoop} (kept : Bool)
    (hsnoops : u.cache.snoops = s.cache.snoops)
    (hx : s.cache.snoops.find? (fun x => x.line == line && x.waiting.contains n) = some x)
    (hlast : x.waiting.filter (· != n) ≠ []) :
    u.snoopAnswer n line kept = u.takenOff n line (x.answered n kept)
      ∧ ∀ y ∈ (s.ended (u.snoopAnswer n line kept)).cache.snoops, y.line = line → n ∉ y.waiting := by
  have hanswer := snoopAnswer_of_not_last (s := u) kept (hsnoops ▸ hx) hlast
  refine ⟨hanswer, ?_⟩
  rw [ended_snoops, hanswer]
  exact takenOff_not_waiting (by simp [Snoop.answered])

theorem biRsp_takes_off {s : State} {p l n line : Nat} (a : BiAnswer) {x : Snoop} (h : s.hears p l = true)
    (howes : s.owesSnoop n line = true)
    (hx : s.cache.snoops.find? (fun x => x.line == line && x.waiting.contains n) = some x)
    (hlast : x.waiting.filter (· != n) ≠ []) : answers (.biRsp p l n line a) s fun t =>
      (∀ y ∈ t.cache.snoops, y.line = line → n ∉ y.waiting) ∧ t.cache.host = s.cache.host ∧ t.reqs = s.reqs := by
  obtain ⟨hanswer, hoff⟩ := snoopAnswer_takes_off (a == .s) rfl hx hlast
  have hexec : exec (.biRsp p l n line a) s = done s (s.snoopAnswer n line (a == .s)) := by
    change execBiRsp p l n line a s = _
    simp [execBiRsp, h, howes]
  refine answers_of_eq_done hexec ⟨hoff, ?_, ?_⟩
  · rw [ended_host, hanswer]; rfl
  · rw [ended_reqs, hanswer]; rfl

/-- A timeout is counted and recorded, and takes the session off (R62, R185). -/
theorem timeout_takes_off {i : Instr} {s : State} {n line code : Nat} {x : Snoop} {f : Field}
    (hexec : exec i s = done s (((s.bump f).snoopRecord code n line).snoopAnswer n line false))
    (hx : s.cache.snoops.find? (fun x => x.line == line && x.waiting.contains n) = some x)
    (hlast : x.waiting.filter (· != n) ≠ [])
    (hf : [Reg.CHRON_DROP_CNT, Reg.CHRON_REPEAT_CNT, Reg.TELEM_BLK_OVF_OVF].all f.apartFrom = true) :
    answers i s fun t => (∀ y ∈ t.cache.snoops, y.line = line → n ∉ y.waiting)
      ∧ t.rd f = min (s.rd f + 1) (2 ^ f.width - 1) := by
  obtain ⟨hanswer, hoff⟩ := snoopAnswer_takes_off (s := s) (u := (s.bump f).snoopRecord code n line) false
    ((snoopRecord_within ..).snoops (by decide)) hx hlast
  refine answers_of_eq_done hexec ⟨hoff, ?_⟩
  rw [hanswer]
  refine (rd_of_apart ?_ hf).trans (rd_bump_self s f)
  exact (settle_regs s _ (by decide)).on ((onlyRegs_of_regs_eq rfl).on
    (snoopRecord_regs _ code n line (by decide) (by decide)))

/-! ### Credits (R184) -/

theorem pushSnoops_of_none {s : State} (h : s.cache.snoops = []) : s.pushSnoops = s := by
  unfold State.pushSnoops
  rw [h]
  change { s with cache := { s.cache with snoops := [] } } = s
  rw [← h]

/-- BISnp credits come to a link, numbered 2 × port + link. -/
def State.credited (s : State) (i n : Nat) : State :=
  { s with cache := { s.cache with biCredits := s.cache.biCredits.set i (s.cache.biCredits.getD i 0 + n) } }

theorem bisnpCreditReturn_adds {s : State} {p l : Nat} (n : Nat) (h : s.hears p l = true) (hnone : s.cache.snoops = [])
    (hlinks : s.cache.biCredits.length = 8) : answers (.bisnpCreditReturn p l n) s fun t =>
      t.cache.biCredits.getD (2 * p + l) 0 = s.cache.biCredits.getD (2 * p + l) 0 + n ∧ t.cache.host = s.cache.host := by
  obtain ⟨hp, hl, -⟩ := (hears_iff ..).1 h
  have hexec : exec (.bisnpCreditReturn p l n) s = done s (s.credited (2 * p + l) n) := by
    rw [← pushSnoops_of_none (s := s.credited (2 * p + l) n) hnone]
    exact congrArg (done s) (if_pos h)
  refine answers_of_eq_done hexec ⟨?_, ended_host ..⟩
  rw [ended_biCredits]
  have hi : 2 * p + l < s.cache.biCredits.length := by omega
  simp [State.credited, List.getD_eq_getElem?_getD, hi]

/-- Settles O15: a speculative read ends in the fill of the read cache (that the line goes straight into it is the
model's choice, log entry 22), an answer or a timeout of a session that is not the last in a shorter list of those
asked, and a credit return in the link's credits. -/
theorem speculationAndSnoops : Obligations.SpeculationAndSnoops := by
  refine ⟨?_, ?_, ?_, ?_, ?_⟩
  · intro s m f d h hf hrc hfill hready hlayout hentry hidle hverified hquiet hdata
    exact memSpecRd_fills h hf ⟨hrc, hfill, hready, hlayout, hentry, hidle, hverified, hquiet, hdata⟩
  · exact fun s p l n line a x h howes hx hlast => biRsp_takes_off a h howes hx hlast
  · exact fun s n line x hwaits hx hlast =>
      timeout_takes_off (congrArg (done s) (if_pos hwaits)) hx hlast (by decide)
  · exact fun s n line x hwaits hx hlast =>
      timeout_takes_off (congrArg (done s) (if_pos hwaits)) hx hlast (by decide)
  · exact fun s p l n h hnone hlinks => bisnpCreditReturn_adds n h hnone hlinks

end Sys2Proof.Machine
end

section
/-! SUPPORT. Session commands (R59 to R62, Tables 3-4 and 3-5): what each does to its entry and answers, and O17. -/

namespace Sys2Proof.Machine

open Sys2Proof

@[simp] theorem reply_sess (s : State) (p : CmdPath) (rc : Rc) (ext : Nat) (data : List Nat) (n : Nat) :
    (s.reply p rc ext data).sess n = s.sess n := (reply_within ..).sess n (by decide)

@[simp] theorem sessReply_sess (s : State) (p : CmdPath) (num reason n : Nat) :
    (s.sessReply p num reason).sess n = s.sess n := (sessReply_within ..).sess n (by decide)

@[simp] theorem recount_sess (s : State) (n : Nat) : s.recount.sess n = s.sess n := rfl

@[simp] theorem noted_sess (s : State) (l : List Stored) (n : Nat) : (s.noted l).sess n = s.sess n := rfl

theorem response_mem_reply_out (s : State) (p : CmdPath) (rc : Rc) (ext : Nat) (data : List Nat) :
    Out.response p rc ext data ∈ (s.reply p rc ext data).out := by simp

/-! ### SESSION CREATE (R60, Table 3-5) -/

/-- A Free entry that a session takes with these words (R60). -/
def Session.opened (e : Session) (w : SessWords) : Session :=
  { (e.load w) with state := .active, gen := (e.gen + 1) % 65536, allowStall := 0, reads := 0, writes := 0 }

theorem sessCreate_of_free {s : State} {p : CmdPath} {n : Nat} {w : SessWords} (h : s.createReason p n w = 0)
    (hfree : (s.sess n).state = .free) :
    s.sessCreate p n w = (s.setSess n ((s.sess n).opened w)).recount.sessReply p n 0 := by
  simp only [State.sessCreate, h, hfree]
  rfl

theorem sessCreate_of_refused {s : State} {p : CmdPath} {n : Nat} {w : SessWords} (h : s.createReason p n w ≠ 0) :
    s.sessCreate p n w = s.sessRefuse p n (s.createReason p n w) := by
  unfold State.sessCreate
  split
  next h0 => exact absurd h0 h
  next => rfl

theorem sessionCreate_opens {s : State} {p : CmdPath} {n : Nat} {w : SessWords} (h : heard s p (.sessionCreate p n w) .admin)
    (hreason : s.createReason p n w = 0) (hfree : (s.sess n).state = .free) :
    answers (.sessionCreate p n w) s fun t => t.sess n = (s.sess n).opened w
      ∧ Out.response p .success 0 ([0, 2] ++ leBytes 2 (((s.sess n).gen + 1) % 65536)) ∈ t.out := by
  refine answers_of_heard rfl h nofun fun l => ?_
  have hcreate := sessCreate_of_free (s := s.noted l) (p := p) (w := w) hreason hfree
  rw [hcreate, ended_sess]
  refine ⟨by simp, mem_ended_out ?_⟩
  have hentry : ((s.noted l).setSess n ((s.sess n).opened w)).recount.sess n = (s.sess n).opened w := by simp
  unfold State.sessReply
  rw [noted_sess, hentry]
  exact response_mem_reply_out ..

/-- A refusal counts and shows its reason, and answers it with the entry as it is (R59). -/
theorem sessRefuse_refuses (s : State) (p : CmdPath) (n r : Nat) (l : List Stored) (hr : r < 256) :
    (s.ended ((s.noted l).sessRefuse p n r)).sessions = s.sessions
      ∧ (s.ended ((s.noted l).sessRefuse p n r)).rd Reg.SESS_CMD_REJECT_LAST_REASON = r
      ∧ Out.response p .invalidInput 0 ([r, (s.sess n).state.code] ++ leBytes 2 (s.sess n).gen)
        ∈ (s.ended ((s.noted l).sessRefuse p n r)).out := by
  refine ⟨(ended_sessions ..).trans ((sessRefuse_within ..).sessions (by decide)), ?_,
    mem_ended_out (response_mem_reply_out ..)⟩
  have hregs : onlyRegs [Reg.SESS_CMD_REJECT_COUNT, Reg.TELEM_BLK_OVF_OVF]
      ((s.noted l).wr Reg.SESS_CMD_REJECT_LAST_REASON r) (s.ended ((s.noted l).sessRefuse p n r)) :=
    (settle_regs s _ (by decide)).on (onlyRegs.keep (reply_within ..) (by decide) (bump_regs _ _ _ _ _ (by decide)))
  rw [rd_of_apart hregs]
  exact (rd_wr_self ..).trans (Nat.mod_eq_of_lt hr)

theorem sessionCreate_refused {s : State} {p : CmdPath} {n : Nat} {w : SessWords} (h : heard s p (.sessionCreate p n w) .admin)
    (hreason : s.createReason p n w ≠ 0) (hcode : s.createReason p n w < 256) :
    answers (.sessionCreate p n w) s fun t => t.sessions = s.sessions
      ∧ t.rd Reg.SESS_CMD_REJECT_LAST_REASON = s.createReason p n w
      ∧ Out.response p .invalidInput 0 ([s.createReason p n w, (s.sess n).state.code] ++ leBytes 2 (s.sess n).gen)
        ∈ t.out := by
  refine answers_of_heard rfl h nofun fun l => ?_
  have hrefuse := sessCreate_of_refused (s := s.noted l) (p := p) (n := n) (w := w) hreason
  rw [hrefuse]
  exact sessRefuse_refuses s p n _ l hcode

/-! ### SESSION MODIFY, FENCE and GET (R61, R62, Table 3-4) -/

theorem sessModify_of_active {s : State} {p : CmdPath} {n : Nat} {m : SessModify} (h : s.modifyReason p n m = 0)
    (hactive : (s.sess n).state = .active) :
    s.sessModify p n m = (s.setSess n { s.sess n with modify := some m }).recount.sessReply p n 0 := by
  simp only [State.sessModify, h, hactive]

theorem sessionModify_keeps {s : State} {p : CmdPath} {n : Nat} {m : SessModify} (h : heard s p (.sessionModify p n m) .admin)
    (hreason : s.modifyReason p n m = 0) (hactive : (s.sess n).state = .active) :
    answers (.sessionModify p n m) s fun t => t.sess n = { s.sess n with modify := some m } := by
  refine answers_of_heard rfl h nofun fun l => ?_
  have hmodify := sessModify_of_active (s := s.noted l) (p := p) (m := m) hreason hactive
  rw [hmodify, ended_sess]
  simp

/-- A path of R59 reaches every session (R59). -/
theorem reaches_of_onR59 {s : State} {p : CmdPath} {n : Nat} (hn : n < sessionCount) (hpath : s.onR59 p = true) :
    (decide (sessionCount ≤ n) || (!s.onR59 p && (s.sess n).state != .free && (s.sess n).key.port != p.port)) = false := by
  simp [hpath, hn]

theorem sessFence_of_active {s : State} {p : CmdPath} {n : Nat} (hn : n < sessionCount) (hpath : s.onR59 p = true)
    (hactive : (s.sess n).state = .active) : s.sessFence p n =
      (s.setSess n { s.sess n with state := .fencing, fenceDue := true, modify := none }).recount.sessReply p n 0 := by
  have hreaches := reaches_of_onR59 hn hpath
  rw [hactive] at hreaches
  simp only [State.sessFence, hactive, hreaches, Bool.false_eq_true, if_false]

theorem sessionFence_fences {s : State} {p : CmdPath} {n : Nat} (h : heard s p (.sessionFence p n) .admin)
    (hn : n < sessionCount) (hpath : s.onR59 p = true) (hactive : (s.sess n).state = .active) :
    answers (.sessionFence p n) s fun t =>
      t.sess n = { s.sess n with state := .fencing, fenceDue := true, modify := none } := by
  refine answers_of_heard rfl h nofun fun l => ?_
  have hfence := sessFence_of_active (s := s.noted l) (p := p) hn hpath hactive
  rw [hfence, ended_sess]
  simp

theorem stateEvents_congr {s t : State} (hregs : t.regs = s.regs) (hsess : t.sessions = s.sessions)
    (hpoints : t.merge.points = s.merge.points) : t.stateEvents = s.stateEvents := by
  unfold State.stateEvents State.bit State.rd
  rw [hregs, hsess, hpoints]

/-- A response alone is no telemetry event (Table 16-2). -/
theorem count_of_mem_shownEvents_of_response {s t : State} {p : CmdPath} {rc : Rc} {ext : Nat} {data : List Nat}
    (hregs : t.regs = s.regs) (hout : newOut s t = [.response p rc ext data]) {e : Nat × Nat × Nat × Nat}
    (h : e ∈ shownEvents s t) : e.2.2.2 = 0 := by
  have hgrew : ∀ f i, grew s t f i = 0 := fun f i => by simp only [grew, State.rd, hregs, Nat.sub_self]
  simp only [shownEvents, hout, hgrew, drsLink, ndrLink, fipenChan, List.filterMap_cons, List.filterMap_nil, List.map_nil,
    List.nil_append, List.mem_append, List.mem_flatMap, List.mem_cons, List.not_mem_nil, or_false] at h
  obtain (⟨b, -, rfl | rfl | rfl⟩ | ⟨c, -, rfl | rfl | rfl⟩) | rfl | rfl | rfl := h <;> rfl

theorem teleCount_of_response {s t : State} {p : CmdPath} {rc : Rc} {ext : Nat} {data : List Nat}
    (hregs : t.regs = s.regs) (hsess : t.sessions = s.sessions) (hpoints : t.merge.points = s.merge.points)
    (hout : newOut s t = [.response p rc ext data]) : teleCount s t = t := by
  have hshown : (shownEvents s t).foldl (fun u e => u.tele e.1 e.2.1 e.2.2.1 e.2.2.2) t = t :=
    foldl_tele_of_counts_zero _ t fun _ => count_of_mem_shownEvents_of_response hregs hout
  have hbegin : t.stateEvents.filter (fun e => !s.stateEvents.contains e) = [] := by
    rw [stateEvents_congr hregs hsess hpoints]; simp
  unfold teleCount
  split
  · rfl
  · rw [hshown, hbegin]; rfl

theorem Within.regs {m : Nat} {s t : State} (h : Within m s t) (e : m.testBit 1 = false) : t.regs = s.regs := by
  simpa only [State.pick, e, cond_false] using congrArg State.regs h

theorem Within.points {m : Nat} {s t : State} (h : Within m s t) (e : m.testBit 120 = false) :
    t.merge.points = s.merge.points := by
  simpa only [State.pick, e, cond_false] using congrArg (fun u : State => u.merge.points) h

/-- A command that only responds leaves every register, its end included. -/
theorem ended_reply_regs (s : State) (l : List Stored) (p : CmdPath) (rc : Rc) (ext : Nat) (data : List Nat) :
    (s.ended ((s.noted l).reply p rc ext data)).regs = s.regs := by
  have hreply := reply_within (s.noted l) p rc ext data
  have hbw := bwCount_within s ((s.noted l).reply p rc ext data)
  have hout : newOut s (bwCount s ((s.noted l).reply p rc ext data)) = [.response p rc ext data] := by
    unfold newOut
    rw [hbw.out (by decide), reply_out]
    exact List.drop_left
  have hregs : (bwCount s ((s.noted l).reply p rc ext data)).regs = s.regs :=
    (hbw.regs (by decide)).trans (hreply.regs (by decide))
  have hcount := teleCount_of_response hregs ((hbw.sessions (by decide)).trans (hreply.sessions (by decide)))
    ((hbw.points (by decide)).trans (hreply.points (by decide))) hout
  exact (congrArg State.regs hcount).trans hregs

theorem sessGet_of_onR59 {s : State} {p : CmdPath} {n : Nat} (hn : n < sessionCount) (hpath : s.onR59 p = true) :
    s.sessGet p n = s.reply p .success 0 ([0, 0, 0, 0] ++ (s.sess n).view.flatMap (leBytes 4)) := by
  simp only [State.sessGet, reaches_of_onR59 hn hpath, Bool.false_eq_true, if_false]

theorem sessionGet_reads {s : State} {p : CmdPath} {n : Nat} (h : heard s p (.sessionGet p n) .admin)
    (hn : n < sessionCount) (hpath : s.onR59 p = true) : answers (.sessionGet p n) s fun t =>
      Out.response p .success 0 ([0, 0, 0, 0] ++ (s.sess n).view.flatMap (leBytes 4)) ∈ t.out ∧ t.sessions = s.sessions
        ∧ t.regs = s.regs := by
  refine answers_of_heard rfl h nofun fun l => ?_
  have hget := sessGet_of_onR59 (s := s.noted l) hn hpath
  rw [hget]
  exact ⟨mem_ended_out (response_mem_reply_out ..),
    (ended_sessions ..).trans ((reply_within ..).sessions (by decide)), ended_reply_regs ..⟩

/-! ### The end of a fence (R62) -/

theorem fenceDrainEnd_frees {s : State} {n : Nat} (hdrained : s.drained n = true) (hstate : (s.sess n).state = .fencing) :
    answers (.fenceDrainEnd n) s fun t => t.sess n = { gen := (s.sess n).gen } := by
  have hexec : exec (.fenceDrainEnd n) s = done s ((s.freeSession n).recount.sanitizeBlocks
      ((s.sess n).extents ++ (s.sess n).releasing)) := by
    change execFenceDrainEnd n s = _
    simp [execFenceDrainEnd, hdrained, hstate]
  refine answers_of_eq_done hexec ?_
  rw [ended_sess, (sanitizeBlocks_within ..).sess n (by decide), recount_sess]
  exact sess_setSess_self ..

/-- Settles O17: a session command that is heard ends in the change of its entry and the reply, or in the refusal (that
the first row of Table 3-5 that refuses gives the reason is the model's reading, log entry 23). -/
theorem sessionCommands : Obligations.SessionCommands := by
  refine ⟨?_, ?_, ?_, ?_, ?_⟩
  · exact fun s p n w hopen hnew haccepts =>
      ⟨sessionCreate_opens ⟨hopen, hnew, haccepts⟩, sessionCreate_refused ⟨hopen, hnew, haccepts⟩⟩
  · exact fun s p n m hopen hnew haccepts => sessionModify_keeps ⟨hopen, hnew, haccepts⟩
  · exact fun s p n hopen hnew haccepts => sessionFence_fences ⟨hopen, hnew, haccepts⟩
  · exact fun s p n hopen hnew haccepts => sessionGet_reads ⟨hopen, hnew, haccepts⟩
  · exact fun s n hdrained hstate => fenceDrainEnd_frees hdrained hstate

end Sys2Proof.Machine
end

section
/-! SUPPORT. Dynamic capacity (R51, Table 15-2): what each command does to the regions and to a session's extents, and
O36. -/

namespace Sys2Proof.Machine

open Sys2Proof

theorem ended_dc (s u : State) : (s.ended u).dc = u.dc := (settle_within s u).dc (by decide)

@[simp] theorem reply_dc (s : State) (p : CmdPath) (rc : Rc) (ext : Nat) (data : List Nat) :
    (s.reply p rc ext data).dc = s.dc := (reply_within ..).dc (by decide)

/-- A response stands in the transcript that its command answers. -/
theorem response_mem_ended_out (s u : State) (p : CmdPath) (rc : Rc) (ext : Nat) (data : List Nat) :
    Out.response p rc ext data ∈ (s.ended (u.reply p rc ext data)).out := mem_ended_out (response_mem_reply_out ..)

theorem ended_reply_sess (s u : State) (p : CmdPath) (rc : Rc) (ext : Nat) (data : List Nat) (n : Nat) :
    (s.ended (u.reply p rc ext data)).sess n = u.sess n := (ended_sess ..).trans (reply_sess ..)

theorem ended_reply_dc (s u : State) (p : CmdPath) (rc : Rc) (ext : Nat) (data : List Nat) :
    (s.ended (u.reply p rc ext data)).dc = u.dc := (ended_dc ..).trans (reply_dc ..)

/-! ### Commands that read -/

/-- The parts in which a command that only answers may differ. -/
def answeredParts : Nat := 0x3fffe00000000000000000000000000000000200000000000000000000000000000022

theorem ended_within {m : Nat} {s u : State} (h : Within m s u) (hend : endParts ||| m = m := by decide)
    (hqueue : m.testBit 0 = false := by decide) : Within m s (s.ended u) := by
  have hsettle : Within m s (settle s u) := (settle_within s u).on hend h
  have hpending : (settle s u).pending = s.pending := by
    simpa only [State.pick, hqueue, cond_false] using congrArg State.pending hsettle
  rwa [State.ended, ← hpending]

theorem ended_reply_onlyAnswered (s : State) (l : List Stored) (p : CmdPath) (rc : Rc) (ext : Nat) (data : List Nat) :
    onlyAnswered s (s.ended ((s.noted l).reply p rc ext data)) := by
  have hnoted : Within answeredParts s (s.noted l) := Within.on (m := answeredParts) (by rfl) (Nat.or_self _) .rfl
  exact ended_within ((reply_within ..).on (by decide) hnoted)

/-- A command whose work is its response answers that, and changes nothing else. -/
theorem answers_of_read {i : Instr} {s : State} {p : CmdPath} {c : PathClass} {f : State → State} {data : List Nat}
    (hexec : exec i s = done s (s.command p i c true f)) (h : heard s p i c) (hready : s.ready = true)
    (hf : ∀ l, f (s.noted l) = (s.noted l).reply p .success 0 data) :
    answers i s fun t => onlyAnswered s t ∧ Out.response p .success 0 data ∈ t.out := by
  refine answers_of_heard hexec h (fun _ => hready) fun l => ?_
  rw [hf]
  exact ⟨ended_reply_onlyAnswered .., response_mem_ended_out ..⟩

theorem getDynamicCapacityExtentList_reads {s : State} {p : CmdPath} {n : Nat} {b : List Binding}
    (h : heard s p (.getDynamicCapacityExtentList p) .any) (hready : s.ready = true) (hsess : s.cmdSession p = some (n, b)) :
    answers (.getDynamicCapacityExtentList p) s fun t => onlyAnswered s t ∧ ∃ d,
      Out.response p .success 0 (leBytes 4 ((s.sess n).extents.flatMap (ldExtent b)).length ++ d) ∈ t.out := by
  obtain ⟨t, ht, honly, hout⟩ := answers_of_read (i := .getDynamicCapacityExtentList p) rfl h hready fun l => by
    have hnoted : (s.noted l).cmdSession p = some (n, b) := hsess
    simp only [hnoted, noted_sess]
    rfl
  exact ⟨t, ht, honly, _, hout⟩

/-! ### The host's answers and releases -/

theorem addDynamicCapacityResponse_adds {s : State} {p : CmdPath} {n : Nat} {b : List Binding} {a l : List Extent}
    (h : heard s p (.addDynamicCapacityResponse p a) .any) (hready : s.ready = true)
    (hsess : s.cmdSession p = some (n, b)) (hmap : devExtents b a = some l)
    (hoffered : (blocksOf l).all (fun u => inExtents (s.sess n).offered u) = true) :
    answers (.addDynamicCapacityResponse p a) s fun t =>
      t.sess n = { s.sess n with extents := (s.sess n).extents ++ l, offered := [] }
        ∧ Out.response p .success 0 [] ∈ t.out := by
  refine answers_of_heard rfl h (fun _ => hready) fun k => ?_
  have hnoted : (s.noted k).cmdSession p = some (n, b) := hsess
  simp only [hnoted, hmap, noted_sess, hoffered, if_true]
  exact ⟨(ended_reply_sess ..).trans (sess_setSess_self ..), response_mem_ended_out ..⟩

/-- A release takes the blocks from the extents to those that are leaving; the snoops it starts change no session. -/
theorem startRelease_sess (s : State) (n : Nat) (us : List Nat) : (s.startRelease n us).sess n = { s.sess n with
    extents := dropBlocks (s.sess n).extents us, releasing := (s.sess n).releasing ++ joinBlocks us } :=
  ((releaseSnoops_within ..).sess n (by decide)).trans (sess_setSess_self ..)

theorem releaseDynamicCapacity_releases {s : State} {p : CmdPath} {n : Nat} {b : List Binding} {a l : List Extent}
    (h : heard s p (.releaseDynamicCapacity p a) .any) (hready : s.ready = true)
    (hsess : s.cmdSession p = some (n, b)) (hmap : devExtents b a = some l)
    (hadded : (blocksOf l).all (fun u => inExtents (s.sess n).extents u) = true) :
    answers (.releaseDynamicCapacity p a) s fun t =>
      (t.sess n).extents = dropBlocks (s.sess n).extents (blocksOf l)
        ∧ (t.sess n).releasing = (s.sess n).releasing ++ joinBlocks (blocksOf l)
        ∧ Out.response p .success 0 [] ∈ t.out := by
  refine answers_of_heard rfl h (fun _ => hready) fun k => ?_
  have hnoted : (s.noted k).cmdSession p = some (n, b) := hsess
  simp only [hnoted, hmap, noted_sess, hadded, if_true]
  rw [ended_reply_sess, startRelease_sess]
  exact ⟨rfl, rfl, response_mem_ended_out ..⟩

/-! ### The fabric manager's commands -/

theorem setDcRegionConfiguration_configures {s : State} {p : CmdPath} {r b l : Nat} {z : Bool}
    (h : heard s p (.setDcRegionConfiguration p r b l z) .mgmt) (hready : s.ready = true)
    (hnew : s.dc.find r ≠ some ⟨b, l, z⟩) (hl : l ≠ 0) (hfits : s.regionFits r b l = true)
    (hunused : (s.dc.find r).any s.regionUsed = false) :
    answers (.setDcRegionConfiguration p r b l z) s fun t =>
      t.dc.find r = some ⟨b, l, z⟩ ∧ Out.response p .success 0 [] ∈ t.out := by
  refine answers_of_heard rfl h (fun _ => hready) fun k => ?_
  have hold : ((s.noted k).dc.find r == some ⟨b, l, z⟩) = false := beq_eq_false_iff_ne.2 hnew
  have hfit : (s.noted k).regionFits r b l = true := hfits
  have hfree : ((s.noted k).dc.find r).any (s.noted k).regionUsed = false := hunused
  simp only [hold, hfit, hfree, hl, Bool.not_true, Bool.or_self, Bool.false_eq_true, if_false]
  rw [ended_reply_dc]
  exact ⟨Tab.find_put_self .., response_mem_ended_out ..⟩

theorem setDcRegionConfiguration_of_used {s : State} {p : CmdPath} {r b l : Nat} {z : Bool}
    (h : heard s p (.setDcRegionConfiguration p r b l z) .mgmt) (hready : s.ready = true)
    (hnew : s.dc.find r ≠ some ⟨b, l, z⟩) (hused : (s.dc.find r).any s.regionUsed = true) :
    answers (.setDcRegionConfiguration p r b l z) s fun t => t.dc = s.dc ∧ Out.response p .invalidInput 0 [] ∈ t.out := by
  refine answers_of_heard rfl h (fun _ => hready) fun k => ?_
  have hold : ((s.noted k).dc.find r == some ⟨b, l, z⟩) = false := beq_eq_false_iff_ne.2 hnew
  have hheld : ((s.noted k).dc.find r).any (s.noted k).regionUsed = true := hused
  simp only [hold, hheld, Bool.or_true, Bool.false_eq_true, if_false, if_true]
  rw [ended_reply_dc]
  exact ⟨rfl, response_mem_ended_out ..⟩

theorem initiateDynamicCapacityAdd_offers {s : State} {p : CmdPath} {n r : Nat} {x : DcRegion} {l : List Extent}
    (h : heard s p (.initiateDynamicCapacityAdd p n r l) .mgmt) (hready : s.ready = true) (hregion : s.dc.find r = some x)
    (hok : s.addOk n x l = true) :
    answers (.initiateDynamicCapacityAdd p n r l) s fun t =>
      t.sess n = { s.sess n with offered := (s.sess n).offered ++ l } ∧ Out.response p .success 0 [] ∈ t.out := by
  refine answers_of_heard rfl h (fun _ => hready) fun k => ?_
  have hfound : (s.noted k).dc.find r = some x := hregion
  have hadd : (s.noted k).addOk n x l = true := hok
  simp only [hfound, hadd, Bool.not_true, Bool.false_eq_true, if_false, noted_sess]
  rw [ended_reply_sess, (event_within ..).sess n (by decide)]
  exact ⟨sess_setSess_self .., response_mem_ended_out ..⟩

theorem initiateDynamicCapacityRelease_releases {s : State} {p : CmdPath} {n : Nat} {l : List Extent}
    (h : heard s p (.initiateDynamicCapacityRelease p n l) .mgmt) (hready : s.ready = true) (hsome : blocksOf l ≠ [])
    (hadded : (blocksOf l).all (fun u => inExtents (s.sess n).extents u) = true) :
    answers (.initiateDynamicCapacityRelease p n l) s fun t =>
      (t.sess n).extents = dropBlocks (s.sess n).extents (blocksOf l)
        ∧ (t.sess n).releasing = (s.sess n).releasing ++ joinBlocks (blocksOf l)
        ∧ Out.response p .success 0 [] ∈ t.out := by
  refine answers_of_heard rfl h (fun _ => hready) fun k => ?_
  simp only [hsome, hadded, noted_sess, Bool.not_true, decide_false, Bool.or_self, Bool.false_eq_true, if_false]
  rw [ended_reply_sess, (event_within ..).sess n (by decide), startRelease_sess]
  exact ⟨rfl, rfl, response_mem_ended_out ..⟩

/-- Settles O36: each command that is heard, under its own conditions, ends in the change of the regions or extents and
its response (that a release by the fabric manager acts directly, and that the fabric manager's commands need Ready, are
the model's choices, log entries 29 and 30). -/
theorem dynamicCapacityMoves : Obligations.DynamicCapacityMoves := by
  refine ⟨?_, ?_, ?_, ?_, ?_, ?_, ?_, ?_⟩
  · exact fun s p h hready => answers_of_read rfl h hready fun _ => rfl
  · exact fun s p h hready => answers_of_read rfl h hready fun _ => rfl
  · exact fun s p n b h hready hsess => getDynamicCapacityExtentList_reads h hready hsess
  · exact fun s p n b a l h hready hsess hmap hoffered => addDynamicCapacityResponse_adds h hready hsess hmap hoffered
  · exact fun s p n b a l h hready hsess hmap hadded => releaseDynamicCapacity_releases h hready hsess hmap hadded
  · exact fun s p r b l z h hready hnew =>
      ⟨fun hl hfits hunused => setDcRegionConfiguration_configures h hready hnew hl hfits hunused,
        fun hused => setDcRegionConfiguration_of_used h hready hnew hused⟩
  · exact fun s p n r x l h hready hregion hok => initiateDynamicCapacityAdd_offers h hready hregion hok
  · exact fun s p n l h hready hsome hadded => initiateDynamicCapacityRelease_releases h hready hsome hadded

end Sys2Proof.Machine
end

section
/-! SUPPORT. The frame of each command of host messages, links, ports, sessions and queues (R45, R53, R63, R65, R66,
R77), and O51. `pick_<parts>` says which parts of the state a mask names. The side conditions of `Framed` are written
out, since each default tactic of a lemma of this text waits for the kernel to have checked all that stands before. -/

namespace Sys2Proof.Machine

open Sys2Proof

/-! ### Messages of the host -/

/-- The parts that a message without data may change. -/
def receiveParts : Nat := 0x2800000000000000000000000000000000100008000007fbcc00000000000000022

theorem pick_receiveParts (s t : State) : State.pick receiveParts s t = { s with
    regs := t.regs, out := t.out, events := t.events, sessions := t.sessions,
    chron := { s.chron with
      perm := t.chron.perm, ring := t.chron.ring, buffer := t.chron.buffer, nextSerial := t.chron.nextSerial,
      runs := t.chron.runs, dropped := t.chron.dropped },
    merge := { s.merge with capoCredits := t.merge.capoCredits },
    telem := { s.telem with counts := t.telem.counts, bwRead := t.telem.bwRead } } := rfl

theorem receive_framed (s : State) (m : M2S) (op : MemOp) : Framed receiveParts receiveFields s (s.receive m op) :=
  Framed.rfl.via (receive_within ..) (by apply receive_regs <;> repeat constructor) rfl

theorem memRd_framed (m : M2S) : EndsFramed receiveParts receiveFields (.memRd m) :=
  fun _ => ⟨_, rfl, receive_framed ..⟩

theorem memRdData_framed (m : M2S) : EndsFramed receiveParts receiveFields (.memRdData m) :=
  fun _ => ⟨_, rfl, receive_framed ..⟩

theorem memInv_framed (m : M2S) : EndsFramed receiveParts receiveFields (.memInv m) :=
  fun _ => ⟨_, rfl, receive_framed ..⟩

theorem memInvNt_framed (m : M2S) : EndsFramed receiveParts receiveFields (.memInvNt m) :=
  fun _ => ⟨_, rfl, receive_framed ..⟩

theorem memClnEvct_framed (m : M2S) : EndsFramed receiveParts receiveFields (.memClnEvct m) :=
  fun _ => ⟨_, rfl, receive_framed ..⟩

/-- The register fields that a conflict may write: those of a message without data, and the count of conflicts. -/
def biConflictFields : List Field := [
  Reg.CHRON_DROP_CNT, Reg.CHRON_REPEAT_CNT, Reg.DIR_CONFLICT_CNT, Reg.SESS_HELD, Reg.SESS_HOLD_CNT,
  Reg.SESS_ORPHAN_CNT, Reg.SESS_SPILL_STATUS_SHARED_FREE, Reg.TELEM_BLK_OVF_OVF]

theorem biConflict_framed (m : M2S) : EndsFramed receiveParts biConflictFields (.biConflict m) := fun s => by
  refine ⟨_, rfl, ?_⟩
  have hcount : Framed receiveParts biConflictFields s
      (if s.hears m.port m.link then s.bump Reg.DIR_CONFLICT_CNT else s) :=
    .ite (fun _ => Framed.rfl.via (bump_within ..) (bump_regs _ _ _ _ _ (by decide)) rfl) fun _ => .rfl
  exact hcount.via (receive_within ..) (by apply receive_regs <;> repeat constructor) rfl

/-- The parts that a speculative read may change. -/
def specReadParts : Nat := 0x2800000000000000000000000000001000100000000000000000000000000000022

theorem pick_specReadParts (s t : State) : State.pick specReadParts s t = { s with
    regs := t.regs, out := t.out,
    merge := { s.merge with capoCredits := t.merge.capoCredits },
    cache := { s.cache with rc := t.cache.rc },
    telem := { s.telem with counts := t.telem.counts, bwRead := t.telem.bwRead } } := rfl

theorem memSpecRd_framed (m : M2S) (class4 : Bool) :
    EndsFramed specReadParts [Reg.CACHE_RC_FILL_CNT, Reg.TELEM_BLK_OVF_OVF] (.memSpecRd m class4) := fun s => by
  refine ⟨_, rfl, .ite (fun _ => .rfl) fun _ => ?_⟩
  extract_lets s1
  have h1 : Framed specReadParts [Reg.CACHE_RC_FILL_CNT, Reg.TELEM_BLK_OVF_OVF] s s1 :=
    Framed.rfl.quiet (returnCredit_within ..) rfl rfl
  split
  · exact h1
  · exact h1.via (specFill_within ..) (specFill_regs _ _ _ (by decide)) rfl

/-- The parts that a write of the host may change, at its arrival or at its passage. -/
def writeParts : Nat := 0x3fffe0000000000001ffffffffffffe07fffc1ffe38000007ffffffff0000000000022

theorem pick_writeParts (s t : State) : State.pick writeParts s t = { s with
    regs := t.regs, out := t.out, keep := t.keep, chron := t.chron, events := t.events, sessions := t.sessions,
    reqs := t.reqs, nextRid := t.nextRid, merge := t.merge, cache := t.cache, sched := t.sched, xlat := t.xlat,
    err := t.err, telem := t.telem } := rfl

/-- The register fields that the arrival of a write may write. -/
def receiveWriteFields : List Field := [
  Reg.CHRON_DROP_CNT, Reg.CHRON_REPEAT_CNT, Reg.DIR_FWD_CNT, Reg.DIR_SLICE_STATUS_ENTRIES,
  Reg.ERR_BUCKET_STATUS_LEVEL, Reg.ERR_BUCKET_STATUS_OVF_CNT, Reg.ERR_CORR_VOL_CNT, Reg.ERR_HEALTH_EVENT_BUCKET_OVF,
  Reg.ERR_HEALTH_EVENT_POISON_FULL, Reg.ERR_HEALTH_EVENT_UNCORR, Reg.ERR_POISON_LIST_OVERFLOW,
  Reg.ERR_POISON_LIST_RECORDS, Reg.ERR_UNCORR_CNT, Reg.MERGE_MERGE_CNT, Reg.MERGE_PARTIAL_LINES,
  Reg.MERGE_SETTLE_REFETCH_CNT, Reg.MERGE_SETTLING_LINES, Reg.MERGE_STATUS_DIRTY, Reg.MERGE_STATUS_LIMIT,
  Reg.PORT_INFLIGHT_LINK0, Reg.PORT_INFLIGHT_LINK1, Reg.PORT_INFLIGHT_PEAK_LINK0, Reg.PORT_INFLIGHT_PEAK_LINK1,
  Reg.SESS_HELD, Reg.SESS_HOLD_CNT, Reg.SESS_ORPHAN_CNT, Reg.SESS_SPILL_STATUS_SHARED_FREE, Reg.TELEM_BLK_OVF_OVF,
  Reg.XLAT_PINNED_LINES]

theorem receiveWrite_framed (s : State) (m : M2S) (op : MemOp) (data : LineData) (be : Mask) (poison : Bool) :
    Framed writeParts receiveWriteFields s (s.receiveWrite m op data be poison) :=
  Framed.rfl.via (receiveWrite_within ..) (by apply receiveWrite_regs <;> repeat constructor) rfl

theorem memWr_framed (m : M2S) (data : LineData) (poison : Bool) :
    EndsFramed writeParts receiveWriteFields (.memWr m data poison) :=
  fun _ => ⟨_, rfl, receiveWrite_framed ..⟩

theorem memWrPtl_framed (m : M2S) (data : LineData) (be : Mask) (poison : Bool) :
    EndsFramed writeParts receiveWriteFields (.memWrPtl m data be poison) :=
  fun _ => ⟨_, rfl, receiveWrite_framed ..⟩

/-! ### Answers to snoops -/

/-- The parts that an answer to a snoop, or its timeout, may change. -/
def snoopAnswerParts : Nat := 0x280000000000000000000000000807fffc000018000007fbcc00000000000000022

theorem pick_snoopAnswerParts (s t : State) : State.pick snoopAnswerParts s t = { s with
    regs := t.regs, out := t.out, events := t.events, sessions := t.sessions, reqs := t.reqs, cache := t.cache,
    chron := { s.chron with
      perm := t.chron.perm, ring := t.chron.ring, buffer := t.chron.buffer, nextSerial := t.chron.nextSerial,
      runs := t.chron.runs, dropped := t.chron.dropped },
    sched := { s.sched with jobs := t.sched.jobs },
    telem := { s.telem with counts := t.telem.counts, bwRead := t.telem.bwRead } } := rfl

/-- The register fields that an answer to a snoop may write. -/
def biRspFields : List Field := [
  Reg.CACHE_FWD_CNT, Reg.CACHE_HIT_CNT, Reg.CACHE_MISS_CNT, Reg.CHRON_DROP_CNT, Reg.CHRON_REPEAT_CNT,
  Reg.DIR_BCAST_CNT, Reg.DIR_BISNP_CNT, Reg.DIR_EVBUF_USED, Reg.DIR_EVICT_CNT, Reg.DIR_HOST_OVF_ENTRIES,
  Reg.DIR_HOST_STATUS_ENTRIES, Reg.DIR_RESOLVE_WAIT_CNT, Reg.DIR_SLICE_STATUS_ENTRIES, Reg.ERR_BUCKET_STATUS_LEVEL,
  Reg.ERR_BUCKET_STATUS_OVF_CNT, Reg.ERR_CORR_VOL_CNT, Reg.ERR_HEALTH_EVENT_BUCKET_OVF, Reg.PORT_INFLIGHT_LINK0,
  Reg.PORT_INFLIGHT_LINK1, Reg.PORT_INFLIGHT_PEAK_LINK0, Reg.PORT_INFLIGHT_PEAK_LINK1, Reg.PROT_INTEG_FAIL_CNT,
  Reg.RANGE_INTEG_FAIL_CNT, Reg.TELEM_BLK_OVF_OVF]

theorem snoopAnswer_framed {l : List Field} {s t : State} (sess line : Nat) (kept : Bool) (hl : biRspFields ⊆ l)
    (h : Framed snoopAnswerParts l s t) : Framed snoopAnswerParts l s (t.snoopAnswer sess line kept) :=
  h.via (snoopAnswer_within ..) (by apply snoopAnswer_regs <;> exact hl (by repeat constructor)) rfl

theorem biRsp_framed (port link sess line : Nat) (answer : BiAnswer) :
    EndsFramed snoopAnswerParts biRspFields (.biRsp port link sess line answer) := fun _ =>
  ⟨_, rfl, .ite (fun _ => snoopAnswer_framed _ _ _ (List.Subset.refl _) .rfl) fun _ => .rfl⟩

/-- The timeout of a snoop: a count, a record, and the answer without data that stands for it (R62, R185). -/
theorem snoopTimedOut_framed {l : List Field} {f : Field} {s : State} (code sess line : Nat) (hf : f ∈ l)
    (hl : biRspFields ⊆ l) : Framed snoopAnswerParts l s
      (((s.bump f).snoopRecord code sess line).snoopAnswer sess line false) :=
  snoopAnswer_framed _ _ _ hl ((Framed.rfl.via (bump_within ..) (bump_regs _ _ _ _ _ hf) rfl).via
    (snoopRecord_within ..) (by apply snoopRecord_regs <;> exact hl (by repeat constructor)) rfl)

/-- The register fields that the timeout of a fence's snoop may write. -/
def fenceBiTimeoutFields : List Field := [
  Reg.CACHE_FWD_CNT, Reg.CACHE_HIT_CNT, Reg.CACHE_MISS_CNT, Reg.CHRON_DROP_CNT, Reg.CHRON_REPEAT_CNT,
  Reg.DIR_BCAST_CNT, Reg.DIR_BISNP_CNT, Reg.DIR_EVBUF_USED, Reg.DIR_EVICT_CNT, Reg.DIR_HOST_OVF_ENTRIES,
  Reg.DIR_HOST_STATUS_ENTRIES, Reg.DIR_RESOLVE_WAIT_CNT, Reg.DIR_SLICE_STATUS_ENTRIES, Reg.ERR_BUCKET_STATUS_LEVEL,
  Reg.ERR_BUCKET_STATUS_OVF_CNT, Reg.ERR_CORR_VOL_CNT, Reg.ERR_HEALTH_EVENT_BUCKET_OVF, Reg.PORT_INFLIGHT_LINK0,
  Reg.PORT_INFLIGHT_LINK1, Reg.PORT_INFLIGHT_PEAK_LINK0, Reg.PORT_INFLIGHT_PEAK_LINK1, Reg.PROT_INTEG_FAIL_CNT,
  Reg.RANGE_INTEG_FAIL_CNT, Reg.SESS_BI_TIMEOUT_CNT, Reg.TELEM_BLK_OVF_OVF]

theorem fenceBiTimeout_framed (sess line : Nat) :
    EndsFramed snoopAnswerParts fenceBiTimeoutFields (.fenceBiTimeout sess line) := fun _ =>
  ⟨_, rfl, .ite (fun _ => snoopTimedOut_framed _ _ _ (by repeat constructor) (List.Sublist.subset (by decide)))
    fun _ => .rfl⟩

/-- The register fields that the timeout of another snoop may write. -/
def snoopTimeoutFields : List Field := [
  Reg.CACHE_FWD_CNT, Reg.CACHE_HIT_CNT, Reg.CACHE_MISS_CNT, Reg.CHRON_DROP_CNT, Reg.CHRON_REPEAT_CNT,
  Reg.DIR_BCAST_CNT, Reg.DIR_BISNP_CNT, Reg.DIR_BI_TIMEOUT_CNT, Reg.DIR_EVBUF_USED, Reg.DIR_EVICT_CNT,
  Reg.DIR_HOST_OVF_ENTRIES, Reg.DIR_HOST_STATUS_ENTRIES, Reg.DIR_RESOLVE_WAIT_CNT, Reg.DIR_SLICE_STATUS_ENTRIES,
  Reg.ERR_BUCKET_STATUS_LEVEL, Reg.ERR_BUCKET_STATUS_OVF_CNT, Reg.ERR_CORR_VOL_CNT, Reg.ERR_HEALTH_EVENT_BUCKET_OVF,
  Reg.PORT_INFLIGHT_LINK0, Reg.PORT_INFLIGHT_LINK1, Reg.PORT_INFLIGHT_PEAK_LINK0, Reg.PORT_INFLIGHT_PEAK_LINK1,
  Reg.PROT_INTEG_FAIL_CNT, Reg.RANGE_INTEG_FAIL_CNT, Reg.TELEM_BLK_OVF_OVF]

theorem snoopTimeout_framed (sess line : Nat) :
    EndsFramed snoopAnswerParts snoopTimeoutFields (.snoopTimeout sess line) := fun _ =>
  ⟨_, rfl, .ite (fun _ => snoopTimedOut_framed _ _ _ (by repeat constructor) (List.Sublist.subset (by decide)))
    fun _ => .rfl⟩

/-- The parts that returned snoop credits may change. -/
def snoopCreditParts : Nat := 0x280000000000000000000000000007fffc000000000000000000000000000000022

theorem pick_snoopCreditParts (s t : State) : State.pick snoopCreditParts s t = { s with
    regs := t.regs, out := t.out, cache := t.cache,
    telem := { s.telem with counts := t.telem.counts, bwRead := t.telem.bwRead } } := rfl

theorem bisnpCreditReturn_framed (port link count : Nat) :
    EndsFramed snoopCreditParts [Reg.DIR_BISNP_CNT, Reg.TELEM_BLK_OVF_OVF] (.bisnpCreditReturn port link count) :=
  fun _ => ⟨_, rfl, .ite
    (fun _ => (Framed.rfl.set rfl rfl).via (pushSnoops_within _) (pushSnoops_regs _ (by decide)) rfl) fun _ => .rfl⟩

/-! ### Links and ports -/

/-- The parts that an integrity failure of a link may change. -/
def ideFailureParts : Nat := 0x2800000000000000000000000000000000000012000007fbcc00000000000000022

theorem pick_ideFailureParts (s t : State) : State.pick ideFailureParts s t = { s with
    regs := t.regs, out := t.out, events := t.events, reqs := t.reqs,
    chron := { s.chron with
      perm := t.chron.perm, ring := t.chron.ring, buffer := t.chron.buffer, nextSerial := t.chron.nextSerial,
      runs := t.chron.runs, dropped := t.chron.dropped },
    prot := { s.prot with ide := t.prot.ide },
    telem := { s.telem with counts := t.telem.counts, bwRead := t.telem.bwRead } } := rfl

/-- The register fields that an integrity failure of a link may write. -/
def ideIntegrityFailureFields : List Field := [
  Reg.CHRON_DROP_CNT, Reg.CHRON_REPEAT_CNT, Reg.PORT_EVENT_IDE_FAIL, Reg.PORT_IDE_FAIL_CNT,
  Reg.PORT_LINK_STATUS0_IDE, Reg.PORT_LINK_STATUS1_IDE, Reg.TELEM_BLK_OVF_OVF]

theorem ideIntegrityFailure_framed (port link : Nat) :
    EndsFramed ideFailureParts ideIntegrityFailureFields (.ideIntegrityFailure port link) := fun s => by
  refine ⟨_, rfl, .ite (fun _ => ?_) fun _ => .rfl⟩
  extract_lets s1 s2
  have h1 : Framed ideFailureParts ideIntegrityFailureFields s s1 :=
    ((Framed.rfl.via (setIde_within ..) (by apply setIde_regs <;> repeat constructor) rfl).via (bump_within ..)
      (bump_regs _ _ _ _ _ (by decide)) rfl).via (setBit_within ..) (setBit_regs _ _ _ _ _ (by decide)) rfl
  have h2 : Framed ideFailureParts ideIntegrityFailureFields s s2 :=
    (h1.quiet (discardLink_within ..) rfl rfl).quiet (loseKeys_within ..) rfl rfl
  exact h2.via (event_within ..) (by apply event_regs <;> repeat constructor) rfl

/-- The parts that the loss of a link may change. -/
def linkDownParts : Nat := 0x1c00280000000000000000000000000007fffc00011a000000000000000000000000062

theorem pick_linkDownParts (s t : State) : State.pick linkDownParts s t = { s with
    regs := t.regs, out := t.out, msixEn := t.msixEn, sessions := t.sessions, reqs := t.reqs,
    decoders := t.decoders, cache := t.cache, cfgSpace := t.cfgSpace, bar0 := t.bar0, d3 := t.d3,
    prot := { s.prot with ide := t.prot.ide },
    telem := { s.telem with counts := t.telem.counts, bwRead := t.telem.bwRead } } := rfl

/-- The register fields that the loss of a link may write. -/
def linkDownFields : List Field := [
  Reg.PORT_EVENT_LINK_DOWN, Reg.PORT_LINKDOWN_CNT, Reg.PORT_LINK_STATUS0_FLIT, Reg.PORT_LINK_STATUS0_IDE,
  Reg.PORT_LINK_STATUS0_RATE, Reg.PORT_LINK_STATUS0_UP, Reg.PORT_LINK_STATUS0_WIDTH, Reg.PORT_LINK_STATUS1_FLIT,
  Reg.PORT_LINK_STATUS1_IDE, Reg.PORT_LINK_STATUS1_RATE, Reg.PORT_LINK_STATUS1_UP, Reg.PORT_LINK_STATUS1_WIDTH,
  Reg.SESS_SPILL_STATUS_SHARED_FREE, Reg.TELEM_BLK_OVF_OVF]

theorem linkDown_framed (port link : Nat) : EndsFramed linkDownParts linkDownFields (.linkDown port link) := fun _ =>
  ⟨_, rfl, .ite (fun _ => Framed.rfl.via (linkGone_within ..) (by apply linkGone_regs <;> repeat constructor) rfl)
    fun _ => .rfl⟩

/-- The parts that a reset of a port may change. -/
def perstParts : Nat := 0x1ffffe0000000000000000000000000007fffc00011ffffff80000000000000000000e2

theorem pick_perstParts (s t : State) : State.pick perstParts s t = { s with
    regs := t.regs, out := t.out, msixEn := t.msixEn, perst := t.perst, prot := t.prot, sessions := t.sessions,
    reqs := t.reqs, decoders := t.decoders, cache := t.cache, telem := t.telem, cfgSpace := t.cfgSpace,
    bar0 := t.bar0, d3 := t.d3 } := rfl

/-- The register fields that a reset of a port may write. -/
def perstNAssertFields : List Field := [
  Reg.PORT_EVENT_LINK_DOWN, Reg.PORT_LINKDOWN_CNT, Reg.PORT_LINK_STATUS0_FLIT, Reg.PORT_LINK_STATUS0_IDE,
  Reg.PORT_LINK_STATUS0_RATE, Reg.PORT_LINK_STATUS0_UP, Reg.PORT_LINK_STATUS0_WIDTH, Reg.PORT_LINK_STATUS1_FLIT,
  Reg.PORT_LINK_STATUS1_IDE, Reg.PORT_LINK_STATUS1_RATE, Reg.PORT_LINK_STATUS1_UP, Reg.PORT_LINK_STATUS1_WIDTH,
  Reg.PORT_MODE_STATUS_BIFURCATE, Reg.SESS_SPILL_STATUS_SHARED_FREE, Reg.TELEM_BLK_OVF_OVF]

theorem perstNAssert_framed (port lowNs : Nat) :
    EndsFramed perstParts perstNAssertFields (.perstNAssert port lowNs) := fun s => by
  refine ⟨_, rfl, .ite (fun _ => ?_) fun _ => .rfl⟩
  have hgone {t : State} (h : Framed perstParts perstNAssertFields s t) (link : Nat) :
      Framed perstParts perstNAssertFields s (if t.linkUp port link then t.linkGone port link else t) :=
    .ite (fun _ => h.via (linkGone_within ..) (by apply linkGone_regs <;> repeat constructor) rfl) fun _ => h
  extract_lets s1 s2 s3 s4 p s5
  have h2 : Framed perstParts perstNAssertFields s s2 := hgone (hgone .rfl 0) 1
  have h4 : Framed perstParts perstNAssertFields s s4 :=
    ((h2.quiet (loseKeys_within ..) rfl rfl).quiet (loseKeys_within ..) rfl rfl).quiet (resetConfig_within ..) rfl rfl
  clear_value s4
  have h5 : Framed perstParts perstNAssertFields s s5 := h4.set rfl rfl
  exact h5.wr (by decide) rfl

/-- The parts that the end of a port's reset may change. -/
def perstEndParts : Nat := 0x28000000000000000000000000000000000000000000000000000000000000000a2

theorem pick_perstEndParts (s t : State) : State.pick perstEndParts s t = { s with
    regs := t.regs, out := t.out, perst := t.perst,
    telem := { s.telem with counts := t.telem.counts, bwRead := t.telem.bwRead } } := rfl

theorem perstNDeassert_framed (port : Nat) :
    EndsFramed perstEndParts [Reg.TELEM_BLK_OVF_OVF] (.perstNDeassert port) := fun _ =>
  ⟨_, rfl, Framed.rfl.set rfl rfl⟩

theorem pick_endParts (s t : State) : State.pick endParts s t = { s with
    regs := t.regs, out := t.out,
    telem := { s.telem with counts := t.telem.counts, bwRead := t.telem.bwRead } } := rfl

/-- The register fields that a link may write as it comes up. -/
def linkUpFields : List Field := [
  Reg.PORT_EVENT_RATE_FALLBACK, Reg.PORT_EVENT_WIDTH_DEGRADED, Reg.PORT_LINK_STATUS0_FLIT,
  Reg.PORT_LINK_STATUS0_IDE, Reg.PORT_LINK_STATUS0_RATE, Reg.PORT_LINK_STATUS0_UP, Reg.PORT_LINK_STATUS0_WIDTH,
  Reg.PORT_LINK_STATUS1_FLIT, Reg.PORT_LINK_STATUS1_IDE, Reg.PORT_LINK_STATUS1_RATE, Reg.PORT_LINK_STATUS1_UP,
  Reg.PORT_LINK_STATUS1_WIDTH, Reg.PORT_MODE_STATUS_MODE, Reg.PORT_MODE_STATUS_MODE_PENDING, Reg.TELEM_BLK_OVF_OVF]

theorem linkUp_framed (port link rate width flit : Nat) :
    EndsFramed endParts linkUpFields (.linkUp port link rate width flit) := fun s => by
  refine ⟨_, rfl, .ite (fun _ => ?_) fun _ => .rfl⟩
  have hflag {t : State} (h : Framed endParts linkUpFields s t) (c : Prop) [Decidable c] {f : Field}
      (hf : f ∈ linkUpFields) : Framed endParts linkUpFields s (if c then t.setBit f true port else t) :=
    .ite (fun _ => h.via (setBit_within ..) (setBit_regs _ _ _ _ _ hf) rfl) fun _ => h
  extract_lets s1 s2 s3 n
  have h1 : Framed endParts linkUpFields s s1 :=
    (Framed.rfl.via (setLink_within ..) (by apply setLink_regs <;> repeat constructor) rfl).via (applyMode_within ..)
      (by apply applyMode_regs <;> repeat constructor) rfl
  have h3 : Framed endParts linkUpFields s s3 := hflag (hflag h1 _ (by decide)) _ (by decide)
  exact (h3.quiet (emit_within ..) rfl rfl).quiet (emit_within ..) rfl rfl

/-- The register fields that a write of a port's configuration may write. -/
def portCfgWriteFields : List Field := [
  Reg.PORT_CFG_BIFURCATE, Reg.PORT_CFG_FLIT68_EN, Reg.PORT_CFG_LOFLIT_EN, Reg.PORT_CFG_MAX_RATE, Reg.PORT_CFG_MODE,
  Reg.PORT_EVENT_MODE_REJECT, Reg.PORT_MODE_STATUS_MODE_PENDING, Reg.TELEM_BLK_OVF_OVF]

theorem portCfgWrite_framed (port : Nat) (v : Word) :
    EndsFramed endParts portCfgWriteFields (.portCfgWrite port v) := fun s => by
  refine ⟨_, rfl, .ite (fun _ => .rfl) fun _ => .ite (fun _ => ?reject) fun _ => ?take⟩
  case reject => exact Framed.rfl.via (setBit_within ..) (setBit_regs _ _ _ _ _ (by decide)) rfl
  case take =>
    extract_lets s1 s2
    have h2 : Framed endParts portCfgWriteFields s s2 :=
      ((((Framed.rfl.wr (by decide) rfl).wr (by decide) rfl).wr (by decide) rfl).wr (by decide) rfl).wr
        (by decide) rfl
    exact h2.via (setBit_within ..) (setBit_regs _ _ _ _ _ (by decide)) rfl

/-- The parts that a write which asks for the clearing of counters may change. -/
def clearParts : Nat := 0x280000000000000000000000000000000000000000000000000000000000000002a

theorem pick_clearParts (s t : State) : State.pick clearParts s t = { s with
    regs := t.regs, clears := t.clears, out := t.out,
    telem := { s.telem with counts := t.telem.counts, bwRead := t.telem.bwRead } } := rfl

theorem askClear_framed {l : List Field} {s : State} (c : Clear) : Framed clearParts l s (s.askClear c) :=
  Framed.rfl.quiet (askClear_within ..) rfl rfl

theorem portCntClr_framed (port : Nat) (v : Word) :
    EndsFramed clearParts [Reg.TELEM_BLK_OVF_OVF] (.portCntClr port v) := fun _ =>
  ⟨_, rfl, .ite (fun _ => askClear_framed _) fun _ => .rfl⟩

theorem sessCntClr_framed (v : Word) : EndsFramed clearParts [Reg.TELEM_BLK_OVF_OVF] (.sessCntClr v) := fun _ =>
  ⟨_, rfl, .ite (fun _ => askClear_framed _) fun _ => .rfl⟩

theorem sessQCntClr_framed (v : Word) : EndsFramed clearParts [Reg.TELEM_BLK_OVF_OVF] (.sessQCntClr v) := fun _ =>
  ⟨_, rfl, .ite (fun _ => askClear_framed _) fun _ => .rfl⟩

/-! ### Session commands and the end of a fence -/

/-- The command path adds the stored command and the answer to what the command's own work changes. -/
theorem command_framed {m : Nat} {l : List Field} {s : State} (p : CmdPath) (i : Instr) (c : PathClass)
    (needReady : Bool) {f : State → State} (hf : ∀ t, Framed m l t (f t))
    (hm : 0x200000000000000000000000000000020 ||| m = m) :
    Framed m l s (s.command p i c needReady f) :=
  ⟨command_within _ _ _ _ _ _ hm fun t => (hf t).1, command_regs _ _ _ _ _ _ fun t => (hf t).2⟩

/-- The parts that a session command may change. -/
def sessionParts : Nat := 0x2800000000000000000000000000000000200008000000000000000000000000022

theorem pick_sessionParts (s t : State) : State.pick sessionParts s t = { s with
    regs := t.regs, out := t.out, sessions := t.sessions,
    mbox := { s.mbox with stored := t.mbox.stored },
    telem := { s.telem with counts := t.telem.counts, bwRead := t.telem.bwRead } } := rfl

/-- The register fields that a session command may write. -/
def sessionFields : List Field := [
  Reg.SCHED_READ_SUM_SUM, Reg.SCHED_WRITE_SUM_SUM, Reg.SESS_CMD_REJECT_COUNT, Reg.SESS_CMD_REJECT_LAST_REASON,
  Reg.SESS_COUNT_ACTIVE, Reg.SESS_COUNT_FENCING, Reg.TELEM_BLK_OVF_OVF]

theorem sessionCreate_framed (p : CmdPath) (num : Nat) (w : SessWords) :
    EndsFramed sessionParts sessionFields (.sessionCreate p num w) := fun _ =>
  ⟨_, rfl, command_framed _ _ _ _ (fun _ =>
    Framed.rfl.via (sessCreate_within ..) (by apply sessCreate_regs <;> repeat constructor) rfl) (by decide)⟩

theorem sessionModify_framed (p : CmdPath) (num : Nat) (m : SessModify) :
    EndsFramed sessionParts sessionFields (.sessionModify p num m) := fun _ =>
  ⟨_, rfl, command_framed _ _ _ _ (fun _ =>
    Framed.rfl.via (sessModify_within ..) (by apply sessModify_regs <;> repeat constructor) rfl) (by decide)⟩

theorem sessionFence_framed (p : CmdPath) (num : Nat) :
    EndsFramed sessionParts sessionFields (.sessionFence p num) := fun _ =>
  ⟨_, rfl, command_framed _ _ _ _ (fun _ =>
    Framed.rfl.via (sessFence_within ..) (by apply sessFence_regs <;> repeat constructor) rfl) (by decide)⟩

/-- The parts that the reading of a session may change. -/
def sessionGetParts : Nat := 0x2800000000000000000000000000000000200000000000000000000000000000022

theorem pick_sessionGetParts (s t : State) : State.pick sessionGetParts s t = { s with
    regs := t.regs, out := t.out,
    mbox := { s.mbox with stored := t.mbox.stored },
    telem := { s.telem with counts := t.telem.counts, bwRead := t.telem.bwRead } } := rfl

theorem sessionGet_framed (p : CmdPath) (num : Nat) : EndsFramed sessionGetParts
    [Reg.SESS_CMD_REJECT_COUNT, Reg.SESS_CMD_REJECT_LAST_REASON, Reg.TELEM_BLK_OVF_OVF]
    (.sessionGet p num) := fun _ =>
  ⟨_, rfl, command_framed _ _ _ _ (fun _ =>
    Framed.rfl.via (sessGet_within ..) (by apply sessGet_regs <;> repeat constructor) rfl) (by decide)⟩

/-- The parts that the end of a fence may change. -/
def fenceParts : Nat := 0x28000000000000000000000000000f4004000008000000000000000000000000022

theorem pick_fenceParts (s t : State) : State.pick fenceParts s t = { s with
    regs := t.regs, out := t.out, sessions := t.sessions, internals := t.internals,
    cache := { s.cache with
      lines := t.cache.lines, host := t.cache.host, snoops := t.cache.snoops, clock := t.cache.clock,
      biCredits := t.cache.biCredits },
    telem := { s.telem with counts := t.telem.counts, bwRead := t.telem.bwRead } } := rfl

/-- The register fields that the end of a fence may write. -/
def fenceDrainEndFields : List Field := [
  Reg.DIR_BCAST_CNT, Reg.DIR_BISNP_CNT, Reg.DIR_EVBUF_USED, Reg.DIR_HOST_OVF_ENTRIES, Reg.DIR_HOST_STATUS_ENTRIES,
  Reg.DIR_SLICE_STATUS_ENTRIES, Reg.SCHED_READ_SUM_SUM, Reg.SCHED_WRITE_SUM_SUM, Reg.SESS_COUNT_ACTIVE,
  Reg.SESS_COUNT_FENCING, Reg.TELEM_BLK_OVF_OVF]

/-- Once the entry stands as the drain leaves it, the sums are counted anew and the blocks it gave up are released. -/
theorem drained_framed {s t : State} (h : Framed fenceParts fenceDrainEndFields s t) (gone : List Extent) :
    Framed fenceParts fenceDrainEndFields s (t.recount.sanitizeBlocks gone) :=
  (h.via (recount_within _) (by apply recount_regs <;> repeat constructor) rfl).via (sanitizeBlocks_within ..)
    (by apply sanitizeBlocks_regs <;> repeat constructor) rfl

theorem fenceDrainEnd_framed (sess : Nat) : EndsFramed fenceParts fenceDrainEndFields (.fenceDrainEnd sess) :=
    fun s => by
  refine ⟨_, rfl, .ite (fun _ => .rfl) fun _ => ?_⟩
  extract_lets e gone
  split
  · exact drained_framed (Framed.rfl.quiet (freeSession_within ..) rfl rfl) gone
  · exact drained_framed (Framed.rfl.quiet (setSess_within ..) rfl rfl) gone
  · exact .rfl

/-! ### Queues -/

/-- The register fields that the offer of a lane's oldest entry may write. -/
def allowanceCheckFields : List Field := [
  Reg.CACHE_FWD_CNT, Reg.CACHE_HIT_CNT, Reg.CACHE_MISS_CNT, Reg.CHRON_DROP_CNT, Reg.CHRON_REPEAT_CNT,
  Reg.DIR_BCAST_CNT, Reg.DIR_BISNP_CNT, Reg.DIR_EVBUF_USED, Reg.DIR_EVICT_CNT, Reg.DIR_HOST_OVF_ENTRIES,
  Reg.DIR_HOST_STATUS_ENTRIES, Reg.DIR_RESOLVE_WAIT_CNT, Reg.DIR_SLICE_STATUS_ENTRIES, Reg.ERR_BUCKET_STATUS_LEVEL,
  Reg.ERR_BUCKET_STATUS_OVF_CNT, Reg.ERR_CORR_VOL_CNT, Reg.ERR_HEALTH_EVENT_BUCKET_OVF,
  Reg.ERR_HEALTH_EVENT_POISON_FULL, Reg.ERR_HEALTH_EVENT_UNCORR, Reg.ERR_POISON_LIST_OVERFLOW,
  Reg.ERR_POISON_LIST_RECORDS, Reg.ERR_UNCORR_CNT, Reg.MERGE_MERGE_CNT, Reg.MERGE_PARTIAL_LINES,
  Reg.MERGE_SETTLE_REFETCH_CNT, Reg.MERGE_SETTLING_LINES, Reg.MERGE_SET_FULL_CNT, Reg.MERGE_STATUS_DIRTY,
  Reg.MERGE_STATUS_LIMIT, Reg.PORT_INFLIGHT_LINK0, Reg.PORT_INFLIGHT_LINK1, Reg.PORT_INFLIGHT_PEAK_LINK0,
  Reg.PORT_INFLIGHT_PEAK_LINK1, Reg.PROT_INTEG_FAIL_CNT, Reg.RANGE_INTEG_FAIL_CNT, Reg.SESS_Q_LOST_CNT,
  Reg.SESS_Q_PARITY_CNT, Reg.TELEM_BLK_OVF_OVF, Reg.XLAT_PINNED_LINES]

theorem allowanceCheck_framed (sess : Nat) (lane : Lane) (parity : BitVec 4) (hbm : HbmErr) (classF : Bool) :
    EndsFramed writeParts allowanceCheckFields (.allowanceCheck sess lane parity hbm classF) := fun s => by
  refine ⟨_, rfl, ?_⟩
  extract_lets e
  split
  · exact .rfl
  next d _ _ =>
  refine .ite (fun _ => .rfl) fun _ => .ite (fun _ => ?bad) fun _ => .ite (fun _ => ?untracked) fun _ => ?offered
  case bad => exact Framed.rfl.via (poisoned_within ..) (by apply poisoned_regs <;> repeat constructor) rfl
  case untracked => exact Framed.rfl.quiet (noteWait_within ..) rfl rfl
  case offered =>
    extract_lets free
    have hwrite (charge : Nat) : Framed writeParts allowanceCheckFields s (s.tryWrite sess d hbm classF charge) :=
      Framed.rfl.via (tryWrite_within ..) (by apply tryWrite_regs <;> repeat constructor) rfl
    refine .ite (fun _ => (Framed.rfl.quiet (stall_within ..) rfl rfl).quiet (noteWait_within ..) rfl rfl) fun _ => ?_
    split
    · exact Framed.rfl.via (passConflict_within ..) (by apply passConflict_regs <;> repeat constructor) rfl
    · exact hwrite _
    · exact hwrite _
    · exact Framed.rfl.via (passRead_within ..) (by apply passRead_regs <;> repeat constructor) rfl

/-- The parts that a refill of a queue may change. -/
def refillParts : Nat := 0x2800000000000000000000000000000000000008000007fbcc00000000000000022

theorem pick_refillParts (s t : State) : State.pick refillParts s t = { s with
    regs := t.regs, out := t.out, events := t.events, sessions := t.sessions,
    chron := { s.chron with
      perm := t.chron.perm, ring := t.chron.ring, buffer := t.chron.buffer, nextSerial := t.chron.nextSerial,
      runs := t.chron.runs, dropped := t.chron.dropped },
    telem := { s.telem with counts := t.telem.counts, bwRead := t.telem.bwRead } } := rfl

/-- The register fields that a refill of a queue may write. -/
def spillRefillFields : List Field := [
  Reg.CHRON_DROP_CNT, Reg.CHRON_REPEAT_CNT, Reg.ERR_BUCKET_STATUS_LEVEL, Reg.ERR_BUCKET_STATUS_OVF_CNT,
  Reg.ERR_CORR_VOL_CNT, Reg.ERR_HEALTH_EVENT_BUCKET_OVF, Reg.ERR_HEALTH_EVENT_UNCORR, Reg.ERR_UNCORR_CNT,
  Reg.SESS_SPILL_STATUS_SHARED_FREE, Reg.TELEM_BLK_OVF_OVF]

theorem spillLine_framed (s : State) (sess : Nat) (l : List Desc) (hbm : HbmErr) :
    Framed refillParts spillRefillFields s (s.spillLine sess l hbm).1 :=
  Framed.rfl.via (spillLine_within ..) (by apply spillLine_regs <;> repeat constructor) rfl

theorem spillRefill_framed (sess : Nat) (lane : Lane) (hbm : HbmErr) :
    EndsFramed refillParts spillRefillFields (.spillRefill sess lane hbm) := fun s => by
  refine ⟨_, rfl, ?_⟩
  extract_lets q
  refine .ite (fun _ => .rfl) fun _ => .ite (fun _ => ?spilled) fun _ => .ite (fun _ => ?overdrawn) fun _ => .rfl
  case spilled =>
    exact ((spillLine_framed ..).quiet (setSess_within ..) rfl rfl).via (freeShared_within ..)
      (freeShared_regs _ _ (by decide)) rfl
  case overdrawn => exact (spillLine_framed ..).quiet (setSess_within ..) rfl rfl

/-! ### Lookups and fills -/

/-- The parts that the return of a merge-buffer lookup may change. -/
def lookupParts : Nat := 0x2800000000000000003000000408000008000218000007fbcc00000000000000022

theorem pick_lookupParts (s t : State) : State.pick lookupParts s t = { s with
    regs := t.regs, out := t.out, events := t.events, sessions := t.sessions, reqs := t.reqs,
    chron := { s.chron with
      perm := t.chron.perm, ring := t.chron.ring, buffer := t.chron.buffer, nextSerial := t.chron.nextSerial,
      runs := t.chron.runs, dropped := t.chron.dropped },
    merge := { s.merge with entries := t.merge.entries },
    cache := { s.cache with fills := t.cache.fills },
    sched := { s.sched with jobs := t.sched.jobs, now := t.sched.now },
    err := { s.err with poison := t.err.poison, poisonLost := t.err.poisonLost },
    telem := { s.telem with counts := t.telem.counts, bwRead := t.telem.bwRead } } := rfl

/-- The register fields that the return of a merge-buffer lookup may write. -/
def mergeBufferLookupReturnFields : List Field := [
  Reg.CACHE_RC_HIT_CNT, Reg.CHRON_DROP_CNT, Reg.CHRON_REPEAT_CNT, Reg.ERR_BUCKET_STATUS_LEVEL,
  Reg.ERR_BUCKET_STATUS_OVF_CNT, Reg.ERR_CORR_VOL_CNT, Reg.ERR_DIRTY_LOST_CNT, Reg.ERR_HEALTH_EVENT_BUCKET_OVF,
  Reg.ERR_HEALTH_EVENT_DIRTY_LOST, Reg.ERR_HEALTH_EVENT_POISON_FULL, Reg.ERR_HEALTH_EVENT_UNCORR,
  Reg.ERR_POISON_LIST_OVERFLOW, Reg.ERR_POISON_LIST_RECORDS, Reg.ERR_UNCORR_CNT, Reg.MERGE_FILL_BAD_CNT,
  Reg.MERGE_PARTIAL_LINES, Reg.MERGE_SETTLE_REFETCH_CNT, Reg.MERGE_SETTLING_LINES, Reg.MERGE_STATUS_DIRTY,
  Reg.MERGE_STATUS_LIMIT, Reg.PORT_INFLIGHT_LINK0, Reg.PORT_INFLIGHT_LINK1, Reg.PORT_INFLIGHT_PEAK_LINK0,
  Reg.PORT_INFLIGHT_PEAK_LINK1, Reg.SCHED_BOUND_MISS, Reg.SCHED_MAX_LAT_CCLK, Reg.TELEM_BLK_OVF_OVF,
  Reg.XLAT_PINNED_LINES]

theorem mergeBufferLookupReturn_framed (rid t : Nat) (hbm : HbmErr) :
    EndsFramed lookupParts mergeBufferLookupReturnFields (.mergeBufferLookupReturn rid t hbm) := fun s => by
  refine ⟨_, rfl, ?_⟩
  split
  · exact .rfl
  next r _ =>
  refine .ite (fun _ => .rfl) fun _ => ?_
  have hleft : Framed lookupParts mergeBufferLookupReturnFields s (s.leaveAt t) :=
    Framed.rfl.quiet (leaveAt_within ..) rfl rfl
  split
  · exact (hleft.quiet (setReq_within ..) rfl rfl).via (takeResult_within ..)
      (by apply takeResult_regs <;> repeat constructor) rfl
  next e _ =>
  extract_lets s1
  have htele (code : Nat) : Framed lookupParts mergeBufferLookupReturnFields s (s1.tele 14 code 0) :=
    hleft.via (tele_within ..) (tele_regs _ _ _ _ _ (by decide)) rfl
  refine .ite (fun _ => (htele 5).via (settleRead_within ..) (by apply settleRead_regs <;> repeat constructor) rfl)
    fun _ => ?_
  have hcheck : Framed lookupParts mergeBufferLookupReturnFields s ((s1.tele 14 4 0).entryCheck r.line e hbm).1 :=
    (htele 4).via (entryCheck_within ..) (by apply entryCheck_regs <;> repeat constructor) rfl
  refine .ite (fun _ => hcheck.via (fromEntry_within ..) (by apply fromEntry_regs <;> repeat constructor) rfl)
    fun _ => ?_
  extract_lets checked s2
  have h2 : Framed lookupParts mergeBufferLookupReturnFields s s2 := hcheck.quiet (setReq_within ..) rfl rfl
  split
  · exact (h2.quiet (setReq_within ..) rfl rfl).via (deliverHost_within ..)
      (by apply deliverHost_regs <;> repeat constructor) rfl
  · exact h2.quiet (setReq_within ..) rfl rfl

/-- The parts that the return of a read-cache probe may change. -/
def probeParts : Nat := 0x2800000000000000000000000008000008000018000007fbcc00000000000000022

theorem pick_probeParts (s t : State) : State.pick probeParts s t = { s with
    regs := t.regs, out := t.out, events := t.events, sessions := t.sessions, reqs := t.reqs,
    chron := { s.chron with
      perm := t.chron.perm, ring := t.chron.ring, buffer := t.chron.buffer, nextSerial := t.chron.nextSerial,
      runs := t.chron.runs, dropped := t.chron.dropped },
    cache := { s.cache with fills := t.cache.fills },
    sched := { s.sched with jobs := t.sched.jobs },
    telem := { s.telem with counts := t.telem.counts, bwRead := t.telem.bwRead } } := rfl

/-- The register fields that the return of a read-cache probe may write. -/
def readCacheProbeReturnFields : List Field := [
  Reg.CACHE_RC_HIT_CNT, Reg.CACHE_RC_STALE_CNT, Reg.CHRON_DROP_CNT, Reg.CHRON_REPEAT_CNT,
  Reg.ERR_BUCKET_STATUS_LEVEL, Reg.ERR_BUCKET_STATUS_OVF_CNT, Reg.ERR_CORR_VOL_CNT, Reg.ERR_HEALTH_EVENT_BUCKET_OVF,
  Reg.PORT_INFLIGHT_LINK0, Reg.PORT_INFLIGHT_LINK1, Reg.PORT_INFLIGHT_PEAK_LINK0, Reg.PORT_INFLIGHT_PEAK_LINK1,
  Reg.SCHED_BOUND_MISS, Reg.SCHED_MAX_LAT_CCLK, Reg.TELEM_BLK_OVF_OVF]

theorem readCacheProbeReturn_framed (rid : Nat) (hbm : HbmErr) :
    EndsFramed probeParts readCacheProbeReturnFields (.readCacheProbeReturn rid hbm) := fun s => by
  refine ⟨_, rfl, ?_⟩
  split
  · exact .rfl
  refine .ite (fun _ => .rfl) fun _ => ?_
  extract_lets r s1
  have h1 : Framed probeParts readCacheProbeReturnFields s s1 := Framed.rfl.quiet (setReq_within ..) rfl rfl
  split
  · exact h1
  refine .ite (fun _ => ?failed) fun _ => .ite (fun _ => h1) fun _ => .ite (fun _ => ?stale) fun _ => ?hit
  case failed => exact h1.via (correctedVol_within ..) (by apply correctedVol_regs <;> repeat constructor) rfl
  case stale => exact h1.via (bump_within ..) (bump_regs _ _ _ _ _ (by decide)) rfl
  case hit => exact h1.via (probeHit_within ..) (by apply probeHit_regs <;> repeat constructor) rfl

/-- The parts that the install of a slice's fill may change. -/
def installParts : Nat := 0x28000000000000000000000000000003ec000000000000000000000000000000022

theorem pick_installParts (s t : State) : State.pick installParts s t = { s with
    regs := t.regs, out := t.out,
    cache := { s.cache with
      lines := t.cache.lines, fills := t.cache.fills, victims := t.cache.victims, purges := t.cache.purges,
      dirWay := t.cache.dirWay, dirPlru := t.cache.dirPlru, plru := t.cache.plru },
    telem := { s.telem with counts := t.telem.counts, bwRead := t.telem.bwRead } } := rfl

/-- The register fields that the install of a slice's fill may write. -/
def sliceFillInstallFields : List Field := [
  Reg.CACHE_FILL_DROP_CNT, Reg.CACHE_WT_WAIT_CNT, Reg.DIR_SLICE_EVICT_CNT, Reg.DIR_SLICE_STATUS_ENTRIES,
  Reg.TELEM_BLK_OVF_OVF]

theorem sliceFillInstall_framed (slice line : Nat) :
    EndsFramed installParts sliceFillInstallFields (.sliceFillInstall slice line) := fun s => by
  refine ⟨_, rfl, ?_⟩
  split
  · exact .rfl
  next x _ =>
  extract_lets taken
  have htaken : Framed installParts sliceFillInstallFields s (taken s) := Framed.rfl.set rfl rfl
  have hdropped : Framed installParts sliceFillInstallFields s ((taken s).bump Reg.CACHE_FILL_DROP_CNT 1 slice) :=
    htaken.via (bump_within ..) (bump_regs _ _ _ _ _ (by decide)) rfl
  have hheld {t : State} (h : Framed installParts sliceFillInstallFields s t) :
      Framed installParts sliceFillInstallFields s (t.holdFill x) :=
    h.via (holdFill_within ..) (holdFill_regs _ _ (by decide)) rfl
  have hinstalled (way : Nat) : Framed installParts sliceFillInstallFields s ((taken s).install x way) :=
    htaken.via (install_within ..) (by apply install_regs <;> repeat constructor) rfl
  refine .ite (fun _ => hdropped) fun _ => .ite (fun _ => hheld .rfl) fun _ => ?_
  split
  · exact hdropped
  split
  · exact .ite (fun _ => hheld (Framed.rfl.via (leaveSet_within ..) (leaveSet_regs _ _ _ (by decide)) rfl))
      fun _ => hinstalled _
  · exact hinstalled _

/-! ### Merges -/

/-- The parts that the end of a merge may change. -/
def mergeEndParts : Nat := 0x280000000000000000000000000800007c000218000000000000000000000000022

theorem pick_mergeEndParts (s t : State) : State.pick mergeEndParts s t = { s with
    regs := t.regs, out := t.out, sessions := t.sessions, reqs := t.reqs,
    merge := { s.merge with entries := t.merge.entries },
    cache := { s.cache with
      lines := t.cache.lines, fills := t.cache.fills, busy := t.cache.busy, victims := t.cache.victims,
      purges := t.cache.purges },
    sched := { s.sched with jobs := t.sched.jobs },
    telem := { s.telem with counts := t.telem.counts, bwRead := t.telem.bwRead } } := rfl

/-- The register fields that the end of a merge may write. -/
def mergeCompleteFields : List Field := [
  Reg.DIR_SLICE_STATUS_ENTRIES, Reg.PORT_INFLIGHT_LINK0, Reg.PORT_INFLIGHT_LINK1, Reg.PORT_INFLIGHT_PEAK_LINK0,
  Reg.PORT_INFLIGHT_PEAK_LINK1, Reg.TELEM_BLK_OVF_OVF]

theorem mergeComplete_framed (line : Nat) :
    EndsFramed mergeEndParts mergeCompleteFields (.mergeComplete line) := fun s => by
  refine ⟨_, rfl, ?_⟩
  split
  · exact .rfl
  · exact (((Framed.rfl.quiet (countWrite_within ..) rfl rfl).quiet (respond_within ..) rfl rfl).via
      (mergeEnd_within ..) (by apply mergeEnd_regs <;> repeat constructor) rfl).via (finish_within ..)
      (by apply finish_regs <;> repeat constructor) rfl

/-- The parts that the return of an entry's fill may change. -/
def fillParts : Nat := 0x2800000000000010063000000009000000000200000007fbcc00c10000000000022

theorem pick_fillParts (s t : State) : State.pick fillParts s t = { s with
    regs := t.regs, out := t.out, events := t.events, chans := t.chans,
    keep := { s.keep with shadow := t.keep.shadow, queue := t.keep.queue, lost := t.keep.lost },
    chron := { s.chron with
      perm := t.chron.perm, ring := t.chron.ring, buffer := t.chron.buffer, nextSerial := t.chron.nextSerial,
      runs := t.chron.runs, dropped := t.chron.dropped },
    merge := { s.merge with entries := t.merge.entries },
    sched := { s.sched with jobs := t.sched.jobs },
    err := { s.err with
      poison := t.err.poison, poisonLost := t.err.poisonLost, refresh := t.err.refresh,
      rewrites := t.err.rewrites, lastUncorrHi := t.err.lastUncorrHi },
    telem := { s.telem with counts := t.telem.counts, bwRead := t.telem.bwRead } } := rfl

/-- The register fields that the return of an entry's fill may write. -/
def fillReturnFields : List Field := [
  Reg.CHAN_CORR_CNT, Reg.CHAN_RECON_CNT, Reg.CHAN_RETRY_CNT, Reg.CHAN_UNCORR_CNT, Reg.CHRON_DROP_CNT,
  Reg.CHRON_REPEAT_CNT, Reg.ERR_BUCKET_STATUS_LEVEL, Reg.ERR_BUCKET_STATUS_OVF_CNT, Reg.ERR_CORR_PERS_CNT,
  Reg.ERR_HEALTH_EVENT_BUCKET_OVF, Reg.ERR_HEALTH_EVENT_DIE_FAIL, Reg.ERR_HEALTH_EVENT_POISON_FULL,
  Reg.ERR_HEALTH_EVENT_UNCORR, Reg.ERR_LAST_UNCORR_HI_VALID, Reg.ERR_LAST_UNCORR_LO_DPA_LO,
  Reg.ERR_POISON_LIST_OVERFLOW, Reg.ERR_POISON_LIST_RECORDS, Reg.ERR_REWRITE_CNT, Reg.ERR_UNCORR_CNT,
  Reg.MERGE_FILL_BAD_CNT, Reg.MERGE_PARTIAL_LINES, Reg.MERGE_SETTLING_LINES, Reg.MERGE_STATUS_DIRTY,
  Reg.MERGE_STATUS_LIMIT, Reg.PROT_INTEG_FAIL_CNT, Reg.RANGE_INTEG_FAIL_CNT, Reg.TELEM_BLK_OVF_OVF,
  Reg.XLAT_PINNED_LINES]

theorem fillReturn_framed (line : Nat) (err retry recon : MediaErr) (integ : IntegCheck) :
    EndsFramed fillParts fillReturnFields (.fillReturn line err retry recon integ) := fun s => by
  refine ⟨_, rfl, ?_⟩
  split
  · exact .rfl
  next j _ =>
  split
  · exact Framed.rfl.quiet (dropFill_within ..) rfl rfl
  have hmerged {t : State} (h : Framed fillParts fillReturnFields s t) (data : LineData) (bad : Bool) :
      Framed fillParts fillReturnFields s (t.fillEntry line data bad) :=
    h.via (fillEntry_within ..) (by apply fillEntry_regs <;> repeat constructor) rfl
  refine .ite (fun _ => hmerged .rfl _ _) fun _ => ?_
  have hread : Framed fillParts fillReturnFields s
      (s.readMedia line j.mp j.ln ⟨j.ln, err, retry, recon⟩ 2 false).1 :=
    Framed.rfl.via (readMedia_within ..) (by apply readMedia_regs <;> repeat constructor) rfl
  have hcheck (r : MediaResult) := hread.via (checkInteg_within _ line r integ)
    (by apply checkInteg_regs <;> repeat constructor) rfl
  exact hmerged (hcheck _) _ _

/-- Settles O51: the frame of each command, with what its end adds, is the one that its clause lists. -/
theorem hostTrafficFrames : Obligations.HostTrafficFrames :=
  ⟨fun a => (memRd_framed a).changes pick_receiveParts rfl rfl (by decide),
    fun a => (memRdData_framed a).changes pick_receiveParts rfl rfl (by decide),
    fun a => (memInv_framed a).changes pick_receiveParts rfl rfl (by decide),
    fun a => (memInvNt_framed a).changes pick_receiveParts rfl rfl (by decide),
    fun a => (memClnEvct_framed a).changes pick_receiveParts rfl rfl (by decide),
    fun a b => (memSpecRd_framed a b).changes pick_specReadParts rfl rfl (by decide),
    fun a b c => (memWr_framed a b c).changes pick_writeParts rfl rfl (by decide),
    fun a b c d => (memWrPtl_framed a b c d).changes pick_writeParts rfl rfl (by decide),
    fun a => (biConflict_framed a).changes pick_receiveParts rfl rfl (by decide),
    fun a b c d e => (biRsp_framed a b c d e).changes pick_snoopAnswerParts rfl rfl (by decide),
    fun a b => (ideIntegrityFailure_framed a b).changes pick_ideFailureParts rfl rfl (by decide),
    fun a b => (linkDown_framed a b).changes pick_linkDownParts rfl rfl (by decide),
    fun a b => (perstNAssert_framed a b).changes pick_perstParts rfl rfl (by decide),
    fun a => (perstNDeassert_framed a).changes pick_perstEndParts rfl rfl (by decide),
    fun a b c d e => (linkUp_framed a b c d e).changes pick_endParts rfl rfl (by decide),
    fun a b c d e => (allowanceCheck_framed a b c d e).changes pick_writeParts rfl rfl (by decide),
    fun a b c => (sessionCreate_framed a b c).changes pick_sessionParts rfl rfl (by decide),
    fun a b c => (sessionModify_framed a b c).changes pick_sessionParts rfl rfl (by decide),
    fun a b => (sessionFence_framed a b).changes pick_sessionParts rfl rfl (by decide),
    fun a b => (sessionGet_framed a b).changes pick_sessionGetParts rfl rfl (by decide),
    fun a => (fenceDrainEnd_framed a).changes pick_fenceParts rfl rfl (by decide),
    fun a b => (fenceBiTimeout_framed a b).changes pick_snoopAnswerParts rfl rfl (by decide),
    fun a b c => (spillRefill_framed a b c).changes pick_refillParts rfl rfl (by decide),
    fun a => (mergeComplete_framed a).changes pick_mergeEndParts rfl rfl (by decide),
    fun a b c d e => (fillReturn_framed a b c d e).changes pick_fillParts rfl rfl (by decide),
    fun a b => (sliceFillInstall_framed a b).changes pick_installParts rfl rfl (by decide),
    fun a b => (readCacheProbeReturn_framed a b).changes pick_probeParts rfl rfl (by decide),
    fun a b => (snoopTimeout_framed a b).changes pick_snoopAnswerParts rfl rfl (by decide),
    fun a b => (portCfgWrite_framed a b).changes pick_endParts rfl rfl (by decide),
    fun a b => (portCntClr_framed a b).changes pick_clearParts rfl rfl (by decide),
    fun a => (sessCntClr_framed a).changes pick_clearParts rfl rfl (by decide),
    fun a => (sessQCntClr_framed a).changes pick_clearParts rfl rfl (by decide),
    fun a b c => (bisnpCreditReturn_framed a b c).changes pick_snoopCreditParts rfl rfl (by decide),
    fun a b c => (mergeBufferLookupReturn_framed a b c).changes pick_lookupParts rfl rfl (by decide)⟩

end Sys2Proof.Machine
end

section
/-! SUPPORT. The medium's table in canonical form (R79): every operation that programs, moves, flushes or rebuilds keeps
its page numbers rising. -/

namespace Sys2Proof.Machine

open Sys2Proof

/-- A change that leaves the table of the medium in canonical form when it was so. -/
structure KeepsOrder (s t : State) : Prop where
  wf : s.memoryWf = true → t.memoryWf = true

namespace KeepsOrder

variable {s t u : State}

theorem rfl : KeepsOrder s s := ⟨id⟩

theorem trans (h : KeepsOrder s t) (g : KeepsOrder t u) : KeepsOrder s u := ⟨fun hs => g.wf (h.wf hs)⟩

/-- A change outside the medium. -/
theorem of_pages_eq (h : t.pages = s.pages) : KeepsOrder s t := ⟨(congrArg Tab.sorted h).trans⟩

/-- An operation whose parts leave out the medium (part 153). -/
theorem via {m : Nat} (h : KeepsOrder s t) (hw : Within m t u) (hb : m.testBit 153 = false := by decide) :
    KeepsOrder s u := h.trans (of_pages_eq (hw.pages hb))

/-- A change of fields of the record that are not the medium. -/
theorem set (h : KeepsOrder s t) (hp : u.pages = t.pages := by rfl) : KeepsOrder s u := h.trans (of_pages_eq hp)

theorem ite {c : Prop} [Decidable c] (ht : c → KeepsOrder s t) (hu : ¬c → KeepsOrder s u) :
    KeepsOrder s (if c then t else u) := by
  split
  · exact ht ‹_›
  · exact hu ‹_›

theorem foldl {α : Type} {f : State → α → State} (hf : ∀ t x, KeepsOrder t (f t x)) (l : List α)
    (h : KeepsOrder s t) : KeepsOrder s (l.foldl f t) := by
  induction l generalizing t with
  | nil => exact h
  | cons x l ih => exact ih (h.trans (hf t x))

end KeepsOrder

/-! ### Programs -/

theorem setMline_keepsOrder (s : State) (mp ln : Nat) (l : MLine) : KeepsOrder s (s.setMline mp ln l) :=
  ⟨setMline_sorted s mp ln l⟩

theorem setParity_keepsOrder (s : State) (mp ln : Nat) (l : Lin) : KeepsOrder s (s.setParity mp ln l) :=
  ⟨setParity_sorted s mp ln l⟩

theorem programPage_keepsOrder (s : State) (mp : Nat) (p : MPage) : KeepsOrder s (s.programPage mp p) :=
  ⟨programPage_sorted s mp p⟩

/-- An exchange that has verified stores its line; the rest of its end is outside the medium. -/
theorem exchanged_pages (s : State) (b : Nat) (o : BankOp) :
    (s.exchanged b o).pages = (s.setMline o.mp o.ln o.new).pages := by
  have hstored : ((({ s with ops := s.ops.del b } : State).setMline o.mp o.ln o.new).wear (mpSbn o.mp) 1).pages =
      (s.setMline o.mp o.ln o.new).pages := by
    rw [wear_pages]
    unfold State.setMline
    cases s.pages.find o.mp <;> rfl
  unfold State.exchanged
  extract_lets s1 x s2 s3
  have h3 : s3.pages = s2.pages := by
    unfold s3
    split
    · split <;> rfl
    · rfl
  have h : s3.pages = (s.setMline o.mp o.ln o.new).pages := h3.trans hstored
  split
  · exact ((drainVerified_within ..).pages (by decide)).trans h
  · exact h

theorem exchanged_keepsOrder (s : State) (b : Nat) (o : BankOp) : KeepsOrder s (s.exchanged b o) :=
  (setMline_keepsOrder s o.mp o.ln o.new).set (exchanged_pages s b o)

theorem fillStripe_keepsOrder (s : State) (hot : Bool) (course : Nat) (o : OpenBlock) :
    KeepsOrder s (s.fillStripe hot course o) := by
  unfold State.fillStripe
  extract_lets k
  refine .foldl (fun t _ => ?_) _ .rfl
  split
  · exact .rfl
  · exact .ite (fun _ => .rfl) fun _ =>
      ((KeepsOrder.rfl.via (takeSeq_within t)).via (takePage_within ..)).trans (programPage_keepsOrder ..)

/-! ### Moves -/

theorem liftFailed_keepsOrder {s t : State} {m : Move} {pages : List MPage} {k : Nat}
    (h : s.liftFailed m pages k = some t) : KeepsOrder s t := by
  unfold State.liftFailed at h
  extract_lets lpn x home y s1 at h
  have h1 : KeepsOrder s s1 := KeepsOrder.rfl.set
  clear_value s1
  split at h
  · cases h; exact h1
  split at h
  · cases h
  split at h
  · next hpage =>
    cases h
    exact (((h1.via (nextPoolPage_within _ _ _ _ hpage)).via (takeSeq_within _)).trans
      (programPage_keepsOrder ..)).via (setFluid_within ..)
  · cases h

theorem liftAllFailed_keepsOrder {s t : State} {m : Move} {pages : List MPage} {l : List Nat}
    (h : s.liftAllFailed m pages l = some t) : KeepsOrder s t := by
  induction l generalizing s with
  | nil => cases h; exact .rfl
  | cons k r ih =>
    simp only [State.liftAllFailed] at h
    split at h
    · next hk => exact (liftFailed_keepsOrder hk).trans (ih h)
    · cases h

/-- A committed stripe is on the medium; the rest of its commit is outside the medium. -/
theorem commitStripe_pages (s : State) (m : Move) (pages : List MPage) : (s.commitStripe m pages).pages =
    (s.programStripe (s.tract m.tract).sb (s.tract m.tract).ptr pages m.failed).pages := by
  unfold State.commitStripe
  extract_lets t s1 s2 s3
  have h2 : s2.pages = s1.pages := by
    unfold s2
    split
    · rfl
    · exact (degrade_within ..).pages (by decide)
  have h3 : s3.pages = s2.pages :=
    ((putMove_within ..).pages (by decide)).trans ((tele_within ..).pages (by decide))
  exact ((Within.foldl (fun t l => drainVerified_within t l) m.carried .rfl).pages (by decide)).trans (h3.trans h2)

theorem commitStripe_keepsOrder (s : State) (m : Move) (pages : List MPage) :
    KeepsOrder s (s.commitStripe m pages) :=
  ⟨fun h => (congrArg Tab.sorted (commitStripe_pages s m pages)).trans (programStripe_sorted s _ _ _ _ h)⟩

theorem loadThenCommit_keepsOrder (s : State) (m : Move) :
    KeepsOrder s ((s.loadStripe m).1.commitStripe (s.loadStripe m).2 ((s.loadStripe m).2.load.getD [])) :=
  (KeepsOrder.rfl.via (loadStripe_within ..)).trans (commitStripe_keepsOrder ..)

theorem resumeMove_keepsOrder (s : State) (m : Move) : KeepsOrder s (s.resumeMove m) := by
  unfold State.resumeMove
  extract_lets x
  refine .ite (fun _ => .rfl) fun _ => ?_
  have h := loadThenCommit_keepsOrder s m
  split
  next t m' hload =>
  rw [hload] at h
  extract_lets u
  split
  · exact h.via (advanceMove_within ..)
  · exact h

theorem resumeMoves_keepsOrder (s : State) : KeepsOrder s s.resumeMoves :=
  .foldl (fun t m => resumeMove_keepsOrder t m) _ .rfl

/-! ### Preconditions -/

theorem preconditioned_pages (s : State) (sbn : Nat) :
    (s.preconditioned sbn).pages = (s.eraseBlock sbn).pages := by
  unfold State.preconditioned
  extract_lets back k s1 s2
  split
  · exact (bump_within ..).pages (by decide)
  · rfl

theorem precondFailed_pages (s : State) (sbn : Nat) (failed : BitVec 8) :
    (s.precondFailed sbn failed).pages = (s.eraseBlock sbn).pages := rfl

/-! ### The flush (R163 to R165) -/

theorem toggleNow_keepsOrder (s : State) (mp ln : Nat) (d : Lin) : KeepsOrder s (s.toggleNow mp ln d) := by
  unfold State.toggleNow
  extract_lets par
  refine .ite (fun _ => .rfl) fun _ => ?_
  split
  · exact setParity_keepsOrder ..
  · exact .rfl

theorem storeNow_keepsOrder (s : State) (mp ln : Nat) (l : MLine) : KeepsOrder s (s.storeNow mp ln l) :=
  ((setMline_keepsOrder ..).via (wear_within ..)).trans (toggleNow_keepsOrder ..)

theorem finishExchange_keepsOrder (s : State) (o : BankOp) : KeepsOrder s (s.finishExchange o) := by
  unfold State.finishExchange
  extract_lets s1 x s2
  have h1 : KeepsOrder s s1 := .ite (fun _ => storeNow_keepsOrder ..)
    fun _ => (setMline_keepsOrder ..).via (wear_within ..)
  have h2 : KeepsOrder s s2 := h1.set
  exact .ite (fun _ => h2.via (drainVerified_within ..)) fun _ => h2

theorem finishToggle_keepsOrder (s : State) (o : BankOp) : KeepsOrder s (s.finishToggle o) := by
  unfold State.finishToggle
  split
  · exact setParity_keepsOrder ..
  · exact .rfl

theorem finishOps_keepsOrder (s : State) : KeepsOrder s s.finishOps := by
  unfold State.finishOps
  extract_lets l s1 s2 s3
  have h1 : KeepsOrder s s1 := .foldl finishExchange_keepsOrder _ .rfl
  have h2 : KeepsOrder s s2 := .foldl finishToggle_keepsOrder _ h1
  have h3 : KeepsOrder s s3 := .foldl (fun _ _ => setParity_keepsOrder ..) _ h2
  exact h3.set

theorem finishMoves_keepsOrder (s : State) : KeepsOrder s s.finishMoves := by
  unfold State.finishMoves
  refine .foldl (fun t m => ?_) _ .rfl
  split
  · exact .rfl
  next pages _ =>
  extract_lets u
  have hlift : KeepsOrder t ((t.liftAllFailed m pages (m.failed.filter (· < 7))).getD t) := by
    cases h : t.liftAllFailed m pages (m.failed.filter (· < 7)) with
    | none => exact .rfl
    | some v => exact liftAllFailed_keepsOrder h
  have hu : KeepsOrder t u := .ite (fun _ => .rfl) fun _ => hlift.trans (commitStripe_keepsOrder ..)
  split
  · exact hu.via (advanceMove_within ..)
  · exact hu

theorem finishCopies_keepsOrder (s : State) : KeepsOrder s s.finishCopies := by
  unfold State.finishCopies
  refine .foldl (fun t c => ?_) _ .rfl
  extract_lets u
  have hu : KeepsOrder t u := (KeepsOrder.rfl.via (endCopy_within ..)).trans (programPage_keepsOrder ..)
  refine .ite (fun _ => ?_) fun _ => .foldl (fun _ _ => KeepsOrder.rfl.via (drainVerified_within ..)) _
    (hu.via (setFluid_within ..))
  split
  · exact .ite (fun _ => hu.via (setFluid_within ..)) fun _ => hu
  · exact hu

theorem finishOpens_keepsOrder (s : State) : KeepsOrder s s.finishOpens :=
  .foldl (fun _ _ => .ite (fun _ => fillStripe_keepsOrder ..) fun _ => .rfl) _ .rfl

theorem loseLine_keepsOrder (s : State) (line : Nat) : KeepsOrder s (s.loseLine line) := by
  unfold State.loseLine
  extract_lets lpn t s1 s2
  have h1 : KeepsOrder s s1 := by
    unfold s1
    split
    · exact .ite (fun _ => .rfl) fun _ =>
        ((storeNow_keepsOrder ..).via (poisonAdd_within ..)).via (bump_within ..)
    · exact .rfl
  have h2 : KeepsOrder s s2 := ((h1.via (dropEntry_within ..)).via (dirtyLost_within ..)).via (bump_within ..)
  exact h2.set

theorem flushAppend_keepsOrder (s : State) (lpn : Nat) (src : Option Nat) (line : Nat) :
    KeepsOrder s (s.flushAppend lpn src line) := by
  unfold State.flushAppend
  split
  · exact loseLine_keepsOrder ..
  extract_lets l
  split
  next t dst htake =>
  have ht : KeepsOrder s t := KeepsOrder.rfl.via (.of_fst htake (takePage_within ..))
  split
  next u q hseq =>
  have hu : KeepsOrder s u := ht.via (.of_fst hseq (takeSeq_within ..))
  extract_lets v page w
  have hv : KeepsOrder s v := by
    unfold v
    split
    · exact hu.via (noteUnbuilt_within ..)
    · exact hu
  have hw : KeepsOrder s w :=
    ((hv.via (startDrains_within ..)).trans (programPage_keepsOrder ..)).via (setFluid_within ..)
  exact .foldl (fun _ _ => KeepsOrder.rfl.via (drainVerified_within ..)) _ hw

theorem flushFirst_keepsOrder (s : State) (t : Nat) : KeepsOrder s (s.flushFirst t) := by
  unfold State.flushFirst
  split
  · exact .rfl
  next m _ =>
  have h := loadThenCommit_keepsOrder s m
  split
  next u m' hload =>
  rw [hload] at h
  extract_lets v
  split
  · exact h.via (advanceMove_within ..)
  · exact h

theorem flushLine_keepsOrder (s : State) (line : Nat) : KeepsOrder s (s.flushLine line) := by
  unfold State.flushLine
  split
  · exact .rfl
  refine .ite (fun _ => .rfl) fun _ => ?_
  extract_lets lpn u
  have hu : KeepsOrder s u := .ite (fun _ => flushFirst_keepsOrder ..) fun _ => .rfl
  split
  · exact hu
  refine .ite (fun _ => hu) fun _ => hu.trans ?_
  split
  · exact ((KeepsOrder.rfl.via (startDrain_within ..)).trans (storeNow_keepsOrder ..)).via (drainVerified_within ..)
  · exact flushAppend_keepsOrder ..
  · exact flushAppend_keepsOrder ..
  · exact loseLine_keepsOrder ..

theorem flushLines_keepsOrder (s : State) : KeepsOrder s s.flushLines :=
  .ite (fun _ => .foldl loseLine_keepsOrder _ .rfl) fun _ => .foldl flushLine_keepsOrder _ .rfl

theorem flushAll_keepsOrder (s : State) : KeepsOrder s s.flushAll := by
  unfold State.flushAll
  extract_lets points s1 s2
  have h1 : KeepsOrder s s1 := ((((finishMoves_keepsOrder _).trans (finishCopies_keepsOrder _)).via
    (dropSettles_within _))).trans (finishOps_keepsOrder _)
  have h2 : KeepsOrder s s2 := ((h1.trans (flushLines_keepsOrder _)).trans (finishOpens_keepsOrder _)).via
    (flushNodes_within _)
  exact ((h2.via (flushPoints_within ..)).via (mergeCounts_within _)).via (poolCounts_within _)

theorem warmFlushed_keepsOrder (s : State) : KeepsOrder s s.warmFlushed := by
  unfold State.warmFlushed
  extract_lets s1 us s2 s3 loss s4 s5
  have h1 : KeepsOrder s s1 := ((flushAll_keepsOrder s).via (markFlush_within _)).via (applyKept_within _)
  have h2 : KeepsOrder s s2 := ((h1.via (tick_within _)).via (capoRecord_within ..)).via (saveSpread_within _)
  have h3 : KeepsOrder s s3 := ((h2.via (closeRuns_within _)).via (saveKeep_within _)).via (saveChronicle_within ..)
  have h4 : KeepsOrder s s4 := (h3.via (warmCore_within _)).via (restoreProt_within _)
  have h5 : KeepsOrder s s5 := (h4.via (setBit_within ..)).via (setBit_within ..)
  clear_value s5
  exact h5.set.via (flash_within _)

/-! ### The rebuild (R137 to R141) -/

theorem rebuild_keepsOrder (s : State) : KeepsOrder s s.rebuild := by
  unfold State.rebuild
  extract_lets blocks x s1 l g s2 s3 s4 cands s5
  have h1 : KeepsOrder s s1 := KeepsOrder.rfl.set
  have h3 : KeepsOrder s s3 := .foldl (fun _ _ => KeepsOrder.rfl.via (blockFromTags_within ..)) _
    (h1.via (setBit_within ..))
  have h5 : KeepsOrder s s5 := .foldl (fun _ _ => KeepsOrder.rfl.via (homeTract_within ..)) _
    ((h3.via (countersFrom_within ..)).via (timeFrom_within ..))
  split
  next s6 w hspace =>
  have h6 : KeepsOrder s s6 := h5.via (.of_fst hspace (workspace_within _))
  extract_lets s7 s8
  have h8 : KeepsOrder s s8 := .foldl (fun _ _ => KeepsOrder.rfl.via (unclaimed_within ..)) _
    (h6.via (placeCands_within ..))
  exact (((h8.via (foundMoves_within _)).trans (resumeMoves_keepsOrder _)).via (evacFrom_within _)).via
    (poolCounts_within _)

end Sys2Proof.Machine
end

section
/-! SUPPORT. The medium and the operations that the commands share: each operation's frame lemma, read at the table of
pages. -/

namespace Sys2Proof.Machine

open Sys2Proof

theorem pages_ite {l : Tab MPage} {a b : State} {c : Prop} [Decidable c] (ha : a.pages = l) (hb : b.pages = l) :
    (if c then a else b).pages = l := by split <;> assumption

theorem foldl_pages {α : Type} {f : State → α → State} (h : ∀ s x, (f s x).pages = s.pages) (l : List α)
    (s : State) : (l.foldl f s).pages = s.pages := by
  induction l generalizing s with
  | nil => rfl
  | cons x l ih => exact (ih _).trans (h s x)

/-! ### Operations whose effect their own arguments give -/

@[simp] theorem bump_pages (s : State) (f : Field) (n i j : Nat) : (s.bump f n i j).pages = s.pages :=
  (bump_within ..).pages (by decide)
@[simp] theorem setBit_pages (s : State) (f : Field) (b : Bool) (i j : Nat) : (s.setBit f b i j).pages = s.pages :=
  (setBit_within ..).pages (by decide)
@[simp] theorem askClear_pages (s : State) (c : Clear) : (s.askClear c).pages = s.pages :=
  (askClear_within ..).pages (by decide)
@[simp] theorem setSeq_pages (s : State) (q : SeqState) : (s.setSeq q).pages = s.pages :=
  (setSeq_within ..).pages (by decide)
@[simp] theorem closeRun_pages (s : State) (r : ChronRun) : (s.closeRun r).pages = s.pages :=
  (closeRun_within ..).pages (by decide)
@[simp] theorem chronicle_pages (s : State) (code source sev : Nat) (payload : List Nat) :
    (s.chronicle code source sev payload).pages = s.pages :=
  (chronicle_within ..).pages (by decide)
@[simp] theorem event_pages (s : State) (l : Log) (r : EventRec) (source : Nat) :
    (s.event l r source).pages = s.pages :=
  (event_within ..).pages (by decide)
@[simp] theorem health_pages (s : State) (f : Field) : (s.health f).pages = s.pages :=
  (health_within ..).pages (by decide)
@[simp] theorem keepWrite_pages (s : State) (page : Nat) (data : PageData) (group : Nat) :
    (s.keepWrite page data group).pages = s.pages :=
  (keepWrite_within ..).pages (by decide)
@[simp] theorem flash_pages (s : State) : s.flash.pages = s.pages := (flash_within ..).pages (by decide)
@[simp] theorem poolCounts_pages (s : State) : s.poolCounts.pages = s.pages :=
  (poolCounts_within ..).pages (by decide)
@[simp] theorem retireOrQueue_pages (s : State) (b : Nat) : (s.retireOrQueue b).pages = s.pages :=
  (retireOrQueue_within ..).pages (by decide)
@[simp] theorem correctedVol_pages (s : State) (r : Region) (address : Nat) :
    (s.correctedVol r address).pages = s.pages :=
  (correctedVol_within ..).pages (by decide)
@[simp] theorem sliceCount_pages (s : State) : s.sliceCount.pages = s.pages :=
  (sliceCount_within ..).pages (by decide)
@[simp] theorem wakeAll_pages (s : State) : s.wakeAll.pages = s.pages := (wakeAll_within ..).pages (by decide)
@[simp] theorem reply_pages (s : State) (p : CmdPath) (rc : Rc) (ext : Nat) (data : List Nat) :
    (s.reply p rc ext data).pages = s.pages :=
  (reply_within ..).pages (by decide)
@[simp] theorem bgStart_pages (s : State) (p : CmdPath) (b : Background) : (s.bgStart p b).pages = s.pages :=
  (bgStart_within ..).pages (by decide)
@[simp] theorem sweepInternal_pages (s : State) : s.sweepInternal.pages = s.pages :=
  (sweepInternal_within ..).pages (by decide)
@[simp] theorem queueInternal_pages (s : State) (i : Internal) : (s.queueInternal i).pages = s.pages :=
  (queueInternal_within ..).pages (by decide)
@[simp] theorem endInternal_pages (s : State) : s.endInternal.pages = s.pages :=
  (endInternal_within ..).pages (by decide)
@[simp] theorem setIde_pages (s : State) (p l ide : Nat) : (s.setIde p l ide).pages = s.pages :=
  (setIde_within ..).pages (by decide)
@[simp] theorem flushNodes_pages (s : State) : s.flushNodes.pages = s.pages :=
  (flushNodes_within ..).pages (by decide)
@[simp] theorem savePage1_pages (s : State) : s.savePage1.pages = s.pages := (savePage1_within ..).pages (by decide)
@[simp] theorem walkEntry_pages (s : State) (lpn : Nat) : (s.walkEntry lpn).pages = s.pages :=
  (walkEntry_within ..).pages (by decide)
@[simp] theorem reclaimPage_pages (s : State) (mp : Nat) : (s.reclaimPage mp).pages = s.pages :=
  (reclaimPage_within ..).pages (by decide)
@[simp] theorem setBudget_pages (s : State) (budget holdup : Nat) : (s.setBudget budget holdup).pages = s.pages :=
  (setBudget_within ..).pages (by decide)
@[simp] theorem joinPoint_pages (s : State) (S : Nat) (counted : Bool) (f : Point → Point) :
    (s.joinPoint S counted f).pages = s.pages :=
  (joinPoint_within ..).pages (by decide)
@[simp] theorem bgDone_pages (s : State) (p : CmdPath) (b : Background) (rc : Rc) (ext : Nat) (data : List Nat) :
    (s.bgDone p b rc ext data).pages = s.pages :=
  (bgDone_within ..).pages (by decide)
@[simp] theorem endPoint_pages (s : State) (p : Point) (pinned : List Nat) (capo : Bool) :
    (s.endPoint p pinned capo).pages = s.pages :=
  (endPoint_within ..).pages (by decide)
@[simp] theorem persistAt_pages (s : State) (p : CmdPath) (S : Nat) : (s.persistAt p S).pages = s.pages :=
  (persistAt_within ..).pages (by decide)
@[simp] theorem keepProgrammed_pages (s : State) (readback : Bool) : (s.keepProgrammed readback).pages = s.pages :=
  (keepProgrammed_within ..).pages (by decide)
@[simp] theorem keepErased_pages (s : State) (n : Nat) (ok : Bool) : (s.keepErased n ok).pages = s.pages :=
  (keepErased_within ..).pages (by decide)
@[simp] theorem spreadIncrement_pages (s : State) (i : Nat) : (s.spreadIncrement i).pages = s.pages :=
  (spreadIncrement_within ..).pages (by decide)
@[simp] theorem chronProgrammed_pages (s : State) (readback : Bool) : (s.chronProgrammed readback).pages = s.pages :=
  (chronProgrammed_within ..).pages (by decide)
@[simp] theorem ringErased_pages (s : State) (k : Nat) (ok : Bool) : (s.ringErased k ok).pages = s.pages :=
  (ringErased_within ..).pages (by decide)
@[simp] theorem setDescr_pages (s : State) (d : Descr) : (s.setDescr d).pages = s.pages :=
  (setDescr_within ..).pages (by decide)
@[simp] theorem releaseSpare_pages (s : State) : s.releaseSpare.pages = s.pages :=
  (releaseSpare_within ..).pages (by decide)
@[simp] theorem setAct_pages (s : State) (v : Nat) : (s.setAct v).pages = s.pages :=
  (setAct_within ..).pages (by decide)
@[simp] theorem saveChronicle_pages (s : State) (room : Nat) : (s.saveChronicle room).pages = s.pages :=
  (saveChronicle_within ..).pages (by decide)
@[simp] theorem closeRuns_pages (s : State) : s.closeRuns.pages = s.pages := (closeRuns_within ..).pages (by decide)
@[simp] theorem raiseDsc_pages (s : State) (m : Marker) : (s.raiseDsc m).pages = s.pages :=
  (raiseDsc_within ..).pages (by decide)
@[simp] theorem motion_pages (s : State) (p : CmdPath) (m : Motion) : (s.motion p m).pages = s.pages :=
  (motion_within ..).pages (by decide)
@[simp] theorem dropMotion_pages (s : State) (m : Motion) : (s.dropMotion m).pages = s.pages :=
  (dropMotion_within ..).pages (by decide)
@[simp] theorem second_pages (s : State) (p : CmdPath) (m : Second) : (s.second p m).pages = s.pages :=
  (second_within ..).pages (by decide)
@[simp] theorem queuePass_pages (s : State) (r : Rekey) : (s.queuePass r).pages = s.pages :=
  (queuePass_within ..).pages (by decide)
@[simp] theorem applyMotion_pages (s : State) (l : Lodged) : (s.applyMotion l).pages = s.pages :=
  (applyMotion_within ..).pages (by decide)
@[simp] theorem setStream_pages (s : State) (p l : Nat) (x : IdeStream) : (s.setStream p l x).pages = s.pages :=
  (setStream_within ..).pages (by decide)
@[simp] theorem setWays_pages (s : State) (i en cl : Nat) : (s.setWays i en cl).pages = s.pages :=
  (setWays_within ..).pages (by decide)
@[simp] theorem eraseRecord_pages (s : State) (what : Nat) : (s.eraseRecord what).pages = s.pages :=
  (eraseRecord_within ..).pages (by decide)
@[simp] theorem placeInternal_pages (s : State) (i : Internal) : (s.placeInternal i).pages = s.pages :=
  (placeInternal_within ..).pages (by decide)
@[simp] theorem lineCommand_pages (s : State) (p : CmdPath) (dpa : Nat) (kind : InternalKind) (data : LineData) :
    (s.lineCommand p dpa kind data).pages = s.pages :=
  (lineCommand_within ..).pages (by decide)
@[simp] theorem startErase_pages (s : State) (p : CmdPath) (kind : InternalKind) (bg : Background) (what : Nat) :
    (s.startErase p kind bg what).pages = s.pages :=
  (startErase_within ..).pages (by decide)
@[simp] theorem unmark_pages (s : State) : s.unmark.pages = s.pages := (unmark_within ..).pages (by decide)
@[simp] theorem showPoll_pages (s : State) (q : RailPoll) : (s.showPoll q).pages = s.pages :=
  (showPoll_within ..).pages (by decide)
@[simp] theorem toPmics_pages (s : State) (r code data : Nat) : (s.toPmics r code data).pages = s.pages :=
  (toPmics_within ..).pages (by decide)
@[simp] theorem askSlot_pages (s : State) : s.askSlot.pages = s.pages := (askSlot_within ..).pages (by decide)
@[simp] theorem lockout_pages (s : State) : s.lockout.pages = s.pages := (lockout_within ..).pages (by decide)
@[simp] theorem railOff_pages (s : State) (r : Nat) : (s.railOff r).pages = s.pages :=
  (railOff_within ..).pages (by decide)
@[simp] theorem nextDown_pages (s : State) (x1 : Nat) : (s.nextDown x1).pages = s.pages :=
  (nextDown_within ..).pages (by decide)
@[simp] theorem powerDown_pages (s : State) (cause : DownCause) (after : AfterDown) (capo : Bool) :
    (s.powerDown cause after capo).pages = s.pages :=
  (powerDown_within ..).pages (by decide)
@[simp] theorem packageFail_pages (s : State) (rail cause : Nat) : (s.packageFail rail cause).pages = s.pages :=
  (packageFail_within ..).pages (by decide)
@[simp] theorem upFail_pages (s : State) (rail cause : Nat) : (s.upFail rail cause).pages = s.pages :=
  (upFail_within ..).pages (by decide)
@[simp] theorem testLockout_pages (s : State) : s.testLockout.pages = s.pages :=
  (testLockout_within ..).pages (by decide)
@[simp] theorem enterPkgUp_pages (s : State) (testEn : Samples) : (s.enterPkgUp testEn).pages = s.pages :=
  (enterPkgUp_within ..).pages (by decide)
@[simp] theorem pfTake_pages (s : State) (l : List Bool) : (s.pfTake l).pages = s.pages :=
  (pfTake_within ..).pages (by decide)
@[simp] theorem leaveOn_pages (s : State) (cause : DownCause) (after : AfterDown) :
    (s.leaveOn cause after).pages = s.pages :=
  (leaveOn_within ..).pages (by decide)
@[simp] theorem pfActs_pages (s : State) : s.pfActs.pages = s.pages := (pfActs_within ..).pages (by decide)
@[simp] theorem thermalTrip_pages (s : State) (tempC : Nat) : (s.thermalTrip tempC).pages = s.pages :=
  (thermalTrip_within ..).pages (by decide)
@[simp] theorem railHung_pages (s : State) (r : Nat) (flashAnswers : Bool) :
    (s.railHung r flashAnswers).pages = s.pages :=
  (railHung_within ..).pages (by decide)
@[simp] theorem standbyTest_pages (s : State) (testEn : Samples) : (s.standbyTest testEn).pages = s.pages :=
  (standbyTest_within ..).pages (by decide)
@[simp] theorem removeAux_pages (s : State) : s.removeAux.pages = s.pages := (removeAux_within ..).pages (by decide)
@[simp] theorem showPresence_pages (s : State) (q : PmicReport) : (s.showPresence q).pages = s.pages :=
  (showPresence_within ..).pages (by decide)
@[simp] theorem writePages_pages (s : State) : s.writePages.pages = s.pages :=
  (writePages_within ..).pages (by decide)
@[simp] theorem pmicRefused_pages (s : State) : s.pmicRefused.pages = s.pages :=
  (pmicRefused_within ..).pages (by decide)
@[simp] theorem railIsGood_pages (s : State) (r : Nat) (bootSel : Samples) :
    (s.railIsGood r bootSel).pages = s.pages :=
  (railIsGood_within ..).pages (by decide)
@[simp] theorem servicePollOne_pages (s : State) (q : RailPoll) : (s.servicePollOne q).pages = s.pages :=
  (servicePollOne_within ..).pages (by decide)
@[simp] theorem watchCollapse_pages (s : State) (q : RailPoll) : (s.watchCollapse q).pages = s.pages :=
  (watchCollapse_within ..).pages (by decide)
@[simp] theorem capoCreditsBack_pages (s : State) : s.capoCreditsBack.pages = s.pages :=
  (capoCreditsBack_within ..).pages (by decide)
@[simp] theorem dirtyAgain_pages (s : State) : s.dirtyAgain.pages = s.pages :=
  (dirtyAgain_within ..).pages (by decide)
@[simp] theorem activationBack_pages (s : State) : s.activationBack.pages = s.pages :=
  (activationBack_within ..).pages (by decide)
@[simp] theorem takeImage_pages (s : State) (row : Nat) (active staging : ImageReport) :
    (s.takeImage row active staging).pages = s.pages :=
  (takeImage_within ..).pages (by decide)
@[simp] theorem verifyRoots_pages (s : State) (failed : List Nat) : (s.verifyRoots failed).pages = s.pages :=
  (verifyRoots_within ..).pages (by decide)
@[simp] theorem becomeReady_pages (s : State) : s.becomeReady.pages = s.pages :=
  (becomeReady_within ..).pages (by decide)
@[simp] theorem startCopy_pages (s : State) : s.startCopy.pages = s.pages := (startCopy_within ..).pages (by decide)
@[simp] theorem startWarm_pages (s : State) : s.startWarm.pages = s.pages := (startWarm_within ..).pages (by decide)
@[simp] theorem takeUnits_pages (s : State) (p : CmdPath) (t0 : Transfer) (offset : Nat) (l : List Nat) (h :
    ImageReport) (last : Bool) : (s.takeUnits p t0 offset l h last).pages = s.pages :=
  (takeUnits_within ..).pages (by decide)
@[simp] theorem transferRecord_pages (s : State) (what version : Nat) :
    (s.transferRecord what version).pages = s.pages :=
  (transferRecord_within ..).pages (by decide)
@[simp] theorem openTransfer_pages (s : State) (p : CmdPath) (offset : Nat) (l : List Nat) (h : ImageReport) :
    (s.openTransfer p offset l h).pages = s.pages :=
  (openTransfer_within ..).pages (by decide)
@[simp] theorem abortTransfer_pages (s : State) (p : CmdPath) (t0 : Transfer) :
    (s.abortTransfer p t0).pages = s.pages :=
  (abortTransfer_within ..).pages (by decide)
@[simp] theorem refuseStaging_pages (s : State) (fault at_ : Nat) : (s.refuseStaging fault at_).pages = s.pages :=
  (refuseStaging_within ..).pages (by decide)
@[simp] theorem transferWritten_pages (s : State) (ok : Bool) (check : Nat) (c : XferCmd) (t0 : Transfer) :
    (s.transferWritten ok check c t0).pages = s.pages :=
  (transferWritten_within ..).pages (by decide)
@[simp] theorem startActivation_pages (s : State) (p : CmdPath) (kind : ActKind) (stroke : Option Nat) :
    (s.startActivation p kind stroke).pages = s.pages :=
  (startActivation_within ..).pages (by decide)
@[simp] theorem activationRecord_pages (s : State) (how : Nat) : (s.activationRecord how).pages = s.pages :=
  (activationRecord_within ..).pages (by decide)
@[simp] theorem stagingRead_pages (s : State) (a : Activation) (r : ImageReport) :
    (s.stagingRead a r).pages = s.pages :=
  (stagingRead_within ..).pages (by decide)
@[simp] theorem loadFailed_pages (s : State) (a : Activation) : (s.loadFailed a).pages = s.pages :=
  (loadFailed_within ..).pages (by decide)
@[simp] theorem takeEffect_pages (s : State) (a : Activation) : (s.takeEffect a).pages = s.pages :=
  (takeEffect_within ..).pages (by decide)
@[simp] theorem imageOpDone_pages (s : State) : s.imageOpDone.pages = s.pages :=
  (imageOpDone_within ..).pages (by decide)
@[simp] theorem newPass_pages (s : State) : s.newPass.pages = s.pages := (newPass_within ..).pages (by decide)
@[simp] theorem passComplete_pages (s : State) : s.passComplete.pages = s.pages :=
  (passComplete_within ..).pages (by decide)
@[simp] theorem visit_pages (s : State) (mp : Nat) (p : MPage) (errs : List LineErr) :
    (s.visit mp p errs).pages = s.pages :=
  (visit_within ..).pages (by decide)
@[simp] theorem startScrub_pages (s : State) (x : Scrub) (b : Background) : (s.startScrub x b).pages = s.pages :=
  (startScrub_within ..).pages (by decide)
@[simp] theorem scrubDone_pages (s : State) (x : Scrub) (how : ScrubEnd) (reached : Nat) (errs :
    List (Nat × LineErr)) : (s.scrubDone x how reached errs).pages = s.pages :=
  (scrubDone_within ..).pages (by decide)
@[simp] theorem startRelease_pages (s : State) (n : Nat) (us : List Nat) : (s.startRelease n us).pages = s.pages :=
  (startRelease_within ..).pages (by decide)
@[simp] theorem setShelf_pages (s : State) (f : Shelf → Shelf) : (s.setShelf f).pages = s.pages :=
  (setShelf_within ..).pages (by decide)
@[simp] theorem setTime_pages (s : State) (v : Nat) : (s.setTime v).pages = s.pages :=
  (setTime_within ..).pages (by decide)
@[simp] theorem freeTime_pages (s : State) : s.freeTime.pages = s.pages := (freeTime_within ..).pages (by decide)
@[simp] theorem loseContact_pages (s : State) : s.loseContact.pages = s.pages :=
  (loseContact_within ..).pages (by decide)
@[simp] theorem conflict_pages (s : State) : s.conflict.pages = s.pages := (conflict_within ..).pages (by decide)
@[simp] theorem becomeManager_pages (s : State) : s.becomeManager.pages = s.pages :=
  (becomeManager_within ..).pages (by decide)
@[simp] theorem adopt_pages (s : State) (epoch : Nat) (l : List IlvRecord) : (s.adopt epoch l).pages = s.pages :=
  (adopt_within ..).pages (by decide)
@[simp] theorem actOutcome_pages (s : State) (stroke : Nat) (late : Bool) :
    (s.actOutcome stroke late).pages = s.pages :=
  (actOutcome_within ..).pages (by decide)
@[simp] theorem releaseAct_pages (s : State) : s.releaseAct.pages = s.pages :=
  (releaseAct_within ..).pages (by decide)
@[simp] theorem learn_pages (s : State) (seq stroke decision : Nat) : (s.learn seq stroke decision).pages = s.pages :=
  (learn_within ..).pages (by decide)
@[simp] theorem takeConfig_pages (epoch count : Nat) (s : State) :
    (State.takeConfig epoch count s).1.pages = s.pages :=
  (takeConfig_within ..).pages (by decide)
@[simp] theorem takeRecord_pages (epoch index : Nat) (r : IlvRecord) (s : State) :
    (State.takeRecord epoch index r s).1.pages = s.pages :=
  (takeRecord_within ..).pages (by decide)
@[simp] theorem takeGrant_pages (stroke : Nat) (s : State) : (State.takeGrant stroke s).1.pages = s.pages :=
  (takeGrant_within ..).pages (by decide)
@[simp] theorem takePowerOff_pages (stroke : Nat) (s : State) : (State.takePowerOff stroke s).1.pages = s.pages :=
  (takePowerOff_within ..).pages (by decide)
@[simp] theorem takePowerOn_pages (s : State) : (s.takePowerOn.1).pages = s.pages :=
  (takePowerOn_within ..).pages (by decide)
@[simp] theorem takePersist_pages (seq stroke : Nat) (s : State) :
    (State.takePersist seq stroke s).1.pages = s.pages :=
  (takePersist_within ..).pages (by decide)
@[simp] theorem takePrepare_pages (seq stroke : Nat) (r : ImageReport) (s : State) :
    (State.takePrepare seq stroke r s).1.pages = s.pages :=
  (takePrepare_within ..).pages (by decide)
@[simp] theorem takeRelease_pages (s : State) : (s.takeRelease.1).pages = s.pages :=
  (takeRelease_within ..).pages (by decide)
@[simp] theorem followBeacon_pages (s : State) (b : Beacon) : (s.followBeacon b).pages = s.pages :=
  (followBeacon_within ..).pages (by decide)
@[simp] theorem managerHears_pages (s : State) (b : Beacon) : (s.managerHears b).pages = s.pages :=
  (managerHears_within ..).pages (by decide)
@[simp] theorem showPhase_pages (s : State) (e : ℤ) : (s.showPhase e).pages = s.pages :=
  (showPhase_within ..).pages (by decide)
@[simp] theorem acceptPulse_pages (s : State) : s.acceptPulse.pages = s.pages :=
  (acceptPulse_within ..).pages (by decide)
@[simp] theorem acquire_pages (s : State) (e : ℤ) : (s.acquire e).pages = s.pages :=
  (acquire_within ..).pages (by decide)
@[simp] theorem coordinate_pages (s : State) (x : ShelfAct) (a : Activation) : (s.coordinate x a).pages = s.pages :=
  (coordinate_within ..).pages (by decide)
@[simp] theorem newCmd_pages (s : State) (msg : ShelfMsg) (bcast : Bool) (left : List Nat) (why : ShelfWhy) :
    (s.newCmd msg bcast left why).pages = s.pages :=
  (newCmd_within ..).pages (by decide)
@[simp] theorem newOp_pages (s : State) (p : CmdPath) (use : ShelfUse) : (s.newOp p use).pages = s.pages :=
  (newOp_within ..).pages (by decide)
@[simp] theorem opCheck_pages (s : State) (n : Nat) : (s.opCheck n).pages = s.pages :=
  (opCheck_within ..).pages (by decide)
@[simp] theorem opsCheck_pages (s : State) : s.opsCheck.pages = s.pages := (opsCheck_within ..).pages (by decide)
@[simp] theorem giveUp_pages (s : State) (c : ShelfCmd) (l : List Nat) : (s.giveUp c l).pages = s.pages :=
  (giveUp_within ..).pages (by decide)
@[simp] theorem dropTargets_pages (s : State) (seq : Nat) (l : List Nat) : (s.dropTargets seq l).pages = s.pages :=
  (dropTargets_within ..).pages (by decide)
@[simp] theorem pointOwn_pages (s : State) : s.pointOwn.pages = s.pages := (pointOwn_within ..).pages (by decide)
@[simp] theorem shelfPointTick_pages (s : State) : s.shelfPointTick.pages = s.pages :=
  (shelfPointTick_within ..).pages (by decide)
@[simp] theorem endShelfPoint_pages (s : State) (lost : List Nat) : (s.endShelfPoint lost).pages = s.pages :=
  (endShelfPoint_within ..).pages (by decide)
@[simp] theorem actCheck_pages (s : State) : s.actCheck.pages = s.pages := (actCheck_within ..).pages (by decide)
@[simp] theorem sendConfig_pages (s : State) (pos : Nat) (why : ShelfWhy) : (s.sendConfig pos why).pages = s.pages :=
  (sendConfig_within ..).pages (by decide)
@[simp] theorem takeStatus_pages (s : State) (f : Status) : (s.takeStatus f).pages = s.pages :=
  (takeStatus_within ..).pages (by decide)
@[simp] theorem writeBar2_pages (s : State) (o v : Nat) : (s.writeBar2 o v).pages = s.pages :=
  (writeBar2_within ..).pages (by decide)
@[simp] theorem writeDecoder_pages (s : State) (d : Decoder) (commit : Bool) :
    (s.writeDecoder d commit).pages = s.pages :=
  (writeDecoder_within ..).pages (by decide)
@[simp] theorem writeConfig_pages (s : State) (port o v : Nat) : (s.writeConfig port o v).pages = s.pages :=
  (writeConfig_within ..).pages (by decide)
@[simp] theorem telemReject_pages (s : State) : s.telemReject.pages = s.pages :=
  (telemReject_within ..).pages (by decide)
@[simp] theorem writeEvt_pages (s : State) (b i : Nat) (c : EvtCfg) : (s.writeEvt b i c).1.pages = s.pages :=
  (writeEvt_within ..).pages (by decide)
@[simp] theorem writeTelemCtrl_pages (s : State) (v : Word) : (s.writeTelemCtrl v).pages = s.pages :=
  (writeTelemCtrl_within ..).pages (by decide)
@[simp] theorem setK_pages (s : State) (k : Nat) : (s.setK k).pages = s.pages := (setK_within ..).pages (by decide)
@[simp] theorem telemReply_pages (s : State) (p : CmdPath) (ok : Bool) : (s.telemReply p ok).pages = s.pages :=
  (telemReply_within ..).pages (by decide)

/-! ### Operations that run a body they are given -/

/-- Every part but the medium. -/
def offMedium : Nat := 0x1fffffffffffffffffffffffffffffffdffffffffffffffffffffffffffffffffffffff

theorem within_offMedium_iff (s t : State) : Within offMedium s t ↔ t.pages = s.pages := by
  have e : State.pick offMedium s t = { t with pages := s.pages } := rfl
  unfold Within
  rw [e]
  exact ⟨fun h => (congrArg State.pages h).trans rfl, fun h => by rw [← h]⟩

@[simp] theorem command_pages (s : State) (p : CmdPath) (i : Instr) (c : PathClass) (needReady : Bool)
    {f : State → State} (h : ∀ y, (f y).pages = y.pages) : (s.command p i c needReady f).pages = s.pages :=
  (within_offMedium_iff _ _).1
    (command_within s p i c needReady f (by decide) fun y => (within_offMedium_iff _ _).2 (h y))

@[simp] theorem activateCheck_pages (s : State) (p : CmdPath) (now : Bool) {f : State → State}
    (h : ∀ y, (f y).pages = y.pages) : (s.activateCheck p now f).pages = s.pages :=
  (within_offMedium_iff _ _).1 (activateCheck_within s p now f (by decide) fun y => (within_offMedium_iff _ _).2 (h y))

@[simp] theorem ownTransfer_pages (s : State) (p : CmdPath) (slot : Nat) {f : State → Transfer → State}
    (h : ∀ y z, (f y z).pages = y.pages) : (s.ownTransfer p slot f).pages = s.pages :=
  (within_offMedium_iff _ _).1
    (ownTransfer_within s p slot f (by decide) fun y z => (within_offMedium_iff _ _).2 (h y z))

@[simp] theorem shelfControl_pages (s : State) (p : CmdPath) (i : Instr) {f : State → State}
    (h : ∀ y, (f y).pages = y.pages) : (s.shelfControl p i f).pages = s.pages :=
  (within_offMedium_iff _ _).1 (shelfControl_within s p i f (by decide) fun y => (within_offMedium_iff _ _).2 (h y))

@[simp] theorem takeFrame_pages (s : State) (f : Frame) (b : Bool) {run : State → State × Nat}
    (h : ∀ y, (run y).1.pages = y.pages) : (s.takeFrame f b run).pages = s.pages :=
  (within_offMedium_iff _ _).1 (takeFrame_within s f b run (by decide) fun y => (within_offMedium_iff _ _).2 (h y))

@[simp] theorem powerUse_pages (s : State) (p : CmdPath) (u : ShelfUse) (m : ShelfMsg) (k : BitVec 32)
    {own : State → State × Nat} (h : ∀ y, (own y).1.pages = y.pages) :
    (s.powerUse p u m k own).pages = s.pages :=
  (within_offMedium_iff _ _).1 (powerUse_within s p u m k own (by decide) fun y => (within_offMedium_iff _ _).2 (h y))

end Sys2Proof.Machine
end

section
/-! SUPPORT. Which commands change the medium (R79, R96, R125, R163): every command but those that program, erase,
commit or flush leaves the table of pages, those keep its canonical form, and O45. -/

namespace Sys2Proof.Machine

open Sys2Proof

/-- The command's own work leaves the medium. -/
def LeavesMedium (i : Instr) : Prop := ∀ s, ∃ u, exec i s = done s u ∧ u.pages = s.pages

theorem EndsWithin.leavesMedium {m : Nat} {i : Instr} (h : EndsWithin m i) (e : m.testBit 153 = false := by decide) :
    LeavesMedium i := fun s => (h s).imp fun _ hu => ⟨hu.1, hu.2.pages e⟩

theorem EndsFramed.leavesMedium {m : Nat} {l : List Field} {i : Instr} (h : EndsFramed m l i)
    (e : m.testBit 153 = false := by decide) : LeavesMedium i := h.within.leavesMedium e

/-! ### Commands that look at several parts of the state -/

theorem auxApply_leavesMedium (role : Samples) (posA posB posC : BitVec 5) (pfHigh : Bool) (flash : FlashReport) :
    LeavesMedium (.auxApply role posA posB posC pfHigh flash) := fun s =>
  ⟨_, rfl, pages_ite rfl ((flash_pages _).trans ((applyAux_within ..).pages (by decide)))⟩

theorem bandwidthWindowEnd_leavesMedium : LeavesMedium .bandwidthWindowEnd := fun s => by
  refine ⟨_, rfl, ?_⟩
  split
  · rfl
  · refine pages_ite rfl ?_
    extract_lets s1 s2
    have h : s1.pages = s.pages := foldl_pages (fun _ _ => (wr_pages ..).trans (wr_pages ..)) _ s
    clear_value s1
    exact h

theorem commandResend_leavesMedium (seq : Nat) : LeavesMedium (.commandResend seq) := fun s => by
  refine ⟨_, rfl, pages_ite rfl ?_⟩
  split
  · rfl
  split
  · rfl
  refine pages_ite rfl (pages_ite ?_ (by simp))
  extract_lets s1 c
  have h : s1.pages = s.pages := foldl_pages (fun s x => emit_pages ..) _ s
  simp [h]

theorem decayPoll_leavesMedium (polls : List RailPoll) : LeavesMedium (.decayPoll polls) := fun s => by
  refine ⟨_, rfl, pages_ite rfl ?_⟩
  extract_lets s1 p s2
  have h : s1.pages = s.pages := foldl_pages (fun _ _ => by simp) _ s
  split
  · split <;> simp [s2, h]
  · simp [s2, h]

theorem memberDropout_leavesMedium (pos : Nat) : LeavesMedium (.memberDropout pos) := fun s => by
  refine ⟨_, rfl, ?_⟩
  split
  · rfl
  refine pages_ite rfl ?_
  extract_lets s1 l s2 s3
  have h2 : s2.pages = s.pages := (foldl_pages (fun _ _ => by simp) _ s1).trans (by simp [s1])
  have h3 : s3.pages = s.pages := by
    unfold s3
    split
    · split <;> simp [h2]
    · exact h2
  simp [h3]

theorem mergeCfgWrite_leavesMedium (v : Word) : LeavesMedium (.mergeCfgWrite v) := fun s => by
  refine ⟨_, rfl, ?_⟩
  extract_lets b h m same
  exact pages_ite ((flash_pages _).trans ((keepWrite_pages ..).trans ((wr_pages ..).trans (setBudget_pages ..))))
    (setBit_pages ..)

theorem sanitizeComplete_leavesMedium : LeavesMedium .sanitizeComplete := fun s => by
  refine ⟨_, rfl, pages_ite rfl ?_⟩
  extract_lets path p s1
  have h : s1.pages = s.pages := by simp [s1]
  clear_value path
  cases path <;> simp [h]

theorem scrubRange_leavesMedium (p : CmdPath) (start length : Nat) :
    LeavesMedium (.scrubRange p start length) := fun s => by
  refine ⟨_, rfl, command_pages _ _ _ _ _ fun y => pages_ite (by simp) ?_⟩
  extract_lets l r c n
  split
  · simp
  · exact pages_ite (by simp) (by simp)

theorem shelfPersistComplete_leavesMedium : LeavesMedium .shelfPersistComplete := fun s => by
  refine ⟨_, rfl, pages_ite rfl ?_⟩
  extract_lets s1
  have h : s1.pages = s.pages := by simp [s1]
  split
  · exact h
  split
  · exact h
  · exact pages_ite (by simp [h]) h

theorem telemWindowRead_leavesMedium (offset size : Nat) (hbm : HbmErr) :
    LeavesMedium (.telemWindowRead offset size hbm) := fun s => by
  refine ⟨_, rfl, pages_ite rfl (pages_ite ?_ (by simp))⟩
  extract_lets k s1 x s2
  have h1 : s1.pages = s.pages := by simp [s1]
  have h2 : s2.pages = s.pages := by unfold s2; split <;> exact h1
  simp [h2]

/-! ### Commands that choose between two ends -/

theorem keepSectorEraseComplete_leavesMedium (ok : Bool) : LeavesMedium (.keepSectorEraseComplete ok) := fun s => by
  change ∃ u, execKeepSectorEraseComplete ok s = done s u ∧ _
  unfold execKeepSectorEraseComplete
  split <;> exact ⟨_, rfl, by simp⟩

theorem chronicleSectorEraseComplete_leavesMedium (ok : Bool) :
    LeavesMedium (.chronicleSectorEraseComplete ok) := fun s => by
  change ∃ u, execChronicleSectorEraseComplete ok s = done s u ∧ _
  unfold execChronicleSectorEraseComplete
  split <;> exact ⟨_, rfl, by simp⟩

theorem chronicleRunClose_leavesMedium (code source : Nat) :
    LeavesMedium (.chronicleRunClose code source) := fun s => by
  change ∃ u, execChronicleRunClose code source s = done s u ∧ _
  unfold execChronicleRunClose
  split <;> exact ⟨_, rfl, by simp⟩

theorem keepPageIdxWrite_leavesMedium (v : Word) : LeavesMedium (.keepPageIdxWrite v) := fun s => by
  change ∃ u, execKeepPageIdxWrite v s = done s u ∧ _
  unfold execKeepPageIdxWrite
  extract_lets p
  split <;> exact ⟨_, rfl, by simp⟩

/-! ### Every command -/

/-- Every operation that a command is made of leaves the medium, but for the commands that program, erase, commit or
flush: most commands are a chain of such operations, behind conditions on the state. -/
theorem leavesMedium_of_changesMedium_eq_false {i : Instr} (h : changesMedium i = false) : LeavesMedium i := by
  cases i with
  | capoFlushComplete | liftVerify | moveStripeCommit | poolFillTimeout | preconditionComplete | programComplete
  | rebuildComplete | reclaimCopyCommit | settleBackCommit | toggleComplete | warmResetFlushDone => cases h
  | strokeBoundary => exact strokeBoundary_within.leavesMedium
  | planLock => exact planLock_framed.leavesMedium
  | syncEpochBoundary => exact syncEpochBoundary_framed.leavesMedium
  | programResume b => exact (programResume_framed b).leavesMedium
  | readReachScheduler r t c => exact (readReachScheduler_framed r t c).leavesMedium
  | schedCntClr v => exact (schedCntClr_framed v).leavesMedium
  | schedStrokeLoRead => exact schedStrokeLoRead_framed.leavesMedium
  | fipenAlert c => exact (fipenAlert_framed c).leavesMedium
  | readStatusResponse c x => exact (readStatusResponse_framed c x).leavesMedium
  | readStatusNoResponse c => exact (readStatusNoResponse_framed c).leavesMedium
  | fipenTrainingStepLimit c k => exact (fipenTrainingStepLimit_framed c k).leavesMedium
  | fipenTrainingComplete l => exact (fipenTrainingComplete_framed l).leavesMedium
  | fastRetrainComplete c ok => exact (fastRetrainComplete_framed c ok).leavesMedium
  | mediaReadComplete n t e g c => exact (mediaReadComplete_framed n t e g c).leavesMedium
  | reconstructionComplete n t e g => exact (reconstructionComplete_framed n t e g).leavesMedium
  | exchangeOldLineReturn b e => exact (exchangeOldLineReturn_framed b e).leavesMedium
  | ageEpochAdvance => exact ageEpochAdvance_framed.leavesMedium
  | evacuationBlockDone b => exact (evacuationBlockDone_framed b).leavesMedium
  | chanCntClr c v => exact (chanCntClr_framed c v).leavesMedium
  | memRd m => exact (memRd_framed m).leavesMedium
  | memRdData m => exact (memRdData_framed m).leavesMedium
  | memInv m => exact (memInv_framed m).leavesMedium
  | memInvNt m => exact (memInvNt_framed m).leavesMedium
  | memClnEvct m => exact (memClnEvct_framed m).leavesMedium
  | biConflict m => exact (biConflict_framed m).leavesMedium
  | memSpecRd m c => exact (memSpecRd_framed m c).leavesMedium
  | memWr m d p => exact (memWr_framed m d p).leavesMedium
  | memWrPtl m d b p => exact (memWrPtl_framed m d b p).leavesMedium
  | biRsp p l n a x => exact (biRsp_framed p l n a x).leavesMedium
  | fenceBiTimeout n l => exact (fenceBiTimeout_framed n l).leavesMedium
  | snoopTimeout n l => exact (snoopTimeout_framed n l).leavesMedium
  | bisnpCreditReturn p l n => exact (bisnpCreditReturn_framed p l n).leavesMedium
  | ideIntegrityFailure p l => exact (ideIntegrityFailure_framed p l).leavesMedium
  | linkDown p l => exact (linkDown_framed p l).leavesMedium
  | perstNAssert p n => exact (perstNAssert_framed p n).leavesMedium
  | perstNDeassert p => exact (perstNDeassert_framed p).leavesMedium
  | linkUp p l r w f => exact (linkUp_framed p l r w f).leavesMedium
  | portCfgWrite p v => exact (portCfgWrite_framed p v).leavesMedium
  | portCntClr p v => exact (portCntClr_framed p v).leavesMedium
  | sessCntClr v => exact (sessCntClr_framed v).leavesMedium
  | sessQCntClr v => exact (sessQCntClr_framed v).leavesMedium
  | sessionCreate p n w => exact (sessionCreate_framed p n w).leavesMedium
  | sessionModify p n w => exact (sessionModify_framed p n w).leavesMedium
  | sessionFence p n => exact (sessionFence_framed p n).leavesMedium
  | sessionGet p n => exact (sessionGet_framed p n).leavesMedium
  | fenceDrainEnd n => exact (fenceDrainEnd_framed n).leavesMedium
  | allowanceCheck n l p e f => exact (allowanceCheck_framed n l p e f).leavesMedium
  | spillRefill n l e => exact (spillRefill_framed n l e).leavesMedium
  | mergeBufferLookupReturn r t e => exact (mergeBufferLookupReturn_framed r t e).leavesMedium
  | readCacheProbeReturn r e => exact (readCacheProbeReturn_framed r e).leavesMedium
  | sliceFillInstall n l => exact (sliceFillInstall_framed n l).leavesMedium
  | mergeComplete l => exact (mergeComplete_framed l).leavesMedium
  | fillReturn l a b c g => exact (fillReturn_framed l a b c g).leavesMedium
  | auxApply role a b c hi flash => exact auxApply_leavesMedium role a b c hi flash
  | bandwidthWindowEnd => exact bandwidthWindowEnd_leavesMedium
  | chronicleRunClose c n => exact chronicleRunClose_leavesMedium c n
  | chronicleSectorEraseComplete ok => exact chronicleSectorEraseComplete_leavesMedium ok
  | commandResend n => exact commandResend_leavesMedium n
  | decayPoll l => exact decayPoll_leavesMedium l
  | keepPageIdxWrite v => exact keepPageIdxWrite_leavesMedium v
  | keepSectorEraseComplete ok => exact keepSectorEraseComplete_leavesMedium ok
  | memberDropout n => exact memberDropout_leavesMedium n
  | mergeCfgWrite v => exact mergeCfgWrite_leavesMedium v
  | sanitizeComplete => exact sanitizeComplete_leavesMedium
  | scrubRange p a n => exact scrubRange_leavesMedium p a n
  | shelfPersistComplete => exact shelfPersistComplete_leavesMedium
  | telemWindowRead a n e => exact telemWindowRead_leavesMedium a n e
  | addDynamicCapacityResponse | clearEventRecords | getDynamicCapacityExtentList | getEventRecords | getPoisonList
  | getScanMediaCapabilities | initiateDynamicCapacityAdd | releaseDynamicCapacity | releaseRange
  | requestAbortBackgroundOperation | scanMedia | transferFwAbort | transferFwInitiate =>
    exact fun s => ⟨_, rfl, command_pages _ _ _ _ _ fun y => by
      (repeat' split) <;> simp [foldl_pages, apply_ite State.pages]⟩
  | activationInDoubt | activationTakeEffect | backInvalidateWalkEnd | coordinatedActivation | eraseAuthExpiry
  | imageSlotFlashComplete | loadTableComplete | motionLapse | offHoldExpiry | patrolVisit
  | persistencePointComplete | powerOffStroke | reclaim | registerWrite | rekeyPassEnd | releaseRangeComplete
  | scrubRangeComplete | shelfFrameDiscard | shlSyncPulse | snapshotRecordWritten =>
    exact fun s => ⟨_, rfl, by (repeat' split) <;> simp [foldl_pages, apply_ite State.pages]⟩
  | _ => exact fun s => ⟨_, rfl, by simp [foldl_pages, apply_ite State.pages]⟩

/-! ### The commands that change the medium -/

/-- The command's own work keeps the canonical form of the medium's table. -/
def KeepsMediumWf (i : Instr) : Prop := ∀ s, ∃ u, exec i s = done s u ∧ KeepsOrder s u

theorem LeavesMedium.keepsMediumWf {i : Instr} (h : LeavesMedium i) : KeepsMediumWf i := fun s =>
  (h s).imp fun _ hu => ⟨hu.1, .of_pages_eq hu.2⟩

theorem programComplete_keepsMediumWf (b : BankId) : KeepsMediumWf (.programComplete b) := fun s => by
  refine ⟨_, rfl, ?_⟩
  have hexchanged (o : BankOp) : KeepsOrder s (if o.returned then s.exchanged (bankKey b) o else s) :=
    .ite (fun _ => exchanged_keepsOrder ..) fun _ => .rfl
  extract_lets k
  split
  · exact .rfl
  refine .ite (fun _ => .rfl) fun _ => ?_
  split
  · exact hexchanged _
  · exact hexchanged _
  · exact ⟨refreshed_sorted s _ _⟩
  · exact ⟨tagged_sorted s _ _⟩
  · exact .rfl

theorem toggleComplete_keepsMediumWf (b : BankId) : KeepsMediumWf (.toggleComplete b) := fun s => by
  refine ⟨_, rfl, ?_⟩
  extract_lets k t
  have ht : KeepsOrder s t := KeepsOrder.rfl.set
  split
  · exact .rfl
  refine .ite (fun _ => .rfl) fun _ => ?_
  extract_lets rebuilt
  have hrebuilt : KeepsOrder s rebuilt := ht.trans (setParity_keepsOrder ..)
  split
  · exact (ht.trans (setParity_keepsOrder ..)).set
  · exact hrebuilt.set
  · exact .rfl

theorem moveStripeCommit_keepsMediumWf (tract : Nat) : KeepsMediumWf (.moveStripeCommit tract) := fun s => by
  refine ⟨_, rfl, ?_⟩
  split
  · exact .rfl
  split
  · exact .rfl
  refine .ite (fun _ => .rfl) fun _ => ?_
  split
  · exact .rfl
  next hlift => exact (liftAllFailed_keepsOrder hlift).trans (commitStripe_keepsOrder ..)

theorem liftVerify_keepsMediumWf (lpn : Nat) : KeepsMediumWf (.liftVerify lpn) := fun s => by
  refine ⟨_, rfl, ?_⟩
  split
  · exact .rfl
  exact .ite (fun _ => .rfl) fun _ => .foldl (fun _ _ => KeepsOrder.rfl.via (drainVerified_within ..)) _
    (((KeepsOrder.rfl.via (endCopy_within ..)).trans (programPage_keepsOrder ..)).via (setFluid_within ..))

theorem reclaimCopyCommit_keepsMediumWf (lpn : Nat) : KeepsMediumWf (.reclaimCopyCommit lpn) := fun s => by
  refine ⟨_, rfl, ?_⟩
  split
  · exact .rfl
  refine .ite (fun _ => .rfl) fun _ => ?_
  extract_lets u
  have hu : KeepsOrder s u :=
    ((KeepsOrder.rfl.via (tele_within ..)).via (endCopy_within ..)).trans (programPage_keepsOrder ..)
  split
  · exact .ite (fun _ => hu.via (setFluid_within ..)) fun _ => hu
  · exact hu

theorem settleBackCommit_keepsMediumWf (lpn : Nat) : KeepsMediumWf (.settleBackCommit lpn) := fun s => by
  refine ⟨_, rfl, ?_⟩
  split
  · exact .rfl
  extract_lets t x u v
  have hu : KeepsOrder s u := KeepsOrder.rfl.set
  have hv : KeepsOrder s v := ((hu.via (tele_within ..)).trans ⟨rewriteHome_sorted _ _ _⟩).via (dropFluid_within ..)
  exact .ite (fun _ => .foldl (fun _ _ => KeepsOrder.rfl.via (drainFailed_within ..)) _ hu) fun _ =>
    .foldl (fun _ _ => KeepsOrder.rfl.via (drainVerified_within ..)) _ hv

theorem preconditionComplete_keepsMediumWf (sbn : Nat) (failed : BitVec 8) :
    KeepsMediumWf (.preconditionComplete sbn failed) := fun s => by
  refine ⟨_, rfl, .ite (fun _ => .rfl) fun _ => .via (.ite (fun _ => ?_) fun _ => ?_) (poolCounts_within _)⟩
  · exact .set ⟨eraseBlock_sorted s sbn⟩ (preconditioned_pages s sbn)
  · exact .set ⟨eraseBlock_sorted s sbn⟩ (precondFailed_pages s sbn failed)

theorem poolFillTimeout_keepsMediumWf (course : Nat) (hot : Bool) :
    KeepsMediumWf (.poolFillTimeout course hot) := fun s => by
  refine ⟨_, rfl, ?_⟩
  split
  · exact .rfl
  · exact .ite (fun _ => .rfl) fun _ => fillStripe_keepsOrder ..

theorem capoFlushComplete_keepsMediumWf (us : Nat) : KeepsMediumWf (.capoFlushComplete us) := fun s => by
  refine ⟨_, rfl, .ite (fun _ => .rfl) fun _ => ?_⟩
  extract_lets s1 s2 s3
  have h1 : KeepsOrder s s1 := (flushAll_keepsOrder s).via (markFlush_within _)
  have h2 : KeepsOrder s s2 := (h1.via (wr_within ..)).via (wr_within ..)
  have h3 : KeepsOrder s s3 := (h2.via (capoRecord_within ..)).via (saveSpread_within _)
  exact h3.set.via (saveKeep_within _)

theorem rebuildComplete_keepsMediumWf (strokes : Nat) : KeepsMediumWf (.rebuildComplete strokes) := fun s => by
  refine ⟨_, rfl, .ite (fun _ => .rfl) fun _ => ?_⟩
  extract_lets s1 s2
  have h1 : KeepsOrder s s1 := ((rebuild_keepsOrder s).via (unsealSlots_within _)).via (markedBlocks_within _)
  have h2 : KeepsOrder s s2 := (h1.via (wr_within ..)).via (flash_within _)
  exact h2.set

theorem warmResetFlushDone_keepsMediumWf : KeepsMediumWf .warmResetFlushDone := fun s =>
  ⟨_, rfl, .ite (fun _ => .rfl) fun _ => warmFlushed_keepsOrder s⟩

theorem keepsMediumWf (i : Instr) : KeepsMediumWf i := by
  cases i with
  | programComplete b => exact programComplete_keepsMediumWf b
  | toggleComplete b => exact toggleComplete_keepsMediumWf b
  | moveStripeCommit tract => exact moveStripeCommit_keepsMediumWf tract
  | liftVerify lpn => exact liftVerify_keepsMediumWf lpn
  | reclaimCopyCommit lpn => exact reclaimCopyCommit_keepsMediumWf lpn
  | settleBackCommit lpn => exact settleBackCommit_keepsMediumWf lpn
  | preconditionComplete sbn failed => exact preconditionComplete_keepsMediumWf sbn failed
  | poolFillTimeout course hot => exact poolFillTimeout_keepsMediumWf course hot
  | capoFlushComplete us => exact capoFlushComplete_keepsMediumWf us
  | rebuildComplete strokes => exact rebuildComplete_keepsMediumWf strokes
  | warmResetFlushDone => exact warmResetFlushDone_keepsMediumWf
  | _ => exact (leavesMedium_of_changesMedium_eq_false rfl).keepsMediumWf

/-- Settles O45: the eleven commands that program, erase, commit or flush keep the canonical form operation by
operation; no other command's work reaches the medium, and neither does the look that a command's end takes. -/
theorem mediumStaysCanonical : Obligations.MediumStaysCanonical := by
  intro s t hstep
  unfold step at hstep
  cases hqueue : s.pending with
  | nil =>
    rw [hqueue] at hstep
    cases hstep
    exact ⟨id, fun hchanged => absurd rfl hchanged⟩
  | cons c rest =>
    rw [hqueue] at hstep
    have hend : exec c { s with pending := rest } = .next t := hstep
    constructor
    · obtain ⟨u, hu, hkeeps⟩ := keepsMediumWf c { s with pending := rest }
      rw [hu, done_eq_next_ended] at hend
      cases hend
      exact fun hs => (congrArg Tab.sorted (ended_pages _ u)).trans (hkeeps.wf hs)
    · intro hchanged
      refine ⟨c, rest, rfl, ?_⟩
      by_contra hc
      obtain ⟨u, hu, hpages⟩ :=
        leavesMedium_of_changesMedium_eq_false (Bool.eq_false_of_not_eq_true hc) { s with pending := rest }
      rw [hu, done_eq_next_ended] at hend
      cases hend
      exact hchanged ((ended_pages _ u).trans hpages)

end Sys2Proof.Machine
end

section
/-! SUPPORT. Where the operations of the medium store (R96, R97, R105, R117, R119, R125, R128 to R130), and O46. -/

namespace Sys2Proof.Machine

open Sys2Proof

/-! ### Stores within a set of pages -/

/-- Every page outside `P` is as it was. -/
structure StoresWithin (P : Nat → Prop) (s t : State) : Prop where
  find_eq : ∀ k, ¬P k → t.pages.find k = s.pages.find k

namespace StoresWithin

variable {P : Nat → Prop} {s t u : State}

theorem of_pages_eq (h : t.pages = s.pages) : StoresWithin P s t :=
  ⟨fun k _ => congrArg (fun l => Tab.find l k) h⟩

theorem rfl : StoresWithin P s s := of_pages_eq (Eq.refl _)

theorem trans (h : StoresWithin P s t) (g : StoresWithin P t u) : StoresWithin P s u :=
  ⟨fun k hk => (g.find_eq k hk).trans (h.find_eq k hk)⟩

/-- An operation whose parts leave out the medium (part 153). -/
theorem via {m : Nat} (h : StoresWithin P s t) (hw : Within m t u) (hb : m.testBit 153 = false := by decide) :
    StoresWithin P s u := h.trans (of_pages_eq (hw.pages hb))

theorem ite {c : Prop} [Decidable c] (ht : c → StoresWithin P s t) (hu : ¬c → StoresWithin P s u) :
    StoresWithin P s (if c then t else u) := by
  split
  · exact ht ‹_›
  · exact hu ‹_›

theorem foldl {α : Type} {f : State → α → State} (hf : ∀ t x, StoresWithin P t (f t x)) (l : List α)
    (h : StoresWithin P s t) : StoresWithin P s (l.foldl f t) := by
  induction l generalizing t with
  | nil => exact h
  | cons x l ih => exact ih (h.trans (hf t x))

end StoresWithin

/-- A page append stores to its page and to the parity page of its stripe. -/
theorem programPage_storesWithin (s : State) (mp : Nat) (p : MPage) :
    StoresWithin (fun k => k = mp ∨ k = mpParity mp) s (s.programPage mp p) :=
  ⟨fun k hk => programPage_find s mp p k (fun h => hk (.inl h)) fun h => hk (.inr h)⟩

theorem rewriteHome_storesWithin (s : State) (home : Nat) (p : MPage) :
    StoresWithin (fun k => k = home ∨ k = mpParity home) s (s.rewriteHome home p) :=
  ⟨fun k hk => rewriteHome_find s home p k (fun h => hk (.inl h)) fun h => hk (.inr h)⟩

theorem eraseBlock_storesWithin (s : State) (sbn : Nat) :
    StoresWithin (fun k => mpSbn k = sbn) s (s.eraseBlock sbn) :=
  ⟨fun k hk => (eraseBlock_find s sbn k).trans (if_neg hk)⟩

/-! ### Stores to one line -/

/-- Every other page, and every other line, is as it was. -/
structure StoresLine (mp ln : Nat) (s t : State) : Prop where
  pages : StoresWithin (· = mp) s t
  mline_eq : ∀ k j, ¬(k = mp ∧ j = ln) → t.mline k j = s.mline k j

theorem mline_congr {s t : State} (h : t.pages = s.pages) (mp ln : Nat) : t.mline mp ln = s.mline mp ln := by
  unfold State.mline; rw [h]

namespace StoresLine

variable {mp ln : Nat} {s t u : State}

theorem of_pages_eq (h : t.pages = s.pages) : StoresLine mp ln s t := ⟨.of_pages_eq h, fun _ _ _ => mline_congr h _ _⟩

theorem trans (h : StoresLine mp ln s t) (g : StoresLine mp ln t u) : StoresLine mp ln s u :=
  ⟨h.pages.trans g.pages, fun k j hkj => (g.mline_eq k j hkj).trans (h.mline_eq k j hkj)⟩

end StoresLine

theorem setMline_storesLine (s : State) (mp ln : Nat) (l : MLine) : StoresLine mp ln s (s.setMline mp ln l) :=
  ⟨⟨setMline_find s mp ln l⟩, setMline_mline s mp ln l⟩

theorem setParity_storesLine (s : State) (mp ln : Nat) (l : Lin) : StoresLine mp ln s (s.setParity mp ln l) :=
  ⟨⟨setParity_find s mp ln l⟩, setParity_mline s mp ln l⟩

theorem exchanged_storesLine (s : State) (b : Nat) (o : BankOp) : StoresLine o.mp o.ln s (s.exchanged b o) :=
  (setMline_storesLine s o.mp o.ln o.new).trans (.of_pages_eq (exchanged_pages s b o))

theorem refreshed_storesWithin (s : State) (b : Nat) (o : BankOp) : StoresWithin (· = o.mp) s (s.refreshed b o) := by
  refine ⟨fun k hk => ?_⟩
  rw [refreshed_pages]
  split
  · exact Tab.find_put_ne _ _ _ _ hk
  · rfl

/-- The tag of a page is no line of it: the exchange of its TIME leaves the lines (Table 6-6). -/
theorem tagged_storesLine (s : State) (b : Nat) (o : BankOp) : StoresLine o.mp o.ln s (s.tagged b o) := by
  unfold State.tagged
  extract_lets s1
  split
  · next p hp =>
    constructor
    · exact ⟨fun k hk => Tab.find_put_ne _ _ _ _ hk⟩
    · intro k j _
      by_cases hk : k = o.mp
      · subst hk
        have hold : s.pages.find o.mp = some p := hp
        simp only [State.mline, Tab.find_put_self, hold, Option.map_some]
        rfl
      · exact congrArg (Option.map fun q : MPage => q.line j) (Tab.find_put_ne _ _ _ _ hk)
  · exact .of_pages_eq rfl

/-! ### Commands on one bank -/

theorem pages_of_exec {i : Instr} {s t u : State} (h : exec i s = .next t) (hu : exec i s = done s u) :
    t.pages = u.pages := by
  rw [hu, done_eq_next_ended] at h
  cases h
  exact ended_pages s u

/-- PROGRAM_COMPLETE of an operation changes one line of its page, or refreshes the page. -/
theorem programComplete_stores {b : BankId} {s : State} {o : BankOp} (ho : s.ops.find (bankKey b) = some o) :
    ∃ u, exec (.programComplete b) s = done s u
      ∧ (StoresLine o.mp o.ln s u ∨ o.kind = .refresh ∧ StoresWithin (· = o.mp) s u) := by
  refine ⟨_, rfl, ?_⟩
  extract_lets k
  have hexchanged : StoresLine o.mp o.ln s (if o.returned then s.exchanged k o else s) := by
    split
    · exact exchanged_storesLine s k o
    · exact .of_pages_eq rfl
  split
  · exact .inl (.of_pages_eq rfl)
  next o' ho' =>
  cases ho.symm.trans ho'
  split
  · exact .inl (.of_pages_eq rfl)
  split
  · exact .inl hexchanged
  · exact .inl hexchanged
  · next hkind => exact .inr ⟨hkind, refreshed_storesWithin s k o⟩
  · exact .inl (tagged_storesLine s k o)
  · exact .inl (.of_pages_eq rfl)

theorem programComplete_idle {b : BankId} {s : State} (ho : s.ops.find (bankKey b) = none) :
    exec (.programComplete b) s = done s s := by
  show execProgramComplete b s = done s s
  simp only [execProgramComplete, ho]

theorem toggleComplete_stores {b : BankId} {s : State} {o : BankOp} (ho : s.ops.find (bankKey b) = some o) :
    ∃ u, exec (.toggleComplete b) s = done s u ∧ StoresLine o.mp o.ln s u := by
  refine ⟨_, rfl, ?_⟩
  extract_lets k t
  have hparity (l : Lin) : StoresLine o.mp o.ln s (t.setParity o.mp o.ln l) :=
    have ht : StoresLine o.mp o.ln s t := .of_pages_eq rfl
    ht.trans (setParity_storesLine t o.mp o.ln l)
  split
  · exact .of_pages_eq rfl
  next o' ho' =>
  cases ho.symm.trans ho'
  split
  · exact .of_pages_eq rfl
  extract_lets rebuilt
  split
  · exact (hparity _).trans (.of_pages_eq rfl)
  · exact (hparity _).trans (.of_pages_eq rfl)
  · exact .of_pages_eq rfl

theorem toggleComplete_idle {b : BankId} {s : State} (ho : s.ops.find (bankKey b) = none) :
    exec (.toggleComplete b) s = done s s := by
  show execToggleComplete b s = done s s
  simp only [execToggleComplete, ho]

/-! ### Commits of appends and settle-backs -/

/-- The destinations of the appends of a logical page, with the parity pages of their stripes. -/
def CopyPlaces (s : State) (lpn mp : Nat) : Prop :=
  ∃ c ∈ s.xlat.copies, c.lpn = lpn ∧ (mp = c.dst ∨ mp = mpParity c.dst)

theorem CopyPlaces.append {s u : State} {lpn : Nat} {c : Copy} (hc : c ∈ s.xlat.copies) (hlpn : c.lpn = lpn)
    (h : StoresWithin (fun k => k = c.dst ∨ k = mpParity c.dst) s u) : StoresWithin (CopyPlaces s lpn) s u :=
  ⟨fun k hk => h.find_eq k fun hplace => hk ⟨c, hc, hlpn, hplace⟩⟩

theorem liftVerify_stores (lpn : Nat) (s : State) :
    ∃ u, exec (.liftVerify lpn) s = done s u ∧ StoresWithin (CopyPlaces s lpn) s u := by
  refine ⟨_, rfl, ?_⟩
  split
  · exact .rfl
  next c hfind =>
  have hlpn : c.lpn = lpn := by have := List.find?_some hfind; simp_all
  refine .ite (fun _ => .rfl) fun _ => CopyPlaces.append (List.mem_of_find?_eq_some hfind) hlpn ?_
  exact .foldl (fun _ _ => StoresWithin.rfl.via (drainVerified_within ..)) _
    ((((StoresWithin.rfl).via (endCopy_within ..)).trans (programPage_storesWithin ..)).via (setFluid_within ..))

theorem reclaimCopyCommit_stores (lpn : Nat) (s : State) :
    ∃ u, exec (.reclaimCopyCommit lpn) s = done s u ∧ StoresWithin (CopyPlaces s lpn) s u := by
  refine ⟨_, rfl, ?_⟩
  split
  · exact .rfl
  next c hfind =>
  have hlpn : c.lpn = lpn := by have := List.find?_some hfind; simp_all
  refine .ite (fun _ => .rfl) fun _ => CopyPlaces.append (List.mem_of_find?_eq_some hfind) hlpn ?_
  extract_lets u
  have hu : StoresWithin (fun k => k = c.dst ∨ k = mpParity c.dst) s u :=
    ((StoresWithin.rfl.via (tele_within ..)).via (endCopy_within ..)).trans (programPage_storesWithin ..)
  split
  · exact .ite (fun _ => hu.via (setFluid_within ..)) fun _ => hu
  · exact hu

/-- The home page of a logical page and the parity page of its stripe. -/
def HomePlaces (s : State) (lpn mp : Nat) : Prop :=
  mp = homeMp (s.tract (tractOfLpn lpn)).sb lpn ∨ mp = mpParity (homeMp (s.tract (tractOfLpn lpn)).sb lpn)

theorem settleBackCommit_stores (lpn : Nat) (s : State) :
    ∃ u, exec (.settleBackCommit lpn) s = done s u ∧ StoresWithin (HomePlaces s lpn) s u := by
  refine ⟨_, rfl, ?_⟩
  split
  · exact .rfl
  extract_lets t x u v
  have hu : StoresWithin (HomePlaces s lpn) s u := .of_pages_eq rfl
  have hv : StoresWithin (HomePlaces s lpn) s v :=
    ((hu.via (tele_within ..)).trans (rewriteHome_storesWithin ..)).via (dropFluid_within ..)
  exact .ite (fun _ => .foldl (fun _ _ => StoresWithin.rfl.via (drainFailed_within ..)) _ hu) fun _ =>
    .foldl (fun _ _ => StoresWithin.rfl.via (drainVerified_within ..)) _ hv

/-! ### Preconditions -/

theorem preconditionComplete_stores (sbn : Nat) (failed : BitVec 8) (s : State) :
    ∃ u, exec (.preconditionComplete sbn failed) s = done s u
      ∧ u.pages = if s.preconditioning.contains sbn then (s.eraseBlock sbn).pages else s.pages := by
  refine ⟨_, rfl, ?_⟩
  have herased : (if failed = 0 then s.preconditioned sbn else s.precondFailed sbn failed).pages =
      (s.eraseBlock sbn).pages := pages_ite (preconditioned_pages s sbn) (precondFailed_pages s sbn failed)
  cases s.preconditioning.contains sbn
  · rfl
  · exact (poolCounts_pages _).trans herased

/-! ### Moves -/

/-- The eight pages of the stripe at PTR of a tract's move. -/
def StripePlaces (s : State) (tract mp : Nat) : Prop := ∃ k < 8, mp = mpOf (s.tract tract).sb (s.tract tract).ptr k

theorem commitStripe_storesWithin (s : State) (m : Move) (pages : List MPage) :
    StoresWithin (StripePlaces s m.tract) s (s.commitStripe m pages) := by
  refine ⟨fun mp hmp => ?_⟩
  rw [commitStripe_pages]
  exact programStripe_find _ _ _ _ _ _ fun k hk e => hmp ⟨k, hk, e⟩

/-- MOVE_STRIPE_COMMIT appends the pages of the stripe that have failed, then stores the stripe. -/
theorem moveStripeCommit_stores {tract : Nat} {s : State} {m : Move}
    (hm : s.xlat.moves.find? (fun m => m.tract == tract) = some m) :
    ∃ u, exec (.moveStripeCommit tract) s = done s u
      ∧ (m.failed = [] → StoresWithin (StripePlaces s m.tract) s u)
      ∧ ∀ pages v, m.load = some pages → m.committed = false →
          s.liftAllFailed m pages (m.failed.filter (· < 7)) = some v → StoresWithin (StripePlaces v m.tract) v u := by
  refine ⟨_, rfl, ?_⟩
  split
  · next hnone => cases hm.symm.trans hnone
  next m' hm' =>
  cases hm.symm.trans hm'
  split
  · next hload => exact ⟨fun _ => .rfl, fun _ _ h => nomatch hload.symm.trans h⟩
  next pages hload =>
  split
  · next hdone => exact ⟨fun _ => .rfl, fun _ _ _ h => nomatch hdone.symm.trans h⟩
  split
  · next hlift =>
    refine ⟨fun _ => .rfl, fun pages' v h _ hv => ?_⟩
    cases hload.symm.trans h
    cases hlift.symm.trans hv
  · next u hlift =>
    constructor
    · intro hfailed
      rw [hfailed] at hlift
      cases hlift
      exact commitStripe_storesWithin s m pages
    · intro pages' v h _ hv
      cases hload.symm.trans h
      cases hlift.symm.trans hv
      exact commitStripe_storesWithin u m pages

/-! ### Filler pages (R125) -/

/-- The pages of stripe `st` of a block. -/
def InStripe (sbn st mp : Nat) : Prop := mp / 8 = sbn * 256 + st

theorem mpOf_inStripe (sbn st : Nat) {pos : Nat} (h : pos < 8) : InStripe sbn st (mpOf sbn st pos) := by
  unfold InStripe mpOf; omega

theorem mpParity_div (mp : Nat) : mpParity mp / 8 = mp / 8 := by
  have hpos : parityPos (mpSbn mp) (mpStripe mp) < 8 := Nat.mod_lt _ (by decide)
  unfold mpParity mpOf
  generalize parityPos (mpSbn mp) (mpStripe mp) = pos at hpos
  unfold mpSbn mpStripe
  omega

@[simp] theorem wear_fill (s : State) (b n c : Nat) : ((s.wear b n).block c).fill = (s.block c).fill := by
  unfold State.wear
  by_cases h : c = b
  · subst h; rw [block_setBlock_self]
  · rw [block_setBlock_ne _ _ _ _ h]

theorem Within.block {m : Nat} {s t : State} (h : Within m s t) (b : Nat) (e : m.testBit 171 = false := by decide) :
    t.block b = s.block b := by
  have hblocks : t.xlat.blocks = s.xlat.blocks := by
    simpa only [State.pick, e, cond_false] using congrArg (fun u : State => u.xlat.blocks) h
  unfold State.block; rw [hblocks]

@[simp] theorem teleAppend_block (s : State) (l : List Nat) (b : Nat) : (s.teleAppend l).block b = s.block b :=
  (teleAppend_within s l).block b

theorem closeStripe_fill (s : State) (sbn st b : Nat) : ((s.closeStripe sbn st).block b).fill = (s.block b).fill := by
  unfold State.closeStripe
  extract_lets ps par
  split
  · rfl
  · rw [teleAppend_block, wear_fill]; rfl

theorem programPage_fill (s : State) (mp : Nat) (p : MPage) (b : Nat) :
    ((s.programPage mp p).block b).fill = (s.block b).fill := by
  unfold State.programPage
  rw [closeStripe_fill, teleAppend_block, wear_fill]; rfl

theorem seal_fill (s : State) (sbn b : Nat) : ((s.seal sbn).block b).fill = (s.block b).fill := by
  unfold State.seal
  extract_lets opens x u
  by_cases h : b = sbn
  · subst h; rw [block_setBlock_self]; rfl
  · rw [block_setBlock_ne _ _ _ _ h]; rfl

/-- The next page of an open block is the next of the stripe being filled. -/
theorem takePage_place (s : State) (hot : Bool) (course : Nat) (o : OpenBlock) :
    InStripe o.sbn ((s.block o.sbn).fill / 7) (s.takePage hot course o).2 := by
  have h (pos : Nat) : dataPos o.sbn ((s.block o.sbn).fill / 7) pos < 8 := Nat.mod_lt _ (by decide)
  unfold State.takePage
  extract_lets k dst u o'
  split
  · exact mpOf_inStripe _ _ (h _)
  · exact mpOf_inStripe _ _ (h _)

theorem takePage_fill (s : State) (hot : Bool) (course : Nat) (o : OpenBlock) :
    ((s.takePage hot course o).1.block o.sbn).fill = (s.block o.sbn).fill + 1 := by
  unfold State.takePage
  extract_lets k dst u o'
  have hu : (u.block o.sbn).fill = k.fill + 1 := by
    unfold u; rw [block_setBlock_self]
  split
  · exact (seal_fill _ _ _).trans hu
  · exact hu

/-- One filler page of an open stripe, as `fillStripe` programs it. -/
def State.fillOne (s : State) (hot : Bool) (course sbn epoch : Nat) : State :=
  match s.xlat.opens.find (openKey hot course) with
  | none => s
  | some o =>
    if o.sbn ≠ sbn then s else
    let u := s.takeSeq.1.takePage hot course o
    u.1.programPage u.2 (u.1.fillerPage hot epoch s.takeSeq.2)

theorem fillStripe_eq (s : State) (hot : Bool) (course : Nat) (o : OpenBlock) : s.fillStripe hot course o =
    (List.range ((7 - (s.block o.sbn).fill % 7) % 7)).foldl
      (fun t _ => t.fillOne hot course o.sbn (s.block o.sbn).epoch) s := rfl

/-- A filler page goes to the stripe being filled, and counts at most one page of it. -/
theorem fillOne_stores (s : State) (hot : Bool) (course sbn epoch : Nat) :
    StoresWithin (InStripe sbn ((s.block sbn).fill / 7)) s (s.fillOne hot course sbn epoch)
      ∧ ((s.fillOne hot course sbn epoch).block sbn).fill ∈ Set.Icc (s.block sbn).fill ((s.block sbn).fill + 1) := by
  unfold State.fillOne
  split
  · exact ⟨.rfl, by simp⟩
  next o _ =>
  split
  · exact ⟨.rfl, by simp⟩
  next hsbn =>
  obtain rfl : o.sbn = sbn := not_not.1 hsbn
  extract_lets u
  have hplace : InStripe o.sbn ((s.block o.sbn).fill / 7) u.2 := takePage_place s.takeSeq.1 hot course o
  have hfill : (u.1.block o.sbn).fill = (s.block o.sbn).fill + 1 := takePage_fill s.takeSeq.1 hot course o
  have hu : StoresWithin (InStripe o.sbn ((s.block o.sbn).fill / 7)) s u.1 :=
    (StoresWithin.rfl.via (takeSeq_within s)).via (takePage_within ..)
  clear_value u
  constructor
  · refine hu.trans ⟨fun mp hmp => programPage_find _ _ _ _ ?_ ?_⟩
    · rintro rfl
      exact hmp hplace
    · rintro rfl
      exact hmp ((mpParity_div _).trans hplace)
  · simp [programPage_fill, hfill]

/-- Filler pages that fit into a stripe stay in it. -/
theorem foldl_fillOne_stores (hot : Bool) (course sbn epoch st : Nat) (l : List Nat) (s : State)
    (hst : (s.block sbn).fill / 7 = st) (hroom : (s.block sbn).fill + l.length ≤ 7 * st + 7) :
    StoresWithin (InStripe sbn st) s (l.foldl (fun t _ => t.fillOne hot course sbn epoch) s) := by
  induction l generalizing s with
  | nil => exact .rfl
  | cons x l ih =>
    obtain ⟨hstores, hlow, hhigh⟩ := fillOne_stores s hot course sbn epoch
    rw [hst] at hstores
    rw [List.length_cons] at hroom
    rcases Nat.eq_zero_or_pos l.length with hl | hl
    · rw [List.length_eq_zero_iff.1 hl]
      exact hstores
    · exact hstores.trans (ih _ (by omega) (by omega))

theorem fillStripe_storesWithin (s : State) (hot : Bool) (course : Nat) (o : OpenBlock) :
    StoresWithin (InStripe o.sbn ((s.block o.sbn).fill / 7)) s (s.fillStripe hot course o) := by
  rw [fillStripe_eq]
  refine foldl_fillOne_stores _ _ _ _ _ _ s rfl ?_
  rw [List.length_range]
  omega

theorem poolFillTimeout_stores {course : Nat} {hot : Bool} {s : State} {o : OpenBlock}
    (ho : s.xlat.opens.find (openKey hot course) = some o) :
    ∃ u, exec (.poolFillTimeout course hot) s = done s u
      ∧ StoresWithin (InStripe o.sbn ((s.block o.sbn).fill / 7)) s u := by
  refine ⟨_, rfl, ?_⟩
  split
  · exact .rfl
  next o' ho' =>
  cases ho.symm.trans ho'
  exact .ite (fun _ => .rfl) fun _ => fillStripe_storesWithin s hot course o

theorem poolFillTimeout_idle {course : Nat} {hot : Bool} {s : State}
    (ho : s.xlat.opens.find (openKey hot course) = none) : exec (.poolFillTimeout course hot) s = done s s := by
  show execPoolFillTimeout course hot s = done s s
  simp only [execPoolFillTimeout, ho]

/-! ### O46 -/

/-- Where a command's work stores, the state that it answers differs. -/
theorem StoresWithin.of_exec {P : Nat → Prop} {i : Instr} {s t u : State} (h : exec i s = .next t)
    (hu : exec i s = done s u) (hstores : StoresWithin P s u) : StoresWithin P s t :=
  hstores.trans (.of_pages_eq (pages_of_exec h hu))

/-- Settles O46: each command's work is taken apart to the operation of the medium that it makes, and that operation's
own places; what a command's end looks at is outside the medium. -/
theorem mediumStoresReachOnlyTheirPlaces : Obligations.MediumStoresReachOnlyTheirPlaces := by
  refine ⟨fun b s t h => ⟨fun ho => pages_of_exec h (programComplete_idle ho), fun o ho => ?_⟩,
    fun b s t h => ⟨fun ho => pages_of_exec h (toggleComplete_idle ho), fun o ho => ?_⟩,
    fun lpn s t h mp hmp => ?_, fun lpn s t h mp hmp => ?_, fun lpn s t h => ?_, fun sbn failed s t h mp => ?_,
    fun tract s t h m hm => ?_,
    fun course hot s t h => ⟨fun ho => pages_of_exec h (poolFillTimeout_idle ho), fun o ho => ?_⟩⟩
  · obtain ⟨u, hu, hline | ⟨hrefresh, hpage⟩⟩ := programComplete_stores ho
    · have ht := hline.trans (.of_pages_eq (pages_of_exec h hu))
      exact ⟨ht.pages.find_eq, fun _ => ht.mline_eq⟩
    · exact ⟨(hpage.of_exec h hu).find_eq, fun hkind => absurd hrefresh hkind⟩
  · obtain ⟨u, hu, hline⟩ := toggleComplete_stores ho
    have ht := hline.trans (.of_pages_eq (pages_of_exec h hu))
    exact ⟨ht.pages.find_eq, ht.mline_eq⟩
  · obtain ⟨u, hu, hstores⟩ := liftVerify_stores lpn s
    refine (hstores.of_exec h hu).find_eq mp ?_
    rintro ⟨c, hc, hlpn, hplace⟩
    exact hplace.elim (hmp c hc hlpn).1 (hmp c hc hlpn).2
  · obtain ⟨u, hu, hstores⟩ := reclaimCopyCommit_stores lpn s
    refine (hstores.of_exec h hu).find_eq mp ?_
    rintro ⟨c, hc, hlpn, hplace⟩
    exact hplace.elim (hmp c hc hlpn).1 (hmp c hc hlpn).2
  · obtain ⟨u, hu, hstores⟩ := settleBackCommit_stores lpn s
    intro home mp hhome hpar
    exact (hstores.of_exec h hu).find_eq mp fun hplace => hplace.elim hhome hpar
  · obtain ⟨u, hu, hpages⟩ := preconditionComplete_stores sbn failed s
    have ht := (pages_of_exec h hu).trans hpages
    constructor
    · intro hsbn
      rw [ht]
      split
      · exact (eraseBlock_storesWithin s sbn).find_eq mp hsbn
      · rfl
    · intro hsbn hruns
      rw [ht, if_pos hruns, eraseBlock_find, if_pos hsbn]
  · obtain ⟨u, hu, hwhole, hfailed⟩ := moveStripeCommit_stores hm
    constructor
    · intro hnone mp hmp
      exact ((hwhole hnone).of_exec h hu).find_eq mp fun ⟨k, hk, e⟩ => hmp k hk e
    · intro pages v hload hcommitted hlift mp hmp
      exact ((hfailed pages v hload hcommitted hlift).trans (.of_pages_eq (pages_of_exec h hu))).find_eq mp
        fun ⟨k, hk, e⟩ => hmp k hk e
  · obtain ⟨u, hu, hstores⟩ := poolFillTimeout_stores ho
    exact (hstores.of_exec h hu).find_eq

end Sys2Proof.Machine
end

section
/-! SUPPORT. The ends of program-type operations (R89, R96, R97, R99, R105): what an exchange, its old line, a toggle,
the age epoch and the evacuation of a block leave behind, and O13. -/

namespace Sys2Proof.Machine

open Sys2Proof

/-! ### Parts that a frame does not list -/

theorem Within.ageEpoch {m : Nat} {s t : State} (h : Within m s t) (e : m.testBit 203 = false) :
    t.err.e = s.err.e := by
  simpa only [State.pick, e, cond_false] using congrArg (fun u : State => u.err.e) h

theorem Within.ageStrokes {m : Nat} {s t : State} (h : Within m s t) (e : m.testBit 202 = false) :
    t.err.ageStrokes = s.err.ageStrokes := by
  simpa only [State.pick, e, cond_false] using congrArg (fun u : State => u.err.ageStrokes) h

theorem Within.evac {m : Nat} {s t : State} (h : Within m s t) (e : m.testBit 188 = false) :
    t.xlat.evac = s.xlat.evac := by
  simpa only [State.pick, e, cond_false] using congrArg (fun u : State => u.xlat.evac) h

theorem rd_congr {s t : State} (h : t.regs = s.regs) (f : Field) (i j : Nat) : t.rd f i j = s.rd f i j := by
  unfold State.rd; rw [h]

theorem ended_mline (s u : State) (mp ln : Nat) : (s.ended u).mline mp ln = u.mline mp ln :=
  mline_congr (ended_pages s u) mp ln

theorem ended_block (s u : State) (b : Nat) : (s.ended u).block b = u.block b := (settle_within s u).block b
theorem ended_evac (s u : State) : (s.ended u).xlat.evac = u.xlat.evac := (settle_within s u).evac (by decide)

/-! ### Exchanges (R96) -/

/-- The delta of an exchange goes to the reservation of its parity bank, and to no other bank. -/
theorem setDelta_ops_find (s : State) (o : BankOp) (d : Option Lin) {k : Nat} (h : k ≠ mpBank o.parity) :
    (s.setDelta o d).ops.find k = s.ops.find k := by
  unfold State.setDelta
  extract_lets b
  split
  · rfl
  split
  · rfl
  split
  · split
    · exact Tab.find_del_ne _ _ _ h
    · exact Tab.find_put_ne _ _ _ _ h
  · exact Tab.find_put_ne _ _ _ _ h

/-- The old line of a running exchange that decodes gives the exchange its delta. -/
theorem exchangeOldLineReturn_delta {s : State} {b : BankId} {e : MediaErr} {o : BankOp} {old : MLine} {l : Lin}
    (ho : s.ops.find (bankKey b) = some o) (hkind : o.kind = .drain ∨ o.kind = .rewrite)
    (hreturned : o.returned = false) (hstroke : o.stroke ≤ s.stroke) (hold : s.mline o.mp o.ln = some old)
    (hl : correctedLin old e = some l) (hparity : mpBank o.parity ≠ bankKey b) :
    answers (.exchangeOldLineReturn b e) s fun t =>
      t.ops.find (bankKey b) = some { o with delta := some (l.xor o.new.lin), returned := true }
        ∧ t.pages = s.pages := by
  have hruns : (!(o.kind == .drain || o.kind == .rewrite) || o.returned || decide (s.stroke < o.stroke)) = false := by
    rcases hkind with h | h <;> simp [h, hreturned, hstroke]
  refine answers_of_eq_done rfl ?_
  rw [ended_ops, ended_pages]
  extract_lets k
  split
  · next hnone => cases ho.symm.trans hnone
  next o' ho' =>
  cases ho.symm.trans ho'
  rw [if_neg (by rw [hruns]; decide)]
  extract_lets old' d u
  have hd : d = some (l.xor o.new.lin) := by
    unfold d old'
    rw [hold]
    exact congrArg (Option.map fun x : Lin => x.xor o.new.lin) hl
  have hu : u.pages = s.pages := pages_ite ((noteCorr_within ..).pages (by decide)) rfl
  rw [← hd]
  exact ⟨(setDelta_ops_find _ _ _ hparity.symm).trans (Tab.find_put_self _ _ _),
    ((setDelta_within ..).pages (by decide)).trans hu⟩

/-- An exchange that has verified frees its bank. -/
theorem exchanged_ops (s : State) (b : Nat) (o : BankOp) : (s.exchanged b o).ops = s.ops.del b := by
  have hstored : ((({ s with ops := s.ops.del b } : State).setMline o.mp o.ln o.new).wear (mpSbn o.mp) 1).ops =
      s.ops.del b := ((wear_within ..).ops (by decide)).trans ((setMline_within ..).ops (by decide))
  unfold State.exchanged
  extract_lets s1 x s2 s3
  have h3 : s3.ops = s2.ops := by
    unfold s3
    split
    · split <;> rfl
    · rfl
  split
  · exact ((drainVerified_within ..).ops (by decide)).trans (h3.trans hstored)
  · exact h3.trans hstored

/-- A drain whose old line has returned completes as an exchange. -/
theorem programComplete_drain {s : State} {b : BankId} {o : BankOp} (ho : s.ops.find (bankKey b) = some o)
    (hkind : o.kind = .drain) (hreturned : o.returned = true) (hsuspended : o.suspended = false)
    (hstroke : o.stroke ≤ s.stroke) : exec (.programComplete b) s = done s (s.exchanged (bankKey b) o) := by
  show execProgramComplete b s = _
  simp [execProgramComplete, ho, hkind, hreturned, hsuspended, Nat.not_lt.2 hstroke]

theorem programComplete_stores_drain {s : State} {b : BankId} {o : BankOp} (ho : s.ops.find (bankKey b) = some o)
    (hkind : o.kind = .drain) (hreturned : o.returned = true) (hsuspended : o.suspended = false)
    (hstroke : o.stroke ≤ s.stroke) (hpage : (s.pages.find o.mp).isSome = true) :
    answers (.programComplete b) s fun t => t.mline o.mp o.ln = some o.new ∧ t.ops.find (bankKey b) = none := by
  refine answers_of_eq_done (programComplete_drain ho hkind hreturned hsuspended hstroke) ⟨?_, ?_⟩
  · rw [ended_mline, mline_congr (exchanged_pages s _ o)]
    exact setMline_mline_self s o.mp o.ln o.new hpage
  · rw [ended_ops, exchanged_ops]
    exact Tab.find_del_self _ _

/-! ### Toggles (R97) -/

theorem setParity_mline_self (s : State) (mp ln : Nat) (l : Lin) (h : (s.pages.find mp).isSome) :
    (s.setParity mp ln l).mline mp ln = some { lin := l, age := s.ageNow } :=
  (mline_congr (wear_pages ..) mp ln).trans (setMline_mline_self s mp ln _ h)

theorem isSome_find_of_mline {s : State} {mp ln : Nat} {l : MLine} (h : s.mline mp ln = some l) :
    (s.pages.find mp).isSome := by
  cases hp : s.pages.find mp with
  | none => simp [State.mline, hp] at h
  | some p => rfl

theorem toggleComplete_folds {s : State} {b : BankId} {o : BankOp} {d : Lin} {l : MLine}
    (ho : s.ops.find (bankKey b) = some o) (hkind : o.kind = .toggle) (hdelta : o.delta = some d)
    (hsuspended : o.suspended = false) (hstroke : o.stroke ≤ s.stroke) (hl : s.mline o.mp o.ln = some l) :
    answers (.toggleComplete b) s fun t =>
      t.mline o.mp o.ln = some { lin := l.lin.xor d, age := s.ageNow } ∧ t.ops.find (bankKey b) = none := by
  refine answers_of_eq_done rfl ?_
  rw [ended_mline, ended_ops]
  extract_lets k cleared
  split
  · next hnone => cases ho.symm.trans hnone
  next o' ho' =>
  cases ho.symm.trans ho'
  rw [if_neg (by simp [hsuspended, hstroke]), hkind, hdelta, hl]
  have hops : (cleared.setParity o.mp o.ln (l.lin.xor d)).ops = s.ops.del k := (setParity_within ..).ops (by decide)
  exact ⟨setParity_mline_self cleared o.mp o.ln _ (isSome_find_of_mline hl),
    (congrArg (fun q => Tab.find q k) hops).trans (Tab.find_del_self _ _)⟩

/-! ### Age and evacuation (R99, R105) -/

theorem ageEpochAdvance_raises {s : State} (hdue : s.img.tAge ≤ s.err.ageStrokes)
    (hwake : s.bit Reg.CHAN_G_AGE_WAKE = false) :
    answers .ageEpochAdvance s fun t =>
      t.err.e = s.err.e + 1 ∧ t.err.ageStrokes = s.err.ageStrokes - s.img.tAge
        ∧ t.rd Reg.CHAN_G_AGE_EPOCH = (s.err.e + 1) % 2 ^ Reg.CHAN_G_AGE_EPOCH.width := by
  refine answers_of_eq_done rfl ?_
  rw [if_neg (by simp [hdue, hwake])]
  extract_lets x u
  refine ⟨?_, ?_, ?_⟩
  · exact ((settle_within ..).ageEpoch (by decide)).trans (((flash_within _).ageEpoch (by decide)).trans
      ((savePage1_within _).ageEpoch (by decide)))
  · exact ((settle_within ..).ageStrokes (by decide)).trans (((flash_within _).ageStrokes (by decide)).trans
      ((savePage1_within _).ageStrokes (by decide)))
  · have hkey (a b : Nat) : Reg.CHAN_G_AGE_EPOCH.key 0 0 ≠ Reg.TELEM_BLK_OVF_OVF.key a b :=
      Field.key_ne_of_apartFrom (by decide) a b
    rw [ended_rd _ _ hkey, rd_congr (((flash_within _).regs (by decide)).trans ((savePage1_within _).regs (by decide)))]
    exact rd_wr_self ..

theorem evacuationBlockDone_retires {s : State} {b : Nat} (hqueued : b ∈ s.xlat.evac) (hmoved : s.evacuated b = true) :
    answers (.evacuationBlockDone b) s fun t =>
      (t.block b).pool = .retired ∧ (t.block b).tract = none ∧ b ∉ t.xlat.evac ∧ t.pages = s.pages := by
  refine answers_of_eq_done rfl ?_
  rw [if_neg (by simp [hqueued, hmoved])]
  extract_lets k s1 x s2 s3
  have h3 : Within 2 s2 s3 := (poolCounts_within _).on (by decide) (evacCounts_within s2)
  have hend : Within 0x3cc00000000000000002 s2
      (if s3.xlat.evac = [] then s3.chronicle 0x0103 0x49 0 (1 :: leBytes 4 0) else s3) :=
    .ite (fun _ => (chronicle_within ..).on (by decide) (h3.mono (by decide))) fun _ => h3.mono (by decide)
  have hblock : s2.block b = { k with pool := .retired, tract := none } := block_setBlock_self ..
  have hevac : s2.xlat.evac = s.xlat.evac.filter (· != b) := rfl
  rw [ended_pages, ended_block, ended_evac, hend.pages (by decide), hend.block, hend.evac (by decide), hblock, hevac]
  exact ⟨rfl, rfl, by simp, rfl⟩

/-- Settles O13: each command is followed to the one operation that its clause is about; the look that its end takes
leaves the medium, the banks, the age epoch and the block records. -/
theorem programsReachTheMedium : Obligations.ProgramsReachTheMedium :=
  ⟨fun _ _ _ _ _ _ ho hkind hreturned hstroke hold hl hparity =>
      exchangeOldLineReturn_delta ho hkind hreturned hstroke hold hl hparity,
    fun _ _ _ ho hkind hreturned hsuspended hstroke hpage _ =>
      programComplete_stores_drain ho hkind hreturned hsuspended hstroke hpage,
    fun _ _ _ _ _ ho hkind hdelta hsuspended hstroke hl _ =>
      toggleComplete_folds ho hkind hdelta hsuspended hstroke hl,
    fun _ hdue hwake => ageEpochAdvance_raises hdue hwake,
    fun _ _ hqueued hmoved => evacuationBlockDone_retires hqueued hmoved⟩

end Sys2Proof.Machine
end

section
/-! SUPPORT. The state of a channel (R91 to R93, R107, Table 5-7): what alerts, READ STATUS, trainings and retrains set,
and O12. -/

namespace Sys2Proof.Machine

open Sys2Proof

/-! ### Parts that a frame does not list -/

theorem Within.chan {m : Nat} {s t : State} (h : Within m s t) (c : Nat) (e : m.testBit 156 = false := by decide) :
    t.chan c = s.chan c := by
  have hchans : t.chans = s.chans := by simpa only [State.pick, e, cond_false] using congrArg State.chans h
  unfold State.chan; rw [hchans]

theorem Within.step5 {m : Nat} {s t : State} (h : Within m s t) (e : m.testBit 37 = false) :
    t.start.step5 = s.start.step5 := by
  simpa only [State.pick, e, cond_false] using congrArg (fun u : State => u.start.step5) h

theorem Within.stopped {m : Nat} {s t : State} (h : Within m s t) (e : m.testBit 43 = false) :
    t.start.stopped = s.start.stopped := by
  simpa only [State.pick, e, cond_false] using congrArg (fun u : State => u.start.stopped) h

theorem ended_chan (s u : State) (c : Nat) : (s.ended u).chan c = u.chan c := (settle_within s u).chan c
theorem ended_step5 (s u : State) : (s.ended u).start.step5 = u.start.step5 := (settle_within s u).step5 (by decide)
theorem ended_stopped (s u : State) : (s.ended u).start.stopped = u.start.stopped :=
  (settle_within s u).stopped (by decide)

/-! ### The registers of a channel -/

/-- A register field that each channel has in its own page of the CHAN_ block (Table 17-3). -/
def Field.ofChannel (f : Field) : Bool := f.stride == 0x1000 && decide (f.off < 0x401000) && decide (f.lo < 32)

theorem Field.key_ne_of_ofChannel {f g : Field} {c : Nat} (hf : f.ofChannel = true) (hc : c < 64)
    (hg : 0x440000 ≤ g.off) (a b : Nat) : f.key c 0 ≠ g.key a b := by
  simp only [Field.ofChannel, Bool.and_eq_true, beq_iff_eq, decide_eq_true_eq] at hf
  obtain ⟨⟨hstride, hoff⟩, hlo⟩ := hf
  unfold Field.key Field.offset
  rw [hstride]
  omega

/-- A channel's own register reads as before where only registers beyond the channels may be written. -/
theorem rd_of_beyond {l : List Field} {s t : State} {f : Field} {c : Nat} (h : onlyRegs l s t) (hc : c < 64)
    (hf : f.ofChannel = true := by decide) (hl : l.all (fun g => decide (0x440000 ≤ g.off)) = true := by decide) :
    t.rd f c = s.rd f c :=
  onlyRegs_rd h fun g hg => Field.key_ne_of_ofChannel hf hc (by simpa using List.all_eq_true.1 hl g hg)

theorem ended_rd_channel {s u : State} {f : Field} {c : Nat} (hc : c < 64) (hf : f.ofChannel = true := by decide) :
    (s.ended u).rd f c = u.rd f c :=
  rd_of_beyond (t := s.ended u) (settle_regs s u (List.mem_singleton_self _)) hc hf

/-- Two fields of a channel stand apart within its page. -/
theorem rd_wr_channel_ne {s : State} {f g : Field} {c v : Nat} (hg : g.ofChannel = true := by decide)
    (hf : f.ofChannel = true := by decide) (hne : 32 * g.off + g.lo ≠ 32 * f.off + f.lo := by decide) :
    (s.wr f v c).rd g c = s.rd g c := by
  refine rd_wr_ne s f g v c 0 c 0 ?_
  simp only [Field.ofChannel, Bool.and_eq_true, beq_iff_eq, decide_eq_true_eq] at hf hg
  obtain ⟨⟨hfs, -⟩, -⟩ := hf
  obtain ⟨⟨hgs, -⟩, -⟩ := hg
  unfold Field.key Field.offset
  rw [hfs, hgs]
  omega

@[simp] theorem rd_setChan (s : State) (c i j : Nat) (x : Chan) (f : Field) :
    (s.setChan c x).rd f i j = s.rd f i j := rfl

theorem bit_setBit_self {s : State} {f : Field} {b : Bool} {i : Nat} (hf : f.width ≠ 0 := by decide) :
    (s.setBit f b i).bit f i = b := by
  unfold State.bit State.setBit
  rw [rd_wr_self]
  cases b
  · simp
  · simp [Nat.mod_eq_of_lt (Nat.one_lt_two_pow hf)]

/-! ### Alerts and READ STATUS (R91, R107, Table 5-7) -/

theorem fipenAlert_raises {s : State} {c : Nat} (hc : c < 64) (hup : s.rd Reg.CHAN_STATUS_STATE c = 2) :
    answers (.fipenAlert c) s fun t =>
      t.bit Reg.CHAN_STATUS_ALERT c = true ∧ (t.chan c).wantStatus = true ∧ t.ops = s.ops ∧ t.sched = s.sched := by
  refine answers_of_eq_done rfl ?_
  rw [if_pos hup, ended_chan, ended_ops, ended_sched, chan_setChan_self]
  refine ⟨?_, rfl, rfl, rfl⟩
  unfold State.bit
  rw [ended_rd_channel hc]
  exact bit_setBit_self (s := s) (f := Reg.CHAN_STATUS_ALERT) (b := true) (i := c)

/-- A READ STATUS response that names no cause and no fault is taken, and no more (Table 5-7). -/
theorem readStatusResponse_clean {s : State} {c : Nat} {x : StatusLine} (hwant : (s.chan c).wantStatus = true)
    (hfault : x.faultMask = 0) (hcauses : x.causes = 0) : exec (.readStatusResponse c x) s = done s
      (((s.setChan c { s.chan c with wantStatus := false, noReply := 0, banks := x.banksLoaded }).setBit
        Reg.CHAN_STATUS_ALERT false c).wr Reg.CHAN_TEMP_DIE_TEMP x.temps.toNat c) := by
  show execReadStatusResponse c x s = _
  simp [execReadStatusResponse, hwant, hfault, hcauses, State.linkError, List.foldl_fixed]

theorem readStatusResponse_takes {s : State} {c : Nat} {x : StatusLine} (hc : c < 64)
    (hwant : (s.chan c).wantStatus = true) (hfault : x.faultMask = 0) (hcauses : x.causes = 0) :
    answers (.readStatusResponse c x) s fun t =>
      t.chan c = { s.chan c with wantStatus := false, noReply := 0, banks := x.banksLoaded }
        ∧ t.bit Reg.CHAN_STATUS_ALERT c = false ∧ t.rd Reg.CHAN_TEMP_DIE_TEMP c = x.temps.toNat := by
  refine answers_of_eq_done (readStatusResponse_clean hwant hfault hcauses) ⟨?_, ?_, ?_⟩
  · exact (ended_chan ..).trans (chan_setChan_self ..)
  · unfold State.bit
    rw [ended_rd_channel hc, rd_wr_channel_ne]
    exact bit_setBit_self (f := Reg.CHAN_STATUS_ALERT)
  · rw [ended_rd_channel hc, rd_wr_self]
    exact Nat.mod_eq_of_lt x.temps.isLt

/-- A change that no register and no response shows brings no occurrence event. -/
theorem shownEvents_congr {s t : State} (hregs : t.regs = s.regs) (hout : t.out = s.out) :
    shownEvents s t = shownEvents s s := by
  simp only [shownEvents, newOut, grew, rd_congr hregs, hout]

/-- Where no event is shown and no state event begins, the counters and their overflow bits stay. -/
theorem teleCount_of_quiet {s t : State} (hregs : t.regs = s.regs) (hout : t.out = s.out)
    (hsessions : t.sessions = s.sessions) (hpoints : t.merge.points = s.merge.points) : teleCount s t = t := by
  have hshown : (shownEvents s t).foldl (fun u e => u.tele e.1 e.2.1 e.2.2.1 e.2.2.2) t = t :=
    foldl_tele_of_counts_zero _ t fun e he => count_of_mem_shownEvents_self (shownEvents_congr hregs hout ▸ he)
  have hbegin : t.stateEvents.filter (fun e => !s.stateEvents.contains e) = [] := by
    rw [stateEvents_congr hregs hsessions hpoints]; simp
  unfold teleCount
  split
  · rfl
  · rw [hshown, hbegin]; rfl

/-- What a channel holds beside its registers is not seen at a command's end. -/
theorem ended_setChan_regs (s : State) (c : Nat) (x : Chan) : (s.ended (s.setChan c x)).regs = s.regs := by
  have hbw : Within 0x2000000000000000000000000000000000000000000000000000000000000000000 (s.setChan c x)
      (bwCount s (s.setChan c x)) := bwCount_within ..
  have hquiet : teleCount s (bwCount s (s.setChan c x)) = bwCount s (s.setChan c x) :=
    teleCount_of_quiet (hbw.regs (by decide)) (hbw.out (by decide)) (hbw.sessions (by decide))
      (hbw.points (by decide))
  exact (congrArg State.regs hquiet).trans (hbw.regs (by decide))

theorem readStatusNoResponse_counts {s : State} {c : Nat} (hwant : (s.chan c).wantStatus = true)
    (hfew : (s.chan c).noReply < 2) :
    answers (.readStatusNoResponse c) s fun t =>
      t.chan c = { s.chan c with noReply := (s.chan c).noReply + 1 } ∧ t.regs = s.regs := by
  refine answers_of_eq_done (u := s.setChan c { s.chan c with noReply := (s.chan c).noReply + 1 }) ?_ ⟨?_, ?_⟩
  · show execReadStatusNoResponse c s = _
    simp [execReadStatusNoResponse, hwant, show ¬3 ≤ (s.chan c).noReply + 1 by omega]
  · exact (ended_chan ..).trans (chan_setChan_self ..)
  · exact ended_setChan_regs ..

/-- A channel that fails shows state 3, and no retrain. -/
theorem failChannel_status (s : State) {c : Nat} (hc : c < 64) :
    (s.failChannel c).rd Reg.CHAN_STATUS_STATE c = 3 ∧ (s.failChannel c).bit Reg.CHAN_STATUS_RETRAIN c = false := by
  unfold State.failChannel
  extract_lets x u
  have hdies : onlyRegs [Reg.CHRON_DROP_CNT, Reg.CHRON_REPEAT_CNT, Reg.ERR_HEALTH_EVENT_DIE_FAIL] u
      ((List.range u.dies).foldl (fun s d => s.declareDie c d 4) u) :=
    .foldl (fun t d => by apply declareDie_regs <;> decide) _ .rfl
  unfold State.bit
  rw [rd_of_beyond hdies hc, rd_of_beyond hdies hc]
  constructor
  · exact (rd_wr_channel_ne (s := s.wr Reg.CHAN_STATUS_STATE 3 c) (f := Reg.CHAN_STATUS_RETRAIN)
      (g := Reg.CHAN_STATUS_STATE) (v := 0)).trans (rd_wr_self ..)
  · exact bit_setBit_self (f := Reg.CHAN_STATUS_RETRAIN) (b := false)

theorem readStatusNoResponse_fails {s : State} {c : Nat} (hc : c < 64) (hwant : (s.chan c).wantStatus = true)
    (hmany : 2 ≤ (s.chan c).noReply) :
    answers (.readStatusNoResponse c) s fun t =>
      t.rd Reg.CHAN_STATUS_STATE c = 3 ∧ t.bit Reg.CHAN_STATUS_RETRAIN c = false := by
  refine answers_of_eq_done rfl ?_
  unfold State.bit
  rw [ended_rd_channel hc, ended_rd_channel hc]
  extract_lets x
  rw [if_neg (by simp [x, hwant]), if_pos (by simpa [x] using hmany)]
  exact failChannel_status _ hc

/-! ### Training and retraining (R92, R93) -/

theorem fipenTrainingStepLimit_restarts {s : State} {c : Nat} (k : Nat) (hc : c < 64) (hstart : s.startTraining = true)
    (hfew : (s.chan c).restarts < 3) :
    answers (.fipenTrainingStepLimit c k) s fun t =>
      t.chan c = { s.chan c with restarts := (s.chan c).restarts + 1 }
        ∧ t.rd Reg.CHAN_STATUS_STATE c = (if (s.chan c).restarts = 2 then 0 else 1) := by
  refine answers_of_eq_done rfl ?_
  rw [ended_chan, ended_rd_channel hc]
  extract_lets x
  rw [if_pos hstart, if_neg (by simpa [x] using hfew), rd_wr_self]
  refine ⟨(chan_setChan_self s c { x with restarts := x.restarts + 1 } :), ?_⟩
  by_cases h : (s.chan c).restarts = 2
  · simp [x, h]
  · rw [if_neg h, if_neg (by simp only [x]; omega)]
    rfl

/-- The end of the training at start-up ends step 5, or stops the start (R2, Table 12-1). -/
theorem trainingEnd_step5_or_stopped (s : State) :
    s.trainingEnd.start.step5 = true ∨ s.trainingEnd.start.stopped = true := by
  unfold State.trainingEnd
  split
  · exact .inr ((chronicle_within ..).stopped (by decide))
  · extract_lets n s1 s2 x s3
    show (!s3.prot.testAccess) = true ∨ s3.prot.testAccess = true
    cases s3.prot.testAccess <;> simp

theorem fipenTrainingComplete_ends {s : State} (l : List TrainResult) (hstart : s.startTraining = true)
    (hstep2 : s.start.step2 = true) :
    answers (.fipenTrainingComplete l) s fun t => t.start.step5 = true ∨ t.start.stopped = true := by
  refine answers_of_eq_done rfl ?_
  rw [if_pos hstart, if_pos hstep2]
  rw [ended_step5, ended_stopped]
  exact trainingEnd_step5_or_stopped _

theorem retrainRecord_onlyRegs (s : State) (c : Nat) (full failed : Bool) :
    onlyRegs [Reg.CHRON_DROP_CNT, Reg.CHRON_REPEAT_CNT] s (s.retrainRecord c full failed) := by
  apply retrainRecord_regs <;> decide

theorem fipenTrainingComplete_retrains {s : State} {r : TrainResult} (hc : r.chan < 64)
    (hstart : s.startTraining = false) (hfull : (s.chan r.chan).full = true) (hanswered : r.answered = true) :
    answers (.fipenTrainingComplete [r]) s fun t =>
      t.rd Reg.CHAN_STATUS_STATE r.chan = 2 ∧ t.bit Reg.CHAN_STATUS_RETRAIN r.chan = false
        ∧ (t.chan r.chan).full = false := by
  refine answers_of_eq_done rfl ?_
  unfold State.bit
  rw [ended_rd_channel hc, ended_rd_channel hc, ended_chan, if_neg (by rw [hstart]; decide), List.foldl_cons,
    List.foldl_nil]
  unfold State.retrained
  extract_lets c x u
  rw [if_neg (by simp [c, hfull]), if_pos hanswered]
  have hrecord := retrainRecord_onlyRegs u c true false
  rw [rd_of_beyond hrecord hc, rd_of_beyond hrecord hc, (retrainRecord_within ..).chan]
  refine ⟨?_, ?_, ?_⟩
  · exact (rd_wr_channel_ne (f := Reg.CHAN_TRAIN_VALUES)).trans
      ((rd_wr_channel_ne (f := Reg.CHAN_STATUS_RETRAIN)).trans (rd_wr_self ..))
  · exact (congrArg (· != 0) (rd_wr_channel_ne (f := Reg.CHAN_TRAIN_VALUES))).trans
      (bit_setBit_self (f := Reg.CHAN_STATUS_RETRAIN) (b := false))
  · rw [show u.chan c = _ from chan_setChan_self ..]

theorem fastRetrainComplete_resumes {s : State} {c : Nat} (hc : c < 64)
    (hretrain : s.bit Reg.CHAN_STATUS_RETRAIN c = true) (hfast : (s.chan c).full = false) :
    answers (.fastRetrainComplete c true) s fun t =>
      t.bit Reg.CHAN_STATUS_RETRAIN c = false
        ∧ t.ops = s.ops.mapVals (fun b o => if b / 64 == c then { o with suspended := false } else o) := by
  refine answers_of_eq_done rfl ?_
  unfold State.bit at hretrain ⊢
  rw [ended_rd_channel hc, ended_ops, if_neg (by simp [hretrain, hfast]), if_pos rfl]
  extract_lets u
  constructor
  · have hrecord := retrainRecord_onlyRegs (s.setBit Reg.CHAN_STATUS_RETRAIN false c) c false false
    exact (congrArg (· != 0) (rd_of_beyond hrecord hc)).trans
      (bit_setBit_self (f := Reg.CHAN_STATUS_RETRAIN) (b := false))
  · have hops : u.ops = s.ops := (retrainRecord_within ..).ops (by decide)
    exact congrArg (Tab.mapVals fun b o => if b / 64 == c then { o with suspended := false } else o) hops

/-- Settles O12: each command sets the registers and the state of its own channel, and the records that go with it write
none of them. -/
theorem channelsReportAndTrain : Obligations.ChannelsReportAndTrain :=
  ⟨fun _ _ hc hup => fipenAlert_raises hc hup,
    fun _ _ _ hc hwant hfault hcauses => readStatusResponse_takes hc hwant hfault hcauses,
    fun _ _ _ hwant hfew => readStatusNoResponse_counts hwant hfew,
    fun _ _ hc hwant hmany => readStatusNoResponse_fails hc hwant hmany,
    fun _ _ k hc hstart hfew => fipenTrainingStepLimit_restarts k hc hstart hfew,
    fun _ l hstart hstep2 => fipenTrainingComplete_ends l hstart hstep2,
    fun _ _ hc hstart hfull hanswered => fipenTrainingComplete_retrains hc hstart hfull hanswered,
    fun _ _ hc hretrain hfast => fastRetrainComplete_resumes hc hretrain hfast⟩

end Sys2Proof.Machine
end

section
/-! SUPPORT. The frame of each command of translation, placement, merging, the keep and the chronicle (R117, R128, R130,
R148, R161, R286, R295), and O54. `pick_<parts>` says which parts of the state a mask names; side conditions of `Framed`
are written out, as for O51. -/

namespace Sys2Proof.Machine

open Sys2Proof

/-! ### Moves and page appends -/

/-- The parts that the commit of a move's stripe may change. -/
def stripeCommitParts : Nat := 0x2800000000000000000fffffe000200000000200000000000000000000000000022

theorem pick_stripeCommitParts (s t : State) : State.pick stripeCommitParts s t = { s with
    regs := t.regs, out := t.out, pages := t.pages, xlat := t.xlat,
    merge := { s.merge with entries := t.merge.entries },
    telem := { s.telem with counts := t.telem.counts, bwRead := t.telem.bwRead } } := rfl

/-- The register fields that the commit of a stripe, of a lift or of a settle-back may write. -/
def placeCommitFields : List Field := [
  Reg.MERGE_DRAIN_CNT, Reg.MERGE_PARTIAL_LINES, Reg.MERGE_SETTLING_LINES, Reg.MERGE_STATUS_DIRTY,
  Reg.MERGE_STATUS_LIMIT, Reg.TELEM_BLK_OVF_OVF, Reg.XLAT_COLD_COUNT_BLOCKS, Reg.XLAT_HOT_COUNT_BLOCKS,
  Reg.XLAT_LIFTED_PAGES, Reg.XLAT_MOVES_ACTIVE, Reg.XLAT_MOVES_QUEUED, Reg.XLAT_PINNED_LINES,
  Reg.XLAT_POOL_STATUS_FREE]

theorem moveStripeCommit_framed (tract : Nat) :
    EndsFramed stripeCommitParts placeCommitFields (.moveStripeCommit tract) := fun s => by
  refine ⟨_, rfl, ?_⟩
  split
  · exact .rfl
  next m _ =>
  split
  · exact .rfl
  next pages _ =>
  refine .ite (fun _ => .rfl) fun _ => ?_
  split
  · exact .rfl
  next t hlift =>
  have ht : Framed stripeCommitParts placeCommitFields s t :=
    Framed.rfl.via (liftAllFailed_within _ _ _ _ _ hlift)
      (liftAllFailed_regs _ _ _ _ _ hlift (by decide) (by decide) (by decide) (by decide) (by decide) (by decide)
        (by decide)) rfl
  exact ht.via (commitStripe_within ..) (by apply commitStripe_regs <;> repeat constructor) rfl

/-- Lines that a page or stripe carried to the medium become settling copies. -/
theorem Framed.drainVerified {m : Nat} {l : List Field} {s t : State} (h : Framed m l s t) (lines : List Nat)
    (hl : [Reg.MERGE_DRAIN_CNT, Reg.MERGE_PARTIAL_LINES, Reg.MERGE_SETTLING_LINES, Reg.MERGE_STATUS_DIRTY,
      Reg.MERGE_STATUS_LIMIT, Reg.XLAT_PINNED_LINES] ⊆ l)
    (hm : 0x200000000000000000000000000002 ||| m = m) :
    Framed m l s (lines.foldl (fun s line => s.drainVerified line) t) :=
  .foldl (fun _ _ => Framed.rfl.via (drainVerified_within ..)
    (by apply drainVerified_regs <;> exact hl (by repeat constructor)) hm) _ h

/-- Lines that a page has not carried to the medium are dirty again. -/
theorem Framed.drainFailed {m : Nat} {l : List Field} {s t : State} (h : Framed m l s t) (lines : List Nat)
    (hl : [Reg.MERGE_PARTIAL_LINES, Reg.MERGE_SETTLING_LINES, Reg.MERGE_STATUS_DIRTY, Reg.MERGE_STATUS_LIMIT,
      Reg.XLAT_PINNED_LINES] ⊆ l)
    (hm : 0x200000000000000000000000000002 ||| m = m) :
    Framed m l s (lines.foldl (fun s line => s.drainFailed line) t) :=
  .foldl (fun _ _ => Framed.rfl.via (drainFailed_within ..)
    (by apply drainFailed_regs <;> exact hl (by repeat constructor)) hm) _ h

/-- The parts that the commit of a page append may change. -/
def appendParts : Nat := 0x280000000000000000000201e000200000000200000000000000000000000000022

theorem pick_appendParts (s t : State) : State.pick appendParts s t = { s with
    regs := t.regs, out := t.out, pages := t.pages,
    merge := { s.merge with entries := t.merge.entries },
    xlat := { s.xlat with
      tracts := t.xlat.tracts, fluid := t.xlat.fluid, blocks := t.xlat.blocks, valid := t.xlat.valid,
      copies := t.xlat.copies },
    telem := { s.telem with counts := t.telem.counts, bwRead := t.telem.bwRead } } := rfl

theorem liftVerify_framed (lpn : Nat) : EndsFramed appendParts placeCommitFields (.liftVerify lpn) := fun s => by
  refine ⟨_, rfl, ?_⟩
  split
  · exact .rfl
  next c _ =>
  refine .ite (fun _ => .rfl) fun _ => ?_
  extract_lets s1 s2
  have h1 : Framed appendParts placeCommitFields s s1 :=
    (Framed.rfl.quiet (endCopy_within ..) rfl rfl).via (programPage_within ..)
      (programPage_regs _ _ _ (by decide)) rfl
  have h2 : Framed appendParts placeCommitFields s s2 :=
    h1.via (setFluid_within ..) (by apply setFluid_regs <;> repeat constructor) rfl
  exact h2.drainVerified _ (List.Sublist.subset (by decide)) rfl

/-- The register fields that the commit of a reclaim copy may write. -/
def reclaimCopyFields : List Field := [
  Reg.TELEM_BLK_OVF_OVF, Reg.XLAT_COLD_COUNT_BLOCKS, Reg.XLAT_HOT_COUNT_BLOCKS, Reg.XLAT_LIFTED_PAGES,
  Reg.XLAT_MOVES_ACTIVE, Reg.XLAT_MOVES_QUEUED, Reg.XLAT_POOL_STATUS_FREE]

theorem reclaimCopyCommit_framed (lpn : Nat) :
    EndsFramed appendParts reclaimCopyFields (.reclaimCopyCommit lpn) := fun s => by
  refine ⟨_, rfl, ?_⟩
  split
  · exact .rfl
  next c _ =>
  refine .ite (fun _ => .rfl) fun _ => ?_
  extract_lets s1
  have h1 : Framed appendParts reclaimCopyFields s s1 :=
    ((Framed.rfl.via (tele_within ..) (tele_regs _ _ _ _ _ (by decide)) rfl).quiet (endCopy_within ..) rfl rfl).via
      (programPage_within ..) (programPage_regs _ _ _ (by decide)) rfl
  split
  · exact .ite (fun _ => h1.via (setFluid_within ..) (by apply setFluid_regs <;> repeat constructor) rfl) fun _ => h1
  · exact h1

/-- The parts that the halving of heat may change. -/
def heatParts : Nat := 0x2800000000000000000800000000000000000800000000000000000000000000022

theorem pick_heatParts (s t : State) : State.pick heatParts s t = { s with
    regs := t.regs, out := t.out,
    merge := { s.merge with heat := t.merge.heat },
    xlat := { s.xlat with heatEpochs := t.xlat.heatEpochs },
    telem := { s.telem with counts := t.telem.counts, bwRead := t.telem.bwRead } } := rfl

theorem heatHalving_framed : EndsFramed heatParts [Reg.TELEM_BLK_OVF_OVF] .heatHalving := fun _ =>
  ⟨_, rfl, .ite (fun _ => .rfl) fun _ => Framed.rfl.set rfl rfl⟩

/-! ### Settle-back and reclaim -/

/-- The parts that a visit of the settle-back walk may change. -/
def walkParts : Nat := 0x2800000000000000003004204000000000000200000300000000000000000000022

theorem pick_walkParts (s t : State) : State.pick walkParts s t = { s with
    regs := t.regs, out := t.out,
    prot := { s.prot with lineCounters := t.prot.lineCounters, dirtyNodes := t.prot.dirtyNodes },
    merge := { s.merge with entries := t.merge.entries },
    xlat := { s.xlat with fluid := t.xlat.fluid, seq := t.xlat.seq, settles := t.xlat.settles },
    err := { s.err with poison := t.err.poison, poisonLost := t.err.poisonLost },
    telem := { s.telem with counts := t.telem.counts, bwRead := t.telem.bwRead } } := rfl

/-- The register fields that a visit of the settle-back walk may write. -/
def walkFields : List Field := [
  Reg.ERR_HEALTH_EVENT_POISON_FULL, Reg.ERR_POISON_LIST_OVERFLOW, Reg.ERR_POISON_LIST_RECORDS,
  Reg.MERGE_PARTIAL_LINES, Reg.MERGE_SETTLING_LINES, Reg.MERGE_STATUS_DIRTY, Reg.MERGE_STATUS_LIMIT,
  Reg.PROT_INTEG_DIRTY_LINES, Reg.TELEM_BLK_OVF_OVF, Reg.XLAT_PINNED_LINES]

theorem settleBackWalk_framed (bucket : Nat) : EndsFramed walkParts walkFields (.settleBackWalk bucket) := fun _ =>
  ⟨_, rfl, .foldl (fun _ _ => Framed.rfl.via (walkEntry_within ..) (by apply walkEntry_regs <;> repeat constructor) rfl)
    _ .rfl⟩

/-- The parts that the commit of a settle-back may change. -/
def settleCommitParts : Nat := 0x280000000000000000000401e000200000000200000000000000000000000000022

theorem pick_settleCommitParts (s t : State) : State.pick settleCommitParts s t = { s with
    regs := t.regs, out := t.out, pages := t.pages,
    merge := { s.merge with entries := t.merge.entries },
    xlat := { s.xlat with
      tracts := t.xlat.tracts, fluid := t.xlat.fluid, blocks := t.xlat.blocks, valid := t.xlat.valid,
      settles := t.xlat.settles },
    telem := { s.telem with counts := t.telem.counts, bwRead := t.telem.bwRead } } := rfl

theorem settleBackCommit_framed (lpn : Nat) :
    EndsFramed settleCommitParts placeCommitFields (.settleBackCommit lpn) := fun s => by
  refine ⟨_, rfl, ?_⟩
  split
  · exact .rfl
  next x _ =>
  extract_lets t rest s1 s2
  have h1 : Framed settleCommitParts placeCommitFields s s1 := Framed.rfl.set rfl rfl
  have h2 : Framed settleCommitParts placeCommitFields s s2 :=
    ((h1.via (tele_within ..) (tele_regs _ _ _ _ _ (by decide)) rfl).quiet (rewriteHome_within ..) rfl rfl).via
      (dropFluid_within ..) (by apply dropFluid_regs <;> repeat constructor) rfl
  exact .ite (fun _ => h1.drainFailed _ (List.Sublist.subset (by decide)) rfl)
    fun _ => h2.drainVerified _ (List.Sublist.subset (by decide)) rfl

/-- The parts that a reclaim may change. -/
def reclaimParts : Nat := 0x2800000000000000003fffffe000000000000200000300000000000000000000022

theorem pick_reclaimParts (s t : State) : State.pick reclaimParts s t = { s with
    regs := t.regs, out := t.out, xlat := t.xlat,
    prot := { s.prot with lineCounters := t.prot.lineCounters, dirtyNodes := t.prot.dirtyNodes },
    merge := { s.merge with entries := t.merge.entries },
    err := { s.err with poison := t.err.poison, poisonLost := t.err.poisonLost },
    telem := { s.telem with counts := t.telem.counts, bwRead := t.telem.bwRead } } := rfl

/-- The register fields that a reclaim may write. -/
def reclaimFields : List Field := [
  Reg.ERR_HEALTH_EVENT_POISON_FULL, Reg.ERR_POISON_LIST_OVERFLOW, Reg.ERR_POISON_LIST_RECORDS,
  Reg.MERGE_PARTIAL_LINES, Reg.MERGE_SETTLING_LINES, Reg.MERGE_STATUS_DIRTY, Reg.MERGE_STATUS_LIMIT,
  Reg.PROT_INTEG_DIRTY_LINES, Reg.TELEM_BLK_OVF_OVF, Reg.XLAT_COLD_COUNT_BLOCKS, Reg.XLAT_HOT_COUNT_BLOCKS,
  Reg.XLAT_LIFTED_PAGES, Reg.XLAT_MOVES_ACTIVE, Reg.XLAT_MOVES_QUEUED, Reg.XLAT_PINNED_LINES,
  Reg.XLAT_POOL_STATUS_FREE]

theorem reclaim_framed (course : Nat) : EndsFramed reclaimParts reclaimFields (.reclaim course) := fun s => by
  refine ⟨_, rfl, .ite (fun _ => .rfl) fun _ => ?_⟩
  split
  · exact .rfl
  next b k _ =>
  refine .ite (fun _ => ?emptied) fun _ => ?pages
  case emptied =>
    exact (Framed.rfl.quiet (retireOrQueue_within ..) rfl rfl).via (poolCounts_within _)
      (by apply poolCounts_regs <;> repeat constructor) rfl
  case pages =>
    exact .foldl (fun _ _ => Framed.rfl.via (reclaimPage_within ..)
      (by apply reclaimPage_regs <;> repeat constructor) rfl) _ .rfl

/-! ### Blocks and their records -/

/-- The parts that the end of a precondition may change. -/
def preconditionParts : Nat := 0x28000000000000002604c0108000200000000000000000000000000000000000022

theorem pick_preconditionParts (s t : State) : State.pick preconditionParts s t = { s with
    regs := t.regs, out := t.out, pages := t.pages,
    xlat := { s.xlat with
      blocks := t.xlat.blocks, precondQ := t.xlat.precondQ, failedSlots := t.xlat.failedSlots,
      badParity := t.xlat.badParity, again := t.xlat.again },
    err := { s.err with refresh := t.err.refresh, rewrites := t.err.rewrites, wake := t.err.wake },
    telem := { s.telem with counts := t.telem.counts, bwRead := t.telem.bwRead } } := rfl

/-- The register fields that the end of a precondition may write. -/
def preconditionFields : List Field := [
  Reg.TELEM_BLK_OVF_OVF, Reg.XLAT_COLD_COUNT_BLOCKS, Reg.XLAT_HOT_COUNT_BLOCKS, Reg.XLAT_LIFTED_PAGES,
  Reg.XLAT_MOVES_ACTIVE, Reg.XLAT_MOVES_QUEUED, Reg.XLAT_POOL_STATUS_FREE, Reg.XLAT_RECLAIM_CNT]

theorem preconditionComplete_framed (sbn : Nat) (failed : BitVec 8) :
    EndsFramed preconditionParts preconditionFields (.preconditionComplete sbn failed) := fun s => by
  refine ⟨_, rfl, .ite (fun _ => .rfl) fun _ => ?_⟩
  have hend : Framed preconditionParts preconditionFields s
      (if failed = 0 then s.preconditioned sbn else s.precondFailed sbn failed) :=
    .ite (fun _ => Framed.rfl.via (preconditioned_within ..) (preconditioned_regs _ _ (by decide)) rfl)
      fun _ => Framed.rfl.quiet (precondFailed_within ..) rfl rfl
  exact hend.via (poolCounts_within _) (by apply poolCounts_regs <;> repeat constructor) rfl

/-- The parts that the filling of an open stripe may change. -/
def fillStripeParts : Nat := 0x2800000000000000000000228000200000000000000000000000000000000000022

theorem pick_fillStripeParts (s t : State) : State.pick fillStripeParts s t = { s with
    regs := t.regs, out := t.out, pages := t.pages,
    xlat := { s.xlat with blocks := t.xlat.blocks, opens := t.xlat.opens, seq := t.xlat.seq },
    telem := { s.telem with counts := t.telem.counts, bwRead := t.telem.bwRead } } := rfl

theorem poolFillTimeout_framed (course : Nat) (hot : Bool) :
    EndsFramed fillStripeParts [Reg.TELEM_BLK_OVF_OVF] (.poolFillTimeout course hot) := fun s => by
  refine ⟨_, rfl, ?_⟩
  split
  · exact .rfl
  next o _ =>
  exact .ite (fun _ => .rfl) fun _ => Framed.rfl.via (fillStripe_within ..) (fillStripe_regs _ _ _ _ (by decide)) rfl

/-- The parts that a checkpoint may change. -/
def checkpointParts : Nat := 0x2800000000000000000200000000000000000000000280000000000000000000022

theorem pick_checkpointParts (s t : State) : State.pick checkpointParts s t = { s with
    regs := t.regs, out := t.out,
    prot := { s.prot with roots := t.prot.roots, dirtyNodes := t.prot.dirtyNodes },
    xlat := { s.xlat with checkpoints := t.xlat.checkpoints },
    telem := { s.telem with counts := t.telem.counts, bwRead := t.telem.bwRead } } := rfl

/-- The block records of now, kept beside the newer of the two copies (R123). -/
def State.checkpointed (s : State) : State :=
  { s with xlat := { s.xlat with
    checkpoints := s.xlat.checkpoints.drop (s.xlat.checkpoints.length - 1) ++ [⟨s.checkpointNo, s.xlat.blocks⟩] } }

theorem exec_blockRecordCheckpoint (s : State) : exec .blockRecordCheckpoint s = done s
    (if !s.start.step6 || s.xlat.checkpoints.any (fun c => c.number == s.checkpointNo) then s
      else s.checkpointed.flushNodes) := rfl

theorem checkpointed_framed (l : List Field) (s : State) : Framed checkpointParts l s s.checkpointed :=
  Framed.rfl.set rfl rfl

theorem blockRecordCheckpoint_framed :
    EndsFramed checkpointParts [Reg.PROT_INTEG_DIRTY_LINES, Reg.TELEM_BLK_OVF_OVF] .blockRecordCheckpoint := fun s =>
  ⟨_, exec_blockRecordCheckpoint s, .ite (fun _ => .rfl) fun _ =>
    (checkpointed_framed _ s).via (flushNodes_within _) (flushNodes_regs _ (by decide)) rfl⟩

/-- The parts that a repeated precondition's request may change. -/
def againParts : Nat := 0x2800000000000000000400000000000000000000000000000000000000000000022

theorem pick_againParts (s t : State) : State.pick againParts s t = { s with
    regs := t.regs, out := t.out,
    xlat := { s.xlat with again := t.xlat.again },
    telem := { s.telem with counts := t.telem.counts, bwRead := t.telem.bwRead } } := rfl

theorem freeBlockReprecondition_framed (sbn : Nat) :
    EndsFramed againParts [Reg.TELEM_BLK_OVF_OVF] (.freeBlockReprecondition sbn) := fun _ =>
  ⟨_, rfl, .ite (fun _ => .rfl) fun _ => Framed.rfl.set rfl rfl⟩

theorem xlatMapIdxWrite_framed (v : Word) : EndsFramed endParts [
    Reg.TELEM_BLK_OVF_OVF, Reg.XLAT_MAP_HI_ENTRY_HI, Reg.XLAT_MAP_IDX_READY, Reg.XLAT_MAP_IDX_TRACT,
    Reg.XLAT_MAP_LO_ENTRY_LO] (.xlatMapIdxWrite v) := fun _ =>
  ⟨_, rfl, (((Framed.rfl.wr (by decide) rfl).wr (by decide) rfl).wr (by decide) rfl).via (setBit_within ..)
    (setBit_regs _ _ _ _ _ (by decide)) rfl⟩

theorem xlatSeqLoRead_framed :
    EndsFramed endParts [Reg.TELEM_BLK_OVF_OVF, Reg.XLAT_SEQ_HI_SEQ_HI] .xlatSeqLoRead := fun _ =>
  ⟨_, rfl, (Framed.rfl.wr (by decide) rfl).quiet (emit_within ..) rfl rfl⟩

theorem xlatCntClr_framed (v : Word) : EndsFramed clearParts [Reg.TELEM_BLK_OVF_OVF] (.xlatCntClr v) := fun _ =>
  ⟨_, rfl, .ite (fun _ => askClear_framed _) fun _ => .rfl⟩

/-! ### The merge buffer and persistence points -/

/-- The parts that a command which writes keep pages and counters may change. -/
def keepParts : Nat := 0x28000000000000000000000000000000000000000000000003ffff0000000000022

theorem pick_keepParts (s t : State) : State.pick keepParts s t = { s with
    regs := t.regs, out := t.out, keep := t.keep,
    telem := { s.telem with counts := t.telem.counts, bwRead := t.telem.bwRead } } := rfl

/-- The register fields that a write of the dirty budget may write. -/
def mergeCfgFields : List Field := [
  Reg.MERGE_CFG_BUDGET, Reg.MERGE_CFG_HOLDUP, Reg.MERGE_CFG_MIN_AGE, Reg.MERGE_CHAN_LIMIT_L, Reg.MERGE_GPF_DUR_MS,
  Reg.MERGE_PARTIAL_LINES, Reg.MERGE_SETTLING_LINES, Reg.MERGE_STATUS_CFG_REJECT, Reg.MERGE_STATUS_DIRTY,
  Reg.MERGE_STATUS_LIMIT, Reg.TELEM_BLK_OVF_OVF, Reg.XLAT_PINNED_LINES]

theorem mergeCfgWrite_framed (v : Word) : EndsFramed keepParts mergeCfgFields (.mergeCfgWrite v) := fun s => by
  refine ⟨_, rfl, ?_⟩
  extract_lets b h m same
  refine .ite (fun _ => ?take) fun _ => ?reject
  case take =>
    have hbudget : Framed keepParts mergeCfgFields s (s.setBudget b h) :=
      Framed.rfl.via (setBudget_within ..) (by apply setBudget_regs <;> repeat constructor) rfl
    exact ((hbudget.wr (by decide) rfl).quiet (keepWrite_within ..) rfl rfl).quiet (flash_within _) rfl rfl
  case reject => exact Framed.rfl.via (setBit_within ..) (setBit_regs _ _ _ _ _ (by decide)) rfl

/-- The parts that PERSIST AT may change. -/
def persistAtParts : Nat := 0x2800000000000000000000000000000000601000000000000000000000000000022

theorem pick_persistAtParts (s t : State) : State.pick persistAtParts s t = { s with
    regs := t.regs, out := t.out,
    merge := { s.merge with points := t.merge.points },
    mbox := { s.mbox with stored := t.mbox.stored, bg := t.mbox.bg },
    telem := { s.telem with counts := t.telem.counts, bwRead := t.telem.bwRead } } := rfl

theorem persistAt_framed (p : CmdPath) (stroke : Nat) :
    EndsFramed persistAtParts [Reg.MERGE_STATUS_POINTS, Reg.TELEM_BLK_OVF_OVF] (.persistAt p stroke) := fun _ =>
  ⟨_, rfl, command_framed _ _ _ _ (fun _ =>
    Framed.rfl.via (persistAt_within ..) (persistAt_regs _ _ _ (by decide)) rfl) (by decide)⟩

/-- The parts that the completion of a persistence point may change. -/
def pointParts : Nat := 0x280000200000000000000000000000000060f000000007fbcc00000000000000022

theorem pick_pointParts (s t : State) : State.pick pointParts s t = { s with
    regs := t.regs, out := t.out, events := t.events,
    chron := { s.chron with
      perm := t.chron.perm, ring := t.chron.ring, buffer := t.chron.buffer, nextSerial := t.chron.nextSerial,
      runs := t.chron.runs, dropped := t.chron.dropped },
    merge := { s.merge with
      points := t.merge.points, lastPoint := t.merge.lastPoint, pointDone := t.merge.pointDone,
      pointPinned := t.merge.pointPinned },
    mbox := { s.mbox with stored := t.mbox.stored, bg := t.mbox.bg },
    shelf := { s.shelf with pointReport := t.shelf.pointReport },
    telem := { s.telem with counts := t.telem.counts, bwRead := t.telem.bwRead } } := rfl

/-- The register fields that the completion of a persistence point may write. -/
def pointFields : List Field := [
  Reg.CHRON_DROP_CNT, Reg.CHRON_REPEAT_CNT, Reg.ERR_DIRTY_LOST_CNT, Reg.ERR_HEALTH_EVENT_DIRTY_LOST,
  Reg.MERGE_LOST_CNT, Reg.MERGE_POINT_LO_STROKE_LO, Reg.MERGE_STATUS_POINTS, Reg.TELEM_BLK_OVF_OVF]

theorem persistencePointComplete_framed (stroke : Nat) :
    EndsFramed pointParts pointFields (.persistencePointComplete stroke) := fun s => by
  refine ⟨_, rfl, ?_⟩
  split
  · exact .rfl
  · exact .ite (fun _ => Framed.rfl.via (endPoint_within ..) (by apply endPoint_regs <;> repeat constructor) rfl)
      fun _ => .rfl

theorem gpfPhase1_framed (port : Nat) : EndsFramed endParts [Reg.TELEM_BLK_OVF_OVF] (.gpfPhase1 port) := fun _ =>
  ⟨_, rfl, Framed.rfl.quiet (emit_within ..) rfl rfl⟩

/-- The parts that the start of a persistence point may change. -/
def joinPointParts : Nat := 0x2800000000000000000000000000000000001000000000000000000000000000022

theorem pick_joinPointParts (s t : State) : State.pick joinPointParts s t = { s with
    regs := t.regs, out := t.out,
    merge := { s.merge with points := t.merge.points },
    telem := { s.telem with counts := t.telem.counts, bwRead := t.telem.bwRead } } := rfl

theorem gpfPhase2_framed (port : Nat) :
    EndsFramed joinPointParts [Reg.MERGE_STATUS_POINTS, Reg.TELEM_BLK_OVF_OVF] (.gpfPhase2 port) := fun _ =>
  ⟨_, rfl, Framed.rfl.via (joinPoint_within ..) (joinPoint_regs _ _ _ _ (by decide)) rfl⟩

theorem mergeCntClr_framed (v : Word) : EndsFramed clearParts [Reg.TELEM_BLK_OVF_OVF] (.mergeCntClr v) := fun _ =>
  ⟨_, rfl, .ite (fun _ => askClear_framed _) fun _ => .rfl⟩

theorem mergePointLoRead_framed :
    EndsFramed endParts [Reg.MERGE_POINT_HI_STROKE_HI, Reg.TELEM_BLK_OVF_OVF] .mergePointLoRead := fun _ =>
  ⟨_, rfl, (Framed.rfl.wr (by decide) rfl).quiet (emit_within ..) rfl rfl⟩

/-! ### The keep and the chronicle -/

/-- The parts that the end of a keep program may change. -/
def keepSlotParts : Nat := 0x280000000000000000000000000000000000000000400003cfffff0000000000022

theorem pick_keepSlotParts (s t : State) : State.pick keepSlotParts s t = { s with
    regs := t.regs, out := t.out, keep := t.keep,
    chron := { s.chron with
      perm := t.chron.perm, ring := t.chron.ring, buffer := t.chron.buffer, nextSerial := t.chron.nextSerial,
      runs := t.chron.runs, dropped := t.chron.dropped },
    prot := { s.prot with lodged := t.prot.lodged },
    telem := { s.telem with counts := t.telem.counts, bwRead := t.telem.bwRead } } := rfl

/-- The register fields that the end of a keep program may write. -/
def keepSlotFields : List Field := [
  Reg.CHRON_DROP_CNT, Reg.CHRON_REPEAT_CNT, Reg.KEEP_RETRY_CNT, Reg.KEEP_STATUS_DEGRADED, Reg.KEEP_STATUS_FAIL,
  Reg.KEEP_WRITE_CNT, Reg.TELEM_BLK_OVF_OVF]

theorem keepSlotProgrammed_framed (readback : Bool) :
    EndsFramed keepSlotParts keepSlotFields (.keepSlotProgrammed readback) := fun _ =>
  ⟨_, rfl, Framed.rfl.via (keepProgrammed_within ..) (by apply keepProgrammed_regs <;> repeat constructor) rfl⟩

/-- The parts that the end of a keep sector's erase may change. -/
def keepSectorParts : Nat := 0x280000000000000000000000000000000000000000000003cfffff0000000000022

theorem pick_keepSectorParts (s t : State) : State.pick keepSectorParts s t = { s with
    regs := t.regs, out := t.out, keep := t.keep,
    chron := { s.chron with
      perm := t.chron.perm, ring := t.chron.ring, buffer := t.chron.buffer, nextSerial := t.chron.nextSerial,
      runs := t.chron.runs, dropped := t.chron.dropped },
    telem := { s.telem with counts := t.telem.counts, bwRead := t.telem.bwRead } } := rfl

/-- The register fields that the end of a keep sector's erase may write. -/
def keepSectorFields : List Field := [
  Reg.CHRON_DROP_CNT, Reg.CHRON_REPEAT_CNT, Reg.KEEP_ERASE_CNT, Reg.KEEP_STATUS_DEGRADED, Reg.TELEM_BLK_OVF_OVF]

theorem keepSectorEraseComplete_framed (ok : Bool) :
    EndsFramed keepSectorParts keepSectorFields (.keepSectorEraseComplete ok) := fun s => by
  change ∃ u, execKeepSectorEraseComplete ok s = done s u ∧ _
  unfold execKeepSectorEraseComplete
  split
  · exact ⟨_, rfl, Framed.rfl.via (keepErased_within ..) (by apply keepErased_regs <;> repeat constructor) rfl⟩
  · exact ⟨_, rfl, .rfl⟩

theorem spreadCounterIncrement_framed (which : Nat) :
    EndsFramed keepParts [Reg.TELEM_BLK_OVF_OVF] (.spreadCounterIncrement which) := fun _ =>
  ⟨_, rfl, Framed.rfl.quiet (spreadIncrement_within ..) rfl rfl⟩

/-- The parts that the end of a chronicle program or erase may change. -/
def chronicleParts : Nat := 0x280000000000000000000000000000000000000000000007ffffff0000000000022

theorem pick_chronicleParts (s t : State) : State.pick chronicleParts s t = { s with
    regs := t.regs, out := t.out, keep := t.keep, chron := t.chron,
    telem := { s.telem with counts := t.telem.counts, bwRead := t.telem.bwRead } } := rfl

theorem chronicleRecordProgrammed_framed (readback : Bool) :
    EndsFramed chronicleParts [Reg.CHRON_WRITTEN_CNT, Reg.TELEM_BLK_OVF_OVF] (.chronicleRecordProgrammed readback) :=
  fun _ => ⟨_, rfl, Framed.rfl.via (chronProgrammed_within ..) (chronProgrammed_regs _ _ (by decide)) rfl⟩

theorem chronicleSectorEraseComplete_framed (ok : Bool) :
    EndsFramed chronicleParts [Reg.TELEM_BLK_OVF_OVF] (.chronicleSectorEraseComplete ok) := fun s => by
  change ∃ u, execChronicleSectorEraseComplete ok s = done s u ∧ _
  unfold execChronicleSectorEraseComplete
  split
  · exact ⟨_, rfl, Framed.rfl.quiet (ringErased_within ..) rfl rfl⟩
  · exact ⟨_, rfl, .rfl⟩

/-- The parts that the closing of a run may change. -/
def closeRunParts : Nat := 0x2800000000000000000000000000000000000000000000014c00000000000000022

theorem pick_closeRunParts (s t : State) : State.pick closeRunParts s t = { s with
    regs := t.regs, out := t.out,
    chron := { s.chron with
      perm := t.chron.perm, ring := t.chron.ring, buffer := t.chron.buffer, runs := t.chron.runs },
    telem := { s.telem with counts := t.telem.counts, bwRead := t.telem.bwRead } } := rfl

theorem chronicleRunClose_framed (code source : Nat) :
    EndsFramed closeRunParts [Reg.TELEM_BLK_OVF_OVF] (.chronicleRunClose code source) := fun s => by
  change ∃ u, execChronicleRunClose code source s = done s u ∧ _
  unfold execChronicleRunClose
  split
  · exact ⟨_, rfl, Framed.rfl.quiet (closeRun_within ..) rfl rfl⟩
  · exact ⟨_, rfl, .rfl⟩

theorem keepPageIdxWrite_framed (v : Word) : EndsFramed endParts [
    Reg.KEEP_PAGE_IDX_PAGE, Reg.KEEP_PAGE_IDX_READY, Reg.TELEM_BLK_OVF_OVF] (.keepPageIdxWrite v) := fun s => by
  change ∃ u, execKeepPageIdxWrite v s = done s u ∧ _
  unfold execKeepPageIdxWrite
  extract_lets p
  split
  · exact ⟨_, rfl, .rfl⟩
  · exact ⟨_, rfl, (Framed.rfl.wr (by decide) rfl).via (setBit_within ..) (setBit_regs _ _ _ _ _ (by decide)) rfl⟩

theorem keepCntClr_framed (v : Word) : EndsFramed clearParts [Reg.TELEM_BLK_OVF_OVF] (.keepCntClr v) := fun _ =>
  ⟨_, rfl, .ite (fun _ => askClear_framed _) fun _ => .rfl⟩

theorem chronCntClr_framed (v : Word) : EndsFramed clearParts [Reg.TELEM_BLK_OVF_OVF] (.chronCntClr v) := fun _ =>
  ⟨_, rfl, .ite (fun _ => askClear_framed _) fun _ => .rfl⟩

/-- Settles O54: the frame of each command, with what its end adds, is the one that its clause lists. -/
theorem placementAndMergeFrames : Obligations.PlacementAndMergeFrames :=
  ⟨fun a => (moveStripeCommit_framed a).changes pick_stripeCommitParts rfl rfl (by decide),
    fun a => (liftVerify_framed a).changes pick_appendParts rfl rfl (by decide),
    heatHalving_framed.changes pick_heatParts rfl rfl (by decide),
    fun a => (settleBackWalk_framed a).changes pick_walkParts rfl rfl (by decide),
    fun a => (settleBackCommit_framed a).changes pick_settleCommitParts rfl rfl (by decide),
    fun a => (reclaim_framed a).changes pick_reclaimParts rfl rfl (by decide),
    fun a => (reclaimCopyCommit_framed a).changes pick_appendParts rfl rfl (by decide),
    fun a b => (preconditionComplete_framed a b).changes pick_preconditionParts rfl rfl (by decide),
    fun a b => (poolFillTimeout_framed a b).changes pick_fillStripeParts rfl rfl (by decide),
    blockRecordCheckpoint_framed.changes pick_checkpointParts rfl rfl (by decide),
    fun a => (xlatMapIdxWrite_framed a).changes pick_endParts rfl rfl (by decide),
    xlatSeqLoRead_framed.changes pick_endParts rfl rfl (by decide),
    fun a => (xlatCntClr_framed a).changes pick_clearParts rfl rfl (by decide),
    fun a => (mergeCfgWrite_framed a).changes pick_keepParts rfl rfl (by decide),
    fun a b => (persistAt_framed a b).changes pick_persistAtParts rfl rfl (by decide),
    fun a => (persistencePointComplete_framed a).changes pick_pointParts rfl rfl (by decide),
    fun a => (gpfPhase1_framed a).changes pick_endParts rfl rfl (by decide),
    fun a => (gpfPhase2_framed a).changes pick_joinPointParts rfl rfl (by decide),
    fun a => (mergeCntClr_framed a).changes pick_clearParts rfl rfl (by decide),
    mergePointLoRead_framed.changes pick_endParts rfl rfl (by decide),
    fun a => (freeBlockReprecondition_framed a).changes pick_againParts rfl rfl (by decide),
    fun a => (keepSlotProgrammed_framed a).changes pick_keepSlotParts rfl rfl (by decide),
    fun a => (keepSectorEraseComplete_framed a).changes pick_keepSectorParts rfl rfl (by decide),
    fun a => (spreadCounterIncrement_framed a).changes pick_keepParts rfl rfl (by decide),
    fun a => (chronicleRecordProgrammed_framed a).changes pick_chronicleParts rfl rfl (by decide),
    fun a => (chronicleSectorEraseComplete_framed a).changes pick_chronicleParts rfl rfl (by decide),
    fun a b => (chronicleRunClose_framed a b).changes pick_closeRunParts rfl rfl (by decide),
    fun a => (keepPageIdxWrite_framed a).changes pick_endParts rfl rfl (by decide),
    fun a => (keepCntClr_framed a).changes pick_clearParts rfl rfl (by decide),
    fun a => (chronCntClr_framed a).changes pick_clearParts rfl rfl (by decide)⟩

end Sys2Proof.Machine
end

section
/-! SUPPORT. Block records, open stripes, checkpoints and the registers of the tract map (R123, R125, R127, R129, R142,
R208, R228), and O24. -/

namespace Sys2Proof.Machine

open Sys2Proof

/-! ### Parts that a frame does not list -/

/-- A part whose bit is clear in the mask of a frame is as before. -/
theorem Within.part {α : Type} {m : Nat} {s t : State} (h : Within m s t) (π : State → α) (k : Nat)
    (hπ : π (State.pick m s t) = bif m.testBit k then π t else π s) (e : m.testBit k = false) : π t = π s := by
  rw [e] at hπ
  exact (congrArg π h).trans hπ

theorem Within.xlat {m : Nat} {s t : State} (h : Within m s t)
    (e : (State.pick m s t).xlat = s.xlat := by rfl) : t.xlat = s.xlat := (congrArg State.xlat h).trans e

theorem Within.opens {m : Nat} {s t : State} (h : Within m s t) (e : m.testBit 173 = false) :
    t.xlat.opens = s.xlat.opens := h.part (fun u => u.xlat.opens) 173 (Eq.refl _) e

theorem Within.precondQ {m : Nat} {s t : State} (h : Within m s t) (e : m.testBit 176 = false) :
    t.xlat.precondQ = s.xlat.precondQ := h.part (fun u => u.xlat.precondQ) 176 (Eq.refl _) e

theorem Within.again {m : Nat} {s t : State} (h : Within m s t) (e : m.testBit 190 = false) :
    t.xlat.again = s.xlat.again := h.part (fun u => u.xlat.again) 190 (Eq.refl _) e

theorem Within.dirtyNodes {m : Nat} {s t : State} (h : Within m s t) (e : m.testBit 93 = false) :
    t.prot.dirtyNodes = s.prot.dirtyNodes := h.part (fun u => u.prot.dirtyNodes) 93 (Eq.refl _) e

theorem ended_xlat (s u : State) : (s.ended u).xlat = u.xlat := (settle_within s u).xlat

theorem ended_dirtyNodes (s u : State) : (s.ended u).prot.dirtyNodes = u.prot.dirtyNodes :=
  (settle_within s u).dirtyNodes (by decide)

@[simp] theorem poolCounts_xlat (s : State) : s.poolCounts.xlat = s.xlat := (poolCounts_within s).xlat

theorem block_congr {s t : State} (h : t.xlat = s.xlat) (b : Nat) : t.block b = s.block b := by
  unfold State.block; rw [h]

/-! ### Reclaim and preconditions (R127, R129, R208) -/

/-- A block that leaves its pool is retired, or awaits its precondition in the queue. -/
theorem retireOrQueue_block (s : State) (b : Nat) :
    ((s.retireOrQueue b).block b).tract = none
      ∧ (((s.retireOrQueue b).block b).pool = .retired
        ∨ ((s.retireOrQueue b).block b).pool = .awaiting ∧ b ∈ (s.retireOrQueue b).xlat.precondQ) := by
  unfold State.retireOrQueue
  extract_lets k u q
  have hu : u.block b = { k with pool := .awaiting, tract := none, lifted := 0, valid := 0 } := block_setBlock_self ..
  split
  · rw [block_setBlock_self]
    exact ⟨rfl, .inl rfl⟩
  split
  · next hqueued =>
    rw [hu]
    exact ⟨rfl, .inr ⟨rfl, List.contains_iff_mem.1 hqueued⟩⟩
  · have hblock : State.block { u with xlat := { u.xlat with precondQ := u.xlat.precondQ ++ [b] } } b = u.block b := rfl
    rw [hblock, hu]
    exact ⟨rfl, .inr ⟨rfl, List.mem_append_right _ (List.mem_singleton_self b)⟩⟩

theorem reclaim_empties {s : State} {c b : Nat} {k : Block} (hheld : s.capoHeld = false) (hstep6 : s.start.step6 = true)
    (hblock : s.reclaimBlock c = some (b, k)) (hvalid : k.valid = 0) :
    answers (.reclaim c) s fun t =>
      (t.block b).tract = none
        ∧ ((t.block b).pool = .retired ∨ ((t.block b).pool = .awaiting ∧ b ∈ t.xlat.precondQ)) := by
  have hexec : exec (.reclaim c) s = done s (s.retireOrQueue b).poolCounts := by
    show execReclaim c s = _
    simp [execReclaim, hheld, hstep6, hblock, hvalid]
  refine answers_of_eq_done hexec ?_
  rw [ended_block, ended_xlat, poolCounts_xlat, block_congr (poolCounts_xlat _)]
  exact retireOrQueue_block s b

theorem exec_preconditionComplete {s : State} {b : Nat} (failed : BitVec 8)
    (hruns : s.preconditioning.contains b = true) :
    exec (.preconditionComplete b failed) s =
      done s (if failed = 0 then s.preconditioned b else s.precondFailed b failed).poolCounts := by
  show execPreconditionComplete b failed s = _
  rw [execPreconditionComplete, hruns]
  rfl

/-- A precondition that verifies leaves a blank, free block, with one more in PRECOND_CNT, off both queues. -/
theorem preconditioned_frees (s : State) (b : Nat) :
    (s.preconditioned b).block b = { s.block b with
        pool := .free, tract := none, valid := 0, lifted := 0, fill := 0, degraded := [], sealed := false,
        precond := (s.block b).precond + 1, time := s.tagTime }
      ∧ (s.preconditioned b).xlat.precondQ = s.xlat.precondQ.filter (· != b)
      ∧ (s.preconditioned b).xlat.again = s.xlat.again.filter (· != b) := by
  unfold State.preconditioned
  extract_lets back k u v
  have hv : v.block b = _ := block_setBlock_self ..
  split
  · exact ⟨((bump_within ..).block b).trans hv, (bump_within ..).precondQ (by decide),
      (bump_within ..).again (by decide)⟩
  · exact ⟨hv, rfl, rfl⟩

theorem eraseBlock_blank (s : State) (b : Nat) : ∀ e ∈ (s.eraseBlock b).pages, mpSbn e.1 ≠ b := fun e he => by
  simpa using (List.mem_filter.1 he).2

theorem not_mem_filter_ne (l : List Nat) (b : Nat) : b ∉ l.filter (· != b) := by simp

theorem preconditionComplete_frees {s : State} {b : Nat} (hruns : s.preconditioning.contains b = true) :
    answers (.preconditionComplete b 0) s fun t =>
      (t.block b).pool = .free ∧ (t.block b).precond = (s.block b).precond + 1 ∧ (t.block b).valid = 0
        ∧ b ∉ t.xlat.precondQ ∧ b ∉ t.xlat.again ∧ ∀ e ∈ t.pages, mpSbn e.1 ≠ b := by
  refine answers_of_eq_done (exec_preconditionComplete 0 hruns) ?_
  rw [ended_block, ended_xlat, ended_pages, poolCounts_xlat, poolCounts_pages, block_congr (poolCounts_xlat _),
    if_pos rfl, preconditioned_pages]
  obtain ⟨hblock, hqueue, hagain⟩ := preconditioned_frees s b
  rw [hblock, hqueue, hagain]
  exact ⟨rfl, rfl, rfl, not_mem_filter_ne _ b, not_mem_filter_ne _ b, eraseBlock_blank s b⟩

theorem preconditionComplete_retires {s : State} {b : Nat} {failed : BitVec 8}
    (hruns : s.preconditioning.contains b = true) (hfailed : failed ≠ 0) :
    answers (.preconditionComplete b failed) s fun t =>
      (t.block b).pool = .retired ∧ (t.block b).failedRb = (s.block b).failedRb ||| failed ∧ b ∉ t.xlat.precondQ := by
  refine answers_of_eq_done (exec_preconditionComplete failed hruns) ?_
  rw [ended_block, ended_xlat, poolCounts_xlat, block_congr (poolCounts_xlat _), if_neg hfailed]
  have hblock : (s.precondFailed b failed).block b = _ := block_setBlock_self ..
  have hqueue : (s.precondFailed b failed).xlat.precondQ = s.xlat.precondQ.filter (· != b) := rfl
  rw [hblock, hqueue]
  exact ⟨rfl, rfl, not_mem_filter_ne _ b⟩

theorem freeBlockReprecondition_queues {s : State} {b : Nat} (hheld : s.capoHeld = false) (hfree : s.isFree b = true)
    (hold : s.horizon < s.stroke - (s.block b).time * 2 ^ 20) :
    answers (.freeBlockReprecondition b) s fun t => b ∈ t.xlat.again ∧ t.xlat.blocks = s.xlat.blocks := by
  refine answers_of_eq_done rfl ?_
  rw [ended_xlat]
  extract_lets old
  have hdue : old = true := decide_eq_true hold
  have hstarts : (s.capoHeld || !s.isFree b || !old || s.xlat.again.contains b) = s.xlat.again.contains b := by
    rw [hheld, hfree, hdue]
    rfl
  rw [hstarts]
  split
  · next hqueued => exact ⟨List.contains_iff_mem.1 hqueued, rfl⟩
  · exact ⟨List.mem_append_right _ (List.mem_singleton_self b), rfl⟩

/-! ### Filler pages (R125) -/

/-- The open block of a pool of a course is `sbn`. -/
def State.opensAs (s : State) (hot : Bool) (course sbn : Nat) : Prop :=
  ∃ o, s.xlat.opens.find (openKey hot course) = some o ∧ o.sbn = sbn

/-- Below its last page a block stays open. -/
theorem takePage_opensAs (s : State) (hot : Bool) (course : Nat) (o : OpenBlock)
    (hroom : (s.block o.sbn).fill + 1 < 1792) : (s.takePage hot course o).1.opensAs hot course o.sbn := by
  unfold State.takePage
  extract_lets k dst u o'
  rw [if_neg (Nat.not_le.2 hroom)]
  exact ⟨o', Tab.find_put_self .., rfl⟩

/-- One filler page: the block holds one page more, and stays open while there is room. -/
theorem fillOne_fills {s : State} {hot : Bool} {course sbn : Nat} (epoch : Nat) (hopen : s.opensAs hot course sbn) :
    ((s.fillOne hot course sbn epoch).block sbn).fill = (s.block sbn).fill + 1
      ∧ ((s.block sbn).fill + 1 < 1792 → (s.fillOne hot course sbn epoch).opensAs hot course sbn) := by
  obtain ⟨o, ho, rfl⟩ := hopen
  unfold State.fillOne
  simp only [ho, ne_eq, not_true_eq_false, if_false]
  constructor
  · rw [programPage_fill]
    exact takePage_fill s.takeSeq.1 hot course o
  · intro hroom
    obtain ⟨o', ho', hsbn⟩ := takePage_opensAs s.takeSeq.1 hot course o hroom
    exact ⟨o', (congrArg (Tab.find · _) ((programPage_within ..).opens (by decide))).trans ho', hsbn⟩

theorem foldl_fillOne_fill {hot : Bool} {course sbn : Nat} (epoch : Nat) (l : List Nat) (s : State)
    (hopen : s.opensAs hot course sbn) (hroom : (s.block sbn).fill + l.length ≤ 1792) :
    ((l.foldl (fun t _ => t.fillOne hot course sbn epoch) s).block sbn).fill = (s.block sbn).fill + l.length := by
  induction l generalizing s with
  | nil => rfl
  | cons x l ih =>
    obtain ⟨hfill, hstays⟩ := fillOne_fills epoch hopen
    rw [List.length_cons] at hroom ⊢
    rcases Nat.eq_zero_or_pos l.length with hl | hl
    · rw [List.length_eq_zero_iff.1 hl]
      exact hfill
    · rw [List.foldl_cons, ih _ (hstays (by omega)) (by omega), hfill]
      omega

/-- The open stripe is completed to its seventh data page. -/
theorem fillStripe_fill {s : State} {hot : Bool} {course : Nat} {o : OpenBlock}
    (ho : s.xlat.opens.find (openKey hot course) = some o) (hroom : (s.block o.sbn).fill < 1792) :
    ((s.fillStripe hot course o).block o.sbn).fill = ((s.block o.sbn).fill + 6) / 7 * 7 := by
  have hlength : (List.range ((7 - (s.block o.sbn).fill % 7) % 7)).length = (7 - (s.block o.sbn).fill % 7) % 7 :=
    List.length_range
  rw [fillStripe_eq, foldl_fillOne_fill _ _ s ⟨o, ho, rfl⟩ (by omega), hlength]
  omega

theorem poolFillTimeout_fills {s : State} {c : Nat} {hot : Bool} {x : OpenBlock}
    (hx : s.xlat.opens.find (openKey hot c) = some x) (hgathered : x.gathered ≠ 0)
    (hdue : x.since + s.rd Reg.XLAT_FILL_CFG_FILL_TIMEOUT ≤ s.stroke) (hroom : (s.block x.sbn).fill < 1792) :
    answers (.poolFillTimeout c hot) s fun t => (t.block x.sbn).fill = ((s.block x.sbn).fill + 6) / 7 * 7 := by
  have hexec : exec (.poolFillTimeout c hot) s = done s (s.fillStripe hot c x) := by
    show execPoolFillTimeout c hot s = _
    simp [execPoolFillTimeout, hx, hgathered, Nat.not_lt.2 hdue]
  refine answers_of_eq_done hexec ?_
  rw [ended_block]
  exact fillStripe_fill hx hroom

/-! ### Checkpoints (R123, R228) -/

theorem flushNodes_dirtyNodes (s : State) : s.flushNodes.prot.dirtyNodes = [] := by
  have hflushed : s.flushNodes.prot.dirtyNodes
      = s.prot.dirtyNodes.filter (fun k => !s.prot.dirtyNodes.contains k) := rfl
  rw [hflushed, List.filter_eq_nil_iff]
  simp

theorem blockRecordCheckpoint_keeps {s : State} (hstep6 : s.start.step6 = true)
    (hdue : s.xlat.checkpoints.any (fun c => c.number == s.checkpointNo) = false) :
    answers .blockRecordCheckpoint s fun t =>
      ⟨s.checkpointNo, s.xlat.blocks⟩ ∈ t.xlat.checkpoints ∧ t.xlat.checkpoints.length ≤ 2 ∧ t.prot.dirtyNodes = []
        ∧ t.xlat.blocks = s.xlat.blocks := by
  have hexec : exec .blockRecordCheckpoint s = done s s.checkpointed.flushNodes := by
    rw [exec_blockRecordCheckpoint, hstep6, hdue]
    rfl
  have hlength : s.checkpointed.xlat.checkpoints.length ≤ 2 := by
    simp only [State.checkpointed, List.length_append, List.length_drop, List.length_singleton]
    omega
  refine answers_of_eq_done hexec ?_
  rw [ended_xlat, (flushNodes_within _).xlat, ended_dirtyNodes, flushNodes_dirtyNodes]
  exact ⟨List.mem_append_right _ (List.mem_singleton_self _), hlength, rfl, rfl⟩

/-! ### The registers of the tract map (R142) -/

/-- A register that is the only one of its field reads as before after a write of another such register. -/
theorem rd_wr_apart {s : State} {f g : Field} {v : Nat} (h : g.apartFrom f = true := by decide) :
    (s.wr f v).rd g = s.rd g := rd_wr_ne s f g v 0 0 0 0 (Field.key_ne_of_apartFrom h 0 0)

/-- The end of a command leaves a register apart from TELEM_BLK_OVF. -/
theorem ended_rd_apart {s u : State} {f : Field} (h : f.apartFrom Reg.TELEM_BLK_OVF_OVF = true := by decide) :
    (s.ended u).rd f = u.rd f := ended_rd s u (Field.key_ne_of_apartFrom h)

theorem xlatMapIdxWrite_shows (s : State) (v : Word) : answers (.xlatMapIdxWrite v) s fun t =>
    t.rd Reg.XLAT_MAP_IDX_TRACT = v.toNat % 2 ^ 20 ∧ t.bit Reg.XLAT_MAP_IDX_READY = true
      ∧ t.rd Reg.XLAT_MAP_LO_ENTRY_LO = (s.tract (v.toNat % 2 ^ 20)).word % 2 ^ 32
      ∧ t.rd Reg.XLAT_MAP_HI_ENTRY_HI = (s.tract (v.toNat % 2 ^ 20)).word / 2 ^ 32 % 2 ^ 32 ∧ t.xlat = s.xlat := by
  refine answers_of_eq_done rfl ?_
  unfold State.bit State.setBit
  rw [ended_xlat, ended_rd_apart, ended_rd_apart, ended_rd_apart, ended_rd_apart, rd_wr_self]
  refine ⟨?_, rfl, ?_, ?_, rfl⟩
  · rw [rd_wr_apart, rd_wr_apart, rd_wr_apart, rd_wr_self]
    exact Nat.mod_mod _ _
  · rw [rd_wr_apart, rd_wr_apart, rd_wr_self]
    exact Nat.mod_mod _ _
  · rw [rd_wr_apart, rd_wr_self]
    rfl

theorem xlatSeqLoRead_latches (s : State) : answers .xlatSeqLoRead s fun t =>
    t.rd Reg.XLAT_SEQ_HI_SEQ_HI = s.xlat.seq / 2 ^ 32 % 2 ^ 32 ∧ Out.readValue 0x500038 (s.xlat.seq % 2 ^ 32) ∈ t.out
      ∧ t.xlat = s.xlat := by
  refine answers_of_eq_done rfl ⟨?_, mem_ended_out (List.mem_append_right _ (List.mem_singleton_self _)), ended_xlat ..⟩
  rw [ended_rd_apart]
  exact rd_wr_self ..

/-- Settles O24: each command ends in the one operation that its clause is about; what its end looks at is outside
translation and the medium. -/
theorem blocksAndTheirRecords : Obligations.BlocksAndTheirRecords :=
  ⟨fun _ _ _ _ hheld hstep6 hblock hvalid => reclaim_empties hheld hstep6 hblock hvalid,
    fun _ _ hruns => preconditionComplete_frees hruns,
    fun _ _ _ hruns hfailed => preconditionComplete_retires hruns hfailed,
    fun _ _ _ _ hx hgathered hdue hroom => poolFillTimeout_fills hx hgathered hdue hroom,
    fun _ hstep6 hdue => blockRecordCheckpoint_keeps hstep6 hdue,
    fun _ _ hheld hfree hold => freeBlockReprecondition_queues hheld hfree hold,
    fun s v => xlatMapIdxWrite_shows s v,
    fun s => xlatSeqLoRead_latches s⟩

end Sys2Proof.Machine
end

section
/-! SUPPORT. Stripes of a move, copies of pages and settle-backs (R117, R118, R119, R128, R130), and O23. -/

namespace Sys2Proof.Machine

-- One proof at a time: each proof elaborated beside another needs a thread's stack, and the text has a memory limit.
set_option Elab.async false

open Sys2Proof

/-! ### Parts that a frame does not list -/

theorem Within.tract {m : Nat} {s t : State} (h : Within m s t) (e : m.testBit 169 = false) (n : Nat) :
    t.tract n = s.tract n := by
  have htracts : t.xlat.tracts = s.xlat.tracts := h.part (fun u => u.xlat.tracts) 169 (Eq.refl _) e
  rw [State.tract, State.tract, htracts]

theorem Within.fluid {m : Nat} {s t : State} (h : Within m s t) (e : m.testBit 170 = false) :
    t.xlat.fluid = s.xlat.fluid := h.part (fun u => u.xlat.fluid) 170 (Eq.refl _) e

theorem Within.moves {m : Nat} {s t : State} (h : Within m s t) (e : m.testBit 179 = false) :
    t.xlat.moves = s.xlat.moves := h.part (fun u => u.xlat.moves) 179 (Eq.refl _) e

theorem Within.copies {m : Nat} {s t : State} (h : Within m s t) (e : m.testBit 181 = false) :
    t.xlat.copies = s.xlat.copies := h.part (fun u => u.xlat.copies) 181 (Eq.refl _) e

theorem Within.settles {m : Nat} {s t : State} (h : Within m s t) (e : m.testBit 182 = false) :
    t.xlat.settles = s.xlat.settles := h.part (fun u => u.xlat.settles) 182 (Eq.refl _) e

theorem Within.heat {m : Nat} {s t : State} (h : Within m s t) (e : m.testBit 119 = false) :
    t.merge.heat = s.merge.heat := h.part (fun u => u.merge.heat) 119 (Eq.refl _) e

theorem foldl_drainVerified_xlat (l : List Nat) (s : State) :
    (l.foldl (fun s line => s.drainVerified line) s).xlat = s.xlat :=
  (Within.foldl (fun t x => drainVerified_within t x) l .rfl).xlat

theorem tele_xlat (s : State) (b code f n : Nat) : (s.tele b code f n).xlat = s.xlat := (tele_within s b code f n).xlat

/-! ### The stripe of a move (R130) -/

theorem programStripe_parity (s : State) (sbn st : Nat) (l : List MPage) :
    (s.programStripe sbn st l []).pages.find (mpOf sbn st (parityPos sbn st)) = some (parityPage l s.ageNow) := by
  unfold State.programStripe
  extract_lets par q r
  rw [teleAppend_pages, wear_pages]
  exact Tab.find_put_self ..

theorem commitStripe_parity (s : State) (m : Move) (l : List MPage) (hf : m.failed = []) :
    (s.commitStripe m l).pages.find
        (mpOf (s.tract m.tract).sb (s.tract m.tract).ptr (parityPos (s.tract m.tract).sb (s.tract m.tract).ptr))
      = some (parityPage l s.ageNow) := by
  rw [commitStripe_pages, hf]
  exact programStripe_parity ..

theorem programStripe_moves (s : State) (sbn st : Nat) (l : List MPage) (f : List Nat) :
    (s.programStripe sbn st l f).xlat.moves = s.xlat.moves := (programStripe_within s sbn st l f).moves (by decide)

theorem degrade_moves (s : State) (sbn st : Nat) : (s.degrade sbn st).xlat.moves = s.xlat.moves :=
  (degrade_within s sbn st).moves (by decide)

/-- The moves after a commit: the move itself without what it carried, marked committed. -/
theorem commitStripe_moves (s : State) (m : Move) (l : List MPage) : (s.commitStripe m l).xlat.moves =
    s.xlat.moves.map fun x => if x.tract == m.tract then { m with committed := true, carried := [] } else x := by
  unfold State.commitStripe
  simp only [foldl_drainVerified_xlat, putMove_xlat, tele_xlat]
  congr 1
  split
  · exact programStripe_moves ..
  · exact (degrade_moves ..).trans (programStripe_moves ..)

theorem commitStripe_find_move {s : State} {n : Nat} {m : Move} (l : List MPage)
    (hm : s.xlat.moves.find? (fun m => m.tract == n) = some m) :
    (s.commitStripe m l).xlat.moves.find? (fun m => m.tract == n)
      = some { m with committed := true, carried := [] } := by
  have hn : m.tract = n := by simpa using List.find?_some hm
  have hkey : ((fun x : Move => x.tract == n) ∘
      fun x => if x.tract == m.tract then { m with committed := true, carried := [] } else x)
        = fun x : Move => x.tract == n := by
    funext x
    by_cases hx : x.tract = m.tract
    · simp [hx]
    · simp [hx]
  rw [commitStripe_moves, List.find?_map, hkey, hm]
  simp

theorem exec_moveStripeCommit {s : State} {n : Nat} {m : Move} {l : List MPage}
    (hm : s.xlat.moves.find? (fun m => m.tract == n) = some m) (hl : m.load = some l) (hc : m.committed = false)
    (hf : m.failed = []) : exec (.moveStripeCommit n) s = done s (s.commitStripe m l) := by
  show execMoveStripeCommit n s = _
  simp [execMoveStripeCommit, hm, hl, hc, hf, State.liftAllFailed]

/-! ### The fluid table (R117, R128) -/

/-- The tract's entry, the valid count and the pool counts follow the fluid entry; they are no part of the table. -/
theorem setFluid_fluid (s : State) (lpn mp : Nat) (r : Bool) :
    (s.setFluid lpn mp r).xlat.fluid = s.xlat.fluid.put lpn (mp, r) := by
  unfold State.setFluid
  extract_lets t x k s1 y s2
  have h1 : s1.xlat.fluid = s.xlat.fluid := by
    unfold s1
    split
    · exact (invalidate_within ..).fluid (by decide)
    · rfl
  have h2 : s2.xlat.fluid = s.xlat.fluid.put lpn (mp, r) := congrArg (fun f => f.put lpn (mp, r)) h1
  calc _ = ((s2.setTract t { s2.tract t with hasLifted := true }).validate mp).xlat.fluid :=
        ((poolCounts_within ..).fluid (by decide)).trans ((retarget_within ..).fluid (by decide))
    _ = s2.xlat.fluid := ((validate_within ..).fluid (by decide)).trans ((setTract_within ..).fluid (by decide))
    _ = _ := h2

theorem setFluid_copies (s : State) (lpn mp : Nat) (r : Bool) : (s.setFluid lpn mp r).xlat.copies = s.xlat.copies :=
  (setFluid_within ..).copies (by decide)

theorem dropFluid_find (s : State) (lpn : Nat) : (s.dropFluid lpn).xlat.fluid.find lpn = none := by
  unfold State.dropFluid
  split
  · next hnone => exact hnone
  · extract_lets t x s1 y s2 n k s3
    have h : ((s3.setTract t { s3.tract t with hasLifted := s3.xlat.fluid.any (fun e => tractOfLpn e.1 == t) }).retarget
        t).poolCounts.xlat.fluid = s2.xlat.fluid :=
      calc _ = (s3.setTract t _).xlat.fluid :=
            ((poolCounts_within ..).fluid (by decide)).trans ((retarget_within ..).fluid (by decide))
        _ = s3.xlat.fluid := (setTract_within ..).fluid (by decide)
        _ = s2.xlat.fluid := rfl
    rw [h]
    exact Tab.find_del_self ..

/-! ### Lifts and reclaim copies (R117, R128) -/

theorem programPage_fluid (s : State) (mp : Nat) (p : MPage) : (s.programPage mp p).xlat.fluid = s.xlat.fluid :=
  (programPage_within ..).fluid (by decide)

theorem programPage_copies (s : State) (mp : Nat) (p : MPage) : (s.programPage mp p).xlat.copies = s.xlat.copies :=
  (programPage_within ..).copies (by decide)

/-- A lift whose stripe has been gathered: the copy ends, its page is on the medium and the fluid entry names it. -/
def State.lifted (s : State) (n : Nat) (c : Copy) : State :=
  c.carried.foldl (fun s l => s.drainVerified l) (((s.endCopy c).programPage c.dst c.page).setFluid n c.dst true)

theorem exec_liftVerify {s : State} {n : Nat} {c : Copy}
    (hc : s.xlat.copies.find? (fun c => c.lpn == n && c.why != .reclaim) = some c)
    (hg : s.stripeGathered c.dst = true) : exec (.liftVerify n) s = done s (s.lifted n c) := by
  show execLiftVerify n s = _
  simp [execLiftVerify, hc, hg, State.lifted]

theorem lifted_fluid (s : State) (n : Nat) (c : Copy) :
    (s.lifted n c).xlat.fluid = s.xlat.fluid.put n (c.dst, true) := by
  rw [State.lifted, foldl_drainVerified_xlat, setFluid_fluid, programPage_fluid, endCopy_xlat]

theorem lifted_copies (s : State) (n : Nat) (c : Copy) :
    (s.lifted n c).xlat.copies = s.xlat.copies.filter (fun x => x.lpn != c.lpn) := by
  rw [State.lifted, foldl_drainVerified_xlat, setFluid_copies, programPage_copies, endCopy_xlat]

/-- A reclaim copy whose stripe has been gathered, before the fluid table is looked at. -/
def State.reclaimed (s : State) (c : Copy) : State :=
  ((s.tele 13 0x04 (mpChan c.dst / 8)).endCopy c).programPage c.dst c.page

theorem reclaimed_fluid (s : State) (c : Copy) : (s.reclaimed c).xlat.fluid = s.xlat.fluid := by
  rw [State.reclaimed, programPage_fluid, endCopy_xlat, tele_xlat]

theorem exec_reclaimCopyCommit {s : State} {n mp : Nat} {r : Bool} {c : Copy}
    (hc : s.xlat.copies.find? (fun c => c.lpn == n && c.why == .reclaim) = some c)
    (hg : s.stripeGathered c.dst = true) (hf : s.xlat.fluid.find n = some (mp, r)) :
    exec (.reclaimCopyCommit n) s
      = done s (if c.src = some mp then (s.reclaimed c).setFluid n c.dst r else s.reclaimed c) := by
  have hf' : (((s.tele 13 0x04 (mpChan c.dst / 8)).endCopy c).programPage c.dst c.page).xlat.fluid.find n
      = some (mp, r) := (congrArg (fun f => f.find n) (reclaimed_fluid s c)).trans hf
  show execReclaimCopyCommit n s = _
  simp [execReclaimCopyCommit, hc, hg, hf', State.reclaimed]

/-! ### Heat -/

theorem mem_halved {h : Tab Nat} {k n : Nat} :
    (k, n) ∈ (h.mapVals fun _ n => n / 2).keep (fun _ n => n != 0) ↔ n ≠ 0 ∧ ∃ m, (k, m) ∈ h ∧ n = m / 2 := by
  simp only [Tab.keep, Tab.mapVals, List.mem_filter, List.mem_map, Prod.exists, Prod.mk.injEq, bne_iff_ne]
  constructor
  · rintro ⟨⟨a, m, hm, rfl, rfl⟩, hn⟩
    exact ⟨hn, m, hm, rfl⟩
  · rintro ⟨hn, m, hm, rfl⟩
    exact ⟨⟨k, m, hm, rfl, rfl⟩, hn⟩

/-- Every heat count halved, those that reach 0 dropped. -/
def State.heatHalved (s : State) : State :=
  { s with
    merge := { s.merge with heat := (s.merge.heat.mapVals fun _ n => n / 2).keep fun _ n => n != 0 }
    xlat := { s.xlat with heatEpochs := 0 } }

theorem exec_heatHalving {s : State} (hdue : s.rd Reg.XLAT_CFG_HEAT_HALF ≤ s.xlat.heatEpochs) :
    exec .heatHalving s = done s s.heatHalved :=
  congrArg (done s) (if_neg (Nat.not_lt.mpr hdue))

theorem ended_heat (s u : State) : (s.ended u).merge.heat = u.merge.heat := (settle_within s u).heat (by decide)

/-! ### Settle-back (R118, R119) -/

/-- Entries of one page share a bucket: the only entry of a bucket is the one that a lookup of its page finds. -/
theorem Tab.find_of_filter_bucket {t : Tab (Nat × Bool)} {b n : Nat} {v : Nat × Bool}
    (h : t.filter (fun e => bucketOf e.1 == b) = [(n, v)]) : t.find n = some v := by
  have hb : bucketOf n = b := by
    have hmem : (n, v) ∈ t.filter (fun e => bucketOf e.1 == b) := h ▸ List.mem_singleton_self _
    simpa using (List.mem_filter.mp hmem).2
  induction t with
  | nil => simp at h
  | cons e r ih =>
    obtain ⟨k, w⟩ := e
    by_cases hk : k = n
    · subst hk
      rw [List.filter_cons, if_pos (by simpa using hb)] at h
      have hw : w = v := by simpa using (List.cons.inj h).1
      simp [Tab.find, hw]
    · have hkb : ¬ (bucketOf (k, w).1 == b) = true := by
        intro hkb
        rw [List.filter_cons, if_pos hkb] at h
        exact hk (Prod.mk.inj (List.cons.inj h).1).1
      rw [List.filter_cons, if_neg hkb] at h
      simpa [Tab.find, hk] using ih h

/-- The walk clears RECENT of an entry that has it (R118). -/
theorem walkEntry_of_recent {s : State} {lpn mp : Nat} (h : s.xlat.fluid.find lpn = some (mp, true)) :
    s.walkEntry lpn = { s with xlat := { s.xlat with fluid := s.xlat.fluid.put lpn (mp, false) } } := by
  simp [State.walkEntry, h]

theorem exec_settleBackWalk_of_recent {s : State} {b n mp : Nat}
    (h : s.xlat.fluid.filter (fun e => bucketOf e.1 == b) = [(n, mp, true)]) : exec (.settleBackWalk b) s
      = done s { s with xlat := { s.xlat with fluid := s.xlat.fluid.put n (mp, false) } } := by
  show execSettleBackWalk b s = _
  simp [execSettleBackWalk, h, walkEntry_of_recent (Tab.find_of_filter_bucket h)]

/-- A settle-back of a Settled tract: the home page is written, the fluid entry and the settle-back are gone. -/
def State.settledBack (s : State) (n : Nat) (x : Settle) : State :=
  x.carried.foldl (fun s l => s.drainVerified l)
    (((({ s with xlat := { s.xlat with settles := s.xlat.settles.filter (fun y => y.lpn != n) } }).tele
      13 0x03 0).rewriteHome (homeMp (s.tract (tractOfLpn n)).sb n) x.page).dropFluid n)

theorem exec_settleBackCommit {s : State} {n : Nat} {x : Settle}
    (hx : s.xlat.settles.find? (fun x => x.lpn == n) = some x) (ht : (s.tract (tractOfLpn n)).state = .settled) :
    exec (.settleBackCommit n) s = done s (s.settledBack n x) := by
  show execSettleBackCommit n s = _
  simp [execSettleBackCommit, hx, ht, State.settledBack]

theorem settledBack_find (s : State) (n : Nat) (x : Settle) : (s.settledBack n x).xlat.fluid.find n = none := by
  rw [State.settledBack, foldl_drainVerified_xlat]
  exact dropFluid_find ..

theorem settledBack_settles (s : State) (n : Nat) (x : Settle) :
    (s.settledBack n x).xlat.settles = s.xlat.settles.filter (fun y => y.lpn != n) := by
  rw [State.settledBack, foldl_drainVerified_xlat, (dropFluid_within ..).settles (by decide),
    (rewriteHome_within ..).settles (by decide), tele_xlat]

/-! ### O23 -/

theorem moveStripeCommit_commits {s : State} {n : Nat} {m : Move} {l : List MPage}
    (hm : s.xlat.moves.find? (fun m => m.tract == n) = some m) (hl : m.load = some l) (hc : m.committed = false)
    (hf : m.failed = []) : answers (.moveStripeCommit n) s fun t =>
      t.xlat.moves.find? (fun m => m.tract == n) = some { m with committed := true, carried := [] }
        ∧ t.pages.find (mpOf (s.tract n).sb (s.tract n).ptr (parityPos (s.tract n).sb (s.tract n).ptr))
            = some (parityPage l s.ageNow)
        ∧ t.tract n = s.tract n := by
  have hn : m.tract = n := by simpa using List.find?_some hm
  refine answers_of_eq_done (exec_moveStripeCommit hm hl hc hf) ⟨?_, ?_, ?_⟩
  · rw [ended_xlat]
    exact commitStripe_find_move l hm
  · rw [ended_pages]
    subst hn
    exact commitStripe_parity s m l hf
  · exact ((settle_within ..).tract (by decide) n).trans ((commitStripe_within ..).tract (by decide) n)

theorem liftVerify_lifts {s : State} {n : Nat} {c : Copy}
    (hc : s.xlat.copies.find? (fun c => c.lpn == n && c.why != .reclaim) = some c)
    (hg : s.stripeGathered c.dst = true) : answers (.liftVerify n) s fun t =>
      t.xlat.fluid.find n = some (c.dst, true) ∧ t.xlat.copies = s.xlat.copies.filter (fun x => x.lpn != n) := by
  have hn : c.lpn = n := by
    have h := List.find?_some hc
    rw [Bool.and_eq_true] at h
    simpa using h.1
  refine answers_of_eq_done (exec_liftVerify hc hg) ⟨?_, ?_⟩
  · rw [ended_xlat, lifted_fluid]
    exact Tab.find_put_self ..
  · rw [ended_xlat, lifted_copies, hn]

theorem reclaimCopyCommit_retargets {s : State} {n mp : Nat} {r : Bool} {c : Copy}
    (hc : s.xlat.copies.find? (fun c => c.lpn == n && c.why == .reclaim) = some c)
    (hg : s.stripeGathered c.dst = true) (hf : s.xlat.fluid.find n = some (mp, r)) :
    answers (.reclaimCopyCommit n) s fun t =>
      (c.src = some mp → t.xlat.fluid.find n = some (c.dst, r)) ∧ (c.src ≠ some mp → t.xlat.fluid = s.xlat.fluid) := by
  refine answers_of_eq_done (exec_reclaimCopyCommit hc hg hf) ⟨fun hsrc => ?_, fun hsrc => ?_⟩
  · rw [ended_xlat, if_pos hsrc, setFluid_fluid]
    exact Tab.find_put_self ..
  · rw [ended_xlat, if_neg hsrc]
    exact reclaimed_fluid s c

theorem heatHalving_halves {s : State} (hdue : s.rd Reg.XLAT_CFG_HEAT_HALF ≤ s.xlat.heatEpochs) :
    answers .heatHalving s fun t =>
      t.xlat.heatEpochs = 0 ∧ (∀ k n, (k, n) ∈ s.merge.heat → 2 ≤ n → (k, n / 2) ∈ t.merge.heat)
        ∧ (∀ k n, (k, n) ∈ t.merge.heat → n ≠ 0 ∧ ∃ m, (k, m) ∈ s.merge.heat ∧ n = m / 2)
        ∧ t.merge.entries = s.merge.entries := by
  refine answers_of_eq_done (exec_heatHalving hdue) ⟨?_, fun k n hk hn => ?_, fun k n hk => ?_, ?_⟩
  · rw [ended_xlat]; rfl
  · rw [ended_heat]
    exact mem_halved.mpr ⟨by omega, n, hk, rfl⟩
  · rw [ended_heat] at hk
    exact mem_halved.mp hk
  · exact (settle_within ..).entries (by decide)

theorem settleBackWalk_clears_recent {s : State} {b n mp : Nat}
    (h : s.xlat.fluid.filter (fun e => bucketOf e.1 == b) = [(n, mp, true)]) :
    answers (.settleBackWalk b) s fun t =>
      t.xlat.fluid = s.xlat.fluid.put n (mp, false) ∧ t.xlat.settles = s.xlat.settles ∧ t.pages = s.pages := by
  refine answers_of_eq_done (exec_settleBackWalk_of_recent h) ⟨?_, ?_, ended_pages ..⟩
  · rw [ended_xlat]
  · rw [ended_xlat]

theorem settleBackCommit_settles {s : State} {n : Nat} {x : Settle}
    (hx : s.xlat.settles.find? (fun x => x.lpn == n) = some x) (ht : (s.tract (tractOfLpn n)).state = .settled) :
    answers (.settleBackCommit n) s fun t =>
      t.xlat.fluid.find n = none ∧ t.xlat.settles = s.xlat.settles.filter (fun y => y.lpn != n) := by
  refine answers_of_eq_done (exec_settleBackCommit hx ht) ⟨?_, ?_⟩
  · rw [ended_xlat]
    exact settledBack_find s n x
  · rw [ended_xlat]
    exact settledBack_settles s n x

/-- Settles O23: one theorem for each command. That a reclaim copy keeps RECENT, that a lift waits for its gathered
stripe and that a settle-back needs a Settled tract are the model's readings (log 51, 54, 52). -/
theorem movesAppendsAndSettleBacks : Obligations.MovesAppendsAndSettleBacks := by
  unfold Obligations.MovesAppendsAndSettleBacks
  exact ⟨fun _ _ _ _ hm hl hc hf => moveStripeCommit_commits hm hl hc hf, fun _ _ _ hc hg => liftVerify_lifts hc hg,
    fun _ _ _ _ _ hc hg hf => reclaimCopyCommit_retargets hc hg hf, fun _ h => heatHalving_halves h,
    fun _ _ _ _ h => settleBackWalk_clears_recent h, fun _ _ _ hx ht => settleBackCommit_settles hx ht⟩

end Sys2Proof.Machine
end

section
/-! SUPPORT. Cache registers, way groups, device-internal writes and the poison commands (R136, R172, R176, R190, R203,
R335), and O21. -/

namespace Sys2Proof.Machine

-- One proof at a time: each proof elaborated beside another needs a thread's stack, and the text has a memory limit.
set_option Elab.async false

open Sys2Proof

/-! ### Parts that a frame does not list -/

theorem Within.cache {m : Nat} {s t : State} (h : Within m s t)
    (e : (State.pick m s t).cache = s.cache := by rfl) : t.cache = s.cache := (congrArg State.cache h).trans e

theorem Within.internals {m : Nat} {s t : State} (h : Within m s t) (e : m.testBit 151 = false) :
    t.internals = s.internals := h.part State.internals 151 (Eq.refl _) e

theorem Within.entry {m : Nat} {s t : State} (h : Within m s t) (e : m.testBit 117 = false) (line : Nat) :
    t.entry line = s.entry line := congrArg (Tab.find · line) (h.entries e)

theorem ended_cache (s u : State) : (s.ended u).cache = u.cache := (settle_within s u).cache

theorem ended_internals (s u : State) : (s.ended u).internals = u.internals := (settle_within s u).internals (by decide)

theorem reply_internals (s : State) (p : CmdPath) (rc : Rc) (ext : Nat) (data : List Nat) :
    (s.reply p rc ext data).internals = s.internals := (reply_within ..).internals (by decide)

theorem sweepInternal_internals (s : State) : s.sweepInternal.internals = s.internals :=
  (sweepInternal_within s).internals (by decide)

/-! ### Cache registers (R172, R176) -/

theorem ended_bit_apart {s u : State} {f : Field} (h : f.apartFrom Reg.TELEM_BLK_OVF_OVF = true := by decide) :
    (s.ended u).bit f = u.bit f := congrArg (· != 0) (ended_rd_apart h)

theorem bit_setBit_apart {s : State} {f g : Field} {b : Bool} (h : g.apartFrom f = true := by decide) :
    (s.setBit f b).bit g = s.bit g := congrArg (· != 0) (rd_wr_apart h)

/-- The CACHE_WAY_CFG registers stand below TELEM_BLK_OVF. -/
theorem groupEn_key_ne {i : Nat} (hi : i < 4) (a b : Nat) :
    Reg.CACHE_WAY_CFG_GROUP_EN.key i 0 ≠ Reg.TELEM_BLK_OVF_OVF.key a b := by
  show 32 * (0x700000 + i * 0x1000 + 0 * 0) + 0 ≠ 32 * (0xD01000 + a * 0x100 + b * 0) + 0
  omega

theorem cacheWayCfgWrite_takes {s : State} {i : Nat} (v : Word) (hi : i < 4) :
    answers (.cacheWayCfgWrite i v) s fun t =>
      t.rd Reg.CACHE_WAY_CFG_GROUP_EN i = v.toNat % 256 ∧ t.cache = s.cache := by
  have hexec : exec (.cacheWayCfgWrite i v) s = done s (s.wr Reg.CACHE_WAY_CFG_GROUP_EN (v.toNat % 256) i) :=
    congrArg (done s) (if_neg (Nat.not_le.mpr hi))
  refine answers_of_eq_done hexec ⟨?_, ended_cache ..⟩
  rw [ended_rd _ _ (groupEn_key_ne hi), rd_wr_self]
  exact Nat.mod_mod ..

theorem cacheRcCfgWrite_takes (s : State) (v : Word) : answers (.cacheRcCfgWrite v) s fun t =>
    t.bit Reg.CACHE_RC_CFG_EN = v.getLsbD 0 ∧ t.bit Reg.CACHE_RC_CFG_SPEC_FILL_EN = v.getLsbD 1
      ∧ t.cache = s.cache := by
  refine answers_of_eq_done rfl ⟨?_, ?_, ended_cache ..⟩
  · rw [ended_bit_apart, bit_setBit_apart]
    exact bit_setBit_self
  · rw [ended_bit_apart]
    exact bit_setBit_self

/-! ### The end of a way group's cleaning (R172) -/

theorem set_getD_self (l : List Nat) (i : Nat) : l.set i (l.getD i 0) = l := by
  by_cases h : i < l.length
  · rw [List.getD_eq_getElem _ _ h, List.set_getElem_self]
  · exact List.set_eq_of_length_le (Nat.le_of_not_lt h)

theorem getD_set_of_ne_zero {l : List Nat} {i : Nat} (n : Nat) (h : l.getD i 0 ≠ 0) : (l.set i n).getD i 0 = n := by
  have hlt : i < l.length := by
    by_contra hge
    exact h (List.getD_eq_default _ _ (Nat.le_of_not_lt hge))
  simp [List.getD_eq_getElem?_getD, hlt]

/-- The lines of the other groups. -/
def State.withoutGroup (s : State) (i g : Nat) : State :=
  { s with cache := { s.cache with lines := s.cache.lines.keep fun k e => !(k % 4 == i && groupOf e.way == g) } }

theorem withoutGroup_lines (s : State) (i g : Nat) :
    (s.withoutGroup i g).cache.lines.any (fun e => e.1 % 4 == i && groupOf e.2.way == g) = false := by
  rw [List.any_eq_false]
  intro e he
  simpa [← not_and_or] using (List.mem_filter.mp he).2

theorem exec_wayGroupCleaningEnd {s : State} {i g : Nat} (hi : i < 4)
    (hcleaning : s.cache.cleaning.getD i 0 / 2 ^ g % 2 = 1) (hidle : s.groupBusy i g = false) :
    exec (.wayGroupCleaningEnd i g) s = done s (((s.withoutGroup i g).setWays i (s.cache.enabled.getD i 0)
      (s.cache.cleaning.getD i 0 - 2 ^ g)).sliceCount) := by
  have hgo : ¬ (decide (4 ≤ i) || decide (s.cache.cleaning.getD i 0 / 2 ^ g % 2 = 0) || s.groupBusy i g) = true := by
    rw [hcleaning, hidle, decide_eq_false (Nat.not_le.mpr hi)]
    decide
  exact congrArg (done s) (if_neg hgo)

theorem setWays_sliceCount_cache (s : State) (i en cl : Nat) : ((s.setWays i en cl).sliceCount).cache =
    { s.cache with enabled := s.cache.enabled.set i en, cleaning := s.cache.cleaning.set i cl } :=
  (sliceCount_within ..).cache

theorem wayGroupCleaningEnd_cleans {s : State} {i g : Nat} (hi : i < 4)
    (hcleaning : s.cache.cleaning.getD i 0 / 2 ^ g % 2 = 1) (hidle : s.groupBusy i g = false) :
    answers (.wayGroupCleaningEnd i g) s fun t =>
      t.cache.lines.any (fun e => e.1 % 4 == i && groupOf e.2.way == g) = false
        ∧ t.cache.cleaning.getD i 0 = s.cache.cleaning.getD i 0 - 2 ^ g ∧ t.cache.enabled = s.cache.enabled := by
  have hset : s.cache.cleaning.getD i 0 ≠ 0 := fun h => by
    rw [h, Nat.zero_div] at hcleaning
    cases hcleaning
  refine answers_of_eq_done (exec_wayGroupCleaningEnd hi hcleaning hidle) ?_
  rw [ended_cache, setWays_sliceCount_cache]
  exact ⟨withoutGroup_lines s i g, getD_set_of_ne_zero _ hset, set_getD_self ..⟩

/-! ### Device-internal writes begin (R136, R190, R203, R335) -/

/-- With no device-internal write running, one that is queued runs. -/
theorem queueInternal_internals {s : State} (i : Internal) (h : s.internals = []) :
    (s.queueInternal i).internals = [i] := by
  have hfirst : (s.internals == []) = true := by rw [h]; rfl
  simp only [State.queueInternal, hfirst, if_true, sweepInternal_internals]
  rw [h]
  rfl

theorem lineCommand_internals {s : State} {p : CmdPath} {a l : Nat} (k : InternalKind) (d : LineData)
    (halign : a % 64 = 0) (hline : s.cmdLine p a = some l) (hidle : s.internals = []) :
    (s.lineCommand p a k d).internals = [{ kind := k, first := l, count := 1, data := d, path := some p }] := by
  have hnone : (s.internals != []) = false := by rw [hidle]; rfl
  simp only [State.lineCommand, halign, hline, hnone, ne_eq, not_true_eq_false, Bool.false_eq_true, if_false]
  exact queueInternal_internals _ hidle

theorem injectPoison_runs {s : State} {p : CmdPath} {a l : Nat} (h : heard s p (.injectPoison p a) .any)
    (hready : s.ready = true) (halign : a % 64 = 0) (hline : s.cmdLine p a = some l) (hidle : s.internals = []) :
    answers (.injectPoison p a) s fun t =>
      t.internals = [{ kind := .injectPoison, first := l, count := 1, path := some p }] :=
  answers_of_heard rfl h (fun _ => hready) fun q =>
    (ended_internals ..).trans (lineCommand_internals (s := s.noted q) .injectPoison 0 halign hline hidle)

theorem clearPoison_runs {s : State} {p : CmdPath} {a l : Nat} {d : LineData} (h : heard s p (.clearPoison p a d) .any)
    (hready : s.ready = true) (halign : a % 64 = 0) (hline : s.cmdLine p a = some l) (hidle : s.internals = []) :
    answers (.clearPoison p a d) s fun t =>
      t.internals = [{ kind := .poisonClear, first := l, count := 1, data := d, path := some p }] :=
  answers_of_heard rfl h (fun _ => hready) fun q =>
    (ended_internals ..).trans (lineCommand_internals (s := s.noted q) .poisonClear d halign hline hidle)

/-- The device-internal write of a RELEASE RANGE of one piece. -/
def State.releaseJob (s : State) (p : CmdPath) (f c : Nat) : Internal :=
  { kind := .releaseRange, first := f, count := c, path := some p, pagesIn := (pagesInside f c).2,
    tractsIn := s.tractsInside f c }

/-- Nothing stands against a RELEASE RANGE: whole pages, mapped as one piece, nothing else running (R136). -/
structure MayRelease (s : State) (p : CmdPath) (a n f c : Nat) : Prop where
  heard : heard s p (.releaseRange p a n) .any
  ready : s.ready = true
  nonempty : n ≠ 0
  pages : wholePages a n = true
  range : s.cmdRange p a (n / 64) = some [(f, c)]
  notBusy : s.bgBusy p = false
  idle : s.internals = []

theorem exec_releaseRange {s : State} {p : CmdPath} {a n f c : Nat} (h : MayRelease s p a n f c) :
    ∃ l, exec (.releaseRange p a n) s = done s ((((s.noted l).bgStart p .releaseRange).queueInternal
      ((s.noted l).releaseJob p f c)).reply p .backgroundStarted) := by
  obtain ⟨hheard, hready, hn, hpages, hrange, hbusy, hidle⟩ := h
  obtain ⟨l, hl⟩ := command_of_heard _ hheard (fun _ => hready)
  refine ⟨l, congrArg (done s) (hl.trans ?_)⟩
  have hrange' : (s.noted l).cmdRange p a (n / 64) = some [(f, c)] := hrange
  have hbusy' : (s.noted l).bgBusy p = false := hbusy
  have hidle' : (s.noted l).internals = [] := hidle
  rw [hpages, hrange', hbusy', hidle', if_neg (by decide)]
  dsimp only
  rw [if_neg (by decide), if_neg hn, releaseJobs, List.map_singleton, List.sum_singleton, List.map_singleton,
    List.sum_singleton, List.foldl_cons, List.foldl_nil]
  rfl

theorem releaseRange_runs {s : State} {p : CmdPath} {a n f c : Nat} (h : MayRelease s p a n f c) :
    answers (.releaseRange p a n) s fun t =>
      (∃ x, t.internals = [x] ∧ x.kind = .releaseRange ∧ x.first = f ∧ x.count = c ∧ x.walked = false ∧ x.path = some p)
        ∧ Out.response p .backgroundStarted 0 [] ∈ t.out := by
  obtain ⟨l, hexec⟩ := exec_releaseRange h
  have hstart : ((s.noted l).bgStart p .releaseRange).internals = [] := h.idle
  refine answers_of_eq_done hexec ⟨⟨(s.noted l).releaseJob p f c, ?_, rfl, rfl, rfl, rfl, rfl⟩, mem_ended_out ?_⟩
  · rw [ended_internals, reply_internals]
    exact queueInternal_internals _ hstart
  · rw [reply_out]
    exact List.mem_append_right _ (List.mem_singleton_self _)

/-! ### Merging a device-internal write (R146, R190) -/

/-- What a merge brings besides its entry leaves the entries. -/
theorem putMerged_entry (s : State) (w : WriteIn) (e : Entry) : (s.putMerged w e).entry w.line = some e := by
  unfold State.putMerged
  extract_lets s1 s2
  have h1 : s1.entry w.line = some e := Tab.find_put_self ..
  have h2 : s2.entry w.line = s1.entry w.line := by
    unfold s2
    split
    · exact (poisonAdd_within s1 w.line .internal).entry (by decide) _
    · split
      · exact (poisonDrop_within s1 w.line).entry (by decide) _
      · rfl
  have htail : ∀ u : State, ((((u.touchTract (tractOf w.line)).staleJobs w.line).countBytes).bump
      Reg.MERGE_MERGE_CNT |>.mergeCounts).entry w.line = u.entry w.line := fun u =>
    calc _ = (((u.touchTract (tractOf w.line)).staleJobs w.line).countBytes).entry w.line :=
          ((mergeCounts_within _).entry (by decide) _).trans ((bump_within ..).entry (by decide) _)
      _ = (u.touchTract (tractOf w.line)).entry w.line :=
          ((countBytes_within _).entry (by decide) _).trans ((staleJobs_within ..).entry (by decide) _)
      _ = u.entry w.line := (touchTract_within ..).entry (by decide) _
  exact (htail s2).trans (h2.trans h1)

theorem mergedEntry_poison {s : State} {e : Entry} {w : WriteIn} (hwhole : w.whole = true) (hpoison : w.poison = true) :
    (s.mergedEntry e w).poison = true := by
  unfold State.mergedEntry
  extract_lets bad mask e'
  have he' : e'.poison = true := by
    simp [e', bad, hwhole, hpoison]
  split <;> exact he'

theorem newEntry_poison {s : State} {w : WriteIn} (set : Nat) (hpoison : w.poison = true) :
    (s.newEntry w set).poison = true := by
  simp [State.newEntry, hpoison]

/-- A poisoned write of a whole line leaves its line a poisoned entry, whatever entry the line had. -/
theorem mergeWrite_poisons {s : State} {w : WriteIn} (set : Nat) (hwhole : w.whole = true) (hpoison : w.poison = true) :
    ∃ e, (s.mergeWrite w set).entry w.line = some e ∧ e.poison = true := by
  unfold State.mergeWrite
  split
  · next e _ =>
    rw [if_neg (by simp [hwhole])]
    extract_lets s1
    exact ⟨_, putMerged_entry .., mergedEntry_poison hwhole hpoison⟩
  · exact ⟨_, putMerged_entry .., newEntry_poison set hpoison⟩

theorem internalMerge_poisons {s : State} {w : WriteIn} (hwhole : w.whole = true) (hpoison : w.poison = true) :
    ∃ e, (s.internalMerge w).entry w.line = some e ∧ e.poison = true := by
  unfold State.internalMerge
  extract_lets s1
  split
  · exact mergeWrite_poisons _ hwhole hpoison
  · split <;> exact mergeWrite_poisons _ hwhole hpoison

/-! ### The walks of a device-internal write end (R190) -/

theorem endInternal_internals (s : State) : s.endInternal.internals = s.internals.tail := sweepInternal_internals _

/-- A device-internal write runs, and no copy of its range is left for its walk to find (R190). -/
structure WalkEnds (s : State) (i : Internal) (r : List Internal) : Prop where
  runs : s.internals = i :: r
  unplaced : i.walked = false
  swept : s.sweepInternal.walked = true

theorem exec_backInvalidateWalkEnd {s : State} {i : Internal} {r : List Internal} (h : WalkEnds s i r) :
    exec .backInvalidateWalkEnd s = done s (s.sweepInternal.placeInternal i) := by
  show execBackInvalidateWalkEnd s = _
  simp [execBackInvalidateWalkEnd, h.runs, h.unplaced, h.swept]

/-- The write of an INJECT_POISON takes its place. -/
theorem placeInternal_of_injectPoison {s : State} {i : Internal} {p : CmdPath} (hkind : i.kind = .injectPoison)
    (hpath : i.path = some p) : s.placeInternal i =
      (((s.internalMerge (wholeWrite i.first 0 true)).poisonAdd i.first .injected).endInternal).reply p .success := by
  simp [State.placeInternal, hkind, hpath, State.internalReply]

theorem walkEnd_poisons {s : State} {i : Internal} {r : List Internal} {p : CmdPath} (h : WalkEnds s i r)
    (hkind : i.kind = .injectPoison) (hpath : i.path = some p) : answers .backInvalidateWalkEnd s fun t =>
      (∃ e, t.entry i.first = some e ∧ e.poison = true) ∧ t.internals = r ∧ Out.response p .success 0 [] ∈ t.out := by
  obtain ⟨e, he, hpoison⟩ := internalMerge_poisons (s := s.sweepInternal) (w := wholeWrite i.first 0 true) rfl rfl
  refine answers_of_eq_done (exec_backInvalidateWalkEnd h) ?_
  rw [placeInternal_of_injectPoison hkind hpath]
  refine ⟨⟨e, ?_, hpoison⟩, ?_, mem_ended_out ?_⟩
  · rw [ended_entry, (reply_within ..).entry (by decide), (endInternal_within _).entry (by decide),
      (poisonAdd_within ..).entry (by decide)]
    exact he
  · rw [ended_internals, reply_internals, endInternal_internals, (poisonAdd_within ..).internals (by decide),
      (internalMerge_within ..).internals (by decide), sweepInternal_internals, h.runs]
    rfl
  · rw [reply_out]
    exact List.mem_append_right _ (List.mem_singleton_self _)

/-- The pages at the ends of a range depend on the exported capacity alone. -/
theorem edgePages_congr {s t : State} (h : t.rd Reg.TOP_CAPACITY_UNITS = s.rd Reg.TOP_CAPACITY_UNITS) (f c : Nat) :
    t.edgePages f c = s.edgePages f c := by
  have hcap : t.capLines = s.capLines := congrArg (fun n => lineOf (n * unit256M)) h
  have hwithin : t.tractWithin f c = s.tractWithin f c := by
    funext x
    rw [State.tractWithin, State.tractWithin, hcap]
  rw [State.edgePages, State.edgePages, hwithin]

/-- The registers of the host directory that a sweep may write. -/
def sweepFields : List Field := [Reg.DIR_BCAST_CNT, Reg.DIR_BISNP_CNT, Reg.DIR_EVBUF_USED, Reg.DIR_HOST_OVF_ENTRIES,
  Reg.DIR_HOST_STATUS_ENTRIES, Reg.DIR_SLICE_STATUS_ENTRIES]

theorem sweepInternal_edgePages (s : State) (f c : Nat) : s.sweepInternal.edgePages f c = s.edgePages f c := by
  have hregs : onlyRegs sweepFields s s.sweepInternal := by
    apply sweepInternal_regs <;> simp [sweepFields]
  exact edgePages_congr (rd_of_apart hregs) f c

theorem walkEnd_starts_release {s : State} {i : Internal} {r : List Internal} (h : WalkEnds s i r)
    (hkind : i.kind = .releaseRange) :
    answers .backInvalidateWalkEnd s fun t =>
      t.internals = { i with walked := true, left := s.edgePages i.first i.count } :: r := by
  refine answers_of_eq_done (exec_backInvalidateWalkEnd h) ?_
  rw [ended_internals, ← sweepInternal_edgePages]
  simp [State.placeInternal, hkind, State.setInternal, sweepInternal_internals, h.runs]

/-! ### The end of RELEASE RANGE (R136) -/

/-- A RELEASE RANGE of which nothing is left to release (R136). -/
structure Released (s : State) (i : Internal) (r : List Internal) : Prop where
  runs : s.internals = i :: r
  kind : i.kind = .releaseRange
  walked : i.walked = true
  left : i.left = []
  mapped : s.mappedInside i = []
  dirty : s.dirtyInside i = false

theorem exec_releaseRangeComplete {s : State} {i : Internal} {r : List Internal} {p : CmdPath} (h : Released s i r)
    (hpath : i.path = some p) : exec .releaseRangeComplete s = done s
      (s.endInternal.bgDone p .releaseRange .success 0 (leBytes 8 i.pagesIn ++ leBytes 8 i.tractsIn)) := by
  show execReleaseRangeComplete s = _
  simp [execReleaseRangeComplete, h.runs, h.kind, h.walked, h.left, hpath, h.mapped, h.dirty]

theorem bgDone_out (s : State) (p : CmdPath) (b : Background) (rc : Rc) (ext : Nat) (data : List Nat) :
    Out.response p rc ext data ∈ (s.bgDone p b rc ext data).out := by
  unfold State.bgDone
  extract_lets m s1 s2
  have hmem : Out.response p rc ext data ∈ s2.out := by
    unfold s2
    rw [reply_out]
    exact List.mem_append_right _ (List.mem_singleton_self _)
  split
  · exact hmem
  · split
    · exact List.mem_append_left _ hmem
    · exact hmem

theorem releaseRangeComplete_answers {s : State} {i : Internal} {r : List Internal} {p : CmdPath} (h : Released s i r)
    (hpath : i.path = some p) : answers .releaseRangeComplete s fun t =>
      t.internals = r ∧ Out.response p .success 0 (leBytes 8 i.pagesIn ++ leBytes 8 i.tractsIn) ∈ t.out := by
  refine answers_of_eq_done (exec_releaseRangeComplete h hpath) ⟨?_, mem_ended_out (bgDone_out ..)⟩
  rw [ended_internals, (bgDone_within ..).internals (by decide), endInternal_internals, h.runs]
  rfl

/-! ### O21 -/

/-- Settles O21: one theorem for each command. That the end of a cleaning leaves the enabled groups, and the queue, the
sweeps and the pieces of device-internal writes, are the model's readings (log 63 to 66). -/
theorem cachesAndInternalWrites : Obligations.CachesAndInternalWrites := by
  unfold Obligations.CachesAndInternalWrites
  exact ⟨fun _ _ v hi => cacheWayCfgWrite_takes v hi, cacheRcCfgWrite_takes,
    fun _ _ _ hi hcleaning hidle => wayGroupCleaningEnd_cleans hi hcleaning hidle,
    fun _ _ _ _ _ _ h hready hn hpages hrange hbusy hidle =>
      releaseRange_runs ⟨h, hready, hn, hpages, hrange, hbusy, hidle⟩,
    fun _ _ _ _ h hready halign hline hidle => injectPoison_runs h hready halign hline hidle,
    fun _ _ _ _ _ h hready halign hline hidle => clearPoison_runs h hready halign hline hidle,
    fun _ _ _ _ hrun hkind hnew hpath hswept => walkEnd_poisons ⟨hrun, hnew, hswept⟩ hkind hpath,
    fun _ _ _ hrun hkind hnew hswept => walkEnd_starts_release ⟨hrun, hnew, hswept⟩ hkind,
    fun _ _ _ _ hrun hkind hwalked hleft hpath hmapped hdirty =>
      releaseRangeComplete_answers ⟨hrun, hkind, hwalked, hleft, hmapped, hdirty⟩ hpath⟩

end Sys2Proof.Machine
end

section
/-! SUPPORT. The dirty budget, persistence points and global persistent flushes (R156, R158 to R162, R167), and O20. -/

namespace Sys2Proof.Machine

-- One proof at a time: each proof elaborated beside another needs a thread's stack, and the text has a memory limit.
set_option Elab.async false

open Sys2Proof

/-! ### Parts that a frame does not list -/

theorem Within.merge {m : Nat} {s t : State} (h : Within m s t)
    (e : ∀ u v, (State.pick m u v).merge = u.merge := by intro u v; rfl) : t.merge = s.merge :=
  (congrArg State.merge h).trans (e s t)

theorem Within.keep {m : Nat} {s t : State} (h : Within m s t)
    (e : ∀ u v, (State.pick m u v).keep = u.keep := by intro u v; rfl) : t.keep = s.keep :=
  (congrArg State.keep h).trans (e s t)

theorem Within.rd {m : Nat} {s t : State} (h : Within m s t) {f : Field} {i j : Nat}
    (e : m.testBit 1 = false := by decide) : t.rd f i j = s.rd f i j := rd_congr (h.regs e) f i j

theorem ended_merge (s u : State) : (s.ended u).merge = u.merge := (settle_within s u).merge

theorem ended_keep (s u : State) : (s.ended u).keep = u.keep := (settle_within s u).keep

/-! ### The dirty budget (R156, R158) -/

theorem setBudget_merge (s : State) (budget holdup : Nat) : (s.setBudget budget holdup).merge = s.merge :=
  (setBudget_within ..).merge

/-- The registers that show the merge buffer are those of Tables 6-11 and 7-8. -/
theorem rd_mergeCounts {s : State} {f : Field} (hf : [Reg.MERGE_PARTIAL_LINES, Reg.MERGE_SETTLING_LINES,
    Reg.MERGE_STATUS_DIRTY, Reg.MERGE_STATUS_LIMIT, Reg.XLAT_PINNED_LINES].all f.apartFrom = true := by decide) :
    s.mergeCounts.rd f = s.rd f :=
  rd_of_apart (mergeCounts_regs s (by simp) (by simp) (by simp) (by simp) (by simp)) hf

theorem setBudget_rd_budget (s : State) (budget holdup : Nat) :
    (s.setBudget budget holdup).rd Reg.MERGE_CFG_BUDGET = budget % 2 ^ 6 := by
  unfold State.setBudget
  extract_lets s1
  rw [rd_mergeCounts, rd_wr_apart, rd_wr_apart, rd_wr_apart]
  exact rd_wr_self ..

theorem setBudget_rd_holdup (s : State) (budget holdup : Nat) :
    (s.setBudget budget holdup).rd Reg.MERGE_CFG_HOLDUP = holdup % 2 ^ 8 := by
  unfold State.setBudget
  extract_lets s1
  rw [rd_mergeCounts, rd_wr_apart, rd_wr_apart]
  exact rd_wr_self ..

/-- The state once a write of MERGE_CFG is in force, its pair saved in the keep. -/
def State.cfgTaken (s : State) (budget holdup minAge : Nat) : State :=
  (((s.setBudget budget holdup).wr Reg.MERGE_CFG_MIN_AGE minAge).keepWrite 7 (.merge budget holdup)).flash

theorem cfgTaken_merge (s : State) (budget holdup minAge : Nat) : (s.cfgTaken budget holdup minAge).merge = s.merge := by
  rw [State.cfgTaken, (flash_within _).merge, (keepWrite_within ..).merge, wr_merge, setBudget_merge]

/-- Saving the pair in the keep writes no register. -/
theorem cfgTaken_rd (s : State) (budget holdup minAge : Nat) (f : Field) : (s.cfgTaken budget holdup minAge).rd f =
    ((s.setBudget budget holdup).wr Reg.MERGE_CFG_MIN_AGE minAge).rd f :=
  (flash_within _).rd.trans (keepWrite_within ..).rd

theorem exec_mergeCfgWrite_of_fits {s : State} {v : Word} (hlow : 1 ≤ v.toNat % 64) (hhigh : v.toNat % 64 ≤ 48)
    (hholdup : 100 ≤ v.toNat / 256 % 256) (hfits : budgetFits (v.toNat % 64) (v.toNat / 256 % 256) = true) :
    exec (.mergeCfgWrite v) s =
      done s (s.cfgTaken (v.toNat % 64) (v.toNat / 256 % 256) (v.toNat / 65536 % 256)) :=
  congrArg (done s) (if_pos (by simp [hlow, hhigh, hholdup, hfits]))

theorem mergeCfgWrite_takes {s : State} {v : Word} (hlow : 1 ≤ v.toNat % 64) (hhigh : v.toNat % 64 ≤ 48)
    (hholdup : 100 ≤ v.toNat / 256 % 256) (hfits : budgetFits (v.toNat % 64) (v.toNat / 256 % 256) = true) :
    answers (.mergeCfgWrite v) s fun t =>
      t.rd Reg.MERGE_CFG_BUDGET = v.toNat % 64 ∧ t.rd Reg.MERGE_CFG_HOLDUP = v.toNat / 256 % 256
        ∧ t.rd Reg.MERGE_CFG_MIN_AGE = v.toNat / 65536 % 256 ∧ t.merge = s.merge := by
  refine answers_of_eq_done (exec_mergeCfgWrite_of_fits hlow hhigh hholdup hfits) ?_
  rw [ended_rd_apart, ended_rd_apart, ended_rd_apart, cfgTaken_rd, cfgTaken_rd, cfgTaken_rd]
  refine ⟨?_, ?_, ?_, (ended_merge ..).trans (cfgTaken_merge ..)⟩
  · rw [rd_wr_apart, setBudget_rd_budget]
    exact Nat.mod_mod ..
  · rw [rd_wr_apart, setBudget_rd_holdup]
    exact Nat.mod_mod ..
  · rw [rd_wr_self]
    exact Nat.mod_mod ..

theorem exec_mergeCfgWrite_of_unfit {s : State} {v : Word} (hnew : v.toNat % 64 ≠ s.rd Reg.MERGE_CFG_BUDGET)
    (hunfit : budgetFits (v.toNat % 64) (v.toNat / 256 % 256) = false) :
    exec (.mergeCfgWrite v) s = done s (s.setBit Reg.MERGE_STATUS_CFG_REJECT true) :=
  congrArg (done s) (if_neg (by simp [hnew, hunfit]))

theorem mergeCfgWrite_rejects {s : State} {v : Word} (hnew : v.toNat % 64 ≠ s.rd Reg.MERGE_CFG_BUDGET)
    (hunfit : budgetFits (v.toNat % 64) (v.toNat / 256 % 256) = false) :
    answers (.mergeCfgWrite v) s fun t =>
      t.bit Reg.MERGE_STATUS_CFG_REJECT = true ∧ t.rd Reg.MERGE_CFG_BUDGET = s.rd Reg.MERGE_CFG_BUDGET
        ∧ t.rd Reg.MERGE_CFG_HOLDUP = s.rd Reg.MERGE_CFG_HOLDUP ∧ t.rd Reg.MERGE_CFG_MIN_AGE = s.rd Reg.MERGE_CFG_MIN_AGE
        ∧ t.merge = s.merge ∧ t.keep = s.keep := by
  refine answers_of_eq_done (exec_mergeCfgWrite_of_unfit hnew hunfit) ?_
  rw [ended_bit_apart, ended_rd_apart, ended_rd_apart, ended_rd_apart, ended_merge, ended_keep]
  exact ⟨bit_setBit_self, rd_wr_apart, rd_wr_apart, rd_wr_apart, rfl, rfl⟩

/-! ### Pending points (R159 to R161) -/

theorem joinPoint_entries (s : State) (S : Nat) (counted : Bool) (f : Point → Point) :
    (s.joinPoint S counted f).merge.entries = s.merge.entries := (joinPoint_within ..).entries (by decide)

/-- Whether a point was pending at the stroke or not, the one that is there now has been given to `f`. -/
theorem joinPoint_any {s : State} {S : Nat} {counted : Bool} {f : Point → Point} {P : Point → Bool}
    (h : ∀ q, q.stroke = S → P (f q) = true) : (s.joinPoint S counted f).merge.points.any P = true := by
  unfold State.joinPoint
  extract_lets l
  rw [(pointCount_within _).merge]
  show l.any P = true
  unfold l
  split
  next hat =>
    obtain ⟨q, hq, hstroke⟩ := List.any_eq_true.mp hat
    exact List.any_eq_true.mpr ⟨f q, List.mem_map.mpr ⟨q, hq, if_pos hstroke⟩, h q (beq_iff_eq.mp hstroke)⟩
  next => simp [h]

/-- PERSIST AT of a stroke to come, with a place for its point (R161). -/
structure MayPersist (s : State) (p : CmdPath) (S : Nat) : Prop where
  notBusy : s.bgBusy p = false
  later : s.stroke < S
  near : S ≤ s.stroke + 2 ^ 24
  notPast : ∀ q, s.merge.lastPoint = some q → q < S
  place : s.pointAt S = true ∨ s.pointsFull = false

theorem persistAt_joins {s : State} {p : CmdPath} {S : Nat} (h : MayPersist s p S) : s.persistAt p S =
    ((s.joinPoint S true (fun q => { q with waiting := q.waiting ++ [p] })).bgStart p .persist).reply p
      .backgroundStarted := by
  obtain ⟨hbusy, hlater, hnear, hpast, hplace⟩ := h
  have hroom : (!s.pointAt S && s.pointsFull) = false := by
    obtain hat | hfull := hplace
    · rw [hat]; rfl
    · rw [hfull, Bool.and_false]
  unfold State.persistAt
  extract_lets past S'
  have hS : S' = S := if_neg (Nat.not_le.mpr hlater)
  have hnot : past = false := by
    unfold past
    split
    next q hq => exact decide_eq_false (Nat.not_le.mpr (hpast q hq))
    next => rfl
  rw [hbusy, hnot, hS, hroom, if_neg (by decide), if_neg (Nat.not_lt.mpr hnear), if_neg (by decide), if_neg (by decide)]

theorem persistAt_answers {s : State} {p : CmdPath} {S : Nat} (h : heard s p (.persistAt p S) .any)
    (hmay : MayPersist s p S) : answers (.persistAt p S) s fun t =>
      t.merge.points.any (fun q => q.stroke == S && q.waiting.contains p) = true
        ∧ Out.response p .backgroundStarted 0 [] ∈ t.out ∧ t.merge.entries = s.merge.entries := by
  refine answers_of_heard rfl h nofun fun l => ?_
  have hnoted : MayPersist (s.noted l) p S := ⟨hmay.notBusy, hmay.later, hmay.near, hmay.notPast, hmay.place⟩
  rw [persistAt_joins hnoted, ended_merge, (reply_within ..).merge, (bgStart_within ..).merge]
  exact ⟨joinPoint_any fun q hq => by simp [hq], mem_ended_out (response_mem_reply_out ..), joinPoint_entries ..⟩

theorem gpfPhase1_acknowledges (s : State) (port : Nat) :
    answers (.gpfPhase1 port) s fun t => Out.gpfAck port 1 ∈ t.out ∧ t.merge = s.merge :=
  answers_of_eq_done rfl ⟨mem_ended_out (List.mem_append_right _ (List.mem_singleton_self _)), ended_merge ..⟩

theorem gpfPhase2_joins (s : State) (port : Nat) : answers (.gpfPhase2 port) s fun t =>
    t.merge.points.any (fun q => q.stroke == s.stroke + 1 && q.gpf && q.gpfPorts.contains port) = true
      ∧ t.merge.entries = s.merge.entries := by
  refine answers_of_eq_done rfl ?_
  rw [ended_merge]
  exact ⟨joinPoint_any fun q hq => by simp [hq], joinPoint_entries ..⟩

theorem mergePointLoRead_latches (s : State) : answers .mergePointLoRead s fun t =>
    t.rd Reg.MERGE_POINT_HI_STROKE_HI = s.merge.pointDone / 2 ^ 32 % 2 ^ 32
      ∧ Out.readValue 0x600024 (s.merge.pointDone % 2 ^ 32) ∈ t.out ∧ t.merge = s.merge := by
  refine answers_of_eq_done rfl ⟨?_, mem_ended_out (List.mem_append_right _ (List.mem_singleton_self _)), ended_merge ..⟩
  rw [ended_rd_apart]
  exact rd_wr_self ..

/-! ### The completion of a point (R159 to R162) -/

theorem logInterrupt_out_prefix (s : State) (l : Log) : s.out <+: (s.logInterrupt l).out := by
  unfold State.logInterrupt
  split
  · exact List.prefix_append ..
  · exact List.prefix_append ..
  · exact List.prefix_rfl

theorem event_out_prefix (s : State) (l : Log) (r : EventRec) (source : Nat) : s.out <+: (s.event l r source).out := by
  unfold State.event
  extract_lets x h ev s1 s2 x'
  split
  · rw [(chronicle_within ..).out (by decide)]
    exact logInterrupt_out_prefix s1 l
  · rw [(chronicle_within ..).out (by decide)]

theorem dirtyLost_out_prefix (s : State) (line : Nat) : s.out <+: (s.dirtyLost line).out := by
  show ((s.bump Reg.ERR_DIRTY_LOST_CNT).health Reg.ERR_HEALTH_EVENT_DIRTY_LOST).out <+: _
  exact event_out_prefix ..

theorem bgDone_out_prefix (s : State) (p : CmdPath) (b : Background) (rc : Rc) (ext : Nat) (data : List Nat) :
    s.out <+: (s.bgDone p b rc ext data).out := by
  unfold State.bgDone
  extract_lets m s1 s2
  have hreply : s.out <+: s2.out := by
    unfold s2
    rw [reply_out]
    exact List.prefix_append ..
  split
  · exact hreply
  · split
    · exact hreply.trans (List.prefix_append ..)
    · exact hreply

/-- Answer one command that waits for the point completed last. -/
def State.answerPoint (pinned : Nat) (s : State) (c : CmdPath) : State :=
  s.bgDone c .persist .success 0 (pointOutput s.merge.pointDone pinned)

theorem answerPoint_merge (pinned : Nat) (s : State) (c : CmdPath) : (s.answerPoint pinned c).merge = s.merge :=
  (bgDone_within ..).merge

/-- Each command that waits is answered with the same completion stroke. -/
theorem foldl_answerPoint_out {c : CmdPath} (pinned : Nat) (l : List CmdPath) (s : State) (hc : c ∈ l) :
    Out.response c .success 0 (pointOutput s.merge.pointDone pinned) ∈ (l.foldl (State.answerPoint pinned) s).out := by
  induction l generalizing s with
  | nil => cases hc
  | cons d l ih =>
    rw [List.foldl_cons]
    obtain rfl | hc := List.mem_cons.mp hc
    · exact (foldl_out_prefix (fun u d => bgDone_out_prefix ..) l _).subset (bgDone_out ..)
    · rw [← answerPoint_merge pinned s d]
      exact ih _ hc

/-- What ends with a point besides its answers: the merge buffer's account of points (R159, R162). -/
def State.pointTaken (s : State) (p : Point) (pinned : Nat) : State :=
  { s with merge := { s.merge with
    points := s.merge.points.filter (fun q => q.stroke != p.stroke), lastPoint := some p.stroke, pointDone := s.stroke,
    pointPinned := pinned } }

theorem foldl_merge {α : Type} {f : State → α → State} (h : ∀ s x, (f s x).merge = s.merge) (l : List α) (s : State) :
    (l.foldl f s).merge = s.merge := by
  induction l generalizing s with
  | nil => rfl
  | cons x l ih => exact (ih _).trans (h s x)

theorem endPoint_merge (s : State) (p : Point) (pinned : List Nat) (capo : Bool) :
    (s.endPoint p pinned capo).merge = (s.pointTaken p pinned.length).merge := by
  unfold State.endPoint
  extract_lets m s1 s2 s3 s4 s5 s6
  have h2 : s2.merge = s1.merge := (pointCount_within _).merge
  have h3 : s3.merge = s2.merge := by
    unfold s3
    split <;> rfl
  have h4 : s4.merge = s3.merge := foldl_merge (answerPoint_merge pinned.length) _ _
  have h5 : s5.merge = s4.merge := by
    unfold s5
    split
    · rfl
    · exact foldl_merge (fun u l => (dirtyLost_within u l).merge) ..
  have h6 : s6.merge = s5.merge := foldl_merge (fun u q => by split <;> rfl) ..
  have hall : s6.merge = s1.merge := h6.trans (h5.trans (h4.trans (h3.trans h2)))
  split <;> exact hall

theorem endPoint_out (s : State) (p : Point) (pinned : List Nat) (capo : Bool) {c : CmdPath} (hc : c ∈ p.waiting) :
    Out.response c .success 0 (pointOutput s.stroke pinned.length) ∈ (s.endPoint p pinned capo).out := by
  unfold State.endPoint
  extract_lets m s1 s2 s3 s4 s5 s6
  have hdone : s3.merge.pointDone = s.stroke := by
    unfold s3
    split <;> rfl
  have h4 : Out.response c .success 0 (pointOutput s.stroke pinned.length) ∈ s4.out := by
    rw [← hdone]
    exact foldl_answerPoint_out pinned.length p.waiting s3 hc
  have h5 : s4.out <+: s5.out := by
    unfold s5
    split
    · exact List.prefix_rfl
    · exact foldl_out_prefix dirtyLost_out_prefix ..
  have h6 : s5.out <+: s6.out := by
    refine foldl_out_prefix (fun u q => ?_) ..
    split
    · exact List.prefix_append ..
    · exact List.prefix_rfl
  have hall := (h5.trans h6).subset h4
  split <;> exact hall

theorem pointTaken_pointAt (s : State) (p : Point) (pinned : Nat) : (s.pointTaken p pinned).pointAt p.stroke = false := by
  simp [State.pointAt, State.pointTaken]

theorem exec_persistencePointComplete {s : State} {S : Nat} {p : Point}
    (hp : s.merge.points.find? (fun p => p.stroke == S) = some p) : exec (.persistencePointComplete S) s =
      done s (if p.stroke ≤ s.stroke && s.pointLeft p == 0 then s.endPoint p (s.pinnedOf p) else s) := by
  show execPersistencePointComplete S s = _
  rw [execPersistencePointComplete, hp]

theorem persistencePointComplete_ends {s : State} {S : Nat} {p : Point}
    (hp : s.merge.points.find? (fun p => p.stroke == S) = some p) (hbegun : S ≤ s.stroke) (hleft : s.pointLeft p = 0) :
    answers (.persistencePointComplete S) s fun t =>
      t.merge.lastPoint = some S ∧ t.merge.pointDone = s.stroke ∧ t.pointAt S = false ∧ t.merge.entries = s.merge.entries
        ∧ ∀ c ∈ p.waiting, Out.response c .success 0 (pointOutput s.stroke (s.pinnedOf p).length) ∈ t.out := by
  have hstroke : p.stroke = S := by simpa using List.find?_some hp
  subst hstroke
  refine answers_of_eq_done ((exec_persistencePointComplete hp).trans
    (congrArg (done s) (if_pos (by simp [hbegun, hleft])))) ?_
  have hmerge : (s.ended (s.endPoint p (s.pinnedOf p))).merge = (s.pointTaken p (s.pinnedOf p).length).merge :=
    (ended_merge ..).trans (endPoint_merge ..)
  have hat : (s.ended (s.endPoint p (s.pinnedOf p))).pointAt p.stroke = false := by
    rw [State.pointAt, hmerge]
    exact pointTaken_pointAt ..
  rw [hmerge]
  exact ⟨rfl, rfl, hat, rfl, fun c hc => mem_ended_out (endPoint_out s p _ false hc)⟩

theorem persistencePointComplete_waits {s : State} {S : Nat} {p : Point}
    (hp : s.merge.points.find? (fun p => p.stroke == S) = some p) (hleft : s.pointLeft p ≠ 0) :
    answers (.persistencePointComplete S) s fun t => t.merge = s.merge :=
  answers_of_eq_done ((exec_persistencePointComplete hp).trans (congrArg (done s) (if_neg (by simp [hleft]))))
    (ended_merge ..)

/-! ### O20 -/

/-- Settles O20: one theorem for each command. That PERSIST AT asks for no Ready is the model's reading (log 68). -/
theorem persistencePointsAndBudget : Obligations.PersistencePointsAndBudget := by
  unfold Obligations.PersistencePointsAndBudget
  exact ⟨fun _ _ hlow hhigh hholdup hfits => mergeCfgWrite_takes hlow hhigh hholdup hfits,
    fun _ _ hnew hunfit => mergeCfgWrite_rejects hnew hunfit,
    fun _ _ _ h hbusy hlater hnear hpast hplace => persistAt_answers h ⟨hbusy, hlater, hnear, hpast, hplace⟩,
    fun _ _ _ hp hbegun hleft => persistencePointComplete_ends hp hbegun hleft,
    fun _ _ _ hp hleft => persistencePointComplete_waits hp hleft,
    gpfPhase1_acknowledges, gpfPhase2_joins, mergePointLoRead_latches⟩

end Sys2Proof.Machine
end

section
/-! SUPPORT. The end of a capo's flush and of its saves, and the warm resumption (R163, R165, R166, R259), and O5. -/

namespace Sys2Proof.Machine

-- One proof at a time: each proof elaborated beside another needs a thread's stack, and the text has a memory limit.
set_option Elab.async false

open Sys2Proof

/-! ### Parts that a frame does not list -/

theorem Within.cause {m : Nat} {s t : State} (h : Within m s t) (e : m.testBit 20 = false := by decide) :
    t.pwr.cause = s.pwr.cause := h.part (fun u => u.pwr.cause) 20 (Eq.refl _) e

theorem Within.dirtySet {m : Nat} {s t : State} (h : Within m s t) (e : m.testBit 19 = false := by decide) :
    t.pwr.dirtySet = s.pwr.dirtySet := h.part (fun u => u.pwr.dirtySet) 19 (Eq.refl _) e

theorem Within.buffer {m : Nat} {s t : State} (h : Within m s t) (e : m.testBit 74 = false := by decide) :
    t.chron.buffer = s.chron.buffer := h.part (fun u => u.chron.buffer) 74 (Eq.refl _) e

theorem ended_dirtySet (s u : State) : (s.ended u).pwr.dirtySet = u.pwr.dirtySet := (settle_within s u).dirtySet

theorem ended_buffer (s u : State) : (s.ended u).chron.buffer = u.chron.buffer := (settle_within s u).buffer

/-! ### The state of the sequencer -/

theorem setSeq_isSeq (s : State) (q : SeqState) : (s.setSeq q).isSeq q = true := by
  unfold State.isSeq State.setSeq
  rw [rd_wr_self]
  cases q <;> rfl

theorem isSeq_congr {s t : State} (h : t.rd Reg.PWR_STATUS_STATE = s.rd Reg.PWR_STATUS_STATE) (q : SeqState) :
    t.isSeq q = s.isSeq q := congrArg (· == q.code) h

theorem ended_isSeq (s u : State) (q : SeqState) : (s.ended u).isSeq q = u.isSeq q := isSeq_congr ended_rd_apart q

theorem flash_isSeq (s : State) (q : SeqState) : s.flash.isSeq q = s.isSeq q := isSeq_congr (flash_within s).rd q

/-- A chronicle record leaves every register but the chronicle's own counters. -/
theorem rd_chronicle {s : State} {code source sev : Nat} {l : List Nat} {f : Field}
    (hf : [Reg.CHRON_DROP_CNT, Reg.CHRON_REPEAT_CNT].all f.apartFrom = true := by decide) :
    (s.chronicle code source sev l).rd f = s.rd f :=
  rd_of_apart (chronicle_regs s code source sev l (by simp) (by simp)) hf

/-! ### The end of the flush (R163, R165) -/

/-- The flush is done, its marker chosen, and MERGE_LAST_CAPO shows it. -/
def State.flushShown (s : State) (us : Nat) : State :=
  (s.flushAll.markFlush.wr Reg.MERGE_LAST_CAPO_FLUSH_US (min us 0xFFFFFF)).wr Reg.MERGE_LAST_CAPO_RESULT
    s.flushAll.markFlush.flushResult

/-- The record of a flush and the spread counters are written before the keep pages of step 6 are asked for. -/
def State.flushRecorded (s : State) (us : Nat) : State := (s.capoRecord s.flushResult us false).saveSpread

/-- Step 6 begins. -/
def State.savesAsked (s : State) : State := ({ s with merge := { s.merge with capo := 6 } }).saveKeep

theorem flushRecorded_merge (s : State) (us : Nat) : (s.flushRecorded us).merge = s.merge :=
  (saveSpread_within _).merge.trans (capoRecord_within ..).merge

theorem savesAsked_merge (s : State) : s.savesAsked.merge = { s.merge with capo := 6 } := (saveKeep_within _).merge

theorem flushRecorded_rd {s : State} {us : Nat} {f : Field}
    (hf : [Reg.CHRON_DROP_CNT, Reg.CHRON_REPEAT_CNT].all f.apartFrom = true := by decide) :
    (s.flushRecorded us).rd f = s.rd f := (saveSpread_within _).rd.trans (rd_chronicle hf)

theorem savesAsked_rd (s : State) (f : Field) : s.savesAsked.rd f = s.rd f := (saveKeep_within _).rd

theorem exec_capoFlushComplete {s : State} (us : Nat) (hcapo : s.isSeq .capo = true) (hready : s.flushReady = true) :
    exec (.capoFlushComplete us) s = done s (((s.flushShown us).flushRecorded us).savesAsked) := by
  show execCapoFlushComplete us s = _
  rw [execCapoFlushComplete, if_neg (by simp [hcapo, hready]), State.savesAsked, State.flushRecorded, State.flushShown]

theorem flushShown_rd_time (s : State) (us : Nat) :
    (s.flushShown us).rd Reg.MERGE_LAST_CAPO_FLUSH_US = min us 0xFFFFFF := by
  have hfits : min us 0xFFFFFF < 2 ^ 24 := by omega
  rw [State.flushShown, rd_wr_apart, rd_wr_self]
  exact Nat.mod_eq_of_lt hfits

theorem flushShown_rd_result (s : State) (us : Nat) :
    (s.flushShown us).rd Reg.MERGE_LAST_CAPO_RESULT = if (s.flushShown us).merge.lost then 2 else 1 := by
  rw [State.flushShown, rd_wr_self, wr_merge, wr_merge, State.flushResult]
  split <;> rfl

theorem capoFlushComplete_asksForSaves {s : State} (us : Nat) (hcapo : s.isSeq .capo = true)
    (hready : s.flushReady = true) : answers (.capoFlushComplete us) s fun t =>
      t.merge.capo = 6 ∧ t.rd Reg.MERGE_LAST_CAPO_FLUSH_US = min us 0xFFFFFF
        ∧ t.rd Reg.MERGE_LAST_CAPO_RESULT = (if t.merge.lost then 2 else 1)
        ∧ t.merge.marker = (if t.merge.lost then Marker.loss else Marker.clean) := by
  refine answers_of_eq_done (exec_capoFlushComplete us hcapo hready) ?_
  rw [ended_merge, savesAsked_merge, flushRecorded_merge, ended_rd_apart, ended_rd_apart, savesAsked_rd, savesAsked_rd,
    flushRecorded_rd, flushRecorded_rd]
  exact ⟨rfl, flushShown_rd_time s us, flushShown_rd_result s us, rfl⟩

/-! ### The end of the saves (R163, R259) -/

/-- The chronicle is saved, the pin is shown, and the capo is over. -/
def State.savesEnded (s : State) (pfHigh : Bool) (room : Nat) : State :=
  let u := (s.closeRuns.saveChronicle room).setBit Reg.PWR_STATUS_PF_PIN pfHigh
  { u with merge := { u.merge with capo := 0 }, pwr := { u.pwr with dirtySet := false } }

theorem savesEnded_cause (s : State) (pfHigh : Bool) (room : Nat) : (s.savesEnded pfHigh room).pwr.cause = s.pwr.cause :=
  (saveChronicle_within s.closeRuns room).cause.trans (closeRuns_within s).cause

/-- What finds no room in the chronicle is dropped. -/
theorem savesEnded_buffer (s : State) (pfHigh : Bool) (room : Nat) : (s.savesEnded pfHigh room).chron.buffer = [] := rfl

theorem exec_capoSaveComplete_of_pwrfail {s : State} (room : Nat) (hcapo : s.isSeq .capo = true)
    (hstep : s.merge.capo = 6) (hqueue : s.keep.queue = []) (hcause : s.pwr.cause = .pwrfail) :
    exec (.capoSaveComplete true room) s = done s (((s.savesEnded true room).setSeq .capoHold).flash) := by
  have hsaved : s.saved = true := by rw [State.saved, hqueue]; rfl
  have hhold : (decide ((s.savesEnded true room).pwr.cause = .pwrfail) && true) = true := by
    rw [savesEnded_cause, hcause]; rfl
  exact congrArg (done s) ((if_neg (by simp [hcapo, hstep, hsaved])).trans (if_pos hhold))

theorem capoSaveComplete_holds {s : State} (room : Nat) (hcapo : s.isSeq .capo = true)
    (hstep : s.merge.capo = 6) (hqueue : s.keep.queue = []) (hcause : s.pwr.cause = .pwrfail) :
    answers (.capoSaveComplete true room) s fun t =>
      t.isSeq .capoHold = true ∧ t.merge.capo = 0 ∧ t.pwr.dirtySet = false ∧ t.chron.buffer = [] := by
  refine answers_of_eq_done (exec_capoSaveComplete_of_pwrfail room hcapo hstep hqueue hcause) ?_
  rw [ended_isSeq, ended_merge, ended_dirtySet, ended_buffer, flash_isSeq, setSeq_isSeq, (flash_within _).merge,
    (flash_within _).dirtySet, (flash_within _).buffer]
  exact ⟨rfl, rfl, rfl, savesEnded_buffer s true room⟩

/-! ### The warm resumption (R166) -/

/-- The marker is DIRTY again, and the resumption is counted and recorded in ON. -/
def State.resumed (s : State) : State :=
  (((s.dirtyAgain.activationBack.setSeq .on).setBit Reg.PWR_EVENT_WARM_RESUME true).bump Reg.PWR_WARM_CNT).chronicle
    0x0604 0x4D 0 []

/-- The capo indications are cleared, and MERGE_LAST_CAPO shows a resumption. -/
def State.capoUnshown (s : State) : State :=
  ((s.setBit Reg.MERGE_STATUS_CAPO false).setBit Reg.TOP_STATUS_CAPO false).wr Reg.MERGE_LAST_CAPO_RESULT 3

/-- The scheduler goes back to its layout, and the reads that waited to it (R39). -/
def State.schedBack (s : State) : State :=
  { s with sched := { s.sched with
    capoAsk := 0, back := some (if s.bit Reg.TOP_STATUS_RECOVERY then 2 else 0),
    jobs := s.sched.jobs.mapVals (fun _ j => heldAgain s.sched.locked j) } }

theorem exec_warmResumption {s : State} (hhold : s.isSeq .capoHold = true) (hhigh : s.pwr.high100 = true) :
    exec .warmResumption s = done s (s.resumed.capoUnshown.schedBack.capoCreditsBack.flash) :=
  congrArg (done s) (if_neg (by simp [hhold, hhigh]))

theorem dirtyAgain_marker (s : State) : s.dirtyAgain.merge.marker = .dirty := rfl

theorem dirtyAgain_dirtySet (s : State) : s.dirtyAgain.pwr.dirtySet = true := rfl

theorem resumed_merge (s : State) : s.resumed.merge = s.dirtyAgain.merge :=
  (chronicle_within ..).merge.trans (activationBack_within _).merge

theorem resumed_dirtySet (s : State) : s.resumed.pwr.dirtySet = true :=
  (chronicle_within ..).dirtySet.trans ((activationBack_within _).dirtySet.trans (dirtyAgain_dirtySet s))

theorem resumed_isSeq (s : State) : s.resumed.isSeq .on = true := by
  have hrd : s.resumed.rd Reg.PWR_STATUS_STATE = (s.dirtyAgain.activationBack.setSeq .on).rd Reg.PWR_STATUS_STATE :=
    (rd_chronicle).trans ((rd_wr_apart).trans rd_wr_apart)
  rw [isSeq_congr hrd, setSeq_isSeq]

theorem capoUnshown_isSeq (s : State) (q : SeqState) : s.capoUnshown.isSeq q = s.isSeq q :=
  isSeq_congr ((rd_wr_apart).trans ((rd_wr_apart).trans rd_wr_apart)) q

theorem capoUnshown_bits (s : State) : s.capoUnshown.rd Reg.MERGE_LAST_CAPO_RESULT = 3
    ∧ s.capoUnshown.bit Reg.MERGE_STATUS_CAPO = false ∧ s.capoUnshown.bit Reg.TOP_STATUS_CAPO = false := by
  unfold State.capoUnshown State.bit
  rw [rd_wr_self, rd_wr_apart, rd_wr_apart]
  exact ⟨rfl, (bit_setBit_apart).trans bit_setBit_self, bit_setBit_self⟩

/-- The credits withheld go back, and nothing else of the merge buffer changes. -/
theorem capoCreditsBack_merge (s : State) : s.capoCreditsBack.merge = { s.merge with capoCredits := [] } :=
  foldl_merge (fun u e => by split <;> rfl) ..

/-- Giving back reads and credits writes no register. -/
theorem creditsBack_rd (s : State) (f : Field) : s.schedBack.capoCreditsBack.flash.rd f = s.rd f :=
  (flash_within _).rd.trans (capoCreditsBack_within s.schedBack).rd

theorem warmResumption_resumes {s : State} (hhold : s.isSeq .capoHold = true) (hhigh : s.pwr.high100 = true) :
    answers .warmResumption s fun t =>
      t.isSeq .on = true ∧ t.merge.marker = .dirty ∧ t.pwr.dirtySet = true ∧ t.rd Reg.MERGE_LAST_CAPO_RESULT = 3
        ∧ t.bit Reg.MERGE_STATUS_CAPO = false ∧ t.bit Reg.TOP_STATUS_CAPO = false ∧ t.merge.capoCredits = [] := by
  refine answers_of_eq_done (exec_warmResumption hhold hhigh) ?_
  obtain ⟨hresult, hmerge, htop⟩ := capoUnshown_bits s.resumed
  have hseq : s.resumed.capoUnshown.schedBack.capoCreditsBack.flash.isSeq .on = true := by
    rw [isSeq_congr (creditsBack_rd ..), capoUnshown_isSeq, resumed_isSeq]
  have hdirty : s.resumed.capoUnshown.schedBack.capoCreditsBack.pwr.dirtySet = true :=
    (capoCreditsBack_within _).dirtySet.trans (resumed_dirtySet s)
  have hmarker : s.resumed.merge.marker = .dirty := by rw [resumed_merge, dirtyAgain_marker]
  rw [ended_isSeq, ended_merge, ended_dirtySet, ended_rd_apart, ended_bit_apart, ended_bit_apart, (flash_within _).merge,
    (flash_within _).dirtySet, capoCreditsBack_merge, creditsBack_rd]
  exact ⟨hseq, hmarker, hdirty, hresult, (congrArg (· != 0) (creditsBack_rd ..)).trans hmerge,
    (congrArg (· != 0) (creditsBack_rd ..)).trans htop, rfl⟩

/-! ### O5 -/

/-- Settles O5: one theorem for each step of a capo. -/
theorem capoFlushesSavesAndResumes : Obligations.CapoFlushesSavesAndResumes :=
  ⟨fun _ us hcapo hready => capoFlushComplete_asksForSaves us hcapo hready,
    fun _ room hcapo hstep hqueue hcause => capoSaveComplete_holds room hcapo hstep hqueue hcause,
    fun _ hhold hhigh => warmResumption_resumes hhold hhigh⟩

end Sys2Proof.Machine
end

section
/-! SUPPORT. The frame of each command of way groups, the read cache, device-internal writes and the erases (R136, R172,
R176, R190, R192, R193, R203, R334, R335), and O52. `pick_<parts>` says which parts of the state a mask names; side
conditions of `Framed` are written out, as for O51. -/

namespace Sys2Proof.Machine

open Sys2Proof

/-! ### Way groups, the read cache and the counters -/

theorem cacheWayCfgWrite_framed (slice : Nat) (v : Word) : EndsFramed endParts
    [Reg.CACHE_WAY_CFG_GROUP_EN, Reg.TELEM_BLK_OVF_OVF] (.cacheWayCfgWrite slice v) := fun _ =>
  ⟨_, rfl, .ite (fun _ => .rfl) fun _ => Framed.rfl.wr (by decide) rfl⟩

/-- The parts that the end of a way group's cleaning may change. -/
def cleaningParts : Nat := 0x2800000000000000000000000000000c04000000000000000000000000000000022

theorem pick_cleaningParts (s t : State) : State.pick cleaningParts s t = { s with
    regs := t.regs, out := t.out,
    cache := { s.cache with lines := t.cache.lines, enabled := t.cache.enabled, cleaning := t.cache.cleaning },
    telem := { s.telem with counts := t.telem.counts, bwRead := t.telem.bwRead } } := rfl

/-- The register fields that the end of a way group's cleaning may write. -/
def cleaningFields : List Field := [
  Reg.CACHE_WAY_STATUS_CLEANING, Reg.CACHE_WAY_STATUS_ENABLED, Reg.DIR_SLICE_STATUS_ENTRIES, Reg.TELEM_BLK_OVF_OVF]

theorem wayGroupCleaningEnd_framed (slice group : Nat) :
    EndsFramed cleaningParts cleaningFields (.wayGroupCleaningEnd slice group) := fun s => by
  refine ⟨_, rfl, ?_⟩
  extract_lets mask lines caches
  refine .ite (fun _ => .rfl) fun _ => ?_
  have hgone : Framed cleaningParts cleaningFields s { s with cache := { caches with lines := lines } } :=
    Framed.rfl.set rfl rfl
  exact (hgone.via (setWays_within ..) (by apply setWays_regs <;> repeat constructor) rfl).via (sliceCount_within _)
    (sliceCount_regs _ (by decide)) rfl

theorem cacheRcCfgWrite_framed (v : Word) : EndsFramed endParts
    [Reg.CACHE_RC_CFG_EN, Reg.CACHE_RC_CFG_SPEC_FILL_EN, Reg.TELEM_BLK_OVF_OVF] (.cacheRcCfgWrite v) := fun _ =>
  ⟨_, rfl, (Framed.rfl.via (setBit_within ..) (setBit_regs _ _ _ _ _ (by decide)) rfl).via (setBit_within ..)
    (setBit_regs _ _ _ _ _ (by decide)) rfl⟩

theorem cacheCntClr_framed (slice : Nat) (v : Word) :
    EndsFramed clearParts [Reg.TELEM_BLK_OVF_OVF] (.cacheCntClr slice v) := fun _ =>
  ⟨_, rfl, .ite (fun _ => askClear_framed _) fun _ => .rfl⟩

theorem cacheRcCntClr_framed (v : Word) : EndsFramed clearParts [Reg.TELEM_BLK_OVF_OVF] (.cacheRcCntClr v) :=
  fun _ => ⟨_, rfl, .ite (fun _ => askClear_framed _) fun _ => .rfl⟩

theorem dirCntClr_framed (v : Word) : EndsFramed clearParts [Reg.TELEM_BLK_OVF_OVF] (.dirCntClr v) := fun _ =>
  ⟨_, rfl, .ite (fun _ => askClear_framed _) fun _ => .rfl⟩

/-! ### The start and the end of a device-internal write -/

/-- The register fields that a command which starts or ends a device-internal write may write: those of the sweep. -/
def internalFields : List Field := sweepFields ++ [Reg.TELEM_BLK_OVF_OVF]

/-- A reply on the command's path. -/
theorem Framed.reply {m : Nat} {l : List Field} {s t : State} (h : Framed m l s t) (p : CmdPath) (rc : Rc) (ext : Nat)
    (data : List Nat) (hm : 0x200000000000000000000000000000020 ||| m = m) :
    Framed m l s (t.reply p rc ext data) := h.quiet (reply_within ..) hm (Eq.refl false)

/-- A device-internal write is queued, and its back-invalidate may begin. -/
theorem Framed.queueInternal {m : Nat} {s t : State} (h : Framed m internalFields s t) (i : Internal)
    (hm : 0xf4004000000000000000000000000000000022 ||| m = m) :
    Framed m internalFields s (t.queueInternal i) :=
  h.via (queueInternal_within ..) (by apply queueInternal_regs <;> repeat constructor) hm

/-- The parts that a command of one line may change. -/
def lineParts : Nat := 0x28000000000000000000000000000f4004200000000000000000000000000000022

theorem pick_lineParts (s t : State) : State.pick lineParts s t = { s with
    regs := t.regs, out := t.out, internals := t.internals,
    mbox := { s.mbox with stored := t.mbox.stored },
    cache := { s.cache with
      lines := t.cache.lines, host := t.cache.host, snoops := t.cache.snoops, clock := t.cache.clock,
      biCredits := t.cache.biCredits },
    telem := { s.telem with counts := t.telem.counts, bwRead := t.telem.bwRead } } := rfl

theorem lineCommand_framed (s : State) (p : CmdPath) (dpa : Nat) (kind : InternalKind) (data : LineData) :
    Framed lineParts internalFields s (s.lineCommand p dpa kind data) :=
  Framed.rfl.via (lineCommand_within ..) (by apply lineCommand_regs <;> repeat constructor) rfl

theorem injectPoison_framed (p : CmdPath) (dpa : Nat) :
    EndsFramed lineParts internalFields (.injectPoison p dpa) := fun _ =>
  ⟨_, rfl, command_framed _ _ _ _ (fun _ => lineCommand_framed ..) (by decide)⟩

theorem clearPoison_framed (p : CmdPath) (dpa : Nat) (data : LineData) :
    EndsFramed lineParts internalFields (.clearPoison p dpa data) := fun _ =>
  ⟨_, rfl, command_framed _ _ _ _ (fun _ => lineCommand_framed ..) (by decide)⟩

/-- The parts that the start or the end of a RELEASE RANGE may change. -/
def releaseParts : Nat := 0x28000000000000000000000000000f4004600000000000000000000000000000022

theorem pick_releaseParts (s t : State) : State.pick releaseParts s t = { s with
    regs := t.regs, out := t.out, internals := t.internals,
    mbox := { s.mbox with stored := t.mbox.stored, bg := t.mbox.bg },
    cache := { s.cache with
      lines := t.cache.lines, host := t.cache.host, snoops := t.cache.snoops, clock := t.cache.clock,
      biCredits := t.cache.biCredits },
    telem := { s.telem with counts := t.telem.counts, bwRead := t.telem.bwRead } } := rfl

/-- A RELEASE RANGE is refused by a reply, or starts in the background with one device-internal write for each piece. -/
theorem releaseRange_framed (p : CmdPath) (start length : Nat) :
    EndsFramed releaseParts internalFields (.releaseRange p start length) := fun _ => by
  refine ⟨_, rfl, command_framed _ _ _ _ (fun t => ?_) (by decide)⟩
  have hreply (rc : Rc) (data : List Nat) : Framed releaseParts internalFields t (t.reply p rc 0 data) :=
    Framed.rfl.reply _ _ _ _ rfl
  have hstart : Framed releaseParts internalFields t (t.bgStart p .releaseRange) :=
    Framed.rfl.quiet (bgStart_within ..) rfl rfl
  refine .ite (fun _ => hreply ..) fun _ => ?_
  split
  · exact hreply ..
  refine .ite (fun _ => hreply ..) fun _ => .ite (fun _ => hreply ..) fun _ => ?_
  exact (Framed.foldl (fun _ i => Framed.rfl.queueInternal i rfl) _ hstart).reply _ _ _ _ rfl

theorem releaseRangeComplete_framed : EndsFramed releaseParts internalFields .releaseRangeComplete := fun s => by
  refine ⟨_, rfl, ?_⟩
  split
  · exact .rfl
  refine .ite (fun _ => .rfl) fun _ => ?_
  extract_lets s1
  have h1 : Framed releaseParts internalFields s s1 :=
    Framed.rfl.via (endInternal_within _) (by apply endInternal_regs <;> repeat constructor) rfl
  split
  · exact h1.quiet (bgDone_within ..) rfl rfl
  · exact h1

/-- The parts that the end of a back-invalidate walk may change. -/
def walkEndParts : Nat := 0x3fffe07fffffffff01ffffffffffffe0ffffffffe17ffffffffffffff0000000000032

theorem pick_walkEndParts (s t : State) : State.pick walkEndParts s t = { s with
    regs := t.regs, free := t.free, out := t.out, keep := t.keep, chron := t.chron, events := t.events,
    prot := t.prot, reqs := t.reqs, merge := t.merge, mbox := t.mbox, cache := t.cache, internals := t.internals,
    sched := t.sched, xlat := t.xlat, err := t.err, shelf := t.shelf, telem := t.telem } := rfl

/-- The register fields that the end of a back-invalidate walk may write. -/
def walkEndFields : List Field := [
  Reg.CHRON_DROP_CNT, Reg.CHRON_REPEAT_CNT, Reg.DIR_BCAST_CNT, Reg.DIR_BISNP_CNT, Reg.DIR_EVBUF_USED,
  Reg.DIR_HOST_OVF_ENTRIES, Reg.DIR_HOST_STATUS_ENTRIES, Reg.DIR_SLICE_STATUS_ENTRIES, Reg.ERR_DIRTY_LOST_CNT,
  Reg.ERR_HEALTH_EVENT_DIRTY_LOST, Reg.ERR_HEALTH_EVENT_POISON_FULL, Reg.ERR_POISON_LIST_OVERFLOW,
  Reg.ERR_POISON_LIST_RECORDS, Reg.MERGE_LOST_CNT, Reg.MERGE_MERGE_CNT, Reg.MERGE_PARTIAL_LINES,
  Reg.MERGE_POINT_LO_STROKE_LO, Reg.MERGE_SETTLE_REFETCH_CNT, Reg.MERGE_SETTLING_LINES, Reg.MERGE_STATUS_DIRTY,
  Reg.MERGE_STATUS_LIMIT, Reg.MERGE_STATUS_POINTS, Reg.PROT_INTEG_DIRTY_LINES, Reg.TELEM_BLK_OVF_OVF,
  Reg.XLAT_COLD_COUNT_BLOCKS, Reg.XLAT_HOT_COUNT_BLOCKS, Reg.XLAT_LIFTED_PAGES, Reg.XLAT_MOVES_ACTIVE,
  Reg.XLAT_MOVES_QUEUED, Reg.XLAT_PINNED_LINES, Reg.XLAT_POOL_STATUS_FREE]

theorem backInvalidateWalkEnd_framed : EndsFramed walkEndParts walkEndFields .backInvalidateWalkEnd := fun s => by
  refine ⟨_, rfl, ?_⟩
  split
  · exact .rfl
  refine .ite (fun _ => .rfl) fun _ => ?_
  extract_lets s1
  have hswept : Framed walkEndParts walkEndFields s s1 :=
    Framed.rfl.via (sweepInternal_within _) (by apply sweepInternal_regs <;> repeat constructor) rfl
  exact .ite
    (fun _ => hswept.via (placeInternal_within ..) (by apply placeInternal_regs <;> repeat constructor) rfl)
    fun _ => hswept

/-! ### Sanitize and Secure Erase -/

/-- The parts that the start of an erase may change. -/
def eraseParts : Nat := 0x28000000000000000000000000000f4004600000040000000000000000000000022

theorem pick_eraseParts (s t : State) : State.pick eraseParts s t = { s with
    regs := t.regs, out := t.out, internals := t.internals,
    prot := { s.prot with eraseAuth := t.prot.eraseAuth },
    mbox := { s.mbox with stored := t.mbox.stored, bg := t.mbox.bg },
    cache := { s.cache with
      lines := t.cache.lines, host := t.cache.host, snoops := t.cache.snoops, clock := t.cache.clock,
      biCredits := t.cache.biCredits },
    telem := { s.telem with counts := t.telem.counts, bwRead := t.telem.bwRead } } := rfl

theorem startErase_framed (s : State) (p : CmdPath) (kind : InternalKind) (bg : Background) (what : Nat) :
    Framed eraseParts internalFields s (s.startErase p kind bg what) :=
  Framed.rfl.via (startErase_within ..) (by apply startErase_regs <;> repeat constructor) rfl

theorem sanitize_framed (p : CmdPath) : EndsFramed eraseParts internalFields (.sanitize p) := fun _ =>
  ⟨_, rfl, command_framed _ _ _ _ (fun _ => startErase_framed ..) (by decide)⟩

theorem secureErase_framed (p : CmdPath) : EndsFramed eraseParts internalFields (.secureErase p) := fun _ =>
  ⟨_, rfl, command_framed _ _ _ _ (fun _ => startErase_framed ..) (by decide)⟩

/-- The parts that the completion of a SANITIZE may change. -/
def sanitizeEndParts : Nat := 0x280000000000000000000000000000000060000180001003cfffff0000000000022

theorem pick_sanitizeEndParts (s t : State) : State.pick sanitizeEndParts s t = { s with
    regs := t.regs, out := t.out, keep := t.keep,
    chron := { s.chron with
      perm := t.chron.perm, ring := t.chron.ring, buffer := t.chron.buffer, nextSerial := t.chron.nextSerial,
      runs := t.chron.runs, dropped := t.chron.dropped },
    prot := { s.prot with slots := t.prot.slots, eraseLeft := t.prot.eraseLeft, erasePath := t.prot.erasePath },
    mbox := { s.mbox with stored := t.mbox.stored, bg := t.mbox.bg },
    telem := { s.telem with counts := t.telem.counts, bwRead := t.telem.bwRead } } := rfl

/-- The register fields that the completion of a SANITIZE may write. -/
def sanitizeEndFields : List Field := [Reg.CHRON_DROP_CNT, Reg.CHRON_REPEAT_CNT, Reg.TELEM_BLK_OVF_OVF]

theorem sanitizeComplete_framed : EndsFramed sanitizeEndParts sanitizeEndFields .sanitizeComplete := fun s => by
  refine ⟨_, rfl, .ite (fun _ => .rfl) fun _ => ?_⟩
  extract_lets path prot s1
  have hended : Framed sanitizeEndParts sanitizeEndFields s
      { s with prot := { prot with eraseLeft := [], erasePath := none } } := Framed.rfl.set rfl rfl
  have h1 : Framed sanitizeEndParts sanitizeEndFields s s1 :=
    (hended.quiet (unmark_within _) rfl rfl).quiet (flash_within _) rfl rfl
  clear_value path
  cases path with
  | none => exact h1
  | some p =>
    exact (h1.via (eraseRecord_within ..) (by apply eraseRecord_regs <;> repeat constructor) rfl).quiet
      (bgDone_within ..) rfl rfl

/-- Settles O52: the frame of each command, with what its end adds, is the one that its clause lists. -/
theorem cachesAndErasesFrames : Obligations.CachesAndErasesFrames :=
  ⟨fun a b => (cacheWayCfgWrite_framed a b).changes pick_endParts rfl rfl (by decide),
    fun a b => (wayGroupCleaningEnd_framed a b).changes pick_cleaningParts rfl rfl (by decide),
    fun a => (cacheRcCfgWrite_framed a).changes pick_endParts rfl rfl (by decide),
    backInvalidateWalkEnd_framed.changes pick_walkEndParts rfl rfl (by decide),
    fun a b => (cacheCntClr_framed a b).changes pick_clearParts rfl rfl (by decide),
    fun a => (cacheRcCntClr_framed a).changes pick_clearParts rfl rfl (by decide),
    fun a => (dirCntClr_framed a).changes pick_clearParts rfl rfl (by decide),
    fun a b => (injectPoison_framed a b).changes pick_lineParts rfl rfl (by decide),
    fun a b c => (clearPoison_framed a b c).changes pick_lineParts rfl rfl (by decide),
    fun a => (sanitize_framed a).changes pick_eraseParts rfl rfl (by decide),
    fun a => (secureErase_framed a).changes pick_eraseParts rfl rfl (by decide),
    sanitizeComplete_framed.changes pick_sanitizeEndParts rfl rfl (by decide),
    fun a b c => (releaseRange_framed a b c).changes pick_releaseParts rfl rfl (by decide),
    releaseRangeComplete_framed.changes pick_releaseParts rfl rfl (by decide)⟩

end Sys2Proof.Machine
end

section
/-! SUPPORT. The commands that set a value (R209, R211, R212, R315, R165, Table 15-2): what each leaves in the state, and
O35. -/

namespace Sys2Proof.Machine

-- One proof at a time: each proof elaborated beside another needs a thread's stack, and the text has a memory limit.
set_option Elab.async false

open Sys2Proof

/-! ### What a command's response and its end leave -/

theorem Within.events {m : Nat} {s t : State} (h : Within m s t)
    (e : ∀ u v, (State.pick m u v).events = u.events := by intro u v; rfl) : t.events = s.events :=
  (congrArg State.events h).trans (e s t)

theorem Within.wall {m : Nat} {s t : State} (h : Within m s t) (e : m.testBit 131 = false := by decide) :
    t.mbox.wall = s.mbox.wall := h.part (fun u => u.mbox.wall) 131 (Eq.refl _) e

theorem Within.shutdown {m : Nat} {s t : State} (h : Within m s t) (e : m.testBit 132 = false := by decide) :
    t.mbox.shutdown = s.mbox.shutdown := h.part (fun u => u.mbox.shutdown) 132 (Eq.refl _) e

theorem Within.alerts {m : Nat} {s t : State} (h : Within m s t) (e : m.testBit 133 = false := by decide) :
    t.mbox.alerts = s.mbox.alerts := h.part (fun u => u.mbox.alerts) 133 (Eq.refl _) e

theorem Within.scrub {m : Nat} {s t : State} (h : Within m s t) (e : m.testBit 199 = false := by decide) :
    t.err.scrub = s.err.scrub := h.part (fun u => u.err.scrub) 199 (Eq.refl _) e

theorem settle_reply_within (s u : State) (p : CmdPath) (rc : Rc) (ext : Nat) (data : List Nat) :
    Within answeredParts u (settle s (u.reply p rc ext data)) :=
  (settle_within ..).on (by decide) ((reply_within ..).mono (by decide))

section Ended

variable (s u : State) (p : CmdPath) (rc : Rc) (ext : Nat) (data : List Nat)

theorem ended_reply_events : (s.ended (u.reply p rc ext data)).events = u.events := (settle_reply_within ..).events

theorem ended_reply_wall : (s.ended (u.reply p rc ext data)).mbox.wall = u.mbox.wall := (settle_reply_within ..).wall

theorem ended_reply_shutdown : (s.ended (u.reply p rc ext data)).mbox.shutdown = u.mbox.shutdown :=
  (settle_reply_within ..).shutdown

theorem ended_reply_alerts : (s.ended (u.reply p rc ext data)).mbox.alerts = u.mbox.alerts :=
  (settle_reply_within ..).alerts

theorem ended_reply_scrub : (s.ended (u.reply p rc ext data)).err.scrub = u.err.scrub := (settle_reply_within ..).scrub

theorem ended_reply_stroke : (s.ended (u.reply p rc ext data)).stroke = u.stroke :=
  (settle_reply_within ..).stroke (by decide)

theorem ended_reply_keep : (s.ended (u.reply p rc ext data)).keep = u.keep := (settle_reply_within ..).keep

end Ended

/-! ### Event logs (R211) -/

/-- A log reads as it was set, and the three other logs as before. -/
theorem log_setLog (e : Events) (k l : Log) (x : EventLog) :
    (e.setLog l x).log k = if k = l then x else e.log k := by cases l <;> cases k <;> rfl

theorem noted_events (s : State) (l : List Stored) : (s.noted l).events = s.events := rfl

section Clear

variable {s : State} {p : CmdPath} {n : Nat} {l : Log} {hs : List Nat} (hlog : logOf n = some l)
include hlog

theorem clearEventRecords_all (h : heard s p (.clearEventRecords p n true hs) .admin) :
    answers (.clearEventRecords p n true hs) s fun t => t.events.log l = {}
      ∧ (∀ k, k ≠ l → t.events.log k = s.events.log k) ∧ Out.response p .success 0 [] ∈ t.out := by
  refine answers_of_heard rfl h nofun fun stored => ?_
  simp only [hlog, if_true, ended_reply_events, noted_events, log_setLog, true_and]
  exact ⟨fun k hk => if_neg hk, response_mem_ended_out ..⟩

theorem clearEventRecords_named (h : heard s p (.clearEventRecords p n false hs) .admin)
    (hall : hs.all (fun h => (s.events.log l).records.any (fun r => r.1 == h)) = true) :
    answers (.clearEventRecords p n false hs) s fun t =>
      (t.events.log l).records = (s.events.log l).records.filter (fun r => !hs.contains r.1)
        ∧ (∀ k, k ≠ l → t.events.log k = s.events.log k) := by
  have hknown : hs.any (fun h => !(s.events.log l).records.any (fun r => r.1 == h)) = false := by
    rw [List.any_eq_not_all_not]
    simpa only [Bool.not_not, Bool.not_eq_false'] using hall
  refine answers_of_heard rfl h nofun fun stored => ?_
  simp only [hlog, noted_events, hknown, Bool.false_eq_true, if_false, ended_reply_events, log_setLog]
  exact ⟨rfl, fun k hk => if_neg hk⟩

theorem clearEventRecords_of_unknown (h : heard s p (.clearEventRecords p n false hs) .admin)
    (hany : hs.any (fun h => !(s.events.log l).records.any (fun r => r.1 == h)) = true) :
    answers (.clearEventRecords p n false hs) s fun t =>
      t.events = s.events ∧ Out.response p .invalidHandle 0 [] ∈ t.out := by
  refine answers_of_heard rfl h nofun fun stored => ?_
  simp only [hlog, noted_events, hany, Bool.false_eq_true, if_false, if_true]
  exact ⟨ended_reply_events .., response_mem_ended_out ..⟩

end Clear

theorem setEventInterruptPolicy_sets {s : State} {p : CmdPath} {l : List Nat}
    (h : heard s p (.setEventInterruptPolicy p l) .admin) (hlength : l.length = 4) (hmodes : ∀ m ∈ l, m ≤ 2) :
    answers (.setEventInterruptPolicy p l) s fun t =>
      t.events = { s.events with policy := l } ∧ Out.response p .success 0 [] ∈ t.out := by
  refine answers_of_heard rfl h nofun fun _ => ?_
  have hok : (decide (l.length = 4) && l.all (fun m => decide (m ≤ 2))) = true := by simpa [hlength] using hmodes
  rw [if_pos hok]
  exact ⟨ended_reply_events .., response_mem_ended_out ..⟩

/-! ### Time, alerts and the shutdown state (R315, R212, R165) -/

theorem setTimestamp_sets {s : State} {p : CmdPath} {n : Nat} (h : heard s p (.setTimestamp p n) .admin) :
    answers (.setTimestamp p n) s fun t => t.mbox.wall = some (n % 2 ^ 64, s.stroke) ∧ t.stroke = s.stroke
      ∧ Out.response p .success 0 [] ∈ t.out :=
  answers_of_heard rfl h nofun fun _ => ⟨ended_reply_wall .., ended_reply_stroke .., response_mem_ended_out ..⟩

theorem setAlertConfiguration_sets {s : State} {p : CmdPath} {c : AlertCfg}
    (h : heard s p (.setAlertConfiguration p c) .admin) (hok : alertsOk c = true) :
    answers (.setAlertConfiguration p c) s fun t => t.mbox.alerts = c ∧ Out.response p .success 0 [] ∈ t.out := by
  refine answers_of_heard rfl h nofun fun _ => ?_
  rw [if_pos hok]
  exact ⟨ended_reply_alerts .., response_mem_ended_out ..⟩

theorem setShutdownState_sets {s : State} {p : CmdPath} {n : Nat} (h : heard s p (.setShutdownState p n) .admin)
    (hn : n ≤ 1) : answers (.setShutdownState p n) s fun t =>
      t.mbox.shutdown = n ∧ t.keep = s.keep ∧ Out.response p .success 0 [] ∈ t.out := by
  refine answers_of_heard rfl h nofun fun _ => ?_
  rw [if_pos hn]
  exact ⟨ended_reply_shutdown .., ended_reply_keep .., response_mem_ended_out ..⟩

/-! ### The abort of a scrub or scan (R209) -/

theorem requestAbortBackgroundOperation_aborts {s : State} {p : CmdPath} {x : Scrub}
    (h : heard s p (.requestAbortBackgroundOperation p) .any) (hscrub : s.err.scrub = some x) :
    answers (.requestAbortBackgroundOperation p) s fun t =>
      t.err.scrub = some (if samePath x.path p then { x with aborted := true } else x)
        ∧ Out.response p .success 0 [] ∈ t.out := by
  refine answers_of_heard rfl h nofun fun k => ⟨?_, response_mem_ended_out ..⟩
  have hruns : (s.noted k).err.scrub = some x := hscrub
  rw [ended_reply_scrub]
  simp only [hruns]
  split
  · rfl
  · exact hruns

/-! ### O35 -/

/-- Settles O35: one theorem for each command. That a log's overflow fields go with its records, and that a log's mode is
one of 0 to 2, are the model's readings (log entries 110 and 111). -/
theorem settingCommandsTakeEffect : Obligations.SettingCommandsTakeEffect := by
  refine ⟨?_, ?_, ?_, ?_, ?_, ?_⟩
  · exact fun s p n l hs hlog =>
      ⟨fun h => clearEventRecords_all hlog h, fun h hall => clearEventRecords_named hlog h hall,
        fun h hany => clearEventRecords_of_unknown hlog h hany⟩
  · exact fun s p l h hlength hmodes => setEventInterruptPolicy_sets h hlength hmodes
  · exact fun s p n h => setTimestamp_sets h
  · exact fun s p c h hok => setAlertConfiguration_sets h hok
  · exact fun s p n h hn => setShutdownState_sets h hn
  · exact fun s p x h hscrub => requestAbortBackgroundOperation_aborts h hscrub

end Sys2Proof.Machine
end

section
/-! SUPPORT. The frame of each command of protection, of the patrol and of scrubbing (R204, R207, R209, R210, R212, R214,
R219, R221, R222, R237 to R243), and O55. `pick_<parts>` says which parts of the state a mask names; side conditions of
`Framed` are written out, as for O51. -/

namespace Sys2Proof.Machine

open Sys2Proof

/-! ### Patrol, health and the error counters -/

/-- The parts that the patrol may change. -/
def patrolParts : Nat := 0x280000000000001ffff000000001000000000000000007fbcc00c10000000000022

theorem pick_patrolParts (s t : State) : State.pick patrolParts s t = { s with
    regs := t.regs, out := t.out, events := t.events, chans := t.chans, err := t.err,
    keep := { s.keep with shadow := t.keep.shadow, queue := t.keep.queue, lost := t.keep.lost },
    chron := { s.chron with
      perm := t.chron.perm, ring := t.chron.ring, buffer := t.chron.buffer, nextSerial := t.chron.nextSerial,
      runs := t.chron.runs, dropped := t.chron.dropped },
    telem := { s.telem with counts := t.telem.counts, bwRead := t.telem.bwRead } } := rfl

/-- The register fields that the patrol may write. -/
def patrolFields : List Field := [
  Reg.CHAN_CORR_CNT, Reg.CHAN_RECON_CNT, Reg.CHAN_RETRY_CNT, Reg.CHAN_UNCORR_CNT, Reg.CHRON_DROP_CNT,
  Reg.CHRON_REPEAT_CNT, Reg.ERR_BUCKET_STATUS_LEVEL, Reg.ERR_BUCKET_STATUS_OVF_CNT, Reg.ERR_CORR_PERS_CNT,
  Reg.ERR_HEALTH_EVENT_BUCKET_OVF, Reg.ERR_HEALTH_EVENT_DIE_FAIL, Reg.ERR_HEALTH_EVENT_POISON_FULL,
  Reg.ERR_HEALTH_EVENT_UNCORR, Reg.ERR_LAST_UNCORR_HI_VALID, Reg.ERR_LAST_UNCORR_LO_DPA_LO,
  Reg.ERR_PATROL_STATUS_LAST_PASS, Reg.ERR_PATROL_STATUS_PROGRESS, Reg.ERR_POISON_LIST_OVERFLOW,
  Reg.ERR_POISON_LIST_RECORDS, Reg.ERR_REWRITE_CNT, Reg.ERR_UNCORR_CNT, Reg.TELEM_BLK_OVF_OVF]

/-- A page is visited where one is left; the pass that it ends, or the one that has none left, is complete. -/
theorem patrolVisit_framed (errs : List LineErr) : EndsFramed patrolParts patrolFields (.patrolVisit errs) := fun s => by
  refine ⟨_, rfl, .ite (fun _ => .rfl) fun _ => ?_⟩
  extract_lets u
  have hu : Framed patrolParts patrolFields s u := by
    unfold u
    split
    · split
      · exact Framed.rfl.via (visit_within ..) (by apply visit_regs <;> repeat constructor) rfl
      · exact .rfl
    · exact .rfl
  exact .ite (fun _ => hu) fun _ =>
    hu.via (passComplete_within _) (by apply passComplete_regs <;> repeat constructor) rfl

/-- The parts that the end of a late pass may change. -/
def latePassParts : Nat := 0x280000000000000001c000000000000000000000000000000000000000000000022

theorem pick_latePassParts (s t : State) : State.pick latePassParts s t = { s with
    regs := t.regs, out := t.out,
    err := { s.err with
      patrolPos := t.err.patrolPos, patrolStart := t.err.patrolStart, visited := t.err.visited },
    telem := { s.telem with counts := t.telem.counts, bwRead := t.telem.bwRead } } := rfl

theorem patrolPassLate_framed : EndsFramed latePassParts
    [Reg.ERR_HEALTH_EVENT_PATROL_LATE, Reg.ERR_PATROL_STATUS_LATE, Reg.ERR_PATROL_STATUS_PROGRESS, Reg.TELEM_BLK_OVF_OVF]
    .patrolPassLate := fun _ =>
  ⟨_, rfl, .ite (fun _ => .rfl) fun _ => ((Framed.rfl.via (health_within ..) (health_regs _ _ (by decide)) rfl).via
    (bump_within ..) (bump_regs _ _ _ _ _ (by decide)) rfl).via (newPass_within _) (newPass_regs _ (by decide)) rfl⟩

theorem errPatrolCfgWrite_framed (v : Word) : EndsFramed endParts
    [Reg.ERR_PATROL_CFG_HORIZON, Reg.ERR_PATROL_CFG_PASS, Reg.ERR_PATROL_CFG_REFRESH_BITS, Reg.ERR_STATUS_CFG_REJECT,
      Reg.TELEM_BLK_OVF_OVF] (.errPatrolCfgWrite v) := fun _ =>
  ⟨_, rfl, .ite (fun _ => ((Framed.rfl.wr (by decide) rfl).wr (by decide) rfl).wr (by decide) rfl)
    fun _ => Framed.rfl.via (setBit_within ..) (setBit_regs _ _ _ _ _ (by decide)) rfl⟩

theorem errCntClr_framed (v : Word) : EndsFramed clearParts [Reg.TELEM_BLK_OVF_OVF] (.errCntClr v) := fun _ =>
  ⟨_, rfl, .ite (fun _ => askClear_framed _) fun _ => .rfl⟩

theorem errLastUncorrLoRead_framed :
    EndsFramed endParts [Reg.ERR_LAST_UNCORR_HI_DPA_HI, Reg.TELEM_BLK_OVF_OVF] .errLastUncorrLoRead := fun _ =>
  ⟨_, rfl, (Framed.rfl.wr (by decide) rfl).quiet (emit_within ..) rfl rfl⟩

/-- The parts that a temperature crossing may change. -/
def temperatureParts : Nat := 0x2800000000000008000000000000000000000000000007fbcc00000000000000022

theorem pick_temperatureParts (s t : State) : State.pick temperatureParts s t = { s with
    regs := t.regs, out := t.out, events := t.events,
    chron := { s.chron with
      perm := t.chron.perm, ring := t.chron.ring, buffer := t.chron.buffer, nextSerial := t.chron.nextSerial,
      runs := t.chron.runs, dropped := t.chron.dropped },
    err := { s.err with temp := t.err.temp },
    telem := { s.telem with counts := t.telem.counts, bwRead := t.telem.bwRead } } := rfl

theorem deviceTemperatureCrossing_framed (tempC : Int) : EndsFramed temperatureParts
    [Reg.CHRON_DROP_CNT, Reg.CHRON_REPEAT_CNT, Reg.ERR_HEALTH_EVENT_TEMP, Reg.ERR_HEALTH_STATUS_TEMP,
      Reg.TELEM_BLK_OVF_OVF] (.deviceTemperatureCrossing tempC) := fun s => by
  refine ⟨_, rfl, ?_⟩
  extract_lets was err s1 s2
  have h1 : Framed temperatureParts [Reg.CHRON_DROP_CNT, Reg.CHRON_REPEAT_CNT, Reg.ERR_HEALTH_EVENT_TEMP,
      Reg.ERR_HEALTH_STATUS_TEMP, Reg.TELEM_BLK_OVF_OVF] s s1 := Framed.rfl.set rfl rfl
  have h2 : Framed temperatureParts [Reg.CHRON_DROP_CNT, Reg.CHRON_REPEAT_CNT, Reg.ERR_HEALTH_EVENT_TEMP,
      Reg.ERR_HEALTH_STATUS_TEMP, Reg.TELEM_BLK_OVF_OVF] s s2 := h1.wr (by decide) rfl
  exact .ite (fun _ => (h2.via (health_within ..) (health_regs _ _ (by decide)) rfl).via (event_within ..)
    (event_regs _ _ _ _ (by decide) (by decide)) rfl) fun _ => h2

/-! ### SCRUB RANGE and Scan Media -/

/-- The parts that the start of a SCRUB RANGE or Scan Media may change. -/
def scrubStartParts : Nat := 0x2800000000000000080000000000000000600000000000000000000000000000022

theorem pick_scrubStartParts (s t : State) : State.pick scrubStartParts s t = { s with
    regs := t.regs, out := t.out,
    mbox := { s.mbox with stored := t.mbox.stored, bg := t.mbox.bg },
    err := { s.err with scrub := t.err.scrub },
    telem := { s.telem with counts := t.telem.counts, bwRead := t.telem.bwRead } } := rfl

theorem startScrub_framed (s : State) (x : Scrub) (b : Background) : Framed scrubStartParts
    [Reg.ERR_STATUS_SCRUB_BUSY, Reg.TELEM_BLK_OVF_OVF] s (s.startScrub x b) :=
  Framed.rfl.via (startScrub_within ..) (startScrub_regs _ _ _ (by decide)) rfl

theorem scrubRange_framed (p : CmdPath) (start length : Nat) : EndsFramed scrubStartParts
    [Reg.ERR_STATUS_SCRUB_BUSY, Reg.TELEM_BLK_OVF_OVF] (.scrubRange p start length) := fun _ => by
  refine ⟨_, rfl, command_framed _ _ _ _ (fun t => .ite (fun _ => Framed.rfl.reply _ _ _ _ rfl) fun _ => ?_)
    (by decide)⟩
  extract_lets lines room cut n
  split
  · exact Framed.rfl.reply _ _ _ _ rfl
  · exact .ite (fun _ => Framed.rfl.reply _ _ _ _ rfl) fun _ => startScrub_framed ..

theorem scanMedia_framed (p : CmdPath) (dpa lines : Nat) : EndsFramed scrubStartParts
    [Reg.ERR_STATUS_SCRUB_BUSY, Reg.TELEM_BLK_OVF_OVF] (.scanMedia p dpa lines) := fun _ => by
  refine ⟨_, rfl, command_framed _ _ _ _ (fun t => ?_) (by decide)⟩
  split
  · exact Framed.rfl.reply _ _ _ _ rfl
  · exact .ite (fun _ => Framed.rfl.reply _ _ _ _ rfl) fun _ => startScrub_framed ..

theorem getScanMediaCapabilities_framed (p : CmdPath) (dpa lines : Nat) :
    EndsFramed sessionGetParts [Reg.TELEM_BLK_OVF_OVF] (.getScanMediaCapabilities p dpa lines) := fun _ => by
  refine ⟨_, rfl, command_framed _ _ _ _ (fun t => ?_) (by decide)⟩
  split
  · exact Framed.rfl.reply _ _ _ _ rfl
  · exact Framed.rfl.reply _ _ _ _ rfl

/-- The parts that the end of a SCRUB RANGE or Scan Media may change. -/
def scrubEndParts : Nat := 0x28000000000000101e3000000001000000600000000007fbcc00c10000000000022

theorem pick_scrubEndParts (s t : State) : State.pick scrubEndParts s t = { s with
    regs := t.regs, out := t.out, events := t.events, chans := t.chans,
    keep := { s.keep with shadow := t.keep.shadow, queue := t.keep.queue, lost := t.keep.lost },
    chron := { s.chron with
      perm := t.chron.perm, ring := t.chron.ring, buffer := t.chron.buffer, nextSerial := t.chron.nextSerial,
      runs := t.chron.runs, dropped := t.chron.dropped },
    mbox := { s.mbox with stored := t.mbox.stored, bg := t.mbox.bg },
    err := { s.err with
      poison := t.err.poison, poisonLost := t.err.poisonLost, refresh := t.err.refresh,
      rewrites := t.err.rewrites, scrub := t.err.scrub, scanResults := t.err.scanResults,
      lastUncorrHi := t.err.lastUncorrHi },
    telem := { s.telem with counts := t.telem.counts, bwRead := t.telem.bwRead } } := rfl

/-- The register fields that the end of a SCRUB RANGE or Scan Media may write. -/
def scrubEndFields : List Field := [
  Reg.CHAN_CORR_CNT, Reg.CHAN_RECON_CNT, Reg.CHAN_RETRY_CNT, Reg.CHAN_UNCORR_CNT, Reg.CHRON_DROP_CNT,
  Reg.CHRON_REPEAT_CNT, Reg.ERR_BUCKET_STATUS_LEVEL, Reg.ERR_BUCKET_STATUS_OVF_CNT, Reg.ERR_CORR_PERS_CNT,
  Reg.ERR_HEALTH_EVENT_BUCKET_OVF, Reg.ERR_HEALTH_EVENT_DIE_FAIL, Reg.ERR_HEALTH_EVENT_POISON_FULL,
  Reg.ERR_HEALTH_EVENT_UNCORR, Reg.ERR_LAST_UNCORR_HI_VALID, Reg.ERR_LAST_UNCORR_LO_DPA_LO,
  Reg.ERR_POISON_LIST_OVERFLOW, Reg.ERR_POISON_LIST_RECORDS, Reg.ERR_REWRITE_CNT, Reg.ERR_STATUS_SCRUB_BUSY,
  Reg.ERR_UNCORR_CNT, Reg.TELEM_BLK_OVF_OVF]

theorem scrubRangeComplete_framed (how : ScrubEnd) (reached : Nat) (errs : List (Nat × LineErr)) :
    EndsFramed scrubEndParts scrubEndFields (.scrubRangeComplete how reached errs) := fun s => by
  refine ⟨_, rfl, ?_⟩
  split
  · exact .rfl
  refine .ite (fun _ => ?_) fun _ => .ite (fun _ => .rfl) fun _ => ?_
  · extract_lets err s1
    have hended : Framed scrubEndParts scrubEndFields s { s with err := { err with scrub := none } } :=
      Framed.rfl.set rfl rfl
    have h1 : Framed scrubEndParts scrubEndFields s s1 :=
      hended.via (setBit_within ..) (setBit_regs _ _ _ _ _ (by decide)) rfl
    exact h1.set rfl rfl
  · exact Framed.rfl.via (scrubDone_within ..) (by apply scrubDone_regs <;> repeat constructor) rfl

/-! ### Motions -/

/-- The register fields that a MOTION or a SECOND may write. -/
def motionFields : List Field := [
  Reg.PROT_DUP_CNT, Reg.PROT_MOTION_REJECT_COUNT, Reg.PROT_MOTION_REJECT_LAST_REASON, Reg.TELEM_BLK_OVF_OVF]

/-- The parts that a MOTION may change. -/
def motionParts : Nat := 0x28000000000000000000000000000000002000000060000003ffff0000000000032

theorem pick_motionParts (s t : State) : State.pick motionParts s t = { s with
    regs := t.regs, free := t.free, out := t.out, keep := t.keep,
    prot := { s.prot with nonces := t.prot.nonces, lodged := t.prot.lodged },
    mbox := { s.mbox with stored := t.mbox.stored },
    telem := { s.telem with counts := t.telem.counts, bwRead := t.telem.bwRead } } := rfl

theorem motion_framed (p : CmdPath) (m : Motion) : EndsFramed motionParts motionFields (.motion p m) := fun _ =>
  ⟨_, rfl, command_framed _ _ _ _ (fun _ =>
    Framed.rfl.via (motion_within ..) (by apply motion_regs <;> repeat constructor) rfl) (by decide)⟩

/-- The parts that a SECOND may change. -/
def secondParts : Nat := 0x28000000000000000000000000000000002000002040000003ffff0000000000032

theorem pick_secondParts (s t : State) : State.pick secondParts s t = { s with
    regs := t.regs, free := t.free, out := t.out, keep := t.keep,
    prot := { s.prot with lodged := t.prot.lodged, challenge := t.prot.challenge },
    mbox := { s.mbox with stored := t.mbox.stored },
    telem := { s.telem with counts := t.telem.counts, bwRead := t.telem.bwRead } } := rfl

theorem second_framed (p : CmdPath) (m : Second) : EndsFramed secondParts motionFields (.second p m) := fun _ =>
  ⟨_, rfl, command_framed _ _ _ _ (fun _ =>
    Framed.rfl.via (second_within ..) (by apply second_regs <;> repeat constructor) rfl) (by decide)⟩

theorem motionStatus_framed (p : CmdPath) (m : Motion) :
    EndsFramed sessionGetParts [Reg.TELEM_BLK_OVF_OVF] (.motionStatus p m) := fun _ =>
  ⟨_, rfl, command_framed _ _ _ _ (fun _ => Framed.rfl.reply _ _ _ _ rfl) (by decide)⟩

/-- The parts that the lapse of a motion may change. -/
def lapseParts : Nat := 0x2800000000000000000000000000000000000000204000000000000000000000032

theorem pick_lapseParts (s t : State) : State.pick lapseParts s t = { s with
    regs := t.regs, free := t.free, out := t.out,
    prot := { s.prot with lodged := t.prot.lodged, challenge := t.prot.challenge },
    telem := { s.telem with counts := t.telem.counts, bwRead := t.telem.bwRead } } := rfl

theorem motionLapse_framed (m : Motion) :
    EndsFramed lapseParts [Reg.PROT_LAPSE_CNT, Reg.TELEM_BLK_OVF_OVF] (.motionLapse m) := fun _ => by
  refine ⟨_, rfl, ?_⟩
  split
  · exact .ite (fun _ => (Framed.rfl.quiet (dropMotion_within ..) rfl rfl).via (bump_within ..)
      (bump_regs _ _ _ _ _ (by decide)) rfl) fun _ => .rfl
  · exact .rfl

/-- The parts that the motions that take effect may change. -/
def applyParts : Nat := 0x28000000000000000000000000000f4004200007fffff803cc00000000000000032

theorem pick_applyParts (s t : State) : State.pick applyParts s t = { s with
    regs := t.regs, free := t.free, out := t.out, prot := t.prot, internals := t.internals,
    chron := { s.chron with
      perm := t.chron.perm, ring := t.chron.ring, buffer := t.chron.buffer, nextSerial := t.chron.nextSerial,
      runs := t.chron.runs, dropped := t.chron.dropped },
    mbox := { s.mbox with stored := t.mbox.stored },
    cache := { s.cache with
      lines := t.cache.lines, host := t.cache.host, snoops := t.cache.snoops, clock := t.cache.clock,
      biCredits := t.cache.biCredits },
    telem := { s.telem with counts := t.telem.counts, bwRead := t.telem.bwRead } } := rfl

/-- The register fields that the motions that take effect may write. -/
def applyFields : List Field := [
  Reg.CHRON_DROP_CNT, Reg.CHRON_REPEAT_CNT, Reg.DIR_BCAST_CNT, Reg.DIR_BISNP_CNT, Reg.DIR_EVBUF_USED,
  Reg.DIR_HOST_OVF_ENTRIES, Reg.DIR_HOST_STATUS_ENTRIES, Reg.DIR_SLICE_STATUS_ENTRIES, Reg.PROT_LAPSE_CNT,
  Reg.PROT_MOTION_CNT, Reg.TELEM_BLK_OVF_OVF]

theorem motionApply_framed : EndsFramed applyParts applyFields .motionApply := fun _ =>
  ⟨_, rfl, Framed.foldl
    (fun _ _ => Framed.rfl.via (applyMotion_within ..) (by apply applyMotion_regs <;> repeat constructor) rfl) _ .rfl⟩

/-! ### Re-key passes, erase authorisations and key slots -/

/-- The parts that the end of a re-key pass may change. -/
def passEndParts : Nat := 0x28000000000000000000000000000f40040000004000380003ffff0000000000022

theorem pick_passEndParts (s t : State) : State.pick passEndParts s t = { s with
    regs := t.regs, out := t.out, keep := t.keep, internals := t.internals,
    prot := { s.prot with
      ranges := t.prot.ranges, slots := t.prot.slots, integState := t.prot.integState, rekeys := t.prot.rekeys },
    cache := { s.cache with
      lines := t.cache.lines, host := t.cache.host, snoops := t.cache.snoops, clock := t.cache.clock,
      biCredits := t.cache.biCredits },
    telem := { s.telem with counts := t.telem.counts, bwRead := t.telem.bwRead } } := rfl

theorem rekeyPassEnd_framed : EndsFramed passEndParts internalFields .rekeyPassEnd := fun s => by
  refine ⟨_, rfl, ?_⟩
  split
  · exact .rfl
  next r rest _ =>
  refine .ite (fun _ => .rfl) fun _ => ?_
  extract_lets k k' d prot s1 s2
  have hpassed : Framed passEndParts internalFields s { s with prot := { prot with
      rekeys := rest, slots := s.prot.slots.set {} r.range k'
      ranges := if r.deleting then s.prot.ranges.del r.range else s.prot.ranges
      integState := if d.integ then s.prot.integState.set .off r.range .verified else s.prot.integState } } :=
    Framed.rfl.set rfl rfl
  have h1 : Framed passEndParts internalFields s s1 :=
    hpassed.via (endInternal_within _) (by apply endInternal_regs <;> repeat constructor) rfl
  have h2 : Framed passEndParts internalFields s s2 := h1.quiet (keepWrite_within ..) rfl rfl
  exact (Framed.ite (fun _ => h2.quiet (keepWrite_within ..) rfl rfl) fun _ => h2).quiet (flash_within _) rfl rfl

/-- The parts that the end of an erase authorisation may change. -/
def authExpiryParts : Nat := 0x2800000000000000000000000000000000000000040000000000000000000000022

theorem pick_authExpiryParts (s t : State) : State.pick authExpiryParts s t = { s with
    regs := t.regs, out := t.out,
    prot := { s.prot with eraseAuth := t.prot.eraseAuth },
    telem := { s.telem with counts := t.telem.counts, bwRead := t.telem.bwRead } } := rfl

theorem eraseAuthExpiry_framed : EndsFramed authExpiryParts [Reg.TELEM_BLK_OVF_OVF] .eraseAuthExpiry := fun _ => by
  refine ⟨_, rfl, ?_⟩
  split
  · exact .ite (fun _ => Framed.rfl.set rfl rfl) fun _ => .rfl
  · exact .rfl

/-- The parts that the return of a key slot may change. -/
def reunsealParts : Nat := 0x280000000000000000000000000807fffc000018000c07fbcc00000000000000022

theorem pick_reunsealParts (s t : State) : State.pick reunsealParts s t = { s with
    regs := t.regs, out := t.out, events := t.events, sessions := t.sessions, reqs := t.reqs, cache := t.cache,
    chron := { s.chron with
      perm := t.chron.perm, ring := t.chron.ring, buffer := t.chron.buffer, nextSerial := t.chron.nextSerial,
      runs := t.chron.runs, dropped := t.chron.dropped },
    prot := { s.prot with slotBad := t.prot.slotBad, slotLost := t.prot.slotLost },
    sched := { s.sched with jobs := t.sched.jobs },
    telem := { s.telem with counts := t.telem.counts, bwRead := t.telem.bwRead } } := rfl

/-- The register fields that the return of a key slot may write. -/
def reunsealFields : List Field := [
  Reg.CACHE_FWD_CNT, Reg.CACHE_HIT_CNT, Reg.CACHE_MISS_CNT, Reg.CHRON_DROP_CNT, Reg.CHRON_REPEAT_CNT,
  Reg.DIR_BCAST_CNT, Reg.DIR_BISNP_CNT, Reg.DIR_EVBUF_USED, Reg.DIR_EVICT_CNT, Reg.DIR_HOST_OVF_ENTRIES,
  Reg.DIR_HOST_STATUS_ENTRIES, Reg.DIR_RESOLVE_WAIT_CNT, Reg.DIR_SLICE_STATUS_ENTRIES, Reg.ERR_BUCKET_STATUS_LEVEL,
  Reg.ERR_BUCKET_STATUS_OVF_CNT, Reg.ERR_CORR_VOL_CNT, Reg.ERR_HEALTH_EVENT_BUCKET_OVF, Reg.PORT_INFLIGHT_LINK0,
  Reg.PORT_INFLIGHT_LINK1, Reg.PORT_INFLIGHT_PEAK_LINK0, Reg.PORT_INFLIGHT_PEAK_LINK1, Reg.PROT_INTEG_FAIL_CNT,
  Reg.RANGE_INTEG_FAIL_CNT, Reg.TELEM_BLK_OVF_OVF]

theorem keySlotReunseal_framed (range : Nat) (keepGood : Bool) :
    EndsFramed reunsealParts reunsealFields (.keySlotReunseal range keepGood) := fun s => by
  refine ⟨_, rfl, .ite (fun _ => .rfl) fun _ => ?_⟩
  extract_lets lost prot
  have hslot : Framed reunsealParts reunsealFields s { s with prot := { prot with
      slotBad := s.prot.slotBad.filter (· != range), slotLost := lost } } := Framed.rfl.set rfl rfl
  exact hslot.via (wakeAll_within _) (by apply wakeAll_regs <;> repeat constructor) rfl

/-! ### IDE and SPDM -/

/-- The parts that IDE key management may change. -/
def ideParts : Nat := 0x2800000000000000000000000000000000000002000000000000000000000000022

theorem pick_ideParts (s t : State) : State.pick ideParts s t = { s with
    regs := t.regs, out := t.out,
    prot := { s.prot with ide := t.prot.ide },
    telem := { s.telem with counts := t.telem.counts, bwRead := t.telem.bwRead } } := rfl

theorem ideKeyProg_framed (port link : Nat) (dir : IdeDir) (keySet : Nat) (key : KeyName) :
    EndsFramed ideParts [Reg.TELEM_BLK_OVF_OVF] (.ideKeyProg port link dir keySet key) := fun _ =>
  ⟨_, rfl, .ite (fun _ => .rfl) fun _ => Framed.rfl.quiet (setStream_within ..) rfl rfl⟩

/-- The register fields that show the IDE state of a link. -/
def ideFields : List Field := [Reg.PORT_LINK_STATUS0_IDE, Reg.PORT_LINK_STATUS1_IDE, Reg.TELEM_BLK_OVF_OVF]

/-- A stream is set, and the IDE state of its link may follow. -/
theorem setStream_setIde_framed (s : State) (p l : Nat) (x : IdeStream) (ide : Nat) {c : Prop} [Decidable c] :
    Framed ideParts ideFields s (if c then (s.setStream p l x).setIde p l ide else s.setStream p l x) :=
  have hstream : Framed ideParts ideFields s (s.setStream p l x) := Framed.rfl.quiet (setStream_within ..) rfl rfl
  .ite (fun _ => hstream.via (setIde_within ..) (setIde_regs _ _ _ _ (by decide) (by decide)) rfl) fun _ => hstream

theorem ideKSetGo_framed (port link : Nat) (dir : IdeDir) (keySet : Nat) :
    EndsFramed ideParts ideFields (.ideKSetGo port link dir keySet) := fun _ =>
  ⟨_, rfl, .ite (fun _ => .rfl) fun _ => setStream_setIde_framed ..⟩

theorem ideKSetStop_framed (port link : Nat) (dir : IdeDir) (keySet : Nat) :
    EndsFramed ideParts ideFields (.ideKSetStop port link dir keySet) := fun _ =>
  ⟨_, rfl, .ite (fun _ => .rfl) fun _ => setStream_setIde_framed ..⟩

theorem spdmGetMeasurements_framed (port index : Nat) :
    EndsFramed endParts [Reg.TELEM_BLK_OVF_OVF] (.spdmGetMeasurements port index) := fun _ =>
  ⟨_, rfl, .ite (fun _ => Framed.rfl.quiet (emit_within ..) rfl rfl) fun _ => .rfl⟩

/-- The parts that an SPDM session may change. -/
def spdmParts : Nat := 0x2800000000000000000000000000000000000004000000000000000000000000022

theorem pick_spdmParts (s t : State) : State.pick spdmParts s t = { s with
    regs := t.regs, out := t.out,
    prot := { s.prot with spdm := t.prot.spdm },
    telem := { s.telem with counts := t.telem.counts, bwRead := t.telem.bwRead } } := rfl

theorem spdmSecureSession_framed (p : CmdPath) (ok : Bool) :
    EndsFramed spdmParts [Reg.TELEM_BLK_OVF_OVF] (.spdmSecureSession p ok) := fun _ =>
  ⟨_, rfl, .ite (fun _ => .rfl) fun _ => .ite (fun _ => Framed.rfl.set rfl rfl) fun _ => .ite (fun _ => .rfl) fun _ =>
    Framed.rfl.set rfl rfl⟩

theorem protCntClr_framed (v : Word) : EndsFramed clearParts [Reg.TELEM_BLK_OVF_OVF] (.protCntClr v) := fun _ =>
  ⟨_, rfl, .ite (fun _ => askClear_framed _) fun _ => .rfl⟩

/-- Settles O55: the frame of each command, with what its end adds, is the one that its clause lists. -/
theorem protectionAndErrorFrames : Obligations.ProtectionAndErrorFrames :=
  ⟨fun a => (patrolVisit_framed a).changes pick_patrolParts rfl rfl (by decide),
    patrolPassLate_framed.changes pick_latePassParts rfl rfl (by decide),
    fun a => (errPatrolCfgWrite_framed a).changes pick_endParts rfl rfl (by decide),
    fun a => (errCntClr_framed a).changes pick_clearParts rfl rfl (by decide),
    errLastUncorrLoRead_framed.changes pick_endParts rfl rfl (by decide),
    fun a b c => (scrubRange_framed a b c).changes pick_scrubStartParts rfl rfl (by decide),
    fun a b c => (scrubRangeComplete_framed a b c).changes pick_scrubEndParts rfl rfl (by decide),
    fun a b => (motion_framed a b).changes pick_motionParts rfl rfl (by decide),
    fun a b => (second_framed a b).changes pick_secondParts rfl rfl (by decide),
    fun a b => (motionStatus_framed a b).changes pick_sessionGetParts rfl rfl (by decide),
    fun a => (motionLapse_framed a).changes pick_lapseParts rfl rfl (by decide),
    motionApply_framed.changes pick_applyParts rfl rfl (by decide),
    rekeyPassEnd_framed.changes pick_passEndParts rfl rfl (by decide),
    eraseAuthExpiry_framed.changes pick_authExpiryParts rfl rfl (by decide),
    fun a b => (keySlotReunseal_framed a b).changes pick_reunsealParts rfl rfl (by decide),
    fun a b c d e => (ideKeyProg_framed a b c d e).changes pick_ideParts rfl rfl (by decide),
    fun a b c d => (ideKSetGo_framed a b c d).changes pick_ideParts rfl rfl (by decide),
    fun a b c d => (ideKSetStop_framed a b c d).changes pick_ideParts rfl rfl (by decide),
    fun a b => (spdmGetMeasurements_framed a b).changes pick_endParts rfl rfl (by decide),
    fun a => (protCntClr_framed a).changes pick_clearParts rfl rfl (by decide),
    fun a b c => (getScanMediaCapabilities_framed a b c).changes pick_sessionGetParts rfl rfl (by decide),
    fun a b c => (scanMedia_framed a b c).changes pick_scrubStartParts rfl rfl (by decide),
    fun a => (deviceTemperatureCrossing_framed a).changes pick_temperatureParts rfl rfl (by decide),
    fun a b => (spdmSecureSession_framed a b).changes pick_spdmParts rfl rfl (by decide)⟩

end Sys2Proof.Machine
end

section
/-! SUPPORT. What only a motion's effect gives (Table 10-5, R239, R241): the officers, the bindings, the trust anchor
and the motions remembered as Applied. Which operations leave them, by the frame of each. -/

namespace Sys2Proof.Machine

-- One proof at a time: each proof elaborated beside another needs a thread's stack, and the text has a memory limit.
set_option Elab.async false

open Sys2Proof

/-- The officers, the bindings, the trust anchor and the motions remembered as Applied. -/
def Prot.authority (p : Prot) : List KeyName × List (SessKey × Nat) × Nat × List Motion :=
  (p.officers, p.bindings, p.anchor, p.applied)

/-- A change of any other field of protection. -/
@[simp] theorem Prot.authority_mk (p : Prot) {r sl st g ro lc dn sb sx no lo ea ul ta ch rk el ep ide spdm} :
    ({ ranges := r, slots := sl, integState := st, granules := g, roots := ro, lineCounters := lc, dirtyNodes := dn,
       slotBad := sb, slotLost := sx, officers := p.officers, nonces := no, lodged := lo, applied := p.applied,
       bindings := p.bindings, anchor := p.anchor, eraseAuth := ea, unlock := ul, testAccess := ta, challenge := ch,
       rekeys := rk, eraseLeft := el, erasePath := ep, ide := ide, spdm := spdm } : Prot).authority = p.authority := rfl

/-- A frame that lists none of the four parts keeps them. -/
theorem Within.authority {m : Nat} {s t : State} (h : Within m s t)
    (e : ∀ k ∈ [96, 99, 100, 101], m.testBit k = false := by decide) : t.prot.authority = s.prot.authority := by
  simp only [List.forall_mem_cons] at e
  obtain ⟨hofficers, happlied, hbindings, hanchor, -⟩ := e
  simpa only [State.pick, hofficers, happlied, hbindings, hanchor, cond_false, Prot.authority_mk] using
    congrArg (fun u : State => u.prot.authority) h

theorem ended_authority (s u : State) : (s.ended u).prot.authority = u.prot.authority := (settle_within s u).authority

theorem foldl_authority {α : Type} {f : State → α → State}
    (h : ∀ s x, (f s x).prot.authority = s.prot.authority) (l : List α) (s : State) :
    (l.foldl f s).prot.authority = s.prot.authority := by
  induction l generalizing s with
  | nil => rfl
  | cons x l ih => exact (ih _).trans (h s x)

theorem authority_ite {p : List KeyName × List (SessKey × Nat) × Nat × List Motion} {a b : State} {c : Prop}
    [Decidable c] (ha : a.prot.authority = p) (hb : b.prot.authority = p) :
    (if c then a else b).prot.authority = p := by split <;> assumption

/-! ### Operations whose effect their own arguments give -/

@[simp] theorem abortTransfer_authority (s : State) (p : CmdPath) (t0 : Transfer) :
    (s.abortTransfer p t0).prot.authority = s.prot.authority := (abortTransfer_within ..).authority
@[simp] theorem acceptPulse_authority (s : State) :
    s.acceptPulse.prot.authority = s.prot.authority := (acceptPulse_within ..).authority
@[simp] theorem acquire_authority (s : State) (e : Int) :
    (s.acquire e).prot.authority = s.prot.authority := (acquire_within ..).authority
@[simp] theorem actCheck_authority (s : State) :
    s.actCheck.prot.authority = s.prot.authority := (actCheck_within ..).authority
@[simp] theorem actOutcome_authority (s : State) (stroke : Nat) (late : Bool) :
    (s.actOutcome stroke late).prot.authority = s.prot.authority := (actOutcome_within ..).authority
@[simp] theorem activationBack_authority (s : State) :
    s.activationBack.prot.authority = s.prot.authority := (activationBack_within ..).authority
@[simp] theorem activationRecord_authority (s : State) (how : Nat) :
    (s.activationRecord how).prot.authority = s.prot.authority := (activationRecord_within ..).authority
@[simp] theorem adopt_authority (s : State) (epoch : Nat) (l : List IlvRecord) :
    (s.adopt epoch l).prot.authority = s.prot.authority := (adopt_within ..).authority
@[simp] theorem applyAux_authority (s : State) (role : Samples) (pos : BitVec 5) (pfHigh : Bool) (f : FlashReport) :
    (s.applyAux role pos pfHigh f).prot.authority = s.prot.authority := (applyAux_within ..).authority
@[simp] theorem askClear_authority (s : State) (c : Clear) :
    (s.askClear c).prot.authority = s.prot.authority := (askClear_within ..).authority
@[simp] theorem askSlot_authority (s : State) :
    s.askSlot.prot.authority = s.prot.authority := (askSlot_within ..).authority
@[simp] theorem becomeManager_authority (s : State) :
    s.becomeManager.prot.authority = s.prot.authority := (becomeManager_within ..).authority
@[simp] theorem becomeReady_authority (s : State) :
    s.becomeReady.prot.authority = s.prot.authority := (becomeReady_within ..).authority
@[simp] theorem bump_authority (s : State) (f : Field) (n i j : Nat) :
    (s.bump f n i j).prot.authority = s.prot.authority := (bump_within ..).authority
@[simp] theorem capoCreditsBack_authority (s : State) :
    s.capoCreditsBack.prot.authority = s.prot.authority := (capoCreditsBack_within ..).authority
@[simp] theorem capoRecord_authority (s : State) (result us : Nat) (warm : Bool) :
    (s.capoRecord result us warm).prot.authority = s.prot.authority := (capoRecord_within ..).authority
@[simp] theorem chronicle_authority (s : State) (code source sev : Nat) (payload : List Nat) :
    (s.chronicle code source sev payload).prot.authority = s.prot.authority := (chronicle_within ..).authority
@[simp] theorem clearDue_authority (s : State) :
    s.clearDue.prot.authority = s.prot.authority := (clearDue_within ..).authority
@[simp] theorem conflict_authority (s : State) :
    s.conflict.prot.authority = s.prot.authority := (conflict_within ..).authority
@[simp] theorem coordinate_authority (s : State) (x : ShelfAct) (a : Activation) :
    (s.coordinate x a).prot.authority = s.prot.authority := (coordinate_within ..).authority
@[simp] theorem coreBoundary_authority (s : State) :
    s.coreBoundary.prot.authority = s.prot.authority := (coreBoundary_within ..).authority
@[simp] theorem correctedVol_authority (s : State) (r : Region) (address : Nat) :
    (s.correctedVol r address).prot.authority = s.prot.authority := (correctedVol_within ..).authority
@[simp] theorem dirtyAgain_authority (s : State) :
    s.dirtyAgain.prot.authority = s.prot.authority := (dirtyAgain_within ..).authority
@[simp] theorem dropTargets_authority (s : State) (seq : Nat) (l : List Nat) :
    (s.dropTargets seq l).prot.authority = s.prot.authority := (dropTargets_within ..).authority
@[simp] theorem endShelfPoint_authority (s : State) (lost : List Nat) :
    (s.endShelfPoint lost).prot.authority = s.prot.authority := (endShelfPoint_within ..).authority
@[simp] theorem enterPkgUp_authority (s : State) (testEn : Samples) :
    (s.enterPkgUp testEn).prot.authority = s.prot.authority := (enterPkgUp_within ..).authority
@[simp] theorem event_authority (s : State) (l : Log) (r : EventRec) (source : Nat) :
    (s.event l r source).prot.authority = s.prot.authority := (event_within ..).authority
@[simp] theorem flash_authority (s : State) : s.flash.prot.authority = s.prot.authority := (flash_within ..).authority
@[simp] theorem flushAll_authority (s : State) :
    s.flushAll.prot.authority = s.prot.authority := (flushAll_within ..).authority
@[simp] theorem followBeacon_authority (s : State) (b : Beacon) :
    (s.followBeacon b).prot.authority = s.prot.authority := (followBeacon_within ..).authority
@[simp] theorem freeTime_authority (s : State) :
    s.freeTime.prot.authority = s.prot.authority := (freeTime_within ..).authority
@[simp] theorem giveUp_authority (s : State) (c : ShelfCmd) (l : List Nat) :
    (s.giveUp c l).prot.authority = s.prot.authority := (giveUp_within ..).authority
@[simp] theorem imageOpDone_authority (s : State) :
    s.imageOpDone.prot.authority = s.prot.authority := (imageOpDone_within ..).authority
@[simp] theorem learn_authority (s : State) (seq stroke decision : Nat) :
    (s.learn seq stroke decision).prot.authority = s.prot.authority := (learn_within ..).authority
@[simp] theorem linkGone_authority (s : State) (p l : Nat) :
    (s.linkGone p l).prot.authority = s.prot.authority := (linkGone_within ..).authority
@[simp] theorem loadFailed_authority (s : State) (a : Activation) :
    (s.loadFailed a).prot.authority = s.prot.authority := (loadFailed_within ..).authority
@[simp] theorem lockout_authority (s : State) :
    s.lockout.prot.authority = s.prot.authority := (lockout_within ..).authority
@[simp] theorem loseContact_authority (s : State) :
    s.loseContact.prot.authority = s.prot.authority := (loseContact_within ..).authority
@[simp] theorem loseKeys_authority (s : State) (p l : Nat) :
    (s.loseKeys p l).prot.authority = s.prot.authority := (loseKeys_within ..).authority
@[simp] theorem managerHears_authority (s : State) (b : Beacon) :
    (s.managerHears b).prot.authority = s.prot.authority := (managerHears_within ..).authority
@[simp] theorem markFlush_authority (s : State) :
    s.markFlush.prot.authority = s.prot.authority := (markFlush_within ..).authority
@[simp] theorem markedBlocks_authority (s : State) :
    s.markedBlocks.prot.authority = s.prot.authority := (markedBlocks_within ..).authority
@[simp] theorem newCmd_authority (s : State) (msg : ShelfMsg) (bcast : Bool) (left : List Nat) (why : ShelfWhy) :
    (s.newCmd msg bcast left why).prot.authority = s.prot.authority := (newCmd_within ..).authority
@[simp] theorem newOp_authority (s : State) (p : CmdPath) (use : ShelfUse) :
    (s.newOp p use).prot.authority = s.prot.authority := (newOp_within ..).authority
@[simp] theorem opCheck_authority (s : State) (n : Nat) :
    (s.opCheck n).prot.authority = s.prot.authority := (opCheck_within ..).authority
@[simp] theorem openTransfer_authority (s : State) (p : CmdPath) (offset : Nat) (l : List Nat) (h : ImageReport) :
    (s.openTransfer p offset l h).prot.authority = s.prot.authority := (openTransfer_within ..).authority
@[simp] theorem opsCheck_authority (s : State) :
    s.opsCheck.prot.authority = s.prot.authority := (opsCheck_within ..).authority
@[simp] theorem pfTake_authority (s : State) (l : List Bool) :
    (s.pfTake l).prot.authority = s.prot.authority := (pfTake_within ..).authority
@[simp] theorem placeInternal_authority (s : State) (i : Internal) :
    (s.placeInternal i).prot.authority = s.prot.authority := (placeInternal_within ..).authority
@[simp] theorem pmicRefused_authority (s : State) :
    s.pmicRefused.prot.authority = s.prot.authority := (pmicRefused_within ..).authority
@[simp] theorem pointOwn_authority (s : State) :
    s.pointOwn.prot.authority = s.prot.authority := (pointOwn_within ..).authority
@[simp] theorem queuePass_authority (s : State) (r : Rekey) :
    (s.queuePass r).prot.authority = s.prot.authority := (queuePass_within ..).authority
@[simp] theorem railHung_authority (s : State) (r : Nat) (flashAnswers : Bool) :
    (s.railHung r flashAnswers).prot.authority = s.prot.authority := (railHung_within ..).authority
@[simp] theorem raiseDsc_authority (s : State) (m : Marker) :
    (s.raiseDsc m).prot.authority = s.prot.authority := (raiseDsc_within ..).authority
@[simp] theorem rebuild_authority (s : State) :
    s.rebuild.prot.authority = s.prot.authority := (rebuild_within ..).authority
@[simp] theorem refuseStaging_authority (s : State) (fault at_ : Nat) :
    (s.refuseStaging fault at_).prot.authority = s.prot.authority := (refuseStaging_within ..).authority
@[simp] theorem releaseAct_authority (s : State) :
    s.releaseAct.prot.authority = s.prot.authority := (releaseAct_within ..).authority
@[simp] theorem releaseSpare_authority (s : State) :
    s.releaseSpare.prot.authority = s.prot.authority := (releaseSpare_within ..).authority
@[simp] theorem reply_authority (s : State) (p : CmdPath) (rc : Rc) (ext : Nat) (data : List Nat) :
    (s.reply p rc ext data).prot.authority = s.prot.authority := (reply_within ..).authority
@[simp] theorem resetConfig_authority (s : State) (p : Nat) :
    (s.resetConfig p).prot.authority = s.prot.authority := (resetConfig_within ..).authority
@[simp] theorem saveKeep_authority (s : State) :
    s.saveKeep.prot.authority = s.prot.authority := (saveKeep_within ..).authority
@[simp] theorem savePage1_authority (s : State) :
    s.savePage1.prot.authority = s.prot.authority := (savePage1_within ..).authority
@[simp] theorem saveSpread_authority (s : State) :
    s.saveSpread.prot.authority = s.prot.authority := (saveSpread_within ..).authority
@[simp] theorem sendConfig_authority (s : State) (pos : Nat) (why : ShelfWhy) :
    (s.sendConfig pos why).prot.authority = s.prot.authority := (sendConfig_within ..).authority
@[simp] theorem setAct_authority (s : State) (v : Nat) :
    (s.setAct v).prot.authority = s.prot.authority := (setAct_within ..).authority
@[simp] theorem setBit_authority (s : State) (f : Field) (b : Bool) (i j : Nat) :
    (s.setBit f b i j).prot.authority = s.prot.authority := (setBit_within ..).authority
@[simp] theorem setDescr_authority (s : State) (d : Descr) :
    (s.setDescr d).prot.authority = s.prot.authority := (setDescr_within ..).authority
@[simp] theorem setK_authority (s : State) (k : Nat) :
    (s.setK k).prot.authority = s.prot.authority := (setK_within ..).authority
@[simp] theorem setSeq_authority (s : State) (q : SeqState) :
    (s.setSeq q).prot.authority = s.prot.authority := (setSeq_within ..).authority
@[simp] theorem setShelf_authority (s : State) (f : Shelf → Shelf) :
    (s.setShelf f).prot.authority = s.prot.authority := (setShelf_within ..).authority
@[simp] theorem setTime_authority (s : State) (v : Nat) :
    (s.setTime v).prot.authority = s.prot.authority := (setTime_within ..).authority
@[simp] theorem shelfPointTick_authority (s : State) :
    s.shelfPointTick.prot.authority = s.prot.authority := (shelfPointTick_within ..).authority
@[simp] theorem showPhase_authority (s : State) (e : Int) :
    (s.showPhase e).prot.authority = s.prot.authority := (showPhase_within ..).authority
@[simp] theorem showPresence_authority (s : State) (q : PmicReport) :
    (s.showPresence q).prot.authority = s.prot.authority := (showPresence_within ..).authority
@[simp] theorem stagingRead_authority (s : State) (a : Activation) (r : ImageReport) :
    (s.stagingRead a r).prot.authority = s.prot.authority := (stagingRead_within ..).authority
@[simp] theorem stallCount_authority (s : State) :
    s.stallCount.prot.authority = s.prot.authority := (stallCount_within ..).authority
@[simp] theorem standbyTest_authority (s : State) (testEn : Samples) :
    (s.standbyTest testEn).prot.authority = s.prot.authority := (standbyTest_within ..).authority
@[simp] theorem startActivation_authority (s : State) (p : CmdPath) (kind : ActKind) (stroke : Option Nat) :
    (s.startActivation p kind stroke).prot.authority = s.prot.authority := (startActivation_within ..).authority
@[simp] theorem startCopy_authority (s : State) :
    s.startCopy.prot.authority = s.prot.authority := (startCopy_within ..).authority
@[simp] theorem startRelease_authority (s : State) (n : Nat) (us : List Nat) :
    (s.startRelease n us).prot.authority = s.prot.authority := (startRelease_within ..).authority
@[simp] theorem startWarm_authority (s : State) :
    s.startWarm.prot.authority = s.prot.authority := (startWarm_within ..).authority
@[simp] theorem sweepInternal_authority (s : State) :
    s.sweepInternal.prot.authority = s.prot.authority := (sweepInternal_within ..).authority
@[simp] theorem takeConfig_authority (epoch count : Nat) (s : State) :
    (State.takeConfig epoch count s).1.prot.authority = s.prot.authority := (takeConfig_within ..).authority
@[simp] theorem takeEffect_authority (s : State) (a : Activation) :
    (s.takeEffect a).prot.authority = s.prot.authority := (takeEffect_within ..).authority
@[simp] theorem takeGrant_authority (stroke : Nat) (s : State) :
    (State.takeGrant stroke s).1.prot.authority = s.prot.authority := (takeGrant_within ..).authority
@[simp] theorem takeImage_authority (s : State) (row : Nat) (active staging : ImageReport) :
    (s.takeImage row active staging).prot.authority = s.prot.authority := (takeImage_within ..).authority
@[simp] theorem takePersist_authority (seq stroke : Nat) (s : State) :
    (State.takePersist seq stroke s).1.prot.authority = s.prot.authority := (takePersist_within ..).authority
@[simp] theorem takePowerOff_authority (stroke : Nat) (s : State) :
    (State.takePowerOff stroke s).1.prot.authority = s.prot.authority := (takePowerOff_within ..).authority
@[simp] theorem takePowerOn_authority (s : State) :
    s.takePowerOn.1.prot.authority = s.prot.authority := (takePowerOn_within ..).authority
@[simp] theorem takePrepare_authority (seq stroke : Nat) (r : ImageReport) (s : State) :
    (State.takePrepare seq stroke r s).1.prot.authority = s.prot.authority := (takePrepare_within ..).authority
@[simp] theorem takeRecord_authority (epoch index : Nat) (r : IlvRecord) (s : State) :
    (State.takeRecord epoch index r s).1.prot.authority = s.prot.authority := (takeRecord_within ..).authority
@[simp] theorem takeRelease_authority (s : State) :
    s.takeRelease.1.prot.authority = s.prot.authority := (takeRelease_within ..).authority
@[simp] theorem takeStatus_authority (s : State) (f : Status) :
    (s.takeStatus f).prot.authority = s.prot.authority := (takeStatus_within ..).authority
@[simp] theorem takeUnits_authority (s : State) (p : CmdPath) (t0 : Transfer) (offset : Nat) (l : List Nat)
    (h : ImageReport) (last : Bool) :
    (s.takeUnits p t0 offset l h last).prot.authority = s.prot.authority := (takeUnits_within ..).authority
@[simp] theorem telemReject_authority (s : State) :
    s.telemReject.prot.authority = s.prot.authority := (telemReject_within ..).authority
@[simp] theorem telemReply_authority (s : State) (p : CmdPath) (ok : Bool) :
    (s.telemReply p ok).prot.authority = s.prot.authority := (telemReply_within ..).authority
@[simp] theorem telemStroke_authority (s : State) :
    s.telemStroke.prot.authority = s.prot.authority := (telemStroke_within ..).authority
@[simp] theorem testLockout_authority (s : State) :
    s.testLockout.prot.authority = s.prot.authority := (testLockout_within ..).authority
@[simp] theorem toPmics_authority (s : State) (r code data : Nat) :
    (s.toPmics r code data).prot.authority = s.prot.authority := (toPmics_within ..).authority
@[simp] theorem transferRecord_authority (s : State) (what version : Nat) :
    (s.transferRecord what version).prot.authority = s.prot.authority := (transferRecord_within ..).authority
@[simp] theorem transferWritten_authority (s : State) (ok : Bool) (check : Nat) (c : XferCmd) (t0 : Transfer) :
    (s.transferWritten ok check c t0).prot.authority = s.prot.authority := (transferWritten_within ..).authority
@[simp] theorem unsealSlots_authority (s : State) :
    s.unsealSlots.prot.authority = s.prot.authority := (unsealSlots_within ..).authority
@[simp] theorem verifyRoots_authority (s : State) (failed : List Nat) :
    (s.verifyRoots failed).prot.authority = s.prot.authority := (verifyRoots_within ..).authority
@[simp] theorem writeBar2_authority (s : State) (o v : Nat) :
    (s.writeBar2 o v).prot.authority = s.prot.authority := (writeBar2_within ..).authority
@[simp] theorem writeConfig_authority (s : State) (port o v : Nat) :
    (s.writeConfig port o v).prot.authority = s.prot.authority := (writeConfig_within ..).authority
@[simp] theorem writeDecoder_authority (s : State) (d : Decoder) (commit : Bool) :
    (s.writeDecoder d commit).prot.authority = s.prot.authority := (writeDecoder_within ..).authority
@[simp] theorem writeEvt_authority (s : State) (b i : Nat) (c : EvtCfg) :
    (s.writeEvt b i c).1.prot.authority = s.prot.authority := (writeEvt_within ..).authority
@[simp] theorem writePages_authority (s : State) :
    s.writePages.prot.authority = s.prot.authority := (writePages_within ..).authority
@[simp] theorem writeTelemCtrl_authority (s : State) (v : Word) :
    (s.writeTelemCtrl v).prot.authority = s.prot.authority := (writeTelemCtrl_within ..).authority

/-! ### Operations that run a body they are given -/

/-- Every part but the four. -/
def offAuthority : Nat := 0x1ffffffffffffffffffffffffffffffffffffffffffffc6ffffffffffffffffffffffff

theorem within_offAuthority_iff (s t : State) : Within offAuthority s t ↔ t.prot.authority = s.prot.authority := by
  refine ⟨fun h => h.authority, fun h => ?_⟩
  obtain ⟨hofficers, hbindings, hanchor, happlied⟩ : t.prot.officers = s.prot.officers ∧
    t.prot.bindings = s.prot.bindings ∧ t.prot.anchor = s.prot.anchor ∧ t.prot.applied = s.prot.applied := by
    simpa [Prot.authority] using h
  have e : State.pick offAuthority s t = { t with prot := { t.prot with
    officers := s.prot.officers, bindings := s.prot.bindings, anchor := s.prot.anchor,
    applied := s.prot.applied } } := rfl
  unfold Within
  rw [e, ← hofficers, ← hbindings, ← hanchor, ← happlied]

@[simp] theorem command_authority (s : State) (p : CmdPath) (i : Instr) (c : PathClass) (needReady : Bool)
    {f : State → State} (h : ∀ y, (f y).prot.authority = y.prot.authority) :
    (s.command p i c needReady f).prot.authority = s.prot.authority :=
  (within_offAuthority_iff _ _).1
    (command_within s p i c needReady f (by decide) fun y => (within_offAuthority_iff _ _).2 (h y))

@[simp] theorem activateCheck_authority (s : State) (p : CmdPath) (now : Bool) {f : State → State}
    (h : ∀ y, (f y).prot.authority = y.prot.authority) :
    (s.activateCheck p now f).prot.authority = s.prot.authority :=
  (within_offAuthority_iff _ _).1
    (activateCheck_within s p now f (by decide) fun y => (within_offAuthority_iff _ _).2 (h y))

@[simp] theorem ownTransfer_authority (s : State) (p : CmdPath) (slot : Nat) {f : State → Transfer → State}
    (h : ∀ y z, (f y z).prot.authority = y.prot.authority) :
    (s.ownTransfer p slot f).prot.authority = s.prot.authority :=
  (within_offAuthority_iff _ _).1
    (ownTransfer_within s p slot f (by decide) fun y z => (within_offAuthority_iff _ _).2 (h y z))

@[simp] theorem shelfControl_authority (s : State) (p : CmdPath) (i : Instr) {f : State → State}
    (h : ∀ y, (f y).prot.authority = y.prot.authority) :
    (s.shelfControl p i f).prot.authority = s.prot.authority :=
  (within_offAuthority_iff _ _).1
    (shelfControl_within s p i f (by decide) fun y => (within_offAuthority_iff _ _).2 (h y))

@[simp] theorem takeFrame_authority (s : State) (f : Frame) (b : Bool) {run : State → State × Nat}
    (h : ∀ y, (run y).1.prot.authority = y.prot.authority) :
    (s.takeFrame f b run).prot.authority = s.prot.authority :=
  (within_offAuthority_iff _ _).1
    (takeFrame_within s f b run (by decide) fun y => (within_offAuthority_iff _ _).2 (h y))

@[simp] theorem powerUse_authority (s : State) (p : CmdPath) (u : ShelfUse) (m : ShelfMsg) (k : BitVec 32)
    {own : State → State × Nat} (h : ∀ y, (own y).1.prot.authority = y.prot.authority) :
    (s.powerUse p u m k own).prot.authority = s.prot.authority :=
  (within_offAuthority_iff _ _).1
    (powerUse_within s p u m k own (by decide) fun y => (within_offAuthority_iff _ _).2 (h y))

end Sys2Proof.Machine
end

section
/-! SUPPORT. Which commands change the officers, the bindings or the trust anchor (R234, R241, R264, R282), and O44. -/

namespace Sys2Proof.Machine

-- One proof at a time: each proof elaborated beside another needs a thread's stack, and the text has a memory limit.
set_option Elab.async false

open Sys2Proof

/-- The command's own work leaves the officers, the bindings, the trust anchor and the list of Applied motions. -/
def LeavesAuthority (i : Instr) : Prop := ∀ s, ∃ u, exec i s = done s u ∧ u.prot.authority = s.prot.authority

theorem EndsWithin.leavesAuthority {m : Nat} {i : Instr} (h : EndsWithin m i)
    (e : ∀ k ∈ [96, 99, 100, 101], m.testBit k = false := by decide) : LeavesAuthority i := fun s =>
  (h s).imp fun _ hu => ⟨hu.1, hu.2.authority e⟩

theorem EndsFramed.leavesAuthority {m : Nat} {l : List Field} {i : Instr} (h : EndsFramed m l i)
    (e : ∀ k ∈ [96, 99, 100, 101], m.testBit k = false := by decide) : LeavesAuthority i := h.within.leavesAuthority e

/-! ### Commands that look at several parts of the state -/

theorem strokeBoundary_leavesAuthority : LeavesAuthority .strokeBoundary := fun s => by
  refine ⟨_, rfl, authority_ite rfl ?_⟩
  extract_lets on s1 n s2
  have h1 : s1.prot.authority = s.prot.authority := authority_ite (by simp) rfl
  have h2 : s2.prot.authority = s.prot.authority := by simp [s2, h1]
  exact authority_ite (by simp [h2]) h2

theorem perstNAssert_leavesAuthority (port lowNs : Nat) : LeavesAuthority (.perstNAssert port lowNs) := fun s => by
  refine ⟨_, rfl, authority_ite ?_ rfl⟩
  have hgone {t : State} (h : t.prot.authority = s.prot.authority) (link : Nat) :
      (if t.linkUp port link then t.linkGone port link else t).prot.authority = s.prot.authority :=
    authority_ite (by simp [h]) h
  extract_lets s1 s2 s3 s4 p s5
  have h2 : s2.prot.authority = s.prot.authority := hgone (hgone rfl 0) 1
  have h4 : s4.prot.authority = s.prot.authority := by simp [s4, s3, h2]
  clear_value s4
  exact h4

theorem backInvalidateWalkEnd_leavesAuthority : LeavesAuthority .backInvalidateWalkEnd := fun s =>
  ⟨_, rfl, by (repeat' split) <;> simp [apply_ite State.prot, apply_ite Prot.authority]⟩

theorem bandwidthWindowEnd_leavesAuthority : LeavesAuthority .bandwidthWindowEnd := fun s => by
  refine ⟨_, rfl, ?_⟩
  split
  · rfl
  · refine authority_ite rfl ?_
    extract_lets s1 s2
    have h : s1.prot.authority = s.prot.authority := foldl_authority (fun _ _ => by simp) _ s
    clear_value s1
    exact h

theorem commandResend_leavesAuthority (seq : Nat) : LeavesAuthority (.commandResend seq) := fun s => by
  refine ⟨_, rfl, authority_ite rfl ?_⟩
  split
  · rfl
  split
  · rfl
  refine authority_ite rfl (authority_ite ?_ (by simp))
  extract_lets s1 c
  have h : s1.prot.authority = s.prot.authority := foldl_authority (fun _ _ => by simp) _ s
  simp [h]

theorem memberDropout_leavesAuthority (pos : Nat) : LeavesAuthority (.memberDropout pos) := fun s => by
  refine ⟨_, rfl, ?_⟩
  split
  · rfl
  refine authority_ite rfl ?_
  extract_lets s1 l s2 s3
  have h2 : s2.prot.authority = s.prot.authority := (foldl_authority (fun _ _ => by simp) _ s1).trans (by simp [s1])
  have h3 : s3.prot.authority = s.prot.authority := by
    unfold s3
    split
    · split <;> simp [h2]
    · exact h2
  simp [h3]

theorem shelfPersistComplete_leavesAuthority : LeavesAuthority .shelfPersistComplete := fun s => by
  refine ⟨_, rfl, authority_ite rfl ?_⟩
  extract_lets s1
  have h : s1.prot.authority = s.prot.authority := by simp [s1]
  split
  · exact h
  split
  · exact h
  · exact authority_ite (by simp [h]) h

theorem telemWindowRead_leavesAuthority (offset size : Nat) (hbm : HbmErr) :
    LeavesAuthority (.telemWindowRead offset size hbm) := fun s => by
  refine ⟨_, rfl, authority_ite rfl (authority_ite ?_ (by simp))⟩
  extract_lets k s1 x s2
  have h1 : s1.prot.authority = s.prot.authority := by simp [s1]
  have h2 : s2.prot.authority = s.prot.authority := by unfold s2; split <;> exact h1
  simp [h2]

theorem capoFlushComplete_leavesAuthority (us : Nat) : LeavesAuthority (.capoFlushComplete us) := fun s => by
  refine ⟨_, rfl, authority_ite rfl ?_⟩
  extract_lets s1 s2 s3
  have h1 : s1.prot.authority = s.prot.authority := (markFlush_authority _).trans (flushAll_authority s)
  have h2 : s2.prot.authority = s.prot.authority :=
    (congrArg Prot.authority ((wr_prot ..).trans (wr_prot ..))).trans h1
  have h3 : s3.prot.authority = s.prot.authority := (saveSpread_authority _).trans ((capoRecord_authority ..).trans h2)
  exact (saveKeep_authority _).trans h3

/-! ### Every command -/

/-- Every operation that a command is made of leaves what only a motion's effect gives, but for the commands that apply
motions, clear the core domain or read the keep: the rest is within the frame of the command, or is a chain of such
operations behind conditions on the state. -/
theorem leavesAuthority_of_changesAuthority_eq_false {i : Instr} (h : changesAuthority i = false) :
    LeavesAuthority i := by
  cases i with
  | motionApply | auxRemove | pwrfailNQualify | railTurnOn | rampPoll | railRampLimit | servicePoll | decayPoll
  | thermtrip | capoSaveComplete | hbmTrainingComplete | warmResetFlushDone | powerOffStroke => cases h
  | planLock => exact planLock_framed.leavesAuthority
  | syncEpochBoundary => exact syncEpochBoundary_framed.leavesAuthority
  | programResume bank => exact (programResume_framed bank).leavesAuthority
  | readReachScheduler rid t class4 => exact (readReachScheduler_framed rid t class4).leavesAuthority
  | schedCntClr v => exact (schedCntClr_framed v).leavesAuthority
  | schedStrokeLoRead => exact schedStrokeLoRead_framed.leavesAuthority
  | memRd m => exact (memRd_framed m).leavesAuthority
  | memRdData m => exact (memRdData_framed m).leavesAuthority
  | memInv m => exact (memInv_framed m).leavesAuthority
  | memInvNt m => exact (memInvNt_framed m).leavesAuthority
  | memClnEvct m => exact (memClnEvct_framed m).leavesAuthority
  | memSpecRd m class4 => exact (memSpecRd_framed m class4).leavesAuthority
  | memWr m data poison => exact (memWr_framed m data poison).leavesAuthority
  | memWrPtl m data be poison => exact (memWrPtl_framed m data be poison).leavesAuthority
  | biConflict m => exact (biConflict_framed m).leavesAuthority
  | biRsp port link sess line answer => exact (biRsp_framed port link sess line answer).leavesAuthority
  | ideIntegrityFailure port link => exact (ideIntegrityFailure_framed port link).leavesAuthority
  | linkDown port link => exact (linkDown_framed port link).leavesAuthority
  | perstNDeassert port => exact (perstNDeassert_framed port).leavesAuthority
  | linkUp port link rate width flit => exact (linkUp_framed port link rate width flit).leavesAuthority
  | allowanceCheck sess lane parity hbm classF =>
    exact (allowanceCheck_framed sess lane parity hbm classF).leavesAuthority
  | sessionCreate p num w => exact (sessionCreate_framed p num w).leavesAuthority
  | sessionModify p num w => exact (sessionModify_framed p num w).leavesAuthority
  | sessionFence p num => exact (sessionFence_framed p num).leavesAuthority
  | sessionGet p num => exact (sessionGet_framed p num).leavesAuthority
  | fenceDrainEnd sess => exact (fenceDrainEnd_framed sess).leavesAuthority
  | fenceBiTimeout sess line => exact (fenceBiTimeout_framed sess line).leavesAuthority
  | spillRefill sess lane hbm => exact (spillRefill_framed sess lane hbm).leavesAuthority
  | fipenAlert chan => exact (fipenAlert_framed chan).leavesAuthority
  | readStatusResponse chan st => exact (readStatusResponse_framed chan st).leavesAuthority
  | readStatusNoResponse chan => exact (readStatusNoResponse_framed chan).leavesAuthority
  | fipenTrainingStepLimit chan step => exact (fipenTrainingStepLimit_framed chan step).leavesAuthority
  | fipenTrainingComplete results => exact (fipenTrainingComplete_framed results).leavesAuthority
  | fastRetrainComplete chan ok => exact (fastRetrainComplete_framed chan ok).leavesAuthority
  | mediaReadComplete job t err integ class4 =>
    exact (mediaReadComplete_framed job t err integ class4).leavesAuthority
  | reconstructionComplete job t err integ => exact (reconstructionComplete_framed job t err integ).leavesAuthority
  | programComplete bank => exact (programComplete_framed bank).leavesAuthority
  | exchangeOldLineReturn bank err => exact (exchangeOldLineReturn_framed bank err).leavesAuthority
  | toggleComplete bank => exact (toggleComplete_framed bank).leavesAuthority
  | ageEpochAdvance => exact ageEpochAdvance_framed.leavesAuthority
  | evacuationBlockDone sbn => exact (evacuationBlockDone_framed sbn).leavesAuthority
  | chanCntClr chan v => exact (chanCntClr_framed chan v).leavesAuthority
  | moveStripeCommit tract => exact (moveStripeCommit_framed tract).leavesAuthority
  | liftVerify lpn => exact (liftVerify_framed lpn).leavesAuthority
  | heatHalving => exact heatHalving_framed.leavesAuthority
  | settleBackWalk bucket => exact (settleBackWalk_framed bucket).leavesAuthority
  | settleBackCommit lpn => exact (settleBackCommit_framed lpn).leavesAuthority
  | reclaim course => exact (reclaim_framed course).leavesAuthority
  | reclaimCopyCommit lpn => exact (reclaimCopyCommit_framed lpn).leavesAuthority
  | preconditionComplete sbn failed => exact (preconditionComplete_framed sbn failed).leavesAuthority
  | poolFillTimeout course hot => exact (poolFillTimeout_framed course hot).leavesAuthority
  | blockRecordCheckpoint => exact blockRecordCheckpoint_framed.leavesAuthority
  | xlatMapIdxWrite v => exact (xlatMapIdxWrite_framed v).leavesAuthority
  | xlatSeqLoRead => exact xlatSeqLoRead_framed.leavesAuthority
  | xlatCntClr v => exact (xlatCntClr_framed v).leavesAuthority
  | mergeComplete line => exact (mergeComplete_framed line).leavesAuthority
  | fillReturn line err retry recon integ => exact (fillReturn_framed line err retry recon integ).leavesAuthority
  | mergeCfgWrite v => exact (mergeCfgWrite_framed v).leavesAuthority
  | persistAt p stroke => exact (persistAt_framed p stroke).leavesAuthority
  | persistencePointComplete stroke => exact (persistencePointComplete_framed stroke).leavesAuthority
  | gpfPhase1 port => exact (gpfPhase1_framed port).leavesAuthority
  | gpfPhase2 port => exact (gpfPhase2_framed port).leavesAuthority
  | mergeCntClr v => exact (mergeCntClr_framed v).leavesAuthority
  | mergePointLoRead => exact mergePointLoRead_framed.leavesAuthority
  | sliceFillInstall slice line => exact (sliceFillInstall_framed slice line).leavesAuthority
  | cacheWayCfgWrite slice v => exact (cacheWayCfgWrite_framed slice v).leavesAuthority
  | wayGroupCleaningEnd slice group => exact (wayGroupCleaningEnd_framed slice group).leavesAuthority
  | cacheRcCfgWrite v => exact (cacheRcCfgWrite_framed v).leavesAuthority
  | readCacheProbeReturn rid hbm => exact (readCacheProbeReturn_framed rid hbm).leavesAuthority
  | snoopTimeout sess line => exact (snoopTimeout_framed sess line).leavesAuthority
  | cacheCntClr slice v => exact (cacheCntClr_framed slice v).leavesAuthority
  | cacheRcCntClr v => exact (cacheRcCntClr_framed v).leavesAuthority
  | dirCntClr v => exact (dirCntClr_framed v).leavesAuthority
  | patrolVisit errs => exact (patrolVisit_framed errs).leavesAuthority
  | patrolPassLate => exact patrolPassLate_framed.leavesAuthority
  | freeBlockReprecondition sbn => exact (freeBlockReprecondition_framed sbn).leavesAuthority
  | errPatrolCfgWrite v => exact (errPatrolCfgWrite_framed v).leavesAuthority
  | errCntClr v => exact (errCntClr_framed v).leavesAuthority
  | errLastUncorrLoRead => exact errLastUncorrLoRead_framed.leavesAuthority
  | scrubRange p start length => exact (scrubRange_framed p start length).leavesAuthority
  | scrubRangeComplete how reached errs => exact (scrubRangeComplete_framed how reached errs).leavesAuthority
  | motion p m => exact (motion_framed p m).leavesAuthority
  | second p m => exact (second_framed p m).leavesAuthority
  | motionStatus p m => exact (motionStatus_framed p m).leavesAuthority
  | motionLapse m => exact (motionLapse_framed m).leavesAuthority
  | rekeyPassEnd => exact rekeyPassEnd_framed.leavesAuthority
  | eraseAuthExpiry => exact eraseAuthExpiry_framed.leavesAuthority
  | keySlotReunseal range keepGood => exact (keySlotReunseal_framed range keepGood).leavesAuthority
  | ideKeyProg port link dir keySet key => exact (ideKeyProg_framed port link dir keySet key).leavesAuthority
  | ideKSetGo port link dir keySet => exact (ideKSetGo_framed port link dir keySet).leavesAuthority
  | ideKSetStop port link dir keySet => exact (ideKSetStop_framed port link dir keySet).leavesAuthority
  | spdmGetMeasurements port index => exact (spdmGetMeasurements_framed port index).leavesAuthority
  | protCntClr v => exact (protCntClr_framed v).leavesAuthority
  | keepSlotProgrammed readback => exact (keepSlotProgrammed_framed readback).leavesAuthority
  | keepSectorEraseComplete ok => exact (keepSectorEraseComplete_framed ok).leavesAuthority
  | spreadCounterIncrement which => exact (spreadCounterIncrement_framed which).leavesAuthority
  | chronicleRecordProgrammed readback => exact (chronicleRecordProgrammed_framed readback).leavesAuthority
  | chronicleSectorEraseComplete ok => exact (chronicleSectorEraseComplete_framed ok).leavesAuthority
  | chronicleRunClose code source => exact (chronicleRunClose_framed code source).leavesAuthority
  | keepPageIdxWrite v => exact (keepPageIdxWrite_framed v).leavesAuthority
  | keepCntClr v => exact (keepCntClr_framed v).leavesAuthority
  | chronCntClr v => exact (chronCntClr_framed v).leavesAuthority
  | injectPoison p dpa => exact (injectPoison_framed p dpa).leavesAuthority
  | clearPoison p dpa data => exact (clearPoison_framed p dpa data).leavesAuthority
  | getScanMediaCapabilities p dpa lines => exact (getScanMediaCapabilities_framed p dpa lines).leavesAuthority
  | scanMedia p dpa lines => exact (scanMedia_framed p dpa lines).leavesAuthority
  | sanitize p => exact (sanitize_framed p).leavesAuthority
  | secureErase p => exact (secureErase_framed p).leavesAuthority
  | sanitizeComplete => exact sanitizeComplete_framed.leavesAuthority
  | releaseRange p start length => exact (releaseRange_framed p start length).leavesAuthority
  | releaseRangeComplete => exact releaseRangeComplete_framed.leavesAuthority
  | portCfgWrite port v => exact (portCfgWrite_framed port v).leavesAuthority
  | portCntClr port v => exact (portCntClr_framed port v).leavesAuthority
  | sessCntClr v => exact (sessCntClr_framed v).leavesAuthority
  | sessQCntClr v => exact (sessQCntClr_framed v).leavesAuthority
  | bisnpCreditReturn port link count => exact (bisnpCreditReturn_framed port link count).leavesAuthority
  | mergeBufferLookupReturn rid t hbm => exact (mergeBufferLookupReturn_framed rid t hbm).leavesAuthority
  | deviceTemperatureCrossing tempC => exact (deviceTemperatureCrossing_framed tempC).leavesAuthority
  | spdmSecureSession p ok => exact (spdmSecureSession_framed p ok).leavesAuthority
  | capoFlushComplete us => exact capoFlushComplete_leavesAuthority us
  | strokeBoundary => exact strokeBoundary_leavesAuthority
  | perstNAssert port lowNs => exact perstNAssert_leavesAuthority port lowNs
  | backInvalidateWalkEnd => exact backInvalidateWalkEnd_leavesAuthority
  | bandwidthWindowEnd => exact bandwidthWindowEnd_leavesAuthority
  | commandResend seq => exact commandResend_leavesAuthority seq
  | memberDropout pos => exact memberDropout_leavesAuthority pos
  | shelfPersistComplete => exact shelfPersistComplete_leavesAuthority
  | telemWindowRead offset size hbm => exact telemWindowRead_leavesAuthority offset size hbm
  | addDynamicCapacityResponse | clearEventRecords | getDynamicCapacityExtentList | getEventRecords | getPoisonList
  | initiateDynamicCapacityAdd | releaseDynamicCapacity | requestAbortBackgroundOperation | transferFwAbort
  | transferFwInitiate =>
    exact fun s => ⟨_, rfl, command_authority _ _ _ _ _ fun y => by
      (repeat' split) <;> simp [apply_ite State.prot, apply_ite Prot.authority]⟩
  | activationInDoubt | activationTakeEffect | coordinatedActivation | imageSlotFlashComplete | loadTableComplete
  | offHoldExpiry | registerWrite | shelfFrameDiscard | shlSyncPulse | snapshotRecordWritten =>
    exact fun s => ⟨_, rfl, by
      (repeat' split) <;> simp [apply_ite State.prot, apply_ite Prot.authority]⟩
  | _ => exact fun s => ⟨_, rfl, by simp [foldl_authority, apply_ite State.prot, apply_ite Prot.authority]⟩

/-- Settles O44: only MOTION_APPLY and the power and reset events named apart reach the officers, the bindings or the
trust anchor, and the look that a command's end takes leaves them too. -/
theorem authorityChangesOnlyByMotions : Obligations.AuthorityChangesOnlyByMotions := by
  intro s t hstep hchanged
  unfold step at hstep
  cases hqueue : s.pending with
  | nil =>
    rw [hqueue] at hstep
    cases hstep
    simp at hchanged
  | cons c rest =>
    rw [hqueue] at hstep
    refine ⟨c, rest, rfl, ?_⟩
    by_contra hc
    obtain ⟨u, hu, hleaves⟩ :=
      leavesAuthority_of_changesAuthority_eq_false (Bool.eq_false_of_not_eq_true hc) { s with pending := rest }
    have hend : exec c { s with pending := rest } = .next t := hstep
    rw [hu, done_eq_next_ended] at hend
    cases hend
    have hsame := (ended_authority { s with pending := rest } u).trans hleaves
    simp only [Prot.authority, Prod.mk.injEq] at hsame
    obtain ⟨hofficers, hbindings, hanchor, -⟩ := hsame
    exact hchanged.elim (· hofficers) (Or.elim · (· hbindings) (· hanchor))

end Sys2Proof.Machine
end

section
/-! SUPPORT. The motions remembered as Applied (R239): only a motion's effect adds to them, and it leaves at most 16;
and O47. -/

namespace Sys2Proof.Machine

-- One proof at a time: each proof elaborated beside another needs a thread's stack, and the text has a memory limit.
set_option Elab.async false

open Sys2Proof

/-- A frame that does not list the remembered motions (part 99) keeps them. -/
theorem Within.applied {m : Nat} {s t : State} (h : Within m s t) (e : m.testBit 99 = false := by decide) :
    t.prot.applied = s.prot.applied := h.part (fun u => u.prot.applied) 99 (Eq.refl _) e

/-- At most 16 remembered motions stay at most 16. -/
structure BoundsApplied (s t : State) : Prop where
  bound : s.prot.applied.length ≤ 16 → t.prot.applied.length ≤ 16

namespace BoundsApplied

variable {s t u : State}

theorem rfl : BoundsApplied s s := ⟨id⟩

theorem trans (h : BoundsApplied s t) (g : BoundsApplied t u) : BoundsApplied s u := ⟨fun hs => g.bound (h.bound hs)⟩

theorem of_applied_eq (h : t.prot.applied = s.prot.applied) : BoundsApplied s t := ⟨fun hs => by rwa [h]⟩

theorem of_authority_eq (h : t.prot.authority = s.prot.authority) : BoundsApplied s t :=
  of_applied_eq (congrArg (fun p => p.2.2.2) h)

/-- A change of fields of the record other than the remembered motions. -/
theorem set (h : BoundsApplied s t) (ha : u.prot.applied = t.prot.applied := by rfl) : BoundsApplied s u :=
  h.trans (of_applied_eq ha)

/-- An operation whose parts leave out the remembered motions (part 99). -/
theorem via {m : Nat} (h : BoundsApplied s t) (hw : Within m t u) (hb : m.testBit 99 = false := by decide) :
    BoundsApplied s u := h.trans (of_applied_eq (hw.applied hb))

theorem ite {c : Prop} [Decidable c] (ht : c → BoundsApplied s t) (hu : ¬c → BoundsApplied s u) :
    BoundsApplied s (if c then t else u) := by
  split
  · exact ht ‹_›
  · exact hu ‹_›

theorem foldl {α : Type} {f : State → α → State} (hf : ∀ t x, BoundsApplied t (f t x)) (l : List α)
    (h : BoundsApplied s t) : BoundsApplied s (l.foldl f t) := by
  induction l generalizing t with
  | nil => exact h
  | cons x l ih => exact ih (h.trans (hf t x))

end BoundsApplied

/-! ### A motion's effect -/

/-- No kind of motion reaches the remembered motions through its own effect. -/
@[simp] theorem effect_applied (p : Prot) (l : Lodged) : (p.effect l).applied = p.applied := by
  unfold Prot.effect
  cases l.motion.args with
  | rangeDefine n integ erase imported base size blob => cases integ <;> rfl
  | rangeDelete n erase => cases erase <;> rfl
  | rekey n integ imported blob => dsimp only; split <;> rfl
  | _ => rfl

/-- What a motion's effect starts leaves the remembered motions, and so does its record and its answer: the last 15 of
them stand before the motion that has been applied. -/
theorem applyMotion_applied (s : State) (l : Lodged) :
    (s.applyMotion l).prot.applied = s.prot.applied.drop (s.prot.applied.length - 15) ++ [l.motion] := by
  unfold State.applyMotion
  extract_lets before p kept rest s1 s2 s3
  have h1 : s1.prot.applied = s.prot.applied.drop (s.prot.applied.length - 15) ++ [l.motion] := by
    simp [s1, kept, p]
  have h2 : s2.prot.applied = s1.prot.applied := (bump_within ..).applied.trans (startedBy_within ..).applied
  have h3 : s3.prot.applied = s2.prot.applied := (chronicle_within ..).applied
  have hend : s3.prot.applied = s.prot.applied.drop (s.prot.applied.length - 15) ++ [l.motion] := by rw [h3, h2, h1]
  split
  · exact (reply_within ..).applied.trans hend
  · exact hend

theorem applyMotion_boundsApplied (s : State) (l : Lodged) : BoundsApplied s (s.applyMotion l) :=
  ⟨fun _ => by rw [applyMotion_applied]; simp; omega⟩

/-! ### The commands that change the officers, the bindings or the trust anchor -/

/-- The command's own work leaves at most 16 remembered motions where there were at most 16. -/
def EndsBoundingApplied (i : Instr) : Prop := ∀ s, ∃ u, exec i s = done s u ∧ BoundsApplied s u

theorem motionApply_boundsApplied : EndsBoundingApplied .motionApply := fun _ =>
  ⟨_, rfl, .foldl applyMotion_boundsApplied _ .rfl⟩

theorem auxRemove_boundsApplied : EndsBoundingApplied .auxRemove := fun _ =>
  ⟨_, rfl, .ite (fun _ => BoundsApplied.rfl.via (removeAux_within _)) fun _ => .rfl⟩

theorem pwrfailNQualify_boundsApplied (samples : List Bool) : EndsBoundingApplied (.pwrfailNQualify samples) :=
  fun s => by
  refine ⟨_, rfl, .ite (fun _ => .rfl) fun _ => ?_⟩
  extract_lets s1 pwr s2
  have h1 : BoundsApplied s s1 := ((BoundsApplied.rfl.via (pfTake_within ..)).via (bump_within ..)).via (setBit_within ..)
  have h2 : BoundsApplied s s2 := h1.set
  exact (h2.via (setBit_within ..)).via (pfActs_within _)

theorem railTurnOn_boundsApplied (precheck : RailPoll) : EndsBoundingApplied (.railTurnOn precheck) := fun s => by
  refine ⟨_, rfl, .ite (fun _ => .rfl) fun _ => .ite (fun _ => BoundsApplied.rfl.via (upFail_within ..)) fun _ => ?_⟩
  extract_lets s1 s2
  have h1 : BoundsApplied s s1 := BoundsApplied.rfl.via (showPoll_within ..)
  have h2 : BoundsApplied s s2 := ((h1.via (toPmics_within ..)).via (toPmics_within ..)).via (toPmics_within ..)
  exact .ite (fun _ => h1.via (upFail_within ..)) fun _ => h2.set

theorem rampPoll_boundsApplied (poll : RailPoll) (bootSel : Samples) : EndsBoundingApplied (.rampPoll poll bootSel) :=
  fun s => by
  refine ⟨_, rfl, .ite (fun _ => .rfl) fun _ => .ite (fun _ => BoundsApplied.rfl.via (upFail_within ..)) fun _ => ?_⟩
  extract_lets s1
  have h1 : BoundsApplied s s1 := BoundsApplied.rfl.via (showPoll_within ..)
  exact .ite (fun _ => h1.via (upFail_within ..)) fun _ => .ite (fun _ => h1.set) fun _ =>
    .ite (fun _ => h1.set) fun _ => h1.via (railIsGood_within ..)

theorem railRampLimit_boundsApplied : EndsBoundingApplied .railRampLimit := fun _ =>
  ⟨_, rfl, .ite (fun _ => BoundsApplied.rfl.via (upFail_within ..)) fun _ => .rfl⟩

theorem servicePoll_boundsApplied (polls : List RailPoll) : EndsBoundingApplied (.servicePoll polls) := fun _ =>
  ⟨_, rfl, (BoundsApplied.foldl (fun _ _ => BoundsApplied.rfl.via (servicePollOne_within ..)) _ .rfl).via
    (flash_within _)⟩

theorem decayPoll_boundsApplied (polls : List RailPoll) : EndsBoundingApplied (.decayPoll polls) := fun s => by
  refine ⟨_, rfl, .ite (fun _ => .rfl) fun _ => ?_⟩
  extract_lets s1 p s2
  have h1 : BoundsApplied s s1 := .foldl
    (fun _ _ => (BoundsApplied.rfl.via (showPoll_within ..)).via (watchCollapse_within ..)) _ .rfl
  have h2 : BoundsApplied s s2 := h1.set
  split
  · exact .ite (fun _ => ((h2.via (railOff_within ..)).via (nextDown_within ..)).via (flash_within _)) fun _ =>
      h2.via (flash_within _)
  · exact h2.via (flash_within _)

theorem thermtrip_boundsApplied (tempC : Nat) : EndsBoundingApplied (.thermtrip tempC) := fun _ =>
  ⟨_, rfl, .ite (fun _ => .rfl) fun _ => (BoundsApplied.rfl.via (thermalTrip_within ..)).via (flash_within _)⟩

theorem capoSaveComplete_boundsApplied (pfHigh : Bool) (chronicleRoom : Nat) :
    EndsBoundingApplied (.capoSaveComplete pfHigh chronicleRoom) := fun s => by
  refine ⟨_, rfl, .ite (fun _ => .rfl) fun _ => ?_⟩
  extract_lets s1 pwr merge s2
  have h1 : BoundsApplied s s1 :=
    ((BoundsApplied.rfl.via (closeRuns_within _)).via (saveChronicle_within ..)).via (setBit_within ..)
  have h2 : BoundsApplied s s2 := h1.set
  exact .ite (fun _ => (h2.via (setSeq_within ..)).via (flash_within _)) fun _ => h2.via (powerDown_within ..)

theorem hbmTrainingComplete_boundsApplied (ok : Bool) : EndsBoundingApplied (.hbmTrainingComplete ok) := fun s => by
  refine ⟨_, rfl, .ite (fun _ => .rfl) fun _ => .ite (fun _ => BoundsApplied.rfl.set) fun _ => ?_⟩
  extract_lets n
  exact .ite (fun _ => BoundsApplied.rfl.set) fun _ => BoundsApplied.rfl.via (packageFail_within ..)

theorem powerOffStroke_boundsApplied : EndsBoundingApplied .powerOffStroke := fun s => by
  refine ⟨_, rfl, ?_⟩
  split
  · exact .rfl
  refine .ite (fun _ => .rfl) fun _ => ?_
  extract_lets go pwr s1
  have h1 : BoundsApplied s s1 := BoundsApplied.rfl.set
  exact .ite (fun _ => h1.via (leaveOn_within ..)) fun _ => .ite (fun _ => h1.via (powerDown_within ..)) fun _ => h1

/-- Step W2 applies the motions that are kept, and step W3 keeps the remembered motions over the reset. -/
theorem warmFlushed_boundsApplied (s : State) : BoundsApplied s s.warmFlushed := by
  unfold State.warmFlushed
  extract_lets s1 us s2 s3 loss s4 s5
  have h1 : BoundsApplied s s1 := ((BoundsApplied.rfl.via (flushAll_within _)).via (markFlush_within _)).trans
    (.foldl applyMotion_boundsApplied _ .rfl)
  have h2 : BoundsApplied s s2 := ((h1.via (tick_within _)).via (capoRecord_within ..)).via (saveSpread_within _)
  have h3 : BoundsApplied s s3 := ((h2.via (closeRuns_within _)).via (saveKeep_within _)).via (saveChronicle_within ..)
  have h4 : BoundsApplied s s4 := (h3.via (warmCore_within _)).via (restoreProt_within _)
  have h5 : BoundsApplied s s5 := (h4.via (setBit_within ..)).via (setBit_within ..)
  exact h5.set.via (flash_within _)

theorem warmResetFlushDone_boundsApplied : EndsBoundingApplied .warmResetFlushDone := fun s =>
  ⟨_, rfl, .ite (fun _ => .rfl) fun _ => warmFlushed_boundsApplied s⟩

/-! ### Every command -/

theorem endsBoundingApplied (i : Instr) : EndsBoundingApplied i := by
  cases i with
  | motionApply => exact motionApply_boundsApplied
  | auxRemove => exact auxRemove_boundsApplied
  | pwrfailNQualify samples => exact pwrfailNQualify_boundsApplied samples
  | railTurnOn precheck => exact railTurnOn_boundsApplied precheck
  | rampPoll poll bootSel => exact rampPoll_boundsApplied poll bootSel
  | railRampLimit => exact railRampLimit_boundsApplied
  | servicePoll polls => exact servicePoll_boundsApplied polls
  | decayPoll polls => exact decayPoll_boundsApplied polls
  | thermtrip tempC => exact thermtrip_boundsApplied tempC
  | capoSaveComplete pfHigh chronicleRoom => exact capoSaveComplete_boundsApplied pfHigh chronicleRoom
  | hbmTrainingComplete ok => exact hbmTrainingComplete_boundsApplied ok
  | warmResetFlushDone => exact warmResetFlushDone_boundsApplied
  | powerOffStroke => exact powerOffStroke_boundsApplied
  | _ =>
    exact fun s => (leavesAuthority_of_changesAuthority_eq_false rfl s).imp fun _ hu => ⟨hu.1, .of_authority_eq hu.2⟩

/-- Settles O47: MOTION_APPLY and a warm reset apply motions one at a time, and each leaves at most 16 remembered; every
other command leaves the list as it is. -/
theorem appliedMotionsStayBounded : Obligations.AppliedMotionsStayBounded := by
  intro s t hstep hbound
  unfold step at hstep
  cases hqueue : s.pending with
  | nil =>
    rw [hqueue] at hstep
    cases hstep
    exact hbound
  | cons c rest =>
    rw [hqueue] at hstep
    obtain ⟨u, hu, hbounds⟩ := endsBoundingApplied c { s with pending := rest }
    have hend : exec c { s with pending := rest } = .next t := hstep
    rw [hu, done_eq_next_ended] at hend
    cases hend
    exact (hbounds.trans (.of_authority_eq (ended_authority _ u))).bound hbound

end Sys2Proof.Machine
end

section
/-! SUPPORT. The erase commands (R222, R334): how one starts over the whole device, what becomes of the destroyed-key
marks at the completion of a Sanitize, and O22. -/

namespace Sys2Proof.Machine

-- One proof at a time: each proof elaborated beside another needs a thread's stack, and the text has a memory limit.
set_option Elab.async false

open Sys2Proof

/-! ### Entries of a table after a change -/

variable {α : Type}

theorem Tab.mem_del {t : Tab α} {k : Nat} {e : Nat × α} (h : e ∈ t.del k) : e ∈ t ∧ e.1 ≠ k := by
  induction t with
  | nil => cases h
  | cons x r ih =>
    obtain ⟨j, v⟩ := x
    simp only [Tab.del] at h
    split at h
    · obtain ⟨hmem, hne⟩ := ih h
      exact ⟨List.mem_cons_of_mem _ hmem, hne⟩
    next hj =>
      obtain rfl | h := List.mem_cons.mp h
      · exact ⟨List.mem_cons_self, hj⟩
      · obtain ⟨hmem, hne⟩ := ih h
        exact ⟨List.mem_cons_of_mem _ hmem, hne⟩

theorem Tab.mem_ins {t : Tab α} {k : Nat} {v : α} {e : Nat × α} (h : e ∈ t.ins k v) : e = (k, v) ∨ e ∈ t := by
  induction t with
  | nil => exact .inl (List.mem_singleton.mp h)
  | cons x r ih =>
    simp only [Tab.ins] at h
    split at h
    · exact List.mem_cons.mp h
    · obtain rfl | h := List.mem_cons.mp h
      · exact .inr List.mem_cons_self
      · exact (ih h).imp_right (List.mem_cons_of_mem _)

/-- After a write no entry of its key is left but the one written, whatever the table held. -/
theorem Tab.mem_set [DecidableEq α] {d : α} {t : Tab α} {k : Nat} {v : α} {e : Nat × α} (h : e ∈ t.set d k v) :
    e = (k, v) ∨ (e ∈ t ∧ e.1 ≠ k) := by
  unfold Tab.set at h
  split at h
  · exact .inr (Tab.mem_del h)
  · exact (Tab.mem_ins h).imp_right Tab.mem_del

/-! ### The destroyed-key marks -/

theorem Within.prot {m : Nat} {s t : State} (h : Within m s t)
    (e : ∀ u v, (State.pick m u v).prot = u.prot := by intro u v; rfl) : t.prot = s.prot :=
  (congrArg State.prot h).trans (e s t)

theorem ended_prot (s u : State) : (s.ended u).prot = u.prot := (settle_within s u).prot

@[simp] theorem reply_prot (s : State) (p : CmdPath) (rc : Rc) (ext : Nat) (data : List Nat) :
    (s.reply p rc ext data).prot = s.prot := (reply_within ..).prot

/-- One key slot loses its mark, and its keep page is written (R334). -/
def State.clearMark (s : State) (e : Nat × KeySlot) : State :=
  let k' := { e.2 with destroyed := false, e0 := 0, q0 := 0 }
  ({ s with prot := { s.prot with slots := s.prot.slots.set {} e.1 k' } }).keepWrite (23 + e.1) (.keySlot k')

theorem unmark_eq_foldl (s : State) :
    s.unmark = (s.prot.slots.filter (fun e => e.2.destroyed)).foldl State.clearMark s := rfl

/-- A slot still marked after some marks are cleared was marked before, and is none of those cleared. -/
theorem marked_of_marked_foldl_clearMark {l : List (Nat × KeySlot)} {s : State} {e : Nat × KeySlot}
    (h : e ∈ (l.foldl State.clearMark s).prot.slots) (hmark : e.2.destroyed = true) :
    e ∈ s.prot.slots ∧ ∀ x ∈ l, e.1 ≠ x.1 := by
  induction l generalizing s with
  | nil => exact ⟨h, nofun⟩
  | cons x l ih =>
    obtain ⟨hmem, hne⟩ := ih h
    obtain rfl | ⟨hs, hx⟩ := Tab.mem_set hmem
    · cases hmark
    · exact ⟨hs, List.forall_mem_cons.mpr ⟨hx, hne⟩⟩

theorem unmark_none_marked (s : State) : s.unmark.prot.slots.any (fun e => e.2.destroyed) = false := by
  rw [List.any_eq_false, unmark_eq_foldl]
  intro e he hmark
  obtain ⟨hs, hne⟩ := marked_of_marked_foldl_clearMark he hmark
  exact hne e (List.mem_filter.mpr ⟨hs, hmark⟩) rfl

/-- Nothing of a Sanitize or Secure Erase is left to wait for (R334). -/
structure Sanitized (s : State) : Prop where
  marked : s.prot.slots.any (fun e => e.2.destroyed) = true
  started : s.start.step6 = true
  idle : s.internals.any (fun i => i.group != 0) = false
  blocks : s.prot.eraseLeft.any (fun b => s.xlat.precondQ.contains b) = false

/-- The state in which the marks have been cleared and the keep has been told. -/
def State.sanitized (s : State) : State :=
  (({ s with prot := { s.prot with eraseLeft := [], erasePath := none } }).unmark).flash

theorem sanitized_prot (s : State) : s.sanitized.prot.slots.any (fun e => e.2.destroyed) = false
    ∧ s.sanitized.prot.erasePath = none := by
  have hflash : s.sanitized.prot = (State.unmark _).prot := (flash_within _).prot
  rw [hflash]
  exact ⟨unmark_none_marked _, (unmark_within _).part (fun u => u.prot.erasePath) 108 (Eq.refl _) (by decide)⟩

/-- The command that waits for the end of a Sanitize, if any, is told. -/
def State.eraseAnswered (s : State) (path : Option CmdPath) : State :=
  match path with
  | some p => (s.eraseRecord 1).bgDone p .sanitize .success 0 []
  | none => s

theorem eraseAnswered_prot (s : State) (path : Option CmdPath) : (s.eraseAnswered path).prot = s.prot := by
  cases path with
  | none => rfl
  | some p => exact (bgDone_within ..).prot.trans (eraseRecord_within ..).prot

theorem exec_sanitizeComplete {s : State} (h : Sanitized s) :
    exec .sanitizeComplete s = done s (s.sanitized.eraseAnswered s.prot.erasePath) := by
  obtain ⟨hmarked, hstarted, hidle, hblocks⟩ := h
  refine congrArg (done s) ((if_neg ?_).trans rfl)
  rw [hmarked, hstarted, hidle, hblocks]
  decide

theorem sanitizeComplete_clears {s : State} (h : Sanitized s) : answers .sanitizeComplete s fun t =>
    t.prot.slots.any (fun e => e.2.destroyed) = false ∧ t.prot.erasePath = none ∧ t.pages = s.pages := by
  refine answers_of_eq_done (exec_sanitizeComplete h) ?_
  obtain ⟨hslots, hpath⟩ := sanitized_prot s
  rw [ended_prot, eraseAnswered_prot]
  refine ⟨hslots, hpath, ?_⟩
  have hend : (s.sanitized.eraseAnswered s.prot.erasePath).pages = s.sanitized.pages := by
    unfold State.eraseAnswered
    split <;> simp
  rw [ended_pages, hend]
  simp [State.sanitized]

/-! ### An erase starts (R334) -/

/-- The device-internal write of an erase: every line (R334). -/
def State.eraseJob (s : State) (p : CmdPath) (kind : InternalKind) : Internal :=
  { kind := kind, first := 0, count := s.capLines, path := some p }

/-- An erase that is authorised answers Background Command Started and runs over every line. -/
structure EraseStarted (s t : State) (p : CmdPath) (kind : InternalKind) : Prop where
  runs : t.internals = [s.eraseJob p kind]
  answered : Out.response p .backgroundStarted 0 [] ∈ t.out

theorem EraseStarted.clause {s t : State} {p : CmdPath} {kind : InternalKind} (h : EraseStarted s t p kind) :
    (∃ x, t.internals = [x] ∧ x.kind = kind ∧ x.first = 0 ∧ x.count = s.capLines ∧ x.path = some p)
      ∧ Out.response p .backgroundStarted 0 [] ∈ t.out :=
  ⟨⟨_, h.runs, rfl, rfl, rfl, rfl⟩, h.answered⟩

theorem startErase_starts {s : State} {p : CmdPath} (kind : InternalKind) (bg : Background) {what : Nat}
    (hbusy : s.bgBusy p = false) (hruns : s.eraseRuns = false) (hallowed : s.eraseAllowed what = true) :
    EraseStarted s (s.startErase p kind bg what) p kind := by
  have hnone : s.internals = [] := by
    simp only [State.eraseRuns, Bool.or_eq_false_iff, bne_eq_false_iff_eq] at hruns
    exact hruns.1
  simp only [State.startErase, hbusy, hruns, hallowed, Bool.or_self, Bool.not_true, Bool.false_eq_true, if_false]
  exact ⟨(reply_internals ..).trans (queueInternal_internals _ hnone), response_mem_reply_out ..⟩

theorem startErase_refused {s : State} {p : CmdPath} (kind : InternalKind) (bg : Background) {what : Nat}
    (hbusy : s.bgBusy p = false) (hruns : s.eraseRuns = false) (hallowed : s.eraseAllowed what = false) :
    s.startErase p kind bg what = s.reply p .invalidSecurityState := by
  simp [State.startErase, hbusy, hruns, hallowed]

/-- A command that is heard and starts an erase answers as that erase starts. -/
theorem EraseStarted.ended {s u : State} {p : CmdPath} {kind : InternalKind} {l : List Stored}
    (h : EraseStarted (s.noted l) u p kind) : EraseStarted s (s.ended u) p kind :=
  ⟨(ended_internals ..).trans h.runs, mem_ended_out h.answered⟩

/-- Settles O22: SANITIZE and SECURE_ERASE by the operation that starts either; SANITIZE_COMPLETE by the fold that
clears the marks one by one, each of which leaves no other entry of its slot. -/
theorem eraseCommandsRun : Obligations.EraseCommandsRun := by
  unfold Obligations.EraseCommandsRun
  refine ⟨fun s p h hready hbusy hruns hallowed => ?_, fun s p h hready hbusy hruns hallowed => ?_,
    fun s p h hready hbusy hruns hallowed => ?_,
    fun s hmarked hstarted hidle hblocks => sanitizeComplete_clears ⟨hmarked, hstarted, hidle, hblocks⟩⟩
  · exact answers_of_heard rfl h (fun _ => hready) fun l =>
      (startErase_starts (s := s.noted l) .sanitize .sanitize hbusy hruns hallowed).ended.clause
  · refine answers_of_heard rfl h (fun _ => hready) fun l => ?_
    rw [startErase_refused (s := s.noted l) .sanitize .sanitize hbusy hruns hallowed]
    exact ⟨(ended_internals ..).trans (reply_internals ..), (ended_prot ..).trans (reply_prot ..),
      response_mem_ended_out ..⟩
  · exact answers_of_heard rfl h (fun _ => hready) fun l =>
      (startErase_starts (s := s.noted l) .secureErase .secureErase hbusy hruns hallowed).ended.clause

end Sys2Proof.Machine
end

section
/-! SUPPORT. Key slots, IDE keys and SPDM (R219, R242, R243): what reading an IDE stream and its state gives after each
change of them, and O26. -/

namespace Sys2Proof.Machine

-- One proof at a time: each proof elaborated beside another needs a thread's stack, and the text has a memory limit.
set_option Elab.async false

open Sys2Proof

/-! ### Key slots (R219) -/

theorem keySlotReunseal_clears {s : State} {n : Nat} (good : Bool) (h : s.prot.slotBad.contains n = true) :
    answers (.keySlotReunseal n good) s fun t =>
      n ∉ t.prot.slotBad ∧ t.prot.slotLost = (if good then s.prot.slotLost else s.prot.slotLost ++ [n])
        ∧ t.prot.slots = s.prot.slots := by
  have hrun : (!s.prot.slotBad.contains n) ≠ true := by rw [h]; decide
  refine answers_of_eq_done (congrArg (done s) (if_neg hrun)) ?_
  rw [ended_prot, (wakeAll_within _).prot]
  exact ⟨fun hmem => by simpa using (List.mem_filter.mp hmem).2, rfl, rfl⟩

/-! ### IDE streams -/

@[simp] theorem keys_setKeys (x : IdeStream) (d : IdeDir) (k : IdeKeys) : (x.setKeys d k).keys d = k := by
  cases d <;> rfl

theorem setKeys_tx_of_rx (x : IdeStream) {d : IdeDir} (k : IdeKeys) (h : d = .rx) : (x.setKeys d k).tx = x.tx := by
  rw [h]; rfl

theorem setKeys_rx_of_tx (x : IdeStream) {d : IdeDir} (k : IdeKeys) (h : d = .tx) : (x.setKeys d k).rx = x.rx := by
  rw [h]; rfl

@[simp] theorem setStream_ideStream (s : State) (p l : Nat) (x : IdeStream) : (s.setStream p l x).ideStream p l = x :=
  Tab.get_set_self ..

theorem ideStream_congr {s t : State} (h : t.prot = s.prot) (p l : Nat) : t.ideStream p l = s.ideStream p l := by
  rw [State.ideStream, h]; rfl

@[simp] theorem ended_ideStream (s u : State) (p l : Nat) : (s.ended u).ideStream p l = u.ideStream p l :=
  ideStream_congr (ended_prot ..) p l

@[simp] theorem setIde_ideStream (s : State) (p l v : Nat) : (s.setIde p l v).ideStream p l = s.ideStream p l :=
  ideStream_congr (setIde_within ..).prot p l

/-! ### The IDE state of a link -/

@[simp] theorem setStream_ideState (s : State) (p l : Nat) (x : IdeStream) :
    (s.setStream p l x).ideState p l = s.ideState p l := rfl

/-- `PORT_LINK_STATUS.IDE` is a field of two bits. -/
@[simp] theorem setIde_ideState (s : State) (p l v : Nat) : (s.setIde p l v).ideState p l = v % 4 := by
  unfold State.setIde State.ideState
  split
  · exact rd_wr_self ..
  · exact rd_wr_self ..

/-- The IDE state stands at bit 9 of its register, TELEM_BLK_OVF at bit 0. -/
theorem ideState0_key_ne (p a b : Nat) :
    Reg.PORT_LINK_STATUS0_IDE.key p 0 ≠ Reg.TELEM_BLK_OVF_OVF.key a b := by
  show 32 * (0x100010 + p * 0x10000 + 0 * 0) + 9 ≠ 32 * (0xD01000 + a * 0x100 + b * 0) + 0
  omega

theorem ideState1_key_ne (p a b : Nat) :
    Reg.PORT_LINK_STATUS1_IDE.key p 0 ≠ Reg.TELEM_BLK_OVF_OVF.key a b := by
  show 32 * (0x100014 + p * 0x10000 + 0 * 0) + 9 ≠ 32 * (0xD01000 + a * 0x100 + b * 0) + 0
  omega

theorem ended_ideState (s u : State) (p l : Nat) : (s.ended u).ideState p l = u.ideState p l := by
  unfold State.ideState
  rw [ended_rd s u (ideState0_key_ne p), ended_rd s u (ideState1_key_ne p)]

/-! ### IDE key management (R243) -/

/-- Keys of one direction with one more set programmed. -/
def IdeKeys.program (k : IdeKeys) (n : Nat) (key : KeyName) : IdeKeys :=
  if n = 0 then { k with set0 := some key } else { k with set1 := some key }

theorem exec_ideKeyProg {s : State} {p l n : Nat} (d : IdeDir) (key : KeyName) (hopen : s.ideOpen p l = true)
    (hn : n ≤ 1) : exec (.ideKeyProg p l d n key) s = done s
      (s.setStream p l ((s.ideStream p l).setKeys d (((s.ideStream p l).keys d).program n key))) := by
  refine congrArg (done s) ((if_neg ?_).trans rfl)
  simp [hopen, hn]

theorem ideKeyProg_programs {s : State} {p l n : Nat} (d : IdeDir) (key : KeyName) (hopen : s.ideOpen p l = true)
    (hn : n ≤ 1) : answers (.ideKeyProg p l d n key) s fun t =>
      (n = 0 → (t.ideStream p l).keys d = { (s.ideStream p l).keys d with set0 := some key })
        ∧ (n = 1 → (t.ideStream p l).keys d = { (s.ideStream p l).keys d with set1 := some key })
        ∧ (d = .rx → (t.ideStream p l).tx = (s.ideStream p l).tx) ∧ (d = .tx → (t.ideStream p l).rx = (s.ideStream p l).rx)
        ∧ t.ideState p l = s.ideState p l := by
  refine answers_of_eq_done (exec_ideKeyProg d key hopen hn) ?_
  rw [ended_ideStream, setStream_ideStream, keys_setKeys, ended_ideState]
  exact ⟨fun h => if_pos h, fun h => if_neg (h ▸ Nat.one_ne_zero), setKeys_tx_of_rx _ _, setKeys_rx_of_tx _ _, rfl⟩

/-- The stream in which a set of one direction goes, or in which no set of it does. -/
def State.streamGoing (s : State) (p l : Nat) (d : IdeDir) (n : Option Nat) : IdeStream :=
  (s.ideStream p l).setKeys d { (s.ideStream p l).keys d with going := n }

/-- A direction of the stream goes, and the link is secure once both go. -/
def State.ideGo (s : State) (p l : Nat) (d : IdeDir) (n : Nat) : State :=
  let x := s.streamGoing p l d (some n)
  if x.rx.going.isSome && x.tx.going.isSome then (s.setStream p l x).setIde p l 1 else s.setStream p l x

theorem ideGo_ideStream (s : State) (p l : Nat) (d : IdeDir) (n : Nat) :
    (s.ideGo p l d n).ideStream p l = s.streamGoing p l d (some n) := by
  unfold State.ideGo
  extract_lets x
  split
  · exact (setIde_ideStream ..).trans (setStream_ideStream ..)
  · exact setStream_ideStream ..

theorem exec_ideKSetGo {s : State} {p l n : Nat} (d : IdeDir) (hopen : s.ideOpen p l = true) (hn : n ≤ 1)
    (hhas : ((s.ideStream p l).keys d).has n = true) : exec (.ideKSetGo p l d n) s = done s (s.ideGo p l d n) := by
  refine congrArg (done s) ((if_neg ?_).trans rfl)
  simp [hopen, hn, hhas]

theorem ideKSetGo_goes {s : State} {p l n : Nat} (d : IdeDir) (hopen : s.ideOpen p l = true) (hn : n ≤ 1)
    (hhas : ((s.ideStream p l).keys d).has n = true) : answers (.ideKSetGo p l d n) s fun t =>
      ((t.ideStream p l).keys d).going = some n
        ∧ ((t.ideStream p l).rx.going.isSome = true → (t.ideStream p l).tx.going.isSome = true → t.ideState p l = 1) := by
  refine answers_of_eq_done (exec_ideKSetGo d hopen hn hhas) ?_
  rw [ended_ideStream, ideGo_ideStream, ended_ideState]
  refine ⟨by rw [State.streamGoing, keys_setKeys], fun hrx htx => ?_⟩
  have hboth : s.ideGo p l d n = (s.setStream p l (s.streamGoing p l d (some n))).setIde p l 1 :=
    if_pos (Bool.and_eq_true_iff.mpr ⟨hrx, htx⟩)
  rw [hboth, setIde_ideState]

/-- A direction of the stream ends, and the link is secure no longer. -/
def State.ideStop (s : State) (p l : Nat) (d : IdeDir) : State :=
  let t := s.setStream p l (s.streamGoing p l d none)
  if t.ideState p l = 1 then t.setIde p l 0 else t

theorem ideStop_ideStream (s : State) (p l : Nat) (d : IdeDir) :
    (s.ideStop p l d).ideStream p l = s.streamGoing p l d none := by
  unfold State.ideStop
  extract_lets t
  split
  · exact (setIde_ideStream ..).trans (setStream_ideStream ..)
  · exact setStream_ideStream ..

theorem ideStop_not_secure (s : State) (p l : Nat) (d : IdeDir) : (s.ideStop p l d).ideState p l ≠ 1 := by
  unfold State.ideStop
  extract_lets t
  split
  · simp
  next h => exact h

theorem exec_ideKSetStop {s : State} {p l n : Nat} (d : IdeDir) (hopen : s.ideOpen p l = true)
    (hgoing : ((s.ideStream p l).keys d).going = some n) :
    exec (.ideKSetStop p l d n) s = done s (s.ideStop p l d) := by
  refine congrArg (done s) ((if_neg ?_).trans rfl)
  simp [hopen, hgoing]

theorem ideKSetStop_ends {s : State} {p l n : Nat} (d : IdeDir) (hopen : s.ideOpen p l = true)
    (hgoing : ((s.ideStream p l).keys d).going = some n) : answers (.ideKSetStop p l d n) s fun t =>
      ((t.ideStream p l).keys d).going = none ∧ t.ideState p l ≠ 1 := by
  refine answers_of_eq_done (exec_ideKSetStop d hopen hgoing) ?_
  rw [ended_ideStream, ideStop_ideStream, ended_ideState]
  exact ⟨by rw [State.streamGoing, keys_setKeys], ideStop_not_secure s p l d⟩

/-! ### SPDM (R242, R243) -/

theorem spdmGetMeasurements_answers {s : State} {p i : Nat} (hup : s.ioUp p = true) (h1 : 1 ≤ i) (h6 : i ≤ 6) :
    answers (.spdmGetMeasurements p i) s fun t => Out.spdm p i (s.measured i) ∈ t.out ∧ t.prot = s.prot := by
  have hexec : exec (.spdmGetMeasurements p i) s = done s (s.emit (.spdm p i (s.measured i))) :=
    congrArg (done s) (if_pos (by simp [hup, h1, h6]))
  exact answers_of_eq_done hexec ⟨mem_ended_out (List.mem_append_right _ (List.mem_singleton_self _)), ended_prot ..⟩

/-- The ports with a secure session once the one of a port has been set up, or has ended. -/
def spdmPorts (l : List Nat) (p : Nat) (ok : Bool) : List Nat :=
  if !ok then l.filter (· != p) else if l.contains p then l else l ++ [p]

theorem spdmPorts_contains_self (l : List Nat) (p : Nat) (ok : Bool) : (spdmPorts l p ok).contains p = ok := by
  unfold spdmPorts
  cases ok with
  | false => simp
  | true =>
    rw [Bool.not_true, if_neg Bool.false_ne_true]
    split
    next h => exact h
    · simp

theorem spdmPorts_contains_ne (l : List Nat) {p q : Nat} (ok : Bool) (h : q ≠ p) :
    (spdmPorts l p ok).contains q = l.contains q := by
  unfold spdmPorts
  split
  · simp [List.contains_eq_mem, h]
  · split
    · rfl
    · simp [List.contains_eq_mem, h]

/-- The state with other ports in SPDM secure sessions. -/
def State.setSpdm (s : State) (l : List Nat) : State := { s with prot := { s.prot with spdm := l } }

theorem exec_spdmSecureSession {s : State} {p : CmdPath} (ok : Bool) (hup : s.ioUp p.port = true) :
    exec (.spdmSecureSession p ok) s = done s (s.setSpdm (spdmPorts s.prot.spdm p.port ok)) := by
  have hrun : (!s.ioUp p.port) ≠ true := by rw [hup]; decide
  refine congrArg (done s) ((if_neg hrun).trans ?_)
  unfold spdmPorts
  split
  · rfl
  · split <;> rfl

theorem spdmSecureSession_opens {s : State} {p : CmdPath} (ok : Bool) (hup : s.ioUp p.port = true) :
    answers (.spdmSecureSession p ok) s fun t =>
      (t.prot.spdm.contains p.port = ok) ∧ ∀ q, q ≠ p.port → t.prot.spdm.contains q = s.prot.spdm.contains q := by
  refine answers_of_eq_done (exec_spdmSecureSession ok hup) ?_
  rw [ended_prot]
  exact ⟨spdmPorts_contains_self .., fun _ hq => spdmPorts_contains_ne _ _ hq⟩

/-- Settles O26: one theorem for each command. -/
theorem keySlotsIdeAndSpdm : Obligations.KeySlotsIdeAndSpdm :=
  ⟨fun _ _ good h => keySlotReunseal_clears good h, fun _ _ _ _ d k hopen hn => ideKeyProg_programs d k hopen hn,
    fun _ _ _ _ d hopen hn hhas => ideKSetGo_goes d hopen hn hhas,
    fun _ _ _ _ d hopen hgoing _ => ideKSetStop_ends d hopen hgoing,
    fun _ _ _ hup h1 h6 => spdmGetMeasurements_answers hup h1 h6,
    fun _ _ ok hup => spdmSecureSession_opens ok hup⟩

end Sys2Proof.Machine
end

section
/-! SUPPORT. What a motion's operations leave in the transcript, which only grows. -/

namespace Sys2Proof.Machine

-- One proof at a time: each proof elaborated beside another needs a thread's stack, and the text has a memory limit.
set_option Elab.async false

open Sys2Proof

/-- What one of the operations of a fold sends, in whatever state it runs, the fold sends. -/
theorem mem_foldl_out {α : Type} {f : State → α → State} (hgrow : ∀ s x, s.out <+: (f s x).out) {o : Out} {x : α}
    (hsend : ∀ s, o ∈ (f s x).out) {l : List α} (hx : x ∈ l) (s : State) : o ∈ (l.foldl f s).out := by
  induction l generalizing s with
  | nil => cases hx
  | cons y l ih =>
    obtain rfl | hx := List.mem_cons.mp hx
    · exact (foldl_out_prefix hgrow l _).subset (hsend s)
    · exact ih hx _

/-! ### Snoops and device-internal writes -/

theorem foldl_fst_out_prefix {α β : Type} {f : State × β → α → State × β}
    (h : ∀ p x, p.1.out <+: (f p x).1.out) (l : List α) (p : State × β) : p.1.out <+: (l.foldl f p).1.out := by
  induction l generalizing p with
  | nil => exact List.prefix_rfl
  | cons x l ih => exact (h p x).trans (ih _)

theorem sendSnoops_out_prefix (s : State) (x : Snoop) : s.out <+: (s.sendSnoops x).1.out := by
  refine foldl_fst_out_prefix (fun p n => ?_) _ (s, x)
  obtain ⟨u, y⟩ := p
  dsimp only
  split
  · exact List.prefix_rfl
  · exact List.prefix_append ..

theorem startSnoop_out_prefix (s : State) (line op : Nat) (why : SnoopWhy) (targets : List Nat) (bcast : Bool) :
    s.out <+: (s.startSnoop line op why targets bcast).out := by
  unfold State.startSnoop
  extract_lets s1
  have h1 : s1.out = s.out := by
    unfold s1
    split <;> rfl
  have h2 := sendSnoops_out_prefix s1 { line := line, op := op, why := why, waiting := targets, unsent := targets }
  rw [h1] at h2
  generalize s1.sendSnoops _ = sent at h2 ⊢
  obtain ⟨u, x⟩ := sent
  dsimp only
  split
  · exact h2
  · exact h2

theorem sweepInternal_out_prefix (s : State) : s.out <+: s.sweepInternal.out := by
  unfold State.sweepInternal
  split
  · exact List.prefix_rfl
  · extract_lets s1 lines
    have h1 : s.out <+: s1.out := by
      refine foldl_out_prefix (fun u e => ?_) ..
      split
      · exact List.prefix_rfl
      · split
        · exact (dropHost_within ..).out_prefix (by decide)
        · exact startSnoop_out_prefix ..
    exact h1.trans ((sliceCount_within _).out_prefix (by decide))

theorem queueInternal_out_prefix (s : State) (i : Internal) : s.out <+: (s.queueInternal i).out := by
  unfold State.queueInternal
  extract_lets first s1
  split
  · exact sweepInternal_out_prefix s1
  · exact List.prefix_rfl

theorem queueRelease_out_prefix (s : State) (base size : Nat) : s.out <+: (s.queueRelease base size).out :=
  queueInternal_out_prefix ..

theorem queuePass_out_prefix (s : State) (r : Rekey) : s.out <+: (s.queuePass r).out := by
  unfold State.queuePass
  extract_lets lines i
  exact queueInternal_out_prefix { s with prot := { s.prot with rekeys := s.prot.rekeys ++ [r] } } i

/-! ### Motions that take effect -/

theorem startedBy_out_prefix (s : State) (before : Tab RangeDef) (a : MotionArgs) :
    s.out <+: (s.startedBy before a).out := by
  cases a with
  | officerSet keys =>
    dsimp only [State.startedBy]
    rw [(bump_within ..).out (by decide)]
    split
    · exact List.prefix_rfl
    · exact List.prefix_rfl
  | rangeDefine n integ erase imported base size blob =>
    dsimp only [State.startedBy]
    split
    · exact queueRelease_out_prefix ..
    · exact queuePass_out_prefix ..
  | rangeDelete n erase =>
    dsimp only [State.startedBy]
    split
    · exact queueRelease_out_prefix ..
    · exact queuePass_out_prefix ..
  | rekey n integ imported blob => exact queuePass_out_prefix ..
  | bind port kind id range => exact List.prefix_rfl
  | unbind port kind id => exact List.prefix_rfl
  | anchor d => exact List.prefix_rfl
  | factoryUnlock serial challenge good => exact List.prefix_rfl
  | eraseAuth what => exact List.prefix_rfl

/-- Tell the path that waits for a motion, if one does, that it is Applied (R239). -/
def State.tellApplied (s : State) (path : Option CmdPath) : State :=
  match path with
  | some c => s.reply c .success 0 [0, 3]
  | none => s

theorem tellApplied_out_prefix (s : State) (path : Option CmdPath) : s.out <+: (s.tellApplied path).out := by
  cases path with
  | none => exact List.prefix_rfl
  | some c =>
    rw [State.tellApplied, reply_out]
    exact List.prefix_append ..

/-- A motion takes effect, and then its path is told. -/
theorem applyMotion_eq_tellApplied (s : State) (l : Lodged) :
    ∃ u : State, s.out <+: u.out ∧ s.applyMotion l = u.tellApplied l.path := by
  unfold State.applyMotion
  extract_lets before p kept rest s1 s2 s3
  refine ⟨s3, ?_, rfl⟩
  unfold s3 s2
  rw [(chronicle_within ..).out (by decide), (bump_within ..).out (by decide)]
  exact startedBy_out_prefix s1 ..

theorem applyMotion_out_prefix (s : State) (l : Lodged) : s.out <+: (s.applyMotion l).out := by
  obtain ⟨u, hu, happly⟩ := applyMotion_eq_tellApplied s l
  rw [happly]
  exact hu.trans (tellApplied_out_prefix ..)

theorem response_mem_applyMotion_out (s : State) {l : Lodged} {c : CmdPath} (h : l.path = some c) :
    Out.response c .success 0 [0, 3] ∈ (s.applyMotion l).out := by
  obtain ⟨u, -, happly⟩ := applyMotion_eq_tellApplied s l
  rw [happly, h]
  exact response_mem_reply_out ..

/-! ### MOTION_APPLY (R239, R241) -/

theorem motionApply_answers {s : State} {l : Lodged} {c : CmdPath} (hmem : l ∈ s.prot.lodged) (hkept : l.kept = true)
    (hpath : l.path = some c) :
    answers .motionApply s fun t => Out.response c .success 0 [0, 3] ∈ t.out :=
  answers_of_eq_done rfl (mem_ended_out (mem_foldl_out applyMotion_out_prefix
    (fun u => response_mem_applyMotion_out u hpath) (List.mem_filter.mpr ⟨hmem, hkept⟩) s))

theorem motionApply_remembers {s : State} {l : Lodged} (h : s.prot.lodged.filter (·.kept) = [l]) :
    answers .motionApply s fun t =>
      t.prot.applied = s.prot.applied.drop (s.prot.applied.length - 15) ++ [l.motion] := by
  have hexec : exec .motionApply s = done s (s.applyMotion l) := by
    show done s ((s.prot.lodged.filter (·.kept)).foldl (fun s l => s.applyMotion l) s) = _
    rw [h]
    rfl
  refine answers_of_eq_done hexec ?_
  rw [ended_prot, applyMotion_applied]

end Sys2Proof.Machine
end

section
/-! SUPPORT. How a motion stands and what a SECOND answers (R237 to R239, Tables 10-6 and 15-3), and O50. -/

namespace Sys2Proof.Machine

-- One proof at a time: each proof elaborated beside another needs a thread's stack, and the text has a memory limit.
set_option Elab.async false

open Sys2Proof

/-! ### The state of a motion -/

theorem motionState_of_lodged {s : State} {m : Motion} {l : Lodged} (h : s.findLodged m = some l) :
    s.motionState m = if l.group = 0 then 1 else 2 := by
  rw [State.motionState, h]

theorem motionState_of_not_lodged {s : State} {m : Motion} (h : s.findLodged m = none) :
    s.motionState m = if m ∈ s.prot.applied then 3 else 0 := by
  rw [State.motionState, h]
  simp

theorem motionState_congr {s t : State} (h : t.prot = s.prot) (m : Motion) : t.motionState m = s.motionState m := by
  simp only [State.motionState, State.findLodged, h]

theorem motion_of_findLodged {s : State} {m : Motion} {l : Lodged} (h : s.findLodged m = some l) : l.motion = m := by
  simpa using List.find?_some h

/-- The state code that MOTION_STATUS answers: a motion that is applying shows as unknown. -/
def State.statusCode (s : State) (m : Motion) : Nat := if s.motionState m = 2 then 0 else s.motionState m

theorem motionStatus_answers {s : State} {p : CmdPath} {m : Motion} (h : heard s p (.motionStatus p m) .mgmt) :
    answers (.motionStatus p m) s fun t => Out.response p .success 0 [0, s.statusCode m] ∈ t.out :=
  answers_of_heard rfl h nofun fun l => response_mem_ended_out s (s.noted l) ..

theorem motionStatus_tells {s : State} {p : CmdPath} {m : Motion} (h : heard s p (.motionStatus p m) .mgmt) :
    answers (.motionStatus p m) s fun t =>
      (∀ l, s.findLodged m = some l → l.group = 0 → Out.response p .success 0 [0, 1] ∈ t.out)
        ∧ (∀ l, s.findLodged m = some l → l.group ≠ 0 → Out.response p .success 0 [0, 0] ∈ t.out)
        ∧ (s.findLodged m = none → m ∈ s.prot.applied → Out.response p .success 0 [0, 3] ∈ t.out)
        ∧ (s.findLodged m = none → m ∉ s.prot.applied → Out.response p .success 0 [0, 0] ∈ t.out) := by
  obtain ⟨t, hexec, hout⟩ := motionStatus_answers h
  refine ⟨t, hexec, fun l hl hgroup => ?_, fun l hl hgroup => ?_, fun hnone hmem => ?_, fun hnone hmem => ?_⟩
  · simpa [State.statusCode, motionState_of_lodged hl, hgroup] using hout
  · simpa [State.statusCode, motionState_of_lodged hl, hgroup] using hout
  · simpa [State.statusCode, motionState_of_not_lodged hnone, hmem] using hout
  · simpa [State.statusCode, motionState_of_not_lodged hnone, hmem] using hout

/-! ### The answer to a SECOND -/

/-- The state in which the answer's reason has been counted (Table 10-9). -/
def State.reasonCounted (s : State) (reason : Nat) : State :=
  if reason = 0 then s
  else if reason = 5 then s.bump Reg.PROT_DUP_CNT
  else (s.wr Reg.PROT_MOTION_REJECT_LAST_REASON reason).bump Reg.PROT_MOTION_REJECT_COUNT

theorem reasonCounted_prot (s : State) (reason : Nat) : (s.reasonCounted reason).prot = s.prot := by
  unfold State.reasonCounted
  split
  · rfl
  · split <;> rfl

/-- A state of 0 asks for the state that the motion is in. -/
theorem motionReply_eq_reply (s : State) (p : CmdPath) (reason : Nat) (m : Motion) (state : Nat) :
    s.motionReply p reason m state = (s.reasonCounted reason).reply p .success 0
      [reason, if state = 0 then s.motionState m else state] := by
  rw [← motionState_congr (reasonCounted_prot s reason) m]
  rfl

/-- The motions that stand against another one. -/
def State.conflicts (s : State) (m : Motion) : Bool :=
  (s.onlyLodged.filter (fun x => !decide (x.motion = m))).any (fun x => motionsConflict x.motion.args m.args)

theorem againReason_of_conflicts {s : State} {m : Motion} (h : s.conflicts m = true) : s.againReason m = 0x06 :=
  if_pos h

theorem againReason_of_bad_args {s : State} {m : Motion} (h : s.conflicts m = false) (hargs : s.argsOk m.args = false) :
    s.againReason m = 0x0A := by
  refine (if_neg (Bool.eq_false_iff.mp h)).trans (if_pos ?_)
  rw [hargs]
  rfl

theorem againReason_of_valid {s : State} {m : Motion} (h : s.conflicts m = false) (hargs : s.argsOk m.args = true) :
    s.againReason m = 0 := by
  refine (if_neg (Bool.eq_false_iff.mp h)).trans (if_neg ?_)
  rw [hargs]
  decide

/-- A SECOND that is heard, whose own checks find nothing, and the motion that it names (R237). -/
structure Seconds (s : State) (p : CmdPath) (m : Second) (l : Lodged) : Prop where
  heard : heard s p (.second p m) .mgmt
  passes : s.secondReason m = 0
  found : s.findLodged m.motion = some l

theorem second_of_reason {s : State} (p : CmdPath) {m : Second} (h : s.secondReason m ≠ 0) :
    s.second p m = s.motionReply p (s.secondReason m) m.motion 0 := if_pos h

/-- A motion that fails a check when its second comes is Refused. -/
theorem second_of_again {s : State} (p : CmdPath) {m : Second} {l : Lodged} (h : s.secondReason m = 0)
    (hl : s.findLodged m.motion = some l) (hagain : s.againReason m.motion ≠ 0) :
    s.second p m = (s.dropMotion m.motion).motionReply p (s.againReason m.motion) m.motion 5 := by
  refine (if_neg (not_not_intro h)).trans ?_
  rw [hl]
  dsimp only
  rw [motion_of_findLodged hl, if_pos hagain]

theorem second_of_valid {s : State} (p : CmdPath) {m : Second} {l : Lodged} (h : s.secondReason m = 0)
    (hl : s.findLodged m.motion = some l) (hagain : s.againReason m.motion = 0) :
    s.second p m = s.beginApply l m.officer (some p) := by
  refine (if_neg (not_not_intro h)).trans ?_
  rw [hl]
  dsimp only
  rw [motion_of_findLodged hl, if_neg (not_not_intro hagain)]

theorem second_answers_reason {s : State} {p : CmdPath} {m : Second} (h : heard s p (.second p m) .mgmt)
    (hreason : s.secondReason m ≠ 0) :
    answers (.second p m) s fun t => Out.response p .success 0 [s.secondReason m, s.motionState m.motion] ∈ t.out := by
  refine answers_of_heard rfl h nofun fun l => ?_
  rw [second_of_reason (s := s.noted l) p hreason, motionReply_eq_reply]
  exact response_mem_ended_out ..

theorem second_refuses {s : State} {p : CmdPath} {m : Second} {l : Lodged} (h : Seconds s p m l) {reason : Nat}
    (hagain : s.againReason m.motion = reason) (hne : reason ≠ 0) :
    answers (.second p m) s fun t => Out.response p .success 0 [reason, 5] ∈ t.out := by
  subst hagain
  refine answers_of_heard rfl h.heard nofun fun q => ?_
  rw [second_of_again (s := s.noted q) p h.passes h.found hne, motionReply_eq_reply]
  exact response_mem_ended_out ..

/-! ### A motion begins to apply -/

/-- The end of a command sends messages to hosts only. -/
theorem response_mem_of_mem_ended_out {s u : State} {p : CmdPath} {rc : Rc} {ext : Nat} {data : List Nat}
    (h : Out.response p rc ext data ∈ (s.ended u).out) : Out.response p rc ext data ∈ u.out := by
  have hcount : (teleCount s (bwCount s u)).out = u.out :=
    ((teleCount_within s _).out (by decide)).trans ((bwCount_within s u).out (by decide))
  obtain h | h := List.mem_append.mp h
  · rwa [hcount] at h
  · unfold topMessages State.msixAll at h
    split at h
    · obtain ⟨_, -, hmsix⟩ := List.mem_map.mp h
      cases hmsix
    · cases h

theorem beginApply_lodged (s : State) (l : Lodged) (seconder : Nat) (path : Option CmdPath) :
    ∃ x ∈ (s.beginApply l seconder path).prot.lodged, x.motion = l.motion ∧ x.path = path := by
  unfold State.beginApply
  extract_lets key l1 shadow before after nonces s1 l2 rest prot
  refine ⟨l2, ?_, rfl, rfl⟩
  rw [(flash_within _).prot]
  exact List.mem_append_right _ (List.mem_singleton_self _)

theorem second_waits {s : State} {p : CmdPath} {m : Second} {l : Lodged} (h : Seconds s p m l)
    (hagain : s.againReason m.motion = 0) : answers (.second p m) s fun t =>
      (∀ q rc e d, Out.response q rc e d ∈ t.out → Out.response q rc e d ∈ s.out)
        ∧ (∃ x ∈ t.prot.lodged, x.motion = m.motion ∧ x.path = some p) := by
  refine answers_of_heard rfl h.heard nofun fun stored => ?_
  rw [second_of_valid (s := s.noted stored) p h.passes h.found hagain]
  refine ⟨fun q rc e d hout => ?_, ?_⟩
  · have hbegin := response_mem_of_mem_ended_out hout
    rwa [(beginApply_within ..).out (by decide)] at hbegin
  · rw [ended_prot, ← motion_of_findLodged h.found]
    exact beginApply_lodged ..

/-- Settles O50. That a motion refused when its second comes answers its reason with state 5 is the model's reading of
R237 and Tables 10-6 and 15-3 (log 91). -/
theorem secondAndMotionStatusAnswer : Obligations.SecondAndMotionStatusAnswer :=
  ⟨fun _ _ _ h hreason => second_answers_reason h hreason,
    fun _ _ _ _ h hpass hl hargs hfree => second_waits ⟨h, hpass, hl⟩ (againReason_of_valid hfree hargs),
    fun _ _ _ _ h hpass hl hconflict =>
      second_refuses ⟨h, hpass, hl⟩ (againReason_of_conflicts hconflict) (by decide),
    fun _ _ _ _ h hpass hl hargs hfree =>
      second_refuses ⟨h, hpass, hl⟩ (againReason_of_bad_args hfree hargs) (by decide),
    fun _ _ _ hmem hkept hpath => motionApply_answers hmem hkept hpath,
    fun _ _ h => motionApply_remembers h,
    fun _ _ _ h => motionStatus_tells h⟩

end Sys2Proof.Machine
end

section
/-! SUPPORT. The power sequencer's shared operations (R247, R250, R251, R253, R256): the state that it stands in, what a
poll and the writes to a rail's PMICs leave, the indication of good rails, and how a power-down begins and goes on. -/

namespace Sys2Proof.Machine

-- One proof at a time: each proof elaborated beside another needs a thread's stack, and the text has a memory limit.
-- What helps to prove is not compiled: compiled definitions would make the file of the text outgrow that limit.
set_option Elab.async false

open Sys2Proof

/-! ### Parts that a frame does not list -/

theorem Within.pwr {m : Nat} {s t : State} (h : Within m s t)
    (e : ∀ u v, (State.pick m u v).pwr = u.pwr) : t.pwr = s.pwr :=
  (congrArg State.pwr h).trans (e s t)

theorem Within.chron {m : Nat} {s t : State} (h : Within m s t)
    (e : ∀ u v, (State.pick m u v).chron = u.chron) : t.chron = s.chron :=
  (congrArg State.chron h).trans (e s t)

theorem ended_pwr (s u : State) : (s.ended u).pwr = u.pwr := (settle_within s u).pwr fun _ _ => rfl

theorem ended_chron (s u : State) : (s.ended u).chron = u.chron := (settle_within s u).chron fun _ _ => rfl

theorem flash_pwr (s : State) : s.flash.pwr = s.pwr := (flash_within s).pwr fun _ _ => rfl

/-! ### Registers -/

/-- A register that is the only one of its field reads as before after a write of any register apart from it. -/
theorem rd_wr_apart_at {s : State} {f g : Field} {v i j : Nat} (h : g.apartFrom f = true) :
    (s.wr f v i j).rd g = s.rd g := rd_wr_ne s f g v i j 0 0 (Field.key_ne_of_apartFrom h i j)

theorem bit_wr_apart {s : State} {f g : Field} {v : Nat} (h : g.apartFrom f = true) :
    (s.wr f v).bit g = s.bit g := congrArg (· != 0) (rd_wr_apart h)

theorem bit_congr {s t : State} {f : Field} (h : t.rd f = s.rd f) : t.bit f = s.bit f := congrArg (· != 0) h

/-! ### The state of the sequencer (Table 11-4) -/

/-- The sequencer stands in one state. -/
theorem isSeq_eq_false {s : State} {p q : SeqState} (h : s.isSeq p = true) (hne : (p.code == q.code) = false) :
    s.isSeq q = false := (congrArg (· == q.code) (eq_of_beq h)).trans hne

theorem isSeq_wr_apart {s : State} {f : Field} {v i j : Nat} {q : SeqState}
    (h : Reg.PWR_STATUS_STATE.apartFrom f = true) : (s.wr f v i j).isSeq q = s.isSeq q :=
  isSeq_congr (rd_wr_apart_at h) q

theorem chronicle_isSeq (s : State) (code source sev : Nat) (l : List Nat) (q : SeqState) :
    (s.chronicle code source sev l).isSeq q = s.isSeq q := isSeq_congr (rd_chronicle rfl) q

theorem lockout_isSeq (s : State) : s.lockout.isSeq .lockout = true :=
  (isSeq_wr_apart rfl).trans (setSeq_isSeq ..)

theorem lockout_bit (s : State) : s.lockout.bit Reg.PWR_FAULT_LOCKOUT = true := bit_setBit_self

/-- A rail that a phase raises has a number of the phase (Table 11-1). -/
theorem raising_bounds {s : State} {r : Nat} (h : s.raising r = true) : 1 ≤ r ∧ r ≤ 12 := by
  simp only [State.raising, Bool.and_eq_true, Bool.or_eq_true, decide_eq_true_eq] at h
  obtain ⟨-, ⟨⟨-, h1⟩, h8⟩ | ⟨⟨-, h9⟩, h12⟩⟩ := h
  · exact ⟨h1, h8.trans (Nat.le_add_right 8 4)⟩
  · exact ⟨(Nat.le_add_left 1 8).trans h9, h12⟩

/-! ### Polls and PMBus writes (R247) -/

/-- A poll writes its rail's VOUT and IOUT alone. -/
theorem showPoll_rd {s : State} {q : RailPoll} {f : Field}
    (hvout : f.apartFrom Reg.PWR_RAIL_VOUT = true) (hiout : f.apartFrom Reg.PWR_RAIL_IOUT = true) :
    (s.showPoll q).rd f = s.rd f := by
  unfold State.showPoll
  split
  · rfl
  · exact (rd_wr_apart_at hiout).trans (rd_wr_apart_at hvout)

theorem showPoll_pwr (s : State) (q : RailPoll) : (s.showPoll q).pwr = s.pwr := (showPoll_within s q).pwr fun _ _ => rfl

theorem showPoll_isSeq (s : State) (p : RailPoll) (q : SeqState) : (s.showPoll p).isSeq q = s.isSeq q :=
  isSeq_congr (showPoll_rd rfl rfl) q

theorem secondary_congr {s t : State} (ha : t.rd Reg.PWR_PRESENT_A_SEC = s.rd Reg.PWR_PRESENT_A_SEC)
    (hb : t.rd Reg.PWR_PRESENT_B_SEC = s.rd Reg.PWR_PRESENT_B_SEC) (r : Nat) : t.secondary r = s.secondary r := by
  unfold State.secondary
  rw [ha, hb]

theorem showPoll_secondary (s : State) (q : RailPoll) (r : Nat) : (s.showPoll q).secondary r = s.secondary r :=
  secondary_congr (showPoll_rd rfl rfl) (showPoll_rd rfl rfl) r

theorem showPoll_railVolt (s : State) (p q : RailPoll) : (s.showPoll p).railVolt q = s.railVolt q := by
  unfold State.railVolt
  rw [showPoll_secondary]

theorem showPoll_pollFault (s : State) (p q : RailPoll) : (s.showPoll p).pollFault q = s.pollFault q := by
  unfold State.pollFault
  rw [showPoll_secondary]

theorem toPmics_pwr (s : State) (r code data : Nat) : (s.toPmics r code data).pwr = s.pwr :=
  (toPmics_within ..).pwr fun _ _ => rfl

theorem toPmics_rd (s : State) (r code data : Nat) (f : Field) : (s.toPmics r code data).rd f = s.rd f :=
  (toPmics_within ..).rd

theorem toPmics_out_prefix (s : State) (r code data : Nat) : s.out <+: (s.toPmics r code data).out := by
  unfold State.toPmics
  dsimp only
  split
  · exact (List.prefix_append _ _).trans (List.prefix_append _ _)
  · exact List.prefix_append _ _

/-- The primary gets the write. -/
theorem toPmics_out_mem (s : State) (r code data : Nat) :
    Out.pmbus r false code data ∈ (s.toPmics r code data).out := by
  have hprimary : Out.pmbus r false code data ∈ (s.emit (.pmbus r false code data)).out :=
    List.mem_append_right _ (List.mem_singleton_self _)
  unfold State.toPmics
  dsimp only
  split
  · exact List.mem_append_left _ hprimary
  · exact hprimary

/-! ### Rails that are on (Table 11-1) -/

theorem topRail_congr {s t : State} (h : t.pwr.onMask = s.pwr.onMask) : t.topRail = s.topRail := by
  unfold State.topRail State.isOn
  rw [h]

/-- A rail's bit stands in the twelve of a mask of rails. -/
theorem railIndex_lt {r : Nat} (h1 : 1 ≤ r) (h12 : r ≤ 12) : r - 1 < 12 :=
  (Nat.sub_lt h1 Nat.one_pos).trans_le h12

theorem railBit_getLsbD {r : Nat} (h1 : 1 ≤ r) (h12 : r ≤ 12) : (railBit r).getLsbD (r - 1) = true := by
  have hbit : r - 1 < 12 := railIndex_lt h1 h12
  rw [railBit, BitVec.getLsbD_ofNat, Nat.testBit_two_pow_self, Bool.and_true]
  exact decide_eq_true hbit

/-- A rail shown good reads good. -/
theorem setGood_railGood (s : State) {r : Nat} (h1 : 1 ≤ r) (h12 : r ≤ 12) : (s.setGood r true).railGood r = true := by
  have hbit : r - 1 < Reg.PWR_STATUS_RAIL_GOOD.width := railIndex_lt h1 h12
  have hread : ((s.rd Reg.PWR_STATUS_RAIL_GOOD ||| 2 ^ (r - 1)) % 2 ^ Reg.PWR_STATUS_RAIL_GOOD.width).testBit (r - 1)
      = true := by
    rw [Nat.testBit_mod_two_pow, Nat.testBit_or, Nat.testBit_two_pow_self, Bool.or_true, Bool.and_true]
    exact decide_eq_true hbit
  rw [Nat.testBit_eq_decide_div_mod_eq] at hread
  unfold State.railGood State.setGood
  dsimp only
  rw [rd_wr_self]
  exact beq_of_eq (of_decide_eq_true hread)

theorem setGood_rd {s : State} {r : Nat} {b : Bool} {f : Field}
    (h : f.apartFrom Reg.PWR_STATUS_RAIL_GOOD = true) : (s.setGood r b).rd f = s.rd f := rd_wr_apart h

/-! ### A power-down begins (R255, R256) -/

/-- PWR_LAST_DOWN is written anew. -/
noncomputable def State.lastDownShown (s : State) (cause : DownCause) (capo : Bool) : State :=
  ((((s.wr Reg.PWR_LAST_DOWN_CAUSE cause.code).setBit Reg.PWR_LAST_DOWN_CAPO capo).wr Reg.PWR_LAST_DOWN_HUNG_RAIL 0).wr
    Reg.PWR_LAST_DOWN_COLLAPSED 0).wr Reg.PWR_LAST_DOWN_DURATION 0

/-- The registers show that DOWN is entered, and why. -/
noncomputable def State.downShown (s : State) (cause : DownCause) (capo : Bool) : State :=
  let u := (s.closeTransfer.setSeq .down).setBit Reg.TOP_STATUS_READY false
  let u := (u.setBit Reg.PWR_STATUS_SLOT_WAIT false).lastDownShown cause capo
  if cause = .shelf then u.setBit Reg.PWR_EVENT_SHELF_OFF true else u

/-- DOWN is entered, and no rail has been commanded off yet. -/
noncomputable def State.downEntered (s : State) (cause : DownCause) (after : AfterDown) (capo : Bool) : State :=
  let run := if cause = .upFail then s.pwr.pkgRun else if s.isSeq .pkgUp then s.pwr.pkgRun - 1 else 0
  let u := s.downShown cause capo
  let p := { u.pwr with
    ramping := false, goodPolls := 0, cause := cause, after := after, downPolls := 0, dirtySet := false
    fpReset := u.pwr.fpReset || decide (8 < s.topRail), mediaDown := false, mediaWait := false, pkgRun := run }
  { u with pwr := p, start := {}, shelf := { u.shelf with granted := none } }

theorem downShown_onMask (s : State) (cause : DownCause) (capo : Bool) :
    (s.downShown cause capo).pwr.onMask = s.pwr.onMask := by
  have hclosed : s.closeTransfer.pwr = s.pwr := (closeTransfer_within s).pwr fun _ _ => rfl
  unfold State.downShown
  dsimp only
  split <;> exact congrArg Pwr.onMask hclosed

theorem lastDownShown_cause (s : State) (cause : DownCause) (capo : Bool) :
    (s.lastDownShown cause capo).rd Reg.PWR_LAST_DOWN_CAUSE = cause.code := by
  have hfits : cause.code % 2 ^ Reg.PWR_LAST_DOWN_CAUSE.width = cause.code := by cases cause <;> rfl
  exact (rd_wr_apart rfl).trans ((rd_wr_apart rfl).trans ((rd_wr_apart rfl).trans ((rd_wr_apart rfl).trans
    ((rd_wr_self ..).trans hfits))))

/-- The field is apart from those of PWR_LAST_DOWN. -/
noncomputable def Field.apartFromLastDown (f : Field) : Bool :=
  f.apartFrom Reg.PWR_LAST_DOWN_CAUSE && f.apartFrom Reg.PWR_LAST_DOWN_CAPO && f.apartFrom Reg.PWR_LAST_DOWN_HUNG_RAIL
    && f.apartFrom Reg.PWR_LAST_DOWN_COLLAPSED && f.apartFrom Reg.PWR_LAST_DOWN_DURATION

theorem lastDownShown_rd {s : State} {cause : DownCause} {capo : Bool} {f : Field} (hf : f.apartFromLastDown = true) :
    (s.lastDownShown cause capo).rd f = s.rd f := by
  simp only [Field.apartFromLastDown, Bool.and_eq_true] at hf
  obtain ⟨⟨⟨⟨hcause, hcapo⟩, hhung⟩, hcollapsed⟩, hduration⟩ := hf
  exact (rd_wr_apart hduration).trans ((rd_wr_apart hcollapsed).trans ((rd_wr_apart hhung).trans
    ((rd_wr_apart hcapo).trans (rd_wr_apart hcause))))

/-- The mark of a power-down of the shelf is written last. -/
theorem downShown_rd {s : State} {cause : DownCause} {capo : Bool} {f : Field}
    (hf : f.apartFrom Reg.PWR_EVENT_SHELF_OFF = true) : (s.downShown cause capo).rd f =
      ((((s.closeTransfer.setSeq .down).setBit Reg.TOP_STATUS_READY false).setBit Reg.PWR_STATUS_SLOT_WAIT
        false).lastDownShown cause capo).rd f := by
  unfold State.downShown
  dsimp only
  split
  · exact rd_wr_apart hf
  · rfl

theorem downShown_isSeq (s : State) (cause : DownCause) (capo : Bool) : (s.downShown cause capo).isSeq .down = true :=
  (isSeq_congr ((downShown_rd rfl).trans (lastDownShown_rd rfl)) _).trans
    ((isSeq_wr_apart rfl).trans ((isSeq_wr_apart rfl).trans (setSeq_isSeq ..)))

theorem downShown_cause (s : State) (cause : DownCause) (capo : Bool) :
    (s.downShown cause capo).rd Reg.PWR_LAST_DOWN_CAUSE = cause.code :=
  (downShown_rd rfl).trans (lastDownShown_cause ..)

/-- Memory Media Status is no longer Ready. -/
theorem downShown_bit_ready (s : State) (cause : DownCause) (capo : Bool) :
    (s.downShown cause capo).bit Reg.TOP_STATUS_READY = false :=
  (bit_congr ((downShown_rd rfl).trans (lastDownShown_rd rfl))).trans ((bit_wr_apart rfl).trans bit_setBit_self)

/-- No rail has been read collapsed yet. -/
theorem downShown_collapsed (s : State) (cause : DownCause) (capo : Bool) :
    (s.downShown cause capo).rd Reg.PWR_LAST_DOWN_COLLAPSED = 0 :=
  (downShown_rd rfl).trans ((rd_wr_apart rfl).trans (rd_wr_self ..))

theorem downShown_bit_preDirtyOff (s : State) (cause : DownCause) (capo : Bool) :
    (s.downShown cause capo).bit Reg.PWR_EVENT_PRE_DIRTY_OFF = s.bit Reg.PWR_EVENT_PRE_DIRTY_OFF := by
  have hclosed : s.closeTransfer.rd Reg.PWR_EVENT_PRE_DIRTY_OFF = s.rd Reg.PWR_EVENT_PRE_DIRTY_OFF :=
    rd_of_apart (l := [Reg.CHRON_DROP_CNT, Reg.CHRON_REPEAT_CNT]) (closeTransfer_regs s (by decide) (by decide)) rfl
  exact bit_congr ((downShown_rd rfl).trans ((lastDownShown_rd rfl).trans
    ((rd_wr_apart rfl).trans ((rd_wr_apart rfl).trans ((rd_wr_apart rfl).trans hclosed)))))

/-- The rail is commanded off, and no more shown good. -/
noncomputable def State.commandedOff (s : State) (r : Nat) : State :=
  let u := (s.toPmics r 0x01 0x00).setGood r false
  { u with pwr := { u.pwr with rail := r, discharged := false } }

/-- From no rail read collapsed, the highest rail is commanded off first. -/
theorem nextDown_commands {s : State} (n : Nat) (hmedia : s.pwr.mediaDown = false) (htop : s.topRail ≠ 0)
    (hcollapsed : s.rd Reg.PWR_LAST_DOWN_COLLAPSED = 0) : s.nextDown (n + 1) = s.commandedOff s.topRail := by
  have hall : ¬(s.pwr.mediaDown && decide (s.topRail ≤ 8)) = true := by rw [hmedia]; exact Bool.false_ne_true
  have hfell : ¬(s.rd Reg.PWR_LAST_DOWN_COLLAPSED / 2 ^ (s.topRail - 1) % 2 == 1
      && voltOff s.topRail (s.rd Reg.PWR_RAIL_VOUT (s.topRail - 1))) = true := by
    rw [hcollapsed, Nat.zero_div]
    exact Bool.false_ne_true
  exact (if_neg hall).trans ((if_neg htop).trans (if_neg hfell))

/-- DOWN is entered with rails on: the highest is commanded off. -/
theorem powerDown_commands {s : State} (cause : DownCause) (after : AfterDown) (capo : Bool) (htop : s.topRail ≠ 0) :
    s.powerDown cause after capo = (s.downEntered cause after capo).commandedOff s.topRail :=
  have hrail : (s.downEntered cause after capo).topRail = s.topRail := topRail_congr (downShown_onMask s cause capo)
  hrail ▸ nextDown_commands (s := s.downEntered cause after capo) 12 rfl (hrail.symm ▸ htop) (downShown_collapsed ..)

theorem powerDown_rail {s : State} {cause : DownCause} {after : AfterDown} {capo : Bool} (htop : s.topRail ≠ 0) :
    (s.powerDown cause after capo).pwr.rail = s.topRail := by
  rw [powerDown_commands _ _ _ htop]
  rfl

/-- Only the good rails are shown anew as the first rail is commanded off. -/
theorem powerDown_rd {s : State} {cause : DownCause} {after : AfterDown} {capo : Bool} {f : Field}
    (htop : s.topRail ≠ 0) (hf : f.apartFrom Reg.PWR_STATUS_RAIL_GOOD = true) :
    (s.powerDown cause after capo).rd f = (s.downShown cause capo).rd f := by
  rw [powerDown_commands _ _ _ htop]
  exact (setGood_rd hf).trans (toPmics_rd ..)

/-- Whatever rails are on, a power-down keeps its cause and what it leads to. -/
theorem powerDown_pwr (s : State) (cause : DownCause) (after : AfterDown) (capo : Bool) :
    (s.powerDown cause after capo).pwr.after = after ∧ (s.powerDown cause after capo).pwr.cause = cause
      ∧ (s.powerDown cause after capo).pwr.ramping = false :=
  have hdown : Within _ (s.downEntered cause after capo) (s.powerDown cause after capo) := nextDown_within _ 13
  ⟨hdown.part (fun u => u.pwr.after) 21 (Eq.refl _) rfl, hdown.part (fun u => u.pwr.cause) 20 (Eq.refl _) rfl,
    hdown.part (fun u => u.pwr.ramping) 13 (Eq.refl _) rfl⟩

/-! ### Rails go off (R256, R258) -/

theorem isOn_congr {s t : State} (h : t.pwr.onMask = s.pwr.onMask) (r : Nat) : t.isOn r = s.isOn r := by
  unfold State.isOn
  rw [h]

/-- The loss of the core supply at rail 2 leaves the sequencer. -/
theorem railOff_onMask (s : State) (r : Nat) : (s.railOff r).pwr.onMask = s.pwr.onMask &&& ~~~ railBit r := by
  unfold State.railOff
  dsimp only
  split <;> rfl

theorem railOff_isOn_self (s : State) {r : Nat} (h1 : 1 ≤ r) (h12 : r ≤ 12) : (s.railOff r).isOn r = false := by
  rw [State.isOn, railOff_onMask, BitVec.getLsbD_and, BitVec.getLsbD_not, railBit_getLsbD h1 h12]
  exact Bool.and_eq_false_imp.2 fun _ => Bool.and_false _

theorem railOff_isOn_of_off {s : State} {r : Nat} (r' : Nat) (h : s.isOn r = false) :
    (s.railOff r').isOn r = false := by
  rw [State.isOn] at h
  rw [State.isOn, railOff_onMask, BitVec.getLsbD_and, h, Bool.false_and]

theorem ite_isOn_of_off {c : Prop} [Decidable c] {s t : State} {r : Nat} (hs : s.isOn r = false)
    (ht : t.isOn r = false) : (if c then s else t).isOn r = false := by
  split
  · exact hs
  · exact ht

/-- A power-down that goes on commands no rail on. -/
theorem nextDown_isOn_of_off {s : State} {r : Nat} (n : Nat) (h : s.isOn r = false) :
    (s.nextDown n).isOn r = false := by
  induction n generalizing s with
  | zero => exact h
  | succ n ih =>
    refine ite_isOn_of_off ?_ (ite_isOn_of_off ?_ (ite_isOn_of_off (ih (railOff_isOn_of_off _ h)) ?_))
    · exact (isOn_congr ((mediaAllOff_within s).part (fun u => u.pwr.onMask) 11 (Eq.refl _) rfl) r).trans h
    · exact (isOn_congr ((allOff_within s).part (fun u => u.pwr.onMask) 11 (Eq.refl _) rfl) r).trans h
    · have hsent : (s.toPmics s.topRail 0x01 0x00).pwr.onMask = s.pwr.onMask := congrArg Pwr.onMask (toPmics_pwr ..)
      exact (isOn_congr hsent r).trans h

end Sys2Proof.Machine
end

section
/-! SUPPORT. PWRFAIL_N (R250, R254, R255): what the filter makes of samples, what a qualification, a glitch and 100 ms
high leave, and O2. -/

namespace Sys2Proof.Machine

-- One proof at a time: each proof elaborated beside another needs a thread's stack, and the text has a memory limit.
-- What helps to prove is not compiled: compiled definitions would make the file of the text outgrow that limit.
set_option Elab.async false

open Sys2Proof

/-! ### The filter (R254) -/

theorem pfRun_concat (c : Nat) (l : List Bool) (high : Bool) : pfRun c (l ++ [high]) = pfSample (pfRun c l) high :=
  List.foldl_append

/-- A filter back at 0 took a high sample last. -/
theorem getLast?_of_pfRun_zero {c : Nat} {l : List Bool} (hrun : (pfRun c l).1 = 0) (hlows : newLows c l ≠ 0) :
    l.getLast? = some true := by
  obtain rfl | ⟨l', high, rfl⟩ := List.eq_nil_or_concat' l
  · exact absurd rfl hlows
  rw [pfRun_concat] at hrun
  cases high with
  | true => exact List.getLast?_concat
  | false =>
    have hlow : 0 < (pfSample (pfRun c l') false).1 := Nat.lt_min.2 ⟨Nat.succ_pos 199, Nat.succ_pos _⟩
    exact absurd hrun hlow.ne'

theorem pfTake_pwr (s : State) (l : List Bool) :
    (s.pfTake l).pwr = { s.pwr with pfCount := (pfRun s.pwr.pfCount l).1 } := by
  unfold State.pfTake
  dsimp only
  split <;> rfl

/-- The filter shows nothing but the pin. -/
theorem pfTake_rd {s : State} {l : List Bool} {f : Field}
    (hf : f.apartFrom Reg.PWR_STATUS_PF_PIN = true) : (s.pfTake l).rd f = s.rd f :=
  rd_of_apart (pfTake_regs s l (List.mem_singleton_self _)) (Bool.and_eq_true_iff.2 ⟨hf, rfl⟩)

theorem pfTake_pin {s : State} {l : List Bool} {high : Bool} (h : l.getLast? = some high) :
    (s.pfTake l).bit Reg.PWR_STATUS_PF_PIN = high := by
  rw [State.pfTake, h]
  exact bit_setBit_self

/-! ### A qualification (R254, R255) -/

/-- The qualification is counted and latched, and the test of 100 ms high is over. -/
noncomputable def State.pfQualified (s : State) (l : List Bool) : State :=
  let u := ((s.pfTake l).bump Reg.PWR_PF_CNT).setBit Reg.PWR_EVENT_PF_QUAL true
  ({ u with pwr := { u.pwr with high100 := false } }).setBit Reg.PWR_STATUS_PF_LATCH true

theorem exec_pwrfailNQualify {s : State} {l : List Bool} (haux : s.pwr.aux = true)
    (hrun : (pfRun s.pwr.pfCount l).2 = true) :
    exec (.pwrfailNQualify l) s = done s (s.pfQualified l).pfActs :=
  congrArg (done s) (if_neg (by rw [haux, hrun]; exact Bool.false_ne_true))

theorem pfQualified_pwr (s : State) (l : List Bool) :
    (s.pfQualified l).pwr = { s.pwr with pfCount := (pfRun s.pwr.pfCount l).1, high100 := false } :=
  congrArg (fun p : Pwr => { p with high100 := false }) (pfTake_pwr s l)

theorem pfQualified_isSeq (s : State) (l : List Bool) (q : SeqState) : (s.pfQualified l).isSeq q = s.isSeq q := by
  have hqual : (((s.pfTake l).bump Reg.PWR_PF_CNT).setBit Reg.PWR_EVENT_PF_QUAL true).isSeq q = (s.pfTake l).isSeq q :=
    (isSeq_wr_apart rfl).trans (isSeq_wr_apart rfl)
  exact (isSeq_wr_apart rfl).trans (hqual.trans (isSeq_congr (pfTake_rd rfl) q))

theorem pfQualified_count (s : State) (l : List Bool) :
    (s.pfQualified l).rd Reg.PWR_PF_CNT = min (s.rd Reg.PWR_PF_CNT + 1) (2 ^ Reg.PWR_PF_CNT.width - 1) := by
  have hcount : (((s.pfTake l).bump Reg.PWR_PF_CNT).setBit Reg.PWR_EVENT_PF_QUAL true).rd Reg.PWR_PF_CNT
      = min (s.rd Reg.PWR_PF_CNT + 1) (2 ^ Reg.PWR_PF_CNT.width - 1) :=
    (rd_wr_apart rfl).trans ((rd_bump_self ..).trans (by rw [pfTake_rd rfl]))
  exact (rd_wr_apart rfl).trans hcount

theorem pfQualified_bits (s : State) (l : List Bool) :
    (s.pfQualified l).bit Reg.PWR_EVENT_PF_QUAL = true ∧ (s.pfQualified l).bit Reg.PWR_STATUS_PF_LATCH = true := by
  have hqual : (((s.pfTake l).bump Reg.PWR_PF_CNT).setBit Reg.PWR_EVENT_PF_QUAL true).bit Reg.PWR_EVENT_PF_QUAL
      = true := bit_setBit_self
  exact ⟨(bit_setBit_apart rfl).trans hqual, bit_setBit_self⟩

/-- STANDBY has nothing to power down. -/
theorem pfActs_of_standby {s : State} (h : s.isSeq .standby = true) : s.pfActs = s := by
  have hnot {q : SeqState} (hq : (SeqState.standby.code == q.code) = false) : ¬s.isSeq q = true :=
    ne_true_of_eq_false (isSeq_eq_false h hq)
  have hup : ¬(s.isSeq .pkgUp || s.isSeq .pkgOn || s.isSeq .mediaUp) = true := by
    rw [isSeq_eq_false h rfl, isSeq_eq_false h rfl, isSeq_eq_false h rfl]
    exact Bool.false_ne_true
  exact (if_neg (hnot rfl)).trans ((if_neg hup).trans ((if_neg (hnot rfl)).trans (if_neg (hnot rfl))))

theorem pfActs_of_pkgOn {s : State} (h : s.isSeq .pkgOn = true) :
    s.pfActs = (s.setBit Reg.PWR_EVENT_PRE_DIRTY_OFF true).powerDown .pwrfail .offHold false := by
  have hup : (s.isSeq .pkgUp || s.isSeq .pkgOn || s.isSeq .mediaUp) = true := by
    rw [h, Bool.or_true, Bool.true_or]
  exact (if_neg (ne_true_of_eq_false (isSeq_eq_false h rfl))).trans (if_pos hup)

theorem pwrfailNQualify_latches {s : State} {l : List Bool} (haux : s.pwr.aux = true)
    (hrun : (pfRun s.pwr.pfCount l).2 = true) (hseq : s.isSeq .standby = true) :
    answers (.pwrfailNQualify l) s fun t =>
      t.rd Reg.PWR_PF_CNT = min (s.rd Reg.PWR_PF_CNT + 1) (2 ^ Reg.PWR_PF_CNT.width - 1)
        ∧ t.bit Reg.PWR_EVENT_PF_QUAL = true ∧ t.bit Reg.PWR_STATUS_PF_LATCH = true ∧ t.pwr.high100 = false
        ∧ t.isSeq .standby = true := by
  have hstandby : (s.pfQualified l).isSeq .standby = true := (pfQualified_isSeq ..).trans hseq
  obtain ⟨hqual, hlatch⟩ := pfQualified_bits s l
  refine answers_of_eq_done (exec_pwrfailNQualify haux hrun) ?_
  rw [pfActs_of_standby hstandby]
  exact ⟨(ended_rd_apart rfl).trans (pfQualified_count s l), (ended_bit_apart rfl).trans hqual,
    (ended_bit_apart rfl).trans hlatch, congrArg Pwr.high100 ((ended_pwr ..).trans (pfQualified_pwr s l)),
    (ended_isSeq ..).trans hstandby⟩

/-! ### The power-down of PKG_ON (R255, R256) -/

theorem pwrfailNQualify_powersDown {s : State} {l : List Bool} (haux : s.pwr.aux = true)
    (hrun : (pfRun s.pwr.pfCount l).2 = true) (hseq : s.isSeq .pkgOn = true) (htop : s.topRail ≠ 0) :
    answers (.pwrfailNQualify l) s fun t =>
      t.isSeq .down = true ∧ t.rd Reg.PWR_LAST_DOWN_CAUSE = 1 ∧ t.bit Reg.PWR_EVENT_PRE_DIRTY_OFF = true
        ∧ t.pwr.rail = s.topRail ∧ t.bit Reg.TOP_STATUS_READY = false := by
  have hpkgOn : (s.pfQualified l).isSeq .pkgOn = true := (pfQualified_isSeq ..).trans hseq
  have hmask : (s.pfQualified l).pwr.onMask = s.pwr.onMask := by rw [pfQualified_pwr]
  have hrail : ((s.pfQualified l).setBit Reg.PWR_EVENT_PRE_DIRTY_OFF true).topRail = s.topRail :=
    topRail_congr (t := s.pfQualified l) hmask
  refine answers_of_eq_done ((exec_pwrfailNQualify haux hrun).trans (congrArg (done s) (pfActs_of_pkgOn hpkgOn))) ?_
  rw [← hrail] at htop ⊢
  exact ⟨(ended_isSeq ..).trans ((isSeq_congr (powerDown_rd htop rfl) _).trans (downShown_isSeq ..)),
    (ended_rd_apart rfl).trans ((powerDown_rd htop rfl).trans (downShown_cause ..)),
    (ended_bit_apart rfl).trans ((bit_congr (powerDown_rd htop rfl)).trans
      ((downShown_bit_preDirtyOff ..).trans bit_setBit_self)),
    (congrArg Pwr.rail (ended_pwr ..)).trans (powerDown_rail htop),
    (ended_bit_apart rfl).trans ((bit_congr (powerDown_rd htop rfl)).trans (downShown_bit_ready ..))⟩

/-! ### A glitch (R254) -/

theorem exec_pwrfailNGlitch {s : State} {l : List Bool} (haux : s.pwr.aux = true)
    (hrun : pfRun s.pwr.pfCount l = (0, false)) (hlows : newLows s.pwr.pfCount l ≠ 0) :
    exec (.pwrfailNGlitch l) s = done s
      (((s.pfTake l).bump Reg.PWR_GLITCH_CNT (newLows s.pwr.pfCount l)).setBit Reg.PWR_EVENT_PF_GLITCH true) :=
  congrArg (done s) (if_neg (by rw [haux, hrun, beq_false_of_ne hlows]; exact Bool.false_ne_true))

theorem rd_bump_by (s : State) (f : Field) (n : Nat) : (s.bump f n).rd f = min (s.rd f + n) (2 ^ f.width - 1) := by
  have hfits : min (s.rd f + n) (2 ^ f.width - 1) < 2 ^ f.width :=
    (Nat.min_le_right ..).trans_lt (Nat.sub_lt (Nat.two_pow_pos _) Nat.one_pos)
  exact (rd_wr_self ..).trans (Nat.mod_eq_of_lt hfits)

theorem pwrfailNGlitch_counts {s : State} {l : List Bool} (haux : s.pwr.aux = true)
    (hrun : pfRun s.pwr.pfCount l = (0, false)) (hlows : newLows s.pwr.pfCount l ≠ 0) :
    answers (.pwrfailNGlitch l) s fun t =>
      t.rd Reg.PWR_GLITCH_CNT
          = min (s.rd Reg.PWR_GLITCH_CNT + newLows s.pwr.pfCount l) (2 ^ Reg.PWR_GLITCH_CNT.width - 1)
        ∧ t.bit Reg.PWR_EVENT_PF_GLITCH = true ∧ t.bit Reg.PWR_STATUS_PF_PIN = true
        ∧ t.pwr = { s.pwr with pfCount := 0 } ∧ t.keep = s.keep ∧ t.pages = s.pages := by
  have hlast : l.getLast? = some true := getLast?_of_pfRun_zero (congrArg Prod.fst hrun) hlows
  have hpin : (s.pfTake l).bit Reg.PWR_STATUS_PF_PIN = true := pfTake_pin hlast
  have hcount : ((s.pfTake l).bump Reg.PWR_GLITCH_CNT (newLows s.pwr.pfCount l)).rd Reg.PWR_GLITCH_CNT = _ :=
    (rd_bump_by ..).trans (by rw [pfTake_rd rfl])
  have hpwr : (s.pfTake l).pwr = { s.pwr with pfCount := 0 } := by rw [pfTake_pwr, hrun]
  have htaken : Within _ s (s.pfTake l) := pfTake_within s l
  refine answers_of_eq_done (exec_pwrfailNGlitch haux hrun hlows) ?_
  exact ⟨(ended_rd_apart rfl).trans ((rd_wr_apart rfl).trans hcount), (ended_bit_apart rfl).trans bit_setBit_self,
    (ended_bit_apart rfl).trans ((bit_setBit_apart rfl).trans ((bit_wr_apart rfl).trans hpin)),
    (ended_pwr ..).trans hpwr, (ended_keep ..).trans (htaken.keep fun _ _ => rfl),
    (ended_pages ..).trans (htaken.pages rfl)⟩

/-! ### 100 ms high (R250) -/

/-- TEST_EN low leaves STANDBY as it is. -/
theorem standbyTest_of_low (s : State) {x : Samples} (h : x.value = false) : s.standbyTest x = s :=
  if_neg (by rw [h, Bool.and_false, Bool.false_and]; exact Bool.false_ne_true)

theorem exec_pwrfailNHigh100ms {s : State} {x : Samples} (haux : s.pwr.aux = true)
    (hpin : s.bit Reg.PWR_STATUS_PF_PIN = true) (hx : x.value = false) :
    exec (.pwrfailNHigh100ms x) s = done s
      (({ s with pwr := { s.pwr with high100 := true, pfCount := 0 } }).setBit Reg.PWR_STATUS_PF_LATCH false) :=
  congrArg (done s) ((if_neg (by rw [haux, hpin]; exact Bool.false_ne_true)).trans (standbyTest_of_low _ hx))

theorem pwrfailNHigh100ms_clears {s : State} {x : Samples} (haux : s.pwr.aux = true)
    (hpin : s.bit Reg.PWR_STATUS_PF_PIN = true) (hx : x.value = false) :
    answers (.pwrfailNHigh100ms x) s fun t =>
      t.pwr = { s.pwr with high100 := true, pfCount := 0 } ∧ t.bit Reg.PWR_STATUS_PF_LATCH = false := by
  refine answers_of_eq_done (exec_pwrfailNHigh100ms haux hpin hx) ?_
  exact ⟨ended_pwr .., (ended_bit_apart rfl).trans bit_setBit_self⟩

/-! ### O2 -/

/-- Settles O2: the filter's outcomes one by one. A qualification powers PKG_ON down whether or not a transfer is
open. -/
theorem pwrfailFilterActs : Obligations.PwrfailFilterActs :=
  ⟨fun _ _ haux hrun hseq => pwrfailNQualify_latches haux hrun hseq,
    fun _ _ haux hrun hseq htop _ => pwrfailNQualify_powersDown haux hrun hseq htop,
    fun _ _ haux hrun hlows => pwrfailNGlitch_counts haux hrun hlows,
    fun _ _ haux hpin hx => pwrfailNHigh100ms_clears haux hpin hx⟩

end Sys2Proof.Machine
end

section
/-! SUPPORT. Rails come up (R247, R251, R253, R270): how a phase begins, how a rail is commanded on and found good, a
poll in service, and O3. -/

namespace Sys2Proof.Machine

-- One proof at a time: each proof elaborated beside another needs a thread's stack, and the text has a memory limit.
-- What helps to prove is not compiled: compiled definitions would make the file of the text outgrow that limit.
set_option Elab.async false

open Sys2Proof

/-! ### The package phase begins (R251) -/

/-- PKG_UP is entered at rail 1, with TEST_EN low. -/
noncomputable def State.pkgUpEntered (s : State) : State :=
  let u := (s.setBit Reg.TOP_STRAPS_TEST_EN false).setSeq .pkgUp
  let p := { u.pwr with rail := 1, ramping := false, goodPolls := 0, onMask := 0, lastBad := 0
                        pkgRun := u.pwr.pkgRun + 1, mediaStopped := false, mediaWait := false, mediaDown := false
                        cause := .none, dirtySet := false, shelfOff := false, keptOn := false }
  ({ u with pwr := p }).wr Reg.PWR_STATUS_ATTEMPT p.pkgRun

theorem enterPkgUp_of_low (s : State) {x : Samples} (hx : x.value = false) : s.enterPkgUp x = s.pkgUpEntered := by
  have hstay : ¬(x.value && !s.unlocked) = true := by rw [hx]; exact Bool.false_ne_true
  exact (if_neg hstay).trans (by rw [hx]; rfl)

theorem pkgUpEntered_isSeq (s : State) : s.pkgUpEntered.isSeq .pkgUp = true :=
  (isSeq_wr_apart rfl).trans (setSeq_isSeq (s.setBit Reg.TOP_STRAPS_TEST_EN false) .pkgUp)

theorem exec_powerUpPackage {s : State} {x : Samples} (q : PmicReport) (haux : s.pwr.aux = true)
    (hseq : s.isSeq .standby = true) (hrestart : s.mayRestart = true) (hx : x.value = false)
    (hread : s.pwr.pmicRead = true) (hflash : s.bit Reg.KEEP_STATUS_FLASH_OK = true) :
    exec (.powerUpPackage x q) s = done s s.pkgUpEntered := by
  have hstay : ¬(!s.pwr.aux || !s.isSeq .standby || !s.mayRestart) = true := by
    rw [haux, hseq, hrestart]; exact Bool.false_ne_true
  have htest : ¬(x.value && !s.unlocked) = true := by rw [hx]; exact Bool.false_ne_true
  have hused : ¬(!s.bit Reg.KEEP_STATUS_FLASH_OK || (!s.pwr.pmicRead && !pmicsOk q)) = true := by
    rw [hflash, hread]; exact Bool.false_ne_true
  refine congrArg (done s) ((if_neg hstay).trans ((if_neg htest).trans ?_))
  rw [if_pos hread]
  refine (if_neg hused).trans ?_
  rw [if_pos hread]
  exact enterPkgUp_of_low s hx

theorem powerUpPackage_starts {s : State} {x : Samples} (q : PmicReport) (haux : s.pwr.aux = true)
    (hseq : s.isSeq .standby = true) (hrestart : s.mayRestart = true) (hx : x.value = false)
    (hread : s.pwr.pmicRead = true) (hflash : s.bit Reg.KEEP_STATUS_FLASH_OK = true) :
    answers (.powerUpPackage x q) s fun t =>
      t.isSeq .pkgUp = true ∧ t.pwr.rail = 1 ∧ t.pwr.pkgRun = s.pwr.pkgRun + 1 ∧ t.pwr.onMask = 0 := by
  refine answers_of_eq_done (exec_powerUpPackage q haux hseq hrestart hx hread hflash) ?_
  have hpwr : (s.ended s.pkgUpEntered).pwr = s.pkgUpEntered.pwr := ended_pwr ..
  exact ⟨(ended_isSeq ..).trans (pkgUpEntered_isSeq s), congrArg Pwr.rail hpwr, congrArg Pwr.pkgRun hpwr,
    congrArg Pwr.onMask hpwr⟩

/-! ### A rail is commanded on (Table 11-3) -/

/-- CLEAR_FAULTS, VOUT_COMMAND and OPERATION on. -/
noncomputable def State.onCommanded (s : State) (r : Nat) : State :=
  ((s.toPmics r 0x03 0).toPmics r 0x21 (nominal r)).toPmics r 0x01 0x80

theorem onCommanded_pwr (s : State) (r : Nat) : (s.onCommanded r).pwr = s.pwr :=
  (toPmics_pwr ..).trans ((toPmics_pwr ..).trans (toPmics_pwr ..))

/-- The ramp of a commanded rail begins. -/
noncomputable def State.rampStarted (s : State) (r : Nat) : State :=
  { s with pwr := { s.pwr with ramping := true, goodPolls := 0, onMask := s.pwr.onMask ||| railBit r } }

theorem exec_railTurnOn {s : State} {q : RailPoll} (hraising : s.raising q.rail = true)
    (hramping : s.pwr.ramping = false) (hlost : pollLost q = false) (hoff : voltOff q.rail (s.railVolt q) = true) :
    exec (.railTurnOn q) s = done s (((s.showPoll q).onCommanded q.rail).rampStarted q.rail) := by
  have hstay : ¬(!s.raising q.rail || s.pwr.ramping) = true := by rw [hraising, hramping]; exact Bool.false_ne_true
  have hread : ¬(!voltOff q.rail ((s.showPoll q).railVolt q)) = true := by
    rw [showPoll_railVolt, hoff]; exact Bool.false_ne_true
  exact congrArg (done s) ((if_neg hstay).trans ((if_neg (ne_true_of_eq_false hlost)).trans (if_neg hread)))

theorem railTurnOn_starts {s : State} {q : RailPoll} (hraising : s.raising q.rail = true)
    (hramping : s.pwr.ramping = false) (hlost : pollLost q = false) (hoff : voltOff q.rail (s.railVolt q) = true) :
    answers (.railTurnOn q) s fun t =>
      t.pwr = { s.pwr with ramping := true, goodPolls := 0, onMask := s.pwr.onMask ||| railBit q.rail }
        ∧ Out.pmbus q.rail false 0x01 0x80 ∈ t.out ∧ Out.pmbus q.rail false 0x21 (nominal q.rail) ∈ t.out := by
  have hpwr : ((s.showPoll q).onCommanded q.rail).pwr = s.pwr := (onCommanded_pwr ..).trans (showPoll_pwr ..)
  have hstarted : (((s.showPoll q).onCommanded q.rail).rampStarted q.rail).pwr
      = { s.pwr with ramping := true, goodPolls := 0, onMask := s.pwr.onMask ||| railBit q.rail } := by
    rw [State.rampStarted, hpwr]
  have hon : Out.pmbus q.rail false 0x01 0x80 ∈ ((s.showPoll q).onCommanded q.rail).out := toPmics_out_mem ..
  have hvolt : Out.pmbus q.rail false 0x21 (nominal q.rail) ∈ ((s.showPoll q).onCommanded q.rail).out :=
    (toPmics_out_prefix ..).subset (toPmics_out_mem ..)
  refine answers_of_eq_done (exec_railTurnOn hraising hramping hlost hoff) ?_
  exact ⟨(ended_pwr ..).trans hstarted, mem_ended_out hon, mem_ended_out hvolt⟩

/-! ### A rail is good (R251) -/

/-- The rail is shown good, and the phase goes on with the next. -/
noncomputable def State.railPassed (s : State) (r : Nat) : State :=
  { s.setGood r true with pwr := { s.pwr with ramping := false, goodPolls := 0, rail := r + 1 } }

/-- Rails 8 and 12 end a phase; every other rail is followed by the next. -/
theorem railIsGood_eq_railPassed (s : State) {r : Nat} (x : Samples) (h8 : r ≠ 8) (h12 : r ≠ 12) :
    s.railIsGood r x = s.railPassed r := (if_neg h8).trans (if_neg h12)

theorem railGood_congr {s t : State} (h : t.rd Reg.PWR_STATUS_RAIL_GOOD = s.rd Reg.PWR_STATUS_RAIL_GOOD) (r : Nat) :
    t.railGood r = s.railGood r := congrArg (fun m => m / 2 ^ (r - 1) % 2 == 1) h

theorem exec_rampPoll {s : State} {q : RailPoll} (x : Samples) (hraising : s.raising q.rail = true)
    (hramping : s.pwr.ramping = true) (hlost : pollLost q = false) (hfault : s.pollFault q = false)
    (hgood : voltGood q.rail (s.railVolt q) = true) (hpolls : s.pwr.goodPolls ≠ 0) :
    exec (.rampPoll q x) s = done s ((s.showPoll q).railIsGood q.rail x) := by
  have hpolls' : (s.showPoll q).pwr.goodPolls ≠ 0 := (showPoll_pwr s q).symm ▸ hpolls
  have hstay : ¬(!s.raising q.rail || !s.pwr.ramping) = true := by rw [hraising, hramping]; exact Bool.false_ne_true
  have hfault' : (s.showPoll q).pollFault q = false := (showPoll_pollFault ..).trans hfault
  have hgood' : ¬(!voltGood q.rail ((s.showPoll q).railVolt q)) = true := by
    rw [showPoll_railVolt, hgood]; exact Bool.false_ne_true
  exact congrArg (done s) ((if_neg hstay).trans ((if_neg (ne_true_of_eq_false hlost)).trans
    ((if_neg (ne_true_of_eq_false hfault')).trans ((if_neg hgood').trans (if_neg hpolls')))))

theorem rampPoll_passes {s : State} {q : RailPoll} (x : Samples) (hraising : s.raising q.rail = true)
    (hramping : s.pwr.ramping = true) (hlost : pollLost q = false) (hfault : s.pollFault q = false)
    (hgood : voltGood q.rail (s.railVolt q) = true) (hpolls : s.pwr.goodPolls ≠ 0) (h8 : q.rail ≠ 8)
    (h12 : q.rail ≠ 12) : answers (.rampPoll q x) s fun t =>
      t.railGood q.rail = true ∧ t.pwr = { s.pwr with ramping := false, goodPolls := 0, rail := q.rail + 1 } := by
  obtain ⟨hlow, hhigh⟩ := raising_bounds hraising
  have hgoodShown : ((s.showPoll q).railPassed q.rail).railGood q.rail = true :=
    setGood_railGood (s.showPoll q) hlow hhigh
  have hpwr : ((s.showPoll q).railPassed q.rail).pwr
      = { s.pwr with ramping := false, goodPolls := 0, rail := q.rail + 1 } :=
    congrArg (fun p : Pwr => { p with ramping := false, goodPolls := 0, rail := q.rail + 1 }) (showPoll_pwr s q)
  refine answers_of_eq_done ((exec_rampPoll x hraising hramping hlost hfault hgood hpolls).trans
    (congrArg (done s) (railIsGood_eq_railPassed _ _ h8 h12))) ?_
  exact ⟨(railGood_congr (ended_rd_apart rfl) _).trans hgoodShown, (ended_pwr ..).trans hpwr⟩

/-! ### The media phase begins (R251, R270) -/

/-- MEDIA_UP is entered, with one more attempt. -/
noncomputable def State.mediaUpShown (s : State) : State :=
  ((s.setSeq .mediaUp).setBit Reg.PWR_STATUS_SLOT_WAIT false).bump Reg.PWR_STATUS_ATTEMPT

theorem mediaUpShown_shows (s : State) :
    s.mediaUpShown.isSeq .mediaUp = true ∧ s.mediaUpShown.bit Reg.PWR_STATUS_SLOT_WAIT = false := by
  have hseq : ((s.setSeq .mediaUp).setBit Reg.PWR_STATUS_SLOT_WAIT false).isSeq .mediaUp = true :=
    (isSeq_wr_apart rfl).trans (setSeq_isSeq ..)
  exact ⟨(isSeq_wr_apart rfl).trans hseq, (bit_wr_apart rfl).trans bit_setBit_self⟩

theorem powerUpMedia_starts {s : State} (hseq : s.isSeq .pkgOn = true) (hwait : s.pwr.mediaWait = false)
    (hstopped : s.pwr.mediaStopped = false) (hslot : s.slotHere = true) :
    answers .powerUpMedia s fun t =>
      t.isSeq .mediaUp = true ∧ t.pwr.rail = 9 ∧ t.pwr.fpReset = true ∧ t.bit Reg.PWR_STATUS_SLOT_WAIT = false := by
  obtain ⟨hup, hgone⟩ := mediaUpShown_shows s
  have hstay : ¬(!s.isSeq .pkgOn || s.pwr.mediaWait || s.pwr.mediaStopped || !s.slotHere) = true := by
    rw [hseq, hwait, hstopped, hslot]; exact Bool.false_ne_true
  refine answers_of_eq_done (congrArg (done s) (if_neg hstay)) ?_
  exact ⟨(ended_isSeq ..).trans hup, congrArg Pwr.rail (ended_pwr ..), congrArg Pwr.fpReset (ended_pwr ..),
    (ended_bit_apart rfl).trans hgone⟩

/-! ### A poll in service (R253) -/

/-- The rail's VOUT shows the voltage of the poll. -/
theorem showPoll_vout {s : State} {q : RailPoll} (hlost : pollLost q = false)
    (hfits : s.railVolt q < 2 ^ Reg.PWR_RAIL_VOUT.width) :
    (s.showPoll q).rd Reg.PWR_RAIL_VOUT (q.rail - 1) = s.railVolt q := by
  have hkey : Reg.PWR_RAIL_VOUT.key (q.rail - 1) 0 ≠ Reg.PWR_RAIL_IOUT.key (q.rail - 1) 0 :=
    (Nat.lt_add_of_pos_right (Nat.succ_pos 15)).ne
  rw [State.showPoll, if_neg (ne_true_of_eq_false hlost)]
  exact (rd_wr_ne _ _ _ _ _ _ _ _ hkey).trans ((rd_wr_self ..).trans (Nat.mod_eq_of_lt hfits))

/-- The VOUT registers of the twelve rails stand below TELEM_BLK_OVF. -/
theorem vout_key_ne {r : Nat} (h12 : r ≤ 12) (a b : Nat) :
    Reg.PWR_RAIL_VOUT.key (r - 1) 0 ≠ Reg.TELEM_BLK_OVF_OVF.key a b :=
  have hvout : 0xA00040 + (r - 1) * 4 ≤ 0xA00040 + 12 * 4 :=
    Nat.add_le_add_left (Nat.mul_le_mul_right 4 ((Nat.sub_le r 1).trans h12)) _
  have hovf : 0xA00040 + 12 * 4 < 0xD01000 + a * 0x100 := Nat.lt_add_right _ (by decide)
  (Nat.mul_lt_mul_of_pos_left (hvout.trans_lt hovf) (Nat.succ_pos 31)).ne

/-- A rail in range is no more marked bad. -/
noncomputable def State.pollPassed (s : State) (r : Nat) : State :=
  { s with pwr := { s.pwr with lastBad := s.pwr.lastBad &&& ~~~ railBit r } }

/-- The voltage of a rail in service is judged, out of its range or in it. -/
noncomputable def State.pollJudged (s : State) (q : RailPoll) (bad : Bool) : State :=
  let m := if bad then s.pwr.lastBad ||| railBit q.rail else s.pwr.lastBad &&& ~~~ railBit q.rail
  let u := { s with pwr := { s.pwr with lastBad := m } }
  if u.pollFault q || (bad && s.pwr.lastBad.getLsbD (q.rail - 1)) then u.railFault q.rail q.status else u

theorem pollJudged_of_good {s : State} {q : RailPoll} (h : s.pollFault q = false) :
    s.pollJudged q false = s.pollPassed q.rail := if_neg (ne_true_of_eq_false ((Bool.or_false _).trans h))

theorem servicePollOne_of_good {s : State} {q : RailPoll} (hon : s.isOn q.rail = true) (hseq : s.isSeq .pkgOn = true)
    (hlost : pollLost q = false) (hfault : s.pollFault q = false) (hgood : voltBad q.rail (s.railVolt q) = false) :
    s.servicePollOne q = (s.showPoll q).pollPassed q.rail := by
  have hpolled : ¬(!s.isOn q.rail || !(s.isSeq .pkgOn || s.isSeq .on || s.isSeq .capo)) = true := by
    rw [hon, hseq]; exact Bool.false_ne_true
  have hbad : voltBad q.rail ((s.showPoll q).railVolt q) = false := (congrArg _ (showPoll_railVolt ..)).trans hgood
  have hjudged : (s.showPoll q).pollJudged q (voltBad q.rail ((s.showPoll q).railVolt q)) = _ :=
    (congrArg ((s.showPoll q).pollJudged q) hbad).trans (pollJudged_of_good ((showPoll_pollFault s q q).trans hfault))
  exact (if_neg hpolled).trans ((if_neg (ne_true_of_eq_false hlost)).trans hjudged)

theorem servicePoll_shows {s : State} {q : RailPoll} (h12 : q.rail ≤ 12) (hon : s.isOn q.rail = true)
    (hseq : s.isSeq .pkgOn = true) (hlost : pollLost q = false) (hfault : s.pollFault q = false)
    (hgood : voltBad q.rail (s.railVolt q) = false) (hfits : s.railVolt q < 2 ^ Reg.PWR_RAIL_VOUT.width) :
    answers (.servicePoll [q]) s fun t =>
      t.rd Reg.PWR_RAIL_VOUT (q.rail - 1) = s.railVolt q ∧ t.isSeq .pkgOn = true
        ∧ t.pwr = { s.pwr with lastBad := s.pwr.lastBad &&& ~~~ railBit q.rail } ∧ t.chron = s.chron := by
  have hexec : exec (.servicePoll [q]) s = done s ((s.showPoll q).pollPassed q.rail).flash := by
    rw [← servicePollOne_of_good hon hseq hlost hfault hgood]
    rfl
  have hpwr : ((s.showPoll q).pollPassed q.rail).pwr
      = { s.pwr with lastBad := s.pwr.lastBad &&& ~~~ railBit q.rail } :=
    congrArg (fun p : Pwr => { p with lastBad := p.lastBad &&& ~~~ railBit q.rail }) (showPoll_pwr s q)
  have hflash : Within _ ((s.showPoll q).pollPassed q.rail) _ := flash_within _
  refine answers_of_eq_done hexec ?_
  exact ⟨(ended_rd _ _ (vout_key_ne h12)).trans ((hflash.rd rfl).trans (showPoll_vout hlost hfits)),
    (ended_isSeq ..).trans ((flash_isSeq ..).trans ((showPoll_isSeq ..).trans hseq)),
    (ended_pwr ..).trans ((flash_pwr _).trans hpwr),
    (ended_chron ..).trans ((hflash.chron fun _ _ => rfl).trans ((showPoll_within s q).chron fun _ _ => rfl))⟩

/-! ### O3 -/

/-- Settles O3: one theorem for each command. That an attempt is counted as the phase begins is the model's choice
(log 78). -/
theorem railsComeUp : Obligations.RailsComeUp :=
  ⟨fun _ _ q haux hseq hrestart hx hread hflash => powerUpPackage_starts q haux hseq hrestart hx hread hflash,
    fun _ _ hraising hramping hlost hoff => railTurnOn_starts hraising hramping hlost hoff,
    fun _ _ x hraising hramping hlost hfault hgood hpolls h8 h12 =>
      rampPoll_passes x hraising hramping hlost hfault hgood hpolls h8 h12,
    fun _ hseq hwait hstopped hslot => powerUpMedia_starts hseq hwait hstopped hslot,
    fun _ _ _ h12 hon hseq hlost hfault hgood hfits => servicePoll_shows h12 hon hseq hlost hfault hgood hfits⟩

end Sys2Proof.Machine
end

section
/-! SUPPORT. Rails fail and go down (R251, R252, R256, R257, R259, R262): what a failed ramp leads to, the polls and
limits of a power-down, LOCKOUT and the thermal trip, and O4. -/

namespace Sys2Proof.Machine

-- One proof at a time: each proof elaborated beside another needs a thread's stack, and the text has a memory limit.
-- What helps to prove is not compiled: compiled definitions would make the file of the text outgrow that limit.
set_option Elab.async false

open Sys2Proof

/-! ### A failure of the package phase (R252, Table 11-5) -/

theorem packageFail_pwr (s : State) (rail cause : Nat) :
    (s.packageFail rail cause).pwr.after = (if s.pwr.pkgRun < 3 then AfterDown.pkgRetry else AfterDown.lockout)
      ∧ (s.packageFail rail cause).pwr.cause = .upFail ∧ (s.packageFail rail cause).pwr.ramping = false := by
  by_cases hruns : s.pwr.pkgRun < 3
  · have hfail : s.packageFail rail cause = _ := if_pos hruns
    rw [hfail, if_pos hruns]
    exact powerDown_pwr ..
  · have hfail : s.packageFail rail cause = _ := if_neg hruns
    rw [hfail, if_neg hruns]
    exact powerDown_pwr ..

theorem exec_railRampLimit {s : State} (hseq : s.isSeq .pkgUp = true) (hramping : s.pwr.ramping = true)
    (hraising : s.raising s.pwr.rail = true) : exec .railRampLimit s = done s (s.packageFail s.pwr.rail 0) :=
  congrArg (done s) ((if_pos (by rw [hramping, hraising]; rfl)).trans (if_pos hseq))

theorem railRampLimit_ends {s : State} (hseq : s.isSeq .pkgUp = true) (hramping : s.pwr.ramping = true)
    (hraising : s.raising s.pwr.rail = true) : answers .railRampLimit s fun t =>
      t.pwr.after = (if s.pwr.pkgRun < 3 then AfterDown.pkgRetry else AfterDown.lockout) ∧ t.pwr.cause = .upFail
        ∧ t.pwr.ramping = false := by
  refine answers_of_eq_done (exec_railRampLimit hseq hramping hraising) ?_
  rw [ended_pwr]
  exact packageFail_pwr s _ _

/-! ### Polls of a rail that goes down (R256) -/

/-- One more poll of the power-down is counted. -/
noncomputable def State.pollCounted (s : State) : State :=
  { s with pwr := { s.pwr with downPolls := s.pwr.downPolls + 1 } }

/-- The poll of the rail that goes down, if there is one, takes it off once it reads off. -/
noncomputable def State.railPolled (s : State) (polls : List RailPoll) : State :=
  match polls.find? (fun q => q.rail == s.pwr.rail) with
  | some q =>
    if !pollLost q && voltOff q.rail (s.railVolt q) then ((s.railOff q.rail).nextDown 13).flash else s.flash
  | none => s.flash

/-- The rail that goes down is not watched for a collapse. -/
theorem watchCollapse_of_going {s : State} {q : RailPoll} (h : q.rail = s.pwr.rail) : s.watchCollapse q = s :=
  if_neg (by rw [h, bne_self_eq_false, Bool.and_false]; exact Bool.false_ne_true)

theorem railPolled_of_going {s : State} {q : RailPoll} (hrail : q.rail = s.pwr.rail) (hlost : pollLost q = false) :
    s.railPolled [q] =
      if voltOff q.rail (s.railVolt q) then ((s.railOff q.rail).nextDown 13).flash else s.flash := by
  have hfound : [q].find? (fun p => p.rail == s.pwr.rail) = some q := List.find?_cons_of_pos (beq_of_eq hrail)
  rw [State.railPolled, hfound]
  dsimp only
  rw [hlost]
  rfl

/-- One poll of the rail that goes down. -/
theorem exec_decayPoll_of_going {s : State} {q : RailPoll} (hdown : s.goingDown = true) (hrail : q.rail = s.pwr.rail)
    (hlost : pollLost q = false) :
    exec (.decayPoll [q]) s = done s (if voltOff q.rail (s.railVolt q) then
      (((s.showPoll q).pollCounted.railOff q.rail).nextDown 13).flash else (s.showPoll q).pollCounted.flash) := by
  have hrail' : q.rail = (s.showPoll q).pwr.rail := hrail.trans (congrArg Pwr.rail (showPoll_pwr s q)).symm
  have hpolled : (s.showPoll q).pollCounted.railPolled [q] = _ := railPolled_of_going hrail' hlost
  have hvolt : (s.showPoll q).pollCounted.railVolt q = s.railVolt q := showPoll_railVolt s q q
  have hstay : ¬(!s.goingDown) = true := by rw [hdown]; exact Bool.false_ne_true
  rw [hvolt] at hpolled
  exact congrArg (done s) ((if_neg hstay).trans
    ((congrArg (fun u : State => u.pollCounted.railPolled [q]) (watchCollapse_of_going hrail')).trans hpolled))

theorem decayPoll_takesOff {s : State} {q : RailPoll} (hdown : s.goingDown = true) (hrail : q.rail = s.pwr.rail)
    (h1 : 1 ≤ q.rail) (h12 : q.rail ≤ 12) (hlost : pollLost q = false)
    (hoff : voltOff q.rail (s.railVolt q) = true) :
    answers (.decayPoll [q]) s fun t => t.isOn q.rail = false := by
  have hfell : (((s.showPoll q).pollCounted.railOff q.rail).nextDown 13).isOn q.rail = false :=
    nextDown_isOn_of_off 13 (railOff_isOn_self _ h1 h12)
  refine answers_of_eq_done ((exec_decayPoll_of_going hdown hrail hlost).trans (congrArg (done s) (if_pos hoff))) ?_
  exact (isOn_congr (congrArg Pwr.onMask ((ended_pwr ..).trans (flash_pwr _))) _).trans hfell

theorem decayPoll_counts {s : State} {q : RailPoll} (hdown : s.goingDown = true) (hrail : q.rail = s.pwr.rail)
    (hlost : pollLost q = false) (hoff : voltOff q.rail (s.railVolt q) = false) :
    answers (.decayPoll [q]) s fun t => t.pwr = { s.pwr with downPolls := s.pwr.downPolls + 1 } := by
  refine answers_of_eq_done ((exec_decayPoll_of_going hdown hrail hlost).trans
    (congrArg (done s) (if_neg (ne_true_of_eq_false hoff)))) ?_
  exact (ended_pwr ..).trans ((flash_pwr _).trans
    (congrArg (fun p : Pwr => { p with downPolls := p.downPolls + 1 }) (showPoll_pwr s q)))

/-! ### The decay limit (R256, R257) -/

/-- The forced-discharge command goes to the rail that is going down. -/
noncomputable def State.dischargeForced (s : State) : State :=
  let u := s.toPmics s.pwr.rail (s.rd Reg.PWR_CFG_DISCH_CMD) (s.rd Reg.PWR_CFG_DISCH_DATA)
  { u with pwr := { u.pwr with discharged := true } }

theorem exec_decayLimitExpiry_first {s : State} (b : Bool) (hdown : s.goingDown = true)
    (hfirst : s.pwr.discharged = false) : exec (.decayLimitExpiry b) s = done s s.dischargeForced :=
  congrArg (done s) ((if_neg (by rw [hdown]; exact Bool.false_ne_true)).trans (if_neg (ne_true_of_eq_false hfirst)))

theorem decayLimitExpiry_discharges {s : State} (b : Bool) (hdown : s.goingDown = true)
    (hfirst : s.pwr.discharged = false) : answers (.decayLimitExpiry b) s fun t =>
      t.pwr = { s.pwr with discharged := true }
        ∧ Out.pmbus s.pwr.rail false (s.rd Reg.PWR_CFG_DISCH_CMD) (s.rd Reg.PWR_CFG_DISCH_DATA) ∈ t.out := by
  have hpwr : s.dischargeForced.pwr = { s.pwr with discharged := true } :=
    congrArg (fun p : Pwr => { p with discharged := true }) (toPmics_pwr ..)
  have hsent : Out.pmbus s.pwr.rail false (s.rd Reg.PWR_CFG_DISCH_CMD) (s.rd Reg.PWR_CFG_DISCH_DATA)
      ∈ s.dischargeForced.out := toPmics_out_mem ..
  refine answers_of_eq_done (exec_decayLimitExpiry_first b hdown hfirst) ?_
  exact ⟨(ended_pwr ..).trans hpwr, mem_ended_out hsent⟩

/-- HUNG is entered, with its rail shown. -/
noncomputable def State.hungShown (s : State) (r : Nat) : State :=
  ((s.setSeq .hung).setBit Reg.PWR_FAULT_HANG true).wr Reg.PWR_LAST_DOWN_HUNG_RAIL r

/-- The record of a hung rail, or its waiting for the flash, leaves the registers of the sequencer. -/
theorem railHung_rd {s : State} {r : Nat} {b : Bool} {f : Field}
    (hf : [Reg.CHRON_DROP_CNT, Reg.CHRON_REPEAT_CNT].all f.apartFrom = true) :
    (s.railHung r b).rd f = (s.hungShown r).rd f := by
  cases b with
  | false => rfl
  | true => exact ((flash_within _).rd rfl).trans (rd_chronicle hf)

theorem hungShown_shows (s : State) {r : Nat} (h12 : r ≤ 12) :
    (s.hungShown r).isSeq .hung = true ∧ (s.hungShown r).bit Reg.PWR_FAULT_HANG = true
      ∧ (s.hungShown r).rd Reg.PWR_LAST_DOWN_HUNG_RAIL = r := by
  have hfits : r < 2 ^ Reg.PWR_LAST_DOWN_HUNG_RAIL.width := Nat.lt_succ_of_le (h12.trans (Nat.le_add_right 12 3))
  have hseq : ((s.setSeq .hung).setBit Reg.PWR_FAULT_HANG true).isSeq .hung = true :=
    (isSeq_wr_apart rfl).trans (setSeq_isSeq ..)
  exact ⟨(isSeq_wr_apart rfl).trans hseq, (bit_wr_apart rfl).trans bit_setBit_self,
    (rd_wr_self ..).trans (Nat.mod_eq_of_lt hfits)⟩

theorem decayLimitExpiry_hangs {s : State} (b : Bool) (hdown : s.goingDown = true) (hdone : s.pwr.discharged = true)
    (h12 : s.pwr.rail ≤ 12) : answers (.decayLimitExpiry b) s fun t =>
      t.isSeq .hung = true ∧ t.bit Reg.PWR_FAULT_HANG = true ∧ t.rd Reg.PWR_LAST_DOWN_HUNG_RAIL = s.pwr.rail := by
  obtain ⟨hseq, hbit, hrail⟩ := hungShown_shows s h12
  have hexec : exec (.decayLimitExpiry b) s = done s (s.railHung s.pwr.rail b) :=
    congrArg (done s) ((if_neg (by rw [hdown]; exact Bool.false_ne_true)).trans (if_pos hdone))
  refine answers_of_eq_done hexec ?_
  exact ⟨(ended_isSeq ..).trans ((isSeq_congr (railHung_rd rfl) _).trans hseq),
    (ended_bit_apart rfl).trans ((bit_congr (railHung_rd rfl)).trans hbit),
    (ended_rd_apart rfl).trans ((railHung_rd rfl).trans hrail)⟩

/-! ### LOCKOUT (R259, R262) -/

theorem exec_offHoldExpiry_of_lockout {s : State} (x : Samples) (hseq : s.isSeq .offHold = true)
    (hafter : s.pwr.after = .lockout) : exec (.offHoldExpiry x) s = done s s.lockout := by
  have hstay : ¬(s.isSeq .pkgOn && s.pwr.mediaWait) = true := by
    rw [isSeq_eq_false hseq rfl]; exact Bool.false_ne_true
  have hhere : ¬(!s.isSeq .offHold) = true := by rw [hseq]; exact Bool.false_ne_true
  exact congrArg (done s) ((if_neg hstay).trans ((if_neg hhere).trans (by rw [hafter])))

theorem offHoldExpiry_locksOut {s : State} (x : Samples) (hseq : s.isSeq .offHold = true)
    (hafter : s.pwr.after = .lockout) :
    answers (.offHoldExpiry x) s fun t => t.isSeq .lockout = true ∧ t.bit Reg.PWR_FAULT_LOCKOUT = true := by
  refine answers_of_eq_done (exec_offHoldExpiry_of_lockout x hseq hafter) ?_
  exact ⟨(ended_isSeq ..).trans (lockout_isSeq s), (ended_bit_apart rfl).trans (lockout_bit s)⟩

/-- The trip is shown, recorded and latched. -/
noncomputable def State.tripLatched (s : State) (tempC : Nat) : State :=
  let u := (s.setBit Reg.PWR_FAULT_THERMTRIP true).chronicle 0x0605 0x4D 3 [tempC % 256]
  { u with pwr := { u.pwr with thermtripN := true } }

theorem tripLatched_isSeq (s : State) (tempC : Nat) (q : SeqState) : (s.tripLatched tempC).isSeq q = s.isSeq q :=
  (chronicle_isSeq (s.setBit Reg.PWR_FAULT_THERMTRIP true) ..).trans (isSeq_wr_apart rfl)

theorem tripLatched_bit (s : State) (tempC : Nat) : (s.tripLatched tempC).bit Reg.PWR_FAULT_THERMTRIP = true :=
  (bit_congr (rd_chronicle (s := s.setBit Reg.PWR_FAULT_THERMTRIP true) rfl)).trans bit_setBit_self

/-- What a trip leads to, by the state that it is latched in. -/
noncomputable def State.tripActs (s : State) : State :=
  if s.isSeq .on then s.leaveOn .thermal .lockout
  else if s.isSeq .capo then { s with pwr := { s.pwr with cause := .thermal, after := .lockout } }
  else if s.isSeq .pkgUp || s.isSeq .pkgOn || s.isSeq .mediaUp then s.powerDown .thermal .lockout false
  else if s.isSeq .capoHold then s.powerDown .thermal .lockout true
  else if s.isSeq .down || s.isSeq .offHold then { s with pwr := { s.pwr with after := .lockout } }
  else if s.isSeq .standby then s.lockout
  else s

theorem tripActs_of_standby {s : State} (h : s.isSeq .standby = true) : s.tripActs = s.lockout := by
  have hnot {q : SeqState} (hq : (SeqState.standby.code == q.code) = false) : ¬s.isSeq q = true :=
    ne_true_of_eq_false (isSeq_eq_false h hq)
  have hup : ¬(s.isSeq .pkgUp || s.isSeq .pkgOn || s.isSeq .mediaUp) = true := by
    rw [isSeq_eq_false h rfl, isSeq_eq_false h rfl, isSeq_eq_false h rfl]
    exact Bool.false_ne_true
  have hdown : ¬(s.isSeq .down || s.isSeq .offHold) = true := by
    rw [isSeq_eq_false h rfl, isSeq_eq_false h rfl]
    exact Bool.false_ne_true
  exact (if_neg (hnot rfl)).trans ((if_neg (hnot rfl)).trans ((if_neg hup).trans ((if_neg (hnot rfl)).trans
    ((if_neg hdown).trans (if_pos h)))))

theorem thermalTrip_of_standby {s : State} (tempC : Nat) (hseq : s.isSeq .standby = true) :
    s.thermalTrip tempC = (s.tripLatched tempC).lockout :=
  tripActs_of_standby ((tripLatched_isSeq ..).trans hseq)

theorem thermtrip_locksOut {s : State} {n : Nat} (haux : s.pwr.aux = true) (hfirst : s.pwr.thermtripN = false)
    (hhot : 125 ≤ n) (hseq : s.isSeq .standby = true) :
    answers (.thermtrip n) s fun t =>
      t.pwr.thermtripN = true ∧ t.bit Reg.PWR_FAULT_THERMTRIP = true ∧ t.isSeq .lockout = true := by
  have hexec : exec (.thermtrip n) s = done s (s.thermalTrip n).flash :=
    congrArg (done s) (if_neg (by
      rw [haux, hfirst, decide_eq_false (Nat.not_lt.2 hhot)]
      exact Bool.false_ne_true))
  have hbit : (s.tripLatched n).lockout.bit Reg.PWR_FAULT_THERMTRIP = true :=
    (bit_wr_apart rfl).trans ((bit_wr_apart rfl).trans (tripLatched_bit s n))
  have htrip : (s.thermalTrip n).flash = (s.tripLatched n).lockout.flash :=
    congrArg State.flash (thermalTrip_of_standby n hseq)
  refine answers_of_eq_done (hexec.trans (congrArg (done s) htrip)) ?_
  exact ⟨congrArg Pwr.thermtripN ((ended_pwr ..).trans (flash_pwr _)),
    (ended_bit_apart rfl).trans ((bit_congr ((flash_within _).rd rfl)).trans hbit),
    (ended_isSeq ..).trans ((flash_isSeq ..).trans (lockout_isSeq _))⟩

/-! ### O4 -/

/-- Settles O4: one theorem for each command. That three attempts are made is read from the model's count of them
(log 78), and that a thermal trip in STANDBY locks out is the model's reading (log 82). -/
theorem railsFailAndGoDown : Obligations.RailsFailAndGoDown :=
  ⟨fun _ hseq hramping hraising => railRampLimit_ends hseq hramping hraising,
    fun _ _ hdown hrail h1 h12 hlost hoff => decayPoll_takesOff hdown hrail h1 h12 hlost hoff,
    fun _ _ hdown hrail _ _ hlost hoff => decayPoll_counts hdown hrail hlost hoff,
    fun _ b hdown hfirst => decayLimitExpiry_discharges b hdown hfirst,
    fun _ b hdown hdone h12 => decayLimitExpiry_hangs b hdown hdone h12,
    fun _ x hseq hafter => offHoldExpiry_locksOut x hseq hafter,
    fun _ _ haux hfirst hhot hseq => thermtrip_locksOut haux hfirst hhot hseq⟩

end Sys2Proof.Machine
end

section
/-! SUPPORT. The frame of each command of power sequencing, of start-up, of the warm device reset and of the images
(R251, R256, R264, R275, R345, R347), and O56. `pick_<parts>` says which parts of the state a mask names; side
conditions of `Framed` are written out, as for O51. -/

namespace Sys2Proof.Machine

-- One proof at a time: each proof elaborated beside another needs a thread's stack, and the text has a memory limit.
-- What helps to prove is not compiled: compiled definitions would make the file of the text outgrow that limit.
set_option Elab.async false

open Sys2Proof

/-! ### Operations within a frame -/

section Steps

variable {m : Nat} {l : List Field} {s t : State} (h : Framed m l s t)

include h

theorem Framed.setBit {f : Field} (b : Bool) (hf : f ∈ l) (hm : 2 ||| m = m) : Framed m l s (t.setBit f b) :=
  h.via (setBit_within ..) (setBit_regs _ _ _ _ _ hf) hm

theorem Framed.bump {f : Field} (n : Nat) (hf : f ∈ l) (hm : 2 ||| m = m) : Framed m l s (t.bump f n) :=
  h.via (bump_within ..) (bump_regs _ _ _ _ _ hf) hm

theorem Framed.setSeq (q : SeqState) (hf : Reg.PWR_STATUS_STATE ∈ l) (hm : 2 ||| m = m) : Framed m l s (t.setSeq q) :=
  h.via (setSeq_within ..) (setSeq_regs _ _ hf) hm

theorem Framed.record {code source sev : Nat} {payload : List Nat} (hdrop : Reg.CHRON_DROP_CNT ∈ l)
    (hrepeat : Reg.CHRON_REPEAT_CNT ∈ l) (hm : 0x3cc00000000000000002 ||| m = m) :
    Framed m l s (t.chronicle code source sev payload) :=
  h.via (chronicle_within ..) (chronicle_regs _ _ _ _ _ hdrop hrepeat) hm

theorem Framed.flash (hm : 0x3ffff0000000000000 ||| m = m) : Framed m l s t.flash :=
  h.quiet (flash_within _) hm (Eq.refl false)

theorem Framed.setDescr (d : Descr) (hm : 0x3ffff0000000000000 ||| m = m) : Framed m l s (t.setDescr d) :=
  h.quiet (setDescr_within ..) hm (Eq.refl false)

end Steps

/-! ### AUX and PWRFAIL_N -/

/-- The parts that the application of AUX may change. -/
noncomputable def auxApplyParts : Nat := 0x2807fffffffff00000000000000000000000000000000003cfffff0000020000436

theorem pick_auxApplyParts (s t : State) : State.pick auxApplyParts s t = { s with
      regs := t.regs, stroke := t.stroke, free := t.free, out := t.out, keep := t.keep, shelf := t.shelf,
      pwr := { s.pwr with aux := t.pwr.aux, hungRecord := t.pwr.hungRecord },
      chron := { s.chron with
        perm := t.chron.perm, ring := t.chron.ring, buffer := t.chron.buffer, nextSerial := t.chron.nextSerial,
        runs := t.chron.runs, dropped := t.chron.dropped },
      telem := { s.telem with counts := t.telem.counts, bwRead := t.telem.bwRead } } := rfl

/-- The register fields that the application of AUX may write. -/
noncomputable def auxApplyFields : List Field := [
  Reg.CHRON_DROP_CNT, Reg.CHRON_REPEAT_CNT, Reg.KEEP_STATUS_FLASH_OK, Reg.KEEP_STATUS_TIE, Reg.PWR_STATUS_PF_PIN,
  Reg.SHELF_STATUS_POS, Reg.SHELF_STATUS_ROLE, Reg.TELEM_BLK_OVF_OVF, Reg.TOP_STRAPS_SHELF_POS,
  Reg.TOP_STRAPS_SHELF_ROLE]

theorem auxApply_framed (role : Samples) (posA posB posC : BitVec 5) (pfHigh : Bool) (report : FlashReport) :
    EndsFramed auxApplyParts auxApplyFields (.auxApply role posA posB posC pfHigh report) := fun _ =>
  ⟨_, rfl, .ite (fun _ => .rfl) fun _ =>
    (Framed.rfl.via (applyAux_within ..) (by apply applyAux_regs <;> decide) rfl).flash rfl⟩

/-- The parts that a command that can lead to a power-down may change. -/
noncomputable def powerDownParts : Nat := 0x1fffffffffffffffffffffffffffffffdfffffffff7fffffffffffffffffffffffffd6a

theorem pick_powerDownParts (s t : State) : State.pick powerDownParts s t = { s with
      regs := t.regs, clears := t.clears, out := t.out, msixEn := t.msixEn, intOwed := t.intOwed, pwr := t.pwr,
      start := t.start, keep := t.keep, chron := t.chron, events := t.events, prot := t.prot,
      sessions := t.sessions, reqs := t.reqs, nextRid := t.nextRid, share := t.share, decoders := t.decoders,
      merge := t.merge, mbox := t.mbox, cache := t.cache, internals := t.internals, imageOps := t.imageOps,
      ops := t.ops, deltas := t.deltas, chans := t.chans, sched := t.sched, xlat := t.xlat, err := t.err,
      img := t.img, shelf := t.shelf, fw := t.fw, telem := t.telem, cfgSpace := t.cfgSpace, bar0 := t.bar0,
      d3 := t.d3 } := rfl

theorem auxRemove_within : EndsWithin powerDownParts .auxRemove := fun _ =>
  ⟨_, rfl, .ite (fun _ => (removeAux_within _).on rfl .rfl) fun _ => .rfl⟩

theorem pwrfailNQualify_within (samples : List Bool) :
    EndsWithin powerDownParts (.pwrfailNQualify samples) := fun s => by
  refine ⟨_, rfl, .ite (fun _ => .rfl) fun _ => ?_⟩
  extract_lets s1 pwr s2
  have h1 : Within powerDownParts s s1 :=
    (setBit_within ..).on rfl ((bump_within ..).on rfl ((pfTake_within ..).on rfl .rfl))
  have h2 : Within powerDownParts s s2 := .upd rfl h1
  exact (pfActs_within _).on rfl ((setBit_within ..).on rfl h2)

/-- The parts that a glitch of PWRFAIL_N may change. -/
noncomputable def glitchParts : Nat := 0x2800000000000000000000000000000000000000000000000000000000000020022

theorem pick_glitchParts (s t : State) : State.pick glitchParts s t = { s with
      regs := t.regs, out := t.out,
      pwr := { s.pwr with pfCount := t.pwr.pfCount },
      telem := { s.telem with counts := t.telem.counts, bwRead := t.telem.bwRead } } := rfl

/-- The register fields that a glitch of PWRFAIL_N may write. -/
noncomputable def glitchFields : List Field := [
  Reg.PWR_EVENT_PF_GLITCH, Reg.PWR_GLITCH_CNT, Reg.PWR_STATUS_PF_PIN, Reg.TELEM_BLK_OVF_OVF]

theorem pwrfailNGlitch_framed (samples : List Bool) :
    EndsFramed glitchParts glitchFields (.pwrfailNGlitch samples) := fun s => by
  refine ⟨_, rfl, ?_⟩
  extract_lets f n
  refine .ite (fun _ => .rfl) fun _ => ?_
  have htaken : Framed glitchParts glitchFields s (s.pfTake samples) :=
    Framed.rfl.via (pfTake_within ..) (pfTake_regs _ _ (by decide)) rfl
  exact (htaken.bump _ (by decide) rfl).setBit _ (by decide) rfl

/-- The parts that 100 ms of PWRFAIL_N high may change. -/
noncomputable def pinHighParts : Nat := 0x280000000000000000000000000000000000000000000003cfffff0000000060022

theorem pick_pinHighParts (s t : State) : State.pick pinHighParts s t = { s with
      regs := t.regs, out := t.out, keep := t.keep,
      pwr := { s.pwr with pfCount := t.pwr.pfCount, high100 := t.pwr.high100 },
      chron := { s.chron with
        perm := t.chron.perm, ring := t.chron.ring, buffer := t.chron.buffer, nextSerial := t.chron.nextSerial,
        runs := t.chron.runs, dropped := t.chron.dropped },
      telem := { s.telem with counts := t.telem.counts, bwRead := t.telem.bwRead } } := rfl

/-- The register fields that 100 ms of PWRFAIL_N high may write. -/
noncomputable def pinHighFields : List Field := [
  Reg.CHRON_DROP_CNT, Reg.CHRON_REPEAT_CNT, Reg.PWR_FAULT_LOCKOUT, Reg.PWR_FAULT_TEST_EN, Reg.PWR_STATUS_PF_LATCH,
  Reg.PWR_STATUS_STATE, Reg.TELEM_BLK_OVF_OVF, Reg.TOP_STRAPS_TEST_EN]

theorem pwrfailNHigh100ms_framed (testEn : Samples) :
    EndsFramed pinHighParts pinHighFields (.pwrfailNHigh100ms testEn) := fun s => by
  refine ⟨_, rfl, .ite (fun _ => .rfl) fun _ => ?_⟩
  extract_lets pwr s1
  have h1 : Framed pinHighParts pinHighFields s s1 := Framed.rfl.set rfl rfl
  exact (h1.setBit _ (by decide) rfl).via (standbyTest_within ..) (by apply standbyTest_regs <;> decide) rfl

/-! ### Power-up (R251) -/

/-- The parts that the start of the package phase may change. -/
noncomputable def packageUpParts : Nat := 0x280000000000000000000000000000000000000000000003cfffff00003fffffc22

theorem pick_packageUpParts (s t : State) : State.pick packageUpParts s t = { s with
      regs := t.regs, out := t.out, pwr := t.pwr, keep := t.keep,
      chron := { s.chron with
        perm := t.chron.perm, ring := t.chron.ring, buffer := t.chron.buffer, nextSerial := t.chron.nextSerial,
        runs := t.chron.runs, dropped := t.chron.dropped },
      telem := { s.telem with counts := t.telem.counts, bwRead := t.telem.bwRead } } := rfl

/-- The register fields that the start of the package phase may write. -/
noncomputable def packageUpFields : List Field := [
  Reg.CHRON_DROP_CNT, Reg.CHRON_REPEAT_CNT, Reg.PWR_FAULT_LOCKOUT, Reg.PWR_FAULT_PMIC_CONFIG, Reg.PWR_FAULT_TEST_EN,
  Reg.PWR_PRESENT_A_PRI, Reg.PWR_PRESENT_A_SEC, Reg.PWR_PRESENT_B_PRI, Reg.PWR_PRESENT_B_SEC, Reg.PWR_STATUS_ATTEMPT,
  Reg.PWR_STATUS_STATE, Reg.PWR_UPFAIL_CNT, Reg.TELEM_BLK_OVF_OVF, Reg.TOP_STRAPS_TEST_EN]

/-- A package phase begins, once presence is shown and the pages of the PMICs are written, or is refused. -/
theorem powerUpPackage_framed (testEn : Samples) (pmics : PmicReport) :
    EndsFramed packageUpParts packageUpFields (.powerUpPackage testEn pmics) := fun s => by
  refine ⟨_, rfl, .ite (fun _ => .rfl) fun _ => .ite (fun _ => ?_) fun _ => ?_⟩
  · exact (Framed.rfl.via (testLockout_within _) (by apply testLockout_regs <;> decide) rfl).flash rfl
  extract_lets shown read
  have hshown : Framed packageUpParts packageUpFields s shown := .ite (fun _ => .rfl) fun _ =>
    Framed.rfl.via (showPresence_within ..) (by apply showPresence_regs <;> decide) rfl
  clear_value shown
  have hread : Framed packageUpParts packageUpFields s { shown with pwr := { shown.pwr with pmicRead := true } } :=
    hshown.set rfl rfl
  refine .ite (fun _ => ?_) fun _ => ?_
  · exact hshown.via (pmicRefused_within _) (by apply pmicRefused_regs <;> decide) rfl
  · exact (Framed.ite (fun _ => hshown) fun _ => hread.quiet (writePages_within _) rfl rfl).via (enterPkgUp_within ..)
      (by apply enterPkgUp_regs <;> decide) rfl

theorem upFail_powerDown (s : State) (rail cause : Nat) : Within powerDownParts s (s.upFail rail cause) :=
  (upFail_within ..).on rfl .rfl

theorem railTurnOn_within (precheck : RailPoll) : EndsWithin powerDownParts (.railTurnOn precheck) := fun s => by
  refine ⟨_, rfl, ?_⟩
  extract_lets r shown on
  refine .ite (fun _ => .rfl) fun _ => .ite (fun _ => upFail_powerDown ..) fun _ => ?_
  have hshown : Within powerDownParts s shown := (showPoll_within ..).on rfl .rfl
  have hon : Within powerDownParts s on :=
    (toPmics_within ..).on rfl ((toPmics_within ..).on rfl ((toPmics_within ..).on rfl hshown))
  exact .ite (fun _ => (upFail_within ..).on rfl hshown) fun _ => .upd rfl hon

/-- The parts that a poll of a rising rail or the end of HBM training may change. -/
noncomputable def rampParts : Nat := 0x1fffffffffffffffffffffffffffffffdfffffffff7fffffffffffffffffffffffffd7a

theorem pick_rampParts (s t : State) : State.pick rampParts s t = { s with
      regs := t.regs, clears := t.clears, free := t.free, out := t.out, msixEn := t.msixEn, intOwed := t.intOwed,
      pwr := t.pwr, start := t.start, keep := t.keep, chron := t.chron, events := t.events, prot := t.prot,
      sessions := t.sessions, reqs := t.reqs, nextRid := t.nextRid, share := t.share, decoders := t.decoders,
      merge := t.merge, mbox := t.mbox, cache := t.cache, internals := t.internals, imageOps := t.imageOps,
      ops := t.ops, deltas := t.deltas, chans := t.chans, sched := t.sched, xlat := t.xlat, err := t.err,
      img := t.img, shelf := t.shelf, fw := t.fw, telem := t.telem, cfgSpace := t.cfgSpace, bar0 := t.bar0,
      d3 := t.d3 } := rfl

theorem rampPoll_within (poll : RailPoll) (bootSel : Samples) :
    EndsWithin rampParts (.rampPoll poll bootSel) := fun s => by
  refine ⟨_, rfl, ?_⟩
  extract_lets r shown
  refine .ite (fun _ => .rfl) fun _ => .ite (fun _ => (upFail_within ..).on rfl .rfl) fun _ => ?_
  have hshown : Within rampParts s shown := (showPoll_within ..).on rfl .rfl
  exact .ite (fun _ => (upFail_within ..).on rfl hshown) fun _ => .ite (fun _ => .upd rfl hshown) fun _ =>
    .ite (fun _ => .upd rfl hshown) fun _ => (railIsGood_within ..).on rfl hshown

theorem railRampLimit_within : EndsWithin powerDownParts .railRampLimit := fun _ =>
  ⟨_, rfl, .ite (fun _ => upFail_powerDown ..) fun _ => .rfl⟩

/-- The parts that the start of the media phase may change. -/
noncomputable def mediaUpParts : Nat := 0x2801000000000000000000000000000000000000000000000000000000008007022

theorem pick_mediaUpParts (s t : State) : State.pick mediaUpParts s t = { s with
      regs := t.regs, out := t.out,
      pwr := { s.pwr with
        rail := t.pwr.rail, ramping := t.pwr.ramping, goodPolls := t.pwr.goodPolls, fpReset := t.pwr.fpReset },
      shelf := { s.shelf with granted := t.shelf.granted },
      telem := { s.telem with counts := t.telem.counts, bwRead := t.telem.bwRead } } := rfl

/-- The register fields that the start of the media phase may write. -/
noncomputable def mediaUpFields : List Field := [
  Reg.PWR_STATUS_ATTEMPT, Reg.PWR_STATUS_SLOT_WAIT, Reg.PWR_STATUS_STATE, Reg.TELEM_BLK_OVF_OVF]

theorem powerUpMedia_framed : EndsFramed mediaUpParts mediaUpFields .powerUpMedia := fun s => by
  refine ⟨_, rfl, .ite (fun _ => .rfl) fun _ => ?_⟩
  extract_lets s1
  have h1 : Framed mediaUpParts mediaUpFields s s1 :=
    ((Framed.rfl.setSeq _ (by decide) rfl).setBit _ (by decide) rfl).bump _ (by decide) rfl
  exact h1.set rfl rfl

/-! ### Supervision and power-down (R253, R256 to R259, R262) -/

theorem servicePoll_within (polls : List RailPoll) : EndsWithin powerDownParts (.servicePoll polls) := fun _ =>
  ⟨_, rfl, (flash_within _).on rfl (.foldl (fun _ _ => (servicePollOne_within ..).on rfl .rfl) _ .rfl)⟩

/-- The parts that a poll of a falling rail may change. -/
noncomputable def decayParts : Nat := 0x1ffffff8000000000fffffffffffffffdfffffffff7fffffffffffffffffffffffffd6a

theorem pick_decayParts (s t : State) : State.pick decayParts s t = { s with
      regs := t.regs, clears := t.clears, out := t.out, msixEn := t.msixEn, intOwed := t.intOwed, pwr := t.pwr,
      start := t.start, keep := t.keep, chron := t.chron, events := t.events, prot := t.prot,
      sessions := t.sessions, reqs := t.reqs, nextRid := t.nextRid, share := t.share, decoders := t.decoders,
      merge := t.merge, mbox := t.mbox, cache := t.cache, internals := t.internals, imageOps := t.imageOps,
      ops := t.ops, deltas := t.deltas, chans := t.chans, sched := t.sched, xlat := t.xlat, err := t.err,
      img := t.img, fw := t.fw, telem := t.telem, cfgSpace := t.cfgSpace, bar0 := t.bar0, d3 := t.d3 } := rfl

theorem decayPoll_within (polls : List RailPoll) : EndsWithin decayParts (.decayPoll polls) := fun s => by
  refine ⟨_, rfl, .ite (fun _ => .rfl) fun _ => ?_⟩
  extract_lets s1 pwr s2
  have h1 : Within decayParts s s1 := .foldl
    (fun _ _ => (watchCollapse_within ..).on rfl ((showPoll_within ..).on rfl .rfl)) _ .rfl
  have h2 : Within decayParts s s2 := .upd rfl h1
  have hflash : Within decayParts s s2.flash := (flash_within _).on rfl h2
  split
  · exact .ite (fun _ => (flash_within _).on rfl ((nextDown_within ..).on rfl ((railOff_within ..).on rfl h2)))
      fun _ => hflash
  · exact hflash

/-- The parts that the end of the decay limit may change. -/
noncomputable def decayLimitParts : Nat := 0x280000000000000000000000000000000000000000000003cfffff0000020010022

theorem pick_decayLimitParts (s t : State) : State.pick decayLimitParts s t = { s with
      regs := t.regs, out := t.out, keep := t.keep,
      pwr := { s.pwr with discharged := t.pwr.discharged, hungRecord := t.pwr.hungRecord },
      chron := { s.chron with
        perm := t.chron.perm, ring := t.chron.ring, buffer := t.chron.buffer, nextSerial := t.chron.nextSerial,
        runs := t.chron.runs, dropped := t.chron.dropped },
      telem := { s.telem with counts := t.telem.counts, bwRead := t.telem.bwRead } } := rfl

/-- The register fields that the end of the decay limit may write. -/
noncomputable def decayLimitFields : List Field := [
  Reg.CHRON_DROP_CNT, Reg.CHRON_REPEAT_CNT, Reg.PWR_FAULT_HANG, Reg.PWR_LAST_DOWN_HUNG_RAIL, Reg.PWR_STATUS_STATE,
  Reg.TELEM_BLK_OVF_OVF]

theorem decayLimitExpiry_framed (flashAnswers : Bool) :
    EndsFramed decayLimitParts decayLimitFields (.decayLimitExpiry flashAnswers) := fun s => by
  refine ⟨_, rfl, .ite (fun _ => .rfl) fun _ => .ite (fun _ => ?_) fun _ => ?_⟩
  · exact Framed.rfl.via (railHung_within ..) (by apply railHung_regs <;> decide) rfl
  · extract_lets s1
    have h1 : Framed decayLimitParts decayLimitFields s s1 := Framed.rfl.quiet (toPmics_within ..) rfl rfl
    exact h1.set rfl rfl

/-- The parts that the end of OFF_HOLD may change. -/
noncomputable def offHoldParts : Nat := 0x280100000000000000000000000000000000000000000003cfffff00003fffffc22

theorem pick_offHoldParts (s t : State) : State.pick offHoldParts s t = { s with
      regs := t.regs, out := t.out, pwr := t.pwr, keep := t.keep,
      chron := { s.chron with
        perm := t.chron.perm, ring := t.chron.ring, buffer := t.chron.buffer, nextSerial := t.chron.nextSerial,
        runs := t.chron.runs, dropped := t.chron.dropped },
      shelf := { s.shelf with granted := t.shelf.granted },
      telem := { s.telem with counts := t.telem.counts, bwRead := t.telem.bwRead } } := rfl

/-- The register fields that the end of OFF_HOLD may write. -/
noncomputable def offHoldFields : List Field := [
  Reg.CHRON_DROP_CNT, Reg.CHRON_REPEAT_CNT, Reg.PWR_FAULT_LOCKOUT, Reg.PWR_FAULT_TEST_EN, Reg.PWR_STATUS_ATTEMPT,
  Reg.PWR_STATUS_SLOT_WAIT, Reg.PWR_STATUS_STATE, Reg.TELEM_BLK_OVF_OVF, Reg.TOP_STRAPS_TEST_EN]

theorem offHoldExpiry_framed (testEn : Samples) :
    EndsFramed offHoldParts offHoldFields (.offHoldExpiry testEn) := fun s => by
  have hwaited : Framed offHoldParts offHoldFields s { s with pwr := { s.pwr with mediaWait := false } } :=
    Framed.rfl.set rfl rfl
  have henter : Framed offHoldParts offHoldFields s (s.enterPkgUp testEn) :=
    Framed.rfl.via (enterPkgUp_within ..) (by apply enterPkgUp_regs <;> decide) rfl
  refine ⟨_, rfl, .ite (fun _ => ?_) fun _ => .ite (fun _ => .rfl) fun _ => ?_⟩
  · exact hwaited.via (askSlot_within _) (askSlot_regs _ (by decide)) rfl
  split
  · exact Framed.rfl.via (lockout_within _) (lockout_regs _ (by decide) (by decide)) rfl
  · exact henter
  · exact .ite (fun _ => henter) fun _ => Framed.rfl.setSeq _ (by decide) rfl

theorem thermtrip_within (tempC : Nat) : EndsWithin powerDownParts (.thermtrip tempC) := fun _ =>
  ⟨_, rfl, .ite (fun _ => .rfl) fun _ => (flash_within _).on rfl ((thermalTrip_within ..).on rfl .rfl)⟩

theorem pwrCntClr_framed (v : Word) : EndsFramed clearParts [Reg.TELEM_BLK_OVF_OVF] (.pwrCntClr v) := fun _ =>
  ⟨_, rfl, .ite (fun _ => askClear_framed _) fun _ => .rfl⟩

/-! ### Capo (R163 to R166) -/

/-- The parts that the end of a capo's flush may change. -/
noncomputable def capoFlushParts : Nat := 0x3fffe07fffffffff01ffffffffffffee00003fffe17ffffffffffffff0000000000022

theorem pick_capoFlushParts (s t : State) : State.pick capoFlushParts s t = { s with
      regs := t.regs, out := t.out, keep := t.keep, chron := t.chron, events := t.events, prot := t.prot,
      reqs := t.reqs, merge := t.merge, mbox := t.mbox, pages := t.pages, ops := t.ops, deltas := t.deltas,
      sched := t.sched, xlat := t.xlat, err := t.err, shelf := t.shelf, telem := t.telem } := rfl

/-- The register fields that the end of a capo's flush may write. -/
noncomputable def capoFlushFields : List Field := [
  Reg.CHRON_DROP_CNT, Reg.CHRON_REPEAT_CNT, Reg.ERR_DIRTY_LOST_CNT, Reg.ERR_HEALTH_EVENT_DIRTY_LOST,
  Reg.ERR_HEALTH_EVENT_POISON_FULL, Reg.ERR_POISON_LIST_OVERFLOW, Reg.ERR_POISON_LIST_RECORDS, Reg.MERGE_DRAIN_CNT,
  Reg.MERGE_LAST_CAPO_FLUSH_US, Reg.MERGE_LAST_CAPO_RESULT, Reg.MERGE_LOST_CNT, Reg.MERGE_PARTIAL_LINES,
  Reg.MERGE_POINT_LO_STROKE_LO, Reg.MERGE_SETTLING_LINES, Reg.MERGE_STATUS_DIRTY, Reg.MERGE_STATUS_LIMIT,
  Reg.MERGE_STATUS_POINTS, Reg.PROT_INTEG_DIRTY_LINES, Reg.TELEM_BLK_OVF_OVF, Reg.XLAT_COLD_COUNT_BLOCKS,
  Reg.XLAT_HOT_COUNT_BLOCKS, Reg.XLAT_LIFTED_PAGES, Reg.XLAT_MOVES_ACTIVE, Reg.XLAT_MOVES_QUEUED,
  Reg.XLAT_PINNED_LINES, Reg.XLAT_POISON_WR_CNT, Reg.XLAT_POOL_STATUS_FREE, Reg.XLAT_RELOC_CNT]

theorem capoFlushComplete_framed (flushUs : Nat) :
    EndsFramed capoFlushParts capoFlushFields (.capoFlushComplete flushUs) := fun s => by
  refine ⟨_, rfl, .ite (fun _ => .rfl) fun _ => ?_⟩
  extract_lets flushed shown recorded
  have hflushed : Framed capoFlushParts capoFlushFields s flushed :=
    (Framed.rfl.via (flushAll_within _) (by apply flushAll_regs <;> decide) rfl).quiet
      (markFlush_within _) rfl rfl
  have hshown : Framed capoFlushParts capoFlushFields s shown := (hflushed.wr (by decide) rfl).wr (by decide) rfl
  have hrecorded : Framed capoFlushParts capoFlushFields s recorded :=
    (hshown.via (capoRecord_within ..) (capoRecord_regs _ _ _ _ (by decide) (by decide)) rfl).quiet
      (saveSpread_within _) rfl rfl
  clear_value recorded
  have hasked : Framed capoFlushParts capoFlushFields s
      { recorded with merge := { recorded.merge with capo := 6 } } := hrecorded.set rfl rfl
  exact hasked.quiet (saveKeep_within _) rfl rfl

theorem capoSaveComplete_within (pfHigh : Bool) (room : Nat) :
    EndsWithin powerDownParts (.capoSaveComplete pfHigh room) := fun s => by
  refine ⟨_, rfl, .ite (fun _ => .rfl) fun _ => ?_⟩
  extract_lets s1 pwr merge s2
  have h1 : Within powerDownParts s s1 :=
    (setBit_within ..).on rfl ((saveChronicle_within ..).on rfl ((closeRuns_within _).on rfl .rfl))
  have h2 : Within powerDownParts s s2 := .upd rfl h1
  exact .ite (fun _ => (flash_within _).on rfl ((setSeq_within ..).on rfl h2)) fun _ =>
    (powerDown_within ..).on rfl h2

/-- The parts that a warm resumption may change. -/
noncomputable def resumptionParts : Nat := 0x28400000000000000000000000c800000011000000000003cfffff0000000080022

theorem pick_resumptionParts (s t : State) : State.pick resumptionParts s t = { s with
      regs := t.regs, out := t.out, keep := t.keep,
      pwr := { s.pwr with dirtySet := t.pwr.dirtySet },
      chron := { s.chron with
        perm := t.chron.perm, ring := t.chron.ring, buffer := t.chron.buffer, nextSerial := t.chron.nextSerial,
        runs := t.chron.runs, dropped := t.chron.dropped },
      merge := { s.merge with marker := t.merge.marker, capoCredits := t.merge.capoCredits },
      sched := { s.sched with jobs := t.sched.jobs, capoAsk := t.sched.capoAsk, back := t.sched.back },
      fw := { s.fw with abandoned := t.fw.abandoned },
      telem := { s.telem with counts := t.telem.counts, bwRead := t.telem.bwRead } } := rfl

/-- The register fields that a warm resumption may write. -/
noncomputable def resumptionFields : List Field := [
  Reg.CHRON_DROP_CNT, Reg.CHRON_REPEAT_CNT, Reg.MERGE_DSC, Reg.MERGE_LAST_CAPO_RESULT, Reg.MERGE_STATUS_CAPO,
  Reg.PWR_EVENT_WARM_RESUME, Reg.PWR_STATUS_STATE, Reg.PWR_WARM_CNT, Reg.TELEM_BLK_OVF_OVF, Reg.TOP_STATUS_CAPO]

theorem warmResumption_framed : EndsFramed resumptionParts resumptionFields .warmResumption := fun s => by
  refine ⟨_, rfl, .ite (fun _ => .rfl) fun _ => ?_⟩
  extract_lets s1 s2 s3 s4 back jobs sched s5
  have h1 : Framed resumptionParts resumptionFields s s1 :=
    ((Framed.rfl.via (dirtyAgain_within _) (by apply dirtyAgain_regs <;> decide) rfl).quiet
      (activationBack_within _) rfl rfl).setSeq _ (by decide) rfl
  have h2 : Framed resumptionParts resumptionFields s s2 :=
    ((h1.setBit _ (by decide) rfl).bump _ (by decide) rfl).record (by decide) (by decide) rfl
  have h3 : Framed resumptionParts resumptionFields s s3 := (h2.setBit _ (by decide) rfl).setBit _ (by decide) rfl
  have h4 : Framed resumptionParts resumptionFields s s4 := h3.wr (by decide) rfl
  have h5 : Framed resumptionParts resumptionFields s s5 := h4.set rfl rfl
  exact (h5.quiet (capoCreditsBack_within _) rfl rfl).flash rfl

/-! ### Start-up (R137, R200, R232, R264, R267, R269, R273) -/

/-- A record of the chronicle and the telemetry counters. -/
noncomputable def recordFields : List Field := [Reg.CHRON_DROP_CNT, Reg.CHRON_REPEAT_CNT, Reg.TELEM_BLK_OVF_OVF]

theorem hbmTrainingComplete_within (ok : Bool) : EndsWithin rampParts (.hbmTrainingComplete ok) := fun s => by
  refine ⟨_, rfl, .ite (fun _ => .rfl) fun _ => .ite (fun _ => ?_) fun _ => ?_⟩
  · have htrained : Within rampParts s { s with
        start := { s.start with hbmTrained := true, hbmTries := 0 }, pwr := { s.pwr with pkgRun := 0 } } :=
      .upd rfl .rfl
    exact (tick_within _).on rfl htrained
  · extract_lets n
    exact .ite (fun _ => .upd rfl .rfl) fun _ => (packageFail_within ..).on rfl .rfl

/-- The parts that the end of the HBM fill may change. -/
noncomputable def hbmFillParts : Nat := 0x2800000000000000000000000000000000000000000000000000002000800000022

theorem pick_hbmFillParts (s t : State) : State.pick hbmFillParts s t = { s with
      regs := t.regs, out := t.out,
      start := { s.start with step3 := t.start.step3, warm := t.start.warm },
      telem := { s.telem with counts := t.telem.counts, bwRead := t.telem.bwRead } } := rfl

/-- The register fields that the end of the HBM fill may write. -/
noncomputable def hbmFillFields : List Field := [
  Reg.ERR_HBM_FILL_DONE, Reg.ERR_HBM_FILL_US, Reg.TELEM_BLK_OVF_OVF]

theorem hbmFillComplete_framed (us : Nat) :
    EndsFramed hbmFillParts hbmFillFields (.hbmFillComplete us) := fun s => by
  refine ⟨_, rfl, .ite (fun _ => .rfl) fun _ => ?_⟩
  extract_lets warm s1
  have h1 : Framed hbmFillParts hbmFillFields s s1 := (Framed.rfl.wr (by decide) rfl).setBit _ (by decide) rfl
  exact h1.set rfl rfl

/-- The parts that the end of step 2 may change. -/
noncomputable def imageVerifyParts : Nat := 0x2800000000000fe000000000000000000000000000000003cfffff0400400000022

theorem pick_imageVerifyParts (s t : State) : State.pick imageVerifyParts s t = { s with
      regs := t.regs, out := t.out, keep := t.keep, img := t.img,
      start := { s.start with step2 := t.start.step2, row := t.start.row },
      chron := { s.chron with
        perm := t.chron.perm, ring := t.chron.ring, buffer := t.chron.buffer, nextSerial := t.chron.nextSerial,
        runs := t.chron.runs, dropped := t.chron.dropped },
      telem := { s.telem with counts := t.telem.counts, bwRead := t.telem.bwRead } } := rfl

/-- The register fields that the end of step 2 may write. -/
noncomputable def imageVerifyFields : List Field := [
  Reg.CHAN_G_AGE_REST, Reg.CHRON_DROP_CNT, Reg.CHRON_REPEAT_CNT, Reg.TELEM_BLK_OVF_OVF, Reg.TOP_STATUS_RECOVERY]

theorem imageVerifyComplete_framed (active staging : ImageReport) :
    EndsFramed imageVerifyParts imageVerifyFields (.imageVerifyComplete active staging) := fun s => by
  refine ⟨_, rfl, .ite (fun _ => .rfl) fun _ => ?_⟩
  extract_lets row descr s1 s2 s3 s4
  have h1 : Framed imageVerifyParts imageVerifyFields s s1 := .ite (fun _ => Framed.rfl.setDescr _ rfl) fun _ => .rfl
  have h2 : Framed imageVerifyParts imageVerifyFields s s2 :=
    h1.via (takeImage_within ..) (by apply takeImage_regs <;> decide) rfl
  have h3 : Framed imageVerifyParts imageVerifyFields s s3 :=
    .ite (fun _ => h2) fun _ => h2.record (by decide) (by decide) rfl
  have h4 : Framed imageVerifyParts imageVerifyFields s s4 := h3.wr (by decide) rfl
  clear_value s4
  have hended : Framed imageVerifyParts imageVerifyFields s
      { s4 with start := { s4.start with step2 := true, row := row } } := h4.set rfl rfl
  exact hended.flash rfl

/-- The parts that the start of the rebuild may change. -/
noncomputable def rebuildStartParts : Nat := 0x2800000000000000000000000000000000000000000000000000000008000000022

theorem pick_rebuildStartParts (s t : State) : State.pick rebuildStartParts s t = { s with
      regs := t.regs, out := t.out,
      start := { s.start with rebuilding := t.start.rebuilding },
      telem := { s.telem with counts := t.telem.counts, bwRead := t.telem.bwRead } } := rfl

theorem rebuildStart_framed : EndsFramed rebuildStartParts [Reg.TELEM_BLK_OVF_OVF] .rebuildStart := fun _ =>
  ⟨_, rfl, .ite (fun _ => Framed.rfl.set rfl rfl) fun _ => .rfl⟩

/-- The parts that the end of the rebuild may change. -/
noncomputable def rebuildParts : Nat := 0x3fffe07fffffffff01fffffffffe0002000001ffe07fffff807ffffffffffc00000032

theorem pick_rebuildParts (s t : State) : State.pick rebuildParts s t = { s with
      regs := t.regs, free := t.free, out := t.out, start := t.start, keep := t.keep, chron := t.chron,
      prot := t.prot, merge := t.merge, pages := t.pages, xlat := t.xlat, err := t.err, shelf := t.shelf,
      telem := t.telem } := rfl

/-- The register fields that the end of the rebuild may write. -/
noncomputable def rebuildFields : List Field := [
  Reg.CHAN_G_EVAC_STATUS_ACTIVE, Reg.CHAN_G_EVAC_STATUS_REMAINING, Reg.CHRON_DROP_CNT, Reg.CHRON_REPEAT_CNT,
  Reg.ERR_HEALTH_EVENT_POISON_FULL, Reg.ERR_POISON_LIST_OVERFLOW, Reg.ERR_POISON_LIST_RECORDS, Reg.MERGE_DRAIN_CNT,
  Reg.MERGE_PARTIAL_LINES, Reg.MERGE_SETTLING_LINES, Reg.MERGE_STATUS_DIRTY, Reg.MERGE_STATUS_LIMIT,
  Reg.PROT_INTEG_DIRTY_LINES, Reg.TELEM_BLK_OVF_OVF, Reg.XLAT_COLD_COUNT_BLOCKS, Reg.XLAT_EQ_SEQ_CNT,
  Reg.XLAT_HOT_COUNT_BLOCKS, Reg.XLAT_LIFTED_PAGES, Reg.XLAT_MOVES_ACTIVE, Reg.XLAT_MOVES_QUEUED,
  Reg.XLAT_PINNED_LINES, Reg.XLAT_POOL_STATUS_FREE, Reg.XLAT_REBUILD_RECON, Reg.XLAT_REBUILD_RESUMED,
  Reg.XLAT_REBUILD_STROKES, Reg.XLAT_RELOC_CNT]

theorem rebuildComplete_framed (strokes : Nat) :
    EndsFramed rebuildParts rebuildFields (.rebuildComplete strokes) := fun s => by
  refine ⟨_, rfl, .ite (fun _ => .rfl) fun _ => ?_⟩
  extract_lets s1 s2
  have h1 : Framed rebuildParts rebuildFields s s1 :=
    ((Framed.rfl.via (rebuild_within _) (by apply rebuild_regs <;> decide) rfl).quiet
      (unsealSlots_within _) rfl rfl).quiet (markedBlocks_within _) rfl rfl
  have h2 : Framed rebuildParts rebuildFields s s2 := (h1.wr (by decide) rfl).flash rfl
  clear_value s2
  exact h2.set rfl rfl

/-- The parts that the end of step 7 may change. -/
noncomputable def rootVerifyParts : Nat := 0x28000000000000002000000000000f400401000040002003cfffff0050000000022

theorem pick_rootVerifyParts (s t : State) : State.pick rootVerifyParts s t = { s with
      regs := t.regs, out := t.out, keep := t.keep, internals := t.internals,
      start := { s.start with step7 := t.start.step7, step9 := t.start.step9 },
      chron := { s.chron with
        perm := t.chron.perm, ring := t.chron.ring, buffer := t.chron.buffer, nextSerial := t.chron.nextSerial,
        runs := t.chron.runs, dropped := t.chron.dropped },
      prot := { s.prot with integState := t.prot.integState, rekeys := t.prot.rekeys },
      merge := { s.merge with marker := t.merge.marker },
      cache := { s.cache with
        lines := t.cache.lines, host := t.cache.host, snoops := t.cache.snoops, clock := t.cache.clock,
        biCredits := t.cache.biCredits },
      err := { s.err with wake := t.err.wake },
      telem := { s.telem with counts := t.telem.counts, bwRead := t.telem.bwRead } } := rfl

/-- The register fields that the end of step 7 may write. -/
noncomputable def rootVerifyFields : List Field := [
  Reg.CHRON_DROP_CNT, Reg.CHRON_REPEAT_CNT, Reg.DIR_BCAST_CNT, Reg.DIR_BISNP_CNT, Reg.DIR_EVBUF_USED,
  Reg.DIR_HOST_OVF_ENTRIES, Reg.DIR_HOST_STATUS_ENTRIES, Reg.DIR_SLICE_STATUS_ENTRIES, Reg.MERGE_DSC,
  Reg.TELEM_BLK_OVF_OVF]

theorem integrityRootVerifyComplete_framed (failed : List Nat) :
    EndsFramed rootVerifyParts rootVerifyFields (.integrityRootVerifyComplete failed) := fun s => by
  refine ⟨_, rfl, .ite (fun _ => .rfl) fun _ => ?_⟩
  extract_lets warm s1 err s2 s3 s4 merge start s5
  have h1 : Framed rootVerifyParts rootVerifyFields s s1 :=
    Framed.rfl.via (verifyRoots_within ..) (by apply verifyRoots_regs <;> decide) rfl
  have h2 : Framed rootVerifyParts rootVerifyFields s s2 := .ite (fun _ => h1) fun _ => h1.set rfl rfl
  have h3 : Framed rootVerifyParts rootVerifyFields s s3 := .foldl
    (fun _ _ => Framed.rfl.via (queuePass_within ..) (by apply queuePass_regs <;> decide) rfl) _ h2
  have h4 : Framed rootVerifyParts rootVerifyFields s s4 := .ite
    (fun _ => h3.via (raiseDsc_within ..) (by apply raiseDsc_regs <;> decide) rfl) fun _ => h3
  have h5 : Framed rootVerifyParts rootVerifyFields s s5 := h4.set rfl rfl
  exact (h5.quiet (savePage1_within _) rfl rfl).flash rfl

/-- The parts that the report of Ready may change. -/
noncomputable def readyParts : Nat := 0x280400000000000001c0000010001000000000400000000003ffff8000000080022

theorem pick_readyParts (s t : State) : State.pick readyParts s t = { s with
      regs := t.regs, out := t.out, keep := t.keep, share := t.share, imageOps := t.imageOps,
      pwr := { s.pwr with dirtySet := t.pwr.dirtySet },
      start := { s.start with copying := t.start.copying },
      sched := { s.sched with since := t.sched.since },
      err := { s.err with
        patrolPos := t.err.patrolPos, patrolStart := t.err.patrolStart, visited := t.err.visited },
      shelf := { s.shelf with timeKnown := t.shelf.timeKnown },
      telem := { s.telem with counts := t.telem.counts, bwRead := t.telem.bwRead } } := rfl

/-- The register fields that the report of Ready may write. -/
noncomputable def readyFields : List Field := [
  Reg.SCHED_STATUS_BOUND_ACTIVE, Reg.TELEM_BLK_OVF_OVF, Reg.TOP_STATUS_READY]

theorem mediaReady_framed : EndsFramed readyParts readyFields .mediaReady := fun s => by
  refine ⟨_, rfl, .ite (fun _ => .rfl) fun _ => ?_⟩
  extract_lets err s1
  have h1 : Framed readyParts readyFields s s1 := Framed.rfl.set rfl rfl
  exact (h1.via (becomeReady_within _) (becomeReady_regs _ (by decide) (by decide)) rfl).quiet
    (startCopy_within _) rfl rfl

theorem wakePatrolEnd_framed :
    EndsFramed endParts [Reg.CHAN_G_AGE_WAKE, Reg.TELEM_BLK_OVF_OVF] .wakePatrolEnd := fun _ =>
  ⟨_, rfl, .ite (fun _ => Framed.rfl.setBit _ (by decide) rfl) fun _ => .rfl⟩

/-- The parts that the end of a copy of STAGING may change. -/
noncomputable def stagingCopyParts : Nat := 0x280000000000000000000000000010000000000000000003cfffff8000000000022

theorem pick_stagingCopyParts (s t : State) : State.pick stagingCopyParts s t = { s with
      regs := t.regs, out := t.out, keep := t.keep, imageOps := t.imageOps,
      start := { s.start with copying := t.start.copying },
      chron := { s.chron with
        perm := t.chron.perm, ring := t.chron.ring, buffer := t.chron.buffer, nextSerial := t.chron.nextSerial,
        runs := t.chron.runs, dropped := t.chron.dropped },
      telem := { s.telem with counts := t.telem.counts, bwRead := t.telem.bwRead } } := rfl

theorem stagingCopyComplete_framed (ok : Bool) :
    EndsFramed stagingCopyParts recordFields (.stagingCopyComplete ok) := fun s => by
  refine ⟨_, rfl, .ite (fun _ => .rfl) fun _ => .ite (fun _ => ?_) fun _ => ?_⟩
  · extract_lets d start s1 s2
    have h1 : Framed stagingCopyParts recordFields s s1 := Framed.rfl.set rfl rfl
    have h2 : Framed stagingCopyParts recordFields s s2 := h1.setDescr _ rfl
    exact (h2.record (by decide) (by decide) rfl).flash rfl
  · have hagain : Framed stagingCopyParts recordFields s { s with imageOps := s.imageOps ++ [ImageOp.copy] } :=
      Framed.rfl.set rfl rfl
    exact hagain.flash rfl

/-! ### Warm device reset (R274, R275) -/

/-- The parts that the start of a warm device reset may change. -/
noncomputable def warmStartParts : Nat := 0x1ffffffffffffffff000000000001fff17ffffffff1ffffff807ffffffffffc00000062

theorem pick_warmStartParts (s t : State) : State.pick warmStartParts s t = { s with
      regs := t.regs, out := t.out, msixEn := t.msixEn, start := t.start, keep := t.keep, chron := t.chron,
      prot := t.prot, sessions := t.sessions, reqs := t.reqs, decoders := t.decoders, merge := t.merge,
      mbox := t.mbox, cache := t.cache, imageOps := t.imageOps, chans := t.chans, sched := t.sched,
      shelf := t.shelf, fw := t.fw, telem := t.telem, cfgSpace := t.cfgSpace, bar0 := t.bar0, d3 := t.d3 } := rfl

/-- The register fields that the start of a warm device reset may write. -/
noncomputable def warmStartFields : List Field := [
  Reg.CHRON_DROP_CNT, Reg.CHRON_REPEAT_CNT, Reg.MERGE_STATUS_CAPO, Reg.PORT_EVENT_LINK_DOWN, Reg.PORT_LINKDOWN_CNT,
  Reg.PORT_LINK_STATUS0_FLIT, Reg.PORT_LINK_STATUS0_IDE, Reg.PORT_LINK_STATUS0_RATE, Reg.PORT_LINK_STATUS0_UP,
  Reg.PORT_LINK_STATUS0_WIDTH, Reg.PORT_LINK_STATUS1_FLIT, Reg.PORT_LINK_STATUS1_IDE, Reg.PORT_LINK_STATUS1_RATE,
  Reg.PORT_LINK_STATUS1_UP, Reg.PORT_LINK_STATUS1_WIDTH, Reg.SESS_SPILL_STATUS_SHARED_FREE, Reg.SHELF_ACT_STATUS_ACT,
  Reg.TELEM_BLK_OVF_OVF, Reg.TOP_STATUS_CAPO, Reg.TOP_STATUS_READY, Reg.TOP_STATUS_WARM_BUSY]

theorem startWarm_framed {s t : State} (h : Framed warmStartParts warmStartFields s t) :
    Framed warmStartParts warmStartFields s t.startWarm :=
  h.via (startWarm_within _) (by apply startWarm_regs <;> decide) rfl

theorem deviceReset_framed (p : CmdPath) : EndsFramed warmStartParts warmStartFields (.deviceReset p) := fun _ =>
  ⟨_, rfl, command_framed _ _ _ _ (fun _ => .ite (fun _ => Framed.rfl.reply _ _ _ _ rfl) fun _ =>
    (startWarm_framed ((Framed.rfl.reply _ _ _ _ rfl).record (by decide) (by decide) rfl)).flash rfl) rfl⟩

theorem topCtrlWarmReset_framed (v : Word) :
    EndsFramed warmStartParts warmStartFields (.topCtrlWarmReset v) := fun _ =>
  ⟨_, rfl, .ite (fun _ => startWarm_framed .rfl) fun _ => .rfl⟩

/-- The parts that the end of a warm device reset's flush may change. -/
noncomputable def warmFlushParts : Nat := 0x1ffffffffffffffff01ffffffffffffeffffffffff7fffffffffffffffffffffffffd7a

theorem pick_warmFlushParts (s t : State) : State.pick warmFlushParts s t = { s with
      regs := t.regs, clears := t.clears, free := t.free, out := t.out, msixEn := t.msixEn, intOwed := t.intOwed,
      pwr := t.pwr, start := t.start, keep := t.keep, chron := t.chron, events := t.events, prot := t.prot,
      sessions := t.sessions, reqs := t.reqs, nextRid := t.nextRid, share := t.share, decoders := t.decoders,
      merge := t.merge, mbox := t.mbox, cache := t.cache, internals := t.internals, imageOps := t.imageOps,
      pages := t.pages, ops := t.ops, deltas := t.deltas, sched := t.sched, xlat := t.xlat, err := t.err,
      shelf := t.shelf, fw := t.fw, telem := t.telem, cfgSpace := t.cfgSpace, bar0 := t.bar0, d3 := t.d3 } := rfl

theorem warmResetFlushDone_within : EndsWithin warmFlushParts .warmResetFlushDone := fun _ =>
  ⟨_, rfl, .ite (fun _ => .rfl) fun _ => (warmFlushed_within _).on rfl .rfl⟩

/-- The parts that the end of a warm device reset may change. -/
noncomputable def warmEndParts : Nat := 0x2804000000000000000000001000000000000040000000000000006000000080022

theorem pick_warmEndParts (s t : State) : State.pick warmEndParts s t = { s with
      regs := t.regs, out := t.out, share := t.share,
      pwr := { s.pwr with dirtySet := t.pwr.dirtySet },
      start := { s.start with warm := t.start.warm, warmLoss := t.start.warmLoss },
      sched := { s.sched with since := t.sched.since },
      shelf := { s.shelf with timeKnown := t.shelf.timeKnown },
      telem := { s.telem with counts := t.telem.counts, bwRead := t.telem.bwRead } } := rfl

/-- The register fields that the end of a warm device reset may write. -/
noncomputable def warmEndFields : List Field := [
  Reg.SCHED_STATUS_BOUND_ACTIVE, Reg.TELEM_BLK_OVF_OVF, Reg.TOP_STATUS_READY, Reg.TOP_STATUS_WARM_BUSY]

theorem warmResetComplete_framed : EndsFramed warmEndParts warmEndFields .warmResetComplete := fun s => by
  refine ⟨_, rfl, .ite (fun _ => .rfl) fun _ => ?_⟩
  have hended : Framed warmEndParts warmEndFields s
      { s with start := { s.start with warm := 0, warmLoss := false } } := Framed.rfl.set rfl rfl
  exact (hended.via (becomeReady_within _) (becomeReady_regs _ (by decide) (by decide)) rfl).setBit _ (by decide) rfl

/-! ### Transfers of an image (R345) -/

theorem transferFwFull_framed (p : CmdPath) :
    EndsFramed sessionGetParts [Reg.TELEM_BLK_OVF_OVF] (.transferFwFull p) := fun _ =>
  ⟨_, rfl, command_framed _ _ _ _ (fun _ => Framed.rfl.reply _ _ _ _ rfl) rfl⟩

/-- The parts that the start or the abort of a transfer may change. -/
noncomputable def transferParts : Nat := 0x281800000000000000000000000010000060000000000003cfffff0000000000022

theorem pick_transferParts (s t : State) : State.pick transferParts s t = { s with
      regs := t.regs, out := t.out, keep := t.keep, imageOps := t.imageOps,
      chron := { s.chron with
        perm := t.chron.perm, ring := t.chron.ring, buffer := t.chron.buffer, nextSerial := t.chron.nextSerial,
        runs := t.chron.runs, dropped := t.chron.dropped },
      mbox := { s.mbox with stored := t.mbox.stored, bg := t.mbox.bg },
      fw := { s.fw with transfer := t.fw.transfer, cmd := t.fw.cmd },
      telem := { s.telem with counts := t.telem.counts, bwRead := t.telem.bwRead } } := rfl

theorem transferFwInitiate_framed (p : CmdPath) (slot offset : Nat) (units : List Nat) (header : ImageReport) :
    EndsFramed transferParts recordFields (.transferFwInitiate p slot offset units header) := fun _ => by
  refine ⟨_, rfl, command_framed _ _ _ _ (fun t => ?_) rfl⟩
  have hreply (rc : Rc) (ext : Nat) : Framed transferParts recordFields t (t.reply p rc ext) :=
    Framed.rfl.reply _ _ _ _ rfl
  refine .ite (fun _ => hreply ..) fun _ => .ite (fun _ => hreply ..) fun _ => .ite (fun _ => hreply ..) fun _ => ?_
  split
  · exact .ite (fun _ => hreply ..) fun _ => hreply ..
  · exact Framed.rfl.via (openTransfer_within ..) (by apply openTransfer_regs <;> decide) rfl

theorem transferFwAbort_framed (p : CmdPath) : EndsFramed transferParts recordFields (.transferFwAbort p) := fun _ => by
  refine ⟨_, rfl, command_framed _ _ _ _ (fun t => .ite (fun _ => Framed.rfl.reply _ _ _ _ rfl) fun _ => ?_) rfl⟩
  split
  · exact Framed.rfl.via (abortTransfer_within ..) (by apply abortTransfer_regs <;> decide) rfl
  · refine .ite (fun _ => ?_) fun _ => Framed.rfl.reply _ _ _ _ rfl
    exact ((Framed.rfl.setDescr _ rfl).via (transferRecord_within ..)
      (transferRecord_regs _ _ _ (by decide) (by decide)) rfl).reply _ _ _ _ rfl

/-- The parts that the data of an open transfer may change. -/
noncomputable def transferDataParts : Nat := 0x28180000000000000000000000001000006000000000000003ffff0000000000022

theorem pick_transferDataParts (s t : State) : State.pick transferDataParts s t = { s with
      regs := t.regs, out := t.out, keep := t.keep, imageOps := t.imageOps,
      mbox := { s.mbox with stored := t.mbox.stored, bg := t.mbox.bg },
      fw := { s.fw with transfer := t.fw.transfer, cmd := t.fw.cmd },
      telem := { s.telem with counts := t.telem.counts, bwRead := t.telem.bwRead } } := rfl

/-- The data of a command of the open transfer is taken. -/
theorem ownTransfer_takeUnits_framed (s : State) (p : CmdPath) (slot offset : Nat) (units : List Nat)
    (header : ImageReport) (last : Bool) : Framed transferDataParts [Reg.TELEM_BLK_OVF_OVF] s
      (s.ownTransfer p slot fun s t => s.takeUnits p t offset units header last) :=
  have htaken (u : State) (t : Transfer) : Framed transferDataParts [Reg.TELEM_BLK_OVF_OVF] u
      (u.takeUnits p t offset units header last) := Framed.rfl.quiet (takeUnits_within ..) rfl rfl
  ⟨ownTransfer_within _ _ _ _ rfl fun u t => (htaken u t).1, ownTransfer_regs _ _ _ _ fun u t => (htaken u t).2⟩

theorem transferFwContinue_framed (p : CmdPath) (slot offset : Nat) (units : List Nat) (header : ImageReport) :
    EndsFramed transferDataParts [Reg.TELEM_BLK_OVF_OVF] (.transferFwContinue p slot offset units header) := fun _ =>
  ⟨_, rfl, command_framed _ _ _ _ (fun _ => ownTransfer_takeUnits_framed ..) rfl⟩

theorem transferFwEnd_framed (p : CmdPath) (slot offset : Nat) (units : List Nat) (report : ImageReport) :
    EndsFramed transferDataParts [Reg.TELEM_BLK_OVF_OVF] (.transferFwEnd p slot offset units report) := fun _ =>
  ⟨_, rfl, command_framed _ _ _ _ (fun _ => ownTransfer_takeUnits_framed ..) rfl⟩

/-! ### Activations of an image (R13, R94, R346, R347) -/

/-- An activation that is not refused goes on within the frame. -/
theorem activateCheck_framed {m : Nat} {l : List Field} {s : State} (p : CmdPath) (now : Bool) {f : State → State}
    (hf : ∀ t, Framed m l t (f t)) (hm : 0x200000000000000000000000000000020 ||| m = m) :
    Framed m l s (s.activateCheck p now f) :=
  ⟨activateCheck_within _ _ _ _ hm fun t => (hf t).1, activateCheck_regs _ _ _ _ fun t => (hf t).2⟩

/-- The parts that the start of an activation may change. -/
noncomputable def activateParts : Nat := 0x28200000000000000000000000001000006000000000000003ffff0000000000022

theorem pick_activateParts (s t : State) : State.pick activateParts s t = { s with
      regs := t.regs, out := t.out, keep := t.keep, imageOps := t.imageOps,
      mbox := { s.mbox with stored := t.mbox.stored, bg := t.mbox.bg },
      fw := { s.fw with act := t.fw.act },
      telem := { s.telem with counts := t.telem.counts, bwRead := t.telem.bwRead } } := rfl

theorem startActivation_framed (s : State) (p : CmdPath) (kind : ActKind) (stroke : Option Nat) :
    Framed activateParts [Reg.TELEM_BLK_OVF_OVF] s (s.startActivation p kind stroke) :=
  Framed.rfl.quiet (startActivation_within ..) rfl rfl

theorem activateFwOnline_framed (p : CmdPath) (slot : Nat) :
    EndsFramed activateParts [Reg.TELEM_BLK_OVF_OVF] (.activateFwOnline p slot) := fun _ =>
  ⟨_, rfl, command_framed _ _ _ _ (fun _ => .ite (fun _ => Framed.rfl.reply _ _ _ _ rfl) fun _ =>
    activateCheck_framed _ _ (fun _ => startActivation_framed ..) rfl) rfl⟩

theorem activateAt_framed (p : CmdPath) (stroke : Nat) :
    EndsFramed activateParts [Reg.TELEM_BLK_OVF_OVF] (.activateAt p stroke) := fun _ =>
  ⟨_, rfl, command_framed _ _ _ _ (fun _ => activateCheck_framed _ _
    (fun _ => .ite (fun _ => Framed.rfl.reply _ _ _ _ rfl) fun _ => startActivation_framed ..) rfl) rfl⟩

/-- The parts that an activation at the next cold reset may change. -/
noncomputable def nextColdResetParts : Nat := 0x280000000000000000000000000000000020000000000003cfffff0000000000022

theorem pick_nextColdResetParts (s t : State) : State.pick nextColdResetParts s t = { s with
      regs := t.regs, out := t.out, keep := t.keep,
      chron := { s.chron with
        perm := t.chron.perm, ring := t.chron.ring, buffer := t.chron.buffer, nextSerial := t.chron.nextSerial,
        runs := t.chron.runs, dropped := t.chron.dropped },
      mbox := { s.mbox with stored := t.mbox.stored },
      telem := { s.telem with counts := t.telem.counts, bwRead := t.telem.bwRead } } := rfl

theorem activateFwNextColdReset_framed (p : CmdPath) (slot : Nat) (report : ImageReport) :
    EndsFramed nextColdResetParts recordFields (.activateFwNextColdReset p slot report) := fun _ => by
  refine ⟨_, rfl, command_framed _ _ _ _ (fun _ => .ite (fun _ => Framed.rfl.reply _ _ _ _ rfl) fun _ =>
    activateCheck_framed _ _ (fun t => ?_) rfl) rfl⟩
  extract_lets f s1
  refine .ite (fun _ => ?_) fun _ => ?_
  · exact (Framed.rfl.via (refuseStaging_within ..) (refuseStaging_regs _ _ _ (by decide) (by decide)) rfl).reply
      _ _ _ _ rfl
  · exact ((Framed.rfl.setDescr _ rfl).via (activationRecord_within ..)
      (activationRecord_regs _ _ (by decide) (by decide)) rfl).reply _ _ _ _ rfl

/-- The parts that the end of a load of tables may change. -/
noncomputable def loadTableParts : Nat := 0x282000800000000000000000000110000060000000000003cfffff0000000000022

theorem pick_loadTableParts (s t : State) : State.pick loadTableParts s t = { s with
      regs := t.regs, out := t.out, keep := t.keep, imageOps := t.imageOps, chans := t.chans,
      chron := { s.chron with
        perm := t.chron.perm, ring := t.chron.ring, buffer := t.chron.buffer, nextSerial := t.chron.nextSerial,
        runs := t.chron.runs, dropped := t.chron.dropped },
      mbox := { s.mbox with stored := t.mbox.stored, bg := t.mbox.bg },
      shelf := { s.shelf with act := t.shelf.act },
      fw := { s.fw with act := t.fw.act },
      telem := { s.telem with counts := t.telem.counts, bwRead := t.telem.bwRead } } := rfl

/-- The register fields that the end of a load of tables may write. -/
noncomputable def loadTableFields : List Field := [
  Reg.CHRON_DROP_CNT, Reg.CHRON_REPEAT_CNT, Reg.SHELF_ACT_STATUS_ACT, Reg.TELEM_BLK_OVF_OVF]

theorem loadTableComplete_framed (ok : Bool) :
    EndsFramed loadTableParts loadTableFields (.loadTableComplete ok) := fun s => by
  refine ⟨_, rfl, ?_⟩
  split
  · exact .rfl
  next a _ =>
  refine .ite (fun _ => .rfl) fun _ => .ite (fun _ => ?_) fun _ => .ite (fun _ => .rfl) fun _ => ?_
  · exact Framed.rfl.via (loadFailed_within ..) (by apply loadFailed_regs <;> decide) rfl
  · extract_lets fw s1
    have h1 : Framed loadTableParts loadTableFields s s1 := Framed.rfl.set rfl rfl
    exact .ite (fun _ => h1.via (setAct_within ..) (setAct_regs _ _ (by decide)) rfl) fun _ => h1

/-- The parts that an activation that takes effect may change. -/
noncomputable def takeEffectParts : Nat := 0x29a0000000000fe000000000008100000060000000000003cfffff0000000000022

theorem pick_takeEffectParts (s t : State) : State.pick takeEffectParts s t = { s with
      regs := t.regs, out := t.out, keep := t.keep, chans := t.chans, img := t.img,
      chron := { s.chron with
        perm := t.chron.perm, ring := t.chron.ring, buffer := t.chron.buffer, nextSerial := t.chron.nextSerial,
        runs := t.chron.runs, dropped := t.chron.dropped },
      mbox := { s.mbox with stored := t.mbox.stored, bg := t.mbox.bg },
      sched := { s.sched with back := t.sched.back },
      fw := { s.fw with act := t.fw.act, oldBank := t.fw.oldBank, oldPrecond := t.fw.oldPrecond },
      telem := { s.telem with counts := t.telem.counts, bwRead := t.telem.bwRead } } := rfl

/-- The register fields that an activation that takes effect may write. -/
noncomputable def takeEffectFields : List Field := [
  Reg.CHAN_STATUS_TBANK, Reg.CHRON_DROP_CNT, Reg.CHRON_REPEAT_CNT, Reg.ERR_PATROL_CFG_HORIZON,
  Reg.SCHED_STATUS_LAYOUT, Reg.TELEM_BLK_OVF_OVF, Reg.TOP_STATUS_RECOVERY]

theorem activationTakeEffect_framed :
    EndsFramed takeEffectParts takeEffectFields .activationTakeEffect := fun s => by
  refine ⟨_, rfl, ?_⟩
  split
  · exact .rfl
  · exact .ite (fun _ => .rfl) fun _ =>
      Framed.rfl.via (takeEffect_within ..) (by apply takeEffect_regs <;> decide) rfl

/-- The parts that the release of the old bank may change. -/
noncomputable def bankReleaseParts : Nat := 0x2980000000000000000000000001000000000000000000000000000000000000022

theorem pick_bankReleaseParts (s t : State) : State.pick bankReleaseParts s t = { s with
      regs := t.regs, out := t.out, chans := t.chans,
      fw := { s.fw with oldBank := t.fw.oldBank, oldPrecond := t.fw.oldPrecond },
      telem := { s.telem with counts := t.telem.counts, bwRead := t.telem.bwRead } } := rfl

theorem oldBankRelease_framed : EndsFramed bankReleaseParts [Reg.TELEM_BLK_OVF_OVF] .oldBankRelease := fun s => by
  refine ⟨_, rfl, .ite (fun _ => .rfl) fun _ => ?_⟩
  have hreleased : Framed bankReleaseParts [Reg.TELEM_BLK_OVF_OVF] s
      { s with fw := { s.fw with oldBank := false, oldPrecond := [] } } := Framed.rfl.set rfl rfl
  exact hreleased.quiet (releaseSpare_within _) rfl rfl

/-! ### The flash operation on an image slot ends -/

/-- The parts that the end of a flash operation on an image slot may change. -/
noncomputable def slotFlashParts : Nat := 0x283800000000000000000000000110000060000000000003cfffff0000000000022

theorem pick_slotFlashParts (s t : State) : State.pick slotFlashParts s t = { s with
      regs := t.regs, out := t.out, keep := t.keep, imageOps := t.imageOps, chans := t.chans,
      chron := { s.chron with
        perm := t.chron.perm, ring := t.chron.ring, buffer := t.chron.buffer, nextSerial := t.chron.nextSerial,
        runs := t.chron.runs, dropped := t.chron.dropped },
      mbox := { s.mbox with stored := t.mbox.stored, bg := t.mbox.bg },
      fw := { s.fw with transfer := t.fw.transfer, cmd := t.fw.cmd, act := t.fw.act },
      telem := { s.telem with counts := t.telem.counts, bwRead := t.telem.bwRead } } := rfl

theorem imageSlotFlashComplete_framed (what : FlashEnd) :
    EndsFramed slotFlashParts recordFields (.imageSlotFlashComplete what) := fun s => by
  have hdone : Framed slotFlashParts recordFields s s.imageOpDone :=
    Framed.rfl.quiet (imageOpDone_within _) rfl rfl
  refine ⟨_, rfl, ?_⟩
  cases what with
  | transferWrite ok check =>
    refine .ite (fun _ => .rfl) fun _ => ?_
    split
    · exact hdone.via (transferWritten_within ..) (by apply transferWritten_regs <;> decide) rfl
    · exact hdone.flash rfl
  | activationRead r =>
    refine .ite (fun _ => .rfl) fun _ => ?_
    split
    · exact (hdone.via (stagingRead_within ..) (by apply stagingRead_regs <;> decide) rfl).flash rfl
    · exact hdone.flash rfl
  | copyProgram ok =>
    have hagain : Framed slotFlashParts recordFields s
        { s.imageOpDone with imageOps := s.imageOpDone.imageOps ++ [ImageOp.copy] } := hdone.set rfl rfl
    exact .ite (fun _ => .rfl) fun _ => .ite (fun _ => hdone.flash rfl) fun _ => hagain.flash rfl
  | tableChunk c => exact .ite (fun _ => .rfl) fun _ => (hdone.quiet (emit_within ..) rfl rfl).flash rfl

/-- Settles O56: the frame of each command, with what its end adds, is the one that its clause lists. -/
theorem powerAndStartFrames : Obligations.PowerAndStartFrames :=
  ⟨fun a b c d e f => (auxApply_framed a b c d e f).changes pick_auxApplyParts rfl rfl (by decide),
    auxRemove_within.changes pick_powerDownParts rfl rfl,
    fun a => (pwrfailNQualify_within a).changes pick_powerDownParts rfl rfl,
    fun a => (pwrfailNGlitch_framed a).changes pick_glitchParts rfl rfl (by decide),
    fun a => (pwrfailNHigh100ms_framed a).changes pick_pinHighParts rfl rfl (by decide),
    fun a b => (powerUpPackage_framed a b).changes pick_packageUpParts rfl rfl (by decide),
    fun a => (railTurnOn_within a).changes pick_powerDownParts rfl rfl,
    fun a b => (rampPoll_within a b).changes pick_rampParts rfl rfl,
    railRampLimit_within.changes pick_powerDownParts rfl rfl,
    powerUpMedia_framed.changes pick_mediaUpParts rfl rfl (by decide),
    fun a => (servicePoll_within a).changes pick_powerDownParts rfl rfl,
    fun a => (decayPoll_within a).changes pick_decayParts rfl rfl,
    fun a => (decayLimitExpiry_framed a).changes pick_decayLimitParts rfl rfl (by decide),
    fun a => (offHoldExpiry_framed a).changes pick_offHoldParts rfl rfl (by decide),
    fun a => (thermtrip_within a).changes pick_powerDownParts rfl rfl,
    fun a => (capoFlushComplete_framed a).changes pick_capoFlushParts rfl rfl (by decide),
    fun a b => (capoSaveComplete_within a b).changes pick_powerDownParts rfl rfl,
    warmResumption_framed.changes pick_resumptionParts rfl rfl (by decide),
    fun a => (loadTableComplete_framed a).changes pick_loadTableParts rfl rfl (by decide),
    rebuildStart_framed.changes pick_rebuildStartParts rfl rfl (by decide),
    fun a => (rebuildComplete_framed a).changes pick_rebuildParts rfl rfl (by decide),
    fun a => (hbmFillComplete_framed a).changes pick_hbmFillParts rfl rfl (by decide),
    fun a => (integrityRootVerifyComplete_framed a).changes pick_rootVerifyParts rfl rfl (by decide),
    fun a b => (imageVerifyComplete_framed a b).changes pick_imageVerifyParts rfl rfl (by decide),
    mediaReady_framed.changes pick_readyParts rfl rfl (by decide),
    wakePatrolEnd_framed.changes pick_endParts rfl rfl (by decide),
    fun a => (stagingCopyComplete_framed a).changes pick_stagingCopyParts rfl rfl (by decide),
    warmResetFlushDone_within.changes pick_warmFlushParts rfl rfl,
    warmResetComplete_framed.changes pick_warmEndParts rfl rfl (by decide),
    fun a => (pwrCntClr_framed a).changes pick_clearParts rfl rfl (by decide),
    fun a => (transferFwFull_framed a).changes pick_sessionGetParts rfl rfl (by decide),
    fun a b c d e => (transferFwInitiate_framed a b c d e).changes pick_transferParts rfl rfl (by decide),
    fun a b c d e => (transferFwContinue_framed a b c d e).changes pick_transferDataParts rfl rfl (by decide),
    fun a b c d e => (transferFwEnd_framed a b c d e).changes pick_transferDataParts rfl rfl (by decide),
    fun a => (transferFwAbort_framed a).changes pick_transferParts rfl rfl (by decide),
    fun a b => (activateFwOnline_framed a b).changes pick_activateParts rfl rfl (by decide),
    fun a b c => (activateFwNextColdReset_framed a b c).changes pick_nextColdResetParts rfl rfl (by decide),
    fun a b => (activateAt_framed a b).changes pick_activateParts rfl rfl (by decide),
    activationTakeEffect_framed.changes pick_takeEffectParts rfl rfl (by decide),
    oldBankRelease_framed.changes pick_bankReleaseParts rfl rfl (by decide),
    fun a => (deviceReset_framed a).changes pick_warmStartParts rfl rfl (by decide),
    fun a => (topCtrlWarmReset_framed a).changes pick_warmStartParts rfl rfl (by decide),
    fun a => (hbmTrainingComplete_within a).changes pick_rampParts rfl rfl,
    fun a => (imageSlotFlashComplete_framed a).changes pick_slotFlashParts rfl rfl (by decide)⟩

end Sys2Proof.Machine
end

section
/-! SUPPORT. A step and the reset state (R63, R64, R330, R373): O40 and O41. -/

namespace Sys2Proof.Machine

-- One proof at a time: each proof elaborated beside another needs a thread's stack, and the text has a memory limit.
set_option Elab.async false

/-- Settles O40: a step is `exec` on the front of the queue, and idling on an empty queue is the model's choice (log
entry 1). -/
theorem stepTakesTheFrontCommand : Obligations.StepTakesTheFrontCommand :=
  ⟨fun _ _ => rfl, fun s h => by rw [step, h]⟩

/-- Settles O41: a table without entries reads as the reset value of its field. A field that no register table gives a
value (log entry 3), no AUX (log entry 2) and the empty medium and tables (log entries 2, 40) are the model's choice. -/
theorem resetState : Obligations.ResetState :=
  ⟨fun f a b => Tab.get_nil (f.resetAt a) (f.key a b), rfl, rfl, rfl, rfl, rfl, rfl, rfl, rfl, rfl, rfl, rfl, rfl⟩

end Sys2Proof.Machine
end

section
/-! SUPPORT. What follows the work of a command, shelf points and coordinated activations (R322 to R324), and O33. -/

namespace Sys2Proof.Machine

-- One proof at a time: each proof elaborated beside another needs a thread's stack, and the text has a memory limit.
set_option Elab.async false

open Sys2Proof

/-! ### What follows the work of a command -/

/-- The parts that records, the keep and its flash, the end of a use of SHELF CONTROL and the end of a command may change. -/
noncomputable def afterParts : Nat := 0x280000002000000000000000000000000060000000000003cfffff0000020000023

noncomputable def afterFields : List Field := [Reg.CHRON_DROP_CNT, Reg.CHRON_REPEAT_CNT, Reg.TELEM_BLK_OVF_OVF, Reg.KEEP_STATUS_TIE]

/-- From `s` to `t` nothing has changed but what follows the work of a command. -/
def After (s t : State) : Prop := Framed afterParts afterFields s t

theorem After.refl (s : State) : After s s := Framed.rfl

theorem After.chronicle {s t : State} (h : After s t) (code source sev : Nat) (l : List Nat) :
    After s (t.chronicle code source sev l) := h.record List.mem_cons_self (List.mem_cons_of_mem _ List.mem_cons_self) rfl

theorem After.rd {s t : State} (h : After s t) {f : Field} (hf : afterFields.all f.apartFrom = true) : t.rd f = s.rd f :=
  rd_of_apart h.2 hf

theorem After.ended {s t : State} (q : State) (h : After s t) : After s (q.ended t) :=
  ⟨Within.on (b := 1) (rfl : q.ended t = State.pick 1 (settle q t) (q.ended t)) rfl ((settle_within q t).on rfl h.1),
    (settle_regs q t (List.mem_cons_of_mem _ (List.mem_cons_of_mem _ List.mem_cons_self))).on h.2⟩

/-- A command answers whatever holds after its work. -/
theorem answers_of_after {i : Instr} {s u x : State} {P : State → Prop} (h : exec i s = done s u) (hu : After x u)
    (hP : ∀ t, After x t → P t) : answers i s P := answers_of_eq_done h (hP _ (hu.ended s))

/-! ### Branches of a work -/

theorem or_false_of {a b : Bool} (ha : a = false) (hb : b = false) : (a || b) = false := Bool.or_eq_false_iff.2 ⟨ha, hb⟩

theorem not_false_of {a : Bool} (h : a = true) : (!a) = false := congrArg not h

theorem if_false {c : Bool} {a b : State} (h : c = false) : (if c = true then a else b) = b := if_neg (ne_true_of_eq_false h)

theorem ite_both {α : Type} {P : α → Prop} {c : Prop} [Decidable c] {a b : α} (ha : P a) (hb : P b) :
    P (if c then a else b) := if h : c then (if_pos h).symm ▸ ha else (if_neg h).symm ▸ hb

/-- A branch on an option that is known. Where it is used the match of the model stands for its `Option.casesOn`, which the
unifier sees with `smartUnfolding` off. -/
theorem option_some {α : Type} {Q : α → State → Prop} {o : Option α} {n : State} {g : α → State} (hg : ∀ a, Q a (g a)) :
    ∀ a, o = some a → Q a (@Option.casesOn α (fun _ => State) o n (fun v => g v)) := fun a h => h ▸ hg a

/-! ### Uses of SHELF CONTROL end (R337) -/

theorem After.shelf {s t : State} (h : After s t) : t.shelf = { s.shelf with ops := t.shelf.ops } := (congrArg State.shelf h.1 :)

theorem endOp_after (s : State) (o : ShelfOp) (rc : Rc) (data : List Nat) : After s (s.endOp o rc data) :=
  ite_both (P := After s) ((Framed.rfl.set).quiet (reply_within ..) rfl rfl) ((Framed.rfl.set).quiet (bgDone_within ..) rfl rfl)

theorem After.endUses {s t : State} (h : After s t) (u : ShelfUse) (rc : Rc) (data : List Nat) : After s (t.endUses u rc data) :=
  Framed.foldl (fun t o => endOp_after t o rc data) _ h

theorem After.actCheck {s t : State} (h : After s t) : After s t.actCheck := ite_both (P := After s) (h.endUses ..) h

/-! ### A shelf point ends (R322) -/

theorem if_and_false {a b : Bool} {x y : State} (h : a = false) : (if (a && b) = true then x else y) = y :=
  if_false (congrArg (· && b) h)

set_option smartUnfolding false in
theorem shelfPointTick_eq (s : State) : ∀ q : ShelfPoint, s.shelf.point = some q → q.members.isNone = false →
    s.shelfPointTick = s := by
  refine option_some (Q := fun (q : ShelfPoint) t => q.members.isNone = false → t = s) ?_
  exact fun _ => if_and_false

/-- With every member final a point is found complete, and none lost. -/
theorem if_all_final {l : List Nat} {f k : Nat → Bool} {e : List Nat → State} {y : State} (h : l.all f = true) :
    (if (l.all fun p => f p || (!f p && k p)) = true then e (l.filter fun p => !f p && k p) else y) = e [] :=
  (if_pos (List.all_eq_true.2 fun p hp => congrArg (fun b => b || (!b && k p)) (List.all_eq_true.1 h p hp))).trans
    (congrArg e (List.filter_eq_nil_iff.2 fun p hp => ne_true_of_eq_false (congrArg (fun b => !b && k p) (List.all_eq_true.1 h p hp))))

/-- What SHELF_PERSIST_COMPLETE does once its own result is noted. -/
noncomputable def State.pointCheck (s : State) : State :=
  match s.shelf.point with
  | none => s
  | some q =>
    match q.members with
    | none => s
    | some l =>
      if l.all (fun p => s.pointFinal p || s.pointLost q p) then s.endShelfPoint (l.filter (s.pointLost q)) else s

set_option smartUnfolding false in
theorem pointCheck_eq (s : State) : ∀ q : ShelfPoint, s.shelf.point = some q → ∀ l, q.members = some l →
    l.all (fun p => s.pointFinal p) = true → s.pointCheck = s.endShelfPoint [] := by
  refine option_some (Q := fun (q : ShelfPoint) t => ∀ l, q.members = some l → l.all (fun p => s.pointFinal p) = true → t = s.endShelfPoint []) fun q => ?_
  refine option_some (Q := fun (l : List Nat) t => l.all (fun p => s.pointFinal p) = true → t = s.endShelfPoint []) fun l => ?_
  exact if_all_final (f := s.pointFinal)

/-- A point that has ended but for its record and its answers. -/
noncomputable def State.pointDropped (s : State) : State :=
  (s.wr Reg.SHELF_POINT_NOANS_POS (maskOf [])).setShelf (fun x => { x with point := none })

theorem endShelfPoint_after (s : State) : After s.pointDropped (s.endShelfPoint []) :=
  ((After.refl s.pointDropped).chronicle ..).endUses ..

/-! ### A coordinated activation (R323, R324) -/

theorem option_both {α : Type} {P : State → Prop} {o : Option α} {n : State} {g : α → State} (hn : P n) (hg : ∀ a, P (g a)) :
    P (@Option.casesOn α (fun _ => State) o n (fun v => g v)) := Option.rec hn hg o

theorem notActivated_decision {s : State} {stroke d : Nat} (hd : s.decision = d) : (s.notActivated stroke).decision = d :=
  (rd_of_apart (l := [Reg.CHRON_DROP_CNT, Reg.CHRON_REPEAT_CNT, Reg.SHELF_ACT_STATUS_ACT])
    (notActivated_regs s stroke List.mem_cons_self (List.mem_cons_of_mem _ List.mem_cons_self)
      (List.mem_cons_of_mem _ (List.mem_cons_of_mem _ List.mem_cons_self))) rfl).trans hd

set_option smartUnfolding false in
theorem learn_decision {s : State} {seq stroke d : Nat} (hmine : ∀ a, s.shelf.act = some a → a.seq = seq) (h0 : s.decision = 0)
    (hd : d % 4 = d ∧ (0 == d) = false) : (s.learn seq stroke d).decision = d :=
  have hwr : (s.wr Reg.SHELF_ACT_STATUS_DECISION d).decision = d := (rd_wr_self ..).trans hd.1
  (congrArg State.decision (if_false (or_false_of (not_false_of ((Option.all_eq_true _ _).2 fun a h => beq_iff_eq.2 (hmine a h)))
    ((congrArg (· == d) h0).trans hd.2)))).trans
    (ite_both (P := fun t : State => t.decision = d) hwr (option_both (P := fun t : State => t.decision = d) (notActivated_decision hwr)
      fun _ => ite_both (P := fun t : State => t.decision = d) hwr (notActivated_decision hwr)))

/-- What a commit leaves but for its record (R323). -/
noncomputable def State.activated (s : State) (x : ShelfAct) (a : Activation) : State :=
  (((s.takeEffect a).setAct 2).setShelf (fun y => { y with act := none })).setBit Reg.SHELF_ACT_STATUS_LATE x.late

theorem activated_actValue (s : State) (x : ShelfAct) (a : Activation) : (s.activated x a).actValue = 2 :=
  (rd_wr_apart rfl).trans (((setShelf_within ((s.takeEffect a).setAct 2) _).rd rfl).trans (rd_wr_self ..))

theorem and_true_of {a b : Bool} (ha : a = true) (hb : b = true) : (a && b) = true := Bool.and_eq_true_iff.2 ⟨ha, hb⟩

theorem exec_coordinatedActivation {s : State} {x : ShelfAct} {a : Activation} (hx : s.shelf.act = some x) (ha : s.coordAct = some a)
    (hdue : (s.actDue x && a.stage == .loaded && !s.fw.oldBank) = true) :
    exec .coordinatedActivation s = done s (s.coordinate x a).actCheck := by
  refine congrArg (done s) ?_
  rw [hx, ha]
  exact if_pos hdue

theorem done_if_false {s : State} {c : Bool} {a b : State} (h : c = false) : done s (if c = true then a else b) = done s b :=
  congrArg (done s) (if_false h)

set_option smartUnfolding false in
theorem exec_activationInDoubt (s : State) : ∀ a : ShelfAct, s.shelf.act = some a →
    (decide (s.actValue ≠ 1) || decide (s.decision ≠ 0) || decide (s.stroke < a.stroke + longWait)) = false →
    exec .activationInDoubt s = done s ((s.setAct 4).releaseAct.actOutcome a.stroke false) := by
  refine option_some (Q := fun (a : ShelfAct) t => (decide (s.actValue ≠ 1) || decide (s.decision ≠ 0) || decide (s.stroke < a.stroke + longWait)) = false →
    done s t = done s ((s.setAct 4).releaseAct.actOutcome a.stroke false)) fun a => ?_
  exact done_if_false

/-- SHELF_PERSIST_COMPLETE with every member final: no point is open. -/
theorem shelfPersistComplete_endsPoint (s : State) (q : ShelfPoint) (l : List Nat) (hmanager : s.manager = true)
    (hpoint : s.shelf.point = some q) (hmembers : q.members = some l) (hfinal : l.all (fun p => s.pointOwn.pointFinal p) = true) :
    answers .shelfPersistComplete s fun t => t.shelf.point = none ∧ t.rd Reg.SHELF_POINT_NOANS_POS = 0 :=
  have hopen : s.pointOwn.shelf.point = some q := (congrArg Shelf.point (congrArg State.shelf (pointOwn_within s) :) :).trans hpoint
  have hexec : exec .shelfPersistComplete s = done s (s.pointOwn.endShelfPoint []) :=
    (done_if_false (not_false_of hmanager)).trans (congrArg (done s)
      ((congrArg (fun t => t.pointOwn.pointCheck) (shelfPointTick_eq s q hpoint (congrArg Option.isNone hmembers))).trans
        (pointCheck_eq s.pointOwn q hopen l hmembers hfinal)))
  answers_of_after hexec (endShelfPoint_after _) fun _ ht => ⟨congrArg Shelf.point ht.shelf,
    (ht.rd rfl).trans (((setShelf_within (s.pointOwn.wr Reg.SHELF_POINT_NOANS_POS (maskOf [])) _).rd rfl).trans (rd_wr_self ..))⟩

/-- ACTIVATION_DECISION within 16 sync epochs of S: commit (1) or abort (2), which the manager then learns for itself. -/
theorem activationDecision_decides (s : State) (hlink : s.onLink = true) (hmanager : s.manager = true) (hsent : s.shelf.actSent.1 ≠ 0)
    (hd : s.decision = 0) (hdue : s.shelf.actSent.2 ≤ s.stroke + 16384) (hmine : ∀ a, s.shelf.act = some a → a.seq = s.shelf.actSent.1) :
    answers .activationDecision s fun t => t.decision = if s.shelf.actMembers.all (fun p => s.actOf p == 1) then 1 else 2 :=
  answers_of_after (done_if_false (or_false_of (or_false_of (or_false_of (or_false_of (not_false_of hlink) (not_false_of hmanager))
      (decide_eq_false hsent)) (decide_eq_false fun hn => hn hd)) (decide_eq_false (Nat.not_lt.2 hdue))))
    (After.refl _).actCheck fun _ ht =>
      (ht.rd rfl).trans (learn_decision hmine hd (ite_both (P := fun n => n % 4 = n ∧ (0 == n) = false) ⟨rfl, rfl⟩ ⟨rfl, rfl⟩))

/-- ACTIVATION_DECISION earlier than that: nothing but what ends a command. -/
theorem activationDecision_waits (s : State) (hdue : s.stroke + 16384 < s.shelf.actSent.2) :
    answers .activationDecision s fun t => t.decision = s.decision ∧ t.shelf = s.shelf :=
  answers_of_eq_done (congrArg (done s) (if_pos (Bool.or_eq_true_iff.2 (.inr (decide_eq_true hdue)))))
    ⟨ended_rd_apart rfl, (congrArg State.shelf (settle_within s s) :)⟩

/-- COORDINATED_ACTIVATION that is due and loaded: its image and its activation are taken into effect. -/
theorem coordinatedActivation_takesEffect (s : State) (x : ShelfAct) (a : Activation) (hx : s.shelf.act = some x)
    (ha : s.coordAct = some a) (hdue : s.actDue x = true) (hstage : a.stage = .loaded) (hbank : s.fw.oldBank = false) :
    answers .coordinatedActivation s fun t => t.img = a.image ∧ t.fw.act = none ∧ t.actValue = 2 ∧ t.shelf.act = none :=
  answers_of_after (exec_coordinatedActivation hx ha (and_true_of (and_true_of hdue (beq_iff_eq.2 hstage)) (congrArg not hbank)))
    ((After.refl (s.activated x a)).chronicle ..).actCheck fun _ ht =>
      ⟨(congrArg State.img ht.1 :).trans (takeEffect_inEffect s a).img, (congrArg (fun u => u.fw.act) ht.1 :).trans (takeEffect_inEffect s a).act,
        (ht.rd rfl).trans (activated_actValue s x a), congrArg Shelf.act ht.shelf⟩

/-- ACTIVATION_IN_DOUBT 1,024 sync epochs after S: in doubt (4), and the activation dropped. -/
theorem activationInDoubt_reports (s : State) (a : ShelfAct) (ha : s.shelf.act = some a) (hact : s.actValue = 1) (hd : s.decision = 0)
    (hlong : a.stroke + longWait ≤ s.stroke) :
    answers .activationInDoubt s fun t => t.actValue = 4 ∧ t.shelf.act = none ∧ t.img = s.img :=
  answers_of_after (exec_activationInDoubt s a ha (or_false_of (or_false_of (decide_eq_false fun hn => hn hact)
      (decide_eq_false fun hn => hn hd)) (decide_eq_false (Nat.not_lt.2 hlong))))
    ((After.refl (s.setAct 4).releaseAct).chronicle ..) fun _ ht =>
      ⟨(ht.rd rfl).trans (((releaseAct_within (s.setAct 4)).rd rfl).trans (rd_wr_self ..)), congrArg Shelf.act ht.shelf,
        (congrArg State.img ht.1 :).trans (congrArg State.img (releaseAct_within (s.setAct 4)) :)⟩

/-- Settles O33: the end of a point, the decision, a commit and a doubt each write their result, and the records and answers
that follow it are among the parts of `After`. -/
theorem pointsAndActivationsEnd : Obligations.PointsAndActivationsEnd :=
  ⟨shelfPersistComplete_endsPoint, activationDecision_decides, activationDecision_waits, coordinatedActivation_takesEffect,
    activationInDoubt_reports⟩

end Sys2Proof.Machine
end

section
/-! SUPPORT. The AUX supply (R102, R379, R383), and O1. -/

namespace Sys2Proof.Machine

-- One proof at a time: each proof elaborated beside another needs a thread's stack, and the text has a memory limit.
set_option Elab.async false

open Sys2Proof

/-- The straps as AUX_APPLY samples them. -/
noncomputable def State.sampled (s : State) (role : Samples) (pos : BitVec 5) (pf : Bool) (f : FlashReport) : State :=
  let s := { s with pwr := { s.pwr with aux := true } }
  let s := (s.setBit Reg.TOP_STRAPS_SHELF_ROLE role.value).wr Reg.TOP_STRAPS_SHELF_POS pos.toNat
  let s := (s.setBit Reg.SHELF_STATUS_ROLE role.value).wr Reg.SHELF_STATUS_POS pos.toNat
  (s.setBit Reg.PWR_STATUS_PF_PIN pf).setBit Reg.KEEP_STATUS_FLASH_OK (flashUsed f)

/-- The keep as the flash gives it, where it is used. -/
noncomputable def State.keepRead (flash : Bool) (s : State) : State := if flash then s.loadKeep else s

/-- The shelf unit and shelf time as the keep holds them. -/
noncomputable def State.shelfRestored (listens : Bool) (s : State) : State :=
  let seq := (Config.drawn s.free).toNat % 65535 + 1
  let s := s.tick
  let sh := { s.shelf with epoch := s.shelf.keptEpoch, records := s.shelf.keptRecords, listening := listens, seqOut := seq }
  { s with shelf := sh, stroke := roundUp1024 (s.savedTime.getD 0) }

/-- The device with AUX applied, but for the records that follow. -/
noncomputable def State.supplied (s : State) (role : Samples) (pos : BitVec 5) (pf : Bool) (f : FlashReport) : State :=
  ((s.sampled role pos pf f).keepRead (flashUsed f)).shelfRestored role.value

/-- The record of a supply that hung. -/
noncomputable def State.hungNoted (flash : Bool) (s : State) : State :=
  match s.pwr.hungRecord with
  | some r => if flash then ({ s with pwr := { s.pwr with hungRecord := none } }).chronicle 0x0602 0x4D 3 [r] else s
  | none => s

theorem keepRead_after (flash : Bool) (s : State) : After s (s.keepRead flash) :=
  ite_both (P := After s) (Framed.rfl.via (loadKeep_within s) (loadKeep_regs s List.mem_cons_self
    (List.mem_cons_of_mem _ List.mem_cons_self) (by decide)) rfl) .rfl

set_option smartUnfolding false in
theorem hungNoted_after (flash : Bool) (s : State) : After s (s.hungNoted flash) :=
  option_both (P := After s) .rfl fun _ => ite_both (P := After s) (After.chronicle Framed.rfl.set ..) .rfl

theorem sampled_role (s : State) (role : Samples) (pos : BitVec 5) (pf : Bool) (f : FlashReport) :
    (s.sampled role pos pf f).rd Reg.TOP_STRAPS_SHELF_ROLE = if role.value then 1 else 0 :=
  (rd_wr_apart rfl).trans ((rd_wr_apart rfl).trans ((rd_wr_apart rfl).trans ((rd_wr_apart rfl).trans
    ((rd_wr_apart rfl).trans ((rd_wr_self ..).trans (ite_both (P := fun n => n % 2 = n) rfl rfl))))))

theorem sampled_pos (s : State) (role : Samples) (pos : BitVec 5) (pf : Bool) (f : FlashReport) :
    (s.sampled role pos pf f).rd Reg.TOP_STRAPS_SHELF_POS = pos.toNat :=
  (rd_wr_apart rfl).trans ((rd_wr_apart rfl).trans ((rd_wr_apart rfl).trans ((rd_wr_apart rfl).trans
    ((rd_wr_self ..).trans (Nat.mod_eq_of_lt pos.isLt)))))

/-- With no counter configured the end of a command writes no register. -/
theorem ended_regs_of_unconfigured (s u : State) (h : (bwCount s u).telem.cfg = []) : (s.ended u).regs = u.regs :=
  (congrArg State.regs (if_pos (Bool.or_eq_true_iff.2 (.inl (decide_eq_true h))))).trans ((bwCount_within s u).regs rfl)

theorem shelfRestored_rd (listens : Bool) (s : State) (f : Field) : (s.shelfRestored listens).rd f = s.rd f := rfl

/-- AUX_APPLY: the keep is read over the sampled straps, which it leaves. -/
theorem auxApply_samples (s : State) (role : Samples) (a b c : BitVec 5) (pf : Bool) (f : FlashReport) (h : s.pwr.aux = false) :
    answers (.auxApply role a b c pf f) s fun t =>
      t.pwr.aux = true ∧ t.stroke % 1024 = 0
        ∧ t.rd Reg.TOP_STRAPS_SHELF_ROLE = (if role.value then 1 else 0)
        ∧ t.rd Reg.TOP_STRAPS_SHELF_POS = (posValue a b c).toNat
        ∧ t.bit Reg.KEEP_STATUS_FLASH_OK = flashUsed f :=
  answers_of_after (x := s.supplied role (posValue a b c) pf f)
    (u := ((s.supplied role (posValue a b c) pf f).hungNoted (flashUsed f)).flash) (done_if_false h) ((hungNoted_after _ _).flash rfl)
    fun _ ht =>
    ⟨(congrArg (fun u => u.pwr.aux) ht.1).trans
        (congrArg (fun u => u.pwr.aux) (keepRead_after (flashUsed f) (s.sampled role (posValue a b c) pf f)).1),
      (congrArg (fun u => u.stroke % 1024) ht.1).trans (Nat.mul_mod_left ..),
      (ht.rd rfl).trans (((keepRead_after ..).rd rfl).trans (sampled_role ..)),
      (ht.rd rfl).trans (((keepRead_after ..).rd rfl).trans (sampled_pos ..)),
      (bit_congr ((ht.rd rfl).trans ((keepRead_after ..).rd rfl))).trans (bit_setBit_self Nat.one_ne_zero)⟩

/-- AUX_REMOVE: the reset state but for the flash and the medium, and no counter is configured there. -/
theorem auxRemove_resets (s : State) (h : s.pwr.aux = true) :
    answers .auxRemove s fun t =>
      t.pwr.aux = false ∧ t.regs = [] ∧ t.sessions = [] ∧ t.reqs = [] ∧ t.prot.slots = []
        ∧ t.pages = s.pages ∧ t.xlat.checkpoints = s.xlat.checkpoints ∧ t.pending = s.pending :=
  answers_of_eq_done (congrArg (done s) (if_pos h)) ⟨congrArg Pwr.aux (ended_pwr ..),
    ended_regs_of_unconfigured _ _ ((bwCount_within ..).part (fun x => x.telem.cfg) 261 (Eq.refl _) rfl), ended_sessions ..,
    ended_reqs .., congrArg Prot.slots (ended_prot ..), ended_pages .., (congrArg Xlat.checkpoints (ended_xlat s s.removeAux) :), rfl⟩

/-- Settles O1: that the removal of AUX empties the core domain is log entry 83, and a register that no table gives a value
has the reset value of log entry 3. -/
theorem auxSupplyComesAndGoes : Obligations.AuxSupplyComesAndGoes := ⟨auxApply_samples, auxRemove_resets⟩

end Sys2Proof.Machine
end
